-- ==== Sys2Proof/Word.lean ====
section
/-!
DEFINITION. Word.lean: the plain data the whole model is written in: bytes, words and sparse tables.
-/
namespace Sys2Proof

/-- A byte (R5). -/
abbrev Byte := BitVec 8

/-- A 32-bit management word (R456, R458). -/
abbrev Word := BitVec 32

/-- A 64-bit mapper register (R93) and a 64-bit counter (R454). -/
abbrev DWord := BitVec 64

/-- A sparse table: pairs of a number and an entry, the numbers strictly rising.
`Machine/Ops.lean` holds its operations and `Laws/Tbl.lean` their laws. -/
abbrev Tbl (α : Type) := List (Nat × α)

/-- A 4096-byte sector or a tag, as one number: byte i is bits [8i + 7 : 8i].
Only its equality, its bytes and its XOR matter to the model. -/
abbrev Blob := Nat

end Sys2Proof
end

