-- ==== Sys2Proof/Syntax.lean ====
section
/-!
DEFINITION. Syntax.lean: the operands of the commands and the commands themselves, one constructor for each row of
spec/opcode_table.json. The table gives the rows no operands and no bits: every operand is the model's own
(assumption 1), and says what the interface that sends the command, or the world around the block, supplies with it.
-/
namespace Sys2Proof

/-- The interfaces that reach the management space (R464): host ports 0 and 1, SMBus and Wortia firmware. -/
inductive Iface where
  | host0 | host1 | smbus | firmware
deriving DecidableEq, Repr

/-- The hold-up packs (R7). -/
inductive PackId where
  | A | B
deriving DecidableEq, Repr

/-- A drive port, 0 to 47 (R4). -/
abbrev PortId := Fin 48
/-- An array, 0 to 15 (R63). -/
abbrev ArrayId := Fin 16
/-- A DMA channel (R243). -/
abbrev ChId := Fin 256
/-- A DMA window (R257). -/
abbrev WinId := Fin 32
/-- A fan channel (R380). -/
abbrev FanId := Fin 8
/-- A host port (R4). -/
abbrev HostPort := Fin 2
/-- A function index: 64 times the host port plus the function number (R113). -/
abbrev FnIdx := Fin 128
/-- A latency class (R211). -/
abbrev Cls := Fin 4
/-- A Lomwielm port (R9). -/
abbrev LinkId := Fin 4
/-- A stripe-cache slice (R224) and a stack of HBM (R9). -/
abbrev SliceId := Fin 8

/-! ### The stringing image in decoded form (R31 to R39; assumption 10) -/

/-- A section directory entry (R33). -/
structure DirEntry where
  typ : Nat
  version : Nat
  reservedZero : Bool
  offset : Nat
  length : Nat
deriving DecidableEq, Repr

/-- An extent of array LBAs (R85, R129). -/
structure Extent where
  start : Nat
  length : Nat
deriving DecidableEq, Repr

/-- A program object: header, verification record and instruction words (R103), with the defaults of a sound header. `record` holds the
PROGRAM_DIGEST and TABLES_DIGEST that the object carries; the device writes a built-in program's itself (R105, R106). -/
structure ProgObj where
  entryMap : Nat
  flags : Nat
  entrySpare : Nat
  periodStripes : Nat
  periodRows : Nat
  spareSlots : Nat
  maxSteps : Nat
  attest : Nat
  magic : Nat := 0x50465850
  version : Nat := 1
  reservedZero : Bool := true
  record : Option (Nat × Nat) := none
  words : List Word
deriving DecidableEq, Repr

/-- One table of a table object: rows, columns and row-major entries of 16 bits (R104). -/
structure MapTable where
  rows : Nat
  cols : Nat
  entries : List Nat
deriving DecidableEq, Repr

/-- The redundancy policy block of an array entry (R183). -/
structure ArrPolicy where
  slowFactorQ4 : Nat := 64
  slowWindowS : Nat := 60
  slowFailS : Nat := 900
  mediaErrLimit : Nat := 64
  rebuildSharePct : Nat := 50
  scrubSharePct : Nat := 10
  reshapeSharePct : Nat := 25
  flags : Nat := 3
  scrubPeriodDays : Nat := 30
  bowBufferMib : Nat := 4096
  fretGrowPct : Nat := 100
deriving DecidableEq, Repr

/-- An array entry (R34, R62, R63, R66, R183). `members` lists the ports in member-index order; `layout` is 0
conventional, 1 built-in declustered, 2 custom program (R84). -/
structure ArrEntry where
  index : ArrayId
  uuid : Nat
  k : Nat
  layout : Nat
  chunkExp : Nat
  fretExp : Nat
  members : List PortId
  prog : ProgObj
  tables : List MapTable
  policy : ArrPolicy
deriving DecidableEq, Repr

/-- A namespace entry (R129). `unusedZero`: the unused extent entries are all zero. -/
structure NsEntry where
  nsid : Nat
  array : ArrayId
  uuid : Nat
  size : Nat
  keyRef : Nat
  extents : List Extent
  unusedZero : Bool
  attach : Nat
deriving DecidableEq, Repr

/-- Identity: federation fields (R329) and pair block (R306). -/
structure Identity where
  fedUuid : Nat := 0
  nodeId : Nat := 0
  gmPriority : Nat := 128
  flags : Nat := 8
  pairUuid : Nat := 0
  partnerId : Nat := 0
  pairRank : Nat := 0
deriving DecidableEq, Repr

/-- A drive port map entry (R288). -/
structure PortMapEntry where
  mode : Nat
  maxRate : Nat
  spinupGroup : Nat
  flags : Nat
  readTimeoutMs : Nat
  writeTimeoutMs : Nat
  retries : Nat
  removalTimeoutS : Nat
  queueDepth : Nat
  spinupDelayDs : Nat
deriving DecidableEq, Repr

/-- A class entry of Class policies and deadlines (R212). -/
structure ClassEntry where
  weight : Nat
  flags : Nat
  memberDeadlineUs : Nat
deriving DecidableEq, Repr

/-- Class policies and deadlines (R212). -/
structure ClassPolicies where
  c0KcmdLimit : Nat := 5000
  c0BwPct : Nat := 20
  flags : Nat := 1
  c0Outstanding : Nat := 2048
  c0CmdBurst : Nat := 2048
  c0ByteBurstMib : Nat := 16
  classes : List ClassEntry := [⟨0, 1, 2000⟩, ⟨8, 0, 0⟩, ⟨4, 0, 0⟩, ⟨1, 0, 0⟩]
deriving DecidableEq, Repr

/-- Write cache and reserve (R156); `configLimitMib` is absent where the image leaves it at its default H_max. -/
structure WcSection where
  configLimitMib : Option Nat := none
  marginQ8 : Nat := 384
  startPct : Nat := 25
  flags : Nat := 0
  maxAgeMs : Nat := 5000
  clearDelayMs : Nat := 10000
  contextMib : Nat := 1024
  maxUpdates : Nat := 4096
  gatherMs : Nat := 50
  c0HeadroomMib : Nat := 1024
deriving DecidableEq, Repr

/-- A fan profile (R381). -/
structure FanProfile where
  tLowC : Nat := 40
  tHighC : Nat := 85
  pctLow : Nat := 30
  pctHigh : Nat := 100
  steadyCapPct : Nat := 100
deriving DecidableEq, Repr

/-- A fan channel entry (R382). -/
structure FanChannel where
  polePairs : Nat := 4
  flags : Nat := 1
  ratedRpm : Nat := 12000
  minRpm : Nat := 1200
  pwmKhz : Nat := 25
  deadTimeDs : Nat := 50
  iMaxMa : Nat := 3000
  shuntUohm : Nat := 10000
  startRampMs : Nat := 2000
  startCurrentPct : Nat := 60
  handoverPct : Nat := 10
  brakeMaxPct : Nat := 30
  focKpQ12 : Nat := 0
  focKiQ12 : Nat := 0
  dtcFluxBandPct : Nat := 5
  dtcTorqueBandPct : Nat := 10
  advance : List Nat := List.replicate 16 0
  nomRsMohm : Nat := 1
  nomLsUh : Nat := 1
  nomKeUv : Nat := 1
  nomJ : Nat := 1
deriving DecidableEq, Repr

/-- Fan tables and motor parameters (R381). -/
structure FanSection where
  channelsEn : Nat := 0
  activeProfile : Nat := 0
  hotC : Nat := 95
  faultBoostPct : Nat := 25
  pinEn : Nat := 0
  profiles : List FanProfile := List.replicate 16 {}
  channels : List FanChannel := List.replicate 8 {}
deriving DecidableEq, Repr

/-- A pack of the gauge model (R353). -/
structure PackModel where
  chemistry : Nat := 0
  cells : Nat := 1
  effQ8 : Nat := 230
  nominalMah : Nat := 50
  cutoffMvCell : Nat := 3000
  chargeMvCell : Nat := 4100
  shuntUohm : Nat := 2000
  dividerQ16 : Nat := 1048576
  ntcR25Ohm : Nat := 10000
  ntcBetaK : Nat := 3435
  tempMinC : Int := -10
  tempMaxC : Int := 60
  flags : Nat := 0
  rNomMohm : Nat := 1
  ocvMv : List Nat := []
deriving DecidableEq, Repr, Inhabited

/-- Gauge model (R353). -/
structure GaugeModel where
  overheadJ : Nat := 0
  dumpPowerW : Nat := 111
  learnPeriodDays : Nat := 180
  testMaxAgeH : Nat := 168
  initialDeratePct : Nat := 80
  replacePct : Nat := 60
  packA : PackModel := {}
  packB : PackModel := {}
deriving DecidableEq, Repr, Inhabited

/-- A pluck in the format of R340 without the fields the device sets. -/
structure PluckReq where
  t : Nat
  periodS : Nat
  action : Nat
  policy : Nat
  lateWindowS : Nat
  arg : Nat
  staggerSlots : Nat
  staggerStepUs : Nat
deriving DecidableEq, Repr

/-- Default policy and window of one action (R344). -/
structure PluckDefault where
  policy : Nat
  lateWindowS : Nat
deriving DecidableEq, Repr

/-- Pluck defaults (R344). -/
structure PluckSection where
  defaults : List PluckDefault := [⟨2, 0⟩, ⟨1, 0⟩, ⟨3, 3600⟩, ⟨1, 0⟩, ⟨1, 0⟩, ⟨2, 0⟩, ⟨1, 0⟩]
  standing : List PluckReq := []
deriving DecidableEq, Repr

/-- Pair and federation thresholds (R307, R330); `fedPorts` is absent where the image leaves the default. -/
structure Thresholds where
  claimConfirmMs : Nat := 100
  writeFenceMs : Nat := 250
  pairLinkPorts : Nat := 3
  flags : Nat := 3
  selftestCycleMin : Nat := 60
  startupWaitS : Nat := 60
  fedPorts : Option Nat := none
  announceLoss : Nat := 3
  stepThresholdNs : Nat := 10000
  leaveTimeoutMs : Nat := 1000
deriving DecidableEq, Repr

/-- Event recorder mode (R406). -/
structure RecorderSection where
  mode : Nat := 0
  minSeverity : Nat := 1
  nearlyFullPct : Nat := 90
deriving DecidableEq, Repr

/-- A port entry of Host ports (R117). -/
structure HostPortEntry where
  enable : Nat
  clock : Nat
  maxRate : Nat
  maxWidth : Nat
  vfCount : Nat
deriving DecidableEq, Repr

/-- A function entry of Host ports (R117). -/
structure FuncEntry where
  defaultClass : Nat
  queueReserve : Nat
  queueCap : Nat
deriving DecidableEq, Repr

/-- Host ports (R117): two port entries and 128 function entries, an entry not listed being all zero. -/
structure HostSection where
  port0 : HostPortEntry
  port1 : HostPortEntry
  funcs : Tbl FuncEntry
  reservedZero : Bool
deriving DecidableEq, Repr

/-- What the hash and signature hardware finds of the staged bytes (R36 to R38, assumption 9): the SHA-384 of the canonical content and of the
whole image, that of the trailer's public key, and whether the signature verifies under that key. -/
structure ImgFacts where
  canonicalSha : Nat
  imageSha : Nat
  keyHash : Nat
  sigOk : Bool
deriving DecidableEq, Repr

/-- A stringing image in decoded form (R31 to R38); `reservedZero` says that every reserved byte of its sections is zero. The digests and the
signature check are facts about the bytes that the decoded form carries along: `canonicalSha` is the SHA-384 of the canonical content (R38), `imageSha` that of
the whole image, `sigOk` that the signature verifies under the trailer's public key, whose SHA-384 is `keyHash`. -/
structure Image where
  magic : Nat
  formatMajor : Nat
  formatMinor : Nat
  totalLength : Nat
  sectionCount : Nat
  flags : Nat
  sequence : Nat
  buildTime : Nat
  deviceId : Nat
  minHbmStack : Nat
  headerReservedZero : Bool
  canonicalDigest : Nat
  toolVersion : Nat
  dir : List DirEntry
  keySlot : Nat
  keyHash : Nat
  trailerZero : Bool
  sigOk : Bool
  canonicalSha : Nat
  imageSha : Nat
  hostPortsOk : Bool
  identity : Option Identity
  portMap : Option (List PortMapEntry)
  arrays : List ArrEntry
  namespaces : List NsEntry
  classPolicies : Option ClassPolicies
  writeCache : Option WcSection
  fans : Option FanSection
  gauge : Option GaugeModel
  plucks : Option PluckSection
  thresholds : Option Thresholds
  recorder : Option RecorderSection
  hostPorts : Option HostSection
  programs : List (ProgObj × List MapTable) := []
  reservedZero : Bool := true
deriving DecidableEq, Repr

/-- What reading a flash copy or the eMRAM copy gives: nothing programmed or a read error, or an image (R39, R53). -/
inductive CopyRead where
  | readError
  | notAnImage
  | image (i : Image)
deriving DecidableEq, Repr

/-- A valid firmware bank (R438): its version and a number that stands for its signed digest. -/
structure FwBank where
  version : Nat
  digest : Nat
deriving DecidableEq, Repr

/-- What the two firmware banks hold at a Pegbox start (R438): a valid firmware or none. -/
structure FwBanks where
  a : Option FwBank
  b : Option FwBank
deriving DecidableEq, Repr

/-- What a Pegbox start finds of the vault (R366, R368): whether its directory can be read, and the saved sectors of a dump, by NSID and LBA, whose
blocks fail their check and cannot be rebuilt from their stripe. -/
structure VaultFound where
  ok : Bool
  failing : List (Nat × Nat)
deriving DecidableEq, Repr

/-- The memory of a queue to be created (R116, R119): its entries, and whether it is physically contiguous (PC). -/
structure QueueMem where
  size : Nat
  pc : Bool
deriving DecidableEq, Repr

/-- What a Set Features command brings (R114): its value, and the table of Autonomous Power State Transition. -/
structure FeatureGiven where
  value : Nat
  table : List Nat
deriving DecidableEq, Repr

/-- The format that a Format NVM command asks for (R134): LBA format, protection information and its place, metadata settings. -/
structure FormatAsked where
  lbaf : Nat
  pi : Nat
  pil : Nat
  mset : Nat
deriving DecidableEq, Repr

/-- The I/O commands of R114. -/
inductive IoKind where
  | flush | write | read | writeZeroes | dsm | verify | invalid
deriving DecidableEq, Repr

/-- An I/O command as it stands in a submission queue entry: identifier, kind, namespace, ranges (one, but for Dataset
Management), FUA, and the Deallocate attribute of Dataset Management (R114). -/
structure SqEntry where
  cid : Nat
  kind : IoKind
  nsid : Nat
  ranges : List Extent
  fua : Bool
  dealloc : Bool := true
deriving DecidableEq, Repr

/-- Who asked for a mapping: a host command by its tag index, a background operation on the array, or a test mapping
(R100, R109, R192). -/
inductive MapOwner where
  | host (tag : Nat)
  | background
  | test
deriving DecidableEq, Repr

/-- A mapping (R92): array, epoch slot (previous or not), entry (spare or map), s or p, u or i, class, how often it has
been preempted, and whose it is. -/
structure MapReq where
  array : ArrayId
  previous : Bool
  spare : Bool
  input : Nat
  unit : Nat
  cls : Nat
  preempted : Nat
  owner : MapOwner
deriving DecidableEq, Repr

/-- States of a member index (R84, R178). -/
inductive MemState where
  | absent | active | failed | rebuilding
deriving DecidableEq, Repr

/-- What a label says of one member index (R84): MEMBER_UUID, state, REBUILT_TO; and the cause of the state change (R186), 0 without one, for
which the table gives no bytes. -/
structure LabelMember where
  uuid : Nat
  state : MemState
  rebuiltTo : Nat
  cause : Nat
deriving DecidableEq, Repr

/-- An object of a label (R84): its OBJECT_DIR entry, with whether the entry's reserved bytes are zero, and its bytes. -/
structure LabelObj where
  kind : Nat
  offset : Nat
  reservedZero : Bool
  bytes : List Nat
deriving DecidableEq, Repr

/-- One copy of a drive's label, field by field (R84), and its objects. `prev` is PREV_GEOMETRY: N, K, LAYOUT, CHUNK_EXP, LAYOUT_EPOCH,
PERIOD_ROWS, PERIOD_STRIPES. -/
structure Label where
  magic : Nat
  version : Nat
  copy : Nat
  seq : Nat
  writtenAt : Nat
  arrayUuid : Nat
  memberUuid : Nat
  memberIndex : Nat
  n : Nat
  k : Nat
  layout : Nat
  chunkExp : Nat
  fretExp : Nat
  arrayState : Nat
  dataSectors : Nat
  stripeCount : Nat
  epoch : Nat
  periodRows : Nat
  periodStripes : Nat
  len : Nat
  initWatermark : Nat
  bowHint : Nat
  prev : List Nat
  programDigest : Nat
  prevProgramDigest : Nat
  members : List LabelMember
  objects : List LabelObj
  crc : Nat
deriving DecidableEq, Repr

/-- What identification of a drive found (R73, R287, R297): whether it answered in the port's protocol, its block size, metadata bytes and
protection information, whether it has the features that its protocol needs (NCQ and FUA on SATA), the values of R303 and R304, and its label
copies 0 to 3 as read, none where a copy cannot be read (R87). -/
structure DriveInfo where
  answers : Bool
  blockSize : Nat
  metadata : Nat
  protection : Bool
  features : Bool
  serial : Nat
  capacity : Nat
  rate : Nat
  width : Nat
  dual : Bool
  labels : List (Option Label)
deriving DecidableEq, Repr

/-- How a member command ended at the drive (R292): completed, media error, write fault, malformed or unexpected, or a
health report with something critical (R302). -/
inductive McResult where
  | ok
  | media (status : Nat)
  | writeFault (status : Nat)
  | protocol (status : Nat)
  | critical
deriving DecidableEq, Repr

/-- What a cached or stored data sector holds: nothing (an empty sector, R78), a ciphertext with its NONCE_CTX,
NONCE_CTR and GCM tag (R77, R83), or the LOST marker (R78). -/
inductive CSec where
  | empty
  | data (ct : Blob) (ctx ctr gcm : Nat)
  | lost
deriving DecidableEq, Repr

/-- A sector a stripe update writes: namespace and LBA of the cached sector (namespace 0 for a sector that becomes LOST under
R496 and has no cached copy), unit, sector within the unit, content. -/
structure UpdSector where
  nsid : Nat
  lba : Nat
  unit : Nat
  row : Nat
  sec : CSec
deriving DecidableEq, Repr

/-- One unit of one row as a stripe update knows it: row, unit, the 4,096 data bytes with the 28 protected tag bytes above
them (R71), and the generation. -/
structure RowUnit where
  row : Nat
  unit : Nat
  full : Blob
  gen : Nat
deriving DecidableEq, Repr

/-- A stripe update in flight (R159): array, stripe, whether in the previous epoch, rows, sectors written, step reached (2
reading, 3 computed, 5 setting fret bits, 6 writing data, 7 writing parity), the old copies read (the update context), class
(R495), whether the partner's acknowledgement of step 4 or 5 is awaited, P and Q of each row with the row's new generation
G', and the rows handled as lost (R496). -/
structure Update where
  id : Nat
  array : ArrayId
  stripe : Nat
  previous : Bool
  rows : List Nat
  sectors : List UpdSector
  step : Nat
  read : List RowUnit
  cls : Nat
  partnerWait : Bool
  pq : List RowUnit
  lostRows : List Nat
deriving DecidableEq, Repr

/-! ### What other devices and blocks send -/

/-- An item that the active mirrors to the standby (R318): a placed sector with its placement sequence and whether its
CRC-64 is right on receipt, an update context, a fret-map set or clear by bit, a nonce mark, a dirty-namespace bit, a
deferred error (NSID, cause, SLBA, NLB), a lost row (array, epoch, stripe, row, units, cause), a source or displaced copy of the bow buffer
by array LBA, a checkpoint, and a completed stripe update. -/
inductive MirrorItem where
  | sector (nsid lba : Nat) (sec : CSec) (cls seq : Nat) (crcOk : Bool)
  | context (u : Update)
  | fretSet (bit : Nat)
  | fretClear (bit : Nat)
  | nonceMark (nsid mark : Nat)
  | dirtyNs (nsid : Nat)
  | deferred (nsid cause slba nlb : Nat)
  | lost (a : ArrayId) (epoch stripe row mask cause : Nat)
  | bowSource (a : ArrayId) (lba : Nat) (sec : CSec)
  | bowDisplaced (a : ArrayId) (lba : Nat) (sec : CSec)
  | checkpoint (a : ArrayId) (c : Nat)
  | updateDone (id : Nat) (sectors : List (Nat × Nat × Nat))
deriving DecidableEq, Repr

/-- A health word of the partner (R316). -/
structure Health where
  seq : Nat
  role : Nat
  flags : Nat
  limitMib : Nat
  epoch : Nat
  cause : Nat
  stFail : Nat
  power : Nat
deriving DecidableEq, Repr

/-- Classes of CAPO_SEEN (R310). -/
inductive SeenClass where
  | active | consent | released | stuckLow | stuckHigh | invalid
deriving DecidableEq, Repr

/-- A hello of a federation link (R332). -/
structure Hello where
  uuid : Nat
  node : Nat
  device : Nat
deriving DecidableEq, Repr

/-- An announcement of a candidate grandmaster (R336): node, clock class, priority, hops away. -/
structure Announce where
  node : Nat
  cls : Nat
  priority : Nat
  depth : Nat
deriving DecidableEq, Repr

/-- A pluck as it is distributed (R340). -/
structure PluckMsg where
  req : PluckReq
  origin : Nat
  id : Nat
deriving DecidableEq, Repr

/-- What a member answers to a distributed pluck (R342). -/
inductive PluckAnswer where
  | ack | full | late
deriving DecidableEq, Repr

/-- Measured values of one pack (R351): mV, mA (positive discharging), 0.1 °C, NTC reading below 500 kΩ, and the charge in
mC that the coulomb counter counted since the last sample. -/
structure PackSample where
  mv : Nat
  ma : Int
  deciC : Int
  ntcOk : Bool
  mC : Int
deriving DecidableEq, Repr

/-- Signing-key statements of R37: what an enrolment or a revocation names, and the slot whose key signed it. -/
structure KeyStatement where
  slot : Nat
  hash : Nat
  signer : Nat
  sigOk : Bool
deriving DecidableEq, Repr

/-- The plaintext of a key blob's payload (R270). -/
structure BlobPlain where
  ref : Nat
  ownerGen : Nat
  flags : Nat
  key : Nat
  zero : Nat
deriving DecidableEq, Repr

/-- Where a cache memory error lies (R240). -/
inductive EccPlace where
  | dataWord (line : Nat)
  | tagSet (set : Nat)
  | evictLine (line : Nat)
  | mergeEntry (line : Nat)
  | sliceLine (line : Nat)
deriving DecidableEq, Repr

/-- What a back-EMF listen finds (R390): speed in rpm and whether it is backward. -/
structure RotorSpeed where
  rpm : Nat
  reverse : Bool
deriving DecidableEq, Repr

/-- The recoverable errors of R443 and R447. `dirtySector` names namespace and LBA. -/
inductive RecErr where
  | cleanLine
  | dirtySector (nsid lba : Nat)
  | mergeBuffer
  | emramLate
  | linkReplay
  | pqSlice (slice : Nat)
deriving DecidableEq, Repr

/-- A PWM period of a fan channel that is driven, as the world gives it (R386, R389): the observer's flux angle in 0.0005°, the natural
lengths of its two sampling windows in ns, and in the boost class whether its decision interval holds a zero vector. -/
structure PwmPeriod where
  flux : Nat
  w1 : Nat
  w2 : Nat
  zero : Bool
deriving DecidableEq, Repr

/-- A fan channel and the PWM periods that it has been driven since its last command (R386). -/
structure FanRun where
  fan : FanId
  run : List PwmPeriod
deriving DecidableEq, Repr

/-- What resets a function (R137): an FLR, CC.EN cleared, a Controller Reset via NSSR. -/
inductive ResetKind where
  | flr | ccClear | nssr
deriving DecidableEq, Repr

/-- What a partner says of itself when the pair link comes up (R323). -/
structure Partner where
  device : Nat
  pairUuid : Nat
  rank : Nat
  epoch : Nat
  complete : Bool
deriving DecidableEq, Repr

/-- The commands: one constructor for each row of spec/opcode_table.json, in the table's order.
Each line gives the row's mnemonic and rule; the operands are the model's own (assumption 1). -/
inductive Instr where
  /-- AC_FAIL_N_ASSERT (R16). -/
  | acFailNAssert
  /-- AC_FAIL_N_DEASSERT (R481). -/
  | acFailNDeassert
  /-- DUMP_COMMIT (R164). -/
  | dumpCommit
  /-- PACK_CUTOFF (R355). -/
  | packCutoff (pack : PackId) (temp : Bool)
  /-- PACK_TEMP_RECOVER (R355). -/
  | packTempRecover (pack : PackId)
  /-- AON_RST_N_ASSERT (R433). -/
  | aonRstNAssert
  /-- PEGBOX_START (R437). -/
  | pegboxStart (fw : FwBanks) (vault : VaultFound) (rateMbps areaMib targets blockMib : Nat) (sampleA sampleB : PackSample)
  /-- PEGBOX_WATCHDOG_RESET (R18). -/
  | pegboxWatchdogReset
  /-- SYS_RST_N_ASSERT (R434). -/
  | sysRstNAssert
  /-- SYS_RST_N_RELEASE (R435). -/
  | sysRstNRelease
  /-- FAST_BOOT_START (R439). -/
  | fastBootStart
  /-- BOOT_HANDOVER (R439). -/
  | bootHandover
  /-- HOST_LINK_READY (R439). -/
  | hostLinkReady
  /-- IMAGE_COPY_REWRITE (R42). -/
  | imageCopyRewrite (copy : Fin 3) (ok : Bool)
  /-- PLL_LOCK (R424). -/
  | pllLock (pll : Nat)
  /-- PLL_LOCK_TIMEOUT (R424). -/
  | pllLockTimeout (pll : Nat)
  /-- RAIL_OUT_OF_RANGE (R422). -/
  | railOutOfRange
  /-- RAIL_RECOVERED (R422). -/
  | railRecovered
  /-- OPEN (R46). -/
  | stageOpen (iface : Iface)
  /-- STAGE_VERIFY (R46). -/
  | stageVerify (iface : Iface) (facts : ImgFacts)
  /-- COMMIT (R46). -/
  | stageCommit (iface : Iface)
  /-- ACTIVATE_LIVE (R48). -/
  | activateLive (iface : Iface)
  /-- ACTIVATE_RESET (R48). -/
  | activateReset (iface : Iface)
  /-- ACTIVATE_RESET_DESTAGED (R48). -/
  | activateResetDestaged
  /-- STAGE_ABORT (R46). -/
  | stageAbort (iface : Iface)
  /-- SELECT_COPY_A (R44). -/
  | selectCopyA (iface : Iface)
  /-- SELECT_COPY_B (R44). -/
  | selectCopyB (iface : Iface)
  /-- KEY_ENROL (R37). -/
  | signingKeyEnrol (iface : Iface) (st : KeyStatement)
  /-- KEY_REVOKE (R37). -/
  | signingKeyRevoke (iface : Iface) (st : KeyStatement)
  /-- RESTORE_FACTORY (R59). -/
  | restoreFactory
  /-- RESTORE_PREVIOUS (R59). -/
  | restorePrevious
  /-- FACTORY_COMMIT (R58). -/
  | factoryCommit
  /-- BACKGROUND_INIT_GROUP (R82). -/
  | backgroundInitGroup (a : ArrayId)
  /-- MAPPING_DISPATCH (R101). -/
  | mappingDispatch (req : MapReq)
  /-- MAPPING_EMIT (R99). -/
  | mappingEmit (lane : Fin 64)
  /-- MAPPING_STEP_LIMIT (R98). -/
  | mappingStepLimit (lane : Fin 64)
  /-- TEST_MAPPING_GO (R109). -/
  | testMappingGo
  /-- DOORBELL_WRITE (R120). -/
  | doorbellWrite (fn : FnIdx) (sq tail : Nat)
  /-- CQ_HEAD_DOORBELL (R140). -/
  | cqHeadDoorbell (fn : FnIdx) (cq head : Nat)
  /-- FETCH_GRANT (R125). -/
  | fetchGrant (fn : FnIdx) (sq : Nat) (entries : List SqEntry)
  /-- RANGE_LOCK_GRANT (R128). -/
  | rangeLockGrant (tag : Nat)
  /-- CREATE_IO_SQ (R119). -/
  | createIoSq (fn : FnIdx) (cid qid : Nat) (mem : QueueMem) (cqid : Nat)
  /-- CREATE_IO_CQ (R119). -/
  | createIoCq (fn : FnIdx) (cid qid : Nat) (mem : QueueMem) (vector : Nat) (ien : Bool)
  /-- DELETE_IO_SQ (R119). -/
  | deleteIoSq (fn : FnIdx) (cid qid : Nat)
  /-- DELETE_IO_CQ (R119). -/
  | deleteIoCq (fn : FnIdx) (cid qid : Nat)
  /-- GET_LOG_PAGE (R144). -/
  | getLogPage (fn : FnIdx) (cid lid lsp length : Nat)
  /-- IDENTIFY (R116). -/
  | identify (fn : FnIdx) (cid cns nsid : Nat)
  /-- ABORT (R126). -/
  | abortCommand (fn : FnIdx) (cid sqid target : Nat)
  /-- SET_FEATURES_NUMBER_OF_QUEUES (R118). -/
  | setFeaturesNumberOfQueues (fn : FnIdx) (cid nsq ncq : Nat)
  /-- SET_FEATURES_POWER_MANAGEMENT (R141). -/
  | setFeaturesPowerManagement (fn : FnIdx) (cid ps : Nat)
  /-- SET_FEATURES_QUEUE_CLASS (R124). -/
  | setFeaturesQueueClass (fn : FnIdx) (cid sqid cls : Nat)
  /-- SET_FEATURES_PROTECTION_WINDOW (R131). -/
  | setFeaturesProtectionWindow (fn : FnIdx) (cid nsid index start count flags token : Nat)
  /-- SET_FEATURES_ARBITRATION (R124). -/
  | setFeaturesArbitration (fn : FnIdx) (cid value : Nat)
  /-- SET_FEATURES (R114). -/
  | setFeaturesOther (fn : FnIdx) (cid fid : Nat) (given : FeatureGiven)
  /-- GET_FEATURES (R114). -/
  | getFeatures (fn : FnIdx) (cid fid arg : Nat)
  /-- ASYNCHRONOUS_EVENT_REQUEST (R114). -/
  | asynchronousEventRequest (fn : FnIdx) (cid : Nat)
  /-- FORMAT_NVM (R134). -/
  | formatNvm (fn : FnIdx) (cid nsid ses : Nat) (fmt : FormatAsked)
  /-- SANITIZE_OVERWRITE (R135). -/
  | sanitizeOverwrite (fn : FnIdx) (cid pattern passes : Nat) (invert : Bool)
  /-- SANITIZE_CRYPTO_ERASE (R135). -/
  | sanitizeCryptoErase (fn : FnIdx) (cid : Nat)
  /-- SANITIZE (R135). -/
  | sanitizeOther (fn : FnIdx) (cid sanact : Nat)
  /-- INVALID_OPCODE_COMMAND (R114). -/
  | invalidOpcodeCommand (fn : FnIdx) (sq cid : Nat)
  /-- FORMAT_WATERMARK_SAVE (R136). -/
  | formatWatermarkSave (nsid : Nat)
  /-- FORMAT_END (R134). -/
  | formatEnd (nsid : Nat)
  /-- SANITIZE_END (R135). -/
  | sanitizeEnd
  /-- FLUSH (R115). -/
  | nvmeFlush (tag : Nat)
  /-- WRITE (R147). -/
  | nvmeWrite (tag : Nat) (plain : List Blob)
  /-- READ (R267). -/
  | nvmeRead (tag : Nat)
  /-- WRITE_ZEROES (R114). -/
  | writeZeroes (tag : Nat)
  /-- DATASET_MANAGEMENT (R114). -/
  | datasetManagement (tag : Nat)
  /-- VERIFY (R268). -/
  | nvmeVerify (tag : Nat)
  /-- CC_ENABLE (R119). -/
  | ccEnable (fn : FnIdx) (asqs acqs : Nat)
  /-- FUNCTION_RESET (R137). -/
  | functionReset (fn : FnIdx) (kind : ResetKind)
  /-- FUNCTION_RESET_COMPLETE (R138). -/
  | functionResetComplete (fn : FnIdx)
  /-- PERST_N_ASSERT (R112). -/
  | perstNAssert (hp : HostPort)
  /-- PERST_N_RELEASE (R112). -/
  | perstNRelease (hp : HostPort)
  /-- MEMBER_COMPLETION (R123). -/
  | memberCompletion (port : PortId) (slot : Nat) (res : McResult)
  /-- COMPLETION_POST (R139). -/
  | completionPost (hp : HostPort)
  /-- WRITE_PLACED (R147). -/
  | writePlaced (tag : Nat)
  /-- DIRTY_LIMIT_ADMIT (R152). -/
  | dirtyLimitAdmit
  /-- DIRTY_LIMIT_RECOMPUTE (R152). -/
  | dirtyLimitRecompute
  /-- DIRTY_NAMESPACE_SET_ACK (R172). -/
  | dirtyNamespaceSetAck (nsid : Nat)
  /-- DIRTY_NAMESPACE_CLEAR (R172). -/
  | dirtyNamespaceClear (nsid : Nat)
  /-- MIRROR_ACK (R318). -/
  | mirrorAck
  /-- MIRROR_LOST (R148). -/
  | mirrorLost
  /-- STRIPE_UPDATE_START (R157). -/
  | stripeUpdateStart (a : ArrayId) (stripe : Nat)
  /-- DIRTY_AGE_EXPIRY (R157). -/
  | dirtyAgeExpiry (nsid lba : Nat)
  /-- GATHER_EXPIRY (R157). -/
  | gatherExpiry (a : ArrayId) (stripe : Nat)
  /-- STRIPE_UPDATE_READS_DONE (R159). -/
  | stripeUpdateReadsDone (id : Nat)
  /-- STRIPE_UPDATE_CONTEXT_SAVED (R159). -/
  | stripeUpdateContextSaved (id : Nat)
  /-- FRET_SET_ACK (R161). -/
  | fretSetAck (id : Nat)
  /-- DATA_WRITES_DONE (R159). -/
  | dataWritesDone (id : Nat)
  /-- PARITY_WRITES_DONE (R159). -/
  | parityWritesDone (id : Nat)
  /-- FRET_CLEAR (R161). -/
  | fretClear (bit : Nat)
  /-- FRET_CLEAR_ACK (R161). -/
  | fretClearAck (bit : Nat)
  /-- DESTAGE_ALL (R174). -/
  | wcDestageAll
  /-- CLEAR_IDLE (R174). -/
  | wcClearIdle
  /-- DUMP_RETIRE (R166). -/
  | dumpRetire (area : Fin 2)
  /-- AREA_ERASE_DONE (R369). -/
  | areaEraseDone (area : Fin 2)
  /-- VAULT_REPLAY_START (R167). -/
  | vaultReplayStart
  /-- VAULT_REPLAY_COMPLETE (R167). -/
  | vaultReplayComplete
  /-- RESHAPE_UNCLEAN_RERUN (R207). -/
  | reshapeUncleanRerun (a : ArrayId)
  /-- RESYNC_SCAN_STEP (R170). -/
  | resyncScanStep (a : ArrayId)
  /-- KAT_RUN (R210). -/
  | katRun
  /-- KAT_PERIODIC (R177). -/
  | katPeriodic
  /-- KAT_RESULT (R177). -/
  | katResult (slice : Fin 4) (pass : Bool)
  /-- SLOW_WINDOW_EVAL (R185). -/
  | slowWindowEval (a : ArrayId) (m median reads : Nat)
  /-- SLOW_FAIL_EXPIRY (R186). -/
  | slowFailExpiry (a : ArrayId) (m : Nat)
  /-- REBUILD_STRIPE (R189). -/
  | rebuildStripe (a : ArrayId)
  /-- COPYBACK_UNIT (R193). -/
  | copybackUnit (a : ArrayId)
  /-- SCRUB_PERIOD_START (R198). -/
  | scrubPeriodStart (a : ArrayId)
  /-- SCRUB_STRIPE (R199). -/
  | scrubStripe (a : ArrayId)
  /-- RESHAPE_STEP (R203). -/
  | reshapeStep (a : ArrayId)
  /-- SCRUB_NOW (R210). -/
  | arrScrubNow (a : ArrayId)
  /-- PAUSE (R210). -/
  | arrPause (a : ArrayId)
  /-- RESUME (R210). -/
  | arrResume (a : ArrayId)
  /-- FAIL_MEMBER (R186). -/
  | arrFailMember (a : ArrayId) (m : Nat)
  /-- COPYBACK (R193). -/
  | arrCopyback (a : ArrayId)
  /-- MEMBER_DEADLINE (R214). -/
  | memberDeadline (port : PortId) (slot : Nat)
  /-- HIST_CLEAR (R223). -/
  | histClear
  /-- LAT_C0_ISSUE_MAX_READ (R223). -/
  | latC0IssueMaxRead
  /-- LAT_C0_POST_MAX_READ (R223). -/
  | latC0PostMaxRead
  /-- HFE_COLLECT_MAX_READ (R146). -/
  | hfeCollectMaxRead (hp : HostPort)
  /-- ERR_DEPTH_MAX_READ (R453). -/
  | errDepthMaxRead
  /-- PAIR_LO_READ (R464). -/
  | pairLoRead (iface : Iface) (addr : Nat)
  /-- PAIR_LO_WRITE (R465). -/
  | pairLoWrite (iface : Iface) (addr value : Nat)
  /-- PAIR_HI_WRITE (R465). -/
  | pairHiWrite (iface : Iface) (addr value : Nat)
  /-- GROUP_WORD0_READ (R466). -/
  | groupWord0Read (iface : Iface) (addr : Nat)
  /-- REGISTER_WRITE (R6). -/
  | registerWrite (iface : Iface) (addr value : Nat)
  /-- SC_READ_REQUEST (R229). -/
  | scReadRequest (req : Fin 8) (line word : Nat)
  /-- SC_FILL_RETURN (R229). -/
  | scFillReturn (line : Nat) (ok : Bool)
  /-- SC_WRITE_REQUEST (R227). -/
  | scWriteRequest (req : Fin 8) (line mask : Nat) (data : Blob)
  /-- MERGE_BUFFER_DRAIN (R227). -/
  | mergeBufferDrain (line : Nat)
  /-- HBM_WRITE_ACK (R228). -/
  | hbmWriteAck (line : Nat)
  /-- EVICTION_BUFFER_EXPIRY (R231). -/
  | evictionBufferExpiry (slice : SliceId)
  /-- OWNERSHIP_REQUEST (R238). -/
  | ownershipRequest (pqs : List (Fin 4)) (line : Nat)
  /-- RECALL_WRITE_BACK (R237). -/
  | recallWriteBack (line : Nat) (data : Blob)
  /-- RETRY_REISSUE (R238). -/
  | retryReissue (pq : Fin 4) (line : Nat)
  /-- SC_MAINT_CLEAN (R234). -/
  | scMaintClean (byWay : Bool)
  /-- SC_MAINT_INVALIDATE (R234). -/
  | scMaintInvalidate (byWay : Bool)
  /-- SC_MAINT_CLEAN_INVALIDATE (R234). -/
  | scMaintCleanInvalidate (byWay : Bool)
  /-- SC_RANGE_CLEAN (R235). -/
  | scRangeClean
  /-- SC_RANGE_INVALIDATE (R235). -/
  | scRangeInvalidate
  /-- SC_RANGE_CLEAN_INVALIDATE (R235). -/
  | scRangeCleanInvalidate
  /-- PRELOAD (R232). -/
  | scPreload
  /-- INVALIDATE_WAYS (R235). -/
  | scInvalidateWays
  /-- SC_RANGE_DONE (R235). -/
  | scRangeDone
  /-- SC_MAINT_DONE (R234). -/
  | scMaintDone
  /-- SC_LOCK_WRITE (R232). -/
  | scLockWrite (ways : Nat)
  /-- EVICT_PATH_SWITCH (R231). -/
  | evictPathSwitch (path : Bool)
  /-- SC_INIT_DONE (R239). -/
  | scInitDone
  /-- SC_ECC_ERROR (R240). -/
  | scEccError (place : EccPlace) (corrected : Bool)
  /-- DMA_START (R251). -/
  | dmaStart (iface : Iface) (ch : ChId)
  /-- DMA_TIMER (R251). -/
  | dmaTimer (ch : ChId)
  /-- DMA_DESC_FETCH (R248). -/
  | dmaDescFetch (ch : ChId) (bytes : List Nat)
  /-- DMA_GRANT (R249). -/
  | dmaGrant (ch : ChId) (src : List Nat)
  /-- DMA_READ_BACK (R254). -/
  | dmaReadBack (ch : ChId) (ok : Bool)
  /-- DMA_BUS_ERROR (R255). -/
  | dmaBusError (ch : ChId) (dest : Bool) (confirmed : Nat)
  /-- DMA_HALT (R256). -/
  | dmaHalt (ch : ChId) (code : Nat)
  /-- DMA_DISABLE (R258). -/
  | dmaDisable (iface : Iface) (ch : ChId)
  /-- DMA_WIN_ENABLE (R257). -/
  | dmaWinEnable (iface : Iface) (win : WinId) (ctrl : Nat)
  /-- SET_OWNER (R269). -/
  | keySetOwner
  /-- LOAD_BLOB (R272). -/
  | keyLoadBlob (plain : BlobPlain)
  /-- UNLOAD (R284). -/
  | keyUnload
  /-- ZEROIZE_ALL (R284). -/
  | keyZeroizeAll
  /-- TRNG_RESTART (R279). -/
  | trngRestart
  /-- TAMPER_RELEASE (R282). -/
  | tamperRelease (iface : Iface) (active : Nat)
  /-- TAMPER_CFG_LOCK (R284). -/
  | tamperCfgLock (value : Nat)
  /-- CIPHER_MESSAGE_START (R265). -/
  | cipherMessageStart (pick : Cls) (remaining : List Nat)
  /-- CIPHER_MESSAGE_DONE (R267). -/
  | cipherMessageDone (pipe : Fin 16)
  /-- NONCE_MARK_ACK (R275). -/
  | nonceMarkAck (nsid : Nat)
  /-- TRNG_STARTUP_DONE (R278). -/
  | trngStartupDone (ok : Bool)
  /-- TRNG_BLOCK_READY (R278). -/
  | trngBlockReady
  /-- TRNG_HEALTH_FAIL (R279). -/
  | trngHealthFail (apt : Bool)
  /-- ENTROPY_TIMEOUT (R278). -/
  | entropyTimeout (tag : Nat)
  /-- TAMPER_TRIP (R281). -/
  | tamperTrip (src : Fin 8) (active : Nat)
  /-- DRIVE_PRESENT (R297). -/
  | drivePresent (port : PortId)
  /-- DRIVE_IDENTIFIED (R297). -/
  | driveIdentified (port : PortId) (d : DriveInfo)
  /-- DRIVE_LINK_LOSS (R295). -/
  | driveLinkLoss (port : PortId) (gone : Bool)
  /-- REMOVAL_TIMEOUT (R295). -/
  | removalTimeout (port : PortId)
  /-- SPINUP_DELAY_EXPIRY (R299). -/
  | spinupDelayExpiry (port : PortId)
  /-- SPINUP_PLUCK_TIMEOUT (R299). -/
  | spinupPluckTimeout (port : PortId)
  /-- SPINUP_WAIT_EXPIRY (R299). -/
  | spinupWaitExpiry (port : PortId)
  /-- MEMBER_COMMAND_ISSUE (R290). -/
  | memberCommandIssue (port : PortId) (pick : Cls)
  /-- MEMBER_TIMEOUT (R292). -/
  | memberTimeout (port : PortId) (slot : Nat)
  /-- ESCALATION_STEP_DONE (R293). -/
  | escalationStepDone (port : PortId)
  /-- ESCALATION_STEP_TIMEOUT (R293). -/
  | escalationStepTimeout (port : PortId)
  /-- HEALTH_POLL (R302). -/
  | healthPoll (port : PortId)
  /-- RESET_LINK (R304). -/
  | portResetLink (port : PortId)
  /-- POWER_CYCLE (R304). -/
  | portPowerCycle (port : PortId)
  /-- ACCEPT (R304). -/
  | portAccept (port : PortId)
  /-- PORT_RELEASE (R304). -/
  | portRelease (port : PortId)
  /-- SPINUP_NOW (R299). -/
  | portSpinupNow (port : PortId)
  /-- CAPO_SEEN_CLASS (R310). -/
  | capoSeenClass (c : SeenClass)
  /-- READBACK_CHECK (R310). -/
  | readbackCheck (same : Bool)
  /-- GATE_OPEN (R311). -/
  | gateOpen
  /-- CAPO_RENEW (R312). -/
  | capoRenew (iface : Iface)
  /-- RENEW_EXPIRY (R312). -/
  | renewExpiry
  /-- CONTENTION_TIMEOUT (R313). -/
  | contentionTimeout
  /-- CONTENTION_BACKOFF_EXPIRY (R313). -/
  | contentionBackoffExpiry
  /-- CLAIM (R328). -/
  | capoClaim
  /-- CAPO_RELEASE (R315). -/
  | capoRelease
  /-- RELEASE_COMPLETE (R315). -/
  | releaseComplete
  /-- CAPO_CLEAR_FAULT (R314). -/
  | capoClearFault
  /-- FORCE_CLAIM (R324). -/
  | capoForceClaim (iface : Iface)
  /-- SELFTEST_NOW (R321). -/
  | selftestNow (failed : Nat)
  /-- SELFTEST_CYCLE (R321). -/
  | selftestCycle (failed : Nat)
  /-- HEALTH_WORD_SEND (R316). -/
  | healthWordSend
  /-- HEALTH_WORD_RECEIVE (R316). -/
  | healthWordReceive (h : Health)
  /-- MIRROR_ITEM_RECEIVE (R318). -/
  | mirrorItemReceive (item : MirrorItem)
  /-- MIRROR_DIGEST_CHECK (R319). -/
  | mirrorDigestCheck (differ : List MirrorItem)
  /-- MIRROR_SYNC_COMPLETE (R320). -/
  | mirrorSyncComplete
  /-- STANDBY_MIRROR_SILENCE (R320). -/
  | standbyMirrorSilence
  /-- PAIR_ROLE_CHOICE (R323). -/
  | pairRoleChoice (partner : Option Partner)
  /-- STARTUP_WAIT_EXPIRY (R323). -/
  | startupWaitExpiry
  /-- TAKEOVER (R325). -/
  | takeover
  /-- WRITE_FENCE_END (R325). -/
  | writeFenceEnd
  /-- HELLO_RECEIVE (R332). -/
  | helloReceive (link : LinkId) (h : Hello)
  /-- HELLO_RETRY (R332). -/
  | helloRetry
  /-- MEMBER_LEAVE_TIMEOUT (R333). -/
  | memberLeaveTimeout (node : Nat)
  /-- GM_ANNOUNCE (R336). -/
  | gmAnnounce
  /-- GM_ELECTION (R336). -/
  | gmElection (cands : List Announce)
  /-- SYNC_EXCHANGE (R337). -/
  | syncExchange (offset : Int) (delay : Nat) (link : LinkId)
  /-- PIT_SET (R338). -/
  | pitSet
  /-- SET_AT_PPS (R338). -/
  | pitSetAtPps
  /-- SET_UTC (R334). -/
  | pitSetUtc
  /-- RESYNC (R348). -/
  | pitResync
  /-- PPS_IN_EDGE (R480). -/
  | ppsInEdge
  /-- PPS_IN_LOSS (R480). -/
  | ppsInLoss
  /-- PPS_OUT_SECOND (R338). -/
  | ppsOutSecond
  /-- PLUCK_WRITE (R342). -/
  | pluckWrite
  /-- WRITE_FED (R342). -/
  | pluckWriteFed
  /-- PLUCK_CANCEL (R348). -/
  | pluckCancel
  /-- CANCEL_FED (R342). -/
  | pluckCancelFed
  /-- PLUCK_RECEIVE (R342). -/
  | pluckReceive (m : PluckMsg)
  /-- PLUCK_ANSWER_RECEIVE (R342). -/
  | pluckAnswerReceive (ans : PluckAnswer)
  /-- PLUCK_DIST_TIMEOUT (R342). -/
  | pluckDistTimeout
  /-- PLUCK_CANCEL_RECEIVE (R342). -/
  | pluckCancelReceive (origin id : Nat)
  /-- PLUCK_FIRE (R341). -/
  | pluckFire (index : Fin 256)
  /-- PLUCK_EARLY_WAKE (R346). -/
  | pluckEarlyWake (index : Fin 256)
  /-- WRITE_BARRIER_DONE (R345). -/
  | writeBarrierDone (index : Fin 256)
  /-- GAUGE_ENERGY_COMPUTE (R354). -/
  | gaugeEnergyCompute (sampleA sampleB : PackSample)
  /-- PACK_REMOVED (R352). -/
  | packRemoved (pack : PackId)
  /-- PACK_PRESENT (R352). -/
  | packPresent (pack : PackId)
  /-- HOLDUP_SELFTEST_START (R357). -/
  | holdupSelftestStart (pack : PackId)
  /-- HOLDUP_SELFTEST_STEP (R356). -/
  | holdupSelftestStep (mv : Nat) (ma : Int)
  /-- HOLDUP_RETEST_TIMER (R358). -/
  | holdupRetestTimer (pack : PackId)
  /-- HOLDUP_TEST_AGE_EXPIRY (R357). -/
  | holdupTestAgeExpiry (pack : PackId)
  /-- HOLDUP_STARTUP_TEST (R357). -/
  | holdupStartupTest
  /-- LEARN_START (R360). -/
  | learnStart (pack : PackId)
  /-- LEARN_DISCHARGE_END (R360). -/
  | learnDischargeEnd (pack : PackId)
  /-- LEARN_REST_END (R362). -/
  | learnRestEnd (pack : PackId)
  /-- LEARN_DISQUALIFY (R361). -/
  | learnDisqualify (pack : PackId) (why : Fin 8)
  /-- LEARN_RETRY (R361). -/
  | learnRetry (pack : PackId)
  /-- GAUGE_BLOCK_WRITE (R364). -/
  | gaugeBlockWrite (pack : PackId)
  /-- NRG_TEST (R357). -/
  | nrgTest (pack : PackId)
  /-- LEARN (R360). -/
  | nrgLearn (pack : PackId)
  /-- LEARN_ABORT (R361). -/
  | learnAbort (pack : PackId)
  /-- RETEST (R358). -/
  | nrgRetest (pack : PackId)
  /-- SAME_PACK (R365). -/
  | nrgSamePack (pack : PackId)
  /-- VAULT_PATROL (R370). -/
  | vaultPatrol (rateMbps wearPct : Nat) (dirOk : Bool)
  /-- PATROL_NOW (R370). -/
  | vaultPatrolNow (rateMbps wearPct : Nat) (dirOk : Bool)
  /-- THERMAL_STATE_CHANGE (R376). -/
  | thermalStateChange
  /-- THROTTLE_CLOCK_STEP (R377). -/
  | throttleClockStep
  /-- AVS_TIMEOUT (R423). -/
  | avsTimeout
  /-- VDD_FB_POWER_CHECK (R473). -/
  | vddFbPowerCheck (mw : Nat)
  /-- FAN_LISTEN_END (R390). -/
  | fanListenEnd (n : FanId) (rotor : RotorSpeed)
  /-- FAN_BRAKE_DONE (R391). -/
  | fanBrakeDone (n : FanId) (ok : Bool)
  /-- FAN_WAIT_RECHECK (R391). -/
  | fanWaitRecheck (n : FanId) (rotor : RotorSpeed)
  /-- FAN_RAMP_END (R392). -/
  | fanRampEnd (drive : FanRun) (locked : Bool) (rs ls : Nat)
  /-- FAN_ATTEMPT_FAIL (R393). -/
  | fanAttemptFail (n : FanId)
  /-- FAN_RETRY_TIMER (R393). -/
  | fanRetryTimer (n : FanId)
  /-- FAN_OVERCURRENT (R380). -/
  | fanOvercurrent (drive : FanRun)
  /-- FAN_STALL (R393). -/
  | fanStall (drive : FanRun)
  /-- FAN_CLASS_CHANGE (R387). -/
  | fanClassChange (drive : FanRun) (rpm ke : Nat)
  /-- FAN_PIN_LOSS (R384). -/
  | fanPinLoss (n : FanId)
  /-- FAN_PIN_VALID (R384). -/
  | fanPinValid (n : FanId) (duty : Nat)
  /-- FAN_CLEAR_FAULT (R393). -/
  | fanClearFault (n : FanId)
  /-- FAN_RESTART (R395). -/
  | fanRestart (n : FanId)
  /-- RELEARN (R395). -/
  | fanRelearn (n : FanId)
  /-- EVENT_RECORD (R399). -/
  | eventRecord
  /-- FREEZE (R408). -/
  | eventFreeze (iface : Iface)
  /-- UNFREEZE (R408). -/
  | eventUnfreeze (iface : Iface)
  /-- FREEZE_TIMEOUT (R408). -/
  | freezeTimeout
  /-- CHALLENGE (R410). -/
  | eventChallenge
  /-- CHALLENGE_EXPIRY (R410). -/
  | challengeExpiry
  /-- LOCKOUT_END (R411). -/
  | lockoutEnd
  /-- CLEAR (R412). -/
  | eventClear (iface : Iface)
  /-- AUTH_SET (R409). -/
  | eventAuthSet (iface : Iface)
  /-- SOUNDPOST_NOW (R413). -/
  | soundpostNow
  /-- SOUNDPOST_VAULT_COPY (R414). -/
  | soundpostVaultCopy
  /-- SOUNDPOST_FLASH_COPY (R414). -/
  | soundpostFlashCopy
  /-- READ32 (R460). -/
  | read32 (addr : Nat)
  /-- READ64 (R460). -/
  | read64 (addr : Nat)
  /-- WRITE32 (R460). -/
  | write32 (addr value : Nat)
  /-- LAST_STATUS (R460). -/
  | lastStatus
  /-- READ_BURST (R460). -/
  | readBurst (addr count : Nat)
  /-- RECOVERABLE_ERROR (R445). -/
  | recoverableError (e : RecErr) (source : Nat)
  /-- HANDLER_END (R447). -/
  | handlerEnd (index : Nat) (ok : Bool)
  /-- HANDLER_TIMEOUT (R446). -/
  | handlerTimeout (index : Nat)
  /-- FATAL_ERROR (R450). -/
  | fatalError (cause : Nat)
  /-- FATAL_RESTART (R451). -/
  | fatalRestart
  /-- ERR_RESTART (R453). -/
  | errRestart
  /-- QUIESCE_POINT (R427). -/
  | quiescePoint
  /-- WAKE (R430). -/
  | wake
  /-- EXIT_COMPLETE (R428). -/
  | exitComplete
  /-- HOST_LINK_L12_EXIT (R29). -/
  | hostLinkL12Exit (hp : HostPort)
  /-- APST_TRANSITION (R141). -/
  | apstTransition (fn : FnIdx)
  /-- AGING_WRITEBACK (R463). -/
  | agingWriteback
  /-- AGE_ACCUMULATE (R490). -/
  | ageAccumulate
  /-- RO_MEASURE (R491). -/
  | roMeasure (slowX100 : Nat)
  /-- EMRAM_REFRESH (R474). -/
  | emramRefresh
  /-- ALWAYS_ON_POWER_UP (R462). -/
  | alwaysOnPowerUp
  /-- POWER_DOWN (R422). -/
  | powerDown
  /-- HOT_RESET (R110). -/
  | hotReset (hp : HostPort)
  /-- COALESCING_TIME_EXPIRY (R140). -/
  | coalescingTimeExpiry (fn : FnIdx) (cq : Nat)
  /-- PPS_HOLDOVER_EXPIRY (R336). -/
  | ppsHoldoverExpiry
  /-- COMMIT_COMPLETE (R46). -/
  | commitComplete (ok : Bool)
  /-- VAULT_RESTORE_DONE (R167). -/
  | vaultRestoreDone
  /-- TEMPERATURE_SAMPLE (R375). -/
  | temperatureSample (sensors : List Int)
deriving DecidableEq, Repr

end Sys2Proof
end

