-- ==== Sys2Proof/Decode.lean ====
section
/-! DEFINITION. Decode.lean: words that spell commands. spec/opcode_table.json gives no row a width or a bit: its rows are
the commands and events of a block, which reach it over its interfaces and pins, so no word spells any of them. -/
namespace Sys2Proof

/-- The command that a word of the opcode table's bits spells: none, since no row of the table has bits. -/
def decodeTableWord (nbits w : Nat) : Option Instr :=
  match nbits, w with
  | _, _ => none

end Sys2Proof
end

