-- ==== Sys2Proof/Config.lean ====
section
/-!
DEFINITION. Config.lean: what the spec leaves open and what it takes from other standards, as constants without a body:
no proof can see their values, so a statement holds whatever they are (assumptions 4, 9 and 11).
-/
namespace Sys2Proof.Config

/-- The free values (assumption 4): the i-th value of width w that the spec leaves undefined, unspecified or random.
State holds the counter i, and each use advances it. -/
opaque freeBits (w i : Nat) : BitVec w

/-- A register field that shows what no command of the table sets (R389, R394), by the counter of free values and the field's key. -/
opaque shownBits (w i key : Nat) : BitVec w

/-- The AES-256-GCM key stream of one sector message under a key and a 96-bit IV (R83), as a number of 32,768 bits. -/
opaque gcmStream (key iv : Nat) : BitVec 32768

/-- The AES-256-GCM authentication tag over a ciphertext with its additional data (R83). -/
opaque gcmTag (key iv aad ciphertext : Nat) : BitVec 128

/-- AES-256 encryption of 16 zero bytes, first 8 bytes: KEY_CHECK (R85). -/
opaque keyCheck (key : Nat) : BitVec 64

/-- The KDF of R269 from the device root key with a label and a context. -/
opaque kdf (label context : Nat) : BitVec 256

/-- AES-256 key wrap with padding (R270, R409) of a payload under a key. -/
opaque kwpWrap (kek payload : Nat) : BitVec 576

/-- HMAC-SHA-256 of the token of R410: key, challenge, operation, argument, device ID. -/
opaque hmacToken (key chal op arg deviceId : Nat) : BitVec 256

/-- SHA-384 of a byte string given as a list of numbers (R36, R59, R84). -/
opaque sha384 (bytes : List Nat) : BitVec 384

/-- The event code TYPE[5:0] of an event that is not one of the recorder's own (R402; assumption 11). -/
opaque eventCode (event : Nat) : BitVec 6

/-- Byte i of an event's catalogue entry that the spec does not give (R402): FIELD_COUNT (3) and NAME (4 to 31) of an event that is not
one of the recorder's own. -/
opaque catalogueByte (event i : Nat) : BitVec 8

/-- TIME_DELTA of a record copied into a soundpost (R415): the spec does not say from which BASE_TIME it counts there. -/
opaque soundpostDelta (seq : Nat) : BitVec 42

/-- Bytes by which the dump metadata of R164 exceeds the 256 MiB allowance, for a number of manifest and directory entries
above 65,536: the spec gives the entries no size (assumption 15). -/
opaque dumpMetaExcess (entries : Nat) : Nat

/-- The built-in gauge model of Safe Mode (R43), whose packs the spec does not give. -/
opaque builtInGauge : GaugeModel

/-- The acceleration factor of R490 at a junction temperature and a VDD_FB setpoint, in parts per million. -/
opaque agingFactorPpm (tj step : Int) : Nat

/-- The arrays, with their programs and tables, and the further programs that the bodies of sections 0x0003, 0x0004 and 0x0005 hold: the spec gives
those bodies no layout beyond the objects of R103 and R104 and the policy block of R183 (assumption 10). -/
opaque arraySections (arrays programs tables : List Nat) : List ArrEntry × List (ProgObj × List MapTable)

end Sys2Proof.Config
end

