-- ==== Sys2Proof/Machine/State.lean ====
section
/-!
DEFINITION. Machine/State.lean: everything the block holds, as plain data. A value that the spec gives a register
field stands in `regs`, under the field's key (Machine/Regs.lean), and nowhere else; the other fields hold what the
text names without a register. INVENTORY.md, '## State', lists every piece with its rule and reset value.
-/
namespace Sys2Proof.Machine

/-- The reasons a step can stop the model. No command of the spec stops the device: this is raised by no meaning and
stands for a command list the host interface cannot hold (safe: nothing answers with it). -/
inductive Fault where
  /-- Raised by nobody: kept so that the type of faults is not empty (safe). -/
  | unreachable
deriving DecidableEq, Repr

/-- Why a command has no meaning. -/
inductive Refusal where
  /-- Raised by an arm of Dispatch.lean whose command has no meaning yet (safe). -/
  | notModelled (mnemonic : String)
deriving DecidableEq, Repr

/-- What a meaning answers. -/
abbrev Out (σ : Type) := Host.Outcome σ Fault Refusal

/-! ### Events, soundpost and the error stack (R396 to R417, R443 to R451) -/

/-- What a record in the event ring says: the events the rules name. `block` and `severity` are in Machine/Events.lean;
a TYPE code other than the recorder's own is free (assumption 11). -/
inductive Ev where
  /-- CLEAR of the event log (R412), 0x301. -/
  | clearRec
  /-- R404, 0x302. -/
  | logNearlyFull
  /-- R408, 0x303. -/
  | freezeTimeout
  /-- R411, 0x304. -/
  | authFail
  /-- R409, 0x305. -/
  | authKeySet
  /-- R413, 0x306. -/
  | soundpost
  /-- R414, 0x307. -/
  | soundpostRepaired
  /-- R41. -/
  | nonSemanticDiff
  /-- R42. -/
  | imageRewrite
  /-- R44. -/
  | tieResolved
  /-- R57. -/
  | calFallback
  /-- R59. -/
  | calRestored
  /-- R100. -/
  | mappingFault
  /-- R119. -/
  | adminQueueTooLarge
  /-- R123. -/
  | lateDrop
  /-- R144. -/
  | dweUnlisted
  /-- R148. -/
  | mirrorLost
  /-- R153. -/
  | writeThroughChange
  /-- R154. -/
  | unprotected
  /-- R177. -/
  | sliceFailed
  /-- R187. -/
  | memberFailed
  /-- R186. -/
  | memberFailRefused
  /-- R186. -/
  | mediaErrorsEventOnly
  /-- R192. -/
  | backgroundMappingFault
  /-- R198. -/
  | scrubBehind
  /-- R199. -/
  | scrubMismatch
  /-- R199. -/
  | scrubNotLocatable
  /-- R204. -/
  | bowBufferFull
  /-- R208. -/
  | reshapeEnd
  /-- R210. -/
  | arrCmdIgnored
  /-- R87. -/
  | labelDifference
  /-- R423. -/
  | railAvsSilent
  /-- R435. -/
  | sysRstLongHold
  /-- R438. -/
  | noFirmware
  /-- R16. -/
  | acFailSilence
  /-- R16. -/
  | acReturnSilence
  /-- R444. -/
  | recoverableError
  /-- R444. -/
  | fatalError
  /-- R461. -/
  | safeModeIgnored
  /-- R297. -/
  | driveHeld
  /-- R87. -/
  | labelDiffers
  /-- R302. -/
  | driveHealth
  /-- R299. -/
  | spinupPluckTimeout
  /-- R304. -/
  | portCmdIgnored
  /-- R240. -/
  | scUncorrectable
  /-- R251. -/
  | dmaPluckIgnored
  /-- R268. -/
  | authFailedCmd
  /-- R276. -/
  | nonceWarn
  /-- R279. -/
  | trngHealth
  /-- R279. -/
  | trngFailed
  /-- R281. -/
  | tamper
  /-- R314. -/
  | capoLineFault
  /-- R313. -/
  | contentionUnresolved
  /-- R317. -/
  | dualActive
  /-- R319. -/
  | mirrorMismatch
  /-- R321. -/
  | selftestCritical
  /-- R323. -/
  | partnerMismatch
  /-- R328. -/
  | capoCmdIgnored
  /-- R332. -/
  | joinRefused
  /-- R343. -/
  | pluckLate
  /-- R344. -/
  | eventMark
  /-- R345. -/
  | barrierDone
  /-- R358. -/
  | packFailed
  /-- R362. -/
  | packHealth
  /-- R365. -/
  | packReplaced
  /-- R366. -/
  | vaultRate
  /-- R370. -/
  | wearWarn
  /-- R376. -/
  | thermalState
  /-- R381. -/
  | fansAbsent
  /-- R384. -/
  | fanPinLoss
  /-- R393. -/
  | fanFault
  /-- R395. -/
  | fanCmdIgnored
  /-- R491. -/
  | marginOut
  /-- R490. -/
  | lifeWarn
deriving DecidableEq, Repr

/-- A record on its way to the recorder: event, severity, pitch time if valid, and payload values (R398, R402). -/
structure EvArrival where
  ev : Ev
  sev : Nat
  time : Option Nat
  payload : List Nat
deriving DecidableEq, Repr

/-- A record as stored: a sequence (R403) and what arrived. Its COMMIT word is a function of it (R399). -/
structure EvRec where
  seq : Nat
  arr : EvArrival
deriving DecidableEq, Repr

/-- A page of the ring that is not free (R397): open or closed, and its records in order. -/
structure EvPage where
  isOpen : Bool
  maxSev : Nat
  baseTime : Option Nat
  firstSeq : Nat
  recs : List EvRec
deriving DecidableEq, Repr

/-- An entry of the handling stack (R448). `fatal` is a cause of R449 for an entry of class 3. -/
structure StackEntry where
  err : RecErr
  source : Nat
  fatal : Option Nat
  nested : Bool
  pegbox : Bool
  repeats : Nat
  time : Option Nat
  eventSeq : Nat
  depth : Nat
  step : Nat
  tag : Option (Nat × Nat)
  info : List Nat
deriving DecidableEq, Repr

/-- A soundpost (R415): the values of its header, the stack, the causes of the fatal errors it records in their order (R450), the register
pairs taken and the newest records. -/
structure Soundpost where
  cause : Nat
  seq : Nat
  time : Option Nat
  imgSeq : Nat
  power : Nat
  therm : Nat
  tj : Nat
  role : Nat
  stack : List StackEntry
  fatals : List Nat
  snapshot : List (Nat × Nat)
  omitted : Nat
  events : List EvRec
deriving DecidableEq, Repr

/-- The event recorder (R396 to R417). `sideQ` is the side queue of R408, `arrivals` the records that have reached the
recorder and wait for EVENT_RECORD, `journal` the clear journal (R412), `authKey` the authorization key (R409; held
unwrapped, assumption 9), `spEmram`, `spVault` and `spFlash` the soundpost copies by slot (R414), `spDue` the soundposts
whose vault and flash copies are still to be written. -/
structure Evr where
  pages : Tbl EvPage
  sideQ : List EvRec
  arrivals : List EvArrival
  journal : Bool
  authKey : Option Nat
  chal : Option Nat
  failures : Nat
  second : Nat
  secondCount : Nat
  spEmram : Tbl Soundpost
  spVault : Tbl Soundpost
  spFlash : Tbl Soundpost
  spVaultDue : List Soundpost
  spFlashDue : List Soundpost
  spNowAt : Option Nat
deriving DecidableEq, Repr

/-- Errors: the stack, oldest entry first (R445, R452), causes of R449 raised and not yet handled, the running fatal
handling with its cause, and the times of the fatal errors of the last 24 h (R451). -/
structure Err where
  stack : List StackEntry
  raised : List Nat
  active : Option Nat
  times : List Nat
deriving DecidableEq, Repr

/-! ### Power and reset (R16 to R20, R420 to R442) -/

/-- What the fast domains do: in reset, booting (steps 1 to 5 of R439 under way), running, retained in Rest, gated in
Silence, unpowered. -/
inductive FastPhase where
  | unpowered | inReset | booting | running | retained | gated
deriving DecidableEq, Repr

/-- Why command fetch is stopped device-wide. -/
inductive FetchHold where
  | acFail | powerEntry | activation | fatal | thermal | sysReset
deriving DecidableEq, Repr

/-- What waits for a vault dump to commit, or for the cache to be clean, before it goes on. -/
inductive DumpReason where
  | acFail | sysReset | fatal | thermal
deriving DecidableEq, Repr

/-- A Set Features Power Management command that waits for the transition to settle (R19, R431). -/
structure PsWait where
  fn : FnIdx
  cid : Nat
  target : Nat
deriving DecidableEq, Repr

/-- Power: levels of the reset pins and of mains as accepted (R432, R481), the fast domains, the last operational state
(R430), the digest of the firmware in the eMRAM cache (R12, R438), waiting transitions and the command that the running one completes (R431), reversal of an entry asked for (R19), rails, locked PLLs, firmware present, the time
SYS_RST_N went low (R435), LED conditions that last until the next boot (R436), reset still to follow a transition, when the boot and the Pegbox die
started. -/
structure Pwr where
  aonLow : Bool
  sysLow : Bool
  railsOk : Bool
  aonRails : Bool
  fast : FastPhase
  fwOk : Bool
  fwCache : Option Nat
  plls : Nat
  sysLowAt : Nat
  lastOp : Nat
  waits : List PsWait
  psRun : Option PsWait
  reversing : Bool
  holds : List FetchHold
  wdHold : Bool
  redLed : Bool
  sysPending : Bool
  bootStart : Nat
  pegAt : Nat
  saved : Bool
  perstLow : List Bool
deriving DecidableEq, Repr

/-! ### Images, signing keys and calibration (R31 to R61) -/

/-- A signing-key slot of the fuse block (R37). -/
structure KeySlot where
  hash : Nat
  programmed : Bool
  revoked : Bool
deriving DecidableEq, Repr

/-- What VERIFY computed for one new array (R494): the array's MEMBER_DATA_SECTORS and each member drive's port,
serial and capacity. -/
structure NewArray where
  index : ArrayId
  dataSectors : Nat
  drives : List (PortId × Nat × Nat)
deriving DecidableEq, Repr

/-- Images: both flash copies and the eMRAM copy (R40), the running image, the staging buffer as words by index and the
image it spells at VERIFY, the image that last ran (whose arrays and namespaces eMRAM holds, R47), what VERIFY found, and the signing-key slots. `toCreate` is what a committed image's new
arrays are created with at the boot that follows (R494). `older` holds, for the commands fetched before a live activation, the number of
the first command fetched after it with the image that ran until then (R48), oldest first. -/
structure Img where
  copyA : CopyRead
  copyB : CopyRead
  cache : CopyRead
  running : Option Image
  stage : Tbl Nat
  staged : Option Image
  last : Option Image
  newArrays : List NewArray
  toCreate : List NewArray
  keys : List KeySlot
  older : List (Nat × Image)
deriving DecidableEq, Repr

/-- A calibration block (R56): whether its magic matches, its sequence, the pitch time of the write, its content and its CRC-32C as stored. -/
structure CalBlock where
  magicOk : Bool
  seq : Nat
  time : Nat
  content : List Nat
  crc : Nat
deriving DecidableEq, Repr

/-- The operation a calibration journal names (R59). -/
inductive CalOp where
  | restoreFactory | restorePrevious
deriving DecidableEq, Repr

/-- Calibration sets by block number, the journal of block 14 with how many of its operation's steps have completed, and the trims of blocks 0
and 1 in force (R56 to R60); a restore command that the loss of mains caught, with its steps done (assumption 18). -/
structure Cal where
  user : Tbl CalBlock
  factory : Tbl CalBlock
  previous : Tbl CalBlock
  journal : Option (CalOp × Nat)
  restoring : Option (CalOp × Nat)
  trims : Tbl (List Nat)
deriving DecidableEq, Repr

/-! ### Host front end (R110 to R146) -/

/-- An NVMe status: Status Code Type, Status Code, Do Not Retry, Command Retry Delay (R142). -/
structure Status where
  sct : Nat
  sc : Nat
  dnr : Bool := false
  crd : Nat := 0
deriving DecidableEq, Repr

/-- A completion entry (R139): function, queue (0 is the admin queue), identifier, status, DW0, the data sent to
host memory before it, and the SQ head pointer it reports (R120). -/
structure Cqe where
  fn : FnIdx
  sq : Nat
  cid : Nat
  status : Status
  dw0 : Nat
  data : List Blob
  sqHead : Nat
deriving DecidableEq, Repr

/-- How far a fetched I/O command has come: fetched, waiting for its range lock (R128), holding it, reading, holding its
reservation while its sectors are placed, waiting for its
dirty-limit reservation (R152) or for write-through room (R153), waiting for entropy (R278) or for a nonce mark (R275),
placed (R147), waiting for destage (Flush, FUA, write-through), or in the collector (R139). -/
inductive Phase where
  | fetched | lockWait | locked | reading | placing | limitWait | throughWait | entropyWait | markWait | placed | destageWait
  | collected
deriving DecidableEq, Repr

/-- What a read has of one of its sectors: waiting for a member read, waiting for the units that solve its row, one of its two copies having
failed its tag waiting for the late original or for the reconstructed one (R216), waiting for its decryption message, plaintext ready,
its tag failed in every copy, lost, or its key gone (R267, R268, R281). -/
inductive ReadSec where
  | member
  | solve
  | otherOriginal
  | otherSolve
  | message
  | data (plain : Blob)
  | auth
  | lost
  | noKey
deriving DecidableEq, Repr

/-- A fetched I/O command: internal tag (index and generation, R121), queue, identifier, class (R125), fetch order,
kind, namespace, ranges, FUA, phase, plaintext still to be placed, whether it runs write-through (R153), whether its
namespace's dirty bit is awaited (R172), whether the partner still has to acknowledge it (R148), the placement
sequence that a Flush waits for (R115), the time points of R218 (doorbell, issue, member completion), whether a
condition of R220 has failed, whether an exclusion of R221 has covered it, what is known of the sectors of a read, the members
that failed a read of it (R180), the most units, late or missing, that one of its rows went without (R219), and whether a Dataset Management
command asks to deallocate (R114). -/
structure HostCmd where
  tag : Nat
  gen : Nat
  fn : FnIdx
  sq : Nat
  cid : Nat
  cls : Nat
  order : Nat
  kind : IoKind
  nsid : Nat
  ranges : List Extent
  fua : Bool
  phase : Phase
  plain : List Blob
  through : Bool
  dirtyWait : Bool
  mirrorWait : Bool
  flushSeq : Nat
  bell : Nat
  issued : Nat
  done : Nat
  outside : Bool
  excl : Bool
  read : Tbl ReadSec
  avoid : List Nat
  lack : Nat
  dealloc : Bool := true
deriving DecidableEq, Repr

/-- A completion entry waiting in the collector (R139): the command it ends, its entry, when it came, the doorbell time of a
command that took no tag, and whether an exclusion of R221 covered that one. -/
structure Collected where
  cqe : Cqe
  tag : Option Nat
  cls : Nat
  order : Nat
  at_ : Nat
  bell : Nat
  excl : Bool
deriving DecidableEq, Repr

/-- A range-lock entry (R127). `low` marks one of the 2,048 reserved entries. -/
structure RangeLock where
  nsid : Nat
  start : Nat
  count : Nat
  excl : Bool
  tag : Nat
  low : Bool
deriving DecidableEq, Repr

/-- An I/O submission queue (R119, R120): size, class, completion queue, head, tail, the doorbell times of the entries not
fetched yet (R218) and whether an exclusion of R221 was then in force, and the Delete command that waits for it. -/
structure IoSq where
  size : Nat
  cls : Nat
  cq : Nat
  head : Nat
  tail : Nat
  bells : List (Nat × Bool)
  deleting : Option Nat
deriving DecidableEq, Repr

/-- An I/O completion queue (R119, R140): size, vector, interrupts enabled, host's head, device's tail, and entries
whose interrupt waits on coalescing. -/
structure IoCq where
  size : Nat
  vector : Nat
  ien : Bool
  head : Nat
  tail : Nat
  coalesced : Nat
deriving DecidableEq, Repr

/-- A function's controller (R113 to R119, R137): CC.EN, CSTS.RDY, CSTS.CFS, reset running, admin queue sizes, Number
of Queues done, grants, features by identifier, held event requests, pending deferred-error flags (R143), error log
(R444), whether the function has VF Enable (a PF), the admin SQ's head pointer (R120), the table of Autonomous Power State Transition (R114,
R141) and the words of the MSI-X table that have been written (R111). -/
structure FnSt where
  en : Bool
  rdy : Bool
  cfs : Bool
  resetting : Bool
  asqs : Nat
  acqs : Nat
  nqDone : Bool
  grantSq : Nat
  grantCq : Nat
  feats : Tbl Nat
  aers : List Nat
  flagged : List Nat
  errLog : List Status
  vfEnable : Bool
  asqHead : Nat
  apst : List Nat
  msix : Tbl Nat
deriving DecidableEq, Repr

/-- An entry of the deferred-error list (R144). -/
structure Dwe where
  nsid : Nat
  cause : Nat
  slba : Nat
  nlb : Nat
  time : Option Nat
deriving DecidableEq, Repr

/-- A write-protection window (R131). -/
structure Window where
  start : Nat
  count : Nat
  locked : Bool
deriving DecidableEq, Repr

/-- A Format of one namespace (R133, R134): Secure Erase Settings, the watermark of emptied groups of its array (R136), whether its start has
been recorded, and the command that completes then. -/
structure FormatOp where
  nsid : Nat
  ses : Nat
  mark : Nat
  started : Bool
  who : Option (FnIdx × Nat)
deriving DecidableEq, Repr

/-- A Sanitize (R133, R135): action, overwrite pattern, passes, inversion, the watermark of completed member groups of each array (R136),
whether its start has been recorded, and the command that completes then. -/
structure SanitizeOp where
  action : Nat
  pattern : Nat
  passes : Nat
  invert : Bool
  marks : Tbl Nat
  started : Bool
  who : Option (FnIdx × Nat)
deriving DecidableEq, Repr

/-- The host front end. Tags: `fresh0` and `freshS` are the first indices of the reserved and the shared range that
have never been taken, `freed0` and `freedS` the indices freed since, oldest first (R122); `gens` the generations;
`held` the indices held out (R122). `posted` is what has been posted to hosts, newest last, `raised` the interrupts
raised. `rr` holds the round-robin pointer of each class (R125). -/
structure Hfe where
  fns : Tbl FnSt
  sqs : Tbl IoSq
  cqs : Tbl IoCq
  cmds : List HostCmd
  locks : List RangeLock
  order : Nat
  fresh0 : Nat
  freshS : Nat
  freed0 : List Nat
  freedS : List Nat
  held : List Nat
  gens : Tbl Nat
  rr : List Nat
  collector : List Collected
  posted : List Cqe
  raised : List (FnIdx × Nat)
  windows : Tbl Window
  formats : List FormatOp
  sanitize : Option SanitizeOp
  sanStatus : Nat
  dwe : List Dwe
  lateAt : Tbl Nat
  paused : List Nat
  grants : List Nat
deriving DecidableEq, Repr

/-! ### Write cache, stripe updates, fret map, vault (R147 to R174, R364 to R374) -/

/-- States of a cached sector other than ABSENT (R149). -/
inductive WcState where
  | clean | dirty | destaging | redirtied
deriving DecidableEq, Repr

/-- A sector in the write cache (R149, R150): state, the copy (the older one while REDIRTIED), the newer copy of a
REDIRTIED sector, class of the newest write (R495), placement sequence and time, whether it is an unacknowledged
write-through placement (R153), the tag of the command that placed it while it is not acknowledged, the sequence of the oldest placement
since the members last held the sector, which a Flush waits for (R115), and the acknowledged copy that an unacknowledged placement has replaced
(R137). -/
structure WcLine where
  state : WcState
  sec : CSec
  newer : Option CSec
  cls : Nat
  seq : Nat
  at_ : Nat
  through : Bool
  owner : Option Nat
  first : Nat
  under : Option CSec
deriving DecidableEq, Repr

/-- A fret clear or set issued and not yet acknowledged (R161), by bit position. -/
structure FretOp where
  bit : Nat
  set : Bool
  update : Option Nat
deriving DecidableEq, Repr

/-- An extent a dump names: namespace, LBA, content, placement sequence, and whether it was saved (R164). -/
structure DumpSector where
  nsid : Nat
  lba : Nat
  sec : CSec
  cls : Nat
  seq : Nat
  saved : Bool
deriving DecidableEq, Repr

/-- The bow buffer of one array as a dump saves it (R206): its descriptor (bow, checkpoint) and its copies by array LBA. -/
structure BowSave where
  array : Nat
  bow : Nat
  ckpt : Nat
  sources : Tbl CSec
  displaced : Tbl CSec
deriving DecidableEq, Repr

/-- A vault dump (R164): sequence, manifest with the sectors saved, contexts, bow buffer, region counts, committed,
cancelled (R165), retired (R166), bytes of content. -/
structure Dump where
  seq : Nat
  sectors : List DumpSector
  contexts : List Update
  bow : List BowSave
  counts : Tbl Nat
  committed : Bool
  cancelled : Bool
  retired : Bool
  bytes : Nat
deriving DecidableEq, Repr

/-- The write cache and the fret map. Lines are keyed by `nsKey` (Machine/WcOps.lean); `nextSeq` numbers placements;
`fret` holds the set bits of the fret map; `counts` the region in-flight counts; `lastSet` the time of each region's
last set; `updates` holds the stripe locks too (one update for each stripe, R159); `dirtyNs` the dirty-namespace bitmap and
`dirtyNsSet` the sets in flight (R172); `resync` the regions still to be scanned and the position (R169);
`unprotAt` is the time up to which WC_UNPROT_MS has been counted while V' exceeds C1 (R154); `dumpArea` is the area of the
dump being written, `dumpWhy` what follows it and `dumpAt` when it began; `unclean` says that the fast domains last stopped with
dirty data that neither a dump nor the partner holds (R171); `rerun` the arrays whose reshape steps are rerun before namespaces come online (R207); `replay` the dump being replayed. -/
structure Wc where
  lines : Tbl WcLine
  nextSeq : Nat
  updates : List Update
  nextUpd : Nat
  fret : List Nat
  fretOps : List FretOp
  counts : Tbl Nat
  lastSet : Tbl Nat
  dirtyNs : List Nat
  dirtyNsSet : List Nat
  resync : List Nat
  resyncPos : Nat
  destageAll : Bool
  partnerLimit : Option Nat
  unprotAt : Option Nat
  dumpArea : Option Nat
  dumpWhy : Option DumpReason
  dumpAt : Nat
  unclean : Bool
  rerun : List Nat
  replay : Option Dump
deriving DecidableEq, Repr

/-- The vault flash: the dumps held by area, 0 or 1, the areas being erased (R166, R366 to R370), and the saved sectors, by NSID and LBA, that the
last Pegbox start found failing (R368). -/
structure Vault where
  dumps : Tbl Dump
  erasing : List Nat
  failing : List (Nat × Nat)
deriving DecidableEq, Repr

/-! ### Arrays, members, media (R62 to R90, R178 to R208) -/

/-- A tag of a member data sector (R77). The content part of an empty tag is zero (R78): a sector with an empty tag
is not listed. -/
structure MTag where
  kind : Nat
  flags : Nat
  member : Nat
  orig : Nat
  unit : Nat
  rsv5 : Nat
  sector : Nat
  uuidFrag : Nat
  epoch : Nat
  stripe : Nat
  rsv16 : Nat
  crc : Nat
  gen : Nat
  ctx : Nat
  ctr : Nat
  gcm : Nat
deriving DecidableEq, Repr

/-- A member data sector on a drive: content, tag, and whether the drive cannot return it (a media error). -/
structure MSec where
  data : Blob
  tag : MTag
  bad : Bool
deriving DecidableEq, Repr

/-- A tag sector's header as a drive holds it, and whether the drive can return the sector (R76, R82). -/
structure GroupTag where
  readable : Bool
  magic : Nat
  version : Nat
  member : Nat
  reservedZero : Bool
  uuid : Nat
  group : Nat
  crc : Nat
deriving DecidableEq, Repr

/-- A namespace table entry of a label (R85). -/
structure LabelNs where
  nsid : Nat
  uuid : Nat
  size : Nat
  keyRef : Nat
  keyCheck : Nat
  extents : List Extent
deriving DecidableEq, Repr

/-- What a drive holds (assumption 6): its label copies 0 to 3, tag-sector headers by group, member data sectors by the physical sector
that each lies in (R74), and the 32-bit pattern that fills the data sectors not listed, whose tags are empty (R135). -/
structure Media where
  labels : List (Option Label)
  groups : Tbl GroupTag
  secs : Tbl MSec
  fill : Nat
deriving DecidableEq, Repr

/-- A label rewrite of one member under way (R86): the member, what is written, and how many of the four copies have been. -/
structure LabelJob where
  member : Nat
  label : Label
  copies : Nat
deriving DecidableEq, Repr

/-- A member index of an array: state, MEMBER_UUID, port, rebuild watermark (REBUILT_TO) and the
stripes from `spareFrom` below `spareTo`, whose units lie in spare slots beside those below REBUILT_TO, the main-pass watermark of a replacement's
units that have no spare slot (R188), whether the member is slow and since when
(R185), its medians of read service times, the times of its media errors of the last 24 h (R186), how many reads its
window holds, the cause of its last failure (R186), and whether it is a replacement whose labels are still being written (R298). -/
structure Member where
  state : MemState
  uuid : Nat
  port : Option PortId
  rebuiltTo : Nat
  spareFrom : Nat
  spareTo : Nat
  directTo : Nat
  slow : Bool
  slowSince : Nat
  median : Nat
  reads : Nat
  mediaErrs : List Nat
  cause : Nat
  fresh : Bool
deriving DecidableEq, Repr

/-- Geometry of one epoch of an array (R63 to R66, R84): k, n, layout, chunk sectors c, periods, stripes, program. -/
structure Geom where
  k : Nat
  n : Nat
  layout : Nat
  c : Nat
  periodRows : Nat
  periodStripes : Nat
  stripeCount : Nat
  dataSectors : Nat
  epoch : Nat
  prog : ProgObj
  tables : List MapTable
deriving DecidableEq, Repr

/-- The background operation of an array (ARR_STATE.OP, R191, R210). -/
inductive ArrOp where
  | none | resync | critical | mainPass | copyback | reshape | scrub | init
deriving DecidableEq, Repr

/-- An array (R178 to R208): identity and policy, geometry of the current and of the previous epoch (a reshape runs
while there is one, R92), fret span (first bit, bits, reserve), members by index, the failed indices whose units the
layout relocates, oldest first (R68), the operations that are wanted, what is paused and why, watermarks, last LABEL_SEQ,
namespaces' KEY_CHECK values, stripes and indices done by the critical pass, bow and checkpoint as array LBAs, and the bow buffer: source copies and displaced copies
by array LBA (R203, R204), the label rewrites under way and whether another waits for them (R86). `uuid` is ARRAY_UUID. -/
structure Arr where
  uuid : Nat
  fretExp : Nat
  policy : ArrPolicy
  cur : Geom
  prev : Option Geom
  fretBase : Nat
  fretBits : Nat
  fretReserve : Nat
  members : List Member
  failOrder : List Nat
  critDone : List (Nat × Nat)
  wants : List ArrOp
  critMark : Nat
  mainMark : Nat
  copyMark : Nat
  scrubMark : Nat
  initMark : Nat
  scrubBehind : Bool
  scrubDue : Nat
  pauses : List (ArrOp × Nat)
  labelSeq : Nat
  keyChecks : Tbl Nat
  bow : Nat
  ckpt : Nat
  sources : Tbl CSec
  displaced : Tbl CSec
  labelJobs : List LabelJob
  labelAgain : Bool
deriving DecidableEq, Repr

/-- An entry of the lost-stripe list (R196). -/
structure LostEntry where
  array : ArrayId
  kind : Nat
  cause : Nat
  epoch : Nat
  stripe : Nat
  rowFirst : Nat
  rowLast : Nat
  mask : Nat
  count : Nat
  left : Nat
deriving DecidableEq, Repr

/-- Parity, rebuild, scrub, reshape: arrays by number, media by port, the lost-stripe list and its overflow, and the
slices of the P/Q engine under test (R177). -/
structure Rbe where
  arrays : Tbl Arr
  media : Tbl Media
  lost : List LostEntry
  lostOverflow : Bool
  katTesting : List Nat
deriving DecidableEq, Repr

/-! ### Fingering mapper (R91 to R109) -/

/-- What an accepted EMIT gives (R99): the mapping and the member and member data sector after relocation. -/
structure MapResult where
  req : MapReq
  member : Nat
  sector : Nat
deriving DecidableEq, Repr

/-- A lane that runs a mapping, with the number of its dispatch, which tells the youngest (R101), and the
program, tables and geometry loaded then, which it keeps (R102). -/
structure Lane where
  req : MapReq
  order : Nat
  geom : Geom
deriving DecidableEq, Repr

/-- The mapper: lanes by number, the waiting mappings of each class (head first), the dispatch counter and the results
delivered and not yet used, and the grants of the running round of weighted sharing by class (R211). -/
structure MapSt where
  lanes : Tbl Lane
  waiting : List MapReq
  order : Nat
  results : List MapResult
  grants : List Nat
deriving DecidableEq, Repr

/-! ### Latency classes (R211 to R223) -/

/-- Load metering and histograms (R213, R223): the command bucket in 10^−6 commands and the four byte buckets
(2 × port + direction) in 10^−6 bytes, which may be below zero, the time they were last refilled, the running millisecond
with the class-0 commands and bytes fetched in it, and the histogram bins by measure × 128 + class × 32 + bin. -/
structure Lat where
  cmdTokens : Int
  byteTokens : List Int
  hist : Tbl Nat
  refillAt : Nat
  rateMs : Nat
  rateCmds : Nat
  rateBytes : Nat
deriving DecidableEq, Repr

/-! ### Stripe cache and HBM (R224 to R242) -/

/-- A line of the cache array or of an eviction structure: line number A[36:7], 128 bytes, installed by a prefetch and not
hit since (R230). -/
structure ScLine where
  line : Nat
  data : Blob
  prefetched : Bool
deriving DecidableEq, Repr

/-- An entry of the merging write buffer (R227): line, bytes, byte mask, time of its first write, and the requesters whose
writes it holds, oldest first. -/
structure ScEntry where
  line : Nat
  data : Blob
  mask : Nat
  since : Nat
  writers : List Nat
deriving DecidableEq, Repr

/-- A fill in flight (R229, R230): whether it installs the line, whether it is a prefetch, whether a restore write has
discarded it (R239), and who waits for which word. -/
structure ScFill where
  install : Bool
  prefetch : Bool
  discarded : Bool
  waiters : List (Nat × Nat)
deriving DecidableEq, Repr

/-- The directory of a line (R237): P/Q slices that share it, and the slice that owns it. -/
structure ScDir where
  shared : List Nat
  owner : Option Nat
deriving DecidableEq, Repr

/-- What waits at a cache slice: a read of a word, a write of masked bytes, an ownership request of a P/Q slice. -/
inductive ScWait where
  | read (req line word : Nat)
  | write (req line mask : Nat) (data : Blob)
  | own (pq line : Nat)
deriving DecidableEq, Repr

/-- A word delivered to a requester (R229): requester, line, word, its 32 bytes. -/
structure ScDeliver where
  req : Nat
  line : Nat
  word : Nat
  data : Blob
deriving DecidableEq, Repr

/-- A single-line operation that runs (R234): OP, line, and the array entry when it is named by set and way. -/
structure ScMaint where
  op : Nat
  line : Nat
  entry : Option Nat
deriving DecidableEq, Repr

/-- The stripe cache: array entries by 16 × set + way, pseudo-LRU bits by set, merging buffer, drained entries not yet
acknowledged, writes waiting for an entry, eviction buffers or victim caches by slice (oldest, or least recently used,
first), fills, directory, recalls sent (by line, with what waits on each), retries (by 4 × line + P/Q slice), rotating
start of each cache slice, requests held during invalidation (R239), the running operations, HBM bytes (assumption 7),
words delivered and writes completed (requester, line), newest last. -/
structure Sc where
  lines : Tbl ScLine
  plru : Tbl Nat
  merge : List ScEntry
  acks : List ScEntry
  waiting : List ScWait
  evict : Tbl (List ScLine)
  fills : Tbl ScFill
  dir : Tbl ScDir
  recalls : Tbl (List ScWait)
  retries : Tbl Nat
  rotate : Tbl Nat
  held : List ScWait
  maint : Option ScMaint
  rangeOp : Option Nat
  hbm : List Host.Cell
  delivered : List ScDeliver
  written : List (Nat × Nat)
deriving DecidableEq, Repr

/-! ### DMA engine (R243 to R261) -/

/-- A descriptor as fetched (R246, R247): CTRL, LEN, SRC, DST, NEXT, the ring exponents, whether its reserved bytes are
zero, and STATUS. -/
structure Desc where
  ctrl : Nat
  len : Nat
  src : Nat
  dst : Nat
  next : Nat
  srcCirc : Nat
  dstCirc : Nat
  reservedZero : Bool
  status : Nat
deriving DecidableEq, Repr

/-- What a running channel does: fetching a descriptor, moving bytes, reading back the last unit. -/
inductive DmaPhase where
  | fetch | move | readBack
deriving DecidableEq, Repr

/-- A running channel: phase, descriptor address, descriptor, source bytes read, destination bytes written, and the bytes
in the holding register (R249). -/
structure DmaRun where
  phase : DmaPhase
  addr : Nat
  desc : Desc
  got : Nat
  put : Nat
  hold : List Nat
deriving DecidableEq, Repr

/-- The DMA engine: running channels, the channel after the one last granted (R245), the address a channel's next trigger
fetches from when it is not CH_DESC_PTR (R251, R254), bytes written to host memory (port, address, byte) in order, and
messages sent under DMA_IRQ_CFG with the time of the last one. -/
structure Dma where
  runs : Tbl DmaRun
  nextCh : Nat
  next : Tbl Nat
  hostWrites : List (Nat × Nat × Nat)
  messages : List (Nat × Nat)
  messageAt : Option Nat
deriving DecidableEq, Repr

/-! ### Cipher engine, keys, TRNG (R262 to R284) -/

/-- A key slot that is not EMPTY (R271 to R276): reference, data key, EXHAUSTED, NONCE_CTX once drawn, next NONCE_CTR, and
the counter values issued in the running and in the preceding second, with the running second's number. -/
structure DataKey where
  ref : Nat
  key : Nat
  exhausted : Bool
  ctx : Option Nat
  ctr : Nat
  second : Nat
  inSecond : Nat
  lastSecond : Nat
deriving DecidableEq, Repr

/-- Where a ciphertext came from (R267, R268): the write cache, a member, a solve, a solve after the member's copy failed its
tag, or a late member after the reconstructed copy failed its tag (R216). -/
inductive CopySrc where
  | cache | member | solved | resolved | last
deriving DecidableEq, Repr

/-- A sector message (R262): encrypting or not, host tag, index of the sector in its command, class, fetch order, NSID,
LBA, nonce, text, tag to compare, where a ciphertext came from. -/
structure CMsg where
  enc : Bool
  tag : Nat
  index : Nat
  cls : Nat
  order : Nat
  nsid : Nat
  lba : Nat
  ctx : Nat
  ctr : Nat
  text : Blob
  gcm : Nat
  src : CopySrc
deriving DecidableEq, Repr

/-- The cipher engine and the key unit: slots by NSID, KEK, OWNER_GEN of SET_OWNER, KEY_SERIAL floors, the serials in use
with their marks (R272, R275), mark advances not yet acknowledged, messages waiting, on pipelines and suspended (R265,
R266), host tags waiting for entropy in order with the time they began to wait (R278), times of health failures (R279),
the value each mark had before its last advance, and a trip latched in Off that the next start has still to take (R281). -/
structure Cip where
  keys : Tbl DataKey
  kek : Option Nat
  ownerGen : Nat
  floors : Tbl Nat
  serials : Tbl Nat
  marks : Tbl Nat
  markDue : Tbl Nat
  markOld : Tbl Nat
  waiting : List CMsg
  pipes : Tbl CMsg
  suspended : List CMsg
  entropy : List Nat
  trngFails : List Nat
  offTrip : Bool
  grants : List Nat
deriving DecidableEq, Repr

/-! ### Drive ports (R285 to R304, R497) -/

/-- What a member command does: data sectors or the tag sectors that describe them are read or written, a label copy is written, and so on.
Every kind but the reads, an identification and a health command is write-class (R286). -/
inductive McKind where
  | read | write | tagRead | tagWrite | label | flush | identify | health
deriving DecidableEq, Repr

/-- For whom a member command runs (R122, R191, R495): a host command by tag index, a stripe update by number, a
background operation of an array, the port itself. -/
inductive McOwner where
  | host (tag : Nat)
  | update (id : Nat)
  | background (a : ArrayId)
  | port
deriving DecidableEq, Repr

/-- A member command: owner, generation of the tag it carries (R122), class, kind, the unit it reads or writes (the copy number of a label),
its rows, attempts used (R292, R294), time of issue, whether its deadline has passed (R214), a write whose outcome is unknown
(R292), and whether it carries Force Unit Access (R159). -/
structure MCmd where
  owner : McOwner
  gen : Nat
  cls : Nat
  kind : McKind
  array : Nat
  previous : Bool
  stripe : Nat
  unit : Nat
  rows : List Nat
  attempts : Nat
  issuedAt : Nat
  late : Bool
  unknown : Bool
  fua : Bool := false
deriving DecidableEq, Repr

/-- What a port found out about a drive (R287, R303): serial number and capacity. -/
structure Drive where
  serial : Nat
  capacity : Nat
  dual : Bool
  label : Option (Nat × Nat)
deriving DecidableEq, Repr

/-- A running escalation (R293): its step and the slot of the command that timed out. -/
structure Escalation where
  step : Nat
  slot : Option Nat
deriving DecidableEq, Repr

/-- A port: commands waiting (oldest first), commands outstanding by slot, the identified drive, whether its
identification is held (R297), escalation, whether the removal window that runs is the start-up window (R296), whether
the port waits for a spin-up pluck (R299), DRV_PWREN as driven (R497), the time of its last late-drop event (R123), and
whether slots aborted or reset leave late completions to come (R291). -/
structure PortSt where
  waiting : List MCmd
  slots : Tbl MCmd
  drive : Option Drive
  heldIdent : Bool
  esc : Option Escalation
  startupWindow : Bool
  windowEnd : Nat
  pluckWait : Bool
  delayEnd : Nat
  waitEnd : Nat
  pwren : Bool
  grants : List Nat
deriving DecidableEq, Repr

/-! ### Pair and capo (R305 to R328) -/

/-- The capo: whether the device requests the claim, whether it has released and stays released until it claims again (R309,
R315), since when the class of CAPO_SEEN stands (R311), unresolved contention rounds and whether a backoff runs (R313), whether
the renew window has expired since the last fast-domain reset (R312),
why a release runs (CAUSE of R316), the partner's newest health word with its arrival, our word count, words sent, items
sent and not yet acknowledged (R318), when mirror traffic last came (R320), whether the write fence still runs and when
the takeover began (R325), tests of R321 whose latest run passed, whether the role has been chosen (R323), and whether the
device's own dump is still to be retired once the active has replayed its own (R168). -/
structure Capo where
  request : Bool
  released : Bool
  seenAt : Nat
  rounds : Nat
  backoff : Bool
  expired : Bool
  releaseCause : Nat
  partner : Option Health
  partnerAt : Nat
  seqOut : Nat
  sent : List Health
  unacked : List MirrorItem
  mirrorAt : Nat
  fence : Bool
  takeoverAt : Option Nat
  passed : Nat
  chosen : Bool
  renewAt : Nat
  mirrorCtx : List Update
  retireDue : Bool
deriving DecidableEq, Repr

/-! ### Federation, pitch time, plucks (R329 to R348) -/

/-- States of a pluck entry (R348). -/
inductive PluckSt where
  | armed | done | lateDone | dropped | cancelled | running
deriving DecidableEq, Repr

/-- An entry of the pluck table that is not EMPTY (R340): the pluck, its state, drop reason, whether it is standing, and the lateness of its last
late run or drop (R343). -/
structure PluckEnt where
  msg : PluckMsg
  state : PluckSt
  reason : Nat
  standing : Bool
  lateness : Nat
deriving DecidableEq, Repr

/-- A RUNNING barrier (R345): entry, Te, placement sequence at the cut, and of the before-writes that still have sectors to place
their fetch orders and the keys of their sectors. -/
structure Barrier where
  index : Nat
  te : Nat
  cut : Nat
  orders : List Nat
  keys : List Nat
deriving DecidableEq, Repr

/-- What the device sends into the federation. -/
inductive FedMsg where
  | hello (link : LinkId)
  | exchange
  | announce (a : Announce)
  | pluck (m : PluckMsg)
  | answer (a : PluckAnswer)
  | cancel (origin id : Nat)
  | refuse (reason : Nat)
deriving DecidableEq, Repr

/-- Federation and pitch time: members in view by node with their device identifiers and when they were last heard (R332,
R333), messages sent, candidates announced (R336), the entries of the pluck table by index, the count of plucks written
(R340), members that have still to answer the last WRITE_FED, running barriers in cut order, whether SET_AT_PPS is armed,
the time of the last PPS edge and of its loss, the source of the time of day, whole seconds already signalled on
PPS_OUT, and the offset still to be slewed away (R337). -/
structure Fed where
  members : Tbl Nat
  heard : Tbl Nat
  out : List FedMsg
  candidates : List Announce
  plucks : Tbl PluckEnt
  pluckCount : Nat
  distLeft : Nat
  barriers : List Barrier
  armed : Bool
  ppsAt : Nat
  ppsLostAt : Option Nat
  byHost : Bool
  ppsSeconds : Nat
  slew : Int
deriving DecidableEq, Repr

/-! ### Hold-up packs (R349 to R372) -/

/-- Learned values of a pack (R358, R362, R364): capacity in mAh, measured impedance cells by 5 × temperature band + SOC
band as R_slow and R_fast in µΩ, cycle count × 16, PACK_SERIAL, qualification and FAILED, pitch times of insertion, last test and
last valid learning cycle, and whether a valid learning cycle has run since the replacement. -/
structure Learned where
  capMah : Nat
  cells : Tbl (Nat × Nat)
  cyclesX16 : Nat
  serial : Nat
  qualified : Bool
  failed : Bool
  insertedAt : Nat
  testedAt : Nat
  learnedAt : Nat
  learnedOnce : Bool
deriving DecidableEq, Repr

/-- A running self-test (R356): its next timed action (2 to 7 the steps of those numbers, 8 the second assertion, 9 and 10
the samples that follow it, 11 the end), the samples taken as (mV, mA), in order, and the lowest voltage seen. -/
structure TestRun where
  step : Nat
  samples : List (Nat × Int)
  lowest : Nat
deriving DecidableEq, Repr

/-- A running learning cycle (R360): SOC at its start in ppm, charge counted in mC, whether it rests. -/
structure LearnRun where
  socStart : Nat
  mC : Int
  resting : Bool
deriving DecidableEq, Repr

/-- Why a pack is cut off (R355). -/
inductive CutCause where
  | voltage | temperature
deriving DecidableEq, Repr

/-- A pack: learned values, the ones a replacement displaced with when (R365), state of charge in ppm, PACK_EN and
LOAD_STEP as driven, cut-off, self-test, consecutive failures (R358), learning, retries in this period (R361), whether
the next test is the first after a Pegbox start (R365), whether a learned-value write is due (R364), time present,
since when it has been at rest (R360), when the reported SOC last moved (R363), and whether the test after presence failed
the check of R365. -/
structure Pack where
  learned : Learned
  displaced : Option Learned
  socPpm : Nat
  en : Bool
  loadStep : Bool
  cut : Option CutCause
  test : Option TestRun
  fails : Nat
  learn : Option LearnRun
  learnTries : Nat
  firstTest : Bool
  writeDue : Bool
  presentAt : Nat
  restSince : Option Nat
  socMovedAt : Nat
  sameBad : Bool
deriving DecidableEq, Repr

/-- The gauge: packs by number (A 0, B 1), tests requested in order and those deferred under AC_FAIL_N (R357), and the pack of
a running NRG_CMD TEST or RETEST (R372). -/
structure Nrg where
  packs : Tbl Pack
  queue : List PackId
  deferred : List PackId
  cmd : Option PackId
deriving DecidableEq, Repr

/-! ### Temperatures and fans (R375 to R395, R473) -/

/-- How far a thermal stop has come (R378): running commands out, destaging, dumping, gated. -/
inductive ThermStop where
  | drain | destage | dump | gated
deriving DecidableEq, Repr

/-- Temperatures: sensor readings in 0.1 °C by index, clock steps of R377, whether the clock is held a step lower for a
silent regulator (R423) or for power (R473), the thermal stop with the samples taken since it began, and the functions whose
temperature threshold is passed. -/
structure Therm where
  sensors : Tbl Int
  throttle : Nat
  avsHold : Bool
  powerHold : Bool
  stop : Option ThermStop
  stopMs : Nat
  overThreshold : List Nat
deriving DecidableEq, Repr

/-- A fan channel: seconds waited (R391), whether the next start takes nominal estimates (R395), its motor estimates (R, L,
flux constant, inertia), the time its block was last written (R382), the time up to which RUN_S counts its turning, the motor parameters that its
last start took (R34), the phase advance in force, the applied voltage angle of the steady class (R386, R388), each in 0.0005°, and the
switching-table sector of the boost class, and the consecutive skips and natural periods (R389). -/
structure Fan where
  waited : Nat
  relearn : Bool
  estimates : List Nat
  blockAt : Option Nat
  turnSince : Option Nat
  entry : Option FanChannel
  advance : Nat
  angle : Nat
  sector : Nat
  skips : Nat
  natural : Nat
deriving DecidableEq, Repr

/-! ### Aging and counters since manufacture (R463, R490 to R493) -/

/-- Aging: the last minimum of Tj and the maximum that followed a rise of 40 °C (R493), AGE_EQUIV in µs beyond whole seconds,
seconds in the running hour of each band of AGE_TJ_HIST, the copy that eMRAM holds of the counters since manufacture
(R463), and eMRAM's last refresh (R474). -/
structure Age where
  tjMin : Int
  tjTop : Option Int
  micro : Nat
  bandSec : Tbl Nat
  saved : Tbl Nat
  refreshed : Nat
deriving DecidableEq, Repr

/-! ### The whole state -/

/-- The state of the block. `pending` is the queue of commands that wait, first in, first out; `now` the device clock in
nanoseconds (assumption 3) and `freeIx` the counter of free values (assumption 4), both the model's own. `latches` holds
the snapshot latches of R464 and R466 and `heldLo` the held low words of R465, by register key times 4 plus interface;
`lastSmb` is the SMBus status of the last WRITE32 (R460), `answer` what the last read command returned. -/
structure State where
  pending : List Instr
  now : Nat
  freeIx : Nat
  regs : Tbl Nat
  latches : Tbl Nat
  heldLo : Tbl Nat
  lastSmb : Nat
  answer : List Nat
  pwr : Pwr
  evr : Evr
  err : Err
  img : Img
  cal : Cal
  map : MapSt
  hfe : Hfe
  lat : Lat
  wc : Wc
  vault : Vault
  rbe : Rbe
  sc : Sc
  dma : Dma
  cip : Cip
  ports : Tbl PortSt
  capo : Capo
  fed : Fed
  nrg : Nrg
  therm : Therm
  fans : Tbl Fan
  age : Age
deriving DecidableEq, Repr

/-- The machine right after reset: every rail in range, AON_RST_N and SYS_RST_N low, nothing started (assumption 2).
Registers are at their Reset values, which is what a register that is not listed reads. -/
def State.reset : State where
  pending := []
  now := 0
  freeIx := 0
  regs := []
  latches := []
  heldLo := []
  lastSmb := 0
  answer := []
  pwr := { aonLow := true, sysLow := true, railsOk := true, aonRails := true, fast := .inReset, fwOk := true, fwCache := none, plls := 0,
           sysLowAt := 0, lastOp := 0, pegAt := 0, waits := [], psRun := none, reversing := false, holds := [], wdHold := false, redLed := false,
           sysPending := false, bootStart := 0, saved := false, perstLow := [false, false] }
  evr := { pages := [], sideQ := [], arrivals := [], journal := false, authKey := none, chal := none, failures := 0,
           second := 0, secondCount := 0, spEmram := [], spVault := [], spFlash := [], spVaultDue := [],
           spFlashDue := [], spNowAt := none }
  err := { stack := [], raised := [], active := none, times := [] }
  img := { copyA := .notAnImage, copyB := .notAnImage, cache := .notAnImage, running := none, stage := [],
           staged := none, last := none, newArrays := [], toCreate := [],
           keys := [⟨0, true, false⟩, ⟨0, false, false⟩, ⟨0, false, false⟩, ⟨0, false, false⟩], older := [] }
  cal := { user := [], factory := [], previous := [], journal := none, restoring := none, trims := [] }
  map := { lanes := [], waiting := [], order := 0, results := [], grants := [0, 0, 0, 0] }
  hfe := { fns := [], sqs := [], cqs := [], cmds := [], locks := [], order := 0, fresh0 := 0, freshS := 2048,
           freed0 := [], freedS := [], held := [], gens := [], rr := [0, 0, 0, 0], collector := [],
           posted := [], raised := [], windows := [], formats := [], sanitize := none, sanStatus := 0, dwe := [],
           lateAt := [], paused := [], grants := [0, 0, 0, 0] }
  lat := { cmdTokens := 2048000000, byteTokens := List.replicate 4 16777216000000, hist := [],
           refillAt := 0, rateMs := 0, rateCmds := 0, rateBytes := 0 }
  wc := { lines := [], nextSeq := 0, updates := [], nextUpd := 0, fret := [], fretOps := [],
          counts := [], lastSet := [], dirtyNs := [], dirtyNsSet := [], resync := [], resyncPos := 0,
          destageAll := false, partnerLimit := none, unprotAt := none,
          dumpArea := none, dumpWhy := none, dumpAt := 0, unclean := false, rerun := [], replay := none }
  vault := { dumps := [], erasing := [], failing := [] }
  rbe := { arrays := [], media := [], lost := [], lostOverflow := false, katTesting := [] }
  sc := { lines := [], plru := [], merge := [], acks := [], waiting := [], evict := [], fills := [], dir := [],
          recalls := [], retries := [], rotate := [], held := [], maint := none, rangeOp := none, hbm := [],
          delivered := [], written := [] }
  dma := { runs := [], nextCh := 0, next := [], hostWrites := [], messages := [], messageAt := none }
  cip := { keys := [], kek := none, ownerGen := 0, floors := [], serials := [], marks := [], markDue := [],
           markOld := [], waiting := [], pipes := [], suspended := [], entropy := [], trngFails := [], offTrip := false,
           grants := [0, 0, 0, 0] }
  ports := []
  capo := { request := false, released := false, seenAt := 0, rounds := 0, backoff := false, expired := false,
            releaseCause := 0, partner := none, partnerAt := 0, seqOut := 0, sent := [], unacked := [], mirrorAt := 0,
            fence := false, takeoverAt := none, passed := 0, chosen := false, renewAt := 0, mirrorCtx := [], retireDue := false }
  fed := { members := [], heard := [], out := [], candidates := [], plucks := [], pluckCount := 0, distLeft := 0,
           barriers := [], armed := false, ppsAt := 0, ppsLostAt := none, byHost := false, ppsSeconds := 0, slew := 0 }
  nrg := { packs := [], queue := [], deferred := [], cmd := none }
  therm := { sensors := [], throttle := 0, avsHold := false, powerHold := false, stop := none, stopMs := 0, overThreshold := [] }
  fans := []
  age := { tjMin := 0, tjTop := none, micro := 0, bandSec := [], saved := [], refreshed := 0 }

end Sys2Proof.Machine
end

