-- ==== Sys2Proof/Machine/Events.lean ====
section
/-!
DEFINITION. Machine/Events.lean: of every event the rules record, the source block (R402) and the severity (R401: 2 where
the rule names none), and its TYPE.
-/
namespace Sys2Proof.Machine

/-- The block index of an event: its register block base divided by 0x0010_0000 (R402). -/
def evBlock (e : Ev) : Nat :=
  match e with
  | .clearRec => 12
  | .logNearlyFull => 12
  | .freezeTimeout => 12
  | .authFail => 12
  | .authKeySet => 12
  | .soundpost => 12
  | .soundpostRepaired => 12
  | .nonSemanticDiff => 16
  | .imageRewrite => 16
  | .tieResolved => 16
  | .calFallback => 17
  | .calRestored => 17
  | .mappingFault => 2
  | .adminQueueTooLarge => 1
  | .lateDrop => 1
  | .dweUnlisted => 1
  | .mirrorLost => 9
  | .writeThroughChange => 9
  | .unprotected => 9
  | .sliceFailed => 4
  | .memberFailed => 5
  | .memberFailRefused => 5
  | .mediaErrorsEventOnly => 5
  | .backgroundMappingFault => 5
  | .scrubBehind => 5
  | .scrubMismatch => 5
  | .scrubNotLocatable => 5
  | .bowBufferFull => 5
  | .reshapeEnd => 5
  | .arrCmdIgnored => 5
  | .labelDifference => 5
  | .railAvsSilent => 0
  | .sysRstLongHold => 0
  | .noFirmware => 0
  | .acFailSilence => 0
  | .acReturnSilence => 0
  | .recoverableError => 0
  | .fatalError => 0
  | .safeModeIgnored => 0
  | .driveHeld => 8
  | .labelDiffers => 8
  | .driveHealth => 8
  | .spinupPluckTimeout => 8
  | .portCmdIgnored => 8
  | .scUncorrectable => 3
  | .dmaPluckIgnored => 7
  | .authFailedCmd => 6
  | .nonceWarn => 6
  | .trngHealth => 6
  | .trngFailed => 6
  | .tamper => 6
  | .capoLineFault => 15
  | .contentionUnresolved => 15
  | .dualActive => 15
  | .mirrorMismatch => 15
  | .selftestCritical => 15
  | .partnerMismatch => 15
  | .capoCmdIgnored => 15
  | .joinRefused => 14
  | .pluckLate => 13
  | .eventMark => 13
  | .barrierDone => 13
  | .packFailed => 10
  | .packHealth => 10
  | .packReplaced => 10
  | .vaultRate => 9
  | .wearWarn => 9
  | .thermalState => 11
  | .fansAbsent => 11
  | .fanPinLoss => 11
  | .fanFault => 11
  | .fanCmdIgnored => 11
  | .marginOut => 0
  | .lifeWarn => 0

/-- The severity of an event (R401). -/
def evSev (e : Ev) : Nat :=
  match e with
  | .clearRec => 5
  | .logNearlyFull => 5
  | .freezeTimeout => 4
  | .authFail => 5
  | .authKeySet => 6
  | .soundpost => 7
  | .soundpostRepaired => 4
  | .nonSemanticDiff => 2
  | .imageRewrite => 2
  | .tieResolved => 2
  | .calFallback => 2
  | .calRestored => 2
  | .mappingFault => 2
  | .adminQueueTooLarge => 2
  | .lateDrop => 2
  | .dweUnlisted => 6
  | .mirrorLost => 2
  | .writeThroughChange => 2
  | .unprotected => 6
  | .sliceFailed => 6
  | .memberFailed => 5
  | .memberFailRefused => 2
  | .mediaErrorsEventOnly => 2
  | .backgroundMappingFault => 6
  | .scrubBehind => 2
  | .scrubMismatch => 5
  | .scrubNotLocatable => 6
  | .bowBufferFull => 6
  | .reshapeEnd => 2
  | .arrCmdIgnored => 2
  | .labelDifference => 2
  | .railAvsSilent => 5
  | .sysRstLongHold => 4
  | .noFirmware => 7
  | .acFailSilence => 2
  | .acReturnSilence => 2
  | .recoverableError => 2
  | .fatalError => 2
  | .safeModeIgnored => 2
  | .driveHeld => 2
  | .labelDiffers => 2
  | .driveHealth => 5
  | .spinupPluckTimeout => 2
  | .portCmdIgnored => 2
  | .scUncorrectable => 5
  | .dmaPluckIgnored => 2
  | .authFailedCmd => 5
  | .nonceWarn => 4
  | .trngHealth => 5
  | .trngFailed => 6
  | .tamper => 6
  | .capoLineFault => 7
  | .contentionUnresolved => 6
  | .dualActive => 7
  | .mirrorMismatch => 5
  | .selftestCritical => 6
  | .partnerMismatch => 6
  | .capoCmdIgnored => 2
  | .joinRefused => 6
  | .pluckLate => 4
  | .eventMark => 2
  | .barrierDone => 2
  | .packFailed => 6
  | .packHealth => 5
  | .packReplaced => 4
  | .vaultRate => 6
  | .wearWarn => 5
  | .thermalState => 4
  | .fansAbsent => 5
  | .fanPinLoss => 4
  | .fanFault => 5
  | .fanCmdIgnored => 2
  | .marginOut => 5
  | .lifeWarn => 5

/-- The number of an event in the model's catalogue. -/
def evIndex (e : Ev) : Nat :=
  match e with
  | .clearRec => 0
  | .logNearlyFull => 1
  | .freezeTimeout => 2
  | .authFail => 3
  | .authKeySet => 4
  | .soundpost => 5
  | .soundpostRepaired => 6
  | .nonSemanticDiff => 7
  | .imageRewrite => 8
  | .tieResolved => 9
  | .calFallback => 10
  | .calRestored => 11
  | .mappingFault => 12
  | .adminQueueTooLarge => 13
  | .lateDrop => 14
  | .dweUnlisted => 15
  | .mirrorLost => 16
  | .writeThroughChange => 17
  | .unprotected => 18
  | .sliceFailed => 19
  | .memberFailed => 20
  | .memberFailRefused => 21
  | .mediaErrorsEventOnly => 22
  | .backgroundMappingFault => 23
  | .scrubBehind => 24
  | .scrubMismatch => 25
  | .scrubNotLocatable => 26
  | .bowBufferFull => 27
  | .reshapeEnd => 28
  | .arrCmdIgnored => 29
  | .labelDifference => 30
  | .railAvsSilent => 31
  | .sysRstLongHold => 32
  | .noFirmware => 33
  | .acFailSilence => 34
  | .acReturnSilence => 35
  | .recoverableError => 36
  | .fatalError => 37
  | .safeModeIgnored => 38
  | .driveHeld => 39
  | .labelDiffers => 40
  | .driveHealth => 41
  | .spinupPluckTimeout => 42
  | .portCmdIgnored => 43
  | .scUncorrectable => 44
  | .dmaPluckIgnored => 45
  | .authFailedCmd => 46
  | .nonceWarn => 47
  | .trngHealth => 48
  | .trngFailed => 49
  | .tamper => 50
  | .capoLineFault => 51
  | .contentionUnresolved => 52
  | .dualActive => 53
  | .mirrorMismatch => 54
  | .selftestCritical => 55
  | .partnerMismatch => 56
  | .capoCmdIgnored => 57
  | .joinRefused => 58
  | .pluckLate => 59
  | .eventMark => 60
  | .barrierDone => 61
  | .packFailed => 62
  | .packHealth => 63
  | .packReplaced => 64
  | .vaultRate => 65
  | .wearWarn => 66
  | .thermalState => 67
  | .fansAbsent => 68
  | .fanPinLoss => 69
  | .fanFault => 70
  | .fanCmdIgnored => 71
  | .marginOut => 72
  | .lifeWarn => 73

/-- The event code TYPE[5:0]: 1 to 7 for the recorder's own events (R402), free for the others (assumption 11). -/
def evCode (e : Ev) : Nat :=
  if evIndex e < 7 then evIndex e + 1 else (Config.eventCode (evIndex e)).toNat

/-- TYPE: block index in [11:6], event code in [5:0] (R402). -/
def evType (e : Ev) : Nat := evBlock e * 64 + evCode e

/-- Every event, in catalogue order (R402). -/
def evAll : List Ev :=
  [.clearRec, .logNearlyFull, .freezeTimeout, .authFail, .authKeySet, .soundpost,
   .soundpostRepaired, .nonSemanticDiff, .imageRewrite, .tieResolved, .calFallback, .calRestored,
   .mappingFault, .adminQueueTooLarge, .lateDrop, .dweUnlisted, .mirrorLost, .writeThroughChange,
   .unprotected, .sliceFailed, .memberFailed, .memberFailRefused, .mediaErrorsEventOnly, .backgroundMappingFault,
   .scrubBehind, .scrubMismatch, .scrubNotLocatable, .bowBufferFull, .reshapeEnd, .arrCmdIgnored,
   .labelDifference, .railAvsSilent, .sysRstLongHold, .noFirmware, .acFailSilence, .acReturnSilence,
   .recoverableError, .fatalError, .safeModeIgnored, .driveHeld, .labelDiffers, .driveHealth,
   .spinupPluckTimeout, .portCmdIgnored, .scUncorrectable, .dmaPluckIgnored, .authFailedCmd, .nonceWarn,
   .trngHealth, .trngFailed, .tamper, .capoLineFault, .contentionUnresolved, .dualActive,
   .mirrorMismatch, .selftestCritical, .partnerMismatch, .capoCmdIgnored, .joinRefused, .pluckLate,
   .eventMark, .barrierDone, .packFailed, .packHealth, .packReplaced, .vaultRate,
   .wearWarn, .thermalState, .fansAbsent, .fanPinLoss, .fanFault, .fanCmdIgnored,
   .marginOut, .lifeWarn]

end Sys2Proof.Machine
end

