-- ==== Sys2Proof/Machine/Regs.lean ====
section
/-!
DEFINITION. Machine/Regs.lean: the register map (R456, R468 and the register tables of every chapter) as data: one
definition for each field, giving the management-space address of its register (instance 0), its lowest bit, its width,
access type (R6), Reset value, what resets it (R462), and the stride and count of its instances (R7). A _LO/_HI pair
(R464) and a multi-word group (R466) is one wide field counted from its first word. Windows (IMG_STAGE_WINDOW,
EVR_PAGE_WINDOW, EVR_CAT_WINDOW, SP_WINDOW, ERR_STACK) have no row: Machine/RegAccess.lean reads them from State.
-/
namespace Sys2Proof.Machine

/-- Access types of R6; an RSV field has no row, since it reads zero and ignores writes (R457). -/
inductive Access where
  | ro | rw | w1c | w1s | rc | wo
deriving DecidableEq, Repr

/-- What gives a field its Reset value again (R462, R463): `die` the register reset of the die that serves it; `boot`
nothing, since the serving domain loads it at boot; `aon` always-on power-up; `keep` nothing, since eMRAM holds it;
`fused` nothing, since it is fused. -/
inductive Life where
  | die | boot | aon | keep | fused
deriving DecidableEq, Repr

/-- A register field. -/
structure Field where
  addr : Nat
  lsb : Nat
  width : Nat
  acc : Access
  reset : Nat
  life : Life
  stride : Nat
  count : Nat
deriving DecidableEq, Repr

/-- Instance i of an indexed field (R7). An instance the field does not have lies beyond every register's address. -/
def Field.at (f : Field) (i : Nat) : Field :=
  { f with addr := if i < f.count then f.addr + i * f.stride else 0x100000000 + f.addr + i * f.stride }

/-- The number under which State holds the value of a field: 4096 keys for each address. -/
def Field.key (f : Field) : Nat := f.addr * 4096 + f.lsb

namespace Fld

/-- R469: part number. -/
def SYS_ID.PART : Field := ⟨0x0020000, 0, 16, .ro, 0x4896, .die, 0, 1⟩
/-- R469: 0 PX4896-H48; 1 PX4896-H72. -/
def SYS_ID.ORDER : Field := ⟨0x0020000, 16, 2, .ro, 1, .fused, 0, 1⟩
/-- R469: 0 A; 1 B. -/
def SYS_ID.STEP_LETTER : Field := ⟨0x0020000, 20, 4, .ro, 1, .die, 0, 1⟩
/-- R469: stepping digit. -/
def SYS_ID.STEP_NUM : Field := ⟨0x0020000, 24, 4, .ro, 0, .die, 0, 1⟩
/-- R469: 24 or 36. -/
def SYS_HBM.STACK_GIB : Field := ⟨0x0020004, 0, 8, .ro, 0x24, .fused, 0, 1⟩
/-- R469: running bank version (R438). -/
def SYS_FW.VERSION : Field := ⟨0x0020008, 0, 16, .ro, 0, .boot, 0, 1⟩
/-- R469: 0 bank A; 1 bank B. -/
def SYS_FW.BANK : Field := ⟨0x0020008, 16, 1, .ro, 0, .boot, 0, 1⟩
/-- R469: 1 when loaded from the eMRAM firmware cache. -/
def SYS_FW.FROM_CACHE : Field := ⟨0x0020008, 17, 1, .ro, 0, .boot, 0, 1⟩
/-- R469: as PWR_STATE. -/
def SYS_STATUS.PEGBOX_READY : Field := ⟨0x002000C, 0, 1, .ro, 0, .die, 0, 1⟩
/-- R469: 1 while the fast domains run or sleep. -/
def SYS_STATUS.FAST_RUNNING : Field := ⟨0x002000C, 1, 1, .ro, 0, .die, 0, 1⟩
/-- R469: as IMG_BOOT. -/
def SYS_STATUS.SAFE_MODE : Field := ⟨0x002000C, 2, 1, .ro, 0, .boot, 0, 1⟩
/-- R469: as CIP_STATUS. -/
def SYS_STATUS.TAMPER_HOLD : Field := ⟨0x002000C, 3, 1, .ro, 0, .boot, 0, 1⟩
/-- R469: as ERR_STATUS. -/
def SYS_STATUS.FATAL_HOLD : Field := ⟨0x002000C, 4, 1, .ro, 0, .die, 0, 1⟩
/-- R469: as HFE_STATUS. -/
def SYS_STATUS.REPLAY_PENDING : Field := ⟨0x002000C, 5, 1, .ro, 0, .boot, 0, 1⟩
/-- R469: as CAPO_STATUS. -/
def SYS_STATUS.GATE_OPEN : Field := ⟨0x002000C, 6, 1, .ro, 0, .die, 0, 1⟩
/-- R469: as PWR_STATE.STATE. -/
def SYS_STATUS.POWER : Field := ⟨0x002000C, 7, 3, .ro, 0, .boot, 0, 1⟩
/-- R469: as THERM_STATUS.STATE. -/
def SYS_STATUS.THERMAL : Field := ⟨0x002000C, 10, 2, .ro, 0, .die, 0, 1⟩
/-- R468: 128-bit unique device ID, bits [31:0] in word 0. -/
def SYS_DEVICE_ID : Field := ⟨0x0020010, 0, 128, .ro, 0, .fused, 0, 1⟩
/-- R468: 16-character serial, ASCII, character 0 in word 0 bits [7:0]. -/
def SYS_SERIAL : Field := ⟨0x0020020, 0, 128, .ro, 0, .fused, 0, 1⟩
/-- R469: 1 after a refused or unmapped access. -/
def SYS_BUS_STATUS.ERR : Field := ⟨0x0020030, 0, 1, .w1c, 0, .die, 0, 1⟩
/-- R469: 0 host port 0; 1 host port 1; 2 SMBus; 3 firmware. -/
def SYS_BUS_STATUS.IFACE : Field := ⟨0x0020030, 1, 2, .ro, 0, .die, 0, 1⟩
/-- R469: 0 none; 1 unmapped or reserved; 2 width or partial write; 3 owner; 4 domain powered down; . -/
def SYS_BUS_STATUS.REASON : Field := ⟨0x0020030, 3, 3, .ro, 0, .die, 0, 1⟩
/-- R468: [25:0] its offset; [31:26] RSV. -/
def SYS_BUS_ADDR.OFFSET : Field := ⟨0x0020034, 0, 26, .ro, 0, .die, 0, 1⟩
/-- R468: free for software; reset 0. -/
def SYS_SCRATCH : Field := ⟨0x0020038, 0, 32, .rw, 0, .die, 0, 1⟩
/-- R468: seconds since Pegbox start. -/
def SYS_UPTIME_S : Field := ⟨0x0020040, 0, 64, .ro, 0, .die, 0, 1⟩
/-- R468: stack s: [0] TRAINED; [1] SELF_REFRESH; [31:2] RSV. -/
def SYS_HBM_STAT.TRAINED : Field := ⟨0x0020100, 0, 1, .ro, 0, .die, 32, 2⟩
/-- R468: stack s: [0] TRAINED; [1] SELF_REFRESH; [31:2] RSV. -/
def SYS_HBM_STAT.SELF_REFRESH : Field := ⟨0x0020100, 1, 1, .ro, 0, .die, 32, 2⟩
/-- R468: stack s corrected errors since manufacture. -/
def HBM_CORR : Field := ⟨0x0020108, 0, 64, .ro, 0, .keep, 32, 2⟩
/-- R468: stack s uncorrectable errors since manufacture. -/
def HBM_UNCORR : Field := ⟨0x0020110, 0, 64, .ro, 0, .keep, 32, 2⟩
/-- R442: 0 Full; 1 Trim; 2 Rest; 3 Silence; 4 entering; 5 exiting. -/
def PWR_STATE.STATE : Field := ⟨0x0021000, 0, 3, .ro, 0, .boot, 0, 1⟩
/-- R442: state being entered or exited, encoded as STATE. -/
def PWR_STATE.TARGET : Field := ⟨0x0021000, 3, 3, .ro, 0, .die, 0, 1⟩
/-- R442: 0 running or sleeping; 1 held in reset by SYS_RST_N; 2 held for rails out of range; 3 no v. -/
def PWR_STATE.FAST : Field := ⟨0x0021000, 6, 2, .ro, 0, .boot, 0, 1⟩
/-- R442: R437. -/
def PWR_STATE.PEGBOX_READY : Field := ⟨0x0021000, 8, 1, .ro, 0, .die, 0, 1⟩
/-- R442: 1 from boot start to step 7 of R439. -/
def PWR_STATE.BOOTING : Field := ⟨0x0021000, 9, 1, .ro, 0, .die, 0, 1⟩
/-- R442: 1 while a dump under R434 delays the reset. -/
def PWR_STATE.RESET_DUMP : Field := ⟨0x0021000, 10, 1, .ro, 0, .die, 0, 1⟩
/-- R442: always-on rails came up. -/
def PWR_RESET_INFO.AON_POR : Field := ⟨0x0021004, 0, 1, .w1c, 1, .aon, 0, 1⟩
/-- R442: AON_RST_N reset the Pegbox die. -/
def PWR_RESET_INFO.AON_PIN : Field := ⟨0x0021004, 1, 1, .w1c, 0, .die, 0, 1⟩
/-- R442: Pegbox watchdog reset (R18). -/
def PWR_RESET_INFO.WATCHDOG : Field := ⟨0x0021004, 2, 1, .w1c, 0, .die, 0, 1⟩
/-- R442: SYS_RST_N reset the fast domains. -/
def PWR_RESET_INFO.SYS_PIN : Field := ⟨0x0021004, 3, 1, .w1c, 0, .die, 0, 1⟩
/-- R442: ACTIVATE_RESET (R48). -/
def PWR_RESET_INFO.ACTIVATE : Field := ⟨0x0021004, 4, 1, .w1c, 0, .die, 0, 1⟩
/-- R442: fast domains reset after a fatal error or thermal stop. -/
def PWR_RESET_INFO.FATAL : Field := ⟨0x0021004, 5, 1, .w1c, 0, .die, 0, 1⟩
/-- R442: fast domains held for a rail out of range (R422). -/
def PWR_RESET_INFO.RAIL : Field := ⟨0x0021004, 6, 1, .w1c, 0, .die, 0, 1⟩
/-- R442: the last SYS_RST_N hold exceeded 10 s. -/
def PWR_RESET_INFO.LONG_HOLD : Field := ⟨0x0021004, 7, 1, .w1c, 0, .die, 0, 1⟩
/-- R441: last SYS_RST_N hold, ms, saturating at 0xFFFF_FFFF. -/
def PWR_RST_HOLD_MS : Field := ⟨0x0021008, 0, 32, .ro, 0, .keep, 0, 1⟩
/-- R441: last fast boot, start to step 7, µs. -/
def PWR_BOOT_US : Field := ⟨0x002100C, 0, 32, .ro, 0, .die, 0, 1⟩
/-- R441: last vault replay, step 7 to namespaces online, ms, saturating. -/
def PWR_REPLAY_MS : Field := ⟨0x0021010, 0, 32, .ro, 0, .die, 0, 1⟩
/-- R442: setpoint 0.900 V + 5 mV × STEP, 0 to 16. -/
def PWR_AVS.STEP : Field := ⟨0x0021014, 0, 8, .ro, 0, .die, 0, 1⟩
/-- R442: 1 while the regulator does not answer (R423). -/
def PWR_AVS.NO_ANSWER : Field := ⟨0x0021014, 8, 1, .ro, 0, .die, 0, 1⟩
/-- R442: bit order VDD_AON, VDD_AON18, VDD_PB, VDD_IO18, VDD_FB, VDD_SD, VDD_SH, VDD_HBM; 1 in rang. -/
def PWR_RAILS.IN_RANGE : Field := ⟨0x0021018, 0, 8, .ro, 0, .boot, 0, 1⟩
/-- R441: power-state transitions since manufacture. -/
def PWR_TRANS_COUNT : Field := ⟨0x0021020, 0, 64, .ro, 0, .keep, 0, 1⟩
/-- R453: entries on the stack, 0 to 4. -/
def ERR_STATUS.DEPTH : Field := ⟨0x0022000, 0, 3, .ro, 0, .die, 0, 1⟩
/-- R453: R451. -/
def ERR_STATUS.FATAL_HOLD : Field := ⟨0x0022000, 3, 1, .ro, 0, .die, 0, 1⟩
/-- R453: fatal errors in the last 24 h, saturating at 7. -/
def ERR_STATUS.FATAL_24H : Field := ⟨0x0022000, 4, 3, .ro, 0, .die, 0, 1⟩
/-- R453: cause of R449 for the last fatal error; 0 none. -/
def ERR_STATUS.LAST_CAUSE : Field := ⟨0x0022000, 8, 4, .ro, 0, .die, 0, 1⟩
/-- R453: 1 RESTART: ends FATAL_HOLD; others ignored. -/
def ERR_CMD.CMD : Field := ⟨0x0022004, 0, 2, .wo, 0, .die, 0, 1⟩
/-- R453: 0 to 4. -/
def ERR_DEPTH_MAX.DEPTH : Field := ⟨0x0022008, 0, 3, .rc, 0, .die, 0, 1⟩
/-- R452: fatal errors since manufacture, saturating at 0xFFFF_FFFF. -/
def ERR_FATAL_COUNT : Field := ⟨0x002200C, 0, 32, .ro, 0, .keep, 0, 1⟩
/-- R452: entries handled since Pegbox start. -/
def ERR_RECOVERED : Field := ⟨0x0022010, 0, 64, .ro, 0, .die, 0, 1⟩
/-- R493: R491. -/
def AGE_STATUS.MARGIN_OUT : Field := ⟨0x0023000, 0, 1, .ro, 0, .boot, 0, 1⟩
/-- R493: R490. -/
def AGE_STATUS.LIFE_WARN : Field := ⟨0x0023000, 1, 1, .ro, 0, .boot, 0, 1⟩
/-- R493: 1 while a ring-oscillator measurement runs. -/
def AGE_STATUS.MEASURING : Field := ⟨0x0023000, 2, 1, .ro, 0, .die, 0, 1⟩
/-- R493: life consumed in 0.01 %, saturating at 65,535. -/
def AGE_LIFE.PCT_X100 : Field := ⟨0x0023004, 0, 16, .ro, 0, .boot, 0, 1⟩
/-- R492: AGE_EQUIV in seconds. -/
def AGE_EQUIV_S : Field := ⟨0x0023008, 0, 64, .ro, 0, .keep, 0, 1⟩
/-- R493: slowdown in 0.01 %. -/
def AGE_RO_SLOW.SLOW_X100 : Field := ⟨0x0023010, 0, 16, .ro, 0, .boot, 0, 1⟩
/-- R493: aging steps, 0 to 31 before the cap. -/
def AGE_AVS_STEPS.AGING : Field := ⟨0x0023014, 0, 5, .ro, 0, .boot, 0, 1⟩
/-- R493: temperature steps, 0 or 2. -/
def AGE_AVS_STEPS.TEMP : Field := ⟨0x0023014, 5, 2, .ro, 0, .die, 0, 1⟩
/-- R493: clock steps held under R491, 0 to 8. -/
def AGE_AVS_STEPS.EXTRA_CLOCK : Field := ⟨0x0023014, 7, 4, .ro, 0, .die, 0, 1⟩
/-- R493: signed °C. -/
def AGE_TJ_MAX.TJ : Field := ⟨0x0023018, 0, 8, .ro, 0, .boot, 0, 1⟩
/-- R492: always-on power-ups, saturating at 0xFFFF_FFFF. -/
def AGE_PWR_CYCLES : Field := ⟨0x002301C, 0, 32, .ro, 0, .keep, 0, 1⟩
/-- R492: thermal cycles, saturating at 0xFFFF_FFFF. -/
def AGE_THERM_CYCLES : Field := ⟨0x0023020, 0, 32, .ro, 0, .keep, 0, 1⟩
/-- R492: hours with Tj in band b: below 55 °C, 55 to 65, 65 to 75, 75 to 85, 85 to 95, 95 to 105, 1. -/
def AGE_TJ_HIST : Field := ⟨0x0023040, 0, 32, .ro, 0, .keep, 4, 8⟩
/-- R146: 1 while classes 1 to 3 are skipped for lack of tags or entries. -/
def HFE_STATUS.PAUSE_SHARED : Field := ⟨0x0100000, 0, 1, .ro, 0, .die, 0, 1⟩
/-- R146: 1 while class 0 is skipped as well. -/
def HFE_STATUS.PAUSE_ALL : Field := ⟨0x0100000, 1, 1, .ro, 0, .die, 0, 1⟩
/-- R146: 1 from the Sanitize fence to its end. -/
def HFE_STATUS.SANITIZE_ACTIVE : Field := ⟨0x0100000, 2, 1, .ro, 0, .die, 0, 1⟩
/-- R146: 1 while any Format runs. -/
def HFE_STATUS.FORMAT_ACTIVE : Field := ⟨0x0100000, 3, 1, .ro, 0, .die, 0, 1⟩
/-- R146: 1 until vault replay ends. -/
def HFE_STATUS.REPLAY_PENDING : Field := ⟨0x0100000, 4, 1, .ro, 0, .boot, 0, 1⟩
/-- R146: 1 while fetch is stopped for image activation (R48). -/
def HFE_STATUS.ACTIVATION_FENCE : Field := ⟨0x0100000, 5, 1, .ro, 0, .die, 0, 1⟩
/-- R146: tags in use, 0 to 65,536. -/
def HFE_TAG_OCC.TAGS : Field := ⟨0x0100004, 0, 17, .ro, 0, .die, 0, 1⟩
/-- R146: class-0 tags in use, 0 to 2,048 counted in reserved indices. -/
def HFE_TAG_OCC.C0_TAGS : Field := ⟨0x0100004, 17, 12, .ro, 0, .die, 0, 1⟩
/-- R146: entries in use, 0 to 65,536. -/
def HFE_LOCK_OCC.ENTRIES : Field := ⟨0x0100008, 0, 17, .ro, 0, .die, 0, 1⟩
/-- R146: reserved entries in use, 0 to 2,048. -/
def HFE_LOCK_OCC.C0_ENTRIES : Field := ⟨0x0100008, 17, 12, .ro, 0, .die, 0, 1⟩
/-- R146: SQs not granted. -/
def HFE_POOL.FREE_SQ : Field := ⟨0x010000C, 0, 16, .ro, 0x8000, .die, 0, 1⟩
/-- R146: CQs not granted. -/
def HFE_POOL.FREE_CQ : Field := ⟨0x010000C, 16, 16, .ro, 0x8000, .die, 0, 1⟩
/-- R145: completions dropped under R123. -/
def HFE_LATE_DROP_COUNT : Field := ⟨0x0100010, 0, 64, .ro, 0, .die, 0, 1⟩
/-- R146: drive port 0 to 47. -/
def HFE_LATE_DROP_INFO.PORT : Field := ⟨0x0100018, 0, 6, .ro, 0, .die, 0, 1⟩
/-- R146: tag index. -/
def HFE_LATE_DROP_INFO.INDEX : Field := ⟨0x0100018, 6, 16, .ro, 0, .die, 0, 1⟩
/-- R146: generation carried by the dropped completion. -/
def HFE_LATE_DROP_INFO.GEN : Field := ⟨0x0100018, 22, 8, .ro, 0, .die, 0, 1⟩
/-- R145: commands that waited on a range lock. -/
def HFE_LOCK_WAIT_COUNT : Field := ⟨0x0100020, 0, 64, .ro, 0, .die, 0, 1⟩
/-- R145: episodes of a class skipped for lack of tags or entries. -/
def HFE_FETCH_PAUSE_COUNT : Field := ⟨0x0100028, 0, 64, .ro, 0, .die, 0, 1⟩
/-- R145: Command ID Conflict completions. -/
def HFE_CID_CONFLICT_COUNT : Field := ⟨0x0100030, 0, 64, .ro, 0, .die, 0, 1⟩
/-- R146: entries in the deferred-error list, 0 to 4,096. -/
def HFE_DWE_STATUS.ENTRIES : Field := ⟨0x0100038, 0, 13, .ro, 0, .boot, 0, 1⟩
/-- R146: as log page 0xC0. -/
def HFE_DWE_STATUS.OVERFLOW : Field := ⟨0x0100038, 13, 1, .ro, 0, .boot, 0, 1⟩
/-- R146: largest number of entries waiting since last read. -/
def HFE_COLLECT_MAX.MAX_DEPTH : Field := ⟨0x0100040, 0, 16, .rc, 0, .die, 4, 2⟩
/-- R223: 1 histograms count. -/
def LAT_CTRL.HIST_EN : Field := ⟨0x0100100, 0, 1, .rw, 1, .die, 0, 1⟩
/-- R223: 1 zeroes every histogram bin. -/
def LAT_CTRL.HIST_CLEAR : Field := ⟨0x0100100, 1, 1, .wo, 0, .die, 0, 1⟩
/-- R223: 1 while the command bucket is below zero. -/
def LAT_STATUS.CMD_THROTTLE : Field := ⟨0x0100104, 0, 1, .ro, 0, .die, 0, 1⟩
/-- R223: bit 2 × port + direction (0 to host, 1 from host) is 1 while that byte bucket is below zer. -/
def LAT_STATUS.BYTE_THROTTLE : Field := ⟨0x0100104, 1, 4, .ro, 0, .die, 0, 1⟩
/-- R223: 1 while class-0 commands outstanding exceed C0_OUTSTANDING. -/
def LAT_STATUS.OUTSTANDING_OVER : Field := ⟨0x0100104, 5, 1, .ro, 0, .die, 0, 1⟩
/-- R223: 1 while any exclusion of R221 is in force. -/
def LAT_STATUS.EXCLUSION : Field := ⟨0x0100104, 6, 1, .ro, 0, .die, 0, 1⟩
/-- R222: class-0 commands completed inside R220. -/
def LAT_C0_DONE : Field := ⟨0x0100108, 0, 64, .ro, 0, .die, 0, 1⟩
/-- R222: of those, commands that exceeded R219. -/
def LAT_C0_VIOL : Field := ⟨0x0100110, 0, 64, .ro, 0, .die, 0, 1⟩
/-- R222: class-0 commands failing a condition of R220. -/
def LAT_C0_OUTSIDE : Field := ⟨0x0100118, 0, 64, .ro, 0, .die, 0, 1⟩
/-- R222: class-0 commands under an exclusion of R221. -/
def LAT_C0_EXCL : Field := ⟨0x0100120, 0, 64, .ro, 0, .die, 0, 1⟩
/-- R223: interval in ns, saturating at 16,777,215. -/
def LAT_C0_ISSUE_MAX.NS : Field := ⟨0x0100128, 0, 24, .rc, 0, .die, 0, 1⟩
/-- R223: interval in ns, saturating at 16,777,215. -/
def LAT_C0_POST_MAX.NS : Field := ⟨0x010012C, 0, 24, .rc, 0, .die, 0, 1⟩
/-- R223: class-0 fetches, thousands per second. -/
def LAT_C0_RATE.KCMD : Field := ⟨0x0100130, 0, 16, .ro, 0, .die, 0, 1⟩
/-- R223: class-0 data, both ports and directions, in units of 0.01 GB/s. -/
def LAT_C0_RATE.GBPS_X100 : Field := ⟨0x0100130, 16, 16, .ro, 0, .die, 0, 1⟩
/-- R222: reconstructs started on deadline, class c. -/
def LAT_RECON : Field := ⟨0x0100140, 0, 64, .ro, 0, .die, 8, 4⟩
/-- R222: copies dropped under R216. -/
def LAT_SUPERSEDED : Field := ⟨0x0100160, 0, 64, .ro, 0, .die, 0, 1⟩
/-- R223: class 0 to 3. -/
def LAT_HIST_SEL.CLASS : Field := ⟨0x0100170, 0, 2, .rw, 0, .die, 0, 1⟩
/-- R223: bin 0 counts intervals below 1 µs; bin b from 1 to 30 counts 2^(b−1) µs up to 2^b µs; bin . -/
def LAT_HIST_SEL.BIN : Field := ⟨0x0100170, 2, 5, .rw, 0, .die, 0, 1⟩
/-- R223: 0 doorbell to posted; 1 doorbell to issue; 2 member completion to posted; 3 reserved, read. -/
def LAT_HIST_SEL.MEASURE : Field := ⟨0x0100170, 7, 2, .rw, 0, .die, 0, 1⟩
/-- R223: commands in the selected bin, saturating at 0xFFFF_FFFF. -/
def LAT_HIST_DATA.COUNT : Field := ⟨0x0100174, 0, 32, .ro, 0, .die, 0, 1⟩
/-- R109: lanes running a mapping, 0 to 64. -/
def MAP_STATUS.LANES_BUSY : Field := ⟨0x0200000, 0, 7, .ro, 0, .die, 0, 1⟩
/-- R109: 0 none; 1 STEP_LIMIT; 2 DZ_AT_EMIT; 3 MEMBER_RANGE; 4 OFFSET_RANGE; 5 TABLE_RANGE; 6 PC_RA. -/
def MAP_FAULT_INFO.REASON : Field := ⟨0x0200004, 0, 4, .ro, 0, .die, 0, 1⟩
/-- R109: instruction index at the fault, 0 to 256; 256 appears only for PC_RANGE after the last ins. -/
def MAP_FAULT_INFO.PC : Field := ⟨0x0200004, 4, 9, .ro, 0, .die, 0, 1⟩
/-- R109: lane 0 to 63. -/
def MAP_FAULT_INFO.LANE : Field := ⟨0x0200004, 13, 6, .ro, 0, .die, 0, 1⟩
/-- R109: array 0 to 15. -/
def MAP_FAULT_INFO.ARRAY : Field := ⟨0x0200004, 19, 4, .ro, 0, .die, 0, 1⟩
/-- R109: 0 current program; 1 previous. -/
def MAP_FAULT_INFO.EPOCH : Field := ⟨0x0200004, 23, 1, .ro, 0, .die, 0, 1⟩
/-- R109: 0 map; 1 spare. -/
def MAP_FAULT_INFO.ENTRY : Field := ⟨0x0200004, 24, 1, .ro, 0, .die, 0, 1⟩
/-- R108: s or p of the most recent fault. -/
def MAP_FAULT_IN : Field := ⟨0x0200008, 0, 64, .ro, 0, .die, 0, 1⟩
/-- R108: [7:0] u, or [15:0] i for the spare entry; other bits RSV. -/
def MAP_FAULT_UNIT.UNIT : Field := ⟨0x0200010, 0, 16, .ro, 0, .die, 0, 1⟩
/-- R108: mapping faults since reset. -/
def MAP_FAULT_COUNT : Field := ⟨0x0200018, 0, 64, .ro, 0, .die, 0, 1⟩
/-- R108: preemptions since reset. -/
def MAP_PREEMPT_COUNT : Field := ⟨0x0200020, 0, 64, .ro, 0, .die, 0, 1⟩
/-- R109: array to map. -/
def MAP_TEST_CTRL.ARRAY : Field := ⟨0x0200030, 0, 4, .rw, 0, .die, 0, 1⟩
/-- R109: 0 current; 1 previous. -/
def MAP_TEST_CTRL.EPOCH : Field := ⟨0x0200030, 4, 1, .rw, 0, .die, 0, 1⟩
/-- R109: 0 map; 1 spare. -/
def MAP_TEST_CTRL.ENTRY : Field := ⟨0x0200030, 5, 1, .rw, 0, .die, 0, 1⟩
/-- R109: 1 starts a test mapping; ignored while BUSY is 1. -/
def MAP_TEST_CTRL.GO : Field := ⟨0x0200030, 8, 1, .wo, 0, .die, 0, 1⟩
/-- R109: 1 while the test mapping runs. -/
def MAP_TEST_STATUS.BUSY : Field := ⟨0x0200034, 0, 1, .ro, 0, .die, 0, 1⟩
/-- R109: 1 when the test mapping has ended. -/
def MAP_TEST_STATUS.DONE : Field := ⟨0x0200034, 1, 1, .w1c, 0, .die, 0, 1⟩
/-- R109: REASON encoding as MAP_FAULT_INFO; 0 when EMIT was accepted. -/
def MAP_TEST_STATUS.FAULT : Field := ⟨0x0200034, 2, 4, .ro, 0, .die, 0, 1⟩
/-- R109: steps taken, 0 to 512; 0 when no instruction ran (INPUT_RANGE, R94). -/
def MAP_TEST_STATUS.STEPS : Field := ⟨0x0200034, 6, 10, .ro, 0, .die, 0, 1⟩
/-- R108: s or p; reset 0. -/
def MAP_TEST_IN : Field := ⟨0x0200038, 0, 64, .rw, 0, .die, 0, 1⟩
/-- R108: [15:0] u or i; other bits RSV; reset 0. -/
def MAP_TEST_UNIT.UNIT : Field := ⟨0x0200040, 0, 16, .rw, 0, .die, 0, 1⟩
/-- R108: [7:0] emitted member; other bits RSV. -/
def MAP_TEST_MEMBER.MEMBER : Field := ⟨0x0200044, 0, 8, .ro, 0, .die, 0, 1⟩
/-- R108: emitted member data sector. -/
def MAP_TEST_OFFSET : Field := ⟨0x0200048, 0, 64, .ro, 0, .die, 0, 1⟩
/-- R242: 1 once the invalidation of R239 has ended. -/
def SC_STATUS.INIT_DONE : Field := ⟨0x0300000, 0, 1, .ro, 0, .die, 0, 1⟩
/-- R242: copy of SC_RANGE_STATUS.BUSY. -/
def SC_STATUS.RANGE_BUSY : Field := ⟨0x0300000, 1, 1, .ro, 0, .die, 0, 1⟩
/-- R242: 1 while an SC_MAINT operation runs. -/
def SC_STATUS.MAINT_BUSY : Field := ⟨0x0300000, 2, 1, .ro, 0, .die, 0, 1⟩
/-- R242: 1 after a write to SC_LOCK setting more than 12 bits. -/
def SC_STATUS.LOCK_REFUSED : Field := ⟨0x0300000, 3, 1, .w1c, 0, .die, 0, 1⟩
/-- R242: ways locked, 0 to 12. -/
def SC_STATUS.LOCKED_WAYS : Field := ⟨0x0300000, 4, 4, .ro, 0, .die, 0, 1⟩
/-- R242: 0 eviction buffer; 1 victim cache. -/
def SC_CTRL.EVICT_PATH : Field := ⟨0x0300004, 0, 1, .rw, 0, .die, 0, 1⟩
/-- R242: 0 disables next-line prefetch for every requester. -/
def SC_CTRL.PREFETCH_EN : Field := ⟨0x0300004, 1, 1, .rw, 1, .die, 0, 1⟩
/-- R242: bits [2r+1:2r] for requester r of R226: 0 default; 1 allocate reads and writes; 2 no-alloc. -/
def SC_ALLOC.ALLOC : Field := ⟨0x0300008, 0, 16, .rw, 0, .die, 0, 1⟩
/-- R242: bit 16 + r set disables prefetch for requester r. -/
def SC_ALLOC.NO_PREFETCH : Field := ⟨0x0300008, 16, 8, .rw, 0, .die, 0, 1⟩
/-- R242: bit w is 1 when way w is locked. -/
def SC_LOCK.WAYS : Field := ⟨0x030000C, 0, 16, .rw, 0, .die, 0, 1⟩
/-- R242: bit w selects way w. -/
def SC_PRELOAD_WAYS.WAYS : Field := ⟨0x0300010, 0, 16, .rw, 0, .die, 0, 1⟩
/-- R242: 1 CLEAN; 2 INVALIDATE; 3 CLEAN_INVALIDATE; 0 ignored. -/
def SC_MAINT.OP : Field := ⟨0x0300014, 0, 2, .wo, 0, .die, 0, 1⟩
/-- R242: 0 by address; 1 by set and way. -/
def SC_MAINT.MODE : Field := ⟨0x0300014, 2, 1, .wo, 0, .die, 0, 1⟩
/-- R241: line address. -/
def SC_MAINT_ADDR.ADDR : Field := ⟨0x0300018, 7, 30, .rw, 0, .die, 0, 1⟩
/-- R242: set 0 to 32,767 (R225). -/
def SC_MAINT_SETWAY.SET : Field := ⟨0x0300020, 0, 15, .rw, 0, .die, 0, 1⟩
/-- R242: way 0 to 15. -/
def SC_MAINT_SETWAY.WAY : Field := ⟨0x0300020, 16, 4, .rw, 0, .die, 0, 1⟩
/-- R242: 1 CLEAN; 2 INVALIDATE; 3 CLEAN_INVALIDATE; 4 PRELOAD; 5 INVALIDATE_WAYS; others ignored. -/
def SC_RANGE_CMD.OP : Field := ⟨0x0300024, 0, 3, .wo, 0, .die, 0, 1⟩
/-- R242: 1 while a range operation runs. -/
def SC_RANGE_STATUS.BUSY : Field := ⟨0x0300028, 0, 1, .ro, 0, .die, 0, 1⟩
/-- R242: 1 when an operation has completed. -/
def SC_RANGE_STATUS.DONE : Field := ⟨0x0300028, 1, 1, .w1c, 0, .die, 0, 1⟩
/-- R242: 1 when the last PRELOAD displaced lines of its own range. -/
def SC_RANGE_STATUS.OVERFLOW : Field := ⟨0x0300028, 2, 1, .w1c, 0, .die, 0, 1⟩
/-- R242: 0 none; 1 refused while busy; 2 length 0, unaligned, or past installed HBM; 3 PRELOAD with. -/
def SC_RANGE_STATUS.ERR_CODE : Field := ⟨0x0300028, 4, 4, .ro, 0, .die, 0, 1⟩
/-- R241: range start. -/
def SC_RANGE_START.VALUE : Field := ⟨0x0300030, 7, 30, .rw, 0, .die, 0, 1⟩
/-- R241: range length in bytes. -/
def SC_RANGE_LEN.VALUE : Field := ⟨0x0300038, 7, 30, .rw, 0, .die, 0, 1⟩
/-- R242: saturating at 16,777,215. -/
def SC_RANGE_DISPLACED.LINES : Field := ⟨0x0300040, 0, 24, .ro, 0, .die, 0, 1⟩
/-- R241: hits since reset. -/
def SC_HIT : Field := ⟨0x0300048, 0, 64, .ro, 0, .die, 0, 1⟩
/-- R241: misses since reset. -/
def SC_MISS : Field := ⟨0x0300050, 0, 64, .ro, 0, .die, 0, 1⟩
/-- R241: prefetches issued. -/
def SC_PF_ISSUED : Field := ⟨0x0300058, 0, 64, .ro, 0, .die, 0, 1⟩
/-- R241: prefetched lines later hit. -/
def SC_PF_USED : Field := ⟨0x0300060, 0, 64, .ro, 0, .die, 0, 1⟩
/-- R241: hits in the eviction buffer or victim cache. -/
def SC_VICTIM_HIT : Field := ⟨0x0300068, 0, 64, .ro, 0, .die, 0, 1⟩
/-- R241: RETRY responses under R238. -/
def SC_OWN_RETRY : Field := ⟨0x0300070, 0, 64, .ro, 0, .die, 0, 1⟩
/-- R241: corrected errors since manufacture. -/
def SC_ECC_CORR : Field := ⟨0x0300078, 0, 64, .ro, 0, .keep, 0, 1⟩
/-- R241: uncorrectable errors since manufacture. -/
def SC_ECC_UNCORR : Field := ⟨0x0300080, 0, 64, .ro, 0, .keep, 0, 1⟩
/-- R210: bit i is 1 while slice i is in service. -/
def PQE_STATUS.SLICE_ACTIVE : Field := ⟨0x0400000, 0, 4, .ro, 0xf, .die, 0, 1⟩
/-- R210: bit i is 1 after slice i failed its test (R177). -/
def PQE_STATUS.SLICE_FAILED : Field := ⟨0x0400000, 4, 4, .ro, 0, .die, 0, 1⟩
/-- R210: 1 while a known-answer test runs. -/
def PQE_STATUS.KAT_BUSY : Field := ⟨0x0400000, 8, 1, .ro, 0, .die, 0, 1⟩
/-- R210: 1 when the most recent test failed. -/
def PQE_STATUS.KAT_LAST_FAIL : Field := ⟨0x0400000, 9, 1, .ro, 0, .die, 0, 1⟩
/-- R210: 1 tests every slice in service; ignored while KAT_BUSY is 1. -/
def PQE_KAT_CMD.RUN : Field := ⟨0x0400004, 0, 1, .wo, 0, .die, 0, 1⟩
/-- R209: source bytes processed since reset. -/
def PQE_SRC_BYTES : Field := ⟨0x0400008, 0, 64, .ro, 0, .die, 0, 1⟩
/-- R209: rows solved by SOLVE1 or SOLVE2 since reset. -/
def PQE_SOLVE_COUNT : Field := ⟨0x0400010, 0, 64, .ro, 0, .die, 0, 1⟩
/-- R209: passed known-answer tests since reset. -/
def PQE_KAT_PASS : Field := ⟨0x0400018, 0, 64, .ro, 0, .die, 0, 1⟩
/-- R209: [15:0] BUSY: bit a is 1 while a background operation runs on array a; [31:16] RSV. -/
def RBE_STATUS.BUSY : Field := ⟨0x0500000, 0, 16, .ro, 0, .die, 0, 1⟩
/-- R209: [12:0] INDEX of the list entry shown; [31:13] RSV; reset 0. -/
def RBE_LOST_SEL.INDEX : Field := ⟨0x0500010, 0, 13, .rw, 0, .die, 0, 1⟩
/-- R209: [13:0] ENTRIES, 0 to 8,192; [14] OVERFLOW; [31:15] RSV. -/
def RBE_LOST_COUNT.ENTRIES : Field := ⟨0x0500014, 0, 14, .ro, 0, .die, 0, 1⟩
/-- R209: [13:0] ENTRIES, 0 to 8,192; [14] OVERFLOW; [31:15] RSV. -/
def RBE_LOST_COUNT.OVERFLOW : Field := ⟨0x0500014, 14, 1, .ro, 0, .die, 0, 1⟩
/-- R209: selected entry (R196), word 0 first; zero for an unused index. -/
def RBE_LOST_DATA : Field := ⟨0x0500020, 0, 256, .ro, 0, .die, 0, 1⟩
/-- R210: 0 normal; 1 degraded; 2 rebuilding; 3 reshaping; 4 failed (R179). -/
def ARR_STATE.STATE : Field := ⟨0x0501000, 0, 3, .ro, 0, .boot, 256, 16⟩
/-- R210: 0 none; 1 critical pass; 2 main pass; 3 copyback; 4 reshape; 5 scrub; 6 resync; 7 initiali. -/
def ARR_STATE.OP : Field := ⟨0x0501000, 3, 4, .ro, 0, .boot, 256, 16⟩
/-- R210: 1 while OP is paused. -/
def ARR_STATE.PAUSED : Field := ⟨0x0501000, 7, 1, .ro, 0, .die, 256, 16⟩
/-- R210: 0 none; 1 host command; 2 over limit (R154); 3 member failure; 4 higher-priority operation. -/
def ARR_STATE.PAUSE_REASON : Field := ⟨0x0501000, 8, 4, .ro, 0, .die, 256, 16⟩
/-- R210: member indices failed or absent, 0 to 48. -/
def ARR_STATE.MISSING : Field := ⟨0x0501000, 12, 6, .ro, 0, .boot, 256, 16⟩
/-- R210: 1 when lost rows of this array went unlisted. -/
def ARR_STATE.LOST_OVERFLOW : Field := ⟨0x0501000, 18, 1, .ro, 0, .boot, 256, 16⟩
/-- R210: 1 SCRUB_NOW; 2 PAUSE (scrub, reshape, copyback, initialisation only); 3 RESUME; 4 FAIL_MEM. -/
def ARR_CMD.CMD : Field := ⟨0x0501004, 0, 4, .wo, 0, .die, 256, 16⟩
/-- R210: member index for FAIL_MEMBER. -/
def ARR_CMD.MEMBER : Field := ⟨0x0501004, 4, 6, .wo, 0, .die, 256, 16⟩
/-- R210: per-member cap in MB/s for background operations other than resync and the critical pass; . -/
def ARR_RATE.CAP_MBPS : Field := ⟨0x0501008, 0, 16, .rw, 0, .die, 256, 16⟩
/-- R210: 1 to 100 replaces the image share of the current operation; 0 uses the image value; a writ. -/
def ARR_RATE.SHARE_PCT : Field := ⟨0x0501008, 16, 8, .rw, 0, .die, 256, 16⟩
/-- R209: bit m (HI [15:0] for m ≥ 32): index m failed or absent. -/
def ARR_FAILED : Field := ⟨0x0501010, 0, 64, .ro, 0, .die, 256, 16⟩
/-- R209: bit m: member m slow (R185). -/
def ARR_SLOW : Field := ⟨0x0501018, 0, 64, .ro, 0, .die, 256, 16⟩
/-- R209: stripes done by the current operation. -/
def ARR_PROGRESS : Field := ⟨0x0501020, 0, 64, .ro, 0, .die, 256, 16⟩
/-- R209: stripes the current operation covers. -/
def ARR_TOTAL : Field := ⟨0x0501028, 0, 64, .ro, 0, .die, 256, 16⟩
/-- R209: bow as array LBA; all ones when no reshape runs. -/
def ARR_BOW : Field := ⟨0x0501030, 0, 64, .ro, 0, .die, 256, 16⟩
/-- R209: checkpoint C as array LBA. -/
def ARR_CKPT : Field := ⟨0x0501038, 0, 64, .ro, 0, .die, 256, 16⟩
/-- R209: sectors rewritten under R181, since manufacture. -/
def ARR_REPAIR_COUNT : Field := ⟨0x0501040, 0, 64, .ro, 0, .keep, 256, 16⟩
/-- R209: rows with a nonzero syndrome, since manufacture. -/
def ARR_MISMATCH_COUNT : Field := ⟨0x0501048, 0, 64, .ro, 0, .keep, 256, 16⟩
/-- R209: pitch time of the last completed scrub pass. -/
def ARR_SCRUB_END : Field := ⟨0x0501050, 0, 64, .ro, 0, .keep, 256, 16⟩
/-- R210: source copies held, 0 to 16,384. -/
def ARR_BOWBUF.SOURCE_MIB : Field := ⟨0x0501058, 0, 15, .ro, 0, .die, 256, 16⟩
/-- R210: displaced copies held, 0 to 16,384. -/
def ARR_BOWBUF.DISPLACED_MIB : Field := ⟨0x0501058, 16, 15, .ro, 0, .die, 256, 16⟩
/-- R284: 1 while a KEK is held. -/
def CIP_STATUS.OWNER_SET : Field := ⟨0x0600000, 0, 1, .ro, 0, .die, 0, 1⟩
/-- R284: 1 while the pool holds a block. -/
def CIP_STATUS.TRNG_READY : Field := ⟨0x0600000, 1, 1, .ro, 0, .die, 0, 1⟩
/-- R284: 1 in the failed state (R279). -/
def CIP_STATUS.TRNG_FAILED : Field := ⟨0x0600000, 2, 1, .ro, 0, .die, 0, 1⟩
/-- R284: 1 in Tamper Hold. -/
def CIP_STATUS.TAMPER_HOLD : Field := ⟨0x0600000, 3, 1, .ro, 0, .boot, 0, 1⟩
/-- R284: 1 once any slot has passed CIP_NONCE_WARN. -/
def CIP_STATUS.NONCE_WARN : Field := ⟨0x0600000, 4, 1, .ro, 0, .die, 0, 1⟩
/-- R284: suspend contexts in use, 0 to 256. -/
def CIP_STATUS.CONTEXTS : Field := ⟨0x0600000, 8, 9, .ro, 0, .die, 0, 1⟩
/-- R284: 1 SET_OWNER; 2 LOAD_BLOB; 3 UNLOAD: zeroize the selected slot, reference kept live; UNLOAD. -/
def CIP_KEY_CMD.CMD : Field := ⟨0x0600004, 0, 4, .wo, 0, .die, 0, 1⟩
/-- R284: 1 while a command runs. -/
def CIP_KEY_STATUS.BUSY : Field := ⟨0x0600008, 0, 1, .ro, 0, .die, 0, 1⟩
/-- R284: 1 when a command has ended. -/
def CIP_KEY_STATUS.DONE : Field := ⟨0x0600008, 1, 1, .w1c, 0, .die, 0, 1⟩
/-- R284: 0 none; 2 wrong state; 3 no owner secret; 4 format or KWP integrity; 5 binding mismatch; 6. -/
def CIP_KEY_STATUS.ERROR : Field := ⟨0x0600008, 4, 4, .ro, 0, .die, 0, 1⟩
/-- R284: slot of the last LOAD_BLOB or UNLOAD, whether it succeeded or failed: for LOAD_BLOB, NSID . -/
def CIP_KEY_STATUS.SLOT : Field := ⟨0x0600008, 8, 12, .ro, 0, .die, 0, 1⟩
/-- R284: 0 to 4,031. -/
def CIP_KEY_SEL.SLOT : Field := ⟨0x060000C, 0, 12, .rw, 0, .die, 0, 1⟩
/-- R284: 0 EMPTY; 1 LOADING; 2 READY; 3 EXHAUSTED. -/
def CIP_SLOT_INFO.STATE : Field := ⟨0x0600010, 0, 2, .ro, 0, .die, 0, 1⟩
/-- R284: 1 once NONCE_CTX is drawn. -/
def CIP_SLOT_INFO.CTX_VALID : Field := ⟨0x0600010, 2, 1, .ro, 0, .die, 0, 1⟩
/-- R284: 1 to 1,024; 0 for unused slots. -/
def CIP_SLOT_INFO.NSID : Field := ⟨0x0600010, 4, 11, .ro, 0, .die, 0, 1⟩
/-- R283: selected slot's NONCE_CTX; zero until drawn. -/
def CIP_SLOT_CTX : Field := ⟨0x0600014, 0, 32, .ro, 0, .die, 0, 1⟩
/-- R283: next NONCE_CTR of the selected slot. -/
def CIP_SLOT_CTR : Field := ⟨0x0600018, 0, 64, .ro, 0, .die, 0, 1⟩
/-- R283: persisted mark M of the selected slot's NSID. -/
def CIP_SLOT_MARK : Field := ⟨0x0600020, 0, 64, .ro, 0, .keep, 0, 1⟩
/-- R283: warning threshold for all slots; reset 0x0000_0000, 0x8000_0000. -/
def CIP_NONCE_WARN : Field := ⟨0x0600028, 0, 64, .rw, 0x8000000000000000, .die, 0, 1⟩
/-- R284: as CIP_STATUS.TRNG_READY. -/
def CIP_TRNG_STATUS.READY : Field := ⟨0x0600030, 0, 1, .ro, 0, .die, 0, 1⟩
/-- R284: 1 while the start-up test runs. -/
def CIP_TRNG_STATUS.STARTUP : Field := ⟨0x0600030, 1, 1, .ro, 1, .die, 0, 1⟩
/-- R284: as CIP_STATUS.TRNG_FAILED. -/
def CIP_TRNG_STATUS.FAILED : Field := ⟨0x0600030, 2, 1, .ro, 0, .die, 0, 1⟩
/-- R284: conditioned blocks held, 0 to 64. -/
def CIP_TRNG_STATUS.POOL : Field := ⟨0x0600030, 8, 7, .ro, 0, .die, 0, 1⟩
/-- R283: repetition count failures, saturating at 0xFFFF_FFFF. -/
def CIP_TRNG_RCT_FAIL : Field := ⟨0x0600034, 0, 32, .ro, 0, .die, 0, 1⟩
/-- R283: adaptive proportion failures, saturating. -/
def CIP_TRNG_APT_FAIL : Field := ⟨0x0600038, 0, 32, .ro, 0, .die, 0, 1⟩
/-- R284: bit n: source n of R280 has tripped; clearing does not end a hold. -/
def CIP_TAMPER_STATUS.LATCHED : Field := ⟨0x0600040, 0, 8, .w1c, 0, .aon, 0, 1⟩
/-- R284: bit 8 + n: source n is active now. -/
def CIP_TAMPER_STATUS.ACTIVE : Field := ⟨0x0600040, 8, 8, .ro, 0, .die, 0, 1⟩
/-- R284: 1 when a trip was latched in Off. -/
def CIP_TAMPER_STATUS.IN_OFF : Field := ⟨0x0600040, 16, 1, .w1c, 0, .aon, 0, 1⟩
/-- R284: bit n enables TAMPER_N[n]; the board ties unused inputs to their inactive level. -/
def CIP_TAMPER_CFG.EXT_EN : Field := ⟨0x0600044, 0, 4, .rw, 0xf, .aon, 0, 1⟩
/-- R284: bit 4 + n: 0 active low; 1 active high. -/
def CIP_TAMPER_CFG.EXT_POL : Field := ⟨0x0600044, 4, 4, .rw, 0, .aon, 0, 1⟩
/-- R284: 0 10 µs; 1 100 µs; 2 1 ms; 3 10 ms. -/
def CIP_TAMPER_CFG.FILTER : Field := ⟨0x0600044, 8, 2, .rw, 0, .aon, 0, 1⟩
/-- R284: 1 ignores every later write until always-on power-up. -/
def CIP_TAMPER_CFG.LOCK : Field := ⟨0x0600044, 31, 1, .w1s, 0, .aon, 0, 1⟩
/-- R283: sectors encrypted since reset. -/
def CIP_ENC_SECTORS : Field := ⟨0x0600048, 0, 64, .ro, 0, .die, 0, 1⟩
/-- R283: sectors decrypted since reset. -/
def CIP_DEC_SECTORS : Field := ⟨0x0600050, 0, 64, .ro, 0, .die, 0, 1⟩
/-- R283: tag failures since manufacture. -/
def CIP_AUTH_FAIL_COUNT : Field := ⟨0x0600058, 0, 64, .ro, 0, .keep, 0, 1⟩
/-- R283: authorization token for TAMPER_RELEASE. -/
def CIP_AUTH : Field := ⟨0x0600060, 0, 256, .wo, 0, .die, 0, 1⟩
/-- R283: suspensions under R266 since reset. -/
def CIP_SUSPEND_COUNT : Field := ⟨0x0600080, 0, 64, .ro, 0, .die, 0, 1⟩
/-- R283: owner secret (bytes 0x00 to 0x1F) and OWNER_GEN (bytes 0x20 to 0x23, little-endian; R269),. -/
def CIP_KEY_WINDOW : Field := ⟨0x0600100, 0, 768, .wo, 0, .die, 0, 1⟩
/-- R261: channels in RUNNING, 0 to 256. -/
def DMA_STATUS.RUNNING : Field := ⟨0x0700000, 0, 9, .ro, 0, .die, 0, 1⟩
/-- R261: 1 once the DMA area is allocated after boot. -/
def DMA_STATUS.AREA_READY : Field := ⟨0x0700000, 9, 1, .ro, 0, .die, 0, 1⟩
/-- R261: PF MSI-X vector, 0 to 2,047. -/
def DMA_IRQ_CFG.VECTOR : Field := ⟨0x0700004, 0, 11, .rw, 0, .die, 0, 1⟩
/-- R261: host port whose PF receives the message. -/
def DMA_IRQ_CFG.PORT : Field := ⟨0x0700004, 11, 1, .rw, 0, .die, 0, 1⟩
/-- R261: 1 sends a message when a host-channel bit of DMA_IRQ goes from 0 to 1, at most one message. -/
def DMA_IRQ_CFG.EN : Field := ⟨0x0700004, 12, 1, .rw, 0, .die, 0, 1⟩
/-- R260: DMA area base (R244). -/
def DMA_AREA_BASE : Field := ⟨0x0700008, 0, 64, .ro, 0, .die, 0, 1⟩
/-- R260: DMA area size in MiB; 512. -/
def DMA_AREA_SIZE : Field := ⟨0x0700010, 0, 32, .ro, 0x200, .die, 0, 1⟩
/-- R260: bytes moved since reset. -/
def DMA_BYTES : Field := ⟨0x0700018, 0, 64, .ro, 0, .die, 0, 1⟩
/-- R260: bit n mod 32 of word n ÷ 32: channel n interrupt. -/
def DMA_IRQ : Field := ⟨0x0700020, 0, 256, .w1c, 0, .die, 0, 1⟩
/-- R260: window base. -/
def WIN_BASE.ADDR : Field := ⟨0x0701000, 12, 52, .rw, 0, .die, 32, 32⟩
/-- R260: window end, exclusive. -/
def WIN_LIMIT.ADDR : Field := ⟨0x0701008, 12, 52, .rw, 0, .die, 32, 32⟩
/-- R261: 1 window enabled; refused under R257. -/
def WIN_CTRL.EN : Field := ⟨0x0701010, 0, 1, .rw, 0, .die, 32, 32⟩
/-- R261: 0 HBM; 1 host port 0; 2 host port 1; 3 window never matches. -/
def WIN_CTRL.SPACE : Field := ⟨0x0701010, 1, 2, .rw, 0, .die, 32, 32⟩
/-- R261: 1 grants read. -/
def WIN_CTRL.READ : Field := ⟨0x0701010, 3, 1, .rw, 0, .die, 32, 32⟩
/-- R261: 1 grants write. -/
def WIN_CTRL.WRITE : Field := ⟨0x0701010, 4, 1, .rw, 0, .die, 32, 32⟩
/-- R261: 1 after an enable was refused. -/
def WIN_CTRL.ERR : Field := ⟨0x0701010, 5, 1, .w1c, 0, .die, 32, 32⟩
/-- R261: 1 channel enabled; 0 disables under R258. -/
def CH_CTRL.EN : Field := ⟨0x0704000, 0, 1, .rw, 0, .die, 64, 256⟩
/-- R261: R251. -/
def CH_CTRL.TRIG : Field := ⟨0x0704000, 1, 2, .rw, 0, .die, 64, 256⟩
/-- R261: source channel for TRIG 3. -/
def CH_CTRL.CHAIN_SRC : Field := ⟨0x0704000, 3, 8, .rw, 0, .die, 64, 256⟩
/-- R261: space of the descriptor list, encoded as SRC_SPACE. -/
def CH_CTRL.DESC_SPACE : Field := ⟨0x0704000, 11, 2, .rw, 0, .die, 64, 256⟩
/-- R261: 1 sets the interrupt bit on BAD, HALTED and STALLED. -/
def CH_CTRL.ERR_IE : Field := ⟨0x0704000, 13, 1, .rw, 0, .die, 64, 256⟩
/-- R261: 1 is a trigger event (R251). -/
def CH_CMD.START : Field := ⟨0x0704004, 0, 1, .wo, 0, .die, 64, 256⟩
/-- R261: 0 IDLE; 1 RUNNING; 2 HALTED; 3 STALLED. -/
def CH_STATUS.STATE : Field := ⟨0x0704008, 0, 2, .ro, 0, .die, 64, 256⟩
/-- R261: R258. -/
def CH_STATUS.DISABLED_MIDWAY : Field := ⟨0x0704008, 2, 1, .w1c, 0, .die, 64, 256⟩
/-- R261: R252. -/
def CH_STATUS.MISSED : Field := ⟨0x0704008, 3, 1, .w1c, 0, .die, 64, 256⟩
/-- R261: R255. -/
def CH_STATUS.BAD_SEEN : Field := ⟨0x0704008, 4, 1, .w1c, 0, .die, 64, 256⟩
/-- R261: pending trigger events, 0 to 255. -/
def CH_STATUS.PENDING : Field := ⟨0x0704008, 8, 8, .ro, 0, .die, 64, 256⟩
/-- R261: 0 none; 1 descriptor fetch error; 2 descriptor outside windows; 3 status write-back error. -/
def CH_STATUS.HALT_CODE : Field := ⟨0x0704008, 16, 4, .ro, 0, .die, 64, 256⟩
/-- R261: 1 to 16,777,215 µs; 0 no timer events. -/
def CH_TIMER.PERIOD_US : Field := ⟨0x070400C, 0, 24, .rw, 0, .die, 64, 256⟩
/-- R260: next descriptor address; writes ignored unless STATE is IDLE, HALTED or STALLED. -/
def CH_DESC_PTR.ADDR : Field := ⟨0x0704010, 6, 58, .rw, 0, .die, 64, 256⟩
/-- R260: current or last descriptor address. -/
def CH_CUR_DESC.ADDR : Field := ⟨0x0704018, 6, 58, .ro, 0, .die, 64, 256⟩
/-- R260: bytes of the current descriptor confirmed written. -/
def CH_BYTES : Field := ⟨0x0704020, 0, 64, .ro, 0, .die, 64, 256⟩
/-- R261: bit w permits DMA_WIN[w]; host writes to bits 0 to 7 are ignored. -/
def CH_WIN_MASK.WINDOWS : Field := ⟨0x0704028, 0, 32, .rw, 0, .die, 64, 256⟩
/-- R260: descriptors completed DONE, saturating at 0xFFFF_FFFF. -/
def CH_DONE_COUNT : Field := ⟨0x070402C, 0, 32, .ro, 0, .die, 64, 256⟩
/-- R260: descriptors marked BAD, saturating. -/
def CH_BAD_COUNT : Field := ⟨0x0704030, 0, 32, .ro, 0, .die, 64, 256⟩
/-- R260: trigger events lost under R252, saturating. -/
def CH_MISSED_COUNT : Field := ⟨0x0704034, 0, 32, .ro, 0, .die, 64, 256⟩
/-- R304: as the image MODE. -/
def LINK_STATUS.MODE : Field := ⟨0x0800000, 0, 3, .ro, 0, .boot, 4096, 48⟩
/-- R304: 1 while a drive is detected. -/
def LINK_STATUS.PRESENT : Field := ⟨0x0800000, 3, 1, .ro, 0, .die, 4096, 48⟩
/-- R304: 1 while the link is trained. -/
def LINK_STATUS.LINK_UP : Field := ⟨0x0800000, 4, 1, .ro, 0, .die, 4096, 48⟩
/-- R304: negotiated rate, as the number that the MAX_RATE encoding gives it: for example 5 for PCIe. -/
def LINK_STATUS.RATE : Field := ⟨0x0800000, 5, 3, .ro, 0, .die, 4096, 48⟩
/-- R304: lanes in use: 2 for a PCIe drive trained x2; 1 for a PCIe drive trained x1, and in SAS and. -/
def LINK_STATUS.WIDTH : Field := ⟨0x0800000, 8, 2, .ro, 0, .die, 4096, 48⟩
/-- R304: 1 when the drive reports multiple ports. -/
def LINK_STATUS.DUAL_PORT : Field := ⟨0x0800000, 10, 1, .ro, 0, .die, 4096, 48⟩
/-- R304: 1 while the drive-write gate is open. -/
def LINK_STATUS.WRITE_GATE : Field := ⟨0x0800000, 11, 1, .ro, 0, .die, 4096, 48⟩
/-- R304: level driven on DRV_PWREN[n], 1 asserted. -/
def LINK_STATUS.PWREN : Field := ⟨0x0800000, 12, 1, .ro, 0, .die, 4096, 48⟩
/-- R304: 0 OFF; 1 WAIT_SPINUP; 2 TRAINING; 3 IDENTIFYING; 4 READY; 5 RECOVERING (R293); 6 REJECTED;. -/
def PORT_STATE.STATE : Field := ⟨0x0800004, 0, 4, .ro, 0, .die, 4096, 48⟩
/-- R304: 0 none; 1 block size; 2 metadata or protection; 3 capacity; 4 labels; 5 protocol feature m. -/
def PORT_STATE.REJECT_REASON : Field := ⟨0x0800004, 4, 4, .ro, 0, .die, 4096, 48⟩
/-- R304: 0 to 47; 63 none. -/
def PORT_STATE.MEMBER_INDEX : Field := ⟨0x0800004, 8, 6, .ro, 0x3f, .die, 4096, 48⟩
/-- R304: 0 to 15; 31 none. -/
def PORT_STATE.ARRAY : Field := ⟨0x0800004, 14, 5, .ro, 0x1f, .die, 4096, 48⟩
/-- R304: 1 RESET_LINK: step 3 of R293; 2 POWER_CYCLE: step 4; 3 ACCEPT: take a REJECTED reason-4 d. -/
def PORT_CMD.CMD : Field := ⟨0x0800008, 0, 4, .wo, 0, .die, 4096, 48⟩
/-- R304: 0 none; 1 timeout; 2 media; 3 write fault; 4 link loss; 5 protocol. -/
def ERR_INFO.KIND : Field := ⟨0x080000C, 0, 4, .ro, 0, .die, 4096, 48⟩
/-- R304: NVMe status code type and code; SCSI sense key and ASC low byte; or ATA error register. -/
def ERR_INFO.DRIVE_STATUS : Field := ⟨0x080000C, 4, 12, .ro, 0, .die, 4096, 48⟩
/-- R304: slot of the failed command. -/
def ERR_INFO.SLOT : Field := ⟨0x080000C, 16, 8, .ro, 0, .die, 4096, 48⟩
/-- R303: drive capacity in 4096-byte sectors. -/
def CAPACITY : Field := ⟨0x0800010, 0, 64, .ro, 0, .die, 4096, 48⟩
/-- R304: slots in use, 0 to 256. -/
def OUTSTANDING.SLOTS : Field := ⟨0x0800018, 0, 9, .ro, 0, .die, 4096, 48⟩
/-- R304: reserved class-0 slots in use, 0 to 32. -/
def OUTSTANDING.C0_SLOTS : Field := ⟨0x0800018, 16, 6, .ro, 0, .die, 4096, 48⟩
/-- R303: read commands completed. -/
def READ_COUNT : Field := ⟨0x0800020, 0, 64, .ro, 0, .die, 4096, 48⟩
/-- R303: write-class commands completed. -/
def WRITE_COUNT : Field := ⟨0x0800028, 0, 64, .ro, 0, .die, 4096, 48⟩
/-- R303: timeouts. -/
def TIMEOUT_COUNT : Field := ⟨0x0800030, 0, 64, .ro, 0, .die, 4096, 48⟩
/-- R303: attempts charged after the first. -/
def RETRY_COUNT : Field := ⟨0x0800038, 0, 64, .ro, 0, .die, 4096, 48⟩
/-- R303: media errors. -/
def MEDIA_ERR_COUNT : Field := ⟨0x0800040, 0, 64, .ro, 0, .die, 4096, 48⟩
/-- R303: resets of steps 2 to 4 of R293. -/
def RESET_COUNT : Field := ⟨0x0800048, 0, 64, .ro, 0, .die, 4096, 48⟩
/-- R303: completions discarded under R291. -/
def SLOT_LATE_COUNT : Field := ⟨0x0800050, 0, 64, .ro, 0, .die, 4096, 48⟩
/-- R303: R301. -/
def WRITE_GATE_ABORTS : Field := ⟨0x0800058, 0, 64, .ro, 0, .die, 4096, 48⟩
/-- R303: drive serial number, ASCII, space-padded, byte 0 in word 0 bits [7:0]. -/
def DRIVE_SERIAL : Field := ⟨0x0800060, 0, 256, .ro, 0, .die, 4096, 48⟩
/-- R174: 1 while R153 applies. -/
def WC_STATUS.WRITE_THROUGH : Field := ⟨0x0900000, 0, 1, .ro, 0, .die, 0, 1⟩
/-- R174: 1 while V > L. -/
def WC_STATUS.OVER_LIMIT : Field := ⟨0x0900000, 1, 1, .ro, 0, .die, 0, 1⟩
/-- R174: 1 while V' > C1, where V' is V less write-through placements (R154). -/
def WC_STATUS.UNPROTECTED : Field := ⟨0x0900000, 2, 1, .ro, 0, .die, 0, 1⟩
/-- R174: 1 while writes are mirrored to the partner. -/
def WC_STATUS.MIRROR_ON : Field := ⟨0x0900000, 3, 1, .ro, 0, .die, 0, 1⟩
/-- R174: 1 from a mirror loss under R148 until the pair is restored. -/
def WC_STATUS.MIRROR_LOST : Field := ⟨0x0900000, 4, 1, .ro, 0, .die, 0, 1⟩
/-- R174: 1 while any stripe update is in flight. -/
def WC_STATUS.DESTAGE_ACTIVE : Field := ⟨0x0900000, 5, 1, .ro, 0, .die, 0, 1⟩
/-- R174: 1 when V = 0 and no fret bit is set. -/
def WC_STATUS.CLEAN : Field := ⟨0x0900000, 6, 1, .ro, 1, .die, 0, 1⟩
/-- R174: 1 while a dump area is ready. -/
def WC_STATUS.AREA_READY : Field := ⟨0x0900000, 7, 1, .ro, 0, .boot, 0, 1⟩
/-- R174: 1 DESTAGE_ALL: destage every dirty sector now, partial stripes included (R157); 2 CLEAR_ID. -/
def WC_CMD.CMD : Field := ⟨0x0900004, 0, 2, .wo, 0, .die, 0, 1⟩
/-- R174: value in MiB, 0 to 73,728. -/
def WC_LIMIT.MIB : Field := ⟨0x0900008, 0, 17, .ro, 0, .die, 0, 1⟩
/-- R174: value in MiB, 0 to 73,728. -/
def WC_LIMIT_CFG.MIB : Field := ⟨0x090000C, 0, 17, .ro, 0, .die, 0, 1⟩
/-- R174: value in MiB, 0 to 73,728. -/
def WC_LIMIT_VAULT.MIB : Field := ⟨0x0900010, 0, 17, .ro, 0, .die, 0, 1⟩
/-- R174: value in MiB, 0 to 73,728. -/
def WC_LIMIT_ENERGY.MIB : Field := ⟨0x0900014, 0, 17, .ro, 0, .die, 0, 1⟩
/-- R173: V in bytes. -/
def WC_VAULTED : Field := ⟨0x0900018, 0, 64, .ro, 0, .die, 0, 1⟩
/-- R174: stripe updates in flight, 0 to 4,096. -/
def WC_CONTEXT.UPDATES : Field := ⟨0x0900020, 0, 13, .ro, 0, .die, 0, 1⟩
/-- R174: context area in use, 0 to 4,096 MiB. -/
def WC_CONTEXT.CONTEXT_MIB : Field := ⟨0x0900020, 16, 13, .ro, 0, .die, 0, 1⟩
/-- R174: fret bits set, 0 to 8,388,608. -/
def WC_FRET.SET : Field := ⟨0x0900024, 0, 24, .ro, 0, .boot, 0, 1⟩
/-- R173: stripe updates completed since reset. -/
def WC_UPDATE_COUNT : Field := ⟨0x0900028, 0, 64, .ro, 0, .die, 0, 1⟩
/-- R173: milliseconds with V' above C1 (R154), since manufacture. -/
def WC_UNPROT_MS : Field := ⟨0x0900030, 0, 64, .ro, 0, .keep, 0, 1⟩
/-- R174: regions awaiting a scan. -/
def WC_RESYNC.REGIONS_LEFT : Field := ⟨0x0900038, 0, 24, .ro, 0, .boot, 0, 1⟩
/-- R174: 1 while a resync scan runs. -/
def WC_RESYNC.ACTIVE : Field := ⟨0x0900038, 24, 1, .ro, 0, .boot, 0, 1⟩
/-- R174: 0 no dump to replay; 1 complete; 2 partial, with extents reported under cause 0x02; 3 uncl. -/
def WC_REPLAY.RESULT : Field := ⟨0x090003C, 0, 2, .ro, 0, .boot, 0, 1⟩
/-- R174: extents reported under cause 0x02 at the last replay, saturating at 65,535. -/
def WC_REPLAY.UNRESTORED : Field := ⟨0x090003C, 16, 16, .ro, 0, .boot, 0, 1⟩
/-- R374: 1 when all 8 channels identified. -/
def VLT_STATUS.PRESENT : Field := ⟨0x0900100, 0, 1, .ro, 0, .boot, 0, 1⟩
/-- R374: R366. -/
def VLT_STATUS.RATE_OK : Field := ⟨0x0900100, 1, 1, .ro, 0, .boot, 0, 1⟩
/-- R374: 1 during a dump. -/
def VLT_STATUS.DUMPING : Field := ⟨0x0900100, 2, 1, .ro, 0, .die, 0, 1⟩
/-- R374: 1 during replay. -/
def VLT_STATUS.REPLAYING : Field := ⟨0x0900100, 3, 1, .ro, 0, .boot, 0, 1⟩
/-- R374: 1 during background erase. -/
def VLT_STATUS.ERASING : Field := ⟨0x0900100, 4, 1, .ro, 0, .die, 0, 1⟩
/-- R374: 1 during patrol. -/
def VLT_STATUS.PATROL : Field := ⟨0x0900100, 5, 1, .ro, 0, .die, 0, 1⟩
/-- R374: R370. -/
def VLT_STATUS.WEAR_WARN : Field := ⟨0x0900100, 6, 1, .ro, 0, .boot, 0, 1⟩
/-- R374: 1 when one directory copy failed its check and is being rewritten. -/
def VLT_STATUS.DIRECTORY_DEGRADED : Field := ⟨0x0900100, 7, 1, .ro, 0, .boot, 0, 1⟩
/-- R374: 1 PATROL_NOW; others ignored; ignored during a dump or replay. -/
def VLT_CMD.CMD : Field := ⟨0x0900104, 0, 2, .wo, 0, .die, 0, 1⟩
/-- R374: targets per channel, 1 to 4. -/
def VLT_GEOM.TARGETS : Field := ⟨0x0900108, 0, 3, .ro, 0, .boot, 0, 1⟩
/-- R374: erase block size in MiB. -/
def VLT_GEOM.BLOCK_MIB : Field := ⟨0x0900108, 16, 8, .ro, 0, .boot, 0, 1⟩
/-- R374: 0 READY; 1 HOLDS_DUMP; 2 ERASING; 3 UNREADY. -/
def VLT_AREA.STATE : Field := ⟨0x090010C, 0, 2, .ro, 0, .boot, 4, 2⟩
/-- R374: 1 when the dump held has its commit record. -/
def VLT_AREA.COMPLETE : Field := ⟨0x090010C, 2, 1, .ro, 0, .boot, 4, 2⟩
/-- R374: 1 when the dump held carries a cancel record (R165). -/
def VLT_AREA.CANCELLED : Field := ⟨0x090010C, 3, 1, .ro, 0, .boot, 4, 2⟩
/-- R374: payload MiB per area, less spare. -/
def VLT_AREA_MIB.MIB : Field := ⟨0x0900114, 0, 20, .ro, 0, .boot, 0, 1⟩
/-- R373: [15:0] measured payload rate, MB/s; [31:16] RSV. -/
def VLT_RATE.MBPS : Field := ⟨0x0900118, 0, 16, .ro, 0, .keep, 0, 1⟩
/-- R373: [7:0] highest erase count as percent of rating; [31:8] RSV. -/
def VLT_WEAR.PCT : Field := ⟨0x090011C, 0, 8, .ro, 0, .keep, 0, 1⟩
/-- R373: dumps since manufacture. -/
def VLT_DUMP_COUNT : Field := ⟨0x0900120, 0, 64, .ro, 0, .keep, 0, 1⟩
/-- R373: duration of the last dump, ms. -/
def VLT_LAST_DUMP_MS : Field := ⟨0x0900128, 0, 32, .ro, 0, .keep, 0, 1⟩
/-- R373: [15:0] blocks in the bad-block table; [31:16] RSV. -/
def VLT_BAD_BLOCKS.BLOCKS : Field := ⟨0x090012C, 0, 16, .ro, 0, .keep, 0, 1⟩
/-- R373: newest dump sequence. -/
def VLT_DUMP_SEQ : Field := ⟨0x0900130, 0, 64, .ro, 0, .keep, 0, 1⟩
/-- R372: 1 while any pack is qualified. -/
def NRG_STATUS.QUALIFIED_ANY : Field := ⟨0x0A00000, 0, 1, .ro, 0, .die, 0, 1⟩
/-- R372: level driven, 1 asserted. -/
def NRG_STATUS.HOLDUP_EN : Field := ⟨0x0A00000, 1, 1, .ro, 0, .die, 0, 1⟩
/-- R372: 1 while AC_FAIL_N is asserted. -/
def NRG_STATUS.AC_FAIL : Field := ⟨0x0A00000, 2, 1, .ro, 0, .die, 0, 1⟩
/-- R372: 1 while a self-test runs. -/
def NRG_STATUS.TEST_ACTIVE : Field := ⟨0x0A00000, 3, 1, .ro, 0, .die, 0, 1⟩
/-- R372: 1 while a learning cycle runs. -/
def NRG_STATUS.LEARN_ACTIVE : Field := ⟨0x0A00000, 4, 1, .ro, 0, .die, 0, 1⟩
/-- R372: 1 TEST; 2 LEARN; 3 LEARN_ABORT; 4 RETEST; 5 SAME_PACK; others ignored; ignored while BUSY . -/
def NRG_CMD.CMD : Field := ⟨0x0A00004, 0, 3, .wo, 0, .die, 0, 1⟩
/-- R372: 0 A; 1 B. -/
def NRG_CMD.PACK : Field := ⟨0x0A00004, 3, 1, .wo, 0, .die, 0, 1⟩
/-- R372: 1 while a command runs. -/
def NRG_CMD_STATUS.BUSY : Field := ⟨0x0A00008, 0, 1, .ro, 0, .die, 0, 1⟩
/-- R372: 1 when a command has ended. -/
def NRG_CMD_STATUS.DONE : Field := ⟨0x0A00008, 1, 1, .w1c, 0, .die, 0, 1⟩
/-- R372: 0 none; 1 pack absent or not applicable; 2 AC_FAIL_N asserted (LEARN only; TEST and RETEST. -/
def NRG_CMD_STATUS.ERROR : Field := ⟨0x0A00008, 2, 4, .ro, 0, .die, 0, 1⟩
/-- R371: [23:0] E in J; [31:24] RSV. -/
def NRG_E_J.E_J : Field := ⟨0x0A0000C, 0, 24, .ro, 0, .die, 0, 1⟩
/-- R371: [23:0] RESERVE_J; [31:24] RSV. -/
def NRG_RESERVE_J.J : Field := ⟨0x0A00010, 0, 24, .ro, 0, .die, 0, 1⟩
/-- R371: [23:0] NRG_AVAIL_J; [31:24] RSV. -/
def NRG_AVAIL_J.J : Field := ⟨0x0A00014, 0, 24, .ro, 0, .die, 0, 1⟩
/-- R372: R352. -/
def PACK_STATUS.PRESENT : Field := ⟨0x0A00100, 0, 1, .ro, 0, .die, 128, 2⟩
/-- R372: R358. -/
def PACK_STATUS.QUALIFIED : Field := ⟨0x0A00100, 1, 1, .ro, 0, .die, 128, 2⟩
/-- R372: 1 during a self-test. -/
def PACK_STATUS.TESTING : Field := ⟨0x0A00100, 2, 1, .ro, 0, .die, 128, 2⟩
/-- R372: 1 during a learning cycle. -/
def PACK_STATUS.LEARNING : Field := ⟨0x0A00100, 3, 1, .ro, 0, .die, 128, 2⟩
/-- R372: level of CHG_EN[x]. -/
def PACK_STATUS.CHARGE_PERMIT : Field := ⟨0x0A00100, 4, 1, .ro, 0, .die, 128, 2⟩
/-- R372: R358, R362. -/
def PACK_STATUS.REPLACE : Field := ⟨0x0A00100, 5, 1, .ro, 0, .boot, 128, 2⟩
/-- R372: R358. -/
def PACK_STATUS.FAILED : Field := ⟨0x0A00100, 6, 1, .ro, 0, .die, 128, 2⟩
/-- R372: 1 while outside TEMP_MIN_C to TEMP_MAX_C. -/
def PACK_STATUS.TEMP_OUT : Field := ⟨0x0A00100, 7, 1, .ro, 0, .die, 128, 2⟩
/-- R372: percent, 0 to 110. -/
def PACK_STATUS.HEALTH : Field := ⟨0x0A00100, 8, 8, .ro, 0, .boot, 128, 2⟩
/-- R372: 0 none; 1 pass; 2 step too small; 3 CUTOFF; 4 steps disagree; 5 cannot carry the dump, inc. -/
def PACK_STATUS.TEST_RESULT : Field := ⟨0x0A00100, 16, 4, .ro, 0, .die, 128, 2⟩
/-- R372: 0 none; 1 valid; 2 to 7 as R361. -/
def PACK_STATUS.LEARN_RESULT : Field := ⟨0x0A00100, 20, 4, .ro, 0, .die, 128, 2⟩
/-- R372: low 8 bits of PACK_SERIAL. -/
def PACK_STATUS.PACK_SERIAL : Field := ⟨0x0A00100, 24, 8, .ro, 0, .boot, 128, 2⟩
/-- R371: [15:0] pack voltage, mV; [31:16] RSV. -/
def NRG_VOLT_MV.MV : Field := ⟨0x0A00104, 0, 16, .ro, 0, .die, 128, 2⟩
/-- R371: signed mA, positive discharging. -/
def NRG_CURR_MA : Field := ⟨0x0A00108, 0, 32, .ro, 0, .die, 128, 2⟩
/-- R371: [15:0] signed, 0.1 °C; [31:16] RSV. -/
def NRG_TEMP.DECI_C : Field := ⟨0x0A0010C, 0, 16, .ro, 0, .die, 128, 2⟩
/-- R371: [9:0] reported SOC, 0.1 % (R363); [31:10] RSV. -/
def NRG_SOC.PERMILLE : Field := ⟨0x0A00110, 0, 10, .ro, 0, .die, 128, 2⟩
/-- R371: [23:0] E_pack in J; [31:24] RSV. -/
def NRG_PACK_E_J.J : Field := ⟨0x0A00114, 0, 24, .ro, 0, .die, 128, 2⟩
/-- R371: learned capacity, mAh. -/
def NRG_CAP_MAH : Field := ⟨0x0A00118, 0, 32, .ro, 0, .keep, 128, 2⟩
/-- R371: [15:0] R_slow, [31:16] R_fast, mΩ, for the present cell. -/
def NRG_IMPEDANCE.R_SLOW : Field := ⟨0x0A0011C, 0, 16, .ro, 0, .die, 128, 2⟩
/-- R371: [15:0] R_slow, [31:16] R_fast, mΩ, for the present cell. -/
def NRG_IMPEDANCE.R_FAST : Field := ⟨0x0A0011C, 16, 16, .ro, 0, .die, 128, 2⟩
/-- R371: [19:0] cycle count × 16; [31:20] RSV. -/
def NRG_CYCLES.X16 : Field := ⟨0x0A00120, 0, 20, .ro, 0, .keep, 128, 2⟩
/-- R371: signed net discharged charge since insertion, mC. -/
def NRG_COULOMB : Field := ⟨0x0A00128, 0, 64, .ro, 0, .die, 128, 2⟩
/-- R371: pitch time of the last test. -/
def NRG_LAST_TEST : Field := ⟨0x0A00130, 0, 64, .ro, 0, .keep, 128, 2⟩
/-- R371: pitch time of the last valid learning cycle. -/
def NRG_LAST_LEARN : Field := ⟨0x0A00138, 0, 64, .ro, 0, .keep, 128, 2⟩
/-- R395: composite Tj, signed, °C. -/
def THERM_STATUS.TJ : Field := ⟨0x0B00000, 0, 8, .ro, 0, .die, 0, 1⟩
/-- R395: 0 NORMAL; 1 HOT; 2 THROTTLE; 3 CRITICAL. -/
def THERM_STATUS.STATE : Field := ⟨0x0B00000, 8, 2, .ro, 0, .die, 0, 1⟩
/-- R395: steps in force, 0 to 8. -/
def THERM_STATUS.CLOCK_STEPS : Field := ⟨0x0B00000, 10, 4, .ro, 0, .die, 0, 1⟩
/-- R395: 1 while any PIN_EN channel's pin is invalid. -/
def THERM_STATUS.PIN_LOSS : Field := ⟨0x0B00000, 14, 1, .ro, 0, .die, 0, 1⟩
/-- R394: [4:0] SENSOR; [31:5] RSV; reset 0. -/
def THERM_SEL.SENSOR : Field := ⟨0x0B00004, 0, 5, .rw, 0, .die, 0, 1⟩
/-- R394: [15:0] selected sensor, signed, 0.1 °C; [31:16] RSV. -/
def THERM_SENSOR.DECI_C : Field := ⟨0x0B00008, 0, 16, .ro, 0, .die, 0, 1⟩
/-- R394: [3:0] PROFILE; [11:4] RUNNING (bit n: channel n turning); [19:12] FAULTED; [31:20] RSV. -/
def FAN_GLOBAL.PROFILE : Field := ⟨0x0B0000C, 0, 4, .ro, 0, .die, 0, 1⟩
/-- R394: [3:0] PROFILE; [11:4] RUNNING (bit n: channel n turning); [19:12] FAULTED; [31:20] RSV. -/
def FAN_GLOBAL.RUNNING : Field := ⟨0x0B0000C, 4, 8, .ro, 0, .die, 0, 1⟩
/-- R394: [3:0] PROFILE; [11:4] RUNNING (bit n: channel n turning); [19:12] FAULTED; [31:20] RSV. -/
def FAN_GLOBAL.FAULTED : Field := ⟨0x0B0000C, 12, 8, .ro, 0, .die, 0, 1⟩
/-- R394: time in THROTTLE since manufacture. -/
def THERM_THROTTLE_MS : Field := ⟨0x0B00010, 0, 64, .ro, 0, .keep, 0, 1⟩
/-- R394: thermal stops since manufacture, saturating at 0xFFFF_FFFF. -/
def THERM_CRIT_COUNT : Field := ⟨0x0B00018, 0, 32, .ro, 0, .keep, 0, 1⟩
/-- R395: 0 image (PIN_EN or profile); 1 profile; 2 pin; 3 HOST_PCT. -/
def FAN_CTRL.SOURCE : Field := ⟨0x0B00100, 0, 2, .rw, 0, .die, 64, 8⟩
/-- R395: 0 to 100 percent of RATED_RPM; values above 100 read as 100. -/
def FAN_CTRL.HOST_PCT : Field := ⟨0x0B00100, 2, 7, .rw, 0, .die, 64, 8⟩
/-- R395: 1 CLEAR_FAULT; 2 RESTART (new start sequence); 3 RELEARN (motor estimates from nominal at . -/
def FAN_CMD.CMD : Field := ⟨0x0B00104, 0, 3, .wo, 0, .die, 64, 8⟩
/-- R395: 0 OFF; 1 LISTEN; 2 BRAKE; 3 WAIT; 4 START; 5 BOOST; 6 STEADY; 7 RETRY_WAIT; 8 FAULT. -/
def FAN_STATUS.STATE : Field := ⟨0x0B00108, 0, 4, .ro, 0, .die, 64, 8⟩
/-- R395: attempt in progress, 0 to 3 for the 1st to 4th. -/
def FAN_STATUS.ATTEMPT : Field := ⟨0x0B00108, 4, 2, .ro, 0, .die, 64, 8⟩
/-- R395: 1 while asymmetric shift is in force. -/
def FAN_STATUS.SHIFTING : Field := ⟨0x0B00108, 6, 1, .ro, 0, .die, 64, 8⟩
/-- R395: 1 after an overcurrent shutdown (R380). -/
def FAN_STATUS.OVERCURRENT : Field := ⟨0x0B00108, 7, 1, .w1c, 0, .die, 64, 8⟩
/-- R395: 1 after a lock loss while running. -/
def FAN_STATUS.STALL : Field := ⟨0x0B00108, 8, 1, .w1c, 0, .die, 64, 8⟩
/-- R395: 0 none; 1 start failed; 2 overcurrent; 3 brake failed; 4 calibration invalid in Safe Mode. -/
def FAN_STATUS.FAULT_CAUSE : Field := ⟨0x0B00108, 9, 3, .ro, 0, .die, 64, 8⟩
/-- R394: [15:0] estimated rpm; [16] REVERSE; [31:17] RSV. -/
def FAN_SPEED.RPM : Field := ⟨0x0B0010C, 0, 16, .ro, 0, .die, 64, 8⟩
/-- R394: [15:0] estimated rpm; [16] REVERSE; [31:17] RSV. -/
def FAN_SPEED.REVERSE : Field := ⟨0x0B0010C, 16, 1, .ro, 0, .die, 64, 8⟩
/-- R394: [15:0] target rpm; [31:16] RSV. -/
def FAN_TARGET.RPM : Field := ⟨0x0B00110, 0, 16, .ro, 0, .die, 64, 8⟩
/-- R394: [15:0] phase current amplitude, mA; [31:16] RSV. -/
def FAN_CURRENT.MA : Field := ⟨0x0B00114, 0, 16, .ro, 0, .die, 64, 8⟩
/-- R394: [9:0] FAN_CMD duty, 0.1 %; [10] VALID; [31:11] RSV. -/
def FAN_PIN.DUTY : Field := ⟨0x0B00118, 0, 10, .ro, 0, .die, 64, 8⟩
/-- R394: [9:0] FAN_CMD duty, 0.1 %; [10] VALID; [31:11] RSV. -/
def FAN_PIN.VALID : Field := ⟨0x0B00118, 10, 1, .ro, 0, .die, 64, 8⟩
/-- R394: successful starts since manufacture. -/
def FAN_START_COUNT : Field := ⟨0x0B00120, 0, 64, .ro, 0, .keep, 64, 8⟩
/-- R394: failed attempts since manufacture, saturating. -/
def FAN_FAIL_COUNT : Field := ⟨0x0B00128, 0, 32, .ro, 0, .keep, 64, 8⟩
/-- R394: skipped samples since reset, saturating. -/
def FAN_SKIP_COUNT : Field := ⟨0x0B0012C, 0, 32, .ro, 0, .die, 64, 8⟩
/-- R394: shifted periods since reset, saturating. -/
def FAN_SHIFT_COUNT : Field := ⟨0x0B00130, 0, 32, .ro, 0, .die, 64, 8⟩
/-- R394: seconds turning since manufacture. -/
def FAN_RUN_S : Field := ⟨0x0B00138, 0, 64, .ro, 0, .keep, 64, 8⟩
/-- R419: 1 while frozen. -/
def EVR_STATUS.FROZEN : Field := ⟨0x0C00000, 0, 1, .ro, 0, .die, 0, 1⟩
/-- R419: 0 none; 1 host port 0; 2 host port 1; 3 SMBus. -/
def EVR_STATUS.FREEZE_OWNER : Field := ⟨0x0C00000, 1, 2, .ro, 0, .die, 0, 1⟩
/-- R419: records queued, 0 to 64. -/
def EVR_STATUS.SIDE_QUEUE : Field := ⟨0x0C00000, 3, 7, .ro, 0, .die, 0, 1⟩
/-- R419: R404. -/
def EVR_STATUS.FULL : Field := ⟨0x0C00000, 10, 1, .ro, 0, .boot, 0, 1⟩
/-- R419: 1 once LOG_NEARLY_FULL has been recorded for this log. -/
def EVR_STATUS.NEARLY_FULL : Field := ⟨0x0C00000, 11, 1, .ro, 0, .boot, 0, 1⟩
/-- R419: 0 native; 1 PX2448 compatibility. -/
def EVR_STATUS.MODE : Field := ⟨0x0C00000, 12, 1, .ro, 0, .boot, 0, 1⟩
/-- R419: 1 when a key is enrolled. -/
def EVR_STATUS.AUTH_ENROLLED : Field := ⟨0x0C00000, 13, 1, .ro, 0, .boot, 0, 1⟩
/-- R419: 1 during a clear. -/
def EVR_STATUS.CLEARING : Field := ⟨0x0C00000, 14, 1, .ro, 0, .die, 0, 1⟩
/-- R419: 1 while a challenge is valid. -/
def EVR_STATUS.CHAL_VALID : Field := ⟨0x0C00000, 15, 1, .ro, 0, .die, 0, 1⟩
/-- R419: R411. -/
def EVR_STATUS.LOCKOUT : Field := ⟨0x0C00000, 16, 1, .ro, 0, .die, 0, 1⟩
/-- R419: 1 FREEZE; 2 UNFREEZE; 3 CHALLENGE; 4 CLEAR; 5 AUTH_SET; 6 SOUNDPOST_NOW; others ignored; i. -/
def EVR_CMD.CMD : Field := ⟨0x0C00004, 0, 3, .wo, 0, .die, 0, 1⟩
/-- R419: 1 while a command runs. -/
def EVR_CMD_STATUS.BUSY : Field := ⟨0x0C00008, 0, 1, .ro, 0, .die, 0, 1⟩
/-- R419: 1 when a command has ended. -/
def EVR_CMD_STATUS.DONE : Field := ⟨0x0C00008, 1, 1, .w1c, 0, .die, 0, 1⟩
/-- R419: 0 none; 1 frozen by another interface; 2 not the freeze owner; 3 entropy not ready; 4 chal. -/
def EVR_CMD_STATUS.ERROR : Field := ⟨0x0C00008, 2, 4, .ro, 0, .die, 0, 1⟩
/-- R418: next sequence; HI [15:0] holds bits [47:32]. -/
def EVR_NEXT_SEQ : Field := ⟨0x0C00010, 0, 48, .ro, 0, .keep, 0, 1⟩
/-- R418: [10:0] pages in use; [21:11] open page; [31:22] RSV. -/
def EVR_PAGES.IN_USE : Field := ⟨0x0C00018, 0, 11, .ro, 0, .keep, 0, 1⟩
/-- R418: [10:0] pages in use; [21:11] open page; [31:22] RSV. -/
def EVR_PAGES.OPEN : Field := ⟨0x0C00018, 11, 11, .ro, 0, .keep, 0, 1⟩
/-- R418: [9:0] page 1 to 1,023, where 0 reads as zeros; [31:10] RSV; reset 1. -/
def EVR_PAGE_SEL.PAGE : Field := ⟨0x0C0001C, 0, 10, .rw, 1, .die, 0, 1⟩
/-- R418: DROP[s], saturating. -/
def EVR_DROP : Field := ⟨0x0C00020, 0, 32, .ro, 0, .keep, 4, 8⟩
/-- R418: records overwritten under R405. -/
def EVR_OVERWRITTEN : Field := ⟨0x0C00040, 0, 64, .ro, 0, .keep, 0, 1⟩
/-- R418: challenge, byte 0 in word 0 bits [7:0]; zero when none is valid. -/
def EVR_CHAL : Field := ⟨0x0C00050, 0, 128, .ro, 0, .die, 0, 1⟩
/-- R418: token for CLEAR and AUTH_SET. -/
def EVR_AUTH : Field := ⟨0x0C00060, 0, 256, .wo, 0, .die, 0, 1⟩
/-- R418: new key for AUTH_SET; zeroed after each command. -/
def EVR_AUTH_KEY : Field := ⟨0x0C00080, 0, 256, .wo, 0, .die, 0, 1⟩
/-- R418: [7:0] catalogue page; [31:8] RSV; reset 0. -/
def EVR_CAT_SEL.PAGE : Field := ⟨0x0C000A0, 0, 8, .rw, 0, .die, 0, 1⟩
/-- R419: bit c is 1 when copy c holds a valid newest soundpost: 0 eMRAM; 1 vault; 2 boot flash. -/
def SP_STATUS.VALID : Field := ⟨0x0C00100, 0, 3, .ro, 0, .boot, 0, 1⟩
/-- R419: 1 while any copy is being written. -/
def SP_STATUS.WRITING : Field := ⟨0x0C00100, 3, 1, .ro, 0, .die, 0, 1⟩
/-- R419: 0 eMRAM; 1 vault; 2 boot flash; 3 reads zeros. -/
def SP_SEL.COPY : Field := ⟨0x0C00104, 0, 2, .rw, 0, .die, 0, 1⟩
/-- R419: 0 to 31 for the vault; 0 to 3 otherwise, where higher values read zeros. -/
def SP_SEL.SLOT : Field := ⟨0x0C00104, 2, 5, .rw, 0, .die, 0, 1⟩
/-- R418: newest SP_SEQ. -/
def SP_LAST_SEQ : Field := ⟨0x0C00108, 0, 64, .ro, 0, .keep, 0, 1⟩
/-- R348: 1 while pitch time is valid (R335). -/
def PIT_STATUS.VALID : Field := ⟨0x0D00000, 0, 1, .ro, 0, .boot, 0, 1⟩
/-- R348: own class, 1 to 5 (R336). -/
def PIT_STATUS.CLASS : Field := ⟨0x0D00000, 1, 3, .ro, 0, .boot, 0, 1⟩
/-- R348: 1 while grandmaster. -/
def PIT_STATUS.IS_GM : Field := ⟨0x0D00000, 4, 1, .ro, 0, .die, 0, 1⟩
/-- R348: 1 while synchronised to a grandmaster. -/
def PIT_STATUS.SYNCED : Field := ⟨0x0D00000, 5, 1, .ro, 0, .die, 0, 1⟩
/-- R348: 1 in holdover. -/
def PIT_STATUS.HOLDOVER : Field := ⟨0x0D00000, 6, 1, .ro, 0, .die, 0, 1⟩
/-- R348: 1 while PPS_IN pulses arrive. -/
def PIT_STATUS.PPS_PRESENT : Field := ⟨0x0D00000, 7, 1, .ro, 0, .die, 0, 1⟩
/-- R348: 1 while within the ±25 ns bound of R339. -/
def PIT_STATUS.ACCURATE : Field := ⟨0x0D00000, 8, 1, .ro, 0, .die, 0, 1⟩
/-- R348: 1 SET; 2 SET_AT_PPS; 3 SET_UTC; 4 RESYNC (new exchange at once); others ignored. -/
def PIT_CMD.CMD : Field := ⟨0x0D00004, 0, 3, .wo, 0, .die, 0, 1⟩
/-- R348: 1 while SET_AT_PPS waits for a pulse. -/
def PIT_CMD_STATUS.BUSY : Field := ⟨0x0D00008, 0, 1, .ro, 0, .die, 0, 1⟩
/-- R348: 1 when a command has ended. -/
def PIT_CMD_STATUS.DONE : Field := ⟨0x0D00008, 1, 1, .w1c, 0, .die, 0, 1⟩
/-- R348: 0 none; 1 not grandmaster (R338); 2 PPS_IN absent or not enabled. -/
def PIT_CMD_STATUS.ERROR : Field := ⟨0x0D00008, 2, 4, .ro, 0, .die, 0, 1⟩
/-- R347: local pitch time. -/
def PIT_NOW : Field := ⟨0x0D00010, 0, 64, .ro, 0, .die, 0, 1⟩
/-- R347: value for SET and SET_AT_PPS; reset 0. -/
def PIT_SET : Field := ⟨0x0D00018, 0, 64, .rw, 0, .die, 0, 1⟩
/-- R348: current TAI − UTC, signed seconds. -/
def PIT_UTC.OFFSET : Field := ⟨0x0D00020, 0, 16, .ro, 0, .boot, 0, 1⟩
/-- R348: value applied by SET_UTC. -/
def PIT_UTC.NEW : Field := ⟨0x0D00020, 16, 16, .rw, 0, .die, 0, 1⟩
/-- R348: signed; ±2,147,483,647 at saturation. -/
def PIT_OFFSET.NS : Field := ⟨0x0D00024, 0, 32, .ro, 0, .die, 0, 1⟩
/-- R348: grandmaster NODE_ID. -/
def PIT_GM.NODE : Field := ⟨0x0D00028, 0, 9, .ro, 0, .die, 0, 1⟩
/-- R348: grandmaster class. -/
def PIT_GM.CLASS : Field := ⟨0x0D00028, 9, 3, .ro, 5, .die, 0, 1⟩
/-- R348: hops to the grandmaster; 31 means 31 or more. -/
def PIT_GM.DEPTH : Field := ⟨0x0D00028, 12, 5, .ro, 0, .die, 0, 1⟩
/-- R348: grandmaster GM_PRIORITY. -/
def PIT_GM.PRIORITY : Field := ⟨0x0D00028, 17, 8, .ro, 0, .die, 0, 1⟩
/-- R347: [7:0] INDEX; [31:8] RSV; reset 0. -/
def PLUCK_SEL.INDEX : Field := ⟨0x0D00030, 0, 8, .rw, 0, .die, 0, 1⟩
/-- R348: 0 EMPTY; 1 ARMED; 2 DONE; 3 LATE_DONE; 4 DROPPED; 5 CANCELLED; 6 RUNNING. -/
def PLUCK_STATE.STATE : Field := ⟨0x0D00034, 0, 3, .ro, 0, .die, 0, 1⟩
/-- R348: 0 none; 1 late policy; 2 AC_FAIL_N; 3 target absent or not applicable; 4 Safe Mode or Tamp. -/
def PLUCK_STATE.DROP_REASON : Field := ⟨0x0D00034, 3, 4, .ro, 0, .die, 0, 1⟩
/-- R348: 1 for an entry loaded from the image. -/
def PLUCK_STATE.STANDING : Field := ⟨0x0D00034, 7, 1, .ro, 0, .die, 0, 1⟩
/-- R347: lateness of the selected entry's last late run or drop, ns. -/
def PLUCK_LATE : Field := ⟨0x0D00038, 0, 64, .ro, 0, .die, 0, 1⟩
/-- R347: selected entry, byte 0 in word 0 bits [7:0]. -/
def PLUCK_DATA : Field := ⟨0x0D00040, 0, 256, .rw, 0, .die, 0, 1⟩
/-- R348: 1 WRITE; 2 WRITE_FED; 3 CANCEL; 4 CANCEL_FED; others ignored; ignored while BUSY is 1. -/
def PLUCK_CMD.CMD : Field := ⟨0x0D00060, 0, 3, .wo, 0, .die, 0, 1⟩
/-- R348: 1 while a command runs. -/
def PLUCK_STATUS.BUSY : Field := ⟨0x0D00064, 0, 1, .ro, 0, .die, 0, 1⟩
/-- R348: 1 when a command has ended. -/
def PLUCK_STATUS.DONE : Field := ⟨0x0D00064, 1, 1, .w1c, 0, .die, 0, 1⟩
/-- R348: 0 none; 1 index not EMPTY or terminal; 2 field invalid; 3 not joined (WRITE_FED, CANCEL_FE. -/
def PLUCK_STATUS.ERROR : Field := ⟨0x0D00064, 2, 4, .ro, 0, .die, 0, 1⟩
/-- R348: members that installed the pluck on time. -/
def PLUCK_DIST.ACKED : Field := ⟨0x0D00068, 0, 10, .ro, 0, .die, 0, 1⟩
/-- R348: members that answered FULL. -/
def PLUCK_DIST.FULL : Field := ⟨0x0D00068, 10, 10, .ro, 0, .die, 0, 1⟩
/-- R348: members that answered LATE. -/
def PLUCK_DIST.LATE : Field := ⟨0x0D00068, 20, 10, .ro, 0, .die, 0, 1⟩
/-- R348: 1 when every member has answered or 100 ms have passed. -/
def PLUCK_DIST.COMPLETE : Field := ⟨0x0D00068, 30, 1, .ro, 0, .die, 0, 1⟩
/-- R347: LATE_DONE runs since Pegbox start. -/
def PLUCK_LATE_COUNT : Field := ⟨0x0D00070, 0, 64, .ro, 0, .die, 0, 1⟩
/-- R347: drops since Pegbox start. -/
def PLUCK_DROP_COUNT : Field := ⟨0x0D00078, 0, 64, .ro, 0, .die, 0, 1⟩
/-- R348: image FLAGS.FEDERATED. -/
def FED_STATUS.ENABLED : Field := ⟨0x0E00000, 0, 1, .ro, 0, .boot, 0, 1⟩
/-- R348: 1 while a member. -/
def FED_STATUS.JOINED : Field := ⟨0x0E00000, 1, 1, .ro, 0, .die, 0, 1⟩
/-- R348: own NODE_ID. -/
def FED_STATUS.NODE_ID : Field := ⟨0x0E00000, 2, 9, .ro, 0, .boot, 0, 1⟩
/-- R348: members in view, 1 to 512; 0 when not joined. -/
def FED_STATUS.MEMBERS : Field := ⟨0x0E00000, 11, 10, .ro, 0, .die, 0, 1⟩
/-- R348: 0 none; 1 FULL; 2 DUP_ID; 3 FOREIGN on every link. -/
def FED_STATUS.REFUSE_REASON : Field := ⟨0x0E00000, 21, 2, .ro, 0, .die, 0, 1⟩
/-- R348: 1 when port p is in FED_PORTS. -/
def FED_LINK.FED_PORT : Field := ⟨0x0E00010, 0, 1, .ro, 0, .boot, 4, 4⟩
/-- R348: 1 while the link is trained. -/
def FED_LINK.UP : Field := ⟨0x0E00010, 1, 1, .ro, 0, .die, 4, 4⟩
/-- R348: 0 down; 1 hello; 2 member link; 3 FOREIGN. -/
def FED_LINK.STATE : Field := ⟨0x0E00010, 2, 2, .ro, 0, .die, 4, 4⟩
/-- R348: neighbour NODE_ID. -/
def FED_LINK.NEIGHBOR : Field := ⟨0x0E00010, 4, 9, .ro, 0, .die, 4, 4⟩
/-- R348: measured one-way delay, saturating at 65,535. -/
def FED_LINK.DELAY_NS : Field := ⟨0x0E00010, 13, 16, .ro, 0, .die, 4, 4⟩
/-- R347: bit b of word i: node 32 × i + b is a member. -/
def FED_MEMBERS : Field := ⟨0x0E00020, 0, 512, .ro, 0, .die, 0, 1⟩
/-- R347: joins refused by this device since reset. -/
def FED_REFUSED : Field := ⟨0x0E00060, 0, 64, .ro, 0, .die, 0, 1⟩
/-- R328: 0 STARTING; 1 STANDBY; 2 CLAIMING; 3 ACTIVE; 4 RELEASING; 5 FAULT; 6 UNPAIRED (gate tied o. -/
def CAPO_STATUS.ROLE : Field := ⟨0x0F00000, 0, 3, .ro, 0, .die, 0, 1⟩
/-- R328: 1 while the drive-write gate is open. -/
def CAPO_STATUS.GATE_OPEN : Field := ⟨0x0F00000, 3, 1, .ro, 0, .die, 0, 1⟩
/-- R328: 0 not yet classified; 1 ACTIVE; 2 CONSENT; 3 RELEASED; 4 STUCK_LOW; 5 STUCK_HIGH; 6 INVALI. -/
def CAPO_STATUS.SEEN : Field := ⟨0x0F00000, 4, 3, .ro, 0, .die, 0, 1⟩
/-- R328: 0 RELEASED; 1 ACTIVE; 2 CONSENT; 3 FAULT. -/
def CAPO_STATUS.DRIVE : Field := ⟨0x0F00000, 7, 2, .ro, 0, .die, 0, 1⟩
/-- R328: R310. -/
def CAPO_STATUS.READBACK_FAULT : Field := ⟨0x0F00000, 9, 1, .ro, 0, .die, 0, 1⟩
/-- R328: R312. -/
def CAPO_STATUS.RENEW_EXPIRED : Field := ⟨0x0F00000, 10, 1, .w1c, 0, .die, 0, 1⟩
/-- R328: latched under R314 or R317 until CLEAR_FAULT. -/
def CAPO_STATUS.LINE_FAULT : Field := ⟨0x0F00000, 11, 1, .ro, 0, .die, 0, 1⟩
/-- R328: 0 none; 1 line fault; 2 waiting for partner; 3 state not complete; 4 self-test critical; 5. -/
def CAPO_STATUS.IDLE_REASON : Field := ⟨0x0F00000, 12, 4, .ro, 0, .die, 0, 1⟩
/-- R328: 1 CLAIM; 2 RELEASE (R315); 3 CLEAR_FAULT; 4 FORCE_CLAIM (R324); 5 SELFTEST_NOW; others ign. -/
def CAPO_CMD.CMD : Field := ⟨0x0F00004, 0, 4, .wo, 0, .die, 0, 1⟩
/-- R327: renew (R312); written by Wortia firmware only; host and SMBus writes are ignored. -/
def CAPO_RENEW : Field := ⟨0x0F00008, 0, 32, .wo, 0, .die, 0, 1⟩
/-- R328: bit p: Lomwielm port p carries the pair link and is up. -/
def PAIR_STATUS.LINK_UP : Field := ⟨0x0F0000C, 0, 4, .ro, 0, .die, 0, 1⟩
/-- R328: R320. -/
def PAIR_STATUS.MIRROR_ON : Field := ⟨0x0F0000C, 4, 1, .ro, 0, .die, 0, 1⟩
/-- R328: 1 during full synchronisation. -/
def PAIR_STATUS.SYNCING : Field := ⟨0x0F0000C, 5, 1, .ro, 0, .die, 0, 1⟩
/-- R328: R322. -/
def PAIR_STATUS.STATE_COMPLETE : Field := ⟨0x0F0000C, 6, 1, .ro, 0, .boot, 0, 1⟩
/-- R328: 1 when identities match (R323). -/
def PAIR_STATUS.PARTNER_MATCH : Field := ⟨0x0F0000C, 7, 1, .ro, 0, .die, 0, 1⟩
/-- R327: R322. -/
def PAIR_EPOCH : Field := ⟨0x0F00010, 0, 32, .ro, 0, .keep, 0, 1⟩
/-- R328: bit b: test b of R321 failed its latest run. -/
def SELFTEST_STATUS.FAIL : Field := ⟨0x0F00014, 0, 6, .ro, 0, .die, 0, 1⟩
/-- R328: R321. -/
def SELFTEST_STATUS.CRITICAL : Field := ⟨0x0F00014, 8, 1, .ro, 0, .die, 0, 1⟩
/-- R328: cycles completed since reset, saturating at 65,535. -/
def SELFTEST_STATUS.CYCLES : Field := ⟨0x0F00014, 16, 16, .ro, 0, .die, 0, 1⟩
/-- R327: newest partner health word, byte 0 in word 0 bits [7:0]. -/
def PARTNER_HEALTH : Field := ⟨0x0F00018, 0, 128, .ro, 0, .die, 0, 1⟩
/-- R327: bytes mirrored since reset. -/
def MIRROR_BYTES : Field := ⟨0x0F00030, 0, 64, .ro, 0, .die, 0, 1⟩
/-- R327: entries recopied under R319 since reset. -/
def MIRROR_MISMATCH : Field := ⟨0x0F00038, 0, 64, .ro, 0, .die, 0, 1⟩
/-- R327: takeovers since manufacture, saturating at 0xFFFF_FFFF. -/
def TAKEOVER_COUNT : Field := ⟨0x0F00040, 0, 32, .ro, 0, .keep, 0, 1⟩
/-- R327: step 1 to step 6 of the last takeover, in µs, saturating. -/
def LAST_TAKEOVER_US : Field := ⟨0x0F00044, 0, 32, .ro, 0, .die, 0, 1⟩
/-- R327: token for FORCE_CLAIM. -/
def CAPO_AUTH : Field := ⟨0x0F00060, 0, 256, .wo, 0, .die, 0, 1⟩
/-- R52: 0 copy A; 1 copy B; 2 eMRAM copy; 3 none (Safe Mode). -/
def IMG_BOOT.BOOT_SOURCE : Field := ⟨0x1000000, 0, 2, .ro, 0, .boot, 0, 1⟩
/-- R52: 1 in Safe Mode. -/
def IMG_BOOT.SAFE_MODE : Field := ⟨0x1000000, 2, 1, .ro, 0, .boot, 0, 1⟩
/-- R52: 0 none; 1 no valid image; 2 unresolved tie. -/
def IMG_BOOT.SAFE_REASON : Field := ⟨0x1000000, 4, 4, .ro, 0, .boot, 0, 1⟩
/-- R52: 1 when the fourth case of R41 applied at this boot. -/
def IMG_BOOT.NONSEMANTIC_DIFF : Field := ⟨0x1000000, 8, 1, .ro, 0, .boot, 0, 1⟩
/-- R52: 1 while a rewrite under R42 is outstanding. -/
def IMG_BOOT.REWRITE_PENDING : Field := ⟨0x1000000, 9, 1, .ro, 0, .boot, 0, 1⟩
/-- R53: 1 if valid under R39. -/
def IMG_COPY.VALID : Field := ⟨0x1000004, 0, 1, .ro, 0, .boot, 4, 3⟩
/-- R53: 0 valid; 1 magic or format; 2 length or directory; 3 signature; 4 key slot unprogrammed or. -/
def IMG_COPY.REASON : Field := ⟨0x1000004, 4, 4, .ro, 0, .boot, 4, 3⟩
/-- R53: 1 if the whole-image SHA-384 equals the running image's. -/
def IMG_COPY.MATCHES_RUNNING : Field := ⟨0x1000004, 8, 1, .ro, 0, .boot, 4, 3⟩
/-- R51: running image sequence. -/
def IMG_RUN_SEQ : Field := ⟨0x1000010, 0, 64, .ro, 0, .boot, 0, 1⟩
/-- R51: canonical digest of the running image, word 0 first. -/
def IMG_RUN_DIGEST : Field := ⟨0x1000020, 0, 384, .ro, 0, .boot, 0, 1⟩
/-- R54: 1 OPEN; 2 VERIFY; 3 COMMIT; 4 ACTIVATE_LIVE; 5 ACTIVATE_RESET; 6 ABORT; 7 SELECT_COPY_A; 8. -/
def IMG_STAGE_CMD.CMD : Field := ⟨0x1000100, 0, 4, .wo, 0, .die, 0, 1⟩
/-- R54: 0 IDLE; 1 STAGING; 2 VERIFYING; 3 VERIFIED; 4 COMMITTING; 5 COMMITTED; 6 ACTIVATING; 7 REW. -/
def IMG_STAGE_STATUS.STATE : Field := ⟨0x1000104, 0, 4, .ro, 0, .die, 0, 1⟩
/-- R54: 0 none; 1 host port 0; 2 host port 1; 3 SMBus. -/
def IMG_STAGE_STATUS.OWNER : Field := ⟨0x1000104, 4, 2, .ro, 0, .die, 0, 1⟩
/-- R54: 1 while a command runs; commands written while BUSY is 1 are refused with error 0x02. -/
def IMG_STAGE_STATUS.BUSY : Field := ⟨0x1000104, 6, 1, .ro, 0, .die, 0, 1⟩
/-- R54: 0x00 none; 0x01 not owner; 0x02 wrong state or busy; 0x03 signature or key; 0x04 format or. -/
def IMG_STAGE_STATUS.ERROR : Field := ⟨0x1000104, 8, 8, .ro, 0, .die, 0, 1⟩
/-- R54: 0 none; 1 live; 2 reset; valid from VERIFIED onward. -/
def IMG_STAGE_STATUS.CHANGE_CLASS : Field := ⟨0x1000104, 16, 2, .ro, 0, .die, 0, 1⟩
/-- R51: staging page, [4:0]; other bits RSV; reset 0. -/
def IMG_STAGE_PAGE.PAGE : Field := ⟨0x1000108, 0, 5, .rw, 0, .die, 0, 1⟩
/-- R51: staged image length in bytes, [21:0]; other bits RSV; reset 0. -/
def IMG_STAGE_LEN.LEN : Field := ⟨0x100010C, 0, 22, .rw, 0, .die, 0, 1⟩
/-- R51: authorization token for SELECT_COPY_A/B and key enrolment and revocation. -/
def IMG_AUTH : Field := ⟨0x1000120, 0, 256, .wo, 0, .die, 0, 1⟩
/-- R51: [3:0] slot programmed; [7:4] slot revoked; other bits RSV. -/
def IMG_KEY_STATUS.PROGRAMMED : Field := ⟨0x1000200, 0, 4, .ro, 0, .die, 0, 1⟩
/-- R51: [3:0] slot programmed; [7:4] slot revoked; other bits RSV. -/
def IMG_KEY_STATUS.REVOKED : Field := ⟨0x1000200, 4, 4, .ro, 0, .die, 0, 1⟩
/-- R61: 1 RESTORE_FACTORY; 2 RESTORE_PREVIOUS; 3 FACTORY_COMMIT; others ignored. -/
def CAL_CMD.CMD : Field := ⟨0x1100000, 0, 4, .wo, 0, .die, 0, 1⟩
/-- R61: bit n is 1 when user block n is valid. -/
def CAL_STATUS.USER_VALID : Field := ⟨0x1100004, 0, 16, .ro, 0, .boot, 0, 1⟩
/-- R61: 1 when every factory block in use is valid. -/
def CAL_STATUS.FACTORY_VALID : Field := ⟨0x1100004, 16, 1, .ro, 0, .boot, 0, 1⟩
/-- R61: 1 when every previous block in use is valid. -/
def CAL_STATUS.PREVIOUS_VALID : Field := ⟨0x1100004, 17, 1, .ro, 0, .boot, 0, 1⟩
/-- R61: 1 after FACTORY_COMMIT. -/
def CAL_STATUS.FACTORY_LOCKED : Field := ⟨0x1100004, 18, 1, .ro, 0, .boot, 0, 1⟩
/-- R61: 1 while a command runs. -/
def CAL_STATUS.BUSY : Field := ⟨0x1100004, 19, 1, .ro, 0, .die, 0, 1⟩
/-- R61: 0 none; 1 factory set invalid; 2 previous set invalid; 3 factory locked. -/
def CAL_STATUS.ERROR : Field := ⟨0x1100004, 20, 4, .ro, 0, .die, 0, 1⟩

/-- Part 0 of the field table. -/
def table0 : List Field :=
  [SYS_ID.PART, SYS_ID.ORDER, SYS_ID.STEP_LETTER, SYS_ID.STEP_NUM,
   SYS_HBM.STACK_GIB, SYS_FW.VERSION, SYS_FW.BANK, SYS_FW.FROM_CACHE,
   SYS_STATUS.PEGBOX_READY, SYS_STATUS.FAST_RUNNING, SYS_STATUS.SAFE_MODE, SYS_STATUS.TAMPER_HOLD,
   SYS_STATUS.FATAL_HOLD, SYS_STATUS.REPLAY_PENDING, SYS_STATUS.GATE_OPEN, SYS_STATUS.POWER,
   SYS_STATUS.THERMAL, SYS_DEVICE_ID, SYS_SERIAL, SYS_BUS_STATUS.ERR,
   SYS_BUS_STATUS.IFACE, SYS_BUS_STATUS.REASON, SYS_BUS_ADDR.OFFSET, SYS_SCRATCH,
   SYS_UPTIME_S, SYS_HBM_STAT.TRAINED, SYS_HBM_STAT.SELF_REFRESH, HBM_CORR,
   HBM_UNCORR, PWR_STATE.STATE, PWR_STATE.TARGET, PWR_STATE.FAST,
   PWR_STATE.PEGBOX_READY, PWR_STATE.BOOTING, PWR_STATE.RESET_DUMP, PWR_RESET_INFO.AON_POR,
   PWR_RESET_INFO.AON_PIN, PWR_RESET_INFO.WATCHDOG, PWR_RESET_INFO.SYS_PIN, PWR_RESET_INFO.ACTIVATE]

/-- Part 1 of the field table. -/
def table1 : List Field :=
  [PWR_RESET_INFO.FATAL, PWR_RESET_INFO.RAIL, PWR_RESET_INFO.LONG_HOLD, PWR_RST_HOLD_MS,
   PWR_BOOT_US, PWR_REPLAY_MS, PWR_AVS.STEP, PWR_AVS.NO_ANSWER,
   PWR_RAILS.IN_RANGE, PWR_TRANS_COUNT, ERR_STATUS.DEPTH, ERR_STATUS.FATAL_HOLD,
   ERR_STATUS.FATAL_24H, ERR_STATUS.LAST_CAUSE, ERR_CMD.CMD, ERR_DEPTH_MAX.DEPTH,
   ERR_FATAL_COUNT, ERR_RECOVERED, AGE_STATUS.MARGIN_OUT, AGE_STATUS.LIFE_WARN,
   AGE_STATUS.MEASURING, AGE_LIFE.PCT_X100, AGE_EQUIV_S, AGE_RO_SLOW.SLOW_X100,
   AGE_AVS_STEPS.AGING, AGE_AVS_STEPS.TEMP, AGE_AVS_STEPS.EXTRA_CLOCK, AGE_TJ_MAX.TJ,
   AGE_PWR_CYCLES, AGE_THERM_CYCLES, AGE_TJ_HIST, HFE_STATUS.PAUSE_SHARED,
   HFE_STATUS.PAUSE_ALL, HFE_STATUS.SANITIZE_ACTIVE, HFE_STATUS.FORMAT_ACTIVE, HFE_STATUS.REPLAY_PENDING,
   HFE_STATUS.ACTIVATION_FENCE, HFE_TAG_OCC.TAGS, HFE_TAG_OCC.C0_TAGS, HFE_LOCK_OCC.ENTRIES]

/-- Part 2 of the field table. -/
def table2 : List Field :=
  [HFE_LOCK_OCC.C0_ENTRIES, HFE_POOL.FREE_SQ, HFE_POOL.FREE_CQ, HFE_LATE_DROP_COUNT,
   HFE_LATE_DROP_INFO.PORT, HFE_LATE_DROP_INFO.INDEX, HFE_LATE_DROP_INFO.GEN, HFE_LOCK_WAIT_COUNT,
   HFE_FETCH_PAUSE_COUNT, HFE_CID_CONFLICT_COUNT, HFE_DWE_STATUS.ENTRIES, HFE_DWE_STATUS.OVERFLOW,
   HFE_COLLECT_MAX.MAX_DEPTH, LAT_CTRL.HIST_EN, LAT_CTRL.HIST_CLEAR, LAT_STATUS.CMD_THROTTLE,
   LAT_STATUS.BYTE_THROTTLE, LAT_STATUS.OUTSTANDING_OVER, LAT_STATUS.EXCLUSION, LAT_C0_DONE,
   LAT_C0_VIOL, LAT_C0_OUTSIDE, LAT_C0_EXCL, LAT_C0_ISSUE_MAX.NS,
   LAT_C0_POST_MAX.NS, LAT_C0_RATE.KCMD, LAT_C0_RATE.GBPS_X100, LAT_RECON,
   LAT_SUPERSEDED, LAT_HIST_SEL.CLASS, LAT_HIST_SEL.BIN, LAT_HIST_SEL.MEASURE,
   LAT_HIST_DATA.COUNT, MAP_STATUS.LANES_BUSY, MAP_FAULT_INFO.REASON, MAP_FAULT_INFO.PC,
   MAP_FAULT_INFO.LANE, MAP_FAULT_INFO.ARRAY, MAP_FAULT_INFO.EPOCH, MAP_FAULT_INFO.ENTRY]

/-- Part 3 of the field table. -/
def table3 : List Field :=
  [MAP_FAULT_IN, MAP_FAULT_UNIT.UNIT, MAP_FAULT_COUNT, MAP_PREEMPT_COUNT,
   MAP_TEST_CTRL.ARRAY, MAP_TEST_CTRL.EPOCH, MAP_TEST_CTRL.ENTRY, MAP_TEST_CTRL.GO,
   MAP_TEST_STATUS.BUSY, MAP_TEST_STATUS.DONE, MAP_TEST_STATUS.FAULT, MAP_TEST_STATUS.STEPS,
   MAP_TEST_IN, MAP_TEST_UNIT.UNIT, MAP_TEST_MEMBER.MEMBER, MAP_TEST_OFFSET,
   SC_STATUS.INIT_DONE, SC_STATUS.RANGE_BUSY, SC_STATUS.MAINT_BUSY, SC_STATUS.LOCK_REFUSED,
   SC_STATUS.LOCKED_WAYS, SC_CTRL.EVICT_PATH, SC_CTRL.PREFETCH_EN, SC_ALLOC.ALLOC,
   SC_ALLOC.NO_PREFETCH, SC_LOCK.WAYS, SC_PRELOAD_WAYS.WAYS, SC_MAINT.OP,
   SC_MAINT.MODE, SC_MAINT_ADDR.ADDR, SC_MAINT_SETWAY.SET, SC_MAINT_SETWAY.WAY,
   SC_RANGE_CMD.OP, SC_RANGE_STATUS.BUSY, SC_RANGE_STATUS.DONE, SC_RANGE_STATUS.OVERFLOW,
   SC_RANGE_STATUS.ERR_CODE, SC_RANGE_START.VALUE, SC_RANGE_LEN.VALUE, SC_RANGE_DISPLACED.LINES]

/-- Part 4 of the field table. -/
def table4 : List Field :=
  [SC_HIT, SC_MISS, SC_PF_ISSUED, SC_PF_USED,
   SC_VICTIM_HIT, SC_OWN_RETRY, SC_ECC_CORR, SC_ECC_UNCORR,
   PQE_STATUS.SLICE_ACTIVE, PQE_STATUS.SLICE_FAILED, PQE_STATUS.KAT_BUSY, PQE_STATUS.KAT_LAST_FAIL,
   PQE_KAT_CMD.RUN, PQE_SRC_BYTES, PQE_SOLVE_COUNT, PQE_KAT_PASS,
   RBE_STATUS.BUSY, RBE_LOST_SEL.INDEX, RBE_LOST_COUNT.ENTRIES, RBE_LOST_COUNT.OVERFLOW,
   RBE_LOST_DATA, ARR_STATE.STATE, ARR_STATE.OP, ARR_STATE.PAUSED,
   ARR_STATE.PAUSE_REASON, ARR_STATE.MISSING, ARR_STATE.LOST_OVERFLOW, ARR_CMD.CMD,
   ARR_CMD.MEMBER, ARR_RATE.CAP_MBPS, ARR_RATE.SHARE_PCT, ARR_FAILED,
   ARR_SLOW, ARR_PROGRESS, ARR_TOTAL, ARR_BOW,
   ARR_CKPT, ARR_REPAIR_COUNT, ARR_MISMATCH_COUNT, ARR_SCRUB_END]

/-- Part 5 of the field table. -/
def table5 : List Field :=
  [ARR_BOWBUF.SOURCE_MIB, ARR_BOWBUF.DISPLACED_MIB, CIP_STATUS.OWNER_SET, CIP_STATUS.TRNG_READY,
   CIP_STATUS.TRNG_FAILED, CIP_STATUS.TAMPER_HOLD, CIP_STATUS.NONCE_WARN, CIP_STATUS.CONTEXTS,
   CIP_KEY_CMD.CMD, CIP_KEY_STATUS.BUSY, CIP_KEY_STATUS.DONE, CIP_KEY_STATUS.ERROR,
   CIP_KEY_STATUS.SLOT, CIP_KEY_SEL.SLOT, CIP_SLOT_INFO.STATE, CIP_SLOT_INFO.CTX_VALID,
   CIP_SLOT_INFO.NSID, CIP_SLOT_CTX, CIP_SLOT_CTR, CIP_SLOT_MARK,
   CIP_NONCE_WARN, CIP_TRNG_STATUS.READY, CIP_TRNG_STATUS.STARTUP, CIP_TRNG_STATUS.FAILED,
   CIP_TRNG_STATUS.POOL, CIP_TRNG_RCT_FAIL, CIP_TRNG_APT_FAIL, CIP_TAMPER_STATUS.LATCHED,
   CIP_TAMPER_STATUS.ACTIVE, CIP_TAMPER_STATUS.IN_OFF, CIP_TAMPER_CFG.EXT_EN, CIP_TAMPER_CFG.EXT_POL,
   CIP_TAMPER_CFG.FILTER, CIP_TAMPER_CFG.LOCK, CIP_ENC_SECTORS, CIP_DEC_SECTORS,
   CIP_AUTH_FAIL_COUNT, CIP_AUTH, CIP_SUSPEND_COUNT, CIP_KEY_WINDOW]

/-- Part 6 of the field table. -/
def table6 : List Field :=
  [DMA_STATUS.RUNNING, DMA_STATUS.AREA_READY, DMA_IRQ_CFG.VECTOR, DMA_IRQ_CFG.PORT,
   DMA_IRQ_CFG.EN, DMA_AREA_BASE, DMA_AREA_SIZE, DMA_BYTES,
   DMA_IRQ, WIN_BASE.ADDR, WIN_LIMIT.ADDR, WIN_CTRL.EN,
   WIN_CTRL.SPACE, WIN_CTRL.READ, WIN_CTRL.WRITE, WIN_CTRL.ERR,
   CH_CTRL.EN, CH_CTRL.TRIG, CH_CTRL.CHAIN_SRC, CH_CTRL.DESC_SPACE,
   CH_CTRL.ERR_IE, CH_CMD.START, CH_STATUS.STATE, CH_STATUS.DISABLED_MIDWAY,
   CH_STATUS.MISSED, CH_STATUS.BAD_SEEN, CH_STATUS.PENDING, CH_STATUS.HALT_CODE,
   CH_TIMER.PERIOD_US, CH_DESC_PTR.ADDR, CH_CUR_DESC.ADDR, CH_BYTES,
   CH_WIN_MASK.WINDOWS, CH_DONE_COUNT, CH_BAD_COUNT, CH_MISSED_COUNT,
   LINK_STATUS.MODE, LINK_STATUS.PRESENT, LINK_STATUS.LINK_UP, LINK_STATUS.RATE]

/-- Part 7 of the field table. -/
def table7 : List Field :=
  [LINK_STATUS.WIDTH, LINK_STATUS.DUAL_PORT, LINK_STATUS.WRITE_GATE, LINK_STATUS.PWREN,
   PORT_STATE.STATE, PORT_STATE.REJECT_REASON, PORT_STATE.MEMBER_INDEX, PORT_STATE.ARRAY,
   PORT_CMD.CMD, ERR_INFO.KIND, ERR_INFO.DRIVE_STATUS, ERR_INFO.SLOT,
   CAPACITY, OUTSTANDING.SLOTS, OUTSTANDING.C0_SLOTS, READ_COUNT,
   WRITE_COUNT, TIMEOUT_COUNT, RETRY_COUNT, MEDIA_ERR_COUNT,
   RESET_COUNT, SLOT_LATE_COUNT, WRITE_GATE_ABORTS, DRIVE_SERIAL,
   WC_STATUS.WRITE_THROUGH, WC_STATUS.OVER_LIMIT, WC_STATUS.UNPROTECTED, WC_STATUS.MIRROR_ON,
   WC_STATUS.MIRROR_LOST, WC_STATUS.DESTAGE_ACTIVE, WC_STATUS.CLEAN, WC_STATUS.AREA_READY,
   WC_CMD.CMD, WC_LIMIT.MIB, WC_LIMIT_CFG.MIB, WC_LIMIT_VAULT.MIB,
   WC_LIMIT_ENERGY.MIB, WC_VAULTED, WC_CONTEXT.UPDATES, WC_CONTEXT.CONTEXT_MIB]

/-- Part 8 of the field table. -/
def table8 : List Field :=
  [WC_FRET.SET, WC_UPDATE_COUNT, WC_UNPROT_MS, WC_RESYNC.REGIONS_LEFT,
   WC_RESYNC.ACTIVE, WC_REPLAY.RESULT, WC_REPLAY.UNRESTORED, VLT_STATUS.PRESENT,
   VLT_STATUS.RATE_OK, VLT_STATUS.DUMPING, VLT_STATUS.REPLAYING, VLT_STATUS.ERASING,
   VLT_STATUS.PATROL, VLT_STATUS.WEAR_WARN, VLT_STATUS.DIRECTORY_DEGRADED, VLT_CMD.CMD,
   VLT_GEOM.TARGETS, VLT_GEOM.BLOCK_MIB, VLT_AREA.STATE, VLT_AREA.COMPLETE,
   VLT_AREA.CANCELLED, VLT_AREA_MIB.MIB, VLT_RATE.MBPS, VLT_WEAR.PCT,
   VLT_DUMP_COUNT, VLT_LAST_DUMP_MS, VLT_BAD_BLOCKS.BLOCKS, VLT_DUMP_SEQ,
   NRG_STATUS.QUALIFIED_ANY, NRG_STATUS.HOLDUP_EN, NRG_STATUS.AC_FAIL, NRG_STATUS.TEST_ACTIVE,
   NRG_STATUS.LEARN_ACTIVE, NRG_CMD.CMD, NRG_CMD.PACK, NRG_CMD_STATUS.BUSY,
   NRG_CMD_STATUS.DONE, NRG_CMD_STATUS.ERROR, NRG_E_J.E_J, NRG_RESERVE_J.J]

/-- Part 9 of the field table. -/
def table9 : List Field :=
  [NRG_AVAIL_J.J, PACK_STATUS.PRESENT, PACK_STATUS.QUALIFIED, PACK_STATUS.TESTING,
   PACK_STATUS.LEARNING, PACK_STATUS.CHARGE_PERMIT, PACK_STATUS.REPLACE, PACK_STATUS.FAILED,
   PACK_STATUS.TEMP_OUT, PACK_STATUS.HEALTH, PACK_STATUS.TEST_RESULT, PACK_STATUS.LEARN_RESULT,
   PACK_STATUS.PACK_SERIAL, NRG_VOLT_MV.MV, NRG_CURR_MA, NRG_TEMP.DECI_C,
   NRG_SOC.PERMILLE, NRG_PACK_E_J.J, NRG_CAP_MAH, NRG_IMPEDANCE.R_SLOW,
   NRG_IMPEDANCE.R_FAST, NRG_CYCLES.X16, NRG_COULOMB, NRG_LAST_TEST,
   NRG_LAST_LEARN, THERM_STATUS.TJ, THERM_STATUS.STATE, THERM_STATUS.CLOCK_STEPS,
   THERM_STATUS.PIN_LOSS, THERM_SEL.SENSOR, THERM_SENSOR.DECI_C, FAN_GLOBAL.PROFILE,
   FAN_GLOBAL.RUNNING, FAN_GLOBAL.FAULTED, THERM_THROTTLE_MS, THERM_CRIT_COUNT,
   FAN_CTRL.SOURCE, FAN_CTRL.HOST_PCT, FAN_CMD.CMD, FAN_STATUS.STATE]

/-- Part 10 of the field table. -/
def table10 : List Field :=
  [FAN_STATUS.ATTEMPT, FAN_STATUS.SHIFTING, FAN_STATUS.OVERCURRENT, FAN_STATUS.STALL,
   FAN_STATUS.FAULT_CAUSE, FAN_SPEED.RPM, FAN_SPEED.REVERSE, FAN_TARGET.RPM,
   FAN_CURRENT.MA, FAN_PIN.DUTY, FAN_PIN.VALID, FAN_START_COUNT,
   FAN_FAIL_COUNT, FAN_SKIP_COUNT, FAN_SHIFT_COUNT, FAN_RUN_S,
   EVR_STATUS.FROZEN, EVR_STATUS.FREEZE_OWNER, EVR_STATUS.SIDE_QUEUE, EVR_STATUS.FULL,
   EVR_STATUS.NEARLY_FULL, EVR_STATUS.MODE, EVR_STATUS.AUTH_ENROLLED, EVR_STATUS.CLEARING,
   EVR_STATUS.CHAL_VALID, EVR_STATUS.LOCKOUT, EVR_CMD.CMD, EVR_CMD_STATUS.BUSY,
   EVR_CMD_STATUS.DONE, EVR_CMD_STATUS.ERROR, EVR_NEXT_SEQ, EVR_PAGES.IN_USE,
   EVR_PAGES.OPEN, EVR_PAGE_SEL.PAGE, EVR_DROP, EVR_OVERWRITTEN,
   EVR_CHAL, EVR_AUTH, EVR_AUTH_KEY, EVR_CAT_SEL.PAGE]

/-- Part 11 of the field table. -/
def table11 : List Field :=
  [SP_STATUS.VALID, SP_STATUS.WRITING, SP_SEL.COPY, SP_SEL.SLOT,
   SP_LAST_SEQ, PIT_STATUS.VALID, PIT_STATUS.CLASS, PIT_STATUS.IS_GM,
   PIT_STATUS.SYNCED, PIT_STATUS.HOLDOVER, PIT_STATUS.PPS_PRESENT, PIT_STATUS.ACCURATE,
   PIT_CMD.CMD, PIT_CMD_STATUS.BUSY, PIT_CMD_STATUS.DONE, PIT_CMD_STATUS.ERROR,
   PIT_NOW, PIT_SET, PIT_UTC.OFFSET, PIT_UTC.NEW,
   PIT_OFFSET.NS, PIT_GM.NODE, PIT_GM.CLASS, PIT_GM.DEPTH,
   PIT_GM.PRIORITY, PLUCK_SEL.INDEX, PLUCK_STATE.STATE, PLUCK_STATE.DROP_REASON,
   PLUCK_STATE.STANDING, PLUCK_LATE, PLUCK_DATA, PLUCK_CMD.CMD,
   PLUCK_STATUS.BUSY, PLUCK_STATUS.DONE, PLUCK_STATUS.ERROR, PLUCK_DIST.ACKED,
   PLUCK_DIST.FULL, PLUCK_DIST.LATE, PLUCK_DIST.COMPLETE, PLUCK_LATE_COUNT]

/-- Part 12 of the field table. -/
def table12 : List Field :=
  [PLUCK_DROP_COUNT, FED_STATUS.ENABLED, FED_STATUS.JOINED, FED_STATUS.NODE_ID,
   FED_STATUS.MEMBERS, FED_STATUS.REFUSE_REASON, FED_LINK.FED_PORT, FED_LINK.UP,
   FED_LINK.STATE, FED_LINK.NEIGHBOR, FED_LINK.DELAY_NS, FED_MEMBERS,
   FED_REFUSED, CAPO_STATUS.ROLE, CAPO_STATUS.GATE_OPEN, CAPO_STATUS.SEEN,
   CAPO_STATUS.DRIVE, CAPO_STATUS.READBACK_FAULT, CAPO_STATUS.RENEW_EXPIRED, CAPO_STATUS.LINE_FAULT,
   CAPO_STATUS.IDLE_REASON, CAPO_CMD.CMD, CAPO_RENEW, PAIR_STATUS.LINK_UP,
   PAIR_STATUS.MIRROR_ON, PAIR_STATUS.SYNCING, PAIR_STATUS.STATE_COMPLETE, PAIR_STATUS.PARTNER_MATCH,
   PAIR_EPOCH, SELFTEST_STATUS.FAIL, SELFTEST_STATUS.CRITICAL, SELFTEST_STATUS.CYCLES,
   PARTNER_HEALTH, MIRROR_BYTES, MIRROR_MISMATCH, TAKEOVER_COUNT,
   LAST_TAKEOVER_US, CAPO_AUTH, IMG_BOOT.BOOT_SOURCE, IMG_BOOT.SAFE_MODE]

/-- Part 13 of the field table. -/
def table13 : List Field :=
  [IMG_BOOT.SAFE_REASON, IMG_BOOT.NONSEMANTIC_DIFF, IMG_BOOT.REWRITE_PENDING, IMG_COPY.VALID,
   IMG_COPY.REASON, IMG_COPY.MATCHES_RUNNING, IMG_RUN_SEQ, IMG_RUN_DIGEST,
   IMG_STAGE_CMD.CMD, IMG_STAGE_STATUS.STATE, IMG_STAGE_STATUS.OWNER, IMG_STAGE_STATUS.BUSY,
   IMG_STAGE_STATUS.ERROR, IMG_STAGE_STATUS.CHANGE_CLASS, IMG_STAGE_PAGE.PAGE, IMG_STAGE_LEN.LEN,
   IMG_AUTH, IMG_KEY_STATUS.PROGRAMMED, IMG_KEY_STATUS.REVOKED, CAL_CMD.CMD,
   CAL_STATUS.USER_VALID, CAL_STATUS.FACTORY_VALID, CAL_STATUS.PREVIOUS_VALID, CAL_STATUS.FACTORY_LOCKED,
   CAL_STATUS.BUSY, CAL_STATUS.ERROR]

end Fld

/-- Every field of the register tables. -/
def fieldTable : List Field :=
  Fld.table0 ++ Fld.table1 ++ Fld.table2 ++ Fld.table3 ++ Fld.table4 ++ Fld.table5 ++ Fld.table6 ++ Fld.table7 ++ Fld.table8 ++ Fld.table9 ++ Fld.table10 ++ Fld.table11 ++ Fld.table12 ++ Fld.table13

end Sys2Proof.Machine
end

