-- ==== Sys2Proof/Machine/Ops.lean ====
section
/-!
DEFINITION. Machine/Ops.lean: the named operations every family shares: sparse tables, register fields, the clock and
pitch time, free values, event records, fetch holds, raised errors, authorization tokens.
-/
namespace Sys2Proof.Machine

/-! ### Sparse tables -/

/-- The entry of a table under a number. -/
def tget {α : Type} (t : Tbl α) (k : Nat) : Option α :=
  match t with
  | [] => none
  | (i, a) :: r => if i = k then some a else tget r k

/-- The table with the entry under a number set; the numbers stay rising. -/
def tput {α : Type} (t : Tbl α) (k : Nat) (v : α) : Tbl α :=
  match t with
  | [] => [(k, v)]
  | (i, a) :: r => if k < i then (k, v) :: (i, a) :: r else if k = i then (k, v) :: r else (i, a) :: tput r k v

/-- The table without the entry under a number. -/
def tdel {α : Type} (t : Tbl α) (k : Nat) : Tbl α :=
  t.filter (fun p => p.1 ≠ k)

/-- The table with a function applied to the entry under a number, where there is one. -/
def tmod {α : Type} (t : Tbl α) (k : Nat) (f : α → α) : Tbl α :=
  match tget t k with
  | some a => tput t k (f a)
  | none => t

/-- The canonical form of a table: its numbers rise strictly. -/
def twf {α : Type} : Tbl α → Bool
  | [] => true
  | [_] => true
  | (i, _) :: (j, b) :: r => decide (i < j) && twf ((j, b) :: r)

/-- Byte i of a number. -/
def byteOf (v i : Nat) : Nat := v / 256 ^ i % 256

/-- The number whose bytes, lowest first, are given. -/
def ofBytes : List Nat → Nat
  | [] => 0
  | b :: r => b % 256 + 256 * ofBytes r

/-- The lowest n bytes of a number, lowest first (little-endian). -/
def leBytes (n v : Nat) : List Nat := (List.range n).map (byteOf v)

/-- The least number from `lo` on, below `lo + n`, that is not in a list. -/
def firstFree (l : List Nat) (lo n : Nat) : Option Nat :=
  ((List.range n).map (· + lo)).find? (fun i => !l.contains i)

/-- An element put into a list sorted by a number, behind the ones with an equal number. -/
def insertOn {α : Type} (f : α → Nat) (x : α) : List α → List α
  | [] => [x]
  | y :: r => if f x < f y then x :: y :: r else y :: insertOn f x r

/-- A list sorted by a number, equal ones in their order. -/
def sortOn {α : Type} (f : α → Nat) (l : List α) : List α := l.foldl (fun acc x => insertOn f x acc) []

/-- The integer square root below 2^n, bit by bit from the top. -/
def isqrtBits (n v r : Nat) : Nat :=
  match n with
  | 0 => r
  | m + 1 =>
    let c := r + 2 ^ m
    isqrtBits m v (if c * c ≤ v then c else r)

/-- The integer square root of a number below 2^128. -/
def isqrt (v : Nat) : Nat := isqrtBits 64 v 0

/-! ### Register fields (R6, R462) -/

/-- The value of a register field: what was last written or set, or its Reset value. -/
def State.fld (s : State) (f : Field) : Nat := (tget s.regs f.key).getD f.reset

/-- A register field as a bit. -/
def State.bit (s : State) (f : Field) : Bool := s.fld f ≠ 0

/-- The state with a register field set, cut to the field's width. -/
def State.setFld (s : State) (f : Field) (v : Nat) : State := { s with regs := tput s.regs f.key (v % 2 ^ f.width) }

/-- The state with a one-bit field set to a truth value. -/
def State.setBit (s : State) (f : Field) (b : Bool) : State := s.setFld f (if b then 1 else 0)

/-- A counter incremented modulo its width (R454). -/
def State.incFld (s : State) (f : Field) (n : Nat) : State := s.setFld f (s.fld f + n)

/-- A counter of 32 bits or fewer incremented, saturating (R454). -/
def State.satFld (s : State) (f : Field) (n : Nat) : State := s.setFld f (min (s.fld f + n) (2 ^ f.width - 1))

/-- A high-water mark raised to a value, saturating. -/
def State.maxFld (s : State) (f : Field) (n : Nat) : State := s.setFld f (min (max (s.fld f) n) (2 ^ f.width - 1))

/-! ### Time -/

/-- Pitch time, when it is valid (R335). -/
def State.pitch (s : State) : Option Nat := if s.bit Fld.PIT_STATUS.VALID then some (s.fld Fld.PIT_NOW) else none

/-- Milliseconds in clock units. -/
def ms : Nat := 1000000

/-- Seconds in clock units. -/
def sec : Nat := 1000000000

/-- The offset that is being slewed away, one nanosecond nearer each 10 µs, which is 100 ppm (R337). -/
def State.slewStep (s : State) : State :=
  if s.now % 10000 = 0 ∧ s.fed.slew ≠ 0 then
    let up : Bool := decide (0 < s.fed.slew)
    let s := { s with fed := { s.fed with slew := if up then s.fed.slew - 1 else s.fed.slew + 1 } }
    s.setFld Fld.PIT_NOW (if up then s.fld Fld.PIT_NOW + 1 else s.fld Fld.PIT_NOW - 1)
  else s

/-- One device clock: 8 ns, and pitch time with it while it is valid (assumption 3). -/
def State.tick (s : State) : State :=
  let s := { s with now := s.now + 8 }
  if s.bit Fld.PIT_STATUS.VALID then (s.setFld Fld.PIT_NOW (s.fld Fld.PIT_NOW + 8)).slewStep else s

/-! ### Free values (assumption 4) -/

/-- The next free value of width w. -/
def State.free (s : State) (w : Nat) : BitVec w := Config.freeBits w s.freeIx

/-- The state after a free value has been used. -/
def State.used (s : State) : State := { s with freeIx := s.freeIx + 1 }

/-! ### Events, errors, holds -/

/-- A record of a given severity sent to the recorder, which takes it with EVENT_RECORD (R402, R403). -/
def State.emitAt (s : State) (e : Ev) (sev : Nat) (payload : List Nat) : State :=
  { s with evr := { s.evr with arrivals := s.evr.arrivals ++ [⟨e, sev, s.pitch, payload⟩] } }

/-- A record of the event's own severity sent to the recorder. -/
def State.emit (s : State) (e : Ev) (payload : List Nat) : State := s.emitAt e (evSev e) payload

/-- A fatal error raised with its cause (R449); FATAL_ERROR handles it (R450). -/
def State.raiseFatal (s : State) (cause : Nat) : State :=
  { s with err := { s.err with raised := s.err.raised ++ [cause] } }

/-- Command fetch stopped for a reason. -/
def State.hold (s : State) (h : FetchHold) : State :=
  { s with pwr := { s.pwr with holds := if s.pwr.holds.contains h then s.pwr.holds else s.pwr.holds ++ [h] } }

/-- Command fetch no longer stopped for a reason. -/
def State.unhold (s : State) (h : FetchHold) : State :=
  { s with pwr := { s.pwr with holds := s.pwr.holds.filter (· ≠ h) } }

/-- Whether commands may be fetched. -/
def State.fetching (s : State) : Bool := s.pwr.holds.isEmpty && (s.pwr.fast == .running)

/-- The interface number of IMG_STAGE_STATUS.OWNER, EVR_STATUS.FREEZE_OWNER and the CLEAR record: 1 host port 0,
2 host port 1, 3 SMBus (R54, R402, R419); firmware owns no sequence and reads 0. -/
def ifaceOwner (i : Iface) : Nat :=
  match i with
  | .host0 => 1
  | .host1 => 2
  | .smbus => 3
  | .firmware => 0

/-- The interface number of SYS_BUS_STATUS.IFACE (R469). -/
def ifaceBus (i : Iface) : Nat :=
  match i with
  | .host0 => 0
  | .host1 => 1
  | .smbus => 2
  | .firmware => 3

/-- A refused or unmapped access latched in SYS_BUS_STATUS and SYS_BUS_ADDR (R457, R469). -/
def State.busError (s : State) (i : Iface) (reason addr : Nat) : State :=
  (((s.setBit Fld.SYS_BUS_STATUS.ERR true).setFld Fld.SYS_BUS_STATUS.IFACE (ifaceBus i)).setFld
    Fld.SYS_BUS_STATUS.REASON reason).setFld Fld.SYS_BUS_ADDR.OFFSET addr

/-! ### Which die answers (R456, R461) -/

/-- Whether the fast domains hold their contents: running or retained in Rest. -/
def State.fastAlive (s : State) : Bool := s.pwr.fast == .running || s.pwr.fast == .retained

/-- Whether the Fingerboard die serves an address (R456); the capo island is apart. -/
def fastServed (addr : Nat) : Bool :=
  [1, 2, 3, 4, 5, 7, 8, 14].contains (addr / 0x100000) || (addr / 0x100000 == 9 && decide (addr % 0x100000 < 0x100)) ||
  (decide (0x20100 ≤ addr) && decide (addr < 0x20108)) || (decide (0x1010000 ≤ addr) && decide (addr < 0x1020000))

/-- Whether the capo island serves an address. -/
def capoServed (addr : Nat) : Bool := addr / 0x100000 == 15

/-- Whether the domain that serves an address is powered: the Fingerboard die and the capo island are not while gated, in reset or
unpowered. -/
def State.servedNow (s : State) (addr : Nat) : Bool :=
  if fastServed addr then s.fastAlive || s.pwr.fast == .booting
  else if capoServed addr then s.pwr.fast != .inReset && s.pwr.fast != .unpowered
  else true

/-- Whether the device runs without an image (R43). -/
def State.safeMode (s : State) : Bool := s.bit Fld.IMG_BOOT.SAFE_MODE

/-- The running image, or while none runs, as in Safe Mode, the one that last ran (R47). -/
def State.oldImage (s : State) : Option Image := s.img.running.orElse (fun _ => s.img.last)

/-- A write to a command register (R461): refused where the domain that serves it is not up, or, of a register that
the Fingerboard die serves, in Safe Mode, which records it. The commands' rows do not say from which interface they come, so SYS_BUS_STATUS.IFACE is then free. -/
def State.command (s : State) (addr : Nat) (run : State → Out State) : Out State :=
  let refused (reason : Nat) : State :=
    ((s.used).busError .host0 reason addr).setFld Fld.SYS_BUS_STATUS.IFACE (s.free 2).toNat
  if !s.servedNow addr then .next (refused 4)
  else if s.safeMode && fastServed addr then .next ((refused 5).emit .safeModeIgnored [addr])
  else run s

/-! ### Weighted sharing (R22, R125, R211, R265, R290) -/

/-- Of the classes 1 to 3 that wait, those that the weights let go next. DESIGN CHOICE (assumption 42): sharing runs in rounds, in each of which a
class gets as many grants as its weight; a class that has had them waits until no class that waits has any left, and then a new round begins. -/
def wrrOpen (weight grants : List Nat) (waiting : List Nat) : List Nat :=
  let ws := waiting.filter (fun c => decide (1 ≤ c) && decide (c ≤ 3))
  let left := ws.filter (fun c => decide ((grants[c]?).getD 0 < (weight[c]?).getD 0))
  if left.isEmpty then ws else left

/-- The grants of a round after one to a class; class 0 is not shared by weight. -/
def wrrGive (weight grants : List Nat) (waiting : List Nat) (cls : Nat) : List Nat :=
  if cls = 0 then grants
  else
    let round := waiting.all (fun c => decide ((weight[c]?).getD 0 ≤ (grants[c]?).getD 0))
    let g := if round then [0, 0, 0, 0] else grants
    g.set cls ((g[cls]?).getD 0 + 1)

/-- The class that goes next: class 0 where it waits, else of those the weights let go the one preferred, else the lowest number. -/
def wrrNext (weight grants : List Nat) (waiting : List Nat) (pick : Nat) : Option Nat :=
  if waiting.contains 0 then some 0
  else
    let l := wrrOpen weight grants waiting
    if l.contains pick then some pick else (List.range 4).find? (fun c => l.contains c)

/-! ### Mirroring (R148, R318) -/

/-- Whether writes are mirrored to the partner. -/
def State.mirrored (s : State) : Bool := s.bit Fld.WC_STATUS.MIRROR_ON

/-- Bytes of an item that MIRROR_BYTES counts: sectors, and the copies in an update context (R327). -/
def mirrorBytes (i : MirrorItem) : Nat :=
  match i with
  | .sector .. => 4096
  | .context u => u.read.length * 4096
  | .bowSource .. => 4096
  | .bowDisplaced .. => 4096
  | _ => 0

/-- An item sent to the standby while writes are mirrored (R318). -/
def State.mirror (s : State) (i : MirrorItem) : State :=
  if s.mirrored then
    ({ s with capo := { s.capo with unacked := s.capo.unacked ++ [i] } } : State).incFld Fld.MIRROR_BYTES (mirrorBytes i)
  else s

/-! ### Authorization tokens (R409 to R411) -/

/-- Whether a token passes for an operation: a key is enrolled, a challenge is valid, and the token is the HMAC of
R410. -/
def State.tokenOk (s : State) (op arg token : Nat) : Bool :=
  match s.evr.authKey, s.evr.chal with
  | some key, some chal => (Config.hmacToken key chal op arg (s.fld Fld.SYS_DEVICE_ID)).toNat == token
  | _, _ => false

/-- A token checked: the challenge expires whether the check passes or fails (R410); a pass resets the failure count; a
failure records AUTH_FAIL, and after 4 consecutive failures CHALLENGE is refused for 60 s (R411). -/
def State.tokenChecked (s : State) (op : Nat) (iface : Nat) (ok : Bool) : State :=
  let s := { s with evr := { s.evr with chal := none } }
  let s := (s.setFld Fld.EVR_CHAL 0).setBit Fld.EVR_STATUS.CHAL_VALID false
  if ok then { s with evr := { s.evr with failures := 0 } }
  else
    let n := s.evr.failures + 1
    let s := { s with evr := { s.evr with failures := n } }
    let s := s.emit .authFail [op, iface]
    if 4 ≤ n then s.setBit Fld.EVR_STATUS.LOCKOUT true else s

end Sys2Proof.Machine
end

