-- ==== Sys2Proof/Machine/Fingering.lean ====
section
/-!
DEFINITION. Machine/Fingering.lean: the fingering mapper's instruction set: encoding (R95), opcodes (R96), arithmetic at
the edges (R97), the 512-step run of a lane (R93, R94, R98), EMIT's checks (R99), the structure check of a program
(R39, R103, R104) and the two built-in programs (R105, R106).
-/
namespace Sys2Proof.Machine

/-- The operations that have a register form (0x01 to 0x12) and an immediate form (0x21 to 0x32) (R96). -/
inductive AluOp where
  | add | sub | mul | mulhu | divu | remu | div | rem | and | or | xor | sll | srl | sra | min | max | minu | maxu
deriving DecidableEq, Repr

/-- The conditional branches (R96). -/
inductive BrOp where
  | beq | bne | blt | bge | bltu | bgeu
deriving DecidableEq, Repr

/-- A mapper register number (R93). -/
abbrev XReg := BitVec 4

/-- A fingering instruction (R95, R96). -/
inductive FInstr where
  | alu (op : AluOp) (rd ra rb : XReg)
  | alui (op : AluOp) (rd ra : XReg) (imm : BitVec 18)
  | neg (rd ra : XReg)
  | not (rd ra : XReg)
  | clrf
  | emit (ra rb : XReg)
  | ldh (rd : XReg) (h : BitVec 2) (imm : BitVec 16)
  | tbl (rd ra rb : XReg) (tid : BitVec 6)
  | jmp (target : BitVec 8)
  | br (op : BrOp) (ra rb : XReg) (target : BitVec 8)
  | bf (mask : BitVec 2) (target : BitVec 8)
deriving DecidableEq, Repr

/-- The opcode of an operation's register form; the immediate form adds 0x20 (R96). -/
def aluCode (op : AluOp) : BitVec 6 :=
  match op with
  | .add => 0x01 | .sub => 0x02 | .mul => 0x03 | .mulhu => 0x04 | .divu => 0x05 | .remu => 0x06
  | .div => 0x07 | .rem => 0x08 | .and => 0x09 | .or => 0x0A | .xor => 0x0B | .sll => 0x0C
  | .srl => 0x0D | .sra => 0x0E | .min => 0x0F | .max => 0x10 | .minu => 0x11 | .maxu => 0x12

/-- The operation of a register-form opcode. -/
def aluOf (c : BitVec 6) : Option AluOp :=
  [AluOp.add, .sub, .mul, .mulhu, .divu, .remu, .div, .rem, .and, .or, .xor, .sll, .srl, .sra, .min, .max, .minu,
    .maxu].find? (fun op => aluCode op = c)

/-- The opcode of a conditional branch (R96). -/
def brCode (op : BrOp) : BitVec 6 :=
  match op with
  | .beq => 0x38 | .bne => 0x39 | .blt => 0x3A | .bge => 0x3B | .bltu => 0x3C | .bgeu => 0x3D

/-- The branch of an opcode. -/
def brOf (c : BitVec 6) : Option BrOp :=
  [BrOp.beq, .bne, .blt, .bge, .bltu, .bgeu].find? (fun op => brCode op = c)

/-- The word of an instruction (R95). -/
def fEncode (i : FInstr) : Word :=
  match i with
  | .alu op rd ra rb => aluCode op ++ rd ++ ra ++ rb ++ (0 : BitVec 14)
  | .alui op rd ra imm => (aluCode op + 0x20) ++ rd ++ ra ++ imm
  | .neg rd ra => (0x13 : BitVec 6) ++ rd ++ ra ++ (0 : BitVec 18)
  | .not rd ra => (0x14 : BitVec 6) ++ rd ++ ra ++ (0 : BitVec 18)
  | .clrf => (0x15 : BitVec 6) ++ (0 : BitVec 26)
  | .emit ra rb => (0x16 : BitVec 6) ++ ra ++ rb ++ (0 : BitVec 18)
  | .ldh rd h imm => (0x34 : BitVec 6) ++ rd ++ (0 : BitVec 4) ++ h ++ imm
  | .tbl rd ra rb tid => (0x35 : BitVec 6) ++ rd ++ ra ++ rb ++ tid ++ (0 : BitVec 8)
  | .jmp t => (0x37 : BitVec 6) ++ (0 : BitVec 18) ++ t
  | .br op ra rb t => brCode op ++ ra ++ rb ++ (0 : BitVec 10) ++ t
  | .bf m t => (0x3E : BitVec 6) ++ m ++ (0 : BitVec 2) ++ (0 : BitVec 14) ++ t

/-- The instruction of a word, or none where its opcode is undefined or a zero field is not zero (R95, R96). -/
def fDecode (w : Word) : Option FInstr :=
  let op := w.extractLsb' 26 6
  let f1 := w.extractLsb' 22 4
  let f2 := w.extractLsb' 18 4
  let f3 := w.extractLsb' 14 4
  let low14 := w.extractLsb' 0 14
  let low18 := w.extractLsb' 0 18
  let t := w.extractLsb' 0 8
  let mid10 := w.extractLsb' 8 10
  match aluOf op with
  | some a => if low14 = 0 then some (.alu a f1 f2 f3) else none
  | none =>
    match aluOf (op - 0x20) with
    | some a => some (.alui a f1 f2 low18)
    | none =>
      match brOf op with
      | some b => if mid10 = 0 then some (.br b f1 f2 t) else none
      | none =>
        if op = 0x13 then (if low18 = 0 then some (.neg f1 f2) else none)
        else if op = 0x14 then (if low18 = 0 then some (.not f1 f2) else none)
        else if op = 0x15 then (if w.extractLsb' 0 26 = 0 then some .clrf else none)
        else if op = 0x16 then (if low18 = 0 then some (.emit f1 f2) else none)
        else if op = 0x34 then (if f2 = 0 then some (.ldh f1 (w.extractLsb' 16 2) (w.extractLsb' 0 16)) else none)
        else if op = 0x35 then (if t = 0 then some (.tbl f1 f2 f3 (w.extractLsb' 8 6)) else none)
        else if op = 0x37 then (if w.extractLsb' 8 18 = 0 then some (.jmp t) else none)
        else if op = 0x3E then
          (if w.extractLsb' 22 2 = 0 ∧ w.extractLsb' 8 14 = 0 then some (.bf (w.extractLsb' 24 2) t) else none)
        else none

/-! ### Arithmetic (R97) -/

/-- A result with the flags it sets: OV and DZ. -/
structure AluRes where
  v : DWord
  ov : Bool
  dz : Bool
deriving DecidableEq, Repr

/-- Whether a signed integer does not fit in 64 bits. -/
def overflows64 (i : Int) : Bool := i < -2 ^ 63 ∨ 2 ^ 63 ≤ i

/-- One operation on two operands with the edge cases of R97. -/
def aluRun (op : AluOp) (a b : DWord) : AluRes :=
  match op with
  | .add => ⟨a + b, overflows64 (a.toInt + b.toInt), false⟩
  | .sub => ⟨a - b, overflows64 (a.toInt - b.toInt), false⟩
  | .mul => ⟨a * b, overflows64 (a.toInt * b.toInt), false⟩
  | .mulhu => ⟨BitVec.ofNat 64 (a.toNat * b.toNat / 2 ^ 64), false, false⟩
  | .divu => if b = 0 then ⟨BitVec.allOnes 64, false, true⟩ else ⟨a / b, false, false⟩
  | .remu => if b = 0 then ⟨a, false, true⟩ else ⟨a % b, false, false⟩
  | .div =>
    if b = 0 then ⟨BitVec.allOnes 64, false, true⟩
    else if a = BitVec.intMin 64 ∧ b = BitVec.allOnes 64 then ⟨a, true, false⟩
    else ⟨BitVec.ofInt 64 (a.toInt.tdiv b.toInt), false, false⟩
  | .rem =>
    if b = 0 then ⟨a, false, true⟩
    else if a = BitVec.intMin 64 ∧ b = BitVec.allOnes 64 then ⟨0, true, false⟩
    else ⟨BitVec.ofInt 64 (a.toInt.tmod b.toInt), false, false⟩
  | .and => ⟨a &&& b, false, false⟩
  | .or => ⟨a ||| b, false, false⟩
  | .xor => ⟨a ^^^ b, false, false⟩
  | .sll => ⟨if 64 ≤ b.toNat then 0 else a <<< b.toNat, false, false⟩
  | .srl => ⟨if 64 ≤ b.toNat then 0 else a >>> b.toNat, false, false⟩
  | .sra => ⟨a.sshiftRight (if 64 ≤ b.toNat then 63 else b.toNat), false, false⟩
  | .min => ⟨if a.slt b then a else b, false, false⟩
  | .max => ⟨if a.slt b then b else a, false, false⟩
  | .minu => ⟨if a.ult b then a else b, false, false⟩
  | .maxu => ⟨if a.ult b then b else a, false, false⟩

/-- Whether an operation takes its 18-bit immediate unsigned: the shifts (R95). -/
def shiftOp (op : AluOp) : Bool :=
  match op with
  | .sll | .srl | .sra => true
  | _ => false

/-- The 64-bit operand of an immediate: sign-extended, but unsigned for shifts (R95). -/
def immOf (op : AluOp) (imm : BitVec 18) : DWord :=
  if shiftOp op then imm.zeroExtend 64 else imm.signExtend 64

/-- Whether a branch is taken (R96). -/
def brTaken (op : BrOp) (a b : DWord) : Bool :=
  match op with
  | .beq => a == b
  | .bne => a != b
  | .blt => a.slt b
  | .bge => !a.slt b
  | .bltu => a.ult b
  | .bgeu => !a.ult b

/-- Register bits [16h + 15 : 16h] replaced by an immediate (LDH, R96). -/
def ldhRun (old : DWord) (h : BitVec 2) (imm : BitVec 16) : DWord :=
  let sh := 16 * h.toNat
  (old &&& ~~~((0xFFFF : DWord) <<< sh)) ||| ((imm.zeroExtend 64) <<< sh)

/-! ### A lane's run (R93, R98) -/

/-- Reasons of a mapping fault, with the codes of MAP_FAULT_INFO.REASON (R109). -/
inductive MapFault where
  | stepLimit | dzAtEmit | memberRange | offsetRange | tableRange | pcRange | inputRange
deriving DecidableEq, Repr

/-- The code of a mapping fault (R109). -/
def mapFaultCode (f : MapFault) : Nat :=
  match f with
  | .stepLimit => 1 | .dzAtEmit => 2 | .memberRange => 3 | .offsetRange => 4
  | .tableRange => 5 | .pcRange => 6 | .inputRange => 7

/-- A lane: registers, sticky flags, instruction index (R93, R97). -/
structure LaneSt where
  x : XReg → DWord
  ov : Bool
  dz : Bool
  pc : Nat

/-- How a run ends: EMIT with member and offset and the DZ flag, or a fault; with the index of the last instruction
and the steps taken. -/
inductive RunEnd where
  | emit (member offset : Nat) (dz : Bool) (pc steps : Nat)
  | fault (f : MapFault) (pc steps : Nat)
deriving DecidableEq, Repr

/-- A lane with a register written. -/
def LaneSt.wr (l : LaneSt) (r : XReg) (v : DWord) : LaneSt := { l with x := fun i => if i = r then v else l.x i }

/-- What one step leaves: the lane, an EMIT, or a fault. -/
inductive StepEnd where
  | go (l : LaneSt)
  | emit (member offset : Nat)
  | fault (f : MapFault)

/-- An operation's result written to RD with its sticky flags, and the next instruction. -/
def LaneSt.aluTo (l : LaneSt) (rd : XReg) (r : AluRes) : StepEnd :=
  .go { l.wr rd r.v with ov := l.ov || r.ov, dz := l.dz || r.dz, pc := l.pc + 1 }

/-- A table entry (R96, R98). -/
def tblEntry (ts : List MapTable) (tid row col : Nat) : Option Nat :=
  match ts[tid]? with
  | none => none
  | some t => if row < t.rows ∧ col < t.cols then t.entries[row * t.cols + col]? else none

/-- One instruction (R96 to R98). -/
def fStep (ts : List MapTable) (l : LaneSt) (i : FInstr) : StepEnd :=
  match i with
  | .alu op rd ra rb => l.aluTo rd (aluRun op (l.x ra) (l.x rb))
  | .alui op rd ra imm => l.aluTo rd (aluRun op (l.x ra) (immOf op imm))
  | .neg rd ra => l.aluTo rd ⟨- l.x ra, l.x ra == BitVec.intMin 64, false⟩
  | .not rd ra => l.aluTo rd ⟨~~~ (l.x ra), false, false⟩
  | .clrf => .go { l with ov := false, dz := false, pc := l.pc + 1 }
  | .emit ra rb => .emit (l.x ra).toNat (l.x rb).toNat
  | .ldh rd h imm => .go { l.wr rd (ldhRun (l.x rd) h imm) with pc := l.pc + 1 }
  | .tbl rd ra rb tid =>
    match tblEntry ts tid.toNat (l.x ra).toNat (l.x rb).toNat with
    | some v => .go { l.wr rd (BitVec.ofNat 64 v) with pc := l.pc + 1 }
    | none => .fault .tableRange
  | .jmp t => .go { l with pc := t.toNat }
  | .br op ra rb t => .go { l with pc := if brTaken op (l.x ra) (l.x rb) then t.toNat else l.pc + 1 }
  | .bf m t =>
    .go { l with pc := if (m.getLsbD 0 && l.ov) || (m.getLsbD 1 && l.dz) then t.toNat else l.pc + 1 }

/-- A lane's run with n steps left, `done` steps having been taken (R98). DEDUCED (assumption 12): a 512th step that does not reach EMIT ends the run
with STEP_LIMIT also where it leaves the index at INSTR_COUNT, and the index latched is that of the 512th instruction, since 256 appears only for
PC_RANGE (R109). A word that does not decode cannot stand in a
valid image (R39); it ends the run as PC_RANGE does. -/
def fRun (n : Nat) (words : List Word) (ts : List MapTable) (l : LaneSt) (done : Nat) : RunEnd :=
  match n with
  | 0 => .fault .stepLimit l.pc done
  | n + 1 =>
    match words[l.pc]? with
    | none => .fault .pcRange l.pc done
    | some w =>
      match fDecode w with
      | none => .fault .pcRange l.pc done
      | some i =>
        match fStep ts l i with
        | .go l' => if n = 0 then .fault .stepLimit l.pc (done + 1) else fRun n words ts l' (done + 1)
        | .emit m o => .emit m o l.dz l.pc (done + 1)
        | .fault f => .fault f l.pc (done + 1)

/-- The registers at entry (R93). -/
def entryRegs (g : Geom) (a b : Nat) : XReg → DWord := fun r =>
  let v : Nat :=
    match r.toNat with
    | 0 => a
    | 1 => b
    | 2 => g.k
    | 3 => g.n
    | 4 => g.c
    | 5 => g.dataSectors
    | 6 => g.periodStripes
    | 7 => g.periodRows
    | _ => 0
  BitVec.ofNat 64 v

/-- Whether the inputs of a mapping are in range (R94). -/
def inputOk (g : Geom) (spare : Bool) (a b : Nat) : Bool :=
  if spare then b < g.prog.spareSlots ∧ a < g.stripeCount / g.periodStripes else a < g.stripeCount ∧ b ≤ g.k + 1

/-- A whole run of an entry before EMIT's checks (R93, R94, R98). -/
def runEntry (g : Geom) (spare : Bool) (a b : Nat) : RunEnd :=
  if inputOk g spare a b then
    fRun 512 g.prog.words g.tables
      { x := entryRegs g a b, ov := false, dz := false, pc := if spare then g.prog.entrySpare else g.prog.entryMap } 0
  else .fault .inputRange 0 0

/-- EMIT's checks in their order (R99): the accepted member and offset, or the fault. -/
def emitCheck (g : Geom) (member offset : Nat) (dz : Bool) : Except MapFault (Nat × Nat) :=
  if dz then .error .dzAtEmit
  else if g.n ≤ member then .error .memberRange
  else if g.c = 0 ∨ offset % g.c ≠ 0 ∨ g.dataSectors < offset + g.c then .error .offsetRange
  else .ok (member, offset)

/-- The result of a mapping before relocation: member and member data sector of the unit's first sector, or the fault
with its instruction index and steps (R94, R98, R99). -/
def mapEntry (g : Geom) (spare : Bool) (a b : Nat) : Except (MapFault × Nat × Nat) (Nat × Nat × Nat) :=
  match runEntry g spare a b with
  | .fault f pc steps => .error (f, pc, steps)
  | .emit m o dz pc steps =>
    match emitCheck g m o dz with
    | .error f => .error (f, pc, steps)
    | .ok (m, o) => .ok (m, o, steps)

/-- Member and member data sector of a unit, where the mapping does not fault. -/
def mapUnit (g : Geom) (spare : Bool) (a b : Nat) : Option (Nat × Nat) :=
  match mapEntry g spare a b with
  | .ok (m, o, _) => some (m, o)
  | .error _ => none

/-! ### Built-in programs (R105, R106) -/

/-- The instruction words of the built-in conventional program (R105). -/
def conventionalWords : List Word :=
  [0x1A40C000, 0x0A8E4000, 0x06A84000, 0x86A80001, 0x1AA8C000, 0x0EC10000, 0x5AAC0000]

/-- The built-in conventional program object (R105). -/
def conventionalProg : ProgObj :=
  { entryMap := 0, flags := 2, entrySpare := 0, periodStripes := 1, periodRows := 1, spareSlots := 0, maxSteps := 7,
    attest := 0x1F, words := conventionalWords }

/-- The instruction words of the built-in declustered program (R106). -/
def declusteredWords : List Word :=
  [0x86080002, 0x16418000, 0x1A818000, 0x0EEA0000, 0x06EC4000, 0x172CC000, 0x1B6CC000, 0xD7B34000, 0x0FE5C000,
   0x07FF0000, 0x0FFD0000, 0x5BBC0000, 0x86080002, 0x0EDA0000, 0x06EC4000, 0x86400000, 0xDC000005]

/-- The built-in declustered program object for x spare chunks per member and period (R106). -/
def declusteredProg (n x s r : Nat) : ProgObj :=
  { entryMap := 0, flags := if x = 0 then 4 else 5, entrySpare := if x = 0 then 0 else 12, periodStripes := s,
    periodRows := r, spareSlots := n * x, maxSteps := 12, attest := 0x1F, words := declusteredWords }

/-- The targets of an instruction, which must be instruction indices of the program (R39, R95). -/
def targetOk (count : Nat) (i : FInstr) : Bool :=
  match i with
  | .jmp t => t.toNat < count
  | .br _ _ _ t => t.toNat < count
  | .bf _ t => t.toNat < count
  | _ => true

/-! ### Program and table objects as bytes (R103, R104) -/

/-- The bytes of instruction words (R95, R103). -/
def wordBytes (ws : List Word) : List Nat := ws.flatMap (fun w => leBytes 4 w.toNat)

/-- The number of bytes of a program object (R103). -/
def progLen (p : ProgObj) : Nat := 192 + 4 * p.words.length

/-- The number of bytes of a table object (R104). -/
def tablesLen (ts : List MapTable) : Nat := ts.foldl (fun acc t => acc + 16 + 2 * (t.rows * t.cols)) 16

/-- A table object byte by byte (R104). DESIGN CHOICE (assumption 41): the entries of the tables follow the descriptors one after the other. -/
def tableBytes (ts : List MapTable) : List Nat :=
  let descs := (ts.foldl (fun (acc : List Nat × Nat) t =>
    (acc.1 ++ leBytes 4 t.rows ++ leBytes 2 t.cols ++ [0, 0] ++ leBytes 4 acc.2 ++ [0, 0, 0, 0], acc.2 + 2 * (t.rows * t.cols)))
    ([], 16 + 16 * ts.length)).1
  [0x50, 0x58, 0x50, 0x54, 1, 0] ++ leBytes 2 ts.length ++ List.replicate 8 0 ++ descs ++ ts.flatMap (fun t => t.entries.flatMap (leBytes 2))

/-- PROGRAM_DIGEST and TABLES_DIGEST of a program with its tables (R103). -/
def progDigests (p : ProgObj) (ts : List MapTable) : Nat × Nat :=
  ((Config.sha384 (wordBytes p.words)).toNat, (Config.sha384 (tableBytes ts)).toNat)

/-- A program object byte by byte (R103, R105, R106). -/
def progBytes (p : ProgObj) (ts : List MapTable) : List Nat :=
  let d := progDigests p ts
  leBytes 4 p.magic ++ leBytes 2 p.version ++ leBytes 2 p.words.length ++ [p.entryMap, p.flags, p.entrySpare, 0] ++
    leBytes 4 p.periodStripes ++ leBytes 4 p.periodRows ++ leBytes 4 p.spareSlots ++ leBytes 2 p.maxSteps ++ List.replicate 6 0 ++
    leBytes 48 d.1 ++ leBytes 48 d.2 ++ leBytes 4 p.attest ++ List.replicate 60 0 ++ wordBytes p.words

/-- The structure check of a program (R39, R95, R103): at most 256 instructions, defined opcodes, zero fields zero,
branch targets in range, entries in range. -/
def progStructureOk (p : ProgObj) : Bool :=
  p.magic == 0x50465850 && p.version == 1 && p.reservedZero && decide (1 ≤ p.words.length) && decide (p.words.length ≤ 256) && decide (p.entryMap < p.words.length) &&
  decide (p.flags < 8) && decide (p.entrySpare < p.words.length) &&
  (p.flags % 2 == 1 || (p.entrySpare == 0 && p.spareSlots == 0)) &&
  decide (1 ≤ p.periodStripes) && decide (1 ≤ p.periodRows) && decide (p.maxSteps ≤ 512) &&
  p.words.all (fun w => match fDecode w with
    | some i => targetOk p.words.length i
    | none => false)

/-- The verification record of R39: all five attestations set and both digests those of the words and of the tables (R103). -/
def progRecordOk (p : ProgObj) (ts : List MapTable) : Bool := p.record == some (progDigests p ts) && p.attest == 0x1F

/-- A table object's limits (R104). -/
def tablesOk (ts : List MapTable) : Bool :=
  decide (ts.length ≤ 64) &&
  ts.all (fun t => decide (1 ≤ t.cols) && decide (t.cols ≤ 65535) && decide (t.rows * t.cols ≤ 65536) &&
    t.entries.length == t.rows * t.cols && t.entries.all (fun e => decide (e < 65536)))

/-- Entries of a table object. -/
def tableEntries (ts : List MapTable) : Nat := ts.foldl (fun acc t => acc + t.rows * t.cols) 0

end Sys2Proof.Machine
end

