-- ==== Sys2Proof/Machine/Gf.lean ====
section
/-!
DEFINITION. Machine/Gf.lean: arithmetic over GF(2^8) with polynomial 0x11D and generator 2 (R71), the P/Q mathematics of
one byte position and of whole sectors (R71, R72, R175, R177), and the CRCs of the formats (R79, R399).
-/
namespace Sys2Proof.Machine

/-- Multiplication by the generator g = 2 modulo 0x11D (R71). -/
def gfX2 (a : BitVec 8) : BitVec 8 := if a.msb then (a <<< 1) ^^^ 0x1D#8 else a <<< 1

/-- The product by shift and add, over the low n bits of b from bit 0 up, a being the running multiple. -/
def gfMulAux (n : Nat) (a b acc : BitVec 8) : BitVec 8 :=
  match n with
  | 0 => acc
  | n + 1 => gfMulAux n (gfX2 a) (b >>> 1) (if b.getLsbD 0 then acc ^^^ a else acc)

/-- The product in GF(2^8) (R71, R72). -/
def gfMul (a b : BitVec 8) : BitVec 8 := gfMulAux 8 a b 0#8

/-- The power g^i (R71). -/
def gfExp (i : Nat) : BitVec 8 :=
  match i with
  | 0 => 1#8
  | i + 1 => gfX2 (gfExp i)

/-- The least exponent i below 255 with g^i = a; 0 for a = 0 (R72). -/
def gfLog (a : BitVec 8) : Nat := ((List.range 255).find? (fun i => gfExp i = a)).getD 0

/-- The inverse in GF(2^8) of a nonzero byte (R72). -/
def gfInv (a : BitVec 8) : BitVec 8 := gfExp ((255 - gfLog a) % 255)

/-- P of one byte position: the XOR of the data bytes (R71). -/
def genP (ds : List (BitVec 8)) : BitVec 8 := ds.foldr (· ^^^ ·) 0#8

/-- Q of one byte position by Horner's rule (R71, R177). -/
def genQ (ds : List (BitVec 8)) : BitVec 8 := ds.foldr (fun d q => gfX2 q ^^^ d) 0#8

/-- Both lost data bytes of positions x < y from P' and Q' (R72). -/
def solveDD (x y : Nat) (pp qp : BitVec 8) : BitVec 8 × BitVec 8 :=
  let dx := gfMul (qp ^^^ gfMul (gfExp y) pp) (gfInv (gfExp x ^^^ gfExp y))
  (dx, pp ^^^ dx)

/-- One lost data byte of position x from Q' with P lost as well (R72). -/
def solveDQ (x : Nat) (qp : BitVec 8) : BitVec 8 := gfMul (gfInv (gfExp x)) qp

/-- The byte-wise application of a function of one byte to the lowest n bytes of a sector. -/
def mapBytes (n : Nat) (f : BitVec 8 → BitVec 8) (b : Blob) : Blob :=
  ofBytes ((leBytes n b).map (fun v => (f (BitVec.ofNat 8 v)).toNat))

/-- Sector bytes plus the 28 protected tag bytes: what parity covers (R71). -/
def parityBytes : Nat := 4124

/-- A sector multiplied by a constant, byte by byte. -/
def blobMul (c : BitVec 8) (b : Blob) : Blob := mapBytes parityBytes (gfMul c) b

/-- P of a row (R71). -/
def rowP (ds : List Blob) : Blob := ds.foldr Nat.xor 0

/-- Q of a row: the sum of g^i·D_i (R71). -/
def rowQ (ds : List Blob) : Blob := ds.foldr (fun d q => Nat.xor (mapBytes parityBytes gfX2 q) d) 0

/-- The result of locating a single error from the syndromes of a row (R177). -/
inductive Locate where
  | consistent | qWrong | pWrong | dataWrong (z : Nat) | notLocatable
deriving DecidableEq, Repr

/-- The common exponent of the nonzero syndrome byte pairs, if there is one (R177). -/
def locateBytes (z : Option Nat) (l : List (Nat × Nat)) : Option (Option Nat) :=
  match l with
  | [] => some z
  | (sp, sq) :: r =>
    if sp = 0 ∧ sq = 0 then locateBytes z r
    else if sp = 0 ∨ sq = 0 then none
    else
      let zb := (gfLog (BitVec.ofNat 8 sq) + 255 - gfLog (BitVec.ofNat 8 sp)) % 255
      match z with
      | none => locateBytes (some zb) r
      | some z' => if zb = z' then locateBytes z r else none

/-- SYNDROME's locate result (R177). -/
def locate (k : Nat) (sp sq : Blob) : Locate :=
  if sp = 0 ∧ sq = 0 then .consistent
  else if sp = 0 then .qWrong
  else if sq = 0 then .pWrong
  else
    match locateBytes none ((leBytes parityBytes sp).zip (leBytes parityBytes sq)) with
    | some (some z) => if z < k then .dataWrong z else .notLocatable
    | _ => .notLocatable

/-- One bit step of a reflected CRC with a given reflected polynomial. -/
def crcBit (poly crc : Nat) : Nat := if crc % 2 = 1 then Nat.xor (crc / 2) poly else crc / 2

/-- One byte step of a reflected CRC. -/
def crcByte (poly crc b : Nat) : Nat :=
  crcBit poly (crcBit poly (crcBit poly (crcBit poly (crcBit poly (crcBit poly (crcBit poly (crcBit poly
    (Nat.xor crc b))))))))

/-- CRC-64/NVME: polynomial 0xAD93D23594C93659, reflected, initial value and final XOR of all ones (R79). Its
reflected polynomial is 0x9A6C9329AC4BC9B5. -/
def crc64 (bytes : List Nat) : Nat :=
  Nat.xor (bytes.foldl (crcByte 0x9A6C9329AC4BC9B5) 0xFFFFFFFFFFFFFFFF) 0xFFFFFFFFFFFFFFFF

/-- CRC-32C: polynomial 0x1EDC6F41, reflected (0x82F63B78), initial value and final XOR of all ones (R76, R399). -/
def crc32c (bytes : List Nat) : Nat := Nat.xor (bytes.foldl (crcByte 0x82F63B78) 0xFFFFFFFF) 0xFFFFFFFF

end Sys2Proof.Machine
end

