-- ==== Sys2Proof/Machine/Arrays.lean ====
section
/-!
DEFINITION. Machine/Arrays.lean: where data lies: extents (R85, R129), stripes and units (R64), epochs (R202), relocation
into distributed spare (R68, R107), missing units (R179), array states (R179), fret spans (R161, R184), geometry checks
(R62, R63, R66, R75).
-/
namespace Sys2Proof.Machine

/-- An array of the state. -/
def State.arr (s : State) (a : ArrayId) : Option Arr := tget s.rbe.arrays a.val

/-- The state with an array replaced. -/
def State.putArr (s : State) (a : ArrayId) (r : Arr) : State :=
  { s with rbe := { s.rbe with arrays := tput s.rbe.arrays a.val r } }

/-- The running image's namespace entry (R129). -/
def State.ns (s : State) (nsid : Nat) : Option NsEntry :=
  match s.img.running with
  | some i => i.namespaces.find? (fun n => n.nsid = nsid)
  | none => none

/-- The image whose sections a host command sees: the running one, or for a command fetched before a live activation the one that ran then, so
that no command sees a mixture (R48). `order` is the command's number in the order of fetch. -/
def State.sections (s : State) (order : Nat) : Option Image :=
  match s.img.older.find? (fun o => decide (order < o.1)) with
  | some o => some o.2
  | none => s.img.running

/-- The namespace entry that a host command sees (R48, R129). -/
def State.nsAt (s : State) (order nsid : Nat) : Option NsEntry :=
  (s.sections order).bind (fun i => i.namespaces.find? (fun n => n.nsid = nsid))

/-- Class policies of the running image (R212). -/
def State.classCfg (s : State) : ClassPolicies := (s.img.running.bind (·.classPolicies)).getD {}

/-- The class policies that a host command sees (R48, R212). -/
def State.classAt (s : State) (order : Nat) : ClassPolicies := ((s.sections order).bind (·.classPolicies)).getD {}

/-- The weights of the classes (R125, R212). -/
def State.classWeights (s : State) : List Nat := s.classCfg.classes.map (·.weight)

/-- Stripe width w = k + 2 (R62). -/
def Geom.w (g : Geom) : Nat := g.k + 2

/-- Sectors of data in one stripe (R64). -/
def Geom.stripeData (g : Geom) : Nat := g.k * g.c

/-- The data space of an epoch in sectors (R129). -/
def Geom.dataSpace (g : Geom) : Nat := g.stripeCount * g.k * g.c

/-- The array LBA of a namespace LBA through its extents in order (R85). -/
def extentLba (es : List Extent) (lba : Nat) : Option Nat :=
  match es with
  | [] => none
  | e :: r => if lba < e.length then some (e.start + lba) else extentLba r (lba - e.length)

/-- A place in an array: stripe, unit, sector within the unit, and the epoch slot (R64, R92). -/
structure Place where
  previous : Bool
  stripe : Nat
  unit : Nat
  row : Nat
deriving DecidableEq, Repr

/-- The place of an array LBA in one epoch (R64). -/
def placeIn (g : Geom) (previous : Bool) (a : Nat) : Place :=
  { previous := previous, stripe := a / (g.k * g.c), unit := a % (g.k * g.c) / g.c, row := a % g.c }

/-- The array LBA of a data unit's sector (R64). -/
def arrayLba (g : Geom) (stripe unit row : Nat) : Nat := stripe * (g.k * g.c) + unit * g.c + row

/-- The geometry of an epoch slot (R92). -/
def Arr.geom (r : Arr) (previous : Bool) : Option Geom := if previous then r.prev else some r.cur

/-- The place of an array LBA: while a reshape runs, the current epoch below the bow and the previous one from the bow
on (R202). -/
def Arr.place (r : Arr) (a : Nat) : Place :=
  match r.prev with
  | none => placeIn r.cur false a
  | some p => if a < r.bow then placeIn r.cur false a else placeIn p true a

/-- The member that the layout assigns to a unit (R65, R66, R70). -/
def layoutMember (g : Geom) (stripe unit : Nat) : Option Nat := (mapUnit g false stripe unit).map (·.1)

/-- A relocation of one period: stripe t within the period, unit, spare index, and the failed member whose failure brought it there. -/
structure Reloc where
  t : Nat
  unit : Nat
  spare : Nat
  by_ : Nat
deriving DecidableEq, Repr

/-- The member that holds a unit under relocations so far. -/
def heldBy (g : Geom) (p : Nat) (rel : List Reloc) (t u : Nat) : Option Nat :=
  match rel.find? (fun r => r.t = t ∧ r.unit = u) with
  | some r => (mapUnit g true p r.spare).map (·.1)
  | none => layoutMember g (p * g.periodStripes + t) u

/-- The first eligible spare index for a unit of stripe t: not on a failed member, not used, not on a member that holds
another unit of the stripe (R68; that the slots of every failed member are shut out follows from the count of usable
slots in the example of a 48-member array, assumption 13). -/
def eligibleSpare (g : Geom) (p : Nat) (fails : List Nat) (rel : List Reloc) (t u : Nat) : Option Nat :=
  (List.range g.prog.spareSlots).find? (fun i =>
    match mapUnit g true p i with
    | none => false
    | some (m, _) =>
      !fails.contains m && !(rel.any (fun r => r.spare = i)) &&
      (List.range g.w).all (fun v => v == u || heldBy g p rel t v != some m))

/-- The relocation of one failed member's units, taken in slot order: ascending stripe, then unit (R68, R107). DESIGN CHOICE (assumption 13): a
unit that had been relocated onto the member takes its turn by its own stripe and unit, not by the number of the spare slot it lies in. -/
def relocOne (g : Geom) (p : Nat) (fails : List Nat) (f : Nat) (rel : List Reloc) : List Reloc :=
  let units := (List.range g.periodStripes).flatMap (fun t => (List.range g.w).map (fun u => (t, u)))
  let moved := units.filter (fun tu => heldBy g p rel tu.1 tu.2 == some f)
  moved.foldl (fun acc tu =>
    let acc' := acc.filter (fun r => !(r.t = tu.1 ∧ r.unit = tu.2))
    match eligibleSpare g p fails acc tu.1 tu.2 with
    | some i => acc' ++ [⟨tu.1, tu.2, i, f⟩]
    | none => acc') rel

/-- The relocations of a period after failures in order (R68): a pure function of layout and order of failures. -/
def relocPeriod (g : Geom) (p : Nat) (done fails : List Nat) (rel : List Reloc) : List Reloc :=
  match fails with
  | [] => rel
  | f :: r => relocPeriod g p (done ++ [f]) r (relocOne g p (done ++ [f]) f rel)

/-- Whether a layout has distributed spare (R66, R107). -/
def Geom.hasSpare (g : Geom) : Bool := g.prog.flags % 2 == 1

/-- The relocation of a unit under the failures of an array, if it has one (R68, R107). -/
def Arr.relocOf (r : Arr) (g : Geom) (stripe unit : Nat) : Option Reloc :=
  if g.hasSpare && !r.failOrder.isEmpty then
    (relocPeriod g (stripe / g.periodStripes) [] r.failOrder []).find?
      (fun x => x.t = stripe % g.periodStripes ∧ x.unit = unit)
  else none

/-- The spare slot of a unit under the failures of an array, if it has one (R68, R107). -/
def Arr.spareOf (r : Arr) (g : Geom) (stripe unit : Nat) : Option Nat := (r.relocOf g stripe unit).map (·.spare)

/-- A unit's position: member index, member data sector of its first sector, the member the layout assigns, and whether
it lies in a spare slot (R77). -/
structure Pos where
  member : Nat
  sector : Nat
  orig : Nat
  relocated : Bool
deriving DecidableEq, Repr

/-- A member of an array. -/
def Arr.mem (r : Arr) (m : Nat) : Option Member := r.members[m]?

/-- Whether a member's units of a stripe have been rebuilt into spare slots: below REBUILT_TO while the index is failed or
absent, and in the span kept when a replacement came (R179, R189, R193). -/
def Member.inSpare (x : Member) (stripe : Nat) : Bool :=
  (x.state != .rebuilding && decide (stripe < x.rebuiltTo)) || (decide (x.spareFrom ≤ stripe) && decide (stripe < x.spareTo))

/-- Whether the unit has been rebuilt into the slot that its last relocation gave it: the main pass since the failure that brought it there has
passed its stripe, or that index is active again (R179, R189). A unit that a further failure moves is missing anew until then. -/
def Arr.inSlot (r : Arr) (stripe : Nat) (x : Reloc) : Bool :=
  match r.mem x.by_ with
  | some y => y.state == .active || y.inSpare stripe
  | none => false

/-- The position in a spare slot that the relocation gives a unit, on a member that is active (R68). -/
def Arr.sparePos (r : Arr) (g : Geom) (stripe unit orig : Nat) : Option Pos :=
  match r.spareOf g stripe unit with
  | none => none
  | some i =>
    match mapUnit g true (stripe / g.periodStripes) i with
    | none => none
    | some (sm, so) =>
      match r.mem sm with
      | some y => if y.state = .active then some ⟨sm, so, orig, true⟩ else none
      | none => none

/-- Where a unit can be read, if it is not missing (R179, R189, R193): at its layout position on an active member, or on
a rebuilding one below REBUILT_TO or where the critical pass has been; otherwise in its spare slot once rebuilt there. -/
def Arr.readPos (r : Arr) (g : Geom) (stripe unit : Nat) : Option Pos :=
  match mapUnit g false stripe unit with
  | none => none
  | some (m, o) =>
    match r.mem m with
    | none => none
    | some x =>
      let crit := r.critDone.contains (stripe, m)
      let slot := if r.failOrder.contains m then r.relocOf g stripe unit else none
      if x.state = .active then some ⟨m, o, m, false⟩
      else if x.state = .rebuilding ∧ stripe < x.rebuiltTo then some ⟨m, o, m, false⟩
      else
        match slot with
        | some y => if r.inSlot stripe y ∨ crit then r.sparePos g stripe unit m else none
        | none => if x.state = .rebuilding ∧ (crit ∨ stripe < x.directTo) then some ⟨m, o, m, false⟩ else none

/-- One above the highest stripe number of an array. -/
def Arr.stripes (r : Arr) : Nat := max r.cur.stripeCount ((r.prev.map (·.stripeCount)).getD 0)

/-- Where a missing unit is rebuilt to (R188): its spare slot, or the replacement member at the same index. -/
def Arr.target (r : Arr) (g : Geom) (stripe unit : Nat) : Option Pos :=
  match mapUnit g false stripe unit with
  | none => none
  | some (m, o) =>
    match r.mem m with
    | none => none
    | some x =>
      match r.sparePos g stripe unit m with
      | some p => some p
      | none => if x.state = .rebuilding then some ⟨m, o, m, false⟩ else none

/-- Whether a unit is missing (R179). -/
def Arr.missing (r : Arr) (g : Geom) (stripe unit : Nat) : Bool := (r.readPos g stripe unit).isNone

/-- The missing units of a stripe. -/
def Arr.missingUnits (r : Arr) (g : Geom) (stripe : Nat) : List Nat :=
  (List.range g.w).filter (fun u => r.missing g stripe u)

/-- Member indices failed or absent (R210). -/
def Arr.downMembers (r : Arr) : List Nat :=
  (List.range r.members.length).filter (fun m =>
    match r.mem m with
    | some x => x.state == .failed || x.state == .absent
    | none => false)

/-- Whether the watermarks of an index cover every stripe below n: its spare slots are filled (R179, R189). -/
def Member.spareAll (x : Member) (n : Nat) : Bool :=
  let low := if x.state == .rebuilding then 0 else x.rebuiltTo
  decide (n ≤ low) || (decide (x.spareFrom ≤ low) && decide (n ≤ x.spareTo))

/-- Whether a test holds of the relocation of every unit of an index in the first period of the layout (R68, R188). -/
def Arr.slotsAll (r : Arr) (m : Nat) (p : Option Reloc → Bool) : Bool :=
  (List.range r.cur.periodStripes).all (fun t => (List.range r.cur.w).all (fun u =>
    layoutMember r.cur t u != some m || p (r.relocOf r.cur t u)))

/-- Whether every unit of an index has a spare slot in the first period of the layout (R68, R188). -/
def Arr.allRelocated (r : Arr) (m : Nat) : Bool := r.slotsAll m Option.isSome

/-- Whether an index has units missing (R179, R189): told by its watermarks, by whether its units have slots, and by the watermarks of the
indices whose failure moved them to those slots. -/
def Arr.unitsMissing (r : Arr) (m : Nat) : Bool :=
  match r.mem m with
  | none => false
  | some x =>
    let n := r.cur.stripeCount
    let filled (y : Reloc) : Bool := match r.mem y.by_ with
      | some z => z.state == .active || z.spareAll n
      | none => false
    let held := r.failOrder.contains m && r.slotsAll m (fun y => match y with
      | some y => filled y
      | none => x.state == .rebuilding && decide (n ≤ x.directTo))
    match x.state with
    | .active => false
    | .rebuilding => decide (x.rebuiltTo < n) && !held
    | .failed | .absent => !held

/-- The array state: the first of failed, reshaping, rebuilding, degraded, normal that applies (R179). -/
def Arr.stateCode (r : Arr) : Nat :=
  if 2 < ((r.downMembers).filter (fun m => r.unitsMissing m)).length then 4
  else if r.prev.isSome then 3
  else if r.wants.contains .critical || r.wants.contains .mainPass || r.wants.contains .copyback then 2
  else if (List.range r.members.length).any (fun m => r.unitsMissing m) then 1
  else 0

/-- The fret bits a data space needs: data sectors × 4096 ÷ 2^FRET_EXP, rounded up (R161). -/
def fretBitsFor (dataSectors fretExp : Nat) : Nat := (dataSectors * 4096 + 2 ^ fretExp - 1) / 2 ^ fretExp

/-- FRET_GROW_PCT percent of a span, rounded up to whole bits (R184). -/
def fretReserveFor (bits pct : Nat) : Nat := (bits * pct + 99) / 100

/-- The number of bits of the fret map (R12). -/
def fretMapBits : Nat := 8388608

/-- The lowest free position of a run of n bits among spans taken, tried at 0 and behind each span (R161). -/
def fretPlace (taken : List (Nat × Nat)) (n : Nat) : Option Nat :=
  let starts := 0 :: taken.map (fun t => t.1 + t.2)
  let ok := starts.filter (fun b => decide (b + n ≤ fretMapBits) &&
    taken.all (fun t => decide (b + n ≤ t.1) || decide (t.1 + t.2 ≤ b)))
  ok.foldl (fun acc b => match acc with
    | none => some b
    | some c => some (min b c)) none

/-- The fret bits that a stripe of an epoch overlaps (R159, R161). -/
def Arr.stripeBits (r : Arr) (g : Geom) (stripe : Nat) : List Nat :=
  let per := 2 ^ (r.fretExp - 12)
  let lo := stripe * g.stripeData / per
  let hi := (stripe * g.stripeData + (g.stripeData - 1)) / per
  (List.range (hi + 1 - lo)).map (fun i => r.fretBase + lo + i)

/-- Member data sectors of a drive of E sectors before truncation: 63·G (R74, R75). -/
def memberSectors (extent : Nat) : Nat := 63 * ((min extent (2 ^ 35) - 512) / 64)

/-- The physical sector of a member data sector (R74, R91). -/
def physSector (d : Nat) : Nat := 256 + 64 * (d / 63) + 1 + d % 63

/-- The physical sector of a group's tag sector (R74). -/
def tagSector (group : Nat) : Nat := 256 + 64 * group

/-- The group that a physical sector of the member data region lies in (R74). -/
def groupOf (phys : Nat) : Nat := (phys - 256) / 64

/-- The groups that hold member data sectors 0 to n - 1 (R74, R82). -/
def groupsFor (n : Nat) : Nat := (n + 62) / 63

/-- The first physical sector of a label copy on a drive of E sectors (R74). -/
def labelSector (extent copy : Nat) : Nat :=
  match copy with
  | 0 => 0
  | 1 => 128
  | 2 => extent - 256
  | _ => extent - 128

/-- The most bytes that a label copy may have (R84). -/
def labelMax : Nat := 524288

/-- The bytes of a label copy: its header sector, the program and table objects, the previous epoch's while a reshape runs, and the namespace
table (R84, R85). -/
def labelLen (cur : ProgObj × List MapTable) (prev : Option (ProgObj × List MapTable)) (namespaces : Nat) : Nat :=
  let two (x : ProgObj × List MapTable) : Nat := progLen x.1 + tablesLen x.2
  4096 + two cur + ((prev.map two).getD 0) + 128 * namespaces

/-- MEMBER_DATA_SECTORS: truncated to whole rows of c sectors or whole periods of R × c sectors (R75). -/
def truncSectors (rows c secs : Nat) : Nat := secs / (rows * c) * (rows * c)

/-- Chunk size in sectors: c = 2^CHUNK_EXP ÷ 4096 (R63). -/
def chunkSectors (chunkExp : Nat) : Nat := 2 ^ (chunkExp - 12)

/-- The program an array entry runs: a built-in one by its layout field, or its custom program (R84, R105, R106). -/
def entryProg (e : ArrEntry) : ProgObj :=
  if e.layout = 0 then conventionalProg
  else if e.layout = 1 then
    declusteredProg e.members.length (e.prog.periodRows - e.prog.periodStripes * (e.k + 2) / e.members.length)
      e.prog.periodStripes e.prog.periodRows
  else e.prog

/-- The tables an array entry loads: none of the conventional layout, whose table object is the empty one (R105). -/
def entryTables (e : ArrEntry) : List MapTable := if e.layout = 0 then [] else e.tables

/-- The geometry that an array entry and its MEMBER_DATA_SECTORS give (R63, R66, R84). -/
def entryGeom (e : ArrEntry) (epoch dataSectors : Nat) : Geom :=
  let p := entryProg e
  let c := chunkSectors e.chunkExp
  { k := e.k, n := e.members.length, layout := e.layout, c := c, periodRows := p.periodRows,
    periodStripes := p.periodStripes, stripeCount := dataSectors / c / p.periodRows * p.periodStripes,
    dataSectors := dataSectors, epoch := epoch, prog := p, tables := entryTables e }

/-- The geometry limits of R62, R63 and R66 on an array entry, without the members' capacity. -/
def entryShapeOk (e : ArrEntry) : Bool :=
  decide (2 ≤ e.k) && decide (e.k ≤ 46) && decide (16 ≤ e.chunkExp) && decide (e.chunkExp ≤ 22) &&
  decide (26 ≤ e.fretExp) && decide (e.fretExp ≤ 34) && decide (e.layout ≤ 2) && e.members.Nodup &&
  decide (e.members.length ≤ 48) &&
  (if e.layout = 0 then decide (e.members.length = e.k + 2)
   else if e.layout = 1 then
     decide (e.k + 3 ≤ e.members.length) && decide (1 ≤ e.prog.periodRows) && decide (1 ≤ e.prog.periodStripes) &&
     decide (e.prog.periodStripes * (e.k + 2) % e.members.length = 0) &&
     decide (e.prog.periodStripes * (e.k + 2) ≤ e.members.length * e.prog.periodRows)
   else decide (e.k + 2 ≤ e.members.length))

/-- The policy block's ranges (R183). -/
def policyOk (p : ArrPolicy) : Bool :=
  decide (24 ≤ p.slowFactorQ4) && decide (p.slowFactorQ4 ≤ 256) && decide (10 ≤ p.slowWindowS) &&
  decide (p.slowWindowS ≤ 3600) && decide (60 ≤ p.slowFailS) && decide (p.slowFailS ≤ 86400) &&
  decide (1 ≤ p.mediaErrLimit) && decide (p.mediaErrLimit ≤ 4096) && decide (10 ≤ p.rebuildSharePct) &&
  decide (p.rebuildSharePct ≤ 100) && decide (1 ≤ p.scrubSharePct) && decide (p.scrubSharePct ≤ 50) &&
  decide (5 ≤ p.reshapeSharePct) && decide (p.reshapeSharePct ≤ 100) && decide (p.flags < 4) &&
  decide (1 ≤ p.scrubPeriodDays) && decide (p.scrubPeriodDays ≤ 365) && decide (256 ≤ p.bowBufferMib) &&
  decide (p.bowBufferMib ≤ 16384) && decide (p.fretGrowPct ≤ 400)

end Sys2Proof.Machine
end

