-- ==== Sys2Proof/Machine/Media.lean ====
section
/-!
DEFINITION. Machine/Media.lean: what lies on member drives and how it is read, checked, solved and written: tags and
their CRC64 (R77 to R79), placement checks (R90), empty and LOST sectors (R78, R182), rows (R71, R72), in-place repair
(R181), the write generation of rebuilt sectors (R190), labels (R84, R86).
-/
namespace Sys2Proof.Machine

/-- A unit's sector as parity sees it: 4,096 data bytes and above them the 28 protected tag bytes (R71), with the
unprotected facts of its tag: kind, LOST, generation. An empty sector is all zero with kind 0 (R78). -/
structure USec where
  full : Blob
  kind : Nat
  lost : Bool
  gen : Nat
deriving DecidableEq, Repr

/-- The parity view of data, NONCE_CTX, NONCE_CTR and GCM tag (R71, R77). -/
def packFull (data ctx ctr gcm : Nat) : Blob :=
  data + 2 ^ 32768 * (ctx + 2 ^ 32 * (ctr + 2 ^ 64 * gcm))

/-- The 4,096 data bytes of a parity view. -/
def fullData (f : Blob) : Nat := f % 2 ^ 32768
/-- NONCE_CTX of a parity view (tag bytes 0x24 to 0x27). -/
def fullCtx (f : Blob) : Nat := f / 2 ^ 32768 % 2 ^ 32
/-- NONCE_CTR of a parity view (tag bytes 0x28 to 0x2F). -/
def fullCtr (f : Blob) : Nat := f / 2 ^ 32800 % 2 ^ 64
/-- GCM tag of a parity view (tag bytes 0x30 to 0x3F). -/
def fullGcm (f : Blob) : Nat := f / 2 ^ 32864 % 2 ^ 128

/-- NONCE_CTR of the LOST marker (R182, R194). -/
def lostCtr : Nat := 2 ^ 64 - 1

/-- The parity view of a LOST sector: zero content with the marker of R194. -/
def lostFull : Blob := packFull 0 (2 ^ 32 - 1) lostCtr 0

/-- The parity view of a cached sector (R78, R194). -/
def csecFull (c : CSec) : Blob :=
  match c with
  | .empty => 0
  | .data ct ctx ctr gcm => packFull ct ctx ctr gcm
  | .lost => lostFull

/-- A data sector from its parity view: NONCE_CTR zero is an empty sector (R78), all ones the LOST marker (R182). -/
def fullCsec (f : Blob) : CSec :=
  if fullCtr f = 0 then .empty
  else if fullCtr f = lostCtr then .lost
  else .data (fullData f) (fullCtx f) (fullCtr f) (fullGcm f)

/-- A data unit's sector carrying a cached sector with a generation. -/
def usecOf (c : CSec) (gen : Nat) : USec :=
  match c with
  | .empty => ⟨0, 0, false, 0⟩
  | .data .. => ⟨csecFull c, 1, false, gen⟩
  | .lost => ⟨lostFull, 1, true, gen⟩

/-- Tag bytes 0x00 to 0x17 (R77). -/
def tagPlacement (t : MTag) : List Nat :=
  [t.kind, t.flags, t.member, t.orig, t.unit, t.rsv5] ++ leBytes 2 t.sector ++ leBytes 4 t.uuidFrag ++ leBytes 4 t.epoch ++
    leBytes 6 t.stripe ++ leBytes 2 t.rsv16

/-- Tag bytes 0x20 to 0x3F (R77). -/
def tagContent (t : MTag) : List Nat := leBytes 4 t.gen ++ leBytes 4 t.ctx ++ leBytes 8 t.ctr ++ leBytes 16 t.gcm

/-- CRC64 of a sector and its tag (R79). -/
def tagCrc (data : Blob) (t : MTag) : Nat := crc64 (leBytes 4096 data ++ tagPlacement t ++ tagContent t)

/-- Whether a listed tag is valid (R78). -/
def tagValid (t : MTag) : Bool :=
  decide (1 ≤ t.kind) && decide (t.kind ≤ 3) && decide (t.flags < 4) && (t.flags < 2 || t.kind == 1) && t.rsv5 == 0 && t.rsv16 == 0 &&
  (t.flags % 2 == 1 || t.orig == t.member)

/-- Bytes 0 to 3 of ARRAY_UUID (R77). -/
def uuidFrag (uuid : Nat) : Nat := uuid % 2 ^ 32

/-- The KIND a unit's sectors carry: data, P, Q (R90). -/
def unitKind (g : Geom) (unit : Nat) : Nat := if unit < g.k then 1 else if unit = g.k then 2 else 3

/-- The placement checks of R90 on a tag found at a position. -/
def placementOk (r : Arr) (g : Geom) (stripe unit row : Nat) (p : Pos) (t : MTag) : Bool :=
  t.uuidFrag == uuidFrag r.uuid && t.member == p.member && t.orig == p.orig && t.unit == unit && t.sector == row &&
  t.epoch == g.epoch && t.stripe == stripe && t.kind == unitKind g unit

/-- An empty tag: 64 zero bytes (R78). -/
def emptyTag : MTag := ⟨0, 0, 0, 0, 0, 0, 0, 0, 0, 0, 0, 0, 0, 0, 0, 0⟩

/-- Whether a listed sector's tag is empty, which leaves its data without a meaning (R78, R135). -/
def MSec.blank (x : MSec) : Bool := x.tag == emptyTag && !x.bad

/-- Media that hold nothing of the device: no label, no tag sector, no data sector. -/
def Media.fresh : Media := { labels := [none, none, none, none], groups := [], secs := [], fill := 0 }

/-- The media behind a port. -/
def State.mediaOf (s : State) (port : PortId) : Media := (tget s.rbe.media port.val).getD Media.fresh

/-- The bytes of a tag sector's header before HDR_CRC (R76). -/
def GroupTag.head (t : GroupTag) : List Nat :=
  leBytes 4 t.magic ++ leBytes 2 t.version ++ [t.member, 0] ++ leBytes 16 t.uuid ++ leBytes 8 t.group ++ List.replicate 28 0

/-- The tag-sector header that the device writes for a group of a member (R76). -/
def Arr.groupTag (r : Arr) (m group : Nat) : GroupTag :=
  let t : GroupTag := { readable := true, magic := 0x47545850, version := 1, member := m, reservedZero := true, uuid := r.uuid, group := group,
                        crc := 0 }
  { t with crc := crc32c t.head }

/-- Whether a tag sector is handled by position: it cannot be read, or a field of its header or its HDR_CRC does not match (R82). -/
def Arr.byPosition (r : Arr) (m group : Nat) (t : GroupTag) : Bool :=
  !t.readable || t.magic != 0x47545850 || t.version != 1 || t.member != m || t.uuid != r.uuid || t.group != group || t.crc != crc32c t.head

/-- The state with the media behind a port replaced. -/
def State.putMedia (s : State) (port : PortId) (m : Media) : State :=
  { s with rbe := { s.rbe with media := tput s.rbe.media port.val m } }

/-- What reading one sector of a unit gives: missing (R179), an erasure on a present member (R79, R82), or its
content. -/
inductive SecRead where
  | missing
  | erasure (p : Pos)
  | got (p : Pos) (u : USec)
deriving DecidableEq, Repr

/-- Reading one sector of a unit (R79, R82, R90). A tag sector handled by position makes its sectors erasures below
INIT_WATERMARK and empty at or above it (R82). -/
def State.readSec (s : State) (r : Arr) (g : Geom) (stripe unit row : Nat) : SecRead :=
  match r.readPos g stripe unit with
  | none => .missing
  | some p =>
    match (r.mem p.member).bind (·.port) with
    | none => .missing
    | some port =>
      let m := s.mediaOf port
      let d := p.sector + row
      let group := d / 63
      if ((tget m.groups group).map (r.byPosition p.member group)).getD false then
        (if group < r.initMark then .erasure p else .got p ⟨0, 0, false, 0⟩)
      else
        match tget m.secs (physSector d) with
        | none => .got p ⟨0, 0, false, 0⟩
        | some x =>
          if x.blank then .got p ⟨0, 0, false, 0⟩
          else if x.bad || !tagValid x.tag || x.tag.crc != tagCrc x.data x.tag || !placementOk r g stripe unit row p x.tag then
            .erasure p
          else .got p ⟨packFull x.data x.tag.ctx x.tag.ctr x.tag.gcm, x.tag.kind, x.tag.flags / 2 % 2 == 1, x.tag.gen⟩

/-- Every unit's sector of a row; an empty P or Q beside a data sector of KIND 1 is an erasure (R78). -/
def State.readRow (s : State) (r : Arr) (g : Geom) (stripe row : Nat) : List SecRead :=
  let us := (List.range g.w).map (fun u => s.readSec r g stripe u row)
  let anyData := (us.take g.k).any (fun x => match x with
    | .got _ u => u.kind == 1
    | _ => false)
  us.mapIdx (fun i x => match x with
    | .got p u => if g.k ≤ i ∧ u.kind = 0 ∧ anyData then .erasure p else .got p u
    | y => y)

/-- The content a read gives, if it gives one. -/
def SecRead.val? (x : SecRead) : Option USec :=
  match x with
  | .got _ u => some u
  | _ => none

/-- Indices of a row that are missing or erasures. -/
def badUnits (us : List (Option USec)) : List Nat := (List.range us.length).filter (fun i => (us[i]?.join).isNone)

/-- The data bytes of a row with unknown units taken as zero. -/
def knownData (k : Nat) (us : List (Option USec)) : List Blob :=
  (us.take k).map (fun u => match u with
    | some x => x.full
    | none => 0)

/-- The parity views of all units of a row from those that are known, solving at most two (R72); none where more than
two are unknown. -/
def solveRow (k : Nat) (us : List (Option USec)) : Option (List Blob) :=
  let bad := badUnits us
  let ds := knownData k us
  let p' := Nat.xor (rowP ds) (((us[k]?).join.map (·.full)).getD 0)
  let q' := Nat.xor (rowQ ds) (((us[k + 1]?).join.map (·.full)).getD 0)
  let full := fun (ds : List Blob) => ds ++ [rowP ds, rowQ ds]
  match bad.filter (· < k), bad.contains k, bad.contains (k + 1) with
  | [], _, _ => some (full ds)
  | [x], false, _ => some (full (ds.set x p'))
  | [x], true, false => some (full (ds.set x (blobMul (gfInv (gfExp x)) q')))
  | [x, y], false, false =>
    let dx := blobMul (gfInv (gfExp x ^^^ gfExp y)) (Nat.xor q' (blobMul (gfExp y) p'))
    some (full ((ds.set x dx).set y (Nat.xor p' dx)))
  | _, _, _ => none

/-- The next write generation: 1 after 0xFFFF_FFFF (R80). -/
def nextGen (g : Nat) : Nat := if g = 0xFFFFFFFF then 1 else g + 1

/-- The generation of a row before an update (R159 step 2): from P, else from Q, else the largest among the data. -/
def rowGen (k : Nat) (us : List (Option USec)) : Nat :=
  match (us[k]?).join, (us[k + 1]?).join with
  | some p, _ => p.gen
  | none, some q => q.gen
  | none, none => (us.take k).foldl (fun acc u => match u with
    | some x => max acc x.gen
    | none => acc) 0

/-- The WRITE_GEN of a rebuilt or repaired unit (R190). -/
def repairGen (k unit : Nat) (us : List (Option USec)) : Nat :=
  let pg := (us[k]?).join.map (·.gen)
  let qg := (us[k + 1]?).join.map (·.gen)
  let big := (us.take k).foldl (fun acc u => match u with
    | some x => max acc x.gen
    | none => acc) 0
  if unit = k then qg.getD big
  else if unit = k + 1 then pg.getD big
  else (pg.orElse (fun _ => qg)).getD big

/-- Whether every data sector of solved row content is empty. -/
def rowEmpty (k : Nat) (fs : List Blob) : Bool := (fs.take k).all (fun f => fullCtr f == 0)

/-- One sector written to a position with its tag (R77): content, generation, placement for the position. An empty
data sector and an empty parity sector get an empty tag (R78). -/
def State.writeRaw (s : State) (r : Arr) (g : Geom) (stripe unit row : Nat) (p : Pos) (full : Blob) (gen : Nat)
    (lost empty : Bool) : State :=
  match (r.mem p.member).bind (·.port) with
  | none => s
  | some port =>
    let m := s.mediaOf port
    let d := p.sector + row
    let groups := tput m.groups (d / 63) (r.groupTag p.member (d / 63))
    if empty then s.putMedia port { m with groups := groups, secs := tdel m.secs (physSector d) }
    else
      let t : MTag :=
        { kind := unitKind g unit, flags := (if p.relocated then 1 else 0) + (if lost then 2 else 0), member := p.member,
          orig := p.orig, unit := unit, rsv5 := 0, sector := row, uuidFrag := uuidFrag r.uuid, epoch := g.epoch, stripe := stripe,
          rsv16 := 0, crc := 0, gen := gen, ctx := fullCtx full, ctr := fullCtr full, gcm := fullGcm full }
      let data := fullData full
      s.putMedia port
        { m with groups := groups, secs := tput m.secs (physSector d) ⟨data, { t with crc := tagCrc data t }, false⟩ }

/-- The chunk of data sectors that a member data sector belongs to, as stripe and unit of an epoch that has it there, spare slots in use
included (R64, R68); looked for in the sector's period. -/
def Arr.unitAt (r : Arr) (g : Geom) (m d : Nat) : Option (Nat × Nat) :=
  let first := d / (g.periodRows * g.c) * g.periodStripes
  (List.range g.periodStripes).findSome? (fun t =>
    ((List.range g.w).find? (fun u => match r.readPos g (first + t) u with
      | some p => p.member == m && p.sector == d / g.c * g.c
      | none => false)).map (fun u => (first + t, u)))

/-- The tags of a group that cannot be read, or is handled by position, recovered before its tag sector is rewritten (R81, R82): above
INIT_WATERMARK its sectors are empty; below, each is solved from its row; a data sector whose row does not solve becomes LOST (R194), with the
generation of R190. -/
def State.recoverGroup (s : State) (r : Arr) (g : Geom) (m : Nat) (port : PortId) (group : Nat) : State :=
  let x := s.mediaOf port
  if r.initMark ≤ group then
    s.putMedia port { x with groups := tput x.groups group (r.groupTag m group), secs := x.secs.filter (fun e => groupOf e.1 ≠ group) }
  else
    let gs := g :: (match r.prev with
      | some p => [p]
      | none => [])
    let found := ((List.range 63).map (· + group * 63)).filterMap (fun d =>
      gs.findSome? (fun h => (r.unitAt h m d).map (fun tu => (h, tu.1, tu.2, d % h.c))))
    let solved := found.map (fun f =>
      let us := (s.readRow r f.1 f.2.1 f.2.2.2).map SecRead.val?
      (f, us, solveRow f.1.k us))
    solved.foldl (fun (st : State) e =>
      let h := e.1.1
      let u := e.1.2.2.1
      match r.readPos h e.1.2.1 u, e.2.2 with
      | some p, some fs =>
        let full := (fs[u]?).getD 0
        let gen := repairGen h.k u e.2.1
        if u < h.k then st.writeRaw r h e.1.2.1 u e.1.2.2.2 p full gen (fullCtr full == lostCtr) (fullCtr full == 0)
        else st.writeRaw r h e.1.2.1 u e.1.2.2.2 p full gen false (rowEmpty h.k fs)
      | some p, none =>
        if u < h.k then st.writeRaw r h e.1.2.1 u e.1.2.2.2 p lostFull (repairGen h.k u e.2.1) true false
        else
          let y := st.mediaOf port
          let phys := physSector (p.sector + e.1.2.2.2)
          st.putMedia port { y with groups := tput y.groups group (r.groupTag m group),
                                    secs := tmod y.secs phys (fun z => { z with tag := { z.tag with kind := 4 } }) }
      | none, _ => st) s

/-- One sector written to a position, the other tags of its group recovered first where its tag sector cannot be read (R81). -/
def State.writeSec (s : State) (r : Arr) (g : Geom) (stripe unit row : Nat) (p : Pos) (full : Blob) (gen : Nat)
    (lost empty : Bool) : State :=
  match (r.mem p.member).bind (·.port) with
  | none => s
  | some port =>
    let group := (p.sector + row) / 63
    let byPos := ((tget (s.mediaOf port).groups group).map (r.byPosition p.member group)).getD false
    let s := if byPos then s.recoverGroup r g p.member port group else s
    s.writeRaw r g stripe unit row p full gen lost empty

/-- A data sector written to its unit's position or rebuild target (R159 step 6, R188). -/
def State.writeData (s : State) (r : Arr) (g : Geom) (stripe unit row : Nat) (c : CSec) (gen : Nat) : State :=
  match (r.readPos g stripe unit).orElse (fun _ => r.target g stripe unit) with
  | none => s
  | some p => s.writeSec r g stripe unit row p (csecFull c) gen (c == .lost) (c == .empty)

/-- A parity sector written to its unit's position or rebuild target (R159 step 7); empty only when every data sector
of the row is empty (R78). -/
def State.writeParity (s : State) (r : Arr) (g : Geom) (stripe unit row : Nat) (full : Blob) (gen : Nat)
    (rowEmpty : Bool) : State :=
  match (r.readPos g stripe unit).orElse (fun _ => r.target g stripe unit) with
  | none => s
  | some p => s.writeSec r g stripe unit row p full gen false rowEmpty

/-- A unit of a solved row written to a position with the generation of R190: an empty data sector empty, a LOST marker
LOST (R78, R182). -/
def State.writeSolved (s : State) (r : Arr) (g : Geom) (stripe unit row : Nat) (p : Pos) (fs : List Blob)
    (us : List (Option USec)) : State :=
  let f := (fs[unit]?).getD 0
  let gen := repairGen g.k unit us
  if unit < g.k then s.writeSec r g stripe unit row p f gen (fullCtr f == lostCtr) (fullCtr f == 0)
  else s.writeSec r g stripe unit row p f gen false (rowEmpty g.k fs)

/-- Media errors and erasures of a member counted and kept for 24 h (R181, R186). -/
def State.countMediaErr (s : State) (a : ArrayId) (m : Nat) : State :=
  match s.arr a with
  | none => s
  | some r =>
    let ms := r.members.mapIdx (fun i x =>
      if i = m then { x with mediaErrs := x.mediaErrs.filter (fun t => s.now < t + 86400 * sec) ++ [s.now] } else x)
    s.putArr a { r with members := ms }

/-- The erasures of a row counted toward their members' media-error limits (R181). A sector that the drive could not return was
counted when its read ended in a media error (R292). -/
def State.countErasures (s : State) (a : ArrayId) (r : Arr) (row : Nat) (reads : List SecRead) : State :=
  reads.foldl (fun (st : State) x => match x with
    | .erasure p =>
      let bad : Bool := match (r.mem p.member).bind (·.port) with
        | some port => ((tget (s.mediaOf port).secs (physSector (p.sector + row))).map (·.bad)).getD false
        | none => false
      if bad then st else st.countMediaErr a p.member
    | _ => st) s

/-- READ_REPAIR (R181): every erasure on a present member rewritten in place with its solved content, and counted in
ARR_REPAIR_COUNT. -/
def State.repairRow (s : State) (a : ArrayId) (r : Arr) (g : Geom) (stripe row : Nat) (reads : List SecRead)
    (fs : List Blob) : State :=
  let us := reads.map SecRead.val?
  (List.range reads.length).foldl (fun (st : State) (u : Nat) =>
    match reads[u]? with
    | some (SecRead.erasure p) =>
      (st.writeSolved r g stripe u row p fs us).incFld (Fld.ARR_REPAIR_COUNT.at a.val) 1
    | _ => st) s

/-- Tag sectors of every member of an array rewritten with correct headers, and only the sectors kept for which a test holds (R82, R135,
R208). -/
def State.retag (s : State) (r : Arr) (keep : MSec → Bool) : State :=
  (List.range r.members.length).foldl (fun (st : State) (m : Nat) =>
    match (r.mem m).bind (·.port) with
    | none => st
    | some port =>
      let x := st.mediaOf port
      st.putMedia port { x with secs := x.secs.filter (fun e => keep e.2), groups := x.groups.map (fun g => (g.1, r.groupTag m g.1)) }) s

/-! ### Labels (R84 to R87) -/

/-- An entry of the member table byte by byte (R84): MEMBER_UUID, STATE, reserved, REBUILT_TO. -/
def memberEntryBytes (x : LabelMember) : List Nat :=
  let st := match x.state with
    | .absent => 0
    | .active => 1
    | .failed => 2
    | .rebuilding => 3
  leBytes 16 x.uuid ++ [st] ++ List.replicate 7 0 ++ leBytes 8 x.rebuiltTo

/-- An OBJECT_DIR entry (R84). -/
def objEntryBytes (o : LabelObj) : List Nat :=
  leBytes 2 o.kind ++ [0, 0] ++ leBytes 4 o.offset ++ leBytes 4 o.bytes.length ++ [0, 0, 0, 0]

/-- The header sector of a label copy byte by byte, LABEL_CRC zero (R84). -/
def labelHead (l : Label) : List Nat :=
  leBytes 4 l.magic ++ leBytes 2 l.version ++ leBytes 2 l.copy ++ leBytes 8 l.seq ++ leBytes 8 l.writtenAt ++ leBytes 16 l.arrayUuid ++
  leBytes 16 l.memberUuid ++ [l.memberIndex, l.n, l.k, l.layout, l.chunkExp, l.fretExp, l.arrayState, 0] ++ leBytes 8 l.dataSectors ++
  leBytes 8 l.stripeCount ++ leBytes 4 l.epoch ++ leBytes 4 l.periodRows ++ leBytes 4 l.periodStripes ++ leBytes 4 l.len ++
  leBytes 8 l.initWatermark ++ leBytes 8 l.bowHint ++
  ((l.prev.take 4) ++ (l.prev.drop 4).flatMap (leBytes 4) ++ List.replicate (if l.prev.isEmpty then 16 else 0) 0) ++
  leBytes 48 l.programDigest ++ leBytes 48 l.prevProgramDigest ++ List.replicate 32 0 ++ l.members.flatMap memberEntryBytes ++
  List.replicate (32 * (48 - l.members.length)) 0 ++ l.objects.flatMap objEntryBytes ++ List.replicate (16 * (16 - l.objects.length)) 0 ++
  List.replicate 2048 0

/-- LABEL_CRC of a label copy (R84): over its header sector and its objects, which follow it in order. -/
def labelCrcOf (l : Label) : Nat := crc64 (labelHead l ++ l.objects.flatMap (·.bytes))

/-- A label as it stands in a copy (R84). -/
def labelAt (l : Label) (copy : Nat) : Label :=
  let l := { l with copy := copy }
  { l with crc := labelCrcOf l }

/-- Whether a label copy is valid (R87). -/
def labelValid (l : Label) (copy : Nat) : Bool :=
  l.magic == 0x424C5850 && l.version == 1 && l.copy == copy && decide (4096 ≤ l.len) && decide (l.len ≤ labelMax) &&
  decide (l.objects.length ≤ 16) &&
  l.objects.all (fun o =>
    if o.kind = 0 then o.offset == 0 && o.bytes.isEmpty && o.reservedZero
    else decide (o.kind ≤ 5) && decide (4096 ≤ o.offset) && decide (o.offset + o.bytes.length ≤ l.len)) &&
  l.crc == labelCrcOf l

/-- The valid copy with the highest LABEL_SEQ (R87). -/
def bestLabel (ls : List (Option Label)) : Option Label :=
  (ls.mapIdx (fun i l => l.filter (fun x => labelValid x i))).foldl (fun (acc : Option Label) l =>
    match acc, l with
    | none, y => y
    | some x, some y => if x.seq < y.seq then some y else some x
    | some x, none => some x) none

end Sys2Proof.Machine

namespace Sys2Proof

/-- ARRAY_UUID and MEMBER_UUID of a drive's newest valid label copy (R87, R297). -/
def DriveInfo.label (d : DriveInfo) : Option (Nat × Nat) := (Machine.bestLabel d.labels).map (fun l => (l.arrayUuid, l.memberUuid))

/-- The REJECT_REASON of a drive that fails the checks of R73 and R287, 0 for one that passes them. DESIGN CHOICE (assumption 39): of several the
first in this order shows. -/
def DriveInfo.reject (d : DriveInfo) : Nat :=
  if !d.answers then 6
  else if d.blockSize ≠ 4096 then 1
  else if d.metadata ≠ 0 ∨ d.protection = true then 2
  else if !d.features then 5
  else 0

end Sys2Proof

namespace Sys2Proof.Machine

/-- The namespace table byte by byte (R85). -/
def nsTableBytes (l : List LabelNs) : List Nat :=
  l.flatMap (fun n => leBytes 4 n.nsid ++ leBytes 4 1 ++ leBytes 16 n.uuid ++ leBytes 8 n.size ++ leBytes 8 n.keyRef ++ leBytes 8 n.keyCheck ++
    [n.extents.length] ++ List.replicate 15 0 ++ n.extents.flatMap (fun e => leBytes 8 e.start ++ leBytes 8 e.length) ++
    List.replicate (16 * (4 - n.extents.length)) 0)

/-- Objects laid one after the other from the second sector on; empty ones have no entry (R84). -/
def placeObjects (offset : Nat) : List (Nat × List Nat) → List LabelObj
  | [] => []
  | (k, b) :: r => if b.isEmpty then placeObjects offset r else ⟨k, offset, true, b⟩ :: placeObjects (offset + b.length) r

/-- The namespaces of an array as its labels list them (R85, R86). -/
def State.labelNs (s : State) (r : Arr) : List LabelNs :=
  match s.img.running with
  | none => []
  | some i => (i.namespaces.filter (fun n => (s.arr n.array).map (·.uuid) == some r.uuid)).map
      (fun n => ⟨n.nsid, n.uuid, n.size, n.keyRef, (tget r.keyChecks n.nsid).getD 0, n.extents⟩)

/-- The label of a member as the device writes it now (R84, R85); each copy gets its COPY and LABEL_CRC when it is written. -/
def State.labelFor (s : State) (r : Arr) (m : Nat) (uuid : Nat) : Label :=
  let g := r.cur
  let two (x : Geom) : List Nat × List Nat := (progBytes x.prog x.tables, tableBytes x.tables)
  let cur := two g
  let old := (r.prev.map two).getD ([], [])
  let objs := placeObjects 4096 [(1, cur.1), (2, cur.2), (3, old.1), (4, old.2), (5, nsTableBytes (s.labelNs r))]
  { magic := 0x424C5850, version := 1, copy := 0, seq := r.labelSeq, writtenAt := s.pitch.getD 0, arrayUuid := r.uuid, memberUuid := uuid,
    memberIndex := m, n := g.n, k := g.k, layout := g.layout, chunkExp := 12 + Nat.log2 g.c, fretExp := r.fretExp,
    arrayState := r.stateCode, dataSectors := g.dataSectors, stripeCount := g.stripeCount, epoch := g.epoch,
    periodRows := g.periodRows, periodStripes := g.periodStripes,
    len := objs.foldl (fun acc o => acc + o.bytes.length) 4096, initWatermark := r.initMark,
    bowHint := if r.prev.isSome then r.bow else 2 ^ 64 - 1,
    prev := match r.prev with
      | some p => [p.n, p.k, p.layout, 12 + Nat.log2 p.c, p.epoch, p.periodRows, p.periodStripes]
      | none => [],
    programDigest := (Config.sha384 (cur.1 ++ cur.2)).toNat,
    prevProgramDigest := if r.prev.isSome then (Config.sha384 (old.1 ++ old.2)).toNat else 0,
    members := r.members.map (fun x => ⟨x.uuid, x.state, x.rebuiltTo, x.cause⟩), objects := objs, crc := 0 }

/-- Whether a label agrees with what the device would write now (R87): all but COPY, LABEL_SEQ, WRITTEN_AT, LABEL_CRC and the causes, for
which a label has no bytes. -/
def labelAgrees (l want : Label) : Bool :=
  let bare (x : Label) : Label := { x with copy := 0, seq := 0, writtenAt := 0, crc := 0,
                                           members := x.members.map (fun (y : LabelMember) => { y with cause := 0 }) }
  bare l == bare want

end Sys2Proof.Machine
end

