-- ==== Sys2Proof/Machine/HostOps.lean ====
section
/-!
DEFINITION. Machine/HostOps.lean: the shared operations of the host front end: status codes (R142), queues and functions
(R113, R117 to R120), internal tags (R121, R122), range locks (R127, R128), the completion collector (R139, R140),
interrupts, the Error Information log (R444), deferred errors (R143, R144, R171), the latency counters (R222, R223).
-/
namespace Sys2Proof.Machine

/-! ### Status codes. Codes of type 7 are R142's; the others are NVMe's for the names the rules use (assumption 14) -/

/-- Successful Completion. -/
def stOk : Status := ⟨0, 0x00, false, 0⟩
/-- Invalid Command Opcode. -/
def stInvalidOpcode : Status := ⟨0, 0x01, true, 0⟩
/-- Invalid Field in Command. -/
def stInvalidField : Status := ⟨0, 0x02, true, 0⟩
/-- Command ID Conflict. -/
def stCidConflict : Status := ⟨0, 0x03, false, 0⟩
/-- Internal Error. -/
def stInternal : Status := ⟨0, 0x06, false, 0⟩
/-- Command Abort Requested. -/
def stAbortRequested : Status := ⟨0, 0x07, false, 0⟩
/-- Command Aborted due to SQ Deletion. -/
def stSqDeleted : Status := ⟨0, 0x08, false, 0⟩
/-- Invalid Namespace or Format (an unattached namespace). -/
def stInvalidNs : Status := ⟨0, 0x0B, true, 0⟩
/-- Command Sequence Error. -/
def stSequence : Status := ⟨0, 0x0C, true, 0⟩
/-- Sanitize Failed. -/
def stSanitizeFailed : Status := ⟨0, 0x1C, true, 0⟩
/-- Sanitize In Progress. -/
def stSanitizing : Status := ⟨0, 0x1D, false, 0⟩
/-- Namespace is Write Protected. -/
def stWriteProtected : Status := ⟨0, 0x20, true, 0⟩
/-- LBA Out of Range. -/
def stLbaRange : Status := ⟨0, 0x80, true, 0⟩
/-- Namespace Not Ready (NVMe's own, with DNR as given). -/
def stNsNotReady (dnr : Bool) : Status := ⟨0, 0x82, dnr, 0⟩
/-- Format In Progress. -/
def stFormatting : Status := ⟨0, 0x84, false, 0⟩
/-- Completion Queue Invalid. -/
def stCqInvalid : Status := ⟨1, 0x00, true, 0⟩
/-- Invalid Queue Identifier. -/
def stInvalidQid : Status := ⟨1, 0x01, true, 0⟩
/-- Invalid Queue Size. -/
def stInvalidQsize : Status := ⟨1, 0x02, true, 0⟩
/-- Asynchronous Event Request Limit Exceeded. -/
def stAerLimit : Status := ⟨1, 0x05, false, 0⟩
/-- Invalid Interrupt Vector. -/
def stInvalidVector : Status := ⟨1, 0x08, true, 0⟩
/-- Invalid Log Page. -/
def stInvalidLog : Status := ⟨1, 0x09, true, 0⟩
/-- Invalid Format. -/
def stInvalidFormat : Status := ⟨1, 0x0A, true, 0⟩
/-- Invalid Queue Deletion. -/
def stQueueDeletion : Status := ⟨1, 0x0C, true, 0⟩
/-- Feature Not Changeable. -/
def stNotChangeable : Status := ⟨1, 0x0E, true, 0⟩
/-- 0xC0 Deferred Write Error. -/
def stDeferred : Status := ⟨7, 0xC0, false, 0⟩
/-- 0xC1 Authentication Failed. -/
def stAuthFailed : Status := ⟨7, 0xC1, true, 0⟩
/-- 0xC2 Key Exhausted. -/
def stKeyExhausted : Status := ⟨7, 0xC2, true, 0⟩
/-- 0xC3 Entropy Not Ready. -/
def stEntropy : Status := ⟨7, 0xC3, false, 1⟩
/-- 0xC4 Lost Stripe. -/
def stLostStripe : Status := ⟨7, 0xC4, true, 0⟩
/-- 0xC5 Mapping Fault. -/
def stMappingFault : Status := ⟨7, 0xC5, true, 0⟩
/-- 0xC6 Capo Not Held. -/
def stCapoNotHeld : Status := ⟨7, 0xC6, false, 0⟩
/-- 0xC7 Namespace Not Ready (vault replay). -/
def stReplay : Status := ⟨7, 0xC7, false, 1⟩

/-! ### Functions and queues -/

/-- The host port of a function (R113). -/
def fnPort (fn : FnIdx) : Nat := fn.val / 64

/-- Whether a function is a port's physical function (R113). -/
def isPf (fn : FnIdx) : Bool := fn.val % 64 == 0

/-- A controller that is disabled (R119, R137). -/
def fnDisabled : FnSt :=
  { en := false, rdy := false, cfs := false, resetting := false, asqs := 0, acqs := 0, nqDone := false, grantSq := 0,
    grantCq := 0, feats := [], aers := [], flagged := [], errLog := [], vfEnable := false, asqHead := 0, apst := [], msix := [] }

/-- A function's controller. -/
def State.fn (s : State) (f : FnIdx) : FnSt := (tget s.hfe.fns f.val).getD fnDisabled

/-- The state with a function's controller replaced. -/
def State.putFn (s : State) (f : FnIdx) (x : FnSt) : State := { s with hfe := { s.hfe with fns := tput s.hfe.fns f.val x } }

/-- The key of a queue: 8,192 queue identifiers for each function (R111). A larger identifier names no queue: its key lies above those of
every function's queues, and nothing is ever stored there (R117, R119). -/
def qKey (f : FnIdx) (q : Nat) : Nat := if q < 8192 then f.val * 8192 + q else 1048576 + q * 128 + f.val

/-- The function's entry of Host ports (R117). -/
def State.func (s : State) (f : FnIdx) : FuncEntry :=
  match s.img.running with
  | some i =>
    match i.hostPorts with
    | some h => (tget h.funcs f.val).getD ⟨0, 0, 0⟩
    | none => ⟨0, 0, 0⟩
  | none => ⟨0, 0, 0⟩

/-- The port's entry of Host ports (R117). -/
def hostPortOf (h : HostSection) (p : Nat) : HostPortEntry := if p = 0 then h.port0 else h.port1

/-- Whether a function is enabled (R117). In Safe Mode each port presents its physical function only (R43). -/
def State.fnEnabled (s : State) (f : FnIdx) : Bool :=
  if s.bit Fld.IMG_BOOT.SAFE_MODE then isPf f
  else
    match s.img.running with
    | none => false
    | some i =>
      match i.hostPorts with
      | none => false
      | some h => (hostPortOf h (fnPort f)).enable == 1 && decide (f.val % 64 ≤ (hostPortOf h (fnPort f)).vfCount)

/-- Whether a namespace is attached to a function (R129). -/
def nsAttached (n : NsEntry) (f : FnIdx) : Bool := n.attach / 2 ^ f.val % 2 == 1

/-! ### Tags (R121, R122) -/

/-- The generation of an index. -/
def State.gen (s : State) (i : Nat) : Nat := (tget s.hfe.gens i).getD 0

/-- Whether an index is in use by a host command. -/
def State.tagUsed (s : State) (i : Nat) : Bool := s.hfe.cmds.any (fun c => c.tag = i)

/-- The next free index a class may take: reserved indices first for class 0, then the shared ones; those freed longest
ago first, after the ones never taken (R121, R122). -/
def State.nextTag (s : State) (cls : Nat) : Option Nat :=
  let shared : Option Nat := if s.hfe.freshS < 65536 then some s.hfe.freshS else s.hfe.freedS.head?
  if cls = 0 then
    if s.hfe.fresh0 < 2048 then some s.hfe.fresh0
    else
      match s.hfe.freed0.head? with
      | some i => some i
      | none => shared
  else shared

/-- The state with an index taken: off its free list, its generation one higher modulo 256 (R122). -/
def State.takeTag (s : State) (i : Nat) : State :=
  let h := s.hfe
  let h := { h with
    fresh0 := if i = h.fresh0 ∧ i < 2048 then h.fresh0 + 1 else h.fresh0,
    freshS := if i = h.freshS ∧ 2048 ≤ i then h.freshS + 1 else h.freshS,
    freed0 := h.freed0.filter (· ≠ i),
    freedS := h.freedS.filter (· ≠ i),
    gens := tput h.gens i ((s.gen i + 1) % 256) }
  { s with hfe := h }

/-- The state with an index given back in the order it was freed, or held out while its next generation is that of a
member command still outstanding (`busy`, R122). -/
def State.freeTag (s : State) (i : Nat) (busy : Bool) : State :=
  let h := s.hfe
  if busy then { s with hfe := { h with held := h.held ++ [i] } }
  else if i < 2048 then { s with hfe := { h with freed0 := h.freed0 ++ [i] } }
  else { s with hfe := { h with freedS := h.freedS ++ [i] } }

/-! ### Range locks (R127, R128) -/

/-- Whether two ranges overlap, exact to the sector (R128): a range of no sector overlaps none. -/
def overlaps (a n b m : Nat) : Bool := decide (a < b + m) && decide (b < a + n) && decide (0 < n) && decide (0 < m)

/-- Whether a command kind takes exclusive entries (R127). -/
def kindExclusive (k : IoKind) : Bool :=
  match k with
  | .write | .writeZeroes | .dsm => true
  | _ => false

/-- Whether a command kind takes entries at all (R127). -/
def kindLocks (k : IoKind) : Bool :=
  match k with
  | .write | .writeZeroes | .dsm | .read | .verify => true
  | _ => false

/-- Whether a range conflicts with an entry held by another command (R128). -/
def lockConflict (l : RangeLock) (nsid : Nat) (e : Extent) (excl : Bool) : Bool :=
  l.nsid == nsid && overlaps l.start l.count e.start e.length && (l.excl || excl)

/-- The entries of the table that a class may take (R127): class 0 the reserved 2,048 and the shared ones. -/
def State.lockFree (s : State) (cls : Nat) : Nat :=
  let low := (s.hfe.locks.filter (·.low)).length
  let shared := s.hfe.locks.length - low
  if cls = 0 then (2048 - low) + (63488 - shared) else 63488 - shared

/-- The entries a command takes, the first ones reserved while class 0 has some left (R127). -/
def locksFor (s : State) (c : HostCmd) : List RangeLock :=
  let low := (s.hfe.locks.filter (·.low)).length
  c.ranges.mapIdx (fun i e =>
    ⟨c.nsid, e.start, e.length, kindExclusive c.kind, c.tag, c.cls == 0 && decide (low + i < 2048)⟩)

/-! ### Commands in flight -/

/-- The command of a tag index. -/
def State.cmd (s : State) (tag : Nat) : Option HostCmd := s.hfe.cmds.find? (fun c => c.tag = tag)

/-- Whether an earlier command's entry stands against a command (R128): one that was fetched before it. -/
def State.blocked (s : State) (c : HostCmd) : Bool :=
  c.ranges.any (fun e => s.hfe.locks.any (fun l =>
    l.tag != c.tag && lockConflict l c.nsid e (kindExclusive c.kind) &&
    (match s.cmd l.tag with
      | some d => decide (d.order < c.order)
      | none => true)))

/-- The state with a command's record replaced. -/
def State.putCmd (s : State) (c : HostCmd) : State :=
  { s with hfe := { s.hfe with cmds := s.hfe.cmds.map (fun d => if d.tag = c.tag then c else d) } }

/-- Sectors a command moves. -/
def HostCmd.sectors (c : HostCmd) : Nat := c.ranges.foldl (fun acc e => acc + e.length) 0

/-- An error entry of a controller's Error Information log: 256 entries, every error but Lost Stripe (R444). -/
def State.logError (s : State) (f : FnIdx) (st : Status) : State :=
  if (st.sct = 0 ∧ st.sc = 0) ∨ (st.sct = 7 ∧ st.sc = 0xC4) then s
  else
    let x := s.fn f
    s.putFn f { x with errLog := (st :: x.errLog).take 256 }

/-- A completion entry given to the collector (R139). The command keeps its tag and lock until it is posted (R140). -/
def State.collect (s : State) (c : HostCmd) (st : Status) (data : List Blob) : State :=
  let e : Collected :=
    { cqe := ⟨c.fn, c.sq, c.cid, st, 0, data, 0⟩, tag := some c.tag, cls := c.cls, order := c.order, at_ := s.now, bell := c.bell,
      excl := c.excl }
  let reads : Bool := c.kind == .read || c.kind == .verify
  let s := s.putCmd { c with phase := .collected, done := if reads && decide (c.done ≠ 0) then c.done else s.now, plain := [] }
  let s := { s with hfe := { s.hfe with collector := s.hfe.collector ++ [e] } }
  let s := s.logError c.fn st
  let depth := (s.hfe.collector.filter (fun x => fnPort x.cqe.fn = fnPort c.fn)).length
  s.maxFld (Fld.HFE_COLLECT_MAX.MAX_DEPTH.at (fnPort c.fn)) depth

/-- Whether a completion queue is full (R140). -/
def IoCq.full (q : IoCq) : Bool := q.size == 0 || (q.tail + 1) % q.size == q.head

/-- The completion queue of a submission queue: queue 0 is the admin pair. -/
def State.cqOf (s : State) (f : FnIdx) (sq : Nat) : Nat :=
  if sq = 0 then 0 else ((tget s.hfe.sqs (qKey f sq)).map (·.cq)).getD 0

/-- The Interrupt Coalescing threshold of a controller: feature 0x08, bits 7:0, in entries beyond the first; zero where
coalescing is off (R140). -/
def coalesceThreshold (x : FnSt) : Nat := (tget x.feats 0x08).getD 0 % 256

/-- The feature number under which Interrupt Vector Configuration is held for one vector (R114). -/
def ivcKey (vector : Nat) : Nat := 0x10000 + vector

/-- Whether coalescing is disabled for a vector: bit 16 (CD) of its Interrupt Vector Configuration, NVMe's place (R114, assumption 14). -/
def coalescingOff (x : FnSt) (vector : Nat) : Bool := (tget x.feats (ivcKey vector)).getD 0 / 65536 % 2 == 1

/-- The head pointer of a submission queue: 0 is the admin queue (R120). -/
def State.sqHeadOf (s : State) (f : FnIdx) (sq : Nat) : Nat :=
  if sq = 0 then (s.fn f).asqHead else ((tget s.hfe.sqs (qKey f sq)).map (·.head)).getD 0

/-- A completion entry posted with its SQ's head pointer (R120): the CQ's tail moves on, and its vector is raised at once, but for entries of
classes 1 to 3 under Interrupt Coalescing, which wait for the threshold or the aggregation time (R140). -/
def State.postEntry (s : State) (e : Cqe) (coalesce : Bool) : State :=
  let cq := s.cqOf e.fn e.sq
  let e := { e with sqHead := s.sqHeadOf e.fn e.sq }
  let s := { s with hfe := { s.hfe with posted := s.hfe.posted ++ [e] } }
  match tget s.hfe.cqs (qKey e.fn cq) with
  | none => s
  | some q =>
    let thr := coalesceThreshold (s.fn e.fn)
    let q := { q with tail := (q.tail + 1) % q.size }
    if !q.ien then { s with hfe := { s.hfe with cqs := tput s.hfe.cqs (qKey e.fn cq) q } }
    else if coalesce && decide (0 < thr) && decide (q.coalesced < thr) && !coalescingOff (s.fn e.fn) q.vector then
      { s with hfe := { s.hfe with cqs := tput s.hfe.cqs (qKey e.fn cq) { q with coalesced := q.coalesced + 1 } } }
    else
      { s with hfe := { s.hfe with cqs := tput s.hfe.cqs (qKey e.fn cq) { q with coalesced := 0 },
                                   raised := s.hfe.raised ++ [(e.fn, q.vector)] } }

/-- An admin command ended: its entry is posted where the admin CQ has room, and held for that CQ otherwise (R132,
R140). Error statuses go into the Error Information log (R444). DESIGN CHOICE (assumption 33): the spec gives such a held entry no collector
class; here it is served in class 1, and it is not counted into HFE_COLLECT_MAX when it is added. -/
def State.adminDone (s : State) (f : FnIdx) (cid : Nat) (st : Status) (dw0 : Nat) (data : List Nat) : State :=
  let e : Cqe := ⟨f, 0, cid, st, dw0, data, 0⟩
  let s := s.logError f st
  match tget s.hfe.cqs (qKey f 0) with
  | some q =>
    if q.full then
      { s with hfe := { s.hfe with collector := s.hfe.collector ++
        [{ cqe := e, tag := none, cls := 1, order := s.hfe.order, at_ := s.now, bell := s.now, excl := false }] } }
    else s.postEntry e false
  | none => s.postEntry e false

/-- Tag and range locks of a command released, its record gone (R121, R128). `busy`: R122. -/
def State.releaseCmd (s : State) (tag : Nat) (busy : Bool) : State :=
  let h := s.hfe
  ({ s with hfe := { h with cmds := h.cmds.filter (fun c => c.tag ≠ tag),
                            locks := h.locks.filter (fun l => l.tag ≠ tag) } }).freeTag tag busy

/-! ### Latency counters (R222, R223) -/

/-- The histogram bin of an interval in ns: bin 0 below 1 µs, bin b counts 2^(b−1) µs up to 2^b µs, bin 31 the rest. -/
def histBin (ns : Nat) : Nat := if ns < 1000 then 0 else min 31 (1 + Nat.log2 (ns / 1000))

/-- The key of a histogram bin: measure, class, bin (R223). -/
def histKey (measure cls bin : Nat) : Nat := measure * 128 + cls * 32 + bin

/-- One interval counted in a histogram, saturating, while HIST_EN is 1 (R223). -/
def State.histCount (s : State) (measure cls ns : Nat) : State :=
  if s.bit Fld.LAT_CTRL.HIST_EN then
    let k := histKey measure cls (histBin ns)
    { s with lat := { s.lat with hist := tput s.lat.hist k (min ((tget s.lat.hist k).getD 0 + 1) 0xFFFFFFFF) } }
  else s

/-! ### Deferred errors (R143, R144, R171) -/

/-- The union of two touching or overlapping entries of one namespace and cause (R171). -/
def dweMerge (a b : Dwe) : Dwe :=
  let lo := min a.slba b.slba
  let hi := max (a.slba + a.nlb) (b.slba + b.nlb)
  { a with slba := lo, nlb := hi - lo, time := match a.time, b.time with
    | some x, some y => some (min x y)
    | some x, none => some x
    | none, y => y }

/-- Whether two entries have one namespace and cause and touch or overlap (R171). -/
def dweTouch (a b : Dwe) : Bool :=
  a.nsid == b.nsid && a.cause == b.cause && decide (a.slba ≤ b.slba + b.nlb) && decide (b.slba ≤ a.slba + a.nlb)

/-- The pending flag of a namespace set on every controller it is attached to, and an Asynchronous Event of type Vendor
Specific with information 0xC0 and log page 0xC0 completed on each of them with a request outstanding (R143). -/
def State.flagNs (s : State) (nsid : Nat) : State :=
  match s.ns nsid with
  | none => s
  | some n =>
    (List.finRange 128).foldl (fun (st : State) (f : FnIdx) =>
      if nsAttached n f then
        let x := st.fn f
        let x := { x with flagged := if x.flagged.contains nsid then x.flagged else x.flagged ++ [nsid] }
        match x.aers with
        | [] => st.putFn f x
        | cid :: r => (st.putFn f { x with aers := r }).adminDone f cid stOk (7 + 0xC0 * 256 + 0xC0 * 65536) []
      else st) s

/-- A SMART warning (R444): an Asynchronous Event of type SMART / Health with log page 0x02 completed on every controller with a request
outstanding; `info` is NVMe's code, 0 reliability and 1 temperature threshold (assumption 14). -/
def State.smartWarn (s : State) (info : Nat) : State :=
  (List.finRange 128).foldl (fun (st : State) (f : FnIdx) =>
    let x := st.fn f
    match x.aers with
    | [] => st
    | cid :: r => (st.putFn f { x with aers := r }).adminDone f cid stOk (1 + info * 256 + 0x02 * 65536) []) s

/-- DEFERRED_ERROR_RECORD: an error listed, merged where it touches an entry of its namespace and cause; a full list
sets OVERFLOW and merges the namespace's entries into one, or records a severity-6 event; then the flags and events of
R143 (R144, R171). -/
def State.deferError (s : State) (nsid cause slba nlb : Nat) : State :=
  let e : Dwe := ⟨nsid, cause, slba, nlb, s.pitch⟩
  let l := s.hfe.dwe
  let s :=
    if l.any (fun d => dweTouch d e) then
      let m := (l.filter (fun d => dweTouch d e)).foldl dweMerge e
      { s with hfe := { s.hfe with dwe := l.filter (fun d => !dweTouch d e) ++ [m] } }
    else if l.length < 4096 then { s with hfe := { s.hfe with dwe := l ++ [e] } }
    else
      let s := s.setBit Fld.HFE_DWE_STATUS.OVERFLOW true
      let same := l.filter (fun d => d.nsid = nsid ∧ d.cause = cause)
      match same with
      | [] => s.emit .dweUnlisted [nsid, cause, slba, nlb]
      | _ =>
        let size := ((s.ns nsid).map (·.size)).getD 0
        let m := same.foldl dweMerge e
        { s with hfe := { s.hfe with dwe := l.filter (fun d => !(d.nsid = nsid ∧ d.cause = cause)) ++
          [{ m with slba := 0, nlb := size }] } }
  ((s.setFld Fld.HFE_DWE_STATUS.ENTRIES s.hfe.dwe.length).flagNs nsid).mirror (.deferred nsid cause slba nlb)

/-- The namespace LBA of an array LBA that lies in one of a namespace's extents, `acc` sectors lying before them. -/
def extentsInv (es : List Extent) (acc lba : Nat) : Option Nat :=
  match es with
  | [] => none
  | e :: r => if e.start ≤ lba ∧ lba < e.start + e.length then some (acc + (lba - e.start)) else extentsInv r (acc + e.length) lba

/-- The namespace and LBA at which an array LBA lies, if any (R85, R194). -/
def nsOfArrayLba (ns : List NsEntry) (a : ArrayId) (lba : Nat) : Option (Nat × Nat) :=
  (ns.filter (fun n => n.array = a)).findSome? (fun n => (extentsInv n.extents 0 lba).map (fun l => (n.nsid, l)))

end Sys2Proof.Machine
end

