-- ==== Sys2Proof/Machine/Members.lean ====
section
/-!
DEFINITION. Machine/Members.lean: failing a member (R186, R187, R197), replacements (R178, R188, R298), lost rows and the
lost-stripe list (R194 to R197), and rebuilding one stripe (R189, R190).
-/
namespace Sys2Proof.Machine

/-- A port's state beside its registers. -/
def portReset : PortSt :=
  { waiting := [], slots := [], drive := none, heldIdent := false, esc := none, startupWindow := false, windowEnd := 0,
    pluckWait := false, delayEnd := 0, waitEnd := 0, pwren := false, grants := [0, 0, 0, 0] }

/-- A port. -/
def State.port (s : State) (p : PortId) : PortSt := (tget s.ports p.val).getD portReset

/-- The state with a port replaced. -/
def State.putPort (s : State) (p : PortId) (x : PortSt) : State := { s with ports := tput s.ports p.val x }

/-- Whether write-class member commands may run: the drive-write gate is open (R14, R311) and no write fence runs (R325). -/
def State.gateOpen (s : State) : Bool := s.bit Fld.CAPO_STATUS.GATE_OPEN && !s.capo.fence

/-- A member of an array replaced by a function of it. -/
def Arr.modMem (r : Arr) (m : Nat) (f : Member → Member) : Arr :=
  { r with members := r.members.mapIdx (fun i x => if i = m then f x else x) }

/-- Which array index a port serves: array and member index. -/
def State.portMember (s : State) (p : PortId) : Option (ArrayId × Nat) :=
  (List.finRange 16).findSome? (fun a =>
    (s.arr a).bind (fun r => ((List.range r.members.length).find? (fun m =>
      (r.mem m).bind (·.port) == some p)).map (fun m => (a, m))))

/-- The state of a member index. -/
def State.memState (s : State) (a : ArrayId) (m : Nat) : Option MemState :=
  ((s.arr a).bind (fun r => r.mem m)).map Member.state

/-- An operation wanted, once. -/
def Arr.want (r : Arr) (o : ArrOp) : Arr := if r.wants.contains o then r else { r with wants := r.wants ++ [o] }

/-- An operation no longer wanted. -/
def Arr.unwant (r : Arr) (o : ArrOp) : Arr := { r with wants := r.wants.filter (· != o) }

/-- Priority of background operations, the highest first (R191). -/
def opOrder : List ArrOp := [.resync, .critical, .mainPass, .copyback, .reshape, .scrub, .init]

/-- The wanted operations of an array, the highest first (R191). -/
def Arr.wanted (r : Arr) : List ArrOp := opOrder.filter (fun o => r.wants.contains o)

/-- An operation paused for a reason that stays until it is taken back: 1 host command, 5 bow buffer full, 6 mapping fault (R192,
R204, R210). -/
def Arr.pause (r : Arr) (o : ArrOp) (reason : Nat) : Arr :=
  { r with pauses := r.pauses.filter (fun x => x.1 ≠ o) ++ [(o, reason)] }

/-- Whether any index has units missing. -/
def Arr.degraded (r : Arr) : Bool := (List.range r.members.length).any (fun m => r.unitsMissing m)

/-- PAUSE_REASON of an operation, 0 where it is not paused (R154, R203, R210). -/
def State.pauseReason (s : State) (r : Arr) (o : ArrOp) : Nat :=
  match r.pauses.find? (fun x => x.1 = o) with
  | some x => x.2
  | none =>
    if (o = .scrub ∨ o = .reshape) ∧ s.bit Fld.WC_STATUS.OVER_LIMIT then 2
    else if o = .reshape ∧ r.degraded = true then 3
    else 0

/-- What ARR_STATE shows of an array (R191, R210): the wanted operation of highest priority that is not paused, else the highest with the
reason why it is. -/
def State.arrShown (s : State) (r : Arr) : ArrOp × Nat :=
  match r.wanted.find? (fun o => s.pauseReason r o = 0) with
  | some o => (o, 0)
  | none =>
    match r.wanted with
    | o :: _ => (o, s.pauseReason r o)
    | [] => (.none, 0)

/-- Known-answer tests of the slices in service begin, one slice after the other (R177); nothing while they run. A slice under test is
out of service. -/
def State.startKat (s : State) : State :=
  let act := s.fld Fld.PQE_STATUS.SLICE_ACTIVE
  if s.bit Fld.PQE_STATUS.KAT_BUSY then s
  else
    match (List.range 4).filter (fun i => act / 2 ^ i % 2 = 1) with
    | [] => s
    | i :: l =>
      let s := { s with rbe := { s.rbe with katTesting := i :: l } }
      (s.setFld Fld.PQE_STATUS.SLICE_ACTIVE (act - 2 ^ i)).setBit Fld.PQE_STATUS.KAT_BUSY true

/-- Whether an index has a rebuild target (R188). -/
def Arr.hasTarget (r : Arr) (m : Nat) : Bool :=
  match r.mem m with
  | none => false
  | some x => x.state == .rebuilding || (r.cur.hasSpare && r.failOrder.contains m)

/-- A rebuild started where a target exists: the critical pass first when two indices have units missing, then the main
pass (R187 step 6, R189). -/
def Arr.startRebuild (r : Arr) : Arr :=
  let miss := (List.range r.members.length).filter (fun m => r.unitsMissing m)
  if miss.any (fun m => r.hasTarget m) then
    let r := r.want .mainPass
    if 2 ≤ miss.length then { r.want .critical with critMark := 0 } else r
  else r

/-! ### Lost rows (R194 to R197) -/

/-- Whether a row may be merged into an entry (R196). -/
def lostSame (e f : LostEntry) : Bool :=
  e.array == f.array && e.kind == f.kind && e.cause == f.cause && e.epoch == f.epoch && e.mask == f.mask

/-- An entry extended by a row of its only stripe that is adjacent to its rows, or by the next stripe with the same rows
(R196). -/
def lostExtend (e f : LostEntry) : Option LostEntry :=
  if !lostSame e f then none
  else if e.count = 1 ∧ f.stripe = e.stripe ∧ f.rowFirst = e.rowLast + 1 then
    some { e with rowLast := f.rowFirst, left := e.left + f.left }
  else if e.count = 1 ∧ f.stripe = e.stripe ∧ f.rowFirst + 1 = e.rowFirst then
    some { e with rowFirst := f.rowFirst, left := e.left + f.left }
  else if f.stripe = e.stripe + e.count ∧ f.rowFirst = e.rowFirst ∧ f.rowLast = e.rowLast then
    some { e with count := e.count + 1, left := e.left + f.left }
  else none

/-- A row put into the list: into the first entry it extends, else as a new entry while the list has room (R196). -/
def lostAdd (l : List LostEntry) (f : LostEntry) : Option (List LostEntry) :=
  match l.findIdx? (fun e => (lostExtend e f).isSome) with
  | some i => some (l.mapIdx (fun j e => if j = i then (lostExtend e f).getD e else e))
  | none => if l.length < 8192 then some (l ++ [f]) else none

/-- A lost row listed; when the list is full the overflow shows (R196). Rows of stripes covered by a kind 1 entry of the
array are not listed (R197). -/
def State.listLost (s : State) (f : LostEntry) : State :=
  if s.rbe.lost.any (fun e => e.array = f.array ∧ e.kind = 1) then s
  else
    match lostAdd s.rbe.lost f with
    | some l => ({ s with rbe := { s.rbe with lost := l } }).setFld Fld.RBE_LOST_COUNT.ENTRIES l.length
    | none =>
      let s := { s with rbe := { s.rbe with lostOverflow := true } }
      (s.setBit Fld.RBE_LOST_COUNT.OVERFLOW true).setBit (Fld.ARR_STATE.LOST_OVERFLOW.at f.array.val) true

/-- LOST_LEFT of a listed row falls by the LOST sectors cleared; an entry at zero goes; overflow clears when the list
empties (R196). -/
def State.lostCleared (s : State) (a : ArrayId) (epoch stripe row unit : Nat) : State :=
  let hit (e : LostEntry) : Bool := e.array = a ∧ e.kind = 0 ∧ e.epoch = epoch ∧ e.stripe ≤ stripe ∧
    stripe < e.stripe + e.count ∧ e.rowFirst ≤ row ∧ row ≤ e.rowLast ∧ e.mask / 2 ^ unit % 2 = 1
  match s.rbe.lost.findIdx? hit with
  | none => s
  | some i =>
    let l := (s.rbe.lost.mapIdx (fun j e => if j = i then { e with left := e.left - 1 } else e)).filter
      (fun e => e.kind = 1 ∨ 0 < e.left)
    let s := ({ s with rbe := { s.rbe with lost := l } }).setFld Fld.RBE_LOST_COUNT.ENTRIES l.length
    if l.isEmpty then
      let s := { s with rbe := { s.rbe with lostOverflow := false } }
      (List.finRange 16).foldl (fun (st : State) (b : ArrayId) => st.setBit (Fld.ARR_STATE.LOST_OVERFLOW.at b.val) false)
        (s.setBit Fld.RBE_LOST_COUNT.OVERFLOW false)
    else s

/-- A LOST sector inside a namespace extent reported with cause 0x01 (R194 step 4), unless a kind 1 entry covers its
array (R197). -/
def State.reportLost (s : State) (a : ArrayId) (lba : Nat) : State :=
  if s.rbe.lost.any (fun e => e.array = a ∧ e.kind = 1) then s
  else
    match s.img.running with
    | none => s
    | some i =>
      match nsOfArrayLba i.namespaces a lba with
      | some (nsid, l) => s.deferError nsid 0x01 l 1
      | none => s

/-- Fret bits set through steps 5 to 9 of R159 by an operation that runs whole: a clear in flight is overtaken, and the bits are
cleared lazily afterwards (R161, R194, R199, R203). -/
def State.fretMark (s : State) (bits : List Nat) : State :=
  bits.foldl (fun (st : State) b =>
    let w := st.wc
    let st := { st with wc := { w with fretOps := w.fretOps.filter (fun o => o.bit ≠ b), lastSet := tput w.lastSet b st.now } }
    if w.fret.contains b then st
    else ({ st with wc := { st.wc with fret := insertOn id b st.wc.fret } } : State).mirror (.fretSet b)) s

/-- LOST_ROW (R194): unknown data sectors become LOST, P and Q are recomputed over the row, written after the data; the
row is listed and its sectors reported. -/
def State.loseRow (s : State) (a : ArrayId) (r : Arr) (g : Geom) (stripe row : Nat) (us : List (Option USec))
    (cause : Nat) : State :=
  let gen := nextGen (match (us[g.k]?).join, (us[g.k + 1]?).join with
    | some p, some q => max p.gen q.gen
    | some p, none => p.gen
    | none, some q => q.gen
    | none, none => rowGen g.k us)
  let bad := (List.range g.k).filter (fun u => ((us[u]?).join).isNone)
  let s := s.fretMark (r.stripeBits g stripe)
  let s := bad.foldl (fun (st : State) (u : Nat) => st.writeData r g stripe u row .lost gen) s
  let ds := (us.take g.k).map (fun u => match u with
    | some x => x.full
    | none => lostFull)
  let s := s.writeParity r g stripe g.k row (rowP ds) gen false
  let s := s.writeParity r g stripe (g.k + 1) row (rowQ ds) gen false
  let mask := bad.foldl (fun acc u => acc + 2 ^ u) 0
  let s := (s.listLost ⟨a, 0, cause, g.epoch, stripe, row, row, mask, 1, bad.length⟩).mirror (.lost a g.epoch stripe row mask cause)
  bad.foldl (fun (st : State) (u : Nat) => st.reportLost a (arrayLba g stripe u row)) s

/-! ### Member failure (R186, R187, R197) -/

/-- Namespaces of an array reported whole with a cause (R197, R171). -/
def State.reportNamespaces (s : State) (a : ArrayId) (cause : Nat) : State :=
  match s.img.running with
  | none => s
  | some i => (i.namespaces.filter (fun n => n.array = a)).foldl
      (fun (st : State) n => st.deferError n.nsid cause 0 n.size) s

/-- THIRD_MEMBER_MISSING (R197): when units are missing on more than two indices, one kind 1 entry names them, once, and
each namespace of the array is reported. -/
def State.thirdMissing (s : State) (a : ArrayId) : State :=
  match s.arr a with
  | none => s
  | some r =>
    let miss := r.downMembers.filter (fun m => r.unitsMissing m)
    if miss.length ≤ 2 ∨ s.rbe.lost.any (fun e => e.array = a ∧ e.kind = 1) then s
    else
      let mask := miss.foldl (fun acc m => acc + 2 ^ m) 0
      let s := s.listLost ⟨a, 1, 1, r.cur.epoch, 0, 0, 0, mask, 0, 0⟩
      s.reportNamespaces a 0x01

/-- A kind 1 entry removed once at most two indices have units missing (R197). -/
def State.thirdBack (s : State) (a : ArrayId) : State :=
  match s.arr a with
  | none => s
  | some r =>
    if (r.downMembers.filter (fun m => r.unitsMissing m)).length ≤ 2 then
      let l := s.rbe.lost.filter (fun e => !(e.array = a ∧ e.kind = 1))
      ({ s with rbe := { s.rbe with lost := l } }).setFld Fld.RBE_LOST_COUNT.ENTRIES l.length
    else s

/-- The causes of R186. -/
inductive FailCause where
  | linkLost | writeError | mediaErrors | slowFail | hostRequest
deriving DecidableEq, Repr

/-- A number for a cause in an event. -/
def failCauseCode (c : FailCause) : Nat :=
  match c with
  | .linkLost => 1
  | .writeError => 2
  | .mediaErrors => 3
  | .slowFail => 4
  | .hostRequest => 5

/-! ### The member commands of a stripe update (R158, R159, R162) -/

/-- The sectors that an update writes in one row. -/
def updRow (u : Update) (row : Nat) : List UpdSector := u.sectors.filter (fun x => x.row = row)

/-- Whether a row may be done by read-modify-write (R158): fewer reads than reconstruct-write, P and Q present, its region not
awaiting a resync scan. -/
def State.rmwRow (s : State) (r : Arr) (g : Geom) (stripe row : Nat) (changed : List Nat) : Bool :=
  decide (changed.length + 2 < g.k - changed.length) && !r.missing g stripe g.k && !r.missing g stripe (g.k + 1) &&
  !((List.range g.k).any (fun v => s.wc.resync.contains (r.fretBase + arrayLba g stripe v row / 2 ^ (r.fretExp - 12))))

/-- The units a row's method reads (R158). -/
def rowReads (k : Nat) (changed : List Nat) (rmw : Bool) : List Nat :=
  if changed.length = k then []
  else if rmw then changed ++ [k, k + 1]
  else (List.range k).filter (fun v => ¬ changed.contains v)

/-- The units read for a row: those its method needs, or every unit that can be had when one of them is missing (R158). -/
def State.planReads (s : State) (r : Arr) (g : Geom) (stripe row : Nat) (changed : List Nat) : List Nat :=
  let need := rowReads g.k changed (s.rmwRow r g stripe row changed)
  if need.any (fun v => r.missing g stripe v) then (List.range g.w).filter (fun v => ¬ r.missing g stripe v) else need

/-- A member command queued at a port. -/
def State.enqueue (s : State) (p : PortId) (c : MCmd) : State :=
  s.putPort p { s.port p with waiting := (s.port p).waiting ++ [c] }

/-- A member command of an update for rows of a unit queued at the port of its position; writes carry Force Unit Access (R159). -/
def State.updCmd (s : State) (u : Update) (r : Arr) (kind : McKind) (unit : Nat) (p : Pos) (rows : List Nat) : State :=
  match rows, (r.mem p.member).bind (·.port) with
  | [], _ => s
  | _, none => s
  | _, some port =>
    s.enqueue port { owner := .update u.id, gen := 0, cls := u.cls, kind := kind, array := u.array.val, previous := u.previous,
                     stripe := u.stripe, unit := unit, rows := rows, attempts := 0, issuedAt := 0, late := false, unknown := false,
                     fua := kind == .write || kind == .tagWrite }

/-- Rows of a unit by the group that their sectors lie in (R74). -/
def rowsByGroup (p : Pos) (rows : List Nat) : List (List Nat) :=
  ((rows.map (fun row => (p.sector + row) / 63)).eraseDups).map (fun i => rows.filter (fun row => (p.sector + row) / 63 = i))

/-- The rows of a unit that an update writes: all where the unit has a position, else those of lost rows, to its rebuild target (R496). -/
def updRows (r : Arr) (g : Geom) (u : Update) (unit : Nat) (rows : List Nat) : Option (Pos × List Nat) :=
  match r.readPos g u.stripe unit with
  | some p => some (p, rows)
  | none => (r.target g u.stripe unit).map (fun p => (p, rows.filter (fun row => u.lostRows.contains row)))

/-- The reads of step 2 queued (R158): the units that the rows' methods need, and the tag sectors of the groups that will be rewritten. -/
def State.updReads (s : State) (u : Update) (r : Arr) (g : Geom) : State :=
  let changed (row : Nat) : List Nat := (updRow u row).map (·.unit)
  (List.range g.w).foldl (fun (st : State) v =>
    match r.readPos g u.stripe v with
    | none => st
    | some p =>
      let reads := u.rows.filter (fun row => (s.planReads r g u.stripe row (changed row)).contains v)
      let writes := u.rows.filter (fun row => decide (g.k ≤ v) || (changed row).contains v)
      (rowsByGroup p writes).foldl (fun (x : State) rows => x.updCmd u r .tagRead v p rows) (st.updCmd u r .read v p reads)) s

/-- Writes of rows of units queued (R159 steps 6 and 7): the data sectors, and after them on each member the tag sectors that describe them
(R81). -/
def State.updWrites (s : State) (u : Update) (r : Arr) (g : Geom) (plan : List (Nat × List Nat)) : State :=
  plan.foldl (fun (st : State) x =>
    match updRows r g u x.1 x.2 with
    | none => st
    | some (p, rows) =>
      (rowsByGroup p rows).foldl (fun (y : State) l => y.updCmd u r .tagWrite x.1 p l) (st.updCmd u r .write x.1 p rows)) s

/-- The fret bits of an update's stripe (R159, R161). -/
def State.updBits (s : State) (u : Update) : List Nat :=
  match (s.arr u.array).bind (fun r => (r.geom u.previous).map (fun g => (r, g))) with
  | some (r, g) => r.stripeBits g u.stripe
  | none => []

/-- In-flight counts of regions one lower (R161). -/
def lowerCounts (bits : List Nat) (t : Tbl Nat) : Tbl Nat :=
  bits.foldl (fun t b => match tget t b with
    | some n => if n ≤ 1 then tdel t b else tput t b (n - 1)
    | none => t) t

/-- Updates of an array in steps 2 to 5 when a member fails (R162): each returns to step 2 and chooses its method again. -/
def State.rechoose (s : State) (a : ArrayId) : State :=
  (s.wc.updates.filter (fun u => u.array == a && decide (u.step ≤ 5))).foldl (fun (st : State) u =>
    match (st.arr a).bind (fun r => (r.geom u.previous).map (fun g => (r, g))) with
    | none => st
    | some (r, g) =>
      let mine (c : MCmd) : Bool := c.owner == .update u.id
      let v : Update := { u with step := 2, read := [], pq := [], lostRows := [], partnerWait := false }
      let w := st.wc
      let st := { st with
        wc := { w with updates := w.updates.map (fun (x : Update) => if x.id = u.id then v else x),
                       counts := if u.step = 5 then lowerCounts (st.updBits u) w.counts else w.counts },
        ports := st.ports.map (fun (p : Nat × PortSt) => (p.1, { p.2 with waiting := p.2.waiting.filter (fun c => !mine c) })) }
      st.updReads v r g) s

/-! ### Label rewrites (R86) -/

/-- The order in which the copies of a label are written (R86). -/
def labelOrder : List Nat := [0, 2, 1, 3]

/-- The member write of the next copy of a label queued at the member's port (R86, R290). -/
def State.askLabel (s : State) (a : ArrayId) (r : Arr) (j : LabelJob) : State :=
  match (r.mem j.member).bind (·.port), labelOrder[j.copies]? with
  | some port, some copy =>
    let q := s.port port
    s.putPort port { q with waiting := q.waiting ++
      [{ owner := .background a, gen := 0, cls := 3, kind := .label, array := a.val, previous := false, stripe := 0, unit := copy, rows := [],
         attempts := 0, issuedAt := 0, late := false, unknown := false }] }
  | _, _ => s

/-- LABEL_REWRITE (R86): a rewrite of the labels of all present members of an array with the next LABEL_SEQ begins with copy 0 on each; a failed or
absent member is not written. While one runs, the next waits for it. -/
def State.rewriteLabels (s : State) (a : ArrayId) : State :=
  match s.arr a with
  | none => s
  | some r =>
    if !r.labelJobs.isEmpty then s.putArr a { r with labelAgain := true }
    else
      let r := { r with labelSeq := r.labelSeq + 1, labelAgain := false }
      let present := (List.range r.members.length).filterMap (fun m => (r.mem m).bind (fun x =>
        if (x.state == .active || x.state == .rebuilding) && x.port.isSome then some (m, x.uuid) else none))
      let jobs := present.map (fun x => (⟨x.1, s.labelFor r x.1 x.2, 0⟩ : LabelJob))
      jobs.foldl (fun (st : State) j => st.askLabel a r j) (s.putArr a { r with labelJobs := jobs })

/-- Label writes asked for again where the gate's closing ended them (R14, R86, R301). -/
def State.resumeLabels (s : State) : State :=
  (List.finRange 16).foldl (fun (st : State) (a : ArrayId) =>
    match st.arr a with
    | none => st
    | some r => r.labelJobs.foldl (fun (x : State) j =>
        match (r.mem j.member).bind (·.port) with
        | none => x
        | some port =>
          let q := x.port port
          if (q.waiting ++ q.slots.map (·.2)).any (fun d => d.kind == .label) then x else x.askLabel a r j) st) s

/-- A rewrite that has ended on every member: the one that waited begins (R86). -/
def State.labelsNext (s : State) (a : ArrayId) : State :=
  match s.arr a with
  | none => s
  | some r => if r.labelJobs.isEmpty && r.labelAgain then s.rewriteLabels a else s

/-- A replacement whose four label copies stand: copyback where its units were relocated and AUTO_COPYBACK is 1, and the rebuild of units that
have no spare slot (R188, R193, R298 step 4). -/
def Arr.startFresh (r : Arr) (m : Nat) : Arr :=
  let r := r.modMem m (fun x => { x with fresh := false })
  if r.failOrder.contains m then
    let r := if r.policy.flags % 2 = 1 then r.want .copyback else r
    if r.allRelocated m then r else r.startRebuild
  else r.startRebuild

/-- A copy of a label that is durable on a member (R86, R298): the next copy follows it; after the last the member is done. -/
def State.labelWritten (s : State) (a : ArrayId) (m copy : Nat) (port : PortId) : State :=
  match s.arr a with
  | none => s
  | some r =>
    match r.labelJobs.find? (fun j => j.member = m) with
    | none => s
    | some j =>
      let md := s.mediaOf port
      let s := s.putMedia port { md with labels := md.labels.set copy (some (labelAt j.label copy)) }
      let k : LabelJob := { j with copies := j.copies + 1 }
      if k.copies < 4 then
        (s.putArr a { r with labelJobs := r.labelJobs.map (fun (x : LabelJob) => if x.member = m then k else x) }).askLabel a r k
      else
        let r := { r with labelJobs := r.labelJobs.filter (fun x => x.member ≠ m) }
        let r := if ((r.mem m).map (·.fresh)).getD false then r.startFresh m else r
        (s.putArr a r).labelsNext a

/-- An index put into a state without a drive (failed or absent): the watermark of one that was active starts again, what lay in spare slots
stays there, and a failed index that turns absent keeps its watermarks (R179, R189); the layout relocates its units, and what the critical pass has
done counts on where the slot is the same; the label is rewritten, a rebuild starts where there is a target (R178, R187, R193). -/
def State.dropMember (s : State) (a : ArrayId) (m : Nat) (st : MemState) (cause : Nat) : State :=
  match s.arr a with
  | none => s
  | some r =>
    let old := r
    let r := { r with labelJobs := r.labelJobs.filter (fun j => j.member ≠ m) }
    let r := r.modMem m (fun x =>
      match x.state with
      | .rebuilding => { x with state := st, spareFrom := max x.spareFrom x.rebuiltTo, rebuiltTo := 0, directTo := 0, slow := false, fresh := false,
                                cause := cause }
      | .active => { x with state := st, rebuiltTo := 0, spareFrom := 0, spareTo := 0, directTo := 0, slow := false, cause := cause }
      | .failed | .absent => { x with state := st, slow := false, cause := cause })
    let r := if r.cur.hasSpare ∧ ¬ r.failOrder.contains m then { r with failOrder := r.failOrder ++ [m] } else r
    let stays (c : Nat × Nat) : Bool := (r.cur :: r.prev.toList).all (fun g =>
      (List.range g.w).all (fun u => layoutMember g c.1 u != some c.2 || old.spareOf g c.1 u == r.spareOf g c.1 u))
    let r := { r with critDone := r.critDone.filter (fun c => c.2 ≠ m && stays c) }
    let r := (r.unwant .copyback).startRebuild
    let s := s.putArr a r
    let s := match (r.mem m).bind (·.port) with
      | none => s
      | some p =>
        let q := s.port p
        s.putPort p { q with waiting := q.waiting.filter (fun c => c.owner == McOwner.port) }
    ((s.rewriteLabels a).thirdMissing a).rechoose a

/-- MEMBER_FAIL (R186, R187): a cause that does not apply when two indices are already missing is only recorded;
otherwise the index is failed and a severity-5 event names the cause. -/
def State.failMember (s : State) (a : ArrayId) (m : Nat) (c : FailCause) : State :=
  match s.arr a with
  | none => s
  | some r =>
    match r.mem m with
    | none => s
    | some x =>
      if x.state = .failed ∨ x.state = .absent then s
      else
        let others := (r.downMembers.filter (fun i => i ≠ m)).length
        match c, decide (2 ≤ others) with
        | .mediaErrors, true => s.emit .mediaErrorsEventOnly [a.val, m, failCauseCode c]
        | .slowFail, true => s.emit .mediaErrorsEventOnly [a.val, m, failCauseCode c]
        | .hostRequest, true => s.emit .memberFailRefused [a.val, m]
        | _, _ => (s.dropMember a m .failed (failCauseCode c)).emit .memberFailed [a.val, m, failCauseCode c]

/-- A media error or erasure of a member counted toward MEDIA_ERR_LIMIT in any 24 h (R181, R186, R292). -/
def State.mediaErr (s : State) (a : ArrayId) (m : Nat) : State :=
  let s := s.countMediaErr a m
  match s.arr a with
  | none => s
  | some r =>
    match r.mem m with
    | none => s
    | some x => if r.policy.mediaErrLimit < x.mediaErrs.length then s.failMember a m .mediaErrors else s

/-! ### Replacement (R178, R297, R298) -/

/-- REPLACEMENT_ADMIT (R298): a new MEMBER_UUID, the state rebuilding, fresh media and the label rewrite; rebuild or copyback follows once the
replacement's labels stand. -/
def State.admitReplacement (s : State) (a : ArrayId) (m : Nat) (p : PortId) : State :=
  match s.arr a with
  | none => s
  | some r =>
    let uuid := (s.free 128).toNat
    let s := s.used
    let r := r.modMem m (fun x =>
      { x with state := .rebuilding, uuid := uuid, port := some p, rebuiltTo := 0,
               spareFrom := if x.spareFrom ≤ x.rebuiltTo then 0 else x.spareFrom,
               spareTo := max x.rebuiltTo x.spareTo, directTo := 0, slow := false, mediaErrs := [], reads := 0, cause := 0, fresh := true })
    ((s.putArr a r).putMedia p Media.fresh).rewriteLabels a

/-! ### Rebuilding a stripe (R189, R190) -/

/-- Members whose media errors exceed the limit failed (R186). -/
def State.checkMediaErrs (s : State) (a : ArrayId) (r : Arr) : State :=
  (List.range r.members.length).foldl (fun (st : State) (m : Nat) =>
    match (st.arr a).bind (fun q => q.mem m) with
    | some x => if r.policy.mediaErrLimit < x.mediaErrs.length then st.failMember a m .mediaErrors else st
    | none => st) s

/-- Whether the stripe lock of R159 is held in an epoch. -/
def State.stripeBusy (s : State) (a : ArrayId) (previous : Bool) (t : Nat) : Bool :=
  s.wc.updates.any (fun u => u.array == a && u.stripe == t && u.previous == previous)

/-- The member write of a sector repaired in place queued at its port (R181, R290): one that ends in an error is a write error of the member
(R186). -/
def State.repairWrite (s : State) (a : ArrayId) (r : Arr) (g : Geom) (stripe unit row : Nat) (p : Pos) : State :=
  match (r.mem p.member).bind (·.port) with
  | none => s
  | some port =>
    let q := s.port port
    s.putPort port { q with waiting := q.waiting ++
      [{ owner := .background a, gen := 0, cls := 3, kind := .write, array := a.val, previous := g.epoch != r.cur.epoch, stripe := stripe,
         unit := unit, rows := [row], attempts := 0, issuedAt := 0, late := false, unknown := false }] }

/-- READ_REPAIR with its count toward the media-error limit of each member and its member writes (R181, R186). -/
def State.repairCounted (s : State) (a : ArrayId) (r : Arr) (g : Geom) (stripe row : Nat) (reads : List SecRead)
    (fs : List Blob) : State :=
  let s := (s.repairRow a r g stripe row reads fs).countErasures a r row reads
  let s := (List.range reads.length).foldl (fun (st : State) (u : Nat) => match reads[u]? with
    | some (SecRead.erasure p) => st.repairWrite a r g stripe u row p
    | _ => st) s
  s.checkMediaErrs a r

/-- A lost row met by an operation that reads it, its erasures counted (R181, R194). -/
def State.loseCounted (s : State) (a : ArrayId) (r : Arr) (g : Geom) (stripe row : Nat) (reads : List SecRead)
    (cause : Nat) : State :=
  ((s.loseRow a r g stripe row (reads.map SecRead.val?) cause).countErasures a r row reads).checkMediaErrs a r

/-! ### Resync (R169, R170) -/

/-- Whether a row was interrupted (R170): its P and Q generations differ, or a data sector carries the generation that follows
theirs. -/
def interrupted (k : Nat) (us : List (Option USec)) : Bool :=
  let p := ((us[k]?).join).map (·.gen)
  let q := ((us[k + 1]?).join).map (·.gen)
  let follows (x : Nat) : Bool := (us.take k).any (fun u => match u with
    | some v => v.kind == 1 && v.gen == nextGen x
    | none => false)
  match p, q with
  | some x, some y => x != y || follows x
  | some x, none => follows x
  | none, some y => follows y
  | none, none => false

/-- One row resynchronised (R170): not interrupted, nothing; every data unit there, P and Q recomputed from the data and written
in place or to their targets with the generation one above the larger of theirs; a data unit missing, its sectors LOST. -/
def State.resyncRow (s : State) (a : ArrayId) (r : Arr) (g : Geom) (stripe row : Nat) : State :=
  let reads := s.readRow r g stripe row
  let us := reads.map SecRead.val?
  if !interrupted g.k us then s
  else if (us.take g.k).all (·.isSome) then
    let ds := knownData g.k us
    let gen := nextGen (max ((((us[g.k]?).join).map (·.gen)).getD 0) ((((us[g.k + 1]?).join).map (·.gen)).getD 0))
    let e := ds.all (fun f => fullCtr f == 0)
    (s.writeParity r g stripe g.k row (rowP ds) gen e).writeParity r g stripe (g.k + 1) row (rowQ ds) gen e
  else s.loseCounted a r g stripe row reads 3

/-- Whether a stripe overlaps a region that awaits its resync scan (R158, R169). -/
def State.awaitsScan (s : State) (r : Arr) (g : Geom) (stripe : Nat) : Bool :=
  (r.stripeBits g stripe).any (fun b => s.wc.resync.contains b)

/-- A whole stripe resynchronised. -/
def State.resyncStripe (s : State) (a : ArrayId) (previous : Bool) (stripe : Nat) : State :=
  match s.arr a with
  | none => s
  | some r =>
    match r.geom previous with
    | none => s
    | some g => (List.range g.c).foldl (fun (st : State) row => st.resyncRow a ((st.arr a).getD r) g stripe row) s

/-- Reading a row with members that are slow taken as missing where the row still solves without them (R185). -/
def State.readRowFast (s : State) (r : Arr) (g : Geom) (stripe row : Nat) : List SecRead :=
  let reads := s.readRow r g stripe row
  let fast := reads.map (fun x => match x with
    | .got p u => match r.mem p.member with
      | some y => if y.slow then SecRead.missing else .got p u
      | none => .got p u
    | y => y)
  if (badUnits (fast.map SecRead.val?)).length ≤ 2 then fast else reads

/-- One row rebuilt (R189): lost when more than two units are unknown; otherwise missing units go to their targets and
erasures are repaired in place (R181). Missing units are those of R179, whatever was read. -/
def State.rebuildRow (s : State) (a : ArrayId) (r : Arr) (g : Geom) (stripe row : Nat) : State :=
  let reads := s.readRowFast r g stripe row
  let us := reads.map SecRead.val?
  match solveRow g.k us with
  | none => s.loseCounted a r g stripe row reads 1
  | some fs =>
    let miss := r.missingUnits g stripe
    let s := miss.foldl (fun (st : State) (u : Nat) =>
      match r.target g stripe u with
      | some p => st.writeSolved r g stripe u row p fs us
      | none => st) s
    let s := if (badUnits us).isEmpty then s else s.incFld Fld.PQE_SOLVE_COUNT 1
    let s := s.incFld Fld.PQE_SRC_BYTES ((us.length - (badUnits us).length) * 4096)
    s.repairCounted a r g stripe row reads fs

/-- Every row of a stripe rebuilt in one epoch. -/
def State.rebuildStripeIn (s : State) (a : ArrayId) (g : Geom) (stripe : Nat) : State :=
  (List.range g.c).foldl (fun (st : State) (row : Nat) =>
    match st.arr a with
    | some r => st.rebuildRow a r g stripe row
    | none => st) s

end Sys2Proof.Machine
end

