-- ==== Sys2Proof/Machine/Mapper.lean ====
section
/-!
DEFINITION. Machine/Mapper.lean: the fingering mapper's lanes (R98 to R101), mapping faults (R100, R192) and test
mappings (R109).
-/
namespace Sys2Proof.Machine

/-- The geometry a mapping runs with, if its array and epoch slot exist (R92). -/
def State.mapGeom (s : State) (q : MapReq) : Option Geom := (s.arr q.array).bind (fun r => r.geom q.previous)

/-- The lowest lane that runs nothing. DESIGN CHOICE (assumption 12): the spec does not say which free lane a mapping takes. -/
def State.freeLane (s : State) : Option Nat := (List.range 64).find? (fun i => (tget s.map.lanes i).isNone)

/-- The lane a class-0 mapping preempts: of the mappings that are not of class 0 and have been preempted fewer than 3
times, the highest class, the youngest among equals (R101). -/
def State.victimLane (s : State) : Option (Nat × Lane) :=
  (s.map.lanes.filter (fun p => p.2.req.cls ≠ 0 ∧ p.2.req.preempted < 3)).foldl (fun acc p =>
    match acc with
    | none => some p
    | some b => if b.2.req.cls < p.2.req.cls ∨ (b.2.req.cls = p.2.req.cls ∧ b.2.order < p.2.order) then some p else some b)
    none

/-- A mapping put on a lane with the program and tables of its epoch slot, which it keeps to its end (R102). -/
def State.putLane (s : State) (lane : Nat) (q : MapReq) (g : Geom) : State :=
  { s with map := { s.map with lanes := tput s.map.lanes lane ⟨q, s.map.order, g⟩, order := s.map.order + 1 } }

/-- The lane of a mapping that a command or a background operation runs to its end at once: the lowest free one, else the one that class 0 would
preempt. DESIGN CHOICE (assumption 12): such a mapping leaves no trace on its lane. -/
def State.mapLane (s : State) : Nat := (s.freeLane.orElse (fun _ => s.victimLane.map (·.1))).getD 0

/-- LANES_BUSY follows the lanes (R109). -/
def State.lanesCount (s : State) : State := s.setFld Fld.MAP_STATUS.LANES_BUSY s.map.lanes.length

/-- The test mapping ended (R109). -/
def State.testEnd (s : State) (fault steps : Nat) : State :=
  (((s.setBit Fld.MAP_TEST_STATUS.BUSY false).setBit Fld.MAP_TEST_STATUS.DONE true).setFld Fld.MAP_TEST_STATUS.FAULT
    fault).setFld Fld.MAP_TEST_STATUS.STEPS steps

/-- A background operation of an array paused for a reason (R192, R210). -/
def State.pauseOp (s : State) (a : ArrayId) (reason : Nat) : State :=
  match s.arr a with
  | none => s
  | some r =>
    let x := s.arrShown r
    if x.1 = .none ∨ x.2 ≠ 0 then s else s.putArr a (r.pause x.1 reason)

/-- A mapping fault latched and counted (R108, R109). -/
def State.latchFault (s : State) (lane : Nat) (q : MapReq) (f : MapFault) (pc : Nat) : State :=
  let s := s.setFld Fld.MAP_FAULT_INFO.REASON (mapFaultCode f)
  let s := s.setFld Fld.MAP_FAULT_INFO.PC pc
  let s := s.setFld Fld.MAP_FAULT_INFO.LANE lane
  let s := s.setFld Fld.MAP_FAULT_INFO.ARRAY q.array.val
  let s := s.setBit Fld.MAP_FAULT_INFO.EPOCH q.previous
  let s := s.setBit Fld.MAP_FAULT_INFO.ENTRY q.spare
  let s := s.setFld Fld.MAP_FAULT_IN q.input
  let s := s.setFld Fld.MAP_FAULT_UNIT.UNIT q.unit
  s.incFld Fld.MAP_FAULT_COUNT 1

/-- A mapping fault (R100, R109, R192): latched, counted and recorded; a host command ends with Mapping Fault, and its
locks go with its completion entry; a background operation is paused with PAUSE_REASON 6; a test mapping shows it in
MAP_TEST_STATUS only. -/
def State.mapFault (s : State) (lane : Nat) (q : MapReq) (f : MapFault) (pc steps : Nat) : State :=
  let payload := [q.array.val, if q.previous then 1 else 0, if q.spare then 1 else 0, q.input, q.unit, lane,
    mapFaultCode f, pc]
  match q.owner with
  | .test => s.testEnd (mapFaultCode f) steps
  | .background => ((s.latchFault lane q f pc).pauseOp q.array 6).emit .backgroundMappingFault payload
  | .host tag =>
    let s := (s.latchFault lane q f pc).emit .mappingFault payload
    match s.cmd tag with
    | none => s
    | some c =>
      let s := { s with hfe := { s.hfe with locks := s.hfe.locks.filter (fun l => l.tag ≠ tag) } }
      s.collect c stMappingFault []

/-- The lane just freed taken by the head of a class's waiting mappings (R101, R211): class 0 first, the others by their weights. DESIGN CHOICE
(assumption 42): of the classes that the weights let go the lowest number. A mapping whose program has gone faults as one out of range. -/
def State.refill (s : State) (lane : Nat) : State :=
  let w := s.map.waiting.map (·.cls)
  match (wrrNext s.classWeights s.map.grants w 0).bind (fun c => s.map.waiting.find? (fun q => q.cls = c)) with
  | none => s.lanesCount
  | some q =>
    let s := { s with map := { s.map with waiting := s.map.waiting.erase q, grants := wrrGive s.classWeights s.map.grants w q.cls } }
    match s.mapGeom q with
    | some g => (s.putLane lane q g).lanesCount
    | none => (s.mapFault lane q .inputRange 0 0).lanesCount

/-- A mapping handed to the mapper (R94, R101): inputs out of range fault before any instruction; a free lane takes it;
with every lane busy a class-0 mapping preempts, the preempted one going back to the head of its class's queue; any other
waits. DESIGN CHOICE (assumption 12): a fault with reason INPUT_RANGE, where no lane starts and no instruction runs, shows LANE 0 and PC 0. -/
def State.dispatch (s : State) (q : MapReq) : State :=
  match s.mapGeom q with
  | none => s.mapFault 0 q .inputRange 0 0
  | some g =>
    if !inputOk g q.spare q.input q.unit then s.mapFault 0 q .inputRange 0 0
    else
      match s.freeLane with
      | some l => (s.putLane l q g).lanesCount
      | none =>
        match (if q.cls = 0 then s.victimLane else none) with
        | none => { s with map := { s.map with waiting := s.map.waiting ++ [q] } }
        | some (l, v) =>
          let back : MapReq := { v.req with preempted := v.req.preempted + 1 }
          let s := { s with map := { s.map with waiting := back :: s.map.waiting } }
          ((s.putLane l q g).incFld Fld.MAP_PREEMPT_COUNT 1).lanesCount

/-- MAPPING_DISPATCH (R101). -/
def execMappingDispatch (req : MapReq) (s : State) : Out State := .next (s.dispatch req)

/-- The relocation applied to an accepted EMIT (R68, R99): the unit's spare slot where its member's units are
relocated. -/
def State.relocated (s : State) (q : MapReq) (g : Geom) (m o : Nat) : Nat × Nat :=
  match s.arr q.array with
  | none => (m, o)
  | some r =>
    if q.spare then (m, o)
    else
      match r.readPos g q.input q.unit with
      | some p => (p.member, p.sector)
      | none => (m, o)

/-- The end of a lane's mapping by its program: EMIT accepted, or a fault (R98 to R100); STEP_LIMIT is another
command's. -/
def State.laneEnd (s : State) (lane : Nat) (limit : Bool) : State :=
  match tget s.map.lanes lane with
  | none => s
  | some l =>
    let g := l.geom
    let free := { s with map := { s.map with lanes := tdel s.map.lanes lane } }
    match mapEntry g l.req.spare l.req.input l.req.unit with
    | .error (f, pc, steps) =>
      if (f == .stepLimit) == limit then (free.mapFault lane l.req f pc steps).refill lane else s
    | .ok (m, o, steps) =>
      if limit then s
      else
        match l.req.owner with
        | .test =>
          let t := free.setFld Fld.MAP_TEST_MEMBER.MEMBER m
          ((t.setFld Fld.MAP_TEST_OFFSET o).testEnd 0 steps).refill lane
        | _ =>
          let (m', o') := s.relocated l.req g m o
          ({ free with map := { free.map with results := free.map.results ++ [MapResult.mk l.req m' o'] } } : State).refill lane

/-- MAPPING_EMIT (R99): a lane whose program reaches EMIT, or faults before it. -/
def execMappingEmit (lane : Fin 64) (s : State) : Out State := .next (s.laneEnd lane.val false)

/-- MAPPING_STEP_LIMIT (R98): a lane whose program has not reached EMIT after 512 steps. -/
def execMappingStepLimit (lane : Fin 64) (s : State) : Out State := .next (s.laneEnd lane.val true)

/-- TEST_MAPPING_GO (R109): ignored while BUSY is 1; an array that does not exist or an empty previous slot ends at once
with FAULT 7 and STEPS 0; otherwise the mapping runs as class 3. -/
def execTestMappingGo (s : State) : Out State :=
  s.command Fld.MAP_TEST_CTRL.GO.addr (fun s =>
  if s.bit Fld.MAP_TEST_STATUS.BUSY then .next s
  else
    let q : MapReq :=
      { array := Fin.ofNat 16 (s.fld Fld.MAP_TEST_CTRL.ARRAY),
        previous := s.bit Fld.MAP_TEST_CTRL.EPOCH, spare := s.bit Fld.MAP_TEST_CTRL.ENTRY,
        input := s.fld Fld.MAP_TEST_IN, unit := s.fld Fld.MAP_TEST_UNIT.UNIT, cls := 3, preempted := 0, owner := .test }
    .next ((s.setBit Fld.MAP_TEST_STATUS.BUSY true).dispatch q))

end Sys2Proof.Machine
end

