-- ==== Sys2Proof/Machine/PortOps.lean ====
section
/-!
DEFINITION. Machine/PortOps.lean: what the commands of the drive ports share: port map entries, slots and queues (R290),
ends of member commands (R291, R292, R294), escalation (R293), link loss (R295), spin-up (R299, R497) and the power
states of the ports (R300).
-/
namespace Sys2Proof.Machine

/-- The port's entry of the running image's drive port map (R288). -/
def State.portCfg (s : State) (p : PortId) : Option PortMapEntry :=
  s.img.running.bind (fun i => i.portMap.bind (fun l => l[p.val]?))

/-- The port's mode: its map entry's, 0 without one (R34). -/
def State.portMode (s : State) (p : PortId) : Nat := ((s.portCfg p).map (·.mode)).getD 0

/-- PORT_STATE.STATE of a port. -/
def State.portState (s : State) (p : PortId) : Nat := s.fld (Fld.PORT_STATE.STATE.at p.val)

/-- PORT_STATE.STATE set. -/
def State.setPortState (s : State) (p : PortId) (v : Nat) : State := s.setFld (Fld.PORT_STATE.STATE.at p.val) v

/-- Whether a command is write-class (R286). -/
def writeClass (k : McKind) : Bool :=
  match k with
  | .write | .tagWrite | .label | .flush => true
  | .read | .tagRead | .identify | .health => false

/-- Command slots of a port (R288, R290). -/
def State.portDepth (s : State) (p : PortId) : Nat := ((s.portCfg p).map (·.queueDepth)).getD 0

/-- A free slot for a class (R290): class 0 takes a reserved slot while one is free, then a shared one; the others shared
ones only. -/
def State.freeSlot (s : State) (p : PortId) (cls : Nat) : Option Nat :=
  let used := (s.port p).slots.map (·.1)
  let depth := s.portDepth p
  let shared := firstFree used (depth / 8) (depth - depth / 8)
  if cls = 0 then (firstFree used 0 (depth / 8)).orElse (fun _ => shared) else shared

/-- OUTSTANDING follows the slots (R304). -/
def State.countSlots (s : State) (p : PortId) : State :=
  let sl := (s.port p).slots
  (s.setFld (Fld.OUTSTANDING.SLOTS.at p.val) sl.length).setFld (Fld.OUTSTANDING.C0_SLOTS.at p.val)
    (sl.filter (fun x => x.1 < s.portDepth p / 8)).length

/-- Whether a member command of a host command by tag waits or is outstanding anywhere and is not late. -/
def State.memberBusy (s : State) (own : McOwner) : Bool :=
  s.ports.any (fun p => p.2.waiting.any (fun c => c.owner == own && !c.late) ||
    p.2.slots.any (fun c => c.2.owner == own && !c.2.late))

/-- Whether an index's next generation is that of a member command still at a port (R122). -/
def State.genBusy (s : State) (i : Nat) : Bool :=
  let nxt := (s.gen i + 1) % 256
  let mine (c : MCmd) : Bool := c.owner == .host i && c.gen == nxt
  s.ports.any (fun p => p.2.slots.any (fun c => mine c.2) || p.2.waiting.any mine)

/-- Held-out indices go back to their free list once no such member command is left (R122). -/
def State.unholdTags (s : State) : State :=
  let (back, keep) := s.hfe.held.partition (fun i => !s.genBusy i)
  back.foldl (fun (st : State) i => st.freeTag i false) { s with hfe := { s.hfe with held := keep } }

/-- A host read from now on treats a member as missing (R180, R214). -/
def State.avoidMember (s : State) (own : McOwner) (m : Nat) : State :=
  match own with
  | .host tag =>
    match s.cmd tag with
    | some c => s.putCmd { c with avoid := if c.avoid.contains m then c.avoid else c.avoid ++ [m] }
    | none => s
  | _ => s

/-- A time point of R218 noted for the host command that a member command belongs to. -/
def State.stampCmd (s : State) (own : McOwner) (f : HostCmd → HostCmd) : State :=
  match own with
  | .host tag =>
    match s.cmd tag with
    | some c => if c.phase == .collected then s else s.putCmd (f c)
    | none => s
  | _ => s

/-- A sector that a drive no longer returns (`gone`), or whose content a write has left undefined (R292): an erasure until it
is written again. -/
def spoilSec (gone : Bool) (x : Option MSec) : MSec :=
  let y := x.getD ⟨0, ⟨0, 0, 0, 0, 0, 0, 0, 0, 0, 0, 0, 0, 0, 0, 0, 0⟩, false⟩
  if gone then { y with bad := true } else { y with tag := { y.tag with kind := 4 } }

/-- The array, geometry and position that a member command's unit has (R91). -/
def State.cmdPos (s : State) (c : MCmd) : Option (Arr × Geom × Pos) :=
  match (if h : c.array < 16 then s.arr ⟨c.array, h⟩ else none) with
  | none => none
  | some r =>
    match r.geom c.previous with
    | none => none
    | some g => ((r.readPos g c.stripe c.unit).orElse (fun _ => r.target g c.stripe c.unit)).map (fun q => (r, g, q))

/-- What a member command names made erasures on the drive behind a port (R292): its data sectors, the tag sector of its group, its label
copy. -/
def State.spoil (s : State) (p : PortId) (c : MCmd) (gone : Bool) : State :=
  let m := s.mediaOf p
  match c.kind, s.cmdPos c with
  | .label, _ => s.putMedia p { m with labels := m.labels.set c.unit none }
  | .tagRead, some (r, _, q) | .tagWrite, some (r, _, q) =>
    let groups := (c.rows.map (fun row => (q.sector + row) / 63)).eraseDups
    s.putMedia p { m with groups := groups.foldl (fun t i => tput t i { (tget t i).getD (r.groupTag q.member i) with readable := false }) m.groups }
  | _, some (_, _, q) =>
    s.putMedia p { m with secs := c.rows.foldl (fun t row =>
      tput t (physSector (q.sector + row)) (spoilSec gone (tget t (physSector (q.sector + row))))) m.secs }
  | _, none => s

/-- A command that has used its attempts ends in error (R294): a read is served under R180, a write fails its member. -/
def State.mcmdError (s : State) (p : PortId) (c : MCmd) : State :=
  match s.portMember p with
  | none => s
  | some (a, m) =>
    if writeClass c.kind then s.failMember a m .writeError else s.avoidMember c.owner m

/-- An attempt charged: the command waits again, ahead of the others, or ends in error once it has used 1 + RETRIES
attempts (R293, R294). -/
def State.retry (s : State) (p : PortId) (c : MCmd) : State :=
  let max := 1 + ((s.portCfg p).map (·.retries)).getD 0
  let c := { c with attempts := c.attempts + 1 }
  if max ≤ c.attempts then s.mcmdError p c
  else (s.putPort p { s.port p with waiting := c :: (s.port p).waiting }).incFld (Fld.RETRY_COUNT.at p.val) 1

/-- A slot given back. -/
def State.dropSlot (s : State) (p : PortId) (slot : Nat) : State :=
  ((s.putPort p { s.port p with slots := tdel (s.port p).slots slot }).countSlots p).unholdTags

/-- ERR_INFO of a port (R304). -/
def State.errInfo (s : State) (p : PortId) (kind status slot : Nat) : State :=
  ((s.setFld (Fld.ERR_INFO.KIND.at p.val) kind).setFld (Fld.ERR_INFO.DRIVE_STATUS.at p.val) status).setFld
    (Fld.ERR_INFO.SLOT.at p.val) slot

/-- A port reset ends every outstanding command; the port reissues them without a charge, but for the one that timed out,
which is charged (R293). With the gate closed the write-class ones end instead, and are counted (R301). -/
def State.portResetCmds (s : State) (p : PortId) (timedOut : Option Nat) : State :=
  let q := s.port p
  let charged := q.slots.filter (fun c => some c.1 = timedOut)
  let others := (q.slots.filter (fun c => some c.1 ≠ timedOut)).map (·.2)
  let ended := others.filter (fun c => writeClass c.kind && !s.gateOpen)
  let back := others.filter (fun c => !(writeClass c.kind && !s.gateOpen))
  let s := s.incFld (Fld.WRITE_GATE_ABORTS.at p.val) ended.length
  let s := s.putPort p { q with slots := [], waiting := back ++ q.waiting }
  let s := charged.foldl (fun (st : State) c => st.retry p c.2) s
  (s.countSlots p).unholdTags

/-- The link of a port seen down. -/
def State.linkDown (s : State) (p : PortId) : State :=
  ((s.setBit (Fld.LINK_STATUS.LINK_UP.at p.val) false).setFld (Fld.LINK_STATUS.RATE.at p.val) 0).setFld
    (Fld.LINK_STATUS.WIDTH.at p.val) 0

/-- What the port knew of its drive forgotten: DRIVE_SERIAL and CAPACITY read zero (R304). -/
def State.forgetDrive (s : State) (p : PortId) : State :=
  let s := s.putPort p { s.port p with drive := none, heldIdent := false }
  (s.setFld (Fld.DRIVE_SERIAL.at p.val) 0).setFld (Fld.CAPACITY.at p.val) 0

/-- DRV_PWREN driven (R299, R497). -/
def State.setPwren (s : State) (p : PortId) (b : Bool) : State :=
  (s.putPort p { s.port p with pwren := b }).setBit (Fld.LINK_STATUS.PWREN.at p.val) b

/-- REMOVAL_TIMEOUT_S of a port in clock units. -/
def State.removalTime (s : State) (p : PortId) : Nat := ((s.portCfg p).map (·.removalTimeoutS)).getD 10 * sec

/-- Link loss (R295): outstanding commands end as at a port reset, host reads of the member go to the other units, and the
removal window of a member's port starts. -/
def State.linkLoss (s : State) (p : PortId) : State :=
  let s := (s.linkDown p).errInfo p 4 0 0
  let s := s.portResetCmds p none
  let s := s.putPort p { s.port p with esc := none }
  let s := s.forgetDrive p
  match s.portMember p with
  | none => s.setPortState p 2
  | some (a, m) =>
    let q := s.port p
    let reads := q.waiting.filter (fun c => c.kind == .read)
    let s := reads.foldl (fun (st : State) c => st.avoidMember c.owner m) s
    let s := s.putPort p { q with waiting := q.waiting.filter (fun c => c.kind != .read),
                                  windowEnd := if q.windowEnd = 0 then s.now + s.removalTime p + 1 else q.windowEnd }
    match s.memState a m with
    | some .active => s.setPortState p 7
    | some .rebuilding => s.setPortState p 7
    | _ => (s.putPort p { s.port p with windowEnd := 0 }).setPortState p 2

/-- A step of the escalation begun (R293). -/
def State.escalate (s : State) (p : PortId) (step : Nat) (slot : Option Nat) : State :=
  if step = 1 then s.putPort p { s.port p with esc := some ⟨1, slot⟩ }
  else if step ≤ 4 then
    let s := s.incFld (Fld.RESET_COUNT.at p.val) 1
    let s := s.portResetCmds p slot
    let s := s.putPort p { s.port p with esc := some ⟨step, none⟩ }
    let s := if step = 4 then (s.setPwren p false).setPwren p true else s
    s.setPortState p 5
  else (s.putPort p { s.port p with esc := none }).linkLoss p

/-- A timeout of a member command, or an error treated as one (R292, R293). A SATA port has no step 1. -/
def State.portTimeout (s : State) (p : PortId) (slot kind status : Nat) : State :=
  let s := (s.incFld (Fld.TIMEOUT_COUNT.at p.val) 1).errInfo p kind status slot
  match (s.port p).esc with
  | some _ => s
  | none => s.escalate p (if s.portMode p = 4 then 2 else 1) (some slot)

/-- A late completion dropped (R123): counted, latched, and recorded at most once per port and second. -/
def State.lateDrop (s : State) (p : PortId) (c : MCmd) : State :=
  let idx := match c.owner with
    | .host t => t
    | _ => 0
  let s := s.incFld Fld.HFE_LATE_DROP_COUNT 1
  let s := ((s.setFld Fld.HFE_LATE_DROP_INFO.PORT p.val).setFld Fld.HFE_LATE_DROP_INFO.INDEX idx).setFld
    Fld.HFE_LATE_DROP_INFO.GEN c.gen
  match tget s.hfe.lateAt p.val with
  | some t => if s.now < t + sec then s
              else ({ s with hfe := { s.hfe with lateAt := tput s.hfe.lateAt p.val s.now } }).emit .lateDrop
                [p.val, idx, c.gen]
  | none => ({ s with hfe := { s.hfe with lateAt := tput s.hfe.lateAt p.val s.now } }).emit .lateDrop [p.val, idx, c.gen]

/-- Whether a completion is dropped (R123, R187): its generation has moved on, or its member has been failed. -/
def State.isLate (s : State) (p : PortId) (c : MCmd) : Bool :=
  let gone := match s.portMember p with
    | some (a, m) => match s.memState a m with
      | some .failed => true
      | some .absent => true
      | _ => false
    | none => false
  match c.owner with
  | .host t => gone || s.gen t != c.gen || !s.tagUsed t
  | .port => false
  | _ => gone

/-! ### Spin-up (R299, R497) -/

/-- SPINUP_DELAY_DS of a port in clock units. -/
def State.spinDelay (s : State) (p : PortId) : Nat := ((s.portCfg p).map (·.spinupDelayDs)).getD 0 * (100 * ms)

/-- DRV_PWREN asserted and the link trained: the spin-up wait of 30 s starts (R299). -/
def State.powerUpPort (s : State) (p : PortId) : State :=
  let s := s.setPwren p true
  (s.putPort p { s.port p with pluckWait := false, waitEnd := s.now + 30 * sec }).setPortState p 2

/-- The spin-up start of one port (R299, R497): off in mode 0; training at once where DRV_PWREN is asserted and the mode is
unchanged; else waiting for its delay or its pluck. The index of a member is held as in a removal window (R296). -/
def State.spinupPort (s : State) (p : PortId) : State :=
  let mode := s.portMode p
  let old := s.fld (Fld.LINK_STATUS.MODE.at p.val)
  let was := (s.port p).pwren
  let s := (s.setFld (Fld.LINK_STATUS.MODE.at p.val) mode).forgetDrive p
  let s := s.putPort p { s.port p with waiting := [], slots := [], esc := none }
  let s := match s.portMember p with
    | some (a, m) =>
      let s := (s.setFld (Fld.PORT_STATE.MEMBER_INDEX.at p.val) m).setFld (Fld.PORT_STATE.ARRAY.at p.val) a.val
      s.putPort p { s.port p with startupWindow := true, windowEnd := s.now + max (s.removalTime p) (30 * sec) + 1 }
    | none =>
      let s := (s.setFld (Fld.PORT_STATE.MEMBER_INDEX.at p.val) 63).setFld (Fld.PORT_STATE.ARRAY.at p.val) 31
      s.putPort p { s.port p with startupWindow := false, windowEnd := 0 }
  if mode = 0 then (s.setPwren p false).setPortState p 0
  else if was ∧ old = mode then s.powerUpPort p
  else
    let pluck := decide (((s.portCfg p).map (·.flags)).getD 0 / 4 % 2 = 1)
    let s := s.setPwren p false
    (s.putPort p { s.port p with pluckWait := pluck, delayEnd := s.now + s.spinDelay p }).setPortState p 1

/-- The spin-up start of every port at the end of a boot; in Safe Mode every port stays off (R299, R300). -/
def State.spinupStart (s : State) : State :=
  let s := { s with rbe := { s.rbe with arrays := s.rbe.arrays.map (fun (a : Nat × Arr) =>
    (a.1, { a.2 with labelJobs := [], labelAgain := false })) } }
  (List.finRange 48).foldl (fun (st : State) p =>
    if st.bit Fld.IMG_BOOT.SAFE_MODE then
      ((st.setPwren p false).forgetDrive p).setPortState p 0
    else st.spinupPort p) s

/-- Every port flushed and shut down at Silence entry (R300); DRV_PWREN falls where POWER_OFF_IN_SILENCE is set. -/
def State.portsSilence (s : State) : State :=
  (List.finRange 48).foldl (fun (st : State) p =>
    if st.portState p = 0 then st
    else
      let off := decide (((st.portCfg p).map (·.flags)).getD 0 / 2 % 2 = 1)
      let st := if off then st.setPwren p false else st
      (st.linkDown p).setPortState p 8) s

/-- Whether a port holds a drive that is READY and free (R297, R494). -/
def State.freeDrive (s : State) (p : PortId) : Option Drive :=
  if s.portState p = 4 ∧ (s.portMember p).isNone then (s.port p).drive else none

/-- Write-class commands outstanding at a port aborted when the gate closes (R301): a SATA port resets, the others abort. -/
def State.gateAbort (s : State) (p : PortId) : State :=
  let q := s.port p
  if !(q.slots.any (fun c => writeClass c.2.kind)) then s
  else if s.portMode p = 4 then s.escalate p 2 none
  else
    let ended := q.slots.filter (fun c => writeClass c.2.kind)
    let s := s.incFld (Fld.WRITE_GATE_ABORTS.at p.val) ended.length
    ((s.putPort p { q with slots := q.slots.filter (fun c => !writeClass c.2.kind) }).countSlots p).unholdTags

/-- GATE_CLOSE (R311): the gate closed and every port's outstanding write-class commands aborted. -/
def State.closeGate (s : State) : State :=
  if s.bit Fld.CAPO_STATUS.GATE_OPEN then
    (List.finRange 48).foldl (fun (st : State) p => st.gateAbort p) (s.setBit Fld.CAPO_STATUS.GATE_OPEN false)
  else s

end Sys2Proof.Machine
end

