-- ==== Sys2Proof/Machine/WcOps.lean ====
section
/-!
DEFINITION. Machine/WcOps.lean: what the write cache shares: lines and their states (R149, R150), the vaulted amount and the
dirty limit (R151, R152), write-through (R153), over limit and unprotected (R154), mirrored items (R318), placement (R147),
the dirty-namespace bitmap (R172) and vault dumps (R164 to R166).
-/
namespace Sys2Proof.Machine

/-- Write cache and reserve of the running image, or its defaults (R156). -/
def State.wcCfg (s : State) : WcSection := (s.img.running.bind (·.writeCache)).getD {}

/-- The gauge model of the running image (R353); without one both packs have CHEMISTRY 0. -/
def State.gaugeCfg (s : State) : GaugeModel :=
  if s.bit Fld.IMG_BOOT.SAFE_MODE then Config.builtInGauge else ((s.img.running.orElse (fun _ => s.img.last)).bind (·.gauge)).getD {}

/-- The key of a cached sector. -/
def nsKey (nsid lba : Nat) : Nat := nsid * 2 ^ 48 + lba

/-- The namespace of a key. -/
def keyNs (k : Nat) : Nat := k / 2 ^ 48

/-- The LBA of a key. -/
def keyLba (k : Nat) : Nat := k % 2 ^ 48

/-- A cached sector, none where it is ABSENT (R149). -/
def State.line (s : State) (nsid lba : Nat) : Option WcLine := tget s.wc.lines (nsKey nsid lba)

/-- The cache lines replaced. -/
def State.withLines (s : State) (l : Tbl WcLine) : State := { s with wc := { s.wc with lines := l } }

/-- The newest copy of a line (R150). -/
def WcLine.newest (l : WcLine) : CSec := l.newer.getD l.sec

/-- Copies of a line that the vaulted amount counts (R149, R151). -/
def dirtyCopies (l : WcLine) : Nat :=
  match l.state with
  | .clean => 0
  | .dirty | .destaging => 1
  | .redirtied => 2

/-- Whether a line holds data that members do not have. -/
def WcLine.isDirty (l : WcLine) : Bool := l.state != .clean

/-! ### The dirty limit (R151) -/

/-- Installed HBM in MiB: two stacks (R9, R469). -/
def State.hbmMib (s : State) : Nat := s.fld Fld.SYS_HBM.STACK_GIB * 2 * 1024

/-- H_max: installed HBM less the fixed areas of 1,026 MiB (R151). -/
def State.hMax (s : State) : Nat := s.hbmMib - 1026

/-- J_GIB in tenths of a joule: the larger of 10.0 J and DUMP_POWER_W × 2^30 ÷ 12·10^9, rounded up to 0.1 J (R151). -/
def jGibDj (watts : Nat) : Nat := max 100 ((watts * 2 ^ 30 * 10 + (12 * 10 ^ 9 - 1)) / (12 * 10 ^ 9))

/-- Bytes of one update's context: the copies read for it (R158, R159 step 4). -/
def ctxBytes (u : Update) : Nat := if 4 ≤ u.step then u.read.length * 4096 else 0

/-- Bytes of update contexts held (R151, R160). -/
def State.ctxUsed (s : State) : Nat := s.wc.updates.foldl (fun acc u => acc + ctxBytes u) 0

/-- Bytes of the bow buffer (R151, R206). -/
def State.bowBytes (s : State) : Nat :=
  s.rbe.arrays.foldl (fun acc a => acc + (a.2.sources.length + a.2.displaced.length) * 4096) 0

/-- Dirty copies in bytes (R149). -/
def State.dirtyBytes (s : State) : Nat := s.wc.lines.foldl (fun acc l => acc + dirtyCopies l.2 * 4096) 0

/-- Entries of a dump's manifest and directory: dirty sectors, contexts, region counts. -/
def State.dumpEntries (s : State) : Nat :=
  (s.wc.lines.filter (fun l => l.2.isDirty)).length + s.wc.updates.length + s.wc.counts.length

/-- Dump metadata beyond its 256 MiB allowance (R151). The spec gives an entry no size: up to 65,536 entries the allowance
holds them with 4 KiB each, above that the excess is free (assumption 15). -/
def State.metaExcess (s : State) : Nat :=
  if s.dumpEntries ≤ 65536 then 0 else Config.dumpMetaExcess s.dumpEntries

/-- The vaulted amount V in bytes (R151). -/
def State.vaulted (s : State) : Nat := s.dirtyBytes + s.bowBytes + s.ctxUsed + s.metaExcess

/-- Write-through placements in flight in bytes (R153). -/
def State.throughBytes (s : State) : Nat :=
  (s.wc.lines.filter (fun l => l.2.through && l.2.isDirty)).length * 4096

/-- V': V less the write-through placements (R154). -/
def State.vPrime (s : State) : Nat := s.vaulted - s.throughBytes

/-- Whether a dump area is ready: READY, with every channel there and at its rate (R366). -/
def State.areaReady (s : State) : Option (Fin 2) :=
  if s.bit Fld.VLT_STATUS.PRESENT ∧ s.bit Fld.VLT_STATUS.RATE_OK then
    (List.finRange 2).find? (fun i => s.fld (Fld.VLT_AREA.STATE.at i.val) = 0)
  else none

/-- L_cfg in MiB (R151). -/
def State.limitCfg (s : State) : Nat :=
  match s.wcCfg.configLimitMib with
  | some m => min m s.hMax
  | none => s.hMax

/-- L_vault in MiB (R151). -/
def State.limitVault (s : State) : Nat :=
  match s.areaReady with
  | some _ => s.fld Fld.VLT_AREA_MIB.MIB - 256
  | none => 0

/-- (E ÷ m/256 − 150 J) ÷ J_GIB in MiB, rounded down, a negative result 0 (R151). -/
def energyMib (e marginQ8 jgib : Nat) : Nat := (e * 256 - 150 * marginQ8) * 10240 / (marginQ8 * jgib)

/-- L_energy in MiB (R151). -/
def State.limitEnergy (s : State) : Nat :=
  energyMib (s.fld Fld.NRG_E_J.E_J) s.wcCfg.marginQ8 (jGibDj s.gaugeCfg.dumpPowerW)

/-- The dirty limit L in MiB: the smallest of three terms, and while mirrored no more than the partner's (R148, R151). -/
def State.limitNow (s : State) : Nat :=
  let l := min (min s.limitCfg s.limitVault) s.limitEnergy
  match s.mirrored, s.wc.partnerLimit with
  | true, some p => min l p
  | _, _ => l

/-- L in bytes, as last computed. -/
def State.limitBytes (s : State) : Nat := s.fld Fld.WC_LIMIT.MIB * 2 ^ 20

/-- The single-margin capacity C1 in bytes (R154). -/
def State.c1Bytes (s : State) : Nat := (s.fld Fld.NRG_E_J.E_J - 150) * 10 * 2 ^ 30 / jGibDj s.gaugeCfg.dumpPowerW

/-- UNPROTECTED and its count of milliseconds brought up to now: set with a severity-6 event when V' has come above C1
(R154). -/
def State.noteUnprot (s : State) : State :=
  let s := match s.wc.unprotAt with
    | none => s
    | some t =>
      let n := (s.now - t) / ms
      let s := s.incFld Fld.WC_UNPROT_MS n
      { s with wc := { s.wc with unprotAt := some (t + n * ms) } }
  if s.c1Bytes < s.vPrime then
    if s.bit Fld.WC_STATUS.UNPROTECTED then s
    else
      let s := { s with wc := { s.wc with unprotAt := some s.now } }
      (s.setBit Fld.WC_STATUS.UNPROTECTED true).emit .unprotected []
  else ({ s with wc := { s.wc with unprotAt := none } }).setBit Fld.WC_STATUS.UNPROTECTED false

/-- OVER_LIMIT: V, less the write-through placements, exceeds L (R153, R154). -/
def State.noteLimit (s : State) : State :=
  (s.setBit Fld.WC_STATUS.OVER_LIMIT (decide (s.limitBytes < s.vPrime))).noteUnprot

/-- WRITE_THROUGH_CHANGE (R153): entered below 256 MiB or by FLAGS bit 0, left at 512 MiB with the flag clear; both are
recorded. Writes that wait on their reservation become write-through commands at once. DESIGN CHOICE (assumption 30): a write-through command that
still waits for room when write-through ends stays one. -/
def State.noteThrough (s : State) : State :=
  let l := s.fld Fld.WC_LIMIT.MIB
  let flag := s.wcCfg.flags % 2 == 1
  let on := s.bit Fld.WC_STATUS.WRITE_THROUGH
  if on then
    if 512 ≤ l ∧ ¬ flag then (s.setBit Fld.WC_STATUS.WRITE_THROUGH false).emit .writeThroughChange [0] else s
  else if l < 256 ∨ flag then
    let cmds := s.hfe.cmds.map (fun c => if c.phase == .limitWait then { c with phase := .throughWait, through := true } else c)
    (({ s with hfe := { s.hfe with cmds := cmds } }).setBit Fld.WC_STATUS.WRITE_THROUGH true).emit .writeThroughChange [1]
  else s

/-- L recomputed with its terms (R152), then write-through (R153), OVER_LIMIT and UNPROTECTED (R154). -/
def State.recomputeLimit (s : State) : State :=
  let s := (s.setFld Fld.WC_LIMIT_CFG.MIB s.limitCfg).setFld Fld.WC_LIMIT_VAULT.MIB s.limitVault
  let s := s.setFld Fld.WC_LIMIT_ENERGY.MIB s.limitEnergy
  let s := s.setFld Fld.WC_LIMIT.MIB s.limitNow
  (s.setBit Fld.WC_STATUS.AREA_READY s.areaReady.isSome).noteThrough.noteLimit

/-! ### Reservations (R152, R153) -/

/-- The namespace LBAs of ranges, in order. -/
def rangeLbas (rs : List Extent) : List Nat := rs.flatMap (fun e => (List.range e.length).map (· + e.start))

/-- Net growth of V in sectors when a command places its sectors that it has not placed yet (R152). -/
def State.growth (s : State) (c : HostCmd) : Nat :=
  ((rangeLbas c.ranges).filter (fun lba =>
    match s.line c.nsid lba with
    | none => true
    | some l => l.owner != some c.tag && (l.state == .clean || l.state == .destaging))).length

/-- Whether a command has its reservation and has not placed everything. -/
def HostCmd.reserving (c : HostCmd) : Bool :=
  c.phase == .placing || c.phase == .entropyWait || c.phase == .markWait

/-- Bytes reserved by commands on their way to placement (R152). -/
def State.reserved (s : State) (through : Bool) : Nat :=
  (s.hfe.cmds.filter (fun c => c.reserving && c.through == through)).foldl (fun acc c => acc + s.growth c * 4096) 0

/-- The admission level of a class in bytes (R152). -/
def State.admitLevel (s : State) (cls : Nat) : Nat :=
  let l := s.limitBytes
  if cls = 0 then l else l - min (s.wcCfg.c0HeadroomMib * 2 ^ 20) (l / 4)

/-- Whether a write's reservation fits (R152). -/
def State.limitFits (s : State) (c : HostCmd) : Bool :=
  decide (s.vPrime + s.reserved false + s.growth c * 4096 ≤ s.admitLevel c.cls)

/-- Whether a write-through command has room among the placements in flight (R153). -/
def State.throughFits (s : State) (c : HostCmd) : Bool :=
  decide (s.throughBytes + s.reserved true + c.sectors * 4096 ≤ 256 * 2 ^ 20)

/-- Whether a waiting command holds a write of a class back (R152): class 0 before the others, fetch order within a group. -/
def State.limitQueue (s : State) (ph : Phase) : List HostCmd :=
  let w := s.hfe.cmds.filter (fun c => c.phase == ph)
  let old := fun (l : List HostCmd) => sortOn HostCmd.order l
  old (w.filter (fun c => c.cls = 0)) ++ old (w.filter (fun c => c.cls ≠ 0))

/-! ### Placement (R147, R149, R150) -/

/-- Sectors that the cache area of HBM holds (R149; its size is taken as H_max, assumption 16). -/
def State.cacheSectors (s : State) : Nat := s.hMax * 256

/-- Copies that the cache holds: two of a REDIRTIED sector, one of every other (R149, R150). -/
def State.cacheCopies (s : State) : Nat := s.wc.lines.foldl (fun acc l => acc + (if l.2.newer.isSome then 2 else 1)) 0

/-- Whether a copy of a sector takes a line of its own: the sector has none, or a newer copy goes beside one that is DESTAGING (R149, R150). -/
def State.takesLine (s : State) (key : Nat) : Bool :=
  match tget s.wc.lines key with
  | none => true
  | some l => l.state == .destaging

/-- A copy made room for: with no free line the CLEAN copy used longest ago is evicted (R149). -/
def State.evictFor (s : State) (key : Nat) : State :=
  if s.takesLine key = false ∨ s.cacheCopies < s.cacheSectors then s
  else
    let clean := s.wc.lines.filter (fun l => !l.2.isDirty)
    match clean.foldl (fun (acc : Option (Nat × WcLine)) l =>
      match acc with
      | none => some l
      | some m => if l.2.at_ < m.2.at_ then some l else some m) none with
    | none => s
    | some v => s.withLines (tdel s.wc.lines v.1)

/-- The state of a line after a host write (R149, R150). -/
def placedLine (old : Option WcLine) (sec : CSec) (cls seq now : Nat) (through : Bool) (owner : Option Nat) : WcLine :=
  match old with
  | none => ⟨.dirty, sec, none, cls, seq, now, through, owner, seq, none⟩
  | some l =>
    let under := if l.owner.isSome then l.under else some l.newest
    match l.state with
    | .clean => ⟨.dirty, sec, none, cls, seq, now, through, owner, seq, none⟩
    | .dirty => ⟨.dirty, sec, none, cls, seq, now, through, owner, l.first, under⟩
    | .destaging => ⟨.redirtied, l.sec, some sec, cls, seq, now, through, owner, seq, none⟩
    | .redirtied => ⟨.redirtied, l.sec, some sec, cls, seq, now, through, owner, l.first, under⟩

/-- A sector placed (R147): its line, its placement sequence, and while mirrored the item for the standby. -/
def State.place (s : State) (nsid lba : Nat) (sec : CSec) (cls : Nat) (through : Bool) (owner : Option Nat) : State :=
  let key := nsKey nsid lba
  let s := s.evictFor key
  let seq := s.wc.nextSeq
  let l := placedLine (tget s.wc.lines key) sec cls seq s.now through owner
  let s := { s with wc := { s.wc with lines := tput s.wc.lines key l, nextSeq := seq + 1 } }
  s.mirror (.sector nsid lba sec cls seq true)

/-- A read fill: a CLEAN copy kept where there is none (R149). -/
def State.fillClean (s : State) (nsid lba : Nat) (sec : CSec) : State :=
  let key := nsKey nsid lba
  match tget s.wc.lines key with
  | some _ => s
  | none =>
    let s := s.evictFor key
    if s.cacheCopies < s.cacheSectors then
      s.withLines (tput s.wc.lines key ⟨.clean, sec, none, 3, 0, s.now, false, none, 0, none⟩)
    else s

/-- Whether a namespace has no dirty sector. -/
def State.nsClean (s : State) (nsid : Nat) : Bool :=
  s.wc.lines.all (fun l => keyNs l.1 != nsid || !l.2.isDirty)

/-- A namespace's dirty bit asked for before the first write completes (R172): whether it has still to be acknowledged. -/
def State.needDirtyNs (s : State) (nsid : Nat) : Bool × State :=
  if s.wc.dirtyNs.contains nsid then (false, s)
  else if s.wc.dirtyNsSet.contains nsid then (true, s)
  else (true, ({ s with wc := { s.wc with dirtyNsSet := s.wc.dirtyNsSet ++ [nsid] } }).mirror (.dirtyNs nsid))

/-- Whether nothing is dirty and no fret bit is set (R174). -/
def State.wcClean (s : State) : Bool := s.vaulted == 0 && s.wc.fret.isEmpty

/-! ### Dumps (R164 to R166) -/

/-- The dirty sectors of the cache in the order of R164 item 6: oldest placement first. -/
def State.dumpSectors (s : State) : List DumpSector :=
  let l := (s.wc.lines.filter (fun l => l.2.isDirty)).map (fun l =>
    DumpSector.mk (keyNs l.1) (keyLba l.1) l.2.newest l.2.cls l.2.seq false)
  sortOn DumpSector.seq l

/-- The bow buffers with their descriptors (R206). -/
def State.bowSaves (s : State) : List BowSave :=
  (s.rbe.arrays.filter (fun a => a.2.prev.isSome)).map (fun a =>
    ⟨a.1, a.2.bow, a.2.ckpt, a.2.sources, a.2.displaced⟩)

/-- VAULT_DUMP (R164): a dump begun in the ready area, if there is one (R369); nothing of it is saved yet. -/
def State.startDump (s : State) (why : DumpReason) : State :=
  match s.areaReady with
  | none => { s with wc := { s.wc with dumpWhy := some why } }
  | some i =>
    let seq := s.fld Fld.VLT_DUMP_SEQ + 1
    let d : Dump :=
      { seq := seq, sectors := s.dumpSectors, contexts := s.wc.updates.filter (fun u => 4 ≤ u.step), bow := s.bowSaves,
        counts := s.wc.counts, committed := false, cancelled := false, retired := false, bytes := s.vaulted }
    let s := { s with vault := { s.vault with dumps := tput s.vault.dumps i.val d },
                      wc := { s.wc with dumpArea := some i.val, dumpWhy := some why, dumpAt := s.now } }
    let s := (s.setFld Fld.VLT_DUMP_SEQ seq).setBit Fld.VLT_STATUS.DUMPING true
    let s := (s.setFld (Fld.VLT_AREA.STATE.at i.val) 1).setBit (Fld.VLT_AREA.COMPLETE.at i.val) false
    s.setBit (Fld.VLT_AREA.CANCELLED.at i.val) false

/-- Whether dirty data stands that a dump must save (R433, R434). -/
def State.hasDirty (s : State) : Bool :=
  s.wc.lines.any (fun l => l.2.isDirty) || !s.wc.updates.isEmpty || decide (0 < s.bowBytes)

/-- Sectors that an area can take of items 4 to 6: its payload less the 256 MiB allowance for items 1 to 3, and less what metadata takes beyond
it (R164, R367). -/
def State.dumpRoom (s : State) : Nat := ((s.fld Fld.VLT_AREA_MIB.MIB - 256) * 2 ^ 20 - s.metaExcess) / 4096

/-- Sectors of items 4 to 6 of a dump: update contexts, bow buffer, dirty sectors (R164). -/
def Dump.units (d : Dump) : Nat :=
  d.contexts.foldl (fun acc u => acc + u.read.length) 0 + d.bow.foldl (fun acc b => acc + b.sources.length + b.displaced.length) 0 +
  d.sectors.length

/-- The update contexts that n sectors hold, in order and whole, with the room that is left (R164). -/
def fitContexts (n : Nat) (l : List Update) : Nat × List Update :=
  l.foldl (fun (acc : Nat × List Update) u =>
    if u.read.length ≤ acc.1 then (acc.1 - u.read.length, acc.2 ++ [u]) else (0, acc.2)) (n, [])

/-- The copies of the bow buffers that n sectors hold, in order, with the room that is left (R164). -/
def fitBow (n : Nat) (l : List BowSave) : Nat × List BowSave :=
  l.foldl (fun (acc : Nat × List BowSave) b =>
    let left := acc.1 - b.sources.length
    (left - b.displaced.length, acc.2 ++ [{ b with sources := b.sources.take acc.1, displaced := b.displaced.take left }])) (n, [])

/-- A dump of whose items 4 to 6 the first n sectors are saved, in R164's order. The manifest goes on to name the dirty sectors that are not; a
context or a copy of the bow buffer that was not saved is not there at replay. -/
def Dump.saveFirst (d : Dump) (n : Nat) : Dump :=
  let (n, contexts) := fitContexts n d.contexts
  let (n, bow) := fitBow n d.bow
  { d with contexts := contexts, bow := bow,
           sectors := d.sectors.mapIdx (fun i x => if i < n then { x with saved := true } else x) }

/-- A running dump that ends without its commit record, n sectors of items 4 to 6 having been saved (R164, R355). -/
def State.dumpCut (s : State) (n : Nat) : State :=
  match s.wc.dumpArea with
  | none => s
  | some i =>
    let s := { s with vault := { s.vault with dumps := tmod s.vault.dumps i (fun d => d.saveFirst n) },
                      wc := { s.wc with dumpArea := none, dumpWhy := none } }
    s.setBit Fld.VLT_STATUS.DUMPING false

end Sys2Proof.Machine
end

