-- ==== Sys2Proof/Machine/NrgOps.lean ====
section
/-!
DEFINITION. Machine/NrgOps.lean: what the battery gauge shares: packs and their model (R352, R353), deliverable energy
(R354), the impedance table (R358), the reserve and the reported charge (R363), self-tests (R356 to R359), learning (R360 to
R362), replacement (R365) and the learned values in calibration blocks (R364).
-/
namespace Sys2Proof.Machine

/-- The number of a pack: A 0, B 1 (R371). -/
def packIx (p : PackId) : Nat :=
  match p with
  | .A => 0
  | .B => 1

/-- The other pack. -/
def otherPack (p : PackId) : PackId :=
  match p with
  | .A => .B
  | .B => .A

/-- Both packs. -/
def bothPacks : List PackId := [.A, .B]

/-- A pack's model (R353). -/
def packModel (g : GaugeModel) (p : PackId) : PackModel :=
  match p with
  | .A => g.packA
  | .B => g.packB

/-- The model of a pack in the running image. -/
def State.packCfg (s : State) (p : PackId) : PackModel := packModel s.gaugeCfg p

/-- Learned values of a pack that nothing is known of. -/
def learnedNone : Learned :=
  { capMah := 0, cells := [], cyclesX16 := 0, serial := 0, qualified := false, failed := false, insertedAt := 0,
    testedAt := 0, learnedAt := 0, learnedOnce := false }

/-- A pack with nothing learned and nothing running. -/
def packReset : Pack :=
  { learned := learnedNone, displaced := none, socPpm := 0, en := false, loadStep := false, cut := none, test := none,
    fails := 0, learn := none, learnTries := 0, firstTest := false, writeDue := false, presentAt := 0, restSince := none,
    socMovedAt := 0, sameBad := false }

/-- A pack of the state. -/
def State.pack (s : State) (p : PackId) : Pack := (tget s.nrg.packs (packIx p)).getD packReset

/-- The state with a pack replaced. -/
def State.putPack (s : State) (p : PackId) (x : Pack) : State :=
  { s with nrg := { s.nrg with packs := tput s.nrg.packs (packIx p) x } }

/-- Whether a pack is present (R352). -/
def State.packPresent (s : State) (p : PackId) : Bool := s.bit (Fld.PACK_STATUS.PRESENT.at (packIx p))

/-- A two's-complement value of w bits. -/
def signedOf (w v : Nat) : Int := if 2 ^ (w - 1) ≤ v then (v : Int) - 2 ^ w else v

/-- The two's-complement bits of an integer. -/
def bitsOf (w : Nat) (i : Int) : Nat := (i % (2 ^ w : Int)).toNat

/-- The last temperature reading of a pack in 0.1 °C (R351). -/
def State.packTemp (s : State) (p : PackId) : Int := signedOf 16 (s.fld (Fld.NRG_TEMP.DECI_C.at (packIx p)))

/-! ### Rested voltage and charge (R353) -/

/-- The built-in OCV tables in mV per cell (R353). -/
def builtInOcv (chem : Nat) : List Nat :=
  if chem = 2 then [2500, 3120, 3200, 3240, 3265, 3285, 3300, 3315, 3330, 3345, 3450]
  else [3000, 3450, 3580, 3650, 3700, 3760, 3840, 3920, 4000, 4080, 4170]

/-- The OCV table a pack uses. -/
def ocvTable (m : PackModel) : List Nat := if m.flags % 2 = 1 then m.ocvMv else builtInOcv m.chemistry

/-- Rested cell voltage in µV at a state of charge in ppm, linear between the points (R353). -/
def ocvUv (m : PackModel) (soc : Nat) : Nat :=
  let i := min (soc / 100000) 9
  let a := ((ocvTable m)[i]?).getD 0
  let b := ((ocvTable m)[i + 1]?).getD 0
  a * 1000 + (b - a) * (soc - i * 100000) / 100

/-- The state of charge in ppm at which a cell rests at a voltage in mV: the inverse of the table, 0 and full outside it. -/
def socOfOcv (m : PackModel) (mv : Nat) : Nat :=
  ((List.range 10).findSome? (fun i =>
    let a := ((ocvTable m)[i]?).getD 0
    let b := ((ocvTable m)[i + 1]?).getD 0
    if mv ≤ a then some (i * 100000)
    else if mv < b then some (i * 100000 + (mv - a) * 100000 / (b - a))
    else none)).getD 1000000

/-! ### The impedance table (R358) -/

/-- The temperature band of a reading in 0.1 °C. -/
def tempBand (d : Int) : Nat := if d < 50 then 0 else if d < 150 then 1 else if d < 300 then 2 else if d ≤ 450 then 3 else 4

/-- The SOC band of a charge in ppm: bands of 20 %. -/
def socBand (soc : Nat) : Nat := min (soc / 200000) 4

/-- R_slow and R_fast in µΩ of a cell (R358): measured, else the largest measured ones doubled for each temperature band
below the coolest measured band; with nothing measured R_NOM_MOHM × 1.5 (R365). -/
def cellR (l : Learned) (m : PackModel) (tb sb : Nat) : Nat × Nat :=
  match tget l.cells (5 * tb + sb) with
  | some c => c
  | none =>
    if l.cells.isEmpty then (m.rNomMohm * 1500, m.rNomMohm * 1500)
    else
      let slow := l.cells.foldl (fun a c => max a c.2.1) 0
      let fast := l.cells.foldl (fun a c => max a c.2.2) 0
      let cool := l.cells.foldl (fun a c => min a (c.1 / 5)) 4
      (slow * 2 ^ (cool - tb), fast * 2 ^ (cool - tb))

/-! ### Deliverable energy (R354) -/

/-- Power drawn from the pack in µW: DUMP_POWER_W ÷ EFF. -/
def packPowerUw (watts effQ8 : Nat) : Nat := watts * 1000000 * 256 / effQ8

/-- The sum of R354 over steps of 1 % downward from a charge, as Σ v·ds in µV·ppm. -/
def energySum (fuel : Nat) (m : PackModel) (l : Learned) (tb p soc acc : Nat) : Nat :=
  match fuel with
  | 0 => acc
  | n + 1 =>
    if soc = 0 then acc
    else
      let ocv := m.cells * ocvUv m soc
      let r := (cellR l m tb (socBand soc)).1
      if ocv * ocv < 5 * r * p then acc
      else
        let v := (ocv + isqrt (ocv * ocv - 5 * r * p)) / 2
        if v < m.cells * m.cutoffMvCell * 1000 then acc
        else energySum n m l tb p (soc - 10000) (acc + v * min soc 10000)

/-- E_pack in J of a pack that counts, at a charge and a temperature (R354). -/
def packEnergy (m : PackModel) (l : Learned) (watts : Nat) (d : Int) (soc : Nat) : Nat :=
  if d < m.tempMinC * 10 ∨ m.tempMaxC * 10 < d then 0
  else
    energySum 101 m l (tempBand d) (packPowerUw watts m.effQ8) soc 0 * l.capMah * 3600 * m.effQ8 / (256 * 10 ^ 15)

/-- Whether a pack counts toward E: present, qualified and not FAILED (R352, R358). -/
def State.packCounts (s : State) (p : PackId) : Bool :=
  s.packPresent p && (s.pack p).learned.qualified && !(s.pack p).learned.failed

/-- E_pack of a pack at a charge. -/
def State.packEnergyAt (s : State) (p : PackId) (soc : Nat) : Nat :=
  if s.packCounts p then packEnergy (s.packCfg p) (s.pack p).learned s.gaugeCfg.dumpPowerW (s.packTemp p) soc else 0

/-- RESERVE_J = M × (150 J + J_GIB × L), rounded down (R363). -/
def State.reserveJ (s : State) : Nat :=
  s.wcCfg.marginQ8 * (150 * 10240 + jGibDj s.gaugeCfg.dumpPowerW * s.fld Fld.WC_LIMIT.MIB) / (256 * 10240)

/-- The target of the reported charge in 0.1 % (R363). -/
def State.socTarget (s : State) (p : PackId) : Nat :=
  let ea := s.fld (Fld.NRG_PACK_E_J.J.at 0)
  let eb := s.fld (Fld.NRG_PACK_E_J.J.at 1)
  let e := s.fld (Fld.NRG_PACK_E_J.J.at (packIx p))
  let full := s.packEnergyAt p 1000000
  let r := if ea + eb = 0 then 0 else s.fld Fld.NRG_RESERVE_J.J * e / (ea + eb)
  if full ≤ r then 0 else min 1000 ((e - r) * 1000 / (full - r))

/-- The reported charge moved toward its target, at most 1 percentage point in a minute (R363). -/
def State.moveSoc (s : State) (p : PackId) : State :=
  let x := s.pack p
  let f := Fld.NRG_SOC.PERMILLE.at (packIx p)
  if !s.packCounts p then (s.setFld f 0).putPack p { x with socMovedAt := s.now }
  else
    let cur := s.fld f
    let tgt := s.socTarget p
    let room := (s.now - x.socMovedAt) * 10 / (60 * sec)
    if cur = tgt then s.putPack p { x with socMovedAt := s.now }
    else if room = 0 then s
    else
      let v := if cur < tgt then min tgt (cur + room) else max tgt (cur - room)
      (s.setFld f v).putPack p { x with socMovedAt := s.now }

/-- Health in percent (R362). -/
def State.packHealth (s : State) (p : PackId) : Nat :=
  let n := (s.packCfg p).nominalMah
  if n = 0 then 0 else min 110 ((s.pack p).learned.capMah * 100 / n)

/-- Whether CHG_EN of a pack is asserted: between 0 °C and 45 °C, no learning cycle and no self-test on it (R350). -/
def State.chargeEn (s : State) (p : PackId) : Bool :=
  decide (0 ≤ s.packTemp p) && decide (s.packTemp p ≤ 450) && s.packPresent p &&
  (s.pack p).test.isNone && (s.pack p).learn.isNone

/-- The registers of a pack that follow its state (R371, R372); a pack set to REPLACE raises a SMART warning (R444). -/
def State.showPack (s : State) (p : PackId) : State :=
  let i := packIx p
  let x := s.pack p
  let r := cellR x.learned (s.packCfg p) (tempBand (s.packTemp p)) (socBand x.socPpm)
  let s := (s.setBit (Fld.PACK_STATUS.QUALIFIED.at i) x.learned.qualified).setBit (Fld.PACK_STATUS.FAILED.at i)
    x.learned.failed
  let s := (s.setBit (Fld.PACK_STATUS.TESTING.at i) x.test.isSome).setBit (Fld.PACK_STATUS.LEARNING.at i) x.learn.isSome
  let s := s.setBit (Fld.PACK_STATUS.CHARGE_PERMIT.at i) (s.chargeEn p)
  let replace := x.learned.failed || (s.packPresent p && decide (s.packHealth p < s.gaugeCfg.replacePct))
  let s := if replace && !s.bit (Fld.PACK_STATUS.REPLACE.at i) then s.smartWarn 0 else s
  let s := s.setBit (Fld.PACK_STATUS.REPLACE.at i) replace
  let s := (s.setFld (Fld.PACK_STATUS.HEALTH.at i) (s.packHealth p)).setFld (Fld.PACK_STATUS.PACK_SERIAL.at i)
    x.learned.serial
  let s := (s.setFld (Fld.NRG_CAP_MAH.at i) x.learned.capMah).setFld (Fld.NRG_CYCLES.X16.at i) x.learned.cyclesX16
  let s := (s.setFld (Fld.NRG_IMPEDANCE.R_SLOW.at i) (r.1 / 1000)).setFld (Fld.NRG_IMPEDANCE.R_FAST.at i) (r.2 / 1000)
  (s.setFld (Fld.NRG_LAST_TEST.at i) x.learned.testedAt).setFld (Fld.NRG_LAST_LEARN.at i) x.learned.learnedAt

/-- The status bits of the gauge that follow its packs (R372). -/
def State.showNrg (s : State) : State :=
  let any := fun (f : Pack → Bool) => f (s.pack .A) || f (s.pack .B)
  let s1 := s.setBit Fld.NRG_STATUS.QUALIFIED_ANY (any (fun x => x.learned.qualified))
  let s2 := s1.setBit Fld.NRG_STATUS.TEST_ACTIVE (any (fun x => x.test.isSome))
  (s2.setBit Fld.NRG_STATUS.LEARN_ACTIVE (any (fun x => x.learn.isSome))).showPack .A |>.showPack .B

/-- E_pack, E, the reserve and what is available computed from the packs as they are (R354, R363). -/
def State.computeEnergy (s : State) : State :=
  let s := s.showNrg
  let ea := s.packEnergyAt .A (s.pack .A).socPpm
  let eb := s.packEnergyAt .B (s.pack .B).socPpm
  let s := (s.setFld (Fld.NRG_PACK_E_J.J.at 0) ea).setFld (Fld.NRG_PACK_E_J.J.at 1) eb
  let s := s.setFld Fld.NRG_E_J.E_J (ea + eb - s.gaugeCfg.overheadJ)
  let s := s.setFld Fld.NRG_RESERVE_J.J s.reserveJ
  (s.setFld Fld.NRG_AVAIL_J.J (s.fld Fld.NRG_E_J.E_J - s.fld Fld.NRG_RESERVE_J.J)).noteUnprot

/-! ### Readings (R351) -/

/-- Whether a current is below C/100 in size, C being the learned capacity: the pack is at rest (R360). -/
def atRest (l : Learned) (ma : Int) : Bool := decide (ma.natAbs * 100 < l.capMah)

/-- Charge moved by the coulomb counter in ppm of the learned capacity. -/
def socAfter (soc cap : Nat) (mC : Int) : Nat :=
  if cap = 0 then soc
  else (max 0 (min 1000000 ((soc : Int) - mC * 1000000 / ((cap : Int) * 3600)))).toNat

/-- One sample of a pack taken in (R351, R353): its registers, the coulomb counter, the charge counted by a learning cycle,
the state of charge: from OCV at rest, else from the counter. -/
def State.takeSample (s : State) (p : PackId) (v : PackSample) : State :=
  let i := packIx p
  let m := s.packCfg p
  let x := s.pack p
  let s := (s.setFld (Fld.NRG_VOLT_MV.MV.at i) v.mv).setFld (Fld.NRG_CURR_MA.at i) (bitsOf 32 v.ma)
  let s := s.setFld (Fld.NRG_TEMP.DECI_C.at i) (bitsOf 16 v.deciC)
  let s := s.setBit (Fld.PACK_STATUS.TEMP_OUT.at i)
    (decide (v.deciC < m.tempMinC * 10) || decide (m.tempMaxC * 10 < v.deciC))
  if !s.packPresent p then s
  else
    let s := s.setFld (Fld.NRG_COULOMB.at i) (bitsOf 64 (signedOf 64 (s.fld (Fld.NRG_COULOMB.at i)) + v.mC))
    let rest := atRest x.learned v.ma
    let soc := if rest ∧ m.cells ≠ 0 then socOfOcv m (v.mv / m.cells) else socAfter x.socPpm x.learned.capMah v.mC
    s.putPack p { x with
      socPpm := soc,
      restSince := if rest then (match x.restSince with
        | some t => some t
        | none => some s.now) else none,
      learn := x.learn.map (fun c => if c.resting then c else { c with mC := c.mC + v.mC }) }

/-! ### PACK_EN, HOLDUP_EN (R349, R355) -/

/-- PACK_EN of a pack as R349 has it outside a self-test: asserted while present and not cut off. -/
def State.restoreEn (s : State) (p : PackId) : State :=
  s.putPack p { s.pack p with en := s.packPresent p && (s.pack p).cut.isNone }

/-- HOLDUP_EN driven. -/
def State.setHoldup (s : State) (b : Bool) : State := s.setBit Fld.NRG_STATUS.HOLDUP_EN b

/-- Whether mains has failed, as accepted (R481). -/
def State.acFail (s : State) : Bool := s.bit Fld.NRG_STATUS.AC_FAIL

/-! ### Self-tests (R356 to R359) -/

/-- A test requested: queued once, or deferred while AC_FAIL_N is asserted (R357). -/
def State.requestTest (s : State) (p : PackId) : State :=
  if s.acFail then
    { s with nrg := { s.nrg with deferred := if s.nrg.deferred.contains p then s.nrg.deferred else s.nrg.deferred ++ [p] } }
  else { s with nrg := { s.nrg with queue := if s.nrg.queue.contains p then s.nrg.queue else s.nrg.queue ++ [p] } }

/-- A pack with its qualification changed; a change makes its block due (R364). -/
def Pack.qualify (x : Pack) (q f : Bool) : Pack :=
  { x with learned := { x.learned with qualified := q, failed := f },
           writeDue := x.writeDue || (x.learned.qualified != q) || (x.learned.failed != f) }

/-- An NRG_CMD that waited for the test of a pack ended (R372). -/
def State.endNrgCmd (s : State) (p : PackId) : State :=
  if s.nrg.cmd = some p then
    (({ s with nrg := { s.nrg with cmd := none } }).setBit Fld.NRG_CMD_STATUS.BUSY false).setBit Fld.NRG_CMD_STATUS.DONE true
  else s

/-- The reported charge starts at its target when a pack becomes qualified, and falls to 0 when it stops counting (R363). -/
def State.socStart (s : State) (p : PackId) : State :=
  let f := Fld.NRG_SOC.PERMILLE.at (packIx p)
  let s := s.computeEnergy
  (s.setFld f (if s.packCounts p then s.socTarget p else 0)).putPack p { s.pack p with socMovedAt := s.now }

/-- A running self-test ended with a result (R356, R358, R359): LOAD_STEP released, or left to a learning load; the other
pack's PACK_EN restored; HOLDUP_EN deasserted unless mains has failed; then the judgement. A CUTOFF counts as a failure. -/
def State.endTest (s : State) (p : PackId) (result : Nat) : State :=
  let x := s.pack p
  let load := match x.learn with
    | some c => !c.resting
    | none => false
  let s := s.putPack p { x with test := none, loadStep := load }
  let s := s.restoreEn (otherPack p)
  let s := if s.acFail then s else s.setHoldup false
  let s := (s.setFld (Fld.PACK_STATUS.TEST_RESULT.at (packIx p)) result).endNrgCmd p
  if result = 6 then s.showNrg
  else
    let y := s.pack p
    let y := { y with learned := { y.learned with testedAt := s.pitch.getD 0 }, firstTest := false }
    if result = 1 then (s.putPack p ({ y with fails := 0 }.qualify true y.learned.failed)).socStart p
    else
      let n := y.fails + 1
      let bad := y.learned.failed || decide (3 ≤ n)
      let s := (s.putPack p ({ y with fails := n }.qualify false bad)).socStart p
      if bad && !y.learned.failed then s.emit .packFailed [packIx p] else s

/-- A running self-test ended at once as ABORTED (R359). -/
def State.abortTest (s : State) (p : PackId) : State := if (s.pack p).test.isSome then s.endTest p 6 else s

/-- A resistance in µΩ from a voltage step in mV and a current step in mA (R356). -/
def stepR (v0 v1 : Nat) (i0 i1 : Int) : Int := ((v0 : Int) - v1) * 1000000 / (i1 - i0)

/-- Whether two quotients differ by no more than 20 % of the larger (R356). -/
def agree20 (a b : Int) : Bool := decide ((a - b).natAbs * 5 ≤ (max a b).natAbs)

/-- A stored value after a measurement: higher ones as measured, lower ones by a quarter of the difference (R358). -/
def cellMove (old new : Nat) : Nat := if old < new then new else old - (old - new) / 4

/-- The learned values of a replacement (R365). -/
def replacementOf (g : GaugeModel) (m : PackModel) (l : Learned) (t : Nat) : Learned :=
  { capMah := m.nominalMah * g.initialDeratePct / 100, cells := [], cyclesX16 := 0, serial := l.serial + 1,
    qualified := false, failed := false, insertedAt := t, testedAt := 0, learnedAt := 0, learnedOnce := false }

/-- A pack taken as a replacement: what it displaces is kept and recorded (R365). -/
def State.replacePack (s : State) (p : PackId) : State :=
  let x := s.pack p
  let l := replacementOf s.gaugeCfg (s.packCfg p) x.learned (s.pitch.getD 0)
  let s := s.putPack p { x with learned := l, displaced := some x.learned, fails := 0, learnTries := 0, writeDue := true,
                                sameBad := false }
  s.emit .packReplaced [packIx p, x.learned.serial, x.learned.capMah, x.learned.cyclesX16]

/-- Whether a measured R_slow lies within 0.70 to 1.43 times a stored one (R365). -/
def near143 (stored meas : Nat) : Bool := decide (stored * 70 ≤ meas * 100) && decide (meas * 100 ≤ stored * 143)

/-- The measured cell of the present bands, where there is one. -/
def State.cellNow (s : State) (p : PackId) (l : Learned) : Option (Nat × Nat) :=
  tget l.cells (5 * tempBand (s.packTemp p) + socBand (s.pack p).socPpm)

/-- The end of a self-test: R_fast and R_slow from its six samples, the replacement check of R365, the conditions of R356 in
their order, and the cell a pass writes (R358). -/
def State.judgeTest (s : State) (p : PackId) (t : TestRun) : State :=
  match t.samples with
  | [(v0, i0), (vf1, if1), (vs1, is1), (v0', i0'), (vf2, if2), (vs2, is2)] =>
    let f1 := stepR v0 vf1 i0 if1
    let f2 := stepR v0' vf2 i0' if2
    let s1 := stepR v0 vs1 i0 is1
    let s2 := stepR v0' vs2 i0' is2
    let fast := ((f1 + f2) / 2).toNat
    let slow := ((s1 + s2) / 2).toNat
    let x := s.pack p
    let s : State := match x.displaced with
      | some d =>
        match s.cellNow p d with
        | some c => s.putPack p { x with sameBad := !near143 c.1 slow }
        | none => s
      | none => s
    let s : State := match s.cellNow p x.learned with
      | some c => if x.firstTest && !near143 c.1 slow then s.replacePack p else s
      | none => s
    let x := s.pack p
    let m := s.packCfg p
    let k := 5 * tempBand (s.packTemp p) + socBand x.socPpm
    let cell := match tget x.learned.cells k with
      | some c => (cellMove c.1 slow, cellMove c.2 fast)
      | none => (slow, fast)
    let l := { x.learned with cells := tput x.learned.cells k cell }
    let trial := { x.learned with cells := tput x.learned.cells k (slow, fast) }
    if (if1 - i0) * 50 < x.learned.capMah then s.endTest p 2
    else if t.lowest * 100 ≤ m.cells * m.cutoffMvCell * 105 then s.endTest p 5
    else if !(agree20 f1 f2 && agree20 s1 s2) then s.endTest p 4
    else if 500000 ≤ x.socPpm ∧ packEnergy m trial s.gaugeCfg.dumpPowerW (s.packTemp p) x.socPpm = 0 then s.endTest p 5
    else (s.putPack p { x with learned := l }).endTest p 1
  | _ => s.endTest p 6

/-! ### Learning (R360 to R362) -/

/-- Whether the conditions of R360 on the packs hold. The spec gives "near full" no value: 95 % (assumption 17). -/
def State.learnReady (s : State) (p : PackId) : Bool :=
  let x := s.pack p
  let o := s.pack (otherPack p)
  let rested := match x.restSince with
    | some t => decide (t + 7200 * sec ≤ s.now)
    | none => false
  s.packPresent p && x.learned.qualified && x.learn.isNone && rested && decide (950000 ≤ x.socPpm) &&
  (o.learned.qualified || (s.packCfg (otherPack p)).chemistry == 0) && o.learn.isNone

/-- A learning cycle begun (R360): CHG_EN falls with it, SOC_start is read, LOAD_STEP asserts. -/
def State.beginLearn (s : State) (p : PackId) : State :=
  let x := s.pack p
  (s.putPack p { x with learn := some ⟨x.socPpm, 0, false⟩, loadStep := x.test.isNone || x.loadStep }).showNrg

/-- A learning cycle ended with a LEARN_RESULT (R361): load released, CHG_EN back. -/
def State.endLearn (s : State) (p : PackId) (result : Nat) : State :=
  let x := s.pack p
  let load := x.test.isSome && x.loadStep
  ((s.putPack p { x with learn := none, loadStep := load }).setFld (Fld.PACK_STATUS.LEARN_RESULT.at (packIx p)) result).showNrg

/-- The capacity after a valid cycle (R362). -/
def capAfter (l : Learned) (nominal measured : Nat) : Nat :=
  let c := if !l.learnedOnce || decide (measured < l.capMah) then measured else l.capMah + (measured - l.capMah) / 4
  min c (nominal * 110 / 100)

/-! ### Calibration blocks (R56, R57, R364) -/

/-- The content of a learned-value block (R364). -/
def learnedContent (l : Learned) : List Nat :=
  [l.capMah, l.cyclesX16, l.serial, if l.qualified then 1 else 0, if l.failed then 1 else 0, l.insertedAt, l.testedAt,
    l.learnedAt, if l.learnedOnce then 1 else 0] ++ l.cells.flatMap (fun c => [c.1, c.2.1, c.2.2])

/-- Impedance cells from a block. -/
def cellsOf : List Nat → Tbl (Nat × Nat)
  | i :: a :: b :: r => (i, a, b) :: cellsOf r
  | _ => []

/-- Learned values from a block. -/
def learnedOf (c : List Nat) : Learned :=
  match c with
  | cap :: cyc :: ser :: q :: f :: ins :: tst :: lrn :: once :: r =>
    { capMah := cap, cells := cellsOf r, cyclesX16 := cyc, serial := ser, qualified := q = 1, failed := f = 1,
      insertedAt := ins, testedAt := tst, learnedAt := lrn, learnedOnce := once = 1 }
  | _ => learnedNone

/-- The first of a pack's two block numbers (R364). -/
def packBlock (p : PackId) : Nat := 10 + 2 * packIx p

/-- The CRC-32C of a calibration block over its sequence, time and content (R56). -/
def calCrc (seq time : Nat) (content : List Nat) : Nat := crc32c (leBytes 8 seq ++ leBytes 8 time ++ content.flatMap (leBytes 8))

/-- A calibration block as the device writes it (R56). -/
def calBlock (seq time : Nat) (content : List Nat) : CalBlock := ⟨true, seq, time, content, calCrc seq time content⟩

/-- Whether a block is valid: its magic and its CRC-32C match (R56). -/
def CalBlock.ok (b : CalBlock) : Bool := b.magicOk && b.crc == calCrc b.seq b.time b.content

/-- The valid block of a set under a number (R56). -/
def calGet (t : Tbl CalBlock) (b : Nat) : Option CalBlock := (tget t b).filter CalBlock.ok

/-- The current block of two: the valid one with the higher sequence (R364). -/
def newerBlock (t : Tbl CalBlock) (b : Nat) : Option CalBlock :=
  match calGet t b, calGet t (b + 1) with
  | some x, some y => if x.seq < y.seq then some y else some x
  | some x, none => some x
  | none, y => y

/-- A pack's learned values from the user set, else from the factory set, else built-in defaults: nominal values of a pack
never learned (R57, R364). -/
def State.learnedFromCal (s : State) (p : PackId) : Learned :=
  match (newerBlock s.cal.user (packBlock p)).orElse (fun _ => newerBlock s.cal.factory (packBlock p)) with
  | some b => learnedOf b.content
  | none => { replacementOf s.gaugeCfg (s.packCfg p) learnedNone 0 with serial := 0 }

/-- Calibration blocks in use (R56): trims, the motor estimates of enabled channels, one of the two blocks of each pack that
the gauge model configures; block 14 is the journal (assumption 18). -/
def State.calInUse (s : State) (t : Tbl CalBlock) : Bool :=
  let fans := ((s.oldImage.bind (·.fans)).getD {}).channelsEn
  (calGet t 0).isSome && (calGet t 1).isSome &&
  (List.range 8).all (fun n => fans / 2 ^ n % 2 == 0 || (calGet t (2 + n)).isSome) &&
  bothPacks.all (fun p => (s.packCfg p).chemistry == 0 || (newerBlock t (packBlock p)).isSome)

/-- CAL_STATUS's valid bits follow the sets (R61). -/
def State.showCal (s : State) : State :=
  let v := (List.range 16).foldl (fun a b => if (calGet s.cal.user b).isSome then a + 2 ^ b else a) 0
  let s := s.setFld Fld.CAL_STATUS.USER_VALID v
  (s.setBit Fld.CAL_STATUS.FACTORY_VALID (s.calInUse s.cal.factory)).setBit Fld.CAL_STATUS.PREVIOUS_VALID
    (s.calInUse s.cal.previous)

/-- The trims of blocks 0 and 1 taken from the user set, else from the factory set, else the built-in defaults (R57, R60): every sample that
follows is taken with them (assumption 18). -/
def State.loadTrims (s : State) : State :=
  let t := (List.range 2).foldl (fun (t : Tbl (List Nat)) b =>
    match (calGet s.cal.user b).orElse (fun _ => calGet s.cal.factory b) with
    | some x => tput t b x.content
    | none => t) []
  { s with cal := { s.cal with trims := t } }

/-- A learned-value write (R364): the older of the pack's two blocks in the user set. -/
def State.writeLearned (s : State) (p : PackId) : State :=
  let b := packBlock p
  let sa := ((calGet s.cal.user b).map (·.seq)).getD 0
  let sb := ((calGet s.cal.user (b + 1)).map (·.seq)).getD 0
  let k := if sa ≤ sb then b else b + 1
  let blk : CalBlock := calBlock (max sa sb + 1) (s.pitch.getD 0) (learnedContent (s.pack p).learned)
  let s := { s with cal := { s.cal with user := tput s.cal.user k blk } }
  (s.putPack p { s.pack p with writeDue := false }).showCal

end Sys2Proof.Machine
end

