-- ==== Sys2Proof/Machine/Calibration.lean ====
section
/-!
DEFINITION. Machine/Calibration.lean: the calibration sets and their commands (R56 to R61).
-/
namespace Sys2Proof.Machine

/-- The digest of a calibration set, as the restore event carries it (R59). -/
def calDigest (t : Tbl CalBlock) : Nat :=
  (Config.sha384 (t.flatMap (fun b => b.1 :: b.2.seq :: b.2.time :: b.2.content))).toNat

/-- Restored values loaded (R60): the trims at once; a learning cycle and a pending write computed from the displaced set are discarded, then
the energy, the dirty limit and the reserve that follows it are recomputed. Motor estimates are read at each channel's next start. -/
def State.loadRestored (s : State) : State :=
  let s := bothPacks.foldl (fun (st : State) p =>
    let x := st.pack p
    let load := x.test.isSome && x.loadStep
    st.putPack p { x with learned := st.learnedFromCal p, learn := none, loadStep := load, writeDue := false }) s
  s.loadTrims.computeEnergy.recomputeLimit.computeEnergy

/-- One step of a restore (R59): 1 the journal entry written; 2 user copied to previous, or for RESTORE_PREVIOUS the two sets exchanged; 3
factory copied to user; 4 the entry cleared; 5 the event with the digests of the displaced and the restored set, and the values loaded. The
entry holds the number of the last step that has completed. -/
def State.restoreStep (s : State) (op : CalOp) (k : Nat) : State :=
  let c := s.cal
  match k, op with
  | 1, _ => { s with cal := { c with journal := some (op, 1) } }
  | 2, .restoreFactory => { s with cal := { c with previous := c.user, journal := some (op, 2) } }
  | 2, .restorePrevious => { s with cal := { c with user := c.previous, previous := c.user, journal := some (op, 2) } }
  | 3, .restoreFactory => { s with cal := { c with user := c.factory, journal := some (op, 3) } }
  | 3, .restorePrevious => { s with cal := { c with journal := some (op, 3) } }
  | 4, _ => { s with cal := { c with journal := none } }
  | _, _ => (s.showCal.emit .calRestored [calDigest c.previous, calDigest c.user]).loadRestored

/-- The steps of a restore after the first `from_` and up to `last` in their order (R59). -/
def State.runRestore (s : State) (op : CalOp) (done last : Nat) : State :=
  (List.range 5).foldl (fun (st : State) i => if done ≤ i ∧ i < last then st.restoreStep op (i + 1) else st) s

/-- CAL_STATUS.ERROR of a command that has ended. -/
def State.calError (s : State) (e : Nat) : State := s.setFld Fld.CAL_STATUS.ERROR e

/-- A restore (R59): all five steps, and it ends. DESIGN CHOICE (assumption 18): while AC_FAIL_N is asserted, how many of its steps are done before
mains returns or the Pegbox die loses power is a free value; with fewer than five the command stays busy, and the return of mains completes it, or
the next start from the journal. -/
def State.restore (s : State) (op : CalOp) : State :=
  let done := if s.acFail then (s.free 3).toNat else 5
  let s := if s.acFail then s.used else s
  let s := s.runRestore op 0 done
  if 5 ≤ done then s.calError 0 else { s.setBit Fld.CAL_STATUS.BUSY true with cal := { s.cal with restoring := some (op, done) } }

/-- Mains is back: a restore that is still under way completes (assumption 18). -/
def State.finishRestore (s : State) : State :=
  match s.cal.restoring with
  | none => s
  | some (op, done) =>
    let s := s.runRestore op done 5
    (({ s with cal := { s.cal with restoring := none } } : State).setBit Fld.CAL_STATUS.BUSY false).calError 0

/-- RESTORE_FACTORY (R59, R61): ignored while a command runs; an invalid factory set gives error 1. -/
def execRestoreFactory (s : State) : Out State :=
  if s.bit Fld.CAL_STATUS.BUSY then .next s
  else if !s.calInUse s.cal.factory then .next (s.calError 1)
  else .next (s.restore .restoreFactory)

/-- RESTORE_PREVIOUS (R59, R61): an invalid previous set gives error 2. -/
def execRestorePrevious (s : State) : Out State :=
  if s.bit Fld.CAL_STATUS.BUSY then .next s
  else if !s.calInUse s.cal.previous then .next (s.calError 2)
  else .next (s.restore .restorePrevious)

/-- FACTORY_COMMIT (R58): the user set becomes the factory set, locked for good; on a locked set only error 3. -/
def execFactoryCommit (s : State) : Out State :=
  if s.bit Fld.CAL_STATUS.BUSY then .next s
  else if s.bit Fld.CAL_STATUS.FACTORY_LOCKED then .next (s.calError 3)
  else
    let s := { s with cal := { s.cal with factory := s.cal.user } }
    .next ((s.showCal.setBit Fld.CAL_STATUS.FACTORY_LOCKED true).calError 0)

end Sys2Proof.Machine
end

