-- ==== Sys2Proof/Machine/IoOps.lean ====
section
/-!
DEFINITION. Machine/IoOps.lean: what host I/O commands share on their way through the device: where a sector lies (R85, R202,
R204), the reads and solves of a read (R180, R195, R214, R215), its end (R142, R267, R268), the end of a write (R147,
R148, R153), Flush (R115), and what a namespace without a key answers (R273).
-/
namespace Sys2Proof.Machine

/-- The array and array LBA of a namespace sector (R85). -/
def State.spot (s : State) (nsid lba : Nat) : Option (ArrayId × Nat) :=
  (s.ns nsid).bind (fun n => (extentLba n.extents lba).map (fun l => (n.array, l)))

/-- The array and array LBA of a sector as a host command sees its namespace (R48, R85). -/
def State.spotAt (s : State) (order nsid lba : Nat) : Option (ArrayId × Nat) :=
  (s.nsAt order nsid).bind (fun n => (extentLba n.extents lba).map (fun l => (n.array, l)))

/-- The copy of an array LBA that the bow buffer serves: one at or above the bow whose previous position has been displaced
(R202, R204). -/
def Arr.bowCopy (r : Arr) (a : Nat) : Option CSec :=
  if r.prev.isSome ∧ r.bow ≤ a then tget r.displaced a else none

/-- A sector of a read set to what is known of it. -/
def State.setRead (s : State) (tag i : Nat) (v : ReadSec) : State :=
  match s.cmd tag with
  | none => s
  | some c => s.putCmd { c with read := tput c.read i v }

/-- A ciphertext found for a sector of a read (R262, R273): an empty sector reads zeros, a LOST one is lost, a data sector
becomes a decryption message, or has no key. -/
def State.readGot (s : State) (c : HostCmd) (i lba : Nat) (x : CSec) (src : CopySrc) : State :=
  match x with
  | .empty => (if src == .cache then s else s.fillClean c.nsid lba .empty).setRead c.tag i (.data 0)
  | .lost => s.setRead c.tag i .lost
  | .data ct ctx ctr gcm =>
    match tget s.cip.keys c.nsid with
    | none => s.setRead c.tag i .noKey
    | some _ =>
      let m : CMsg :=
        { enc := false, tag := c.tag, index := i, cls := c.cls, order := c.order, nsid := c.nsid, lba := lba, ctx := ctx,
          ctr := ctr, text := ct, gcm := gcm, src := src }
      ({ s with cip := { s.cip with waiting := s.cip.waiting ++ [m] } } : State).setRead c.tag i .message

/-- Whether a drive of a member answers: its port is READY. -/
def State.memberUp (s : State) (r : Arr) (m : Nat) : Bool :=
  match (r.mem m).bind (·.port) with
  | some p => s.portState p == 4
  | none => false

/-- Whether every present member of an array answers. -/
def State.arrayUp (s : State) (r : Arr) : Bool :=
  (List.range r.members.length).all (fun m => match r.mem m with
    | some x => (x.state != .active && x.state != .rebuilding) || s.memberUp r m
    | none => true)

/-- Whether a host read does without a member: it failed a read of the command (R180), or its drive is away (R295). -/
def State.avoids (s : State) (c : HostCmd) (r : Arr) (m : Nat) : Bool := c.avoid.contains m || !s.memberUp r m

/-- The reads of a stripe that a command has waiting or outstanding at the ports (R180, R290). -/
def State.readsOut (s : State) (c : HostCmd) (a : ArrayId) (previous : Bool) (stripe : Nat) : List MCmd :=
  s.ports.flatMap (fun p => (p.2.waiting ++ p.2.slots.map (·.2)).filter (fun d =>
    d.owner == McOwner.host c.tag && d.gen == c.gen && d.kind == McKind.read && d.array == a.val && d.previous == previous &&
      d.stripe == stripe))

/-- A read of one unit's row queued for a command, joined to one of the same unit that still waits (R180, R290). -/
def State.askUnit (s : State) (c : HostCmd) (a : ArrayId) (r : Arr) (g : Geom) (pl : Place) (unit : Nat) : State :=
  match r.readPos g pl.stripe unit with
  | none => s
  | some p =>
    match (r.mem p.member).bind (·.port) with
    | none => s
    | some port =>
      let same (d : MCmd) : Bool := d.owner == McOwner.host c.tag && d.kind == McKind.read && d.array == a.val &&
        d.previous == pl.previous && d.stripe == pl.stripe && d.unit == unit
      let q := s.port port
      if q.waiting.any same then
        s.putPort port { q with waiting := q.waiting.map (fun d =>
          if same d then { d with rows := if d.rows.contains pl.row then d.rows else d.rows ++ [pl.row] } else d) }
      else
        s.enqueue port { owner := .host c.tag, gen := c.gen, cls := c.cls, kind := .read, array := a.val,
                         previous := pl.previous, stripe := pl.stripe, unit := unit, rows := [pl.row], attempts := 0,
                         issuedAt := 0, late := false, unknown := false }

/-- The units of a row that a solve for one unit reads (R180): the other data units and P when all of them can be had,
otherwise every unit that can. -/
def solveUnits (g : Geom) (unit : Nat) (bad : List Nat) : List Nat :=
  let others := (List.range g.w).filter (fun u => u ≠ unit ∧ ¬ bad.contains u)
  if bad.all (fun u => u == unit || u == g.k + 1) then others.filter (fun u => u ≠ g.k + 1) else others

/-- Units of a stripe that a command cannot read: missing, on a member it does without, or late: the read of it is past its deadline and
still out (R180, R214). -/
def State.badFor (s : State) (c : HostCmd) (a : ArrayId) (r : Arr) (g : Geom) (pl : Place) : List Nat :=
  let late := ((s.readsOut c a pl.previous pl.stripe).filter (·.late)).map (·.unit)
  (List.range g.w).filter (fun u => late.contains u || (match r.readPos g pl.stripe u with
    | none => true
    | some p => s.avoids c r p.member))

/-- The units that a solve of one sector counts as missing: its own, those it cannot read, and while two are enough those on slow members
(R180, R185). -/
def State.planBad (s : State) (c : HostCmd) (a : ArrayId) (r : Arr) (g : Geom) (pl : Place) : List Nat :=
  let bad := s.badFor c a r g pl
  let bad := if bad.contains pl.unit then bad else pl.unit :: bad
  let slow := (List.range g.w).filter (fun u => !bad.contains u && (match r.readPos g pl.stripe u with
    | some p => ((r.mem p.member).map (·.slow)).getD false
    | none => false))
  bad ++ slow.take (2 - bad.length)

/-- How many units, late or missing, a plan goes without that it would have read (R219): Q counts only where the solve needs it. -/
def lackOf (g : Geom) (unit : Nat) (bad : List Nat) : Nat :=
  if bad.all (fun u => u == unit || u == g.k + 1) then 1 else bad.length

/-- A command's count of units it went without raised (R219). -/
def State.noteLack (s : State) (c : HostCmd) (n : Nat) : State :=
  match s.cmd c.tag with
  | some x => s.putCmd { x with lack := max x.lack n }
  | none => s

/-- Reads of the units of a plan queued for a command (R180, R214). -/
def State.askPlan (s : State) (c : HostCmd) (a : ArrayId) (r : Arr) (g : Geom) (pl : Place) : State :=
  let bad := s.planBad c a r g pl
  let out := (s.readsOut c a pl.previous pl.stripe).filter (fun d => d.rows.contains pl.row)
  let us := (solveUnits g pl.unit bad).filter (fun u => !out.any (fun d => d.unit == u))
  (us.foldl (fun (st : State) u => st.askUnit c a r g pl u) s).noteLack c (lackOf g pl.unit bad)

/-- Reads of the units that solve one sector of a command queued (R180). -/
def State.askSolve (s : State) (c : HostCmd) (i : Nat) (a : ArrayId) (r : Arr) (g : Geom) (pl : Place) : State :=
  (s.askPlan c a r g pl).setRead c.tag i .solve

/-- Whether a class-0 read goes past a slow member at once: SLOW_BYPASS is set and the row solves without it (R215). -/
def State.bypass (s : State) (c : HostCmd) (a : ArrayId) (r : Arr) (g : Geom) (pl : Place) (m : Nat) : Bool :=
  let flag := (s.classAt c.order).flags % 2 == 1
  let slow := ((r.mem m).map (·.slow)).getD false
  c.cls == 0 && flag && slow && decide ((s.badFor c a r g pl).length ≤ 1)

/-- A read's sector begun (R147, R149, R180, R202, R215). -/
def State.beginSector (s : State) (c : HostCmd) (i lba : Nat) : State :=
  match s.line c.nsid lba with
  | some l => (s.readGot c i lba l.newest .cache).withLines
      (tmod s.wc.lines (nsKey c.nsid lba) (fun x => if x.isDirty then x else { x with at_ := s.now }))
  | none =>
    match s.spotAt c.order c.nsid lba with
    | none => s.setRead c.tag i .lost
    | some (a, l) =>
      match s.arr a with
      | none => s.setRead c.tag i .lost
      | some r =>
        match r.bowCopy l with
        | some x => s.readGot c i lba x .cache
        | none =>
          let pl := r.place l
          match r.geom pl.previous with
          | none => s.setRead c.tag i .lost
          | some g =>
            match r.readPos g pl.stripe pl.unit with
            | none => s.askSolve c i a r g pl
            | some p =>
              if s.avoids c r p.member || s.bypass c a r g pl p.member then s.askSolve c i a r g pl
              else (s.askUnit c a r g pl pl.unit).setRead c.tag i .member

/-- A row solved for one sector of a read (R180, R195): the units that the plan does without count as missing. A row that is lost because
more than two of its units are missing or erasures, an erasure among them, is handled as a lost row (R194, cause 2). Erasures met among the
units read are repaired under the stripe lock (R181); DESIGN CHOICE (assumption 31): while an update holds the lock they are left for the next
read. A stripe that awaits its resync scan is scanned first, and the wait is an exclusion (R169, R221). -/
def State.solveSector (s : State) (c : HostCmd) (i lba : Nat) (a : ArrayId) (r : Arr) (g : Geom) (pl : Place)
    (src : CopySrc) : State :=
  let s := if s.awaitsScan r g pl.stripe ∧ s.gateOpen = true then
      (s.resyncStripe a pl.previous pl.stripe).stampCmd (.host c.tag) (fun x => { x with excl := true })
    else s
  let bad := s.planBad c a r g pl
  let s := s.noteLack c (lackOf g pl.unit bad)
  let reads := s.readRow r g pl.stripe pl.row
  let us := reads.mapIdx (fun u x => if bad.contains u then none else x.val?)
  match solveRow g.k us with
  | some fs =>
    let s := s.incFld Fld.PQE_SOLVE_COUNT 1
    let s := s.incFld Fld.PQE_SRC_BYTES ((us.length - (badUnits us).length) * 4096)
    let s := s.readGot c i lba (fullCsec ((fs[pl.unit]?).getD 0)) src
    let asked := solveUnits g pl.unit bad
    let met := reads.mapIdx (fun u x => if u = pl.unit ∨ asked.contains u then x else SecRead.missing)
    if s.gateOpen ∧ (badUnits (reads.map SecRead.val?)).length ≤ 2 ∧ s.stripeBusy a pl.previous pl.stripe = false then
      s.repairCounted a r g pl.stripe pl.row met fs
    else s
  | none =>
    let real := reads.map SecRead.val?
    let erased := reads.any (fun x => match x with
      | .erasure _ => true
      | _ => false)
    let s := if 2 < (badUnits real).length ∧ erased = true ∧ s.gateOpen = true then s.loseCounted a r g pl.stripe pl.row reads 2
      else s
    s.setRead c.tag i .lost

/-- A read's sector taken up again when none of its member commands is out any more. -/
def State.goOnSector (s : State) (c : HostCmd) (i lba : Nat) : State :=
  match tget c.read i, s.spotAt c.order c.nsid lba with
  | some v, some (a, l) =>
    match s.arr a with
    | none => s
    | some r =>
      let pl := r.place l
      match r.geom pl.previous with
      | none => s
      | some g =>
        match v with
        | .member =>
          match r.readPos g pl.stripe pl.unit with
          | none => s.askSolve c i a r g pl
          | some p =>
            if s.avoids c r p.member ∨ (s.badFor c a r g pl).contains pl.unit then s.solveSector c i lba a r g pl .solved
            else
              match (s.readRow r g pl.stripe pl.row)[pl.unit]? with
              | some (.got _ u) => s.readGot c i lba (fullCsec u.full) .member
              | _ => s.askSolve c i a r g pl
        | .solve => s.solveSector c i lba a r g pl .solved
        | .otherSolve => s.solveSector c i lba a r g pl .resolved
        | .otherOriginal =>
          match (s.readRow r g pl.stripe pl.row)[pl.unit]? with
          | some (.got _ u) => s.readGot c i lba (fullCsec u.full) .last
          | _ => s.setRead c.tag i .auth
        | _ => s
  | _, _ => s

/-- Whether a sector of a read still waits for a member command (R180, R214, R216, R217): its own unit's read, or the reads of the units that solve
its row. A late read is waited for no longer, unless more than two units of the row are late or missing, or it is the copy that is left. -/
def State.sectorWaits (s : State) (c : HostCmd) (i lba : Nat) : Bool :=
  match tget c.read i, s.spotAt c.order c.nsid lba with
  | some v, some (a, l) =>
    match s.arr a with
    | none => false
    | some r =>
      let pl := r.place l
      match r.geom pl.previous with
      | none => false
      | some g =>
        let out := s.readsOut c a pl.previous pl.stripe
        let own := out.any (fun d => d.unit == pl.unit)
        let held := out.any (fun d => !d.late) || (!out.isEmpty && decide (2 < (s.badFor c a r g pl).length))
        match v with
        | .member => own && held
        | .solve | .otherSolve => held
        | .otherOriginal => own
        | _ => false
  | _, _ => false

/-- Whether nothing of a read is waiting any more. -/
def readSettled (c : HostCmd) : Bool :=
  c.read.all (fun r => match r.2 with
    | .member | .solve | .otherOriginal | .otherSolve | .message => false
    | _ => true)

/-- The end of a read or Verify whose sectors are all settled (R142, R195, R267, R268, R281): withheld sectors decide the
status, and only sectors that passed are transferred. -/
def State.readFinish (s : State) (tag : Nat) : State :=
  match s.cmd tag with
  | none => s
  | some c =>
    if c.phase != .reading || !readSettled c then s
    else
      let lbas := rangeLbas c.ranges
      let has (p : ReadSec → Bool) : Bool := c.read.any (fun r => p r.2)
      if has (fun v => v == .noKey) then s.collect c (stNsNotReady false) []
      else if has (fun v => v == .auth) then
        let i := ((c.read.find? (fun r => r.2 == ReadSec.auth)).map (·.1)).getD 0
        let lba := (lbas[i]?).getD 0
        let m := match s.spotAt c.order c.nsid lba with
          | some (a, l) => ((s.arr a).bind (fun r => (r.geom (r.place l).previous).bind (fun g =>
              layoutMember g (r.place l).stripe (r.place l).unit))).getD 0
          | none => 0
        (s.collect c stAuthFailed []).emit .authFailedCmd [c.nsid, lba, m]
      else if has (fun v => v == .lost) then s.collect c stLostStripe []
      else if c.kind == .verify then s.collect c stOk []
      else
        s.collect c stOk (c.read.map (fun r => match r.2 with
          | .data p => p
          | _ => 0))

/-- One pass of a Read or Verify (R267, R268): the first pass asks for what it needs; a later one goes on with what its
member commands brought. -/
def State.readPass (s : State) (tag : Nat) : State :=
  match s.cmd tag with
  | none => s
  | some c =>
    let lbas := (rangeLbas c.ranges).mapIdx (fun i l => (i, l))
    if c.phase == .locked then
      let s := s.putCmd { c with phase := .reading, issued := s.now }
      (lbas.foldl (fun (st : State) x => st.beginSector c x.1 x.2) s).readFinish tag
    else if c.phase == .reading && !lbas.any (fun x => s.sectorWaits c x.1 x.2) then
      (lbas.foldl (fun (st : State) x => st.goOnSector c x.1 x.2) s).readFinish tag
    else s

/-! ### Ends of writes and Flush -/

/-- Whether a line of a range still waits to reach the members. -/
def State.rangeDirty (s : State) (nsid : Nat) (rs : List Extent) : Bool :=
  (rangeLbas rs).any (fun lba => match s.line nsid lba with
    | some l => l.isDirty
    | none => false)

/-- Whether a write acknowledged before a Flush was fetched still waits to reach the members (R115). -/
def State.flushWaits (s : State) (c : HostCmd) : Bool :=
  s.wc.lines.any (fun l => (c.nsid == 0xFFFFFFFF || keyNs l.1 == c.nsid) && l.2.isDirty &&
    (decide (l.2.first < c.flushSeq) || l.2.state == .redirtied))

/-- The lines a command placed are acknowledged. -/
def State.ackLines (s : State) (tag : Nat) : State :=
  s.withLines (s.wc.lines.map (fun l => if l.2.owner = some tag then (l.1, { l.2 with owner := none, through := false, under := none })
    else l))

/-- The lines of a command that is abandoned (R137): a sector placed in the write cache, in pair mode in both caches, stays; every other is never
written, so what it replaced stands again. -/
def State.abandonLines (s : State) (tag : Nat) : State :=
  let alone (key : Nat) : Bool := s.mirrored && s.capo.unacked.any (fun i => match i with
    | .sector n x _ _ _ _ => nsKey n x == key
    | _ => false)
  let s' := s.withLines (s.wc.lines.filterMap (fun (l : Nat × WcLine) =>
    if l.2.owner = some tag ∧ alone l.1 = true then
      match l.2.under, l.2.state with
      | some c, .dirty => some (l.1, { l.2 with sec := c, owner := none, through := false, under := none })
      | some c, .redirtied => some (l.1, { l.2 with newer := some c, owner := none, through := false, under := none })
      | none, .redirtied => some (l.1, { l.2 with state := .destaging, newer := none, owner := none, through := false })
      | none, .destaging => some (l.1, { l.2 with owner := none, through := false })
      | _, _ => none
    else some l))
  s'.ackLines tag

/-- A command that begins to wait on stripe updates lowers the class number of those that carry its sectors, and of their member
commands not yet issued (R495). -/
def State.lowerClass (s : State) (c : HostCmd) : State :=
  let hit (u : Update) : Bool := u.sectors.any (fun x => (c.nsid == 0xFFFFFFFF || x.nsid == c.nsid) && x.nsid != 0 &&
    (c.kind == .flush || c.ranges.any (fun e => decide (e.start ≤ x.lba) && decide (x.lba < e.start + e.length))))
  let ids := (s.wc.updates.filter hit).map (·.id)
  let mine (o : McOwner) : Bool := match o with
    | .update i => ids.contains i
    | _ => false
  { s with wc := { s.wc with updates := s.wc.updates.map (fun u => if hit u then { u with cls := min u.cls c.cls } else u) },
           ports := s.ports.map (fun p => (p.1, { p.2 with waiting := p.2.waiting.map (fun d =>
             if mine d.owner then { d with cls := min d.cls c.cls } else d) })) }

/-- A placed write goes on when nothing is awaited any more (R147, R148, R153): a FUA or write-through command to its
destage, any other to the collector. -/
def State.writeReady (s : State) (tag : Nat) : State :=
  match s.cmd tag with
  | none => s
  | some c =>
    if c.phase != .placed || c.dirtyWait || c.mirrorWait then s
    else if (c.fua || c.through) && s.rangeDirty c.nsid c.ranges then
      (s.lowerClass c).putCmd { c with phase := .destageWait }
    else (s.ackLines tag).collect c stOk []

/-- Commands that wait for destage taken up after a stripe update has passed step 8 (R115, R153, R160). -/
def State.destageWake (s : State) : State :=
  s.hfe.cmds.foldl (fun (st : State) c =>
    if c.phase != .destageWait then st
    else if c.kind == .flush then (if st.flushWaits c then st else st.collect c stOk [])
    else if st.rangeDirty c.nsid c.ranges then st
    else (st.ackLines c.tag).collect c stOk []) s

/-- Commands that still needed the cipher end with Namespace Not Ready, DNR 0, and their messages are discarded (R273,
R281); sectors already placed stay. -/
def State.dropMessages (s : State) (gone : Nat → Bool) : State :=
  let c := s.cip
  let hit (m : CMsg) : Bool := gone m.nsid
  let tags := ((c.waiting ++ c.pipes.map (·.2) ++ c.suspended).filter hit).map (·.tag)
  let s := { s with cip := { c with
    waiting := c.waiting.filter (fun m => !hit m), pipes := c.pipes.filter (fun p => !hit p.2),
    suspended := c.suspended.filter (fun m => !hit m) } }
  s.hfe.cmds.foldl (fun (st : State) x =>
    if x.phase != .collected && (tags.contains x.tag || ((x.phase == .entropyWait || x.phase == .markWait) && gone x.nsid)) then
      let st := { st with cip := { st.cip with entropy := st.cip.entropy.filter (· ≠ x.tag),
                                               waiting := st.cip.waiting.filter (fun m => m.tag ≠ x.tag) } }
      (st.ackLines x.tag).collect x (stNsNotReady false) []
    else st) s

/-- Data slots zeroized (R272, R281, R284). -/
def State.dropKeys (s : State) (gone : Nat → Bool) : State :=
  ({ s with cip := { s.cip with keys := s.cip.keys.filter (fun k => !gone k.1) } } : State).dropMessages gone

end Sys2Proof.Machine
end

