-- ==== Sys2Proof/Machine/CipOps.lean ====
section
/-!
DEFINITION. Machine/CipOps.lean: what the commands of the cipher engine, the key unit, the TRNG and the tamper monitors
share: one sector's encryption (R83, R263), nonce counters and marks (R274 to R276), the order of messages (R265, R266),
entropy (R278, R279), key commands (R269 to R272, R284), the tamper response (R281).
-/
namespace Sys2Proof.Machine

/-! ### One sector (R83) -/

/-- The 96-bit IV: NONCE_CTX, then NONCE_CTR, big-endian. -/
def ivOf (ctx ctr : Nat) : Nat := ctx % 2 ^ 32 * 2 ^ 64 + ctr % 2 ^ 64

/-- The additional data of a sector: NSID, four zero bytes, namespace LBA. -/
def aadOf (nsid lba : Nat) : Nat := nsid + 2 ^ 64 * lba

/-- Plaintext to ciphertext, and back. -/
def gcmXor (key ctx ctr text : Nat) : Nat := Nat.xor (text % 2 ^ 32768) (Config.gcmStream key (ivOf ctx ctr)).toNat

/-- The tag of a ciphertext. -/
def gcmTagOf (key ctx ctr nsid lba ct : Nat) : Nat := (Config.gcmTag key (ivOf ctx ctr) (aadOf nsid lba) ct).toNat

/-- The sector that an encryption message gives (R263). -/
def sealSector (key : Nat) (m : CMsg) : CSec :=
  let ct := gcmXor key m.ctx m.ctr m.text
  .data ct m.ctx m.ctr (gcmTagOf key m.ctx m.ctr m.nsid m.lba ct)

/-! ### Entropy (R278, R279) -/

/-- Conditioned blocks that can leave the TRNG: none during the start-up test or in the failed state. -/
def State.pool (s : State) : Nat :=
  if s.bit Fld.CIP_TRNG_STATUS.STARTUP ∨ s.bit Fld.CIP_TRNG_STATUS.FAILED then 0 else s.fld Fld.CIP_TRNG_STATUS.POOL

/-- The pool set, and the READY bits with it. -/
def State.setPool (s : State) (n : Nat) : State :=
  let s := s.setFld Fld.CIP_TRNG_STATUS.POOL n
  (s.setBit Fld.CIP_TRNG_STATUS.READY (decide (0 < s.pool))).setBit Fld.CIP_STATUS.TRNG_READY (decide (0 < s.pool))

/-- One conditioned block taken: a random value of w bits (assumption 4). -/
def State.draw (s : State) : State := s.used.setPool (s.pool - 1)

/-- A waiting Write ends with Entropy Not Ready (R278, R279). -/
def State.entropyFail (s : State) (tag : Nat) : State :=
  let s := { s with cip := { s.cip with entropy := s.cip.entropy.filter (· ≠ tag) } }
  match s.cmd tag with
  | none => s
  | some c => if c.phase == .entropyWait then s.collect c stEntropy [] else s

/-! ### Nonces (R274 to R276) -/

/-- The last counter value a slot may issue lies below this (R276). -/
def nonceEnd : Nat := 2 ^ 64 - 2 ^ 20

/-- The mark of an NSID: 2^20 where nothing has been persisted (R275). -/
def State.mark (s : State) (nsid : Nat) : Nat := (tget s.cip.marks nsid).getD (2 ^ 20)

/-- Blocks of 2^20 that a slot consumed in the preceding second, rounded up, 1 to 128 (R275). -/
def nonceBlocks (used : Nat) : Nat := max 1 (min 128 ((used + (2 ^ 20 - 1)) / 2 ^ 20))

/-- A mark advance begun when fewer than half of the values granted by the last one remain and none is under way; the new
mark goes to the partner while mirrored (R275). -/
def State.advanceMark (s : State) (nsid : Nat) : State :=
  match tget s.cip.keys nsid with
  | none => s
  | some k =>
    let m := s.mark nsid
    let granted := m - (tget s.cip.markOld nsid).getD 0
    if (tget s.cip.markDue nsid).isSome ∨ granted ≤ 2 * (m - k.ctr) then s
    else
      let m' := m + 2 ^ 20 * nonceBlocks k.lastSecond
      ({ s with cip := { s.cip with markDue := tput s.cip.markDue nsid m' } } : State).mirror (.nonceMark nsid m')

/-- A slot's count of values issued brought to the running second (R275). -/
def DataKey.atSecond (k : DataKey) (sec_ : Nat) : DataKey :=
  if k.second = sec_ then k
  else if k.second + 1 = sec_ then { k with second := sec_, lastSecond := k.inSecond, inSecond := 0 }
  else { k with second := sec_, lastSecond := 0, inSecond := 0 }

/-- NONCE_WARN set with a severity-4 event when a counter first passes the threshold (R276). -/
def State.nonceWarn (s : State) (nsid ctr : Nat) : State :=
  if s.fld Fld.CIP_NONCE_WARN < ctr ∧ ¬ s.bit Fld.CIP_STATUS.NONCE_WARN then
    (s.setBit Fld.CIP_STATUS.NONCE_WARN true).emit .nonceWarn [nsid]
  else s

/-- A reserved Write goes to the cipher engine (R263, R276): Key Exhausted where the slot cannot supply its counter values;
it waits for a NONCE_CTX that is not drawn yet, and for the mark that its values lie above; otherwise each sector becomes
an encryption message with its own nonce. -/
def State.encrypt (s : State) (tag : Nat) : State :=
  match s.cmd tag with
  | none => s
  | some c =>
    match tget s.cip.keys c.nsid with
    | none => s.collect c (stNsNotReady false) []
    | some k =>
      let n := c.sectors
      if k.exhausted ∨ nonceEnd < k.ctr + n then
        ({ s with cip := { s.cip with keys := tput s.cip.keys c.nsid { k with exhausted := true } } } : State).collect c
          stKeyExhausted []
      else if k.ctx.isNone ∧ s.pool = 0 then
        if s.bit Fld.CIP_TRNG_STATUS.FAILED then s.collect c stEntropy []
        else
          let q := if s.cip.entropy.contains tag then s.cip.entropy else s.cip.entropy ++ [tag]
          ({ s with cip := { s.cip with entropy := q } } : State).putCmd { c with phase := .entropyWait, outside := true }
      else
        let ctx := (k.ctx).getD (s.free 32).toNat
        let s := if k.ctx.isNone then s.draw else s
        let k := { k with ctx := some ctx }
        if s.mark c.nsid < k.ctr + n then
          let s := { s with cip := { s.cip with keys := tput s.cip.keys c.nsid k } }
          (s.putCmd { c with phase := .markWait }).advanceMark c.nsid
        else
          let k1 := k.atSecond (s.now / sec)
          let k2 := { k1 with ctr := k.ctr + n, inSecond := k1.inSecond + n }
          let msgs := (rangeLbas c.ranges).mapIdx (fun i lba =>
            CMsg.mk true tag i c.cls c.order c.nsid lba ctx (k.ctr + i) ((c.plain[i]?).getD 0) 0 .cache)
          let s := { s with cip := { s.cip with keys := tput s.cip.keys c.nsid k2, waiting := s.cip.waiting ++ msgs } }
          ((s.putCmd { c with phase := .placing, plain := [] }).nonceWarn c.nsid k2.ctr).advanceMark c.nsid

/-! ### Messages on the pipelines (R264 to R266) -/

/-- The oldest message of a class, in the order their commands were fetched, then by sector. -/
def firstOf (l : List CMsg) (cls : Nat) : Option CMsg := (sortOn CMsg.order (l.filter (fun m => m.cls = cls))).head?

/-- The message that starts next on a free pipeline (R265, R266): class 0 first; then a suspended message ahead of those
of its own or a higher class number that have not started; of classes 1 to 3 those that their weights let go (R22, R125), of which `pick` is
preferred. -/
def State.nextMessage (s : State) (pick : Cls) : Option (CMsg × Bool) :=
  let w := s.cip.waiting
  match firstOf w 0 with
  | some m => some (m, false)
  | none =>
    let susp := (sortOn CMsg.cls s.cip.suspended).head?
    let fresh := (wrrNext s.classWeights s.cip.grants (w.map (·.cls)) pick.val).bind (fun c => firstOf w c)
    match susp, fresh with
    | some a, some b => if a.cls ≤ b.cls then some (a, true) else some (b, false)
    | some a, none => some (a, true)
    | none, some b => some (b, false)
    | none, none => none

/-- The pipeline whose message a class-0 message suspends (R266): the highest class number, among equals the one with the
most blocks left, as `remaining` gives them by pipeline. -/
def State.suspendVictim (s : State) (remaining : List Nat) : Option (Nat × CMsg) :=
  (s.cip.pipes.filter (fun p => p.2.cls ≠ 0)).foldl (fun (acc : Option (Nat × CMsg)) p =>
    match acc with
    | none => some p
    | some q =>
      let rp := (remaining[p.1]?).getD 0
      let rq := (remaining[q.1]?).getD 0
      if q.2.cls < p.2.cls ∨ (q.2.cls = p.2.cls ∧ rq < rp) then some p else some q) none

/-- A message put on a pipeline. -/
def State.putPipe (s : State) (pipe : Nat) (m : CMsg) : State :=
  { s with cip := { s.cip with pipes := tput s.cip.pipes pipe m, waiting := s.cip.waiting.erase m } }

/-- CONTEXTS follows the suspended messages (R266, R284). -/
def State.showContexts (s : State) : State := s.setFld Fld.CIP_STATUS.CONTEXTS s.cip.suspended.length

/-! ### Key commands (R269 to R272, R284) -/

/-- A key command ended: DONE, ERROR (R284). -/
def State.keyDone (s : State) (err : Nat) : State :=
  (s.setBit Fld.CIP_KEY_STATUS.DONE true).setFld Fld.CIP_KEY_STATUS.ERROR err

/-- Bytes of CIP_KEY_WINDOW as a number. -/
def State.window (s : State) (lo n : Nat) : Nat := s.fld Fld.CIP_KEY_WINDOW / 256 ^ lo % 256 ^ n

/-- The payload of a blob as KWP wraps it (R270). -/
def blobPayload (p : BlobPlain) : Nat :=
  p.ref % 2 ^ 64 + 2 ^ 64 * (p.ownerGen % 2 ^ 32 + 2 ^ 32 * (p.flags % 2 ^ 32 + 2 ^ 32 * (p.key % 2 ^ 256 + 2 ^ 256 * p.zero)))

/-- The label's KEY_CHECK of a namespace: zero where none has been written (R272). -/
def State.keyCheckOf (s : State) (nsid : Nat) : Nat :=
  ((s.ns nsid).bind (fun n => (s.arr n.array).bind (fun r => tget r.keyChecks nsid))).getD 0

/-- The checks of LOAD_BLOB in order (R272): 0, or the error of the first that fails. -/
def State.blobError (s : State) (plain : BlobPlain) : Nat :=
  let ref := s.window 8 8
  let nsid := ref % 65536
  match s.cip.kek with
  | none => 3
  | some kek =>
    if s.window 0 4 ≠ 0x424B5850 ∨ s.window 4 2 ≠ 1 ∨ nsid = 0 ∨ 1024 < nsid ∨
        (Config.kwpWrap kek (blobPayload plain)).toNat ≠ s.window 16 72 then 4
    else if plain.ref ≠ ref ∨ plain.ownerGen ≠ s.cip.ownerGen ∨ plain.flags ≠ 0 ∨ plain.zero ≠ 0 ∨ s.window 6 2 ≠ 0 then 5
    else if (s.ns nsid).map (·.keyRef) ≠ some ref then 6
    else if ref / 65536 < (tget s.cip.floors nsid).getD 0 then 7
    else if s.keyCheckOf nsid ≠ 0 ∧ s.keyCheckOf nsid ≠ (Config.keyCheck plain.key).toNat then 9
    else 0

/-- A slot made READY (R274, R275): NONCE_CTX from the TRNG where a block is ready; the counter starts at 1 under a new
serial, with the mark at 2^20, and at the mark under a serial already in use. A KEY_CHECK that is zero takes the computed
value, for the next label rewrite (R272). -/
def State.loadKey (s : State) (nsid ref key : Nat) : State :=
  let serial := ref / 65536
  let fresh := tget s.cip.serials nsid ≠ some serial
  let m := if fresh then 2 ^ 20 else s.mark nsid
  let has := decide (0 < s.pool)
  let k : DataKey :=
    { ref := ref, key := key, exhausted := false, ctx := if has then some (s.free 32).toNat else none,
      ctr := if fresh then 1 else m, second := s.now / sec, inSecond := 0, lastSecond := 0 }
  let s := if has then s.draw else s
  let s := { s with cip := { s.cip with
    keys := tput s.cip.keys nsid k, serials := tput s.cip.serials nsid serial, marks := tput s.cip.marks nsid m,
    markOld := tput s.cip.markOld nsid (if fresh then 0 else m), markDue := tdel s.cip.markDue nsid } }
  let s := if fresh then s.mirror (.nonceMark nsid m) else s.advanceMark nsid
  if s.keyCheckOf nsid ≠ 0 then s
  else
    match s.ns nsid with
    | none => s
    | some n =>
      match s.arr n.array with
      | none => s
      | some r => s.putArr n.array { r with keyChecks := tput r.keyChecks nsid (Config.keyCheck key).toNat }

/-- Whether the device is in Tamper Hold (R282). -/
def State.tamperHold (s : State) : Bool := s.bit Fld.CIP_STATUS.TAMPER_HOLD

/-- Every data slot, the KEK, the key cache and the suspend contexts zeroized (R281, R284). -/
def State.zeroize (s : State) : State :=
  let s := (s.dropKeys (fun _ => true)).showContexts
  ({ s with cip := { s.cip with kek := none } } : State).setBit Fld.CIP_STATUS.OWNER_SET false

/-- CIP_TAMPER_CFG written (R282, R284): nothing changes once LOCK is set. -/
def State.tamperCfg (s : State) (v : Nat) : State :=
  if s.bit Fld.CIP_TAMPER_CFG.LOCK then s
  else
    let s := ((s.setFld Fld.CIP_TAMPER_CFG.EXT_EN v).setFld Fld.CIP_TAMPER_CFG.EXT_POL (v / 16)).setFld
      Fld.CIP_TAMPER_CFG.FILTER (v / 256)
    if v / 2 ^ 31 % 2 = 1 then s.setBit Fld.CIP_TAMPER_CFG.LOCK true else s

/-- Whether the device is between a start and the boot ROM's hand-over (R281). -/
def State.startingUp (s : State) : Bool := s.pwr.fast == .booting || s.pwr.fast == .inReset

/-- Tamper Hold entered (R281, R282): the Fingerboard die stays in reset. -/
def State.enterTamperHold (s : State) : State :=
  (({ s with pwr := { s.pwr with fast := .inReset, plls := s.pwr.plls % 16 } } : State).setBit Fld.PWR_STATE.BOOTING false).setBit
    Fld.CIP_STATUS.TAMPER_HOLD true

end Sys2Proof.Machine
end

