-- ==== Sys2Proof/Machine/Mem.lean ====
section
/-!
DEFINITION. Machine/Mem.lean: bytes of HBM as a list of (address, byte) pairs in one canonical form: addresses strictly
rising, no byte that an unlisted address reads as. An unlisted address reads zero (assumption 7).
-/
namespace Sys2Proof.Machine

/-- What an unlisted address of HBM reads as (assumption 7). -/
def memDefault : Byte := 0#8

/-- One byte of memory. -/
def memGet (m : List Host.Cell) (a : Nat) : Byte :=
  match m with
  | [] => memDefault
  | (i, b) :: r => if i = a then b else if a < i then memDefault else memGet r a

/-- One byte of memory written, the canonical form kept. -/
def memSet (m : List Host.Cell) (a : Nat) (b : Byte) : List Host.Cell :=
  match m with
  | [] => if b = memDefault then [] else [(a, b)]
  | (i, c) :: r =>
    if a < i then (if b = memDefault then (i, c) :: r else (a, b) :: (i, c) :: r)
    else if a = i then (if b = memDefault then r else (a, b) :: r)
    else (i, c) :: memSet r a b

/-- The canonical form: addresses strictly rising, no default byte. -/
def memWf : List Host.Cell → Bool
  | [] => true
  | [(_, b)] => b != memDefault
  | (i, b) :: (j, c) :: r => b != memDefault && decide (i < j) && memWf ((j, c) :: r)

/-- Bytes written one after the other from an address. -/
def memSetList (m : List Host.Cell) (a : Nat) (bs : List Nat) : List Host.Cell :=
  match bs with
  | [] => m
  | b :: r => memSetList (memSet m a (BitVec.ofNat 8 b)) (a + 1) r

/-- n bytes from an address, as numbers. -/
def memGetList (m : List Host.Cell) (a n : Nat) : List Nat := (List.range n).map (fun i => (memGet m (a + i)).toNat)

/-- The 128 bytes of a cache line, byte i in bits [8i + 7 : 8i]. -/
def memLine (m : List Host.Cell) (line : Nat) : Blob :=
  (memGetList m (line * 128) 128).foldr (fun b acc => b + 256 * acc) 0

/-- Bytes of a line replaced under a byte mask. -/
def maskBytes (base mask data : Nat) : Blob :=
  ((List.range 128).map (fun i => if mask / 2 ^ i % 2 = 1 then data / 256 ^ i % 256 else base / 256 ^ i % 256)).foldr
    (fun b acc => b + 256 * acc) 0

/-- The masked bytes of a line written to memory. -/
def memMask (m : List Host.Cell) (line mask data : Nat) : List Host.Cell :=
  (List.range 128).foldl (fun m i =>
    if mask / 2 ^ i % 2 = 1 then memSet m (line * 128 + i) (BitVec.ofNat 8 (data / 256 ^ i % 256)) else m) m

end Sys2Proof.Machine
end

