-- ==== Sys2Proof/Machine/ScOps.lean ====
section
/-!
DEFINITION. Machine/ScOps.lean: the stripe cache's own operations: set hash (R225), pseudo-LRU over allowed ways (R224,
R232), lines, eviction structures (R231), reads, writes, fills (R227 to R230) and ownership (R237, R238).
-/
namespace Sys2Proof.Machine

/-- The set of a line number A[36:7]: A[21:7] XOR A[36:22] (R225). -/
def scSet (line : Nat) : Nat := Nat.xor (line % 32768) (line / 32768 % 32768)

/-- The slice of a line (R225). -/
def scSlice (line : Nat) : Nat := scSet line % 8

/-- The stored tag A[36:22] (R225). -/
def scTag (line : Nat) : Nat := line / 32768 % 32768

/-- The line recovered from set and tag: A[21:7] = set XOR tag (R225). -/
def scLineOf (set tag : Nat) : Nat := Nat.xor set tag % 32768 + 32768 * tag

/-- Installed HBM in lines (R469). -/
def State.hbmLines (s : State) : Nat := s.fld Fld.SYS_HBM.STACK_GIB * 2 * 8388608

/-! ### Pseudo-LRU of 16 ways: 15 bits, node 0 the root, bit 0 pointing to the lower half (assumption 12) -/

/-- The way the tree points at among allowed ways; a half without an allowed way is passed over. -/
def plruWalk (depth node lo size bits : Nat) (allowed : List Nat) : Nat :=
  match depth with
  | 0 => lo
  | d + 1 =>
    let half := size / 2
    let lower := allowed.any (fun w => lo ≤ w ∧ w < lo + half)
    let upper := allowed.any (fun w => lo + half ≤ w ∧ w < lo + size)
    let goUp := (bits / 2 ^ node % 2 = 1 ∧ upper) ∨ ¬ lower
    if goUp then plruWalk d (2 * node + 2) (lo + half) half bits allowed
    else plruWalk d (2 * node + 1) lo half bits allowed

/-- The replacement choice among allowed ways (R224). -/
def plruVictim (bits : Nat) (allowed : List Nat) : Nat := plruWalk 4 0 0 16 bits allowed

/-- A bit of a number set to a value. -/
def putBit (v i : Nat) (b : Bool) : Nat :=
  if (v / 2 ^ i % 2 = 1) = b then v else if b then v + 2 ^ i else v - 2 ^ i

/-- The tree after a use of a way (`toward` false), or made to point at it (`toward` true, R230). -/
def plruTouch (depth node lo size bits way : Nat) (toward : Bool) : Nat :=
  match depth with
  | 0 => bits
  | d + 1 =>
    let half := size / 2
    let up := decide (lo + half ≤ way)
    let bits := putBit bits node (up == toward)
    if up then plruTouch d (2 * node + 2) (lo + half) half bits way toward
    else plruTouch d (2 * node + 1) lo half bits way toward

/-! ### Lines -/

/-- The array entry of a line, as 16 × set + way. -/
def Sc.find (c : Sc) (line : Nat) : Option Nat :=
  ((List.range 16).map (fun w => scSet line * 16 + w)).find? (fun k => (tget c.lines k).map (·.line) == some line)

/-- Lines held by a slice's eviction structure. -/
def Sc.evList (c : Sc) (slice : Nat) : List ScLine := (tget c.evict slice).getD []

/-- A line in its slice's eviction structure. -/
def Sc.evFind (c : Sc) (line : Nat) : Option ScLine := (c.evList (scSlice line)).find? (fun e => e.line = line)

/-- A line taken out of its slice's eviction structure. -/
def Sc.evDrop (c : Sc) (line : Nat) : Sc :=
  { c with evict := tput c.evict (scSlice line) ((c.evList (scSlice line)).filter (fun e => e.line ≠ line)) }

/-- The merging-buffer entry of a line. -/
def Sc.entry (c : Sc) (line : Nat) : Option ScEntry := c.merge.find? (fun e => e.line = line)

/-- The bytes of a line as HBM and the merging buffer have them (R227). -/
def Sc.mem (c : Sc) (line : Nat) : Blob :=
  match c.entry line with
  | some e => maskBytes (memLine c.hbm line) e.mask e.data
  | none => memLine c.hbm line

/-- The directory of a line (R237). -/
def Sc.dirOf (c : Sc) (line : Nat) : ScDir := (tget c.dir line).getD ⟨[], none⟩

/-- A 32-byte word of a line. -/
def lineWord (data : Blob) (w : Nat) : Blob := data / 2 ^ (256 * (w % 4)) % 2 ^ 256

/-- A word delivered to a requester (R229). -/
def Sc.deliver (c : Sc) (req line w : Nat) (data : Blob) : Sc :=
  { c with delivered := c.delivered ++ [⟨req, line, w, lineWord data w⟩] }

/-- The stripe cache replaced. -/
def State.withSc (s : State) (c : Sc) : State := { s with sc := c }

/-- Ways set in a mask. -/
def waysOf (mask : Nat) : List Nat := (List.range 16).filter (fun w => mask / 2 ^ w % 2 = 1)

/-- Ways that demand replacement may choose (R232). -/
def State.freeWays (s : State) : List Nat := (List.range 16).filter (fun w => !(waysOf (s.fld Fld.SC_LOCK.WAYS)).contains w)

/-- A replaced line put into its slice's eviction structure: 4 entries, or 32 in the victim cache (R231). -/
def State.evPut (s : State) (l : ScLine) : State :=
  let cap := if s.bit Fld.SC_CTRL.EVICT_PATH then 32 else 4
  let sl := scSlice l.line
  let q := s.sc.evList sl ++ [l]
  s.withSc { s.sc with evict := tput s.sc.evict sl (q.drop (q.length - cap)) }

/-- A line installed among allowed ways: an empty one, else the pseudo-LRU choice, whose line goes to the eviction
structure. The answer says which line was replaced. -/
def State.scInstall (s : State) (l : ScLine) (allowed : List Nat) (asLru : Bool) : State × Option ScLine :=
  let set := scSet l.line
  let empty := allowed.find? (fun w => (tget s.sc.lines (set * 16 + w)).isNone)
  let bits := (tget s.sc.plru set).getD 0
  let way := empty.getD (plruVictim bits allowed)
  let old := tget s.sc.lines (set * 16 + way)
  let s := s.withSc { s.sc with lines := tput s.sc.lines (set * 16 + way) l,
                                plru := tput s.sc.plru set (plruTouch 4 0 0 16 bits way asLru) }
  (match old with
    | some o => s.evPut o
    | none => s, old)

/-- A use of an array entry: it becomes most recently used; a prefetched line's first hit counts (R230). -/
def State.scTouch (s : State) (k : Nat) : State :=
  let set := k / 16
  let bits := (tget s.sc.plru set).getD 0
  let c := { s.sc with plru := tput s.sc.plru set (plruTouch 4 0 0 16 bits (k % 16) false) }
  match tget c.lines k with
  | some l =>
    if l.prefetched then
      (s.withSc { c with lines := tput c.lines k { l with prefetched := false } }).incFld Fld.SC_PF_USED 1
    else s.withSc c
  | none => s.withSc c

/-! ### Requests -/

/-- Whether a requester allocates (R226, R242). -/
def State.scAllocates (s : State) (req : Nat) (write : Bool) : Bool :=
  match s.fld Fld.SC_ALLOC.ALLOC / 4 ^ req % 4 with
  | 1 => true
  | 2 => false
  | _ => if write then req == 1 || req == 2 || req == 4 || req == 6 else req == 0 || req == 1 || req == 2 || req == 6

/-- Whether a requester prefetches (R226, R242). -/
def State.scPrefetches (s : State) (req : Nat) : Bool :=
  s.bit Fld.SC_CTRL.PREFETCH_EN && (req == 0 || req == 1 || req == 6) &&
  s.fld Fld.SC_ALLOC.NO_PREFETCH / 2 ^ req % 2 == 0

/-- The next-line prefetch of an allocating demand miss, with its exceptions (R230). -/
def State.scPrefetch (s : State) (req line : Nat) : State :=
  let n := line + 1
  let out := (s.sc.fills.filter (fun f => f.2.prefetch && scSlice f.1 == scSlice n)).length
  if s.scPrefetches req && (s.sc.find n).isNone && (s.sc.evFind n).isNone && (tget s.sc.fills n).isNone &&
      n / 32 == line / 32 && decide (n < s.hbmLines) && decide (out < 16) then
    (s.withSc { s.sc with fills := tput s.sc.fills n ⟨true, true, false, []⟩ }).incFld Fld.SC_PF_ISSUED 1
  else s

/-- A recall sent to a line's owner, with what waits on it (R237). -/
def State.scRecall (s : State) (line : Nat) (w : List ScWait) : State :=
  s.withSc { s.sc with recalls := tput s.sc.recalls line ((tget s.sc.recalls line).getD [] ++ w) }

/-- A read request accepted by its slice (R226, R229 to R231, R237). -/
def State.scRead (s : State) (req line w : Nat) : State :=
  match (s.sc.dirOf line).owner with
  | some _ => s.scRecall line [.read req line w]
  | none =>
    match s.sc.find line with
    | some k =>
      let s := (s.scTouch k).incFld Fld.SC_HIT 1
      match tget s.sc.lines k with
      | some l => s.withSc (s.sc.deliver req line w l.data)
      | none => s
    | none =>
      match s.sc.evFind line with
      | some l =>
        let s := s.incFld Fld.SC_VICTIM_HIT 1
        let s := if l.prefetched then s.incFld Fld.SC_PF_USED 1 else s
        let s := (s.withSc (s.sc.evDrop line)).scInstall { l with prefetched := false } s.freeWays false
        s.1.withSc (s.1.sc.deliver req line w l.data)
      | none =>
        match tget s.sc.fills line with
        | some f => s.withSc { s.sc with fills := tput s.sc.fills line { f with waiters := f.waiters ++ [(req, w)] } }
        | none =>
          let inst := s.scAllocates req false
          let s := s.incFld Fld.SC_MISS 1
          let s := s.withSc { s.sc with fills := tput s.sc.fills line ⟨inst, false, false, [(req, w)]⟩ }
          if inst then s.scPrefetch req line else s

/-- A write taken by the merging buffer and the line it hits (R226, R227). The slice has 8 entries. -/
def State.scWrite (s : State) (req line mask : Nat) (data : Blob) : State :=
  match (s.sc.dirOf line).owner with
  | some _ => s.scRecall line [.write req line mask data]
  | none =>
    let mine := s.sc.merge.filter (fun e => scSlice e.line = scSlice line)
    if (s.sc.entry line).isNone ∧ 8 ≤ mine.length then
      s.withSc { s.sc with waiting := s.sc.waiting ++ [.write req line mask data] }
    else
      let c := s.sc
      let merge := match c.entry line with
        | some _ => c.merge.map (fun e => if e.line = line then
            { e with data := maskBytes e.data mask data, mask := Nat.lor e.mask mask, writers := e.writers ++ [req] } else e)
        | none => c.merge ++ [⟨line, maskBytes 0 mask data, mask, s.now, [req]⟩]
      let d := c.dirOf line
      let s := s.withSc { c with merge := merge, dir := if d.shared.isEmpty then c.dir else tput c.dir line ⟨[], none⟩ }
      match s.sc.find line with
      | some k =>
        let s := (s.scTouch k).incFld Fld.SC_HIT 1
        s.withSc { s.sc with lines := tmod s.sc.lines k (fun l => { l with data := maskBytes l.data mask data }) }
      | none =>
        match s.sc.evFind line with
        | some _ =>
          let s := s.incFld Fld.SC_VICTIM_HIT 1
          let sl := scSlice line
          s.withSc { s.sc with evict := tput s.sc.evict sl ((s.sc.evList sl).map (fun e =>
            if e.line = line then { e with data := maskBytes e.data mask data } else e)) }
        | none =>
          let s := if (tget s.sc.fills line).isSome then s else s.incFld Fld.SC_MISS 1
          if s.scAllocates req true && (tget s.sc.fills line).isNone then
            s.withSc { s.sc with fills := tput s.sc.fills line ⟨true, false, false, []⟩ }
          else s

/-- An ownership request granted: shared copies elsewhere are invalidated (R237). -/
def State.scGrant (s : State) (pq line : Nat) : State :=
  s.withSc { s.sc with dir := tput s.sc.dir line ⟨[], some pq⟩, retries := tdel s.sc.retries (line * 4 + pq) }

/-- RETRY sent to a P/Q slice (R238). -/
def State.scRetry (s : State) (pq line : Nat) : State :=
  let k := line * 4 + pq
  (s.withSc { s.sc with retries := tput s.sc.retries k ((tget s.sc.retries k).getD 0 + 1) }).incFld Fld.SC_OWN_RETRY 1

/-- The ownership requests of one cycle for one line (R238): a slice with four RETRYs first, else the first in rotating
order; the others are sent RETRY. -/
def State.scOwn (s : State) (pqs : List Nat) (line : Nat) : State :=
  let sl := scSlice line
  let start := (tget s.sc.rotate sl).getD 0
  let order := (List.range 4).map (fun i => (start + i) % 4)
  let want := order.filter (fun p => pqs.contains p)
  let starved := want.filter (fun p => 4 ≤ (tget s.sc.retries (line * 4 + p)).getD 0)
  match starved ++ want with
  | [] => s
  | win :: _ =>
    let s := (want.filter (· ≠ win)).foldl (fun (st : State) p => st.scRetry p line) s
    let s := s.withSc { s.sc with rotate := tput s.sc.rotate sl ((win + 1) % 4) }
    match (s.sc.dirOf line).owner with
    | none => s.scGrant win line
    | some o => if o = win then s.scGrant win line else s.scRecall line [.own win line]

/-- What waited on a slice, taken up. -/
def State.scServe (s : State) (w : ScWait) : State :=
  match w with
  | .read req line word => s.scRead req line word
  | .write req line mask data => s.scWrite req line mask data
  | .own pq line => s.scOwn [pq] line

/-- A merging-buffer entry drained to HBM (R227); writes that waited for an entry of its slice are taken up in order. -/
def State.scDrain (s : State) (line : Nat) : State :=
  match s.sc.entry line with
  | none => s
  | some e =>
    let s := s.withSc { s.sc with merge := s.sc.merge.filter (fun x => x.line ≠ line), acks := s.sc.acks ++ [e],
                                  hbm := memMask s.sc.hbm line e.mask e.data }
    let (mine, rest) := s.sc.waiting.partition (fun w => match w with
      | .write _ l _ _ => scSlice l == scSlice line
      | _ => false)
    mine.foldl (fun (st : State) w => st.scServe w) (s.withSc { s.sc with waiting := rest })

/-- A line removed from the array and the eviction structures (R233). -/
def Sc.remove (c : Sc) (line : Nat) : Sc :=
  let c := c.evDrop line
  match c.find line with
  | some k => { c with lines := tdel c.lines k }
  | none => c

/-- Bytes written to HBM by an agent that the cache snoops (R239): lines touched are invalidated, fills in flight
discarded. -/
def State.snoopWrite (s : State) (addr : Nat) (bs : List Nat) : State :=
  let lines := (List.range ((addr % 128 + bs.length + 127) / 128)).map (· + addr / 128)
  let c := lines.foldl (fun (c : Sc) l =>
    let c := c.remove l
    { c with fills := tmod c.fills l (fun f => { f with discarded := true }) }) s.sc
  s.withSc { c with hbm := memSetList c.hbm addr bs }

/-- The invalidation of R239 begun: lines, locks, preload ways, allocation overrides, eviction structures, buffers and
directory cleared; the range engine stopped; HBM kept. -/
def State.scReset (s : State) : State :=
  let s := s.withSc { s.sc with
    lines := [], plru := [], merge := [], acks := [], waiting := [], evict := [], fills := [], dir := [], recalls := [], retries := [], rotate := [], held := [], maint := none, rangeOp := none }
  let s := (s.setFld Fld.SC_LOCK.WAYS 0).setFld Fld.SC_PRELOAD_WAYS.WAYS 0
  let s := (s.setFld Fld.SC_ALLOC.ALLOC 0).setFld Fld.SC_ALLOC.NO_PREFETCH 0
  let s := (s.setFld Fld.SC_STATUS.LOCKED_WAYS 0).setBit Fld.SC_STATUS.INIT_DONE false
  let s := (s.setBit Fld.SC_RANGE_STATUS.BUSY false).setBit Fld.SC_STATUS.RANGE_BUSY false
  s.setBit Fld.SC_STATUS.MAINT_BUSY false

/-- The range engine stopped before a dump reads HBM: BUSY 0 and DONE 0 (R239). -/
def State.scStopRange (s : State) : State :=
  match s.sc.rangeOp with
  | none => s
  | some _ =>
    let s := s.withSc { s.sc with rangeOp := none }
    ((s.setBit Fld.SC_RANGE_STATUS.BUSY false).setBit Fld.SC_STATUS.RANGE_BUSY false).setBit Fld.SC_RANGE_STATUS.DONE
      false

/-! ### Registers that a range operation guards (R231, R232, R235) -/

/-- A range command refused with a code; DONE and OVERFLOW stay (R235). -/
def State.scRangeErr (s : State) (code : Nat) : State := s.setFld Fld.SC_RANGE_STATUS.ERR_CODE code

/-- SC_LOCK written: ignored with ERR_CODE 1 while a range operation runs; more than 12 bits change nothing and set LOCK_REFUSED. -/
def State.scLock (s : State) (ways : Nat) : State :=
  let n := (waysOf ways).length
  if s.bit Fld.SC_RANGE_STATUS.BUSY then s.scRangeErr 1
  else if 12 < n then s.setBit Fld.SC_STATUS.LOCK_REFUSED true
  else (s.setFld Fld.SC_LOCK.WAYS ways).setFld Fld.SC_STATUS.LOCKED_WAYS n

/-- SC_CTRL.EVICT_PATH written: ignored with ERR_CODE 1 while a range operation runs; a switch empties both structures. -/
def State.scEvictPath (s : State) (path : Bool) : State :=
  if s.bit Fld.SC_CTRL.EVICT_PATH = path then s
  else if s.bit Fld.SC_RANGE_STATUS.BUSY then s.scRangeErr 1
  else (s.withSc { s.sc with evict := [] }).setBit Fld.SC_CTRL.EVICT_PATH path

end Sys2Proof.Machine
end

