-- ==== Sys2Proof/Machine/DmaOps.lean ====
section
/-!
DEFINITION. Machine/DmaOps.lean: what the commands of the DMA engine share: descriptors (R246 to R248), addresses
(R249, R250), windows (R257), triggers (R251, R252), ends of descriptors (R254, R255), halts (R256), disabling (R258).
The engine reads HBM as memory and the merging buffer have it, and its HBM writes invalidate the lines they touch
(assumption 19).
-/
namespace Sys2Proof.Machine

/-- CH_STATUS.STATE of a channel: 0 IDLE, 1 RUNNING, 2 HALTED, 3 STALLED. -/
def State.chState (s : State) (n : Nat) : Nat := s.fld (Fld.CH_STATUS.STATE.at n)

/-- CH_STATUS.STATE set. -/
def State.setChState (s : State) (n v : Nat) : State := s.setFld (Fld.CH_STATUS.STATE.at n) v

/-- The DMA part of the state replaced. -/
def State.withDma (s : State) (d : Dma) : State := { s with dma := d }

/-- A register address shown in a field that starts at bit 6 or bit 12. -/
def State.addrFld (s : State) (f : Field) : Nat := s.fld f * 2 ^ f.lsb

/-- Whether an access to a firmware-owned channel is refused (R243). -/
def dmaOwnedByFw (i : Iface) (n limit : Nat) : Bool := i != .firmware && decide (n < limit)

/-! ### Descriptors (R246 to R248) -/

/-- A descriptor from its 64 bytes. -/
def descOf (bs : List Nat) : Desc :=
  let at_ := fun o n => ofBytes ((bs.drop o).take n)
  { ctrl := at_ 0 4, len := at_ 4 4, src := at_ 8 8, dst := at_ 16 8, next := at_ 24 8, srcCirc := at_ 0x20 1,
    dstCirc := at_ 0x21 1, reservedZero := at_ 0x22 2 == 0 && at_ 0x28 8 == 0 && at_ 0 4 / 65536 == 0,
    status := at_ 0x30 4 }

/-- SRC_WIDTH or DST_WIDTH of a descriptor as its field. -/
def Desc.widthExp (d : Desc) (dst : Bool) : Nat := if dst then d.ctrl / 8 % 8 else d.ctrl % 8
/-- The access width of a side in bytes. -/
def Desc.width (d : Desc) (dst : Bool) : Nat := 2 ^ d.widthExp dst
/-- SRC_FIXED or DST_FIXED. -/
def Desc.fixed (d : Desc) (dst : Bool) : Bool := d.ctrl / (if dst then 128 else 64) % 2 == 1
/-- SRC_SPACE or DST_SPACE. -/
def Desc.space (d : Desc) (dst : Bool) : Nat := d.ctrl / (if dst then 1024 else 256) % 4
/-- A bit of CTRL: 12 CONT, 13 LAST, 14 IRQ, 15 NOTIFY. -/
def Desc.ctl (d : Desc) (bit : Nat) : Bool := d.ctrl / 2 ^ bit % 2 == 1
/-- The ring exponent of a side. -/
def Desc.circ (d : Desc) (dst : Bool) : Nat := if dst then d.dstCirc else d.srcCirc
/-- The start address of a side. -/
def Desc.addr (d : Desc) (dst : Bool) : Nat := if dst then d.dst else d.src

/-- One side's part of the format check of R248. -/
def Desc.sideOk (d : Desc) (dst : Bool) : Bool :=
  d.widthExp dst != 7 && d.space dst != 3 && d.addr dst % d.width dst == 0 &&
  (d.circ dst == 0 || (decide (7 ≤ d.circ dst) && decide (d.circ dst ≤ 30))) &&
  (d.circ dst == 0 || (decide (d.width dst ≤ 2 ^ d.circ dst) && !d.fixed dst))

/-- The format check of R248; a LEN of 0 is outside its field's range (assumption 20). -/
def Desc.formatOk (d : Desc) : Bool :=
  d.reservedZero && d.sideOk false && d.sideOk true && decide (1 ≤ d.len) &&
  d.len % max (d.width false) (d.width true) == 0

/-- The address of the byte at an offset of a side's stream (R249, R250). -/
def Desc.byteAddr (d : Desc) (dst : Bool) (off : Nat) : Nat :=
  let a := d.addr dst
  if d.fixed dst then a + off % d.width dst
  else if d.circ dst = 0 then a + off
  else
    let m := 2 ^ d.circ dst
    a / m * m + (a + off) % m

/-- The range a side's window check covers (R257). -/
def Desc.range (d : Desc) (dst : Bool) : Nat × Nat :=
  let a := d.addr dst
  if d.fixed dst then (a, a + d.width dst)
  else if d.circ dst = 0 then (a, a + d.len)
  else
    let m := 2 ^ d.circ dst
    (a / m * m, a / m * m + m)

/-! ### Windows (R257) -/

/-- Whether a channel may reach a range of a space through one enabled window of its mask, for the uses asked (R257). -/
def State.winAllows (s : State) (n space lo hi : Nat) (rd wr : Bool) : Bool :=
  (List.range 32).any (fun w =>
    decide (s.fld (Fld.CH_WIN_MASK.WINDOWS.at n) / 2 ^ w % 2 = 1) && s.bit (Fld.WIN_CTRL.EN.at w) &&
    s.fld (Fld.WIN_CTRL.SPACE.at w) == space && (!rd || s.bit (Fld.WIN_CTRL.READ.at w)) &&
    (!wr || s.bit (Fld.WIN_CTRL.WRITE.at w)) && decide (s.addrFld (Fld.WIN_BASE.ADDR.at w) ≤ lo) &&
    decide (hi ≤ s.addrFld (Fld.WIN_LIMIT.ADDR.at w)))

/-- Whether a descriptor's sides both pass their window check. -/
def State.windowsOk (s : State) (n : Nat) (d : Desc) : Bool :=
  s.winAllows n (d.space false) (d.range false).1 (d.range false).2 true false &&
  s.winAllows n (d.space true) (d.range true).1 (d.range true).2 false true

/-- The DMA area in bytes: base and end (R244). -/
def State.dmaArea (s : State) : Nat × Nat :=
  let b := s.fld Fld.DMA_AREA_BASE
  (b, b + s.fld Fld.DMA_AREA_SIZE * 2 ^ 20)

/-- WIN_CTRL written (R257, R261): ERR clears on 1; a host-owned window in HBM that is not wholly inside the DMA area stays
off and sets ERR. -/
def State.winCtrl (s : State) (w ctrl : Nat) : State :=
  let s := if ctrl / 32 % 2 = 1 then s.setBit (Fld.WIN_CTRL.ERR.at w) false else s
  let s := s.setFld (Fld.WIN_CTRL.SPACE.at w) (ctrl / 2 % 4)
  let s := (s.setBit (Fld.WIN_CTRL.READ.at w) (decide (ctrl / 8 % 2 = 1))).setBit (Fld.WIN_CTRL.WRITE.at w)
    (decide (ctrl / 16 % 2 = 1))
  if ctrl % 2 = 0 then s.setBit (Fld.WIN_CTRL.EN.at w) false
  else if 8 ≤ w ∧ s.fld (Fld.WIN_CTRL.SPACE.at w) = 0 ∧
      ¬ (s.dmaArea.1 ≤ s.addrFld (Fld.WIN_BASE.ADDR.at w) ∧ s.addrFld (Fld.WIN_LIMIT.ADDR.at w) ≤ s.dmaArea.2) then
    (s.setBit (Fld.WIN_CTRL.EN.at w) false).setBit (Fld.WIN_CTRL.ERR.at w) true
  else s.setBit (Fld.WIN_CTRL.EN.at w) true

/-! ### Memory of the three spaces -/

/-- A byte of HBM as the engine reads it. -/
def State.hbmByte (s : State) (a : Nat) : Nat := s.sc.mem (a / 128) / 256 ^ (a % 128) % 256

/-- Bytes written to a space from an address: HBM with the lines invalidated, or a host port's memory (R244). -/
def State.dmaStore (s : State) (space a : Nat) (bs : List Nat) : State :=
  if space = 0 then s.snoopWrite a bs
  else s.withDma { s.dma with hostWrites := s.dma.hostWrites ++ bs.mapIdx (fun i b => (space - 1, a + i, b)) }

/-- Destination bytes of a descriptor from one stream offset up to another that the spec leaves old or new: each becomes
a free value in HBM (R255, R258; assumption 4). -/
def State.dmaLoose (s : State) (d : Desc) (lo hi : Nat) : State :=
  if d.space true = 0 ∧ lo < hi then
    let v := (s.free (8 * (hi - lo))).toNat
    (List.range (hi - lo)).foldl (fun (st : State) i => st.snoopWrite (d.byteAddr true (lo + i)) [byteOf v i]) s.used
  else s

/-! ### Interrupts -/

/-- A channel's interrupt bit set; a host-owned channel's bit going from 0 to 1 sends a message under DMA_IRQ_CFG, at most
one in 1 µs (R261). -/
def State.dmaIrq (s : State) (n : Nat) : State :=
  let old := s.fld Fld.DMA_IRQ
  if old / 2 ^ n % 2 = 1 then s
  else
    let s := s.setFld Fld.DMA_IRQ (old + 2 ^ n)
    let room := match s.dma.messageAt with
      | none => true
      | some t => decide (t + 1000 ≤ s.now)
    if 64 ≤ n ∧ s.bit Fld.DMA_IRQ_CFG.EN ∧ room = true then
      s.withDma { s.dma with
        messages := s.dma.messages ++ [(s.fld Fld.DMA_IRQ_CFG.PORT, s.fld Fld.DMA_IRQ_CFG.VECTOR)],
        messageAt := some s.now }
    else s

/-- The interrupt of BAD, HALTED and STALLED, where ERR_IE is 1 (R261). -/
def State.dmaErrIrq (s : State) (n : Nat) : State := if s.bit (Fld.CH_CTRL.ERR_IE.at n) then s.dmaIrq n else s

/-! ### Starting, stopping -/

/-- A descriptor that is not fetched yet. -/
def descNone : Desc :=
  { ctrl := 0, len := 0, src := 0, dst := 0, next := 0, srcCirc := 0, dstCirc := 0, reservedZero := true, status := 0 }

/-- A channel's next descriptor started: its fetch begins (R248, R251). -/
def State.dmaBegin (s : State) (n addr : Nat) : State :=
  let s := s.withDma { s.dma with runs := tput s.dma.runs n ⟨.fetch, addr, descNone, 0, 0, []⟩, next := tdel s.dma.next n }
  let s := (s.setChState n 1).setFld (Fld.CH_CUR_DESC.ADDR.at n) (addr / 64)
  (s.setFld (Fld.CH_STATUS.HALT_CODE.at n) 0).setFld (Fld.CH_BYTES.at n) 0

/-- The address a channel's next descriptor is fetched from: what its list came to, else CH_DESC_PTR (R251, R254). -/
def State.dmaNext (s : State) (n : Nat) : Nat := (tget s.dma.next n).getD (s.addrFld (Fld.CH_DESC_PTR.ADDR.at n))

/-- A trigger event (R251, R252): ignored while EN is 0; a START resumes a halted or stalled channel, and any event a
stalled one (R248, R256); otherwise it starts an idle channel and counts on one that is busy. -/
def State.dmaTrigger (s : State) (n : Nat) (start : Bool) : State :=
  if !s.bit (Fld.CH_CTRL.EN.at n) then s
  else
    let st := s.chState n
    if st = 0 then s.dmaBegin n (s.dmaNext n)
    else if st = 3 ∨ (st = 2 ∧ start) then s.dmaBegin n (s.addrFld (Fld.CH_CUR_DESC.ADDR.at n))
    else if s.fld (Fld.CH_STATUS.PENDING.at n) < 255 then s.incFld (Fld.CH_STATUS.PENDING.at n) 1
    else (s.setBit (Fld.CH_STATUS.MISSED.at n) true).satFld (Fld.CH_MISSED_COUNT.at n) 1

/-- After a descriptor: under CONT the next one starts; at the end of a CONT run one pending event is consumed and starts
what comes next, the list again after LAST; otherwise the channel waits in IDLE (R251, R252, R254). -/
def State.dmaAfter (s : State) (n : Nat) (d : Desc) : State :=
  let s := s.withDma { s.dma with runs := tdel s.dma.runs n }
  let s := s.setChState n 0
  let s := if d.ctl 13 then s else s.withDma { s.dma with next := tput s.dma.next n d.next }
  if d.ctl 12 ∧ ¬ d.ctl 13 then s.dmaBegin n d.next
  else if s.fld (Fld.CH_STATUS.PENDING.at n) = 0 then s
  else (s.setFld (Fld.CH_STATUS.PENDING.at n) (s.fld (Fld.CH_STATUS.PENDING.at n) - 1)).dmaBegin n (s.dmaNext n)

/-- The status write-back: BYTES_DONE, DONE_TIME, STATUS, in that order (R254). -/
def State.dmaStatus (s : State) (n addr bytes status : Nat) : State :=
  let sp := s.fld (Fld.CH_CTRL.DESC_SPACE.at n)
  ((s.dmaStore sp (addr + 0x34) (leBytes 4 bytes)).dmaStore sp (addr + 0x38) (leBytes 8 (s.pitch.getD 0))).dmaStore sp
    (addr + 0x30) (leBytes 4 status)

/-- A descriptor marked BAD with a code, after a number of confirmed bytes; the channel goes on (R248, R255). -/
def State.dmaBad (s : State) (n : Nat) (r : DmaRun) (code bytes : Nat) : State :=
  let s := s.dmaStatus n r.addr bytes (2 + code * 4)
  let s := (s.setBit (Fld.CH_STATUS.BAD_SEEN.at n) true).satFld (Fld.CH_BAD_COUNT.at n) 1
  let s := (s.setFld (Fld.CH_BYTES.at n) bytes).dmaErrIrq n
  s.dmaAfter n r.desc

/-- A descriptor completed DONE (R253, R254): status, interrupt, chain events, then what follows. -/
def State.dmaDone (s : State) (n : Nat) (r : DmaRun) : State :=
  let s := s.dmaStatus n r.addr r.desc.len 1
  let s := (s.satFld (Fld.CH_DONE_COUNT.at n) 1).setFld (Fld.CH_BYTES.at n) r.desc.len
  let s := if r.desc.ctl 14 then s.dmaIrq n else s
  let s := if r.desc.ctl 15 then
      (List.range 256).foldl (fun (st : State) (c : Nat) =>
        if st.fld (Fld.CH_CTRL.TRIG.at c) = 3 ∧ st.fld (Fld.CH_CTRL.CHAIN_SRC.at c) = n then st.dmaTrigger c false
        else st) s
    else s
  s.dmaAfter n r.desc

/-- A channel halted with a code (R256). -/
def State.dmaHalted (s : State) (n code : Nat) : State :=
  let s := s.withDma { s.dma with runs := tdel s.dma.runs n }
  ((s.setChState n 2).setFld (Fld.CH_STATUS.HALT_CODE.at n) code).dmaErrIrq n

/-- CH_CTRL.EN written 0 (R258): the channel is dropped at once; what it had written of its descriptor's destination is
old or new, and CH_BYTES is undefined. -/
def State.dmaDrop (s : State) (n : Nat) : State :=
  let s := match tget s.dma.runs n with
    | none => s
    | some r =>
      let s := s.setBit (Fld.CH_STATUS.DISABLED_MIDWAY.at n) true
      let s := if r.phase == DmaPhase.fetch then s else s.dmaLoose r.desc 0 r.put
      (s.setFld (Fld.CH_BYTES.at n) (s.free 64).toNat).used
  let s := s.withDma { s.dma with runs := tdel s.dma.runs n, next := tdel s.dma.next n }
  ((s.setBit (Fld.CH_CTRL.EN.at n) false).setChState n 0).setFld (Fld.CH_STATUS.PENDING.at n) 0

/-- Every channel disabled under R258 (R259: AC_FAIL_N, fatal error). -/
def State.dmaDropAll (s : State) : State := (List.range 256).foldl (fun (st : State) n => st.dmaDrop n) s

/-- A reset of a port's physical function (R259): host-owned channels whose list or running descriptor uses the port are
disabled, host-owned windows on the port are off. -/
def State.dmaPortReset (s : State) (hp : Nat) : State :=
  let uses (st : State) (n : Nat) : Bool :=
    st.fld (Fld.CH_CTRL.DESC_SPACE.at n) == hp + 1 ||
    (match tget st.dma.runs n with
      | some r => r.phase != DmaPhase.fetch && (r.desc.space false == hp + 1 || r.desc.space true == hp + 1)
      | none => false)
  let s := (List.range 192).foldl (fun (st : State) i => if uses st (i + 64) then st.dmaDrop (i + 64) else st) s
  (List.range 24).foldl (fun (st : State) i =>
    if st.fld (Fld.WIN_CTRL.SPACE.at (i + 8)) = hp + 1 then st.setBit (Fld.WIN_CTRL.EN.at (i + 8)) false else st) s

end Sys2Proof.Machine
end

