-- ==== Sys2Proof/Machine/FanOps.lean ====
section
/-!
DEFINITION. Machine/FanOps.lean: what temperature and fans share: the composite temperature (R375), clock steps (R377, R423,
R473, R491), fan configuration and Safe Mode (R381, R382), targets (R383, R384), start sequences and faults (R390 to R393).
-/
namespace Sys2Proof.Machine

/-! ### Temperature and clock steps -/

/-- The composite temperature in 0.1 °C: the highest reading (R375). -/
def State.tjDeci (s : State) : Int :=
  match s.therm.sensors with
  | [] => 0
  | (_, t) :: r => r.foldl (fun m x => max m x.2) t

/-- THERM_STATUS.STATE: 0 NORMAL, 1 HOT, 2 THROTTLE, 3 CRITICAL (R376). -/
def State.thermState (s : State) : Nat := s.fld Fld.THERM_STATUS.STATE

/-- The steps in force: those of R377, R423, R473 and R491 together, with the floor of 8 (R377). -/
def State.clockSteps (s : State) : Nat :=
  min 8 (s.therm.throttle + (if s.therm.avsHold then 1 else 0) + (if s.therm.powerHold then 1 else 0) +
    s.fld Fld.AGE_AVS_STEPS.EXTRA_CLOCK)

/-- THERM_STATUS.CLOCK_STEPS follows the steps. -/
def State.showClock (s : State) : State := s.setFld Fld.THERM_STATUS.CLOCK_STEPS s.clockSteps

/-! ### Fan configuration -/

/-- The fan section of the running image, or its defaults (R381). -/
def State.fanCfg (s : State) : FanSection := if s.safeMode then {} else (s.oldImage.bind (·.fans)).getD {}

/-- The block of a channel in use: of the user set, else of the factory set (R57, R382). -/
def State.fanBlock (s : State) (n : FanId) : Option CalBlock :=
  (calGet s.cal.user (2 + n.val)).orElse (fun _ => calGet s.cal.factory (2 + n.val))

/-- A channel's entry as a start takes it: the image's; in Safe Mode what its calibration block stores (R382). -/
def State.fanImage (s : State) (n : FanId) : FanChannel :=
  if s.safeMode then
    match s.fanBlock n with
    | some b => { polePairs := (b.content[4]?).getD 4, ratedRpm := (b.content[5]?).getD 12000,
                  minRpm := (b.content[6]?).getD 1200 }
    | none => {}
  else (s.fanCfg.channels[n.val]?).getD {}

/-- Whether a channel is enabled: by the image; in Safe Mode by a valid calibration block (R381, R382). -/
def State.fanOn (s : State) (n : FanId) : Bool :=
  if s.safeMode then (s.fanBlock n).isSome else decide (s.fanCfg.channelsEn / 2 ^ n.val % 2 = 1)

/-- The profile in force; an entry that is all zero takes the defaults (R381). In Safe Mode the defaults hold (R382). -/
def State.fanProfile (s : State) : FanProfile :=
  if s.safeMode then {}
  else
    match s.fanCfg.profiles[s.fld Fld.FAN_GLOBAL.PROFILE]? with
    | some p => if p = ⟨0, 0, 0, 0, 0⟩ then {} else p
    | none => {}

/-- STATUS.STATE of a channel (R395). -/
def State.fanState (s : State) (n : FanId) : Nat := s.fld (Fld.FAN_STATUS.STATE.at n.val)

/-- A fan that has nothing learned. -/
def fanReset : Fan :=
  { waited := 0, relearn := false, estimates := [], blockAt := none, turnSince := none, entry := none, advance := 0, angle := 0,
    sector := 0, skips := 0, natural := 0 }

/-- A fan of the state. -/
def State.fan (s : State) (n : FanId) : Fan := (tget s.fans n.val).getD fanReset

/-- The entry in force of a channel: motor parameters take effect at its next start, so a channel that is neither off nor in FAULT keeps those
that its start took (R34). -/
def State.fanCh (s : State) (n : FanId) : FanChannel :=
  if s.fanState n = 0 ∨ s.fanState n = 8 then s.fanImage n else (s.fan n).entry.getD (s.fanImage n)

/-- The state with a fan replaced. -/
def State.putFan (s : State) (n : FanId) (x : Fan) : State := { s with fans := tput s.fans n.val x }

/-! ### Targets (R383, R384) -/

/-- A profile's curve at a temperature in 0.1 °C, as rpm of a rated speed, linear between its points; `add` percent are
added to it, and `cap` percent cap it. -/
def curveRpm (p : FanProfile) (rated : Nat) (t : Int) (add cap : Nat) : Nat :=
  let lo : Int := p.tLowC * 10
  let hi : Int := p.tHighC * 10
  let pct1000 : Nat :=
    if t ≤ lo then p.pctLow * 1000
    else if hi ≤ t then p.pctHigh * 1000
    else p.pctLow * 1000 + (p.pctHigh - p.pctLow) * 1000 * (t - lo).toNat / (hi - lo).toNat
  rated * min (pct1000 + add * 1000) (cap * 1000) / 100000

/-- The speed that a pin's duty cycle in 0.1 % commands (R384). -/
def pinRpm (c : FanChannel) (duty : Nat) : Nat :=
  if duty < 50 then 0
  else if duty < 100 then c.minRpm
  else c.minRpm + (duty - 100) * (c.ratedRpm - c.minRpm) / 900

/-- Whether another channel is in FAULT. -/
def State.otherFault (s : State) (n : FanId) : Bool :=
  (List.finRange 8).any (fun m => m != n && s.fanState m == 8)

/-- A channel's target in rpm: the highest of the terms of R383, raised to MIN_RPM when it is above 0 (R381). -/
def State.fanTarget (s : State) (n : FanId) : Nat :=
  let c := s.fanCh n
  let p := s.fanProfile
  let tj := s.tjDeci
  let curve := curveRpm p c.ratedRpm tj 0 (if s.thermState = 0 then p.steadyCapPct else 100)
  let pinOk := s.bit (Fld.FAN_PIN.VALID.at n.val)
  let pin := pinRpm c (s.fld (Fld.FAN_PIN.DUTY.at n.val))
  let pinEn := decide (s.fanCfg.pinEn / 2 ^ n.val % 2 = 1)
  let host := c.ratedRpm * min 100 (s.fld (Fld.FAN_CTRL.HOST_PCT.at n.val)) / 100
  let src := match s.fld (Fld.FAN_CTRL.SOURCE.at n.val) with
    | 0 => if pinEn && pinOk then pin else curve
    | 1 => curve
    | 2 => if pinOk then pin else curve
    | _ => host
  let hot := if s.thermState = 0 then 0 else c.ratedRpm
  let boost := if s.otherFault n then curveRpm p c.ratedRpm tj s.fanCfg.faultBoostPct 100 else 0
  let t := max (if s.safeMode then curve else src) (max hot boost)
  if 0 < t ∧ t < c.minRpm then c.minRpm else t

/-! ### Sequences -/

/-- FAN_GLOBAL's bits, and RUN_S, follow the channels' states (R394). -/
def State.showFans (s : State) : State :=
  (List.finRange 8).foldl (fun (st : State) n =>
    let x := st.fan n
    let turning := decide (4 ≤ st.fanState n) && decide (st.fanState n ≤ 6)
    let bitSet := fun (v : Nat) (b : Bool) => v - v / 2 ^ n.val % 2 * 2 ^ n.val + (if b then 2 ^ n.val else 0)
    let st := st.setFld Fld.FAN_GLOBAL.RUNNING (bitSet (st.fld Fld.FAN_GLOBAL.RUNNING) turning)
    let st := st.setFld Fld.FAN_GLOBAL.FAULTED (bitSet (st.fld Fld.FAN_GLOBAL.FAULTED) (st.fanState n == 8))
    match x.turnSince, turning with
    | some t, true =>
      let k := (st.now - t) / sec
      (st.incFld (Fld.FAN_RUN_S.at n.val) k).putFan n { x with turnSince := some (t + k * sec) }
    | some t, false => (st.incFld (Fld.FAN_RUN_S.at n.val) ((st.now - t) / sec)).putFan n { x with turnSince := none }
    | none, true => st.putFan n { x with turnSince := some st.now }
    | none, false => st) s

/-- A channel put into a state of R395. -/
def State.setFanState (s : State) (n : FanId) (v : Nat) : State := s.setFld (Fld.FAN_STATUS.STATE.at n.val) v

/-- The phase advance of ADVANCE[] at a speed, in 0.0005° electrical: linear between the points i × RATED_RPM ÷ 15, and ADVANCE[15] above
RATED_RPM (R388). -/
def advanceAt (c : FanChannel) (rpm : Nat) : Nat :=
  let a (i : Nat) : Nat := (c.advance[i]?).getD 0 * 1000
  if c.ratedRpm ≤ rpm then a 15
  else
    let i := rpm * 15 / c.ratedRpm
    let f := rpm * 15 % c.ratedRpm
    (a i * (c.ratedRpm - f) + a (i + 1) * f) / c.ratedRpm

/-- One PWM period of a driven channel (R386, R388, R389). The flux angle of the observer, advanced, is the applied voltage angle of the steady
class; the boost class takes the flux sector between boundaries rotated by the advance. Without the asymmetric shift, a window below 1.0 µs, or a
zero vector in the boost class, is a skipped sample, and the 8th in succession brings the shift into force. Under the shift every period is
shifted, until 16 in succession have both natural windows (assumption 38). -/
def State.pwmPeriod (s : State) (n : FanId) (p : PwmPeriod) : State :=
  let x := s.fan n
  let boost := s.fanState n == 5
  let open2 := decide (1000 ≤ p.w1) && decide (1000 ≤ p.w2) && !(boost && p.zero)
  let x := if boost then { x with sector := (p.flux % 720000 + 720000 - x.advance % 720000) % 720000 / 120000 }
    else { x with angle := (p.flux + x.advance) % 720000 }
  if s.bit (Fld.FAN_STATUS.SHIFTING.at n.val) then
    let s := s.satFld (Fld.FAN_SHIFT_COUNT.at n.val) 1
    let k := if open2 then x.natural + 1 else 0
    if 16 ≤ k then (s.setBit (Fld.FAN_STATUS.SHIFTING.at n.val) false).putFan n { x with natural := 0, skips := 0 }
    else s.putFan n { x with natural := k }
  else if open2 then s.putFan n { x with skips := 0 }
  else
    let s := s.satFld (Fld.FAN_SKIP_COUNT.at n.val) 1
    if 8 ≤ x.skips + 1 then (s.setBit (Fld.FAN_STATUS.SHIFTING.at n.val) true).putFan n { x with skips := 0, natural := 0 }
    else s.putFan n { x with skips := x.skips + 1 }

/-- The PWM periods that a channel in the boost or steady class has run since its last command. -/
def State.pwmRun (s : State) (n : FanId) (run : List PwmPeriod) : State :=
  if s.fanState n = 5 ∨ s.fanState n = 6 then run.foldl (fun (st : State) p => st.pwmPeriod n p) s else s

/-- The nominal estimates of a channel (R382). -/
def nominalEst (c : FanChannel) : List Nat := [c.nomRsMohm, c.nomLsUh, c.nomKeUv, c.nomJ]

/-- The content of a channel's calibration block (R382). -/
def fanContent (c : FanChannel) (est : List Nat) : List Nat := est ++ [c.polePairs, c.ratedRpm, c.minRpm]

/-- A channel's block written to the user set (R57, R382). -/
def State.writeFanBlock (s : State) (n : FanId) (est : List Nat) : State :=
  let k := 2 + n.val
  let seq := ((calGet s.cal.user k).map (·.seq)).getD 0 + 1
  let b : CalBlock := calBlock seq (s.pitch.getD 0) (fanContent (s.fanCh n) est)
  let s := { s with cal := { s.cal with user := tput s.cal.user k b } }
  (s.putFan n { s.fan n with blockAt := some s.now }).showCal

/-- A start sequence begun as a given attempt (R390, R393): the estimates come from the block, or from nominal after RELEARN
or without a block, which the nominal values then seed (R382); a block that is not the user set's is a fallback and recorded (R57). The start takes
the motor parameters as they stand (R34). In Safe Mode a channel without a valid block faults. -/
def State.fanListen (s : State) (n : FanId) (attempt : Nat) : State :=
  if s.safeMode && (s.fanBlock n).isNone then
    (s.setFanState n 8).setFld (Fld.FAN_STATUS.FAULT_CAUSE.at n.val) 4
  else
    let x := s.fan n
    let c := s.fanImage n
    let nom := nominalEst c
    let est := match s.fanBlock n with
      | some b => if x.relearn then nom else b.content.take 4
      | none => nom
    let s := if (calGet s.cal.user (2 + n.val)).isNone then s.emit .calFallback [2 + n.val] else s
    let s := s.putFan n { x with estimates := est, relearn := false, waited := 0, entry := some c, skips := 0, natural := 0 }
    let s := (s.setFanState n 1).setBit (Fld.FAN_STATUS.SHIFTING.at n.val) false
    let s := if (s.fanBlock n).isNone then s.writeFanBlock n nom else s
    s.setFld (Fld.FAN_STATUS.ATTEMPT.at n.val) attempt

/-- Whether a value has moved by 5 % or more (R382). -/
def moved5 (old new : Nat) : Bool := decide (old * 5 ≤ ((old : Int) - new).natAbs * 100)

/-- Estimates refined; the block is written at most once in 24 h, and only for a move of 5 % or more (R382). -/
def State.refineFan (s : State) (n : FanId) (est : List Nat) : State :=
  let x := s.fan n
  let s := s.putFan n { x with estimates := est }
  let old := match s.fanBlock n with
    | some b => b.content.take 4
    | none => []
  let due := match x.blockAt with
    | some t => decide (t + 86400 * sec ≤ s.now)
    | none => true
  if due && (old.length != est.length || (old.zip est).any (fun p => moved5 p.1 p.2)) then s.writeFanBlock n est else s

/-- Targets brought up to date (R383): TARGET; a channel that is off and wanted starts, one with target 0 or not enabled
stops. -/
def State.updateFans (s : State) : State :=
  let s := (List.finRange 8).foldl (fun (st : State) n =>
    let t := if st.fanOn n then st.fanTarget n else 0
    let st := st.setFld (Fld.FAN_TARGET.RPM.at n.val) t
    if st.fanState n = 8 then st
    else if t = 0 then
      ((st.setFanState n 0).setFld (Fld.FAN_STATUS.ATTEMPT.at n.val) 0).setBit (Fld.FAN_STATUS.SHIFTING.at n.val) false
    else if st.fanState n = 0 then st.fanListen n 0
    else st) s
  s.showFans

/-- A channel put into FAULT with its cause (R380, R393). -/
def State.faultFan (s : State) (n : FanId) (cause : Nat) : State :=
  let s := (s.setFanState n 8).setBit (Fld.FAN_STATUS.SHIFTING.at n.val) false
  (s.setFld (Fld.FAN_STATUS.FAULT_CAUSE.at n.val) cause).updateFans

/-- A failed attempt (R393): the switches turn off; after the 4th the channel faults with a severity-5 event, else the retry
waits. -/
def State.failFan (s : State) (n : FanId) (cause : Nat) : State :=
  let s := s.satFld (Fld.FAN_FAIL_COUNT.at n.val) 1
  if 3 ≤ s.fld (Fld.FAN_STATUS.ATTEMPT.at n.val) then (s.faultFan n cause).emit .fanFault [n.val, cause]
  else (s.setFanState n 7).showFans

/-- THERM_STATUS.PIN_LOSS: any channel of PIN_EN without a valid pin (R395). -/
def State.showPinLoss (s : State) : State :=
  s.setBit Fld.THERM_STATUS.PIN_LOSS ((List.finRange 8).any (fun n =>
    decide (s.fanCfg.pinEn / 2 ^ n.val % 2 = 1) && !s.bit (Fld.FAN_PIN.VALID.at n.val)))

/-- The fan channels at a Pegbox start (R383, R390, R393, R395): sources and profile back to their defaults, faults gone, every
wanted channel listening. -/
def State.fansStart (s : State) : State :=
  let s := s.setFld Fld.FAN_GLOBAL.PROFILE (if s.safeMode then 0 else s.fanCfg.activeProfile)
  let s := (List.finRange 8).foldl (fun (st : State) n =>
    let st := (st.setFld (Fld.FAN_CTRL.SOURCE.at n.val) 0).setFld (Fld.FAN_CTRL.HOST_PCT.at n.val) 0
    (st.setFanState n 0).setFld (Fld.FAN_STATUS.FAULT_CAUSE.at n.val) 0) s
  s.updateFans.showPinLoss

end Sys2Proof.Machine
end

