-- ==== Sys2Proof/Machine/UpdOps.lean ====
section
/-!
DEFINITION. Machine/UpdOps.lean: what the write path's commands share: stripe updates step by step (R157 to R160, R495, R496),
fret bits (R161), admission of waiting writes (R152, R153), the mirror's acknowledgements (R148, R318), replay (R167).
-/
namespace Sys2Proof.Machine

/-! ### Updates in flight -/

/-- An update in flight. -/
def State.upd (s : State) (id : Nat) : Option Update := s.wc.updates.find? (fun u => u.id = id)

/-- The state with an update replaced. -/
def State.putUpd (s : State) (u : Update) : State :=
  { s with wc := { s.wc with updates := s.wc.updates.map (fun v => if v.id = u.id then u else v) } }

/-- The array and geometry of an update, where they exist. -/
def State.updGeom (s : State) (u : Update) : Option (Arr × Geom) :=
  (s.arr u.array).bind (fun r => (r.geom u.previous).map (fun g => (r, g)))

/-- The new content of a unit's sector in an update. -/
def updNew (u : Update) (row unit : Nat) : Option Blob :=
  ((updRow u row).find? (fun x => x.unit = unit)).map (fun x => csecFull x.sec)

/-! ### Starting an update (R157 to R159 step 1) -/

/-- Whether a line may be taken by an update (R15): the command that placed it has been completed, or it waits for this destage (FUA, write-through). -/
def State.lineFree (s : State) (l : WcLine) : Bool :=
  match l.owner.bind s.cmd with
  | some c => c.phase == .destageWait || c.phase == .collected
  | none => true

/-- DIRTY lines of a stripe of one epoch that an update may take, with their places. -/
def State.stripeLines (s : State) (a : ArrayId) (r : Arr) (previous : Bool) (stripe : Nat) : List (Nat × Place × WcLine) :=
  s.wc.lines.filterMap (fun kl =>
    if kl.2.state == .dirty && s.lineFree kl.2 then
      match s.spot (keyNs kl.1) (keyLba kl.1) with
      | some (b, x) =>
        let pl := r.place x
        if b = a ∧ pl.previous = previous ∧ pl.stripe = stripe then some (kl.1, pl, kl.2) else none
      | none => none
    else none)

/-- Whether a previous-epoch stripe holds a displaced unit (R202). -/
def Arr.displacedIn (r : Arr) (stripe : Nat) : Bool :=
  match r.prev with
  | none => false
  | some p => r.displaced.any (fun d => decide ((placeIn p true d.1).stripe = stripe))

/-- Whether every data sector of the rows that lines name is among them (R157). -/
def fullRows (g : Geom) (ls : List (Nat × Place × WcLine)) : Bool :=
  ls.all (fun x => decide (((ls.filter (fun y => y.2.1.row = x.2.1.row)).length) = g.k))

/-- Whether a waiting Flush, FUA Write or write-through command names one of the lines (R115, R157). -/
def State.lineWanted (s : State) (key : Nat) (l : WcLine) : Bool :=
  l.through || s.hfe.cmds.any (fun c => c.phase == .destageWait &&
    (if c.kind == .flush then (c.nsid == 0xFFFFFFFF || c.nsid == keyNs key) && decide (l.first < c.flushSeq)
     else c.nsid == keyNs key && c.ranges.any (fun e => decide (e.start ≤ keyLba key) && decide (keyLba key < e.start + e.length))))

/-- Whether everything dirty is destaged now (R157): DESTAGE_ALL, write-through, Rest or Silence entry, ACTIVATE_RESET, a thermal
stop's destage, V above L. -/
def State.destageNow (s : State) : Bool :=
  s.wc.destageAll || s.bit Fld.WC_STATUS.WRITE_THROUGH || !s.pwr.holds.isEmpty || decide (s.limitBytes < s.vaulted)

/-- Whether an update of these lines is due (R157). GATHER_MS holds back only a partial stripe that START_PCT alone starts. -/
def State.destageDue (s : State) (g : Geom) (ls : List (Nat × Place × WcLine)) : Bool :=
  let cfg := s.wcCfg
  let start := decide (s.limitBytes * cfg.startPct < s.vaulted * 100)
  let gathered := fullRows g ls || ls.all (fun x => decide (x.2.2.at_ + cfg.gatherMs * ms ≤ s.now))
  s.destageNow || (start && gathered) || ls.any (fun x => s.lineWanted x.1 x.2.2)

/-- Class numbers of commands that wait on any of the lines (R495). -/
def State.waitClasses (s : State) (ls : List (Nat × Place × WcLine)) : List Nat :=
  (s.hfe.cmds.filter (fun c => c.phase == .destageWait && ls.any (fun x =>
    if c.kind == .flush then (keyNs x.1 == c.nsid || c.nsid == 0xFFFFFFFF) && decide (x.2.2.first < c.flushSeq)
    else keyNs x.1 == c.nsid && c.ranges.any (fun e => decide (e.start ≤ keyLba x.1) && decide (keyLba x.1 < e.start + e.length))))).map (·.cls)

/-- Whether a stripe has its turn among those that are due (R157): one whose every data sector in the updated rows is dirty goes before the others,
and among the others the one with the oldest placement goes first. A stripe that cannot start (its lock is held, it waits for the bow) holds none
back. -/
def State.destageTurn (s : State) (a : ArrayId) (stripe : Nat) : Bool :=
  let groups : List (ArrayId × Bool × Nat) := (s.wc.lines.filterMap (fun kl =>
    if kl.2.state == .dirty && s.lineFree kl.2 then
      (s.spot (keyNs kl.1) (keyLba kl.1)).bind (fun y => (s.arr y.1).map (fun r => (y.1, (r.place y.2).previous, (r.place y.2).stripe)))
    else none)).eraseDups
  let due := groups.filterMap (fun y => (s.arr y.1).bind (fun r => (r.geom y.2.1).bind (fun g =>
    let ls := s.stripeLines y.1 r y.2.1 y.2.2
    if s.destageDue g ls && !s.stripeBusy y.1 y.2.1 y.2.2 && !(y.2.1 && r.displacedIn y.2.2) then
      some (y.1, y.2.2, fullRows g ls, ls.foldl (fun acc x => min acc x.2.2.seq) s.wc.nextSeq)
    else none)))
  match due.find? (fun y => y.1 == a && y.2.1 == stripe) with
  | none => true
  | some me => me.2.2.1 || due.all (fun y => !y.2.2.1 && decide (me.2.2.2 ≤ y.2.2.2))

/-- Step 1 of R159 on the lines of a stripe: the lock (one update for each stripe), the sectors DESTAGING, the class fixed
(R495), and the reads of step 2 queued. -/
def State.beginUpdate (s : State) (a : ArrayId) (r : Arr) (g : Geom) (previous : Bool) (stripe : Nat)
    (ls : List (Nat × Place × WcLine)) : State :=
  let rows := (ls.map (fun x => x.2.1.row)).eraseDups
  let cls := ((ls.map (fun x => x.2.2.cls)) ++ s.waitClasses ls).foldl min 3
  let u : Update :=
    { id := s.wc.nextUpd, array := a, stripe := stripe, previous := previous, rows := rows,
      sectors := ls.map (fun x => ⟨keyNs x.1, keyLba x.1, x.2.1.unit, x.2.1.row, x.2.2.sec⟩), step := 2, read := [],
      cls := cls, partnerWait := false, pq := [], lostRows := [] }
  let keys := ls.map (fun x => x.1)
  let w := s.wc
  let s := { s with wc := { w with
    updates := w.updates ++ [u], nextUpd := w.nextUpd + 1,
    lines := w.lines.map (fun (l : Nat × WcLine) => if keys.contains l.1 then (l.1, { l.2 with state := .destaging }) else l) } }
  s.updReads u r g

/-- An update of a stripe begun where one may begin and `due` holds of its dirty lines (R157, R159, R202, R311). A stripe whose
previous-epoch place holds a displaced unit waits for the bow. -/
def State.startUpdate (s : State) (a : ArrayId) (stripe : Nat) (due : State → Geom → List (Nat × Place × WcLine) → Bool) : State :=
  match s.arr a with
  | none => s
  | some r =>
    let cur := s.stripeLines a r false stripe
    let prev := s.stripeLines a r true stripe
    let old := cur.isEmpty
    let ls := if old then prev else cur
    match r.geom old with
    | none => s
    | some g =>
      if ls.isEmpty || s.acFail || !s.gateOpen || s.pwr.fast != .running || s.bit Fld.HFE_STATUS.REPLAY_PENDING ||
          s.wc.updates.any (fun u => u.array == a && u.stripe == stripe && u.previous == old) ||
          (old && r.displacedIn stripe) || !due s g ls then s
      else s.beginUpdate a r g old stripe ls

/-! ### Steps 2 and 3 (R158, R159) -/

/-- What steps 2 and 3 give for a row: the copies read, P and Q with G', and whether a solve was needed; none for a row that is
lost (R496). -/
def State.rowCompute (s : State) (r : Arr) (g : Geom) (u : Update) (row : Nat) : Option (List RowUnit × List RowUnit × Bool) :=
  let changed := (updRow u row).map (·.unit)
  let reads := s.readRow r g u.stripe row
  let us := reads.map SecRead.val?
  let rmw := s.rmwRow r g u.stripe row changed
  let need := rowReads g.k changed rmw
  let gen := nextGen (rowGen g.k us)
  let old (v : Nat) : Blob := (((us[v]?).join).map (·.full)).getD 0
  let news (v : Nat) : Blob := (updNew u row v).getD 0
  let out (rd : List RowUnit) (p q : Blob) (solved : Bool) : List RowUnit × List RowUnit × Bool :=
    (rd, [⟨row, g.k, p, gen⟩, ⟨row, g.k + 1, q, gen⟩], solved)
  let copies (vs : List Nat) : List RowUnit := vs.filterMap (fun v => ((us[v]?).join).map (fun x => ⟨row, v, x.full, x.gen⟩))
  if 2 < (r.missingUnits g u.stripe).length then none
  else if need.all (fun v => ((us[v]?).join).isSome) then
    if changed.length ≠ g.k ∧ rmw = true then
      let ds := (List.range g.k).map (fun v => if changed.contains v then Nat.xor (old v) (news v) else 0)
      some (out (copies need) (Nat.xor (old g.k) (rowP ds)) (Nat.xor (old (g.k + 1)) (rowQ ds)) false)
    else
      let ds := (List.range g.k).map (fun v => if changed.contains v then news v else old v)
      some (out (copies need) (rowP ds) (rowQ ds) false)
  else
    match solveRow g.k us with
    | none => none
    | some fs =>
      let ds := (List.range g.k).map (fun v => if changed.contains v then news v else (fs[v]?).getD 0)
      some (out (copies (List.range g.w)) (rowP ds) (rowQ ds) true)

/-- Steps 2 and 3 of an update whose reads are done. -/
def State.computeUpdate (s : State) (r : Arr) (g : Geom) (u : Update) : State :=
  let res := u.rows.map (fun row => (row, s.rowCompute r g u row))
  let good := res.filterMap (fun x => x.2)
  let lost := (res.filter (fun x => x.2.isNone)).map (fun x => x.1)
  let s := s.putUpd { u with step := 3, read := good.flatMap (fun x => x.1), pq := good.flatMap (fun x => x.2.1), lostRows := lost }
  let s := s.incFld Fld.PQE_SOLVE_COUNT ((good.filter (fun x => x.2.2)).length)
  s.incFld Fld.PQE_SRC_BYTES (((good.flatMap (fun x => x.1)).length + u.sectors.length) * 4096)

/-! ### Steps 4 and 5 (R159 to R161) -/

/-- Whether the partner has still to acknowledge an item. -/
def State.unackedBy (s : State) (p : MirrorItem → Bool) : Bool := s.mirrored && s.capo.unacked.any p

/-- Writes of step 6 queued: every unit with a changed sector and a position. -/
def State.issueData (s : State) (u : Update) : State :=
  match s.updGeom u with
  | none => s
  | some (r, g) =>
    s.updWrites u r g ((List.range g.k).map (fun v => (v, (u.sectors.filter (fun x => x.unit = v)).map (·.row))))

/-- Step 5 ends once every bit is set, here and at the partner; step 6 begins (R159). -/
def State.fretReady (s : State) (id : Nat) : State :=
  match s.upd id with
  | none => s
  | some u =>
    let bits := s.updBits u
    if u.step = 5 ∧ bits.all (fun b => s.wc.fret.contains b ∧ ¬ (s.wc.fretOps.any (fun o => o.bit = b))) then
      if s.unackedBy (fun i => match i with
          | .fretSet b => bits.contains b
          | _ => false) then s.putUpd { u with partnerWait := true }
      else
        let v := { u with step := 6, partnerWait := false }
        (s.putUpd v).issueData v
    else s

/-- A set of a fret bit issued for an update, unless it is set or an operation on it is in flight (R161). -/
def State.issueSet (s : State) (id b : Nat) : State :=
  if s.wc.fretOps.any (fun o => o.bit = b) ∨ s.wc.fret.contains b then s
  else
    ({ s with wc := { s.wc with fretOps := s.wc.fretOps ++ [⟨b, true, some id⟩] } } : State).mirror (.fretSet b)

/-- Step 5 begun: every region's in-flight count goes up and its bit is set where it is clear; an update that finds a clear in
flight waits for that clear's acknowledgement (R161). -/
def State.beginFret (s : State) (id : Nat) : State :=
  match s.upd id with
  | none => s
  | some u =>
    let bits := s.updBits u
    let s := s.putUpd { u with step := 5, partnerWait := false }
    let s := { s with wc := { s.wc with
      counts := bits.foldl (fun t b => tput t b ((tget t b).getD 0 + 1)) s.wc.counts } }
    (bits.foldl (fun (st : State) b => st.issueSet id b) s).fretReady id

/-! ### Steps 6 to 8 (R159, R496) -/

/-- A unit's sector written at its position; `target`: at its rebuild target where it has no position (R190, R496). -/
def State.putUnit (s : State) (r : Arr) (g : Geom) (stripe unit row : Nat) (full : Blob) (gen : Nat) (lost empty target : Bool) :
    State :=
  match (r.readPos g stripe unit).orElse (fun _ => if target then r.target g stripe unit else none) with
  | none => s
  | some p => s.writeSec r g stripe unit row p full gen lost empty

/-- Whether a unit's sector has a position or a rebuild target. -/
def Arr.placed (r : Arr) (g : Geom) (stripe unit : Nat) : Bool :=
  ((r.readPos g stripe unit).orElse (fun _ => r.target g stripe unit)).isSome

/-- Whether the sector that an update is about to write was LOST: by its tag, or as its row solves (R196). -/
def State.wasLost (s : State) (r : Arr) (g : Geom) (stripe row unit : Nat) : Bool :=
  match s.readSec r g stripe unit row with
  | .got _ x => x.lost
  | _ =>
    match solveRow g.k ((s.readRow r g stripe row).map SecRead.val?) with
    | some fs => fullCtr ((fs[unit]?).getD 0) == lostCtr
    | none => false

/-- LOST_LEFT falls for a listed sector whose LOST the write clears (R196). -/
def State.clearLost (s : State) (a : ArrayId) (r : Arr) (g : Geom) (stripe row unit : Nat) (new : CSec) : State :=
  if new != .lost && s.wasLost r g stripe row unit then s.lostCleared a g.epoch stripe row unit else s

/-- The generation G' that an update gives a row (R159 steps 2 and 3). -/
def updGenOf (u : Update) (row : Nat) : Nat := ((u.pq.find? (fun x => x.row = row)).map (·.gen)).getD 1

/-- One changed data sector of an update with its tag on its member (R159 step 6). -/
def State.writeNew6 (s : State) (r : Arr) (g : Geom) (u : Update) (x : UpdSector) : State :=
  (s.clearLost u.array r g u.stripe x.row x.unit x.sec).putUnit r g u.stripe x.unit x.row (csecFull x.sec) (updGenOf u x.row)
    (x.sec == .lost) (x.sec == .empty) (u.lostRows.contains x.row)

/-- Step 6 on a row that is not lost. -/
def State.writeRow (s : State) (r : Arr) (g : Geom) (u : Update) (row : Nat) : State :=
  (updRow u row).foldl (fun (st : State) x => st.writeNew6 r g u x) s

/-- A sector of an update that has no position leaves the cache, but for the newer copy of a REDIRTIED one, and is reported with
cause 0x01 (R171, R496). -/
def State.dropCarried (s : State) (x : UpdSector) : State :=
  let s := s.deferError x.nsid 0x01 x.lba 1
  let key := nsKey x.nsid x.lba
  match tget s.wc.lines key with
  | none => s
  | some l =>
    match l.newer with
    | some c => s.withLines (tput s.wc.lines key { l with state := .dirty, sec := c, newer := none })
    | none => s.withLines (tdel s.wc.lines key)

/-- Step 6 on a row with more than two units missing or erasures (R496): new sectors are known and written where they have a
position or a target; every other unknown one becomes LOST; P and Q take a LOST sector and one without a position as LOST; the
row is listed with cause 5 and its losses are reported. -/
def State.writeLostRow (s : State) (r : Arr) (g : Geom) (u : Update) (row : Nat) : State :=
  let us := (s.readRow r g u.stripe row).map SecRead.val?
  let gen := ((u.pq.find? (fun x => x.row = row)).map (·.gen)).getD (nextGen (rowGen g.k us))
  let placed (v : Nat) : Bool := r.placed g u.stripe v
  let known (v : Nat) : Option Blob :=
    (updNew u row v).orElse (fun _ => (((us[v]?).join).map (·.full)).orElse (fun _ =>
      (u.read.find? (fun x => x.row = row ∧ x.unit = v)).map (·.full)))
  let kept (v : Nat) : Bool := (known v).isSome && placed v
  let gone := (List.range g.k).filter (fun v => !kept v)
  let ds := (List.range g.k).map (fun v => if kept v then (known v).getD 0 else lostFull)
  let news := updRow u row
  let s := (news.filter (fun x => placed x.unit)).foldl (fun (st : State) x =>
    (st.clearLost u.array r g u.stripe row x.unit x.sec).putUnit r g u.stripe x.unit row (csecFull x.sec) gen (x.sec == .lost)
      (x.sec == .empty) true) s
  let s := gone.foldl (fun (st : State) v => st.putUnit r g u.stripe v row lostFull gen true false true) s
  let mask := gone.foldl (fun acc v => acc + 2 ^ v) 0
  let s := (s.listLost ⟨u.array, 0, 5, g.epoch, u.stripe, row, row, mask, 1, gone.length⟩).mirror (.lost u.array g.epoch u.stripe row mask 5)
  let s := gone.foldl (fun (st : State) v =>
    match news.find? (fun x => x.unit = v) with
    | some x => st.dropCarried x
    | none => st.reportLost u.array (arrayLba g u.stripe v row)) s
  let v := (s.upd u.id).getD u
  s.putUpd { v with pq := v.pq.filter (fun x => x.row ≠ row) ++ [⟨row, g.k, rowP ds, gen⟩, ⟨row, g.k + 1, rowQ ds, gen⟩],
                    lostRows := if v.lostRows.contains row then v.lostRows else v.lostRows ++ [row] }

/-- Step 6 of an update whose writes are durable: each row on the members, lost ones under R496. -/
def State.writeData6 (s : State) (r : Arr) (g : Geom) (u : Update) : State :=
  u.rows.foldl (fun (st : State) row =>
    if u.lostRows.contains row ∨ 2 < (r.missingUnits g u.stripe).length then st.writeLostRow r g u row else st.writeRow r g u row) s

/-- Writes of step 7 queued. -/
def State.issueParity (s : State) (u : Update) : State :=
  match s.updGeom u with
  | none => s
  | some (r, g) => s.updWrites u r g [(g.k, u.rows), (g.k + 1, u.rows)]

/-- Whether a row of a stripe holds no data, so that its P and Q are empty (R78). -/
def State.rowIsEmpty (s : State) (r : Arr) (g : Geom) (stripe row : Nat) : Bool :=
  (((s.readRow r g stripe row).map SecRead.val?).take g.k).all (fun x => match x with
    | some v => fullCtr v.full == 0
    | none => true)

/-- One sector of P or Q of an update with its tag on its member (R159 step 7). -/
def State.writePq (s : State) (r : Arr) (g : Geom) (u : Update) (x : RowUnit) : State :=
  s.putUnit r g u.stripe x.unit x.row x.full x.gen false (x.full == 0 && s.rowIsEmpty r g u.stripe x.row) (u.lostRows.contains x.row)

/-- Step 7 of an update whose parity writes are durable: every sector of P and Q with its tag on its member. -/
def State.writeParity7 (s : State) (r : Arr) (g : Geom) (u : Update) : State := u.pq.foldl (fun (st : State) x => st.writePq r g u x) s

/-- Sectors of an update whose data a member has reported durable, before the tag sector follows: the new content stands under the old tag (R81,
R159). An empty tag still makes the sector empty (R78). -/
def State.dataWritten (s : State) (port : PortId) (id : Nat) (c : MCmd) : State :=
  match s.upd id with
  | none => s
  | some u =>
    match s.updGeom u with
    | none => s
    | some (r, g) =>
      match updRows r g u c.unit c.rows with
      | none => s
      | some (p, rows) =>
        let new (row : Nat) : Option Blob := if c.unit < g.k then updNew u row c.unit
          else (u.pq.find? (fun x => x.row = row ∧ x.unit = c.unit)).map (·.full)
        let m := s.mediaOf port
        let put (t : Tbl MSec) (row : Nat) : Tbl MSec := match new row with
          | some f => tmod t (physSector (p.sector + row)) (fun (x : MSec) => { x with data := fullData f, bad := false })
          | none => t
        s.putMedia port { m with secs := rows.foldl put m.secs }

/-- The tags of an update's sectors in one group durable (R81, R159): sectors and tags stand. -/
def State.tagsWritten (s : State) (id : Nat) (c : MCmd) : State :=
  match s.upd id with
  | none => s
  | some u =>
    match s.updGeom u with
    | none => s
    | some (r, g) =>
      if c.unit < g.k then
        (u.sectors.filter (fun x => x.unit = c.unit ∧ c.rows.contains x.row)).foldl (fun (st : State) x => st.writeNew6 r g u x) s
      else (u.pq.filter (fun x => x.unit = c.unit ∧ c.rows.contains x.row)).foldl (fun (st : State) x => st.writePq r g u x) s

/-- A cached sector after its update has passed step 8 (R149, R150). -/
def settledLine (l : WcLine) : WcLine :=
  match l.state with
  | .destaging => { l with state := .clean }
  | .redirtied => { l with state := .dirty, sec := l.newest, newer := none }
  | _ => l

/-- Step 8 (R159): sectors CLEAN, a REDIRTIED one DIRTY; the lock released, the counts down; then what waits goes on. -/
def State.finishUpdate (s : State) (u : Update) : State :=
  let keys := (u.sectors.filter (fun x => x.nsid ≠ 0)).map (fun x => nsKey x.nsid x.lba)
  let bits := s.updBits u
  let done := u.sectors.map (fun x => (x.nsid, x.lba, ((tget s.wc.lines (nsKey x.nsid x.lba)).map (·.seq)).getD 0))
  let w := s.wc
  let s := { s with wc := { w with
    lines := w.lines.map (fun (l : Nat × WcLine) => if keys.contains l.1 then (l.1, settledLine l.2) else l),
    updates := w.updates.filter (fun v => v.id ≠ u.id),
    counts := lowerCounts bits w.counts } }
  let s := (s.incFld Fld.WC_UPDATE_COUNT 1).mirror (.updateDone u.id done)
  let s := if s.wc.lines.all (fun l => !l.2.isDirty) then { s with wc := { s.wc with destageAll := false } } else s
  s.noteLimit.destageWake

/-! ### Admission (R152, R153) -/

/-- The sectors of a Write Zeroes or Deallocate placed as empty markers (R78, R147). -/
def State.placeEmpty (s : State) (c : HostCmd) : State :=
  let s := s.putCmd { c with phase := .placing }
  ((rangeLbas c.ranges).foldl (fun (st : State) lba => st.place c.nsid lba .empty c.cls c.through (some c.tag)) s).noteLimit

/-- A command that has its reservation places its sectors: a Write through the cipher engine, the others at once (R262). -/
def State.goPlace (s : State) (tag : Nat) : State :=
  match s.cmd tag with
  | none => s
  | some c => if c.kind == .write then s.encrypt tag else s.placeEmpty c

/-- A command asks for its reservation behind those that wait (R152, R153). -/
def State.reserve (s : State) (c : HostCmd) : State :=
  if s.bit Fld.WC_STATUS.WRITE_THROUGH then
    let c := { c with through := true, outside := true }
    if (s.limitQueue .throughWait).isEmpty && s.throughFits c then (s.putCmd { c with phase := .placing }).goPlace c.tag
    else s.putCmd { c with phase := .throughWait }
  else
    let ahead := (s.limitQueue .limitWait).filter (fun d => d.cls == 0 || c.cls != 0)
    if ahead.isEmpty && s.limitFits c then (s.putCmd { c with phase := .placing }).goPlace c.tag
    else s.putCmd { c with phase := .limitWait, outside := true }

/-- Waiting commands admitted in order up to the first that does not fit (R152, R153). -/
def State.admitList (s : State) (l : List HostCmd) (fits : State → HostCmd → Bool) : State :=
  match l with
  | [] => s
  | c :: r => if fits s c then ((s.putCmd { c with phase := .placing }).goPlace c.tag).admitList r fits else s

/-- Waiting writes admitted (R152 to R154). -/
def State.admitAll (s : State) : State :=
  (s.admitList (s.limitQueue .limitWait) State.limitFits).admitList (s.limitQueue .throughWait) State.throughFits

/-! ### Mirror (R148, R318) -/

/-- Whether a command's sectors or its dirty-namespace bit are still unacknowledged by the partner. -/
def State.mirrorPending (s : State) (c : HostCmd) : Bool :=
  s.unackedBy (fun i => match i with
    | .sector n lba _ _ _ _ => n == c.nsid && c.ranges.any (fun e => decide (e.start ≤ lba) && decide (lba < e.start + e.length))
    | .dirtyNs n => n == c.nsid
    | .deferred n _ _ _ => n == c.nsid
    | _ => false)

/-- What waits for the partner taken up: writes (R148), update contexts (step 4), fret sets (step 5). -/
def State.mirrorWake (s : State) : State :=
  let s := s.hfe.cmds.foldl (fun (st : State) c =>
    if c.phase == .placed && c.mirrorWait && !st.mirrorPending c then (st.putCmd { c with mirrorWait := false }).writeReady c.tag
    else st) s
  s.wc.updates.foldl (fun (st : State) u =>
    if u.step = 4 ∧ ¬ st.unackedBy (fun i => match i with
        | .context v => v.id == u.id
        | _ => false) then st.beginFret u.id
    else if u.step = 5 then st.fretReady u.id
    else st) s

/-- PAIR_EPOCH one higher, saturating (R322, R455). -/
def State.nextEpoch (s : State) (n : Nat) : State := s.satFld Fld.PAIR_EPOCH n

/-- MIRROR_LOST (R148, R320): writes run unmirrored; what waits for the partner goes on with local placement alone. -/
def State.loseMirror (s : State) : State :=
  if !s.mirrored then s
  else
    let s := (s.setBit Fld.WC_STATUS.MIRROR_ON false).setBit Fld.WC_STATUS.MIRROR_LOST true
    let s := ((s.setBit Fld.PAIR_STATUS.MIRROR_ON false).nextEpoch 1).emit .mirrorLost []
    let s := { s with capo := { s.capo with unacked := [] }, wc := { s.wc with partnerLimit := none } }
    s.mirrorWake.recomputeLimit

/-! ### Fret clears (R161) -/

/-- Whether a bit may be cleared: set, no update in flight on its region, no operation in flight, not awaiting its scan (R161,
R169). -/
def State.clearable (s : State) (b : Nat) : Bool :=
  s.wc.fret.contains b && (tget s.wc.counts b).isNone && !(s.wc.fretOps.any (fun o => o.bit = b)) && !s.wc.resync.contains b

/-- A clear of a fret bit issued. -/
def State.issueClear (s : State) (b : Nat) : State :=
  ({ s with wc := { s.wc with fretOps := s.wc.fretOps ++ [⟨b, false, none⟩] } } : State).mirror (.fretClear b)

/-- Operations on fret bits in flight when the fast domains stop: each bit is left clear or set, and which one is not defined
(R161; assumption 4). -/
def State.fretCut (s : State) : State :=
  let ops := s.wc.fretOps
  let s := { s with wc := { s.wc with fretOps := [] } }
  ops.foldl (fun (st : State) o =>
    let b := (st.free 1).toNat
    let st := st.used
    let rest := st.wc.fret.filter (· ≠ o.bit)
    { st with wc := { st.wc with fret := if b = 1 then insertOn id o.bit rest else rest } }) s

/-! ### Replay (R167, R168) -/

/-- The dump that a start replays: the newest that is not retired and carries no cancel record (R167). -/
def State.replayDump (s : State) : Option Dump :=
  (s.vault.dumps.filter (fun d => !d.2.cancelled && !d.2.retired)).foldl (fun (acc : Option Dump) d =>
    match acc with
    | none => some d.2
    | some e => if e.seq < d.2.seq then some d.2 else some e) none

/-- A saved sector restored (R167 step 1): DIRTY, or DESTAGING under a restored update that carries it, with the newer copy of a
REDIRTIED one. -/
def State.restoreSector (s : State) (d : DumpSector) : State :=
  let key := nsKey d.nsid d.lba
  let mine := (s.wc.updates.flatMap (·.sectors)).find? (fun x => x.nsid = d.nsid ∧ x.lba = d.lba)
  let l : WcLine := match mine with
    | none => ⟨.dirty, d.sec, none, d.cls, d.seq, s.now, false, none, d.seq, none⟩
    | some x =>
      if x.sec = d.sec then ⟨.destaging, d.sec, none, d.cls, d.seq, s.now, false, none, d.seq, none⟩
      else ⟨.redirtied, x.sec, some d.sec, d.cls, d.seq, s.now, false, none, d.seq, none⟩
  { s with wc := { s.wc with lines := tput s.wc.lines key l, nextSeq := max s.wc.nextSeq (d.seq + 1) } }

/-- An unsaved sector looked for in an older dump that is not retired: the same copy, matched by placement sequence (R167 step 4). -/
def State.olderCopy (s : State) (seq : Nat) (d : DumpSector) : Option DumpSector :=
  (s.vault.dumps.filter (fun e => !e.2.retired && decide (e.2.seq < seq))).findSome? (fun e =>
    e.2.sectors.find? (fun x => x.nsid = d.nsid ∧ x.lba = d.lba ∧ x.seq = d.seq ∧ x.saved = true))

/-- Whether a dump may be retired (R166): every sector it holds destaged or superseded, or a later complete dump. -/
def State.retirable (s : State) (area : Nat) (d : Dump) : Bool :=
  !d.retired && s.wc.dumpArea != some area && s.wc.replay.isNone && !s.bit Fld.HFE_STATUS.REPLAY_PENDING &&
  (s.vault.dumps.any (fun e => e.2.committed && decide (d.seq < e.2.seq)) ||
   d.sectors.all (fun x => match tget s.wc.lines (nsKey x.nsid x.lba) with
     | some l => !l.isDirty || decide (x.seq < l.seq)
     | none => true))

end Sys2Proof.Machine
end

