-- ==== Sys2Proof/Machine/ImgOps.lean ====
section
/-!
DEFINITION. Machine/ImgOps.lean: what the commands of the stringing image share: validity of a copy (R31 to R39, R53), selection at
boot (R41), the checks of VERIFY (R35, R49, R117, R129, R156, R183, R200, R212, R288, R307, R329, R330, R344, R353, R380 to R382,
R406, R494) and the application of an image (R48, R161, R184, R201).
-/
namespace Sys2Proof.Machine

/-! ### Validity of a copy (R31 to R39) -/

/-- Section types (R34). -/
def sectionTypes : List Nat := [1, 2, 3, 4, 5, 6, 7, 8, 9, 10, 11, 12, 13, 14, 0xFE]

/-- Whether two sections lie apart. -/
def dirApart (a b : DirEntry) : Bool := decide (a.offset + a.length ≤ b.offset) || decide (b.offset + b.length ≤ a.offset)

/-- The directory rules of R33: known types, each once, inside the image behind the directory and before the trailer, aligned, apart. -/
def dirOk (i : Image) : Bool :=
  decide (i.dir.length = i.sectionCount) && decide ((i.dir.map (·.typ)).Nodup) &&
  i.dir.all (fun d => sectionTypes.contains d.typ && decide (d.version = 1) && d.reservedZero && decide (d.offset % 64 = 0) &&
    decide (0x100 + 16 * i.sectionCount ≤ d.offset) && decide (d.offset + d.length + 256 ≤ i.totalLength)) &&
  (List.range i.dir.length).all (fun a => (List.range i.dir.length).all (fun b =>
    match i.dir[a]?, i.dir[b]? with
    | some x, some y => a == b || dirApart x y
    | _, _ => true))

/-- Whether a program carries what R39 asks for; the built-in ones are the device's own (R105, R106). -/
def entryProgOk (e : ArrEntry) : Bool := decide (e.layout ≠ 2) || (progStructureOk e.prog && progRecordOk e.prog e.tables)

/-- The sections an image must hold and the rules whose breach makes it invalid (R34, R39, R117). -/
def contentOk (i : Image) : Bool :=
  i.identity.isSome && i.hostPorts.isSome && i.arrays.all entryProgOk &&
  i.programs.all (fun p => progStructureOk p.1 && progRecordOk p.1 p.2) &&
  (match i.portMap with
   | some l => l.length == 48 && l.all (fun p => decide (p.mode ≤ 4))
   | none => false)

/-- The key slot of an image: programmed and not revoked. -/
def State.slotLive (s : State) (slot : Nat) : Bool :=
  match s.img.keys[slot]? with
  | some k => k.programmed && !k.revoked
  | none => false

/-- Whether the slot an image names does not exist, or is programmed with another key's hash: its signature does not verify (R36, R37). A slot that
is not programmed is a reason of its own (R53). -/
def State.slotOther (s : State) (i : Image) : Bool :=
  match s.img.keys[i.keySlot]? with
  | some k => k.programmed && k.hash != i.keyHash
  | none => true

/-- The reason that a decoded image is invalid, the first that applies in the order of its codes; 0 for a valid one (R32, R53). -/
def State.imageReason (s : State) (i : Image) : Nat :=
  if i.magic ≠ 0x49535850 ∨ i.formatMajor ≠ 1 ∨ i.formatMinor ≠ 0 ∨ 8 ≤ i.flags ∨ i.headerReservedZero = false ∨ i.sequence = 0 ∨
      2 ^ 64 ≤ i.sequence then 1
  else if i.totalLength % 64 ≠ 0 ∨ 2097152 < i.totalLength ∨ i.sectionCount = 0 ∨ 64 < i.sectionCount ∨ dirOk i = false then 2
  else if i.sigOk = false ∨ i.trailerZero = false ∨ s.slotOther i then 3
  else if s.slotLive i.keySlot = false then 4
  else if i.deviceId ≠ (if i.flags % 2 = 1 then s.fld Fld.SYS_DEVICE_ID else 0) then 5
  else if (i.minHbmStack ≠ 24 ∧ i.minHbmStack ≠ 36) ∨ s.fld Fld.SYS_HBM.STACK_GIB < i.minHbmStack then 6
  else if i.canonicalDigest ≠ i.canonicalSha then 7
  else if contentOk i = false then 8
  else 0

/-- What reading a copy gives: REASON of R53. -/
def State.copyReason (s : State) (c : CopyRead) : Nat :=
  match c with
  | .readError => 9
  | .notAnImage => 1
  | .image i => s.imageReason i

/-- A copy's image where it is valid. -/
def State.validImage (s : State) (c : CopyRead) : Option Image :=
  match c with
  | .image i => if s.imageReason i = 0 then some i else none
  | _ => none

/-! ### Selection at boot (R41) -/

/-- What the boot ROM selects: the image with its BOOT_SOURCE, or Safe Mode with its reason; and whether the copies differ without
meaning (R41). -/
structure BootPick where
  image : Option Image
  source : Nat
  reason : Nat
  nonSemantic : Bool
deriving DecidableEq, Repr

/-- The first rule of R41 that applies. -/
def State.bootPick (s : State) : BootPick :=
  match s.validImage s.img.copyA, s.validImage s.img.copyB with
  | some a, some b =>
    if b.sequence < a.sequence then ⟨some a, 0, 0, false⟩
    else if a.sequence < b.sequence then ⟨some b, 1, 0, false⟩
    else if a.imageSha = b.imageSha then ⟨some a, 0, 0, false⟩
    else if a.canonicalSha = b.canonicalSha then ⟨some a, 0, 0, true⟩
    else ⟨none, 3, 2, false⟩
  | some a, none => ⟨some a, 0, 0, false⟩
  | none, some b => ⟨some b, 1, 0, false⟩
  | none, none =>
    match s.validImage s.img.cache with
    | some c => ⟨some c, 2, 0, false⟩
    | none => ⟨none, 3, 1, false⟩

/-- A copy by number: 0 A, 1 B, 2 the eMRAM copy. -/
def State.copyOf (s : State) (n : Nat) : CopyRead := if n = 0 then s.img.copyA else if n = 1 then s.img.copyB else s.img.cache

/-- A copy replaced. -/
def State.setCopy (s : State) (n : Nat) (c : CopyRead) : State :=
  if n = 0 then { s with img := { s.img with copyA := c } }
  else if n = 1 then { s with img := { s.img with copyB := c } }
  else { s with img := { s.img with cache := c } }

/-- IMG_COPY of every copy (R53). -/
def State.showCopies (s : State) : State :=
  (List.range 3).foldl (fun (st : State) n =>
    let c := st.copyOf n
    let st := (st.setBit (Fld.IMG_COPY.VALID.at n) (st.copyReason c == 0)).setFld (Fld.IMG_COPY.REASON.at n) (st.copyReason c)
    let same : Bool := match c, st.img.running with
      | .image i, some r => i.imageSha == r.imageSha
      | _, _ => false
    st.setBit (Fld.IMG_COPY.MATCHES_RUNNING.at n) same) s

/-- Whether a copy is to be rewritten from the running image (R42): a flash copy that is invalid, of a lower sequence, or different
where it stands beside the booted one; the eMRAM copy where its digest differs. -/
def State.rewriteDue (s : State) (n : Nat) : Bool :=
  match s.img.running with
  | none => false
  | some r =>
    match s.copyOf n with
    | .image i =>
      if n = 2 then decide (i.imageSha ≠ r.imageSha)
      else decide (s.imageReason i ≠ 0) || decide (i.sequence < r.sequence) ||
        (decide (i.sequence = r.sequence) && decide (i.imageSha ≠ r.imageSha))
    | _ => true

/-- REWRITE_PENDING follows the copies (R52). -/
def State.showRewrite (s : State) : State :=
  s.setBit Fld.IMG_BOOT.REWRITE_PENDING ((List.range 3).any (fun n => s.rewriteDue n))

/-- The running image's identity registers (R51). -/
def State.showRunning (s : State) : State :=
  (s.setFld Fld.IMG_RUN_SEQ ((s.img.running.map (·.sequence)).getD 0)).setFld Fld.IMG_RUN_DIGEST
    ((s.img.running.map (·.canonicalDigest)).getD 0)

/-! ### Ranges of the sections -/

/-- Whether a number lies in a range. -/
def inRange (v lo hi : Nat) : Bool := decide (lo ≤ v) && decide (v ≤ hi)

/-- A port entry of Host ports (R117). -/
def hostPortOk (p : HostPortEntry) : Bool :=
  if p.enable = 1 then decide (p.clock ≤ 1) && inRange p.maxRate 1 6 && [1, 2, 4, 8, 16].contains p.maxWidth && decide (p.vfCount ≤ 63)
  else decide (p = ⟨0, 0, 0, 0, 0⟩)

/-- Host ports (R117). -/
def hostSectionOk (h : HostSection) : Bool :=
  let on (f : Nat) : Bool := (hostPortOf h (f / 64)).enable == 1 && decide (f % 64 ≤ (hostPortOf h (f / 64)).vfCount)
  let fe (f : Nat) : FuncEntry := (tget h.funcs f).getD ⟨0, 0, 0⟩
  let fns := List.range 128
  h.reservedZero && hostPortOk h.port0 && hostPortOk h.port1 && h.funcs.all (fun e => decide (e.1 < 128)) &&
  fns.all (fun f => if on f then
      decide ((fe f).defaultClass ≤ 3) && decide ((fe f).queueReserve ≤ 8191) && inRange (fe f).queueCap (max 1 (fe f).queueReserve) 8191
    else decide (fe f = ⟨0, 0, 0⟩)) &&
  decide ((fns.filter on).foldl (fun acc f => acc + (fe f).queueReserve) 0 ≤ 32768)

/-- A drive port map entry (R288); an off port's other fields are not looked at. -/
def portEntryOk (p : PortMapEntry) : Bool :=
  let top := if p.mode = 3 then 4 else if p.mode = 4 then 3 else 5
  let depth := if p.mode = 3 then inRange p.queueDepth 8 64 else if p.mode = 4 then inRange p.queueDepth 4 32
    else inRange p.queueDepth 16 256
  p.mode == 0 || (decide (p.mode ≤ 4) && decide (p.maxRate ≤ top) && decide (p.spinupGroup ≤ 15) && decide (p.flags < 8) &&
    inRange p.readTimeoutMs 100 60000 && inRange p.writeTimeoutMs 100 60000 && decide (p.retries ≤ 7) &&
    inRange p.removalTimeoutS 1 120 && depth && decide (p.spinupDelayDs ≤ 6000))

/-- Class policies (R212). -/
def classOk (c : ClassPolicies) : Bool :=
  inRange c.c0KcmdLimit 1 5000 && inRange c.c0BwPct 1 20 && decide (c.flags < 2) && inRange c.c0Outstanding 1 2048 &&
  inRange c.c0CmdBurst 1 2048 && inRange c.c0ByteBurstMib 2 64 && c.classes.length == 4 &&
  (List.range 4).all (fun n => match c.classes[n]? with
    | none => false
    | some e => (n == 0 || inRange e.weight 1 255) && decide (e.flags < 2) &&
        (inRange e.memberDeadlineUs 20 1000000 || (n != 0 && e.memberDeadlineUs == 0)))

/-- Write cache and reserve (R156). -/
def wcSectionOk (w : WcSection) : Bool :=
  (match w.configLimitMib with
   | some m => inRange m 1024 73728
   | none => true) &&
  inRange w.marginQ8 282 1024 && inRange w.startPct 1 90 && decide (w.flags < 2) && inRange w.maxAgeMs 100 600000 &&
  inRange w.clearDelayMs 1000 600000 && inRange w.contextMib 256 4096 && inRange w.maxUpdates 64 4096 && decide (w.gatherMs ≤ 1000) &&
  decide (w.c0HeadroomMib ≤ 8192)

/-- A fan profile (R381). -/
def profileOk (hot : Nat) (p : FanProfile) : Bool :=
  decide (p = ⟨0, 0, 0, 0, 0⟩) || (inRange p.tLowC 20 100 && inRange p.tHighC (p.tLowC + 1) hot && decide (p.pctLow ≤ 100) &&
    inRange p.pctHigh p.pctLow 100 && inRange p.steadyCapPct 30 100)

/-- A fan channel entry (R380, R382). -/
def fanChannelOk (c : FanChannel) : Bool :=
  inRange c.polePairs 1 8 && decide (c.flags < 2) && inRange c.ratedRpm 500 30000 && inRange c.minRpm 100 (c.ratedRpm / 2) &&
  inRange c.pwmKhz 25 40 && inRange c.deadTimeDs 10 200 && inRange c.iMaxMa 100 30000 && inRange c.shuntUohm 1000 50000 &&
  inRange c.startRampMs 100 10000 && inRange c.startCurrentPct 10 100 && inRange c.handoverPct 5 30 && inRange c.brakeMaxPct 5 50 &&
  decide (c.focKpQ12 ≤ 65535) && decide (c.focKiQ12 ≤ 65535) && inRange c.dtcFluxBandPct 1 20 && inRange c.dtcTorqueBandPct 1 30 &&
  c.advance.length == 16 && c.advance.all (fun a => decide (a ≤ 120)) && inRange c.nomRsMohm 1 65535 && inRange c.nomLsUh 1 65535 &&
  inRange c.nomKeUv 1 65535 && inRange c.nomJ 1 65535 && decide (c.ratedRpm * c.polePairs ≤ 3000 * 60)

/-- Fan tables and motor parameters (R381, R382): the entries of enabled channels. -/
def fanSectionOk (f : FanSection) : Bool :=
  decide (f.channelsEn < 256) && decide (f.activeProfile ≤ 15) && inRange f.hotC 80 104 && decide (f.faultBoostPct ≤ 100) &&
  decide (f.pinEn < 256) && f.profiles.length == 16 && f.profiles.all (profileOk f.hotC) && f.channels.length == 8 &&
  (List.range 8).all (fun n => decide (f.channelsEn / 2 ^ n % 2 = 0) || ((f.channels[n]?).map fanChannelOk).getD false)

/-- Whether a list rises strictly. -/
def rising : List Nat → Bool
  | a :: b :: r => decide (a < b) && rising (b :: r)
  | _ => true

/-- A pack of the gauge model (R353). -/
def packModelOk (p : PackModel) : Bool :=
  let li := p.chemistry == 1
  p.chemistry == 0 || (decide (p.chemistry ≤ 2) && inRange p.cells 1 4 && inRange p.effQ8 154 250 && inRange p.nominalMah 50 200000 &&
    (if li then inRange p.cutoffMvCell 2700 3400 && inRange p.chargeMvCell 3900 4350
     else inRange p.cutoffMvCell 2200 2900 && inRange p.chargeMvCell 3400 3650) &&
    inRange p.shuntUohm 200 50000 && inRange p.dividerQ16 65536 1310720 && inRange p.ntcR25Ohm 1000 100000 &&
    inRange p.ntcBetaK 2000 5000 && decide (-30 ≤ p.tempMinC) && decide (p.tempMinC ≤ 20) && decide (40 ≤ p.tempMaxC) &&
    decide (p.tempMaxC ≤ 80) && decide (p.flags < 2) && inRange p.rNomMohm 1 10000 &&
    (p.flags == 0 || (p.ocvMv.length == 11 && rising p.ocvMv)))

/-- Gauge model (R353). -/
def gaugeOk (g : GaugeModel) : Bool :=
  decide (g.overheadJ ≤ 5000) && inRange g.dumpPowerW 100 400 && decide (g.learnPeriodDays ≤ 3650) && inRange g.testMaxAgeH 24 8760 &&
  inRange g.initialDeratePct 50 100 && inRange g.replacePct 40 95 && packModelOk g.packA && packModelOk g.packB

/-- Whether a pluck's fields lie in their ranges (R340, R344): the error 2 of PLUCK_CMD otherwise. -/
def pluckReqOk (q : PluckReq) : Bool :=
  inRange (q.action % 128) 1 7 && decide (q.periodS ≤ 31536000) && decide (q.policy ≤ 3) &&
  (q.policy != 3 || inRange q.lateWindowS 1 65535) && decide (q.staggerSlots ≤ 512) && decide (q.staggerStepUs ≤ 4000000000)

/-- Pluck defaults (R344). -/
def pluckSectionOk (p : PluckSection) : Bool :=
  p.defaults.length == 7 && p.defaults.all (fun d => inRange d.policy 1 3) && decide (p.standing.length ≤ 32) &&
  p.standing.all pluckReqOk

/-- Bits set among the first four. -/
def bits4 (m : Nat) : Nat := ((List.range 4).filter (fun i => m / 2 ^ i % 2 = 1)).length

/-- FED_PORTS of the thresholds, with its default by FLAGS.PAIR (R330). -/
def fedPortsOf (t : Thresholds) (pair : Bool) : Nat := t.fedPorts.getD (if pair then 0x0C else 0x0F)

/-- Pair and federation thresholds (R307, R330). -/
def thresholdsOk (t : Thresholds) (pair : Bool) : Bool :=
  inRange t.claimConfirmMs 20 500 && inRange t.writeFenceMs 50 1000 && inRange t.pairLinkPorts 1 15 && decide (t.flags < 4) &&
  inRange t.selftestCycleMin 10 1440 && inRange t.startupWaitS 5 600 && decide (fedPortsOf t pair ≤ 15) && inRange t.announceLoss 2 16 &&
  inRange t.stepThresholdNs 100 1000000 && inRange t.leaveTimeoutMs 100 10000 &&
  (!pair || decide (Nat.land (fedPortsOf t pair) t.pairLinkPorts = 0))

/-- Event recorder mode (R406). -/
def recorderOk (r : RecorderSection) : Bool := decide (r.mode ≤ 1) && decide (r.minSeverity ≤ 7) && inRange r.nearlyFullPct 50 99

/-- FLAGS.PAIR of an image (R32). -/
def imagePair (i : Image) : Bool := decide (i.flags / 2 % 2 = 1)

/-- FLAGS.FEDERATED of an image (R32). -/
def imageFed (i : Image) : Bool := decide (i.flags / 4 % 2 = 1)

/-- Identity (R306, R329). -/
def identityOk (i : Image) (d : Identity) : Bool :=
  decide (d.nodeId ≤ 511) && decide (d.gmPriority ≤ 255) && decide (Nat.land d.flags 0xF4 = 0) && decide (d.flags < 256) &&
  (if imageFed i then decide (d.fedUuid ≠ 0) else decide (d.fedUuid = 0)) && (imagePair i || decide (d.pairUuid = 0)) &&
  decide (d.pairRank ≤ 1)

/-- A port's mode in an image. -/
def imageMode (i : Image) (p : PortId) : Nat := ((i.portMap.bind (fun l => l[p.val]?)).map (·.mode)).getD 0

/-- The one table of the declustered layout, PT: PERIOD_ROWS rows and n columns (R106). -/
def periodTableOk (e : ArrEntry) : Bool :=
  match e.tables with
  | [t] => t.rows == e.prog.periodRows && t.cols == e.members.length
  | _ => false

/-- Arrays and ports (R62, R63, R104, R106, R183, R289). -/
def arraysOk (i : Image) : Bool :=
  let used := i.arrays.flatMap (·.members)
  decide (i.arrays.length ≤ 16) && decide ((i.arrays.map (·.index)).Nodup) && decide (used.Nodup) &&
  i.arrays.all (fun e => entryShapeOk e && policyOk e.policy && tablesOk e.tables &&
    (e.layout != 1 || periodTableOk e) &&
    e.members.all (fun p => decide (imageMode i p ≠ 0) && (!imagePair i || decide (imageMode i p = 2)))) &&
  (imagePair i || (List.finRange 48).all (fun p => decide (imageMode i p ≠ 2))) &&
  decide (i.arrays.foldl (fun acc e => acc + tableEntries e.tables) 0 ≤ 524288)

/-- Every section's own ranges (R117, R156, R212, R288, R307, R329, R330, R344, R353, R381, R382, R406). -/
def sectionsOk (i : Image) : Bool :=
  i.reservedZero && ((i.hostPorts.map hostSectionOk).getD false) && ((i.identity.map (identityOk i)).getD false) &&
  ((i.portMap.map (fun l => l.all portEntryOk)).getD false) && arraysOk i && ((i.classPolicies.map classOk).getD true) &&
  ((i.writeCache.map wcSectionOk).getD true) && ((i.fans.map fanSectionOk).getD true) && ((i.gauge.map gaugeOk).getD true) &&
  ((i.plucks.map pluckSectionOk).getD true) && thresholdsOk (i.thresholds.getD {}) (imagePair i) &&
  ((i.recorder.map recorderOk).getD true)

/-- Whether two extents overlap. -/
def extentsMeet (a b : Extent) : Bool := overlaps a.start a.length b.start b.length

/-- Whether the extents of a list are pairwise apart. -/
def extentsApart : List Extent → Bool
  | [] => true
  | e :: r => r.all (fun f => !extentsMeet e f) && extentsApart r

/-- The Namespaces section against the data spaces of the arrays (R129). -/
def namespacesOk (i : Image) (space : ArrayId → Option Nat) : Bool :=
  rising (i.namespaces.map (·.nsid)) &&
  i.namespaces.all (fun n => inRange n.nsid 1 1024 && n.unusedZero && inRange n.extents.length 1 4 && decide (n.attach < 2 ^ 128) &&
    n.extents.all (fun e => decide (1 ≤ e.length)) && decide (n.extents.foldl (fun acc e => acc + e.length) 0 = n.size) &&
    (match space n.array with
     | none => false
     | some d => n.extents.all (fun e => decide (e.start + e.length ≤ d)))) &&
  (List.finRange 16).all (fun a => extentsApart ((i.namespaces.filter (fun n => n.array = a)).flatMap (·.extents)))

/-! ### Existing arrays and namespaces (R35, R200) -/

/-- The ports of an array's members by index. -/
def Arr.ports (r : Arr) : List (Option PortId) := r.members.map (·.port)

/-- Whether an entry asks for another member set or k than the array has. -/
def reshapes (r : Arr) (e : ArrEntry) : Bool := decide (e.k ≠ r.cur.k) || decide (e.members.length ≠ r.cur.n)

/-- Whether the array's span of the fret map is all clear. -/
def State.spanClear (s : State) (r : Arr) : Bool := s.wc.fret.all (fun b => !(decide (r.fretBase ≤ b) && decide (b < r.fretBase + r.fretBits)))

/-- Whether the members of an entry agree with the ports that indices have; an index without a port agrees with any. -/
def portsAgree : List (Option PortId) → List PortId → Bool
  | [], _ => true
  | _ :: _, [] => false
  | none :: r, _ :: t => portsAgree r t
  | some p :: r, q :: t => decide (p = q) && portsAgree r t

/-- Spans and reserves of the arrays of the state but one (R161, R184). -/
def State.spans (s : State) (but : Nat) : List (Nat × Nat) :=
  (s.rbe.arrays.filter (fun a => a.1 ≠ but)).map (fun a => (a.2.fretBase, a.2.fretBits + a.2.fretReserve))

/-- The check of one entry against the array it names (R35, R200): 0 or the error. -/
def State.existingError (s : State) (e : ArrEntry) (r : Arr) : Nat :=
  let g := entryGeom e (r.cur.epoch + 1) r.cur.dataSectors
  let bits := fretBitsFor g.dataSpace e.fretExp
  let others := (s.rbe.arrays.filter (fun a => a.1 ≠ e.index.val)).flatMap (fun a => a.2.members.filterMap (·.port))
  if e.uuid ≠ r.uuid ∨ chunkSectors e.chunkExp ≠ r.cur.c ∨ portsAgree r.ports e.members = false then 6
  else if e.fretExp ≠ r.fretExp ∧ s.spanClear r = false then 7
  else if e.fretExp ≠ r.fretExp ∧ (fretPlace (s.spans e.index.val) (bits + fretReserveFor bits e.policy.fretGrowPct)).isNone then 4
  else if reshapes r e = false then
    if e.layout = r.cur.layout ∧ entryProg e = r.cur.prog ∧ entryTables e = r.cur.tables then 0 else 6
  else if e.members.length < r.cur.n ∨ e.k < r.cur.k ∨ (e.members.drop r.cur.n).any (fun p => others.contains p) ∨ r.prev.isSome ∨
      (List.range r.members.length).any (fun m => r.unitsMissing m) ∨
      [ArrOp.critical, .mainPass, .copyback].any (fun o => r.wants.contains o) then 6
  else if g.dataSpace < r.cur.dataSpace ∨ (e.fretExp = r.fretExp ∧ r.fretBits + r.fretReserve < bits) then 4
  else 0

/-- Entries of all the tables that the device holds once an image is in force, counting every array and both program slots (R104). -/
def State.loadedEntries (s : State) (i : Image) : Nat :=
  i.arrays.foldl (fun acc e => acc + (match s.arr e.index with
    | none => tableEntries (entryTables e)
    | some r => tableEntries r.cur.tables + ((r.prev.map (fun g => tableEntries g.tables)).getD 0) +
        (if reshapes r e then tableEntries (entryTables e) else 0))) 0


/-- Whether the image removes an array that holds namespaces, or removes an attached namespace, or shrinks one (R35). -/
def State.removalError (s : State) (i : Image) : Bool :=
  match s.oldImage with
  | none => false
  | some o =>
    s.rbe.arrays.any (fun a => i.arrays.all (fun e => e.index.val != a.1) && o.namespaces.any (fun n => n.array.val == a.1)) ||
    o.namespaces.any (fun n => match i.namespaces.find? (fun m => m.nsid = n.nsid) with
      | none => n.attach != 0
      | some m => decide (m.size < n.size))

/-- The first error among the entries of existing arrays. -/
def State.existingErrors (s : State) (i : Image) : Nat :=
  ((i.arrays.filterMap (fun e => (s.arr e.index).map (s.existingError e))).find? (fun x => x ≠ 0)).getD 0

/-! ### New arrays (R494) -/

/-- What VERIFY finds for a new array: the drives of its ports and MEMBER_DATA_SECTORS, if every port holds a free READY drive. -/
def State.findNew (s : State) (e : ArrEntry) : Option NewArray :=
  let ds := e.members.filterMap (fun p => (s.freeDrive p).map (fun d => (p, d.serial, d.capacity)))
  if ds.length ≠ e.members.length then none
  else
    let least := (ds.map (fun d => memberSectors d.2.2)).foldl min (2 ^ 63)
    some ⟨e.index, truncSectors (entryProg e).periodRows (chunkSectors e.chunkExp) least, ds⟩

/-- Entries of an image whose array does not exist yet. -/
def State.newEntries (s : State) (i : Image) : List ArrEntry := i.arrays.filter (fun e => (s.arr e.index).isNone)

/-- The span that an entry takes for a data space: bits and reserve (R161, R184). -/
def entrySpan (e : ArrEntry) (dataSectors : Nat) : Nat × Nat :=
  let bits := fretBitsFor (entryGeom e 0 dataSectors).dataSpace e.fretExp
  (bits, fretReserveFor bits e.policy.fretGrowPct)

/-- Whether new arrays meet the limits of R63 and find their spans one after the other (R161, R184). -/
def newFits (taken : List (Nat × Nat)) : List (ArrEntry × NewArray) → Bool
  | [] => true
  | (e, n) :: r =>
    let sp := entrySpan e n.dataSectors
    let g := entryGeom e 0 n.dataSectors
    match fretPlace taken (sp.1 + sp.2) with
    | none => false
    | some b => decide (0 < n.dataSectors) && decide (g.stripeCount < 2 ^ 48) && newFits ((b, sp.1 + sp.2) :: taken) r

/-- What VERIFY finds for every new array, or none where a drive is missing. -/
def State.findAllNew (s : State) (es : List ArrEntry) : Option (List NewArray) :=
  es.foldr (fun e acc => match acc, s.findNew e with
    | some l, some n => some (n :: l)
    | _, _ => none) (some [])

/-- The data space that an image gives an array's namespaces (R129): the previous epoch's while a reshape runs or begins. -/
def State.spaceOf (s : State) (i : Image) (news : List NewArray) (a : ArrayId) : Option Nat :=
  match i.arrays.find? (fun e => e.index = a) with
  | none => none
  | some e =>
    match s.arr a with
    | some r => some ((r.prev.getD r.cur).dataSpace)
    | none => (news.find? (fun n => n.index = a)).map (fun n => (entryGeom e 0 n.dataSectors).dataSpace)

/-- Whether the labels of every array of an image fit in 512 KiB (R84): the entry's program and tables, those of the epoch that a reshape leaves or
that is being left, and the array's namespaces. -/
def State.labelsFit (s : State) (i : Image) : Bool :=
  i.arrays.all (fun e =>
    let mine := (i.namespaces.filter (fun n => n.array = e.index)).length
    let own := (entryProg e, entryTables e)
    let two (g : Geom) : ProgObj × List MapTable := (g.prog, g.tables)
    decide ((match s.arr e.index with
      | none => labelLen own none mine
      | some r => if reshapes r e then labelLen own (some (two r.cur)) mine else labelLen own (r.prev.map two) mine) ≤ labelMax))

/-- Whether an existing namespace would grow into a fifth extent (R85). -/
def State.fifthExtent (s : State) (i : Image) : Bool :=
  match s.oldImage with
  | none => false
  | some o => o.namespaces.any (fun n => i.namespaces.any (fun m => m.nsid == n.nsid && decide (4 < m.extents.length) && decide (n.size < m.size)))

/-- The checks against the state: R35, R49, R129, R200, R494. The error, or what was found for the new arrays. -/
def State.stateCheck (s : State) (i : Image) : Nat × List NewArray :=
  let es := s.newEntries i
  if s.removalError i then (6, [])
  else
    let x := s.existingErrors i
    if x ≠ 0 then (x, [])
    else
      match s.findAllNew es with
      | none => (0x0D, [])
      | some news =>
        if s.fifthExtent i then (6, [])
        else if newFits (s.spans 16) (es.zip news) && namespacesOk i (s.spaceOf i news) && decide (s.loadedEntries i ≤ 524288) &&
            s.labelsFit i then (0, news)
        else (4, [])

/-! ### VERIFY (R46, R47) -/

/-- The error of an image that is invalid under R39: signature and key 3, verification record 8, the rest 4 (R54). -/
def verifyReason (i : Image) (reason : Nat) : Nat :=
  if reason = 3 ∨ reason = 4 then 3
  else if reason = 8 ∧ i.arrays.any (fun e => e.layout = 2 ∧ progRecordOk e.prog e.tables = false) then 8
  else 4

/-- The SEQUENCE that VERIFY requires an image to exceed (R47). -/
def State.seqReference (s : State) : Nat :=
  match s.img.running with
  | some r => r.sequence
  | none =>
    if s.fld Fld.IMG_BOOT.SAFE_REASON = 2 then ((s.validImage s.img.copyA).map (·.sequence)).getD 0 else 0

/-- COMMIT's target copy (R47): copy B where copy A booted or the copies are tied, else copy A. -/
def State.commitTarget (s : State) : Nat :=
  if s.fld Fld.IMG_BOOT.BOOT_SOURCE = 0 ∨ s.fld Fld.IMG_BOOT.SAFE_REASON = 2 then 1 else 0

/-- VERIFY's finding on a staged image (R46 step 3): error 0 with the new arrays found. -/
def State.verifyImage (s : State) (i : Image) : Nat × List NewArray :=
  let reason := s.imageReason i
  if reason ≠ 0 then (verifyReason i reason, [])
  else if i.totalLength ≠ s.fld Fld.IMG_STAGE_LEN.LEN then (4, [])
  else if i.sequence ≤ s.seqReference then (5, [])
  else if sectionsOk i = false then (4, [])
  else s.stateCheck i

/-- Ports that an array of an image uses. -/
def imagePorts (i : Image) : List PortId := i.arrays.flatMap (·.members)

/-- Ports whose map entries differ between two images. -/
def changedPorts (a b : Image) : List PortId :=
  (List.finRange 48).filter (fun p => a.portMap.bind (fun l => l[p.val]?) ≠ b.portMap.bind (fun l => l[p.val]?))

/-- CHANGE_CLASS of a verified image: 1 live, 2 reset (R34, R46). -/
def State.changeClass (s : State) (i : Image) : Nat :=
  match s.img.running with
  | none => 2
  | some r =>
    if i.identity ≠ r.identity ∨ i.recorder.getD {} ≠ r.recorder.getD {} ∨ i.hostPorts ≠ r.hostPorts ∨ i.flags ≠ r.flags ∨
        (changedPorts r i).any (fun p => (imagePorts r).contains p || (imagePorts i).contains p) then 2 else 1

/-! ### Application (R48, R102, R161, R201, R494) -/

/-- A new member index with a new MEMBER_UUID. -/
def State.newMember (s : State) (p : PortId) (st : MemState) : Member × State :=
  (⟨st, (s.free 128).toNat, some p, 0, 0, 0, 0, false, 0, 0, 0, [], 0, false⟩, s.used)

/-- New member indices on ports. -/
def State.newMembers (s : State) (st : MemState) : List PortId → List Member × State
  | [] => ([], s)
  | p :: r =>
    let (m, s) := s.newMember p st
    let (ms, s) := s.newMembers st r
    (m :: ms, s)

/-- An array created (R82, R161, R184, R494): online at once, every index active, its groups to be initialised; `fresh`: its drives are
there, so their media are new and their labels are written now. -/
def State.createArr (s : State) (e : ArrEntry) (n : NewArray) (fresh : Bool) : State :=
  let sp := entrySpan e n.dataSectors
  match fretPlace (s.spans 16) (sp.1 + sp.2) with
  | none => s
  | some b =>
    let (ms, s) := s.newMembers .active e.members
    let r : Arr :=
      { uuid := e.uuid, fretExp := e.fretExp, policy := e.policy, cur := entryGeom e 1 n.dataSectors, prev := none, fretBase := b,
        fretBits := sp.1, fretReserve := sp.2, members := ms, failOrder := [], critDone := [], wants := [.init], critMark := 0,
        mainMark := 0, copyMark := 0, scrubMark := 0, initMark := 0, scrubBehind := false, scrubDue := 0, pauses := [],
        labelSeq := 0, keyChecks := [], bow := 0, ckpt := 0, sources := [], displaced := [], labelJobs := [], labelAgain := false }
    let s := s.putArr e.index r
    if fresh then
      (e.members.foldl (fun (st : State) p => st.putMedia p Media.fresh) s).rewriteLabels e.index
    else s

/-- A reshape started at the apply point (R201). An added member is active where its port holds a free drive that is large enough, and
absent otherwise. -/
def State.startReshape (s : State) (e : ArrEntry) (r : Arr) : State :=
  let (added, s) := (e.members.drop r.cur.n).foldl (fun (acc : List Member × State) p =>
    let up : Bool := match acc.2.freeDrive p with
      | some d => decide (r.cur.dataSectors ≤ memberSectors d.capacity)
      | none => false
    let (m, st) := acc.2.newMember p (if up then .active else .absent)
    (acc.1 ++ [m], if up then st.putMedia p Media.fresh else st)) ([], s)
  let g := entryGeom e (r.cur.epoch + 1) r.cur.dataSectors
  let bits := fretBitsFor g.dataSpace r.fretExp
  let r := { r with prev := some r.cur, cur := g, members := r.members ++ added, fretReserve := r.fretReserve - (bits - r.fretBits),
                    fretBits := bits, bow := 0, ckpt := 0, sources := [], displaced := [], wants := r.wants ++ [ArrOp.reshape] }
  let w := s.wc
  let s := { s with wc := { w with updates := w.updates.map (fun (u : Update) => if u.array = e.index then { u with previous := true } else u) } }
  (s.putArr e.index r).rewriteLabels e.index

/-- The fret region size of an array changed while its span is clear (R35): its bits are placed anew. -/
def State.changeFretExp (s : State) (e : ArrEntry) (r : Arr) : Arr :=
  if e.fretExp = r.fretExp then r
  else
    let sp := entrySpan e r.cur.dataSectors
    let bits := fretBitsFor r.cur.dataSpace e.fretExp
    match fretPlace (s.spans e.index.val) (sp.1 + sp.2) with
    | some b => { r with fretExp := e.fretExp, fretBase := b, fretBits := bits, fretReserve := sp.1 + sp.2 - bits }
    | none => r

/-- One array entry applied. -/
def State.applyEntry (s : State) (e : ArrEntry) (news : List NewArray) (fresh : Bool) : State :=
  match s.arr e.index with
  | none =>
    match news.find? (fun n => n.index = e.index) with
    | some n => s.createArr e n fresh
    | none => s
  | some r =>
    if e.uuid ≠ r.uuid then s
    else
      let r := { (s.changeFretExp e r) with policy := e.policy, pauses := r.pauses.filter (fun x => x.2 ≠ 6) }
      if reshapes r e && r.prev.isNone then s.startReshape e r else s.putArr e.index r

/-- The namespace tables of labels rewritten where an image changes them (R86). -/
def State.relabel (s : State) (old : Option Image) (i : Image) : State :=
  (List.finRange 16).foldl (fun (st : State) a =>
    let mine (x : Option Image) : List NsEntry := (x.map (fun y => y.namespaces.filter (fun n => n.array = a))).getD []
    if (st.arr a).isSome && mine old != mine (some i) then st.rewriteLabels a else st) s

/-- An image applied at the apply point or at boot (R48, R50): every section at once. -/
def State.applyImage (s : State) (i : Image) (news : List NewArray) (fresh : Bool) : State :=
  let old := s.oldImage
  let s := { s with img := { s.img with running := some i, last := some i } }
  let keep := s.rbe.arrays.filter (fun a => i.arrays.any (fun e => e.index.val == a.1))
  let s := { s with rbe := { s.rbe with arrays := keep } }
  let s := i.arrays.foldl (fun (st : State) e => st.applyEntry e news fresh) s
  (s.relabel old i).showRunning.showCopies

/-- The live sections in force after an activation (R34, R48, R288): ports that no array uses whose entry changed, the dirty limit,
the fans. -/
def State.applyLive (s : State) (i : Image) : State :=
  let ports := (s.img.running.map (fun r => changedPorts r i)).getD []
  let older := match s.img.running with
    | some r => if s.hfe.cmds.isEmpty then [] else s.img.older ++ [(s.hfe.order, r)]
    | none => []
  let s := s.applyImage i s.img.newArrays true
  let s := { s with img := { s.img with toCreate := [], older := older } }
  let s := ports.foldl (fun (st : State) p => st.spinupPort p) s
  s.recomputeLimit

end Sys2Proof.Machine
end

