-- ==== Sys2Proof/Machine/RegView.lean ====
section
/-!
DEFINITION. Machine/RegView.lean: what a register reads as (R6, R456, R462): the stored fields and, over them, the fields that other
parts of the state decide at the moment of the read. One overlay for each block.
-/
namespace Sys2Proof.Machine

/-- A value of a field with the field. -/
abbrev Shown := Field × Nat

/-- A truth value as a bit. -/
def bit1 (b : Bool) : Nat := if b then 1 else 0

/-- A mask of the numbers below n for which a test holds. -/
def maskOf (n : Nat) (p : Nat → Bool) : Nat := ((List.range n).filter p).foldl (fun acc i => acc + 2 ^ i) 0

/-- Fatal errors of the last 24 h (R453). -/
def State.fatals24 (s : State) : Nat := (s.err.times.filter (fun t => decide (s.now < t + 86400 * sec))).length

/-- What holds the fast domains in reset (R442): SYS_RST_N, rails, firmware. -/
def State.fastHeld (s : State) : Nat :=
  if s.pwr.fast == .inReset ∨ s.pwr.fast == .unpowered then
    (if s.pwr.sysLow then 1 else if !s.pwr.railsOk then 2 else if !s.pwr.fwOk then 3 else 0)
  else 0

/-- SYS: R442, R453, R468, R469. -/
def State.viewSys (s : State) (i : Nat) : List Shown :=
  [(Fld.SYS_STATUS.PEGBOX_READY, s.fld Fld.PWR_STATE.PEGBOX_READY),
   (Fld.SYS_STATUS.FAST_RUNNING, bit1 (s.fastAlive || s.pwr.fast == .gated)),
   (Fld.SYS_STATUS.SAFE_MODE, s.fld Fld.IMG_BOOT.SAFE_MODE), (Fld.SYS_STATUS.TAMPER_HOLD, s.fld Fld.CIP_STATUS.TAMPER_HOLD),
   (Fld.SYS_STATUS.FATAL_HOLD, s.fld Fld.ERR_STATUS.FATAL_HOLD),
   (Fld.SYS_STATUS.REPLAY_PENDING, s.fld Fld.HFE_STATUS.REPLAY_PENDING),
   (Fld.SYS_STATUS.GATE_OPEN, s.fld Fld.CAPO_STATUS.GATE_OPEN), (Fld.SYS_STATUS.POWER, s.fld Fld.PWR_STATE.STATE),
   (Fld.SYS_STATUS.THERMAL, s.fld Fld.THERM_STATUS.STATE), (Fld.SYS_UPTIME_S, (s.now - s.pwr.pegAt) / sec),
   (Fld.SYS_HBM_STAT.TRAINED.at i, bit1 s.fastAlive), (Fld.SYS_HBM_STAT.SELF_REFRESH.at i, bit1 (s.pwr.fast == .retained)),
   (Fld.PWR_STATE.FAST, s.fastHeld),
   (Fld.PWR_STATE.RESET_DUMP, bit1 (s.wc.dumpArea.isSome && s.wc.dumpWhy == some .sysReset)),
   (Fld.PWR_RAILS.IN_RANGE, (if s.pwr.aonRails then 3 else 0) + 12 + (if s.pwr.railsOk then 0xF0 else 0)),
   (Fld.ERR_STATUS.DEPTH, s.err.stack.length), (Fld.ERR_STATUS.FATAL_24H, min 7 s.fatals24)]

/-- Whether an exclusion of R221 is in force. -/
def State.exclusion (s : State) : Bool :=
  s.capo.takeoverAt.isSome || s.bit Fld.VLT_STATUS.DUMPING || s.bit Fld.HFE_STATUS.REPLAY_PENDING || !s.wc.resync.isEmpty ||
  s.pwr.holds.contains .activation || decide (s.fld Fld.PWR_STATE.STATE = 5) || s.err.active.isSome || s.therm.stop.isSome


/-- Class-0 commands outstanding (R213). -/
def State.c0Outstanding (s : State) : Nat := (s.hfe.cmds.filter (fun c => c.cls = 0)).length

/-- The class-0 load of the last millisecond that has ended: commands and bytes (R222). -/
def State.c0Rate (s : State) : Nat × Nat :=
  if s.now / ms = s.lat.rateMs then (s.fld Fld.LAT_C0_RATE.KCMD, s.fld Fld.LAT_C0_RATE.GBPS_X100)
  else if s.now / ms = s.lat.rateMs + 1 then (min s.lat.rateCmds 65535, min (s.lat.rateBytes / 10000) 65535)
  else (0, 0)

/-- HFE and LAT: R146, R223. -/
def State.viewHfe (s : State) : List Shown :=
  let h := s.hfe
  let rate := s.c0Rate
  let sel := histKey (s.fld Fld.LAT_HIST_SEL.MEASURE) (s.fld Fld.LAT_HIST_SEL.CLASS) (s.fld Fld.LAT_HIST_SEL.BIN)
  [(Fld.HFE_STATUS.PAUSE_SHARED, bit1 (h.paused.any (fun c => c != 0))), (Fld.HFE_STATUS.PAUSE_ALL, bit1 (h.paused.contains 0)),
   (Fld.HFE_STATUS.SANITIZE_ACTIVE, bit1 h.sanitize.isSome), (Fld.HFE_STATUS.FORMAT_ACTIVE, bit1 (!h.formats.isEmpty)),
   (Fld.HFE_STATUS.ACTIVATION_FENCE, bit1 (s.pwr.holds.contains .activation)),
   (Fld.HFE_TAG_OCC.TAGS, h.cmds.length), (Fld.HFE_TAG_OCC.C0_TAGS, (h.cmds.filter (fun c => c.tag < 2048)).length),
   (Fld.HFE_LOCK_OCC.ENTRIES, h.locks.length), (Fld.HFE_LOCK_OCC.C0_ENTRIES, (h.locks.filter (·.low)).length),
   (Fld.HFE_POOL.FREE_SQ, 32768 - h.fns.foldl (fun acc f => acc + f.2.grantSq) 0),
   (Fld.HFE_POOL.FREE_CQ, 32768 - h.fns.foldl (fun acc f => acc + f.2.grantCq) 0),
   (Fld.LAT_STATUS.CMD_THROTTLE, bit1 (decide (s.lat.cmdTokens < 0))),
   (Fld.LAT_STATUS.BYTE_THROTTLE, maskOf 4 (fun i => decide ((s.lat.byteTokens[i]?).getD 0 < 0))),
   (Fld.LAT_STATUS.OUTSTANDING_OVER, bit1 (decide (s.classCfg.c0Outstanding < s.c0Outstanding))),
   (Fld.LAT_STATUS.EXCLUSION, bit1 s.exclusion), (Fld.LAT_C0_RATE.KCMD, rate.1), (Fld.LAT_C0_RATE.GBPS_X100, rate.2),
   (Fld.LAT_HIST_DATA.COUNT, if s.fld Fld.LAT_HIST_SEL.MEASURE = 3 then 0 else (tget s.lat.hist sel).getD 0)]

/-- The code of an operation (R210). -/
def opCode (o : ArrOp) : Nat :=
  match o with
  | .none => 0
  | .critical => 1
  | .mainPass => 2
  | .copyback => 3
  | .reshape => 4
  | .scrub => 5
  | .resync => 6
  | .init => 7

/-- Stripes of an epoch. -/
def Geom.groups (g : Geom) : Nat := groupsFor g.dataSectors

/-- Stripes done and covered by the operation that an array runs (R209); for initialisation member groups done and all groups, for the
resync scan regions of the array left to scan. -/
def State.opProgress (s : State) (r : Arr) : Nat × Nat :=
  match (s.arrShown r).1 with
  | .none => (0, 0)
  | .critical => (r.critMark, r.cur.stripeCount)
  | .mainPass => (r.mainMark, r.cur.stripeCount)
  | .copyback => (r.copyMark, r.cur.stripeCount)
  | .scrub => (r.scrubMark, r.cur.stripeCount)
  | .reshape => match r.prev with
    | some p => (r.bow / r.cur.stripeData, (p.dataSpace + r.cur.stripeData - 1) / r.cur.stripeData)
    | none => (0, 0)
  | .resync => (s.wc.resyncPos, (s.wc.resync.filter (fun b => decide (r.fretBase ≤ b) && decide (b < r.fretBase + r.fretBits))).length)
  | .init => (r.initMark, r.cur.groups)

/-- MiB that hold a number of 4,096-byte sectors, rounded up. -/
def mibOf (sectors : Nat) : Nat := (sectors + 255) / 256

/-- ARR[a] of one array: R209, R210. -/
def State.viewArr (s : State) (a : Nat) (r : Arr) : List Shown :=
  let pr := s.opProgress r
  [(Fld.ARR_STATE.STATE.at a, r.stateCode), (Fld.ARR_STATE.OP.at a, opCode (s.arrShown r).1),
   (Fld.ARR_STATE.PAUSED.at a, bit1 (decide ((s.arrShown r).2 ≠ 0))), (Fld.ARR_STATE.PAUSE_REASON.at a, (s.arrShown r).2),
   (Fld.ARR_STATE.MISSING.at a, r.downMembers.length),
   (Fld.ARR_FAILED.at a, r.downMembers.foldl (fun acc m => acc + 2 ^ m) 0),
   (Fld.ARR_SLOW.at a, maskOf r.members.length (fun m => ((r.mem m).map (·.slow)).getD false)),
   (Fld.ARR_PROGRESS.at a, pr.1), (Fld.ARR_TOTAL.at a, pr.2),
   (Fld.ARR_BOW.at a, if r.prev.isSome then r.bow else 2 ^ 64 - 1), (Fld.ARR_CKPT.at a, r.ckpt),
   (Fld.ARR_BOWBUF.SOURCE_MIB.at a, mibOf r.sources.length), (Fld.ARR_BOWBUF.DISPLACED_MIB.at a, mibOf r.displaced.length)]

/-- A lost-stripe entry as its 32 bytes (R196). -/
def lostBytes (e : LostEntry) : List Nat :=
  [e.array.val, e.kind, e.cause, 0] ++ leBytes 4 e.epoch ++ leBytes 6 e.stripe ++ leBytes 2 e.rowFirst ++ leBytes 6 e.mask ++
  leBytes 2 e.rowLast ++ leBytes 4 e.count ++ leBytes 4 e.left

/-- RBE: R196, R209. -/
def State.viewRbe (s : State) (addr : Nat) : List Shown :=
  let busy := s.rbe.arrays.foldl (fun acc a => if (s.arrShown a.2).1 = .none ∨ (s.arrShown a.2).2 ≠ 0 then acc else acc + 2 ^ a.1) 0
  let data := match s.rbe.lost[s.fld Fld.RBE_LOST_SEL.INDEX]? with
    | some e => ofBytes (lostBytes e)
    | none => 0
  let a := (addr - Fld.ARR_STATE.STATE.addr) / Fld.ARR_STATE.STATE.stride
  [(Fld.RBE_STATUS.BUSY, busy), (Fld.RBE_LOST_DATA, data)] ++
  (if Fld.ARR_STATE.STATE.addr ≤ addr then (match tget s.rbe.arrays a with
    | some r => s.viewArr a r
    | none => []) else [])

/-- CIP: R283, R284; slot i serves NSID i + 1 below 1,024. -/
def State.viewCip (s : State) : List Shown :=
  let slot := s.fld Fld.CIP_KEY_SEL.SLOT
  let k := tget s.cip.keys (slot + 1)
  [(Fld.CIP_SLOT_INFO.STATE, match k with
     | none => 0
     | some x => if x.exhausted then 3 else 2),
   (Fld.CIP_SLOT_INFO.CTX_VALID, bit1 ((k.bind (·.ctx)).isSome)), (Fld.CIP_SLOT_INFO.NSID, if slot < 1024 then slot + 1 else 0),
   (Fld.CIP_SLOT_CTX, (k.bind (·.ctx)).getD 0), (Fld.CIP_SLOT_CTR, (k.map (·.ctr)).getD 0),
   (Fld.CIP_SLOT_MARK, (tget s.cip.marks (slot + 1)).getD 0)]

/-- WC and VLT: R173, R174, R374. -/
def State.viewWc (s : State) : List Shown :=
  [(Fld.WC_STATUS.DESTAGE_ACTIVE, bit1 (!s.wc.updates.isEmpty)), (Fld.WC_STATUS.CLEAN, bit1 s.wcClean), (Fld.WC_VAULTED, s.vaulted),
   (Fld.WC_UNPROT_MS, s.fld Fld.WC_UNPROT_MS + (match s.wc.unprotAt with
     | some t => (s.now - t) / ms
     | none => 0)),
   (Fld.WC_CONTEXT.UPDATES, (s.wc.updates.filter (fun u => decide (4 ≤ u.step))).length), (Fld.WC_CONTEXT.CONTEXT_MIB, (s.ctxUsed + (2 ^ 20 - 1)) / 2 ^ 20),
   (Fld.WC_FRET.SET, s.wc.fret.length), (Fld.WC_RESYNC.REGIONS_LEFT, s.wc.resync.length),
   (Fld.WC_RESYNC.ACTIVE, bit1 (!s.wc.resync.isEmpty)), (Fld.VLT_STATUS.ERASING, bit1 (!s.vault.erasing.isEmpty))]

/-- FAN: R394, R395. -/
def State.viewFan (s : State) : List Shown :=
  [(Fld.THERM_STATUS.TJ, bitsOf 8 (s.tjDeci / 10)),
   (Fld.THERM_SENSOR.DECI_C, bitsOf 16 ((tget s.therm.sensors (s.fld Fld.THERM_SEL.SENSOR)).getD 0))]

/-- Whether a soundpost copy holds the newest soundpost. -/
def State.spHeld (s : State) (t : Tbl Soundpost) (slots : Nat) : Bool :=
  match tget t (s.fld Fld.SP_LAST_SEQ % slots) with
  | some p => p.seq == s.fld Fld.SP_LAST_SEQ
  | none => false

/-- EVR: R418, R419. -/
def State.viewEvr (s : State) : List Shown :=
  let e := s.evr
  [(Fld.EVR_STATUS.SIDE_QUEUE, e.sideQ.length), (Fld.EVR_STATUS.AUTH_ENROLLED, bit1 e.authKey.isSome),
   (Fld.EVR_PAGES.IN_USE, e.pages.length), (Fld.EVR_PAGES.OPEN, ((e.pages.find? (fun p => p.2.isOpen)).map (·.1)).getD 0),
   (Fld.SP_STATUS.VALID, bit1 (s.spHeld e.spEmram 4) + 2 * bit1 (s.spHeld e.spVault 32) + 4 * bit1 (s.spHeld e.spFlash 4)),
   (Fld.SP_STATUS.WRITING, bit1 (!e.spVaultDue.isEmpty || !e.spFlashDue.isEmpty))]

/-- The code of a pluck entry's state (R348). -/
def pluckCode (x : PluckSt) : Nat :=
  match x with
  | .armed => 1
  | .done => 2
  | .lateDone => 3
  | .dropped => 4
  | .cancelled => 5
  | .running => 6

/-- PIT: R347, R348. -/
def State.viewPit (s : State) : List Shown :=
  let e := tget s.fed.plucks (s.fld Fld.PLUCK_SEL.INDEX)
  [(Fld.PLUCK_STATE.STATE, (e.map (fun x => pluckCode x.state)).getD 0), (Fld.PLUCK_STATE.DROP_REASON, (e.map (·.reason)).getD 0),
   (Fld.PLUCK_STATE.STANDING, bit1 ((e.map (·.standing)).getD false)), (Fld.PLUCK_LATE, (e.map (·.lateness)).getD 0)]

/-- FED: R347, R348. -/
def State.viewFed (s : State) : List Shown :=
  [(Fld.FED_MEMBERS, s.fed.members.foldl (fun acc m => acc + 2 ^ m.1) 0), (Fld.FED_STATUS.MEMBERS, s.fed.members.length),
   (Fld.FED_STATUS.JOINED, bit1 (!s.fed.members.isEmpty))]

/-- A health word as its 16 bytes (R316). -/
def healthBytes (h : Health) : List Nat :=
  leBytes 2 h.seq ++ [h.role, h.flags] ++ leBytes 4 h.limitMib ++ leBytes 4 h.epoch ++ [h.cause, h.stFail, h.power, 0]

/-- The fields of a block that are decided at the read, by the address read (R456). -/
def State.viewBlock (s : State) (addr : Nat) : List Shown :=
  match addr / 0x100000 with
  | 0 => s.viewSys (if addr = Fld.SYS_HBM_STAT.TRAINED.addr then 0 else 1)
  | 1 => s.viewHfe
  | 5 => s.viewRbe addr
  | 6 => s.viewCip
  | 7 => [(Fld.DMA_STATUS.RUNNING, s.dma.runs.length), (Fld.DMA_STATUS.AREA_READY, bit1 s.fastAlive)]
  | 8 => [(Fld.LINK_STATUS.WRITE_GATE.at ((addr - Fld.LINK_STATUS.WRITE_GATE.addr) / Fld.LINK_STATUS.WRITE_GATE.stride), s.fld Fld.CAPO_STATUS.GATE_OPEN)]
  | 9 => s.viewWc
  | 11 => s.viewFan
  | 12 => s.viewEvr
  | 13 => s.viewPit
  | 14 => s.viewFed
  | 15 => [(Fld.PARTNER_HEALTH, (s.capo.partner.map (fun h => ofBytes (healthBytes h))).getD 0)]
  | 16 => [(Fld.IMG_KEY_STATUS.PROGRAMMED, maskOf 4 (fun i => ((s.img.keys[i]?).map (·.programmed)).getD false)),
           (Fld.IMG_KEY_STATUS.REVOKED, maskOf 4 (fun i => ((s.img.keys[i]?).map (·.revoked)).getD false))]
  | _ => []

/-- CURRENT of the fan channels, the motor's phase current (R394). No command of the table carries it, so what it reads as is free. -/
def fieldUnseen (f : Field) : Bool :=
  decide (0xB00100 ≤ f.addr) && decide (f.addr < 0xB00300) && decide (f.addr % 0x40 = 0x14)

/-- What a field reads as. -/
def State.shown (s : State) (f : Field) : Nat :=
  if fieldUnseen f then (Config.shownBits f.width s.freeIx f.key).toNat
  else match (s.viewBlock f.addr).find? (fun v => v.1.key = f.key) with
  | some v => v.2 % 2 ^ f.width
  | none => s.fld f

/-! ### Registers by address -/

/-- The instance of a field that covers a word address, if any. A field of more than 32 bits covers several words. -/
def Field.covers (f : Field) (addr : Nat) : Option Field :=
  let words := max 1 ((f.lsb + f.width + 31) / 32)
  let i := if f.stride = 0 then 0 else (addr - f.addr) / f.stride
  let g := f.at i
  if f.addr ≤ addr ∧ i < max 1 f.count ∧ g.addr ≤ addr ∧ addr < g.addr + 4 * words then some g else none

/-- The fields of the register at a word address. -/
def fieldsAt (addr : Nat) : List Field := fieldTable.filterMap (fun f => f.covers addr)

/-- The bits that a field puts into the word at an address. -/
def Field.inWord (f : Field) (addr v : Nat) : Nat := v * 2 ^ f.lsb / 2 ^ (8 * (addr - f.addr)) % 2 ^ 32

/-- What the register word at an address reads as: its readable fields together; a WO field reads as zero (R6, R457). -/
def State.regWord (s : State) (addr : Nat) : Nat :=
  (fieldsAt addr).foldl (fun acc f => if f.acc == .wo then acc else acc + f.inWord addr (s.shown f)) 0

/-! ### Which die serves a register, and register resets (R456, R462) -/

/-- The instance of a field that a key names. -/
def fieldOfKey (key : Nat) : Option Field :=
  fieldTable.findSome? (fun f =>
    if f.lsb = key % 4096 then
      match f.covers (key / 4096) with
      | some g => if g.addr = key / 4096 then some g else none
      | none => none
    else none)

/-- A register reset of a die (R462): every field that it serves and that such a reset returns to its Reset value, with the latches of
its registers (R464). -/
def State.resetRegs (s : State) (served : Nat → Bool) : State :=
  let gone (key : Nat) : Bool := served (key / 4096) && ((fieldOfKey key).map (fun f => f.life == .die)).getD false
  { s with regs := s.regs.filter (fun r => !gone r.1), latches := s.latches.filter (fun l => !served (l.1 / 4 / 4096)),
           heldLo := s.heldLo.filter (fun l => !served (l.1 / 4 / 4096)) }

/-! ### The soundpost's snapshot (R416) -/

/-- A register as the snapshot takes it: its offset and its words, one or two. -/
def fieldWords (f : Field) : Nat := max 1 ((f.lsb + f.width + 31) / 32)

/-- Offsets of the registers of a list of fields that hold an RO or RC field, ascending, each with whether it is the first word of a
64-bit pair. -/
def snapAddrs (fs : List Field) : List (Nat × Bool) :=
  let all := (fs.filter (fun f => f.acc == .ro || f.acc == .rc)).flatMap (fun f =>
    (List.range (max 1 f.count)).flatMap (fun i =>
      if f.width = 64 then [((f.at i).addr, true)] else (List.range (fieldWords f)).map (fun w => ((f.at i).addr + 4 * w, false))))
  sortOn (fun a => a.1) all.eraseDups

/-- Fields of blocks whose instances below `keep` are taken. -/
def snapGroup (blocks : List Nat) (only : Nat → Bool) : List (Nat × Bool) :=
  blocks.flatMap (fun b => (snapAddrs (fieldTable.filter (fun f => f.addr / 0x100000 = b))).filter (fun a => only a.1))

/-- The register groups of R416 in order, as the addresses to take. -/
def State.snapGroups (s : State) : List (List (Nat × Bool)) :=
  let arrOn (a : Nat) : Bool := decide (a < Fld.ARR_STATE.STATE.addr) ||
    (tget s.rbe.arrays ((a - Fld.ARR_STATE.STATE.addr) / Fld.ARR_STATE.STATE.stride)).isSome
  let fanOn (a : Nat) : Bool := decide (a < Fld.FAN_CTRL.SOURCE.addr) ||
    decide (s.fanCfg.channelsEn / 2 ^ ((a - Fld.FAN_CTRL.SOURCE.addr) / Fld.FAN_CTRL.SOURCE.stride) % 2 = 1)
  let prtOn (a : Nat) : Bool := s.fld (Fld.PORT_STATE.STATE.at ((a - Fld.LINK_STATUS.MODE.addr) / Fld.LINK_STATUS.MODE.stride)) != 0
  let dmaOn (a : Nat) : Bool := decide (a < Fld.WIN_CTRL.EN.addr - 0x10) ||
    (if a < Fld.CH_CTRL.EN.addr then s.bit (Fld.WIN_CTRL.EN.at ((a % 0x100000 - 0x1000) / 0x20))
     else s.fld (Fld.CH_STATUS.STATE.at ((a % 0x100000 - 0x4000) / 0x40)) != 0)
  [snapGroup [0, 15, 1, 9, 10, 6, 12, 13, 14, 16, 17] (fun _ => true), snapGroup [4, 5] arrOn, snapGroup [2, 3] (fun _ => true),
   snapGroup [11] fanOn, snapGroup [8] prtOn, snapGroup [7] dmaOn,
   snapGroup [8] (fun a => !prtOn a) ++ snapGroup [11] (fun a => !fanOn a) ++ snapGroup [7] (fun a => !dmaOn a)]

/-- The registers that fit into what room is left, whole pairs only, and how many were left out: once one does not fit, it and every
later one are counted (R416). -/
def State.takeSnap (s : State) (room : Nat) (acc : List (Nat × Nat)) : List (Nat × Bool) → List (Nat × Nat) × Nat
  | [] => (acc, 0)
  | (a, pair) :: r =>
    let need := if pair then 2 else 1
    if room < need then (acc, r.length + 1)
    else s.takeSnap (room - need) (acc ++ [(a, s.regWord a)] ++ (if pair then [(a + 4, s.regWord (a + 4))] else [])) r

/-- SNAPSHOT and SNAP_OMITTED (R416). -/
def State.snapshot (s : State) : List (Nat × Nat) × Nat :=
  s.takeSnap 2048 [] ((s.snapGroups.flatMap (fun g => g)).filter (fun a => s.servedNow a.1))

end Sys2Proof.Machine
end

