-- ==== Sys2Proof/Machine/Updates.lean ====
section
/-!
DEFINITION. Machine/Updates.lean: the write path's commands: placement and the dirty limit (R147 to R154), stripe updates (R157 to
R162, R495, R496), the fret map (R161), the mirror's acknowledgements (R148), vault areas and replay (R166 to R168), the resync
scan (R169, R170), the dirty-namespace bitmap (R172).
-/
namespace Sys2Proof.Machine

/-! ### Placement and the dirty limit -/

/-- Whether a command has sectors on their way through the cipher engine. -/
def State.sealing (s : State) (tag : Nat) : Bool :=
  s.cip.waiting.any (fun m => m.enc && m.tag == tag) || s.cip.suspended.any (fun m => m.enc && m.tag == tag) ||
  s.cip.pipes.any (fun p => p.2.enc && p.2.tag == tag)

/-- WRITE_PLACED (R147, R148, R172): every sector of the command is placed, so it is completed, once the namespace's dirty bit and
the partner have acknowledged. -/
def execWritePlaced (tag : Nat) (s : State) : Out State :=
  match s.cmd tag with
  | none => .next s
  | some c =>
    if c.phase != .placing || s.sealing tag then .next s
    else
      let need := s.needDirtyNs c.nsid
      let s := need.2
      let c := { c with phase := .placed, plain := [], dirtyWait := need.1, outside := c.outside || need.1 }
      let s := s.putCmd { c with mirrorWait := s.mirrorPending c }
      .next (s.writeReady tag)

/-- DIRTY_LIMIT_ADMIT (R152 to R154). -/
def execDirtyLimitAdmit (s : State) : Out State := .next s.admitAll

/-- DIRTY_LIMIT_RECOMPUTE (R151 to R154). -/
def execDirtyLimitRecompute (s : State) : Out State := .next s.recomputeLimit

/-- DIRTY_NAMESPACE_SET_ACK (R172): the bit stands in eMRAM; writes that waited for it go on. -/
def execDirtyNamespaceSetAck (nsid : Nat) (s : State) : Out State :=
  if s.wc.dirtyNsSet.contains nsid then
    let w := s.wc
    let s := { s with wc := { w with dirtyNsSet := w.dirtyNsSet.filter (· ≠ nsid), dirtyNs := insertOn (fun x => x) nsid w.dirtyNs } }
    .next (s.hfe.cmds.foldl (fun (st : State) c =>
      if c.dirtyWait && c.nsid == nsid then (st.putCmd { c with dirtyWait := false }).writeReady c.tag else st) s)
  else .next s

/-- DIRTY_NAMESPACE_CLEAR (R172): the bit of a namespace that holds no dirty sector is cleared. -/
def execDirtyNamespaceClear (nsid : Nat) (s : State) : Out State :=
  if s.nsClean nsid then .next { s with wc := { s.wc with dirtyNs := s.wc.dirtyNs.filter (· ≠ nsid) } } else .next s

/-- MIRROR_ACK (R148, R318): the partner acknowledges the oldest item that waits. -/
def execMirrorAck (s : State) : Out State :=
  match s.capo.unacked with
  | [] => .next s
  | _ :: r => .next ({ s with capo := { s.capo with unacked := r } } : State).mirrorWake

/-- MIRROR_LOST (R148, R320). -/
def execMirrorLost (s : State) : Out State := .next s.loseMirror

/-! ### Stripe updates -/

/-- STRIPE_UPDATE_START (R157 to R159). -/
def execStripeUpdateStart (a : ArrayId) (stripe : Nat) (s : State) : Out State := .next
  (s.startUpdate a stripe (fun st g ls => st.destageDue g ls && st.destageTurn a stripe))

/-- DIRTY_AGE_EXPIRY (R157): a sector that has stayed DIRTY for MAX_AGE_MS is destaged, its stripe partial or not. -/
def execDirtyAgeExpiry (nsid lba : Nat) (s : State) : Out State :=
  match s.line nsid lba, s.spot nsid lba with
  | some l, some (a, x) =>
    match s.arr a with
    | none => .next s
    | some r => if l.state == .dirty then .next (s.startUpdate a (r.place x).stripe (fun _ _ _ => true)) else .next s
  | _, _ => .next s

/-- GATHER_EXPIRY (R157): GATHER_MS has passed since the newest write to a partial stripe, so START_PCT takes it. -/
def execGatherExpiry (a : ArrayId) (stripe : Nat) (s : State) : Out State :=
  .next (s.startUpdate a stripe (fun st _ _ => st.destageNow || decide (st.limitBytes * st.wcCfg.startPct < st.vaulted * 100)))

/-- STRIPE_UPDATE_READS_DONE (R158, R159 steps 2 and 3). -/
def execStripeUpdateReadsDone (id : Nat) (s : State) : Out State :=
  match s.upd id with
  | none => .next s
  | some u =>
    match s.updGeom u with
    | none => .next s
    | some (r, g) => if u.step ≠ 2 ∨ s.memberBusy (.update id) = true then .next s else .next (s.computeUpdate r g u)

/-- STRIPE_UPDATE_CONTEXT_SAVED (R159 step 4, R160): an update that finds MAX_UPDATES or CONTEXT_MIB reached waits; while mirrored
the partner's acknowledgement comes before step 5. -/
def execStripeUpdateContextSaved (id : Nat) (s : State) : Out State :=
  match s.upd id with
  | none => .next s
  | some u =>
    let held := (s.wc.updates.filter (fun v => 4 ≤ v.step)).length
    if u.step ≠ 3 ∨ s.wcCfg.maxUpdates ≤ held ∨ s.wcCfg.contextMib * 2 ^ 20 < s.ctxUsed + u.read.length * 4096 then .next s
    else
      let v := { u with step := 4, partnerWait := s.mirrored }
      let s := ((s.putUpd v).mirror (.context v)).noteLimit
      if s.mirrored then .next s else .next (s.beginFret id)

/-- FRET_SET_ACK (R159 step 5, R161): eMRAM acknowledges the sets issued for an update; every update that waited on one of those bits
is looked at again. -/
def execFretSetAck (id : Nat) (s : State) : Out State :=
  let mine (o : FretOp) : Bool := o.set && o.update == some id
  let bits := (s.wc.fretOps.filter mine).map (·.bit)
  let w := s.wc
  let s := { s with wc := { w with
    fretOps := w.fretOps.filter (fun o => !mine o), fret := bits.foldl (fun l b => insertOn (fun x => x) b l) w.fret,
    lastSet := bits.foldl (fun t b => tput t b s.now) w.lastSet } }
  .next (s.wc.updates.foldl (fun (st : State) u => st.fretReady u.id) s)

/-- DATA_WRITES_DONE (R159 step 6, R496): the data writes are durable, so P and Q follow. No member write is issued after
AC_FAIL_N asserts (R163). -/
def execDataWritesDone (id : Nat) (s : State) : Out State :=
  match s.upd id with
  | none => .next s
  | some u =>
    match s.updGeom u with
    | none => .next s
    | some (r, g) =>
      if u.step ≠ 6 ∨ s.memberBusy (.update id) = true ∨ s.gateOpen = false ∨ s.acFail = true then .next s
      else
        let s := s.writeData6 r g u
        let v := { ((s.upd id).getD u) with step := 7 }
        .next ((s.putUpd v).issueParity v)

/-- PARITY_WRITES_DONE (R159 steps 7 and 8). -/
def execParityWritesDone (id : Nat) (s : State) : Out State :=
  match s.upd id with
  | none => .next s
  | some u =>
    match s.updGeom u with
    | none => .next s
    | some (r, g) =>
      if u.step ≠ 7 ∨ s.memberBusy (.update id) = true ∨ s.gateOpen = false ∨ s.acFail = true then .next s
      else .next ((s.writeParity7 r g u).finishUpdate u)

/-! ### The fret map -/

/-- FRET_CLEAR (R161): a region whose in-flight count has been 0 for CLEAR_DELAY_MS has its bit written to 0. -/
def execFretClear (bit : Nat) (s : State) : Out State := if s.clearable bit then .next (s.issueClear bit) else .next s

/-- FRET_CLEAR_ACK (R161): the clear stands; an update that waited for it sets the bit again. -/
def execFretClearAck (bit : Nat) (s : State) : Out State :=
  let isClear (o : FretOp) : Bool := o.bit == bit && !o.set
  if s.wc.fretOps.any isClear then
    let w := s.wc
    let s := { s with wc := { w with fretOps := w.fretOps.filter (fun o => !isClear o), fret := w.fret.filter (· ≠ bit) } }
    match s.wc.updates.find? (fun u => u.step = 5 ∧ (s.updBits u).contains bit) with
    | some u => .next (s.issueSet u.id bit)
    | none => .next s
  else .next s

/-- DESTAGE_ALL (R157, R174). -/
def execWcDestageAll (s : State) : Out State :=
  s.command Fld.WC_CMD.CMD.addr (fun s =>
  .next { s with wc := { s.wc with destageAll := s.wc.lines.any (fun l => l.2.isDirty) } })

/-- CLEAR_IDLE (R161, R174): idle bits last set at least CLEAR_DELAY_MS ago are cleared at once. -/
def execWcClearIdle (s : State) : Out State :=
  s.command Fld.WC_CMD.CMD.addr (fun s =>
  .next (s.wc.fret.foldl (fun (st : State) b =>
    let old : Bool := match tget st.wc.lastSet b with
      | some t => decide (t + st.wcCfg.clearDelayMs * ms ≤ st.now)
      | none => true
    if st.clearable b && old then st.issueClear b else st) s))

/-! ### Vault areas and replay -/

/-- DUMP_RETIRE (R166): the dump is retired and its area is erased in the background. -/
def execDumpRetire (area : Fin 2) (s : State) : Out State :=
  match tget s.vault.dumps area.val with
  | none => .next s
  | some d =>
    if s.retirable area.val d && !s.safeMode then
      .next (({ s with vault := { s.vault with
        dumps := tput s.vault.dumps area.val { d with retired := true },
        erasing := if s.vault.erasing.contains area.val then s.vault.erasing else s.vault.erasing ++ [area.val] } } :
        State).setFld (Fld.VLT_AREA.STATE.at area.val) 2)
    else .next s

/-- AREA_ERASE_DONE (R369): every block verified erased, so the area is ready again and L is recomputed (R152). Erase stops while
AC_FAIL_N is asserted, and in Safe Mode the vault is not erased (R43). -/
def execAreaEraseDone (area : Fin 2) (s : State) : Out State :=
  if s.vault.erasing.contains area.val && !s.acFail && !s.safeMode then
    let v := s.vault
    let s := { s with vault := { v with dumps := tdel v.dumps area.val, erasing := v.erasing.filter (· ≠ area.val) } }
    let s := ((s.setFld (Fld.VLT_AREA.STATE.at area.val) 0).setBit (Fld.VLT_AREA.COMPLETE.at area.val) false).setBit
      (Fld.VLT_AREA.CANCELLED.at area.val) false
    .next s.recomputeLimit
  else .next s

/-- VAULT_REPLAY_START (R167, R168, R323): the device that may write, with a dump pending, replays the newest one. -/
def execVaultReplayStart (s : State) : Out State :=
  if s.bit Fld.HFE_STATUS.REPLAY_PENDING ∧ s.wc.replay.isNone ∧ s.pwr.fast = .running ∧ s.gateOpen = true ∧
      ¬ s.bit Fld.PWR_STATE.BOOTING then
    match s.replayDump with
    | none => .next s
    | some d => .next (({ s with wc := { s.wc with replay := some d } } : State).setBit Fld.VLT_STATUS.REPLAYING true)
  else .next s

/-- The bow buffer and descriptor of a dump restored (R206). -/
def State.restoreBow (s : State) (b : BowSave) : State :=
  { s with rbe := { s.rbe with arrays := tmod s.rbe.arrays b.array (fun r =>
      { r with bow := b.bow, ckpt := b.ckpt, sources := b.sources, displaced := b.displaced }) } }

/-- A dump with the saved sectors, by NSID and LBA, whose blocks fail their check and cannot be rebuilt from their stripe taken as unsaved
(R167, R368). -/
def Dump.spoiled (d : Dump) (failed : List (Nat × Nat)) : Dump :=
  { d with sectors := d.sectors.map (fun x => if failed.contains (x.nsid, x.lba) then { x with saved := false } else x) }

/-- The dirty sectors sent to the partner's mirror (R167 step 5). -/
def State.mirrorDirty (s : State) : State :=
  (s.wc.lines.filter (fun l => l.2.isDirty)).foldl (fun (st : State) l =>
    st.mirror (.sector (keyNs l.1) (keyLba l.1) l.2.newest l.2.cls l.2.seq true)) s

/-- VAULT_RESTORE_DONE (R167 step 1, R368): contexts, bow buffer and saved dirty sectors are in HBM again, but for those whose blocks fail; the
contexts become updates to redo from step 4. -/
def execVaultRestoreDone (s : State) : Out State :=
  match s.wc.replay with
  | none => .next s
  | some d =>
    if d.retired then .next s
    else
      let d := d.spoiled s.vault.failing
      let ups := d.contexts.map (fun u => { u with step := 3, partnerWait := false })
      let w := s.wc
      let s := { s with wc := { w with
        updates := ups, nextUpd := ups.foldl (fun n u => max n (u.id + 1)) w.nextUpd, counts := [],
        replay := some { d with retired := true } } }
      let s := d.bow.foldl State.restoreBow s
      .next ((d.sectors.filter (·.saved)).foldl State.restoreSector s).noteLimit

/-- The scan begun for every fret bit still set; a scan that a reset stopped goes on from its saved position (R169). -/
def State.startResync (s : State) : State :=
  let pos := if s.wc.resync.head? = s.wc.fret.head? then s.wc.resyncPos / 256 * 256 else 0
  let s := { s with wc := { s.wc with resync := s.wc.fret, resyncPos := pos } }
  (List.finRange 16).foldl (fun (st : State) (a : ArrayId) =>
    match st.arr a with
    | none => st
    | some r => if st.wc.resync.any (fun b => decide (r.fretBase ≤ b) && decide (b < r.fretBase + r.fretBits)) then
        st.putArr a (r.want .resync) else st) s

/-- Unsaved extents restored from an older dump, or reported with cause 0x02 (R167 step 4): the state and how many were reported. DESIGN CHOICE
(assumption 30): WC_REPLAY.UNRESTORED counts an extent for each sector. -/
def State.restoreRest (s : State) (seq : Nat) (l : List DumpSector) : State × Nat :=
  l.foldl (fun (acc : State × Nat) d =>
    match acc.1.olderCopy seq d with
    | some x => (acc.1.restoreSector { d with sec := x.sec }, acc.2)
    | none => (acc.1.deferError d.nsid 0x02 d.lba 1, acc.2 + 1)) (s, 0)

/-- VAULT_REPLAY_COMPLETE (R167 steps 3 to 5): every redo has passed step 8; the regions redone are clear, the rest is restored or
reported, and the namespaces come online. -/
def execVaultReplayComplete (s : State) : Out State :=
  match s.wc.replay with
  | none => .next s
  | some d =>
    if !d.retired || !s.wc.updates.isEmpty then .next s
    else
      let redone := d.contexts.flatMap (fun u => s.updBits u)
      let s := { s with wc := { s.wc with fret := s.wc.fret.filter (fun b => ¬ redone.contains b), replay := none } }
      let (s, n) := s.restoreRest d.seq (d.sectors.filter (fun x => !x.saved))
      let s := (s.setBit Fld.HFE_STATUS.REPLAY_PENDING false).setBit Fld.VLT_STATUS.REPLAYING false
      let s := (s.setFld Fld.WC_REPLAY.RESULT (if n = 0 then 1 else 2)).setFld Fld.WC_REPLAY.UNRESTORED (min n 65535)
      let step7 := s.pwr.bootStart + s.fld Fld.PWR_BOOT_US * 1000
      .next ((s.setFld Fld.PWR_REPLAY_MS (min ((s.now - step7) / ms) 0xFFFFFFFF)).mirrorDirty.startResync.noteLimit)

/-! ### Resync scan -/

/-- The stripes of a fret region with the epoch that each lies in: the current one below the bow (R161, R202). -/
def Arr.regionStripes (r : Arr) (b : Nat) : List (Bool × Nat) :=
  let per := 2 ^ (r.fretExp - 12)
  let lo := (b - r.fretBase) * per
  let hi := lo + per
  let span (g : Geom) (old : Bool) (first limit : Nat) : List (Bool × Nat) :=
    if first < limit then
      (List.range ((limit - 1) / g.stripeData + 1 - first / g.stripeData)).map (fun i => (old, first / g.stripeData + i))
    else []
  match r.prev with
  | none => span r.cur false lo (min hi r.cur.dataSpace)
  | some p => span r.cur false lo (min hi r.bow) ++ span p true (max lo r.bow) (min hi p.dataSpace)

/-- A stripe of the scan recomputed, where its lock is free (R169, R170). -/
def State.resyncOne (s : State) (a : ArrayId) (x : Option (Bool × Nat)) : Option State :=
  match x with
  | none => some s
  | some (old, t) =>
    if s.stripeBusy a old t then none
    else some (s.resyncStripe a old t)

/-- RESYNC_SCAN_STEP (R169, R170): the next stripe of the lowest region that awaits its scan; the region's bit is cleared with its
last stripe. The stripe's lock must be free and every present member must answer. -/
def execResyncScanStep (a : ArrayId) (s : State) : Out State :=
  match s.arr a, s.wc.resync with
  | some r, b :: rest =>
    let sts := r.regionStripes b
    if b < r.fretBase ∨ r.fretBase + r.fretBits ≤ b ∨ s.gateOpen = false ∨ s.acFail = true ∨ s.pwr.fast ≠ .running ∨
        s.arrayUp r = false then .next s
    else
      match s.resyncOne a sts[s.wc.resyncPos]? with
      | none => .next s
      | some s =>
        if s.wc.resyncPos + 1 < sts.length then .next { s with wc := { s.wc with resyncPos := s.wc.resyncPos + 1 } }
        else
          let w := s.wc
          let fret := if (tget w.counts b).isNone then w.fret.filter (· ≠ b) else w.fret
          let s := { s with wc := { w with resync := rest, resyncPos := 0, fret := fret } }
          match s.arr a with
          | none => .next s
          | some r =>
            if rest.any (fun b => decide (r.fretBase ≤ b) && decide (b < r.fretBase + r.fretBits)) then .next s
            else .next (s.putArr a (r.unwant .resync))
  | _, _ => .next s

end Sys2Proof.Machine
end

