-- ==== Sys2Proof/Machine/CapoOps.lean ====
section
/-!
DEFINITION. Machine/CapoOps.lean: what the pair's commands share: the code on CAPO_CLAIM (R309), the gate (R311), claim and release
(R313, R315), line faults (R314, R317), health words (R316), mirrored items (R318), start-up roles (R323).
-/
namespace Sys2Proof.Machine

/-- Whether the running image puts the device into a pair (R32, R305). -/
def State.paired (s : State) : Bool := (s.img.running.map imagePair).getD false

/-- Pair and federation thresholds of the running image, or their defaults (R307, R330). -/
def State.thresholds (s : State) : Thresholds := (s.img.running.bind (·.thresholds)).getD {}

/-- Identity of the running image (R306, R329). -/
def State.identity (s : State) : Identity := (s.img.running.bind (·.identity)).getD {}

/-- PAIR_RANK (R306). -/
def State.rank (s : State) : Nat := s.identity.pairRank

/-- CAPO_STATUS.ROLE (R328): 0 STARTING, 1 STANDBY, 2 CLAIMING, 3 ACTIVE, 4 RELEASING, 5 FAULT, 6 UNPAIRED. -/
def State.role (s : State) : Nat := s.fld Fld.CAPO_STATUS.ROLE

/-- CAPO_STATUS.ROLE set. -/
def State.setRole (s : State) (r : Nat) : State := s.setFld Fld.CAPO_STATUS.ROLE r

/-- CAPO_STATUS.SEEN (R328): 1 ACTIVE, 2 CONSENT, 3 RELEASED, 4 STUCK_LOW, 5 STUCK_HIGH, 6 INVALID. -/
def State.seen (s : State) : Nat := s.fld Fld.CAPO_STATUS.SEEN

/-- The code of a class (R328). -/
def seenCode (c : SeenClass) : Nat :=
  match c with
  | .active => 1
  | .consent => 2
  | .released => 3
  | .stuckLow => 4
  | .stuckHigh => 5
  | .invalid => 6

/-- Whether the capo island is in reset: by the reset pins, a boot that has not handed over, Safe Mode or Tamper Hold (R309). -/
def State.islandOff (s : State) : Bool :=
  s.pwr.fast == .inReset || s.pwr.fast == .unpowered || s.pwr.fast == .booting || s.bit Fld.IMG_BOOT.SAFE_MODE ||
  s.bit Fld.CIP_STATUS.TAMPER_HOLD

/-- The code driven on CAPO_CLAIM (R309, R328): 0 RELEASED, 1 ACTIVE, 2 CONSENT, 3 FAULT. -/
def State.driveCode (s : State) : Nat :=
  if s.islandOff || s.capo.released then 0
  else if decide (4 ≤ s.seen) || s.bit Fld.CAPO_STATUS.READBACK_FAULT || s.bit Fld.CAPO_STATUS.LINE_FAULT then 3
  else if s.capo.request then 1 else 2

/-- CAPO_CLAIM driven with the code that holds. -/
def State.driveCapo (s : State) : State := s.setFld Fld.CAPO_STATUS.DRIVE s.driveCode

/-- A line fault (R314, R317): the gate closes, the fault is latched, the line drives FAULT. -/
def State.lineFault (s : State) : State :=
  let s := s.closeGate
  let s := { s with capo := { s.capo with request := false, backoff := false } }
  let s := if s.bit Fld.CAPO_STATUS.LINE_FAULT then s
    else ((s.setBit Fld.CAPO_STATUS.LINE_FAULT true).setFld Fld.CAPO_STATUS.IDLE_REASON 1).emit .capoLineFault [s.seen]
  (s.setRole 5).driveCapo

/-- Writes no longer mirrored because the device is no longer the active one; what waits for the partner goes on. -/
def State.mirrorOff (s : State) : State :=
  let s := (s.setBit Fld.WC_STATUS.MIRROR_ON false).setBit Fld.PAIR_STATUS.MIRROR_ON false
  let s := s.setBit Fld.PAIR_STATUS.SYNCING false
  ({ s with capo := { s.capo with unacked := [] }, wc := { s.wc with partnerLimit := none } } : State).mirrorWake

/-! ### Health words (R316) -/

/-- ROLE of a health word by the role of the device. -/
def healthRole (role : Nat) : Nat :=
  match role with
  | 0 => 0
  | 1 => 1
  | 2 => 1
  | 3 => 2
  | 4 => 3
  | _ => 4

/-- KEYS_READY: every namespace of the image has a loaded slot (R273). -/
def State.keysReady (s : State) : Bool :=
  ((s.img.running.map (·.namespaces)).getD []).all (fun n => (tget s.cip.keys n.nsid).isSome)

/-- The device's health word. -/
def State.healthWord (s : State) : Health :=
  { seq := s.capo.seqOut % 65536, role := healthRole s.role,
    flags := s.fld Fld.PAIR_STATUS.MIRROR_ON + 2 * bit1 (decide (s.capo.passed = 63)) + 4 * bit1 s.keysReady +
      8 * s.fld Fld.PAIR_STATUS.STATE_COMPLETE + 16 * bit1 s.acFail,
    limitMib := s.fld Fld.WC_LIMIT.MIB, epoch := s.fld Fld.PAIR_EPOCH,
    cause := if healthRole s.role = 3 then s.capo.releaseCause else 0, stFail := s.fld Fld.SELFTEST_STATUS.FAIL,
    power := if s.fld Fld.PWR_STATE.STATE = 4 then s.fld Fld.PWR_STATE.TARGET
      else if s.fld Fld.PWR_STATE.STATE = 5 then s.pwr.lastOp else s.fld Fld.PWR_STATE.STATE }

/-- A health word sent (R316). -/
def State.sendHealth (s : State) : State :=
  let h := s.healthWord
  let c := s.capo
  { s with capo := { c with seqOut := c.seqOut + 1, sent := c.sent ++ [h] } }

/-! ### Claim and release (R311 to R315) -/

/-- Whether the device may request the claim (R312, R314, R315, R321). -/
def State.mayClaim (s : State) : Bool :=
  s.paired && !s.islandOff && !s.acFail && !s.capo.expired && !s.bit Fld.CAPO_STATUS.LINE_FAULT &&
  !s.bit Fld.CAPO_STATUS.READBACK_FAULT && !s.bit Fld.SELFTEST_STATUS.CRITICAL

/-- The claim requested: the line drives ACTIVE, and the gate waits for its conditions (R311). -/
def State.beginClaim (s : State) : State :=
  if s.mayClaim then
    let s := { s with capo := { s.capo with request := true, released := false, backoff := false, renewAt := s.now } }
    ((s.setRole 2).setFld Fld.CAPO_STATUS.IDLE_REASON 0).driveCapo
  else s.driveCapo

/-- A release begun (R315): the gate closes first; CAPO_CLAIM stays ACTIVE until every write-class command has ended. -/
def State.beginRelease (s : State) (cause : Nat) : State :=
  let s := s.closeGate
  ({ s with capo := { s.capo with releaseCause := cause, fence := false } } : State).setRole 4

/-- Whether a write-class member command is outstanding anywhere. -/
def State.writesOut (s : State) : Bool := s.ports.any (fun p => p.2.slots.any (fun c => writeClass c.2.kind))

/-- Updates that a device which gives up the claim leaves (R159, R160, R318): those with a saved context are the partner's to redo, and
stand as mirrored contexts; the sectors of the others are dirty again. -/
def State.leaveUpdates (s : State) : State :=
  let kept := s.wc.updates.filter (fun u => 4 ≤ u.step)
  let dropped := s.wc.updates.filter (fun u => u.step < 4)
  let s := { s with capo := { s.capo with mirrorCtx := s.capo.mirrorCtx ++ kept }, wc := { s.wc with updates := [], counts := [] } }
  (dropped.flatMap (·.sectors)).foldl (fun (st : State) x =>
    st.withLines (tmod st.wc.lines (nsKey x.nsid x.lba) (fun (l : WcLine) =>
      { l with state := .dirty, sec := l.newest, newer := none }))) s

/-- The end of a release: CAPO_CLAIM drives RELEASED and the device is standby (R315). -/
def State.endRelease (s : State) : State :=
  let s := s.leaveUpdates
  let s := { s with capo := { s.capo with request := false, released := true, backoff := false } }
  ((s.setRole 1).driveCapo).mirrorOff

/-- The claim withdrawn in a contention (R313): a device that has been ACTIVE gives it up under R315. -/
def State.withdraw (s : State) : State :=
  if s.role = 3 then s.beginRelease 0
  else (({ s with capo := { s.capo with request := false } } : State).setRole 1).driveCapo

/-- Whether the conditions of R311 hold but for the times. -/
def State.gateHolds (s : State) : Bool :=
  s.capo.request && s.fld Fld.CAPO_STATUS.DRIVE == 1 && !s.bit Fld.CAPO_STATUS.READBACK_FAULT && !s.capo.expired &&
  (s.seen == 2 || s.seen == 3)

/-- The time for which the class of CAPO_SEEN must have stood (R311). -/
def State.confirmTime (s : State) : Nat := if s.seen = 2 then 1500000 else s.thresholds.claimConfirmMs * ms

/-- Whether a health word with ROLE 2 came in the last 30 ms (R317). -/
def State.partnerActive (s : State) : Bool :=
  match s.capo.partner with
  | some h => decide (h.role = 2) && decide (s.now ≤ s.capo.partnerAt + 30 * ms)
  | none => false

/-- A new class of CAPO_SEEN acted on (R309, R311, R313, R314, R317). -/
def State.seeClass (s : State) : State :=
  let s := if s.gateHolds then s else s.closeGate
  if !s.paired || s.islandOff then s.driveCapo
  else if 4 ≤ s.seen then s.lineFault
  else if s.seen = 3 ∧ s.role = 1 ∧ s.partnerActive then s.lineFault
  else if s.seen = 1 ∧ s.capo.request ∧ s.role ≠ 4 ∧ s.rank = 1 then s.withdraw
  else s.driveCapo

/-! ### The standby's mirror (R318, R319) -/

/-- A mirrored sector in the standby's cache (R149, R318). -/
def State.mirrorSector (s : State) (nsid lba : Nat) (sec : CSec) (cls seq : Nat) : State :=
  let key := nsKey nsid lba
  let w := s.wc
  { s with wc := { w with lines := tput w.lines key (placedLine (tget w.lines key) sec cls seq s.now false none),
                          nextSeq := max w.nextSeq (seq + 1) } }

/-- The sectors that a mirrored context carries stand as DESTAGING, newer copies beside them (R149). -/
def State.mirrorContext (s : State) (u : Update) : State :=
  let c := s.capo
  let s := { s with capo := { c with mirrorCtx := c.mirrorCtx.filter (fun v => v.id ≠ u.id) ++ [u] } }
  u.sectors.foldl (fun (st : State) x =>
    st.withLines (tmod st.wc.lines (nsKey x.nsid x.lba) (fun (l : WcLine) =>
      if l.newest = x.sec then { l with state := .destaging, sec := x.sec, newer := none }
      else { l with state := .redirtied, sec := x.sec, newer := some l.newest }))) s

/-- A completed update frees its mirror copies (R318). -/
def State.mirrorDone (s : State) (id : Nat) : State :=
  let c := s.capo
  let mine := c.mirrorCtx.filter (fun v => v.id = id)
  let s := { s with capo := { c with mirrorCtx := c.mirrorCtx.filter (fun v => v.id ≠ id) } }
  (mine.flatMap (·.sectors)).foldl (fun (st : State) x =>
    match st.line x.nsid x.lba with
    | some l => if l.state = .redirtied then st.withLines (tput st.wc.lines (nsKey x.nsid x.lba) (settledLine l))
                else st.withLines (tdel st.wc.lines (nsKey x.nsid x.lba))
    | none => st) s

/-- An array changed by a mirrored item. -/
def State.mirrorArr (s : State) (a : ArrayId) (f : Arr → Arr) : State :=
  match s.arr a with
  | some r => s.putArr a (f r)
  | none => s

/-- A mirrored item placed by the standby (R318). A sector whose CRC-64 fails is asked for again (R319). -/
def State.mirrorIn (s : State) (i : MirrorItem) : State :=
  match i with
  | .sector nsid lba sec cls seq crcOk => if crcOk then s.mirrorSector nsid lba sec cls seq else s
  | .context u => s.mirrorContext u
  | .fretSet b =>
    { s with wc := { s.wc with fret := if s.wc.fret.contains b then s.wc.fret else insertOn (fun x => x) b s.wc.fret } }
  | .fretClear b => { s with wc := { s.wc with fret := s.wc.fret.filter (· ≠ b) } }
  | .nonceMark nsid m => { s with cip := { s.cip with marks := tput s.cip.marks nsid m } }
  | .dirtyNs n =>
    { s with wc := { s.wc with dirtyNs := if s.wc.dirtyNs.contains n then s.wc.dirtyNs else insertOn (fun x => x) n s.wc.dirtyNs } }
  | .deferred nsid cause slba nlb => s.deferError nsid cause slba nlb
  | .lost a epoch stripe row mask cause =>
    s.listLost ⟨a, 0, cause, epoch, stripe, row, row, mask, 1, ((List.range 48).filter (fun u => mask / 2 ^ u % 2 = 1)).length⟩
  | .bowSource a lba sec => s.mirrorArr a (fun r => { r with sources := tput r.sources lba sec })
  | .bowDisplaced a lba sec => s.mirrorArr a (fun r => { r with displaced := tput r.displaced lba sec })
  | .checkpoint a c => s.mirrorArr a (fun r =>
      { r with ckpt := c, bow := max r.bow c, sources := r.sources.filter (fun p => c ≤ p.1) })
  | .updateDone id _ => s.mirrorDone id

/-! ### Roles (R322 to R324) -/

/-- The device's own dumps retired without a replay (R323, R324). -/
def State.retireOwn (s : State) : State :=
  let v := s.vault
  let due := v.dumps.filter (fun d => !d.2.retired)
  let s := { s with vault := { v with
    dumps := v.dumps.map (fun (d : Nat × Dump) => (d.1, { d.2 with retired := true })),
    erasing := due.foldl (fun (l : List Nat) d => if l.contains d.1 then l else l ++ [d.1]) v.erasing } }
  let s := due.foldl (fun (st : State) d => st.setFld (Fld.VLT_AREA.STATE.at d.1) 2) s
  s.setBit Fld.HFE_STATUS.REPLAY_PENDING false

/-- The standby role taken: the device waits for the partner's state. -/
def State.standBy (s : State) : State :=
  let s := { s with capo := { s.capo with chosen := true } }
  ((s.setRole 1).setFld Fld.CAPO_STATUS.IDLE_REASON 0).driveCapo

/-- The device becomes standby of a device that is already active: its own dump is retired without a replay (R323 rule 1). -/
def State.becomeStandby (s : State) : State := s.standBy.retireOwn

/-- The device becomes standby of one that claims now: its own dump is retired when that one has replayed (R168, R323 rule 2). -/
def State.standbyOfClaimer (s : State) : State :=
  let due := s.vault.dumps.any (fun d => !d.2.retired)
  ({ s with capo := { s.capo with retireDue := due } } : State).standBy

/-- The active synchronises, so it has replayed its dump (R323 rule 2): the device's own is retired (R168). -/
def State.retireWaiting (s : State) : State :=
  if s.capo.retireDue then ({ s with capo := { s.capo with retireDue := false } } : State).retireOwn else s

/-- Whether what a partner says matches the image's pair block (R323). -/
def State.matchPartner (s : State) (p : Partner) : Bool :=
  let i := s.identity
  p.device == i.partnerId && p.pairUuid == i.pairUuid && p.rank != i.pairRank

/-- Whether this device's (PAIR_EPOCH, STATE_COMPLETE) is the higher one, rank 0 breaking a tie (R323). -/
def State.outranks (s : State) (p : Partner) : Bool :=
  let mine := s.fld Fld.PAIR_EPOCH * 2 + s.fld Fld.PAIR_STATUS.STATE_COMPLETE
  let theirs := p.epoch * 2 + bit1 p.complete
  decide (theirs < mine) || (decide (theirs = mine) && decide (s.rank = 0))

/-- The active's part of becoming ACTIVE (R320, R322): STATE_COMPLETE is 1, writes run unmirrored. -/
def State.becomeActive (s : State) : State :=
  let s := (s.setRole 3).setFld Fld.CAPO_STATUS.IDLE_REASON 0
  let s := (s.setBit Fld.PAIR_STATUS.STATE_COMPLETE true).setBit Fld.PAIR_STATUS.MIRROR_ON false
  { s with capo := { s.capo with chosen := true, rounds := 0, renewAt := s.now } }

/-- A CAPO_CMD that does not apply in the current role (R328). -/
def State.capoIgnored (s : State) (cmd : Nat) : State := s.emit .capoCmdIgnored [cmd]

end Sys2Proof.Machine
end

