-- ==== Sys2Proof/Machine/Energy.lean ====
section
/-!
DEFINITION. Machine/Energy.lean: the commands and events of the battery gauge (R352 to R365) and of the vault patrol (R366,
R370).
-/
namespace Sys2Proof.Machine

/-- Whether no pack is left on the hold-up path. -/
def State.noPackEnabled (s : State) : Bool := bothPacks.all (fun p => !(s.pack p).en)

/-- HOLDUP_EN released once every enabled pack is cut off; a dump that still runs ends unfinished, how much of it
was saved being free (R164, R355). -/
def State.holdupCheck (s : State) : State :=
  if s.bit Fld.NRG_STATUS.HOLDUP_EN && s.noPackEnabled then
    let s := s.setHoldup false
    match s.wc.dumpArea with
    | none => s
    | some i =>
      let n := ((tget s.vault.dumps i).map Dump.units).getD 0
      (s.used).dumpCut (min (s.free 32).toNat n)
  else s

/-- PACK_CUTOFF (R355, R359): PACK_EN falls; a running test of the pack ends with CUTOFF; HOLDUP_EN falls with the last
pack. -/
def execPackCutoff (pack : PackId) (temp : Bool) (s : State) : Out State :=
  if !s.packPresent pack || (s.pack pack).cut.isSome then .next s
  else
    let s := if (s.pack pack).test.isSome then s.endTest pack 3 else s
    let s := s.putPack pack { s.pack pack with
      cut := some (if temp then .temperature else .voltage), en := false, loadStep := false }
    .next (s.holdupCheck.showNrg)

/-- Whether PACK_EN of a pack may be asserted: not while the other pack is tested (R349). -/
def State.mayEnable (s : State) (p : PackId) : Bool := (s.pack (otherPack p)).test.isNone

/-- PACK_TEMP_RECOVER (R355): PACK_EN of a pack cut off for temperature asserts again. -/
def execPackTempRecover (pack : PackId) (s : State) : Out State :=
  let x := s.pack pack
  if x.cut = some .temperature ∧ s.packPresent pack then .next (s.putPack pack { x with cut := none, en := s.mayEnable pack })
  else .next s

/-- GAUGE_ENERGY_COMPUTE (R351, R354, R363): a sample of each pack, then E_pack, E, the reserve and the reported charge. -/
def execGaugeEnergyCompute (sampleA sampleB : PackSample) (s : State) : Out State :=
  let s := (s.takeSample .A sampleA).takeSample .B sampleB
  let s := s.computeEnergy
  .next ((s.moveSoc .A).moveSoc .B)

/-- PACK_REMOVED (R352, R155): its energy leaves E at once, a test or learning cycle on it ends, L is recomputed. -/
def execPackRemoved (pack : PackId) (s : State) : Out State :=
  if !s.packPresent pack then .next s
  else
    let s := s.abortTest pack
    let s := if (s.pack pack).learn.isSome then s.endLearn pack 7 else s
    let s := s.setBit (Fld.PACK_STATUS.PRESENT.at (packIx pack)) false
    let s := s.putPack pack { s.pack pack with en := false, loadStep := false, cut := none, restSince := none }
    let s := { s with nrg := { s.nrg with queue := s.nrg.queue.filter (· ≠ pack),
                                          deferred := s.nrg.deferred.filter (· ≠ pack) } }
    let s := (s.endNrgCmd pack).setFld (Fld.NRG_SOC.PERMILLE.at (packIx pack)) 0
    .next s.computeEnergy.recomputeLimit.computeEnergy

/-- PACK_PRESENT (R352, R365): a pack that the model configures is present again, as a replacement, with its path enabled and
a self-test requested; its charge is read from its rested voltage. -/
def execPackPresent (pack : PackId) (s : State) : Out State :=
  let m := s.packCfg pack
  if m.chemistry = 0 ∨ s.packPresent pack then .next s
  else
    let i := packIx pack
    let s := s.setBit (Fld.PACK_STATUS.PRESENT.at i) true
    let soc := socOfOcv m (s.fld (Fld.NRG_VOLT_MV.MV.at i) / m.cells)
    let s := s.putPack pack { s.pack pack with en := s.mayEnable pack, cut := none, socPpm := soc, presentAt := s.now }
    let s := (s.setFld (Fld.NRG_COULOMB.at i) 0).replacePack pack
    .next ((s.requestTest pack).computeEnergy)

/-- HOLDUP_SELFTEST_START (R356, R357): the first test requested starts when none runs and mains is there: the other pack's
PACK_EN falls, HOLDUP_EN asserts, a learning load on the pack is released. -/
def execHoldupSelftestStart (pack : PackId) (s : State) : Out State :=
  if s.nrg.queue.head? ≠ some pack ∨ s.acFail ∨ ¬ s.packPresent pack ∨ s.bit Fld.NRG_STATUS.TEST_ACTIVE then .next s
  else
    let s := { s with nrg := { s.nrg with queue := s.nrg.queue.tail } }
    let s := s.putPack pack { s.pack pack with
      test := some ⟨2, [], s.fld (Fld.NRG_VOLT_MV.MV.at (packIx pack))⟩, loadStep := false }
    let o := otherPack pack
    let s := s.putPack o { s.pack o with en := false }
    .next ((s.setHoldup true).showNrg)

/-- HOLDUP_SELFTEST_STEP (R356, R359): the next timed action of the running test, with the mean voltage and current it
samples: samples at 400, 510, 950, 1,450, 1,510 and 1,950 ms, LOAD_STEP at 500, 1,000, 1,500 and 2,000 ms; the last one
judges the test. A voltage below cut-off ends it with CUTOFF. -/
def execHoldupSelftestStep (mv : Nat) (ma : Int) (s : State) : Out State :=
  match bothPacks.find? (fun p => (s.pack p).test.isSome) with
  | none => .next s
  | some p =>
    match (s.pack p).test with
    | none => .next s
    | some t =>
      let m := s.packCfg p
      if mv < m.cells * m.cutoffMvCell then .next (s.endTest p 3)
      else
        let t := { t with step := t.step + 1, lowest := min t.lowest mv }
        let sample : TestRun := { t with samples := t.samples ++ [(mv, ma)] }
        let x := s.pack p
        match t.step with
        | 4 => .next (s.putPack p { x with test := some t, loadStep := true })
        | 7 => .next (s.putPack p { x with test := some t, loadStep := false })
        | 9 => .next (s.putPack p { x with test := some t, loadStep := true })
        | 12 => .next ((s.putPack p { x with loadStep := false }).judgeTest p t)
        | _ => .next (s.putPack p { x with test := some sample })

/-- HOLDUP_RETEST_TIMER (R358): a pack that failed its test is tested again. -/
def execHoldupRetestTimer (pack : PackId) (s : State) : Out State :=
  let r := s.fld (Fld.PACK_STATUS.TEST_RESULT.at (packIx pack))
  if s.packPresent pack ∧ 2 ≤ r ∧ r ≤ 5 then .next (s.requestTest pack) else .next s

/-- HOLDUP_TEST_AGE_EXPIRY (R357). -/
def execHoldupTestAgeExpiry (pack : PackId) (s : State) : Out State :=
  if s.packPresent pack then .next (s.requestTest pack) else .next s

/-- HOLDUP_STARTUP_TEST (R357): pack A first, then B. -/
def execHoldupStartupTest (s : State) : Out State :=
  .next (bothPacks.foldl (fun (st : State) p => if st.packPresent p then st.requestTest p else st) s)

/-- LEARN_START (R360): the automatic cycle, where LEARN_PERIOD_DAYS does not disable it. -/
def execLearnStart (pack : PackId) (s : State) : Out State :=
  if s.gaugeCfg.learnPeriodDays ≠ 0 ∧ ¬ s.acFail ∧ s.learnReady pack then
    .next ((s.putPack pack { s.pack pack with learnTries := 0 }).beginLearn pack)
  else .next s

/-- LEARN_DISCHARGE_END (R360): the load is released for the rest of 30 min. -/
def execLearnDischargeEnd (pack : PackId) (s : State) : Out State :=
  let x := s.pack pack
  match x.learn with
  | none => .next s
  | some c =>
    if c.resting then .next s
    else .next (s.putPack pack { x with learn := some { c with resting := true },
                                        loadStep := x.test.isSome && x.loadStep })

/-- LEARN_REST_END (R360 to R362): SOC_end from the rested voltage; below 30 % of difference the cycle is disqualified,
else the learned capacity, the cycle count and the time of the cycle are updated and the block is due. -/
def execLearnRestEnd (pack : PackId) (s : State) : Out State :=
  let x := s.pack pack
  match x.learn with
  | none => .next s
  | some c =>
    if !c.resting then .next s
    else
      let m := s.packCfg pack
      let soc := socOfOcv m (s.fld (Fld.NRG_VOLT_MV.MV.at (packIx pack)) / m.cells)
      if c.socStart < soc + 300000 then .next (s.endLearn pack 6)
      else
        let meas := c.mC.toNat * 1000000 / ((c.socStart - soc) * 3600)
        let cap := capAfter x.learned m.nominalMah meas
        let before := s.packHealth pack
        let l := { x.learned with capMah := cap, learnedOnce := true, learnedAt := s.pitch.getD 0,
                                  cyclesX16 := x.learned.cyclesX16 + 16 * c.mC.toNat / (max 1 cap * 3600) }
        let s := (s.putPack pack { x with learned := l, writeDue := true, learnTries := 0 }).endLearn pack 1
        let low := s.gaugeCfg.replacePct
        if s.packHealth pack < low ∧ low ≤ before then .next ((s.computeEnergy).emit .packHealth [packIx pack])
        else .next s.computeEnergy

/-- LEARN_DISQUALIFY (R361): a running cycle ends with its LEARN_RESULT, 2 to 7. -/
def execLearnDisqualify (pack : PackId) (why : Fin 8) (s : State) : Out State :=
  if (s.pack pack).learn.isSome ∧ 2 ≤ why.val then .next (s.endLearn pack why.val) else .next s

/-- LEARN_RETRY (R361): at most 3 times in each period. -/
def execLearnRetry (pack : PackId) (s : State) : Out State :=
  let x := s.pack pack
  if x.learnTries < 3 ∧ ¬ s.acFail ∧ s.learnReady pack then
    .next ((s.putPack pack { x with learnTries := x.learnTries + 1 }).beginLearn pack)
  else .next s

/-- GAUGE_BLOCK_WRITE (R364). -/
def execGaugeBlockWrite (pack : PackId) (s : State) : Out State :=
  if (s.packCfg pack).chemistry = 0 then .next s else .next (s.writeLearned pack)

/-- An NRG_CMD that ends at once with an error code (R372). -/
def State.nrgDone (s : State) (err : Nat) : State :=
  (s.setFld Fld.NRG_CMD_STATUS.ERROR err).setBit Fld.NRG_CMD_STATUS.DONE true

/-- A self-test asked for by NRG_CMD (R357, R372): deferred and ended at once under AC_FAIL_N; otherwise BUSY until the test
ends. -/
def State.cmdTest (s : State) (p : PackId) : State :=
  let s := s.setFld Fld.NRG_CMD_STATUS.ERROR 0
  if s.acFail then (s.requestTest p).nrgDone 0
  else
    let s := { s with nrg := { s.nrg with cmd := some p } }
    (s.requestTest p).setBit Fld.NRG_CMD_STATUS.BUSY true

/-- NRG_CMD TEST (R357). -/
def execNrgTest (pack : PackId) (s : State) : Out State :=
  s.command Fld.NRG_CMD.CMD.addr (fun s =>
  if s.bit Fld.NRG_CMD_STATUS.BUSY then .next s
  else if !s.packPresent pack then .next (s.nrgDone 1)
  else .next (s.cmdTest pack))

/-- NRG_CMD LEARN (R360, R372). -/
def execNrgLearn (pack : PackId) (s : State) : Out State :=
  s.command Fld.NRG_CMD.CMD.addr (fun s =>
  if s.bit Fld.NRG_CMD_STATUS.BUSY then .next s
  else if !s.packPresent pack then .next (s.nrgDone 1)
  else if s.acFail then .next (s.nrgDone 2)
  else if !s.learnReady pack then .next (s.nrgDone 3)
  else .next ((s.beginLearn pack).nrgDone 0))

/-- NRG_CMD LEARN_ABORT (R361). -/
def execLearnAbort (pack : PackId) (s : State) : Out State :=
  s.command Fld.NRG_CMD.CMD.addr (fun s =>
  if s.bit Fld.NRG_CMD_STATUS.BUSY then .next s
  else if (s.pack pack).learn.isNone then .next (s.nrgDone 1)
  else .next ((s.endLearn pack 7).nrgDone 0))

/-- NRG_CMD RETEST (R358): FAILED is cleared and the pack is tested again. -/
def execNrgRetest (pack : PackId) (s : State) : Out State :=
  s.command Fld.NRG_CMD.CMD.addr (fun s =>
  if s.bit Fld.NRG_CMD_STATUS.BUSY then .next s
  else if !s.packPresent pack then .next (s.nrgDone 1)
  else
    let x := s.pack pack
    let s := s.putPack pack ({ x with fails := 0 }.qualify x.learned.qualified false)
    .next ((s.computeEnergy).cmdTest pack))

/-- NRG_CMD SAME_PACK (R365): within 60 s of presence the displaced values come back, unless the test after presence found
R_slow outside 0.70 to 1.43 of the stored cell; the next test checks them again. -/
def execNrgSamePack (pack : PackId) (s : State) : Out State :=
  s.command Fld.NRG_CMD.CMD.addr (fun s =>
  if s.bit Fld.NRG_CMD_STATUS.BUSY then .next s
  else
    let x := s.pack pack
    match x.displaced with
    | none => .next (s.nrgDone 1)
    | some d =>
      if !s.packPresent pack || decide (x.presentAt + 60 * sec < s.now) then .next (s.nrgDone 1)
      else if x.sameBad then .next (s.nrgDone 4)
      else
        let l := { d with qualified := x.learned.qualified, failed := x.learned.failed }
        let s := s.putPack pack { x with learned := l, displaced := none, writeDue := true, firstTest := true }
        .next ((s.computeEnergy).nrgDone 0))

/-- A patrol's findings (R366, R370): program rate, wear, directory copies. -/
def State.patrol (s : State) (rateMbps wearPct : Nat) (dirOk : Bool) : State :=
  let ok := decide (12000 ≤ rateMbps) && s.bit Fld.VLT_STATUS.PRESENT
  let s := (s.setFld Fld.VLT_RATE.MBPS rateMbps).setBit Fld.VLT_STATUS.RATE_OK ok
  let s := if ok then s else s.emit .vaultRate [rateMbps]
  let was := s.bit Fld.VLT_STATUS.WEAR_WARN
  let s := (s.setFld Fld.VLT_WEAR.PCT wearPct).setBit Fld.VLT_STATUS.WEAR_WARN (decide (80 ≤ wearPct))
  let s := if !was && decide (80 ≤ wearPct) then s.emit .wearWarn [wearPct] else s
  (s.setBit Fld.VLT_STATUS.DIRECTORY_DEGRADED (!dirOk)).setBit Fld.WC_STATUS.AREA_READY s.areaReady.isSome

/-- VAULT_PATROL (R370): every 30 days, not during a dump or a replay. -/
def execVaultPatrol (rateMbps wearPct : Nat) (dirOk : Bool) (s : State) : Out State :=
  if s.bit Fld.VLT_STATUS.DUMPING ∨ s.bit Fld.VLT_STATUS.REPLAYING then .next s
  else .next (s.patrol rateMbps wearPct dirOk)

/-- PATROL_NOW (R374): ignored during a dump or a replay. -/
def execVaultPatrolNow (rateMbps wearPct : Nat) (dirOk : Bool) (s : State) : Out State :=
  s.command Fld.VLT_CMD.CMD.addr (fun s =>
  if s.bit Fld.VLT_STATUS.DUMPING ∨ s.bit Fld.VLT_STATUS.REPLAYING then .next s
  else .next ((s.patrol rateMbps wearPct dirOk).setFld Fld.VLT_CMD.CMD 0))

end Sys2Proof.Machine
end

