-- ==== Sys2Proof/Machine/EvrOps.lean ====
section
/-!
DEFINITION. Machine/EvrOps.lean: what the event recorder's commands share: where a record goes (R397 to R405), the side queue
(R408), the clear (R412) and the soundpost (R413 to R416).
-/
namespace Sys2Proof.Machine

/-- Event recorder mode of the image that runs or last ran, or its defaults (R406). -/
def State.recorderCfg (s : State) : RecorderSection := (s.oldImage.bind (·.recorder)).getD {}

/-- Length of a record in bytes (R398): its header and eight bytes for each value (R402). -/
def EvArrival.bytes (a : EvArrival) : Nat := 16 + 8 * a.payload.length

/-- Bytes of records in a page. -/
def EvPage.used (p : EvPage) : Nat := p.recs.foldl (fun acc r => acc + r.arr.bytes) 0

/-- Whether a record's time can be told from a page's BASE_TIME (R400). -/
def timeFits (base time : Option Nat) : Bool :=
  match base, time with
  | none, none => true
  | some b, some t => decide (b ≤ t) && decide ((t - b) / 1000 < 2 ^ 42 - 1)
  | _, _ => false

/-- Whether a record goes into an open page (R396, R400). -/
def EvPage.takes (p : EvPage) (a : EvArrival) : Bool :=
  p.isOpen && decide (p.used + a.bytes ≤ 4064) && timeFits p.baseTime a.time

/-- A page opened with its first record (R400). -/
def openPage (r : EvRec) : EvPage := ⟨true, r.arr.sev, r.arr.time, r.seq, [r]⟩

/-- A page with a record added; MAX_SEV rises with it (R400). -/
def EvPage.add (p : EvPage) (r : EvRec) : EvPage := { p with maxSev := max p.maxSev r.arr.sev, recs := p.recs ++ [r] }

/-- The ring's pages replaced. -/
def State.withPages (s : State) (t : Tbl EvPage) : State := { s with evr := { s.evr with pages := t } }

/-- A record dropped (R404): counted under its severity, and FULL where it found no page. -/
def State.dropRec (s : State) (sev : Nat) (full : Bool) : State :=
  let s := s.satFld (Fld.EVR_DROP.at sev) 1
  if full then s.setBit Fld.EVR_STATUS.FULL true else s

/-- LOG_NEARLY_FULL recorded once for each log (R404). -/
def State.noteNearly (s : State) : State :=
  if s.bit Fld.EVR_STATUS.NEARLY_FULL ∨ s.evr.pages.length * 100 < s.recorderCfg.nearlyFullPct * 1023 then s
  else (s.setBit Fld.EVR_STATUS.NEARLY_FULL true).emit .logNearlyFull [s.evr.pages.length]

/-- The page that compatibility mode reclaims (R405): the lowest FIRST_SEQ among those whose MAX_SEV is not above the severity. -/
def reclaimable (t : Tbl EvPage) (sev : Nat) : Option (Nat × EvPage) :=
  (t.filter (fun p => p.2.maxSev ≤ sev)).foldl (fun (acc : Option (Nat × EvPage)) p =>
    match acc with
    | none => some p
    | some q => if p.2.firstSeq < q.2.firstSeq then some p else some q) none

/-- A record put into a new page: the lowest free one; with none free, in compatibility mode one that is reclaimed; otherwise it is
dropped (R404, R405). Whether it was stored. -/
def State.newPage (s : State) (r : EvRec) : Bool × State :=
  match firstFree (s.evr.pages.map (·.1)) 1 1023 with
  | some i => (true, (s.withPages (tput s.evr.pages i (openPage r))).noteNearly)
  | none =>
    match (if s.bit Fld.EVR_STATUS.MODE then reclaimable s.evr.pages r.arr.sev else none) with
    | some (i, p) => (true, (s.incFld Fld.EVR_OVERWRITTEN p.recs.length).withPages (tput s.evr.pages i (openPage r)))
    | none => (false, s.dropRec r.arr.sev true)

/-- A record placed (R400): in the open page where it can, otherwise the page is closed and the next one opened. -/
def State.placeRec (s : State) (r : EvRec) : Bool × State :=
  match s.evr.pages.find? (fun p => p.2.isOpen) with
  | some (i, p) =>
    if p.takes r.arr then (true, s.withPages (tput s.evr.pages i (p.add r)))
    else (s.withPages (tput s.evr.pages i { p with isOpen := false })).newPage r
  | none => s.newPage r

/-- A record committed unless 10,000 have been in the running second (R403). Whether it was stored. -/
def State.commitRec (s : State) (r : EvRec) : Bool × State :=
  let s := if s.evr.second = s.now / sec then s
    else { s with evr := { s.evr with second := s.now / sec, secondCount := 0 } }
  if 10000 ≤ s.evr.secondCount then (false, s.dropRec r.arr.sev false)
  else
    let x := s.placeRec r
    if x.1 then (true, { x.2 with evr := { x.2.evr with secondCount := x.2.evr.secondCount + 1 } }) else x

/-- The freeze ended (R408): the side queue drains into the ring in sequence order. -/
def State.thaw (s : State) : State :=
  if s.bit Fld.EVR_STATUS.FROZEN then
    let q := s.evr.sideQ
    let s := (s.setBit Fld.EVR_STATUS.FROZEN false).setFld Fld.EVR_STATUS.FREEZE_OWNER 0
    q.foldl (fun (st : State) r => (st.commitRec r).2) { s with evr := { s.evr with sideQ := [] } }
  else s

/-- A record that reaches the recorder (R403, R408): filtered by severity, or given the next sequence and committed, or while frozen
put into the side queue of 64; a record that is dropped takes no sequence, and once the sequences have run out every one is (R455). -/
def State.recordOne (s : State) (a : EvArrival) : State :=
  if a.sev < s.recorderCfg.minSeverity ∧ a.sev ≠ 7 then s
  else if s.fld Fld.EVR_NEXT_SEQ = 2 ^ 48 - 1 then s.dropRec a.sev false
  else
    let r : EvRec := ⟨s.fld Fld.EVR_NEXT_SEQ, a⟩
    if s.bit Fld.EVR_STATUS.FROZEN then
      if s.evr.sideQ.length < 64 then
        ({ s with evr := { s.evr with sideQ := s.evr.sideQ ++ [r] } }).incFld Fld.EVR_NEXT_SEQ 1
      else s.dropRec a.sev false
    else
      let x := s.commitRec r
      if x.1 then x.2.incFld Fld.EVR_NEXT_SEQ 1 else x.2

/-- An EVR command ended (R418, R419): DONE, its error, and the key window zeroed. -/
def State.evrDone (s : State) (err : Nat) : State :=
  ((s.setBit Fld.EVR_CMD_STATUS.DONE true).setFld Fld.EVR_CMD_STATUS.ERROR err).setFld Fld.EVR_AUTH_KEY 0

/-- Whether another interface holds a freeze. -/
def State.frozenByOther (s : State) (i : Iface) : Bool :=
  s.bit Fld.EVR_STATUS.FROZEN && decide (s.fld Fld.EVR_STATUS.FREEZE_OWNER ≠ ifaceOwner i)

/-- Every record in the ring, in sequence order. -/
def State.ringRecs (s : State) : List EvRec := sortOn EvRec.seq (s.evr.pages.flatMap (fun p => p.2.recs))

/-- The highest sequence of an existing record, 0 where there is none. -/
def State.lastSeq (s : State) : Nat := s.ringRecs.foldl (fun acc r => max acc r.seq) 0

/-- Steps 2 to 5 of a clear (R412) with the counts that stood before it: every page free, the CLEAR record as the first of page 1,
counters and flags zero, no journal. -/
def State.finishClear (s : State) (owner : Nat) : State :=
  let drops := (List.range 8).map (fun i => s.fld (Fld.EVR_DROP.at i))
  let a : EvArrival := ⟨.clearRec, evSev .clearRec, s.pitch, [owner, s.lastSeq] ++ drops ++ [s.fld Fld.EVR_OVERWRITTEN]⟩
  let s := (s.withPages [(1, openPage ⟨s.fld Fld.EVR_NEXT_SEQ, a⟩)]).incFld Fld.EVR_NEXT_SEQ 1
  let s := (List.range 8).foldl (fun (st : State) i => st.setFld (Fld.EVR_DROP.at i) 0) s
  let s := (s.setFld Fld.EVR_OVERWRITTEN 0).setBit Fld.EVR_STATUS.NEARLY_FULL false
  let s := s.setBit Fld.EVR_STATUS.FULL false
  { s with evr := { s.evr with journal := false } }

/-! ### The soundpost (R413 to R416) -/

/-- The newest records whose bytes fit, given newest first; the answer is in sequence order. -/
def newestFit (room : Nat) (acc : List EvRec) : List EvRec → List EvRec
  | [] => acc
  | r :: t => if r.arr.bytes ≤ room then newestFit (room - r.arr.bytes) (r :: acc) t else acc

/-- POWER_STATE of a soundpost: the state, and in a transition the last operational one. -/
def State.powerCode (s : State) : Nat := if s.fld Fld.PWR_STATE.STATE ≤ 3 then s.fld Fld.PWR_STATE.STATE else s.pwr.lastOp

/-- What a soundpost holds at its cause (R415). -/
def State.soundpostNow (s : State) (cause : Nat) : Soundpost :=
  let snap := s.snapshot
  { cause := cause, seq := s.fld Fld.SP_LAST_SEQ + 1, time := s.pitch, imgSeq := (s.img.running.map (·.sequence)).getD 0,
    power := s.powerCode, therm := s.fld Fld.THERM_STATUS.STATE, tj := bitsOf 8 (s.tjDeci / 10), role := s.fld Fld.CAPO_STATUS.ROLE,
    stack := s.err.stack, fatals := s.err.active.toList, snapshot := snap.1, omitted := snap.2,
    events := newestFit 48640 [] (s.ringRecs ++ s.evr.sideQ).reverse }

/-- A soundpost written (R413, R414): a freeze ends (R408), the eMRAM copy stands at once, the other copies are due, and the event
is recorded. -/
def State.writeSoundpost (s : State) (cause : Nat) : State :=
  let s := s.thaw
  let p := s.soundpostNow cause
  let e := s.evr
  let s := { s with evr := { e with spEmram := tput e.spEmram (p.seq % 4) p, spVaultDue := e.spVaultDue ++ [p],
                                    spFlashDue := e.spFlashDue ++ [p] } }
  ((s.setFld Fld.SP_LAST_SEQ p.seq).used).emit .soundpost [cause, p.seq]

/-- A further fatal error of a running stop recorded in its soundpost, in every copy that stands or is due (R450). -/
def Evr.addFatal (e : Evr) (n cause : Nat) : Evr :=
  let put (p : Soundpost) : Soundpost := if p.seq = n then { p with fatals := p.fatals ++ [cause] } else p
  let all (t : Tbl Soundpost) : Tbl Soundpost := t.map (fun (x : Nat × Soundpost) => (x.1, put x.2))
  { e with spEmram := all e.spEmram, spVault := all e.spVault, spFlash := all e.spFlash, spVaultDue := e.spVaultDue.map put,
           spFlashDue := e.spFlashDue.map put }

/-- The next vault copy written (R414): not while a dump runs, and where the vault is there. -/
def State.copyVault (s : State) : State :=
  match s.evr.spVaultDue with
  | [] => s
  | p :: r =>
    if s.bit Fld.VLT_STATUS.DUMPING ∨ ¬ s.bit Fld.VLT_STATUS.PRESENT then s
    else { s with evr := { s.evr with spVault := tput s.evr.spVault (p.seq % 32) p, spVaultDue := r } }

/-- The next boot-flash copy written (R414): after the vault copy of the same soundpost, unless there is no vault. -/
def State.copyFlash (s : State) : State :=
  match s.evr.spFlashDue with
  | [] => s
  | p :: r =>
    if s.evr.spVaultDue.any (fun q => q.seq = p.seq) ∧ s.bit Fld.VLT_STATUS.PRESENT then s
    else { s with evr := { s.evr with spFlash := tput s.evr.spFlash (p.seq % 4) p, spFlashDue := r } }

/-- The copies of a soundpost, 0 eMRAM, 1 vault, 2 boot flash, with their slots (R414). -/
def spSlots (copy : Nat) : Nat := if copy = 1 then 32 else 4

/-- The copies of the newest soundpost. -/
def State.spCopies (s : State) : List (Option Soundpost) :=
  let n := s.fld Fld.SP_LAST_SEQ
  let held (t : Tbl Soundpost) (k : Nat) : Option Soundpost := (tget t (n % k)).bind (fun p => if p.seq = n then some p else none)
  [held s.evr.spEmram 4, held s.evr.spVault 32, held s.evr.spFlash 4]

/-- The check of a Pegbox start (R414): a copy that lacks the newest soundpost takes it from one that holds it, and
SOUNDPOST_REPAIRED is recorded. Copies still due are written here first, without an event. -/
def State.repairSoundposts (s : State) : State :=
  let s := s.evr.spVaultDue.foldl (fun (st : State) _ => st.copyVault) s
  let s := s.evr.spFlashDue.foldl (fun (st : State) _ => st.copyFlash) s
  let held := s.spCopies
  let vault := s.bit Fld.VLT_STATUS.PRESENT
  match held.findSome? (fun x => x) with
  | none => s
  | some p =>
    let e := s.evr
    let lacks (i : Nat) : Bool := (held[i]?).getD none == none && (i != 1 || vault)
    let mask := maskOf 3 lacks
    if mask = 0 then s
    else
      let e := { e with spEmram := if lacks 0 then tput e.spEmram (p.seq % 4) p else e.spEmram,
                        spVault := if lacks 1 then tput e.spVault (p.seq % 32) p else e.spVault,
                        spFlash := if lacks 2 then tput e.spFlash (p.seq % 4) p else e.spFlash }
      ({ s with evr := e }).emit .soundpostRepaired [p.seq, mask]

end Sys2Proof.Machine
end

