-- ==== Sys2Proof/Machine/Fans.lean ====
section
/-!
DEFINITION. Machine/Fans.lean: the fan channels' commands and events (R380, R384, R387, R390 to R395), the clock steps of the
core supply (R377, R423, R473) and the aging telemetry (R463, R474, R490 to R493).
-/
namespace Sys2Proof.Machine

/-- THROTTLE_CLOCK_STEP (R377): one step lower while Tj is above 105 °C in THROTTLE, one step back below 103 °C. -/
def execThrottleClockStep (s : State) : Out State :=
  let t := s.tjDeci
  if s.thermState = 2 ∧ 1050 < t ∧ s.therm.throttle < 8 then
    .next ({ s with therm := { s.therm with throttle := s.therm.throttle + 1 } } : State).showClock
  else if t < 1030 ∧ 0 < s.therm.throttle then
    .next ({ s with therm := { s.therm with throttle := s.therm.throttle - 1 } } : State).showClock
  else .next s

/-- AVS_TIMEOUT (R423): recorded, and the clock held a step lower until the regulator answers. -/
def execAvsTimeout (s : State) : Out State :=
  let s := (s.setBit Fld.PWR_AVS.NO_ANSWER true).emit .railAvsSilent []
  .next ({ s with therm := { s.therm with avsHold := true } } : State).showClock

/-- VDD_FB_POWER_CHECK (R473): the regulator has answered with its current; above 144 W the clock is held a step lower. -/
def execVddFbPowerCheck (mw : Nat) (s : State) : Out State :=
  let s := s.setBit Fld.PWR_AVS.NO_ANSWER false
  .next ({ s with therm := { s.therm with avsHold := false, powerHold := decide (144000 < mw) } } : State).showClock

/-- A rotor's measured speed shown (R394), and the phase advance at that speed (R388). -/
def State.showRotor (s : State) (n : FanId) (r : RotorSpeed) : State :=
  let s := (s.setFld (Fld.FAN_SPEED.RPM.at n.val) r.rpm).setBit (Fld.FAN_SPEED.REVERSE.at n.val) r.reverse
  s.putFan n { s.fan n with advance := advanceAt (s.fanCh n) r.rpm }

/-- Whether a rotor turns above a percentage of the rated speed. -/
def abovePct (c : FanChannel) (rpm pct : Nat) : Bool := decide (c.ratedRpm * pct < rpm * 100)

/-- FAN_LISTEN_END (R390): still: open-loop start; forward: catch, or brake; backward: brake, or wait. -/
def execFanListenEnd (n : FanId) (rotor : RotorSpeed) (s : State) : Out State :=
  if s.fanState n ≠ 1 then .next s
  else
    let c := s.fanCh n
    let s := s.showRotor n rotor
    if rotor.rpm * 100 < c.ratedRpm * 2 then .next (s.setFanState n 4).showFans
    else if !rotor.reverse then
      if c.flags % 2 = 1 then .next ((s.setFanState n 5).incFld (Fld.FAN_START_COUNT.at n.val) 1).showFans
      else .next (s.setFanState n 2)
    else if abovePct c rotor.rpm c.brakeMaxPct then
      .next ((s.putFan n { s.fan n with waited := 0 }).setFanState n 3)
    else .next (s.setFanState n 2)

/-- FAN_BRAKE_DONE (R391): below 2 % the open-loop start begins; a brake that fails in 5 s is a failed attempt. -/
def execFanBrakeDone (n : FanId) (ok : Bool) (s : State) : Out State :=
  if s.fanState n ≠ 2 then .next s
  else if ok then .next (s.setFanState n 4).showFans
  else .next (s.failFan n 3)

/-- FAN_WAIT_RECHECK (R391): each second; the channel brakes once the reverse speed has fallen, or after 10 s. -/
def execFanWaitRecheck (n : FanId) (rotor : RotorSpeed) (s : State) : Out State :=
  if s.fanState n ≠ 3 then .next s
  else
    let c := s.fanCh n
    let w := (s.fan n).waited + 1
    let s := (s.showRotor n rotor).putFan n { s.fan n with waited := w }
    if (rotor.reverse && abovePct c rotor.rpm c.brakeMaxPct) && decide (w < 10) then .next s
    else .next (s.setFanState n 2)

/-- FAN_RAMP_END (R392): with a lock the channel hands over to the boost class, its resistance and inductance refined; without
one it waits 500 ms more (R393). -/
def execFanRampEnd (drive : FanRun) (locked : Bool) (rs ls : Nat) (s : State) : Out State :=
  if s.fanState drive.fan ≠ 4 ∨ ¬ locked then .next s
  else
    let c := s.fanCh drive.fan
    let s := s.refineFan drive.fan ([rs, ls] ++ (s.fan drive.fan).estimates.drop 2)
    let s := s.showRotor drive.fan ⟨c.ratedRpm * c.handoverPct / 100, false⟩
    let s := (s.setFanState drive.fan 5).setFld (Fld.FAN_STATUS.ATTEMPT.at drive.fan.val) 0
    .next ((s.incFld (Fld.FAN_START_COUNT.at drive.fan.val) 1).showFans.pwmRun drive.fan drive.run)

/-- FAN_ATTEMPT_FAIL (R393): backward motion or no lock in a start attempt. -/
def execFanAttemptFail (n : FanId) (s : State) : Out State :=
  if s.fanState n = 4 then .next (s.failFan n 1) else .next s

/-- FAN_RETRY_TIMER (R393): the next attempt begins with a listen. -/
def execFanRetryTimer (n : FanId) (s : State) : Out State :=
  if s.fanState n = 7 then .next (s.fanListen n (s.fld (Fld.FAN_STATUS.ATTEMPT.at n.val) + 1)) else .next s

/-- FAN_OVERCURRENT (R380): all switches off and the channel faults. -/
def execFanOvercurrent (drive : FanRun) (s : State) : Out State :=
  if s.fanState drive.fan = 0 ∨ s.fanState drive.fan = 8 then .next s
  else .next (((s.pwmRun drive.fan drive.run).setBit (Fld.FAN_STATUS.OVERCURRENT.at drive.fan.val) true).faultFan drive.fan 2)

/-- FAN_STALL (R393): a running channel begins a new start sequence as its first attempt. -/
def execFanStall (drive : FanRun) (s : State) : Out State :=
  if s.fanState drive.fan = 5 ∨ s.fanState drive.fan = 6 then
    .next (((s.pwmRun drive.fan drive.run).setBit (Fld.FAN_STATUS.STALL.at drive.fan.val) true).fanListen drive.fan 0).showFans
  else .next s

/-- FAN_CLASS_CHANGE (R385, R387): boost to steady within 5 % of the target in NORMAL; back when the state is not NORMAL or the
target exceeds the speed by more than 20 %. The steady class refines the flux constant. -/
def execFanClassChange (drive : FanRun) (rpm ke : Nat) (s : State) : Out State :=
  let t := s.fld (Fld.FAN_TARGET.RPM.at drive.fan.val)
  let s := s.pwmRun drive.fan drive.run
  if s.fanState drive.fan = 5 ∧ s.thermState = 0 ∧ ((t : Int) - rpm).natAbs * 20 ≤ t then
    .next ((s.showRotor drive.fan ⟨rpm, false⟩).setFanState drive.fan 6)
  else if s.fanState drive.fan = 6 ∧ (s.thermState ≠ 0 ∨ rpm * 12 < t * 10) then
    let e := (s.fan drive.fan).estimates
    let s := s.refineFan drive.fan (e.take 2 ++ [ke] ++ e.drop 3)
    .next ((s.showRotor drive.fan ⟨rpm, false⟩).setFanState drive.fan 5)
  else .next s

/-- FAN_PIN_LOSS (R384). -/
def execFanPinLoss (n : FanId) (s : State) : Out State :=
  if s.bit (Fld.FAN_PIN.VALID.at n.val) then
    .next (((s.setBit (Fld.FAN_PIN.VALID.at n.val) false).emit .fanPinLoss [n.val]).showPinLoss.updateFans)
  else .next s

/-- FAN_PIN_VALID (R384): after 16 good periods, with the averaged duty in 0.1 %. -/
def execFanPinValid (n : FanId) (duty : Nat) (s : State) : Out State :=
  let s := (s.setBit (Fld.FAN_PIN.VALID.at n.val) true).setFld (Fld.FAN_PIN.DUTY.at n.val) (min 1000 duty)
  .next s.showPinLoss.updateFans

/-- A fan command that does not apply, ignored and recorded (R395). -/
def State.fanIgnored (s : State) (n : FanId) (cmd : Nat) : State := s.emit .fanCmdIgnored [n.val, cmd]

/-- CLEAR_FAULT (R393): a channel in FAULT starts again. -/
def execFanClearFault (n : FanId) (s : State) : Out State :=
  s.command (Fld.FAN_CMD.CMD.at n.val).addr (fun s =>
  if s.fanState n = 8 then
    let s := (s.setFanState n 0).setFld (Fld.FAN_STATUS.FAULT_CAUSE.at n.val) 0
    .next (s.setFld (Fld.FAN_STATUS.ATTEMPT.at n.val) 0).updateFans
  else .next (s.fanIgnored n 1))

/-- RESTART (R395): a new start sequence of a channel that is neither off nor in FAULT. -/
def execFanRestart (n : FanId) (s : State) : Out State :=
  s.command (Fld.FAN_CMD.CMD.at n.val).addr (fun s =>
  if s.fanState n = 0 ∨ s.fanState n = 8 then .next (s.fanIgnored n 2) else .next (s.fanListen n 0).showFans)

/-- RELEARN (R395): the next start takes nominal motor estimates. -/
def execFanRelearn (n : FanId) (s : State) : Out State :=
  s.command (Fld.FAN_CMD.CMD.at n.val).addr (fun s =>
  if s.fanOn n then .next (s.putFan n { s.fan n with relearn := true }) else .next (s.fanIgnored n 3))

/-! ### Aging (R463, R474, R490 to R493) -/

/-- Fields counted since manufacture with the number of their instances (R463). -/
def madeCounters : List (Field × Nat) :=
  [(Fld.WC_UNPROT_MS, 1), (Fld.VLT_DUMP_COUNT, 1), (Fld.THERM_THROTTLE_MS, 1), (Fld.THERM_CRIT_COUNT, 1),
   (Fld.FAN_START_COUNT, 8), (Fld.FAN_FAIL_COUNT, 8), (Fld.FAN_RUN_S, 8), (Fld.AGE_EQUIV_S, 1), (Fld.AGE_PWR_CYCLES, 1),
   (Fld.AGE_THERM_CYCLES, 1), (Fld.AGE_TJ_HIST, 8), (Fld.PWR_TRANS_COUNT, 1), (Fld.TAKEOVER_COUNT, 1),
   (Fld.ERR_FATAL_COUNT, 1), (Fld.ARR_REPAIR_COUNT, 16), (Fld.ARR_MISMATCH_COUNT, 16), (Fld.SC_ECC_CORR, 1),
   (Fld.SC_ECC_UNCORR, 1), (Fld.CIP_AUTH_FAIL_COUNT, 1), (Fld.HBM_CORR, 2), (Fld.HBM_UNCORR, 2)]

/-- The instances of the fields counted since manufacture. -/
def madeFields : List Field := madeCounters.flatMap (fun p => (List.range p.2).map (fun i => p.1.at i))

/-- The counters written back to eMRAM (R463). -/
def State.saveCounters (s : State) : State :=
  { s with age := { s.age with saved := madeFields.foldl (fun t f => tput t f.key (s.fld f)) [] } }

/-- The counters as eMRAM holds them, after a stop that lost what was not written back (R463). -/
def State.loadCounters (s : State) : State :=
  madeFields.foldl (fun (st : State) f => st.setFld f ((tget s.age.saved f.key).getD f.reset)) s

/-- AGING_WRITEBACK (R463). -/
def execAgingWriteback (s : State) : Out State := .next s.saveCounters

/-- The band of AGE_TJ_HIST of a temperature in 0.1 °C (R492). -/
def tjBand (t : Int) : Nat :=
  if t < 550 then 0 else if t < 650 then 1 else if t < 750 then 2 else if t < 850 then 3 else if t < 950 then 4
  else if t < 1050 then 5 else if t < 1150 then 6 else 7

/-- Whether the Fingerboard domain is powered and not gated (R490). -/
def State.fingerboardOn (s : State) : Bool := s.pwr.fast != .unpowered && s.pwr.fast != .gated

/-- AGE_ACCUMULATE (R490): a second of the Fingerboard domain adds its acceleration factor to AGE_EQUIV and a second to its
band; LIFE_WARN is set with an event when AGE_LIFE first reaches 80 %. -/
def execAgeAccumulate (s : State) : Out State :=
  if !s.fingerboardOn then .next s
  else
    let us := s.age.micro + Config.agingFactorPpm s.tjDeci (s.fld Fld.PWR_AVS.STEP)
    let s := s.incFld Fld.AGE_EQUIV_S (us / 1000000)
    let b := tjBand s.tjDeci
    let n := (tget s.age.bandSec b).getD 0 + 1
    let s := { s with age := { s.age with micro := us % 1000000, bandSec := tput s.age.bandSec b (n % 3600) } }
    let s := if n = 3600 then s.satFld (Fld.AGE_TJ_HIST.at b) 1 else s
    let pct := min 65535 (s.fld Fld.AGE_EQUIV_S * 10000 / (350640 * 3600))
    let s := s.setFld Fld.AGE_LIFE.PCT_X100 pct
    if 8000 ≤ pct ∧ ¬ s.bit Fld.AGE_STATUS.LIFE_WARN then
      .next ((s.setBit Fld.AGE_STATUS.LIFE_WARN true).emit .lifeWarn [pct])
    else .next s

/-- The setpoint terms of R491 from the slowdown in 0.01 % and Tj: STEP = min(16, aging + temperature steps). -/
def State.avsSteps (s : State) (slow : Nat) : State :=
  let aging := slow / 50
  let temp := if s.tjDeci < 100 then 2 else 0
  let s := (s.setFld Fld.AGE_AVS_STEPS.AGING (min 31 aging)).setFld Fld.AGE_AVS_STEPS.TEMP temp
  let s := s.setFld Fld.AGE_AVS_STEPS.EXTRA_CLOCK (min 8 (aging - 16))
  (s.setFld Fld.PWR_AVS.STEP (min 16 (aging + temp))).showClock

/-- RO_MEASURE (R491): the mean slowdown in 0.01 %; MARGIN_OUT with an event once aging steps alone reach 16. -/
def execRoMeasure (slowX100 : Nat) (s : State) : Out State :=
  let s := (s.setFld Fld.AGE_RO_SLOW.SLOW_X100 slowX100).avsSteps slowX100
  if 16 ≤ slowX100 / 50 ∧ ¬ s.bit Fld.AGE_STATUS.MARGIN_OUT then
    .next ((s.setBit Fld.AGE_STATUS.MARGIN_OUT true).emit .marginOut [slowX100])
  else .next s

/-- EMRAM_REFRESH (R474): every word is rewritten with what it holds. -/
def execEmramRefresh (s : State) : Out State := .next { s with age := { s.age with refreshed := s.now } }

end Sys2Proof.Machine
end

