-- ==== Sys2Proof/Machine/FedOps.lean ====
section
/-!
DEFINITION. Machine/FedOps.lean: what the federation's commands share: membership (R332, R333), the grandmaster (R336), pitch time
(R335, R338), the pluck table (R340 to R343), barriers (R345).
-/
namespace Sys2Proof.Machine

/-- Identity of the image that runs or last ran (R329). -/
def State.ownIdentity (s : State) : Identity := (s.oldImage.bind (·.identity)).getD {}

/-- Own NODE_ID (R329). -/
def State.nodeId (s : State) : Nat := s.ownIdentity.nodeId

/-- Whether the device is a member of the federation (R348). -/
def State.joined (s : State) : Bool := !s.fed.members.isEmpty

/-- The ports that carry federation traffic (R330). -/
def State.fedPorts (s : State) : Nat := fedPortsOf s.thresholds s.paired

/-- The fields of Fed replaced. -/
def State.withFed (s : State) (f : Fed) : State := { s with fed := f }

/-- A message sent into the federation. -/
def State.fedSend (s : State) (m : FedMsg) : State := s.withFed { s.fed with out := s.fed.out ++ [m] }

/-! ### Membership (R332, R333) -/

/-- A member listed, the device itself with it. -/
def State.letJoin (s : State) (node device : Nat) : State :=
  let f := s.fed
  let m := if f.members.isEmpty then tput [] s.nodeId (s.fld Fld.SYS_DEVICE_ID) else f.members
  let s := s.withFed { f with members := tput m node device, heard := tput f.heard node s.now }
  s.setFld Fld.FED_STATUS.REFUSE_REASON 0

/-- A join refused with its reason: counted, answered, and recorded (R332). -/
def State.refuseJoin (s : State) (reason node : Nat) : State :=
  ((s.incFld Fld.FED_REFUSED 1).fedSend (.refuse reason)).emit .joinRefused [reason, node]

/-- The device leaves the federation: no member in view. -/
def State.leaveFed (s : State) : State :=
  let s := s.withFed { s.fed with members := [], heard := [], candidates := [] }
  (s.setBit Fld.PIT_STATUS.IS_GM false).setBit Fld.PIT_STATUS.SYNCED false

/-- A hello matched against the federation (R332, R333). -/
def State.hearHello (s : State) (h : Hello) : State :=
  let me := s.fld Fld.SYS_DEVICE_ID
  if h.node = s.nodeId ∧ h.device ≠ me then
    if me < h.device then s.refuseJoin 2 h.node
    else (s.leaveFed.setFld Fld.FED_STATUS.REFUSE_REASON 2).emit .joinRefused [2, h.node]
  else
    match tget s.fed.members h.node with
    | some d => if d = h.device then s.letJoin h.node h.device else s.refuseJoin 2 h.node
    | none => if 512 ≤ s.fed.members.length then s.refuseJoin 1 h.node else s.letJoin h.node h.device

/-! ### Grandmaster and pitch time (R335 to R338) -/

/-- The device as a candidate: pitch time valid, GM_ELIGIBLE set, a member (R336). -/
def State.ownCandidate (s : State) : List Announce :=
  if s.joined ∧ s.bit Fld.PIT_STATUS.VALID ∧ s.ownIdentity.flags / 8 % 2 = 1 then
    [⟨s.nodeId, s.fld Fld.PIT_STATUS.CLASS, s.ownIdentity.gmPriority, 0⟩]
  else []

/-- The order of candidates: lowest class, then GM_PRIORITY, then NODE_ID (R336). -/
def gmRank (a : Announce) : Nat := a.cls * 2 ^ 20 + a.priority % 256 * 2 ^ 10 + a.node % 512

/-- The best candidate; class 5 is never one. -/
def bestCandidate (l : List Announce) : Option Announce :=
  (l.filter (fun a => a.cls < 5)).foldl (fun (acc : Option Announce) a =>
    match acc with
    | none => some a
    | some b => if gmRank a < gmRank b then some a else some b) none

/-- PIT_GM and IS_GM after an election (R336, R348). -/
def State.elect (s : State) (cands : List Announce) : State :=
  let s := s.withFed { s.fed with candidates := cands }
  match bestCandidate (s.ownCandidate ++ cands) with
  | none =>
    let s := ((s.setFld Fld.PIT_GM.NODE 0).setFld Fld.PIT_GM.CLASS 5).setFld Fld.PIT_GM.DEPTH 0
    let s := (s.setFld Fld.PIT_GM.PRIORITY 0).setBit Fld.PIT_STATUS.HOLDOVER (s.bit Fld.PIT_STATUS.SYNCED || s.bit Fld.PIT_STATUS.HOLDOVER)
    (s.setBit Fld.PIT_STATUS.IS_GM false).setBit Fld.PIT_STATUS.SYNCED false
  | some b =>
    let own : Bool := decide (b.node = s.nodeId)
    let s := ((s.setFld Fld.PIT_GM.NODE b.node).setFld Fld.PIT_GM.CLASS b.cls).setFld Fld.PIT_GM.PRIORITY b.priority
    let s := (s.setFld Fld.PIT_GM.DEPTH (min b.depth 31)).setBit Fld.PIT_STATUS.IS_GM own
    if own then s.setBit Fld.PIT_STATUS.SYNCED false else s

/-- A PIT command ended (R348). -/
def State.pitDone (s : State) (err : Nat) : State := (s.setBit Fld.PIT_CMD_STATUS.DONE true).setFld Fld.PIT_CMD_STATUS.ERROR err

/-- Whether host software may set pitch time (R338). -/
def State.mayTime (s : State) : Bool := s.bit Fld.PIT_STATUS.IS_GM || !s.joined

/-- Pitch time supplied by the host (R335, R336). -/
def State.hostTime (s : State) (cls : Nat) : State :=
  let s := (s.setFld Fld.PIT_NOW (s.fld Fld.PIT_SET)).setBit Fld.PIT_STATUS.VALID true
  let s := s.setFld Fld.PIT_STATUS.CLASS cls
  s.withFed { s.fed with byHost := true, slew := 0 }

/-- Whether PPS_IN is enabled (R329). -/
def State.ppsIn (s : State) : Bool := decide (s.ownIdentity.flags % 2 = 1)

/-! ### The pluck table (R340) -/

/-- The pluck in the 32 bytes of PLUCK_DATA, without the fields the device sets. -/
def pluckOf (v : Nat) : PluckReq :=
  let f (lo n : Nat) : Nat := v / 256 ^ lo % 256 ^ n
  { t := f 0 8, periodS := f 8 4, action := f 12 1, policy := f 13 1, lateWindowS := f 14 2, arg := f 16 4, staggerSlots := f 20 2,
    staggerStepUs := f 24 4 }

/-- The 32 bytes of an entry, byte 0 lowest. -/
def pluckData (m : PluckMsg) : Nat :=
  let q := m.req
  ofBytes (leBytes 8 q.t ++ leBytes 4 q.periodS ++ [q.action, q.policy] ++ leBytes 2 q.lateWindowS ++ leBytes 4 q.arg ++
    leBytes 2 q.staggerSlots ++ leBytes 2 m.origin ++ leBytes 4 q.staggerStepUs ++ leBytes 4 m.id)

/-- The entry at an index. -/
def State.pluck (s : State) (i : Nat) : Option PluckEnt := tget s.fed.plucks i

/-- The entry at an index replaced. -/
def State.putPluck (s : State) (i : Nat) (e : PluckEnt) : State := s.withFed { s.fed with plucks := tput s.fed.plucks i e }

/-- Whether an entry is terminal (R341). -/
def PluckSt.terminal (x : PluckSt) : Bool :=
  match x with
  | .armed | .running => false
  | .done | .lateDone | .dropped | .cancelled => true

/-- Whether a pluck may be installed at an index: EMPTY or terminal, and not standing (R342). -/
def State.pluckFree (s : State) (i : Nat) : Bool :=
  match s.pluck i with
  | none => true
  | some e => e.state.terminal && !e.standing

/-- Te of a pluck on this device (R341). -/
def State.pluckTe (s : State) (q : PluckReq) : Nat :=
  if q.staggerSlots ≤ 1 then q.t else q.t + s.nodeId % q.staggerSlots * q.staggerStepUs * 1000

/-- The default policy and window of an action (R344). -/
def State.pluckDefault (s : State) (action : Nat) : PluckDefault :=
  let d := ((s.oldImage.bind (·.plucks)).getD {}).defaults
  (d[action % 128 - 1]?).getD ⟨2, 0⟩

/-- The policy and window that apply to a pluck (R340, R344). -/
def State.pluckPolicy (s : State) (q : PluckReq) : PluckDefault :=
  if q.policy = 0 then s.pluckDefault q.action else ⟨q.policy, q.lateWindowS⟩

/-- Whether a late entry runs (R343). -/
def State.runsLate (s : State) (q : PluckReq) (late : Nat) : Bool :=
  let p := s.pluckPolicy q
  p.policy == 1 || (p.policy == 3 && decide (late ≤ p.lateWindowS * sec))

/-- Whether local pitch time is past a pluck's Te. -/
def State.pastTe (s : State) (q : PluckReq) : Bool :=
  match s.pitch with
  | some t => decide (s.pluckTe q < t)
  | none => false

/-- A pluck installed (R342). -/
def State.installPluck (s : State) (i : Nat) (m : PluckMsg) : State := s.putPluck i ⟨m, .armed, 0, false, 0⟩

/-- The pluck written at PLUCK_SEL with its origin and identifier; the writer's count goes up (R340). -/
def State.writePluck (s : State) : PluckMsg × State :=
  let m : PluckMsg := ⟨pluckOf (s.fld Fld.PLUCK_DATA), s.nodeId, s.fed.pluckCount % 2 ^ 32⟩
  (m, (s.installPluck (s.fld Fld.PLUCK_SEL.INDEX) m).withFed
    { (s.installPluck (s.fld Fld.PLUCK_SEL.INDEX) m).fed with pluckCount := s.fed.pluckCount + 1 })

/-- The error that a WRITE meets at PLUCK_SEL (R342, R344): 4 standing, 1 neither EMPTY nor terminal, 2 a field invalid. -/
def State.pluckError (s : State) : Nat :=
  let i := s.fld Fld.PLUCK_SEL.INDEX
  let standing : Bool := ((s.pluck i).map (·.standing)).getD false
  if standing then 4 else if !s.pluckFree i then 1 else if !pluckReqOk (pluckOf (s.fld Fld.PLUCK_DATA)) then 2 else 0

/-- A PLUCK command ended (R348). -/
def State.pluckDone (s : State) (err : Nat) : State := (s.setBit Fld.PLUCK_STATUS.DONE true).setFld Fld.PLUCK_STATUS.ERROR err

/-- Standing entries of the Pluck defaults loaded from index 0 upward (R340). -/
def State.loadStanding (s : State) : State :=
  let l := ((s.oldImage.bind (·.plucks)).getD {}).standing
  let n := s.nodeId
  s.withFed { s.fed with plucks := l.mapIdx (fun i q => (i, ⟨⟨q, n, i⟩, .armed, 0, true, 0⟩)), pluckCount := l.length }

/-- A recurring entry moved to its first occurrence after the current pitch time (R341). -/
def State.nextOccurrence (s : State) (q : PluckReq) : PluckReq :=
  let p := q.periodS * sec
  let te := s.pluckTe q
  let t := s.fld Fld.PIT_NOW
  { q with t := q.t + (if te ≤ t then (t - te) / p + 1 else 1) * p }

/-- An entry that has run or been dropped: armed again for its next occurrence, or in a terminal state (R341). -/
def State.settlePluck (s : State) (i : Nat) (e : PluckEnt) (st : PluckSt) (reason : Nat) : State :=
  if e.msg.req.periodS = 0 then s.putPluck i { e with state := st, reason := reason }
  else s.putPluck i { e with msg := { e.msg with req := s.nextOccurrence e.msg.req }, state := .armed, reason := reason }

/-- An entry dropped with a reason (R343, R346, R348). -/
def State.dropPluck (s : State) (i : Nat) (e : PluckEnt) (reason : Nat) : State :=
  (s.incFld Fld.PLUCK_DROP_COUNT 1).settlePluck i e .dropped reason

/-! ### Barriers (R345) -/

/-- The commands whose reservation is stamped and that still have sectors to place. -/
def State.beforeWrites (s : State) : List HostCmd := s.hfe.cmds.filter HostCmd.reserving

/-- A WRITE_BARRIER cut with FLUSH: its before-writes are what has been placed and what these commands place. -/
def State.cutBarrier (s : State) (i te : Nat) : State :=
  let b := s.beforeWrites
  s.withFed { s.fed with barriers := s.fed.barriers ++ [⟨i, te, s.wc.nextSeq, b.map (·.order),
    b.flatMap (fun c => (rangeLbas c.ranges).map (nsKey c.nsid))⟩] }

/-- Whether a barrier still waits for a before-write (R115, R345). -/
def State.barrierWaits (s : State) (b : Barrier) : Bool :=
  s.hfe.cmds.any (fun c => b.orders.contains c.order && c.reserving) ||
  s.wc.lines.any (fun l => l.2.isDirty && (decide (l.2.seq < b.cut) || l.2.state == .redirtied || b.keys.contains l.1))

/-- Every RUNNING barrier ends DROPPED, reason 5 (R346). -/
def State.dropBarriers (s : State) : State :=
  let l := s.fed.barriers
  let s := s.withFed { s.fed with barriers := [] }
  l.foldl (fun (st : State) b =>
    match st.pluck b.index with
    | some e => st.dropPluck b.index e 5
    | none => st) s

/-- Whether an action runs on the Fingerboard die (R344). -/
def pluckFast (action : Nat) : Bool := [1, 2, 4, 6].contains (action % 128)

/-- Whether an entry of a sleeping device needs the device awake (R346). -/
def State.pluckWakes (s : State) (q : PluckReq) : Bool :=
  decide (128 ≤ q.action) ||
  (pluckFast q.action && !(decide (q.action % 128 = 1) && (decide (q.arg % 2 = 0) || decide (s.vaulted = 0))))

end Sys2Proof.Machine
end

