-- ==== Sys2Proof/Machine/PwrOps.lean ====
section
/-!
DEFINITION. Machine/PwrOps.lean: what the commands of power, clocks and reset share: the register and state reset of the fast domains
(R432, R462), of the Pegbox die (R18, R432), the boot (R439), power-state transitions (R19, R20, R425 to R431), what follows a vault
dump (R164, R165, R434, R450).
-/
namespace Sys2Proof.Machine

/-! ### Reset of the fast domains (R432, R462) -/

/-- Whether the dump that a start would replay names every dirty sector as it stands, so that it covers a stop (R168, R169). -/
def State.covered (s : State) : Bool :=
  match s.replayDump with
  | none => false
  | some d => (s.wc.lines.filter (fun l => l.2.isDirty)).all (fun l =>
      d.sectors.any (fun x => nsKey x.nsid x.lba == l.1 && x.seq == l.2.seq))

/-- Whether a stop now is unclean: dirty data, no partner that mirrors it, no dump that covers it (R169, R171). While a replay is still
due its dump stays in place, and nothing new is dirty (R168). -/
def State.uncleanStop (s : State) : Bool :=
  s.hasDirty && !s.mirrored && !s.bit Fld.HFE_STATUS.REPLAY_PENDING && !s.covered

/-- The write path after a loss of HBM (R161, R169): what eMRAM holds stays: the fret map, the dirty-namespace bitmap, the resync state. -/
def State.wcReset (s : State) : State :=
  let bad := s.wc.unclean || !s.wc.rerun.isEmpty || s.uncleanStop
  let s := s.fretCut
  let w := s.wc
  { s with wc := { State.reset.wc with
    nextSeq := w.nextSeq, nextUpd := w.nextUpd, fret := w.fret, dirtyNs := w.dirtyNs, resync := w.resync, resyncPos := w.resyncPos,
    unclean := bad } }

/-- The host front end after a reset of every function (R137): pending flags, windows, Format, Sanitize and the deferred-error list
are eMRAM's and stay (R12), with what has gone to hosts. -/
def State.hfeReset (s : State) : State :=
  let h := s.hfe
  let keep := (h.fns.filter (fun f => !f.2.flagged.isEmpty)).map (fun (f : Nat × FnSt) =>
    (f.1, { fnDisabled with flagged := f.2.flagged }))
  { s with hfe := { State.reset.hfe with
    fns := keep, posted := h.posted, raised := h.raised, windows := h.windows,
    formats := (h.formats.filter (·.started)).map (fun (f : FormatOp) => { f with who := none }),
    sanitize := (h.sanitize.filter (·.started)).map (fun (x : SanitizeOp) => { x with who := none }),
    sanStatus := h.sanStatus, dwe := h.dwe } }

/-- Arrays after a loss of HBM: the bow buffer is gone, and the bow stands at the checkpoint (R205); measured service times and pauses
start anew. -/
def Arr.afterReset (r : Arr) : Arr :=
  let n := r.stripes
  let saved (x : Nat) : Nat := if x < n then x / 256 * 256 else x
  let member (m : Nat) (x : Member) : Member :=
    let x := { x with slow := false, median := 0, reads := 0 }
    if x.state == .rebuilding && r.failOrder.contains m then
      { x with spareTo := if x.spareFrom = 0 then saved x.spareTo else x.spareTo, directTo := saved x.directTo }
    else if x.state == .active then x
    else { x with rebuiltTo := saved x.rebuiltTo }
  { r with sources := [], displaced := [], bow := r.ckpt, pauses := [], labelJobs := [], labelAgain := false,
           critMark := r.critMark / 256 * 256, mainMark := r.mainMark / 256 * 256,
           critDone := if r.wants.contains .critical then r.critDone.filter (fun c => decide (c.1 < r.critMark / 256 * 256)) else r.critDone,
           members := r.members.mapIdx member }

/-- What LINK_STATUS.MODE and DRV_PWREN of the ports were stays across a reset of the fast domains (R497). -/
def State.portsReset (s : State) (regs : Tbl Nat) : State :=
  let old := s.ports
  let s := { s with ports := old.map (fun (p : Nat × PortSt) => (p.1, { portReset with pwren := p.2.pwren })) }
  (List.finRange 48).foldl (fun (st : State) p =>
    let st := st.setFld (Fld.LINK_STATUS.MODE.at p.val) ((tget regs (Fld.LINK_STATUS.MODE.at p.val).key).getD 0)
    st.setPwren p (st.port p).pwren) s

/-- Staging discarded by a reset (R50): what was not committed is lost; a copy that COMMIT was programming stays invalid. -/
def State.stageReset (s : State) : State :=
  let i := s.img
  let s := { s with img := { i with stage := [], staged := none, newArrays := [] } }
  let s := ((s.setFld Fld.IMG_STAGE_STATUS.STATE 0).setFld Fld.IMG_STAGE_STATUS.OWNER 0).setBit Fld.IMG_STAGE_STATUS.BUSY false
  (s.setFld Fld.IMG_STAGE_STATUS.ERROR 0).setFld Fld.IMG_STAGE_STATUS.CHANGE_CLASS 0

/-- The fast domains and the capo island enter reset (R10, R309, R432): what the Fingerboard die, HBM and the functions held is lost. -/
def State.fastReset (s : State) : State :=
  let s := s.wcReset.hfeReset
  let regs := s.regs
  let s := s.dropBarriers.leaveFed
  let s := (s.resetRegs (fun a => fastServed a || capoServed a)).portsReset regs
  let s := s.stageReset
  let p := s.pwr
  let holds := if s.acFail then [FetchHold.acFail] else []
  let s := { s with
    rbe := { s.rbe with arrays := s.rbe.arrays.map (fun (a : Nat × Arr) => (a.1, a.2.afterReset)), katTesting := [] },
    map := State.reset.map, lat := { State.reset.lat with refillAt := s.now },
    sc := { State.reset.sc with delivered := s.sc.delivered, written := s.sc.written },
    dma := { State.reset.dma with hostWrites := s.dma.hostWrites, messages := s.dma.messages },
    cip := { s.cip with waiting := [], pipes := [], suspended := [], entropy := [], grants := [0, 0, 0, 0] },
    capo := { State.reset.capo with seenAt := s.now, sent := s.capo.sent },
    err := { s.err with stack := s.err.stack.filter (·.pegbox) },
    pwr := { p with fast := .inReset, plls := p.plls % 16, waits := [], psRun := none, reversing := false, holds := holds,
                    sysPending := false, saved := false } }
  let s := (s.setBit Fld.PWR_STATE.BOOTING false).setBit Fld.CIP_STATUS.OWNER_SET s.cip.kek.isSome
  let s := (s.setFld Fld.PWR_STATE.STATE 0).setFld Fld.PWR_STATE.TARGET 0
  let s := (s.setBit Fld.VLT_STATUS.DUMPING false).setBit Fld.VLT_STATUS.REPLAYING false
  (s.setBit Fld.HFE_STATUS.REPLAY_PENDING false).showContexts

/-- SYS_RST_N's reset of the fast domains (R432, R434). -/
def State.sysReset (s : State) : State := s.fastReset.setBit Fld.PWR_RESET_INFO.SYS_PIN true

/-! ### Status LEDs (R436) -/

/-- How an LED is driven: off, on, blinking with a number of flashes in 4 s, or the 50 ms flash of Silence. -/
inductive Led where
  | off
  | on
  | blink (per4s : Nat)
  | flash
deriving DecidableEq, Repr

/-- STATUS_LED[0] and STATUS_LED[1]: the first condition of R436's table that holds. -/
def State.leds (s : State) : Led × Led :=
  let st := s.fld Fld.PWR_STATE.STATE
  if s.pwr.redLed || s.err.active.isSome || s.bit Fld.ERR_STATUS.FATAL_HOLD || s.therm.stop.isSome then (.off, .on)
  else if s.tamperHold then (.off, .blink 16)
  else if s.safeMode then (.blink 4, .on)
  else if s.pwr.sysLow then (.off, .blink 4)
  else if s.wc.dumpArea.isSome then (.blink 16, .blink 16)
  else if s.bit Fld.PWR_STATE.BOOTING || s.bit Fld.HFE_STATUS.REPLAY_PENDING then (.blink 16, .off)
  else if s.pwr.fast == .gated then (.flash, .off)
  else if s.pwr.fast == .retained then (.blink 4, .off)
  else if (s.pwr.fast == .running) && decide (st ≤ 5) then (.on, .off)
  else (.off, .off)

/-! ### Boot (R439, R440) -/

/-- Whether nothing holds the fast domains in reset (R10, R18, R282, R378, R422, R435, R438, R451). -/
def State.canBoot (s : State) : Bool :=
  let p := s.pwr
  !p.aonLow && !p.sysLow && p.railsOk && p.aonRails && p.fwOk && !p.wdHold && s.bit Fld.PWR_STATE.PEGBOX_READY &&
  (p.fast == .inReset) && !s.tamperHold && !s.bit Fld.ERR_STATUS.FATAL_HOLD && s.err.active.isNone && s.therm.stop.isNone

/-- FAST_BOOT (R439): a boot starts at step 1. VDD_FB starts at 0.900 V (R423). -/
def State.startBoot (s : State) : State :=
  let s := { s with pwr := { s.pwr with fast := .booting, bootStart := s.now, redLed := false } }
  let s := (s.setBit Fld.PWR_STATE.BOOTING true).setFld Fld.PWR_AVS.STEP 0
  (s.setFld Fld.PWR_STATE.STATE 0).setFld Fld.PWR_STATE.TARGET 0

/-- The namespaces whose dirty bit is set reported with cause 0x02 over all they hold (R171). -/
def State.reportDirty (s : State) : State :=
  s.wc.dirtyNs.foldl (fun (st : State) n =>
    match st.ns n with
    | some x => st.deferError n 0x02 0 x.size
    | none => st) s

/-- The end of what a start does before the namespaces come online without a dump: the resync scan begins (R169). -/
def State.online (s : State) : State :=
  ((s.setBit Fld.HFE_STATUS.REPLAY_PENDING false).startResync).noteLimit

/-- A start with no dump to replay (R169, R171, R174, R207): after an unclean stop every dirty namespace is reported, and arrays that
reshape rerun their steps before the namespaces come online. -/
def State.noReplay (s : State) : State :=
  let bad := s.wc.unclean
  let s := if bad then s.reportDirty else s
  let s := s.setFld Fld.WC_REPLAY.RESULT (if bad then 3 else 0)
  let todo := if bad then (s.rbe.arrays.filter (fun a => a.2.prev.isSome)).map (·.1) else []
  let s := { s with wc := { s.wc with unclean := false, rerun := todo } }
  if todo.isEmpty then s.online else s.setBit Fld.HFE_STATUS.REPLAY_PENDING true

/-- Load metering at its bursts (R213). -/
def State.startMetering (s : State) : State :=
  let c := s.classCfg
  { s with lat := { s.lat with cmdTokens := c.c0CmdBurst * 1000000,
                               byteTokens := List.replicate 4 ((c.c0ByteBurstMib : Int) * 1048576 * 1000000), refillAt := s.now } }

/-- The pair's part of a hand-over (R308, R323): an unpaired device has its gate open; a paired one drives CONSENT and chooses its role;
in Safe Mode the gate is closed (R43). -/
def State.startCapo (s : State) : State :=
  if s.safeMode then s.driveCapo
  else if s.paired then (s.setRole 0).driveCapo
  else ((s.setRole 6).setBit Fld.CAPO_STATUS.GATE_OPEN true).driveCapo

/-- What the federation registers show of the image (R331, R347). -/
def State.startFed (s : State) : State :=
  let fed := (s.img.running.map imageFed).getD false
  let s := (s.setBit Fld.FED_STATUS.ENABLED fed).setFld Fld.FED_STATUS.NODE_ID s.nodeId
  let m := s.fedPorts
  (List.range 4).foldl (fun (st : State) i => st.setBit (Fld.FED_LINK.FED_PORT.at i) (fed && decide (m / 2 ^ i % 2 = 1))) s

/-- New arrays that a boot has created stay listed until their drives have been identified (R494). -/
def State.keepNew (s : State) : State :=
  { s with img := { s.img with toCreate := s.img.toCreate.filter (fun n => (s.arr n.index).isSome && !n.drives.isEmpty) } }

/-- Step 5 of R439: the boot ROM hands over with the image that R41 selects applied, or in Safe Mode. -/
def State.handOver (s : State) : State :=
  let p := s.bootPick
  let s := { s with pwr := { s.pwr with fast := .running } }
  let s := ((s.setFld Fld.IMG_BOOT.BOOT_SOURCE p.source).setFld Fld.IMG_BOOT.SAFE_REASON p.reason).setBit
    Fld.IMG_BOOT.NONSEMANTIC_DIFF p.nonSemantic
  let s := s.setBit Fld.IMG_BOOT.SAFE_MODE p.image.isNone
  let s := match p.image with
    | none => ({ s with img := { s.img with running := none } } : State).showRunning.showCopies.showRewrite
    | some i => ((s.applyImage i s.img.toCreate false).keepNew).showRewrite.showCal
  let s := if p.nonSemantic then s.emit .nonSemanticDiff [s.fld Fld.IMG_RUN_SEQ] else s
  let s := s.setFld Fld.EVR_STATUS.MODE s.recorderCfg.mode
  let s := (s.startCapo.startFed.spinupStart).startMetering
  let s := s.setBit Fld.HFE_STATUS.REPLAY_PENDING (p.image.isSome && s.replayDump.isSome)
  let s := s.computeEnergy
  let s := if p.image.isSome then s.recomputeLimit.computeEnergy else s
  let s := { s with capo := { s.capo with renewAt := s.now } }
  s.updateFans.showClock.startKat

/-! ### Power-state transitions (R19, R20, R425 to R431) -/

/-- Entry to Rest or Silence begun (R427, R428): fetch stops, what is dirty is destaged, counters are written back (R463). -/
def State.beginEntry (s : State) (target : Nat) : State :=
  let s := s.hold .powerEntry
  let s := (s.setFld Fld.PWR_STATE.STATE 4).setFld Fld.PWR_STATE.TARGET target
  ({ s with wc := { s.wc with destageAll := s.wc.lines.any (fun l => l.2.isDirty) } } : State).saveCounters

/-- Whether a Set Features Power Management command that asks for a state may go (R141). -/
def State.entryAllowed (s : State) : Bool :=
  s.hfe.formats.isEmpty && s.hfe.sanitize.isNone && !([4, 6].contains (s.fld Fld.IMG_STAGE_STATUS.STATE))

/-- A transition that has ended in a state: counted, and the command that asked for it completes (R19, R441). -/
def State.settle (s : State) (st : Nat) : State :=
  let s := (s.setFld Fld.PWR_STATE.STATE st).setFld Fld.PWR_STATE.TARGET 0
  let run := s.pwr.psRun
  let p := s.pwr
  let s := { s with pwr := { p with psRun := none, reversing := false, lastOp := if st ≤ 1 then st else p.lastOp } }
  let s := (if st ≤ 1 then s.unhold .powerEntry else s).incFld Fld.PWR_TRANS_COUNT 1
  let s := match run with
    | some w => s.adminDone w.fn w.cid stOk 0 []
    | none => s
  s.showClock

/-- A wake (R19, R29, R430): from Rest or Silence an exit begins; during an entry the entry reverses at its quiesce point; otherwise, and
while AC_FAIL_N is asserted (R16), nothing. -/
def State.wakeUp (s : State) : State :=
  let st := s.fld Fld.PWR_STATE.STATE
  if s.acFail then s
  else if st = 4 then { s with pwr := { s.pwr with reversing := true } }
  else if (s.pwr.fast == .retained) || (s.pwr.fast == .gated) then
    if st = 2 ∨ st = 3 then (s.setFld Fld.PWR_STATE.STATE 5).setFld Fld.PWR_STATE.TARGET st else s
  else s

/-- A Set Features Power Management command runs (R19, R141, R431): it waits while a transition runs or the device sleeps; a state that
holds already completes it; Full and Trim are entered at once. -/
def State.startPower (s : State) (w : PsWait) : State :=
  let st := s.fld Fld.PWR_STATE.STATE
  if 2 ≤ st then ({ s with pwr := { s.pwr with waits := s.pwr.waits ++ [w] } } : State).wakeUp
  else if s.pwr.psRun.isSome then { s with pwr := { s.pwr with waits := s.pwr.waits ++ [w] } }
  else if w.target = st then s.adminDone w.fn w.cid stOk 0 []
  else if w.target ≤ 1 then ({ s with pwr := { s.pwr with psRun := some w } } : State).settle w.target
  else if s.entryAllowed then ({ s with pwr := { s.pwr with psRun := some w } } : State).beginEntry w.target
  else s.adminDone w.fn w.cid stSequence 0 []

/-- Waiting Set Features Power Management commands taken in order, until one begins an entry; the rest go on waiting (R431). -/
def State.startWaits (s : State) : List PsWait → State
  | [] => s
  | w :: r =>
    if 2 ≤ s.fld Fld.PWR_STATE.STATE then { s with pwr := { s.pwr with waits := s.pwr.waits ++ w :: r } }
    else (s.startPower w).startWaits r

/-- The commands that waited for the transition run. -/
def State.runWaits (s : State) : State :=
  let l := s.pwr.waits
  ({ s with pwr := { s.pwr with waits := [] } } : State).startWaits l

/-- A transition ended, and the next waiting command taken. -/
def State.settleNext (s : State) (st : Nat) : State := (s.settle st).runWaits

/-- Whether the TCXO has to run in Silence (R27): a fan channel turns, or the gauge samples a pack. -/
def State.tcxoWanted (s : State) : Bool :=
  s.fans.any (fun (f : Nat × Fan) => f.2.turnSince.isSome) || bothPacks.any (fun p => s.packPresent p)

/-- The contents that Silence gates off (R28, R428): the stripe cache, HBM with the staging buffer, the mapper, the DMA engine, the histograms, the
measured service times of members; the cache held no dirty line. A committed image is in flash and eMRAM, and its sequence stays. -/
def State.gateFast (s : State) : State :=
  let s := s.portsSilence
  let s := if s.fld Fld.IMG_STAGE_STATUS.STATE = 5 then { s with img := { s.img with stage := [] } } else s.stageReset
  let still (r : Arr) : Arr := { r with members := r.members.map (fun x => { x with slow := false, median := 0, reads := 0 }) }
  { s with
    rbe := { s.rbe with arrays := s.rbe.arrays.map (fun (a : Nat × Arr) => (a.1, still a.2)) }, lat := { s.lat with hist := [] },
    wc := { s.wc with lines := [] }, map := State.reset.map,
    sc := { State.reset.sc with delivered := s.sc.delivered, written := s.sc.written },
    dma := { State.reset.dma with hostWrites := s.dma.hostWrites, messages := s.dma.messages },
    pwr := { s.pwr with fast := .gated, saved := true } }

/-- The fast domains run again after Rest or Silence: from Silence every Fingerboard register returns to its Reset value (R462), the ports
are brought up (R299) and the dirty limit is computed anew. -/
def State.restart (s : State) : State :=
  if s.pwr.fast == .gated then
    let regs := s.regs
    let pend := s.bit Fld.HFE_STATUS.REPLAY_PENDING
    let s := (s.resetRegs fastServed).portsReset regs
    let s := { s with pwr := { s.pwr with fast := .running, saved := false, plls := s.pwr.plls % 2 + 254 } }
    let s := (List.finRange 48).foldl (fun (st : State) p => st.spinupPort p) s
    (s.setBit Fld.HFE_STATUS.REPLAY_PENDING pend).startMetering.recomputeLimit.startKat
  else { s with pwr := { s.pwr with fast := .running, plls := s.pwr.plls % 16 + 240 }, lat := { s.lat with refillAt := s.now } }

/-- The exit from Rest or Silence completed in an operational state. -/
def State.wakeTo (s : State) (st : Nat) : State :=
  let s := s.restart
  let s := { s with capo := { s.capo with renewAt := s.now } }
  s.settleNext st

/-- A transition given up for AC_FAIL_N (R16): the fast domains return to Full clocks; Rest ends in the last operational state (R430). -/
def State.abandonTransition (s : State) : State :=
  let st := s.fld Fld.PWR_STATE.STATE
  let s := { s with wc := { s.wc with destageAll := false } }
  if st = 4 then s.settle 0
  else if st = 5 then s.restart.settle 0
  else if st = 2 then s.restart.settle s.pwr.lastOp
  else s

/-! ### After a vault dump (R165, R378, R434, R450) -/

/-- Step 6 of R450: the soundpost copies written, the fast domains in reset; the fourth fatal error within 24 h holds them there (R451). -/
def State.fatalEnd (s : State) : State :=
  let s := s.copyVault.copyFlash
  let s := s.fastReset.setBit Fld.PWR_RESET_INFO.FATAL true
  let s := { s with pwr := { s.pwr with redLed := true } }
  if 4 ≤ s.fatals24 then
    ({ s with err := { s.err with active := none } } : State).setBit Fld.ERR_STATUS.FATAL_HOLD true
  else s

/-- Step 3 of R378: the soundpost with cause 2, and the fast domains and HBM gated until the CRITICAL exit condition holds. -/
def State.thermGate (s : State) : State :=
  let s := ((s.writeSoundpost 2).fastReset).setBit Fld.PWR_RESET_INFO.FATAL true
  { s with therm := { s.therm with stop := some .gated }, pwr := { s.pwr with redLed := true } }

/-- Mains is back (R165): HOLDUP_EN falls and command fetch resumes without a reset. -/
def State.resumeMains (s : State) : State := (s.setHoldup false).unhold .acFail

/-- What follows a dump that has ended, or that could not be written (R165, R378, R434, R450). -/
def State.afterDump (s : State) (why : DumpReason) (area : Option Nat) : State :=
  let s := { s with wc := { s.wc with dumpArea := none, dumpWhy := none } }
  match why with
  | .acFail =>
    if s.pwr.sysPending then s.sysReset
    else if s.acFail then s
    else
      let s := match area with
        | some i => ({ s with vault := { s.vault with dumps := tmod s.vault.dumps i (fun (d : Dump) => { d with cancelled := true }) } } :
            State).setBit (Fld.VLT_AREA.CANCELLED.at i) true
        | none => s
      s.resumeMains.recomputeLimit
  | .sysReset => s.sysReset
  | .fatal => s.fatalEnd
  | .thermal => s.thermGate

/-- A dump asked for: begun in a ready area, or, where there is none, what would follow it at once (R164, R369). -/
def State.dumpFor (s : State) (why : DumpReason) : State :=
  let s := s.scStopRange.startDump why
  if s.wc.dumpArea.isNone then s.afterDump why none else s

/-- Whether the stop of SYS_RST_N, of a fatal error or of a thermal stop writes a dump: V > 0, and no replay is due whose dump stays in
place (R168, R434, R450). -/
def State.dumpNeeded (s : State) : Bool := s.hasDirty && !s.bit Fld.HFE_STATUS.REPLAY_PENDING

/-! ### Reset of the Pegbox die (R18, R432, R433) -/

/-- A running dump abandoned: how many of its sectors were saved is not known (R164, R433). -/
def State.abandonDump (s : State) : State :=
  match s.wc.dumpArea with
  | none => s
  | some i =>
    let n := ((tget s.vault.dumps i).map Dump.units).getD 0
    (s.used).dumpCut (min (s.free 32).toNat n)

/-- What the Pegbox main domain held is lost (R432): key slots, the pluck table, the side queue, a freeze, records on their way, the error
stack, tests and learning of the packs; eMRAM, the vault, boot flash and the always-on domain keep what they hold. -/
def State.pegboxDown (s : State) : State :=
  let s := s.abandonDump.fastReset
  let s := ((s.setHoldup false).setBit Fld.PWR_STATE.PEGBOX_READY false).setBit Fld.EVR_STATUS.FROZEN false
  let e := s.evr
  let n := s.nrg.packs.map (fun (p : Nat × Pack) =>
    (p.1, { p.2 with en := false, loadStep := false, cut := none, test := none, learn := none, fails := 0, learnTries := 0,
                     restSince := none, writeDue := false, displaced := none }))
  { s with
    evr := { e with sideQ := [], arrivals := [], chal := none, failures := 0, second := 0, secondCount := 0, spNowAt := none },
    err := State.reset.err, img := { s.img with running := none },
    cip := { State.reset.cip with floors := s.cip.floors, serials := s.cip.serials, marks := s.cip.marks, markOld := s.cip.markOld,
                                  offTrip := s.cip.offTrip },
    fed := { State.reset.fed with out := s.fed.out, ppsSeconds := s.fed.ppsSeconds },
    nrg := { packs := n, queue := [], deferred := [], cmd := none }, therm := State.reset.therm, fans := [],
    pwr := { s.pwr with lastOp := 0, redLed := false } }

/-- The registers that a Pegbox start returns to their Reset values: every one (R462); the always-on domain, eMRAM and pins give theirs
again: pitch time (R30), AC_FAIL_N's level and the cause of the start. -/
def State.pegboxRegs (s : State) : State :=
  let pit := s.fld Fld.PIT_NOW
  let ac := s.acFail
  let pin := s.bit Fld.PWR_RESET_INFO.AON_PIN
  let wd := s.bit Fld.PWR_RESET_INFO.WATCHDOG
  let s := s.resetRegs (fun a => !fastServed a && !capoServed a)
  let s := if s.bit Fld.PIT_STATUS.VALID then s.setFld Fld.PIT_NOW pit else s
  let s := (s.setBit Fld.NRG_STATUS.AC_FAIL ac).setBit Fld.PWR_RESET_INFO.AON_PIN pin
  s.setBit Fld.PWR_RESET_INFO.WATCHDOG wd

/-- The vault as a start finds it (R366, R367, R370): geometry, rate, and the areas with the dumps they hold. -/
def State.vaultStart (s : State) (found : VaultFound) (rate area targets block : Nat) : State :=
  let s := { s with vault := { s.vault with failing := found.failing } }
  let s := (s.setBit Fld.VLT_STATUS.PRESENT found.ok).setFld Fld.VLT_RATE.MBPS rate
  let good := found.ok && decide (12000 ≤ rate)
  let s := s.setBit Fld.VLT_STATUS.RATE_OK good
  let s := ((s.setFld Fld.VLT_AREA_MIB.MIB area).setFld Fld.VLT_GEOM.TARGETS targets).setFld Fld.VLT_GEOM.BLOCK_MIB block
  let s := if good then s else s.emit .vaultRate [rate]
  (List.range 2).foldl (fun (st : State) i =>
    let d := tget st.vault.dumps i
    let code := match d with
      | some x => if x.retired then 2 else 1
      | none => if st.vault.erasing.contains i then 2 else if good then 0 else 3
    let st := st.setFld (Fld.VLT_AREA.STATE.at i) code
    let st := st.setBit (Fld.VLT_AREA.COMPLETE.at i) ((d.map (·.committed)).getD false)
    st.setBit (Fld.VLT_AREA.CANCELLED.at i) ((d.map (·.cancelled)).getD false)) s

/-- A pack at a Pegbox start (R351, R352, R355, R363, R365): present at once where its first sample says so, with its learned values and
its path enabled. -/
def State.packStart (s : State) (p : PackId) (v : PackSample) : State :=
  let m := s.packCfg p
  let i := packIx p
  let here := decide (m.chemistry ≠ 0) && decide (500 * m.cells < v.mv) && v.ntcOk
  let l := s.learnedFromCal p
  let soc := if m.cells = 0 then 0 else socOfOcv m (v.mv / m.cells)
  let s := s.putPack p { packReset with learned := l, en := here, firstTest := here, socPpm := if here then soc else 0 }
  let s := (s.setBit (Fld.PACK_STATUS.PRESENT.at i) here).takeSample p v
  if here then s.socStart p else s

/-- Calibration blocks in use that are not valid in the user set, each recorded (R56, R57). -/
def State.calFallbacks (s : State) : State :=
  let fans := s.fanCfg.channelsEn
  let one (b : Nat) : Bool := (calGet s.cal.user b).isNone
  let l := (List.range 2).filter one ++ ((List.range 8).filter (fun n => decide (fans / 2 ^ n % 2 = 1))).map (· + 2) |>.filter one
  let packs := (bothPacks.filter (fun p => (s.packCfg p).chemistry ≠ 0)).map packBlock
  let l := l ++ packs.filter (fun b => one b && one (b + 1))
  l.foldl (fun (st : State) b => st.emit .calFallback [b]) s

end Sys2Proof.Machine
end

