-- ==== Sys2Proof/Machine/RebOps.lean ====
section
/-!
DEFINITION. Machine/RebOps.lean: what the background operations of an array share (R188 to R208): when one may take its next stripe
(R191), the epochs a stripe number stands for during a reshape, watermarks of the rebuild passes (R189), copyback (R193), the findings
of scrub (R199), the steps of reshape (R203 to R208).
-/
namespace Sys2Proof.Machine

/-- Whether a reshape goes on while Silence is being entered, to empty its bow buffer (R20). -/
def State.bowWaits (s : State) (r : Arr) (o : ArrOp) : Bool :=
  o == .reshape && !r.displaced.isEmpty && decide (s.fld Fld.PWR_STATE.STATE = 4) && decide (s.fld Fld.PWR_STATE.TARGET = 3) &&
  !s.pwr.reversing

/-- Whether an array's operation may take its next stripe: it is the one that runs (R191), every present member answers, the gate is
open, nothing is replayed, mains is there and no power-state transition runs, but for an entry to Silence that waits for the bow
buffer. -/
def State.bgGo (s : State) (r : Arr) (o : ArrOp) : Bool :=
  (s.arrShown r == (o, 0)) && s.gateOpen && (s.pwr.fast == .running) && !s.bit Fld.HFE_STATUS.REPLAY_PENDING && !s.acFail &&
  (decide (s.fld Fld.PWR_STATE.STATE ≤ 1) || s.bowWaits r o) && s.arrayUp r

/-- The epochs in which a stripe number stands for data: the current one, and while a reshape runs the current one below the bow and the
previous one from the bow on (R202, R203). -/
def Arr.epochsAt (r : Arr) (t : Nat) : List (Bool × Geom) :=
  match r.prev with
  | none => if t < r.cur.stripeCount then [(false, r.cur)] else []
  | some p =>
    (if t * r.cur.stripeData < r.bow then [(false, r.cur)] else []) ++
    (if t < p.stripeCount ∧ r.bow < (t + 1) * p.stripeData then [(true, p)] else [])

/-- The first number from `t` on, within `fuel` steps, for which a test holds. -/
def nextFrom (p : Nat → Bool) (fuel t : Nat) : Option Nat :=
  match fuel with
  | 0 => none
  | n + 1 => if p t then some t else nextFrom p n (t + 1)


/-- Whether every unit of a stripe maps (R192). -/
def stripeMaps (g : Geom) (t : Nat) : Bool := (List.range g.w).all (fun u => (mapUnit g false t u).isSome)

/-- A mapping fault in a background operation (R192): the operation pauses with PAUSE_REASON 6 and an event says so; the stripe is not
skipped. The first mapping of the stripe that faults is counted and latched (R108, R109). -/
def State.bgFault (s : State) (a : ArrayId) (r : Arr) (o : ArrOp) (t : Nat) : State :=
  let bad := (((r.epochsAt t).flatMap (fun e => (List.range e.2.w).map (fun u => (e.1, e.2, u))))).findSome? (fun x =>
    match mapEntry x.2.1 false t x.2.2 with
    | .error (f, pc, _) => some (x.1, x.2.2, f, pc)
    | .ok _ => none)
  let s := match bad with
    | some (old, u, f, pc) => s.latchFault s.mapLane ⟨a, old, false, t, u, 3, 0, .background⟩ f pc
    | none => s
  (s.putArr a (r.pause o 6)).emit .backgroundMappingFault [a.val, opCode o, t]

/-! ### Rebuild (R188 to R190) -/

/-- Whether a stripe has a missing unit with a target in one of its epochs (R188, R189). -/
def Arr.toRebuild (r : Arr) (t : Nat) : Bool :=
  (r.epochsAt t).any (fun e => (r.missingUnits e.2 t).any (fun u => (r.target e.2 t u).isSome))

/-- Whether the critical pass visits a stripe: two of its units are missing (R189). -/
def Arr.critical (r : Arr) (t : Nat) : Bool :=
  r.toRebuild t && (r.epochsAt t).any (fun e => (r.missingUnits e.2 t).length == 2)

/-- Indices whose units of a stripe have a target now. -/
def Arr.targetsAt (r : Arr) (t : Nat) : List Nat :=
  ((r.epochsAt t).flatMap (fun e => ((r.missingUnits e.2 t).filter (fun u => (r.target e.2 t u).isSome)).filterMap (fun u =>
    layoutMember e.2 t u))).eraseDups

/-- The main-pass watermark of an index moved from `old` to `new`: for a replacement of an index whose units lie in spare slots the end of
that span and the watermark of its units without a slot, else REBUILT_TO (R188, R189). An index that came to miss units later keeps its own, and
a further pass covers it. -/
def Arr.markMain (r : Arr) (old new : Nat) : Arr :=
  { r with members := r.members.mapIdx (fun m x =>
      if !r.hasTarget m || x.state == .active then x
      else if x.state == .rebuilding && r.failOrder.contains m then
        let x := if x.spareFrom = 0 ∧ old ≤ x.spareTo then { x with spareTo := max x.spareTo new } else x
        if old ≤ x.directTo then { x with directTo := max x.directTo new } else x
      else if old ≤ x.rebuiltTo then { x with rebuiltTo := max x.rebuiltTo new } else x) }

/-- The main-pass watermark of an index that has a target and is not active. -/
def Arr.markOf (r : Arr) (m : Nat) : Option Nat :=
  match r.mem m with
  | none => none
  | some x =>
    if !r.hasTarget m || x.state == .active then none
    else if x.state == .rebuilding && r.failOrder.contains m then
      let slots := if x.spareFrom = 0 then some x.spareTo else none
      if r.allRelocated m then slots else some (min x.directTo (slots.getD x.directTo))
    else some x.rebuiltTo

/-- The end of a main pass: indices rebuilt onto replacements become active, which rewrites the labels; an index with stripes left
below starts a further pass (R178, R189, R197). -/
def State.endMain (s : State) (a : ArrayId) (r : Arr) : State :=
  let n := r.stripes
  let r := r.markMain r.mainMark n
  let done (m : Nat) (x : Member) : Bool := x.state == .rebuilding && !r.failOrder.contains m && decide (n ≤ x.rebuiltTo)
  let up := (List.range r.members.length).filter (fun m => match r.mem m with
    | some x => done m x
    | none => false)
  let r := { r with members := r.members.mapIdx (fun m x => if done m x then { x with state := .active } else x),
                    critDone := r.critDone.filter (fun c => !up.contains c.2) }
  let left := (List.range r.members.length).filterMap (fun m => (r.markOf m).filter (fun k => decide (k < n)))
  let r := if left.isEmpty then { (r.unwant .mainPass) with mainMark := 0 } else { r with mainMark := left.foldl min n }
  let s := s.putArr a r
  (if up.isEmpty then s else s.rewriteLabels a).thirdBack a

/-- The epochs of a stripe rebuilt row by row. -/
def State.rebuildAt (s : State) (a : ArrayId) (r : Arr) (t : Nat) : State :=
  (r.epochsAt t).foldl (fun (st : State) e => st.rebuildStripeIn a e.2 t) s

/-! ### Copyback (R193) -/

/-- The index that copyback serves: the lowest replacement whose units were relocated. -/
def Arr.copyIndex (r : Arr) : Option Nat :=
  (List.range r.members.length).find? (fun m => match r.mem m with
    | some x => x.state == .rebuilding && r.failOrder.contains m
    | none => false)

/-- The unit that an index holds of a stripe. -/
def unitOn (g : Geom) (t m : Nat) : Option Nat := (List.range g.w).find? (fun u => layoutMember g t u == some m)

/-- A row's sector of a unit that reads written to the unit's place on the replacement. -/
def State.copyRead (s : State) (r : Arr) (g : Geom) (t u row : Nat) (p : Pos) : Option State :=
  match (s.readRow r g t row)[u]? with
  | some (SecRead.got _ x) => some (s.writeSec r g t u row p x.full x.gen x.lost (x.kind == 0))
  | _ => none

/-- A row's unit read from its member where the fast read found it (R185). -/
def State.copyFast (s : State) (r : Arr) (g : Geom) (t u row : Nat) (p : Pos) (reads : List SecRead) : Option State :=
  if ((reads[u]?).bind SecRead.val?).isSome then s.copyRead r g t u row p else none

/-- One row of a unit copied to its place on the replacement, RELOCATED clear, with the WRITE_GEN it holds; a sector that cannot be read is
solved, without slow members where that is enough (R185), and a row that does not solve is lost first (R181, R190, R193, R194). A slot on a slow
member is solved as well where the row solves without it. -/
def State.copyRow (s : State) (a : ArrayId) (g : Geom) (t u row : Nat) (p : Pos) : State :=
  match s.arr a with
  | none => s
  | some r =>
    let reads := s.readRowFast r g t row
    match s.copyFast r g t u row p reads with
    | some st => st
    | none =>
      let us := reads.map SecRead.val?
      match solveRow g.k us with
      | some fs => ((s.writeSolved r g t u row p fs us).repairCounted a r g t row reads fs).incFld Fld.PQE_SOLVE_COUNT 1
      | none =>
        let st := s.loseCounted a r g t row reads 1
        match st.arr a with
        | none => st
        | some r =>
          match st.copyRead r g t u row p with
          | some st' => st'
          | none => st

/-- One unit copied back in one epoch. -/
def State.copyUnit (s : State) (a : ArrayId) (g : Geom) (t m : Nat) : State :=
  match unitOn g t m with
  | none => s
  | some u =>
    match mapUnit g false t u with
    | none => s
    | some (_, o) => (List.range g.c).foldl (fun (st : State) row => st.copyRow a g t u row ⟨m, o, m, false⟩) s

/-- Copyback onto an index ended: it is active, its spare slots are free; the order of failures is forgotten once every index in it is
active again (R68, R193). -/
def State.endCopy (s : State) (a : ArrayId) (r : Arr) (m : Nat) : State :=
  let r := r.modMem m (fun x => { x with state := .active, rebuiltTo := 0, spareFrom := 0, spareTo := 0, directTo := 0 })
  let r := { r with critDone := r.critDone.filter (fun c => c.2 ≠ m), copyMark := 0 }
  let r := if r.failOrder.all (fun i => (r.mem i).map (·.state) == some .active) then { r with failOrder := [] } else r
  let r := if r.copyIndex.isNone then r.unwant .copyback else r
  ((s.putArr a r).rewriteLabels a).thirdBack a

/-! ### Scrub (R198, R199) -/

/-- A unit's sector rewritten from the others of its row, as a mismatch that was located asks (R199). -/
def State.fixUnit (s : State) (a : ArrayId) (r : Arr) (g : Geom) (t row u : Nat) (us : List (Option USec)) : State :=
  let vs := us.set u none
  let s := match r.readPos g t u, solveRow g.k vs with
    | some p, some fs => s.writeSolved r g t u row p fs vs
    | _, _ => s
  (s.incFld (Fld.ARR_MISMATCH_COUNT.at a.val) 1).emit .scrubMismatch [a.val, t, row, u]

/-- A row whose mismatch cannot be located (R199): P and Q recomputed from the data through steps 5 to 9 of R159. -/
def State.fixParity (s : State) (a : ArrayId) (r : Arr) (g : Geom) (t row : Nat) (us : List (Option USec)) : State :=
  let ds := knownData g.k us
  let gen := nextGen (rowGen g.k us)
  let e := ds.all (fun f => fullCtr f == 0)
  let s := s.fretMark (r.stripeBits g t)
  let s := (s.writeParity r g t g.k row (rowP ds) gen e).writeParity r g t (g.k + 1) row (rowQ ds) gen e
  (s.incFld (Fld.ARR_MISMATCH_COUNT.at a.val) 1).emit .scrubNotLocatable [a.val, t, row]

/-- One row scrubbed: the first finding of R199 that applies. -/
def State.scrubRow (s : State) (a : ArrayId) (r : Arr) (g : Geom) (t row : Nat) : State :=
  let reads := s.readRow r g t row
  let us := reads.map SecRead.val?
  let bad := badUnits us
  let s := s.incFld Fld.PQE_SRC_BYTES ((us.length - bad.length) * 4096)
  if interrupted g.k us then s.resyncRow a r g t row
  else if 2 < bad.length then s.loseCounted a r g t row reads 2
  else if !bad.isEmpty then s.rebuildRow a r g t row
  else
    let ds := knownData g.k us
    let full (i : Nat) : Blob := (((us[i]?).join).map (·.full)).getD 0
    match locate g.k (Nat.xor (full g.k) (rowP ds)) (Nat.xor (full (g.k + 1)) (rowQ ds)) with
    | .consistent => s
    | .pWrong => s.fixUnit a r g t row g.k us
    | .qWrong => s.fixUnit a r g t row (g.k + 1) us
    | .dataWrong z => s.fixUnit a r g t row z us
    | .notLocatable => s.fixParity a r g t row us

/-- Every row of a stripe scrubbed in one epoch. -/
def State.scrubIn (s : State) (a : ArrayId) (g : Geom) (t : Nat) : State :=
  (List.range g.c).foldl (fun (st : State) row =>
    match st.arr a with
    | some r => st.scrubRow a r g t row
    | none => st) s

/-- A scrub pass begun at stripe 0 (R198). -/
def State.startScrub (s : State) (a : ArrayId) (r : Arr) : State :=
  s.putArr a { (r.want .scrub) with scrubMark := 0, scrubBehind := false, scrubDue := s.now + r.policy.scrubPeriodDays * 86400 * sec }

/-- A scrub pass ended: its pitch time shows, and the next is due a period later (R198). -/
def State.endScrub (s : State) (a : ArrayId) (r : Arr) : State :=
  let s := s.putArr a { (r.unwant .scrub) with scrubMark := 0, scrubDue := s.now + r.policy.scrubPeriodDays * 86400 * sec }
  s.setFld (Fld.ARR_SCRUB_END.at a.val) (s.pitch.getD 0)

/-! ### Reshape (R200 to R208) -/

/-- A sector of the previous epoch as a step finds it: the content, or none where its row does not solve (R180, R203). -/
def State.prevSector (s : State) (r : Arr) (p : Geom) (lba : Nat) : Option CSec :=
  let pl := placeIn p true lba
  match s.readSec r p pl.stripe pl.unit pl.row with
  | .got _ x => some (fullCsec x.full)
  | _ => (solveRow p.k ((s.readRow r p pl.stripe pl.row).map SecRead.val?)).map (fun fs => fullCsec ((fs[pl.unit]?).getD 0))

/-- The source of an array LBA in a step: its displaced copy, else its previous-epoch position (R203 step 2). -/
def State.stepSource (s : State) (r : Arr) (p : Geom) (lba : Nat) : Option CSec :=
  match tget r.displaced lba with
  | some x => some x
  | none => s.prevSector r p lba

/-- The source of an array LBA in a rerun after an unclean stop (R207): a copy that the rerun itself displaced, the current-epoch position
where a tag of the current epoch stands, the previous-epoch position, a solve of the previous-epoch row. -/
def State.rerunSource (s : State) (r : Arr) (p : Geom) (lba : Nat) : Option CSec :=
  match tget r.displaced lba with
  | some x => some x
  | none =>
    let pl := placeIn r.cur false lba
    match s.readSec r r.cur pl.stripe pl.unit pl.row with
    | .got _ x => if x.kind = 0 then s.prevSector r p lba else some (fullCsec x.full)
    | _ => s.prevSector r p lba

/-- The array LBAs of the previous epoch that lie at positions which a stripe of the current epoch overwrites, at or above an LBA (R203
step 3). -/
def Arr.overwritten (r : Arr) (p : Geom) (t above : Nat) : List Nat :=
  (List.range r.cur.w).flatMap (fun u =>
    match (r.readPos r.cur t u).orElse (fun _ => r.target r.cur t u) with
    | none => []
    | some q => (List.range r.cur.c).filterMap (fun row =>
        let d := q.sector + row
        match r.unitAt p q.member d with
        | none => none
        | some (t', u') =>
          let lba := arrayLba p t' u' (d % p.c)
          if u' < p.k ∧ above ≤ lba ∧ lba < p.dataSpace then some lba else none))

/-- Sectors that the displaced area holds: half of BOW_BUFFER_MIB (R204; assumption 21). -/
def Arr.displacedRoom (r : Arr) : Nat := r.policy.bowBufferMib * 256 / 2

/-- Steps 4, 6 and 7 of R203: data sectors with WRITE_GEN 1, empty ones empty and LOST ones LOST, then P and Q. -/
def State.writeNew (s : State) (r : Arr) (t : Nat) (src : Tbl CSec) : State :=
  let g := r.cur
  let sec (u row : Nat) : CSec := (tget src (arrayLba g t u row)).getD .empty
  let cells := (List.range g.k).flatMap (fun u => (List.range g.c).map (fun row => (u, row)))
  let s := cells.foldl (fun (st : State) x => st.writeData r g t x.1 x.2 (sec x.1 x.2) 1) s
  (List.range g.c).foldl (fun (st : State) row =>
    let ds := (List.range g.k).map (fun u => csecFull (sec u row))
    let e := ds.all (fun f => fullCtr f == 0)
    (st.writeParity r g t g.k row (rowP ds) 1 e).writeParity r g t (g.k + 1) row (rowQ ds) 1 e) s

/-- LOST sectors that a step met listed by row with cause 4 and reported (R194, R203, R207). -/
def State.listStepLost (s : State) (a : ArrayId) (g : Geom) (t : Nat) (lost : List Nat) : State :=
  (List.range g.c).foldl (fun (st : State) row =>
    let us := (List.range g.k).filter (fun u => lost.contains (arrayLba g t u row))
    if us.isEmpty then st
    else
      let mask := us.foldl (fun acc u => acc + 2 ^ u) 0
      let st := (st.listLost ⟨a, 0, 4, g.epoch, t, row, row, mask, 1, us.length⟩).mirror (.lost a g.epoch t row mask 4)
      us.foldl (fun (x : State) u => x.reportLost a (arrayLba g t u row)) st) s

/-- The checkpoint moved to the bow: source copies below it are freed, and displaced copies that both have passed (R204, R205). -/
def State.checkpoint (s : State) (a : ArrayId) (r : Arr) : State :=
  let r := { r with ckpt := r.bow, sources := r.sources.filter (fun x => decide (r.bow ≤ x.1)),
                    displaced := r.displaced.filter (fun x => decide (r.bow ≤ x.1)) }
  (s.putArr a r).mirror (.checkpoint a r.bow)

/-- The end of a reshape (R208): what still carries tags of the previous epoch is emptied, the previous slot too, and the labels say so. -/
def State.endReshape (s : State) (a : ArrayId) (r : Arr) : State :=
  let s := s.retag r (fun x => x.tag.epoch == r.cur.epoch)
  let r := { (r.unwant .reshape) with prev := none, bow := 0, ckpt := 0, sources := [], displaced := [] }
  (((s.putArr a r).mirror (.checkpoint a 0)).rewriteLabels a).emit .reshapeEnd [a.val]

/-- One step of R203 on the stripe at the bow, its sources found by `find`; none where the displaced area has no room (R204). The bow
then stands at the stripe's end. -/
def State.reshapeOne (s : State) (a : ArrayId) (r : Arr) (p : Geom) (find : State → Nat → Option CSec) : Option State :=
  let g := r.cur
  let t := r.bow / g.stripeData
  let stop := r.bow + g.stripeData
  let lbas := (List.range (min stop p.dataSpace - r.bow)).map (· + r.bow)
  let found := lbas.map (fun lba => (lba, find s lba))
  let src : Tbl CSec := found.map (fun x => (x.1, x.2.getD .lost))
  let lost := (found.filter (fun x => x.2.isNone)).map (·.1)
  let moved := (r.overwritten p t stop).filter (fun lba => (tget r.displaced lba).isNone)
  if r.displacedRoom < r.displaced.length + moved.length then none
  else
    let copies := moved.map (fun lba => (lba, (s.prevSector r p lba).getD .lost))
    let s := copies.foldl (fun (st : State) x => st.mirror (.bowDisplaced a x.1 x.2)) s
    let s := src.foldl (fun (st : State) x => st.mirror (.bowSource a x.1 x.2)) s
    let s := (s.fretMark (r.stripeBits g t)).writeNew r t src
    let r := { r with bow := stop, sources := src.foldl (fun l x => tput l x.1 x.2) r.sources,
                      displaced := (copies.foldl (fun l x => tput l x.1 x.2) r.displaced) }
    let s := (s.putArr a r).incFld Fld.PQE_SRC_BYTES (g.stripeData * 4096)
    some (s.listStepLost a g t lost)

end Sys2Proof.Machine
end

