-- ==== Sys2Proof/Machine/HfeOps.lean ====
section
/-!
DEFINITION. Machine/HfeOps.lean: what the host front end's commands share: load metering (R213), the checks of a fetched command (R130,
R134, R142, R273), its fetch (R120 to R128), write-protection windows (R131), the fences of Format and Sanitize (R133 to
R135), the end of a command's stay (R126, R137), the collector's choice (R139, R140), the counters of R220 to R223.
-/
namespace Sys2Proof.Machine

/-! ### Load metering (R213, R222) -/

/-- A host port's usable bandwidth per direction, in units of 10^-6 bytes per ns for one percent: 121 GB/s at x16 and 64 GT/s, scaled with the
rate and width of the image's port entry. -/
def State.portRate (s : State) (hp : Nat) : Nat :=
  match s.img.running.bind (·.hostPorts) with
  | none => 1210000
  | some h =>
    let e := hostPortOf h hp
    let rate := if e.maxRate = 6 then 640 else if e.maxRate = 5 then 320 else if e.maxRate = 4 then 160
      else if e.maxRate = 3 then 80 else if e.maxRate = 2 then 50 else 25
    1210000 * rate * e.maxWidth / (640 * 16)

/-- The buckets filled up to now. -/
def State.refillLoad (s : State) : State :=
  let c := s.classCfg
  let dt := s.now - s.lat.refillAt
  let cmd := min (s.lat.cmdTokens + ((dt * c.c0KcmdLimit : Nat) : Int)) ((c.c0CmdBurst * 1000000 : Nat) : Int)
  let depth : Int := ((c.c0ByteBurstMib * 1048576 * 1000000 : Nat) : Int)
  let bytes := s.lat.byteTokens.mapIdx (fun i b => min (b + ((dt * c.c0BwPct * s.portRate (i / 2) : Nat) : Int)) depth)
  { s with lat := { s.lat with cmdTokens := cmd, byteTokens := bytes, refillAt := s.now } }

/-- Whether the buckets that a class-0 SQ of a port draws on are all at or above zero. -/
def State.loadOk (s : State) (hp : Nat) : Bool :=
  decide (0 ≤ s.lat.cmdTokens) && decide (0 ≤ (s.lat.byteTokens[2 * hp]?).getD 0) &&
  decide (0 ≤ (s.lat.byteTokens[2 * hp + 1]?).getD 0)

/-- Sectors that an entry names. -/
def entrySectors (e : SqEntry) : Nat := e.ranges.foldl (fun acc x => acc + x.length) 0

/-- The byte bucket of an entry's data direction: 0 to host, 1 from host; none where it moves no data. -/
def entryDirection (e : SqEntry) : Option Nat :=
  match e.kind with
  | .read => some 0
  | .write => some 1
  | _ => none

/-- The running millisecond of LAT_C0_RATE brought up to now (R222). -/
def State.rollRate (s : State) : State :=
  let m := s.now / ms
  if m = s.lat.rateMs then s
  else
    let last := m = s.lat.rateMs + 1
    let s := (s.setFld Fld.LAT_C0_RATE.KCMD (if last then min s.lat.rateCmds 65535 else 0)).setFld Fld.LAT_C0_RATE.GBPS_X100
      (if last then min (s.lat.rateBytes / 10000) 65535 else 0)
    { s with lat := { s.lat with rateMs := m, rateCmds := 0, rateBytes := 0 } }

/-- A class-0 entry's tokens taken, and the entry counted in the load of its millisecond. -/
def State.takeLoad (s : State) (hp : Nat) (e : SqEntry) : State :=
  let s := s.rollRate
  let n := if (entryDirection e).isSome then entrySectors e * 4096 else 0
  let l := s.lat
  let bytes := match entryDirection e with
    | some d => l.byteTokens.mapIdx (fun i b => if i = 2 * hp + d then b - ((n * 1000000 : Nat) : Int) else b)
    | none => l.byteTokens
  { s with lat := { l with cmdTokens := l.cmdTokens - 1000000, byteTokens := bytes, rateCmds := l.rateCmds + 1,
                           rateBytes := l.rateBytes + n } }

/-! ### The checks of a fetched command (R130, R133 to R135, R142, R273, R276, R305) -/

/-- Whether a device answers I/O with Capo Not Held: its gate is closed, or it is one of a pair and not ACTIVE. -/
def State.notHeld (s : State) : Bool := !s.gateOpen || (s.paired && s.role != 3)

/-- Whether a range lies in a namespace. -/
def inNs (n : NsEntry) (e : Extent) : Bool := decide (e.start + e.length ≤ n.size)

/-- Whether a namespace's key reference is retired (R134, R272). -/
def State.refRetired (s : State) (n : NsEntry) : Bool := decide (n.keyRef / 65536 < (tget s.cip.floors n.nsid).getD 0)

/-- Whether a Format of a namespace runs or is about to. -/
def State.formatting (s : State) (nsid : Nat) : Bool := s.hfe.formats.any (fun f => f.nsid == nsid)

/-- Whether a function may address a namespace with an I/O command: the broadcast value with Flush only (R115, R129). -/
def State.nsFor (s : State) (f : FnIdx) (nsid : Nat) : Option NsEntry := (s.ns nsid).filter (fun n => nsAttached n f)

/-- The status with which a fetched entry ends at once, if any, and whether it takes a tag; R142's order, then the command's own
checks: opcode, namespace, fences, size, range, key. -/
def State.entryStatus (s : State) (f : FnIdx) (e : SqEntry) : Option (Status × Bool) :=
  if s.bit Fld.HFE_STATUS.REPLAY_PENDING then some (stReplay, true)
  else if s.notHeld then some (stCapoNotHeld, true)
  else if e.kind ≠ .invalid ∧ (s.fn f).flagged.contains e.nsid then some (stDeferred, true)
  else if e.kind = .invalid then some (stInvalidOpcode, true)
  else if e.kind = .flush ∧ e.nsid = 0xFFFFFFFF then (if s.hfe.sanitize.isSome then some (stSanitizing, true) else none)
  else
    match s.nsFor f e.nsid with
    | none => some (stInvalidNs, true)
    | some n =>
      if s.hfe.sanitize.isSome then some (stSanitizing, true)
      else if s.formatting e.nsid then some (stFormatting, true)
      else if (e.kind = .read ∨ e.kind = .write) ∧ 512 < entrySectors e then some (stInvalidField, false)
      else if e.kind = .dsm ∧ 256 < e.ranges.length then some (stInvalidField, true)
      else if e.kind ≠ .flush ∧ e.ranges.all (inNs n) = false then some (stLbaRange, false)
      else
        match tget s.cip.keys e.nsid with
        | none => some (stNsNotReady (s.refRetired n), true)
        | some k => if kindExclusive e.kind ∧ k.exhausted then some (stKeyExhausted, true) else none

/-! ### Windows (R131) -/

/-- The windows of a namespace with their numbers. -/
def State.windowsOf (s : State) (nsid : Nat) : List (Nat × Window) := s.hfe.windows.filter (fun w => w.1 / 8 = nsid)

/-- Whether a command touches a write-protection window of its namespace. -/
def State.windowHit (s : State) (c : HostCmd) : Bool :=
  kindExclusive c.kind && c.ranges.any (fun e => decide (0 < e.length) &&
    (s.windowsOf c.nsid).any (fun w => overlaps w.2.start w.2.count e.start e.length))

/-- The lock arbiter's grant (R128, R131): a write that touches a window ends with Namespace is Write Protected and holds no entry; any
other command goes on. -/
def State.lockGrant (s : State) (c : HostCmd) : State :=
  if s.windowHit c then
    ({ s with hfe := { s.hfe with locks := s.hfe.locks.filter (fun l => l.tag ≠ c.tag) } } : State).collect c stWriteProtected []
  else s.putCmd { c with phase := .locked }

/-! ### Fetch (R120 to R128) -/

/-- Entries of an SQ that the host has made visible and the device has not fetched. -/
def IoSq.waiting (q : IoSq) : Nat := if q.size = 0 then 0 else (q.tail + q.size - q.head) % q.size

/-- Commands outstanding from a queue: fetched, and not posted (R120). -/
def State.outstanding (s : State) (f : FnIdx) (sq : Nat) : Nat :=
  (s.hfe.cmds.filter (fun c => c.fn = f ∧ c.sq = sq)).length +
  (s.hfe.collector.filter (fun e => e.tag.isNone ∧ e.cqe.fn = f ∧ e.cqe.sq = sq)).length

/-- The class whose tags and lock entries a command of a class draws on: class-0 commands beyond C0_OUTSTANDING take shared ones
(R213). -/
def State.poolClass (s : State) (cls : Nat) : Nat :=
  if cls = 0 ∧ s.classCfg.c0Outstanding ≤ s.c0Outstanding then 1 else cls

/-- A class skipped for lack of tags or entries: one episode, until its next fetch (R121, R128, R145). -/
def State.pauseClass (s : State) (cls : Nat) : State :=
  if s.hfe.paused.contains cls then s
  else ({ s with hfe := { s.hfe with paused := s.hfe.paused ++ [cls] } } : State).incFld Fld.HFE_FETCH_PAUSE_COUNT 1

/-- Whether a class has a tag and at least one lock entry, and an entry's ranges all fit the table (R121, R127, R128). -/
def State.classFree (s : State) (cls ranges : Nat) : Bool :=
  (s.nextTag (s.poolClass cls)).isSome && decide (max 1 ranges ≤ s.lockFree (s.poolClass cls))

/-- A completion entry for a command that takes no tag (R123, R130). -/
def State.collectBare (s : State) (f : FnIdx) (sq cls : Nat) (cid : Nat) (st : Status) (bell : Nat × Bool) : State :=
  let e : Collected :=
    { cqe := ⟨f, sq, cid, st, 0, [], 0⟩, tag := none, cls := cls, order := s.hfe.order, at_ := s.now, bell := bell.1, excl := bell.2 }
  let s := { s with hfe := { s.hfe with collector := s.hfe.collector ++ [e] } }
  let depth := (s.hfe.collector.filter (fun x => fnPort x.cqe.fn = fnPort f)).length
  (s.logError f st).maxFld (Fld.HFE_COLLECT_MAX.MAX_DEPTH.at (fnPort f)) depth

/-- A tagged command admitted (R115, R121, R127, R128): its tag and entries taken, then granted, waiting, or ended at once. -/
def State.admitEntry (s : State) (f : FnIdx) (sq cls tag : Nat) (e : SqEntry) (bell : Nat × Bool) (st : Option Status) : State :=
  let pool := s.poolClass cls
  let s := s.takeTag tag
  let c : HostCmd :=
    { tag := tag, gen := s.gen tag, fn := f, sq := sq, cid := e.cid, cls := cls, order := s.hfe.order, kind := e.kind, nsid := e.nsid,
      ranges := if e.kind = .flush then [] else e.ranges, dealloc := e.dealloc, fua := e.fua && e.kind == .write, phase := .fetched, plain := [],
      through := false, dirtyWait := false, mirrorWait := false, flushSeq := s.wc.nextSeq, bell := bell.1, issued := 0, done := 0,
      outside := decide (2048 ≤ tag) || e.kind == .flush || (e.fua && e.kind == .write), excl := bell.2 || s.exclusion, read := [],
      avoid := [], lack := 0 }
  let s := { s with hfe := { s.hfe with cmds := s.hfe.cmds ++ [c] } }
  match st with
  | some x => s.collect c x []
  | none =>
    if !kindLocks e.kind then s.putCmd { c with phase := .locked }
    else
      let ls := locksFor s { c with cls := pool }
      let s := { s with hfe := { s.hfe with locks := s.hfe.locks ++ ls } }
      if s.blocked c then
        (s.putCmd { c with phase := .lockWait, outside := true }).incFld Fld.HFE_LOCK_WAIT_COUNT 1
      else s.lockGrant c

/-- A pending flag that a fetched command has returned is cleared (R143). -/
def State.clearFlag (s : State) (f : FnIdx) (nsid : Nat) : State :=
  let x := s.fn f
  s.putFn f { x with flagged := x.flagged.filter (· ≠ nsid) }

/-- One entry fetched (R120, R123, R125, R130, R142): the SQ's head moves on; a conflicting identifier and the checks of R130 take no
tag. -/
def State.fetchOne (s : State) (f : FnIdx) (sq : Nat) (q : IoSq) (tag : Nat) (e : SqEntry) : State :=
  let bell := (q.bells.head?).getD (s.now, false)
  let q' : IoSq := { q with head := (q.head + 1) % q.size, bells := q.bells.drop 1 }
  let s := { s with hfe := { s.hfe with sqs := tput s.hfe.sqs (qKey f sq) q', order := s.hfe.order + 1 } }
  let s := if q.cls = 0 then s.takeLoad (fnPort f) e else s
  let dup := s.hfe.cmds.any (fun c => c.fn = f ∧ c.sq = sq ∧ c.cid = e.cid) ||
    s.hfe.collector.any (fun x => x.cqe.fn = f ∧ x.cqe.sq = sq ∧ x.cqe.cid = e.cid)
  if dup then (s.incFld Fld.HFE_CID_CONFLICT_COUNT 1).collectBare f sq q.cls e.cid stCidConflict bell
  else
    match s.entryStatus f e with
    | some (st, false) => s.collectBare f sq q.cls e.cid st bell
    | some (st, true) =>
      let s := if st = stDeferred then s.clearFlag f e.nsid else s
      s.admitEntry f sq q.cls tag e bell (some st)
    | none => s.admitEntry f sq q.cls tag e bell none

/-- Whether an SQ may be fetched from now, tags and lock entries apart (R119, R120, R133, R137, R213). -/
def State.sqReady (s : State) (f : FnIdx) (sq : Nat) (q : IoSq) : Bool :=
  let x := s.fn f
  x.en && x.rdy && !x.resetting && s.fnEnabled f && q.deleting.isNone && decide (0 < q.waiting) &&
  decide (s.outstanding f sq < 32) && (q.cls != 0 || s.loadOk (fnPort f))

/-- The burst of a grant (R124, R125): entries in turn, until the queue, the burst, the SQ's 32 places, the tags, the lock entries or a
class-0 bucket end it. -/
def State.fetchBurst (s : State) (f : FnIdx) (sq : Nat) (n : Nat) : List SqEntry → State
  | [] => s
  | e :: r =>
    match n, tget s.hfe.sqs (qKey f sq) with
    | m + 1, some q =>
      if !s.sqReady f sq q then s
      else
        match s.nextTag (s.poolClass q.cls) with
        | some tag =>
          if s.classFree q.cls (if kindLocks e.kind then e.ranges.length else 1) then (s.fetchOne f sq q tag e).fetchBurst f sq m r
          else s.pauseClass q.cls
        | none => s.pauseClass q.cls
    | _, _ => s

/-- The Arbitration Burst of a controller: 2^AB, at most 32 (R124). -/
def burstOf (x : FnSt) : Nat := 2 ^ min 5 ((tget x.feats 0x01).getD 0 % 8)

/-- The SQs of a class that could be granted, by key: ready, and their class not out of tags or entries (R121, R125). -/
def State.eligible (s : State) (cls : Nat) : List Nat :=
  if !s.classFree cls 1 then []
  else
    (s.hfe.sqs.filter (fun e =>
      if h : e.1 / 8192 < 128 then e.2.cls == cls && s.sqReady ⟨e.1 / 8192, h⟩ (e.1 % 8192) e.2 else false)).map (·.1)

/-- The next SQ of a class in its round robin: the first eligible one above the last granted, else the lowest (R125). -/
def State.nextSq (s : State) (cls : Nat) : Option Nat :=
  let l := s.eligible cls
  let last := (s.hfe.rr[cls]?).getD 0
  (l.find? (fun k => decide (last < k))).orElse (fun _ => l.head?)

/-- Classes of which an SQ could be granted (R125). -/
def State.grantable (s : State) : List Nat := (List.range 4).filter (fun c => (s.nextSq c).isSome)

/-- Whether the arbiter's next grant may go to an SQ (R125): class 0 first; of classes 1 to 3 those that their weights let go; within a class the
next in its round robin. -/
def State.grantDue (s : State) (key cls : Nat) : Bool :=
  s.nextSq cls == some key && (cls == 0 || ((s.nextSq 0).isNone && (wrrOpen s.classWeights s.hfe.grants s.grantable).contains cls))

/-! ### The mapping of a command (R92, R98 to R100) -/

/-- The first mapping of a command's sectors that faults, with its fault. -/
def State.mapCheck (s : State) (c : HostCmd) : Option (MapReq × MapFault × Nat × Nat) :=
  (rangeLbas c.ranges).findSome? (fun lba =>
    match s.spotAt c.order c.nsid lba with
    | none => none
    | some (a, l) =>
      match s.arr a with
      | none => none
      | some r =>
        let pl := r.place l
        match r.geom pl.previous with
        | none => none
        | some g =>
          match mapEntry g false pl.stripe pl.unit with
          | .ok _ => none
          | .error (f, pc, steps) => some (⟨a, pl.previous, false, pl.stripe, pl.unit, c.cls, 0, .host c.tag⟩, f, pc, steps))

/-- A locked command's sectors mapped: a fault ends it (R100). -/
def State.mapped (s : State) (c : HostCmd) : Bool × State :=
  match s.mapCheck c with
  | none => (true, s)
  | some (q, f, pc, steps) => (false, s.mapFault s.mapLane q f pc steps)

/-! ### Format and Sanitize (R133 to R136) -/

/-- A namespace's cached data discarded (R133): clean copies go, what was dirty becomes an empty sector, here and at the partner, and its
sectors leave the dumps in the vault. -/
def State.discardNs (s : State) (nsid : Nat) : State :=
  let s := { s with vault := { s.vault with dumps := s.vault.dumps.map (fun (d : Nat × Dump) =>
    (d.1, { d.2 with sectors := d.2.sectors.filter (fun x => x.nsid ≠ nsid) })) } }
  let mine := s.wc.lines.filter (fun l => keyNs l.1 = nsid)
  let s := s.withLines (s.wc.lines.filter (fun l => keyNs l.1 ≠ nsid || l.2.isDirty))
  (mine.filter (fun l => l.2.isDirty)).foldl (fun (st : State) l => st.place nsid (keyLba l.1) .empty 3 false none) s

/-- Whether a sector of a namespace still holds something: no copy in the cache says that it is empty, and its media does not
either. -/
def State.holdsData (s : State) (nsid lba : Nat) : Bool :=
  match s.line nsid lba with
  | some l => l.newest != .empty
  | none =>
    match s.spot nsid lba with
    | none => false
    | some (a, x) =>
      match s.arr a with
      | none => false
      | some r =>
        let pl := r.place x
        match r.geom pl.previous with
        | none => false
        | some g =>
          match r.bowCopy x, (s.readRow r g pl.stripe pl.row)[pl.unit]? with
          | some v, _ => v != .empty
          | none, some (.got _ u) => u.kind != 0
          | none, _ => true

/-- The sectors of a namespace still to be emptied. -/
def State.formatLeft (s : State) (nsid : Nat) : List Nat :=
  (List.range (((s.ns nsid).map (·.size)).getD 0)).filter (fun lba => s.holdsData nsid lba)

/-- Empty sectors placed as class-3 writes as long as their reservations fit (R134, R152). -/
def State.placeEmpties (s : State) (nsid : Nat) : List Nat → State
  | [] => s
  | lba :: r =>
    let grows : Bool := match s.line nsid lba with
      | none => true
      | some l => l.state == .clean || l.state == .destaging
    if s.vPrime + s.reserved false + (if grows then 4096 else 0) ≤ s.admitLevel 3 then
      (s.place nsid lba .empty 3 false none).placeEmpties nsid r
    else s

/-- A Format carried on: its next empty sectors placed. -/
def State.formatStep (s : State) (nsid : Nat) : State := (s.placeEmpties nsid (s.formatLeft nsid)).noteLimit

/-- The member group that holds a namespace's sector now (R74). -/
def State.memberGroupAt (s : State) (nsid lba : Nat) : Nat :=
  match s.spot nsid lba with
  | none => 0
  | some (a, x) =>
    match s.arr a with
    | none => 0
    | some r =>
      let pl := r.place x
      match r.geom pl.previous with
      | none => 0
      | some g => ((r.readPos g pl.stripe pl.unit).map (fun p => (p.sector + pl.row) / 63)).getD 0

/-- The groups of its array that a Format has completed: those before the first sector that still holds something (R136). -/
def State.formatDone (s : State) (f : FormatOp) : Nat :=
  match (s.formatLeft f.nsid).head? with
  | some lba => s.memberGroupAt f.nsid lba
  | none =>
    ((((s.ns f.nsid).map (·.array)).bind s.arr).map (fun r => groupsFor r.cur.dataSectors)).getD f.mark

/-- The watermarks saved as AC_FAIL_N asserts (R136). A Sanitize's grow only as they are saved. -/
def State.saveMarks (s : State) : State :=
  { s with hfe := { s.hfe with formats := s.hfe.formats.map (fun (f : FormatOp) =>
    if f.started then { f with mark := max f.mark (s.formatDone f) } else f) } }

/-- A namespace's key slot zeroized and its reference retired (R134, R272). -/
def State.retireKey (s : State) (nsid : Nat) : State :=
  match s.ns nsid with
  | none => s
  | some n =>
    let floor := max ((tget s.cip.floors nsid).getD 0) (n.keyRef / 65536 + 1)
    (({ s with cip := { s.cip with floors := tput s.cip.floors nsid floor } } : State).dropKeys (· == nsid)).showContexts

/-- Whether fetched commands of a namespace are still on their way; those already given their completion are not (R133). -/
def State.nsInFlight (s : State) (nsid : Nat) : Bool :=
  s.hfe.cmds.any (fun c => (c.nsid == nsid || c.nsid == 0xFFFFFFFF) && c.phase != .collected)

/-- A Format begun (R133, R134): nothing of the namespace is in flight any more, the start is recorded, cached data is discarded, with SES
010b the key goes, and the command completes once every Format it started is recorded. -/
def State.beginFormat (s : State) (f : FormatOp) : State :=
  let s := { s with hfe := { s.hfe with formats := s.hfe.formats.map (fun (x : FormatOp) =>
    if x.nsid = f.nsid then { x with started := true, who := none } else x) } }
  let s : State := s.discardNs f.nsid
  let s := if f.ses = 2 then s.retireKey f.nsid else s
  let s := s.formatStep f.nsid
  match f.who with
  | none => s
  | some w => if s.hfe.formats.any (fun x => x.who = some w) then s else s.adminDone w.1 w.2 stOk 0 []

/-- A Sanitize begun (R133, R135): a running Format ends without completing, all cached data is discarded, a Crypto Erase retires every key,
and the command completes. -/
def State.beginSanitize (s : State) (x : SanitizeOp) : State :=
  let all : List Nat := ((s.img.running.map (·.namespaces)).getD []).map (fun n => n.nsid)
  let s := { s with hfe := { s.hfe with sanitize := some { x with started := true, who := none }, formats := [], sanStatus := 2 } }
  let s := all.foldl (fun (st : State) n => st.discardNs n) s
  let s := if x.action = 4 then all.foldl (fun (st : State) n => st.retireKey n) s else s
  match x.who with
  | none => s
  | some w => s.adminDone w.1 w.2 stOk 0 []

/-- Formats and a Sanitize that wait for fetched commands to end begin once none is left (R133). -/
def State.fenceWake (s : State) : State :=
  let s : State := match s.hfe.sanitize with
    | some x => if !x.started && !(s.hfe.cmds.any (fun (c : HostCmd) => c.phase != .collected)) then s.beginSanitize x else s
    | none => s
  let fs : List FormatOp := s.hfe.formats
  fs.foldl (fun (st : State) f =>
    if !f.started && st.formatting f.nsid && !st.nsInFlight f.nsid then st.beginFormat f else st) s

/-! ### Commands that leave without a completion entry (R137) -/

/-- What a command of a function still has on its way dropped: messages, entropy, mappings, member commands not yet issued. -/
def State.dropWork (s : State) (tag : Nat) : State :=
  let c := s.cip
  let mine (q : MapReq) : Bool := q.owner == .host tag
  { s with
    cip := { c with waiting := c.waiting.filter (fun m => m.tag ≠ tag), pipes := c.pipes.filter (fun p => p.2.tag ≠ tag),
                    suspended := c.suspended.filter (fun m => m.tag ≠ tag), entropy := c.entropy.filter (· ≠ tag) },
    map := { s.map with lanes := s.map.lanes.filter (fun l => !mine l.2.req), waiting := s.map.waiting.filter (fun q => !mine q),
                        results := s.map.results.filter (fun x => !mine x.req) },
    ports := s.ports.map (fun (p : Nat × PortSt) =>
      (p.1, { p.2 with waiting := p.2.waiting.filter (fun d => d.owner ≠ McOwner.host tag) })) }

/-- A command abandoned (R137): sectors already placed stay, tag and entries are released, no entry is posted. -/
def State.abandon (s : State) (c : HostCmd) : State :=
  let s := ((s.dropWork c.tag).abandonLines c.tag).lanesCount
  let s := { s with hfe := { s.hfe with collector := s.hfe.collector.filter (fun e => e.tag ≠ some c.tag) } }
  s.releaseCmd c.tag (s.genBusy c.tag)

/-- A function quiesced (R137): its commands abandoned, its queues and grants given up, its controller as after a reset but for the
pending flags; admin commands that still wait end without an entry. -/
def State.quiesce (s : State) (f : FnIdx) : State :=
  let s := (s.hfe.cmds.filter (fun c => c.fn = f)).foldl (fun (st : State) c => st.abandon c) s
  let h := s.hfe
  let mine (k : Nat) : Bool := k / 8192 == f.val
  let s := { s with hfe := { h with
    sqs := h.sqs.filter (fun q => !mine q.1), cqs := h.cqs.filter (fun q => !mine q.1),
    collector := h.collector.filter (fun e => e.cqe.fn ≠ f),
    formats := h.formats.map (fun (x : FormatOp) => if x.who.any (fun (w : FnIdx × Nat) => w.1 = f) then { x with who := none } else x),
    sanitize := h.sanitize.map (fun (x : SanitizeOp) => if x.who.any (fun (w : FnIdx × Nat) => w.1 = f) then { x with who := none } else x) } }
  let p := s.pwr
  let s := { s with pwr := { p with waits := p.waits.filter (fun (w : PsWait) => w.fn ≠ f),
                                    psRun := p.psRun.filter (fun (w : PsWait) => w.fn ≠ f) } }
  let x := s.fn f
  s.putFn f { fnDisabled with flagged := x.flagged, errLog := x.errLog, vfEnable := x.vfEnable, resetting := true }

/-- The functions of a host port. -/
def portFns (hp : Nat) : List FnIdx := (List.finRange 128).filter (fun f => fnPort f = hp)

/-- Every function of a port quiesced, VF Enable cleared, and host-owned DMA on the port stopped (R112, R137, R259). -/
def State.portQuiesce (s : State) (hp : Nat) : State :=
  let s := ((portFns hp).filter (fun f => s.fnEnabled f)).foldl (fun (st : State) f =>
    let st := st.quiesce f
    st.putFn f { st.fn f with vfEnable := false }) s
  (s.dmaPortReset hp).fenceWake

/-! ### The collector (R139, R140, R305) -/

/-- Whether a collected entry may be posted now: its CQ exists and has room, and in a pair a write's entry only while the gate is
open. -/
def State.mayPost (s : State) (e : Collected) : Bool :=
  let room : Bool := match tget s.hfe.cqs (qKey e.cqe.fn (s.cqOf e.cqe.fn e.cqe.sq)) with
    | some q => !q.full
    | none => false
  let wr : Bool := match e.tag.bind s.cmd with
    | some c => kindExclusive c.kind
    | none => false
  room && (!wr || !s.paired || s.gateOpen)

/-- The class in which an entry is served: one of classes 1 to 3 that has waited 50 µs in class-1 order. -/
def State.postClass (s : State) (e : Collected) : Nat :=
  if e.cls = 0 then 0 else if e.at_ + 50000 ≤ s.now then 1 else e.cls

/-- The next entry of a host port: the lowest class, the oldest fetch in it. -/
def State.nextPost (s : State) (hp : Nat) : Option Collected :=
  let l := s.hfe.collector.filter (fun e => fnPort e.cqe.fn = hp ∧ s.mayPost e)
  l.foldl (fun (acc : Option Collected) e =>
    match acc with
    | none => some e
    | some b =>
      let k := s.postClass e
      let m := s.postClass b
      if k < m ∨ (k = m ∧ e.order < b.order) then some e else some b) none

/-- Whether an interval exceeds a bound in ns. While clock steps are in force, each a sixteenth, bounds are multiplied by 1.25 GHz ÷ the core
clock (R377). -/
def State.overBound (s : State) (bound t : Nat) : Bool := decide (bound * 16 < t * (16 - s.fld Fld.THERM_STATUS.CLOCK_STEPS))

/-- The bound of R219 on a class-0 command in ns: whether it was exceeded. X is the time of the bytes beyond 128 KiB at the port's usable
bandwidth; the pair link carries 100 GB/s (R23); a read that went without members is held to the bound with L late or missing units,
S counting k sectors for each one read. -/
def State.boundBroken (s : State) (c : HostCmd) (st : Status) : Bool :=
  let bytes := if c.kind = .read ∨ c.kind = .write then c.sectors * 4096 else 0
  let x := (bytes - 131072) * 10000 / max 1 (s.portRate (fnPort c.fn))
  let whole := s.now - c.bell
  let late := min 2 c.lack
  if st ≠ stOk then s.overBound 10000 whole
  else if kindExclusive c.kind then
    let second := if s.paired then 9000 + (bytes - 131072) / 100 else 4000
    s.overBound (6000 + x) (c.done - c.bell) || s.overBound second (s.now - c.done)
  else if c.issued = 0 then s.overBound (10000 + x) whole
  else if late = 0 then s.overBound 6000 (c.issued - c.bell) || s.overBound (4000 + x) (s.now - c.done)
  else
    let d := (((s.classAt c.order).classes.head?).map (·.memberDeadlineUs)).getD 0 * 1000
    let k := ((((c.ranges.head?).bind (fun e => s.spotAt c.order c.nsid e.start)).bind (fun y => s.arr y.1)).map (fun r => r.cur.k)).getD 0
    let solve := 1000 + c.sectors * 4096 * k / 640
    s.overBound (10000 + (late + 1) * d + late * 1000 + solve + x) whole

/-- The latency counters and histograms of a posted I/O entry (R220 to R223). -/
def State.countPost (s : State) (e : Collected) : State :=
  let s := s.histCount 0 e.cls (s.now - e.bell)
  match e.tag.bind s.cmd with
  | none => if e.cls ≠ 0 then s else if e.excl || s.exclusion then s.incFld Fld.LAT_C0_EXCL 1 else s.incFld Fld.LAT_C0_OUTSIDE 1
  | some c =>
    let s := if c.issued = 0 then s else s.histCount 1 c.cls (c.issued - c.bell)
    let s := s.histCount 2 c.cls (s.now - c.done)
    if c.cls ≠ 0 then s
    else if c.excl || s.exclusion then s.incFld Fld.LAT_C0_EXCL 1
    else if c.outside then s.incFld Fld.LAT_C0_OUTSIDE 1
    else
      let s := s.incFld Fld.LAT_C0_DONE 1
      let s := if s.boundBroken c e.cqe.status then s.incFld Fld.LAT_C0_VIOL 1 else s
      let s := if c.issued = 0 then s else s.maxFld Fld.LAT_C0_ISSUE_MAX.NS (c.issued - c.bell)
      s.maxFld Fld.LAT_C0_POST_MAX.NS (s.now - c.done)

/-- A deleted SQ's Delete command completes once nothing of it is outstanding (R119). -/
def State.deleteWake (s : State) : State :=
  s.hfe.sqs.foldl (fun (st : State) e =>
    if h : e.1 / 8192 < 128 then
      match e.2.deleting with
      | none => st
      | some cid =>
        if st.outstanding ⟨e.1 / 8192, h⟩ (e.1 % 8192) = 0 then
          ({ st with hfe := { st.hfe with sqs := tdel st.hfe.sqs e.1 } } : State).adminDone ⟨e.1 / 8192, h⟩ cid stOk 0 []
        else st
    else st) s

end Sys2Proof.Machine
end

