-- ==== Sys2Proof/Machine/Admin.lean ====
section
/-!
DEFINITION. Machine/Admin.lean: the admin commands (R114, R116, R118, R119, R124, R126, R131, R132, R134, R135, R141, R144) and what ends
Format and Sanitize (R134 to R136). A command's row is its turn on the admin queue of its function.
-/
namespace Sys2Proof.Machine

/-! ### An admin command's turn (R43, R132, R135, R141) -/

/-- Whether a function's controller takes admin commands: enabled, ready, in no reset (R119, R137). -/
def State.adminOpen (s : State) (f : FnIdx) : Bool :=
  let x := s.fn f
  x.en && x.rdy && !x.resetting && s.fnEnabled f

/-- Whether an earlier admin command of the function has not posted its completion, event requests apart (R132). -/
def State.adminBusy (s : State) (f : FnIdx) : Bool :=
  s.hfe.sqs.any (fun q => decide (q.1 / 8192 = f.val) && q.2.deleting.isSome) ||
  s.pwr.waits.any (fun w => w.fn == f) || (s.pwr.psRun.map (·.fn)) == some f ||
  s.hfe.collector.any (fun e => e.tag.isNone && e.cqe.fn == f && e.cqe.sq == 0) ||
  s.hfe.formats.any (fun x => x.who.map (·.1) == some f) || ((s.hfe.sanitize.bind (·.who)).map (·.1)) == some f

/-- Whether one of the commands that serialise device-wide still runs (R132). -/
def State.serialBusy (s : State) : Bool :=
  s.pwr.psRun.isSome || !s.pwr.waits.isEmpty || s.hfe.formats.any (fun x => x.who.isSome) || (s.hfe.sanitize.bind (·.who)).isSome

/-- An entry fetched from the admin SQ: its head pointer moves on (R120). -/
def State.adminTake (s : State) (f : FnIdx) : State :=
  let x := s.fn f
  s.putFn f { x with asqHead := (x.asqHead + 1) % (x.asqs + 1) }

/-- Whether an admin command carries the identifier of an event request that the function still holds (R123). -/
def State.adminDup (s : State) (f : FnIdx) (cid : Nat) : Bool := (s.fn f).aers.contains cid

/-- An admin command whose identifier is still in use ends with Command ID Conflict and is not executed (R123). -/
def State.adminConflict (s : State) (f : FnIdx) (cid : Nat) : State :=
  (s.incFld Fld.HFE_CID_CONFLICT_COUNT 1).adminDone f cid stCidConflict 0 []

/-- An admin command's turn: it wakes a sleeping device instead of running, waits for its predecessor, and ends with Command Sequence Error in
Safe Mode or Sanitize In Progress where it is not one of the commands that these let through. A command whose turn has not come stays in the
host's queue. -/
def State.admin (s : State) (f : FnIdx) (cid : Nat) (safe sani : Bool) (run : State → State) : Out State :=
  if !s.adminOpen f then .next s
  else if !s.fetching then .next s.wakeUp
  else if s.adminBusy f then .next s
  else
  let s := s.adminTake f
  if s.adminDup f cid then .next (s.adminConflict f cid)
  else if s.safeMode && !safe then .next (s.adminDone f cid stSequence 0 [])
  else if s.hfe.sanitize.isSome && !sani then .next (s.adminDone f cid stSanitizing 0 [])
  else .next (run s)

/-- An admin command that ends at once with a status and no data. -/
def State.adminEnd (s : State) (f : FnIdx) (cid : Nat) (st : Status) : State := s.adminDone f cid st 0 []

/-! ### Queues (R118, R119) -/

/-- Functions enabled now. -/
def State.enabledFns (s : State) : List FnIdx := (List.finRange 128).filter (fun f => s.fnEnabled f)

/-- The unreserved free pool of one kind of queue: what neither a grant nor a QUEUE_RESERVE holds (R118). -/
def State.poolFree (s : State) (grant : FnSt → Nat) : Nat :=
  32768 - s.enabledFns.foldl (fun acc f => acc + max (s.func f).queueReserve (grant (s.fn f))) 0

/-- A grant: the smallest of the request, QUEUE_CAP, and QUEUE_RESERVE with the unreserved free pool. -/
def State.grantOf (s : State) (f : FnIdx) (req : Nat) (grant : FnSt → Nat) : Nat :=
  min req (min (s.func f).queueCap ((s.func f).queueReserve + s.poolFree grant))

/-- The grants in DW0, each one less than the number granted; a grant of no queue at all has no such form, and its half is free. -/
def State.grantWord (s : State) (a b : Nat) : Nat :=
  let half (n : Nat) : Nat := if n = 0 then (s.free 16).toNat else n - 1
  half a + 65536 * half b

/-- SET_FEATURES_NUMBER_OF_QUEUES (R118): once per controller enable. -/
def execSetFeaturesNumberOfQueues (fn : FnIdx) (cid nsq ncq : Nat) (s : State) : Out State :=
  if s.serialBusy then .next s
  else s.admin fn cid false false (fun s =>
    let x := s.fn fn
    if x.nqDone then s.adminEnd fn cid stSequence
    else if nsq = 0 ∨ ncq = 0 then s.adminEnd fn cid stInvalidField
    else
      let a := s.grantOf fn nsq FnSt.grantSq
      let b := s.grantOf fn ncq FnSt.grantCq
      let w := s.grantWord a b
      ((s.putFn fn { x with nqDone := true, grantSq := a, grantCq := b }).used).adminDone fn cid stOk w [])

/-- CREATE_IO_SQ (R116, R119): the identifier within the grant and not in use, 2 to 64 entries, physically contiguous (CAP.CQR; NVMe's Invalid
Field in Command otherwise, assumption 14), its CQ there; its class is the function's DEFAULT_CLASS. -/
def execCreateIoSq (fn : FnIdx) (cid qid : Nat) (mem : QueueMem) (cqid : Nat) (s : State) : Out State :=
  s.admin fn cid false false (fun s =>
    if qid = 0 ∨ (s.fn fn).grantSq < qid ∨ (tget s.hfe.sqs (qKey fn qid)).isSome then s.adminEnd fn cid stInvalidQid
    else if mem.size < 2 ∨ 64 < mem.size then s.adminEnd fn cid stInvalidQsize
    else if mem.pc = false then s.adminEnd fn cid stInvalidField
    else if cqid = 0 ∨ (tget s.hfe.cqs (qKey fn cqid)).isNone then s.adminEnd fn cid stCqInvalid
    else
      let q : IoSq := { size := mem.size, cls := (s.func fn).defaultClass, cq := cqid, head := 0, tail := 0, bells := [], deleting := none }
      ({ s with hfe := { s.hfe with sqs := tput s.hfe.sqs (qKey fn qid) q } } : State).adminEnd fn cid stOk)

/-- MSI-X vectors of a function (R110). -/
def vectorsOf (f : FnIdx) : Nat := if isPf f then 2048 else 65

/-- CREATE_IO_CQ (R110, R116, R119): as CREATE_IO_SQ; the vector is one of the 2,048 of a PF or the 65 of a VF. -/
def execCreateIoCq (fn : FnIdx) (cid qid : Nat) (mem : QueueMem) (vector : Nat) (ien : Bool) (s : State) : Out State :=
  s.admin fn cid false false (fun s =>
    if qid = 0 ∨ (s.fn fn).grantCq < qid ∨ (tget s.hfe.cqs (qKey fn qid)).isSome then s.adminEnd fn cid stInvalidQid
    else if mem.size < 2 ∨ 64 < mem.size then s.adminEnd fn cid stInvalidQsize
    else if mem.pc = false then s.adminEnd fn cid stInvalidField
    else if vectorsOf fn ≤ vector then s.adminEnd fn cid stInvalidVector
    else
      let q : IoCq := { size := mem.size, vector := vector, ien := ien, head := 0, tail := 0, coalesced := 0 }
      ({ s with hfe := { s.hfe with cqs := tput s.hfe.cqs (qKey fn qid) q } } : State).adminEnd fn cid stOk)

/-- The entries of an SQ that were not fetched collected with Command Aborted due to SQ Deletion; their identifiers stand in host memory, so
each is free here (assumption 4). -/
def State.dropEntries (s : State) (f : FnIdx) (qid cls : Nat) : List (Nat × Bool) → State
  | [] => s
  | b :: r =>
    let id := (s.free 16).toNat
    ((s.used).collectBare f qid cls id stSqDeleted b).dropEntries f qid cls r

/-- DELETE_IO_SQ (R119): entries not yet fetched end aborted; the command completes when nothing of the SQ is outstanding. -/
def execDeleteIoSq (fn : FnIdx) (cid qid : Nat) (s : State) : Out State :=
  s.admin fn cid false false (fun s =>
    match (if qid = 0 then none else tget s.hfe.sqs (qKey fn qid)) with
    | none => s.adminEnd fn cid stInvalidQid
    | some q =>
      let bells := (q.bells ++ List.replicate (q.waiting - q.bells.length) (s.now, false)).take q.waiting
      let s := { s with hfe := { s.hfe with
        sqs := tput s.hfe.sqs (qKey fn qid) { q with tail := q.head, bells := [], deleting := some cid } } }
      (s.dropEntries fn qid q.cls bells).deleteWake)

/-- DELETE_IO_CQ (R119): refused while an SQ uses it. -/
def execDeleteIoCq (fn : FnIdx) (cid qid : Nat) (s : State) : Out State :=
  s.admin fn cid false false (fun s =>
    if qid = 0 ∨ (tget s.hfe.cqs (qKey fn qid)).isNone then s.adminEnd fn cid stInvalidQid
    else if s.hfe.sqs.any (fun q => decide (q.1 / 8192 = fn.val) && q.2.cq == qid) then s.adminEnd fn cid stQueueDeletion
    else ({ s with hfe := { s.hfe with cqs := tdel s.hfe.cqs (qKey fn qid) } } : State).adminEnd fn cid stOk)

/-! ### Log pages (R114, R135, R144, R444) -/

/-- A status as the status field of a completion entry holds it, without the phase bit. -/
def statusWord (st : Status) : Nat := st.sc + 256 * st.sct + 2048 * st.crd + (if st.dnr then 16384 else 0)

/-- The entries of the deferred-error list that a controller sees. -/
def State.dweFor (s : State) (f : FnIdx) : List Dwe := s.hfe.dwe.filter (fun d => (s.nsFor f d.nsid).isSome)

/-- An entry of log page 0xC0; the time of an error recorded while pitch time was not valid is free. -/
def State.dweBytes (s : State) (i : Nat) (d : Dwe) : List Nat :=
  leBytes 4 d.nsid ++ leBytes 2 d.cause ++ [0, 0] ++ leBytes 8 d.slba ++ leBytes 8 d.nlb ++
  leBytes 8 (d.time.getD (Config.freeBits 64 (s.freeIx + i)).toNat)

/-- The bytes of log page 0xC0 for a controller. -/
def State.dwePage (s : State) (f : FnIdx) : List Nat :=
  let l := s.dweFor f
  leBytes 4 l.length ++ leBytes 4 (bit1 (s.bit Fld.HFE_DWE_STATUS.OVERFLOW)) ++ List.replicate 8 0 ++
  (l.mapIdx (fun i d => s.dweBytes i d)).flatten

/-- The entries that a page of a length returned whole removed from the list; an empty list clears OVERFLOW (R144). -/
def State.dweClear (s : State) (f : FnIdx) (length : Nat) : State :=
  let l := (s.dweFor f).take ((length - 16) / 32)
  let keep := s.hfe.dwe.filter (fun d => !l.contains d)
  let s := ({ s with hfe := { s.hfe with dwe := keep } } : State).setFld Fld.HFE_DWE_STATUS.ENTRIES keep.length
  if keep.isEmpty then s.setBit Fld.HFE_DWE_STATUS.OVERFLOW false else s

/-- SPROG: the completed groups of all arrays in 65,536ths of all groups, NVMe's unit, and 0xFFFF while no Sanitize runs (R135, R136). -/
def State.sanProgress (s : State) : Nat :=
  match s.hfe.sanitize with
  | none => 0xFFFF
  | some x =>
    let all := s.rbe.arrays.foldl (fun acc a => acc + groupsFor a.2.cur.dataSectors) 0
    let done := s.rbe.arrays.foldl (fun acc a => acc + min ((tget x.marks a.1).getD 0) (groupsFor a.2.cur.dataSectors)) 0
    min 0xFFFE (done * 65536 / max 1 all)

/-- The Sanitize Status page: SPROG, SSTAT and estimated times; the times are free. -/
def State.sanitizePage (s : State) : List Nat :=
  [s.sanProgress, s.hfe.sanStatus, (Config.freeBits 32 (s.freeIx + 1)).toNat,
   (Config.freeBits 32 (s.freeIx + 2)).toNat]

/-- GET_LOG_PAGE (R114, R144): page 0xC0 from a PF with LSP bit 0 removes the entries it returns; the content of the pages that the spec
leaves to NVMe is free. -/
def execGetLogPage (fn : FnIdx) (cid lid lsp length : Nat) (s : State) : Out State :=
  s.admin fn cid true true (fun s =>
    let ended (st : State) (l : List Nat) : State := st.adminDone fn cid stOk 0 (l.take length)
    let freed : State := { s with freeIx := s.freeIx + 4097 }
    if lid = 0xC0 then
      let page := s.dwePage fn
      let t := if isPf fn ∧ lsp % 2 = 1 then freed.dweClear fn length else freed
      ended t page
    else if lid = 0x01 then s.adminDone fn cid stOk 0 ((s.fn fn).errLog.map statusWord)
    else if lid = 0x81 then freed.adminDone fn cid stOk 0 s.sanitizePage
    else if 0x02 ≤ lid ∧ lid ≤ 0x06 then freed.adminDone fn cid stOk 0 [(s.free 64).toNat]
    else s.adminEnd fn cid stInvalidLog)

/-! ### Identify (R114, R116) -/

/-- Format progress of a namespace: bit 7 and the percentage remaining, rounded up (R116, R134). -/
def State.fpi (s : State) (nsid : Nat) : Nat :=
  if s.formatting nsid then
    let size := ((s.ns nsid).map (·.size)).getD 0
    128 + ((s.formatLeft nsid).length * 100 + (size - 1)) / max 1 size
  else 128

/-- Identify Namespace: NSZE, NCAP, NUSE, FPI, DLFEAT, and of the one LBA format LBADS and MS; zeros where it is not attached. -/
def State.identifyNs (s : State) (f : FnIdx) (nsid : Nat) : List Nat :=
  match s.nsFor f nsid with
  | none => List.replicate 7 0
  | some n => [n.size, n.size, n.size, s.fpi nsid, 0x09, 12, 0]

/-- The NVM subsystem's NQN, byte by byte (R113). -/
def State.subNqn (s : State) : List Nat :=
  "nqn.2019-04.com.corwestra:px4896:".toList.map Char.toNat ++ leBytes 16 (s.fld Fld.SYS_SERIAL)

/-- EXLAT of PS3 in µs (R429): 60 ms, and with POWER_OFF_IN_SILENCE on some port 100 ms for each unit of the largest SPINUP_DELAY_DS of those
ports and 30 s. The port map in force changes only at an activation or a boot. -/
def State.silenceExit (s : State) : Nat :=
  let l := ((List.finRange 48).filterMap s.portCfg).filter (fun e => decide (e.flags / 2 % 2 = 1))
  if l.isEmpty then 60000 else 60000 + 100000 * l.foldl (fun acc e => max acc e.spinupDelayDs) 0 + 30000000

/-- The power state descriptors (R141, R425): of PS0 to PS3 the maximum power in units of 10 mW, ENLAT and EXLAT in µs. -/
def State.powerDescriptors (s : State) : List Nat :=
  [18500, 0, 0, 11000, 10, 10, 600, 100000, 5000, 45, 2000000, s.silenceExit]

/-- Identify Controller: CNTLID, MDTS, SQES, CQES, NN, OACS, ONCS, VWC, SANICAP, FNA, ACL, AERL, NPSS, CRDT1 in units of 100 ms (R142), the power
state descriptors, SUBNQN. -/
def State.identifyCtrl (s : State) (f : FnIdx) : List Nat :=
  [1 + f.val, 9, 0x66, 0x44, 1024, 0x02, 0x8C, 0x07, 0x05, 0x04, 3, 3, 3, 1] ++ s.powerDescriptors ++ s.subNqn

/-- The active namespaces above an NSID, ascending, at most 1,024. -/
def State.activeNs (s : State) (f : FnIdx) (nsid : Nat) : List Nat :=
  (((List.range 1025).filter (fun n => decide (nsid < n) && (s.nsFor f n).isSome))).take 1024

/-- IDENTIFY (R114, R116): CNS 0x00 to 0x03 and 0x05 to 0x07; what the spec does not give of 0x05 and 0x06 is free. -/
def execIdentify (fn : FnIdx) (cid cns nsid : Nat) (s : State) : Out State :=
  s.admin fn cid true true (fun s =>
    let ended (l : List Nat) : State := s.adminDone fn cid stOk 0 l
    if cns = 0x00 then (if nsid = 0 ∨ 1024 < nsid then s.adminEnd fn cid stInvalidNs else ended (s.identifyNs fn nsid))
    else if cns = 0x01 then ended (s.identifyCtrl fn)
    else if cns = 0x02 ∨ cns = 0x07 then ended (s.activeNs fn nsid)
    else if cns = 0x03 then
      match s.nsFor fn nsid with
      | some n => ended [n.uuid]
      | none => s.adminEnd fn cid stInvalidNs
    else if cns = 0x05 ∨ cns = 0x06 then (s.used).adminDone fn cid stOk 0 [(s.free 64).toNat]
    else s.adminEnd fn cid stInvalidField)

/-! ### Abort, event requests, unsupported opcodes -/

/-- Whether a fetched command has begun neither its data transfer nor its mapping (R126): it waits for its lock or holds it, or is a Flush that
waits for destage. -/
def State.abortable (s : State) (c : HostCmd) : Bool :=
  let mine (q : MapReq) : Bool := q.owner == .host c.tag
  (c.phase == .lockWait || c.phase == .locked || (c.kind == .flush && c.phase == .destageWait)) && !s.map.lanes.any (fun l => mine l.2.req) && !s.map.waiting.any mine &&
  !s.map.results.any (fun x => mine x.req)

/-- ABORT (R126): a fetched command not yet transferring or mapping ends with Command Abort Requested, its range lock goes, and DW0 bit 0
is 0; a held event request too; in every other case the target runs on and DW0 bit 0 is 1. -/
def execAbortCommand (fn : FnIdx) (cid sqid target : Nat) (s : State) : Out State :=
  s.admin fn cid false false (fun s =>
    let x := s.fn fn
    if sqid = 0 ∧ x.aers.contains target then
      (((s.putFn fn { x with aers := x.aers.erase target }).adminDone fn target stAbortRequested 0 [])).adminDone fn cid stOk 0 []
    else
      match s.hfe.cmds.find? (fun c => c.fn = fn ∧ c.sq = sqid ∧ c.cid = target) with
      | none => s.adminDone fn cid stOk 1 []
      | some c =>
        if s.abortable c then
          let s := { s with hfe := { s.hfe with locks := s.hfe.locks.filter (fun l => l.tag ≠ c.tag) } }
          ((s.collect c stAbortRequested []).fenceWake).adminDone fn cid stOk 0 []
        else s.adminDone fn cid stOk 1 [])

/-- ASYNCHRONOUS_EVENT_REQUEST (R114, R120, R132): held, at most 4 at once. -/
def execAsynchronousEventRequest (fn : FnIdx) (cid : Nat) (s : State) : Out State :=
  s.admin fn cid false true (fun s =>
    let x := s.fn fn
    if 4 ≤ x.aers.length then s.adminEnd fn cid stAerLimit else s.putFn fn { x with aers := x.aers ++ [cid] })

/-- INVALID_OPCODE_COMMAND (R114): an admin command, or the entry that an I/O SQ has next, with an opcode that is not supported. -/
def execInvalidOpcodeCommand (fn : FnIdx) (sq cid : Nat) (s : State) : Out State :=
  if sq = 0 then s.admin fn cid false false (fun s => s.adminEnd fn cid stInvalidOpcode)
  else
    match tget s.hfe.sqs (qKey fn sq) with
    | none => .next s
    | some q =>
      let e : SqEntry := { cid := cid, kind := .invalid, nsid := 0, ranges := [], fua := false }
      if s.fetching && s.sqReady fn sq q then .next (s.fetchBurst fn sq 1 [e]) else .next s

/-! ### Features (R114, R124, R131, R141) -/

/-- SET_FEATURES_POWER_MANAGEMENT (R19, R141, R431): also taken while the device sleeps or enters or leaves a state, which it then
waits out. -/
def execSetFeaturesPowerManagement (fn : FnIdx) (cid ps : Nat) (s : State) : Out State :=
  if !s.adminOpen fn || s.adminBusy fn || s.hfe.formats.any (fun x => x.who.isSome) || (s.hfe.sanitize.bind (·.who)).isSome then .next s
  else if !s.fetching && decide (s.fld Fld.PWR_STATE.STATE ≤ 1) then .next s
  else if s.adminDup fn cid then .next ((s.adminTake fn).adminConflict fn cid)
  else if 3 < ps then .next ((s.adminTake fn).adminEnd fn cid stInvalidField)
  else .next ((s.adminTake fn).startPower ⟨fn, cid, ps⟩)

/-- SET_FEATURES_QUEUE_CLASS (R124): from the next grant on. -/
def execSetFeaturesQueueClass (fn : FnIdx) (cid sqid cls : Nat) (s : State) : Out State :=
  s.admin fn cid false false (fun s =>
    match (if sqid = 0 then none else tget s.hfe.sqs (qKey fn sqid)) with
    | none => s.adminEnd fn cid stInvalidField
    | some q =>
      ({ s with hfe := { s.hfe with sqs := tput s.hfe.sqs (qKey fn sqid) { q with cls := cls % 4 } } } : State).adminEnd fn cid stOk)

/-- A window's number. -/
def windowKey (nsid index : Nat) : Nat := nsid * 8 + index % 8

/-- A window set, or removed by a count of zero. -/
def State.putWindow (s : State) (nsid index start count : Nat) (locked : Bool) : State :=
  let k := windowKey nsid index
  { s with hfe := { s.hfe with windows := if count = 0 then tdel s.hfe.windows k else tput s.hfe.windows k ⟨start, count, locked⟩ } }

/-- SET_FEATURES_PROTECTION_WINDOW (R131): a locked window changes only from a PF with a token for operation 8, and the attempt is Feature
Not Changeable without one (assumption 14). -/
def execSetFeaturesProtectionWindow (fn : FnIdx) (cid nsid index start count flags token : Nat) (s : State) : Out State :=
  s.admin fn cid false false (fun s =>
    if (s.nsFor fn nsid).isNone then s.adminEnd fn cid stInvalidNs
    else
      let set (st : State) : State := (st.putWindow nsid index start count (decide (flags % 2 = 1))).adminEnd fn cid stOk
      match tget s.hfe.windows (windowKey nsid index) with
      | some w =>
        if w.locked then
          if isPf fn then
            let ok := s.tokenOk 8 (nsid + 2 ^ 32 * (index % 8)) token
            let t := s.tokenChecked 8 (fnPort fn + 1) ok
            if ok then set t else t.adminEnd fn cid stNotChangeable
          else s.adminEnd fn cid stNotChangeable
        else set s
      | none => set s)

/-- A feature value stored for a controller. -/
def State.putFeat (s : State) (f : FnIdx) (fid v : Nat) : State :=
  let x := s.fn f
  s.putFn f { x with feats := tput x.feats fid (v % 2 ^ 32) }

/-- SET_FEATURES_ARBITRATION (R124): AB from the next grant on; LPW, MPW and HPW are stored and reported. -/
def execSetFeaturesArbitration (fn : FnIdx) (cid value : Nat) (s : State) : Out State :=
  s.admin fn cid false false (fun s => (s.putFeat fn 0x01 value).adminEnd fn cid stOk)

/-- The features that SET_FEATURES itself sets for the whole controller: Temperature Threshold, Interrupt Coalescing, Asynchronous
Event Configuration, Autonomous Power State Transition (R114). -/
def plainFeature (fid : Nat) : Bool := [0x04, 0x08, 0x0B, 0x0C].contains fid

/-- The table that comes with a feature is stored with it: Autonomous Power State Transition's (R114, R141). -/
def State.putTable (s : State) (f : FnIdx) (fid : Nat) (table : List Nat) : State :=
  if fid = 0x0C then s.putFn f { s.fn f with apst := table.take 32 } else s

/-- SET_FEATURES (R114): the Volatile Write Cache cannot be changed (R115); Interrupt Vector Configuration is of the vector in bits 15:0, which
the function must have; a feature with a row of its own is left to it, and any other is not supported. Autonomous Power State Transition
serialises device-wide (R132). -/
def execSetFeaturesOther (fn : FnIdx) (cid fid : Nat) (given : FeatureGiven) (s : State) : Out State :=
  if [0x01, 0x02, 0x07, 0xC0, 0xC1].contains fid || (fid == 0x0C && s.serialBusy) then .next s
  else s.admin fn cid false false (fun s =>
    if fid = 0x06 then s.adminEnd fn cid stNotChangeable
    else if fid = 0x09 then
      if vectorsOf fn ≤ given.value % 65536 then s.adminEnd fn cid stInvalidField
      else (s.putFeat fn (ivcKey (given.value % 65536)) given.value).adminEnd fn cid stOk
    else if plainFeature fid then ((s.putFeat fn fid given.value).putTable fn fid given.table).adminEnd fn cid stOk
    else s.adminEnd fn cid stInvalidField)

/-- The value of a feature, with its data: 0x06 reads 1 (R115), 0x02 the state held (R141), 0x07 the grants, 0xC0 the class of the SQ that
`arg` names, 0xC1 the window that `arg` names by index and, above bit 3, NSID. -/
def State.feature (s : State) (f : FnIdx) (fid arg : Nat) : Option (Nat × List Nat) :=
  let x := s.fn f
  if fid = 0x0C then some ((tget x.feats fid).getD 0, x.apst)
  else if fid = 0x01 ∨ plainFeature fid then some ((tget x.feats fid).getD 0, [])
  else if fid = 0x09 then
    (if vectorsOf f ≤ arg % 65536 then none else some ((tget x.feats (ivcKey (arg % 65536))).getD (arg % 65536), []))
  else if fid = 0x02 then some (s.powerCode, [])
  else if fid = 0x06 then some (1, [])
  else if fid = 0x07 then some (s.grantWord x.grantSq x.grantCq, [])
  else if fid = 0xC0 then (if arg % 65536 = 0 then none else tget s.hfe.sqs (qKey f (arg % 65536))).map (fun q => (q.cls, []))
  else if fid = 0xC1 then
    if (s.nsFor f (arg / 8)).isNone then none
    else
      match tget s.hfe.windows (windowKey (arg / 8) arg) with
      | some w => some (arg % 8 + (if w.locked then 8 else 0), [w.start, w.count])
      | none => some (arg % 8, [0, 0])
  else none

/-- GET_FEATURES (R114, R124): a feature that is not supported, or an SQ that does not exist, is Invalid Field in Command. -/
def execGetFeatures (fn : FnIdx) (cid fid arg : Nat) (s : State) : Out State :=
  s.admin fn cid false true (fun s =>
    match s.feature fn fid arg with
    | some (v, l) => (s.used).adminDone fn cid stOk v l
    | none => s.adminEnd fn cid stInvalidField)

/-! ### Format and Sanitize (R133 to R136) -/

/-- Whether a namespace has a locked window. -/
def State.lockedWindow (s : State) (nsid : Nat) : Bool := (s.windowsOf nsid).any (fun w => w.2.locked)

/-- FORMAT_NVM (R133, R134, R136): its checks, then the fence; it begins once no fetched command of its namespaces is left. DESIGN CHOICE
(assumption 33): the broadcast value from a controller to which no namespace is attached ends with Successful Completion. -/
def execFormatNvm (fn : FnIdx) (cid nsid ses : Nat) (fmt : FormatAsked) (s : State) : Out State :=
  if s.serialBusy then .next s
  else s.admin fn cid false false (fun s =>
    let all := (((s.img.running.map (·.namespaces)).getD []).filter (fun n => nsAttached n fn)).map (·.nsid)
    let named := if nsid = 0xFFFFFFFF then all else all.filter (· = nsid)
    if s.bit Fld.HFE_STATUS.REPLAY_PENDING then s.adminEnd fn cid stReplay
    else if fmt.lbaf ≠ 0 ∨ fmt.pi ≠ 0 ∨ fmt.pil ≠ 0 ∨ fmt.mset ≠ 0 then s.adminEnd fn cid stInvalidFormat
    else if 2 < ses then s.adminEnd fn cid stInvalidField
    else if nsid ≠ 0xFFFFFFFF ∧ named.isEmpty then s.adminEnd fn cid stInvalidNs
    else if named.any (fun n => s.formatting n) then s.adminEnd fn cid stFormatting
    else if named.any (fun n => s.lockedWindow n) then s.adminEnd fn cid stWriteProtected
    else if named.isEmpty then s.adminEnd fn cid stOk
    else
      let fs := named.map (fun n => FormatOp.mk n ses 0 false (some (fn, cid)))
      ({ s with hfe := { s.hfe with formats := s.hfe.formats ++ fs } } : State).fenceWake)

/-- A Sanitize asked for (R133, R135, R136): its checks, then the fence. -/
def State.askSanitize (s : State) (f : FnIdx) (cid : Nat) (x : SanitizeOp) : State :=
  let all := ((s.img.running.map (·.namespaces)).getD []).map (·.nsid)
  if !isPf f then s.adminEnd f cid stInvalidOpcode
  else if s.bit Fld.HFE_STATUS.REPLAY_PENDING then s.adminEnd f cid stReplay
  else if all.any (fun n => s.lockedWindow n) then s.adminEnd f cid stWriteProtected
  else ({ s with hfe := { s.hfe with sanitize := some { x with who := some (f, cid) } } } : State).fenceWake

/-- SANITIZE_OVERWRITE (R135): 1 to 16 passes. -/
def execSanitizeOverwrite (fn : FnIdx) (cid pattern passes : Nat) (invert : Bool) (s : State) : Out State :=
  if s.serialBusy then .next s
  else s.admin fn cid false false (fun s =>
    s.askSanitize fn cid { action := 3, pattern := pattern, passes := if passes % 16 = 0 then 16 else passes % 16, invert := invert,
                           marks := [], started := false, who := none })

/-- SANITIZE_CRYPTO_ERASE (R135). -/
def execSanitizeCryptoErase (fn : FnIdx) (cid : Nat) (s : State) : Out State :=
  if s.serialBusy then .next s
  else s.admin fn cid false false (fun s =>
    s.askSanitize fn cid { action := 4, pattern := 0, passes := 0, invert := false, marks := [], started := false, who := none })

/-- SANITIZE with any other action (R135): 001b leaves failure mode, all others are Invalid Field in Command; 011b and 100b have rows of their
own. -/
def execSanitizeOther (fn : FnIdx) (cid sanact : Nat) (s : State) : Out State :=
  if sanact = 3 ∨ sanact = 4 ∨ s.serialBusy = true then .next s
  else s.admin fn cid false false (fun s =>
    if !isPf fn then s.adminEnd fn cid stInvalidOpcode
    else if sanact = 1 then
      ({ s with hfe := { s.hfe with sanStatus := if s.hfe.sanStatus = 3 then 0 else s.hfe.sanStatus } } : State).adminEnd fn cid stOk
    else s.adminEnd fn cid stInvalidField)

/-- The pattern that the last pass of an Overwrite leaves in the data sectors: OVRPAT, inverted on every second pass with OIPBP (R135). -/
def SanitizeOp.lastPattern (x : SanitizeOp) : Nat :=
  if x.invert && decide (x.passes % 2 = 0) then 2 ^ 32 - 1 - x.pattern % 2 ^ 32 else x.pattern % 2 ^ 32

/-- A data sector as a Sanitize leaves it (R135): its tag is empty; Crypto Erase writes no data sector. -/
def MSec.erased (x : MSec) : MSec := { x with tag := emptyTag, bad := false }

/-- A drive's groups in a range sanitized (R135): an Overwrite writes their data sectors, and every tag becomes empty. -/
def Media.erase (y : Media) (x : SanitizeOp) (lo hi : Nat) : Media :=
  let here (e : Nat × MSec) : Bool := decide (lo ≤ groupOf e.1) && decide (groupOf e.1 < hi)
  { y with secs := if x.action = 4 then y.secs.map (fun e => if here e then (e.1, e.2.erased) else e) else y.secs.filter (fun e => !here e) }

/-- The member groups of an array in a range sanitized on every member (R135). -/
def State.eraseGroups (s : State) (r : Arr) (x : SanitizeOp) (lo hi : Nat) : State :=
  r.members.foldl (fun (st : State) (m : Member) =>
    match m.port with
    | none => st
    | some port => st.putMedia port ((st.mediaOf port).erase x lo hi)) s

/-- A Sanitize carried on by 65,536 member groups of each array, and its watermarks saved (R135, R136). -/
def State.sanitizeStep (s : State) (x : SanitizeOp) : State :=
  s.rbe.arrays.foldl (fun (st : State) (a : Nat × Arr) =>
    let lo := (tget x.marks a.1).getD 0
    let hi := min (lo + 65536) (groupsFor a.2.cur.dataSectors)
    let st := st.eraseGroups a.2 x lo hi
    { st with hfe := { st.hfe with sanitize := st.hfe.sanitize.map (fun (y : SanitizeOp) => { y with marks := tput y.marks a.1 hi }) } }) s

/-- FORMAT_WATERMARK_SAVE (R136): 65,536 more groups done, saved in eMRAM; the emptying goes on. While a Sanitize runs the watermarks are
its own. Nothing goes on before vault replay has ended. -/
def execFormatWatermarkSave (nsid : Nat) (s : State) : Out State :=
  if s.bit Fld.HFE_STATUS.REPLAY_PENDING then .next s
  else
    match s.hfe.sanitize with
    | some x => .next (if x.started then s.sanitizeStep x else s)
    | none =>
      if s.hfe.formats.any (fun f => f.nsid = nsid ∧ f.started = true) then
        let fs := s.hfe.formats.map (fun (f : FormatOp) => if f.nsid = nsid then { f with mark := f.mark + 65536 } else f)
        .next (({ s with hfe := { s.hfe with formats := fs } } : State).formatStep nsid)
      else .next s

/-- FORMAT_END (R134, R136): the background emptying is over when every sector of the namespace is empty on the members; until then its next
sectors are placed, once vault replay has ended. -/
def execFormatEnd (nsid : Nat) (s : State) : Out State :=
  if s.bit Fld.HFE_STATUS.REPLAY_PENDING then .next s
  else if s.hfe.formats.any (fun f => f.nsid = nsid ∧ f.started = true) then
    if (s.formatLeft nsid).isEmpty ∧ s.nsClean nsid = true then
      .next { s with hfe := { s.hfe with formats := s.hfe.formats.filter (fun f => f.nsid ≠ nsid) } }
    else .next (s.formatStep nsid)
  else .next s

/-- Every tag of every member rewritten as empty (R135), after an Overwrite with its pattern in every data sector: no data sector of an array
is left that has a meaning, nor a copy of one, nor a lost sector. -/
def State.eraseMembers (s : State) (x : SanitizeOp) : State :=
  let s := s.rbe.arrays.foldl (fun (st : State) (a : Nat × Arr) =>
    let st := st.eraseGroups a.2 x 0 (2 ^ 64)
    let st := if x.action = 3 then a.2.members.foldl (fun (z : State) (m : Member) =>
        match m.port with
        | none => z
        | some port => z.putMedia port { z.mediaOf port with fill := x.lastPattern }) st
      else st
    st.retag a.2 (fun _ => true)) s
  { s with rbe := { s.rbe with lost := [], lostOverflow := false,
                               arrays := s.rbe.arrays.map (fun (a : Nat × Arr) => (a.1, { a.2 with sources := [], displaced := [] })) } }

/-- SANITIZE_END (R135, R136): with an array in the failed state the Sanitize fails; else it ends once nothing is dirty any more and vault replay
is over, with every member empty. -/
def execSanitizeEnd (s : State) : Out State :=
  match s.hfe.sanitize with
  | none => .next s
  | some x =>
    if !x.started || s.bit Fld.HFE_STATUS.REPLAY_PENDING then .next s
    else
      let ended (st : State) (n : Nat) : State := { st with hfe := { st.hfe with sanitize := none, sanStatus := n } }
      if s.rbe.arrays.any (fun a => a.2.stateCode = 4) then .next (ended s 3)
      else if s.wc.updates.isEmpty ∧ s.hasDirty = false then .next (ended (s.eraseMembers x) 1)
      else .next s

end Sys2Proof.Machine
end

