-- ==== Sys2Proof/Machine/Capo.lean ====
section
/-!
DEFINITION. Machine/Capo.lean: the commands and events of the pair and its interlock (R305 to R328).
-/
namespace Sys2Proof.Machine

/-! ### Lines and gate (R310 to R314) -/

/-- CAPO_SEEN_CLASS (R310, R311, R313, R314, R317): another class of CAPO_SEEN is established. A paired gate closes until the new class has
stood for its time. -/
def execCapoSeenClass (c : SeenClass) (s : State) : Out State :=
  if (s.pwr.fast == .inReset) || (s.pwr.fast == .unpowered) || s.seen == seenCode c then .next s
  else
    let s := { (s.setFld Fld.CAPO_STATUS.SEEN (seenCode c)) with capo := { s.capo with seenAt := s.now } }
    if s.paired then .next s.closeGate.seeClass else .next s

/-- READBACK_CHECK (R310, R314): the ball differs from the driven level, so READBACK_FAULT is set; a paired device closes its gate and
drives FAULT. -/
def execReadbackCheck (same : Bool) (s : State) : Out State :=
  if same || (s.pwr.fast == .inReset) || (s.pwr.fast == .unpowered) then .next s
  else
    let s := s.setBit Fld.CAPO_STATUS.READBACK_FAULT true
    if s.paired && !s.islandOff then .next s.lineFault else .next s

/-- Contexts mirrored by the old active taken up as updates to be redone from step 4 (R162, R325 step 5). -/
def State.adoptMirror (s : State) : State :=
  let w := s.wc
  let ups := s.capo.mirrorCtx.map (fun (u : Update) => { u with step := 3, partnerWait := false })
  { s with capo := { s.capo with mirrorCtx := [] },
           wc := { w with updates := w.updates ++ ups, nextUpd := ups.foldl (fun n u => max n (u.id + 1)) w.nextUpd } }

/-- GATE_OPEN (R311, R322, R323): every condition holds and the class has stood for its time. A device that claims becomes ACTIVE: under a
takeover the write fence still runs; else its dump is replayed, or its namespaces come online. -/
def execGateOpen (s : State) : Out State :=
  if s.bit Fld.CAPO_STATUS.GATE_OPEN ∨ s.paired = false ∨ s.islandOff = true ∨ s.gateHolds = false ∨ s.now < s.capo.seenAt + s.confirmTime ∨
      (s.role ≠ 2 ∧ s.role ≠ 3) then .next s
  else
    let claims := decide (s.role = 2)
    let s := (s.setBit Fld.CAPO_STATUS.GATE_OPEN true).resumeLabels
    if !claims then .next s
    else
      let s := s.becomeActive
      if s.capo.takeoverAt.isSome then .next s
      else
        let s := (s.nextEpoch 1).adoptMirror
        if s.bit Fld.HFE_STATUS.REPLAY_PENDING then .next s else .next s.noReplay

/-- CAPO_RENEW (R312, R327): the renew window starts again; a write of a host or of SMBus is ignored. -/
def execCapoRenew (iface : Iface) (s : State) : Out State :=
  if iface = .firmware then .next { s with capo := { s.capo with renewAt := s.now } } else .next s

/-- RENEW_EXPIRY (R312): the gate closes and the line stays RELEASED until the fast domains are reset; not in Rest or Silence. -/
def execRenewExpiry (s : State) : Out State :=
  if s.paired = false ∨ s.islandOff = true ∨ s.capo.request = false ∨ s.pwr.fast ≠ .running then .next s
  else
    let s := s.closeGate
    let s := { s with capo := { s.capo with request := false, released := true, expired := true, fence := false, takeoverAt := none } }
    .next (((s.setBit Fld.CAPO_STATUS.RENEW_EXPIRED true).setRole 1).driveCapo.leaveUpdates.mirrorOff)

/-- CONTENTION_TIMEOUT (R313): a device of rank 0 that still sees ACTIVE withdraws and waits a random time. -/
def execContentionTimeout (s : State) : Out State :=
  if s.paired ∧ s.rank = 0 ∧ s.capo.request = true ∧ s.seen = 1 ∧ s.role ≠ 4 then
    let s := s.withdraw
    .next { s with capo := { s.capo with rounds := s.capo.rounds + 1, backoff := true } }
  else .next s

/-- CONTENTION_BACKOFF_EXPIRY (R313): the device requests again; after 8 unresolved rounds it stops until CLAIM is written. -/
def execContentionBackoffExpiry (s : State) : Out State :=
  if !s.capo.backoff then .next s
  else
    let s := { s with capo := { s.capo with backoff := false } }
    if 8 ≤ s.capo.rounds then
      .next ((s.setFld Fld.CAPO_STATUS.IDLE_REASON 6).emit .contentionUnresolved [s.capo.rounds])
    else .next s.beginClaim

/-! ### CAPO_CMD (R315, R324, R328) -/

/-- CLAIM (R313, R328): a standby requests the claim; one that waits for its partner or its state needs FORCE_CLAIM. From a standby that
sees RELEASED the write fence runs as in a takeover. -/
def execCapoClaim (s : State) : Out State :=
  s.command Fld.CAPO_CMD.CMD.addr (fun s =>
  let idle := s.fld Fld.CAPO_STATUS.IDLE_REASON
  if s.role ≠ 1 ∨ s.mayClaim = false ∨ idle = 2 ∨ idle = 3 ∨ idle = 5 then .next (s.capoIgnored 1)
  else
    let fenced := s.seen == 3 && s.capo.chosen
    let s := { s with capo := { s.capo with rounds := 0, fence := fenced, takeoverAt := if fenced then some s.capo.seenAt else none } }
    .next s.beginClaim)

/-- RELEASE (R315, R328). -/
def execCapoRelease (s : State) : Out State :=
  s.command Fld.CAPO_CMD.CMD.addr (fun s =>
  if s.role = 3 then .next ((s.beginRelease 2).sendHealth)
  else if s.role = 2 then .next (s.closeGate.endRelease)
  else .next (s.capoIgnored 2))

/-- RELEASE_COMPLETE (R315): every write-class member command has ended. -/
def execReleaseComplete (s : State) : Out State := if s.role = 4 ∧ s.writesOut = false then .next s.endRelease else .next s

/-- CLEAR_FAULT (R314): no effect while the line still decodes STUCK or INVALID. -/
def execCapoClearFault (s : State) : Out State :=
  s.command Fld.CAPO_CMD.CMD.addr (fun s =>
  if !s.bit Fld.CAPO_STATUS.LINE_FAULT then .next (s.capoIgnored 3)
  else if 4 ≤ s.seen then .next s
  else
    let s := (s.setBit Fld.CAPO_STATUS.LINE_FAULT false).setBit Fld.CAPO_STATUS.READBACK_FAULT false
    .next (((s.setFld Fld.CAPO_STATUS.IDLE_REASON 0).setRole (if s.capo.chosen then 1 else 0)).driveCapo))

/-- Every namespace reported whole with cause 0x02 (R324). -/
def State.reportAll (s : State) : State :=
  ((s.img.running.map (·.namespaces)).getD []).foldl (fun (st : State) n => st.deferError n.nsid 0x02 0 n.size) s

/-- FORCE_CLAIM (R324, R410): with a token over PAIR_EPOCH, a device that waits for its partner or its state requests the claim. -/
def execCapoForceClaim (iface : Iface) (s : State) : Out State :=
  s.command Fld.CAPO_CMD.CMD.addr (fun s =>
  let idle := s.fld Fld.CAPO_STATUS.IDLE_REASON
  if s.role ≠ 1 ∨ (idle ≠ 2 ∧ idle ≠ 3) ∨ s.mayClaim = false ∨ 2 ^ 32 ≤ s.fld Fld.PAIR_EPOCH + 65536 then .next (s.capoIgnored 4)
  else
    let ok := s.tokenOk 7 (s.fld Fld.PAIR_EPOCH) (s.fld Fld.CAPO_AUTH)
    let s := s.tokenChecked 7 (ifaceOwner iface) ok
    if !ok then .next s
    else
      let s := { s with capo := { s.capo with chosen := true, rounds := 0 } }
      .next ((s.nextEpoch 65536).reportAll.beginClaim))

/-! ### Self-tests of the standby (R321) -/

/-- A cycle of the tests ended: bit b of `failed` says that test b failed. Test 0 is critical only when every slice fails. -/
def State.selftest (s : State) (failed : Nat) : State :=
  let f := failed % 64
  let has (b : Nat) : Bool := decide (f / 2 ^ b % 2 = 1)
  let crit := has 1 || has 2 || has 3 || (has 0 && decide (s.fld Fld.PQE_STATUS.SLICE_ACTIVE = 0))
  let was := s.bit Fld.SELFTEST_STATUS.CRITICAL
  let s := (s.setFld Fld.SELFTEST_STATUS.FAIL f).satFld Fld.SELFTEST_STATUS.CYCLES 1
  let s := { s with capo := { s.capo with passed := 63 - f } }
  let s := s.setBit Fld.SELFTEST_STATUS.CRITICAL crit
  if crit then
    let s := s.setFld Fld.CAPO_STATUS.IDLE_REASON 4
    if was then s else s.emit .selftestCritical [f]
  else if s.fld Fld.CAPO_STATUS.IDLE_REASON = 4 then s.setFld Fld.CAPO_STATUS.IDLE_REASON 0
  else s

/-- SELFTEST_NOW (R321, R328): on a standby. -/
def execSelftestNow (failed : Nat) (s : State) : Out State :=
  s.command Fld.CAPO_CMD.CMD.addr (fun s =>
  if s.role = 1 then .next (s.selftest failed) else .next (s.capoIgnored 5))

/-- SELFTEST_CYCLE (R321): with SELFTEST_EN set, on a standby. -/
def execSelftestCycle (failed : Nat) (s : State) : Out State :=
  if s.role = 1 ∧ s.thresholds.flags / 2 % 2 = 1 then .next (s.selftest failed) else .next s

/-! ### Health words (R316, R317) -/

/-- HEALTH_WORD_SEND (R316). -/
def execHealthWordSend (s : State) : Out State := if s.paired && !s.islandOff then .next s.sendHealth else .next s

/-- What a standby takes from a word of the active (R320, R322): MIRROR_ON and STATE_COMPLETE follow MIRROR_IN_SYNC, and PAIR_EPOCH the
active's while they are in sync. -/
def State.followActive (s : State) (h : Health) : State :=
  let sync := decide (h.flags % 2 = 1)
  let s := (s.setBit Fld.PAIR_STATUS.MIRROR_ON sync).setBit Fld.PAIR_STATUS.STATE_COMPLETE sync
  if sync then s.setFld Fld.PAIR_EPOCH h.epoch else s

/-- What the active takes from a word of the standby (R148, R320): its limit, and that it is there to be synchronised. -/
def State.meetStandby (s : State) (h : Health) : State :=
  let s := ({ s with wc := { s.wc with partnerLimit := some h.limitMib } } : State).recomputeLimit
  if !s.mirrored && s.bit Fld.PAIR_STATUS.PARTNER_MATCH then s.setBit Fld.PAIR_STATUS.SYNCING true else s

/-- HEALTH_WORD_RECEIVE (R316, R317). -/
def execHealthWordReceive (h : Health) (s : State) : Out State :=
  if s.paired = false ∨ s.islandOff = true then .next s
  else
    let s := { s with capo := { s.capo with partner := some h, partnerAt := s.now } }
    let s := s.setFld Fld.PARTNER_HEALTH (ofBytes (healthBytes h))
    if h.role = 2 then
      if s.role = 3 then .next (((s.emit .dualActive [h.epoch]).beginRelease 0).sendHealth)
      else if s.role = 1 ∧ s.seen = 3 then .next s.lineFault
      else if s.role = 1 then .next (s.followActive h)
      else .next s
    else if s.role = 3 ∧ h.role = 1 then .next (s.meetStandby h)
    else .next s

/-! ### The mirror (R318 to R320) -/

/-- MIRROR_ITEM_RECEIVE (R168, R318, R319): a standby checks the item and places it; the first one says that the active has replayed. -/
def execMirrorItemReceive (item : MirrorItem) (s : State) : Out State :=
  if s.role = 1 then .next ((({ s with capo := { s.capo with mirrorAt := s.now } } : State).retireWaiting).mirrorIn item) else .next s

/-- MIRROR_DIGEST_CHECK (R319): every differing entry counts and is recorded; a standby takes the active's copy. -/
def execMirrorDigestCheck (differ : List MirrorItem) (s : State) : Out State :=
  if s.role = 1 ∨ (s.role = 3 ∧ s.mirrored = true) then
    .next (differ.foldl (fun (st : State) i =>
      let st := if st.role = 1 then st.mirrorIn i else st
      (st.incFld Fld.MIRROR_MISMATCH 1).emit .mirrorMismatch []) s)
  else .next s

/-- MIRROR_SYNC_COMPLETE (R320, R322): the standby holds everything, so writes are mirrored from now on. -/
def execMirrorSyncComplete (s : State) : Out State :=
  if s.role = 3 ∧ s.bit Fld.PAIR_STATUS.SYNCING = true then
    let s := (s.setBit Fld.PAIR_STATUS.SYNCING false).setBit Fld.PAIR_STATUS.MIRROR_ON true
    let s := (s.setBit Fld.WC_STATUS.MIRROR_ON true).setBit Fld.WC_STATUS.MIRROR_LOST false
    let s := (s.incFld Fld.MIRROR_BYTES s.vaulted).nextEpoch 1
    .next ({ s with wc := { s.wc with partnerLimit := s.capo.partner.map (·.limitMib) } } : State).recomputeLimit
  else .next s

/-- STANDBY_MIRROR_SILENCE (R320). -/
def execStandbyMirrorSilence (s : State) : Out State :=
  if s.role = 1 ∧ s.seen = 1 then
    .next ((s.setBit Fld.PAIR_STATUS.STATE_COMPLETE false).setBit Fld.PAIR_STATUS.MIRROR_ON false)
  else .next s

/-! ### Start-up roles and takeover (R323, R325) -/

/-- Whether the role is still to be chosen: starting, or waiting for the partner (R323). -/
def State.choosing (s : State) : Bool :=
  s.paired && !s.islandOff && !s.capo.chosen && (s.role == 0 || s.role == 1)

/-- PAIR_ROLE_CHOICE (R323): rule 1 while CAPO_SEEN decodes ACTIVE; rule 2 once the partner is there. -/
def execPairRoleChoice (partner : Option Partner) (s : State) : Out State :=
  let s := match partner with
    | some p => if s.paired && !s.islandOff then
        (s.setFld Fld.PAIR_STATUS.LINK_UP s.thresholds.pairLinkPorts).setBit Fld.PAIR_STATUS.PARTNER_MATCH (s.matchPartner p)
      else s
    | none => s
  if !s.choosing then .next s
  else
    match partner with
    | none => if s.seen = 1 then .next s.becomeStandby else .next s
    | some p =>
      if !s.matchPartner p then
        .next (((s.setRole 1).setFld Fld.CAPO_STATUS.IDLE_REASON 5).driveCapo.emit .partnerMismatch [p.device])
      else if s.seen = 1 then .next s.becomeStandby
      else if s.outranks p then .next ({ s with capo := { s.capo with chosen := true } } : State).beginClaim
      else .next s.standbyOfClaimer

/-- STARTUP_WAIT_EXPIRY (R323 rule 3): alone with the complete state the device claims; else it stays standby. -/
def execStartupWaitExpiry (s : State) : Out State :=
  if !s.choosing || s.role != 0 then .next s
  else if s.seen = 1 then .next s.becomeStandby
  else
    let complete := s.bit Fld.PAIR_STATUS.STATE_COMPLETE
    if complete && (s.seen == 2 || s.seen == 3) then .next ({ s with capo := { s.capo with chosen := true } } : State).beginClaim
    else .next (((s.setRole 1).setFld Fld.CAPO_STATUS.IDLE_REASON (if complete then 2 else 3)).driveCapo)

/-- TAKEOVER (R325 steps 1 and 2): the standby sees RELEASED with the active lost, and claims. -/
def execTakeover (s : State) : Out State :=
  let gone := match s.capo.partner with
    | none => true
    | some h => decide (s.capo.partnerAt + 30 * ms < s.now) || decide (h.role = 3)
  let down := decide (s.fld Fld.PAIR_STATUS.LINK_UP = 0)
  if s.role = 1 ∧ s.capo.chosen = true ∧ s.thresholds.flags % 2 = 1 ∧ s.bit Fld.PAIR_STATUS.STATE_COMPLETE = true ∧ s.seen = 3 ∧
      (gone = true ∨ down = true) ∧ s.mayClaim = true then
    .next ({ s with capo := { s.capo with takeoverAt := some s.capo.seenAt, fence := true } } : State).beginClaim
  else .next s

/-- WRITE_FENCE_END (R325 steps 4 to 6): the first member write may go; mirrored contexts are redone, set fret bits are scanned, namespaces
are online. -/
def execWriteFenceEnd (s : State) : Out State :=
  match s.capo.takeoverAt with
  | none => .next s
  | some t =>
    if s.role ≠ 3 ∨ s.bit Fld.CAPO_STATUS.GATE_OPEN = false then .next s
    else
      let s := { s with capo := { s.capo with fence := false, takeoverAt := none } }
      let s := (s.adoptMirror.nextEpoch 1).satFld Fld.TAKEOVER_COUNT 1
      .next ((s.setFld Fld.LAST_TAKEOVER_US (min ((s.now - t) / 1000) 0xFFFFFFFF)).online)

end Sys2Proof.Machine
end

