-- ==== Sys2Proof/Machine/Cipher.lean ====
section
/-!
DEFINITION. Machine/Cipher.lean: the commands of the cipher engine, the key unit, the TRNG and the tamper monitors (R262 to
R284).
-/
namespace Sys2Proof.Machine

/-- SET_OWNER (R269): refused while a data slot is READY or EXHAUSTED; otherwise the KEK is derived from the owner secret,
DEVICE_ID and OWNER_GEN, and the window is overwritten with zeros. -/
def execKeySetOwner (s : State) : Out State :=
  if s.bit Fld.CIP_KEY_STATUS.BUSY then .next s
  else if !s.cip.keys.isEmpty then .next (s.keyDone 12)
  else
    let gen := s.window 0x20 4
    let ctx := s.window 0 32 + 2 ^ 256 * (s.fld Fld.SYS_DEVICE_ID + 2 ^ 128 * gen)
    let s := { s with cip := { s.cip with kek := some (Config.kdf 1 ctx).toNat, ownerGen := gen } }
    .next (((s.setFld Fld.CIP_KEY_WINDOW 0).setBit Fld.CIP_STATUS.OWNER_SET true).keyDone 0)

/-- LOAD_BLOB (R272): the checks in order; a slot that holds the same reference stands, one that holds another is error 2;
otherwise the slot becomes READY. `plain` is what the wrapped payload unwraps to. -/
def execKeyLoadBlob (plain : BlobPlain) (s : State) : Out State :=
  if s.bit Fld.CIP_KEY_STATUS.BUSY then .next s
  else
    let nsid := s.window 8 8 % 65536
    let err := s.blobError plain
    let s := s.setFld Fld.CIP_KEY_STATUS.SLOT (if nsid = 0 ∨ 1024 < nsid then 0xFFF else nsid - 1)
    if err ≠ 0 then .next (s.keyDone err)
    else
      match tget s.cip.keys nsid with
      | some k => .next (s.keyDone (if k.ref = plain.ref then 0 else 2))
      | none => .next ((s.loadKey nsid plain.ref plain.key).keyDone 0)

/-- UNLOAD (R284): the selected slot zeroized, its reference kept live; an EMPTY slot changes nothing. -/
def execKeyUnload (s : State) : Out State :=
  if s.bit Fld.CIP_KEY_STATUS.BUSY then .next s
  else
    let slot := s.fld Fld.CIP_KEY_SEL.SLOT
    let s := s.setFld Fld.CIP_KEY_STATUS.SLOT slot
    .next (((s.dropKeys (fun n => decide (n = slot + 1))).showContexts).keyDone 0)

/-- ZEROIZE_ALL (R284). -/
def execKeyZeroizeAll (s : State) : Out State :=
  if s.bit Fld.CIP_KEY_STATUS.BUSY then .next s else .next (s.zeroize.keyDone 0)

/-- TRNG_RESTART (R278, R279): the start-up test runs again; until it passes nothing leaves the TRNG. -/
def execTrngRestart (s : State) : Out State :=
  if s.bit Fld.CIP_KEY_STATUS.BUSY then .next s
  else .next (((s.setBit Fld.CIP_TRNG_STATUS.STARTUP true).setPool 0).keyDone 0)

/-- TAMPER_RELEASE (R282): over SMBus, in Tamper Hold, while no source is active, with a token of operation 6 over LATCHED;
the hold ends and the fast-domain boot may start. `active` is what the sources read now. -/
def execTamperRelease (iface : Iface) (active : Nat) (s : State) : Out State :=
  if s.bit Fld.CIP_KEY_STATUS.BUSY then .next s
  else
    let s := s.setFld Fld.CIP_TAMPER_STATUS.ACTIVE active
    if !s.tamperHold then .next (s.keyDone 2)
    else if iface ≠ .smbus ∨ s.fld Fld.CIP_TAMPER_STATUS.ACTIVE ≠ 0 then .next (s.keyDone 13)
    else
      let ok := s.tokenOk 6 (s.fld Fld.CIP_TAMPER_STATUS.LATCHED) (s.fld Fld.CIP_AUTH)
      let s := s.tokenChecked 6 (ifaceOwner iface) ok
      if ok then .next ((s.setBit Fld.CIP_STATUS.TAMPER_HOLD false).keyDone 0) else .next (s.keyDone 13)

/-- TAMPER_CFG_LOCK (R284): CIP_TAMPER_CFG written with LOCK 1. -/
def execTamperCfgLock (value : Nat) (s : State) : Out State := .next (s.tamperCfg (value % 2 ^ 31 + 2 ^ 31))

/-- CIPHER_MESSAGE_START (R265, R266): on a free pipeline the next message starts or resumes; with none free, a class-0
message suspends another while a context slot is free. -/
def execCipherMessageStart (pick : Cls) (remaining : List Nat) (s : State) : Out State :=
  match s.nextMessage pick with
  | none => .next s
  | some (m, resumed) =>
    match (List.range 16).find? (fun i => (tget s.cip.pipes i).isNone) with
    | some i =>
      let g := wrrGive s.classWeights s.cip.grants (s.cip.waiting.map (·.cls)) m.cls
      let s := if resumed then { s with cip := { s.cip with suspended := s.cip.suspended.erase m } } else { s with cip := { s.cip with grants := g } }
      let s := if resumed then { s with cip := { s.cip with pipes := tput s.cip.pipes i m } } else s.putPipe i m
      .next s.showContexts
    | none =>
      match (if m.cls = 0 ∧ s.cip.suspended.length < 256 then s.suspendVictim remaining else none) with
      | none => .next s
      | some (i, v) =>
        let s := { s with cip := { s.cip with suspended := s.cip.suspended ++ [v] } }
        .next (((s.putPipe i m).incFld Fld.CIP_SUSPEND_COUNT 1).showContexts)

/-- A decryption message that ended (R267, R268): a sector whose tag passes is released and a member's is kept as a read
fill (R149); a failed one is counted, and a member's copy is solved instead. -/
def State.decrypted (s : State) (key : Nat) (m : CMsg) : State :=
  let s := s.incFld Fld.CIP_DEC_SECTORS 1
  if gcmTagOf key m.ctx m.ctr m.nsid m.lba m.text = m.gcm then
    let s := s.setRead m.tag m.index (.data (gcmXor key m.ctx m.ctr m.text))
    let s := if m.src == .cache then s else s.fillClean m.nsid m.lba (.data m.text m.ctx m.ctr m.gcm)
    let s := match m.src, s.spotAt m.order m.nsid m.lba with
      | .resolved, some (a, l) =>
        match s.arr a with
        | none => s
        | some r =>
          let pl := r.place l
          match r.geom pl.previous with
          | none => s
          | some g =>
            match r.readPos g pl.stripe pl.unit with
            | none => s
            | some p =>
              if s.gateOpen then
                let us := (s.readRow r g pl.stripe pl.row).map SecRead.val?
                let gen := repairGen g.k pl.unit (us.set pl.unit none)
                ((s.writeSec r g pl.stripe pl.unit pl.row p (packFull m.text m.ctx m.ctr m.gcm) gen false false).incFld
                  (Fld.ARR_REPAIR_COUNT.at a.val) 1).mediaErr a p.member
              else s
      | _, _ => s
    s.readFinish m.tag
  else
    let s := s.incFld Fld.CIP_AUTH_FAIL_COUNT 1
    match m.src, s.cmd m.tag, s.spotAt m.order m.nsid m.lba with
    | .member, some c, some (a, l) =>
      match s.arr a with
      | none => (s.setRead m.tag m.index .auth).readFinish m.tag
      | some r =>
        let pl := r.place l
        match r.geom pl.previous with
        | none => (s.setRead m.tag m.index .auth).readFinish m.tag
        | some g =>
          let lost := 2 < (pl.unit :: s.badFor c a r g pl).eraseDups.length
          let t := s.solveSector c m.index m.lba a r g pl .resolved
          if (s.readsOut c a pl.previous pl.stripe).any (fun d => d.unit != pl.unit) then
            (s.stampCmd (.host m.tag) (fun x => { x with outside := true })).setRead m.tag m.index .otherSolve
          else if lost then (s.setRead m.tag m.index .auth).readFinish m.tag
          else if ((t.cmd m.tag).bind (fun x => tget x.read m.index)) = some .lost then
            (t.setRead m.tag m.index .auth).readFinish m.tag
          else t.readFinish m.tag
    | .solved, some c, some (a, l) =>
      let pl := (((s.arr a).map (fun r => r.place l))).getD ⟨false, 0, 0, 0⟩
      if (s.readsOut c a pl.previous pl.stripe).any (fun d => d.unit == pl.unit && d.late) then
        (s.stampCmd (.host m.tag) (fun x => { x with outside := true })).setRead m.tag m.index .otherOriginal
      else (s.setRead m.tag m.index .auth).readFinish m.tag
    | _, _, _ => (s.setRead m.tag m.index .auth).readFinish m.tag

/-- CIPHER_MESSAGE_DONE (R263, R267): an encrypted sector is placed in the write cache; a decrypted one is compared. -/
def execCipherMessageDone (pipe : Fin 16) (s : State) : Out State :=
  match tget s.cip.pipes pipe.val with
  | none => .next s
  | some m =>
    let s := { s with cip := { s.cip with pipes := tdel s.cip.pipes pipe.val } }
    match tget s.cip.keys m.nsid with
    | none => .next s
    | some k =>
      if m.enc then
        let through := ((s.cmd m.tag).map (·.through)).getD false
        let s := s.incFld Fld.CIP_ENC_SECTORS 1
        .next (s.place m.nsid m.lba (sealSector k.key m) m.cls through (some m.tag)).noteLimit
      else .next (s.decrypted k.key m)

/-- NONCE_MARK_ACK (R275): the new mark stands, once the partner has acknowledged it too while mirrored; Writes that waited
for it go on in fetch order. -/
def execNonceMarkAck (nsid : Nat) (s : State) : Out State :=
  match tget s.cip.markDue nsid with
  | none => .next s
  | some m =>
    let waits := s.capo.unacked.any (fun i => match i with
      | .nonceMark n v => n == nsid && v == m
      | _ => false)
    if s.mirrored && waits then .next s
    else
      let s := { s with cip := { s.cip with
        markOld := tput s.cip.markOld nsid (s.mark nsid), marks := tput s.cip.marks nsid m,
        markDue := tdel s.cip.markDue nsid } }
      let ws := sortOn HostCmd.order (s.hfe.cmds.filter (fun c => c.phase == .markWait && c.nsid == nsid))
      .next (ws.foldl (fun (st : State) c => st.encrypt c.tag) s)

/-- TRNG_STARTUP_DONE (R278, R279): a passing start-up test lets blocks out and ends the failed state; one that fails is not
over, and nothing leaves the TRNG. -/
def execTrngStartupDone (ok : Bool) (s : State) : Out State :=
  if s.bit Fld.CIP_TRNG_STATUS.STARTUP ∧ ok = true then
    let s := (s.setBit Fld.CIP_TRNG_STATUS.STARTUP false).setBit Fld.CIP_TRNG_STATUS.FAILED false
    .next ((s.setBit Fld.CIP_STATUS.TRNG_FAILED false).setPool (s.fld Fld.CIP_TRNG_STATUS.POOL))
  else .next s

/-- TRNG_BLOCK_READY (R278): a conditioned block joins the pool of at most 64; the Write that has waited longest takes it. -/
def execTrngBlockReady (s : State) : Out State :=
  if s.bit Fld.CIP_TRNG_STATUS.STARTUP ∨ s.bit Fld.CIP_TRNG_STATUS.FAILED then .next s
  else
    let s := s.setPool (min 64 (s.pool + 1))
    match s.cip.entropy with
    | [] => .next s
    | tag :: r => .next (({ s with cip := { s.cip with entropy := r } } : State).encrypt tag)

/-- TRNG_HEALTH_FAIL (R279): counted and recorded; the blocks conditioned from the failing window, two at most, are
discarded; the third failure within 1 s is the failed state, and every waiting Write ends with Entropy Not Ready. -/
def execTrngHealthFail (apt : Bool) (s : State) : Out State :=
  let s := if apt then s.satFld Fld.CIP_TRNG_APT_FAIL 1 else s.satFld Fld.CIP_TRNG_RCT_FAIL 1
  let s := (s.setPool (s.pool - 2)).emit .trngHealth [if apt then 1 else 0]
  let times := s.cip.trngFails.filter (fun t => s.now < t + sec) ++ [s.now]
  let s := { s with cip := { s.cip with trngFails := times } }
  if times.length < 3 ∨ s.bit Fld.CIP_TRNG_STATUS.FAILED then .next s
  else
    let s := (s.setBit Fld.CIP_TRNG_STATUS.FAILED true).setBit Fld.CIP_STATUS.TRNG_FAILED true
    let s := (s.setPool 0).emit .trngFailed []
    .next (s.cip.entropy.foldl (fun (st : State) t => st.entropyFail t) s)

/-- ENTROPY_TIMEOUT (R278). -/
def execEntropyTimeout (tag : Nat) (s : State) : Out State := .next (s.entropyFail tag)

/-- TAMPER_TRIP (R280, R281): a source trips, an external one only while it is enabled. Off: latched for the next start.
During start-up: Tamper Hold. In Full or Trim, and in Rest or Silence, keys are zeroized. `active` is what the sources
read. -/
def execTamperTrip (src : Fin 8) (active : Nat) (s : State) : Out State :=
  if src.val < 4 ∧ s.fld Fld.CIP_TAMPER_CFG.EXT_EN / 2 ^ src.val % 2 = 0 then .next s
  else
    let l := s.fld Fld.CIP_TAMPER_STATUS.LATCHED
    let s := s.setFld Fld.CIP_TAMPER_STATUS.LATCHED (if l / 2 ^ src.val % 2 = 1 then l else l + 2 ^ src.val)
    let s := s.setFld Fld.CIP_TAMPER_STATUS.ACTIVE active
    if s.pwr.fast == .unpowered then
      .next (({ s with cip := { s.cip with offTrip := true } } : State).setBit Fld.CIP_TAMPER_STATUS.IN_OFF true)
    else
      let s := s.emit .tamper [s.fld Fld.CIP_TAMPER_STATUS.LATCHED, s.fld Fld.PWR_STATE.STATE]
      if s.startingUp then .next s.enterTamperHold else .next s.zeroize

end Sys2Proof.Machine
end

