-- ==== Sys2Proof/Machine/Dma.lean ====
section
/-!
DEFINITION. Machine/Dma.lean: the commands of the DMA engine (R243 to R261).
-/
namespace Sys2Proof.Machine

/-- DMA_START (R251): CH_CMD.START written; ignored on a firmware-owned channel from elsewhere (R243). -/
def execDmaStart (iface : Iface) (ch : ChId) (s : State) : Out State :=
  s.command (Fld.CH_CMD.START.at ch.val).addr (fun s =>
  if dmaOwnedByFw iface ch.val 64 then .next (s.busError iface 3 (Fld.CH_CMD.START.at ch.val).addr)
  else .next (s.dmaTrigger ch.val true))

/-- DMA_TIMER (R251): a trigger event of a channel with TRIG 1 and a period; timers pause in Rest (R259). -/
def execDmaTimer (ch : ChId) (s : State) : Out State :=
  if s.pwr.fast = .running ∧ s.fld (Fld.CH_CTRL.TRIG.at ch.val) = 1 ∧ s.fld (Fld.CH_TIMER.PERIOD_US.at ch.val) ≠ 0 then
    .next (s.dmaTrigger ch.val false)
  else .next s

/-- DMA_DESC_FETCH (R248, R256, R257): a descriptor outside the channel's windows halts it; DONE or BAD set already stalls
it; a format error or a range outside the windows marks it BAD; otherwise it runs. `bytes` is host memory's answer. -/
def execDmaDescFetch (ch : ChId) (bytes : List Nat) (s : State) : Out State :=
  match tget s.dma.runs ch.val with
  | none => .next s
  | some r =>
    if r.phase ≠ .fetch then .next s
    else
      let sp := s.fld (Fld.CH_CTRL.DESC_SPACE.at ch.val)
      if !s.winAllows ch.val sp r.addr (r.addr + 64) true true then .next (s.dmaHalted ch.val 2)
      else
        let bs := if sp = 0 then (List.range 64).map (fun i => s.hbmByte (r.addr + i)) else bytes
        let d := descOf bs
        let r := { r with desc := d }
        if d.status % 4 ≠ 0 then
          let s := s.withDma { s.dma with runs := tdel s.dma.runs ch.val }
          .next ((s.setChState ch.val 3).dmaErrIrq ch.val)
        else if !d.formatOk then .next (s.dmaBad ch.val r 1 0)
        else if !s.windowsOk ch.val d then .next (s.dmaBad ch.val r 2 0)
        else .next (s.withDma { s.dma with runs := tput s.dma.runs ch.val { r with phase := .move } })

/-- The channel that round robin serves next: the first from `nextCh` on that moves bytes (R245). -/
def State.dmaTurn (s : State) : Option Nat :=
  let ms := (s.dma.runs.filter (fun r => r.2.phase == .move)).map (·.1)
  ((ms.filter (fun n => s.dma.nextCh ≤ n)) ++ ms).head?

/-- DMA_GRANT (R245, R249, R250): up to 4 KiB of source bytes through the holding register of the channel whose turn it
is; the bytes of a host source are the operand's. After the last byte the read-back begins (R254). -/
def execDmaGrant (ch : ChId) (src : List Nat) (s : State) : Out State :=
  match tget s.dma.runs ch.val with
  | none => .next s
  | some r =>
    if r.phase ≠ .move ∨ s.dmaTurn ≠ some ch.val then .next s
    else
      let d := r.desc
      let n := min 4096 (d.len - r.got)
      let bs := (List.range n).map (fun i =>
        if d.space false = 0 then s.hbmByte (d.byteAddr false (r.got + i)) else (src[i]?).getD 0 % 256)
      let held := r.hold ++ bs
      let w := d.width true
      let out := held.length / w * w
      let s := (List.range out).foldl (fun (st : State) i =>
        st.dmaStore (d.space true) (d.byteAddr true (r.put + i)) [(held[i]?).getD 0]) s
      let put := r.put + out
      let r := { r with got := r.got + n, put := put, hold := held.drop out,
                        phase := if put = d.len then DmaPhase.readBack else DmaPhase.move }
      let s := s.withDma { s.dma with runs := tput s.dma.runs ch.val r, nextCh := (ch.val + 1) % 256 }
      let s := if d.space true = 0 then s.setFld (Fld.CH_BYTES.at ch.val) put else s
      .next (s.incFld Fld.DMA_BYTES out)

/-- DMA_READ_BACK (R254): the last unit came back, and the descriptor is DONE; or it failed, and it is BAD with CODE 5 and a
BYTES_DONE that the spec does not state (assumption 4). -/
def execDmaReadBack (ch : ChId) (ok : Bool) (s : State) : Out State :=
  match tget s.dma.runs ch.val with
  | none => .next s
  | some r =>
    if r.phase ≠ .readBack then .next s
    else if ok then .next (s.dmaDone ch.val r) else .next (s.used.dmaBad ch.val r 5 (s.free 32).toNat)

/-- DMA_BUS_ERROR (R255): BAD with CODE 3 or 4; `confirmed` bytes had been confirmed, and what was written past them is old
or new. -/
def execDmaBusError (ch : ChId) (dest : Bool) (confirmed : Nat) (s : State) : Out State :=
  match tget s.dma.runs ch.val with
  | none => .next s
  | some r =>
    if r.phase ≠ .move then .next s
    else
      let w := r.desc.width true
      let c := min confirmed r.put / w * w
      .next ((s.dmaLoose r.desc c r.put).dmaBad ch.val r (if dest then 4 else 3) c)

/-- DMA_HALT (R256): a bus error on a descriptor's fetch (code 1), an address outside the windows (code 2), a bus error on
its status write (code 3). -/
def execDmaHalt (ch : ChId) (code : Nat) (s : State) : Out State :=
  match tget s.dma.runs ch.val with
  | none => .next s
  | some r =>
    let sp := s.fld (Fld.CH_CTRL.DESC_SPACE.at ch.val)
    if (code = 1 ∧ r.phase = .fetch) ∨
        (code = 2 ∧ r.phase = .fetch ∧ s.winAllows ch.val sp r.addr (r.addr + 64) true true = false) ∨
        (code = 3 ∧ r.phase = .readBack) then .next (s.dmaHalted ch.val code)
    else .next s

/-- DMA_DISABLE (R258). -/
def execDmaDisable (iface : Iface) (ch : ChId) (s : State) : Out State :=
  if dmaOwnedByFw iface ch.val 64 then .next (s.busError iface 3 (Fld.CH_CTRL.EN.at ch.val).addr)
  else .next (s.dmaDrop ch.val)

/-- DMA_WIN_ENABLE (R257): WIN_CTRL written. -/
def execDmaWinEnable (iface : Iface) (win : WinId) (ctrl : Nat) (s : State) : Out State :=
  if dmaOwnedByFw iface win.val 8 then .next (s.busError iface 3 (Fld.WIN_CTRL.EN.at win.val).addr)
  else .next (s.winCtrl win.val ctrl)

end Sys2Proof.Machine
end

