-- ==== Sys2Proof/Machine/Errors.lean ====
section
/-!
DEFINITION. Machine/Errors.lean: the error stack, its handlers, fatal errors and the restart after them (R443 to R453).
-/
namespace Sys2Proof.Machine

/-- The kind of a recoverable error, which stands for its CODE (R446, R448). -/
def recCode (e : RecErr) : Nat :=
  match e with
  | .cleanLine => 0
  | .dirtySector .. => 1
  | .mergeBuffer => 2
  | .emramLate => 3
  | .linkReplay => 4
  | .pqSlice _ => 5

/-- An entry put on the stack while it has room (R445, R448). -/
def State.pushErr (s : State) (e : RecErr) (source : Nat) (fatal : Option Nat) : State :=
  let l := s.err.stack
  if 4 ≤ l.length then s
  else
    let x : StackEntry :=
      { err := e, source := source, fatal := fatal, nested := !l.isEmpty, pegbox := recCode e == 3, repeats := 0, time := s.pitch,
        eventSeq := s.fld Fld.EVR_NEXT_SEQ + s.evr.arrivals.length, depth := l.length + 1, step := 0, tag := none, info := [] }
    ({ s with err := { s.err with stack := l ++ [x] } } : State).maxFld Fld.ERR_DEPTH_MAX.DEPTH (l.length + 1)

/-- RECOVERABLE_ERROR (R445, R446): merged into the entry of its code and source, pushed, or fatal with cause 1 when the stack is full. -/
def execRecoverableError (e : RecErr) (source : Nat) (s : State) : Out State :=
  let same (x : StackEntry) : Bool := recCode x.err == recCode e && x.source == source && x.fatal.isNone
  if s.err.stack.any same then
    .next { s with err := { s.err with stack := s.err.stack.map (fun x =>
      if same x then { x with repeats := min (x.repeats + 1) 0xFFFFFFFF } else x) } }
  else
    let full : Bool := decide (4 ≤ s.err.stack.length)
    let s := (s.pushErr e source none).emit .recoverableError [recCode e, source]
    .next (if full then s.raiseFatal 1 else s)

/-- A dirty sector lost in device memory (R447): used from the standby's copy while writes are mirrored, else dropped and reported with
cause 0x03. -/
def State.loseDirty (s : State) (nsid lba : Nat) : State :=
  match s.line nsid lba with
  | none => s
  | some l =>
    if !l.isDirty || s.mirrored then s
    else ((s.withLines (tdel s.wc.lines (nsKey nsid lba))).deferError nsid 0x03 lba 1).noteLimit.destageWake

/-- What a handler leaves when it ends (R447). `ok`: the source of a merging-buffer error is still there, or the eMRAM write was
acknowledged after all. -/
def State.handled (s : State) (x : StackEntry) (ok : Bool) : State :=
  match x.err with
  | .cleanLine => s
  | .linkReplay => s
  | .dirtySector nsid lba => s.loseDirty nsid lba
  | .mergeBuffer =>
    match ok, s.cmd x.source with
    | false, some c => if c.phase == .collected || c.phase == .placed then s else s.collect c stInternal []
    | _, _ => s
  | .emramLate => if ok then s else s.raiseFatal 6
  | .pqSlice i =>
    let f := s.fld Fld.PQE_STATUS.SLICE_FAILED
    let a := s.fld Fld.PQE_STATUS.SLICE_ACTIVE
    let s := if a / 2 ^ i % 2 = 1 then s.setFld Fld.PQE_STATUS.SLICE_ACTIVE (a - 2 ^ i) else s
    let f' := if f / 2 ^ i % 2 = 1 then f else f + 2 ^ i
    let s := s.setFld Fld.PQE_STATUS.SLICE_FAILED f'
    if f' = 0xF ∧ f ≠ 0xF then s.raiseFatal 3 else s

/-- HANDLER_END (R445, R447): the newest handler ends, its entry goes, and the handler below resumes. A fourth failed eMRAM write is fatal,
and its entry stays. -/
def execHandlerEnd (index : Nat) (ok : Bool) (s : State) : Out State :=
  match s.err.stack[index]? with
  | none => .next s
  | some x =>
    if index + 1 ≠ s.err.stack.length ∨ s.err.active.isSome = true then .next s
    else if recCode x.err = 3 ∧ ok = false then .next (s.handled x ok)
    else
      let s := { s with err := { s.err with stack := s.err.stack.dropLast } }
      .next ((s.incFld Fld.ERR_RECOVERED 1).handled x ok)

/-- HANDLER_TIMEOUT (R446): an entry whose handler has not ended 100 ms after the push is fatal, cause 2. -/
def execHandlerTimeout (index : Nat) (s : State) : Out State :=
  if index < s.err.stack.length then .next (s.raiseFatal 2) else .next s

/-- Steps 1 to 3 of R450: fetch stops, the gate closes, a paired device says so and drives RELEASED, CSTS.CFS is set, DMA channels are
disabled. -/
def State.fatalStop (s : State) : State :=
  let s := (s.hold .fatal).closeGate
  let s := if s.paired then
      let s := (({ s with capo := { s.capo with releaseCause := 3 } } : State).setRole 4).sendHealth
      ({ s with capo := { s.capo with request := false, released := true, backoff := false } } : State).driveCapo
    else s
  let h := s.hfe
  let s := { s with hfe := { h with fns := h.fns.map (fun (f : Nat × FnSt) => (f.1, { f.2 with cfs := true })) } }
  s.dmaDropAll

/-- FATAL_ERROR (R446, R449, R450): counted and recorded; steps 1 to 4 at once, then the dump of step 5, or step 6 where there is none: V
is 0, AC_FAIL_N is asserted, or the die-to-die link is lost (cause 8). A dump that AC_FAIL_N started goes on. A second one during these
steps is recorded in the soundpost and does not restart them. -/
def execFatalError (cause : Nat) (s : State) : Out State :=
  if cause = 0 ∨ 8 < cause then .next s
  else
    let s := { s with err := { s.err with raised := s.err.raised.erase cause, times := s.err.times ++ [s.now] } }
    let s := ((s.satFld Fld.ERR_FATAL_COUNT 1).setFld Fld.ERR_STATUS.LAST_CAUSE cause).emit .fatalError [cause]
    if s.err.active.isSome then .next { s with evr := s.evr.addFatal (s.fld Fld.SP_LAST_SEQ) cause }
    else
      let s := { s with err := { s.err with active := some cause } }
      let s := s.fatalStop.writeSoundpost 1
      if cause = 8 then .next (s.abandonDump.afterDump .fatal none)
      else if s.wc.dumpArea.isSome then .next { s with wc := { s.wc with dumpWhy := some .fatal } }
      else if s.acFail ∨ s.dumpNeeded = false then .next (s.afterDump .fatal none)
      else .next (s.dumpFor .fatal)

/-- FATAL_RESTART (R451): 1 s after step 6 the fast domains boot again. -/
def execFatalRestart (s : State) : Out State :=
  if s.err.active.isSome ∧ s.pwr.fast = .inReset then
    let s := { s with err := { s.err with active := none } }
    if s.canBoot then .next s.startBoot else .next s
  else .next s

/-- ERR_RESTART (R451, R453): ERR_CMD RESTART ends FATAL_HOLD, and the fast domains boot. -/
def execErrRestart (s : State) : Out State :=
  s.command Fld.ERR_CMD.CMD.addr (fun s =>
  if s.bit Fld.ERR_STATUS.FATAL_HOLD then
    let s := s.setBit Fld.ERR_STATUS.FATAL_HOLD false
    if s.canBoot then .next s.startBoot else .next s
  else .next s)

end Sys2Proof.Machine
end

