-- ==== Sys2Proof/Machine/EventLog.lean ====
section
/-!
DEFINITION. Machine/EventLog.lean: the commands and events of the event recorder and of the soundpost (R396 to R419).
-/
namespace Sys2Proof.Machine

/-- EVENT_RECORD (R399, R403, R404, R405, R408): the next record that has reached the recorder. -/
def execEventRecord (s : State) : Out State :=
  match s.evr.arrivals with
  | [] => .next s
  | a :: r => .next (({ s with evr := { s.evr with arrivals := r } }).recordOne a)

/-- FREEZE (R408): refused while another interface holds the freeze. -/
def execEventFreeze (iface : Iface) (s : State) : Out State :=
  if s.frozenByOther iface then .next (s.evrDone 1)
  else .next (((s.setBit Fld.EVR_STATUS.FROZEN true).setFld Fld.EVR_STATUS.FREEZE_OWNER (ifaceOwner iface)).evrDone 0)

/-- UNFREEZE (R408): refused unless from the owner. -/
def execEventUnfreeze (iface : Iface) (s : State) : Out State :=
  if s.bit Fld.EVR_STATUS.FROZEN ∧ s.fld Fld.EVR_STATUS.FREEZE_OWNER = ifaceOwner iface then .next (s.thaw.evrDone 0)
  else .next (s.evrDone 2)

/-- FREEZE_TIMEOUT (R408): 10 s after FREEZE the freeze ends, and the event names its owner. -/
def execFreezeTimeout (s : State) : Out State :=
  if s.bit Fld.EVR_STATUS.FROZEN then .next (s.thaw.emit .freezeTimeout [s.fld Fld.EVR_STATUS.FREEZE_OWNER]) else .next s

/-- CHALLENGE (R410, R411): refused during a lockout, and where no conditioned block is ready (R278); otherwise 16 bytes of the TRNG
replace the challenge. -/
def execEventChallenge (s : State) : Out State :=
  if s.bit Fld.EVR_STATUS.LOCKOUT then .next (s.evrDone 4)
  else if s.pool = 0 then .next (s.evrDone 3)
  else
    let v := (s.free 128).toNat
    let s := s.draw
    let s := { s with evr := { s.evr with chal := some v } }
    .next (((s.setFld Fld.EVR_CHAL v).setBit Fld.EVR_STATUS.CHAL_VALID true).evrDone 0)

/-- CHALLENGE_EXPIRY (R410). -/
def execChallengeExpiry (s : State) : Out State :=
  let s := { s with evr := { s.evr with chal := none } }
  .next ((s.setFld Fld.EVR_CHAL 0).setBit Fld.EVR_STATUS.CHAL_VALID false)

/-- LOCKOUT_END (R411). -/
def execLockoutEnd (s : State) : Out State := .next (s.setBit Fld.EVR_STATUS.LOCKOUT false)

/-- CLEAR (R408, R412): refused while another interface holds a freeze, and without a token for operation 1; a freeze of the same
interface ends first, its queue going into the log that is cleared. -/
def execEventClear (iface : Iface) (s : State) : Out State :=
  if s.frozenByOther iface then .next (s.evrDone 1)
  else
    let ok := s.tokenOk 1 0 (s.fld Fld.EVR_AUTH)
    let s := s.tokenChecked 1 (ifaceOwner iface) ok
    if ok then .next ((s.thaw.finishClear (ifaceOwner iface)).evrDone 0) else .next (s.evrDone 5)

/-- AUTH_SET (R409): without a token while no key is enrolled, then with one for operation 9; the event says whether a key was
enrolled. -/
def execEventAuthSet (iface : Iface) (s : State) : Out State :=
  let had := s.evr.authKey.isSome
  let ok := !had || s.tokenOk 9 0 (s.fld Fld.EVR_AUTH)
  let s := if had then s.tokenChecked 9 (ifaceOwner iface) ok else s
  if ok then
    let s := { s with evr := { s.evr with authKey := some (s.fld Fld.EVR_AUTH_KEY) } }
    .next ((s.emit .authKeySet [ifaceOwner iface, bit1 had]).evrDone 0)
  else .next (s.evrDone 5)

/-- SOUNDPOST_NOW (R413): at most once in 60 s. -/
def execSoundpostNow (s : State) : Out State :=
  let early : Bool := match s.evr.spNowAt with
    | some t => decide (s.now < t + 60 * sec)
    | none => false
  if early then .next (s.evrDone 6)
  else .next (({ s with evr := { s.evr with spNowAt := some s.now } }).writeSoundpost 4 |>.evrDone 0)

/-- SOUNDPOST_VAULT_COPY (R414). -/
def execSoundpostVaultCopy (s : State) : Out State := .next s.copyVault

/-- SOUNDPOST_FLASH_COPY (R414). -/
def execSoundpostFlashCopy (s : State) : Out State := .next s.copyFlash

end Sys2Proof.Machine
end

