-- ==== Sys2Proof/Machine/Fed.lean ====
section
/-!
DEFINITION. Machine/Fed.lean: the commands and events of federation, pitch time and plucks (R329 to R348, R480).
-/
namespace Sys2Proof.Machine

/-! ### Membership (R332, R333) -/

/-- HELLO_RECEIVE (R332, R333): a link outside FED_PORTS carries no federation traffic; another federation's makes the link FOREIGN; else
the newcomer is admitted or refused. The hello that opens a link is answered. -/
def execHelloReceive (link : LinkId) (h : Hello) (s : State) : Out State :=
  let l := link.val
  if !s.bit Fld.FED_STATUS.ENABLED || !s.bit (Fld.FED_LINK.FED_PORT.at l) then .next s
  else
    let s := if s.bit (Fld.FED_LINK.UP.at l) then s else s.fedSend (.hello link)
    let s := (s.setBit (Fld.FED_LINK.UP.at l) true).setFld (Fld.FED_LINK.NEIGHBOR.at l) h.node
    if h.uuid ≠ s.ownIdentity.fedUuid then
      let s := s.setFld (Fld.FED_LINK.STATE.at l) 3
      let all := (List.range 4).all (fun i => !s.bit (Fld.FED_LINK.FED_PORT.at i) || s.fld (Fld.FED_LINK.STATE.at i) == 3)
      .next (if all then s.setFld Fld.FED_STATUS.REFUSE_REASON 3 else s)
    else
      let s := s.hearHello h
      let member : Bool := tget s.fed.members h.node == some h.device
      .next (s.setFld (Fld.FED_LINK.STATE.at l) (if member then 2 else 1))

/-- HELLO_RETRY (R332): a refused device repeats its hello on every link that is up. -/
def execHelloRetry (s : State) : Out State :=
  if s.fld Fld.FED_STATUS.REFUSE_REASON = 0 then .next s
  else
    .next ((List.finRange 4).foldl (fun (st : State) (l : LinkId) =>
      if st.bit (Fld.FED_LINK.UP.at l.val) then st.fedSend (.hello l) else st) s)

/-- MEMBER_LEAVE_TIMEOUT (R333): a member that nobody has heard leaves the view; the device itself stays. -/
def execMemberLeaveTimeout (node : Nat) (s : State) : Out State :=
  if node = s.nodeId then .next s
  else .next (s.withFed { s.fed with members := tdel s.fed.members node, heard := tdel s.fed.heard node,
                                     candidates := s.fed.candidates.filter (fun c => c.node ≠ node) })

/-! ### Grandmaster and synchronisation (R336, R337) -/

/-- GM_ANNOUNCE (R336). -/
def execGmAnnounce (s : State) : Out State :=
  if s.bit Fld.PIT_STATUS.IS_GM then
    let cls := s.fld Fld.PIT_STATUS.CLASS
    .next ((s.setFld Fld.PIT_GM.CLASS cls).fedSend (.announce ⟨s.nodeId, cls, s.ownIdentity.gmPriority, 0⟩))
  else .next s

/-- GM_ELECTION (R336): among the candidates heard and the device itself. -/
def execGmElection (cands : List Announce) (s : State) : Out State := if s.joined then .next (s.elect cands) else .next s

/-- A signed number cut to the range of PIT_OFFSET and put into its 32 bits (R348). -/
def pitOffset (x : Int) : Nat :=
  let y := max (-2147483647) (min x 2147483647)
  (if y < 0 then y + 2 ^ 32 else y).toNat

/-- Pitch time moved by a signed number of nanoseconds. -/
def shiftTime (t : Nat) (x : Int) : Nat := ((t : Int) + x).toNat

/-- SYNC_EXCHANGE (R335, R337, R339): offset and delay measured against the parent; at or below the threshold the offset is slewed away,
above it stepped; pitch time that was invalid becomes valid. -/
def execSyncExchange (offset : Int) (delay : Nat) (link : LinkId) (s : State) : Out State :=
  if !s.joined || s.bit Fld.PIT_STATUS.IS_GM || decide (s.fld Fld.PIT_GM.CLASS = 5) then .next s
  else
    let s := s.setFld Fld.PIT_OFFSET.NS (pitOffset offset)
    let s := s.setFld (Fld.FED_LINK.DELAY_NS.at link.val) (min delay 65535)
    let s := (s.setBit Fld.PIT_STATUS.SYNCED true).setBit Fld.PIT_STATUS.HOLDOVER false
    let s := s.setBit Fld.PIT_STATUS.ACCURATE (decide (s.fld Fld.PIT_GM.DEPTH ≤ 24))
    let valid := s.bit Fld.PIT_STATUS.VALID
    let s := if valid then s else (s.setBit Fld.PIT_STATUS.VALID true).setFld Fld.PIT_STATUS.CLASS 4
    if valid && decide (offset.natAbs ≤ s.thresholds.stepThresholdNs) then .next (s.withFed { s.fed with slew := offset })
    else .next ((s.setFld Fld.PIT_NOW (shiftTime (s.fld Fld.PIT_NOW) offset)).withFed { s.fed with slew := 0 })

/-! ### PIT_CMD and PPS (R334, R335, R338, R480) -/

/-- PIT_SET (R338): class 3, set by the host without a pulse. -/
def execPitSet (s : State) : Out State := s.command Fld.PIT_CMD.CMD.addr (fun s =>
  if s.mayTime then .next ((s.hostTime 3).pitDone 0) else .next (s.pitDone 1))

/-- SET_AT_PPS (R338, R348). -/
def execPitSetAtPps (s : State) : Out State :=
  s.command Fld.PIT_CMD.CMD.addr (fun s =>
  if !s.mayTime then .next (s.pitDone 1)
  else if !s.ppsIn || !s.bit Fld.PIT_STATUS.PPS_PRESENT then .next (s.pitDone 2)
  else .next ((s.withFed { s.fed with armed := true }).setBit Fld.PIT_CMD_STATUS.BUSY true))

/-- SET_UTC (R334): the offset moves, pitch time does not. -/
def execPitSetUtc (s : State) : Out State :=
  s.command Fld.PIT_CMD.CMD.addr (fun s =>
  if s.mayTime then .next ((s.setFld Fld.PIT_UTC.OFFSET (s.fld Fld.PIT_UTC.NEW)).pitDone 0) else .next (s.pitDone 1))

/-- RESYNC (R348): a new exchange with the parent at once. -/
def execPitResync (s : State) : Out State :=
  s.command Fld.PIT_CMD.CMD.addr (fun s =>
  let s := if s.joined && !s.bit Fld.PIT_STATUS.IS_GM then s.fedSend .exchange else s
  .next (s.pitDone 0))

/-- The clock class changed, which may move the grandmaster (R336). -/
def State.reclass (s : State) (cls : Nat) : State :=
  let s := s.setFld Fld.PIT_STATUS.CLASS cls
  if s.joined then s.elect s.fed.candidates else s

/-- PPS_IN_EDGE (R336, R338, R480): an armed SET_AT_PPS applies; a class that had fallen for want of edges rises again. -/
def execPpsInEdge (s : State) : Out State :=
  if !s.ppsIn then .next s
  else
    let s := (s.withFed { s.fed with ppsAt := s.now, ppsLostAt := none }).setBit Fld.PIT_STATUS.PPS_PRESENT true
    if s.fed.armed then
      let s := (s.withFed { s.fed with armed := false }).setBit Fld.PIT_CMD_STATUS.BUSY false
      .next (((s.hostTime 1).reclass 1).pitDone 0)
    else if s.fld Fld.PIT_STATUS.CLASS = 2 then .next ((s.setBit Fld.PIT_STATUS.HOLDOVER false).reclass 1)
    else .next s

/-- PPS_IN_LOSS (R336, R348, R480): PPS_IN is absent; class 1 falls to 2, and an armed SET_AT_PPS ends with error 2. -/
def execPpsInLoss (s : State) : Out State :=
  if !s.bit Fld.PIT_STATUS.PPS_PRESENT then .next s
  else
    let s := (s.withFed { s.fed with ppsLostAt := some s.now }).setBit Fld.PIT_STATUS.PPS_PRESENT false
    let s := if s.fed.armed then
        ((s.withFed { s.fed with armed := false }).setBit Fld.PIT_CMD_STATUS.BUSY false).pitDone 2
      else s
    if s.fld Fld.PIT_STATUS.CLASS = 1 then .next ((s.setBit Fld.PIT_STATUS.HOLDOVER true).reclass 2) else .next s

/-- PPS_HOLDOVER_EXPIRY (R336): 24 h without PPS_IN; the time of day is then one set by the host without it. -/
def execPpsHoldoverExpiry (s : State) : Out State :=
  if s.fld Fld.PIT_STATUS.CLASS = 2 then .next ((s.setBit Fld.PIT_STATUS.HOLDOVER false).reclass 3) else .next s

/-- PPS_OUT_SECOND (R338): with PPS_OUT_EN set, PPS_OUT rises. -/
def execPpsOutSecond (s : State) : Out State :=
  if s.ownIdentity.flags / 2 % 2 = 1 ∧ s.bit Fld.PIT_STATUS.VALID then .next (s.withFed { s.fed with ppsSeconds := s.fed.ppsSeconds + 1 })
  else .next s

/-! ### Running a pluck (R341, R343 to R346) -/

/-- What an action comes to at its time: it has run, it runs on (a barrier with FLUSH), or its target is absent. -/
inductive PluckEnd where
  | ran | running | absent
deriving DecidableEq, Repr

/-- SPINUP (R299, R344): ports that wait for a spin-up pluck naming their group start at once. -/
def State.pluckSpinup (s : State) (mask : Nat) : State :=
  (List.finRange 48).foldl (fun (st : State) p =>
    let group := ((st.portCfg p).map (·.spinupGroup)).getD 0
    if st.portState p = 1 ∧ (st.port p).pluckWait = true ∧ mask / 2 ^ group % 2 = 1 then st.powerUpPort p else st) s

/-- SCRUB_START (R198, R344): a pass starts on each array named that exists and does not scrub. -/
def State.pluckScrub (s : State) (mask : Nat) : State :=
  (List.finRange 16).foldl (fun (st : State) a =>
    match st.arr a with
    | some r => if mask / 2 ^ a.val % 2 = 1 ∧ r.wants.contains .scrub = false then st.startScrub a r else st
    | none => st) s

/-- An action carried out (R344 to R346): `te` its time and `t` the pitch time now. -/
def State.pluckAct (s : State) (i : Nat) (q : PluckReq) (te t : Nat) : PluckEnd × State :=
  match q.action % 128 with
  | 1 => if q.arg % 2 = 0 ∨ s.gateOpen = false then (.ran, s) else (.running, s.cutBarrier i te)
  | 2 => (.ran, s.pluckSpinup (q.arg % 65536))
  | 3 =>
    let s := if q.arg % 2 = 1 then s.requestTest .A else s
    (.ran, if q.arg / 2 % 2 = 1 then s.requestTest .B else s)
  | 4 =>
    let here := (List.finRange 16).any (fun a => decide (q.arg / 2 ^ a.val % 2 = 1) && (s.arr a).isSome)
    if s.gateOpen && here then (.ran, s.pluckScrub (q.arg % 65536)) else (.absent, s)
  | 5 => (.ran, (s.setFld Fld.FAN_GLOBAL.PROFILE (q.arg % 16)).updateFans)
  | 6 =>
    let ch := q.arg % 256
    if s.fld (Fld.CH_CTRL.TRIG.at ch) = 2 ∧ s.bit (Fld.CH_CTRL.EN.at ch) then (.ran, s.dmaTrigger ch false)
    else (.absent, s.emit .dmaPluckIgnored [ch])
  | 7 => (.ran, s.emit .eventMark [q.arg, te, t])
  | _ => (.absent, s)

/-- The lateness of a late run or drop shown and recorded (R343). -/
def State.noteLate (s : State) (i : Nat) (e : PluckEnt) (late : Nat) : PluckEnt × State :=
  let e := { e with lateness := late }
  (e, (s.putPluck i e).emit .pluckLate [i, late])

/-- An entry that is eligible at its Te or after it: dropped by its policy or by what R346 says, or run. -/
def State.runPluck (s : State) (i : Nat) (e : PluckEnt) (t : Nat) : State :=
  let q := e.msg.req
  let te := s.pluckTe q
  let isLate := decide (te + 8 ≤ t)
  let fast := pluckFast q.action
  if isLate && !s.runsLate q (t - te) then
    let x := s.noteLate i e (t - te)
    x.2.dropPluck i x.1 1
  else if fast && s.acFail then s.dropPluck i e 2
  else if fast && (s.safeMode || s.tamperHold) then s.dropPluck i e 4
  else
    let x := if isLate then s.noteLate i e (t - te) else (e, s)
    let x := if isLate then (x.1, x.2.incFld Fld.PLUCK_LATE_COUNT 1) else x
    let y := x.2.pluckAct i q te t
    match y.1 with
    | .ran => y.2.settlePluck i x.1 (if isLate then .lateDone else .done) 0
    | .running => y.2.putPluck i { x.1 with state := .running, reason := 0 }
    | .absent => y.2.dropPluck i x.1 3

/-- Whether an entry has to wait for the fast domains: they sleep and the entry needs them, or they do not run at all (R343, R346). -/
def State.pluckHeld (s : State) (q : PluckReq) : Bool :=
  if (s.pwr.fast == .retained) || (s.pwr.fast == .gated) then s.pluckWakes q && !s.acFail && !s.safeMode && !s.tamperHold
  else pluckFast q.action && (s.pwr.fast != .running) && !s.acFail && !s.safeMode && !s.tamperHold

/-- An armed entry at its Te: it waits for a wake or for the fast domains where it needs them, else it runs. -/
def State.firePluck (s : State) (i : Nat) (e : PluckEnt) (t : Nat) : State :=
  if s.pluckHeld e.msg.req then s.wakeUp else s.runPluck i e t

/-- PLUCK_FIRE (R335, R341, R343): local pitch time has reached Te. While pitch time is invalid, before Te, and while a lower entry with the
same Te has still to run, nothing happens. -/
def execPluckFire (index : Fin 256) (s : State) : Out State :=
  match s.pluck index.val, s.pitch with
  | some e, some t =>
    let te := s.pluckTe e.msg.req
    let lower := s.fed.plucks.any (fun p => decide (p.1 < index.val) && p.2.state == .armed && s.pluckTe p.2.msg.req == te)
    if e.state ≠ .armed ∨ t < te ∨ lower = true then .next s else .next (s.firePluck index.val e t)
  | _, _ => .next s

/-- PLUCK_EARLY_WAKE (R346): the exit latency and 50 ms before Te. -/
def execPluckEarlyWake (index : Fin 256) (s : State) : Out State :=
  match s.pluck index.val with
  | some e => if e.state = .armed ∧ s.pluckWakes e.msg.req = true then .next s.wakeUp else .next s
  | none => .next s

/-- WRITE_BARRIER_DONE (R345): every before-write is destaged or superseded, and every earlier barrier is done. -/
def execWriteBarrierDone (index : Fin 256) (s : State) : Out State :=
  match s.fed.barriers, s.pluck index.val with
  | b :: rest, some e =>
    if b.index ≠ index.val ∨ s.barrierWaits b = true then .next s
    else
      let s := s.withFed { s.fed with barriers := rest }
      let s := s.settlePluck index.val e (if e.lateness = 0 then .done else .lateDone) 0
      .next (s.emit .barrierDone [b.te, s.pitch.getD 0])
  | _, _ => .next s

/-! ### PLUCK_CMD (R342, R348) -/

/-- WRITE (R340, R342, R344). -/
def execPluckWrite (s : State) : Out State :=
  s.command Fld.PLUCK_CMD.CMD.addr (fun s =>
  let err := s.pluckError
  if err ≠ 0 then .next (s.pluckDone err) else .next (s.writePluck.2.pluckDone 0))

/-- The answers to a WRITE_FED are all there, or 100 ms have passed (R342). -/
def State.distDone (s : State) : State := (s.withFed { s.fed with distLeft := 0 }).setBit Fld.PLUCK_DIST.COMPLETE true

/-- WRITE_FED (R342): installed here and sent to every member; the writer's own answer counts with theirs. -/
def execPluckWriteFed (s : State) : Out State :=
  s.command Fld.PLUCK_CMD.CMD.addr (fun s =>
  if !s.joined then .next (s.pluckDone 3)
  else
    let err := s.pluckError
    if err ≠ 0 then .next (s.pluckDone err)
    else
      let x := s.writePluck
      let late := x.2.pastTe x.1.req
      let s := (x.2.fedSend (.pluck x.1)).pluckDone 0
      let s := ((s.setFld Fld.PLUCK_DIST.ACKED (if late then 0 else 1)).setFld Fld.PLUCK_DIST.FULL 0).setFld Fld.PLUCK_DIST.LATE
        (if late then 1 else 0)
      let left := s.fed.members.length - 1
      let s := (s.withFed { s.fed with distLeft := left }).setBit Fld.PLUCK_DIST.COMPLETE false
      .next (if left = 0 then s.distDone else s))

/-- Whether a CANCEL meets an error at PLUCK_SEL: 4 standing, 1 not ARMED (R348). -/
def State.cancelError (s : State) : Nat :=
  match s.pluck (s.fld Fld.PLUCK_SEL.INDEX) with
  | none => 1
  | some e => if e.standing then 4 else if e.state = .armed then 0 else 1

/-- CANCEL (R348). -/
def execPluckCancel (s : State) : Out State :=
  s.command Fld.PLUCK_CMD.CMD.addr (fun s =>
  let i := s.fld Fld.PLUCK_SEL.INDEX
  match s.cancelError, s.pluck i with
  | 0, some e => .next ((s.putPluck i { e with state := .cancelled }).pluckDone 0)
  | n, _ => .next (s.pluckDone n))

/-- Every ARMED entry with an origin and identifier cancelled (R342). -/
def State.cancelAll (s : State) (origin id : Nat) : State :=
  s.withFed { s.fed with plucks := s.fed.plucks.map (fun (p : Nat × PluckEnt) =>
    if p.2.msg.origin = origin ∧ p.2.msg.id = id ∧ p.2.standing = false ∧ p.2.state = .armed then (p.1, { p.2 with state := .cancelled })
    else p) }

/-- CANCEL_FED (R342): here, and on every member, where the entry is still ARMED. -/
def execPluckCancelFed (s : State) : Out State :=
  s.command Fld.PLUCK_CMD.CMD.addr (fun s =>
  if !s.joined then .next (s.pluckDone 3)
  else
    match s.pluck (s.fld Fld.PLUCK_SEL.INDEX) with
    | none => .next (s.pluckDone 1)
    | some e =>
      if e.standing then .next (s.pluckDone 4)
      else .next (((s.cancelAll e.msg.origin e.msg.id).fedSend (.cancel e.msg.origin e.msg.id)).pluckDone 0))

/-- PLUCK_RECEIVE (R342): installed at the lowest free index and acknowledged, answered FULL, or answered LATE and treated under R343 at
once. -/
def execPluckReceive (m : PluckMsg) (s : State) : Out State :=
  if !s.joined then .next s
  else
    match (List.range 256).find? (fun i => s.pluckFree i) with
    | none => .next (s.fedSend (.answer .full))
    | some i =>
      let s := s.installPluck i m
      match s.pastTe m.req, s.pluck i, s.pitch with
      | true, some e, some t => .next ((s.fedSend (.answer .late)).firePluck i e t)
      | _, _, _ => .next (s.fedSend (.answer .ack))

/-- PLUCK_ANSWER_RECEIVE (R342, R348). -/
def execPluckAnswerReceive (ans : PluckAnswer) (s : State) : Out State :=
  if s.fed.distLeft = 0 then .next s
  else
    let s := match ans with
      | .ack => s.incFld Fld.PLUCK_DIST.ACKED 1
      | .full => s.incFld Fld.PLUCK_DIST.FULL 1
      | .late => s.incFld Fld.PLUCK_DIST.LATE 1
    let n := s.fed.distLeft - 1
    if n = 0 then .next s.distDone else .next (s.withFed { s.fed with distLeft := n })

/-- PLUCK_DIST_TIMEOUT (R342). -/
def execPluckDistTimeout (s : State) : Out State := if s.fed.distLeft = 0 then .next s else .next s.distDone

/-- PLUCK_CANCEL_RECEIVE (R342). -/
def execPluckCancelReceive (origin id : Nat) (s : State) : Out State := if s.joined then .next (s.cancelAll origin id) else .next s

end Sys2Proof.Machine
end

