-- ==== Sys2Proof/Machine/HostIo.lean ====
section
/-!
DEFINITION. Machine/HostIo.lean: doorbells and fetch (R120 to R125), range locks (R128, R131), the I/O commands (R115, R147, R267, R268),
enabling and resetting functions and ports (R112, R119, R137, R138), completions (R139, R140).
-/
namespace Sys2Proof.Machine

/-! ### Doorbells and fetch -/

/-- DOORBELL_WRITE (R120, R141, R218): the entries up to the new tail become visible at this time; the write wakes a sleeping device. The
admin queue's entries are rows of their own. A tail outside the queue changes nothing. -/
def execDoorbellWrite (fn : FnIdx) (sq tail : Nat) (s : State) : Out State :=
  if !s.adminOpen fn then .next s
  else if sq = 0 then .next s.wakeUp
  else
    match tget s.hfe.sqs (qKey fn sq) with
    | none => .next s
    | some q =>
      if q.size ≤ tail ∨ q.deleting.isSome then .next s
      else
        let n := (tail + q.size - q.tail) % q.size
        let bell := (s.now, s.exclusion || !s.fetching)
        let s := { s with hfe := { s.hfe with
          sqs := tput s.hfe.sqs (qKey fn sq) { q with tail := tail, bells := q.bells ++ List.replicate n bell } } }
        .next s.wakeUp

/-- CQ_HEAD_DOORBELL (R140, R141): room for held entries. -/
def execCqHeadDoorbell (fn : FnIdx) (cq head : Nat) (s : State) : Out State :=
  if !s.adminOpen fn then .next s
  else
    match tget s.hfe.cqs (qKey fn cq) with
    | none => .next s
    | some q =>
      if q.size ≤ head then .next s
      else .next (({ s with hfe := { s.hfe with cqs := tput s.hfe.cqs (qKey fn cq) { q with head := head } } } : State).wakeUp)

/-- FETCH_GRANT (R121, R125, R128, R213): a grant that the arbiter may make now fetches a burst of the entries that stand in the queue, given
from its head on; a class without a tag or a lock entry is skipped, which begins an episode. -/
def execFetchGrant (fn : FnIdx) (sq : Nat) (entries : List SqEntry) (s : State) : Out State :=
  if !s.fetching then .next s
  else
    let s := s.refillLoad
    match tget s.hfe.sqs (qKey fn sq) with
    | none => .next s
    | some q =>
      if !s.sqReady fn sq q then .next s
      else if !s.classFree q.cls 1 then .next (s.pauseClass q.cls)
      else if !s.grantDue (qKey fn sq) q.cls then .next s
      else
        let grants := wrrGive s.classWeights s.hfe.grants s.grantable q.cls
        let s : State :=
          { s with hfe := { s.hfe with rr := s.hfe.rr.set q.cls (qKey fn sq), paused := s.hfe.paused.filter (· ≠ q.cls), grants } }
        .next (s.fetchBurst fn sq (burstOf (s.fn fn)) entries)

/-- RANGE_LOCK_GRANT (R128, R131): a waiting command with no earlier conflicting entry left. -/
def execRangeLockGrant (tag : Nat) (s : State) : Out State :=
  match s.cmd tag with
  | none => .next s
  | some c => if c.phase != .lockWait || s.blocked c then .next s else .next (s.lockGrant c)

/-! ### I/O commands -/

/-- FLUSH (R115): completes when nothing acknowledged before it still waits to reach the members. -/
def execNvmeFlush (tag : Nat) (s : State) : Out State :=
  match s.cmd tag with
  | none => .next s
  | some c =>
    if c.kind != .flush || c.phase != .locked then .next s
    else if s.flushWaits c then .next ((s.lowerClass c).putCmd { c with phase := .destageWait })
    else .next (s.collect c stOk [])

/-- WRITE (R100, R147, R152): mapped, with its data read from host memory, it asks for its reservation. -/
def execNvmeWrite (tag : Nat) (plain : List Blob) (s : State) : Out State :=
  match s.cmd tag with
  | none => .next s
  | some c =>
    if c.kind != .write || c.phase != .locked || decide (plain.length ≠ c.sectors) then .next s
    else
      let m := s.mapped c
      .next (if m.1 then m.2.reserve { c with plain := plain } else m.2)

/-- WRITE_ZEROES (R78, R114): its sectors become empty. -/
def execWriteZeroes (tag : Nat) (s : State) : Out State :=
  match s.cmd tag with
  | none => .next s
  | some c =>
    if c.kind != .writeZeroes || c.phase != .locked then .next s
    else
      let m := s.mapped c
      .next (if m.1 then m.2.reserve c else m.2)

/-- DATASET_MANAGEMENT (R78, R114): with Deallocate every range becomes empty; without it the command does nothing. -/
def execDatasetManagement (tag : Nat) (s : State) : Out State :=
  match s.cmd tag with
  | none => .next s
  | some c =>
    if c.kind != .dsm || c.phase != .locked then .next s
    else if c.dealloc = false then .next (s.collect c stOk [])
    else
      let m := s.mapped c
      .next (if m.1 then m.2.reserve c else m.2)

/-- READ (R100, R267): mapped, then read; a later row goes on with what its member commands have brought. -/
def execNvmeRead (tag : Nat) (s : State) : Out State :=
  match s.cmd tag with
  | none => .next s
  | some c =>
    if c.kind != .read then .next s
    else
      let m := if c.phase == .locked then s.mapped c else (true, s)
      .next (if m.1 then m.2.readPass tag else m.2)

/-- VERIFY (R100, R268): as READ, and nothing is transferred. -/
def execNvmeVerify (tag : Nat) (s : State) : Out State :=
  match s.cmd tag with
  | none => .next s
  | some c =>
    if c.kind != .verify then .next s
    else
      let m := if c.phase == .locked then s.mapped c else (true, s)
      .next (if m.1 then m.2.readPass tag else m.2)

/-! ### Functions and ports -/

/-- CC_ENABLE (R119): CC.EN set with AQA.ASQS and AQA.ACQS, which are one less than the entries; a queue of fewer than 2 entries or more
than 32 leaves CSTS.CFS set, and is recorded. -/
def execCcEnable (fn : FnIdx) (asqs acqs : Nat) (s : State) : Out State :=
  let x := s.fn fn
  if !s.fnEnabled fn || x.en || x.resetting || s.pwr.fast != .running || (s.pwr.perstLow[fnPort fn]?).getD false then .next s
  else if asqs = 0 ∨ acqs = 0 ∨ 31 < asqs ∨ 31 < acqs then
    .next ((s.putFn fn { x with en := true, cfs := true, asqs := asqs, acqs := acqs }).emit .adminQueueTooLarge [fn.val, asqs, acqs])
  else
    let s := s.putFn fn { x with en := true, rdy := true, asqs := asqs, acqs := acqs }
    let q : IoCq := { size := acqs + 1, vector := 0, ien := true, head := 0, tail := 0, coalesced := 0 }
    .next { s with hfe := { s.hfe with cqs := tput s.hfe.cqs (qKey fn 0) q } }

/-- FUNCTION_RESET (R137, R138): of the function; an FLR of a PF of every function of its port, an NSSR of every function of both. -/
def execFunctionReset (fn : FnIdx) (kind : ResetKind) (s : State) : Out State :=
  if !s.fnEnabled fn then .next s
  else
    match kind with
    | .flr => .next (if isPf fn then s.portQuiesce (fnPort fn) else (s.quiesce fn).fenceWake)
    | .ccClear => .next (if (s.fn fn).en then (s.quiesce fn).fenceWake else s)
    | .nssr => .next ((s.portQuiesce 0).portQuiesce 1)

/-- FUNCTION_RESET_COMPLETE (R138): the quiesce has ended, and the function takes a new CC.EN. -/
def execFunctionResetComplete (fn : FnIdx) (s : State) : Out State :=
  let x := s.fn fn
  if x.resetting then .next (s.putFn fn { x with resetting := false }) else .next s

/-- A port's PERST_N level. -/
def State.setPerst (s : State) (hp : HostPort) (low : Bool) : State :=
  { s with pwr := { s.pwr with perstLow := s.pwr.perstLow.set hp.val low } }

/-- PERST_N_ASSERT (R112): the port's endpoint and every function on it are reset. -/
def execPerstNAssert (hp : HostPort) (s : State) : Out State := .next ((s.setPerst hp true).portQuiesce hp.val)

/-- PERST_N_RELEASE (R112): the port's functions can be enabled again. -/
def execPerstNRelease (hp : HostPort) (s : State) : Out State := .next (s.setPerst hp false)

/-- HOT_RESET (R110, R137): every function of the port is reset. -/
def execHotReset (hp : HostPort) (s : State) : Out State := .next (s.portQuiesce hp.val)

/-! ### Completions -/

/-- A collected entry posted (R121, R128, R139, R140, R220): counted, sent with its interrupt, tag and range lock released. -/
def State.postOne (s : State) (e : Collected) : State :=
  let s := if e.cqe.sq = 0 then s else s.countPost e
  let s := s.postEntry e.cqe (e.cls != 0 && e.cqe.sq != 0)
  let s := { s with hfe := { s.hfe with collector := s.hfe.collector.erase e } }
  let s := match e.tag with
    | some t => s.releaseCmd t (s.genBusy t)
    | none => s
  s.deleteWake.fenceWake

/-- COMPLETION_POST (R139, R140): the next entry of a host port; while a fatal error is handled none is posted (R450). -/
def execCompletionPost (hp : HostPort) (s : State) : Out State :=
  if s.pwr.fast != .running || s.err.active.isSome || s.bit Fld.ERR_STATUS.FATAL_HOLD then .next s
  else
    match s.nextPost hp.val with
    | none => .next s
    | some e => .next (s.postOne e)

/-- COALESCING_TIME_EXPIRY (R140): entries whose interrupt waited raise it now. -/
def execCoalescingTimeExpiry (fn : FnIdx) (cq : Nat) (s : State) : Out State :=
  match tget s.hfe.cqs (qKey fn cq) with
  | none => .next s
  | some q =>
    if q.coalesced = 0 then .next s
    else .next { s with hfe := { s.hfe with cqs := tput s.hfe.cqs (qKey fn cq) { q with coalesced := 0 },
                                            raised := s.hfe.raised ++ [(fn, q.vector)] } }

end Sys2Proof.Machine
end

