-- ==== Sys2Proof/Machine/ImgBytes.lean ====
section
/-!
DEFINITION. Machine/ImgBytes.lean: the stringing image as a byte string: the header, the section directory, the trailer and the sections, each
field at the offset and size of its table, little-endian (R31 to R33, R36, R117, R129, R156, R212, R288, R306, R307, R329, R330, R340,
R344, R353, R381, R382, R406). A byte that a section ends before reads as 0.
-/
namespace Sys2Proof.Machine

/-- A little-endian field of a byte string. -/
def fieldLe (b : List Nat) (off n : Nat) : Nat := ofBytes ((b.drop off).take n)

/-- A signed byte. -/
def fieldInt8 (b : List Nat) (off : Nat) : Int := let v := fieldLe b off 1; if v < 128 then (v : Int) else (v : Int) - 256

/-- A part of a byte string. -/
def part (b : List Nat) (off n : Nat) : List Nat := (b.drop off).take n

/-- Whether every byte of a part is zero. -/
def zeroAt (b : List Nat) (off n : Nat) : Bool := (part b off n).all (· == 0)

/-- Whether every byte of the listed parts, offset and length, is zero. -/
def zerosAt (b : List Nat) (l : List (Nat × Nat)) : Bool := l.all (fun x => zeroAt b x.1 x.2)

/-- A byte string cut into entries of n bytes, at most `fuel` of them. -/
def chunksOf (n : Nat) : Nat → List Nat → List (List Nat)
  | 0, _ => []
  | _, [] => []
  | fuel + 1, b => b.take n :: chunksOf n fuel (b.drop n)

/-- The entries of a part that holds `count` of them, n bytes each. -/
def entriesAt (b : List Nat) (off n count : Nat) : List (List Nat) := chunksOf n count (b.drop off)

/-! ### Directory and sections -/

/-- A section directory entry (R33). -/
def dirEntryOf (b : List Nat) : DirEntry :=
  ⟨fieldLe b 0 2, fieldLe b 2 2, zeroAt b 4 4, fieldLe b 8 4, fieldLe b 12 4⟩

/-- The body of a section, if the directory lists one of its type (R33). -/
def sectionBody (b : List Nat) (dir : List DirEntry) (typ : Nat) : Option (List Nat) :=
  (dir.find? (fun d => d.typ = typ)).map (fun d => part b d.offset d.length)

/-- Identity (R306, R329). -/
def identityOf (b : List Nat) : Identity :=
  { fedUuid := fieldLe b 0 16, nodeId := fieldLe b 0x10 2, gmPriority := fieldLe b 0x12 1, flags := fieldLe b 0x13 1,
    pairUuid := fieldLe b 0x40 16, partnerId := fieldLe b 0x50 16, pairRank := fieldLe b 0x60 1 }

/-- A drive port map entry (R288). -/
def portEntryOf (b : List Nat) : PortMapEntry :=
  { mode := fieldLe b 0 1, maxRate := fieldLe b 1 1, spinupGroup := fieldLe b 2 1, flags := fieldLe b 3 1, readTimeoutMs := fieldLe b 4 2,
    writeTimeoutMs := fieldLe b 6 2, retries := fieldLe b 8 1, removalTimeoutS := fieldLe b 9 1, queueDepth := fieldLe b 0xA 2,
    spinupDelayDs := fieldLe b 0xC 2 }

/-- A namespace entry (R129). No array has an index above 15: such an entry shows NSID 0, which none may have. -/
def nsEntryOf (b : List Nat) : NsEntry :=
  let n := fieldLe b 0x28 1
  let ext (i : Nat) : Extent := ⟨fieldLe b (0x30 + 16 * i) 8, fieldLe b (0x38 + 16 * i) 8⟩
  { nsid := if fieldLe b 4 1 < 16 then fieldLe b 0 4 else 0, array := ⟨fieldLe b 4 1 % 16, Nat.mod_lt _ (by decide)⟩, uuid := fieldLe b 8 16,
    size := fieldLe b 0x18 8, keyRef := fieldLe b 0x20 8, extents := (List.range n).map ext,
    unusedZero := zeroAt b (0x30 + 16 * n) (64 - 16 * n), attach := fieldLe b 0x70 16 }

/-- A class entry (R212). -/
def classEntryOf (b : List Nat) : ClassEntry := ⟨fieldLe b 0 1, fieldLe b 1 1, fieldLe b 4 4⟩

/-- Class policies and deadlines (R212). -/
def classPoliciesOf (b : List Nat) : ClassPolicies :=
  { c0KcmdLimit := fieldLe b 0 2, c0BwPct := fieldLe b 2 1, flags := fieldLe b 3 1, c0Outstanding := fieldLe b 4 2, c0CmdBurst := fieldLe b 6 2,
    c0ByteBurstMib := fieldLe b 8 2, classes := (List.range 4).map (fun c => classEntryOf (b.drop (0x10 + 16 * c))) }

/-- Write cache and reserve (R156). -/
def wcSectionOf (b : List Nat) : WcSection :=
  { configLimitMib := some (fieldLe b 0 4), marginQ8 := fieldLe b 4 2, startPct := fieldLe b 6 1, flags := fieldLe b 7 1, maxAgeMs := fieldLe b 8 4,
    clearDelayMs := fieldLe b 0xC 4, contextMib := fieldLe b 0x10 4, maxUpdates := fieldLe b 0x14 2, gatherMs := fieldLe b 0x16 2,
    c0HeadroomMib := fieldLe b 0x18 2 }

/-- A fan profile; one that is all zero takes the defaults (R381). -/
def fanProfileOf (b : List Nat) : FanProfile :=
  if zeroAt b 0 8 then {}
  else { tLowC := fieldLe b 0 1, tHighC := fieldLe b 1 1, pctLow := fieldLe b 2 1, pctHigh := fieldLe b 3 1, steadyCapPct := fieldLe b 4 1 }

/-- A fan channel (R382). -/
def fanChannelOf (b : List Nat) : FanChannel :=
  { polePairs := fieldLe b 0 1, flags := fieldLe b 1 1, ratedRpm := fieldLe b 2 2, minRpm := fieldLe b 4 2, pwmKhz := fieldLe b 6 1,
    deadTimeDs := fieldLe b 7 1, iMaxMa := fieldLe b 8 2, shuntUohm := fieldLe b 0xA 2, startRampMs := fieldLe b 0xC 2,
    startCurrentPct := fieldLe b 0xE 1, handoverPct := fieldLe b 0xF 1, brakeMaxPct := fieldLe b 0x10 1, focKpQ12 := fieldLe b 0x12 2,
    focKiQ12 := fieldLe b 0x14 2, dtcFluxBandPct := fieldLe b 0x16 1, dtcTorqueBandPct := fieldLe b 0x17 1,
    advance := (List.range 16).map (fun i => fieldLe b (0x18 + i) 1), nomRsMohm := fieldLe b 0x28 2, nomLsUh := fieldLe b 0x2A 2,
    nomKeUv := fieldLe b 0x2C 2, nomJ := fieldLe b 0x2E 2 }

/-- Fan tables and motor parameters (R381). -/
def fanSectionOf (b : List Nat) : FanSection :=
  { channelsEn := fieldLe b 0 1, activeProfile := fieldLe b 1 1, hotC := fieldLe b 2 1, faultBoostPct := fieldLe b 3 1, pinEn := fieldLe b 4 1,
    profiles := (List.range 16).map (fun i => fanProfileOf (part b (0x20 + 8 * i) 8)),
    channels := (List.range 8).map (fun i => fanChannelOf (part b (0xA0 + 64 * i) 64)) }

/-- A pack of the gauge model (R353). -/
def packModelOf (b : List Nat) : PackModel :=
  { chemistry := fieldLe b 0 1, cells := fieldLe b 1 1, effQ8 := fieldLe b 2 2, nominalMah := fieldLe b 4 4, cutoffMvCell := fieldLe b 8 2,
    chargeMvCell := fieldLe b 0xA 2, shuntUohm := fieldLe b 0xC 4, dividerQ16 := fieldLe b 0x10 4, ntcR25Ohm := fieldLe b 0x14 4,
    ntcBetaK := fieldLe b 0x18 2, tempMinC := fieldInt8 b 0x1A, tempMaxC := fieldInt8 b 0x1B, flags := fieldLe b 0x1C 1,
    rNomMohm := fieldLe b 0x1E 2, ocvMv := (List.range 11).map (fun i => fieldLe b (0x20 + 2 * i) 2) }

/-- Gauge model (R353). -/
def gaugeOf (b : List Nat) : GaugeModel :=
  { overheadJ := fieldLe b 0 2, dumpPowerW := fieldLe b 2 2, learnPeriodDays := fieldLe b 4 2, testMaxAgeH := fieldLe b 6 2,
    initialDeratePct := fieldLe b 8 1, replacePct := fieldLe b 9 1, packA := packModelOf (part b 0x20 128), packB := packModelOf (part b 0xA0 128) }

/-- A standing pluck entry (R340, R344); what the device sets is not read. -/
def pluckReqOf (b : List Nat) : PluckReq :=
  { t := fieldLe b 0 8, periodS := fieldLe b 8 4, action := fieldLe b 0xC 1, policy := fieldLe b 0xD 1, lateWindowS := fieldLe b 0xE 2,
    arg := fieldLe b 0x10 4, staggerSlots := fieldLe b 0x14 2, staggerStepUs := fieldLe b 0x18 4 }

/-- Pluck defaults (R344). -/
def pluckSectionOf (b : List Nat) : PluckSection :=
  { defaults := (List.range 7).map (fun i => ⟨fieldLe b (4 * i) 1, fieldLe b (4 * i + 2) 2⟩),
    standing := (List.range (fieldLe b 0x20 1)).map (fun i => pluckReqOf (part b (0x40 + 32 * i) 32)) }

/-- Pair and federation thresholds (R307, R330). -/
def thresholdsOf (b : List Nat) : Thresholds :=
  { claimConfirmMs := fieldLe b 0 2, writeFenceMs := fieldLe b 2 2, pairLinkPorts := fieldLe b 4 1, flags := fieldLe b 5 1,
    selftestCycleMin := fieldLe b 6 2, startupWaitS := fieldLe b 8 2, fedPorts := some (fieldLe b 0x10 1), announceLoss := fieldLe b 0x11 1,
    stepThresholdNs := fieldLe b 0x14 4, leaveTimeoutMs := fieldLe b 0x18 4 }

/-- Event recorder mode (R406). -/
def recorderOf (b : List Nat) : RecorderSection := ⟨fieldLe b 0 1, fieldLe b 1 1, fieldLe b 2 1⟩

/-- A port entry of Host ports (R117). -/
def hostPortEntryOf (b : List Nat) : HostPortEntry := ⟨fieldLe b 0 1, fieldLe b 1 1, fieldLe b 2 1, fieldLe b 3 1, fieldLe b 4 1⟩

/-- A function entry of Host ports (R117). -/
def funcEntryOf (b : List Nat) : FuncEntry := ⟨fieldLe b 0 1, fieldLe b 2 2, fieldLe b 4 2⟩

/-- Host ports (R117): the function entries that are not all zero are listed. -/
def hostSectionOf (b : List Nat) : HostSection :=
  let fs := entriesAt b 0x80 16 128
  { port0 := hostPortEntryOf b, port1 := hostPortEntryOf (b.drop 0x40),
    funcs := ((fs.mapIdx (fun i e => (i, funcEntryOf e))).filter (fun e => e.2 ≠ ⟨0, 0, 0⟩)),
    reservedZero := zeroAt b 5 59 && zeroAt b 0x45 59 && fs.all (fun e => zerosAt e [(1, 1), (6, 10)]) }

/-! ### Reserved bytes -/

/-- The reserved bytes of a section's body, offset and length, beyond those of Host ports (R129, R156, R212, R288, R306, R307, R329, R330,
R344, R353, R381, R382, R406). -/
def reservedIn (typ : Nat) (b : List Nat) : List (Nat × Nat) :=
  match typ with
  | 0x01 => [(0x14, 44), (0x61, 15)]
  | 0x02 => (List.range 48).map (fun i => (16 * i + 0xE, 2))
  | 0x06 => (List.range (b.length / 128)).flatMap (fun i => [(128 * i + 5, 3), (128 * i + 0x29, 7)])
  | 0x07 => (0x0A, 6) :: (List.range 4).flatMap (fun c => [(0x12 + 16 * c, 2), (0x18 + 16 * c, 8)])
  | 0x08 => [(0x1A, 6)]
  | 0x09 => (5, 27) :: (List.range 16).map (fun i => (0x25 + 8 * i, 3)) ++
      (List.range 8).flatMap (fun i => [(0xB1 + 64 * i, 1), (0xD0 + 64 * i, 16)])
  | 0x0A => [(0x0A, 22), (0x3D, 1), (0x56, 74), (0xBD, 1), (0xD6, 74)]
  | 0x0B => (0x21, 31) :: (List.range 7).map (fun i => (4 * i + 1, 1))
  | 0x0C => [(0x0A, 6), (0x12, 2), (0x1C, 4)]
  | 0x0D => [(3, 13)]
  | _ => []

/-! ### The whole image -/

/-- An image's bytes in decoded form (R31 to R33, R36); none where they are too few for a header and a trailer. -/
def decodeImage (b : List Nat) (facts : ImgFacts) : Option Image :=
  if b.length < 0x200 then none
  else
    let count := fieldLe b 0x0C 2
    let dir := (entriesAt b 0x100 16 (min count 64)).map dirEntryOf
    let t := b.drop (b.length - 256)
    let body := sectionBody b dir
    let raw (typ : Nat) : List Nat := (body typ).getD []
    let arr : List ArrEntry × List (ProgObj × List MapTable) :=
      if (raw 3).isEmpty && (raw 4).isEmpty && (raw 5).isEmpty then ([], []) else Config.arraySections (raw 3) (raw 4) (raw 5)
    some
      { magic := fieldLe b 0 4, formatMajor := fieldLe b 4 2, formatMinor := fieldLe b 6 2, totalLength := fieldLe b 8 4, sectionCount := count,
        flags := fieldLe b 0x0E 2, sequence := fieldLe b 0x10 8, buildTime := fieldLe b 0x18 8, deviceId := fieldLe b 0x20 16,
        minHbmStack := fieldLe b 0x30 1, headerReservedZero := zerosAt b [(0x31, 15), (0x78, 136)], canonicalDigest := fieldLe b 0x40 48,
        toolVersion := fieldLe b 0x70 8, dir := dir, keySlot := fieldLe t 0 1, keyHash := facts.keyHash,
        trailerZero := zerosAt t [(1, 7), (0x69, 7), (0xD0, 48)] && decide (fieldLe t 8 1 = 4), sigOk := facts.sigOk,
        canonicalSha := facts.canonicalSha, imageSha := facts.imageSha,
        hostPortsOk := ((body 0x0E).map (fun x => hostSectionOk (hostSectionOf x))).getD false,
        identity := (body 1).map identityOf, portMap := (body 2).map (fun x => (entriesAt x 0 16 48).map portEntryOf), arrays := arr.1,
        namespaces := (entriesAt (raw 6) 0 128 1025).map nsEntryOf, classPolicies := (body 7).map classPoliciesOf,
        writeCache := (body 8).map wcSectionOf, fans := (body 9).map fanSectionOf, gauge := (body 0xA).map gaugeOf,
        plucks := (body 0xB).map pluckSectionOf, thresholds := (body 0xC).map thresholdsOf, recorder := (body 0xD).map recorderOf,
        hostPorts := (body 0xE).map hostSectionOf, programs := arr.2,
        reservedZero := dir.all (fun d => zerosAt (part b d.offset d.length) (reservedIn d.typ (part b d.offset d.length))) }

/-- The staged bytes: as many as IMG_STAGE_LEN says, from the words of the staging buffer (R46). -/
def State.stagedBytes (s : State) : List Nat :=
  let n := min (s.fld Fld.IMG_STAGE_LEN.LEN) 2097152
  ((List.range ((n + 3) / 4)).flatMap (fun w => leBytes 4 ((tget s.img.stage w).getD 0))).take n

/-- The staged image in decoded form, with what the hash and signature hardware finds of it. -/
def State.stagedImage (s : State) (facts : ImgFacts) : Option Image := decodeImage s.stagedBytes facts

end Sys2Proof.Machine
end

