-- ==== Sys2Proof/Machine/Images.lean ====
section
/-!
DEFINITION. Machine/Images.lean: the staging commands, the signing keys and the rewrites of image copies (R37, R42, R44 to R50, R54).
-/
namespace Sys2Proof.Machine

/-- IMG_STAGE_STATUS.STATE (R54). -/
def State.stage (s : State) : Nat := s.fld Fld.IMG_STAGE_STATUS.STATE

/-- IMG_STAGE_STATUS.STATE set. -/
def State.setStage (s : State) (v : Nat) : State := s.setFld Fld.IMG_STAGE_STATUS.STATE v

/-- A staging command ended with an error, 0 for none (R54). -/
def State.stageError (s : State) (e : Nat) : State := s.setFld Fld.IMG_STAGE_STATUS.ERROR e

/-- The error with which a command of an interface is refused before anything else (R45, R54): a sequence of another interface, a command
running; firmware is no interface that owns a sequence. -/
def State.stageRefusal (s : State) (i : Iface) : Nat :=
  if i = .firmware ∨ (s.stage ≠ 0 ∧ s.fld Fld.IMG_STAGE_STATUS.OWNER ≠ ifaceOwner i) then 1
  else if s.bit Fld.IMG_STAGE_STATUS.BUSY ∨ s.pwr.fast ≠ .running then 2
  else 0

/-- The staging sequence ended (R45, R46). -/
def State.stageIdle (s : State) : State :=
  let i := s.img
  let s := { s with img := { i with stage := [], staged := none, newArrays := [] } }
  (((s.setStage 0).setFld Fld.IMG_STAGE_STATUS.OWNER 0).setFld Fld.IMG_STAGE_STATUS.CHANGE_CLASS 0).setBit
    Fld.IMG_STAGE_STATUS.BUSY false

/-- OPEN (R45, R46 step 1). In Safe Mode a further image may be staged in place of a committed one, which stays in its copy (R46). -/
def execStageOpen (iface : Iface) (s : State) : Out State :=
  let e := s.stageRefusal iface
  if e ≠ 0 then .next (s.stageError e)
  else if s.stage ≠ 0 ∧ ¬ (s.stage = 5 ∧ s.safeMode = true) then .next (s.stageError 2)
  else
    let i := s.img
    let s := { s with img := { i with stage := [], staged := none, newArrays := [] } }
    let s := s.setFld Fld.IMG_STAGE_STATUS.CHANGE_CLASS 0
    .next (((s.setStage 1).setFld Fld.IMG_STAGE_STATUS.OWNER (ifaceOwner iface)).stageError 0)

/-- VERIFY (R31 to R39, R46 step 3, R47, R494) of the staged bytes. -/
def execStageVerify (iface : Iface) (facts : ImgFacts) (s : State) : Out State :=
  let e := s.stageRefusal iface
  if e ≠ 0 then .next (s.stageError e)
  else if s.stage ≠ 1 then .next (s.stageError 2)
  else
    match s.stagedImage facts with
    | none => .next ((s.setStage 8).stageError 4)
    | some i =>
      let v := s.verifyImage i
      if v.1 ≠ 0 then .next ((s.setStage 8).stageError v.1)
      else
        let s := { s with img := { s.img with staged := some i, newArrays := v.2 } }
        .next (((s.setStage 3).setFld Fld.IMG_STAGE_STATUS.CHANGE_CLASS (s.changeClass i)).stageError 0)

/-- COMMIT begun (R46 step 4, R47): the target copy is erased. -/
def execStageCommit (iface : Iface) (s : State) : Out State :=
  let e := s.stageRefusal iface
  if e ≠ 0 then .next (s.stageError e)
  else if s.stage ≠ 3 then .next (s.stageError 2)
  else
    let s := (s.setCopy s.commitTarget .notAnImage).showCopies
    .next (((s.setStage 4).setBit Fld.IMG_STAGE_STATUS.BUSY true).stageError 0)

/-- COMMIT_COMPLETE (R46, R50, R54): the target copy programmed and read back as it was staged, or not, and verified again, since a key may
have been revoked; flash programming stops while AC_FAIL_N is asserted. From now on a reset boots the image, so what VERIFY found for its new
arrays is recorded for that boot (R50, R494). -/
def execCommitComplete (ok : Bool) (s : State) : Out State :=
  if s.stage ≠ 4 ∨ s.acFail = true then .next s
  else
    let s := s.setBit Fld.IMG_STAGE_STATUS.BUSY false
    match s.img.staged with
    | some i =>
      if ok && decide (s.imageReason i = 0) then
        let s := { s with img := { s.img with toCreate := s.img.newArrays } }
        .next ((((s.setCopy s.commitTarget (.image i)).showCopies).setStage 5).stageError 0)
      else .next ((s.setStage 3).stageError 0x0A)
    | none => .next ((s.setStage 3).stageError 0x0A)

/-- The error that stops an activation of the committed image (R48, R49, R494): each drive of a new array must be the one that VERIFY found, by
serial and capacity. -/
def State.activationError (s : State) (i : Image) : Nat :=
  if s.bit Fld.HFE_STATUS.REPLAY_PENDING then 9
  else
    let c := s.stateCheck i
    if c.1 = 0 ∧ c.2 ≠ s.img.newArrays then 0x0D else c.1

/-- ACTIVATE_LIVE (R48): every live section at one apply point, between two commands of the queue; commands fetched before it run on with the
sections they began with (State.sections); the rewrites of step 6 follow. -/
def execActivateLive (iface : Iface) (s : State) : Out State :=
  let e := s.stageRefusal iface
  if e ≠ 0 then .next (s.stageError e)
  else
    match s.img.staged with
    | none => .next (s.stageError 2)
    | some i =>
      if s.stage ≠ 5 ∨ s.acFail = true then .next (s.stageError 2)
      else if s.fld Fld.IMG_STAGE_STATUS.CHANGE_CLASS ≠ 1 ∨ s.safeMode = true then .next (s.stageError 0x0B)
      else
        let e := s.activationError i
        if e ≠ 0 then .next (s.stageError e)
        else
          let s := (s.applyLive i).startFed.computeEnergy
          .next (((s.recomputeLimit.computeEnergy.updateFans.setStage 7).showRewrite).stageError 0)

/-- ACTIVATE_RESET (R44, R48, R49): fetch stops, and the cache is destaged until it is clean. -/
def execActivateReset (iface : Iface) (s : State) : Out State :=
  let e := s.stageRefusal iface
  if e ≠ 0 then .next (s.stageError e)
  else
    match s.img.staged with
    | none => .next (s.stageError 2)
    | some i =>
      if s.stage ≠ 5 then .next (s.stageError 2)
      else
        let e := s.activationError i
        if e ≠ 0 then .next (s.stageError e)
        else
          let s := ((s.setStage 6).setBit Fld.IMG_STAGE_STATUS.BUSY true).hold .activation
          .next (({ s with wc := { s.wc with destageAll := s.wc.lines.any (fun l => l.2.isDirty) } } : State).stageError 0)

/-- ACTIVATE_RESET_DESTAGED (R48, R494): the cache is clean, so the fast domains are reset and the committed image boots; new arrays are
created at that boot with what VERIFY found. -/
def execActivateResetDestaged (s : State) : Out State :=
  if s.stage ≠ 6 ∨ s.hfe.cmds.isEmpty = false ∨ s.wc.updates.isEmpty = false ∨ 0 < s.vaulted then .next s
  else
    let news := s.img.newArrays
    let s := s.fastReset
    let s := { s with img := { s.img with toCreate := news } }
    let s := s.setBit Fld.PWR_RESET_INFO.ACTIVATE true
    if s.canBoot then .next s.startBoot else .next s

/-- ABORT (R45, R46): before COMMIT the buffer is discarded; in COMMITTED the target copy is rewritten from the running image, which Safe
Mode does not have. -/
def execStageAbort (iface : Iface) (s : State) : Out State :=
  let e := s.stageRefusal iface
  if e ≠ 0 then .next (s.stageError e)
  else if [1, 3, 8].contains s.stage then .next (s.stageIdle.stageError 0)
  else if s.stage = 5 then
    match s.img.running with
    | none => .next (s.stageError 2)
    | some r =>
      let s := { s with img := { s.img with toCreate := [] } }
      .next (((s.setCopy s.commitTarget (.image r)).stageIdle.showCopies).stageError 0)
  else .next (s.stageError 2)

/-- A tie resolved by naming a copy (R44, R54): in Safe Mode for reason 2, with a token; the other copy is rewritten from it. -/
def State.selectCopy (s : State) (iface : Iface) (op src : Nat) : State :=
  let e := s.stageRefusal iface
  if e ≠ 0 then s.stageError e
  else if s.safeMode = false ∨ s.fld Fld.IMG_BOOT.SAFE_REASON ≠ 2 then s.stageError 2
  else
    let ok := s.tokenOk op 0 (s.fld Fld.IMG_AUTH)
    let s := s.tokenChecked op (ifaceOwner iface) ok
    if ok then (((s.setCopy (1 - src) (s.copyOf src)).showCopies).emit .tieResolved [src]).stageError 0
    else s.stageError 0x0C

/-- SELECT_COPY_A (R44). -/
def execSelectCopyA (iface : Iface) (s : State) : Out State := .next (s.selectCopy iface 2 0)

/-- SELECT_COPY_B (R44). -/
def execSelectCopyB (iface : Iface) (s : State) : Out State := .next (s.selectCopy iface 3 1)

/-- The key slots as IMG_KEY_STATUS shows them (R51). -/
def State.showKeys (s : State) : State :=
  let mask (f : KeySlot → Bool) : Nat := maskOf 4 (fun i => ((s.img.keys[i]?).map f).getD false)
  (s.setFld Fld.IMG_KEY_STATUS.PROGRAMMED (mask (·.programmed))).setFld Fld.IMG_KEY_STATUS.REVOKED (mask (·.revoked))

/-- KEY_ENROL (R37, R410): a token for the slot, and a statement signed by an unrevoked programmed key; slots 1 to 3, each once. -/
def execSigningKeyEnrol (iface : Iface) (st : KeyStatement) (s : State) : Out State :=
  let e := s.stageRefusal iface
  if e ≠ 0 then .next (s.stageError e)
  else
    let ok := s.tokenOk 4 st.slot (s.fld Fld.IMG_AUTH)
    let s := s.tokenChecked 4 (ifaceOwner iface) ok
    if !ok then .next (s.stageError 0x0C)
    else
      match s.img.keys[st.slot]? with
      | some k =>
        if st.sigOk = true ∧ s.slotLive st.signer = true ∧ k.programmed = false ∧ st.slot ≠ 0 then
          .next (((({ s with img := { s.img with keys := s.img.keys.set st.slot ⟨st.hash, true, false⟩ } } : State).showKeys).showCopies).stageError 0)
        else .next (s.stageError 3)
      | none => .next (s.stageError 3)

/-- KEY_REVOKE (R37, R410): a token for the slot, and a statement signed by a different unrevoked key; never the last unrevoked slot. -/
def execSigningKeyRevoke (iface : Iface) (st : KeyStatement) (s : State) : Out State :=
  let e := s.stageRefusal iface
  if e ≠ 0 then .next (s.stageError e)
  else
    let ok := s.tokenOk 5 st.slot (s.fld Fld.IMG_AUTH)
    let s := s.tokenChecked 5 (ifaceOwner iface) ok
    if !ok then .next (s.stageError 0x0C)
    else
      match s.img.keys[st.slot]? with
      | some k =>
        let live := (s.img.keys.filter (fun x => x.programmed && !x.revoked)).length
        if st.sigOk = true ∧ s.slotLive st.signer = true ∧ st.signer ≠ st.slot ∧ s.slotLive st.slot = true ∧ 1 < live then
          .next (((({ s with img := { s.img with keys := s.img.keys.set st.slot { k with revoked := true } } } : State).showKeys).showCopies).stageError 0)
        else .next (s.stageError 3)
      | none => .next (s.stageError 3)

/-- IMAGE_COPY_REWRITE (R42, R46 step 6): a due copy rewritten from the running image, once the host link is ready; a rewrite that fails
leaves it invalid. With the last one a staging sequence ends. DESIGN CHOICE (assumption 23): while a staging sequence is COMMITTING, COMMITTED or
ACTIVATING no copy is rewritten. -/
def execImageCopyRewrite (copy : Fin 3) (ok : Bool) (s : State) : Out State :=
  match s.img.running with
  | none => .next s
  | some r =>
    if s.rewriteDue copy.val = false ∨ s.pwr.fast ≠ .running ∨ s.bit Fld.PWR_STATE.BOOTING = true ∨ s.acFail = true ∨
        (s.stage = 4 ∨ s.stage = 5 ∨ s.stage = 6) then .next s
    else
      let s := (s.setCopy copy.val (if ok then .image r else .notAnImage)).showCopies.showRewrite
      let s := s.emit .imageRewrite [copy.val, r.sequence, bit1 ok]
      if s.stage = 7 ∧ s.bit Fld.IMG_BOOT.REWRITE_PENDING = false then .next s.stageIdle else .next s

end Sys2Proof.Machine
end

