-- ==== Sys2Proof/Machine/Ports.lean ====
section
/-!
DEFINITION. Machine/Ports.lean: the drive ports' commands and events (R123, R214, R290 to R304).
-/
namespace Sys2Proof.Machine

/-- A PORT_CMD or port event that does not apply in the current STATE is ignored and recorded (R304). -/
def State.portIgnored (s : State) (p : PortId) (cmd : Nat) : State := s.emit .portCmdIgnored [p.val, cmd]

/-- DRIVE_PRESENT (R297, R299): DRV_PRSNT_N asserts; a powered slot starts training. -/
def execDrivePresent (port : PortId) (s : State) : Out State :=
  let s := s.setBit (Fld.LINK_STATUS.PRESENT.at port.val) true
  if s.portMode port = 0 ∨ ¬ (s.port port).pwren ∨ s.portState port = 5 then .next s
  else .next (s.setPortState port 2)

/-- A drive rejected with a reason (R287, R297). A member's removal window runs on. -/
def State.rejectDrive (s : State) (p : PortId) (reason : Nat) : State :=
  (s.setPortState p 6).setFld (Fld.PORT_STATE.REJECT_REASON.at p.val) reason

/-- A port ready with its drive (R297). -/
def State.portReady (s : State) (p : PortId) : State :=
  let s := s.putPort p { s.port p with windowEnd := 0, startupWindow := false, heldIdent := false }
  (s.setPortState p 4).setFld (Fld.PORT_STATE.REJECT_REASON.at p.val) 0

/-- Whether a drive is the one that VERIFY found for a member of an array created at the last boot (R494). -/
def State.newMemberDrive (s : State) (p : PortId) (a : ArrayId) (d : Drive) : Bool :=
  s.img.toCreate.any (fun n => n.index == a && n.drives.contains (p, d.serial, d.capacity))

/-- A drive taken up by an array created at the last boot: nothing of what it held counts, and the labels are written (R82, R494). -/
def State.takeNewDrive (s : State) (p : PortId) (a : ArrayId) : State :=
  let l := s.img.toCreate.map (fun (n : NewArray) =>
    if n.index = a then { n with drives := n.drives.filter (fun x => x.1 ≠ p) } else n)
  let s := { s with img := { s.img with toCreate := l.filter (fun n => !n.drives.isEmpty) } }
  ((s.portReady p).putMedia p Media.fresh).rewriteLabels a

/-- The label of a drive that has rejoined its index at start-up compared with eMRAM and the image (R87): where they disagree the difference is
recorded and the labels are rewritten; a replacement whose labels had just been written goes on (R298). -/
def State.compareLabel (s : State) (p : PortId) (d : DriveInfo) : State :=
  match s.portMember p with
  | none => s
  | some (a, m) =>
    match s.arr a, bestLabel d.labels with
    | some r, some l =>
      match r.mem m with
      | none => s
      | some x =>
        if s.portState p ≠ 4 ∨ l.arrayUuid ≠ r.uuid ∨ l.memberUuid ≠ x.uuid then s
        else if !labelAgrees l (s.labelFor r m x.uuid) then (s.rewriteLabels a).emit .labelDiffers [p.val, a.val, m]
        else if x.fresh then s.putArr a (r.startFresh m)
        else s
    | _, _ => s

/-- The outcome of identification on a port (R297, R298). `accept`: as if AUTO_REPLACE were 1. -/
def State.placeDrive (s : State) (p : PortId) (d : Drive) (accept : Bool) : State :=
  match s.portMember p with
  | none => s.portReady p
  | some (a, m) =>
    match s.arr a with
    | none => s.portReady p
    | some r =>
      match r.mem m with
      | none => s.portReady p
      | some x =>
        let auto := accept || decide (((s.portCfg p).map (·.flags)).getD 0 % 2 = 1)
        if memberSectors d.capacity < r.cur.dataSectors then s.rejectDrive p 3
        else if s.newMemberDrive p a d && x.state == .active then s.takeNewDrive p a
        else if x.state = .active ∨ x.state = .rebuilding then
          if d.label = some (r.uuid, x.uuid) then s.portReady p
          else
            let s := s.putPort p { s.port p with heldIdent := true }
            (s.setPortState p 3).emit .driveHeld [p.val, a.val, m]
        else if (d.label.map (·.1) = none ∨ d.label.map (·.1) = some r.uuid ∨ accept) ∧ auto then
          (s.portReady p).admitReplacement a m p
        else s.rejectDrive p 4

/-- DRIVE_IDENTIFIED (R287, R297, R298): identification fails, or the drive rejoins, becomes a replacement, becomes free,
is rejected or is held. -/
def execDriveIdentified (port : PortId) (d : DriveInfo) (s : State) : Out State :=
  let mode := s.portMode port
  if mode = 0 ∨ ¬ (s.port port).pwren then .next s
  else
    let reason := if d.reject ≠ 0 then d.reject else if mode = 2 ∧ ¬ d.dual then 7 else 0
    let s := s.setBit (Fld.LINK_STATUS.PRESENT.at port.val) true
    if reason = 6 then .next (s.rejectDrive port 6)
    else
      let s := s.setBit (Fld.LINK_STATUS.LINK_UP.at port.val) true
      let s := (s.setFld (Fld.LINK_STATUS.RATE.at port.val) d.rate).setFld (Fld.LINK_STATUS.WIDTH.at port.val) d.width
      let s := s.setBit (Fld.LINK_STATUS.DUAL_PORT.at port.val) d.dual
      let s := (s.setFld (Fld.CAPACITY.at port.val) d.capacity).setFld (Fld.DRIVE_SERIAL.at port.val) d.serial
      let dr : Drive := ⟨d.serial, d.capacity, d.dual, d.label⟩
      let s := s.putPort port { s.port port with drive := some dr }
      let startup := (s.port port).startupWindow
      if reason ≠ 0 then .next (s.rejectDrive port reason)
      else .next (if startup then (s.placeDrive port dr false).compareLabel port d else s.placeDrive port dr false)

/-- DRIVE_LINK_LOSS (R292, R295). -/
def execDriveLinkLoss (port : PortId) (gone : Bool) (s : State) : Out State :=
  let s := s.setBit (Fld.LINK_STATUS.PRESENT.at port.val) (!gone)
  .next (s.linkLoss port)

/-- An index whose window of R296 ends without its drive: absent, unless a drive with its MEMBER_UUID has answered (R178). A drive that answered
and was rejected for its capacity leaves its index as under link loss, so the member fails (R297). -/
def State.indexAbsent (s : State) (a : ArrayId) (m : Nat) (p : PortId) : State :=
  match (s.arr a).bind (fun r => (r.mem m).map (fun x => (r, x))) with
  | none => s
  | some (r, x) =>
    let own : Bool := match (s.port p).drive with
      | some d => d.label == some (r.uuid, x.uuid)
      | none => false
    if !own then s.dropMember a m .absent 0
    else if s.portState p = 6 then s.failMember a m .linkLost
    else s

/-- REMOVAL_TIMEOUT (R295, R296): the window ends with no matching drive back, so the member is failed for Link lost, or
the index is absent after a start-up window; a drive held in IDENTIFYING is then identified again. Without a window
nothing happens. -/
def execRemovalTimeout (port : PortId) (s : State) : Out State :=
  let q := s.port port
  if q.windowEnd = 0 then .next s
  else
    let s := s.putPort port { q with windowEnd := 0, startupWindow := false }
    let s := match s.portMember port with
      | none => s
      | some (a, m) => if q.startupWindow then s.indexAbsent a m port else s.failMember a m .linkLost
    match q.heldIdent, q.drive with
    | true, some d => .next ((s.putPort port { s.port port with heldIdent := false }).placeDrive port d false)
    | _, _ => .next (if s.portState port = 7 then s.setPortState port 2 else s)

/-- SPINUP_DELAY_EXPIRY (R299): a port that waits for its delay asserts DRV_PWREN. -/
def execSpinupDelayExpiry (port : PortId) (s : State) : Out State :=
  if s.portState port = 1 ∧ ¬ (s.port port).pluckWait then .next (s.powerUpPort port) else .next s

/-- SPINUP_PLUCK_TIMEOUT (R299): no spin-up pluck in 120 s, so the delay starts now, and an event is recorded. -/
def execSpinupPluckTimeout (port : PortId) (s : State) : Out State :=
  let q := s.port port
  if s.portState port = 1 ∧ q.pluckWait then
    .next ((s.putPort port { q with pluckWait := false, delayEnd := s.now + s.spinDelay port }).emit .spinupPluckTimeout
      [port.val])
  else .next s

/-- SPINUP_WAIT_EXPIRY (R287, R299): a drive that is present and has not identified is REJECTED with reason 6; without one
the index's window decides (R296). -/
def execSpinupWaitExpiry (port : PortId) (s : State) : Out State :=
  if (s.portState port = 2 ∨ s.portState port = 3) ∧ (s.port port).drive.isNone ∧
      s.bit (Fld.LINK_STATUS.PRESENT.at port.val) then .next (s.rejectDrive port 6)
  else .next s

/-- Whether a tag-sector write waits (R81): for the data sectors that it describes, and for another write of the same tag sector. -/
def State.tagHeld (s : State) (p : PortId) (c : MCmd) : Bool :=
  let q := s.port p
  let groups (d : MCmd) : List Nat := match s.cmdPos d with
    | some (_, _, x) => d.rows.map (fun row => (x.sector + row) / 63)
    | none => []
  c.kind == .tagWrite &&
    ((q.waiting ++ q.slots.map (·.2)).any (fun d => d.kind == .write && d.owner == c.owner && d.unit == c.unit) ||
     q.slots.any (fun d => d.2.kind == .tagWrite && (groups d.2).any (fun i => (groups c).contains i)))

/-- The next command a port issues (R290): the oldest class-0 one, else the oldest of a class that the weights let go, `pick` preferred; write-class ones are refused while the gate is closed (R301) and after AC_FAIL_N has asserted (R163). -/
def State.nextIssue (s : State) (p : PortId) (pick : Cls) : Option (Nat × MCmd) :=
  let l := (s.port p).waiting.mapIdx (fun i c => (i, c))
  let ok := l.filter (fun c => (s.gateOpen && !s.acFail || !writeClass c.2.kind) && !s.tagHeld p c.2)
  (wrrNext s.classWeights (s.port p).grants (ok.map (fun c => c.2.cls)) pick.val).bind (fun k => ok.find? (fun c => c.2.cls = k))

/-- MEMBER_COMMAND_ISSUE (R290, R301): a READY port with a free slot issues its next command. -/
def execMemberCommandIssue (port : PortId) (pick : Cls) (s : State) : Out State :=
  if s.portState port ≠ 4 ∨ s.pwr.fast ≠ .running then .next s
  else
    match s.nextIssue port pick with
    | none => .next s
    | some (i, c) =>
      match s.freeSlot port c.cls with
      | none => .next s
      | some slot =>
        let q := s.port port
        let s := s.stampCmd c.owner (fun x => { x with issued := s.now })
        .next ((s.putPort port { q with waiting := q.waiting.eraseIdx i,
                                        grants := wrrGive s.classWeights q.grants (q.waiting.map (·.cls)) c.cls,
                                        slots := tput q.slots slot { c with issuedAt := s.now } }).countSlots port)

/-- Whether the read that has just completed was the last of a copy that nobody waits for: every sector it was wanted for has been delivered from
the other copy (R216). The original is the late read; a reconstructed copy is complete with the last of its reads. -/
def State.superseded (s : State) (c : MCmd) : Bool :=
  match c.owner, (if h : c.array < 16 then some (⟨c.array, h⟩ : ArrayId) else none) with
  | .host t, some a => match s.cmd t with
    | some h =>
      let settled : Bool := h.phase == .collected || (readSettled h && !h.read.isEmpty)
      c.kind == .read && settled && (c.late || (s.readsOut h a c.previous c.stripe).all (·.late))
    | none => false
  | _, _ => false

/-- What a member write that is durable leaves on the drive (R81, R86, R159): a label copy; a data sector of an update, whose old tag still stands;
the tags of an update's sectors in one group. -/
def State.written (s : State) (port : PortId) (c : MCmd) : State :=
  match c.kind, c.owner with
  | .label, .background a =>
    match s.portMember port with
    | some (_, m) => s.labelWritten a m c.unit port
    | none => s
  | .write, .update id => s.dataWritten port id c
  | .tagWrite, .update id => s.tagsWritten id c
  | _, _ => s

/-- MEMBER_COMPLETION (R123, R291, R292): a completion for an empty slot is discarded; a stale one is dropped; a media error
ends a read, which is then served from the other units; a write fault is retried; a malformed one counts as a timeout. -/
def execMemberCompletion (port : PortId) (slot : Nat) (res : McResult) (s : State) : Out State :=
  match tget (s.port port).slots slot with
  | none => .next (s.incFld (Fld.SLOT_LATE_COUNT.at port.val) 1)
  | some c =>
    match res with
    | .protocol status => .next (s.portTimeout port slot 5 status)
    | _ =>
      let late := s.isLate port c
      let s := s.dropSlot port slot
      if late then .next (s.lateDrop port c)
      else
        let s := if s.superseded c then s.incFld Fld.LAT_SUPERSEDED 1 else s
        let s := s.stampCmd c.owner (fun x => { x with done := s.now })
        match res with
        | .ok =>
          let s := if writeClass c.kind then s.incFld (Fld.WRITE_COUNT.at port.val) 1 else s.incFld (Fld.READ_COUNT.at port.val) 1
          .next (s.written port c)
        | .critical => .next ((s.incFld (Fld.READ_COUNT.at port.val) 1).emit .driveHealth [port.val])
        | .media status =>
          let s := (s.errInfo port 2 status slot).incFld (Fld.MEDIA_ERR_COUNT.at port.val) 1
          let s := s.spoil port c true
          match s.portMember port with
          | some (a, m) => .next ((s.avoidMember c.owner m).mediaErr a m)
          | none => .next s
        | .writeFault status =>
          let s := (s.errInfo port 3 status slot).spoil port c false
          .next (s.retry port { c with unknown := true })
        | .protocol _ => .next s

/-- MEMBER_TIMEOUT (R292, R293). -/
def execMemberTimeout (port : PortId) (slot : Nat) (s : State) : Out State :=
  match tget (s.port port).slots slot with
  | none => .next s
  | some _ => .next (s.portTimeout port slot 1 0)

/-- ESCALATION_STEP_DONE (R293): after an abort only the timed-out command is retried; after a reset the port is ready
again, or identifies its drive when it knows none. -/
def execEscalationStepDone (port : PortId) (s : State) : Out State :=
  match (s.port port).esc with
  | none => .next s
  | some e =>
    let s := s.putPort port { s.port port with esc := none }
    if e.step = 1 then
      match e.slot with
      | none => .next s
      | some slot =>
        match tget (s.port port).slots slot with
        | none => .next s
        | some c => .next ((s.dropSlot port slot).retry port c)
    else
      match (s.port port).drive with
      | some _ => .next (s.setPortState port 4)
      | none => .next (s.setPortState port 2)

/-- ESCALATION_STEP_TIMEOUT (R293): the next step runs; after step 4 the link is lost. -/
def execEscalationStepTimeout (port : PortId) (s : State) : Out State :=
  match (s.port port).esc with
  | none => .next s
  | some e => .next (s.escalate port (e.step + 1) e.slot)

/-- HEALTH_POLL (R302): a READY port queues a read of its drive's health as class 3. -/
def execHealthPoll (port : PortId) (s : State) : Out State :=
  if s.portState port = 4 then
    .next (s.enqueue port { owner := .port, gen := 0, cls := 3, kind := .health, array := 0, previous := false,
                            stripe := 0, unit := 0, rows := [], attempts := 0, issuedAt := 0, late := false,
                            unknown := false })
  else .next s

/-- Whether a port has a powered link that a reset can act on (R304). -/
def State.resettable (s : State) (p : PortId) : Bool :=
  s.portState p == 3 || s.portState p == 4 || s.portState p == 5 || s.portState p == 6

/-- A reset asked for by PORT_CMD (R304): a rejected drive is identified again after it. -/
def State.cmdReset (s : State) (p : PortId) (step cmd : Nat) : State :=
  if s.resettable p then
    let s := if s.portState p = 6 ∨ s.portState p = 3 then s.forgetDrive p else s
    (s.putPort p { s.port p with esc := none }).escalate p step none
  else s.portIgnored p cmd

/-- RESET_LINK (R304): step 3 of R293. -/
def execPortResetLink (port : PortId) (s : State) : Out State := s.command (Fld.PORT_CMD.CMD.at port.val).addr (fun s =>
  .next (s.cmdReset port 3 1))

/-- POWER_CYCLE (R304): step 4 of R293. -/
def execPortPowerCycle (port : PortId) (s : State) : Out State := s.command (Fld.PORT_CMD.CMD.at port.val).addr (fun s =>
  .next (s.cmdReset port 4 2))

/-- ACCEPT (R304): a drive rejected for its labels is admitted as if AUTO_REPLACE were 1, or as a free drive. -/
def execPortAccept (port : PortId) (s : State) : Out State :=
  s.command (Fld.PORT_CMD.CMD.at port.val).addr (fun s =>
  if s.portState port = 6 ∧ s.fld (Fld.PORT_STATE.REJECT_REASON.at port.val) = 4 then
    match (s.port port).drive with
    | some d => .next (s.placeDrive port d true)
    | none => .next (s.portIgnored port 3)
  else .next (s.portIgnored port 3))

/-- RELEASE (R304): flush, shut down and deassert DRV_PWREN; refused for an active or rebuilding member. -/
def execPortRelease (port : PortId) (s : State) : Out State :=
  s.command (Fld.PORT_CMD.CMD.at port.val).addr (fun s =>
  let busy : Bool := match s.portMember port with
    | some (a, m) => s.memState a m == some .active || s.memState a m == some .rebuilding
    | none => false
  if busy || !(s.port port).pwren then .next (s.portIgnored port 4)
  else
    let s := s.putPort port { s.port port with waiting := [], slots := [], esc := none }
    let s := ((s.countSlots port).linkDown port).forgetDrive port
    .next ((s.setPwren port false).setPortState port 8))

/-- SPINUP_NOW (R299): a waiting port starts at once. -/
def execPortSpinupNow (port : PortId) (s : State) : Out State :=
  s.command (Fld.PORT_CMD.CMD.at port.val).addr (fun s =>
  if s.portState port = 1 then .next (s.powerUpPort port) else .next (s.portIgnored port 5))

/-- A command in a slot marked as past its deadline (R215). -/
def State.markLate (s : State) (port : PortId) (slot : Nat) (c : MCmd) : State :=
  s.putPort port { s.port port with slots := tput (s.port port).slots slot { c with late := true } }

/-- MEMBER_DEADLINE (R214, R217): a member read that misses its class's deadline is late, and the units that R180 needs to solve its row without
it are read, with the command's class; a row with more than two units late or missing is not reconstructed, and the command is outside the
bound. -/
def execMemberDeadline (port : PortId) (slot : Nat) (s : State) : Out State :=
  match tget (s.port port).slots slot with
  | none => .next s
  | some c =>
    match c.owner with
    | .host tag =>
      match s.cmd tag with
      | none => .next s
      | some h =>
        let on : Bool := match (s.classAt h.order).classes[c.cls]? with
          | some e => decide (e.memberDeadlineUs ≠ 0) && (c.cls == 0 || e.flags % 2 == 1)
          | none => false
        if !on || c.kind != .read || c.late || s.isLate port c then .next s
        else
          match (if h : c.array < 16 then (s.arr ⟨c.array, h⟩).map (fun r => ((⟨c.array, h⟩ : ArrayId), r)) else none) with
          | none => .next s
          | some (a, r) =>
            match r.geom c.previous with
            | none => .next s
            | some g =>
              let s := s.markLate port slot c
              let at_ (row : Nat) : Place := ⟨c.previous, c.stripe, c.unit, row⟩
              if 2 < (s.badFor h a r g (at_ 0)).length then
                .next (s.stampCmd c.owner (fun x => { x with outside := true }))
              else
                let s := s.incFld (Fld.LAT_RECON.at c.cls) 1
                .next (c.rows.foldl (fun (st : State) row => st.askPlan h a r g (at_ row)) s)
    | _ => .next s

end Sys2Proof.Machine
end

