-- ==== Sys2Proof/Machine/Power.lean ====
section
/-!
DEFINITION. Machine/Power.lean: the commands and events of power, clocks and reset (R16 to R20, R28 to R30, R141, R164, R165, R420 to
R442, R481).
-/
namespace Sys2Proof.Machine

/-- Fast PLLs (R424): bits 4 to 7 of the locked PLLs. -/
def State.fastLocked (s : State) : Bool := decide (s.pwr.plls / 16 % 16 = 15)

/-! ### Mains (R16, R165, R481) -/

/-- AC_FAIL_N_ASSERT (R16, R163, R259, R315, R359, R361, R369, R408, R463, R481): HOLDUP_EN asserts, fetch stops, and the device dumps; in
Silence nothing is to be dumped, and during a boot or a replay nothing new is dirty. -/
def execAcFailNAssert (s : State) : Out State :=
  if s.acFail then .next s
  else
    let s := (s.setBit Fld.NRG_STATUS.AC_FAIL true).thaw
    let s := bothPacks.foldl (fun (st : State) p =>
      let st := st.abortTest p
      if (st.pack p).learn.isSome then st.endLearn p 7 else st) s
    let s := (((s.setHoldup true).hold .acFail).saveCounters).saveMarks
    let s := s.dmaDropAll.dropBarriers
    let s := if s.role = 3 then (s.beginRelease 1).sendHealth else s
    if s.fld Fld.PWR_STATE.STATE = 3 then .next (s.emit .acFailSilence [])
    else
      let s := s.abandonTransition
      if s.pwr.fast ≠ .running ∨ s.bit Fld.PWR_STATE.BOOTING ∨ s.bit Fld.HFE_STATUS.REPLAY_PENDING ∨ s.safeMode = true then .next s
      else if s.wc.dumpArea.isSome then .next s
      else .next (s.dumpFor .acFail)

/-- AC_FAIL_N_DEASSERT (R16, R59, R165, R355, R357, R481): a restore under way completes; packs cut off for voltage are enabled again and deferred tests requested; a running
dump completes first; else HOLDUP_EN falls and fetch resumes. -/
def execAcFailNDeassert (s : State) : Out State :=
  if !s.acFail then .next s
  else
    let s := (s.setBit Fld.NRG_STATUS.AC_FAIL false).finishRestore
    let s := bothPacks.foldl (fun (st : State) p =>
      let x := st.pack p
      if x.cut = some .voltage then st.putPack p { x with cut := none, en := st.packPresent p } else st) s
    let l := s.nrg.deferred
    let s := l.foldl (fun (st : State) p => st.requestTest p) { s with nrg := { s.nrg with deferred := [] } }
    if s.wc.dumpArea.isSome ∧ s.wc.dumpWhy = some .acFail then .next s
    else if s.fld Fld.PWR_STATE.STATE = 3 then .next ((s.resumeMains).emit .acReturnSilence [])
    else .next s.resumeMains

/-- DUMP_COMMIT (R164, R364): what fits is saved, the commit record is written, and what the dump was for follows. -/
def execDumpCommit (s : State) : Out State :=
  match s.wc.dumpArea, s.wc.dumpWhy with
  | some i, some why =>
    let room := s.dumpRoom
    let s := { s with vault := { s.vault with dumps := tmod s.vault.dumps i (fun (d : Dump) =>
      { (d.saveFirst room) with committed := true }) } }
    let s := (s.setBit (Fld.VLT_AREA.COMPLETE.at i) true).incFld Fld.VLT_DUMP_COUNT 1
    let s := s.setFld Fld.VLT_LAST_DUMP_MS (min ((s.now - s.wc.dumpAt) / ms) 0xFFFFFFFF)
    let s := (s.setBit Fld.VLT_STATUS.DUMPING false).saveCounters
    let s := bothPacks.foldl (fun (st : State) p =>
      if st.packPresent p then st.putPack p { st.pack p with writeDue := true } else st) s
    .next (s.afterDump why (some i))
  | _, _ => .next s

/-! ### Power states (R19, R20, R141, R427 to R431) -/

/-- Whether an entry has come to its quiesce point (R19, R20, R163, R259, R427, R431): no command, no update, no descriptor running; for
Silence a clean cache and an empty bow buffer too, but not of an entry that is to reverse, or that a reset waits for. -/
def State.quiet (s : State) : Bool :=
  s.hfe.cmds.isEmpty && s.wc.updates.isEmpty && s.dma.runs.isEmpty &&
  (s.fld Fld.PWR_STATE.TARGET != 3 || s.pwr.reversing || s.pwr.sysPending || decide (s.vaulted = 0))

/-- The bow buffers emptied as far as their bows allow while Silence is being entered (R20): every reshaping array's checkpoint is written.
Displaced copies above a bow go as the reshape goes on to pass them. -/
def State.drainBows (s : State) : State :=
  if s.fld Fld.PWR_STATE.STATE = 4 ∧ s.fld Fld.PWR_STATE.TARGET = 3 ∧ s.pwr.reversing = false then
    s.rbe.arrays.foldl (fun (st : State) (e : Nat × Arr) =>
      if h : e.1 < 16 then
        match st.arr ⟨e.1, h⟩ with
        | some r => if r.prev.isSome && !r.sources.isEmpty then st.checkpoint ⟨e.1, h⟩ r else st
        | none => st
      else st) s
  else s

/-- QUIESCE_POINT (R19, R20, R427, R428, R431): the entry ends, or reverses where a wake came; a reset that waited acts now. -/
def execQuiescePoint (s : State) : Out State :=
  let s := s.drainBows
  if s.fld Fld.PWR_STATE.STATE ≠ 4 ∨ s.quiet = false then .next s
  else
    let target := s.fld Fld.PWR_STATE.TARGET
    let s := { s with wc := { s.wc with destageAll := false } }
    if s.pwr.sysPending then
      let s := s.settle s.pwr.lastOp
      if s.dumpNeeded then .next ((s.hold .sysReset).dumpFor .sysReset) else .next s.sysReset
    else if s.pwr.reversing then .next (s.settleNext s.pwr.lastOp)
    else if target = 3 then
      let s := s.gateFast
      .next (({ s with pwr := { s.pwr with plls := if s.tcxoWanted then s.pwr.plls % 16 else s.pwr.plls % 2 } } : State).settleNext 3)
    else .next (({ s with pwr := { s.pwr with fast := .retained, plls := s.pwr.plls % 16 } } : State).settleNext 2)

/-- WAKE (R141, R430). -/
def execWake (s : State) : Out State := .next s.wakeUp

/-- EXIT_COMPLETE (R10, R427, R428, R430): PLLs locked and the supplies in range, the device is in its last operational state and fetches again; a reset that waited acts
now (R431). -/
def execExitComplete (s : State) : Out State :=
  if s.fld Fld.PWR_STATE.STATE ≠ 5 ∨ s.fastLocked = false ∨ s.pwr.railsOk = false then .next s
  else
    let s := s.wakeTo s.pwr.lastOp
    if s.pwr.sysPending then
      if s.dumpNeeded then .next ((s.hold .sysReset).dumpFor .sysReset) else .next s.sysReset
    else .next s

/-- HOST_LINK_L12_EXIT (R29, R430): a host port leaves L1.2, which wakes the device. -/
def execHostLinkL12Exit (hp : HostPort) (s : State) : Out State :=
  if hostPortEnabled s hp then .next s.wakeUp else .next s
where
  /-- Whether the image enables the port; in Safe Mode both are (R117, R439). -/
  hostPortEnabled (s : State) (hp : HostPort) : Bool := s.fnEnabled ⟨64 * hp.val, by omega⟩

/-- The state that a function's table names for the present one, and the idle time in ms after which it is entered, 0 for none: bits 7:3 and
31:8 of the state's entry, NVMe's places (assumption 14). -/
def State.apstEntry (s : State) (fn : FnIdx) : Nat × Nat :=
  let e := ((s.fn fn).apst[s.fld Fld.PWR_STATE.STATE]?).getD 0
  (e / 8 % 32, e / 256 % 2 ^ 24)

/-- APST_TRANSITION (R114, R141): with APST enabled for the function, the device enters Rest or Silence of itself, as the function's table
says. The command is the end of the idle time. -/
def execApstTransition (fn : FnIdx) (s : State) : Out State :=
  let on := (tget (s.fn fn).feats 0x0C).getD 0 % 2 == 1
  let e := s.apstEntry fn
  if on && decide (e.2 ≠ 0) && decide (2 ≤ e.1) && decide (e.1 ≤ 3) && decide (s.fld Fld.PWR_STATE.STATE ≤ 1) && s.pwr.psRun.isNone && (s.pwr.fast == .running) && !s.bit Fld.PWR_STATE.BOOTING &&
      !s.acFail && s.entryAllowed then
    .next (s.beginEntry e.1)
  else .next s

/-! ### Reset pins (R432 to R435) -/

/-- SYS_RST_N_ASSERT (R431, R434, R451): FATAL_HOLD ends. During a boot the reset acts at once; a running dump or a transition comes
first; with V > 0 a dump is written first; else the fast domains are reset. -/
def execSysRstNAssert (s : State) : Out State :=
  if s.pwr.sysLow then .next s
  else
    let s := { s with pwr := { s.pwr with sysLow := true, sysLowAt := s.now } }
    let s := s.setBit Fld.ERR_STATUS.FATAL_HOLD false
    match (s.pwr.fast : FastPhase) with
    | FastPhase.unpowered => .next s
    | FastPhase.inReset => .next s
    | FastPhase.booting => .next s.sysReset
    | _ =>
      let st := s.fld Fld.PWR_STATE.STATE
      if s.wc.dumpArea.isSome ∨ st = 4 ∨ st = 5 then .next { s with pwr := { s.pwr with sysPending := true } }
      else if s.dumpNeeded then
        let s := if st = 2 then s.restart.settle s.pwr.lastOp else s
        .next ((s.hold .sysReset).dumpFor .sysReset)
      else .next s.sysReset

/-- SYS_RST_N_RELEASE (R435): the hold is measured; one above 10 s is recorded. FAST_BOOT_START follows. -/
def execSysRstNRelease (s : State) : Out State :=
  if !s.pwr.sysLow then .next s
  else
    let held := (s.now - s.pwr.sysLowAt) / ms
    let s := { s with pwr := { s.pwr with sysLow := false } }
    let s := s.setFld Fld.PWR_RST_HOLD_MS (min held 0xFFFFFFFF)
    if 10000 < held then .next ((s.setBit Fld.PWR_RESET_INFO.LONG_HOLD true).emit .sysRstLongHold [held]) else .next s

/-- AON_RST_N_ASSERT (R432, R433): the Pegbox die and with it the fast domains are reset; a running dump is abandoned. -/
def execAonRstNAssert (s : State) : Out State :=
  if s.pwr.aonLow then .next s
  else
    let s := s.pegboxDown
    let s := { s with pwr := { s.pwr with aonLow := true } }
    .next ((s.setBit Fld.PWR_RESET_INFO.WATCHDOG false).setBit Fld.PWR_RESET_INFO.AON_PIN true)

/-- PEGBOX_WATCHDOG_RESET (R18): the Pegbox die is reset through its watchdog, and the Fingerboard die with it. -/
def execPegboxWatchdogReset (s : State) : Out State :=
  if s.pwr.aonLow ∨ s.bit Fld.PWR_STATE.PEGBOX_READY = false then .next s
  else
    let s := s.pegboxDown
    let s := { s with pwr := { s.pwr with wdHold := true } }
    .next ((s.setBit Fld.PWR_RESET_INFO.AON_PIN false).setBit Fld.PWR_RESET_INFO.WATCHDOG true)

/-! ### Start-up (R437 to R440) -/

/-- The firmware that starts (R438): the valid bank with the higher version, bank A of two with one version (DESIGN CHOICE, assumption 24);
with it whether it is bank B. -/
def fwPick (a b : Option FwBank) : Option (FwBank × Bool) :=
  match a, b with
  | some x, some y => if x.version < y.version then some (y, true) else some (x, false)
  | some x, none => some (x, false)
  | none, some y => some (y, true)
  | none, none => none

/-- The firmware loaded (R12, R438): from the eMRAM cache where its digest is the bank's, else the bank is read into the cache. -/
def State.loadFirmware (s : State) (a b : Option FwBank) : State :=
  match fwPick a b with
  | none => s.emit .noFirmware []
  | some (x, isB) =>
    let hit := decide (s.pwr.fwCache = some x.digest)
    let s := ((s.setFld Fld.SYS_FW.VERSION x.version).setBit Fld.SYS_FW.BANK isB).setBit Fld.SYS_FW.FROM_CACHE hit
    { s with pwr := { s.pwr with fwCache := some x.digest } }

/-- PEGBOX_START (R437, R462): AON_RST_N released, or the watchdog's reset over. The firmware banks, the vault and the packs are what they
show. -/
def execPegboxStart (fw : FwBanks) (vault : VaultFound) (rateMbps areaMib targets blockMib : Nat)
    (sampleA sampleB : PackSample) (s : State) : Out State :=
  if !s.pwr.aonRails || s.bit Fld.PWR_STATE.PEGBOX_READY || !(s.pwr.aonLow || s.pwr.wdHold) then .next s
  else
    let wd := s.pwr.wdHold
    let s := s.pegboxRegs.loadCounters
    let s := { s with pwr := { s.pwr with
      aonLow := false, wdHold := false, fwOk := fw.a.isSome || fw.b.isSome, pegAt := s.now, plls := 15,
      fast := if s.pwr.fast == FastPhase.unpowered then FastPhase.inReset else s.pwr.fast } }
    -- step 1: firmware
    let s := s.loadFirmware fw.a fw.b
    -- step 2: an interrupted clear, an interrupted calibration operation
    let s := if s.evr.journal then s.finishClear 0 else s
    let s := match s.cal.journal with
      | some (op, done) => s.runRestore op done 5
      | none => s
    let s := { s with cal := { s.cal with restoring := none } }
    -- step 3: the ring
    let s := s.setFld Fld.EVR_NEXT_SEQ (max (s.fld Fld.EVR_NEXT_SEQ) (s.lastSeq + 1))
    let s := s.setFld Fld.EVR_STATUS.MODE s.recorderCfg.mode
    let s := s.setBit Fld.EVR_STATUS.AUTH_ENROLLED s.evr.authKey.isSome
    -- step 4: tamper
    let s := if s.cip.offTrip then
        let s := ({ s with cip := { s.cip with offTrip := false } } : State).setBit Fld.CIP_STATUS.TAMPER_HOLD true
        s.emit .tamper [s.fld Fld.CIP_TAMPER_STATUS.LATCHED, s.fld Fld.PWR_STATE.STATE]
      else s
    -- step 5: soundposts
    let s := s.vaultStart vault rateMbps areaMib targets blockMib
    let s := if wd then s.writeSoundpost 3 else s
    let s := s.repairSoundposts
    -- step 6: plucks, gauge, fans
    let s := s.loadStanding.loadTrims.showCal.calFallbacks
    let s := ((s.packStart .A sampleA).packStart .B sampleB).computeEnergy.recomputeLimit.computeEnergy
    let s := s.fansStart
    -- step 7
    .next (s.setBit Fld.PWR_STATE.PEGBOX_READY true)

/-- FAST_BOOT_START (R439): SYS_RST_N released and PEGBOX_READY. -/
def execFastBootStart (s : State) : Out State := if s.canBoot then .next s.startBoot else .next s

/-- BOOT_HANDOVER (R41, R43, R439 step 5): the fast PLLs are locked. -/
def execBootHandover (s : State) : Out State :=
  if (s.pwr.fast == .booting) && s.fastLocked then .next s.handOver else .next s

/-- HOST_LINK_READY (R439 step 7, R440): the boot is over and its time recorded; without a dump to replay an unpaired device's namespaces
come online. -/
def execHostLinkReady (s : State) : Out State :=
  if (s.pwr.fast == .running) && s.bit Fld.PWR_STATE.BOOTING then
    let s := s.setBit Fld.PWR_STATE.BOOTING false
    let s := s.setFld Fld.PWR_BOOT_US (min ((s.now - s.pwr.bootStart) / 1000) 0xFFFFFFFF)
    if s.safeMode || s.paired || s.replayDump.isSome then .next s else .next s.noReplay
  else .next s

/-! ### Clocks and rails (R420 to R424) -/

/-- PLL_LOCK (R424): 0 crystal, 1 TCXO, 2 Pegbox main, 3 vault, 4 Fingerboard core, 5 HBM, 6 drive port, 7 Lomwielm. -/
def execPllLock (pll : Nat) (s : State) : Out State :=
  if 8 ≤ pll ∨ s.pwr.plls / 2 ^ pll % 2 = 1 then .next s
  else .next { s with pwr := { s.pwr with plls := s.pwr.plls + 2 ^ pll } }

/-- PLL_LOCK_TIMEOUT (R424, R449): a fast PLL that has not locked within 2 ms is a fatal error. -/
def execPllLockTimeout (pll : Nat) (s : State) : Out State :=
  let starting := (s.pwr.fast == .booting) || decide (s.fld Fld.PWR_STATE.STATE = 5)
  if starting ∧ 4 ≤ pll ∧ pll < 8 ∧ s.pwr.plls / 2 ^ pll % 2 = 0 then .next (s.raiseFatal 4) else .next s

/-- RAIL_OUT_OF_RANGE (R10, R422, R449): a monitored rail is out of range; while the fast domains run that is a fatal error, and they stay in
reset until the rails are back. -/
def execRailOutOfRange (s : State) : Out State :=
  if !s.pwr.railsOk then .next s
  else
    let t := ({ s with pwr := { s.pwr with railsOk := false } } : State).setBit Fld.PWR_RESET_INFO.RAIL true
    match (s.pwr.fast : FastPhase) with
    | .running => .next (t.raiseFatal 5)
    | .booting => .next (t.raiseFatal 5)
    | .retained => .next (t.raiseFatal 5)
    | .inReset => .next t
    | .gated => .next t
    | .unpowered => .next t

/-- RAIL_RECOVERED (R422): every monitored rail in range for 10 ms. -/
def execRailRecovered (s : State) : Out State := .next { s with pwr := { s.pwr with railsOk := true } }

/-- ALWAYS_ON_POWER_UP (R30, R282, R462, R492): the always-on domain starts: its fields take their Reset values, a tamper hold is lost,
pitch time is invalid, and the power-up is counted. -/
def execAlwaysOnPowerUp (s : State) : Out State :=
  let gone (key : Nat) : Bool := ((fieldOfKey key).map (fun f => f.life == .aon)).getD false
  let s := { s with regs := s.regs.filter (fun r => !gone r.1), cip := { s.cip with offTrip := false },
                    pwr := { s.pwr with aonRails := true } }
  let s := ((s.setBit Fld.CIP_STATUS.TAMPER_HOLD false).setBit Fld.PIT_STATUS.VALID false).setFld Fld.PIT_NOW 0
  let s := s.setFld Fld.PIT_STATUS.CLASS 5
  .next ((s.loadCounters.satFld Fld.AGE_PWR_CYCLES 1).saveCounters)

/-- POWER_DOWN (R30, R422): with HOLDUP_EN deasserted the rails fall, all but the always-on ones that the board may keep. -/
def execPowerDown (s : State) : Out State :=
  if s.bit Fld.NRG_STATUS.HOLDUP_EN then .next s
  else
    let s := (s.setBit Fld.NRG_STATUS.AC_FAIL false).pegboxDown
    let s := (s.setBit Fld.PWR_RESET_INFO.AON_PIN false).setBit Fld.PWR_RESET_INFO.WATCHDOG false
    .next { s with pwr := { s.pwr with fast := .unpowered, aonLow := true, sysLow := true, wdHold := false, railsOk := false, plls := 0,
                                       sysLowAt := s.now } }

end Sys2Proof.Machine
end

