-- ==== Sys2Proof/Machine/Rebuild.lean ====
section
/-!
DEFINITION. Machine/Rebuild.lean: the commands of the P/Q engine, rebuild, scrub and reshape (R82, R175 to R210).
-/
namespace Sys2Proof.Machine

/-! ### Known-answer tests (R177) -/

/-- KAT_RUN (R177, R210): PQE_KAT_CMD.RUN; ignored while tests run. -/
def execKatRun (s : State) : Out State := s.command Fld.PQE_KAT_CMD.RUN.addr (fun s =>
  if s.pwr.fast = .running then .next s.startKat else .next s)

/-- KAT_PERIODIC (R177): every 24 h. -/
def execKatPeriodic (s : State) : Out State := if s.pwr.fast = .running then .next s.startKat else .next s

/-- A slice in or out of service after its test (R177); a failure is recorded and raises a SMART warning (R444), and the fourth failed
slice a fatal error (R449). -/
def State.katSlice (s : State) (i : Nat) (pass : Bool) : State :=
  if pass then (s.setFld Fld.PQE_STATUS.SLICE_ACTIVE (s.fld Fld.PQE_STATUS.SLICE_ACTIVE + 2 ^ i)).incFld Fld.PQE_KAT_PASS 1
  else
    let failed := s.fld Fld.PQE_STATUS.SLICE_FAILED + 2 ^ i
    let s : State := ((s.setFld Fld.PQE_STATUS.SLICE_FAILED failed).emit .sliceFailed [i]).smartWarn 0
    if failed = 0xF then s.raiseFatal 3 else s

/-- KAT_RESULT (R177, R443, R444): the slice under test returns to service, or is removed from it for good; the next slice follows. -/
def execKatResult (slice : Fin 4) (pass : Bool) (s : State) : Out State :=
  match s.rbe.katTesting with
  | [] => .next s
  | i :: rest =>
    if i ≠ slice.val then .next s
    else
      let s : State := { s with rbe := { s.rbe with katTesting := rest } }
      let s : State := (s.setBit Fld.PQE_STATUS.KAT_LAST_FAIL (!pass)).katSlice i pass
      match rest with
      | [] => .next (s.setBit Fld.PQE_STATUS.KAT_BUSY false)
      | j :: _ => .next (s.setFld Fld.PQE_STATUS.SLICE_ACTIVE (s.fld Fld.PQE_STATUS.SLICE_ACTIVE - 2 ^ j))

/-! ### Slow members (R185, R186) -/

/-- The median of a list, the lower middle one for an even count. -/
def medianOf (l : List Nat) : Nat := ((sortOn (fun x => x) l)[(l.length - 1) / 2]?).getD 0

/-- The reference of R185: the median of the medians of the present members that have read. -/
def Arr.slowRef (r : Arr) : Nat :=
  medianOf ((r.members.filter (fun x => (x.state == .active || x.state == .rebuilding) && decide (0 < x.reads))).map (·.median))

/-- SLOW_WINDOW_EVAL (R185): a member's window with its median and number of reads; above SLOW_FACTOR times the reference with at least 100
reads it is slow, and a whole window below 0.75 times that ends it. -/
def execSlowWindowEval (a : ArrayId) (m median reads : Nat) (s : State) : Out State :=
  match s.arr a with
  | none => .next s
  | some r =>
    let r := r.modMem m (fun x => { x with median := median, reads := reads })
    let lim := r.policy.slowFactorQ4 * r.slowRef
    .next (s.putArr a (r.modMem m (fun x =>
      if x.state ≠ .active ∧ x.state ≠ .rebuilding then x
      else if x.slow then (if 64 * median < 3 * lim then { x with slow := false } else x)
      else if lim < 16 * median ∧ 100 ≤ reads then { x with slow := true, slowSince := s.now }
      else x)))

/-- SLOW_FAIL_EXPIRY (R186): a member has been slow without a break for SLOW_FAIL_S. -/
def execSlowFailExpiry (a : ArrayId) (m : Nat) (s : State) : Out State :=
  match (s.arr a).bind (fun r => r.mem m) with
  | some x => if x.slow then .next (s.failMember a m .slowFail) else .next s
  | none => .next s

/-! ### Rebuild and copyback (R188 to R193) -/

/-- REBUILD_STRIPE (R189, R190): the next stripe of the critical pass, else of the main pass. The critical pass notes the stripe and the
indices it has rebuilt there; the main pass moves its watermark. A pass that finds no stripe left ends. -/
def execRebuildStripe (a : ArrayId) (s : State) : Out State :=
  match s.arr a with
  | none => .next s
  | some r =>
    let n := r.stripes
    let blocked (t : Nat) : Bool := (r.epochsAt t).any (fun e => s.stripeBusy a e.1 t)
    let faults (t : Nat) : Bool := (r.epochsAt t).any (fun e => !stripeMaps e.2 t)
    if s.bgGo r .critical then
      match nextFrom (fun t => r.critical t || faults t) (n - r.critMark) r.critMark with
      | none => .next (s.putArr a { (r.unwant .critical) with critMark := 0 })
      | some t =>
        if faults t then .next (s.bgFault a r .critical t)
        else if blocked t then .next s
        else
          let ms := r.targetsAt t
          let s := s.rebuildAt a r t
          match s.arr a with
          | none => .next s
          | some r => .next (s.putArr a { r with critMark := t + 1, critDone := r.critDone ++ ms.map (fun m => (t, m)) })
    else if s.bgGo r .mainPass then
      match nextFrom (fun t => r.toRebuild t || faults t) (n - r.mainMark) r.mainMark with
      | none => .next (s.endMain a r)
      | some t =>
        if faults t then .next (s.bgFault a r .mainPass t)
        else if blocked t then .next s
        else
          let s := s.rebuildAt a r t
          match s.arr a with
          | none => .next s
          | some r' => .next (s.putArr a { (r'.markMain r.mainMark (t + 1)) with mainMark := t + 1 })
    else .next s

/-- COPYBACK_UNIT (R193): the next unit of the replacement that copyback serves, in ascending stripe order; when none is left the index is
active. -/
def execCopybackUnit (a : ArrayId) (s : State) : Out State :=
  match s.arr a with
  | none => .next s
  | some r =>
    if !s.bgGo r .copyback then .next s
    else
      match r.copyIndex with
      | none => .next (s.putArr a (r.unwant .copyback))
      | some m =>
        let lo := ((r.mem m).map (·.rebuiltTo)).getD 0
        let on (t : Nat) : Bool := (r.epochsAt t).any (fun e => (unitOn e.2 t m).isSome || !stripeMaps e.2 t)
        match nextFrom on (r.stripes - lo) lo with
        | none => .next (s.endCopy a r m)
        | some t =>
          if (r.epochsAt t).any (fun e => !stripeMaps e.2 t) then .next (s.bgFault a r .copyback t)
          else if (r.epochsAt t).any (fun e => s.stripeBusy a e.1 t) then .next s
          else
            let s := (r.epochsAt t).foldl (fun (st : State) e => st.copyUnit a e.2 t m) s
            match s.arr a with
            | none => .next s
            | some r => .next (s.putArr a { (r.modMem m (fun x => { x with rebuiltTo := t + 1 })) with copyMark := t + 1 })

/-- BACKGROUND_INIT_GROUP (R82, R86): the tag sector of the next group on every present member, and INIT_WATERMARK one further; a group
already written keeps what it holds. The labels carry the watermark at least every 2^20 groups. -/
def execBackgroundInitGroup (a : ArrayId) (s : State) : Out State :=
  match s.arr a with
  | none => .next s
  | some r =>
    if !s.bgGo r .init then .next s
    else if groupsFor r.cur.dataSectors ≤ r.initMark then .next ((s.putArr a (r.unwant .init)).rewriteLabels a)
    else
      let i := r.initMark
      let s := (List.range r.members.length).foldl (fun (st : State) (j : Nat) =>
        match (r.mem j).bind (fun x => if x.state == .active || x.state == .rebuilding then x.port else none) with
        | none => st
        | some port =>
          let m := st.mediaOf port
          if tget m.groups i = some (r.groupTag j i) then st
          else st.putMedia port { m with groups := tput m.groups i (r.groupTag j i), secs := m.secs.filter (fun x => groupOf x.1 ≠ i) }) s
      let last := decide (groupsFor r.cur.dataSectors ≤ i + 1)
      let s := s.putArr a { (if last then r.unwant .init else r) with initMark := i + 1 }
      if last ∨ (i + 1) % 2 ^ 20 = 0 then .next (s.rewriteLabels a) else .next s

/-! ### Scrub (R198, R199) -/

/-- SCRUB_PERIOD_START (R198): with SCRUB_AUTO set the next pass starts. -/
def execScrubPeriodStart (a : ArrayId) (s : State) : Out State :=
  match s.arr a with
  | none => .next s
  | some r => if r.policy.flags / 2 % 2 = 1 ∧ r.wants.contains .scrub = false then .next (s.startScrub a r) else .next s

/-- SCRUB_STRIPE (R199): the next stripe in every epoch it stands for. A pass that is not done when its period ends is behind, which is
recorded once (R198). -/
def execScrubStripe (a : ArrayId) (s : State) : Out State :=
  match s.arr a with
  | none => .next s
  | some r =>
    let t := r.scrubMark
    if !s.bgGo r .scrub then .next s
    else if r.stripes ≤ t then .next (s.endScrub a r)
    else if (r.epochsAt t).any (fun e => !stripeMaps e.2 t) then .next (s.bgFault a r .scrub t)
    else if (r.epochsAt t).any (fun e => s.stripeBusy a e.1 t) then .next s
    else
      let late := decide (r.scrubDue < s.now) && !r.scrubBehind
      let s := if late then s.emit .scrubBehind [a.val] else s
      let s := (r.epochsAt t).foldl (fun (st : State) e => st.scrubIn a e.2 t) s
      match s.arr a with
      | none => .next s
      | some r =>
        let r := { r with scrubMark := t + 1, scrubBehind := r.scrubBehind || late }
        if r.stripes ≤ t + 1 then .next (s.endScrub a r) else .next (s.putArr a r)

/-! ### Reshape (R200 to R208) -/

/-- RESHAPE_STEP (R203 to R205, R208): the stripe at the bow moves from the previous epoch to the current one; the checkpoint follows after
256 stripes or at half of the bow buffer; at the end of the previous data space the reshape ends. -/
def execReshapeStep (a : ArrayId) (s : State) : Out State :=
  match s.arr a with
  | none => .next s
  | some r =>
    match r.prev with
    | none => .next s
    | some p =>
      let g := r.cur
      let t := r.bow / g.stripeData
      let olds := (List.range ((min (r.bow + g.stripeData) p.dataSpace - 1) / p.stripeData + 1 - r.bow / p.stripeData)).map
        (· + r.bow / p.stripeData)
      if !s.bgGo r .reshape || s.stripeBusy a false t || olds.any (fun o => s.stripeBusy a true o) then .next s
      else if p.dataSpace ≤ r.bow then .next (s.endReshape a r)
      else if !stripeMaps g t || olds.any (fun o => !stripeMaps p o) then .next (s.bgFault a r .reshape t)
      else
        match s.reshapeOne a r p (fun st lba => st.stepSource r p lba) with
        | none => .next ((s.putArr a (r.pause .reshape 5)).emit .bowBufferFull [a.val])
        | some s =>
          match s.arr a with
          | none => .next s
          | some r =>
            if p.dataSpace ≤ r.bow then .next (s.endReshape a r).noteLimit
            else
              let s := if r.bow / g.stripeData % 65536 = 0 then s.rewriteLabels a else s
              let due := decide (256 * g.stripeData ≤ r.bow - r.ckpt) || decide (r.policy.bowBufferMib * 128 ≤ r.sources.length)
              match s.arr a with
              | none => .next s
              | some r => .next (if due then s.checkpoint a r else s).noteLimit

/-- Up to n steps rerun from the checkpoint (R207). -/
def State.rerunSteps (s : State) (a : ArrayId) : Nat → State
  | 0 => s
  | n + 1 =>
    match s.arr a with
    | none => s
    | some r =>
      match r.prev with
      | none => s
      | some p =>
        if p.dataSpace ≤ r.bow then s
        else
          match s.reshapeOne a r p (fun st lba => st.rerunSource r p lba) with
          | none => s
          | some s => s.rerunSteps a n

/-- RESHAPE_UNCLEAN_RERUN (R207): the 256 steps from the checkpoint run again, before the namespaces come online; bow and checkpoint then
stand at their end. -/
def execReshapeUncleanRerun (a : ArrayId) (s : State) : Out State :=
  match s.arr a with
  | none => .next s
  | some r =>
    if !s.wc.rerun.contains a.val || !s.gateOpen || s.pwr.fast != .running || s.acFail || !s.arrayUp r then .next s
    else
      let s := (s.putArr a { r with bow := r.ckpt, sources := [], displaced := [] }).rerunSteps a 256
      let s := match s.arr a with
        | none => s
        | some r =>
          match r.prev with
          | none => s
          | some p => if p.dataSpace ≤ r.bow then s.endReshape a r else s.checkpoint a r
      let s := { s with wc := { s.wc with rerun := s.wc.rerun.filter (· ≠ a.val) } }
      if s.wc.rerun.isEmpty then .next s.online else .next s

/-! ### ARR_CMD (R210) -/

/-- An ARR_CMD whose array does not exist or whose operation does not apply (R210). -/
def State.arrIgnored (s : State) (a : ArrayId) (cmd : Nat) : State := s.emit .arrCmdIgnored [a.val, cmd]

/-- SCRUB_NOW (R198, R210): a pass starts at once. -/
def execArrScrubNow (a : ArrayId) (s : State) : Out State :=
  s.command (Fld.ARR_CMD.CMD.at a.val).addr (fun s =>
  match s.arr a with
  | none => .next (s.arrIgnored a 1)
  | some r => if r.wants.contains .scrub then .next (s.arrIgnored a 1) else .next (s.startScrub a r))

/-- PAUSE (R210): the operation that runs, if it is scrub, reshape, copyback or initialisation. -/
def execArrPause (a : ArrayId) (s : State) : Out State :=
  s.command (Fld.ARR_CMD.CMD.at a.val).addr (fun s =>
  match s.arr a with
  | none => .next (s.arrIgnored a 2)
  | some r =>
    let x := s.arrShown r
    if [ArrOp.scrub, .reshape, .copyback, .init].contains x.1 && !r.pauses.any (fun p => p.1 == x.1) then .next (s.putArr a (r.pause x.1 1))
    else .next (s.arrIgnored a 2))

/-- RESUME (R204, R210): operations paused by host software go on; one that found the bow buffer full is tried again. -/
def execArrResume (a : ArrayId) (s : State) : Out State :=
  s.command (Fld.ARR_CMD.CMD.at a.val).addr (fun s =>
  match s.arr a with
  | none => .next (s.arrIgnored a 3)
  | some r =>
    if r.pauses.any (fun p => p.2 != 6) then .next (s.putArr a { r with pauses := r.pauses.filter (fun p => p.2 = 6) })
    else .next (s.arrIgnored a 3))

/-- FAIL_MEMBER (R186, R187, R210): refused and recorded when two indices are already missing. -/
def execArrFailMember (a : ArrayId) (m : Nat) (s : State) : Out State :=
  s.command (Fld.ARR_CMD.CMD.at a.val).addr (fun s =>
  match (s.arr a).bind (fun r => r.mem m) with
  | none => .next (s.arrIgnored a 4)
  | some x => if x.state = .failed ∨ x.state = .absent then .next (s.arrIgnored a 4) else .next (s.failMember a m .hostRequest))

/-- COPYBACK (R193, R210): copyback onto a replacement whose units were relocated. -/
def execArrCopyback (a : ArrayId) (s : State) : Out State :=
  s.command (Fld.ARR_CMD.CMD.at a.val).addr (fun s =>
  match s.arr a with
  | none => .next (s.arrIgnored a 5)
  | some r =>
    if r.copyIndex.isSome && !r.wants.contains .copyback then .next (s.putArr a (r.want .copyback)) else .next (s.arrIgnored a 5))

end Sys2Proof.Machine
end

