-- ==== Sys2Proof/Machine/StripeCache.lean ====
section
/-!
DEFINITION. Machine/StripeCache.lean: the stripe cache's commands and events (R226 to R242).
-/
namespace Sys2Proof.Machine

/-- A request while the invalidation walk runs is held, not refused (R239). -/
def State.scAccept (s : State) (w : ScWait) : State :=
  if s.bit Fld.SC_STATUS.INIT_DONE then s.scServe w else s.withSc { s.sc with held := s.sc.held ++ [w] }

/-- SC_READ_REQUEST (R226, R229, R230). -/
def execScReadRequest (req : Fin 8) (line word : Nat) (s : State) : Out State :=
  .next (s.scAccept (.read req.val line (word % 4)))

/-- The waiters of a fill served, the requested word first and the others in the order they came (R229). -/
def Sc.fillServe (c : Sc) (line : Nat) (data : Blob) (ws : List (Nat × Nat)) : Sc :=
  ws.foldl (fun (c : Sc) w => c.deliver w.1 line w.2 data) c

/-- SC_FILL_RETURN (R229, R230, R239): the words go to their requesters and an allocating fill installs the line; a
prefetched line is installed as least recently used; an uncorrectable error discards a prefetch, and a discarded fill is
fetched again. -/
def execScFillReturn (line : Nat) (ok : Bool) (s : State) : Out State :=
  match tget s.sc.fills line with
  | none => .next s
  | some f =>
    if f.discarded then
      .next (s.withSc { s.sc with fills := tput s.sc.fills line { f with discarded := false } })
    else
      let s := s.withSc { s.sc with fills := tdel s.sc.fills line }
      if !ok then .next s
      else
        let data := s.sc.mem line
        let s := s.withSc (s.sc.fillServe line data f.waiters)
        let pf := f.prefetch && f.waiters.isEmpty
        let s := if f.prefetch && !f.waiters.isEmpty then s.incFld Fld.SC_PF_USED 1 else s
        .next (if f.install then (s.scInstall ⟨line, data, pf⟩ s.freeWays pf).1 else s)

/-- SC_WRITE_REQUEST (R226, R227). -/
def execScWriteRequest (req : Fin 8) (line mask : Nat) (data : Blob) (s : State) : Out State :=
  .next (s.scAccept (.write req.val line mask data))

/-- MERGE_BUFFER_DRAIN (R227). -/
def execMergeBufferDrain (line : Nat) (s : State) : Out State := .next (s.scDrain line)

/-- HBM_WRITE_ACK (R228): the oldest drained entry of the line is acknowledged, so its writes complete. -/
def execHbmWriteAck (line : Nat) (s : State) : Out State :=
  match s.sc.acks.findIdx? (fun e => e.line = line) with
  | none => .next s
  | some i =>
    match s.sc.acks[i]? with
    | none => .next s
    | some e => .next (s.withSc { s.sc with acks := s.sc.acks.eraseIdx i,
                                            written := s.sc.written ++ e.writers.map (fun w => (w, line)) })

/-- EVICTION_BUFFER_EXPIRY (R231): the oldest line of a slice's eviction buffer leaves after 64 cycles; a victim cache
keeps its lines. -/
def execEvictionBufferExpiry (slice : SliceId) (s : State) : Out State :=
  if s.bit Fld.SC_CTRL.EVICT_PATH then .next s
  else .next (s.withSc { s.sc with evict := tput s.sc.evict slice.val ((s.sc.evList slice.val).drop 1) })

/-- OWNERSHIP_REQUEST (R237, R238). -/
def execOwnershipRequest (pqs : List (Fin 4)) (line : Nat) (s : State) : Out State :=
  .next (s.scOwn (pqs.map (·.val)) line)

/-- RECALL_WRITE_BACK (R237): the owner's bytes enter the line and the merging buffer, the line is unowned, the former
owner keeping it shared unless ownership was asked for; what waited is then taken up, ownership first. -/
def execRecallWriteBack (line : Nat) (data : Blob) (s : State) : Out State :=
  match (s.sc.dirOf line).owner with
  | none => .next s
  | some o =>
    let waits := (tget s.sc.recalls line).getD []
    let isOwn (w : ScWait) : Bool := match w with
      | .own .. => true
      | _ => false
    let (owns, others) := waits.partition isOwn
    let s := s.withSc { s.sc with dir := tput s.sc.dir line ⟨[], none⟩, recalls := tdel s.sc.recalls line }
    let s := s.scWrite 2 line (2 ^ 128 - 1) data
    let s := if owns.isEmpty then s.withSc { s.sc with dir := tput s.sc.dir line ⟨[o], none⟩ } else s
    .next ((owns ++ others).foldl (fun (st : State) w => st.scServe w) s)

/-- RETRY_REISSUE (R238). -/
def execRetryReissue (pq : Fin 4) (line : Nat) (s : State) : Out State :=
  if (tget s.sc.retries (line * 4 + pq.val)).isSome then .next (s.scOwn [pq.val] line) else .next s

/-! ### Maintenance (R233, R234) -/

/-- The parts of a maintenance operation that start at once: a clean drains the line, and an owned line is recalled. -/
def State.scMaintLine (s : State) (op line : Nat) : State :=
  let s := if op ≠ 2 then s.scDrain line else s
  match (s.sc.dirOf line).owner with
  | some _ => s.scRecall line []
  | none => s

/-- A write of SC_MAINT (R234): ignored while MAINT_BUSY is 1. A set-and-way operation names the array entry only. -/
def State.scMaint (s : State) (op : Nat) (byWay : Bool) : State :=
  if s.bit Fld.SC_STATUS.MAINT_BUSY then s
  else
    let k := s.fld Fld.SC_MAINT_SETWAY.SET * 16 + s.fld Fld.SC_MAINT_SETWAY.WAY
    let line := if byWay then ((tget s.sc.lines k).map (·.line)).getD (2 ^ 30) else s.fld Fld.SC_MAINT_ADDR.ADDR
    let s := s.withSc { s.sc with maint := some ⟨op, line, if byWay then some k else none⟩ }
    (s.setBit Fld.SC_STATUS.MAINT_BUSY true).scMaintLine op line

/-- SC_MAINT_CLEAN (R234). -/
def execScMaintClean (byWay : Bool) (s : State) : Out State := s.command Fld.SC_MAINT.OP.addr (fun s =>
  .next (s.scMaint 1 byWay))

/-- SC_MAINT_INVALIDATE (R234). -/
def execScMaintInvalidate (byWay : Bool) (s : State) : Out State := s.command Fld.SC_MAINT.OP.addr (fun s =>
  .next (s.scMaint 2 byWay))

/-- SC_MAINT_CLEAN_INVALIDATE (R234). -/
def execScMaintCleanInvalidate (byWay : Bool) (s : State) : Out State := s.command Fld.SC_MAINT.OP.addr (fun s =>
  .next (s.scMaint 3 byWay))

/-- Whether an operation on a line can end: no fill in flight, no owner, and for a clean every write in HBM (R233). -/
def Sc.quiet (c : Sc) (op line : Nat) : Bool :=
  (tget c.fills line).isNone && (c.dirOf line).owner.isNone &&
  (op == 2 || ((c.entry line).isNone && !(c.acks.any (fun e => e.line = line))))

/-- SC_MAINT_DONE (R233, R234): the operation completes, so MAINT_BUSY clears. -/
def execScMaintDone (s : State) : Out State :=
  match s.sc.maint with
  | none => .next s
  | some m =>
    if !s.sc.quiet m.op m.line then .next s
    else
      let c := { s.sc with maint := none }
      let c := if m.op = 1 then c
        else match m.entry with
          | none => c.remove m.line
          | some k => if (tget c.lines k).map (·.line) = some m.line then { c with lines := tdel c.lines k } else c
      .next ((s.withSc c).setBit Fld.SC_STATUS.MAINT_BUSY false)

/-! ### The range engine (R232, R235, R236) -/

/-- Lines of SC_RANGE_START and SC_RANGE_LEN. -/
def State.scInRange (s : State) (line : Nat) : Bool :=
  let a := s.fld Fld.SC_RANGE_START.VALUE
  decide (a ≤ line) && decide (line < a + s.fld Fld.SC_RANGE_LEN.VALUE)

/-- A write of SC_RANGE_CMD (R235): refused while busy, for an empty or overlong range, and for PRELOAD without ways; an
accepted command sets BUSY and clears DONE and OVERFLOW of the previous one (DESIGN CHOICE, assumption 12). -/
def State.scRange (s : State) (op : Nat) : State :=
  let a := s.fld Fld.SC_RANGE_START.VALUE
  let n := s.fld Fld.SC_RANGE_LEN.VALUE
  if s.bit Fld.SC_RANGE_STATUS.BUSY then s.scRangeErr 1
  else if op ≠ 5 ∧ (n = 0 ∨ s.hbmLines < a + n) then s.scRangeErr 2
  else if op = 4 ∧ s.fld Fld.SC_PRELOAD_WAYS.WAYS = 0 then s.scRangeErr 3
  else
    let s := (s.scRangeErr 0).setBit Fld.SC_RANGE_STATUS.DONE false
    let s := (s.setBit Fld.SC_RANGE_STATUS.OVERFLOW false).setBit Fld.SC_RANGE_STATUS.BUSY true
    let s := s.setBit Fld.SC_STATUS.RANGE_BUSY true
    let s := if op = 4 then s.setFld Fld.SC_RANGE_DISPLACED.LINES 0 else s
    let s := s.withSc { s.sc with rangeOp := some op }
    if 4 ≤ op then s
    else
      let hit := (s.sc.merge.map (·.line) ++ s.sc.dir.map (·.1)).filter s.scInRange
      hit.foldl (fun (st : State) l => st.scMaintLine op l) s

/-- SC_RANGE_CLEAN (R235). -/
def execScRangeClean (s : State) : Out State := s.command Fld.SC_RANGE_CMD.OP.addr (fun s =>
  .next (s.scRange 1))

/-- SC_RANGE_INVALIDATE (R235). -/
def execScRangeInvalidate (s : State) : Out State := s.command Fld.SC_RANGE_CMD.OP.addr (fun s =>
  .next (s.scRange 2))

/-- SC_RANGE_CLEAN_INVALIDATE (R235). -/
def execScRangeCleanInvalidate (s : State) : Out State := s.command Fld.SC_RANGE_CMD.OP.addr (fun s =>
  .next (s.scRange 3))

/-- PRELOAD (R232, R235). -/
def execScPreload (s : State) : Out State := s.command Fld.SC_RANGE_CMD.OP.addr (fun s =>
  .next (s.scRange 4))

/-- INVALIDATE_WAYS (R235). -/
def execScInvalidateWays (s : State) : Out State := s.command Fld.SC_RANGE_CMD.OP.addr (fun s =>
  .next (s.scRange 5))

/-- Whether every line the range engine has to act on lets it end (R233, R236). -/
def State.scRangeQuiet (s : State) (op : Nat) : Bool :=
  4 ≤ op ||
  ((s.sc.fills.map (·.1) ++ s.sc.dir.map (·.1) ++ s.sc.merge.map (·.line) ++ s.sc.acks.map (·.line)).filter
    s.scInRange).all (fun l => s.sc.quiet op l)

/-- One line of a PRELOAD: installed into the target ways unless the line is in the array already; a displaced line of the
range itself counts (R232). -/
def State.scPreloadLine (s : State) (line : Nat) : State :=
  match s.sc.find line with
  | some _ => s
  | none =>
    let data := s.sc.mem line
    let ways := waysOf (s.fld Fld.SC_PRELOAD_WAYS.WAYS)
    let s := s.withSc (s.sc.evDrop line)
    match s.scInstall ⟨line, data, false⟩ ways false with
    | (t, some o) =>
      if t.scInRange o.line then (t.satFld Fld.SC_RANGE_DISPLACED.LINES 1).setBit Fld.SC_RANGE_STATUS.OVERFLOW true else t
    | (t, none) => t

/-- SC_RANGE_DONE (R235, R236): the range operation completes. -/
def execScRangeDone (s : State) : Out State :=
  match s.sc.rangeOp with
  | none => .next s
  | some op =>
    if !s.scRangeQuiet op then .next s
    else
      let s := match op with
        | 1 => s
        | 4 =>
          let a := s.fld Fld.SC_RANGE_START.VALUE
          ((List.range (s.fld Fld.SC_RANGE_LEN.VALUE)).map (· + a)).foldl (fun (st : State) l => st.scPreloadLine l) s
        | 5 =>
          let ws := waysOf (s.fld Fld.SC_PRELOAD_WAYS.WAYS)
          s.withSc { s.sc with lines := s.sc.lines.filter (fun p => !ws.contains (p.1 % 16)) }
        | _ =>
          s.withSc { s.sc with lines := s.sc.lines.filter (fun p => !s.scInRange p.2.line),
                               evict := s.sc.evict.map (fun (e : Nat × List ScLine) =>
                                 (e.1, e.2.filter (fun l => !s.scInRange l.line))) }
      let s := s.withSc { s.sc with rangeOp := none }
      let s := (s.setBit Fld.SC_RANGE_STATUS.BUSY false).setBit Fld.SC_STATUS.RANGE_BUSY false
      .next (s.setBit Fld.SC_RANGE_STATUS.DONE true)

/-- SC_LOCK_WRITE (R232, R235). -/
def execScLockWrite (ways : Nat) (s : State) : Out State := .next (s.scLock ways)

/-- EVICT_PATH_SWITCH (R231). -/
def execEvictPathSwitch (path : Bool) (s : State) : Out State := .next (s.scEvictPath path)

/-- SC_INIT_DONE (R239): the invalidation walk ends and held requests are accepted in order. -/
def execScInitDone (s : State) : Out State :=
  let held := s.sc.held
  let s := (s.withSc { s.sc with held := [] }).setBit Fld.SC_STATUS.INIT_DONE true
  .next (held.foldl (fun (st : State) w => st.scServe w) s)

/-- SC_ECC_ERROR (R240): a corrected error is counted; an uncorrectable one is counted, recorded and handled by where it
lies. DESIGN CHOICE (assumption 12): the refill of a line that lay in a locked way goes into an unlocked one. -/
def execScEccError (place : EccPlace) (corrected : Bool) (s : State) : Out State :=
  if corrected then .next (s.incFld Fld.SC_ECC_CORR 1)
  else
    let s := (s.incFld Fld.SC_ECC_UNCORR 1).emit .scUncorrectable []
    match place with
    | .dataWord line =>
      match s.sc.find line with
      | none => .next s
      | some k =>
        .next (s.withSc { s.sc with lines := tdel s.sc.lines k, fills := tput s.sc.fills line ⟨true, false, false, []⟩ })
    | .tagSet set => .next (s.withSc { s.sc with lines := s.sc.lines.filter (fun p => p.1 / 16 ≠ set) })
    | .evictLine line => .next (s.withSc (s.sc.evDrop line))
    | .mergeEntry line => .next (s.withSc { s.sc with merge := s.sc.merge.filter (fun e => e.line ≠ line) })
    | .sliceLine line => .next (s.withSc { s.sc with dir := tdel s.sc.dir line, recalls := tdel s.sc.recalls line })

end Sys2Proof.Machine
end

