-- ==== Sys2Proof/Machine/CmdRegs.lean ====
section
/-!
DEFINITION. Machine/CmdRegs.lean: what a write of a command register's word does (R6: a write of a WO field performs its action): the word is
taken apart, and the command of its own row runs. A code that the register's table does not name does nothing. Seven codes are left
to their rows, because they bring what no register holds (assumption 37): VERIFY, KEY_ENROL and KEY_REVOKE the bytes of the staging buffer,
LOAD_BLOB the content of the blob, TAMPER_RELEASE the levels of the tamper inputs, PATROL_NOW and SELFTEST_NOW what they measure.
-/
namespace Sys2Proof.Machine

/-- The state that a command leaves. -/
def State.ran (s : State) (o : Out State) : State :=
  match o with
  | .next t => t
  | .fault _ => s
  | .refused _ => s

/-- The indices of an indexed register. -/
def at16 (n : Nat) : ArrayId := ⟨n % 16, Nat.mod_lt _ (by decide)⟩
/-- A channel's index. -/
def at256 (n : Nat) : ChId := ⟨n % 256, Nat.mod_lt _ (by decide)⟩
/-- A drive port's index. -/
def at48 (n : Nat) : PortId := ⟨n % 48, Nat.mod_lt _ (by decide)⟩
/-- A fan channel's index. -/
def at8 (n : Nat) : FanId := ⟨n % 8, Nat.mod_lt _ (by decide)⟩

/-- The index of an indexed register that an address names, if it is one of its addresses. -/
def instAt (f : Field) (addr : Nat) : Option Nat :=
  if f.addr ≤ addr ∧ (addr - f.addr) % f.stride = 0 ∧ (addr - f.addr) / f.stride < f.count then some ((addr - f.addr) / f.stride) else none

/-- IMG_STAGE_CMD (R54). -/
def State.cmdStage (s : State) (i : Iface) (code : Nat) : State :=
  match code with
  | 1 => s.ran (execStageOpen i s)
  | 3 => s.ran (execStageCommit i s)
  | 4 => s.ran (execActivateLive i s)
  | 5 => s.ran (execActivateReset i s)
  | 6 => s.ran (execStageAbort i s)
  | 7 => s.ran (execSelectCopyA i s)
  | 8 => s.ran (execSelectCopyB i s)
  | _ => s

/-- CAL_CMD (R61). -/
def State.cmdCal (s : State) (code : Nat) : State :=
  match code with
  | 1 => s.ran (execRestoreFactory s)
  | 2 => s.ran (execRestorePrevious s)
  | 3 => s.ran (execFactoryCommit s)
  | _ => s

/-- SC_MAINT (R242): the operation and its mode. -/
def State.cmdScMaint (s : State) (value : Nat) : State :=
  let byWay := value / 4 % 2 == 1
  match value % 4 with
  | 1 => s.ran (execScMaintClean byWay s)
  | 2 => s.ran (execScMaintInvalidate byWay s)
  | 3 => s.ran (execScMaintCleanInvalidate byWay s)
  | _ => s

/-- SC_RANGE_CMD (R242). -/
def State.cmdScRange (s : State) (code : Nat) : State :=
  match code with
  | 1 => s.ran (execScRangeClean s)
  | 2 => s.ran (execScRangeInvalidate s)
  | 3 => s.ran (execScRangeCleanInvalidate s)
  | 4 => s.ran (execScPreload s)
  | 5 => s.ran (execScInvalidateWays s)
  | _ => s

/-- ARR_CMD (R210): the command and its member. -/
def State.cmdArr (s : State) (a : ArrayId) (value : Nat) : State :=
  match value % 16 with
  | 1 => s.ran (execArrScrubNow a s)
  | 2 => s.ran (execArrPause a s)
  | 3 => s.ran (execArrResume a s)
  | 4 => s.ran (execArrFailMember a (value / 16 % 64) s)
  | 5 => s.ran (execArrCopyback a s)
  | _ => s

/-- CIP_KEY_CMD (R284). -/
def State.cmdKey (s : State) (code : Nat) : State :=
  match code with
  | 1 => s.ran (execKeySetOwner s)
  | 3 => s.ran (execKeyUnload s)
  | 4 => s.ran (execKeyZeroizeAll s)
  | 5 => s.ran (execTrngRestart s)
  | _ => s

/-- PORT_CMD (R303). -/
def State.cmdPort (s : State) (p : PortId) (code : Nat) : State :=
  match code with
  | 1 => s.ran (execPortResetLink p s)
  | 2 => s.ran (execPortPowerCycle p s)
  | 3 => s.ran (execPortAccept p s)
  | 4 => s.ran (execPortRelease p s)
  | 5 => s.ran (execPortSpinupNow p s)
  | _ => s

/-- WC_CMD (R174). -/
def State.cmdWc (s : State) (code : Nat) : State :=
  match code with
  | 1 => s.ran (execWcDestageAll s)
  | 2 => s.ran (execWcClearIdle s)
  | _ => s

/-- NRG_CMD (R372): the command and its pack. -/
def State.cmdNrg (s : State) (value : Nat) : State :=
  let p : PackId := if value / 8 % 2 = 0 then .A else .B
  match value % 8 with
  | 1 => s.ran (execNrgTest p s)
  | 2 => s.ran (execNrgLearn p s)
  | 3 => s.ran (execLearnAbort p s)
  | 4 => s.ran (execNrgRetest p s)
  | 5 => s.ran (execNrgSamePack p s)
  | _ => s

/-- FAN[n].CMD (R395). -/
def State.cmdFan (s : State) (n : FanId) (code : Nat) : State :=
  match code with
  | 1 => s.ran (execFanClearFault n s)
  | 2 => s.ran (execFanRestart n s)
  | 3 => s.ran (execFanRelearn n s)
  | _ => s

/-- EVR_CMD (R416). -/
def State.cmdEvr (s : State) (i : Iface) (code : Nat) : State :=
  match code with
  | 1 => s.ran (execEventFreeze i s)
  | 2 => s.ran (execEventUnfreeze i s)
  | 3 => s.ran (execEventChallenge s)
  | 4 => s.ran (execEventClear i s)
  | 5 => s.ran (execEventAuthSet i s)
  | 6 => s.ran (execSoundpostNow s)
  | _ => s

/-- PIT_CMD (R348). -/
def State.cmdPit (s : State) (code : Nat) : State :=
  match code with
  | 1 => s.ran (execPitSet s)
  | 2 => s.ran (execPitSetAtPps s)
  | 3 => s.ran (execPitSetUtc s)
  | 4 => s.ran (execPitResync s)
  | _ => s

/-- PLUCK_CMD (R348). -/
def State.cmdPluck (s : State) (code : Nat) : State :=
  match code with
  | 1 => s.ran (execPluckWrite s)
  | 2 => s.ran (execPluckWriteFed s)
  | 3 => s.ran (execPluckCancel s)
  | 4 => s.ran (execPluckCancelFed s)
  | _ => s

/-- CAPO_CMD (R326). -/
def State.cmdCapo (s : State) (i : Iface) (code : Nat) : State :=
  match code with
  | 1 => s.ran (execCapoClaim s)
  | 2 => s.ran (execCapoRelease s)
  | 3 => s.ran (execCapoClearFault s)
  | 4 => s.ran (execCapoForceClaim i s)
  | _ => s

/-- The command that an indexed command register's word gives, if the address is one of its instances. -/
def State.cmdIndexed (s : State) (i : Iface) (addr value : Nat) : Option State :=
  match instAt Fld.ARR_CMD.CMD addr with
  | some n => some (s.cmdArr (at16 n) value)
  | none =>
    match instAt Fld.CH_CMD.START addr with
    | some n => some (if value % 2 = 1 then s.ran (execDmaStart i (at256 n) s) else s)
    | none =>
      match instAt Fld.PORT_CMD.CMD addr with
      | some n => some (s.cmdPort (at48 n) (value % 16))
      | none =>
        match instAt Fld.FAN_CMD.CMD addr with
        | some n => some (s.cmdFan (at8 n) (value % 8))
        | none => none

/-- The command registers that are not indexed. -/
inductive CmdReg where
  | stage
  | cal
  | scMaint
  | scRange
  | key
  | wc
  | nrg
  | evr
  | pit
  | pluck
  | capo
  | renew
  | err
  | kat
  deriving DecidableEq, Repr

/-- The command registers by their addresses. -/
def cmdRegs : List (Nat × CmdReg) :=
  [(Fld.IMG_STAGE_CMD.CMD.addr, .stage), (Fld.CAL_CMD.CMD.addr, .cal), (Fld.SC_MAINT.OP.addr, .scMaint),
    (Fld.SC_RANGE_CMD.OP.addr, .scRange), (Fld.CIP_KEY_CMD.CMD.addr, .key), (Fld.WC_CMD.CMD.addr, .wc), (Fld.NRG_CMD.CMD.addr, .nrg),
    (Fld.EVR_CMD.CMD.addr, .evr), (Fld.PIT_CMD.CMD.addr, .pit), (Fld.PLUCK_CMD.CMD.addr, .pluck), (Fld.CAPO_CMD.CMD.addr, .capo),
    (Fld.CAPO_RENEW.addr, .renew), (Fld.ERR_CMD.CMD.addr, .err), (Fld.PQE_KAT_CMD.RUN.addr, .kat)]

/-- A word written to a command register that is not indexed. -/
def State.runReg (s : State) (i : Iface) (r : CmdReg) (value : Nat) : State :=
  match r with
  | .stage => s.cmdStage i (value % 16)
  | .cal => s.cmdCal (value % 16)
  | .scMaint => s.cmdScMaint value
  | .scRange => s.cmdScRange (value % 8)
  | .key => s.cmdKey (value % 16)
  | .wc => s.cmdWc (value % 4)
  | .nrg => s.cmdNrg value
  | .evr => s.cmdEvr i (value % 8)
  | .pit => s.cmdPit (value % 8)
  | .pluck => s.cmdPluck (value % 8)
  | .capo => s.cmdCapo i (value % 16)
  | .renew => s.ran (execCapoRenew i s)
  | .err => if value % 4 = 1 then s.ran (execErrRestart s) else s
  | .kat => if value % 2 = 1 then s.ran (execKatRun s) else s

/-- What a write of a command register's word does; none where the address is no command register's (R6). -/
def State.runCommand (s : State) (i : Iface) (addr value : Nat) : Option State :=
  match cmdRegs.lookup addr with
  | some r => some (s.runReg i r value)
  | none => s.cmdIndexed i addr value

end Sys2Proof.Machine
end

