-- ==== Sys2Proof/Machine/Windows.lean ====
section
/-!
DEFINITION. Machine/Windows.lean: the parts of the management space that show bytes in place of fields: the handling stack (R448, R452), the
ring's pages (R397 to R399), the type catalogue (R402), the soundposts (R415, R417) and the staging buffer (R46).
-/
namespace Sys2Proof.Machine

/-- Eight bytes of a time, all ones where pitch time was invalid. -/
def timeBytes (t : Option Nat) : List Nat := leBytes 8 (t.getD (2 ^ 64 - 1))

/-- A list of bytes made n long: cut, or filled with zeros. -/
def fitBytes (n : Nat) (l : List Nat) : List Nat := l.take n ++ List.replicate (n - l.length) 0

/-- A stack entry as its 64 bytes (R448). -/
def entryBytes (e : StackEntry) : List Nat :=
  leBytes 2 (evType (if e.fatal.isSome then .fatalError else .recoverableError)) ++
  [if e.fatal.isSome then 3 else 2, bit1 e.nested + 2 * bit1 e.pegbox] ++ leBytes 4 (min e.repeats 0xFFFFFFFF) ++ timeBytes e.time ++
  leBytes 8 e.eventSeq ++ [e.depth, e.step, 0, 0] ++
  leBytes 4 (match e.tag with
    | some (i, g) => i + 65536 * (g % 256)
    | none => 0xFFFFFFFF) ++
  fitBytes 32 (e.info.flatMap (leBytes 8))

/-- Entries 0 to 3 of the handling stack, unused ones zero (R452). -/
def stackBytes (l : List StackEntry) : List Nat := fitBytes 256 (l.flatMap entryBytes)

/-- TIME_DELTA of a record in a page: µs from BASE_TIME, all ones when its pitch time was invalid (R398). -/
def deltaOf (base time : Option Nat) : Nat :=
  match time with
  | some t => (t - base.getD 0) / 1000
  | none => 2 ^ 42 - 1

/-- A record as it is stored, given its TIME_DELTA (R398, R399). -/
def recBytes (delta : Nat) (r : EvRec) : List Nat :=
  let body := leBytes 6 r.seq ++
    leBytes 8 (r.arr.bytes / 8 - 1 + 2 ^ 7 * r.arr.sev + 2 ^ 10 * evType r.arr.ev + 2 ^ 22 * (delta % 2 ^ 42)) ++
    r.arr.payload.flatMap (leBytes 8)
  leBytes 2 (crc32c body) ++ body

/-- A page of the ring as its 4,096 bytes (R397); what follows the last record is zero. -/
def pageBytes (p : EvPage) : List Nat :=
  fitBytes 4096 ([0x50, 0x58, 0x45, 0x47, if p.isOpen then 1 else 2, p.maxSev, 0, 0] ++ timeBytes p.baseTime ++ leBytes 8 p.firstSeq ++
    List.replicate 8 0 ++ p.recs.flatMap (fun r => recBytes (deltaOf p.baseTime r.arr.time) r))

/-- ASCII text padded with spaces to 28 bytes. -/
def nameBytes (t : String) : List Nat := t.toList.map Char.toNat ++ List.replicate (28 - t.length) 32

/-- FIELD_COUNT and NAME of the recorder's own events (R402). -/
def ownEntry : Nat → Nat × String
  | 0 => (11, "CLEAR")
  | 1 => (1, "LOG_NEARLY_FULL")
  | 2 => (1, "FREEZE_TIMEOUT")
  | 3 => (2, "AUTH_FAIL")
  | 4 => (2, "AUTH_KEY_SET")
  | 5 => (2, "SOUNDPOST")
  | _ => (2, "SOUNDPOST_REPAIRED")

/-- A catalogue entry as its 32 bytes (R402); what the spec does not give of the other events is free. -/
def catalogueEntry (e : Ev) : List Nat :=
  let i := evIndex e
  leBytes 2 (evType e) ++ [evSev e] ++
  (if i < 7 then (ownEntry i).1 :: nameBytes (ownEntry i).2
   else (List.range 29).map (fun b => (Config.catalogueByte i (b + 3)).toNat))

/-- A page of the catalogue: 128 entries, unused ones zero. -/
def cataloguePage (n : Nat) : List Nat := fitBytes 4096 (((evAll.drop (128 * n)).take 128).flatMap catalogueEntry)

/-- A soundpost with a given CRC field (R415). -/
def soundpostWith (p : Soundpost) (deviceId crc : Nat) : List Nat :=
  let ev := p.events.flatMap (fun r =>
    recBytes (if r.arr.time.isSome then (Config.soundpostDelta r.seq).toNat else 2 ^ 42 - 1) r)
  let last := p.events.foldl (fun acc r => max acc r.seq) 0
  [0x50, 0x58, 0x53, 0x50, 1, 0] ++ leBytes 2 p.cause ++ leBytes 8 p.seq ++ timeBytes p.time ++ leBytes 16 deviceId ++ leBytes 8 p.imgSeq ++
  [p.power, p.therm, p.tj, p.role, p.stack.length, 0, 0, 0] ++ leBytes 8 last ++ leBytes 4 ev.length ++ leBytes 4 p.snapshot.length ++
  leBytes 4 p.omitted ++ List.replicate 176 0 ++ leBytes 4 crc ++ stackBytes p.stack ++
  fitBytes 16384 (p.snapshot.flatMap (fun x => leBytes 4 x.1 ++ leBytes 4 x.2)) ++ fitBytes 48640 ev

/-- A soundpost as its 65,536 bytes: the CRC is that of all of them with its own field zero (R415). -/
def soundpostBytes (p : Soundpost) (deviceId : Nat) : List Nat := soundpostWith p deviceId (crc32c (soundpostWith p deviceId 0))

/-- The soundpost that SP_SEL names, if the slot holds one (R417, R419). -/
def State.selectedSoundpost (s : State) : Option Soundpost :=
  let copy := s.fld Fld.SP_SEL.COPY
  let slot := s.fld Fld.SP_SEL.SLOT
  if copy = 0 then (if slot < 4 then tget s.evr.spEmram slot else none)
  else if copy = 1 then tget s.evr.spVault slot
  else if copy = 2 then (if slot < 4 then tget s.evr.spFlash slot else none)
  else none

/-- Word i of a list of bytes. -/
def wordAt (l : List Nat) (i : Nat) : Nat := ofBytes ((l.drop (4 * i)).take 4)

/-- The number of a word of the staging buffer that an address of IMG_STAGE_WINDOW shows. -/
def State.stageWord (s : State) (addr : Nat) : Nat := s.fld Fld.IMG_STAGE_PAGE.PAGE * 16384 + (addr - 0x1010000) / 4

/-- What a word of a window reads as, if the address lies in one; a page, slot or entry that holds nothing reads as zeros. -/
def State.windowWord (s : State) (addr : Nat) : Option Nat :=
  if 0x22100 ≤ addr ∧ addr < 0x22200 then some (wordAt (stackBytes s.err.stack) ((addr - 0x22100) / 4))
  else if 0xC01000 ≤ addr ∧ addr < 0xC02000 then
    some (((tget s.evr.pages (s.fld Fld.EVR_PAGE_SEL.PAGE)).map (fun p => wordAt (pageBytes p) ((addr - 0xC01000) / 4))).getD 0)
  else if 0xC02000 ≤ addr ∧ addr < 0xC03000 then some (wordAt (cataloguePage (s.fld Fld.EVR_CAT_SEL.PAGE)) ((addr - 0xC02000) / 4))
  else if 0xC10000 ≤ addr ∧ addr < 0xC20000 then
    some ((s.selectedSoundpost.map (fun p => wordAt (soundpostBytes p (s.fld Fld.SYS_DEVICE_ID)) ((addr - 0xC10000) / 4))).getD 0)
  else if 0x1010000 ≤ addr ∧ addr < 0x1020000 then some ((tget s.img.stage (s.stageWord addr)).getD 0)
  else none

end Sys2Proof.Machine
end

