-- ==== Sys2Proof/Machine/RegAccess.lean ====
section
/-!
DEFINITION. Machine/RegAccess.lean: reads and writes of the management space from its four interfaces (R6, R46, R456 to R461, R464 to R467):
snapshot latches, held words, ownership, what a write of each kind of field does.
-/
namespace Sys2Proof.Machine

/-! ### What an address holds (R457, R464, R466) -/

/-- The field that is a 64-bit _LO/_HI pair at an address, if one is (R464). -/
def pairAt (addr : Nat) : Option Field :=
  (fieldsAt addr).find? (fun f => (f.acc == .ro || f.acc == .rw) && decide (fieldWords f = 2))

/-- The field that is a multi-word group read from one instant at an address (R466): FED_MEMBERS is none. -/
def groupAt (addr : Nat) : Option Field :=
  (fieldsAt addr).find? (fun f => (f.acc == .ro || f.acc == .rw) && decide (4 ≤ fieldWords f) && decide (f.addr ≠ Fld.FED_MEMBERS.addr))

/-- A value as the words of its register hold it. -/
def Field.whole (f : Field) (v : Nat) : Nat := v * 2 ^ f.lsb

/-- The number under which a latch or a held word of an interface is kept. -/
def latchKey (f : Field) (i : Iface) : Nat := f.key * 4 + ifaceBus i

/-- Whether an address lies in the staging window. -/
def inStage (addr : Nat) : Bool := decide (0x1010000 ≤ addr) && decide (addr < 0x1020000)

/-- Whether a word address is assigned (R456, R457); the NVMe registers below 0x2_0000 are those of a host port's PF (R111). -/
def State.assigned (s : State) (i : Iface) (addr : Nat) : Bool :=
  if addr < 0x20000 then i == .host0 || i == .host1
  else (s.windowWord addr).isSome || !(fieldsAt addr).isEmpty

/-! ### Refused accesses (R243, R312, R457, R458, R461) -/

/-- Why an access is refused, 0 where it is not: 2 misaligned, 4 the domain that serves it is down, 1 unmapped or unassigned. -/
def State.refuseRead (s : State) (i : Iface) (addr : Nat) : Nat :=
  if addr % 4 ≠ 0 then 2
  else if !s.servedNow addr then 4
  else if 0x4000000 ≤ addr ∨ s.assigned i addr = false then 1
  else 0

/-- Whether a register belongs to firmware: DMA channels 0 to 63 and windows 0 to 7 (R243), CAPO_RENEW (R312). -/
def firmwareOwned (addr : Nat) : Bool :=
  (decide (0x704000 ≤ addr) && decide (addr < 0x705000)) || (decide (0x701000 ≤ addr) && decide (addr < 0x701100)) ||
  addr == Fld.CAPO_RENEW.addr

/-- Whether a register holds a command and nothing else. -/
def commandReg (addr : Nat) : Bool :=
  !(fieldsAt addr).isEmpty && (fieldsAt addr).all (fun f => f.acc == .wo && decide (f.lsb + f.width ≤ 32))

/-- Why a write is refused, 0 where it is not: 3 the owner, 5 a command register in Safe Mode. -/
def State.refuseWrite (s : State) (i : Iface) (addr : Nat) : Nat :=
  let r := s.refuseRead i addr
  if r ≠ 0 then r
  else if firmwareOwned addr && i != .firmware then 3
  else if s.safeMode && fastServed addr && commandReg addr then 5
  else 0

/-- A refusal latched in SYS_BUS_STATUS; one of SMBus for a domain that is down shows in its status alone (R461). -/
def State.refused (s : State) (i : Iface) (reason addr : Nat) : State :=
  if reason = 0 ∨ (reason = 4 ∧ i = .smbus) then s
  else
    let s := s.busError i reason (addr % 2 ^ 26)
    if reason = 5 then s.emit .safeModeIgnored [addr] else s

/-- The SMBus status of a refusal (R460, R461). -/
def State.smbStatus (s : State) (reason : Nat) : Nat :=
  match reason with
  | 0 => 0
  | 1 => 4
  | 4 => if s.tamperHold then 3 else if s.pwr.fast == .inReset then 2 else 1
  | _ => 5

/-! ### Reads -/

/-- A word of a pair or group: word 0 latches the whole value for the interface; another word is the latch's, or the current one where the
interface has not read word 0 (R464, R466). -/
def State.readMulti (s : State) (i : Iface) (f : Field) (addr : Nat) : Nat × State :=
  let now := f.whole (s.shown f)
  let w := (addr - f.addr) / 4
  if w = 0 then (now % 2 ^ 32, { s with latches := tput s.latches (latchKey f i) now })
  else (((tget s.latches (latchKey f i)).getD now) / 2 ^ (32 * w) % 2 ^ 32, s)

/-! ### The NVMe controller registers of a PF (R111, R116, R119) -/

/-- The PF whose registers an interface sees below 0x2_0000 of its BAR0 (R111, R113). -/
def ifacePf (i : Iface) : FnIdx := if i = .host1 then ⟨64, by decide⟩ else ⟨0, by decide⟩

/-- CAP (R111, R116): MQES, CQR, AMS, TO, DSTRD, MPSMIN and MPSMAX at NVMe's places, with its bits for the NVM command set and for the NSSR of
R137 (assumption 14). -/
def nvmeCap : Nat := 63 + 2 ^ 16 + 1 * 2 ^ 24 + 2 ^ 36 + 2 ^ 37 + 4 * 2 ^ 52

/-- Where a PF's MSI-X table lies (R111). -/
def inMsix (addr : Nat) : Bool := decide (0x12000 ≤ addr) && decide (addr < 0x1A000)

/-- A word of a PF's NVMe registers: CAP, VS, CC, CSTS, AQA at NVMe's offsets (assumption 14), and its MSI-X table, whose vectors PCIe masks at
reset. What the host wrote into CC beside EN is not held, and is free; the doorbells and the PBA read 0. -/
def State.nvmeWord (s : State) (f : FnIdx) (addr : Nat) : Nat :=
  let x := s.fn f
  if addr = 0 then nvmeCap % 2 ^ 32
  else if addr = 4 then nvmeCap / 2 ^ 32
  else if addr = 8 then 0x20000
  else if addr = 0x14 then (s.free 31).toNat * 2 + bit1 x.en
  else if addr = 0x1C then bit1 x.rdy + 2 * bit1 x.cfs
  else if addr = 0x24 then x.asqs + 65536 * x.acqs
  else if inMsix addr then
    let w := (addr - 0x12000) / 4
    (tget x.msix w).getD (if w % 4 = 3 then 1 else 0)
  else 0

/-- A word of a PF's MSI-X table written (R111). -/
def State.writeMsix (s : State) (f : FnIdx) (addr value : Nat) : State :=
  let x := s.fn f
  s.putFn f { x with msix := tput x.msix ((addr - 0x12000) / 4) (value % 2 ^ 32) }

/-- The RC fields of a register cleared (R6). -/
def State.clearRc (s : State) (addr : Nat) : State :=
  (fieldsAt addr).foldl (fun (st : State) f => if f.acc == .rc then st.setFld f 0 else st) s

/-- A word read by an interface, with what the read leaves. -/
def State.readWord (s : State) (i : Iface) (addr : Nat) : Nat × State :=
  match s.windowWord addr with
  | some v => (v, s)
  | none =>
    match (pairAt addr).orElse (fun _ => groupAt addr) with
    | some f => s.readMulti i f addr
    | none => if addr < 0x20000 then (s.nvmeWord (ifacePf i) addr, s.used) else (s.regWord addr, ((s.clearRc addr).used))

/-- What a read command returns. -/
def State.answered (s : State) (l : List Nat) : State := { s with answer := l }

/-- A word read over a host port or by firmware: a refused read returns zero (R457). -/
def State.busRead (s : State) (i : Iface) (addr : Nat) : State :=
  let r := s.refuseRead i addr
  if r ≠ 0 then (s.refused i r addr).answered [0]
  else
    let x := s.readWord i addr
    x.2.answered [x.1]

/-! ### Writes -/

/-- A value with word w replaced. -/
def putWord (v w x : Nat) : Nat := v - v / 2 ^ (32 * w) % 2 ^ 32 * 2 ^ (32 * w) + x % 2 ^ 32 * 2 ^ (32 * w)

/-- One field of a register written with the word of its address (R6). The words of a 64-bit pair are held and committed apart (R465); a
command field acts in `State.runCommand` or `State.writeMixed`. -/
def State.writeField (s : State) (f : Field) (addr value : Nat) : State :=
  let w := (addr - f.addr) / 4
  let bits := value % 2 ^ 32 * 2 ^ (32 * w) / 2 ^ f.lsb % 2 ^ f.width
  match f.acc with
  | .ro => s
  | .rc => s
  | .w1c => s.setFld f (s.fld f - (s.fld f &&& bits))
  | .w1s => s.setFld f (s.fld f ||| bits)
  | .rw =>
    if fieldWords f = 1 then s.setFld f bits
    else if fieldWords f = 2 then s
    else s.setFld f (putWord (s.fld f) w value)
  | .wo => if f.lsb + f.width ≤ 32 then s else s.setFld f (putWord (s.fld f) w value)

/-- Every field of a register written. -/
def State.writeFields (s : State) (addr value : Nat) : State :=
  (fieldsAt addr).foldl (fun (st : State) f => st.writeField f addr value) s

/-- The instance of an indexed register that an address names. -/
def instOf (f : Field) (addr : Nat) : Nat := (addr - f.addr) / f.stride

/-- Whether an address is an instance of an indexed register. -/
def isInst (f : Field) (addr : Nat) : Bool :=
  decide (f.addr ≤ addr) && decide ((addr - f.addr) % f.stride = 0) && decide ((addr - f.addr) / f.stride < f.count)

/-- A word of the staging window written: by the owner while STAGING (R45, R46). -/
def State.writeStage (s : State) (i : Iface) (addr value : Nat) : State :=
  if i = .firmware ∨ s.fld Fld.IMG_STAGE_STATUS.OWNER ≠ ifaceOwner i then s.stageError 1
  else if s.stage ≠ 1 then s.stageError 2
  else { s with img := { s.img with stage := tput s.img.stage (s.stageWord addr) (value % 2 ^ 32) } }

/-- CH_CTRL written (R258, R261): EN from 1 to 0 drops the channel. -/
def State.writeChCtrl (s : State) (n addr value : Nat) : State :=
  let was := s.bit (Fld.CH_CTRL.EN.at n)
  let s := s.writeFields addr value
  if was && decide (value % 2 = 0) then s.dmaDrop n else s

/-- SC_CTRL written (R231, R235). -/
def State.writeScCtrl (s : State) (value : Nat) : State :=
  (s.setBit Fld.SC_CTRL.PREFETCH_EN (decide (value / 2 % 2 = 1))).scEvictPath (decide (value % 2 = 1))

/-- FAN[n].CTRL written (R383, R395): values of HOST_PCT above 100 read as 100. -/
def State.writeFanCtrl (s : State) (n value : Nat) : State :=
  ((s.setFld (Fld.FAN_CTRL.SOURCE.at n) value).setFld (Fld.FAN_CTRL.HOST_PCT.at n) (min 100 (value / 4 % 128))).updateFans

/-- ARR_RATE written (R210): a SHARE_PCT of 101 to 255 stores 100. -/
def State.writeArrRate (s : State) (a value : Nat) : State :=
  (s.setFld (Fld.ARR_RATE.CAP_MBPS.at a) value).setFld (Fld.ARR_RATE.SHARE_PCT.at a) (min 100 (value / 65536 % 256))

/-- PLUCK_SEL written (R348): PLUCK_DATA shows the entry, zeros for an empty one. -/
def State.writePluckSel (s : State) (value : Nat) : State :=
  let s := s.setFld Fld.PLUCK_SEL.INDEX value
  s.setFld Fld.PLUCK_DATA (((s.pluck (s.fld Fld.PLUCK_SEL.INDEX)).map (fun e => pluckData e.msg)).getD 0)

/-- IMG_STAGE_CMD written: the command runs, and a code that is none is refused (R54). -/
def State.writeStageCmd (s : State) (i : Iface) (value : Nat) : State :=
  let code := value % 16
  if 1 ≤ code ∧ code ≤ 10 then s.cmdStage i code
  else if i = .firmware ∨ (s.stage ≠ 0 ∧ s.fld Fld.IMG_STAGE_STATUS.OWNER ≠ ifaceOwner i) then s.stageError 1
  else s.stageError 2

/-- A register whose fields are not all commands written: its RW fields take the word, then a 1 in HIST_CLEAR or GO acts (R109, R223). -/
def State.writeMixed (s : State) (addr value : Nat) : State :=
  let s := s.writeFields addr value
  if addr = Fld.LAT_CTRL.HIST_CLEAR.addr ∧ value / 2 % 2 = 1 then { s with lat := { s.lat with hist := [] } }
  else if addr = Fld.MAP_TEST_CTRL.GO.addr ∧ value / 256 % 2 = 1 then s.ran (execTestMappingGo s)
  else s

/-- What a word written to a register does (R6). The NVMe property registers and doorbells have rows of their own. -/
def State.writeWord (s : State) (i : Iface) (addr value : Nat) : State :=
  if inStage addr then s.writeStage i addr value
  else if inMsix addr then s.writeMsix (ifacePf i) addr value
  else if addr = Fld.IMG_STAGE_CMD.CMD.addr then s.writeStageCmd i value
  else if addr = Fld.CIP_TAMPER_CFG.LOCK.addr then s.tamperCfg value
  else if isInst Fld.WIN_CTRL.EN addr then s.winCtrl (instOf Fld.WIN_CTRL.EN addr) value
  else if isInst Fld.CH_CTRL.EN addr then s.writeChCtrl (instOf Fld.CH_CTRL.EN addr) addr value
  else if isInst Fld.CH_WIN_MASK.WINDOWS addr && i != .firmware then
    let f := Fld.CH_WIN_MASK.WINDOWS.at (instOf Fld.CH_WIN_MASK.WINDOWS addr)
    s.setFld f (value / 256 * 256 + s.fld f % 256)
  else if addr = Fld.SC_LOCK.WAYS.addr then s.scLock (value % 65536)
  else if addr = Fld.SC_PRELOAD_WAYS.WAYS.addr ∧ s.bit Fld.SC_RANGE_STATUS.BUSY = true then s.scRangeErr 1
  else if addr = Fld.SC_CTRL.PREFETCH_EN.addr then s.writeScCtrl value
  else if isInst Fld.FAN_CTRL.SOURCE addr then s.writeFanCtrl (instOf Fld.FAN_CTRL.SOURCE addr) value
  else if isInst Fld.ARR_RATE.CAP_MBPS addr then s.writeArrRate (instOf Fld.ARR_RATE.CAP_MBPS addr) value
  else if addr = Fld.PLUCK_SEL.INDEX.addr then s.writePluckSel value
  else
    match s.runCommand i addr value with
    | some t => t
    | none => s.writeMixed addr value

/-- Whether a pair may be written now: CH_DESC_PTR only while its channel does not run (R260). -/
def State.pairOpen (s : State) (f : Field) : Bool :=
  !(isInst Fld.CH_DESC_PTR.ADDR f.addr && s.fld (Fld.CH_STATUS.STATE.at (instOf Fld.CH_DESC_PTR.ADDR f.addr)) == 1)

/-- A LO word held for an interface (R465). -/
def State.holdLo (s : State) (i : Iface) (f : Field) (value : Nat) : State :=
  { s with heldLo := tput s.heldLo (latchKey f i) (value % 2 ^ 32) }

/-- A HI word written: it commits the LO held by the interface, or the current one, and itself (R465). -/
def State.commitHi (s : State) (i : Iface) (f : Field) (value : Nat) : State :=
  let lo := (tget s.heldLo (latchKey f i)).getD (f.whole (s.fld f) % 2 ^ 32)
  let s := { s with heldLo := tdel s.heldLo (latchKey f i) }
  if s.pairOpen f then s.setFld f ((lo + value % 2 ^ 32 * 2 ^ 32) / 2 ^ f.lsb) else s

/-- The RW pair whose word an address is. -/
def rwPairAt (addr : Nat) : Option Field := (pairAt addr).filter (fun f => f.acc == .rw)

/-- A word written by an interface, pairs included, with the reason of a refusal. -/
def State.busWrite (s : State) (i : Iface) (addr value : Nat) : Nat × State :=
  let r := s.refuseWrite i addr
  if r ≠ 0 then (r, s.refused i r addr)
  else
    match rwPairAt addr with
    | some f => (0, if addr = f.addr then s.holdLo i f value else s.commitHi i f value)
    | none => (0, s.writeWord i addr value)

/-- Whether the management core answers at all (R437). -/
def State.managed (s : State) : Bool := s.bit Fld.PWR_STATE.PEGBOX_READY

/-! ### The commands -/

/-- PAIR_LO_READ (R464). -/
def execPairLoRead (iface : Iface) (addr : Nat) (s : State) : Out State :=
  match pairAt addr with
  | some f => if f.addr = addr && s.managed then .next (s.busRead iface addr) else .next s
  | none => .next s

/-- PAIR_LO_WRITE (R465). -/
def execPairLoWrite (iface : Iface) (addr value : Nat) (s : State) : Out State :=
  match rwPairAt addr with
  | some f => if f.addr = addr && s.managed then .next (s.busWrite iface addr value).2 else .next s
  | none => .next s

/-- PAIR_HI_WRITE (R260, R465). -/
def execPairHiWrite (iface : Iface) (addr value : Nat) (s : State) : Out State :=
  match rwPairAt addr with
  | some f => if f.addr + 4 = addr && s.managed then .next (s.busWrite iface addr value).2 else .next s
  | none => .next s

/-- GROUP_WORD0_READ (R466). -/
def execGroupWord0Read (iface : Iface) (addr : Nat) (s : State) : Out State :=
  match groupAt addr with
  | some f => if f.addr = addr && s.managed then .next (s.busRead iface addr) else .next s
  | none => .next s

/-- REGISTER_WRITE (R6, R457, R458, R461). -/
def execRegisterWrite (iface : Iface) (addr value : Nat) (s : State) : Out State :=
  if s.managed then .next (s.busWrite iface addr value).2 else .next s

/-- A read of n words over SMBus from an address (R460): all of them, or the first refusal's status with zeros. -/
def State.smbRead (s : State) (addr n : Nat) : State :=
  let at_ := (List.range n).map (fun k => addr + 4 * k)
  match at_.find? (fun a => s.refuseRead .smbus a ≠ 0) with
  | some a =>
    let r := s.refuseRead .smbus a
    (s.refused .smbus r a).answered (s.smbStatus r :: List.replicate n 0)
  | none =>
    let x := at_.foldl (fun (acc : List Nat × State) a =>
      let y := acc.2.readWord .smbus a
      (acc.1 ++ [y.1], y.2)) ([], s)
    x.2.answered (0 :: x.1)

/-- READ32 (R460). -/
def execRead32 (addr : Nat) (s : State) : Out State := if s.managed then .next (s.smbRead addr 1) else .next s

/-- READ64 (R460, R464): both words of a pair from one instant; at an offset that is no LO word it is refused for its width. -/
def execRead64 (addr : Nat) (s : State) : Out State :=
  if !s.managed then .next s
  else
    let lo := match pairAt addr with
      | some f => decide (f.addr = addr)
      | none => false
    if lo || s.refuseRead .smbus addr != 0 then .next (s.smbRead addr 2)
    else .next ((s.refused .smbus 2 addr).answered [5, 0, 0])

/-- WRITE32 (R460): its status is kept for LAST_STATUS. -/
def execWrite32 (addr value : Nat) (s : State) : Out State :=
  if !s.managed then .next s
  else
    let x := s.busWrite .smbus addr value
    .next { x.2 with lastSmb := x.2.smbStatus x.1 }

/-- LAST_STATUS (R460). -/
def execLastStatus (s : State) : Out State := if s.managed then .next (s.answered [s.lastSmb]) else .next s

/-- READ_BURST (R460): 1 to 8 consecutive words. -/
def execReadBurst (addr count : Nat) (s : State) : Out State :=
  if !s.managed then .next s
  else if 1 ≤ count ∧ count ≤ 8 then .next (s.smbRead addr count)
  else .next ((s.refused .smbus 2 addr).answered [5])

/-- A read of an RC field (R6): its value is returned, and it is cleared. Such a row does not say from which interface the read comes, so
SYS_BUS_STATUS.IFACE of a refusal is free. -/
def State.readRc (s : State) (f : Field) : State :=
  if !s.managed then s
  else if s.servedNow f.addr then (s.setFld f 0).answered [s.fld f]
  else (((s.used).busError .host0 4 f.addr).setFld Fld.SYS_BUS_STATUS.IFACE (s.free 2).toNat).answered [0]

/-- LAT_C0_ISSUE_MAX_READ (R223). -/
def execLatC0IssueMaxRead (s : State) : Out State := .next (s.readRc Fld.LAT_C0_ISSUE_MAX.NS)

/-- LAT_C0_POST_MAX_READ (R223). -/
def execLatC0PostMaxRead (s : State) : Out State := .next (s.readRc Fld.LAT_C0_POST_MAX.NS)

/-- HFE_COLLECT_MAX_READ (R146). -/
def execHfeCollectMaxRead (hp : HostPort) (s : State) : Out State := .next (s.readRc (Fld.HFE_COLLECT_MAX.MAX_DEPTH.at hp.val))

/-- ERR_DEPTH_MAX_READ (R453). -/
def execErrDepthMaxRead (s : State) : Out State := .next (s.readRc Fld.ERR_DEPTH_MAX.DEPTH)

/-- HIST_CLEAR (R223): every bin is zeroed. -/
def execHistClear (s : State) : Out State :=
  s.command Fld.LAT_CTRL.HIST_CLEAR.addr (fun s => .next { s with lat := { s.lat with hist := [] } })

end Sys2Proof.Machine
end

