-- ==== Sys2Proof/Machine/Thermal.lean ====
section
/-!
DEFINITION. Machine/Thermal.lean: temperatures, thermal states and the thermal stop (R375, R376, R378, R379, R444, R491, R493).
-/
namespace Sys2Proof.Machine

/-! ### The thermal stop (R378) -/

/-- How far the thermal stop has come, set. -/
def State.setStop (s : State) (x : Option ThermStop) : State := { s with therm := { s.therm with stop := x } }

/-- Step 1 of R378: fetch stops on every function and the claim is released. Where nothing runs, the fast domains are gated at once; a
fatal error's own steps go on, and a dump that AC_FAIL_N began becomes the stop's. -/
def State.beginStop (s : State) : State :=
  let s := (s.satFld Fld.THERM_CRIT_COUNT 1).hold .thermal
  let s := { s with therm := { s.therm with stopMs := 0 } }
  let busy : Bool := (s.pwr.fast == .running || s.pwr.fast == .retained) && !s.bit Fld.PWR_STATE.BOOTING
  if s.err.active.isSome then s.setStop (some .drain)
  else if !busy then s.thermGate
  else if s.wc.dumpArea.isSome then
    ({ s with wc := { s.wc with dumpWhy := some .thermal } } : State).setStop (some .dump)
  else
    let s := s.abandonTransition
    let s := if s.role = 3 then (s.beginRelease 0).sendHealth else s
    s.setStop (some .drain)

/-- Step 2 of R378: what is dirty is destaged or dumped. At 125 °C, with nothing dirty, or with a replay due whose dump stays, step 3 comes
at once. The members' write rate, and with it whether the destage takes 2 s or less, is free; with the gate closed nothing can be
destaged. -/
def State.saveDirty (s : State) : State :=
  if 1250 ≤ s.tjDeci ∨ s.dumpNeeded = false then s.thermGate
  else
    let quick : Bool := (s.free 1 != 0#1) && s.gateOpen
    let s := s.used
    if quick then ({ s with wc := { s.wc with destageAll := true } } : State).setStop (some .destage)
    else (s.setStop (some .dump)).dumpFor .thermal

/-- What a sample moves of a thermal stop: 100 ms end the wait for fetched commands, whose rest is abandoned (R137); the end of the destage,
or 125 °C, ends step 2. A reset meanwhile has done step 3's work. -/
def State.stopStep (s : State) : State :=
  match s.therm.stop with
  | none => s
  | some .gated => s
  | some x =>
    let n := s.therm.stopMs + 1
    let s := { s with therm := { s.therm with stopMs := n } }
    let hot := decide ((1250 : Int) ≤ s.tjDeci)
    if s.pwr.fast == .inReset then s.setStop (some .gated)
    else if s.err.active.isSome then s
    else
      match x with
      | .drain =>
        if s.hfe.cmds.isEmpty || decide (100 ≤ n) then
          ((s.hfe.cmds.foldl (fun (st : State) (c : HostCmd) => st.abandon c) s).fenceWake).saveDirty
        else s
      | .destage => if hot || !s.hasDirty then s.thermGate else s
      | .dump => if hot then s.abandonDump.afterDump .thermal none else s
      | .gated => s

/-! ### Thermal states (R376) -/

/-- The state that Tj asks for: an entry condition that is met, else the state's own exit condition. CRITICAL ends below 85 °C once the stop
is over, THROTTLE below 103 °C with no clock step left; either then goes to HOT or NORMAL as Tj says. -/
def State.nextTherm (s : State) : Nat :=
  let t := s.tjDeci
  let hot : Int := s.fanCfg.hotC * 10
  let mild := if hot < t then 1 else 0
  let st := s.thermState
  if 1150 ≤ t then 3
  else if st = 3 then (if t < 850 ∧ s.therm.stop = some .gated then mild else 3)
  else if 1050 < t then 2
  else if st = 2 then (if t < 1030 ∧ s.therm.throttle = 0 then mild else 2)
  else if hot < t then 1
  else if t < hot - 30 then 0
  else st

/-- THERMAL_STATE_CHANGE (R376, R378, R444): the state that Tj asks for is entered with its event; THROTTLE warns the hosts; CRITICAL stops
the device; its end boots the fast domains. -/
def execThermalStateChange (s : State) : Out State :=
  let n := s.nextTherm
  let old := s.thermState
  if s.bit Fld.PWR_STATE.PEGBOX_READY = false ∨ n = old then .next s
  else
    let s := s.setFld Fld.THERM_STATUS.STATE n
    let s := s.emitAt .thermalState (if n = 3 then 6 else if n = 2 then 5 else 4) [n, bitsOf 8 (s.tjDeci / 10)]
    let s := s.updateFans
    if n = 3 then .next s.beginStop
    else if old = 3 then
      let s := (s.setStop none).unhold .thermal
      .next (if s.canBoot then s.startBoot else s)
    else if n = 2 then .next (s.smartWarn 1)
    else .next s

/-! ### Samples (R375, R379, R491, R493) -/

/-- Whether a function's Temperature Threshold feature is passed: bits 15:0 in kelvin on the composite temperature (bits 19:16 zero), over or,
with bit 20, under. -/
def thresholdPassed (feat : Nat) (t : Int) : Bool :=
  let k : Int := (feat % 65536 : Nat) * 10
  feat / 65536 % 16 == 0 && (if feat / 2 ^ 20 % 4 = 1 then decide (t + 2731 ≤ k) else decide (k ≤ t + 2731))

/-- A SMART event of the temperature to one controller, where a request is outstanding and Asynchronous Event Configuration asks for it. -/
def State.tempWarn (s : State) (f : FnIdx) : State :=
  let x := s.fn f
  match x.aers, decide ((tget x.feats 0x0B).getD 0 / 2 % 2 = 1) with
  | cid :: r, true => (s.putFn f { x with aers := r }).adminDone f cid stOk (1 + 1 * 256 + 0x02 * 65536) []
  | _, _ => s

/-- Temperature thresholds checked (R375): an event at each new passing. -/
def State.tempThresholds (s : State) : State :=
  (List.finRange 128).foldl (fun (st : State) f =>
    match tget (st.fn f).feats 0x04 with
    | none => st
    | some v =>
      let was := st.therm.overThreshold.contains f.val
      let is := thresholdPassed v st.tjDeci
      let l := st.therm.overThreshold.filter (· ≠ f.val)
      let st := { st with therm := { st.therm with overThreshold := if is then l ++ [f.val] else l } }
      if is && !was then st.tempWarn f else st) s

/-- Thermal cycles (R493): a rise of 40 °C above the last minimum, then a fall of 40 °C from the maximum that followed. -/
def State.thermCycle (s : State) (first : Bool) : State :=
  let t := s.tjDeci
  let a := s.age
  match a.tjTop with
  | none =>
    let m := if first then t else min a.tjMin t
    { s with age := { a with tjMin := m, tjTop := if m + 400 ≤ t then some t else none } }
  | some top =>
    let m := max top t
    if t ≤ m - 400 then ({ s with age := { a with tjMin := t, tjTop := none } } : State).satFld Fld.AGE_THERM_CYCLES 1
    else { s with age := { a with tjTop := some m } }

/-- AGE_TJ_MAX raised to Tj (R492). -/
def State.tjMax (s : State) : State :=
  let t := s.tjDeci / 10
  if signedOf 8 (s.fld Fld.AGE_TJ_MAX.TJ) < t then s.setFld Fld.AGE_TJ_MAX.TJ (bitsOf 8 t) else s

/-- The temperature steps of R491 brought up to date while the fast domains run. -/
def State.tempSteps (s : State) : State :=
  let want := if s.tjDeci < 100 then 2 else 0
  if (s.pwr.fast == .running) && s.fld Fld.AGE_AVS_STEPS.TEMP != want then s.avsSteps (s.fld Fld.AGE_RO_SLOW.SLOW_X100) else s

/-- TEMPERATURE_SAMPLE (R375, R378, R379, R383, R491 to R493): the readings of one millisecond in 0.1 °C, sensor 0 first. -/
def execTemperatureSample (sensors : List Int) (s : State) : Out State :=
  if s.bit Fld.PWR_STATE.PEGBOX_READY = false ∨ sensors = [] then .next s
  else
    let first := s.therm.sensors.isEmpty
    let s := { s with therm := { s.therm with sensors := sensors.mapIdx (fun i t => (i, t)) } }
    let s := if s.thermState = 2 then s.incFld Fld.THERM_THROTTLE_MS 1 else s
    let s := ((s.thermCycle first).tjMax.tempSteps.tempThresholds).updateFans
    .next s.stopStep

end Sys2Proof.Machine
end

