-- ==== Sys2Proof/Machine/Dispatch.lean ====
section
/-! DEFINITION. Machine/Dispatch.lean: which meaning each command has, one arm per constructor, in the table's order. -/
namespace Sys2Proof.Machine

def exec (i : Instr) (s : State) : Host.Outcome State Fault Refusal :=
  match i with
  | .acFailNAssert => Sys2Proof.Machine.execAcFailNAssert s
  | .acFailNDeassert => Sys2Proof.Machine.execAcFailNDeassert s
  | .dumpCommit => Sys2Proof.Machine.execDumpCommit s
  | .packCutoff pack temp => Sys2Proof.Machine.execPackCutoff pack temp s
  | .packTempRecover pack => Sys2Proof.Machine.execPackTempRecover pack s
  | .aonRstNAssert => Sys2Proof.Machine.execAonRstNAssert s
  | .pegboxStart fw vault rateMbps areaMib targets blockMib sampleA sampleB => Sys2Proof.Machine.execPegboxStart fw vault rateMbps areaMib targets blockMib sampleA sampleB s
  | .pegboxWatchdogReset => Sys2Proof.Machine.execPegboxWatchdogReset s
  | .sysRstNAssert => Sys2Proof.Machine.execSysRstNAssert s
  | .sysRstNRelease => Sys2Proof.Machine.execSysRstNRelease s
  | .fastBootStart => Sys2Proof.Machine.execFastBootStart s
  | .bootHandover => Sys2Proof.Machine.execBootHandover s
  | .hostLinkReady => Sys2Proof.Machine.execHostLinkReady s
  | .imageCopyRewrite copy ok => Sys2Proof.Machine.execImageCopyRewrite copy ok s
  | .pllLock pll => Sys2Proof.Machine.execPllLock pll s
  | .pllLockTimeout pll => Sys2Proof.Machine.execPllLockTimeout pll s
  | .railOutOfRange => Sys2Proof.Machine.execRailOutOfRange s
  | .railRecovered => Sys2Proof.Machine.execRailRecovered s
  | .stageOpen iface => Sys2Proof.Machine.execStageOpen iface s
  | .stageVerify iface facts => Sys2Proof.Machine.execStageVerify iface facts s
  | .stageCommit iface => Sys2Proof.Machine.execStageCommit iface s
  | .activateLive iface => Sys2Proof.Machine.execActivateLive iface s
  | .activateReset iface => Sys2Proof.Machine.execActivateReset iface s
  | .activateResetDestaged => Sys2Proof.Machine.execActivateResetDestaged s
  | .stageAbort iface => Sys2Proof.Machine.execStageAbort iface s
  | .selectCopyA iface => Sys2Proof.Machine.execSelectCopyA iface s
  | .selectCopyB iface => Sys2Proof.Machine.execSelectCopyB iface s
  | .signingKeyEnrol iface st => Sys2Proof.Machine.execSigningKeyEnrol iface st s
  | .signingKeyRevoke iface st => Sys2Proof.Machine.execSigningKeyRevoke iface st s
  | .restoreFactory => Sys2Proof.Machine.execRestoreFactory s
  | .restorePrevious => Sys2Proof.Machine.execRestorePrevious s
  | .factoryCommit => Sys2Proof.Machine.execFactoryCommit s
  | .backgroundInitGroup a => Sys2Proof.Machine.execBackgroundInitGroup a s
  | .mappingDispatch req => Sys2Proof.Machine.execMappingDispatch req s
  | .mappingEmit lane => Sys2Proof.Machine.execMappingEmit lane s
  | .mappingStepLimit lane => Sys2Proof.Machine.execMappingStepLimit lane s
  | .testMappingGo => Sys2Proof.Machine.execTestMappingGo s
  | .doorbellWrite fn sq tail => Sys2Proof.Machine.execDoorbellWrite fn sq tail s
  | .cqHeadDoorbell fn cq head => Sys2Proof.Machine.execCqHeadDoorbell fn cq head s
  | .fetchGrant fn sq entries => Sys2Proof.Machine.execFetchGrant fn sq entries s
  | .rangeLockGrant tag => Sys2Proof.Machine.execRangeLockGrant tag s
  | .createIoSq fn cid qid mem cqid => Sys2Proof.Machine.execCreateIoSq fn cid qid mem cqid s
  | .createIoCq fn cid qid mem vector ien => Sys2Proof.Machine.execCreateIoCq fn cid qid mem vector ien s
  | .deleteIoSq fn cid qid => Sys2Proof.Machine.execDeleteIoSq fn cid qid s
  | .deleteIoCq fn cid qid => Sys2Proof.Machine.execDeleteIoCq fn cid qid s
  | .getLogPage fn cid lid lsp length => Sys2Proof.Machine.execGetLogPage fn cid lid lsp length s
  | .identify fn cid cns nsid => Sys2Proof.Machine.execIdentify fn cid cns nsid s
  | .abortCommand fn cid sqid target => Sys2Proof.Machine.execAbortCommand fn cid sqid target s
  | .setFeaturesNumberOfQueues fn cid nsq ncq => Sys2Proof.Machine.execSetFeaturesNumberOfQueues fn cid nsq ncq s
  | .setFeaturesPowerManagement fn cid ps => Sys2Proof.Machine.execSetFeaturesPowerManagement fn cid ps s
  | .setFeaturesQueueClass fn cid sqid cls => Sys2Proof.Machine.execSetFeaturesQueueClass fn cid sqid cls s
  | .setFeaturesProtectionWindow fn cid nsid index start count flags token => Sys2Proof.Machine.execSetFeaturesProtectionWindow fn cid nsid index start count flags token s
  | .setFeaturesArbitration fn cid value => Sys2Proof.Machine.execSetFeaturesArbitration fn cid value s
  | .setFeaturesOther fn cid fid given => Sys2Proof.Machine.execSetFeaturesOther fn cid fid given s
  | .getFeatures fn cid fid arg => Sys2Proof.Machine.execGetFeatures fn cid fid arg s
  | .asynchronousEventRequest fn cid => Sys2Proof.Machine.execAsynchronousEventRequest fn cid s
  | .formatNvm fn cid nsid ses fmt => Sys2Proof.Machine.execFormatNvm fn cid nsid ses fmt s
  | .sanitizeOverwrite fn cid pattern passes invert => Sys2Proof.Machine.execSanitizeOverwrite fn cid pattern passes invert s
  | .sanitizeCryptoErase fn cid => Sys2Proof.Machine.execSanitizeCryptoErase fn cid s
  | .sanitizeOther fn cid sanact => Sys2Proof.Machine.execSanitizeOther fn cid sanact s
  | .invalidOpcodeCommand fn sq cid => Sys2Proof.Machine.execInvalidOpcodeCommand fn sq cid s
  | .formatWatermarkSave nsid => Sys2Proof.Machine.execFormatWatermarkSave nsid s
  | .formatEnd nsid => Sys2Proof.Machine.execFormatEnd nsid s
  | .sanitizeEnd => Sys2Proof.Machine.execSanitizeEnd s
  | .nvmeFlush tag => Sys2Proof.Machine.execNvmeFlush tag s
  | .nvmeWrite tag plain => Sys2Proof.Machine.execNvmeWrite tag plain s
  | .nvmeRead tag => Sys2Proof.Machine.execNvmeRead tag s
  | .writeZeroes tag => Sys2Proof.Machine.execWriteZeroes tag s
  | .datasetManagement tag => Sys2Proof.Machine.execDatasetManagement tag s
  | .nvmeVerify tag => Sys2Proof.Machine.execNvmeVerify tag s
  | .ccEnable fn asqs acqs => Sys2Proof.Machine.execCcEnable fn asqs acqs s
  | .functionReset fn kind => Sys2Proof.Machine.execFunctionReset fn kind s
  | .functionResetComplete fn => Sys2Proof.Machine.execFunctionResetComplete fn s
  | .perstNAssert hp => Sys2Proof.Machine.execPerstNAssert hp s
  | .perstNRelease hp => Sys2Proof.Machine.execPerstNRelease hp s
  | .memberCompletion port slot res => Sys2Proof.Machine.execMemberCompletion port slot res s
  | .completionPost hp => Sys2Proof.Machine.execCompletionPost hp s
  | .writePlaced tag => Sys2Proof.Machine.execWritePlaced tag s
  | .dirtyLimitAdmit => Sys2Proof.Machine.execDirtyLimitAdmit s
  | .dirtyLimitRecompute => Sys2Proof.Machine.execDirtyLimitRecompute s
  | .dirtyNamespaceSetAck nsid => Sys2Proof.Machine.execDirtyNamespaceSetAck nsid s
  | .dirtyNamespaceClear nsid => Sys2Proof.Machine.execDirtyNamespaceClear nsid s
  | .mirrorAck => Sys2Proof.Machine.execMirrorAck s
  | .mirrorLost => Sys2Proof.Machine.execMirrorLost s
  | .stripeUpdateStart a stripe => Sys2Proof.Machine.execStripeUpdateStart a stripe s
  | .dirtyAgeExpiry nsid lba => Sys2Proof.Machine.execDirtyAgeExpiry nsid lba s
  | .gatherExpiry a stripe => Sys2Proof.Machine.execGatherExpiry a stripe s
  | .stripeUpdateReadsDone id => Sys2Proof.Machine.execStripeUpdateReadsDone id s
  | .stripeUpdateContextSaved id => Sys2Proof.Machine.execStripeUpdateContextSaved id s
  | .fretSetAck id => Sys2Proof.Machine.execFretSetAck id s
  | .dataWritesDone id => Sys2Proof.Machine.execDataWritesDone id s
  | .parityWritesDone id => Sys2Proof.Machine.execParityWritesDone id s
  | .fretClear bit => Sys2Proof.Machine.execFretClear bit s
  | .fretClearAck bit => Sys2Proof.Machine.execFretClearAck bit s
  | .wcDestageAll => Sys2Proof.Machine.execWcDestageAll s
  | .wcClearIdle => Sys2Proof.Machine.execWcClearIdle s
  | .dumpRetire area => Sys2Proof.Machine.execDumpRetire area s
  | .areaEraseDone area => Sys2Proof.Machine.execAreaEraseDone area s
  | .vaultReplayStart => Sys2Proof.Machine.execVaultReplayStart s
  | .vaultReplayComplete => Sys2Proof.Machine.execVaultReplayComplete s
  | .reshapeUncleanRerun a => Sys2Proof.Machine.execReshapeUncleanRerun a s
  | .resyncScanStep a => Sys2Proof.Machine.execResyncScanStep a s
  | .katRun => Sys2Proof.Machine.execKatRun s
  | .katPeriodic => Sys2Proof.Machine.execKatPeriodic s
  | .katResult slice pass => Sys2Proof.Machine.execKatResult slice pass s
  | .slowWindowEval a m median reads => Sys2Proof.Machine.execSlowWindowEval a m median reads s
  | .slowFailExpiry a m => Sys2Proof.Machine.execSlowFailExpiry a m s
  | .rebuildStripe a => Sys2Proof.Machine.execRebuildStripe a s
  | .copybackUnit a => Sys2Proof.Machine.execCopybackUnit a s
  | .scrubPeriodStart a => Sys2Proof.Machine.execScrubPeriodStart a s
  | .scrubStripe a => Sys2Proof.Machine.execScrubStripe a s
  | .reshapeStep a => Sys2Proof.Machine.execReshapeStep a s
  | .arrScrubNow a => Sys2Proof.Machine.execArrScrubNow a s
  | .arrPause a => Sys2Proof.Machine.execArrPause a s
  | .arrResume a => Sys2Proof.Machine.execArrResume a s
  | .arrFailMember a m => Sys2Proof.Machine.execArrFailMember a m s
  | .arrCopyback a => Sys2Proof.Machine.execArrCopyback a s
  | .memberDeadline port slot => Sys2Proof.Machine.execMemberDeadline port slot s
  | .histClear => Sys2Proof.Machine.execHistClear s
  | .latC0IssueMaxRead => Sys2Proof.Machine.execLatC0IssueMaxRead s
  | .latC0PostMaxRead => Sys2Proof.Machine.execLatC0PostMaxRead s
  | .hfeCollectMaxRead hp => Sys2Proof.Machine.execHfeCollectMaxRead hp s
  | .errDepthMaxRead => Sys2Proof.Machine.execErrDepthMaxRead s
  | .pairLoRead iface addr => Sys2Proof.Machine.execPairLoRead iface addr s
  | .pairLoWrite iface addr value => Sys2Proof.Machine.execPairLoWrite iface addr value s
  | .pairHiWrite iface addr value => Sys2Proof.Machine.execPairHiWrite iface addr value s
  | .groupWord0Read iface addr => Sys2Proof.Machine.execGroupWord0Read iface addr s
  | .registerWrite iface addr value => Sys2Proof.Machine.execRegisterWrite iface addr value s
  | .scReadRequest req line word => Sys2Proof.Machine.execScReadRequest req line word s
  | .scFillReturn line ok => Sys2Proof.Machine.execScFillReturn line ok s
  | .scWriteRequest req line mask data => Sys2Proof.Machine.execScWriteRequest req line mask data s
  | .mergeBufferDrain line => Sys2Proof.Machine.execMergeBufferDrain line s
  | .hbmWriteAck line => Sys2Proof.Machine.execHbmWriteAck line s
  | .evictionBufferExpiry slice => Sys2Proof.Machine.execEvictionBufferExpiry slice s
  | .ownershipRequest pqs line => Sys2Proof.Machine.execOwnershipRequest pqs line s
  | .recallWriteBack line data => Sys2Proof.Machine.execRecallWriteBack line data s
  | .retryReissue pq line => Sys2Proof.Machine.execRetryReissue pq line s
  | .scMaintClean byWay => Sys2Proof.Machine.execScMaintClean byWay s
  | .scMaintInvalidate byWay => Sys2Proof.Machine.execScMaintInvalidate byWay s
  | .scMaintCleanInvalidate byWay => Sys2Proof.Machine.execScMaintCleanInvalidate byWay s
  | .scRangeClean => Sys2Proof.Machine.execScRangeClean s
  | .scRangeInvalidate => Sys2Proof.Machine.execScRangeInvalidate s
  | .scRangeCleanInvalidate => Sys2Proof.Machine.execScRangeCleanInvalidate s
  | .scPreload => Sys2Proof.Machine.execScPreload s
  | .scInvalidateWays => Sys2Proof.Machine.execScInvalidateWays s
  | .scRangeDone => Sys2Proof.Machine.execScRangeDone s
  | .scMaintDone => Sys2Proof.Machine.execScMaintDone s
  | .scLockWrite ways => Sys2Proof.Machine.execScLockWrite ways s
  | .evictPathSwitch path => Sys2Proof.Machine.execEvictPathSwitch path s
  | .scInitDone => Sys2Proof.Machine.execScInitDone s
  | .scEccError place corrected => Sys2Proof.Machine.execScEccError place corrected s
  | .dmaStart iface ch => Sys2Proof.Machine.execDmaStart iface ch s
  | .dmaTimer ch => Sys2Proof.Machine.execDmaTimer ch s
  | .dmaDescFetch ch bytes => Sys2Proof.Machine.execDmaDescFetch ch bytes s
  | .dmaGrant ch src => Sys2Proof.Machine.execDmaGrant ch src s
  | .dmaReadBack ch ok => Sys2Proof.Machine.execDmaReadBack ch ok s
  | .dmaBusError ch dest confirmed => Sys2Proof.Machine.execDmaBusError ch dest confirmed s
  | .dmaHalt ch code => Sys2Proof.Machine.execDmaHalt ch code s
  | .dmaDisable iface ch => Sys2Proof.Machine.execDmaDisable iface ch s
  | .dmaWinEnable iface win ctrl => Sys2Proof.Machine.execDmaWinEnable iface win ctrl s
  | .keySetOwner => Sys2Proof.Machine.execKeySetOwner s
  | .keyLoadBlob plain => Sys2Proof.Machine.execKeyLoadBlob plain s
  | .keyUnload => Sys2Proof.Machine.execKeyUnload s
  | .keyZeroizeAll => Sys2Proof.Machine.execKeyZeroizeAll s
  | .trngRestart => Sys2Proof.Machine.execTrngRestart s
  | .tamperRelease iface active => Sys2Proof.Machine.execTamperRelease iface active s
  | .tamperCfgLock value => Sys2Proof.Machine.execTamperCfgLock value s
  | .cipherMessageStart pick remaining => Sys2Proof.Machine.execCipherMessageStart pick remaining s
  | .cipherMessageDone pipe => Sys2Proof.Machine.execCipherMessageDone pipe s
  | .nonceMarkAck nsid => Sys2Proof.Machine.execNonceMarkAck nsid s
  | .trngStartupDone ok => Sys2Proof.Machine.execTrngStartupDone ok s
  | .trngBlockReady => Sys2Proof.Machine.execTrngBlockReady s
  | .trngHealthFail apt => Sys2Proof.Machine.execTrngHealthFail apt s
  | .entropyTimeout tag => Sys2Proof.Machine.execEntropyTimeout tag s
  | .tamperTrip src active => Sys2Proof.Machine.execTamperTrip src active s
  | .drivePresent port => Sys2Proof.Machine.execDrivePresent port s
  | .driveIdentified port d => Sys2Proof.Machine.execDriveIdentified port d s
  | .driveLinkLoss port gone => Sys2Proof.Machine.execDriveLinkLoss port gone s
  | .removalTimeout port => Sys2Proof.Machine.execRemovalTimeout port s
  | .spinupDelayExpiry port => Sys2Proof.Machine.execSpinupDelayExpiry port s
  | .spinupPluckTimeout port => Sys2Proof.Machine.execSpinupPluckTimeout port s
  | .spinupWaitExpiry port => Sys2Proof.Machine.execSpinupWaitExpiry port s
  | .memberCommandIssue port pick => Sys2Proof.Machine.execMemberCommandIssue port pick s
  | .memberTimeout port slot => Sys2Proof.Machine.execMemberTimeout port slot s
  | .escalationStepDone port => Sys2Proof.Machine.execEscalationStepDone port s
  | .escalationStepTimeout port => Sys2Proof.Machine.execEscalationStepTimeout port s
  | .healthPoll port => Sys2Proof.Machine.execHealthPoll port s
  | .portResetLink port => Sys2Proof.Machine.execPortResetLink port s
  | .portPowerCycle port => Sys2Proof.Machine.execPortPowerCycle port s
  | .portAccept port => Sys2Proof.Machine.execPortAccept port s
  | .portRelease port => Sys2Proof.Machine.execPortRelease port s
  | .portSpinupNow port => Sys2Proof.Machine.execPortSpinupNow port s
  | .capoSeenClass c => Sys2Proof.Machine.execCapoSeenClass c s
  | .readbackCheck same => Sys2Proof.Machine.execReadbackCheck same s
  | .gateOpen => Sys2Proof.Machine.execGateOpen s
  | .capoRenew iface => Sys2Proof.Machine.execCapoRenew iface s
  | .renewExpiry => Sys2Proof.Machine.execRenewExpiry s
  | .contentionTimeout => Sys2Proof.Machine.execContentionTimeout s
  | .contentionBackoffExpiry => Sys2Proof.Machine.execContentionBackoffExpiry s
  | .capoClaim => Sys2Proof.Machine.execCapoClaim s
  | .capoRelease => Sys2Proof.Machine.execCapoRelease s
  | .releaseComplete => Sys2Proof.Machine.execReleaseComplete s
  | .capoClearFault => Sys2Proof.Machine.execCapoClearFault s
  | .capoForceClaim iface => Sys2Proof.Machine.execCapoForceClaim iface s
  | .selftestNow failed => Sys2Proof.Machine.execSelftestNow failed s
  | .selftestCycle failed => Sys2Proof.Machine.execSelftestCycle failed s
  | .healthWordSend => Sys2Proof.Machine.execHealthWordSend s
  | .healthWordReceive h => Sys2Proof.Machine.execHealthWordReceive h s
  | .mirrorItemReceive item => Sys2Proof.Machine.execMirrorItemReceive item s
  | .mirrorDigestCheck differ => Sys2Proof.Machine.execMirrorDigestCheck differ s
  | .mirrorSyncComplete => Sys2Proof.Machine.execMirrorSyncComplete s
  | .standbyMirrorSilence => Sys2Proof.Machine.execStandbyMirrorSilence s
  | .pairRoleChoice partner => Sys2Proof.Machine.execPairRoleChoice partner s
  | .startupWaitExpiry => Sys2Proof.Machine.execStartupWaitExpiry s
  | .takeover => Sys2Proof.Machine.execTakeover s
  | .writeFenceEnd => Sys2Proof.Machine.execWriteFenceEnd s
  | .helloReceive link h => Sys2Proof.Machine.execHelloReceive link h s
  | .helloRetry => Sys2Proof.Machine.execHelloRetry s
  | .memberLeaveTimeout node => Sys2Proof.Machine.execMemberLeaveTimeout node s
  | .gmAnnounce => Sys2Proof.Machine.execGmAnnounce s
  | .gmElection cands => Sys2Proof.Machine.execGmElection cands s
  | .syncExchange offset delay link => Sys2Proof.Machine.execSyncExchange offset delay link s
  | .pitSet => Sys2Proof.Machine.execPitSet s
  | .pitSetAtPps => Sys2Proof.Machine.execPitSetAtPps s
  | .pitSetUtc => Sys2Proof.Machine.execPitSetUtc s
  | .pitResync => Sys2Proof.Machine.execPitResync s
  | .ppsInEdge => Sys2Proof.Machine.execPpsInEdge s
  | .ppsInLoss => Sys2Proof.Machine.execPpsInLoss s
  | .ppsOutSecond => Sys2Proof.Machine.execPpsOutSecond s
  | .pluckWrite => Sys2Proof.Machine.execPluckWrite s
  | .pluckWriteFed => Sys2Proof.Machine.execPluckWriteFed s
  | .pluckCancel => Sys2Proof.Machine.execPluckCancel s
  | .pluckCancelFed => Sys2Proof.Machine.execPluckCancelFed s
  | .pluckReceive m => Sys2Proof.Machine.execPluckReceive m s
  | .pluckAnswerReceive ans => Sys2Proof.Machine.execPluckAnswerReceive ans s
  | .pluckDistTimeout => Sys2Proof.Machine.execPluckDistTimeout s
  | .pluckCancelReceive origin id => Sys2Proof.Machine.execPluckCancelReceive origin id s
  | .pluckFire index => Sys2Proof.Machine.execPluckFire index s
  | .pluckEarlyWake index => Sys2Proof.Machine.execPluckEarlyWake index s
  | .writeBarrierDone index => Sys2Proof.Machine.execWriteBarrierDone index s
  | .gaugeEnergyCompute sampleA sampleB => Sys2Proof.Machine.execGaugeEnergyCompute sampleA sampleB s
  | .packRemoved pack => Sys2Proof.Machine.execPackRemoved pack s
  | .packPresent pack => Sys2Proof.Machine.execPackPresent pack s
  | .holdupSelftestStart pack => Sys2Proof.Machine.execHoldupSelftestStart pack s
  | .holdupSelftestStep mv ma => Sys2Proof.Machine.execHoldupSelftestStep mv ma s
  | .holdupRetestTimer pack => Sys2Proof.Machine.execHoldupRetestTimer pack s
  | .holdupTestAgeExpiry pack => Sys2Proof.Machine.execHoldupTestAgeExpiry pack s
  | .holdupStartupTest => Sys2Proof.Machine.execHoldupStartupTest s
  | .learnStart pack => Sys2Proof.Machine.execLearnStart pack s
  | .learnDischargeEnd pack => Sys2Proof.Machine.execLearnDischargeEnd pack s
  | .learnRestEnd pack => Sys2Proof.Machine.execLearnRestEnd pack s
  | .learnDisqualify pack why => Sys2Proof.Machine.execLearnDisqualify pack why s
  | .learnRetry pack => Sys2Proof.Machine.execLearnRetry pack s
  | .gaugeBlockWrite pack => Sys2Proof.Machine.execGaugeBlockWrite pack s
  | .nrgTest pack => Sys2Proof.Machine.execNrgTest pack s
  | .nrgLearn pack => Sys2Proof.Machine.execNrgLearn pack s
  | .learnAbort pack => Sys2Proof.Machine.execLearnAbort pack s
  | .nrgRetest pack => Sys2Proof.Machine.execNrgRetest pack s
  | .nrgSamePack pack => Sys2Proof.Machine.execNrgSamePack pack s
  | .vaultPatrol rateMbps wearPct dirOk => Sys2Proof.Machine.execVaultPatrol rateMbps wearPct dirOk s
  | .vaultPatrolNow rateMbps wearPct dirOk => Sys2Proof.Machine.execVaultPatrolNow rateMbps wearPct dirOk s
  | .thermalStateChange => Sys2Proof.Machine.execThermalStateChange s
  | .throttleClockStep => Sys2Proof.Machine.execThrottleClockStep s
  | .avsTimeout => Sys2Proof.Machine.execAvsTimeout s
  | .vddFbPowerCheck mw => Sys2Proof.Machine.execVddFbPowerCheck mw s
  | .fanListenEnd n rotor => Sys2Proof.Machine.execFanListenEnd n rotor s
  | .fanBrakeDone n ok => Sys2Proof.Machine.execFanBrakeDone n ok s
  | .fanWaitRecheck n rotor => Sys2Proof.Machine.execFanWaitRecheck n rotor s
  | .fanRampEnd drive locked rs ls => Sys2Proof.Machine.execFanRampEnd drive locked rs ls s
  | .fanAttemptFail n => Sys2Proof.Machine.execFanAttemptFail n s
  | .fanRetryTimer n => Sys2Proof.Machine.execFanRetryTimer n s
  | .fanOvercurrent drive => Sys2Proof.Machine.execFanOvercurrent drive s
  | .fanStall drive => Sys2Proof.Machine.execFanStall drive s
  | .fanClassChange drive rpm ke => Sys2Proof.Machine.execFanClassChange drive rpm ke s
  | .fanPinLoss n => Sys2Proof.Machine.execFanPinLoss n s
  | .fanPinValid n duty => Sys2Proof.Machine.execFanPinValid n duty s
  | .fanClearFault n => Sys2Proof.Machine.execFanClearFault n s
  | .fanRestart n => Sys2Proof.Machine.execFanRestart n s
  | .fanRelearn n => Sys2Proof.Machine.execFanRelearn n s
  | .eventRecord => Sys2Proof.Machine.execEventRecord s
  | .eventFreeze iface => Sys2Proof.Machine.execEventFreeze iface s
  | .eventUnfreeze iface => Sys2Proof.Machine.execEventUnfreeze iface s
  | .freezeTimeout => Sys2Proof.Machine.execFreezeTimeout s
  | .eventChallenge => Sys2Proof.Machine.execEventChallenge s
  | .challengeExpiry => Sys2Proof.Machine.execChallengeExpiry s
  | .lockoutEnd => Sys2Proof.Machine.execLockoutEnd s
  | .eventClear iface => Sys2Proof.Machine.execEventClear iface s
  | .eventAuthSet iface => Sys2Proof.Machine.execEventAuthSet iface s
  | .soundpostNow => Sys2Proof.Machine.execSoundpostNow s
  | .soundpostVaultCopy => Sys2Proof.Machine.execSoundpostVaultCopy s
  | .soundpostFlashCopy => Sys2Proof.Machine.execSoundpostFlashCopy s
  | .read32 addr => Sys2Proof.Machine.execRead32 addr s
  | .read64 addr => Sys2Proof.Machine.execRead64 addr s
  | .write32 addr value => Sys2Proof.Machine.execWrite32 addr value s
  | .lastStatus => Sys2Proof.Machine.execLastStatus s
  | .readBurst addr count => Sys2Proof.Machine.execReadBurst addr count s
  | .recoverableError e source => Sys2Proof.Machine.execRecoverableError e source s
  | .handlerEnd index ok => Sys2Proof.Machine.execHandlerEnd index ok s
  | .handlerTimeout index => Sys2Proof.Machine.execHandlerTimeout index s
  | .fatalError cause => Sys2Proof.Machine.execFatalError cause s
  | .fatalRestart => Sys2Proof.Machine.execFatalRestart s
  | .errRestart => Sys2Proof.Machine.execErrRestart s
  | .quiescePoint => Sys2Proof.Machine.execQuiescePoint s
  | .wake => Sys2Proof.Machine.execWake s
  | .exitComplete => Sys2Proof.Machine.execExitComplete s
  | .hostLinkL12Exit hp => Sys2Proof.Machine.execHostLinkL12Exit hp s
  | .apstTransition fn => Sys2Proof.Machine.execApstTransition fn s
  | .agingWriteback => Sys2Proof.Machine.execAgingWriteback s
  | .ageAccumulate => Sys2Proof.Machine.execAgeAccumulate s
  | .roMeasure slowX100 => Sys2Proof.Machine.execRoMeasure slowX100 s
  | .emramRefresh => Sys2Proof.Machine.execEmramRefresh s
  | .alwaysOnPowerUp => Sys2Proof.Machine.execAlwaysOnPowerUp s
  | .powerDown => Sys2Proof.Machine.execPowerDown s
  | .hotReset hp => Sys2Proof.Machine.execHotReset hp s
  | .coalescingTimeExpiry fn cq => Sys2Proof.Machine.execCoalescingTimeExpiry fn cq s
  | .ppsHoldoverExpiry => Sys2Proof.Machine.execPpsHoldoverExpiry s
  | .commitComplete ok => Sys2Proof.Machine.execCommitComplete ok s
  | .vaultRestoreDone => Sys2Proof.Machine.execVaultRestoreDone s
  | .temperatureSample sensors => Sys2Proof.Machine.execTemperatureSample sensors s

end Sys2Proof.Machine
end

