-- ==== Sys2Proof/Machine/Frame.lean ====
section
/-!
DEFINITION. Machine/Frame.lean: what it means that only some parts of the state, or only some register fields, changed: the terms in which the
statements say what a command leaves as it was.
-/
namespace Sys2Proof.Machine

/-- The parts of State, one for each field. -/
inductive Part where
  | pending | now | freeIx | regs | latches | heldLo | lastSmb | answer | pwr | evr | err | img | cal | map | hfe | lat
  | wc | vault | rbe | sc | dma | cip | ports | capo | fed | nrg | therm | fans | age
deriving DecidableEq, Repr

/-- A part of the state is as it was. -/
def Part.same (p : Part) (s t : State) : Prop :=
  match p with
  | .pending => t.pending = s.pending
  | .now => t.now = s.now
  | .freeIx => t.freeIx = s.freeIx
  | .regs => t.regs = s.regs
  | .latches => t.latches = s.latches
  | .heldLo => t.heldLo = s.heldLo
  | .lastSmb => t.lastSmb = s.lastSmb
  | .answer => t.answer = s.answer
  | .pwr => t.pwr = s.pwr
  | .evr => t.evr = s.evr
  | .err => t.err = s.err
  | .img => t.img = s.img
  | .cal => t.cal = s.cal
  | .map => t.map = s.map
  | .hfe => t.hfe = s.hfe
  | .lat => t.lat = s.lat
  | .wc => t.wc = s.wc
  | .vault => t.vault = s.vault
  | .rbe => t.rbe = s.rbe
  | .sc => t.sc = s.sc
  | .dma => t.dma = s.dma
  | .cip => t.cip = s.cip
  | .ports => t.ports = s.ports
  | .capo => t.capo = s.capo
  | .fed => t.fed = s.fed
  | .nrg => t.nrg = s.nrg
  | .therm => t.therm = s.therm
  | .fans => t.fans = s.fans
  | .age => t.age = s.age

/-- Nothing outside a list of parts changed. -/
def Only (l : List Part) (s t : State) : Prop := ∀ p : Part, l.contains p = false → p.same s t

/-- A field is one of those of an indexed field (R7), or the field itself. -/
def Field.instOf (g f : Field) : Prop := f.key = g.key ∨ ∃ i, f.key = (g.at i).key

/-- Every register field that is none of those of a listed one keeps its value. -/
def Kept (l : List Field) (s t : State) : Prop := ∀ f : Field, (∀ g ∈ l, ¬ g.instOf f) → t.fld f = s.fld f

/-- A command's outcome is a next state that differs from the state before it in the listed parts, and in the listed register fields,
alone. -/
def Frames (c : Out State) (s : State) (ps : List Part) (fs : List Field) : Prop := ∃ t, c = .next t ∧ Only ps s t ∧ Kept fs s t

end Sys2Proof.Machine
end

