-- ==== Sys2Proof/Machine/Touches.lean ====
section
/-!
DEFINITION. Machine/Touches.lean: for every command, the parts of the state and the register fields that it may change. The statements use
the two tables to say what a command leaves as it was; nothing in the machine reads them.
-/
namespace Sys2Proof.Machine

/-- The parts of the state that a command may change. -/
def partsOf (i : Instr) : List Part :=
  match i with
  | .acFailNAssert => [.freeIx, .regs, .latches, .heldLo, .pwr, .evr, .err, .img, .map, .hfe, .lat, .wc, .vault, .rbe, .sc, .dma, .cip, .ports,
      .capo, .fed, .nrg, .therm, .age]
  | .acFailNDeassert => [.regs, .pwr, .evr, .cal, .hfe, .wc, .nrg]
  | .dumpCommit => [.freeIx, .regs, .latches, .heldLo, .pwr, .evr, .err, .img, .map, .hfe, .lat, .wc, .vault, .rbe, .sc, .dma, .cip, .ports, .capo,
      .fed, .nrg, .therm, .age]
  | .packCutoff _ _ => [.freeIx, .regs, .evr, .hfe, .wc, .vault, .nrg]
  | .packTempRecover _ => [.nrg]
  | .aonRstNAssert => [.freeIx, .regs, .latches, .heldLo, .pwr, .evr, .err, .img, .map, .hfe, .lat, .wc, .vault, .rbe, .sc, .dma, .cip, .ports,
      .capo, .fed, .nrg, .therm, .fans]
  | .pegboxStart _ _ _ _ _ _ _ _ => [.freeIx, .regs, .latches, .heldLo, .pwr, .evr, .cal, .hfe, .wc, .vault, .cip, .fed, .nrg, .fans]
  | .pegboxWatchdogReset => [.freeIx, .regs, .latches, .heldLo, .pwr, .evr, .err, .img, .map, .hfe, .lat, .wc, .vault, .rbe, .sc, .dma, .cip,
      .ports, .capo, .fed, .nrg, .therm, .fans]
  | .sysRstNAssert => [.freeIx, .regs, .latches, .heldLo, .pwr, .evr, .err, .img, .map, .hfe, .lat, .wc, .vault, .rbe, .sc, .dma, .cip, .ports,
      .capo, .fed, .therm]
  | .sysRstNRelease => [.regs, .pwr, .evr]
  | .fastBootStart => [.regs, .pwr]
  | .bootHandover => [.freeIx, .regs, .pwr, .evr, .img, .cal, .hfe, .lat, .wc, .rbe, .ports, .capo, .fed, .fans]
  | .hostLinkReady => [.regs, .evr, .hfe, .wc, .rbe, .capo]
  | .imageCopyRewrite _ _ => [.regs, .evr, .img]
  | .pllLock _ => [.pwr]
  | .pllLockTimeout _ => [.err]
  | .railOutOfRange => [.regs, .pwr, .err]
  | .railRecovered => [.pwr]
  | .stageOpen _ => [.regs, .img]
  | .stageVerify _ _ => [.regs, .img]
  | .stageCommit _ => [.regs, .img]
  | .activateLive _ => [.freeIx, .regs, .evr, .img, .cal, .hfe, .wc, .rbe, .ports, .fed, .fans]
  | .activateReset _ => [.regs, .pwr, .wc]
  | .activateResetDestaged => [.freeIx, .regs, .latches, .heldLo, .pwr, .err, .img, .map, .hfe, .lat, .wc, .rbe, .sc, .dma, .cip, .ports, .capo,
      .fed]
  | .stageAbort _ => [.regs, .img]
  | .selectCopyA _ => [.regs, .evr, .img]
  | .selectCopyB _ => [.regs, .evr, .img]
  | .signingKeyEnrol _ _ => [.regs, .evr, .img]
  | .signingKeyRevoke _ _ => [.regs, .evr, .img]
  | .restoreFactory => [.freeIx, .regs, .evr, .cal, .hfe, .wc, .nrg]
  | .restorePrevious => [.freeIx, .regs, .evr, .cal, .hfe, .wc, .nrg]
  | .factoryCommit => [.regs, .cal]
  | .backgroundInitGroup _ => [.rbe, .ports]
  | .mappingDispatch _ => [.regs, .evr, .map, .hfe, .rbe]
  | .mappingEmit _ => [.regs, .evr, .map, .hfe, .rbe]
  | .mappingStepLimit _ => [.regs, .evr, .map, .hfe, .rbe]
  | .testMappingGo => [.freeIx, .regs, .evr, .map, .hfe, .rbe]
  | .doorbellWrite _ _ _ => [.regs, .pwr, .hfe]
  | .cqHeadDoorbell _ _ _ => [.regs, .pwr, .hfe]
  | .fetchGrant _ _ _ => [.regs, .hfe, .lat]
  | .rangeLockGrant _ => [.regs, .hfe]
  | .createIoSq _ _ _ _ _ => [.regs, .pwr, .hfe]
  | .createIoCq _ _ _ _ _ _ => [.regs, .pwr, .hfe]
  | .deleteIoSq _ _ _ => [.freeIx, .regs, .pwr, .hfe]
  | .deleteIoCq _ _ _ => [.regs, .pwr, .hfe]
  | .getLogPage _ _ _ _ _ => [.freeIx, .regs, .pwr, .hfe]
  | .identify _ _ _ _ => [.freeIx, .regs, .pwr, .hfe]
  | .abortCommand _ _ _ _ => [.regs, .pwr, .evr, .hfe, .wc, .vault, .cip, .capo]
  | .setFeaturesNumberOfQueues _ _ _ _ => [.freeIx, .regs, .pwr, .hfe]
  | .setFeaturesPowerManagement _ _ _ => [.regs, .pwr, .hfe, .wc, .age]
  | .setFeaturesQueueClass _ _ _ _ => [.regs, .pwr, .hfe]
  | .setFeaturesProtectionWindow _ _ _ _ _ _ _ _ => [.regs, .pwr, .evr, .hfe]
  | .setFeaturesArbitration _ _ _ => [.regs, .pwr, .hfe]
  | .setFeaturesOther _ _ _ _ => [.regs, .pwr, .hfe]
  | .getFeatures _ _ _ _ => [.freeIx, .regs, .pwr, .hfe]
  | .asynchronousEventRequest _ _ => [.regs, .pwr, .hfe]
  | .formatNvm _ _ _ _ _ => [.regs, .pwr, .evr, .hfe, .wc, .vault, .cip, .capo]
  | .sanitizeOverwrite _ _ _ _ _ => [.regs, .pwr, .evr, .hfe, .wc, .vault, .cip, .capo]
  | .sanitizeCryptoErase _ _ => [.regs, .pwr, .evr, .hfe, .wc, .vault, .cip, .capo]
  | .sanitizeOther _ _ _ => [.regs, .pwr, .hfe]
  | .invalidOpcodeCommand _ _ _ => [.regs, .pwr, .hfe, .lat]
  | .formatWatermarkSave _ => [.regs, .evr, .hfe, .wc, .rbe, .capo]
  | .formatEnd _ => [.regs, .evr, .hfe, .wc, .capo]
  | .sanitizeEnd => [.hfe, .rbe]
  | .nvmeFlush _ => [.regs, .hfe, .wc, .ports]
  | .nvmeWrite _ _ => [.freeIx, .regs, .evr, .hfe, .wc, .rbe, .cip, .capo]
  | .nvmeRead _ => [.regs, .evr, .hfe, .wc, .rbe, .cip, .ports, .capo]
  | .writeZeroes _ => [.freeIx, .regs, .evr, .hfe, .wc, .rbe, .cip, .capo]
  | .datasetManagement _ => [.freeIx, .regs, .evr, .hfe, .wc, .rbe, .cip, .capo]
  | .nvmeVerify _ => [.regs, .evr, .hfe, .wc, .rbe, .cip, .ports, .capo]
  | .ccEnable _ _ _ => [.evr, .hfe]
  | .functionReset _ _ => [.freeIx, .regs, .pwr, .evr, .map, .hfe, .wc, .vault, .sc, .dma, .cip, .ports, .capo]
  | .functionResetComplete _ => [.hfe]
  | .perstNAssert _ => [.freeIx, .regs, .pwr, .evr, .map, .hfe, .wc, .vault, .sc, .dma, .cip, .ports, .capo]
  | .perstNRelease _ => [.pwr]
  | .memberCompletion _ _ _ => [.regs, .evr, .hfe, .wc, .rbe, .ports, .capo]
  | .completionPost _ => [.regs, .evr, .hfe, .lat, .wc, .vault, .cip, .capo]
  | .writePlaced _ => [.regs, .hfe, .wc, .ports, .capo]
  | .dirtyLimitAdmit => [.freeIx, .regs, .evr, .hfe, .wc, .cip, .capo]
  | .dirtyLimitRecompute => [.regs, .evr, .hfe, .wc]
  | .dirtyNamespaceSetAck _ => [.regs, .hfe, .wc, .ports]
  | .dirtyNamespaceClear _ => [.wc]
  | .mirrorAck => [.regs, .hfe, .wc, .ports, .capo]
  | .mirrorLost => [.regs, .evr, .hfe, .wc, .ports, .capo]
  | .stripeUpdateStart _ _ => [.wc, .ports]
  | .dirtyAgeExpiry _ _ => [.wc, .ports]
  | .gatherExpiry _ _ => [.wc, .ports]
  | .stripeUpdateReadsDone _ => [.regs, .wc]
  | .stripeUpdateContextSaved _ => [.regs, .evr, .wc, .ports, .capo]
  | .fretSetAck _ => [.wc, .ports]
  | .dataWritesDone _ => [.regs, .evr, .hfe, .wc, .rbe, .ports, .capo]
  | .parityWritesDone _ => [.regs, .evr, .hfe, .wc, .rbe, .capo]
  | .fretClear _ => [.regs, .wc, .capo]
  | .fretClearAck _ => [.regs, .wc, .capo]
  | .wcDestageAll => [.freeIx, .regs, .evr, .wc]
  | .wcClearIdle => [.freeIx, .regs, .evr, .wc, .capo]
  | .dumpRetire _ => [.regs, .vault]
  | .areaEraseDone _ => [.regs, .evr, .hfe, .wc, .vault]
  | .vaultReplayStart => [.regs, .wc]
  | .vaultReplayComplete => [.regs, .evr, .hfe, .wc, .rbe, .capo]
  | .reshapeUncleanRerun _ => [.regs, .evr, .hfe, .wc, .rbe, .ports, .capo]
  | .resyncScanStep _ => [.regs, .evr, .hfe, .wc, .rbe, .ports, .capo]
  | .katRun => [.freeIx, .regs, .evr, .rbe]
  | .katPeriodic => [.regs, .rbe]
  | .katResult _ _ => [.regs, .evr, .err, .hfe, .rbe]
  | .slowWindowEval _ _ _ _ => [.rbe]
  | .slowFailExpiry _ _ => [.regs, .evr, .hfe, .wc, .rbe, .ports, .capo]
  | .rebuildStripe _ => [.regs, .evr, .hfe, .wc, .rbe, .ports, .capo]
  | .copybackUnit _ => [.regs, .evr, .hfe, .wc, .rbe, .ports, .capo]
  | .scrubPeriodStart _ => [.rbe]
  | .scrubStripe _ => [.regs, .evr, .hfe, .wc, .rbe, .ports, .capo]
  | .reshapeStep _ => [.regs, .evr, .hfe, .wc, .rbe, .ports, .capo]
  | .arrScrubNow _ => [.freeIx, .regs, .evr, .rbe]
  | .arrPause _ => [.freeIx, .regs, .evr, .rbe]
  | .arrResume _ => [.freeIx, .regs, .evr, .rbe]
  | .arrFailMember _ _ => [.freeIx, .regs, .evr, .hfe, .wc, .rbe, .ports, .capo]
  | .arrCopyback _ => [.freeIx, .regs, .evr, .rbe]
  | .memberDeadline _ _ => [.regs, .hfe, .ports]
  | .histClear => [.freeIx, .regs, .evr, .lat]
  | .latC0IssueMaxRead => [.freeIx, .regs, .answer]
  | .latC0PostMaxRead => [.freeIx, .regs, .answer]
  | .hfeCollectMaxRead _ => [.freeIx, .regs, .answer]
  | .errDepthMaxRead => [.freeIx, .regs, .answer]
  | .pairLoRead _ _ => [.freeIx, .regs, .latches, .answer, .evr]
  | .pairLoWrite _ _ _ => [.freeIx, .regs, .heldLo, .pwr, .evr, .err, .img, .cal, .map, .hfe, .lat, .wc, .rbe, .sc, .dma, .cip, .ports, .capo,
      .fed, .nrg, .fans]
  | .pairHiWrite _ _ _ => [.freeIx, .regs, .heldLo, .pwr, .evr, .err, .img, .cal, .map, .hfe, .lat, .wc, .rbe, .sc, .dma, .cip, .ports, .capo,
      .fed, .nrg, .fans]
  | .groupWord0Read _ _ => [.freeIx, .regs, .latches, .answer, .evr]
  | .registerWrite _ _ _ => [.freeIx, .regs, .heldLo, .pwr, .evr, .err, .img, .cal, .map, .hfe, .lat, .wc, .rbe, .sc, .dma, .cip, .ports, .capo,
      .fed, .nrg, .fans]
  | .scReadRequest _ _ _ => [.regs, .sc]
  | .scFillReturn _ _ => [.regs, .sc]
  | .scWriteRequest _ _ _ _ => [.regs, .sc]
  | .mergeBufferDrain _ => [.regs, .sc]
  | .hbmWriteAck _ => [.regs, .rbe, .sc, .ports]
  | .evictionBufferExpiry _ => [.sc]
  | .ownershipRequest _ _ => [.regs, .sc]
  | .recallWriteBack _ _ => [.regs, .sc]
  | .retryReissue _ _ => [.regs, .sc]
  | .scMaintClean _ => [.freeIx, .regs, .evr, .sc]
  | .scMaintInvalidate _ => [.freeIx, .regs, .evr, .sc]
  | .scMaintCleanInvalidate _ => [.freeIx, .regs, .evr, .sc]
  | .scRangeClean => [.freeIx, .regs, .evr, .sc]
  | .scRangeInvalidate => [.freeIx, .regs, .evr, .sc]
  | .scRangeCleanInvalidate => [.freeIx, .regs, .evr, .sc]
  | .scPreload => [.freeIx, .regs, .evr, .sc]
  | .scInvalidateWays => [.freeIx, .regs, .evr, .sc]
  | .scRangeDone => [.regs, .sc]
  | .scMaintDone => [.regs, .sc]
  | .scLockWrite _ => [.regs]
  | .evictPathSwitch _ => [.regs, .sc]
  | .scInitDone => [.regs, .sc]
  | .scEccError _ _ => [.regs, .evr, .sc]
  | .dmaStart _ _ => [.freeIx, .regs, .evr, .dma]
  | .dmaTimer _ => [.regs, .dma]
  | .dmaDescFetch _ _ => [.regs, .sc, .dma]
  | .dmaGrant _ _ => [.regs, .pwr, .sc, .dma]
  | .dmaReadBack _ _ => [.freeIx, .regs, .sc, .dma]
  | .dmaBusError _ _ _ => [.freeIx, .regs, .sc, .dma]
  | .dmaHalt _ _ => [.regs, .dma]
  | .dmaDisable _ _ => [.freeIx, .regs, .sc, .dma]
  | .dmaWinEnable _ _ _ => [.regs]
  | .keySetOwner => [.regs, .cip]
  | .keyLoadBlob _ => [.freeIx, .regs, .err, .rbe, .cip, .capo]
  | .keyUnload => [.regs, .hfe, .wc, .cip]
  | .keyZeroizeAll => [.regs, .hfe, .wc, .cip]
  | .trngRestart => [.regs]
  | .tamperRelease _ _ => [.regs, .evr]
  | .tamperCfgLock _ => [.regs]
  | .cipherMessageStart _ _ => [.regs, .cip]
  | .cipherMessageDone _ => [.regs, .evr, .hfe, .wc, .rbe, .cip, .ports, .capo]
  | .nonceMarkAck _ => [.freeIx, .regs, .evr, .hfe, .cip, .capo]
  | .trngStartupDone _ => [.regs]
  | .trngBlockReady => [.freeIx, .regs, .evr, .hfe, .cip, .capo]
  | .trngHealthFail _ => [.regs, .evr, .hfe, .cip]
  | .entropyTimeout _ => [.regs, .hfe, .cip]
  | .tamperTrip _ _ => [.regs, .pwr, .evr, .hfe, .wc, .cip]
  | .drivePresent _ => [.regs]
  | .driveIdentified _ _ => [.freeIx, .regs, .evr, .img, .rbe, .ports]
  | .driveLinkLoss _ _ => [.regs, .evr, .hfe, .wc, .rbe, .ports, .capo]
  | .removalTimeout _ => [.freeIx, .regs, .evr, .img, .hfe, .wc, .rbe, .ports, .capo]
  | .spinupDelayExpiry _ => [.regs, .ports]
  | .spinupPluckTimeout _ => [.evr, .ports]
  | .spinupWaitExpiry _ => [.regs]
  | .memberCommandIssue _ _ => [.regs, .hfe, .ports]
  | .memberTimeout _ _ => [.regs, .evr, .hfe, .wc, .rbe, .ports, .capo]
  | .escalationStepDone _ => [.regs, .evr, .hfe, .wc, .rbe, .ports, .capo]
  | .escalationStepTimeout _ => [.regs, .evr, .hfe, .wc, .rbe, .ports, .capo]
  | .healthPoll _ => [.ports]
  | .portResetLink _ => [.freeIx, .regs, .evr, .hfe, .wc, .rbe, .ports, .capo]
  | .portPowerCycle _ => [.freeIx, .regs, .evr, .hfe, .wc, .rbe, .ports, .capo]
  | .portAccept _ => [.freeIx, .regs, .evr, .img, .rbe, .ports]
  | .portRelease _ => [.freeIx, .regs, .evr, .ports]
  | .portSpinupNow _ => [.freeIx, .regs, .evr, .ports]
  | .capoSeenClass _ => [.regs, .evr, .hfe, .wc, .rbe, .ports, .capo]
  | .readbackCheck _ => [.regs, .evr, .hfe, .wc, .rbe, .ports, .capo]
  | .gateOpen => [.regs, .evr, .hfe, .wc, .rbe, .ports, .capo]
  | .capoRenew _ => [.capo]
  | .renewExpiry => [.regs, .evr, .hfe, .wc, .rbe, .ports, .capo]
  | .contentionTimeout => [.regs, .evr, .hfe, .wc, .rbe, .ports, .capo]
  | .contentionBackoffExpiry => [.regs, .evr, .capo]
  | .capoClaim => [.freeIx, .regs, .evr, .capo]
  | .capoRelease => [.freeIx, .regs, .evr, .hfe, .wc, .rbe, .ports, .capo]
  | .releaseComplete => [.regs, .hfe, .wc, .ports, .capo]
  | .capoClearFault => [.freeIx, .regs, .evr]
  | .capoForceClaim _ => [.freeIx, .regs, .evr, .hfe, .capo]
  | .selftestNow _ => [.freeIx, .regs, .evr, .capo]
  | .selftestCycle _ => [.regs, .evr, .capo]
  | .healthWordSend => [.capo]
  | .healthWordReceive _ => [.regs, .evr, .hfe, .wc, .rbe, .ports, .capo]
  | .mirrorItemReceive _ => [.regs, .evr, .hfe, .wc, .vault, .rbe, .cip, .capo]
  | .mirrorDigestCheck _ => [.regs, .evr, .hfe, .wc, .rbe, .cip, .capo]
  | .mirrorSyncComplete => [.regs, .evr, .hfe, .wc]
  | .standbyMirrorSilence => [.regs]
  | .pairRoleChoice _ => [.regs, .evr, .vault, .capo]
  | .startupWaitExpiry => [.regs, .vault, .capo]
  | .takeover => [.regs, .capo]
  | .writeFenceEnd => [.regs, .evr, .wc, .rbe, .capo]
  | .helloReceive _ _ => [.regs, .evr, .fed]
  | .helloRetry => [.fed]
  | .memberLeaveTimeout _ => [.fed]
  | .gmAnnounce => [.regs, .fed]
  | .gmElection _ => [.regs, .fed]
  | .syncExchange _ _ _ => [.regs, .fed]
  | .pitSet => [.freeIx, .regs, .evr, .fed]
  | .pitSetAtPps => [.freeIx, .regs, .evr, .fed]
  | .pitSetUtc => [.freeIx, .regs, .evr]
  | .pitResync => [.freeIx, .regs, .evr, .fed]
  | .ppsInEdge => [.regs, .fed]
  | .ppsInLoss => [.regs, .fed]
  | .ppsOutSecond => [.fed]
  | .pluckWrite => [.freeIx, .regs, .evr, .err, .fed]
  | .pluckWriteFed => [.freeIx, .regs, .evr, .err, .fed]
  | .pluckCancel => [.freeIx, .regs, .evr, .fed]
  | .pluckCancelFed => [.freeIx, .regs, .evr, .fed]
  | .pluckReceive _ => [.regs, .pwr, .evr, .cal, .rbe, .dma, .ports, .fed, .nrg, .fans]
  | .pluckAnswerReceive _ => [.regs, .fed]
  | .pluckDistTimeout => [.regs, .fed]
  | .pluckCancelReceive _ _ => [.fed]
  | .pluckFire _ => [.regs, .pwr, .evr, .cal, .rbe, .dma, .ports, .fed, .nrg, .fans]
  | .pluckEarlyWake _ => [.regs, .pwr]
  | .writeBarrierDone _ => [.evr, .fed]
  | .gaugeEnergyCompute _ _ => [.regs, .evr, .hfe, .wc, .nrg]
  | .packRemoved _ => [.regs, .evr, .hfe, .wc, .nrg]
  | .packPresent _ => [.regs, .evr, .hfe, .wc, .nrg]
  | .holdupSelftestStart _ => [.regs, .hfe, .nrg]
  | .holdupSelftestStep _ _ => [.regs, .evr, .hfe, .wc, .nrg]
  | .holdupRetestTimer _ => [.nrg]
  | .holdupTestAgeExpiry _ => [.nrg]
  | .holdupStartupTest => [.nrg]
  | .learnStart _ => [.regs, .hfe, .nrg]
  | .learnDischargeEnd _ => [.nrg]
  | .learnRestEnd _ => [.regs, .evr, .hfe, .wc, .nrg]
  | .learnDisqualify _ _ => [.regs, .hfe, .nrg]
  | .learnRetry _ => [.regs, .hfe, .nrg]
  | .gaugeBlockWrite _ => [.regs, .cal, .nrg]
  | .nrgTest _ => [.freeIx, .regs, .evr, .nrg]
  | .nrgLearn _ => [.freeIx, .regs, .evr, .hfe, .nrg]
  | .learnAbort _ => [.freeIx, .regs, .evr, .hfe, .nrg]
  | .nrgRetest _ => [.freeIx, .regs, .evr, .hfe, .wc, .nrg]
  | .nrgSamePack _ => [.freeIx, .regs, .evr, .hfe, .wc, .nrg]
  | .vaultPatrol _ _ _ => [.regs, .evr]
  | .vaultPatrolNow _ _ _ => [.freeIx, .regs, .evr]
  | .thermalStateChange => [.freeIx, .regs, .latches, .heldLo, .pwr, .evr, .err, .img, .cal, .map, .hfe, .lat, .wc, .rbe, .sc, .dma, .cip, .ports,
      .capo, .fed, .therm, .fans]
  | .throttleClockStep => [.regs, .therm]
  | .avsTimeout => [.regs, .evr, .therm]
  | .vddFbPowerCheck _ => [.regs, .therm]
  | .fanListenEnd _ _ => [.regs, .fans]
  | .fanBrakeDone _ _ => [.regs, .evr, .cal, .fans]
  | .fanWaitRecheck _ _ => [.regs, .fans]
  | .fanRampEnd _ _ _ _ => [.regs, .cal, .fans]
  | .fanAttemptFail _ => [.regs, .evr, .cal, .fans]
  | .fanRetryTimer _ => [.regs, .evr, .cal, .fans]
  | .fanOvercurrent _ => [.regs, .evr, .cal, .fans]
  | .fanStall _ => [.regs, .evr, .cal, .fans]
  | .fanClassChange _ _ _ => [.regs, .cal, .fans]
  | .fanPinLoss _ => [.regs, .evr, .cal, .fans]
  | .fanPinValid _ _ => [.regs, .evr, .cal, .fans]
  | .fanClearFault _ => [.freeIx, .regs, .evr, .cal, .fans]
  | .fanRestart _ => [.freeIx, .regs, .evr, .cal, .fans]
  | .fanRelearn _ => [.freeIx, .regs, .evr, .fans]
  | .eventRecord => [.regs, .evr]
  | .eventFreeze _ => [.regs]
  | .eventUnfreeze _ => [.regs, .evr]
  | .freezeTimeout => [.regs, .evr]
  | .eventChallenge => [.freeIx, .regs, .evr]
  | .challengeExpiry => [.regs, .evr]
  | .lockoutEnd => [.regs]
  | .eventClear _ => [.regs, .evr]
  | .eventAuthSet _ => [.regs, .evr]
  | .soundpostNow => [.freeIx, .regs, .evr]
  | .soundpostVaultCopy => [.evr]
  | .soundpostFlashCopy => [.evr]
  | .read32 _ => [.freeIx, .regs, .latches, .answer, .evr]
  | .read64 _ => [.freeIx, .regs, .latches, .answer, .evr]
  | .write32 _ _ => [.freeIx, .regs, .heldLo, .lastSmb, .pwr, .evr, .err, .img, .cal, .map, .hfe, .lat, .wc, .rbe, .sc, .dma, .cip, .ports, .capo,
      .fed, .nrg, .fans]
  | .lastStatus => [.answer]
  | .readBurst _ _ => [.freeIx, .regs, .latches, .answer, .evr]
  | .recoverableError _ _ => [.regs, .evr, .err]
  | .handlerEnd _ _ => [.regs, .evr, .err, .hfe, .wc, .capo]
  | .handlerTimeout _ => [.err]
  | .fatalError _ => [.freeIx, .regs, .latches, .heldLo, .pwr, .evr, .err, .img, .map, .hfe, .lat, .wc, .vault, .rbe, .sc, .dma, .cip, .ports,
      .capo, .fed, .therm]
  | .fatalRestart => [.regs, .pwr, .err]
  | .errRestart => [.freeIx, .regs, .pwr, .evr]
  | .quiescePoint => [.freeIx, .regs, .latches, .heldLo, .pwr, .evr, .err, .img, .map, .hfe, .lat, .wc, .vault, .rbe, .sc, .dma, .cip, .ports,
      .capo, .fed, .therm, .age]
  | .wake => [.regs, .pwr]
  | .exitComplete => [.freeIx, .regs, .latches, .heldLo, .pwr, .evr, .err, .img, .map, .hfe, .lat, .wc, .vault, .rbe, .sc, .dma, .cip, .ports,
      .capo, .fed, .therm, .age]
  | .hostLinkL12Exit _ => [.regs, .pwr]
  | .apstTransition _ => [.regs, .pwr, .wc, .age]
  | .agingWriteback => [.age]
  | .ageAccumulate => [.regs, .evr, .age]
  | .roMeasure _ => [.regs, .evr]
  | .emramRefresh => [.age]
  | .alwaysOnPowerUp => [.regs, .pwr, .cip, .age]
  | .powerDown => [.freeIx, .regs, .latches, .heldLo, .pwr, .evr, .err, .img, .map, .hfe, .lat, .wc, .vault, .rbe, .sc, .dma, .cip, .ports, .capo,
      .fed, .nrg, .therm, .fans]
  | .hotReset _ => [.freeIx, .regs, .pwr, .evr, .map, .hfe, .wc, .vault, .sc, .dma, .cip, .ports, .capo]
  | .coalescingTimeExpiry _ _ => [.hfe]
  | .ppsHoldoverExpiry => [.regs, .fed]
  | .commitComplete _ => [.regs, .img]
  | .vaultRestoreDone => [.regs, .evr, .wc, .rbe]
  | .temperatureSample _ => [.freeIx, .regs, .latches, .heldLo, .pwr, .evr, .err, .img, .cal, .map, .hfe, .lat, .wc, .vault, .rbe, .sc, .dma, .cip,
      .ports, .capo, .fed, .therm, .fans, .age]

/-- The register fields that a command may change (an indexed field stands for all of its instances); none where the command can change
registers that depend on its operands or on a reset. -/
def fieldsOf (i : Instr) : Option (List Field) :=
  match i with
  | .acFailNAssert => none
  | .acFailNDeassert => some [Fld.CAL_STATUS.BUSY, Fld.CAL_STATUS.ERROR, Fld.CAL_STATUS.FACTORY_VALID, Fld.CAL_STATUS.PREVIOUS_VALID,
      Fld.CAL_STATUS.USER_VALID, Fld.NRG_AVAIL_J.J, Fld.NRG_CAP_MAH, Fld.NRG_CYCLES.X16, Fld.NRG_E_J.E_J, Fld.NRG_IMPEDANCE.R_FAST,
      Fld.NRG_IMPEDANCE.R_SLOW, Fld.NRG_LAST_LEARN, Fld.NRG_LAST_TEST, Fld.NRG_PACK_E_J.J, Fld.NRG_RESERVE_J.J, Fld.NRG_STATUS.AC_FAIL,
      Fld.NRG_STATUS.HOLDUP_EN, Fld.NRG_STATUS.LEARN_ACTIVE, Fld.NRG_STATUS.QUALIFIED_ANY, Fld.NRG_STATUS.TEST_ACTIVE,
      Fld.PACK_STATUS.CHARGE_PERMIT, Fld.PACK_STATUS.FAILED, Fld.PACK_STATUS.HEALTH, Fld.PACK_STATUS.LEARNING, Fld.PACK_STATUS.PACK_SERIAL,
      Fld.PACK_STATUS.QUALIFIED, Fld.PACK_STATUS.REPLACE, Fld.PACK_STATUS.TESTING, Fld.WC_LIMIT.MIB, Fld.WC_LIMIT_CFG.MIB, Fld.WC_LIMIT_ENERGY.MIB,
      Fld.WC_LIMIT_VAULT.MIB, Fld.WC_STATUS.AREA_READY, Fld.WC_STATUS.OVER_LIMIT, Fld.WC_STATUS.UNPROTECTED, Fld.WC_STATUS.WRITE_THROUGH,
      Fld.WC_UNPROT_MS]
  | .dumpCommit => none
  | .packCutoff _ _ => some [Fld.NRG_AVAIL_J.J, Fld.NRG_CAP_MAH, Fld.NRG_CMD_STATUS.BUSY, Fld.NRG_CMD_STATUS.DONE, Fld.NRG_CYCLES.X16,
      Fld.NRG_E_J.E_J, Fld.NRG_IMPEDANCE.R_FAST, Fld.NRG_IMPEDANCE.R_SLOW, Fld.NRG_LAST_LEARN, Fld.NRG_LAST_TEST, Fld.NRG_PACK_E_J.J,
      Fld.NRG_RESERVE_J.J, Fld.NRG_SOC.PERMILLE, Fld.NRG_STATUS.HOLDUP_EN, Fld.NRG_STATUS.LEARN_ACTIVE, Fld.NRG_STATUS.QUALIFIED_ANY,
      Fld.NRG_STATUS.TEST_ACTIVE, Fld.PACK_STATUS.CHARGE_PERMIT, Fld.PACK_STATUS.FAILED, Fld.PACK_STATUS.HEALTH, Fld.PACK_STATUS.LEARNING,
      Fld.PACK_STATUS.PACK_SERIAL, Fld.PACK_STATUS.QUALIFIED, Fld.PACK_STATUS.REPLACE, Fld.PACK_STATUS.TESTING, Fld.PACK_STATUS.TEST_RESULT,
      Fld.VLT_STATUS.DUMPING, Fld.WC_STATUS.UNPROTECTED, Fld.WC_UNPROT_MS]
  | .packTempRecover _ => some []
  | .aonRstNAssert => none
  | .pegboxStart _ _ _ _ _ _ _ _ => none
  | .pegboxWatchdogReset => none
  | .sysRstNAssert => none
  | .sysRstNRelease => some [Fld.PWR_RESET_INFO.LONG_HOLD, Fld.PWR_RST_HOLD_MS]
  | .fastBootStart => some [Fld.PWR_AVS.STEP, Fld.PWR_STATE.BOOTING, Fld.PWR_STATE.STATE, Fld.PWR_STATE.TARGET]
  | .bootHandover => some [Fld.CAL_STATUS.FACTORY_VALID, Fld.CAL_STATUS.PREVIOUS_VALID, Fld.CAL_STATUS.USER_VALID, Fld.CAPACITY,
      Fld.CAPO_STATUS.DRIVE, Fld.CAPO_STATUS.GATE_OPEN, Fld.CAPO_STATUS.ROLE, Fld.DRIVE_SERIAL, Fld.EVR_STATUS.MODE, Fld.FAN_GLOBAL.FAULTED,
      Fld.FAN_GLOBAL.RUNNING, Fld.FAN_RUN_S, Fld.FAN_STATUS.ATTEMPT, Fld.FAN_STATUS.FAULT_CAUSE, Fld.FAN_STATUS.SHIFTING, Fld.FAN_STATUS.STATE,
      Fld.FAN_TARGET.RPM, Fld.FED_LINK.FED_PORT, Fld.FED_STATUS.ENABLED, Fld.FED_STATUS.NODE_ID, Fld.HFE_STATUS.REPLAY_PENDING,
      Fld.IMG_BOOT.BOOT_SOURCE, Fld.IMG_BOOT.NONSEMANTIC_DIFF, Fld.IMG_BOOT.REWRITE_PENDING, Fld.IMG_BOOT.SAFE_MODE, Fld.IMG_BOOT.SAFE_REASON,
      Fld.IMG_COPY.MATCHES_RUNNING, Fld.IMG_COPY.REASON, Fld.IMG_COPY.VALID, Fld.IMG_RUN_DIGEST, Fld.IMG_RUN_SEQ, Fld.LINK_STATUS.MODE,
      Fld.LINK_STATUS.PWREN, Fld.NRG_AVAIL_J.J, Fld.NRG_CAP_MAH, Fld.NRG_CYCLES.X16, Fld.NRG_E_J.E_J, Fld.NRG_IMPEDANCE.R_FAST,
      Fld.NRG_IMPEDANCE.R_SLOW, Fld.NRG_LAST_LEARN, Fld.NRG_LAST_TEST, Fld.NRG_PACK_E_J.J, Fld.NRG_RESERVE_J.J, Fld.NRG_STATUS.LEARN_ACTIVE,
      Fld.NRG_STATUS.QUALIFIED_ANY, Fld.NRG_STATUS.TEST_ACTIVE, Fld.PACK_STATUS.CHARGE_PERMIT, Fld.PACK_STATUS.FAILED, Fld.PACK_STATUS.HEALTH,
      Fld.PACK_STATUS.LEARNING, Fld.PACK_STATUS.PACK_SERIAL, Fld.PACK_STATUS.QUALIFIED, Fld.PACK_STATUS.REPLACE, Fld.PACK_STATUS.TESTING,
      Fld.PORT_STATE.ARRAY, Fld.PORT_STATE.MEMBER_INDEX, Fld.PORT_STATE.STATE, Fld.PQE_STATUS.KAT_BUSY, Fld.PQE_STATUS.SLICE_ACTIVE,
      Fld.THERM_STATUS.CLOCK_STEPS, Fld.WC_LIMIT.MIB, Fld.WC_LIMIT_CFG.MIB, Fld.WC_LIMIT_ENERGY.MIB, Fld.WC_LIMIT_VAULT.MIB,
      Fld.WC_STATUS.AREA_READY, Fld.WC_STATUS.OVER_LIMIT, Fld.WC_STATUS.UNPROTECTED, Fld.WC_STATUS.WRITE_THROUGH, Fld.WC_UNPROT_MS]
  | .hostLinkReady => some [Fld.HFE_DWE_STATUS.ENTRIES, Fld.HFE_DWE_STATUS.OVERFLOW, Fld.HFE_STATUS.REPLAY_PENDING, Fld.MIRROR_BYTES,
      Fld.PWR_BOOT_US, Fld.PWR_STATE.BOOTING, Fld.WC_REPLAY.RESULT, Fld.WC_STATUS.OVER_LIMIT, Fld.WC_STATUS.UNPROTECTED, Fld.WC_UNPROT_MS]
  | .imageCopyRewrite _ _ => some [Fld.IMG_BOOT.REWRITE_PENDING, Fld.IMG_COPY.MATCHES_RUNNING, Fld.IMG_COPY.REASON, Fld.IMG_COPY.VALID,
      Fld.IMG_STAGE_STATUS.BUSY, Fld.IMG_STAGE_STATUS.CHANGE_CLASS, Fld.IMG_STAGE_STATUS.OWNER, Fld.IMG_STAGE_STATUS.STATE]
  | .pllLock _ => some []
  | .pllLockTimeout _ => some []
  | .railOutOfRange => some [Fld.PWR_RESET_INFO.RAIL]
  | .railRecovered => some []
  | .stageOpen _ => some [Fld.IMG_STAGE_STATUS.CHANGE_CLASS, Fld.IMG_STAGE_STATUS.ERROR, Fld.IMG_STAGE_STATUS.OWNER, Fld.IMG_STAGE_STATUS.STATE]
  | .stageVerify _ _ => some [Fld.IMG_STAGE_STATUS.CHANGE_CLASS, Fld.IMG_STAGE_STATUS.ERROR, Fld.IMG_STAGE_STATUS.STATE]
  | .stageCommit _ => some [Fld.IMG_COPY.MATCHES_RUNNING, Fld.IMG_COPY.REASON, Fld.IMG_COPY.VALID, Fld.IMG_STAGE_STATUS.BUSY,
      Fld.IMG_STAGE_STATUS.ERROR, Fld.IMG_STAGE_STATUS.STATE]
  | .activateLive _ => some [Fld.CAL_STATUS.FACTORY_VALID, Fld.CAL_STATUS.PREVIOUS_VALID, Fld.CAL_STATUS.USER_VALID, Fld.CAPACITY,
      Fld.DRIVE_SERIAL, Fld.FAN_GLOBAL.FAULTED, Fld.FAN_GLOBAL.RUNNING, Fld.FAN_RUN_S, Fld.FAN_STATUS.ATTEMPT, Fld.FAN_STATUS.FAULT_CAUSE,
      Fld.FAN_STATUS.SHIFTING, Fld.FAN_STATUS.STATE, Fld.FAN_TARGET.RPM, Fld.FED_LINK.FED_PORT, Fld.FED_STATUS.ENABLED, Fld.FED_STATUS.NODE_ID,
      Fld.IMG_BOOT.REWRITE_PENDING, Fld.IMG_COPY.MATCHES_RUNNING, Fld.IMG_COPY.REASON, Fld.IMG_COPY.VALID, Fld.IMG_RUN_DIGEST, Fld.IMG_RUN_SEQ,
      Fld.IMG_STAGE_STATUS.ERROR, Fld.IMG_STAGE_STATUS.STATE, Fld.LINK_STATUS.MODE, Fld.LINK_STATUS.PWREN, Fld.NRG_AVAIL_J.J, Fld.NRG_CAP_MAH,
      Fld.NRG_CYCLES.X16, Fld.NRG_E_J.E_J, Fld.NRG_IMPEDANCE.R_FAST, Fld.NRG_IMPEDANCE.R_SLOW, Fld.NRG_LAST_LEARN, Fld.NRG_LAST_TEST,
      Fld.NRG_PACK_E_J.J, Fld.NRG_RESERVE_J.J, Fld.NRG_STATUS.LEARN_ACTIVE, Fld.NRG_STATUS.QUALIFIED_ANY, Fld.NRG_STATUS.TEST_ACTIVE,
      Fld.PACK_STATUS.CHARGE_PERMIT, Fld.PACK_STATUS.FAILED, Fld.PACK_STATUS.HEALTH, Fld.PACK_STATUS.LEARNING, Fld.PACK_STATUS.PACK_SERIAL,
      Fld.PACK_STATUS.QUALIFIED, Fld.PACK_STATUS.REPLACE, Fld.PACK_STATUS.TESTING, Fld.PORT_STATE.ARRAY, Fld.PORT_STATE.MEMBER_INDEX,
      Fld.PORT_STATE.STATE, Fld.WC_LIMIT.MIB, Fld.WC_LIMIT_CFG.MIB, Fld.WC_LIMIT_ENERGY.MIB, Fld.WC_LIMIT_VAULT.MIB, Fld.WC_STATUS.AREA_READY,
      Fld.WC_STATUS.OVER_LIMIT, Fld.WC_STATUS.UNPROTECTED, Fld.WC_STATUS.WRITE_THROUGH, Fld.WC_UNPROT_MS]
  | .activateReset _ => some [Fld.IMG_STAGE_STATUS.BUSY, Fld.IMG_STAGE_STATUS.ERROR, Fld.IMG_STAGE_STATUS.STATE]
  | .activateResetDestaged => none
  | .stageAbort _ => some [Fld.IMG_COPY.MATCHES_RUNNING, Fld.IMG_COPY.REASON, Fld.IMG_COPY.VALID, Fld.IMG_STAGE_STATUS.BUSY,
      Fld.IMG_STAGE_STATUS.CHANGE_CLASS, Fld.IMG_STAGE_STATUS.ERROR, Fld.IMG_STAGE_STATUS.OWNER, Fld.IMG_STAGE_STATUS.STATE]
  | .selectCopyA _ => some [Fld.EVR_CHAL, Fld.EVR_STATUS.CHAL_VALID, Fld.EVR_STATUS.LOCKOUT, Fld.IMG_COPY.MATCHES_RUNNING, Fld.IMG_COPY.REASON,
      Fld.IMG_COPY.VALID, Fld.IMG_STAGE_STATUS.ERROR]
  | .selectCopyB _ => some [Fld.EVR_CHAL, Fld.EVR_STATUS.CHAL_VALID, Fld.EVR_STATUS.LOCKOUT, Fld.IMG_COPY.MATCHES_RUNNING, Fld.IMG_COPY.REASON,
      Fld.IMG_COPY.VALID, Fld.IMG_STAGE_STATUS.ERROR]
  | .signingKeyEnrol _ _ => some [Fld.EVR_CHAL, Fld.EVR_STATUS.CHAL_VALID, Fld.EVR_STATUS.LOCKOUT, Fld.IMG_COPY.MATCHES_RUNNING,
      Fld.IMG_COPY.REASON, Fld.IMG_COPY.VALID, Fld.IMG_KEY_STATUS.PROGRAMMED, Fld.IMG_KEY_STATUS.REVOKED, Fld.IMG_STAGE_STATUS.ERROR]
  | .signingKeyRevoke _ _ => some [Fld.EVR_CHAL, Fld.EVR_STATUS.CHAL_VALID, Fld.EVR_STATUS.LOCKOUT, Fld.IMG_COPY.MATCHES_RUNNING,
      Fld.IMG_COPY.REASON, Fld.IMG_COPY.VALID, Fld.IMG_KEY_STATUS.PROGRAMMED, Fld.IMG_KEY_STATUS.REVOKED, Fld.IMG_STAGE_STATUS.ERROR]
  | .restoreFactory => some [Fld.CAL_STATUS.BUSY, Fld.CAL_STATUS.ERROR, Fld.CAL_STATUS.FACTORY_VALID, Fld.CAL_STATUS.PREVIOUS_VALID,
      Fld.CAL_STATUS.USER_VALID, Fld.NRG_AVAIL_J.J, Fld.NRG_CAP_MAH, Fld.NRG_CYCLES.X16, Fld.NRG_E_J.E_J, Fld.NRG_IMPEDANCE.R_FAST,
      Fld.NRG_IMPEDANCE.R_SLOW, Fld.NRG_LAST_LEARN, Fld.NRG_LAST_TEST, Fld.NRG_PACK_E_J.J, Fld.NRG_RESERVE_J.J, Fld.NRG_STATUS.LEARN_ACTIVE,
      Fld.NRG_STATUS.QUALIFIED_ANY, Fld.NRG_STATUS.TEST_ACTIVE, Fld.PACK_STATUS.CHARGE_PERMIT, Fld.PACK_STATUS.FAILED, Fld.PACK_STATUS.HEALTH,
      Fld.PACK_STATUS.LEARNING, Fld.PACK_STATUS.PACK_SERIAL, Fld.PACK_STATUS.QUALIFIED, Fld.PACK_STATUS.REPLACE, Fld.PACK_STATUS.TESTING,
      Fld.WC_LIMIT.MIB, Fld.WC_LIMIT_CFG.MIB, Fld.WC_LIMIT_ENERGY.MIB, Fld.WC_LIMIT_VAULT.MIB, Fld.WC_STATUS.AREA_READY, Fld.WC_STATUS.OVER_LIMIT,
      Fld.WC_STATUS.UNPROTECTED, Fld.WC_STATUS.WRITE_THROUGH, Fld.WC_UNPROT_MS]
  | .restorePrevious => some [Fld.CAL_STATUS.BUSY, Fld.CAL_STATUS.ERROR, Fld.CAL_STATUS.FACTORY_VALID, Fld.CAL_STATUS.PREVIOUS_VALID,
      Fld.CAL_STATUS.USER_VALID, Fld.NRG_AVAIL_J.J, Fld.NRG_CAP_MAH, Fld.NRG_CYCLES.X16, Fld.NRG_E_J.E_J, Fld.NRG_IMPEDANCE.R_FAST,
      Fld.NRG_IMPEDANCE.R_SLOW, Fld.NRG_LAST_LEARN, Fld.NRG_LAST_TEST, Fld.NRG_PACK_E_J.J, Fld.NRG_RESERVE_J.J, Fld.NRG_STATUS.LEARN_ACTIVE,
      Fld.NRG_STATUS.QUALIFIED_ANY, Fld.NRG_STATUS.TEST_ACTIVE, Fld.PACK_STATUS.CHARGE_PERMIT, Fld.PACK_STATUS.FAILED, Fld.PACK_STATUS.HEALTH,
      Fld.PACK_STATUS.LEARNING, Fld.PACK_STATUS.PACK_SERIAL, Fld.PACK_STATUS.QUALIFIED, Fld.PACK_STATUS.REPLACE, Fld.PACK_STATUS.TESTING,
      Fld.WC_LIMIT.MIB, Fld.WC_LIMIT_CFG.MIB, Fld.WC_LIMIT_ENERGY.MIB, Fld.WC_LIMIT_VAULT.MIB, Fld.WC_STATUS.AREA_READY, Fld.WC_STATUS.OVER_LIMIT,
      Fld.WC_STATUS.UNPROTECTED, Fld.WC_STATUS.WRITE_THROUGH, Fld.WC_UNPROT_MS]
  | .factoryCommit => some [Fld.CAL_STATUS.ERROR, Fld.CAL_STATUS.FACTORY_LOCKED, Fld.CAL_STATUS.FACTORY_VALID, Fld.CAL_STATUS.PREVIOUS_VALID,
      Fld.CAL_STATUS.USER_VALID]
  | .backgroundInitGroup _ => some []
  | .mappingDispatch _ => some [Fld.HFE_COLLECT_MAX.MAX_DEPTH, Fld.MAP_FAULT_COUNT, Fld.MAP_FAULT_IN, Fld.MAP_FAULT_INFO.ARRAY,
      Fld.MAP_FAULT_INFO.ENTRY, Fld.MAP_FAULT_INFO.EPOCH, Fld.MAP_FAULT_INFO.LANE, Fld.MAP_FAULT_INFO.PC, Fld.MAP_FAULT_INFO.REASON,
      Fld.MAP_FAULT_UNIT.UNIT, Fld.MAP_PREEMPT_COUNT, Fld.MAP_STATUS.LANES_BUSY, Fld.MAP_TEST_STATUS.BUSY, Fld.MAP_TEST_STATUS.DONE,
      Fld.MAP_TEST_STATUS.FAULT, Fld.MAP_TEST_STATUS.STEPS]
  | .mappingEmit _ => some [Fld.HFE_COLLECT_MAX.MAX_DEPTH, Fld.MAP_FAULT_COUNT, Fld.MAP_FAULT_IN, Fld.MAP_FAULT_INFO.ARRAY,
      Fld.MAP_FAULT_INFO.ENTRY, Fld.MAP_FAULT_INFO.EPOCH, Fld.MAP_FAULT_INFO.LANE, Fld.MAP_FAULT_INFO.PC, Fld.MAP_FAULT_INFO.REASON,
      Fld.MAP_FAULT_UNIT.UNIT, Fld.MAP_STATUS.LANES_BUSY, Fld.MAP_TEST_MEMBER.MEMBER, Fld.MAP_TEST_OFFSET, Fld.MAP_TEST_STATUS.BUSY,
      Fld.MAP_TEST_STATUS.DONE, Fld.MAP_TEST_STATUS.FAULT, Fld.MAP_TEST_STATUS.STEPS]
  | .mappingStepLimit _ => some [Fld.HFE_COLLECT_MAX.MAX_DEPTH, Fld.MAP_FAULT_COUNT, Fld.MAP_FAULT_IN, Fld.MAP_FAULT_INFO.ARRAY,
      Fld.MAP_FAULT_INFO.ENTRY, Fld.MAP_FAULT_INFO.EPOCH, Fld.MAP_FAULT_INFO.LANE, Fld.MAP_FAULT_INFO.PC, Fld.MAP_FAULT_INFO.REASON,
      Fld.MAP_FAULT_UNIT.UNIT, Fld.MAP_STATUS.LANES_BUSY, Fld.MAP_TEST_MEMBER.MEMBER, Fld.MAP_TEST_OFFSET, Fld.MAP_TEST_STATUS.BUSY,
      Fld.MAP_TEST_STATUS.DONE, Fld.MAP_TEST_STATUS.FAULT, Fld.MAP_TEST_STATUS.STEPS]
  | .testMappingGo => some [Fld.HFE_COLLECT_MAX.MAX_DEPTH, Fld.MAP_FAULT_COUNT, Fld.MAP_FAULT_IN, Fld.MAP_FAULT_INFO.ARRAY,
      Fld.MAP_FAULT_INFO.ENTRY, Fld.MAP_FAULT_INFO.EPOCH, Fld.MAP_FAULT_INFO.LANE, Fld.MAP_FAULT_INFO.PC, Fld.MAP_FAULT_INFO.REASON,
      Fld.MAP_FAULT_UNIT.UNIT, Fld.MAP_PREEMPT_COUNT, Fld.MAP_STATUS.LANES_BUSY, Fld.MAP_TEST_STATUS.BUSY, Fld.MAP_TEST_STATUS.DONE,
      Fld.MAP_TEST_STATUS.FAULT, Fld.MAP_TEST_STATUS.STEPS, Fld.SYS_BUS_ADDR.OFFSET, Fld.SYS_BUS_STATUS.ERR, Fld.SYS_BUS_STATUS.IFACE,
      Fld.SYS_BUS_STATUS.REASON]
  | .doorbellWrite _ _ _ => some [Fld.PWR_STATE.STATE, Fld.PWR_STATE.TARGET]
  | .cqHeadDoorbell _ _ _ => some [Fld.PWR_STATE.STATE, Fld.PWR_STATE.TARGET]
  | .fetchGrant _ _ _ => some [Fld.HFE_CID_CONFLICT_COUNT, Fld.HFE_COLLECT_MAX.MAX_DEPTH, Fld.HFE_FETCH_PAUSE_COUNT, Fld.HFE_LOCK_WAIT_COUNT,
      Fld.LAT_C0_RATE.GBPS_X100, Fld.LAT_C0_RATE.KCMD]
  | .rangeLockGrant _ => some [Fld.HFE_COLLECT_MAX.MAX_DEPTH]
  | .createIoSq _ _ _ _ _ => some [Fld.HFE_CID_CONFLICT_COUNT, Fld.PWR_STATE.STATE, Fld.PWR_STATE.TARGET]
  | .createIoCq _ _ _ _ _ _ => some [Fld.HFE_CID_CONFLICT_COUNT, Fld.PWR_STATE.STATE, Fld.PWR_STATE.TARGET]
  | .deleteIoSq _ _ _ => some [Fld.HFE_CID_CONFLICT_COUNT, Fld.HFE_COLLECT_MAX.MAX_DEPTH, Fld.PWR_STATE.STATE, Fld.PWR_STATE.TARGET]
  | .deleteIoCq _ _ _ => some [Fld.HFE_CID_CONFLICT_COUNT, Fld.PWR_STATE.STATE, Fld.PWR_STATE.TARGET]
  | .getLogPage _ _ _ _ _ => some [Fld.HFE_CID_CONFLICT_COUNT, Fld.HFE_DWE_STATUS.ENTRIES, Fld.HFE_DWE_STATUS.OVERFLOW, Fld.PWR_STATE.STATE,
      Fld.PWR_STATE.TARGET]
  | .identify _ _ _ _ => some [Fld.HFE_CID_CONFLICT_COUNT, Fld.PWR_STATE.STATE, Fld.PWR_STATE.TARGET]
  | .abortCommand _ _ _ _ => some [Fld.CIP_STATUS.CONTEXTS, Fld.HFE_CID_CONFLICT_COUNT, Fld.HFE_COLLECT_MAX.MAX_DEPTH, Fld.MIRROR_BYTES,
      Fld.PWR_STATE.STATE, Fld.PWR_STATE.TARGET, Fld.WC_STATUS.OVER_LIMIT, Fld.WC_STATUS.UNPROTECTED, Fld.WC_UNPROT_MS]
  | .setFeaturesNumberOfQueues _ _ _ _ => some [Fld.HFE_CID_CONFLICT_COUNT, Fld.PWR_STATE.STATE, Fld.PWR_STATE.TARGET]
  | .setFeaturesPowerManagement _ _ _ => some [Fld.HFE_CID_CONFLICT_COUNT, Fld.PWR_STATE.STATE, Fld.PWR_STATE.TARGET, Fld.PWR_TRANS_COUNT,
      Fld.THERM_STATUS.CLOCK_STEPS]
  | .setFeaturesQueueClass _ _ _ _ => some [Fld.HFE_CID_CONFLICT_COUNT, Fld.PWR_STATE.STATE, Fld.PWR_STATE.TARGET]
  | .setFeaturesProtectionWindow _ _ _ _ _ _ _ _ => some [Fld.EVR_CHAL, Fld.EVR_STATUS.CHAL_VALID, Fld.EVR_STATUS.LOCKOUT,
      Fld.HFE_CID_CONFLICT_COUNT, Fld.PWR_STATE.STATE, Fld.PWR_STATE.TARGET]
  | .setFeaturesArbitration _ _ _ => some [Fld.HFE_CID_CONFLICT_COUNT, Fld.PWR_STATE.STATE, Fld.PWR_STATE.TARGET]
  | .setFeaturesOther _ _ _ _ => some [Fld.HFE_CID_CONFLICT_COUNT, Fld.PWR_STATE.STATE, Fld.PWR_STATE.TARGET]
  | .getFeatures _ _ _ _ => some [Fld.HFE_CID_CONFLICT_COUNT, Fld.PWR_STATE.STATE, Fld.PWR_STATE.TARGET]
  | .asynchronousEventRequest _ _ => some [Fld.HFE_CID_CONFLICT_COUNT, Fld.PWR_STATE.STATE, Fld.PWR_STATE.TARGET]
  | .formatNvm _ _ _ _ _ => some [Fld.CIP_STATUS.CONTEXTS, Fld.HFE_CID_CONFLICT_COUNT, Fld.HFE_COLLECT_MAX.MAX_DEPTH, Fld.MIRROR_BYTES,
      Fld.PWR_STATE.STATE, Fld.PWR_STATE.TARGET, Fld.WC_STATUS.OVER_LIMIT, Fld.WC_STATUS.UNPROTECTED, Fld.WC_UNPROT_MS]
  | .sanitizeOverwrite _ _ _ _ _ => some [Fld.CIP_STATUS.CONTEXTS, Fld.HFE_CID_CONFLICT_COUNT, Fld.HFE_COLLECT_MAX.MAX_DEPTH, Fld.MIRROR_BYTES,
      Fld.PWR_STATE.STATE, Fld.PWR_STATE.TARGET, Fld.WC_STATUS.OVER_LIMIT, Fld.WC_STATUS.UNPROTECTED, Fld.WC_UNPROT_MS]
  | .sanitizeCryptoErase _ _ => some [Fld.CIP_STATUS.CONTEXTS, Fld.HFE_CID_CONFLICT_COUNT, Fld.HFE_COLLECT_MAX.MAX_DEPTH, Fld.MIRROR_BYTES,
      Fld.PWR_STATE.STATE, Fld.PWR_STATE.TARGET, Fld.WC_STATUS.OVER_LIMIT, Fld.WC_STATUS.UNPROTECTED, Fld.WC_UNPROT_MS]
  | .sanitizeOther _ _ _ => some [Fld.HFE_CID_CONFLICT_COUNT, Fld.PWR_STATE.STATE, Fld.PWR_STATE.TARGET]
  | .invalidOpcodeCommand _ _ _ => some [Fld.HFE_CID_CONFLICT_COUNT, Fld.HFE_COLLECT_MAX.MAX_DEPTH, Fld.HFE_FETCH_PAUSE_COUNT,
      Fld.HFE_LOCK_WAIT_COUNT, Fld.LAT_C0_RATE.GBPS_X100, Fld.LAT_C0_RATE.KCMD, Fld.PWR_STATE.STATE, Fld.PWR_STATE.TARGET]
  | .formatWatermarkSave _ => some [Fld.MIRROR_BYTES, Fld.WC_STATUS.OVER_LIMIT, Fld.WC_STATUS.UNPROTECTED, Fld.WC_UNPROT_MS]
  | .formatEnd _ => some [Fld.MIRROR_BYTES, Fld.WC_STATUS.OVER_LIMIT, Fld.WC_STATUS.UNPROTECTED, Fld.WC_UNPROT_MS]
  | .sanitizeEnd => some []
  | .nvmeFlush _ => some [Fld.HFE_COLLECT_MAX.MAX_DEPTH]
  | .nvmeWrite _ _ => some [Fld.CIP_STATUS.NONCE_WARN, Fld.CIP_STATUS.TRNG_READY, Fld.CIP_TRNG_STATUS.POOL, Fld.CIP_TRNG_STATUS.READY,
      Fld.HFE_COLLECT_MAX.MAX_DEPTH, Fld.MAP_FAULT_COUNT, Fld.MAP_FAULT_IN, Fld.MAP_FAULT_INFO.ARRAY, Fld.MAP_FAULT_INFO.ENTRY,
      Fld.MAP_FAULT_INFO.EPOCH, Fld.MAP_FAULT_INFO.LANE, Fld.MAP_FAULT_INFO.PC, Fld.MAP_FAULT_INFO.REASON, Fld.MAP_FAULT_UNIT.UNIT,
      Fld.MAP_TEST_STATUS.BUSY, Fld.MAP_TEST_STATUS.DONE, Fld.MAP_TEST_STATUS.FAULT, Fld.MAP_TEST_STATUS.STEPS, Fld.MIRROR_BYTES,
      Fld.WC_STATUS.OVER_LIMIT, Fld.WC_STATUS.UNPROTECTED, Fld.WC_UNPROT_MS]
  | .nvmeRead _ => some [Fld.ARR_REPAIR_COUNT, Fld.ARR_STATE.LOST_OVERFLOW, Fld.HFE_COLLECT_MAX.MAX_DEPTH, Fld.HFE_DWE_STATUS.ENTRIES,
      Fld.HFE_DWE_STATUS.OVERFLOW, Fld.MAP_FAULT_COUNT, Fld.MAP_FAULT_IN, Fld.MAP_FAULT_INFO.ARRAY, Fld.MAP_FAULT_INFO.ENTRY,
      Fld.MAP_FAULT_INFO.EPOCH, Fld.MAP_FAULT_INFO.LANE, Fld.MAP_FAULT_INFO.PC, Fld.MAP_FAULT_INFO.REASON, Fld.MAP_FAULT_UNIT.UNIT,
      Fld.MAP_TEST_STATUS.BUSY, Fld.MAP_TEST_STATUS.DONE, Fld.MAP_TEST_STATUS.FAULT, Fld.MAP_TEST_STATUS.STEPS, Fld.MIRROR_BYTES,
      Fld.PQE_SOLVE_COUNT, Fld.PQE_SRC_BYTES, Fld.RBE_LOST_COUNT.ENTRIES, Fld.RBE_LOST_COUNT.OVERFLOW]
  | .writeZeroes _ => some [Fld.CIP_STATUS.NONCE_WARN, Fld.CIP_STATUS.TRNG_READY, Fld.CIP_TRNG_STATUS.POOL, Fld.CIP_TRNG_STATUS.READY,
      Fld.HFE_COLLECT_MAX.MAX_DEPTH, Fld.MAP_FAULT_COUNT, Fld.MAP_FAULT_IN, Fld.MAP_FAULT_INFO.ARRAY, Fld.MAP_FAULT_INFO.ENTRY,
      Fld.MAP_FAULT_INFO.EPOCH, Fld.MAP_FAULT_INFO.LANE, Fld.MAP_FAULT_INFO.PC, Fld.MAP_FAULT_INFO.REASON, Fld.MAP_FAULT_UNIT.UNIT,
      Fld.MAP_TEST_STATUS.BUSY, Fld.MAP_TEST_STATUS.DONE, Fld.MAP_TEST_STATUS.FAULT, Fld.MAP_TEST_STATUS.STEPS, Fld.MIRROR_BYTES,
      Fld.WC_STATUS.OVER_LIMIT, Fld.WC_STATUS.UNPROTECTED, Fld.WC_UNPROT_MS]
  | .datasetManagement _ => some [Fld.CIP_STATUS.NONCE_WARN, Fld.CIP_STATUS.TRNG_READY, Fld.CIP_TRNG_STATUS.POOL, Fld.CIP_TRNG_STATUS.READY,
      Fld.HFE_COLLECT_MAX.MAX_DEPTH, Fld.MAP_FAULT_COUNT, Fld.MAP_FAULT_IN, Fld.MAP_FAULT_INFO.ARRAY, Fld.MAP_FAULT_INFO.ENTRY,
      Fld.MAP_FAULT_INFO.EPOCH, Fld.MAP_FAULT_INFO.LANE, Fld.MAP_FAULT_INFO.PC, Fld.MAP_FAULT_INFO.REASON, Fld.MAP_FAULT_UNIT.UNIT,
      Fld.MAP_TEST_STATUS.BUSY, Fld.MAP_TEST_STATUS.DONE, Fld.MAP_TEST_STATUS.FAULT, Fld.MAP_TEST_STATUS.STEPS, Fld.MIRROR_BYTES,
      Fld.WC_STATUS.OVER_LIMIT, Fld.WC_STATUS.UNPROTECTED, Fld.WC_UNPROT_MS]
  | .nvmeVerify _ => some [Fld.ARR_REPAIR_COUNT, Fld.ARR_STATE.LOST_OVERFLOW, Fld.HFE_COLLECT_MAX.MAX_DEPTH, Fld.HFE_DWE_STATUS.ENTRIES,
      Fld.HFE_DWE_STATUS.OVERFLOW, Fld.MAP_FAULT_COUNT, Fld.MAP_FAULT_IN, Fld.MAP_FAULT_INFO.ARRAY, Fld.MAP_FAULT_INFO.ENTRY,
      Fld.MAP_FAULT_INFO.EPOCH, Fld.MAP_FAULT_INFO.LANE, Fld.MAP_FAULT_INFO.PC, Fld.MAP_FAULT_INFO.REASON, Fld.MAP_FAULT_UNIT.UNIT,
      Fld.MAP_TEST_STATUS.BUSY, Fld.MAP_TEST_STATUS.DONE, Fld.MAP_TEST_STATUS.FAULT, Fld.MAP_TEST_STATUS.STEPS, Fld.MIRROR_BYTES,
      Fld.PQE_SOLVE_COUNT, Fld.PQE_SRC_BYTES, Fld.RBE_LOST_COUNT.ENTRIES, Fld.RBE_LOST_COUNT.OVERFLOW]
  | .ccEnable _ _ _ => some []
  | .functionReset _ _ => some [Fld.CH_BYTES, Fld.CH_CTRL.EN, Fld.CH_STATUS.DISABLED_MIDWAY, Fld.CH_STATUS.PENDING, Fld.CH_STATUS.STATE,
      Fld.CIP_STATUS.CONTEXTS, Fld.HFE_COLLECT_MAX.MAX_DEPTH, Fld.MAP_STATUS.LANES_BUSY, Fld.MIRROR_BYTES, Fld.WC_STATUS.OVER_LIMIT,
      Fld.WC_STATUS.UNPROTECTED, Fld.WC_UNPROT_MS, Fld.WIN_CTRL.EN]
  | .functionResetComplete _ => some []
  | .perstNAssert _ => some [Fld.CH_BYTES, Fld.CH_CTRL.EN, Fld.CH_STATUS.DISABLED_MIDWAY, Fld.CH_STATUS.PENDING, Fld.CH_STATUS.STATE,
      Fld.CIP_STATUS.CONTEXTS, Fld.HFE_COLLECT_MAX.MAX_DEPTH, Fld.MAP_STATUS.LANES_BUSY, Fld.MIRROR_BYTES, Fld.WC_STATUS.OVER_LIMIT,
      Fld.WC_STATUS.UNPROTECTED, Fld.WC_UNPROT_MS, Fld.WIN_CTRL.EN]
  | .perstNRelease _ => some []
  | .memberCompletion _ _ _ => some [Fld.ARR_STATE.LOST_OVERFLOW, Fld.CAPACITY, Fld.DRIVE_SERIAL, Fld.ERR_INFO.DRIVE_STATUS, Fld.ERR_INFO.KIND,
      Fld.ERR_INFO.SLOT, Fld.HFE_DWE_STATUS.ENTRIES, Fld.HFE_DWE_STATUS.OVERFLOW, Fld.HFE_LATE_DROP_COUNT, Fld.HFE_LATE_DROP_INFO.GEN,
      Fld.HFE_LATE_DROP_INFO.INDEX, Fld.HFE_LATE_DROP_INFO.PORT, Fld.LAT_SUPERSEDED, Fld.LINK_STATUS.LINK_UP, Fld.LINK_STATUS.PWREN,
      Fld.LINK_STATUS.RATE, Fld.LINK_STATUS.WIDTH, Fld.MEDIA_ERR_COUNT, Fld.MIRROR_BYTES, Fld.OUTSTANDING.C0_SLOTS, Fld.OUTSTANDING.SLOTS,
      Fld.PORT_STATE.STATE, Fld.RBE_LOST_COUNT.ENTRIES, Fld.RBE_LOST_COUNT.OVERFLOW, Fld.READ_COUNT, Fld.RESET_COUNT, Fld.RETRY_COUNT,
      Fld.SLOT_LATE_COUNT, Fld.TIMEOUT_COUNT, Fld.WRITE_COUNT, Fld.WRITE_GATE_ABORTS]
  | .completionPost _ => some [Fld.CIP_STATUS.CONTEXTS, Fld.HFE_COLLECT_MAX.MAX_DEPTH, Fld.LAT_C0_DONE, Fld.LAT_C0_EXCL, Fld.LAT_C0_ISSUE_MAX.NS,
      Fld.LAT_C0_OUTSIDE, Fld.LAT_C0_POST_MAX.NS, Fld.LAT_C0_VIOL, Fld.MIRROR_BYTES, Fld.WC_STATUS.OVER_LIMIT, Fld.WC_STATUS.UNPROTECTED,
      Fld.WC_UNPROT_MS]
  | .writePlaced _ => some [Fld.HFE_COLLECT_MAX.MAX_DEPTH, Fld.MIRROR_BYTES]
  | .dirtyLimitAdmit => some [Fld.CIP_STATUS.NONCE_WARN, Fld.CIP_STATUS.TRNG_READY, Fld.CIP_TRNG_STATUS.POOL, Fld.CIP_TRNG_STATUS.READY,
      Fld.HFE_COLLECT_MAX.MAX_DEPTH, Fld.MIRROR_BYTES, Fld.WC_STATUS.OVER_LIMIT, Fld.WC_STATUS.UNPROTECTED, Fld.WC_UNPROT_MS]
  | .dirtyLimitRecompute => some [Fld.WC_LIMIT.MIB, Fld.WC_LIMIT_CFG.MIB, Fld.WC_LIMIT_ENERGY.MIB, Fld.WC_LIMIT_VAULT.MIB,
      Fld.WC_STATUS.AREA_READY, Fld.WC_STATUS.OVER_LIMIT, Fld.WC_STATUS.UNPROTECTED, Fld.WC_STATUS.WRITE_THROUGH, Fld.WC_UNPROT_MS]
  | .dirtyNamespaceSetAck _ => some [Fld.HFE_COLLECT_MAX.MAX_DEPTH]
  | .dirtyNamespaceClear _ => some []
  | .mirrorAck => some [Fld.HFE_COLLECT_MAX.MAX_DEPTH, Fld.MIRROR_BYTES]
  | .mirrorLost => some [Fld.HFE_COLLECT_MAX.MAX_DEPTH, Fld.MIRROR_BYTES, Fld.PAIR_EPOCH, Fld.PAIR_STATUS.MIRROR_ON, Fld.WC_LIMIT.MIB,
      Fld.WC_LIMIT_CFG.MIB, Fld.WC_LIMIT_ENERGY.MIB, Fld.WC_LIMIT_VAULT.MIB, Fld.WC_STATUS.AREA_READY, Fld.WC_STATUS.MIRROR_LOST,
      Fld.WC_STATUS.MIRROR_ON, Fld.WC_STATUS.OVER_LIMIT, Fld.WC_STATUS.UNPROTECTED, Fld.WC_STATUS.WRITE_THROUGH, Fld.WC_UNPROT_MS]
  | .stripeUpdateStart _ _ => some []
  | .dirtyAgeExpiry _ _ => some []
  | .gatherExpiry _ _ => some []
  | .stripeUpdateReadsDone _ => some [Fld.PQE_SOLVE_COUNT, Fld.PQE_SRC_BYTES]
  | .stripeUpdateContextSaved _ => some [Fld.MIRROR_BYTES, Fld.WC_STATUS.OVER_LIMIT, Fld.WC_STATUS.UNPROTECTED, Fld.WC_UNPROT_MS]
  | .fretSetAck _ => some []
  | .dataWritesDone _ => some [Fld.ARR_STATE.LOST_OVERFLOW, Fld.HFE_DWE_STATUS.ENTRIES, Fld.HFE_DWE_STATUS.OVERFLOW, Fld.MIRROR_BYTES,
      Fld.RBE_LOST_COUNT.ENTRIES, Fld.RBE_LOST_COUNT.OVERFLOW]
  | .parityWritesDone _ => some [Fld.HFE_COLLECT_MAX.MAX_DEPTH, Fld.MIRROR_BYTES, Fld.WC_STATUS.OVER_LIMIT, Fld.WC_STATUS.UNPROTECTED,
      Fld.WC_UNPROT_MS, Fld.WC_UPDATE_COUNT]
  | .fretClear _ => some [Fld.MIRROR_BYTES]
  | .fretClearAck _ => some [Fld.MIRROR_BYTES]
  | .wcDestageAll => some [Fld.SYS_BUS_ADDR.OFFSET, Fld.SYS_BUS_STATUS.ERR, Fld.SYS_BUS_STATUS.IFACE, Fld.SYS_BUS_STATUS.REASON]
  | .wcClearIdle => some [Fld.MIRROR_BYTES, Fld.SYS_BUS_ADDR.OFFSET, Fld.SYS_BUS_STATUS.ERR, Fld.SYS_BUS_STATUS.IFACE, Fld.SYS_BUS_STATUS.REASON]
  | .dumpRetire _ => some [Fld.VLT_AREA.STATE]
  | .areaEraseDone _ => some [Fld.VLT_AREA.CANCELLED, Fld.VLT_AREA.COMPLETE, Fld.VLT_AREA.STATE, Fld.WC_LIMIT.MIB, Fld.WC_LIMIT_CFG.MIB,
      Fld.WC_LIMIT_ENERGY.MIB, Fld.WC_LIMIT_VAULT.MIB, Fld.WC_STATUS.AREA_READY, Fld.WC_STATUS.OVER_LIMIT, Fld.WC_STATUS.UNPROTECTED,
      Fld.WC_STATUS.WRITE_THROUGH, Fld.WC_UNPROT_MS]
  | .vaultReplayStart => some [Fld.VLT_STATUS.REPLAYING]
  | .vaultReplayComplete => some [Fld.HFE_DWE_STATUS.ENTRIES, Fld.HFE_DWE_STATUS.OVERFLOW, Fld.HFE_STATUS.REPLAY_PENDING, Fld.MIRROR_BYTES,
      Fld.PWR_REPLAY_MS, Fld.VLT_STATUS.REPLAYING, Fld.WC_REPLAY.RESULT, Fld.WC_REPLAY.UNRESTORED, Fld.WC_STATUS.OVER_LIMIT,
      Fld.WC_STATUS.UNPROTECTED, Fld.WC_UNPROT_MS]
  | .reshapeUncleanRerun _ => some [Fld.ARR_STATE.LOST_OVERFLOW, Fld.HFE_DWE_STATUS.ENTRIES, Fld.HFE_DWE_STATUS.OVERFLOW,
      Fld.HFE_STATUS.REPLAY_PENDING, Fld.MIRROR_BYTES, Fld.PQE_SRC_BYTES, Fld.RBE_LOST_COUNT.ENTRIES, Fld.RBE_LOST_COUNT.OVERFLOW,
      Fld.WC_STATUS.OVER_LIMIT, Fld.WC_STATUS.UNPROTECTED, Fld.WC_UNPROT_MS]
  | .resyncScanStep _ => some [Fld.ARR_STATE.LOST_OVERFLOW, Fld.HFE_DWE_STATUS.ENTRIES, Fld.HFE_DWE_STATUS.OVERFLOW, Fld.MIRROR_BYTES,
      Fld.RBE_LOST_COUNT.ENTRIES, Fld.RBE_LOST_COUNT.OVERFLOW]
  | .katRun => some [Fld.PQE_STATUS.KAT_BUSY, Fld.PQE_STATUS.SLICE_ACTIVE, Fld.SYS_BUS_ADDR.OFFSET, Fld.SYS_BUS_STATUS.ERR,
      Fld.SYS_BUS_STATUS.IFACE, Fld.SYS_BUS_STATUS.REASON]
  | .katPeriodic => some [Fld.PQE_STATUS.KAT_BUSY, Fld.PQE_STATUS.SLICE_ACTIVE]
  | .katResult _ _ => some [Fld.PQE_KAT_PASS, Fld.PQE_STATUS.KAT_BUSY, Fld.PQE_STATUS.KAT_LAST_FAIL, Fld.PQE_STATUS.SLICE_ACTIVE,
      Fld.PQE_STATUS.SLICE_FAILED]
  | .slowWindowEval _ _ _ _ => some []
  | .slowFailExpiry _ _ => some [Fld.ARR_STATE.LOST_OVERFLOW, Fld.HFE_DWE_STATUS.ENTRIES, Fld.HFE_DWE_STATUS.OVERFLOW, Fld.MIRROR_BYTES,
      Fld.RBE_LOST_COUNT.ENTRIES, Fld.RBE_LOST_COUNT.OVERFLOW]
  | .rebuildStripe _ => some [Fld.ARR_REPAIR_COUNT, Fld.ARR_STATE.LOST_OVERFLOW, Fld.HFE_DWE_STATUS.ENTRIES, Fld.HFE_DWE_STATUS.OVERFLOW,
      Fld.MAP_FAULT_COUNT, Fld.MAP_FAULT_IN, Fld.MAP_FAULT_INFO.ARRAY, Fld.MAP_FAULT_INFO.ENTRY, Fld.MAP_FAULT_INFO.EPOCH, Fld.MAP_FAULT_INFO.LANE,
      Fld.MAP_FAULT_INFO.PC, Fld.MAP_FAULT_INFO.REASON, Fld.MAP_FAULT_UNIT.UNIT, Fld.MIRROR_BYTES, Fld.PQE_SOLVE_COUNT, Fld.PQE_SRC_BYTES,
      Fld.RBE_LOST_COUNT.ENTRIES, Fld.RBE_LOST_COUNT.OVERFLOW]
  | .copybackUnit _ => some [Fld.ARR_REPAIR_COUNT, Fld.ARR_STATE.LOST_OVERFLOW, Fld.HFE_DWE_STATUS.ENTRIES, Fld.HFE_DWE_STATUS.OVERFLOW,
      Fld.MAP_FAULT_COUNT, Fld.MAP_FAULT_IN, Fld.MAP_FAULT_INFO.ARRAY, Fld.MAP_FAULT_INFO.ENTRY, Fld.MAP_FAULT_INFO.EPOCH, Fld.MAP_FAULT_INFO.LANE,
      Fld.MAP_FAULT_INFO.PC, Fld.MAP_FAULT_INFO.REASON, Fld.MAP_FAULT_UNIT.UNIT, Fld.MIRROR_BYTES, Fld.PQE_SOLVE_COUNT, Fld.RBE_LOST_COUNT.ENTRIES,
      Fld.RBE_LOST_COUNT.OVERFLOW]
  | .scrubPeriodStart _ => some []
  | .scrubStripe _ => some [Fld.ARR_MISMATCH_COUNT, Fld.ARR_REPAIR_COUNT, Fld.ARR_SCRUB_END, Fld.ARR_STATE.LOST_OVERFLOW,
      Fld.HFE_DWE_STATUS.ENTRIES, Fld.HFE_DWE_STATUS.OVERFLOW, Fld.MAP_FAULT_COUNT, Fld.MAP_FAULT_IN, Fld.MAP_FAULT_INFO.ARRAY,
      Fld.MAP_FAULT_INFO.ENTRY, Fld.MAP_FAULT_INFO.EPOCH, Fld.MAP_FAULT_INFO.LANE, Fld.MAP_FAULT_INFO.PC, Fld.MAP_FAULT_INFO.REASON,
      Fld.MAP_FAULT_UNIT.UNIT, Fld.MIRROR_BYTES, Fld.PQE_SOLVE_COUNT, Fld.PQE_SRC_BYTES, Fld.RBE_LOST_COUNT.ENTRIES, Fld.RBE_LOST_COUNT.OVERFLOW]
  | .reshapeStep _ => some [Fld.ARR_STATE.LOST_OVERFLOW, Fld.HFE_DWE_STATUS.ENTRIES, Fld.HFE_DWE_STATUS.OVERFLOW, Fld.MAP_FAULT_COUNT,
      Fld.MAP_FAULT_IN, Fld.MAP_FAULT_INFO.ARRAY, Fld.MAP_FAULT_INFO.ENTRY, Fld.MAP_FAULT_INFO.EPOCH, Fld.MAP_FAULT_INFO.LANE,
      Fld.MAP_FAULT_INFO.PC, Fld.MAP_FAULT_INFO.REASON, Fld.MAP_FAULT_UNIT.UNIT, Fld.MIRROR_BYTES, Fld.PQE_SRC_BYTES, Fld.RBE_LOST_COUNT.ENTRIES,
      Fld.RBE_LOST_COUNT.OVERFLOW, Fld.WC_STATUS.OVER_LIMIT, Fld.WC_STATUS.UNPROTECTED, Fld.WC_UNPROT_MS]
  | .arrScrubNow _ => some [Fld.ARR_CMD.CMD, Fld.SYS_BUS_ADDR.OFFSET, Fld.SYS_BUS_STATUS.ERR, Fld.SYS_BUS_STATUS.IFACE, Fld.SYS_BUS_STATUS.REASON]
  | .arrPause _ => some [Fld.ARR_CMD.CMD, Fld.SYS_BUS_ADDR.OFFSET, Fld.SYS_BUS_STATUS.ERR, Fld.SYS_BUS_STATUS.IFACE, Fld.SYS_BUS_STATUS.REASON]
  | .arrResume _ => some [Fld.ARR_CMD.CMD, Fld.SYS_BUS_ADDR.OFFSET, Fld.SYS_BUS_STATUS.ERR, Fld.SYS_BUS_STATUS.IFACE, Fld.SYS_BUS_STATUS.REASON]
  | .arrFailMember _ _ => some [Fld.ARR_CMD.CMD, Fld.ARR_STATE.LOST_OVERFLOW, Fld.HFE_DWE_STATUS.ENTRIES, Fld.HFE_DWE_STATUS.OVERFLOW,
      Fld.MIRROR_BYTES, Fld.RBE_LOST_COUNT.ENTRIES, Fld.RBE_LOST_COUNT.OVERFLOW, Fld.SYS_BUS_ADDR.OFFSET, Fld.SYS_BUS_STATUS.ERR,
      Fld.SYS_BUS_STATUS.IFACE, Fld.SYS_BUS_STATUS.REASON]
  | .arrCopyback _ => some [Fld.ARR_CMD.CMD, Fld.SYS_BUS_ADDR.OFFSET, Fld.SYS_BUS_STATUS.ERR, Fld.SYS_BUS_STATUS.IFACE, Fld.SYS_BUS_STATUS.REASON]
  | .memberDeadline _ _ => some [Fld.LAT_RECON]
  | .histClear => some [Fld.SYS_BUS_ADDR.OFFSET, Fld.SYS_BUS_STATUS.ERR, Fld.SYS_BUS_STATUS.IFACE, Fld.SYS_BUS_STATUS.REASON]
  | .latC0IssueMaxRead => some [Fld.SYS_BUS_STATUS.ERR, Fld.SYS_BUS_STATUS.IFACE, Fld.SYS_BUS_STATUS.REASON, Fld.SYS_BUS_ADDR.OFFSET,
      Fld.LAT_C0_ISSUE_MAX.NS]
  | .latC0PostMaxRead => some [Fld.SYS_BUS_STATUS.ERR, Fld.SYS_BUS_STATUS.IFACE, Fld.SYS_BUS_STATUS.REASON, Fld.SYS_BUS_ADDR.OFFSET,
      Fld.LAT_C0_POST_MAX.NS]
  | .hfeCollectMaxRead _ => some [Fld.SYS_BUS_STATUS.ERR, Fld.SYS_BUS_STATUS.IFACE, Fld.SYS_BUS_STATUS.REASON, Fld.SYS_BUS_ADDR.OFFSET,
      Fld.HFE_COLLECT_MAX.MAX_DEPTH]
  | .errDepthMaxRead => some [Fld.SYS_BUS_STATUS.ERR, Fld.SYS_BUS_STATUS.IFACE, Fld.SYS_BUS_STATUS.REASON, Fld.SYS_BUS_ADDR.OFFSET,
      Fld.ERR_DEPTH_MAX.DEPTH]
  | .pairLoRead _ _ => some [Fld.SYS_BUS_STATUS.ERR, Fld.SYS_BUS_STATUS.IFACE, Fld.SYS_BUS_STATUS.REASON, Fld.SYS_BUS_ADDR.OFFSET]
  | .pairLoWrite _ _ _ => some [Fld.SYS_BUS_STATUS.ERR, Fld.SYS_BUS_STATUS.IFACE, Fld.SYS_BUS_STATUS.REASON, Fld.SYS_BUS_ADDR.OFFSET]
  | .pairHiWrite _ _ _ => none
  | .groupWord0Read _ _ => some [Fld.SYS_BUS_STATUS.ERR, Fld.SYS_BUS_STATUS.IFACE, Fld.SYS_BUS_STATUS.REASON, Fld.SYS_BUS_ADDR.OFFSET]
  | .registerWrite _ _ _ => none
  | .scReadRequest _ _ _ => some [Fld.SC_HIT, Fld.SC_MISS, Fld.SC_OWN_RETRY, Fld.SC_PF_ISSUED, Fld.SC_PF_USED, Fld.SC_VICTIM_HIT]
  | .scFillReturn _ _ => some [Fld.SC_PF_USED]
  | .scWriteRequest _ _ _ _ => some [Fld.SC_HIT, Fld.SC_MISS, Fld.SC_OWN_RETRY, Fld.SC_PF_ISSUED, Fld.SC_PF_USED, Fld.SC_VICTIM_HIT]
  | .mergeBufferDrain _ => some [Fld.SC_HIT, Fld.SC_MISS, Fld.SC_OWN_RETRY, Fld.SC_PF_ISSUED, Fld.SC_PF_USED, Fld.SC_VICTIM_HIT]
  | .hbmWriteAck _ => some [Fld.ARR_STATE.LOST_OVERFLOW, Fld.RBE_LOST_COUNT.ENTRIES, Fld.RBE_LOST_COUNT.OVERFLOW]
  | .evictionBufferExpiry _ => some []
  | .ownershipRequest _ _ => some [Fld.SC_OWN_RETRY]
  | .recallWriteBack _ _ => some [Fld.SC_HIT, Fld.SC_MISS, Fld.SC_OWN_RETRY, Fld.SC_PF_ISSUED, Fld.SC_PF_USED, Fld.SC_VICTIM_HIT]
  | .retryReissue _ _ => some [Fld.SC_OWN_RETRY]
  | .scMaintClean _ => some [Fld.SC_HIT, Fld.SC_MISS, Fld.SC_OWN_RETRY, Fld.SC_PF_ISSUED, Fld.SC_PF_USED, Fld.SC_STATUS.MAINT_BUSY,
      Fld.SC_VICTIM_HIT, Fld.SYS_BUS_ADDR.OFFSET, Fld.SYS_BUS_STATUS.ERR, Fld.SYS_BUS_STATUS.IFACE, Fld.SYS_BUS_STATUS.REASON]
  | .scMaintInvalidate _ => some [Fld.SC_HIT, Fld.SC_MISS, Fld.SC_OWN_RETRY, Fld.SC_PF_ISSUED, Fld.SC_PF_USED, Fld.SC_STATUS.MAINT_BUSY,
      Fld.SC_VICTIM_HIT, Fld.SYS_BUS_ADDR.OFFSET, Fld.SYS_BUS_STATUS.ERR, Fld.SYS_BUS_STATUS.IFACE, Fld.SYS_BUS_STATUS.REASON]
  | .scMaintCleanInvalidate _ => some [Fld.SC_HIT, Fld.SC_MISS, Fld.SC_OWN_RETRY, Fld.SC_PF_ISSUED, Fld.SC_PF_USED, Fld.SC_STATUS.MAINT_BUSY,
      Fld.SC_VICTIM_HIT, Fld.SYS_BUS_ADDR.OFFSET, Fld.SYS_BUS_STATUS.ERR, Fld.SYS_BUS_STATUS.IFACE, Fld.SYS_BUS_STATUS.REASON]
  | .scRangeClean => some [Fld.SC_HIT, Fld.SC_MISS, Fld.SC_OWN_RETRY, Fld.SC_PF_ISSUED, Fld.SC_PF_USED, Fld.SC_RANGE_DISPLACED.LINES,
      Fld.SC_RANGE_STATUS.BUSY, Fld.SC_RANGE_STATUS.DONE, Fld.SC_RANGE_STATUS.ERR_CODE, Fld.SC_RANGE_STATUS.OVERFLOW, Fld.SC_STATUS.RANGE_BUSY,
      Fld.SC_VICTIM_HIT, Fld.SYS_BUS_ADDR.OFFSET, Fld.SYS_BUS_STATUS.ERR, Fld.SYS_BUS_STATUS.IFACE, Fld.SYS_BUS_STATUS.REASON]
  | .scRangeInvalidate => some [Fld.SC_HIT, Fld.SC_MISS, Fld.SC_OWN_RETRY, Fld.SC_PF_ISSUED, Fld.SC_PF_USED, Fld.SC_RANGE_DISPLACED.LINES,
      Fld.SC_RANGE_STATUS.BUSY, Fld.SC_RANGE_STATUS.DONE, Fld.SC_RANGE_STATUS.ERR_CODE, Fld.SC_RANGE_STATUS.OVERFLOW, Fld.SC_STATUS.RANGE_BUSY,
      Fld.SC_VICTIM_HIT, Fld.SYS_BUS_ADDR.OFFSET, Fld.SYS_BUS_STATUS.ERR, Fld.SYS_BUS_STATUS.IFACE, Fld.SYS_BUS_STATUS.REASON]
  | .scRangeCleanInvalidate => some [Fld.SC_HIT, Fld.SC_MISS, Fld.SC_OWN_RETRY, Fld.SC_PF_ISSUED, Fld.SC_PF_USED, Fld.SC_RANGE_DISPLACED.LINES,
      Fld.SC_RANGE_STATUS.BUSY, Fld.SC_RANGE_STATUS.DONE, Fld.SC_RANGE_STATUS.ERR_CODE, Fld.SC_RANGE_STATUS.OVERFLOW, Fld.SC_STATUS.RANGE_BUSY,
      Fld.SC_VICTIM_HIT, Fld.SYS_BUS_ADDR.OFFSET, Fld.SYS_BUS_STATUS.ERR, Fld.SYS_BUS_STATUS.IFACE, Fld.SYS_BUS_STATUS.REASON]
  | .scPreload => some [Fld.SC_HIT, Fld.SC_MISS, Fld.SC_OWN_RETRY, Fld.SC_PF_ISSUED, Fld.SC_PF_USED, Fld.SC_RANGE_DISPLACED.LINES,
      Fld.SC_RANGE_STATUS.BUSY, Fld.SC_RANGE_STATUS.DONE, Fld.SC_RANGE_STATUS.ERR_CODE, Fld.SC_RANGE_STATUS.OVERFLOW, Fld.SC_STATUS.RANGE_BUSY,
      Fld.SC_VICTIM_HIT, Fld.SYS_BUS_ADDR.OFFSET, Fld.SYS_BUS_STATUS.ERR, Fld.SYS_BUS_STATUS.IFACE, Fld.SYS_BUS_STATUS.REASON]
  | .scInvalidateWays => some [Fld.SC_HIT, Fld.SC_MISS, Fld.SC_OWN_RETRY, Fld.SC_PF_ISSUED, Fld.SC_PF_USED, Fld.SC_RANGE_DISPLACED.LINES,
      Fld.SC_RANGE_STATUS.BUSY, Fld.SC_RANGE_STATUS.DONE, Fld.SC_RANGE_STATUS.ERR_CODE, Fld.SC_RANGE_STATUS.OVERFLOW, Fld.SC_STATUS.RANGE_BUSY,
      Fld.SC_VICTIM_HIT, Fld.SYS_BUS_ADDR.OFFSET, Fld.SYS_BUS_STATUS.ERR, Fld.SYS_BUS_STATUS.IFACE, Fld.SYS_BUS_STATUS.REASON]
  | .scRangeDone => some [Fld.SC_RANGE_DISPLACED.LINES, Fld.SC_RANGE_STATUS.BUSY, Fld.SC_RANGE_STATUS.DONE, Fld.SC_RANGE_STATUS.OVERFLOW,
      Fld.SC_STATUS.RANGE_BUSY]
  | .scMaintDone => some [Fld.SC_STATUS.MAINT_BUSY]
  | .scLockWrite _ => some [Fld.SC_LOCK.WAYS, Fld.SC_RANGE_STATUS.ERR_CODE, Fld.SC_STATUS.LOCKED_WAYS, Fld.SC_STATUS.LOCK_REFUSED]
  | .evictPathSwitch _ => some [Fld.SC_CTRL.EVICT_PATH, Fld.SC_RANGE_STATUS.ERR_CODE]
  | .scInitDone => some [Fld.SC_HIT, Fld.SC_MISS, Fld.SC_OWN_RETRY, Fld.SC_PF_ISSUED, Fld.SC_PF_USED, Fld.SC_STATUS.INIT_DONE, Fld.SC_VICTIM_HIT]
  | .scEccError _ _ => some [Fld.SC_ECC_CORR, Fld.SC_ECC_UNCORR]
  | .dmaStart _ _ => some [Fld.CH_BYTES, Fld.CH_CMD.START, Fld.CH_CUR_DESC.ADDR, Fld.CH_MISSED_COUNT, Fld.CH_STATUS.HALT_CODE,
      Fld.CH_STATUS.MISSED, Fld.CH_STATUS.PENDING, Fld.CH_STATUS.STATE, Fld.SYS_BUS_ADDR.OFFSET, Fld.SYS_BUS_STATUS.ERR, Fld.SYS_BUS_STATUS.IFACE,
      Fld.SYS_BUS_STATUS.REASON]
  | .dmaTimer _ => some [Fld.CH_BYTES, Fld.CH_CUR_DESC.ADDR, Fld.CH_MISSED_COUNT, Fld.CH_STATUS.HALT_CODE, Fld.CH_STATUS.MISSED,
      Fld.CH_STATUS.PENDING, Fld.CH_STATUS.STATE]
  | .dmaDescFetch _ _ => some [Fld.CH_BAD_COUNT, Fld.CH_BYTES, Fld.CH_CUR_DESC.ADDR, Fld.CH_STATUS.BAD_SEEN, Fld.CH_STATUS.HALT_CODE,
      Fld.CH_STATUS.PENDING, Fld.CH_STATUS.STATE, Fld.DMA_IRQ]
  | .dmaGrant _ _ => some [Fld.CH_BYTES, Fld.DMA_BYTES]
  | .dmaReadBack _ _ => some [Fld.CH_BAD_COUNT, Fld.CH_BYTES, Fld.CH_CUR_DESC.ADDR, Fld.CH_DONE_COUNT, Fld.CH_MISSED_COUNT, Fld.CH_STATUS.BAD_SEEN,
      Fld.CH_STATUS.HALT_CODE, Fld.CH_STATUS.MISSED, Fld.CH_STATUS.PENDING, Fld.CH_STATUS.STATE, Fld.DMA_IRQ]
  | .dmaBusError _ _ _ => some [Fld.CH_BAD_COUNT, Fld.CH_BYTES, Fld.CH_CUR_DESC.ADDR, Fld.CH_STATUS.BAD_SEEN, Fld.CH_STATUS.HALT_CODE,
      Fld.CH_STATUS.PENDING, Fld.CH_STATUS.STATE, Fld.DMA_IRQ]
  | .dmaHalt _ _ => some [Fld.CH_STATUS.HALT_CODE, Fld.CH_STATUS.STATE, Fld.DMA_IRQ]
  | .dmaDisable _ _ => some [Fld.CH_BYTES, Fld.CH_CTRL.EN, Fld.CH_STATUS.DISABLED_MIDWAY, Fld.CH_STATUS.PENDING, Fld.CH_STATUS.STATE,
      Fld.SYS_BUS_ADDR.OFFSET, Fld.SYS_BUS_STATUS.ERR, Fld.SYS_BUS_STATUS.IFACE, Fld.SYS_BUS_STATUS.REASON]
  | .dmaWinEnable _ _ _ => some [Fld.SYS_BUS_ADDR.OFFSET, Fld.SYS_BUS_STATUS.ERR, Fld.SYS_BUS_STATUS.IFACE, Fld.SYS_BUS_STATUS.REASON,
      Fld.WIN_BASE.ADDR, Fld.WIN_CTRL.EN, Fld.WIN_CTRL.ERR, Fld.WIN_CTRL.READ, Fld.WIN_CTRL.SPACE, Fld.WIN_CTRL.WRITE, Fld.WIN_LIMIT.ADDR]
  | .keySetOwner => some [Fld.CIP_KEY_STATUS.DONE, Fld.CIP_KEY_STATUS.ERROR, Fld.CIP_KEY_WINDOW, Fld.CIP_STATUS.OWNER_SET]
  | .keyLoadBlob _ => some [Fld.CIP_KEY_STATUS.DONE, Fld.CIP_KEY_STATUS.ERROR, Fld.CIP_KEY_STATUS.SLOT, Fld.CIP_STATUS.TRNG_READY,
      Fld.CIP_TRNG_STATUS.POOL, Fld.CIP_TRNG_STATUS.READY, Fld.MIRROR_BYTES]
  | .keyUnload => some [Fld.CIP_KEY_STATUS.DONE, Fld.CIP_KEY_STATUS.ERROR, Fld.CIP_KEY_STATUS.SLOT, Fld.CIP_STATUS.CONTEXTS,
      Fld.HFE_COLLECT_MAX.MAX_DEPTH]
  | .keyZeroizeAll => some [Fld.CIP_KEY_STATUS.DONE, Fld.CIP_KEY_STATUS.ERROR, Fld.CIP_STATUS.CONTEXTS, Fld.CIP_STATUS.OWNER_SET,
      Fld.HFE_COLLECT_MAX.MAX_DEPTH]
  | .trngRestart => some [Fld.CIP_KEY_STATUS.DONE, Fld.CIP_KEY_STATUS.ERROR, Fld.CIP_STATUS.TRNG_READY, Fld.CIP_TRNG_STATUS.POOL,
      Fld.CIP_TRNG_STATUS.READY, Fld.CIP_TRNG_STATUS.STARTUP]
  | .tamperRelease _ _ => some [Fld.CIP_KEY_STATUS.DONE, Fld.CIP_KEY_STATUS.ERROR, Fld.CIP_STATUS.TAMPER_HOLD, Fld.CIP_TAMPER_STATUS.ACTIVE,
      Fld.EVR_CHAL, Fld.EVR_STATUS.CHAL_VALID, Fld.EVR_STATUS.LOCKOUT]
  | .tamperCfgLock _ => some [Fld.CIP_TAMPER_CFG.EXT_EN, Fld.CIP_TAMPER_CFG.EXT_POL, Fld.CIP_TAMPER_CFG.FILTER, Fld.CIP_TAMPER_CFG.LOCK]
  | .cipherMessageStart _ _ => some [Fld.CIP_STATUS.CONTEXTS, Fld.CIP_SUSPEND_COUNT]
  | .cipherMessageDone _ => some [Fld.ARR_REPAIR_COUNT, Fld.ARR_STATE.LOST_OVERFLOW, Fld.CIP_AUTH_FAIL_COUNT, Fld.CIP_DEC_SECTORS,
      Fld.CIP_ENC_SECTORS, Fld.HFE_COLLECT_MAX.MAX_DEPTH, Fld.HFE_DWE_STATUS.ENTRIES, Fld.HFE_DWE_STATUS.OVERFLOW, Fld.MIRROR_BYTES,
      Fld.PQE_SOLVE_COUNT, Fld.PQE_SRC_BYTES, Fld.RBE_LOST_COUNT.ENTRIES, Fld.RBE_LOST_COUNT.OVERFLOW, Fld.WC_STATUS.OVER_LIMIT,
      Fld.WC_STATUS.UNPROTECTED, Fld.WC_UNPROT_MS]
  | .nonceMarkAck _ => some [Fld.CIP_STATUS.NONCE_WARN, Fld.CIP_STATUS.TRNG_READY, Fld.CIP_TRNG_STATUS.POOL, Fld.CIP_TRNG_STATUS.READY,
      Fld.HFE_COLLECT_MAX.MAX_DEPTH, Fld.MIRROR_BYTES]
  | .trngStartupDone _ => some [Fld.CIP_STATUS.TRNG_FAILED, Fld.CIP_STATUS.TRNG_READY, Fld.CIP_TRNG_STATUS.FAILED, Fld.CIP_TRNG_STATUS.POOL,
      Fld.CIP_TRNG_STATUS.READY, Fld.CIP_TRNG_STATUS.STARTUP]
  | .trngBlockReady => some [Fld.CIP_STATUS.NONCE_WARN, Fld.CIP_STATUS.TRNG_READY, Fld.CIP_TRNG_STATUS.POOL, Fld.CIP_TRNG_STATUS.READY,
      Fld.HFE_COLLECT_MAX.MAX_DEPTH, Fld.MIRROR_BYTES]
  | .trngHealthFail _ => some [Fld.CIP_STATUS.TRNG_FAILED, Fld.CIP_STATUS.TRNG_READY, Fld.CIP_TRNG_APT_FAIL, Fld.CIP_TRNG_RCT_FAIL,
      Fld.CIP_TRNG_STATUS.FAILED, Fld.CIP_TRNG_STATUS.POOL, Fld.CIP_TRNG_STATUS.READY, Fld.HFE_COLLECT_MAX.MAX_DEPTH]
  | .entropyTimeout _ => some [Fld.HFE_COLLECT_MAX.MAX_DEPTH]
  | .tamperTrip _ _ => some [Fld.CIP_STATUS.CONTEXTS, Fld.CIP_STATUS.OWNER_SET, Fld.CIP_STATUS.TAMPER_HOLD, Fld.CIP_TAMPER_STATUS.ACTIVE,
      Fld.CIP_TAMPER_STATUS.IN_OFF, Fld.CIP_TAMPER_STATUS.LATCHED, Fld.HFE_COLLECT_MAX.MAX_DEPTH, Fld.PWR_STATE.BOOTING]
  | .drivePresent _ => some [Fld.LINK_STATUS.PRESENT, Fld.PORT_STATE.STATE]
  | .driveIdentified _ _ => some [Fld.CAPACITY, Fld.DRIVE_SERIAL, Fld.LINK_STATUS.DUAL_PORT, Fld.LINK_STATUS.LINK_UP, Fld.LINK_STATUS.PRESENT,
      Fld.LINK_STATUS.RATE, Fld.LINK_STATUS.WIDTH, Fld.PORT_STATE.REJECT_REASON, Fld.PORT_STATE.STATE]
  | .driveLinkLoss _ _ => some [Fld.ARR_STATE.LOST_OVERFLOW, Fld.CAPACITY, Fld.DRIVE_SERIAL, Fld.ERR_INFO.DRIVE_STATUS, Fld.ERR_INFO.KIND,
      Fld.ERR_INFO.SLOT, Fld.HFE_DWE_STATUS.ENTRIES, Fld.HFE_DWE_STATUS.OVERFLOW, Fld.LINK_STATUS.LINK_UP, Fld.LINK_STATUS.PRESENT,
      Fld.LINK_STATUS.RATE, Fld.LINK_STATUS.WIDTH, Fld.MIRROR_BYTES, Fld.OUTSTANDING.C0_SLOTS, Fld.OUTSTANDING.SLOTS, Fld.PORT_STATE.STATE,
      Fld.RBE_LOST_COUNT.ENTRIES, Fld.RBE_LOST_COUNT.OVERFLOW, Fld.RETRY_COUNT, Fld.WRITE_GATE_ABORTS]
  | .removalTimeout _ => some [Fld.ARR_STATE.LOST_OVERFLOW, Fld.HFE_DWE_STATUS.ENTRIES, Fld.HFE_DWE_STATUS.OVERFLOW, Fld.MIRROR_BYTES,
      Fld.PORT_STATE.REJECT_REASON, Fld.PORT_STATE.STATE, Fld.RBE_LOST_COUNT.ENTRIES, Fld.RBE_LOST_COUNT.OVERFLOW]
  | .spinupDelayExpiry _ => some [Fld.LINK_STATUS.PWREN, Fld.PORT_STATE.STATE]
  | .spinupPluckTimeout _ => some []
  | .spinupWaitExpiry _ => some [Fld.PORT_STATE.REJECT_REASON, Fld.PORT_STATE.STATE]
  | .memberCommandIssue _ _ => some [Fld.OUTSTANDING.C0_SLOTS, Fld.OUTSTANDING.SLOTS]
  | .memberTimeout _ _ => some [Fld.ARR_STATE.LOST_OVERFLOW, Fld.CAPACITY, Fld.DRIVE_SERIAL, Fld.ERR_INFO.DRIVE_STATUS, Fld.ERR_INFO.KIND,
      Fld.ERR_INFO.SLOT, Fld.HFE_DWE_STATUS.ENTRIES, Fld.HFE_DWE_STATUS.OVERFLOW, Fld.LINK_STATUS.LINK_UP, Fld.LINK_STATUS.PWREN,
      Fld.LINK_STATUS.RATE, Fld.LINK_STATUS.WIDTH, Fld.MIRROR_BYTES, Fld.OUTSTANDING.C0_SLOTS, Fld.OUTSTANDING.SLOTS, Fld.PORT_STATE.STATE,
      Fld.RBE_LOST_COUNT.ENTRIES, Fld.RBE_LOST_COUNT.OVERFLOW, Fld.RESET_COUNT, Fld.RETRY_COUNT, Fld.TIMEOUT_COUNT, Fld.WRITE_GATE_ABORTS]
  | .escalationStepDone _ => some [Fld.ARR_STATE.LOST_OVERFLOW, Fld.HFE_DWE_STATUS.ENTRIES, Fld.HFE_DWE_STATUS.OVERFLOW, Fld.MIRROR_BYTES,
      Fld.OUTSTANDING.C0_SLOTS, Fld.OUTSTANDING.SLOTS, Fld.PORT_STATE.STATE, Fld.RBE_LOST_COUNT.ENTRIES, Fld.RBE_LOST_COUNT.OVERFLOW,
      Fld.RETRY_COUNT]
  | .escalationStepTimeout _ => some [Fld.ARR_STATE.LOST_OVERFLOW, Fld.CAPACITY, Fld.DRIVE_SERIAL, Fld.ERR_INFO.DRIVE_STATUS, Fld.ERR_INFO.KIND,
      Fld.ERR_INFO.SLOT, Fld.HFE_DWE_STATUS.ENTRIES, Fld.HFE_DWE_STATUS.OVERFLOW, Fld.LINK_STATUS.LINK_UP, Fld.LINK_STATUS.PWREN,
      Fld.LINK_STATUS.RATE, Fld.LINK_STATUS.WIDTH, Fld.MIRROR_BYTES, Fld.OUTSTANDING.C0_SLOTS, Fld.OUTSTANDING.SLOTS, Fld.PORT_STATE.STATE,
      Fld.RBE_LOST_COUNT.ENTRIES, Fld.RBE_LOST_COUNT.OVERFLOW, Fld.RESET_COUNT, Fld.RETRY_COUNT, Fld.WRITE_GATE_ABORTS]
  | .healthPoll _ => some []
  | .portResetLink _ => some [Fld.ARR_STATE.LOST_OVERFLOW, Fld.CAPACITY, Fld.DRIVE_SERIAL, Fld.ERR_INFO.DRIVE_STATUS, Fld.ERR_INFO.KIND,
      Fld.ERR_INFO.SLOT, Fld.HFE_DWE_STATUS.ENTRIES, Fld.HFE_DWE_STATUS.OVERFLOW, Fld.LINK_STATUS.LINK_UP, Fld.LINK_STATUS.PWREN,
      Fld.LINK_STATUS.RATE, Fld.LINK_STATUS.WIDTH, Fld.MIRROR_BYTES, Fld.OUTSTANDING.C0_SLOTS, Fld.OUTSTANDING.SLOTS, Fld.PORT_CMD.CMD,
      Fld.PORT_STATE.STATE, Fld.RBE_LOST_COUNT.ENTRIES, Fld.RBE_LOST_COUNT.OVERFLOW, Fld.RESET_COUNT, Fld.RETRY_COUNT, Fld.SYS_BUS_ADDR.OFFSET,
      Fld.SYS_BUS_STATUS.ERR, Fld.SYS_BUS_STATUS.IFACE, Fld.SYS_BUS_STATUS.REASON, Fld.WRITE_GATE_ABORTS]
  | .portPowerCycle _ => some [Fld.ARR_STATE.LOST_OVERFLOW, Fld.CAPACITY, Fld.DRIVE_SERIAL, Fld.ERR_INFO.DRIVE_STATUS, Fld.ERR_INFO.KIND,
      Fld.ERR_INFO.SLOT, Fld.HFE_DWE_STATUS.ENTRIES, Fld.HFE_DWE_STATUS.OVERFLOW, Fld.LINK_STATUS.LINK_UP, Fld.LINK_STATUS.PWREN,
      Fld.LINK_STATUS.RATE, Fld.LINK_STATUS.WIDTH, Fld.MIRROR_BYTES, Fld.OUTSTANDING.C0_SLOTS, Fld.OUTSTANDING.SLOTS, Fld.PORT_CMD.CMD,
      Fld.PORT_STATE.STATE, Fld.RBE_LOST_COUNT.ENTRIES, Fld.RBE_LOST_COUNT.OVERFLOW, Fld.RESET_COUNT, Fld.RETRY_COUNT, Fld.SYS_BUS_ADDR.OFFSET,
      Fld.SYS_BUS_STATUS.ERR, Fld.SYS_BUS_STATUS.IFACE, Fld.SYS_BUS_STATUS.REASON, Fld.WRITE_GATE_ABORTS]
  | .portAccept _ => some [Fld.PORT_CMD.CMD, Fld.PORT_STATE.REJECT_REASON, Fld.PORT_STATE.STATE, Fld.SYS_BUS_ADDR.OFFSET, Fld.SYS_BUS_STATUS.ERR,
      Fld.SYS_BUS_STATUS.IFACE, Fld.SYS_BUS_STATUS.REASON]
  | .portRelease _ => some [Fld.CAPACITY, Fld.DRIVE_SERIAL, Fld.LINK_STATUS.LINK_UP, Fld.LINK_STATUS.PWREN, Fld.LINK_STATUS.RATE,
      Fld.LINK_STATUS.WIDTH, Fld.OUTSTANDING.C0_SLOTS, Fld.OUTSTANDING.SLOTS, Fld.PORT_CMD.CMD, Fld.PORT_STATE.STATE, Fld.SYS_BUS_ADDR.OFFSET,
      Fld.SYS_BUS_STATUS.ERR, Fld.SYS_BUS_STATUS.IFACE, Fld.SYS_BUS_STATUS.REASON]
  | .portSpinupNow _ => some [Fld.LINK_STATUS.PWREN, Fld.PORT_CMD.CMD, Fld.PORT_STATE.STATE, Fld.SYS_BUS_ADDR.OFFSET, Fld.SYS_BUS_STATUS.ERR,
      Fld.SYS_BUS_STATUS.IFACE, Fld.SYS_BUS_STATUS.REASON]
  | .capoSeenClass _ => some [Fld.ARR_STATE.LOST_OVERFLOW, Fld.CAPACITY, Fld.CAPO_STATUS.DRIVE, Fld.CAPO_STATUS.GATE_OPEN,
      Fld.CAPO_STATUS.IDLE_REASON, Fld.CAPO_STATUS.LINE_FAULT, Fld.CAPO_STATUS.ROLE, Fld.CAPO_STATUS.SEEN, Fld.DRIVE_SERIAL,
      Fld.ERR_INFO.DRIVE_STATUS, Fld.ERR_INFO.KIND, Fld.ERR_INFO.SLOT, Fld.HFE_DWE_STATUS.ENTRIES, Fld.HFE_DWE_STATUS.OVERFLOW,
      Fld.LINK_STATUS.LINK_UP, Fld.LINK_STATUS.PWREN, Fld.LINK_STATUS.RATE, Fld.LINK_STATUS.WIDTH, Fld.MIRROR_BYTES, Fld.OUTSTANDING.C0_SLOTS,
      Fld.OUTSTANDING.SLOTS, Fld.PORT_STATE.STATE, Fld.RBE_LOST_COUNT.ENTRIES, Fld.RBE_LOST_COUNT.OVERFLOW, Fld.RESET_COUNT, Fld.RETRY_COUNT,
      Fld.WRITE_GATE_ABORTS]
  | .readbackCheck _ => some [Fld.ARR_STATE.LOST_OVERFLOW, Fld.CAPACITY, Fld.CAPO_STATUS.DRIVE, Fld.CAPO_STATUS.GATE_OPEN,
      Fld.CAPO_STATUS.IDLE_REASON, Fld.CAPO_STATUS.LINE_FAULT, Fld.CAPO_STATUS.READBACK_FAULT, Fld.CAPO_STATUS.ROLE, Fld.DRIVE_SERIAL,
      Fld.ERR_INFO.DRIVE_STATUS, Fld.ERR_INFO.KIND, Fld.ERR_INFO.SLOT, Fld.HFE_DWE_STATUS.ENTRIES, Fld.HFE_DWE_STATUS.OVERFLOW,
      Fld.LINK_STATUS.LINK_UP, Fld.LINK_STATUS.PWREN, Fld.LINK_STATUS.RATE, Fld.LINK_STATUS.WIDTH, Fld.MIRROR_BYTES, Fld.OUTSTANDING.C0_SLOTS,
      Fld.OUTSTANDING.SLOTS, Fld.PORT_STATE.STATE, Fld.RBE_LOST_COUNT.ENTRIES, Fld.RBE_LOST_COUNT.OVERFLOW, Fld.RESET_COUNT, Fld.RETRY_COUNT,
      Fld.WRITE_GATE_ABORTS]
  | .gateOpen => some [Fld.CAPO_STATUS.GATE_OPEN, Fld.CAPO_STATUS.IDLE_REASON, Fld.CAPO_STATUS.ROLE, Fld.HFE_DWE_STATUS.ENTRIES,
      Fld.HFE_DWE_STATUS.OVERFLOW, Fld.HFE_STATUS.REPLAY_PENDING, Fld.MIRROR_BYTES, Fld.PAIR_EPOCH, Fld.PAIR_STATUS.MIRROR_ON,
      Fld.PAIR_STATUS.STATE_COMPLETE, Fld.WC_REPLAY.RESULT, Fld.WC_STATUS.OVER_LIMIT, Fld.WC_STATUS.UNPROTECTED, Fld.WC_UNPROT_MS]
  | .capoRenew _ => some []
  | .renewExpiry => some [Fld.ARR_STATE.LOST_OVERFLOW, Fld.CAPACITY, Fld.CAPO_STATUS.DRIVE, Fld.CAPO_STATUS.GATE_OPEN,
      Fld.CAPO_STATUS.RENEW_EXPIRED, Fld.CAPO_STATUS.ROLE, Fld.DRIVE_SERIAL, Fld.ERR_INFO.DRIVE_STATUS, Fld.ERR_INFO.KIND, Fld.ERR_INFO.SLOT,
      Fld.HFE_COLLECT_MAX.MAX_DEPTH, Fld.HFE_DWE_STATUS.ENTRIES, Fld.HFE_DWE_STATUS.OVERFLOW, Fld.LINK_STATUS.LINK_UP, Fld.LINK_STATUS.PWREN,
      Fld.LINK_STATUS.RATE, Fld.LINK_STATUS.WIDTH, Fld.MIRROR_BYTES, Fld.OUTSTANDING.C0_SLOTS, Fld.OUTSTANDING.SLOTS, Fld.PAIR_STATUS.MIRROR_ON,
      Fld.PAIR_STATUS.SYNCING, Fld.PORT_STATE.STATE, Fld.RBE_LOST_COUNT.ENTRIES, Fld.RBE_LOST_COUNT.OVERFLOW, Fld.RESET_COUNT, Fld.RETRY_COUNT,
      Fld.WC_STATUS.MIRROR_ON, Fld.WRITE_GATE_ABORTS]
  | .contentionTimeout => some [Fld.ARR_STATE.LOST_OVERFLOW, Fld.CAPACITY, Fld.CAPO_STATUS.DRIVE, Fld.CAPO_STATUS.GATE_OPEN, Fld.CAPO_STATUS.ROLE,
      Fld.DRIVE_SERIAL, Fld.ERR_INFO.DRIVE_STATUS, Fld.ERR_INFO.KIND, Fld.ERR_INFO.SLOT, Fld.HFE_DWE_STATUS.ENTRIES, Fld.HFE_DWE_STATUS.OVERFLOW,
      Fld.LINK_STATUS.LINK_UP, Fld.LINK_STATUS.PWREN, Fld.LINK_STATUS.RATE, Fld.LINK_STATUS.WIDTH, Fld.MIRROR_BYTES, Fld.OUTSTANDING.C0_SLOTS,
      Fld.OUTSTANDING.SLOTS, Fld.PORT_STATE.STATE, Fld.RBE_LOST_COUNT.ENTRIES, Fld.RBE_LOST_COUNT.OVERFLOW, Fld.RESET_COUNT, Fld.RETRY_COUNT,
      Fld.WRITE_GATE_ABORTS]
  | .contentionBackoffExpiry => some [Fld.CAPO_STATUS.DRIVE, Fld.CAPO_STATUS.IDLE_REASON, Fld.CAPO_STATUS.ROLE]
  | .capoClaim => some [Fld.CAPO_STATUS.DRIVE, Fld.CAPO_STATUS.IDLE_REASON, Fld.CAPO_STATUS.ROLE, Fld.SYS_BUS_ADDR.OFFSET, Fld.SYS_BUS_STATUS.ERR,
      Fld.SYS_BUS_STATUS.IFACE, Fld.SYS_BUS_STATUS.REASON]
  | .capoRelease => some [Fld.ARR_STATE.LOST_OVERFLOW, Fld.CAPACITY, Fld.CAPO_STATUS.DRIVE, Fld.CAPO_STATUS.GATE_OPEN, Fld.CAPO_STATUS.ROLE,
      Fld.DRIVE_SERIAL, Fld.ERR_INFO.DRIVE_STATUS, Fld.ERR_INFO.KIND, Fld.ERR_INFO.SLOT, Fld.HFE_COLLECT_MAX.MAX_DEPTH, Fld.HFE_DWE_STATUS.ENTRIES,
      Fld.HFE_DWE_STATUS.OVERFLOW, Fld.LINK_STATUS.LINK_UP, Fld.LINK_STATUS.PWREN, Fld.LINK_STATUS.RATE, Fld.LINK_STATUS.WIDTH, Fld.MIRROR_BYTES,
      Fld.OUTSTANDING.C0_SLOTS, Fld.OUTSTANDING.SLOTS, Fld.PAIR_STATUS.MIRROR_ON, Fld.PAIR_STATUS.SYNCING, Fld.PORT_STATE.STATE,
      Fld.RBE_LOST_COUNT.ENTRIES, Fld.RBE_LOST_COUNT.OVERFLOW, Fld.RESET_COUNT, Fld.RETRY_COUNT, Fld.SYS_BUS_ADDR.OFFSET, Fld.SYS_BUS_STATUS.ERR,
      Fld.SYS_BUS_STATUS.IFACE, Fld.SYS_BUS_STATUS.REASON, Fld.WC_STATUS.MIRROR_ON, Fld.WRITE_GATE_ABORTS]
  | .releaseComplete => some [Fld.CAPO_STATUS.DRIVE, Fld.CAPO_STATUS.ROLE, Fld.HFE_COLLECT_MAX.MAX_DEPTH, Fld.MIRROR_BYTES,
      Fld.PAIR_STATUS.MIRROR_ON, Fld.PAIR_STATUS.SYNCING, Fld.WC_STATUS.MIRROR_ON]
  | .capoClearFault => some [Fld.CAPO_STATUS.DRIVE, Fld.CAPO_STATUS.IDLE_REASON, Fld.CAPO_STATUS.LINE_FAULT, Fld.CAPO_STATUS.READBACK_FAULT,
      Fld.CAPO_STATUS.ROLE, Fld.SYS_BUS_ADDR.OFFSET, Fld.SYS_BUS_STATUS.ERR, Fld.SYS_BUS_STATUS.IFACE, Fld.SYS_BUS_STATUS.REASON]
  | .capoForceClaim _ => some [Fld.CAPO_STATUS.DRIVE, Fld.CAPO_STATUS.IDLE_REASON, Fld.CAPO_STATUS.ROLE, Fld.EVR_CHAL, Fld.EVR_STATUS.CHAL_VALID,
      Fld.EVR_STATUS.LOCKOUT, Fld.HFE_DWE_STATUS.ENTRIES, Fld.HFE_DWE_STATUS.OVERFLOW, Fld.MIRROR_BYTES, Fld.PAIR_EPOCH, Fld.SYS_BUS_ADDR.OFFSET,
      Fld.SYS_BUS_STATUS.ERR, Fld.SYS_BUS_STATUS.IFACE, Fld.SYS_BUS_STATUS.REASON]
  | .selftestNow _ => some [Fld.CAPO_STATUS.IDLE_REASON, Fld.SELFTEST_STATUS.CRITICAL, Fld.SELFTEST_STATUS.CYCLES, Fld.SELFTEST_STATUS.FAIL,
      Fld.SYS_BUS_ADDR.OFFSET, Fld.SYS_BUS_STATUS.ERR, Fld.SYS_BUS_STATUS.IFACE, Fld.SYS_BUS_STATUS.REASON]
  | .selftestCycle _ => some [Fld.CAPO_STATUS.IDLE_REASON, Fld.SELFTEST_STATUS.CRITICAL, Fld.SELFTEST_STATUS.CYCLES, Fld.SELFTEST_STATUS.FAIL]
  | .healthWordSend => some []
  | .healthWordReceive _ => some [Fld.ARR_STATE.LOST_OVERFLOW, Fld.CAPACITY, Fld.CAPO_STATUS.DRIVE, Fld.CAPO_STATUS.GATE_OPEN,
      Fld.CAPO_STATUS.IDLE_REASON, Fld.CAPO_STATUS.LINE_FAULT, Fld.CAPO_STATUS.ROLE, Fld.DRIVE_SERIAL, Fld.ERR_INFO.DRIVE_STATUS,
      Fld.ERR_INFO.KIND, Fld.ERR_INFO.SLOT, Fld.HFE_DWE_STATUS.ENTRIES, Fld.HFE_DWE_STATUS.OVERFLOW, Fld.LINK_STATUS.LINK_UP,
      Fld.LINK_STATUS.PWREN, Fld.LINK_STATUS.RATE, Fld.LINK_STATUS.WIDTH, Fld.MIRROR_BYTES, Fld.OUTSTANDING.C0_SLOTS, Fld.OUTSTANDING.SLOTS,
      Fld.PAIR_EPOCH, Fld.PAIR_STATUS.MIRROR_ON, Fld.PAIR_STATUS.STATE_COMPLETE, Fld.PAIR_STATUS.SYNCING, Fld.PARTNER_HEALTH, Fld.PORT_STATE.STATE,
      Fld.RBE_LOST_COUNT.ENTRIES, Fld.RBE_LOST_COUNT.OVERFLOW, Fld.RESET_COUNT, Fld.RETRY_COUNT, Fld.WC_LIMIT.MIB, Fld.WC_LIMIT_CFG.MIB,
      Fld.WC_LIMIT_ENERGY.MIB, Fld.WC_LIMIT_VAULT.MIB, Fld.WC_STATUS.AREA_READY, Fld.WC_STATUS.OVER_LIMIT, Fld.WC_STATUS.UNPROTECTED,
      Fld.WC_STATUS.WRITE_THROUGH, Fld.WC_UNPROT_MS, Fld.WRITE_GATE_ABORTS]
  | .mirrorItemReceive _ => some [Fld.ARR_STATE.LOST_OVERFLOW, Fld.HFE_DWE_STATUS.ENTRIES, Fld.HFE_DWE_STATUS.OVERFLOW,
      Fld.HFE_STATUS.REPLAY_PENDING, Fld.MIRROR_BYTES, Fld.RBE_LOST_COUNT.ENTRIES, Fld.RBE_LOST_COUNT.OVERFLOW, Fld.VLT_AREA.STATE]
  | .mirrorDigestCheck _ => some [Fld.ARR_STATE.LOST_OVERFLOW, Fld.HFE_DWE_STATUS.ENTRIES, Fld.HFE_DWE_STATUS.OVERFLOW, Fld.MIRROR_BYTES,
      Fld.MIRROR_MISMATCH, Fld.RBE_LOST_COUNT.ENTRIES, Fld.RBE_LOST_COUNT.OVERFLOW]
  | .mirrorSyncComplete => some [Fld.MIRROR_BYTES, Fld.PAIR_EPOCH, Fld.PAIR_STATUS.MIRROR_ON, Fld.PAIR_STATUS.SYNCING, Fld.WC_LIMIT.MIB,
      Fld.WC_LIMIT_CFG.MIB, Fld.WC_LIMIT_ENERGY.MIB, Fld.WC_LIMIT_VAULT.MIB, Fld.WC_STATUS.AREA_READY, Fld.WC_STATUS.MIRROR_LOST,
      Fld.WC_STATUS.MIRROR_ON, Fld.WC_STATUS.OVER_LIMIT, Fld.WC_STATUS.UNPROTECTED, Fld.WC_STATUS.WRITE_THROUGH, Fld.WC_UNPROT_MS]
  | .standbyMirrorSilence => some [Fld.PAIR_STATUS.MIRROR_ON, Fld.PAIR_STATUS.STATE_COMPLETE]
  | .pairRoleChoice _ => some [Fld.CAPO_STATUS.DRIVE, Fld.CAPO_STATUS.IDLE_REASON, Fld.CAPO_STATUS.ROLE, Fld.HFE_STATUS.REPLAY_PENDING,
      Fld.PAIR_STATUS.LINK_UP, Fld.PAIR_STATUS.PARTNER_MATCH, Fld.VLT_AREA.STATE]
  | .startupWaitExpiry => some [Fld.CAPO_STATUS.DRIVE, Fld.CAPO_STATUS.IDLE_REASON, Fld.CAPO_STATUS.ROLE, Fld.HFE_STATUS.REPLAY_PENDING,
      Fld.VLT_AREA.STATE]
  | .takeover => some [Fld.CAPO_STATUS.DRIVE, Fld.CAPO_STATUS.IDLE_REASON, Fld.CAPO_STATUS.ROLE]
  | .writeFenceEnd => some [Fld.HFE_STATUS.REPLAY_PENDING, Fld.LAST_TAKEOVER_US, Fld.PAIR_EPOCH, Fld.TAKEOVER_COUNT, Fld.WC_STATUS.OVER_LIMIT,
      Fld.WC_STATUS.UNPROTECTED, Fld.WC_UNPROT_MS]
  | .helloReceive _ _ => some [Fld.FED_LINK.NEIGHBOR, Fld.FED_LINK.STATE, Fld.FED_LINK.UP, Fld.FED_REFUSED, Fld.FED_STATUS.REFUSE_REASON,
      Fld.PIT_STATUS.IS_GM, Fld.PIT_STATUS.SYNCED]
  | .helloRetry => some []
  | .memberLeaveTimeout _ => some []
  | .gmAnnounce => some [Fld.PIT_GM.CLASS]
  | .gmElection _ => some [Fld.PIT_GM.CLASS, Fld.PIT_GM.DEPTH, Fld.PIT_GM.NODE, Fld.PIT_GM.PRIORITY, Fld.PIT_STATUS.HOLDOVER, Fld.PIT_STATUS.IS_GM,
      Fld.PIT_STATUS.SYNCED]
  | .syncExchange _ _ _ => some [Fld.FED_LINK.DELAY_NS, Fld.PIT_NOW, Fld.PIT_OFFSET.NS, Fld.PIT_STATUS.ACCURATE, Fld.PIT_STATUS.CLASS,
      Fld.PIT_STATUS.HOLDOVER, Fld.PIT_STATUS.SYNCED, Fld.PIT_STATUS.VALID]
  | .pitSet => some [Fld.PIT_CMD_STATUS.DONE, Fld.PIT_CMD_STATUS.ERROR, Fld.PIT_NOW, Fld.PIT_STATUS.CLASS, Fld.PIT_STATUS.VALID,
      Fld.SYS_BUS_ADDR.OFFSET, Fld.SYS_BUS_STATUS.ERR, Fld.SYS_BUS_STATUS.IFACE, Fld.SYS_BUS_STATUS.REASON]
  | .pitSetAtPps => some [Fld.PIT_CMD_STATUS.BUSY, Fld.PIT_CMD_STATUS.DONE, Fld.PIT_CMD_STATUS.ERROR, Fld.SYS_BUS_ADDR.OFFSET,
      Fld.SYS_BUS_STATUS.ERR, Fld.SYS_BUS_STATUS.IFACE, Fld.SYS_BUS_STATUS.REASON]
  | .pitSetUtc => some [Fld.PIT_CMD_STATUS.DONE, Fld.PIT_CMD_STATUS.ERROR, Fld.PIT_UTC.OFFSET, Fld.SYS_BUS_ADDR.OFFSET, Fld.SYS_BUS_STATUS.ERR,
      Fld.SYS_BUS_STATUS.IFACE, Fld.SYS_BUS_STATUS.REASON]
  | .pitResync => some [Fld.PIT_CMD_STATUS.DONE, Fld.PIT_CMD_STATUS.ERROR, Fld.SYS_BUS_ADDR.OFFSET, Fld.SYS_BUS_STATUS.ERR,
      Fld.SYS_BUS_STATUS.IFACE, Fld.SYS_BUS_STATUS.REASON]
  | .ppsInEdge => some [Fld.PIT_CMD_STATUS.BUSY, Fld.PIT_CMD_STATUS.DONE, Fld.PIT_CMD_STATUS.ERROR, Fld.PIT_GM.CLASS, Fld.PIT_GM.DEPTH,
      Fld.PIT_GM.NODE, Fld.PIT_GM.PRIORITY, Fld.PIT_NOW, Fld.PIT_STATUS.CLASS, Fld.PIT_STATUS.HOLDOVER, Fld.PIT_STATUS.IS_GM,
      Fld.PIT_STATUS.PPS_PRESENT, Fld.PIT_STATUS.SYNCED, Fld.PIT_STATUS.VALID]
  | .ppsInLoss => some [Fld.PIT_CMD_STATUS.BUSY, Fld.PIT_CMD_STATUS.DONE, Fld.PIT_CMD_STATUS.ERROR, Fld.PIT_GM.CLASS, Fld.PIT_GM.DEPTH,
      Fld.PIT_GM.NODE, Fld.PIT_GM.PRIORITY, Fld.PIT_STATUS.CLASS, Fld.PIT_STATUS.HOLDOVER, Fld.PIT_STATUS.IS_GM, Fld.PIT_STATUS.PPS_PRESENT,
      Fld.PIT_STATUS.SYNCED]
  | .ppsOutSecond => some []
  | .pluckWrite => some [Fld.PLUCK_STATUS.DONE, Fld.PLUCK_STATUS.ERROR, Fld.SYS_BUS_ADDR.OFFSET, Fld.SYS_BUS_STATUS.ERR, Fld.SYS_BUS_STATUS.IFACE,
      Fld.SYS_BUS_STATUS.REASON]
  | .pluckWriteFed => some [Fld.PLUCK_DIST.ACKED, Fld.PLUCK_DIST.COMPLETE, Fld.PLUCK_DIST.FULL, Fld.PLUCK_DIST.LATE, Fld.PLUCK_STATUS.DONE,
      Fld.PLUCK_STATUS.ERROR, Fld.SYS_BUS_ADDR.OFFSET, Fld.SYS_BUS_STATUS.ERR, Fld.SYS_BUS_STATUS.IFACE, Fld.SYS_BUS_STATUS.REASON]
  | .pluckCancel => some [Fld.PLUCK_STATUS.DONE, Fld.PLUCK_STATUS.ERROR, Fld.SYS_BUS_ADDR.OFFSET, Fld.SYS_BUS_STATUS.ERR, Fld.SYS_BUS_STATUS.IFACE,
      Fld.SYS_BUS_STATUS.REASON]
  | .pluckCancelFed => some [Fld.PLUCK_STATUS.DONE, Fld.PLUCK_STATUS.ERROR, Fld.SYS_BUS_ADDR.OFFSET, Fld.SYS_BUS_STATUS.ERR,
      Fld.SYS_BUS_STATUS.IFACE, Fld.SYS_BUS_STATUS.REASON]
  | .pluckReceive _ => some [Fld.CAL_STATUS.FACTORY_VALID, Fld.CAL_STATUS.PREVIOUS_VALID, Fld.CAL_STATUS.USER_VALID, Fld.CH_BYTES,
      Fld.CH_CUR_DESC.ADDR, Fld.CH_MISSED_COUNT, Fld.CH_STATUS.HALT_CODE, Fld.CH_STATUS.MISSED, Fld.CH_STATUS.PENDING, Fld.CH_STATUS.STATE,
      Fld.FAN_GLOBAL.FAULTED, Fld.FAN_GLOBAL.PROFILE, Fld.FAN_GLOBAL.RUNNING, Fld.FAN_RUN_S, Fld.FAN_STATUS.ATTEMPT, Fld.FAN_STATUS.FAULT_CAUSE,
      Fld.FAN_STATUS.SHIFTING, Fld.FAN_STATUS.STATE, Fld.FAN_TARGET.RPM, Fld.LINK_STATUS.PWREN, Fld.PLUCK_DROP_COUNT, Fld.PLUCK_LATE_COUNT,
      Fld.PORT_STATE.STATE, Fld.PWR_STATE.STATE, Fld.PWR_STATE.TARGET]
  | .pluckAnswerReceive _ => some [Fld.PLUCK_DIST.ACKED, Fld.PLUCK_DIST.COMPLETE, Fld.PLUCK_DIST.FULL, Fld.PLUCK_DIST.LATE]
  | .pluckDistTimeout => some [Fld.PLUCK_DIST.COMPLETE]
  | .pluckCancelReceive _ _ => some []
  | .pluckFire _ => some [Fld.CAL_STATUS.FACTORY_VALID, Fld.CAL_STATUS.PREVIOUS_VALID, Fld.CAL_STATUS.USER_VALID, Fld.CH_BYTES,
      Fld.CH_CUR_DESC.ADDR, Fld.CH_MISSED_COUNT, Fld.CH_STATUS.HALT_CODE, Fld.CH_STATUS.MISSED, Fld.CH_STATUS.PENDING, Fld.CH_STATUS.STATE,
      Fld.FAN_GLOBAL.FAULTED, Fld.FAN_GLOBAL.PROFILE, Fld.FAN_GLOBAL.RUNNING, Fld.FAN_RUN_S, Fld.FAN_STATUS.ATTEMPT, Fld.FAN_STATUS.FAULT_CAUSE,
      Fld.FAN_STATUS.SHIFTING, Fld.FAN_STATUS.STATE, Fld.FAN_TARGET.RPM, Fld.LINK_STATUS.PWREN, Fld.PLUCK_DROP_COUNT, Fld.PLUCK_LATE_COUNT,
      Fld.PORT_STATE.STATE, Fld.PWR_STATE.STATE, Fld.PWR_STATE.TARGET]
  | .pluckEarlyWake _ => some [Fld.PWR_STATE.STATE, Fld.PWR_STATE.TARGET]
  | .writeBarrierDone _ => some []
  | .gaugeEnergyCompute _ _ => some [Fld.NRG_AVAIL_J.J, Fld.NRG_CAP_MAH, Fld.NRG_COULOMB, Fld.NRG_CURR_MA, Fld.NRG_CYCLES.X16, Fld.NRG_E_J.E_J,
      Fld.NRG_IMPEDANCE.R_FAST, Fld.NRG_IMPEDANCE.R_SLOW, Fld.NRG_LAST_LEARN, Fld.NRG_LAST_TEST, Fld.NRG_PACK_E_J.J, Fld.NRG_RESERVE_J.J,
      Fld.NRG_SOC.PERMILLE, Fld.NRG_STATUS.LEARN_ACTIVE, Fld.NRG_STATUS.QUALIFIED_ANY, Fld.NRG_STATUS.TEST_ACTIVE, Fld.NRG_TEMP.DECI_C,
      Fld.NRG_VOLT_MV.MV, Fld.PACK_STATUS.CHARGE_PERMIT, Fld.PACK_STATUS.FAILED, Fld.PACK_STATUS.HEALTH, Fld.PACK_STATUS.LEARNING,
      Fld.PACK_STATUS.PACK_SERIAL, Fld.PACK_STATUS.QUALIFIED, Fld.PACK_STATUS.REPLACE, Fld.PACK_STATUS.TEMP_OUT, Fld.PACK_STATUS.TESTING,
      Fld.WC_STATUS.UNPROTECTED, Fld.WC_UNPROT_MS]
  | .packRemoved _ => some [Fld.NRG_AVAIL_J.J, Fld.NRG_CAP_MAH, Fld.NRG_CMD_STATUS.BUSY, Fld.NRG_CMD_STATUS.DONE, Fld.NRG_CYCLES.X16,
      Fld.NRG_E_J.E_J, Fld.NRG_IMPEDANCE.R_FAST, Fld.NRG_IMPEDANCE.R_SLOW, Fld.NRG_LAST_LEARN, Fld.NRG_LAST_TEST, Fld.NRG_PACK_E_J.J,
      Fld.NRG_RESERVE_J.J, Fld.NRG_SOC.PERMILLE, Fld.NRG_STATUS.HOLDUP_EN, Fld.NRG_STATUS.LEARN_ACTIVE, Fld.NRG_STATUS.QUALIFIED_ANY,
      Fld.NRG_STATUS.TEST_ACTIVE, Fld.PACK_STATUS.CHARGE_PERMIT, Fld.PACK_STATUS.FAILED, Fld.PACK_STATUS.HEALTH, Fld.PACK_STATUS.LEARNING,
      Fld.PACK_STATUS.LEARN_RESULT, Fld.PACK_STATUS.PACK_SERIAL, Fld.PACK_STATUS.PRESENT, Fld.PACK_STATUS.QUALIFIED, Fld.PACK_STATUS.REPLACE,
      Fld.PACK_STATUS.TESTING, Fld.PACK_STATUS.TEST_RESULT, Fld.WC_LIMIT.MIB, Fld.WC_LIMIT_CFG.MIB, Fld.WC_LIMIT_ENERGY.MIB,
      Fld.WC_LIMIT_VAULT.MIB, Fld.WC_STATUS.AREA_READY, Fld.WC_STATUS.OVER_LIMIT, Fld.WC_STATUS.UNPROTECTED, Fld.WC_STATUS.WRITE_THROUGH,
      Fld.WC_UNPROT_MS]
  | .packPresent _ => some [Fld.NRG_AVAIL_J.J, Fld.NRG_CAP_MAH, Fld.NRG_COULOMB, Fld.NRG_CYCLES.X16, Fld.NRG_E_J.E_J, Fld.NRG_IMPEDANCE.R_FAST,
      Fld.NRG_IMPEDANCE.R_SLOW, Fld.NRG_LAST_LEARN, Fld.NRG_LAST_TEST, Fld.NRG_PACK_E_J.J, Fld.NRG_RESERVE_J.J, Fld.NRG_STATUS.LEARN_ACTIVE,
      Fld.NRG_STATUS.QUALIFIED_ANY, Fld.NRG_STATUS.TEST_ACTIVE, Fld.PACK_STATUS.CHARGE_PERMIT, Fld.PACK_STATUS.FAILED, Fld.PACK_STATUS.HEALTH,
      Fld.PACK_STATUS.LEARNING, Fld.PACK_STATUS.PACK_SERIAL, Fld.PACK_STATUS.PRESENT, Fld.PACK_STATUS.QUALIFIED, Fld.PACK_STATUS.REPLACE,
      Fld.PACK_STATUS.TESTING, Fld.WC_STATUS.UNPROTECTED, Fld.WC_UNPROT_MS]
  | .holdupSelftestStart _ => some [Fld.NRG_CAP_MAH, Fld.NRG_CYCLES.X16, Fld.NRG_IMPEDANCE.R_FAST, Fld.NRG_IMPEDANCE.R_SLOW, Fld.NRG_LAST_LEARN,
      Fld.NRG_LAST_TEST, Fld.NRG_STATUS.HOLDUP_EN, Fld.NRG_STATUS.LEARN_ACTIVE, Fld.NRG_STATUS.QUALIFIED_ANY, Fld.NRG_STATUS.TEST_ACTIVE,
      Fld.PACK_STATUS.CHARGE_PERMIT, Fld.PACK_STATUS.FAILED, Fld.PACK_STATUS.HEALTH, Fld.PACK_STATUS.LEARNING, Fld.PACK_STATUS.PACK_SERIAL,
      Fld.PACK_STATUS.QUALIFIED, Fld.PACK_STATUS.REPLACE, Fld.PACK_STATUS.TESTING]
  | .holdupSelftestStep _ _ => some [Fld.NRG_AVAIL_J.J, Fld.NRG_CAP_MAH, Fld.NRG_CMD_STATUS.BUSY, Fld.NRG_CMD_STATUS.DONE, Fld.NRG_CYCLES.X16,
      Fld.NRG_E_J.E_J, Fld.NRG_IMPEDANCE.R_FAST, Fld.NRG_IMPEDANCE.R_SLOW, Fld.NRG_LAST_LEARN, Fld.NRG_LAST_TEST, Fld.NRG_PACK_E_J.J,
      Fld.NRG_RESERVE_J.J, Fld.NRG_SOC.PERMILLE, Fld.NRG_STATUS.HOLDUP_EN, Fld.NRG_STATUS.LEARN_ACTIVE, Fld.NRG_STATUS.QUALIFIED_ANY,
      Fld.NRG_STATUS.TEST_ACTIVE, Fld.PACK_STATUS.CHARGE_PERMIT, Fld.PACK_STATUS.FAILED, Fld.PACK_STATUS.HEALTH, Fld.PACK_STATUS.LEARNING,
      Fld.PACK_STATUS.PACK_SERIAL, Fld.PACK_STATUS.QUALIFIED, Fld.PACK_STATUS.REPLACE, Fld.PACK_STATUS.TESTING, Fld.PACK_STATUS.TEST_RESULT,
      Fld.WC_STATUS.UNPROTECTED, Fld.WC_UNPROT_MS]
  | .holdupRetestTimer _ => some []
  | .holdupTestAgeExpiry _ => some []
  | .holdupStartupTest => some []
  | .learnStart _ => some [Fld.NRG_CAP_MAH, Fld.NRG_CYCLES.X16, Fld.NRG_IMPEDANCE.R_FAST, Fld.NRG_IMPEDANCE.R_SLOW, Fld.NRG_LAST_LEARN,
      Fld.NRG_LAST_TEST, Fld.NRG_STATUS.LEARN_ACTIVE, Fld.NRG_STATUS.QUALIFIED_ANY, Fld.NRG_STATUS.TEST_ACTIVE, Fld.PACK_STATUS.CHARGE_PERMIT,
      Fld.PACK_STATUS.FAILED, Fld.PACK_STATUS.HEALTH, Fld.PACK_STATUS.LEARNING, Fld.PACK_STATUS.PACK_SERIAL, Fld.PACK_STATUS.QUALIFIED,
      Fld.PACK_STATUS.REPLACE, Fld.PACK_STATUS.TESTING]
  | .learnDischargeEnd _ => some []
  | .learnRestEnd _ => some [Fld.NRG_AVAIL_J.J, Fld.NRG_CAP_MAH, Fld.NRG_CYCLES.X16, Fld.NRG_E_J.E_J, Fld.NRG_IMPEDANCE.R_FAST,
      Fld.NRG_IMPEDANCE.R_SLOW, Fld.NRG_LAST_LEARN, Fld.NRG_LAST_TEST, Fld.NRG_PACK_E_J.J, Fld.NRG_RESERVE_J.J, Fld.NRG_SOC.PERMILLE,
      Fld.NRG_STATUS.LEARN_ACTIVE, Fld.NRG_STATUS.QUALIFIED_ANY, Fld.NRG_STATUS.TEST_ACTIVE, Fld.PACK_STATUS.CHARGE_PERMIT, Fld.PACK_STATUS.FAILED,
      Fld.PACK_STATUS.HEALTH, Fld.PACK_STATUS.LEARNING, Fld.PACK_STATUS.LEARN_RESULT, Fld.PACK_STATUS.PACK_SERIAL, Fld.PACK_STATUS.QUALIFIED,
      Fld.PACK_STATUS.REPLACE, Fld.PACK_STATUS.TESTING, Fld.WC_STATUS.UNPROTECTED, Fld.WC_UNPROT_MS]
  | .learnDisqualify _ _ => some [Fld.NRG_CAP_MAH, Fld.NRG_CYCLES.X16, Fld.NRG_IMPEDANCE.R_FAST, Fld.NRG_IMPEDANCE.R_SLOW, Fld.NRG_LAST_LEARN,
      Fld.NRG_LAST_TEST, Fld.NRG_STATUS.LEARN_ACTIVE, Fld.NRG_STATUS.QUALIFIED_ANY, Fld.NRG_STATUS.TEST_ACTIVE, Fld.PACK_STATUS.CHARGE_PERMIT,
      Fld.PACK_STATUS.FAILED, Fld.PACK_STATUS.HEALTH, Fld.PACK_STATUS.LEARNING, Fld.PACK_STATUS.LEARN_RESULT, Fld.PACK_STATUS.PACK_SERIAL,
      Fld.PACK_STATUS.QUALIFIED, Fld.PACK_STATUS.REPLACE, Fld.PACK_STATUS.TESTING]
  | .learnRetry _ => some [Fld.NRG_CAP_MAH, Fld.NRG_CYCLES.X16, Fld.NRG_IMPEDANCE.R_FAST, Fld.NRG_IMPEDANCE.R_SLOW, Fld.NRG_LAST_LEARN,
      Fld.NRG_LAST_TEST, Fld.NRG_STATUS.LEARN_ACTIVE, Fld.NRG_STATUS.QUALIFIED_ANY, Fld.NRG_STATUS.TEST_ACTIVE, Fld.PACK_STATUS.CHARGE_PERMIT,
      Fld.PACK_STATUS.FAILED, Fld.PACK_STATUS.HEALTH, Fld.PACK_STATUS.LEARNING, Fld.PACK_STATUS.PACK_SERIAL, Fld.PACK_STATUS.QUALIFIED,
      Fld.PACK_STATUS.REPLACE, Fld.PACK_STATUS.TESTING]
  | .gaugeBlockWrite _ => some [Fld.CAL_STATUS.FACTORY_VALID, Fld.CAL_STATUS.PREVIOUS_VALID, Fld.CAL_STATUS.USER_VALID]
  | .nrgTest _ => some [Fld.NRG_CMD_STATUS.BUSY, Fld.NRG_CMD_STATUS.DONE, Fld.NRG_CMD_STATUS.ERROR, Fld.SYS_BUS_ADDR.OFFSET,
      Fld.SYS_BUS_STATUS.ERR, Fld.SYS_BUS_STATUS.IFACE, Fld.SYS_BUS_STATUS.REASON]
  | .nrgLearn _ => some [Fld.NRG_CAP_MAH, Fld.NRG_CMD_STATUS.DONE, Fld.NRG_CMD_STATUS.ERROR, Fld.NRG_CYCLES.X16, Fld.NRG_IMPEDANCE.R_FAST,
      Fld.NRG_IMPEDANCE.R_SLOW, Fld.NRG_LAST_LEARN, Fld.NRG_LAST_TEST, Fld.NRG_STATUS.LEARN_ACTIVE, Fld.NRG_STATUS.QUALIFIED_ANY,
      Fld.NRG_STATUS.TEST_ACTIVE, Fld.PACK_STATUS.CHARGE_PERMIT, Fld.PACK_STATUS.FAILED, Fld.PACK_STATUS.HEALTH, Fld.PACK_STATUS.LEARNING,
      Fld.PACK_STATUS.PACK_SERIAL, Fld.PACK_STATUS.QUALIFIED, Fld.PACK_STATUS.REPLACE, Fld.PACK_STATUS.TESTING, Fld.SYS_BUS_ADDR.OFFSET,
      Fld.SYS_BUS_STATUS.ERR, Fld.SYS_BUS_STATUS.IFACE, Fld.SYS_BUS_STATUS.REASON]
  | .learnAbort _ => some [Fld.NRG_CAP_MAH, Fld.NRG_CMD_STATUS.DONE, Fld.NRG_CMD_STATUS.ERROR, Fld.NRG_CYCLES.X16, Fld.NRG_IMPEDANCE.R_FAST,
      Fld.NRG_IMPEDANCE.R_SLOW, Fld.NRG_LAST_LEARN, Fld.NRG_LAST_TEST, Fld.NRG_STATUS.LEARN_ACTIVE, Fld.NRG_STATUS.QUALIFIED_ANY,
      Fld.NRG_STATUS.TEST_ACTIVE, Fld.PACK_STATUS.CHARGE_PERMIT, Fld.PACK_STATUS.FAILED, Fld.PACK_STATUS.HEALTH, Fld.PACK_STATUS.LEARNING,
      Fld.PACK_STATUS.LEARN_RESULT, Fld.PACK_STATUS.PACK_SERIAL, Fld.PACK_STATUS.QUALIFIED, Fld.PACK_STATUS.REPLACE, Fld.PACK_STATUS.TESTING,
      Fld.SYS_BUS_ADDR.OFFSET, Fld.SYS_BUS_STATUS.ERR, Fld.SYS_BUS_STATUS.IFACE, Fld.SYS_BUS_STATUS.REASON]
  | .nrgRetest _ => some [Fld.NRG_AVAIL_J.J, Fld.NRG_CAP_MAH, Fld.NRG_CMD_STATUS.BUSY, Fld.NRG_CMD_STATUS.DONE, Fld.NRG_CMD_STATUS.ERROR,
      Fld.NRG_CYCLES.X16, Fld.NRG_E_J.E_J, Fld.NRG_IMPEDANCE.R_FAST, Fld.NRG_IMPEDANCE.R_SLOW, Fld.NRG_LAST_LEARN, Fld.NRG_LAST_TEST,
      Fld.NRG_PACK_E_J.J, Fld.NRG_RESERVE_J.J, Fld.NRG_STATUS.LEARN_ACTIVE, Fld.NRG_STATUS.QUALIFIED_ANY, Fld.NRG_STATUS.TEST_ACTIVE,
      Fld.PACK_STATUS.CHARGE_PERMIT, Fld.PACK_STATUS.FAILED, Fld.PACK_STATUS.HEALTH, Fld.PACK_STATUS.LEARNING, Fld.PACK_STATUS.PACK_SERIAL,
      Fld.PACK_STATUS.QUALIFIED, Fld.PACK_STATUS.REPLACE, Fld.PACK_STATUS.TESTING, Fld.SYS_BUS_ADDR.OFFSET, Fld.SYS_BUS_STATUS.ERR,
      Fld.SYS_BUS_STATUS.IFACE, Fld.SYS_BUS_STATUS.REASON, Fld.WC_STATUS.UNPROTECTED, Fld.WC_UNPROT_MS]
  | .nrgSamePack _ => some [Fld.NRG_AVAIL_J.J, Fld.NRG_CAP_MAH, Fld.NRG_CMD_STATUS.DONE, Fld.NRG_CMD_STATUS.ERROR, Fld.NRG_CYCLES.X16,
      Fld.NRG_E_J.E_J, Fld.NRG_IMPEDANCE.R_FAST, Fld.NRG_IMPEDANCE.R_SLOW, Fld.NRG_LAST_LEARN, Fld.NRG_LAST_TEST, Fld.NRG_PACK_E_J.J,
      Fld.NRG_RESERVE_J.J, Fld.NRG_STATUS.LEARN_ACTIVE, Fld.NRG_STATUS.QUALIFIED_ANY, Fld.NRG_STATUS.TEST_ACTIVE, Fld.PACK_STATUS.CHARGE_PERMIT,
      Fld.PACK_STATUS.FAILED, Fld.PACK_STATUS.HEALTH, Fld.PACK_STATUS.LEARNING, Fld.PACK_STATUS.PACK_SERIAL, Fld.PACK_STATUS.QUALIFIED,
      Fld.PACK_STATUS.REPLACE, Fld.PACK_STATUS.TESTING, Fld.SYS_BUS_ADDR.OFFSET, Fld.SYS_BUS_STATUS.ERR, Fld.SYS_BUS_STATUS.IFACE,
      Fld.SYS_BUS_STATUS.REASON, Fld.WC_STATUS.UNPROTECTED, Fld.WC_UNPROT_MS]
  | .vaultPatrol _ _ _ => some [Fld.VLT_RATE.MBPS, Fld.VLT_STATUS.DIRECTORY_DEGRADED, Fld.VLT_STATUS.RATE_OK, Fld.VLT_STATUS.WEAR_WARN,
      Fld.VLT_WEAR.PCT, Fld.WC_STATUS.AREA_READY]
  | .vaultPatrolNow _ _ _ => some [Fld.SYS_BUS_ADDR.OFFSET, Fld.SYS_BUS_STATUS.ERR, Fld.SYS_BUS_STATUS.IFACE, Fld.SYS_BUS_STATUS.REASON,
      Fld.VLT_CMD.CMD, Fld.VLT_RATE.MBPS, Fld.VLT_STATUS.DIRECTORY_DEGRADED, Fld.VLT_STATUS.RATE_OK, Fld.VLT_STATUS.WEAR_WARN, Fld.VLT_WEAR.PCT,
      Fld.WC_STATUS.AREA_READY]
  | .thermalStateChange => none
  | .throttleClockStep => some [Fld.THERM_STATUS.CLOCK_STEPS]
  | .avsTimeout => some [Fld.PWR_AVS.NO_ANSWER, Fld.THERM_STATUS.CLOCK_STEPS]
  | .vddFbPowerCheck _ => some [Fld.PWR_AVS.NO_ANSWER, Fld.THERM_STATUS.CLOCK_STEPS]
  | .fanListenEnd _ _ => some [Fld.FAN_GLOBAL.FAULTED, Fld.FAN_GLOBAL.RUNNING, Fld.FAN_RUN_S, Fld.FAN_SPEED.REVERSE, Fld.FAN_SPEED.RPM,
      Fld.FAN_START_COUNT, Fld.FAN_STATUS.STATE]
  | .fanBrakeDone _ _ => some [Fld.CAL_STATUS.FACTORY_VALID, Fld.CAL_STATUS.PREVIOUS_VALID, Fld.CAL_STATUS.USER_VALID, Fld.FAN_FAIL_COUNT,
      Fld.FAN_GLOBAL.FAULTED, Fld.FAN_GLOBAL.RUNNING, Fld.FAN_RUN_S, Fld.FAN_STATUS.ATTEMPT, Fld.FAN_STATUS.FAULT_CAUSE, Fld.FAN_STATUS.SHIFTING,
      Fld.FAN_STATUS.STATE, Fld.FAN_TARGET.RPM]
  | .fanWaitRecheck _ _ => some [Fld.FAN_SPEED.REVERSE, Fld.FAN_SPEED.RPM, Fld.FAN_STATUS.STATE]
  | .fanRampEnd _ _ _ _ => some [Fld.CAL_STATUS.FACTORY_VALID, Fld.CAL_STATUS.PREVIOUS_VALID, Fld.CAL_STATUS.USER_VALID, Fld.FAN_GLOBAL.FAULTED,
      Fld.FAN_GLOBAL.RUNNING, Fld.FAN_RUN_S, Fld.FAN_SHIFT_COUNT, Fld.FAN_SKIP_COUNT, Fld.FAN_SPEED.REVERSE, Fld.FAN_SPEED.RPM,
      Fld.FAN_START_COUNT, Fld.FAN_STATUS.ATTEMPT, Fld.FAN_STATUS.SHIFTING, Fld.FAN_STATUS.STATE]
  | .fanAttemptFail _ => some [Fld.CAL_STATUS.FACTORY_VALID, Fld.CAL_STATUS.PREVIOUS_VALID, Fld.CAL_STATUS.USER_VALID, Fld.FAN_FAIL_COUNT,
      Fld.FAN_GLOBAL.FAULTED, Fld.FAN_GLOBAL.RUNNING, Fld.FAN_RUN_S, Fld.FAN_STATUS.ATTEMPT, Fld.FAN_STATUS.FAULT_CAUSE, Fld.FAN_STATUS.SHIFTING,
      Fld.FAN_STATUS.STATE, Fld.FAN_TARGET.RPM]
  | .fanRetryTimer _ => some [Fld.CAL_STATUS.FACTORY_VALID, Fld.CAL_STATUS.PREVIOUS_VALID, Fld.CAL_STATUS.USER_VALID, Fld.FAN_STATUS.ATTEMPT,
      Fld.FAN_STATUS.FAULT_CAUSE, Fld.FAN_STATUS.SHIFTING, Fld.FAN_STATUS.STATE]
  | .fanOvercurrent _ => some [Fld.CAL_STATUS.FACTORY_VALID, Fld.CAL_STATUS.PREVIOUS_VALID, Fld.CAL_STATUS.USER_VALID, Fld.FAN_GLOBAL.FAULTED,
      Fld.FAN_GLOBAL.RUNNING, Fld.FAN_RUN_S, Fld.FAN_SHIFT_COUNT, Fld.FAN_SKIP_COUNT, Fld.FAN_STATUS.ATTEMPT, Fld.FAN_STATUS.FAULT_CAUSE,
      Fld.FAN_STATUS.OVERCURRENT, Fld.FAN_STATUS.SHIFTING, Fld.FAN_STATUS.STATE, Fld.FAN_TARGET.RPM]
  | .fanStall _ => some [Fld.CAL_STATUS.FACTORY_VALID, Fld.CAL_STATUS.PREVIOUS_VALID, Fld.CAL_STATUS.USER_VALID, Fld.FAN_GLOBAL.FAULTED,
      Fld.FAN_GLOBAL.RUNNING, Fld.FAN_RUN_S, Fld.FAN_SHIFT_COUNT, Fld.FAN_SKIP_COUNT, Fld.FAN_STATUS.ATTEMPT, Fld.FAN_STATUS.FAULT_CAUSE,
      Fld.FAN_STATUS.SHIFTING, Fld.FAN_STATUS.STALL, Fld.FAN_STATUS.STATE]
  | .fanClassChange _ _ _ => some [Fld.CAL_STATUS.FACTORY_VALID, Fld.CAL_STATUS.PREVIOUS_VALID, Fld.CAL_STATUS.USER_VALID, Fld.FAN_SHIFT_COUNT,
      Fld.FAN_SKIP_COUNT, Fld.FAN_SPEED.REVERSE, Fld.FAN_SPEED.RPM, Fld.FAN_STATUS.SHIFTING, Fld.FAN_STATUS.STATE]
  | .fanPinLoss _ => some [Fld.CAL_STATUS.FACTORY_VALID, Fld.CAL_STATUS.PREVIOUS_VALID, Fld.CAL_STATUS.USER_VALID, Fld.FAN_GLOBAL.FAULTED,
      Fld.FAN_GLOBAL.RUNNING, Fld.FAN_PIN.VALID, Fld.FAN_RUN_S, Fld.FAN_STATUS.ATTEMPT, Fld.FAN_STATUS.FAULT_CAUSE, Fld.FAN_STATUS.SHIFTING,
      Fld.FAN_STATUS.STATE, Fld.FAN_TARGET.RPM, Fld.THERM_STATUS.PIN_LOSS]
  | .fanPinValid _ _ => some [Fld.CAL_STATUS.FACTORY_VALID, Fld.CAL_STATUS.PREVIOUS_VALID, Fld.CAL_STATUS.USER_VALID, Fld.FAN_GLOBAL.FAULTED,
      Fld.FAN_GLOBAL.RUNNING, Fld.FAN_PIN.DUTY, Fld.FAN_PIN.VALID, Fld.FAN_RUN_S, Fld.FAN_STATUS.ATTEMPT, Fld.FAN_STATUS.FAULT_CAUSE,
      Fld.FAN_STATUS.SHIFTING, Fld.FAN_STATUS.STATE, Fld.FAN_TARGET.RPM, Fld.THERM_STATUS.PIN_LOSS]
  | .fanClearFault _ => some [Fld.CAL_STATUS.FACTORY_VALID, Fld.CAL_STATUS.PREVIOUS_VALID, Fld.CAL_STATUS.USER_VALID, Fld.FAN_CMD.CMD,
      Fld.FAN_GLOBAL.FAULTED, Fld.FAN_GLOBAL.RUNNING, Fld.FAN_RUN_S, Fld.FAN_STATUS.ATTEMPT, Fld.FAN_STATUS.FAULT_CAUSE, Fld.FAN_STATUS.SHIFTING,
      Fld.FAN_STATUS.STATE, Fld.FAN_TARGET.RPM, Fld.SYS_BUS_ADDR.OFFSET, Fld.SYS_BUS_STATUS.ERR, Fld.SYS_BUS_STATUS.IFACE, Fld.SYS_BUS_STATUS.REASON]
  | .fanRestart _ => some [Fld.CAL_STATUS.FACTORY_VALID, Fld.CAL_STATUS.PREVIOUS_VALID, Fld.CAL_STATUS.USER_VALID, Fld.FAN_CMD.CMD,
      Fld.FAN_GLOBAL.FAULTED, Fld.FAN_GLOBAL.RUNNING, Fld.FAN_RUN_S, Fld.FAN_STATUS.ATTEMPT, Fld.FAN_STATUS.FAULT_CAUSE, Fld.FAN_STATUS.SHIFTING,
      Fld.FAN_STATUS.STATE, Fld.SYS_BUS_ADDR.OFFSET, Fld.SYS_BUS_STATUS.ERR, Fld.SYS_BUS_STATUS.IFACE, Fld.SYS_BUS_STATUS.REASON]
  | .fanRelearn _ => some [Fld.FAN_CMD.CMD, Fld.SYS_BUS_ADDR.OFFSET, Fld.SYS_BUS_STATUS.ERR, Fld.SYS_BUS_STATUS.IFACE, Fld.SYS_BUS_STATUS.REASON]
  | .eventRecord => some [Fld.EVR_DROP, Fld.EVR_NEXT_SEQ, Fld.EVR_OVERWRITTEN, Fld.EVR_STATUS.FULL, Fld.EVR_STATUS.NEARLY_FULL]
  | .eventFreeze _ => some [Fld.EVR_AUTH_KEY, Fld.EVR_CMD_STATUS.DONE, Fld.EVR_CMD_STATUS.ERROR, Fld.EVR_STATUS.FREEZE_OWNER, Fld.EVR_STATUS.FROZEN]
  | .eventUnfreeze _ => some [Fld.EVR_AUTH_KEY, Fld.EVR_CMD_STATUS.DONE, Fld.EVR_CMD_STATUS.ERROR, Fld.EVR_DROP, Fld.EVR_OVERWRITTEN,
      Fld.EVR_STATUS.FREEZE_OWNER, Fld.EVR_STATUS.FROZEN, Fld.EVR_STATUS.FULL, Fld.EVR_STATUS.NEARLY_FULL]
  | .freezeTimeout => some [Fld.EVR_DROP, Fld.EVR_OVERWRITTEN, Fld.EVR_STATUS.FREEZE_OWNER, Fld.EVR_STATUS.FROZEN, Fld.EVR_STATUS.FULL,
      Fld.EVR_STATUS.NEARLY_FULL]
  | .eventChallenge => some [Fld.CIP_STATUS.TRNG_READY, Fld.CIP_TRNG_STATUS.POOL, Fld.CIP_TRNG_STATUS.READY, Fld.EVR_AUTH_KEY, Fld.EVR_CHAL,
      Fld.EVR_CMD_STATUS.DONE, Fld.EVR_CMD_STATUS.ERROR, Fld.EVR_STATUS.CHAL_VALID]
  | .challengeExpiry => some [Fld.EVR_CHAL, Fld.EVR_STATUS.CHAL_VALID]
  | .lockoutEnd => some [Fld.EVR_STATUS.LOCKOUT]
  | .eventClear _ => some [Fld.EVR_AUTH_KEY, Fld.EVR_CHAL, Fld.EVR_CMD_STATUS.DONE, Fld.EVR_CMD_STATUS.ERROR, Fld.EVR_DROP, Fld.EVR_NEXT_SEQ,
      Fld.EVR_OVERWRITTEN, Fld.EVR_STATUS.CHAL_VALID, Fld.EVR_STATUS.FREEZE_OWNER, Fld.EVR_STATUS.FROZEN, Fld.EVR_STATUS.FULL,
      Fld.EVR_STATUS.LOCKOUT, Fld.EVR_STATUS.NEARLY_FULL]
  | .eventAuthSet _ => some [Fld.EVR_AUTH_KEY, Fld.EVR_CHAL, Fld.EVR_CMD_STATUS.DONE, Fld.EVR_CMD_STATUS.ERROR, Fld.EVR_STATUS.CHAL_VALID,
      Fld.EVR_STATUS.LOCKOUT]
  | .soundpostNow => some [Fld.EVR_AUTH_KEY, Fld.EVR_CMD_STATUS.DONE, Fld.EVR_CMD_STATUS.ERROR, Fld.EVR_DROP, Fld.EVR_OVERWRITTEN,
      Fld.EVR_STATUS.FREEZE_OWNER, Fld.EVR_STATUS.FROZEN, Fld.EVR_STATUS.FULL, Fld.EVR_STATUS.NEARLY_FULL, Fld.SP_LAST_SEQ]
  | .soundpostVaultCopy => some []
  | .soundpostFlashCopy => some []
  | .read32 _ => some [Fld.SYS_BUS_STATUS.ERR, Fld.SYS_BUS_STATUS.IFACE, Fld.SYS_BUS_STATUS.REASON, Fld.SYS_BUS_ADDR.OFFSET,
      Fld.LAT_C0_ISSUE_MAX.NS, Fld.LAT_C0_POST_MAX.NS, Fld.HFE_COLLECT_MAX.MAX_DEPTH, Fld.ERR_DEPTH_MAX.DEPTH]
  | .read64 _ => some [Fld.SYS_BUS_STATUS.ERR, Fld.SYS_BUS_STATUS.IFACE, Fld.SYS_BUS_STATUS.REASON, Fld.SYS_BUS_ADDR.OFFSET,
      Fld.LAT_C0_ISSUE_MAX.NS, Fld.LAT_C0_POST_MAX.NS, Fld.HFE_COLLECT_MAX.MAX_DEPTH, Fld.ERR_DEPTH_MAX.DEPTH]
  | .write32 _ _ => none
  | .lastStatus => some []
  | .readBurst _ _ => some [Fld.SYS_BUS_STATUS.ERR, Fld.SYS_BUS_STATUS.IFACE, Fld.SYS_BUS_STATUS.REASON, Fld.SYS_BUS_ADDR.OFFSET,
      Fld.LAT_C0_ISSUE_MAX.NS, Fld.LAT_C0_POST_MAX.NS, Fld.HFE_COLLECT_MAX.MAX_DEPTH, Fld.ERR_DEPTH_MAX.DEPTH]
  | .recoverableError _ _ => some [Fld.ERR_DEPTH_MAX.DEPTH]
  | .handlerEnd _ _ => some [Fld.ERR_RECOVERED, Fld.HFE_COLLECT_MAX.MAX_DEPTH, Fld.HFE_DWE_STATUS.ENTRIES, Fld.HFE_DWE_STATUS.OVERFLOW,
      Fld.MIRROR_BYTES, Fld.PQE_STATUS.SLICE_ACTIVE, Fld.PQE_STATUS.SLICE_FAILED, Fld.WC_STATUS.OVER_LIMIT, Fld.WC_STATUS.UNPROTECTED,
      Fld.WC_UNPROT_MS]
  | .handlerTimeout _ => some []
  | .fatalError _ => none
  | .fatalRestart => some [Fld.PWR_AVS.STEP, Fld.PWR_STATE.BOOTING, Fld.PWR_STATE.STATE, Fld.PWR_STATE.TARGET]
  | .errRestart => some [Fld.ERR_STATUS.FATAL_HOLD, Fld.PWR_AVS.STEP, Fld.PWR_STATE.BOOTING, Fld.PWR_STATE.STATE, Fld.PWR_STATE.TARGET,
      Fld.SYS_BUS_ADDR.OFFSET, Fld.SYS_BUS_STATUS.ERR, Fld.SYS_BUS_STATUS.IFACE, Fld.SYS_BUS_STATUS.REASON]
  | .quiescePoint => none
  | .wake => some [Fld.PWR_STATE.STATE, Fld.PWR_STATE.TARGET]
  | .exitComplete => none
  | .hostLinkL12Exit _ => some [Fld.PWR_STATE.STATE, Fld.PWR_STATE.TARGET]
  | .apstTransition _ => some [Fld.PWR_STATE.STATE, Fld.PWR_STATE.TARGET]
  | .agingWriteback => some []
  | .ageAccumulate => some [Fld.AGE_EQUIV_S, Fld.AGE_LIFE.PCT_X100, Fld.AGE_STATUS.LIFE_WARN, Fld.AGE_TJ_HIST]
  | .roMeasure _ => some [Fld.AGE_AVS_STEPS.AGING, Fld.AGE_AVS_STEPS.EXTRA_CLOCK, Fld.AGE_AVS_STEPS.TEMP, Fld.AGE_RO_SLOW.SLOW_X100,
      Fld.AGE_STATUS.MARGIN_OUT, Fld.PWR_AVS.STEP, Fld.THERM_STATUS.CLOCK_STEPS]
  | .emramRefresh => some []
  | .alwaysOnPowerUp => none
  | .powerDown => none
  | .hotReset _ => some [Fld.CH_BYTES, Fld.CH_CTRL.EN, Fld.CH_STATUS.DISABLED_MIDWAY, Fld.CH_STATUS.PENDING, Fld.CH_STATUS.STATE,
      Fld.CIP_STATUS.CONTEXTS, Fld.HFE_COLLECT_MAX.MAX_DEPTH, Fld.MAP_STATUS.LANES_BUSY, Fld.MIRROR_BYTES, Fld.WC_STATUS.OVER_LIMIT,
      Fld.WC_STATUS.UNPROTECTED, Fld.WC_UNPROT_MS, Fld.WIN_CTRL.EN]
  | .coalescingTimeExpiry _ _ => some []
  | .ppsHoldoverExpiry => some [Fld.PIT_GM.CLASS, Fld.PIT_GM.DEPTH, Fld.PIT_GM.NODE, Fld.PIT_GM.PRIORITY, Fld.PIT_STATUS.CLASS,
      Fld.PIT_STATUS.HOLDOVER, Fld.PIT_STATUS.IS_GM, Fld.PIT_STATUS.SYNCED]
  | .commitComplete _ => some [Fld.IMG_COPY.MATCHES_RUNNING, Fld.IMG_COPY.REASON, Fld.IMG_COPY.VALID, Fld.IMG_STAGE_STATUS.BUSY,
      Fld.IMG_STAGE_STATUS.ERROR, Fld.IMG_STAGE_STATUS.STATE]
  | .vaultRestoreDone => some [Fld.WC_STATUS.OVER_LIMIT, Fld.WC_STATUS.UNPROTECTED, Fld.WC_UNPROT_MS]
  | .temperatureSample _ => none

/-- Whether a command leaves every byte of HBM as it is: all but those whose part list names the stripe cache, and those of these that write
no byte. -/
def keepsHbm (i : Instr) : Bool :=
  match i with
  | .pairLoWrite _ _ _ => true
  | .pairHiWrite _ _ _ => true
  | .scReadRequest _ _ _ => true
  | .scFillReturn _ _ => true
  | .scWriteRequest _ _ _ _ => true
  | .hbmWriteAck _ => true
  | .evictionBufferExpiry _ => true
  | .ownershipRequest _ _ => true
  | .recallWriteBack _ _ => true
  | .retryReissue _ _ => true
  | .scMaintInvalidate _ => true
  | .scRangeInvalidate => true
  | .scPreload => true
  | .scInvalidateWays => true
  | .scRangeDone => true
  | .scMaintDone => true
  | .evictPathSwitch _ => true
  | .scInitDone => true
  | .scEccError _ _ => true
  | c => !(partsOf c).contains .sc

/-- Whether a command writes HBM only by dropping DMA channels, or by a reset that empties it. -/
def dropsDma (i : Instr) : Bool :=
  match i with
  | .acFailNAssert => true
  | .dumpCommit => true
  | .aonRstNAssert => true
  | .pegboxWatchdogReset => true
  | .sysRstNAssert => true
  | .activateResetDestaged => true
  | .functionReset _ _ => true
  | .perstNAssert _ => true
  | .registerWrite _ _ _ => true
  | .thermalStateChange => true
  | .write32 _ _ => true
  | .fatalError _ => true
  | .quiescePoint => true
  | .exitComplete => true
  | .powerDown => true
  | .hotReset _ => true
  | .temperatureSample _ => true
  | _ => false

end Sys2Proof.Machine
end

