-- ==== Sys2Proof/Safety.lean ====
section
/-!
DEFINITION. Safety.lean: what counts as a safe run, in the terms the statements use: a step that answers a next state, runs of such steps,
and the form that every state keeps.
-/
namespace Sys2Proof.Machine

/-- A step that goes on: neither a fault nor a refusal. -/
def State.goesOn (s : State) : Prop := ∃ t, step s = .next t

/-- The state after n steps, where each goes on. -/
def State.after (s : State) : Nat → Option State
  | 0 => some s
  | n + 1 =>
    match step s with
    | .next t => t.after n
    | _ => none

/-- A state from which n steps go on. -/
def State.safeFor (s : State) (n : Nat) : Prop := (s.after n).isSome = true

/-- That a command on a state answers a next state of which something holds. -/
def Does (c : Instr) (s : State) (P : State → Prop) : Prop := ∃ t, exec c s = .next t ∧ P t

/-- The form that every state keeps: HBM's bytes in their canonical form (see '## Memory and ordering' of the inventory). -/
def State.Inv (s : State) : Prop := memWf s.sc.hbm = true

/-- When an administration command of a function takes effect at once: its controller is open, commands may be fetched and no command that
ends later stands before it; no outstanding command has its identifier (R123); where the command is one that Safe Mode (`safe`) or a
running sanitize (`sani`) refuses, there is none. -/
abbrev State.AdminGoes (s : State) (f : FnIdx) (cid : Nat) (safe sani : Bool) : Prop :=
  s.adminOpen f = true ∧ s.fetching = true ∧ s.adminBusy f = false ∧ s.adminDup f cid = false ∧ (s.safeMode && !safe) = false ∧
  (s.hfe.sanitize.isSome && !sani) = false

/-- That a command of an admin queue has been answered: its entry is posted, or waits in the collector where the queue is full. -/
def State.Answered (s t : State) (f : FnIdx) (cid : Nat) (st : Status) (dw0 : Nat) (data : List Nat) : Prop :=
  (∃ h, t.hfe.posted = s.hfe.posted ++ [⟨f, 0, cid, st, dw0, data, h⟩]) ∨
  ∃ e, t.hfe.collector = s.hfe.collector ++ [e] ∧ e.cqe = ⟨f, 0, cid, st, dw0, data, 0⟩

/-- That a fetched I/O command has ended: its entry stands in the collector. -/
def State.Ended (s t : State) (c : HostCmd) (st : Status) (data : List Nat) : Prop :=
  ∃ e, t.hfe.collector = s.hfe.collector ++ [e] ∧ e.tag = some c.tag ∧ e.cqe = ⟨c.fn, c.sq, c.cid, st, 0, data, 0⟩

/-- When a write to a command register has its effect (R461): the domain that serves it is up and Safe Mode does not close it. -/
abbrev State.Takes (s : State) (addr : Nat) : Prop := s.servedNow addr = true ∧ (s.safeMode && fastServed addr) = false

/-- The address of the register that a command's row writes, for the commands that act only where that register is served and Safe Mode does not
close it (R6, R461); none for the others, which answer otherwise. -/
def commandRegister (c : Instr) : Option Nat :=
  match c with
  | .capoClaim | .capoRelease | .capoClearFault | .capoForceClaim _ | .selftestNow _ => some Fld.CAPO_CMD.CMD.addr
  | .dmaStart _ ch => some (Fld.CH_CMD.START.at ch.val).addr
  | .nrgTest _ | .nrgLearn _ | .learnAbort _ | .nrgRetest _ | .nrgSamePack _ => some Fld.NRG_CMD.CMD.addr
  | .vaultPatrolNow _ _ _ => some Fld.VLT_CMD.CMD.addr
  | .errRestart => some Fld.ERR_CMD.CMD.addr
  | .fanClearFault n | .fanRestart n | .fanRelearn n => some (Fld.FAN_CMD.CMD.at n.val).addr
  | .pitSet | .pitSetAtPps | .pitSetUtc | .pitResync => some Fld.PIT_CMD.CMD.addr
  | .pluckWrite | .pluckWriteFed | .pluckCancel | .pluckCancelFed => some Fld.PLUCK_CMD.CMD.addr
  | .testMappingGo => some Fld.MAP_TEST_CTRL.GO.addr
  | .portResetLink p | .portPowerCycle p | .portAccept p | .portRelease p | .portSpinupNow p => some (Fld.PORT_CMD.CMD.at p.val).addr
  | .katRun => some Fld.PQE_KAT_CMD.RUN.addr
  | .arrScrubNow a | .arrPause a | .arrResume a | .arrFailMember a _ | .arrCopyback a => some (Fld.ARR_CMD.CMD.at a.val).addr
  | .histClear => some Fld.LAT_CTRL.HIST_CLEAR.addr
  | .scMaintClean _ | .scMaintInvalidate _ | .scMaintCleanInvalidate _ => some Fld.SC_MAINT.OP.addr
  | .scRangeClean | .scRangeInvalidate | .scRangeCleanInvalidate | .scPreload | .scInvalidateWays => some Fld.SC_RANGE_CMD.OP.addr
  | .wcDestageAll | .wcClearIdle => some Fld.WC_CMD.CMD.addr
  | _ => none

/-- An address of HBM that a running DMA channel has written, as a byte of its descriptor's destination (R258). -/
def State.DmaDest (s : State) (a : Nat) : Prop :=
  ∃ n r i, tget s.dma.runs n = some r ∧ r.phase ≠ .fetch ∧ i < r.put ∧ a = r.desc.byteAddr true i

end Sys2Proof.Machine
end

