-- ==== Sys2Proof/Certificates/Slice0/Obligations.lean ====
section
/-!
DEFINITION. Certificates/Slice0/Obligations.lean: what this package states of the machine, for the provers. First the statements about every
command, memory and the mapper; then, family by family, what each command does in the states in which it takes effect: each clause says that
exec answers a next state (`Does`) and what holds of it. A log number names the model's choice that a clause rests on.
-/
open Sys2Proof Sys2Proof.Machine

/-- A step runs the command at the front of the queue on the state with the queue's rest. Rests on R467. For every command c, queue q and state
s: step of s with c at the front of q is exec of c on s with q as its queue. The queue is the model's (log 3). -/
def Obligations.StepRunsTheFrontCommand : Prop :=
  ∀ (c : Instr) (q : List Instr) (s : State), step { s with pending := c :: q } = exec c { s with pending := q }

/-- With no command waiting, a step is one tick of 8 ns (the model's choice, log 3). Rests on R335, R341. On an empty queue a step answers a
next state in which now is 8 ns later and at most the register PIT_NOW and the federation's pending slew have changed too: PIT_NOW stands
still while pitch time is not valid, and moves on by 8 modulo 2^64 when it is valid and nothing is left to slew. That an idle step is a tick
is a DESIGN CHOICE of the model (log 3). -/
def Obligations.AnEmptyQueueTicksTheClock : Prop :=
  ∀ s : State, s.pending = [] → ∃ t, step s = .next t ∧ t.now = s.now + 8 ∧ t.pending = [] ∧ Only [.now, .regs, .fed] s t ∧
    Kept [Fld.PIT_NOW] s t ∧ (s.bit Fld.PIT_STATUS.VALID = false → t.fld Fld.PIT_NOW = s.fld Fld.PIT_NOW) ∧
    (s.bit Fld.PIT_STATUS.VALID = true → s.fed.slew = 0 → t.fld Fld.PIT_NOW = (s.fld Fld.PIT_NOW + 8) % 2 ^ 64)

/-- Every command, in every state, answers a next state and leaves the queue of waiting commands. Rests on R6, R461. For every command and every
state, exec answers a next state (never a fault or a refusal), and the queue of waiting commands is as it was. A command that is not due
leaves the state (the model's choice, log 8). -/
def Obligations.EveryCommandGoesOnAndLeavesTheQueue : Prop :=
  ∀ (c : Instr) (s : State), ∃ t, exec c s = .next t ∧ t.pending = s.pending

/-- Frames: what every command leaves unchanged, part by part and register field by register field. Rests on R6, R454, R461, R467. For every
command c and state s there is a next state t in which every part of the state that partsOf c does not list is as it was and, where fieldsOf
c gives a list, every register field that is no instance of a listed one keeps its value. (fieldsOf gives none for the 17 commands that
reset registers or write a register of the operand's choosing.) The two tables are written from the rules of each command; commands not due
leave the state (log 8). -/
def Obligations.CommandsTouchTheirPartsAlone : Prop :=
  ∀ (c : Instr) (s : State), ∃ t, exec c s = .next t ∧ Only (partsOf c) s t ∧ ∀ l, fieldsOf c = some l → Kept l s t

/-- HBM bytes outside the bytes a command stores to read as before. Rests on R228, R234, R235, R253, R254, R255, R256, R258. For every command
of keepsHbm the bytes of HBM are as they were. From a state whose memory is canonical: a merge-buffer drain changes only the bytes of its
line that the entry's mask selects, to the entry's data, and a mask bit of 0 keeps the byte; the maintenance commands change bytes of the
named line alone; the range commands change bytes of lines in the range alone; a DMA grant changes only the destination bytes it moves (the
model's burst, log 28); a descriptor fetch or read-back changes only the 16 bytes of status at 0x30 of the descriptor; a bus error changes
those and the destination bytes not confirmed (free, log 28); a disable changes only destination bytes already written (old or new, R258); a
command that drops DMA channels or resets the device leaves HBM empty (log 7) or changes only destination bytes of running channels. -/
def Obligations.HbmBytesOutsideAStoreStay : Prop :=
  (∀ (c : Instr) (s : State), keepsHbm c = true → ∃ t, exec c s = .next t ∧ t.sc.hbm = s.sc.hbm) ∧
  (∀ (s : State) (line : Nat), s.Inv → ∃ t, exec (.mergeBufferDrain line) s = .next t ∧
    (∀ a, a / 128 ≠ line → memGet t.sc.hbm a = memGet s.sc.hbm a) ∧
    ∀ i, i < 128 → memGet t.sc.hbm (line * 128 + i) =
      match s.sc.entry line with
      | some e => if e.mask / 2 ^ i % 2 = 1 then BitVec.ofNat 8 (e.data / 256 ^ i % 256) else memGet s.sc.hbm (line * 128 + i)
      | none => memGet s.sc.hbm (line * 128 + i)) ∧
  (∀ (s : State) (byWay : Bool) (c : Instr), s.Inv → c = .scMaintClean byWay ∨ c = .scMaintCleanInvalidate byWay →
    ∃ t, exec c s = .next t ∧ ∀ a, a / 128 ≠ (if byWay then
      ((tget s.sc.lines (s.fld Fld.SC_MAINT_SETWAY.SET * 16 + s.fld Fld.SC_MAINT_SETWAY.WAY)).map (·.line)).getD (2 ^ 30)
      else s.fld Fld.SC_MAINT_ADDR.ADDR) → memGet t.sc.hbm a = memGet s.sc.hbm a) ∧
  (∀ (s : State) (c : Instr), s.Inv → c = .scRangeClean ∨ c = .scRangeCleanInvalidate →
    ∃ t, exec c s = .next t ∧ ∀ a, s.scInRange (a / 128) = false → memGet t.sc.hbm a = memGet s.sc.hbm a) ∧
  (∀ (s : State) (ch : ChId) (src : List Nat), s.Inv → ∃ t, exec (.dmaGrant ch src) s = .next t ∧
    ∀ a, (∀ r i, tget s.dma.runs ch.val = some r →
        i < (r.hold.length + min 4096 (r.desc.len - r.got)) / r.desc.width true * r.desc.width true →
        a ≠ r.desc.byteAddr true (r.put + i)) → memGet t.sc.hbm a = memGet s.sc.hbm a) ∧
  (∀ (s : State) (ch : ChId) (bytes : List Nat) (ok : Bool) (c : Instr), s.Inv →
    c = .dmaDescFetch ch bytes ∨ c = .dmaReadBack ch ok →
    ∃ t, exec c s = .next t ∧
      ∀ a, (∀ r, tget s.dma.runs ch.val = some r → ¬ (r.addr + 0x30 ≤ a ∧ a < r.addr + 0x40)) →
        memGet t.sc.hbm a = memGet s.sc.hbm a) ∧
  (∀ (s : State) (ch : ChId) (dest : Bool) (confirmed : Nat), s.Inv → ∃ t, exec (.dmaBusError ch dest confirmed) s = .next t ∧
    ∀ a, (∀ r, tget s.dma.runs ch.val = some r → ¬ (r.addr + 0x30 ≤ a ∧ a < r.addr + 0x40)) →
      (∀ r i, tget s.dma.runs ch.val = some r → min confirmed r.put / r.desc.width true * r.desc.width true ≤ i → i < r.put →
        a ≠ r.desc.byteAddr true i) → memGet t.sc.hbm a = memGet s.sc.hbm a) ∧
  (∀ (s : State) (iface : Iface) (ch : ChId), s.Inv → ∃ t, exec (.dmaDisable iface ch) s = .next t ∧
    ∀ a, (∀ r i, tget s.dma.runs ch.val = some r → i < r.put → a ≠ r.desc.byteAddr true i) →
      memGet t.sc.hbm a = memGet s.sc.hbm a) ∧
  (∀ (c : Instr) (s : State), s.Inv → dropsDma c = true → ∃ t, exec c s = .next t ∧
    (t.sc.hbm = [] ∨ ∀ a, ¬ s.DmaDest a → memGet t.sc.hbm a = memGet s.sc.hbm a))

/-- Every step keeps HBM's bytes in their canonical form. Rests on R228, R229. For every state s in which the list of HBM's bytes is canonical
(addresses strictly rising, no byte listed that reads as an unlisted one), if step answers a next state t then t's list is canonical. The
form is the model's (log 7). -/
def Obligations.StepKeepsCanonicalMemory : Prop :=
  ∀ s t : State, s.Inv → step s = .next t → t.Inv

/-- The state at reset is canonical: HBM lists nothing and no command waits. Rests on R228. State.reset meets the invariant, its HBM lists no
byte and its queue is empty. That HBM reads as zero where nothing has been written is the model's choice (log 7). -/
def Obligations.ResetIsCanonical : Prop :=
  State.reset.Inv ∧ State.reset.sc.hbm = [] ∧ State.reset.pending = []

/-- Every Fingering instruction decodes back from its encoding, with every operand at every value. Rests on R95, R96. For every instruction i of
the mapper's instruction set, with every register and every immediate of its width: decoding the word that encodes i gives i back. -/
def Obligations.FingeringDecodesWhatItEncodes : Prop :=
  ∀ i : FInstr, fDecode (fEncode i) = some i

/-- The conventional program maps unit u of stripe s to the member and offset of R65. Rests on R65, R105, R97, R99. For every geometry that
holds the conventional program with n = k + 2 (n below 2^63, chunks of at least one sector), every stripe s below the stripe count and every
unit u up to k + 1 whose row lies within the member: the mapping ends on member (n − 1 − s mod n + 2 + u) mod n at sector s·c. The words of
the program are the spec's (R105); the arithmetic of positions is R65. -/
def Obligations.ConventionalProgramMapsUnits : Prop :=
  ∀ (g : Geom) (s u : Nat), g.prog = conventionalProg → g.n = g.k + 2 → g.n < 2 ^ 63 → 0 < g.c → s < g.stripeCount → u ≤ g.k + 1 →
    s * g.c + g.c ≤ g.dataSectors → g.dataSectors < 2 ^ 64 →
    mapUnit g false s u = some ((g.n - 1 - s % g.n + 2 + u) % g.n, s * g.c)

/-- The declustered program maps unit u of stripe s through its period table as R66 says. Rests on R66, R106, R97, R99. For every geometry that
holds the declustered program of R106 with a table of PERIOD_ROWS rows and n columns: stripe s, unit u is mapped to the member in the
table's entry number (s mod S)·(k + 2) + u, at row (s div S)·R + that number div n, times c sectors, where S and R are the period's stripes
and rows, provided that the entry names a member and the row lies within the member. -/
def Obligations.DeclusteredProgramMapsUnits : Prop :=
  ∀ (g : Geom) (pt : MapTable) (x s u m : Nat), g.prog = declusteredProg g.n x g.periodStripes g.periodRows → g.tables = [pt] →
    pt.rows = g.periodRows → pt.cols = g.n → g.k + 2 < 2 ^ 63 → 0 < g.n → g.n < 2 ^ 64 → 0 < g.c → 0 < g.periodStripes →
    g.periodStripes * (g.k + 2) ≤ g.n * g.periodRows → g.n * g.periodRows < 2 ^ 64 → s < g.stripeCount → g.stripeCount < 2 ^ 64 →
    u ≤ g.k + 1 →
    (s / g.periodStripes * g.periodRows + (s % g.periodStripes * (g.k + 2) + u) / g.n) * g.c + g.c ≤ g.dataSectors → g.dataSectors < 2 ^ 64 →
    pt.entries[s % g.periodStripes * (g.k + 2) + u]? = some m → m < g.n →
    mapUnit g false s u =
      some (m, (s / g.periodStripes * g.periodRows + (s % g.periodStripes * (g.k + 2) + u) / g.n) * g.c)

/-- Two lost data units, or one with P, are solved from P and Q as R72 says. Rests on R71, R72. For every list of at most 46 data bytes: if the
bytes at x < y are lost, the solution of R72 from P' and Q' gives exactly the two lost bytes; if the byte at x is lost, Q' gives it (P lost
as well), and P' is it. P' and Q' are P and Q with the sums of the surviving units taken away. -/
def Obligations.TwoLostUnitsAreSolved : Prop :=
  (∀ (ds : List (BitVec 8)) (x y : Nat) (dx dy : BitVec 8), ds.length ≤ 46 → x < y → ds[x]? = some dx → ds[y]? = some dy →
    solveDD x y (genP ds ^^^ genP ((ds.set x 0).set y 0)) (genQ ds ^^^ genQ ((ds.set x 0).set y 0)) = (dx, dy)) ∧
  (∀ (ds : List (BitVec 8)) (x : Nat) (dx : BitVec 8), ds.length ≤ 46 → ds[x]? = some dx →
    solveDQ x (genQ ds ^^^ genQ (ds.set x 0)) = dx ∧ genP ds ^^^ genP (ds.set x 0) = dx)

/-- A lane's registers at entry are those of R93, none is hardwired, and its flags are clear. Rests on R93. At either entry x0 and x1 hold the
two inputs, x2 k, x3 n, x4 c, x5 MEMBER_DATA_SECTORS, x6 PERIOD_STRIPES, x7 PERIOD_ROWS and x8 to x15 zero; a map entry with inputs in
range, and a spare entry with inputs in range, runs the program from that entry with these registers and with OV and DZ clear; and a write
to any register is read back from it, every other register keeping its value: no register is hardwired. -/
def Obligations.LanesEnterWithTheirInputs : Prop :=
  ∀ (g : Geom) (a b : Nat),
    (entryRegs g a b 0 = BitVec.ofNat 64 a ∧ entryRegs g a b 1 = BitVec.ofNat 64 b ∧ entryRegs g a b 2 = BitVec.ofNat 64 g.k ∧
      entryRegs g a b 3 = BitVec.ofNat 64 g.n ∧ entryRegs g a b 4 = BitVec.ofNat 64 g.c ∧
      entryRegs g a b 5 = BitVec.ofNat 64 g.dataSectors ∧ entryRegs g a b 6 = BitVec.ofNat 64 g.periodStripes ∧
      entryRegs g a b 7 = BitVec.ofNat 64 g.periodRows ∧ ∀ r : XReg, 8 ≤ r.toNat → entryRegs g a b r = 0) ∧
    (a < g.stripeCount → b ≤ g.k + 1 → runEntry g false a b =
      fRun 512 g.prog.words g.tables ⟨entryRegs g a b, false, false, g.prog.entryMap⟩ 0) ∧
    (b < g.prog.spareSlots → a < g.stripeCount / g.periodStripes → runEntry g true a b =
      fRun 512 g.prog.words g.tables ⟨entryRegs g a b, false, false, g.prog.entrySpare⟩ 0) ∧
    (∀ (l : LaneSt) (rd : XReg) (r : AluRes), ∃ t, l.aluTo rd r = .go t ∧ t.x rd = r.v ∧ ∀ q, q ≠ rd → t.x q = l.x q) ∧
    ∀ (ts : List MapTable) (l : LaneSt) (rd : XReg) (h : BitVec 2) (imm : BitVec 16),
      ∃ t, fStep ts l (.ldh rd h imm) = .go t ∧ t.x rd = ldhRun (l.x rd) h imm ∧ ∀ q, q ≠ rd → t.x q = l.x q

/-- Inputs outside their ranges fault a mapping with INPUT_RANGE before any instruction runs. Rests on R94. For the selected epoch of every
array: a map entry with s not below STRIPE_COUNT or u above k + 1, and a spare entry with i not below SPARE_SLOTS or p not below
STRIPE_COUNT ÷ PERIOD_STRIPES, is the fault INPUT_RANGE at instruction 0 with no instruction run; an input in its range passes the check. -/
def Obligations.LanesCheckTheirInputs : Prop :=
  ∀ (r : Arr) (previous : Bool) (g : Geom), r.geom previous = some g →
    (∀ s u, ¬ (s < g.stripeCount ∧ u ≤ g.k + 1) → runEntry g false s u = .fault .inputRange 0 0 ∧
      mapEntry g false s u = .error (.inputRange, 0, 0)) ∧
    (∀ p i, ¬ (i < g.prog.spareSlots ∧ p < g.stripeCount / g.periodStripes) → runEntry g true p i = .fault .inputRange 0 0 ∧
      mapEntry g true p i = .error (.inputRange, 0, 0)) ∧
    (∀ s u, s < g.stripeCount → u ≤ g.k + 1 → inputOk g false s u = true) ∧
    ∀ p i, i < g.prog.spareSlots → p < g.stripeCount / g.periodStripes → inputOk g true p i = true

/-- The mapper's arithmetic wraps on 64 bits with the results and flags of R97, and its flags are sticky. Rests on R97. ADD, SUB and MUL
(immediate forms too) give the wrapped low 64 bits and set OV exactly when the signed result does not fit; NEG, DIV and REM of the most
negative number give the listed results with OV; division by 0 gives all ones and a remainder by 0 the dividend, with DZ; SLL and SRL by 64
or more give 0 and SRA all bits equal to bit 63, without a flag and without reducing the amount modulo 64; MULHU is the exact high word. A
shift's immediate is unsigned. No instruction but CLRF clears OV or DZ, CLRF clears both, and BF tests them. The only fault of an
instruction is a table index out of range, so OV faults no mapping; DZ faults one exactly when it is set at EMIT. -/
def Obligations.ArithmeticEdgeCases : Prop :=
  (∀ a b : DWord, (aluRun .add a b).v = a + b ∧
    ((aluRun .add a b).ov = true ↔ (a + b).toInt ≠ a.toInt + b.toInt) ∧ (aluRun .add a b).dz = false ∧
    (aluRun .sub a b).v = a - b ∧ ((aluRun .sub a b).ov = true ↔ (a - b).toInt ≠ a.toInt - b.toInt) ∧ (aluRun .sub a b).dz = false ∧
    (aluRun .mul a b).v = a * b ∧ ((aluRun .mul a b).ov = true ↔ (a * b).toInt ≠ a.toInt * b.toInt) ∧ (aluRun .mul a b).dz = false) ∧
  (∀ (ts : List MapTable) (l : LaneSt) (rd ra : XReg), l.x ra = BitVec.intMin 64 →
    ∃ t, fStep ts l (.neg rd ra) = .go t ∧ t.x rd = 0x8000000000000000 ∧ t.ov = true ∧ t.dz = l.dz) ∧
  aluRun .div 0x8000000000000000 (-1) = ⟨0x8000000000000000, true, false⟩ ∧
  aluRun .rem 0x8000000000000000 (-1) = ⟨0, true, false⟩ ∧
  (∀ a : DWord, aluRun .divu a 0 = ⟨0xFFFFFFFFFFFFFFFF, false, true⟩ ∧ aluRun .div a 0 = ⟨0xFFFFFFFFFFFFFFFF, false, true⟩ ∧
    aluRun .remu a 0 = ⟨a, false, true⟩ ∧ aluRun .rem a 0 = ⟨a, false, true⟩) ∧
  (∀ a b : DWord, 64 ≤ b.toNat → aluRun .sll a b = ⟨0, false, false⟩ ∧ aluRun .srl a b = ⟨0, false, false⟩ ∧
    aluRun .sra a b = ⟨if a.getLsbD 63 then 0xFFFFFFFFFFFFFFFF else 0, false, false⟩) ∧
  (∀ a b : DWord, aluRun .mulhu a b = ⟨BitVec.ofNat 64 (a.toNat * b.toNat / 2 ^ 64), false, false⟩) ∧
  (∀ (ts : List MapTable) (l : LaneSt) (op : AluOp) (rd ra rb : XReg) (imm : BitVec 18),
    (∃ t, fStep ts l (.alu op rd ra rb) = .go t ∧ t.x rd = (aluRun op (l.x ra) (l.x rb)).v ∧
      t.ov = (l.ov || (aluRun op (l.x ra) (l.x rb)).ov) ∧ t.dz = (l.dz || (aluRun op (l.x ra) (l.x rb)).dz)) ∧
    ∃ t, fStep ts l (.alui op rd ra imm) = .go t ∧
      (let b : DWord := if op = .sll ∨ op = .srl ∨ op = .sra then imm.zeroExtend 64 else imm.signExtend 64
       t.x rd = (aluRun op (l.x ra) b).v ∧ t.ov = (l.ov || (aluRun op (l.x ra) b).ov) ∧ t.dz = (l.dz || (aluRun op (l.x ra) b).dz))) ∧
  (∀ (ts : List MapTable) (l t : LaneSt) (i : FInstr), fStep ts l i = .go t → i ≠ .clrf →
    (l.ov = true → t.ov = true) ∧ (l.dz = true → t.dz = true)) ∧
  (∀ (ts : List MapTable) (l : LaneSt), ∃ t, fStep ts l .clrf = .go t ∧ t.ov = false ∧ t.dz = false) ∧
  (∀ (ts : List MapTable) (l : LaneSt) (m : BitVec 2) (target : BitVec 8), ∃ t, fStep ts l (.bf m target) = .go t ∧
    t.pc = if (m.getLsbD 0 && l.ov) || (m.getLsbD 1 && l.dz) then target.toNat else l.pc + 1) ∧
  (∀ (ts : List MapTable) (l : LaneSt) (i : FInstr) (f : MapFault), fStep ts l i = .fault f → f = .tableRange) ∧
  ∀ (g : Geom) (m o : Nat), emitCheck g m o true = .error .dzAtEmit ∧ emitCheck g m o false ≠ .error .dzAtEmit

/-- EMIT accepts a member and an offset exactly when R99's four conditions hold, and faults in R99's order. Rests on R99. With chunks of at
least one sector: the check accepts (m, o) if and only if DZ is clear, m < n, c divides o and o + c ≤ MEMBER_DATA_SECTORS; otherwise it
faults with DZ_AT_EMIT when DZ is set, else MEMBER_RANGE when m is not below n, else OFFSET_RANGE. -/
def Obligations.EmitChecksItsOutput : Prop :=
  ∀ (g : Geom) (m o : Nat) (dz : Bool), 0 < g.c →
    (emitCheck g m o dz = .ok (m, o) ↔ dz = false ∧ m < g.n ∧ g.c ∣ o ∧ o + g.c ≤ g.dataSectors) ∧
    (dz = true → emitCheck g m o dz = .error .dzAtEmit) ∧
    (dz = false → g.n ≤ m → emitCheck g m o dz = .error .memberRange) ∧
    (dz = false → m < g.n → ¬ (g.c ∣ o ∧ o + g.c ≤ g.dataSectors) → emitCheck g m o dz = .error .offsetRange)

/-- P and Q are the sums of R71 at every byte of a sector and its protected tag bytes. Rests on R71. Q of a list of data bytes is the sum over i
of g^i times the i-th byte in the field of R71; every one of the 4,124 bytes of a row's P and Q sectors (4,096 data bytes and 28 protected
tag bytes, in the model's layout of a sector, log 6) is the sum of the data units' bytes at that place; and g^0 to g^45 are distinct. -/
def Obligations.ParityBytesAreTheSumsOfR71 : Prop :=
  (∀ ds : List (BitVec 8), genQ ds = ((List.range ds.length).map (fun i => gfMul (gfExp i) (ds.getD i 0))).foldr (· ^^^ ·) 0) ∧
  (∀ (ds : List Blob) (b : Nat), b < 4124 →
    BitVec.ofNat 8 (rowP ds / 256 ^ b) = genP (ds.map (fun d => BitVec.ofNat 8 (d / 256 ^ b))) ∧
    BitVec.ofNat 8 (rowQ ds / 256 ^ b) = genQ (ds.map (fun d => BitVec.ofNat 8 (d / 256 ^ b)))) ∧
  ∀ i j, i < 46 → j < 46 → gfExp i = gfExp j → i = j

/-- A LO word is held for its interface, and the write of HI commits the two words of the pair together. Rests on R465. With the Pegbox die
answering and the write not refused: a write to the LO word of a read-write pair holds its 32 bits for the interface, changes no register
and no other held word; a write to its HI word, where the pair takes writes, leaves the register with the held LO (or, with none held since
the last commit, the current LO) and the new HI, and no LO held. Two interfaces never share a held word. -/
def Obligations.PairWritesCommitTogether : Prop :=
  (∀ (s : State) (iface : Iface) (addr value : Nat) (f : Field), s.managed = true → rwPairAt addr = some f → f.addr = addr →
    s.refuseWrite iface addr = 0 →
    Does (.pairLoWrite iface addr value) s (fun t => tget t.heldLo (latchKey f iface) = some (value % 2 ^ 32) ∧ t.regs = s.regs ∧
      ∀ k, k ≠ latchKey f iface → tget t.heldLo k = tget s.heldLo k)) ∧
  (∀ (s : State) (iface : Iface) (addr value : Nat) (f : Field), s.managed = true → rwPairAt addr = some f → f.addr + 4 = addr →
    s.refuseWrite iface addr = 0 → s.pairOpen f = true →
    Does (.pairHiWrite iface addr value) s (fun t =>
      t.fld f = ((tget s.heldLo (latchKey f iface)).getD (f.whole (s.fld f) % 2 ^ 32) + value % 2 ^ 32 * 2 ^ 32) / 2 ^ f.lsb % 2 ^ f.width ∧
      tget t.heldLo (latchKey f iface) = none)) ∧
  ∀ (i j : Iface) (f : Field), latchKey f i = latchKey f j → i = j

/-- A write from outside the firmware to a register the firmware owns changes nothing but the bus status. Rests on R243, R312, R467, R469. A
write through another interface than the firmware's to a register that the firmware owns leaves every register but SYS_BUS_STATUS and
SYS_BUS_ADDR, and every other part of the state, as they were, and latches reason 3 with the interface. The firmware owns channels 0 to 63
and windows 0 to 7 of the DMA engine and CAPO_RENEW, and not channels 64 to 255 or windows 8 to 31. The reason's number and the latching are
the model's reading (log 37). -/
def Obligations.FirmwareRegistersRefuseOthers : Prop :=
  (∀ (s : State) (iface : Iface) (addr value : Nat), s.managed = true → s.refuseRead iface addr = 0 → firmwareOwned addr = true →
    iface ≠ .firmware → Does (.registerWrite iface addr value) s (fun t =>
      Only [.regs] s t ∧ Kept [Fld.SYS_BUS_STATUS.ERR, Fld.SYS_BUS_STATUS.IFACE, Fld.SYS_BUS_STATUS.REASON, Fld.SYS_BUS_ADDR.OFFSET] s t ∧
      t.bit Fld.SYS_BUS_STATUS.ERR = true ∧ t.fld Fld.SYS_BUS_STATUS.REASON = 3 ∧ t.fld Fld.SYS_BUS_STATUS.IFACE = ifaceBus iface)) ∧
  (∀ n : Nat, n < 64 → firmwareOwned (Fld.CH_CTRL.EN.at n).addr = true ∧ firmwareOwned (Fld.CH_DESC_PTR.ADDR.at n).addr = true) ∧
  (∀ n : Nat, 64 ≤ n → n < 256 → firmwareOwned (Fld.CH_CTRL.EN.at n).addr = false) ∧
  (∀ w : Nat, w < 8 → firmwareOwned (Fld.WIN_CTRL.EN.at w).addr = true) ∧
  (∀ w : Nat, 8 ≤ w → w < 32 → firmwareOwned (Fld.WIN_CTRL.EN.at w).addr = false) ∧ firmwareOwned Fld.CAPO_RENEW.addr = true

/-- State.reset holds the reset values the rules give for registers of every block. Rests on R469, R442, R146, R223, R242, R210, R283, R284,
R260, R304, R174, R348. At State.reset: SYS_ID names part 0x4896, step letter 1; AON_POR is set; both queue pools are full (32,768); HIST_EN
and PREFETCH_EN are 1; all four slices are active; NONCE_WARN is 2^63; the TRNG is in start-up; EXT_EN is 15; DMA_AREA_SIZE is 512; every
port shows no member (63) and no array (31); WC_STATUS.CLEAN is 1; EVR_PAGE_SEL is 1; PIT_GM.CLASS is 5; the write gate is closed; the
staging state is 0 and SYS_SCRATCH is 0. -/
def Obligations.ResetLeavesTheGivenValues : Prop :=
  State.reset.fld Fld.SYS_ID.PART = 0x4896 ∧ State.reset.fld Fld.SYS_ID.STEP_LETTER = 1 ∧ State.reset.bit Fld.PWR_RESET_INFO.AON_POR = true ∧
    State.reset.fld Fld.HFE_POOL.FREE_SQ = 32768 ∧ State.reset.fld Fld.HFE_POOL.FREE_CQ = 32768 ∧ State.reset.bit Fld.LAT_CTRL.HIST_EN = true ∧
    State.reset.bit Fld.SC_CTRL.PREFETCH_EN = true ∧ State.reset.fld Fld.PQE_STATUS.SLICE_ACTIVE = 15 ∧
    State.reset.fld Fld.CIP_NONCE_WARN = 2 ^ 63 ∧ State.reset.bit Fld.CIP_TRNG_STATUS.STARTUP = true ∧
    State.reset.fld Fld.CIP_TAMPER_CFG.EXT_EN = 15 ∧ State.reset.fld Fld.DMA_AREA_SIZE = 512 ∧
    (∀ n, n < 48 → State.reset.fld (Fld.PORT_STATE.MEMBER_INDEX.at n) = 63 ∧ State.reset.fld (Fld.PORT_STATE.ARRAY.at n) = 31) ∧
    State.reset.bit Fld.WC_STATUS.CLEAN = true ∧ State.reset.fld Fld.EVR_PAGE_SEL.PAGE = 1 ∧ State.reset.fld Fld.PIT_GM.CLASS = 5 ∧
    State.reset.bit Fld.CAPO_STATUS.GATE_OPEN = false ∧ State.reset.fld Fld.IMG_STAGE_STATUS.STATE = 0 ∧
    State.reset.fld Fld.SYS_SCRATCH = 0

/-- Rails, PLLs, SYS_RST_N's release and the boot do what their rules say. Rests on R422, R424, R439, R435, R423, R434. For every state and
operands that meet the clause's conditions, the command answers a next state of which the clause says: RAIL_RECOVERED sets the rails good;
RAIL_OUT_OF_RANGE records the cause and raises fatal cause 5 when a fast domain is up; PLL_LOCK sets the lock bit; a lock timeout of a fast
PLL in a boot or an exit raises cause 4; FAST_BOOT_START begins a boot where every condition of a boot holds (canBoot), with AVS step 0 and
power state Full; BOOT_HANDOVER with the fast PLLs locked starts the running state with Safe Mode exactly where no image can be booted;
HOST_LINK_READY ends the boot and records its length; SYS_RST_N_RELEASE records the hold time and sets LONG_HOLD after more than 10,000 ms.
Readings: log 24. -/
def Obligations.RailsClocksAndBootTakeEffect : Prop :=
  (∀ s : State, Does .railRecovered s (fun t => t.pwr.railsOk = true)) ∧
  (∀ s : State, s.pwr.railsOk = true → Does .railOutOfRange s (fun t => t.pwr.railsOk = false ∧ t.bit Fld.PWR_RESET_INFO.RAIL = true ∧
       t.err.raised = s.err.raised ++
         (if s.pwr.fast = .running ∨ s.pwr.fast = .booting ∨ s.pwr.fast = .retained then [5] else []))) ∧
  (∀ (s : State) (pll : Nat), pll < 8 → s.pwr.plls / 2 ^ pll % 2 = 0 →
       Does (.pllLock pll) s (fun t => t.pwr.plls = s.pwr.plls + 2 ^ pll)) ∧
  (∀ (s : State) (pll : Nat), 4 ≤ pll → pll < 8 → s.pwr.plls / 2 ^ pll % 2 = 0 →
       s.pwr.fast = .booting ∨ s.fld Fld.PWR_STATE.STATE = 5 →
       Does (.pllLockTimeout pll) s (fun t => t.err.raised = s.err.raised ++ [4])) ∧
  (∀ s : State, s.canBoot = true → Does .fastBootStart s (fun t => t.pwr.fast = .booting ∧ t.bit Fld.PWR_STATE.BOOTING = true ∧
       t.fld Fld.PWR_AVS.STEP = 0 ∧ t.fld Fld.PWR_STATE.STATE = 0)) ∧
  (∀ s : State, s.pwr.fast = .booting → s.fastLocked = true → Does .bootHandover s (fun t => t.pwr.fast = .running ∧
       t.bit Fld.IMG_BOOT.SAFE_MODE = s.bootPick.image.isNone ∧ t.fld Fld.IMG_BOOT.BOOT_SOURCE = s.bootPick.source % 4)) ∧
  (∀ s : State, s.pwr.fast = .running → s.bit Fld.PWR_STATE.BOOTING = true → Does .hostLinkReady s (fun t =>
       t.bit Fld.PWR_STATE.BOOTING = false ∧ t.fld Fld.PWR_BOOT_US = min ((s.now - s.pwr.bootStart) / 1000) 0xFFFFFFFF)) ∧
  (∀ s : State, s.pwr.sysLow = true → Does .sysRstNRelease s (fun t => t.pwr.sysLow = false ∧
       t.fld Fld.PWR_RST_HOLD_MS = min ((s.now - s.pwr.sysLowAt) / 1000000) 0xFFFFFFFF ∧
       (10000 < (s.now - s.pwr.sysLowAt) / 1000000 → t.bit Fld.PWR_RESET_INFO.LONG_HOLD = true)))

/-- SYS_RST_N resets the fast domains at once, after what runs, or after a dump. Rests on R434, R433. For every state and operands that meet the
clause's conditions, the command answers a next state of which the clause says: with the fast domains off or in reset, SYS_RST_N low clears
FATAL_HOLD and changes nothing of them; in a boot, or running with nothing to dump, it resets them and sets SYS_PIN; with a dump or a power
transition running it waits (sysPending); with dirty state and a ready vault area it begins a dump. Readings: log 24. A command that is not
due leaves the state as it was (the model's choice, log 8). -/
def Obligations.SysResetActsOnFastDomains : Prop :=
  (∀ s : State, s.pwr.sysLow = false → s.pwr.fast = .unpowered ∨ s.pwr.fast = .inReset →
       Does .sysRstNAssert s (fun t => t.pwr.sysLow = true ∧ t.pwr.fast = s.pwr.fast ∧ t.bit Fld.ERR_STATUS.FATAL_HOLD = false)) ∧
  (∀ s : State, s.pwr.sysLow = false → s.pwr.fast = .booting →
       Does .sysRstNAssert s (fun t => t.pwr.sysLow = true ∧ t.pwr.fast = .inReset ∧ t.bit Fld.PWR_RESET_INFO.SYS_PIN = true)) ∧
  (∀ s : State, s.pwr.sysLow = false → s.pwr.fast = .running → s.wc.dumpArea = none → s.fld Fld.PWR_STATE.STATE ≤ 1 →
       s.dumpNeeded = false →
       Does .sysRstNAssert s (fun t => t.pwr.sysLow = true ∧ t.pwr.fast = .inReset ∧ t.bit Fld.PWR_RESET_INFO.SYS_PIN = true)) ∧
  (∀ s : State, s.pwr.sysLow = false → s.pwr.fast = .running → s.wc.dumpArea.isSome = true ∨ s.fld Fld.PWR_STATE.STATE = 4 ∨
       s.fld Fld.PWR_STATE.STATE = 5 → Does .sysRstNAssert s (fun t => t.pwr.sysLow = true ∧ t.pwr.sysPending = true)) ∧
  (∀ s : State, s.pwr.sysLow = false → s.pwr.fast = .running → s.wc.dumpArea = none → s.fld Fld.PWR_STATE.STATE ≤ 1 →
       s.dumpNeeded = true → s.areaReady.isSome = true →
       Does .sysRstNAssert s (fun t => t.pwr.sysLow = true ∧ t.wc.dumpWhy = some .sysReset ∧ t.bit Fld.VLT_STATUS.DUMPING = true))

/-- The mains input, always-on power, Pegbox resets and the end of a dump do what their rules say. Rests on R16, R481, R433, R18, R437, R462,
R422, R164. For every state and operands that meet the clause's conditions, the command answers a next state of which the clause says:
AC_FAIL_N in Silence asserts HOLDUP_EN and stops fetch; in Full or Trim with a ready area it stops fetch and begins a dump; its deassertion
with no dump releases both, and completes a calibration restore that it finds under way (assumption 18); AON_RST_N and the watchdog reset
set their cause bit and take the Pegbox die out of readiness; PEGBOX_START with the always-on rails good makes it ready; ALWAYS_ON_POWER_UP
sets the rails good; POWER_DOWN without HOLDUP_EN powers everything off; DUMP_COMMIT of a mains dump commits the dump in its area with its
sequence. Readings: log 24, 25. -/
def Obligations.MainsAndPegboxTakeEffect : Prop :=
  (∀ s : State, s.acFail = false → s.fld Fld.PWR_STATE.STATE = 3 →
       Does .acFailNAssert s (fun t => t.acFail = true ∧ t.bit Fld.NRG_STATUS.HOLDUP_EN = true ∧ FetchHold.acFail ∈ t.pwr.holds)) ∧
  (∀ s : State, s.acFail = false → s.fld Fld.PWR_STATE.STATE ≤ 1 → s.pwr.fast = .running →
       s.bit Fld.PWR_STATE.BOOTING = false → s.bit Fld.HFE_STATUS.REPLAY_PENDING = false → s.safeMode = false → s.wc.dumpArea = none →
       s.areaReady.isSome = true →
       Does .acFailNAssert s (fun t => FetchHold.acFail ∈ t.pwr.holds ∧ t.wc.dumpWhy = some .acFail ∧ t.bit Fld.VLT_STATUS.DUMPING = true)) ∧
  (∀ s : State, s.acFail = true → s.wc.dumpArea = none → Does .acFailNDeassert s (fun t => t.acFail = false ∧
       t.bit Fld.NRG_STATUS.HOLDUP_EN = false ∧ FetchHold.acFail ∉ t.pwr.holds)) ∧
  (∀ (s : State) (op : CalOp) (k : Nat), s.acFail = true → s.cal.restoring = some (op, k) → k ≤ 1 → Does .acFailNDeassert s (fun t =>
       t.cal.restoring = none ∧ t.cal.journal = none ∧ t.bit Fld.CAL_STATUS.BUSY = false ∧ t.cal.previous = s.cal.user ∧
       t.cal.user = (match op with
         | .restoreFactory => s.cal.factory
         | .restorePrevious => s.cal.previous))) ∧
  (∀ s : State, s.pwr.aonLow = false → Does .aonRstNAssert s (fun t => t.pwr.aonLow = true ∧ t.bit Fld.PWR_RESET_INFO.AON_PIN = true ∧
       t.bit Fld.PWR_RESET_INFO.WATCHDOG = false ∧ t.bit Fld.PWR_STATE.PEGBOX_READY = false)) ∧
  (∀ s : State, s.pwr.aonLow = false → s.bit Fld.PWR_STATE.PEGBOX_READY = true → Does .pegboxWatchdogReset s (fun t =>
       t.pwr.wdHold = true ∧ t.bit Fld.PWR_RESET_INFO.AON_PIN = false ∧ t.bit Fld.PWR_RESET_INFO.WATCHDOG = true ∧
       t.bit Fld.PWR_STATE.PEGBOX_READY = false)) ∧
  (∀ (s : State) (fw : FwBanks) (vault : VaultFound) (rate area targets block : Nat) (a b : PackSample), s.pwr.aonRails = true →
       s.bit Fld.PWR_STATE.PEGBOX_READY = false → s.pwr.aonLow = true ∨ s.pwr.wdHold = true →
       Does (.pegboxStart fw vault rate area targets block a b) s (fun t => t.bit Fld.PWR_STATE.PEGBOX_READY = true)) ∧
  (∀ s : State, Does .alwaysOnPowerUp s (fun t => t.pwr.aonRails = true)) ∧
  (∀ s : State, s.bit Fld.NRG_STATUS.HOLDUP_EN = false → Does .powerDown s (fun t => t.pwr.fast = .unpowered ∧ t.pwr.aonLow = true ∧
       t.pwr.sysLow = true ∧ t.pwr.railsOk = false ∧ t.pwr.plls = 0)) ∧
  (∀ (s : State) (i : Nat) (d : Dump), s.wc.dumpArea = some i → s.wc.dumpWhy = some .acFail → s.acFail = true →
       s.pwr.sysPending = false → tget s.vault.dumps i = some d → Does .dumpCommit s (fun t => t.wc.dumpArea = none ∧
       t.bit Fld.VLT_STATUS.DUMPING = false ∧ (∃ e, tget t.vault.dumps i = some e ∧ e.committed = true ∧ e.seq = d.seq)))

/-- A pack's path opens when it leaves its limits and closes when its temperature returns. Rests on R355, R349, R356. For every state and
operands that meet the clause's conditions, the command answers a next state of which the clause says: PACK_CUTOFF of a present, uncut,
untested pack opens its path, drops the load step and records why, the other pack unchanged; PACK_TEMP_RECOVER closes the path of a pack cut
for temperature, the other pack unchanged. Band edges: log 25. A pack that is absent, already cut or under its test keeps its path and the
state is as it was (log 8). -/
def Obligations.PackPathsFollowLimits : Prop :=
  (∀ (s : State) (p : PackId) (temp : Bool), s.packPresent p = true → (s.pack p).cut = none →
       Does (.packCutoff p temp) s (fun t => (t.pack p).en = false ∧ (t.pack p).loadStep = false ∧ (t.pack p).test = none ∧
         (t.pack p).cut = some (if temp then .temperature else .voltage) ∧
         ((s.pack p).test = none → t.pack (otherPack p) = s.pack (otherPack p)) ∧
         ((s.pack p).test.isSome = true → t.fld (Fld.PACK_STATUS.TEST_RESULT.at (packIx p)) = 3 ∧
           (t.pack (otherPack p)).en = (s.packPresent (otherPack p) && (s.pack (otherPack p)).cut.isNone)) ∧
         ((t.pack (otherPack p)).en = false → t.bit Fld.NRG_STATUS.HOLDUP_EN = false))) ∧
  (∀ (s : State) (p : PackId) (temp : Bool), s.packPresent p = false ∨ (s.pack p).cut.isSome = true →
       Does (.packCutoff p temp) s (fun t => t = s)) ∧
  (∀ (s : State) (p : PackId), s.packPresent p = true → (s.pack p).cut = some .temperature →
       Does (.packTempRecover p) s (fun t => (t.pack p).en = (s.pack (otherPack p)).test.isNone ∧ (t.pack p).cut = none ∧
         t.pack (otherPack p) = s.pack (otherPack p))) ∧
  (∀ (s : State) (p : PackId), s.packPresent p = false ∨ (s.pack p).cut ≠ some .temperature →
       Does (.packTempRecover p) s (fun t => t = s))

/-- The staging, copy-select and copy-rewrite commands move the image update through its states. Rests on R46, R48, R42, R44, R41, R43. For
every state and operands that meet the clause's conditions, the command answers a next state of which the clause says: OPEN from 0 gives
OPEN with the owner and an empty area; VERIFY of a good image gives VERIFIED with its class of change; COMMIT gives COMMITTING; the end of
the write gives COMMITTED with the image in its copy, or VERIFIED with error 0x0A; ACTIVATE_LIVE of a live-class image gives LIVE done;
ACTIVATE_RESET stops fetch and waits, and completes when nothing is in flight; ABORT returns to empty; a due copy rewrite leaves the copy
with the running image or spoilt; SELECT_COPY_A and _B under a valid token in Safe Mode copy one image over the other. The order of the
checks and the error numbers where the rules leave them: log 23; images are held decoded: log 10. -/
def Obligations.StagingFollowsItsSequence : Prop :=
  (∀ (s : State) (iface : Iface), s.stageRefusal iface = 0 → s.stage = 0 →
       Does (.stageOpen iface) s (fun t => t.stage = 1 ∧ t.fld Fld.IMG_STAGE_STATUS.OWNER = ifaceOwner iface ∧ t.img.stage = [])) ∧
  (∀ (s : State) (iface : Iface) (facts : ImgFacts) (i : Image), s.stageRefusal iface = 0 → s.stage = 1 →
       s.stagedImage facts = some i → (s.verifyImage i).1 = 0 →
       Does (.stageVerify iface facts) s (fun t => t.stage = 3 ∧ t.img.staged = some i ∧ t.fld Fld.IMG_STAGE_STATUS.ERROR = 0 ∧
         t.fld Fld.IMG_STAGE_STATUS.CHANGE_CLASS = s.changeClass i % 4)) ∧
  (∀ (s : State) (iface : Iface), s.stageRefusal iface = 0 → s.stage = 3 →
       Does (.stageCommit iface) s (fun t => t.stage = 4 ∧ t.bit Fld.IMG_STAGE_STATUS.BUSY = true)) ∧
  (∀ (s : State) (iface : Iface) (i : Image), s.stageRefusal iface = 0 → s.stage = 5 → s.acFail = false → s.img.staged = some i →
       s.fld Fld.IMG_STAGE_STATUS.CHANGE_CLASS = 1 → s.safeMode = false → s.activationError i = 0 →
       Does (.activateLive iface) s (fun t => t.stage = 7 ∧ t.fld Fld.IMG_STAGE_STATUS.ERROR = 0)) ∧
  (∀ (s : State) (iface : Iface) (i : Image), s.stageRefusal iface = 0 → s.stage = 5 → s.img.staged = some i → s.activationError i = 0 →
       Does (.activateReset iface) s (fun t => t.stage = 6 ∧ t.bit Fld.IMG_STAGE_STATUS.BUSY = true ∧ FetchHold.activation ∈ t.pwr.holds)) ∧
  (∀ s : State, s.stage = 6 → s.hfe.cmds = [] → s.wc.updates = [] → s.vaulted = 0 →
       Does .activateResetDestaged s (fun t => t.bit Fld.PWR_RESET_INFO.ACTIVATE = true ∧ t.img.toCreate = s.img.newArrays)) ∧
  (∀ (s : State) (iface : Iface), s.stageRefusal iface = 0 → s.stage = 1 ∨ s.stage = 3 ∨ s.stage = 8 →
       Does (.stageAbort iface) s (fun t => t.stage = 0 ∧ t.img.stage = [] ∧ t.img.staged = none)) ∧
  (∀ (s : State) (copy : Fin 3) (ok : Bool) (r : Image), s.img.running = some r → s.rewriteDue copy.val = true → s.pwr.fast = .running →
       s.bit Fld.PWR_STATE.BOOTING = false → s.acFail = false → s.stage = 7 →
       Does (.imageCopyRewrite copy ok) s (fun t => t.copyOf copy.val = (if ok then .image r else .notAnImage))) ∧
  (∀ (s : State) (iface : Iface), s.stageRefusal iface = 0 → s.safeMode = true → s.fld Fld.IMG_BOOT.SAFE_REASON = 2 →
       s.tokenOk 2 0 (s.fld Fld.IMG_AUTH) = true →
       Does (.selectCopyA iface) s (fun t => t.img.copyB = s.img.copyA ∧ t.img.copyA = s.img.copyA ∧ t.fld Fld.IMG_STAGE_STATUS.ERROR = 0)) ∧
  (∀ (s : State) (iface : Iface), s.stageRefusal iface = 0 → s.safeMode = true → s.fld Fld.IMG_BOOT.SAFE_REASON = 2 →
       s.tokenOk 3 0 (s.fld Fld.IMG_AUTH) = true →
       Does (.selectCopyB iface) s (fun t => t.img.copyA = s.img.copyB ∧ t.img.copyB = s.img.copyB ∧ t.fld Fld.IMG_STAGE_STATUS.ERROR = 0)) ∧
  (∀ (s : State) (i : Image), s.stage = 4 → s.acFail = false → s.img.staged = some i → s.imageReason i = 0 →
       Does (.commitComplete true) s (fun t => t.stage = 5 ∧ t.bit Fld.IMG_STAGE_STATUS.BUSY = false ∧ t.copyOf s.commitTarget = .image i)) ∧
  (∀ (s : State) (i : Image), s.stage = 4 → s.acFail = false → s.img.staged = some i →
       Does (.commitComplete false) s (fun t => t.stage = 3 ∧ t.bit Fld.IMG_STAGE_STATUS.BUSY = false ∧ t.fld Fld.IMG_STAGE_STATUS.ERROR = 0x0A))

/-- Signing keys are enrolled and revoked, and calibration sets restored and committed. Rests on R37, R59, R58. For every state and operands
that meet the clause's conditions, the command answers a next state of which the clause says: SIGNING_KEY_ENROL under a valid token and
statement of a live slot programs the free slot, REVOKE revokes a live slot that is not the last and not the signer; RESTORE_FACTORY and
RESTORE_PREVIOUS exchange the user set as R59 says; FACTORY_COMMIT copies the user set and locks the factory set. The check order is the
model's (log 23), which blocks are in use too (log 18). A restore given while AC_FAIL_N is asserted completes, or leaves the sets and the
journal as the step that it has reached left them, busy, until mains returns (R59); which of the two is a free value of the model
(assumption 18). -/
def Obligations.KeysAndCalibrationTakeEffect : Prop :=
  (∀ (s : State) (iface : Iface) (st : KeyStatement) (k : KeySlot), s.stageRefusal iface = 0 → s.tokenOk 4 st.slot (s.fld Fld.IMG_AUTH) = true →
       s.img.keys[st.slot]? = some k → k.programmed = false → st.slot ≠ 0 → st.sigOk = true → s.slotLive st.signer = true →
       Does (.signingKeyEnrol iface st) s (fun t => t.img.keys = s.img.keys.set st.slot ⟨st.hash, true, false⟩ ∧
         t.fld Fld.IMG_STAGE_STATUS.ERROR = 0)) ∧
  (∀ (s : State) (iface : Iface) (st : KeyStatement) (k : KeySlot), s.stageRefusal iface = 0 → s.tokenOk 5 st.slot (s.fld Fld.IMG_AUTH) = true →
       s.img.keys[st.slot]? = some k → s.slotLive st.slot = true → st.sigOk = true → s.slotLive st.signer = true → st.signer ≠ st.slot →
       1 < (s.img.keys.filter (fun x => x.programmed && !x.revoked)).length →
       Does (.signingKeyRevoke iface st) s (fun t => t.img.keys = s.img.keys.set st.slot { k with revoked := true } ∧
         t.fld Fld.IMG_STAGE_STATUS.ERROR = 0)) ∧
  (∀ s : State, s.acFail = false → s.bit Fld.CAL_STATUS.BUSY = false → s.calInUse s.cal.factory = true →
       Does .restoreFactory s (fun t => t.cal.user = s.cal.factory ∧ t.cal.previous = s.cal.user ∧ t.cal.factory = s.cal.factory ∧
         t.fld Fld.CAL_STATUS.ERROR = 0)) ∧
  (∀ (s : State) (k : Nat), s.acFail = true → s.bit Fld.CAL_STATUS.BUSY = false → s.calInUse s.cal.factory = true → (s.free 3).toNat = k →
       Does .restoreFactory s (fun t => t.cal.factory = s.cal.factory ∧ (5 ≤ k → t.cal.user = s.cal.factory ∧ t.cal.previous = s.cal.user ∧
         t.fld Fld.CAL_STATUS.ERROR = 0) ∧ (k < 5 → t.bit Fld.CAL_STATUS.BUSY = true ∧
         t.cal.previous = (if k < 2 then s.cal.previous else s.cal.user) ∧ t.cal.user = (if k < 3 then s.cal.user else s.cal.factory) ∧
         t.cal.journal = (if k = 0 then s.cal.journal else if k = 4 then none else some (.restoreFactory, k)) ∧
         t.cal.restoring = some (.restoreFactory, k)))) ∧
  (∀ s : State, s.acFail = false → s.bit Fld.CAL_STATUS.BUSY = false → s.calInUse s.cal.previous = true →
       Does .restorePrevious s (fun t => t.cal.user = s.cal.previous ∧ t.cal.previous = s.cal.user ∧ t.cal.factory = s.cal.factory ∧
         t.fld Fld.CAL_STATUS.ERROR = 0)) ∧
  (∀ (s : State) (k : Nat), s.acFail = true → s.bit Fld.CAL_STATUS.BUSY = false → s.calInUse s.cal.previous = true → (s.free 3).toNat = k →
       Does .restorePrevious s (fun t => t.cal.factory = s.cal.factory ∧ (5 ≤ k → t.cal.user = s.cal.previous ∧ t.cal.previous = s.cal.user ∧
         t.fld Fld.CAL_STATUS.ERROR = 0) ∧ (k < 5 → t.bit Fld.CAL_STATUS.BUSY = true ∧
         t.cal.previous = (if k < 2 then s.cal.previous else s.cal.user) ∧ t.cal.user = (if k < 2 then s.cal.user else s.cal.previous) ∧
         t.cal.journal = (if k = 0 then s.cal.journal else if k = 4 then none else some (.restorePrevious, k)) ∧
         t.cal.restoring = some (.restorePrevious, k)))) ∧
  (∀ s : State, s.bit Fld.CAL_STATUS.BUSY = false → s.bit Fld.CAL_STATUS.FACTORY_LOCKED = false →
       Does .factoryCommit s (fun t => t.cal.factory = s.cal.user ∧ t.cal.user = s.cal.user ∧ t.bit Fld.CAL_STATUS.FACTORY_LOCKED = true ∧
         t.fld Fld.CAL_STATUS.ERROR = 0))

/-- The mapper takes, ends and faults mappings; doorbells, fetch, locks and coalescing act on their queues. Rests on R101, R99, R98, R109, R120,
R140, R125, R128. For every state and operands that meet the clause's conditions, the command answers a next state of which the clause says:
a dispatched mapping occupies the lane that freeLane gives (the lowest free one, log 12) with its request, its order and the geometry taken
at dispatch; EMIT delivers the relocated member and offset; a step limit records its reason and lane and counts; the test mapping goes busy
in a lane; an SQ doorbell sets the tail and notes the new entries' bells; a CQ doorbell sets the head; a fetch grant of one read entry moves
the head and creates the command with the next tag; a range lock not blocked is granted; the coalescing timer sends the vector. Tags and
free order: log 5; readings: log 32. -/
def Obligations.MapperAndDoorbellsTakeEffect : Prop :=
  (∀ (s : State) (req : MapReq) (g : Geom) (l : Nat), s.mapGeom req = some g → inputOk g req.spare req.input req.unit = true →
       s.freeLane = some l → Does (.mappingDispatch req) s (fun t => tget t.map.lanes l = some ⟨req, s.map.order, g⟩)) ∧
  (∀ (s : State) (lane : Fin 64) (l : Lane) (g : Geom) (m o steps : Nat), tget s.map.lanes lane.val = some l → l.geom = g →
       mapEntry g l.req.spare l.req.input l.req.unit = .ok (m, o, steps) → l.req.owner ≠ .test →
       Does (.mappingEmit lane) s (fun t => t.map.results = s.map.results ++ [⟨l.req, (s.relocated l.req g m o).1, (s.relocated l.req g m o).2⟩])) ∧
  (∀ (s : State) (lane : Fin 64) (l : Lane) (g : Geom) (pc steps : Nat), tget s.map.lanes lane.val = some l → l.geom = g →
       mapEntry g l.req.spare l.req.input l.req.unit = .error (.stepLimit, pc, steps) → l.req.owner ≠ .test →
       Does (.mappingStepLimit lane) s (fun t => t.fld Fld.MAP_FAULT_INFO.REASON = mapFaultCode .stepLimit ∧
         t.fld Fld.MAP_FAULT_INFO.LANE = lane.val ∧ t.fld Fld.MAP_FAULT_COUNT = (s.fld Fld.MAP_FAULT_COUNT + 1) % 2 ^ 32)) ∧
  (∀ (s : State) (g : Geom) (l : Nat) (q : MapReq),
       q = ⟨Fin.ofNat 16 (s.fld Fld.MAP_TEST_CTRL.ARRAY), s.bit Fld.MAP_TEST_CTRL.EPOCH, s.bit Fld.MAP_TEST_CTRL.ENTRY,
         s.fld Fld.MAP_TEST_IN, s.fld Fld.MAP_TEST_UNIT.UNIT, 3, 0, .test⟩ →
       s.servedNow Fld.MAP_TEST_CTRL.GO.addr = true → s.safeMode = false → s.bit Fld.MAP_TEST_STATUS.BUSY = false →
       s.mapGeom q = some g → inputOk g q.spare q.input q.unit = true → s.freeLane = some l →
       Does .testMappingGo s (fun t => t.bit Fld.MAP_TEST_STATUS.BUSY = true ∧ tget t.map.lanes l = some ⟨q, s.map.order, g⟩)) ∧
  (∀ (s : State) (fn : FnIdx) (sq tail : Nat) (q : IoSq), s.adminOpen fn = true → sq ≠ 0 → tget s.hfe.sqs (qKey fn sq) = some q →
       tail < q.size → q.deleting = none → Does (.doorbellWrite fn sq tail) s (fun t => ∃ r, tget t.hfe.sqs (qKey fn sq) = some r ∧
         r.tail = tail ∧ r.head = q.head ∧ r.bells = q.bells ++ List.replicate ((tail + q.size - q.tail) % q.size) (s.now, s.exclusion || !s.fetching))) ∧
  (∀ (s : State) (fn : FnIdx) (cq head : Nat) (q : IoCq), s.adminOpen fn = true → tget s.hfe.cqs (qKey fn cq) = some q → head < q.size →
       Does (.cqHeadDoorbell fn cq head) s (fun t => tget t.hfe.cqs (qKey fn cq) = some { q with head := head })) ∧
  (∀ (s : State) (fn : FnIdx) (sq tag : Nat) (q : IoSq) (e : SqEntry), s.fetching = true → tget s.hfe.sqs (qKey fn sq) = some q →
       s.refillLoad.sqReady fn sq q = true → s.refillLoad.classFree q.cls 1 = true → s.refillLoad.grantDue (qKey fn sq) q.cls = true →
       s.refillLoad.nextTag (s.refillLoad.poolClass q.cls) = some tag → e.kind = .read → e.ranges.length = 1 →
       s.hfe.cmds = [] → s.hfe.collector = [] → s.entryStatus fn e = none → q.cls ≠ 0 →
       Does (.fetchGrant fn sq [e]) s (fun t => (∃ r, tget t.hfe.sqs (qKey fn sq) = some r ∧ r.head = (q.head + 1) % q.size) ∧
         ∃ c ∈ t.hfe.cmds, c.tag = tag ∧ c.fn = fn ∧ c.sq = sq ∧ c.cid = e.cid ∧ c.kind = e.kind)) ∧
  (∀ (s : State) (tag : Nat) (c : HostCmd), s.cmd tag = some c → c.phase = .lockWait → s.blocked c = false → s.windowHit c = false →
       Does (.rangeLockGrant tag) s (fun t => t.cmd tag = some { c with phase := .locked })) ∧
  (∀ (s : State) (fn : FnIdx) (cq : Nat) (q : IoCq), tget s.hfe.cqs (qKey fn cq) = some q → q.coalesced ≠ 0 →
       Does (.coalescingTimeExpiry fn cq) s (fun t => tget t.hfe.cqs (qKey fn cq) = some { q with coalesced := 0 } ∧
         t.hfe.raised = s.hfe.raised ++ [(fn, q.vector)]))

/-- The four queue commands create and delete queues and answer success. Rests on R119. For every state and operands that meet the clause's
conditions, the command answers a next state of which the clause says: CREATE_IO_SQ and CREATE_IO_CQ of a free identifier within the grant,
with a size of 2 to 64 (and an existing completion queue or a vector in range), answer success and create the queue empty with the given
fields; DELETE_IO_SQ of a queue with nothing waiting or outstanding and DELETE_IO_CQ of a queue no submission queue uses answer success and
remove it. Status codes are those of the family (log 14). -/
def Obligations.QueueCommandsAnswer : Prop :=
  (∀ (s : State) (fn : FnIdx) (cid qid size cqid : Nat), s.AdminGoes fn cid false false → qid ≠ 0 → qid ≤ (s.fn fn).grantSq →
       tget s.hfe.sqs (qKey fn qid) = none → 2 ≤ size → size ≤ 64 → cqid ≠ 0 → (tget s.hfe.cqs (qKey fn cqid)).isSome = true →
       Does (.createIoSq fn cid qid ⟨size, true⟩ cqid) s (fun t => s.Answered t fn cid stOk 0 [] ∧
         ∃ q, tget t.hfe.sqs (qKey fn qid) = some q ∧ q.size = size ∧ q.cq = cqid ∧ q.cls = (s.func fn).defaultClass ∧ q.head = 0 ∧ q.tail = 0)) ∧
  (∀ (s : State) (fn : FnIdx) (cid qid size vector : Nat) (ien : Bool), s.AdminGoes fn cid false false → qid ≠ 0 →
       qid ≤ (s.fn fn).grantCq → tget s.hfe.cqs (qKey fn qid) = none → 2 ≤ size → size ≤ 64 → vector < (if isPf fn then 2048 else 65) →
       Does (.createIoCq fn cid qid ⟨size, true⟩ vector ien) s (fun t => s.Answered t fn cid stOk 0 [] ∧
         ∃ q, tget t.hfe.cqs (qKey fn qid) = some q ∧ q.size = size ∧ q.vector = vector ∧ q.ien = ien ∧ q.head = 0 ∧ q.tail = 0)) ∧
  (∀ (s : State) (fn : FnIdx) (cid qid size cqid : Nat), s.AdminGoes fn cid false false → qid ≠ 0 → qid ≤ (s.fn fn).grantSq →
       tget s.hfe.sqs (qKey fn qid) = none → 2 ≤ size → size ≤ 64 →
       Does (.createIoSq fn cid qid ⟨size, false⟩ cqid) s (fun t => s.Answered t fn cid stInvalidField 0 [] ∧ t.hfe.sqs = s.hfe.sqs)) ∧
  (∀ (s : State) (fn : FnIdx) (cid qid size vector : Nat) (ien : Bool), s.AdminGoes fn cid false false → qid ≠ 0 →
       qid ≤ (s.fn fn).grantCq → tget s.hfe.cqs (qKey fn qid) = none → 2 ≤ size → size ≤ 64 →
       Does (.createIoCq fn cid qid ⟨size, false⟩ vector ien) s (fun t => s.Answered t fn cid stInvalidField 0 [] ∧
         tget t.hfe.cqs (qKey fn qid) = none)) ∧
  (∀ (s : State) (fn : FnIdx) (cid qid : Nat) (q : IoSq), s.AdminGoes fn cid false false → qid ≠ 0 → tget s.hfe.sqs (qKey fn qid) = some q →
       q.waiting = 0 → s.hfe.sqs = [(qKey fn qid, q)] → qid < 8192 → s.outstanding fn qid = 0 →
       Does (.deleteIoSq fn cid qid) s (fun t => s.Answered t fn cid stOk 0 [] ∧ tget t.hfe.sqs (qKey fn qid) = none)) ∧
  (∀ (s : State) (fn : FnIdx) (cid qid : Nat), s.AdminGoes fn cid false false → qid ≠ 0 → (tget s.hfe.cqs (qKey fn qid)).isNone = false →
       s.hfe.sqs.any (fun q => decide (q.1 / 8192 = fn.val) && q.2.cq == qid) = false →
       Does (.deleteIoCq fn cid qid) s (fun t => s.Answered t fn cid stOk 0 [] ∧ tget t.hfe.cqs (qKey fn qid) = none))

/-- Admin commands answer, and set what their rules say, when the controller takes them. Rests on R144, R116, R126, R118, R141, R124, R131,
R114. For every state and operands that meet the clause's conditions, the command answers a next state of which the clause says: the error
log page returns the function's entries; IDENTIFY returns the namespace's structure; ABORT of no such command answers 1 and of an abortable
one ends it; NUMBER_OF_QUEUES grants and records; POWER_MANAGEMENT between Full and Trim sets the state; QUEUE_CLASS, PROTECTION_WINDOW,
ARBITRATION and plain features store their value; GET_FEATURES answers the value; an AER is kept; an unknown opcode answers Invalid Opcode.
Status codes and unspecified page bytes: log 14, 33. -/
def Obligations.AdminCommandsAnswer : Prop :=
  (∀ (s : State) (fn : FnIdx) (cid lsp length : Nat), s.AdminGoes fn cid true true →
       Does (.getLogPage fn cid 0x01 lsp length) s (fun t => s.Answered t fn cid stOk 0 ((s.fn fn).errLog.map statusWord))) ∧
  (∀ (s : State) (fn : FnIdx) (cid nsid : Nat), s.AdminGoes fn cid true true → nsid ≠ 0 → nsid ≤ 1024 →
       Does (.identify fn cid 0x00 nsid) s (fun t => s.Answered t fn cid stOk 0 (s.identifyNs fn nsid))) ∧
  (∀ (s : State) (fn : FnIdx) (cid sqid target : Nat), s.AdminGoes fn cid false false → sqid ≠ 0 →
       s.hfe.cmds.find? (fun c => decide (c.fn = fn ∧ c.sq = sqid ∧ c.cid = target)) = none →
       Does (.abortCommand fn cid sqid target) s (fun t => s.Answered t fn cid stOk 1 [])) ∧
  (∀ (s : State) (fn : FnIdx) (cid sqid target : Nat) (c : HostCmd), s.AdminGoes fn cid false false → sqid ≠ 0 → (c.fn, c.sq, c.cid) = (fn, sqid, target) →
       s.hfe.cmds = [c] → s.abortable c = true →
       Does (.abortCommand fn cid sqid target) s (fun t => ∃ e ∈ t.hfe.collector, e.tag = some c.tag ∧ e.cqe.status = stAbortRequested)) ∧
  (∀ (s : State) (fn : FnIdx) (cid nsq ncq : Nat), s.AdminGoes fn cid false false → s.serialBusy = false → (s.fn fn).nqDone = false →
       nsq ≠ 0 → ncq ≠ 0 →
       Does (.setFeaturesNumberOfQueues fn cid nsq ncq) s (fun t =>
         s.Answered t fn cid stOk (s.grantWord (s.grantOf fn nsq FnSt.grantSq) (s.grantOf fn ncq FnSt.grantCq)) [] ∧
         (t.fn fn).nqDone = true ∧ (t.fn fn).grantSq = s.grantOf fn nsq FnSt.grantSq ∧ (t.fn fn).grantCq = s.grantOf fn ncq FnSt.grantCq)) ∧
  (∀ (s : State) (fn : FnIdx) (cid ps : Nat), s.AdminGoes fn cid false false → s.hfe.formats.any (fun x => x.who.isSome) = false →
       (s.hfe.sanitize.bind (·.who)).isSome = false → ps ≤ 1 → s.fld Fld.PWR_STATE.STATE ≤ 1 → ps ≠ s.fld Fld.PWR_STATE.STATE →
       s.pwr.psRun = none →
       Does (.setFeaturesPowerManagement fn cid ps) s (fun t => s.Answered t fn cid stOk 0 [] ∧ t.fld Fld.PWR_STATE.STATE = ps)) ∧
  (∀ (s : State) (fn : FnIdx) (cid sqid cls : Nat) (q : IoSq), s.AdminGoes fn cid false false → sqid ≠ 0 →
       tget s.hfe.sqs (qKey fn sqid) = some q →
       Does (.setFeaturesQueueClass fn cid sqid cls) s (fun t => s.Answered t fn cid stOk 0 [] ∧
         tget t.hfe.sqs (qKey fn sqid) = some { q with cls := cls % 4 })) ∧
  (∀ (s : State) (fn : FnIdx) (cid nsid index start count flags token : Nat), s.AdminGoes fn cid false false → (s.nsFor fn nsid).isNone = false →
       tget s.hfe.windows (windowKey nsid index) = none → count ≠ 0 →
       Does (.setFeaturesProtectionWindow fn cid nsid index start count flags token) s (fun t => s.Answered t fn cid stOk 0 [] ∧
         tget t.hfe.windows (windowKey nsid index) = some ⟨start, count, decide (flags % 2 = 1)⟩)) ∧
  (∀ (s : State) (fn : FnIdx) (cid value : Nat), s.AdminGoes fn cid false false →
       Does (.setFeaturesArbitration fn cid value) s (fun t => s.Answered t fn cid stOk 0 [] ∧
         tget (t.fn fn).feats 0x01 = some (value % 2 ^ 32))) ∧
  (∀ (s : State) (fn : FnIdx) (cid fid value : Nat) (table : List Nat), s.AdminGoes fn cid false false → plainFeature fid = true → s.serialBusy = false →
       Does (.setFeaturesOther fn cid fid ⟨value, table⟩) s (fun t => s.Answered t fn cid stOk 0 [] ∧
         tget (t.fn fn).feats fid = some (value % 2 ^ 32) ∧ (t.fn fn).apst = (if fid = 0x0C then table.take 32 else (s.fn fn).apst))) ∧
  (∀ (s : State) (fn : FnIdx) (cid fid arg v : Nat) (l : List Nat), s.AdminGoes fn cid false true → s.feature fn fid arg = some (v, l) →
       Does (.getFeatures fn cid fid arg) s (fun t => s.Answered t fn cid stOk v l)) ∧
  (∀ (s : State) (fn : FnIdx) (cid : Nat), s.AdminGoes fn cid false true → (s.fn fn).aers.length < 4 →
       Does (.asynchronousEventRequest fn cid) s (fun t => (t.fn fn).aers = (s.fn fn).aers ++ [cid] ∧ t.hfe.posted = s.hfe.posted)) ∧
  (∀ (s : State) (fn : FnIdx) (cid : Nat), s.AdminGoes fn cid false false →
       Does (.invalidOpcodeCommand fn 0 cid) s (fun t => s.Answered t fn cid stInvalidOpcode 0 []))

/-- Format and sanitize operations are taken, save their watermark and end. Rests on R134, R135, R136. For every state and operands that meet
the clause's conditions, the command answers a next state of which the clause says: FORMAT_NVM of a namespace with no other serial operation
and no locked window takes the operation; SANITIZE overwrite (with its pattern, passes and inversion) and crypto erase take theirs; exit-
failure answers success and clears a failed status; the watermark advances by 65,536; the end of a format with nothing left removes it; a
sanitize ends with status 3 when an array has failed and 1 otherwise. Readings: log 33. -/
def Obligations.FormatAndSanitizeRun : Prop :=
  (∀ (s : State) (fn : FnIdx) (cid nsid ses : Nat) (n : NsEntry), s.AdminGoes fn cid false false → s.serialBusy = false → nsid ≠ 0xFFFFFFFF →
       s.nsFor fn nsid = some n → s.bit Fld.HFE_STATUS.REPLAY_PENDING = false → ses ≤ 2 → s.formatting nsid = false →
       s.lockedWindow nsid = false →
       Does (.formatNvm fn cid nsid ses ⟨0, 0, 0, 0⟩) s (fun t => ∃ x ∈ t.hfe.formats, x.nsid = nsid ∧ x.ses = ses ∧
         (x.started = true ∨ x.who = some (fn, cid)))) ∧
  (∀ (s : State) (fn : FnIdx) (cid pattern passes : Nat) (invert : Bool), s.AdminGoes fn cid false false → s.serialBusy = false → isPf fn = true →
       s.bit Fld.HFE_STATUS.REPLAY_PENDING = false →
       (((s.img.running.map (·.namespaces)).getD []).map (·.nsid)).any (fun n => s.lockedWindow n) = false →
       Does (.sanitizeOverwrite fn cid pattern passes invert) s (fun t => ∃ x, t.hfe.sanitize = some x ∧ x.action = 3 ∧ x.pattern = pattern ∧
         x.passes = (if passes % 16 = 0 then 16 else passes % 16) ∧ x.invert = invert)) ∧
  (∀ (s : State) (fn : FnIdx) (cid : Nat), s.AdminGoes fn cid false false → s.serialBusy = false → isPf fn = true →
       s.bit Fld.HFE_STATUS.REPLAY_PENDING = false →
       (((s.img.running.map (·.namespaces)).getD []).map (·.nsid)).any (fun n => s.lockedWindow n) = false →
       Does (.sanitizeCryptoErase fn cid) s (fun t => ∃ x, t.hfe.sanitize = some x ∧ x.action = 4)) ∧
  (∀ (s : State) (fn : FnIdx) (cid : Nat), s.AdminGoes fn cid false false → s.serialBusy = false → isPf fn = true →
       Does (.sanitizeOther fn cid 1) s (fun t => s.Answered t fn cid stOk 0 [] ∧
         t.hfe.sanStatus = if s.hfe.sanStatus = 3 then 0 else s.hfe.sanStatus)) ∧
  (∀ (s : State) (nsid : Nat) (x : SanitizeOp), s.bit Fld.HFE_STATUS.REPLAY_PENDING = false → s.hfe.sanitize = some x → x.started = true →
       Does (.formatWatermarkSave nsid) s (fun t => t.hfe.sanitize = some { x with marks := s.rbe.arrays.foldl (fun (m : Tbl Nat) (a : Nat × Arr) =>
         tput m a.1 (min ((tget x.marks a.1).getD 0 + 65536) (groupsFor a.2.cur.dataSectors))) x.marks })) ∧
  (∀ (s : State) (nsid : Nat), s.bit Fld.HFE_STATUS.REPLAY_PENDING = false → s.hfe.formats.any (fun f => decide (f.nsid = nsid ∧ f.started = true)) = true → s.formatLeft nsid = [] → s.nsClean nsid = true →
       Does (.formatEnd nsid) s (fun t => t.hfe.formats = s.hfe.formats.filter (fun f => f.nsid ≠ nsid))) ∧
  (∀ (s : State) (x : SanitizeOp), s.bit Fld.HFE_STATUS.REPLAY_PENDING = false → s.hfe.sanitize = some x → x.started = true →
       s.rbe.arrays.any (fun a => decide (a.2.stateCode = 4)) = true →
       Does .sanitizeEnd s (fun t => t.hfe.sanitize = none ∧ t.hfe.sanStatus = 3)) ∧
  (∀ (s : State) (x : SanitizeOp), s.bit Fld.HFE_STATUS.REPLAY_PENDING = false → s.hfe.sanitize = some x → x.started = true →
       s.rbe.arrays.any (fun a => decide (a.2.stateCode = 4)) = false →
       s.wc.updates = [] → s.hasDirty = false → Does .sanitizeEnd s (fun t => t.hfe.sanitize = none ∧ t.hfe.sanStatus = 1))

/-- Host commands that hold their lock flush, write, read, verify, zero, trim and post. Rests on R115, R147, R267, R268, R114, R139. For every
state and operands that meet the clause's conditions, the command answers a next state of which the clause says: a FLUSH with nothing to
wait for ends with success, and waits otherwise; a WRITE sends its sectors to the cipher engine with fresh counters; a READ of an empty
cached sector answers zeros and of cached data sends it to be deciphered; VERIFY of a cached empty sector ends with success; WRITE_ZEROES
and a deallocate of one sector leave it dirty and empty; COMPLETION_POST moves the entry from the collector to the posted list. Readings:
log 32; the ciphers are uninterpreted (log 9). -/
def Obligations.HostIoCommandsTakeEffect : Prop :=
  (∀ (s : State) (tag : Nat) (c : HostCmd), s.cmd tag = some c → c.kind = .flush → c.phase = .locked → s.flushWaits c = false →
       Does (.nvmeFlush tag) s (fun t => s.Ended t c stOk [])) ∧
  (∀ (s : State) (tag : Nat) (c : HostCmd), s.cmd tag = some c → c.kind = .flush → c.phase = .locked → s.flushWaits c = true →
       Does (.nvmeFlush tag) s (fun t => t.cmd tag = some { c with phase := .destageWait })) ∧
  (∀ (s : State) (tag : Nat) (plain : List Blob) (c : HostCmd) (k : DataKey) (ctx : Nat), s.cmd tag = some c → c.kind = .write → c.phase = .locked →
       plain.length = c.sectors → s.mapCheck c = none → s.bit Fld.WC_STATUS.WRITE_THROUGH = false →
       s.limitQueue .limitWait = [] → s.limitFits { c with plain := plain } = true →
       tget s.cip.keys c.nsid = some k → k.exhausted = false → k.ctr + c.sectors ≤ nonceEnd → k.ctx = some ctx →
       k.ctr + c.sectors ≤ s.mark c.nsid →
       Does (.nvmeWrite tag plain) s (fun t => t.cip.waiting = s.cip.waiting ++ (rangeLbas c.ranges).mapIdx (fun i lba =>
         CMsg.mk true tag i c.cls c.order c.nsid lba ctx (k.ctr + i) ((plain[i]?).getD 0) 0 .cache))) ∧
  (∀ (s : State) (tag lba : Nat) (c : HostCmd) (l : WcLine), s.cmd tag = some c → c.kind = .read → c.phase = .locked → c.ranges = [⟨lba, 1⟩] → c.read = [] →
       s.mapCheck c = none → s.line c.nsid lba = some l → l.newest = .empty →
       Does (.nvmeRead tag) s (fun t => ∃ d, d.tag = c.tag ∧ (d.fn, d.sq, d.cid) = (c.fn, c.sq, c.cid) ∧ s.Ended t d stOk [0])) ∧
  (∀ (s : State) (tag lba ct ctx ctr gcm : Nat) (c : HostCmd) (l : WcLine) (k : DataKey), s.cmd tag = some c → c.kind = .read → c.phase = .locked →
       c.ranges = [⟨lba, 1⟩] → c.read = [] → s.mapCheck c = none → s.line c.nsid lba = some l → l.newest = .data ct ctx ctr gcm →
       tget s.cip.keys c.nsid = some k →
       Does (.nvmeRead tag) s (fun t => t.cip.waiting = s.cip.waiting ++ [⟨false, tag, 0, c.cls, c.order, c.nsid, lba, ctx, ctr, ct, gcm, .cache⟩])) ∧
  (∀ (s : State) (tag lba : Nat) (c : HostCmd) (l : WcLine), s.cmd tag = some c → c.kind = .verify → c.phase = .locked → c.ranges = [⟨lba, 1⟩] → c.read = [] →
       s.mapCheck c = none → s.line c.nsid lba = some l → l.newest = .empty →
       Does (.nvmeVerify tag) s (fun t => ∃ d, d.tag = c.tag ∧ (d.fn, d.sq, d.cid) = (c.fn, c.sq, c.cid) ∧ s.Ended t d stOk [])) ∧
  (∀ (s : State) (tag lba : Nat) (c : HostCmd), s.cmd tag = some c → c.kind = .writeZeroes → c.phase = .locked → c.ranges = [⟨lba, 1⟩] →
       s.mapCheck c = none → s.bit Fld.WC_STATUS.WRITE_THROUGH = false → s.limitQueue .limitWait = [] → s.limitFits c = true →
       Does (.writeZeroes tag) s (fun t => ∃ l, t.line c.nsid lba = some l ∧ l.isDirty = true ∧ l.newest = .empty)) ∧
  (∀ (s : State) (tag lba : Nat) (c : HostCmd), s.cmd tag = some c → c.kind = .dsm → c.phase = .locked → c.dealloc = true → c.ranges = [⟨lba, 1⟩] →
       s.mapCheck c = none → s.bit Fld.WC_STATUS.WRITE_THROUGH = false → s.limitQueue .limitWait = [] → s.limitFits c = true →
       Does (.datasetManagement tag) s (fun t => ∃ l, t.line c.nsid lba = some l ∧ l.isDirty = true ∧ l.newest = .empty)) ∧
  (∀ (s : State) (tag : Nat) (c : HostCmd), s.cmd tag = some c → c.kind = .dsm → c.phase = .locked → c.dealloc = false →
       Does (.datasetManagement tag) s (fun t => s.Ended t c stOk [] ∧ t.wc.lines = s.wc.lines)) ∧
  (∀ (s : State) (hp : HostPort) (e : Collected), s.pwr.fast = .running → s.err.active = none → s.bit Fld.ERR_STATUS.FATAL_HOLD = false →
       s.nextPost hp.val = some e → e.cqe.sq ≠ 0 → s.hfe.sqs.any (fun q => q.2.deleting.isSome) = false → s.hfe.formats = [] → s.hfe.sanitize = none →
       Does (.completionPost hp) s (fun t => t.hfe.collector = s.hfe.collector.erase e ∧
         ∃ h, t.hfe.posted = s.hfe.posted ++ [{ e.cqe with sqHead := h }]))

/-- Enabling a controller, the resets of functions, and PERST and hot reset. Rests on R119, R137, R138, R112, R110. For every state and operands
that meet the clause's conditions, the command answers a next state of which the clause says: CC_ENABLE of a disabled function with admin
queues of a size in range makes it ready; FLR of a VF and CC.EN cleared disable the function, drop its commands and queues and mark it
resetting; NSSR, PERST and a hot reset do so for every enabled function (of the port); the completion ends the resetting; PERST release
records the level alone. NSSR reaches both ports (DEDUCED, log 32). -/
def Obligations.FunctionResetsTakeEffect : Prop :=
  (∀ (s : State) (fn : FnIdx) (asqs acqs : Nat), s.fnEnabled fn = true → (s.fn fn).en = false → (s.fn fn).resetting = false →
       s.pwr.fast = .running → (s.pwr.perstLow[fnPort fn]?).getD false = false → 1 ≤ asqs → 1 ≤ acqs → asqs ≤ 31 → acqs ≤ 31 →
       Does (.ccEnable fn asqs acqs) s (fun t => (t.fn fn).en = true ∧ (t.fn fn).rdy = true ∧ (t.fn fn).asqs = asqs ∧ (t.fn fn).acqs = acqs)) ∧
  (∀ (s : State) (fn : FnIdx), s.fnEnabled fn = true → isPf fn = false → s.hfe.formats = [] → s.hfe.sanitize = none →
       Does (.functionReset fn .flr) s (fun t => (t.fn fn).en = false ∧ (t.fn fn).resetting = true ∧
         t.hfe.cmds.any (fun c => decide (c.fn = fn)) = false ∧ t.hfe.sqs.any (fun q => q.1 / 8192 == fn.val) = false)) ∧
  (∀ (s : State) (fn : FnIdx), s.fnEnabled fn = true → (s.fn fn).en = true → s.hfe.formats = [] → s.hfe.sanitize = none →
       Does (.functionReset fn .ccClear) s (fun t => (t.fn fn).en = false ∧ (t.fn fn).resetting = true ∧
         t.hfe.cmds.any (fun c => decide (c.fn = fn)) = false ∧ t.hfe.sqs.any (fun q => q.1 / 8192 == fn.val) = false)) ∧
  (∀ (s : State) (fn : FnIdx), (s.fn fn).resetting = true →
       Does (.functionResetComplete fn) s (fun t => (t.fn fn).resetting = false ∧ (t.fn fn).flagged = (s.fn fn).flagged)) ∧
  (∀ (s : State) (hp : HostPort), s.hfe.formats = [] → s.hfe.sanitize = none → s.pwr.perstLow.length = 2 →
       Does (.perstNAssert hp) s (fun t => t.pwr.perstLow[hp.val]? = some true ∧
         ∀ f : FnIdx, fnPort f = hp.val → s.fnEnabled f = true → (t.fn f).en = false ∧ (t.fn f).resetting = true)) ∧
  (∀ (s : State) (hp : HostPort), s.pwr.perstLow.length = 2 →
       Does (.perstNRelease hp) s (fun t => t.pwr.perstLow[hp.val]? = some false ∧ t.hfe = s.hfe)) ∧
  (∀ (s : State) (hp : HostPort), s.hfe.formats = [] → s.hfe.sanitize = none →
       Does (.hotReset hp) s (fun t => t.pwr.perstLow = s.pwr.perstLow ∧
         ∀ f : FnIdx, fnPort f = hp.val → s.fnEnabled f = true → (t.fn f).en = false ∧ (t.fn f).resetting = true)) ∧
  (∀ (s : State) (fn : FnIdx), s.fnEnabled fn = true → s.hfe.formats = [] → s.hfe.sanitize = none →
       Does (.functionReset fn .nssr) s (fun t => ∀ f : FnIdx, s.fnEnabled f = true → (t.fn f).en = false ∧ (t.fn f).resetting = true))

/-- Placed writes end, the dirty limit admits, namespaces are marked dirty, the mirror acknowledges or is lost. Rests on R147, R152, R172, R318,
R148. For every state and operands that meet the clause's conditions, the command answers a next state of which the clause says: a placed
write with nothing to wait for ends with success; the limit admits the waiting zeroing write; recomputing shows both limits; a set
acknowledgement records the namespace dirty and a clear of a clean one removes it; MIRROR_ACK takes the oldest unacknowledged item;
MIRROR_LOST clears both mirror bits and sets MIRROR_LOST. Readings: log 30. -/
def Obligations.WritePathFrontTakesEffect : Prop :=
  (∀ (s : State) (tag : Nat) (c : HostCmd), s.cmd tag = some c → c.phase = .placing → s.sealing tag = false → s.wc.dirtyNs.contains c.nsid = true →
       s.capo.unacked = [] → c.fua = false → c.through = false → c.dirtyWait = false →
       Does (.writePlaced tag) s (fun t => ∃ d, d.tag = c.tag ∧ (d.fn, d.sq, d.cid) = (c.fn, c.sq, c.cid) ∧ s.Ended t d stOk [])) ∧
  (∀ (s : State) (c : HostCmd) (lba : Nat), s.cmd c.tag = some c → c.kind = .writeZeroes → c.ranges = [⟨lba, 1⟩] → s.limitQueue .limitWait = [c] →
       s.limitQueue .throughWait = [] → s.limitFits c = true →
       Does .dirtyLimitAdmit s (fun t => ∃ l, t.line c.nsid lba = some l ∧ l.isDirty = true ∧ l.newest = .empty)) ∧
  (∀ s : State, Does .dirtyLimitRecompute s (fun t => t.fld Fld.WC_LIMIT_CFG.MIB = s.limitCfg % 2 ^ 17 ∧
       t.fld Fld.WC_LIMIT_VAULT.MIB = s.limitVault % 2 ^ 17)) ∧
  (∀ (s : State) (nsid : Nat), s.wc.dirtyNsSet.contains nsid = true →
       Does (.dirtyNamespaceSetAck nsid) s (fun t => nsid ∈ t.wc.dirtyNs ∧ nsid ∉ t.wc.dirtyNsSet)) ∧
  (∀ (s : State) (nsid : Nat), s.nsClean nsid = true → Does (.dirtyNamespaceClear nsid) s (fun t => nsid ∉ t.wc.dirtyNs)) ∧
  (∀ (s : State) (i : MirrorItem) (r : List MirrorItem), s.capo.unacked = i :: r → s.wc.updates = [] →
       Does .mirrorAck s (fun t => t.capo.unacked = r)) ∧
  (∀ s : State, s.mirrored = true → Does .mirrorLost s (fun t => t.bit Fld.WC_STATUS.MIRROR_ON = false ∧ t.bit Fld.WC_STATUS.MIRROR_LOST = true ∧
       t.bit Fld.PAIR_STATUS.MIRROR_ON = false))

/-- Stripe updates start, read, save their context, set and clear fret bits, write data and parity and end. Rests on R157, R159, R161, R174,
R158, R160. For every state and operands that meet the clause's conditions, the command answers a next state of which the clause says: a due
stripe, an aged sector and a gathered stripe each start one update at step 2 with the stripe's dirty sectors; the reads' end gives step 3; a
saved context gives step 4 or later, with the partner's acknowledgement awaited when mirrored; a fret set is acknowledged into the map; data
writes' end gives step 7; parity writes' end removes and counts the update; idle fret bits are cleared; DESTAGE_ALL and CLEAR_IDLE do so at
once. Readings: log 30. -/
def Obligations.StripeUpdatesAdvance : Prop :=
  (∀ (s : State) (a : ArrayId) (stripe : Nat) (r : Arr) (g : Geom), s.arr a = some r → r.geom false = some g → s.stripeLines a r false stripe ≠ [] →
       s.acFail = false → s.gateOpen = true → s.pwr.fast = .running → s.bit Fld.HFE_STATUS.REPLAY_PENDING = false → s.wc.updates = [] →
       s.destageDue g (s.stripeLines a r false stripe) = true → s.destageTurn a stripe = true →
       Does (.stripeUpdateStart a stripe) s (fun t => ∃ u, t.wc.updates = [u] ∧ u.array = a ∧ u.stripe = stripe ∧ u.previous = false ∧ u.step = 2 ∧
         u.sectors.map (fun x => (x.nsid, x.lba)) = (s.stripeLines a r false stripe).map (fun x => (keyNs x.1, keyLba x.1)))) ∧
  (∀ (s : State) (nsid lba : Nat) (l : WcLine) (a : ArrayId) (x : Nat) (r : Arr) (g : Geom), s.line nsid lba = some l → s.spot nsid lba = some (a, x) →
       l.state = .dirty → s.arr a = some r → r.geom false = some g → s.stripeLines a r false (r.place x).stripe ≠ [] →
       s.acFail = false → s.gateOpen = true → s.pwr.fast = .running → s.bit Fld.HFE_STATUS.REPLAY_PENDING = false → s.wc.updates = [] →
       Does (.dirtyAgeExpiry nsid lba) s (fun t => ∃ u, t.wc.updates = [u] ∧ u.array = a ∧ u.stripe = (r.place x).stripe ∧ u.previous = false ∧ u.step = 2)) ∧
  (∀ (s : State) (a : ArrayId) (stripe : Nat) (r : Arr) (g : Geom), s.arr a = some r → r.geom false = some g → s.stripeLines a r false stripe ≠ [] →
       s.acFail = false → s.gateOpen = true → s.pwr.fast = .running → s.bit Fld.HFE_STATUS.REPLAY_PENDING = false → s.wc.updates = [] →
       s.limitBytes * s.wcCfg.startPct < s.vaulted * 100 →
       Does (.gatherExpiry a stripe) s (fun t => ∃ u, t.wc.updates = [u] ∧ u.array = a ∧ u.stripe = stripe ∧ u.previous = false ∧ u.step = 2)) ∧
  (∀ (s : State) (id : Nat) (u : Update) (r : Arr) (g : Geom), s.upd id = some u → s.updGeom u = some (r, g) → u.step = 2 →
       s.memberBusy (.update id) = false →
       Does (.stripeUpdateReadsDone id) s (fun t => ∃ v, t.upd id = some v ∧ v.step = 3 ∧ v.sectors = u.sectors ∧ v.rows = u.rows)) ∧
  (∀ (s : State) (id : Nat) (u : Update), s.upd id = some u → u.step = 3 →
       (s.wc.updates.filter (fun v => 4 ≤ v.step)).length < s.wcCfg.maxUpdates →
       s.ctxUsed + u.read.length * 4096 ≤ s.wcCfg.contextMib * 2 ^ 20 →
       Does (.stripeUpdateContextSaved id) s (fun t => ∃ v, t.upd id = some v ∧ 4 ≤ v.step ∧ v.sectors = u.sectors ∧ v.pq = u.pq ∧
         (s.mirrored = true → v.step = 4 ∧ v.partnerWait = true))) ∧
  (∀ (s : State) (id : Nat) (o : FretOp), o ∈ s.wc.fretOps → o.set = true → o.update = some id →
       Does (.fretSetAck id) s (fun t => o.bit ∈ t.wc.fret ∧ o ∉ t.wc.fretOps)) ∧
  (∀ (s : State) (id : Nat) (u : Update) (r : Arr) (g : Geom), s.upd id = some u → s.updGeom u = some (r, g) → u.step = 6 →
       s.memberBusy (.update id) = false → s.gateOpen = true → s.acFail = false →
       Does (.dataWritesDone id) s (fun t => ∃ v, t.upd id = some v ∧ v.step = 7)) ∧
  (∀ (s : State) (id : Nat) (u : Update) (r : Arr) (g : Geom), s.upd id = some u → s.updGeom u = some (r, g) → u.step = 7 →
       s.memberBusy (.update id) = false → s.gateOpen = true → s.acFail = false →
       Does (.parityWritesDone id) s (fun t => t.upd id = none ∧ t.fld Fld.WC_UPDATE_COUNT = (s.fld Fld.WC_UPDATE_COUNT + 1) % 2 ^ Fld.WC_UPDATE_COUNT.width)) ∧
  (∀ (s : State) (bit : Nat), s.clearable bit = true → Does (.fretClear bit) s (fun t => t.wc.fretOps = s.wc.fretOps ++ [⟨bit, false, none⟩])) ∧
  (∀ (s : State) (bit : Nat) (o : FretOp), o ∈ s.wc.fretOps → o.bit = bit → o.set = false →
       Does (.fretClearAck bit) s (fun t => bit ∉ t.wc.fret ∧ o ∉ t.wc.fretOps)) ∧
  (∀ s : State, s.Takes Fld.WC_CMD.CMD.addr → Does .wcDestageAll s (fun t => t.wc.destageAll = s.wc.lines.any (fun l => l.2.isDirty))) ∧
  (∀ (s : State) (b : Nat), s.Takes Fld.WC_CMD.CMD.addr → s.wc.fret = [b] → s.clearable b = true → tget s.wc.lastSet b = none →
       Does .wcClearIdle s (fun t => t.wc.fretOps = s.wc.fretOps ++ [⟨b, false, none⟩]))

/-- Vault areas are retired and erased, a dump is replayed, reruns and resync scans advance. Rests on R166, R369, R167, R207, R170. For every
state and operands that meet the clause's conditions, the command answers a next state of which the clause says: a retirable dump is retired
and its area erased; the erase empties the area; a pending replay with an open gate starts with its dump, restores the saved sectors and
contexts, and completes when no update is left; an unclean reshape step is rerun; the resync scan advances by a stripe. Readings: log 30,
15. -/
def Obligations.VaultAreasAndReplayTakeEffect : Prop :=
  (∀ (s : State) (area : Fin 2) (d : Dump), tget s.vault.dumps area.val = some d → s.retirable area.val d = true →
       Does (.dumpRetire area) s (fun t => tget t.vault.dumps area.val = some { d with retired := true } ∧ area.val ∈ t.vault.erasing ∧
         t.fld (Fld.VLT_AREA.STATE.at area.val) = 2)) ∧
  (∀ (s : State) (area : Fin 2), s.vault.erasing.contains area.val = true → s.acFail = false →
       Does (.areaEraseDone area) s (fun t => tget t.vault.dumps area.val = none ∧ area.val ∉ t.vault.erasing ∧
         t.fld (Fld.VLT_AREA.STATE.at area.val) = 0)) ∧
  (∀ (s : State) (d : Dump), s.bit Fld.HFE_STATUS.REPLAY_PENDING = true → s.wc.replay = none → s.pwr.fast = .running → s.gateOpen = true →
       s.bit Fld.PWR_STATE.BOOTING = false → s.replayDump = some d →
       Does .vaultReplayStart s (fun t => t.wc.replay = some d ∧ t.bit Fld.VLT_STATUS.REPLAYING = true)) ∧
  (∀ (s : State) (d e : Dump), s.wc.replay = some d → d.retired = false → d.spoiled s.vault.failing = e →
       Does .vaultRestoreDone s (fun t => t.wc.replay = some { e with retired := true } ∧ t.wc.updates.length = e.contexts.length ∧
         ∀ x ∈ e.sectors, x.saved = true → (t.line x.nsid x.lba).isSome = true)) ∧
  (∀ (s : State) (d : Dump), s.wc.replay = some d → d.retired = true → s.wc.updates = [] →
       Does .vaultReplayComplete s (fun t => t.wc.replay = none ∧ t.bit Fld.HFE_STATUS.REPLAY_PENDING = false ∧ t.bit Fld.VLT_STATUS.REPLAYING = false)) ∧
  (∀ (s : State) (a : ArrayId) (r : Arr), s.arr a = some r → s.wc.rerun.contains a.val = true → s.gateOpen = true → s.pwr.fast = .running →
       s.acFail = false → s.arrayUp r = true → Does (.reshapeUncleanRerun a) s (fun t => a.val ∉ t.wc.rerun)) ∧
  (∀ (s : State) (a : ArrayId) (r : Arr) (b : Nat) (rest : List Nat), s.arr a = some r → s.wc.resync = b :: rest → r.fretBase ≤ b →
       b < r.fretBase + r.fretBits → s.gateOpen = true → s.acFail = false → s.pwr.fast = .running → s.arrayUp r = true → s.wc.updates = [] →
       s.wc.resyncPos + 1 < (r.regionStripes b).length →
       Does (.resyncScanStep a) s (fun t => t.wc.resyncPos = s.wc.resyncPos + 1 ∧ t.wc.resync = s.wc.resync))

/-- Initialization, slow-member handling, rebuild, copyback, scrub and reshape advance their watermarks. Rests on R82, R185, R186, R189, R193,
R198, R199, R203. For every state and operands that meet the clause's conditions, the command answers a next state of which the clause says:
an initialization step writes a group's tags on the active members; a slow window marks a member slow and its expiry fails it; a rebuild
step and a copyback step advance their mark past the stripe they did; a scrub period starts a pass, a pass ends at the last stripe and a
scrub step advances; a reshape step advances the watermark by a stripe of the new geometry, and ends the reshape at the end. Readings: log
31. -/
def Obligations.ArrayBackgroundWorkAdvances : Prop :=
  (∀ (s : State) (a : ArrayId) (r : Arr), s.arr a = some r → s.bgGo r .init = true → r.initMark < groupsFor r.cur.dataSectors →
       Does (.backgroundInitGroup a) s (fun t => ∃ q, t.arr a = some q ∧ q.initMark = r.initMark + 1 ∧
         ∀ (x : Member) (p : PortId), x ∈ r.members → x.state = .active → x.port = some p →
           ∃ j, tget (t.mediaOf p).groups r.initMark = some (r.groupTag j r.initMark))) ∧
  (∀ (s : State) (a : ArrayId) (m median reads : Nat) (r q : Arr) (x : Member), s.arr a = some r → r.mem m = some x → x.state = .active → x.slow = false →
       q = r.modMem m (fun x => { x with median := median, reads := reads }) → q.policy.slowFactorQ4 * q.slowRef < 16 * median → 100 ≤ reads →
       Does (.slowWindowEval a m median reads) s (fun t => ∃ q y, t.arr a = some q ∧ q.mem m = some y ∧ y.slow = true ∧ y.slowSince = s.now)) ∧
  (∀ (s : State) (a : ArrayId) (m : Nat) (r : Arr) (x : Member), s.arr a = some r → r.mem m = some x → x.slow = true →
       x.state = .active ∨ x.state = .rebuilding → (r.downMembers.filter (fun i => i ≠ m)).length < 2 →
       Does (.slowFailExpiry a m) s (fun t => ∃ q y, t.arr a = some q ∧ q.mem m = some y ∧ y.state = .failed)) ∧
  (∀ (s : State) (a : ArrayId) (m : Nat) (r : Arr) (x : Member), s.arr a = some r → r.mem m = some x → x.slow = true →
       x.state = .active ∨ x.state = .rebuilding → 2 ≤ (r.downMembers.filter (fun i => i ≠ m)).length →
       Does (.slowFailExpiry a m) s (fun t => t.arr a = some r ∧ t.evr.arrivals.length = s.evr.arrivals.length + 1)) ∧
  (∀ (s : State) (a : ArrayId) (r q : Arr) (t0 : Nat), s.arr a = some r → s.bgGo r .critical = false → s.bgGo r .mainPass = true →
       nextFrom (fun t => r.toRebuild t || (r.epochsAt t).any (fun e => !stripeMaps e.2 t)) (r.stripes - r.mainMark) r.mainMark = some t0 →
       (r.epochsAt t0).any (fun e => !stripeMaps e.2 t0) = false → (r.epochsAt t0).any (fun e => s.stripeBusy a e.1 t0) = false →
       (s.rebuildAt a r t0).arr a = some q →
       Does (.rebuildStripe a) s (fun t => t.arr a = some { (q.markMain r.mainMark (t0 + 1)) with mainMark := t0 + 1 })) ∧
  (∀ (s : State) (a : ArrayId) (r q : Arr) (m t0 : Nat), s.arr a = some r → s.bgGo r .copyback = true → r.copyIndex = some m →
       nextFrom (fun t => (r.epochsAt t).any (fun e => (unitOn e.2 t m).isSome || !stripeMaps e.2 t))
         (r.stripes - ((r.mem m).map (·.rebuiltTo)).getD 0) (((r.mem m).map (·.rebuiltTo)).getD 0) = some t0 →
       (r.epochsAt t0).any (fun e => !stripeMaps e.2 t0) = false → (r.epochsAt t0).any (fun e => s.stripeBusy a e.1 t0) = false →
       ((r.epochsAt t0).foldl (fun (st : State) e => st.copyUnit a e.2 t0 m) s).arr a = some q →
       Does (.copybackUnit a) s (fun t => t.arr a = some { (q.modMem m (fun x => { x with rebuiltTo := t0 + 1 })) with copyMark := t0 + 1 })) ∧
  (∀ (s : State) (a : ArrayId) (r : Arr), s.arr a = some r → r.policy.flags / 2 % 2 = 1 → r.wants.contains .scrub = false →
       Does (.scrubPeriodStart a) s (fun t => ∃ q, t.arr a = some q ∧ q.wants.contains .scrub = true ∧ q.scrubMark = 0 ∧
         q.scrubDue = s.now + r.policy.scrubPeriodDays * 86400 * sec)) ∧
  (∀ (s : State) (a : ArrayId) (r : Arr), s.arr a = some r → s.bgGo r .scrub = true → r.stripes ≤ r.scrubMark →
       Does (.scrubStripe a) s (fun t => ∃ q, t.arr a = some q ∧ q.wants.contains .scrub = false ∧ q.scrubMark = 0)) ∧
  (∀ (s : State) (a : ArrayId) (r q : Arr), s.arr a = some r → s.bgGo r .scrub = true → r.scrubMark < r.stripes → s.now ≤ r.scrubDue →
       (r.epochsAt r.scrubMark).any (fun e => !stripeMaps e.2 r.scrubMark) = false →
       (r.epochsAt r.scrubMark).any (fun e => s.stripeBusy a e.1 r.scrubMark) = false →
       ((r.epochsAt r.scrubMark).foldl (fun (st : State) e => st.scrubIn a e.2 r.scrubMark) s).arr a = some q → r.scrubMark + 1 < q.stripes →
       Does (.scrubStripe a) s (fun t => t.arr a = some { q with scrubMark := r.scrubMark + 1 })) ∧
  (∀ (s : State) (a : ArrayId) (r : Arr) (p : Geom), s.arr a = some r → r.prev = some p → s.bgGo r .reshape = true → p.dataSpace ≤ r.bow →
       s.wc.updates = [] → Does (.reshapeStep a) s (fun t => ∃ q, t.arr a = some q ∧ q.prev = none ∧ q.wants.contains .reshape = false)) ∧
  (∀ (s u : State) (a : ArrayId) (r : Arr) (p : Geom), s.arr a = some r → r.prev = some p → s.bgGo r .reshape = true → s.wc.updates = [] →
       r.bow + r.cur.stripeData < p.dataSpace → stripeMaps r.cur (r.bow / r.cur.stripeData) = true →
       ((List.range ((min (r.bow + r.cur.stripeData) p.dataSpace - 1) / p.stripeData + 1 - r.bow / p.stripeData)).map
         (· + r.bow / p.stripeData)).any (fun o => !stripeMaps p o) = false →
       s.reshapeOne a r p (fun st lba => st.stepSource r p lba) = some u →
       Does (.reshapeStep a) s (fun t => ∃ q, t.arr a = some q ∧ q.bow = r.bow + r.cur.stripeData))

/-- Known-answer tests of the parity slices, and the array commands. Rests on R210, R177, R186, R193, R223. For every state and operands that
meet the clause's conditions, the command answers a next state of which the clause says: KAT RUN and the periodic test take slice 0 out and
test all four; a pass returns the slice, a failure marks it failed; SCRUB_NOW, PAUSE, RESUME, FAIL_MEMBER and COPYBACK of a valid array set
what is wanted, paused or failed; HIST_CLEAR empties the histograms. Readings: log 31. -/
def Obligations.KnownAnswerTestsAndArrayCommandsTakeEffect : Prop :=
  (∀ s : State, s.Takes Fld.PQE_KAT_CMD.RUN.addr → s.pwr.fast = .running → s.bit Fld.PQE_STATUS.KAT_BUSY = false → s.fld Fld.PQE_STATUS.SLICE_ACTIVE = 15 →
       Does .katRun s (fun t => t.rbe.katTesting = [0, 1, 2, 3] ∧ t.bit Fld.PQE_STATUS.KAT_BUSY = true ∧ t.fld Fld.PQE_STATUS.SLICE_ACTIVE = 14)) ∧
  (∀ s : State, s.pwr.fast = .running → s.bit Fld.PQE_STATUS.KAT_BUSY = false → s.fld Fld.PQE_STATUS.SLICE_ACTIVE = 15 →
       Does .katPeriodic s (fun t => t.rbe.katTesting = [0, 1, 2, 3] ∧ t.bit Fld.PQE_STATUS.KAT_BUSY = true ∧ t.fld Fld.PQE_STATUS.SLICE_ACTIVE = 14)) ∧
  (∀ (s : State) (slice : Fin 4), s.rbe.katTesting = [slice.val] →
       Does (.katResult slice true) s (fun t => t.rbe.katTesting = [] ∧ t.bit Fld.PQE_STATUS.KAT_BUSY = false ∧ t.bit Fld.PQE_STATUS.KAT_LAST_FAIL = false ∧
         t.fld Fld.PQE_STATUS.SLICE_ACTIVE = (s.fld Fld.PQE_STATUS.SLICE_ACTIVE + 2 ^ slice.val) % 16)) ∧
  (∀ (s : State) (slice : Fin 4), s.rbe.katTesting = [slice.val] →
       Does (.katResult slice false) s (fun t => t.rbe.katTesting = [] ∧ t.bit Fld.PQE_STATUS.KAT_BUSY = false ∧ t.bit Fld.PQE_STATUS.KAT_LAST_FAIL = true ∧
         t.fld Fld.PQE_STATUS.SLICE_FAILED = (s.fld Fld.PQE_STATUS.SLICE_FAILED + 2 ^ slice.val) % 16)) ∧
  (∀ (s : State) (a : ArrayId) (r : Arr), s.Takes (Fld.ARR_CMD.CMD.at a.val).addr → s.arr a = some r → r.wants.contains .scrub = false →
       Does (.arrScrubNow a) s (fun t => ∃ q, t.arr a = some q ∧ q.wants.contains .scrub = true ∧ q.scrubMark = 0)) ∧
  (∀ (s : State) (a : ArrayId) (r : Arr), s.Takes (Fld.ARR_CMD.CMD.at a.val).addr → s.arr a = some r → s.arrShown r = (.scrub, 0) →
       r.pauses.any (fun p => p.1 == .scrub) = false →
       Does (.arrPause a) s (fun t => t.arr a = some (r.pause .scrub 1))) ∧
  (∀ (s : State) (a : ArrayId) (r : Arr), s.Takes (Fld.ARR_CMD.CMD.at a.val).addr → s.arr a = some r → r.pauses.any (fun p => p.2 != 6) = true →
       Does (.arrResume a) s (fun t => t.arr a = some { r with pauses := r.pauses.filter (fun p => p.2 = 6) })) ∧
  (∀ (s : State) (a : ArrayId) (m : Nat) (r : Arr) (x : Member), s.Takes (Fld.ARR_CMD.CMD.at a.val).addr → s.arr a = some r → r.mem m = some x →
       x.state = .active ∨ x.state = .rebuilding → (r.downMembers.filter (fun i => i ≠ m)).length < 2 →
       Does (.arrFailMember a m) s (fun t => ∃ q y, t.arr a = some q ∧ q.mem m = some y ∧ y.state = .failed)) ∧
  (∀ (s : State) (a : ArrayId) (m : Nat) (r : Arr) (x : Member), s.Takes (Fld.ARR_CMD.CMD.at a.val).addr → s.arr a = some r → r.mem m = some x →
       x.state = .active ∨ x.state = .rebuilding → 2 ≤ (r.downMembers.filter (fun i => i ≠ m)).length →
       Does (.arrFailMember a m) s (fun t => t.arr a = some r ∧ t.evr.arrivals.length = s.evr.arrivals.length + 1)) ∧
  (∀ (s : State) (a : ArrayId) (r : Arr) (m : Nat), s.Takes (Fld.ARR_CMD.CMD.at a.val).addr → s.arr a = some r → r.copyIndex = some m →
       r.wants.contains .copyback = false →
       Does (.arrCopyback a) s (fun t => ∃ q, t.arr a = some q ∧ q.wants.contains .copyback = true)) ∧
  (∀ s : State, s.Takes Fld.LAT_CTRL.HIST_CLEAR.addr → Does .histClear s (fun t => t.lat.hist = []))

/-- Member commands are issued, complete, run late, time out and escalate. Rests on R123, R214, R290, R292, R293, R302, R217, R180. For every
state and operands that meet the clause's conditions, the command answers a next state of which the clause says: a completion of an empty
slot is counted as late; a good completion empties its slot and is counted as a read or a write; a completion that is late empties its slot
and is dropped with its port and generation shown; a critical warning records an event, a media error is counted, a write fault is retried
while attempts are left and then not; a protocol error counts a timeout and escalates; a read of class 0, or of a class that asks for it,
past its deadline is marked late and counted as reconstructed while at most two units of its stripe are bad, and otherwise its command is
marked as outside the limit and waits; an issue moves the chosen command from the queue to the slot; a timeout begins the escalation at step
1; a done step ends it with the port ready or waiting for a drive; a timed-out step goes on to the next; a health poll queues its command.
Readings: log 39, 31. A deadline of an empty slot, of a write or of a read already late leaves the state as it was (log 8). -/
def Obligations.MemberCommandsAdvance : Prop :=
  (∀ (s : State) (port : PortId) (slot : Nat) (res : McResult), tget (s.port port).slots slot = none →
       Does (.memberCompletion port slot res) s (fun t => t.fld (Fld.SLOT_LATE_COUNT.at port.val) =
         (s.fld (Fld.SLOT_LATE_COUNT.at port.val) + 1) % 2 ^ Fld.SLOT_LATE_COUNT.width)) ∧
  (∀ (s : State) (port : PortId) (slot : Nat) (c : MCmd), tget (s.port port).slots slot = some c → s.isLate port c = false →
       Does (.memberCompletion port slot .ok) s (fun t => tget (t.port port).slots slot = none ∧
         t.fld (Fld.READ_COUNT.at port.val) = (s.fld (Fld.READ_COUNT.at port.val) + (if writeClass c.kind then 0 else 1)) % 2 ^ Fld.READ_COUNT.width ∧
         t.fld (Fld.WRITE_COUNT.at port.val) = (s.fld (Fld.WRITE_COUNT.at port.val) + (if writeClass c.kind then 1 else 0)) % 2 ^ Fld.WRITE_COUNT.width)) ∧
  (∀ (s : State) (port : PortId) (slot : Nat) (c : MCmd) (res : McResult) (st : Nat), tget (s.port port).slots slot = some c →
       s.isLate port c = true → res = .ok ∨ res = .critical ∨ res = .media st ∨ res = .writeFault st →
       Does (.memberCompletion port slot res) s (fun t => tget (t.port port).slots slot = none ∧
         t.fld Fld.HFE_LATE_DROP_COUNT = (s.fld Fld.HFE_LATE_DROP_COUNT + 1) % 2 ^ Fld.HFE_LATE_DROP_COUNT.width ∧
         t.fld Fld.HFE_LATE_DROP_INFO.PORT = port.val ∧ t.fld Fld.HFE_LATE_DROP_INFO.GEN = c.gen % 2 ^ Fld.HFE_LATE_DROP_INFO.GEN.width)) ∧
  (∀ (s : State) (port : PortId) (slot : Nat) (c : MCmd), tget (s.port port).slots slot = some c → s.isLate port c = false →
       Does (.memberCompletion port slot .critical) s (fun t => tget (t.port port).slots slot = none ∧
         t.fld (Fld.READ_COUNT.at port.val) = (s.fld (Fld.READ_COUNT.at port.val) + 1) % 2 ^ Fld.READ_COUNT.width ∧ t.evr.arrivals.length = s.evr.arrivals.length + 1)) ∧
  (∀ (s : State) (port : PortId) (slot status : Nat) (c : MCmd), tget (s.port port).slots slot = some c → s.isLate port c = false →
       Does (.memberCompletion port slot (.media status)) s (fun t => tget (t.port port).slots slot = none ∧
         t.fld (Fld.MEDIA_ERR_COUNT.at port.val) = (s.fld (Fld.MEDIA_ERR_COUNT.at port.val) + 1) % 2 ^ Fld.MEDIA_ERR_COUNT.width)) ∧
  (∀ (s : State) (port : PortId) (slot status : Nat) (c : MCmd), tget (s.port port).slots slot = some c → s.isLate port c = false →
       c.attempts < ((s.portCfg port).map (·.retries)).getD 0 →
       Does (.memberCompletion port slot (.writeFault status)) s (fun t => tget (t.port port).slots slot = none ∧
         (t.port port).waiting = { c with attempts := c.attempts + 1, unknown := true } :: (s.port port).waiting ∧
         t.fld (Fld.RETRY_COUNT.at port.val) = (s.fld (Fld.RETRY_COUNT.at port.val) + 1) % 2 ^ Fld.RETRY_COUNT.width)) ∧
  (∀ (s : State) (port : PortId) (slot status : Nat) (c : MCmd), tget (s.port port).slots slot = some c → s.isLate port c = false →
       ((s.portCfg port).map (·.retries)).getD 0 ≤ c.attempts →
       Does (.memberCompletion port slot (.writeFault status)) s (fun t => tget (t.port port).slots slot = none ∧
         t.fld (Fld.RETRY_COUNT.at port.val) = s.fld (Fld.RETRY_COUNT.at port.val))) ∧
  (∀ (s : State) (port : PortId) (slot status : Nat) (c : MCmd), tget (s.port port).slots slot = some c →
       Does (.memberCompletion port slot (.protocol status)) s (fun t =>
         t.fld (Fld.TIMEOUT_COUNT.at port.val) = (s.fld (Fld.TIMEOUT_COUNT.at port.val) + 1) % 2 ^ Fld.TIMEOUT_COUNT.width ∧
         (t.port port).esc = ((s.port port).esc.orElse (fun _ => if s.portMode port = 4 then some ⟨2, none⟩ else some ⟨1, some slot⟩)))) ∧
  (∀ (s : State) (port : PortId) (slot tag : Nat) (a : ArrayId) (c : MCmd) (h : HostCmd) (e : ClassEntry) (r : Arr) (g : Geom),
       tget (s.port port).slots slot = some c → c.owner = .host tag → s.cmd tag = some h → (s.classAt h.order).classes[c.cls]? = some e →
       e.memberDeadlineUs ≠ 0 → c.cls = 0 ∨ e.flags % 2 = 1 → c.kind = .read → c.late = false → s.isLate port c = false → c.array = a.val →
       s.arr a = some r → r.geom c.previous = some g →
       ((s.markLate port slot c).badFor h a r g ⟨c.previous, c.stripe, c.unit, 0⟩).length ≤ 2 →
       Does (.memberDeadline port slot) s (fun t => tget (t.port port).slots slot = some { c with late := true } ∧
         t.fld (Fld.LAT_RECON.at c.cls) = (s.fld (Fld.LAT_RECON.at c.cls) + 1) % 2 ^ Fld.LAT_RECON.width)) ∧
  (∀ (s : State) (port : PortId) (slot tag : Nat) (a : ArrayId) (c : MCmd) (h : HostCmd) (e : ClassEntry) (r : Arr) (g : Geom),
       tget (s.port port).slots slot = some c → c.owner = .host tag → s.cmd tag = some h → (s.classAt h.order).classes[c.cls]? = some e →
       e.memberDeadlineUs ≠ 0 → c.cls = 0 ∨ e.flags % 2 = 1 → c.kind = .read → c.late = false → s.isLate port c = false → c.array = a.val →
       s.arr a = some r → r.geom c.previous = some g →
       2 < ((s.markLate port slot c).badFor h a r g ⟨c.previous, c.stripe, c.unit, 0⟩).length → h.phase ≠ .collected →
       Does (.memberDeadline port slot) s (fun t => tget (t.port port).slots slot = some { c with late := true } ∧
         t.fld (Fld.LAT_RECON.at c.cls) = s.fld (Fld.LAT_RECON.at c.cls) ∧ ∃ d, t.cmd tag = some d ∧ d.outside = true)) ∧
  (∀ (s : State) (port : PortId) (slot : Nat), tget (s.port port).slots slot = none →
       Does (.memberDeadline port slot) s (fun t => t = s)) ∧
  (∀ (s : State) (port : PortId) (slot : Nat) (c : MCmd), tget (s.port port).slots slot = some c → c.kind ≠ .read ∨ c.late = true →
       Does (.memberDeadline port slot) s (fun t => t = s)) ∧
  (∀ (s : State) (port : PortId) (pick : Cls) (i slot : Nat) (c : MCmd), s.portState port = 4 → s.pwr.fast = .running →
       s.nextIssue port pick = some (i, c) → s.freeSlot port c.cls = some slot →
       Does (.memberCommandIssue port pick) s (fun t => tget (t.port port).slots slot = some { c with issuedAt := s.now } ∧
         (t.port port).waiting = (s.port port).waiting.eraseIdx i)) ∧
  (∀ (s : State) (port : PortId) (slot : Nat) (c : MCmd), tget (s.port port).slots slot = some c →
       Does (.memberTimeout port slot) s (fun t =>
         t.fld (Fld.TIMEOUT_COUNT.at port.val) = (s.fld (Fld.TIMEOUT_COUNT.at port.val) + 1) % 2 ^ Fld.TIMEOUT_COUNT.width ∧
         (t.port port).esc = ((s.port port).esc.orElse (fun _ => if s.portMode port = 4 then some ⟨2, none⟩ else some ⟨1, some slot⟩)))) ∧
  (∀ (s : State) (port : PortId) (e : Escalation), (s.port port).esc = some e → e.step ≠ 1 →
       Does (.escalationStepDone port) s (fun t => (t.port port).esc = none ∧ t.portState port = (if (s.port port).drive.isSome then 4 else 2))) ∧
  (∀ (s : State) (port : PortId) (slot : Nat) (c : MCmd), (s.port port).esc = some ⟨1, some slot⟩ → tget (s.port port).slots slot = some c →
       Does (.escalationStepDone port) s (fun t => (t.port port).esc = none ∧ tget (t.port port).slots slot = none)) ∧
  (∀ (s : State) (port : PortId) (e : Escalation), (s.port port).esc = some e → 1 ≤ e.step → e.step < 4 →
       Does (.escalationStepTimeout port) s (fun t => (t.port port).esc = some ⟨e.step + 1, none⟩ ∧ t.portState port = 5)) ∧
  (∀ (s : State) (port : PortId) (e : Escalation), (s.port port).esc = some e → e.step = 4 →
       Does (.escalationStepTimeout port) s (fun t => (t.port port).esc = none ∧ (t.port port).drive = none ∧
         (t.portState port = 2 ∨ t.portState port = 7))) ∧
  (∀ (s : State) (port : PortId), s.portState port = 4 →
       Does (.healthPoll port) s (fun t => ∃ c, (t.port port).waiting = (s.port port).waiting ++ [c] ∧ c.owner = .port ∧ c.kind = .health ∧ c.cls = 3))

/-- Drive ports follow presence, identification, loss, spin-up and their commands. Rests on R297, R295, R299, R304, R296, R298, R73, R178. For
every state and operands that meet the clause's conditions, the command answers a next state of which the clause says: presence,
identification without a reason to reject, link loss of a member and its removal timeout, the spin-up delay and its pluck, the wait for a
link, and RESET_LINK, POWER_CYCLE, ACCEPT, RELEASE and SPINUP_NOW each leave the port in the state R295 to R304 give with its power, drive
and escalation as listed. Readings: log 39. A drive that is rejected, too small, of another array, or not the member's keeps the port
rejected or held with the reason; a refused port command records an event and changes no register; what is not due leaves the state as it
was (log 8). -/
def Obligations.DrivePortsTakeEffect : Prop :=
  (∀ (s : State) (port : PortId), s.portMode port ≠ 0 → (s.port port).pwren = true → s.portState port ≠ 5 →
       Does (.drivePresent port) s (fun t => t.portState port = 2 ∧ t.bit (Fld.LINK_STATUS.PRESENT.at port.val) = true)) ∧
  (∀ (s : State) (port : PortId), s.portMode port = 0 ∨ (s.port port).pwren = false ∨ s.portState port = 5 →
       Does (.drivePresent port) s (fun t => t.portState port = s.portState port ∧ t.bit (Fld.LINK_STATUS.PRESENT.at port.val) = true)) ∧
  (∀ (s : State) (port : PortId) (d : DriveInfo), s.portMode port = 0 ∨ (s.port port).pwren = false →
       Does (.driveIdentified port d) s (fun t => t = s)) ∧
  (∀ (s : State) (port : PortId) (d : DriveInfo), s.portMode port ≠ 0 → (s.port port).pwren = true →
       d.reject ≠ 0 ∨ (s.portMode port = 2 ∧ d.dual = false) →
       Does (.driveIdentified port d) s (fun t => t.portState port = 6 ∧
         t.fld (Fld.PORT_STATE.REJECT_REASON.at port.val) = (if d.reject ≠ 0 then d.reject else 7))) ∧
  (∀ (s : State) (port : PortId) (d : DriveInfo), s.portMode port ≠ 0 → s.portMode port ≠ 2 ∨ d.dual = true → (s.port port).pwren = true → d.reject = 0 →
       s.portMember port = none →
       Does (.driveIdentified port d) s (fun t => t.portState port = 4 ∧ t.bit (Fld.LINK_STATUS.LINK_UP.at port.val) = true ∧
         (t.port port).drive = some ⟨d.serial, d.capacity, d.dual, d.label⟩)) ∧
  (∀ (s : State) (port : PortId) (d : DriveInfo) (a : ArrayId) (m : Nat) (r : Arr) (x : Member), s.portMode port ≠ 0 → s.portMode port ≠ 2 ∨ d.dual = true → (s.port port).pwren = true → d.reject = 0 →
       s.portMember port = some (a, m) → s.arr a = some r → r.mem m = some x →
       memberSectors d.capacity < r.cur.dataSectors →
       Does (.driveIdentified port d) s (fun t => t.portState port = 6 ∧ t.fld (Fld.PORT_STATE.REJECT_REASON.at port.val) = 3)) ∧
  (∀ (s : State) (port : PortId) (d : DriveInfo) (a : ArrayId) (m : Nat) (r : Arr) (x : Member), s.portMode port ≠ 0 → s.portMode port ≠ 2 ∨ d.dual = true → (s.port port).pwren = true → d.reject = 0 →
       s.portMember port = some (a, m) → s.arr a = some r → r.mem m = some x →
       r.cur.dataSectors ≤ memberSectors d.capacity → s.newMemberDrive port a ⟨d.serial, d.capacity, d.dual, d.label⟩ = false →
       x.state = .active ∨ x.state = .rebuilding → d.label = some (r.uuid, x.uuid) →
       Does (.driveIdentified port d) s (fun t => t.portState port = 4 ∧ (t.port port).windowEnd = 0 ∧
         (t.port port).drive = some ⟨d.serial, d.capacity, d.dual, d.label⟩)) ∧
  (∀ (s : State) (port : PortId) (d : DriveInfo) (a : ArrayId) (m : Nat) (r : Arr) (x : Member), s.portMode port ≠ 0 → s.portMode port ≠ 2 ∨ d.dual = true → (s.port port).pwren = true → d.reject = 0 →
       s.portMember port = some (a, m) → s.arr a = some r → r.mem m = some x →
       r.cur.dataSectors ≤ memberSectors d.capacity → s.newMemberDrive port a ⟨d.serial, d.capacity, d.dual, d.label⟩ = false →
       x.state = .active ∨ x.state = .rebuilding → d.label ≠ some (r.uuid, x.uuid) →
       Does (.driveIdentified port d) s (fun t => t.portState port = 3 ∧ (t.port port).heldIdent = true)) ∧
  (∀ (s : State) (port : PortId) (gone : Bool), s.portMember port = none →
       Does (.driveLinkLoss port gone) s (fun t => t.portState port = 2 ∧ (t.port port).drive = none ∧
         t.bit (Fld.LINK_STATUS.LINK_UP.at port.val) = false ∧ t.bit (Fld.LINK_STATUS.PRESENT.at port.val) = !gone)) ∧
  (∀ (s : State) (port : PortId) (gone : Bool) (a : ArrayId) (m : Nat), s.portMember port = some (a, m) →
       Does (.driveLinkLoss port gone) s (fun t => (t.port port).drive = none ∧ t.bit (Fld.LINK_STATUS.LINK_UP.at port.val) = false ∧
         t.portState port = (if s.memState a m = some .active ∨ s.memState a m = some .rebuilding then 7 else 2))) ∧
  (∀ (s : State) (port : PortId), (s.port port).windowEnd = 0 → Does (.removalTimeout port) s (fun t => t = s)) ∧
  (∀ (s : State) (port : PortId), (s.port port).windowEnd ≠ 0 →
       Does (.removalTimeout port) s (fun t => (t.port port).windowEnd = 0)) ∧
  (∀ (s : State) (port : PortId) (a : ArrayId) (m : Nat) (r : Arr) (x : Member), (s.port port).windowEnd ≠ 0 → (s.port port).startupWindow = false →
       (s.port port).heldIdent = false → s.portState port = 7 → s.portMember port = some (a, m) → s.arr a = some r → r.mem m = some x →
       x.state = .active ∨ x.state = .rebuilding →
       Does (.removalTimeout port) s (fun t => t.portState port = 2 ∧ (∃ q y, t.arr a = some q ∧ q.mem m = some y ∧ y.state = .failed))) ∧
  (∀ (s : State) (port : PortId) (a : ArrayId) (m : Nat) (r : Arr) (x : Member), (s.port port).windowEnd ≠ 0 → (s.port port).startupWindow = true →
       (s.port port).heldIdent = false → (s.port port).drive = none → s.portMember port = some (a, m) → s.arr a = some r → r.mem m = some x →
       Does (.removalTimeout port) s (fun t => ∃ q y, t.arr a = some q ∧ q.mem m = some y ∧ y.state = .absent)) ∧
  (∀ (s : State) (port : PortId), s.portState port = 1 → (s.port port).pluckWait = false →
       Does (.spinupDelayExpiry port) s (fun t => t.portState port = 2 ∧ (t.port port).pwren = true)) ∧
  (∀ (s : State) (port : PortId), s.portState port ≠ 1 ∨ (s.port port).pluckWait = true →
       Does (.spinupDelayExpiry port) s (fun t => t = s)) ∧
  (∀ (s : State) (port : PortId), s.portState port = 1 → (s.port port).pluckWait = true →
       Does (.spinupPluckTimeout port) s (fun t => (t.port port).pluckWait = false ∧ (t.port port).delayEnd = s.now + s.spinDelay port)) ∧
  (∀ (s : State) (port : PortId), s.portState port ≠ 1 ∨ (s.port port).pluckWait = false →
       Does (.spinupPluckTimeout port) s (fun t => t = s)) ∧
  (∀ (s : State) (port : PortId), s.portState port = 2 ∨ s.portState port = 3 → (s.port port).drive = none →
       s.bit (Fld.LINK_STATUS.PRESENT.at port.val) = true →
       Does (.spinupWaitExpiry port) s (fun t => t.portState port = 6 ∧ t.fld (Fld.PORT_STATE.REJECT_REASON.at port.val) = 6)) ∧
  (∀ (s : State) (port : PortId), s.Takes (Fld.PORT_CMD.CMD.at port.val).addr → s.resettable port = true →
       Does (.portResetLink port) s (fun t => t.portState port = 5 ∧ (t.port port).esc = some ⟨3, none⟩)) ∧
  (∀ (s : State) (port : PortId), s.Takes (Fld.PORT_CMD.CMD.at port.val).addr → s.resettable port = false → Does (.portResetLink port) s (fun t =>
       t.regs = s.regs ∧ t.ports = s.ports ∧ t.evr.arrivals.length = s.evr.arrivals.length + 1)) ∧
  (∀ (s : State) (port : PortId), s.Takes (Fld.PORT_CMD.CMD.at port.val).addr → s.resettable port = true →
       Does (.portPowerCycle port) s (fun t => t.portState port = 5 ∧ (t.port port).esc = some ⟨4, none⟩ ∧ (t.port port).pwren = true)) ∧
  (∀ (s : State) (port : PortId), s.Takes (Fld.PORT_CMD.CMD.at port.val).addr → s.resettable port = false → Does (.portPowerCycle port) s (fun t =>
       t.regs = s.regs ∧ t.ports = s.ports ∧ t.evr.arrivals.length = s.evr.arrivals.length + 1)) ∧
  (∀ (s : State) (port : PortId) (d : Drive) (a : ArrayId) (m : Nat) (r : Arr) (x : Member), s.Takes (Fld.PORT_CMD.CMD.at port.val).addr → 
       s.portState port = 6 → s.fld (Fld.PORT_STATE.REJECT_REASON.at port.val) = 4 → (s.port port).drive = some d → s.portMember port = some (a, m) →
       s.arr a = some r → r.mem m = some x → x.state = .failed ∨ x.state = .absent → r.cur.dataSectors ≤ memberSectors d.capacity →
       Does (.portAccept port) s (fun t => t.portState port = 4 ∧ ∃ q y, t.arr a = some q ∧ q.mem m = some y ∧ y.state = .rebuilding)) ∧
  (∀ (s : State) (port : PortId), s.Takes (Fld.PORT_CMD.CMD.at port.val).addr → s.portState port ≠ 6 ∨ s.fld (Fld.PORT_STATE.REJECT_REASON.at port.val) ≠ 4 ∨
       (s.port port).drive = none → Does (.portAccept port) s (fun t =>
       t.regs = s.regs ∧ t.ports = s.ports ∧ t.evr.arrivals.length = s.evr.arrivals.length + 1)) ∧
  (∀ (s : State) (port : PortId), s.Takes (Fld.PORT_CMD.CMD.at port.val).addr → (s.portMember port).all (fun x => s.memState x.1 x.2 != some .active &&
       s.memState x.1 x.2 != some .rebuilding) = true → (s.port port).pwren = true →
       Does (.portRelease port) s (fun t => t.portState port = 8 ∧ (t.port port).pwren = false ∧ (t.port port).drive = none ∧ (t.port port).slots = [])) ∧
  (∀ (s : State) (port : PortId), s.Takes (Fld.PORT_CMD.CMD.at port.val).addr → (s.port port).pwren = false ∨ (s.portMember port).any (fun x => s.memState x.1 x.2 == some .active ||
       s.memState x.1 x.2 == some .rebuilding) = true → Does (.portRelease port) s (fun t =>
       t.regs = s.regs ∧ t.ports = s.ports ∧ t.evr.arrivals.length = s.evr.arrivals.length + 1)) ∧
  (∀ (s : State) (port : PortId), s.Takes (Fld.PORT_CMD.CMD.at port.val).addr → s.portState port = 1 →
       Does (.portSpinupNow port) s (fun t => t.portState port = 2 ∧ (t.port port).pwren = true)) ∧
  (∀ (s : State) (port : PortId), s.Takes (Fld.PORT_CMD.CMD.at port.val).addr → s.portState port ≠ 1 → Does (.portSpinupNow port) s (fun t =>
       t.regs = s.regs ∧ t.ports = s.ports ∧ t.evr.arrivals.length = s.evr.arrivals.length + 1))

/-- The four read-to-clear maxima return their value and become 0. Rests on R223, R146, R453. For every state and operands that meet the
clause's conditions, the command answers a next state of which the clause says: LAT_C0_ISSUE_MAX, LAT_C0_POST_MAX, HFE_COLLECT_MAX of a port
and ERR_DEPTH_MAX answer the value held and leave 0. A read that is refused answers 0 and clears nothing. -/
def Obligations.ReadClearFieldsReturnAndClear : Prop :=
  (∀ s : State, s.managed = true → s.servedNow Fld.LAT_C0_ISSUE_MAX.NS.addr = true →
       Does .latC0IssueMaxRead s (fun t => t.answer = [s.fld Fld.LAT_C0_ISSUE_MAX.NS] ∧ t.fld Fld.LAT_C0_ISSUE_MAX.NS = 0)) ∧
  (∀ s : State, s.managed = true → s.servedNow Fld.LAT_C0_POST_MAX.NS.addr = true →
       Does .latC0PostMaxRead s (fun t => t.answer = [s.fld Fld.LAT_C0_POST_MAX.NS] ∧ t.fld Fld.LAT_C0_POST_MAX.NS = 0)) ∧
  (∀ (s : State) (hp : HostPort), s.managed = true → s.servedNow (Fld.HFE_COLLECT_MAX.MAX_DEPTH.at hp.val).addr = true →
       Does (.hfeCollectMaxRead hp) s (fun t => t.answer = [s.fld (Fld.HFE_COLLECT_MAX.MAX_DEPTH.at hp.val)] ∧
         t.fld (Fld.HFE_COLLECT_MAX.MAX_DEPTH.at hp.val) = 0)) ∧
  (∀ s : State, s.managed = true → s.servedNow Fld.ERR_DEPTH_MAX.DEPTH.addr = true →
       Does .errDepthMaxRead s (fun t => t.answer = [s.fld Fld.ERR_DEPTH_MAX.DEPTH] ∧ t.fld Fld.ERR_DEPTH_MAX.DEPTH = 0)) ∧
  (∀ s : State, s.managed = true → s.servedNow Fld.LAT_C0_ISSUE_MAX.NS.addr = false →
       Does .latC0IssueMaxRead s (fun t => t.answer = [0] ∧ t.fld Fld.LAT_C0_ISSUE_MAX.NS = s.fld Fld.LAT_C0_ISSUE_MAX.NS ∧
         t.bit Fld.SYS_BUS_STATUS.ERR = true ∧ t.fld Fld.SYS_BUS_STATUS.REASON = 4)) ∧
  (∀ s : State, s.managed = true → s.servedNow Fld.LAT_C0_POST_MAX.NS.addr = false →
       Does .latC0PostMaxRead s (fun t => t.answer = [0] ∧ t.fld Fld.LAT_C0_POST_MAX.NS = s.fld Fld.LAT_C0_POST_MAX.NS ∧
         t.bit Fld.SYS_BUS_STATUS.ERR = true ∧ t.fld Fld.SYS_BUS_STATUS.REASON = 4)) ∧
  (∀ (s : State) (hp : HostPort), s.managed = true → s.servedNow (Fld.HFE_COLLECT_MAX.MAX_DEPTH.at hp.val).addr = false →
       Does (.hfeCollectMaxRead hp) s (fun t => t.answer = [0] ∧
         t.fld (Fld.HFE_COLLECT_MAX.MAX_DEPTH.at hp.val) = s.fld (Fld.HFE_COLLECT_MAX.MAX_DEPTH.at hp.val) ∧
         t.bit Fld.SYS_BUS_STATUS.ERR = true ∧ t.fld Fld.SYS_BUS_STATUS.REASON = 4))

/-- Reading the first word of a pair or group takes the whole of it at one instant. Rests on R464, R466. For every state and operands that meet
the clause's conditions, the command answers a next state of which the clause says: a read of the LO word of a pair, or of word 0 of a
group, answers the low 32 bits of the field's value and latches the whole value for the interface, no register changed. A refused read
answers 0 and takes no instant; an address that is no first word leaves the state as it was (log 8). -/
def Obligations.PairsAndGroupsAreReadFromOneInstant : Prop :=
  (∀ (s : State) (iface : Iface) (addr : Nat) (f : Field), s.managed = true → pairAt addr = some f → f.addr = addr → s.refuseRead iface addr = 0 →
       s.windowWord addr = none →
       Does (.pairLoRead iface addr) s (fun t => t.answer = [f.whole (s.shown f) % 2 ^ 32] ∧
         tget t.latches (latchKey f iface) = some (f.whole (s.shown f)) ∧ t.regs = s.regs)) ∧
  (∀ (s : State) (iface : Iface) (addr : Nat) (f : Field), s.managed = true → groupAt addr = some f → f.addr = addr → pairAt addr = none →
       s.refuseRead iface addr = 0 → s.windowWord addr = none →
       Does (.groupWord0Read iface addr) s (fun t => t.answer = [f.whole (s.shown f) % 2 ^ 32] ∧
         tget t.latches (latchKey f iface) = some (f.whole (s.shown f)) ∧ t.regs = s.regs)) ∧
  (∀ (s : State) (iface : Iface) (addr r : Nat), s.managed = true → s.refuseRead iface addr = r → r ≠ 0 → (pairAt addr).map (·.addr) = some addr →
       Does (.pairLoRead iface addr) s (fun t => t.answer = [0] ∧ t.latches = s.latches)) ∧
  (∀ (s : State) (iface : Iface) (addr r : Nat), s.managed = true → s.refuseRead iface addr = r → r ≠ 0 → (groupAt addr).map (·.addr) = some addr →
       Does (.groupWord0Read iface addr) s (fun t => t.answer = [0] ∧ t.latches = s.latches)) ∧
  (∀ (s : State) (iface : Iface) (addr : Nat), (pairAt addr).map (·.addr) ≠ some addr → Does (.pairLoRead iface addr) s (fun t => t = s)) ∧
  (∀ (s : State) (iface : Iface) (addr : Nat), (groupAt addr).map (·.addr) ≠ some addr → Does (.groupWord0Read iface addr) s (fun t => t = s))

/-- A register write sets its field; the SMBus accesses answer words and status. Rests on R6, R460. For every state and operands that meet the
clause's conditions, the command answers a next state of which the clause says: a write to SC_PRELOAD_WAYS through any interface and over
SMBus sets it; a refused write shows its interface, reason and address in the bus status and changes nothing else but registers and the
events recorded; READ32 answers status 0 and the register's word; READ64 answers both words of a pair taken together; LAST_STATUS answers
the last status; a burst of 1 to 8 allowed words answers status 0 and that many words. Readings: log 37. Refused SMBus accesses answer their
status; a command whose register no die serves now is refused with reason 4, and one of a fast register in Safe Mode with reason 5; with the
management interface not ready the listed accesses leave the state as it was (log 8). -/
def Obligations.RegisterWritesAndSmbusAccessesTakeEffect : Prop :=
  (∀ (s : State) (iface : Iface) (value : Nat), s.managed = true → s.refuseWrite iface Fld.SC_PRELOAD_WAYS.WAYS.addr = 0 →
       s.bit Fld.SC_RANGE_STATUS.BUSY = false →
       Does (.registerWrite iface Fld.SC_PRELOAD_WAYS.WAYS.addr value) s (fun t => t.fld Fld.SC_PRELOAD_WAYS.WAYS = value % 65536)) ∧
  (∀ (s : State) (value : Nat), s.managed = true → s.refuseWrite .smbus Fld.SC_PRELOAD_WAYS.WAYS.addr = 0 → s.bit Fld.SC_RANGE_STATUS.BUSY = false →
       Does (.write32 Fld.SC_PRELOAD_WAYS.WAYS.addr value) s (fun t => t.fld Fld.SC_PRELOAD_WAYS.WAYS = value % 65536 ∧ t.lastSmb = 0)) ∧
  (∀ (s : State) (addr : Nat), s.managed = true → s.refuseRead .smbus addr = 0 → s.windowWord addr = none → pairAt addr = none → groupAt addr = none →
       Does (.read32 addr) s (fun t => t.answer = [0, s.regWord addr])) ∧
  (∀ (s : State) (addr : Nat) (f : Field), s.managed = true → pairAt addr = some f → pairAt (addr + 4) = some f → f.addr = addr →
       s.refuseRead .smbus addr = 0 → s.refuseRead .smbus (addr + 4) = 0 → s.windowWord addr = none → s.windowWord (addr + 4) = none →
       Does (.read64 addr) s (fun t => t.answer = [0, f.whole (s.shown f) % 2 ^ 32, f.whole (s.shown f) / 2 ^ 32 % 2 ^ 32])) ∧
  (∀ s : State, s.managed = true → Does .lastStatus s (fun t => t.answer = [s.lastSmb])) ∧
  (∀ (s : State) (addr count : Nat), s.managed = true → 1 ≤ count → count ≤ 8 → (∀ k, k < count → s.refuseRead .smbus (addr + 4 * k) = 0) →
       Does (.readBurst addr count) s (fun t => t.answer.head? = some 0 ∧ t.answer.length = count + 1)) ∧
  (∀ (s : State) (c : Instr) (a : Nat), commandRegister c = some a → s.servedNow a = false →
       Does c s (fun t => t.bit Fld.SYS_BUS_STATUS.ERR = true ∧ t.fld Fld.SYS_BUS_STATUS.REASON = 4 ∧ t.fld Fld.SYS_BUS_ADDR.OFFSET = a ∧
         ({ t with regs := s.regs, freeIx := s.freeIx } : State) = s)) ∧
  (∀ (s : State) (c : Instr) (a : Nat), commandRegister c = some a → s.servedNow a = true → s.safeMode = true → fastServed a = true →
       Does c s (fun t => t.bit Fld.SYS_BUS_STATUS.ERR = true ∧ t.fld Fld.SYS_BUS_STATUS.REASON = 5 ∧ t.fld Fld.SYS_BUS_ADDR.OFFSET = a ∧
         ({ t with regs := s.regs, freeIx := s.freeIx, evr := s.evr } : State) = s)) ∧
  (∀ (s : State) (iface : Iface) (addr value r : Nat), s.managed = true → s.refuseWrite iface addr = r → r ≠ 0 → (r = 4 → iface ≠ .smbus) →
       Does (.registerWrite iface addr value) s (fun t => t.bit Fld.SYS_BUS_STATUS.ERR = true ∧ t.fld Fld.SYS_BUS_STATUS.IFACE = ifaceBus iface ∧
         t.fld Fld.SYS_BUS_STATUS.REASON = r ∧ t.fld Fld.SYS_BUS_ADDR.OFFSET = addr % 2 ^ 26 ∧ ({ t with regs := s.regs, evr := s.evr } : State) = s)) ∧
  (∀ (s : State) (addr value r : Nat), s.managed = true → s.refuseWrite .smbus addr = r → r ≠ 0 →
       Does (.write32 addr value) s (fun t => t.lastSmb = t.smbStatus r ∧
         ({ t with regs := s.regs, evr := s.evr, lastSmb := s.lastSmb } : State) = s)) ∧
  (∀ (s : State) (addr r : Nat), s.managed = true → s.refuseRead .smbus addr = r → r ≠ 0 → r ≠ 4 →
       Does (.read32 addr) s (fun t => t.answer = [if r = 1 then 4 else 5, 0] ∧ t.fld Fld.SYS_BUS_STATUS.REASON = r ∧
         t.fld Fld.SYS_BUS_STATUS.IFACE = 2)) ∧
  (∀ (s : State) (addr : Nat), s.managed = true → (pairAt addr).map (·.addr) ≠ some addr → s.refuseRead .smbus addr = 0 →
       Does (.read64 addr) s (fun t => t.answer = [5, 0, 0] ∧ t.bit Fld.SYS_BUS_STATUS.ERR = true ∧ t.fld Fld.SYS_BUS_STATUS.REASON = 2)) ∧
  (∀ (s : State) (addr count : Nat), s.managed = true → (count = 0 ∨ 8 < count) →
       Does (.readBurst addr count) s (fun t => t.answer = [5] ∧ t.bit Fld.SYS_BUS_STATUS.ERR = true ∧ t.fld Fld.SYS_BUS_STATUS.REASON = 2)) ∧
  (∀ (s : State) (iface : Iface) (hp : HostPort) (addr value : Nat) (c : Instr), s.managed = false →
       c ∈ [.registerWrite iface addr value, .write32 addr value, .read32 addr, .read64 addr, .lastStatus, .readBurst addr value, .pairLoRead iface addr,
         .groupWord0Read iface addr, .latC0IssueMaxRead, .latC0PostMaxRead, .hfeCollectMaxRead hp, .errDepthMaxRead] →
       Does c s (fun t => t = s))

/-- Stripe-cache reads, fills, writes, drains, acknowledgements, ownership, recalls and retries. Rests on R229, R227, R228, R231, R238, R237.
For every state and operands that meet the clause's conditions, the command answers a next state of which the clause says: a read that hits
delivers the word and counts a hit, one that misses starts a fill and counts a miss; a fill delivers to its waiters; a write opens a merge
entry with its mask and data; a drain puts the masked bytes into HBM; the write acknowledgement frees the entry and tells its writers; an
eviction-buffer expiry drops the oldest line; ownership of a free line is granted; a recall's write-back leaves the line shared; a retry of
a free line succeeds. Readings: log 12. The other clauses give the remaining cases: a request held before initialization is done or behind
an owner's recall, a hit in the eviction buffer, a wait behind a fill, a fill that was discarded or fails, a write merged into an open entry
or waiting at 8 entries, two ownership requests at once with the loser's retry, a recall that serves a waiting owner, and what is not due
(the state as it was, log 8). -/
def Obligations.StripeCacheRequestsAreServed : Prop :=
  (∀ (s : State) (req : Fin 8) (line word k : Nat) (l : ScLine), s.bit Fld.SC_STATUS.INIT_DONE = true → (s.sc.dirOf line).owner = none →
       s.sc.find line = some k → tget s.sc.lines k = some l →
       Does (.scReadRequest req line word) s (fun t => t.sc.delivered = s.sc.delivered ++ [⟨req.val, line, word % 4, lineWord l.data word⟩] ∧
         t.fld Fld.SC_HIT = (s.fld Fld.SC_HIT + 1) % 2 ^ Fld.SC_HIT.width ∧ t.sc.hbm = s.sc.hbm)) ∧
  (∀ (s : State) (req : Fin 8) (line word : Nat), s.bit Fld.SC_STATUS.INIT_DONE = true → (s.sc.dirOf line).owner = none → s.sc.find line = none →
       s.sc.evFind line = none → tget s.sc.fills line = none →
       Does (.scReadRequest req line word) s (fun t => t.fld Fld.SC_MISS = (s.fld Fld.SC_MISS + 1) % 2 ^ Fld.SC_MISS.width ∧
         ∃ f, tget t.sc.fills line = some f ∧ f.waiters = [(req.val, word % 4)] ∧ f.install = s.scAllocates req.val false)) ∧
  (∀ (s : State) (line : Nat) (f : ScFill), tget s.sc.fills line = some f → f.discarded = false →
       Does (.scFillReturn line true) s (fun t => tget t.sc.fills line = none ∧
         t.sc.delivered = s.sc.delivered ++ f.waiters.map (fun w => ⟨w.1, line, w.2, lineWord (s.sc.mem line) w.2⟩))) ∧
  (∀ (s : State) (req : Fin 8) (line mask data : Nat), s.bit Fld.SC_STATUS.INIT_DONE = true → (s.sc.dirOf line).owner = none → s.sc.entry line = none →
       (s.sc.merge.filter (fun e => scSlice e.line = scSlice line)).length < 8 →
       Does (.scWriteRequest req line mask data) s (fun t => ∃ e, t.sc.entry line = some e ∧ e.mask = mask ∧ e.data = maskBytes 0 mask data ∧
         e.writers = [req.val])) ∧
  (∀ (s : State) (line : Nat) (e : ScEntry), s.sc.entry line = some e → s.sc.waiting = [] →
       Does (.mergeBufferDrain line) s (fun t => t.sc.hbm = memMask s.sc.hbm line e.mask e.data ∧ t.sc.entry line = none ∧
         t.sc.acks = s.sc.acks ++ [e])) ∧
  (∀ (s : State) (line : Nat) (e : ScEntry) (r : List ScEntry), s.sc.acks = e :: r → e.line = line →
       Does (.hbmWriteAck line) s (fun t => t.sc.acks = r ∧ t.sc.written = s.sc.written ++ e.writers.map (fun w => (w, line)))) ∧
  (∀ (s : State) (slice : SliceId), s.bit Fld.SC_CTRL.EVICT_PATH = false →
       Does (.evictionBufferExpiry slice) s (fun t => t.sc.evList slice.val = (s.sc.evList slice.val).drop 1)) ∧
  (∀ (s : State) (pq : Fin 4) (line : Nat), (s.sc.dirOf line).owner = none →
       Does (.ownershipRequest [pq] line) s (fun t => t.sc.dirOf line = ⟨[], some pq.val⟩)) ∧
  (∀ (s : State) (line data o : Nat), (s.sc.dirOf line).owner = some o → tget s.sc.recalls line = none →
       Does (.recallWriteBack line data) s (fun t => t.sc.dirOf line = ⟨[o], none⟩)) ∧
  (∀ (s : State) (pq : Fin 4) (line : Nat), (tget s.sc.retries (line * 4 + pq.val)).isSome = true → (s.sc.dirOf line).owner = none →
       Does (.retryReissue pq line) s (fun t => t.sc.dirOf line = ⟨[], some pq.val⟩ ∧ tget t.sc.retries (line * 4 + pq.val) = none)) ∧
  (∀ (s : State) (req : Fin 8) (line word : Nat), s.bit Fld.SC_STATUS.INIT_DONE = false →
       Does (.scReadRequest req line word) s (fun t => t.sc.held = s.sc.held ++ [.read req.val line (word % 4)] ∧ t.sc.delivered = s.sc.delivered ∧
         t.regs = s.regs)) ∧
  (∀ (s : State) (req : Fin 8) (line word o : Nat), s.bit Fld.SC_STATUS.INIT_DONE = true → (s.sc.dirOf line).owner = some o →
       Does (.scReadRequest req line word) s (fun t =>
         tget t.sc.recalls line = some ((tget s.sc.recalls line).getD [] ++ [.read req.val line (word % 4)]) ∧
         t.sc.delivered = s.sc.delivered ∧ t.sc.dir = s.sc.dir)) ∧
  (∀ (s : State) (req : Fin 8) (line word : Nat) (l : ScLine), s.bit Fld.SC_STATUS.INIT_DONE = true → (s.sc.dirOf line).owner = none →
       s.sc.find line = none → s.sc.evFind line = some l →
       Does (.scReadRequest req line word) s (fun t => t.sc.delivered = s.sc.delivered ++ [⟨req.val, line, word % 4, lineWord l.data word⟩] ∧
         t.fld Fld.SC_VICTIM_HIT = (s.fld Fld.SC_VICTIM_HIT + 1) % 2 ^ Fld.SC_VICTIM_HIT.width ∧ t.fld Fld.SC_MISS = s.fld Fld.SC_MISS)) ∧
  (∀ (s : State) (req : Fin 8) (line word : Nat) (f : ScFill), s.bit Fld.SC_STATUS.INIT_DONE = true → (s.sc.dirOf line).owner = none →
       s.sc.find line = none → s.sc.evFind line = none → tget s.sc.fills line = some f →
       Does (.scReadRequest req line word) s (fun t => tget t.sc.fills line = some { f with waiters := f.waiters ++ [(req.val, word % 4)] } ∧
         t.fld Fld.SC_MISS = s.fld Fld.SC_MISS ∧ t.sc.delivered = s.sc.delivered)) ∧
  (∀ (s : State) (line : Nat) (ok : Bool), tget s.sc.fills line = none → Does (.scFillReturn line ok) s (fun t => t = s)) ∧
  (∀ (s : State) (line : Nat) (ok : Bool) (f : ScFill), tget s.sc.fills line = some f → f.discarded = true →
       Does (.scFillReturn line ok) s (fun t => tget t.sc.fills line = some { f with discarded := false } ∧ t.sc.delivered = s.sc.delivered ∧
         t.sc.lines = s.sc.lines)) ∧
  (∀ (s : State) (line : Nat) (f : ScFill), tget s.sc.fills line = some f → f.discarded = false →
       Does (.scFillReturn line false) s (fun t => tget t.sc.fills line = none ∧ t.sc.delivered = s.sc.delivered ∧ t.sc.lines = s.sc.lines)) ∧
  (∀ (s : State) (req : Fin 8) (line mask data : Nat), s.bit Fld.SC_STATUS.INIT_DONE = false →
       Does (.scWriteRequest req line mask data) s (fun t => t.sc.held = s.sc.held ++ [.write req.val line mask data] ∧ t.sc.merge = s.sc.merge)) ∧
  (∀ (s : State) (req : Fin 8) (line mask data o : Nat), s.bit Fld.SC_STATUS.INIT_DONE = true → (s.sc.dirOf line).owner = some o →
       Does (.scWriteRequest req line mask data) s (fun t =>
         tget t.sc.recalls line = some ((tget s.sc.recalls line).getD [] ++ [.write req.val line mask data]) ∧ t.sc.merge = s.sc.merge)) ∧
  (∀ (s : State) (req : Fin 8) (line mask data : Nat), s.bit Fld.SC_STATUS.INIT_DONE = true → (s.sc.dirOf line).owner = none → s.sc.entry line = none →
       8 ≤ (s.sc.merge.filter (fun e => scSlice e.line = scSlice line)).length →
       Does (.scWriteRequest req line mask data) s (fun t => t.sc.waiting = s.sc.waiting ++ [.write req.val line mask data] ∧ t.sc.merge = s.sc.merge)) ∧
  (∀ (s : State) (req : Fin 8) (line mask data : Nat) (e : ScEntry), s.bit Fld.SC_STATUS.INIT_DONE = true → (s.sc.dirOf line).owner = none →
       s.sc.entry line = some e →
       Does (.scWriteRequest req line mask data) s (fun t => t.sc.entry line =
         some { e with data := maskBytes e.data mask data, mask := Nat.lor e.mask mask, writers := e.writers ++ [req.val] } ∧
         t.sc.waiting = s.sc.waiting)) ∧
  (∀ (s : State) (line : Nat), s.sc.entry line = none → Does (.mergeBufferDrain line) s (fun t => t = s)) ∧
  (∀ (s : State) (line : Nat) (e : ScEntry), s.sc.entry line = some e →
       Does (.mergeBufferDrain line) s (fun t => t.sc.hbm = memMask s.sc.hbm line e.mask e.data ∧ t.sc.acks = s.sc.acks ++ [e])) ∧
  (∀ (s : State) (line : Nat), (∀ e, e ∈ s.sc.acks → e.line ≠ line) → Does (.hbmWriteAck line) s (fun t => t = s)) ∧
  (∀ (s : State) (line : Nat) (a r : List ScEntry) (e : ScEntry), s.sc.acks = a ++ e :: r → (∀ x, x ∈ a → x.line ≠ line) → e.line = line →
       Does (.hbmWriteAck line) s (fun t => t.sc.acks = a ++ r ∧ t.sc.written = s.sc.written ++ e.writers.map (fun w => (w, line)))) ∧
  (∀ (s : State) (slice : SliceId), s.bit Fld.SC_CTRL.EVICT_PATH = true → Does (.evictionBufferExpiry slice) s (fun t => t = s)) ∧
  (∀ (s : State) (line : Nat), Does (.ownershipRequest [] line) s (fun t => t = s)) ∧
  (∀ (s : State) (p q : Fin 4) (line : Nat), (s.sc.dirOf line).owner = none → p ≠ q → (tget s.sc.rotate (scSlice line)).getD 0 = p.val →
       (tget s.sc.retries (line * 4 + q.val)).getD 0 < 4 →
       Does (.ownershipRequest [p, q] line) s (fun t => t.sc.dirOf line = ⟨[], some p.val⟩ ∧
         tget t.sc.retries (line * 4 + q.val) = some ((tget s.sc.retries (line * 4 + q.val)).getD 0 + 1) ∧
         t.fld Fld.SC_OWN_RETRY = (s.fld Fld.SC_OWN_RETRY + 1) % 2 ^ Fld.SC_OWN_RETRY.width ∧
         tget t.sc.rotate (scSlice line) = some ((p.val + 1) % 4))) ∧
  (∀ (s : State) (pq : Fin 4) (line o : Nat), (s.sc.dirOf line).owner = some o → o ≠ pq.val →
       Does (.ownershipRequest [pq] line) s (fun t => tget t.sc.recalls line = some ((tget s.sc.recalls line).getD [] ++ [.own pq.val line]) ∧
         t.sc.dir = s.sc.dir)) ∧
  (∀ (s : State) (line data : Nat), (s.sc.dirOf line).owner = none → Does (.recallWriteBack line data) s (fun t => t = s)) ∧
  (∀ (s : State) (line data o p : Nat), (s.sc.dirOf line).owner = some o → tget s.sc.recalls line = some [.own p line] → p < 4 →
       Does (.recallWriteBack line data) s (fun t => t.sc.dirOf line = ⟨[], some p⟩ ∧ tget t.sc.recalls line = none)) ∧
  (∀ (s : State) (pq : Fin 4) (line : Nat), tget s.sc.retries (line * 4 + pq.val) = none → Does (.retryReissue pq line) s (fun t => t = s)) ∧
  (∀ (s : State) (pq : Fin 4) (line o : Nat), (tget s.sc.retries (line * 4 + pq.val)).isSome = true → (s.sc.dirOf line).owner = some o → o ≠ pq.val →
       Does (.retryReissue pq line) s (fun t => tget t.sc.recalls line = some ((tget s.sc.recalls line).getD [] ++ [.own pq.val line]) ∧
         t.sc.dir = s.sc.dir))

/-- Stripe-cache maintenance and range operations, locks, path, initialization and ECC errors. Rests on R234, R235, R232, R231, R239, R240. For
every state and operands that meet the clause's conditions, the command answers a next state of which the clause says: the three one-line
operations and the five range operations go busy with their operation; both end when their lines are quiet; a lock of at most 12 ways is
shown; a switch of the eviction path empties both structures' lines; the end of initialization is shown; a corrected error is counted; an
uncorrected tag error is counted and the set emptied. Maintenance by set and way names its entry; a second one while busy leaves the state;
a range command refused shows error 1, 2 or 3 and changes nothing else; each operation's end says which lines are left; a lock of more than
12 ways is refused; requests held through initialization are served; an uncorrected error of a data word, an eviction line, a merge entry or
a directory line removes what it hit. -/
def Obligations.StripeCacheMaintenanceTakesEffect : Prop :=
  (∀ s : State, s.Takes Fld.SC_MAINT.OP.addr → s.bit Fld.SC_STATUS.MAINT_BUSY = false →
       Does (.scMaintClean false) s (fun t => t.bit Fld.SC_STATUS.MAINT_BUSY = true ∧ t.sc.maint = some ⟨1, s.fld Fld.SC_MAINT_ADDR.ADDR, none⟩)) ∧
  (∀ s : State, s.Takes Fld.SC_MAINT.OP.addr → s.bit Fld.SC_STATUS.MAINT_BUSY = false →
       Does (.scMaintInvalidate false) s (fun t => t.bit Fld.SC_STATUS.MAINT_BUSY = true ∧ t.sc.maint = some ⟨2, s.fld Fld.SC_MAINT_ADDR.ADDR, none⟩)) ∧
  (∀ s : State, s.Takes Fld.SC_MAINT.OP.addr → s.bit Fld.SC_STATUS.MAINT_BUSY = false →
       Does (.scMaintCleanInvalidate false) s (fun t => t.bit Fld.SC_STATUS.MAINT_BUSY = true ∧ t.sc.maint = some ⟨3, s.fld Fld.SC_MAINT_ADDR.ADDR, none⟩)) ∧
  (∀ s : State, s.Takes Fld.SC_RANGE_CMD.OP.addr → s.bit Fld.SC_RANGE_STATUS.BUSY = false → s.fld Fld.SC_RANGE_LEN.VALUE ≠ 0 →
       s.fld Fld.SC_RANGE_START.VALUE + s.fld Fld.SC_RANGE_LEN.VALUE ≤ s.hbmLines →
       Does .scRangeClean s (fun t => t.bit Fld.SC_RANGE_STATUS.BUSY = true ∧ t.bit Fld.SC_STATUS.RANGE_BUSY = true ∧
         t.bit Fld.SC_RANGE_STATUS.DONE = false ∧ t.fld Fld.SC_RANGE_STATUS.ERR_CODE = 0 ∧ t.sc.rangeOp = some 1)) ∧
  (∀ s : State, s.Takes Fld.SC_RANGE_CMD.OP.addr → s.bit Fld.SC_RANGE_STATUS.BUSY = false → s.fld Fld.SC_RANGE_LEN.VALUE ≠ 0 →
       s.fld Fld.SC_RANGE_START.VALUE + s.fld Fld.SC_RANGE_LEN.VALUE ≤ s.hbmLines →
       Does .scRangeInvalidate s (fun t => t.bit Fld.SC_RANGE_STATUS.BUSY = true ∧ t.bit Fld.SC_STATUS.RANGE_BUSY = true ∧
         t.bit Fld.SC_RANGE_STATUS.DONE = false ∧ t.fld Fld.SC_RANGE_STATUS.ERR_CODE = 0 ∧ t.sc.rangeOp = some 2)) ∧
  (∀ s : State, s.Takes Fld.SC_RANGE_CMD.OP.addr → s.bit Fld.SC_RANGE_STATUS.BUSY = false → s.fld Fld.SC_RANGE_LEN.VALUE ≠ 0 →
       s.fld Fld.SC_RANGE_START.VALUE + s.fld Fld.SC_RANGE_LEN.VALUE ≤ s.hbmLines →
       Does .scRangeCleanInvalidate s (fun t => t.bit Fld.SC_RANGE_STATUS.BUSY = true ∧ t.bit Fld.SC_STATUS.RANGE_BUSY = true ∧
         t.bit Fld.SC_RANGE_STATUS.DONE = false ∧ t.fld Fld.SC_RANGE_STATUS.ERR_CODE = 0 ∧ t.sc.rangeOp = some 3)) ∧
  (∀ s : State, s.Takes Fld.SC_RANGE_CMD.OP.addr → s.bit Fld.SC_RANGE_STATUS.BUSY = false → s.fld Fld.SC_RANGE_LEN.VALUE ≠ 0 →
       s.fld Fld.SC_RANGE_START.VALUE + s.fld Fld.SC_RANGE_LEN.VALUE ≤ s.hbmLines → s.fld Fld.SC_PRELOAD_WAYS.WAYS ≠ 0 →
       Does .scPreload s (fun t => t.bit Fld.SC_RANGE_STATUS.BUSY = true ∧ t.sc.rangeOp = some 4 ∧ t.fld Fld.SC_RANGE_DISPLACED.LINES = 0)) ∧
  (∀ s : State, s.Takes Fld.SC_RANGE_CMD.OP.addr → s.bit Fld.SC_RANGE_STATUS.BUSY = false →
       Does .scInvalidateWays s (fun t => t.bit Fld.SC_RANGE_STATUS.BUSY = true ∧ t.sc.rangeOp = some 5)) ∧
  (∀ (s : State) (op : Nat), s.sc.rangeOp = some op → s.scRangeQuiet op = true →
       Does .scRangeDone s (fun t => t.sc.rangeOp = none ∧ t.bit Fld.SC_RANGE_STATUS.BUSY = false ∧ t.bit Fld.SC_STATUS.RANGE_BUSY = false ∧
         t.bit Fld.SC_RANGE_STATUS.DONE = true)) ∧
  (∀ (s : State) (m : ScMaint), s.sc.maint = some m → s.sc.quiet m.op m.line = true →
       Does .scMaintDone s (fun t => t.sc.maint = none ∧ t.bit Fld.SC_STATUS.MAINT_BUSY = false)) ∧
  (∀ (s : State) (ways : Nat), s.bit Fld.SC_RANGE_STATUS.BUSY = false → (waysOf ways).length ≤ 12 →
       Does (.scLockWrite ways) s (fun t => t.fld Fld.SC_LOCK.WAYS = ways % 65536 ∧ t.fld Fld.SC_STATUS.LOCKED_WAYS = (waysOf ways).length)) ∧
  (∀ (s : State) (path : Bool), s.bit Fld.SC_RANGE_STATUS.BUSY = false → s.bit Fld.SC_CTRL.EVICT_PATH ≠ path →
       Does (.evictPathSwitch path) s (fun t => t.bit Fld.SC_CTRL.EVICT_PATH = path ∧ t.sc.evict = [])) ∧
  (∀ s : State, s.sc.held = [] → Does .scInitDone s (fun t => t.bit Fld.SC_STATUS.INIT_DONE = true)) ∧
  (∀ (s : State) (place : EccPlace), Does (.scEccError place true) s (fun t => t.fld Fld.SC_ECC_CORR = (s.fld Fld.SC_ECC_CORR + 1) % 2 ^ Fld.SC_ECC_CORR.width)) ∧
  (∀ (s : State) (set : Nat), Does (.scEccError (.tagSet set) false) s (fun t => t.fld Fld.SC_ECC_UNCORR = (s.fld Fld.SC_ECC_UNCORR + 1) % 2 ^ Fld.SC_ECC_UNCORR.width ∧
       ∀ k l, (k, l) ∈ t.sc.lines → k / 16 ≠ set)) ∧
  (∀ s : State, s.Takes Fld.SC_MAINT.OP.addr → s.bit Fld.SC_STATUS.MAINT_BUSY = false →
       Does (.scMaintClean true) s (fun t => t.bit Fld.SC_STATUS.MAINT_BUSY = true ∧
         t.sc.maint = some ⟨1, ((tget s.sc.lines (s.fld Fld.SC_MAINT_SETWAY.SET * 16 + s.fld Fld.SC_MAINT_SETWAY.WAY)).map (·.line)).getD (2 ^ 30),
           some (s.fld Fld.SC_MAINT_SETWAY.SET * 16 + s.fld Fld.SC_MAINT_SETWAY.WAY)⟩)) ∧
  (∀ (s : State) (byWay : Bool), s.Takes Fld.SC_MAINT.OP.addr → s.bit Fld.SC_STATUS.MAINT_BUSY = true →
       Does (.scMaintClean byWay) s (fun t => t = s)) ∧
  (∀ s : State, s.Takes Fld.SC_MAINT.OP.addr → s.bit Fld.SC_STATUS.MAINT_BUSY = false →
       Does (.scMaintInvalidate true) s (fun t => t.bit Fld.SC_STATUS.MAINT_BUSY = true ∧
         t.sc.maint = some ⟨2, ((tget s.sc.lines (s.fld Fld.SC_MAINT_SETWAY.SET * 16 + s.fld Fld.SC_MAINT_SETWAY.WAY)).map (·.line)).getD (2 ^ 30),
           some (s.fld Fld.SC_MAINT_SETWAY.SET * 16 + s.fld Fld.SC_MAINT_SETWAY.WAY)⟩)) ∧
  (∀ (s : State) (byWay : Bool), s.Takes Fld.SC_MAINT.OP.addr → s.bit Fld.SC_STATUS.MAINT_BUSY = true →
       Does (.scMaintInvalidate byWay) s (fun t => t = s)) ∧
  (∀ s : State, s.Takes Fld.SC_MAINT.OP.addr → s.bit Fld.SC_STATUS.MAINT_BUSY = false →
       Does (.scMaintCleanInvalidate true) s (fun t => t.bit Fld.SC_STATUS.MAINT_BUSY = true ∧
         t.sc.maint = some ⟨3, ((tget s.sc.lines (s.fld Fld.SC_MAINT_SETWAY.SET * 16 + s.fld Fld.SC_MAINT_SETWAY.WAY)).map (·.line)).getD (2 ^ 30),
           some (s.fld Fld.SC_MAINT_SETWAY.SET * 16 + s.fld Fld.SC_MAINT_SETWAY.WAY)⟩)) ∧
  (∀ (s : State) (byWay : Bool), s.Takes Fld.SC_MAINT.OP.addr → s.bit Fld.SC_STATUS.MAINT_BUSY = true →
       Does (.scMaintCleanInvalidate byWay) s (fun t => t = s)) ∧
  (∀ s : State, s.Takes Fld.SC_RANGE_CMD.OP.addr → s.bit Fld.SC_RANGE_STATUS.BUSY = true →
       Does .scRangeClean s (fun t => t = s.setFld Fld.SC_RANGE_STATUS.ERR_CODE 1)) ∧
  (∀ s : State, s.Takes Fld.SC_RANGE_CMD.OP.addr → s.bit Fld.SC_RANGE_STATUS.BUSY = false →
       (s.fld Fld.SC_RANGE_LEN.VALUE = 0 ∨ s.hbmLines < s.fld Fld.SC_RANGE_START.VALUE + s.fld Fld.SC_RANGE_LEN.VALUE) →
       Does .scRangeClean s (fun t => t = s.setFld Fld.SC_RANGE_STATUS.ERR_CODE 2)) ∧
  (∀ s : State, s.Takes Fld.SC_RANGE_CMD.OP.addr → s.bit Fld.SC_RANGE_STATUS.BUSY = true →
       Does .scRangeInvalidate s (fun t => t = s.setFld Fld.SC_RANGE_STATUS.ERR_CODE 1)) ∧
  (∀ s : State, s.Takes Fld.SC_RANGE_CMD.OP.addr → s.bit Fld.SC_RANGE_STATUS.BUSY = false →
       (s.fld Fld.SC_RANGE_LEN.VALUE = 0 ∨ s.hbmLines < s.fld Fld.SC_RANGE_START.VALUE + s.fld Fld.SC_RANGE_LEN.VALUE) →
       Does .scRangeInvalidate s (fun t => t = s.setFld Fld.SC_RANGE_STATUS.ERR_CODE 2)) ∧
  (∀ s : State, s.Takes Fld.SC_RANGE_CMD.OP.addr → s.bit Fld.SC_RANGE_STATUS.BUSY = true →
       Does .scRangeCleanInvalidate s (fun t => t = s.setFld Fld.SC_RANGE_STATUS.ERR_CODE 1)) ∧
  (∀ s : State, s.Takes Fld.SC_RANGE_CMD.OP.addr → s.bit Fld.SC_RANGE_STATUS.BUSY = false →
       (s.fld Fld.SC_RANGE_LEN.VALUE = 0 ∨ s.hbmLines < s.fld Fld.SC_RANGE_START.VALUE + s.fld Fld.SC_RANGE_LEN.VALUE) →
       Does .scRangeCleanInvalidate s (fun t => t = s.setFld Fld.SC_RANGE_STATUS.ERR_CODE 2)) ∧
  (∀ s : State, s.Takes Fld.SC_RANGE_CMD.OP.addr → s.bit Fld.SC_RANGE_STATUS.BUSY = true →
       Does .scPreload s (fun t => t = s.setFld Fld.SC_RANGE_STATUS.ERR_CODE 1)) ∧
  (∀ s : State, s.Takes Fld.SC_RANGE_CMD.OP.addr → s.bit Fld.SC_RANGE_STATUS.BUSY = false →
       (s.fld Fld.SC_RANGE_LEN.VALUE = 0 ∨ s.hbmLines < s.fld Fld.SC_RANGE_START.VALUE + s.fld Fld.SC_RANGE_LEN.VALUE) →
       Does .scPreload s (fun t => t = s.setFld Fld.SC_RANGE_STATUS.ERR_CODE 2)) ∧
  (∀ s : State, s.Takes Fld.SC_RANGE_CMD.OP.addr → s.bit Fld.SC_RANGE_STATUS.BUSY = true →
       Does .scInvalidateWays s (fun t => t = s.setFld Fld.SC_RANGE_STATUS.ERR_CODE 1)) ∧
  (∀ s : State, s.Takes Fld.SC_RANGE_CMD.OP.addr → s.bit Fld.SC_RANGE_STATUS.BUSY = false → s.fld Fld.SC_RANGE_LEN.VALUE ≠ 0 →
       s.fld Fld.SC_RANGE_START.VALUE + s.fld Fld.SC_RANGE_LEN.VALUE ≤ s.hbmLines → s.fld Fld.SC_PRELOAD_WAYS.WAYS = 0 →
       Does .scPreload s (fun t => t = s.setFld Fld.SC_RANGE_STATUS.ERR_CODE 3)) ∧
  (∀ (s : State) (op : Nat), (s.sc.rangeOp = none ∨ s.sc.rangeOp = some op ∧ s.scRangeQuiet op = false) → Does .scRangeDone s (fun t => t = s)) ∧
  (∀ s : State, s.sc.rangeOp = some 1 → s.scRangeQuiet 1 = true → Does .scRangeDone s (fun t => t.sc.lines = s.sc.lines ∧ t.sc.evict = s.sc.evict)) ∧
  (∀ (s : State) (op : Nat), s.sc.rangeOp = some op → (op = 2 ∨ op = 3) → s.scRangeQuiet op = true →
       Does .scRangeDone s (fun t => (∀ k l, (k, l) ∈ t.sc.lines → s.scInRange l.line = false) ∧
         ∀ k l, (k, l) ∈ s.sc.lines → s.scInRange l.line = false → (k, l) ∈ t.sc.lines)) ∧
  (∀ s : State, s.sc.rangeOp = some 4 → s.fld Fld.SC_RANGE_LEN.VALUE = 1 → s.sc.find (s.fld Fld.SC_RANGE_START.VALUE) = none →
       Does .scRangeDone s (fun t => ∃ k l, (k, l) ∈ t.sc.lines ∧ l.line = s.fld Fld.SC_RANGE_START.VALUE ∧ l.prefetched = false ∧
         l.data = s.sc.mem (s.fld Fld.SC_RANGE_START.VALUE))) ∧
  (∀ s : State, s.sc.rangeOp = some 5 →
       Does .scRangeDone s (fun t => ∀ k l, (k, l) ∈ t.sc.lines ↔
         (k, l) ∈ s.sc.lines ∧ (waysOf (s.fld Fld.SC_PRELOAD_WAYS.WAYS)).contains (k % 16) = false)) ∧
  (∀ (s : State) (m : ScMaint), (s.sc.maint = none ∨ s.sc.maint = some m ∧ s.sc.quiet m.op m.line = false) → Does .scMaintDone s (fun t => t = s)) ∧
  (∀ (s : State) (m : ScMaint), s.sc.maint = some m → m.op = 1 → s.sc.quiet m.op m.line = true →
       Does .scMaintDone s (fun t => t.sc.lines = s.sc.lines ∧ t.sc.evict = s.sc.evict)) ∧
  (∀ (s : State) (m : ScMaint) (k : Nat), s.sc.maint = some m → m.op ≠ 1 → m.entry = none → s.sc.quiet m.op m.line = true → s.sc.find m.line = some k →
       Does .scMaintDone s (fun t => t.sc.lines = tdel s.sc.lines k ∧ t.sc.evFind m.line = none)) ∧
  (∀ (s : State) (m : ScMaint) (k : Nat) (l : ScLine), s.sc.maint = some m → m.op ≠ 1 → m.entry = some k → s.sc.quiet m.op m.line = true →
       tget s.sc.lines k = some l →
       Does .scMaintDone s (fun t => t.sc.lines = (if l.line = m.line then tdel s.sc.lines k else s.sc.lines) ∧ t.sc.evict = s.sc.evict)) ∧
  (∀ (s : State) (ways : Nat), s.bit Fld.SC_RANGE_STATUS.BUSY = true →
       Does (.scLockWrite ways) s (fun t => t = s.setFld Fld.SC_RANGE_STATUS.ERR_CODE 1)) ∧
  (∀ (s : State) (ways : Nat), s.bit Fld.SC_RANGE_STATUS.BUSY = false → 12 < (waysOf ways).length →
       Does (.scLockWrite ways) s (fun t => t = s.setBit Fld.SC_STATUS.LOCK_REFUSED true)) ∧
  (∀ (s : State) (path : Bool), s.bit Fld.SC_CTRL.EVICT_PATH = path → Does (.evictPathSwitch path) s (fun t => t = s)) ∧
  (∀ (s : State) (path : Bool), s.bit Fld.SC_RANGE_STATUS.BUSY = true → s.bit Fld.SC_CTRL.EVICT_PATH ≠ path →
       Does (.evictPathSwitch path) s (fun t => t = s.setFld Fld.SC_RANGE_STATUS.ERR_CODE 1)) ∧
  (∀ (s : State) (req line word : Nat), s.sc.held = [.read req line word] → (s.sc.dirOf line).owner = none → s.sc.find line = none →
       s.sc.evFind line = none → tget s.sc.fills line = none →
       Does .scInitDone s (fun t => t.bit Fld.SC_STATUS.INIT_DONE = true ∧ t.sc.held = [] ∧
         ∃ f, tget t.sc.fills line = some f ∧ f.waiters = [(req, word)])) ∧
  (∀ s : State, Does .scInitDone s (fun t => t.bit Fld.SC_STATUS.INIT_DONE = true ∧ t.sc.held = [])) ∧
  (∀ (s : State) (line k : Nat), s.sc.find line = some k →
       Does (.scEccError (.dataWord line) false) s (fun t => t.fld Fld.SC_ECC_UNCORR = (s.fld Fld.SC_ECC_UNCORR + 1) % 2 ^ Fld.SC_ECC_UNCORR.width ∧
         t.sc.lines = tdel s.sc.lines k ∧ (tget t.sc.fills line).isSome = true)) ∧
  (∀ (s : State) (line : Nat), s.sc.find line = none →
       Does (.scEccError (.dataWord line) false) s (fun t => t.fld Fld.SC_ECC_UNCORR = (s.fld Fld.SC_ECC_UNCORR + 1) % 2 ^ Fld.SC_ECC_UNCORR.width ∧
         t.sc = s.sc)) ∧
  (∀ (s : State) (line : Nat), Does (.scEccError (.evictLine line) false) s (fun t =>
       t.fld Fld.SC_ECC_UNCORR = (s.fld Fld.SC_ECC_UNCORR + 1) % 2 ^ Fld.SC_ECC_UNCORR.width ∧ t.sc.evFind line = none ∧ t.sc.lines = s.sc.lines)) ∧
  (∀ (s : State) (line : Nat), Does (.scEccError (.mergeEntry line) false) s (fun t =>
       t.fld Fld.SC_ECC_UNCORR = (s.fld Fld.SC_ECC_UNCORR + 1) % 2 ^ Fld.SC_ECC_UNCORR.width ∧ t.sc.entry line = none ∧ t.sc.lines = s.sc.lines)) ∧
  (∀ (s : State) (line : Nat), Does (.scEccError (.sliceLine line) false) s (fun t =>
       t.fld Fld.SC_ECC_UNCORR = (s.fld Fld.SC_ECC_UNCORR + 1) % 2 ^ Fld.SC_ECC_UNCORR.width ∧ t.sc.dirOf line = ⟨[], none⟩ ∧
         tget t.sc.recalls line = none))

/-- DMA channels start, fetch, move, end, halt and are disabled; windows are enabled. Rests on R251, R248, R249, R254, R255, R256, R258, R257.
For every state and operands that meet the clause's conditions, the command answers a next state of which the clause says: START and the
timer begin a fetch at the next descriptor's address; a good descriptor begins the move; a grant moves a burst of at most 4,096 bytes; a
confirmed read-back counts the descriptor; a bus error counts it bad; a halt records its code; a disable leaves the channel idle with
nothing pending; a window write enables the window with its space. Readings: log 19, 20, 28. A channel or window of the firmware's refuses
other interfaces; a start of a disabled, stopped, busy or full channel, a descriptor in HBM, one not ready, bad or outside its windows, a
failed read-back, the other halts, and a window switched off or outside the DMA area have their clauses; what is not due leaves the state as
it was (log 8). -/
def Obligations.DmaCommandsTakeEffect : Prop :=
  (∀ (s : State) (iface : Iface) (ch : ChId), s.Takes (Fld.CH_CMD.START.at ch.val).addr → dmaOwnedByFw iface ch.val 64 = false →
       s.bit (Fld.CH_CTRL.EN.at ch.val) = true → s.chState ch.val = 0 →
       Does (.dmaStart iface ch) s (fun t => t.chState ch.val = 1 ∧ ∃ r, tget t.dma.runs ch.val = some r ∧ r.phase = .fetch ∧ r.addr = s.dmaNext ch.val)) ∧
  (∀ (s : State) (ch : ChId), s.pwr.fast = .running → s.fld (Fld.CH_CTRL.TRIG.at ch.val) = 1 → s.fld (Fld.CH_TIMER.PERIOD_US.at ch.val) ≠ 0 →
       s.bit (Fld.CH_CTRL.EN.at ch.val) = true → s.chState ch.val = 0 →
       Does (.dmaTimer ch) s (fun t => t.chState ch.val = 1 ∧ ∃ r, tget t.dma.runs ch.val = some r ∧ r.phase = .fetch ∧ r.addr = s.dmaNext ch.val)) ∧
  (∀ (s : State) (ch : ChId) (bytes : List Nat) (r : DmaRun), tget s.dma.runs ch.val = some r → r.phase = .fetch →
       s.fld (Fld.CH_CTRL.DESC_SPACE.at ch.val) ≠ 0 →
       s.winAllows ch.val (s.fld (Fld.CH_CTRL.DESC_SPACE.at ch.val)) r.addr (r.addr + 64) true true = true →
       (descOf bytes).status % 4 = 0 → (descOf bytes).formatOk = true → s.windowsOk ch.val (descOf bytes) = true →
       Does (.dmaDescFetch ch bytes) s (fun t => tget t.dma.runs ch.val = some { r with desc := descOf bytes, phase := .move })) ∧
  (∀ (s : State) (ch : ChId) (src : List Nat) (r : DmaRun), tget s.dma.runs ch.val = some r → r.phase = .move → s.dmaTurn = some ch.val →
       Does (.dmaGrant ch src) s (fun t => ∃ q, tget t.dma.runs ch.val = some q ∧ q.got = r.got + min 4096 (r.desc.len - r.got) ∧ r.put ≤ q.put ∧
         q.desc = r.desc)) ∧
  (∀ (s : State) (ch : ChId) (r : DmaRun), tget s.dma.runs ch.val = some r → r.phase = .readBack →
       Does (.dmaReadBack ch true) s (fun t => t.fld (Fld.CH_DONE_COUNT.at ch.val) = min (s.fld (Fld.CH_DONE_COUNT.at ch.val) + 1) (2 ^ Fld.CH_DONE_COUNT.width - 1))) ∧
  (∀ (s : State) (ch : ChId) (dest : Bool) (confirmed : Nat) (r : DmaRun), tget s.dma.runs ch.val = some r → r.phase = .move →
       Does (.dmaBusError ch dest confirmed) s (fun t => t.bit (Fld.CH_STATUS.BAD_SEEN.at ch.val) = true ∧
         t.fld (Fld.CH_BAD_COUNT.at ch.val) = min (s.fld (Fld.CH_BAD_COUNT.at ch.val) + 1) (2 ^ Fld.CH_BAD_COUNT.width - 1))) ∧
  (∀ (s : State) (ch : ChId) (r : DmaRun), tget s.dma.runs ch.val = some r → r.phase = .fetch →
       Does (.dmaHalt ch 1) s (fun t => t.chState ch.val = 2 ∧ t.fld (Fld.CH_STATUS.HALT_CODE.at ch.val) = 1 ∧ tget t.dma.runs ch.val = none)) ∧
  (∀ (s : State) (iface : Iface) (ch : ChId), dmaOwnedByFw iface ch.val 64 = false →
       Does (.dmaDisable iface ch) s (fun t => t.bit (Fld.CH_CTRL.EN.at ch.val) = false ∧ t.chState ch.val = 0 ∧
         t.fld (Fld.CH_STATUS.PENDING.at ch.val) = 0 ∧ tget t.dma.runs ch.val = none)) ∧
  (∀ (s : State) (iface : Iface) (win : WinId) (ctrl : Nat), dmaOwnedByFw iface win.val 8 = false → ctrl % 2 = 1 → win.val < 8 →
       Does (.dmaWinEnable iface win ctrl) s (fun t => t.bit (Fld.WIN_CTRL.EN.at win.val) = true ∧ t.fld (Fld.WIN_CTRL.SPACE.at win.val) = ctrl / 2 % 4)) ∧
  (∀ (s : State) (iface : Iface) (ch : ChId), s.Takes (Fld.CH_CMD.START.at ch.val).addr → dmaOwnedByFw iface ch.val 64 = true →
       Does (.dmaStart iface ch) s (fun t => t.bit Fld.SYS_BUS_STATUS.ERR = true ∧ t.fld Fld.SYS_BUS_STATUS.REASON = 3 ∧
         ({ t with regs := s.regs } : State) = s ∧ t.chState ch.val = s.chState ch.val)) ∧
  (∀ (s : State) (iface : Iface) (ch : ChId), s.Takes (Fld.CH_CMD.START.at ch.val).addr → dmaOwnedByFw iface ch.val 64 = false →
       s.bit (Fld.CH_CTRL.EN.at ch.val) = false → Does (.dmaStart iface ch) s (fun t => t = s)) ∧
  (∀ (s : State) (iface : Iface) (ch : ChId), s.Takes (Fld.CH_CMD.START.at ch.val).addr → dmaOwnedByFw iface ch.val 64 = false →
       s.bit (Fld.CH_CTRL.EN.at ch.val) = true → (s.chState ch.val = 2 ∨ s.chState ch.val = 3) →
       Does (.dmaStart iface ch) s (fun t => t.chState ch.val = 1 ∧ t.fld (Fld.CH_STATUS.HALT_CODE.at ch.val) = 0 ∧
         ∃ r, tget t.dma.runs ch.val = some r ∧ r.phase = .fetch ∧ r.addr = s.addrFld (Fld.CH_CUR_DESC.ADDR.at ch.val))) ∧
  (∀ (s : State) (iface : Iface) (ch : ChId), s.Takes (Fld.CH_CMD.START.at ch.val).addr → dmaOwnedByFw iface ch.val 64 = false →
       s.bit (Fld.CH_CTRL.EN.at ch.val) = true → s.chState ch.val = 1 → s.fld (Fld.CH_STATUS.PENDING.at ch.val) < 255 →
       Does (.dmaStart iface ch) s (fun t => t.chState ch.val = 1 ∧ t.dma = s.dma ∧
         t.fld (Fld.CH_STATUS.PENDING.at ch.val) = s.fld (Fld.CH_STATUS.PENDING.at ch.val) + 1)) ∧
  (∀ (s : State) (iface : Iface) (ch : ChId), s.Takes (Fld.CH_CMD.START.at ch.val).addr → dmaOwnedByFw iface ch.val 64 = false →
       s.bit (Fld.CH_CTRL.EN.at ch.val) = true → s.chState ch.val = 1 → s.fld (Fld.CH_STATUS.PENDING.at ch.val) = 255 →
       Does (.dmaStart iface ch) s (fun t => t.chState ch.val = 1 ∧ t.dma = s.dma ∧ t.fld (Fld.CH_STATUS.PENDING.at ch.val) = 255 ∧
         t.bit (Fld.CH_STATUS.MISSED.at ch.val) = true ∧
         t.fld (Fld.CH_MISSED_COUNT.at ch.val) = min (s.fld (Fld.CH_MISSED_COUNT.at ch.val) + 1) (2 ^ Fld.CH_MISSED_COUNT.width - 1))) ∧
  (∀ (s : State) (ch : ChId), (s.pwr.fast ≠ .running ∨ s.fld (Fld.CH_CTRL.TRIG.at ch.val) ≠ 1 ∨ s.fld (Fld.CH_TIMER.PERIOD_US.at ch.val) = 0 ∨
         s.bit (Fld.CH_CTRL.EN.at ch.val) = false) →
       Does (.dmaTimer ch) s (fun t => t = s)) ∧
  (∀ (s : State) (ch : ChId), s.pwr.fast = .running → s.fld (Fld.CH_CTRL.TRIG.at ch.val) = 1 → s.fld (Fld.CH_TIMER.PERIOD_US.at ch.val) ≠ 0 →
       s.bit (Fld.CH_CTRL.EN.at ch.val) = true → s.chState ch.val = 3 →
       Does (.dmaTimer ch) s (fun t => t.chState ch.val = 1 ∧ ∃ r, tget t.dma.runs ch.val = some r ∧ r.phase = .fetch ∧
         r.addr = s.addrFld (Fld.CH_CUR_DESC.ADDR.at ch.val))) ∧
  (∀ (s : State) (ch : ChId), s.pwr.fast = .running → s.fld (Fld.CH_CTRL.TRIG.at ch.val) = 1 → s.fld (Fld.CH_TIMER.PERIOD_US.at ch.val) ≠ 0 →
       s.bit (Fld.CH_CTRL.EN.at ch.val) = true → (s.chState ch.val = 1 ∨ s.chState ch.val = 2) → s.fld (Fld.CH_STATUS.PENDING.at ch.val) < 255 →
       Does (.dmaTimer ch) s (fun t => t.chState ch.val = s.chState ch.val ∧ t.dma = s.dma ∧
         t.fld (Fld.CH_STATUS.PENDING.at ch.val) = s.fld (Fld.CH_STATUS.PENDING.at ch.val) + 1)) ∧
  (∀ (s : State) (ch : ChId), s.pwr.fast = .running → s.fld (Fld.CH_CTRL.TRIG.at ch.val) = 1 → s.fld (Fld.CH_TIMER.PERIOD_US.at ch.val) ≠ 0 →
       s.bit (Fld.CH_CTRL.EN.at ch.val) = true → (s.chState ch.val = 1 ∨ s.chState ch.val = 2) → s.fld (Fld.CH_STATUS.PENDING.at ch.val) = 255 →
       Does (.dmaTimer ch) s (fun t => t.dma = s.dma ∧ t.bit (Fld.CH_STATUS.MISSED.at ch.val) = true ∧
         t.fld (Fld.CH_MISSED_COUNT.at ch.val) = min (s.fld (Fld.CH_MISSED_COUNT.at ch.val) + 1) (2 ^ Fld.CH_MISSED_COUNT.width - 1))) ∧
  (∀ (s : State) (ch : ChId) (bytes : List Nat), (tget s.dma.runs ch.val).map (·.phase) ≠ some .fetch → Does (.dmaDescFetch ch bytes) s (fun t => t = s)) ∧
  (∀ (s : State) (ch : ChId) (bytes : List Nat) (r : DmaRun), tget s.dma.runs ch.val = some r → r.phase = .fetch →
       s.winAllows ch.val (s.fld (Fld.CH_CTRL.DESC_SPACE.at ch.val)) r.addr (r.addr + 64) true true = false →
       Does (.dmaDescFetch ch bytes) s (fun t => t.chState ch.val = 2 ∧ t.fld (Fld.CH_STATUS.HALT_CODE.at ch.val) = 2 ∧ tget t.dma.runs ch.val = none)) ∧
  (∀ (s : State) (ch : ChId) (bytes : List Nat) (r : DmaRun), tget s.dma.runs ch.val = some r → r.phase = .fetch →
       s.fld (Fld.CH_CTRL.DESC_SPACE.at ch.val) = 0 → s.winAllows ch.val 0 r.addr (r.addr + 64) true true = true →
       (descOf ((List.range 64).map (fun i => s.hbmByte (r.addr + i)))).status % 4 = 0 →
       (descOf ((List.range 64).map (fun i => s.hbmByte (r.addr + i)))).formatOk = true →
       s.windowsOk ch.val (descOf ((List.range 64).map (fun i => s.hbmByte (r.addr + i)))) = true →
       Does (.dmaDescFetch ch bytes) s (fun t =>
         tget t.dma.runs ch.val = some { r with desc := descOf ((List.range 64).map (fun i => s.hbmByte (r.addr + i))), phase := .move })) ∧
  (∀ (s : State) (ch : ChId) (bytes bs : List Nat) (r : DmaRun), tget s.dma.runs ch.val = some r → r.phase = .fetch →
       s.winAllows ch.val (s.fld (Fld.CH_CTRL.DESC_SPACE.at ch.val)) r.addr (r.addr + 64) true true = true →
       bs = (if s.fld (Fld.CH_CTRL.DESC_SPACE.at ch.val) = 0 then (List.range 64).map (fun i => s.hbmByte (r.addr + i)) else bytes) →
       (descOf bs).status % 4 ≠ 0 →
       Does (.dmaDescFetch ch bytes) s (fun t => t.chState ch.val = 3 ∧ tget t.dma.runs ch.val = none ∧
         t.fld (Fld.CH_BAD_COUNT.at ch.val) = s.fld (Fld.CH_BAD_COUNT.at ch.val))) ∧
  (∀ (s : State) (ch : ChId) (bytes bs : List Nat) (r : DmaRun), tget s.dma.runs ch.val = some r → r.phase = .fetch →
       s.winAllows ch.val (s.fld (Fld.CH_CTRL.DESC_SPACE.at ch.val)) r.addr (r.addr + 64) true true = true →
       bs = (if s.fld (Fld.CH_CTRL.DESC_SPACE.at ch.val) = 0 then (List.range 64).map (fun i => s.hbmByte (r.addr + i)) else bytes) →
       (descOf bs).status % 4 = 0 → ((descOf bs).formatOk = false ∨ s.windowsOk ch.val (descOf bs) = false) →
       Does (.dmaDescFetch ch bytes) s (fun t => t.bit (Fld.CH_STATUS.BAD_SEEN.at ch.val) = true ∧
         t.fld (Fld.CH_BAD_COUNT.at ch.val) = min (s.fld (Fld.CH_BAD_COUNT.at ch.val) + 1) (2 ^ Fld.CH_BAD_COUNT.width - 1))) ∧
  (∀ (s : State) (ch : ChId) (src : List Nat), ((tget s.dma.runs ch.val).map (·.phase) ≠ some .move ∨ s.dmaTurn ≠ some ch.val) →
       Does (.dmaGrant ch src) s (fun t => t = s)) ∧
  (∀ (s : State) (ch : ChId) (ok : Bool), (tget s.dma.runs ch.val).map (·.phase) ≠ some .readBack → Does (.dmaReadBack ch ok) s (fun t => t = s)) ∧
  (∀ (s : State) (ch : ChId) (r : DmaRun), tget s.dma.runs ch.val = some r → r.phase = .readBack →
       Does (.dmaReadBack ch false) s (fun t => t.bit (Fld.CH_STATUS.BAD_SEEN.at ch.val) = true ∧
         t.fld (Fld.CH_BAD_COUNT.at ch.val) = min (s.fld (Fld.CH_BAD_COUNT.at ch.val) + 1) (2 ^ Fld.CH_BAD_COUNT.width - 1) ∧
         t.fld (Fld.CH_DONE_COUNT.at ch.val) = s.fld (Fld.CH_DONE_COUNT.at ch.val))) ∧
  (∀ (s : State) (ch : ChId) (dest : Bool) (confirmed : Nat), (tget s.dma.runs ch.val).map (·.phase) ≠ some .move →
       Does (.dmaBusError ch dest confirmed) s (fun t => t = s)) ∧
  (∀ (s : State) (ch : ChId) (r : DmaRun), tget s.dma.runs ch.val = some r → r.phase = .fetch →
       s.winAllows ch.val (s.fld (Fld.CH_CTRL.DESC_SPACE.at ch.val)) r.addr (r.addr + 64) true true = false →
       Does (.dmaHalt ch 2) s (fun t => t.chState ch.val = 2 ∧ t.fld (Fld.CH_STATUS.HALT_CODE.at ch.val) = 2 ∧ tget t.dma.runs ch.val = none)) ∧
  (∀ (s : State) (ch : ChId) (r : DmaRun), tget s.dma.runs ch.val = some r → r.phase = .readBack →
       Does (.dmaHalt ch 3) s (fun t => t.chState ch.val = 2 ∧ t.fld (Fld.CH_STATUS.HALT_CODE.at ch.val) = 3 ∧ tget t.dma.runs ch.val = none)) ∧
  (∀ (s : State) (ch : ChId) (code : Nat), (tget s.dma.runs ch.val = none ∨ code = 0 ∨ 3 < code) → Does (.dmaHalt ch code) s (fun t => t = s)) ∧
  (∀ (s : State) (iface : Iface) (ch : ChId), dmaOwnedByFw iface ch.val 64 = true →
       Does (.dmaDisable iface ch) s (fun t => t.bit Fld.SYS_BUS_STATUS.ERR = true ∧ t.fld Fld.SYS_BUS_STATUS.REASON = 3 ∧
         t.bit (Fld.CH_CTRL.EN.at ch.val) = s.bit (Fld.CH_CTRL.EN.at ch.val) ∧ t.dma = s.dma)) ∧
  (∀ (s : State) (iface : Iface) (win : WinId) (ctrl : Nat), dmaOwnedByFw iface win.val 8 = true →
       Does (.dmaWinEnable iface win ctrl) s (fun t => t.bit Fld.SYS_BUS_STATUS.ERR = true ∧ t.fld Fld.SYS_BUS_STATUS.REASON = 3 ∧
         t.bit (Fld.WIN_CTRL.EN.at win.val) = s.bit (Fld.WIN_CTRL.EN.at win.val))) ∧
  (∀ (s : State) (iface : Iface) (win : WinId) (ctrl : Nat), dmaOwnedByFw iface win.val 8 = false → ctrl % 2 = 0 →
       Does (.dmaWinEnable iface win ctrl) s (fun t => t.bit (Fld.WIN_CTRL.EN.at win.val) = false ∧
         t.fld (Fld.WIN_CTRL.SPACE.at win.val) = ctrl / 2 % 4 ∧ t.bit (Fld.WIN_CTRL.READ.at win.val) = decide (ctrl / 8 % 2 = 1) ∧
         t.bit (Fld.WIN_CTRL.WRITE.at win.val) = decide (ctrl / 16 % 2 = 1))) ∧
  (∀ (s : State) (iface : Iface) (win : WinId) (ctrl : Nat), dmaOwnedByFw iface win.val 8 = false → ctrl % 2 = 1 → 8 ≤ win.val →
       (ctrl / 2 % 4 ≠ 0 ∨ s.dmaArea.1 ≤ s.addrFld (Fld.WIN_BASE.ADDR.at win.val) ∧ s.addrFld (Fld.WIN_LIMIT.ADDR.at win.val) ≤ s.dmaArea.2) →
       Does (.dmaWinEnable iface win ctrl) s (fun t => t.bit (Fld.WIN_CTRL.EN.at win.val) = true ∧ t.fld (Fld.WIN_CTRL.SPACE.at win.val) = ctrl / 2 % 4)) ∧
  (∀ (s : State) (iface : Iface) (win : WinId) (ctrl : Nat), dmaOwnedByFw iface win.val 8 = false → ctrl % 2 = 1 → 8 ≤ win.val →
       ctrl / 2 % 4 = 0 → ¬ (s.dmaArea.1 ≤ s.addrFld (Fld.WIN_BASE.ADDR.at win.val) ∧ s.addrFld (Fld.WIN_LIMIT.ADDR.at win.val) ≤ s.dmaArea.2) →
       Does (.dmaWinEnable iface win ctrl) s (fun t => t.bit (Fld.WIN_CTRL.EN.at win.val) = false ∧ t.bit (Fld.WIN_CTRL.ERR.at win.val) = true))

/-- Key commands set the owner, load, unload and erase keys, and restart the TRNG. Rests on R269, R272, R284, R279. For every state and operands
that meet the clause's conditions, the command answers a next state of which the clause says: SET_OWNER without keys loaded derives the key-
encryption key, and with keys loaded answers error 12; LOAD_BLOB of a good blob loads its key into the namespace's slot, and without an
owner answers error 3; UNLOAD empties the slot; ZEROIZE_ALL erases every key; TRNG_RESTART returns to start-up. The wrap is uninterpreted
(log 9), header bytes 6 and 7 must be zero (log 22), other readings: log 29. Each command refused for its order, its key, its blob or its
namespace answers its error number and changes no key. -/
def Obligations.KeyCommandsTakeEffect : Prop :=
  (∀ s : State, s.bit Fld.CIP_KEY_STATUS.BUSY = false → s.cip.keys = [] →
       Does .keySetOwner s (fun t => t.bit Fld.CIP_STATUS.OWNER_SET = true ∧ t.cip.kek.isSome = true ∧ t.fld Fld.CIP_KEY_WINDOW = 0 ∧
         t.bit Fld.CIP_KEY_STATUS.DONE = true ∧ t.fld Fld.CIP_KEY_STATUS.ERROR = 0)) ∧
  (∀ s : State, s.bit Fld.CIP_KEY_STATUS.BUSY = false → s.cip.keys ≠ [] →
       Does .keySetOwner s (fun t => t.fld Fld.CIP_KEY_STATUS.ERROR = 12 ∧ t.cip = s.cip)) ∧
  (∀ (s : State) (plain : BlobPlain) (nsid : Nat), s.bit Fld.CIP_KEY_STATUS.BUSY = false → s.blobError plain = 0 → nsid = s.window 8 8 % 65536 →
       tget s.cip.keys nsid = none → Does (.keyLoadBlob plain) s (fun t => t.fld Fld.CIP_KEY_STATUS.ERROR = 0 ∧ t.bit Fld.CIP_KEY_STATUS.DONE = true ∧
         t.fld Fld.CIP_KEY_STATUS.SLOT = nsid - 1 ∧ ∃ k, tget t.cip.keys nsid = some k ∧ k.key = plain.key ∧ k.ref = plain.ref)) ∧
  (∀ (s : State) (plain : BlobPlain), s.bit Fld.CIP_KEY_STATUS.BUSY = false → s.cip.kek = none →
       Does (.keyLoadBlob plain) s (fun t => t.fld Fld.CIP_KEY_STATUS.ERROR = 3 ∧ t.cip = s.cip)) ∧
  (∀ s : State, s.bit Fld.CIP_KEY_STATUS.BUSY = false →
       Does .keyUnload s (fun t => (∀ k v, (k, v) ∈ t.cip.keys → k ≠ s.fld Fld.CIP_KEY_SEL.SLOT + 1) ∧ t.fld Fld.CIP_KEY_STATUS.ERROR = 0)) ∧
  (∀ s : State, s.bit Fld.CIP_KEY_STATUS.BUSY = false →
       Does .keyZeroizeAll s (fun t => t.cip.keys = [] ∧ t.cip.kek = none ∧ t.bit Fld.CIP_STATUS.OWNER_SET = false ∧ t.fld Fld.CIP_KEY_STATUS.ERROR = 0)) ∧
  (∀ s : State, s.bit Fld.CIP_KEY_STATUS.BUSY = false →
       Does .trngRestart s (fun t => t.bit Fld.CIP_TRNG_STATUS.STARTUP = true ∧ t.bit Fld.CIP_TRNG_STATUS.READY = false ∧ t.fld Fld.CIP_KEY_STATUS.ERROR = 0)) ∧
  (∀ s : State, s.bit Fld.CIP_KEY_STATUS.BUSY = true → Does .keySetOwner s (fun t => t = s)) ∧
  (∀ s : State, s.bit Fld.CIP_KEY_STATUS.BUSY = true → Does .keyUnload s (fun t => t = s)) ∧
  (∀ s : State, s.bit Fld.CIP_KEY_STATUS.BUSY = true → Does .keyZeroizeAll s (fun t => t = s)) ∧
  (∀ s : State, s.bit Fld.CIP_KEY_STATUS.BUSY = true → Does .trngRestart s (fun t => t = s)) ∧
  (∀ (s : State) (plain : BlobPlain), s.bit Fld.CIP_KEY_STATUS.BUSY = true → Does (.keyLoadBlob plain) s (fun t => t = s)) ∧
  (∀ (s : State) (plain : BlobPlain) (e : Nat), s.bit Fld.CIP_KEY_STATUS.BUSY = false → s.blobError plain = e → e ≠ 0 →
       Does (.keyLoadBlob plain) s (fun t => t.fld Fld.CIP_KEY_STATUS.ERROR = e ∧ t.bit Fld.CIP_KEY_STATUS.DONE = true ∧ t.cip = s.cip)) ∧
  (∀ (s : State) (plain : BlobPlain) (nsid : Nat) (k : DataKey), s.bit Fld.CIP_KEY_STATUS.BUSY = false → s.blobError plain = 0 →
       nsid = s.window 8 8 % 65536 → tget s.cip.keys nsid = some k →
       Does (.keyLoadBlob plain) s (fun t => t.fld Fld.CIP_KEY_STATUS.ERROR = (if k.ref = plain.ref then 0 else 2) ∧
         t.fld Fld.CIP_KEY_STATUS.SLOT = nsid - 1 ∧ t.cip = s.cip)) ∧
  (∀ (s : State) (n : Nat), s.bit Fld.CIP_KEY_STATUS.BUSY = false → n ≠ s.fld Fld.CIP_KEY_SEL.SLOT + 1 →
       Does .keyUnload s (fun t => tget t.cip.keys n = tget s.cip.keys n ∧ t.fld Fld.CIP_KEY_STATUS.SLOT = s.fld Fld.CIP_KEY_SEL.SLOT ∧
         t.cip.kek = s.cip.kek))

/-- Tamper trips erase, hold or record; the TRNG starts, fills, fails; waiting commands time out. Rests on R282, R284, R281, R278, R279. For
every state and operands that meet the clause's conditions, the command answers a next state of which the clause says: TAMPER_RELEASE under
a valid token ends the hold; a write with LOCK sets the enables and filter once; an internal trip, or one of an enabled external source,
erases all keys, or holds the reset in start-up, or is recorded when unpowered; a passed start-up test ends start-up; a block adds to the
pool up to 64; a third failure within a second fails the TRNG, a first is counted; a command that waits for entropy ends with its status.
Readings: log 29. A release refused for its token or its source, a locked configuration, a source that is off, a block that comes when none
is taken and a failure that is not counted each have their clause. -/
def Obligations.TamperAndTrngTakeEffect : Prop :=
  (∀ s : State, s.bit Fld.CIP_KEY_STATUS.BUSY = false → s.bit Fld.CIP_STATUS.TAMPER_HOLD = true →
       s.tokenOk 6 (s.fld Fld.CIP_TAMPER_STATUS.LATCHED) (s.fld Fld.CIP_AUTH) = true →
       Does (.tamperRelease .smbus 0) s (fun t => t.bit Fld.CIP_STATUS.TAMPER_HOLD = false ∧ t.fld Fld.CIP_KEY_STATUS.ERROR = 0 ∧ t.evr.chal = none)) ∧
  (∀ (s : State) (value : Nat), s.bit Fld.CIP_TAMPER_CFG.LOCK = false →
       Does (.tamperCfgLock value) s (fun t => t.bit Fld.CIP_TAMPER_CFG.LOCK = true ∧ t.fld Fld.CIP_TAMPER_CFG.EXT_EN = value % 16 ∧
         t.fld Fld.CIP_TAMPER_CFG.FILTER = value / 256 % 4)) ∧
  (∀ (s : State) (value : Nat), s.bit Fld.CIP_TAMPER_CFG.LOCK = true → Does (.tamperCfgLock value) s (fun t => t = s)) ∧
  (∀ (s : State) (src : Fin 8) (active : Nat), (4 ≤ src.val ∨ s.fld Fld.CIP_TAMPER_CFG.EXT_EN / 2 ^ src.val % 2 = 1) → s.pwr.fast ≠ .unpowered → s.startingUp = false →
       Does (.tamperTrip src active) s (fun t => t.cip.keys = [] ∧ t.cip.kek = none ∧ t.bit Fld.CIP_STATUS.OWNER_SET = false)) ∧
  (∀ (s : State) (src : Fin 8) (active : Nat), (4 ≤ src.val ∨ s.fld Fld.CIP_TAMPER_CFG.EXT_EN / 2 ^ src.val % 2 = 1) → s.startingUp = true →
       Does (.tamperTrip src active) s (fun t => t.bit Fld.CIP_STATUS.TAMPER_HOLD = true ∧ t.pwr.fast = .inReset)) ∧
  (∀ (s : State) (src : Fin 8) (active : Nat), (4 ≤ src.val ∨ s.fld Fld.CIP_TAMPER_CFG.EXT_EN / 2 ^ src.val % 2 = 1) → s.pwr.fast = .unpowered →
       Does (.tamperTrip src active) s (fun t => t.bit Fld.CIP_TAMPER_STATUS.IN_OFF = true ∧ t.cip.keys = s.cip.keys)) ∧
  (∀ s : State, s.bit Fld.CIP_TRNG_STATUS.STARTUP = true → Does (.trngStartupDone true) s (fun t => t.bit Fld.CIP_TRNG_STATUS.STARTUP = false ∧
       t.bit Fld.CIP_TRNG_STATUS.FAILED = false ∧ t.bit Fld.CIP_STATUS.TRNG_FAILED = false)) ∧
  (∀ s : State, s.bit Fld.CIP_TRNG_STATUS.STARTUP = false → s.bit Fld.CIP_TRNG_STATUS.FAILED = false → s.cip.entropy = [] →
       Does .trngBlockReady s (fun t => t.pool = min 64 (s.pool + 1) ∧ t.bit Fld.CIP_STATUS.TRNG_READY = true)) ∧
  (∀ (s : State) (x y : Nat), s.bit Fld.CIP_TRNG_STATUS.FAILED = false → s.now < x + sec → s.now < y + sec → s.cip.trngFails = [x, y] →
       Does (.trngHealthFail true) s (fun t => t.bit Fld.CIP_TRNG_STATUS.FAILED = true ∧ t.bit Fld.CIP_STATUS.TRNG_FAILED = true ∧ t.pool = 0)) ∧
  (∀ s : State, s.cip.trngFails = [] → Does (.trngHealthFail false) s (fun t => t.bit Fld.CIP_TRNG_STATUS.FAILED = s.bit Fld.CIP_TRNG_STATUS.FAILED ∧
       t.fld Fld.CIP_TRNG_RCT_FAIL = min (s.fld Fld.CIP_TRNG_RCT_FAIL + 1) (2 ^ Fld.CIP_TRNG_RCT_FAIL.width - 1))) ∧
  (∀ (s : State) (tag : Nat) (c : HostCmd), s.cmd tag = some c → c.phase = .entropyWait → c.tag = tag →
       Does (.entropyTimeout tag) s (fun t => s.Ended t c stEntropy [] ∧ tag ∉ t.cip.entropy)) ∧
  (∀ (s : State) (iface : Iface) (active : Nat), s.bit Fld.CIP_KEY_STATUS.BUSY = true → Does (.tamperRelease iface active) s (fun t => t = s)) ∧
  (∀ (s : State) (iface : Iface) (active : Nat), s.bit Fld.CIP_KEY_STATUS.BUSY = false → s.bit Fld.CIP_STATUS.TAMPER_HOLD = false →
       Does (.tamperRelease iface active) s (fun t => t.fld Fld.CIP_KEY_STATUS.ERROR = 2 ∧ t.bit Fld.CIP_STATUS.TAMPER_HOLD = false ∧ t.evr = s.evr)) ∧
  (∀ (s : State) (iface : Iface) (active : Nat), s.bit Fld.CIP_KEY_STATUS.BUSY = false → s.bit Fld.CIP_STATUS.TAMPER_HOLD = true →
       (iface ≠ .smbus ∨ active % 2 ^ Fld.CIP_TAMPER_STATUS.ACTIVE.width ≠ 0) →
       Does (.tamperRelease iface active) s (fun t => t.fld Fld.CIP_KEY_STATUS.ERROR = 13 ∧ t.bit Fld.CIP_STATUS.TAMPER_HOLD = true ∧ t.evr = s.evr)) ∧
  (∀ s : State, s.bit Fld.CIP_KEY_STATUS.BUSY = false → s.bit Fld.CIP_STATUS.TAMPER_HOLD = true →
       s.tokenOk 6 (s.fld Fld.CIP_TAMPER_STATUS.LATCHED) (s.fld Fld.CIP_AUTH) = false →
       Does (.tamperRelease .smbus 0) s (fun t => t.bit Fld.CIP_STATUS.TAMPER_HOLD = true ∧ t.fld Fld.CIP_KEY_STATUS.ERROR = 13 ∧ t.evr.chal = none ∧
         t.evr.failures = s.evr.failures + 1)) ∧
  (∀ (s : State) (src : Fin 8) (active : Nat), src.val < 4 → s.fld Fld.CIP_TAMPER_CFG.EXT_EN / 2 ^ src.val % 2 = 0 →
       Does (.tamperTrip src active) s (fun t => t = s)) ∧
  (∀ (s : State) (ok : Bool), (s.bit Fld.CIP_TRNG_STATUS.STARTUP = false ∨ ok = false) → Does (.trngStartupDone ok) s (fun t => t = s)) ∧
  (∀ s : State, (s.bit Fld.CIP_TRNG_STATUS.STARTUP = true ∨ s.bit Fld.CIP_TRNG_STATUS.FAILED = true) → Does .trngBlockReady s (fun t => t = s)) ∧
  (∀ (s : State) (tag : Nat) (r : List Nat) (c : HostCmd) (k : DataKey), s.bit Fld.CIP_TRNG_STATUS.STARTUP = false →
       s.bit Fld.CIP_TRNG_STATUS.FAILED = false → s.cip.entropy = tag :: r → s.cmd tag = some c → tget s.cip.keys c.nsid = some k →
       k.exhausted = false → k.ctx = none → k.ctr + c.sectors ≤ nonceEnd → k.ctr + c.sectors ≤ s.mark c.nsid →
       Does .trngBlockReady s (fun t => t.cip.entropy = r ∧ t.cip.waiting.length = s.cip.waiting.length + (rangeLbas c.ranges).length ∧
         ∃ q, tget t.cip.keys c.nsid = some q ∧ q.ctx.isSome = true ∧ q.ctr = k.ctr + c.sectors ∧ q.key = k.key)) ∧
  (∀ (s : State) (apt : Bool), ((s.cip.trngFails.filter (fun t => s.now < t + sec)).length < 2 ∨ s.bit Fld.CIP_TRNG_STATUS.FAILED = true) →
       Does (.trngHealthFail apt) s (fun t => t.bit Fld.CIP_TRNG_STATUS.FAILED = s.bit Fld.CIP_TRNG_STATUS.FAILED ∧ t.cip.entropy = s.cip.entropy ∧
         t.cip.trngFails = s.cip.trngFails.filter (fun t => s.now < t + sec) ++ [s.now] ∧ t.pool = s.pool - 2 ∧
         t.fld (if apt then Fld.CIP_TRNG_APT_FAIL else Fld.CIP_TRNG_RCT_FAIL) =
           min (s.fld (if apt then Fld.CIP_TRNG_APT_FAIL else Fld.CIP_TRNG_RCT_FAIL) + 1)
             (2 ^ (if apt then Fld.CIP_TRNG_APT_FAIL else Fld.CIP_TRNG_RCT_FAIL).width - 1))) ∧
  (∀ (s : State) (apt : Bool), 2 ≤ (s.cip.trngFails.filter (fun t => s.now < t + sec)).length → s.bit Fld.CIP_TRNG_STATUS.FAILED = false →
       Does (.trngHealthFail apt) s (fun t => t.bit Fld.CIP_TRNG_STATUS.FAILED = true ∧ t.bit Fld.CIP_STATUS.TRNG_FAILED = true ∧ t.pool = 0 ∧
         t.cip.entropy = [])) ∧
  (∀ (s : State) (apt : Bool) (tag : Nat) (c : HostCmd), 2 ≤ (s.cip.trngFails.filter (fun t => s.now < t + sec)).length →
       s.bit Fld.CIP_TRNG_STATUS.FAILED = false → s.cip.entropy = [tag] → s.cmd tag = some c → c.phase = .entropyWait → c.tag = tag →
       Does (.trngHealthFail apt) s (fun t => s.Ended t c stEntropy [])) ∧
  (∀ (s : State) (tag : Nat), (s.cmd tag).map (·.phase) ≠ some .entropyWait →
       Does (.entropyTimeout tag) s (fun t => t.hfe = s.hfe ∧ t.cip.entropy = s.cip.entropy.filter (· ≠ tag)))

/-- Cipher messages start, suspend a lower class, end, and nonce marks take effect. Rests on R265, R267, R275. For every state and operands that
meet the clause's conditions, the command answers a next state of which the clause says: the next message takes a free pipeline, or for
class 0 that of a message it suspends (counted); the end of an encryption leaves the sealed sector in the write cache and counts it, of a
decryption counts it; a nonce mark's acknowledgement makes it the namespace's mark. The ciphers are uninterpreted (log 9); readings: log 29.
Messages with no pipeline free, a failed tag, a lost command and a mark that is not awaited each have their clause. -/
def Obligations.CipherMessagesTakeEffect : Prop :=
  (∀ (s : State) (pick : Cls) (remaining : List Nat) (m : CMsg) (i : Nat), s.nextMessage pick = some (m, false) →
       (List.range 16).find? (fun i => (tget s.cip.pipes i).isNone) = some i →
       Does (.cipherMessageStart pick remaining) s (fun t => tget t.cip.pipes i = some m ∧ t.cip.waiting = s.cip.waiting.erase m)) ∧
  (∀ (s : State) (pick : Cls) (remaining : List Nat) (m v : CMsg) (i : Nat), s.nextMessage pick = some (m, false) → m.cls = 0 →
       (List.range 16).find? (fun i => (tget s.cip.pipes i).isNone) = none → s.cip.suspended.length < 256 → s.suspendVictim remaining = some (i, v) →
       Does (.cipherMessageStart pick remaining) s (fun t => tget t.cip.pipes i = some m ∧ t.cip.suspended = s.cip.suspended ++ [v] ∧
         t.fld Fld.CIP_SUSPEND_COUNT = (s.fld Fld.CIP_SUSPEND_COUNT + 1) % 2 ^ Fld.CIP_SUSPEND_COUNT.width)) ∧
  (∀ (s : State) (pipe : Fin 16) (m : CMsg) (k : DataKey), tget s.cip.pipes pipe.val = some m → tget s.cip.keys m.nsid = some k → m.enc = true →
       Does (.cipherMessageDone pipe) s (fun t => tget t.cip.pipes pipe.val = none ∧
         t.fld Fld.CIP_ENC_SECTORS = (s.fld Fld.CIP_ENC_SECTORS + 1) % 2 ^ Fld.CIP_ENC_SECTORS.width ∧
         ∃ l, tget t.wc.lines (nsKey m.nsid m.lba) = some l ∧ (l.sec = sealSector k.key m ∨ l.newer = some (sealSector k.key m)))) ∧
  (∀ (s : State) (pipe : Fin 16) (m : CMsg) (k : DataKey), tget s.cip.pipes pipe.val = some m → tget s.cip.keys m.nsid = some k → m.enc = false →
       Does (.cipherMessageDone pipe) s (fun t => tget t.cip.pipes pipe.val = none ∧
         t.fld Fld.CIP_DEC_SECTORS = (s.fld Fld.CIP_DEC_SECTORS + 1) % 2 ^ Fld.CIP_DEC_SECTORS.width)) ∧
  (∀ (s : State) (nsid m : Nat), tget s.cip.markDue nsid = some m → s.bit Fld.WC_STATUS.MIRROR_ON = false → s.hfe.cmds = [] →
       Does (.nonceMarkAck nsid) s (fun t => s.mark nsid = (tget t.cip.markOld nsid).getD 0 ∧ t.mark nsid = m ∧ tget t.cip.markDue nsid = none)) ∧
  (∀ (s : State) (pick : Cls) (remaining : List Nat), s.nextMessage pick = none → Does (.cipherMessageStart pick remaining) s (fun t => t = s)) ∧
  (∀ (s : State) (pick : Cls) (remaining : List Nat) (m : CMsg) (i : Nat), s.nextMessage pick = some (m, true) →
       (List.range 16).find? (fun i => (tget s.cip.pipes i).isNone) = some i →
       Does (.cipherMessageStart pick remaining) s (fun t => tget t.cip.pipes i = some m ∧ t.cip.suspended = s.cip.suspended.erase m ∧
         t.cip.waiting = s.cip.waiting ∧ t.fld Fld.CIP_STATUS.CONTEXTS = (s.cip.suspended.erase m).length % 2 ^ Fld.CIP_STATUS.CONTEXTS.width)) ∧
  (∀ (s : State) (pick : Cls) (remaining : List Nat) (m : CMsg) (resumed : Bool), s.nextMessage pick = some (m, resumed) →
       (List.range 16).find? (fun i => (tget s.cip.pipes i).isNone) = none →
       (m.cls ≠ 0 ∨ 256 ≤ s.cip.suspended.length ∨ s.suspendVictim remaining = none) →
       Does (.cipherMessageStart pick remaining) s (fun t => t = s)) ∧
  (∀ (s : State) (pipe : Fin 16), tget s.cip.pipes pipe.val = none → Does (.cipherMessageDone pipe) s (fun t => t = s)) ∧
  (∀ (s : State) (pipe : Fin 16) (m : CMsg), tget s.cip.pipes pipe.val = some m → tget s.cip.keys m.nsid = none →
       Does (.cipherMessageDone pipe) s (fun t => tget t.cip.pipes pipe.val = none ∧ t.wc = s.wc ∧ t.hfe = s.hfe ∧ t.regs = s.regs)) ∧
  (∀ (s : State) (pipe : Fin 16) (m : CMsg) (k : DataKey), tget s.cip.pipes pipe.val = some m → tget s.cip.keys m.nsid = some k → m.enc = false →
       gcmTagOf k.key m.ctx m.ctr m.nsid m.lba m.text ≠ m.gcm →
       Does (.cipherMessageDone pipe) s (fun t =>
         t.fld Fld.CIP_AUTH_FAIL_COUNT = (s.fld Fld.CIP_AUTH_FAIL_COUNT + 1) % 2 ^ Fld.CIP_AUTH_FAIL_COUNT.width)) ∧
  (∀ (s : State) (pipe : Fin 16) (m : CMsg) (k : DataKey), tget s.cip.pipes pipe.val = some m → tget s.cip.keys m.nsid = some k → m.enc = false →
       gcmTagOf k.key m.ctx m.ctr m.nsid m.lba m.text = m.gcm →
       Does (.cipherMessageDone pipe) s (fun t => t.fld Fld.CIP_AUTH_FAIL_COUNT = s.fld Fld.CIP_AUTH_FAIL_COUNT)) ∧
  (∀ (s : State) (nsid : Nat), tget s.cip.markDue nsid = none → Does (.nonceMarkAck nsid) s (fun t => t = s)) ∧
  (∀ (s : State) (nsid m : Nat), tget s.cip.markDue nsid = some m → s.bit Fld.WC_STATUS.MIRROR_ON = true →
       MirrorItem.nonceMark nsid m ∈ s.capo.unacked → Does (.nonceMarkAck nsid) s (fun t => t = s)) ∧
  (∀ (s : State) (nsid m : Nat), tget s.cip.markDue nsid = some m →
       (s.bit Fld.WC_STATUS.MIRROR_ON = false ∨ MirrorItem.nonceMark nsid m ∉ s.capo.unacked) →
       (∀ c, c ∈ s.hfe.cmds → c.phase ≠ .markWait ∨ c.nsid ≠ nsid) →
       Does (.nonceMarkAck nsid) s (fun t => tget t.cip.markOld nsid = some (s.mark nsid) ∧ t.mark nsid = m ∧ tget t.cip.markDue nsid = none ∧
         t.hfe = s.hfe)) ∧
  (∀ (s : State) (nsid m ctx : Nat) (c : HostCmd) (k : DataKey), tget s.cip.markDue nsid = some m → s.bit Fld.WC_STATUS.MIRROR_ON = false →
       s.hfe.cmds = [c] → c.phase = .markWait → c.nsid = nsid → tget s.cip.keys nsid = some k → k.ctx = some ctx → k.exhausted = false →
       k.ctr + c.sectors ≤ m → k.ctr + c.sectors ≤ nonceEnd →
       Does (.nonceMarkAck nsid) s (fun t => t.mark nsid = m ∧ t.cip.waiting.length = s.cip.waiting.length + (rangeLbas c.ranges).length ∧
         ∃ q, tget t.cip.keys nsid = some q ∧ q.ctx = some ctx ∧ q.ctr = k.ctr + c.sectors))

/-- The write gate and the claim follow the line, the renewals and the contention rules. Rests on R310, R311, R312, R313. For every state and
operands that meet the clause's conditions, the command answers a next state of which the clause says: a changed class closes the gate and
is recorded; a failed read-back faults; GATE_OPEN opens for a claimant when every condition has held for the confirm time, and does nothing
before; only firmware renews; an expired renewal closes the gate and releases the line; contention of rank 0 backs off; a backoff's end
claims again, or gives up at the eighth. Readings: log 26. The conditions that are not met leave the gate, the role or the state as it was
(log 8), each in its own clause. -/
def Obligations.GateAndClaimFollowTheLine : Prop :=
  (∀ (s : State) (c : SeenClass), s.pwr.fast ≠ .inReset → s.pwr.fast ≠ .unpowered → s.seen ≠ seenCode c → s.paired = true →
       Does (.capoSeenClass c) s (fun t => t.seen = seenCode c ∧ t.capo.seenAt = s.now ∧ t.bit Fld.CAPO_STATUS.GATE_OPEN = false)) ∧
  (∀ s : State, s.paired = true → s.islandOff = false → s.capo.released = false →
       Does (.readbackCheck false) s (fun t => t.bit Fld.CAPO_STATUS.READBACK_FAULT = true ∧ t.bit Fld.CAPO_STATUS.LINE_FAULT = true ∧
         t.bit Fld.CAPO_STATUS.GATE_OPEN = false ∧ t.role = 5 ∧ t.fld Fld.CAPO_STATUS.DRIVE = 3)) ∧
  (∀ s : State, s.bit Fld.CAPO_STATUS.GATE_OPEN = false → s.paired = true → s.islandOff = false → s.gateHolds = true →
       s.capo.seenAt + s.confirmTime ≤ s.now → s.role = 2 →
       Does .gateOpen s (fun t => t.bit Fld.CAPO_STATUS.GATE_OPEN = true ∧ t.role = 3 ∧ t.bit Fld.PAIR_STATUS.STATE_COMPLETE = true)) ∧
  (∀ s : State, s.paired = true → s.islandOff = false → s.gateHolds = true → s.now < s.capo.seenAt + s.confirmTime →
       Does .gateOpen s (fun t => t = s)) ∧
  (∀ s : State, Does (.capoRenew .firmware) s (fun t => t.capo.renewAt = s.now ∧ t.regs = s.regs)) ∧
  (∀ (s : State) (iface : Iface), iface ≠ .firmware → Does (.capoRenew iface) s (fun t => t = s)) ∧
  (∀ s : State, s.paired = true → s.islandOff = false → s.capo.request = true → s.pwr.fast = .running →
       Does .renewExpiry s (fun t => t.bit Fld.CAPO_STATUS.GATE_OPEN = false ∧ t.bit Fld.CAPO_STATUS.RENEW_EXPIRED = true ∧
         t.fld Fld.CAPO_STATUS.DRIVE = 0 ∧ t.role = 1 ∧ t.capo.expired = true ∧ t.mayClaim = false)) ∧
  (∀ s : State, s.paired = true → s.rank = 0 → s.capo.request = true → s.seen = 1 → s.role ≠ 4 →
       Does .contentionTimeout s (fun t => t.capo.rounds = s.capo.rounds + 1 ∧ t.capo.backoff = true ∧ (s.role ≠ 3 → t.role = 1 ∧ t.capo.request = false))) ∧
  (∀ s : State, s.capo.backoff = true → s.capo.rounds < 8 → s.mayClaim = true →
       Does .contentionBackoffExpiry s (fun t => t.role = 2 ∧ t.capo.request = true ∧ t.capo.backoff = false)) ∧
  (∀ s : State, s.capo.backoff = true → 8 ≤ s.capo.rounds →
       Does .contentionBackoffExpiry s (fun t => t.fld Fld.CAPO_STATUS.IDLE_REASON = 6 ∧ t.capo.backoff = false)) ∧
  (∀ (s : State) (c : SeenClass), (s.pwr.fast = .inReset ∨ s.pwr.fast = .unpowered ∨ s.seen = seenCode c) → Does (.capoSeenClass c) s (fun t => t = s)) ∧
  (∀ (s : State) (c : SeenClass), s.pwr.fast ≠ .inReset → s.pwr.fast ≠ .unpowered → s.seen ≠ seenCode c → s.paired = false →
       Does (.capoSeenClass c) s (fun t => t.seen = seenCode c ∧ t.capo.seenAt = s.now ∧ t.role = s.role ∧
         t.bit Fld.CAPO_STATUS.GATE_OPEN = s.bit Fld.CAPO_STATUS.GATE_OPEN)) ∧
  (∀ (s : State) (c : SeenClass), s.seen ≠ seenCode c → s.paired = true → s.islandOff = false → s.capo.released = false → 4 ≤ seenCode c →
       Does (.capoSeenClass c) s (fun t => t.role = 5 ∧ t.bit Fld.CAPO_STATUS.LINE_FAULT = true ∧ t.fld Fld.CAPO_STATUS.DRIVE = 3 ∧
         t.capo.request = false)) ∧
  (∀ s : State, s.seen ≠ 3 → s.paired = true → s.islandOff = false → s.role = 1 → s.partnerActive = true →
       Does (.capoSeenClass .released) s (fun t => t.role = 5 ∧ t.bit Fld.CAPO_STATUS.LINE_FAULT = true)) ∧
  (∀ s : State, s.seen ≠ 1 → s.paired = true → s.islandOff = false → s.capo.request = true → s.rank = 1 → s.role ≠ 3 → s.role ≠ 4 →
       Does (.capoSeenClass .active) s (fun t => t.role = 1 ∧ t.capo.request = false)) ∧
  (∀ s : State, s.seen ≠ 1 → s.paired = true → s.islandOff = false → s.capo.request = true → s.rank = 1 → s.role = 3 →
       Does (.capoSeenClass .active) s (fun t => t.role = 4 ∧ t.bit Fld.CAPO_STATUS.GATE_OPEN = false)) ∧
  (∀ s : State, Does (.readbackCheck true) s (fun t => t = s)) ∧
  (∀ s : State, (s.pwr.fast = .inReset ∨ s.pwr.fast = .unpowered) → Does (.readbackCheck false) s (fun t => t = s)) ∧
  (∀ s : State, s.pwr.fast ≠ .inReset → s.pwr.fast ≠ .unpowered → (s.paired = false ∨ s.islandOff = true) →
       Does (.readbackCheck false) s (fun t => t = s.setBit Fld.CAPO_STATUS.READBACK_FAULT true)) ∧
  (∀ s : State, s.paired = true → s.islandOff = false → s.capo.released = true →
       Does (.readbackCheck false) s (fun t => t.bit Fld.CAPO_STATUS.READBACK_FAULT = true ∧ t.bit Fld.CAPO_STATUS.LINE_FAULT = true ∧
         t.bit Fld.CAPO_STATUS.GATE_OPEN = false ∧ t.role = 5 ∧ t.fld Fld.CAPO_STATUS.DRIVE = 0)) ∧
  (∀ s : State, (s.bit Fld.CAPO_STATUS.GATE_OPEN = true ∨ s.paired = false ∨ s.islandOff = true ∨ s.gateHolds = false ∨ (s.role ≠ 2 ∧ s.role ≠ 3)) →
       Does .gateOpen s (fun t => t = s)) ∧
  (∀ s : State, s.bit Fld.CAPO_STATUS.GATE_OPEN = false → s.paired = true → s.islandOff = false → s.gateHolds = true →
       s.capo.seenAt + s.confirmTime ≤ s.now → s.role = 3 →
       Does .gateOpen s (fun t => t.bit Fld.CAPO_STATUS.GATE_OPEN = true ∧ t.role = 3 ∧ t.fld Fld.PAIR_EPOCH = s.fld Fld.PAIR_EPOCH)) ∧
  (∀ (s : State) (x : Nat), s.bit Fld.CAPO_STATUS.GATE_OPEN = false → s.paired = true → s.islandOff = false → s.gateHolds = true →
       s.capo.seenAt + s.confirmTime ≤ s.now → s.role = 2 → s.capo.takeoverAt = some x →
       Does .gateOpen s (fun t => t.bit Fld.CAPO_STATUS.GATE_OPEN = true ∧ t.role = 3 ∧ t.capo.takeoverAt = some x ∧ t.capo.fence = s.capo.fence ∧
         t.fld Fld.PAIR_EPOCH = s.fld Fld.PAIR_EPOCH)) ∧
  (∀ s : State, (s.paired = false ∨ s.islandOff = true ∨ s.capo.request = false ∨ s.pwr.fast ≠ .running) → Does .renewExpiry s (fun t => t = s)) ∧
  (∀ s : State, s.paired = true → s.rank = 0 → s.capo.request = true → s.seen = 1 → s.role = 3 →
       Does .contentionTimeout s (fun t => t.role = 4 ∧ t.bit Fld.CAPO_STATUS.GATE_OPEN = false ∧ t.capo.rounds = s.capo.rounds + 1 ∧ t.capo.backoff = true)) ∧
  (∀ s : State, (s.paired = false ∨ s.rank ≠ 0 ∨ s.capo.request = false ∨ s.seen ≠ 1 ∨ s.role = 4) → Does .contentionTimeout s (fun t => t = s)) ∧
  (∀ s : State, s.capo.backoff = true → s.capo.rounds < 8 → s.mayClaim = false →
       Does .contentionBackoffExpiry s (fun t => t.role = s.role ∧ t.capo.request = s.capo.request ∧ t.capo.backoff = false)) ∧
  (∀ s : State, s.capo.backoff = false → Does .contentionBackoffExpiry s (fun t => t = s))

/-- CLAIM, RELEASE, CLEAR_FAULT, FORCE_CLAIM and the capo self-tests. Rests on R328, R315, R314, R324, R321. For every state and operands that
meet the clause's conditions, the command answers a next state of which the clause says: CLAIM of a standby that may claim begins a claim,
and of any other role does nothing; RELEASE of the active device closes the gate and tells the partner, and completes with the line released
when no write is out; CLEAR_FAULT clears a fault that has gone and nothing else; FORCE_CLAIM under a valid token raises the epoch by 65,536
and claims; the self-tests record the failed drives. Readings: log 26. A command that the role or the token does not allow answers its error
or leaves the state (log 8). -/
def Obligations.CapoCommandsTakeEffect : Prop :=
  (∀ s : State, s.Takes Fld.CAPO_CMD.CMD.addr → s.role = 1 → s.mayClaim = true → s.fld Fld.CAPO_STATUS.IDLE_REASON ∉ [2, 3, 5] →
       Does .capoClaim s (fun t => t.role = 2 ∧ t.capo.request = true ∧ t.capo.rounds = 0 ∧ t.fld Fld.CAPO_STATUS.IDLE_REASON = 0)) ∧
  (∀ s : State, s.Takes Fld.CAPO_CMD.CMD.addr → s.role ≠ 1 → Does .capoClaim s (fun t => t.regs = s.regs ∧ t.capo = s.capo)) ∧
  (∀ s : State, s.Takes Fld.CAPO_CMD.CMD.addr → s.role = 3 →
       Does .capoRelease s (fun t => t.role = 4 ∧ t.bit Fld.CAPO_STATUS.GATE_OPEN = false ∧ t.capo.releaseCause = 2 ∧ t.capo.sent ≠ [])) ∧
  (∀ s : State, s.role = 4 → s.writesOut = false →
       Does .releaseComplete s (fun t => t.role = 1 ∧ t.fld Fld.CAPO_STATUS.DRIVE = 0 ∧ t.capo.request = false ∧ t.wc.updates = [])) ∧
  (∀ s : State, s.Takes Fld.CAPO_CMD.CMD.addr → s.bit Fld.CAPO_STATUS.LINE_FAULT = true → s.seen < 4 →
       Does .capoClearFault s (fun t => t.bit Fld.CAPO_STATUS.LINE_FAULT = false ∧ t.bit Fld.CAPO_STATUS.READBACK_FAULT = false ∧
         t.fld Fld.CAPO_STATUS.IDLE_REASON = 0 ∧ t.role = if s.capo.chosen then 1 else 0)) ∧
  (∀ s : State, s.Takes Fld.CAPO_CMD.CMD.addr → s.bit Fld.CAPO_STATUS.LINE_FAULT = true → 4 ≤ s.seen → Does .capoClearFault s (fun t => t = s)) ∧
  (∀ (s : State) (iface : Iface), s.Takes Fld.CAPO_CMD.CMD.addr → s.role = 1 → (s.fld Fld.CAPO_STATUS.IDLE_REASON = 2 ∨ s.fld Fld.CAPO_STATUS.IDLE_REASON = 3) →
       s.mayClaim = true → s.fld Fld.PAIR_EPOCH + 65536 < 2 ^ 32 → s.tokenOk 7 (s.fld Fld.PAIR_EPOCH) (s.fld Fld.CAPO_AUTH) = true →
       Does (.capoForceClaim iface) s (fun t => t.role = 2 ∧ t.fld Fld.PAIR_EPOCH = s.fld Fld.PAIR_EPOCH + 65536 ∧ t.evr.chal = none)) ∧
  (∀ (s : State) (failed : Nat), s.Takes Fld.CAPO_CMD.CMD.addr → s.role = 1 →
       Does (.selftestNow failed) s (fun t => t.fld Fld.SELFTEST_STATUS.FAIL = failed % 64 ∧
         t.fld Fld.SELFTEST_STATUS.CYCLES = min (s.fld Fld.SELFTEST_STATUS.CYCLES + 1) (2 ^ Fld.SELFTEST_STATUS.CYCLES.width - 1))) ∧
  (∀ (s : State) (failed : Nat), s.role = 1 → s.thresholds.flags / 2 % 2 = 1 →
       Does (.selftestCycle failed) s (fun t => t.fld Fld.SELFTEST_STATUS.FAIL = failed % 64 ∧ t.capo.passed = 63 - failed % 64)) ∧
  (∀ s : State, s.Takes Fld.CAPO_CMD.CMD.addr → (s.role ≠ 1 ∨ s.mayClaim = false ∨ s.fld Fld.CAPO_STATUS.IDLE_REASON ∈ [2, 3, 5]) →
       Does .capoClaim s (fun t => t.regs = s.regs ∧ t.capo = s.capo)) ∧
  (∀ s : State, s.Takes Fld.CAPO_CMD.CMD.addr → s.role = 1 → s.mayClaim = true → s.fld Fld.CAPO_STATUS.IDLE_REASON ∉ [2, 3, 5] →
       Does .capoClaim s (fun t => t.capo.fence = (decide (s.seen = 3) && s.capo.chosen) ∧
         t.capo.takeoverAt = if s.seen = 3 ∧ s.capo.chosen = true then some s.capo.seenAt else none)) ∧
  (∀ s : State, s.Takes Fld.CAPO_CMD.CMD.addr → s.role = 2 →
       Does .capoRelease s (fun t => t.role = 1 ∧ t.bit Fld.CAPO_STATUS.GATE_OPEN = false ∧ t.capo.request = false ∧ t.fld Fld.CAPO_STATUS.DRIVE = 0)) ∧
  (∀ s : State, s.Takes Fld.CAPO_CMD.CMD.addr → s.role ≠ 2 → s.role ≠ 3 → Does .capoRelease s (fun t => t.regs = s.regs ∧ t.capo = s.capo)) ∧
  (∀ s : State, (s.role ≠ 4 ∨ s.writesOut = true) → Does .releaseComplete s (fun t => t = s)) ∧
  (∀ s : State, s.Takes Fld.CAPO_CMD.CMD.addr → s.bit Fld.CAPO_STATUS.LINE_FAULT = false →
       Does .capoClearFault s (fun t => t.regs = s.regs ∧ t.capo = s.capo)) ∧
  (∀ (s : State) (iface : Iface), s.Takes Fld.CAPO_CMD.CMD.addr →
       (s.role ≠ 1 ∨ s.fld Fld.CAPO_STATUS.IDLE_REASON ∉ [2, 3] ∨ s.mayClaim = false ∨ 2 ^ 32 ≤ s.fld Fld.PAIR_EPOCH + 65536) →
       Does (.capoForceClaim iface) s (fun t => t.regs = s.regs ∧ t.capo = s.capo)) ∧
  (∀ (s : State) (iface : Iface), s.Takes Fld.CAPO_CMD.CMD.addr → s.role = 1 → s.fld Fld.CAPO_STATUS.IDLE_REASON ∈ [2, 3] →
       s.mayClaim = true → s.fld Fld.PAIR_EPOCH + 65536 < 2 ^ 32 → s.tokenOk 7 (s.fld Fld.PAIR_EPOCH) (s.fld Fld.CAPO_AUTH) = false →
       Does (.capoForceClaim iface) s (fun t => t.role = 1 ∧ t.fld Fld.PAIR_EPOCH = s.fld Fld.PAIR_EPOCH ∧ t.evr.chal = none ∧
         t.evr.failures = s.evr.failures + 1 ∧ t.capo = s.capo)) ∧
  (∀ (s : State) (failed : Nat), s.Takes Fld.CAPO_CMD.CMD.addr → s.role ≠ 1 →
       Does (.selftestNow failed) s (fun t => t.regs = s.regs ∧ t.capo = s.capo)) ∧
  (∀ (s : State) (failed : Nat), s.Takes Fld.CAPO_CMD.CMD.addr → s.role = 1 → failed % 64 / 2 % 8 ≠ 0 →
       Does (.selftestNow failed) s (fun t => t.bit Fld.SELFTEST_STATUS.CRITICAL = true ∧ t.fld Fld.CAPO_STATUS.IDLE_REASON = 4)) ∧
  (∀ (s : State) (failed : Nat), s.Takes Fld.CAPO_CMD.CMD.addr → s.role = 1 → failed % 16 = 0 →
       Does (.selftestNow failed) s (fun t => t.bit Fld.SELFTEST_STATUS.CRITICAL = false ∧
         t.fld Fld.CAPO_STATUS.IDLE_REASON = (if s.fld Fld.CAPO_STATUS.IDLE_REASON = 4 then 0 else s.fld Fld.CAPO_STATUS.IDLE_REASON))) ∧
  (∀ (s : State) (failed : Nat), (s.role ≠ 1 ∨ s.thresholds.flags / 2 % 2 = 0) → Does (.selftestCycle failed) s (fun t => t = s)) ∧
  (∀ (s : State) (failed : Nat), s.role = 1 → s.thresholds.flags / 2 % 2 = 1 →
       Does (.selftestCycle failed) s (fun t => t.fld Fld.SELFTEST_STATUS.CYCLES = min (s.fld Fld.SELFTEST_STATUS.CYCLES + 1) (2 ^ Fld.SELFTEST_STATUS.CYCLES.width - 1) ∧
         t.bit Fld.SELFTEST_STATUS.CRITICAL = decide (failed / 2 % 8 ≠ 0 ∨ (failed % 2 = 1 ∧ s.fld Fld.PQE_STATUS.SLICE_ACTIVE = 0))))

/-- Health words, the mirror, the choice of roles, the waits, takeover and the write fence of a pair. Rests on R316, R318, R319, R320, R323,
R325. For every state and operands that meet the clause's conditions, the command answers a next state of which the clause says: a word is
sent; a claim heard by the active device releases it; a complete mirror is recorded with its epoch; a mirrored sector or context is held;
differing digests are counted; the sync's end turns mirroring on; silence makes the state incomplete; the choice claims, stands by or idles
(reason 5) as rank and line say; the start-up wait claims or idles (reason 3); a takeover claims behind a fence; the fence's end counts the
takeover. Readings: log 26. A word, an item or a digest that is stale, incomplete, out of sequence or of another epoch, and a wait or a
takeover that is not due, each have their clause. -/
def Obligations.PairStateFollowsThePartner : Prop :=
  (∀ s : State, s.paired = true → s.islandOff = false →
       Does .healthWordSend s (fun t => t.capo.sent = s.capo.sent ++ [s.healthWord] ∧ t.capo.seqOut = s.capo.seqOut + 1)) ∧
  (∀ (s : State) (h : Health), s.paired = true → s.islandOff = false → s.role = 3 → h.role = 2 →
       Does (.healthWordReceive h) s (fun t => t.capo.partner = some h ∧ t.capo.partnerAt = s.now ∧ t.role = 4 ∧ t.bit Fld.CAPO_STATUS.GATE_OPEN = false)) ∧
  (∀ (s : State) (h : Health), s.paired = true → s.islandOff = false → s.role = 1 → s.seen = 1 → h.role = 2 → h.flags % 2 = 1 →
       Does (.healthWordReceive h) s (fun t => t.capo.partner = some h ∧ t.bit Fld.PAIR_STATUS.STATE_COMPLETE = true ∧
         t.fld Fld.PAIR_EPOCH = h.epoch % 2 ^ Fld.PAIR_EPOCH.width)) ∧
  (∀ (s : State) (nsid lba cls seq : Nat) (sec : CSec), s.role = 1 →
       Does (.mirrorItemReceive (.sector nsid lba sec cls seq true)) s (fun t => t.capo.mirrorAt = s.now ∧
         ∃ l, tget t.wc.lines (nsKey nsid lba) = some l ∧ (l.sec = sec ∨ l.newer = some sec))) ∧
  (∀ (s : State) (u : Update), s.role = 1 → (∀ v, v ∈ s.capo.mirrorCtx → v.id ≠ u.id) →
       Does (.mirrorItemReceive (.context u)) s (fun t => t.capo.mirrorCtx = s.capo.mirrorCtx ++ [u])) ∧
  (∀ (s : State) (differ : List MirrorItem), s.role = 3 → s.bit Fld.WC_STATUS.MIRROR_ON = true →
       Does (.mirrorDigestCheck differ) s (fun t => t.fld Fld.MIRROR_MISMATCH % 2 ^ Fld.MIRROR_MISMATCH.width =
         (s.fld Fld.MIRROR_MISMATCH + differ.length) % 2 ^ Fld.MIRROR_MISMATCH.width ∧ t.wc = s.wc)) ∧
  (∀ s : State, s.role = 3 → s.bit Fld.PAIR_STATUS.SYNCING = true →
       Does .mirrorSyncComplete s (fun t => t.bit Fld.PAIR_STATUS.SYNCING = false ∧ t.bit Fld.PAIR_STATUS.MIRROR_ON = true ∧
         t.bit Fld.WC_STATUS.MIRROR_ON = true)) ∧
  (∀ s : State, s.role = 1 → s.seen = 1 →
       Does .standbyMirrorSilence s (fun t => t.bit Fld.PAIR_STATUS.STATE_COMPLETE = false ∧ t.bit Fld.PAIR_STATUS.MIRROR_ON = false)) ∧
  (∀ (s : State) (p : Partner), s.choosing = true → s.matchPartner p = true → s.seen ≠ 1 → s.outranks p = true → s.mayClaim = true →
       Does (.pairRoleChoice (some p)) s (fun t => t.role = 2 ∧ t.capo.chosen = true)) ∧
  (∀ (s : State) (p : Partner), s.choosing = true → s.matchPartner p = true → (s.seen = 1 ∨ s.outranks p = false) →
       Does (.pairRoleChoice (some p)) s (fun t => t.role = 1 ∧ t.capo.chosen = true)) ∧
  (∀ (s : State) (p : Partner), s.choosing = true → s.matchPartner p = false →
       Does (.pairRoleChoice (some p)) s (fun t => t.role = 1 ∧ t.fld Fld.CAPO_STATUS.IDLE_REASON = 5)) ∧
  (∀ s : State, s.choosing = true → s.role = 0 → s.seen = 3 → s.bit Fld.PAIR_STATUS.STATE_COMPLETE = true → s.mayClaim = true →
       Does .startupWaitExpiry s (fun t => t.role = 2)) ∧
  (∀ s : State, s.choosing = true → s.role = 0 → s.seen ≠ 1 → s.bit Fld.PAIR_STATUS.STATE_COMPLETE = false →
       Does .startupWaitExpiry s (fun t => t.role = 1 ∧ t.fld Fld.CAPO_STATUS.IDLE_REASON = 3)) ∧
  (∀ s : State, s.role = 1 → s.capo.chosen = true → s.thresholds.flags % 2 = 1 → s.bit Fld.PAIR_STATUS.STATE_COMPLETE = true → s.seen = 3 →
       s.capo.partner = none → s.mayClaim = true →
       Does .takeover s (fun t => t.role = 2 ∧ t.capo.fence = true ∧ t.capo.takeoverAt = some s.capo.seenAt)) ∧
  (∀ (s : State) (t0 : Nat), s.capo.takeoverAt = some t0 → s.role = 3 → s.bit Fld.CAPO_STATUS.GATE_OPEN = true →
       Does .writeFenceEnd s (fun t => t.capo.fence = false ∧ t.capo.takeoverAt = none ∧ t.bit Fld.HFE_STATUS.REPLAY_PENDING = false ∧
         t.fld Fld.TAKEOVER_COUNT = min (s.fld Fld.TAKEOVER_COUNT + 1) (2 ^ Fld.TAKEOVER_COUNT.width - 1))) ∧
  (∀ s : State, (s.paired = false ∨ s.islandOff = true) → Does .healthWordSend s (fun t => t = s)) ∧
  (∀ (s : State) (h : Health), (s.paired = false ∨ s.islandOff = true) → Does (.healthWordReceive h) s (fun t => t = s)) ∧
  (∀ (s : State) (h : Health), s.paired = true → s.islandOff = false → s.role = 1 → s.seen = 3 → h.role = 2 →
       Does (.healthWordReceive h) s (fun t => t.capo.partner = some h ∧ t.capo.partnerAt = s.now ∧ t.role = 5 ∧
         t.bit Fld.CAPO_STATUS.LINE_FAULT = true)) ∧
  (∀ (s : State) (h : Health), s.paired = true → s.islandOff = false → s.role = 1 → s.seen ≠ 3 → h.role = 2 →
       Does (.healthWordReceive h) s (fun t => t.capo.partner = some h ∧ t.role = 1 ∧ t.bit Fld.PAIR_STATUS.STATE_COMPLETE = decide (h.flags % 2 = 1) ∧
         t.bit Fld.PAIR_STATUS.MIRROR_ON = decide (h.flags % 2 = 1) ∧
         t.fld Fld.PAIR_EPOCH = if h.flags % 2 = 1 then h.epoch % 2 ^ Fld.PAIR_EPOCH.width else s.fld Fld.PAIR_EPOCH)) ∧
  (∀ (s : State) (h : Health), s.paired = true → s.islandOff = false → s.role = 3 → h.role = 1 →
       Does (.healthWordReceive h) s (fun t => t.capo.partner = some h ∧ t.wc.partnerLimit = some h.limitMib ∧ t.role = 3 ∧
         t.bit Fld.PAIR_STATUS.SYNCING = ((!s.bit Fld.WC_STATUS.MIRROR_ON && s.bit Fld.PAIR_STATUS.PARTNER_MATCH) || s.bit Fld.PAIR_STATUS.SYNCING))) ∧
  (∀ (s : State) (h : Health), s.paired = true → s.islandOff = false → (h.role = 2 → s.role ≠ 1 ∧ s.role ≠ 3) → (h.role = 1 → s.role ≠ 3) →
       Does (.healthWordReceive h) s (fun t => t.capo.partner = some h ∧ t.capo.partnerAt = s.now ∧ t.role = s.role ∧
         t.fld Fld.PARTNER_HEALTH = ofBytes (healthBytes h) % 2 ^ Fld.PARTNER_HEALTH.width ∧
         t.bit Fld.CAPO_STATUS.GATE_OPEN = s.bit Fld.CAPO_STATUS.GATE_OPEN)) ∧
  (∀ (s : State) (item : MirrorItem), s.role ≠ 1 → Does (.mirrorItemReceive item) s (fun t => t = s)) ∧
  (∀ (s : State) (nsid lba cls seq : Nat) (sec : CSec), s.role = 1 →
       Does (.mirrorItemReceive (.sector nsid lba sec cls seq false)) s (fun t => t.capo.mirrorAt = s.now ∧ t.wc.lines = s.wc.lines)) ∧
  (∀ (s : State) (u : Update), s.role = 1 →
       Does (.mirrorItemReceive (.context u)) s (fun t => t.capo.mirrorCtx = s.capo.mirrorCtx.filter (fun v => v.id ≠ u.id) ++ [u])) ∧
  (∀ (s : State) (b : Nat), s.role = 1 → Does (.mirrorItemReceive (.fretSet b)) s (fun t => b ∈ t.wc.fret ∧ t.wc.lines = s.wc.lines)) ∧
  (∀ (s : State) (b : Nat), s.role = 1 → Does (.mirrorItemReceive (.fretClear b)) s (fun t => t.wc.fret = s.wc.fret.filter (· ≠ b))) ∧
  (∀ (s : State) (nsid m : Nat), s.role = 1 → Does (.mirrorItemReceive (.nonceMark nsid m)) s (fun t => t.mark nsid = m)) ∧
  (∀ (s : State) (n : Nat), s.role = 1 → Does (.mirrorItemReceive (.dirtyNs n)) s (fun t => n ∈ t.wc.dirtyNs)) ∧
  (∀ (s : State) (nsid cause slba nlb : Nat), s.role = 1 → s.hfe.dwe = [] →
       Does (.mirrorItemReceive (.deferred nsid cause slba nlb)) s (fun t => t.hfe.dwe = [⟨nsid, cause, slba, nlb, s.pitch⟩])) ∧
  (∀ (s : State) (a : ArrayId) (epoch stripe row mask cause : Nat), s.role = 1 → s.rbe.lost = [] →
       Does (.mirrorItemReceive (.lost a epoch stripe row mask cause)) s (fun t => ∃ e, t.rbe.lost = [e] ∧ e.array = a ∧ e.stripe = stripe ∧
         e.cause = cause)) ∧
  (∀ (s : State) (a : ArrayId) (lba : Nat) (sec : CSec) (r : Arr), s.role = 1 → s.arr a = some r →
       Does (.mirrorItemReceive (.bowSource a lba sec)) s (fun t => t.arr a = some { r with sources := tput r.sources lba sec })) ∧
  (∀ (s : State) (a : ArrayId) (lba : Nat) (sec : CSec) (r : Arr), s.role = 1 → s.arr a = some r →
       Does (.mirrorItemReceive (.bowDisplaced a lba sec)) s (fun t => t.arr a = some { r with displaced := tput r.displaced lba sec })) ∧
  (∀ (s : State) (a : ArrayId) (c : Nat) (r : Arr), s.role = 1 → s.arr a = some r →
       Does (.mirrorItemReceive (.checkpoint a c)) s (fun t => ∃ q, t.arr a = some q ∧ q.ckpt = c ∧ q.bow = max r.bow c)) ∧
  (∀ (s : State) (id : Nat) (secs : List (Nat × Nat × Nat)), s.role = 1 → Does (.mirrorItemReceive (.updateDone id secs)) s (fun t => t.capo.mirrorCtx = s.capo.mirrorCtx.filter (fun v => v.id ≠ id))) ∧
  (∀ (s : State) (i : MirrorItem), s.role = 1 →
       Does (.mirrorDigestCheck [i]) s (fun t => t.fld Fld.MIRROR_MISMATCH = (s.fld Fld.MIRROR_MISMATCH + 1) % 2 ^ Fld.MIRROR_MISMATCH.width)) ∧
  (∀ (s : State) (n : Nat), s.role = 1 → Does (.mirrorDigestCheck [.dirtyNs n]) s (fun t => n ∈ t.wc.dirtyNs)) ∧
  (∀ (s : State) (differ : List MirrorItem), s.role ≠ 1 → (s.role ≠ 3 ∨ s.bit Fld.WC_STATUS.MIRROR_ON = false) →
       Does (.mirrorDigestCheck differ) s (fun t => t = s)) ∧
  (∀ s : State, (s.role ≠ 3 ∨ s.bit Fld.PAIR_STATUS.SYNCING = false) → Does .mirrorSyncComplete s (fun t => t = s)) ∧
  (∀ s : State, (s.role ≠ 1 ∨ s.seen ≠ 1) → Does .standbyMirrorSilence s (fun t => t = s)) ∧
  (∀ s : State, s.choosing = true → s.seen = 1 → Does (.pairRoleChoice none) s (fun t => t.role = 1 ∧ t.capo.chosen = true)) ∧
  (∀ s : State, (s.choosing = false ∨ s.seen ≠ 1) → Does (.pairRoleChoice none) s (fun t => t = s)) ∧
  (∀ (s : State) (p : Partner), s.choosing = false → Does (.pairRoleChoice (some p)) s (fun t => t.role = s.role ∧ t.capo = s.capo)) ∧
  (∀ (s : State) (p : Partner), s.choosing = true → s.matchPartner p = true → s.seen ≠ 1 → s.outranks p = true → s.mayClaim = false →
       Does (.pairRoleChoice (some p)) s (fun t => t.role = s.role ∧ t.capo.chosen = true)) ∧
  (∀ s : State, (s.choosing = false ∨ s.role ≠ 0) → Does .startupWaitExpiry s (fun t => t = s)) ∧
  (∀ s : State, s.choosing = true → s.role = 0 → s.seen = 1 → Does .startupWaitExpiry s (fun t => t.role = 1 ∧ t.capo.chosen = true)) ∧
  (∀ s : State, s.choosing = true → s.role = 0 → s.seen = 2 → s.bit Fld.PAIR_STATUS.STATE_COMPLETE = true → s.mayClaim = true →
       Does .startupWaitExpiry s (fun t => t.role = 2)) ∧
  (∀ s : State, s.choosing = true → s.role = 0 → (s.seen = 0 ∨ 4 ≤ s.seen) → s.bit Fld.PAIR_STATUS.STATE_COMPLETE = true →
       Does .startupWaitExpiry s (fun t => t.role = 1 ∧ t.fld Fld.CAPO_STATUS.IDLE_REASON = 2)) ∧
  (∀ (s : State) (h : Health), s.role = 1 → s.capo.chosen = true → s.thresholds.flags % 2 = 1 → s.bit Fld.PAIR_STATUS.STATE_COMPLETE = true →
       s.seen = 3 → s.capo.partner = some h → (s.capo.partnerAt + 30 * ms < s.now ∨ h.role = 3 ∨ s.fld Fld.PAIR_STATUS.LINK_UP = 0) → s.mayClaim = true →
       Does .takeover s (fun t => t.role = 2 ∧ t.capo.fence = true ∧ t.capo.takeoverAt = some s.capo.seenAt)) ∧
  (∀ s : State, (s.role ≠ 1 ∨ s.capo.chosen = false ∨ s.thresholds.flags % 2 = 0 ∨ s.bit Fld.PAIR_STATUS.STATE_COMPLETE = false ∨ s.seen ≠ 3 ∨
         s.mayClaim = false) → Does .takeover s (fun t => t = s)) ∧
  (∀ (s : State) (h : Health), s.capo.partner = some h → s.now ≤ s.capo.partnerAt + 30 * ms → h.role ≠ 3 → s.fld Fld.PAIR_STATUS.LINK_UP ≠ 0 →
       Does .takeover s (fun t => t = s)) ∧
  (∀ s : State, (s.capo.takeoverAt = none ∨ s.role ≠ 3 ∨ s.bit Fld.CAPO_STATUS.GATE_OPEN = false) → Does .writeFenceEnd s (fun t => t = s))

/-- Hello, membership, grand master election, synchronization, pitch-time commands and PPS. Rests on R332, R333, R336, R337, R338, R334, R348,
R480. For every state and operands that meet the clause's conditions, the command answers a next state of which the clause says: a hello of
a member brings its link up, of another federation refuses it; a refused device retries; a silent member leaves; the grand master announces;
the election takes the best candidate; an exchange slews small offsets and steps large ones; SET, SET_AT_PPS, SET_UTC and RESYNC do as R348
says or answer error 1 or 2; a PPS edge sets an armed time or restores class 1; its loss and holdover lower the class; the output counts
seconds. Readings: log 27. Messages of a device that is not federated, of unknown nodes or of stale counts, and commands refused by the lock
state, each have their clause. -/
def Obligations.FederationAndPitchTimeFollowTheirMessages : Prop :=
  (∀ (s : State) (link : LinkId) (h : Hello), s.bit Fld.FED_STATUS.ENABLED = true → s.bit (Fld.FED_LINK.FED_PORT.at link.val) = true →
       h.uuid = s.ownIdentity.fedUuid → h.node ≠ s.nodeId → tget s.fed.members h.node = some h.device →
       Does (.helloReceive link h) s (fun t => t.bit (Fld.FED_LINK.UP.at link.val) = true ∧ t.fld (Fld.FED_LINK.STATE.at link.val) = 2 ∧
         tget t.fed.members h.node = some h.device ∧ tget t.fed.heard h.node = some s.now)) ∧
  (∀ (s : State) (link : LinkId) (h : Hello), s.bit Fld.FED_STATUS.ENABLED = true → s.bit (Fld.FED_LINK.FED_PORT.at link.val) = true →
       h.uuid ≠ s.ownIdentity.fedUuid →
       Does (.helloReceive link h) s (fun t => t.fld (Fld.FED_LINK.STATE.at link.val) = 3 ∧ t.fed.members = s.fed.members)) ∧
  (∀ s : State, s.fld Fld.FED_STATUS.REFUSE_REASON ≠ 0 →
       Does .helloRetry s (fun t => t.fed.out = s.fed.out ++ ((List.finRange 4).filter (fun l => s.bit (Fld.FED_LINK.UP.at l.val))).map FedMsg.hello)) ∧
  (∀ (s : State) (node : Nat), node ≠ s.nodeId →
       Does (.memberLeaveTimeout node) s (fun t => tget t.fed.members node = none ∧ tget t.fed.heard node = none ∧ t.regs = s.regs)) ∧
  (∀ s : State, s.bit Fld.PIT_STATUS.IS_GM = true →
       Does .gmAnnounce s (fun t => t.fed.out = s.fed.out ++ [.announce ⟨s.nodeId, s.fld Fld.PIT_STATUS.CLASS, s.ownIdentity.gmPriority, 0⟩])) ∧
  (∀ (s : State) (cands : List Announce) (b : Announce), s.joined = true → bestCandidate (s.ownCandidate ++ cands) = some b →
       Does (.gmElection cands) s (fun t => t.fld Fld.PIT_GM.NODE = b.node % 512 ∧ t.fld Fld.PIT_GM.PRIORITY = b.priority % 256 ∧
         (t.bit Fld.PIT_STATUS.IS_GM = true ↔ b.node = s.nodeId))) ∧
  (∀ (s : State) (offset : Int) (delay : Nat) (link : LinkId), s.joined = true → s.bit Fld.PIT_STATUS.IS_GM = false → s.fld Fld.PIT_GM.CLASS ≠ 5 →
       s.bit Fld.PIT_STATUS.VALID = true → offset.natAbs ≤ s.thresholds.stepThresholdNs →
       Does (.syncExchange offset delay link) s (fun t => t.bit Fld.PIT_STATUS.SYNCED = true ∧ t.bit Fld.PIT_STATUS.HOLDOVER = false ∧
         t.fld (Fld.FED_LINK.DELAY_NS.at link.val) = min delay 65535 ∧ t.fed.slew = offset ∧ t.fld Fld.PIT_NOW = s.fld Fld.PIT_NOW)) ∧
  (∀ (s : State) (offset delay : Nat) (link : LinkId), s.joined = true → s.bit Fld.PIT_STATUS.IS_GM = false → s.fld Fld.PIT_GM.CLASS ≠ 5 →
       s.thresholds.stepThresholdNs < offset →
       Does (.syncExchange offset delay link) s (fun t => t.fld Fld.PIT_NOW = (s.fld Fld.PIT_NOW + offset) % 2 ^ 64 ∧ t.fed.slew = 0)) ∧
  (∀ s : State, s.Takes Fld.PIT_CMD.CMD.addr → s.mayTime = true →
       Does .pitSet s (fun t => t.fld Fld.PIT_NOW = s.fld Fld.PIT_SET % 2 ^ 64 ∧ t.bit Fld.PIT_STATUS.VALID = true ∧ t.fld Fld.PIT_STATUS.CLASS = 3 ∧
         t.fld Fld.PIT_CMD_STATUS.ERROR = 0 ∧ t.bit Fld.PIT_CMD_STATUS.DONE = true)) ∧
  (∀ s : State, s.Takes Fld.PIT_CMD.CMD.addr → s.mayTime = false →
       Does .pitSet s (fun t => t.fld Fld.PIT_CMD_STATUS.ERROR = 1 ∧ t.fld Fld.PIT_NOW = s.fld Fld.PIT_NOW)) ∧
  (∀ s : State, s.Takes Fld.PIT_CMD.CMD.addr → s.mayTime = true → s.ppsIn = true → s.bit Fld.PIT_STATUS.PPS_PRESENT = true →
       Does .pitSetAtPps s (fun t => t.fed.armed = true ∧ t.bit Fld.PIT_CMD_STATUS.BUSY = true ∧ t.fld Fld.PIT_NOW = s.fld Fld.PIT_NOW)) ∧
  (∀ s : State, s.Takes Fld.PIT_CMD.CMD.addr → s.mayTime = true → s.bit Fld.PIT_STATUS.PPS_PRESENT = false →
       Does .pitSetAtPps s (fun t => t.fld Fld.PIT_CMD_STATUS.ERROR = 2 ∧ t.fed = s.fed)) ∧
  (∀ s : State, s.Takes Fld.PIT_CMD.CMD.addr → s.mayTime = true →
       Does .pitSetUtc s (fun t => t.fld Fld.PIT_UTC.OFFSET = s.fld Fld.PIT_UTC.NEW % 65536 ∧ t.fld Fld.PIT_CMD_STATUS.ERROR = 0)) ∧
  (∀ s : State, s.Takes Fld.PIT_CMD.CMD.addr → s.joined = true → s.bit Fld.PIT_STATUS.IS_GM = false →
       Does .pitResync s (fun t => t.fed.out = s.fed.out ++ [.exchange] ∧ t.bit Fld.PIT_CMD_STATUS.DONE = true)) ∧
  (∀ s : State, s.ppsIn = true → s.fed.armed = true →
       Does .ppsInEdge s (fun t => t.fld Fld.PIT_NOW = s.fld Fld.PIT_SET % 2 ^ 64 ∧ t.fld Fld.PIT_STATUS.CLASS = 1 ∧ t.fed.armed = false ∧
         t.bit Fld.PIT_CMD_STATUS.BUSY = false ∧ t.fld Fld.PIT_CMD_STATUS.ERROR = 0 ∧ t.bit Fld.PIT_STATUS.PPS_PRESENT = true)) ∧
  (∀ s : State, s.ppsIn = true → s.fed.armed = false → s.fld Fld.PIT_STATUS.CLASS = 2 →
       Does .ppsInEdge s (fun t => t.fld Fld.PIT_STATUS.CLASS = 1 ∧ t.fld Fld.PIT_NOW = s.fld Fld.PIT_NOW)) ∧
  (∀ s : State, s.bit Fld.PIT_STATUS.PPS_PRESENT = true → s.fld Fld.PIT_STATUS.CLASS = 1 →
       Does .ppsInLoss s (fun t => t.bit Fld.PIT_STATUS.PPS_PRESENT = false ∧ t.fld Fld.PIT_STATUS.CLASS = 2 ∧ t.fed.ppsLostAt = some s.now)) ∧
  (∀ s : State, s.bit Fld.PIT_STATUS.PPS_PRESENT = true → s.fed.armed = true →
       Does .ppsInLoss s (fun t => t.fed.armed = false ∧ t.fld Fld.PIT_CMD_STATUS.ERROR = 2)) ∧
  (∀ s : State, s.fld Fld.PIT_STATUS.CLASS = 2 → Does .ppsHoldoverExpiry s (fun t => t.fld Fld.PIT_STATUS.CLASS = 3)) ∧
  (∀ s : State, s.ownIdentity.flags / 2 % 2 = 1 → s.bit Fld.PIT_STATUS.VALID = true →
       Does .ppsOutSecond s (fun t => t.fed.ppsSeconds = s.fed.ppsSeconds + 1)) ∧
  (∀ (s : State) (link : LinkId) (h : Hello), (s.bit Fld.FED_STATUS.ENABLED = false ∨ s.bit (Fld.FED_LINK.FED_PORT.at link.val) = false) →
       Does (.helloReceive link h) s (fun t => t = s)) ∧
  (∀ (s : State) (link : LinkId) (h : Hello), s.bit Fld.FED_STATUS.ENABLED = true → s.bit (Fld.FED_LINK.FED_PORT.at link.val) = true → h.uuid = s.ownIdentity.fedUuid → ¬ (h.node = s.nodeId ∧ h.device ≠ s.fld Fld.SYS_DEVICE_ID) →
       tget s.fed.members h.node = none → s.fed.members.length < 512 →
       Does (.helloReceive link h) s (fun t => t.bit (Fld.FED_LINK.UP.at link.val) = true ∧ t.fld (Fld.FED_LINK.STATE.at link.val) = 2 ∧
         tget t.fed.members h.node = some h.device ∧ tget t.fed.heard h.node = some s.now ∧ t.fld Fld.FED_STATUS.REFUSE_REASON = 0)) ∧
  (∀ (s : State) (link : LinkId) (h : Hello) (d : Nat), s.bit Fld.FED_STATUS.ENABLED = true → s.bit (Fld.FED_LINK.FED_PORT.at link.val) = true → h.uuid = s.ownIdentity.fedUuid → ¬ (h.node = s.nodeId ∧ h.device ≠ s.fld Fld.SYS_DEVICE_ID) →
       tget s.fed.members h.node = some d → d ≠ h.device → s.bit (Fld.FED_LINK.UP.at link.val) = true →
       Does (.helloReceive link h) s (fun t => t.fld (Fld.FED_LINK.STATE.at link.val) = 1 ∧ t.fed.members = s.fed.members ∧
         t.fed.out = s.fed.out ++ [.refuse 2] ∧ t.fld Fld.FED_REFUSED = (s.fld Fld.FED_REFUSED + 1) % 2 ^ Fld.FED_REFUSED.width)) ∧
  (∀ (s : State) (link : LinkId) (h : Hello), s.bit Fld.FED_STATUS.ENABLED = true → s.bit (Fld.FED_LINK.FED_PORT.at link.val) = true → h.uuid = s.ownIdentity.fedUuid → ¬ (h.node = s.nodeId ∧ h.device ≠ s.fld Fld.SYS_DEVICE_ID) →
       tget s.fed.members h.node = none → 512 ≤ s.fed.members.length → s.bit (Fld.FED_LINK.UP.at link.val) = true →
       Does (.helloReceive link h) s (fun t => t.fld (Fld.FED_LINK.STATE.at link.val) = 1 ∧ t.fed.members = s.fed.members ∧
         t.fed.out = s.fed.out ++ [.refuse 1] ∧ t.fld Fld.FED_REFUSED = (s.fld Fld.FED_REFUSED + 1) % 2 ^ Fld.FED_REFUSED.width)) ∧
  (∀ (s : State) (link : LinkId) (h : Hello), s.bit Fld.FED_STATUS.ENABLED = true → s.bit (Fld.FED_LINK.FED_PORT.at link.val) = true → h.uuid = s.ownIdentity.fedUuid →
       h.node = s.nodeId → s.fld Fld.SYS_DEVICE_ID < h.device → s.bit (Fld.FED_LINK.UP.at link.val) = true →
       Does (.helloReceive link h) s (fun t => t.fed.members = s.fed.members ∧ t.fed.out = s.fed.out ++ [.refuse 2] ∧
         t.fld Fld.FED_REFUSED = (s.fld Fld.FED_REFUSED + 1) % 2 ^ Fld.FED_REFUSED.width)) ∧
  (∀ (s : State) (link : LinkId) (h : Hello), s.bit Fld.FED_STATUS.ENABLED = true → s.bit (Fld.FED_LINK.FED_PORT.at link.val) = true → h.uuid = s.ownIdentity.fedUuid →
       h.node = s.nodeId → h.device < s.fld Fld.SYS_DEVICE_ID →
       Does (.helloReceive link h) s (fun t => t.fed.members = [] ∧ t.fld Fld.FED_STATUS.REFUSE_REASON = 2 ∧ t.bit Fld.PIT_STATUS.IS_GM = false ∧
         t.fld (Fld.FED_LINK.STATE.at link.val) = 1)) ∧
  (∀ (s : State) (link : LinkId) (h : Hello), s.bit Fld.FED_STATUS.ENABLED = true → s.bit (Fld.FED_LINK.FED_PORT.at link.val) = true → h.uuid ≠ s.ownIdentity.fedUuid →
       s.bit (Fld.FED_LINK.UP.at link.val) = false →
       (∀ i : Fin 4, s.bit (Fld.FED_LINK.FED_PORT.at i.val) = false ∨ s.fld (Fld.FED_LINK.STATE.at i.val) = 3 ∨ i.val = link.val) →
       Does (.helloReceive link h) s (fun t => t.fld (Fld.FED_LINK.STATE.at link.val) = 3 ∧ t.bit (Fld.FED_LINK.UP.at link.val) = true ∧
         t.fld Fld.FED_STATUS.REFUSE_REASON = 3 ∧ t.fed.out = s.fed.out ++ [.hello link])) ∧
  (∀ s : State, s.fld Fld.FED_STATUS.REFUSE_REASON = 0 → Does .helloRetry s (fun t => t = s)) ∧
  (∀ (s : State) (node : Nat), node = s.nodeId → Does (.memberLeaveTimeout node) s (fun t => t = s)) ∧
  (∀ s : State, s.bit Fld.PIT_STATUS.IS_GM = false → Does .gmAnnounce s (fun t => t = s)) ∧
  (∀ (s : State) (cands : List Announce), s.joined = true → bestCandidate (s.ownCandidate ++ cands) = none →
       Does (.gmElection cands) s (fun t => t.fld Fld.PIT_GM.CLASS = 5 ∧ t.bit Fld.PIT_STATUS.IS_GM = false ∧ t.bit Fld.PIT_STATUS.SYNCED = false ∧
         t.bit Fld.PIT_STATUS.HOLDOVER = (s.bit Fld.PIT_STATUS.SYNCED || s.bit Fld.PIT_STATUS.HOLDOVER))) ∧
  (∀ (s : State) (cands : List Announce), s.joined = false → Does (.gmElection cands) s (fun t => t = s)) ∧
  (∀ (s : State) (offset : Int) (delay : Nat) (link : LinkId), s.joined = true → s.bit Fld.PIT_STATUS.IS_GM = false → s.fld Fld.PIT_GM.CLASS ≠ 5 →
       (s.bit Fld.PIT_STATUS.VALID = false ∨ s.thresholds.stepThresholdNs < offset.natAbs) →
       Does (.syncExchange offset delay link) s (fun t => t.fld Fld.PIT_NOW = ((s.fld Fld.PIT_NOW : Int) + offset).toNat % 2 ^ 64 ∧ t.fed.slew = 0 ∧
         t.bit Fld.PIT_STATUS.SYNCED = true ∧ t.bit Fld.PIT_STATUS.VALID = true ∧ (s.bit Fld.PIT_STATUS.VALID = false → t.fld Fld.PIT_STATUS.CLASS = 4))) ∧
  (∀ (s : State) (offset : Int) (delay : Nat) (link : LinkId), (s.joined = false ∨ s.bit Fld.PIT_STATUS.IS_GM = true ∨ s.fld Fld.PIT_GM.CLASS = 5) →
       Does (.syncExchange offset delay link) s (fun t => t = s)) ∧
  (∀ s : State, s.Takes Fld.PIT_CMD.CMD.addr → s.mayTime = false → Does .pitSetAtPps s (fun t => t.fld Fld.PIT_CMD_STATUS.ERROR = 1 ∧ t.fed = s.fed)) ∧
  (∀ s : State, s.Takes Fld.PIT_CMD.CMD.addr → s.mayTime = true → s.ppsIn = false →
       Does .pitSetAtPps s (fun t => t.fld Fld.PIT_CMD_STATUS.ERROR = 2 ∧ t.fed = s.fed)) ∧
  (∀ s : State, s.Takes Fld.PIT_CMD.CMD.addr → s.mayTime = false →
       Does .pitSetUtc s (fun t => t.fld Fld.PIT_UTC.OFFSET = s.fld Fld.PIT_UTC.OFFSET ∧ t.fld Fld.PIT_CMD_STATUS.ERROR = 1)) ∧
  (∀ s : State, s.Takes Fld.PIT_CMD.CMD.addr → (s.joined = false ∨ s.bit Fld.PIT_STATUS.IS_GM = true) →
       Does .pitResync s (fun t => t.fed = s.fed ∧ t.bit Fld.PIT_CMD_STATUS.DONE = true ∧ t.fld Fld.PIT_CMD_STATUS.ERROR = 0)) ∧
  (∀ s : State, s.ppsIn = false → Does .ppsInEdge s (fun t => t = s)) ∧
  (∀ s : State, s.ppsIn = true → s.fed.armed = false → s.fld Fld.PIT_STATUS.CLASS ≠ 2 →
       Does .ppsInEdge s (fun t => t.fld Fld.PIT_STATUS.CLASS = s.fld Fld.PIT_STATUS.CLASS ∧ t.fld Fld.PIT_NOW = s.fld Fld.PIT_NOW ∧
         t.bit Fld.PIT_STATUS.PPS_PRESENT = true ∧ t.fed.ppsAt = s.now ∧ t.fed.ppsLostAt = none)) ∧
  (∀ s : State, s.bit Fld.PIT_STATUS.PPS_PRESENT = false → Does .ppsInLoss s (fun t => t = s)) ∧
  (∀ s : State, s.bit Fld.PIT_STATUS.PPS_PRESENT = true → s.fed.armed = false → s.fld Fld.PIT_STATUS.CLASS ≠ 1 →
       Does .ppsInLoss s (fun t => t.bit Fld.PIT_STATUS.PPS_PRESENT = false ∧ t.fld Fld.PIT_STATUS.CLASS = s.fld Fld.PIT_STATUS.CLASS ∧
         t.fed.ppsLostAt = some s.now)) ∧
  (∀ s : State, s.fld Fld.PIT_STATUS.CLASS ≠ 2 → Does .ppsHoldoverExpiry s (fun t => t = s)) ∧
  (∀ s : State, (s.ownIdentity.flags / 2 % 2 = 0 ∨ s.bit Fld.PIT_STATUS.VALID = false) → Does .ppsOutSecond s (fun t => t = s))

/-- Plucks are written, distributed, received, fired on time, dropped when late, and cancelled. Rests on R342, R348, R341, R346, R345, R344. For
every state and operands that meet the clause's conditions, the command answers a next state of which the clause says: WRITE installs an
armed entry or answers error 2; WRITE_FED also sends it and counts answers, or answers error 3; CANCEL and CANCEL_FED cancel; a received
pluck is installed and acknowledged, or answered full; answers and the timeout complete the distribution; an entry due within 8 ns runs, a
late one that may not run late is dropped with reason 1; an early wake begins the exit; an ended write barrier completes its entry.
Readings: log 27. Each action of a pluck (R344), the entries that may run late, the answers of unknown nodes and the cases that are not due
have their clauses. -/
def Obligations.PlucksAreInstalledRunAndCancelled : Prop :=
  (∀ s : State, s.Takes Fld.PLUCK_CMD.CMD.addr → s.pluckError = 0 →
       Does .pluckWrite s (fun t => t.fld Fld.PLUCK_STATUS.ERROR = 0 ∧ ∃ e, t.pluck (s.fld Fld.PLUCK_SEL.INDEX) = some e ∧ e.state = .armed ∧
         e.msg.req = pluckOf (s.fld Fld.PLUCK_DATA) ∧ e.msg.origin = s.nodeId)) ∧
  (∀ s : State, s.Takes Fld.PLUCK_CMD.CMD.addr → s.pluckError = 2 →
       Does .pluckWrite s (fun t => t.fld Fld.PLUCK_STATUS.ERROR = 2 ∧ t.fed = s.fed)) ∧
  (∀ s : State, s.Takes Fld.PLUCK_CMD.CMD.addr → s.joined = true → s.pluckError = 0 → s.pastTe (pluckOf (s.fld Fld.PLUCK_DATA)) = false →
       Does .pluckWriteFed s (fun t => t.fld Fld.PLUCK_DIST.ACKED = 1 ∧ t.fld Fld.PLUCK_DIST.LATE = 0 ∧ t.fed.distLeft = s.fed.members.length - 1 ∧
         t.fed.out = s.fed.out ++ [.pluck s.writePluck.1])) ∧
  (∀ s : State, s.Takes Fld.PLUCK_CMD.CMD.addr → s.joined = false →
       Does .pluckWriteFed s (fun t => t.fld Fld.PLUCK_STATUS.ERROR = 3 ∧ t.fed = s.fed)) ∧
  (∀ (s : State) (e : PluckEnt), s.Takes Fld.PLUCK_CMD.CMD.addr → s.pluck (s.fld Fld.PLUCK_SEL.INDEX) = some e → e.standing = false → e.state = .armed →
       Does .pluckCancel s (fun t => t.pluck (s.fld Fld.PLUCK_SEL.INDEX) = some { e with state := .cancelled } ∧ t.fld Fld.PLUCK_STATUS.ERROR = 0)) ∧
  (∀ (s : State) (e : PluckEnt), s.Takes Fld.PLUCK_CMD.CMD.addr → s.joined = true → s.pluck (s.fld Fld.PLUCK_SEL.INDEX) = some e → e.standing = false →
       Does .pluckCancelFed s (fun t => t.fed.out = s.fed.out ++ [.cancel e.msg.origin e.msg.id] ∧ t.fld Fld.PLUCK_STATUS.ERROR = 0 ∧
         ∀ p, p ∈ t.fed.plucks → p.2.msg.origin = e.msg.origin → p.2.msg.id = e.msg.id → p.2.standing = false → p.2.state ≠ .armed)) ∧
  (∀ (s : State) (m : PluckMsg) (i : Nat), s.joined = true → (List.range 256).find? (fun i => s.pluckFree i) = some i → s.pastTe m.req = false →
       Does (.pluckReceive m) s (fun t => t.pluck i = some ⟨m, .armed, 0, false, 0⟩ ∧ t.fed.out = s.fed.out ++ [.answer .ack])) ∧
  (∀ (s : State) (m : PluckMsg), s.joined = true → (List.range 256).find? (fun i => s.pluckFree i) = none →
       Does (.pluckReceive m) s (fun t => t.fed.out = s.fed.out ++ [.answer .full] ∧ t.fed.plucks = s.fed.plucks)) ∧
  (∀ s : State, 1 < s.fed.distLeft → Does (.pluckAnswerReceive .ack) s (fun t => t.fed.distLeft = s.fed.distLeft - 1 ∧
       t.fld Fld.PLUCK_DIST.ACKED = (s.fld Fld.PLUCK_DIST.ACKED + 1) % 2 ^ Fld.PLUCK_DIST.ACKED.width)) ∧
  (∀ s : State, s.fed.distLeft = 1 → Does (.pluckAnswerReceive .full) s (fun t => t.fed.distLeft = 0 ∧ t.bit Fld.PLUCK_DIST.COMPLETE = true)) ∧
  (∀ s : State, s.fed.distLeft ≠ 0 → Does .pluckDistTimeout s (fun t => t.fed.distLeft = 0 ∧ t.bit Fld.PLUCK_DIST.COMPLETE = true)) ∧
  (∀ (s : State) (origin id : Nat), s.joined = true →
       Does (.pluckCancelReceive origin id) s (fun t => t.regs = s.regs ∧
         ∀ p, p ∈ t.fed.plucks → p.2.msg.origin = origin → p.2.msg.id = id → p.2.standing = false → p.2.state ≠ .armed)) ∧
  (∀ (s : State) (index : Fin 256) (e : PluckEnt) (now : Nat), s.pluck index.val = some e → s.pitch = some now → e.state = .armed →
       s.pluckTe e.msg.req ≤ now → now < s.pluckTe e.msg.req + 8 →
       s.fed.plucks.any (fun p => decide (p.1 < index.val) && p.2.state == .armed && s.pluckTe p.2.msg.req == s.pluckTe e.msg.req) = false →
       s.pluckHeld e.msg.req = false → s.acFail = false → s.safeMode = false → s.tamperHold = false →
       (s.pluckAct index.val e.msg.req (s.pluckTe e.msg.req) now).1 = .ran → e.msg.req.periodS = 0 →
       Does (.pluckFire index) s (fun t => t.pluck index.val = some { e with state := .done, reason := 0 })) ∧
  (∀ (s : State) (index : Fin 256) (e : PluckEnt) (now : Nat), s.pluck index.val = some e → s.pitch = some now → e.state = .armed →
       s.pluckTe e.msg.req + 8 ≤ now → s.runsLate e.msg.req (now - s.pluckTe e.msg.req) = false →
       s.fed.plucks.any (fun p => decide (p.1 < index.val) && p.2.state == .armed && s.pluckTe p.2.msg.req == s.pluckTe e.msg.req) = false →
       s.pluckHeld e.msg.req = false → e.msg.req.periodS = 0 →
       Does (.pluckFire index) s (fun t => (∃ q, t.pluck index.val = some q ∧ q.state = .dropped ∧ q.reason = 1) ∧
         t.fld Fld.PLUCK_DROP_COUNT = (s.fld Fld.PLUCK_DROP_COUNT + 1) % 2 ^ Fld.PLUCK_DROP_COUNT.width)) ∧
  (∀ (s : State) (index : Fin 256) (e : PluckEnt), s.pluck index.val = some e → e.state = .armed → s.pluckWakes e.msg.req = true →
       s.pwr.fast = .retained → s.fld Fld.PWR_STATE.STATE = 2 → s.acFail = false →
       Does (.pluckEarlyWake index) s (fun t => t.fld Fld.PWR_STATE.STATE = 5 ∧ t.fld Fld.PWR_STATE.TARGET = 2 ∧ t.fed = s.fed)) ∧
  (∀ (s : State) (index : Fin 256) (b : Barrier) (r : List Barrier) (e : PluckEnt), s.fed.barriers = b :: r → s.pluck index.val = some e →
       b.index = index.val → s.barrierWaits b = false → e.lateness = 0 → e.msg.req.periodS = 0 →
       Does (.writeBarrierDone index) s (fun t => t.fed.barriers = r ∧ t.pluck index.val = some { e with state := .done, reason := 0 })) ∧
  (∀ (s : State) (n : Nat), s.Takes Fld.PLUCK_CMD.CMD.addr → s.pluckError = n → n ≠ 0 →
       Does .pluckWrite s (fun t => t.fld Fld.PLUCK_STATUS.ERROR = n ∧ t.bit Fld.PLUCK_STATUS.DONE = true ∧ t.fed = s.fed)) ∧
  (∀ (s : State) (n : Nat), s.Takes Fld.PLUCK_CMD.CMD.addr → s.joined = true → s.pluckError = n → n ≠ 0 →
       Does .pluckWriteFed s (fun t => t.fld Fld.PLUCK_STATUS.ERROR = n ∧ t.fed = s.fed)) ∧
  (∀ s : State, s.Takes Fld.PLUCK_CMD.CMD.addr → s.joined = true → s.pluckError = 0 → s.pastTe (pluckOf (s.fld Fld.PLUCK_DATA)) = true →
       Does .pluckWriteFed s (fun t => t.fld Fld.PLUCK_DIST.ACKED = 0 ∧ t.fld Fld.PLUCK_DIST.LATE = 1 ∧ t.fed.distLeft = s.fed.members.length - 1 ∧
         t.fed.out = s.fed.out ++ [.pluck s.writePluck.1] ∧ t.bit Fld.PLUCK_DIST.COMPLETE = decide (s.fed.members.length - 1 = 0))) ∧
  (∀ (s : State) (n : Nat), s.Takes Fld.PLUCK_CMD.CMD.addr → s.cancelError = n → n ≠ 0 →
       Does .pluckCancel s (fun t => t.fld Fld.PLUCK_STATUS.ERROR = n ∧ t.fed = s.fed)) ∧
  (∀ s : State, s.Takes Fld.PLUCK_CMD.CMD.addr → s.joined = false → Does .pluckCancelFed s (fun t => t.fld Fld.PLUCK_STATUS.ERROR = 3 ∧ t.fed = s.fed)) ∧
  (∀ s : State, s.Takes Fld.PLUCK_CMD.CMD.addr → s.joined = true → s.pluck (s.fld Fld.PLUCK_SEL.INDEX) = none →
       Does .pluckCancelFed s (fun t => t.fld Fld.PLUCK_STATUS.ERROR = 1 ∧ t.fed = s.fed)) ∧
  (∀ (s : State) (e : PluckEnt), s.Takes Fld.PLUCK_CMD.CMD.addr → s.joined = true → s.pluck (s.fld Fld.PLUCK_SEL.INDEX) = some e → e.standing = true →
       Does .pluckCancelFed s (fun t => t.fld Fld.PLUCK_STATUS.ERROR = 4 ∧ t.fed = s.fed)) ∧
  (∀ (s : State) (m : PluckMsg), s.joined = false → Does (.pluckReceive m) s (fun t => t = s)) ∧
  (∀ (s : State) (m : PluckMsg) (i now : Nat), s.joined = true → (List.range 256).find? (fun i => s.pluckFree i) = some i → s.pitch = some now →
       s.pluckTe m.req + 8 ≤ now → s.runsLate m.req (now - s.pluckTe m.req) = false → s.pluckHeld m.req = false → m.req.periodS = 0 →
       Does (.pluckReceive m) s (fun t => t.fed.out = s.fed.out ++ [.answer .late] ∧
         (∃ q, t.pluck i = some q ∧ q.state = .dropped ∧ q.reason = 1 ∧ q.msg = m))) ∧
  (∀ (s : State) (ans : PluckAnswer), s.fed.distLeft = 0 → Does (.pluckAnswerReceive ans) s (fun t => t = s)) ∧
  (∀ s : State, s.fed.distLeft = 1 → Does (.pluckAnswerReceive .ack) s (fun t => t.fed.distLeft = 0 ∧ t.bit Fld.PLUCK_DIST.COMPLETE = true ∧
       t.fld Fld.PLUCK_DIST.ACKED = (s.fld Fld.PLUCK_DIST.ACKED + 1) % 2 ^ Fld.PLUCK_DIST.ACKED.width)) ∧
  (∀ s : State, s.fed.distLeft ≠ 0 → Does (.pluckAnswerReceive .full) s (fun t => t.fed.distLeft = s.fed.distLeft - 1 ∧
       t.fld Fld.PLUCK_DIST.FULL = (s.fld Fld.PLUCK_DIST.FULL + 1) % 2 ^ Fld.PLUCK_DIST.FULL.width)) ∧
  (∀ s : State, s.fed.distLeft ≠ 0 → Does (.pluckAnswerReceive .late) s (fun t => t.fed.distLeft = s.fed.distLeft - 1 ∧
       t.fld Fld.PLUCK_DIST.LATE = (s.fld Fld.PLUCK_DIST.LATE + 1) % 2 ^ Fld.PLUCK_DIST.LATE.width)) ∧
  (∀ s : State, s.fed.distLeft = 0 → Does .pluckDistTimeout s (fun t => t = s)) ∧
  (∀ (s : State) (origin id : Nat), s.joined = false → Does (.pluckCancelReceive origin id) s (fun t => t = s)) ∧
  (∀ (s : State) (index : Fin 256), (s.pluck index.val = none ∨ s.pitch = none) → Does (.pluckFire index) s (fun t => t = s)) ∧
  (∀ (s : State) (index : Fin 256) (e : PluckEnt) (now : Nat), s.pluck index.val = some e → s.pitch = some now →
       (e.state ≠ .armed ∨ now < s.pluckTe e.msg.req ∨
         s.fed.plucks.any (fun p => decide (p.1 < index.val) && p.2.state == .armed && s.pluckTe p.2.msg.req == s.pluckTe e.msg.req) = true) →
       Does (.pluckFire index) s (fun t => t = s)) ∧
  (∀ (s : State) (index : Fin 256) (e : PluckEnt) (now : Nat), s.pluck index.val = some e → s.pitch = some now → e.state = .armed →
       s.pluckTe e.msg.req ≤ now →
       s.fed.plucks.any (fun p => decide (p.1 < index.val) && p.2.state == .armed && s.pluckTe p.2.msg.req == s.pluckTe e.msg.req) = false →
       s.pluckHeld e.msg.req = true → s.pwr.fast = .retained → s.fld Fld.PWR_STATE.STATE = 2 → s.acFail = false →
       Does (.pluckFire index) s (fun t => t.fld Fld.PWR_STATE.STATE = 5 ∧ t.fld Fld.PWR_STATE.TARGET = 2 ∧ t.fed = s.fed)) ∧
  (∀ (s : State) (index : Fin 256) (e : PluckEnt) (now : Nat), s.pluck index.val = some e → s.pitch = some now → e.state = .armed →
       s.fed.plucks.any (fun p => decide (p.1 < index.val) && p.2.state == .armed && s.pluckTe p.2.msg.req == s.pluckTe e.msg.req) = false →
       s.pluckHeld e.msg.req = false → s.pluckTe e.msg.req + 8 ≤ now →
       s.runsLate e.msg.req (now - s.pluckTe e.msg.req) = false → e.msg.req.periodS ≠ 0 →
       Does (.pluckFire index) s (fun t => (∃ q, t.pluck index.val = some q ∧ q.state = .armed ∧ q.reason = 1 ∧ q.lateness = now - s.pluckTe e.msg.req ∧
         q.msg.req = s.nextOccurrence e.msg.req) ∧ t.fld Fld.PLUCK_DROP_COUNT = (s.fld Fld.PLUCK_DROP_COUNT + 1) % 2 ^ Fld.PLUCK_DROP_COUNT.width)) ∧
  (∀ (s : State) (index : Fin 256) (e : PluckEnt) (now : Nat), s.pluck index.val = some e → s.pitch = some now → e.state = .armed →
       s.fed.plucks.any (fun p => decide (p.1 < index.val) && p.2.state == .armed && s.pluckTe p.2.msg.req == s.pluckTe e.msg.req) = false →
       s.pluckHeld e.msg.req = false → s.pluckTe e.msg.req ≤ now → now < s.pluckTe e.msg.req + 8 →
       pluckFast e.msg.req.action = true → s.acFail = true → e.msg.req.periodS = 0 →
       Does (.pluckFire index) s (fun t => t.pluck index.val = some { e with state := .dropped, reason := 2 } ∧ t.fld Fld.PLUCK_DROP_COUNT = (s.fld Fld.PLUCK_DROP_COUNT + 1) % 2 ^ Fld.PLUCK_DROP_COUNT.width)) ∧
  (∀ (s : State) (index : Fin 256) (e : PluckEnt) (now : Nat), s.pluck index.val = some e → s.pitch = some now → e.state = .armed →
       s.fed.plucks.any (fun p => decide (p.1 < index.val) && p.2.state == .armed && s.pluckTe p.2.msg.req == s.pluckTe e.msg.req) = false →
       s.pluckHeld e.msg.req = false → s.pluckTe e.msg.req ≤ now → now < s.pluckTe e.msg.req + 8 →
       pluckFast e.msg.req.action = true → s.acFail = false → (s.safeMode = true ∨ s.tamperHold = true) → e.msg.req.periodS = 0 →
       Does (.pluckFire index) s (fun t => t.pluck index.val = some { e with state := .dropped, reason := 4 } ∧ t.fld Fld.PLUCK_DROP_COUNT = (s.fld Fld.PLUCK_DROP_COUNT + 1) % 2 ^ Fld.PLUCK_DROP_COUNT.width)) ∧
  (∀ (s : State) (index : Fin 256) (e : PluckEnt) (now : Nat), s.pluck index.val = some e → s.pitch = some now → e.state = .armed →
       s.fed.plucks.any (fun p => decide (p.1 < index.val) && p.2.state == .armed && s.pluckTe p.2.msg.req == s.pluckTe e.msg.req) = false →
       s.pluckHeld e.msg.req = false → s.pluckTe e.msg.req ≤ now → now < s.pluckTe e.msg.req + 8 →
       (pluckFast e.msg.req.action = false ∨ (s.acFail = false ∧ s.safeMode = false ∧ s.tamperHold = false)) →
       (s.pluckAct index.val e.msg.req (s.pluckTe e.msg.req) now).1 = .ran → e.msg.req.periodS = 0 →
       Does (.pluckFire index) s (fun t => t.pluck index.val = some { e with state := .done, reason := 0 } ∧
         t.fld Fld.PLUCK_DROP_COUNT = s.fld Fld.PLUCK_DROP_COUNT)) ∧
  (∀ (s : State) (index : Fin 256) (e : PluckEnt) (now : Nat), s.pluck index.val = some e → s.pitch = some now → e.state = .armed →
       s.fed.plucks.any (fun p => decide (p.1 < index.val) && p.2.state == .armed && s.pluckTe p.2.msg.req == s.pluckTe e.msg.req) = false →
       s.pluckHeld e.msg.req = false → s.pluckTe e.msg.req ≤ now → now < s.pluckTe e.msg.req + 8 →
       (pluckFast e.msg.req.action = false ∨ (s.acFail = false ∧ s.safeMode = false ∧ s.tamperHold = false)) →
       (s.pluckAct index.val e.msg.req (s.pluckTe e.msg.req) now).1 = .ran → e.msg.req.periodS ≠ 0 →
       Does (.pluckFire index) s (fun t => ∃ q, t.pluck index.val = some q ∧ q.state = .armed ∧ q.reason = 0 ∧ q.msg.req = s.nextOccurrence e.msg.req)) ∧
  (∀ (s : State) (index : Fin 256) (e : PluckEnt) (now : Nat), s.pluck index.val = some e → s.pitch = some now → e.state = .armed →
       s.fed.plucks.any (fun p => decide (p.1 < index.val) && p.2.state == .armed && s.pluckTe p.2.msg.req == s.pluckTe e.msg.req) = false →
       s.pluckHeld e.msg.req = false → s.pluckTe e.msg.req ≤ now → now < s.pluckTe e.msg.req + 8 →
       s.acFail = false → s.safeMode = false → s.tamperHold = false → e.msg.req.action % 128 = 1 → e.msg.req.arg % 2 = 1 → s.gateOpen = true →
       Does (.pluckFire index) s (fun t => t.pluck index.val = some { e with state := .running, reason := 0 } ∧
         t.fed.barriers.length = s.fed.barriers.length + 1 ∧
         (t.fed.barriers.getLast?).map (fun b => (b.index, b.cut)) = some (index.val, s.wc.nextSeq))) ∧
  (∀ (s : State) (index : Fin 256) (e : PluckEnt) (now : Nat), s.pluck index.val = some e → s.pitch = some now → e.state = .armed →
       s.fed.plucks.any (fun p => decide (p.1 < index.val) && p.2.state == .armed && s.pluckTe p.2.msg.req == s.pluckTe e.msg.req) = false →
       s.pluckHeld e.msg.req = false → s.pluckTe e.msg.req ≤ now → now < s.pluckTe e.msg.req + 8 →
       (pluckFast e.msg.req.action = false ∨ (s.acFail = false ∧ s.safeMode = false ∧ s.tamperHold = false)) →
       (s.pluckAct index.val e.msg.req (s.pluckTe e.msg.req) now).1 = .absent → e.msg.req.periodS = 0 →
       Does (.pluckFire index) s (fun t => t.pluck index.val = some { e with state := .dropped, reason := 3 } ∧ t.fld Fld.PLUCK_DROP_COUNT = (s.fld Fld.PLUCK_DROP_COUNT + 1) % 2 ^ Fld.PLUCK_DROP_COUNT.width)) ∧
  (∀ (s : State) (index : Fin 256) (e : PluckEnt) (now : Nat), s.pluck index.val = some e → s.pitch = some now → e.state = .armed →
       s.fed.plucks.any (fun p => decide (p.1 < index.val) && p.2.state == .armed && s.pluckTe p.2.msg.req == s.pluckTe e.msg.req) = false →
       s.pluckHeld e.msg.req = false → s.pluckTe e.msg.req + 8 ≤ now →
       s.runsLate e.msg.req (now - s.pluckTe e.msg.req) = true → (pluckFast e.msg.req.action = false ∨ (s.acFail = false ∧ s.safeMode = false ∧ s.tamperHold = false)) →
       e.msg.req.action % 128 ∈ [2, 3, 5, 7] → e.msg.req.periodS = 0 →
       Does (.pluckFire index) s (fun t => t.pluck index.val = some { e with state := .lateDone, reason := 0, lateness := now - s.pluckTe e.msg.req } ∧
         t.fld Fld.PLUCK_LATE_COUNT = (s.fld Fld.PLUCK_LATE_COUNT + 1) % 2 ^ Fld.PLUCK_LATE_COUNT.width)) ∧
  (∀ (s : State) (index : Fin 256), s.pluck index.val = none → Does (.pluckEarlyWake index) s (fun t => t = s)) ∧
  (∀ (s : State) (index : Fin 256) (e : PluckEnt), s.pluck index.val = some e → (e.state ≠ .armed ∨ s.pluckWakes e.msg.req = false) →
       Does (.pluckEarlyWake index) s (fun t => t = s)) ∧
  (∀ (s : State) (index : Fin 256), (s.fed.barriers = [] ∨ s.pluck index.val = none) → Does (.writeBarrierDone index) s (fun t => t = s)) ∧
  (∀ (s : State) (index : Fin 256) (b : Barrier) (r : List Barrier), s.fed.barriers = b :: r → (b.index ≠ index.val ∨ s.barrierWaits b = true) →
       Does (.writeBarrierDone index) s (fun t => t = s)) ∧
  (∀ (s : State) (index : Fin 256) (b : Barrier) (r : List Barrier) (e : PluckEnt), s.fed.barriers = b :: r → s.pluck index.val = some e →
       b.index = index.val → s.barrierWaits b = false → e.lateness ≠ 0 → e.msg.req.periodS = 0 →
       Does (.writeBarrierDone index) s (fun t => t.fed.barriers = r ∧ t.pluck index.val = some { e with state := .lateDone, reason := 0 })) ∧
  (∀ (s : State) (index : Fin 256) (b : Barrier) (r : List Barrier) (e : PluckEnt), s.fed.barriers = b :: r → s.pluck index.val = some e →
       b.index = index.val → s.barrierWaits b = false → e.msg.req.periodS ≠ 0 →
       Does (.writeBarrierDone index) s (fun t => t.fed.barriers = r ∧
         ∃ q, t.pluck index.val = some q ∧ q.state = .armed ∧ q.msg.req = s.nextOccurrence e.msg.req))

/-- The gauge computes energy; packs come and go; the vault is patrolled. Rests on R354, R352, R370. For every state and operands that meet the
clause's conditions, the command answers a next state of which the clause says: the computation shows both voltages, the energy of both
packs less the overhead, the reserve and their difference; a removed pack is cut off and shows 0; a new pack is closed, unqualified and
queued for its test, its learned values kept aside; a patrol shows rate, wear and directory. Energy is the model's integer arithmetic (log
25); a new pack is a replacement (log 25). A pack that is the same one again keeps its learned values; a change that shows nothing new
leaves the state (log 8). -/
def Obligations.GaugeAndPackChangesTakeEffect : Prop :=
  (∀ (s u : State) (a b : PackSample), u = (s.takeSample .A a).takeSample .B b →
       Does (.gaugeEnergyCompute a b) s (fun t => t.fld (Fld.NRG_VOLT_MV.MV.at 0) = a.mv % 65536 ∧ t.fld (Fld.NRG_VOLT_MV.MV.at 1) = b.mv % 65536 ∧
         t.fld Fld.NRG_E_J.E_J = (u.packEnergyAt .A (u.pack .A).socPpm + u.packEnergyAt .B (u.pack .B).socPpm - u.gaugeCfg.overheadJ) % 2 ^ 24 ∧
         t.fld Fld.NRG_RESERVE_J.J = u.reserveJ % 2 ^ 24 ∧ t.fld Fld.NRG_AVAIL_J.J = t.fld Fld.NRG_E_J.E_J - t.fld Fld.NRG_RESERVE_J.J)) ∧
  (∀ (s : State) (p : PackId), s.packPresent p = true →
       Does (.packRemoved p) s (fun t => t.packPresent p = false ∧ (t.pack p).en = false ∧ (t.pack p).test = none ∧ (t.pack p).learn = none ∧
         p ∉ t.nrg.queue ∧ t.fld (Fld.NRG_PACK_E_J.J.at (packIx p)) = 0 ∧ t.fld (Fld.NRG_SOC.PERMILLE.at (packIx p)) = 0)) ∧
  (∀ (s : State) (p : PackId), s.packPresent p = false → (s.packCfg p).chemistry ≠ 0 → s.acFail = false →
       Does (.packPresent p) s (fun t => t.packPresent p = true ∧ (t.pack p).en = (s.pack (otherPack p)).test.isNone ∧ (t.pack p).learned.qualified = false ∧
         (t.pack p).displaced = some (s.pack p).learned ∧ p ∈ t.nrg.queue ∧ t.fld (Fld.NRG_COULOMB.at (packIx p)) = 0)) ∧
  (∀ (s : State) (rate wear : Nat) (dirOk : Bool), s.bit Fld.VLT_STATUS.DUMPING = false → s.bit Fld.VLT_STATUS.REPLAYING = false →
       Does (.vaultPatrol rate wear dirOk) s (fun t => t.bit Fld.VLT_STATUS.RATE_OK = (decide (12000 ≤ rate) && s.bit Fld.VLT_STATUS.PRESENT) ∧
         t.bit Fld.VLT_STATUS.WEAR_WARN = decide (80 ≤ wear) ∧ t.bit Fld.VLT_STATUS.DIRECTORY_DEGRADED = !dirOk)) ∧
  (∀ (s : State) (rate wear : Nat) (dirOk : Bool), s.Takes Fld.VLT_CMD.CMD.addr → s.bit Fld.VLT_STATUS.DUMPING = false →
       s.bit Fld.VLT_STATUS.REPLAYING = false →
       Does (.vaultPatrolNow rate wear dirOk) s (fun t => t.bit Fld.VLT_STATUS.RATE_OK = (decide (12000 ≤ rate) && s.bit Fld.VLT_STATUS.PRESENT) ∧
         t.bit Fld.VLT_STATUS.WEAR_WARN = decide (80 ≤ wear))) ∧
  (∀ (s : State) (p : PackId), s.packPresent p = false → Does (.packRemoved p) s (fun t => t = s)) ∧
  (∀ (s : State) (p : PackId), ((s.packCfg p).chemistry = 0 ∨ s.packPresent p = true) → Does (.packPresent p) s (fun t => t = s)) ∧
  (∀ (s : State) (p : PackId), s.packPresent p = false → (s.packCfg p).chemistry ≠ 0 → s.acFail = true →
       Does (.packPresent p) s (fun t => t.packPresent p = true ∧ (t.pack p).learned.qualified = false ∧ (t.pack p).displaced = some (s.pack p).learned ∧
         p ∈ t.nrg.deferred ∧ t.nrg.queue = s.nrg.queue)) ∧
  (∀ (s : State) (rate wear : Nat) (dirOk : Bool), (s.bit Fld.VLT_STATUS.DUMPING = true ∨ s.bit Fld.VLT_STATUS.REPLAYING = true) →
       Does (.vaultPatrol rate wear dirOk) s (fun t => t = s)) ∧
  (∀ (s : State) (rate wear : Nat) (dirOk : Bool), s.Takes Fld.VLT_CMD.CMD.addr →
       (s.bit Fld.VLT_STATUS.DUMPING = true ∨ s.bit Fld.VLT_STATUS.REPLAYING = true) →
       Does (.vaultPatrolNow rate wear dirOk) s (fun t => t = s))

/-- Hold-up self-tests are queued, run their steps, and fail below the cut-off voltage. Rests on R357, R356, R358. For every state and operands
that meet the clause's conditions, the command answers a next state of which the clause says: the head of the queue starts with the other
pack open and HOLDUP_EN asserted; step 3 applies the load and step 4 takes the sample; a voltage below cut-off ends the test with result 3,
unqualified and counted; step 11 ends the test; the retest timer, age and start-up queue tests; during a mains failure the test is deferred.
Readings: log 25. Every step of the sequence, and the cases in which a test is not started, have their clauses. -/
def Obligations.HoldupSelfTestsRunTheirSteps : Prop :=
  (∀ (s : State) (p : PackId), s.nrg.queue.head? = some p → s.acFail = false → s.packPresent p = true → s.bit Fld.NRG_STATUS.TEST_ACTIVE = false →
       Does (.holdupSelftestStart p) s (fun t => t.nrg.queue = s.nrg.queue.tail ∧ (t.pack p).test.isSome = true ∧ (t.pack (otherPack p)).en = false ∧
         t.bit Fld.NRG_STATUS.HOLDUP_EN = true ∧ t.bit Fld.NRG_STATUS.TEST_ACTIVE = true)) ∧
  (∀ (s : State) (mv : Nat) (ma : Int) (r : TestRun), (s.pack .A).test = some r → r.step = 3 → (s.packCfg .A).cells * (s.packCfg .A).cutoffMvCell ≤ mv →
       Does (.holdupSelftestStep mv ma) s (fun t => (t.pack .A).loadStep = true ∧ (t.pack .A).test = some { r with step := 4, lowest := min r.lowest mv })) ∧
  (∀ (s : State) (mv : Nat) (ma : Int) (r : TestRun), (s.pack .A).test = some r → r.step = 4 → (s.packCfg .A).cells * (s.packCfg .A).cutoffMvCell ≤ mv →
       Does (.holdupSelftestStep mv ma) s (fun t => (t.pack .A).test = some ⟨5, r.samples ++ [(mv, ma)], min r.lowest mv⟩)) ∧
  (∀ (s : State) (mv : Nat) (ma : Int) (r : TestRun), (s.pack .A).test = some r → mv < (s.packCfg .A).cells * (s.packCfg .A).cutoffMvCell →
       Does (.holdupSelftestStep mv ma) s (fun t => t.fld (Fld.PACK_STATUS.TEST_RESULT.at 0) = 3 ∧ (t.pack .A).test = none ∧
         (t.pack .A).learned.qualified = false ∧ (t.pack .A).fails = (s.pack .A).fails + 1)) ∧
  (∀ (s : State) (mv : Nat) (ma : Int) (r : TestRun), (s.pack .A).test = some r → r.step = 11 → (s.packCfg .A).cells * (s.packCfg .A).cutoffMvCell ≤ mv →
       Does (.holdupSelftestStep mv ma) s (fun t => (t.pack .A).test = none)) ∧
  (∀ (s : State) (p : PackId) (r : Nat), s.packPresent p = true → r = s.fld (Fld.PACK_STATUS.TEST_RESULT.at (packIx p)) → 2 ≤ r → r ≤ 5 → s.acFail = false →
       Does (.holdupRetestTimer p) s (fun t => p ∈ t.nrg.queue)) ∧
  (∀ (s : State) (p : PackId), s.packPresent p = true → s.acFail = false → Does (.holdupTestAgeExpiry p) s (fun t => p ∈ t.nrg.queue)) ∧
  (∀ (s : State) (p : PackId), s.packPresent p = true → s.acFail = true →
       Does (.holdupTestAgeExpiry p) s (fun t => p ∈ t.nrg.deferred ∧ t.nrg.queue = s.nrg.queue)) ∧
  (∀ s : State, s.packPresent .A = true → s.packPresent .B = true → s.acFail = false → s.nrg.queue = [] →
       Does .holdupStartupTest s (fun t => t.nrg.queue = [.A, .B])) ∧
  (∀ (s : State) (p : PackId), (s.nrg.queue.head? ≠ some p ∨ s.acFail = true ∨ s.packPresent p = false ∨ s.bit Fld.NRG_STATUS.TEST_ACTIVE = true) →
       Does (.holdupSelftestStart p) s (fun t => t = s)) ∧
  (∀ (s : State) (mv : Nat) (ma : Int), (s.pack .A).test = none → (s.pack .B).test = none → Does (.holdupSelftestStep mv ma) s (fun t => t = s)) ∧
  (∀ (s : State) (p : PackId) (mv : Nat) (ma : Int) (r : TestRun), bothPacks.find? (fun q => (s.pack q).test.isSome) = some p → (s.pack p).test = some r →
       (r.step = 3 ∨ r.step = 6 ∨ r.step = 8) → (s.packCfg p).cells * (s.packCfg p).cutoffMvCell ≤ mv →
       Does (.holdupSelftestStep mv ma) s (fun t => (t.pack p).loadStep = decide (r.step ≠ 6) ∧
         (t.pack p).test = some { r with step := r.step + 1, lowest := min r.lowest mv })) ∧
  (∀ (s : State) (p : PackId) (mv : Nat) (ma : Int) (r : TestRun), bothPacks.find? (fun q => (s.pack q).test.isSome) = some p → (s.pack p).test = some r →
       r.step ∉ [3, 6, 8, 11] → (s.packCfg p).cells * (s.packCfg p).cutoffMvCell ≤ mv →
       Does (.holdupSelftestStep mv ma) s (fun t => (t.pack p).loadStep = (s.pack p).loadStep ∧
         (t.pack p).test = some ⟨r.step + 1, r.samples ++ [(mv, ma)], min r.lowest mv⟩)) ∧
  (∀ (s : State) (p : PackId) (mv : Nat) (ma : Int) (r : TestRun), bothPacks.find? (fun q => (s.pack q).test.isSome) = some p → (s.pack p).test = some r →
       mv < (s.packCfg p).cells * (s.packCfg p).cutoffMvCell →
       Does (.holdupSelftestStep mv ma) s (fun t => t.fld (Fld.PACK_STATUS.TEST_RESULT.at (packIx p)) = 3 ∧ (t.pack p).test = none ∧
         (t.pack p).learned.qualified = false ∧ (t.pack p).fails = (s.pack p).fails + 1)) ∧
  (∀ (s : State) (p : PackId) (mv : Nat) (ma : Int) (r : TestRun), bothPacks.find? (fun q => (s.pack q).test.isSome) = some p → (s.pack p).test = some r →
       r.step = 11 → r.samples.length ≠ 6 → (s.packCfg p).cells * (s.packCfg p).cutoffMvCell ≤ mv →
       Does (.holdupSelftestStep mv ma) s (fun t => (t.pack p).test = none ∧ t.fld (Fld.PACK_STATUS.TEST_RESULT.at (packIx p)) = 6 ∧
         (t.pack p).learned = (s.pack p).learned)) ∧
  (∀ (s : State) (p : PackId) (mv v0 vf1 vs1 w0 vf2 vs2 : Nat) (ma i0 if1 is1 j0 if2 is2 : Int) (r : TestRun), bothPacks.find? (fun q => (s.pack q).test.isSome) = some p → (s.pack p).test = some r →
       r.step = 11 → r.samples = [(v0, i0), (vf1, if1), (vs1, is1), (w0, j0), (vf2, if2), (vs2, is2)] → (s.packCfg p).cells * (s.packCfg p).cutoffMvCell ≤ mv →
       (s.pack p).displaced = none → (s.pack p).firstTest = false → (if1 - i0) * 50 < (s.pack p).learned.capMah →
       Does (.holdupSelftestStep mv ma) s (fun t => (t.pack p).test = none ∧ t.fld (Fld.PACK_STATUS.TEST_RESULT.at (packIx p)) = 2 ∧
         (t.pack p).learned.qualified = false)) ∧
  (∀ (s : State) (p : PackId) (mv v0 vf1 vs1 w0 vf2 vs2 : Nat) (ma i0 if1 is1 j0 if2 is2 : Int) (r : TestRun), bothPacks.find? (fun q => (s.pack q).test.isSome) = some p → (s.pack p).test = some r →
       r.step = 11 → r.samples = [(v0, i0), (vf1, if1), (vs1, is1), (w0, j0), (vf2, if2), (vs2, is2)] → (s.packCfg p).cells * (s.packCfg p).cutoffMvCell ≤ mv →
       (s.pack p).displaced = none → (s.pack p).firstTest = false → (s.pack p).learned.capMah ≤ (if1 - i0) * 50 →
       (s.packCfg p).cells * (s.packCfg p).cutoffMvCell * 105 < min r.lowest mv * 100 →
       agree20 (stepR v0 vf1 i0 if1) (stepR w0 vf2 j0 if2) = true → agree20 (stepR v0 vs1 i0 is1) (stepR w0 vs2 j0 is2) = true →
       (s.pack p).socPpm < 500000 →
       Does (.holdupSelftestStep mv ma) s (fun t => (t.pack p).test = none ∧ t.fld (Fld.PACK_STATUS.TEST_RESULT.at (packIx p)) = 1 ∧
         (t.pack p).learned.qualified = true ∧ (t.pack p).fails = 0)) ∧
  (∀ (s : State) (p : PackId), s.packPresent p = true → s.acFail = true → 2 ≤ s.fld (Fld.PACK_STATUS.TEST_RESULT.at (packIx p)) →
       s.fld (Fld.PACK_STATUS.TEST_RESULT.at (packIx p)) ≤ 5 →
       Does (.holdupRetestTimer p) s (fun t => p ∈ t.nrg.deferred ∧ t.nrg.queue = s.nrg.queue)) ∧
  (∀ (s : State) (p : PackId), (s.packPresent p = false ∨ s.fld (Fld.PACK_STATUS.TEST_RESULT.at (packIx p)) ∉ [2, 3, 4, 5]) →
       Does (.holdupRetestTimer p) s (fun t => t = s)) ∧
  (∀ (s : State) (p : PackId), s.packPresent p = false → Does (.holdupTestAgeExpiry p) s (fun t => t = s)) ∧
  (∀ s : State, s.acFail = false →
       Does .holdupStartupTest s (fun t => (s.packPresent .A = true → .A ∈ t.nrg.queue) ∧ (s.packPresent .B = true → .B ∈ t.nrg.queue) ∧
         (s.packPresent .A = false → s.packPresent .B = false → t.nrg.queue = s.nrg.queue))) ∧
  (∀ s : State, s.acFail = true →
       Does .holdupStartupTest s (fun t => (s.packPresent .A = true → .A ∈ t.nrg.deferred) ∧ (s.packPresent .B = true → .B ∈ t.nrg.deferred) ∧
         t.nrg.queue = s.nrg.queue))

/-- Learning cycles start, rest, learn or end early; the gauge commands act or refuse. Rests on R360, R362, R361, R364, R357, R358, R365. For
every state and operands that meet the clause's conditions, the command answers a next state of which the clause says: a ready pack starts a
cycle; its discharge ends in a rest; the rest's end learns the capacity when at least 30 % was taken out and ends with result 6 otherwise; a
disqualification ends with its reason; a retry starts again up to three; a learned block is written to its slot; TEST, LEARN, LEARN_ABORT,
RETEST and SAME_PACK do as R365 says or answer error 1 or 2. Readings: log 25, 17. The cases in which a cycle does not start, end or retry,
and every error of the gauge commands, have their clauses. -/
def Obligations.LearningCyclesAndGaugeCommandsTakeEffect : Prop :=
  (∀ (s : State) (p : PackId), s.gaugeCfg.learnPeriodDays ≠ 0 → s.acFail = false → s.learnReady p = true →
       Does (.learnStart p) s (fun t => (t.pack p).learn = some ⟨(s.pack p).socPpm, 0, false⟩ ∧ (t.pack p).learnTries = 0 ∧
         t.bit Fld.NRG_STATUS.LEARN_ACTIVE = true)) ∧
  (∀ (s : State) (p : PackId) (c : LearnRun), (s.pack p).learn = some c → c.resting = false →
       Does (.learnDischargeEnd p) s (fun t => (t.pack p).learn = some { c with resting := true } ∧ t.regs = s.regs)) ∧
  (∀ (s : State) (p : PackId) (c : LearnRun) (soc : Nat), (s.pack p).learn = some c → c.resting = true →
       soc = socOfOcv (s.packCfg p) (s.fld (Fld.NRG_VOLT_MV.MV.at (packIx p)) / (s.packCfg p).cells) → soc + 300000 ≤ c.socStart →
       Does (.learnRestEnd p) s (fun t => (t.pack p).learn = none ∧ t.fld (Fld.PACK_STATUS.LEARN_RESULT.at (packIx p)) = 1 ∧ (t.pack p).writeDue = true ∧
         (t.pack p).learned.capMah = capAfter (s.pack p).learned (s.packCfg p).nominalMah (c.mC.toNat * 1000000 / ((c.socStart - soc) * 3600)))) ∧
  (∀ (s : State) (p : PackId) (c : LearnRun), (s.pack p).learn = some c → c.resting = true →
       c.socStart < socOfOcv (s.packCfg p) (s.fld (Fld.NRG_VOLT_MV.MV.at (packIx p)) / (s.packCfg p).cells) + 300000 →
       Does (.learnRestEnd p) s (fun t => (t.pack p).learn = none ∧ t.fld (Fld.PACK_STATUS.LEARN_RESULT.at (packIx p)) = 6 ∧
         (t.pack p).learned = (s.pack p).learned)) ∧
  (∀ (s : State) (p : PackId) (why : Fin 8), (s.pack p).learn.isSome = true → 2 ≤ why.val →
       Does (.learnDisqualify p why) s (fun t => (t.pack p).learn = none ∧ t.fld (Fld.PACK_STATUS.LEARN_RESULT.at (packIx p)) = why.val)) ∧
  (∀ (s : State) (p : PackId), (s.pack p).learnTries < 3 → s.acFail = false → s.learnReady p = true →
       Does (.learnRetry p) s (fun t => (t.pack p).learn.isSome = true ∧ (t.pack p).learnTries = (s.pack p).learnTries + 1)) ∧
  (∀ (s : State) (p : PackId), (s.packCfg p).chemistry ≠ 0 →
       Does (.gaugeBlockWrite p) s (fun t => (t.pack p).writeDue = false ∧
         ∃ k b, (k = packBlock p ∨ k = packBlock p + 1) ∧ tget t.cal.user k = some b ∧ b.content = learnedContent (s.pack p).learned)) ∧
  (∀ (s : State) (p : PackId), s.Takes Fld.NRG_CMD.CMD.addr → s.bit Fld.NRG_CMD_STATUS.BUSY = false → s.packPresent p = true → s.acFail = false →
       Does (.nrgTest p) s (fun t => t.bit Fld.NRG_CMD_STATUS.BUSY = true ∧ t.fld Fld.NRG_CMD_STATUS.ERROR = 0 ∧ t.nrg.cmd = some p ∧ p ∈ t.nrg.queue)) ∧
  (∀ (s : State) (p : PackId), s.Takes Fld.NRG_CMD.CMD.addr → s.bit Fld.NRG_CMD_STATUS.BUSY = false → s.packPresent p = false →
       Does (.nrgTest p) s (fun t => t.fld Fld.NRG_CMD_STATUS.ERROR = 1 ∧ t.bit Fld.NRG_CMD_STATUS.DONE = true ∧ t.nrg = s.nrg)) ∧
  (∀ (s : State) (p : PackId), s.Takes Fld.NRG_CMD.CMD.addr → s.bit Fld.NRG_CMD_STATUS.BUSY = false → s.learnReady p = true → s.acFail = false →
       Does (.nrgLearn p) s (fun t => t.fld Fld.NRG_CMD_STATUS.ERROR = 0 ∧ (t.pack p).learn = some ⟨(s.pack p).socPpm, 0, false⟩)) ∧
  (∀ (s : State) (p : PackId), s.Takes Fld.NRG_CMD.CMD.addr → s.bit Fld.NRG_CMD_STATUS.BUSY = false → s.packPresent p = true → s.acFail = true →
       Does (.nrgLearn p) s (fun t => t.fld Fld.NRG_CMD_STATUS.ERROR = 2 ∧ t.nrg = s.nrg)) ∧
  (∀ (s : State) (p : PackId), s.Takes Fld.NRG_CMD.CMD.addr → s.bit Fld.NRG_CMD_STATUS.BUSY = false → (s.pack p).learn.isSome = true →
       Does (.learnAbort p) s (fun t => (t.pack p).learn = none ∧ t.fld (Fld.PACK_STATUS.LEARN_RESULT.at (packIx p)) = 7 ∧
         t.fld Fld.NRG_CMD_STATUS.ERROR = 0)) ∧
  (∀ (s : State) (p : PackId), s.Takes Fld.NRG_CMD.CMD.addr → s.bit Fld.NRG_CMD_STATUS.BUSY = false → s.packPresent p = true → s.acFail = false →
       Does (.nrgRetest p) s (fun t => (t.pack p).learned.failed = false ∧ (t.pack p).fails = 0 ∧ p ∈ t.nrg.queue ∧
         t.bit (Fld.PACK_STATUS.FAILED.at (packIx p)) = false ∧ t.bit Fld.NRG_CMD_STATUS.BUSY = true)) ∧
  (∀ (s : State) (p : PackId) (d : Learned), s.Takes Fld.NRG_CMD.CMD.addr → s.bit Fld.NRG_CMD_STATUS.BUSY = false → (s.pack p).displaced = some d →
       s.packPresent p = true → s.now ≤ (s.pack p).presentAt + 60 * sec → (s.pack p).sameBad = false →
       Does (.nrgSamePack p) s (fun t => t.fld Fld.NRG_CMD_STATUS.ERROR = 0 ∧ (t.pack p).displaced = none ∧
         (t.pack p).learned = { d with qualified := (s.pack p).learned.qualified, failed := (s.pack p).learned.failed })) ∧
  (∀ (s : State) (p : PackId), (s.gaugeCfg.learnPeriodDays = 0 ∨ s.acFail = true ∨ s.learnReady p = false) → Does (.learnStart p) s (fun t => t = s)) ∧
  (∀ (s : State) (p : PackId), (s.pack p).learn.map (·.resting) ≠ some false → Does (.learnDischargeEnd p) s (fun t => t = s)) ∧
  (∀ (s : State) (p : PackId), (s.pack p).learn.map (·.resting) ≠ some true → Does (.learnRestEnd p) s (fun t => t = s)) ∧
  (∀ (s : State) (p : PackId) (why : Fin 8), ((s.pack p).learn = none ∨ why.val < 2) → Does (.learnDisqualify p why) s (fun t => t = s)) ∧
  (∀ (s : State) (p : PackId), (3 ≤ (s.pack p).learnTries ∨ s.acFail = true ∨ s.learnReady p = false) → Does (.learnRetry p) s (fun t => t = s)) ∧
  (∀ (s : State) (p : PackId), (s.packCfg p).chemistry = 0 → Does (.gaugeBlockWrite p) s (fun t => t = s)) ∧
  (∀ (s : State) (p : PackId), s.Takes Fld.NRG_CMD.CMD.addr → s.bit Fld.NRG_CMD_STATUS.BUSY = true → Does (.nrgTest p) s (fun t => t = s)) ∧
  (∀ (s : State) (p : PackId), s.Takes Fld.NRG_CMD.CMD.addr → s.bit Fld.NRG_CMD_STATUS.BUSY = true → Does (.nrgLearn p) s (fun t => t = s)) ∧
  (∀ (s : State) (p : PackId), s.Takes Fld.NRG_CMD.CMD.addr → s.bit Fld.NRG_CMD_STATUS.BUSY = true → Does (.learnAbort p) s (fun t => t = s)) ∧
  (∀ (s : State) (p : PackId), s.Takes Fld.NRG_CMD.CMD.addr → s.bit Fld.NRG_CMD_STATUS.BUSY = true → Does (.nrgRetest p) s (fun t => t = s)) ∧
  (∀ (s : State) (p : PackId), s.Takes Fld.NRG_CMD.CMD.addr → s.bit Fld.NRG_CMD_STATUS.BUSY = true → Does (.nrgSamePack p) s (fun t => t = s)) ∧
  (∀ (s : State) (p : PackId), s.Takes Fld.NRG_CMD.CMD.addr → s.bit Fld.NRG_CMD_STATUS.BUSY = false → s.packPresent p = false →
       Does (.nrgLearn p) s (fun t => t.fld Fld.NRG_CMD_STATUS.ERROR = 1 ∧ t.bit Fld.NRG_CMD_STATUS.DONE = true ∧ t.nrg = s.nrg)) ∧
  (∀ (s : State) (p : PackId), s.Takes Fld.NRG_CMD.CMD.addr → s.bit Fld.NRG_CMD_STATUS.BUSY = false → s.packPresent p = false →
       Does (.nrgRetest p) s (fun t => t.fld Fld.NRG_CMD_STATUS.ERROR = 1 ∧ t.bit Fld.NRG_CMD_STATUS.DONE = true ∧ t.nrg = s.nrg)) ∧
  (∀ (s : State) (p : PackId), s.Takes Fld.NRG_CMD.CMD.addr → s.bit Fld.NRG_CMD_STATUS.BUSY = false → s.packPresent p = true → s.acFail = true →
       Does (.nrgTest p) s (fun t => t.fld Fld.NRG_CMD_STATUS.ERROR = 0 ∧ t.bit Fld.NRG_CMD_STATUS.DONE = true ∧
         t.bit Fld.NRG_CMD_STATUS.BUSY = false ∧ p ∈ t.nrg.deferred)) ∧
  (∀ (s : State) (p : PackId), s.Takes Fld.NRG_CMD.CMD.addr → s.bit Fld.NRG_CMD_STATUS.BUSY = false → s.packPresent p = true → s.acFail = false → s.learnReady p = false →
       Does (.nrgLearn p) s (fun t => t.fld Fld.NRG_CMD_STATUS.ERROR = 3 ∧ t.nrg = s.nrg)) ∧
  (∀ (s : State) (p : PackId), s.Takes Fld.NRG_CMD.CMD.addr → s.bit Fld.NRG_CMD_STATUS.BUSY = false → (s.pack p).learn = none →
       Does (.learnAbort p) s (fun t => t.fld Fld.NRG_CMD_STATUS.ERROR = 1 ∧ t.nrg = s.nrg)) ∧
  (∀ (s : State) (p : PackId), s.Takes Fld.NRG_CMD.CMD.addr → s.bit Fld.NRG_CMD_STATUS.BUSY = false → s.packPresent p = true → s.acFail = true →
       Does (.nrgRetest p) s (fun t => (t.pack p).learned.failed = false ∧ (t.pack p).fails = 0 ∧ p ∈ t.nrg.deferred ∧
         t.bit Fld.NRG_CMD_STATUS.DONE = true ∧ t.bit Fld.NRG_CMD_STATUS.BUSY = false)) ∧
  (∀ (s : State) (p : PackId), s.Takes Fld.NRG_CMD.CMD.addr → s.bit Fld.NRG_CMD_STATUS.BUSY = false →
       ((s.pack p).displaced = none ∨ s.packPresent p = false ∨ (s.pack p).presentAt + 60 * sec < s.now) →
       Does (.nrgSamePack p) s (fun t => t.fld Fld.NRG_CMD_STATUS.ERROR = 1 ∧ t.nrg = s.nrg)) ∧
  (∀ (s : State) (p : PackId), s.Takes Fld.NRG_CMD.CMD.addr → s.bit Fld.NRG_CMD_STATUS.BUSY = false → (s.pack p).displaced.isSome = true → s.packPresent p = true → s.now ≤ (s.pack p).presentAt + 60 * sec →
       (s.pack p).sameBad = true → Does (.nrgSamePack p) s (fun t => t.fld Fld.NRG_CMD_STATUS.ERROR = 4 ∧ t.nrg = s.nrg))

/-- The thermal state, the clock throttle, the supply's answer and the temperature samples. Rests on R376, R377, R423, R473, R375. For every
state and operands that meet the clause's conditions, the command answers a next state of which the clause says: the state becomes the one
the temperature asks for; entering CRITICAL begins the thermal stop with its drain and counts it; nothing changes when the state is already
right; the throttle steps up above 105 °C and down below 103 °C; an unanswered supply holds the voltage and its answer releases it, power
above 144 W holding the clock; a sample replaces the readings and counts throttled milliseconds. Readings: log 38. With the Pegbox die not
ready, no temperature or nothing to step, the state is as it was (log 8). -/
def Obligations.ThermalCommandsTakeEffect : Prop :=
  (∀ s : State, s.bit Fld.PWR_STATE.PEGBOX_READY = true → s.nextTherm ≠ s.thermState → s.thermState ≠ 3 → s.nextTherm ≠ 3 →
       Does .thermalStateChange s (fun t => t.thermState = s.nextTherm ∧ t.therm.stop = s.therm.stop)) ∧
  (∀ s : State, s.bit Fld.PWR_STATE.PEGBOX_READY = true → s.nextTherm = 3 → s.thermState ≠ 3 → s.pwr.fast = .running →
       s.bit Fld.PWR_STATE.BOOTING = false → s.fld Fld.PWR_STATE.STATE = 0 → s.err.active = none → s.wc.dumpArea = none →
       Does .thermalStateChange s (fun t => t.thermState = 3 ∧ t.therm.stop = some .drain ∧ t.bit Fld.CAPO_STATUS.GATE_OPEN = (s.bit Fld.CAPO_STATUS.GATE_OPEN && s.role != 3) ∧
         t.fld Fld.THERM_CRIT_COUNT = min (s.fld Fld.THERM_CRIT_COUNT + 1) (2 ^ Fld.THERM_CRIT_COUNT.width - 1))) ∧
  (∀ s : State, s.bit Fld.PWR_STATE.PEGBOX_READY = true → s.nextTherm = 3 → s.thermState ≠ 3 →
       Does .thermalStateChange s (fun t => t.thermState = 3 ∧ t.therm.stop.isSome = true ∧
         t.fld Fld.THERM_CRIT_COUNT = min (s.fld Fld.THERM_CRIT_COUNT + 1) (2 ^ Fld.THERM_CRIT_COUNT.width - 1))) ∧
  (∀ s : State, s.bit Fld.PWR_STATE.PEGBOX_READY = true → s.nextTherm ≠ 3 → s.thermState = 3 →
       Does .thermalStateChange s (fun t => t.thermState = s.nextTherm ∧ t.therm.stop = none ∧ FetchHold.thermal ∉ t.pwr.holds)) ∧
  (∀ s : State, s.bit Fld.PWR_STATE.PEGBOX_READY = true → s.nextTherm = s.thermState → Does .thermalStateChange s (fun t => t = s)) ∧
  (∀ s : State, s.thermState = 2 → 1050 < s.tjDeci → s.therm.throttle < 8 →
       Does .throttleClockStep s (fun t => t.therm.throttle = s.therm.throttle + 1 ∧ t.fld Fld.THERM_STATUS.CLOCK_STEPS = t.clockSteps % 2 ^ Fld.THERM_STATUS.CLOCK_STEPS.width)) ∧
  (∀ s : State, s.tjDeci < 1030 → 0 < s.therm.throttle →
       Does .throttleClockStep s (fun t => t.therm.throttle = s.therm.throttle - 1 ∧ t.fld Fld.THERM_STATUS.CLOCK_STEPS = t.clockSteps % 2 ^ Fld.THERM_STATUS.CLOCK_STEPS.width)) ∧
  (∀ s : State, Does .avsTimeout s (fun t => t.bit Fld.PWR_AVS.NO_ANSWER = true ∧ t.therm.avsHold = true)) ∧
  (∀ (s : State) (mw : Nat), Does (.vddFbPowerCheck mw) s (fun t => t.bit Fld.PWR_AVS.NO_ANSWER = false ∧ t.therm.avsHold = false ∧
       t.therm.powerHold = decide (144000 < mw))) ∧
  (∀ (s : State) (sensors : List Int), s.bit Fld.PWR_STATE.PEGBOX_READY = true → sensors ≠ [] →
       Does (.temperatureSample sensors) s (fun t => t.therm.sensors = sensors.mapIdx (fun i x => (i, x)) ∧
         (s.thermState = 2 → t.fld Fld.THERM_THROTTLE_MS = (s.fld Fld.THERM_THROTTLE_MS + 1) % 2 ^ Fld.THERM_THROTTLE_MS.width))) ∧
  (∀ s : State, s.bit Fld.PWR_STATE.PEGBOX_READY = false → Does .thermalStateChange s (fun t => t = s)) ∧
  (∀ s : State, ¬(s.thermState = 2 ∧ 1050 < s.tjDeci ∧ s.therm.throttle < 8) → ¬(s.tjDeci < 1030 ∧ 0 < s.therm.throttle) →
       Does .throttleClockStep s (fun t => t = s)) ∧
  (∀ (s : State) (sensors : List Int), s.bit Fld.PWR_STATE.PEGBOX_READY = false ∨ sensors = [] →
       Does (.temperatureSample sensors) s (fun t => t = s))

/-- Fan channels start, brake, ramp, retry, fault, lock and follow their commands. Rests on R390, R391, R392, R393, R380, R387, R384, R395. For
every state and operands that meet the clause's conditions, the command answers a next state of which the clause says: the end of the
listening ramps a still rotor, catches a forward one, waits for or brakes a reverse one; a brake done ramps, or retries up to three attempts
and then faults with cause 3; a wait ends in a brake; a ramp ends with new estimates and a start counted; a failed attempt waits for the
retry timer; an overcurrent faults with cause 2; a stall starts again; a steady class change switches the control; a pin's loss and return
are shown; CLEAR_FAULT, RESTART and RELEARN act. Readings: log 38. An event in a state of the channel that does not await it leaves the
channel as it was (log 8). -/
def Obligations.FanChannelsFollowTheirSequences : Prop :=
  (∀ (s : State) (n : FanId) (r : RotorSpeed), s.fanState n = 1 → r.rpm * 100 < (s.fanCh n).ratedRpm * 2 →
       Does (.fanListenEnd n r) s (fun t => t.fanState n = 4)) ∧
  (∀ (s : State) (n : FanId) (r : RotorSpeed), s.fanState n = 1 → (s.fanCh n).ratedRpm * 2 ≤ r.rpm * 100 → r.reverse = false →
       Does (.fanListenEnd n r) s (fun t => t.fanState n = if (s.fanCh n).flags % 2 = 1 then 5 else 2)) ∧
  (∀ (s : State) (n : FanId) (r : RotorSpeed), s.fanState n = 1 → (s.fanCh n).ratedRpm * 2 ≤ r.rpm * 100 → r.reverse = true →
       Does (.fanListenEnd n r) s (fun t => t.fanState n = if (s.fanCh n).ratedRpm * (s.fanCh n).brakeMaxPct < r.rpm * 100 then 3 else 2)) ∧
  (∀ (s : State) (n : FanId), s.fanState n = 2 → Does (.fanBrakeDone n true) s (fun t => t.fanState n = 4)) ∧
  (∀ (s : State) (n : FanId), s.fanState n = 2 → s.fld (Fld.FAN_STATUS.ATTEMPT.at n.val) < 3 →
       Does (.fanBrakeDone n false) s (fun t => t.fanState n = 7 ∧
         t.fld (Fld.FAN_FAIL_COUNT.at n.val) = min (s.fld (Fld.FAN_FAIL_COUNT.at n.val) + 1) (2 ^ Fld.FAN_FAIL_COUNT.width - 1))) ∧
  (∀ (s : State) (n : FanId), s.fanState n = 2 → 3 ≤ s.fld (Fld.FAN_STATUS.ATTEMPT.at n.val) →
       Does (.fanBrakeDone n false) s (fun t => t.fanState n = 8 ∧ t.fld (Fld.FAN_STATUS.FAULT_CAUSE.at n.val) = 3)) ∧
  (∀ (s : State) (n : FanId) (r : RotorSpeed), s.fanState n = 3 →
       r.reverse = false ∨ r.rpm * 100 ≤ (s.fanCh n).ratedRpm * (s.fanCh n).brakeMaxPct ∨ 9 ≤ (s.fan n).waited →
       Does (.fanWaitRecheck n r) s (fun t => t.fanState n = 2)) ∧
  (∀ (s : State) (n : FanId) (r : RotorSpeed), s.fanState n = 3 → r.reverse = true →
       (s.fanCh n).ratedRpm * (s.fanCh n).brakeMaxPct < r.rpm * 100 → (s.fan n).waited < 9 →
       Does (.fanWaitRecheck n r) s (fun t => t.fanState n = 3 ∧ (t.fan n).waited = (s.fan n).waited + 1)) ∧
  (∀ (s : State) (n : FanId) (rs ls : Nat) (run : List PwmPeriod), s.fanState n = 4 →
       Does (.fanRampEnd ⟨n, run⟩ true rs ls) s (fun t => t.fanState n = 5 ∧ t.fld (Fld.FAN_STATUS.ATTEMPT.at n.val) = 0 ∧
         t.fld (Fld.FAN_START_COUNT.at n.val) = (s.fld (Fld.FAN_START_COUNT.at n.val) + 1) % 2 ^ Fld.FAN_START_COUNT.width ∧
         (t.fan n).estimates = [rs, ls] ++ (s.fan n).estimates.drop 2)) ∧
  (∀ (s : State) (n : FanId) (rs ls : Nat) (run : List PwmPeriod), Does (.fanRampEnd ⟨n, run⟩ false rs ls) s (fun t => t = s)) ∧
  (∀ (s : State) (n : FanId), s.fanState n = 4 → s.fld (Fld.FAN_STATUS.ATTEMPT.at n.val) < 3 →
       Does (.fanAttemptFail n) s (fun t => t.fanState n = 7)) ∧
  (∀ (s : State) (n : FanId), s.fanState n = 4 → 3 ≤ s.fld (Fld.FAN_STATUS.ATTEMPT.at n.val) →
       Does (.fanAttemptFail n) s (fun t => t.fanState n = 8 ∧ t.fld (Fld.FAN_STATUS.FAULT_CAUSE.at n.val) = 1)) ∧
  (∀ (s : State) (n : FanId), s.fanState n = 7 → (s.safeMode && (s.fanBlock n).isNone) = false →
       Does (.fanRetryTimer n) s (fun t => t.fanState n = 1 ∧
         t.fld (Fld.FAN_STATUS.ATTEMPT.at n.val) = (s.fld (Fld.FAN_STATUS.ATTEMPT.at n.val) + 1) % 2 ^ Fld.FAN_STATUS.ATTEMPT.width)) ∧
  (∀ (s : State) (n : FanId), s.fanState n = 7 → (s.safeMode && (s.fanBlock n).isNone) = true →
       Does (.fanRetryTimer n) s (fun t => t.fanState n = 8 ∧ t.fld (Fld.FAN_STATUS.FAULT_CAUSE.at n.val) = 4)) ∧
  (∀ (s : State) (n : FanId) (run : List PwmPeriod), s.fanState n ≠ 0 → s.fanState n ≠ 8 →
       Does (.fanOvercurrent ⟨n, run⟩) s (fun t => t.fanState n = 8 ∧ t.fld (Fld.FAN_STATUS.FAULT_CAUSE.at n.val) = 2 ∧
         t.bit (Fld.FAN_STATUS.OVERCURRENT.at n.val) = true)) ∧
  (∀ (s : State) (n : FanId) (run : List PwmPeriod), s.fanState n = 0 ∨ s.fanState n = 8 →
       Does (.fanOvercurrent ⟨n, run⟩) s (fun t => t = s)) ∧
  (∀ (s : State) (n : FanId) (run : List PwmPeriod), s.fanState n = 5 ∨ s.fanState n = 6 → (s.safeMode && (s.fanBlock n).isNone) = false →
       Does (.fanStall ⟨n, run⟩) s (fun t => t.fanState n = 1 ∧ t.fld (Fld.FAN_STATUS.ATTEMPT.at n.val) = 0 ∧ t.bit (Fld.FAN_STATUS.STALL.at n.val) = true)) ∧
  (∀ (s : State) (n : FanId) (run : List PwmPeriod), s.fanState n = 5 ∨ s.fanState n = 6 → (s.safeMode && (s.fanBlock n).isNone) = true →
       Does (.fanStall ⟨n, run⟩) s (fun t => t.fanState n = 8 ∧ t.fld (Fld.FAN_STATUS.FAULT_CAUSE.at n.val) = 4 ∧
         t.bit (Fld.FAN_STATUS.STALL.at n.val) = true)) ∧
  (∀ (s : State) (n : FanId) (rpm ke : Nat) (run : List PwmPeriod), s.fanState n = 5 → s.thermState = 0 →
       ((s.fld (Fld.FAN_TARGET.RPM.at n.val) : Int) - rpm).natAbs * 20 ≤ s.fld (Fld.FAN_TARGET.RPM.at n.val) →
       Does (.fanClassChange ⟨n, run⟩ rpm ke) s (fun t => t.fanState n = 6 ∧ t.fld (Fld.FAN_SPEED.RPM.at n.val) = rpm % 2 ^ Fld.FAN_SPEED.RPM.width)) ∧
  (∀ (s : State) (n : FanId) (rpm ke : Nat) (run : List PwmPeriod), s.fanState n = 6 →
       s.thermState ≠ 0 ∨ rpm * 12 < s.fld (Fld.FAN_TARGET.RPM.at n.val) * 10 →
       Does (.fanClassChange ⟨n, run⟩ rpm ke) s (fun t => t.fanState n = 5 ∧ t.fld (Fld.FAN_SPEED.RPM.at n.val) = rpm % 2 ^ Fld.FAN_SPEED.RPM.width)) ∧
  (∀ (s : State) (n : FanId) (rpm ke : Nat) (run : List PwmPeriod),
       (s.fanState n = 5 ∧ (s.thermState ≠ 0 ∨ s.fld (Fld.FAN_TARGET.RPM.at n.val) <
         ((s.fld (Fld.FAN_TARGET.RPM.at n.val) : Int) - rpm).natAbs * 20)) ∨
       (s.fanState n = 6 ∧ s.thermState = 0 ∧ s.fld (Fld.FAN_TARGET.RPM.at n.val) * 10 ≤ rpm * 12) →
       Does (.fanClassChange ⟨n, run⟩ rpm ke) s (fun t => t.fanState n = s.fanState n)) ∧
  (∀ (s : State) (n : FanId), s.bit (Fld.FAN_PIN.VALID.at n.val) = true →
       Does (.fanPinLoss n) s (fun t => t.bit (Fld.FAN_PIN.VALID.at n.val) = false ∧
         (s.fanCfg.pinEn / 2 ^ n.val % 2 = 1 → t.bit Fld.THERM_STATUS.PIN_LOSS = true))) ∧
  (∀ (s : State) (n : FanId), s.bit (Fld.FAN_PIN.VALID.at n.val) = false → Does (.fanPinLoss n) s (fun t => t = s)) ∧
  (∀ (s : State) (n : FanId) (duty : Nat), Does (.fanPinValid n duty) s (fun t => t.bit (Fld.FAN_PIN.VALID.at n.val) = true ∧
       t.fld (Fld.FAN_PIN.DUTY.at n.val) = min 1000 duty)) ∧
  (∀ (s : State) (n : FanId), s.Takes (Fld.FAN_CMD.CMD.at n.val).addr → s.fanState n = 8 →
       Does (.fanClearFault n) s (fun t => t.fanState n ≤ 1 ∧ t.fld (Fld.FAN_STATUS.FAULT_CAUSE.at n.val) = 0)) ∧
  (∀ (s : State) (n : FanId), s.Takes (Fld.FAN_CMD.CMD.at n.val).addr → s.fanState n ≠ 8 →
       Does (.fanClearFault n) s (fun t => t.regs = s.regs ∧ t.fans = s.fans ∧ t.evr.arrivals.length = s.evr.arrivals.length + 1)) ∧
  (∀ (s : State) (n : FanId), s.Takes (Fld.FAN_CMD.CMD.at n.val).addr → s.fanState n ≠ 0 → s.fanState n ≠ 8 → (s.safeMode && (s.fanBlock n).isNone) = false →
       Does (.fanRestart n) s (fun t => t.fanState n = 1 ∧ t.fld (Fld.FAN_STATUS.ATTEMPT.at n.val) = 0)) ∧
  (∀ (s : State) (n : FanId), s.Takes (Fld.FAN_CMD.CMD.at n.val).addr → s.fanState n ≠ 0 → s.fanState n ≠ 8 → (s.safeMode && (s.fanBlock n).isNone) = true →
       Does (.fanRestart n) s (fun t => t.fanState n = 8 ∧ t.fld (Fld.FAN_STATUS.FAULT_CAUSE.at n.val) = 4)) ∧
  (∀ (s : State) (n : FanId), s.Takes (Fld.FAN_CMD.CMD.at n.val).addr → s.fanState n = 0 ∨ s.fanState n = 8 →
       Does (.fanRestart n) s (fun t => t.regs = s.regs ∧ t.fans = s.fans ∧ t.evr.arrivals.length = s.evr.arrivals.length + 1)) ∧
  (∀ (s : State) (n : FanId), s.Takes (Fld.FAN_CMD.CMD.at n.val).addr → s.fanOn n = true →
       Does (.fanRelearn n) s (fun t => (t.fan n).relearn = true ∧ t.regs = s.regs)) ∧
  (∀ (s : State) (n : FanId), s.Takes (Fld.FAN_CMD.CMD.at n.val).addr → s.fanOn n = false →
       Does (.fanRelearn n) s (fun t => t.regs = s.regs ∧ t.fans = s.fans ∧ t.evr.arrivals.length = s.evr.arrivals.length + 1))

/-- Records enter pages or the side queue; freeze, challenge, tokens, clear and soundposts. Rests on R399, R408, R410, R411, R412, R409, R413,
R414, R400, R403, R404, R405. For every state and operands that meet the clause's conditions, the command answers a next state of which the
clause says: an arrival of enough severity enters the open page that takes it, or the side queue while frozen, with the next sequence, and a
lesser one is dropped; FREEZE, UNFREEZE and the freeze timeout act for the owner and answer errors 1 or 2; CHALLENGE and its expiry, the
lockout's end; CLEAR and AUTH_SET under a valid token act, and with a bad one answer error 5; SOUNDPOST_NOW takes a soundpost into eMRAM, or
answers error 6 within 60 s; copies go to vault and flash. Readings: log 35, 36; the token is uninterpreted (log 9). A record finds a page
in R400's order: the open page that takes it, otherwise (the open one closed) the lowest free page, and with none free a reclaimed one in
compatibility mode; it is dropped and counted under its severity past 10,000 in a second, with the sequences used up, with the side queue
full, or with no page (FULL). CHALLENGE with an empty pool answers error 3; CLEAR while another interface holds the freeze answers error 1;
copies that are not due leave the state (log 8). -/
def Obligations.EventRecorderCommandsTakeEffect : Prop :=
  (∀ (s : State) (a : EvArrival) (r : List EvArrival) (i : Nat) (p : EvPage), s.evr.arrivals = a :: r → s.recorderCfg.minSeverity ≤ a.sev →
       s.fld Fld.EVR_NEXT_SEQ < 2 ^ 48 - 1 → s.bit Fld.EVR_STATUS.FROZEN = false → s.evr.second = s.now / sec → s.evr.secondCount < 10000 →
       s.evr.pages.find? (fun p => p.2.isOpen) = some (i, p) → p.takes a = true →
       Does .eventRecord s (fun t => tget t.evr.pages i = some (p.add ⟨s.fld Fld.EVR_NEXT_SEQ, a⟩) ∧ t.evr.arrivals = r ∧
         t.fld Fld.EVR_NEXT_SEQ = s.fld Fld.EVR_NEXT_SEQ + 1)) ∧
  (∀ (s : State) (a : EvArrival) (r : List EvArrival), s.evr.arrivals = a :: r → s.recorderCfg.minSeverity ≤ a.sev →
       s.fld Fld.EVR_NEXT_SEQ < 2 ^ 48 - 1 → s.bit Fld.EVR_STATUS.FROZEN = true → s.evr.sideQ.length < 64 →
       Does .eventRecord s (fun t => t.evr.sideQ = s.evr.sideQ ++ [⟨s.fld Fld.EVR_NEXT_SEQ, a⟩] ∧ t.evr.pages = s.evr.pages ∧
         t.fld Fld.EVR_NEXT_SEQ = s.fld Fld.EVR_NEXT_SEQ + 1)) ∧
  (∀ (s : State) (a : EvArrival) (r : List EvArrival), s.evr.arrivals = a :: r → a.sev < s.recorderCfg.minSeverity → a.sev ≠ 7 →
       Does .eventRecord s (fun t => t.evr = { s.evr with arrivals := r } ∧ t.regs = s.regs)) ∧
  (∀ (s : State) (iface : Iface), s.frozenByOther iface = false →
       Does (.eventFreeze iface) s (fun t => t.bit Fld.EVR_STATUS.FROZEN = true ∧ t.fld Fld.EVR_STATUS.FREEZE_OWNER = ifaceOwner iface ∧
         t.fld Fld.EVR_CMD_STATUS.ERROR = 0 ∧ t.bit Fld.EVR_CMD_STATUS.DONE = true)) ∧
  (∀ (s : State) (iface : Iface), s.frozenByOther iface = true →
       Does (.eventFreeze iface) s (fun t => t.fld Fld.EVR_CMD_STATUS.ERROR = 1 ∧ t.evr = s.evr)) ∧
  (∀ (s : State) (iface : Iface), s.bit Fld.EVR_STATUS.FROZEN = true → s.fld Fld.EVR_STATUS.FREEZE_OWNER = ifaceOwner iface →
       Does (.eventUnfreeze iface) s (fun t => t.bit Fld.EVR_STATUS.FROZEN = false ∧ t.evr.sideQ = [] ∧ t.fld Fld.EVR_CMD_STATUS.ERROR = 0)) ∧
  (∀ (s : State) (iface : Iface), s.bit Fld.EVR_STATUS.FROZEN = false →
       Does (.eventUnfreeze iface) s (fun t => t.fld Fld.EVR_CMD_STATUS.ERROR = 2 ∧ t.evr = s.evr)) ∧
  (∀ s : State, s.bit Fld.EVR_STATUS.FROZEN = true → Does .freezeTimeout s (fun t => t.bit Fld.EVR_STATUS.FROZEN = false ∧ t.evr.sideQ = [])) ∧
  (∀ s : State, s.bit Fld.EVR_STATUS.LOCKOUT = false → s.pool ≠ 0 →
       Does .eventChallenge s (fun t => t.evr.chal = some (t.fld Fld.EVR_CHAL) ∧ t.bit Fld.EVR_STATUS.CHAL_VALID = true ∧ t.fld Fld.EVR_CMD_STATUS.ERROR = 0)) ∧
  (∀ s : State, s.bit Fld.EVR_STATUS.LOCKOUT = true → Does .eventChallenge s (fun t => t.fld Fld.EVR_CMD_STATUS.ERROR = 4 ∧ t.evr = s.evr)) ∧
  (∀ s : State, Does .challengeExpiry s (fun t => t.evr.chal = none ∧ t.bit Fld.EVR_STATUS.CHAL_VALID = false ∧ t.fld Fld.EVR_CHAL = 0)) ∧
  (∀ s : State, Does .lockoutEnd s (fun t => t.bit Fld.EVR_STATUS.LOCKOUT = false ∧ t.evr = s.evr)) ∧
  (∀ (s : State) (iface : Iface), s.frozenByOther iface = false → s.tokenOk 1 0 (s.fld Fld.EVR_AUTH) = true →
       Does (.eventClear iface) s (fun t => (∃ p, t.evr.pages = [(1, p)] ∧ p.recs.length = 1) ∧ t.bit Fld.EVR_STATUS.FULL = false ∧
         t.bit Fld.EVR_STATUS.NEARLY_FULL = false ∧ (∀ i, i < 8 → t.fld (Fld.EVR_DROP.at i) = 0) ∧ t.fld Fld.EVR_CMD_STATUS.ERROR = 0 ∧ t.evr.chal = none)) ∧
  (∀ (s : State) (iface : Iface), s.frozenByOther iface = false → s.tokenOk 1 0 (s.fld Fld.EVR_AUTH) = false →
       Does (.eventClear iface) s (fun t => t.evr.pages = s.evr.pages ∧ t.fld Fld.EVR_CMD_STATUS.ERROR = 5 ∧ t.evr.failures = s.evr.failures + 1)) ∧
  (∀ (s : State) (iface : Iface), s.evr.authKey = none →
       Does (.eventAuthSet iface) s (fun t => t.evr.authKey = some (s.fld Fld.EVR_AUTH_KEY) ∧ t.fld Fld.EVR_CMD_STATUS.ERROR = 0 ∧ t.fld Fld.EVR_AUTH_KEY = 0)) ∧
  (∀ (s : State) (iface : Iface), s.evr.authKey.isSome = true → s.tokenOk 9 0 (s.fld Fld.EVR_AUTH) = false →
       Does (.eventAuthSet iface) s (fun t => t.evr.authKey = s.evr.authKey ∧ t.fld Fld.EVR_CMD_STATUS.ERROR = 5)) ∧
  (∀ s : State, s.evr.spNowAt = none →
       Does .soundpostNow s (fun t => t.fld Fld.SP_LAST_SEQ = (s.fld Fld.SP_LAST_SEQ + 1) % 2 ^ 64 ∧ t.fld Fld.EVR_CMD_STATUS.ERROR = 0 ∧
         ∃ p, tget t.evr.spEmram ((s.fld Fld.SP_LAST_SEQ + 1) % 4) = some p ∧ p.cause = 4 ∧ p.seq = s.fld Fld.SP_LAST_SEQ + 1)) ∧
  (∀ (s : State) (t0 : Nat), s.evr.spNowAt = some t0 → s.now < t0 + 60 * sec → Does .soundpostNow s (fun t => t.fld Fld.EVR_CMD_STATUS.ERROR = 6 ∧ t.evr = s.evr)) ∧
  (∀ (s : State) (p : Soundpost) (r : List Soundpost), s.evr.spVaultDue = p :: r → s.bit Fld.VLT_STATUS.DUMPING = false → s.bit Fld.VLT_STATUS.PRESENT = true →
       Does .soundpostVaultCopy s (fun t => tget t.evr.spVault (p.seq % 32) = some p ∧ t.evr.spVaultDue = r)) ∧
  (∀ (s : State) (p : Soundpost) (r : List Soundpost), s.evr.spFlashDue = p :: r → s.evr.spVaultDue = [] →
       Does .soundpostFlashCopy s (fun t => tget t.evr.spFlash (p.seq % 4) = some p ∧ t.evr.spFlashDue = r)) ∧
  (∀ s : State, s.evr.arrivals = [] → Does .eventRecord s (fun t => t = s)) ∧
  (∀ (s : State) (a : EvArrival) (r : List EvArrival), s.evr.arrivals = a :: r → s.recorderCfg.minSeverity ≤ a.sev ∨ a.sev = 7 → a.sev < 8 →
       s.fld Fld.EVR_NEXT_SEQ = 2 ^ 48 - 1 → Does .eventRecord s (fun t => t.evr = { s.evr with arrivals := r } ∧
         t.fld (Fld.EVR_DROP.at a.sev) = min (s.fld (Fld.EVR_DROP.at a.sev) + 1) (2 ^ Fld.EVR_DROP.width - 1) ∧ t.fld Fld.EVR_NEXT_SEQ = s.fld Fld.EVR_NEXT_SEQ)) ∧
  (∀ (s : State) (a : EvArrival) (r : List EvArrival), s.evr.arrivals = a :: r → s.recorderCfg.minSeverity ≤ a.sev ∨ a.sev = 7 → a.sev < 8 →
       s.fld Fld.EVR_NEXT_SEQ < 2 ^ 48 - 1 → s.bit Fld.EVR_STATUS.FROZEN = true → 64 ≤ s.evr.sideQ.length →
       Does .eventRecord s (fun t => t.evr = { s.evr with arrivals := r } ∧
         t.fld (Fld.EVR_DROP.at a.sev) = min (s.fld (Fld.EVR_DROP.at a.sev) + 1) (2 ^ Fld.EVR_DROP.width - 1) ∧ t.fld Fld.EVR_NEXT_SEQ = s.fld Fld.EVR_NEXT_SEQ)) ∧
  (∀ (s : State) (a : EvArrival) (r : List EvArrival), s.evr.arrivals = a :: r → s.recorderCfg.minSeverity ≤ a.sev ∨ a.sev = 7 → a.sev < 8 →
       s.fld Fld.EVR_NEXT_SEQ < 2 ^ 48 - 1 → s.bit Fld.EVR_STATUS.FROZEN = false → s.evr.second = s.now / sec → 10000 ≤ s.evr.secondCount →
       Does .eventRecord s (fun t => t.evr = { s.evr with arrivals := r } ∧
         t.fld (Fld.EVR_DROP.at a.sev) = min (s.fld (Fld.EVR_DROP.at a.sev) + 1) (2 ^ Fld.EVR_DROP.width - 1) ∧ t.fld Fld.EVR_NEXT_SEQ = s.fld Fld.EVR_NEXT_SEQ)) ∧
  (∀ (s : State) (a : EvArrival) (r : List EvArrival) (i : Nat) (p : EvPage), s.evr.arrivals = a :: r → s.recorderCfg.minSeverity ≤ a.sev ∨ a.sev = 7 →
       s.fld Fld.EVR_NEXT_SEQ < 2 ^ 48 - 1 → s.bit Fld.EVR_STATUS.FROZEN = false → s.evr.second ≠ s.now / sec →
       s.evr.pages.find? (fun p => p.2.isOpen) = some (i, p) → p.takes a = true →
       Does .eventRecord s (fun t => tget t.evr.pages i = some (p.add ⟨s.fld Fld.EVR_NEXT_SEQ, a⟩) ∧ t.evr.arrivals = r ∧
         t.evr.second = s.now / sec ∧ t.evr.secondCount = 1 ∧ t.fld Fld.EVR_NEXT_SEQ = s.fld Fld.EVR_NEXT_SEQ + 1)) ∧
  (∀ (s : State) (a : EvArrival) (r : List EvArrival) (i : Nat), s.evr.arrivals = a :: r → s.recorderCfg.minSeverity ≤ a.sev ∨ a.sev = 7 →
       s.fld Fld.EVR_NEXT_SEQ < 2 ^ 48 - 1 → s.bit Fld.EVR_STATUS.FROZEN = false → s.evr.second = s.now / sec → s.evr.secondCount < 10000 →
       s.evr.pages.find? (fun p => p.2.isOpen) = none → firstFree (s.evr.pages.map (·.1)) 1 1023 = some i →
       Does .eventRecord s (fun t => tget t.evr.pages i = some (openPage ⟨s.fld Fld.EVR_NEXT_SEQ, a⟩) ∧ t.evr.secondCount = s.evr.secondCount + 1 ∧
         t.fld Fld.EVR_NEXT_SEQ = s.fld Fld.EVR_NEXT_SEQ + 1)) ∧
  (∀ (s : State) (a : EvArrival) (r : List EvArrival) (i j : Nat) (p : EvPage), s.evr.arrivals = a :: r → s.recorderCfg.minSeverity ≤ a.sev ∨ a.sev = 7 →
       s.fld Fld.EVR_NEXT_SEQ < 2 ^ 48 - 1 → s.bit Fld.EVR_STATUS.FROZEN = false → s.evr.second = s.now / sec → s.evr.secondCount < 10000 →
       s.evr.pages.find? (fun p => p.2.isOpen) = some (j, p) → p.takes a = false →
       firstFree ((tput s.evr.pages j { p with isOpen := false }).map (·.1)) 1 1023 = some i →
       Does .eventRecord s (fun t => t.evr.pages = tput (tput s.evr.pages j { p with isOpen := false }) i (openPage ⟨s.fld Fld.EVR_NEXT_SEQ, a⟩) ∧
         t.fld Fld.EVR_NEXT_SEQ = s.fld Fld.EVR_NEXT_SEQ + 1)) ∧
  (∀ (s : State) (a : EvArrival) (r : List EvArrival), s.evr.arrivals = a :: r → s.recorderCfg.minSeverity ≤ a.sev ∨ a.sev = 7 → a.sev < 8 →
       s.fld Fld.EVR_NEXT_SEQ < 2 ^ 48 - 1 → s.bit Fld.EVR_STATUS.FROZEN = false → s.evr.second = s.now / sec → s.evr.secondCount < 10000 →
       s.evr.pages.find? (fun p => p.2.isOpen) = none → firstFree (s.evr.pages.map (·.1)) 1 1023 = none →
       s.bit Fld.EVR_STATUS.MODE = false ∨ reclaimable s.evr.pages a.sev = none →
       Does .eventRecord s (fun t => t.evr.pages = s.evr.pages ∧ t.bit Fld.EVR_STATUS.FULL = true ∧ t.fld Fld.EVR_NEXT_SEQ = s.fld Fld.EVR_NEXT_SEQ ∧
         t.fld (Fld.EVR_DROP.at a.sev) = min (s.fld (Fld.EVR_DROP.at a.sev) + 1) (2 ^ Fld.EVR_DROP.width - 1))) ∧
  (∀ (s : State) (a : EvArrival) (r : List EvArrival) (i : Nat) (p : EvPage), s.evr.arrivals = a :: r → s.recorderCfg.minSeverity ≤ a.sev ∨ a.sev = 7 →
       s.fld Fld.EVR_NEXT_SEQ < 2 ^ 48 - 1 → s.bit Fld.EVR_STATUS.FROZEN = false → s.evr.second = s.now / sec → s.evr.secondCount < 10000 →
       s.evr.pages.find? (fun p => p.2.isOpen) = none → firstFree (s.evr.pages.map (·.1)) 1 1023 = none →
       s.bit Fld.EVR_STATUS.MODE = true → reclaimable s.evr.pages a.sev = some (i, p) →
       Does .eventRecord s (fun t => t.evr.pages = tput s.evr.pages i (openPage ⟨s.fld Fld.EVR_NEXT_SEQ, a⟩) ∧
         t.fld Fld.EVR_OVERWRITTEN = (s.fld Fld.EVR_OVERWRITTEN + p.recs.length) % 2 ^ Fld.EVR_OVERWRITTEN.width ∧
         t.fld Fld.EVR_NEXT_SEQ = s.fld Fld.EVR_NEXT_SEQ + 1)) ∧
  (∀ (s : State) (iface : Iface), s.fld Fld.EVR_STATUS.FREEZE_OWNER ≠ ifaceOwner iface →
       Does (.eventUnfreeze iface) s (fun t => t.fld Fld.EVR_CMD_STATUS.ERROR = 2 ∧ t.evr = s.evr)) ∧
  (∀ s : State, s.bit Fld.EVR_STATUS.FROZEN = false → Does .freezeTimeout s (fun t => t = s)) ∧
  (∀ s : State, s.bit Fld.EVR_STATUS.LOCKOUT = false → s.pool = 0 →
       Does .eventChallenge s (fun t => t.fld Fld.EVR_CMD_STATUS.ERROR = 3 ∧ t.evr = s.evr)) ∧
  (∀ (s : State) (iface : Iface), s.frozenByOther iface = true →
       Does (.eventClear iface) s (fun t => t.fld Fld.EVR_CMD_STATUS.ERROR = 1 ∧ t.evr = s.evr)) ∧
  (∀ (s : State) (iface : Iface), s.tokenOk 9 0 (s.fld Fld.EVR_AUTH) = true →
       Does (.eventAuthSet iface) s (fun t => t.evr.authKey = some (s.fld Fld.EVR_AUTH_KEY) ∧ t.evr.chal = none ∧ t.evr.failures = 0 ∧
         t.fld Fld.EVR_CMD_STATUS.ERROR = 0 ∧ t.fld Fld.EVR_AUTH_KEY = 0)) ∧
  (∀ (s : State) (t0 : Nat), s.evr.spNowAt = some t0 → t0 + 60 * sec ≤ s.now →
       Does .soundpostNow s (fun t => t.fld Fld.SP_LAST_SEQ = (s.fld Fld.SP_LAST_SEQ + 1) % 2 ^ 64 ∧ t.fld Fld.EVR_CMD_STATUS.ERROR = 0 ∧
         t.evr.spNowAt = some s.now)) ∧
  (∀ s : State, s.evr.spVaultDue = [] ∨ s.bit Fld.VLT_STATUS.DUMPING = true ∨ s.bit Fld.VLT_STATUS.PRESENT = false →
       Does .soundpostVaultCopy s (fun t => t = s)) ∧
  (∀ s : State, s.evr.spFlashDue = [] → Does .soundpostFlashCopy s (fun t => t = s)) ∧
  (∀ (s : State) (p : Soundpost) (r : List Soundpost), s.evr.spFlashDue = p :: r → s.evr.spVaultDue.any (fun q => q.seq = p.seq) = true →
       s.bit Fld.VLT_STATUS.PRESENT = true → Does .soundpostFlashCopy s (fun t => t = s)) ∧
  (∀ (s : State) (p : Soundpost) (r : List Soundpost), s.evr.spFlashDue = p :: r →
       s.evr.spVaultDue.any (fun q => q.seq = p.seq) = false ∨ s.bit Fld.VLT_STATUS.PRESENT = false →
       Does .soundpostFlashCopy s (fun t => tget t.evr.spFlash (p.seq % 4) = some p ∧ t.evr.spFlashDue = r))

/-- Recoverable errors are stacked and handled; fatal errors stop the fast domains; restarts. Rests on R445, R447, R446, R450, R451, R453. For
every state and operands that meet the clause's conditions, the command answers a next state of which the clause says: a new error goes on
the stack with its depth, a repeated one is counted in its entry, and a fifth raises fatal cause 1; the end of the newest handler pops it
and counts a recovery; a handler timeout raises cause 2; a fatal error during another is counted and shown; one during a dump closes the
gate, sets CSTS.CFS, drops DMA and lets the dump go on; cause 8 resets the fast domains; FATAL_RESTART and ERR_RESTART boot again where a
boot is allowed. Readings: log 36. A fatal error of cause 1 to 7 dumps first where the mains stand, dirty state is there and an area is
ready, and otherwise resets the fast domains at once; a late eMRAM write whose handler failed raises cause 6; a restart that no boot is
allowed for clears what it clears and boots nothing; what is not due leaves the state (log 8). -/
def Obligations.ErrorsAreStackedAndHandled : Prop :=
  (∀ (s : State) (e : RecErr) (source : Nat), s.err.stack.length < 4 →
       s.err.stack.any (fun x => recCode x.err == recCode e && x.source == source && x.fatal.isNone) = false →
       Does (.recoverableError e source) s (fun t => t.err.raised = s.err.raised ∧
         ∃ x, t.err.stack = s.err.stack ++ [x] ∧ x.err = e ∧ x.source = source ∧ x.depth = s.err.stack.length + 1)) ∧
  (∀ (s : State) (e : RecErr) (source : Nat), 4 ≤ s.err.stack.length →
       s.err.stack.any (fun x => recCode x.err == recCode e && x.source == source && x.fatal.isNone) = false →
       Does (.recoverableError e source) s (fun t => t.err.stack = s.err.stack ∧ t.err.raised = s.err.raised ++ [1])) ∧
  (∀ (s : State) (e : RecErr) (source : Nat), s.err.stack.any (fun x => recCode x.err == recCode e && x.source == source && x.fatal.isNone) = true →
       Does (.recoverableError e source) s (fun t => t.err.stack.length = s.err.stack.length ∧ t.err.raised = s.err.raised ∧ t.regs = s.regs)) ∧
  (∀ (s : State) (l : List StackEntry) (x : StackEntry) (ok : Bool), s.err.stack = l ++ [x] → s.err.active = none → (recCode x.err ≠ 3 ∨ ok = true) →
       Does (.handlerEnd l.length ok) s (fun t => t.err.stack = l ∧ t.fld Fld.ERR_RECOVERED = (s.fld Fld.ERR_RECOVERED + 1) % 2 ^ 64)) ∧
  (∀ (s : State) (index : Nat), index < s.err.stack.length → Does (.handlerTimeout index) s (fun t => t.err.raised = s.err.raised ++ [2] ∧ t.regs = s.regs)) ∧
  (∀ (s : State) (cause : Nat), 1 ≤ cause → cause ≤ 8 → s.err.active.isSome = true →
       Does (.fatalError cause) s (fun t => t.fld Fld.ERR_FATAL_COUNT = min (s.fld Fld.ERR_FATAL_COUNT + 1) (2 ^ 32 - 1) ∧
         t.fld Fld.ERR_STATUS.LAST_CAUSE = cause ∧ t.err.active = s.err.active ∧ t.pwr = s.pwr)) ∧
  (∀ (s : State) (cause : Nat), 1 ≤ cause → cause ≤ 7 → s.err.active = none → s.wc.dumpArea.isSome = true →
       Does (.fatalError cause) s (fun t => t.err.active = some cause ∧ t.wc.dumpWhy = some .fatal ∧ t.bit Fld.CAPO_STATUS.GATE_OPEN = false ∧
         t.fld Fld.ERR_STATUS.LAST_CAUSE = cause ∧ (∀ p, p ∈ t.hfe.fns → p.2.cfs = true) ∧ (∀ n, n < 256 → tget t.dma.runs n = none) ∧ t.wc.dumpArea = s.wc.dumpArea)) ∧
  (∀ s : State, s.err.active = none → Does (.fatalError 8) s (fun t => t.pwr.fast = .inReset ∧ t.bit Fld.PWR_RESET_INFO.FATAL = true ∧
       t.fld Fld.ERR_STATUS.LAST_CAUSE = 8)) ∧
  (∀ s : State, s.err.active.isSome = true → s.pwr.fast = .inReset → ({ s with err := { s.err with active := none } } : State).canBoot = true →
       Does .fatalRestart s (fun t => t.err.active = none ∧ t.pwr.fast = .booting ∧ t.bit Fld.PWR_STATE.BOOTING = true)) ∧
  (∀ s : State, s.Takes Fld.ERR_CMD.CMD.addr → s.bit Fld.ERR_STATUS.FATAL_HOLD = true → (s.setBit Fld.ERR_STATUS.FATAL_HOLD false).canBoot = true →
       Does .errRestart s (fun t => t.bit Fld.ERR_STATUS.FATAL_HOLD = false ∧ t.pwr.fast = .booting)) ∧
  (∀ s : State, s.Takes Fld.ERR_CMD.CMD.addr → s.bit Fld.ERR_STATUS.FATAL_HOLD = false → Does .errRestart s (fun t => t = s)) ∧
  (∀ (s : State) (index : Nat) (ok : Bool), s.err.stack.length ≤ index ∨ index + 1 ≠ s.err.stack.length ∨ s.err.active.isSome = true →
       Does (.handlerEnd index ok) s (fun t => t = s)) ∧
  (∀ (s : State) (l : List StackEntry) (x : StackEntry), s.err.stack = l ++ [x] → s.err.active = none → x.err = .emramLate →
       Does (.handlerEnd l.length false) s (fun t => t.err.raised = s.err.raised ++ [6] ∧ t.err.stack = s.err.stack ∧ t.regs = s.regs)) ∧
  (∀ (s : State) (index : Nat), s.err.stack.length ≤ index → Does (.handlerTimeout index) s (fun t => t = s)) ∧
  (∀ (s : State) (cause : Nat), cause = 0 ∨ 8 < cause → Does (.fatalError cause) s (fun t => t = s)) ∧
  (∀ (s : State) (cause : Nat), 1 ≤ cause → cause ≤ 7 → s.err.active = none → s.wc.dumpArea = none → s.acFail = true →
       Does (.fatalError cause) s (fun t => t.pwr.fast = .inReset ∧ t.bit Fld.PWR_RESET_INFO.FATAL = true ∧
         t.fld Fld.ERR_STATUS.LAST_CAUSE = cause ∧ t.wc.dumpArea = none)) ∧
  (∀ (s : State) (cause : Nat), 1 ≤ cause → cause ≤ 7 → s.err.active = none → s.wc.dumpArea = none → s.bit Fld.HFE_STATUS.REPLAY_PENDING = true →
       Does (.fatalError cause) s (fun t => t.pwr.fast = .inReset ∧ t.bit Fld.PWR_RESET_INFO.FATAL = true ∧
         t.fld Fld.ERR_STATUS.LAST_CAUSE = cause ∧ t.wc.dumpArea = none)) ∧
  (∀ (s : State) (cause : Nat), 1 ≤ cause → cause ≤ 7 → s.err.active = none → s.wc.dumpArea = none → s.acFail = false → s.areaReady.isSome = true →
       s.wc.updates ≠ [] → s.bit Fld.HFE_STATUS.REPLAY_PENDING = false →
       Does (.fatalError cause) s (fun t => t.err.active = some cause ∧ t.wc.dumpWhy = some .fatal ∧ t.wc.dumpArea.isSome = true ∧
         t.fld Fld.VLT_DUMP_SEQ = (s.fld Fld.VLT_DUMP_SEQ + 1) % 2 ^ Fld.VLT_DUMP_SEQ.width ∧ t.fld Fld.ERR_STATUS.LAST_CAUSE = cause)) ∧
  (∀ s : State, s.err.active = none ∨ s.pwr.fast ≠ .inReset → Does .fatalRestart s (fun t => t = s)) ∧
  (∀ s : State, s.err.active.isSome = true → s.pwr.fast = .inReset → ({ s with err := { s.err with active := none } } : State).canBoot = false →
       Does .fatalRestart s (fun t => t.err.active = none ∧ t.pwr = s.pwr ∧ t.regs = s.regs)) ∧
  (∀ s : State, s.Takes Fld.ERR_CMD.CMD.addr → s.bit Fld.ERR_STATUS.FATAL_HOLD = true → (s.setBit Fld.ERR_STATUS.FATAL_HOLD false).canBoot = false →
       Does .errRestart s (fun t => t.bit Fld.ERR_STATUS.FATAL_HOLD = false ∧ t.pwr = s.pwr)) ∧
  (∀ (s : State) (cause : Nat), 1 ≤ cause → cause ≤ 7 → s.err.active = none → s.wc.dumpArea = none → s.areaReady = none →
       Does (.fatalError cause) s (fun t => t.pwr.fast = .inReset ∧ t.bit Fld.PWR_RESET_INFO.FATAL = true ∧ t.fld Fld.ERR_STATUS.LAST_CAUSE = cause)) ∧
  (∀ (s : State) (cause : Nat), 1 ≤ cause → cause ≤ 7 → s.err.active = none → s.wc.dumpArea = none → s.dumpNeeded = false →
       Does (.fatalError cause) s (fun t => t.pwr.fast = .inReset ∧ t.bit Fld.PWR_RESET_INFO.FATAL = true ∧ t.fld Fld.ERR_STATUS.LAST_CAUSE = cause))

/-- Entries to and exits from Rest and Silence, wakes, counters saved, aging and the eMRAM refresh. Rests on R427, R430, R428, R29, R141, R463,
R490, R491, R474. For every state and operands that meet the clause's conditions, the command answers a next state of which the clause says:
a quiet device on its way enters Rest (retained, cache and HBM kept) or Silence (gated, lines gone), or a reversed entry returns to the last
operational state; a wake begins the exit or reverses an entry; the exit completes with the PLLs locked; a host link's L1.2 exit wakes; an
idle device with APST on begins the entry that its APST table names for the state it is in; the counters since manufacture are saved; aging
accumulates with a free factor (log 4), the ring oscillators' slowdown sets the steps; eMRAM is refreshed. Readings: log 24. A system reset
that waited acts at the quiesce point or the exit's end; a device that is not quiet goes on emptying its bow buffers on the way to Silence;
a wake during a mains failure, a disabled host port, an APST entry that is not allowed and an unpowered Fingerboard leave the state as it
was (log 8). -/
def Obligations.PowerStatesAndAgingTakeEffect : Prop :=
  (∀ s : State, s.fld Fld.PWR_STATE.STATE = 4 → s.quiet = true → s.pwr.sysPending = false → s.pwr.reversing = false → s.fld Fld.PWR_STATE.TARGET = 2 →
       s.pwr.waits = [] → Does .quiescePoint s (fun t => t.fld Fld.PWR_STATE.STATE = 2 ∧ t.pwr.fast = .retained ∧ t.fld Fld.PWR_STATE.TARGET = 0 ∧
         t.sc.hbm = s.sc.hbm ∧ t.wc.lines = s.wc.lines)) ∧
  (∀ s : State, s.fld Fld.PWR_STATE.STATE = 4 → s.drainBows.quiet = true → s.pwr.sysPending = false → s.pwr.reversing = false →
       s.fld Fld.PWR_STATE.TARGET = 3 → s.pwr.waits = [] → Does .quiescePoint s (fun t => t.fld Fld.PWR_STATE.STATE = 3 ∧ t.pwr.fast = .gated ∧ t.sc.lines = [])) ∧
  (∀ s : State, s.fld Fld.PWR_STATE.STATE = 4 → s.quiet = true → s.pwr.sysPending = false → s.pwr.reversing = true → s.pwr.lastOp ≤ 1 →
       s.pwr.waits = [] → Does .quiescePoint s (fun t => t.fld Fld.PWR_STATE.STATE = s.pwr.lastOp ∧ t.pwr.fast = s.pwr.fast ∧ t.pwr.reversing = false)) ∧
  (∀ s : State, s.pwr.fast = .retained → s.fld Fld.PWR_STATE.STATE = 2 → s.acFail = false →
       Does .wake s (fun t => t.fld Fld.PWR_STATE.STATE = 5 ∧ t.fld Fld.PWR_STATE.TARGET = 2)) ∧
  (∀ s : State, s.fld Fld.PWR_STATE.STATE = 4 → s.acFail = false → Does .wake s (fun t => t.pwr.reversing = true ∧ t.regs = s.regs)) ∧
  (∀ s : State, s.fld Fld.PWR_STATE.STATE = 5 → s.fastLocked = true → s.pwr.railsOk = true → s.pwr.sysPending = false → s.pwr.waits = [] → s.pwr.lastOp ≤ 1 →
       Does .exitComplete s (fun t => t.fld Fld.PWR_STATE.STATE = s.pwr.lastOp ∧ t.pwr.fast = .running ∧ t.capo.renewAt = s.now)) ∧
  (∀ (s : State) (hp : HostPort), execHostLinkL12Exit.hostPortEnabled s hp = true → s.pwr.fast = .gated → s.fld Fld.PWR_STATE.STATE = 3 → s.acFail = false →
       Does (.hostLinkL12Exit hp) s (fun t => t.fld Fld.PWR_STATE.STATE = 5 ∧ t.fld Fld.PWR_STATE.TARGET = 3)) ∧
  (∀ (s : State) (fn : FnIdx) (e : Nat × Nat), s.apstEntry fn = e → e.2 ≠ 0 → e.1 = 2 ∨ e.1 = 3 → (tget (s.fn fn).feats 0x0C).getD 0 % 2 = 1 → s.fld Fld.PWR_STATE.STATE ≤ 1 → s.pwr.psRun = none → s.pwr.fast = .running →
       s.bit Fld.PWR_STATE.BOOTING = false → s.acFail = false → s.entryAllowed = true →
       Does (.apstTransition fn) s (fun t => t.fld Fld.PWR_STATE.STATE = 4 ∧ t.fld Fld.PWR_STATE.TARGET = e.1 ∧
         t.pwr.holds.contains .powerEntry = true)) ∧
  (∀ s : State, Does .agingWriteback s (fun t => t.age.saved = madeFields.foldl (fun x f => tput x f.key (s.fld f)) [] ∧ t.regs = s.regs)) ∧
  (∀ (s : State) (us : Nat), s.fingerboardOn = true → us = s.age.micro + Config.agingFactorPpm s.tjDeci (s.fld Fld.PWR_AVS.STEP) →
       Does .ageAccumulate s (fun t => t.fld Fld.AGE_EQUIV_S = (s.fld Fld.AGE_EQUIV_S + us / 1000000) % 2 ^ 64 ∧ t.age.micro = us % 1000000)) ∧
  (∀ (s : State) (slow : Nat), s.bit Fld.AGE_STATUS.MARGIN_OUT = false →
       Does (.roMeasure slow) s (fun t => t.fld Fld.AGE_RO_SLOW.SLOW_X100 = slow % 65536 ∧ t.fld Fld.AGE_AVS_STEPS.AGING = min 31 (slow / 50) ∧
         t.bit Fld.AGE_STATUS.MARGIN_OUT = decide (16 ≤ slow / 50))) ∧
  (∀ s : State, Does .emramRefresh s (fun t => t.age.refreshed = s.now ∧ t.regs = s.regs)) ∧
  (∀ s : State, s.fld Fld.PWR_STATE.STATE ≠ 4 → Does .quiescePoint s (fun t => t = s)) ∧
  (∀ s : State, s.fld Fld.PWR_STATE.STATE = 4 → s.drainBows.quiet = false → Does .quiescePoint s (fun t => t = s.drainBows)) ∧
  (∀ s : State, s.fld Fld.PWR_STATE.STATE = 4 → s.drainBows.quiet = true → s.drainBows.pwr.sysPending = true → s.bit Fld.HFE_STATUS.REPLAY_PENDING = true →
       Does .quiescePoint s (fun t => t.pwr.fast = .inReset ∧ t.bit Fld.PWR_RESET_INFO.SYS_PIN = true ∧ t.fld Fld.PWR_STATE.STATE = 0)) ∧
  (∀ s : State, s.fld Fld.PWR_STATE.STATE = 5 → s.fastLocked = true → s.pwr.railsOk = true → s.pwr.sysPending = true → s.pwr.waits = [] →
       s.bit Fld.HFE_STATUS.REPLAY_PENDING = true →
       Does .exitComplete s (fun t => t.pwr.fast = .inReset ∧ t.bit Fld.PWR_RESET_INFO.SYS_PIN = true ∧ t.fld Fld.PWR_STATE.STATE = 0)) ∧
  (∀ s : State, s.fld Fld.PWR_STATE.STATE ≠ 5 ∨ s.fastLocked = false ∨ s.pwr.railsOk = false → Does .exitComplete s (fun t => t = s)) ∧
  (∀ s : State, s.pwr.fast = .gated → s.fld Fld.PWR_STATE.STATE = 3 → s.acFail = false →
       Does .wake s (fun t => t.fld Fld.PWR_STATE.STATE = 5 ∧ t.fld Fld.PWR_STATE.TARGET = 3)) ∧
  (∀ s : State, s.acFail = true ∨ (s.fld Fld.PWR_STATE.STATE ≠ 4 ∧ s.fld Fld.PWR_STATE.STATE ≠ 2 ∧ s.fld Fld.PWR_STATE.STATE ≠ 3) →
       Does .wake s (fun t => t = s)) ∧
  (∀ s : State, s.fld Fld.PWR_STATE.STATE ≠ 4 → s.pwr.fast ≠ .retained → s.pwr.fast ≠ .gated → Does .wake s (fun t => t = s)) ∧
  (∀ (s : State) (hp : HostPort), execHostLinkL12Exit.hostPortEnabled s hp = false → Does (.hostLinkL12Exit hp) s (fun t => t = s)) ∧
  (∀ (s : State) (hp : HostPort), execHostLinkL12Exit.hostPortEnabled s hp = true → s.pwr.fast = .retained → s.fld Fld.PWR_STATE.STATE = 2 → s.acFail = false →
       Does (.hostLinkL12Exit hp) s (fun t => t.fld Fld.PWR_STATE.STATE = 5 ∧ t.fld Fld.PWR_STATE.TARGET = 2)) ∧
  (∀ (s : State) (hp : HostPort), execHostLinkL12Exit.hostPortEnabled s hp = true → s.fld Fld.PWR_STATE.STATE = 4 → s.acFail = false →
       Does (.hostLinkL12Exit hp) s (fun t => t.pwr.reversing = true ∧ t.regs = s.regs)) ∧
  (∀ (s : State) (hp : HostPort), s.acFail = true ∨ (s.fld Fld.PWR_STATE.STATE ≠ 4 ∧ s.fld Fld.PWR_STATE.STATE ≠ 2 ∧ s.fld Fld.PWR_STATE.STATE ≠ 3) →
       Does (.hostLinkL12Exit hp) s (fun t => t = s)) ∧
  (∀ (s : State) (fn : FnIdx), (s.apstEntry fn).2 = 0 ∨ (s.apstEntry fn).1 < 2 ∨ 3 < (s.apstEntry fn).1 ∨
         (tget (s.fn fn).feats 0x0C).getD 0 % 2 ≠ 1 ∨ 1 < s.fld Fld.PWR_STATE.STATE ∨ s.pwr.psRun.isSome = true ∨ s.pwr.fast ≠ .running ∨
         s.bit Fld.PWR_STATE.BOOTING = true ∨ s.acFail = true ∨ s.entryAllowed = false →
       Does (.apstTransition fn) s (fun t => t = s)) ∧
  (∀ s : State, s.fingerboardOn = false → Does .ageAccumulate s (fun t => t = s)) ∧
  (∀ (s : State) (slow : Nat), s.bit Fld.AGE_STATUS.MARGIN_OUT = true →
       Does (.roMeasure slow) s (fun t => t.fld Fld.AGE_RO_SLOW.SLOW_X100 = slow % 65536 ∧ t.fld Fld.AGE_AVS_STEPS.AGING = min 31 (slow / 50) ∧
         t.bit Fld.AGE_STATUS.MARGIN_OUT = true ∧ t.evr = s.evr))
end

