-- ==== Sys2Proof/Laws/Only.lean ====
section
/-!
SUPPORT. Laws/Only.lean: the relation "only these parts of the state changed", with what composes it: the shared operations' lemmas and the
frames of the commands are said in it.
-/
namespace Sys2Proof.Machine

/-- A command's outcome is a next state in which nothing outside a list of parts changed. -/
def OnlyOut (l : List Part) (s : State) (o : Out State) : Prop := ∃ t, o = .next t ∧ Only l s t

theorem Part.same_refl (p : Part) (s : State) : p.same s s := by cases p <;> rfl

theorem Part.same_trans {p : Part} {s t u : State} (h : p.same s t) (k : p.same t u) : p.same s u := by
  cases p <;> simp only [Part.same] at * <;> exact k.trans h

theorem Only.refl {l : List Part} {s : State} : Only l s s := fun p _ => p.same_refl s

theorem Only.step {l m : List Part} {s t u : State} (k : Only m t u) (hm : m.all (fun p => l.contains p) = true) (h : Only l s t) :
    Only l s u := by
  intro p hp
  refine Part.same_trans (h p hp) (k p ?_)
  by_contra hc
  have hc : m.contains p = true := by simpa using hc
  rw [List.all_eq_true] at hm
  have := hm p (by simpa using hc)
  rw [hp] at this
  exact absurd this (by decide)

theorem Only.ite {l : List Part} {s a b : State} {c : Prop} {_ : Decidable c} (ha : Only l s a) (hb : Only l s b) :
    Only l s (if c then a else b) := by split <;> assumption

theorem Only.foldl {α : Type} {l : List Part} {s a : State} {f : State → α → State} {xs : List α}
    (hf : ∀ b x, Only l s b → Only l s (f b x)) (h : Only l s a) : Only l s (xs.foldl f a) := by
  induction xs generalizing a with
  | nil => exact h
  | cons x xs ih => exact ih (hf a x h)

theorem Only.foldlFst {α β : Type} {l : List Part} {s : State} {a : State × β} {f : State × β → α → State × β} {xs : List α}
    (hf : ∀ b x, Only l s b.1 → Only l s (f b x).1) (h : Only l s a.1) : Only l s (xs.foldl f a).1 := by
  induction xs generalizing a with
  | nil => exact h
  | cons x xs ih => exact ih (hf a x h)

theorem Only.foldlSnd {α β : Type} {l : List Part} {s : State} {a : β × State} {f : β × State → α → β × State} {xs : List α}
    (hf : ∀ b x, Only l s b.2 → Only l s (f b x).2) (h : Only l s a.2) : Only l s (xs.foldl f a).2 := by
  induction xs generalizing a with
  | nil => exact h
  | cons x xs ih => exact ih (hf a x h)

theorem Only.update {l : List Part} {s : State} (a : State) (t : State) (h : ∀ p : Part, l.contains p = false → p.same a t)
    (k : Only l s a) : Only l s t := fun p hp => Part.same_trans (k p hp) (h p hp)

theorem Only.ofFst {β : Type} {m : List Part} {a t : State} {p : State × β} {o : β} (k : Only m a p.1) (h : p = (t, o)) : Only m a t := by
  rw [h] at k; exact k

theorem Only.ofSnd {β : Type} {m : List Part} {a t : State} {p : β × State} {o : β} (k : Only m a p.2) (h : p = (o, t)) : Only m a t := by
  rw [h] at k; exact k

theorem OnlyOut.next {l : List Part} {s t : State} (h : Only l s t) : OnlyOut l s (.next t) := ⟨t, rfl, h⟩

theorem Only.mono {l m : List Part} {s t : State} (k : Only m s t) (hm : m.all (fun p => l.contains p) = true) : Only l s t :=
  Only.step k hm Only.refl

theorem OnlyOut.mono {l m : List Part} {s : State} {o : Out State} (k : OnlyOut m s o) (hm : m.all (fun p => l.contains p) = true) :
    OnlyOut l s o := by
  obtain ⟨t, h, g⟩ := k
  exact ⟨t, h, g.mono hm⟩

theorem OnlyOut.ite {l : List Part} {s : State} {a b : Out State} {c : Prop} {_ : Decidable c} (ha : OnlyOut l s a) (hb : OnlyOut l s b) :
    OnlyOut l s (if c then a else b) := by split <;> assumption

/-- The relation at a state given by its fields. -/
def OnlyMk (l : List Part) (s : State) (x0 : List Instr) (x1 : Nat) (x2 : Nat) (x3 : Tbl Nat) (x4 : Tbl Nat) (x5 : Tbl Nat) (x6 : Nat) (x7 : List Nat) (x8 : Pwr) (x9 : Evr) (x10 : Err) (x11 : Img) (x12 : Cal) (x13 : MapSt) (x14 : Hfe) (x15 : Lat) (x16 : Wc) (x17 : Vault) (x18 : Rbe) (x19 : Sc) (x20 : Dma) (x21 : Cip) (x22 : Tbl PortSt) (x23 : Capo) (x24 : Fed) (x25 : Nrg) (x26 : Therm) (x27 : Tbl Fan) (x28 : Age) : Prop :=
  Only l s ⟨x0, x1, x2, x3, x4, x5, x6, x7, x8, x9, x10, x11, x12, x13, x14, x15, x16, x17, x18, x19, x20, x21, x22, x23, x24, x25, x26, x27, x28⟩

theorem Only.mk_form (l : List Part) (s : State) (x0 : List Instr) (x1 : Nat) (x2 : Nat) (x3 : Tbl Nat) (x4 : Tbl Nat) (x5 : Tbl Nat) (x6 : Nat) (x7 : List Nat) (x8 : Pwr) (x9 : Evr) (x10 : Err) (x11 : Img) (x12 : Cal) (x13 : MapSt) (x14 : Hfe) (x15 : Lat) (x16 : Wc) (x17 : Vault) (x18 : Rbe) (x19 : Sc) (x20 : Dma) (x21 : Cip) (x22 : Tbl PortSt) (x23 : Capo) (x24 : Fed) (x25 : Nrg) (x26 : Therm) (x27 : Tbl Fan) (x28 : Age) :
    Only l s (State.mk x0 x1 x2 x3 x4 x5 x6 x7 x8 x9 x10 x11 x12 x13 x14 x15 x16 x17 x18 x19 x20 x21 x22 x23 x24 x25 x26 x27 x28) = OnlyMk l s x0 x1 x2 x3 x4 x5 x6 x7 x8 x9 x10 x11 x12 x13 x14 x15 x16 x17 x18 x19 x20 x21 x22 x23 x24 x25 x26 x27 x28 := rfl

theorem OnlyMk.intro {l : List Part} {s : State} {a : State} {x0 : List Instr} {x1 : Nat} {x2 : Nat} {x3 : Tbl Nat} {x4 : Tbl Nat} {x5 : Tbl Nat} {x6 : Nat} {x7 : List Nat} {x8 : Pwr} {x9 : Evr} {x10 : Err} {x11 : Img} {x12 : Cal} {x13 : MapSt} {x14 : Hfe} {x15 : Lat} {x16 : Wc} {x17 : Vault} {x18 : Rbe} {x19 : Sc} {x20 : Dma} {x21 : Cip} {x22 : Tbl PortSt} {x23 : Capo} {x24 : Fed} {x25 : Nrg} {x26 : Therm} {x27 : Tbl Fan} {x28 : Age}
    (h : Only l s a) (h0 : l.contains .pending = true ∨ x0 = a.pending) (h1 : l.contains .now = true ∨ x1 = a.now) (h2 : l.contains .freeIx = true ∨ x2 = a.freeIx) (h3 : l.contains .regs = true ∨ x3 = a.regs) (h4 : l.contains .latches = true ∨ x4 = a.latches) (h5 : l.contains .heldLo = true ∨ x5 = a.heldLo) (h6 : l.contains .lastSmb = true ∨ x6 = a.lastSmb) (h7 : l.contains .answer = true ∨ x7 = a.answer) (h8 : l.contains .pwr = true ∨ x8 = a.pwr) (h9 : l.contains .evr = true ∨ x9 = a.evr) (h10 : l.contains .err = true ∨ x10 = a.err) (h11 : l.contains .img = true ∨ x11 = a.img) (h12 : l.contains .cal = true ∨ x12 = a.cal) (h13 : l.contains .map = true ∨ x13 = a.map) (h14 : l.contains .hfe = true ∨ x14 = a.hfe) (h15 : l.contains .lat = true ∨ x15 = a.lat) (h16 : l.contains .wc = true ∨ x16 = a.wc) (h17 : l.contains .vault = true ∨ x17 = a.vault) (h18 : l.contains .rbe = true ∨ x18 = a.rbe) (h19 : l.contains .sc = true ∨ x19 = a.sc) (h20 : l.contains .dma = true ∨ x20 = a.dma) (h21 : l.contains .cip = true ∨ x21 = a.cip) (h22 : l.contains .ports = true ∨ x22 = a.ports) (h23 : l.contains .capo = true ∨ x23 = a.capo) (h24 : l.contains .fed = true ∨ x24 = a.fed) (h25 : l.contains .nrg = true ∨ x25 = a.nrg) (h26 : l.contains .therm = true ∨ x26 = a.therm) (h27 : l.contains .fans = true ∨ x27 = a.fans) (h28 : l.contains .age = true ∨ x28 = a.age) : OnlyMk l s x0 x1 x2 x3 x4 x5 x6 x7 x8 x9 x10 x11 x12 x13 x14 x15 x16 x17 x18 x19 x20 x21 x22 x23 x24 x25 x26 x27 x28 := by
  intro p hp
  refine Part.same_trans (h p hp) ?_
  cases p
  · exact h0.resolve_left (by rw [hp]; decide)
  · exact h1.resolve_left (by rw [hp]; decide)
  · exact h2.resolve_left (by rw [hp]; decide)
  · exact h3.resolve_left (by rw [hp]; decide)
  · exact h4.resolve_left (by rw [hp]; decide)
  · exact h5.resolve_left (by rw [hp]; decide)
  · exact h6.resolve_left (by rw [hp]; decide)
  · exact h7.resolve_left (by rw [hp]; decide)
  · exact h8.resolve_left (by rw [hp]; decide)
  · exact h9.resolve_left (by rw [hp]; decide)
  · exact h10.resolve_left (by rw [hp]; decide)
  · exact h11.resolve_left (by rw [hp]; decide)
  · exact h12.resolve_left (by rw [hp]; decide)
  · exact h13.resolve_left (by rw [hp]; decide)
  · exact h14.resolve_left (by rw [hp]; decide)
  · exact h15.resolve_left (by rw [hp]; decide)
  · exact h16.resolve_left (by rw [hp]; decide)
  · exact h17.resolve_left (by rw [hp]; decide)
  · exact h18.resolve_left (by rw [hp]; decide)
  · exact h19.resolve_left (by rw [hp]; decide)
  · exact h20.resolve_left (by rw [hp]; decide)
  · exact h21.resolve_left (by rw [hp]; decide)
  · exact h22.resolve_left (by rw [hp]; decide)
  · exact h23.resolve_left (by rw [hp]; decide)
  · exact h24.resolve_left (by rw [hp]; decide)
  · exact h25.resolve_left (by rw [hp]; decide)
  · exact h26.resolve_left (by rw [hp]; decide)
  · exact h27.resolve_left (by rw [hp]; decide)
  · exact h28.resolve_left (by rw [hp]; decide)

theorem OnlyOut.command {l : List Part} {s a : State} {addr : Nat} {run : State → Out State}
    (hl : l.contains .regs = true ∧ l.contains .freeIx = true ∧ l.contains .evr = true)
    (h : Only l s a) (k : OnlyOut l s (run a)) : OnlyOut l s (a.command addr run) := by
  unfold State.command
  have hr : ∀ p : Part, l.contains p = false → p ≠ .regs ∧ p ≠ .freeIx ∧ p ≠ .evr := by
    intro p hp
    refine ⟨?_, ?_, ?_⟩ <;> rintro rfl <;> simp_all
  dsimp only
  split
  · refine OnlyOut.next (Only.update a _ ?_ h)
    intro p hp
    have := hr p hp
    cases p <;> first | rfl | simp_all
  · split
    · refine OnlyOut.next (Only.update a _ ?_ h)
      intro p hp
      have := hr p hp
      cases p <;> first | rfl | simp_all
    · exact k

end Sys2Proof.Machine
end

