-- ==== Sys2Proof/Laws/OnlyLow.lean ====
section
/-!
SUPPORT. Laws/OnlyLow.lean: for each operation of Ops, Arrays, Media, HostOps, Members, PortOps, WcOps, IoOps, CipOps, NrgOps, UpdOps, ImgOps, FanOps, ScOps, DmaOps, RegView, EvrOps, Updates, CapoOps (in Machine/),
the parts of the state that it may change.
-/
set_option linter.unreachableTactic false
set_option linter.unusedTactic false
namespace Sys2Proof.Machine

/-! ### Machine/Ops.lean -/

theorem only_State_setFld (s : State) (f : Field) (v : Nat) : Only [.regs] s (State.setFld s f v) := by
  unfold State.setFld
  try dsimp only
  repeat' first
    | exact (rfl : (_ : Bool) = _)
    | exact Or.inl (by decide)
    | with_reducible exact Or.inr rfl
    | with_reducible exact Only.refl
    | (dsimp only [Only.mk_form]; with_reducible apply OnlyMk.intro (h0 := .inr rfl))

theorem only_State_setBit (s : State) (f : Field) (b : Bool) : Only [.regs] s (State.setBit s f b) := by
  unfold State.setBit
  try dsimp only
  repeat' first
    | exact (rfl : (_ : Bool) = _)
    | with_reducible exact Only.refl
    | with_reducible refine Only.ite ?_ ?_
    | with_reducible apply Only.step (only_State_setFld ..)
    | split
    | refine Only.ite ?_ ?_

theorem only_State_incFld (s : State) (f : Field) (n : Nat) : Only [.regs] s (State.incFld s f n) := by
  unfold State.incFld
  try dsimp only
  repeat' first
    | exact (rfl : (_ : Bool) = _)
    | with_reducible exact Only.refl
    | with_reducible apply Only.step (only_State_setFld ..)

theorem only_State_satFld (s : State) (f : Field) (n : Nat) : Only [.regs] s (State.satFld s f n) := by
  unfold State.satFld
  try dsimp only
  repeat' first
    | exact (rfl : (_ : Bool) = _)
    | with_reducible exact Only.refl
    | with_reducible apply Only.step (only_State_setFld ..)

theorem only_State_maxFld (s : State) (f : Field) (n : Nat) : Only [.regs] s (State.maxFld s f n) := by
  unfold State.maxFld
  try dsimp only
  repeat' first
    | exact (rfl : (_ : Bool) = _)
    | with_reducible exact Only.refl
    | with_reducible apply Only.step (only_State_setFld ..)

theorem only_State_slewStep (s : State) : Only [.regs, .fed] s (State.slewStep s) := by
  unfold State.slewStep
  try dsimp only
  repeat' first
    | exact (rfl : (_ : Bool) = _)
    | exact Or.inl (by decide)
    | with_reducible exact Or.inr rfl
    | with_reducible exact Only.refl
    | with_reducible refine Only.ite ?_ ?_
    | with_reducible apply Only.step (only_State_setFld ..)
    | (dsimp only [Only.mk_form]; with_reducible apply OnlyMk.intro (h0 := .inr rfl))
    | split
    | refine Only.ite ?_ ?_

theorem only_State_tick (s : State) : Only [.now, .regs, .fed] s (State.tick s) := by
  unfold State.tick
  try dsimp only
  repeat' first
    | exact (rfl : (_ : Bool) = _)
    | exact Or.inl (by decide)
    | with_reducible exact Or.inr rfl
    | with_reducible exact Only.refl
    | with_reducible refine Only.ite ?_ ?_
    | with_reducible apply Only.step (only_State_setFld ..)
    | with_reducible apply Only.step (only_State_slewStep ..)
    | (dsimp only [Only.mk_form]; with_reducible apply OnlyMk.intro (h0 := .inr rfl))
    | split
    | refine Only.ite ?_ ?_

theorem only_State_used (s : State) : Only [.freeIx] s (State.used s) := by
  unfold State.used
  try dsimp only
  repeat' first
    | exact (rfl : (_ : Bool) = _)
    | exact Or.inl (by decide)
    | with_reducible exact Or.inr rfl
    | with_reducible exact Only.refl
    | (dsimp only [Only.mk_form]; with_reducible apply OnlyMk.intro (h0 := .inr rfl))

theorem only_State_emitAt (s : State) (e : Ev) (sev : Nat) (payload : List Nat) : Only [.evr] s (State.emitAt s e sev payload) := by
  unfold State.emitAt
  try dsimp only
  repeat' first
    | exact (rfl : (_ : Bool) = _)
    | exact Or.inl (by decide)
    | with_reducible exact Or.inr rfl
    | with_reducible exact Only.refl
    | (dsimp only [Only.mk_form]; with_reducible apply OnlyMk.intro (h0 := .inr rfl))

theorem only_State_emit (s : State) (e : Ev) (payload : List Nat) : Only [.evr] s (State.emit s e payload) := by
  unfold State.emit
  try dsimp only
  repeat' first
    | exact (rfl : (_ : Bool) = _)
    | with_reducible exact Only.refl
    | with_reducible apply Only.step (only_State_emitAt ..)

theorem only_State_raiseFatal (s : State) (cause : Nat) : Only [.err] s (State.raiseFatal s cause) := by
  unfold State.raiseFatal
  try dsimp only
  repeat' first
    | exact (rfl : (_ : Bool) = _)
    | exact Or.inl (by decide)
    | with_reducible exact Or.inr rfl
    | with_reducible exact Only.refl
    | (dsimp only [Only.mk_form]; with_reducible apply OnlyMk.intro (h0 := .inr rfl))

theorem only_State_hold (s : State) (h : FetchHold) : Only [.pwr] s (State.hold s h) := by
  unfold State.hold
  try dsimp only
  repeat' first
    | exact (rfl : (_ : Bool) = _)
    | exact Or.inl (by decide)
    | with_reducible exact Or.inr rfl
    | with_reducible exact Only.refl
    | with_reducible refine Only.ite ?_ ?_
    | (dsimp only [Only.mk_form]; with_reducible apply OnlyMk.intro (h0 := .inr rfl))
    | split
    | refine Only.ite ?_ ?_

theorem only_State_unhold (s : State) (h : FetchHold) : Only [.pwr] s (State.unhold s h) := by
  unfold State.unhold
  try dsimp only
  repeat' first
    | exact (rfl : (_ : Bool) = _)
    | exact Or.inl (by decide)
    | with_reducible exact Or.inr rfl
    | with_reducible exact Only.refl
    | (dsimp only [Only.mk_form]; with_reducible apply OnlyMk.intro (h0 := .inr rfl))

theorem only_State_busError (s : State) (i : Iface) (reason addr : Nat) : Only [.regs] s (State.busError s i reason addr) := by
  unfold State.busError
  try dsimp only
  repeat' first
    | exact (rfl : (_ : Bool) = _)
    | with_reducible exact Only.refl
    | with_reducible apply Only.step (only_State_setBit ..)
    | with_reducible apply Only.step (only_State_setFld ..)

theorem only_State_mirror (s : State) (i : MirrorItem) : Only [.regs, .capo] s (State.mirror s i) := by
  unfold State.mirror
  try dsimp only
  repeat' first
    | exact (rfl : (_ : Bool) = _)
    | exact Or.inl (by decide)
    | with_reducible exact Or.inr rfl
    | with_reducible exact Only.refl
    | with_reducible refine Only.ite ?_ ?_
    | with_reducible apply Only.step (only_State_incFld ..)
    | (dsimp only [Only.mk_form]; with_reducible apply OnlyMk.intro (h0 := .inr rfl))
    | split
    | refine Only.ite ?_ ?_

theorem only_State_tokenChecked (s : State) (op : Nat) (iface : Nat) (ok : Bool) : Only [.regs, .evr] s (State.tokenChecked s op iface ok) := by
  unfold State.tokenChecked
  try dsimp only
  repeat' first
    | exact (rfl : (_ : Bool) = _)
    | exact Or.inl (by decide)
    | with_reducible exact Or.inr rfl
    | with_reducible exact Only.refl
    | with_reducible refine Only.ite ?_ ?_
    | with_reducible apply Only.step (only_State_emit ..)
    | with_reducible apply Only.step (only_State_setBit ..)
    | with_reducible apply Only.step (only_State_setFld ..)
    | (dsimp only [Only.mk_form]; with_reducible apply OnlyMk.intro (h0 := .inr rfl))
    | split
    | refine Only.ite ?_ ?_


/-! ### Machine/Arrays.lean -/

theorem only_State_putArr (s : State) (a : ArrayId) (r : Arr) : Only [.rbe] s (State.putArr s a r) := by
  unfold State.putArr
  try dsimp only
  repeat' first
    | exact (rfl : (_ : Bool) = _)
    | exact Or.inl (by decide)
    | with_reducible exact Or.inr rfl
    | with_reducible exact Only.refl
    | (dsimp only [Only.mk_form]; with_reducible apply OnlyMk.intro (h0 := .inr rfl))


/-! ### Machine/Media.lean -/

theorem only_State_putMedia (s : State) (port : PortId) (m : Media) : Only [.rbe] s (State.putMedia s port m) := by
  unfold State.putMedia
  try dsimp only
  repeat' first
    | exact (rfl : (_ : Bool) = _)
    | exact Or.inl (by decide)
    | with_reducible exact Or.inr rfl
    | with_reducible exact Only.refl
    | (dsimp only [Only.mk_form]; with_reducible apply OnlyMk.intro (h0 := .inr rfl))

theorem only_State_writeRaw (s : State) (r : Arr) (g : Geom) (stripe unit row : Nat) (p : Pos) (full : Blob) (gen : Nat) (lost empty : Bool) : Only [.rbe] s (State.writeRaw s r g stripe unit row p full gen lost empty) := by
  unfold State.writeRaw
  try dsimp only
  repeat' first
    | exact (rfl : (_ : Bool) = _)
    | exact Or.inl (by decide)
    | with_reducible exact Or.inr rfl
    | with_reducible exact Only.refl
    | with_reducible assumption
    | with_reducible refine Only.ite ?_ ?_
    | with_reducible apply Only.step (only_State_putMedia ..)
    | (dsimp only [Only.mk_form]; with_reducible apply OnlyMk.intro (h0 := .inr rfl))
    | split
    | dsimp only
    | refine Only.ite ?_ ?_

theorem only_State_recoverGroup (s : State) (r : Arr) (g : Geom) (m : Nat) (port : PortId) (group : Nat) : Only [.rbe] s (State.recoverGroup s r g m port group) := by
  unfold State.recoverGroup
  try dsimp only
  repeat' first
    | exact (rfl : (_ : Bool) = _)
    | exact Or.inl (by decide)
    | with_reducible exact Or.inr rfl
    | with_reducible exact Only.refl
    | with_reducible assumption
    | with_reducible refine Only.ite ?_ ?_
    | with_reducible apply Only.step (only_State_putMedia ..)
    | with_reducible apply Only.step (only_State_writeRaw ..)
    | with_reducible refine Only.foldl (fun _ _ _ => ?_) ?_
    | with_reducible refine Only.foldlFst (fun _ _ _ => ?_) ?_
    | with_reducible refine Only.foldlSnd (fun _ _ _ => ?_) ?_
    | (dsimp only [Only.mk_form]; with_reducible apply OnlyMk.intro (h0 := .inr rfl))
    | split
    | dsimp only
    | refine Only.ite ?_ ?_

theorem only_State_writeSec (s : State) (r : Arr) (g : Geom) (stripe unit row : Nat) (p : Pos) (full : Blob) (gen : Nat) (lost empty : Bool) : Only [.rbe] s (State.writeSec s r g stripe unit row p full gen lost empty) := by
  unfold State.writeSec
  try dsimp only
  repeat' first
    | exact (rfl : (_ : Bool) = _)
    | exact Or.inl (by decide)
    | with_reducible exact Or.inr rfl
    | with_reducible exact Only.refl
    | with_reducible assumption
    | with_reducible refine Only.ite ?_ ?_
    | with_reducible apply Only.step (only_State_recoverGroup ..)
    | with_reducible apply Only.step (only_State_writeRaw ..)
    | (dsimp only [Only.mk_form]; with_reducible apply OnlyMk.intro (h0 := .inr rfl))
    | split
    | refine Only.ite ?_ ?_

theorem only_State_writeData (s : State) (r : Arr) (g : Geom) (stripe unit row : Nat) (c : CSec) (gen : Nat) : Only [.rbe] s (State.writeData s r g stripe unit row c gen) := by
  unfold State.writeData
  try dsimp only
  repeat' first
    | exact (rfl : (_ : Bool) = _)
    | exact Or.inl (by decide)
    | with_reducible exact Or.inr rfl
    | with_reducible exact Only.refl
    | with_reducible assumption
    | with_reducible apply Only.step (only_State_writeSec ..)
    | (dsimp only [Only.mk_form]; with_reducible apply OnlyMk.intro (h0 := .inr rfl))
    | split

theorem only_State_writeParity (s : State) (r : Arr) (g : Geom) (stripe unit row : Nat) (full : Blob) (gen : Nat) (rowEmpty : Bool) : Only [.rbe] s (State.writeParity s r g stripe unit row full gen rowEmpty) := by
  unfold State.writeParity
  try dsimp only
  repeat' first
    | exact (rfl : (_ : Bool) = _)
    | exact Or.inl (by decide)
    | with_reducible exact Or.inr rfl
    | with_reducible exact Only.refl
    | with_reducible assumption
    | with_reducible apply Only.step (only_State_writeSec ..)
    | (dsimp only [Only.mk_form]; with_reducible apply OnlyMk.intro (h0 := .inr rfl))
    | split

theorem only_State_writeSolved (s : State) (r : Arr) (g : Geom) (stripe unit row : Nat) (p : Pos) (fs : List Blob) (us : List (Option USec)) : Only [.rbe] s (State.writeSolved s r g stripe unit row p fs us) := by
  unfold State.writeSolved
  try dsimp only
  repeat' first
    | exact (rfl : (_ : Bool) = _)
    | with_reducible exact Only.refl
    | with_reducible refine Only.ite ?_ ?_
    | with_reducible apply Only.step (only_State_writeSec ..)
    | split
    | refine Only.ite ?_ ?_

theorem only_State_countMediaErr (s : State) (a : ArrayId) (m : Nat) : Only [.rbe] s (State.countMediaErr s a m) := by
  unfold State.countMediaErr
  try dsimp only
  repeat' first
    | exact (rfl : (_ : Bool) = _)
    | exact Or.inl (by decide)
    | with_reducible exact Or.inr rfl
    | with_reducible exact Only.refl
    | with_reducible assumption
    | with_reducible refine Only.ite ?_ ?_
    | with_reducible apply Only.step (only_State_putArr ..)
    | (dsimp only [Only.mk_form]; with_reducible apply OnlyMk.intro (h0 := .inr rfl))
    | split
    | refine Only.ite ?_ ?_

theorem only_State_countErasures (s : State) (a : ArrayId) (r : Arr) (row : Nat) (reads : List SecRead) : Only [.rbe] s (State.countErasures s a r row reads) := by
  unfold State.countErasures
  try dsimp only
  repeat' first
    | exact (rfl : (_ : Bool) = _)
    | exact Or.inl (by decide)
    | with_reducible exact Or.inr rfl
    | with_reducible exact Only.refl
    | with_reducible assumption
    | with_reducible refine Only.ite ?_ ?_
    | with_reducible apply Only.step (only_State_countMediaErr ..)
    | with_reducible refine Only.foldl (fun _ _ _ => ?_) ?_
    | (dsimp only [Only.mk_form]; with_reducible apply OnlyMk.intro (h0 := .inr rfl))
    | split
    | refine Only.ite ?_ ?_

theorem only_State_repairRow (s : State) (a : ArrayId) (r : Arr) (g : Geom) (stripe row : Nat) (reads : List SecRead) (fs : List Blob) : Only [.regs, .rbe] s (State.repairRow s a r g stripe row reads fs) := by
  unfold State.repairRow
  try dsimp only
  repeat' first
    | exact (rfl : (_ : Bool) = _)
    | exact Or.inl (by decide)
    | with_reducible exact Or.inr rfl
    | with_reducible exact Only.refl
    | with_reducible assumption
    | with_reducible apply Only.step (only_State_incFld ..)
    | with_reducible apply Only.step (only_State_writeSolved ..)
    | with_reducible refine Only.foldl (fun _ _ _ => ?_) ?_
    | (dsimp only [Only.mk_form]; with_reducible apply OnlyMk.intro (h0 := .inr rfl))
    | split

theorem only_State_retag (s : State) (r : Arr) (keep : MSec → Bool) : Only [.rbe] s (State.retag s r keep) := by
  unfold State.retag
  try dsimp only
  repeat' first
    | exact (rfl : (_ : Bool) = _)
    | exact Or.inl (by decide)
    | with_reducible exact Or.inr rfl
    | with_reducible exact Only.refl
    | with_reducible assumption
    | with_reducible apply Only.step (only_State_putMedia ..)
    | with_reducible refine Only.foldl (fun _ _ _ => ?_) ?_
    | with_reducible refine Only.foldlFst (fun _ _ _ => ?_) ?_
    | with_reducible refine Only.foldlSnd (fun _ _ _ => ?_) ?_
    | (dsimp only [Only.mk_form]; with_reducible apply OnlyMk.intro (h0 := .inr rfl))
    | split
    | dsimp only


/-! ### Machine/HostOps.lean -/

theorem only_State_putFn (s : State) (f : FnIdx) (x : FnSt) : Only [.hfe] s (State.putFn s f x) := by
  unfold State.putFn
  try dsimp only
  repeat' first
    | exact (rfl : (_ : Bool) = _)
    | exact Or.inl (by decide)
    | with_reducible exact Or.inr rfl
    | with_reducible exact Only.refl
    | (dsimp only [Only.mk_form]; with_reducible apply OnlyMk.intro (h0 := .inr rfl))

theorem only_State_takeTag (s : State) (i : Nat) : Only [.hfe] s (State.takeTag s i) := by
  unfold State.takeTag
  try dsimp only
  repeat' first
    | exact (rfl : (_ : Bool) = _)
    | exact Or.inl (by decide)
    | with_reducible exact Or.inr rfl
    | with_reducible exact Only.refl
    | with_reducible refine Only.ite ?_ ?_
    | (dsimp only [Only.mk_form]; with_reducible apply OnlyMk.intro (h0 := .inr rfl))
    | split
    | dsimp only
    | refine Only.ite ?_ ?_

theorem only_State_freeTag (s : State) (i : Nat) (busy : Bool) : Only [.hfe] s (State.freeTag s i busy) := by
  unfold State.freeTag
  try dsimp only
  repeat' first
    | exact (rfl : (_ : Bool) = _)
    | exact Or.inl (by decide)
    | with_reducible exact Or.inr rfl
    | with_reducible exact Only.refl
    | with_reducible refine Only.ite ?_ ?_
    | (dsimp only [Only.mk_form]; with_reducible apply OnlyMk.intro (h0 := .inr rfl))
    | split
    | refine Only.ite ?_ ?_

theorem only_State_putCmd (s : State) (c : HostCmd) : Only [.hfe] s (State.putCmd s c) := by
  unfold State.putCmd
  try dsimp only
  repeat' first
    | exact (rfl : (_ : Bool) = _)
    | exact Or.inl (by decide)
    | with_reducible exact Or.inr rfl
    | with_reducible exact Only.refl
    | with_reducible refine Only.ite ?_ ?_
    | (dsimp only [Only.mk_form]; with_reducible apply OnlyMk.intro (h0 := .inr rfl))
    | split
    | refine Only.ite ?_ ?_

theorem only_State_logError (s : State) (f : FnIdx) (st : Status) : Only [.hfe] s (State.logError s f st) := by
  unfold State.logError
  try dsimp only
  repeat' first
    | exact (rfl : (_ : Bool) = _)
    | exact Or.inl (by decide)
    | with_reducible exact Or.inr rfl
    | with_reducible exact Only.refl
    | with_reducible refine Only.ite ?_ ?_
    | with_reducible apply Only.step (only_State_putFn ..)
    | (dsimp only [Only.mk_form]; with_reducible apply OnlyMk.intro (h0 := .inr rfl))
    | split
    | refine Only.ite ?_ ?_

theorem only_State_collect (s : State) (c : HostCmd) (st : Status) (data : List Blob) : Only [.regs, .hfe] s (State.collect s c st data) := by
  unfold State.collect
  try dsimp only
  repeat' first
    | exact (rfl : (_ : Bool) = _)
    | exact Or.inl (by decide)
    | with_reducible exact Or.inr rfl
    | with_reducible exact Only.refl
    | with_reducible assumption
    | with_reducible refine Only.ite ?_ ?_
    | with_reducible apply Only.step (only_State_logError ..)
    | with_reducible apply Only.step (only_State_maxFld ..)
    | with_reducible apply Only.step (only_State_putCmd ..)
    | (dsimp only [Only.mk_form]; with_reducible apply OnlyMk.intro (h0 := .inr rfl))
    | split
    | dsimp only
    | refine Only.ite ?_ ?_

theorem only_State_postEntry (s : State) (e : Cqe) (coalesce : Bool) : Only [.hfe] s (State.postEntry s e coalesce) := by
  unfold State.postEntry
  try dsimp only
  repeat' first
    | exact (rfl : (_ : Bool) = _)
    | exact Or.inl (by decide)
    | with_reducible exact Or.inr rfl
    | with_reducible exact Only.refl
    | with_reducible assumption
    | with_reducible refine Only.ite ?_ ?_
    | (dsimp only [Only.mk_form]; with_reducible apply OnlyMk.intro (h0 := .inr rfl))
    | split
    | dsimp only
    | refine Only.ite ?_ ?_

theorem only_State_adminDone (s : State) (f : FnIdx) (cid : Nat) (st : Status) (dw0 : Nat) (data : List Nat) : Only [.hfe] s (State.adminDone s f cid st dw0 data) := by
  unfold State.adminDone
  try dsimp only
  repeat' first
    | exact (rfl : (_ : Bool) = _)
    | exact Or.inl (by decide)
    | with_reducible exact Or.inr rfl
    | with_reducible exact Only.refl
    | with_reducible assumption
    | with_reducible refine Only.ite ?_ ?_
    | with_reducible apply Only.step (only_State_logError ..)
    | with_reducible apply Only.step (only_State_postEntry ..)
    | (dsimp only [Only.mk_form]; with_reducible apply OnlyMk.intro (h0 := .inr rfl))
    | split
    | refine Only.ite ?_ ?_

theorem only_State_releaseCmd (s : State) (tag : Nat) (busy : Bool) : Only [.hfe] s (State.releaseCmd s tag busy) := by
  unfold State.releaseCmd
  try dsimp only
  repeat' first
    | exact (rfl : (_ : Bool) = _)
    | exact Or.inl (by decide)
    | with_reducible exact Or.inr rfl
    | with_reducible exact Only.refl
    | with_reducible apply Only.step (only_State_freeTag ..)
    | (dsimp only [Only.mk_form]; with_reducible apply OnlyMk.intro (h0 := .inr rfl))
    | dsimp only

theorem only_State_histCount (s : State) (measure cls ns : Nat) : Only [.lat] s (State.histCount s measure cls ns) := by
  unfold State.histCount
  try dsimp only
  repeat' first
    | exact (rfl : (_ : Bool) = _)
    | exact Or.inl (by decide)
    | with_reducible exact Or.inr rfl
    | with_reducible exact Only.refl
    | with_reducible refine Only.ite ?_ ?_
    | (dsimp only [Only.mk_form]; with_reducible apply OnlyMk.intro (h0 := .inr rfl))
    | split
    | refine Only.ite ?_ ?_

theorem only_State_flagNs (s : State) (nsid : Nat) : Only [.hfe] s (State.flagNs s nsid) := by
  unfold State.flagNs
  try dsimp only
  repeat' first
    | exact (rfl : (_ : Bool) = _)
    | exact Or.inl (by decide)
    | with_reducible exact Or.inr rfl
    | with_reducible exact Only.refl
    | with_reducible assumption
    | with_reducible refine Only.ite ?_ ?_
    | with_reducible apply Only.step (only_State_adminDone ..)
    | with_reducible apply Only.step (only_State_putFn ..)
    | with_reducible refine Only.foldl (fun _ _ _ => ?_) ?_
    | (dsimp only [Only.mk_form]; with_reducible apply OnlyMk.intro (h0 := .inr rfl))
    | split
    | refine Only.ite ?_ ?_

theorem only_State_smartWarn (s : State) (info : Nat) : Only [.hfe] s (State.smartWarn s info) := by
  unfold State.smartWarn
  try dsimp only
  repeat' first
    | exact (rfl : (_ : Bool) = _)
    | exact Or.inl (by decide)
    | with_reducible exact Or.inr rfl
    | with_reducible exact Only.refl
    | with_reducible assumption
    | with_reducible apply Only.step (only_State_adminDone ..)
    | with_reducible apply Only.step (only_State_putFn ..)
    | with_reducible refine Only.foldl (fun _ _ _ => ?_) ?_
    | (dsimp only [Only.mk_form]; with_reducible apply OnlyMk.intro (h0 := .inr rfl))
    | split

theorem only_State_deferError (s : State) (nsid cause slba nlb : Nat) : Only [.regs, .evr, .hfe, .capo] s (State.deferError s nsid cause slba nlb) := by
  unfold State.deferError
  try dsimp only
  repeat' first
    | exact (rfl : (_ : Bool) = _)
    | exact Or.inl (by decide)
    | with_reducible exact Or.inr rfl
    | with_reducible exact Only.refl
    | with_reducible assumption
    | with_reducible refine Only.ite ?_ ?_
    | with_reducible apply Only.step (only_State_emit ..)
    | with_reducible apply Only.step (only_State_flagNs ..)
    | with_reducible apply Only.step (only_State_mirror ..)
    | with_reducible apply Only.step (only_State_setBit ..)
    | with_reducible apply Only.step (only_State_setFld ..)
    | with_reducible refine Only.foldl (fun _ _ _ => ?_) ?_
    | (dsimp only [Only.mk_form]; with_reducible apply OnlyMk.intro (h0 := .inr rfl))
    | split
    | refine Only.ite ?_ ?_


/-! ### Machine/Members.lean -/

theorem only_State_putPort (s : State) (p : PortId) (x : PortSt) : Only [.ports] s (State.putPort s p x) := by
  unfold State.putPort
  try dsimp only
  repeat' first
    | exact (rfl : (_ : Bool) = _)
    | exact Or.inl (by decide)
    | with_reducible exact Or.inr rfl
    | with_reducible exact Only.refl
    | (dsimp only [Only.mk_form]; with_reducible apply OnlyMk.intro (h0 := .inr rfl))

theorem only_State_startKat (s : State) : Only [.regs, .rbe] s (State.startKat s) := by
  unfold State.startKat
  try dsimp only
  repeat' first
    | exact (rfl : (_ : Bool) = _)
    | exact Or.inl (by decide)
    | with_reducible exact Or.inr rfl
    | with_reducible exact Only.refl
    | with_reducible assumption
    | with_reducible refine Only.ite ?_ ?_
    | with_reducible apply Only.step (only_State_setBit ..)
    | with_reducible apply Only.step (only_State_setFld ..)
    | (dsimp only [Only.mk_form]; with_reducible apply OnlyMk.intro (h0 := .inr rfl))
    | split
    | refine Only.ite ?_ ?_

theorem only_State_listLost (s : State) (f : LostEntry) : Only [.regs, .rbe] s (State.listLost s f) := by
  unfold State.listLost
  try dsimp only
  repeat' first
    | exact (rfl : (_ : Bool) = _)
    | exact Or.inl (by decide)
    | with_reducible exact Or.inr rfl
    | with_reducible exact Only.refl
    | with_reducible assumption
    | with_reducible refine Only.ite ?_ ?_
    | with_reducible apply Only.step (only_State_setBit ..)
    | with_reducible apply Only.step (only_State_setFld ..)
    | (dsimp only [Only.mk_form]; with_reducible apply OnlyMk.intro (h0 := .inr rfl))
    | split
    | refine Only.ite ?_ ?_

theorem only_State_lostCleared (s : State) (a : ArrayId) (epoch stripe row unit : Nat) : Only [.regs, .rbe] s (State.lostCleared s a epoch stripe row unit) := by
  unfold State.lostCleared
  try dsimp only
  repeat' first
    | exact (rfl : (_ : Bool) = _)
    | exact Or.inl (by decide)
    | with_reducible exact Or.inr rfl
    | with_reducible exact Only.refl
    | with_reducible assumption
    | with_reducible refine Only.ite ?_ ?_
    | with_reducible apply Only.step (only_State_setBit ..)
    | with_reducible apply Only.step (only_State_setFld ..)
    | with_reducible refine Only.foldl (fun _ _ _ => ?_) ?_
    | (dsimp only [Only.mk_form]; with_reducible apply OnlyMk.intro (h0 := .inr rfl))
    | split
    | refine Only.ite ?_ ?_

theorem only_State_reportLost (s : State) (a : ArrayId) (lba : Nat) : Only [.regs, .evr, .hfe, .capo] s (State.reportLost s a lba) := by
  unfold State.reportLost
  try dsimp only
  repeat' first
    | exact (rfl : (_ : Bool) = _)
    | exact Or.inl (by decide)
    | with_reducible exact Or.inr rfl
    | with_reducible exact Only.refl
    | with_reducible assumption
    | with_reducible refine Only.ite ?_ ?_
    | with_reducible apply Only.step (only_State_deferError ..)
    | (dsimp only [Only.mk_form]; with_reducible apply OnlyMk.intro (h0 := .inr rfl))
    | split
    | dsimp only
    | refine Only.ite ?_ ?_

theorem only_State_fretMark (s : State) (bits : List Nat) : Only [.regs, .wc, .capo] s (State.fretMark s bits) := by
  unfold State.fretMark
  try dsimp only
  repeat' first
    | exact (rfl : (_ : Bool) = _)
    | exact Or.inl (by decide)
    | with_reducible exact Or.inr rfl
    | with_reducible exact Only.refl
    | with_reducible assumption
    | with_reducible refine Only.ite ?_ ?_
    | with_reducible apply Only.step (only_State_mirror ..)
    | with_reducible refine Only.foldl (fun _ _ _ => ?_) ?_
    | (dsimp only [Only.mk_form]; with_reducible apply OnlyMk.intro (h0 := .inr rfl))
    | split
    | dsimp only
    | refine Only.ite ?_ ?_

theorem only_State_loseRow (s : State) (a : ArrayId) (r : Arr) (g : Geom) (stripe row : Nat) (us : List (Option USec)) (cause : Nat) : Only [.regs, .evr, .hfe, .wc, .rbe, .capo] s (State.loseRow s a r g stripe row us cause) := by
  unfold State.loseRow
  try dsimp only
  repeat' first
    | exact (rfl : (_ : Bool) = _)
    | exact Or.inl (by decide)
    | with_reducible exact Or.inr rfl
    | with_reducible exact Only.refl
    | with_reducible assumption
    | with_reducible apply Only.step (only_State_fretMark ..)
    | with_reducible apply Only.step (only_State_listLost ..)
    | with_reducible apply Only.step (only_State_mirror ..)
    | with_reducible apply Only.step (only_State_reportLost ..)
    | with_reducible apply Only.step (only_State_writeData ..)
    | with_reducible apply Only.step (only_State_writeParity ..)
    | with_reducible refine Only.foldl (fun _ _ _ => ?_) ?_
    | (dsimp only [Only.mk_form]; with_reducible apply OnlyMk.intro (h0 := .inr rfl))
    | split
    | dsimp only

theorem only_State_reportNamespaces (s : State) (a : ArrayId) (cause : Nat) : Only [.regs, .evr, .hfe, .capo] s (State.reportNamespaces s a cause) := by
  unfold State.reportNamespaces
  try dsimp only
  repeat' first
    | exact (rfl : (_ : Bool) = _)
    | exact Or.inl (by decide)
    | with_reducible exact Or.inr rfl
    | with_reducible exact Only.refl
    | with_reducible assumption
    | with_reducible apply Only.step (only_State_deferError ..)
    | with_reducible refine Only.foldl (fun _ _ _ => ?_) ?_
    | (dsimp only [Only.mk_form]; with_reducible apply OnlyMk.intro (h0 := .inr rfl))
    | split

theorem only_State_thirdMissing (s : State) (a : ArrayId) : Only [.regs, .evr, .hfe, .rbe, .capo] s (State.thirdMissing s a) := by
  unfold State.thirdMissing
  try dsimp only
  repeat' first
    | exact (rfl : (_ : Bool) = _)
    | exact Or.inl (by decide)
    | with_reducible exact Or.inr rfl
    | with_reducible exact Only.refl
    | with_reducible assumption
    | with_reducible refine Only.ite ?_ ?_
    | with_reducible apply Only.step (only_State_listLost ..)
    | with_reducible apply Only.step (only_State_reportNamespaces ..)
    | with_reducible refine Only.foldl (fun _ _ _ => ?_) ?_
    | (dsimp only [Only.mk_form]; with_reducible apply OnlyMk.intro (h0 := .inr rfl))
    | split
    | refine Only.ite ?_ ?_

theorem only_State_thirdBack (s : State) (a : ArrayId) : Only [.regs, .rbe] s (State.thirdBack s a) := by
  unfold State.thirdBack
  try dsimp only
  repeat' first
    | exact (rfl : (_ : Bool) = _)
    | exact Or.inl (by decide)
    | with_reducible exact Or.inr rfl
    | with_reducible exact Only.refl
    | with_reducible assumption
    | with_reducible refine Only.ite ?_ ?_
    | with_reducible apply Only.step (only_State_setFld ..)
    | (dsimp only [Only.mk_form]; with_reducible apply OnlyMk.intro (h0 := .inr rfl))
    | split
    | refine Only.ite ?_ ?_

theorem only_State_enqueue (s : State) (p : PortId) (c : MCmd) : Only [.ports] s (State.enqueue s p c) := by
  unfold State.enqueue
  try dsimp only
  repeat' first
    | exact (rfl : (_ : Bool) = _)
    | exact Or.inl (by decide)
    | with_reducible exact Or.inr rfl
    | with_reducible exact Only.refl
    | with_reducible apply Only.step (only_State_putPort ..)
    | (dsimp only [Only.mk_form]; with_reducible apply OnlyMk.intro (h0 := .inr rfl))

theorem only_State_updCmd (s : State) (u : Update) (r : Arr) (kind : McKind) (unit : Nat) (p : Pos) (rows : List Nat) : Only [.ports] s (State.updCmd s u r kind unit p rows) := by
  unfold State.updCmd
  try dsimp only
  repeat' first
    | exact (rfl : (_ : Bool) = _)
    | exact Or.inl (by decide)
    | with_reducible exact Or.inr rfl
    | with_reducible exact Only.refl
    | with_reducible assumption
    | with_reducible apply Only.step (only_State_enqueue ..)
    | (dsimp only [Only.mk_form]; with_reducible apply OnlyMk.intro (h0 := .inr rfl))
    | split

theorem only_State_updReads (s : State) (u : Update) (r : Arr) (g : Geom) : Only [.ports] s (State.updReads s u r g) := by
  unfold State.updReads
  try dsimp only
  repeat' first
    | exact (rfl : (_ : Bool) = _)
    | exact Or.inl (by decide)
    | with_reducible exact Or.inr rfl
    | with_reducible exact Only.refl
    | with_reducible assumption
    | with_reducible apply Only.step (only_State_updCmd ..)
    | with_reducible refine Only.foldl (fun _ _ _ => ?_) ?_
    | (dsimp only [Only.mk_form]; with_reducible apply OnlyMk.intro (h0 := .inr rfl))
    | split

theorem only_State_updWrites (s : State) (u : Update) (r : Arr) (g : Geom) (plan : List (Nat × List Nat)) : Only [.ports] s (State.updWrites s u r g plan) := by
  unfold State.updWrites
  try dsimp only
  repeat' first
    | exact (rfl : (_ : Bool) = _)
    | exact Or.inl (by decide)
    | with_reducible exact Or.inr rfl
    | with_reducible exact Only.refl
    | with_reducible assumption
    | with_reducible apply Only.step (only_State_updCmd ..)
    | with_reducible refine Only.foldl (fun _ _ _ => ?_) ?_
    | with_reducible refine Only.foldlFst (fun _ _ _ => ?_) ?_
    | with_reducible refine Only.foldlSnd (fun _ _ _ => ?_) ?_
    | (dsimp only [Only.mk_form]; with_reducible apply OnlyMk.intro (h0 := .inr rfl))
    | split
    | dsimp only

theorem only_State_rechoose (s : State) (a : ArrayId) : Only [.wc, .ports] s (State.rechoose s a) := by
  unfold State.rechoose
  try dsimp only
  repeat' first
    | exact (rfl : (_ : Bool) = _)
    | exact Or.inl (by decide)
    | with_reducible exact Or.inr rfl
    | with_reducible exact Only.refl
    | with_reducible assumption
    | with_reducible refine Only.ite ?_ ?_
    | with_reducible apply Only.step (only_State_updReads ..)
    | with_reducible refine Only.foldl (fun _ _ _ => ?_) ?_
    | with_reducible refine Only.foldlFst (fun _ _ _ => ?_) ?_
    | with_reducible refine Only.foldlSnd (fun _ _ _ => ?_) ?_
    | (dsimp only [Only.mk_form]; with_reducible apply OnlyMk.intro (h0 := .inr rfl))
    | split
    | dsimp only
    | refine Only.ite ?_ ?_

theorem only_State_askLabel (s : State) (a : ArrayId) (r : Arr) (j : LabelJob) : Only [.ports] s (State.askLabel s a r j) := by
  unfold State.askLabel
  try dsimp only
  repeat' first
    | exact (rfl : (_ : Bool) = _)
    | exact Or.inl (by decide)
    | with_reducible exact Or.inr rfl
    | with_reducible exact Only.refl
    | with_reducible assumption
    | with_reducible apply Only.step (only_State_putPort ..)
    | (dsimp only [Only.mk_form]; with_reducible apply OnlyMk.intro (h0 := .inr rfl))
    | split
    | dsimp only

theorem only_State_rewriteLabels (s : State) (a : ArrayId) : Only [.rbe, .ports] s (State.rewriteLabels s a) := by
  unfold State.rewriteLabels
  try dsimp only
  repeat' first
    | exact (rfl : (_ : Bool) = _)
    | exact Or.inl (by decide)
    | with_reducible exact Or.inr rfl
    | with_reducible exact Only.refl
    | with_reducible assumption
    | with_reducible refine Only.ite ?_ ?_
    | with_reducible apply Only.step (only_State_askLabel ..)
    | with_reducible apply Only.step (only_State_putArr ..)
    | with_reducible refine Only.foldl (fun _ _ _ => ?_) ?_
    | with_reducible refine Only.foldlFst (fun _ _ _ => ?_) ?_
    | with_reducible refine Only.foldlSnd (fun _ _ _ => ?_) ?_
    | (dsimp only [Only.mk_form]; with_reducible apply OnlyMk.intro (h0 := .inr rfl))
    | split
    | dsimp only
    | refine Only.ite ?_ ?_

theorem only_State_resumeLabels (s : State) : Only [.ports] s (State.resumeLabels s) := by
  unfold State.resumeLabels
  try dsimp only
  repeat' first
    | exact (rfl : (_ : Bool) = _)
    | exact Or.inl (by decide)
    | with_reducible exact Or.inr rfl
    | with_reducible exact Only.refl
    | with_reducible assumption
    | with_reducible refine Only.ite ?_ ?_
    | with_reducible apply Only.step (only_State_askLabel ..)
    | with_reducible refine Only.foldl (fun _ _ _ => ?_) ?_
    | with_reducible refine Only.foldlSnd (fun _ _ _ => ?_) ?_
    | (dsimp only [Only.mk_form]; with_reducible apply OnlyMk.intro (h0 := .inr rfl))
    | split
    | dsimp only
    | refine Only.ite ?_ ?_

theorem only_State_labelsNext (s : State) (a : ArrayId) : Only [.rbe, .ports] s (State.labelsNext s a) := by
  unfold State.labelsNext
  try dsimp only
  repeat' first
    | exact (rfl : (_ : Bool) = _)
    | exact Or.inl (by decide)
    | with_reducible exact Or.inr rfl
    | with_reducible exact Only.refl
    | with_reducible assumption
    | with_reducible refine Only.ite ?_ ?_
    | with_reducible apply Only.step (only_State_rewriteLabels ..)
    | (dsimp only [Only.mk_form]; with_reducible apply OnlyMk.intro (h0 := .inr rfl))
    | split
    | refine Only.ite ?_ ?_

theorem only_State_labelWritten (s : State) (a : ArrayId) (m copy : Nat) (port : PortId) : Only [.rbe, .ports] s (State.labelWritten s a m copy port) := by
  unfold State.labelWritten
  try dsimp only
  repeat' first
    | exact (rfl : (_ : Bool) = _)
    | exact Or.inl (by decide)
    | with_reducible exact Or.inr rfl
    | with_reducible exact Only.refl
    | with_reducible assumption
    | with_reducible refine Only.ite ?_ ?_
    | with_reducible apply Only.step (only_State_askLabel ..)
    | with_reducible apply Only.step (only_State_labelsNext ..)
    | with_reducible apply Only.step (only_State_putArr ..)
    | with_reducible apply Only.step (only_State_putMedia ..)
    | (dsimp only [Only.mk_form]; with_reducible apply OnlyMk.intro (h0 := .inr rfl))
    | split
    | refine Only.ite ?_ ?_

theorem only_State_dropMember (s : State) (a : ArrayId) (m : Nat) (st : MemState) (cause : Nat) : Only [.regs, .evr, .hfe, .wc, .rbe, .ports, .capo] s (State.dropMember s a m st cause) := by
  unfold State.dropMember
  try dsimp only
  repeat' first
    | exact (rfl : (_ : Bool) = _)
    | exact Or.inl (by decide)
    | with_reducible exact Or.inr rfl
    | with_reducible exact Only.refl
    | with_reducible assumption
    | with_reducible refine Only.ite ?_ ?_
    | with_reducible apply Only.step (only_State_putArr ..)
    | with_reducible apply Only.step (only_State_putPort ..)
    | with_reducible apply Only.step (only_State_rechoose ..)
    | with_reducible apply Only.step (only_State_rewriteLabels ..)
    | with_reducible apply Only.step (only_State_thirdMissing ..)
    | (dsimp only [Only.mk_form]; with_reducible apply OnlyMk.intro (h0 := .inr rfl))
    | split
    | dsimp only
    | refine Only.ite ?_ ?_

theorem only_State_failMember (s : State) (a : ArrayId) (m : Nat) (c : FailCause) : Only [.regs, .evr, .hfe, .wc, .rbe, .ports, .capo] s (State.failMember s a m c) := by
  unfold State.failMember
  try dsimp only
  repeat' first
    | exact (rfl : (_ : Bool) = _)
    | exact Or.inl (by decide)
    | with_reducible exact Or.inr rfl
    | with_reducible exact Only.refl
    | with_reducible assumption
    | with_reducible refine Only.ite ?_ ?_
    | with_reducible apply Only.step (only_State_dropMember ..)
    | with_reducible apply Only.step (only_State_emit ..)
    | (dsimp only [Only.mk_form]; with_reducible apply OnlyMk.intro (h0 := .inr rfl))
    | split
    | dsimp only
    | refine Only.ite ?_ ?_

theorem only_State_mediaErr (s : State) (a : ArrayId) (m : Nat) : Only [.regs, .evr, .hfe, .wc, .rbe, .ports, .capo] s (State.mediaErr s a m) := by
  unfold State.mediaErr
  try dsimp only
  repeat' first
    | exact (rfl : (_ : Bool) = _)
    | exact Or.inl (by decide)
    | with_reducible exact Or.inr rfl
    | with_reducible exact Only.refl
    | with_reducible assumption
    | with_reducible refine Only.ite ?_ ?_
    | with_reducible apply Only.step (only_State_countMediaErr ..)
    | with_reducible apply Only.step (only_State_failMember ..)
    | (dsimp only [Only.mk_form]; with_reducible apply OnlyMk.intro (h0 := .inr rfl))
    | split
    | refine Only.ite ?_ ?_

theorem only_State_admitReplacement (s : State) (a : ArrayId) (m : Nat) (p : PortId) : Only [.freeIx, .rbe, .ports] s (State.admitReplacement s a m p) := by
  unfold State.admitReplacement
  try dsimp only
  repeat' first
    | exact (rfl : (_ : Bool) = _)
    | exact Or.inl (by decide)
    | with_reducible exact Or.inr rfl
    | with_reducible exact Only.refl
    | with_reducible assumption
    | with_reducible refine Only.ite ?_ ?_
    | with_reducible apply Only.step (only_State_putArr ..)
    | with_reducible apply Only.step (only_State_putMedia ..)
    | with_reducible apply Only.step (only_State_rewriteLabels ..)
    | with_reducible apply Only.step (only_State_used ..)
    | (dsimp only [Only.mk_form]; with_reducible apply OnlyMk.intro (h0 := .inr rfl))
    | split
    | refine Only.ite ?_ ?_

theorem only_State_checkMediaErrs (s : State) (a : ArrayId) (r : Arr) : Only [.regs, .evr, .hfe, .wc, .rbe, .ports, .capo] s (State.checkMediaErrs s a r) := by
  unfold State.checkMediaErrs
  try dsimp only
  repeat' first
    | exact (rfl : (_ : Bool) = _)
    | exact Or.inl (by decide)
    | with_reducible exact Or.inr rfl
    | with_reducible exact Only.refl
    | with_reducible assumption
    | with_reducible refine Only.ite ?_ ?_
    | with_reducible apply Only.step (only_State_failMember ..)
    | with_reducible refine Only.foldl (fun _ _ _ => ?_) ?_
    | (dsimp only [Only.mk_form]; with_reducible apply OnlyMk.intro (h0 := .inr rfl))
    | split
    | refine Only.ite ?_ ?_

theorem only_State_repairWrite (s : State) (a : ArrayId) (r : Arr) (g : Geom) (stripe unit row : Nat) (p : Pos) : Only [.ports] s (State.repairWrite s a r g stripe unit row p) := by
  unfold State.repairWrite
  try dsimp only
  repeat' first
    | exact (rfl : (_ : Bool) = _)
    | exact Or.inl (by decide)
    | with_reducible exact Or.inr rfl
    | with_reducible exact Only.refl
    | with_reducible assumption
    | with_reducible apply Only.step (only_State_putPort ..)
    | (dsimp only [Only.mk_form]; with_reducible apply OnlyMk.intro (h0 := .inr rfl))
    | split

theorem only_State_repairCounted (s : State) (a : ArrayId) (r : Arr) (g : Geom) (stripe row : Nat) (reads : List SecRead) (fs : List Blob) : Only [.regs, .evr, .hfe, .wc, .rbe, .ports, .capo] s (State.repairCounted s a r g stripe row reads fs) := by
  unfold State.repairCounted
  try dsimp only
  repeat' first
    | exact (rfl : (_ : Bool) = _)
    | exact Or.inl (by decide)
    | with_reducible exact Or.inr rfl
    | with_reducible exact Only.refl
    | with_reducible assumption
    | with_reducible apply Only.step (only_State_checkMediaErrs ..)
    | with_reducible apply Only.step (only_State_countErasures ..)
    | with_reducible apply Only.step (only_State_repairRow ..)
    | with_reducible apply Only.step (only_State_repairWrite ..)
    | with_reducible refine Only.foldl (fun _ _ _ => ?_) ?_
    | (dsimp only [Only.mk_form]; with_reducible apply OnlyMk.intro (h0 := .inr rfl))
    | split

theorem only_State_loseCounted (s : State) (a : ArrayId) (r : Arr) (g : Geom) (stripe row : Nat) (reads : List SecRead) (cause : Nat) : Only [.regs, .evr, .hfe, .wc, .rbe, .ports, .capo] s (State.loseCounted s a r g stripe row reads cause) := by
  unfold State.loseCounted
  try dsimp only
  repeat' first
    | exact (rfl : (_ : Bool) = _)
    | with_reducible exact Only.refl
    | with_reducible apply Only.step (only_State_checkMediaErrs ..)
    | with_reducible apply Only.step (only_State_countErasures ..)
    | with_reducible apply Only.step (only_State_loseRow ..)

theorem only_State_resyncRow (s : State) (a : ArrayId) (r : Arr) (g : Geom) (stripe row : Nat) : Only [.regs, .evr, .hfe, .wc, .rbe, .ports, .capo] s (State.resyncRow s a r g stripe row) := by
  unfold State.resyncRow
  try dsimp only
  repeat' first
    | exact (rfl : (_ : Bool) = _)
    | with_reducible exact Only.refl
    | with_reducible refine Only.ite ?_ ?_
    | with_reducible apply Only.step (only_State_loseCounted ..)
    | with_reducible apply Only.step (only_State_writeParity ..)
    | split
    | refine Only.ite ?_ ?_

theorem only_State_resyncStripe (s : State) (a : ArrayId) (previous : Bool) (stripe : Nat) : Only [.regs, .evr, .hfe, .wc, .rbe, .ports, .capo] s (State.resyncStripe s a previous stripe) := by
  unfold State.resyncStripe
  try dsimp only
  repeat' first
    | exact (rfl : (_ : Bool) = _)
    | exact Or.inl (by decide)
    | with_reducible exact Or.inr rfl
    | with_reducible exact Only.refl
    | with_reducible assumption
    | with_reducible apply Only.step (only_State_resyncRow ..)
    | with_reducible refine Only.foldl (fun _ _ _ => ?_) ?_
    | (dsimp only [Only.mk_form]; with_reducible apply OnlyMk.intro (h0 := .inr rfl))
    | split

theorem only_State_rebuildRow (s : State) (a : ArrayId) (r : Arr) (g : Geom) (stripe row : Nat) : Only [.regs, .evr, .hfe, .wc, .rbe, .ports, .capo] s (State.rebuildRow s a r g stripe row) := by
  unfold State.rebuildRow
  try dsimp only
  repeat' first
    | exact (rfl : (_ : Bool) = _)
    | exact Or.inl (by decide)
    | with_reducible exact Or.inr rfl
    | with_reducible exact Only.refl
    | with_reducible assumption
    | with_reducible refine Only.ite ?_ ?_
    | with_reducible apply Only.step (only_State_incFld ..)
    | with_reducible apply Only.step (only_State_loseCounted ..)
    | with_reducible apply Only.step (only_State_repairCounted ..)
    | with_reducible apply Only.step (only_State_writeSolved ..)
    | with_reducible refine Only.foldl (fun _ _ _ => ?_) ?_
    | (dsimp only [Only.mk_form]; with_reducible apply OnlyMk.intro (h0 := .inr rfl))
    | split
    | refine Only.ite ?_ ?_

theorem only_State_rebuildStripeIn (s : State) (a : ArrayId) (g : Geom) (stripe : Nat) : Only [.regs, .evr, .hfe, .wc, .rbe, .ports, .capo] s (State.rebuildStripeIn s a g stripe) := by
  unfold State.rebuildStripeIn
  try dsimp only
  repeat' first
    | exact (rfl : (_ : Bool) = _)
    | exact Or.inl (by decide)
    | with_reducible exact Or.inr rfl
    | with_reducible exact Only.refl
    | with_reducible assumption
    | with_reducible apply Only.step (only_State_rebuildRow ..)
    | with_reducible refine Only.foldl (fun _ _ _ => ?_) ?_
    | (dsimp only [Only.mk_form]; with_reducible apply OnlyMk.intro (h0 := .inr rfl))
    | split


/-! ### Machine/PortOps.lean -/

theorem only_State_setPortState (s : State) (p : PortId) (v : Nat) : Only [.regs] s (State.setPortState s p v) := by
  unfold State.setPortState
  try dsimp only
  repeat' first
    | exact (rfl : (_ : Bool) = _)
    | with_reducible exact Only.refl
    | with_reducible apply Only.step (only_State_setFld ..)

theorem only_State_countSlots (s : State) (p : PortId) : Only [.regs] s (State.countSlots s p) := by
  unfold State.countSlots
  try dsimp only
  repeat' first
    | exact (rfl : (_ : Bool) = _)
    | with_reducible exact Only.refl
    | with_reducible apply Only.step (only_State_setFld ..)
    | dsimp only

theorem only_State_unholdTags (s : State) : Only [.hfe] s (State.unholdTags s) := by
  unfold State.unholdTags
  try dsimp only
  repeat' first
    | exact (rfl : (_ : Bool) = _)
    | exact Or.inl (by decide)
    | with_reducible exact Or.inr rfl
    | with_reducible exact Only.refl
    | with_reducible assumption
    | with_reducible apply Only.step (only_State_freeTag ..)
    | with_reducible refine Only.foldl (fun _ _ _ => ?_) ?_
    | (dsimp only [Only.mk_form]; with_reducible apply OnlyMk.intro (h0 := .inr rfl))
    | split
    | dsimp only

theorem only_State_avoidMember (s : State) (own : McOwner) (m : Nat) : Only [.hfe] s (State.avoidMember s own m) := by
  unfold State.avoidMember
  try dsimp only
  repeat' first
    | exact (rfl : (_ : Bool) = _)
    | exact Or.inl (by decide)
    | with_reducible exact Or.inr rfl
    | with_reducible exact Only.refl
    | with_reducible assumption
    | with_reducible refine Only.ite ?_ ?_
    | with_reducible apply Only.step (only_State_putCmd ..)
    | (dsimp only [Only.mk_form]; with_reducible apply OnlyMk.intro (h0 := .inr rfl))
    | split
    | refine Only.ite ?_ ?_

theorem only_State_stampCmd (s : State) (own : McOwner) (f : HostCmd → HostCmd) : Only [.hfe] s (State.stampCmd s own f) := by
  unfold State.stampCmd
  try dsimp only
  repeat' first
    | exact (rfl : (_ : Bool) = _)
    | exact Or.inl (by decide)
    | with_reducible exact Or.inr rfl
    | with_reducible exact Only.refl
    | with_reducible assumption
    | with_reducible refine Only.ite ?_ ?_
    | with_reducible apply Only.step (only_State_putCmd ..)
    | (dsimp only [Only.mk_form]; with_reducible apply OnlyMk.intro (h0 := .inr rfl))
    | split
    | refine Only.ite ?_ ?_

theorem only_State_spoil (s : State) (p : PortId) (c : MCmd) (gone : Bool) : Only [.rbe] s (State.spoil s p c gone) := by
  unfold State.spoil
  try dsimp only
  repeat' first
    | exact (rfl : (_ : Bool) = _)
    | exact Or.inl (by decide)
    | with_reducible exact Or.inr rfl
    | with_reducible exact Only.refl
    | with_reducible assumption
    | with_reducible apply Only.step (only_State_putMedia ..)
    | with_reducible refine Only.foldl (fun _ _ _ => ?_) ?_
    | (dsimp only [Only.mk_form]; with_reducible apply OnlyMk.intro (h0 := .inr rfl))
    | split
    | dsimp only

theorem only_State_mcmdError (s : State) (p : PortId) (c : MCmd) : Only [.regs, .evr, .hfe, .wc, .rbe, .ports, .capo] s (State.mcmdError s p c) := by
  unfold State.mcmdError
  try dsimp only
  repeat' first
    | exact (rfl : (_ : Bool) = _)
    | exact Or.inl (by decide)
    | with_reducible exact Or.inr rfl
    | with_reducible exact Only.refl
    | with_reducible assumption
    | with_reducible refine Only.ite ?_ ?_
    | with_reducible apply Only.step (only_State_avoidMember ..)
    | with_reducible apply Only.step (only_State_failMember ..)
    | (dsimp only [Only.mk_form]; with_reducible apply OnlyMk.intro (h0 := .inr rfl))
    | split
    | dsimp only
    | refine Only.ite ?_ ?_

theorem only_State_retry (s : State) (p : PortId) (c : MCmd) : Only [.regs, .evr, .hfe, .wc, .rbe, .ports, .capo] s (State.retry s p c) := by
  unfold State.retry
  try dsimp only
  repeat' first
    | exact (rfl : (_ : Bool) = _)
    | exact Or.inl (by decide)
    | with_reducible exact Or.inr rfl
    | with_reducible exact Only.refl
    | with_reducible refine Only.ite ?_ ?_
    | with_reducible apply Only.step (only_State_incFld ..)
    | with_reducible apply Only.step (only_State_mcmdError ..)
    | with_reducible apply Only.step (only_State_putPort ..)
    | (dsimp only [Only.mk_form]; with_reducible apply OnlyMk.intro (h0 := .inr rfl))
    | split
    | refine Only.ite ?_ ?_

theorem only_State_dropSlot (s : State) (p : PortId) (slot : Nat) : Only [.regs, .hfe, .ports] s (State.dropSlot s p slot) := by
  unfold State.dropSlot
  try dsimp only
  repeat' first
    | exact (rfl : (_ : Bool) = _)
    | exact Or.inl (by decide)
    | with_reducible exact Or.inr rfl
    | with_reducible exact Only.refl
    | with_reducible apply Only.step (only_State_countSlots ..)
    | with_reducible apply Only.step (only_State_putPort ..)
    | with_reducible apply Only.step (only_State_unholdTags ..)
    | (dsimp only [Only.mk_form]; with_reducible apply OnlyMk.intro (h0 := .inr rfl))

theorem only_State_errInfo (s : State) (p : PortId) (kind status slot : Nat) : Only [.regs] s (State.errInfo s p kind status slot) := by
  unfold State.errInfo
  try dsimp only
  repeat' first
    | exact (rfl : (_ : Bool) = _)
    | with_reducible exact Only.refl
    | with_reducible apply Only.step (only_State_setFld ..)

theorem only_State_portResetCmds (s : State) (p : PortId) (timedOut : Option Nat) : Only [.regs, .evr, .hfe, .wc, .rbe, .ports, .capo] s (State.portResetCmds s p timedOut) := by
  unfold State.portResetCmds
  try dsimp only
  repeat' first
    | exact (rfl : (_ : Bool) = _)
    | exact Or.inl (by decide)
    | with_reducible exact Or.inr rfl
    | with_reducible exact Only.refl
    | with_reducible assumption
    | with_reducible apply Only.step (only_State_countSlots ..)
    | with_reducible apply Only.step (only_State_incFld ..)
    | with_reducible apply Only.step (only_State_putPort ..)
    | with_reducible apply Only.step (only_State_retry ..)
    | with_reducible apply Only.step (only_State_unholdTags ..)
    | with_reducible refine Only.foldl (fun _ _ _ => ?_) ?_
    | with_reducible refine Only.foldlFst (fun _ _ _ => ?_) ?_
    | with_reducible refine Only.foldlSnd (fun _ _ _ => ?_) ?_
    | (dsimp only [Only.mk_form]; with_reducible apply OnlyMk.intro (h0 := .inr rfl))
    | dsimp only

theorem only_State_linkDown (s : State) (p : PortId) : Only [.regs] s (State.linkDown s p) := by
  unfold State.linkDown
  try dsimp only
  repeat' first
    | exact (rfl : (_ : Bool) = _)
    | with_reducible exact Only.refl
    | with_reducible apply Only.step (only_State_setBit ..)
    | with_reducible apply Only.step (only_State_setFld ..)

theorem only_State_forgetDrive (s : State) (p : PortId) : Only [.regs, .ports] s (State.forgetDrive s p) := by
  unfold State.forgetDrive
  try dsimp only
  repeat' first
    | exact (rfl : (_ : Bool) = _)
    | exact Or.inl (by decide)
    | with_reducible exact Or.inr rfl
    | with_reducible exact Only.refl
    | with_reducible apply Only.step (only_State_putPort ..)
    | with_reducible apply Only.step (only_State_setFld ..)
    | (dsimp only [Only.mk_form]; with_reducible apply OnlyMk.intro (h0 := .inr rfl))

theorem only_State_setPwren (s : State) (p : PortId) (b : Bool) : Only [.regs, .ports] s (State.setPwren s p b) := by
  unfold State.setPwren
  try dsimp only
  repeat' first
    | exact (rfl : (_ : Bool) = _)
    | exact Or.inl (by decide)
    | with_reducible exact Or.inr rfl
    | with_reducible exact Only.refl
    | with_reducible apply Only.step (only_State_putPort ..)
    | with_reducible apply Only.step (only_State_setBit ..)
    | (dsimp only [Only.mk_form]; with_reducible apply OnlyMk.intro (h0 := .inr rfl))

theorem only_State_linkLoss (s : State) (p : PortId) : Only [.regs, .evr, .hfe, .wc, .rbe, .ports, .capo] s (State.linkLoss s p) := by
  unfold State.linkLoss
  try dsimp only
  repeat' first
    | exact (rfl : (_ : Bool) = _)
    | exact Or.inl (by decide)
    | with_reducible exact Or.inr rfl
    | with_reducible exact Only.refl
    | with_reducible assumption
    | with_reducible refine Only.ite ?_ ?_
    | with_reducible apply Only.step (only_State_avoidMember ..)
    | with_reducible apply Only.step (only_State_errInfo ..)
    | with_reducible apply Only.step (only_State_forgetDrive ..)
    | with_reducible apply Only.step (only_State_linkDown ..)
    | with_reducible apply Only.step (only_State_portResetCmds ..)
    | with_reducible apply Only.step (only_State_putPort ..)
    | with_reducible apply Only.step (only_State_setPortState ..)
    | with_reducible refine Only.foldl (fun _ _ _ => ?_) ?_
    | (dsimp only [Only.mk_form]; with_reducible apply OnlyMk.intro (h0 := .inr rfl))
    | split
    | dsimp only
    | refine Only.ite ?_ ?_

theorem only_State_escalate (s : State) (p : PortId) (step : Nat) (slot : Option Nat) : Only [.regs, .evr, .hfe, .wc, .rbe, .ports, .capo] s (State.escalate s p step slot) := by
  unfold State.escalate
  try dsimp only
  repeat' first
    | exact (rfl : (_ : Bool) = _)
    | exact Or.inl (by decide)
    | with_reducible exact Or.inr rfl
    | with_reducible exact Only.refl
    | with_reducible refine Only.ite ?_ ?_
    | with_reducible apply Only.step (only_State_incFld ..)
    | with_reducible apply Only.step (only_State_linkLoss ..)
    | with_reducible apply Only.step (only_State_portResetCmds ..)
    | with_reducible apply Only.step (only_State_putPort ..)
    | with_reducible apply Only.step (only_State_setPortState ..)
    | with_reducible apply Only.step (only_State_setPwren ..)
    | (dsimp only [Only.mk_form]; with_reducible apply OnlyMk.intro (h0 := .inr rfl))
    | split
    | refine Only.ite ?_ ?_

theorem only_State_portTimeout (s : State) (p : PortId) (slot kind status : Nat) : Only [.regs, .evr, .hfe, .wc, .rbe, .ports, .capo] s (State.portTimeout s p slot kind status) := by
  unfold State.portTimeout
  try dsimp only
  repeat' first
    | exact (rfl : (_ : Bool) = _)
    | exact Or.inl (by decide)
    | with_reducible exact Or.inr rfl
    | with_reducible exact Only.refl
    | with_reducible assumption
    | with_reducible refine Only.ite ?_ ?_
    | with_reducible apply Only.step (only_State_errInfo ..)
    | with_reducible apply Only.step (only_State_escalate ..)
    | with_reducible apply Only.step (only_State_incFld ..)
    | (dsimp only [Only.mk_form]; with_reducible apply OnlyMk.intro (h0 := .inr rfl))
    | split
    | refine Only.ite ?_ ?_

theorem only_State_lateDrop (s : State) (p : PortId) (c : MCmd) : Only [.regs, .evr, .hfe] s (State.lateDrop s p c) := by
  unfold State.lateDrop
  try dsimp only
  repeat' first
    | exact (rfl : (_ : Bool) = _)
    | exact Or.inl (by decide)
    | with_reducible exact Or.inr rfl
    | with_reducible exact Only.refl
    | with_reducible assumption
    | with_reducible refine Only.ite ?_ ?_
    | with_reducible apply Only.step (only_State_emit ..)
    | with_reducible apply Only.step (only_State_incFld ..)
    | with_reducible apply Only.step (only_State_setFld ..)
    | (dsimp only [Only.mk_form]; with_reducible apply OnlyMk.intro (h0 := .inr rfl))
    | split
    | dsimp only
    | refine Only.ite ?_ ?_

theorem only_State_powerUpPort (s : State) (p : PortId) : Only [.regs, .ports] s (State.powerUpPort s p) := by
  unfold State.powerUpPort
  try dsimp only
  repeat' first
    | exact (rfl : (_ : Bool) = _)
    | exact Or.inl (by decide)
    | with_reducible exact Or.inr rfl
    | with_reducible exact Only.refl
    | with_reducible apply Only.step (only_State_putPort ..)
    | with_reducible apply Only.step (only_State_setPortState ..)
    | with_reducible apply Only.step (only_State_setPwren ..)
    | (dsimp only [Only.mk_form]; with_reducible apply OnlyMk.intro (h0 := .inr rfl))
    | dsimp only

theorem only_State_spinupPort (s : State) (p : PortId) : Only [.regs, .ports] s (State.spinupPort s p) := by
  unfold State.spinupPort
  try dsimp only
  repeat' first
    | exact (rfl : (_ : Bool) = _)
    | exact Or.inl (by decide)
    | with_reducible exact Or.inr rfl
    | with_reducible exact Only.refl
    | with_reducible assumption
    | with_reducible refine Only.ite ?_ ?_
    | with_reducible apply Only.step (only_State_forgetDrive ..)
    | with_reducible apply Only.step (only_State_powerUpPort ..)
    | with_reducible apply Only.step (only_State_putPort ..)
    | with_reducible apply Only.step (only_State_setFld ..)
    | with_reducible apply Only.step (only_State_setPortState ..)
    | with_reducible apply Only.step (only_State_setPwren ..)
    | (dsimp only [Only.mk_form]; with_reducible apply OnlyMk.intro (h0 := .inr rfl))
    | split
    | dsimp only
    | refine Only.ite ?_ ?_

theorem only_State_spinupStart (s : State) : Only [.regs, .rbe, .ports] s (State.spinupStart s) := by
  unfold State.spinupStart
  try dsimp only
  repeat' first
    | exact (rfl : (_ : Bool) = _)
    | exact Or.inl (by decide)
    | with_reducible exact Or.inr rfl
    | with_reducible exact Only.refl
    | with_reducible assumption
    | with_reducible refine Only.ite ?_ ?_
    | with_reducible apply Only.step (only_State_forgetDrive ..)
    | with_reducible apply Only.step (only_State_setPortState ..)
    | with_reducible apply Only.step (only_State_setPwren ..)
    | with_reducible apply Only.step (only_State_spinupPort ..)
    | with_reducible refine Only.foldl (fun _ _ _ => ?_) ?_
    | with_reducible refine Only.foldlFst (fun _ _ _ => ?_) ?_
    | with_reducible refine Only.foldlSnd (fun _ _ _ => ?_) ?_
    | (dsimp only [Only.mk_form]; with_reducible apply OnlyMk.intro (h0 := .inr rfl))
    | split
    | dsimp only
    | refine Only.ite ?_ ?_

theorem only_State_portsSilence (s : State) : Only [.regs, .ports] s (State.portsSilence s) := by
  unfold State.portsSilence
  try dsimp only
  repeat' first
    | exact (rfl : (_ : Bool) = _)
    | with_reducible exact Only.refl
    | with_reducible assumption
    | with_reducible refine Only.ite ?_ ?_
    | with_reducible apply Only.step (only_State_linkDown ..)
    | with_reducible apply Only.step (only_State_setPortState ..)
    | with_reducible apply Only.step (only_State_setPwren ..)
    | with_reducible refine Only.foldl (fun _ _ _ => ?_) ?_
    | split
    | refine Only.ite ?_ ?_

theorem only_State_gateAbort (s : State) (p : PortId) : Only [.regs, .evr, .hfe, .wc, .rbe, .ports, .capo] s (State.gateAbort s p) := by
  unfold State.gateAbort
  try dsimp only
  repeat' first
    | exact (rfl : (_ : Bool) = _)
    | exact Or.inl (by decide)
    | with_reducible exact Or.inr rfl
    | with_reducible exact Only.refl
    | with_reducible refine Only.ite ?_ ?_
    | with_reducible apply Only.step (only_State_countSlots ..)
    | with_reducible apply Only.step (only_State_escalate ..)
    | with_reducible apply Only.step (only_State_incFld ..)
    | with_reducible apply Only.step (only_State_putPort ..)
    | with_reducible apply Only.step (only_State_unholdTags ..)
    | (dsimp only [Only.mk_form]; with_reducible apply OnlyMk.intro (h0 := .inr rfl))
    | split
    | dsimp only
    | refine Only.ite ?_ ?_

theorem only_State_closeGate (s : State) : Only [.regs, .evr, .hfe, .wc, .rbe, .ports, .capo] s (State.closeGate s) := by
  unfold State.closeGate
  try dsimp only
  repeat' first
    | exact (rfl : (_ : Bool) = _)
    | with_reducible exact Only.refl
    | with_reducible assumption
    | with_reducible refine Only.ite ?_ ?_
    | with_reducible apply Only.step (only_State_gateAbort ..)
    | with_reducible apply Only.step (only_State_setBit ..)
    | with_reducible refine Only.foldl (fun _ _ _ => ?_) ?_
    | split
    | refine Only.ite ?_ ?_


/-! ### Machine/WcOps.lean -/

theorem only_State_withLines (s : State) (l : Tbl WcLine) : Only [.wc] s (State.withLines s l) := by
  unfold State.withLines
  try dsimp only
  repeat' first
    | exact (rfl : (_ : Bool) = _)
    | exact Or.inl (by decide)
    | with_reducible exact Or.inr rfl
    | with_reducible exact Only.refl
    | (dsimp only [Only.mk_form]; with_reducible apply OnlyMk.intro (h0 := .inr rfl))

theorem only_State_noteUnprot (s : State) : Only [.regs, .evr, .wc] s (State.noteUnprot s) := by
  unfold State.noteUnprot
  try dsimp only
  repeat' first
    | exact (rfl : (_ : Bool) = _)
    | exact Or.inl (by decide)
    | with_reducible exact Or.inr rfl
    | with_reducible exact Only.refl
    | with_reducible assumption
    | with_reducible refine Only.ite ?_ ?_
    | with_reducible apply Only.step (only_State_emit ..)
    | with_reducible apply Only.step (only_State_incFld ..)
    | with_reducible apply Only.step (only_State_setBit ..)
    | (dsimp only [Only.mk_form]; with_reducible apply OnlyMk.intro (h0 := .inr rfl))
    | split
    | refine Only.ite ?_ ?_

theorem only_State_noteLimit (s : State) : Only [.regs, .evr, .wc] s (State.noteLimit s) := by
  unfold State.noteLimit
  try dsimp only
  repeat' first
    | exact (rfl : (_ : Bool) = _)
    | with_reducible exact Only.refl
    | with_reducible apply Only.step (only_State_noteUnprot ..)
    | with_reducible apply Only.step (only_State_setBit ..)

theorem only_State_noteThrough (s : State) : Only [.regs, .evr, .hfe] s (State.noteThrough s) := by
  unfold State.noteThrough
  try dsimp only
  repeat' first
    | exact (rfl : (_ : Bool) = _)
    | exact Or.inl (by decide)
    | with_reducible exact Or.inr rfl
    | with_reducible exact Only.refl
    | with_reducible refine Only.ite ?_ ?_
    | with_reducible apply Only.step (only_State_emit ..)
    | with_reducible apply Only.step (only_State_setBit ..)
    | (dsimp only [Only.mk_form]; with_reducible apply OnlyMk.intro (h0 := .inr rfl))
    | split
    | dsimp only
    | refine Only.ite ?_ ?_

theorem only_State_recomputeLimit (s : State) : Only [.regs, .evr, .hfe, .wc] s (State.recomputeLimit s) := by
  unfold State.recomputeLimit
  try dsimp only
  repeat' first
    | exact (rfl : (_ : Bool) = _)
    | with_reducible exact Only.refl
    | with_reducible apply Only.step (only_State_noteLimit ..)
    | with_reducible apply Only.step (only_State_noteThrough ..)
    | with_reducible apply Only.step (only_State_setBit ..)
    | with_reducible apply Only.step (only_State_setFld ..)

theorem only_State_evictFor (s : State) (key : Nat) : Only [.wc] s (State.evictFor s key) := by
  unfold State.evictFor
  try dsimp only
  repeat' first
    | exact (rfl : (_ : Bool) = _)
    | exact Or.inl (by decide)
    | with_reducible exact Or.inr rfl
    | with_reducible exact Only.refl
    | with_reducible assumption
    | with_reducible refine Only.ite ?_ ?_
    | with_reducible apply Only.step (only_State_withLines ..)
    | with_reducible refine Only.foldl (fun _ _ _ => ?_) ?_
    | with_reducible refine Only.foldlFst (fun _ _ _ => ?_) ?_
    | with_reducible refine Only.foldlSnd (fun _ _ _ => ?_) ?_
    | (dsimp only [Only.mk_form]; with_reducible apply OnlyMk.intro (h0 := .inr rfl))
    | split
    | dsimp only
    | refine Only.ite ?_ ?_

theorem only_State_place (s : State) (nsid lba : Nat) (sec : CSec) (cls : Nat) (through : Bool) (owner : Option Nat) : Only [.regs, .wc, .capo] s (State.place s nsid lba sec cls through owner) := by
  unfold State.place
  try dsimp only
  repeat' first
    | exact (rfl : (_ : Bool) = _)
    | exact Or.inl (by decide)
    | with_reducible exact Or.inr rfl
    | with_reducible exact Only.refl
    | with_reducible apply Only.step (only_State_evictFor ..)
    | with_reducible apply Only.step (only_State_mirror ..)
    | (dsimp only [Only.mk_form]; with_reducible apply OnlyMk.intro (h0 := .inr rfl))

theorem only_State_fillClean (s : State) (nsid lba : Nat) (sec : CSec) : Only [.wc] s (State.fillClean s nsid lba sec) := by
  unfold State.fillClean
  try dsimp only
  repeat' first
    | exact (rfl : (_ : Bool) = _)
    | exact Or.inl (by decide)
    | with_reducible exact Or.inr rfl
    | with_reducible exact Only.refl
    | with_reducible assumption
    | with_reducible refine Only.ite ?_ ?_
    | with_reducible apply Only.step (only_State_evictFor ..)
    | with_reducible apply Only.step (only_State_withLines ..)
    | (dsimp only [Only.mk_form]; with_reducible apply OnlyMk.intro (h0 := .inr rfl))
    | split
    | dsimp only
    | refine Only.ite ?_ ?_

theorem only_State_needDirtyNs (s : State) (nsid : Nat) : Only [.regs, .wc, .capo] s (State.needDirtyNs s nsid).2 := by
  unfold State.needDirtyNs
  try dsimp only
  repeat' first
    | exact (rfl : (_ : Bool) = _)
    | exact Or.inl (by decide)
    | with_reducible exact Or.inr rfl
    | with_reducible exact Only.refl
    | with_reducible refine Only.ite ?_ ?_
    | with_reducible apply Only.step (only_State_mirror ..)
    | (dsimp only [Only.mk_form]; with_reducible apply OnlyMk.intro (h0 := .inr rfl))
    | split
    | dsimp only
    | refine Only.ite ?_ ?_

theorem only_State_startDump (s : State) (why : DumpReason) : Only [.regs, .wc, .vault] s (State.startDump s why) := by
  unfold State.startDump
  try dsimp only
  repeat' first
    | exact (rfl : (_ : Bool) = _)
    | exact Or.inl (by decide)
    | with_reducible exact Or.inr rfl
    | with_reducible exact Only.refl
    | with_reducible assumption
    | with_reducible apply Only.step (only_State_setBit ..)
    | with_reducible apply Only.step (only_State_setFld ..)
    | (dsimp only [Only.mk_form]; with_reducible apply OnlyMk.intro (h0 := .inr rfl))
    | split
    | dsimp only

theorem only_State_dumpCut (s : State) (n : Nat) : Only [.regs, .wc, .vault] s (State.dumpCut s n) := by
  unfold State.dumpCut
  try dsimp only
  repeat' first
    | exact (rfl : (_ : Bool) = _)
    | exact Or.inl (by decide)
    | with_reducible exact Or.inr rfl
    | with_reducible exact Only.refl
    | with_reducible assumption
    | with_reducible apply Only.step (only_State_setBit ..)
    | (dsimp only [Only.mk_form]; with_reducible apply OnlyMk.intro (h0 := .inr rfl))
    | split
    | dsimp only


/-! ### Machine/IoOps.lean -/

theorem only_State_setRead (s : State) (tag i : Nat) (v : ReadSec) : Only [.hfe] s (State.setRead s tag i v) := by
  unfold State.setRead
  try dsimp only
  repeat' first
    | exact (rfl : (_ : Bool) = _)
    | exact Or.inl (by decide)
    | with_reducible exact Or.inr rfl
    | with_reducible exact Only.refl
    | with_reducible assumption
    | with_reducible apply Only.step (only_State_putCmd ..)
    | (dsimp only [Only.mk_form]; with_reducible apply OnlyMk.intro (h0 := .inr rfl))
    | split

theorem only_State_readGot (s : State) (c : HostCmd) (i lba : Nat) (x : CSec) (src : CopySrc) : Only [.hfe, .wc, .cip] s (State.readGot s c i lba x src) := by
  unfold State.readGot
  try dsimp only
  repeat' first
    | exact (rfl : (_ : Bool) = _)
    | exact Or.inl (by decide)
    | with_reducible exact Or.inr rfl
    | with_reducible exact Only.refl
    | with_reducible assumption
    | with_reducible refine Only.ite ?_ ?_
    | with_reducible apply Only.step (only_State_fillClean ..)
    | with_reducible apply Only.step (only_State_setRead ..)
    | (dsimp only [Only.mk_form]; with_reducible apply OnlyMk.intro (h0 := .inr rfl))
    | split
    | refine Only.ite ?_ ?_

theorem only_State_askUnit (s : State) (c : HostCmd) (a : ArrayId) (r : Arr) (g : Geom) (pl : Place) (unit : Nat) : Only [.ports] s (State.askUnit s c a r g pl unit) := by
  unfold State.askUnit
  try dsimp only
  repeat' first
    | exact (rfl : (_ : Bool) = _)
    | exact Or.inl (by decide)
    | with_reducible exact Or.inr rfl
    | with_reducible exact Only.refl
    | with_reducible assumption
    | with_reducible refine Only.ite ?_ ?_
    | with_reducible apply Only.step (only_State_enqueue ..)
    | with_reducible apply Only.step (only_State_putPort ..)
    | (dsimp only [Only.mk_form]; with_reducible apply OnlyMk.intro (h0 := .inr rfl))
    | split
    | refine Only.ite ?_ ?_

theorem only_State_noteLack (s : State) (c : HostCmd) (n : Nat) : Only [.hfe] s (State.noteLack s c n) := by
  unfold State.noteLack
  try dsimp only
  repeat' first
    | exact (rfl : (_ : Bool) = _)
    | exact Or.inl (by decide)
    | with_reducible exact Or.inr rfl
    | with_reducible exact Only.refl
    | with_reducible assumption
    | with_reducible apply Only.step (only_State_putCmd ..)
    | (dsimp only [Only.mk_form]; with_reducible apply OnlyMk.intro (h0 := .inr rfl))
    | split

theorem only_State_askPlan (s : State) (c : HostCmd) (a : ArrayId) (r : Arr) (g : Geom) (pl : Place) : Only [.hfe, .ports] s (State.askPlan s c a r g pl) := by
  unfold State.askPlan
  try dsimp only
  repeat' first
    | exact (rfl : (_ : Bool) = _)
    | with_reducible exact Only.refl
    | with_reducible assumption
    | with_reducible apply Only.step (only_State_askUnit ..)
    | with_reducible apply Only.step (only_State_noteLack ..)
    | with_reducible refine Only.foldl (fun _ _ _ => ?_) ?_

theorem only_State_askSolve (s : State) (c : HostCmd) (i : Nat) (a : ArrayId) (r : Arr) (g : Geom) (pl : Place) : Only [.hfe, .ports] s (State.askSolve s c i a r g pl) := by
  unfold State.askSolve
  try dsimp only
  repeat' first
    | exact (rfl : (_ : Bool) = _)
    | with_reducible exact Only.refl
    | with_reducible apply Only.step (only_State_askPlan ..)
    | with_reducible apply Only.step (only_State_setRead ..)

theorem only_State_beginSector (s : State) (c : HostCmd) (i lba : Nat) : Only [.hfe, .wc, .cip, .ports] s (State.beginSector s c i lba) := by
  unfold State.beginSector
  try dsimp only
  repeat' first
    | exact (rfl : (_ : Bool) = _)
    | exact Or.inl (by decide)
    | with_reducible exact Or.inr rfl
    | with_reducible exact Only.refl
    | with_reducible assumption
    | with_reducible refine Only.ite ?_ ?_
    | with_reducible apply Only.step (only_State_askSolve ..)
    | with_reducible apply Only.step (only_State_askUnit ..)
    | with_reducible apply Only.step (only_State_readGot ..)
    | with_reducible apply Only.step (only_State_setRead ..)
    | with_reducible apply Only.step (only_State_withLines ..)
    | (dsimp only [Only.mk_form]; with_reducible apply OnlyMk.intro (h0 := .inr rfl))
    | split
    | dsimp only
    | refine Only.ite ?_ ?_

theorem only_State_solveSector (s : State) (c : HostCmd) (i lba : Nat) (a : ArrayId) (r : Arr) (g : Geom) (pl : Place) (src : CopySrc) : Only [.regs, .evr, .hfe, .wc, .rbe, .cip, .ports, .capo] s (State.solveSector s c i lba a r g pl src) := by
  unfold State.solveSector
  try dsimp only
  repeat' first
    | exact (rfl : (_ : Bool) = _)
    | exact Or.inl (by decide)
    | with_reducible exact Or.inr rfl
    | with_reducible exact Only.refl
    | with_reducible assumption
    | with_reducible refine Only.ite ?_ ?_
    | with_reducible apply Only.step (only_State_incFld ..)
    | with_reducible apply Only.step (only_State_loseCounted ..)
    | with_reducible apply Only.step (only_State_noteLack ..)
    | with_reducible apply Only.step (only_State_readGot ..)
    | with_reducible apply Only.step (only_State_repairCounted ..)
    | with_reducible apply Only.step (only_State_resyncStripe ..)
    | with_reducible apply Only.step (only_State_setRead ..)
    | with_reducible apply Only.step (only_State_stampCmd ..)
    | (dsimp only [Only.mk_form]; with_reducible apply OnlyMk.intro (h0 := .inr rfl))
    | split
    | refine Only.ite ?_ ?_

theorem only_State_goOnSector (s : State) (c : HostCmd) (i lba : Nat) : Only [.regs, .evr, .hfe, .wc, .rbe, .cip, .ports, .capo] s (State.goOnSector s c i lba) := by
  unfold State.goOnSector
  try dsimp only
  repeat' first
    | exact (rfl : (_ : Bool) = _)
    | exact Or.inl (by decide)
    | with_reducible exact Or.inr rfl
    | with_reducible exact Only.refl
    | with_reducible assumption
    | with_reducible refine Only.ite ?_ ?_
    | with_reducible apply Only.step (only_State_askSolve ..)
    | with_reducible apply Only.step (only_State_readGot ..)
    | with_reducible apply Only.step (only_State_setRead ..)
    | with_reducible apply Only.step (only_State_solveSector ..)
    | (dsimp only [Only.mk_form]; with_reducible apply OnlyMk.intro (h0 := .inr rfl))
    | split
    | dsimp only
    | refine Only.ite ?_ ?_

theorem only_State_readFinish (s : State) (tag : Nat) : Only [.regs, .evr, .hfe] s (State.readFinish s tag) := by
  unfold State.readFinish
  try dsimp only
  repeat' first
    | exact (rfl : (_ : Bool) = _)
    | exact Or.inl (by decide)
    | with_reducible exact Or.inr rfl
    | with_reducible exact Only.refl
    | with_reducible assumption
    | with_reducible refine Only.ite ?_ ?_
    | with_reducible apply Only.step (only_State_collect ..)
    | with_reducible apply Only.step (only_State_emit ..)
    | (dsimp only [Only.mk_form]; with_reducible apply OnlyMk.intro (h0 := .inr rfl))
    | split
    | dsimp only
    | refine Only.ite ?_ ?_

theorem only_State_readPass (s : State) (tag : Nat) : Only [.regs, .evr, .hfe, .wc, .rbe, .cip, .ports, .capo] s (State.readPass s tag) := by
  unfold State.readPass
  try dsimp only
  repeat' first
    | exact (rfl : (_ : Bool) = _)
    | exact Or.inl (by decide)
    | with_reducible exact Or.inr rfl
    | with_reducible exact Only.refl
    | with_reducible assumption
    | with_reducible refine Only.ite ?_ ?_
    | with_reducible apply Only.step (only_State_beginSector ..)
    | with_reducible apply Only.step (only_State_goOnSector ..)
    | with_reducible apply Only.step (only_State_putCmd ..)
    | with_reducible apply Only.step (only_State_readFinish ..)
    | with_reducible refine Only.foldl (fun _ _ _ => ?_) ?_
    | with_reducible refine Only.foldlFst (fun _ _ _ => ?_) ?_
    | with_reducible refine Only.foldlSnd (fun _ _ _ => ?_) ?_
    | (dsimp only [Only.mk_form]; with_reducible apply OnlyMk.intro (h0 := .inr rfl))
    | split
    | dsimp only
    | refine Only.ite ?_ ?_

theorem only_State_ackLines (s : State) (tag : Nat) : Only [.wc] s (State.ackLines s tag) := by
  unfold State.ackLines
  try dsimp only
  repeat' first
    | exact (rfl : (_ : Bool) = _)
    | exact Or.inl (by decide)
    | with_reducible exact Or.inr rfl
    | with_reducible exact Only.refl
    | with_reducible refine Only.ite ?_ ?_
    | with_reducible apply Only.step (only_State_withLines ..)
    | (dsimp only [Only.mk_form]; with_reducible apply OnlyMk.intro (h0 := .inr rfl))
    | split
    | dsimp only
    | refine Only.ite ?_ ?_

theorem only_State_abandonLines (s : State) (tag : Nat) : Only [.wc] s (State.abandonLines s tag) := by
  unfold State.abandonLines
  try dsimp only
  repeat' first
    | exact (rfl : (_ : Bool) = _)
    | exact Or.inl (by decide)
    | with_reducible exact Or.inr rfl
    | with_reducible exact Only.refl
    | with_reducible assumption
    | with_reducible refine Only.ite ?_ ?_
    | with_reducible apply Only.step (only_State_ackLines ..)
    | with_reducible apply Only.step (only_State_withLines ..)
    | (dsimp only [Only.mk_form]; with_reducible apply OnlyMk.intro (h0 := .inr rfl))
    | split
    | dsimp only
    | refine Only.ite ?_ ?_

theorem only_State_lowerClass (s : State) (c : HostCmd) : Only [.wc, .ports] s (State.lowerClass s c) := by
  unfold State.lowerClass
  try dsimp only
  repeat' first
    | exact (rfl : (_ : Bool) = _)
    | exact Or.inl (by decide)
    | with_reducible exact Or.inr rfl
    | with_reducible exact Only.refl
    | with_reducible assumption
    | with_reducible refine Only.ite ?_ ?_
    | (dsimp only [Only.mk_form]; with_reducible apply OnlyMk.intro (h0 := .inr rfl))
    | split
    | dsimp only
    | refine Only.ite ?_ ?_

theorem only_State_writeReady (s : State) (tag : Nat) : Only [.regs, .hfe, .wc, .ports] s (State.writeReady s tag) := by
  unfold State.writeReady
  try dsimp only
  repeat' first
    | exact (rfl : (_ : Bool) = _)
    | exact Or.inl (by decide)
    | with_reducible exact Or.inr rfl
    | with_reducible exact Only.refl
    | with_reducible assumption
    | with_reducible refine Only.ite ?_ ?_
    | with_reducible apply Only.step (only_State_ackLines ..)
    | with_reducible apply Only.step (only_State_collect ..)
    | with_reducible apply Only.step (only_State_lowerClass ..)
    | with_reducible apply Only.step (only_State_putCmd ..)
    | (dsimp only [Only.mk_form]; with_reducible apply OnlyMk.intro (h0 := .inr rfl))
    | split
    | refine Only.ite ?_ ?_

theorem only_State_destageWake (s : State) : Only [.regs, .hfe, .wc] s (State.destageWake s) := by
  unfold State.destageWake
  try dsimp only
  repeat' first
    | exact (rfl : (_ : Bool) = _)
    | with_reducible exact Only.refl
    | with_reducible assumption
    | with_reducible refine Only.ite ?_ ?_
    | with_reducible apply Only.step (only_State_ackLines ..)
    | with_reducible apply Only.step (only_State_collect ..)
    | with_reducible refine Only.foldl (fun _ _ _ => ?_) ?_
    | split
    | refine Only.ite ?_ ?_

theorem only_State_dropMessages (s : State) (gone : Nat → Bool) : Only [.regs, .hfe, .wc, .cip] s (State.dropMessages s gone) := by
  unfold State.dropMessages
  try dsimp only
  repeat' first
    | exact (rfl : (_ : Bool) = _)
    | exact Or.inl (by decide)
    | with_reducible exact Or.inr rfl
    | with_reducible exact Only.refl
    | with_reducible assumption
    | with_reducible refine Only.ite ?_ ?_
    | with_reducible apply Only.step (only_State_ackLines ..)
    | with_reducible apply Only.step (only_State_collect ..)
    | with_reducible refine Only.foldl (fun _ _ _ => ?_) ?_
    | with_reducible refine Only.foldlSnd (fun _ _ _ => ?_) ?_
    | (dsimp only [Only.mk_form]; with_reducible apply OnlyMk.intro (h0 := .inr rfl))
    | split
    | dsimp only
    | refine Only.ite ?_ ?_

theorem only_State_dropKeys (s : State) (gone : Nat → Bool) : Only [.regs, .hfe, .wc, .cip] s (State.dropKeys s gone) := by
  unfold State.dropKeys
  try dsimp only
  repeat' first
    | exact (rfl : (_ : Bool) = _)
    | exact Or.inl (by decide)
    | with_reducible exact Or.inr rfl
    | with_reducible exact Only.refl
    | with_reducible apply Only.step (only_State_dropMessages ..)
    | (dsimp only [Only.mk_form]; with_reducible apply OnlyMk.intro (h0 := .inr rfl))
    | dsimp only


/-! ### Machine/CipOps.lean -/

theorem only_State_setPool (s : State) (n : Nat) : Only [.regs] s (State.setPool s n) := by
  unfold State.setPool
  try dsimp only
  repeat' first
    | exact (rfl : (_ : Bool) = _)
    | with_reducible exact Only.refl
    | with_reducible apply Only.step (only_State_setBit ..)
    | with_reducible apply Only.step (only_State_setFld ..)

theorem only_State_draw (s : State) : Only [.freeIx, .regs] s (State.draw s) := by
  unfold State.draw
  try dsimp only
  repeat' first
    | exact (rfl : (_ : Bool) = _)
    | with_reducible exact Only.refl
    | with_reducible apply Only.step (only_State_setPool ..)
    | with_reducible apply Only.step (only_State_used ..)

theorem only_State_entropyFail (s : State) (tag : Nat) : Only [.regs, .hfe, .cip] s (State.entropyFail s tag) := by
  unfold State.entropyFail
  try dsimp only
  repeat' first
    | exact (rfl : (_ : Bool) = _)
    | exact Or.inl (by decide)
    | with_reducible exact Or.inr rfl
    | with_reducible exact Only.refl
    | with_reducible assumption
    | with_reducible refine Only.ite ?_ ?_
    | with_reducible apply Only.step (only_State_collect ..)
    | (dsimp only [Only.mk_form]; with_reducible apply OnlyMk.intro (h0 := .inr rfl))
    | split
    | refine Only.ite ?_ ?_

theorem only_State_advanceMark (s : State) (nsid : Nat) : Only [.regs, .cip, .capo] s (State.advanceMark s nsid) := by
  unfold State.advanceMark
  try dsimp only
  repeat' first
    | exact (rfl : (_ : Bool) = _)
    | exact Or.inl (by decide)
    | with_reducible exact Or.inr rfl
    | with_reducible exact Only.refl
    | with_reducible assumption
    | with_reducible refine Only.ite ?_ ?_
    | with_reducible apply Only.step (only_State_mirror ..)
    | (dsimp only [Only.mk_form]; with_reducible apply OnlyMk.intro (h0 := .inr rfl))
    | split
    | refine Only.ite ?_ ?_

theorem only_State_nonceWarn (s : State) (nsid ctr : Nat) : Only [.regs, .evr] s (State.nonceWarn s nsid ctr) := by
  unfold State.nonceWarn
  try dsimp only
  repeat' first
    | exact (rfl : (_ : Bool) = _)
    | with_reducible exact Only.refl
    | with_reducible refine Only.ite ?_ ?_
    | with_reducible apply Only.step (only_State_emit ..)
    | with_reducible apply Only.step (only_State_setBit ..)
    | split
    | refine Only.ite ?_ ?_

theorem only_State_encrypt (s : State) (tag : Nat) : Only [.freeIx, .regs, .evr, .hfe, .cip, .capo] s (State.encrypt s tag) := by
  unfold State.encrypt
  try dsimp only
  repeat' first
    | exact (rfl : (_ : Bool) = _)
    | exact Or.inl (by decide)
    | with_reducible exact Or.inr rfl
    | with_reducible exact Only.refl
    | with_reducible assumption
    | with_reducible refine Only.ite ?_ ?_
    | with_reducible apply Only.step (only_State_advanceMark ..)
    | with_reducible apply Only.step (only_State_collect ..)
    | with_reducible apply Only.step (only_State_draw ..)
    | with_reducible apply Only.step (only_State_nonceWarn ..)
    | with_reducible apply Only.step (only_State_putCmd ..)
    | (dsimp only [Only.mk_form]; with_reducible apply OnlyMk.intro (h0 := .inr rfl))
    | split
    | dsimp only
    | refine Only.ite ?_ ?_

theorem only_State_putPipe (s : State) (pipe : Nat) (m : CMsg) : Only [.cip] s (State.putPipe s pipe m) := by
  unfold State.putPipe
  try dsimp only
  repeat' first
    | exact (rfl : (_ : Bool) = _)
    | exact Or.inl (by decide)
    | with_reducible exact Or.inr rfl
    | with_reducible exact Only.refl
    | (dsimp only [Only.mk_form]; with_reducible apply OnlyMk.intro (h0 := .inr rfl))

theorem only_State_showContexts (s : State) : Only [.regs] s (State.showContexts s) := by
  unfold State.showContexts
  try dsimp only
  repeat' first
    | exact (rfl : (_ : Bool) = _)
    | with_reducible exact Only.refl
    | with_reducible apply Only.step (only_State_setFld ..)

theorem only_State_keyDone (s : State) (err : Nat) : Only [.regs] s (State.keyDone s err) := by
  unfold State.keyDone
  try dsimp only
  repeat' first
    | exact (rfl : (_ : Bool) = _)
    | with_reducible exact Only.refl
    | with_reducible apply Only.step (only_State_setBit ..)
    | with_reducible apply Only.step (only_State_setFld ..)

theorem only_State_loadKey (s : State) (nsid ref key : Nat) : Only [.freeIx, .regs, .rbe, .cip, .capo] s (State.loadKey s nsid ref key) := by
  unfold State.loadKey
  try dsimp only
  repeat' first
    | exact (rfl : (_ : Bool) = _)
    | exact Or.inl (by decide)
    | with_reducible exact Or.inr rfl
    | with_reducible exact Only.refl
    | with_reducible assumption
    | with_reducible refine Only.ite ?_ ?_
    | with_reducible apply Only.step (only_State_advanceMark ..)
    | with_reducible apply Only.step (only_State_draw ..)
    | with_reducible apply Only.step (only_State_mirror ..)
    | with_reducible apply Only.step (only_State_putArr ..)
    | (dsimp only [Only.mk_form]; with_reducible apply OnlyMk.intro (h0 := .inr rfl))
    | split
    | dsimp only
    | refine Only.ite ?_ ?_

theorem only_State_zeroize (s : State) : Only [.regs, .hfe, .wc, .cip] s (State.zeroize s) := by
  unfold State.zeroize
  try dsimp only
  repeat' first
    | exact (rfl : (_ : Bool) = _)
    | exact Or.inl (by decide)
    | with_reducible exact Or.inr rfl
    | with_reducible exact Only.refl
    | with_reducible apply Only.step (only_State_dropKeys ..)
    | with_reducible apply Only.step (only_State_setBit ..)
    | with_reducible apply Only.step (only_State_showContexts ..)
    | (dsimp only [Only.mk_form]; with_reducible apply OnlyMk.intro (h0 := .inr rfl))

theorem only_State_tamperCfg (s : State) (v : Nat) : Only [.regs] s (State.tamperCfg s v) := by
  unfold State.tamperCfg
  try dsimp only
  repeat' first
    | exact (rfl : (_ : Bool) = _)
    | with_reducible exact Only.refl
    | with_reducible refine Only.ite ?_ ?_
    | with_reducible apply Only.step (only_State_setBit ..)
    | with_reducible apply Only.step (only_State_setFld ..)
    | split
    | refine Only.ite ?_ ?_

theorem only_State_enterTamperHold (s : State) : Only [.regs, .pwr] s (State.enterTamperHold s) := by
  unfold State.enterTamperHold
  try dsimp only
  repeat' first
    | exact (rfl : (_ : Bool) = _)
    | exact Or.inl (by decide)
    | with_reducible exact Or.inr rfl
    | with_reducible exact Only.refl
    | with_reducible apply Only.step (only_State_setBit ..)
    | (dsimp only [Only.mk_form]; with_reducible apply OnlyMk.intro (h0 := .inr rfl))
    | dsimp only


/-! ### Machine/NrgOps.lean -/

theorem only_State_putPack (s : State) (p : PackId) (x : Pack) : Only [.nrg] s (State.putPack s p x) := by
  unfold State.putPack
  try dsimp only
  repeat' first
    | exact (rfl : (_ : Bool) = _)
    | exact Or.inl (by decide)
    | with_reducible exact Or.inr rfl
    | with_reducible exact Only.refl
    | (dsimp only [Only.mk_form]; with_reducible apply OnlyMk.intro (h0 := .inr rfl))

theorem only_State_moveSoc (s : State) (p : PackId) : Only [.regs, .nrg] s (State.moveSoc s p) := by
  unfold State.moveSoc
  try dsimp only
  repeat' first
    | exact (rfl : (_ : Bool) = _)
    | exact Or.inl (by decide)
    | with_reducible exact Or.inr rfl
    | with_reducible exact Only.refl
    | with_reducible refine Only.ite ?_ ?_
    | with_reducible apply Only.step (only_State_putPack ..)
    | with_reducible apply Only.step (only_State_setFld ..)
    | (dsimp only [Only.mk_form]; with_reducible apply OnlyMk.intro (h0 := .inr rfl))
    | split
    | refine Only.ite ?_ ?_

theorem only_State_showPack (s : State) (p : PackId) : Only [.regs, .hfe] s (State.showPack s p) := by
  unfold State.showPack
  try dsimp only
  repeat' first
    | exact (rfl : (_ : Bool) = _)
    | with_reducible exact Only.refl
    | with_reducible assumption
    | with_reducible refine Only.ite ?_ ?_
    | with_reducible apply Only.step (only_State_setBit ..)
    | with_reducible apply Only.step (only_State_setFld ..)
    | with_reducible apply Only.step (only_State_smartWarn ..)
    | split
    | dsimp only
    | refine Only.ite ?_ ?_

theorem only_State_showNrg (s : State) : Only [.regs, .hfe] s (State.showNrg s) := by
  unfold State.showNrg
  try dsimp only
  repeat' first
    | exact (rfl : (_ : Bool) = _)
    | with_reducible exact Only.refl
    | with_reducible assumption
    | with_reducible apply Only.step (only_State_setBit ..)
    | with_reducible apply Only.step (only_State_showPack ..)
    | split

theorem only_State_computeEnergy (s : State) : Only [.regs, .evr, .hfe, .wc] s (State.computeEnergy s) := by
  unfold State.computeEnergy
  try dsimp only
  repeat' first
    | exact (rfl : (_ : Bool) = _)
    | with_reducible exact Only.refl
    | with_reducible apply Only.step (only_State_noteUnprot ..)
    | with_reducible apply Only.step (only_State_setFld ..)
    | with_reducible apply Only.step (only_State_showNrg ..)

theorem only_State_takeSample (s : State) (p : PackId) (v : PackSample) : Only [.regs, .nrg] s (State.takeSample s p v) := by
  unfold State.takeSample
  try dsimp only
  repeat' first
    | exact (rfl : (_ : Bool) = _)
    | exact Or.inl (by decide)
    | with_reducible exact Or.inr rfl
    | with_reducible exact Only.refl
    | with_reducible assumption
    | with_reducible refine Only.ite ?_ ?_
    | with_reducible apply Only.step (only_State_putPack ..)
    | with_reducible apply Only.step (only_State_setBit ..)
    | with_reducible apply Only.step (only_State_setFld ..)
    | (dsimp only [Only.mk_form]; with_reducible apply OnlyMk.intro (h0 := .inr rfl))
    | split
    | refine Only.ite ?_ ?_

theorem only_State_restoreEn (s : State) (p : PackId) : Only [.nrg] s (State.restoreEn s p) := by
  unfold State.restoreEn
  try dsimp only
  repeat' first
    | exact (rfl : (_ : Bool) = _)
    | exact Or.inl (by decide)
    | with_reducible exact Or.inr rfl
    | with_reducible exact Only.refl
    | with_reducible apply Only.step (only_State_putPack ..)
    | (dsimp only [Only.mk_form]; with_reducible apply OnlyMk.intro (h0 := .inr rfl))

theorem only_State_setHoldup (s : State) (b : Bool) : Only [.regs] s (State.setHoldup s b) := by
  unfold State.setHoldup
  try dsimp only
  repeat' first
    | exact (rfl : (_ : Bool) = _)
    | with_reducible exact Only.refl
    | with_reducible apply Only.step (only_State_setBit ..)

theorem only_State_requestTest (s : State) (p : PackId) : Only [.nrg] s (State.requestTest s p) := by
  unfold State.requestTest
  try dsimp only
  repeat' first
    | exact (rfl : (_ : Bool) = _)
    | exact Or.inl (by decide)
    | with_reducible exact Or.inr rfl
    | with_reducible exact Only.refl
    | with_reducible refine Only.ite ?_ ?_
    | (dsimp only [Only.mk_form]; with_reducible apply OnlyMk.intro (h0 := .inr rfl))
    | split
    | refine Only.ite ?_ ?_

theorem only_State_endNrgCmd (s : State) (p : PackId) : Only [.regs, .nrg] s (State.endNrgCmd s p) := by
  unfold State.endNrgCmd
  try dsimp only
  repeat' first
    | exact (rfl : (_ : Bool) = _)
    | exact Or.inl (by decide)
    | with_reducible exact Or.inr rfl
    | with_reducible exact Only.refl
    | with_reducible refine Only.ite ?_ ?_
    | with_reducible apply Only.step (only_State_setBit ..)
    | (dsimp only [Only.mk_form]; with_reducible apply OnlyMk.intro (h0 := .inr rfl))
    | split
    | refine Only.ite ?_ ?_

theorem only_State_socStart (s : State) (p : PackId) : Only [.regs, .evr, .hfe, .wc, .nrg] s (State.socStart s p) := by
  unfold State.socStart
  try dsimp only
  repeat' first
    | exact (rfl : (_ : Bool) = _)
    | exact Or.inl (by decide)
    | with_reducible exact Or.inr rfl
    | with_reducible exact Only.refl
    | with_reducible refine Only.ite ?_ ?_
    | with_reducible apply Only.step (only_State_computeEnergy ..)
    | with_reducible apply Only.step (only_State_putPack ..)
    | with_reducible apply Only.step (only_State_setFld ..)
    | (dsimp only [Only.mk_form]; with_reducible apply OnlyMk.intro (h0 := .inr rfl))
    | split
    | refine Only.ite ?_ ?_

theorem only_State_endTest (s : State) (p : PackId) (result : Nat) : Only [.regs, .evr, .hfe, .wc, .nrg] s (State.endTest s p result) := by
  unfold State.endTest
  try dsimp only
  repeat' first
    | exact (rfl : (_ : Bool) = _)
    | exact Or.inl (by decide)
    | with_reducible exact Or.inr rfl
    | with_reducible exact Only.refl
    | with_reducible assumption
    | with_reducible refine Only.ite ?_ ?_
    | with_reducible apply Only.step (only_State_emit ..)
    | with_reducible apply Only.step (only_State_endNrgCmd ..)
    | with_reducible apply Only.step (only_State_putPack ..)
    | with_reducible apply Only.step (only_State_restoreEn ..)
    | with_reducible apply Only.step (only_State_setFld ..)
    | with_reducible apply Only.step (only_State_setHoldup ..)
    | with_reducible apply Only.step (only_State_showNrg ..)
    | with_reducible apply Only.step (only_State_socStart ..)
    | (dsimp only [Only.mk_form]; with_reducible apply OnlyMk.intro (h0 := .inr rfl))
    | split
    | refine Only.ite ?_ ?_

theorem only_State_abortTest (s : State) (p : PackId) : Only [.regs, .evr, .hfe, .wc, .nrg] s (State.abortTest s p) := by
  unfold State.abortTest
  try dsimp only
  repeat' first
    | exact (rfl : (_ : Bool) = _)
    | with_reducible exact Only.refl
    | with_reducible refine Only.ite ?_ ?_
    | with_reducible apply Only.step (only_State_endTest ..)
    | split
    | refine Only.ite ?_ ?_

theorem only_State_replacePack (s : State) (p : PackId) : Only [.evr, .nrg] s (State.replacePack s p) := by
  unfold State.replacePack
  try dsimp only
  repeat' first
    | exact (rfl : (_ : Bool) = _)
    | exact Or.inl (by decide)
    | with_reducible exact Or.inr rfl
    | with_reducible exact Only.refl
    | with_reducible apply Only.step (only_State_emit ..)
    | with_reducible apply Only.step (only_State_putPack ..)
    | (dsimp only [Only.mk_form]; with_reducible apply OnlyMk.intro (h0 := .inr rfl))

theorem only_State_judgeTest (s : State) (p : PackId) (t : TestRun) : Only [.regs, .evr, .hfe, .wc, .nrg] s (State.judgeTest s p t) := by
  unfold State.judgeTest
  try dsimp only
  repeat' first
    | exact (rfl : (_ : Bool) = _)
    | exact Or.inl (by decide)
    | with_reducible exact Or.inr rfl
    | with_reducible exact Only.refl
    | with_reducible assumption
    | with_reducible refine Only.ite ?_ ?_
    | with_reducible apply Only.step (only_State_endTest ..)
    | with_reducible apply Only.step (only_State_putPack ..)
    | with_reducible apply Only.step (only_State_replacePack ..)
    | (dsimp only [Only.mk_form]; with_reducible apply OnlyMk.intro (h0 := .inr rfl))
    | split
    | dsimp only
    | refine Only.ite ?_ ?_

theorem only_State_beginLearn (s : State) (p : PackId) : Only [.regs, .hfe, .nrg] s (State.beginLearn s p) := by
  unfold State.beginLearn
  try dsimp only
  repeat' first
    | exact (rfl : (_ : Bool) = _)
    | exact Or.inl (by decide)
    | with_reducible exact Or.inr rfl
    | with_reducible exact Only.refl
    | with_reducible assumption
    | with_reducible apply Only.step (only_State_putPack ..)
    | with_reducible apply Only.step (only_State_showNrg ..)
    | (dsimp only [Only.mk_form]; with_reducible apply OnlyMk.intro (h0 := .inr rfl))
    | split
    | dsimp only

theorem only_State_endLearn (s : State) (p : PackId) (result : Nat) : Only [.regs, .hfe, .nrg] s (State.endLearn s p result) := by
  unfold State.endLearn
  try dsimp only
  repeat' first
    | exact (rfl : (_ : Bool) = _)
    | exact Or.inl (by decide)
    | with_reducible exact Or.inr rfl
    | with_reducible exact Only.refl
    | with_reducible apply Only.step (only_State_putPack ..)
    | with_reducible apply Only.step (only_State_setFld ..)
    | with_reducible apply Only.step (only_State_showNrg ..)
    | (dsimp only [Only.mk_form]; with_reducible apply OnlyMk.intro (h0 := .inr rfl))
    | dsimp only

theorem only_State_showCal (s : State) : Only [.regs] s (State.showCal s) := by
  unfold State.showCal
  try dsimp only
  repeat' first
    | exact (rfl : (_ : Bool) = _)
    | with_reducible exact Only.refl
    | with_reducible assumption
    | with_reducible refine Only.ite ?_ ?_
    | with_reducible apply Only.step (only_State_setBit ..)
    | with_reducible apply Only.step (only_State_setFld ..)
    | with_reducible refine Only.foldl (fun _ _ _ => ?_) ?_
    | split
    | refine Only.ite ?_ ?_

theorem only_State_loadTrims (s : State) : Only [.cal] s (State.loadTrims s) := by
  unfold State.loadTrims
  try dsimp only
  repeat' first
    | exact (rfl : (_ : Bool) = _)
    | exact Or.inl (by decide)
    | with_reducible exact Or.inr rfl
    | with_reducible exact Only.refl
    | with_reducible assumption
    | with_reducible refine Only.foldl (fun _ _ _ => ?_) ?_
    | (dsimp only [Only.mk_form]; with_reducible apply OnlyMk.intro (h0 := .inr rfl))
    | split

theorem only_State_writeLearned (s : State) (p : PackId) : Only [.regs, .cal, .nrg] s (State.writeLearned s p) := by
  unfold State.writeLearned
  try dsimp only
  repeat' first
    | exact (rfl : (_ : Bool) = _)
    | exact Or.inl (by decide)
    | with_reducible exact Or.inr rfl
    | with_reducible exact Only.refl
    | with_reducible refine Only.ite ?_ ?_
    | with_reducible apply Only.step (only_State_putPack ..)
    | with_reducible apply Only.step (only_State_showCal ..)
    | (dsimp only [Only.mk_form]; with_reducible apply OnlyMk.intro (h0 := .inr rfl))
    | split
    | refine Only.ite ?_ ?_


/-! ### Machine/UpdOps.lean -/

theorem only_State_putUpd (s : State) (u : Update) : Only [.wc] s (State.putUpd s u) := by
  unfold State.putUpd
  try dsimp only
  repeat' first
    | exact (rfl : (_ : Bool) = _)
    | exact Or.inl (by decide)
    | with_reducible exact Or.inr rfl
    | with_reducible exact Only.refl
    | with_reducible refine Only.ite ?_ ?_
    | (dsimp only [Only.mk_form]; with_reducible apply OnlyMk.intro (h0 := .inr rfl))
    | split
    | refine Only.ite ?_ ?_

theorem only_State_beginUpdate (s : State) (a : ArrayId) (r : Arr) (g : Geom) (previous : Bool) (stripe : Nat) (ls : List (Nat × Place × WcLine)) : Only [.wc, .ports] s (State.beginUpdate s a r g previous stripe ls) := by
  unfold State.beginUpdate
  try dsimp only
  repeat' first
    | exact (rfl : (_ : Bool) = _)
    | exact Or.inl (by decide)
    | with_reducible exact Or.inr rfl
    | with_reducible exact Only.refl
    | with_reducible assumption
    | with_reducible refine Only.ite ?_ ?_
    | with_reducible apply Only.step (only_State_updReads ..)
    | with_reducible refine Only.foldl (fun _ _ _ => ?_) ?_
    | with_reducible refine Only.foldlFst (fun _ _ _ => ?_) ?_
    | with_reducible refine Only.foldlSnd (fun _ _ _ => ?_) ?_
    | (dsimp only [Only.mk_form]; with_reducible apply OnlyMk.intro (h0 := .inr rfl))
    | split
    | dsimp only
    | refine Only.ite ?_ ?_

theorem only_State_startUpdate (s : State) (a : ArrayId) (stripe : Nat) (due : State → Geom → List (Nat × Place × WcLine) → Bool) : Only [.wc, .ports] s (State.startUpdate s a stripe due) := by
  unfold State.startUpdate
  try dsimp only
  repeat' first
    | exact (rfl : (_ : Bool) = _)
    | exact Or.inl (by decide)
    | with_reducible exact Or.inr rfl
    | with_reducible exact Only.refl
    | with_reducible assumption
    | with_reducible refine Only.ite ?_ ?_
    | with_reducible apply Only.step (only_State_beginUpdate ..)
    | (dsimp only [Only.mk_form]; with_reducible apply OnlyMk.intro (h0 := .inr rfl))
    | split
    | refine Only.ite ?_ ?_

theorem only_State_computeUpdate (s : State) (r : Arr) (g : Geom) (u : Update) : Only [.regs, .wc] s (State.computeUpdate s r g u) := by
  unfold State.computeUpdate
  try dsimp only
  repeat' first
    | exact (rfl : (_ : Bool) = _)
    | exact Or.inl (by decide)
    | with_reducible exact Or.inr rfl
    | with_reducible exact Only.refl
    | with_reducible apply Only.step (only_State_incFld ..)
    | with_reducible apply Only.step (only_State_putUpd ..)
    | (dsimp only [Only.mk_form]; with_reducible apply OnlyMk.intro (h0 := .inr rfl))
    | dsimp only

theorem only_State_issueData (s : State) (u : Update) : Only [.ports] s (State.issueData s u) := by
  unfold State.issueData
  try dsimp only
  repeat' first
    | exact (rfl : (_ : Bool) = _)
    | exact Or.inl (by decide)
    | with_reducible exact Or.inr rfl
    | with_reducible exact Only.refl
    | with_reducible assumption
    | with_reducible apply Only.step (only_State_updWrites ..)
    | (dsimp only [Only.mk_form]; with_reducible apply OnlyMk.intro (h0 := .inr rfl))
    | split
    | dsimp only

theorem only_State_fretReady (s : State) (id : Nat) : Only [.wc, .ports] s (State.fretReady s id) := by
  unfold State.fretReady
  try dsimp only
  repeat' first
    | exact (rfl : (_ : Bool) = _)
    | exact Or.inl (by decide)
    | with_reducible exact Or.inr rfl
    | with_reducible exact Only.refl
    | with_reducible assumption
    | with_reducible refine Only.ite ?_ ?_
    | with_reducible apply Only.step (only_State_issueData ..)
    | with_reducible apply Only.step (only_State_putUpd ..)
    | (dsimp only [Only.mk_form]; with_reducible apply OnlyMk.intro (h0 := .inr rfl))
    | split
    | refine Only.ite ?_ ?_

theorem only_State_issueSet (s : State) (id b : Nat) : Only [.regs, .wc, .capo] s (State.issueSet s id b) := by
  unfold State.issueSet
  try dsimp only
  repeat' first
    | exact (rfl : (_ : Bool) = _)
    | exact Or.inl (by decide)
    | with_reducible exact Or.inr rfl
    | with_reducible exact Only.refl
    | with_reducible refine Only.ite ?_ ?_
    | with_reducible apply Only.step (only_State_mirror ..)
    | (dsimp only [Only.mk_form]; with_reducible apply OnlyMk.intro (h0 := .inr rfl))
    | split
    | dsimp only
    | refine Only.ite ?_ ?_

theorem only_State_beginFret (s : State) (id : Nat) : Only [.regs, .wc, .ports, .capo] s (State.beginFret s id) := by
  unfold State.beginFret
  try dsimp only
  repeat' first
    | exact (rfl : (_ : Bool) = _)
    | exact Or.inl (by decide)
    | with_reducible exact Or.inr rfl
    | with_reducible exact Only.refl
    | with_reducible assumption
    | with_reducible apply Only.step (only_State_fretReady ..)
    | with_reducible apply Only.step (only_State_issueSet ..)
    | with_reducible apply Only.step (only_State_putUpd ..)
    | with_reducible refine Only.foldl (fun _ _ _ => ?_) ?_
    | (dsimp only [Only.mk_form]; with_reducible apply OnlyMk.intro (h0 := .inr rfl))
    | split

theorem only_State_putUnit (s : State) (r : Arr) (g : Geom) (stripe unit row : Nat) (full : Blob) (gen : Nat) (lost empty target : Bool) : Only [.rbe] s (State.putUnit s r g stripe unit row full gen lost empty target) := by
  unfold State.putUnit
  try dsimp only
  repeat' first
    | exact (rfl : (_ : Bool) = _)
    | exact Or.inl (by decide)
    | with_reducible exact Or.inr rfl
    | with_reducible exact Only.refl
    | with_reducible assumption
    | with_reducible refine Only.ite ?_ ?_
    | with_reducible apply Only.step (only_State_writeSec ..)
    | (dsimp only [Only.mk_form]; with_reducible apply OnlyMk.intro (h0 := .inr rfl))
    | split
    | refine Only.ite ?_ ?_

theorem only_State_clearLost (s : State) (a : ArrayId) (r : Arr) (g : Geom) (stripe row unit : Nat) (new : CSec) : Only [.regs, .rbe] s (State.clearLost s a r g stripe row unit new) := by
  unfold State.clearLost
  try dsimp only
  repeat' first
    | exact (rfl : (_ : Bool) = _)
    | with_reducible exact Only.refl
    | with_reducible refine Only.ite ?_ ?_
    | with_reducible apply Only.step (only_State_lostCleared ..)
    | split
    | refine Only.ite ?_ ?_

theorem only_State_writeNew6 (s : State) (r : Arr) (g : Geom) (u : Update) (x : UpdSector) : Only [.regs, .rbe] s (State.writeNew6 s r g u x) := by
  unfold State.writeNew6
  try dsimp only
  repeat' first
    | exact (rfl : (_ : Bool) = _)
    | with_reducible exact Only.refl
    | with_reducible apply Only.step (only_State_clearLost ..)
    | with_reducible apply Only.step (only_State_putUnit ..)

theorem only_State_writeRow (s : State) (r : Arr) (g : Geom) (u : Update) (row : Nat) : Only [.regs, .rbe] s (State.writeRow s r g u row) := by
  unfold State.writeRow
  try dsimp only
  repeat' first
    | exact (rfl : (_ : Bool) = _)
    | with_reducible exact Only.refl
    | with_reducible assumption
    | with_reducible apply Only.step (only_State_writeNew6 ..)
    | with_reducible refine Only.foldl (fun _ _ _ => ?_) ?_

theorem only_State_dropCarried (s : State) (x : UpdSector) : Only [.regs, .evr, .hfe, .wc, .capo] s (State.dropCarried s x) := by
  unfold State.dropCarried
  try dsimp only
  repeat' first
    | exact (rfl : (_ : Bool) = _)
    | exact Or.inl (by decide)
    | with_reducible exact Or.inr rfl
    | with_reducible exact Only.refl
    | with_reducible assumption
    | with_reducible apply Only.step (only_State_deferError ..)
    | with_reducible apply Only.step (only_State_withLines ..)
    | (dsimp only [Only.mk_form]; with_reducible apply OnlyMk.intro (h0 := .inr rfl))
    | split
    | dsimp only

theorem only_State_writeLostRow (s : State) (r : Arr) (g : Geom) (u : Update) (row : Nat) : Only [.regs, .evr, .hfe, .wc, .rbe, .capo] s (State.writeLostRow s r g u row) := by
  unfold State.writeLostRow
  try dsimp only
  repeat' first
    | exact (rfl : (_ : Bool) = _)
    | exact Or.inl (by decide)
    | with_reducible exact Or.inr rfl
    | with_reducible exact Only.refl
    | with_reducible assumption
    | with_reducible refine Only.ite ?_ ?_
    | with_reducible apply Only.step (only_State_clearLost ..)
    | with_reducible apply Only.step (only_State_dropCarried ..)
    | with_reducible apply Only.step (only_State_listLost ..)
    | with_reducible apply Only.step (only_State_mirror ..)
    | with_reducible apply Only.step (only_State_putUnit ..)
    | with_reducible apply Only.step (only_State_putUpd ..)
    | with_reducible apply Only.step (only_State_reportLost ..)
    | with_reducible refine Only.foldl (fun _ _ _ => ?_) ?_
    | (dsimp only [Only.mk_form]; with_reducible apply OnlyMk.intro (h0 := .inr rfl))
    | split
    | dsimp only
    | refine Only.ite ?_ ?_

theorem only_State_writeData6 (s : State) (r : Arr) (g : Geom) (u : Update) : Only [.regs, .evr, .hfe, .wc, .rbe, .capo] s (State.writeData6 s r g u) := by
  unfold State.writeData6
  try dsimp only
  repeat' first
    | exact (rfl : (_ : Bool) = _)
    | with_reducible exact Only.refl
    | with_reducible assumption
    | with_reducible refine Only.ite ?_ ?_
    | with_reducible apply Only.step (only_State_writeLostRow ..)
    | with_reducible apply Only.step (only_State_writeRow ..)
    | with_reducible refine Only.foldl (fun _ _ _ => ?_) ?_
    | split
    | refine Only.ite ?_ ?_

theorem only_State_issueParity (s : State) (u : Update) : Only [.ports] s (State.issueParity s u) := by
  unfold State.issueParity
  try dsimp only
  repeat' first
    | exact (rfl : (_ : Bool) = _)
    | exact Or.inl (by decide)
    | with_reducible exact Or.inr rfl
    | with_reducible exact Only.refl
    | with_reducible assumption
    | with_reducible apply Only.step (only_State_updWrites ..)
    | (dsimp only [Only.mk_form]; with_reducible apply OnlyMk.intro (h0 := .inr rfl))
    | split
    | dsimp only

theorem only_State_writePq (s : State) (r : Arr) (g : Geom) (u : Update) (x : RowUnit) : Only [.rbe] s (State.writePq s r g u x) := by
  unfold State.writePq
  try dsimp only
  repeat' first
    | exact (rfl : (_ : Bool) = _)
    | with_reducible exact Only.refl
    | with_reducible apply Only.step (only_State_putUnit ..)

theorem only_State_writeParity7 (s : State) (r : Arr) (g : Geom) (u : Update) : Only [.rbe] s (State.writeParity7 s r g u) := by
  unfold State.writeParity7
  try dsimp only
  repeat' first
    | exact (rfl : (_ : Bool) = _)
    | with_reducible exact Only.refl
    | with_reducible assumption
    | with_reducible apply Only.step (only_State_writePq ..)
    | with_reducible refine Only.foldl (fun _ _ _ => ?_) ?_

theorem only_State_dataWritten (s : State) (port : PortId) (id : Nat) (c : MCmd) : Only [.rbe] s (State.dataWritten s port id c) := by
  unfold State.dataWritten
  try dsimp only
  repeat' first
    | exact (rfl : (_ : Bool) = _)
    | exact Or.inl (by decide)
    | with_reducible exact Or.inr rfl
    | with_reducible exact Only.refl
    | with_reducible assumption
    | with_reducible refine Only.ite ?_ ?_
    | with_reducible apply Only.step (only_State_putMedia ..)
    | with_reducible refine Only.foldl (fun _ _ _ => ?_) ?_
    | (dsimp only [Only.mk_form]; with_reducible apply OnlyMk.intro (h0 := .inr rfl))
    | split
    | dsimp only
    | refine Only.ite ?_ ?_

theorem only_State_tagsWritten (s : State) (id : Nat) (c : MCmd) : Only [.regs, .rbe] s (State.tagsWritten s id c) := by
  unfold State.tagsWritten
  try dsimp only
  repeat' first
    | exact (rfl : (_ : Bool) = _)
    | exact Or.inl (by decide)
    | with_reducible exact Or.inr rfl
    | with_reducible exact Only.refl
    | with_reducible assumption
    | with_reducible refine Only.ite ?_ ?_
    | with_reducible apply Only.step (only_State_writeNew6 ..)
    | with_reducible apply Only.step (only_State_writePq ..)
    | with_reducible refine Only.foldl (fun _ _ _ => ?_) ?_
    | (dsimp only [Only.mk_form]; with_reducible apply OnlyMk.intro (h0 := .inr rfl))
    | split
    | dsimp only
    | refine Only.ite ?_ ?_

theorem only_State_finishUpdate (s : State) (u : Update) : Only [.regs, .evr, .hfe, .wc, .capo] s (State.finishUpdate s u) := by
  unfold State.finishUpdate
  try dsimp only
  repeat' first
    | exact (rfl : (_ : Bool) = _)
    | exact Or.inl (by decide)
    | with_reducible exact Or.inr rfl
    | with_reducible exact Only.refl
    | with_reducible refine Only.ite ?_ ?_
    | with_reducible apply Only.step (only_State_destageWake ..)
    | with_reducible apply Only.step (only_State_incFld ..)
    | with_reducible apply Only.step (only_State_mirror ..)
    | with_reducible apply Only.step (only_State_noteLimit ..)
    | (dsimp only [Only.mk_form]; with_reducible apply OnlyMk.intro (h0 := .inr rfl))
    | split
    | dsimp only
    | refine Only.ite ?_ ?_

theorem only_State_placeEmpty (s : State) (c : HostCmd) : Only [.regs, .evr, .hfe, .wc, .capo] s (State.placeEmpty s c) := by
  unfold State.placeEmpty
  try dsimp only
  repeat' first
    | exact (rfl : (_ : Bool) = _)
    | exact Or.inl (by decide)
    | with_reducible exact Or.inr rfl
    | with_reducible exact Only.refl
    | with_reducible assumption
    | with_reducible apply Only.step (only_State_noteLimit ..)
    | with_reducible apply Only.step (only_State_place ..)
    | with_reducible apply Only.step (only_State_putCmd ..)
    | with_reducible refine Only.foldl (fun _ _ _ => ?_) ?_
    | (dsimp only [Only.mk_form]; with_reducible apply OnlyMk.intro (h0 := .inr rfl))

theorem only_State_goPlace (s : State) (tag : Nat) : Only [.freeIx, .regs, .evr, .hfe, .wc, .cip, .capo] s (State.goPlace s tag) := by
  unfold State.goPlace
  try dsimp only
  repeat' first
    | exact (rfl : (_ : Bool) = _)
    | exact Or.inl (by decide)
    | with_reducible exact Or.inr rfl
    | with_reducible exact Only.refl
    | with_reducible assumption
    | with_reducible refine Only.ite ?_ ?_
    | with_reducible apply Only.step (only_State_encrypt ..)
    | with_reducible apply Only.step (only_State_placeEmpty ..)
    | (dsimp only [Only.mk_form]; with_reducible apply OnlyMk.intro (h0 := .inr rfl))
    | split
    | refine Only.ite ?_ ?_

theorem only_State_reserve (s : State) (c : HostCmd) : Only [.freeIx, .regs, .evr, .hfe, .wc, .cip, .capo] s (State.reserve s c) := by
  unfold State.reserve
  try dsimp only
  repeat' first
    | exact (rfl : (_ : Bool) = _)
    | exact Or.inl (by decide)
    | with_reducible exact Or.inr rfl
    | with_reducible exact Only.refl
    | with_reducible assumption
    | with_reducible refine Only.ite ?_ ?_
    | with_reducible apply Only.step (only_State_goPlace ..)
    | with_reducible apply Only.step (only_State_putCmd ..)
    | (dsimp only [Only.mk_form]; with_reducible apply OnlyMk.intro (h0 := .inr rfl))
    | split
    | refine Only.ite ?_ ?_

theorem only_State_admitList (s : State) (l : List HostCmd) (fits : State → HostCmd → Bool) : Only [.freeIx, .regs, .evr, .hfe, .wc, .cip, .capo] s (State.admitList s l fits) := by
  fun_induction State.admitList s l fits
  all_goals try dsimp only
  all_goals repeat' first
    | exact (rfl : (_ : Bool) = _)
    | exact Or.inl (by decide)
    | with_reducible exact Or.inr rfl
    | with_reducible exact Only.refl
    | with_reducible assumption
    | with_reducible refine Only.ite ?_ ?_
    | with_reducible apply Only.step (only_State_goPlace ..)
    | with_reducible apply Only.step (only_State_putCmd ..)
    | (dsimp only [Only.mk_form]; with_reducible apply OnlyMk.intro (h0 := .inr rfl))
    | split
    | refine Only.ite ?_ ?_
    | refine Only.step (by with_reducible assumption) (by decide) ?_

theorem only_State_admitAll (s : State) : Only [.freeIx, .regs, .evr, .hfe, .wc, .cip, .capo] s (State.admitAll s) := by
  unfold State.admitAll
  try dsimp only
  repeat' first
    | exact (rfl : (_ : Bool) = _)
    | with_reducible exact Only.refl
    | with_reducible apply Only.step (only_State_admitList ..)

theorem only_State_mirrorWake (s : State) : Only [.regs, .hfe, .wc, .ports, .capo] s (State.mirrorWake s) := by
  unfold State.mirrorWake
  try dsimp only
  repeat' first
    | exact (rfl : (_ : Bool) = _)
    | exact Or.inl (by decide)
    | with_reducible exact Or.inr rfl
    | with_reducible exact Only.refl
    | with_reducible assumption
    | with_reducible refine Only.ite ?_ ?_
    | with_reducible apply Only.step (only_State_beginFret ..)
    | with_reducible apply Only.step (only_State_fretReady ..)
    | with_reducible apply Only.step (only_State_putCmd ..)
    | with_reducible apply Only.step (only_State_writeReady ..)
    | with_reducible refine Only.foldl (fun _ _ _ => ?_) ?_
    | (dsimp only [Only.mk_form]; with_reducible apply OnlyMk.intro (h0 := .inr rfl))
    | split
    | refine Only.ite ?_ ?_

theorem only_State_nextEpoch (s : State) (n : Nat) : Only [.regs] s (State.nextEpoch s n) := by
  unfold State.nextEpoch
  try dsimp only
  repeat' first
    | exact (rfl : (_ : Bool) = _)
    | with_reducible exact Only.refl
    | with_reducible apply Only.step (only_State_satFld ..)

theorem only_State_loseMirror (s : State) : Only [.regs, .evr, .hfe, .wc, .ports, .capo] s (State.loseMirror s) := by
  unfold State.loseMirror
  try dsimp only
  repeat' first
    | exact (rfl : (_ : Bool) = _)
    | exact Or.inl (by decide)
    | with_reducible exact Or.inr rfl
    | with_reducible exact Only.refl
    | with_reducible refine Only.ite ?_ ?_
    | with_reducible apply Only.step (only_State_emit ..)
    | with_reducible apply Only.step (only_State_mirrorWake ..)
    | with_reducible apply Only.step (only_State_nextEpoch ..)
    | with_reducible apply Only.step (only_State_recomputeLimit ..)
    | with_reducible apply Only.step (only_State_setBit ..)
    | (dsimp only [Only.mk_form]; with_reducible apply OnlyMk.intro (h0 := .inr rfl))
    | split
    | refine Only.ite ?_ ?_

theorem only_State_issueClear (s : State) (b : Nat) : Only [.regs, .wc, .capo] s (State.issueClear s b) := by
  unfold State.issueClear
  try dsimp only
  repeat' first
    | exact (rfl : (_ : Bool) = _)
    | exact Or.inl (by decide)
    | with_reducible exact Or.inr rfl
    | with_reducible exact Only.refl
    | with_reducible apply Only.step (only_State_mirror ..)
    | (dsimp only [Only.mk_form]; with_reducible apply OnlyMk.intro (h0 := .inr rfl))
    | dsimp only

theorem only_State_fretCut (s : State) : Only [.freeIx, .wc] s (State.fretCut s) := by
  unfold State.fretCut
  try dsimp only
  repeat' first
    | exact (rfl : (_ : Bool) = _)
    | exact Or.inl (by decide)
    | with_reducible exact Or.inr rfl
    | with_reducible exact Only.refl
    | with_reducible assumption
    | with_reducible refine Only.ite ?_ ?_
    | with_reducible apply Only.step (only_State_used ..)
    | with_reducible refine Only.foldl (fun _ _ _ => ?_) ?_
    | (dsimp only [Only.mk_form]; with_reducible apply OnlyMk.intro (h0 := .inr rfl))
    | split
    | refine Only.ite ?_ ?_

theorem only_State_restoreSector (s : State) (d : DumpSector) : Only [.wc] s (State.restoreSector s d) := by
  unfold State.restoreSector
  try dsimp only
  repeat' first
    | exact (rfl : (_ : Bool) = _)
    | exact Or.inl (by decide)
    | with_reducible exact Or.inr rfl
    | with_reducible exact Only.refl
    | with_reducible assumption
    | with_reducible refine Only.ite ?_ ?_
    | (dsimp only [Only.mk_form]; with_reducible apply OnlyMk.intro (h0 := .inr rfl))
    | split
    | refine Only.ite ?_ ?_


/-! ### Machine/ImgOps.lean -/

theorem only_State_setCopy (s : State) (n : Nat) (c : CopyRead) : Only [.img] s (State.setCopy s n c) := by
  unfold State.setCopy
  try dsimp only
  repeat' first
    | exact (rfl : (_ : Bool) = _)
    | exact Or.inl (by decide)
    | with_reducible exact Or.inr rfl
    | with_reducible exact Only.refl
    | with_reducible refine Only.ite ?_ ?_
    | (dsimp only [Only.mk_form]; with_reducible apply OnlyMk.intro (h0 := .inr rfl))
    | split
    | refine Only.ite ?_ ?_

theorem only_State_showCopies (s : State) : Only [.regs] s (State.showCopies s) := by
  unfold State.showCopies
  try dsimp only
  repeat' first
    | exact (rfl : (_ : Bool) = _)
    | exact Or.inl (by decide)
    | with_reducible exact Or.inr rfl
    | with_reducible exact Only.refl
    | with_reducible assumption
    | with_reducible apply Only.step (only_State_setBit ..)
    | with_reducible apply Only.step (only_State_setFld ..)
    | with_reducible refine Only.foldl (fun _ _ _ => ?_) ?_
    | (dsimp only [Only.mk_form]; with_reducible apply OnlyMk.intro (h0 := .inr rfl))
    | split

theorem only_State_showRewrite (s : State) : Only [.regs] s (State.showRewrite s) := by
  unfold State.showRewrite
  try dsimp only
  repeat' first
    | exact (rfl : (_ : Bool) = _)
    | with_reducible exact Only.refl
    | with_reducible apply Only.step (only_State_setBit ..)

theorem only_State_showRunning (s : State) : Only [.regs] s (State.showRunning s) := by
  unfold State.showRunning
  try dsimp only
  repeat' first
    | exact (rfl : (_ : Bool) = _)
    | with_reducible exact Only.refl
    | with_reducible apply Only.step (only_State_setFld ..)

theorem only_State_newMember (s : State) (p : PortId) (st : MemState) : Only [.freeIx] s (State.newMember s p st).2 := by
  unfold State.newMember
  try dsimp only
  repeat' first
    | exact (rfl : (_ : Bool) = _)
    | with_reducible exact Only.refl
    | with_reducible apply Only.step (only_State_used ..)
    | dsimp only

theorem only_State_newMembers (s : State) (st : MemState) (y0 : List PortId) : Only [.freeIx] s (State.newMembers s st y0).2 := by
  induction y0 generalizing s with
  | nil => exact Only.refl
  | cons p r ih =>
    simp only [State.newMembers]
    exact Only.step (ih _) (by decide) (only_State_newMember _ _ _)

theorem only_State_createArr (s : State) (e : ArrEntry) (n : NewArray) (fresh : Bool) : Only [.freeIx, .rbe, .ports] s (State.createArr s e n fresh) := by
  unfold State.createArr
  try dsimp only
  repeat' first
    | exact (rfl : (_ : Bool) = _)
    | exact Or.inl (by decide)
    | with_reducible exact Or.inr rfl
    | with_reducible exact Only.refl
    | with_reducible assumption
    | with_reducible refine Only.ite ?_ ?_
    | with_reducible apply Only.step (only_State_newMembers ..)
    | with_reducible apply Only.step (only_State_putArr ..)
    | with_reducible apply Only.step (only_State_putMedia ..)
    | with_reducible apply Only.step (only_State_rewriteLabels ..)
    | with_reducible refine Only.foldl (fun _ _ _ => ?_) ?_
    | with_reducible refine Only.foldlFst (fun _ _ _ => ?_) ?_
    | with_reducible refine Only.foldlSnd (fun _ _ _ => ?_) ?_
    | (dsimp only [Only.mk_form]; with_reducible apply OnlyMk.intro (h0 := .inr rfl))
    | split
    | dsimp only
    | refine Only.ite ?_ ?_
    | refine Only.step (Only.ofSnd (only_State_newMembers _ _ _) (by with_reducible assumption)) (by decide) ?_

theorem only_State_startReshape (s : State) (e : ArrEntry) (r : Arr) : Only [.freeIx, .wc, .rbe, .ports] s (State.startReshape s e r) := by
  unfold State.startReshape
  try dsimp only
  repeat' first
    | exact (rfl : (_ : Bool) = _)
    | exact Or.inl (by decide)
    | with_reducible exact Or.inr rfl
    | with_reducible exact Only.refl
    | with_reducible assumption
    | with_reducible refine Only.ite ?_ ?_
    | with_reducible apply Only.step (only_State_newMember ..)
    | with_reducible apply Only.step (only_State_putArr ..)
    | with_reducible apply Only.step (only_State_putMedia ..)
    | with_reducible apply Only.step (only_State_rewriteLabels ..)
    | with_reducible refine Only.foldl (fun _ _ _ => ?_) ?_
    | with_reducible refine Only.foldlFst (fun _ _ _ => ?_) ?_
    | with_reducible refine Only.foldlSnd (fun _ _ _ => ?_) ?_
    | (dsimp only [Only.mk_form]; with_reducible apply OnlyMk.intro (h0 := .inr rfl))
    | split
    | dsimp only
    | refine Only.ite ?_ ?_
    | refine Only.step (Only.ofSnd (only_State_newMember _ _ _) (by with_reducible assumption)) (by decide) ?_

theorem only_State_applyEntry (s : State) (e : ArrEntry) (news : List NewArray) (fresh : Bool) : Only [.freeIx, .wc, .rbe, .ports] s (State.applyEntry s e news fresh) := by
  unfold State.applyEntry
  try dsimp only
  repeat' first
    | exact (rfl : (_ : Bool) = _)
    | exact Or.inl (by decide)
    | with_reducible exact Or.inr rfl
    | with_reducible exact Only.refl
    | with_reducible assumption
    | with_reducible refine Only.ite ?_ ?_
    | with_reducible apply Only.step (only_State_createArr ..)
    | with_reducible apply Only.step (only_State_putArr ..)
    | with_reducible apply Only.step (only_State_startReshape ..)
    | (dsimp only [Only.mk_form]; with_reducible apply OnlyMk.intro (h0 := .inr rfl))
    | split
    | dsimp only
    | refine Only.ite ?_ ?_

theorem only_State_relabel (s : State) (old : Option Image) (i : Image) : Only [.rbe, .ports] s (State.relabel s old i) := by
  unfold State.relabel
  try dsimp only
  repeat' first
    | exact (rfl : (_ : Bool) = _)
    | with_reducible exact Only.refl
    | with_reducible assumption
    | with_reducible refine Only.ite ?_ ?_
    | with_reducible apply Only.step (only_State_rewriteLabels ..)
    | with_reducible refine Only.foldl (fun _ _ _ => ?_) ?_
    | split
    | refine Only.ite ?_ ?_

theorem only_State_applyImage (s : State) (i : Image) (news : List NewArray) (fresh : Bool) : Only [.freeIx, .regs, .img, .wc, .rbe, .ports] s (State.applyImage s i news fresh) := by
  unfold State.applyImage
  try dsimp only
  repeat' first
    | exact (rfl : (_ : Bool) = _)
    | exact Or.inl (by decide)
    | with_reducible exact Or.inr rfl
    | with_reducible exact Only.refl
    | with_reducible assumption
    | with_reducible apply Only.step (only_State_applyEntry ..)
    | with_reducible apply Only.step (only_State_relabel ..)
    | with_reducible apply Only.step (only_State_showCopies ..)
    | with_reducible apply Only.step (only_State_showRunning ..)
    | with_reducible refine Only.foldl (fun _ _ _ => ?_) ?_
    | with_reducible refine Only.foldlFst (fun _ _ _ => ?_) ?_
    | (dsimp only [Only.mk_form]; with_reducible apply OnlyMk.intro (h0 := .inr rfl))
    | dsimp only

theorem only_State_applyLive (s : State) (i : Image) : Only [.freeIx, .regs, .evr, .img, .hfe, .wc, .rbe, .ports] s (State.applyLive s i) := by
  unfold State.applyLive
  try dsimp only
  repeat' first
    | exact (rfl : (_ : Bool) = _)
    | exact Or.inl (by decide)
    | with_reducible exact Or.inr rfl
    | with_reducible exact Only.refl
    | with_reducible assumption
    | with_reducible refine Only.ite ?_ ?_
    | with_reducible apply Only.step (only_State_applyImage ..)
    | with_reducible apply Only.step (only_State_recomputeLimit ..)
    | with_reducible apply Only.step (only_State_spinupPort ..)
    | with_reducible refine Only.foldl (fun _ _ _ => ?_) ?_
    | (dsimp only [Only.mk_form]; with_reducible apply OnlyMk.intro (h0 := .inr rfl))
    | split
    | dsimp only
    | refine Only.ite ?_ ?_


/-! ### Machine/FanOps.lean -/

theorem only_State_showClock (s : State) : Only [.regs] s (State.showClock s) := by
  unfold State.showClock
  try dsimp only
  repeat' first
    | exact (rfl : (_ : Bool) = _)
    | with_reducible exact Only.refl
    | with_reducible apply Only.step (only_State_setFld ..)

theorem only_State_putFan (s : State) (n : FanId) (x : Fan) : Only [.fans] s (State.putFan s n x) := by
  unfold State.putFan
  try dsimp only
  repeat' first
    | exact (rfl : (_ : Bool) = _)
    | exact Or.inl (by decide)
    | with_reducible exact Or.inr rfl
    | with_reducible exact Only.refl
    | (dsimp only [Only.mk_form]; with_reducible apply OnlyMk.intro (h0 := .inr rfl))

theorem only_State_showFans (s : State) : Only [.regs, .fans] s (State.showFans s) := by
  unfold State.showFans
  try dsimp only
  repeat' first
    | exact (rfl : (_ : Bool) = _)
    | exact Or.inl (by decide)
    | with_reducible exact Or.inr rfl
    | with_reducible exact Only.refl
    | with_reducible assumption
    | with_reducible refine Only.ite ?_ ?_
    | with_reducible apply Only.step (only_State_incFld ..)
    | with_reducible apply Only.step (only_State_putFan ..)
    | with_reducible apply Only.step (only_State_setFld ..)
    | with_reducible refine Only.foldl (fun _ _ _ => ?_) ?_
    | (dsimp only [Only.mk_form]; with_reducible apply OnlyMk.intro (h0 := .inr rfl))
    | split
    | refine Only.ite ?_ ?_

theorem only_State_setFanState (s : State) (n : FanId) (v : Nat) : Only [.regs] s (State.setFanState s n v) := by
  unfold State.setFanState
  try dsimp only
  repeat' first
    | exact (rfl : (_ : Bool) = _)
    | with_reducible exact Only.refl
    | with_reducible apply Only.step (only_State_setFld ..)

theorem only_State_pwmPeriod (s : State) (n : FanId) (p : PwmPeriod) : Only [.regs, .fans] s (State.pwmPeriod s n p) := by
  unfold State.pwmPeriod
  try dsimp only
  repeat' first
    | exact (rfl : (_ : Bool) = _)
    | exact Or.inl (by decide)
    | with_reducible exact Or.inr rfl
    | with_reducible exact Only.refl
    | with_reducible refine Only.ite ?_ ?_
    | with_reducible apply Only.step (only_State_putFan ..)
    | with_reducible apply Only.step (only_State_satFld ..)
    | with_reducible apply Only.step (only_State_setBit ..)
    | (dsimp only [Only.mk_form]; with_reducible apply OnlyMk.intro (h0 := .inr rfl))
    | split
    | dsimp only
    | refine Only.ite ?_ ?_

theorem only_State_pwmRun (s : State) (n : FanId) (run : List PwmPeriod) : Only [.regs, .fans] s (State.pwmRun s n run) := by
  unfold State.pwmRun
  try dsimp only
  repeat' first
    | exact (rfl : (_ : Bool) = _)
    | with_reducible exact Only.refl
    | with_reducible assumption
    | with_reducible refine Only.ite ?_ ?_
    | with_reducible apply Only.step (only_State_pwmPeriod ..)
    | with_reducible refine Only.foldl (fun _ _ _ => ?_) ?_
    | split
    | refine Only.ite ?_ ?_

theorem only_State_writeFanBlock (s : State) (n : FanId) (est : List Nat) : Only [.regs, .cal, .fans] s (State.writeFanBlock s n est) := by
  unfold State.writeFanBlock
  try dsimp only
  repeat' first
    | exact (rfl : (_ : Bool) = _)
    | exact Or.inl (by decide)
    | with_reducible exact Or.inr rfl
    | with_reducible exact Only.refl
    | with_reducible apply Only.step (only_State_putFan ..)
    | with_reducible apply Only.step (only_State_showCal ..)
    | (dsimp only [Only.mk_form]; with_reducible apply OnlyMk.intro (h0 := .inr rfl))

theorem only_State_fanListen (s : State) (n : FanId) (attempt : Nat) : Only [.regs, .evr, .cal, .fans] s (State.fanListen s n attempt) := by
  unfold State.fanListen
  try dsimp only
  repeat' first
    | exact (rfl : (_ : Bool) = _)
    | exact Or.inl (by decide)
    | with_reducible exact Or.inr rfl
    | with_reducible exact Only.refl
    | with_reducible assumption
    | with_reducible refine Only.ite ?_ ?_
    | with_reducible apply Only.step (only_State_emit ..)
    | with_reducible apply Only.step (only_State_putFan ..)
    | with_reducible apply Only.step (only_State_setBit ..)
    | with_reducible apply Only.step (only_State_setFanState ..)
    | with_reducible apply Only.step (only_State_setFld ..)
    | with_reducible apply Only.step (only_State_writeFanBlock ..)
    | (dsimp only [Only.mk_form]; with_reducible apply OnlyMk.intro (h0 := .inr rfl))
    | split
    | refine Only.ite ?_ ?_

theorem only_State_refineFan (s : State) (n : FanId) (est : List Nat) : Only [.regs, .cal, .fans] s (State.refineFan s n est) := by
  unfold State.refineFan
  try dsimp only
  repeat' first
    | exact (rfl : (_ : Bool) = _)
    | exact Or.inl (by decide)
    | with_reducible exact Or.inr rfl
    | with_reducible exact Only.refl
    | with_reducible assumption
    | with_reducible refine Only.ite ?_ ?_
    | with_reducible apply Only.step (only_State_putFan ..)
    | with_reducible apply Only.step (only_State_writeFanBlock ..)
    | (dsimp only [Only.mk_form]; with_reducible apply OnlyMk.intro (h0 := .inr rfl))
    | split
    | dsimp only
    | refine Only.ite ?_ ?_

theorem only_State_updateFans (s : State) : Only [.regs, .evr, .cal, .fans] s (State.updateFans s) := by
  unfold State.updateFans
  try dsimp only
  repeat' first
    | exact (rfl : (_ : Bool) = _)
    | with_reducible exact Only.refl
    | with_reducible assumption
    | with_reducible refine Only.ite ?_ ?_
    | with_reducible apply Only.step (only_State_fanListen ..)
    | with_reducible apply Only.step (only_State_setBit ..)
    | with_reducible apply Only.step (only_State_setFanState ..)
    | with_reducible apply Only.step (only_State_setFld ..)
    | with_reducible apply Only.step (only_State_showFans ..)
    | with_reducible refine Only.foldl (fun _ _ _ => ?_) ?_
    | split
    | refine Only.ite ?_ ?_

theorem only_State_faultFan (s : State) (n : FanId) (cause : Nat) : Only [.regs, .evr, .cal, .fans] s (State.faultFan s n cause) := by
  unfold State.faultFan
  try dsimp only
  repeat' first
    | exact (rfl : (_ : Bool) = _)
    | with_reducible exact Only.refl
    | with_reducible apply Only.step (only_State_setBit ..)
    | with_reducible apply Only.step (only_State_setFanState ..)
    | with_reducible apply Only.step (only_State_setFld ..)
    | with_reducible apply Only.step (only_State_updateFans ..)

theorem only_State_failFan (s : State) (n : FanId) (cause : Nat) : Only [.regs, .evr, .cal, .fans] s (State.failFan s n cause) := by
  unfold State.failFan
  try dsimp only
  repeat' first
    | exact (rfl : (_ : Bool) = _)
    | with_reducible exact Only.refl
    | with_reducible refine Only.ite ?_ ?_
    | with_reducible apply Only.step (only_State_emit ..)
    | with_reducible apply Only.step (only_State_faultFan ..)
    | with_reducible apply Only.step (only_State_satFld ..)
    | with_reducible apply Only.step (only_State_setFanState ..)
    | with_reducible apply Only.step (only_State_showFans ..)
    | split
    | dsimp only
    | refine Only.ite ?_ ?_

theorem only_State_showPinLoss (s : State) : Only [.regs] s (State.showPinLoss s) := by
  unfold State.showPinLoss
  try dsimp only
  repeat' first
    | exact (rfl : (_ : Bool) = _)
    | with_reducible exact Only.refl
    | with_reducible apply Only.step (only_State_setBit ..)

theorem only_State_fansStart (s : State) : Only [.regs, .evr, .cal, .fans] s (State.fansStart s) := by
  unfold State.fansStart
  try dsimp only
  repeat' first
    | exact (rfl : (_ : Bool) = _)
    | with_reducible exact Only.refl
    | with_reducible assumption
    | with_reducible refine Only.ite ?_ ?_
    | with_reducible apply Only.step (only_State_setFanState ..)
    | with_reducible apply Only.step (only_State_setFld ..)
    | with_reducible apply Only.step (only_State_showPinLoss ..)
    | with_reducible apply Only.step (only_State_updateFans ..)
    | with_reducible refine Only.foldl (fun _ _ _ => ?_) ?_
    | split
    | refine Only.ite ?_ ?_


/-! ### Machine/ScOps.lean -/

theorem only_State_withSc (s : State) (c : Sc) : Only [.sc] s (State.withSc s c) := by
  unfold State.withSc
  try dsimp only
  repeat' first
    | exact (rfl : (_ : Bool) = _)
    | exact Or.inl (by decide)
    | with_reducible exact Or.inr rfl
    | with_reducible exact Only.refl
    | (dsimp only [Only.mk_form]; with_reducible apply OnlyMk.intro (h0 := .inr rfl))

theorem only_State_evPut (s : State) (l : ScLine) : Only [.sc] s (State.evPut s l) := by
  unfold State.evPut
  try dsimp only
  repeat' first
    | exact (rfl : (_ : Bool) = _)
    | exact Or.inl (by decide)
    | with_reducible exact Or.inr rfl
    | with_reducible exact Only.refl
    | with_reducible refine Only.ite ?_ ?_
    | with_reducible apply Only.step (only_State_withSc ..)
    | (dsimp only [Only.mk_form]; with_reducible apply OnlyMk.intro (h0 := .inr rfl))
    | split
    | refine Only.ite ?_ ?_

theorem only_State_scInstall (s : State) (l : ScLine) (allowed : List Nat) (asLru : Bool) : Only [.sc] s (State.scInstall s l allowed asLru).1 := by
  unfold State.scInstall
  try dsimp only
  repeat' first
    | exact (rfl : (_ : Bool) = _)
    | exact Or.inl (by decide)
    | with_reducible exact Or.inr rfl
    | with_reducible exact Only.refl
    | with_reducible assumption
    | with_reducible apply Only.step (only_State_evPut ..)
    | with_reducible apply Only.step (only_State_withSc ..)
    | (dsimp only [Only.mk_form]; with_reducible apply OnlyMk.intro (h0 := .inr rfl))
    | split
    | dsimp only

theorem only_State_scTouch (s : State) (k : Nat) : Only [.regs, .sc] s (State.scTouch s k) := by
  unfold State.scTouch
  try dsimp only
  repeat' first
    | exact (rfl : (_ : Bool) = _)
    | exact Or.inl (by decide)
    | with_reducible exact Or.inr rfl
    | with_reducible exact Only.refl
    | with_reducible assumption
    | with_reducible refine Only.ite ?_ ?_
    | with_reducible apply Only.step (only_State_incFld ..)
    | with_reducible apply Only.step (only_State_withSc ..)
    | (dsimp only [Only.mk_form]; with_reducible apply OnlyMk.intro (h0 := .inr rfl))
    | split
    | refine Only.ite ?_ ?_

theorem only_State_scPrefetch (s : State) (req line : Nat) : Only [.regs, .sc] s (State.scPrefetch s req line) := by
  unfold State.scPrefetch
  try dsimp only
  repeat' first
    | exact (rfl : (_ : Bool) = _)
    | exact Or.inl (by decide)
    | with_reducible exact Or.inr rfl
    | with_reducible exact Only.refl
    | with_reducible refine Only.ite ?_ ?_
    | with_reducible apply Only.step (only_State_incFld ..)
    | with_reducible apply Only.step (only_State_withSc ..)
    | (dsimp only [Only.mk_form]; with_reducible apply OnlyMk.intro (h0 := .inr rfl))
    | split
    | dsimp only
    | refine Only.ite ?_ ?_

theorem only_State_scRecall (s : State) (line : Nat) (w : List ScWait) : Only [.sc] s (State.scRecall s line w) := by
  unfold State.scRecall
  try dsimp only
  repeat' first
    | exact (rfl : (_ : Bool) = _)
    | exact Or.inl (by decide)
    | with_reducible exact Or.inr rfl
    | with_reducible exact Only.refl
    | with_reducible apply Only.step (only_State_withSc ..)
    | (dsimp only [Only.mk_form]; with_reducible apply OnlyMk.intro (h0 := .inr rfl))

theorem only_State_scRead (s : State) (req line w : Nat) : Only [.regs, .sc] s (State.scRead s req line w) := by
  unfold State.scRead
  try dsimp only
  repeat' first
    | exact (rfl : (_ : Bool) = _)
    | exact Or.inl (by decide)
    | with_reducible exact Or.inr rfl
    | with_reducible exact Only.refl
    | with_reducible assumption
    | with_reducible refine Only.ite ?_ ?_
    | with_reducible apply Only.step (only_State_incFld ..)
    | with_reducible apply Only.step (only_State_scInstall ..)
    | with_reducible apply Only.step (only_State_scPrefetch ..)
    | with_reducible apply Only.step (only_State_scRecall ..)
    | with_reducible apply Only.step (only_State_scTouch ..)
    | with_reducible apply Only.step (only_State_withSc ..)
    | (dsimp only [Only.mk_form]; with_reducible apply OnlyMk.intro (h0 := .inr rfl))
    | split
    | dsimp only
    | refine Only.ite ?_ ?_
    | refine Only.step (Only.ofFst (only_State_scInstall _ _ _ _) (by with_reducible assumption)) (by decide) ?_

theorem only_State_scWrite (s : State) (req line mask : Nat) (data : Blob) : Only [.regs, .sc] s (State.scWrite s req line mask data) := by
  unfold State.scWrite
  try dsimp only
  repeat' first
    | exact (rfl : (_ : Bool) = _)
    | exact Or.inl (by decide)
    | with_reducible exact Or.inr rfl
    | with_reducible exact Only.refl
    | with_reducible assumption
    | with_reducible refine Only.ite ?_ ?_
    | with_reducible apply Only.step (only_State_incFld ..)
    | with_reducible apply Only.step (only_State_scRecall ..)
    | with_reducible apply Only.step (only_State_scTouch ..)
    | with_reducible apply Only.step (only_State_withSc ..)
    | (dsimp only [Only.mk_form]; with_reducible apply OnlyMk.intro (h0 := .inr rfl))
    | split
    | refine Only.ite ?_ ?_

theorem only_State_scGrant (s : State) (pq line : Nat) : Only [.sc] s (State.scGrant s pq line) := by
  unfold State.scGrant
  try dsimp only
  repeat' first
    | exact (rfl : (_ : Bool) = _)
    | exact Or.inl (by decide)
    | with_reducible exact Or.inr rfl
    | with_reducible exact Only.refl
    | with_reducible apply Only.step (only_State_withSc ..)
    | (dsimp only [Only.mk_form]; with_reducible apply OnlyMk.intro (h0 := .inr rfl))

theorem only_State_scRetry (s : State) (pq line : Nat) : Only [.regs, .sc] s (State.scRetry s pq line) := by
  unfold State.scRetry
  try dsimp only
  repeat' first
    | exact (rfl : (_ : Bool) = _)
    | exact Or.inl (by decide)
    | with_reducible exact Or.inr rfl
    | with_reducible exact Only.refl
    | with_reducible apply Only.step (only_State_incFld ..)
    | with_reducible apply Only.step (only_State_withSc ..)
    | (dsimp only [Only.mk_form]; with_reducible apply OnlyMk.intro (h0 := .inr rfl))

theorem only_State_scOwn (s : State) (pqs : List Nat) (line : Nat) : Only [.regs, .sc] s (State.scOwn s pqs line) := by
  unfold State.scOwn
  try dsimp only
  repeat' first
    | exact (rfl : (_ : Bool) = _)
    | exact Or.inl (by decide)
    | with_reducible exact Or.inr rfl
    | with_reducible exact Only.refl
    | with_reducible assumption
    | with_reducible refine Only.ite ?_ ?_
    | with_reducible apply Only.step (only_State_scGrant ..)
    | with_reducible apply Only.step (only_State_scRecall ..)
    | with_reducible apply Only.step (only_State_scRetry ..)
    | with_reducible apply Only.step (only_State_withSc ..)
    | with_reducible refine Only.foldl (fun _ _ _ => ?_) ?_
    | (dsimp only [Only.mk_form]; with_reducible apply OnlyMk.intro (h0 := .inr rfl))
    | split
    | refine Only.ite ?_ ?_

theorem only_State_scServe (s : State) (w : ScWait) : Only [.regs, .sc] s (State.scServe s w) := by
  unfold State.scServe
  try dsimp only
  repeat' first
    | exact (rfl : (_ : Bool) = _)
    | exact Or.inl (by decide)
    | with_reducible exact Or.inr rfl
    | with_reducible exact Only.refl
    | with_reducible assumption
    | with_reducible apply Only.step (only_State_scOwn ..)
    | with_reducible apply Only.step (only_State_scRead ..)
    | with_reducible apply Only.step (only_State_scWrite ..)
    | (dsimp only [Only.mk_form]; with_reducible apply OnlyMk.intro (h0 := .inr rfl))
    | split

theorem only_State_scDrain (s : State) (line : Nat) : Only [.regs, .sc] s (State.scDrain s line) := by
  unfold State.scDrain
  try dsimp only
  repeat' first
    | exact (rfl : (_ : Bool) = _)
    | exact Or.inl (by decide)
    | with_reducible exact Or.inr rfl
    | with_reducible exact Only.refl
    | with_reducible assumption
    | with_reducible apply Only.step (only_State_scServe ..)
    | with_reducible apply Only.step (only_State_withSc ..)
    | with_reducible refine Only.foldl (fun _ _ _ => ?_) ?_
    | (dsimp only [Only.mk_form]; with_reducible apply OnlyMk.intro (h0 := .inr rfl))
    | split
    | dsimp only

theorem only_State_snoopWrite (s : State) (addr : Nat) (bs : List Nat) : Only [.sc] s (State.snoopWrite s addr bs) := by
  unfold State.snoopWrite
  try dsimp only
  repeat' first
    | exact (rfl : (_ : Bool) = _)
    | exact Or.inl (by decide)
    | with_reducible exact Or.inr rfl
    | with_reducible exact Only.refl
    | with_reducible assumption
    | with_reducible apply Only.step (only_State_withSc ..)
    | with_reducible refine Only.foldl (fun _ _ _ => ?_) ?_
    | (dsimp only [Only.mk_form]; with_reducible apply OnlyMk.intro (h0 := .inr rfl))

theorem only_State_scReset (s : State) : Only [.regs, .sc] s (State.scReset s) := by
  unfold State.scReset
  try dsimp only
  repeat' first
    | exact (rfl : (_ : Bool) = _)
    | exact Or.inl (by decide)
    | with_reducible exact Or.inr rfl
    | with_reducible exact Only.refl
    | with_reducible apply Only.step (only_State_setBit ..)
    | with_reducible apply Only.step (only_State_setFld ..)
    | with_reducible apply Only.step (only_State_withSc ..)
    | (dsimp only [Only.mk_form]; with_reducible apply OnlyMk.intro (h0 := .inr rfl))

theorem only_State_scStopRange (s : State) : Only [.regs, .sc] s (State.scStopRange s) := by
  unfold State.scStopRange
  try dsimp only
  repeat' first
    | exact (rfl : (_ : Bool) = _)
    | exact Or.inl (by decide)
    | with_reducible exact Or.inr rfl
    | with_reducible exact Only.refl
    | with_reducible assumption
    | with_reducible apply Only.step (only_State_setBit ..)
    | with_reducible apply Only.step (only_State_withSc ..)
    | (dsimp only [Only.mk_form]; with_reducible apply OnlyMk.intro (h0 := .inr rfl))
    | split

theorem only_State_scRangeErr (s : State) (code : Nat) : Only [.regs] s (State.scRangeErr s code) := by
  unfold State.scRangeErr
  try dsimp only
  repeat' first
    | exact (rfl : (_ : Bool) = _)
    | with_reducible exact Only.refl
    | with_reducible apply Only.step (only_State_setFld ..)

theorem only_State_scLock (s : State) (ways : Nat) : Only [.regs] s (State.scLock s ways) := by
  unfold State.scLock
  try dsimp only
  repeat' first
    | exact (rfl : (_ : Bool) = _)
    | with_reducible exact Only.refl
    | with_reducible refine Only.ite ?_ ?_
    | with_reducible apply Only.step (only_State_scRangeErr ..)
    | with_reducible apply Only.step (only_State_setBit ..)
    | with_reducible apply Only.step (only_State_setFld ..)
    | split
    | refine Only.ite ?_ ?_

theorem only_State_scEvictPath (s : State) (path : Bool) : Only [.regs, .sc] s (State.scEvictPath s path) := by
  unfold State.scEvictPath
  try dsimp only
  repeat' first
    | exact (rfl : (_ : Bool) = _)
    | exact Or.inl (by decide)
    | with_reducible exact Or.inr rfl
    | with_reducible exact Only.refl
    | with_reducible refine Only.ite ?_ ?_
    | with_reducible apply Only.step (only_State_scRangeErr ..)
    | with_reducible apply Only.step (only_State_setBit ..)
    | with_reducible apply Only.step (only_State_withSc ..)
    | (dsimp only [Only.mk_form]; with_reducible apply OnlyMk.intro (h0 := .inr rfl))
    | split
    | refine Only.ite ?_ ?_


/-! ### Machine/DmaOps.lean -/

theorem only_State_setChState (s : State) (n v : Nat) : Only [.regs] s (State.setChState s n v) := by
  unfold State.setChState
  try dsimp only
  repeat' first
    | exact (rfl : (_ : Bool) = _)
    | with_reducible exact Only.refl
    | with_reducible apply Only.step (only_State_setFld ..)

theorem only_State_withDma (s : State) (d : Dma) : Only [.dma] s (State.withDma s d) := by
  unfold State.withDma
  try dsimp only
  repeat' first
    | exact (rfl : (_ : Bool) = _)
    | exact Or.inl (by decide)
    | with_reducible exact Or.inr rfl
    | with_reducible exact Only.refl
    | (dsimp only [Only.mk_form]; with_reducible apply OnlyMk.intro (h0 := .inr rfl))

theorem only_State_winCtrl (s : State) (w ctrl : Nat) : Only [.regs] s (State.winCtrl s w ctrl) := by
  unfold State.winCtrl
  try dsimp only
  repeat' first
    | exact (rfl : (_ : Bool) = _)
    | with_reducible exact Only.refl
    | with_reducible refine Only.ite ?_ ?_
    | with_reducible apply Only.step (only_State_setBit ..)
    | with_reducible apply Only.step (only_State_setFld ..)
    | split
    | dsimp only
    | refine Only.ite ?_ ?_

theorem only_State_dmaStore (s : State) (space a : Nat) (bs : List Nat) : Only [.sc, .dma] s (State.dmaStore s space a bs) := by
  unfold State.dmaStore
  try dsimp only
  repeat' first
    | exact (rfl : (_ : Bool) = _)
    | exact Or.inl (by decide)
    | with_reducible exact Or.inr rfl
    | with_reducible exact Only.refl
    | with_reducible refine Only.ite ?_ ?_
    | with_reducible apply Only.step (only_State_snoopWrite ..)
    | with_reducible apply Only.step (only_State_withDma ..)
    | (dsimp only [Only.mk_form]; with_reducible apply OnlyMk.intro (h0 := .inr rfl))
    | split
    | dsimp only
    | refine Only.ite ?_ ?_

theorem only_State_dmaLoose (s : State) (d : Desc) (lo hi : Nat) : Only [.freeIx, .sc] s (State.dmaLoose s d lo hi) := by
  unfold State.dmaLoose
  try dsimp only
  repeat' first
    | exact (rfl : (_ : Bool) = _)
    | with_reducible exact Only.refl
    | with_reducible assumption
    | with_reducible refine Only.ite ?_ ?_
    | with_reducible apply Only.step (only_State_snoopWrite ..)
    | with_reducible apply Only.step (only_State_used ..)
    | with_reducible refine Only.foldl (fun _ _ _ => ?_) ?_
    | split
    | refine Only.ite ?_ ?_

theorem only_State_dmaIrq (s : State) (n : Nat) : Only [.regs, .dma] s (State.dmaIrq s n) := by
  unfold State.dmaIrq
  try dsimp only
  repeat' first
    | exact (rfl : (_ : Bool) = _)
    | exact Or.inl (by decide)
    | with_reducible exact Or.inr rfl
    | with_reducible exact Only.refl
    | with_reducible assumption
    | with_reducible refine Only.ite ?_ ?_
    | with_reducible apply Only.step (only_State_setFld ..)
    | with_reducible apply Only.step (only_State_withDma ..)
    | (dsimp only [Only.mk_form]; with_reducible apply OnlyMk.intro (h0 := .inr rfl))
    | split
    | dsimp only
    | refine Only.ite ?_ ?_

theorem only_State_dmaErrIrq (s : State) (n : Nat) : Only [.regs, .dma] s (State.dmaErrIrq s n) := by
  unfold State.dmaErrIrq
  try dsimp only
  repeat' first
    | exact (rfl : (_ : Bool) = _)
    | with_reducible exact Only.refl
    | with_reducible refine Only.ite ?_ ?_
    | with_reducible apply Only.step (only_State_dmaIrq ..)
    | split
    | refine Only.ite ?_ ?_

theorem only_State_dmaBegin (s : State) (n addr : Nat) : Only [.regs, .dma] s (State.dmaBegin s n addr) := by
  unfold State.dmaBegin
  try dsimp only
  repeat' first
    | exact (rfl : (_ : Bool) = _)
    | exact Or.inl (by decide)
    | with_reducible exact Or.inr rfl
    | with_reducible exact Only.refl
    | with_reducible apply Only.step (only_State_setChState ..)
    | with_reducible apply Only.step (only_State_setFld ..)
    | with_reducible apply Only.step (only_State_withDma ..)
    | (dsimp only [Only.mk_form]; with_reducible apply OnlyMk.intro (h0 := .inr rfl))

theorem only_State_dmaTrigger (s : State) (n : Nat) (start : Bool) : Only [.regs, .dma] s (State.dmaTrigger s n start) := by
  unfold State.dmaTrigger
  try dsimp only
  repeat' first
    | exact (rfl : (_ : Bool) = _)
    | with_reducible exact Only.refl
    | with_reducible refine Only.ite ?_ ?_
    | with_reducible apply Only.step (only_State_dmaBegin ..)
    | with_reducible apply Only.step (only_State_incFld ..)
    | with_reducible apply Only.step (only_State_satFld ..)
    | with_reducible apply Only.step (only_State_setBit ..)
    | split
    | refine Only.ite ?_ ?_

theorem only_State_dmaAfter (s : State) (n : Nat) (d : Desc) : Only [.regs, .dma] s (State.dmaAfter s n d) := by
  unfold State.dmaAfter
  try dsimp only
  repeat' first
    | exact (rfl : (_ : Bool) = _)
    | exact Or.inl (by decide)
    | with_reducible exact Or.inr rfl
    | with_reducible exact Only.refl
    | with_reducible refine Only.ite ?_ ?_
    | with_reducible apply Only.step (only_State_dmaBegin ..)
    | with_reducible apply Only.step (only_State_setChState ..)
    | with_reducible apply Only.step (only_State_setFld ..)
    | with_reducible apply Only.step (only_State_withDma ..)
    | (dsimp only [Only.mk_form]; with_reducible apply OnlyMk.intro (h0 := .inr rfl))
    | split
    | refine Only.ite ?_ ?_

theorem only_State_dmaStatus (s : State) (n addr bytes status : Nat) : Only [.sc, .dma] s (State.dmaStatus s n addr bytes status) := by
  unfold State.dmaStatus
  try dsimp only
  repeat' first
    | exact (rfl : (_ : Bool) = _)
    | with_reducible exact Only.refl
    | with_reducible apply Only.step (only_State_dmaStore ..)

theorem only_State_dmaBad (s : State) (n : Nat) (r : DmaRun) (code bytes : Nat) : Only [.regs, .sc, .dma] s (State.dmaBad s n r code bytes) := by
  unfold State.dmaBad
  try dsimp only
  repeat' first
    | exact (rfl : (_ : Bool) = _)
    | with_reducible exact Only.refl
    | with_reducible apply Only.step (only_State_dmaAfter ..)
    | with_reducible apply Only.step (only_State_dmaErrIrq ..)
    | with_reducible apply Only.step (only_State_dmaStatus ..)
    | with_reducible apply Only.step (only_State_satFld ..)
    | with_reducible apply Only.step (only_State_setBit ..)
    | with_reducible apply Only.step (only_State_setFld ..)

theorem only_State_dmaDone (s : State) (n : Nat) (r : DmaRun) : Only [.regs, .sc, .dma] s (State.dmaDone s n r) := by
  unfold State.dmaDone
  try dsimp only
  repeat' first
    | exact (rfl : (_ : Bool) = _)
    | with_reducible exact Only.refl
    | with_reducible assumption
    | with_reducible refine Only.ite ?_ ?_
    | with_reducible apply Only.step (only_State_dmaAfter ..)
    | with_reducible apply Only.step (only_State_dmaIrq ..)
    | with_reducible apply Only.step (only_State_dmaStatus ..)
    | with_reducible apply Only.step (only_State_dmaTrigger ..)
    | with_reducible apply Only.step (only_State_satFld ..)
    | with_reducible apply Only.step (only_State_setFld ..)
    | with_reducible refine Only.foldl (fun _ _ _ => ?_) ?_
    | split
    | refine Only.ite ?_ ?_

theorem only_State_dmaHalted (s : State) (n code : Nat) : Only [.regs, .dma] s (State.dmaHalted s n code) := by
  unfold State.dmaHalted
  try dsimp only
  repeat' first
    | exact (rfl : (_ : Bool) = _)
    | exact Or.inl (by decide)
    | with_reducible exact Or.inr rfl
    | with_reducible exact Only.refl
    | with_reducible apply Only.step (only_State_dmaErrIrq ..)
    | with_reducible apply Only.step (only_State_setChState ..)
    | with_reducible apply Only.step (only_State_setFld ..)
    | with_reducible apply Only.step (only_State_withDma ..)
    | (dsimp only [Only.mk_form]; with_reducible apply OnlyMk.intro (h0 := .inr rfl))

theorem only_State_dmaDrop (s : State) (n : Nat) : Only [.freeIx, .regs, .sc, .dma] s (State.dmaDrop s n) := by
  unfold State.dmaDrop
  try dsimp only
  repeat' first
    | exact (rfl : (_ : Bool) = _)
    | exact Or.inl (by decide)
    | with_reducible exact Or.inr rfl
    | with_reducible exact Only.refl
    | with_reducible assumption
    | with_reducible refine Only.ite ?_ ?_
    | with_reducible apply Only.step (only_State_dmaLoose ..)
    | with_reducible apply Only.step (only_State_setBit ..)
    | with_reducible apply Only.step (only_State_setChState ..)
    | with_reducible apply Only.step (only_State_setFld ..)
    | with_reducible apply Only.step (only_State_used ..)
    | with_reducible apply Only.step (only_State_withDma ..)
    | (dsimp only [Only.mk_form]; with_reducible apply OnlyMk.intro (h0 := .inr rfl))
    | split
    | refine Only.ite ?_ ?_

theorem only_State_dmaDropAll (s : State) : Only [.freeIx, .regs, .sc, .dma] s (State.dmaDropAll s) := by
  unfold State.dmaDropAll
  try dsimp only
  repeat' first
    | exact (rfl : (_ : Bool) = _)
    | with_reducible exact Only.refl
    | with_reducible assumption
    | with_reducible apply Only.step (only_State_dmaDrop ..)
    | with_reducible refine Only.foldl (fun _ _ _ => ?_) ?_

theorem only_State_dmaPortReset (s : State) (hp : Nat) : Only [.freeIx, .regs, .sc, .dma] s (State.dmaPortReset s hp) := by
  unfold State.dmaPortReset
  try dsimp only
  repeat' first
    | exact (rfl : (_ : Bool) = _)
    | exact Or.inl (by decide)
    | with_reducible exact Or.inr rfl
    | with_reducible exact Only.refl
    | with_reducible assumption
    | with_reducible refine Only.ite ?_ ?_
    | with_reducible apply Only.step (only_State_dmaDrop ..)
    | with_reducible apply Only.step (only_State_setBit ..)
    | with_reducible refine Only.foldl (fun _ _ _ => ?_) ?_
    | (dsimp only [Only.mk_form]; with_reducible apply OnlyMk.intro (h0 := .inr rfl))
    | split
    | refine Only.ite ?_ ?_


/-! ### Machine/RegView.lean -/

theorem only_State_resetRegs (s : State) (served : Nat → Bool) : Only [.regs, .latches, .heldLo] s (State.resetRegs s served) := by
  unfold State.resetRegs
  try dsimp only
  repeat' first
    | exact (rfl : (_ : Bool) = _)
    | exact Or.inl (by decide)
    | with_reducible exact Or.inr rfl
    | with_reducible exact Only.refl
    | (dsimp only [Only.mk_form]; with_reducible apply OnlyMk.intro (h0 := .inr rfl))
    | dsimp only


/-! ### Machine/EvrOps.lean -/

theorem only_State_withPages (s : State) (t : Tbl EvPage) : Only [.evr] s (State.withPages s t) := by
  unfold State.withPages
  try dsimp only
  repeat' first
    | exact (rfl : (_ : Bool) = _)
    | exact Or.inl (by decide)
    | with_reducible exact Or.inr rfl
    | with_reducible exact Only.refl
    | (dsimp only [Only.mk_form]; with_reducible apply OnlyMk.intro (h0 := .inr rfl))

theorem only_State_dropRec (s : State) (sev : Nat) (full : Bool) : Only [.regs] s (State.dropRec s sev full) := by
  unfold State.dropRec
  try dsimp only
  repeat' first
    | exact (rfl : (_ : Bool) = _)
    | with_reducible exact Only.refl
    | with_reducible refine Only.ite ?_ ?_
    | with_reducible apply Only.step (only_State_satFld ..)
    | with_reducible apply Only.step (only_State_setBit ..)
    | split
    | refine Only.ite ?_ ?_

theorem only_State_noteNearly (s : State) : Only [.regs, .evr] s (State.noteNearly s) := by
  unfold State.noteNearly
  try dsimp only
  repeat' first
    | exact (rfl : (_ : Bool) = _)
    | with_reducible exact Only.refl
    | with_reducible refine Only.ite ?_ ?_
    | with_reducible apply Only.step (only_State_emit ..)
    | with_reducible apply Only.step (only_State_setBit ..)
    | split
    | refine Only.ite ?_ ?_

theorem only_State_newPage (s : State) (r : EvRec) : Only [.regs, .evr] s (State.newPage s r).2 := by
  unfold State.newPage
  try dsimp only
  repeat' first
    | exact (rfl : (_ : Bool) = _)
    | exact Or.inl (by decide)
    | with_reducible exact Or.inr rfl
    | with_reducible exact Only.refl
    | with_reducible assumption
    | with_reducible refine Only.ite ?_ ?_
    | with_reducible apply Only.step (only_State_dropRec ..)
    | with_reducible apply Only.step (only_State_incFld ..)
    | with_reducible apply Only.step (only_State_noteNearly ..)
    | with_reducible apply Only.step (only_State_withPages ..)
    | (dsimp only [Only.mk_form]; with_reducible apply OnlyMk.intro (h0 := .inr rfl))
    | split
    | dsimp only
    | refine Only.ite ?_ ?_

theorem only_State_placeRec (s : State) (r : EvRec) : Only [.regs, .evr] s (State.placeRec s r).2 := by
  unfold State.placeRec
  try dsimp only
  repeat' first
    | exact (rfl : (_ : Bool) = _)
    | exact Or.inl (by decide)
    | with_reducible exact Or.inr rfl
    | with_reducible exact Only.refl
    | with_reducible assumption
    | with_reducible refine Only.ite ?_ ?_
    | with_reducible apply Only.step (only_State_newPage ..)
    | with_reducible apply Only.step (only_State_withPages ..)
    | (dsimp only [Only.mk_form]; with_reducible apply OnlyMk.intro (h0 := .inr rfl))
    | split
    | dsimp only
    | refine Only.ite ?_ ?_
    | refine Only.step (Only.ofSnd (only_State_newPage _ _) (by with_reducible assumption)) (by decide) ?_

theorem only_State_commitRec (s : State) (r : EvRec) : Only [.regs, .evr] s (State.commitRec s r).2 := by
  unfold State.commitRec
  try dsimp only
  repeat' first
    | exact (rfl : (_ : Bool) = _)
    | exact Or.inl (by decide)
    | with_reducible exact Or.inr rfl
    | with_reducible exact Only.refl
    | with_reducible refine Only.ite ?_ ?_
    | with_reducible apply Only.step (only_State_dropRec ..)
    | with_reducible apply Only.step (only_State_placeRec ..)
    | (dsimp only [Only.mk_form]; with_reducible apply OnlyMk.intro (h0 := .inr rfl))
    | split
    | dsimp only
    | refine Only.ite ?_ ?_
    | refine Only.step (Only.ofSnd (only_State_placeRec _ _) (by with_reducible assumption)) (by decide) ?_

theorem only_State_thaw (s : State) : Only [.regs, .evr] s (State.thaw s) := by
  unfold State.thaw
  try dsimp only
  repeat' first
    | exact (rfl : (_ : Bool) = _)
    | exact Or.inl (by decide)
    | with_reducible exact Or.inr rfl
    | with_reducible exact Only.refl
    | with_reducible assumption
    | with_reducible refine Only.ite ?_ ?_
    | with_reducible apply Only.step (only_State_commitRec ..)
    | with_reducible apply Only.step (only_State_setBit ..)
    | with_reducible apply Only.step (only_State_setFld ..)
    | with_reducible refine Only.foldl (fun _ _ _ => ?_) ?_
    | with_reducible refine Only.foldlSnd (fun _ _ _ => ?_) ?_
    | (dsimp only [Only.mk_form]; with_reducible apply OnlyMk.intro (h0 := .inr rfl))
    | split
    | dsimp only
    | refine Only.ite ?_ ?_
    | refine Only.step (Only.ofSnd (only_State_commitRec _ _) (by with_reducible assumption)) (by decide) ?_

theorem only_State_recordOne (s : State) (a : EvArrival) : Only [.regs, .evr] s (State.recordOne s a) := by
  unfold State.recordOne
  try dsimp only
  repeat' first
    | exact (rfl : (_ : Bool) = _)
    | exact Or.inl (by decide)
    | with_reducible exact Or.inr rfl
    | with_reducible exact Only.refl
    | with_reducible refine Only.ite ?_ ?_
    | with_reducible apply Only.step (only_State_commitRec ..)
    | with_reducible apply Only.step (only_State_dropRec ..)
    | with_reducible apply Only.step (only_State_incFld ..)
    | (dsimp only [Only.mk_form]; with_reducible apply OnlyMk.intro (h0 := .inr rfl))
    | split
    | dsimp only
    | refine Only.ite ?_ ?_
    | refine Only.step (Only.ofSnd (only_State_commitRec _ _) (by with_reducible assumption)) (by decide) ?_

theorem only_State_evrDone (s : State) (err : Nat) : Only [.regs] s (State.evrDone s err) := by
  unfold State.evrDone
  try dsimp only
  repeat' first
    | exact (rfl : (_ : Bool) = _)
    | with_reducible exact Only.refl
    | with_reducible apply Only.step (only_State_setBit ..)
    | with_reducible apply Only.step (only_State_setFld ..)

theorem only_State_finishClear (s : State) (owner : Nat) : Only [.regs, .evr] s (State.finishClear s owner) := by
  unfold State.finishClear
  try dsimp only
  repeat' first
    | exact (rfl : (_ : Bool) = _)
    | exact Or.inl (by decide)
    | with_reducible exact Or.inr rfl
    | with_reducible exact Only.refl
    | with_reducible assumption
    | with_reducible apply Only.step (only_State_incFld ..)
    | with_reducible apply Only.step (only_State_setBit ..)
    | with_reducible apply Only.step (only_State_setFld ..)
    | with_reducible apply Only.step (only_State_withPages ..)
    | with_reducible refine Only.foldl (fun _ _ _ => ?_) ?_
    | (dsimp only [Only.mk_form]; with_reducible apply OnlyMk.intro (h0 := .inr rfl))
    | dsimp only

theorem only_State_writeSoundpost (s : State) (cause : Nat) : Only [.freeIx, .regs, .evr] s (State.writeSoundpost s cause) := by
  unfold State.writeSoundpost
  try dsimp only
  repeat' first
    | exact (rfl : (_ : Bool) = _)
    | exact Or.inl (by decide)
    | with_reducible exact Or.inr rfl
    | with_reducible exact Only.refl
    | with_reducible apply Only.step (only_State_emit ..)
    | with_reducible apply Only.step (only_State_setFld ..)
    | with_reducible apply Only.step (only_State_thaw ..)
    | with_reducible apply Only.step (only_State_used ..)
    | (dsimp only [Only.mk_form]; with_reducible apply OnlyMk.intro (h0 := .inr rfl))
    | dsimp only

theorem only_State_copyVault (s : State) : Only [.evr] s (State.copyVault s) := by
  unfold State.copyVault
  try dsimp only
  repeat' first
    | exact (rfl : (_ : Bool) = _)
    | exact Or.inl (by decide)
    | with_reducible exact Or.inr rfl
    | with_reducible exact Only.refl
    | with_reducible assumption
    | with_reducible refine Only.ite ?_ ?_
    | (dsimp only [Only.mk_form]; with_reducible apply OnlyMk.intro (h0 := .inr rfl))
    | split
    | dsimp only
    | refine Only.ite ?_ ?_

theorem only_State_copyFlash (s : State) : Only [.evr] s (State.copyFlash s) := by
  unfold State.copyFlash
  try dsimp only
  repeat' first
    | exact (rfl : (_ : Bool) = _)
    | exact Or.inl (by decide)
    | with_reducible exact Or.inr rfl
    | with_reducible exact Only.refl
    | with_reducible assumption
    | with_reducible refine Only.ite ?_ ?_
    | (dsimp only [Only.mk_form]; with_reducible apply OnlyMk.intro (h0 := .inr rfl))
    | split
    | dsimp only
    | refine Only.ite ?_ ?_

theorem only_State_repairSoundposts (s : State) : Only [.evr, .vault] s (State.repairSoundposts s) := by
  unfold State.repairSoundposts
  try dsimp only
  repeat' first
    | exact (rfl : (_ : Bool) = _)
    | exact Or.inl (by decide)
    | with_reducible exact Or.inr rfl
    | with_reducible exact Only.refl
    | with_reducible assumption
    | with_reducible refine Only.ite ?_ ?_
    | with_reducible apply Only.step (only_State_copyFlash ..)
    | with_reducible apply Only.step (only_State_copyVault ..)
    | with_reducible apply Only.step (only_State_emit ..)
    | with_reducible refine Only.foldl (fun _ _ _ => ?_) ?_
    | (dsimp only [Only.mk_form]; with_reducible apply OnlyMk.intro (h0 := .inr rfl))
    | split
    | dsimp only
    | refine Only.ite ?_ ?_


/-! ### Machine/Updates.lean -/

theorem only_execWritePlaced (tag : Nat) (s : State) : OnlyOut [.regs, .hfe, .wc, .ports, .capo] s (execWritePlaced tag s) := by
  unfold execWritePlaced
  try dsimp only
  repeat' first
    | exact (rfl : (_ : Bool) = _)
    | exact Or.inl (by decide)
    | with_reducible exact Or.inr rfl
    | with_reducible exact Only.refl
    | with_reducible assumption
    | with_reducible refine OnlyOut.next ?_
    | with_reducible refine OnlyOut.ite ?_ ?_
    | with_reducible refine Only.ite ?_ ?_
    | with_reducible apply Only.step (only_State_needDirtyNs ..)
    | with_reducible apply Only.step (only_State_putCmd ..)
    | with_reducible apply Only.step (only_State_writeReady ..)
    | (dsimp only [Only.mk_form]; with_reducible apply OnlyMk.intro (h0 := .inr rfl))
    | split
    | dsimp only
    | refine Only.ite ?_ ?_
    | refine OnlyOut.ite ?_ ?_
    | refine Only.step (Only.ofSnd (only_State_needDirtyNs _ _) (by with_reducible assumption)) (by decide) ?_

theorem only_execDirtyLimitAdmit (s : State) : OnlyOut [.freeIx, .regs, .evr, .hfe, .wc, .cip, .capo] s (execDirtyLimitAdmit s) := by
  unfold execDirtyLimitAdmit
  try dsimp only
  repeat' first
    | exact (rfl : (_ : Bool) = _)
    | with_reducible exact Only.refl
    | with_reducible refine OnlyOut.next ?_
    | with_reducible apply Only.step (only_State_admitAll ..)

theorem only_execDirtyLimitRecompute (s : State) : OnlyOut [.regs, .evr, .hfe, .wc] s (execDirtyLimitRecompute s) := by
  unfold execDirtyLimitRecompute
  try dsimp only
  repeat' first
    | exact (rfl : (_ : Bool) = _)
    | with_reducible exact Only.refl
    | with_reducible refine OnlyOut.next ?_
    | with_reducible apply Only.step (only_State_recomputeLimit ..)

theorem only_execDirtyNamespaceSetAck (nsid : Nat) (s : State) : OnlyOut [.regs, .hfe, .wc, .ports] s (execDirtyNamespaceSetAck nsid s) := by
  unfold execDirtyNamespaceSetAck
  try dsimp only
  repeat' first
    | exact (rfl : (_ : Bool) = _)
    | exact Or.inl (by decide)
    | with_reducible exact Or.inr rfl
    | with_reducible exact Only.refl
    | with_reducible assumption
    | with_reducible refine OnlyOut.next ?_
    | with_reducible refine OnlyOut.ite ?_ ?_
    | with_reducible refine Only.ite ?_ ?_
    | with_reducible apply Only.step (only_State_putCmd ..)
    | with_reducible apply Only.step (only_State_writeReady ..)
    | with_reducible refine Only.foldl (fun _ _ _ => ?_) ?_
    | (dsimp only [Only.mk_form]; with_reducible apply OnlyMk.intro (h0 := .inr rfl))
    | split
    | dsimp only
    | refine Only.ite ?_ ?_
    | refine OnlyOut.ite ?_ ?_

theorem only_execDirtyNamespaceClear (nsid : Nat) (s : State) : OnlyOut [.wc] s (execDirtyNamespaceClear nsid s) := by
  unfold execDirtyNamespaceClear
  try dsimp only
  repeat' first
    | exact (rfl : (_ : Bool) = _)
    | exact Or.inl (by decide)
    | with_reducible exact Or.inr rfl
    | with_reducible exact Only.refl
    | with_reducible refine OnlyOut.next ?_
    | with_reducible refine OnlyOut.ite ?_ ?_
    | with_reducible refine Only.ite ?_ ?_
    | (dsimp only [Only.mk_form]; with_reducible apply OnlyMk.intro (h0 := .inr rfl))
    | split
    | refine Only.ite ?_ ?_
    | refine OnlyOut.ite ?_ ?_

theorem only_execMirrorAck (s : State) : OnlyOut [.regs, .hfe, .wc, .ports, .capo] s (execMirrorAck s) := by
  unfold execMirrorAck
  try dsimp only
  repeat' first
    | exact (rfl : (_ : Bool) = _)
    | exact Or.inl (by decide)
    | with_reducible exact Or.inr rfl
    | with_reducible exact Only.refl
    | with_reducible assumption
    | with_reducible refine OnlyOut.next ?_
    | with_reducible apply Only.step (only_State_mirrorWake ..)
    | (dsimp only [Only.mk_form]; with_reducible apply OnlyMk.intro (h0 := .inr rfl))
    | split

theorem only_execMirrorLost (s : State) : OnlyOut [.regs, .evr, .hfe, .wc, .ports, .capo] s (execMirrorLost s) := by
  unfold execMirrorLost
  try dsimp only
  repeat' first
    | exact (rfl : (_ : Bool) = _)
    | with_reducible exact Only.refl
    | with_reducible refine OnlyOut.next ?_
    | with_reducible apply Only.step (only_State_loseMirror ..)

theorem only_execStripeUpdateStart (a : ArrayId) (stripe : Nat) (s : State) : OnlyOut [.wc, .ports] s (execStripeUpdateStart a stripe s) := by
  unfold execStripeUpdateStart
  try dsimp only
  repeat' first
    | exact (rfl : (_ : Bool) = _)
    | with_reducible exact Only.refl
    | with_reducible refine OnlyOut.next ?_
    | with_reducible apply Only.step (only_State_startUpdate ..)

theorem only_execDirtyAgeExpiry (nsid lba : Nat) (s : State) : OnlyOut [.wc, .ports] s (execDirtyAgeExpiry nsid lba s) := by
  unfold execDirtyAgeExpiry
  try dsimp only
  repeat' first
    | exact (rfl : (_ : Bool) = _)
    | exact Or.inl (by decide)
    | with_reducible exact Or.inr rfl
    | with_reducible exact Only.refl
    | with_reducible assumption
    | with_reducible refine OnlyOut.next ?_
    | with_reducible refine OnlyOut.ite ?_ ?_
    | with_reducible refine Only.ite ?_ ?_
    | with_reducible apply Only.step (only_State_startUpdate ..)
    | (dsimp only [Only.mk_form]; with_reducible apply OnlyMk.intro (h0 := .inr rfl))
    | split
    | dsimp only
    | refine Only.ite ?_ ?_
    | refine OnlyOut.ite ?_ ?_

theorem only_execGatherExpiry (a : ArrayId) (stripe : Nat) (s : State) : OnlyOut [.wc, .ports] s (execGatherExpiry a stripe s) := by
  unfold execGatherExpiry
  try dsimp only
  repeat' first
    | exact (rfl : (_ : Bool) = _)
    | with_reducible exact Only.refl
    | with_reducible assumption
    | with_reducible refine OnlyOut.next ?_
    | with_reducible apply Only.step (only_State_startUpdate ..)
    | split

theorem only_execStripeUpdateReadsDone (id : Nat) (s : State) : OnlyOut [.regs, .wc] s (execStripeUpdateReadsDone id s) := by
  unfold execStripeUpdateReadsDone
  try dsimp only
  repeat' first
    | exact (rfl : (_ : Bool) = _)
    | exact Or.inl (by decide)
    | with_reducible exact Or.inr rfl
    | with_reducible exact Only.refl
    | with_reducible assumption
    | with_reducible refine OnlyOut.next ?_
    | with_reducible refine OnlyOut.ite ?_ ?_
    | with_reducible refine Only.ite ?_ ?_
    | with_reducible apply Only.step (only_State_computeUpdate ..)
    | (dsimp only [Only.mk_form]; with_reducible apply OnlyMk.intro (h0 := .inr rfl))
    | split
    | dsimp only
    | refine Only.ite ?_ ?_
    | refine OnlyOut.ite ?_ ?_

theorem only_execStripeUpdateContextSaved (id : Nat) (s : State) : OnlyOut [.regs, .evr, .wc, .ports, .capo] s (execStripeUpdateContextSaved id s) := by
  unfold execStripeUpdateContextSaved
  try dsimp only
  repeat' first
    | exact (rfl : (_ : Bool) = _)
    | exact Or.inl (by decide)
    | with_reducible exact Or.inr rfl
    | with_reducible exact Only.refl
    | with_reducible assumption
    | with_reducible refine OnlyOut.next ?_
    | with_reducible refine OnlyOut.ite ?_ ?_
    | with_reducible refine Only.ite ?_ ?_
    | with_reducible apply Only.step (only_State_beginFret ..)
    | with_reducible apply Only.step (only_State_mirror ..)
    | with_reducible apply Only.step (only_State_noteLimit ..)
    | with_reducible apply Only.step (only_State_putUpd ..)
    | (dsimp only [Only.mk_form]; with_reducible apply OnlyMk.intro (h0 := .inr rfl))
    | split
    | refine Only.ite ?_ ?_
    | refine OnlyOut.ite ?_ ?_

theorem only_execFretSetAck (id : Nat) (s : State) : OnlyOut [.wc, .ports] s (execFretSetAck id s) := by
  unfold execFretSetAck
  try dsimp only
  repeat' first
    | exact (rfl : (_ : Bool) = _)
    | exact Or.inl (by decide)
    | with_reducible exact Or.inr rfl
    | with_reducible exact Only.refl
    | with_reducible assumption
    | with_reducible refine OnlyOut.next ?_
    | with_reducible apply Only.step (only_State_fretReady ..)
    | with_reducible refine Only.foldl (fun _ _ _ => ?_) ?_
    | (dsimp only [Only.mk_form]; with_reducible apply OnlyMk.intro (h0 := .inr rfl))
    | dsimp only

theorem only_execDataWritesDone (id : Nat) (s : State) : OnlyOut [.regs, .evr, .hfe, .wc, .rbe, .ports, .capo] s (execDataWritesDone id s) := by
  unfold execDataWritesDone
  try dsimp only
  repeat' first
    | exact (rfl : (_ : Bool) = _)
    | exact Or.inl (by decide)
    | with_reducible exact Or.inr rfl
    | with_reducible exact Only.refl
    | with_reducible assumption
    | with_reducible refine OnlyOut.next ?_
    | with_reducible refine OnlyOut.ite ?_ ?_
    | with_reducible refine Only.ite ?_ ?_
    | with_reducible apply Only.step (only_State_issueParity ..)
    | with_reducible apply Only.step (only_State_putUpd ..)
    | with_reducible apply Only.step (only_State_writeData6 ..)
    | (dsimp only [Only.mk_form]; with_reducible apply OnlyMk.intro (h0 := .inr rfl))
    | split
    | dsimp only
    | refine Only.ite ?_ ?_
    | refine OnlyOut.ite ?_ ?_

theorem only_execParityWritesDone (id : Nat) (s : State) : OnlyOut [.regs, .evr, .hfe, .wc, .rbe, .capo] s (execParityWritesDone id s) := by
  unfold execParityWritesDone
  try dsimp only
  repeat' first
    | exact (rfl : (_ : Bool) = _)
    | exact Or.inl (by decide)
    | with_reducible exact Or.inr rfl
    | with_reducible exact Only.refl
    | with_reducible assumption
    | with_reducible refine OnlyOut.next ?_
    | with_reducible refine OnlyOut.ite ?_ ?_
    | with_reducible refine Only.ite ?_ ?_
    | with_reducible apply Only.step (only_State_finishUpdate ..)
    | with_reducible apply Only.step (only_State_writeParity7 ..)
    | (dsimp only [Only.mk_form]; with_reducible apply OnlyMk.intro (h0 := .inr rfl))
    | split
    | dsimp only
    | refine Only.ite ?_ ?_
    | refine OnlyOut.ite ?_ ?_

theorem only_execFretClear (bit : Nat) (s : State) : OnlyOut [.regs, .wc, .capo] s (execFretClear bit s) := by
  unfold execFretClear
  try dsimp only
  repeat' first
    | exact (rfl : (_ : Bool) = _)
    | with_reducible exact Only.refl
    | with_reducible refine OnlyOut.next ?_
    | with_reducible refine OnlyOut.ite ?_ ?_
    | with_reducible refine Only.ite ?_ ?_
    | with_reducible apply Only.step (only_State_issueClear ..)
    | split
    | refine Only.ite ?_ ?_
    | refine OnlyOut.ite ?_ ?_

theorem only_execFretClearAck (bit : Nat) (s : State) : OnlyOut [.regs, .wc, .capo] s (execFretClearAck bit s) := by
  unfold execFretClearAck
  try dsimp only
  repeat' first
    | exact (rfl : (_ : Bool) = _)
    | exact Or.inl (by decide)
    | with_reducible exact Or.inr rfl
    | with_reducible exact Only.refl
    | with_reducible assumption
    | with_reducible refine OnlyOut.next ?_
    | with_reducible refine OnlyOut.ite ?_ ?_
    | with_reducible refine Only.ite ?_ ?_
    | with_reducible apply Only.step (only_State_issueSet ..)
    | (dsimp only [Only.mk_form]; with_reducible apply OnlyMk.intro (h0 := .inr rfl))
    | split
    | dsimp only
    | refine Only.ite ?_ ?_
    | refine OnlyOut.ite ?_ ?_

theorem only_execWcDestageAll (s : State) : OnlyOut [.freeIx, .regs, .evr, .wc] s (execWcDestageAll s) := by
  unfold execWcDestageAll
  try dsimp only
  repeat' first
    | exact (rfl : (_ : Bool) = _)
    | exact Or.inl (by decide)
    | with_reducible exact Or.inr rfl
    | with_reducible exact Only.refl
    | with_reducible refine OnlyOut.next ?_
    | with_reducible refine OnlyOut.command ⟨rfl, rfl, rfl⟩ Only.refl ?_
    | (dsimp only [Only.mk_form]; with_reducible apply OnlyMk.intro (h0 := .inr rfl))
    | dsimp only

theorem only_execWcClearIdle (s : State) : OnlyOut [.freeIx, .regs, .evr, .wc, .capo] s (execWcClearIdle s) := by
  unfold execWcClearIdle
  try dsimp only
  repeat' first
    | exact (rfl : (_ : Bool) = _)
    | exact Or.inl (by decide)
    | with_reducible exact Or.inr rfl
    | with_reducible exact Only.refl
    | with_reducible assumption
    | with_reducible refine OnlyOut.next ?_
    | with_reducible refine OnlyOut.ite ?_ ?_
    | with_reducible refine OnlyOut.command ⟨rfl, rfl, rfl⟩ Only.refl ?_
    | with_reducible refine Only.ite ?_ ?_
    | with_reducible apply Only.step (only_State_issueClear ..)
    | with_reducible refine Only.foldl (fun _ _ _ => ?_) ?_
    | (dsimp only [Only.mk_form]; with_reducible apply OnlyMk.intro (h0 := .inr rfl))
    | split
    | refine Only.ite ?_ ?_
    | refine OnlyOut.ite ?_ ?_

theorem only_execDumpRetire (area : Fin 2) (s : State) : OnlyOut [.regs, .vault] s (execDumpRetire area s) := by
  unfold execDumpRetire
  try dsimp only
  repeat' first
    | exact (rfl : (_ : Bool) = _)
    | exact Or.inl (by decide)
    | with_reducible exact Or.inr rfl
    | with_reducible exact Only.refl
    | with_reducible assumption
    | with_reducible refine OnlyOut.next ?_
    | with_reducible refine OnlyOut.ite ?_ ?_
    | with_reducible refine Only.ite ?_ ?_
    | with_reducible apply Only.step (only_State_setFld ..)
    | (dsimp only [Only.mk_form]; with_reducible apply OnlyMk.intro (h0 := .inr rfl))
    | split
    | refine Only.ite ?_ ?_
    | refine OnlyOut.ite ?_ ?_

theorem only_execAreaEraseDone (area : Fin 2) (s : State) : OnlyOut [.regs, .evr, .hfe, .wc, .vault] s (execAreaEraseDone area s) := by
  unfold execAreaEraseDone
  try dsimp only
  repeat' first
    | exact (rfl : (_ : Bool) = _)
    | exact Or.inl (by decide)
    | with_reducible exact Or.inr rfl
    | with_reducible exact Only.refl
    | with_reducible refine OnlyOut.next ?_
    | with_reducible refine OnlyOut.ite ?_ ?_
    | with_reducible refine Only.ite ?_ ?_
    | with_reducible apply Only.step (only_State_recomputeLimit ..)
    | with_reducible apply Only.step (only_State_setBit ..)
    | with_reducible apply Only.step (only_State_setFld ..)
    | (dsimp only [Only.mk_form]; with_reducible apply OnlyMk.intro (h0 := .inr rfl))
    | split
    | refine Only.ite ?_ ?_
    | refine OnlyOut.ite ?_ ?_

theorem only_execVaultReplayStart (s : State) : OnlyOut [.regs, .wc] s (execVaultReplayStart s) := by
  unfold execVaultReplayStart
  try dsimp only
  repeat' first
    | exact (rfl : (_ : Bool) = _)
    | exact Or.inl (by decide)
    | with_reducible exact Or.inr rfl
    | with_reducible exact Only.refl
    | with_reducible assumption
    | with_reducible refine OnlyOut.next ?_
    | with_reducible refine OnlyOut.ite ?_ ?_
    | with_reducible refine Only.ite ?_ ?_
    | with_reducible apply Only.step (only_State_setBit ..)
    | (dsimp only [Only.mk_form]; with_reducible apply OnlyMk.intro (h0 := .inr rfl))
    | split
    | refine Only.ite ?_ ?_
    | refine OnlyOut.ite ?_ ?_

theorem only_State_restoreBow (s : State) (b : BowSave) : Only [.rbe] s (State.restoreBow s b) := by
  unfold State.restoreBow
  try dsimp only
  repeat' first
    | exact (rfl : (_ : Bool) = _)
    | exact Or.inl (by decide)
    | with_reducible exact Or.inr rfl
    | with_reducible exact Only.refl
    | (dsimp only [Only.mk_form]; with_reducible apply OnlyMk.intro (h0 := .inr rfl))

theorem only_State_mirrorDirty (s : State) : Only [.regs, .capo] s (State.mirrorDirty s) := by
  unfold State.mirrorDirty
  try dsimp only
  repeat' first
    | exact (rfl : (_ : Bool) = _)
    | with_reducible exact Only.refl
    | with_reducible assumption
    | with_reducible apply Only.step (only_State_mirror ..)
    | with_reducible refine Only.foldl (fun _ _ _ => ?_) ?_
    | with_reducible refine Only.foldlFst (fun _ _ _ => ?_) ?_
    | with_reducible refine Only.foldlSnd (fun _ _ _ => ?_) ?_
    | dsimp only

theorem only_execVaultRestoreDone (s : State) : OnlyOut [.regs, .evr, .wc, .rbe] s (execVaultRestoreDone s) := by
  unfold execVaultRestoreDone
  try dsimp only
  repeat' first
    | exact (rfl : (_ : Bool) = _)
    | exact Or.inl (by decide)
    | with_reducible exact Or.inr rfl
    | with_reducible exact Only.refl
    | with_reducible assumption
    | with_reducible refine OnlyOut.next ?_
    | with_reducible refine OnlyOut.ite ?_ ?_
    | with_reducible refine Only.ite ?_ ?_
    | with_reducible apply Only.step (only_State_noteLimit ..)
    | with_reducible apply Only.step (only_State_restoreBow ..)
    | with_reducible apply Only.step (only_State_restoreSector ..)
    | with_reducible refine Only.foldl (fun _ _ _ => ?_) ?_
    | (dsimp only [Only.mk_form]; with_reducible apply OnlyMk.intro (h0 := .inr rfl))
    | split
    | dsimp only
    | refine Only.ite ?_ ?_
    | refine OnlyOut.ite ?_ ?_

theorem only_State_startResync (s : State) : Only [.wc, .rbe] s (State.startResync s) := by
  unfold State.startResync
  try dsimp only
  repeat' first
    | exact (rfl : (_ : Bool) = _)
    | exact Or.inl (by decide)
    | with_reducible exact Or.inr rfl
    | with_reducible exact Only.refl
    | with_reducible assumption
    | with_reducible refine Only.ite ?_ ?_
    | with_reducible apply Only.step (only_State_putArr ..)
    | with_reducible refine Only.foldl (fun _ _ _ => ?_) ?_
    | (dsimp only [Only.mk_form]; with_reducible apply OnlyMk.intro (h0 := .inr rfl))
    | split
    | refine Only.ite ?_ ?_

theorem only_State_restoreRest (s : State) (seq : Nat) (l : List DumpSector) : Only [.regs, .evr, .hfe, .wc, .capo] s (State.restoreRest s seq l).1 := by
  unfold State.restoreRest
  try dsimp only
  repeat' first
    | exact (rfl : (_ : Bool) = _)
    | exact Or.inl (by decide)
    | with_reducible exact Or.inr rfl
    | with_reducible exact Only.refl
    | with_reducible assumption
    | with_reducible apply Only.step (only_State_deferError ..)
    | with_reducible apply Only.step (only_State_restoreSector ..)
    | with_reducible refine Only.foldl (fun _ _ _ => ?_) ?_
    | with_reducible refine Only.foldlFst (fun _ _ _ => ?_) ?_
    | with_reducible refine Only.foldlSnd (fun _ _ _ => ?_) ?_
    | (dsimp only [Only.mk_form]; with_reducible apply OnlyMk.intro (h0 := .inr rfl))
    | split
    | dsimp only

theorem only_execVaultReplayComplete (s : State) : OnlyOut [.regs, .evr, .hfe, .wc, .rbe, .capo] s (execVaultReplayComplete s) := by
  unfold execVaultReplayComplete
  try dsimp only
  repeat' first
    | exact (rfl : (_ : Bool) = _)
    | exact Or.inl (by decide)
    | with_reducible exact Or.inr rfl
    | with_reducible exact Only.refl
    | with_reducible assumption
    | with_reducible refine OnlyOut.next ?_
    | with_reducible refine OnlyOut.ite ?_ ?_
    | with_reducible refine Only.ite ?_ ?_
    | with_reducible apply Only.step (only_State_mirrorDirty ..)
    | with_reducible apply Only.step (only_State_noteLimit ..)
    | with_reducible apply Only.step (only_State_restoreRest ..)
    | with_reducible apply Only.step (only_State_setBit ..)
    | with_reducible apply Only.step (only_State_setFld ..)
    | with_reducible apply Only.step (only_State_startResync ..)
    | (dsimp only [Only.mk_form]; with_reducible apply OnlyMk.intro (h0 := .inr rfl))
    | split
    | dsimp only
    | refine Only.ite ?_ ?_
    | refine OnlyOut.ite ?_ ?_
    | refine Only.step (Only.ofFst (only_State_restoreRest _ _ _) (by with_reducible assumption)) (by decide) ?_

theorem only_State_resyncOne (s : State) (a : ArrayId) (x : Option (Bool × Nat)) (so : State) (ho : State.resyncOne s a x = some so) : Only [.regs, .evr, .hfe, .wc, .rbe, .ports, .capo] s so := by
  unfold State.resyncOne at ho
  try dsimp only at ho
  repeat' first
    | contradiction
    | (have ho := Option.some.inj ho; subst ho)
    | split at ho
  all_goals repeat' first
    | exact (rfl : (_ : Bool) = _)
    | exact Or.inl (by decide)
    | with_reducible exact Or.inr rfl
    | with_reducible exact Only.refl
    | with_reducible assumption
    | with_reducible refine Only.ite ?_ ?_
    | with_reducible apply Only.step (only_State_resyncStripe ..)
    | (dsimp only [Only.mk_form]; with_reducible apply OnlyMk.intro (h0 := .inr rfl))
    | split
    | dsimp only
    | refine Only.ite ?_ ?_

theorem only_execResyncScanStep (a : ArrayId) (s : State) : OnlyOut [.regs, .evr, .hfe, .wc, .rbe, .ports, .capo] s (execResyncScanStep a s) := by
  unfold execResyncScanStep
  try dsimp only
  repeat' first
    | exact (rfl : (_ : Bool) = _)
    | exact Or.inl (by decide)
    | with_reducible exact Or.inr rfl
    | with_reducible exact Only.refl
    | with_reducible assumption
    | with_reducible refine OnlyOut.next ?_
    | with_reducible refine OnlyOut.ite ?_ ?_
    | with_reducible refine Only.ite ?_ ?_
    | with_reducible apply Only.step (only_State_putArr ..)
    | (dsimp only [Only.mk_form]; with_reducible apply OnlyMk.intro (h0 := .inr rfl))
    | split
    | refine Only.ite ?_ ?_
    | refine OnlyOut.ite ?_ ?_
    | refine Only.step (only_State_resyncOne _ _ _ _ (by with_reducible assumption)) (by decide) ?_


/-! ### Machine/CapoOps.lean -/

theorem only_State_setRole (s : State) (r : Nat) : Only [.regs] s (State.setRole s r) := by
  unfold State.setRole
  try dsimp only
  repeat' first
    | exact (rfl : (_ : Bool) = _)
    | with_reducible exact Only.refl
    | with_reducible apply Only.step (only_State_setFld ..)

theorem only_State_driveCapo (s : State) : Only [.regs] s (State.driveCapo s) := by
  unfold State.driveCapo
  try dsimp only
  repeat' first
    | exact (rfl : (_ : Bool) = _)
    | with_reducible exact Only.refl
    | with_reducible apply Only.step (only_State_setFld ..)

theorem only_State_lineFault (s : State) : Only [.regs, .evr, .hfe, .wc, .rbe, .ports, .capo] s (State.lineFault s) := by
  unfold State.lineFault
  try dsimp only
  repeat' first
    | exact (rfl : (_ : Bool) = _)
    | exact Or.inl (by decide)
    | with_reducible exact Or.inr rfl
    | with_reducible exact Only.refl
    | with_reducible refine Only.ite ?_ ?_
    | with_reducible apply Only.step (only_State_closeGate ..)
    | with_reducible apply Only.step (only_State_driveCapo ..)
    | with_reducible apply Only.step (only_State_emit ..)
    | with_reducible apply Only.step (only_State_setBit ..)
    | with_reducible apply Only.step (only_State_setFld ..)
    | with_reducible apply Only.step (only_State_setRole ..)
    | (dsimp only [Only.mk_form]; with_reducible apply OnlyMk.intro (h0 := .inr rfl))
    | split
    | refine Only.ite ?_ ?_

theorem only_State_mirrorOff (s : State) : Only [.regs, .hfe, .wc, .ports, .capo] s (State.mirrorOff s) := by
  unfold State.mirrorOff
  try dsimp only
  repeat' first
    | exact (rfl : (_ : Bool) = _)
    | exact Or.inl (by decide)
    | with_reducible exact Or.inr rfl
    | with_reducible exact Only.refl
    | with_reducible apply Only.step (only_State_mirrorWake ..)
    | with_reducible apply Only.step (only_State_setBit ..)
    | (dsimp only [Only.mk_form]; with_reducible apply OnlyMk.intro (h0 := .inr rfl))
    | dsimp only

theorem only_State_sendHealth (s : State) : Only [.capo] s (State.sendHealth s) := by
  unfold State.sendHealth
  try dsimp only
  repeat' first
    | exact (rfl : (_ : Bool) = _)
    | exact Or.inl (by decide)
    | with_reducible exact Or.inr rfl
    | with_reducible exact Only.refl
    | (dsimp only [Only.mk_form]; with_reducible apply OnlyMk.intro (h0 := .inr rfl))

theorem only_State_beginClaim (s : State) : Only [.regs, .capo] s (State.beginClaim s) := by
  unfold State.beginClaim
  try dsimp only
  repeat' first
    | exact (rfl : (_ : Bool) = _)
    | exact Or.inl (by decide)
    | with_reducible exact Or.inr rfl
    | with_reducible exact Only.refl
    | with_reducible refine Only.ite ?_ ?_
    | with_reducible apply Only.step (only_State_driveCapo ..)
    | with_reducible apply Only.step (only_State_setFld ..)
    | with_reducible apply Only.step (only_State_setRole ..)
    | (dsimp only [Only.mk_form]; with_reducible apply OnlyMk.intro (h0 := .inr rfl))
    | split
    | refine Only.ite ?_ ?_

theorem only_State_beginRelease (s : State) (cause : Nat) : Only [.regs, .evr, .hfe, .wc, .rbe, .ports, .capo] s (State.beginRelease s cause) := by
  unfold State.beginRelease
  try dsimp only
  repeat' first
    | exact (rfl : (_ : Bool) = _)
    | exact Or.inl (by decide)
    | with_reducible exact Or.inr rfl
    | with_reducible exact Only.refl
    | with_reducible apply Only.step (only_State_closeGate ..)
    | with_reducible apply Only.step (only_State_setRole ..)
    | (dsimp only [Only.mk_form]; with_reducible apply OnlyMk.intro (h0 := .inr rfl))
    | dsimp only

theorem only_State_leaveUpdates (s : State) : Only [.wc, .capo] s (State.leaveUpdates s) := by
  unfold State.leaveUpdates
  try dsimp only
  repeat' first
    | exact (rfl : (_ : Bool) = _)
    | exact Or.inl (by decide)
    | with_reducible exact Or.inr rfl
    | with_reducible exact Only.refl
    | with_reducible assumption
    | with_reducible apply Only.step (only_State_withLines ..)
    | with_reducible refine Only.foldl (fun _ _ _ => ?_) ?_
    | (dsimp only [Only.mk_form]; with_reducible apply OnlyMk.intro (h0 := .inr rfl))

theorem only_State_endRelease (s : State) : Only [.regs, .hfe, .wc, .ports, .capo] s (State.endRelease s) := by
  unfold State.endRelease
  try dsimp only
  repeat' first
    | exact (rfl : (_ : Bool) = _)
    | exact Or.inl (by decide)
    | with_reducible exact Or.inr rfl
    | with_reducible exact Only.refl
    | with_reducible apply Only.step (only_State_driveCapo ..)
    | with_reducible apply Only.step (only_State_leaveUpdates ..)
    | with_reducible apply Only.step (only_State_mirrorOff ..)
    | with_reducible apply Only.step (only_State_setRole ..)
    | (dsimp only [Only.mk_form]; with_reducible apply OnlyMk.intro (h0 := .inr rfl))

theorem only_State_withdraw (s : State) : Only [.regs, .evr, .hfe, .wc, .rbe, .ports, .capo] s (State.withdraw s) := by
  unfold State.withdraw
  try dsimp only
  repeat' first
    | exact (rfl : (_ : Bool) = _)
    | exact Or.inl (by decide)
    | with_reducible exact Or.inr rfl
    | with_reducible exact Only.refl
    | with_reducible refine Only.ite ?_ ?_
    | with_reducible apply Only.step (only_State_beginRelease ..)
    | with_reducible apply Only.step (only_State_driveCapo ..)
    | with_reducible apply Only.step (only_State_setRole ..)
    | (dsimp only [Only.mk_form]; with_reducible apply OnlyMk.intro (h0 := .inr rfl))
    | split
    | refine Only.ite ?_ ?_

theorem only_State_seeClass (s : State) : Only [.regs, .evr, .hfe, .wc, .rbe, .ports, .capo] s (State.seeClass s) := by
  unfold State.seeClass
  try dsimp only
  repeat' first
    | exact (rfl : (_ : Bool) = _)
    | exact Or.inl (by decide)
    | with_reducible exact Or.inr rfl
    | with_reducible exact Only.refl
    | with_reducible assumption
    | with_reducible refine Only.ite ?_ ?_
    | with_reducible apply Only.step (only_State_closeGate ..)
    | with_reducible apply Only.step (only_State_driveCapo ..)
    | with_reducible apply Only.step (only_State_lineFault ..)
    | with_reducible apply Only.step (only_State_withdraw ..)
    | (dsimp only [Only.mk_form]; with_reducible apply OnlyMk.intro (h0 := .inr rfl))
    | split
    | refine Only.ite ?_ ?_

theorem only_State_mirrorSector (s : State) (nsid lba : Nat) (sec : CSec) (cls seq : Nat) : Only [.wc] s (State.mirrorSector s nsid lba sec cls seq) := by
  unfold State.mirrorSector
  try dsimp only
  repeat' first
    | exact (rfl : (_ : Bool) = _)
    | exact Or.inl (by decide)
    | with_reducible exact Or.inr rfl
    | with_reducible exact Only.refl
    | (dsimp only [Only.mk_form]; with_reducible apply OnlyMk.intro (h0 := .inr rfl))
    | dsimp only

theorem only_State_mirrorContext (s : State) (u : Update) : Only [.wc, .capo] s (State.mirrorContext s u) := by
  unfold State.mirrorContext
  try dsimp only
  repeat' first
    | exact (rfl : (_ : Bool) = _)
    | exact Or.inl (by decide)
    | with_reducible exact Or.inr rfl
    | with_reducible exact Only.refl
    | with_reducible assumption
    | with_reducible refine Only.ite ?_ ?_
    | with_reducible apply Only.step (only_State_withLines ..)
    | with_reducible refine Only.foldl (fun _ _ _ => ?_) ?_
    | (dsimp only [Only.mk_form]; with_reducible apply OnlyMk.intro (h0 := .inr rfl))
    | split
    | refine Only.ite ?_ ?_

theorem only_State_mirrorDone (s : State) (id : Nat) : Only [.wc, .capo] s (State.mirrorDone s id) := by
  unfold State.mirrorDone
  try dsimp only
  repeat' first
    | exact (rfl : (_ : Bool) = _)
    | exact Or.inl (by decide)
    | with_reducible exact Or.inr rfl
    | with_reducible exact Only.refl
    | with_reducible assumption
    | with_reducible refine Only.ite ?_ ?_
    | with_reducible apply Only.step (only_State_withLines ..)
    | with_reducible refine Only.foldl (fun _ _ _ => ?_) ?_
    | (dsimp only [Only.mk_form]; with_reducible apply OnlyMk.intro (h0 := .inr rfl))
    | split
    | refine Only.ite ?_ ?_

theorem only_State_mirrorArr (s : State) (a : ArrayId) (f : Arr → Arr) : Only [.rbe] s (State.mirrorArr s a f) := by
  unfold State.mirrorArr
  try dsimp only
  repeat' first
    | exact (rfl : (_ : Bool) = _)
    | exact Or.inl (by decide)
    | with_reducible exact Or.inr rfl
    | with_reducible exact Only.refl
    | with_reducible assumption
    | with_reducible apply Only.step (only_State_putArr ..)
    | (dsimp only [Only.mk_form]; with_reducible apply OnlyMk.intro (h0 := .inr rfl))
    | split

theorem only_State_mirrorIn (s : State) (i : MirrorItem) : Only [.regs, .evr, .hfe, .wc, .rbe, .cip, .capo] s (State.mirrorIn s i) := by
  unfold State.mirrorIn
  try dsimp only
  repeat' first
    | exact (rfl : (_ : Bool) = _)
    | exact Or.inl (by decide)
    | with_reducible exact Or.inr rfl
    | with_reducible exact Only.refl
    | with_reducible assumption
    | with_reducible refine Only.ite ?_ ?_
    | with_reducible apply Only.step (only_State_deferError ..)
    | with_reducible apply Only.step (only_State_listLost ..)
    | with_reducible apply Only.step (only_State_mirrorArr ..)
    | with_reducible apply Only.step (only_State_mirrorContext ..)
    | with_reducible apply Only.step (only_State_mirrorDone ..)
    | with_reducible apply Only.step (only_State_mirrorSector ..)
    | (dsimp only [Only.mk_form]; with_reducible apply OnlyMk.intro (h0 := .inr rfl))
    | split
    | dsimp only
    | refine Only.ite ?_ ?_

theorem only_State_retireOwn (s : State) : Only [.regs, .vault] s (State.retireOwn s) := by
  unfold State.retireOwn
  try dsimp only
  repeat' first
    | exact (rfl : (_ : Bool) = _)
    | exact Or.inl (by decide)
    | with_reducible exact Or.inr rfl
    | with_reducible exact Only.refl
    | with_reducible assumption
    | with_reducible refine Only.ite ?_ ?_
    | with_reducible apply Only.step (only_State_setBit ..)
    | with_reducible apply Only.step (only_State_setFld ..)
    | with_reducible refine Only.foldl (fun _ _ _ => ?_) ?_
    | with_reducible refine Only.foldlFst (fun _ _ _ => ?_) ?_
    | with_reducible refine Only.foldlSnd (fun _ _ _ => ?_) ?_
    | (dsimp only [Only.mk_form]; with_reducible apply OnlyMk.intro (h0 := .inr rfl))
    | split
    | dsimp only
    | refine Only.ite ?_ ?_

theorem only_State_standBy (s : State) : Only [.regs, .capo] s (State.standBy s) := by
  unfold State.standBy
  try dsimp only
  repeat' first
    | exact (rfl : (_ : Bool) = _)
    | exact Or.inl (by decide)
    | with_reducible exact Or.inr rfl
    | with_reducible exact Only.refl
    | with_reducible apply Only.step (only_State_driveCapo ..)
    | with_reducible apply Only.step (only_State_setFld ..)
    | with_reducible apply Only.step (only_State_setRole ..)
    | (dsimp only [Only.mk_form]; with_reducible apply OnlyMk.intro (h0 := .inr rfl))

theorem only_State_becomeStandby (s : State) : Only [.regs, .vault, .capo] s (State.becomeStandby s) := by
  unfold State.becomeStandby
  try dsimp only
  repeat' first
    | exact (rfl : (_ : Bool) = _)
    | with_reducible exact Only.refl
    | with_reducible apply Only.step (only_State_retireOwn ..)
    | with_reducible apply Only.step (only_State_standBy ..)

theorem only_State_standbyOfClaimer (s : State) : Only [.regs, .capo] s (State.standbyOfClaimer s) := by
  unfold State.standbyOfClaimer
  try dsimp only
  repeat' first
    | exact (rfl : (_ : Bool) = _)
    | exact Or.inl (by decide)
    | with_reducible exact Or.inr rfl
    | with_reducible exact Only.refl
    | with_reducible apply Only.step (only_State_standBy ..)
    | (dsimp only [Only.mk_form]; with_reducible apply OnlyMk.intro (h0 := .inr rfl))
    | dsimp only

theorem only_State_retireWaiting (s : State) : Only [.regs, .vault, .capo] s (State.retireWaiting s) := by
  unfold State.retireWaiting
  try dsimp only
  repeat' first
    | exact (rfl : (_ : Bool) = _)
    | exact Or.inl (by decide)
    | with_reducible exact Or.inr rfl
    | with_reducible exact Only.refl
    | with_reducible refine Only.ite ?_ ?_
    | with_reducible apply Only.step (only_State_retireOwn ..)
    | (dsimp only [Only.mk_form]; with_reducible apply OnlyMk.intro (h0 := .inr rfl))
    | split
    | refine Only.ite ?_ ?_

theorem only_State_becomeActive (s : State) : Only [.regs, .capo] s (State.becomeActive s) := by
  unfold State.becomeActive
  try dsimp only
  repeat' first
    | exact (rfl : (_ : Bool) = _)
    | exact Or.inl (by decide)
    | with_reducible exact Or.inr rfl
    | with_reducible exact Only.refl
    | with_reducible apply Only.step (only_State_setBit ..)
    | with_reducible apply Only.step (only_State_setFld ..)
    | with_reducible apply Only.step (only_State_setRole ..)
    | (dsimp only [Only.mk_form]; with_reducible apply OnlyMk.intro (h0 := .inr rfl))

theorem only_State_capoIgnored (s : State) (cmd : Nat) : Only [.evr] s (State.capoIgnored s cmd) := by
  unfold State.capoIgnored
  try dsimp only
  repeat' first
    | exact (rfl : (_ : Bool) = _)
    | with_reducible exact Only.refl
    | with_reducible apply Only.step (only_State_emit ..)


end Sys2Proof.Machine
end

