-- ==== Sys2Proof/Laws/OnlyMid.lean ====
section
/-!
SUPPORT. Laws/OnlyMid.lean: for each operation of FedOps, Energy, Calibration, Fans, PwrOps, Mapper, RebOps, HfeOps, Admin, Capo, Cipher, Images (in Machine/),
the parts of the state that it may change.
-/
set_option linter.unreachableTactic false
set_option linter.unusedTactic false
namespace Sys2Proof.Machine

/-! ### Machine/FedOps.lean -/

theorem only_State_withFed (s : State) (f : Fed) : Only [.fed] s (State.withFed s f) := by
  unfold State.withFed
  try dsimp only
  repeat' first
    | exact (rfl : (_ : Bool) = _)
    | exact Or.inl (by decide)
    | with_reducible exact Or.inr rfl
    | with_reducible exact Only.refl
    | (dsimp only [Only.mk_form]; with_reducible apply OnlyMk.intro (h0 := .inr rfl))

theorem only_State_fedSend (s : State) (m : FedMsg) : Only [.fed] s (State.fedSend s m) := by
  unfold State.fedSend
  try dsimp only
  repeat' first
    | exact (rfl : (_ : Bool) = _)
    | exact Or.inl (by decide)
    | with_reducible exact Or.inr rfl
    | with_reducible exact Only.refl
    | with_reducible apply Only.step (only_State_withFed ..)
    | (dsimp only [Only.mk_form]; with_reducible apply OnlyMk.intro (h0 := .inr rfl))

theorem only_State_letJoin (s : State) (node device : Nat) : Only [.regs, .fed] s (State.letJoin s node device) := by
  unfold State.letJoin
  try dsimp only
  repeat' first
    | exact (rfl : (_ : Bool) = _)
    | exact Or.inl (by decide)
    | with_reducible exact Or.inr rfl
    | with_reducible exact Only.refl
    | with_reducible refine Only.ite ?_ ?_
    | with_reducible apply Only.step (only_State_setFld ..)
    | with_reducible apply Only.step (only_State_withFed ..)
    | (dsimp only [Only.mk_form]; with_reducible apply OnlyMk.intro (h0 := .inr rfl))
    | split
    | refine Only.ite ?_ ?_

theorem only_State_refuseJoin (s : State) (reason node : Nat) : Only [.regs, .evr, .fed] s (State.refuseJoin s reason node) := by
  unfold State.refuseJoin
  try dsimp only
  repeat' first
    | exact (rfl : (_ : Bool) = _)
    | with_reducible exact Only.refl
    | with_reducible apply Only.step (only_State_emit ..)
    | with_reducible apply Only.step (only_State_fedSend ..)
    | with_reducible apply Only.step (only_State_incFld ..)
    | dsimp only

theorem only_State_leaveFed (s : State) : Only [.regs, .fed] s (State.leaveFed s) := by
  unfold State.leaveFed
  try dsimp only
  repeat' first
    | exact (rfl : (_ : Bool) = _)
    | exact Or.inl (by decide)
    | with_reducible exact Or.inr rfl
    | with_reducible exact Only.refl
    | with_reducible apply Only.step (only_State_setBit ..)
    | with_reducible apply Only.step (only_State_withFed ..)
    | (dsimp only [Only.mk_form]; with_reducible apply OnlyMk.intro (h0 := .inr rfl))

theorem only_State_hearHello (s : State) (h : Hello) : Only [.regs, .evr, .fed] s (State.hearHello s h) := by
  unfold State.hearHello
  try dsimp only
  repeat' first
    | exact (rfl : (_ : Bool) = _)
    | exact Or.inl (by decide)
    | with_reducible exact Or.inr rfl
    | with_reducible exact Only.refl
    | with_reducible assumption
    | with_reducible refine Only.ite ?_ ?_
    | with_reducible apply Only.step (only_State_emit ..)
    | with_reducible apply Only.step (only_State_leaveFed ..)
    | with_reducible apply Only.step (only_State_letJoin ..)
    | with_reducible apply Only.step (only_State_refuseJoin ..)
    | with_reducible apply Only.step (only_State_setFld ..)
    | (dsimp only [Only.mk_form]; with_reducible apply OnlyMk.intro (h0 := .inr rfl))
    | split
    | dsimp only
    | refine Only.ite ?_ ?_

theorem only_State_elect (s : State) (cands : List Announce) : Only [.regs, .fed] s (State.elect s cands) := by
  unfold State.elect
  try dsimp only
  repeat' first
    | exact (rfl : (_ : Bool) = _)
    | exact Or.inl (by decide)
    | with_reducible exact Or.inr rfl
    | with_reducible exact Only.refl
    | with_reducible assumption
    | with_reducible refine Only.ite ?_ ?_
    | with_reducible apply Only.step (only_State_setBit ..)
    | with_reducible apply Only.step (only_State_setFld ..)
    | with_reducible apply Only.step (only_State_withFed ..)
    | (dsimp only [Only.mk_form]; with_reducible apply OnlyMk.intro (h0 := .inr rfl))
    | split
    | refine Only.ite ?_ ?_

theorem only_State_pitDone (s : State) (err : Nat) : Only [.regs] s (State.pitDone s err) := by
  unfold State.pitDone
  try dsimp only
  repeat' first
    | exact (rfl : (_ : Bool) = _)
    | with_reducible exact Only.refl
    | with_reducible apply Only.step (only_State_setBit ..)
    | with_reducible apply Only.step (only_State_setFld ..)

theorem only_State_hostTime (s : State) (cls : Nat) : Only [.regs, .fed] s (State.hostTime s cls) := by
  unfold State.hostTime
  try dsimp only
  repeat' first
    | exact (rfl : (_ : Bool) = _)
    | exact Or.inl (by decide)
    | with_reducible exact Or.inr rfl
    | with_reducible exact Only.refl
    | with_reducible apply Only.step (only_State_setBit ..)
    | with_reducible apply Only.step (only_State_setFld ..)
    | with_reducible apply Only.step (only_State_withFed ..)
    | (dsimp only [Only.mk_form]; with_reducible apply OnlyMk.intro (h0 := .inr rfl))

theorem only_State_putPluck (s : State) (i : Nat) (e : PluckEnt) : Only [.fed] s (State.putPluck s i e) := by
  unfold State.putPluck
  try dsimp only
  repeat' first
    | exact (rfl : (_ : Bool) = _)
    | exact Or.inl (by decide)
    | with_reducible exact Or.inr rfl
    | with_reducible exact Only.refl
    | with_reducible apply Only.step (only_State_withFed ..)
    | (dsimp only [Only.mk_form]; with_reducible apply OnlyMk.intro (h0 := .inr rfl))

theorem only_State_installPluck (s : State) (i : Nat) (m : PluckMsg) : Only [.fed] s (State.installPluck s i m) := by
  unfold State.installPluck
  try dsimp only
  repeat' first
    | exact (rfl : (_ : Bool) = _)
    | with_reducible exact Only.refl
    | with_reducible apply Only.step (only_State_putPluck ..)
    | dsimp only

theorem only_State_writePluck (s : State) : Only [.fed] s (State.writePluck s).2 := by
  unfold State.writePluck
  try dsimp only
  repeat' first
    | exact (rfl : (_ : Bool) = _)
    | exact Or.inl (by decide)
    | with_reducible exact Or.inr rfl
    | with_reducible exact Only.refl
    | with_reducible apply Only.step (only_State_installPluck ..)
    | with_reducible apply Only.step (only_State_withFed ..)
    | (dsimp only [Only.mk_form]; with_reducible apply OnlyMk.intro (h0 := .inr rfl))
    | dsimp only

theorem only_State_pluckDone (s : State) (err : Nat) : Only [.regs] s (State.pluckDone s err) := by
  unfold State.pluckDone
  try dsimp only
  repeat' first
    | exact (rfl : (_ : Bool) = _)
    | with_reducible exact Only.refl
    | with_reducible apply Only.step (only_State_setBit ..)
    | with_reducible apply Only.step (only_State_setFld ..)

theorem only_State_loadStanding (s : State) : Only [.fed] s (State.loadStanding s) := by
  unfold State.loadStanding
  try dsimp only
  repeat' first
    | exact (rfl : (_ : Bool) = _)
    | exact Or.inl (by decide)
    | with_reducible exact Or.inr rfl
    | with_reducible exact Only.refl
    | with_reducible apply Only.step (only_State_withFed ..)
    | (dsimp only [Only.mk_form]; with_reducible apply OnlyMk.intro (h0 := .inr rfl))
    | dsimp only

theorem only_State_settlePluck (s : State) (i : Nat) (e : PluckEnt) (st : PluckSt) (reason : Nat) : Only [.fed] s (State.settlePluck s i e st reason) := by
  unfold State.settlePluck
  try dsimp only
  repeat' first
    | exact (rfl : (_ : Bool) = _)
    | exact Or.inl (by decide)
    | with_reducible exact Or.inr rfl
    | with_reducible exact Only.refl
    | with_reducible refine Only.ite ?_ ?_
    | with_reducible apply Only.step (only_State_putPluck ..)
    | (dsimp only [Only.mk_form]; with_reducible apply OnlyMk.intro (h0 := .inr rfl))
    | split
    | refine Only.ite ?_ ?_

theorem only_State_dropPluck (s : State) (i : Nat) (e : PluckEnt) (reason : Nat) : Only [.regs, .fed] s (State.dropPluck s i e reason) := by
  unfold State.dropPluck
  try dsimp only
  repeat' first
    | exact (rfl : (_ : Bool) = _)
    | with_reducible exact Only.refl
    | with_reducible apply Only.step (only_State_incFld ..)
    | with_reducible apply Only.step (only_State_settlePluck ..)

theorem only_State_cutBarrier (s : State) (i te : Nat) : Only [.fed] s (State.cutBarrier s i te) := by
  unfold State.cutBarrier
  try dsimp only
  repeat' first
    | exact (rfl : (_ : Bool) = _)
    | exact Or.inl (by decide)
    | with_reducible exact Or.inr rfl
    | with_reducible exact Only.refl
    | with_reducible apply Only.step (only_State_withFed ..)
    | (dsimp only [Only.mk_form]; with_reducible apply OnlyMk.intro (h0 := .inr rfl))
    | dsimp only

theorem only_State_dropBarriers (s : State) : Only [.regs, .fed] s (State.dropBarriers s) := by
  unfold State.dropBarriers
  try dsimp only
  repeat' first
    | exact (rfl : (_ : Bool) = _)
    | exact Or.inl (by decide)
    | with_reducible exact Or.inr rfl
    | with_reducible exact Only.refl
    | with_reducible assumption
    | with_reducible apply Only.step (only_State_dropPluck ..)
    | with_reducible apply Only.step (only_State_withFed ..)
    | with_reducible refine Only.foldl (fun _ _ _ => ?_) ?_
    | (dsimp only [Only.mk_form]; with_reducible apply OnlyMk.intro (h0 := .inr rfl))
    | split


/-! ### Machine/Energy.lean -/

theorem only_State_holdupCheck (s : State) : Only [.freeIx, .regs, .wc, .vault] s (State.holdupCheck s) := by
  unfold State.holdupCheck
  try dsimp only
  repeat' first
    | exact (rfl : (_ : Bool) = _)
    | exact Or.inl (by decide)
    | with_reducible exact Or.inr rfl
    | with_reducible exact Only.refl
    | with_reducible assumption
    | with_reducible refine Only.ite ?_ ?_
    | with_reducible apply Only.step (only_State_dumpCut ..)
    | with_reducible apply Only.step (only_State_setHoldup ..)
    | with_reducible apply Only.step (only_State_used ..)
    | (dsimp only [Only.mk_form]; with_reducible apply OnlyMk.intro (h0 := .inr rfl))
    | split
    | refine Only.ite ?_ ?_

theorem only_execPackCutoff (pack : PackId) (temp : Bool) (s : State) : OnlyOut [.freeIx, .regs, .evr, .hfe, .wc, .vault, .nrg] s (execPackCutoff pack temp s) := by
  unfold execPackCutoff
  try dsimp only
  repeat' first
    | exact (rfl : (_ : Bool) = _)
    | exact Or.inl (by decide)
    | with_reducible exact Or.inr rfl
    | with_reducible exact Only.refl
    | with_reducible assumption
    | with_reducible refine OnlyOut.next ?_
    | with_reducible refine OnlyOut.ite ?_ ?_
    | with_reducible refine Only.ite ?_ ?_
    | with_reducible apply Only.step (only_State_endTest ..)
    | with_reducible apply Only.step (only_State_holdupCheck ..)
    | with_reducible apply Only.step (only_State_putPack ..)
    | with_reducible apply Only.step (only_State_showNrg ..)
    | (dsimp only [Only.mk_form]; with_reducible apply OnlyMk.intro (h0 := .inr rfl))
    | split
    | dsimp only
    | refine Only.ite ?_ ?_
    | refine OnlyOut.ite ?_ ?_

theorem only_execPackTempRecover (pack : PackId) (s : State) : OnlyOut [.nrg] s (execPackTempRecover pack s) := by
  unfold execPackTempRecover
  try dsimp only
  repeat' first
    | exact (rfl : (_ : Bool) = _)
    | exact Or.inl (by decide)
    | with_reducible exact Or.inr rfl
    | with_reducible exact Only.refl
    | with_reducible refine OnlyOut.next ?_
    | with_reducible refine OnlyOut.ite ?_ ?_
    | with_reducible refine Only.ite ?_ ?_
    | with_reducible apply Only.step (only_State_putPack ..)
    | (dsimp only [Only.mk_form]; with_reducible apply OnlyMk.intro (h0 := .inr rfl))
    | split
    | dsimp only
    | refine Only.ite ?_ ?_
    | refine OnlyOut.ite ?_ ?_

theorem only_execGaugeEnergyCompute (sampleA sampleB : PackSample) (s : State) : OnlyOut [.regs, .evr, .hfe, .wc, .nrg] s (execGaugeEnergyCompute sampleA sampleB s) := by
  unfold execGaugeEnergyCompute
  try dsimp only
  repeat' first
    | exact (rfl : (_ : Bool) = _)
    | with_reducible exact Only.refl
    | with_reducible refine OnlyOut.next ?_
    | with_reducible apply Only.step (only_State_computeEnergy ..)
    | with_reducible apply Only.step (only_State_moveSoc ..)
    | with_reducible apply Only.step (only_State_takeSample ..)

theorem only_execPackRemoved (pack : PackId) (s : State) : OnlyOut [.regs, .evr, .hfe, .wc, .nrg] s (execPackRemoved pack s) := by
  unfold execPackRemoved
  try dsimp only
  repeat' first
    | exact (rfl : (_ : Bool) = _)
    | exact Or.inl (by decide)
    | with_reducible exact Or.inr rfl
    | with_reducible exact Only.refl
    | with_reducible refine OnlyOut.next ?_
    | with_reducible refine OnlyOut.ite ?_ ?_
    | with_reducible refine Only.ite ?_ ?_
    | with_reducible apply Only.step (only_State_abortTest ..)
    | with_reducible apply Only.step (only_State_computeEnergy ..)
    | with_reducible apply Only.step (only_State_endLearn ..)
    | with_reducible apply Only.step (only_State_endNrgCmd ..)
    | with_reducible apply Only.step (only_State_putPack ..)
    | with_reducible apply Only.step (only_State_recomputeLimit ..)
    | with_reducible apply Only.step (only_State_setBit ..)
    | with_reducible apply Only.step (only_State_setFld ..)
    | (dsimp only [Only.mk_form]; with_reducible apply OnlyMk.intro (h0 := .inr rfl))
    | split
    | dsimp only
    | refine Only.ite ?_ ?_
    | refine OnlyOut.ite ?_ ?_

theorem only_execPackPresent (pack : PackId) (s : State) : OnlyOut [.regs, .evr, .hfe, .wc, .nrg] s (execPackPresent pack s) := by
  unfold execPackPresent
  try dsimp only
  repeat' first
    | exact (rfl : (_ : Bool) = _)
    | exact Or.inl (by decide)
    | with_reducible exact Or.inr rfl
    | with_reducible exact Only.refl
    | with_reducible refine OnlyOut.next ?_
    | with_reducible refine OnlyOut.ite ?_ ?_
    | with_reducible refine Only.ite ?_ ?_
    | with_reducible apply Only.step (only_State_computeEnergy ..)
    | with_reducible apply Only.step (only_State_putPack ..)
    | with_reducible apply Only.step (only_State_replacePack ..)
    | with_reducible apply Only.step (only_State_requestTest ..)
    | with_reducible apply Only.step (only_State_setBit ..)
    | with_reducible apply Only.step (only_State_setFld ..)
    | (dsimp only [Only.mk_form]; with_reducible apply OnlyMk.intro (h0 := .inr rfl))
    | split
    | refine Only.ite ?_ ?_
    | refine OnlyOut.ite ?_ ?_

theorem only_execHoldupSelftestStart (pack : PackId) (s : State) : OnlyOut [.regs, .hfe, .nrg] s (execHoldupSelftestStart pack s) := by
  unfold execHoldupSelftestStart
  try dsimp only
  repeat' first
    | exact (rfl : (_ : Bool) = _)
    | exact Or.inl (by decide)
    | with_reducible exact Or.inr rfl
    | with_reducible exact Only.refl
    | with_reducible refine OnlyOut.next ?_
    | with_reducible refine OnlyOut.ite ?_ ?_
    | with_reducible refine Only.ite ?_ ?_
    | with_reducible apply Only.step (only_State_putPack ..)
    | with_reducible apply Only.step (only_State_setHoldup ..)
    | with_reducible apply Only.step (only_State_showNrg ..)
    | (dsimp only [Only.mk_form]; with_reducible apply OnlyMk.intro (h0 := .inr rfl))
    | split
    | dsimp only
    | refine Only.ite ?_ ?_
    | refine OnlyOut.ite ?_ ?_

theorem only_execHoldupSelftestStep (mv : Nat) (ma : Int) (s : State) : OnlyOut [.regs, .evr, .hfe, .wc, .nrg] s (execHoldupSelftestStep mv ma s) := by
  unfold execHoldupSelftestStep
  try dsimp only
  repeat' first
    | exact (rfl : (_ : Bool) = _)
    | exact Or.inl (by decide)
    | with_reducible exact Or.inr rfl
    | with_reducible exact Only.refl
    | with_reducible assumption
    | with_reducible refine OnlyOut.next ?_
    | with_reducible refine OnlyOut.ite ?_ ?_
    | with_reducible refine Only.ite ?_ ?_
    | with_reducible apply Only.step (only_State_endTest ..)
    | with_reducible apply Only.step (only_State_judgeTest ..)
    | with_reducible apply Only.step (only_State_putPack ..)
    | (dsimp only [Only.mk_form]; with_reducible apply OnlyMk.intro (h0 := .inr rfl))
    | split
    | dsimp only
    | refine Only.ite ?_ ?_
    | refine OnlyOut.ite ?_ ?_

theorem only_execHoldupRetestTimer (pack : PackId) (s : State) : OnlyOut [.nrg] s (execHoldupRetestTimer pack s) := by
  unfold execHoldupRetestTimer
  try dsimp only
  repeat' first
    | exact (rfl : (_ : Bool) = _)
    | with_reducible exact Only.refl
    | with_reducible refine OnlyOut.next ?_
    | with_reducible refine OnlyOut.ite ?_ ?_
    | with_reducible refine Only.ite ?_ ?_
    | with_reducible apply Only.step (only_State_requestTest ..)
    | split
    | refine Only.ite ?_ ?_
    | refine OnlyOut.ite ?_ ?_

theorem only_execHoldupTestAgeExpiry (pack : PackId) (s : State) : OnlyOut [.nrg] s (execHoldupTestAgeExpiry pack s) := by
  unfold execHoldupTestAgeExpiry
  try dsimp only
  repeat' first
    | exact (rfl : (_ : Bool) = _)
    | with_reducible exact Only.refl
    | with_reducible refine OnlyOut.next ?_
    | with_reducible refine OnlyOut.ite ?_ ?_
    | with_reducible refine Only.ite ?_ ?_
    | with_reducible apply Only.step (only_State_requestTest ..)
    | split
    | refine Only.ite ?_ ?_
    | refine OnlyOut.ite ?_ ?_

theorem only_execHoldupStartupTest (s : State) : OnlyOut [.nrg] s (execHoldupStartupTest s) := by
  unfold execHoldupStartupTest
  try dsimp only
  repeat' first
    | exact (rfl : (_ : Bool) = _)
    | with_reducible exact Only.refl
    | with_reducible assumption
    | with_reducible refine OnlyOut.next ?_
    | with_reducible refine OnlyOut.ite ?_ ?_
    | with_reducible refine Only.ite ?_ ?_
    | with_reducible apply Only.step (only_State_requestTest ..)
    | with_reducible refine Only.foldl (fun _ _ _ => ?_) ?_
    | split
    | refine Only.ite ?_ ?_
    | refine OnlyOut.ite ?_ ?_

theorem only_execLearnStart (pack : PackId) (s : State) : OnlyOut [.regs, .hfe, .nrg] s (execLearnStart pack s) := by
  unfold execLearnStart
  try dsimp only
  repeat' first
    | exact (rfl : (_ : Bool) = _)
    | exact Or.inl (by decide)
    | with_reducible exact Or.inr rfl
    | with_reducible exact Only.refl
    | with_reducible refine OnlyOut.next ?_
    | with_reducible refine OnlyOut.ite ?_ ?_
    | with_reducible refine Only.ite ?_ ?_
    | with_reducible apply Only.step (only_State_beginLearn ..)
    | with_reducible apply Only.step (only_State_putPack ..)
    | (dsimp only [Only.mk_form]; with_reducible apply OnlyMk.intro (h0 := .inr rfl))
    | split
    | refine Only.ite ?_ ?_
    | refine OnlyOut.ite ?_ ?_

theorem only_execLearnDischargeEnd (pack : PackId) (s : State) : OnlyOut [.nrg] s (execLearnDischargeEnd pack s) := by
  unfold execLearnDischargeEnd
  try dsimp only
  repeat' first
    | exact (rfl : (_ : Bool) = _)
    | exact Or.inl (by decide)
    | with_reducible exact Or.inr rfl
    | with_reducible exact Only.refl
    | with_reducible assumption
    | with_reducible refine OnlyOut.next ?_
    | with_reducible refine OnlyOut.ite ?_ ?_
    | with_reducible refine Only.ite ?_ ?_
    | with_reducible apply Only.step (only_State_putPack ..)
    | (dsimp only [Only.mk_form]; with_reducible apply OnlyMk.intro (h0 := .inr rfl))
    | split
    | dsimp only
    | refine Only.ite ?_ ?_
    | refine OnlyOut.ite ?_ ?_

theorem only_execLearnRestEnd (pack : PackId) (s : State) : OnlyOut [.regs, .evr, .hfe, .wc, .nrg] s (execLearnRestEnd pack s) := by
  unfold execLearnRestEnd
  try dsimp only
  repeat' first
    | exact (rfl : (_ : Bool) = _)
    | exact Or.inl (by decide)
    | with_reducible exact Or.inr rfl
    | with_reducible exact Only.refl
    | with_reducible assumption
    | with_reducible refine OnlyOut.next ?_
    | with_reducible refine OnlyOut.ite ?_ ?_
    | with_reducible refine Only.ite ?_ ?_
    | with_reducible apply Only.step (only_State_computeEnergy ..)
    | with_reducible apply Only.step (only_State_emit ..)
    | with_reducible apply Only.step (only_State_endLearn ..)
    | with_reducible apply Only.step (only_State_putPack ..)
    | with_reducible apply Only.step (only_State_socStart ..)
    | (dsimp only [Only.mk_form]; with_reducible apply OnlyMk.intro (h0 := .inr rfl))
    | split
    | dsimp only
    | refine Only.ite ?_ ?_
    | refine OnlyOut.ite ?_ ?_

theorem only_execLearnDisqualify (pack : PackId) (why : Fin 8) (s : State) : OnlyOut [.regs, .hfe, .nrg] s (execLearnDisqualify pack why s) := by
  unfold execLearnDisqualify
  try dsimp only
  repeat' first
    | exact (rfl : (_ : Bool) = _)
    | with_reducible exact Only.refl
    | with_reducible refine OnlyOut.next ?_
    | with_reducible refine OnlyOut.ite ?_ ?_
    | with_reducible refine Only.ite ?_ ?_
    | with_reducible apply Only.step (only_State_endLearn ..)
    | split
    | refine Only.ite ?_ ?_
    | refine OnlyOut.ite ?_ ?_

theorem only_execLearnRetry (pack : PackId) (s : State) : OnlyOut [.regs, .hfe, .nrg] s (execLearnRetry pack s) := by
  unfold execLearnRetry
  try dsimp only
  repeat' first
    | exact (rfl : (_ : Bool) = _)
    | exact Or.inl (by decide)
    | with_reducible exact Or.inr rfl
    | with_reducible exact Only.refl
    | with_reducible refine OnlyOut.next ?_
    | with_reducible refine OnlyOut.ite ?_ ?_
    | with_reducible refine Only.ite ?_ ?_
    | with_reducible apply Only.step (only_State_beginLearn ..)
    | with_reducible apply Only.step (only_State_putPack ..)
    | (dsimp only [Only.mk_form]; with_reducible apply OnlyMk.intro (h0 := .inr rfl))
    | split
    | refine Only.ite ?_ ?_
    | refine OnlyOut.ite ?_ ?_

theorem only_execGaugeBlockWrite (pack : PackId) (s : State) : OnlyOut [.regs, .cal, .nrg] s (execGaugeBlockWrite pack s) := by
  unfold execGaugeBlockWrite
  try dsimp only
  repeat' first
    | exact (rfl : (_ : Bool) = _)
    | with_reducible exact Only.refl
    | with_reducible refine OnlyOut.next ?_
    | with_reducible refine OnlyOut.ite ?_ ?_
    | with_reducible refine Only.ite ?_ ?_
    | with_reducible apply Only.step (only_State_writeLearned ..)
    | split
    | refine Only.ite ?_ ?_
    | refine OnlyOut.ite ?_ ?_

theorem only_State_nrgDone (s : State) (err : Nat) : Only [.regs] s (State.nrgDone s err) := by
  unfold State.nrgDone
  try dsimp only
  repeat' first
    | exact (rfl : (_ : Bool) = _)
    | with_reducible exact Only.refl
    | with_reducible apply Only.step (only_State_setBit ..)
    | with_reducible apply Only.step (only_State_setFld ..)

theorem only_State_cmdTest (s : State) (p : PackId) : Only [.regs, .nrg] s (State.cmdTest s p) := by
  unfold State.cmdTest
  try dsimp only
  repeat' first
    | exact (rfl : (_ : Bool) = _)
    | exact Or.inl (by decide)
    | with_reducible exact Or.inr rfl
    | with_reducible exact Only.refl
    | with_reducible refine Only.ite ?_ ?_
    | with_reducible apply Only.step (only_State_nrgDone ..)
    | with_reducible apply Only.step (only_State_requestTest ..)
    | with_reducible apply Only.step (only_State_setBit ..)
    | with_reducible apply Only.step (only_State_setFld ..)
    | (dsimp only [Only.mk_form]; with_reducible apply OnlyMk.intro (h0 := .inr rfl))
    | split
    | refine Only.ite ?_ ?_

theorem only_execNrgTest (pack : PackId) (s : State) : OnlyOut [.freeIx, .regs, .evr, .nrg] s (execNrgTest pack s) := by
  unfold execNrgTest
  try dsimp only
  repeat' first
    | exact (rfl : (_ : Bool) = _)
    | with_reducible exact Only.refl
    | with_reducible refine OnlyOut.next ?_
    | with_reducible refine OnlyOut.ite ?_ ?_
    | with_reducible refine OnlyOut.command ⟨rfl, rfl, rfl⟩ Only.refl ?_
    | with_reducible refine Only.ite ?_ ?_
    | with_reducible apply Only.step (only_State_cmdTest ..)
    | with_reducible apply Only.step (only_State_nrgDone ..)
    | split
    | refine Only.ite ?_ ?_
    | refine OnlyOut.ite ?_ ?_

theorem only_execNrgLearn (pack : PackId) (s : State) : OnlyOut [.freeIx, .regs, .evr, .hfe, .nrg] s (execNrgLearn pack s) := by
  unfold execNrgLearn
  try dsimp only
  repeat' first
    | exact (rfl : (_ : Bool) = _)
    | with_reducible exact Only.refl
    | with_reducible refine OnlyOut.next ?_
    | with_reducible refine OnlyOut.ite ?_ ?_
    | with_reducible refine OnlyOut.command ⟨rfl, rfl, rfl⟩ Only.refl ?_
    | with_reducible refine Only.ite ?_ ?_
    | with_reducible apply Only.step (only_State_beginLearn ..)
    | with_reducible apply Only.step (only_State_nrgDone ..)
    | split
    | refine Only.ite ?_ ?_
    | refine OnlyOut.ite ?_ ?_

theorem only_execLearnAbort (pack : PackId) (s : State) : OnlyOut [.freeIx, .regs, .evr, .hfe, .nrg] s (execLearnAbort pack s) := by
  unfold execLearnAbort
  try dsimp only
  repeat' first
    | exact (rfl : (_ : Bool) = _)
    | with_reducible exact Only.refl
    | with_reducible refine OnlyOut.next ?_
    | with_reducible refine OnlyOut.ite ?_ ?_
    | with_reducible refine OnlyOut.command ⟨rfl, rfl, rfl⟩ Only.refl ?_
    | with_reducible refine Only.ite ?_ ?_
    | with_reducible apply Only.step (only_State_endLearn ..)
    | with_reducible apply Only.step (only_State_nrgDone ..)
    | split
    | refine Only.ite ?_ ?_
    | refine OnlyOut.ite ?_ ?_

theorem only_execNrgRetest (pack : PackId) (s : State) : OnlyOut [.freeIx, .regs, .evr, .hfe, .wc, .nrg] s (execNrgRetest pack s) := by
  unfold execNrgRetest
  try dsimp only
  repeat' first
    | exact (rfl : (_ : Bool) = _)
    | exact Or.inl (by decide)
    | with_reducible exact Or.inr rfl
    | with_reducible exact Only.refl
    | with_reducible refine OnlyOut.next ?_
    | with_reducible refine OnlyOut.ite ?_ ?_
    | with_reducible refine OnlyOut.command ⟨rfl, rfl, rfl⟩ Only.refl ?_
    | with_reducible refine Only.ite ?_ ?_
    | with_reducible apply Only.step (only_State_cmdTest ..)
    | with_reducible apply Only.step (only_State_computeEnergy ..)
    | with_reducible apply Only.step (only_State_nrgDone ..)
    | with_reducible apply Only.step (only_State_putPack ..)
    | (dsimp only [Only.mk_form]; with_reducible apply OnlyMk.intro (h0 := .inr rfl))
    | split
    | refine Only.ite ?_ ?_
    | refine OnlyOut.ite ?_ ?_

theorem only_execNrgSamePack (pack : PackId) (s : State) : OnlyOut [.freeIx, .regs, .evr, .hfe, .wc, .nrg] s (execNrgSamePack pack s) := by
  unfold execNrgSamePack
  try dsimp only
  repeat' first
    | exact (rfl : (_ : Bool) = _)
    | exact Or.inl (by decide)
    | with_reducible exact Or.inr rfl
    | with_reducible exact Only.refl
    | with_reducible assumption
    | with_reducible refine OnlyOut.next ?_
    | with_reducible refine OnlyOut.ite ?_ ?_
    | with_reducible refine OnlyOut.command ⟨rfl, rfl, rfl⟩ Only.refl ?_
    | with_reducible refine Only.ite ?_ ?_
    | with_reducible apply Only.step (only_State_computeEnergy ..)
    | with_reducible apply Only.step (only_State_nrgDone ..)
    | with_reducible apply Only.step (only_State_putPack ..)
    | (dsimp only [Only.mk_form]; with_reducible apply OnlyMk.intro (h0 := .inr rfl))
    | split
    | refine Only.ite ?_ ?_
    | refine OnlyOut.ite ?_ ?_

theorem only_State_patrol (s : State) (rateMbps wearPct : Nat) (dirOk : Bool) : Only [.regs, .evr] s (State.patrol s rateMbps wearPct dirOk) := by
  unfold State.patrol
  try dsimp only
  repeat' first
    | exact (rfl : (_ : Bool) = _)
    | with_reducible exact Only.refl
    | with_reducible refine Only.ite ?_ ?_
    | with_reducible apply Only.step (only_State_emit ..)
    | with_reducible apply Only.step (only_State_setBit ..)
    | with_reducible apply Only.step (only_State_setFld ..)
    | split
    | refine Only.ite ?_ ?_

theorem only_execVaultPatrol (rateMbps wearPct : Nat) (dirOk : Bool) (s : State) : OnlyOut [.regs, .evr] s (execVaultPatrol rateMbps wearPct dirOk s) := by
  unfold execVaultPatrol
  try dsimp only
  repeat' first
    | exact (rfl : (_ : Bool) = _)
    | with_reducible exact Only.refl
    | with_reducible refine OnlyOut.next ?_
    | with_reducible refine OnlyOut.ite ?_ ?_
    | with_reducible refine Only.ite ?_ ?_
    | with_reducible apply Only.step (only_State_patrol ..)
    | split
    | refine Only.ite ?_ ?_
    | refine OnlyOut.ite ?_ ?_

theorem only_execVaultPatrolNow (rateMbps wearPct : Nat) (dirOk : Bool) (s : State) : OnlyOut [.freeIx, .regs, .evr] s (execVaultPatrolNow rateMbps wearPct dirOk s) := by
  unfold execVaultPatrolNow
  try dsimp only
  repeat' first
    | exact (rfl : (_ : Bool) = _)
    | with_reducible exact Only.refl
    | with_reducible refine OnlyOut.next ?_
    | with_reducible refine OnlyOut.ite ?_ ?_
    | with_reducible refine OnlyOut.command ⟨rfl, rfl, rfl⟩ Only.refl ?_
    | with_reducible refine Only.ite ?_ ?_
    | with_reducible apply Only.step (only_State_patrol ..)
    | with_reducible apply Only.step (only_State_setFld ..)
    | split
    | refine Only.ite ?_ ?_
    | refine OnlyOut.ite ?_ ?_


/-! ### Machine/Calibration.lean -/

theorem only_State_loadRestored (s : State) : Only [.regs, .evr, .cal, .hfe, .wc, .nrg] s (State.loadRestored s) := by
  unfold State.loadRestored
  try dsimp only
  repeat' first
    | exact (rfl : (_ : Bool) = _)
    | exact Or.inl (by decide)
    | with_reducible exact Or.inr rfl
    | with_reducible exact Only.refl
    | with_reducible assumption
    | with_reducible apply Only.step (only_State_computeEnergy ..)
    | with_reducible apply Only.step (only_State_loadTrims ..)
    | with_reducible apply Only.step (only_State_putPack ..)
    | with_reducible apply Only.step (only_State_recomputeLimit ..)
    | with_reducible refine Only.foldl (fun _ _ _ => ?_) ?_
    | (dsimp only [Only.mk_form]; with_reducible apply OnlyMk.intro (h0 := .inr rfl))

theorem only_State_restoreStep (s : State) (op : CalOp) (k : Nat) : Only [.regs, .evr, .cal, .hfe, .wc, .nrg] s (State.restoreStep s op k) := by
  unfold State.restoreStep
  try dsimp only
  repeat' first
    | exact (rfl : (_ : Bool) = _)
    | exact Or.inl (by decide)
    | with_reducible exact Or.inr rfl
    | with_reducible exact Only.refl
    | with_reducible assumption
    | with_reducible apply Only.step (only_State_emit ..)
    | with_reducible apply Only.step (only_State_loadRestored ..)
    | with_reducible apply Only.step (only_State_showCal ..)
    | (dsimp only [Only.mk_form]; with_reducible apply OnlyMk.intro (h0 := .inr rfl))
    | split
    | dsimp only

theorem only_State_runRestore (s : State) (op : CalOp) (done last : Nat) : Only [.regs, .evr, .cal, .hfe, .wc, .nrg] s (State.runRestore s op done last) := by
  unfold State.runRestore
  try dsimp only
  repeat' first
    | exact (rfl : (_ : Bool) = _)
    | with_reducible exact Only.refl
    | with_reducible assumption
    | with_reducible refine Only.ite ?_ ?_
    | with_reducible apply Only.step (only_State_restoreStep ..)
    | with_reducible refine Only.foldl (fun _ _ _ => ?_) ?_
    | split
    | refine Only.ite ?_ ?_

theorem only_State_calError (s : State) (e : Nat) : Only [.regs] s (State.calError s e) := by
  unfold State.calError
  try dsimp only
  repeat' first
    | exact (rfl : (_ : Bool) = _)
    | with_reducible exact Only.refl
    | with_reducible apply Only.step (only_State_setFld ..)

theorem only_State_restore (s : State) (op : CalOp) : Only [.freeIx, .regs, .evr, .cal, .hfe, .wc, .nrg] s (State.restore s op) := by
  unfold State.restore
  try dsimp only
  repeat' first
    | exact (rfl : (_ : Bool) = _)
    | exact Or.inl (by decide)
    | with_reducible exact Or.inr rfl
    | with_reducible exact Only.refl
    | with_reducible refine Only.ite ?_ ?_
    | with_reducible apply Only.step (only_State_calError ..)
    | with_reducible apply Only.step (only_State_runRestore ..)
    | with_reducible apply Only.step (only_State_setBit ..)
    | with_reducible apply Only.step (only_State_used ..)
    | (dsimp only [Only.mk_form]; with_reducible apply OnlyMk.intro (h0 := .inr rfl))
    | split
    | dsimp only
    | refine Only.ite ?_ ?_

theorem only_State_finishRestore (s : State) : Only [.regs, .evr, .cal, .hfe, .wc, .nrg] s (State.finishRestore s) := by
  unfold State.finishRestore
  try dsimp only
  repeat' first
    | exact (rfl : (_ : Bool) = _)
    | exact Or.inl (by decide)
    | with_reducible exact Or.inr rfl
    | with_reducible exact Only.refl
    | with_reducible assumption
    | with_reducible apply Only.step (only_State_calError ..)
    | with_reducible apply Only.step (only_State_runRestore ..)
    | with_reducible apply Only.step (only_State_setBit ..)
    | (dsimp only [Only.mk_form]; with_reducible apply OnlyMk.intro (h0 := .inr rfl))
    | split
    | dsimp only

theorem only_execRestoreFactory (s : State) : OnlyOut [.freeIx, .regs, .evr, .cal, .hfe, .wc, .nrg] s (execRestoreFactory s) := by
  unfold execRestoreFactory
  try dsimp only
  repeat' first
    | exact (rfl : (_ : Bool) = _)
    | with_reducible exact Only.refl
    | with_reducible refine OnlyOut.next ?_
    | with_reducible refine OnlyOut.ite ?_ ?_
    | with_reducible refine Only.ite ?_ ?_
    | with_reducible apply Only.step (only_State_calError ..)
    | with_reducible apply Only.step (only_State_restore ..)
    | split
    | refine Only.ite ?_ ?_
    | refine OnlyOut.ite ?_ ?_

theorem only_execRestorePrevious (s : State) : OnlyOut [.freeIx, .regs, .evr, .cal, .hfe, .wc, .nrg] s (execRestorePrevious s) := by
  unfold execRestorePrevious
  try dsimp only
  repeat' first
    | exact (rfl : (_ : Bool) = _)
    | with_reducible exact Only.refl
    | with_reducible refine OnlyOut.next ?_
    | with_reducible refine OnlyOut.ite ?_ ?_
    | with_reducible refine Only.ite ?_ ?_
    | with_reducible apply Only.step (only_State_calError ..)
    | with_reducible apply Only.step (only_State_restore ..)
    | split
    | refine Only.ite ?_ ?_
    | refine OnlyOut.ite ?_ ?_

theorem only_execFactoryCommit (s : State) : OnlyOut [.regs, .cal] s (execFactoryCommit s) := by
  unfold execFactoryCommit
  try dsimp only
  repeat' first
    | exact (rfl : (_ : Bool) = _)
    | exact Or.inl (by decide)
    | with_reducible exact Or.inr rfl
    | with_reducible exact Only.refl
    | with_reducible refine OnlyOut.next ?_
    | with_reducible refine OnlyOut.ite ?_ ?_
    | with_reducible refine Only.ite ?_ ?_
    | with_reducible apply Only.step (only_State_calError ..)
    | with_reducible apply Only.step (only_State_setBit ..)
    | with_reducible apply Only.step (only_State_showCal ..)
    | (dsimp only [Only.mk_form]; with_reducible apply OnlyMk.intro (h0 := .inr rfl))
    | split
    | refine Only.ite ?_ ?_
    | refine OnlyOut.ite ?_ ?_


/-! ### Machine/Fans.lean -/

theorem only_execThrottleClockStep (s : State) : OnlyOut [.regs, .therm] s (execThrottleClockStep s) := by
  unfold execThrottleClockStep
  try dsimp only
  repeat' first
    | exact (rfl : (_ : Bool) = _)
    | exact Or.inl (by decide)
    | with_reducible exact Or.inr rfl
    | with_reducible exact Only.refl
    | with_reducible refine OnlyOut.next ?_
    | with_reducible refine OnlyOut.ite ?_ ?_
    | with_reducible refine Only.ite ?_ ?_
    | with_reducible apply Only.step (only_State_showClock ..)
    | (dsimp only [Only.mk_form]; with_reducible apply OnlyMk.intro (h0 := .inr rfl))
    | split
    | refine Only.ite ?_ ?_
    | refine OnlyOut.ite ?_ ?_

theorem only_execAvsTimeout (s : State) : OnlyOut [.regs, .evr, .therm] s (execAvsTimeout s) := by
  unfold execAvsTimeout
  try dsimp only
  repeat' first
    | exact (rfl : (_ : Bool) = _)
    | exact Or.inl (by decide)
    | with_reducible exact Or.inr rfl
    | with_reducible exact Only.refl
    | with_reducible refine OnlyOut.next ?_
    | with_reducible apply Only.step (only_State_emit ..)
    | with_reducible apply Only.step (only_State_setBit ..)
    | with_reducible apply Only.step (only_State_showClock ..)
    | (dsimp only [Only.mk_form]; with_reducible apply OnlyMk.intro (h0 := .inr rfl))

theorem only_execVddFbPowerCheck (mw : Nat) (s : State) : OnlyOut [.regs, .therm] s (execVddFbPowerCheck mw s) := by
  unfold execVddFbPowerCheck
  try dsimp only
  repeat' first
    | exact (rfl : (_ : Bool) = _)
    | exact Or.inl (by decide)
    | with_reducible exact Or.inr rfl
    | with_reducible exact Only.refl
    | with_reducible refine OnlyOut.next ?_
    | with_reducible apply Only.step (only_State_setBit ..)
    | with_reducible apply Only.step (only_State_showClock ..)
    | (dsimp only [Only.mk_form]; with_reducible apply OnlyMk.intro (h0 := .inr rfl))
    | dsimp only

theorem only_State_showRotor (s : State) (n : FanId) (r : RotorSpeed) : Only [.regs, .fans] s (State.showRotor s n r) := by
  unfold State.showRotor
  try dsimp only
  repeat' first
    | exact (rfl : (_ : Bool) = _)
    | exact Or.inl (by decide)
    | with_reducible exact Or.inr rfl
    | with_reducible exact Only.refl
    | with_reducible apply Only.step (only_State_putFan ..)
    | with_reducible apply Only.step (only_State_setBit ..)
    | with_reducible apply Only.step (only_State_setFld ..)
    | (dsimp only [Only.mk_form]; with_reducible apply OnlyMk.intro (h0 := .inr rfl))

theorem only_execFanListenEnd (n : FanId) (rotor : RotorSpeed) (s : State) : OnlyOut [.regs, .fans] s (execFanListenEnd n rotor s) := by
  unfold execFanListenEnd
  try dsimp only
  repeat' first
    | exact (rfl : (_ : Bool) = _)
    | exact Or.inl (by decide)
    | with_reducible exact Or.inr rfl
    | with_reducible exact Only.refl
    | with_reducible refine OnlyOut.next ?_
    | with_reducible refine OnlyOut.ite ?_ ?_
    | with_reducible refine Only.ite ?_ ?_
    | with_reducible apply Only.step (only_State_incFld ..)
    | with_reducible apply Only.step (only_State_putFan ..)
    | with_reducible apply Only.step (only_State_setFanState ..)
    | with_reducible apply Only.step (only_State_showFans ..)
    | with_reducible apply Only.step (only_State_showRotor ..)
    | (dsimp only [Only.mk_form]; with_reducible apply OnlyMk.intro (h0 := .inr rfl))
    | split
    | refine Only.ite ?_ ?_
    | refine OnlyOut.ite ?_ ?_

theorem only_execFanBrakeDone (n : FanId) (ok : Bool) (s : State) : OnlyOut [.regs, .evr, .cal, .fans] s (execFanBrakeDone n ok s) := by
  unfold execFanBrakeDone
  try dsimp only
  repeat' first
    | exact (rfl : (_ : Bool) = _)
    | with_reducible exact Only.refl
    | with_reducible refine OnlyOut.next ?_
    | with_reducible refine OnlyOut.ite ?_ ?_
    | with_reducible refine Only.ite ?_ ?_
    | with_reducible apply Only.step (only_State_failFan ..)
    | with_reducible apply Only.step (only_State_setFanState ..)
    | with_reducible apply Only.step (only_State_showFans ..)
    | split
    | refine Only.ite ?_ ?_
    | refine OnlyOut.ite ?_ ?_

theorem only_execFanWaitRecheck (n : FanId) (rotor : RotorSpeed) (s : State) : OnlyOut [.regs, .fans] s (execFanWaitRecheck n rotor s) := by
  unfold execFanWaitRecheck
  try dsimp only
  repeat' first
    | exact (rfl : (_ : Bool) = _)
    | exact Or.inl (by decide)
    | with_reducible exact Or.inr rfl
    | with_reducible exact Only.refl
    | with_reducible refine OnlyOut.next ?_
    | with_reducible refine OnlyOut.ite ?_ ?_
    | with_reducible refine Only.ite ?_ ?_
    | with_reducible apply Only.step (only_State_putFan ..)
    | with_reducible apply Only.step (only_State_setFanState ..)
    | with_reducible apply Only.step (only_State_showRotor ..)
    | (dsimp only [Only.mk_form]; with_reducible apply OnlyMk.intro (h0 := .inr rfl))
    | split
    | refine Only.ite ?_ ?_
    | refine OnlyOut.ite ?_ ?_

theorem only_execFanRampEnd (drive : FanRun) (locked : Bool) (rs ls : Nat) (s : State) : OnlyOut [.regs, .cal, .fans] s (execFanRampEnd drive locked rs ls s) := by
  unfold execFanRampEnd
  try dsimp only
  repeat' first
    | exact (rfl : (_ : Bool) = _)
    | with_reducible exact Only.refl
    | with_reducible refine OnlyOut.next ?_
    | with_reducible refine OnlyOut.ite ?_ ?_
    | with_reducible refine Only.ite ?_ ?_
    | with_reducible apply Only.step (only_State_incFld ..)
    | with_reducible apply Only.step (only_State_pwmRun ..)
    | with_reducible apply Only.step (only_State_refineFan ..)
    | with_reducible apply Only.step (only_State_setFanState ..)
    | with_reducible apply Only.step (only_State_setFld ..)
    | with_reducible apply Only.step (only_State_showFans ..)
    | with_reducible apply Only.step (only_State_showRotor ..)
    | split
    | dsimp only
    | refine Only.ite ?_ ?_
    | refine OnlyOut.ite ?_ ?_

theorem only_execFanAttemptFail (n : FanId) (s : State) : OnlyOut [.regs, .evr, .cal, .fans] s (execFanAttemptFail n s) := by
  unfold execFanAttemptFail
  try dsimp only
  repeat' first
    | exact (rfl : (_ : Bool) = _)
    | with_reducible exact Only.refl
    | with_reducible refine OnlyOut.next ?_
    | with_reducible refine OnlyOut.ite ?_ ?_
    | with_reducible refine Only.ite ?_ ?_
    | with_reducible apply Only.step (only_State_failFan ..)
    | split
    | refine Only.ite ?_ ?_
    | refine OnlyOut.ite ?_ ?_

theorem only_execFanRetryTimer (n : FanId) (s : State) : OnlyOut [.regs, .evr, .cal, .fans] s (execFanRetryTimer n s) := by
  unfold execFanRetryTimer
  try dsimp only
  repeat' first
    | exact (rfl : (_ : Bool) = _)
    | with_reducible exact Only.refl
    | with_reducible refine OnlyOut.next ?_
    | with_reducible refine OnlyOut.ite ?_ ?_
    | with_reducible refine Only.ite ?_ ?_
    | with_reducible apply Only.step (only_State_fanListen ..)
    | split
    | refine Only.ite ?_ ?_
    | refine OnlyOut.ite ?_ ?_

theorem only_execFanOvercurrent (drive : FanRun) (s : State) : OnlyOut [.regs, .evr, .cal, .fans] s (execFanOvercurrent drive s) := by
  unfold execFanOvercurrent
  try dsimp only
  repeat' first
    | exact (rfl : (_ : Bool) = _)
    | with_reducible exact Only.refl
    | with_reducible refine OnlyOut.next ?_
    | with_reducible refine OnlyOut.ite ?_ ?_
    | with_reducible refine Only.ite ?_ ?_
    | with_reducible apply Only.step (only_State_faultFan ..)
    | with_reducible apply Only.step (only_State_pwmRun ..)
    | with_reducible apply Only.step (only_State_setBit ..)
    | split
    | refine Only.ite ?_ ?_
    | refine OnlyOut.ite ?_ ?_

theorem only_execFanStall (drive : FanRun) (s : State) : OnlyOut [.regs, .evr, .cal, .fans] s (execFanStall drive s) := by
  unfold execFanStall
  try dsimp only
  repeat' first
    | exact (rfl : (_ : Bool) = _)
    | with_reducible exact Only.refl
    | with_reducible refine OnlyOut.next ?_
    | with_reducible refine OnlyOut.ite ?_ ?_
    | with_reducible refine Only.ite ?_ ?_
    | with_reducible apply Only.step (only_State_fanListen ..)
    | with_reducible apply Only.step (only_State_pwmRun ..)
    | with_reducible apply Only.step (only_State_setBit ..)
    | with_reducible apply Only.step (only_State_showFans ..)
    | split
    | refine Only.ite ?_ ?_
    | refine OnlyOut.ite ?_ ?_

theorem only_execFanClassChange (drive : FanRun) (rpm ke : Nat) (s : State) : OnlyOut [.regs, .cal, .fans] s (execFanClassChange drive rpm ke s) := by
  unfold execFanClassChange
  try dsimp only
  repeat' first
    | exact (rfl : (_ : Bool) = _)
    | with_reducible exact Only.refl
    | with_reducible refine OnlyOut.next ?_
    | with_reducible refine OnlyOut.ite ?_ ?_
    | with_reducible refine Only.ite ?_ ?_
    | with_reducible apply Only.step (only_State_pwmRun ..)
    | with_reducible apply Only.step (only_State_refineFan ..)
    | with_reducible apply Only.step (only_State_setFanState ..)
    | with_reducible apply Only.step (only_State_showRotor ..)
    | split
    | dsimp only
    | refine Only.ite ?_ ?_
    | refine OnlyOut.ite ?_ ?_

theorem only_execFanPinLoss (n : FanId) (s : State) : OnlyOut [.regs, .evr, .cal, .fans] s (execFanPinLoss n s) := by
  unfold execFanPinLoss
  try dsimp only
  repeat' first
    | exact (rfl : (_ : Bool) = _)
    | with_reducible exact Only.refl
    | with_reducible refine OnlyOut.next ?_
    | with_reducible refine OnlyOut.ite ?_ ?_
    | with_reducible refine Only.ite ?_ ?_
    | with_reducible apply Only.step (only_State_emit ..)
    | with_reducible apply Only.step (only_State_setBit ..)
    | with_reducible apply Only.step (only_State_showPinLoss ..)
    | with_reducible apply Only.step (only_State_updateFans ..)
    | split
    | refine Only.ite ?_ ?_
    | refine OnlyOut.ite ?_ ?_

theorem only_execFanPinValid (n : FanId) (duty : Nat) (s : State) : OnlyOut [.regs, .evr, .cal, .fans] s (execFanPinValid n duty s) := by
  unfold execFanPinValid
  try dsimp only
  repeat' first
    | exact (rfl : (_ : Bool) = _)
    | with_reducible exact Only.refl
    | with_reducible refine OnlyOut.next ?_
    | with_reducible apply Only.step (only_State_setBit ..)
    | with_reducible apply Only.step (only_State_setFld ..)
    | with_reducible apply Only.step (only_State_showPinLoss ..)
    | with_reducible apply Only.step (only_State_updateFans ..)

theorem only_State_fanIgnored (s : State) (n : FanId) (cmd : Nat) : Only [.evr] s (State.fanIgnored s n cmd) := by
  unfold State.fanIgnored
  try dsimp only
  repeat' first
    | exact (rfl : (_ : Bool) = _)
    | with_reducible exact Only.refl
    | with_reducible apply Only.step (only_State_emit ..)
    | dsimp only

theorem only_execFanClearFault (n : FanId) (s : State) : OnlyOut [.freeIx, .regs, .evr, .cal, .fans] s (execFanClearFault n s) := by
  unfold execFanClearFault
  try dsimp only
  repeat' first
    | exact (rfl : (_ : Bool) = _)
    | with_reducible exact Only.refl
    | with_reducible refine OnlyOut.next ?_
    | with_reducible refine OnlyOut.ite ?_ ?_
    | with_reducible refine OnlyOut.command ⟨rfl, rfl, rfl⟩ Only.refl ?_
    | with_reducible refine Only.ite ?_ ?_
    | with_reducible apply Only.step (only_State_fanIgnored ..)
    | with_reducible apply Only.step (only_State_setFanState ..)
    | with_reducible apply Only.step (only_State_setFld ..)
    | with_reducible apply Only.step (only_State_updateFans ..)
    | split
    | refine Only.ite ?_ ?_
    | refine OnlyOut.ite ?_ ?_

theorem only_execFanRestart (n : FanId) (s : State) : OnlyOut [.freeIx, .regs, .evr, .cal, .fans] s (execFanRestart n s) := by
  unfold execFanRestart
  try dsimp only
  repeat' first
    | exact (rfl : (_ : Bool) = _)
    | with_reducible exact Only.refl
    | with_reducible refine OnlyOut.next ?_
    | with_reducible refine OnlyOut.ite ?_ ?_
    | with_reducible refine OnlyOut.command ⟨rfl, rfl, rfl⟩ Only.refl ?_
    | with_reducible refine Only.ite ?_ ?_
    | with_reducible apply Only.step (only_State_fanIgnored ..)
    | with_reducible apply Only.step (only_State_fanListen ..)
    | with_reducible apply Only.step (only_State_showFans ..)
    | split
    | refine Only.ite ?_ ?_
    | refine OnlyOut.ite ?_ ?_

theorem only_execFanRelearn (n : FanId) (s : State) : OnlyOut [.freeIx, .regs, .evr, .fans] s (execFanRelearn n s) := by
  unfold execFanRelearn
  try dsimp only
  repeat' first
    | exact (rfl : (_ : Bool) = _)
    | exact Or.inl (by decide)
    | with_reducible exact Or.inr rfl
    | with_reducible exact Only.refl
    | with_reducible refine OnlyOut.next ?_
    | with_reducible refine OnlyOut.ite ?_ ?_
    | with_reducible refine OnlyOut.command ⟨rfl, rfl, rfl⟩ Only.refl ?_
    | with_reducible refine Only.ite ?_ ?_
    | with_reducible apply Only.step (only_State_fanIgnored ..)
    | with_reducible apply Only.step (only_State_putFan ..)
    | (dsimp only [Only.mk_form]; with_reducible apply OnlyMk.intro (h0 := .inr rfl))
    | split
    | refine Only.ite ?_ ?_
    | refine OnlyOut.ite ?_ ?_

theorem only_State_saveCounters (s : State) : Only [.age] s (State.saveCounters s) := by
  unfold State.saveCounters
  try dsimp only
  repeat' first
    | exact (rfl : (_ : Bool) = _)
    | exact Or.inl (by decide)
    | with_reducible exact Or.inr rfl
    | with_reducible exact Only.refl
    | with_reducible assumption
    | with_reducible refine Only.foldl (fun _ _ _ => ?_) ?_
    | (dsimp only [Only.mk_form]; with_reducible apply OnlyMk.intro (h0 := .inr rfl))

theorem only_State_loadCounters (s : State) : Only [.regs] s (State.loadCounters s) := by
  unfold State.loadCounters
  try dsimp only
  repeat' first
    | exact (rfl : (_ : Bool) = _)
    | with_reducible exact Only.refl
    | with_reducible assumption
    | with_reducible apply Only.step (only_State_setFld ..)
    | with_reducible refine Only.foldl (fun _ _ _ => ?_) ?_

theorem only_execAgingWriteback (s : State) : OnlyOut [.age] s (execAgingWriteback s) := by
  unfold execAgingWriteback
  try dsimp only
  repeat' first
    | exact (rfl : (_ : Bool) = _)
    | with_reducible exact Only.refl
    | with_reducible refine OnlyOut.next ?_
    | with_reducible apply Only.step (only_State_saveCounters ..)

theorem only_execAgeAccumulate (s : State) : OnlyOut [.regs, .evr, .age] s (execAgeAccumulate s) := by
  unfold execAgeAccumulate
  try dsimp only
  repeat' first
    | exact (rfl : (_ : Bool) = _)
    | exact Or.inl (by decide)
    | with_reducible exact Or.inr rfl
    | with_reducible exact Only.refl
    | with_reducible refine OnlyOut.next ?_
    | with_reducible refine OnlyOut.ite ?_ ?_
    | with_reducible refine Only.ite ?_ ?_
    | with_reducible apply Only.step (only_State_emit ..)
    | with_reducible apply Only.step (only_State_incFld ..)
    | with_reducible apply Only.step (only_State_satFld ..)
    | with_reducible apply Only.step (only_State_setBit ..)
    | with_reducible apply Only.step (only_State_setFld ..)
    | (dsimp only [Only.mk_form]; with_reducible apply OnlyMk.intro (h0 := .inr rfl))
    | split
    | refine Only.ite ?_ ?_
    | refine OnlyOut.ite ?_ ?_

theorem only_State_avsSteps (s : State) (slow : Nat) : Only [.regs] s (State.avsSteps s slow) := by
  unfold State.avsSteps
  try dsimp only
  repeat' first
    | exact (rfl : (_ : Bool) = _)
    | with_reducible exact Only.refl
    | with_reducible refine Only.ite ?_ ?_
    | with_reducible apply Only.step (only_State_setFld ..)
    | with_reducible apply Only.step (only_State_showClock ..)
    | split
    | refine Only.ite ?_ ?_

theorem only_execRoMeasure (slowX100 : Nat) (s : State) : OnlyOut [.regs, .evr] s (execRoMeasure slowX100 s) := by
  unfold execRoMeasure
  try dsimp only
  repeat' first
    | exact (rfl : (_ : Bool) = _)
    | with_reducible exact Only.refl
    | with_reducible refine OnlyOut.next ?_
    | with_reducible refine OnlyOut.ite ?_ ?_
    | with_reducible refine Only.ite ?_ ?_
    | with_reducible apply Only.step (only_State_avsSteps ..)
    | with_reducible apply Only.step (only_State_emit ..)
    | with_reducible apply Only.step (only_State_setBit ..)
    | with_reducible apply Only.step (only_State_setFld ..)
    | split
    | refine Only.ite ?_ ?_
    | refine OnlyOut.ite ?_ ?_

theorem only_execEmramRefresh (s : State) : OnlyOut [.age] s (execEmramRefresh s) := by
  unfold execEmramRefresh
  try dsimp only
  repeat' first
    | exact (rfl : (_ : Bool) = _)
    | exact Or.inl (by decide)
    | with_reducible exact Or.inr rfl
    | with_reducible exact Only.refl
    | with_reducible refine OnlyOut.next ?_
    | (dsimp only [Only.mk_form]; with_reducible apply OnlyMk.intro (h0 := .inr rfl))


/-! ### Machine/PwrOps.lean -/

theorem only_State_wcReset (s : State) : Only [.freeIx, .wc] s (State.wcReset s) := by
  unfold State.wcReset
  try dsimp only
  repeat' first
    | exact (rfl : (_ : Bool) = _)
    | exact Or.inl (by decide)
    | with_reducible exact Or.inr rfl
    | with_reducible exact Only.refl
    | with_reducible assumption
    | with_reducible apply Only.step (only_State_fretCut ..)
    | (dsimp only [Only.mk_form]; with_reducible apply OnlyMk.intro (h0 := .inr rfl))
    | split

theorem only_State_hfeReset (s : State) : Only [.hfe] s (State.hfeReset s) := by
  unfold State.hfeReset
  try dsimp only
  repeat' first
    | exact (rfl : (_ : Bool) = _)
    | exact Or.inl (by decide)
    | with_reducible exact Or.inr rfl
    | with_reducible exact Only.refl
    | (dsimp only [Only.mk_form]; with_reducible apply OnlyMk.intro (h0 := .inr rfl))
    | dsimp only

theorem only_State_portsReset (s : State) (regs : Tbl Nat) : Only [.regs, .ports] s (State.portsReset s regs) := by
  unfold State.portsReset
  try dsimp only
  repeat' first
    | exact (rfl : (_ : Bool) = _)
    | exact Or.inl (by decide)
    | with_reducible exact Or.inr rfl
    | with_reducible exact Only.refl
    | with_reducible assumption
    | with_reducible apply Only.step (only_State_setFld ..)
    | with_reducible apply Only.step (only_State_setPwren ..)
    | with_reducible refine Only.foldl (fun _ _ _ => ?_) ?_
    | with_reducible refine Only.foldlFst (fun _ _ _ => ?_) ?_
    | with_reducible refine Only.foldlSnd (fun _ _ _ => ?_) ?_
    | (dsimp only [Only.mk_form]; with_reducible apply OnlyMk.intro (h0 := .inr rfl))
    | dsimp only

theorem only_State_stageReset (s : State) : Only [.regs, .img] s (State.stageReset s) := by
  unfold State.stageReset
  try dsimp only
  repeat' first
    | exact (rfl : (_ : Bool) = _)
    | exact Or.inl (by decide)
    | with_reducible exact Or.inr rfl
    | with_reducible exact Only.refl
    | with_reducible apply Only.step (only_State_setBit ..)
    | with_reducible apply Only.step (only_State_setFld ..)
    | (dsimp only [Only.mk_form]; with_reducible apply OnlyMk.intro (h0 := .inr rfl))

theorem only_State_fastReset (s : State) : Only [.freeIx, .regs, .latches, .heldLo, .pwr, .err, .img, .map, .hfe, .lat, .wc, .rbe, .sc, .dma, .cip, .ports, .capo, .fed] s (State.fastReset s) := by
  unfold State.fastReset
  try dsimp only
  repeat' first
    | exact (rfl : (_ : Bool) = _)
    | exact Or.inl (by decide)
    | with_reducible exact Or.inr rfl
    | with_reducible exact Only.refl
    | with_reducible assumption
    | with_reducible refine Only.ite ?_ ?_
    | with_reducible apply Only.step (only_State_dropBarriers ..)
    | with_reducible apply Only.step (only_State_hfeReset ..)
    | with_reducible apply Only.step (only_State_leaveFed ..)
    | with_reducible apply Only.step (only_State_portsReset ..)
    | with_reducible apply Only.step (only_State_resetRegs ..)
    | with_reducible apply Only.step (only_State_setBit ..)
    | with_reducible apply Only.step (only_State_setFld ..)
    | with_reducible apply Only.step (only_State_showContexts ..)
    | with_reducible apply Only.step (only_State_stageReset ..)
    | with_reducible apply Only.step (only_State_wcReset ..)
    | with_reducible apply Only.step (only_State_written ..)
    | (dsimp only [Only.mk_form]; with_reducible apply OnlyMk.intro (h0 := .inr rfl))
    | split
    | dsimp only
    | refine Only.ite ?_ ?_

theorem only_State_sysReset (s : State) : Only [.freeIx, .regs, .latches, .heldLo, .pwr, .err, .img, .map, .hfe, .lat, .wc, .rbe, .sc, .dma, .cip, .ports, .capo, .fed] s (State.sysReset s) := by
  unfold State.sysReset
  try dsimp only
  repeat' first
    | exact (rfl : (_ : Bool) = _)
    | with_reducible exact Only.refl
    | with_reducible apply Only.step (only_State_fastReset ..)
    | with_reducible apply Only.step (only_State_setBit ..)

theorem only_State_startBoot (s : State) : Only [.regs, .pwr] s (State.startBoot s) := by
  unfold State.startBoot
  try dsimp only
  repeat' first
    | exact (rfl : (_ : Bool) = _)
    | exact Or.inl (by decide)
    | with_reducible exact Or.inr rfl
    | with_reducible exact Only.refl
    | with_reducible apply Only.step (only_State_setBit ..)
    | with_reducible apply Only.step (only_State_setFld ..)
    | (dsimp only [Only.mk_form]; with_reducible apply OnlyMk.intro (h0 := .inr rfl))

theorem only_State_reportDirty (s : State) : Only [.regs, .evr, .hfe, .capo] s (State.reportDirty s) := by
  unfold State.reportDirty
  try dsimp only
  repeat' first
    | exact (rfl : (_ : Bool) = _)
    | exact Or.inl (by decide)
    | with_reducible exact Or.inr rfl
    | with_reducible exact Only.refl
    | with_reducible assumption
    | with_reducible apply Only.step (only_State_deferError ..)
    | with_reducible refine Only.foldl (fun _ _ _ => ?_) ?_
    | (dsimp only [Only.mk_form]; with_reducible apply OnlyMk.intro (h0 := .inr rfl))
    | split

theorem only_State_online (s : State) : Only [.regs, .evr, .wc, .rbe] s (State.online s) := by
  unfold State.online
  try dsimp only
  repeat' first
    | exact (rfl : (_ : Bool) = _)
    | with_reducible exact Only.refl
    | with_reducible apply Only.step (only_State_noteLimit ..)
    | with_reducible apply Only.step (only_State_setBit ..)
    | with_reducible apply Only.step (only_State_startResync ..)

theorem only_State_noReplay (s : State) : Only [.regs, .evr, .hfe, .wc, .rbe, .capo] s (State.noReplay s) := by
  unfold State.noReplay
  try dsimp only
  repeat' first
    | exact (rfl : (_ : Bool) = _)
    | exact Or.inl (by decide)
    | with_reducible exact Or.inr rfl
    | with_reducible exact Only.refl
    | with_reducible refine Only.ite ?_ ?_
    | with_reducible apply Only.step (only_State_online ..)
    | with_reducible apply Only.step (only_State_reportDirty ..)
    | with_reducible apply Only.step (only_State_setBit ..)
    | with_reducible apply Only.step (only_State_setFld ..)
    | (dsimp only [Only.mk_form]; with_reducible apply OnlyMk.intro (h0 := .inr rfl))
    | split
    | dsimp only
    | refine Only.ite ?_ ?_

theorem only_State_startMetering (s : State) : Only [.lat] s (State.startMetering s) := by
  unfold State.startMetering
  try dsimp only
  repeat' first
    | exact (rfl : (_ : Bool) = _)
    | exact Or.inl (by decide)
    | with_reducible exact Or.inr rfl
    | with_reducible exact Only.refl
    | (dsimp only [Only.mk_form]; with_reducible apply OnlyMk.intro (h0 := .inr rfl))
    | dsimp only

theorem only_State_startCapo (s : State) : Only [.regs] s (State.startCapo s) := by
  unfold State.startCapo
  try dsimp only
  repeat' first
    | exact (rfl : (_ : Bool) = _)
    | with_reducible exact Only.refl
    | with_reducible refine Only.ite ?_ ?_
    | with_reducible apply Only.step (only_State_driveCapo ..)
    | with_reducible apply Only.step (only_State_setBit ..)
    | with_reducible apply Only.step (only_State_setRole ..)
    | split
    | refine Only.ite ?_ ?_

theorem only_State_startFed (s : State) : Only [.regs, .fed] s (State.startFed s) := by
  unfold State.startFed
  try dsimp only
  repeat' first
    | exact (rfl : (_ : Bool) = _)
    | with_reducible exact Only.refl
    | with_reducible assumption
    | with_reducible apply Only.step (only_State_setBit ..)
    | with_reducible apply Only.step (only_State_setFld ..)
    | with_reducible refine Only.foldl (fun _ _ _ => ?_) ?_

theorem only_State_keepNew (s : State) : Only [.img] s (State.keepNew s) := by
  unfold State.keepNew
  try dsimp only
  repeat' first
    | exact (rfl : (_ : Bool) = _)
    | exact Or.inl (by decide)
    | with_reducible exact Or.inr rfl
    | with_reducible exact Only.refl
    | (dsimp only [Only.mk_form]; with_reducible apply OnlyMk.intro (h0 := .inr rfl))

theorem only_State_handOver (s : State) : Only [.freeIx, .regs, .pwr, .evr, .img, .cal, .hfe, .lat, .wc, .rbe, .ports, .capo, .fed, .fans] s (State.handOver s) := by
  unfold State.handOver
  try dsimp only
  repeat' first
    | exact (rfl : (_ : Bool) = _)
    | exact Or.inl (by decide)
    | with_reducible exact Or.inr rfl
    | with_reducible exact Only.refl
    | with_reducible assumption
    | with_reducible refine Only.ite ?_ ?_
    | with_reducible apply Only.step (only_State_applyImage ..)
    | with_reducible apply Only.step (only_State_computeEnergy ..)
    | with_reducible apply Only.step (only_State_emit ..)
    | with_reducible apply Only.step (only_State_keepNew ..)
    | with_reducible apply Only.step (only_State_recomputeLimit ..)
    | with_reducible apply Only.step (only_State_setBit ..)
    | with_reducible apply Only.step (only_State_setFld ..)
    | with_reducible apply Only.step (only_State_showCal ..)
    | with_reducible apply Only.step (only_State_showClock ..)
    | with_reducible apply Only.step (only_State_showCopies ..)
    | with_reducible apply Only.step (only_State_showRewrite ..)
    | with_reducible apply Only.step (only_State_showRunning ..)
    | with_reducible apply Only.step (only_State_spinupStart ..)
    | with_reducible apply Only.step (only_State_startCapo ..)
    | with_reducible apply Only.step (only_State_startFed ..)
    | with_reducible apply Only.step (only_State_startKat ..)
    | with_reducible apply Only.step (only_State_startMetering ..)
    | with_reducible apply Only.step (only_State_updateFans ..)
    | (dsimp only [Only.mk_form]; with_reducible apply OnlyMk.intro (h0 := .inr rfl))
    | split
    | refine Only.ite ?_ ?_

theorem only_State_beginEntry (s : State) (target : Nat) : Only [.regs, .pwr, .wc, .age] s (State.beginEntry s target) := by
  unfold State.beginEntry
  try dsimp only
  repeat' first
    | exact (rfl : (_ : Bool) = _)
    | exact Or.inl (by decide)
    | with_reducible exact Or.inr rfl
    | with_reducible exact Only.refl
    | with_reducible apply Only.step (only_State_hold ..)
    | with_reducible apply Only.step (only_State_saveCounters ..)
    | with_reducible apply Only.step (only_State_setFld ..)
    | (dsimp only [Only.mk_form]; with_reducible apply OnlyMk.intro (h0 := .inr rfl))
    | dsimp only

theorem only_State_settle (s : State) (st : Nat) : Only [.regs, .pwr, .hfe] s (State.settle s st) := by
  unfold State.settle
  try dsimp only
  repeat' first
    | exact (rfl : (_ : Bool) = _)
    | exact Or.inl (by decide)
    | with_reducible exact Or.inr rfl
    | with_reducible exact Only.refl
    | with_reducible assumption
    | with_reducible refine Only.ite ?_ ?_
    | with_reducible apply Only.step (only_State_adminDone ..)
    | with_reducible apply Only.step (only_State_incFld ..)
    | with_reducible apply Only.step (only_State_setFld ..)
    | with_reducible apply Only.step (only_State_showClock ..)
    | with_reducible apply Only.step (only_State_unhold ..)
    | (dsimp only [Only.mk_form]; with_reducible apply OnlyMk.intro (h0 := .inr rfl))
    | split
    | refine Only.ite ?_ ?_

theorem only_State_wakeUp (s : State) : Only [.regs, .pwr] s (State.wakeUp s) := by
  unfold State.wakeUp
  try dsimp only
  repeat' first
    | exact (rfl : (_ : Bool) = _)
    | exact Or.inl (by decide)
    | with_reducible exact Or.inr rfl
    | with_reducible exact Only.refl
    | with_reducible assumption
    | with_reducible refine Only.ite ?_ ?_
    | with_reducible apply Only.step (only_State_setFld ..)
    | (dsimp only [Only.mk_form]; with_reducible apply OnlyMk.intro (h0 := .inr rfl))
    | split
    | refine Only.ite ?_ ?_

theorem only_State_startPower (s : State) (w : PsWait) : Only [.regs, .pwr, .hfe, .wc, .age] s (State.startPower s w) := by
  unfold State.startPower
  try dsimp only
  repeat' first
    | exact (rfl : (_ : Bool) = _)
    | exact Or.inl (by decide)
    | with_reducible exact Or.inr rfl
    | with_reducible exact Only.refl
    | with_reducible refine Only.ite ?_ ?_
    | with_reducible apply Only.step (only_State_adminDone ..)
    | with_reducible apply Only.step (only_State_beginEntry ..)
    | with_reducible apply Only.step (only_State_settle ..)
    | with_reducible apply Only.step (only_State_wakeUp ..)
    | (dsimp only [Only.mk_form]; with_reducible apply OnlyMk.intro (h0 := .inr rfl))
    | split
    | refine Only.ite ?_ ?_

theorem only_State_startWaits (s : State) (y0 : List PsWait) : Only [.regs, .pwr, .hfe, .wc, .age] s (State.startWaits s y0) := by
  fun_induction State.startWaits s y0
  all_goals try dsimp only
  all_goals repeat' first
    | exact (rfl : (_ : Bool) = _)
    | exact Or.inl (by decide)
    | with_reducible exact Or.inr rfl
    | with_reducible exact Only.refl
    | with_reducible assumption
    | with_reducible refine Only.ite ?_ ?_
    | with_reducible apply Only.step (only_State_startPower ..)
    | (dsimp only [Only.mk_form]; with_reducible apply OnlyMk.intro (h0 := .inr rfl))
    | split
    | refine Only.ite ?_ ?_
    | refine Only.step (by with_reducible assumption) (by decide) ?_

theorem only_State_runWaits (s : State) : Only [.regs, .pwr, .hfe, .wc, .age] s (State.runWaits s) := by
  unfold State.runWaits
  try dsimp only
  repeat' first
    | exact (rfl : (_ : Bool) = _)
    | exact Or.inl (by decide)
    | with_reducible exact Or.inr rfl
    | with_reducible exact Only.refl
    | with_reducible apply Only.step (only_State_startWaits ..)
    | (dsimp only [Only.mk_form]; with_reducible apply OnlyMk.intro (h0 := .inr rfl))

theorem only_State_settleNext (s : State) (st : Nat) : Only [.regs, .pwr, .hfe, .wc, .age] s (State.settleNext s st) := by
  unfold State.settleNext
  try dsimp only
  repeat' first
    | exact (rfl : (_ : Bool) = _)
    | with_reducible exact Only.refl
    | with_reducible apply Only.step (only_State_runWaits ..)
    | with_reducible apply Only.step (only_State_settle ..)

theorem only_State_gateFast (s : State) : Only [.regs, .pwr, .img, .map, .lat, .wc, .rbe, .sc, .dma, .ports] s (State.gateFast s) := by
  unfold State.gateFast
  try dsimp only
  repeat' first
    | exact (rfl : (_ : Bool) = _)
    | exact Or.inl (by decide)
    | with_reducible exact Or.inr rfl
    | with_reducible exact Only.refl
    | with_reducible refine Only.ite ?_ ?_
    | with_reducible apply Only.step (only_State_portsSilence ..)
    | with_reducible apply Only.step (only_State_stageReset ..)
    | with_reducible apply Only.step (only_State_written ..)
    | (dsimp only [Only.mk_form]; with_reducible apply OnlyMk.intro (h0 := .inr rfl))
    | split
    | dsimp only
    | refine Only.ite ?_ ?_

theorem only_State_restart (s : State) : Only [.regs, .latches, .heldLo, .pwr, .evr, .hfe, .lat, .wc, .rbe, .ports] s (State.restart s) := by
  unfold State.restart
  try dsimp only
  repeat' first
    | exact (rfl : (_ : Bool) = _)
    | exact Or.inl (by decide)
    | with_reducible exact Or.inr rfl
    | with_reducible exact Only.refl
    | with_reducible assumption
    | with_reducible refine Only.ite ?_ ?_
    | with_reducible apply Only.step (only_State_portsReset ..)
    | with_reducible apply Only.step (only_State_recomputeLimit ..)
    | with_reducible apply Only.step (only_State_resetRegs ..)
    | with_reducible apply Only.step (only_State_setBit ..)
    | with_reducible apply Only.step (only_State_spinupPort ..)
    | with_reducible apply Only.step (only_State_startKat ..)
    | with_reducible apply Only.step (only_State_startMetering ..)
    | with_reducible refine Only.foldl (fun _ _ _ => ?_) ?_
    | (dsimp only [Only.mk_form]; with_reducible apply OnlyMk.intro (h0 := .inr rfl))
    | split
    | refine Only.ite ?_ ?_

theorem only_State_wakeTo (s : State) (st : Nat) : Only [.regs, .latches, .heldLo, .pwr, .evr, .hfe, .lat, .wc, .rbe, .ports, .capo, .age] s (State.wakeTo s st) := by
  unfold State.wakeTo
  try dsimp only
  repeat' first
    | exact (rfl : (_ : Bool) = _)
    | exact Or.inl (by decide)
    | with_reducible exact Or.inr rfl
    | with_reducible exact Only.refl
    | with_reducible apply Only.step (only_State_restart ..)
    | with_reducible apply Only.step (only_State_settleNext ..)
    | (dsimp only [Only.mk_form]; with_reducible apply OnlyMk.intro (h0 := .inr rfl))

theorem only_State_abandonTransition (s : State) : Only [.regs, .latches, .heldLo, .pwr, .evr, .hfe, .lat, .wc, .rbe, .ports] s (State.abandonTransition s) := by
  unfold State.abandonTransition
  try dsimp only
  repeat' first
    | exact (rfl : (_ : Bool) = _)
    | exact Or.inl (by decide)
    | with_reducible exact Or.inr rfl
    | with_reducible exact Only.refl
    | with_reducible refine Only.ite ?_ ?_
    | with_reducible apply Only.step (only_State_restart ..)
    | with_reducible apply Only.step (only_State_settle ..)
    | (dsimp only [Only.mk_form]; with_reducible apply OnlyMk.intro (h0 := .inr rfl))
    | split
    | refine Only.ite ?_ ?_

theorem only_State_fatalEnd (s : State) : Only [.freeIx, .regs, .latches, .heldLo, .pwr, .evr, .err, .img, .map, .hfe, .lat, .wc, .rbe, .sc, .dma, .cip, .ports, .capo, .fed] s (State.fatalEnd s) := by
  unfold State.fatalEnd
  try dsimp only
  repeat' first
    | exact (rfl : (_ : Bool) = _)
    | exact Or.inl (by decide)
    | with_reducible exact Or.inr rfl
    | with_reducible exact Only.refl
    | with_reducible refine Only.ite ?_ ?_
    | with_reducible apply Only.step (only_State_copyFlash ..)
    | with_reducible apply Only.step (only_State_copyVault ..)
    | with_reducible apply Only.step (only_State_fastReset ..)
    | with_reducible apply Only.step (only_State_setBit ..)
    | (dsimp only [Only.mk_form]; with_reducible apply OnlyMk.intro (h0 := .inr rfl))
    | split
    | refine Only.ite ?_ ?_

theorem only_State_thermGate (s : State) : Only [.freeIx, .regs, .latches, .heldLo, .pwr, .evr, .err, .img, .map, .hfe, .lat, .wc, .rbe, .sc, .dma, .cip, .ports, .capo, .fed, .therm] s (State.thermGate s) := by
  unfold State.thermGate
  try dsimp only
  repeat' first
    | exact (rfl : (_ : Bool) = _)
    | exact Or.inl (by decide)
    | with_reducible exact Or.inr rfl
    | with_reducible exact Only.refl
    | with_reducible apply Only.step (only_State_fastReset ..)
    | with_reducible apply Only.step (only_State_setBit ..)
    | with_reducible apply Only.step (only_State_writeSoundpost ..)
    | (dsimp only [Only.mk_form]; with_reducible apply OnlyMk.intro (h0 := .inr rfl))

theorem only_State_resumeMains (s : State) : Only [.regs, .pwr] s (State.resumeMains s) := by
  unfold State.resumeMains
  try dsimp only
  repeat' first
    | exact (rfl : (_ : Bool) = _)
    | with_reducible exact Only.refl
    | with_reducible apply Only.step (only_State_setHoldup ..)
    | with_reducible apply Only.step (only_State_unhold ..)

theorem only_State_afterDump (s : State) (why : DumpReason) (area : Option Nat) : Only [.freeIx, .regs, .latches, .heldLo, .pwr, .evr, .err, .img, .map, .hfe, .lat, .wc, .vault, .rbe, .sc, .dma, .cip, .ports, .capo, .fed, .therm] s (State.afterDump s why area) := by
  unfold State.afterDump
  try dsimp only
  repeat' first
    | exact (rfl : (_ : Bool) = _)
    | exact Or.inl (by decide)
    | with_reducible exact Or.inr rfl
    | with_reducible exact Only.refl
    | with_reducible assumption
    | with_reducible refine Only.ite ?_ ?_
    | with_reducible apply Only.step (only_State_fatalEnd ..)
    | with_reducible apply Only.step (only_State_recomputeLimit ..)
    | with_reducible apply Only.step (only_State_resumeMains ..)
    | with_reducible apply Only.step (only_State_setBit ..)
    | with_reducible apply Only.step (only_State_sysReset ..)
    | with_reducible apply Only.step (only_State_thermGate ..)
    | (dsimp only [Only.mk_form]; with_reducible apply OnlyMk.intro (h0 := .inr rfl))
    | split
    | refine Only.ite ?_ ?_

theorem only_State_dumpFor (s : State) (why : DumpReason) : Only [.freeIx, .regs, .latches, .heldLo, .pwr, .evr, .err, .img, .map, .hfe, .lat, .wc, .vault, .rbe, .sc, .dma, .cip, .ports, .capo, .fed, .therm] s (State.dumpFor s why) := by
  unfold State.dumpFor
  try dsimp only
  repeat' first
    | exact (rfl : (_ : Bool) = _)
    | with_reducible exact Only.refl
    | with_reducible refine Only.ite ?_ ?_
    | with_reducible apply Only.step (only_State_afterDump ..)
    | with_reducible apply Only.step (only_State_scStopRange ..)
    | with_reducible apply Only.step (only_State_startDump ..)
    | split
    | refine Only.ite ?_ ?_

theorem only_State_abandonDump (s : State) : Only [.freeIx, .regs, .wc, .vault] s (State.abandonDump s) := by
  unfold State.abandonDump
  try dsimp only
  repeat' first
    | exact (rfl : (_ : Bool) = _)
    | exact Or.inl (by decide)
    | with_reducible exact Or.inr rfl
    | with_reducible exact Only.refl
    | with_reducible assumption
    | with_reducible apply Only.step (only_State_dumpCut ..)
    | with_reducible apply Only.step (only_State_used ..)
    | (dsimp only [Only.mk_form]; with_reducible apply OnlyMk.intro (h0 := .inr rfl))
    | split

theorem only_State_pegboxDown (s : State) : Only [.freeIx, .regs, .latches, .heldLo, .pwr, .evr, .err, .img, .map, .hfe, .lat, .wc, .vault, .rbe, .sc, .dma, .cip, .ports, .capo, .fed, .nrg, .therm, .fans] s (State.pegboxDown s) := by
  unfold State.pegboxDown
  try dsimp only
  repeat' first
    | exact (rfl : (_ : Bool) = _)
    | exact Or.inl (by decide)
    | with_reducible exact Or.inr rfl
    | with_reducible exact Only.refl
    | with_reducible apply Only.step (only_State_abandonDump ..)
    | with_reducible apply Only.step (only_State_fastReset ..)
    | with_reducible apply Only.step (only_State_setBit ..)
    | with_reducible apply Only.step (only_State_setHoldup ..)
    | (dsimp only [Only.mk_form]; with_reducible apply OnlyMk.intro (h0 := .inr rfl))
    | dsimp only

theorem only_State_pegboxRegs (s : State) : Only [.regs, .latches, .heldLo] s (State.pegboxRegs s) := by
  unfold State.pegboxRegs
  try dsimp only
  repeat' first
    | exact (rfl : (_ : Bool) = _)
    | with_reducible exact Only.refl
    | with_reducible refine Only.ite ?_ ?_
    | with_reducible apply Only.step (only_State_resetRegs ..)
    | with_reducible apply Only.step (only_State_setBit ..)
    | with_reducible apply Only.step (only_State_setFld ..)
    | split
    | refine Only.ite ?_ ?_

theorem only_State_vaultStart (s : State) (found : VaultFound) (rate area targets block : Nat) : Only [.regs, .evr, .vault] s (State.vaultStart s found rate area targets block) := by
  unfold State.vaultStart
  try dsimp only
  repeat' first
    | exact (rfl : (_ : Bool) = _)
    | exact Or.inl (by decide)
    | with_reducible exact Or.inr rfl
    | with_reducible exact Only.refl
    | with_reducible assumption
    | with_reducible refine Only.ite ?_ ?_
    | with_reducible apply Only.step (only_State_emit ..)
    | with_reducible apply Only.step (only_State_setBit ..)
    | with_reducible apply Only.step (only_State_setFld ..)
    | with_reducible refine Only.foldl (fun _ _ _ => ?_) ?_
    | (dsimp only [Only.mk_form]; with_reducible apply OnlyMk.intro (h0 := .inr rfl))
    | split
    | refine Only.ite ?_ ?_

theorem only_State_packStart (s : State) (p : PackId) (v : PackSample) : Only [.regs, .evr, .hfe, .wc, .nrg] s (State.packStart s p v) := by
  unfold State.packStart
  try dsimp only
  repeat' first
    | exact (rfl : (_ : Bool) = _)
    | exact Or.inl (by decide)
    | with_reducible exact Or.inr rfl
    | with_reducible exact Only.refl
    | with_reducible refine Only.ite ?_ ?_
    | with_reducible apply Only.step (only_State_putPack ..)
    | with_reducible apply Only.step (only_State_setBit ..)
    | with_reducible apply Only.step (only_State_socStart ..)
    | with_reducible apply Only.step (only_State_takeSample ..)
    | (dsimp only [Only.mk_form]; with_reducible apply OnlyMk.intro (h0 := .inr rfl))
    | split
    | refine Only.ite ?_ ?_

theorem only_State_calFallbacks (s : State) : Only [.evr, .fans] s (State.calFallbacks s) := by
  unfold State.calFallbacks
  try dsimp only
  repeat' first
    | exact (rfl : (_ : Bool) = _)
    | with_reducible exact Only.refl
    | with_reducible assumption
    | with_reducible apply Only.step (only_State_emit ..)
    | with_reducible refine Only.foldl (fun _ _ _ => ?_) ?_
    | split


/-! ### Machine/Mapper.lean -/

theorem only_State_putLane (s : State) (lane : Nat) (q : MapReq) (g : Geom) : Only [.map] s (State.putLane s lane q g) := by
  unfold State.putLane
  try dsimp only
  repeat' first
    | exact (rfl : (_ : Bool) = _)
    | exact Or.inl (by decide)
    | with_reducible exact Or.inr rfl
    | with_reducible exact Only.refl
    | (dsimp only [Only.mk_form]; with_reducible apply OnlyMk.intro (h0 := .inr rfl))

theorem only_State_lanesCount (s : State) : Only [.regs] s (State.lanesCount s) := by
  unfold State.lanesCount
  try dsimp only
  repeat' first
    | exact (rfl : (_ : Bool) = _)
    | with_reducible exact Only.refl
    | with_reducible apply Only.step (only_State_setFld ..)

theorem only_State_testEnd (s : State) (fault steps : Nat) : Only [.regs] s (State.testEnd s fault steps) := by
  unfold State.testEnd
  try dsimp only
  repeat' first
    | exact (rfl : (_ : Bool) = _)
    | with_reducible exact Only.refl
    | with_reducible apply Only.step (only_State_setBit ..)
    | with_reducible apply Only.step (only_State_setFld ..)

theorem only_State_pauseOp (s : State) (a : ArrayId) (reason : Nat) : Only [.rbe] s (State.pauseOp s a reason) := by
  unfold State.pauseOp
  try dsimp only
  repeat' first
    | exact (rfl : (_ : Bool) = _)
    | exact Or.inl (by decide)
    | with_reducible exact Or.inr rfl
    | with_reducible exact Only.refl
    | with_reducible assumption
    | with_reducible refine Only.ite ?_ ?_
    | with_reducible apply Only.step (only_State_putArr ..)
    | (dsimp only [Only.mk_form]; with_reducible apply OnlyMk.intro (h0 := .inr rfl))
    | split
    | dsimp only
    | refine Only.ite ?_ ?_

theorem only_State_latchFault (s : State) (lane : Nat) (q : MapReq) (f : MapFault) (pc : Nat) : Only [.regs] s (State.latchFault s lane q f pc) := by
  unfold State.latchFault
  try dsimp only
  repeat' first
    | exact (rfl : (_ : Bool) = _)
    | with_reducible exact Only.refl
    | with_reducible apply Only.step (only_State_incFld ..)
    | with_reducible apply Only.step (only_State_setBit ..)
    | with_reducible apply Only.step (only_State_setFld ..)

theorem only_State_mapFault (s : State) (lane : Nat) (q : MapReq) (f : MapFault) (pc steps : Nat) : Only [.regs, .evr, .hfe, .rbe] s (State.mapFault s lane q f pc steps) := by
  unfold State.mapFault
  try dsimp only
  repeat' first
    | exact (rfl : (_ : Bool) = _)
    | exact Or.inl (by decide)
    | with_reducible exact Or.inr rfl
    | with_reducible exact Only.refl
    | with_reducible assumption
    | with_reducible refine Only.ite ?_ ?_
    | with_reducible apply Only.step (only_State_collect ..)
    | with_reducible apply Only.step (only_State_emit ..)
    | with_reducible apply Only.step (only_State_latchFault ..)
    | with_reducible apply Only.step (only_State_pauseOp ..)
    | with_reducible apply Only.step (only_State_testEnd ..)
    | (dsimp only [Only.mk_form]; with_reducible apply OnlyMk.intro (h0 := .inr rfl))
    | split
    | refine Only.ite ?_ ?_

theorem only_State_refill (s : State) (lane : Nat) : Only [.regs, .evr, .map, .hfe, .rbe] s (State.refill s lane) := by
  unfold State.refill
  try dsimp only
  repeat' first
    | exact (rfl : (_ : Bool) = _)
    | exact Or.inl (by decide)
    | with_reducible exact Or.inr rfl
    | with_reducible exact Only.refl
    | with_reducible assumption
    | with_reducible apply Only.step (only_State_lanesCount ..)
    | with_reducible apply Only.step (only_State_mapFault ..)
    | with_reducible apply Only.step (only_State_putLane ..)
    | (dsimp only [Only.mk_form]; with_reducible apply OnlyMk.intro (h0 := .inr rfl))
    | split

theorem only_State_dispatch (s : State) (q : MapReq) : Only [.regs, .evr, .map, .hfe, .rbe] s (State.dispatch s q) := by
  unfold State.dispatch
  try dsimp only
  repeat' first
    | exact (rfl : (_ : Bool) = _)
    | exact Or.inl (by decide)
    | with_reducible exact Or.inr rfl
    | with_reducible exact Only.refl
    | with_reducible assumption
    | with_reducible refine Only.ite ?_ ?_
    | with_reducible apply Only.step (only_State_incFld ..)
    | with_reducible apply Only.step (only_State_lanesCount ..)
    | with_reducible apply Only.step (only_State_mapFault ..)
    | with_reducible apply Only.step (only_State_putLane ..)
    | (dsimp only [Only.mk_form]; with_reducible apply OnlyMk.intro (h0 := .inr rfl))
    | split
    | dsimp only
    | refine Only.ite ?_ ?_

theorem only_execMappingDispatch (req : MapReq) (s : State) : OnlyOut [.regs, .evr, .map, .hfe, .rbe] s (execMappingDispatch req s) := by
  unfold execMappingDispatch
  try dsimp only
  repeat' first
    | exact (rfl : (_ : Bool) = _)
    | with_reducible exact Only.refl
    | with_reducible refine OnlyOut.next ?_
    | with_reducible apply Only.step (only_State_dispatch ..)

theorem only_State_laneEnd (s : State) (lane : Nat) (limit : Bool) : Only [.regs, .evr, .map, .hfe, .rbe] s (State.laneEnd s lane limit) := by
  unfold State.laneEnd
  try dsimp only
  repeat' first
    | exact (rfl : (_ : Bool) = _)
    | exact Or.inl (by decide)
    | with_reducible exact Or.inr rfl
    | with_reducible exact Only.refl
    | with_reducible assumption
    | with_reducible refine Only.ite ?_ ?_
    | with_reducible apply Only.step (only_State_mapFault ..)
    | with_reducible apply Only.step (only_State_refill ..)
    | with_reducible apply Only.step (only_State_setFld ..)
    | with_reducible apply Only.step (only_State_testEnd ..)
    | (dsimp only [Only.mk_form]; with_reducible apply OnlyMk.intro (h0 := .inr rfl))
    | split
    | dsimp only
    | refine Only.ite ?_ ?_

theorem only_execMappingEmit (lane : Fin 64) (s : State) : OnlyOut [.regs, .evr, .map, .hfe, .rbe] s (execMappingEmit lane s) := by
  unfold execMappingEmit
  try dsimp only
  repeat' first
    | exact (rfl : (_ : Bool) = _)
    | with_reducible exact Only.refl
    | with_reducible refine OnlyOut.next ?_
    | with_reducible apply Only.step (only_State_laneEnd ..)

theorem only_execMappingStepLimit (lane : Fin 64) (s : State) : OnlyOut [.regs, .evr, .map, .hfe, .rbe] s (execMappingStepLimit lane s) := by
  unfold execMappingStepLimit
  try dsimp only
  repeat' first
    | exact (rfl : (_ : Bool) = _)
    | with_reducible exact Only.refl
    | with_reducible refine OnlyOut.next ?_
    | with_reducible apply Only.step (only_State_laneEnd ..)

theorem only_execTestMappingGo (s : State) : OnlyOut [.freeIx, .regs, .evr, .map, .hfe, .rbe] s (execTestMappingGo s) := by
  unfold execTestMappingGo
  try dsimp only
  repeat' first
    | exact (rfl : (_ : Bool) = _)
    | with_reducible exact Only.refl
    | with_reducible refine OnlyOut.next ?_
    | with_reducible refine OnlyOut.ite ?_ ?_
    | with_reducible refine OnlyOut.command ⟨rfl, rfl, rfl⟩ Only.refl ?_
    | with_reducible refine Only.ite ?_ ?_
    | with_reducible apply Only.step (only_State_dispatch ..)
    | with_reducible apply Only.step (only_State_setBit ..)
    | split
    | dsimp only
    | refine Only.ite ?_ ?_
    | refine OnlyOut.ite ?_ ?_


/-! ### Machine/RebOps.lean -/

theorem only_State_bgFault (s : State) (a : ArrayId) (r : Arr) (o : ArrOp) (t : Nat) : Only [.regs, .evr, .rbe] s (State.bgFault s a r o t) := by
  unfold State.bgFault
  try dsimp only
  repeat' first
    | exact (rfl : (_ : Bool) = _)
    | exact Or.inl (by decide)
    | with_reducible exact Or.inr rfl
    | with_reducible exact Only.refl
    | with_reducible assumption
    | with_reducible apply Only.step (only_State_emit ..)
    | with_reducible apply Only.step (only_State_latchFault ..)
    | with_reducible apply Only.step (only_State_putArr ..)
    | (dsimp only [Only.mk_form]; with_reducible apply OnlyMk.intro (h0 := .inr rfl))
    | split
    | dsimp only

theorem only_State_endMain (s : State) (a : ArrayId) (r : Arr) : Only [.regs, .rbe, .ports] s (State.endMain s a r) := by
  unfold State.endMain
  try dsimp only
  repeat' first
    | exact (rfl : (_ : Bool) = _)
    | exact Or.inl (by decide)
    | with_reducible exact Or.inr rfl
    | with_reducible exact Only.refl
    | with_reducible assumption
    | with_reducible refine Only.ite ?_ ?_
    | with_reducible apply Only.step (only_State_putArr ..)
    | with_reducible apply Only.step (only_State_rewriteLabels ..)
    | with_reducible apply Only.step (only_State_thirdBack ..)
    | with_reducible refine Only.foldl (fun _ _ _ => ?_) ?_
    | with_reducible refine Only.foldlSnd (fun _ _ _ => ?_) ?_
    | (dsimp only [Only.mk_form]; with_reducible apply OnlyMk.intro (h0 := .inr rfl))
    | split
    | dsimp only
    | refine Only.ite ?_ ?_

theorem only_State_rebuildAt (s : State) (a : ArrayId) (r : Arr) (t : Nat) : Only [.regs, .evr, .hfe, .wc, .rbe, .ports, .capo] s (State.rebuildAt s a r t) := by
  unfold State.rebuildAt
  try dsimp only
  repeat' first
    | exact (rfl : (_ : Bool) = _)
    | with_reducible exact Only.refl
    | with_reducible assumption
    | with_reducible apply Only.step (only_State_rebuildStripeIn ..)
    | with_reducible refine Only.foldl (fun _ _ _ => ?_) ?_
    | with_reducible refine Only.foldlSnd (fun _ _ _ => ?_) ?_
    | dsimp only

theorem only_State_copyRead (s : State) (r : Arr) (g : Geom) (t u row : Nat) (p : Pos) (so : State) (ho : State.copyRead s r g t u row p = some so) : Only [.rbe] s so := by
  unfold State.copyRead at ho
  try dsimp only at ho
  repeat' first
    | contradiction
    | (have ho := Option.some.inj ho; subst ho)
    | split at ho
  all_goals repeat' first
    | exact (rfl : (_ : Bool) = _)
    | exact Or.inl (by decide)
    | with_reducible exact Or.inr rfl
    | with_reducible exact Only.refl
    | with_reducible assumption
    | with_reducible apply Only.step (only_State_writeSec ..)
    | (dsimp only [Only.mk_form]; with_reducible apply OnlyMk.intro (h0 := .inr rfl))
    | split

theorem only_State_copyFast (s : State) (r : Arr) (g : Geom) (t u row : Nat) (p : Pos) (reads : List SecRead) (so : State) (ho : State.copyFast s r g t u row p reads = some so) : Only [.rbe] s so := by
  unfold State.copyFast at ho
  try dsimp only at ho
  repeat' first
    | contradiction
    | (have ho := Option.some.inj ho; subst ho)
    | split at ho
  all_goals repeat' first
    | exact (rfl : (_ : Bool) = _)
    | with_reducible exact Only.refl
    | with_reducible refine Only.ite ?_ ?_
    | split
    | refine Only.ite ?_ ?_
    | refine Only.step (only_State_copyRead _ _ _ _ _ _ _ _ (by with_reducible assumption)) (by decide) ?_

theorem only_State_copyRow (s : State) (a : ArrayId) (g : Geom) (t u row : Nat) (p : Pos) : Only [.regs, .evr, .hfe, .wc, .rbe, .ports, .capo] s (State.copyRow s a g t u row p) := by
  unfold State.copyRow
  try dsimp only
  repeat' first
    | exact (rfl : (_ : Bool) = _)
    | exact Or.inl (by decide)
    | with_reducible exact Or.inr rfl
    | with_reducible exact Only.refl
    | with_reducible assumption
    | with_reducible apply Only.step (only_State_incFld ..)
    | with_reducible apply Only.step (only_State_loseCounted ..)
    | with_reducible apply Only.step (only_State_repairCounted ..)
    | with_reducible apply Only.step (only_State_writeSolved ..)
    | (dsimp only [Only.mk_form]; with_reducible apply OnlyMk.intro (h0 := .inr rfl))
    | split
    | refine Only.step (only_State_copyFast _ _ _ _ _ _ _ _ _ (by with_reducible assumption)) (by decide) ?_
    | refine Only.step (only_State_copyRead _ _ _ _ _ _ _ _ (by with_reducible assumption)) (by decide) ?_

theorem only_State_copyUnit (s : State) (a : ArrayId) (g : Geom) (t m : Nat) : Only [.regs, .evr, .hfe, .wc, .rbe, .ports, .capo] s (State.copyUnit s a g t m) := by
  unfold State.copyUnit
  try dsimp only
  repeat' first
    | exact (rfl : (_ : Bool) = _)
    | exact Or.inl (by decide)
    | with_reducible exact Or.inr rfl
    | with_reducible exact Only.refl
    | with_reducible assumption
    | with_reducible apply Only.step (only_State_copyRow ..)
    | with_reducible refine Only.foldl (fun _ _ _ => ?_) ?_
    | (dsimp only [Only.mk_form]; with_reducible apply OnlyMk.intro (h0 := .inr rfl))
    | split
    | dsimp only

theorem only_State_endCopy (s : State) (a : ArrayId) (r : Arr) (m : Nat) : Only [.regs, .rbe, .ports] s (State.endCopy s a r m) := by
  unfold State.endCopy
  try dsimp only
  repeat' first
    | exact (rfl : (_ : Bool) = _)
    | exact Or.inl (by decide)
    | with_reducible exact Or.inr rfl
    | with_reducible exact Only.refl
    | with_reducible refine Only.ite ?_ ?_
    | with_reducible apply Only.step (only_State_putArr ..)
    | with_reducible apply Only.step (only_State_rewriteLabels ..)
    | with_reducible apply Only.step (only_State_thirdBack ..)
    | (dsimp only [Only.mk_form]; with_reducible apply OnlyMk.intro (h0 := .inr rfl))
    | split
    | dsimp only
    | refine Only.ite ?_ ?_

theorem only_State_fixUnit (s : State) (a : ArrayId) (r : Arr) (g : Geom) (t row u : Nat) (us : List (Option USec)) : Only [.regs, .evr, .rbe] s (State.fixUnit s a r g t row u us) := by
  unfold State.fixUnit
  try dsimp only
  repeat' first
    | exact (rfl : (_ : Bool) = _)
    | exact Or.inl (by decide)
    | with_reducible exact Or.inr rfl
    | with_reducible exact Only.refl
    | with_reducible assumption
    | with_reducible apply Only.step (only_State_emit ..)
    | with_reducible apply Only.step (only_State_incFld ..)
    | with_reducible apply Only.step (only_State_writeSolved ..)
    | (dsimp only [Only.mk_form]; with_reducible apply OnlyMk.intro (h0 := .inr rfl))
    | split
    | dsimp only

theorem only_State_fixParity (s : State) (a : ArrayId) (r : Arr) (g : Geom) (t row : Nat) (us : List (Option USec)) : Only [.regs, .evr, .wc, .rbe, .capo] s (State.fixParity s a r g t row us) := by
  unfold State.fixParity
  try dsimp only
  repeat' first
    | exact (rfl : (_ : Bool) = _)
    | with_reducible exact Only.refl
    | with_reducible apply Only.step (only_State_emit ..)
    | with_reducible apply Only.step (only_State_fretMark ..)
    | with_reducible apply Only.step (only_State_incFld ..)
    | with_reducible apply Only.step (only_State_writeParity ..)
    | dsimp only

theorem only_State_scrubRow (s : State) (a : ArrayId) (r : Arr) (g : Geom) (t row : Nat) : Only [.regs, .evr, .hfe, .wc, .rbe, .ports, .capo] s (State.scrubRow s a r g t row) := by
  unfold State.scrubRow
  try dsimp only
  repeat' first
    | exact (rfl : (_ : Bool) = _)
    | exact Or.inl (by decide)
    | with_reducible exact Or.inr rfl
    | with_reducible exact Only.refl
    | with_reducible assumption
    | with_reducible refine Only.ite ?_ ?_
    | with_reducible apply Only.step (only_State_fixParity ..)
    | with_reducible apply Only.step (only_State_fixUnit ..)
    | with_reducible apply Only.step (only_State_incFld ..)
    | with_reducible apply Only.step (only_State_loseCounted ..)
    | with_reducible apply Only.step (only_State_rebuildRow ..)
    | with_reducible apply Only.step (only_State_resyncRow ..)
    | (dsimp only [Only.mk_form]; with_reducible apply OnlyMk.intro (h0 := .inr rfl))
    | split
    | refine Only.ite ?_ ?_

theorem only_State_scrubIn (s : State) (a : ArrayId) (g : Geom) (t : Nat) : Only [.regs, .evr, .hfe, .wc, .rbe, .ports, .capo] s (State.scrubIn s a g t) := by
  unfold State.scrubIn
  try dsimp only
  repeat' first
    | exact (rfl : (_ : Bool) = _)
    | exact Or.inl (by decide)
    | with_reducible exact Or.inr rfl
    | with_reducible exact Only.refl
    | with_reducible assumption
    | with_reducible apply Only.step (only_State_scrubRow ..)
    | with_reducible refine Only.foldl (fun _ _ _ => ?_) ?_
    | (dsimp only [Only.mk_form]; with_reducible apply OnlyMk.intro (h0 := .inr rfl))
    | split

theorem only_State_startScrub (s : State) (a : ArrayId) (r : Arr) : Only [.rbe] s (State.startScrub s a r) := by
  unfold State.startScrub
  try dsimp only
  repeat' first
    | exact (rfl : (_ : Bool) = _)
    | exact Or.inl (by decide)
    | with_reducible exact Or.inr rfl
    | with_reducible exact Only.refl
    | with_reducible apply Only.step (only_State_putArr ..)
    | (dsimp only [Only.mk_form]; with_reducible apply OnlyMk.intro (h0 := .inr rfl))
    | dsimp only

theorem only_State_endScrub (s : State) (a : ArrayId) (r : Arr) : Only [.regs, .rbe] s (State.endScrub s a r) := by
  unfold State.endScrub
  try dsimp only
  repeat' first
    | exact (rfl : (_ : Bool) = _)
    | exact Or.inl (by decide)
    | with_reducible exact Or.inr rfl
    | with_reducible exact Only.refl
    | with_reducible apply Only.step (only_State_putArr ..)
    | with_reducible apply Only.step (only_State_setFld ..)
    | (dsimp only [Only.mk_form]; with_reducible apply OnlyMk.intro (h0 := .inr rfl))
    | dsimp only

theorem only_State_writeNew (s : State) (r : Arr) (t : Nat) (src : Tbl CSec) : Only [.rbe] s (State.writeNew s r t src) := by
  unfold State.writeNew
  try dsimp only
  repeat' first
    | exact (rfl : (_ : Bool) = _)
    | with_reducible exact Only.refl
    | with_reducible assumption
    | with_reducible apply Only.step (only_State_writeData ..)
    | with_reducible apply Only.step (only_State_writeParity ..)
    | with_reducible refine Only.foldl (fun _ _ _ => ?_) ?_
    | with_reducible refine Only.foldlFst (fun _ _ _ => ?_) ?_
    | with_reducible refine Only.foldlSnd (fun _ _ _ => ?_) ?_
    | dsimp only

theorem only_State_listStepLost (s : State) (a : ArrayId) (g : Geom) (t : Nat) (lost : List Nat) : Only [.regs, .evr, .hfe, .rbe, .capo] s (State.listStepLost s a g t lost) := by
  unfold State.listStepLost
  try dsimp only
  repeat' first
    | exact (rfl : (_ : Bool) = _)
    | with_reducible exact Only.refl
    | with_reducible assumption
    | with_reducible refine Only.ite ?_ ?_
    | with_reducible apply Only.step (only_State_listLost ..)
    | with_reducible apply Only.step (only_State_mirror ..)
    | with_reducible apply Only.step (only_State_reportLost ..)
    | with_reducible refine Only.foldl (fun _ _ _ => ?_) ?_
    | split
    | dsimp only
    | refine Only.ite ?_ ?_

theorem only_State_checkpoint (s : State) (a : ArrayId) (r : Arr) : Only [.regs, .rbe, .capo] s (State.checkpoint s a r) := by
  unfold State.checkpoint
  try dsimp only
  repeat' first
    | exact (rfl : (_ : Bool) = _)
    | exact Or.inl (by decide)
    | with_reducible exact Or.inr rfl
    | with_reducible exact Only.refl
    | with_reducible apply Only.step (only_State_mirror ..)
    | with_reducible apply Only.step (only_State_putArr ..)
    | (dsimp only [Only.mk_form]; with_reducible apply OnlyMk.intro (h0 := .inr rfl))
    | dsimp only

theorem only_State_endReshape (s : State) (a : ArrayId) (r : Arr) : Only [.regs, .evr, .rbe, .ports, .capo] s (State.endReshape s a r) := by
  unfold State.endReshape
  try dsimp only
  repeat' first
    | exact (rfl : (_ : Bool) = _)
    | exact Or.inl (by decide)
    | with_reducible exact Or.inr rfl
    | with_reducible exact Only.refl
    | with_reducible apply Only.step (only_State_emit ..)
    | with_reducible apply Only.step (only_State_mirror ..)
    | with_reducible apply Only.step (only_State_putArr ..)
    | with_reducible apply Only.step (only_State_retag ..)
    | with_reducible apply Only.step (only_State_rewriteLabels ..)
    | (dsimp only [Only.mk_form]; with_reducible apply OnlyMk.intro (h0 := .inr rfl))
    | dsimp only

theorem only_State_reshapeOne (s : State) (a : ArrayId) (r : Arr) (p : Geom) (find : State → Nat → Option CSec) (so : State) (ho : State.reshapeOne s a r p find = some so) : Only [.regs, .evr, .hfe, .wc, .rbe, .capo] s so := by
  unfold State.reshapeOne at ho
  try dsimp only at ho
  repeat' first
    | contradiction
    | (have ho := Option.some.inj ho; subst ho)
    | split at ho
  all_goals repeat' first
    | exact (rfl : (_ : Bool) = _)
    | exact Or.inl (by decide)
    | with_reducible exact Or.inr rfl
    | with_reducible exact Only.refl
    | with_reducible assumption
    | with_reducible refine Only.ite ?_ ?_
    | with_reducible apply Only.step (only_State_fretMark ..)
    | with_reducible apply Only.step (only_State_incFld ..)
    | with_reducible apply Only.step (only_State_listStepLost ..)
    | with_reducible apply Only.step (only_State_mirror ..)
    | with_reducible apply Only.step (only_State_putArr ..)
    | with_reducible apply Only.step (only_State_writeNew ..)
    | with_reducible refine Only.foldl (fun _ _ _ => ?_) ?_
    | with_reducible refine Only.foldlFst (fun _ _ _ => ?_) ?_
    | with_reducible refine Only.foldlSnd (fun _ _ _ => ?_) ?_
    | (dsimp only [Only.mk_form]; with_reducible apply OnlyMk.intro (h0 := .inr rfl))
    | split
    | dsimp only
    | refine Only.ite ?_ ?_


/-! ### Machine/HfeOps.lean -/

theorem only_State_refillLoad (s : State) : Only [.lat] s (State.refillLoad s) := by
  unfold State.refillLoad
  try dsimp only
  repeat' first
    | exact (rfl : (_ : Bool) = _)
    | exact Or.inl (by decide)
    | with_reducible exact Or.inr rfl
    | with_reducible exact Only.refl
    | (dsimp only [Only.mk_form]; with_reducible apply OnlyMk.intro (h0 := .inr rfl))

theorem only_State_rollRate (s : State) : Only [.regs, .lat] s (State.rollRate s) := by
  unfold State.rollRate
  try dsimp only
  repeat' first
    | exact (rfl : (_ : Bool) = _)
    | exact Or.inl (by decide)
    | with_reducible exact Or.inr rfl
    | with_reducible exact Only.refl
    | with_reducible refine Only.ite ?_ ?_
    | with_reducible apply Only.step (only_State_setFld ..)
    | (dsimp only [Only.mk_form]; with_reducible apply OnlyMk.intro (h0 := .inr rfl))
    | split
    | refine Only.ite ?_ ?_

theorem only_State_takeLoad (s : State) (hp : Nat) (e : SqEntry) : Only [.regs, .lat] s (State.takeLoad s hp e) := by
  unfold State.takeLoad
  try dsimp only
  repeat' first
    | exact (rfl : (_ : Bool) = _)
    | exact Or.inl (by decide)
    | with_reducible exact Or.inr rfl
    | with_reducible exact Only.refl
    | with_reducible assumption
    | with_reducible refine Only.ite ?_ ?_
    | with_reducible apply Only.step (only_State_rollRate ..)
    | (dsimp only [Only.mk_form]; with_reducible apply OnlyMk.intro (h0 := .inr rfl))
    | split
    | refine Only.ite ?_ ?_

theorem only_State_lockGrant (s : State) (c : HostCmd) : Only [.regs, .hfe] s (State.lockGrant s c) := by
  unfold State.lockGrant
  try dsimp only
  repeat' first
    | exact (rfl : (_ : Bool) = _)
    | exact Or.inl (by decide)
    | with_reducible exact Or.inr rfl
    | with_reducible exact Only.refl
    | with_reducible refine Only.ite ?_ ?_
    | with_reducible apply Only.step (only_State_collect ..)
    | with_reducible apply Only.step (only_State_putCmd ..)
    | (dsimp only [Only.mk_form]; with_reducible apply OnlyMk.intro (h0 := .inr rfl))
    | split
    | refine Only.ite ?_ ?_

theorem only_State_pauseClass (s : State) (cls : Nat) : Only [.regs, .hfe] s (State.pauseClass s cls) := by
  unfold State.pauseClass
  try dsimp only
  repeat' first
    | exact (rfl : (_ : Bool) = _)
    | exact Or.inl (by decide)
    | with_reducible exact Or.inr rfl
    | with_reducible exact Only.refl
    | with_reducible refine Only.ite ?_ ?_
    | with_reducible apply Only.step (only_State_incFld ..)
    | (dsimp only [Only.mk_form]; with_reducible apply OnlyMk.intro (h0 := .inr rfl))
    | split
    | refine Only.ite ?_ ?_

theorem only_State_collectBare (s : State) (f : FnIdx) (sq cls : Nat) (cid : Nat) (st : Status) (bell : Nat × Bool) : Only [.regs, .hfe] s (State.collectBare s f sq cls cid st bell) := by
  unfold State.collectBare
  try dsimp only
  repeat' first
    | exact (rfl : (_ : Bool) = _)
    | exact Or.inl (by decide)
    | with_reducible exact Or.inr rfl
    | with_reducible exact Only.refl
    | with_reducible apply Only.step (only_State_logError ..)
    | with_reducible apply Only.step (only_State_maxFld ..)
    | (dsimp only [Only.mk_form]; with_reducible apply OnlyMk.intro (h0 := .inr rfl))
    | dsimp only

theorem only_State_admitEntry (s : State) (f : FnIdx) (sq cls tag : Nat) (e : SqEntry) (bell : Nat × Bool) (st : Option Status) : Only [.regs, .hfe] s (State.admitEntry s f sq cls tag e bell st) := by
  unfold State.admitEntry
  try dsimp only
  repeat' first
    | exact (rfl : (_ : Bool) = _)
    | exact Or.inl (by decide)
    | with_reducible exact Or.inr rfl
    | with_reducible exact Only.refl
    | with_reducible assumption
    | with_reducible refine Only.ite ?_ ?_
    | with_reducible apply Only.step (only_State_collect ..)
    | with_reducible apply Only.step (only_State_incFld ..)
    | with_reducible apply Only.step (only_State_lockGrant ..)
    | with_reducible apply Only.step (only_State_putCmd ..)
    | with_reducible apply Only.step (only_State_takeTag ..)
    | (dsimp only [Only.mk_form]; with_reducible apply OnlyMk.intro (h0 := .inr rfl))
    | split
    | dsimp only
    | refine Only.ite ?_ ?_

theorem only_State_clearFlag (s : State) (f : FnIdx) (nsid : Nat) : Only [.hfe] s (State.clearFlag s f nsid) := by
  unfold State.clearFlag
  try dsimp only
  repeat' first
    | exact (rfl : (_ : Bool) = _)
    | exact Or.inl (by decide)
    | with_reducible exact Or.inr rfl
    | with_reducible exact Only.refl
    | with_reducible apply Only.step (only_State_putFn ..)
    | (dsimp only [Only.mk_form]; with_reducible apply OnlyMk.intro (h0 := .inr rfl))

theorem only_State_fetchOne (s : State) (f : FnIdx) (sq : Nat) (q : IoSq) (tag : Nat) (e : SqEntry) : Only [.regs, .hfe, .lat] s (State.fetchOne s f sq q tag e) := by
  unfold State.fetchOne
  try dsimp only
  repeat' first
    | exact (rfl : (_ : Bool) = _)
    | exact Or.inl (by decide)
    | with_reducible exact Or.inr rfl
    | with_reducible exact Only.refl
    | with_reducible assumption
    | with_reducible refine Only.ite ?_ ?_
    | with_reducible apply Only.step (only_State_admitEntry ..)
    | with_reducible apply Only.step (only_State_clearFlag ..)
    | with_reducible apply Only.step (only_State_collectBare ..)
    | with_reducible apply Only.step (only_State_incFld ..)
    | with_reducible apply Only.step (only_State_takeLoad ..)
    | (dsimp only [Only.mk_form]; with_reducible apply OnlyMk.intro (h0 := .inr rfl))
    | split
    | dsimp only
    | refine Only.ite ?_ ?_

theorem only_State_fetchBurst (s : State) (f : FnIdx) (sq : Nat) (n : Nat) (y0 : List SqEntry) : Only [.regs, .hfe, .lat] s (State.fetchBurst s f sq n y0) := by
  fun_induction State.fetchBurst s f sq n y0
  all_goals try dsimp only
  all_goals repeat' first
    | exact (rfl : (_ : Bool) = _)
    | exact Or.inl (by decide)
    | with_reducible exact Or.inr rfl
    | with_reducible exact Only.refl
    | with_reducible assumption
    | with_reducible refine Only.ite ?_ ?_
    | with_reducible apply Only.step (only_State_fetchOne ..)
    | with_reducible apply Only.step (only_State_pauseClass ..)
    | (dsimp only [Only.mk_form]; with_reducible apply OnlyMk.intro (h0 := .inr rfl))
    | split
    | refine Only.ite ?_ ?_
    | refine Only.step (by with_reducible assumption) (by decide) ?_

theorem only_State_mapped (s : State) (c : HostCmd) : Only [.regs, .evr, .hfe, .rbe] s (State.mapped s c).2 := by
  unfold State.mapped
  try dsimp only
  repeat' first
    | exact (rfl : (_ : Bool) = _)
    | exact Or.inl (by decide)
    | with_reducible exact Or.inr rfl
    | with_reducible exact Only.refl
    | with_reducible assumption
    | with_reducible apply Only.step (only_State_mapFault ..)
    | (dsimp only [Only.mk_form]; with_reducible apply OnlyMk.intro (h0 := .inr rfl))
    | split
    | dsimp only

theorem only_State_discardNs (s : State) (nsid : Nat) : Only [.regs, .wc, .vault, .capo] s (State.discardNs s nsid) := by
  unfold State.discardNs
  try dsimp only
  repeat' first
    | exact (rfl : (_ : Bool) = _)
    | exact Or.inl (by decide)
    | with_reducible exact Or.inr rfl
    | with_reducible exact Only.refl
    | with_reducible assumption
    | with_reducible apply Only.step (only_State_place ..)
    | with_reducible apply Only.step (only_State_withLines ..)
    | with_reducible refine Only.foldl (fun _ _ _ => ?_) ?_
    | with_reducible refine Only.foldlFst (fun _ _ _ => ?_) ?_
    | with_reducible refine Only.foldlSnd (fun _ _ _ => ?_) ?_
    | (dsimp only [Only.mk_form]; with_reducible apply OnlyMk.intro (h0 := .inr rfl))
    | split
    | dsimp only

theorem only_State_placeEmpties (s : State) (nsid : Nat) (y0 : List Nat) : Only [.regs, .wc, .capo] s (State.placeEmpties s nsid y0) := by
  fun_induction State.placeEmpties s nsid y0
  all_goals try dsimp only
  all_goals repeat' first
    | exact (rfl : (_ : Bool) = _)
    | exact Or.inl (by decide)
    | with_reducible exact Or.inr rfl
    | with_reducible exact Only.refl
    | with_reducible assumption
    | with_reducible refine Only.ite ?_ ?_
    | with_reducible apply Only.step (only_State_place ..)
    | (dsimp only [Only.mk_form]; with_reducible apply OnlyMk.intro (h0 := .inr rfl))
    | split
    | refine Only.ite ?_ ?_
    | refine Only.step (by with_reducible assumption) (by decide) ?_

theorem only_State_formatStep (s : State) (nsid : Nat) : Only [.regs, .evr, .wc, .capo] s (State.formatStep s nsid) := by
  unfold State.formatStep
  try dsimp only
  repeat' first
    | exact (rfl : (_ : Bool) = _)
    | with_reducible exact Only.refl
    | with_reducible apply Only.step (only_State_noteLimit ..)
    | with_reducible apply Only.step (only_State_placeEmpties ..)

theorem only_State_saveMarks (s : State) : Only [.hfe] s (State.saveMarks s) := by
  unfold State.saveMarks
  try dsimp only
  repeat' first
    | exact (rfl : (_ : Bool) = _)
    | exact Or.inl (by decide)
    | with_reducible exact Or.inr rfl
    | with_reducible exact Only.refl
    | with_reducible refine Only.ite ?_ ?_
    | (dsimp only [Only.mk_form]; with_reducible apply OnlyMk.intro (h0 := .inr rfl))
    | split
    | refine Only.ite ?_ ?_

theorem only_State_retireKey (s : State) (nsid : Nat) : Only [.regs, .hfe, .wc, .cip] s (State.retireKey s nsid) := by
  unfold State.retireKey
  try dsimp only
  repeat' first
    | exact (rfl : (_ : Bool) = _)
    | exact Or.inl (by decide)
    | with_reducible exact Or.inr rfl
    | with_reducible exact Only.refl
    | with_reducible assumption
    | with_reducible apply Only.step (only_State_dropKeys ..)
    | with_reducible apply Only.step (only_State_showContexts ..)
    | (dsimp only [Only.mk_form]; with_reducible apply OnlyMk.intro (h0 := .inr rfl))
    | split

theorem only_State_beginFormat (s : State) (f : FormatOp) : Only [.regs, .evr, .hfe, .wc, .vault, .cip, .capo] s (State.beginFormat s f) := by
  unfold State.beginFormat
  try dsimp only
  repeat' first
    | exact (rfl : (_ : Bool) = _)
    | exact Or.inl (by decide)
    | with_reducible exact Or.inr rfl
    | with_reducible exact Only.refl
    | with_reducible assumption
    | with_reducible refine Only.ite ?_ ?_
    | with_reducible apply Only.step (only_State_adminDone ..)
    | with_reducible apply Only.step (only_State_discardNs ..)
    | with_reducible apply Only.step (only_State_formatStep ..)
    | with_reducible apply Only.step (only_State_retireKey ..)
    | (dsimp only [Only.mk_form]; with_reducible apply OnlyMk.intro (h0 := .inr rfl))
    | split
    | dsimp only
    | refine Only.ite ?_ ?_

theorem only_State_beginSanitize (s : State) (x : SanitizeOp) : Only [.regs, .hfe, .wc, .vault, .cip, .capo] s (State.beginSanitize s x) := by
  unfold State.beginSanitize
  try dsimp only
  repeat' first
    | exact (rfl : (_ : Bool) = _)
    | exact Or.inl (by decide)
    | with_reducible exact Or.inr rfl
    | with_reducible exact Only.refl
    | with_reducible assumption
    | with_reducible refine Only.ite ?_ ?_
    | with_reducible apply Only.step (only_State_adminDone ..)
    | with_reducible apply Only.step (only_State_discardNs ..)
    | with_reducible apply Only.step (only_State_retireKey ..)
    | with_reducible refine Only.foldl (fun _ _ _ => ?_) ?_
    | with_reducible refine Only.foldlFst (fun _ _ _ => ?_) ?_
    | with_reducible refine Only.foldlSnd (fun _ _ _ => ?_) ?_
    | (dsimp only [Only.mk_form]; with_reducible apply OnlyMk.intro (h0 := .inr rfl))
    | split
    | dsimp only
    | refine Only.ite ?_ ?_

theorem only_State_fenceWake (s : State) : Only [.regs, .evr, .hfe, .wc, .vault, .cip, .capo] s (State.fenceWake s) := by
  unfold State.fenceWake
  try dsimp only
  repeat' first
    | exact (rfl : (_ : Bool) = _)
    | exact Or.inl (by decide)
    | with_reducible exact Or.inr rfl
    | with_reducible exact Only.refl
    | with_reducible assumption
    | with_reducible refine Only.ite ?_ ?_
    | with_reducible apply Only.step (only_State_beginFormat ..)
    | with_reducible apply Only.step (only_State_beginSanitize ..)
    | with_reducible refine Only.foldl (fun _ _ _ => ?_) ?_
    | (dsimp only [Only.mk_form]; with_reducible apply OnlyMk.intro (h0 := .inr rfl))
    | split
    | refine Only.ite ?_ ?_

theorem only_State_dropWork (s : State) (tag : Nat) : Only [.map, .cip, .ports] s (State.dropWork s tag) := by
  unfold State.dropWork
  try dsimp only
  repeat' first
    | exact (rfl : (_ : Bool) = _)
    | exact Or.inl (by decide)
    | with_reducible exact Or.inr rfl
    | with_reducible exact Only.refl
    | (dsimp only [Only.mk_form]; with_reducible apply OnlyMk.intro (h0 := .inr rfl))
    | dsimp only

theorem only_State_abandon (s : State) (c : HostCmd) : Only [.regs, .map, .hfe, .wc, .cip, .ports] s (State.abandon s c) := by
  unfold State.abandon
  try dsimp only
  repeat' first
    | exact (rfl : (_ : Bool) = _)
    | exact Or.inl (by decide)
    | with_reducible exact Or.inr rfl
    | with_reducible exact Only.refl
    | with_reducible apply Only.step (only_State_abandonLines ..)
    | with_reducible apply Only.step (only_State_dropWork ..)
    | with_reducible apply Only.step (only_State_lanesCount ..)
    | with_reducible apply Only.step (only_State_releaseCmd ..)
    | (dsimp only [Only.mk_form]; with_reducible apply OnlyMk.intro (h0 := .inr rfl))

theorem only_State_quiesce (s : State) (f : FnIdx) : Only [.regs, .pwr, .map, .hfe, .wc, .cip, .ports] s (State.quiesce s f) := by
  unfold State.quiesce
  try dsimp only
  repeat' first
    | exact (rfl : (_ : Bool) = _)
    | exact Or.inl (by decide)
    | with_reducible exact Or.inr rfl
    | with_reducible exact Only.refl
    | with_reducible assumption
    | with_reducible refine Only.ite ?_ ?_
    | with_reducible apply Only.step (only_State_abandon ..)
    | with_reducible apply Only.step (only_State_putFn ..)
    | with_reducible refine Only.foldl (fun _ _ _ => ?_) ?_
    | with_reducible refine Only.foldlFst (fun _ _ _ => ?_) ?_
    | (dsimp only [Only.mk_form]; with_reducible apply OnlyMk.intro (h0 := .inr rfl))
    | split
    | dsimp only
    | refine Only.ite ?_ ?_

theorem only_State_portQuiesce (s : State) (hp : Nat) : Only [.freeIx, .regs, .pwr, .evr, .map, .hfe, .wc, .vault, .sc, .dma, .cip, .ports, .capo] s (State.portQuiesce s hp) := by
  unfold State.portQuiesce
  try dsimp only
  repeat' first
    | exact (rfl : (_ : Bool) = _)
    | exact Or.inl (by decide)
    | with_reducible exact Or.inr rfl
    | with_reducible exact Only.refl
    | with_reducible assumption
    | with_reducible apply Only.step (only_State_dmaPortReset ..)
    | with_reducible apply Only.step (only_State_fenceWake ..)
    | with_reducible apply Only.step (only_State_putFn ..)
    | with_reducible apply Only.step (only_State_quiesce ..)
    | with_reducible refine Only.foldl (fun _ _ _ => ?_) ?_
    | (dsimp only [Only.mk_form]; with_reducible apply OnlyMk.intro (h0 := .inr rfl))

theorem only_State_countPost (s : State) (e : Collected) : Only [.regs, .lat] s (State.countPost s e) := by
  unfold State.countPost
  try dsimp only
  repeat' first
    | exact (rfl : (_ : Bool) = _)
    | exact Or.inl (by decide)
    | with_reducible exact Or.inr rfl
    | with_reducible exact Only.refl
    | with_reducible assumption
    | with_reducible refine Only.ite ?_ ?_
    | with_reducible apply Only.step (only_State_histCount ..)
    | with_reducible apply Only.step (only_State_incFld ..)
    | with_reducible apply Only.step (only_State_maxFld ..)
    | (dsimp only [Only.mk_form]; with_reducible apply OnlyMk.intro (h0 := .inr rfl))
    | split
    | refine Only.ite ?_ ?_

theorem only_State_deleteWake (s : State) : Only [.hfe] s (State.deleteWake s) := by
  unfold State.deleteWake
  try dsimp only
  repeat' first
    | exact (rfl : (_ : Bool) = _)
    | exact Or.inl (by decide)
    | with_reducible exact Or.inr rfl
    | with_reducible exact Only.refl
    | with_reducible assumption
    | with_reducible refine Only.ite ?_ ?_
    | with_reducible apply Only.step (only_State_adminDone ..)
    | with_reducible refine Only.foldl (fun _ _ _ => ?_) ?_
    | with_reducible refine Only.foldlFst (fun _ _ _ => ?_) ?_
    | with_reducible refine Only.foldlSnd (fun _ _ _ => ?_) ?_
    | (dsimp only [Only.mk_form]; with_reducible apply OnlyMk.intro (h0 := .inr rfl))
    | split
    | dsimp only
    | refine Only.ite ?_ ?_


/-! ### Machine/Admin.lean -/

theorem only_State_adminTake (s : State) (f : FnIdx) : Only [.hfe] s (State.adminTake s f) := by
  unfold State.adminTake
  try dsimp only
  repeat' first
    | exact (rfl : (_ : Bool) = _)
    | exact Or.inl (by decide)
    | with_reducible exact Or.inr rfl
    | with_reducible exact Only.refl
    | with_reducible apply Only.step (only_State_putFn ..)
    | (dsimp only [Only.mk_form]; with_reducible apply OnlyMk.intro (h0 := .inr rfl))

theorem only_State_adminConflict (s : State) (f : FnIdx) (cid : Nat) : Only [.regs, .hfe] s (State.adminConflict s f cid) := by
  unfold State.adminConflict
  try dsimp only
  repeat' first
    | exact (rfl : (_ : Bool) = _)
    | with_reducible exact Only.refl
    | with_reducible apply Only.step (only_State_adminDone ..)
    | with_reducible apply Only.step (only_State_incFld ..)

theorem only_State_admin {l : List Part} (s : State) (f : FnIdx) (cid : Nat) (safe sani : Bool) (run : State → State)
    (hl : (l.contains .regs && l.contains .pwr && l.contains .hfe) = true) (hr : ∀ x, Only l s x → Only l s (run x)) :
    OnlyOut l s (State.admin s f cid safe sani run) := by
  have hm : [Part.regs, Part.pwr, Part.hfe].all (fun p => l.contains p) = true := by
    simp only [Bool.and_eq_true] at hl
    simp only [List.all_cons, List.all_nil, hl, Bool.and_self]
  have h0 : Only [Part.regs, Part.pwr, Part.hfe] s (s.adminTake f) := Only.mono (only_State_adminTake _ _) (by decide)
  have h1 : ∀ st, Only [Part.regs, Part.pwr, Part.hfe] s ((s.adminTake f).adminDone f cid st 0 []) := fun st =>
    Only.step (only_State_adminDone _ _ _ _ _ _) (by decide) h0
  have h3 : Only [Part.regs, Part.pwr, Part.hfe] s ((s.adminTake f).adminConflict f cid) :=
    Only.step (only_State_adminConflict _ _ _) (by decide) h0
  have h2 : Only [Part.regs, Part.pwr, Part.hfe] s s.wakeUp := Only.mono (only_State_wakeUp _) (by decide)
  unfold State.admin
  repeat' first
    | exact OnlyOut.next Only.refl
    | exact OnlyOut.next (h2.mono hm)
    | exact OnlyOut.next ((h1 _).mono hm)
    | exact OnlyOut.next (h3.mono hm)
    | exact OnlyOut.next (hr _ (h0.mono hm))
    | refine OnlyOut.ite ?_ ?_

theorem only_State_adminEnd (s : State) (f : FnIdx) (cid : Nat) (st : Status) : Only [.hfe] s (State.adminEnd s f cid st) := by
  unfold State.adminEnd
  try dsimp only
  repeat' first
    | exact (rfl : (_ : Bool) = _)
    | with_reducible exact Only.refl
    | with_reducible apply Only.step (only_State_adminDone ..)

theorem only_execSetFeaturesNumberOfQueues (fn : FnIdx) (cid nsq ncq : Nat) (s : State) : OnlyOut [.freeIx, .regs, .pwr, .hfe] s (execSetFeaturesNumberOfQueues fn cid nsq ncq s) := by
  unfold execSetFeaturesNumberOfQueues
  try dsimp only
  repeat' first
    | exact (rfl : (_ : Bool) = _)
    | exact Or.inl (by decide)
    | with_reducible exact Or.inr rfl
    | with_reducible exact Only.refl
    | with_reducible assumption
    | with_reducible refine OnlyOut.next ?_
    | with_reducible refine OnlyOut.ite ?_ ?_
    | with_reducible refine Only.ite ?_ ?_
    | with_reducible refine only_State_admin _ _ _ _ _ _ (by decide) (fun _ _ => ?_)
    | with_reducible apply Only.step (only_State_adminDone ..)
    | with_reducible apply Only.step (only_State_adminEnd ..)
    | with_reducible apply Only.step (only_State_putFn ..)
    | with_reducible apply Only.step (only_State_used ..)
    | (dsimp only [Only.mk_form]; with_reducible apply OnlyMk.intro (h0 := .inr rfl))
    | split
    | dsimp only
    | refine Only.ite ?_ ?_
    | refine OnlyOut.ite ?_ ?_

theorem only_execCreateIoSq (fn : FnIdx) (cid qid : Nat) (mem : QueueMem) (cqid : Nat) (s : State) : OnlyOut [.regs, .pwr, .hfe] s (execCreateIoSq fn cid qid mem cqid s) := by
  unfold execCreateIoSq
  try dsimp only
  repeat' first
    | exact (rfl : (_ : Bool) = _)
    | exact Or.inl (by decide)
    | with_reducible exact Or.inr rfl
    | with_reducible exact Only.refl
    | with_reducible assumption
    | with_reducible refine OnlyOut.next ?_
    | with_reducible refine OnlyOut.ite ?_ ?_
    | with_reducible refine Only.ite ?_ ?_
    | with_reducible refine only_State_admin _ _ _ _ _ _ (by decide) (fun _ _ => ?_)
    | with_reducible apply Only.step (only_State_adminEnd ..)
    | (dsimp only [Only.mk_form]; with_reducible apply OnlyMk.intro (h0 := .inr rfl))
    | split
    | dsimp only
    | refine Only.ite ?_ ?_
    | refine OnlyOut.ite ?_ ?_

theorem only_execCreateIoCq (fn : FnIdx) (cid qid : Nat) (mem : QueueMem) (vector : Nat) (ien : Bool) (s : State) : OnlyOut [.regs, .pwr, .hfe] s (execCreateIoCq fn cid qid mem vector ien s) := by
  unfold execCreateIoCq
  try dsimp only
  repeat' first
    | exact (rfl : (_ : Bool) = _)
    | exact Or.inl (by decide)
    | with_reducible exact Or.inr rfl
    | with_reducible exact Only.refl
    | with_reducible assumption
    | with_reducible refine OnlyOut.next ?_
    | with_reducible refine OnlyOut.ite ?_ ?_
    | with_reducible refine Only.ite ?_ ?_
    | with_reducible refine only_State_admin _ _ _ _ _ _ (by decide) (fun _ _ => ?_)
    | with_reducible apply Only.step (only_State_adminEnd ..)
    | (dsimp only [Only.mk_form]; with_reducible apply OnlyMk.intro (h0 := .inr rfl))
    | split
    | refine Only.ite ?_ ?_
    | refine OnlyOut.ite ?_ ?_

theorem only_State_dropEntries (s : State) (f : FnIdx) (qid cls : Nat) (y0 : List (Nat × Bool)) : Only [.freeIx, .regs, .hfe] s (State.dropEntries s f qid cls y0) := by
  fun_induction State.dropEntries s f qid cls y0
  all_goals try dsimp only
  all_goals repeat' first
    | exact (rfl : (_ : Bool) = _)
    | with_reducible exact Only.refl
    | with_reducible assumption
    | with_reducible apply Only.step (only_State_collectBare ..)
    | with_reducible apply Only.step (only_State_used ..)
    | split
    | refine Only.step (by with_reducible assumption) (by decide) ?_

theorem only_execDeleteIoSq (fn : FnIdx) (cid qid : Nat) (s : State) : OnlyOut [.freeIx, .regs, .pwr, .hfe] s (execDeleteIoSq fn cid qid s) := by
  unfold execDeleteIoSq
  try dsimp only
  repeat' first
    | exact (rfl : (_ : Bool) = _)
    | exact Or.inl (by decide)
    | with_reducible exact Or.inr rfl
    | with_reducible exact Only.refl
    | with_reducible assumption
    | with_reducible refine OnlyOut.next ?_
    | with_reducible refine OnlyOut.ite ?_ ?_
    | with_reducible refine Only.ite ?_ ?_
    | with_reducible refine only_State_admin _ _ _ _ _ _ (by decide) (fun _ _ => ?_)
    | with_reducible apply Only.step (only_State_adminEnd ..)
    | with_reducible apply Only.step (only_State_deleteWake ..)
    | with_reducible apply Only.step (only_State_dropEntries ..)
    | (dsimp only [Only.mk_form]; with_reducible apply OnlyMk.intro (h0 := .inr rfl))
    | split
    | dsimp only
    | refine Only.ite ?_ ?_
    | refine OnlyOut.ite ?_ ?_

theorem only_execDeleteIoCq (fn : FnIdx) (cid qid : Nat) (s : State) : OnlyOut [.regs, .pwr, .hfe] s (execDeleteIoCq fn cid qid s) := by
  unfold execDeleteIoCq
  try dsimp only
  repeat' first
    | exact (rfl : (_ : Bool) = _)
    | exact Or.inl (by decide)
    | with_reducible exact Or.inr rfl
    | with_reducible exact Only.refl
    | with_reducible assumption
    | with_reducible refine OnlyOut.next ?_
    | with_reducible refine OnlyOut.ite ?_ ?_
    | with_reducible refine Only.ite ?_ ?_
    | with_reducible refine only_State_admin _ _ _ _ _ _ (by decide) (fun _ _ => ?_)
    | with_reducible apply Only.step (only_State_adminEnd ..)
    | (dsimp only [Only.mk_form]; with_reducible apply OnlyMk.intro (h0 := .inr rfl))
    | split
    | dsimp only
    | refine Only.ite ?_ ?_
    | refine OnlyOut.ite ?_ ?_

theorem only_State_dweClear (s : State) (f : FnIdx) (length : Nat) : Only [.regs, .hfe] s (State.dweClear s f length) := by
  unfold State.dweClear
  try dsimp only
  repeat' first
    | exact (rfl : (_ : Bool) = _)
    | exact Or.inl (by decide)
    | with_reducible exact Or.inr rfl
    | with_reducible exact Only.refl
    | with_reducible refine Only.ite ?_ ?_
    | with_reducible apply Only.step (only_State_setBit ..)
    | with_reducible apply Only.step (only_State_setFld ..)
    | (dsimp only [Only.mk_form]; with_reducible apply OnlyMk.intro (h0 := .inr rfl))
    | split
    | refine Only.ite ?_ ?_

theorem only_execGetLogPage (fn : FnIdx) (cid lid lsp length : Nat) (s : State) : OnlyOut [.freeIx, .regs, .pwr, .hfe] s (execGetLogPage fn cid lid lsp length s) := by
  unfold execGetLogPage
  try dsimp only
  repeat' first
    | exact (rfl : (_ : Bool) = _)
    | exact Or.inl (by decide)
    | with_reducible exact Or.inr rfl
    | with_reducible exact Only.refl
    | with_reducible assumption
    | with_reducible refine OnlyOut.next ?_
    | with_reducible refine OnlyOut.ite ?_ ?_
    | with_reducible refine Only.ite ?_ ?_
    | with_reducible refine only_State_admin _ _ _ _ _ _ (by decide) (fun _ _ => ?_)
    | with_reducible apply Only.step (only_State_adminDone ..)
    | with_reducible apply Only.step (only_State_adminEnd ..)
    | with_reducible apply Only.step (only_State_dweClear ..)
    | (dsimp only [Only.mk_form]; with_reducible apply OnlyMk.intro (h0 := .inr rfl))
    | split
    | refine Only.ite ?_ ?_
    | refine OnlyOut.ite ?_ ?_

theorem only_execIdentify (fn : FnIdx) (cid cns nsid : Nat) (s : State) : OnlyOut [.freeIx, .regs, .pwr, .hfe] s (execIdentify fn cid cns nsid s) := by
  unfold execIdentify
  try dsimp only
  repeat' first
    | exact (rfl : (_ : Bool) = _)
    | exact Or.inl (by decide)
    | with_reducible exact Or.inr rfl
    | with_reducible exact Only.refl
    | with_reducible assumption
    | with_reducible refine OnlyOut.next ?_
    | with_reducible refine OnlyOut.ite ?_ ?_
    | with_reducible refine Only.ite ?_ ?_
    | with_reducible refine only_State_admin _ _ _ _ _ _ (by decide) (fun _ _ => ?_)
    | with_reducible apply Only.step (only_State_adminDone ..)
    | with_reducible apply Only.step (only_State_adminEnd ..)
    | with_reducible apply Only.step (only_State_used ..)
    | (dsimp only [Only.mk_form]; with_reducible apply OnlyMk.intro (h0 := .inr rfl))
    | split
    | refine Only.ite ?_ ?_
    | refine OnlyOut.ite ?_ ?_

theorem only_execAbortCommand (fn : FnIdx) (cid sqid target : Nat) (s : State) : OnlyOut [.regs, .pwr, .evr, .hfe, .wc, .vault, .cip, .capo] s (execAbortCommand fn cid sqid target s) := by
  unfold execAbortCommand
  try dsimp only
  repeat' first
    | exact (rfl : (_ : Bool) = _)
    | exact Or.inl (by decide)
    | with_reducible exact Or.inr rfl
    | with_reducible exact Only.refl
    | with_reducible assumption
    | with_reducible refine OnlyOut.next ?_
    | with_reducible refine OnlyOut.ite ?_ ?_
    | with_reducible refine Only.ite ?_ ?_
    | with_reducible refine only_State_admin _ _ _ _ _ _ (by decide) (fun _ _ => ?_)
    | with_reducible apply Only.step (only_State_adminDone ..)
    | with_reducible apply Only.step (only_State_collect ..)
    | with_reducible apply Only.step (only_State_fenceWake ..)
    | with_reducible apply Only.step (only_State_putFn ..)
    | (dsimp only [Only.mk_form]; with_reducible apply OnlyMk.intro (h0 := .inr rfl))
    | split
    | refine Only.ite ?_ ?_
    | refine OnlyOut.ite ?_ ?_

theorem only_execAsynchronousEventRequest (fn : FnIdx) (cid : Nat) (s : State) : OnlyOut [.regs, .pwr, .hfe] s (execAsynchronousEventRequest fn cid s) := by
  unfold execAsynchronousEventRequest
  try dsimp only
  repeat' first
    | exact (rfl : (_ : Bool) = _)
    | exact Or.inl (by decide)
    | with_reducible exact Or.inr rfl
    | with_reducible exact Only.refl
    | with_reducible assumption
    | with_reducible refine OnlyOut.next ?_
    | with_reducible refine OnlyOut.ite ?_ ?_
    | with_reducible refine Only.ite ?_ ?_
    | with_reducible refine only_State_admin _ _ _ _ _ _ (by decide) (fun _ _ => ?_)
    | with_reducible apply Only.step (only_State_adminEnd ..)
    | with_reducible apply Only.step (only_State_putFn ..)
    | (dsimp only [Only.mk_form]; with_reducible apply OnlyMk.intro (h0 := .inr rfl))
    | split
    | refine Only.ite ?_ ?_
    | refine OnlyOut.ite ?_ ?_

theorem only_execInvalidOpcodeCommand (fn : FnIdx) (sq cid : Nat) (s : State) : OnlyOut [.regs, .pwr, .hfe, .lat] s (execInvalidOpcodeCommand fn sq cid s) := by
  unfold execInvalidOpcodeCommand
  try dsimp only
  repeat' first
    | exact (rfl : (_ : Bool) = _)
    | exact Or.inl (by decide)
    | with_reducible exact Or.inr rfl
    | with_reducible exact Only.refl
    | with_reducible assumption
    | with_reducible refine OnlyOut.next ?_
    | with_reducible refine OnlyOut.ite ?_ ?_
    | with_reducible refine Only.ite ?_ ?_
    | with_reducible refine only_State_admin _ _ _ _ _ _ (by decide) (fun _ _ => ?_)
    | with_reducible apply Only.step (only_State_adminEnd ..)
    | with_reducible apply Only.step (only_State_fetchBurst ..)
    | (dsimp only [Only.mk_form]; with_reducible apply OnlyMk.intro (h0 := .inr rfl))
    | split
    | refine Only.ite ?_ ?_
    | refine OnlyOut.ite ?_ ?_

theorem only_execSetFeaturesPowerManagement (fn : FnIdx) (cid ps : Nat) (s : State) : OnlyOut [.regs, .pwr, .hfe, .wc, .age] s (execSetFeaturesPowerManagement fn cid ps s) := by
  unfold execSetFeaturesPowerManagement
  try dsimp only
  repeat' first
    | exact (rfl : (_ : Bool) = _)
    | with_reducible exact Only.refl
    | with_reducible assumption
    | with_reducible refine OnlyOut.next ?_
    | with_reducible refine OnlyOut.ite ?_ ?_
    | with_reducible refine Only.ite ?_ ?_
    | with_reducible apply Only.step (only_State_adminConflict ..)
    | with_reducible apply Only.step (only_State_adminEnd ..)
    | with_reducible apply Only.step (only_State_adminTake ..)
    | with_reducible apply Only.step (only_State_startPower ..)
    | split
    | dsimp only
    | refine Only.ite ?_ ?_
    | refine OnlyOut.ite ?_ ?_

theorem only_execSetFeaturesQueueClass (fn : FnIdx) (cid sqid cls : Nat) (s : State) : OnlyOut [.regs, .pwr, .hfe] s (execSetFeaturesQueueClass fn cid sqid cls s) := by
  unfold execSetFeaturesQueueClass
  try dsimp only
  repeat' first
    | exact (rfl : (_ : Bool) = _)
    | exact Or.inl (by decide)
    | with_reducible exact Or.inr rfl
    | with_reducible exact Only.refl
    | with_reducible assumption
    | with_reducible refine OnlyOut.next ?_
    | with_reducible refine OnlyOut.ite ?_ ?_
    | with_reducible refine Only.ite ?_ ?_
    | with_reducible refine only_State_admin _ _ _ _ _ _ (by decide) (fun _ _ => ?_)
    | with_reducible apply Only.step (only_State_adminEnd ..)
    | (dsimp only [Only.mk_form]; with_reducible apply OnlyMk.intro (h0 := .inr rfl))
    | split
    | refine Only.ite ?_ ?_
    | refine OnlyOut.ite ?_ ?_

theorem only_State_putWindow (s : State) (nsid index start count : Nat) (locked : Bool) : Only [.hfe] s (State.putWindow s nsid index start count locked) := by
  unfold State.putWindow
  try dsimp only
  repeat' first
    | exact (rfl : (_ : Bool) = _)
    | exact Or.inl (by decide)
    | with_reducible exact Or.inr rfl
    | with_reducible exact Only.refl
    | with_reducible refine Only.ite ?_ ?_
    | (dsimp only [Only.mk_form]; with_reducible apply OnlyMk.intro (h0 := .inr rfl))
    | split
    | refine Only.ite ?_ ?_

theorem only_execSetFeaturesProtectionWindow (fn : FnIdx) (cid nsid index start count flags token : Nat) (s : State) : OnlyOut [.regs, .pwr, .evr, .hfe] s (execSetFeaturesProtectionWindow fn cid nsid index start count flags token s) := by
  unfold execSetFeaturesProtectionWindow
  try dsimp only
  repeat' first
    | exact (rfl : (_ : Bool) = _)
    | exact Or.inl (by decide)
    | with_reducible exact Or.inr rfl
    | with_reducible exact Only.refl
    | with_reducible assumption
    | with_reducible refine OnlyOut.next ?_
    | with_reducible refine OnlyOut.ite ?_ ?_
    | with_reducible refine Only.ite ?_ ?_
    | with_reducible refine only_State_admin _ _ _ _ _ _ (by decide) (fun _ _ => ?_)
    | with_reducible apply Only.step (only_State_adminEnd ..)
    | with_reducible apply Only.step (only_State_putWindow ..)
    | with_reducible apply Only.step (only_State_tokenChecked ..)
    | (dsimp only [Only.mk_form]; with_reducible apply OnlyMk.intro (h0 := .inr rfl))
    | split
    | refine Only.ite ?_ ?_
    | refine OnlyOut.ite ?_ ?_

theorem only_State_putFeat (s : State) (f : FnIdx) (fid v : Nat) : Only [.hfe] s (State.putFeat s f fid v) := by
  unfold State.putFeat
  try dsimp only
  repeat' first
    | exact (rfl : (_ : Bool) = _)
    | exact Or.inl (by decide)
    | with_reducible exact Or.inr rfl
    | with_reducible exact Only.refl
    | with_reducible apply Only.step (only_State_putFn ..)
    | (dsimp only [Only.mk_form]; with_reducible apply OnlyMk.intro (h0 := .inr rfl))

theorem only_execSetFeaturesArbitration (fn : FnIdx) (cid value : Nat) (s : State) : OnlyOut [.regs, .pwr, .hfe] s (execSetFeaturesArbitration fn cid value s) := by
  unfold execSetFeaturesArbitration
  try dsimp only
  repeat' first
    | exact (rfl : (_ : Bool) = _)
    | with_reducible exact Only.refl
    | with_reducible assumption
    | with_reducible refine OnlyOut.next ?_
    | with_reducible refine only_State_admin _ _ _ _ _ _ (by decide) (fun _ _ => ?_)
    | with_reducible apply Only.step (only_State_adminEnd ..)
    | with_reducible apply Only.step (only_State_putFeat ..)

theorem only_State_putTable (s : State) (f : FnIdx) (fid : Nat) (table : List Nat) : Only [.hfe] s (State.putTable s f fid table) := by
  unfold State.putTable
  try dsimp only
  repeat' first
    | exact (rfl : (_ : Bool) = _)
    | exact Or.inl (by decide)
    | with_reducible exact Or.inr rfl
    | with_reducible exact Only.refl
    | with_reducible refine Only.ite ?_ ?_
    | with_reducible apply Only.step (only_State_putFn ..)
    | (dsimp only [Only.mk_form]; with_reducible apply OnlyMk.intro (h0 := .inr rfl))
    | split
    | refine Only.ite ?_ ?_

theorem only_execSetFeaturesOther (fn : FnIdx) (cid fid : Nat) (given : FeatureGiven) (s : State) : OnlyOut [.regs, .pwr, .hfe] s (execSetFeaturesOther fn cid fid given s) := by
  unfold execSetFeaturesOther
  try dsimp only
  repeat' first
    | exact (rfl : (_ : Bool) = _)
    | with_reducible exact Only.refl
    | with_reducible assumption
    | with_reducible refine OnlyOut.next ?_
    | with_reducible refine OnlyOut.ite ?_ ?_
    | with_reducible refine Only.ite ?_ ?_
    | with_reducible refine only_State_admin _ _ _ _ _ _ (by decide) (fun _ _ => ?_)
    | with_reducible apply Only.step (only_State_adminEnd ..)
    | with_reducible apply Only.step (only_State_putFeat ..)
    | with_reducible apply Only.step (only_State_putTable ..)
    | split
    | refine Only.ite ?_ ?_
    | refine OnlyOut.ite ?_ ?_

theorem only_execGetFeatures (fn : FnIdx) (cid fid arg : Nat) (s : State) : OnlyOut [.freeIx, .regs, .pwr, .hfe] s (execGetFeatures fn cid fid arg s) := by
  unfold execGetFeatures
  try dsimp only
  repeat' first
    | exact (rfl : (_ : Bool) = _)
    | exact Or.inl (by decide)
    | with_reducible exact Or.inr rfl
    | with_reducible exact Only.refl
    | with_reducible assumption
    | with_reducible refine OnlyOut.next ?_
    | with_reducible refine only_State_admin _ _ _ _ _ _ (by decide) (fun _ _ => ?_)
    | with_reducible apply Only.step (only_State_adminDone ..)
    | with_reducible apply Only.step (only_State_adminEnd ..)
    | with_reducible apply Only.step (only_State_used ..)
    | (dsimp only [Only.mk_form]; with_reducible apply OnlyMk.intro (h0 := .inr rfl))
    | split
    | dsimp only

theorem only_execFormatNvm (fn : FnIdx) (cid nsid ses : Nat) (fmt : FormatAsked) (s : State) : OnlyOut [.regs, .pwr, .evr, .hfe, .wc, .vault, .cip, .capo] s (execFormatNvm fn cid nsid ses fmt s) := by
  unfold execFormatNvm
  try dsimp only
  repeat' first
    | exact (rfl : (_ : Bool) = _)
    | exact Or.inl (by decide)
    | with_reducible exact Or.inr rfl
    | with_reducible exact Only.refl
    | with_reducible assumption
    | with_reducible refine OnlyOut.next ?_
    | with_reducible refine OnlyOut.ite ?_ ?_
    | with_reducible refine Only.ite ?_ ?_
    | with_reducible refine only_State_admin _ _ _ _ _ _ (by decide) (fun _ _ => ?_)
    | with_reducible apply Only.step (only_State_adminEnd ..)
    | with_reducible apply Only.step (only_State_fenceWake ..)
    | (dsimp only [Only.mk_form]; with_reducible apply OnlyMk.intro (h0 := .inr rfl))
    | split
    | dsimp only
    | refine Only.ite ?_ ?_
    | refine OnlyOut.ite ?_ ?_

theorem only_State_askSanitize (s : State) (f : FnIdx) (cid : Nat) (x : SanitizeOp) : Only [.regs, .evr, .hfe, .wc, .vault, .cip, .capo] s (State.askSanitize s f cid x) := by
  unfold State.askSanitize
  try dsimp only
  repeat' first
    | exact (rfl : (_ : Bool) = _)
    | exact Or.inl (by decide)
    | with_reducible exact Or.inr rfl
    | with_reducible exact Only.refl
    | with_reducible refine Only.ite ?_ ?_
    | with_reducible apply Only.step (only_State_adminEnd ..)
    | with_reducible apply Only.step (only_State_fenceWake ..)
    | (dsimp only [Only.mk_form]; with_reducible apply OnlyMk.intro (h0 := .inr rfl))
    | split
    | dsimp only
    | refine Only.ite ?_ ?_

theorem only_execSanitizeOverwrite (fn : FnIdx) (cid pattern passes : Nat) (invert : Bool) (s : State) : OnlyOut [.regs, .pwr, .evr, .hfe, .wc, .vault, .cip, .capo] s (execSanitizeOverwrite fn cid pattern passes invert s) := by
  unfold execSanitizeOverwrite
  try dsimp only
  repeat' first
    | exact (rfl : (_ : Bool) = _)
    | with_reducible exact Only.refl
    | with_reducible assumption
    | with_reducible refine OnlyOut.next ?_
    | with_reducible refine OnlyOut.ite ?_ ?_
    | with_reducible refine Only.ite ?_ ?_
    | with_reducible refine only_State_admin _ _ _ _ _ _ (by decide) (fun _ _ => ?_)
    | with_reducible apply Only.step (only_State_askSanitize ..)
    | split
    | refine Only.ite ?_ ?_
    | refine OnlyOut.ite ?_ ?_

theorem only_execSanitizeCryptoErase (fn : FnIdx) (cid : Nat) (s : State) : OnlyOut [.regs, .pwr, .evr, .hfe, .wc, .vault, .cip, .capo] s (execSanitizeCryptoErase fn cid s) := by
  unfold execSanitizeCryptoErase
  try dsimp only
  repeat' first
    | exact (rfl : (_ : Bool) = _)
    | with_reducible exact Only.refl
    | with_reducible assumption
    | with_reducible refine OnlyOut.next ?_
    | with_reducible refine OnlyOut.ite ?_ ?_
    | with_reducible refine Only.ite ?_ ?_
    | with_reducible refine only_State_admin _ _ _ _ _ _ (by decide) (fun _ _ => ?_)
    | with_reducible apply Only.step (only_State_askSanitize ..)
    | split
    | refine Only.ite ?_ ?_
    | refine OnlyOut.ite ?_ ?_

theorem only_execSanitizeOther (fn : FnIdx) (cid sanact : Nat) (s : State) : OnlyOut [.regs, .pwr, .hfe] s (execSanitizeOther fn cid sanact s) := by
  unfold execSanitizeOther
  try dsimp only
  repeat' first
    | exact (rfl : (_ : Bool) = _)
    | exact Or.inl (by decide)
    | with_reducible exact Or.inr rfl
    | with_reducible exact Only.refl
    | with_reducible assumption
    | with_reducible refine OnlyOut.next ?_
    | with_reducible refine OnlyOut.ite ?_ ?_
    | with_reducible refine Only.ite ?_ ?_
    | with_reducible refine only_State_admin _ _ _ _ _ _ (by decide) (fun _ _ => ?_)
    | with_reducible apply Only.step (only_State_adminEnd ..)
    | (dsimp only [Only.mk_form]; with_reducible apply OnlyMk.intro (h0 := .inr rfl))
    | split
    | refine Only.ite ?_ ?_
    | refine OnlyOut.ite ?_ ?_

theorem only_State_eraseGroups (s : State) (r : Arr) (x : SanitizeOp) (lo hi : Nat) : Only [.rbe] s (State.eraseGroups s r x lo hi) := by
  unfold State.eraseGroups
  try dsimp only
  repeat' first
    | exact (rfl : (_ : Bool) = _)
    | exact Or.inl (by decide)
    | with_reducible exact Or.inr rfl
    | with_reducible exact Only.refl
    | with_reducible assumption
    | with_reducible apply Only.step (only_State_putMedia ..)
    | with_reducible refine Only.foldl (fun _ _ _ => ?_) ?_
    | (dsimp only [Only.mk_form]; with_reducible apply OnlyMk.intro (h0 := .inr rfl))
    | split

theorem only_State_sanitizeStep (s : State) (x : SanitizeOp) : Only [.hfe, .rbe] s (State.sanitizeStep s x) := by
  unfold State.sanitizeStep
  try dsimp only
  repeat' first
    | exact (rfl : (_ : Bool) = _)
    | exact Or.inl (by decide)
    | with_reducible exact Or.inr rfl
    | with_reducible exact Only.refl
    | with_reducible assumption
    | with_reducible apply Only.step (only_State_eraseGroups ..)
    | with_reducible refine Only.foldl (fun _ _ _ => ?_) ?_
    | with_reducible refine Only.foldlFst (fun _ _ _ => ?_) ?_
    | with_reducible refine Only.foldlSnd (fun _ _ _ => ?_) ?_
    | (dsimp only [Only.mk_form]; with_reducible apply OnlyMk.intro (h0 := .inr rfl))
    | dsimp only

theorem only_execFormatWatermarkSave (nsid : Nat) (s : State) : OnlyOut [.regs, .evr, .hfe, .wc, .rbe, .capo] s (execFormatWatermarkSave nsid s) := by
  unfold execFormatWatermarkSave
  try dsimp only
  repeat' first
    | exact (rfl : (_ : Bool) = _)
    | exact Or.inl (by decide)
    | with_reducible exact Or.inr rfl
    | with_reducible exact Only.refl
    | with_reducible assumption
    | with_reducible refine OnlyOut.next ?_
    | with_reducible refine OnlyOut.ite ?_ ?_
    | with_reducible refine Only.ite ?_ ?_
    | with_reducible apply Only.step (only_State_formatStep ..)
    | with_reducible apply Only.step (only_State_sanitizeStep ..)
    | (dsimp only [Only.mk_form]; with_reducible apply OnlyMk.intro (h0 := .inr rfl))
    | split
    | refine Only.ite ?_ ?_
    | refine OnlyOut.ite ?_ ?_

theorem only_execFormatEnd (nsid : Nat) (s : State) : OnlyOut [.regs, .evr, .hfe, .wc, .capo] s (execFormatEnd nsid s) := by
  unfold execFormatEnd
  try dsimp only
  repeat' first
    | exact (rfl : (_ : Bool) = _)
    | exact Or.inl (by decide)
    | with_reducible exact Or.inr rfl
    | with_reducible exact Only.refl
    | with_reducible refine OnlyOut.next ?_
    | with_reducible refine OnlyOut.ite ?_ ?_
    | with_reducible refine Only.ite ?_ ?_
    | with_reducible apply Only.step (only_State_formatStep ..)
    | (dsimp only [Only.mk_form]; with_reducible apply OnlyMk.intro (h0 := .inr rfl))
    | split
    | refine Only.ite ?_ ?_
    | refine OnlyOut.ite ?_ ?_

theorem only_State_eraseMembers (s : State) (x : SanitizeOp) : Only [.rbe] s (State.eraseMembers s x) := by
  unfold State.eraseMembers
  try dsimp only
  repeat' first
    | exact (rfl : (_ : Bool) = _)
    | exact Or.inl (by decide)
    | with_reducible exact Or.inr rfl
    | with_reducible exact Only.refl
    | with_reducible assumption
    | with_reducible refine Only.ite ?_ ?_
    | with_reducible apply Only.step (only_State_eraseGroups ..)
    | with_reducible apply Only.step (only_State_putMedia ..)
    | with_reducible apply Only.step (only_State_retag ..)
    | with_reducible refine Only.foldl (fun _ _ _ => ?_) ?_
    | with_reducible refine Only.foldlFst (fun _ _ _ => ?_) ?_
    | with_reducible refine Only.foldlSnd (fun _ _ _ => ?_) ?_
    | (dsimp only [Only.mk_form]; with_reducible apply OnlyMk.intro (h0 := .inr rfl))
    | split
    | dsimp only
    | refine Only.ite ?_ ?_

theorem only_execSanitizeEnd (s : State) : OnlyOut [.hfe, .rbe] s (execSanitizeEnd s) := by
  unfold execSanitizeEnd
  try dsimp only
  repeat' first
    | exact (rfl : (_ : Bool) = _)
    | exact Or.inl (by decide)
    | with_reducible exact Or.inr rfl
    | with_reducible exact Only.refl
    | with_reducible assumption
    | with_reducible refine OnlyOut.next ?_
    | with_reducible refine OnlyOut.ite ?_ ?_
    | with_reducible refine Only.ite ?_ ?_
    | with_reducible apply Only.step (only_State_eraseMembers ..)
    | (dsimp only [Only.mk_form]; with_reducible apply OnlyMk.intro (h0 := .inr rfl))
    | split
    | dsimp only
    | refine Only.ite ?_ ?_
    | refine OnlyOut.ite ?_ ?_


/-! ### Machine/Capo.lean -/

theorem only_execCapoSeenClass (c : SeenClass) (s : State) : OnlyOut [.regs, .evr, .hfe, .wc, .rbe, .ports, .capo] s (execCapoSeenClass c s) := by
  unfold execCapoSeenClass
  try dsimp only
  repeat' first
    | exact (rfl : (_ : Bool) = _)
    | exact Or.inl (by decide)
    | with_reducible exact Or.inr rfl
    | with_reducible exact Only.refl
    | with_reducible assumption
    | with_reducible refine OnlyOut.next ?_
    | with_reducible refine OnlyOut.ite ?_ ?_
    | with_reducible refine Only.ite ?_ ?_
    | with_reducible apply Only.step (only_State_closeGate ..)
    | with_reducible apply Only.step (only_State_seeClass ..)
    | with_reducible apply Only.step (only_State_setFld ..)
    | (dsimp only [Only.mk_form]; with_reducible apply OnlyMk.intro (h0 := .inr rfl))
    | split
    | refine Only.ite ?_ ?_
    | refine OnlyOut.ite ?_ ?_

theorem only_execReadbackCheck (same : Bool) (s : State) : OnlyOut [.regs, .evr, .hfe, .wc, .rbe, .ports, .capo] s (execReadbackCheck same s) := by
  unfold execReadbackCheck
  try dsimp only
  repeat' first
    | exact (rfl : (_ : Bool) = _)
    | with_reducible exact Only.refl
    | with_reducible assumption
    | with_reducible refine OnlyOut.next ?_
    | with_reducible refine OnlyOut.ite ?_ ?_
    | with_reducible refine Only.ite ?_ ?_
    | with_reducible apply Only.step (only_State_lineFault ..)
    | with_reducible apply Only.step (only_State_setBit ..)
    | split
    | refine Only.ite ?_ ?_
    | refine OnlyOut.ite ?_ ?_

theorem only_State_adoptMirror (s : State) : Only [.wc, .capo] s (State.adoptMirror s) := by
  unfold State.adoptMirror
  try dsimp only
  repeat' first
    | exact (rfl : (_ : Bool) = _)
    | exact Or.inl (by decide)
    | with_reducible exact Or.inr rfl
    | with_reducible exact Only.refl
    | with_reducible assumption
    | with_reducible refine Only.foldl (fun _ _ _ => ?_) ?_
    | (dsimp only [Only.mk_form]; with_reducible apply OnlyMk.intro (h0 := .inr rfl))
    | dsimp only

theorem only_execGateOpen (s : State) : OnlyOut [.regs, .evr, .hfe, .wc, .rbe, .ports, .capo] s (execGateOpen s) := by
  unfold execGateOpen
  try dsimp only
  repeat' first
    | exact (rfl : (_ : Bool) = _)
    | with_reducible exact Only.refl
    | with_reducible refine OnlyOut.next ?_
    | with_reducible refine OnlyOut.ite ?_ ?_
    | with_reducible refine Only.ite ?_ ?_
    | with_reducible apply Only.step (only_State_adoptMirror ..)
    | with_reducible apply Only.step (only_State_becomeActive ..)
    | with_reducible apply Only.step (only_State_nextEpoch ..)
    | with_reducible apply Only.step (only_State_noReplay ..)
    | with_reducible apply Only.step (only_State_resumeLabels ..)
    | with_reducible apply Only.step (only_State_setBit ..)
    | split
    | refine Only.ite ?_ ?_
    | refine OnlyOut.ite ?_ ?_

theorem only_execCapoRenew (iface : Iface) (s : State) : OnlyOut [.capo] s (execCapoRenew iface s) := by
  unfold execCapoRenew
  try dsimp only
  repeat' first
    | exact (rfl : (_ : Bool) = _)
    | exact Or.inl (by decide)
    | with_reducible exact Or.inr rfl
    | with_reducible exact Only.refl
    | with_reducible refine OnlyOut.next ?_
    | with_reducible refine OnlyOut.ite ?_ ?_
    | with_reducible refine Only.ite ?_ ?_
    | (dsimp only [Only.mk_form]; with_reducible apply OnlyMk.intro (h0 := .inr rfl))
    | split
    | refine Only.ite ?_ ?_
    | refine OnlyOut.ite ?_ ?_

theorem only_execRenewExpiry (s : State) : OnlyOut [.regs, .evr, .hfe, .wc, .rbe, .ports, .capo] s (execRenewExpiry s) := by
  unfold execRenewExpiry
  try dsimp only
  repeat' first
    | exact (rfl : (_ : Bool) = _)
    | exact Or.inl (by decide)
    | with_reducible exact Or.inr rfl
    | with_reducible exact Only.refl
    | with_reducible refine OnlyOut.next ?_
    | with_reducible refine OnlyOut.ite ?_ ?_
    | with_reducible refine Only.ite ?_ ?_
    | with_reducible apply Only.step (only_State_closeGate ..)
    | with_reducible apply Only.step (only_State_driveCapo ..)
    | with_reducible apply Only.step (only_State_leaveUpdates ..)
    | with_reducible apply Only.step (only_State_mirrorOff ..)
    | with_reducible apply Only.step (only_State_setBit ..)
    | with_reducible apply Only.step (only_State_setRole ..)
    | (dsimp only [Only.mk_form]; with_reducible apply OnlyMk.intro (h0 := .inr rfl))
    | split
    | refine Only.ite ?_ ?_
    | refine OnlyOut.ite ?_ ?_

theorem only_execContentionTimeout (s : State) : OnlyOut [.regs, .evr, .hfe, .wc, .rbe, .ports, .capo] s (execContentionTimeout s) := by
  unfold execContentionTimeout
  try dsimp only
  repeat' first
    | exact (rfl : (_ : Bool) = _)
    | exact Or.inl (by decide)
    | with_reducible exact Or.inr rfl
    | with_reducible exact Only.refl
    | with_reducible refine OnlyOut.next ?_
    | with_reducible refine OnlyOut.ite ?_ ?_
    | with_reducible refine Only.ite ?_ ?_
    | with_reducible apply Only.step (only_State_withdraw ..)
    | (dsimp only [Only.mk_form]; with_reducible apply OnlyMk.intro (h0 := .inr rfl))
    | split
    | refine Only.ite ?_ ?_
    | refine OnlyOut.ite ?_ ?_

theorem only_execContentionBackoffExpiry (s : State) : OnlyOut [.regs, .evr, .capo] s (execContentionBackoffExpiry s) := by
  unfold execContentionBackoffExpiry
  try dsimp only
  repeat' first
    | exact (rfl : (_ : Bool) = _)
    | exact Or.inl (by decide)
    | with_reducible exact Or.inr rfl
    | with_reducible exact Only.refl
    | with_reducible refine OnlyOut.next ?_
    | with_reducible refine OnlyOut.ite ?_ ?_
    | with_reducible refine Only.ite ?_ ?_
    | with_reducible apply Only.step (only_State_beginClaim ..)
    | with_reducible apply Only.step (only_State_emit ..)
    | with_reducible apply Only.step (only_State_setFld ..)
    | (dsimp only [Only.mk_form]; with_reducible apply OnlyMk.intro (h0 := .inr rfl))
    | split
    | refine Only.ite ?_ ?_
    | refine OnlyOut.ite ?_ ?_

theorem only_execCapoClaim (s : State) : OnlyOut [.freeIx, .regs, .evr, .capo] s (execCapoClaim s) := by
  unfold execCapoClaim
  try dsimp only
  repeat' first
    | exact (rfl : (_ : Bool) = _)
    | exact Or.inl (by decide)
    | with_reducible exact Or.inr rfl
    | with_reducible exact Only.refl
    | with_reducible refine OnlyOut.next ?_
    | with_reducible refine OnlyOut.ite ?_ ?_
    | with_reducible refine OnlyOut.command ⟨rfl, rfl, rfl⟩ Only.refl ?_
    | with_reducible refine Only.ite ?_ ?_
    | with_reducible apply Only.step (only_State_beginClaim ..)
    | with_reducible apply Only.step (only_State_capoIgnored ..)
    | (dsimp only [Only.mk_form]; with_reducible apply OnlyMk.intro (h0 := .inr rfl))
    | split
    | refine Only.ite ?_ ?_
    | refine OnlyOut.ite ?_ ?_

theorem only_execCapoRelease (s : State) : OnlyOut [.freeIx, .regs, .evr, .hfe, .wc, .rbe, .ports, .capo] s (execCapoRelease s) := by
  unfold execCapoRelease
  try dsimp only
  repeat' first
    | exact (rfl : (_ : Bool) = _)
    | with_reducible exact Only.refl
    | with_reducible refine OnlyOut.next ?_
    | with_reducible refine OnlyOut.ite ?_ ?_
    | with_reducible refine OnlyOut.command ⟨rfl, rfl, rfl⟩ Only.refl ?_
    | with_reducible refine Only.ite ?_ ?_
    | with_reducible apply Only.step (only_State_beginRelease ..)
    | with_reducible apply Only.step (only_State_capoIgnored ..)
    | with_reducible apply Only.step (only_State_closeGate ..)
    | with_reducible apply Only.step (only_State_endRelease ..)
    | with_reducible apply Only.step (only_State_sendHealth ..)
    | split
    | refine Only.ite ?_ ?_
    | refine OnlyOut.ite ?_ ?_

theorem only_execReleaseComplete (s : State) : OnlyOut [.regs, .hfe, .wc, .ports, .capo] s (execReleaseComplete s) := by
  unfold execReleaseComplete
  try dsimp only
  repeat' first
    | exact (rfl : (_ : Bool) = _)
    | with_reducible exact Only.refl
    | with_reducible refine OnlyOut.next ?_
    | with_reducible refine OnlyOut.ite ?_ ?_
    | with_reducible refine Only.ite ?_ ?_
    | with_reducible apply Only.step (only_State_endRelease ..)
    | split
    | refine Only.ite ?_ ?_
    | refine OnlyOut.ite ?_ ?_

theorem only_execCapoClearFault (s : State) : OnlyOut [.freeIx, .regs, .evr] s (execCapoClearFault s) := by
  unfold execCapoClearFault
  try dsimp only
  repeat' first
    | exact (rfl : (_ : Bool) = _)
    | with_reducible exact Only.refl
    | with_reducible refine OnlyOut.next ?_
    | with_reducible refine OnlyOut.ite ?_ ?_
    | with_reducible refine OnlyOut.command ⟨rfl, rfl, rfl⟩ Only.refl ?_
    | with_reducible refine Only.ite ?_ ?_
    | with_reducible apply Only.step (only_State_capoIgnored ..)
    | with_reducible apply Only.step (only_State_driveCapo ..)
    | with_reducible apply Only.step (only_State_setBit ..)
    | with_reducible apply Only.step (only_State_setFld ..)
    | with_reducible apply Only.step (only_State_setRole ..)
    | split
    | refine Only.ite ?_ ?_
    | refine OnlyOut.ite ?_ ?_

theorem only_State_reportAll (s : State) : Only [.regs, .evr, .hfe, .capo] s (State.reportAll s) := by
  unfold State.reportAll
  try dsimp only
  repeat' first
    | exact (rfl : (_ : Bool) = _)
    | with_reducible exact Only.refl
    | with_reducible assumption
    | with_reducible apply Only.step (only_State_deferError ..)
    | with_reducible refine Only.foldl (fun _ _ _ => ?_) ?_

theorem only_execCapoForceClaim (iface : Iface) (s : State) : OnlyOut [.freeIx, .regs, .evr, .hfe, .capo] s (execCapoForceClaim iface s) := by
  unfold execCapoForceClaim
  try dsimp only
  repeat' first
    | exact (rfl : (_ : Bool) = _)
    | exact Or.inl (by decide)
    | with_reducible exact Or.inr rfl
    | with_reducible exact Only.refl
    | with_reducible refine OnlyOut.next ?_
    | with_reducible refine OnlyOut.ite ?_ ?_
    | with_reducible refine OnlyOut.command ⟨rfl, rfl, rfl⟩ Only.refl ?_
    | with_reducible refine Only.ite ?_ ?_
    | with_reducible apply Only.step (only_State_beginClaim ..)
    | with_reducible apply Only.step (only_State_capoIgnored ..)
    | with_reducible apply Only.step (only_State_nextEpoch ..)
    | with_reducible apply Only.step (only_State_reportAll ..)
    | with_reducible apply Only.step (only_State_tokenChecked ..)
    | (dsimp only [Only.mk_form]; with_reducible apply OnlyMk.intro (h0 := .inr rfl))
    | split
    | refine Only.ite ?_ ?_
    | refine OnlyOut.ite ?_ ?_

theorem only_State_selftest (s : State) (failed : Nat) : Only [.regs, .evr, .capo] s (State.selftest s failed) := by
  unfold State.selftest
  try dsimp only
  repeat' first
    | exact (rfl : (_ : Bool) = _)
    | exact Or.inl (by decide)
    | with_reducible exact Or.inr rfl
    | with_reducible exact Only.refl
    | with_reducible assumption
    | with_reducible refine Only.ite ?_ ?_
    | with_reducible apply Only.step (only_State_emit ..)
    | with_reducible apply Only.step (only_State_satFld ..)
    | with_reducible apply Only.step (only_State_setBit ..)
    | with_reducible apply Only.step (only_State_setFld ..)
    | (dsimp only [Only.mk_form]; with_reducible apply OnlyMk.intro (h0 := .inr rfl))
    | split
    | refine Only.ite ?_ ?_

theorem only_execSelftestNow (failed : Nat) (s : State) : OnlyOut [.freeIx, .regs, .evr, .capo] s (execSelftestNow failed s) := by
  unfold execSelftestNow
  try dsimp only
  repeat' first
    | exact (rfl : (_ : Bool) = _)
    | with_reducible exact Only.refl
    | with_reducible refine OnlyOut.next ?_
    | with_reducible refine OnlyOut.ite ?_ ?_
    | with_reducible refine OnlyOut.command ⟨rfl, rfl, rfl⟩ Only.refl ?_
    | with_reducible refine Only.ite ?_ ?_
    | with_reducible apply Only.step (only_State_capoIgnored ..)
    | with_reducible apply Only.step (only_State_selftest ..)
    | split
    | refine Only.ite ?_ ?_
    | refine OnlyOut.ite ?_ ?_

theorem only_execSelftestCycle (failed : Nat) (s : State) : OnlyOut [.regs, .evr, .capo] s (execSelftestCycle failed s) := by
  unfold execSelftestCycle
  try dsimp only
  repeat' first
    | exact (rfl : (_ : Bool) = _)
    | with_reducible exact Only.refl
    | with_reducible refine OnlyOut.next ?_
    | with_reducible refine OnlyOut.ite ?_ ?_
    | with_reducible refine Only.ite ?_ ?_
    | with_reducible apply Only.step (only_State_selftest ..)
    | split
    | refine Only.ite ?_ ?_
    | refine OnlyOut.ite ?_ ?_

theorem only_execHealthWordSend (s : State) : OnlyOut [.capo] s (execHealthWordSend s) := by
  unfold execHealthWordSend
  try dsimp only
  repeat' first
    | exact (rfl : (_ : Bool) = _)
    | with_reducible exact Only.refl
    | with_reducible refine OnlyOut.next ?_
    | with_reducible refine OnlyOut.ite ?_ ?_
    | with_reducible refine Only.ite ?_ ?_
    | with_reducible apply Only.step (only_State_sendHealth ..)
    | split
    | refine Only.ite ?_ ?_
    | refine OnlyOut.ite ?_ ?_

theorem only_State_followActive (s : State) (h : Health) : Only [.regs] s (State.followActive s h) := by
  unfold State.followActive
  try dsimp only
  repeat' first
    | exact (rfl : (_ : Bool) = _)
    | with_reducible exact Only.refl
    | with_reducible refine Only.ite ?_ ?_
    | with_reducible apply Only.step (only_State_setBit ..)
    | with_reducible apply Only.step (only_State_setFld ..)
    | split
    | refine Only.ite ?_ ?_

theorem only_State_meetStandby (s : State) (h : Health) : Only [.regs, .evr, .hfe, .wc] s (State.meetStandby s h) := by
  unfold State.meetStandby
  try dsimp only
  repeat' first
    | exact (rfl : (_ : Bool) = _)
    | exact Or.inl (by decide)
    | with_reducible exact Or.inr rfl
    | with_reducible exact Only.refl
    | with_reducible refine Only.ite ?_ ?_
    | with_reducible apply Only.step (only_State_recomputeLimit ..)
    | with_reducible apply Only.step (only_State_setBit ..)
    | (dsimp only [Only.mk_form]; with_reducible apply OnlyMk.intro (h0 := .inr rfl))
    | split
    | refine Only.ite ?_ ?_

theorem only_execHealthWordReceive (h : Health) (s : State) : OnlyOut [.regs, .evr, .hfe, .wc, .rbe, .ports, .capo] s (execHealthWordReceive h s) := by
  unfold execHealthWordReceive
  try dsimp only
  repeat' first
    | exact (rfl : (_ : Bool) = _)
    | exact Or.inl (by decide)
    | with_reducible exact Or.inr rfl
    | with_reducible exact Only.refl
    | with_reducible refine OnlyOut.next ?_
    | with_reducible refine OnlyOut.ite ?_ ?_
    | with_reducible refine Only.ite ?_ ?_
    | with_reducible apply Only.step (only_State_beginRelease ..)
    | with_reducible apply Only.step (only_State_emit ..)
    | with_reducible apply Only.step (only_State_followActive ..)
    | with_reducible apply Only.step (only_State_lineFault ..)
    | with_reducible apply Only.step (only_State_meetStandby ..)
    | with_reducible apply Only.step (only_State_sendHealth ..)
    | with_reducible apply Only.step (only_State_setFld ..)
    | (dsimp only [Only.mk_form]; with_reducible apply OnlyMk.intro (h0 := .inr rfl))
    | split
    | refine Only.ite ?_ ?_
    | refine OnlyOut.ite ?_ ?_

theorem only_execMirrorItemReceive (item : MirrorItem) (s : State) : OnlyOut [.regs, .evr, .hfe, .wc, .vault, .rbe, .cip, .capo] s (execMirrorItemReceive item s) := by
  unfold execMirrorItemReceive
  try dsimp only
  repeat' first
    | exact (rfl : (_ : Bool) = _)
    | exact Or.inl (by decide)
    | with_reducible exact Or.inr rfl
    | with_reducible exact Only.refl
    | with_reducible refine OnlyOut.next ?_
    | with_reducible refine OnlyOut.ite ?_ ?_
    | with_reducible refine Only.ite ?_ ?_
    | with_reducible apply Only.step (only_State_mirrorIn ..)
    | with_reducible apply Only.step (only_State_retireWaiting ..)
    | (dsimp only [Only.mk_form]; with_reducible apply OnlyMk.intro (h0 := .inr rfl))
    | split
    | refine Only.ite ?_ ?_
    | refine OnlyOut.ite ?_ ?_

theorem only_execMirrorDigestCheck (differ : List MirrorItem) (s : State) : OnlyOut [.regs, .evr, .hfe, .wc, .rbe, .cip, .capo] s (execMirrorDigestCheck differ s) := by
  unfold execMirrorDigestCheck
  try dsimp only
  repeat' first
    | exact (rfl : (_ : Bool) = _)
    | with_reducible exact Only.refl
    | with_reducible assumption
    | with_reducible refine OnlyOut.next ?_
    | with_reducible refine OnlyOut.ite ?_ ?_
    | with_reducible refine Only.ite ?_ ?_
    | with_reducible apply Only.step (only_State_emit ..)
    | with_reducible apply Only.step (only_State_incFld ..)
    | with_reducible apply Only.step (only_State_mirrorIn ..)
    | with_reducible refine Only.foldl (fun _ _ _ => ?_) ?_
    | split
    | refine Only.ite ?_ ?_
    | refine OnlyOut.ite ?_ ?_

theorem only_execMirrorSyncComplete (s : State) : OnlyOut [.regs, .evr, .hfe, .wc] s (execMirrorSyncComplete s) := by
  unfold execMirrorSyncComplete
  try dsimp only
  repeat' first
    | exact (rfl : (_ : Bool) = _)
    | exact Or.inl (by decide)
    | with_reducible exact Or.inr rfl
    | with_reducible exact Only.refl
    | with_reducible refine OnlyOut.next ?_
    | with_reducible refine OnlyOut.ite ?_ ?_
    | with_reducible refine Only.ite ?_ ?_
    | with_reducible apply Only.step (only_State_incFld ..)
    | with_reducible apply Only.step (only_State_nextEpoch ..)
    | with_reducible apply Only.step (only_State_recomputeLimit ..)
    | with_reducible apply Only.step (only_State_setBit ..)
    | (dsimp only [Only.mk_form]; with_reducible apply OnlyMk.intro (h0 := .inr rfl))
    | split
    | refine Only.ite ?_ ?_
    | refine OnlyOut.ite ?_ ?_

theorem only_execStandbyMirrorSilence (s : State) : OnlyOut [.regs] s (execStandbyMirrorSilence s) := by
  unfold execStandbyMirrorSilence
  try dsimp only
  repeat' first
    | exact (rfl : (_ : Bool) = _)
    | with_reducible exact Only.refl
    | with_reducible refine OnlyOut.next ?_
    | with_reducible refine OnlyOut.ite ?_ ?_
    | with_reducible refine Only.ite ?_ ?_
    | with_reducible apply Only.step (only_State_setBit ..)
    | split
    | refine Only.ite ?_ ?_
    | refine OnlyOut.ite ?_ ?_

theorem only_execPairRoleChoice (partner : Option Partner) (s : State) : OnlyOut [.regs, .evr, .vault, .capo] s (execPairRoleChoice partner s) := by
  unfold execPairRoleChoice
  try dsimp only
  repeat' first
    | exact (rfl : (_ : Bool) = _)
    | exact Or.inl (by decide)
    | with_reducible exact Or.inr rfl
    | with_reducible exact Only.refl
    | with_reducible assumption
    | with_reducible refine OnlyOut.next ?_
    | with_reducible refine OnlyOut.ite ?_ ?_
    | with_reducible refine Only.ite ?_ ?_
    | with_reducible apply Only.step (only_State_becomeStandby ..)
    | with_reducible apply Only.step (only_State_beginClaim ..)
    | with_reducible apply Only.step (only_State_driveCapo ..)
    | with_reducible apply Only.step (only_State_emit ..)
    | with_reducible apply Only.step (only_State_setBit ..)
    | with_reducible apply Only.step (only_State_setFld ..)
    | with_reducible apply Only.step (only_State_setRole ..)
    | with_reducible apply Only.step (only_State_standbyOfClaimer ..)
    | (dsimp only [Only.mk_form]; with_reducible apply OnlyMk.intro (h0 := .inr rfl))
    | split
    | refine Only.ite ?_ ?_
    | refine OnlyOut.ite ?_ ?_

theorem only_execStartupWaitExpiry (s : State) : OnlyOut [.regs, .vault, .capo] s (execStartupWaitExpiry s) := by
  unfold execStartupWaitExpiry
  try dsimp only
  repeat' first
    | exact (rfl : (_ : Bool) = _)
    | exact Or.inl (by decide)
    | with_reducible exact Or.inr rfl
    | with_reducible exact Only.refl
    | with_reducible assumption
    | with_reducible refine OnlyOut.next ?_
    | with_reducible refine OnlyOut.ite ?_ ?_
    | with_reducible refine Only.ite ?_ ?_
    | with_reducible apply Only.step (only_State_becomeStandby ..)
    | with_reducible apply Only.step (only_State_beginClaim ..)
    | with_reducible apply Only.step (only_State_driveCapo ..)
    | with_reducible apply Only.step (only_State_setFld ..)
    | with_reducible apply Only.step (only_State_setRole ..)
    | (dsimp only [Only.mk_form]; with_reducible apply OnlyMk.intro (h0 := .inr rfl))
    | split
    | refine Only.ite ?_ ?_
    | refine OnlyOut.ite ?_ ?_

theorem only_execTakeover (s : State) : OnlyOut [.regs, .capo] s (execTakeover s) := by
  unfold execTakeover
  try dsimp only
  repeat' first
    | exact (rfl : (_ : Bool) = _)
    | exact Or.inl (by decide)
    | with_reducible exact Or.inr rfl
    | with_reducible exact Only.refl
    | with_reducible assumption
    | with_reducible refine OnlyOut.next ?_
    | with_reducible refine OnlyOut.ite ?_ ?_
    | with_reducible refine Only.ite ?_ ?_
    | with_reducible apply Only.step (only_State_beginClaim ..)
    | (dsimp only [Only.mk_form]; with_reducible apply OnlyMk.intro (h0 := .inr rfl))
    | split
    | dsimp only
    | refine Only.ite ?_ ?_
    | refine OnlyOut.ite ?_ ?_

theorem only_execWriteFenceEnd (s : State) : OnlyOut [.regs, .evr, .wc, .rbe, .capo] s (execWriteFenceEnd s) := by
  unfold execWriteFenceEnd
  try dsimp only
  repeat' first
    | exact (rfl : (_ : Bool) = _)
    | exact Or.inl (by decide)
    | with_reducible exact Or.inr rfl
    | with_reducible exact Only.refl
    | with_reducible assumption
    | with_reducible refine OnlyOut.next ?_
    | with_reducible refine OnlyOut.ite ?_ ?_
    | with_reducible refine Only.ite ?_ ?_
    | with_reducible apply Only.step (only_State_adoptMirror ..)
    | with_reducible apply Only.step (only_State_nextEpoch ..)
    | with_reducible apply Only.step (only_State_online ..)
    | with_reducible apply Only.step (only_State_satFld ..)
    | with_reducible apply Only.step (only_State_setFld ..)
    | (dsimp only [Only.mk_form]; with_reducible apply OnlyMk.intro (h0 := .inr rfl))
    | split
    | refine Only.ite ?_ ?_
    | refine OnlyOut.ite ?_ ?_


/-! ### Machine/Cipher.lean -/

theorem only_execKeySetOwner (s : State) : OnlyOut [.regs, .cip] s (execKeySetOwner s) := by
  unfold execKeySetOwner
  try dsimp only
  repeat' first
    | exact (rfl : (_ : Bool) = _)
    | exact Or.inl (by decide)
    | with_reducible exact Or.inr rfl
    | with_reducible exact Only.refl
    | with_reducible refine OnlyOut.next ?_
    | with_reducible refine OnlyOut.ite ?_ ?_
    | with_reducible refine Only.ite ?_ ?_
    | with_reducible apply Only.step (only_State_keyDone ..)
    | with_reducible apply Only.step (only_State_setBit ..)
    | with_reducible apply Only.step (only_State_setFld ..)
    | (dsimp only [Only.mk_form]; with_reducible apply OnlyMk.intro (h0 := .inr rfl))
    | split
    | dsimp only
    | refine Only.ite ?_ ?_
    | refine OnlyOut.ite ?_ ?_

theorem only_execKeyLoadBlob (plain : BlobPlain) (s : State) : OnlyOut [.freeIx, .regs, .err, .rbe, .cip, .capo] s (execKeyLoadBlob plain s) := by
  unfold execKeyLoadBlob
  try dsimp only
  repeat' first
    | exact (rfl : (_ : Bool) = _)
    | exact Or.inl (by decide)
    | with_reducible exact Or.inr rfl
    | with_reducible exact Only.refl
    | with_reducible assumption
    | with_reducible refine OnlyOut.next ?_
    | with_reducible refine OnlyOut.ite ?_ ?_
    | with_reducible refine Only.ite ?_ ?_
    | with_reducible apply Only.step (only_State_keyDone ..)
    | with_reducible apply Only.step (only_State_loadKey ..)
    | with_reducible apply Only.step (only_State_setFld ..)
    | (dsimp only [Only.mk_form]; with_reducible apply OnlyMk.intro (h0 := .inr rfl))
    | split
    | refine Only.ite ?_ ?_
    | refine OnlyOut.ite ?_ ?_

theorem only_execKeyUnload (s : State) : OnlyOut [.regs, .hfe, .wc, .cip] s (execKeyUnload s) := by
  unfold execKeyUnload
  try dsimp only
  repeat' first
    | exact (rfl : (_ : Bool) = _)
    | with_reducible exact Only.refl
    | with_reducible refine OnlyOut.next ?_
    | with_reducible refine OnlyOut.ite ?_ ?_
    | with_reducible refine Only.ite ?_ ?_
    | with_reducible apply Only.step (only_State_dropKeys ..)
    | with_reducible apply Only.step (only_State_keyDone ..)
    | with_reducible apply Only.step (only_State_setFld ..)
    | with_reducible apply Only.step (only_State_showContexts ..)
    | split
    | refine Only.ite ?_ ?_
    | refine OnlyOut.ite ?_ ?_

theorem only_execKeyZeroizeAll (s : State) : OnlyOut [.regs, .hfe, .wc, .cip] s (execKeyZeroizeAll s) := by
  unfold execKeyZeroizeAll
  try dsimp only
  repeat' first
    | exact (rfl : (_ : Bool) = _)
    | with_reducible exact Only.refl
    | with_reducible refine OnlyOut.next ?_
    | with_reducible refine OnlyOut.ite ?_ ?_
    | with_reducible refine Only.ite ?_ ?_
    | with_reducible apply Only.step (only_State_keyDone ..)
    | with_reducible apply Only.step (only_State_zeroize ..)
    | split
    | refine Only.ite ?_ ?_
    | refine OnlyOut.ite ?_ ?_

theorem only_execTrngRestart (s : State) : OnlyOut [.regs] s (execTrngRestart s) := by
  unfold execTrngRestart
  try dsimp only
  repeat' first
    | exact (rfl : (_ : Bool) = _)
    | with_reducible exact Only.refl
    | with_reducible refine OnlyOut.next ?_
    | with_reducible refine OnlyOut.ite ?_ ?_
    | with_reducible refine Only.ite ?_ ?_
    | with_reducible apply Only.step (only_State_keyDone ..)
    | with_reducible apply Only.step (only_State_setBit ..)
    | with_reducible apply Only.step (only_State_setPool ..)
    | split
    | refine Only.ite ?_ ?_
    | refine OnlyOut.ite ?_ ?_

theorem only_execTamperRelease (iface : Iface) (active : Nat) (s : State) : OnlyOut [.regs, .evr] s (execTamperRelease iface active s) := by
  unfold execTamperRelease
  try dsimp only
  repeat' first
    | exact (rfl : (_ : Bool) = _)
    | with_reducible exact Only.refl
    | with_reducible refine OnlyOut.next ?_
    | with_reducible refine OnlyOut.ite ?_ ?_
    | with_reducible refine Only.ite ?_ ?_
    | with_reducible apply Only.step (only_State_keyDone ..)
    | with_reducible apply Only.step (only_State_setBit ..)
    | with_reducible apply Only.step (only_State_setFld ..)
    | with_reducible apply Only.step (only_State_tokenChecked ..)
    | split
    | refine Only.ite ?_ ?_
    | refine OnlyOut.ite ?_ ?_

theorem only_execTamperCfgLock (value : Nat) (s : State) : OnlyOut [.regs] s (execTamperCfgLock value s) := by
  unfold execTamperCfgLock
  try dsimp only
  repeat' first
    | exact (rfl : (_ : Bool) = _)
    | with_reducible exact Only.refl
    | with_reducible refine OnlyOut.next ?_
    | with_reducible apply Only.step (only_State_tamperCfg ..)

theorem only_execCipherMessageStart (pick : Cls) (remaining : List Nat) (s : State) : OnlyOut [.regs, .cip] s (execCipherMessageStart pick remaining s) := by
  unfold execCipherMessageStart
  try dsimp only
  repeat' first
    | exact (rfl : (_ : Bool) = _)
    | exact Or.inl (by decide)
    | with_reducible exact Or.inr rfl
    | with_reducible exact Only.refl
    | with_reducible assumption
    | with_reducible refine OnlyOut.next ?_
    | with_reducible refine OnlyOut.ite ?_ ?_
    | with_reducible refine Only.ite ?_ ?_
    | with_reducible apply Only.step (only_State_incFld ..)
    | with_reducible apply Only.step (only_State_putPipe ..)
    | with_reducible apply Only.step (only_State_showContexts ..)
    | (dsimp only [Only.mk_form]; with_reducible apply OnlyMk.intro (h0 := .inr rfl))
    | split
    | dsimp only
    | refine Only.ite ?_ ?_
    | refine OnlyOut.ite ?_ ?_

theorem only_State_decrypted (s : State) (key : Nat) (m : CMsg) : Only [.regs, .evr, .hfe, .wc, .rbe, .cip, .ports, .capo] s (State.decrypted s key m) := by
  unfold State.decrypted
  try dsimp only
  repeat' first
    | exact (rfl : (_ : Bool) = _)
    | exact Or.inl (by decide)
    | with_reducible exact Or.inr rfl
    | with_reducible exact Only.refl
    | with_reducible assumption
    | with_reducible refine Only.ite ?_ ?_
    | with_reducible apply Only.step (only_State_fillClean ..)
    | with_reducible apply Only.step (only_State_incFld ..)
    | with_reducible apply Only.step (only_State_mediaErr ..)
    | with_reducible apply Only.step (only_State_readFinish ..)
    | with_reducible apply Only.step (only_State_setRead ..)
    | with_reducible apply Only.step (only_State_solveSector ..)
    | with_reducible apply Only.step (only_State_stampCmd ..)
    | with_reducible apply Only.step (only_State_writeSec ..)
    | (dsimp only [Only.mk_form]; with_reducible apply OnlyMk.intro (h0 := .inr rfl))
    | split
    | dsimp only
    | refine Only.ite ?_ ?_

theorem only_execCipherMessageDone (pipe : Fin 16) (s : State) : OnlyOut [.regs, .evr, .hfe, .wc, .rbe, .cip, .ports, .capo] s (execCipherMessageDone pipe s) := by
  unfold execCipherMessageDone
  try dsimp only
  repeat' first
    | exact (rfl : (_ : Bool) = _)
    | exact Or.inl (by decide)
    | with_reducible exact Or.inr rfl
    | with_reducible exact Only.refl
    | with_reducible assumption
    | with_reducible refine OnlyOut.next ?_
    | with_reducible refine OnlyOut.ite ?_ ?_
    | with_reducible refine Only.ite ?_ ?_
    | with_reducible apply Only.step (only_State_decrypted ..)
    | with_reducible apply Only.step (only_State_incFld ..)
    | with_reducible apply Only.step (only_State_noteLimit ..)
    | with_reducible apply Only.step (only_State_place ..)
    | (dsimp only [Only.mk_form]; with_reducible apply OnlyMk.intro (h0 := .inr rfl))
    | split
    | refine Only.ite ?_ ?_
    | refine OnlyOut.ite ?_ ?_

theorem only_execNonceMarkAck (nsid : Nat) (s : State) : OnlyOut [.freeIx, .regs, .evr, .hfe, .cip, .capo] s (execNonceMarkAck nsid s) := by
  unfold execNonceMarkAck
  try dsimp only
  repeat' first
    | exact (rfl : (_ : Bool) = _)
    | exact Or.inl (by decide)
    | with_reducible exact Or.inr rfl
    | with_reducible exact Only.refl
    | with_reducible assumption
    | with_reducible refine OnlyOut.next ?_
    | with_reducible refine OnlyOut.ite ?_ ?_
    | with_reducible refine Only.ite ?_ ?_
    | with_reducible apply Only.step (only_State_encrypt ..)
    | with_reducible refine Only.foldl (fun _ _ _ => ?_) ?_
    | (dsimp only [Only.mk_form]; with_reducible apply OnlyMk.intro (h0 := .inr rfl))
    | split
    | dsimp only
    | refine Only.ite ?_ ?_
    | refine OnlyOut.ite ?_ ?_

theorem only_execTrngStartupDone (ok : Bool) (s : State) : OnlyOut [.regs] s (execTrngStartupDone ok s) := by
  unfold execTrngStartupDone
  try dsimp only
  repeat' first
    | exact (rfl : (_ : Bool) = _)
    | with_reducible exact Only.refl
    | with_reducible refine OnlyOut.next ?_
    | with_reducible refine OnlyOut.ite ?_ ?_
    | with_reducible refine Only.ite ?_ ?_
    | with_reducible apply Only.step (only_State_setBit ..)
    | with_reducible apply Only.step (only_State_setPool ..)
    | split
    | refine Only.ite ?_ ?_
    | refine OnlyOut.ite ?_ ?_

theorem only_execTrngBlockReady (s : State) : OnlyOut [.freeIx, .regs, .evr, .hfe, .cip, .capo] s (execTrngBlockReady s) := by
  unfold execTrngBlockReady
  try dsimp only
  repeat' first
    | exact (rfl : (_ : Bool) = _)
    | exact Or.inl (by decide)
    | with_reducible exact Or.inr rfl
    | with_reducible exact Only.refl
    | with_reducible assumption
    | with_reducible refine OnlyOut.next ?_
    | with_reducible refine OnlyOut.ite ?_ ?_
    | with_reducible refine Only.ite ?_ ?_
    | with_reducible apply Only.step (only_State_encrypt ..)
    | with_reducible apply Only.step (only_State_setPool ..)
    | (dsimp only [Only.mk_form]; with_reducible apply OnlyMk.intro (h0 := .inr rfl))
    | split
    | refine Only.ite ?_ ?_
    | refine OnlyOut.ite ?_ ?_

theorem only_execTrngHealthFail (apt : Bool) (s : State) : OnlyOut [.regs, .evr, .hfe, .cip] s (execTrngHealthFail apt s) := by
  unfold execTrngHealthFail
  try dsimp only
  repeat' first
    | exact (rfl : (_ : Bool) = _)
    | exact Or.inl (by decide)
    | with_reducible exact Or.inr rfl
    | with_reducible exact Only.refl
    | with_reducible assumption
    | with_reducible refine OnlyOut.next ?_
    | with_reducible refine OnlyOut.ite ?_ ?_
    | with_reducible refine Only.ite ?_ ?_
    | with_reducible apply Only.step (only_State_emit ..)
    | with_reducible apply Only.step (only_State_entropyFail ..)
    | with_reducible apply Only.step (only_State_satFld ..)
    | with_reducible apply Only.step (only_State_setBit ..)
    | with_reducible apply Only.step (only_State_setPool ..)
    | with_reducible refine Only.foldl (fun _ _ _ => ?_) ?_
    | (dsimp only [Only.mk_form]; with_reducible apply OnlyMk.intro (h0 := .inr rfl))
    | split
    | refine Only.ite ?_ ?_
    | refine OnlyOut.ite ?_ ?_

theorem only_execEntropyTimeout (tag : Nat) (s : State) : OnlyOut [.regs, .hfe, .cip] s (execEntropyTimeout tag s) := by
  unfold execEntropyTimeout
  try dsimp only
  repeat' first
    | exact (rfl : (_ : Bool) = _)
    | with_reducible exact Only.refl
    | with_reducible refine OnlyOut.next ?_
    | with_reducible apply Only.step (only_State_entropyFail ..)

theorem only_execTamperTrip (src : Fin 8) (active : Nat) (s : State) : OnlyOut [.regs, .pwr, .evr, .hfe, .wc, .cip] s (execTamperTrip src active s) := by
  unfold execTamperTrip
  try dsimp only
  repeat' first
    | exact (rfl : (_ : Bool) = _)
    | exact Or.inl (by decide)
    | with_reducible exact Or.inr rfl
    | with_reducible exact Only.refl
    | with_reducible refine OnlyOut.next ?_
    | with_reducible refine OnlyOut.ite ?_ ?_
    | with_reducible refine Only.ite ?_ ?_
    | with_reducible apply Only.step (only_State_emit ..)
    | with_reducible apply Only.step (only_State_enterTamperHold ..)
    | with_reducible apply Only.step (only_State_setBit ..)
    | with_reducible apply Only.step (only_State_setFld ..)
    | with_reducible apply Only.step (only_State_zeroize ..)
    | (dsimp only [Only.mk_form]; with_reducible apply OnlyMk.intro (h0 := .inr rfl))
    | split
    | refine Only.ite ?_ ?_
    | refine OnlyOut.ite ?_ ?_


/-! ### Machine/Images.lean -/

theorem only_State_setStage (s : State) (v : Nat) : Only [.regs] s (State.setStage s v) := by
  unfold State.setStage
  try dsimp only
  repeat' first
    | exact (rfl : (_ : Bool) = _)
    | with_reducible exact Only.refl
    | with_reducible apply Only.step (only_State_setFld ..)

theorem only_State_stageError (s : State) (e : Nat) : Only [.regs] s (State.stageError s e) := by
  unfold State.stageError
  try dsimp only
  repeat' first
    | exact (rfl : (_ : Bool) = _)
    | with_reducible exact Only.refl
    | with_reducible apply Only.step (only_State_setFld ..)

theorem only_State_stageIdle (s : State) : Only [.regs, .img] s (State.stageIdle s) := by
  unfold State.stageIdle
  try dsimp only
  repeat' first
    | exact (rfl : (_ : Bool) = _)
    | exact Or.inl (by decide)
    | with_reducible exact Or.inr rfl
    | with_reducible exact Only.refl
    | with_reducible apply Only.step (only_State_setBit ..)
    | with_reducible apply Only.step (only_State_setFld ..)
    | with_reducible apply Only.step (only_State_setStage ..)
    | (dsimp only [Only.mk_form]; with_reducible apply OnlyMk.intro (h0 := .inr rfl))

theorem only_execStageOpen (iface : Iface) (s : State) : OnlyOut [.regs, .img] s (execStageOpen iface s) := by
  unfold execStageOpen
  try dsimp only
  repeat' first
    | exact (rfl : (_ : Bool) = _)
    | exact Or.inl (by decide)
    | with_reducible exact Or.inr rfl
    | with_reducible exact Only.refl
    | with_reducible refine OnlyOut.next ?_
    | with_reducible refine OnlyOut.ite ?_ ?_
    | with_reducible refine Only.ite ?_ ?_
    | with_reducible apply Only.step (only_State_setFld ..)
    | with_reducible apply Only.step (only_State_setStage ..)
    | with_reducible apply Only.step (only_State_stageError ..)
    | (dsimp only [Only.mk_form]; with_reducible apply OnlyMk.intro (h0 := .inr rfl))
    | split
    | refine Only.ite ?_ ?_
    | refine OnlyOut.ite ?_ ?_

theorem only_execStageVerify (iface : Iface) (facts : ImgFacts) (s : State) : OnlyOut [.regs, .img] s (execStageVerify iface facts s) := by
  unfold execStageVerify
  try dsimp only
  repeat' first
    | exact (rfl : (_ : Bool) = _)
    | exact Or.inl (by decide)
    | with_reducible exact Or.inr rfl
    | with_reducible exact Only.refl
    | with_reducible assumption
    | with_reducible refine OnlyOut.next ?_
    | with_reducible refine OnlyOut.ite ?_ ?_
    | with_reducible refine Only.ite ?_ ?_
    | with_reducible apply Only.step (only_State_setFld ..)
    | with_reducible apply Only.step (only_State_setStage ..)
    | with_reducible apply Only.step (only_State_stageError ..)
    | (dsimp only [Only.mk_form]; with_reducible apply OnlyMk.intro (h0 := .inr rfl))
    | split
    | dsimp only
    | refine Only.ite ?_ ?_
    | refine OnlyOut.ite ?_ ?_

theorem only_execStageCommit (iface : Iface) (s : State) : OnlyOut [.regs, .img] s (execStageCommit iface s) := by
  unfold execStageCommit
  try dsimp only
  repeat' first
    | exact (rfl : (_ : Bool) = _)
    | with_reducible exact Only.refl
    | with_reducible refine OnlyOut.next ?_
    | with_reducible refine OnlyOut.ite ?_ ?_
    | with_reducible refine Only.ite ?_ ?_
    | with_reducible apply Only.step (only_State_setBit ..)
    | with_reducible apply Only.step (only_State_setCopy ..)
    | with_reducible apply Only.step (only_State_setStage ..)
    | with_reducible apply Only.step (only_State_showCopies ..)
    | with_reducible apply Only.step (only_State_stageError ..)
    | split
    | refine Only.ite ?_ ?_
    | refine OnlyOut.ite ?_ ?_

theorem only_execCommitComplete (ok : Bool) (s : State) : OnlyOut [.regs, .img] s (execCommitComplete ok s) := by
  unfold execCommitComplete
  try dsimp only
  repeat' first
    | exact (rfl : (_ : Bool) = _)
    | exact Or.inl (by decide)
    | with_reducible exact Or.inr rfl
    | with_reducible exact Only.refl
    | with_reducible assumption
    | with_reducible refine OnlyOut.next ?_
    | with_reducible refine OnlyOut.ite ?_ ?_
    | with_reducible refine Only.ite ?_ ?_
    | with_reducible apply Only.step (only_State_setBit ..)
    | with_reducible apply Only.step (only_State_setCopy ..)
    | with_reducible apply Only.step (only_State_setStage ..)
    | with_reducible apply Only.step (only_State_showCopies ..)
    | with_reducible apply Only.step (only_State_stageError ..)
    | (dsimp only [Only.mk_form]; with_reducible apply OnlyMk.intro (h0 := .inr rfl))
    | split
    | refine Only.ite ?_ ?_
    | refine OnlyOut.ite ?_ ?_

theorem only_execActivateLive (iface : Iface) (s : State) : OnlyOut [.freeIx, .regs, .evr, .img, .cal, .hfe, .wc, .rbe, .ports, .fed, .fans] s (execActivateLive iface s) := by
  unfold execActivateLive
  try dsimp only
  repeat' first
    | exact (rfl : (_ : Bool) = _)
    | exact Or.inl (by decide)
    | with_reducible exact Or.inr rfl
    | with_reducible exact Only.refl
    | with_reducible assumption
    | with_reducible refine OnlyOut.next ?_
    | with_reducible refine OnlyOut.ite ?_ ?_
    | with_reducible refine Only.ite ?_ ?_
    | with_reducible apply Only.step (only_State_applyLive ..)
    | with_reducible apply Only.step (only_State_computeEnergy ..)
    | with_reducible apply Only.step (only_State_recomputeLimit ..)
    | with_reducible apply Only.step (only_State_setStage ..)
    | with_reducible apply Only.step (only_State_showRewrite ..)
    | with_reducible apply Only.step (only_State_stageError ..)
    | with_reducible apply Only.step (only_State_startFed ..)
    | with_reducible apply Only.step (only_State_updateFans ..)
    | (dsimp only [Only.mk_form]; with_reducible apply OnlyMk.intro (h0 := .inr rfl))
    | split
    | refine Only.ite ?_ ?_
    | refine OnlyOut.ite ?_ ?_

theorem only_execActivateReset (iface : Iface) (s : State) : OnlyOut [.regs, .pwr, .wc] s (execActivateReset iface s) := by
  unfold execActivateReset
  try dsimp only
  repeat' first
    | exact (rfl : (_ : Bool) = _)
    | exact Or.inl (by decide)
    | with_reducible exact Or.inr rfl
    | with_reducible exact Only.refl
    | with_reducible assumption
    | with_reducible refine OnlyOut.next ?_
    | with_reducible refine OnlyOut.ite ?_ ?_
    | with_reducible refine Only.ite ?_ ?_
    | with_reducible apply Only.step (only_State_hold ..)
    | with_reducible apply Only.step (only_State_setBit ..)
    | with_reducible apply Only.step (only_State_setStage ..)
    | with_reducible apply Only.step (only_State_stageError ..)
    | (dsimp only [Only.mk_form]; with_reducible apply OnlyMk.intro (h0 := .inr rfl))
    | split
    | dsimp only
    | refine Only.ite ?_ ?_
    | refine OnlyOut.ite ?_ ?_

theorem only_execActivateResetDestaged (s : State) : OnlyOut [.freeIx, .regs, .latches, .heldLo, .pwr, .err, .img, .map, .hfe, .lat, .wc, .rbe, .sc, .dma, .cip, .ports, .capo, .fed] s (execActivateResetDestaged s) := by
  unfold execActivateResetDestaged
  try dsimp only
  repeat' first
    | exact (rfl : (_ : Bool) = _)
    | exact Or.inl (by decide)
    | with_reducible exact Or.inr rfl
    | with_reducible exact Only.refl
    | with_reducible refine OnlyOut.next ?_
    | with_reducible refine OnlyOut.ite ?_ ?_
    | with_reducible refine Only.ite ?_ ?_
    | with_reducible apply Only.step (only_State_fastReset ..)
    | with_reducible apply Only.step (only_State_setBit ..)
    | with_reducible apply Only.step (only_State_startBoot ..)
    | (dsimp only [Only.mk_form]; with_reducible apply OnlyMk.intro (h0 := .inr rfl))
    | split
    | refine Only.ite ?_ ?_
    | refine OnlyOut.ite ?_ ?_

theorem only_execStageAbort (iface : Iface) (s : State) : OnlyOut [.regs, .img] s (execStageAbort iface s) := by
  unfold execStageAbort
  try dsimp only
  repeat' first
    | exact (rfl : (_ : Bool) = _)
    | exact Or.inl (by decide)
    | with_reducible exact Or.inr rfl
    | with_reducible exact Only.refl
    | with_reducible assumption
    | with_reducible refine OnlyOut.next ?_
    | with_reducible refine OnlyOut.ite ?_ ?_
    | with_reducible refine Only.ite ?_ ?_
    | with_reducible apply Only.step (only_State_setCopy ..)
    | with_reducible apply Only.step (only_State_showCopies ..)
    | with_reducible apply Only.step (only_State_stageError ..)
    | with_reducible apply Only.step (only_State_stageIdle ..)
    | (dsimp only [Only.mk_form]; with_reducible apply OnlyMk.intro (h0 := .inr rfl))
    | split
    | refine Only.ite ?_ ?_
    | refine OnlyOut.ite ?_ ?_

theorem only_State_selectCopy (s : State) (iface : Iface) (op src : Nat) : Only [.regs, .evr, .img] s (State.selectCopy s iface op src) := by
  unfold State.selectCopy
  try dsimp only
  repeat' first
    | exact (rfl : (_ : Bool) = _)
    | with_reducible exact Only.refl
    | with_reducible refine Only.ite ?_ ?_
    | with_reducible apply Only.step (only_State_emit ..)
    | with_reducible apply Only.step (only_State_setCopy ..)
    | with_reducible apply Only.step (only_State_showCopies ..)
    | with_reducible apply Only.step (only_State_stageError ..)
    | with_reducible apply Only.step (only_State_tokenChecked ..)
    | split
    | refine Only.ite ?_ ?_

theorem only_execSelectCopyA (iface : Iface) (s : State) : OnlyOut [.regs, .evr, .img] s (execSelectCopyA iface s) := by
  unfold execSelectCopyA
  try dsimp only
  repeat' first
    | exact (rfl : (_ : Bool) = _)
    | with_reducible exact Only.refl
    | with_reducible refine OnlyOut.next ?_
    | with_reducible apply Only.step (only_State_selectCopy ..)

theorem only_execSelectCopyB (iface : Iface) (s : State) : OnlyOut [.regs, .evr, .img] s (execSelectCopyB iface s) := by
  unfold execSelectCopyB
  try dsimp only
  repeat' first
    | exact (rfl : (_ : Bool) = _)
    | with_reducible exact Only.refl
    | with_reducible refine OnlyOut.next ?_
    | with_reducible apply Only.step (only_State_selectCopy ..)

theorem only_State_showKeys (s : State) : Only [.regs] s (State.showKeys s) := by
  unfold State.showKeys
  try dsimp only
  repeat' first
    | exact (rfl : (_ : Bool) = _)
    | with_reducible exact Only.refl
    | with_reducible apply Only.step (only_State_setFld ..)

theorem only_execSigningKeyEnrol (iface : Iface) (st : KeyStatement) (s : State) : OnlyOut [.regs, .evr, .img] s (execSigningKeyEnrol iface st s) := by
  unfold execSigningKeyEnrol
  try dsimp only
  repeat' first
    | exact (rfl : (_ : Bool) = _)
    | exact Or.inl (by decide)
    | with_reducible exact Or.inr rfl
    | with_reducible exact Only.refl
    | with_reducible assumption
    | with_reducible refine OnlyOut.next ?_
    | with_reducible refine OnlyOut.ite ?_ ?_
    | with_reducible refine Only.ite ?_ ?_
    | with_reducible apply Only.step (only_State_showCopies ..)
    | with_reducible apply Only.step (only_State_showKeys ..)
    | with_reducible apply Only.step (only_State_stageError ..)
    | with_reducible apply Only.step (only_State_tokenChecked ..)
    | (dsimp only [Only.mk_form]; with_reducible apply OnlyMk.intro (h0 := .inr rfl))
    | split
    | dsimp only
    | refine Only.ite ?_ ?_
    | refine OnlyOut.ite ?_ ?_

theorem only_execSigningKeyRevoke (iface : Iface) (st : KeyStatement) (s : State) : OnlyOut [.regs, .evr, .img] s (execSigningKeyRevoke iface st s) := by
  unfold execSigningKeyRevoke
  try dsimp only
  repeat' first
    | exact (rfl : (_ : Bool) = _)
    | exact Or.inl (by decide)
    | with_reducible exact Or.inr rfl
    | with_reducible exact Only.refl
    | with_reducible assumption
    | with_reducible refine OnlyOut.next ?_
    | with_reducible refine OnlyOut.ite ?_ ?_
    | with_reducible refine Only.ite ?_ ?_
    | with_reducible apply Only.step (only_State_showCopies ..)
    | with_reducible apply Only.step (only_State_showKeys ..)
    | with_reducible apply Only.step (only_State_stageError ..)
    | with_reducible apply Only.step (only_State_tokenChecked ..)
    | (dsimp only [Only.mk_form]; with_reducible apply OnlyMk.intro (h0 := .inr rfl))
    | split
    | refine Only.ite ?_ ?_
    | refine OnlyOut.ite ?_ ?_

theorem only_execImageCopyRewrite (copy : Fin 3) (ok : Bool) (s : State) : OnlyOut [.regs, .evr, .img] s (execImageCopyRewrite copy ok s) := by
  unfold execImageCopyRewrite
  try dsimp only
  repeat' first
    | exact (rfl : (_ : Bool) = _)
    | exact Or.inl (by decide)
    | with_reducible exact Or.inr rfl
    | with_reducible exact Only.refl
    | with_reducible assumption
    | with_reducible refine OnlyOut.next ?_
    | with_reducible refine OnlyOut.ite ?_ ?_
    | with_reducible refine Only.ite ?_ ?_
    | with_reducible apply Only.step (only_State_emit ..)
    | with_reducible apply Only.step (only_State_setCopy ..)
    | with_reducible apply Only.step (only_State_showCopies ..)
    | with_reducible apply Only.step (only_State_showRewrite ..)
    | with_reducible apply Only.step (only_State_stageIdle ..)
    | (dsimp only [Only.mk_form]; with_reducible apply OnlyMk.intro (h0 := .inr rfl))
    | split
    | refine Only.ite ?_ ?_
    | refine OnlyOut.ite ?_ ?_


end Sys2Proof.Machine
end

