-- ==== Sys2Proof/Laws/OnlyHigh.lean ====
section
/-!
SUPPORT. Laws/OnlyHigh.lean: for each operation of StripeCache, Errors, Rebuild, Dma, Ports, Fed, EventLog, CmdRegs, HostIo, Power, RegAccess, Thermal (in Machine/),
the parts of the state that it may change.
-/
set_option linter.unreachableTactic false
set_option linter.unusedTactic false
namespace Sys2Proof.Machine

/-! ### Machine/StripeCache.lean -/

theorem only_State_scAccept (s : State) (w : ScWait) : Only [.regs, .sc] s (State.scAccept s w) := by
  unfold State.scAccept
  try dsimp only
  repeat' first
    | exact (rfl : (_ : Bool) = _)
    | exact Or.inl (by decide)
    | with_reducible exact Or.inr rfl
    | with_reducible exact Only.refl
    | with_reducible refine Only.ite ?_ ?_
    | with_reducible apply Only.step (only_State_scServe ..)
    | with_reducible apply Only.step (only_State_withSc ..)
    | (dsimp only [Only.mk_form]; with_reducible apply OnlyMk.intro (h0 := .inr rfl))
    | split
    | refine Only.ite ?_ ?_

theorem only_execScReadRequest (req : Fin 8) (line word : Nat) (s : State) : OnlyOut [.regs, .sc] s (execScReadRequest req line word s) := by
  unfold execScReadRequest
  try dsimp only
  repeat' first
    | exact (rfl : (_ : Bool) = _)
    | with_reducible exact Only.refl
    | with_reducible refine OnlyOut.next ?_
    | with_reducible apply Only.step (only_State_scAccept ..)

theorem only_execScFillReturn (line : Nat) (ok : Bool) (s : State) : OnlyOut [.regs, .sc] s (execScFillReturn line ok s) := by
  unfold execScFillReturn
  try dsimp only
  repeat' first
    | exact (rfl : (_ : Bool) = _)
    | exact Or.inl (by decide)
    | with_reducible exact Or.inr rfl
    | with_reducible exact Only.refl
    | with_reducible assumption
    | with_reducible refine OnlyOut.next ?_
    | with_reducible refine OnlyOut.ite ?_ ?_
    | with_reducible refine Only.ite ?_ ?_
    | with_reducible apply Only.step (only_State_incFld ..)
    | with_reducible apply Only.step (only_State_scInstall ..)
    | with_reducible apply Only.step (only_State_withSc ..)
    | (dsimp only [Only.mk_form]; with_reducible apply OnlyMk.intro (h0 := .inr rfl))
    | split
    | dsimp only
    | refine Only.ite ?_ ?_
    | refine OnlyOut.ite ?_ ?_
    | refine Only.step (Only.ofFst (only_State_scInstall _ _ _ _) (by with_reducible assumption)) (by decide) ?_

theorem only_execScWriteRequest (req : Fin 8) (line mask : Nat) (data : Blob) (s : State) : OnlyOut [.regs, .sc] s (execScWriteRequest req line mask data s) := by
  unfold execScWriteRequest
  try dsimp only
  repeat' first
    | exact (rfl : (_ : Bool) = _)
    | with_reducible exact Only.refl
    | with_reducible refine OnlyOut.next ?_
    | with_reducible apply Only.step (only_State_scAccept ..)

theorem only_execMergeBufferDrain (line : Nat) (s : State) : OnlyOut [.regs, .sc] s (execMergeBufferDrain line s) := by
  unfold execMergeBufferDrain
  try dsimp only
  repeat' first
    | exact (rfl : (_ : Bool) = _)
    | with_reducible exact Only.refl
    | with_reducible refine OnlyOut.next ?_
    | with_reducible apply Only.step (only_State_scDrain ..)

theorem only_execHbmWriteAck (line : Nat) (s : State) : OnlyOut [.regs, .rbe, .sc, .ports] s (execHbmWriteAck line s) := by
  unfold execHbmWriteAck
  try dsimp only
  repeat' first
    | exact (rfl : (_ : Bool) = _)
    | exact Or.inl (by decide)
    | with_reducible exact Or.inr rfl
    | with_reducible exact Only.refl
    | with_reducible assumption
    | with_reducible refine OnlyOut.next ?_
    | with_reducible apply Only.step (only_State_withSc ..)
    | with_reducible apply Only.step (only_State_written ..)
    | (dsimp only [Only.mk_form]; with_reducible apply OnlyMk.intro (h0 := .inr rfl))
    | split
    | dsimp only

theorem only_execEvictionBufferExpiry (slice : SliceId) (s : State) : OnlyOut [.sc] s (execEvictionBufferExpiry slice s) := by
  unfold execEvictionBufferExpiry
  try dsimp only
  repeat' first
    | exact (rfl : (_ : Bool) = _)
    | exact Or.inl (by decide)
    | with_reducible exact Or.inr rfl
    | with_reducible exact Only.refl
    | with_reducible refine OnlyOut.next ?_
    | with_reducible refine OnlyOut.ite ?_ ?_
    | with_reducible refine Only.ite ?_ ?_
    | with_reducible apply Only.step (only_State_withSc ..)
    | (dsimp only [Only.mk_form]; with_reducible apply OnlyMk.intro (h0 := .inr rfl))
    | split
    | refine Only.ite ?_ ?_
    | refine OnlyOut.ite ?_ ?_

theorem only_execOwnershipRequest (pqs : List (Fin 4)) (line : Nat) (s : State) : OnlyOut [.regs, .sc] s (execOwnershipRequest pqs line s) := by
  unfold execOwnershipRequest
  try dsimp only
  repeat' first
    | exact (rfl : (_ : Bool) = _)
    | with_reducible exact Only.refl
    | with_reducible refine OnlyOut.next ?_
    | with_reducible apply Only.step (only_State_scOwn ..)

theorem only_execRecallWriteBack (line : Nat) (data : Blob) (s : State) : OnlyOut [.regs, .sc] s (execRecallWriteBack line data s) := by
  unfold execRecallWriteBack
  try dsimp only
  repeat' first
    | exact (rfl : (_ : Bool) = _)
    | exact Or.inl (by decide)
    | with_reducible exact Or.inr rfl
    | with_reducible exact Only.refl
    | with_reducible assumption
    | with_reducible refine OnlyOut.next ?_
    | with_reducible refine OnlyOut.ite ?_ ?_
    | with_reducible refine Only.ite ?_ ?_
    | with_reducible apply Only.step (only_State_scServe ..)
    | with_reducible apply Only.step (only_State_scWrite ..)
    | with_reducible apply Only.step (only_State_withSc ..)
    | with_reducible refine Only.foldl (fun _ _ _ => ?_) ?_
    | (dsimp only [Only.mk_form]; with_reducible apply OnlyMk.intro (h0 := .inr rfl))
    | split
    | dsimp only
    | refine Only.ite ?_ ?_
    | refine OnlyOut.ite ?_ ?_

theorem only_execRetryReissue (pq : Fin 4) (line : Nat) (s : State) : OnlyOut [.regs, .sc] s (execRetryReissue pq line s) := by
  unfold execRetryReissue
  try dsimp only
  repeat' first
    | exact (rfl : (_ : Bool) = _)
    | with_reducible exact Only.refl
    | with_reducible refine OnlyOut.next ?_
    | with_reducible refine OnlyOut.ite ?_ ?_
    | with_reducible refine Only.ite ?_ ?_
    | with_reducible apply Only.step (only_State_scOwn ..)
    | split
    | refine Only.ite ?_ ?_
    | refine OnlyOut.ite ?_ ?_

theorem only_State_scMaintLine (s : State) (op line : Nat) : Only [.regs, .sc] s (State.scMaintLine s op line) := by
  unfold State.scMaintLine
  try dsimp only
  repeat' first
    | exact (rfl : (_ : Bool) = _)
    | exact Or.inl (by decide)
    | with_reducible exact Or.inr rfl
    | with_reducible exact Only.refl
    | with_reducible assumption
    | with_reducible refine Only.ite ?_ ?_
    | with_reducible apply Only.step (only_State_scDrain ..)
    | with_reducible apply Only.step (only_State_scRecall ..)
    | (dsimp only [Only.mk_form]; with_reducible apply OnlyMk.intro (h0 := .inr rfl))
    | split
    | refine Only.ite ?_ ?_

theorem only_State_scMaint (s : State) (op : Nat) (byWay : Bool) : Only [.regs, .sc] s (State.scMaint s op byWay) := by
  unfold State.scMaint
  try dsimp only
  repeat' first
    | exact (rfl : (_ : Bool) = _)
    | exact Or.inl (by decide)
    | with_reducible exact Or.inr rfl
    | with_reducible exact Only.refl
    | with_reducible refine Only.ite ?_ ?_
    | with_reducible apply Only.step (only_State_scMaintLine ..)
    | with_reducible apply Only.step (only_State_setBit ..)
    | with_reducible apply Only.step (only_State_withSc ..)
    | (dsimp only [Only.mk_form]; with_reducible apply OnlyMk.intro (h0 := .inr rfl))
    | split
    | refine Only.ite ?_ ?_

theorem only_execScMaintClean (byWay : Bool) (s : State) : OnlyOut [.freeIx, .regs, .evr, .sc] s (execScMaintClean byWay s) := by
  unfold execScMaintClean
  try dsimp only
  repeat' first
    | exact (rfl : (_ : Bool) = _)
    | with_reducible exact Only.refl
    | with_reducible refine OnlyOut.next ?_
    | with_reducible refine OnlyOut.command ⟨rfl, rfl, rfl⟩ Only.refl ?_
    | with_reducible apply Only.step (only_State_scMaint ..)

theorem only_execScMaintInvalidate (byWay : Bool) (s : State) : OnlyOut [.freeIx, .regs, .evr, .sc] s (execScMaintInvalidate byWay s) := by
  unfold execScMaintInvalidate
  try dsimp only
  repeat' first
    | exact (rfl : (_ : Bool) = _)
    | with_reducible exact Only.refl
    | with_reducible refine OnlyOut.next ?_
    | with_reducible refine OnlyOut.command ⟨rfl, rfl, rfl⟩ Only.refl ?_
    | with_reducible apply Only.step (only_State_scMaint ..)

theorem only_execScMaintCleanInvalidate (byWay : Bool) (s : State) : OnlyOut [.freeIx, .regs, .evr, .sc] s (execScMaintCleanInvalidate byWay s) := by
  unfold execScMaintCleanInvalidate
  try dsimp only
  repeat' first
    | exact (rfl : (_ : Bool) = _)
    | with_reducible exact Only.refl
    | with_reducible refine OnlyOut.next ?_
    | with_reducible refine OnlyOut.command ⟨rfl, rfl, rfl⟩ Only.refl ?_
    | with_reducible apply Only.step (only_State_scMaint ..)

theorem only_execScMaintDone (s : State) : OnlyOut [.regs, .sc] s (execScMaintDone s) := by
  unfold execScMaintDone
  try dsimp only
  repeat' first
    | exact (rfl : (_ : Bool) = _)
    | exact Or.inl (by decide)
    | with_reducible exact Or.inr rfl
    | with_reducible exact Only.refl
    | with_reducible assumption
    | with_reducible refine OnlyOut.next ?_
    | with_reducible refine OnlyOut.ite ?_ ?_
    | with_reducible refine Only.ite ?_ ?_
    | with_reducible apply Only.step (only_State_setBit ..)
    | with_reducible apply Only.step (only_State_withSc ..)
    | (dsimp only [Only.mk_form]; with_reducible apply OnlyMk.intro (h0 := .inr rfl))
    | split
    | refine Only.ite ?_ ?_
    | refine OnlyOut.ite ?_ ?_

theorem only_State_scRange (s : State) (op : Nat) : Only [.regs, .sc] s (State.scRange s op) := by
  unfold State.scRange
  try dsimp only
  repeat' first
    | exact (rfl : (_ : Bool) = _)
    | exact Or.inl (by decide)
    | with_reducible exact Or.inr rfl
    | with_reducible exact Only.refl
    | with_reducible assumption
    | with_reducible refine Only.ite ?_ ?_
    | with_reducible apply Only.step (only_State_scMaintLine ..)
    | with_reducible apply Only.step (only_State_scRangeErr ..)
    | with_reducible apply Only.step (only_State_setBit ..)
    | with_reducible apply Only.step (only_State_setFld ..)
    | with_reducible apply Only.step (only_State_withSc ..)
    | with_reducible refine Only.foldl (fun _ _ _ => ?_) ?_
    | with_reducible refine Only.foldlFst (fun _ _ _ => ?_) ?_
    | (dsimp only [Only.mk_form]; with_reducible apply OnlyMk.intro (h0 := .inr rfl))
    | split
    | dsimp only
    | refine Only.ite ?_ ?_

theorem only_execScRangeClean (s : State) : OnlyOut [.freeIx, .regs, .evr, .sc] s (execScRangeClean s) := by
  unfold execScRangeClean
  try dsimp only
  repeat' first
    | exact (rfl : (_ : Bool) = _)
    | with_reducible exact Only.refl
    | with_reducible refine OnlyOut.next ?_
    | with_reducible refine OnlyOut.command ⟨rfl, rfl, rfl⟩ Only.refl ?_
    | with_reducible apply Only.step (only_State_scRange ..)

theorem only_execScRangeInvalidate (s : State) : OnlyOut [.freeIx, .regs, .evr, .sc] s (execScRangeInvalidate s) := by
  unfold execScRangeInvalidate
  try dsimp only
  repeat' first
    | exact (rfl : (_ : Bool) = _)
    | with_reducible exact Only.refl
    | with_reducible refine OnlyOut.next ?_
    | with_reducible refine OnlyOut.command ⟨rfl, rfl, rfl⟩ Only.refl ?_
    | with_reducible apply Only.step (only_State_scRange ..)

theorem only_execScRangeCleanInvalidate (s : State) : OnlyOut [.freeIx, .regs, .evr, .sc] s (execScRangeCleanInvalidate s) := by
  unfold execScRangeCleanInvalidate
  try dsimp only
  repeat' first
    | exact (rfl : (_ : Bool) = _)
    | with_reducible exact Only.refl
    | with_reducible refine OnlyOut.next ?_
    | with_reducible refine OnlyOut.command ⟨rfl, rfl, rfl⟩ Only.refl ?_
    | with_reducible apply Only.step (only_State_scRange ..)

theorem only_execScPreload (s : State) : OnlyOut [.freeIx, .regs, .evr, .sc] s (execScPreload s) := by
  unfold execScPreload
  try dsimp only
  repeat' first
    | exact (rfl : (_ : Bool) = _)
    | with_reducible exact Only.refl
    | with_reducible refine OnlyOut.next ?_
    | with_reducible refine OnlyOut.command ⟨rfl, rfl, rfl⟩ Only.refl ?_
    | with_reducible apply Only.step (only_State_scRange ..)

theorem only_execScInvalidateWays (s : State) : OnlyOut [.freeIx, .regs, .evr, .sc] s (execScInvalidateWays s) := by
  unfold execScInvalidateWays
  try dsimp only
  repeat' first
    | exact (rfl : (_ : Bool) = _)
    | with_reducible exact Only.refl
    | with_reducible refine OnlyOut.next ?_
    | with_reducible refine OnlyOut.command ⟨rfl, rfl, rfl⟩ Only.refl ?_
    | with_reducible apply Only.step (only_State_scRange ..)

theorem only_State_scPreloadLine (s : State) (line : Nat) : Only [.regs, .sc] s (State.scPreloadLine s line) := by
  unfold State.scPreloadLine
  try dsimp only
  repeat' first
    | exact (rfl : (_ : Bool) = _)
    | exact Or.inl (by decide)
    | with_reducible exact Or.inr rfl
    | with_reducible exact Only.refl
    | with_reducible assumption
    | with_reducible refine Only.ite ?_ ?_
    | with_reducible apply Only.step (only_State_satFld ..)
    | with_reducible apply Only.step (only_State_scInstall ..)
    | with_reducible apply Only.step (only_State_setBit ..)
    | with_reducible apply Only.step (only_State_withSc ..)
    | (dsimp only [Only.mk_form]; with_reducible apply OnlyMk.intro (h0 := .inr rfl))
    | split
    | dsimp only
    | refine Only.ite ?_ ?_
    | refine Only.step (Only.ofFst (only_State_scInstall _ _ _ _) (by with_reducible assumption)) (by decide) ?_

theorem only_execScRangeDone (s : State) : OnlyOut [.regs, .sc] s (execScRangeDone s) := by
  unfold execScRangeDone
  try dsimp only
  repeat' first
    | exact (rfl : (_ : Bool) = _)
    | exact Or.inl (by decide)
    | with_reducible exact Or.inr rfl
    | with_reducible exact Only.refl
    | with_reducible assumption
    | with_reducible refine OnlyOut.next ?_
    | with_reducible refine OnlyOut.ite ?_ ?_
    | with_reducible refine Only.ite ?_ ?_
    | with_reducible apply Only.step (only_State_scPreloadLine ..)
    | with_reducible apply Only.step (only_State_setBit ..)
    | with_reducible apply Only.step (only_State_withSc ..)
    | with_reducible refine Only.foldl (fun _ _ _ => ?_) ?_
    | with_reducible refine Only.foldlFst (fun _ _ _ => ?_) ?_
    | with_reducible refine Only.foldlSnd (fun _ _ _ => ?_) ?_
    | (dsimp only [Only.mk_form]; with_reducible apply OnlyMk.intro (h0 := .inr rfl))
    | split
    | dsimp only
    | refine Only.ite ?_ ?_
    | refine OnlyOut.ite ?_ ?_

theorem only_execScLockWrite (ways : Nat) (s : State) : OnlyOut [.regs] s (execScLockWrite ways s) := by
  unfold execScLockWrite
  try dsimp only
  repeat' first
    | exact (rfl : (_ : Bool) = _)
    | with_reducible exact Only.refl
    | with_reducible refine OnlyOut.next ?_
    | with_reducible apply Only.step (only_State_scLock ..)

theorem only_execEvictPathSwitch (path : Bool) (s : State) : OnlyOut [.regs, .sc] s (execEvictPathSwitch path s) := by
  unfold execEvictPathSwitch
  try dsimp only
  repeat' first
    | exact (rfl : (_ : Bool) = _)
    | with_reducible exact Only.refl
    | with_reducible refine OnlyOut.next ?_
    | with_reducible apply Only.step (only_State_scEvictPath ..)

theorem only_execScInitDone (s : State) : OnlyOut [.regs, .sc] s (execScInitDone s) := by
  unfold execScInitDone
  try dsimp only
  repeat' first
    | exact (rfl : (_ : Bool) = _)
    | exact Or.inl (by decide)
    | with_reducible exact Or.inr rfl
    | with_reducible exact Only.refl
    | with_reducible assumption
    | with_reducible refine OnlyOut.next ?_
    | with_reducible apply Only.step (only_State_scServe ..)
    | with_reducible apply Only.step (only_State_setBit ..)
    | with_reducible apply Only.step (only_State_withSc ..)
    | with_reducible refine Only.foldl (fun _ _ _ => ?_) ?_
    | (dsimp only [Only.mk_form]; with_reducible apply OnlyMk.intro (h0 := .inr rfl))

theorem only_execScEccError (place : EccPlace) (corrected : Bool) (s : State) : OnlyOut [.regs, .evr, .sc] s (execScEccError place corrected s) := by
  unfold execScEccError
  try dsimp only
  repeat' first
    | exact (rfl : (_ : Bool) = _)
    | exact Or.inl (by decide)
    | with_reducible exact Or.inr rfl
    | with_reducible exact Only.refl
    | with_reducible assumption
    | with_reducible refine OnlyOut.next ?_
    | with_reducible refine OnlyOut.ite ?_ ?_
    | with_reducible refine Only.ite ?_ ?_
    | with_reducible apply Only.step (only_State_emit ..)
    | with_reducible apply Only.step (only_State_incFld ..)
    | with_reducible apply Only.step (only_State_withSc ..)
    | (dsimp only [Only.mk_form]; with_reducible apply OnlyMk.intro (h0 := .inr rfl))
    | split
    | dsimp only
    | refine Only.ite ?_ ?_
    | refine OnlyOut.ite ?_ ?_


/-! ### Machine/Errors.lean -/

theorem only_State_pushErr (s : State) (e : RecErr) (source : Nat) (fatal : Option Nat) : Only [.regs, .err] s (State.pushErr s e source fatal) := by
  unfold State.pushErr
  try dsimp only
  repeat' first
    | exact (rfl : (_ : Bool) = _)
    | exact Or.inl (by decide)
    | with_reducible exact Or.inr rfl
    | with_reducible exact Only.refl
    | with_reducible refine Only.ite ?_ ?_
    | with_reducible apply Only.step (only_State_maxFld ..)
    | (dsimp only [Only.mk_form]; with_reducible apply OnlyMk.intro (h0 := .inr rfl))
    | split
    | refine Only.ite ?_ ?_

theorem only_execRecoverableError (e : RecErr) (source : Nat) (s : State) : OnlyOut [.regs, .evr, .err] s (execRecoverableError e source s) := by
  unfold execRecoverableError
  try dsimp only
  repeat' first
    | exact (rfl : (_ : Bool) = _)
    | exact Or.inl (by decide)
    | with_reducible exact Or.inr rfl
    | with_reducible exact Only.refl
    | with_reducible refine OnlyOut.next ?_
    | with_reducible refine OnlyOut.ite ?_ ?_
    | with_reducible refine Only.ite ?_ ?_
    | with_reducible apply Only.step (only_State_emit ..)
    | with_reducible apply Only.step (only_State_pushErr ..)
    | with_reducible apply Only.step (only_State_raiseFatal ..)
    | (dsimp only [Only.mk_form]; with_reducible apply OnlyMk.intro (h0 := .inr rfl))
    | split
    | dsimp only
    | refine Only.ite ?_ ?_
    | refine OnlyOut.ite ?_ ?_

theorem only_State_loseDirty (s : State) (nsid lba : Nat) : Only [.regs, .evr, .hfe, .wc, .capo] s (State.loseDirty s nsid lba) := by
  unfold State.loseDirty
  try dsimp only
  repeat' first
    | exact (rfl : (_ : Bool) = _)
    | exact Or.inl (by decide)
    | with_reducible exact Or.inr rfl
    | with_reducible exact Only.refl
    | with_reducible assumption
    | with_reducible refine Only.ite ?_ ?_
    | with_reducible apply Only.step (only_State_deferError ..)
    | with_reducible apply Only.step (only_State_destageWake ..)
    | with_reducible apply Only.step (only_State_noteLimit ..)
    | with_reducible apply Only.step (only_State_withLines ..)
    | (dsimp only [Only.mk_form]; with_reducible apply OnlyMk.intro (h0 := .inr rfl))
    | split
    | refine Only.ite ?_ ?_

theorem only_State_handled (s : State) (x : StackEntry) (ok : Bool) : Only [.regs, .evr, .err, .hfe, .wc, .capo] s (State.handled s x ok) := by
  unfold State.handled
  try dsimp only
  repeat' first
    | exact (rfl : (_ : Bool) = _)
    | exact Or.inl (by decide)
    | with_reducible exact Or.inr rfl
    | with_reducible exact Only.refl
    | with_reducible assumption
    | with_reducible refine Only.ite ?_ ?_
    | with_reducible apply Only.step (only_State_collect ..)
    | with_reducible apply Only.step (only_State_loseDirty ..)
    | with_reducible apply Only.step (only_State_raiseFatal ..)
    | with_reducible apply Only.step (only_State_setFld ..)
    | (dsimp only [Only.mk_form]; with_reducible apply OnlyMk.intro (h0 := .inr rfl))
    | split
    | refine Only.ite ?_ ?_

theorem only_execHandlerEnd (index : Nat) (ok : Bool) (s : State) : OnlyOut [.regs, .evr, .err, .hfe, .wc, .capo] s (execHandlerEnd index ok s) := by
  unfold execHandlerEnd
  try dsimp only
  repeat' first
    | exact (rfl : (_ : Bool) = _)
    | exact Or.inl (by decide)
    | with_reducible exact Or.inr rfl
    | with_reducible exact Only.refl
    | with_reducible assumption
    | with_reducible refine OnlyOut.next ?_
    | with_reducible refine OnlyOut.ite ?_ ?_
    | with_reducible refine Only.ite ?_ ?_
    | with_reducible apply Only.step (only_State_handled ..)
    | with_reducible apply Only.step (only_State_incFld ..)
    | (dsimp only [Only.mk_form]; with_reducible apply OnlyMk.intro (h0 := .inr rfl))
    | split
    | refine Only.ite ?_ ?_
    | refine OnlyOut.ite ?_ ?_

theorem only_execHandlerTimeout (index : Nat) (s : State) : OnlyOut [.err] s (execHandlerTimeout index s) := by
  unfold execHandlerTimeout
  try dsimp only
  repeat' first
    | exact (rfl : (_ : Bool) = _)
    | with_reducible exact Only.refl
    | with_reducible refine OnlyOut.next ?_
    | with_reducible refine OnlyOut.ite ?_ ?_
    | with_reducible refine Only.ite ?_ ?_
    | with_reducible apply Only.step (only_State_raiseFatal ..)
    | split
    | refine Only.ite ?_ ?_
    | refine OnlyOut.ite ?_ ?_

theorem only_State_fatalStop (s : State) : Only [.freeIx, .regs, .pwr, .evr, .hfe, .wc, .rbe, .sc, .dma, .ports, .capo] s (State.fatalStop s) := by
  unfold State.fatalStop
  try dsimp only
  repeat' first
    | exact (rfl : (_ : Bool) = _)
    | exact Or.inl (by decide)
    | with_reducible exact Or.inr rfl
    | with_reducible exact Only.refl
    | with_reducible refine Only.ite ?_ ?_
    | with_reducible apply Only.step (only_State_closeGate ..)
    | with_reducible apply Only.step (only_State_dmaDropAll ..)
    | with_reducible apply Only.step (only_State_driveCapo ..)
    | with_reducible apply Only.step (only_State_hold ..)
    | with_reducible apply Only.step (only_State_sendHealth ..)
    | with_reducible apply Only.step (only_State_setRole ..)
    | (dsimp only [Only.mk_form]; with_reducible apply OnlyMk.intro (h0 := .inr rfl))
    | split
    | dsimp only
    | refine Only.ite ?_ ?_

theorem only_execFatalError (cause : Nat) (s : State) : OnlyOut [.freeIx, .regs, .latches, .heldLo, .pwr, .evr, .err, .img, .map, .hfe, .lat, .wc, .vault, .rbe, .sc, .dma, .cip, .ports, .capo, .fed, .therm] s (execFatalError cause s) := by
  unfold execFatalError
  try dsimp only
  repeat' first
    | exact (rfl : (_ : Bool) = _)
    | exact Or.inl (by decide)
    | with_reducible exact Or.inr rfl
    | with_reducible exact Only.refl
    | with_reducible refine OnlyOut.next ?_
    | with_reducible refine OnlyOut.ite ?_ ?_
    | with_reducible refine Only.ite ?_ ?_
    | with_reducible apply Only.step (only_State_abandonDump ..)
    | with_reducible apply Only.step (only_State_afterDump ..)
    | with_reducible apply Only.step (only_State_dumpFor ..)
    | with_reducible apply Only.step (only_State_emit ..)
    | with_reducible apply Only.step (only_State_fatalStop ..)
    | with_reducible apply Only.step (only_State_satFld ..)
    | with_reducible apply Only.step (only_State_setFld ..)
    | with_reducible apply Only.step (only_State_writeSoundpost ..)
    | (dsimp only [Only.mk_form]; with_reducible apply OnlyMk.intro (h0 := .inr rfl))
    | split
    | refine Only.ite ?_ ?_
    | refine OnlyOut.ite ?_ ?_

theorem only_execFatalRestart (s : State) : OnlyOut [.regs, .pwr, .err] s (execFatalRestart s) := by
  unfold execFatalRestart
  try dsimp only
  repeat' first
    | exact (rfl : (_ : Bool) = _)
    | exact Or.inl (by decide)
    | with_reducible exact Or.inr rfl
    | with_reducible exact Only.refl
    | with_reducible refine OnlyOut.next ?_
    | with_reducible refine OnlyOut.ite ?_ ?_
    | with_reducible refine Only.ite ?_ ?_
    | with_reducible apply Only.step (only_State_startBoot ..)
    | (dsimp only [Only.mk_form]; with_reducible apply OnlyMk.intro (h0 := .inr rfl))
    | split
    | refine Only.ite ?_ ?_
    | refine OnlyOut.ite ?_ ?_

theorem only_execErrRestart (s : State) : OnlyOut [.freeIx, .regs, .pwr, .evr] s (execErrRestart s) := by
  unfold execErrRestart
  try dsimp only
  repeat' first
    | exact (rfl : (_ : Bool) = _)
    | with_reducible exact Only.refl
    | with_reducible refine OnlyOut.next ?_
    | with_reducible refine OnlyOut.ite ?_ ?_
    | with_reducible refine OnlyOut.command ⟨rfl, rfl, rfl⟩ Only.refl ?_
    | with_reducible refine Only.ite ?_ ?_
    | with_reducible apply Only.step (only_State_setBit ..)
    | with_reducible apply Only.step (only_State_startBoot ..)
    | split
    | refine Only.ite ?_ ?_
    | refine OnlyOut.ite ?_ ?_


/-! ### Machine/Rebuild.lean -/

theorem only_execKatRun (s : State) : OnlyOut [.freeIx, .regs, .evr, .rbe] s (execKatRun s) := by
  unfold execKatRun
  try dsimp only
  repeat' first
    | exact (rfl : (_ : Bool) = _)
    | with_reducible exact Only.refl
    | with_reducible refine OnlyOut.next ?_
    | with_reducible refine OnlyOut.ite ?_ ?_
    | with_reducible refine OnlyOut.command ⟨rfl, rfl, rfl⟩ Only.refl ?_
    | with_reducible refine Only.ite ?_ ?_
    | with_reducible apply Only.step (only_State_startKat ..)
    | split
    | refine Only.ite ?_ ?_
    | refine OnlyOut.ite ?_ ?_

theorem only_execKatPeriodic (s : State) : OnlyOut [.regs, .rbe] s (execKatPeriodic s) := by
  unfold execKatPeriodic
  try dsimp only
  repeat' first
    | exact (rfl : (_ : Bool) = _)
    | with_reducible exact Only.refl
    | with_reducible refine OnlyOut.next ?_
    | with_reducible refine OnlyOut.ite ?_ ?_
    | with_reducible refine Only.ite ?_ ?_
    | with_reducible apply Only.step (only_State_startKat ..)
    | split
    | refine Only.ite ?_ ?_
    | refine OnlyOut.ite ?_ ?_

theorem only_State_katSlice (s : State) (i : Nat) (pass : Bool) : Only [.regs, .evr, .err, .hfe] s (State.katSlice s i pass) := by
  unfold State.katSlice
  try dsimp only
  repeat' first
    | exact (rfl : (_ : Bool) = _)
    | with_reducible exact Only.refl
    | with_reducible refine Only.ite ?_ ?_
    | with_reducible apply Only.step (only_State_emit ..)
    | with_reducible apply Only.step (only_State_incFld ..)
    | with_reducible apply Only.step (only_State_raiseFatal ..)
    | with_reducible apply Only.step (only_State_setFld ..)
    | with_reducible apply Only.step (only_State_smartWarn ..)
    | split
    | refine Only.ite ?_ ?_

theorem only_execKatResult (slice : Fin 4) (pass : Bool) (s : State) : OnlyOut [.regs, .evr, .err, .hfe, .rbe] s (execKatResult slice pass s) := by
  unfold execKatResult
  try dsimp only
  repeat' first
    | exact (rfl : (_ : Bool) = _)
    | exact Or.inl (by decide)
    | with_reducible exact Or.inr rfl
    | with_reducible exact Only.refl
    | with_reducible assumption
    | with_reducible refine OnlyOut.next ?_
    | with_reducible refine OnlyOut.ite ?_ ?_
    | with_reducible refine Only.ite ?_ ?_
    | with_reducible apply Only.step (only_State_katSlice ..)
    | with_reducible apply Only.step (only_State_setBit ..)
    | with_reducible apply Only.step (only_State_setFld ..)
    | (dsimp only [Only.mk_form]; with_reducible apply OnlyMk.intro (h0 := .inr rfl))
    | split
    | refine Only.ite ?_ ?_
    | refine OnlyOut.ite ?_ ?_

theorem only_execSlowWindowEval (a : ArrayId) (m median reads : Nat) (s : State) : OnlyOut [.rbe] s (execSlowWindowEval a m median reads s) := by
  unfold execSlowWindowEval
  try dsimp only
  repeat' first
    | exact (rfl : (_ : Bool) = _)
    | exact Or.inl (by decide)
    | with_reducible exact Or.inr rfl
    | with_reducible exact Only.refl
    | with_reducible assumption
    | with_reducible refine OnlyOut.next ?_
    | with_reducible refine OnlyOut.ite ?_ ?_
    | with_reducible refine Only.ite ?_ ?_
    | with_reducible apply Only.step (only_State_putArr ..)
    | (dsimp only [Only.mk_form]; with_reducible apply OnlyMk.intro (h0 := .inr rfl))
    | split
    | dsimp only
    | refine Only.ite ?_ ?_
    | refine OnlyOut.ite ?_ ?_

theorem only_execSlowFailExpiry (a : ArrayId) (m : Nat) (s : State) : OnlyOut [.regs, .evr, .hfe, .wc, .rbe, .ports, .capo] s (execSlowFailExpiry a m s) := by
  unfold execSlowFailExpiry
  try dsimp only
  repeat' first
    | exact (rfl : (_ : Bool) = _)
    | exact Or.inl (by decide)
    | with_reducible exact Or.inr rfl
    | with_reducible exact Only.refl
    | with_reducible assumption
    | with_reducible refine OnlyOut.next ?_
    | with_reducible refine OnlyOut.ite ?_ ?_
    | with_reducible refine Only.ite ?_ ?_
    | with_reducible apply Only.step (only_State_failMember ..)
    | (dsimp only [Only.mk_form]; with_reducible apply OnlyMk.intro (h0 := .inr rfl))
    | split
    | refine Only.ite ?_ ?_
    | refine OnlyOut.ite ?_ ?_

theorem only_execRebuildStripe (a : ArrayId) (s : State) : OnlyOut [.regs, .evr, .hfe, .wc, .rbe, .ports, .capo] s (execRebuildStripe a s) := by
  unfold execRebuildStripe
  try dsimp only
  repeat' first
    | exact (rfl : (_ : Bool) = _)
    | exact Or.inl (by decide)
    | with_reducible exact Or.inr rfl
    | with_reducible exact Only.refl
    | with_reducible assumption
    | with_reducible refine OnlyOut.next ?_
    | with_reducible refine OnlyOut.ite ?_ ?_
    | with_reducible refine Only.ite ?_ ?_
    | with_reducible apply Only.step (only_State_bgFault ..)
    | with_reducible apply Only.step (only_State_endMain ..)
    | with_reducible apply Only.step (only_State_putArr ..)
    | with_reducible apply Only.step (only_State_rebuildAt ..)
    | (dsimp only [Only.mk_form]; with_reducible apply OnlyMk.intro (h0 := .inr rfl))
    | split
    | dsimp only
    | refine Only.ite ?_ ?_
    | refine OnlyOut.ite ?_ ?_

theorem only_execCopybackUnit (a : ArrayId) (s : State) : OnlyOut [.regs, .evr, .hfe, .wc, .rbe, .ports, .capo] s (execCopybackUnit a s) := by
  unfold execCopybackUnit
  try dsimp only
  repeat' first
    | exact (rfl : (_ : Bool) = _)
    | exact Or.inl (by decide)
    | with_reducible exact Or.inr rfl
    | with_reducible exact Only.refl
    | with_reducible assumption
    | with_reducible refine OnlyOut.next ?_
    | with_reducible refine OnlyOut.ite ?_ ?_
    | with_reducible refine Only.ite ?_ ?_
    | with_reducible apply Only.step (only_State_bgFault ..)
    | with_reducible apply Only.step (only_State_copyUnit ..)
    | with_reducible apply Only.step (only_State_endCopy ..)
    | with_reducible apply Only.step (only_State_putArr ..)
    | with_reducible refine Only.foldl (fun _ _ _ => ?_) ?_
    | with_reducible refine Only.foldlFst (fun _ _ _ => ?_) ?_
    | with_reducible refine Only.foldlSnd (fun _ _ _ => ?_) ?_
    | (dsimp only [Only.mk_form]; with_reducible apply OnlyMk.intro (h0 := .inr rfl))
    | split
    | dsimp only
    | refine Only.ite ?_ ?_
    | refine OnlyOut.ite ?_ ?_

theorem only_execBackgroundInitGroup (a : ArrayId) (s : State) : OnlyOut [.rbe, .ports] s (execBackgroundInitGroup a s) := by
  unfold execBackgroundInitGroup
  try dsimp only
  repeat' first
    | exact (rfl : (_ : Bool) = _)
    | exact Or.inl (by decide)
    | with_reducible exact Or.inr rfl
    | with_reducible exact Only.refl
    | with_reducible assumption
    | with_reducible refine OnlyOut.next ?_
    | with_reducible refine OnlyOut.ite ?_ ?_
    | with_reducible refine Only.ite ?_ ?_
    | with_reducible apply Only.step (only_State_putArr ..)
    | with_reducible apply Only.step (only_State_putMedia ..)
    | with_reducible apply Only.step (only_State_rewriteLabels ..)
    | with_reducible refine Only.foldl (fun _ _ _ => ?_) ?_
    | with_reducible refine Only.foldlFst (fun _ _ _ => ?_) ?_
    | (dsimp only [Only.mk_form]; with_reducible apply OnlyMk.intro (h0 := .inr rfl))
    | split
    | dsimp only
    | refine Only.ite ?_ ?_
    | refine OnlyOut.ite ?_ ?_

theorem only_execScrubPeriodStart (a : ArrayId) (s : State) : OnlyOut [.rbe] s (execScrubPeriodStart a s) := by
  unfold execScrubPeriodStart
  try dsimp only
  repeat' first
    | exact (rfl : (_ : Bool) = _)
    | exact Or.inl (by decide)
    | with_reducible exact Or.inr rfl
    | with_reducible exact Only.refl
    | with_reducible assumption
    | with_reducible refine OnlyOut.next ?_
    | with_reducible refine OnlyOut.ite ?_ ?_
    | with_reducible refine Only.ite ?_ ?_
    | with_reducible apply Only.step (only_State_startScrub ..)
    | (dsimp only [Only.mk_form]; with_reducible apply OnlyMk.intro (h0 := .inr rfl))
    | split
    | refine Only.ite ?_ ?_
    | refine OnlyOut.ite ?_ ?_

theorem only_execScrubStripe (a : ArrayId) (s : State) : OnlyOut [.regs, .evr, .hfe, .wc, .rbe, .ports, .capo] s (execScrubStripe a s) := by
  unfold execScrubStripe
  try dsimp only
  repeat' first
    | exact (rfl : (_ : Bool) = _)
    | exact Or.inl (by decide)
    | with_reducible exact Or.inr rfl
    | with_reducible exact Only.refl
    | with_reducible assumption
    | with_reducible refine OnlyOut.next ?_
    | with_reducible refine OnlyOut.ite ?_ ?_
    | with_reducible refine Only.ite ?_ ?_
    | with_reducible apply Only.step (only_State_bgFault ..)
    | with_reducible apply Only.step (only_State_emit ..)
    | with_reducible apply Only.step (only_State_endScrub ..)
    | with_reducible apply Only.step (only_State_putArr ..)
    | with_reducible apply Only.step (only_State_scrubIn ..)
    | with_reducible refine Only.foldl (fun _ _ _ => ?_) ?_
    | with_reducible refine Only.foldlFst (fun _ _ _ => ?_) ?_
    | with_reducible refine Only.foldlSnd (fun _ _ _ => ?_) ?_
    | (dsimp only [Only.mk_form]; with_reducible apply OnlyMk.intro (h0 := .inr rfl))
    | split
    | dsimp only
    | refine Only.ite ?_ ?_
    | refine OnlyOut.ite ?_ ?_

theorem only_execReshapeStep (a : ArrayId) (s : State) : OnlyOut [.regs, .evr, .hfe, .wc, .rbe, .ports, .capo] s (execReshapeStep a s) := by
  unfold execReshapeStep
  try dsimp only
  repeat' first
    | exact (rfl : (_ : Bool) = _)
    | exact Or.inl (by decide)
    | with_reducible exact Or.inr rfl
    | with_reducible exact Only.refl
    | with_reducible assumption
    | with_reducible refine OnlyOut.next ?_
    | with_reducible refine OnlyOut.ite ?_ ?_
    | with_reducible refine Only.ite ?_ ?_
    | with_reducible apply Only.step (only_State_bgFault ..)
    | with_reducible apply Only.step (only_State_checkpoint ..)
    | with_reducible apply Only.step (only_State_emit ..)
    | with_reducible apply Only.step (only_State_endReshape ..)
    | with_reducible apply Only.step (only_State_noteLimit ..)
    | with_reducible apply Only.step (only_State_putArr ..)
    | with_reducible apply Only.step (only_State_rewriteLabels ..)
    | (dsimp only [Only.mk_form]; with_reducible apply OnlyMk.intro (h0 := .inr rfl))
    | split
    | refine Only.ite ?_ ?_
    | refine OnlyOut.ite ?_ ?_
    | refine Only.step (only_State_reshapeOne _ _ _ _ _ _ (by with_reducible assumption)) (by decide) ?_

theorem only_State_rerunSteps (s : State) (a : ArrayId) (y0 : Nat) : Only [.regs, .evr, .hfe, .wc, .rbe, .capo] s (State.rerunSteps s a y0) := by
  fun_induction State.rerunSteps s a y0
  all_goals try dsimp only
  all_goals repeat' first
    | exact (rfl : (_ : Bool) = _)
    | exact Or.inl (by decide)
    | with_reducible exact Or.inr rfl
    | with_reducible exact Only.refl
    | with_reducible assumption
    | with_reducible refine Only.ite ?_ ?_
    | (dsimp only [Only.mk_form]; with_reducible apply OnlyMk.intro (h0 := .inr rfl))
    | split
    | refine Only.ite ?_ ?_
    | refine Only.step (only_State_reshapeOne _ _ _ _ _ _ (by with_reducible assumption)) (by decide) ?_
    | refine Only.step (by with_reducible assumption) (by decide) ?_

theorem only_execReshapeUncleanRerun (a : ArrayId) (s : State) : OnlyOut [.regs, .evr, .hfe, .wc, .rbe, .ports, .capo] s (execReshapeUncleanRerun a s) := by
  unfold execReshapeUncleanRerun
  try dsimp only
  repeat' first
    | exact (rfl : (_ : Bool) = _)
    | exact Or.inl (by decide)
    | with_reducible exact Or.inr rfl
    | with_reducible exact Only.refl
    | with_reducible assumption
    | with_reducible refine OnlyOut.next ?_
    | with_reducible refine OnlyOut.ite ?_ ?_
    | with_reducible refine Only.ite ?_ ?_
    | with_reducible apply Only.step (only_State_checkpoint ..)
    | with_reducible apply Only.step (only_State_endReshape ..)
    | with_reducible apply Only.step (only_State_online ..)
    | with_reducible apply Only.step (only_State_putArr ..)
    | with_reducible apply Only.step (only_State_rerunSteps ..)
    | (dsimp only [Only.mk_form]; with_reducible apply OnlyMk.intro (h0 := .inr rfl))
    | split
    | dsimp only
    | refine Only.ite ?_ ?_
    | refine OnlyOut.ite ?_ ?_

theorem only_State_arrIgnored (s : State) (a : ArrayId) (cmd : Nat) : Only [.evr] s (State.arrIgnored s a cmd) := by
  unfold State.arrIgnored
  try dsimp only
  repeat' first
    | exact (rfl : (_ : Bool) = _)
    | with_reducible exact Only.refl
    | with_reducible apply Only.step (only_State_emit ..)
    | dsimp only

theorem only_execArrScrubNow (a : ArrayId) (s : State) : OnlyOut [.freeIx, .regs, .evr, .rbe] s (execArrScrubNow a s) := by
  unfold execArrScrubNow
  try dsimp only
  repeat' first
    | exact (rfl : (_ : Bool) = _)
    | exact Or.inl (by decide)
    | with_reducible exact Or.inr rfl
    | with_reducible exact Only.refl
    | with_reducible assumption
    | with_reducible refine OnlyOut.next ?_
    | with_reducible refine OnlyOut.ite ?_ ?_
    | with_reducible refine OnlyOut.command ⟨rfl, rfl, rfl⟩ Only.refl ?_
    | with_reducible refine Only.ite ?_ ?_
    | with_reducible apply Only.step (only_State_arrIgnored ..)
    | with_reducible apply Only.step (only_State_startScrub ..)
    | (dsimp only [Only.mk_form]; with_reducible apply OnlyMk.intro (h0 := .inr rfl))
    | split
    | refine Only.ite ?_ ?_
    | refine OnlyOut.ite ?_ ?_

theorem only_execArrPause (a : ArrayId) (s : State) : OnlyOut [.freeIx, .regs, .evr, .rbe] s (execArrPause a s) := by
  unfold execArrPause
  try dsimp only
  repeat' first
    | exact (rfl : (_ : Bool) = _)
    | exact Or.inl (by decide)
    | with_reducible exact Or.inr rfl
    | with_reducible exact Only.refl
    | with_reducible assumption
    | with_reducible refine OnlyOut.next ?_
    | with_reducible refine OnlyOut.ite ?_ ?_
    | with_reducible refine OnlyOut.command ⟨rfl, rfl, rfl⟩ Only.refl ?_
    | with_reducible refine Only.ite ?_ ?_
    | with_reducible apply Only.step (only_State_arrIgnored ..)
    | with_reducible apply Only.step (only_State_putArr ..)
    | (dsimp only [Only.mk_form]; with_reducible apply OnlyMk.intro (h0 := .inr rfl))
    | split
    | dsimp only
    | refine Only.ite ?_ ?_
    | refine OnlyOut.ite ?_ ?_

theorem only_execArrResume (a : ArrayId) (s : State) : OnlyOut [.freeIx, .regs, .evr, .rbe] s (execArrResume a s) := by
  unfold execArrResume
  try dsimp only
  repeat' first
    | exact (rfl : (_ : Bool) = _)
    | exact Or.inl (by decide)
    | with_reducible exact Or.inr rfl
    | with_reducible exact Only.refl
    | with_reducible assumption
    | with_reducible refine OnlyOut.next ?_
    | with_reducible refine OnlyOut.ite ?_ ?_
    | with_reducible refine OnlyOut.command ⟨rfl, rfl, rfl⟩ Only.refl ?_
    | with_reducible refine Only.ite ?_ ?_
    | with_reducible apply Only.step (only_State_arrIgnored ..)
    | with_reducible apply Only.step (only_State_putArr ..)
    | (dsimp only [Only.mk_form]; with_reducible apply OnlyMk.intro (h0 := .inr rfl))
    | split
    | dsimp only
    | refine Only.ite ?_ ?_
    | refine OnlyOut.ite ?_ ?_

theorem only_execArrFailMember (a : ArrayId) (m : Nat) (s : State) : OnlyOut [.freeIx, .regs, .evr, .hfe, .wc, .rbe, .ports, .capo] s (execArrFailMember a m s) := by
  unfold execArrFailMember
  try dsimp only
  repeat' first
    | exact (rfl : (_ : Bool) = _)
    | exact Or.inl (by decide)
    | with_reducible exact Or.inr rfl
    | with_reducible exact Only.refl
    | with_reducible assumption
    | with_reducible refine OnlyOut.next ?_
    | with_reducible refine OnlyOut.ite ?_ ?_
    | with_reducible refine OnlyOut.command ⟨rfl, rfl, rfl⟩ Only.refl ?_
    | with_reducible refine Only.ite ?_ ?_
    | with_reducible apply Only.step (only_State_arrIgnored ..)
    | with_reducible apply Only.step (only_State_failMember ..)
    | (dsimp only [Only.mk_form]; with_reducible apply OnlyMk.intro (h0 := .inr rfl))
    | split
    | refine Only.ite ?_ ?_
    | refine OnlyOut.ite ?_ ?_

theorem only_execArrCopyback (a : ArrayId) (s : State) : OnlyOut [.freeIx, .regs, .evr, .rbe] s (execArrCopyback a s) := by
  unfold execArrCopyback
  try dsimp only
  repeat' first
    | exact (rfl : (_ : Bool) = _)
    | exact Or.inl (by decide)
    | with_reducible exact Or.inr rfl
    | with_reducible exact Only.refl
    | with_reducible assumption
    | with_reducible refine OnlyOut.next ?_
    | with_reducible refine OnlyOut.ite ?_ ?_
    | with_reducible refine OnlyOut.command ⟨rfl, rfl, rfl⟩ Only.refl ?_
    | with_reducible refine Only.ite ?_ ?_
    | with_reducible apply Only.step (only_State_arrIgnored ..)
    | with_reducible apply Only.step (only_State_putArr ..)
    | (dsimp only [Only.mk_form]; with_reducible apply OnlyMk.intro (h0 := .inr rfl))
    | split
    | refine Only.ite ?_ ?_
    | refine OnlyOut.ite ?_ ?_


/-! ### Machine/Dma.lean -/

theorem only_execDmaStart (iface : Iface) (ch : ChId) (s : State) : OnlyOut [.freeIx, .regs, .evr, .dma] s (execDmaStart iface ch s) := by
  unfold execDmaStart
  try dsimp only
  repeat' first
    | exact (rfl : (_ : Bool) = _)
    | with_reducible exact Only.refl
    | with_reducible refine OnlyOut.next ?_
    | with_reducible refine OnlyOut.ite ?_ ?_
    | with_reducible refine OnlyOut.command ⟨rfl, rfl, rfl⟩ Only.refl ?_
    | with_reducible refine Only.ite ?_ ?_
    | with_reducible apply Only.step (only_State_busError ..)
    | with_reducible apply Only.step (only_State_dmaTrigger ..)
    | split
    | refine Only.ite ?_ ?_
    | refine OnlyOut.ite ?_ ?_

theorem only_execDmaTimer (ch : ChId) (s : State) : OnlyOut [.regs, .dma] s (execDmaTimer ch s) := by
  unfold execDmaTimer
  try dsimp only
  repeat' first
    | exact (rfl : (_ : Bool) = _)
    | with_reducible exact Only.refl
    | with_reducible refine OnlyOut.next ?_
    | with_reducible refine OnlyOut.ite ?_ ?_
    | with_reducible refine Only.ite ?_ ?_
    | with_reducible apply Only.step (only_State_dmaTrigger ..)
    | split
    | refine Only.ite ?_ ?_
    | refine OnlyOut.ite ?_ ?_

theorem only_execDmaDescFetch (ch : ChId) (bytes : List Nat) (s : State) : OnlyOut [.regs, .sc, .dma] s (execDmaDescFetch ch bytes s) := by
  unfold execDmaDescFetch
  try dsimp only
  repeat' first
    | exact (rfl : (_ : Bool) = _)
    | exact Or.inl (by decide)
    | with_reducible exact Or.inr rfl
    | with_reducible exact Only.refl
    | with_reducible assumption
    | with_reducible refine OnlyOut.next ?_
    | with_reducible refine OnlyOut.ite ?_ ?_
    | with_reducible refine Only.ite ?_ ?_
    | with_reducible apply Only.step (only_State_dmaBad ..)
    | with_reducible apply Only.step (only_State_dmaErrIrq ..)
    | with_reducible apply Only.step (only_State_dmaHalted ..)
    | with_reducible apply Only.step (only_State_setChState ..)
    | with_reducible apply Only.step (only_State_withDma ..)
    | (dsimp only [Only.mk_form]; with_reducible apply OnlyMk.intro (h0 := .inr rfl))
    | split
    | refine Only.ite ?_ ?_
    | refine OnlyOut.ite ?_ ?_

theorem only_execDmaGrant (ch : ChId) (src : List Nat) (s : State) : OnlyOut [.regs, .pwr, .sc, .dma] s (execDmaGrant ch src s) := by
  unfold execDmaGrant
  try dsimp only
  repeat' first
    | exact (rfl : (_ : Bool) = _)
    | exact Or.inl (by decide)
    | with_reducible exact Or.inr rfl
    | with_reducible exact Only.refl
    | with_reducible assumption
    | with_reducible refine OnlyOut.next ?_
    | with_reducible refine OnlyOut.ite ?_ ?_
    | with_reducible refine Only.ite ?_ ?_
    | with_reducible apply Only.step (only_State_dmaStore ..)
    | with_reducible apply Only.step (only_State_hold ..)
    | with_reducible apply Only.step (only_State_incFld ..)
    | with_reducible apply Only.step (only_State_setFld ..)
    | with_reducible apply Only.step (only_State_withDma ..)
    | with_reducible refine Only.foldl (fun _ _ _ => ?_) ?_
    | (dsimp only [Only.mk_form]; with_reducible apply OnlyMk.intro (h0 := .inr rfl))
    | split
    | refine Only.ite ?_ ?_
    | refine OnlyOut.ite ?_ ?_

theorem only_execDmaReadBack (ch : ChId) (ok : Bool) (s : State) : OnlyOut [.freeIx, .regs, .sc, .dma] s (execDmaReadBack ch ok s) := by
  unfold execDmaReadBack
  try dsimp only
  repeat' first
    | exact (rfl : (_ : Bool) = _)
    | exact Or.inl (by decide)
    | with_reducible exact Or.inr rfl
    | with_reducible exact Only.refl
    | with_reducible assumption
    | with_reducible refine OnlyOut.next ?_
    | with_reducible refine OnlyOut.ite ?_ ?_
    | with_reducible refine Only.ite ?_ ?_
    | with_reducible apply Only.step (only_State_dmaBad ..)
    | with_reducible apply Only.step (only_State_dmaDone ..)
    | with_reducible apply Only.step (only_State_used ..)
    | (dsimp only [Only.mk_form]; with_reducible apply OnlyMk.intro (h0 := .inr rfl))
    | split
    | refine Only.ite ?_ ?_
    | refine OnlyOut.ite ?_ ?_

theorem only_execDmaBusError (ch : ChId) (dest : Bool) (confirmed : Nat) (s : State) : OnlyOut [.freeIx, .regs, .sc, .dma] s (execDmaBusError ch dest confirmed s) := by
  unfold execDmaBusError
  try dsimp only
  repeat' first
    | exact (rfl : (_ : Bool) = _)
    | exact Or.inl (by decide)
    | with_reducible exact Or.inr rfl
    | with_reducible exact Only.refl
    | with_reducible assumption
    | with_reducible refine OnlyOut.next ?_
    | with_reducible refine OnlyOut.ite ?_ ?_
    | with_reducible refine Only.ite ?_ ?_
    | with_reducible apply Only.step (only_State_dmaBad ..)
    | with_reducible apply Only.step (only_State_dmaLoose ..)
    | (dsimp only [Only.mk_form]; with_reducible apply OnlyMk.intro (h0 := .inr rfl))
    | split
    | refine Only.ite ?_ ?_
    | refine OnlyOut.ite ?_ ?_

theorem only_execDmaHalt (ch : ChId) (code : Nat) (s : State) : OnlyOut [.regs, .dma] s (execDmaHalt ch code s) := by
  unfold execDmaHalt
  try dsimp only
  repeat' first
    | exact (rfl : (_ : Bool) = _)
    | exact Or.inl (by decide)
    | with_reducible exact Or.inr rfl
    | with_reducible exact Only.refl
    | with_reducible assumption
    | with_reducible refine OnlyOut.next ?_
    | with_reducible refine OnlyOut.ite ?_ ?_
    | with_reducible refine Only.ite ?_ ?_
    | with_reducible apply Only.step (only_State_dmaHalted ..)
    | (dsimp only [Only.mk_form]; with_reducible apply OnlyMk.intro (h0 := .inr rfl))
    | split
    | refine Only.ite ?_ ?_
    | refine OnlyOut.ite ?_ ?_

theorem only_execDmaDisable (iface : Iface) (ch : ChId) (s : State) : OnlyOut [.freeIx, .regs, .sc, .dma] s (execDmaDisable iface ch s) := by
  unfold execDmaDisable
  try dsimp only
  repeat' first
    | exact (rfl : (_ : Bool) = _)
    | with_reducible exact Only.refl
    | with_reducible refine OnlyOut.next ?_
    | with_reducible refine OnlyOut.ite ?_ ?_
    | with_reducible refine Only.ite ?_ ?_
    | with_reducible apply Only.step (only_State_busError ..)
    | with_reducible apply Only.step (only_State_dmaDrop ..)
    | split
    | refine Only.ite ?_ ?_
    | refine OnlyOut.ite ?_ ?_

theorem only_execDmaWinEnable (iface : Iface) (win : WinId) (ctrl : Nat) (s : State) : OnlyOut [.regs] s (execDmaWinEnable iface win ctrl s) := by
  unfold execDmaWinEnable
  try dsimp only
  repeat' first
    | exact (rfl : (_ : Bool) = _)
    | with_reducible exact Only.refl
    | with_reducible refine OnlyOut.next ?_
    | with_reducible refine OnlyOut.ite ?_ ?_
    | with_reducible refine Only.ite ?_ ?_
    | with_reducible apply Only.step (only_State_busError ..)
    | with_reducible apply Only.step (only_State_winCtrl ..)
    | split
    | refine Only.ite ?_ ?_
    | refine OnlyOut.ite ?_ ?_


/-! ### Machine/Ports.lean -/

theorem only_State_portIgnored (s : State) (p : PortId) (cmd : Nat) : Only [.evr] s (State.portIgnored s p cmd) := by
  unfold State.portIgnored
  try dsimp only
  repeat' first
    | exact (rfl : (_ : Bool) = _)
    | with_reducible exact Only.refl
    | with_reducible apply Only.step (only_State_emit ..)
    | dsimp only

theorem only_execDrivePresent (port : PortId) (s : State) : OnlyOut [.regs] s (execDrivePresent port s) := by
  unfold execDrivePresent
  try dsimp only
  repeat' first
    | exact (rfl : (_ : Bool) = _)
    | with_reducible exact Only.refl
    | with_reducible refine OnlyOut.next ?_
    | with_reducible refine OnlyOut.ite ?_ ?_
    | with_reducible refine Only.ite ?_ ?_
    | with_reducible apply Only.step (only_State_setBit ..)
    | with_reducible apply Only.step (only_State_setPortState ..)
    | split
    | refine Only.ite ?_ ?_
    | refine OnlyOut.ite ?_ ?_

theorem only_State_rejectDrive (s : State) (p : PortId) (reason : Nat) : Only [.regs] s (State.rejectDrive s p reason) := by
  unfold State.rejectDrive
  try dsimp only
  repeat' first
    | exact (rfl : (_ : Bool) = _)
    | with_reducible exact Only.refl
    | with_reducible apply Only.step (only_State_setFld ..)
    | with_reducible apply Only.step (only_State_setPortState ..)

theorem only_State_portReady (s : State) (p : PortId) : Only [.regs, .ports] s (State.portReady s p) := by
  unfold State.portReady
  try dsimp only
  repeat' first
    | exact (rfl : (_ : Bool) = _)
    | exact Or.inl (by decide)
    | with_reducible exact Or.inr rfl
    | with_reducible exact Only.refl
    | with_reducible apply Only.step (only_State_putPort ..)
    | with_reducible apply Only.step (only_State_setFld ..)
    | with_reducible apply Only.step (only_State_setPortState ..)
    | (dsimp only [Only.mk_form]; with_reducible apply OnlyMk.intro (h0 := .inr rfl))

theorem only_State_takeNewDrive (s : State) (p : PortId) (a : ArrayId) : Only [.regs, .img, .rbe, .ports] s (State.takeNewDrive s p a) := by
  unfold State.takeNewDrive
  try dsimp only
  repeat' first
    | exact (rfl : (_ : Bool) = _)
    | exact Or.inl (by decide)
    | with_reducible exact Or.inr rfl
    | with_reducible exact Only.refl
    | with_reducible refine Only.ite ?_ ?_
    | with_reducible apply Only.step (only_State_portReady ..)
    | with_reducible apply Only.step (only_State_putMedia ..)
    | with_reducible apply Only.step (only_State_rewriteLabels ..)
    | (dsimp only [Only.mk_form]; with_reducible apply OnlyMk.intro (h0 := .inr rfl))
    | split
    | dsimp only
    | refine Only.ite ?_ ?_

theorem only_State_compareLabel (s : State) (p : PortId) (d : DriveInfo) : Only [.evr, .rbe, .ports] s (State.compareLabel s p d) := by
  unfold State.compareLabel
  try dsimp only
  repeat' first
    | exact (rfl : (_ : Bool) = _)
    | exact Or.inl (by decide)
    | with_reducible exact Or.inr rfl
    | with_reducible exact Only.refl
    | with_reducible assumption
    | with_reducible refine Only.ite ?_ ?_
    | with_reducible apply Only.step (only_State_emit ..)
    | with_reducible apply Only.step (only_State_putArr ..)
    | with_reducible apply Only.step (only_State_rewriteLabels ..)
    | (dsimp only [Only.mk_form]; with_reducible apply OnlyMk.intro (h0 := .inr rfl))
    | split
    | dsimp only
    | refine Only.ite ?_ ?_

theorem only_State_placeDrive (s : State) (p : PortId) (d : Drive) (accept : Bool) : Only [.freeIx, .regs, .evr, .img, .rbe, .ports] s (State.placeDrive s p d accept) := by
  unfold State.placeDrive
  try dsimp only
  repeat' first
    | exact (rfl : (_ : Bool) = _)
    | exact Or.inl (by decide)
    | with_reducible exact Or.inr rfl
    | with_reducible exact Only.refl
    | with_reducible assumption
    | with_reducible refine Only.ite ?_ ?_
    | with_reducible apply Only.step (only_State_admitReplacement ..)
    | with_reducible apply Only.step (only_State_emit ..)
    | with_reducible apply Only.step (only_State_portReady ..)
    | with_reducible apply Only.step (only_State_putPort ..)
    | with_reducible apply Only.step (only_State_rejectDrive ..)
    | with_reducible apply Only.step (only_State_setPortState ..)
    | with_reducible apply Only.step (only_State_takeNewDrive ..)
    | (dsimp only [Only.mk_form]; with_reducible apply OnlyMk.intro (h0 := .inr rfl))
    | split
    | dsimp only
    | refine Only.ite ?_ ?_

theorem only_execDriveIdentified (port : PortId) (d : DriveInfo) (s : State) : OnlyOut [.freeIx, .regs, .evr, .img, .rbe, .ports] s (execDriveIdentified port d s) := by
  unfold execDriveIdentified
  try dsimp only
  repeat' first
    | exact (rfl : (_ : Bool) = _)
    | exact Or.inl (by decide)
    | with_reducible exact Or.inr rfl
    | with_reducible exact Only.refl
    | with_reducible refine OnlyOut.next ?_
    | with_reducible refine OnlyOut.ite ?_ ?_
    | with_reducible refine Only.ite ?_ ?_
    | with_reducible apply Only.step (only_State_compareLabel ..)
    | with_reducible apply Only.step (only_State_placeDrive ..)
    | with_reducible apply Only.step (only_State_putPort ..)
    | with_reducible apply Only.step (only_State_rejectDrive ..)
    | with_reducible apply Only.step (only_State_setBit ..)
    | with_reducible apply Only.step (only_State_setFld ..)
    | (dsimp only [Only.mk_form]; with_reducible apply OnlyMk.intro (h0 := .inr rfl))
    | split
    | refine Only.ite ?_ ?_
    | refine OnlyOut.ite ?_ ?_

theorem only_execDriveLinkLoss (port : PortId) (gone : Bool) (s : State) : OnlyOut [.regs, .evr, .hfe, .wc, .rbe, .ports, .capo] s (execDriveLinkLoss port gone s) := by
  unfold execDriveLinkLoss
  try dsimp only
  repeat' first
    | exact (rfl : (_ : Bool) = _)
    | with_reducible exact Only.refl
    | with_reducible refine OnlyOut.next ?_
    | with_reducible apply Only.step (only_State_linkLoss ..)
    | with_reducible apply Only.step (only_State_setBit ..)

theorem only_State_indexAbsent (s : State) (a : ArrayId) (m : Nat) (p : PortId) : Only [.regs, .evr, .hfe, .wc, .rbe, .ports, .capo] s (State.indexAbsent s a m p) := by
  unfold State.indexAbsent
  try dsimp only
  repeat' first
    | exact (rfl : (_ : Bool) = _)
    | exact Or.inl (by decide)
    | with_reducible exact Or.inr rfl
    | with_reducible exact Only.refl
    | with_reducible assumption
    | with_reducible refine Only.ite ?_ ?_
    | with_reducible apply Only.step (only_State_dropMember ..)
    | with_reducible apply Only.step (only_State_failMember ..)
    | (dsimp only [Only.mk_form]; with_reducible apply OnlyMk.intro (h0 := .inr rfl))
    | split
    | dsimp only
    | refine Only.ite ?_ ?_

theorem only_execRemovalTimeout (port : PortId) (s : State) : OnlyOut [.freeIx, .regs, .evr, .img, .hfe, .wc, .rbe, .ports, .capo] s (execRemovalTimeout port s) := by
  unfold execRemovalTimeout
  try dsimp only
  repeat' first
    | exact (rfl : (_ : Bool) = _)
    | exact Or.inl (by decide)
    | with_reducible exact Or.inr rfl
    | with_reducible exact Only.refl
    | with_reducible assumption
    | with_reducible refine OnlyOut.next ?_
    | with_reducible refine OnlyOut.ite ?_ ?_
    | with_reducible refine Only.ite ?_ ?_
    | with_reducible apply Only.step (only_State_failMember ..)
    | with_reducible apply Only.step (only_State_indexAbsent ..)
    | with_reducible apply Only.step (only_State_placeDrive ..)
    | with_reducible apply Only.step (only_State_putPort ..)
    | with_reducible apply Only.step (only_State_setPortState ..)
    | (dsimp only [Only.mk_form]; with_reducible apply OnlyMk.intro (h0 := .inr rfl))
    | split
    | dsimp only
    | refine Only.ite ?_ ?_
    | refine OnlyOut.ite ?_ ?_

theorem only_execSpinupDelayExpiry (port : PortId) (s : State) : OnlyOut [.regs, .ports] s (execSpinupDelayExpiry port s) := by
  unfold execSpinupDelayExpiry
  try dsimp only
  repeat' first
    | exact (rfl : (_ : Bool) = _)
    | with_reducible exact Only.refl
    | with_reducible refine OnlyOut.next ?_
    | with_reducible refine OnlyOut.ite ?_ ?_
    | with_reducible refine Only.ite ?_ ?_
    | with_reducible apply Only.step (only_State_powerUpPort ..)
    | split
    | refine Only.ite ?_ ?_
    | refine OnlyOut.ite ?_ ?_

theorem only_execSpinupPluckTimeout (port : PortId) (s : State) : OnlyOut [.evr, .ports] s (execSpinupPluckTimeout port s) := by
  unfold execSpinupPluckTimeout
  try dsimp only
  repeat' first
    | exact (rfl : (_ : Bool) = _)
    | exact Or.inl (by decide)
    | with_reducible exact Or.inr rfl
    | with_reducible exact Only.refl
    | with_reducible refine OnlyOut.next ?_
    | with_reducible refine OnlyOut.ite ?_ ?_
    | with_reducible refine Only.ite ?_ ?_
    | with_reducible apply Only.step (only_State_emit ..)
    | with_reducible apply Only.step (only_State_putPort ..)
    | (dsimp only [Only.mk_form]; with_reducible apply OnlyMk.intro (h0 := .inr rfl))
    | split
    | dsimp only
    | refine Only.ite ?_ ?_
    | refine OnlyOut.ite ?_ ?_

theorem only_execSpinupWaitExpiry (port : PortId) (s : State) : OnlyOut [.regs] s (execSpinupWaitExpiry port s) := by
  unfold execSpinupWaitExpiry
  try dsimp only
  repeat' first
    | exact (rfl : (_ : Bool) = _)
    | with_reducible exact Only.refl
    | with_reducible refine OnlyOut.next ?_
    | with_reducible refine OnlyOut.ite ?_ ?_
    | with_reducible refine Only.ite ?_ ?_
    | with_reducible apply Only.step (only_State_rejectDrive ..)
    | split
    | refine Only.ite ?_ ?_
    | refine OnlyOut.ite ?_ ?_

theorem only_execMemberCommandIssue (port : PortId) (pick : Cls) (s : State) : OnlyOut [.regs, .hfe, .ports] s (execMemberCommandIssue port pick s) := by
  unfold execMemberCommandIssue
  try dsimp only
  repeat' first
    | exact (rfl : (_ : Bool) = _)
    | exact Or.inl (by decide)
    | with_reducible exact Or.inr rfl
    | with_reducible exact Only.refl
    | with_reducible assumption
    | with_reducible refine OnlyOut.next ?_
    | with_reducible refine OnlyOut.ite ?_ ?_
    | with_reducible refine Only.ite ?_ ?_
    | with_reducible apply Only.step (only_State_countSlots ..)
    | with_reducible apply Only.step (only_State_putPort ..)
    | with_reducible apply Only.step (only_State_stampCmd ..)
    | (dsimp only [Only.mk_form]; with_reducible apply OnlyMk.intro (h0 := .inr rfl))
    | split
    | dsimp only
    | refine Only.ite ?_ ?_
    | refine OnlyOut.ite ?_ ?_

theorem only_State_written (s : State) (port : PortId) (c : MCmd) : Only [.regs, .rbe, .ports] s (State.written s port c) := by
  unfold State.written
  try dsimp only
  repeat' first
    | exact (rfl : (_ : Bool) = _)
    | exact Or.inl (by decide)
    | with_reducible exact Or.inr rfl
    | with_reducible exact Only.refl
    | with_reducible assumption
    | with_reducible apply Only.step (only_State_dataWritten ..)
    | with_reducible apply Only.step (only_State_labelWritten ..)
    | with_reducible apply Only.step (only_State_tagsWritten ..)
    | (dsimp only [Only.mk_form]; with_reducible apply OnlyMk.intro (h0 := .inr rfl))
    | split
    | dsimp only

theorem only_execMemberCompletion (port : PortId) (slot : Nat) (res : McResult) (s : State) : OnlyOut [.regs, .evr, .hfe, .wc, .rbe, .ports, .capo] s (execMemberCompletion port slot res s) := by
  unfold execMemberCompletion
  try dsimp only
  repeat' first
    | exact (rfl : (_ : Bool) = _)
    | exact Or.inl (by decide)
    | with_reducible exact Or.inr rfl
    | with_reducible exact Only.refl
    | with_reducible assumption
    | with_reducible refine OnlyOut.next ?_
    | with_reducible refine OnlyOut.ite ?_ ?_
    | with_reducible refine Only.ite ?_ ?_
    | with_reducible apply Only.step (only_State_avoidMember ..)
    | with_reducible apply Only.step (only_State_dropSlot ..)
    | with_reducible apply Only.step (only_State_emit ..)
    | with_reducible apply Only.step (only_State_errInfo ..)
    | with_reducible apply Only.step (only_State_incFld ..)
    | with_reducible apply Only.step (only_State_lateDrop ..)
    | with_reducible apply Only.step (only_State_mediaErr ..)
    | with_reducible apply Only.step (only_State_portTimeout ..)
    | with_reducible apply Only.step (only_State_retry ..)
    | with_reducible apply Only.step (only_State_spoil ..)
    | with_reducible apply Only.step (only_State_stampCmd ..)
    | with_reducible apply Only.step (only_State_written ..)
    | (dsimp only [Only.mk_form]; with_reducible apply OnlyMk.intro (h0 := .inr rfl))
    | split
    | dsimp only
    | refine Only.ite ?_ ?_
    | refine OnlyOut.ite ?_ ?_

theorem only_execMemberTimeout (port : PortId) (slot : Nat) (s : State) : OnlyOut [.regs, .evr, .hfe, .wc, .rbe, .ports, .capo] s (execMemberTimeout port slot s) := by
  unfold execMemberTimeout
  try dsimp only
  repeat' first
    | exact (rfl : (_ : Bool) = _)
    | exact Or.inl (by decide)
    | with_reducible exact Or.inr rfl
    | with_reducible exact Only.refl
    | with_reducible assumption
    | with_reducible refine OnlyOut.next ?_
    | with_reducible apply Only.step (only_State_portTimeout ..)
    | (dsimp only [Only.mk_form]; with_reducible apply OnlyMk.intro (h0 := .inr rfl))
    | split

theorem only_execEscalationStepDone (port : PortId) (s : State) : OnlyOut [.regs, .evr, .hfe, .wc, .rbe, .ports, .capo] s (execEscalationStepDone port s) := by
  unfold execEscalationStepDone
  try dsimp only
  repeat' first
    | exact (rfl : (_ : Bool) = _)
    | exact Or.inl (by decide)
    | with_reducible exact Or.inr rfl
    | with_reducible exact Only.refl
    | with_reducible assumption
    | with_reducible refine OnlyOut.next ?_
    | with_reducible refine OnlyOut.ite ?_ ?_
    | with_reducible refine Only.ite ?_ ?_
    | with_reducible apply Only.step (only_State_dropSlot ..)
    | with_reducible apply Only.step (only_State_putPort ..)
    | with_reducible apply Only.step (only_State_retry ..)
    | with_reducible apply Only.step (only_State_setPortState ..)
    | (dsimp only [Only.mk_form]; with_reducible apply OnlyMk.intro (h0 := .inr rfl))
    | split
    | refine Only.ite ?_ ?_
    | refine OnlyOut.ite ?_ ?_

theorem only_execEscalationStepTimeout (port : PortId) (s : State) : OnlyOut [.regs, .evr, .hfe, .wc, .rbe, .ports, .capo] s (execEscalationStepTimeout port s) := by
  unfold execEscalationStepTimeout
  try dsimp only
  repeat' first
    | exact (rfl : (_ : Bool) = _)
    | exact Or.inl (by decide)
    | with_reducible exact Or.inr rfl
    | with_reducible exact Only.refl
    | with_reducible assumption
    | with_reducible refine OnlyOut.next ?_
    | with_reducible apply Only.step (only_State_escalate ..)
    | (dsimp only [Only.mk_form]; with_reducible apply OnlyMk.intro (h0 := .inr rfl))
    | split

theorem only_execHealthPoll (port : PortId) (s : State) : OnlyOut [.ports] s (execHealthPoll port s) := by
  unfold execHealthPoll
  try dsimp only
  repeat' first
    | exact (rfl : (_ : Bool) = _)
    | with_reducible exact Only.refl
    | with_reducible refine OnlyOut.next ?_
    | with_reducible refine OnlyOut.ite ?_ ?_
    | with_reducible refine Only.ite ?_ ?_
    | with_reducible apply Only.step (only_State_enqueue ..)
    | split
    | dsimp only
    | refine Only.ite ?_ ?_
    | refine OnlyOut.ite ?_ ?_

theorem only_State_cmdReset (s : State) (p : PortId) (step cmd : Nat) : Only [.regs, .evr, .hfe, .wc, .rbe, .ports, .capo] s (State.cmdReset s p step cmd) := by
  unfold State.cmdReset
  try dsimp only
  repeat' first
    | exact (rfl : (_ : Bool) = _)
    | exact Or.inl (by decide)
    | with_reducible exact Or.inr rfl
    | with_reducible exact Only.refl
    | with_reducible refine Only.ite ?_ ?_
    | with_reducible apply Only.step (only_State_escalate ..)
    | with_reducible apply Only.step (only_State_forgetDrive ..)
    | with_reducible apply Only.step (only_State_portIgnored ..)
    | with_reducible apply Only.step (only_State_putPort ..)
    | (dsimp only [Only.mk_form]; with_reducible apply OnlyMk.intro (h0 := .inr rfl))
    | split
    | refine Only.ite ?_ ?_

theorem only_execPortResetLink (port : PortId) (s : State) : OnlyOut [.freeIx, .regs, .evr, .hfe, .wc, .rbe, .ports, .capo] s (execPortResetLink port s) := by
  unfold execPortResetLink
  try dsimp only
  repeat' first
    | exact (rfl : (_ : Bool) = _)
    | with_reducible exact Only.refl
    | with_reducible refine OnlyOut.next ?_
    | with_reducible refine OnlyOut.command ⟨rfl, rfl, rfl⟩ Only.refl ?_
    | with_reducible apply Only.step (only_State_cmdReset ..)

theorem only_execPortPowerCycle (port : PortId) (s : State) : OnlyOut [.freeIx, .regs, .evr, .hfe, .wc, .rbe, .ports, .capo] s (execPortPowerCycle port s) := by
  unfold execPortPowerCycle
  try dsimp only
  repeat' first
    | exact (rfl : (_ : Bool) = _)
    | with_reducible exact Only.refl
    | with_reducible refine OnlyOut.next ?_
    | with_reducible refine OnlyOut.command ⟨rfl, rfl, rfl⟩ Only.refl ?_
    | with_reducible apply Only.step (only_State_cmdReset ..)

theorem only_execPortAccept (port : PortId) (s : State) : OnlyOut [.freeIx, .regs, .evr, .img, .rbe, .ports] s (execPortAccept port s) := by
  unfold execPortAccept
  try dsimp only
  repeat' first
    | exact (rfl : (_ : Bool) = _)
    | exact Or.inl (by decide)
    | with_reducible exact Or.inr rfl
    | with_reducible exact Only.refl
    | with_reducible assumption
    | with_reducible refine OnlyOut.next ?_
    | with_reducible refine OnlyOut.ite ?_ ?_
    | with_reducible refine OnlyOut.command ⟨rfl, rfl, rfl⟩ Only.refl ?_
    | with_reducible refine Only.ite ?_ ?_
    | with_reducible apply Only.step (only_State_placeDrive ..)
    | with_reducible apply Only.step (only_State_portIgnored ..)
    | (dsimp only [Only.mk_form]; with_reducible apply OnlyMk.intro (h0 := .inr rfl))
    | split
    | refine Only.ite ?_ ?_
    | refine OnlyOut.ite ?_ ?_

theorem only_execPortRelease (port : PortId) (s : State) : OnlyOut [.freeIx, .regs, .evr, .ports] s (execPortRelease port s) := by
  unfold execPortRelease
  try dsimp only
  repeat' first
    | exact (rfl : (_ : Bool) = _)
    | exact Or.inl (by decide)
    | with_reducible exact Or.inr rfl
    | with_reducible exact Only.refl
    | with_reducible assumption
    | with_reducible refine OnlyOut.next ?_
    | with_reducible refine OnlyOut.ite ?_ ?_
    | with_reducible refine OnlyOut.command ⟨rfl, rfl, rfl⟩ Only.refl ?_
    | with_reducible refine Only.ite ?_ ?_
    | with_reducible apply Only.step (only_State_countSlots ..)
    | with_reducible apply Only.step (only_State_forgetDrive ..)
    | with_reducible apply Only.step (only_State_linkDown ..)
    | with_reducible apply Only.step (only_State_portIgnored ..)
    | with_reducible apply Only.step (only_State_putPort ..)
    | with_reducible apply Only.step (only_State_setPortState ..)
    | with_reducible apply Only.step (only_State_setPwren ..)
    | (dsimp only [Only.mk_form]; with_reducible apply OnlyMk.intro (h0 := .inr rfl))
    | split
    | dsimp only
    | refine Only.ite ?_ ?_
    | refine OnlyOut.ite ?_ ?_

theorem only_execPortSpinupNow (port : PortId) (s : State) : OnlyOut [.freeIx, .regs, .evr, .ports] s (execPortSpinupNow port s) := by
  unfold execPortSpinupNow
  try dsimp only
  repeat' first
    | exact (rfl : (_ : Bool) = _)
    | with_reducible exact Only.refl
    | with_reducible refine OnlyOut.next ?_
    | with_reducible refine OnlyOut.ite ?_ ?_
    | with_reducible refine OnlyOut.command ⟨rfl, rfl, rfl⟩ Only.refl ?_
    | with_reducible refine Only.ite ?_ ?_
    | with_reducible apply Only.step (only_State_portIgnored ..)
    | with_reducible apply Only.step (only_State_powerUpPort ..)
    | split
    | refine Only.ite ?_ ?_
    | refine OnlyOut.ite ?_ ?_

theorem only_State_markLate (s : State) (port : PortId) (slot : Nat) (c : MCmd) : Only [.ports] s (State.markLate s port slot c) := by
  unfold State.markLate
  try dsimp only
  repeat' first
    | exact (rfl : (_ : Bool) = _)
    | exact Or.inl (by decide)
    | with_reducible exact Or.inr rfl
    | with_reducible exact Only.refl
    | with_reducible apply Only.step (only_State_putPort ..)
    | (dsimp only [Only.mk_form]; with_reducible apply OnlyMk.intro (h0 := .inr rfl))

theorem only_execMemberDeadline (port : PortId) (slot : Nat) (s : State) : OnlyOut [.regs, .hfe, .ports] s (execMemberDeadline port slot s) := by
  unfold execMemberDeadline
  try dsimp only
  repeat' first
    | exact (rfl : (_ : Bool) = _)
    | exact Or.inl (by decide)
    | with_reducible exact Or.inr rfl
    | with_reducible exact Only.refl
    | with_reducible assumption
    | with_reducible refine OnlyOut.next ?_
    | with_reducible refine OnlyOut.ite ?_ ?_
    | with_reducible refine Only.ite ?_ ?_
    | with_reducible apply Only.step (only_State_askPlan ..)
    | with_reducible apply Only.step (only_State_incFld ..)
    | with_reducible apply Only.step (only_State_markLate ..)
    | with_reducible apply Only.step (only_State_stampCmd ..)
    | with_reducible refine Only.foldl (fun _ _ _ => ?_) ?_
    | (dsimp only [Only.mk_form]; with_reducible apply OnlyMk.intro (h0 := .inr rfl))
    | split
    | dsimp only
    | refine Only.ite ?_ ?_
    | refine OnlyOut.ite ?_ ?_


/-! ### Machine/Fed.lean -/

theorem only_execHelloReceive (link : LinkId) (h : Hello) (s : State) : OnlyOut [.regs, .evr, .fed] s (execHelloReceive link h s) := by
  unfold execHelloReceive
  try dsimp only
  repeat' first
    | exact (rfl : (_ : Bool) = _)
    | with_reducible exact Only.refl
    | with_reducible assumption
    | with_reducible refine OnlyOut.next ?_
    | with_reducible refine OnlyOut.ite ?_ ?_
    | with_reducible refine Only.ite ?_ ?_
    | with_reducible apply Only.step (only_State_fedSend ..)
    | with_reducible apply Only.step (only_State_hearHello ..)
    | with_reducible apply Only.step (only_State_setBit ..)
    | with_reducible apply Only.step (only_State_setFld ..)
    | split
    | refine Only.ite ?_ ?_
    | refine OnlyOut.ite ?_ ?_

theorem only_execHelloRetry (s : State) : OnlyOut [.fed] s (execHelloRetry s) := by
  unfold execHelloRetry
  try dsimp only
  repeat' first
    | exact (rfl : (_ : Bool) = _)
    | with_reducible exact Only.refl
    | with_reducible assumption
    | with_reducible refine OnlyOut.next ?_
    | with_reducible refine OnlyOut.ite ?_ ?_
    | with_reducible refine Only.ite ?_ ?_
    | with_reducible apply Only.step (only_State_fedSend ..)
    | with_reducible refine Only.foldl (fun _ _ _ => ?_) ?_
    | split
    | refine Only.ite ?_ ?_
    | refine OnlyOut.ite ?_ ?_

theorem only_execMemberLeaveTimeout (node : Nat) (s : State) : OnlyOut [.fed] s (execMemberLeaveTimeout node s) := by
  unfold execMemberLeaveTimeout
  try dsimp only
  repeat' first
    | exact (rfl : (_ : Bool) = _)
    | exact Or.inl (by decide)
    | with_reducible exact Or.inr rfl
    | with_reducible exact Only.refl
    | with_reducible refine OnlyOut.next ?_
    | with_reducible refine OnlyOut.ite ?_ ?_
    | with_reducible refine Only.ite ?_ ?_
    | with_reducible apply Only.step (only_State_withFed ..)
    | (dsimp only [Only.mk_form]; with_reducible apply OnlyMk.intro (h0 := .inr rfl))
    | split
    | dsimp only
    | refine Only.ite ?_ ?_
    | refine OnlyOut.ite ?_ ?_

theorem only_execGmAnnounce (s : State) : OnlyOut [.regs, .fed] s (execGmAnnounce s) := by
  unfold execGmAnnounce
  try dsimp only
  repeat' first
    | exact (rfl : (_ : Bool) = _)
    | with_reducible exact Only.refl
    | with_reducible refine OnlyOut.next ?_
    | with_reducible refine OnlyOut.ite ?_ ?_
    | with_reducible refine Only.ite ?_ ?_
    | with_reducible apply Only.step (only_State_fedSend ..)
    | with_reducible apply Only.step (only_State_setFld ..)
    | split
    | dsimp only
    | refine Only.ite ?_ ?_
    | refine OnlyOut.ite ?_ ?_

theorem only_execGmElection (cands : List Announce) (s : State) : OnlyOut [.regs, .fed] s (execGmElection cands s) := by
  unfold execGmElection
  try dsimp only
  repeat' first
    | exact (rfl : (_ : Bool) = _)
    | with_reducible exact Only.refl
    | with_reducible refine OnlyOut.next ?_
    | with_reducible refine OnlyOut.ite ?_ ?_
    | with_reducible refine Only.ite ?_ ?_
    | with_reducible apply Only.step (only_State_elect ..)
    | split
    | refine Only.ite ?_ ?_
    | refine OnlyOut.ite ?_ ?_

theorem only_execSyncExchange (offset : Int) (delay : Nat) (link : LinkId) (s : State) : OnlyOut [.regs, .fed] s (execSyncExchange offset delay link s) := by
  unfold execSyncExchange
  try dsimp only
  repeat' first
    | exact (rfl : (_ : Bool) = _)
    | exact Or.inl (by decide)
    | with_reducible exact Or.inr rfl
    | with_reducible exact Only.refl
    | with_reducible assumption
    | with_reducible refine OnlyOut.next ?_
    | with_reducible refine OnlyOut.ite ?_ ?_
    | with_reducible refine Only.ite ?_ ?_
    | with_reducible apply Only.step (only_State_setBit ..)
    | with_reducible apply Only.step (only_State_setFld ..)
    | with_reducible apply Only.step (only_State_withFed ..)
    | (dsimp only [Only.mk_form]; with_reducible apply OnlyMk.intro (h0 := .inr rfl))
    | split
    | refine Only.ite ?_ ?_
    | refine OnlyOut.ite ?_ ?_

theorem only_execPitSet (s : State) : OnlyOut [.freeIx, .regs, .evr, .fed] s (execPitSet s) := by
  unfold execPitSet
  try dsimp only
  repeat' first
    | exact (rfl : (_ : Bool) = _)
    | with_reducible exact Only.refl
    | with_reducible refine OnlyOut.next ?_
    | with_reducible refine OnlyOut.ite ?_ ?_
    | with_reducible refine OnlyOut.command ⟨rfl, rfl, rfl⟩ Only.refl ?_
    | with_reducible refine Only.ite ?_ ?_
    | with_reducible apply Only.step (only_State_hostTime ..)
    | with_reducible apply Only.step (only_State_pitDone ..)
    | split
    | refine Only.ite ?_ ?_
    | refine OnlyOut.ite ?_ ?_

theorem only_execPitSetAtPps (s : State) : OnlyOut [.freeIx, .regs, .evr, .fed] s (execPitSetAtPps s) := by
  unfold execPitSetAtPps
  try dsimp only
  repeat' first
    | exact (rfl : (_ : Bool) = _)
    | exact Or.inl (by decide)
    | with_reducible exact Or.inr rfl
    | with_reducible exact Only.refl
    | with_reducible assumption
    | with_reducible refine OnlyOut.next ?_
    | with_reducible refine OnlyOut.ite ?_ ?_
    | with_reducible refine OnlyOut.command ⟨rfl, rfl, rfl⟩ Only.refl ?_
    | with_reducible refine Only.ite ?_ ?_
    | with_reducible apply Only.step (only_State_pitDone ..)
    | with_reducible apply Only.step (only_State_setBit ..)
    | with_reducible apply Only.step (only_State_withFed ..)
    | (dsimp only [Only.mk_form]; with_reducible apply OnlyMk.intro (h0 := .inr rfl))
    | split
    | refine Only.ite ?_ ?_
    | refine OnlyOut.ite ?_ ?_

theorem only_execPitSetUtc (s : State) : OnlyOut [.freeIx, .regs, .evr] s (execPitSetUtc s) := by
  unfold execPitSetUtc
  try dsimp only
  repeat' first
    | exact (rfl : (_ : Bool) = _)
    | with_reducible exact Only.refl
    | with_reducible refine OnlyOut.next ?_
    | with_reducible refine OnlyOut.ite ?_ ?_
    | with_reducible refine OnlyOut.command ⟨rfl, rfl, rfl⟩ Only.refl ?_
    | with_reducible refine Only.ite ?_ ?_
    | with_reducible apply Only.step (only_State_pitDone ..)
    | with_reducible apply Only.step (only_State_setFld ..)
    | split
    | refine Only.ite ?_ ?_
    | refine OnlyOut.ite ?_ ?_

theorem only_execPitResync (s : State) : OnlyOut [.freeIx, .regs, .evr, .fed] s (execPitResync s) := by
  unfold execPitResync
  try dsimp only
  repeat' first
    | exact (rfl : (_ : Bool) = _)
    | with_reducible exact Only.refl
    | with_reducible refine OnlyOut.next ?_
    | with_reducible refine OnlyOut.ite ?_ ?_
    | with_reducible refine OnlyOut.command ⟨rfl, rfl, rfl⟩ Only.refl ?_
    | with_reducible refine Only.ite ?_ ?_
    | with_reducible apply Only.step (only_State_fedSend ..)
    | with_reducible apply Only.step (only_State_pitDone ..)
    | split
    | refine Only.ite ?_ ?_
    | refine OnlyOut.ite ?_ ?_

theorem only_State_reclass (s : State) (cls : Nat) : Only [.regs, .fed] s (State.reclass s cls) := by
  unfold State.reclass
  try dsimp only
  repeat' first
    | exact (rfl : (_ : Bool) = _)
    | with_reducible exact Only.refl
    | with_reducible refine Only.ite ?_ ?_
    | with_reducible apply Only.step (only_State_elect ..)
    | with_reducible apply Only.step (only_State_setFld ..)
    | split
    | refine Only.ite ?_ ?_

theorem only_execPpsInEdge (s : State) : OnlyOut [.regs, .fed] s (execPpsInEdge s) := by
  unfold execPpsInEdge
  try dsimp only
  repeat' first
    | exact (rfl : (_ : Bool) = _)
    | exact Or.inl (by decide)
    | with_reducible exact Or.inr rfl
    | with_reducible exact Only.refl
    | with_reducible refine OnlyOut.next ?_
    | with_reducible refine OnlyOut.ite ?_ ?_
    | with_reducible refine Only.ite ?_ ?_
    | with_reducible apply Only.step (only_State_hostTime ..)
    | with_reducible apply Only.step (only_State_pitDone ..)
    | with_reducible apply Only.step (only_State_reclass ..)
    | with_reducible apply Only.step (only_State_setBit ..)
    | with_reducible apply Only.step (only_State_withFed ..)
    | (dsimp only [Only.mk_form]; with_reducible apply OnlyMk.intro (h0 := .inr rfl))
    | split
    | dsimp only
    | refine Only.ite ?_ ?_
    | refine OnlyOut.ite ?_ ?_

theorem only_execPpsInLoss (s : State) : OnlyOut [.regs, .fed] s (execPpsInLoss s) := by
  unfold execPpsInLoss
  try dsimp only
  repeat' first
    | exact (rfl : (_ : Bool) = _)
    | exact Or.inl (by decide)
    | with_reducible exact Or.inr rfl
    | with_reducible exact Only.refl
    | with_reducible refine OnlyOut.next ?_
    | with_reducible refine OnlyOut.ite ?_ ?_
    | with_reducible refine Only.ite ?_ ?_
    | with_reducible apply Only.step (only_State_pitDone ..)
    | with_reducible apply Only.step (only_State_reclass ..)
    | with_reducible apply Only.step (only_State_setBit ..)
    | with_reducible apply Only.step (only_State_withFed ..)
    | (dsimp only [Only.mk_form]; with_reducible apply OnlyMk.intro (h0 := .inr rfl))
    | split
    | refine Only.ite ?_ ?_
    | refine OnlyOut.ite ?_ ?_

theorem only_execPpsHoldoverExpiry (s : State) : OnlyOut [.regs, .fed] s (execPpsHoldoverExpiry s) := by
  unfold execPpsHoldoverExpiry
  try dsimp only
  repeat' first
    | exact (rfl : (_ : Bool) = _)
    | with_reducible exact Only.refl
    | with_reducible refine OnlyOut.next ?_
    | with_reducible refine OnlyOut.ite ?_ ?_
    | with_reducible refine Only.ite ?_ ?_
    | with_reducible apply Only.step (only_State_reclass ..)
    | with_reducible apply Only.step (only_State_setBit ..)
    | split
    | refine Only.ite ?_ ?_
    | refine OnlyOut.ite ?_ ?_

theorem only_execPpsOutSecond (s : State) : OnlyOut [.fed] s (execPpsOutSecond s) := by
  unfold execPpsOutSecond
  try dsimp only
  repeat' first
    | exact (rfl : (_ : Bool) = _)
    | exact Or.inl (by decide)
    | with_reducible exact Or.inr rfl
    | with_reducible exact Only.refl
    | with_reducible refine OnlyOut.next ?_
    | with_reducible refine OnlyOut.ite ?_ ?_
    | with_reducible refine Only.ite ?_ ?_
    | with_reducible apply Only.step (only_State_withFed ..)
    | (dsimp only [Only.mk_form]; with_reducible apply OnlyMk.intro (h0 := .inr rfl))
    | split
    | refine Only.ite ?_ ?_
    | refine OnlyOut.ite ?_ ?_

theorem only_State_pluckSpinup (s : State) (mask : Nat) : Only [.regs, .ports] s (State.pluckSpinup s mask) := by
  unfold State.pluckSpinup
  try dsimp only
  repeat' first
    | exact (rfl : (_ : Bool) = _)
    | with_reducible exact Only.refl
    | with_reducible assumption
    | with_reducible refine Only.ite ?_ ?_
    | with_reducible apply Only.step (only_State_powerUpPort ..)
    | with_reducible refine Only.foldl (fun _ _ _ => ?_) ?_
    | split
    | refine Only.ite ?_ ?_

theorem only_State_pluckScrub (s : State) (mask : Nat) : Only [.rbe] s (State.pluckScrub s mask) := by
  unfold State.pluckScrub
  try dsimp only
  repeat' first
    | exact (rfl : (_ : Bool) = _)
    | exact Or.inl (by decide)
    | with_reducible exact Or.inr rfl
    | with_reducible exact Only.refl
    | with_reducible assumption
    | with_reducible refine Only.ite ?_ ?_
    | with_reducible apply Only.step (only_State_startScrub ..)
    | with_reducible refine Only.foldl (fun _ _ _ => ?_) ?_
    | (dsimp only [Only.mk_form]; with_reducible apply OnlyMk.intro (h0 := .inr rfl))
    | split
    | refine Only.ite ?_ ?_

theorem only_State_pluckAct (s : State) (i : Nat) (q : PluckReq) (te t : Nat) : Only [.regs, .evr, .cal, .rbe, .dma, .ports, .fed, .nrg, .fans] s (State.pluckAct s i q te t).2 := by
  unfold State.pluckAct
  try dsimp only
  repeat' first
    | exact (rfl : (_ : Bool) = _)
    | exact Or.inl (by decide)
    | with_reducible exact Or.inr rfl
    | with_reducible exact Only.refl
    | with_reducible assumption
    | with_reducible refine Only.ite ?_ ?_
    | with_reducible apply Only.step (only_State_cutBarrier ..)
    | with_reducible apply Only.step (only_State_dmaTrigger ..)
    | with_reducible apply Only.step (only_State_emit ..)
    | with_reducible apply Only.step (only_State_pluckScrub ..)
    | with_reducible apply Only.step (only_State_pluckSpinup ..)
    | with_reducible apply Only.step (only_State_requestTest ..)
    | with_reducible apply Only.step (only_State_setFld ..)
    | with_reducible apply Only.step (only_State_updateFans ..)
    | (dsimp only [Only.mk_form]; with_reducible apply OnlyMk.intro (h0 := .inr rfl))
    | split
    | dsimp only
    | refine Only.ite ?_ ?_

theorem only_State_noteLate (s : State) (i : Nat) (e : PluckEnt) (late : Nat) : Only [.evr, .fed] s (State.noteLate s i e late).2 := by
  unfold State.noteLate
  try dsimp only
  repeat' first
    | exact (rfl : (_ : Bool) = _)
    | exact Or.inl (by decide)
    | with_reducible exact Or.inr rfl
    | with_reducible exact Only.refl
    | with_reducible apply Only.step (only_State_emit ..)
    | with_reducible apply Only.step (only_State_putPluck ..)
    | (dsimp only [Only.mk_form]; with_reducible apply OnlyMk.intro (h0 := .inr rfl))
    | dsimp only

theorem only_State_runPluck (s : State) (i : Nat) (e : PluckEnt) (t : Nat) : Only [.regs, .evr, .cal, .rbe, .dma, .ports, .fed, .nrg, .fans] s (State.runPluck s i e t) := by
  unfold State.runPluck
  try dsimp only
  repeat' first
    | exact (rfl : (_ : Bool) = _)
    | exact Or.inl (by decide)
    | with_reducible exact Or.inr rfl
    | with_reducible exact Only.refl
    | with_reducible assumption
    | with_reducible refine Only.ite ?_ ?_
    | with_reducible apply Only.step (only_State_dropPluck ..)
    | with_reducible apply Only.step (only_State_incFld ..)
    | with_reducible apply Only.step (only_State_noteLate ..)
    | with_reducible apply Only.step (only_State_pluckAct ..)
    | with_reducible apply Only.step (only_State_putPluck ..)
    | with_reducible apply Only.step (only_State_settlePluck ..)
    | (dsimp only [Only.mk_form]; with_reducible apply OnlyMk.intro (h0 := .inr rfl))
    | split
    | dsimp only
    | refine Only.ite ?_ ?_
    | refine Only.step (Only.ofSnd (only_State_noteLate _ _ _ _) (by with_reducible assumption)) (by decide) ?_
    | refine Only.step (Only.ofSnd (only_State_pluckAct _ _ _ _ _) (by with_reducible assumption)) (by decide) ?_

theorem only_State_firePluck (s : State) (i : Nat) (e : PluckEnt) (t : Nat) : Only [.regs, .pwr, .evr, .cal, .rbe, .dma, .ports, .fed, .nrg, .fans] s (State.firePluck s i e t) := by
  unfold State.firePluck
  try dsimp only
  repeat' first
    | exact (rfl : (_ : Bool) = _)
    | with_reducible exact Only.refl
    | with_reducible refine Only.ite ?_ ?_
    | with_reducible apply Only.step (only_State_runPluck ..)
    | with_reducible apply Only.step (only_State_wakeUp ..)
    | split
    | refine Only.ite ?_ ?_

theorem only_execPluckFire (index : Fin 256) (s : State) : OnlyOut [.regs, .pwr, .evr, .cal, .rbe, .dma, .ports, .fed, .nrg, .fans] s (execPluckFire index s) := by
  unfold execPluckFire
  try dsimp only
  repeat' first
    | exact (rfl : (_ : Bool) = _)
    | exact Or.inl (by decide)
    | with_reducible exact Or.inr rfl
    | with_reducible exact Only.refl
    | with_reducible assumption
    | with_reducible refine OnlyOut.next ?_
    | with_reducible refine OnlyOut.ite ?_ ?_
    | with_reducible refine Only.ite ?_ ?_
    | with_reducible apply Only.step (only_State_firePluck ..)
    | (dsimp only [Only.mk_form]; with_reducible apply OnlyMk.intro (h0 := .inr rfl))
    | split
    | dsimp only
    | refine Only.ite ?_ ?_
    | refine OnlyOut.ite ?_ ?_

theorem only_execPluckEarlyWake (index : Fin 256) (s : State) : OnlyOut [.regs, .pwr] s (execPluckEarlyWake index s) := by
  unfold execPluckEarlyWake
  try dsimp only
  repeat' first
    | exact (rfl : (_ : Bool) = _)
    | exact Or.inl (by decide)
    | with_reducible exact Or.inr rfl
    | with_reducible exact Only.refl
    | with_reducible assumption
    | with_reducible refine OnlyOut.next ?_
    | with_reducible refine OnlyOut.ite ?_ ?_
    | with_reducible refine Only.ite ?_ ?_
    | with_reducible apply Only.step (only_State_wakeUp ..)
    | (dsimp only [Only.mk_form]; with_reducible apply OnlyMk.intro (h0 := .inr rfl))
    | split
    | refine Only.ite ?_ ?_
    | refine OnlyOut.ite ?_ ?_

theorem only_execWriteBarrierDone (index : Fin 256) (s : State) : OnlyOut [.evr, .fed] s (execWriteBarrierDone index s) := by
  unfold execWriteBarrierDone
  try dsimp only
  repeat' first
    | exact (rfl : (_ : Bool) = _)
    | exact Or.inl (by decide)
    | with_reducible exact Or.inr rfl
    | with_reducible exact Only.refl
    | with_reducible assumption
    | with_reducible refine OnlyOut.next ?_
    | with_reducible refine OnlyOut.ite ?_ ?_
    | with_reducible refine Only.ite ?_ ?_
    | with_reducible apply Only.step (only_State_emit ..)
    | with_reducible apply Only.step (only_State_settlePluck ..)
    | with_reducible apply Only.step (only_State_withFed ..)
    | (dsimp only [Only.mk_form]; with_reducible apply OnlyMk.intro (h0 := .inr rfl))
    | split
    | dsimp only
    | refine Only.ite ?_ ?_
    | refine OnlyOut.ite ?_ ?_

theorem only_execPluckWrite (s : State) : OnlyOut [.freeIx, .regs, .evr, .err, .fed] s (execPluckWrite s) := by
  unfold execPluckWrite
  try dsimp only
  repeat' first
    | exact (rfl : (_ : Bool) = _)
    | with_reducible exact Only.refl
    | with_reducible refine OnlyOut.next ?_
    | with_reducible refine OnlyOut.ite ?_ ?_
    | with_reducible refine OnlyOut.command ⟨rfl, rfl, rfl⟩ Only.refl ?_
    | with_reducible refine Only.ite ?_ ?_
    | with_reducible apply Only.step (only_State_pluckDone ..)
    | with_reducible apply Only.step (only_State_writePluck ..)
    | split
    | dsimp only
    | refine Only.ite ?_ ?_
    | refine OnlyOut.ite ?_ ?_
    | refine Only.step (Only.ofSnd (only_State_writePluck _) (by with_reducible assumption)) (by decide) ?_

theorem only_State_distDone (s : State) : Only [.regs, .fed] s (State.distDone s) := by
  unfold State.distDone
  try dsimp only
  repeat' first
    | exact (rfl : (_ : Bool) = _)
    | exact Or.inl (by decide)
    | with_reducible exact Or.inr rfl
    | with_reducible exact Only.refl
    | with_reducible apply Only.step (only_State_setBit ..)
    | with_reducible apply Only.step (only_State_withFed ..)
    | (dsimp only [Only.mk_form]; with_reducible apply OnlyMk.intro (h0 := .inr rfl))

theorem only_execPluckWriteFed (s : State) : OnlyOut [.freeIx, .regs, .evr, .err, .fed] s (execPluckWriteFed s) := by
  unfold execPluckWriteFed
  try dsimp only
  repeat' first
    | exact (rfl : (_ : Bool) = _)
    | exact Or.inl (by decide)
    | with_reducible exact Or.inr rfl
    | with_reducible exact Only.refl
    | with_reducible refine OnlyOut.next ?_
    | with_reducible refine OnlyOut.ite ?_ ?_
    | with_reducible refine OnlyOut.command ⟨rfl, rfl, rfl⟩ Only.refl ?_
    | with_reducible refine Only.ite ?_ ?_
    | with_reducible apply Only.step (only_State_distDone ..)
    | with_reducible apply Only.step (only_State_fedSend ..)
    | with_reducible apply Only.step (only_State_pluckDone ..)
    | with_reducible apply Only.step (only_State_setBit ..)
    | with_reducible apply Only.step (only_State_setFld ..)
    | with_reducible apply Only.step (only_State_withFed ..)
    | with_reducible apply Only.step (only_State_writePluck ..)
    | (dsimp only [Only.mk_form]; with_reducible apply OnlyMk.intro (h0 := .inr rfl))
    | split
    | dsimp only
    | refine Only.ite ?_ ?_
    | refine OnlyOut.ite ?_ ?_
    | refine Only.step (Only.ofSnd (only_State_writePluck _) (by with_reducible assumption)) (by decide) ?_

theorem only_execPluckCancel (s : State) : OnlyOut [.freeIx, .regs, .evr, .fed] s (execPluckCancel s) := by
  unfold execPluckCancel
  try dsimp only
  repeat' first
    | exact (rfl : (_ : Bool) = _)
    | exact Or.inl (by decide)
    | with_reducible exact Or.inr rfl
    | with_reducible exact Only.refl
    | with_reducible assumption
    | with_reducible refine OnlyOut.next ?_
    | with_reducible refine OnlyOut.command ⟨rfl, rfl, rfl⟩ Only.refl ?_
    | with_reducible apply Only.step (only_State_pluckDone ..)
    | with_reducible apply Only.step (only_State_putPluck ..)
    | (dsimp only [Only.mk_form]; with_reducible apply OnlyMk.intro (h0 := .inr rfl))
    | split

theorem only_State_cancelAll (s : State) (origin id : Nat) : Only [.fed] s (State.cancelAll s origin id) := by
  unfold State.cancelAll
  try dsimp only
  repeat' first
    | exact (rfl : (_ : Bool) = _)
    | exact Or.inl (by decide)
    | with_reducible exact Or.inr rfl
    | with_reducible exact Only.refl
    | with_reducible refine Only.ite ?_ ?_
    | with_reducible apply Only.step (only_State_withFed ..)
    | (dsimp only [Only.mk_form]; with_reducible apply OnlyMk.intro (h0 := .inr rfl))
    | split
    | dsimp only
    | refine Only.ite ?_ ?_

theorem only_execPluckCancelFed (s : State) : OnlyOut [.freeIx, .regs, .evr, .fed] s (execPluckCancelFed s) := by
  unfold execPluckCancelFed
  try dsimp only
  repeat' first
    | exact (rfl : (_ : Bool) = _)
    | exact Or.inl (by decide)
    | with_reducible exact Or.inr rfl
    | with_reducible exact Only.refl
    | with_reducible assumption
    | with_reducible refine OnlyOut.next ?_
    | with_reducible refine OnlyOut.ite ?_ ?_
    | with_reducible refine OnlyOut.command ⟨rfl, rfl, rfl⟩ Only.refl ?_
    | with_reducible refine Only.ite ?_ ?_
    | with_reducible apply Only.step (only_State_cancelAll ..)
    | with_reducible apply Only.step (only_State_fedSend ..)
    | with_reducible apply Only.step (only_State_pluckDone ..)
    | (dsimp only [Only.mk_form]; with_reducible apply OnlyMk.intro (h0 := .inr rfl))
    | split
    | refine Only.ite ?_ ?_
    | refine OnlyOut.ite ?_ ?_

theorem only_execPluckReceive (m : PluckMsg) (s : State) : OnlyOut [.regs, .pwr, .evr, .cal, .rbe, .dma, .ports, .fed, .nrg, .fans] s (execPluckReceive m s) := by
  unfold execPluckReceive
  try dsimp only
  repeat' first
    | exact (rfl : (_ : Bool) = _)
    | exact Or.inl (by decide)
    | with_reducible exact Or.inr rfl
    | with_reducible exact Only.refl
    | with_reducible assumption
    | with_reducible refine OnlyOut.next ?_
    | with_reducible refine OnlyOut.ite ?_ ?_
    | with_reducible refine Only.ite ?_ ?_
    | with_reducible apply Only.step (only_State_fedSend ..)
    | with_reducible apply Only.step (only_State_firePluck ..)
    | with_reducible apply Only.step (only_State_installPluck ..)
    | (dsimp only [Only.mk_form]; with_reducible apply OnlyMk.intro (h0 := .inr rfl))
    | split
    | refine Only.ite ?_ ?_
    | refine OnlyOut.ite ?_ ?_

theorem only_execPluckAnswerReceive (ans : PluckAnswer) (s : State) : OnlyOut [.regs, .fed] s (execPluckAnswerReceive ans s) := by
  unfold execPluckAnswerReceive
  try dsimp only
  repeat' first
    | exact (rfl : (_ : Bool) = _)
    | exact Or.inl (by decide)
    | with_reducible exact Or.inr rfl
    | with_reducible exact Only.refl
    | with_reducible assumption
    | with_reducible refine OnlyOut.next ?_
    | with_reducible refine OnlyOut.ite ?_ ?_
    | with_reducible refine Only.ite ?_ ?_
    | with_reducible apply Only.step (only_State_distDone ..)
    | with_reducible apply Only.step (only_State_incFld ..)
    | with_reducible apply Only.step (only_State_withFed ..)
    | (dsimp only [Only.mk_form]; with_reducible apply OnlyMk.intro (h0 := .inr rfl))
    | split
    | refine Only.ite ?_ ?_
    | refine OnlyOut.ite ?_ ?_

theorem only_execPluckDistTimeout (s : State) : OnlyOut [.regs, .fed] s (execPluckDistTimeout s) := by
  unfold execPluckDistTimeout
  try dsimp only
  repeat' first
    | exact (rfl : (_ : Bool) = _)
    | with_reducible exact Only.refl
    | with_reducible refine OnlyOut.next ?_
    | with_reducible refine OnlyOut.ite ?_ ?_
    | with_reducible refine Only.ite ?_ ?_
    | with_reducible apply Only.step (only_State_distDone ..)
    | split
    | refine Only.ite ?_ ?_
    | refine OnlyOut.ite ?_ ?_

theorem only_execPluckCancelReceive (origin id : Nat) (s : State) : OnlyOut [.fed] s (execPluckCancelReceive origin id s) := by
  unfold execPluckCancelReceive
  try dsimp only
  repeat' first
    | exact (rfl : (_ : Bool) = _)
    | with_reducible exact Only.refl
    | with_reducible refine OnlyOut.next ?_
    | with_reducible refine OnlyOut.ite ?_ ?_
    | with_reducible refine Only.ite ?_ ?_
    | with_reducible apply Only.step (only_State_cancelAll ..)
    | split
    | refine Only.ite ?_ ?_
    | refine OnlyOut.ite ?_ ?_


/-! ### Machine/EventLog.lean -/

theorem only_execEventRecord (s : State) : OnlyOut [.regs, .evr] s (execEventRecord s) := by
  unfold execEventRecord
  try dsimp only
  repeat' first
    | exact (rfl : (_ : Bool) = _)
    | exact Or.inl (by decide)
    | with_reducible exact Or.inr rfl
    | with_reducible exact Only.refl
    | with_reducible assumption
    | with_reducible refine OnlyOut.next ?_
    | with_reducible apply Only.step (only_State_recordOne ..)
    | (dsimp only [Only.mk_form]; with_reducible apply OnlyMk.intro (h0 := .inr rfl))
    | split

theorem only_execEventFreeze (iface : Iface) (s : State) : OnlyOut [.regs] s (execEventFreeze iface s) := by
  unfold execEventFreeze
  try dsimp only
  repeat' first
    | exact (rfl : (_ : Bool) = _)
    | with_reducible exact Only.refl
    | with_reducible refine OnlyOut.next ?_
    | with_reducible refine OnlyOut.ite ?_ ?_
    | with_reducible refine Only.ite ?_ ?_
    | with_reducible apply Only.step (only_State_evrDone ..)
    | with_reducible apply Only.step (only_State_setBit ..)
    | with_reducible apply Only.step (only_State_setFld ..)
    | split
    | refine Only.ite ?_ ?_
    | refine OnlyOut.ite ?_ ?_

theorem only_execEventUnfreeze (iface : Iface) (s : State) : OnlyOut [.regs, .evr] s (execEventUnfreeze iface s) := by
  unfold execEventUnfreeze
  try dsimp only
  repeat' first
    | exact (rfl : (_ : Bool) = _)
    | with_reducible exact Only.refl
    | with_reducible refine OnlyOut.next ?_
    | with_reducible refine OnlyOut.ite ?_ ?_
    | with_reducible refine Only.ite ?_ ?_
    | with_reducible apply Only.step (only_State_evrDone ..)
    | with_reducible apply Only.step (only_State_thaw ..)
    | split
    | refine Only.ite ?_ ?_
    | refine OnlyOut.ite ?_ ?_

theorem only_execFreezeTimeout (s : State) : OnlyOut [.regs, .evr] s (execFreezeTimeout s) := by
  unfold execFreezeTimeout
  try dsimp only
  repeat' first
    | exact (rfl : (_ : Bool) = _)
    | with_reducible exact Only.refl
    | with_reducible refine OnlyOut.next ?_
    | with_reducible refine OnlyOut.ite ?_ ?_
    | with_reducible refine Only.ite ?_ ?_
    | with_reducible apply Only.step (only_State_emit ..)
    | with_reducible apply Only.step (only_State_thaw ..)
    | split
    | refine Only.ite ?_ ?_
    | refine OnlyOut.ite ?_ ?_

theorem only_execEventChallenge (s : State) : OnlyOut [.freeIx, .regs, .evr] s (execEventChallenge s) := by
  unfold execEventChallenge
  try dsimp only
  repeat' first
    | exact (rfl : (_ : Bool) = _)
    | exact Or.inl (by decide)
    | with_reducible exact Or.inr rfl
    | with_reducible exact Only.refl
    | with_reducible refine OnlyOut.next ?_
    | with_reducible refine OnlyOut.ite ?_ ?_
    | with_reducible refine Only.ite ?_ ?_
    | with_reducible apply Only.step (only_State_draw ..)
    | with_reducible apply Only.step (only_State_evrDone ..)
    | with_reducible apply Only.step (only_State_setBit ..)
    | with_reducible apply Only.step (only_State_setFld ..)
    | (dsimp only [Only.mk_form]; with_reducible apply OnlyMk.intro (h0 := .inr rfl))
    | split
    | refine Only.ite ?_ ?_
    | refine OnlyOut.ite ?_ ?_

theorem only_execChallengeExpiry (s : State) : OnlyOut [.regs, .evr] s (execChallengeExpiry s) := by
  unfold execChallengeExpiry
  try dsimp only
  repeat' first
    | exact (rfl : (_ : Bool) = _)
    | exact Or.inl (by decide)
    | with_reducible exact Or.inr rfl
    | with_reducible exact Only.refl
    | with_reducible refine OnlyOut.next ?_
    | with_reducible apply Only.step (only_State_setBit ..)
    | with_reducible apply Only.step (only_State_setFld ..)
    | (dsimp only [Only.mk_form]; with_reducible apply OnlyMk.intro (h0 := .inr rfl))

theorem only_execLockoutEnd (s : State) : OnlyOut [.regs] s (execLockoutEnd s) := by
  unfold execLockoutEnd
  try dsimp only
  repeat' first
    | exact (rfl : (_ : Bool) = _)
    | with_reducible exact Only.refl
    | with_reducible refine OnlyOut.next ?_
    | with_reducible apply Only.step (only_State_setBit ..)

theorem only_execEventClear (iface : Iface) (s : State) : OnlyOut [.regs, .evr] s (execEventClear iface s) := by
  unfold execEventClear
  try dsimp only
  repeat' first
    | exact (rfl : (_ : Bool) = _)
    | with_reducible exact Only.refl
    | with_reducible refine OnlyOut.next ?_
    | with_reducible refine OnlyOut.ite ?_ ?_
    | with_reducible refine Only.ite ?_ ?_
    | with_reducible apply Only.step (only_State_evrDone ..)
    | with_reducible apply Only.step (only_State_finishClear ..)
    | with_reducible apply Only.step (only_State_thaw ..)
    | with_reducible apply Only.step (only_State_tokenChecked ..)
    | split
    | refine Only.ite ?_ ?_
    | refine OnlyOut.ite ?_ ?_

theorem only_execEventAuthSet (iface : Iface) (s : State) : OnlyOut [.regs, .evr] s (execEventAuthSet iface s) := by
  unfold execEventAuthSet
  try dsimp only
  repeat' first
    | exact (rfl : (_ : Bool) = _)
    | exact Or.inl (by decide)
    | with_reducible exact Or.inr rfl
    | with_reducible exact Only.refl
    | with_reducible assumption
    | with_reducible refine OnlyOut.next ?_
    | with_reducible refine OnlyOut.ite ?_ ?_
    | with_reducible refine Only.ite ?_ ?_
    | with_reducible apply Only.step (only_State_emit ..)
    | with_reducible apply Only.step (only_State_evrDone ..)
    | with_reducible apply Only.step (only_State_tokenChecked ..)
    | (dsimp only [Only.mk_form]; with_reducible apply OnlyMk.intro (h0 := .inr rfl))
    | split
    | dsimp only
    | refine Only.ite ?_ ?_
    | refine OnlyOut.ite ?_ ?_

theorem only_execSoundpostNow (s : State) : OnlyOut [.freeIx, .regs, .evr] s (execSoundpostNow s) := by
  unfold execSoundpostNow
  try dsimp only
  repeat' first
    | exact (rfl : (_ : Bool) = _)
    | exact Or.inl (by decide)
    | with_reducible exact Or.inr rfl
    | with_reducible exact Only.refl
    | with_reducible assumption
    | with_reducible refine OnlyOut.next ?_
    | with_reducible refine OnlyOut.ite ?_ ?_
    | with_reducible refine Only.ite ?_ ?_
    | with_reducible apply Only.step (only_State_evrDone ..)
    | with_reducible apply Only.step (only_State_writeSoundpost ..)
    | (dsimp only [Only.mk_form]; with_reducible apply OnlyMk.intro (h0 := .inr rfl))
    | split
    | refine Only.ite ?_ ?_
    | refine OnlyOut.ite ?_ ?_

theorem only_execSoundpostVaultCopy (s : State) : OnlyOut [.evr] s (execSoundpostVaultCopy s) := by
  unfold execSoundpostVaultCopy
  try dsimp only
  repeat' first
    | exact (rfl : (_ : Bool) = _)
    | with_reducible exact Only.refl
    | with_reducible refine OnlyOut.next ?_
    | with_reducible apply Only.step (only_State_copyVault ..)

theorem only_execSoundpostFlashCopy (s : State) : OnlyOut [.evr] s (execSoundpostFlashCopy s) := by
  unfold execSoundpostFlashCopy
  try dsimp only
  repeat' first
    | exact (rfl : (_ : Bool) = _)
    | with_reducible exact Only.refl
    | with_reducible refine OnlyOut.next ?_
    | with_reducible apply Only.step (only_State_copyFlash ..)


/-! ### Machine/CmdRegs.lean -/

theorem only_State_ran {l : List Part} {s : State} {o : Out State} (h : OnlyOut l s o) : Only l s (s.ran o) := by
  obtain ⟨t, rfl, k⟩ := h
  exact k


theorem only_State_cmdStage (s : State) (i : Iface) (code : Nat) : Only [.freeIx, .regs, .pwr, .evr, .img, .cal, .hfe, .wc, .rbe, .ports, .fed, .fans] s (State.cmdStage s i code) := by
  unfold State.cmdStage
  try dsimp only
  repeat' first
    | exact (rfl : (_ : Bool) = _)
    | exact Or.inl (by decide)
    | with_reducible exact Or.inr rfl
    | with_reducible exact Only.refl
    | with_reducible assumption
    | with_reducible apply Only.step (only_State_ran (only_execActivateLive ..))
    | with_reducible apply Only.step (only_State_ran (only_execActivateReset ..))
    | with_reducible apply Only.step (only_State_ran (only_execSelectCopyA ..))
    | with_reducible apply Only.step (only_State_ran (only_execSelectCopyB ..))
    | with_reducible apply Only.step (only_State_ran (only_execStageAbort ..))
    | with_reducible apply Only.step (only_State_ran (only_execStageCommit ..))
    | with_reducible apply Only.step (only_State_ran (only_execStageOpen ..))
    | (dsimp only [Only.mk_form]; with_reducible apply OnlyMk.intro (h0 := .inr rfl))
    | split

theorem only_State_cmdCal (s : State) (code : Nat) : Only [.freeIx, .regs, .evr, .cal, .hfe, .wc, .nrg] s (State.cmdCal s code) := by
  unfold State.cmdCal
  try dsimp only
  repeat' first
    | exact (rfl : (_ : Bool) = _)
    | exact Or.inl (by decide)
    | with_reducible exact Or.inr rfl
    | with_reducible exact Only.refl
    | with_reducible assumption
    | with_reducible apply Only.step (only_State_ran (only_execFactoryCommit ..))
    | with_reducible apply Only.step (only_State_ran (only_execRestoreFactory ..))
    | with_reducible apply Only.step (only_State_ran (only_execRestorePrevious ..))
    | (dsimp only [Only.mk_form]; with_reducible apply OnlyMk.intro (h0 := .inr rfl))
    | split

theorem only_State_cmdScMaint (s : State) (value : Nat) : Only [.freeIx, .regs, .evr, .sc] s (State.cmdScMaint s value) := by
  unfold State.cmdScMaint
  try dsimp only
  repeat' first
    | exact (rfl : (_ : Bool) = _)
    | exact Or.inl (by decide)
    | with_reducible exact Or.inr rfl
    | with_reducible exact Only.refl
    | with_reducible assumption
    | with_reducible apply Only.step (only_State_ran (only_execScMaintClean ..))
    | with_reducible apply Only.step (only_State_ran (only_execScMaintCleanInvalidate ..))
    | with_reducible apply Only.step (only_State_ran (only_execScMaintInvalidate ..))
    | (dsimp only [Only.mk_form]; with_reducible apply OnlyMk.intro (h0 := .inr rfl))
    | split

theorem only_State_cmdScRange (s : State) (code : Nat) : Only [.freeIx, .regs, .evr, .sc] s (State.cmdScRange s code) := by
  unfold State.cmdScRange
  try dsimp only
  repeat' first
    | exact (rfl : (_ : Bool) = _)
    | exact Or.inl (by decide)
    | with_reducible exact Or.inr rfl
    | with_reducible exact Only.refl
    | with_reducible assumption
    | with_reducible apply Only.step (only_State_ran (only_execScInvalidateWays ..))
    | with_reducible apply Only.step (only_State_ran (only_execScPreload ..))
    | with_reducible apply Only.step (only_State_ran (only_execScRangeClean ..))
    | with_reducible apply Only.step (only_State_ran (only_execScRangeCleanInvalidate ..))
    | with_reducible apply Only.step (only_State_ran (only_execScRangeInvalidate ..))
    | (dsimp only [Only.mk_form]; with_reducible apply OnlyMk.intro (h0 := .inr rfl))
    | split

theorem only_State_cmdArr (s : State) (a : ArrayId) (value : Nat) : Only [.freeIx, .regs, .evr, .hfe, .wc, .rbe, .ports, .capo] s (State.cmdArr s a value) := by
  unfold State.cmdArr
  try dsimp only
  repeat' first
    | exact (rfl : (_ : Bool) = _)
    | exact Or.inl (by decide)
    | with_reducible exact Or.inr rfl
    | with_reducible exact Only.refl
    | with_reducible assumption
    | with_reducible apply Only.step (only_State_ran (only_execArrCopyback ..))
    | with_reducible apply Only.step (only_State_ran (only_execArrFailMember ..))
    | with_reducible apply Only.step (only_State_ran (only_execArrPause ..))
    | with_reducible apply Only.step (only_State_ran (only_execArrResume ..))
    | with_reducible apply Only.step (only_State_ran (only_execArrScrubNow ..))
    | (dsimp only [Only.mk_form]; with_reducible apply OnlyMk.intro (h0 := .inr rfl))
    | split

theorem only_State_cmdKey (s : State) (code : Nat) : Only [.regs, .hfe, .wc, .cip] s (State.cmdKey s code) := by
  unfold State.cmdKey
  try dsimp only
  repeat' first
    | exact (rfl : (_ : Bool) = _)
    | exact Or.inl (by decide)
    | with_reducible exact Or.inr rfl
    | with_reducible exact Only.refl
    | with_reducible assumption
    | with_reducible apply Only.step (only_State_ran (only_execKeySetOwner ..))
    | with_reducible apply Only.step (only_State_ran (only_execKeyUnload ..))
    | with_reducible apply Only.step (only_State_ran (only_execKeyZeroizeAll ..))
    | with_reducible apply Only.step (only_State_ran (only_execTrngRestart ..))
    | (dsimp only [Only.mk_form]; with_reducible apply OnlyMk.intro (h0 := .inr rfl))
    | split

theorem only_State_cmdPort (s : State) (p : PortId) (code : Nat) : Only [.freeIx, .regs, .evr, .img, .hfe, .wc, .rbe, .ports, .capo] s (State.cmdPort s p code) := by
  unfold State.cmdPort
  try dsimp only
  repeat' first
    | exact (rfl : (_ : Bool) = _)
    | exact Or.inl (by decide)
    | with_reducible exact Or.inr rfl
    | with_reducible exact Only.refl
    | with_reducible assumption
    | with_reducible apply Only.step (only_State_ran (only_execPortAccept ..))
    | with_reducible apply Only.step (only_State_ran (only_execPortPowerCycle ..))
    | with_reducible apply Only.step (only_State_ran (only_execPortRelease ..))
    | with_reducible apply Only.step (only_State_ran (only_execPortResetLink ..))
    | with_reducible apply Only.step (only_State_ran (only_execPortSpinupNow ..))
    | (dsimp only [Only.mk_form]; with_reducible apply OnlyMk.intro (h0 := .inr rfl))
    | split

theorem only_State_cmdWc (s : State) (code : Nat) : Only [.freeIx, .regs, .evr, .wc, .capo] s (State.cmdWc s code) := by
  unfold State.cmdWc
  try dsimp only
  repeat' first
    | exact (rfl : (_ : Bool) = _)
    | exact Or.inl (by decide)
    | with_reducible exact Or.inr rfl
    | with_reducible exact Only.refl
    | with_reducible assumption
    | with_reducible apply Only.step (only_State_ran (only_execWcClearIdle ..))
    | with_reducible apply Only.step (only_State_ran (only_execWcDestageAll ..))
    | (dsimp only [Only.mk_form]; with_reducible apply OnlyMk.intro (h0 := .inr rfl))
    | split

theorem only_State_cmdNrg (s : State) (value : Nat) : Only [.freeIx, .regs, .evr, .hfe, .wc, .nrg] s (State.cmdNrg s value) := by
  unfold State.cmdNrg
  try dsimp only
  repeat' first
    | exact (rfl : (_ : Bool) = _)
    | exact Or.inl (by decide)
    | with_reducible exact Or.inr rfl
    | with_reducible exact Only.refl
    | with_reducible assumption
    | with_reducible refine Only.ite ?_ ?_
    | with_reducible apply Only.step (only_State_ran (only_execLearnAbort ..))
    | with_reducible apply Only.step (only_State_ran (only_execNrgLearn ..))
    | with_reducible apply Only.step (only_State_ran (only_execNrgRetest ..))
    | with_reducible apply Only.step (only_State_ran (only_execNrgSamePack ..))
    | with_reducible apply Only.step (only_State_ran (only_execNrgTest ..))
    | (dsimp only [Only.mk_form]; with_reducible apply OnlyMk.intro (h0 := .inr rfl))
    | split
    | refine Only.ite ?_ ?_

theorem only_State_cmdFan (s : State) (n : FanId) (code : Nat) : Only [.freeIx, .regs, .evr, .cal, .fans] s (State.cmdFan s n code) := by
  unfold State.cmdFan
  try dsimp only
  repeat' first
    | exact (rfl : (_ : Bool) = _)
    | exact Or.inl (by decide)
    | with_reducible exact Or.inr rfl
    | with_reducible exact Only.refl
    | with_reducible assumption
    | with_reducible apply Only.step (only_State_ran (only_execFanClearFault ..))
    | with_reducible apply Only.step (only_State_ran (only_execFanRelearn ..))
    | with_reducible apply Only.step (only_State_ran (only_execFanRestart ..))
    | (dsimp only [Only.mk_form]; with_reducible apply OnlyMk.intro (h0 := .inr rfl))
    | split

theorem only_State_cmdEvr (s : State) (i : Iface) (code : Nat) : Only [.freeIx, .regs, .evr] s (State.cmdEvr s i code) := by
  unfold State.cmdEvr
  try dsimp only
  repeat' first
    | exact (rfl : (_ : Bool) = _)
    | exact Or.inl (by decide)
    | with_reducible exact Or.inr rfl
    | with_reducible exact Only.refl
    | with_reducible assumption
    | with_reducible apply Only.step (only_State_ran (only_execEventAuthSet ..))
    | with_reducible apply Only.step (only_State_ran (only_execEventChallenge ..))
    | with_reducible apply Only.step (only_State_ran (only_execEventClear ..))
    | with_reducible apply Only.step (only_State_ran (only_execEventFreeze ..))
    | with_reducible apply Only.step (only_State_ran (only_execEventUnfreeze ..))
    | with_reducible apply Only.step (only_State_ran (only_execSoundpostNow ..))
    | (dsimp only [Only.mk_form]; with_reducible apply OnlyMk.intro (h0 := .inr rfl))
    | split

theorem only_State_cmdPit (s : State) (code : Nat) : Only [.freeIx, .regs, .evr, .fed] s (State.cmdPit s code) := by
  unfold State.cmdPit
  try dsimp only
  repeat' first
    | exact (rfl : (_ : Bool) = _)
    | exact Or.inl (by decide)
    | with_reducible exact Or.inr rfl
    | with_reducible exact Only.refl
    | with_reducible assumption
    | with_reducible apply Only.step (only_State_ran (only_execPitResync ..))
    | with_reducible apply Only.step (only_State_ran (only_execPitSet ..))
    | with_reducible apply Only.step (only_State_ran (only_execPitSetAtPps ..))
    | with_reducible apply Only.step (only_State_ran (only_execPitSetUtc ..))
    | (dsimp only [Only.mk_form]; with_reducible apply OnlyMk.intro (h0 := .inr rfl))
    | split

theorem only_State_cmdPluck (s : State) (code : Nat) : Only [.freeIx, .regs, .evr, .err, .fed] s (State.cmdPluck s code) := by
  unfold State.cmdPluck
  try dsimp only
  repeat' first
    | exact (rfl : (_ : Bool) = _)
    | exact Or.inl (by decide)
    | with_reducible exact Or.inr rfl
    | with_reducible exact Only.refl
    | with_reducible assumption
    | with_reducible apply Only.step (only_State_ran (only_execPluckCancel ..))
    | with_reducible apply Only.step (only_State_ran (only_execPluckCancelFed ..))
    | with_reducible apply Only.step (only_State_ran (only_execPluckWrite ..))
    | with_reducible apply Only.step (only_State_ran (only_execPluckWriteFed ..))
    | (dsimp only [Only.mk_form]; with_reducible apply OnlyMk.intro (h0 := .inr rfl))
    | split

theorem only_State_cmdCapo (s : State) (i : Iface) (code : Nat) : Only [.freeIx, .regs, .evr, .hfe, .wc, .rbe, .ports, .capo] s (State.cmdCapo s i code) := by
  unfold State.cmdCapo
  try dsimp only
  repeat' first
    | exact (rfl : (_ : Bool) = _)
    | exact Or.inl (by decide)
    | with_reducible exact Or.inr rfl
    | with_reducible exact Only.refl
    | with_reducible assumption
    | with_reducible apply Only.step (only_State_ran (only_execCapoClaim ..))
    | with_reducible apply Only.step (only_State_ran (only_execCapoClearFault ..))
    | with_reducible apply Only.step (only_State_ran (only_execCapoForceClaim ..))
    | with_reducible apply Only.step (only_State_ran (only_execCapoRelease ..))
    | (dsimp only [Only.mk_form]; with_reducible apply OnlyMk.intro (h0 := .inr rfl))
    | split

theorem only_State_cmdIndexed (s : State) (i : Iface) (addr value : Nat) (so : State) (ho : State.cmdIndexed s i addr value = some so) : Only [.freeIx, .regs, .evr, .img, .cal, .hfe, .wc, .rbe, .dma, .ports, .capo, .fans] s so := by
  unfold State.cmdIndexed at ho
  try dsimp only at ho
  repeat' first
    | contradiction
    | (have ho := Option.some.inj ho; subst ho)
    | split at ho
  all_goals repeat' first
    | exact (rfl : (_ : Bool) = _)
    | exact Or.inl (by decide)
    | with_reducible exact Or.inr rfl
    | with_reducible exact Only.refl
    | with_reducible assumption
    | with_reducible refine Only.ite ?_ ?_
    | with_reducible apply Only.step (only_State_cmdArr ..)
    | with_reducible apply Only.step (only_State_cmdFan ..)
    | with_reducible apply Only.step (only_State_cmdPort ..)
    | with_reducible apply Only.step (only_State_ran (only_execDmaStart ..))
    | (dsimp only [Only.mk_form]; with_reducible apply OnlyMk.intro (h0 := .inr rfl))
    | split
    | refine Only.ite ?_ ?_

theorem only_State_runReg (s : State) (i : Iface) (r : CmdReg) (value : Nat) : Only [.freeIx, .regs, .pwr, .evr, .err, .img, .cal, .hfe, .wc, .rbe, .sc, .cip, .ports, .capo, .fed, .nrg, .fans] s (State.runReg s i r value) := by
  unfold State.runReg
  try dsimp only
  repeat' first
    | exact (rfl : (_ : Bool) = _)
    | exact Or.inl (by decide)
    | with_reducible exact Or.inr rfl
    | with_reducible exact Only.refl
    | with_reducible assumption
    | with_reducible refine Only.ite ?_ ?_
    | with_reducible apply Only.step (only_State_cmdCal ..)
    | with_reducible apply Only.step (only_State_cmdCapo ..)
    | with_reducible apply Only.step (only_State_cmdEvr ..)
    | with_reducible apply Only.step (only_State_cmdKey ..)
    | with_reducible apply Only.step (only_State_cmdNrg ..)
    | with_reducible apply Only.step (only_State_cmdPit ..)
    | with_reducible apply Only.step (only_State_cmdPluck ..)
    | with_reducible apply Only.step (only_State_cmdScMaint ..)
    | with_reducible apply Only.step (only_State_cmdScRange ..)
    | with_reducible apply Only.step (only_State_cmdStage ..)
    | with_reducible apply Only.step (only_State_cmdWc ..)
    | with_reducible apply Only.step (only_State_ran (only_execCapoRenew ..))
    | with_reducible apply Only.step (only_State_ran (only_execErrRestart ..))
    | with_reducible apply Only.step (only_State_ran (only_execKatRun ..))
    | (dsimp only [Only.mk_form]; with_reducible apply OnlyMk.intro (h0 := .inr rfl))
    | split
    | refine Only.ite ?_ ?_

theorem only_State_runCommand (s : State) (i : Iface) (addr value : Nat) (so : State) (ho : State.runCommand s i addr value = some so) : Only [.freeIx, .regs, .pwr, .evr, .err, .img, .cal, .hfe, .wc, .rbe, .sc, .dma, .cip, .ports, .capo, .fed, .nrg, .fans] s so := by
  unfold State.runCommand at ho
  try dsimp only at ho
  repeat' first
    | contradiction
    | (have ho := Option.some.inj ho; subst ho)
    | split at ho
  all_goals repeat' first
    | exact (rfl : (_ : Bool) = _)
    | exact Or.inl (by decide)
    | with_reducible exact Or.inr rfl
    | with_reducible exact Only.refl
    | with_reducible assumption
    | with_reducible apply Only.step (only_State_runReg ..)
    | (dsimp only [Only.mk_form]; with_reducible apply OnlyMk.intro (h0 := .inr rfl))
    | split
    | refine Only.step (only_State_cmdIndexed _ _ _ _ _ (by with_reducible assumption)) (by decide) ?_


/-! ### Machine/HostIo.lean -/

theorem only_execDoorbellWrite (fn : FnIdx) (sq tail : Nat) (s : State) : OnlyOut [.regs, .pwr, .hfe] s (execDoorbellWrite fn sq tail s) := by
  unfold execDoorbellWrite
  try dsimp only
  repeat' first
    | exact (rfl : (_ : Bool) = _)
    | exact Or.inl (by decide)
    | with_reducible exact Or.inr rfl
    | with_reducible exact Only.refl
    | with_reducible assumption
    | with_reducible refine OnlyOut.next ?_
    | with_reducible refine OnlyOut.ite ?_ ?_
    | with_reducible refine Only.ite ?_ ?_
    | with_reducible apply Only.step (only_State_wakeUp ..)
    | (dsimp only [Only.mk_form]; with_reducible apply OnlyMk.intro (h0 := .inr rfl))
    | split
    | dsimp only
    | refine Only.ite ?_ ?_
    | refine OnlyOut.ite ?_ ?_

theorem only_execCqHeadDoorbell (fn : FnIdx) (cq head : Nat) (s : State) : OnlyOut [.regs, .pwr, .hfe] s (execCqHeadDoorbell fn cq head s) := by
  unfold execCqHeadDoorbell
  try dsimp only
  repeat' first
    | exact (rfl : (_ : Bool) = _)
    | exact Or.inl (by decide)
    | with_reducible exact Or.inr rfl
    | with_reducible exact Only.refl
    | with_reducible assumption
    | with_reducible refine OnlyOut.next ?_
    | with_reducible refine OnlyOut.ite ?_ ?_
    | with_reducible refine Only.ite ?_ ?_
    | with_reducible apply Only.step (only_State_wakeUp ..)
    | (dsimp only [Only.mk_form]; with_reducible apply OnlyMk.intro (h0 := .inr rfl))
    | split
    | refine Only.ite ?_ ?_
    | refine OnlyOut.ite ?_ ?_

theorem only_execFetchGrant (fn : FnIdx) (sq : Nat) (entries : List SqEntry) (s : State) : OnlyOut [.regs, .hfe, .lat] s (execFetchGrant fn sq entries s) := by
  unfold execFetchGrant
  try dsimp only
  repeat' first
    | exact (rfl : (_ : Bool) = _)
    | exact Or.inl (by decide)
    | with_reducible exact Or.inr rfl
    | with_reducible exact Only.refl
    | with_reducible assumption
    | with_reducible refine OnlyOut.next ?_
    | with_reducible refine OnlyOut.ite ?_ ?_
    | with_reducible refine Only.ite ?_ ?_
    | with_reducible apply Only.step (only_State_fetchBurst ..)
    | with_reducible apply Only.step (only_State_pauseClass ..)
    | with_reducible apply Only.step (only_State_refillLoad ..)
    | (dsimp only [Only.mk_form]; with_reducible apply OnlyMk.intro (h0 := .inr rfl))
    | split
    | dsimp only
    | refine Only.ite ?_ ?_
    | refine OnlyOut.ite ?_ ?_

theorem only_execRangeLockGrant (tag : Nat) (s : State) : OnlyOut [.regs, .hfe] s (execRangeLockGrant tag s) := by
  unfold execRangeLockGrant
  try dsimp only
  repeat' first
    | exact (rfl : (_ : Bool) = _)
    | exact Or.inl (by decide)
    | with_reducible exact Or.inr rfl
    | with_reducible exact Only.refl
    | with_reducible assumption
    | with_reducible refine OnlyOut.next ?_
    | with_reducible refine OnlyOut.ite ?_ ?_
    | with_reducible refine Only.ite ?_ ?_
    | with_reducible apply Only.step (only_State_lockGrant ..)
    | (dsimp only [Only.mk_form]; with_reducible apply OnlyMk.intro (h0 := .inr rfl))
    | split
    | refine Only.ite ?_ ?_
    | refine OnlyOut.ite ?_ ?_

theorem only_execNvmeFlush (tag : Nat) (s : State) : OnlyOut [.regs, .hfe, .wc, .ports] s (execNvmeFlush tag s) := by
  unfold execNvmeFlush
  try dsimp only
  repeat' first
    | exact (rfl : (_ : Bool) = _)
    | exact Or.inl (by decide)
    | with_reducible exact Or.inr rfl
    | with_reducible exact Only.refl
    | with_reducible assumption
    | with_reducible refine OnlyOut.next ?_
    | with_reducible refine OnlyOut.ite ?_ ?_
    | with_reducible refine Only.ite ?_ ?_
    | with_reducible apply Only.step (only_State_collect ..)
    | with_reducible apply Only.step (only_State_lowerClass ..)
    | with_reducible apply Only.step (only_State_putCmd ..)
    | (dsimp only [Only.mk_form]; with_reducible apply OnlyMk.intro (h0 := .inr rfl))
    | split
    | refine Only.ite ?_ ?_
    | refine OnlyOut.ite ?_ ?_

theorem only_execNvmeWrite (tag : Nat) (plain : List Blob) (s : State) : OnlyOut [.freeIx, .regs, .evr, .hfe, .wc, .rbe, .cip, .capo] s (execNvmeWrite tag plain s) := by
  unfold execNvmeWrite
  try dsimp only
  repeat' first
    | exact (rfl : (_ : Bool) = _)
    | exact Or.inl (by decide)
    | with_reducible exact Or.inr rfl
    | with_reducible exact Only.refl
    | with_reducible assumption
    | with_reducible refine OnlyOut.next ?_
    | with_reducible refine OnlyOut.ite ?_ ?_
    | with_reducible refine Only.ite ?_ ?_
    | with_reducible apply Only.step (only_State_mapped ..)
    | with_reducible apply Only.step (only_State_reserve ..)
    | (dsimp only [Only.mk_form]; with_reducible apply OnlyMk.intro (h0 := .inr rfl))
    | split
    | dsimp only
    | refine Only.ite ?_ ?_
    | refine OnlyOut.ite ?_ ?_
    | refine Only.step (Only.ofSnd (only_State_mapped _ _) (by with_reducible assumption)) (by decide) ?_

theorem only_execWriteZeroes (tag : Nat) (s : State) : OnlyOut [.freeIx, .regs, .evr, .hfe, .wc, .rbe, .cip, .capo] s (execWriteZeroes tag s) := by
  unfold execWriteZeroes
  try dsimp only
  repeat' first
    | exact (rfl : (_ : Bool) = _)
    | exact Or.inl (by decide)
    | with_reducible exact Or.inr rfl
    | with_reducible exact Only.refl
    | with_reducible assumption
    | with_reducible refine OnlyOut.next ?_
    | with_reducible refine OnlyOut.ite ?_ ?_
    | with_reducible refine Only.ite ?_ ?_
    | with_reducible apply Only.step (only_State_mapped ..)
    | with_reducible apply Only.step (only_State_reserve ..)
    | (dsimp only [Only.mk_form]; with_reducible apply OnlyMk.intro (h0 := .inr rfl))
    | split
    | dsimp only
    | refine Only.ite ?_ ?_
    | refine OnlyOut.ite ?_ ?_
    | refine Only.step (Only.ofSnd (only_State_mapped _ _) (by with_reducible assumption)) (by decide) ?_

theorem only_execDatasetManagement (tag : Nat) (s : State) : OnlyOut [.freeIx, .regs, .evr, .hfe, .wc, .rbe, .cip, .capo] s (execDatasetManagement tag s) := by
  unfold execDatasetManagement
  try dsimp only
  repeat' first
    | exact (rfl : (_ : Bool) = _)
    | exact Or.inl (by decide)
    | with_reducible exact Or.inr rfl
    | with_reducible exact Only.refl
    | with_reducible assumption
    | with_reducible refine OnlyOut.next ?_
    | with_reducible refine OnlyOut.ite ?_ ?_
    | with_reducible refine Only.ite ?_ ?_
    | with_reducible apply Only.step (only_State_collect ..)
    | with_reducible apply Only.step (only_State_mapped ..)
    | with_reducible apply Only.step (only_State_reserve ..)
    | (dsimp only [Only.mk_form]; with_reducible apply OnlyMk.intro (h0 := .inr rfl))
    | split
    | dsimp only
    | refine Only.ite ?_ ?_
    | refine OnlyOut.ite ?_ ?_
    | refine Only.step (Only.ofSnd (only_State_mapped _ _) (by with_reducible assumption)) (by decide) ?_

theorem only_execNvmeRead (tag : Nat) (s : State) : OnlyOut [.regs, .evr, .hfe, .wc, .rbe, .cip, .ports, .capo] s (execNvmeRead tag s) := by
  unfold execNvmeRead
  try dsimp only
  repeat' first
    | exact (rfl : (_ : Bool) = _)
    | exact Or.inl (by decide)
    | with_reducible exact Or.inr rfl
    | with_reducible exact Only.refl
    | with_reducible assumption
    | with_reducible refine OnlyOut.next ?_
    | with_reducible refine OnlyOut.ite ?_ ?_
    | with_reducible refine Only.ite ?_ ?_
    | with_reducible apply Only.step (only_State_mapped ..)
    | with_reducible apply Only.step (only_State_readPass ..)
    | (dsimp only [Only.mk_form]; with_reducible apply OnlyMk.intro (h0 := .inr rfl))
    | split
    | dsimp only
    | refine Only.ite ?_ ?_
    | refine OnlyOut.ite ?_ ?_
    | refine Only.step (Only.ofSnd (only_State_mapped _ _) (by with_reducible assumption)) (by decide) ?_

theorem only_execNvmeVerify (tag : Nat) (s : State) : OnlyOut [.regs, .evr, .hfe, .wc, .rbe, .cip, .ports, .capo] s (execNvmeVerify tag s) := by
  unfold execNvmeVerify
  try dsimp only
  repeat' first
    | exact (rfl : (_ : Bool) = _)
    | exact Or.inl (by decide)
    | with_reducible exact Or.inr rfl
    | with_reducible exact Only.refl
    | with_reducible assumption
    | with_reducible refine OnlyOut.next ?_
    | with_reducible refine OnlyOut.ite ?_ ?_
    | with_reducible refine Only.ite ?_ ?_
    | with_reducible apply Only.step (only_State_mapped ..)
    | with_reducible apply Only.step (only_State_readPass ..)
    | (dsimp only [Only.mk_form]; with_reducible apply OnlyMk.intro (h0 := .inr rfl))
    | split
    | dsimp only
    | refine Only.ite ?_ ?_
    | refine OnlyOut.ite ?_ ?_
    | refine Only.step (Only.ofSnd (only_State_mapped _ _) (by with_reducible assumption)) (by decide) ?_

theorem only_execCcEnable (fn : FnIdx) (asqs acqs : Nat) (s : State) : OnlyOut [.evr, .hfe] s (execCcEnable fn asqs acqs s) := by
  unfold execCcEnable
  try dsimp only
  repeat' first
    | exact (rfl : (_ : Bool) = _)
    | exact Or.inl (by decide)
    | with_reducible exact Or.inr rfl
    | with_reducible exact Only.refl
    | with_reducible assumption
    | with_reducible refine OnlyOut.next ?_
    | with_reducible refine OnlyOut.ite ?_ ?_
    | with_reducible refine Only.ite ?_ ?_
    | with_reducible apply Only.step (only_State_emit ..)
    | with_reducible apply Only.step (only_State_putFn ..)
    | (dsimp only [Only.mk_form]; with_reducible apply OnlyMk.intro (h0 := .inr rfl))
    | split
    | dsimp only
    | refine Only.ite ?_ ?_
    | refine OnlyOut.ite ?_ ?_

theorem only_execFunctionReset (fn : FnIdx) (kind : ResetKind) (s : State) : OnlyOut [.freeIx, .regs, .pwr, .evr, .map, .hfe, .wc, .vault, .sc, .dma, .cip, .ports, .capo] s (execFunctionReset fn kind s) := by
  unfold execFunctionReset
  try dsimp only
  repeat' first
    | exact (rfl : (_ : Bool) = _)
    | exact Or.inl (by decide)
    | with_reducible exact Or.inr rfl
    | with_reducible exact Only.refl
    | with_reducible assumption
    | with_reducible refine OnlyOut.next ?_
    | with_reducible refine OnlyOut.ite ?_ ?_
    | with_reducible refine Only.ite ?_ ?_
    | with_reducible apply Only.step (only_State_fenceWake ..)
    | with_reducible apply Only.step (only_State_portQuiesce ..)
    | with_reducible apply Only.step (only_State_quiesce ..)
    | (dsimp only [Only.mk_form]; with_reducible apply OnlyMk.intro (h0 := .inr rfl))
    | split
    | refine Only.ite ?_ ?_
    | refine OnlyOut.ite ?_ ?_

theorem only_execFunctionResetComplete (fn : FnIdx) (s : State) : OnlyOut [.hfe] s (execFunctionResetComplete fn s) := by
  unfold execFunctionResetComplete
  try dsimp only
  repeat' first
    | exact (rfl : (_ : Bool) = _)
    | exact Or.inl (by decide)
    | with_reducible exact Or.inr rfl
    | with_reducible exact Only.refl
    | with_reducible refine OnlyOut.next ?_
    | with_reducible refine OnlyOut.ite ?_ ?_
    | with_reducible refine Only.ite ?_ ?_
    | with_reducible apply Only.step (only_State_putFn ..)
    | (dsimp only [Only.mk_form]; with_reducible apply OnlyMk.intro (h0 := .inr rfl))
    | split
    | refine Only.ite ?_ ?_
    | refine OnlyOut.ite ?_ ?_

theorem only_State_setPerst (s : State) (hp : HostPort) (low : Bool) : Only [.pwr] s (State.setPerst s hp low) := by
  unfold State.setPerst
  try dsimp only
  repeat' first
    | exact (rfl : (_ : Bool) = _)
    | exact Or.inl (by decide)
    | with_reducible exact Or.inr rfl
    | with_reducible exact Only.refl
    | (dsimp only [Only.mk_form]; with_reducible apply OnlyMk.intro (h0 := .inr rfl))

theorem only_execPerstNAssert (hp : HostPort) (s : State) : OnlyOut [.freeIx, .regs, .pwr, .evr, .map, .hfe, .wc, .vault, .sc, .dma, .cip, .ports, .capo] s (execPerstNAssert hp s) := by
  unfold execPerstNAssert
  try dsimp only
  repeat' first
    | exact (rfl : (_ : Bool) = _)
    | with_reducible exact Only.refl
    | with_reducible refine OnlyOut.next ?_
    | with_reducible apply Only.step (only_State_portQuiesce ..)
    | with_reducible apply Only.step (only_State_setPerst ..)

theorem only_execPerstNRelease (hp : HostPort) (s : State) : OnlyOut [.pwr] s (execPerstNRelease hp s) := by
  unfold execPerstNRelease
  try dsimp only
  repeat' first
    | exact (rfl : (_ : Bool) = _)
    | with_reducible exact Only.refl
    | with_reducible refine OnlyOut.next ?_
    | with_reducible apply Only.step (only_State_setPerst ..)

theorem only_execHotReset (hp : HostPort) (s : State) : OnlyOut [.freeIx, .regs, .pwr, .evr, .map, .hfe, .wc, .vault, .sc, .dma, .cip, .ports, .capo] s (execHotReset hp s) := by
  unfold execHotReset
  try dsimp only
  repeat' first
    | exact (rfl : (_ : Bool) = _)
    | with_reducible exact Only.refl
    | with_reducible refine OnlyOut.next ?_
    | with_reducible apply Only.step (only_State_portQuiesce ..)

theorem only_State_postOne (s : State) (e : Collected) : Only [.regs, .evr, .hfe, .lat, .wc, .vault, .cip, .capo] s (State.postOne s e) := by
  unfold State.postOne
  try dsimp only
  repeat' first
    | exact (rfl : (_ : Bool) = _)
    | exact Or.inl (by decide)
    | with_reducible exact Or.inr rfl
    | with_reducible exact Only.refl
    | with_reducible assumption
    | with_reducible refine Only.ite ?_ ?_
    | with_reducible apply Only.step (only_State_countPost ..)
    | with_reducible apply Only.step (only_State_deleteWake ..)
    | with_reducible apply Only.step (only_State_fenceWake ..)
    | with_reducible apply Only.step (only_State_postEntry ..)
    | with_reducible apply Only.step (only_State_releaseCmd ..)
    | (dsimp only [Only.mk_form]; with_reducible apply OnlyMk.intro (h0 := .inr rfl))
    | split
    | refine Only.ite ?_ ?_

theorem only_execCompletionPost (hp : HostPort) (s : State) : OnlyOut [.regs, .evr, .hfe, .lat, .wc, .vault, .cip, .capo] s (execCompletionPost hp s) := by
  unfold execCompletionPost
  try dsimp only
  repeat' first
    | exact (rfl : (_ : Bool) = _)
    | exact Or.inl (by decide)
    | with_reducible exact Or.inr rfl
    | with_reducible exact Only.refl
    | with_reducible assumption
    | with_reducible refine OnlyOut.next ?_
    | with_reducible refine OnlyOut.ite ?_ ?_
    | with_reducible refine Only.ite ?_ ?_
    | with_reducible apply Only.step (only_State_postOne ..)
    | (dsimp only [Only.mk_form]; with_reducible apply OnlyMk.intro (h0 := .inr rfl))
    | split
    | refine Only.ite ?_ ?_
    | refine OnlyOut.ite ?_ ?_

theorem only_execCoalescingTimeExpiry (fn : FnIdx) (cq : Nat) (s : State) : OnlyOut [.hfe] s (execCoalescingTimeExpiry fn cq s) := by
  unfold execCoalescingTimeExpiry
  try dsimp only
  repeat' first
    | exact (rfl : (_ : Bool) = _)
    | exact Or.inl (by decide)
    | with_reducible exact Or.inr rfl
    | with_reducible exact Only.refl
    | with_reducible assumption
    | with_reducible refine OnlyOut.next ?_
    | with_reducible refine OnlyOut.ite ?_ ?_
    | with_reducible refine Only.ite ?_ ?_
    | (dsimp only [Only.mk_form]; with_reducible apply OnlyMk.intro (h0 := .inr rfl))
    | split
    | dsimp only
    | refine Only.ite ?_ ?_
    | refine OnlyOut.ite ?_ ?_


/-! ### Machine/Power.lean -/

theorem only_execAcFailNAssert (s : State) : OnlyOut [.freeIx, .regs, .latches, .heldLo, .pwr, .evr, .err, .img, .map, .hfe, .lat, .wc, .vault, .rbe, .sc, .dma, .cip, .ports, .capo, .fed, .nrg, .therm, .age] s (execAcFailNAssert s) := by
  unfold execAcFailNAssert
  try dsimp only
  repeat' first
    | exact (rfl : (_ : Bool) = _)
    | with_reducible exact Only.refl
    | with_reducible assumption
    | with_reducible refine OnlyOut.next ?_
    | with_reducible refine OnlyOut.ite ?_ ?_
    | with_reducible refine Only.ite ?_ ?_
    | with_reducible apply Only.step (only_State_abandonTransition ..)
    | with_reducible apply Only.step (only_State_abortTest ..)
    | with_reducible apply Only.step (only_State_beginRelease ..)
    | with_reducible apply Only.step (only_State_dmaDropAll ..)
    | with_reducible apply Only.step (only_State_dropBarriers ..)
    | with_reducible apply Only.step (only_State_dumpFor ..)
    | with_reducible apply Only.step (only_State_emit ..)
    | with_reducible apply Only.step (only_State_endLearn ..)
    | with_reducible apply Only.step (only_State_hold ..)
    | with_reducible apply Only.step (only_State_saveCounters ..)
    | with_reducible apply Only.step (only_State_saveMarks ..)
    | with_reducible apply Only.step (only_State_sendHealth ..)
    | with_reducible apply Only.step (only_State_setBit ..)
    | with_reducible apply Only.step (only_State_setHoldup ..)
    | with_reducible apply Only.step (only_State_thaw ..)
    | with_reducible refine Only.foldl (fun _ _ _ => ?_) ?_
    | split
    | refine Only.ite ?_ ?_
    | refine OnlyOut.ite ?_ ?_

theorem only_execAcFailNDeassert (s : State) : OnlyOut [.regs, .pwr, .evr, .cal, .hfe, .wc, .nrg] s (execAcFailNDeassert s) := by
  unfold execAcFailNDeassert
  try dsimp only
  repeat' first
    | exact (rfl : (_ : Bool) = _)
    | exact Or.inl (by decide)
    | with_reducible exact Or.inr rfl
    | with_reducible exact Only.refl
    | with_reducible assumption
    | with_reducible refine OnlyOut.next ?_
    | with_reducible refine OnlyOut.ite ?_ ?_
    | with_reducible refine Only.ite ?_ ?_
    | with_reducible apply Only.step (only_State_emit ..)
    | with_reducible apply Only.step (only_State_finishRestore ..)
    | with_reducible apply Only.step (only_State_putPack ..)
    | with_reducible apply Only.step (only_State_requestTest ..)
    | with_reducible apply Only.step (only_State_resumeMains ..)
    | with_reducible apply Only.step (only_State_setBit ..)
    | with_reducible refine Only.foldl (fun _ _ _ => ?_) ?_
    | (dsimp only [Only.mk_form]; with_reducible apply OnlyMk.intro (h0 := .inr rfl))
    | split
    | refine Only.ite ?_ ?_
    | refine OnlyOut.ite ?_ ?_

theorem only_execDumpCommit (s : State) : OnlyOut [.freeIx, .regs, .latches, .heldLo, .pwr, .evr, .err, .img, .map, .hfe, .lat, .wc, .vault, .rbe, .sc, .dma, .cip, .ports, .capo, .fed, .nrg, .therm, .age] s (execDumpCommit s) := by
  unfold execDumpCommit
  try dsimp only
  repeat' first
    | exact (rfl : (_ : Bool) = _)
    | exact Or.inl (by decide)
    | with_reducible exact Or.inr rfl
    | with_reducible exact Only.refl
    | with_reducible assumption
    | with_reducible refine OnlyOut.next ?_
    | with_reducible refine OnlyOut.ite ?_ ?_
    | with_reducible refine Only.ite ?_ ?_
    | with_reducible apply Only.step (only_State_afterDump ..)
    | with_reducible apply Only.step (only_State_incFld ..)
    | with_reducible apply Only.step (only_State_putPack ..)
    | with_reducible apply Only.step (only_State_saveCounters ..)
    | with_reducible apply Only.step (only_State_setBit ..)
    | with_reducible apply Only.step (only_State_setFld ..)
    | with_reducible refine Only.foldl (fun _ _ _ => ?_) ?_
    | (dsimp only [Only.mk_form]; with_reducible apply OnlyMk.intro (h0 := .inr rfl))
    | split
    | refine Only.ite ?_ ?_
    | refine OnlyOut.ite ?_ ?_

theorem only_State_drainBows (s : State) : Only [.regs, .rbe, .capo] s (State.drainBows s) := by
  unfold State.drainBows
  try dsimp only
  repeat' first
    | exact (rfl : (_ : Bool) = _)
    | exact Or.inl (by decide)
    | with_reducible exact Or.inr rfl
    | with_reducible exact Only.refl
    | with_reducible assumption
    | with_reducible refine Only.ite ?_ ?_
    | with_reducible apply Only.step (only_State_checkpoint ..)
    | with_reducible refine Only.foldl (fun _ _ _ => ?_) ?_
    | with_reducible refine Only.foldlFst (fun _ _ _ => ?_) ?_
    | (dsimp only [Only.mk_form]; with_reducible apply OnlyMk.intro (h0 := .inr rfl))
    | split
    | dsimp only
    | refine Only.ite ?_ ?_

theorem only_execQuiescePoint (s : State) : OnlyOut [.freeIx, .regs, .latches, .heldLo, .pwr, .evr, .err, .img, .map, .hfe, .lat, .wc, .vault, .rbe, .sc, .dma, .cip, .ports, .capo, .fed, .therm, .age] s (execQuiescePoint s) := by
  unfold execQuiescePoint
  try dsimp only
  repeat' first
    | exact (rfl : (_ : Bool) = _)
    | exact Or.inl (by decide)
    | with_reducible exact Or.inr rfl
    | with_reducible exact Only.refl
    | with_reducible refine OnlyOut.next ?_
    | with_reducible refine OnlyOut.ite ?_ ?_
    | with_reducible refine Only.ite ?_ ?_
    | with_reducible apply Only.step (only_State_drainBows ..)
    | with_reducible apply Only.step (only_State_dumpFor ..)
    | with_reducible apply Only.step (only_State_gateFast ..)
    | with_reducible apply Only.step (only_State_hold ..)
    | with_reducible apply Only.step (only_State_settle ..)
    | with_reducible apply Only.step (only_State_settleNext ..)
    | with_reducible apply Only.step (only_State_sysReset ..)
    | (dsimp only [Only.mk_form]; with_reducible apply OnlyMk.intro (h0 := .inr rfl))
    | split
    | dsimp only
    | refine Only.ite ?_ ?_
    | refine OnlyOut.ite ?_ ?_

theorem only_execWake (s : State) : OnlyOut [.regs, .pwr] s (execWake s) := by
  unfold execWake
  try dsimp only
  repeat' first
    | exact (rfl : (_ : Bool) = _)
    | with_reducible exact Only.refl
    | with_reducible refine OnlyOut.next ?_
    | with_reducible apply Only.step (only_State_wakeUp ..)

theorem only_execExitComplete (s : State) : OnlyOut [.freeIx, .regs, .latches, .heldLo, .pwr, .evr, .err, .img, .map, .hfe, .lat, .wc, .vault, .rbe, .sc, .dma, .cip, .ports, .capo, .fed, .therm, .age] s (execExitComplete s) := by
  unfold execExitComplete
  try dsimp only
  repeat' first
    | exact (rfl : (_ : Bool) = _)
    | with_reducible exact Only.refl
    | with_reducible refine OnlyOut.next ?_
    | with_reducible refine OnlyOut.ite ?_ ?_
    | with_reducible refine Only.ite ?_ ?_
    | with_reducible apply Only.step (only_State_dumpFor ..)
    | with_reducible apply Only.step (only_State_hold ..)
    | with_reducible apply Only.step (only_State_sysReset ..)
    | with_reducible apply Only.step (only_State_wakeTo ..)
    | split
    | refine Only.ite ?_ ?_
    | refine OnlyOut.ite ?_ ?_

theorem only_execHostLinkL12Exit (hp : HostPort) (s : State) : OnlyOut [.regs, .pwr] s (execHostLinkL12Exit hp s) := by
  unfold execHostLinkL12Exit
  try dsimp only
  repeat' first
    | exact (rfl : (_ : Bool) = _)
    | with_reducible exact Only.refl
    | with_reducible refine OnlyOut.next ?_
    | with_reducible refine OnlyOut.ite ?_ ?_
    | with_reducible refine Only.ite ?_ ?_
    | with_reducible apply Only.step (only_State_wakeUp ..)
    | split
    | dsimp only
    | refine Only.ite ?_ ?_
    | refine OnlyOut.ite ?_ ?_

theorem only_execApstTransition (fn : FnIdx) (s : State) : OnlyOut [.regs, .pwr, .wc, .age] s (execApstTransition fn s) := by
  unfold execApstTransition
  try dsimp only
  repeat' first
    | exact (rfl : (_ : Bool) = _)
    | with_reducible exact Only.refl
    | with_reducible refine OnlyOut.next ?_
    | with_reducible refine OnlyOut.ite ?_ ?_
    | with_reducible refine Only.ite ?_ ?_
    | with_reducible apply Only.step (only_State_beginEntry ..)
    | split
    | dsimp only
    | refine Only.ite ?_ ?_
    | refine OnlyOut.ite ?_ ?_

theorem only_execSysRstNAssert (s : State) : OnlyOut [.freeIx, .regs, .latches, .heldLo, .pwr, .evr, .err, .img, .map, .hfe, .lat, .wc, .vault, .rbe, .sc, .dma, .cip, .ports, .capo, .fed, .therm] s (execSysRstNAssert s) := by
  unfold execSysRstNAssert
  try dsimp only
  repeat' first
    | exact (rfl : (_ : Bool) = _)
    | exact Or.inl (by decide)
    | with_reducible exact Or.inr rfl
    | with_reducible exact Only.refl
    | with_reducible assumption
    | with_reducible refine OnlyOut.next ?_
    | with_reducible refine OnlyOut.ite ?_ ?_
    | with_reducible refine Only.ite ?_ ?_
    | with_reducible apply Only.step (only_State_dumpFor ..)
    | with_reducible apply Only.step (only_State_hold ..)
    | with_reducible apply Only.step (only_State_restart ..)
    | with_reducible apply Only.step (only_State_setBit ..)
    | with_reducible apply Only.step (only_State_settle ..)
    | with_reducible apply Only.step (only_State_sysReset ..)
    | (dsimp only [Only.mk_form]; with_reducible apply OnlyMk.intro (h0 := .inr rfl))
    | split
    | refine Only.ite ?_ ?_
    | refine OnlyOut.ite ?_ ?_

theorem only_execSysRstNRelease (s : State) : OnlyOut [.regs, .pwr, .evr] s (execSysRstNRelease s) := by
  unfold execSysRstNRelease
  try dsimp only
  repeat' first
    | exact (rfl : (_ : Bool) = _)
    | exact Or.inl (by decide)
    | with_reducible exact Or.inr rfl
    | with_reducible exact Only.refl
    | with_reducible refine OnlyOut.next ?_
    | with_reducible refine OnlyOut.ite ?_ ?_
    | with_reducible refine Only.ite ?_ ?_
    | with_reducible apply Only.step (only_State_emit ..)
    | with_reducible apply Only.step (only_State_setBit ..)
    | with_reducible apply Only.step (only_State_setFld ..)
    | (dsimp only [Only.mk_form]; with_reducible apply OnlyMk.intro (h0 := .inr rfl))
    | split
    | refine Only.ite ?_ ?_
    | refine OnlyOut.ite ?_ ?_

theorem only_execAonRstNAssert (s : State) : OnlyOut [.freeIx, .regs, .latches, .heldLo, .pwr, .evr, .err, .img, .map, .hfe, .lat, .wc, .vault, .rbe, .sc, .dma, .cip, .ports, .capo, .fed, .nrg, .therm, .fans] s (execAonRstNAssert s) := by
  unfold execAonRstNAssert
  try dsimp only
  repeat' first
    | exact (rfl : (_ : Bool) = _)
    | exact Or.inl (by decide)
    | with_reducible exact Or.inr rfl
    | with_reducible exact Only.refl
    | with_reducible refine OnlyOut.next ?_
    | with_reducible refine OnlyOut.ite ?_ ?_
    | with_reducible refine Only.ite ?_ ?_
    | with_reducible apply Only.step (only_State_pegboxDown ..)
    | with_reducible apply Only.step (only_State_setBit ..)
    | (dsimp only [Only.mk_form]; with_reducible apply OnlyMk.intro (h0 := .inr rfl))
    | split
    | refine Only.ite ?_ ?_
    | refine OnlyOut.ite ?_ ?_

theorem only_execPegboxWatchdogReset (s : State) : OnlyOut [.freeIx, .regs, .latches, .heldLo, .pwr, .evr, .err, .img, .map, .hfe, .lat, .wc, .vault, .rbe, .sc, .dma, .cip, .ports, .capo, .fed, .nrg, .therm, .fans] s (execPegboxWatchdogReset s) := by
  unfold execPegboxWatchdogReset
  try dsimp only
  repeat' first
    | exact (rfl : (_ : Bool) = _)
    | exact Or.inl (by decide)
    | with_reducible exact Or.inr rfl
    | with_reducible exact Only.refl
    | with_reducible refine OnlyOut.next ?_
    | with_reducible refine OnlyOut.ite ?_ ?_
    | with_reducible refine Only.ite ?_ ?_
    | with_reducible apply Only.step (only_State_pegboxDown ..)
    | with_reducible apply Only.step (only_State_setBit ..)
    | (dsimp only [Only.mk_form]; with_reducible apply OnlyMk.intro (h0 := .inr rfl))
    | split
    | refine Only.ite ?_ ?_
    | refine OnlyOut.ite ?_ ?_

theorem only_State_loadFirmware (s : State) (a b : Option FwBank) : Only [.regs, .pwr, .evr] s (State.loadFirmware s a b) := by
  unfold State.loadFirmware
  try dsimp only
  repeat' first
    | exact (rfl : (_ : Bool) = _)
    | exact Or.inl (by decide)
    | with_reducible exact Or.inr rfl
    | with_reducible exact Only.refl
    | with_reducible assumption
    | with_reducible apply Only.step (only_State_emit ..)
    | with_reducible apply Only.step (only_State_setBit ..)
    | with_reducible apply Only.step (only_State_setFld ..)
    | (dsimp only [Only.mk_form]; with_reducible apply OnlyMk.intro (h0 := .inr rfl))
    | split
    | dsimp only

theorem only_execPegboxStart (fw : FwBanks) (vault : VaultFound) (rateMbps areaMib targets blockMib : Nat) (sampleA sampleB : PackSample) (s : State) : OnlyOut [.freeIx, .regs, .latches, .heldLo, .pwr, .evr, .cal, .hfe, .wc, .vault, .cip, .fed, .nrg, .fans] s (execPegboxStart fw vault rateMbps areaMib targets blockMib sampleA sampleB s) := by
  unfold execPegboxStart
  try dsimp only
  repeat' first
    | exact (rfl : (_ : Bool) = _)
    | exact Or.inl (by decide)
    | with_reducible exact Or.inr rfl
    | with_reducible exact Only.refl
    | with_reducible assumption
    | with_reducible refine OnlyOut.next ?_
    | with_reducible refine OnlyOut.ite ?_ ?_
    | with_reducible refine Only.ite ?_ ?_
    | with_reducible apply Only.step (only_State_calFallbacks ..)
    | with_reducible apply Only.step (only_State_computeEnergy ..)
    | with_reducible apply Only.step (only_State_emit ..)
    | with_reducible apply Only.step (only_State_fansStart ..)
    | with_reducible apply Only.step (only_State_finishClear ..)
    | with_reducible apply Only.step (only_State_loadCounters ..)
    | with_reducible apply Only.step (only_State_loadFirmware ..)
    | with_reducible apply Only.step (only_State_loadStanding ..)
    | with_reducible apply Only.step (only_State_loadTrims ..)
    | with_reducible apply Only.step (only_State_packStart ..)
    | with_reducible apply Only.step (only_State_pegboxRegs ..)
    | with_reducible apply Only.step (only_State_recomputeLimit ..)
    | with_reducible apply Only.step (only_State_repairSoundposts ..)
    | with_reducible apply Only.step (only_State_runRestore ..)
    | with_reducible apply Only.step (only_State_setBit ..)
    | with_reducible apply Only.step (only_State_setFld ..)
    | with_reducible apply Only.step (only_State_showCal ..)
    | with_reducible apply Only.step (only_State_vaultStart ..)
    | with_reducible apply Only.step (only_State_writeSoundpost ..)
    | (dsimp only [Only.mk_form]; with_reducible apply OnlyMk.intro (h0 := .inr rfl))
    | split
    | dsimp only
    | refine Only.ite ?_ ?_
    | refine OnlyOut.ite ?_ ?_

theorem only_execFastBootStart (s : State) : OnlyOut [.regs, .pwr] s (execFastBootStart s) := by
  unfold execFastBootStart
  try dsimp only
  repeat' first
    | exact (rfl : (_ : Bool) = _)
    | with_reducible exact Only.refl
    | with_reducible refine OnlyOut.next ?_
    | with_reducible refine OnlyOut.ite ?_ ?_
    | with_reducible refine Only.ite ?_ ?_
    | with_reducible apply Only.step (only_State_startBoot ..)
    | split
    | refine Only.ite ?_ ?_
    | refine OnlyOut.ite ?_ ?_

theorem only_execBootHandover (s : State) : OnlyOut [.freeIx, .regs, .pwr, .evr, .img, .cal, .hfe, .lat, .wc, .rbe, .ports, .capo, .fed, .fans] s (execBootHandover s) := by
  unfold execBootHandover
  try dsimp only
  repeat' first
    | exact (rfl : (_ : Bool) = _)
    | with_reducible exact Only.refl
    | with_reducible refine OnlyOut.next ?_
    | with_reducible refine OnlyOut.ite ?_ ?_
    | with_reducible refine Only.ite ?_ ?_
    | with_reducible apply Only.step (only_State_handOver ..)
    | split
    | refine Only.ite ?_ ?_
    | refine OnlyOut.ite ?_ ?_

theorem only_execHostLinkReady (s : State) : OnlyOut [.regs, .evr, .hfe, .wc, .rbe, .capo] s (execHostLinkReady s) := by
  unfold execHostLinkReady
  try dsimp only
  repeat' first
    | exact (rfl : (_ : Bool) = _)
    | with_reducible exact Only.refl
    | with_reducible assumption
    | with_reducible refine OnlyOut.next ?_
    | with_reducible refine OnlyOut.ite ?_ ?_
    | with_reducible refine Only.ite ?_ ?_
    | with_reducible apply Only.step (only_State_noReplay ..)
    | with_reducible apply Only.step (only_State_setBit ..)
    | with_reducible apply Only.step (only_State_setFld ..)
    | split
    | refine Only.ite ?_ ?_
    | refine OnlyOut.ite ?_ ?_

theorem only_execPllLock (pll : Nat) (s : State) : OnlyOut [.pwr] s (execPllLock pll s) := by
  unfold execPllLock
  try dsimp only
  repeat' first
    | exact (rfl : (_ : Bool) = _)
    | exact Or.inl (by decide)
    | with_reducible exact Or.inr rfl
    | with_reducible exact Only.refl
    | with_reducible refine OnlyOut.next ?_
    | with_reducible refine OnlyOut.ite ?_ ?_
    | with_reducible refine Only.ite ?_ ?_
    | (dsimp only [Only.mk_form]; with_reducible apply OnlyMk.intro (h0 := .inr rfl))
    | split
    | refine Only.ite ?_ ?_
    | refine OnlyOut.ite ?_ ?_

theorem only_execPllLockTimeout (pll : Nat) (s : State) : OnlyOut [.err] s (execPllLockTimeout pll s) := by
  unfold execPllLockTimeout
  try dsimp only
  repeat' first
    | exact (rfl : (_ : Bool) = _)
    | with_reducible exact Only.refl
    | with_reducible assumption
    | with_reducible refine OnlyOut.next ?_
    | with_reducible refine OnlyOut.ite ?_ ?_
    | with_reducible refine Only.ite ?_ ?_
    | with_reducible apply Only.step (only_State_raiseFatal ..)
    | split
    | refine Only.ite ?_ ?_
    | refine OnlyOut.ite ?_ ?_

theorem only_execRailOutOfRange (s : State) : OnlyOut [.regs, .pwr, .err] s (execRailOutOfRange s) := by
  unfold execRailOutOfRange
  try dsimp only
  repeat' first
    | exact (rfl : (_ : Bool) = _)
    | exact Or.inl (by decide)
    | with_reducible exact Or.inr rfl
    | with_reducible exact Only.refl
    | with_reducible assumption
    | with_reducible refine OnlyOut.next ?_
    | with_reducible refine OnlyOut.ite ?_ ?_
    | with_reducible refine Only.ite ?_ ?_
    | with_reducible apply Only.step (only_State_raiseFatal ..)
    | with_reducible apply Only.step (only_State_setBit ..)
    | (dsimp only [Only.mk_form]; with_reducible apply OnlyMk.intro (h0 := .inr rfl))
    | split
    | refine Only.ite ?_ ?_
    | refine OnlyOut.ite ?_ ?_

theorem only_execRailRecovered (s : State) : OnlyOut [.pwr] s (execRailRecovered s) := by
  unfold execRailRecovered
  try dsimp only
  repeat' first
    | exact (rfl : (_ : Bool) = _)
    | exact Or.inl (by decide)
    | with_reducible exact Or.inr rfl
    | with_reducible exact Only.refl
    | with_reducible refine OnlyOut.next ?_
    | (dsimp only [Only.mk_form]; with_reducible apply OnlyMk.intro (h0 := .inr rfl))

theorem only_execAlwaysOnPowerUp (s : State) : OnlyOut [.regs, .pwr, .cip, .age] s (execAlwaysOnPowerUp s) := by
  unfold execAlwaysOnPowerUp
  try dsimp only
  repeat' first
    | exact (rfl : (_ : Bool) = _)
    | exact Or.inl (by decide)
    | with_reducible exact Or.inr rfl
    | with_reducible exact Only.refl
    | with_reducible refine OnlyOut.next ?_
    | with_reducible apply Only.step (only_State_loadCounters ..)
    | with_reducible apply Only.step (only_State_satFld ..)
    | with_reducible apply Only.step (only_State_saveCounters ..)
    | with_reducible apply Only.step (only_State_setBit ..)
    | with_reducible apply Only.step (only_State_setFld ..)
    | (dsimp only [Only.mk_form]; with_reducible apply OnlyMk.intro (h0 := .inr rfl))
    | dsimp only

theorem only_execPowerDown (s : State) : OnlyOut [.freeIx, .regs, .latches, .heldLo, .pwr, .evr, .err, .img, .map, .hfe, .lat, .wc, .vault, .rbe, .sc, .dma, .cip, .ports, .capo, .fed, .nrg, .therm, .fans] s (execPowerDown s) := by
  unfold execPowerDown
  try dsimp only
  repeat' first
    | exact (rfl : (_ : Bool) = _)
    | exact Or.inl (by decide)
    | with_reducible exact Or.inr rfl
    | with_reducible exact Only.refl
    | with_reducible refine OnlyOut.next ?_
    | with_reducible refine OnlyOut.ite ?_ ?_
    | with_reducible refine Only.ite ?_ ?_
    | with_reducible apply Only.step (only_State_pegboxDown ..)
    | with_reducible apply Only.step (only_State_setBit ..)
    | (dsimp only [Only.mk_form]; with_reducible apply OnlyMk.intro (h0 := .inr rfl))
    | split
    | refine Only.ite ?_ ?_
    | refine OnlyOut.ite ?_ ?_


/-! ### Machine/RegAccess.lean -/

theorem only_State_refused (s : State) (i : Iface) (reason addr : Nat) : Only [.regs, .evr] s (State.refused s i reason addr) := by
  unfold State.refused
  try dsimp only
  repeat' first
    | exact (rfl : (_ : Bool) = _)
    | with_reducible exact Only.refl
    | with_reducible refine Only.ite ?_ ?_
    | with_reducible apply Only.step (only_State_busError ..)
    | with_reducible apply Only.step (only_State_emit ..)
    | split
    | refine Only.ite ?_ ?_

theorem only_State_readMulti (s : State) (i : Iface) (f : Field) (addr : Nat) : Only [.latches] s (State.readMulti s i f addr).2 := by
  unfold State.readMulti
  try dsimp only
  repeat' first
    | exact (rfl : (_ : Bool) = _)
    | exact Or.inl (by decide)
    | with_reducible exact Or.inr rfl
    | with_reducible exact Only.refl
    | with_reducible refine Only.ite ?_ ?_
    | (dsimp only [Only.mk_form]; with_reducible apply OnlyMk.intro (h0 := .inr rfl))
    | split
    | dsimp only
    | refine Only.ite ?_ ?_

theorem only_State_writeMsix (s : State) (f : FnIdx) (addr value : Nat) : Only [.hfe] s (State.writeMsix s f addr value) := by
  unfold State.writeMsix
  try dsimp only
  repeat' first
    | exact (rfl : (_ : Bool) = _)
    | exact Or.inl (by decide)
    | with_reducible exact Or.inr rfl
    | with_reducible exact Only.refl
    | with_reducible apply Only.step (only_State_putFn ..)
    | (dsimp only [Only.mk_form]; with_reducible apply OnlyMk.intro (h0 := .inr rfl))

theorem only_State_clearRc (s : State) (addr : Nat) : Only [.regs] s (State.clearRc s addr) := by
  unfold State.clearRc
  try dsimp only
  repeat' first
    | exact (rfl : (_ : Bool) = _)
    | with_reducible exact Only.refl
    | with_reducible assumption
    | with_reducible refine Only.ite ?_ ?_
    | with_reducible apply Only.step (only_State_setFld ..)
    | with_reducible refine Only.foldl (fun _ _ _ => ?_) ?_
    | split
    | refine Only.ite ?_ ?_

theorem only_State_readWord (s : State) (i : Iface) (addr : Nat) : Only [.freeIx, .regs, .latches] s (State.readWord s i addr).2 := by
  unfold State.readWord
  try dsimp only
  repeat' first
    | exact (rfl : (_ : Bool) = _)
    | exact Or.inl (by decide)
    | with_reducible exact Or.inr rfl
    | with_reducible exact Only.refl
    | with_reducible assumption
    | with_reducible refine Only.ite ?_ ?_
    | with_reducible apply Only.step (only_State_clearRc ..)
    | with_reducible apply Only.step (only_State_readMulti ..)
    | with_reducible apply Only.step (only_State_used ..)
    | (dsimp only [Only.mk_form]; with_reducible apply OnlyMk.intro (h0 := .inr rfl))
    | split
    | dsimp only
    | refine Only.ite ?_ ?_
    | refine Only.step (Only.ofSnd (only_State_readMulti _ _ _ _) (by with_reducible assumption)) (by decide) ?_

theorem only_State_answered (s : State) (l : List Nat) : Only [.answer] s (State.answered s l) := by
  unfold State.answered
  try dsimp only
  repeat' first
    | exact (rfl : (_ : Bool) = _)
    | exact Or.inl (by decide)
    | with_reducible exact Or.inr rfl
    | with_reducible exact Only.refl
    | (dsimp only [Only.mk_form]; with_reducible apply OnlyMk.intro (h0 := .inr rfl))

theorem only_State_busRead (s : State) (i : Iface) (addr : Nat) : Only [.freeIx, .regs, .latches, .answer, .evr] s (State.busRead s i addr) := by
  unfold State.busRead
  try dsimp only
  repeat' first
    | exact (rfl : (_ : Bool) = _)
    | with_reducible exact Only.refl
    | with_reducible refine Only.ite ?_ ?_
    | with_reducible apply Only.step (only_State_answered ..)
    | with_reducible apply Only.step (only_State_readWord ..)
    | with_reducible apply Only.step (only_State_refused ..)
    | split
    | dsimp only
    | refine Only.ite ?_ ?_
    | refine Only.step (Only.ofSnd (only_State_readWord _ _ _) (by with_reducible assumption)) (by decide) ?_

theorem only_State_writeField (s : State) (f : Field) (addr value : Nat) : Only [.regs] s (State.writeField s f addr value) := by
  unfold State.writeField
  try dsimp only
  repeat' first
    | exact (rfl : (_ : Bool) = _)
    | exact Or.inl (by decide)
    | with_reducible exact Or.inr rfl
    | with_reducible exact Only.refl
    | with_reducible assumption
    | with_reducible refine Only.ite ?_ ?_
    | with_reducible apply Only.step (only_State_setFld ..)
    | (dsimp only [Only.mk_form]; with_reducible apply OnlyMk.intro (h0 := .inr rfl))
    | split
    | refine Only.ite ?_ ?_

theorem only_State_writeFields (s : State) (addr value : Nat) : Only [.regs] s (State.writeFields s addr value) := by
  unfold State.writeFields
  try dsimp only
  repeat' first
    | exact (rfl : (_ : Bool) = _)
    | with_reducible exact Only.refl
    | with_reducible assumption
    | with_reducible apply Only.step (only_State_writeField ..)
    | with_reducible refine Only.foldl (fun _ _ _ => ?_) ?_

theorem only_State_writeStage (s : State) (i : Iface) (addr value : Nat) : Only [.regs, .img] s (State.writeStage s i addr value) := by
  unfold State.writeStage
  try dsimp only
  repeat' first
    | exact (rfl : (_ : Bool) = _)
    | exact Or.inl (by decide)
    | with_reducible exact Or.inr rfl
    | with_reducible exact Only.refl
    | with_reducible refine Only.ite ?_ ?_
    | with_reducible apply Only.step (only_State_stageError ..)
    | (dsimp only [Only.mk_form]; with_reducible apply OnlyMk.intro (h0 := .inr rfl))
    | split
    | refine Only.ite ?_ ?_

theorem only_State_writeChCtrl (s : State) (n addr value : Nat) : Only [.freeIx, .regs, .sc, .dma] s (State.writeChCtrl s n addr value) := by
  unfold State.writeChCtrl
  try dsimp only
  repeat' first
    | exact (rfl : (_ : Bool) = _)
    | with_reducible exact Only.refl
    | with_reducible refine Only.ite ?_ ?_
    | with_reducible apply Only.step (only_State_dmaDrop ..)
    | with_reducible apply Only.step (only_State_writeFields ..)
    | split
    | refine Only.ite ?_ ?_

theorem only_State_writeScCtrl (s : State) (value : Nat) : Only [.regs, .sc] s (State.writeScCtrl s value) := by
  unfold State.writeScCtrl
  try dsimp only
  repeat' first
    | exact (rfl : (_ : Bool) = _)
    | with_reducible exact Only.refl
    | with_reducible apply Only.step (only_State_scEvictPath ..)
    | with_reducible apply Only.step (only_State_setBit ..)

theorem only_State_writeFanCtrl (s : State) (n value : Nat) : Only [.regs, .evr, .cal, .fans] s (State.writeFanCtrl s n value) := by
  unfold State.writeFanCtrl
  try dsimp only
  repeat' first
    | exact (rfl : (_ : Bool) = _)
    | with_reducible exact Only.refl
    | with_reducible apply Only.step (only_State_setFld ..)
    | with_reducible apply Only.step (only_State_updateFans ..)

theorem only_State_writeArrRate (s : State) (a value : Nat) : Only [.regs] s (State.writeArrRate s a value) := by
  unfold State.writeArrRate
  try dsimp only
  repeat' first
    | exact (rfl : (_ : Bool) = _)
    | with_reducible exact Only.refl
    | with_reducible apply Only.step (only_State_setFld ..)

theorem only_State_writePluckSel (s : State) (value : Nat) : Only [.regs] s (State.writePluckSel s value) := by
  unfold State.writePluckSel
  try dsimp only
  repeat' first
    | exact (rfl : (_ : Bool) = _)
    | with_reducible exact Only.refl
    | with_reducible apply Only.step (only_State_setFld ..)

theorem only_State_writeStageCmd (s : State) (i : Iface) (value : Nat) : Only [.freeIx, .regs, .pwr, .evr, .img, .cal, .hfe, .wc, .rbe, .ports, .fed, .fans] s (State.writeStageCmd s i value) := by
  unfold State.writeStageCmd
  try dsimp only
  repeat' first
    | exact (rfl : (_ : Bool) = _)
    | with_reducible exact Only.refl
    | with_reducible refine Only.ite ?_ ?_
    | with_reducible apply Only.step (only_State_cmdStage ..)
    | with_reducible apply Only.step (only_State_stageError ..)
    | split
    | refine Only.ite ?_ ?_

theorem only_State_writeMixed (s : State) (addr value : Nat) : Only [.freeIx, .regs, .evr, .map, .hfe, .lat, .rbe] s (State.writeMixed s addr value) := by
  unfold State.writeMixed
  try dsimp only
  repeat' first
    | exact (rfl : (_ : Bool) = _)
    | exact Or.inl (by decide)
    | with_reducible exact Or.inr rfl
    | with_reducible exact Only.refl
    | with_reducible refine Only.ite ?_ ?_
    | with_reducible apply Only.step (only_State_writeFields ..)
    | with_reducible apply Only.step (only_State_ran (only_execTestMappingGo ..))
    | (dsimp only [Only.mk_form]; with_reducible apply OnlyMk.intro (h0 := .inr rfl))
    | split
    | refine Only.ite ?_ ?_

theorem only_State_writeWord (s : State) (i : Iface) (addr value : Nat) : Only [.freeIx, .regs, .pwr, .evr, .err, .img, .cal, .map, .hfe, .lat, .wc, .rbe, .sc, .dma, .cip, .ports, .capo, .fed, .nrg, .fans] s (State.writeWord s i addr value) := by
  unfold State.writeWord
  try dsimp only
  repeat' first
    | exact (rfl : (_ : Bool) = _)
    | exact Or.inl (by decide)
    | with_reducible exact Or.inr rfl
    | with_reducible exact Only.refl
    | with_reducible assumption
    | with_reducible refine Only.ite ?_ ?_
    | with_reducible apply Only.step (only_State_scLock ..)
    | with_reducible apply Only.step (only_State_scRangeErr ..)
    | with_reducible apply Only.step (only_State_setFld ..)
    | with_reducible apply Only.step (only_State_tamperCfg ..)
    | with_reducible apply Only.step (only_State_winCtrl ..)
    | with_reducible apply Only.step (only_State_writeArrRate ..)
    | with_reducible apply Only.step (only_State_writeChCtrl ..)
    | with_reducible apply Only.step (only_State_writeFanCtrl ..)
    | with_reducible apply Only.step (only_State_writeMixed ..)
    | with_reducible apply Only.step (only_State_writeMsix ..)
    | with_reducible apply Only.step (only_State_writePluckSel ..)
    | with_reducible apply Only.step (only_State_writeScCtrl ..)
    | with_reducible apply Only.step (only_State_writeStage ..)
    | with_reducible apply Only.step (only_State_writeStageCmd ..)
    | (dsimp only [Only.mk_form]; with_reducible apply OnlyMk.intro (h0 := .inr rfl))
    | split
    | refine Only.ite ?_ ?_
    | refine Only.step (only_State_runCommand _ _ _ _ _ (by with_reducible assumption)) (by decide) ?_

theorem only_State_holdLo (s : State) (i : Iface) (f : Field) (value : Nat) : Only [.heldLo] s (State.holdLo s i f value) := by
  unfold State.holdLo
  try dsimp only
  repeat' first
    | exact (rfl : (_ : Bool) = _)
    | exact Or.inl (by decide)
    | with_reducible exact Or.inr rfl
    | with_reducible exact Only.refl
    | (dsimp only [Only.mk_form]; with_reducible apply OnlyMk.intro (h0 := .inr rfl))

theorem only_State_commitHi (s : State) (i : Iface) (f : Field) (value : Nat) : Only [.regs, .heldLo] s (State.commitHi s i f value) := by
  unfold State.commitHi
  try dsimp only
  repeat' first
    | exact (rfl : (_ : Bool) = _)
    | exact Or.inl (by decide)
    | with_reducible exact Or.inr rfl
    | with_reducible exact Only.refl
    | with_reducible refine Only.ite ?_ ?_
    | with_reducible apply Only.step (only_State_setFld ..)
    | (dsimp only [Only.mk_form]; with_reducible apply OnlyMk.intro (h0 := .inr rfl))
    | split
    | refine Only.ite ?_ ?_

theorem only_State_busWrite (s : State) (i : Iface) (addr value : Nat) : Only [.freeIx, .regs, .heldLo, .pwr, .evr, .err, .img, .cal, .map, .hfe, .lat, .wc, .rbe, .sc, .dma, .cip, .ports, .capo, .fed, .nrg, .fans] s (State.busWrite s i addr value).2 := by
  unfold State.busWrite
  try dsimp only
  repeat' first
    | exact (rfl : (_ : Bool) = _)
    | exact Or.inl (by decide)
    | with_reducible exact Or.inr rfl
    | with_reducible exact Only.refl
    | with_reducible assumption
    | with_reducible refine Only.ite ?_ ?_
    | with_reducible apply Only.step (only_State_commitHi ..)
    | with_reducible apply Only.step (only_State_holdLo ..)
    | with_reducible apply Only.step (only_State_refused ..)
    | with_reducible apply Only.step (only_State_writeWord ..)
    | (dsimp only [Only.mk_form]; with_reducible apply OnlyMk.intro (h0 := .inr rfl))
    | split
    | dsimp only
    | refine Only.ite ?_ ?_

theorem only_execPairLoRead (iface : Iface) (addr : Nat) (s : State) : OnlyOut [.freeIx, .regs, .latches, .answer, .evr] s (execPairLoRead iface addr s) := by
  unfold execPairLoRead
  try dsimp only
  repeat' first
    | exact (rfl : (_ : Bool) = _)
    | exact Or.inl (by decide)
    | with_reducible exact Or.inr rfl
    | with_reducible exact Only.refl
    | with_reducible assumption
    | with_reducible refine OnlyOut.next ?_
    | with_reducible refine OnlyOut.ite ?_ ?_
    | with_reducible refine Only.ite ?_ ?_
    | with_reducible apply Only.step (only_State_busRead ..)
    | (dsimp only [Only.mk_form]; with_reducible apply OnlyMk.intro (h0 := .inr rfl))
    | split
    | refine Only.ite ?_ ?_
    | refine OnlyOut.ite ?_ ?_

theorem only_execPairLoWrite (iface : Iface) (addr value : Nat) (s : State) : OnlyOut [.freeIx, .regs, .heldLo, .pwr, .evr, .err, .img, .cal, .map, .hfe, .lat, .wc, .rbe, .sc, .dma, .cip, .ports, .capo, .fed, .nrg, .fans] s (execPairLoWrite iface addr value s) := by
  unfold execPairLoWrite
  try dsimp only
  repeat' first
    | exact (rfl : (_ : Bool) = _)
    | exact Or.inl (by decide)
    | with_reducible exact Or.inr rfl
    | with_reducible exact Only.refl
    | with_reducible assumption
    | with_reducible refine OnlyOut.next ?_
    | with_reducible refine OnlyOut.ite ?_ ?_
    | with_reducible refine Only.ite ?_ ?_
    | with_reducible apply Only.step (only_State_busWrite ..)
    | (dsimp only [Only.mk_form]; with_reducible apply OnlyMk.intro (h0 := .inr rfl))
    | split
    | dsimp only
    | refine Only.ite ?_ ?_
    | refine OnlyOut.ite ?_ ?_
    | refine Only.step (Only.ofSnd (only_State_busWrite _ _ _ _) (by with_reducible assumption)) (by decide) ?_

theorem only_execPairHiWrite (iface : Iface) (addr value : Nat) (s : State) : OnlyOut [.freeIx, .regs, .heldLo, .pwr, .evr, .err, .img, .cal, .map, .hfe, .lat, .wc, .rbe, .sc, .dma, .cip, .ports, .capo, .fed, .nrg, .fans] s (execPairHiWrite iface addr value s) := by
  unfold execPairHiWrite
  try dsimp only
  repeat' first
    | exact (rfl : (_ : Bool) = _)
    | exact Or.inl (by decide)
    | with_reducible exact Or.inr rfl
    | with_reducible exact Only.refl
    | with_reducible assumption
    | with_reducible refine OnlyOut.next ?_
    | with_reducible refine OnlyOut.ite ?_ ?_
    | with_reducible refine Only.ite ?_ ?_
    | with_reducible apply Only.step (only_State_busWrite ..)
    | (dsimp only [Only.mk_form]; with_reducible apply OnlyMk.intro (h0 := .inr rfl))
    | split
    | dsimp only
    | refine Only.ite ?_ ?_
    | refine OnlyOut.ite ?_ ?_
    | refine Only.step (Only.ofSnd (only_State_busWrite _ _ _ _) (by with_reducible assumption)) (by decide) ?_

theorem only_execGroupWord0Read (iface : Iface) (addr : Nat) (s : State) : OnlyOut [.freeIx, .regs, .latches, .answer, .evr] s (execGroupWord0Read iface addr s) := by
  unfold execGroupWord0Read
  try dsimp only
  repeat' first
    | exact (rfl : (_ : Bool) = _)
    | exact Or.inl (by decide)
    | with_reducible exact Or.inr rfl
    | with_reducible exact Only.refl
    | with_reducible assumption
    | with_reducible refine OnlyOut.next ?_
    | with_reducible refine OnlyOut.ite ?_ ?_
    | with_reducible refine Only.ite ?_ ?_
    | with_reducible apply Only.step (only_State_busRead ..)
    | (dsimp only [Only.mk_form]; with_reducible apply OnlyMk.intro (h0 := .inr rfl))
    | split
    | refine Only.ite ?_ ?_
    | refine OnlyOut.ite ?_ ?_

theorem only_execRegisterWrite (iface : Iface) (addr value : Nat) (s : State) : OnlyOut [.freeIx, .regs, .heldLo, .pwr, .evr, .err, .img, .cal, .map, .hfe, .lat, .wc, .rbe, .sc, .dma, .cip, .ports, .capo, .fed, .nrg, .fans] s (execRegisterWrite iface addr value s) := by
  unfold execRegisterWrite
  try dsimp only
  repeat' first
    | exact (rfl : (_ : Bool) = _)
    | with_reducible exact Only.refl
    | with_reducible refine OnlyOut.next ?_
    | with_reducible refine OnlyOut.ite ?_ ?_
    | with_reducible refine Only.ite ?_ ?_
    | with_reducible apply Only.step (only_State_busWrite ..)
    | split
    | dsimp only
    | refine Only.ite ?_ ?_
    | refine OnlyOut.ite ?_ ?_
    | refine Only.step (Only.ofSnd (only_State_busWrite _ _ _ _) (by with_reducible assumption)) (by decide) ?_

theorem only_State_smbRead (s : State) (addr n : Nat) : Only [.freeIx, .regs, .latches, .answer, .evr] s (State.smbRead s addr n) := by
  unfold State.smbRead
  try dsimp only
  repeat' first
    | exact (rfl : (_ : Bool) = _)
    | exact Or.inl (by decide)
    | with_reducible exact Or.inr rfl
    | with_reducible exact Only.refl
    | with_reducible assumption
    | with_reducible apply Only.step (only_State_answered ..)
    | with_reducible apply Only.step (only_State_readWord ..)
    | with_reducible apply Only.step (only_State_refused ..)
    | with_reducible refine Only.foldl (fun _ _ _ => ?_) ?_
    | with_reducible refine Only.foldlFst (fun _ _ _ => ?_) ?_
    | with_reducible refine Only.foldlSnd (fun _ _ _ => ?_) ?_
    | (dsimp only [Only.mk_form]; with_reducible apply OnlyMk.intro (h0 := .inr rfl))
    | split
    | dsimp only
    | refine Only.step (Only.ofSnd (only_State_readWord _ _ _) (by with_reducible assumption)) (by decide) ?_

theorem only_execRead32 (addr : Nat) (s : State) : OnlyOut [.freeIx, .regs, .latches, .answer, .evr] s (execRead32 addr s) := by
  unfold execRead32
  try dsimp only
  repeat' first
    | exact (rfl : (_ : Bool) = _)
    | with_reducible exact Only.refl
    | with_reducible refine OnlyOut.next ?_
    | with_reducible refine OnlyOut.ite ?_ ?_
    | with_reducible refine Only.ite ?_ ?_
    | with_reducible apply Only.step (only_State_smbRead ..)
    | split
    | refine Only.ite ?_ ?_
    | refine OnlyOut.ite ?_ ?_

theorem only_execRead64 (addr : Nat) (s : State) : OnlyOut [.freeIx, .regs, .latches, .answer, .evr] s (execRead64 addr s) := by
  unfold execRead64
  try dsimp only
  repeat' first
    | exact (rfl : (_ : Bool) = _)
    | exact Or.inl (by decide)
    | with_reducible exact Or.inr rfl
    | with_reducible exact Only.refl
    | with_reducible assumption
    | with_reducible refine OnlyOut.next ?_
    | with_reducible refine OnlyOut.ite ?_ ?_
    | with_reducible refine Only.ite ?_ ?_
    | with_reducible apply Only.step (only_State_answered ..)
    | with_reducible apply Only.step (only_State_refused ..)
    | with_reducible apply Only.step (only_State_smbRead ..)
    | (dsimp only [Only.mk_form]; with_reducible apply OnlyMk.intro (h0 := .inr rfl))
    | split
    | dsimp only
    | refine Only.ite ?_ ?_
    | refine OnlyOut.ite ?_ ?_

theorem only_execWrite32 (addr value : Nat) (s : State) : OnlyOut [.freeIx, .regs, .heldLo, .lastSmb, .pwr, .evr, .err, .img, .cal, .map, .hfe, .lat, .wc, .rbe, .sc, .dma, .cip, .ports, .capo, .fed, .nrg, .fans] s (execWrite32 addr value s) := by
  unfold execWrite32
  try dsimp only
  repeat' first
    | exact (rfl : (_ : Bool) = _)
    | exact Or.inl (by decide)
    | with_reducible exact Or.inr rfl
    | with_reducible exact Only.refl
    | with_reducible refine OnlyOut.next ?_
    | with_reducible refine OnlyOut.ite ?_ ?_
    | with_reducible refine Only.ite ?_ ?_
    | with_reducible apply Only.step (only_State_busWrite ..)
    | (dsimp only [Only.mk_form]; with_reducible apply OnlyMk.intro (h0 := .inr rfl))
    | split
    | dsimp only
    | refine Only.ite ?_ ?_
    | refine OnlyOut.ite ?_ ?_
    | refine Only.step (Only.ofSnd (only_State_busWrite _ _ _ _) (by with_reducible assumption)) (by decide) ?_

theorem only_execLastStatus (s : State) : OnlyOut [.answer] s (execLastStatus s) := by
  unfold execLastStatus
  try dsimp only
  repeat' first
    | exact (rfl : (_ : Bool) = _)
    | with_reducible exact Only.refl
    | with_reducible refine OnlyOut.next ?_
    | with_reducible refine OnlyOut.ite ?_ ?_
    | with_reducible refine Only.ite ?_ ?_
    | with_reducible apply Only.step (only_State_answered ..)
    | split
    | refine Only.ite ?_ ?_
    | refine OnlyOut.ite ?_ ?_

theorem only_execReadBurst (addr count : Nat) (s : State) : OnlyOut [.freeIx, .regs, .latches, .answer, .evr] s (execReadBurst addr count s) := by
  unfold execReadBurst
  try dsimp only
  repeat' first
    | exact (rfl : (_ : Bool) = _)
    | with_reducible exact Only.refl
    | with_reducible refine OnlyOut.next ?_
    | with_reducible refine OnlyOut.ite ?_ ?_
    | with_reducible refine Only.ite ?_ ?_
    | with_reducible apply Only.step (only_State_answered ..)
    | with_reducible apply Only.step (only_State_refused ..)
    | with_reducible apply Only.step (only_State_smbRead ..)
    | split
    | refine Only.ite ?_ ?_
    | refine OnlyOut.ite ?_ ?_

theorem only_State_readRc (s : State) (f : Field) : Only [.freeIx, .regs, .answer] s (State.readRc s f) := by
  unfold State.readRc
  try dsimp only
  repeat' first
    | exact (rfl : (_ : Bool) = _)
    | with_reducible exact Only.refl
    | with_reducible refine Only.ite ?_ ?_
    | with_reducible apply Only.step (only_State_answered ..)
    | with_reducible apply Only.step (only_State_busError ..)
    | with_reducible apply Only.step (only_State_setFld ..)
    | with_reducible apply Only.step (only_State_used ..)
    | split
    | refine Only.ite ?_ ?_

theorem only_execLatC0IssueMaxRead (s : State) : OnlyOut [.freeIx, .regs, .answer] s (execLatC0IssueMaxRead s) := by
  unfold execLatC0IssueMaxRead
  try dsimp only
  repeat' first
    | exact (rfl : (_ : Bool) = _)
    | with_reducible exact Only.refl
    | with_reducible refine OnlyOut.next ?_
    | with_reducible apply Only.step (only_State_readRc ..)

theorem only_execLatC0PostMaxRead (s : State) : OnlyOut [.freeIx, .regs, .answer] s (execLatC0PostMaxRead s) := by
  unfold execLatC0PostMaxRead
  try dsimp only
  repeat' first
    | exact (rfl : (_ : Bool) = _)
    | with_reducible exact Only.refl
    | with_reducible refine OnlyOut.next ?_
    | with_reducible apply Only.step (only_State_readRc ..)

theorem only_execHfeCollectMaxRead (hp : HostPort) (s : State) : OnlyOut [.freeIx, .regs, .answer] s (execHfeCollectMaxRead hp s) := by
  unfold execHfeCollectMaxRead
  try dsimp only
  repeat' first
    | exact (rfl : (_ : Bool) = _)
    | with_reducible exact Only.refl
    | with_reducible refine OnlyOut.next ?_
    | with_reducible apply Only.step (only_State_readRc ..)

theorem only_execErrDepthMaxRead (s : State) : OnlyOut [.freeIx, .regs, .answer] s (execErrDepthMaxRead s) := by
  unfold execErrDepthMaxRead
  try dsimp only
  repeat' first
    | exact (rfl : (_ : Bool) = _)
    | with_reducible exact Only.refl
    | with_reducible refine OnlyOut.next ?_
    | with_reducible apply Only.step (only_State_readRc ..)

theorem only_execHistClear (s : State) : OnlyOut [.freeIx, .regs, .evr, .lat] s (execHistClear s) := by
  unfold execHistClear
  try dsimp only
  repeat' first
    | exact (rfl : (_ : Bool) = _)
    | exact Or.inl (by decide)
    | with_reducible exact Or.inr rfl
    | with_reducible exact Only.refl
    | with_reducible refine OnlyOut.next ?_
    | with_reducible refine OnlyOut.command ⟨rfl, rfl, rfl⟩ Only.refl ?_
    | (dsimp only [Only.mk_form]; with_reducible apply OnlyMk.intro (h0 := .inr rfl))


/-! ### Machine/Thermal.lean -/

theorem only_State_setStop (s : State) (x : Option ThermStop) : Only [.therm] s (State.setStop s x) := by
  unfold State.setStop
  try dsimp only
  repeat' first
    | exact (rfl : (_ : Bool) = _)
    | exact Or.inl (by decide)
    | with_reducible exact Or.inr rfl
    | with_reducible exact Only.refl
    | (dsimp only [Only.mk_form]; with_reducible apply OnlyMk.intro (h0 := .inr rfl))

theorem only_State_beginStop (s : State) : Only [.freeIx, .regs, .latches, .heldLo, .pwr, .evr, .err, .img, .map, .hfe, .lat, .wc, .rbe, .sc, .dma, .cip, .ports, .capo, .fed, .therm] s (State.beginStop s) := by
  unfold State.beginStop
  try dsimp only
  repeat' first
    | exact (rfl : (_ : Bool) = _)
    | exact Or.inl (by decide)
    | with_reducible exact Or.inr rfl
    | with_reducible exact Only.refl
    | with_reducible assumption
    | with_reducible refine Only.ite ?_ ?_
    | with_reducible apply Only.step (only_State_abandonTransition ..)
    | with_reducible apply Only.step (only_State_beginRelease ..)
    | with_reducible apply Only.step (only_State_hold ..)
    | with_reducible apply Only.step (only_State_satFld ..)
    | with_reducible apply Only.step (only_State_sendHealth ..)
    | with_reducible apply Only.step (only_State_setStop ..)
    | with_reducible apply Only.step (only_State_thermGate ..)
    | (dsimp only [Only.mk_form]; with_reducible apply OnlyMk.intro (h0 := .inr rfl))
    | split
    | refine Only.ite ?_ ?_

theorem only_State_saveDirty (s : State) : Only [.freeIx, .regs, .latches, .heldLo, .pwr, .evr, .err, .img, .map, .hfe, .lat, .wc, .vault, .rbe, .sc, .dma, .cip, .ports, .capo, .fed, .therm] s (State.saveDirty s) := by
  unfold State.saveDirty
  try dsimp only
  repeat' first
    | exact (rfl : (_ : Bool) = _)
    | exact Or.inl (by decide)
    | with_reducible exact Or.inr rfl
    | with_reducible exact Only.refl
    | with_reducible refine Only.ite ?_ ?_
    | with_reducible apply Only.step (only_State_dumpFor ..)
    | with_reducible apply Only.step (only_State_setStop ..)
    | with_reducible apply Only.step (only_State_thermGate ..)
    | with_reducible apply Only.step (only_State_used ..)
    | (dsimp only [Only.mk_form]; with_reducible apply OnlyMk.intro (h0 := .inr rfl))
    | split
    | refine Only.ite ?_ ?_

theorem only_State_stopStep (s : State) : Only [.freeIx, .regs, .latches, .heldLo, .pwr, .evr, .err, .img, .map, .hfe, .lat, .wc, .vault, .rbe, .sc, .dma, .cip, .ports, .capo, .fed, .therm] s (State.stopStep s) := by
  unfold State.stopStep
  try dsimp only
  repeat' first
    | exact (rfl : (_ : Bool) = _)
    | exact Or.inl (by decide)
    | with_reducible exact Or.inr rfl
    | with_reducible exact Only.refl
    | with_reducible assumption
    | with_reducible refine Only.ite ?_ ?_
    | with_reducible apply Only.step (only_State_abandon ..)
    | with_reducible apply Only.step (only_State_abandonDump ..)
    | with_reducible apply Only.step (only_State_afterDump ..)
    | with_reducible apply Only.step (only_State_fenceWake ..)
    | with_reducible apply Only.step (only_State_saveDirty ..)
    | with_reducible apply Only.step (only_State_setStop ..)
    | with_reducible apply Only.step (only_State_thermGate ..)
    | with_reducible refine Only.foldl (fun _ _ _ => ?_) ?_
    | (dsimp only [Only.mk_form]; with_reducible apply OnlyMk.intro (h0 := .inr rfl))
    | split
    | refine Only.ite ?_ ?_

theorem only_execThermalStateChange (s : State) : OnlyOut [.freeIx, .regs, .latches, .heldLo, .pwr, .evr, .err, .img, .cal, .map, .hfe, .lat, .wc, .rbe, .sc, .dma, .cip, .ports, .capo, .fed, .therm, .fans] s (execThermalStateChange s) := by
  unfold execThermalStateChange
  try dsimp only
  repeat' first
    | exact (rfl : (_ : Bool) = _)
    | with_reducible exact Only.refl
    | with_reducible refine OnlyOut.next ?_
    | with_reducible refine OnlyOut.ite ?_ ?_
    | with_reducible refine Only.ite ?_ ?_
    | with_reducible apply Only.step (only_State_beginStop ..)
    | with_reducible apply Only.step (only_State_emitAt ..)
    | with_reducible apply Only.step (only_State_setFld ..)
    | with_reducible apply Only.step (only_State_setStop ..)
    | with_reducible apply Only.step (only_State_smartWarn ..)
    | with_reducible apply Only.step (only_State_startBoot ..)
    | with_reducible apply Only.step (only_State_unhold ..)
    | with_reducible apply Only.step (only_State_updateFans ..)
    | split
    | dsimp only
    | refine Only.ite ?_ ?_
    | refine OnlyOut.ite ?_ ?_

theorem only_State_tempWarn (s : State) (f : FnIdx) : Only [.hfe] s (State.tempWarn s f) := by
  unfold State.tempWarn
  try dsimp only
  repeat' first
    | exact (rfl : (_ : Bool) = _)
    | exact Or.inl (by decide)
    | with_reducible exact Or.inr rfl
    | with_reducible exact Only.refl
    | with_reducible assumption
    | with_reducible apply Only.step (only_State_adminDone ..)
    | with_reducible apply Only.step (only_State_putFn ..)
    | (dsimp only [Only.mk_form]; with_reducible apply OnlyMk.intro (h0 := .inr rfl))
    | split

theorem only_State_tempThresholds (s : State) : Only [.hfe, .therm] s (State.tempThresholds s) := by
  unfold State.tempThresholds
  try dsimp only
  repeat' first
    | exact (rfl : (_ : Bool) = _)
    | exact Or.inl (by decide)
    | with_reducible exact Or.inr rfl
    | with_reducible exact Only.refl
    | with_reducible assumption
    | with_reducible refine Only.ite ?_ ?_
    | with_reducible apply Only.step (only_State_tempWarn ..)
    | with_reducible refine Only.foldl (fun _ _ _ => ?_) ?_
    | (dsimp only [Only.mk_form]; with_reducible apply OnlyMk.intro (h0 := .inr rfl))
    | split
    | refine Only.ite ?_ ?_

theorem only_State_thermCycle (s : State) (first : Bool) : Only [.regs, .age] s (State.thermCycle s first) := by
  unfold State.thermCycle
  try dsimp only
  repeat' first
    | exact (rfl : (_ : Bool) = _)
    | exact Or.inl (by decide)
    | with_reducible exact Or.inr rfl
    | with_reducible exact Only.refl
    | with_reducible assumption
    | with_reducible refine Only.ite ?_ ?_
    | with_reducible apply Only.step (only_State_satFld ..)
    | (dsimp only [Only.mk_form]; with_reducible apply OnlyMk.intro (h0 := .inr rfl))
    | split
    | dsimp only
    | refine Only.ite ?_ ?_

theorem only_State_tjMax (s : State) : Only [.regs] s (State.tjMax s) := by
  unfold State.tjMax
  try dsimp only
  repeat' first
    | exact (rfl : (_ : Bool) = _)
    | with_reducible exact Only.refl
    | with_reducible refine Only.ite ?_ ?_
    | with_reducible apply Only.step (only_State_setFld ..)
    | split
    | refine Only.ite ?_ ?_

theorem only_State_tempSteps (s : State) : Only [.regs] s (State.tempSteps s) := by
  unfold State.tempSteps
  try dsimp only
  repeat' first
    | exact (rfl : (_ : Bool) = _)
    | with_reducible exact Only.refl
    | with_reducible refine Only.ite ?_ ?_
    | with_reducible apply Only.step (only_State_avsSteps ..)
    | split
    | refine Only.ite ?_ ?_

theorem only_execTemperatureSample (sensors : List Int) (s : State) : OnlyOut [.freeIx, .regs, .latches, .heldLo, .pwr, .evr, .err, .img, .cal, .map, .hfe, .lat, .wc, .vault, .rbe, .sc, .dma, .cip, .ports, .capo, .fed, .therm, .fans, .age] s (execTemperatureSample sensors s) := by
  unfold execTemperatureSample
  try dsimp only
  repeat' first
    | exact (rfl : (_ : Bool) = _)
    | exact Or.inl (by decide)
    | with_reducible exact Or.inr rfl
    | with_reducible exact Only.refl
    | with_reducible refine OnlyOut.next ?_
    | with_reducible refine OnlyOut.ite ?_ ?_
    | with_reducible refine Only.ite ?_ ?_
    | with_reducible apply Only.step (only_State_incFld ..)
    | with_reducible apply Only.step (only_State_stopStep ..)
    | with_reducible apply Only.step (only_State_tempSteps ..)
    | with_reducible apply Only.step (only_State_tempThresholds ..)
    | with_reducible apply Only.step (only_State_thermCycle ..)
    | with_reducible apply Only.step (only_State_tjMax ..)
    | with_reducible apply Only.step (only_State_updateFans ..)
    | (dsimp only [Only.mk_form]; with_reducible apply OnlyMk.intro (h0 := .inr rfl))
    | split
    | dsimp only
    | refine Only.ite ?_ ?_
    | refine OnlyOut.ite ?_ ?_


end Sys2Proof.Machine
end

