-- ==== Sys2Proof/Laws/Tbl.lean ====
section
/-!
SUPPORT. Laws/Tbl.lean: the laws of sparse tables: what a read after an update gives, and that every update keeps the numbers rising.
-/
namespace Sys2Proof.Machine

variable {α : Type}

@[simp] theorem tget_nil (k : Nat) : tget ([] : Tbl α) k = none := rfl

@[simp] theorem tget_tput_same (t : Tbl α) (k : Nat) (v : α) : tget (tput t k v) k = some v := by
  induction t with
  | nil => simp [tput, tget]
  | cons p r ih =>
    obtain ⟨i, a⟩ := p
    unfold tput
    split_ifs with h1 h2
    · simp [tget]
    · simp [tget]
    · have h3 : i ≠ k := fun h => h2 h.symm
      simp [tget, h3, ih]

theorem tget_tput_ne (t : Tbl α) (k j : Nat) (v : α) (h : j ≠ k) : tget (tput t k v) j = tget t j := by
  induction t with
  | nil => simp [tput, tget, h.symm]
  | cons p r ih =>
    obtain ⟨i, a⟩ := p
    unfold tput
    split_ifs with h1 h2
    · simp [tget, h.symm]
    · subst h2; simp [tget, h.symm]
    · simp [tget, ih]

theorem tdel_cons (i : Nat) (a : α) (r : Tbl α) (k : Nat) :
    tdel ((i, a) :: r) k = if i = k then tdel r k else (i, a) :: tdel r k := by
  by_cases h : i = k <;> simp [tdel, h]

theorem tget_tdel_same (t : Tbl α) (k : Nat) : tget (tdel t k) k = none := by
  induction t with
  | nil => rfl
  | cons p r ih =>
    obtain ⟨i, a⟩ := p
    rw [tdel_cons]
    split_ifs with h
    · exact ih
    · simp [tget, h, ih]

theorem tget_tdel_ne (t : Tbl α) (k j : Nat) (h : j ≠ k) : tget (tdel t k) j = tget t j := by
  induction t with
  | nil => rfl
  | cons p r ih =>
    obtain ⟨i, a⟩ := p
    rw [tdel_cons]
    split_ifs with hi
    · subst hi; simp [tget, h.symm, ih]
    · simp [tget, ih]

/-- The numbers of a table rise strictly when its form holds. -/
theorem twf_cons (i : Nat) (a : α) (r : Tbl α) :
    twf ((i, a) :: r) = true ↔ (∀ p ∈ r.head?, i < p.1) ∧ twf r = true := by
  cases r with
  | nil => simp [twf]
  | cons p q => obtain ⟨j, b⟩ := p; simp [twf]

theorem tput_head (t : Tbl α) (k : Nat) (v : α) (lo : Nat) (hk : lo < k) (h : ∀ p ∈ t.head?, lo < p.1) :
    ∀ p ∈ (tput t k v).head?, lo < p.1 := by
  cases t with
  | nil => simp [tput, hk]
  | cons p r =>
    obtain ⟨i, a⟩ := p
    unfold tput
    split_ifs with h1 h2
    · simpa using hk
    · simpa using hk
    · simpa using h (i, a) (by simp)

/-- Putting an entry keeps the form. -/
theorem twf_tput (t : Tbl α) (k : Nat) (v : α) (h : twf t = true) : twf (tput t k v) = true := by
  induction t with
  | nil => simp [tput, twf]
  | cons p r ih =>
    obtain ⟨i, a⟩ := p
    rw [twf_cons] at h
    unfold tput
    split_ifs with h1 h2
    · rw [twf_cons]
      exact ⟨by simpa using h1, by rw [twf_cons]; exact h⟩
    · subst h2; rw [twf_cons]; exact h
    · rw [twf_cons]
      have h3 : i < k := by omega
      exact ⟨tput_head r k v i h3 h.1, ih h.2⟩

end Sys2Proof.Machine
end

