-- ==== Sys2Proof/Laws/State.lean ====
section
/-!
SUPPORT. Laws/State.lean: what each named update of State leaves as it was, one lemma for each field and update, and the reading of register
fields after writes: no later proof unfolds a record update.
-/
namespace Sys2Proof.Machine

/-! ### Register fields -/

/-- The value of a register field in a table of registers. -/
def fldOf (regs : Tbl Nat) (f : Field) : Nat := (tget regs f.key).getD f.reset

@[simp] theorem fldOf_regs (s : State) (f : Field) : fldOf s.regs f = s.fld f := rfl

theorem fld_mk (x0 : List Instr) (x1 : Nat) (x2 : Nat) (x3 : Tbl Nat) (x4 : Tbl Nat) (x5 : Tbl Nat) (x6 : Nat) (x7 : List Nat) (x8 : Pwr) (x9 : Evr) (x10 : Err) (x11 : Img) (x12 : Cal) (x13 : MapSt) (x14 : Hfe) (x15 : Lat) (x16 : Wc) (x17 : Vault) (x18 : Rbe) (x19 : Sc) (x20 : Dma) (x21 : Cip) (x22 : Tbl PortSt) (x23 : Capo) (x24 : Fed) (x25 : Nrg) (x26 : Therm) (x27 : Tbl Fan) (x28 : Age) (f : Field) :
    State.fld ⟨x0, x1, x2, x3, x4, x5, x6, x7, x8, x9, x10, x11, x12, x13, x14, x15, x16, x17, x18, x19, x20, x21, x22, x23, x24, x25, x26, x27, x28⟩ f = fldOf x3 f := rfl

theorem State.fld_of_regs (s t : State) (f : Field) (h : t.regs = s.regs) : t.fld f = s.fld f := by
  unfold State.fld; rw [h]

@[simp] theorem State.fld_setFld_same (s : State) (f : Field) (v : Nat) : (s.setFld f v).fld f = v % 2 ^ f.width := by
  simp [State.fld, State.setFld, tget_tput_same]

theorem State.fld_setFld_ne (s : State) (f g : Field) (v : Nat) (h : g.key ≠ f.key) : (s.setFld f v).fld g = s.fld g := by
  simp [State.fld, State.setFld, tget_tput_ne _ _ _ _ h]

theorem State.fld_setFld (s : State) (f g : Field) (v : Nat) :
    (s.setFld f v).fld g = if g.key = f.key then (v % 2 ^ f.width) else s.fld g := by
  by_cases h : g.key = f.key
  · simp [State.fld, State.setFld, h, tget_tput_same]
  · simp [h, State.fld_setFld_ne]

theorem State.fld_setBit_ne (s : State) (f g : Field) (b : Bool) (h : g.key ≠ f.key) : (s.setBit f b).fld g = s.fld g :=
  State.fld_setFld_ne s f g _ h

theorem State.bit_setFld_ne (s : State) (f g : Field) (v : Nat) (h : g.key ≠ f.key) : (s.setFld f v).bit g = s.bit g := by
  simp [State.bit, State.fld_setFld_ne _ _ _ _ h]

theorem State.bit_setBit_ne (s : State) (f g : Field) (b : Bool) (h : g.key ≠ f.key) : (s.setBit f b).bit g = s.bit g :=
  State.bit_setFld_ne s f g _ h

theorem State.bit_setBit_same (s : State) (f : Field) (b : Bool) (h : f.width = 1) : (s.setBit f b).bit f = b := by
  cases b <;> simp [State.bit, State.setBit, h]

@[simp] theorem State.setFld_pending (s : State) (f : Field) (v : Nat) : (s.setFld f v).pending = s.pending := rfl
@[simp] theorem State.setFld_now (s : State) (f : Field) (v : Nat) : (s.setFld f v).now = s.now := rfl
@[simp] theorem State.setFld_freeIx (s : State) (f : Field) (v : Nat) : (s.setFld f v).freeIx = s.freeIx := rfl
@[simp] theorem State.setFld_latches (s : State) (f : Field) (v : Nat) : (s.setFld f v).latches = s.latches := rfl
@[simp] theorem State.setFld_heldLo (s : State) (f : Field) (v : Nat) : (s.setFld f v).heldLo = s.heldLo := rfl
@[simp] theorem State.setFld_lastSmb (s : State) (f : Field) (v : Nat) : (s.setFld f v).lastSmb = s.lastSmb := rfl
@[simp] theorem State.setFld_answer (s : State) (f : Field) (v : Nat) : (s.setFld f v).answer = s.answer := rfl
@[simp] theorem State.setFld_pwr (s : State) (f : Field) (v : Nat) : (s.setFld f v).pwr = s.pwr := rfl
@[simp] theorem State.setFld_evr (s : State) (f : Field) (v : Nat) : (s.setFld f v).evr = s.evr := rfl
@[simp] theorem State.setFld_err (s : State) (f : Field) (v : Nat) : (s.setFld f v).err = s.err := rfl
@[simp] theorem State.setFld_img (s : State) (f : Field) (v : Nat) : (s.setFld f v).img = s.img := rfl
@[simp] theorem State.setFld_cal (s : State) (f : Field) (v : Nat) : (s.setFld f v).cal = s.cal := rfl
@[simp] theorem State.setFld_map (s : State) (f : Field) (v : Nat) : (s.setFld f v).map = s.map := rfl
@[simp] theorem State.setFld_hfe (s : State) (f : Field) (v : Nat) : (s.setFld f v).hfe = s.hfe := rfl
@[simp] theorem State.setFld_lat (s : State) (f : Field) (v : Nat) : (s.setFld f v).lat = s.lat := rfl
@[simp] theorem State.setFld_wc (s : State) (f : Field) (v : Nat) : (s.setFld f v).wc = s.wc := rfl
@[simp] theorem State.setFld_vault (s : State) (f : Field) (v : Nat) : (s.setFld f v).vault = s.vault := rfl
@[simp] theorem State.setFld_rbe (s : State) (f : Field) (v : Nat) : (s.setFld f v).rbe = s.rbe := rfl
@[simp] theorem State.setFld_sc (s : State) (f : Field) (v : Nat) : (s.setFld f v).sc = s.sc := rfl
@[simp] theorem State.setFld_dma (s : State) (f : Field) (v : Nat) : (s.setFld f v).dma = s.dma := rfl
@[simp] theorem State.setFld_cip (s : State) (f : Field) (v : Nat) : (s.setFld f v).cip = s.cip := rfl
@[simp] theorem State.setFld_ports (s : State) (f : Field) (v : Nat) : (s.setFld f v).ports = s.ports := rfl
@[simp] theorem State.setFld_capo (s : State) (f : Field) (v : Nat) : (s.setFld f v).capo = s.capo := rfl
@[simp] theorem State.setFld_fed (s : State) (f : Field) (v : Nat) : (s.setFld f v).fed = s.fed := rfl
@[simp] theorem State.setFld_nrg (s : State) (f : Field) (v : Nat) : (s.setFld f v).nrg = s.nrg := rfl
@[simp] theorem State.setFld_therm (s : State) (f : Field) (v : Nat) : (s.setFld f v).therm = s.therm := rfl
@[simp] theorem State.setFld_fans (s : State) (f : Field) (v : Nat) : (s.setFld f v).fans = s.fans := rfl
@[simp] theorem State.setFld_age (s : State) (f : Field) (v : Nat) : (s.setFld f v).age = s.age := rfl

@[simp] theorem State.setBit_pending (s : State) (f : Field) (b : Bool) : (s.setBit f b).pending = s.pending := rfl
@[simp] theorem State.setBit_now (s : State) (f : Field) (b : Bool) : (s.setBit f b).now = s.now := rfl
@[simp] theorem State.setBit_freeIx (s : State) (f : Field) (b : Bool) : (s.setBit f b).freeIx = s.freeIx := rfl
@[simp] theorem State.setBit_latches (s : State) (f : Field) (b : Bool) : (s.setBit f b).latches = s.latches := rfl
@[simp] theorem State.setBit_heldLo (s : State) (f : Field) (b : Bool) : (s.setBit f b).heldLo = s.heldLo := rfl
@[simp] theorem State.setBit_lastSmb (s : State) (f : Field) (b : Bool) : (s.setBit f b).lastSmb = s.lastSmb := rfl
@[simp] theorem State.setBit_answer (s : State) (f : Field) (b : Bool) : (s.setBit f b).answer = s.answer := rfl
@[simp] theorem State.setBit_pwr (s : State) (f : Field) (b : Bool) : (s.setBit f b).pwr = s.pwr := rfl
@[simp] theorem State.setBit_evr (s : State) (f : Field) (b : Bool) : (s.setBit f b).evr = s.evr := rfl
@[simp] theorem State.setBit_err (s : State) (f : Field) (b : Bool) : (s.setBit f b).err = s.err := rfl
@[simp] theorem State.setBit_img (s : State) (f : Field) (b : Bool) : (s.setBit f b).img = s.img := rfl
@[simp] theorem State.setBit_cal (s : State) (f : Field) (b : Bool) : (s.setBit f b).cal = s.cal := rfl
@[simp] theorem State.setBit_map (s : State) (f : Field) (b : Bool) : (s.setBit f b).map = s.map := rfl
@[simp] theorem State.setBit_hfe (s : State) (f : Field) (b : Bool) : (s.setBit f b).hfe = s.hfe := rfl
@[simp] theorem State.setBit_lat (s : State) (f : Field) (b : Bool) : (s.setBit f b).lat = s.lat := rfl
@[simp] theorem State.setBit_wc (s : State) (f : Field) (b : Bool) : (s.setBit f b).wc = s.wc := rfl
@[simp] theorem State.setBit_vault (s : State) (f : Field) (b : Bool) : (s.setBit f b).vault = s.vault := rfl
@[simp] theorem State.setBit_rbe (s : State) (f : Field) (b : Bool) : (s.setBit f b).rbe = s.rbe := rfl
@[simp] theorem State.setBit_sc (s : State) (f : Field) (b : Bool) : (s.setBit f b).sc = s.sc := rfl
@[simp] theorem State.setBit_dma (s : State) (f : Field) (b : Bool) : (s.setBit f b).dma = s.dma := rfl
@[simp] theorem State.setBit_cip (s : State) (f : Field) (b : Bool) : (s.setBit f b).cip = s.cip := rfl
@[simp] theorem State.setBit_ports (s : State) (f : Field) (b : Bool) : (s.setBit f b).ports = s.ports := rfl
@[simp] theorem State.setBit_capo (s : State) (f : Field) (b : Bool) : (s.setBit f b).capo = s.capo := rfl
@[simp] theorem State.setBit_fed (s : State) (f : Field) (b : Bool) : (s.setBit f b).fed = s.fed := rfl
@[simp] theorem State.setBit_nrg (s : State) (f : Field) (b : Bool) : (s.setBit f b).nrg = s.nrg := rfl
@[simp] theorem State.setBit_therm (s : State) (f : Field) (b : Bool) : (s.setBit f b).therm = s.therm := rfl
@[simp] theorem State.setBit_fans (s : State) (f : Field) (b : Bool) : (s.setBit f b).fans = s.fans := rfl
@[simp] theorem State.setBit_age (s : State) (f : Field) (b : Bool) : (s.setBit f b).age = s.age := rfl

@[simp] theorem State.incFld_pending (s : State) (f : Field) (n : Nat) : (s.incFld f n).pending = s.pending := rfl
@[simp] theorem State.incFld_now (s : State) (f : Field) (n : Nat) : (s.incFld f n).now = s.now := rfl
@[simp] theorem State.incFld_freeIx (s : State) (f : Field) (n : Nat) : (s.incFld f n).freeIx = s.freeIx := rfl
@[simp] theorem State.incFld_latches (s : State) (f : Field) (n : Nat) : (s.incFld f n).latches = s.latches := rfl
@[simp] theorem State.incFld_heldLo (s : State) (f : Field) (n : Nat) : (s.incFld f n).heldLo = s.heldLo := rfl
@[simp] theorem State.incFld_lastSmb (s : State) (f : Field) (n : Nat) : (s.incFld f n).lastSmb = s.lastSmb := rfl
@[simp] theorem State.incFld_answer (s : State) (f : Field) (n : Nat) : (s.incFld f n).answer = s.answer := rfl
@[simp] theorem State.incFld_pwr (s : State) (f : Field) (n : Nat) : (s.incFld f n).pwr = s.pwr := rfl
@[simp] theorem State.incFld_evr (s : State) (f : Field) (n : Nat) : (s.incFld f n).evr = s.evr := rfl
@[simp] theorem State.incFld_err (s : State) (f : Field) (n : Nat) : (s.incFld f n).err = s.err := rfl
@[simp] theorem State.incFld_img (s : State) (f : Field) (n : Nat) : (s.incFld f n).img = s.img := rfl
@[simp] theorem State.incFld_cal (s : State) (f : Field) (n : Nat) : (s.incFld f n).cal = s.cal := rfl
@[simp] theorem State.incFld_map (s : State) (f : Field) (n : Nat) : (s.incFld f n).map = s.map := rfl
@[simp] theorem State.incFld_hfe (s : State) (f : Field) (n : Nat) : (s.incFld f n).hfe = s.hfe := rfl
@[simp] theorem State.incFld_lat (s : State) (f : Field) (n : Nat) : (s.incFld f n).lat = s.lat := rfl
@[simp] theorem State.incFld_wc (s : State) (f : Field) (n : Nat) : (s.incFld f n).wc = s.wc := rfl
@[simp] theorem State.incFld_vault (s : State) (f : Field) (n : Nat) : (s.incFld f n).vault = s.vault := rfl
@[simp] theorem State.incFld_rbe (s : State) (f : Field) (n : Nat) : (s.incFld f n).rbe = s.rbe := rfl
@[simp] theorem State.incFld_sc (s : State) (f : Field) (n : Nat) : (s.incFld f n).sc = s.sc := rfl
@[simp] theorem State.incFld_dma (s : State) (f : Field) (n : Nat) : (s.incFld f n).dma = s.dma := rfl
@[simp] theorem State.incFld_cip (s : State) (f : Field) (n : Nat) : (s.incFld f n).cip = s.cip := rfl
@[simp] theorem State.incFld_ports (s : State) (f : Field) (n : Nat) : (s.incFld f n).ports = s.ports := rfl
@[simp] theorem State.incFld_capo (s : State) (f : Field) (n : Nat) : (s.incFld f n).capo = s.capo := rfl
@[simp] theorem State.incFld_fed (s : State) (f : Field) (n : Nat) : (s.incFld f n).fed = s.fed := rfl
@[simp] theorem State.incFld_nrg (s : State) (f : Field) (n : Nat) : (s.incFld f n).nrg = s.nrg := rfl
@[simp] theorem State.incFld_therm (s : State) (f : Field) (n : Nat) : (s.incFld f n).therm = s.therm := rfl
@[simp] theorem State.incFld_fans (s : State) (f : Field) (n : Nat) : (s.incFld f n).fans = s.fans := rfl
@[simp] theorem State.incFld_age (s : State) (f : Field) (n : Nat) : (s.incFld f n).age = s.age := rfl

@[simp] theorem State.satFld_pending (s : State) (f : Field) (n : Nat) : (s.satFld f n).pending = s.pending := rfl
@[simp] theorem State.satFld_now (s : State) (f : Field) (n : Nat) : (s.satFld f n).now = s.now := rfl
@[simp] theorem State.satFld_freeIx (s : State) (f : Field) (n : Nat) : (s.satFld f n).freeIx = s.freeIx := rfl
@[simp] theorem State.satFld_latches (s : State) (f : Field) (n : Nat) : (s.satFld f n).latches = s.latches := rfl
@[simp] theorem State.satFld_heldLo (s : State) (f : Field) (n : Nat) : (s.satFld f n).heldLo = s.heldLo := rfl
@[simp] theorem State.satFld_lastSmb (s : State) (f : Field) (n : Nat) : (s.satFld f n).lastSmb = s.lastSmb := rfl
@[simp] theorem State.satFld_answer (s : State) (f : Field) (n : Nat) : (s.satFld f n).answer = s.answer := rfl
@[simp] theorem State.satFld_pwr (s : State) (f : Field) (n : Nat) : (s.satFld f n).pwr = s.pwr := rfl
@[simp] theorem State.satFld_evr (s : State) (f : Field) (n : Nat) : (s.satFld f n).evr = s.evr := rfl
@[simp] theorem State.satFld_err (s : State) (f : Field) (n : Nat) : (s.satFld f n).err = s.err := rfl
@[simp] theorem State.satFld_img (s : State) (f : Field) (n : Nat) : (s.satFld f n).img = s.img := rfl
@[simp] theorem State.satFld_cal (s : State) (f : Field) (n : Nat) : (s.satFld f n).cal = s.cal := rfl
@[simp] theorem State.satFld_map (s : State) (f : Field) (n : Nat) : (s.satFld f n).map = s.map := rfl
@[simp] theorem State.satFld_hfe (s : State) (f : Field) (n : Nat) : (s.satFld f n).hfe = s.hfe := rfl
@[simp] theorem State.satFld_lat (s : State) (f : Field) (n : Nat) : (s.satFld f n).lat = s.lat := rfl
@[simp] theorem State.satFld_wc (s : State) (f : Field) (n : Nat) : (s.satFld f n).wc = s.wc := rfl
@[simp] theorem State.satFld_vault (s : State) (f : Field) (n : Nat) : (s.satFld f n).vault = s.vault := rfl
@[simp] theorem State.satFld_rbe (s : State) (f : Field) (n : Nat) : (s.satFld f n).rbe = s.rbe := rfl
@[simp] theorem State.satFld_sc (s : State) (f : Field) (n : Nat) : (s.satFld f n).sc = s.sc := rfl
@[simp] theorem State.satFld_dma (s : State) (f : Field) (n : Nat) : (s.satFld f n).dma = s.dma := rfl
@[simp] theorem State.satFld_cip (s : State) (f : Field) (n : Nat) : (s.satFld f n).cip = s.cip := rfl
@[simp] theorem State.satFld_ports (s : State) (f : Field) (n : Nat) : (s.satFld f n).ports = s.ports := rfl
@[simp] theorem State.satFld_capo (s : State) (f : Field) (n : Nat) : (s.satFld f n).capo = s.capo := rfl
@[simp] theorem State.satFld_fed (s : State) (f : Field) (n : Nat) : (s.satFld f n).fed = s.fed := rfl
@[simp] theorem State.satFld_nrg (s : State) (f : Field) (n : Nat) : (s.satFld f n).nrg = s.nrg := rfl
@[simp] theorem State.satFld_therm (s : State) (f : Field) (n : Nat) : (s.satFld f n).therm = s.therm := rfl
@[simp] theorem State.satFld_fans (s : State) (f : Field) (n : Nat) : (s.satFld f n).fans = s.fans := rfl
@[simp] theorem State.satFld_age (s : State) (f : Field) (n : Nat) : (s.satFld f n).age = s.age := rfl

@[simp] theorem State.maxFld_pending (s : State) (f : Field) (n : Nat) : (s.maxFld f n).pending = s.pending := rfl
@[simp] theorem State.maxFld_now (s : State) (f : Field) (n : Nat) : (s.maxFld f n).now = s.now := rfl
@[simp] theorem State.maxFld_freeIx (s : State) (f : Field) (n : Nat) : (s.maxFld f n).freeIx = s.freeIx := rfl
@[simp] theorem State.maxFld_latches (s : State) (f : Field) (n : Nat) : (s.maxFld f n).latches = s.latches := rfl
@[simp] theorem State.maxFld_heldLo (s : State) (f : Field) (n : Nat) : (s.maxFld f n).heldLo = s.heldLo := rfl
@[simp] theorem State.maxFld_lastSmb (s : State) (f : Field) (n : Nat) : (s.maxFld f n).lastSmb = s.lastSmb := rfl
@[simp] theorem State.maxFld_answer (s : State) (f : Field) (n : Nat) : (s.maxFld f n).answer = s.answer := rfl
@[simp] theorem State.maxFld_pwr (s : State) (f : Field) (n : Nat) : (s.maxFld f n).pwr = s.pwr := rfl
@[simp] theorem State.maxFld_evr (s : State) (f : Field) (n : Nat) : (s.maxFld f n).evr = s.evr := rfl
@[simp] theorem State.maxFld_err (s : State) (f : Field) (n : Nat) : (s.maxFld f n).err = s.err := rfl
@[simp] theorem State.maxFld_img (s : State) (f : Field) (n : Nat) : (s.maxFld f n).img = s.img := rfl
@[simp] theorem State.maxFld_cal (s : State) (f : Field) (n : Nat) : (s.maxFld f n).cal = s.cal := rfl
@[simp] theorem State.maxFld_map (s : State) (f : Field) (n : Nat) : (s.maxFld f n).map = s.map := rfl
@[simp] theorem State.maxFld_hfe (s : State) (f : Field) (n : Nat) : (s.maxFld f n).hfe = s.hfe := rfl
@[simp] theorem State.maxFld_lat (s : State) (f : Field) (n : Nat) : (s.maxFld f n).lat = s.lat := rfl
@[simp] theorem State.maxFld_wc (s : State) (f : Field) (n : Nat) : (s.maxFld f n).wc = s.wc := rfl
@[simp] theorem State.maxFld_vault (s : State) (f : Field) (n : Nat) : (s.maxFld f n).vault = s.vault := rfl
@[simp] theorem State.maxFld_rbe (s : State) (f : Field) (n : Nat) : (s.maxFld f n).rbe = s.rbe := rfl
@[simp] theorem State.maxFld_sc (s : State) (f : Field) (n : Nat) : (s.maxFld f n).sc = s.sc := rfl
@[simp] theorem State.maxFld_dma (s : State) (f : Field) (n : Nat) : (s.maxFld f n).dma = s.dma := rfl
@[simp] theorem State.maxFld_cip (s : State) (f : Field) (n : Nat) : (s.maxFld f n).cip = s.cip := rfl
@[simp] theorem State.maxFld_ports (s : State) (f : Field) (n : Nat) : (s.maxFld f n).ports = s.ports := rfl
@[simp] theorem State.maxFld_capo (s : State) (f : Field) (n : Nat) : (s.maxFld f n).capo = s.capo := rfl
@[simp] theorem State.maxFld_fed (s : State) (f : Field) (n : Nat) : (s.maxFld f n).fed = s.fed := rfl
@[simp] theorem State.maxFld_nrg (s : State) (f : Field) (n : Nat) : (s.maxFld f n).nrg = s.nrg := rfl
@[simp] theorem State.maxFld_therm (s : State) (f : Field) (n : Nat) : (s.maxFld f n).therm = s.therm := rfl
@[simp] theorem State.maxFld_fans (s : State) (f : Field) (n : Nat) : (s.maxFld f n).fans = s.fans := rfl
@[simp] theorem State.maxFld_age (s : State) (f : Field) (n : Nat) : (s.maxFld f n).age = s.age := rfl

@[simp] theorem State.emitAt_pending (s : State) (e : Ev) (sev : Nat) (p : List Nat) : (s.emitAt e sev p).pending = s.pending := rfl
@[simp] theorem State.emitAt_now (s : State) (e : Ev) (sev : Nat) (p : List Nat) : (s.emitAt e sev p).now = s.now := rfl
@[simp] theorem State.emitAt_freeIx (s : State) (e : Ev) (sev : Nat) (p : List Nat) : (s.emitAt e sev p).freeIx = s.freeIx := rfl
@[simp] theorem State.emitAt_regs (s : State) (e : Ev) (sev : Nat) (p : List Nat) : (s.emitAt e sev p).regs = s.regs := rfl
@[simp] theorem State.emitAt_latches (s : State) (e : Ev) (sev : Nat) (p : List Nat) : (s.emitAt e sev p).latches = s.latches := rfl
@[simp] theorem State.emitAt_heldLo (s : State) (e : Ev) (sev : Nat) (p : List Nat) : (s.emitAt e sev p).heldLo = s.heldLo := rfl
@[simp] theorem State.emitAt_lastSmb (s : State) (e : Ev) (sev : Nat) (p : List Nat) : (s.emitAt e sev p).lastSmb = s.lastSmb := rfl
@[simp] theorem State.emitAt_answer (s : State) (e : Ev) (sev : Nat) (p : List Nat) : (s.emitAt e sev p).answer = s.answer := rfl
@[simp] theorem State.emitAt_pwr (s : State) (e : Ev) (sev : Nat) (p : List Nat) : (s.emitAt e sev p).pwr = s.pwr := rfl
@[simp] theorem State.emitAt_err (s : State) (e : Ev) (sev : Nat) (p : List Nat) : (s.emitAt e sev p).err = s.err := rfl
@[simp] theorem State.emitAt_img (s : State) (e : Ev) (sev : Nat) (p : List Nat) : (s.emitAt e sev p).img = s.img := rfl
@[simp] theorem State.emitAt_cal (s : State) (e : Ev) (sev : Nat) (p : List Nat) : (s.emitAt e sev p).cal = s.cal := rfl
@[simp] theorem State.emitAt_map (s : State) (e : Ev) (sev : Nat) (p : List Nat) : (s.emitAt e sev p).map = s.map := rfl
@[simp] theorem State.emitAt_hfe (s : State) (e : Ev) (sev : Nat) (p : List Nat) : (s.emitAt e sev p).hfe = s.hfe := rfl
@[simp] theorem State.emitAt_lat (s : State) (e : Ev) (sev : Nat) (p : List Nat) : (s.emitAt e sev p).lat = s.lat := rfl
@[simp] theorem State.emitAt_wc (s : State) (e : Ev) (sev : Nat) (p : List Nat) : (s.emitAt e sev p).wc = s.wc := rfl
@[simp] theorem State.emitAt_vault (s : State) (e : Ev) (sev : Nat) (p : List Nat) : (s.emitAt e sev p).vault = s.vault := rfl
@[simp] theorem State.emitAt_rbe (s : State) (e : Ev) (sev : Nat) (p : List Nat) : (s.emitAt e sev p).rbe = s.rbe := rfl
@[simp] theorem State.emitAt_sc (s : State) (e : Ev) (sev : Nat) (p : List Nat) : (s.emitAt e sev p).sc = s.sc := rfl
@[simp] theorem State.emitAt_dma (s : State) (e : Ev) (sev : Nat) (p : List Nat) : (s.emitAt e sev p).dma = s.dma := rfl
@[simp] theorem State.emitAt_cip (s : State) (e : Ev) (sev : Nat) (p : List Nat) : (s.emitAt e sev p).cip = s.cip := rfl
@[simp] theorem State.emitAt_ports (s : State) (e : Ev) (sev : Nat) (p : List Nat) : (s.emitAt e sev p).ports = s.ports := rfl
@[simp] theorem State.emitAt_capo (s : State) (e : Ev) (sev : Nat) (p : List Nat) : (s.emitAt e sev p).capo = s.capo := rfl
@[simp] theorem State.emitAt_fed (s : State) (e : Ev) (sev : Nat) (p : List Nat) : (s.emitAt e sev p).fed = s.fed := rfl
@[simp] theorem State.emitAt_nrg (s : State) (e : Ev) (sev : Nat) (p : List Nat) : (s.emitAt e sev p).nrg = s.nrg := rfl
@[simp] theorem State.emitAt_therm (s : State) (e : Ev) (sev : Nat) (p : List Nat) : (s.emitAt e sev p).therm = s.therm := rfl
@[simp] theorem State.emitAt_fans (s : State) (e : Ev) (sev : Nat) (p : List Nat) : (s.emitAt e sev p).fans = s.fans := rfl
@[simp] theorem State.emitAt_age (s : State) (e : Ev) (sev : Nat) (p : List Nat) : (s.emitAt e sev p).age = s.age := rfl
@[simp] theorem State.fld_emitAt (s : State) (e : Ev) (sev : Nat) (p : List Nat) (g : Field) : (s.emitAt e sev p).fld g = s.fld g := rfl
@[simp] theorem State.bit_emitAt (s : State) (e : Ev) (sev : Nat) (p : List Nat) (g : Field) : (s.emitAt e sev p).bit g = s.bit g := rfl

@[simp] theorem State.emit_pending (s : State) (e : Ev) (p : List Nat) : (s.emit e p).pending = s.pending := rfl
@[simp] theorem State.emit_now (s : State) (e : Ev) (p : List Nat) : (s.emit e p).now = s.now := rfl
@[simp] theorem State.emit_freeIx (s : State) (e : Ev) (p : List Nat) : (s.emit e p).freeIx = s.freeIx := rfl
@[simp] theorem State.emit_regs (s : State) (e : Ev) (p : List Nat) : (s.emit e p).regs = s.regs := rfl
@[simp] theorem State.emit_latches (s : State) (e : Ev) (p : List Nat) : (s.emit e p).latches = s.latches := rfl
@[simp] theorem State.emit_heldLo (s : State) (e : Ev) (p : List Nat) : (s.emit e p).heldLo = s.heldLo := rfl
@[simp] theorem State.emit_lastSmb (s : State) (e : Ev) (p : List Nat) : (s.emit e p).lastSmb = s.lastSmb := rfl
@[simp] theorem State.emit_answer (s : State) (e : Ev) (p : List Nat) : (s.emit e p).answer = s.answer := rfl
@[simp] theorem State.emit_pwr (s : State) (e : Ev) (p : List Nat) : (s.emit e p).pwr = s.pwr := rfl
@[simp] theorem State.emit_err (s : State) (e : Ev) (p : List Nat) : (s.emit e p).err = s.err := rfl
@[simp] theorem State.emit_img (s : State) (e : Ev) (p : List Nat) : (s.emit e p).img = s.img := rfl
@[simp] theorem State.emit_cal (s : State) (e : Ev) (p : List Nat) : (s.emit e p).cal = s.cal := rfl
@[simp] theorem State.emit_map (s : State) (e : Ev) (p : List Nat) : (s.emit e p).map = s.map := rfl
@[simp] theorem State.emit_hfe (s : State) (e : Ev) (p : List Nat) : (s.emit e p).hfe = s.hfe := rfl
@[simp] theorem State.emit_lat (s : State) (e : Ev) (p : List Nat) : (s.emit e p).lat = s.lat := rfl
@[simp] theorem State.emit_wc (s : State) (e : Ev) (p : List Nat) : (s.emit e p).wc = s.wc := rfl
@[simp] theorem State.emit_vault (s : State) (e : Ev) (p : List Nat) : (s.emit e p).vault = s.vault := rfl
@[simp] theorem State.emit_rbe (s : State) (e : Ev) (p : List Nat) : (s.emit e p).rbe = s.rbe := rfl
@[simp] theorem State.emit_sc (s : State) (e : Ev) (p : List Nat) : (s.emit e p).sc = s.sc := rfl
@[simp] theorem State.emit_dma (s : State) (e : Ev) (p : List Nat) : (s.emit e p).dma = s.dma := rfl
@[simp] theorem State.emit_cip (s : State) (e : Ev) (p : List Nat) : (s.emit e p).cip = s.cip := rfl
@[simp] theorem State.emit_ports (s : State) (e : Ev) (p : List Nat) : (s.emit e p).ports = s.ports := rfl
@[simp] theorem State.emit_capo (s : State) (e : Ev) (p : List Nat) : (s.emit e p).capo = s.capo := rfl
@[simp] theorem State.emit_fed (s : State) (e : Ev) (p : List Nat) : (s.emit e p).fed = s.fed := rfl
@[simp] theorem State.emit_nrg (s : State) (e : Ev) (p : List Nat) : (s.emit e p).nrg = s.nrg := rfl
@[simp] theorem State.emit_therm (s : State) (e : Ev) (p : List Nat) : (s.emit e p).therm = s.therm := rfl
@[simp] theorem State.emit_fans (s : State) (e : Ev) (p : List Nat) : (s.emit e p).fans = s.fans := rfl
@[simp] theorem State.emit_age (s : State) (e : Ev) (p : List Nat) : (s.emit e p).age = s.age := rfl
@[simp] theorem State.fld_emit (s : State) (e : Ev) (p : List Nat) (g : Field) : (s.emit e p).fld g = s.fld g := rfl
@[simp] theorem State.bit_emit (s : State) (e : Ev) (p : List Nat) (g : Field) : (s.emit e p).bit g = s.bit g := rfl

@[simp] theorem State.raiseFatal_pending (s : State) (c : Nat) : (s.raiseFatal c).pending = s.pending := rfl
@[simp] theorem State.raiseFatal_now (s : State) (c : Nat) : (s.raiseFatal c).now = s.now := rfl
@[simp] theorem State.raiseFatal_freeIx (s : State) (c : Nat) : (s.raiseFatal c).freeIx = s.freeIx := rfl
@[simp] theorem State.raiseFatal_regs (s : State) (c : Nat) : (s.raiseFatal c).regs = s.regs := rfl
@[simp] theorem State.raiseFatal_latches (s : State) (c : Nat) : (s.raiseFatal c).latches = s.latches := rfl
@[simp] theorem State.raiseFatal_heldLo (s : State) (c : Nat) : (s.raiseFatal c).heldLo = s.heldLo := rfl
@[simp] theorem State.raiseFatal_lastSmb (s : State) (c : Nat) : (s.raiseFatal c).lastSmb = s.lastSmb := rfl
@[simp] theorem State.raiseFatal_answer (s : State) (c : Nat) : (s.raiseFatal c).answer = s.answer := rfl
@[simp] theorem State.raiseFatal_pwr (s : State) (c : Nat) : (s.raiseFatal c).pwr = s.pwr := rfl
@[simp] theorem State.raiseFatal_evr (s : State) (c : Nat) : (s.raiseFatal c).evr = s.evr := rfl
@[simp] theorem State.raiseFatal_img (s : State) (c : Nat) : (s.raiseFatal c).img = s.img := rfl
@[simp] theorem State.raiseFatal_cal (s : State) (c : Nat) : (s.raiseFatal c).cal = s.cal := rfl
@[simp] theorem State.raiseFatal_map (s : State) (c : Nat) : (s.raiseFatal c).map = s.map := rfl
@[simp] theorem State.raiseFatal_hfe (s : State) (c : Nat) : (s.raiseFatal c).hfe = s.hfe := rfl
@[simp] theorem State.raiseFatal_lat (s : State) (c : Nat) : (s.raiseFatal c).lat = s.lat := rfl
@[simp] theorem State.raiseFatal_wc (s : State) (c : Nat) : (s.raiseFatal c).wc = s.wc := rfl
@[simp] theorem State.raiseFatal_vault (s : State) (c : Nat) : (s.raiseFatal c).vault = s.vault := rfl
@[simp] theorem State.raiseFatal_rbe (s : State) (c : Nat) : (s.raiseFatal c).rbe = s.rbe := rfl
@[simp] theorem State.raiseFatal_sc (s : State) (c : Nat) : (s.raiseFatal c).sc = s.sc := rfl
@[simp] theorem State.raiseFatal_dma (s : State) (c : Nat) : (s.raiseFatal c).dma = s.dma := rfl
@[simp] theorem State.raiseFatal_cip (s : State) (c : Nat) : (s.raiseFatal c).cip = s.cip := rfl
@[simp] theorem State.raiseFatal_ports (s : State) (c : Nat) : (s.raiseFatal c).ports = s.ports := rfl
@[simp] theorem State.raiseFatal_capo (s : State) (c : Nat) : (s.raiseFatal c).capo = s.capo := rfl
@[simp] theorem State.raiseFatal_fed (s : State) (c : Nat) : (s.raiseFatal c).fed = s.fed := rfl
@[simp] theorem State.raiseFatal_nrg (s : State) (c : Nat) : (s.raiseFatal c).nrg = s.nrg := rfl
@[simp] theorem State.raiseFatal_therm (s : State) (c : Nat) : (s.raiseFatal c).therm = s.therm := rfl
@[simp] theorem State.raiseFatal_fans (s : State) (c : Nat) : (s.raiseFatal c).fans = s.fans := rfl
@[simp] theorem State.raiseFatal_age (s : State) (c : Nat) : (s.raiseFatal c).age = s.age := rfl
@[simp] theorem State.fld_raiseFatal (s : State) (c : Nat) (g : Field) : (s.raiseFatal c).fld g = s.fld g := rfl
@[simp] theorem State.bit_raiseFatal (s : State) (c : Nat) (g : Field) : (s.raiseFatal c).bit g = s.bit g := rfl

@[simp] theorem State.hold_pending (s : State) (h : FetchHold) : (s.hold h).pending = s.pending := rfl
@[simp] theorem State.hold_now (s : State) (h : FetchHold) : (s.hold h).now = s.now := rfl
@[simp] theorem State.hold_freeIx (s : State) (h : FetchHold) : (s.hold h).freeIx = s.freeIx := rfl
@[simp] theorem State.hold_regs (s : State) (h : FetchHold) : (s.hold h).regs = s.regs := rfl
@[simp] theorem State.hold_latches (s : State) (h : FetchHold) : (s.hold h).latches = s.latches := rfl
@[simp] theorem State.hold_heldLo (s : State) (h : FetchHold) : (s.hold h).heldLo = s.heldLo := rfl
@[simp] theorem State.hold_lastSmb (s : State) (h : FetchHold) : (s.hold h).lastSmb = s.lastSmb := rfl
@[simp] theorem State.hold_answer (s : State) (h : FetchHold) : (s.hold h).answer = s.answer := rfl
@[simp] theorem State.hold_evr (s : State) (h : FetchHold) : (s.hold h).evr = s.evr := rfl
@[simp] theorem State.hold_err (s : State) (h : FetchHold) : (s.hold h).err = s.err := rfl
@[simp] theorem State.hold_img (s : State) (h : FetchHold) : (s.hold h).img = s.img := rfl
@[simp] theorem State.hold_cal (s : State) (h : FetchHold) : (s.hold h).cal = s.cal := rfl
@[simp] theorem State.hold_map (s : State) (h : FetchHold) : (s.hold h).map = s.map := rfl
@[simp] theorem State.hold_hfe (s : State) (h : FetchHold) : (s.hold h).hfe = s.hfe := rfl
@[simp] theorem State.hold_lat (s : State) (h : FetchHold) : (s.hold h).lat = s.lat := rfl
@[simp] theorem State.hold_wc (s : State) (h : FetchHold) : (s.hold h).wc = s.wc := rfl
@[simp] theorem State.hold_vault (s : State) (h : FetchHold) : (s.hold h).vault = s.vault := rfl
@[simp] theorem State.hold_rbe (s : State) (h : FetchHold) : (s.hold h).rbe = s.rbe := rfl
@[simp] theorem State.hold_sc (s : State) (h : FetchHold) : (s.hold h).sc = s.sc := rfl
@[simp] theorem State.hold_dma (s : State) (h : FetchHold) : (s.hold h).dma = s.dma := rfl
@[simp] theorem State.hold_cip (s : State) (h : FetchHold) : (s.hold h).cip = s.cip := rfl
@[simp] theorem State.hold_ports (s : State) (h : FetchHold) : (s.hold h).ports = s.ports := rfl
@[simp] theorem State.hold_capo (s : State) (h : FetchHold) : (s.hold h).capo = s.capo := rfl
@[simp] theorem State.hold_fed (s : State) (h : FetchHold) : (s.hold h).fed = s.fed := rfl
@[simp] theorem State.hold_nrg (s : State) (h : FetchHold) : (s.hold h).nrg = s.nrg := rfl
@[simp] theorem State.hold_therm (s : State) (h : FetchHold) : (s.hold h).therm = s.therm := rfl
@[simp] theorem State.hold_fans (s : State) (h : FetchHold) : (s.hold h).fans = s.fans := rfl
@[simp] theorem State.hold_age (s : State) (h : FetchHold) : (s.hold h).age = s.age := rfl
@[simp] theorem State.fld_hold (s : State) (h : FetchHold) (g : Field) : (s.hold h).fld g = s.fld g := rfl
@[simp] theorem State.bit_hold (s : State) (h : FetchHold) (g : Field) : (s.hold h).bit g = s.bit g := rfl

@[simp] theorem State.unhold_pending (s : State) (h : FetchHold) : (s.unhold h).pending = s.pending := rfl
@[simp] theorem State.unhold_now (s : State) (h : FetchHold) : (s.unhold h).now = s.now := rfl
@[simp] theorem State.unhold_freeIx (s : State) (h : FetchHold) : (s.unhold h).freeIx = s.freeIx := rfl
@[simp] theorem State.unhold_regs (s : State) (h : FetchHold) : (s.unhold h).regs = s.regs := rfl
@[simp] theorem State.unhold_latches (s : State) (h : FetchHold) : (s.unhold h).latches = s.latches := rfl
@[simp] theorem State.unhold_heldLo (s : State) (h : FetchHold) : (s.unhold h).heldLo = s.heldLo := rfl
@[simp] theorem State.unhold_lastSmb (s : State) (h : FetchHold) : (s.unhold h).lastSmb = s.lastSmb := rfl
@[simp] theorem State.unhold_answer (s : State) (h : FetchHold) : (s.unhold h).answer = s.answer := rfl
@[simp] theorem State.unhold_evr (s : State) (h : FetchHold) : (s.unhold h).evr = s.evr := rfl
@[simp] theorem State.unhold_err (s : State) (h : FetchHold) : (s.unhold h).err = s.err := rfl
@[simp] theorem State.unhold_img (s : State) (h : FetchHold) : (s.unhold h).img = s.img := rfl
@[simp] theorem State.unhold_cal (s : State) (h : FetchHold) : (s.unhold h).cal = s.cal := rfl
@[simp] theorem State.unhold_map (s : State) (h : FetchHold) : (s.unhold h).map = s.map := rfl
@[simp] theorem State.unhold_hfe (s : State) (h : FetchHold) : (s.unhold h).hfe = s.hfe := rfl
@[simp] theorem State.unhold_lat (s : State) (h : FetchHold) : (s.unhold h).lat = s.lat := rfl
@[simp] theorem State.unhold_wc (s : State) (h : FetchHold) : (s.unhold h).wc = s.wc := rfl
@[simp] theorem State.unhold_vault (s : State) (h : FetchHold) : (s.unhold h).vault = s.vault := rfl
@[simp] theorem State.unhold_rbe (s : State) (h : FetchHold) : (s.unhold h).rbe = s.rbe := rfl
@[simp] theorem State.unhold_sc (s : State) (h : FetchHold) : (s.unhold h).sc = s.sc := rfl
@[simp] theorem State.unhold_dma (s : State) (h : FetchHold) : (s.unhold h).dma = s.dma := rfl
@[simp] theorem State.unhold_cip (s : State) (h : FetchHold) : (s.unhold h).cip = s.cip := rfl
@[simp] theorem State.unhold_ports (s : State) (h : FetchHold) : (s.unhold h).ports = s.ports := rfl
@[simp] theorem State.unhold_capo (s : State) (h : FetchHold) : (s.unhold h).capo = s.capo := rfl
@[simp] theorem State.unhold_fed (s : State) (h : FetchHold) : (s.unhold h).fed = s.fed := rfl
@[simp] theorem State.unhold_nrg (s : State) (h : FetchHold) : (s.unhold h).nrg = s.nrg := rfl
@[simp] theorem State.unhold_therm (s : State) (h : FetchHold) : (s.unhold h).therm = s.therm := rfl
@[simp] theorem State.unhold_fans (s : State) (h : FetchHold) : (s.unhold h).fans = s.fans := rfl
@[simp] theorem State.unhold_age (s : State) (h : FetchHold) : (s.unhold h).age = s.age := rfl
@[simp] theorem State.fld_unhold (s : State) (h : FetchHold) (g : Field) : (s.unhold h).fld g = s.fld g := rfl
@[simp] theorem State.bit_unhold (s : State) (h : FetchHold) (g : Field) : (s.unhold h).bit g = s.bit g := rfl

@[simp] theorem State.used_pending (s : State)  : (s.used).pending = s.pending := rfl
@[simp] theorem State.used_now (s : State)  : (s.used).now = s.now := rfl
@[simp] theorem State.used_regs (s : State)  : (s.used).regs = s.regs := rfl
@[simp] theorem State.used_latches (s : State)  : (s.used).latches = s.latches := rfl
@[simp] theorem State.used_heldLo (s : State)  : (s.used).heldLo = s.heldLo := rfl
@[simp] theorem State.used_lastSmb (s : State)  : (s.used).lastSmb = s.lastSmb := rfl
@[simp] theorem State.used_answer (s : State)  : (s.used).answer = s.answer := rfl
@[simp] theorem State.used_pwr (s : State)  : (s.used).pwr = s.pwr := rfl
@[simp] theorem State.used_evr (s : State)  : (s.used).evr = s.evr := rfl
@[simp] theorem State.used_err (s : State)  : (s.used).err = s.err := rfl
@[simp] theorem State.used_img (s : State)  : (s.used).img = s.img := rfl
@[simp] theorem State.used_cal (s : State)  : (s.used).cal = s.cal := rfl
@[simp] theorem State.used_map (s : State)  : (s.used).map = s.map := rfl
@[simp] theorem State.used_hfe (s : State)  : (s.used).hfe = s.hfe := rfl
@[simp] theorem State.used_lat (s : State)  : (s.used).lat = s.lat := rfl
@[simp] theorem State.used_wc (s : State)  : (s.used).wc = s.wc := rfl
@[simp] theorem State.used_vault (s : State)  : (s.used).vault = s.vault := rfl
@[simp] theorem State.used_rbe (s : State)  : (s.used).rbe = s.rbe := rfl
@[simp] theorem State.used_sc (s : State)  : (s.used).sc = s.sc := rfl
@[simp] theorem State.used_dma (s : State)  : (s.used).dma = s.dma := rfl
@[simp] theorem State.used_cip (s : State)  : (s.used).cip = s.cip := rfl
@[simp] theorem State.used_ports (s : State)  : (s.used).ports = s.ports := rfl
@[simp] theorem State.used_capo (s : State)  : (s.used).capo = s.capo := rfl
@[simp] theorem State.used_fed (s : State)  : (s.used).fed = s.fed := rfl
@[simp] theorem State.used_nrg (s : State)  : (s.used).nrg = s.nrg := rfl
@[simp] theorem State.used_therm (s : State)  : (s.used).therm = s.therm := rfl
@[simp] theorem State.used_fans (s : State)  : (s.used).fans = s.fans := rfl
@[simp] theorem State.used_age (s : State)  : (s.used).age = s.age := rfl
@[simp] theorem State.fld_used (s : State)  (g : Field) : (s.used).fld g = s.fld g := rfl
@[simp] theorem State.bit_used (s : State)  (g : Field) : (s.used).bit g = s.bit g := rfl

@[simp] theorem State.busError_pending (s : State) (i : Iface) (r a : Nat) : (s.busError i r a).pending = s.pending := rfl
@[simp] theorem State.busError_now (s : State) (i : Iface) (r a : Nat) : (s.busError i r a).now = s.now := rfl
@[simp] theorem State.busError_freeIx (s : State) (i : Iface) (r a : Nat) : (s.busError i r a).freeIx = s.freeIx := rfl
@[simp] theorem State.busError_latches (s : State) (i : Iface) (r a : Nat) : (s.busError i r a).latches = s.latches := rfl
@[simp] theorem State.busError_heldLo (s : State) (i : Iface) (r a : Nat) : (s.busError i r a).heldLo = s.heldLo := rfl
@[simp] theorem State.busError_lastSmb (s : State) (i : Iface) (r a : Nat) : (s.busError i r a).lastSmb = s.lastSmb := rfl
@[simp] theorem State.busError_answer (s : State) (i : Iface) (r a : Nat) : (s.busError i r a).answer = s.answer := rfl
@[simp] theorem State.busError_pwr (s : State) (i : Iface) (r a : Nat) : (s.busError i r a).pwr = s.pwr := rfl
@[simp] theorem State.busError_evr (s : State) (i : Iface) (r a : Nat) : (s.busError i r a).evr = s.evr := rfl
@[simp] theorem State.busError_err (s : State) (i : Iface) (r a : Nat) : (s.busError i r a).err = s.err := rfl
@[simp] theorem State.busError_img (s : State) (i : Iface) (r a : Nat) : (s.busError i r a).img = s.img := rfl
@[simp] theorem State.busError_cal (s : State) (i : Iface) (r a : Nat) : (s.busError i r a).cal = s.cal := rfl
@[simp] theorem State.busError_map (s : State) (i : Iface) (r a : Nat) : (s.busError i r a).map = s.map := rfl
@[simp] theorem State.busError_hfe (s : State) (i : Iface) (r a : Nat) : (s.busError i r a).hfe = s.hfe := rfl
@[simp] theorem State.busError_lat (s : State) (i : Iface) (r a : Nat) : (s.busError i r a).lat = s.lat := rfl
@[simp] theorem State.busError_wc (s : State) (i : Iface) (r a : Nat) : (s.busError i r a).wc = s.wc := rfl
@[simp] theorem State.busError_vault (s : State) (i : Iface) (r a : Nat) : (s.busError i r a).vault = s.vault := rfl
@[simp] theorem State.busError_rbe (s : State) (i : Iface) (r a : Nat) : (s.busError i r a).rbe = s.rbe := rfl
@[simp] theorem State.busError_sc (s : State) (i : Iface) (r a : Nat) : (s.busError i r a).sc = s.sc := rfl
@[simp] theorem State.busError_dma (s : State) (i : Iface) (r a : Nat) : (s.busError i r a).dma = s.dma := rfl
@[simp] theorem State.busError_cip (s : State) (i : Iface) (r a : Nat) : (s.busError i r a).cip = s.cip := rfl
@[simp] theorem State.busError_ports (s : State) (i : Iface) (r a : Nat) : (s.busError i r a).ports = s.ports := rfl
@[simp] theorem State.busError_capo (s : State) (i : Iface) (r a : Nat) : (s.busError i r a).capo = s.capo := rfl
@[simp] theorem State.busError_fed (s : State) (i : Iface) (r a : Nat) : (s.busError i r a).fed = s.fed := rfl
@[simp] theorem State.busError_nrg (s : State) (i : Iface) (r a : Nat) : (s.busError i r a).nrg = s.nrg := rfl
@[simp] theorem State.busError_therm (s : State) (i : Iface) (r a : Nat) : (s.busError i r a).therm = s.therm := rfl
@[simp] theorem State.busError_fans (s : State) (i : Iface) (r a : Nat) : (s.busError i r a).fans = s.fans := rfl
@[simp] theorem State.busError_age (s : State) (i : Iface) (r a : Nat) : (s.busError i r a).age = s.age := rfl

@[simp] theorem State.emitAt_arrivals (s : State) (e : Ev) (sev : Nat) (p : List Nat) :
    (s.emitAt e sev p).evr.arrivals = s.evr.arrivals ++ [⟨e, sev, s.pitch, p⟩] := rfl

@[simp] theorem State.emit_arrivals (s : State) (e : Ev) (p : List Nat) :
    (s.emit e p).evr.arrivals = s.evr.arrivals ++ [⟨e, evSev e, s.pitch, p⟩] := rfl

@[simp] theorem State.raiseFatal_raised (s : State) (c : Nat) : (s.raiseFatal c).err.raised = s.err.raised ++ [c] := rfl

end Sys2Proof.Machine
end

