-- ==== Sys2Proof/Laws/Host.lean ====
section
/-!
SUPPORT. Laws/Host.lean: what the shared operations of the host front end do: when an administration command runs, that it is answered, and
how a fetched command ends.
-/
namespace Sys2Proof.Machine

/-- Taking an entry of the admin queue changes no outstanding event request. -/
theorem adminTake_dup (s : State) (f : FnIdx) (cid : Nat) : (s.adminTake f).adminDup f cid = s.adminDup f cid := by
  simp [State.adminTake, State.adminDup, State.fn, State.putFn]

theorem adminTake_safeMode (s : State) (f : FnIdx) : (s.adminTake f).safeMode = s.safeMode := rfl

theorem adminTake_sanitize (s : State) (f : FnIdx) : (s.adminTake f).hfe.sanitize = s.hfe.sanitize := rfl

/-- An administration command that may go is taken from its queue and has its effect. -/
theorem admin_goes (s : State) (f : FnIdx) (cid : Nat) (safe sani : Bool) (run : State → State) (h : s.AdminGoes f cid safe sani) :
    s.admin f cid safe sani run = .next (run (s.adminTake f)) := by
  obtain ⟨h1, h2, h3, h4, h5, h6⟩ := h
  simp only [State.admin, h1, h2, h3, adminTake_dup, h4, adminTake_safeMode, adminTake_sanitize, h5, h6, Bool.not_true, Bool.false_eq_true,
    if_false]

/-- A command register that takes a write runs its command. -/
theorem command_takes (s : State) (addr : Nat) (run : State → Out State) (h : s.Takes addr) : s.command addr run = run s := by
  obtain ⟨h1, h2⟩ := h
  simp only [Bool.and_eq_false_imp] at h2
  unfold State.command
  simp only [h1, Bool.not_true, Bool.false_eq_true, if_false]
  split
  · rename_i h3
    simp only [Bool.and_eq_true] at h3
    simp [h2 h3.1] at h3
  · rfl

theorem hfe_putFn (s : State) (f : FnIdx) (x : FnSt) : (s.putFn f x).hfe.posted = s.hfe.posted ∧
    (s.putFn f x).hfe.collector = s.hfe.collector ∧ (s.putFn f x).hfe.cqs = s.hfe.cqs := ⟨rfl, rfl, rfl⟩

theorem hfe_logError (s : State) (f : FnIdx) (st : Status) : (s.logError f st).hfe.posted = s.hfe.posted ∧
    (s.logError f st).hfe.collector = s.hfe.collector ∧ (s.logError f st).hfe.cqs = s.hfe.cqs := by
  unfold State.logError
  split
  · exact ⟨rfl, rfl, rfl⟩
  · exact hfe_putFn _ _ _

/-- Posting an entry lists it, with the queue's head. -/
theorem postEntry_posted (s : State) (e : Cqe) (b : Bool) : ∃ h, (s.postEntry e b).hfe.posted = s.hfe.posted ++ [{ e with sqHead := h }] := by
  refine ⟨s.sqHeadOf e.fn e.sq, ?_⟩
  unfold State.postEntry
  dsimp only
  split
  · rfl
  · split_ifs <;> rfl

/-- A command that ends in the admin queue is answered. -/
theorem adminDone_answers (s : State) (f : FnIdx) (cid : Nat) (st : Status) (dw0 : Nat) (data : List Nat) :
    s.Answered (s.adminDone f cid st dw0 data) f cid st dw0 data := by
  obtain ⟨h1, h2, h3⟩ := hfe_logError s f st
  have post : ∀ b, ∃ h, ((s.logError f st).postEntry ⟨f, 0, cid, st, dw0, data, 0⟩ b).hfe.posted =
      s.hfe.posted ++ [⟨f, 0, cid, st, dw0, data, h⟩] := by
    intro b
    obtain ⟨h, e⟩ := postEntry_posted (s.logError f st) ⟨f, 0, cid, st, dw0, data, 0⟩ b
    exact ⟨h, by rw [e, h1]⟩
  unfold State.adminDone
  dsimp only
  split
  · split
    · exact .inr ⟨_, by rw [h2], rfl⟩
    · exact .inl (post false)
  · exact .inl (post false)

/-- A command that changed neither the posted entries nor the collector before it ended is answered in the same way. -/
theorem Answered_of (s u t : State) (f : FnIdx) (cid : Nat) (st : Status) (dw0 : Nat) (data : List Nat)
    (h1 : u.hfe.posted = s.hfe.posted) (h2 : u.hfe.collector = s.hfe.collector) (h : u.Answered t f cid st dw0 data) :
    s.Answered t f cid st dw0 data := by
  unfold State.Answered at *
  rw [← h1, ← h2]
  exact h

/-- A fetched command that ends stands in the collector. -/
theorem collect_ends (s : State) (c : HostCmd) (st : Status) (data : List Blob) : s.Ended (s.collect c st data) c st data := by
  unfold State.collect
  dsimp only
  refine ⟨⟨⟨c.fn, c.sq, c.cid, st, 0, data, 0⟩, some c.tag, c.cls, c.order, s.now, c.bell, c.excl⟩, ?_, rfl, rfl⟩
  simp only [State.maxFld, State.setFld_hfe]
  exact (hfe_logError _ c.fn st).2.1

end Sys2Proof.Machine
end

