-- ==== Sys2Proof/Laws/Kept.lean ====
section
/-!
SUPPORT. Laws/Kept.lean: the relation "every register field outside a list keeps its value", with what composes it.
-/
namespace Sys2Proof.Machine

/-- A command's outcome is a next state in which every register field outside a list keeps its value. -/
def KeptOut (l : List Field) (s : State) (o : Out State) : Prop := ∃ t, o = .next t ∧ Kept l s t

theorem Kept.refl {l : List Field} {s : State} : Kept l s s := fun _ _ => rfl

theorem Kept.step {l m : List Field} {s t u : State} (k : Kept m t u) (hm : m.all (fun g => l.contains g) = true) (h : Kept l s t) :
    Kept l s u := by
  intro f hf
  rw [← h f hf]
  refine k f (fun g hg => hf g ?_)
  rw [List.all_eq_true] at hm
  simpa using hm g hg

theorem Kept.mono {l m : List Field} {s t : State} (k : Kept m s t) (hm : m.all (fun g => l.contains g) = true) : Kept l s t :=
  Kept.step k hm Kept.refl

theorem Kept.regs {l : List Field} {s a t : State} (e : t.regs = a.regs) (h : Kept l s a) : Kept l s t := by
  intro f hf
  rw [State.fld_of_regs a t f e]
  exact h f hf

theorem Kept.setAny {l : List Field} {s a : State} {f : Field} {v : Nat} (hg : ∃ g ∈ l, g.instOf f) (h : Kept l s a) :
    Kept l s (a.setFld f v) := by
  intro x hx
  obtain ⟨g, hl, hi⟩ := hg
  rw [State.fld_setFld_ne]
  · exact h x hx
  · intro e
    refine hx g hl ?_
    rcases hi with hi | ⟨i, hi⟩
    · exact .inl (e.trans hi)
    · exact .inr ⟨i, e.trans hi⟩

theorem Field.instOf_self (g : Field) : g.instOf g := .inl rfl

theorem Field.instOf_at (g : Field) (i : Nat) : g.instOf (g.at i) := .inr ⟨i, rfl⟩

theorem Kept.setFld {l : List Field} {s a : State} {g : Field} {v : Nat} (hg : l.contains g = true) (h : Kept l s a) :
    Kept l s (a.setFld g v) :=
  Kept.setAny ⟨g, by simpa using hg, g.instOf_self⟩ h

theorem Kept.setFldAt {l : List Field} {s a : State} {g : Field} {i : Nat} {v : Nat} (hg : l.contains g = true) (h : Kept l s a) :
    Kept l s (a.setFld (g.at i) v) :=
  Kept.setAny ⟨g, by simpa using hg, g.instOf_at i⟩ h

theorem Kept.setBit {l : List Field} {s a : State} {g : Field} {v : Bool} (hg : l.contains g = true) (h : Kept l s a) :
    Kept l s (a.setBit g v) :=
  Kept.setAny ⟨g, by simpa using hg, g.instOf_self⟩ h

theorem Kept.setBitAt {l : List Field} {s a : State} {g : Field} {i : Nat} {v : Bool} (hg : l.contains g = true) (h : Kept l s a) :
    Kept l s (a.setBit (g.at i) v) :=
  Kept.setAny ⟨g, by simpa using hg, g.instOf_at i⟩ h

theorem Kept.incFld {l : List Field} {s a : State} {g : Field} {v : Nat} (hg : l.contains g = true) (h : Kept l s a) :
    Kept l s (a.incFld g v) :=
  Kept.setAny ⟨g, by simpa using hg, g.instOf_self⟩ h

theorem Kept.incFldAt {l : List Field} {s a : State} {g : Field} {i : Nat} {v : Nat} (hg : l.contains g = true) (h : Kept l s a) :
    Kept l s (a.incFld (g.at i) v) :=
  Kept.setAny ⟨g, by simpa using hg, g.instOf_at i⟩ h

theorem Kept.satFld {l : List Field} {s a : State} {g : Field} {v : Nat} (hg : l.contains g = true) (h : Kept l s a) :
    Kept l s (a.satFld g v) :=
  Kept.setAny ⟨g, by simpa using hg, g.instOf_self⟩ h

theorem Kept.satFldAt {l : List Field} {s a : State} {g : Field} {i : Nat} {v : Nat} (hg : l.contains g = true) (h : Kept l s a) :
    Kept l s (a.satFld (g.at i) v) :=
  Kept.setAny ⟨g, by simpa using hg, g.instOf_at i⟩ h

theorem Kept.maxFld {l : List Field} {s a : State} {g : Field} {v : Nat} (hg : l.contains g = true) (h : Kept l s a) :
    Kept l s (a.maxFld g v) :=
  Kept.setAny ⟨g, by simpa using hg, g.instOf_self⟩ h

theorem Kept.maxFldAt {l : List Field} {s a : State} {g : Field} {i : Nat} {v : Nat} (hg : l.contains g = true) (h : Kept l s a) :
    Kept l s (a.maxFld (g.at i) v) :=
  Kept.setAny ⟨g, by simpa using hg, g.instOf_at i⟩ h

/-- A check that a field is none of those of an indexed field. -/
def Field.apart (g f : Field) : Bool :=
  decide (g.lsb < 4096) && decide (f.lsb < 4096) && decide (f.addr < 0x100000000) && f.key != g.key &&
  (g.lsb != f.lsb || decide (f.addr < g.addr) ||
    (if g.stride = 0 then g.addr != f.addr
     else (f.addr - g.addr) % g.stride != 0 || decide (g.count ≤ (f.addr - g.addr) / g.stride)))

theorem Field.not_instOf {g f : Field} (h : g.apart f = true) : ¬ g.instOf f := by
  simp only [Field.apart, Bool.and_eq_true, decide_eq_true_eq, Bool.or_eq_true, bne_iff_ne] at h
  obtain ⟨⟨⟨⟨h1, h2⟩, h4⟩, h5⟩, h3⟩ := h
  rintro (e | ⟨i, e⟩)
  · exact h5 e
  simp only [Field.key, Field.at] at e
  have e1 : f.lsb = g.lsb := by split at e <;> omega
  have e2 : i < g.count ∧ f.addr = g.addr + i * g.stride := by
    split at e
    · exact ⟨by assumption, by omega⟩
    · exfalso
      have : f.addr = 0x100000000 + g.addr + i * g.stride := by omega
      omega
  obtain ⟨hi, e2⟩ := e2
  rcases h3 with (h3 | h3) | h3
  · exact h3 e1.symm
  · rw [e2] at h3; exact absurd h3 (by have := Nat.zero_le (i * g.stride); omega)
  · split at h3
    · rename_i hz
      rw [hz] at e2
      simp at h3; omega
    · rename_i hz
      simp only [bne_iff_ne, ne_eq, Bool.or_eq_true, decide_eq_true_eq] at h3
      rw [e2] at h3
      simp only [Nat.add_sub_cancel_left, Nat.mul_mod_left, not_true_eq_false, false_or] at h3
      rw [Nat.mul_div_cancel _ (Nat.pos_of_ne_zero hz)] at h3
      omega

/-- A field that is apart from every listed one keeps its value. -/
theorem Kept.fld {l : List Field} {s t : State} (k : Kept l s t) (f : Field) (h : l.all (fun g => g.apart f) = true) :
    t.fld f = s.fld f := by
  refine k f (fun g hg => Field.not_instOf ?_)
  rw [List.all_eq_true] at h
  exact h g hg

theorem Kept.bit {l : List Field} {s t : State} (k : Kept l s t) (f : Field) (h : l.all (fun g => g.apart f) = true) :
    t.bit f = s.bit f := by
  simp only [State.bit, k.fld f h]

theorem Kept.ite {l : List Field} {s a b : State} {c : Prop} {_ : Decidable c} (ha : Kept l s a) (hb : Kept l s b) :
    Kept l s (if c then a else b) := by split <;> assumption

theorem Kept.foldl {α : Type} {l : List Field} {s a : State} {f : State → α → State} {xs : List α}
    (hf : ∀ b x, Kept l s b → Kept l s (f b x)) (h : Kept l s a) : Kept l s (xs.foldl f a) := by
  induction xs generalizing a with
  | nil => exact h
  | cons x xs ih => exact ih (hf a x h)

theorem Kept.foldlFst {α β : Type} {l : List Field} {s : State} {a : State × β} {f : State × β → α → State × β} {xs : List α}
    (hf : ∀ b x, Kept l s b.1 → Kept l s (f b x).1) (h : Kept l s a.1) : Kept l s (xs.foldl f a).1 := by
  induction xs generalizing a with
  | nil => exact h
  | cons x xs ih => exact ih (hf a x h)

theorem Kept.foldlSnd {α β : Type} {l : List Field} {s : State} {a : β × State} {f : β × State → α → β × State} {xs : List α}
    (hf : ∀ b x, Kept l s b.2 → Kept l s (f b x).2) (h : Kept l s a.2) : Kept l s (xs.foldl f a).2 := by
  induction xs generalizing a with
  | nil => exact h
  | cons x xs ih => exact ih (hf a x h)

theorem Kept.ofFst {β : Type} {m : List Field} {a t : State} {p : State × β} {o : β} (k : Kept m a p.1) (h : p = (t, o)) : Kept m a t := by
  rw [h] at k; exact k

theorem Kept.ofSnd {β : Type} {m : List Field} {a t : State} {p : β × State} {o : β} (k : Kept m a p.2) (h : p = (o, t)) : Kept m a t := by
  rw [h] at k; exact k

theorem KeptOut.next {l : List Field} {s t : State} (h : Kept l s t) : KeptOut l s (.next t) := ⟨t, rfl, h⟩

theorem KeptOut.mono {l m : List Field} {s : State} {o : Out State} (k : KeptOut m s o) (hm : m.all (fun g => l.contains g) = true) :
    KeptOut l s o := by
  obtain ⟨t, h, g⟩ := k
  exact ⟨t, h, g.mono hm⟩

theorem KeptOut.ite {l : List Field} {s : State} {a b : Out State} {c : Prop} {_ : Decidable c} (ha : KeptOut l s a) (hb : KeptOut l s b) :
    KeptOut l s (if c then a else b) := by split <;> assumption

/-- The relation at a state given by its fields. -/
def KeptMk (l : List Field) (s : State) (x0 : List Instr) (x1 : Nat) (x2 : Nat) (x3 : Tbl Nat) (x4 : Tbl Nat) (x5 : Tbl Nat) (x6 : Nat) (x7 : List Nat) (x8 : Pwr) (x9 : Evr) (x10 : Err) (x11 : Img) (x12 : Cal) (x13 : MapSt) (x14 : Hfe) (x15 : Lat) (x16 : Wc) (x17 : Vault) (x18 : Rbe) (x19 : Sc) (x20 : Dma) (x21 : Cip) (x22 : Tbl PortSt) (x23 : Capo) (x24 : Fed) (x25 : Nrg) (x26 : Therm) (x27 : Tbl Fan) (x28 : Age) : Prop :=
  Kept l s ⟨x0, x1, x2, x3, x4, x5, x6, x7, x8, x9, x10, x11, x12, x13, x14, x15, x16, x17, x18, x19, x20, x21, x22, x23, x24, x25, x26, x27, x28⟩

theorem Kept.mk_form (l : List Field) (s : State) (x0 : List Instr) (x1 : Nat) (x2 : Nat) (x3 : Tbl Nat) (x4 : Tbl Nat) (x5 : Tbl Nat) (x6 : Nat) (x7 : List Nat) (x8 : Pwr) (x9 : Evr) (x10 : Err) (x11 : Img) (x12 : Cal) (x13 : MapSt) (x14 : Hfe) (x15 : Lat) (x16 : Wc) (x17 : Vault) (x18 : Rbe) (x19 : Sc) (x20 : Dma) (x21 : Cip) (x22 : Tbl PortSt) (x23 : Capo) (x24 : Fed) (x25 : Nrg) (x26 : Therm) (x27 : Tbl Fan) (x28 : Age) :
    Kept l s (State.mk x0 x1 x2 x3 x4 x5 x6 x7 x8 x9 x10 x11 x12 x13 x14 x15 x16 x17 x18 x19 x20 x21 x22 x23 x24 x25 x26 x27 x28) = KeptMk l s x0 x1 x2 x3 x4 x5 x6 x7 x8 x9 x10 x11 x12 x13 x14 x15 x16 x17 x18 x19 x20 x21 x22 x23 x24 x25 x26 x27 x28 := rfl

theorem KeptMk.intro {l : List Field} {s : State} {a : State} {x0 : List Instr} {x1 : Nat} {x2 : Nat} {x3 : Tbl Nat} {x4 : Tbl Nat} {x5 : Tbl Nat} {x6 : Nat} {x7 : List Nat} {x8 : Pwr} {x9 : Evr} {x10 : Err} {x11 : Img} {x12 : Cal} {x13 : MapSt} {x14 : Hfe} {x15 : Lat} {x16 : Wc} {x17 : Vault} {x18 : Rbe} {x19 : Sc} {x20 : Dma} {x21 : Cip} {x22 : Tbl PortSt} {x23 : Capo} {x24 : Fed} {x25 : Nrg} {x26 : Therm} {x27 : Tbl Fan} {x28 : Age}
    (h : Kept l s a) (_h0 : x0 = a.pending) (h3 : x3 = a.regs) : KeptMk l s x0 x1 x2 x3 x4 x5 x6 x7 x8 x9 x10 x11 x12 x13 x14 x15 x16 x17 x18 x19 x20 x21 x22 x23 x24 x25 x26 x27 x28 :=
  Kept.regs (a := a) h3 h

/-- The fields that a refused command write sets (R469). -/
abbrev busFields : List Field :=
  [Fld.SYS_BUS_STATUS.ERR, Fld.SYS_BUS_STATUS.IFACE, Fld.SYS_BUS_STATUS.REASON, Fld.SYS_BUS_ADDR.OFFSET]

theorem kept_State_busError (s : State) (i : Iface) (reason addr : Nat) : Kept busFields s (s.busError i reason addr) := by
  unfold State.busError
  repeat' first
    | exact Kept.refl
    | exact (rfl : (_ : Bool) = _)
    | apply Kept.setFld

theorem KeptOut.command {l : List Field} {s a : State} {addr : Nat} {run : State → Out State}
    (hl : busFields.all (fun g => l.contains g) = true)
    (h : Kept l s a) (k : KeptOut l s (run a)) : KeptOut l s (a.command addr run) := by
  unfold State.command
  have hb : ∀ r, Kept l s ((a.used.busError .host0 r addr).setFld Fld.SYS_BUS_STATUS.IFACE (a.free 2).toNat) := by
    intro r
    refine Kept.setFld ?_ ?_
    · rw [List.all_eq_true] at hl
      exact hl _ (by simp [busFields])
    · exact Kept.step (kept_State_busError _ _ _ _) hl (Kept.regs rfl h)
  dsimp only
  refine KeptOut.ite (KeptOut.next (hb 4)) (KeptOut.ite (KeptOut.next (Kept.regs rfl (hb 5))) k)

end Sys2Proof.Machine
end

