-- ==== Sys2Proof/Laws/KeptLow.lean ====
section
/-!
SUPPORT. Laws/KeptLow.lean: for each operation of Ops, Arrays, Media, HostOps, Members, PortOps, WcOps, IoOps, CipOps, NrgOps, UpdOps, ImgOps, FanOps, ScOps, DmaOps, EvrOps, Updates, CapoOps (in Machine/),
the register fields that it may change.
-/
set_option linter.unreachableTactic false
set_option linter.unusedTactic false
namespace Sys2Proof.Machine

/-! ### Machine/Ops.lean -/

theorem kept_State_used (s : State) : Kept [] s (State.used s) := by
  unfold State.used
  try dsimp only
  repeat' first
    | exact (rfl : (_ : Bool) = _)
    | with_reducible exact Kept.refl
    | (dsimp only [Kept.mk_form]; with_reducible apply KeptMk.intro (_h0 := rfl) (h3 := rfl))

theorem kept_State_emitAt (s : State) (e : Ev) (sev : Nat) (payload : List Nat) : Kept [] s (State.emitAt s e sev payload) := by
  unfold State.emitAt
  try dsimp only
  repeat' first
    | exact (rfl : (_ : Bool) = _)
    | with_reducible exact Kept.refl
    | (dsimp only [Kept.mk_form]; with_reducible apply KeptMk.intro (_h0 := rfl) (h3 := rfl))

theorem kept_State_emit (s : State) (e : Ev) (payload : List Nat) : Kept [] s (State.emit s e payload) := by
  unfold State.emit
  try dsimp only
  repeat' first
    | exact (rfl : (_ : Bool) = _)
    | with_reducible exact Kept.refl
    | with_reducible apply Kept.step (kept_State_emitAt _ _ _ _)

theorem kept_State_raiseFatal (s : State) (cause : Nat) : Kept [] s (State.raiseFatal s cause) := by
  unfold State.raiseFatal
  try dsimp only
  repeat' first
    | exact (rfl : (_ : Bool) = _)
    | with_reducible exact Kept.refl
    | (dsimp only [Kept.mk_form]; with_reducible apply KeptMk.intro (_h0 := rfl) (h3 := rfl))

theorem kept_State_hold (s : State) (h : FetchHold) : Kept [] s (State.hold s h) := by
  unfold State.hold
  try dsimp only
  repeat' first
    | exact (rfl : (_ : Bool) = _)
    | with_reducible exact Kept.refl
    | with_reducible refine Kept.ite ?_ ?_
    | (dsimp only [Kept.mk_form]; with_reducible apply KeptMk.intro (_h0 := rfl) (h3 := rfl))
    | split
    | refine Kept.ite ?_ ?_

theorem kept_State_unhold (s : State) (h : FetchHold) : Kept [] s (State.unhold s h) := by
  unfold State.unhold
  try dsimp only
  repeat' first
    | exact (rfl : (_ : Bool) = _)
    | with_reducible exact Kept.refl
    | (dsimp only [Kept.mk_form]; with_reducible apply KeptMk.intro (_h0 := rfl) (h3 := rfl))

theorem kept_State_mirror (s : State) (i : MirrorItem) : Kept [Fld.MIRROR_BYTES] s (State.mirror s i) := by
  unfold State.mirror
  try dsimp only
  repeat' first
    | exact (rfl : (_ : Bool) = _)
    | with_reducible exact Kept.refl
    | with_reducible refine Kept.ite ?_ ?_
    | with_reducible apply Kept.incFldAt
    | with_reducible apply Kept.incFld
    | (dsimp only [Kept.mk_form]; with_reducible apply KeptMk.intro (_h0 := rfl) (h3 := rfl))
    | split
    | refine Kept.ite ?_ ?_

theorem kept_State_tokenChecked (s : State) (op : Nat) (iface : Nat) (ok : Bool) : Kept [Fld.EVR_CHAL, Fld.EVR_STATUS.CHAL_VALID, Fld.EVR_STATUS.LOCKOUT] s (State.tokenChecked s op iface ok) := by
  unfold State.tokenChecked
  try dsimp only
  repeat' first
    | exact (rfl : (_ : Bool) = _)
    | with_reducible exact Kept.refl
    | with_reducible refine Kept.ite ?_ ?_
    | with_reducible apply Kept.setFldAt
    | with_reducible apply Kept.setFld
    | with_reducible apply Kept.setBitAt
    | with_reducible apply Kept.setBit
    | with_reducible apply Kept.step (kept_State_emit _ _ _)
    | (dsimp only [Kept.mk_form]; with_reducible apply KeptMk.intro (_h0 := rfl) (h3 := rfl))
    | split
    | refine Kept.ite ?_ ?_


/-! ### Machine/Arrays.lean -/

theorem kept_State_putArr (s : State) (a : ArrayId) (r : Arr) : Kept [] s (State.putArr s a r) := by
  unfold State.putArr
  try dsimp only
  repeat' first
    | exact (rfl : (_ : Bool) = _)
    | with_reducible exact Kept.refl
    | (dsimp only [Kept.mk_form]; with_reducible apply KeptMk.intro (_h0 := rfl) (h3 := rfl))


/-! ### Machine/Media.lean -/

theorem kept_State_putMedia (s : State) (port : PortId) (m : Media) : Kept [] s (State.putMedia s port m) := by
  unfold State.putMedia
  try dsimp only
  repeat' first
    | exact (rfl : (_ : Bool) = _)
    | with_reducible exact Kept.refl
    | (dsimp only [Kept.mk_form]; with_reducible apply KeptMk.intro (_h0 := rfl) (h3 := rfl))

theorem kept_State_writeRaw (s : State) (r : Arr) (g : Geom) (stripe unit row : Nat) (p : Pos) (full : Blob) (gen : Nat) (lost empty : Bool) : Kept [] s (State.writeRaw s r g stripe unit row p full gen lost empty) := by
  unfold State.writeRaw
  try dsimp only
  repeat' first
    | exact (rfl : (_ : Bool) = _)
    | with_reducible exact Kept.refl
    | with_reducible assumption
    | with_reducible refine Kept.ite ?_ ?_
    | with_reducible apply Kept.step (kept_State_putMedia _ _ _)
    | (dsimp only [Kept.mk_form]; with_reducible apply KeptMk.intro (_h0 := rfl) (h3 := rfl))
    | split
    | dsimp only
    | refine Kept.ite ?_ ?_

theorem kept_State_recoverGroup (s : State) (r : Arr) (g : Geom) (m : Nat) (port : PortId) (group : Nat) : Kept [] s (State.recoverGroup s r g m port group) := by
  unfold State.recoverGroup
  try dsimp only
  repeat' first
    | exact (rfl : (_ : Bool) = _)
    | with_reducible exact Kept.refl
    | with_reducible assumption
    | with_reducible refine Kept.ite ?_ ?_
    | with_reducible apply Kept.step (kept_State_putMedia _ _ _)
    | with_reducible apply Kept.step (kept_State_writeRaw _ _ _ _ _ _ _ _ _ _ _)
    | with_reducible refine Kept.foldl (fun _ _ _ => ?_) ?_
    | with_reducible refine Kept.foldlFst (fun _ _ _ => ?_) ?_
    | with_reducible refine Kept.foldlSnd (fun _ _ _ => ?_) ?_
    | (dsimp only [Kept.mk_form]; with_reducible apply KeptMk.intro (_h0 := rfl) (h3 := rfl))
    | split
    | dsimp only
    | refine Kept.ite ?_ ?_

theorem kept_State_writeSec (s : State) (r : Arr) (g : Geom) (stripe unit row : Nat) (p : Pos) (full : Blob) (gen : Nat) (lost empty : Bool) : Kept [] s (State.writeSec s r g stripe unit row p full gen lost empty) := by
  unfold State.writeSec
  try dsimp only
  repeat' first
    | exact (rfl : (_ : Bool) = _)
    | with_reducible exact Kept.refl
    | with_reducible assumption
    | with_reducible refine Kept.ite ?_ ?_
    | with_reducible apply Kept.step (kept_State_recoverGroup _ _ _ _ _ _)
    | with_reducible apply Kept.step (kept_State_writeRaw _ _ _ _ _ _ _ _ _ _ _)
    | (dsimp only [Kept.mk_form]; with_reducible apply KeptMk.intro (_h0 := rfl) (h3 := rfl))
    | split
    | refine Kept.ite ?_ ?_

theorem kept_State_writeData (s : State) (r : Arr) (g : Geom) (stripe unit row : Nat) (c : CSec) (gen : Nat) : Kept [] s (State.writeData s r g stripe unit row c gen) := by
  unfold State.writeData
  try dsimp only
  repeat' first
    | exact (rfl : (_ : Bool) = _)
    | with_reducible exact Kept.refl
    | with_reducible assumption
    | with_reducible apply Kept.step (kept_State_writeSec _ _ _ _ _ _ _ _ _ _ _)
    | (dsimp only [Kept.mk_form]; with_reducible apply KeptMk.intro (_h0 := rfl) (h3 := rfl))
    | split

theorem kept_State_writeParity (s : State) (r : Arr) (g : Geom) (stripe unit row : Nat) (full : Blob) (gen : Nat) (rowEmpty : Bool) : Kept [] s (State.writeParity s r g stripe unit row full gen rowEmpty) := by
  unfold State.writeParity
  try dsimp only
  repeat' first
    | exact (rfl : (_ : Bool) = _)
    | with_reducible exact Kept.refl
    | with_reducible assumption
    | with_reducible apply Kept.step (kept_State_writeSec _ _ _ _ _ _ _ _ _ _ _)
    | (dsimp only [Kept.mk_form]; with_reducible apply KeptMk.intro (_h0 := rfl) (h3 := rfl))
    | split

theorem kept_State_writeSolved (s : State) (r : Arr) (g : Geom) (stripe unit row : Nat) (p : Pos) (fs : List Blob) (us : List (Option USec)) : Kept [] s (State.writeSolved s r g stripe unit row p fs us) := by
  unfold State.writeSolved
  try dsimp only
  repeat' first
    | exact (rfl : (_ : Bool) = _)
    | with_reducible exact Kept.refl
    | with_reducible refine Kept.ite ?_ ?_
    | with_reducible apply Kept.step (kept_State_writeSec _ _ _ _ _ _ _ _ _ _ _)
    | split
    | refine Kept.ite ?_ ?_

theorem kept_State_countMediaErr (s : State) (a : ArrayId) (m : Nat) : Kept [] s (State.countMediaErr s a m) := by
  unfold State.countMediaErr
  try dsimp only
  repeat' first
    | exact (rfl : (_ : Bool) = _)
    | with_reducible exact Kept.refl
    | with_reducible assumption
    | with_reducible refine Kept.ite ?_ ?_
    | with_reducible apply Kept.step (kept_State_putArr _ _ _)
    | (dsimp only [Kept.mk_form]; with_reducible apply KeptMk.intro (_h0 := rfl) (h3 := rfl))
    | split
    | refine Kept.ite ?_ ?_

theorem kept_State_countErasures (s : State) (a : ArrayId) (r : Arr) (row : Nat) (reads : List SecRead) : Kept [] s (State.countErasures s a r row reads) := by
  unfold State.countErasures
  try dsimp only
  repeat' first
    | exact (rfl : (_ : Bool) = _)
    | with_reducible exact Kept.refl
    | with_reducible assumption
    | with_reducible refine Kept.ite ?_ ?_
    | with_reducible apply Kept.step (kept_State_countMediaErr _ _ _)
    | with_reducible refine Kept.foldl (fun _ _ _ => ?_) ?_
    | (dsimp only [Kept.mk_form]; with_reducible apply KeptMk.intro (_h0 := rfl) (h3 := rfl))
    | split
    | refine Kept.ite ?_ ?_

theorem kept_State_repairRow (s : State) (a : ArrayId) (r : Arr) (g : Geom) (stripe row : Nat) (reads : List SecRead) (fs : List Blob) : Kept [Fld.ARR_REPAIR_COUNT] s (State.repairRow s a r g stripe row reads fs) := by
  unfold State.repairRow
  try dsimp only
  repeat' first
    | exact (rfl : (_ : Bool) = _)
    | with_reducible exact Kept.refl
    | with_reducible assumption
    | with_reducible apply Kept.incFldAt
    | with_reducible apply Kept.incFld
    | with_reducible apply Kept.step (kept_State_writeSolved _ _ _ _ _ _ _ _ _)
    | with_reducible refine Kept.foldl (fun _ _ _ => ?_) ?_
    | (dsimp only [Kept.mk_form]; with_reducible apply KeptMk.intro (_h0 := rfl) (h3 := rfl))
    | split

theorem kept_State_retag (s : State) (r : Arr) (keep : MSec → Bool) : Kept [] s (State.retag s r keep) := by
  unfold State.retag
  try dsimp only
  repeat' first
    | exact (rfl : (_ : Bool) = _)
    | with_reducible exact Kept.refl
    | with_reducible assumption
    | with_reducible apply Kept.step (kept_State_putMedia _ _ _)
    | with_reducible refine Kept.foldl (fun _ _ _ => ?_) ?_
    | with_reducible refine Kept.foldlFst (fun _ _ _ => ?_) ?_
    | with_reducible refine Kept.foldlSnd (fun _ _ _ => ?_) ?_
    | (dsimp only [Kept.mk_form]; with_reducible apply KeptMk.intro (_h0 := rfl) (h3 := rfl))
    | split
    | dsimp only


/-! ### Machine/HostOps.lean -/

theorem kept_State_putFn (s : State) (f : FnIdx) (x : FnSt) : Kept [] s (State.putFn s f x) := by
  unfold State.putFn
  try dsimp only
  repeat' first
    | exact (rfl : (_ : Bool) = _)
    | with_reducible exact Kept.refl
    | (dsimp only [Kept.mk_form]; with_reducible apply KeptMk.intro (_h0 := rfl) (h3 := rfl))

theorem kept_State_takeTag (s : State) (i : Nat) : Kept [] s (State.takeTag s i) := by
  unfold State.takeTag
  try dsimp only
  repeat' first
    | exact (rfl : (_ : Bool) = _)
    | with_reducible exact Kept.refl
    | with_reducible refine Kept.ite ?_ ?_
    | (dsimp only [Kept.mk_form]; with_reducible apply KeptMk.intro (_h0 := rfl) (h3 := rfl))
    | split
    | dsimp only
    | refine Kept.ite ?_ ?_

theorem kept_State_freeTag (s : State) (i : Nat) (busy : Bool) : Kept [] s (State.freeTag s i busy) := by
  unfold State.freeTag
  try dsimp only
  repeat' first
    | exact (rfl : (_ : Bool) = _)
    | with_reducible exact Kept.refl
    | with_reducible refine Kept.ite ?_ ?_
    | (dsimp only [Kept.mk_form]; with_reducible apply KeptMk.intro (_h0 := rfl) (h3 := rfl))
    | split
    | refine Kept.ite ?_ ?_

theorem kept_State_putCmd (s : State) (c : HostCmd) : Kept [] s (State.putCmd s c) := by
  unfold State.putCmd
  try dsimp only
  repeat' first
    | exact (rfl : (_ : Bool) = _)
    | with_reducible exact Kept.refl
    | with_reducible refine Kept.ite ?_ ?_
    | (dsimp only [Kept.mk_form]; with_reducible apply KeptMk.intro (_h0 := rfl) (h3 := rfl))
    | split
    | refine Kept.ite ?_ ?_

theorem kept_State_logError (s : State) (f : FnIdx) (st : Status) : Kept [] s (State.logError s f st) := by
  unfold State.logError
  try dsimp only
  repeat' first
    | exact (rfl : (_ : Bool) = _)
    | with_reducible exact Kept.refl
    | with_reducible refine Kept.ite ?_ ?_
    | with_reducible apply Kept.step (kept_State_putFn _ _ _)
    | (dsimp only [Kept.mk_form]; with_reducible apply KeptMk.intro (_h0 := rfl) (h3 := rfl))
    | split
    | refine Kept.ite ?_ ?_

theorem kept_State_collect (s : State) (c : HostCmd) (st : Status) (data : List Blob) : Kept [Fld.HFE_COLLECT_MAX.MAX_DEPTH] s (State.collect s c st data) := by
  unfold State.collect
  try dsimp only
  repeat' first
    | exact (rfl : (_ : Bool) = _)
    | with_reducible exact Kept.refl
    | with_reducible assumption
    | with_reducible refine Kept.ite ?_ ?_
    | with_reducible apply Kept.maxFldAt
    | with_reducible apply Kept.maxFld
    | with_reducible apply Kept.step (kept_State_logError _ _ _)
    | with_reducible apply Kept.step (kept_State_putCmd _ _)
    | (dsimp only [Kept.mk_form]; with_reducible apply KeptMk.intro (_h0 := rfl) (h3 := rfl))
    | split
    | dsimp only
    | refine Kept.ite ?_ ?_

theorem kept_State_postEntry (s : State) (e : Cqe) (coalesce : Bool) : Kept [] s (State.postEntry s e coalesce) := by
  unfold State.postEntry
  try dsimp only
  repeat' first
    | exact (rfl : (_ : Bool) = _)
    | with_reducible exact Kept.refl
    | with_reducible assumption
    | with_reducible refine Kept.ite ?_ ?_
    | (dsimp only [Kept.mk_form]; with_reducible apply KeptMk.intro (_h0 := rfl) (h3 := rfl))
    | split
    | dsimp only
    | refine Kept.ite ?_ ?_

theorem kept_State_adminDone (s : State) (f : FnIdx) (cid : Nat) (st : Status) (dw0 : Nat) (data : List Nat) : Kept [] s (State.adminDone s f cid st dw0 data) := by
  unfold State.adminDone
  try dsimp only
  repeat' first
    | exact (rfl : (_ : Bool) = _)
    | with_reducible exact Kept.refl
    | with_reducible assumption
    | with_reducible refine Kept.ite ?_ ?_
    | with_reducible apply Kept.step (kept_State_logError _ _ _)
    | with_reducible apply Kept.step (kept_State_postEntry _ _ _)
    | (dsimp only [Kept.mk_form]; with_reducible apply KeptMk.intro (_h0 := rfl) (h3 := rfl))
    | split
    | refine Kept.ite ?_ ?_

theorem kept_State_releaseCmd (s : State) (tag : Nat) (busy : Bool) : Kept [] s (State.releaseCmd s tag busy) := by
  unfold State.releaseCmd
  try dsimp only
  repeat' first
    | exact (rfl : (_ : Bool) = _)
    | with_reducible exact Kept.refl
    | with_reducible apply Kept.step (kept_State_freeTag _ _ _)
    | (dsimp only [Kept.mk_form]; with_reducible apply KeptMk.intro (_h0 := rfl) (h3 := rfl))
    | dsimp only

theorem kept_State_histCount (s : State) (measure cls ns : Nat) : Kept [] s (State.histCount s measure cls ns) := by
  unfold State.histCount
  try dsimp only
  repeat' first
    | exact (rfl : (_ : Bool) = _)
    | with_reducible exact Kept.refl
    | with_reducible refine Kept.ite ?_ ?_
    | (dsimp only [Kept.mk_form]; with_reducible apply KeptMk.intro (_h0 := rfl) (h3 := rfl))
    | split
    | refine Kept.ite ?_ ?_

theorem kept_State_flagNs (s : State) (nsid : Nat) : Kept [] s (State.flagNs s nsid) := by
  unfold State.flagNs
  try dsimp only
  repeat' first
    | exact (rfl : (_ : Bool) = _)
    | with_reducible exact Kept.refl
    | with_reducible assumption
    | with_reducible refine Kept.ite ?_ ?_
    | with_reducible apply Kept.step (kept_State_adminDone _ _ _ _ _ _)
    | with_reducible apply Kept.step (kept_State_putFn _ _ _)
    | with_reducible refine Kept.foldl (fun _ _ _ => ?_) ?_
    | (dsimp only [Kept.mk_form]; with_reducible apply KeptMk.intro (_h0 := rfl) (h3 := rfl))
    | split
    | refine Kept.ite ?_ ?_

theorem kept_State_smartWarn (s : State) (info : Nat) : Kept [] s (State.smartWarn s info) := by
  unfold State.smartWarn
  try dsimp only
  repeat' first
    | exact (rfl : (_ : Bool) = _)
    | with_reducible exact Kept.refl
    | with_reducible assumption
    | with_reducible apply Kept.step (kept_State_adminDone _ _ _ _ _ _)
    | with_reducible apply Kept.step (kept_State_putFn _ _ _)
    | with_reducible refine Kept.foldl (fun _ _ _ => ?_) ?_
    | (dsimp only [Kept.mk_form]; with_reducible apply KeptMk.intro (_h0 := rfl) (h3 := rfl))
    | split

theorem kept_State_deferError (s : State) (nsid cause slba nlb : Nat) : Kept [Fld.HFE_DWE_STATUS.ENTRIES, Fld.HFE_DWE_STATUS.OVERFLOW, Fld.MIRROR_BYTES] s (State.deferError s nsid cause slba nlb) := by
  unfold State.deferError
  try dsimp only
  repeat' first
    | exact (rfl : (_ : Bool) = _)
    | with_reducible exact Kept.refl
    | with_reducible assumption
    | with_reducible refine Kept.ite ?_ ?_
    | with_reducible apply Kept.setFldAt
    | with_reducible apply Kept.setFld
    | with_reducible apply Kept.setBitAt
    | with_reducible apply Kept.setBit
    | with_reducible apply Kept.step (kept_State_emit _ _ _)
    | with_reducible apply Kept.step (kept_State_flagNs _ _)
    | with_reducible apply Kept.step (kept_State_mirror _ _)
    | with_reducible refine Kept.foldl (fun _ _ _ => ?_) ?_
    | (dsimp only [Kept.mk_form]; with_reducible apply KeptMk.intro (_h0 := rfl) (h3 := rfl))
    | split
    | refine Kept.ite ?_ ?_


/-! ### Machine/Members.lean -/

theorem kept_State_putPort (s : State) (p : PortId) (x : PortSt) : Kept [] s (State.putPort s p x) := by
  unfold State.putPort
  try dsimp only
  repeat' first
    | exact (rfl : (_ : Bool) = _)
    | with_reducible exact Kept.refl
    | (dsimp only [Kept.mk_form]; with_reducible apply KeptMk.intro (_h0 := rfl) (h3 := rfl))

theorem kept_State_startKat (s : State) : Kept [Fld.PQE_STATUS.KAT_BUSY, Fld.PQE_STATUS.SLICE_ACTIVE] s (State.startKat s) := by
  unfold State.startKat
  try dsimp only
  repeat' first
    | exact (rfl : (_ : Bool) = _)
    | with_reducible exact Kept.refl
    | with_reducible assumption
    | with_reducible refine Kept.ite ?_ ?_
    | with_reducible apply Kept.setFldAt
    | with_reducible apply Kept.setFld
    | with_reducible apply Kept.setBitAt
    | with_reducible apply Kept.setBit
    | (dsimp only [Kept.mk_form]; with_reducible apply KeptMk.intro (_h0 := rfl) (h3 := rfl))
    | split
    | refine Kept.ite ?_ ?_

theorem kept_State_listLost (s : State) (f : LostEntry) : Kept [Fld.ARR_STATE.LOST_OVERFLOW, Fld.RBE_LOST_COUNT.ENTRIES, Fld.RBE_LOST_COUNT.OVERFLOW] s (State.listLost s f) := by
  unfold State.listLost
  try dsimp only
  repeat' first
    | exact (rfl : (_ : Bool) = _)
    | with_reducible exact Kept.refl
    | with_reducible assumption
    | with_reducible refine Kept.ite ?_ ?_
    | with_reducible apply Kept.setFldAt
    | with_reducible apply Kept.setFld
    | with_reducible apply Kept.setBitAt
    | with_reducible apply Kept.setBit
    | (dsimp only [Kept.mk_form]; with_reducible apply KeptMk.intro (_h0 := rfl) (h3 := rfl))
    | split
    | refine Kept.ite ?_ ?_

theorem kept_State_lostCleared (s : State) (a : ArrayId) (epoch stripe row unit : Nat) : Kept [Fld.ARR_STATE.LOST_OVERFLOW, Fld.RBE_LOST_COUNT.ENTRIES, Fld.RBE_LOST_COUNT.OVERFLOW] s (State.lostCleared s a epoch stripe row unit) := by
  unfold State.lostCleared
  try dsimp only
  repeat' first
    | exact (rfl : (_ : Bool) = _)
    | with_reducible exact Kept.refl
    | with_reducible assumption
    | with_reducible refine Kept.ite ?_ ?_
    | with_reducible apply Kept.setFldAt
    | with_reducible apply Kept.setFld
    | with_reducible apply Kept.setBitAt
    | with_reducible apply Kept.setBit
    | with_reducible refine Kept.foldl (fun _ _ _ => ?_) ?_
    | (dsimp only [Kept.mk_form]; with_reducible apply KeptMk.intro (_h0 := rfl) (h3 := rfl))
    | split
    | refine Kept.ite ?_ ?_

theorem kept_State_reportLost (s : State) (a : ArrayId) (lba : Nat) : Kept [Fld.HFE_DWE_STATUS.ENTRIES, Fld.HFE_DWE_STATUS.OVERFLOW, Fld.MIRROR_BYTES] s (State.reportLost s a lba) := by
  unfold State.reportLost
  try dsimp only
  repeat' first
    | exact (rfl : (_ : Bool) = _)
    | with_reducible exact Kept.refl
    | with_reducible assumption
    | with_reducible refine Kept.ite ?_ ?_
    | with_reducible apply Kept.step (kept_State_deferError _ _ _ _ _)
    | (dsimp only [Kept.mk_form]; with_reducible apply KeptMk.intro (_h0 := rfl) (h3 := rfl))
    | split
    | dsimp only
    | refine Kept.ite ?_ ?_

theorem kept_State_fretMark (s : State) (bits : List Nat) : Kept [Fld.MIRROR_BYTES] s (State.fretMark s bits) := by
  unfold State.fretMark
  try dsimp only
  repeat' first
    | exact (rfl : (_ : Bool) = _)
    | with_reducible exact Kept.refl
    | with_reducible assumption
    | with_reducible refine Kept.ite ?_ ?_
    | with_reducible apply Kept.step (kept_State_mirror _ _)
    | with_reducible refine Kept.foldl (fun _ _ _ => ?_) ?_
    | (dsimp only [Kept.mk_form]; with_reducible apply KeptMk.intro (_h0 := rfl) (h3 := rfl))
    | split
    | dsimp only
    | refine Kept.ite ?_ ?_

theorem kept_State_loseRow (s : State) (a : ArrayId) (r : Arr) (g : Geom) (stripe row : Nat) (us : List (Option USec)) (cause : Nat) : Kept [Fld.ARR_STATE.LOST_OVERFLOW, Fld.HFE_DWE_STATUS.ENTRIES, Fld.HFE_DWE_STATUS.OVERFLOW, Fld.MIRROR_BYTES, Fld.RBE_LOST_COUNT.ENTRIES, Fld.RBE_LOST_COUNT.OVERFLOW] s (State.loseRow s a r g stripe row us cause) := by
  unfold State.loseRow
  try dsimp only
  repeat' first
    | exact (rfl : (_ : Bool) = _)
    | with_reducible exact Kept.refl
    | with_reducible assumption
    | with_reducible apply Kept.step (kept_State_fretMark _ _)
    | with_reducible apply Kept.step (kept_State_listLost _ _)
    | with_reducible apply Kept.step (kept_State_mirror _ _)
    | with_reducible apply Kept.step (kept_State_reportLost _ _ _)
    | with_reducible apply Kept.step (kept_State_writeData _ _ _ _ _ _ _ _)
    | with_reducible apply Kept.step (kept_State_writeParity _ _ _ _ _ _ _ _ _)
    | with_reducible refine Kept.foldl (fun _ _ _ => ?_) ?_
    | (dsimp only [Kept.mk_form]; with_reducible apply KeptMk.intro (_h0 := rfl) (h3 := rfl))
    | split
    | dsimp only

theorem kept_State_reportNamespaces (s : State) (a : ArrayId) (cause : Nat) : Kept [Fld.HFE_DWE_STATUS.ENTRIES, Fld.HFE_DWE_STATUS.OVERFLOW, Fld.MIRROR_BYTES] s (State.reportNamespaces s a cause) := by
  unfold State.reportNamespaces
  try dsimp only
  repeat' first
    | exact (rfl : (_ : Bool) = _)
    | with_reducible exact Kept.refl
    | with_reducible assumption
    | with_reducible apply Kept.step (kept_State_deferError _ _ _ _ _)
    | with_reducible refine Kept.foldl (fun _ _ _ => ?_) ?_
    | (dsimp only [Kept.mk_form]; with_reducible apply KeptMk.intro (_h0 := rfl) (h3 := rfl))
    | split

theorem kept_State_thirdMissing (s : State) (a : ArrayId) : Kept [Fld.ARR_STATE.LOST_OVERFLOW, Fld.HFE_DWE_STATUS.ENTRIES, Fld.HFE_DWE_STATUS.OVERFLOW, Fld.MIRROR_BYTES, Fld.RBE_LOST_COUNT.ENTRIES, Fld.RBE_LOST_COUNT.OVERFLOW] s (State.thirdMissing s a) := by
  unfold State.thirdMissing
  try dsimp only
  repeat' first
    | exact (rfl : (_ : Bool) = _)
    | with_reducible exact Kept.refl
    | with_reducible assumption
    | with_reducible refine Kept.ite ?_ ?_
    | with_reducible apply Kept.step (kept_State_listLost _ _)
    | with_reducible apply Kept.step (kept_State_reportNamespaces _ _ _)
    | with_reducible refine Kept.foldl (fun _ _ _ => ?_) ?_
    | (dsimp only [Kept.mk_form]; with_reducible apply KeptMk.intro (_h0 := rfl) (h3 := rfl))
    | split
    | refine Kept.ite ?_ ?_

theorem kept_State_thirdBack (s : State) (a : ArrayId) : Kept [Fld.RBE_LOST_COUNT.ENTRIES] s (State.thirdBack s a) := by
  unfold State.thirdBack
  try dsimp only
  repeat' first
    | exact (rfl : (_ : Bool) = _)
    | with_reducible exact Kept.refl
    | with_reducible assumption
    | with_reducible refine Kept.ite ?_ ?_
    | with_reducible apply Kept.setFldAt
    | with_reducible apply Kept.setFld
    | (dsimp only [Kept.mk_form]; with_reducible apply KeptMk.intro (_h0 := rfl) (h3 := rfl))
    | split
    | refine Kept.ite ?_ ?_

theorem kept_State_enqueue (s : State) (p : PortId) (c : MCmd) : Kept [] s (State.enqueue s p c) := by
  unfold State.enqueue
  try dsimp only
  repeat' first
    | exact (rfl : (_ : Bool) = _)
    | with_reducible exact Kept.refl
    | with_reducible apply Kept.step (kept_State_putPort _ _ _)
    | (dsimp only [Kept.mk_form]; with_reducible apply KeptMk.intro (_h0 := rfl) (h3 := rfl))

theorem kept_State_updCmd (s : State) (u : Update) (r : Arr) (kind : McKind) (unit : Nat) (p : Pos) (rows : List Nat) : Kept [] s (State.updCmd s u r kind unit p rows) := by
  unfold State.updCmd
  try dsimp only
  repeat' first
    | exact (rfl : (_ : Bool) = _)
    | with_reducible exact Kept.refl
    | with_reducible assumption
    | with_reducible apply Kept.step (kept_State_enqueue _ _ _)
    | (dsimp only [Kept.mk_form]; with_reducible apply KeptMk.intro (_h0 := rfl) (h3 := rfl))
    | split

theorem kept_State_updReads (s : State) (u : Update) (r : Arr) (g : Geom) : Kept [] s (State.updReads s u r g) := by
  unfold State.updReads
  try dsimp only
  repeat' first
    | exact (rfl : (_ : Bool) = _)
    | with_reducible exact Kept.refl
    | with_reducible assumption
    | with_reducible apply Kept.step (kept_State_updCmd _ _ _ _ _ _ _)
    | with_reducible refine Kept.foldl (fun _ _ _ => ?_) ?_
    | (dsimp only [Kept.mk_form]; with_reducible apply KeptMk.intro (_h0 := rfl) (h3 := rfl))
    | split

theorem kept_State_updWrites (s : State) (u : Update) (r : Arr) (g : Geom) (plan : List (Nat × List Nat)) : Kept [] s (State.updWrites s u r g plan) := by
  unfold State.updWrites
  try dsimp only
  repeat' first
    | exact (rfl : (_ : Bool) = _)
    | with_reducible exact Kept.refl
    | with_reducible assumption
    | with_reducible apply Kept.step (kept_State_updCmd _ _ _ _ _ _ _)
    | with_reducible refine Kept.foldl (fun _ _ _ => ?_) ?_
    | with_reducible refine Kept.foldlFst (fun _ _ _ => ?_) ?_
    | with_reducible refine Kept.foldlSnd (fun _ _ _ => ?_) ?_
    | (dsimp only [Kept.mk_form]; with_reducible apply KeptMk.intro (_h0 := rfl) (h3 := rfl))
    | split
    | dsimp only

theorem kept_State_rechoose (s : State) (a : ArrayId) : Kept [] s (State.rechoose s a) := by
  unfold State.rechoose
  try dsimp only
  repeat' first
    | exact (rfl : (_ : Bool) = _)
    | with_reducible exact Kept.refl
    | with_reducible assumption
    | with_reducible refine Kept.ite ?_ ?_
    | with_reducible apply Kept.step (kept_State_updReads _ _ _ _)
    | with_reducible refine Kept.foldl (fun _ _ _ => ?_) ?_
    | with_reducible refine Kept.foldlFst (fun _ _ _ => ?_) ?_
    | with_reducible refine Kept.foldlSnd (fun _ _ _ => ?_) ?_
    | (dsimp only [Kept.mk_form]; with_reducible apply KeptMk.intro (_h0 := rfl) (h3 := rfl))
    | split
    | dsimp only
    | refine Kept.ite ?_ ?_

theorem kept_State_askLabel (s : State) (a : ArrayId) (r : Arr) (j : LabelJob) : Kept [] s (State.askLabel s a r j) := by
  unfold State.askLabel
  try dsimp only
  repeat' first
    | exact (rfl : (_ : Bool) = _)
    | with_reducible exact Kept.refl
    | with_reducible assumption
    | with_reducible apply Kept.step (kept_State_putPort _ _ _)
    | (dsimp only [Kept.mk_form]; with_reducible apply KeptMk.intro (_h0 := rfl) (h3 := rfl))
    | split
    | dsimp only

theorem kept_State_rewriteLabels (s : State) (a : ArrayId) : Kept [] s (State.rewriteLabels s a) := by
  unfold State.rewriteLabels
  try dsimp only
  repeat' first
    | exact (rfl : (_ : Bool) = _)
    | with_reducible exact Kept.refl
    | with_reducible assumption
    | with_reducible refine Kept.ite ?_ ?_
    | with_reducible apply Kept.step (kept_State_askLabel _ _ _ _)
    | with_reducible apply Kept.step (kept_State_putArr _ _ _)
    | with_reducible refine Kept.foldl (fun _ _ _ => ?_) ?_
    | with_reducible refine Kept.foldlFst (fun _ _ _ => ?_) ?_
    | with_reducible refine Kept.foldlSnd (fun _ _ _ => ?_) ?_
    | (dsimp only [Kept.mk_form]; with_reducible apply KeptMk.intro (_h0 := rfl) (h3 := rfl))
    | split
    | dsimp only
    | refine Kept.ite ?_ ?_

theorem kept_State_resumeLabels (s : State) : Kept [] s (State.resumeLabels s) := by
  unfold State.resumeLabels
  try dsimp only
  repeat' first
    | exact (rfl : (_ : Bool) = _)
    | with_reducible exact Kept.refl
    | with_reducible assumption
    | with_reducible refine Kept.ite ?_ ?_
    | with_reducible apply Kept.step (kept_State_askLabel _ _ _ _)
    | with_reducible refine Kept.foldl (fun _ _ _ => ?_) ?_
    | with_reducible refine Kept.foldlSnd (fun _ _ _ => ?_) ?_
    | (dsimp only [Kept.mk_form]; with_reducible apply KeptMk.intro (_h0 := rfl) (h3 := rfl))
    | split
    | dsimp only
    | refine Kept.ite ?_ ?_

theorem kept_State_labelsNext (s : State) (a : ArrayId) : Kept [] s (State.labelsNext s a) := by
  unfold State.labelsNext
  try dsimp only
  repeat' first
    | exact (rfl : (_ : Bool) = _)
    | with_reducible exact Kept.refl
    | with_reducible assumption
    | with_reducible refine Kept.ite ?_ ?_
    | with_reducible apply Kept.step (kept_State_rewriteLabels _ _)
    | (dsimp only [Kept.mk_form]; with_reducible apply KeptMk.intro (_h0 := rfl) (h3 := rfl))
    | split
    | refine Kept.ite ?_ ?_

theorem kept_State_labelWritten (s : State) (a : ArrayId) (m copy : Nat) (port : PortId) : Kept [] s (State.labelWritten s a m copy port) := by
  unfold State.labelWritten
  try dsimp only
  repeat' first
    | exact (rfl : (_ : Bool) = _)
    | with_reducible exact Kept.refl
    | with_reducible assumption
    | with_reducible refine Kept.ite ?_ ?_
    | with_reducible apply Kept.step (kept_State_askLabel _ _ _ _)
    | with_reducible apply Kept.step (kept_State_labelsNext _ _)
    | with_reducible apply Kept.step (kept_State_putArr _ _ _)
    | with_reducible apply Kept.step (kept_State_putMedia _ _ _)
    | (dsimp only [Kept.mk_form]; with_reducible apply KeptMk.intro (_h0 := rfl) (h3 := rfl))
    | split
    | refine Kept.ite ?_ ?_

theorem kept_State_dropMember (s : State) (a : ArrayId) (m : Nat) (st : MemState) (cause : Nat) : Kept [Fld.ARR_STATE.LOST_OVERFLOW, Fld.HFE_DWE_STATUS.ENTRIES, Fld.HFE_DWE_STATUS.OVERFLOW, Fld.MIRROR_BYTES, Fld.RBE_LOST_COUNT.ENTRIES, Fld.RBE_LOST_COUNT.OVERFLOW] s (State.dropMember s a m st cause) := by
  unfold State.dropMember
  try dsimp only
  repeat' first
    | exact (rfl : (_ : Bool) = _)
    | with_reducible exact Kept.refl
    | with_reducible assumption
    | with_reducible refine Kept.ite ?_ ?_
    | with_reducible apply Kept.step (kept_State_putArr _ _ _)
    | with_reducible apply Kept.step (kept_State_putPort _ _ _)
    | with_reducible apply Kept.step (kept_State_rechoose _ _)
    | with_reducible apply Kept.step (kept_State_rewriteLabels _ _)
    | with_reducible apply Kept.step (kept_State_thirdMissing _ _)
    | (dsimp only [Kept.mk_form]; with_reducible apply KeptMk.intro (_h0 := rfl) (h3 := rfl))
    | split
    | dsimp only
    | refine Kept.ite ?_ ?_

theorem kept_State_failMember (s : State) (a : ArrayId) (m : Nat) (c : FailCause) : Kept [Fld.ARR_STATE.LOST_OVERFLOW, Fld.HFE_DWE_STATUS.ENTRIES, Fld.HFE_DWE_STATUS.OVERFLOW, Fld.MIRROR_BYTES, Fld.RBE_LOST_COUNT.ENTRIES, Fld.RBE_LOST_COUNT.OVERFLOW] s (State.failMember s a m c) := by
  unfold State.failMember
  try dsimp only
  repeat' first
    | exact (rfl : (_ : Bool) = _)
    | with_reducible exact Kept.refl
    | with_reducible assumption
    | with_reducible refine Kept.ite ?_ ?_
    | with_reducible apply Kept.step (kept_State_dropMember _ _ _ _ _)
    | with_reducible apply Kept.step (kept_State_emit _ _ _)
    | (dsimp only [Kept.mk_form]; with_reducible apply KeptMk.intro (_h0 := rfl) (h3 := rfl))
    | split
    | dsimp only
    | refine Kept.ite ?_ ?_

theorem kept_State_mediaErr (s : State) (a : ArrayId) (m : Nat) : Kept [Fld.ARR_STATE.LOST_OVERFLOW, Fld.HFE_DWE_STATUS.ENTRIES, Fld.HFE_DWE_STATUS.OVERFLOW, Fld.MIRROR_BYTES, Fld.RBE_LOST_COUNT.ENTRIES, Fld.RBE_LOST_COUNT.OVERFLOW] s (State.mediaErr s a m) := by
  unfold State.mediaErr
  try dsimp only
  repeat' first
    | exact (rfl : (_ : Bool) = _)
    | with_reducible exact Kept.refl
    | with_reducible assumption
    | with_reducible refine Kept.ite ?_ ?_
    | with_reducible apply Kept.step (kept_State_countMediaErr _ _ _)
    | with_reducible apply Kept.step (kept_State_failMember _ _ _ _)
    | (dsimp only [Kept.mk_form]; with_reducible apply KeptMk.intro (_h0 := rfl) (h3 := rfl))
    | split
    | refine Kept.ite ?_ ?_

theorem kept_State_admitReplacement (s : State) (a : ArrayId) (m : Nat) (p : PortId) : Kept [] s (State.admitReplacement s a m p) := by
  unfold State.admitReplacement
  try dsimp only
  repeat' first
    | exact (rfl : (_ : Bool) = _)
    | with_reducible exact Kept.refl
    | with_reducible assumption
    | with_reducible refine Kept.ite ?_ ?_
    | with_reducible apply Kept.step (kept_State_putArr _ _ _)
    | with_reducible apply Kept.step (kept_State_putMedia _ _ _)
    | with_reducible apply Kept.step (kept_State_rewriteLabels _ _)
    | with_reducible apply Kept.step (kept_State_used _)
    | (dsimp only [Kept.mk_form]; with_reducible apply KeptMk.intro (_h0 := rfl) (h3 := rfl))
    | split
    | refine Kept.ite ?_ ?_

theorem kept_State_checkMediaErrs (s : State) (a : ArrayId) (r : Arr) : Kept [Fld.ARR_STATE.LOST_OVERFLOW, Fld.HFE_DWE_STATUS.ENTRIES, Fld.HFE_DWE_STATUS.OVERFLOW, Fld.MIRROR_BYTES, Fld.RBE_LOST_COUNT.ENTRIES, Fld.RBE_LOST_COUNT.OVERFLOW] s (State.checkMediaErrs s a r) := by
  unfold State.checkMediaErrs
  try dsimp only
  repeat' first
    | exact (rfl : (_ : Bool) = _)
    | with_reducible exact Kept.refl
    | with_reducible assumption
    | with_reducible refine Kept.ite ?_ ?_
    | with_reducible apply Kept.step (kept_State_failMember _ _ _ _)
    | with_reducible refine Kept.foldl (fun _ _ _ => ?_) ?_
    | (dsimp only [Kept.mk_form]; with_reducible apply KeptMk.intro (_h0 := rfl) (h3 := rfl))
    | split
    | refine Kept.ite ?_ ?_

theorem kept_State_repairWrite (s : State) (a : ArrayId) (r : Arr) (g : Geom) (stripe unit row : Nat) (p : Pos) : Kept [] s (State.repairWrite s a r g stripe unit row p) := by
  unfold State.repairWrite
  try dsimp only
  repeat' first
    | exact (rfl : (_ : Bool) = _)
    | with_reducible exact Kept.refl
    | with_reducible assumption
    | with_reducible apply Kept.step (kept_State_putPort _ _ _)
    | (dsimp only [Kept.mk_form]; with_reducible apply KeptMk.intro (_h0 := rfl) (h3 := rfl))
    | split

theorem kept_State_repairCounted (s : State) (a : ArrayId) (r : Arr) (g : Geom) (stripe row : Nat) (reads : List SecRead) (fs : List Blob) : Kept [Fld.ARR_REPAIR_COUNT, Fld.ARR_STATE.LOST_OVERFLOW, Fld.HFE_DWE_STATUS.ENTRIES, Fld.HFE_DWE_STATUS.OVERFLOW, Fld.MIRROR_BYTES, Fld.RBE_LOST_COUNT.ENTRIES, Fld.RBE_LOST_COUNT.OVERFLOW] s (State.repairCounted s a r g stripe row reads fs) := by
  unfold State.repairCounted
  try dsimp only
  repeat' first
    | exact (rfl : (_ : Bool) = _)
    | with_reducible exact Kept.refl
    | with_reducible assumption
    | with_reducible apply Kept.step (kept_State_checkMediaErrs _ _ _)
    | with_reducible apply Kept.step (kept_State_countErasures _ _ _ _ _)
    | with_reducible apply Kept.step (kept_State_repairRow _ _ _ _ _ _ _ _)
    | with_reducible apply Kept.step (kept_State_repairWrite _ _ _ _ _ _ _ _)
    | with_reducible refine Kept.foldl (fun _ _ _ => ?_) ?_
    | (dsimp only [Kept.mk_form]; with_reducible apply KeptMk.intro (_h0 := rfl) (h3 := rfl))
    | split

theorem kept_State_loseCounted (s : State) (a : ArrayId) (r : Arr) (g : Geom) (stripe row : Nat) (reads : List SecRead) (cause : Nat) : Kept [Fld.ARR_STATE.LOST_OVERFLOW, Fld.HFE_DWE_STATUS.ENTRIES, Fld.HFE_DWE_STATUS.OVERFLOW, Fld.MIRROR_BYTES, Fld.RBE_LOST_COUNT.ENTRIES, Fld.RBE_LOST_COUNT.OVERFLOW] s (State.loseCounted s a r g stripe row reads cause) := by
  unfold State.loseCounted
  try dsimp only
  repeat' first
    | exact (rfl : (_ : Bool) = _)
    | with_reducible exact Kept.refl
    | with_reducible apply Kept.step (kept_State_checkMediaErrs _ _ _)
    | with_reducible apply Kept.step (kept_State_countErasures _ _ _ _ _)
    | with_reducible apply Kept.step (kept_State_loseRow _ _ _ _ _ _ _ _)

theorem kept_State_resyncRow (s : State) (a : ArrayId) (r : Arr) (g : Geom) (stripe row : Nat) : Kept [Fld.ARR_STATE.LOST_OVERFLOW, Fld.HFE_DWE_STATUS.ENTRIES, Fld.HFE_DWE_STATUS.OVERFLOW, Fld.MIRROR_BYTES, Fld.RBE_LOST_COUNT.ENTRIES, Fld.RBE_LOST_COUNT.OVERFLOW] s (State.resyncRow s a r g stripe row) := by
  unfold State.resyncRow
  try dsimp only
  repeat' first
    | exact (rfl : (_ : Bool) = _)
    | with_reducible exact Kept.refl
    | with_reducible refine Kept.ite ?_ ?_
    | with_reducible apply Kept.step (kept_State_loseCounted _ _ _ _ _ _ _ _)
    | with_reducible apply Kept.step (kept_State_writeParity _ _ _ _ _ _ _ _ _)
    | split
    | refine Kept.ite ?_ ?_

theorem kept_State_resyncStripe (s : State) (a : ArrayId) (previous : Bool) (stripe : Nat) : Kept [Fld.ARR_STATE.LOST_OVERFLOW, Fld.HFE_DWE_STATUS.ENTRIES, Fld.HFE_DWE_STATUS.OVERFLOW, Fld.MIRROR_BYTES, Fld.RBE_LOST_COUNT.ENTRIES, Fld.RBE_LOST_COUNT.OVERFLOW] s (State.resyncStripe s a previous stripe) := by
  unfold State.resyncStripe
  try dsimp only
  repeat' first
    | exact (rfl : (_ : Bool) = _)
    | with_reducible exact Kept.refl
    | with_reducible assumption
    | with_reducible apply Kept.step (kept_State_resyncRow _ _ _ _ _ _)
    | with_reducible refine Kept.foldl (fun _ _ _ => ?_) ?_
    | (dsimp only [Kept.mk_form]; with_reducible apply KeptMk.intro (_h0 := rfl) (h3 := rfl))
    | split

theorem kept_State_rebuildRow (s : State) (a : ArrayId) (r : Arr) (g : Geom) (stripe row : Nat) : Kept [Fld.ARR_REPAIR_COUNT, Fld.ARR_STATE.LOST_OVERFLOW, Fld.HFE_DWE_STATUS.ENTRIES, Fld.HFE_DWE_STATUS.OVERFLOW, Fld.MIRROR_BYTES, Fld.PQE_SOLVE_COUNT, Fld.PQE_SRC_BYTES, Fld.RBE_LOST_COUNT.ENTRIES, Fld.RBE_LOST_COUNT.OVERFLOW] s (State.rebuildRow s a r g stripe row) := by
  unfold State.rebuildRow
  try dsimp only
  repeat' first
    | exact (rfl : (_ : Bool) = _)
    | with_reducible exact Kept.refl
    | with_reducible assumption
    | with_reducible refine Kept.ite ?_ ?_
    | with_reducible apply Kept.incFldAt
    | with_reducible apply Kept.incFld
    | with_reducible apply Kept.step (kept_State_loseCounted _ _ _ _ _ _ _ _)
    | with_reducible apply Kept.step (kept_State_repairCounted _ _ _ _ _ _ _ _)
    | with_reducible apply Kept.step (kept_State_writeSolved _ _ _ _ _ _ _ _ _)
    | with_reducible refine Kept.foldl (fun _ _ _ => ?_) ?_
    | (dsimp only [Kept.mk_form]; with_reducible apply KeptMk.intro (_h0 := rfl) (h3 := rfl))
    | split
    | refine Kept.ite ?_ ?_

theorem kept_State_rebuildStripeIn (s : State) (a : ArrayId) (g : Geom) (stripe : Nat) : Kept [Fld.ARR_REPAIR_COUNT, Fld.ARR_STATE.LOST_OVERFLOW, Fld.HFE_DWE_STATUS.ENTRIES, Fld.HFE_DWE_STATUS.OVERFLOW, Fld.MIRROR_BYTES, Fld.PQE_SOLVE_COUNT, Fld.PQE_SRC_BYTES, Fld.RBE_LOST_COUNT.ENTRIES, Fld.RBE_LOST_COUNT.OVERFLOW] s (State.rebuildStripeIn s a g stripe) := by
  unfold State.rebuildStripeIn
  try dsimp only
  repeat' first
    | exact (rfl : (_ : Bool) = _)
    | with_reducible exact Kept.refl
    | with_reducible assumption
    | with_reducible apply Kept.step (kept_State_rebuildRow _ _ _ _ _ _)
    | with_reducible refine Kept.foldl (fun _ _ _ => ?_) ?_
    | (dsimp only [Kept.mk_form]; with_reducible apply KeptMk.intro (_h0 := rfl) (h3 := rfl))
    | split


/-! ### Machine/PortOps.lean -/

theorem kept_State_setPortState (s : State) (p : PortId) (v : Nat) : Kept [Fld.PORT_STATE.STATE] s (State.setPortState s p v) := by
  unfold State.setPortState
  try dsimp only
  repeat' first
    | exact (rfl : (_ : Bool) = _)
    | with_reducible exact Kept.refl
    | with_reducible apply Kept.setFldAt
    | with_reducible apply Kept.setFld

theorem kept_State_countSlots (s : State) (p : PortId) : Kept [Fld.OUTSTANDING.C0_SLOTS, Fld.OUTSTANDING.SLOTS] s (State.countSlots s p) := by
  unfold State.countSlots
  try dsimp only
  repeat' first
    | exact (rfl : (_ : Bool) = _)
    | with_reducible exact Kept.refl
    | with_reducible apply Kept.setFldAt
    | with_reducible apply Kept.setFld
    | dsimp only

theorem kept_State_unholdTags (s : State) : Kept [] s (State.unholdTags s) := by
  unfold State.unholdTags
  try dsimp only
  repeat' first
    | exact (rfl : (_ : Bool) = _)
    | with_reducible exact Kept.refl
    | with_reducible assumption
    | with_reducible apply Kept.step (kept_State_freeTag _ _ _)
    | with_reducible refine Kept.foldl (fun _ _ _ => ?_) ?_
    | (dsimp only [Kept.mk_form]; with_reducible apply KeptMk.intro (_h0 := rfl) (h3 := rfl))
    | split
    | dsimp only

theorem kept_State_avoidMember (s : State) (own : McOwner) (m : Nat) : Kept [] s (State.avoidMember s own m) := by
  unfold State.avoidMember
  try dsimp only
  repeat' first
    | exact (rfl : (_ : Bool) = _)
    | with_reducible exact Kept.refl
    | with_reducible assumption
    | with_reducible refine Kept.ite ?_ ?_
    | with_reducible apply Kept.step (kept_State_putCmd _ _)
    | (dsimp only [Kept.mk_form]; with_reducible apply KeptMk.intro (_h0 := rfl) (h3 := rfl))
    | split
    | refine Kept.ite ?_ ?_

theorem kept_State_stampCmd (s : State) (own : McOwner) (f : HostCmd → HostCmd) : Kept [] s (State.stampCmd s own f) := by
  unfold State.stampCmd
  try dsimp only
  repeat' first
    | exact (rfl : (_ : Bool) = _)
    | with_reducible exact Kept.refl
    | with_reducible assumption
    | with_reducible refine Kept.ite ?_ ?_
    | with_reducible apply Kept.step (kept_State_putCmd _ _)
    | (dsimp only [Kept.mk_form]; with_reducible apply KeptMk.intro (_h0 := rfl) (h3 := rfl))
    | split
    | refine Kept.ite ?_ ?_

theorem kept_State_spoil (s : State) (p : PortId) (c : MCmd) (gone : Bool) : Kept [] s (State.spoil s p c gone) := by
  unfold State.spoil
  try dsimp only
  repeat' first
    | exact (rfl : (_ : Bool) = _)
    | with_reducible exact Kept.refl
    | with_reducible assumption
    | with_reducible apply Kept.step (kept_State_putMedia _ _ _)
    | with_reducible refine Kept.foldl (fun _ _ _ => ?_) ?_
    | (dsimp only [Kept.mk_form]; with_reducible apply KeptMk.intro (_h0 := rfl) (h3 := rfl))
    | split
    | dsimp only

theorem kept_State_mcmdError (s : State) (p : PortId) (c : MCmd) : Kept [Fld.ARR_STATE.LOST_OVERFLOW, Fld.HFE_DWE_STATUS.ENTRIES, Fld.HFE_DWE_STATUS.OVERFLOW, Fld.MIRROR_BYTES, Fld.RBE_LOST_COUNT.ENTRIES, Fld.RBE_LOST_COUNT.OVERFLOW] s (State.mcmdError s p c) := by
  unfold State.mcmdError
  try dsimp only
  repeat' first
    | exact (rfl : (_ : Bool) = _)
    | with_reducible exact Kept.refl
    | with_reducible assumption
    | with_reducible refine Kept.ite ?_ ?_
    | with_reducible apply Kept.step (kept_State_avoidMember _ _ _)
    | with_reducible apply Kept.step (kept_State_failMember _ _ _ _)
    | (dsimp only [Kept.mk_form]; with_reducible apply KeptMk.intro (_h0 := rfl) (h3 := rfl))
    | split
    | dsimp only
    | refine Kept.ite ?_ ?_

theorem kept_State_retry (s : State) (p : PortId) (c : MCmd) : Kept [Fld.ARR_STATE.LOST_OVERFLOW, Fld.HFE_DWE_STATUS.ENTRIES, Fld.HFE_DWE_STATUS.OVERFLOW, Fld.MIRROR_BYTES, Fld.RBE_LOST_COUNT.ENTRIES, Fld.RBE_LOST_COUNT.OVERFLOW, Fld.RETRY_COUNT] s (State.retry s p c) := by
  unfold State.retry
  try dsimp only
  repeat' first
    | exact (rfl : (_ : Bool) = _)
    | with_reducible exact Kept.refl
    | with_reducible refine Kept.ite ?_ ?_
    | with_reducible apply Kept.incFldAt
    | with_reducible apply Kept.incFld
    | with_reducible apply Kept.step (kept_State_mcmdError _ _ _)
    | with_reducible apply Kept.step (kept_State_putPort _ _ _)
    | (dsimp only [Kept.mk_form]; with_reducible apply KeptMk.intro (_h0 := rfl) (h3 := rfl))
    | split
    | refine Kept.ite ?_ ?_

theorem kept_State_dropSlot (s : State) (p : PortId) (slot : Nat) : Kept [Fld.OUTSTANDING.C0_SLOTS, Fld.OUTSTANDING.SLOTS] s (State.dropSlot s p slot) := by
  unfold State.dropSlot
  try dsimp only
  repeat' first
    | exact (rfl : (_ : Bool) = _)
    | with_reducible exact Kept.refl
    | with_reducible apply Kept.step (kept_State_countSlots _ _)
    | with_reducible apply Kept.step (kept_State_putPort _ _ _)
    | with_reducible apply Kept.step (kept_State_unholdTags _)
    | (dsimp only [Kept.mk_form]; with_reducible apply KeptMk.intro (_h0 := rfl) (h3 := rfl))

theorem kept_State_errInfo (s : State) (p : PortId) (kind status slot : Nat) : Kept [Fld.ERR_INFO.DRIVE_STATUS, Fld.ERR_INFO.KIND, Fld.ERR_INFO.SLOT] s (State.errInfo s p kind status slot) := by
  unfold State.errInfo
  try dsimp only
  repeat' first
    | exact (rfl : (_ : Bool) = _)
    | with_reducible exact Kept.refl
    | with_reducible apply Kept.setFldAt
    | with_reducible apply Kept.setFld

theorem kept_State_portResetCmds (s : State) (p : PortId) (timedOut : Option Nat) : Kept [Fld.ARR_STATE.LOST_OVERFLOW, Fld.HFE_DWE_STATUS.ENTRIES, Fld.HFE_DWE_STATUS.OVERFLOW, Fld.MIRROR_BYTES, Fld.OUTSTANDING.C0_SLOTS, Fld.OUTSTANDING.SLOTS, Fld.RBE_LOST_COUNT.ENTRIES, Fld.RBE_LOST_COUNT.OVERFLOW, Fld.RETRY_COUNT, Fld.WRITE_GATE_ABORTS] s (State.portResetCmds s p timedOut) := by
  unfold State.portResetCmds
  try dsimp only
  repeat' first
    | exact (rfl : (_ : Bool) = _)
    | with_reducible exact Kept.refl
    | with_reducible assumption
    | with_reducible apply Kept.incFldAt
    | with_reducible apply Kept.incFld
    | with_reducible apply Kept.step (kept_State_countSlots _ _)
    | with_reducible apply Kept.step (kept_State_putPort _ _ _)
    | with_reducible apply Kept.step (kept_State_retry _ _ _)
    | with_reducible apply Kept.step (kept_State_unholdTags _)
    | with_reducible refine Kept.foldl (fun _ _ _ => ?_) ?_
    | with_reducible refine Kept.foldlFst (fun _ _ _ => ?_) ?_
    | with_reducible refine Kept.foldlSnd (fun _ _ _ => ?_) ?_
    | (dsimp only [Kept.mk_form]; with_reducible apply KeptMk.intro (_h0 := rfl) (h3 := rfl))
    | dsimp only

theorem kept_State_linkDown (s : State) (p : PortId) : Kept [Fld.LINK_STATUS.LINK_UP, Fld.LINK_STATUS.RATE, Fld.LINK_STATUS.WIDTH] s (State.linkDown s p) := by
  unfold State.linkDown
  try dsimp only
  repeat' first
    | exact (rfl : (_ : Bool) = _)
    | with_reducible exact Kept.refl
    | with_reducible apply Kept.setFldAt
    | with_reducible apply Kept.setFld
    | with_reducible apply Kept.setBitAt
    | with_reducible apply Kept.setBit

theorem kept_State_forgetDrive (s : State) (p : PortId) : Kept [Fld.CAPACITY, Fld.DRIVE_SERIAL] s (State.forgetDrive s p) := by
  unfold State.forgetDrive
  try dsimp only
  repeat' first
    | exact (rfl : (_ : Bool) = _)
    | with_reducible exact Kept.refl
    | with_reducible apply Kept.setFldAt
    | with_reducible apply Kept.setFld
    | with_reducible apply Kept.step (kept_State_putPort _ _ _)
    | (dsimp only [Kept.mk_form]; with_reducible apply KeptMk.intro (_h0 := rfl) (h3 := rfl))

theorem kept_State_setPwren (s : State) (p : PortId) (b : Bool) : Kept [Fld.LINK_STATUS.PWREN] s (State.setPwren s p b) := by
  unfold State.setPwren
  try dsimp only
  repeat' first
    | exact (rfl : (_ : Bool) = _)
    | with_reducible exact Kept.refl
    | with_reducible apply Kept.setBitAt
    | with_reducible apply Kept.setBit
    | with_reducible apply Kept.step (kept_State_putPort _ _ _)
    | (dsimp only [Kept.mk_form]; with_reducible apply KeptMk.intro (_h0 := rfl) (h3 := rfl))

theorem kept_State_linkLoss (s : State) (p : PortId) : Kept [Fld.ARR_STATE.LOST_OVERFLOW, Fld.CAPACITY, Fld.DRIVE_SERIAL, Fld.ERR_INFO.DRIVE_STATUS, Fld.ERR_INFO.KIND, Fld.ERR_INFO.SLOT, Fld.HFE_DWE_STATUS.ENTRIES, Fld.HFE_DWE_STATUS.OVERFLOW, Fld.LINK_STATUS.LINK_UP, Fld.LINK_STATUS.RATE, Fld.LINK_STATUS.WIDTH, Fld.MIRROR_BYTES, Fld.OUTSTANDING.C0_SLOTS, Fld.OUTSTANDING.SLOTS, Fld.PORT_STATE.STATE, Fld.RBE_LOST_COUNT.ENTRIES, Fld.RBE_LOST_COUNT.OVERFLOW, Fld.RETRY_COUNT, Fld.WRITE_GATE_ABORTS] s (State.linkLoss s p) := by
  unfold State.linkLoss
  try dsimp only
  repeat' first
    | exact (rfl : (_ : Bool) = _)
    | with_reducible exact Kept.refl
    | with_reducible assumption
    | with_reducible refine Kept.ite ?_ ?_
    | with_reducible apply Kept.step (kept_State_avoidMember _ _ _)
    | with_reducible apply Kept.step (kept_State_errInfo _ _ _ _ _)
    | with_reducible apply Kept.step (kept_State_forgetDrive _ _)
    | with_reducible apply Kept.step (kept_State_linkDown _ _)
    | with_reducible apply Kept.step (kept_State_portResetCmds _ _ _)
    | with_reducible apply Kept.step (kept_State_putPort _ _ _)
    | with_reducible apply Kept.step (kept_State_setPortState _ _ _)
    | with_reducible refine Kept.foldl (fun _ _ _ => ?_) ?_
    | (dsimp only [Kept.mk_form]; with_reducible apply KeptMk.intro (_h0 := rfl) (h3 := rfl))
    | split
    | dsimp only
    | refine Kept.ite ?_ ?_

theorem kept_State_escalate (s : State) (p : PortId) (step : Nat) (slot : Option Nat) : Kept [Fld.ARR_STATE.LOST_OVERFLOW, Fld.CAPACITY, Fld.DRIVE_SERIAL, Fld.ERR_INFO.DRIVE_STATUS, Fld.ERR_INFO.KIND, Fld.ERR_INFO.SLOT, Fld.HFE_DWE_STATUS.ENTRIES, Fld.HFE_DWE_STATUS.OVERFLOW, Fld.LINK_STATUS.LINK_UP, Fld.LINK_STATUS.PWREN, Fld.LINK_STATUS.RATE, Fld.LINK_STATUS.WIDTH, Fld.MIRROR_BYTES, Fld.OUTSTANDING.C0_SLOTS, Fld.OUTSTANDING.SLOTS, Fld.PORT_STATE.STATE, Fld.RBE_LOST_COUNT.ENTRIES, Fld.RBE_LOST_COUNT.OVERFLOW, Fld.RESET_COUNT, Fld.RETRY_COUNT, Fld.WRITE_GATE_ABORTS] s (State.escalate s p step slot) := by
  unfold State.escalate
  try dsimp only
  repeat' first
    | exact (rfl : (_ : Bool) = _)
    | with_reducible exact Kept.refl
    | with_reducible refine Kept.ite ?_ ?_
    | with_reducible apply Kept.incFldAt
    | with_reducible apply Kept.incFld
    | with_reducible apply Kept.step (kept_State_linkLoss _ _)
    | with_reducible apply Kept.step (kept_State_portResetCmds _ _ _)
    | with_reducible apply Kept.step (kept_State_putPort _ _ _)
    | with_reducible apply Kept.step (kept_State_setPortState _ _ _)
    | with_reducible apply Kept.step (kept_State_setPwren _ _ _)
    | (dsimp only [Kept.mk_form]; with_reducible apply KeptMk.intro (_h0 := rfl) (h3 := rfl))
    | split
    | refine Kept.ite ?_ ?_

theorem kept_State_portTimeout (s : State) (p : PortId) (slot kind status : Nat) : Kept [Fld.ARR_STATE.LOST_OVERFLOW, Fld.CAPACITY, Fld.DRIVE_SERIAL, Fld.ERR_INFO.DRIVE_STATUS, Fld.ERR_INFO.KIND, Fld.ERR_INFO.SLOT, Fld.HFE_DWE_STATUS.ENTRIES, Fld.HFE_DWE_STATUS.OVERFLOW, Fld.LINK_STATUS.LINK_UP, Fld.LINK_STATUS.PWREN, Fld.LINK_STATUS.RATE, Fld.LINK_STATUS.WIDTH, Fld.MIRROR_BYTES, Fld.OUTSTANDING.C0_SLOTS, Fld.OUTSTANDING.SLOTS, Fld.PORT_STATE.STATE, Fld.RBE_LOST_COUNT.ENTRIES, Fld.RBE_LOST_COUNT.OVERFLOW, Fld.RESET_COUNT, Fld.RETRY_COUNT, Fld.TIMEOUT_COUNT, Fld.WRITE_GATE_ABORTS] s (State.portTimeout s p slot kind status) := by
  unfold State.portTimeout
  try dsimp only
  repeat' first
    | exact (rfl : (_ : Bool) = _)
    | with_reducible exact Kept.refl
    | with_reducible assumption
    | with_reducible refine Kept.ite ?_ ?_
    | with_reducible apply Kept.incFldAt
    | with_reducible apply Kept.incFld
    | with_reducible apply Kept.step (kept_State_errInfo _ _ _ _ _)
    | with_reducible apply Kept.step (kept_State_escalate _ _ _ _)
    | (dsimp only [Kept.mk_form]; with_reducible apply KeptMk.intro (_h0 := rfl) (h3 := rfl))
    | split
    | refine Kept.ite ?_ ?_

theorem kept_State_lateDrop (s : State) (p : PortId) (c : MCmd) : Kept [Fld.HFE_LATE_DROP_COUNT, Fld.HFE_LATE_DROP_INFO.GEN, Fld.HFE_LATE_DROP_INFO.INDEX, Fld.HFE_LATE_DROP_INFO.PORT] s (State.lateDrop s p c) := by
  unfold State.lateDrop
  try dsimp only
  repeat' first
    | exact (rfl : (_ : Bool) = _)
    | with_reducible exact Kept.refl
    | with_reducible assumption
    | with_reducible refine Kept.ite ?_ ?_
    | with_reducible apply Kept.setFldAt
    | with_reducible apply Kept.setFld
    | with_reducible apply Kept.incFldAt
    | with_reducible apply Kept.incFld
    | with_reducible apply Kept.step (kept_State_emit _ _ _)
    | (dsimp only [Kept.mk_form]; with_reducible apply KeptMk.intro (_h0 := rfl) (h3 := rfl))
    | split
    | dsimp only
    | refine Kept.ite ?_ ?_

theorem kept_State_powerUpPort (s : State) (p : PortId) : Kept [Fld.LINK_STATUS.PWREN, Fld.PORT_STATE.STATE] s (State.powerUpPort s p) := by
  unfold State.powerUpPort
  try dsimp only
  repeat' first
    | exact (rfl : (_ : Bool) = _)
    | with_reducible exact Kept.refl
    | with_reducible apply Kept.step (kept_State_putPort _ _ _)
    | with_reducible apply Kept.step (kept_State_setPortState _ _ _)
    | with_reducible apply Kept.step (kept_State_setPwren _ _ _)
    | (dsimp only [Kept.mk_form]; with_reducible apply KeptMk.intro (_h0 := rfl) (h3 := rfl))
    | dsimp only

theorem kept_State_spinupPort (s : State) (p : PortId) : Kept [Fld.CAPACITY, Fld.DRIVE_SERIAL, Fld.LINK_STATUS.MODE, Fld.LINK_STATUS.PWREN, Fld.PORT_STATE.ARRAY, Fld.PORT_STATE.MEMBER_INDEX, Fld.PORT_STATE.STATE] s (State.spinupPort s p) := by
  unfold State.spinupPort
  try dsimp only
  repeat' first
    | exact (rfl : (_ : Bool) = _)
    | with_reducible exact Kept.refl
    | with_reducible assumption
    | with_reducible refine Kept.ite ?_ ?_
    | with_reducible apply Kept.setFldAt
    | with_reducible apply Kept.setFld
    | with_reducible apply Kept.step (kept_State_forgetDrive _ _)
    | with_reducible apply Kept.step (kept_State_powerUpPort _ _)
    | with_reducible apply Kept.step (kept_State_putPort _ _ _)
    | with_reducible apply Kept.step (kept_State_setPortState _ _ _)
    | with_reducible apply Kept.step (kept_State_setPwren _ _ _)
    | (dsimp only [Kept.mk_form]; with_reducible apply KeptMk.intro (_h0 := rfl) (h3 := rfl))
    | split
    | dsimp only
    | refine Kept.ite ?_ ?_

theorem kept_State_spinupStart (s : State) : Kept [Fld.CAPACITY, Fld.DRIVE_SERIAL, Fld.LINK_STATUS.MODE, Fld.LINK_STATUS.PWREN, Fld.PORT_STATE.ARRAY, Fld.PORT_STATE.MEMBER_INDEX, Fld.PORT_STATE.STATE] s (State.spinupStart s) := by
  unfold State.spinupStart
  try dsimp only
  repeat' first
    | exact (rfl : (_ : Bool) = _)
    | with_reducible exact Kept.refl
    | with_reducible assumption
    | with_reducible refine Kept.ite ?_ ?_
    | with_reducible apply Kept.step (kept_State_forgetDrive _ _)
    | with_reducible apply Kept.step (kept_State_setPortState _ _ _)
    | with_reducible apply Kept.step (kept_State_setPwren _ _ _)
    | with_reducible apply Kept.step (kept_State_spinupPort _ _)
    | with_reducible refine Kept.foldl (fun _ _ _ => ?_) ?_
    | with_reducible refine Kept.foldlFst (fun _ _ _ => ?_) ?_
    | with_reducible refine Kept.foldlSnd (fun _ _ _ => ?_) ?_
    | (dsimp only [Kept.mk_form]; with_reducible apply KeptMk.intro (_h0 := rfl) (h3 := rfl))
    | split
    | dsimp only
    | refine Kept.ite ?_ ?_

theorem kept_State_portsSilence (s : State) : Kept [Fld.LINK_STATUS.LINK_UP, Fld.LINK_STATUS.PWREN, Fld.LINK_STATUS.RATE, Fld.LINK_STATUS.WIDTH, Fld.PORT_STATE.STATE] s (State.portsSilence s) := by
  unfold State.portsSilence
  try dsimp only
  repeat' first
    | exact (rfl : (_ : Bool) = _)
    | with_reducible exact Kept.refl
    | with_reducible assumption
    | with_reducible refine Kept.ite ?_ ?_
    | with_reducible apply Kept.step (kept_State_linkDown _ _)
    | with_reducible apply Kept.step (kept_State_setPortState _ _ _)
    | with_reducible apply Kept.step (kept_State_setPwren _ _ _)
    | with_reducible refine Kept.foldl (fun _ _ _ => ?_) ?_
    | split
    | refine Kept.ite ?_ ?_

theorem kept_State_gateAbort (s : State) (p : PortId) : Kept [Fld.ARR_STATE.LOST_OVERFLOW, Fld.CAPACITY, Fld.DRIVE_SERIAL, Fld.ERR_INFO.DRIVE_STATUS, Fld.ERR_INFO.KIND, Fld.ERR_INFO.SLOT, Fld.HFE_DWE_STATUS.ENTRIES, Fld.HFE_DWE_STATUS.OVERFLOW, Fld.LINK_STATUS.LINK_UP, Fld.LINK_STATUS.PWREN, Fld.LINK_STATUS.RATE, Fld.LINK_STATUS.WIDTH, Fld.MIRROR_BYTES, Fld.OUTSTANDING.C0_SLOTS, Fld.OUTSTANDING.SLOTS, Fld.PORT_STATE.STATE, Fld.RBE_LOST_COUNT.ENTRIES, Fld.RBE_LOST_COUNT.OVERFLOW, Fld.RESET_COUNT, Fld.RETRY_COUNT, Fld.WRITE_GATE_ABORTS] s (State.gateAbort s p) := by
  unfold State.gateAbort
  try dsimp only
  repeat' first
    | exact (rfl : (_ : Bool) = _)
    | with_reducible exact Kept.refl
    | with_reducible refine Kept.ite ?_ ?_
    | with_reducible apply Kept.incFldAt
    | with_reducible apply Kept.incFld
    | with_reducible apply Kept.step (kept_State_countSlots _ _)
    | with_reducible apply Kept.step (kept_State_escalate _ _ _ _)
    | with_reducible apply Kept.step (kept_State_putPort _ _ _)
    | with_reducible apply Kept.step (kept_State_unholdTags _)
    | (dsimp only [Kept.mk_form]; with_reducible apply KeptMk.intro (_h0 := rfl) (h3 := rfl))
    | split
    | dsimp only
    | refine Kept.ite ?_ ?_

theorem kept_State_closeGate (s : State) : Kept [Fld.ARR_STATE.LOST_OVERFLOW, Fld.CAPACITY, Fld.CAPO_STATUS.GATE_OPEN, Fld.DRIVE_SERIAL, Fld.ERR_INFO.DRIVE_STATUS, Fld.ERR_INFO.KIND, Fld.ERR_INFO.SLOT, Fld.HFE_DWE_STATUS.ENTRIES, Fld.HFE_DWE_STATUS.OVERFLOW, Fld.LINK_STATUS.LINK_UP, Fld.LINK_STATUS.PWREN, Fld.LINK_STATUS.RATE, Fld.LINK_STATUS.WIDTH, Fld.MIRROR_BYTES, Fld.OUTSTANDING.C0_SLOTS, Fld.OUTSTANDING.SLOTS, Fld.PORT_STATE.STATE, Fld.RBE_LOST_COUNT.ENTRIES, Fld.RBE_LOST_COUNT.OVERFLOW, Fld.RESET_COUNT, Fld.RETRY_COUNT, Fld.WRITE_GATE_ABORTS] s (State.closeGate s) := by
  unfold State.closeGate
  try dsimp only
  repeat' first
    | exact (rfl : (_ : Bool) = _)
    | with_reducible exact Kept.refl
    | with_reducible assumption
    | with_reducible refine Kept.ite ?_ ?_
    | with_reducible apply Kept.setBitAt
    | with_reducible apply Kept.setBit
    | with_reducible apply Kept.step (kept_State_gateAbort _ _)
    | with_reducible refine Kept.foldl (fun _ _ _ => ?_) ?_
    | split
    | refine Kept.ite ?_ ?_


/-! ### Machine/WcOps.lean -/

theorem kept_State_withLines (s : State) (l : Tbl WcLine) : Kept [] s (State.withLines s l) := by
  unfold State.withLines
  try dsimp only
  repeat' first
    | exact (rfl : (_ : Bool) = _)
    | with_reducible exact Kept.refl
    | (dsimp only [Kept.mk_form]; with_reducible apply KeptMk.intro (_h0 := rfl) (h3 := rfl))

theorem kept_State_noteUnprot (s : State) : Kept [Fld.WC_STATUS.UNPROTECTED, Fld.WC_UNPROT_MS] s (State.noteUnprot s) := by
  unfold State.noteUnprot
  try dsimp only
  repeat' first
    | exact (rfl : (_ : Bool) = _)
    | with_reducible exact Kept.refl
    | with_reducible assumption
    | with_reducible refine Kept.ite ?_ ?_
    | with_reducible apply Kept.setBitAt
    | with_reducible apply Kept.setBit
    | with_reducible apply Kept.incFldAt
    | with_reducible apply Kept.incFld
    | with_reducible apply Kept.step (kept_State_emit _ _ _)
    | (dsimp only [Kept.mk_form]; with_reducible apply KeptMk.intro (_h0 := rfl) (h3 := rfl))
    | split
    | refine Kept.ite ?_ ?_

theorem kept_State_noteLimit (s : State) : Kept [Fld.WC_STATUS.OVER_LIMIT, Fld.WC_STATUS.UNPROTECTED, Fld.WC_UNPROT_MS] s (State.noteLimit s) := by
  unfold State.noteLimit
  try dsimp only
  repeat' first
    | exact (rfl : (_ : Bool) = _)
    | with_reducible exact Kept.refl
    | with_reducible apply Kept.setBitAt
    | with_reducible apply Kept.setBit
    | with_reducible apply Kept.step (kept_State_noteUnprot _)

theorem kept_State_noteThrough (s : State) : Kept [Fld.WC_STATUS.WRITE_THROUGH] s (State.noteThrough s) := by
  unfold State.noteThrough
  try dsimp only
  repeat' first
    | exact (rfl : (_ : Bool) = _)
    | with_reducible exact Kept.refl
    | with_reducible refine Kept.ite ?_ ?_
    | with_reducible apply Kept.setBitAt
    | with_reducible apply Kept.setBit
    | with_reducible apply Kept.step (kept_State_emit _ _ _)
    | (dsimp only [Kept.mk_form]; with_reducible apply KeptMk.intro (_h0 := rfl) (h3 := rfl))
    | split
    | dsimp only
    | refine Kept.ite ?_ ?_

theorem kept_State_recomputeLimit (s : State) : Kept [Fld.WC_LIMIT.MIB, Fld.WC_LIMIT_CFG.MIB, Fld.WC_LIMIT_ENERGY.MIB, Fld.WC_LIMIT_VAULT.MIB, Fld.WC_STATUS.AREA_READY, Fld.WC_STATUS.OVER_LIMIT, Fld.WC_STATUS.UNPROTECTED, Fld.WC_STATUS.WRITE_THROUGH, Fld.WC_UNPROT_MS] s (State.recomputeLimit s) := by
  unfold State.recomputeLimit
  try dsimp only
  repeat' first
    | exact (rfl : (_ : Bool) = _)
    | with_reducible exact Kept.refl
    | with_reducible apply Kept.setFldAt
    | with_reducible apply Kept.setFld
    | with_reducible apply Kept.setBitAt
    | with_reducible apply Kept.setBit
    | with_reducible apply Kept.step (kept_State_noteLimit _)
    | with_reducible apply Kept.step (kept_State_noteThrough _)

theorem kept_State_evictFor (s : State) (key : Nat) : Kept [] s (State.evictFor s key) := by
  unfold State.evictFor
  try dsimp only
  repeat' first
    | exact (rfl : (_ : Bool) = _)
    | with_reducible exact Kept.refl
    | with_reducible assumption
    | with_reducible refine Kept.ite ?_ ?_
    | with_reducible apply Kept.step (kept_State_withLines _ _)
    | with_reducible refine Kept.foldl (fun _ _ _ => ?_) ?_
    | with_reducible refine Kept.foldlFst (fun _ _ _ => ?_) ?_
    | with_reducible refine Kept.foldlSnd (fun _ _ _ => ?_) ?_
    | (dsimp only [Kept.mk_form]; with_reducible apply KeptMk.intro (_h0 := rfl) (h3 := rfl))
    | split
    | dsimp only
    | refine Kept.ite ?_ ?_

theorem kept_State_place (s : State) (nsid lba : Nat) (sec : CSec) (cls : Nat) (through : Bool) (owner : Option Nat) : Kept [Fld.MIRROR_BYTES] s (State.place s nsid lba sec cls through owner) := by
  unfold State.place
  try dsimp only
  repeat' first
    | exact (rfl : (_ : Bool) = _)
    | with_reducible exact Kept.refl
    | with_reducible apply Kept.step (kept_State_evictFor _ _)
    | with_reducible apply Kept.step (kept_State_mirror _ _)
    | (dsimp only [Kept.mk_form]; with_reducible apply KeptMk.intro (_h0 := rfl) (h3 := rfl))

theorem kept_State_fillClean (s : State) (nsid lba : Nat) (sec : CSec) : Kept [] s (State.fillClean s nsid lba sec) := by
  unfold State.fillClean
  try dsimp only
  repeat' first
    | exact (rfl : (_ : Bool) = _)
    | with_reducible exact Kept.refl
    | with_reducible assumption
    | with_reducible refine Kept.ite ?_ ?_
    | with_reducible apply Kept.step (kept_State_evictFor _ _)
    | with_reducible apply Kept.step (kept_State_withLines _ _)
    | (dsimp only [Kept.mk_form]; with_reducible apply KeptMk.intro (_h0 := rfl) (h3 := rfl))
    | split
    | dsimp only
    | refine Kept.ite ?_ ?_

theorem kept_State_needDirtyNs (s : State) (nsid : Nat) : Kept [Fld.MIRROR_BYTES] s (State.needDirtyNs s nsid).2 := by
  unfold State.needDirtyNs
  try dsimp only
  repeat' first
    | exact (rfl : (_ : Bool) = _)
    | with_reducible exact Kept.refl
    | with_reducible refine Kept.ite ?_ ?_
    | with_reducible apply Kept.step (kept_State_mirror _ _)
    | (dsimp only [Kept.mk_form]; with_reducible apply KeptMk.intro (_h0 := rfl) (h3 := rfl))
    | split
    | dsimp only
    | refine Kept.ite ?_ ?_

theorem kept_State_startDump (s : State) (why : DumpReason) : Kept [Fld.VLT_AREA.CANCELLED, Fld.VLT_AREA.COMPLETE, Fld.VLT_AREA.STATE, Fld.VLT_DUMP_SEQ, Fld.VLT_STATUS.DUMPING] s (State.startDump s why) := by
  unfold State.startDump
  try dsimp only
  repeat' first
    | exact (rfl : (_ : Bool) = _)
    | with_reducible exact Kept.refl
    | with_reducible assumption
    | with_reducible apply Kept.setFldAt
    | with_reducible apply Kept.setFld
    | with_reducible apply Kept.setBitAt
    | with_reducible apply Kept.setBit
    | (dsimp only [Kept.mk_form]; with_reducible apply KeptMk.intro (_h0 := rfl) (h3 := rfl))
    | split
    | dsimp only

theorem kept_State_dumpCut (s : State) (n : Nat) : Kept [Fld.VLT_STATUS.DUMPING] s (State.dumpCut s n) := by
  unfold State.dumpCut
  try dsimp only
  repeat' first
    | exact (rfl : (_ : Bool) = _)
    | with_reducible exact Kept.refl
    | with_reducible assumption
    | with_reducible apply Kept.setBitAt
    | with_reducible apply Kept.setBit
    | (dsimp only [Kept.mk_form]; with_reducible apply KeptMk.intro (_h0 := rfl) (h3 := rfl))
    | split
    | dsimp only


/-! ### Machine/IoOps.lean -/

theorem kept_State_setRead (s : State) (tag i : Nat) (v : ReadSec) : Kept [] s (State.setRead s tag i v) := by
  unfold State.setRead
  try dsimp only
  repeat' first
    | exact (rfl : (_ : Bool) = _)
    | with_reducible exact Kept.refl
    | with_reducible assumption
    | with_reducible apply Kept.step (kept_State_putCmd _ _)
    | (dsimp only [Kept.mk_form]; with_reducible apply KeptMk.intro (_h0 := rfl) (h3 := rfl))
    | split

theorem kept_State_readGot (s : State) (c : HostCmd) (i lba : Nat) (x : CSec) (src : CopySrc) : Kept [] s (State.readGot s c i lba x src) := by
  unfold State.readGot
  try dsimp only
  repeat' first
    | exact (rfl : (_ : Bool) = _)
    | with_reducible exact Kept.refl
    | with_reducible assumption
    | with_reducible refine Kept.ite ?_ ?_
    | with_reducible apply Kept.step (kept_State_fillClean _ _ _ _)
    | with_reducible apply Kept.step (kept_State_setRead _ _ _ _)
    | (dsimp only [Kept.mk_form]; with_reducible apply KeptMk.intro (_h0 := rfl) (h3 := rfl))
    | split
    | refine Kept.ite ?_ ?_

theorem kept_State_askUnit (s : State) (c : HostCmd) (a : ArrayId) (r : Arr) (g : Geom) (pl : Place) (unit : Nat) : Kept [] s (State.askUnit s c a r g pl unit) := by
  unfold State.askUnit
  try dsimp only
  repeat' first
    | exact (rfl : (_ : Bool) = _)
    | with_reducible exact Kept.refl
    | with_reducible assumption
    | with_reducible refine Kept.ite ?_ ?_
    | with_reducible apply Kept.step (kept_State_enqueue _ _ _)
    | with_reducible apply Kept.step (kept_State_putPort _ _ _)
    | (dsimp only [Kept.mk_form]; with_reducible apply KeptMk.intro (_h0 := rfl) (h3 := rfl))
    | split
    | refine Kept.ite ?_ ?_

theorem kept_State_noteLack (s : State) (c : HostCmd) (n : Nat) : Kept [] s (State.noteLack s c n) := by
  unfold State.noteLack
  try dsimp only
  repeat' first
    | exact (rfl : (_ : Bool) = _)
    | with_reducible exact Kept.refl
    | with_reducible assumption
    | with_reducible apply Kept.step (kept_State_putCmd _ _)
    | (dsimp only [Kept.mk_form]; with_reducible apply KeptMk.intro (_h0 := rfl) (h3 := rfl))
    | split

theorem kept_State_askPlan (s : State) (c : HostCmd) (a : ArrayId) (r : Arr) (g : Geom) (pl : Place) : Kept [] s (State.askPlan s c a r g pl) := by
  unfold State.askPlan
  try dsimp only
  repeat' first
    | exact (rfl : (_ : Bool) = _)
    | with_reducible exact Kept.refl
    | with_reducible assumption
    | with_reducible apply Kept.step (kept_State_askUnit _ _ _ _ _ _ _)
    | with_reducible apply Kept.step (kept_State_noteLack _ _ _)
    | with_reducible refine Kept.foldl (fun _ _ _ => ?_) ?_

theorem kept_State_askSolve (s : State) (c : HostCmd) (i : Nat) (a : ArrayId) (r : Arr) (g : Geom) (pl : Place) : Kept [] s (State.askSolve s c i a r g pl) := by
  unfold State.askSolve
  try dsimp only
  repeat' first
    | exact (rfl : (_ : Bool) = _)
    | with_reducible exact Kept.refl
    | with_reducible apply Kept.step (kept_State_askPlan _ _ _ _ _ _)
    | with_reducible apply Kept.step (kept_State_setRead _ _ _ _)

theorem kept_State_beginSector (s : State) (c : HostCmd) (i lba : Nat) : Kept [] s (State.beginSector s c i lba) := by
  unfold State.beginSector
  try dsimp only
  repeat' first
    | exact (rfl : (_ : Bool) = _)
    | with_reducible exact Kept.refl
    | with_reducible assumption
    | with_reducible refine Kept.ite ?_ ?_
    | with_reducible apply Kept.step (kept_State_askSolve _ _ _ _ _ _ _)
    | with_reducible apply Kept.step (kept_State_askUnit _ _ _ _ _ _ _)
    | with_reducible apply Kept.step (kept_State_readGot _ _ _ _ _ _)
    | with_reducible apply Kept.step (kept_State_setRead _ _ _ _)
    | with_reducible apply Kept.step (kept_State_withLines _ _)
    | (dsimp only [Kept.mk_form]; with_reducible apply KeptMk.intro (_h0 := rfl) (h3 := rfl))
    | split
    | dsimp only
    | refine Kept.ite ?_ ?_

theorem kept_State_solveSector (s : State) (c : HostCmd) (i lba : Nat) (a : ArrayId) (r : Arr) (g : Geom) (pl : Place) (src : CopySrc) : Kept [Fld.ARR_REPAIR_COUNT, Fld.ARR_STATE.LOST_OVERFLOW, Fld.HFE_DWE_STATUS.ENTRIES, Fld.HFE_DWE_STATUS.OVERFLOW, Fld.MIRROR_BYTES, Fld.PQE_SOLVE_COUNT, Fld.PQE_SRC_BYTES, Fld.RBE_LOST_COUNT.ENTRIES, Fld.RBE_LOST_COUNT.OVERFLOW] s (State.solveSector s c i lba a r g pl src) := by
  unfold State.solveSector
  try dsimp only
  repeat' first
    | exact (rfl : (_ : Bool) = _)
    | with_reducible exact Kept.refl
    | with_reducible assumption
    | with_reducible refine Kept.ite ?_ ?_
    | with_reducible apply Kept.incFldAt
    | with_reducible apply Kept.incFld
    | with_reducible apply Kept.step (kept_State_loseCounted _ _ _ _ _ _ _ _)
    | with_reducible apply Kept.step (kept_State_noteLack _ _ _)
    | with_reducible apply Kept.step (kept_State_readGot _ _ _ _ _ _)
    | with_reducible apply Kept.step (kept_State_repairCounted _ _ _ _ _ _ _ _)
    | with_reducible apply Kept.step (kept_State_resyncStripe _ _ _ _)
    | with_reducible apply Kept.step (kept_State_setRead _ _ _ _)
    | with_reducible apply Kept.step (kept_State_stampCmd _ _ _)
    | (dsimp only [Kept.mk_form]; with_reducible apply KeptMk.intro (_h0 := rfl) (h3 := rfl))
    | split
    | refine Kept.ite ?_ ?_

theorem kept_State_goOnSector (s : State) (c : HostCmd) (i lba : Nat) : Kept [Fld.ARR_REPAIR_COUNT, Fld.ARR_STATE.LOST_OVERFLOW, Fld.HFE_DWE_STATUS.ENTRIES, Fld.HFE_DWE_STATUS.OVERFLOW, Fld.MIRROR_BYTES, Fld.PQE_SOLVE_COUNT, Fld.PQE_SRC_BYTES, Fld.RBE_LOST_COUNT.ENTRIES, Fld.RBE_LOST_COUNT.OVERFLOW] s (State.goOnSector s c i lba) := by
  unfold State.goOnSector
  try dsimp only
  repeat' first
    | exact (rfl : (_ : Bool) = _)
    | with_reducible exact Kept.refl
    | with_reducible assumption
    | with_reducible refine Kept.ite ?_ ?_
    | with_reducible apply Kept.step (kept_State_askSolve _ _ _ _ _ _ _)
    | with_reducible apply Kept.step (kept_State_readGot _ _ _ _ _ _)
    | with_reducible apply Kept.step (kept_State_setRead _ _ _ _)
    | with_reducible apply Kept.step (kept_State_solveSector _ _ _ _ _ _ _ _ _)
    | (dsimp only [Kept.mk_form]; with_reducible apply KeptMk.intro (_h0 := rfl) (h3 := rfl))
    | split
    | dsimp only
    | refine Kept.ite ?_ ?_

theorem kept_State_readFinish (s : State) (tag : Nat) : Kept [Fld.HFE_COLLECT_MAX.MAX_DEPTH] s (State.readFinish s tag) := by
  unfold State.readFinish
  try dsimp only
  repeat' first
    | exact (rfl : (_ : Bool) = _)
    | with_reducible exact Kept.refl
    | with_reducible assumption
    | with_reducible refine Kept.ite ?_ ?_
    | with_reducible apply Kept.step (kept_State_collect _ _ _ _)
    | with_reducible apply Kept.step (kept_State_emit _ _ _)
    | (dsimp only [Kept.mk_form]; with_reducible apply KeptMk.intro (_h0 := rfl) (h3 := rfl))
    | split
    | dsimp only
    | refine Kept.ite ?_ ?_

theorem kept_State_readPass (s : State) (tag : Nat) : Kept [Fld.ARR_REPAIR_COUNT, Fld.ARR_STATE.LOST_OVERFLOW, Fld.HFE_COLLECT_MAX.MAX_DEPTH, Fld.HFE_DWE_STATUS.ENTRIES, Fld.HFE_DWE_STATUS.OVERFLOW, Fld.MIRROR_BYTES, Fld.PQE_SOLVE_COUNT, Fld.PQE_SRC_BYTES, Fld.RBE_LOST_COUNT.ENTRIES, Fld.RBE_LOST_COUNT.OVERFLOW] s (State.readPass s tag) := by
  unfold State.readPass
  try dsimp only
  repeat' first
    | exact (rfl : (_ : Bool) = _)
    | with_reducible exact Kept.refl
    | with_reducible assumption
    | with_reducible refine Kept.ite ?_ ?_
    | with_reducible apply Kept.step (kept_State_beginSector _ _ _ _)
    | with_reducible apply Kept.step (kept_State_goOnSector _ _ _ _)
    | with_reducible apply Kept.step (kept_State_putCmd _ _)
    | with_reducible apply Kept.step (kept_State_readFinish _ _)
    | with_reducible refine Kept.foldl (fun _ _ _ => ?_) ?_
    | with_reducible refine Kept.foldlFst (fun _ _ _ => ?_) ?_
    | with_reducible refine Kept.foldlSnd (fun _ _ _ => ?_) ?_
    | (dsimp only [Kept.mk_form]; with_reducible apply KeptMk.intro (_h0 := rfl) (h3 := rfl))
    | split
    | dsimp only
    | refine Kept.ite ?_ ?_

theorem kept_State_ackLines (s : State) (tag : Nat) : Kept [] s (State.ackLines s tag) := by
  unfold State.ackLines
  try dsimp only
  repeat' first
    | exact (rfl : (_ : Bool) = _)
    | with_reducible exact Kept.refl
    | with_reducible refine Kept.ite ?_ ?_
    | with_reducible apply Kept.step (kept_State_withLines _ _)
    | (dsimp only [Kept.mk_form]; with_reducible apply KeptMk.intro (_h0 := rfl) (h3 := rfl))
    | split
    | dsimp only
    | refine Kept.ite ?_ ?_

theorem kept_State_abandonLines (s : State) (tag : Nat) : Kept [] s (State.abandonLines s tag) := by
  unfold State.abandonLines
  try dsimp only
  repeat' first
    | exact (rfl : (_ : Bool) = _)
    | with_reducible exact Kept.refl
    | with_reducible assumption
    | with_reducible refine Kept.ite ?_ ?_
    | with_reducible apply Kept.step (kept_State_ackLines _ _)
    | with_reducible apply Kept.step (kept_State_withLines _ _)
    | (dsimp only [Kept.mk_form]; with_reducible apply KeptMk.intro (_h0 := rfl) (h3 := rfl))
    | split
    | dsimp only
    | refine Kept.ite ?_ ?_

theorem kept_State_lowerClass (s : State) (c : HostCmd) : Kept [] s (State.lowerClass s c) := by
  unfold State.lowerClass
  try dsimp only
  repeat' first
    | exact (rfl : (_ : Bool) = _)
    | with_reducible exact Kept.refl
    | with_reducible assumption
    | with_reducible refine Kept.ite ?_ ?_
    | (dsimp only [Kept.mk_form]; with_reducible apply KeptMk.intro (_h0 := rfl) (h3 := rfl))
    | split
    | dsimp only
    | refine Kept.ite ?_ ?_

theorem kept_State_writeReady (s : State) (tag : Nat) : Kept [Fld.HFE_COLLECT_MAX.MAX_DEPTH] s (State.writeReady s tag) := by
  unfold State.writeReady
  try dsimp only
  repeat' first
    | exact (rfl : (_ : Bool) = _)
    | with_reducible exact Kept.refl
    | with_reducible assumption
    | with_reducible refine Kept.ite ?_ ?_
    | with_reducible apply Kept.step (kept_State_ackLines _ _)
    | with_reducible apply Kept.step (kept_State_collect _ _ _ _)
    | with_reducible apply Kept.step (kept_State_lowerClass _ _)
    | with_reducible apply Kept.step (kept_State_putCmd _ _)
    | (dsimp only [Kept.mk_form]; with_reducible apply KeptMk.intro (_h0 := rfl) (h3 := rfl))
    | split
    | refine Kept.ite ?_ ?_

theorem kept_State_destageWake (s : State) : Kept [Fld.HFE_COLLECT_MAX.MAX_DEPTH] s (State.destageWake s) := by
  unfold State.destageWake
  try dsimp only
  repeat' first
    | exact (rfl : (_ : Bool) = _)
    | with_reducible exact Kept.refl
    | with_reducible assumption
    | with_reducible refine Kept.ite ?_ ?_
    | with_reducible apply Kept.step (kept_State_ackLines _ _)
    | with_reducible apply Kept.step (kept_State_collect _ _ _ _)
    | with_reducible refine Kept.foldl (fun _ _ _ => ?_) ?_
    | split
    | refine Kept.ite ?_ ?_

theorem kept_State_dropMessages (s : State) (gone : Nat → Bool) : Kept [Fld.HFE_COLLECT_MAX.MAX_DEPTH] s (State.dropMessages s gone) := by
  unfold State.dropMessages
  try dsimp only
  repeat' first
    | exact (rfl : (_ : Bool) = _)
    | with_reducible exact Kept.refl
    | with_reducible assumption
    | with_reducible refine Kept.ite ?_ ?_
    | with_reducible apply Kept.step (kept_State_ackLines _ _)
    | with_reducible apply Kept.step (kept_State_collect _ _ _ _)
    | with_reducible refine Kept.foldl (fun _ _ _ => ?_) ?_
    | with_reducible refine Kept.foldlSnd (fun _ _ _ => ?_) ?_
    | (dsimp only [Kept.mk_form]; with_reducible apply KeptMk.intro (_h0 := rfl) (h3 := rfl))
    | split
    | dsimp only
    | refine Kept.ite ?_ ?_

theorem kept_State_dropKeys (s : State) (gone : Nat → Bool) : Kept [Fld.HFE_COLLECT_MAX.MAX_DEPTH] s (State.dropKeys s gone) := by
  unfold State.dropKeys
  try dsimp only
  repeat' first
    | exact (rfl : (_ : Bool) = _)
    | with_reducible exact Kept.refl
    | with_reducible apply Kept.step (kept_State_dropMessages _ _)
    | (dsimp only [Kept.mk_form]; with_reducible apply KeptMk.intro (_h0 := rfl) (h3 := rfl))
    | dsimp only


/-! ### Machine/CipOps.lean -/

theorem kept_State_setPool (s : State) (n : Nat) : Kept [Fld.CIP_STATUS.TRNG_READY, Fld.CIP_TRNG_STATUS.POOL, Fld.CIP_TRNG_STATUS.READY] s (State.setPool s n) := by
  unfold State.setPool
  try dsimp only
  repeat' first
    | exact (rfl : (_ : Bool) = _)
    | with_reducible exact Kept.refl
    | with_reducible apply Kept.setFldAt
    | with_reducible apply Kept.setFld
    | with_reducible apply Kept.setBitAt
    | with_reducible apply Kept.setBit

theorem kept_State_draw (s : State) : Kept [Fld.CIP_STATUS.TRNG_READY, Fld.CIP_TRNG_STATUS.POOL, Fld.CIP_TRNG_STATUS.READY] s (State.draw s) := by
  unfold State.draw
  try dsimp only
  repeat' first
    | exact (rfl : (_ : Bool) = _)
    | with_reducible exact Kept.refl
    | with_reducible apply Kept.step (kept_State_setPool _ _)
    | with_reducible apply Kept.step (kept_State_used _)

theorem kept_State_entropyFail (s : State) (tag : Nat) : Kept [Fld.HFE_COLLECT_MAX.MAX_DEPTH] s (State.entropyFail s tag) := by
  unfold State.entropyFail
  try dsimp only
  repeat' first
    | exact (rfl : (_ : Bool) = _)
    | with_reducible exact Kept.refl
    | with_reducible assumption
    | with_reducible refine Kept.ite ?_ ?_
    | with_reducible apply Kept.step (kept_State_collect _ _ _ _)
    | (dsimp only [Kept.mk_form]; with_reducible apply KeptMk.intro (_h0 := rfl) (h3 := rfl))
    | split
    | refine Kept.ite ?_ ?_

theorem kept_State_advanceMark (s : State) (nsid : Nat) : Kept [Fld.MIRROR_BYTES] s (State.advanceMark s nsid) := by
  unfold State.advanceMark
  try dsimp only
  repeat' first
    | exact (rfl : (_ : Bool) = _)
    | with_reducible exact Kept.refl
    | with_reducible assumption
    | with_reducible refine Kept.ite ?_ ?_
    | with_reducible apply Kept.step (kept_State_mirror _ _)
    | (dsimp only [Kept.mk_form]; with_reducible apply KeptMk.intro (_h0 := rfl) (h3 := rfl))
    | split
    | refine Kept.ite ?_ ?_

theorem kept_State_nonceWarn (s : State) (nsid ctr : Nat) : Kept [Fld.CIP_STATUS.NONCE_WARN] s (State.nonceWarn s nsid ctr) := by
  unfold State.nonceWarn
  try dsimp only
  repeat' first
    | exact (rfl : (_ : Bool) = _)
    | with_reducible exact Kept.refl
    | with_reducible refine Kept.ite ?_ ?_
    | with_reducible apply Kept.setBitAt
    | with_reducible apply Kept.setBit
    | with_reducible apply Kept.step (kept_State_emit _ _ _)
    | split
    | refine Kept.ite ?_ ?_

theorem kept_State_encrypt (s : State) (tag : Nat) : Kept [Fld.CIP_STATUS.NONCE_WARN, Fld.CIP_STATUS.TRNG_READY, Fld.CIP_TRNG_STATUS.POOL, Fld.CIP_TRNG_STATUS.READY, Fld.HFE_COLLECT_MAX.MAX_DEPTH, Fld.MIRROR_BYTES] s (State.encrypt s tag) := by
  unfold State.encrypt
  try dsimp only
  repeat' first
    | exact (rfl : (_ : Bool) = _)
    | with_reducible exact Kept.refl
    | with_reducible assumption
    | with_reducible refine Kept.ite ?_ ?_
    | with_reducible apply Kept.step (kept_State_advanceMark _ _)
    | with_reducible apply Kept.step (kept_State_collect _ _ _ _)
    | with_reducible apply Kept.step (kept_State_draw _)
    | with_reducible apply Kept.step (kept_State_nonceWarn _ _ _)
    | with_reducible apply Kept.step (kept_State_putCmd _ _)
    | (dsimp only [Kept.mk_form]; with_reducible apply KeptMk.intro (_h0 := rfl) (h3 := rfl))
    | split
    | dsimp only
    | refine Kept.ite ?_ ?_

theorem kept_State_putPipe (s : State) (pipe : Nat) (m : CMsg) : Kept [] s (State.putPipe s pipe m) := by
  unfold State.putPipe
  try dsimp only
  repeat' first
    | exact (rfl : (_ : Bool) = _)
    | with_reducible exact Kept.refl
    | (dsimp only [Kept.mk_form]; with_reducible apply KeptMk.intro (_h0 := rfl) (h3 := rfl))

theorem kept_State_showContexts (s : State) : Kept [Fld.CIP_STATUS.CONTEXTS] s (State.showContexts s) := by
  unfold State.showContexts
  try dsimp only
  repeat' first
    | exact (rfl : (_ : Bool) = _)
    | with_reducible exact Kept.refl
    | with_reducible apply Kept.setFldAt
    | with_reducible apply Kept.setFld

theorem kept_State_keyDone (s : State) (err : Nat) : Kept [Fld.CIP_KEY_STATUS.DONE, Fld.CIP_KEY_STATUS.ERROR] s (State.keyDone s err) := by
  unfold State.keyDone
  try dsimp only
  repeat' first
    | exact (rfl : (_ : Bool) = _)
    | with_reducible exact Kept.refl
    | with_reducible apply Kept.setFldAt
    | with_reducible apply Kept.setFld
    | with_reducible apply Kept.setBitAt
    | with_reducible apply Kept.setBit

theorem kept_State_loadKey (s : State) (nsid ref key : Nat) : Kept [Fld.CIP_STATUS.TRNG_READY, Fld.CIP_TRNG_STATUS.POOL, Fld.CIP_TRNG_STATUS.READY, Fld.MIRROR_BYTES] s (State.loadKey s nsid ref key) := by
  unfold State.loadKey
  try dsimp only
  repeat' first
    | exact (rfl : (_ : Bool) = _)
    | with_reducible exact Kept.refl
    | with_reducible assumption
    | with_reducible refine Kept.ite ?_ ?_
    | with_reducible apply Kept.step (kept_State_advanceMark _ _)
    | with_reducible apply Kept.step (kept_State_draw _)
    | with_reducible apply Kept.step (kept_State_mirror _ _)
    | with_reducible apply Kept.step (kept_State_putArr _ _ _)
    | (dsimp only [Kept.mk_form]; with_reducible apply KeptMk.intro (_h0 := rfl) (h3 := rfl))
    | split
    | dsimp only
    | refine Kept.ite ?_ ?_

theorem kept_State_zeroize (s : State) : Kept [Fld.CIP_STATUS.CONTEXTS, Fld.CIP_STATUS.OWNER_SET, Fld.HFE_COLLECT_MAX.MAX_DEPTH] s (State.zeroize s) := by
  unfold State.zeroize
  try dsimp only
  repeat' first
    | exact (rfl : (_ : Bool) = _)
    | with_reducible exact Kept.refl
    | with_reducible apply Kept.setBitAt
    | with_reducible apply Kept.setBit
    | with_reducible apply Kept.step (kept_State_dropKeys _ _)
    | with_reducible apply Kept.step (kept_State_showContexts _)
    | (dsimp only [Kept.mk_form]; with_reducible apply KeptMk.intro (_h0 := rfl) (h3 := rfl))

theorem kept_State_tamperCfg (s : State) (v : Nat) : Kept [Fld.CIP_TAMPER_CFG.EXT_EN, Fld.CIP_TAMPER_CFG.EXT_POL, Fld.CIP_TAMPER_CFG.FILTER, Fld.CIP_TAMPER_CFG.LOCK] s (State.tamperCfg s v) := by
  unfold State.tamperCfg
  try dsimp only
  repeat' first
    | exact (rfl : (_ : Bool) = _)
    | with_reducible exact Kept.refl
    | with_reducible refine Kept.ite ?_ ?_
    | with_reducible apply Kept.setFldAt
    | with_reducible apply Kept.setFld
    | with_reducible apply Kept.setBitAt
    | with_reducible apply Kept.setBit
    | split
    | refine Kept.ite ?_ ?_

theorem kept_State_enterTamperHold (s : State) : Kept [Fld.CIP_STATUS.TAMPER_HOLD, Fld.PWR_STATE.BOOTING] s (State.enterTamperHold s) := by
  unfold State.enterTamperHold
  try dsimp only
  repeat' first
    | exact (rfl : (_ : Bool) = _)
    | with_reducible exact Kept.refl
    | with_reducible apply Kept.setBitAt
    | with_reducible apply Kept.setBit
    | (dsimp only [Kept.mk_form]; with_reducible apply KeptMk.intro (_h0 := rfl) (h3 := rfl))
    | dsimp only


/-! ### Machine/NrgOps.lean -/

theorem kept_State_putPack (s : State) (p : PackId) (x : Pack) : Kept [] s (State.putPack s p x) := by
  unfold State.putPack
  try dsimp only
  repeat' first
    | exact (rfl : (_ : Bool) = _)
    | with_reducible exact Kept.refl
    | (dsimp only [Kept.mk_form]; with_reducible apply KeptMk.intro (_h0 := rfl) (h3 := rfl))

theorem kept_State_moveSoc (s : State) (p : PackId) : Kept [Fld.NRG_SOC.PERMILLE] s (State.moveSoc s p) := by
  unfold State.moveSoc
  try dsimp only
  repeat' first
    | exact (rfl : (_ : Bool) = _)
    | with_reducible exact Kept.refl
    | with_reducible refine Kept.ite ?_ ?_
    | with_reducible apply Kept.setFldAt
    | with_reducible apply Kept.setFld
    | with_reducible apply Kept.step (kept_State_putPack _ _ _)
    | (dsimp only [Kept.mk_form]; with_reducible apply KeptMk.intro (_h0 := rfl) (h3 := rfl))
    | split
    | refine Kept.ite ?_ ?_

theorem kept_State_showPack (s : State) (p : PackId) : Kept [Fld.NRG_CAP_MAH, Fld.NRG_CYCLES.X16, Fld.NRG_IMPEDANCE.R_FAST, Fld.NRG_IMPEDANCE.R_SLOW, Fld.NRG_LAST_LEARN, Fld.NRG_LAST_TEST, Fld.PACK_STATUS.CHARGE_PERMIT, Fld.PACK_STATUS.FAILED, Fld.PACK_STATUS.HEALTH, Fld.PACK_STATUS.LEARNING, Fld.PACK_STATUS.PACK_SERIAL, Fld.PACK_STATUS.QUALIFIED, Fld.PACK_STATUS.REPLACE, Fld.PACK_STATUS.TESTING] s (State.showPack s p) := by
  unfold State.showPack
  try dsimp only
  repeat' first
    | exact (rfl : (_ : Bool) = _)
    | with_reducible exact Kept.refl
    | with_reducible assumption
    | with_reducible refine Kept.ite ?_ ?_
    | with_reducible apply Kept.setFldAt
    | with_reducible apply Kept.setFld
    | with_reducible apply Kept.setBitAt
    | with_reducible apply Kept.setBit
    | with_reducible apply Kept.step (kept_State_smartWarn _ _)
    | split
    | dsimp only
    | refine Kept.ite ?_ ?_

theorem kept_State_showNrg (s : State) : Kept [Fld.NRG_CAP_MAH, Fld.NRG_CYCLES.X16, Fld.NRG_IMPEDANCE.R_FAST, Fld.NRG_IMPEDANCE.R_SLOW, Fld.NRG_LAST_LEARN, Fld.NRG_LAST_TEST, Fld.NRG_STATUS.LEARN_ACTIVE, Fld.NRG_STATUS.QUALIFIED_ANY, Fld.NRG_STATUS.TEST_ACTIVE, Fld.PACK_STATUS.CHARGE_PERMIT, Fld.PACK_STATUS.FAILED, Fld.PACK_STATUS.HEALTH, Fld.PACK_STATUS.LEARNING, Fld.PACK_STATUS.PACK_SERIAL, Fld.PACK_STATUS.QUALIFIED, Fld.PACK_STATUS.REPLACE, Fld.PACK_STATUS.TESTING] s (State.showNrg s) := by
  unfold State.showNrg
  try dsimp only
  repeat' first
    | exact (rfl : (_ : Bool) = _)
    | with_reducible exact Kept.refl
    | with_reducible assumption
    | with_reducible apply Kept.setBitAt
    | with_reducible apply Kept.setBit
    | with_reducible apply Kept.step (kept_State_showPack _ _)
    | split

theorem kept_State_computeEnergy (s : State) : Kept [Fld.NRG_AVAIL_J.J, Fld.NRG_CAP_MAH, Fld.NRG_CYCLES.X16, Fld.NRG_E_J.E_J, Fld.NRG_IMPEDANCE.R_FAST, Fld.NRG_IMPEDANCE.R_SLOW, Fld.NRG_LAST_LEARN, Fld.NRG_LAST_TEST, Fld.NRG_PACK_E_J.J, Fld.NRG_RESERVE_J.J, Fld.NRG_STATUS.LEARN_ACTIVE, Fld.NRG_STATUS.QUALIFIED_ANY, Fld.NRG_STATUS.TEST_ACTIVE, Fld.PACK_STATUS.CHARGE_PERMIT, Fld.PACK_STATUS.FAILED, Fld.PACK_STATUS.HEALTH, Fld.PACK_STATUS.LEARNING, Fld.PACK_STATUS.PACK_SERIAL, Fld.PACK_STATUS.QUALIFIED, Fld.PACK_STATUS.REPLACE, Fld.PACK_STATUS.TESTING, Fld.WC_STATUS.UNPROTECTED, Fld.WC_UNPROT_MS] s (State.computeEnergy s) := by
  unfold State.computeEnergy
  try dsimp only
  repeat' first
    | exact (rfl : (_ : Bool) = _)
    | with_reducible exact Kept.refl
    | with_reducible apply Kept.setFldAt
    | with_reducible apply Kept.setFld
    | with_reducible apply Kept.step (kept_State_noteUnprot _)
    | with_reducible apply Kept.step (kept_State_showNrg _)

theorem kept_State_takeSample (s : State) (p : PackId) (v : PackSample) : Kept [Fld.NRG_COULOMB, Fld.NRG_CURR_MA, Fld.NRG_TEMP.DECI_C, Fld.NRG_VOLT_MV.MV, Fld.PACK_STATUS.TEMP_OUT] s (State.takeSample s p v) := by
  unfold State.takeSample
  try dsimp only
  repeat' first
    | exact (rfl : (_ : Bool) = _)
    | with_reducible exact Kept.refl
    | with_reducible assumption
    | with_reducible refine Kept.ite ?_ ?_
    | with_reducible apply Kept.setFldAt
    | with_reducible apply Kept.setFld
    | with_reducible apply Kept.setBitAt
    | with_reducible apply Kept.setBit
    | with_reducible apply Kept.step (kept_State_putPack _ _ _)
    | (dsimp only [Kept.mk_form]; with_reducible apply KeptMk.intro (_h0 := rfl) (h3 := rfl))
    | split
    | refine Kept.ite ?_ ?_

theorem kept_State_restoreEn (s : State) (p : PackId) : Kept [] s (State.restoreEn s p) := by
  unfold State.restoreEn
  try dsimp only
  repeat' first
    | exact (rfl : (_ : Bool) = _)
    | with_reducible exact Kept.refl
    | with_reducible apply Kept.step (kept_State_putPack _ _ _)
    | (dsimp only [Kept.mk_form]; with_reducible apply KeptMk.intro (_h0 := rfl) (h3 := rfl))

theorem kept_State_setHoldup (s : State) (b : Bool) : Kept [Fld.NRG_STATUS.HOLDUP_EN] s (State.setHoldup s b) := by
  unfold State.setHoldup
  try dsimp only
  repeat' first
    | exact (rfl : (_ : Bool) = _)
    | with_reducible exact Kept.refl
    | with_reducible apply Kept.setBitAt
    | with_reducible apply Kept.setBit

theorem kept_State_requestTest (s : State) (p : PackId) : Kept [] s (State.requestTest s p) := by
  unfold State.requestTest
  try dsimp only
  repeat' first
    | exact (rfl : (_ : Bool) = _)
    | with_reducible exact Kept.refl
    | with_reducible refine Kept.ite ?_ ?_
    | (dsimp only [Kept.mk_form]; with_reducible apply KeptMk.intro (_h0 := rfl) (h3 := rfl))
    | split
    | refine Kept.ite ?_ ?_

theorem kept_State_endNrgCmd (s : State) (p : PackId) : Kept [Fld.NRG_CMD_STATUS.BUSY, Fld.NRG_CMD_STATUS.DONE] s (State.endNrgCmd s p) := by
  unfold State.endNrgCmd
  try dsimp only
  repeat' first
    | exact (rfl : (_ : Bool) = _)
    | with_reducible exact Kept.refl
    | with_reducible refine Kept.ite ?_ ?_
    | with_reducible apply Kept.setBitAt
    | with_reducible apply Kept.setBit
    | (dsimp only [Kept.mk_form]; with_reducible apply KeptMk.intro (_h0 := rfl) (h3 := rfl))
    | split
    | refine Kept.ite ?_ ?_

theorem kept_State_socStart (s : State) (p : PackId) : Kept [Fld.NRG_AVAIL_J.J, Fld.NRG_CAP_MAH, Fld.NRG_CYCLES.X16, Fld.NRG_E_J.E_J, Fld.NRG_IMPEDANCE.R_FAST, Fld.NRG_IMPEDANCE.R_SLOW, Fld.NRG_LAST_LEARN, Fld.NRG_LAST_TEST, Fld.NRG_PACK_E_J.J, Fld.NRG_RESERVE_J.J, Fld.NRG_SOC.PERMILLE, Fld.NRG_STATUS.LEARN_ACTIVE, Fld.NRG_STATUS.QUALIFIED_ANY, Fld.NRG_STATUS.TEST_ACTIVE, Fld.PACK_STATUS.CHARGE_PERMIT, Fld.PACK_STATUS.FAILED, Fld.PACK_STATUS.HEALTH, Fld.PACK_STATUS.LEARNING, Fld.PACK_STATUS.PACK_SERIAL, Fld.PACK_STATUS.QUALIFIED, Fld.PACK_STATUS.REPLACE, Fld.PACK_STATUS.TESTING, Fld.WC_STATUS.UNPROTECTED, Fld.WC_UNPROT_MS] s (State.socStart s p) := by
  unfold State.socStart
  try dsimp only
  repeat' first
    | exact (rfl : (_ : Bool) = _)
    | with_reducible exact Kept.refl
    | with_reducible refine Kept.ite ?_ ?_
    | with_reducible apply Kept.setFldAt
    | with_reducible apply Kept.setFld
    | with_reducible apply Kept.step (kept_State_computeEnergy _)
    | with_reducible apply Kept.step (kept_State_putPack _ _ _)
    | (dsimp only [Kept.mk_form]; with_reducible apply KeptMk.intro (_h0 := rfl) (h3 := rfl))
    | split
    | refine Kept.ite ?_ ?_

theorem kept_State_endTest (s : State) (p : PackId) (result : Nat) : Kept [Fld.NRG_AVAIL_J.J, Fld.NRG_CAP_MAH, Fld.NRG_CMD_STATUS.BUSY, Fld.NRG_CMD_STATUS.DONE, Fld.NRG_CYCLES.X16, Fld.NRG_E_J.E_J, Fld.NRG_IMPEDANCE.R_FAST, Fld.NRG_IMPEDANCE.R_SLOW, Fld.NRG_LAST_LEARN, Fld.NRG_LAST_TEST, Fld.NRG_PACK_E_J.J, Fld.NRG_RESERVE_J.J, Fld.NRG_SOC.PERMILLE, Fld.NRG_STATUS.HOLDUP_EN, Fld.NRG_STATUS.LEARN_ACTIVE, Fld.NRG_STATUS.QUALIFIED_ANY, Fld.NRG_STATUS.TEST_ACTIVE, Fld.PACK_STATUS.CHARGE_PERMIT, Fld.PACK_STATUS.FAILED, Fld.PACK_STATUS.HEALTH, Fld.PACK_STATUS.LEARNING, Fld.PACK_STATUS.PACK_SERIAL, Fld.PACK_STATUS.QUALIFIED, Fld.PACK_STATUS.REPLACE, Fld.PACK_STATUS.TESTING, Fld.PACK_STATUS.TEST_RESULT, Fld.WC_STATUS.UNPROTECTED, Fld.WC_UNPROT_MS] s (State.endTest s p result) := by
  unfold State.endTest
  try dsimp only
  repeat' first
    | exact (rfl : (_ : Bool) = _)
    | with_reducible exact Kept.refl
    | with_reducible assumption
    | with_reducible refine Kept.ite ?_ ?_
    | with_reducible apply Kept.setFldAt
    | with_reducible apply Kept.setFld
    | with_reducible apply Kept.step (kept_State_emit _ _ _)
    | with_reducible apply Kept.step (kept_State_endNrgCmd _ _)
    | with_reducible apply Kept.step (kept_State_putPack _ _ _)
    | with_reducible apply Kept.step (kept_State_restoreEn _ _)
    | with_reducible apply Kept.step (kept_State_setHoldup _ _)
    | with_reducible apply Kept.step (kept_State_showNrg _)
    | with_reducible apply Kept.step (kept_State_socStart _ _)
    | (dsimp only [Kept.mk_form]; with_reducible apply KeptMk.intro (_h0 := rfl) (h3 := rfl))
    | split
    | refine Kept.ite ?_ ?_

theorem kept_State_abortTest (s : State) (p : PackId) : Kept [Fld.NRG_AVAIL_J.J, Fld.NRG_CAP_MAH, Fld.NRG_CMD_STATUS.BUSY, Fld.NRG_CMD_STATUS.DONE, Fld.NRG_CYCLES.X16, Fld.NRG_E_J.E_J, Fld.NRG_IMPEDANCE.R_FAST, Fld.NRG_IMPEDANCE.R_SLOW, Fld.NRG_LAST_LEARN, Fld.NRG_LAST_TEST, Fld.NRG_PACK_E_J.J, Fld.NRG_RESERVE_J.J, Fld.NRG_SOC.PERMILLE, Fld.NRG_STATUS.HOLDUP_EN, Fld.NRG_STATUS.LEARN_ACTIVE, Fld.NRG_STATUS.QUALIFIED_ANY, Fld.NRG_STATUS.TEST_ACTIVE, Fld.PACK_STATUS.CHARGE_PERMIT, Fld.PACK_STATUS.FAILED, Fld.PACK_STATUS.HEALTH, Fld.PACK_STATUS.LEARNING, Fld.PACK_STATUS.PACK_SERIAL, Fld.PACK_STATUS.QUALIFIED, Fld.PACK_STATUS.REPLACE, Fld.PACK_STATUS.TESTING, Fld.PACK_STATUS.TEST_RESULT, Fld.WC_STATUS.UNPROTECTED, Fld.WC_UNPROT_MS] s (State.abortTest s p) := by
  unfold State.abortTest
  try dsimp only
  repeat' first
    | exact (rfl : (_ : Bool) = _)
    | with_reducible exact Kept.refl
    | with_reducible refine Kept.ite ?_ ?_
    | with_reducible apply Kept.step (kept_State_endTest _ _ _)
    | split
    | refine Kept.ite ?_ ?_

theorem kept_State_replacePack (s : State) (p : PackId) : Kept [] s (State.replacePack s p) := by
  unfold State.replacePack
  try dsimp only
  repeat' first
    | exact (rfl : (_ : Bool) = _)
    | with_reducible exact Kept.refl
    | with_reducible apply Kept.step (kept_State_emit _ _ _)
    | with_reducible apply Kept.step (kept_State_putPack _ _ _)
    | (dsimp only [Kept.mk_form]; with_reducible apply KeptMk.intro (_h0 := rfl) (h3 := rfl))

theorem kept_State_judgeTest (s : State) (p : PackId) (t : TestRun) : Kept [Fld.NRG_AVAIL_J.J, Fld.NRG_CAP_MAH, Fld.NRG_CMD_STATUS.BUSY, Fld.NRG_CMD_STATUS.DONE, Fld.NRG_CYCLES.X16, Fld.NRG_E_J.E_J, Fld.NRG_IMPEDANCE.R_FAST, Fld.NRG_IMPEDANCE.R_SLOW, Fld.NRG_LAST_LEARN, Fld.NRG_LAST_TEST, Fld.NRG_PACK_E_J.J, Fld.NRG_RESERVE_J.J, Fld.NRG_SOC.PERMILLE, Fld.NRG_STATUS.HOLDUP_EN, Fld.NRG_STATUS.LEARN_ACTIVE, Fld.NRG_STATUS.QUALIFIED_ANY, Fld.NRG_STATUS.TEST_ACTIVE, Fld.PACK_STATUS.CHARGE_PERMIT, Fld.PACK_STATUS.FAILED, Fld.PACK_STATUS.HEALTH, Fld.PACK_STATUS.LEARNING, Fld.PACK_STATUS.PACK_SERIAL, Fld.PACK_STATUS.QUALIFIED, Fld.PACK_STATUS.REPLACE, Fld.PACK_STATUS.TESTING, Fld.PACK_STATUS.TEST_RESULT, Fld.WC_STATUS.UNPROTECTED, Fld.WC_UNPROT_MS] s (State.judgeTest s p t) := by
  unfold State.judgeTest
  try dsimp only
  repeat' first
    | exact (rfl : (_ : Bool) = _)
    | with_reducible exact Kept.refl
    | with_reducible assumption
    | with_reducible refine Kept.ite ?_ ?_
    | with_reducible apply Kept.step (kept_State_endTest _ _ _)
    | with_reducible apply Kept.step (kept_State_putPack _ _ _)
    | with_reducible apply Kept.step (kept_State_replacePack _ _)
    | (dsimp only [Kept.mk_form]; with_reducible apply KeptMk.intro (_h0 := rfl) (h3 := rfl))
    | split
    | dsimp only
    | refine Kept.ite ?_ ?_

theorem kept_State_beginLearn (s : State) (p : PackId) : Kept [Fld.NRG_CAP_MAH, Fld.NRG_CYCLES.X16, Fld.NRG_IMPEDANCE.R_FAST, Fld.NRG_IMPEDANCE.R_SLOW, Fld.NRG_LAST_LEARN, Fld.NRG_LAST_TEST, Fld.NRG_STATUS.LEARN_ACTIVE, Fld.NRG_STATUS.QUALIFIED_ANY, Fld.NRG_STATUS.TEST_ACTIVE, Fld.PACK_STATUS.CHARGE_PERMIT, Fld.PACK_STATUS.FAILED, Fld.PACK_STATUS.HEALTH, Fld.PACK_STATUS.LEARNING, Fld.PACK_STATUS.PACK_SERIAL, Fld.PACK_STATUS.QUALIFIED, Fld.PACK_STATUS.REPLACE, Fld.PACK_STATUS.TESTING] s (State.beginLearn s p) := by
  unfold State.beginLearn
  try dsimp only
  repeat' first
    | exact (rfl : (_ : Bool) = _)
    | with_reducible exact Kept.refl
    | with_reducible assumption
    | with_reducible apply Kept.step (kept_State_putPack _ _ _)
    | with_reducible apply Kept.step (kept_State_showNrg _)
    | (dsimp only [Kept.mk_form]; with_reducible apply KeptMk.intro (_h0 := rfl) (h3 := rfl))
    | split
    | dsimp only

theorem kept_State_endLearn (s : State) (p : PackId) (result : Nat) : Kept [Fld.NRG_CAP_MAH, Fld.NRG_CYCLES.X16, Fld.NRG_IMPEDANCE.R_FAST, Fld.NRG_IMPEDANCE.R_SLOW, Fld.NRG_LAST_LEARN, Fld.NRG_LAST_TEST, Fld.NRG_STATUS.LEARN_ACTIVE, Fld.NRG_STATUS.QUALIFIED_ANY, Fld.NRG_STATUS.TEST_ACTIVE, Fld.PACK_STATUS.CHARGE_PERMIT, Fld.PACK_STATUS.FAILED, Fld.PACK_STATUS.HEALTH, Fld.PACK_STATUS.LEARNING, Fld.PACK_STATUS.LEARN_RESULT, Fld.PACK_STATUS.PACK_SERIAL, Fld.PACK_STATUS.QUALIFIED, Fld.PACK_STATUS.REPLACE, Fld.PACK_STATUS.TESTING] s (State.endLearn s p result) := by
  unfold State.endLearn
  try dsimp only
  repeat' first
    | exact (rfl : (_ : Bool) = _)
    | with_reducible exact Kept.refl
    | with_reducible apply Kept.setFldAt
    | with_reducible apply Kept.setFld
    | with_reducible apply Kept.step (kept_State_putPack _ _ _)
    | with_reducible apply Kept.step (kept_State_showNrg _)
    | (dsimp only [Kept.mk_form]; with_reducible apply KeptMk.intro (_h0 := rfl) (h3 := rfl))
    | dsimp only

theorem kept_State_showCal (s : State) : Kept [Fld.CAL_STATUS.FACTORY_VALID, Fld.CAL_STATUS.PREVIOUS_VALID, Fld.CAL_STATUS.USER_VALID] s (State.showCal s) := by
  unfold State.showCal
  try dsimp only
  repeat' first
    | exact (rfl : (_ : Bool) = _)
    | with_reducible exact Kept.refl
    | with_reducible assumption
    | with_reducible refine Kept.ite ?_ ?_
    | with_reducible apply Kept.setFldAt
    | with_reducible apply Kept.setFld
    | with_reducible apply Kept.setBitAt
    | with_reducible apply Kept.setBit
    | with_reducible refine Kept.foldl (fun _ _ _ => ?_) ?_
    | split
    | refine Kept.ite ?_ ?_

theorem kept_State_loadTrims (s : State) : Kept [] s (State.loadTrims s) := by
  unfold State.loadTrims
  try dsimp only
  repeat' first
    | exact (rfl : (_ : Bool) = _)
    | with_reducible exact Kept.refl
    | with_reducible assumption
    | with_reducible refine Kept.foldl (fun _ _ _ => ?_) ?_
    | (dsimp only [Kept.mk_form]; with_reducible apply KeptMk.intro (_h0 := rfl) (h3 := rfl))
    | split

theorem kept_State_writeLearned (s : State) (p : PackId) : Kept [Fld.CAL_STATUS.FACTORY_VALID, Fld.CAL_STATUS.PREVIOUS_VALID, Fld.CAL_STATUS.USER_VALID] s (State.writeLearned s p) := by
  unfold State.writeLearned
  try dsimp only
  repeat' first
    | exact (rfl : (_ : Bool) = _)
    | with_reducible exact Kept.refl
    | with_reducible refine Kept.ite ?_ ?_
    | with_reducible apply Kept.step (kept_State_putPack _ _ _)
    | with_reducible apply Kept.step (kept_State_showCal _)
    | (dsimp only [Kept.mk_form]; with_reducible apply KeptMk.intro (_h0 := rfl) (h3 := rfl))
    | split
    | refine Kept.ite ?_ ?_


/-! ### Machine/UpdOps.lean -/

theorem kept_State_putUpd (s : State) (u : Update) : Kept [] s (State.putUpd s u) := by
  unfold State.putUpd
  try dsimp only
  repeat' first
    | exact (rfl : (_ : Bool) = _)
    | with_reducible exact Kept.refl
    | with_reducible refine Kept.ite ?_ ?_
    | (dsimp only [Kept.mk_form]; with_reducible apply KeptMk.intro (_h0 := rfl) (h3 := rfl))
    | split
    | refine Kept.ite ?_ ?_

theorem kept_State_beginUpdate (s : State) (a : ArrayId) (r : Arr) (g : Geom) (previous : Bool) (stripe : Nat) (ls : List (Nat × Place × WcLine)) : Kept [] s (State.beginUpdate s a r g previous stripe ls) := by
  unfold State.beginUpdate
  try dsimp only
  repeat' first
    | exact (rfl : (_ : Bool) = _)
    | with_reducible exact Kept.refl
    | with_reducible assumption
    | with_reducible refine Kept.ite ?_ ?_
    | with_reducible apply Kept.step (kept_State_updReads _ _ _ _)
    | with_reducible refine Kept.foldl (fun _ _ _ => ?_) ?_
    | with_reducible refine Kept.foldlFst (fun _ _ _ => ?_) ?_
    | with_reducible refine Kept.foldlSnd (fun _ _ _ => ?_) ?_
    | (dsimp only [Kept.mk_form]; with_reducible apply KeptMk.intro (_h0 := rfl) (h3 := rfl))
    | split
    | dsimp only
    | refine Kept.ite ?_ ?_

theorem kept_State_startUpdate (s : State) (a : ArrayId) (stripe : Nat) (due : State → Geom → List (Nat × Place × WcLine) → Bool) : Kept [] s (State.startUpdate s a stripe due) := by
  unfold State.startUpdate
  try dsimp only
  repeat' first
    | exact (rfl : (_ : Bool) = _)
    | with_reducible exact Kept.refl
    | with_reducible assumption
    | with_reducible refine Kept.ite ?_ ?_
    | with_reducible apply Kept.step (kept_State_beginUpdate _ _ _ _ _ _ _)
    | (dsimp only [Kept.mk_form]; with_reducible apply KeptMk.intro (_h0 := rfl) (h3 := rfl))
    | split
    | refine Kept.ite ?_ ?_

theorem kept_State_computeUpdate (s : State) (r : Arr) (g : Geom) (u : Update) : Kept [Fld.PQE_SOLVE_COUNT, Fld.PQE_SRC_BYTES] s (State.computeUpdate s r g u) := by
  unfold State.computeUpdate
  try dsimp only
  repeat' first
    | exact (rfl : (_ : Bool) = _)
    | with_reducible exact Kept.refl
    | with_reducible apply Kept.incFldAt
    | with_reducible apply Kept.incFld
    | with_reducible apply Kept.step (kept_State_putUpd _ _)
    | (dsimp only [Kept.mk_form]; with_reducible apply KeptMk.intro (_h0 := rfl) (h3 := rfl))
    | dsimp only

theorem kept_State_issueData (s : State) (u : Update) : Kept [] s (State.issueData s u) := by
  unfold State.issueData
  try dsimp only
  repeat' first
    | exact (rfl : (_ : Bool) = _)
    | with_reducible exact Kept.refl
    | with_reducible assumption
    | with_reducible apply Kept.step (kept_State_updWrites _ _ _ _ _)
    | (dsimp only [Kept.mk_form]; with_reducible apply KeptMk.intro (_h0 := rfl) (h3 := rfl))
    | split
    | dsimp only

theorem kept_State_fretReady (s : State) (id : Nat) : Kept [] s (State.fretReady s id) := by
  unfold State.fretReady
  try dsimp only
  repeat' first
    | exact (rfl : (_ : Bool) = _)
    | with_reducible exact Kept.refl
    | with_reducible assumption
    | with_reducible refine Kept.ite ?_ ?_
    | with_reducible apply Kept.step (kept_State_issueData _ _)
    | with_reducible apply Kept.step (kept_State_putUpd _ _)
    | (dsimp only [Kept.mk_form]; with_reducible apply KeptMk.intro (_h0 := rfl) (h3 := rfl))
    | split
    | refine Kept.ite ?_ ?_

theorem kept_State_issueSet (s : State) (id b : Nat) : Kept [Fld.MIRROR_BYTES] s (State.issueSet s id b) := by
  unfold State.issueSet
  try dsimp only
  repeat' first
    | exact (rfl : (_ : Bool) = _)
    | with_reducible exact Kept.refl
    | with_reducible refine Kept.ite ?_ ?_
    | with_reducible apply Kept.step (kept_State_mirror _ _)
    | (dsimp only [Kept.mk_form]; with_reducible apply KeptMk.intro (_h0 := rfl) (h3 := rfl))
    | split
    | dsimp only
    | refine Kept.ite ?_ ?_

theorem kept_State_beginFret (s : State) (id : Nat) : Kept [Fld.MIRROR_BYTES] s (State.beginFret s id) := by
  unfold State.beginFret
  try dsimp only
  repeat' first
    | exact (rfl : (_ : Bool) = _)
    | with_reducible exact Kept.refl
    | with_reducible assumption
    | with_reducible apply Kept.step (kept_State_fretReady _ _)
    | with_reducible apply Kept.step (kept_State_issueSet _ _ _)
    | with_reducible apply Kept.step (kept_State_putUpd _ _)
    | with_reducible refine Kept.foldl (fun _ _ _ => ?_) ?_
    | (dsimp only [Kept.mk_form]; with_reducible apply KeptMk.intro (_h0 := rfl) (h3 := rfl))
    | split

theorem kept_State_putUnit (s : State) (r : Arr) (g : Geom) (stripe unit row : Nat) (full : Blob) (gen : Nat) (lost empty target : Bool) : Kept [] s (State.putUnit s r g stripe unit row full gen lost empty target) := by
  unfold State.putUnit
  try dsimp only
  repeat' first
    | exact (rfl : (_ : Bool) = _)
    | with_reducible exact Kept.refl
    | with_reducible assumption
    | with_reducible refine Kept.ite ?_ ?_
    | with_reducible apply Kept.step (kept_State_writeSec _ _ _ _ _ _ _ _ _ _ _)
    | (dsimp only [Kept.mk_form]; with_reducible apply KeptMk.intro (_h0 := rfl) (h3 := rfl))
    | split
    | refine Kept.ite ?_ ?_

theorem kept_State_clearLost (s : State) (a : ArrayId) (r : Arr) (g : Geom) (stripe row unit : Nat) (new : CSec) : Kept [Fld.ARR_STATE.LOST_OVERFLOW, Fld.RBE_LOST_COUNT.ENTRIES, Fld.RBE_LOST_COUNT.OVERFLOW] s (State.clearLost s a r g stripe row unit new) := by
  unfold State.clearLost
  try dsimp only
  repeat' first
    | exact (rfl : (_ : Bool) = _)
    | with_reducible exact Kept.refl
    | with_reducible refine Kept.ite ?_ ?_
    | with_reducible apply Kept.step (kept_State_lostCleared _ _ _ _ _ _)
    | split
    | refine Kept.ite ?_ ?_

theorem kept_State_writeNew6 (s : State) (r : Arr) (g : Geom) (u : Update) (x : UpdSector) : Kept [Fld.ARR_STATE.LOST_OVERFLOW, Fld.RBE_LOST_COUNT.ENTRIES, Fld.RBE_LOST_COUNT.OVERFLOW] s (State.writeNew6 s r g u x) := by
  unfold State.writeNew6
  try dsimp only
  repeat' first
    | exact (rfl : (_ : Bool) = _)
    | with_reducible exact Kept.refl
    | with_reducible apply Kept.step (kept_State_clearLost _ _ _ _ _ _ _ _)
    | with_reducible apply Kept.step (kept_State_putUnit _ _ _ _ _ _ _ _ _ _ _)

theorem kept_State_writeRow (s : State) (r : Arr) (g : Geom) (u : Update) (row : Nat) : Kept [Fld.ARR_STATE.LOST_OVERFLOW, Fld.RBE_LOST_COUNT.ENTRIES, Fld.RBE_LOST_COUNT.OVERFLOW] s (State.writeRow s r g u row) := by
  unfold State.writeRow
  try dsimp only
  repeat' first
    | exact (rfl : (_ : Bool) = _)
    | with_reducible exact Kept.refl
    | with_reducible assumption
    | with_reducible apply Kept.step (kept_State_writeNew6 _ _ _ _ _)
    | with_reducible refine Kept.foldl (fun _ _ _ => ?_) ?_

theorem kept_State_dropCarried (s : State) (x : UpdSector) : Kept [Fld.HFE_DWE_STATUS.ENTRIES, Fld.HFE_DWE_STATUS.OVERFLOW, Fld.MIRROR_BYTES] s (State.dropCarried s x) := by
  unfold State.dropCarried
  try dsimp only
  repeat' first
    | exact (rfl : (_ : Bool) = _)
    | with_reducible exact Kept.refl
    | with_reducible assumption
    | with_reducible apply Kept.step (kept_State_deferError _ _ _ _ _)
    | with_reducible apply Kept.step (kept_State_withLines _ _)
    | (dsimp only [Kept.mk_form]; with_reducible apply KeptMk.intro (_h0 := rfl) (h3 := rfl))
    | split
    | dsimp only

theorem kept_State_writeLostRow (s : State) (r : Arr) (g : Geom) (u : Update) (row : Nat) : Kept [Fld.ARR_STATE.LOST_OVERFLOW, Fld.HFE_DWE_STATUS.ENTRIES, Fld.HFE_DWE_STATUS.OVERFLOW, Fld.MIRROR_BYTES, Fld.RBE_LOST_COUNT.ENTRIES, Fld.RBE_LOST_COUNT.OVERFLOW] s (State.writeLostRow s r g u row) := by
  unfold State.writeLostRow
  try dsimp only
  repeat' first
    | exact (rfl : (_ : Bool) = _)
    | with_reducible exact Kept.refl
    | with_reducible assumption
    | with_reducible refine Kept.ite ?_ ?_
    | with_reducible apply Kept.step (kept_State_clearLost _ _ _ _ _ _ _ _)
    | with_reducible apply Kept.step (kept_State_dropCarried _ _)
    | with_reducible apply Kept.step (kept_State_listLost _ _)
    | with_reducible apply Kept.step (kept_State_mirror _ _)
    | with_reducible apply Kept.step (kept_State_putUnit _ _ _ _ _ _ _ _ _ _ _)
    | with_reducible apply Kept.step (kept_State_putUpd _ _)
    | with_reducible apply Kept.step (kept_State_reportLost _ _ _)
    | with_reducible refine Kept.foldl (fun _ _ _ => ?_) ?_
    | (dsimp only [Kept.mk_form]; with_reducible apply KeptMk.intro (_h0 := rfl) (h3 := rfl))
    | split
    | dsimp only
    | refine Kept.ite ?_ ?_

theorem kept_State_writeData6 (s : State) (r : Arr) (g : Geom) (u : Update) : Kept [Fld.ARR_STATE.LOST_OVERFLOW, Fld.HFE_DWE_STATUS.ENTRIES, Fld.HFE_DWE_STATUS.OVERFLOW, Fld.MIRROR_BYTES, Fld.RBE_LOST_COUNT.ENTRIES, Fld.RBE_LOST_COUNT.OVERFLOW] s (State.writeData6 s r g u) := by
  unfold State.writeData6
  try dsimp only
  repeat' first
    | exact (rfl : (_ : Bool) = _)
    | with_reducible exact Kept.refl
    | with_reducible assumption
    | with_reducible refine Kept.ite ?_ ?_
    | with_reducible apply Kept.step (kept_State_writeLostRow _ _ _ _ _)
    | with_reducible apply Kept.step (kept_State_writeRow _ _ _ _ _)
    | with_reducible refine Kept.foldl (fun _ _ _ => ?_) ?_
    | split
    | refine Kept.ite ?_ ?_

theorem kept_State_issueParity (s : State) (u : Update) : Kept [] s (State.issueParity s u) := by
  unfold State.issueParity
  try dsimp only
  repeat' first
    | exact (rfl : (_ : Bool) = _)
    | with_reducible exact Kept.refl
    | with_reducible assumption
    | with_reducible apply Kept.step (kept_State_updWrites _ _ _ _ _)
    | (dsimp only [Kept.mk_form]; with_reducible apply KeptMk.intro (_h0 := rfl) (h3 := rfl))
    | split
    | dsimp only

theorem kept_State_writePq (s : State) (r : Arr) (g : Geom) (u : Update) (x : RowUnit) : Kept [] s (State.writePq s r g u x) := by
  unfold State.writePq
  try dsimp only
  repeat' first
    | exact (rfl : (_ : Bool) = _)
    | with_reducible exact Kept.refl
    | with_reducible apply Kept.step (kept_State_putUnit _ _ _ _ _ _ _ _ _ _ _)

theorem kept_State_writeParity7 (s : State) (r : Arr) (g : Geom) (u : Update) : Kept [] s (State.writeParity7 s r g u) := by
  unfold State.writeParity7
  try dsimp only
  repeat' first
    | exact (rfl : (_ : Bool) = _)
    | with_reducible exact Kept.refl
    | with_reducible assumption
    | with_reducible apply Kept.step (kept_State_writePq _ _ _ _ _)
    | with_reducible refine Kept.foldl (fun _ _ _ => ?_) ?_

theorem kept_State_dataWritten (s : State) (port : PortId) (id : Nat) (c : MCmd) : Kept [] s (State.dataWritten s port id c) := by
  unfold State.dataWritten
  try dsimp only
  repeat' first
    | exact (rfl : (_ : Bool) = _)
    | with_reducible exact Kept.refl
    | with_reducible assumption
    | with_reducible refine Kept.ite ?_ ?_
    | with_reducible apply Kept.step (kept_State_putMedia _ _ _)
    | with_reducible refine Kept.foldl (fun _ _ _ => ?_) ?_
    | (dsimp only [Kept.mk_form]; with_reducible apply KeptMk.intro (_h0 := rfl) (h3 := rfl))
    | split
    | dsimp only
    | refine Kept.ite ?_ ?_

theorem kept_State_tagsWritten (s : State) (id : Nat) (c : MCmd) : Kept [Fld.ARR_STATE.LOST_OVERFLOW, Fld.RBE_LOST_COUNT.ENTRIES, Fld.RBE_LOST_COUNT.OVERFLOW] s (State.tagsWritten s id c) := by
  unfold State.tagsWritten
  try dsimp only
  repeat' first
    | exact (rfl : (_ : Bool) = _)
    | with_reducible exact Kept.refl
    | with_reducible assumption
    | with_reducible refine Kept.ite ?_ ?_
    | with_reducible apply Kept.step (kept_State_writeNew6 _ _ _ _ _)
    | with_reducible apply Kept.step (kept_State_writePq _ _ _ _ _)
    | with_reducible refine Kept.foldl (fun _ _ _ => ?_) ?_
    | (dsimp only [Kept.mk_form]; with_reducible apply KeptMk.intro (_h0 := rfl) (h3 := rfl))
    | split
    | dsimp only
    | refine Kept.ite ?_ ?_

theorem kept_State_finishUpdate (s : State) (u : Update) : Kept [Fld.HFE_COLLECT_MAX.MAX_DEPTH, Fld.MIRROR_BYTES, Fld.WC_STATUS.OVER_LIMIT, Fld.WC_STATUS.UNPROTECTED, Fld.WC_UNPROT_MS, Fld.WC_UPDATE_COUNT] s (State.finishUpdate s u) := by
  unfold State.finishUpdate
  try dsimp only
  repeat' first
    | exact (rfl : (_ : Bool) = _)
    | with_reducible exact Kept.refl
    | with_reducible refine Kept.ite ?_ ?_
    | with_reducible apply Kept.incFldAt
    | with_reducible apply Kept.incFld
    | with_reducible apply Kept.step (kept_State_destageWake _)
    | with_reducible apply Kept.step (kept_State_mirror _ _)
    | with_reducible apply Kept.step (kept_State_noteLimit _)
    | (dsimp only [Kept.mk_form]; with_reducible apply KeptMk.intro (_h0 := rfl) (h3 := rfl))
    | split
    | dsimp only
    | refine Kept.ite ?_ ?_

theorem kept_State_placeEmpty (s : State) (c : HostCmd) : Kept [Fld.MIRROR_BYTES, Fld.WC_STATUS.OVER_LIMIT, Fld.WC_STATUS.UNPROTECTED, Fld.WC_UNPROT_MS] s (State.placeEmpty s c) := by
  unfold State.placeEmpty
  try dsimp only
  repeat' first
    | exact (rfl : (_ : Bool) = _)
    | with_reducible exact Kept.refl
    | with_reducible assumption
    | with_reducible apply Kept.step (kept_State_noteLimit _)
    | with_reducible apply Kept.step (kept_State_place _ _ _ _ _ _ _)
    | with_reducible apply Kept.step (kept_State_putCmd _ _)
    | with_reducible refine Kept.foldl (fun _ _ _ => ?_) ?_
    | (dsimp only [Kept.mk_form]; with_reducible apply KeptMk.intro (_h0 := rfl) (h3 := rfl))

theorem kept_State_goPlace (s : State) (tag : Nat) : Kept [Fld.CIP_STATUS.NONCE_WARN, Fld.CIP_STATUS.TRNG_READY, Fld.CIP_TRNG_STATUS.POOL, Fld.CIP_TRNG_STATUS.READY, Fld.HFE_COLLECT_MAX.MAX_DEPTH, Fld.MIRROR_BYTES, Fld.WC_STATUS.OVER_LIMIT, Fld.WC_STATUS.UNPROTECTED, Fld.WC_UNPROT_MS] s (State.goPlace s tag) := by
  unfold State.goPlace
  try dsimp only
  repeat' first
    | exact (rfl : (_ : Bool) = _)
    | with_reducible exact Kept.refl
    | with_reducible assumption
    | with_reducible refine Kept.ite ?_ ?_
    | with_reducible apply Kept.step (kept_State_encrypt _ _)
    | with_reducible apply Kept.step (kept_State_placeEmpty _ _)
    | (dsimp only [Kept.mk_form]; with_reducible apply KeptMk.intro (_h0 := rfl) (h3 := rfl))
    | split
    | refine Kept.ite ?_ ?_

theorem kept_State_reserve (s : State) (c : HostCmd) : Kept [Fld.CIP_STATUS.NONCE_WARN, Fld.CIP_STATUS.TRNG_READY, Fld.CIP_TRNG_STATUS.POOL, Fld.CIP_TRNG_STATUS.READY, Fld.HFE_COLLECT_MAX.MAX_DEPTH, Fld.MIRROR_BYTES, Fld.WC_STATUS.OVER_LIMIT, Fld.WC_STATUS.UNPROTECTED, Fld.WC_UNPROT_MS] s (State.reserve s c) := by
  unfold State.reserve
  try dsimp only
  repeat' first
    | exact (rfl : (_ : Bool) = _)
    | with_reducible exact Kept.refl
    | with_reducible assumption
    | with_reducible refine Kept.ite ?_ ?_
    | with_reducible apply Kept.step (kept_State_goPlace _ _)
    | with_reducible apply Kept.step (kept_State_putCmd _ _)
    | (dsimp only [Kept.mk_form]; with_reducible apply KeptMk.intro (_h0 := rfl) (h3 := rfl))
    | split
    | refine Kept.ite ?_ ?_

theorem kept_State_admitList (s : State) (l : List HostCmd) (fits : State → HostCmd → Bool) : Kept [Fld.CIP_STATUS.NONCE_WARN, Fld.CIP_STATUS.TRNG_READY, Fld.CIP_TRNG_STATUS.POOL, Fld.CIP_TRNG_STATUS.READY, Fld.HFE_COLLECT_MAX.MAX_DEPTH, Fld.MIRROR_BYTES, Fld.WC_STATUS.OVER_LIMIT, Fld.WC_STATUS.UNPROTECTED, Fld.WC_UNPROT_MS] s (State.admitList s l fits) := by
  fun_induction State.admitList s l fits
  all_goals try dsimp only
  all_goals repeat' first
    | exact (rfl : (_ : Bool) = _)
    | with_reducible exact Kept.refl
    | with_reducible assumption
    | with_reducible refine Kept.ite ?_ ?_
    | with_reducible apply Kept.step (kept_State_goPlace _ _)
    | with_reducible apply Kept.step (kept_State_putCmd _ _)
    | (dsimp only [Kept.mk_form]; with_reducible apply KeptMk.intro (_h0 := rfl) (h3 := rfl))
    | split
    | refine Kept.ite ?_ ?_
    | refine Kept.step (by assumption) rfl ?_

theorem kept_State_admitAll (s : State) : Kept [Fld.CIP_STATUS.NONCE_WARN, Fld.CIP_STATUS.TRNG_READY, Fld.CIP_TRNG_STATUS.POOL, Fld.CIP_TRNG_STATUS.READY, Fld.HFE_COLLECT_MAX.MAX_DEPTH, Fld.MIRROR_BYTES, Fld.WC_STATUS.OVER_LIMIT, Fld.WC_STATUS.UNPROTECTED, Fld.WC_UNPROT_MS] s (State.admitAll s) := by
  unfold State.admitAll
  try dsimp only
  repeat' first
    | exact (rfl : (_ : Bool) = _)
    | with_reducible exact Kept.refl
    | with_reducible apply Kept.step (kept_State_admitList _ _ _)

theorem kept_State_mirrorWake (s : State) : Kept [Fld.HFE_COLLECT_MAX.MAX_DEPTH, Fld.MIRROR_BYTES] s (State.mirrorWake s) := by
  unfold State.mirrorWake
  try dsimp only
  repeat' first
    | exact (rfl : (_ : Bool) = _)
    | with_reducible exact Kept.refl
    | with_reducible assumption
    | with_reducible refine Kept.ite ?_ ?_
    | with_reducible apply Kept.step (kept_State_beginFret _ _)
    | with_reducible apply Kept.step (kept_State_fretReady _ _)
    | with_reducible apply Kept.step (kept_State_putCmd _ _)
    | with_reducible apply Kept.step (kept_State_writeReady _ _)
    | with_reducible refine Kept.foldl (fun _ _ _ => ?_) ?_
    | (dsimp only [Kept.mk_form]; with_reducible apply KeptMk.intro (_h0 := rfl) (h3 := rfl))
    | split
    | refine Kept.ite ?_ ?_

theorem kept_State_nextEpoch (s : State) (n : Nat) : Kept [Fld.PAIR_EPOCH] s (State.nextEpoch s n) := by
  unfold State.nextEpoch
  try dsimp only
  repeat' first
    | exact (rfl : (_ : Bool) = _)
    | with_reducible exact Kept.refl
    | with_reducible apply Kept.satFldAt
    | with_reducible apply Kept.satFld

theorem kept_State_loseMirror (s : State) : Kept [Fld.HFE_COLLECT_MAX.MAX_DEPTH, Fld.MIRROR_BYTES, Fld.PAIR_EPOCH, Fld.PAIR_STATUS.MIRROR_ON, Fld.WC_LIMIT.MIB, Fld.WC_LIMIT_CFG.MIB, Fld.WC_LIMIT_ENERGY.MIB, Fld.WC_LIMIT_VAULT.MIB, Fld.WC_STATUS.AREA_READY, Fld.WC_STATUS.MIRROR_LOST, Fld.WC_STATUS.MIRROR_ON, Fld.WC_STATUS.OVER_LIMIT, Fld.WC_STATUS.UNPROTECTED, Fld.WC_STATUS.WRITE_THROUGH, Fld.WC_UNPROT_MS] s (State.loseMirror s) := by
  unfold State.loseMirror
  try dsimp only
  repeat' first
    | exact (rfl : (_ : Bool) = _)
    | with_reducible exact Kept.refl
    | with_reducible refine Kept.ite ?_ ?_
    | with_reducible apply Kept.setBitAt
    | with_reducible apply Kept.setBit
    | with_reducible apply Kept.step (kept_State_emit _ _ _)
    | with_reducible apply Kept.step (kept_State_mirrorWake _)
    | with_reducible apply Kept.step (kept_State_nextEpoch _ _)
    | with_reducible apply Kept.step (kept_State_recomputeLimit _)
    | (dsimp only [Kept.mk_form]; with_reducible apply KeptMk.intro (_h0 := rfl) (h3 := rfl))
    | split
    | refine Kept.ite ?_ ?_

theorem kept_State_issueClear (s : State) (b : Nat) : Kept [Fld.MIRROR_BYTES] s (State.issueClear s b) := by
  unfold State.issueClear
  try dsimp only
  repeat' first
    | exact (rfl : (_ : Bool) = _)
    | with_reducible exact Kept.refl
    | with_reducible apply Kept.step (kept_State_mirror _ _)
    | (dsimp only [Kept.mk_form]; with_reducible apply KeptMk.intro (_h0 := rfl) (h3 := rfl))
    | dsimp only

theorem kept_State_fretCut (s : State) : Kept [] s (State.fretCut s) := by
  unfold State.fretCut
  try dsimp only
  repeat' first
    | exact (rfl : (_ : Bool) = _)
    | with_reducible exact Kept.refl
    | with_reducible assumption
    | with_reducible refine Kept.ite ?_ ?_
    | with_reducible apply Kept.step (kept_State_used _)
    | with_reducible refine Kept.foldl (fun _ _ _ => ?_) ?_
    | (dsimp only [Kept.mk_form]; with_reducible apply KeptMk.intro (_h0 := rfl) (h3 := rfl))
    | split
    | refine Kept.ite ?_ ?_

theorem kept_State_restoreSector (s : State) (d : DumpSector) : Kept [] s (State.restoreSector s d) := by
  unfold State.restoreSector
  try dsimp only
  repeat' first
    | exact (rfl : (_ : Bool) = _)
    | with_reducible exact Kept.refl
    | with_reducible assumption
    | with_reducible refine Kept.ite ?_ ?_
    | (dsimp only [Kept.mk_form]; with_reducible apply KeptMk.intro (_h0 := rfl) (h3 := rfl))
    | split
    | refine Kept.ite ?_ ?_


/-! ### Machine/ImgOps.lean -/

theorem kept_State_setCopy (s : State) (n : Nat) (c : CopyRead) : Kept [] s (State.setCopy s n c) := by
  unfold State.setCopy
  try dsimp only
  repeat' first
    | exact (rfl : (_ : Bool) = _)
    | with_reducible exact Kept.refl
    | with_reducible refine Kept.ite ?_ ?_
    | (dsimp only [Kept.mk_form]; with_reducible apply KeptMk.intro (_h0 := rfl) (h3 := rfl))
    | split
    | refine Kept.ite ?_ ?_

theorem kept_State_showCopies (s : State) : Kept [Fld.IMG_COPY.MATCHES_RUNNING, Fld.IMG_COPY.REASON, Fld.IMG_COPY.VALID] s (State.showCopies s) := by
  unfold State.showCopies
  try dsimp only
  repeat' first
    | exact (rfl : (_ : Bool) = _)
    | with_reducible exact Kept.refl
    | with_reducible assumption
    | with_reducible apply Kept.setFldAt
    | with_reducible apply Kept.setFld
    | with_reducible apply Kept.setBitAt
    | with_reducible apply Kept.setBit
    | with_reducible refine Kept.foldl (fun _ _ _ => ?_) ?_
    | (dsimp only [Kept.mk_form]; with_reducible apply KeptMk.intro (_h0 := rfl) (h3 := rfl))
    | split

theorem kept_State_showRewrite (s : State) : Kept [Fld.IMG_BOOT.REWRITE_PENDING] s (State.showRewrite s) := by
  unfold State.showRewrite
  try dsimp only
  repeat' first
    | exact (rfl : (_ : Bool) = _)
    | with_reducible exact Kept.refl
    | with_reducible apply Kept.setBitAt
    | with_reducible apply Kept.setBit

theorem kept_State_showRunning (s : State) : Kept [Fld.IMG_RUN_DIGEST, Fld.IMG_RUN_SEQ] s (State.showRunning s) := by
  unfold State.showRunning
  try dsimp only
  repeat' first
    | exact (rfl : (_ : Bool) = _)
    | with_reducible exact Kept.refl
    | with_reducible apply Kept.setFldAt
    | with_reducible apply Kept.setFld

theorem kept_State_newMember (s : State) (p : PortId) (st : MemState) : Kept [] s (State.newMember s p st).2 := by
  unfold State.newMember
  try dsimp only
  repeat' first
    | exact (rfl : (_ : Bool) = _)
    | with_reducible exact Kept.refl
    | with_reducible apply Kept.step (kept_State_used _)
    | dsimp only

theorem kept_State_newMembers (s : State) (st : MemState) (y0 : List PortId) : Kept [] s (State.newMembers s st y0).2 := by
  induction y0 generalizing s with
  | nil => exact Kept.refl
  | cons p r ih =>
    simp only [State.newMembers]
    exact Kept.step (ih _) (by decide) (kept_State_newMember _ _ _)

theorem kept_State_createArr (s : State) (e : ArrEntry) (n : NewArray) (fresh : Bool) : Kept [] s (State.createArr s e n fresh) := by
  unfold State.createArr
  try dsimp only
  repeat' first
    | exact (rfl : (_ : Bool) = _)
    | with_reducible exact Kept.refl
    | with_reducible assumption
    | with_reducible refine Kept.ite ?_ ?_
    | with_reducible apply Kept.step (kept_State_newMembers _ _ _)
    | with_reducible apply Kept.step (kept_State_putArr _ _ _)
    | with_reducible apply Kept.step (kept_State_putMedia _ _ _)
    | with_reducible apply Kept.step (kept_State_rewriteLabels _ _)
    | with_reducible refine Kept.foldl (fun _ _ _ => ?_) ?_
    | with_reducible refine Kept.foldlFst (fun _ _ _ => ?_) ?_
    | with_reducible refine Kept.foldlSnd (fun _ _ _ => ?_) ?_
    | (dsimp only [Kept.mk_form]; with_reducible apply KeptMk.intro (_h0 := rfl) (h3 := rfl))
    | split
    | dsimp only
    | refine Kept.ite ?_ ?_
    | refine Kept.step (Kept.ofSnd (kept_State_newMembers _ _ _) (by with_reducible assumption)) ?_ ?_

theorem kept_State_startReshape (s : State) (e : ArrEntry) (r : Arr) : Kept [] s (State.startReshape s e r) := by
  unfold State.startReshape
  try dsimp only
  repeat' first
    | exact (rfl : (_ : Bool) = _)
    | with_reducible exact Kept.refl
    | with_reducible assumption
    | with_reducible refine Kept.ite ?_ ?_
    | with_reducible apply Kept.step (kept_State_newMember _ _ _)
    | with_reducible apply Kept.step (kept_State_putArr _ _ _)
    | with_reducible apply Kept.step (kept_State_putMedia _ _ _)
    | with_reducible apply Kept.step (kept_State_rewriteLabels _ _)
    | with_reducible refine Kept.foldl (fun _ _ _ => ?_) ?_
    | with_reducible refine Kept.foldlFst (fun _ _ _ => ?_) ?_
    | with_reducible refine Kept.foldlSnd (fun _ _ _ => ?_) ?_
    | (dsimp only [Kept.mk_form]; with_reducible apply KeptMk.intro (_h0 := rfl) (h3 := rfl))
    | split
    | dsimp only
    | refine Kept.ite ?_ ?_
    | refine Kept.step (Kept.ofSnd (kept_State_newMember _ _ _) (by with_reducible assumption)) ?_ ?_

theorem kept_State_applyEntry (s : State) (e : ArrEntry) (news : List NewArray) (fresh : Bool) : Kept [] s (State.applyEntry s e news fresh) := by
  unfold State.applyEntry
  try dsimp only
  repeat' first
    | exact (rfl : (_ : Bool) = _)
    | with_reducible exact Kept.refl
    | with_reducible assumption
    | with_reducible refine Kept.ite ?_ ?_
    | with_reducible apply Kept.step (kept_State_createArr _ _ _ _)
    | with_reducible apply Kept.step (kept_State_putArr _ _ _)
    | with_reducible apply Kept.step (kept_State_startReshape _ _ _)
    | (dsimp only [Kept.mk_form]; with_reducible apply KeptMk.intro (_h0 := rfl) (h3 := rfl))
    | split
    | dsimp only
    | refine Kept.ite ?_ ?_

theorem kept_State_relabel (s : State) (old : Option Image) (i : Image) : Kept [] s (State.relabel s old i) := by
  unfold State.relabel
  try dsimp only
  repeat' first
    | exact (rfl : (_ : Bool) = _)
    | with_reducible exact Kept.refl
    | with_reducible assumption
    | with_reducible refine Kept.ite ?_ ?_
    | with_reducible apply Kept.step (kept_State_rewriteLabels _ _)
    | with_reducible refine Kept.foldl (fun _ _ _ => ?_) ?_
    | split
    | refine Kept.ite ?_ ?_

theorem kept_State_applyImage (s : State) (i : Image) (news : List NewArray) (fresh : Bool) : Kept [Fld.IMG_COPY.MATCHES_RUNNING, Fld.IMG_COPY.REASON, Fld.IMG_COPY.VALID, Fld.IMG_RUN_DIGEST, Fld.IMG_RUN_SEQ] s (State.applyImage s i news fresh) := by
  unfold State.applyImage
  try dsimp only
  repeat' first
    | exact (rfl : (_ : Bool) = _)
    | with_reducible exact Kept.refl
    | with_reducible assumption
    | with_reducible apply Kept.step (kept_State_applyEntry _ _ _ _)
    | with_reducible apply Kept.step (kept_State_relabel _ _ _)
    | with_reducible apply Kept.step (kept_State_showCopies _)
    | with_reducible apply Kept.step (kept_State_showRunning _)
    | with_reducible refine Kept.foldl (fun _ _ _ => ?_) ?_
    | with_reducible refine Kept.foldlFst (fun _ _ _ => ?_) ?_
    | (dsimp only [Kept.mk_form]; with_reducible apply KeptMk.intro (_h0 := rfl) (h3 := rfl))
    | dsimp only

theorem kept_State_applyLive (s : State) (i : Image) : Kept [Fld.CAPACITY, Fld.DRIVE_SERIAL, Fld.IMG_COPY.MATCHES_RUNNING, Fld.IMG_COPY.REASON, Fld.IMG_COPY.VALID, Fld.IMG_RUN_DIGEST, Fld.IMG_RUN_SEQ, Fld.LINK_STATUS.MODE, Fld.LINK_STATUS.PWREN, Fld.PORT_STATE.ARRAY, Fld.PORT_STATE.MEMBER_INDEX, Fld.PORT_STATE.STATE, Fld.WC_LIMIT.MIB, Fld.WC_LIMIT_CFG.MIB, Fld.WC_LIMIT_ENERGY.MIB, Fld.WC_LIMIT_VAULT.MIB, Fld.WC_STATUS.AREA_READY, Fld.WC_STATUS.OVER_LIMIT, Fld.WC_STATUS.UNPROTECTED, Fld.WC_STATUS.WRITE_THROUGH, Fld.WC_UNPROT_MS] s (State.applyLive s i) := by
  unfold State.applyLive
  try dsimp only
  repeat' first
    | exact (rfl : (_ : Bool) = _)
    | with_reducible exact Kept.refl
    | with_reducible assumption
    | with_reducible refine Kept.ite ?_ ?_
    | with_reducible apply Kept.step (kept_State_applyImage _ _ _ _)
    | with_reducible apply Kept.step (kept_State_recomputeLimit _)
    | with_reducible apply Kept.step (kept_State_spinupPort _ _)
    | with_reducible refine Kept.foldl (fun _ _ _ => ?_) ?_
    | (dsimp only [Kept.mk_form]; with_reducible apply KeptMk.intro (_h0 := rfl) (h3 := rfl))
    | split
    | dsimp only
    | refine Kept.ite ?_ ?_


/-! ### Machine/FanOps.lean -/

theorem kept_State_showClock (s : State) : Kept [Fld.THERM_STATUS.CLOCK_STEPS] s (State.showClock s) := by
  unfold State.showClock
  try dsimp only
  repeat' first
    | exact (rfl : (_ : Bool) = _)
    | with_reducible exact Kept.refl
    | with_reducible apply Kept.setFldAt
    | with_reducible apply Kept.setFld

theorem kept_State_putFan (s : State) (n : FanId) (x : Fan) : Kept [] s (State.putFan s n x) := by
  unfold State.putFan
  try dsimp only
  repeat' first
    | exact (rfl : (_ : Bool) = _)
    | with_reducible exact Kept.refl
    | (dsimp only [Kept.mk_form]; with_reducible apply KeptMk.intro (_h0 := rfl) (h3 := rfl))

theorem kept_State_showFans (s : State) : Kept [Fld.FAN_GLOBAL.FAULTED, Fld.FAN_GLOBAL.RUNNING, Fld.FAN_RUN_S] s (State.showFans s) := by
  unfold State.showFans
  try dsimp only
  repeat' first
    | exact (rfl : (_ : Bool) = _)
    | with_reducible exact Kept.refl
    | with_reducible assumption
    | with_reducible refine Kept.ite ?_ ?_
    | with_reducible apply Kept.setFldAt
    | with_reducible apply Kept.setFld
    | with_reducible apply Kept.incFldAt
    | with_reducible apply Kept.incFld
    | with_reducible apply Kept.step (kept_State_putFan _ _ _)
    | with_reducible refine Kept.foldl (fun _ _ _ => ?_) ?_
    | (dsimp only [Kept.mk_form]; with_reducible apply KeptMk.intro (_h0 := rfl) (h3 := rfl))
    | split
    | refine Kept.ite ?_ ?_

theorem kept_State_setFanState (s : State) (n : FanId) (v : Nat) : Kept [Fld.FAN_STATUS.STATE] s (State.setFanState s n v) := by
  unfold State.setFanState
  try dsimp only
  repeat' first
    | exact (rfl : (_ : Bool) = _)
    | with_reducible exact Kept.refl
    | with_reducible apply Kept.setFldAt
    | with_reducible apply Kept.setFld

theorem kept_State_pwmPeriod (s : State) (n : FanId) (p : PwmPeriod) : Kept [Fld.FAN_SHIFT_COUNT, Fld.FAN_SKIP_COUNT, Fld.FAN_STATUS.SHIFTING] s (State.pwmPeriod s n p) := by
  unfold State.pwmPeriod
  try dsimp only
  repeat' first
    | exact (rfl : (_ : Bool) = _)
    | with_reducible exact Kept.refl
    | with_reducible refine Kept.ite ?_ ?_
    | with_reducible apply Kept.setBitAt
    | with_reducible apply Kept.setBit
    | with_reducible apply Kept.satFldAt
    | with_reducible apply Kept.satFld
    | with_reducible apply Kept.step (kept_State_putFan _ _ _)
    | (dsimp only [Kept.mk_form]; with_reducible apply KeptMk.intro (_h0 := rfl) (h3 := rfl))
    | split
    | dsimp only
    | refine Kept.ite ?_ ?_

theorem kept_State_pwmRun (s : State) (n : FanId) (run : List PwmPeriod) : Kept [Fld.FAN_SHIFT_COUNT, Fld.FAN_SKIP_COUNT, Fld.FAN_STATUS.SHIFTING] s (State.pwmRun s n run) := by
  unfold State.pwmRun
  try dsimp only
  repeat' first
    | exact (rfl : (_ : Bool) = _)
    | with_reducible exact Kept.refl
    | with_reducible assumption
    | with_reducible refine Kept.ite ?_ ?_
    | with_reducible apply Kept.step (kept_State_pwmPeriod _ _ _)
    | with_reducible refine Kept.foldl (fun _ _ _ => ?_) ?_
    | split
    | refine Kept.ite ?_ ?_

theorem kept_State_writeFanBlock (s : State) (n : FanId) (est : List Nat) : Kept [Fld.CAL_STATUS.FACTORY_VALID, Fld.CAL_STATUS.PREVIOUS_VALID, Fld.CAL_STATUS.USER_VALID] s (State.writeFanBlock s n est) := by
  unfold State.writeFanBlock
  try dsimp only
  repeat' first
    | exact (rfl : (_ : Bool) = _)
    | with_reducible exact Kept.refl
    | with_reducible apply Kept.step (kept_State_putFan _ _ _)
    | with_reducible apply Kept.step (kept_State_showCal _)
    | (dsimp only [Kept.mk_form]; with_reducible apply KeptMk.intro (_h0 := rfl) (h3 := rfl))

theorem kept_State_fanListen (s : State) (n : FanId) (attempt : Nat) : Kept [Fld.CAL_STATUS.FACTORY_VALID, Fld.CAL_STATUS.PREVIOUS_VALID, Fld.CAL_STATUS.USER_VALID, Fld.FAN_STATUS.ATTEMPT, Fld.FAN_STATUS.FAULT_CAUSE, Fld.FAN_STATUS.SHIFTING, Fld.FAN_STATUS.STATE] s (State.fanListen s n attempt) := by
  unfold State.fanListen
  try dsimp only
  repeat' first
    | exact (rfl : (_ : Bool) = _)
    | with_reducible exact Kept.refl
    | with_reducible assumption
    | with_reducible refine Kept.ite ?_ ?_
    | with_reducible apply Kept.setFldAt
    | with_reducible apply Kept.setFld
    | with_reducible apply Kept.setBitAt
    | with_reducible apply Kept.setBit
    | with_reducible apply Kept.step (kept_State_emit _ _ _)
    | with_reducible apply Kept.step (kept_State_putFan _ _ _)
    | with_reducible apply Kept.step (kept_State_setFanState _ _ _)
    | with_reducible apply Kept.step (kept_State_writeFanBlock _ _ _)
    | (dsimp only [Kept.mk_form]; with_reducible apply KeptMk.intro (_h0 := rfl) (h3 := rfl))
    | split
    | refine Kept.ite ?_ ?_

theorem kept_State_refineFan (s : State) (n : FanId) (est : List Nat) : Kept [Fld.CAL_STATUS.FACTORY_VALID, Fld.CAL_STATUS.PREVIOUS_VALID, Fld.CAL_STATUS.USER_VALID] s (State.refineFan s n est) := by
  unfold State.refineFan
  try dsimp only
  repeat' first
    | exact (rfl : (_ : Bool) = _)
    | with_reducible exact Kept.refl
    | with_reducible assumption
    | with_reducible refine Kept.ite ?_ ?_
    | with_reducible apply Kept.step (kept_State_putFan _ _ _)
    | with_reducible apply Kept.step (kept_State_writeFanBlock _ _ _)
    | (dsimp only [Kept.mk_form]; with_reducible apply KeptMk.intro (_h0 := rfl) (h3 := rfl))
    | split
    | dsimp only
    | refine Kept.ite ?_ ?_

theorem kept_State_updateFans (s : State) : Kept [Fld.CAL_STATUS.FACTORY_VALID, Fld.CAL_STATUS.PREVIOUS_VALID, Fld.CAL_STATUS.USER_VALID, Fld.FAN_GLOBAL.FAULTED, Fld.FAN_GLOBAL.RUNNING, Fld.FAN_RUN_S, Fld.FAN_STATUS.ATTEMPT, Fld.FAN_STATUS.FAULT_CAUSE, Fld.FAN_STATUS.SHIFTING, Fld.FAN_STATUS.STATE, Fld.FAN_TARGET.RPM] s (State.updateFans s) := by
  unfold State.updateFans
  try dsimp only
  repeat' first
    | exact (rfl : (_ : Bool) = _)
    | with_reducible exact Kept.refl
    | with_reducible assumption
    | with_reducible refine Kept.ite ?_ ?_
    | with_reducible apply Kept.setFldAt
    | with_reducible apply Kept.setFld
    | with_reducible apply Kept.setBitAt
    | with_reducible apply Kept.setBit
    | with_reducible apply Kept.step (kept_State_fanListen _ _ _)
    | with_reducible apply Kept.step (kept_State_setFanState _ _ _)
    | with_reducible apply Kept.step (kept_State_showFans _)
    | with_reducible refine Kept.foldl (fun _ _ _ => ?_) ?_
    | split
    | refine Kept.ite ?_ ?_

theorem kept_State_faultFan (s : State) (n : FanId) (cause : Nat) : Kept [Fld.CAL_STATUS.FACTORY_VALID, Fld.CAL_STATUS.PREVIOUS_VALID, Fld.CAL_STATUS.USER_VALID, Fld.FAN_GLOBAL.FAULTED, Fld.FAN_GLOBAL.RUNNING, Fld.FAN_RUN_S, Fld.FAN_STATUS.ATTEMPT, Fld.FAN_STATUS.FAULT_CAUSE, Fld.FAN_STATUS.SHIFTING, Fld.FAN_STATUS.STATE, Fld.FAN_TARGET.RPM] s (State.faultFan s n cause) := by
  unfold State.faultFan
  try dsimp only
  repeat' first
    | exact (rfl : (_ : Bool) = _)
    | with_reducible exact Kept.refl
    | with_reducible apply Kept.setFldAt
    | with_reducible apply Kept.setFld
    | with_reducible apply Kept.setBitAt
    | with_reducible apply Kept.setBit
    | with_reducible apply Kept.step (kept_State_setFanState _ _ _)
    | with_reducible apply Kept.step (kept_State_updateFans _)

theorem kept_State_failFan (s : State) (n : FanId) (cause : Nat) : Kept [Fld.CAL_STATUS.FACTORY_VALID, Fld.CAL_STATUS.PREVIOUS_VALID, Fld.CAL_STATUS.USER_VALID, Fld.FAN_FAIL_COUNT, Fld.FAN_GLOBAL.FAULTED, Fld.FAN_GLOBAL.RUNNING, Fld.FAN_RUN_S, Fld.FAN_STATUS.ATTEMPT, Fld.FAN_STATUS.FAULT_CAUSE, Fld.FAN_STATUS.SHIFTING, Fld.FAN_STATUS.STATE, Fld.FAN_TARGET.RPM] s (State.failFan s n cause) := by
  unfold State.failFan
  try dsimp only
  repeat' first
    | exact (rfl : (_ : Bool) = _)
    | with_reducible exact Kept.refl
    | with_reducible refine Kept.ite ?_ ?_
    | with_reducible apply Kept.satFldAt
    | with_reducible apply Kept.satFld
    | with_reducible apply Kept.step (kept_State_emit _ _ _)
    | with_reducible apply Kept.step (kept_State_faultFan _ _ _)
    | with_reducible apply Kept.step (kept_State_setFanState _ _ _)
    | with_reducible apply Kept.step (kept_State_showFans _)
    | split
    | dsimp only
    | refine Kept.ite ?_ ?_

theorem kept_State_showPinLoss (s : State) : Kept [Fld.THERM_STATUS.PIN_LOSS] s (State.showPinLoss s) := by
  unfold State.showPinLoss
  try dsimp only
  repeat' first
    | exact (rfl : (_ : Bool) = _)
    | with_reducible exact Kept.refl
    | with_reducible apply Kept.setBitAt
    | with_reducible apply Kept.setBit

theorem kept_State_fansStart (s : State) : Kept [Fld.CAL_STATUS.FACTORY_VALID, Fld.CAL_STATUS.PREVIOUS_VALID, Fld.CAL_STATUS.USER_VALID, Fld.FAN_CTRL.HOST_PCT, Fld.FAN_CTRL.SOURCE, Fld.FAN_GLOBAL.FAULTED, Fld.FAN_GLOBAL.PROFILE, Fld.FAN_GLOBAL.RUNNING, Fld.FAN_RUN_S, Fld.FAN_STATUS.ATTEMPT, Fld.FAN_STATUS.FAULT_CAUSE, Fld.FAN_STATUS.SHIFTING, Fld.FAN_STATUS.STATE, Fld.FAN_TARGET.RPM, Fld.THERM_STATUS.PIN_LOSS] s (State.fansStart s) := by
  unfold State.fansStart
  try dsimp only
  repeat' first
    | exact (rfl : (_ : Bool) = _)
    | with_reducible exact Kept.refl
    | with_reducible assumption
    | with_reducible refine Kept.ite ?_ ?_
    | with_reducible apply Kept.setFldAt
    | with_reducible apply Kept.setFld
    | with_reducible apply Kept.step (kept_State_setFanState _ _ _)
    | with_reducible apply Kept.step (kept_State_showPinLoss _)
    | with_reducible apply Kept.step (kept_State_updateFans _)
    | with_reducible refine Kept.foldl (fun _ _ _ => ?_) ?_
    | split
    | refine Kept.ite ?_ ?_


/-! ### Machine/ScOps.lean -/

theorem kept_State_withSc (s : State) (c : Sc) : Kept [] s (State.withSc s c) := by
  unfold State.withSc
  try dsimp only
  repeat' first
    | exact (rfl : (_ : Bool) = _)
    | with_reducible exact Kept.refl
    | (dsimp only [Kept.mk_form]; with_reducible apply KeptMk.intro (_h0 := rfl) (h3 := rfl))

theorem kept_State_evPut (s : State) (l : ScLine) : Kept [] s (State.evPut s l) := by
  unfold State.evPut
  try dsimp only
  repeat' first
    | exact (rfl : (_ : Bool) = _)
    | with_reducible exact Kept.refl
    | with_reducible refine Kept.ite ?_ ?_
    | with_reducible apply Kept.step (kept_State_withSc _ _)
    | (dsimp only [Kept.mk_form]; with_reducible apply KeptMk.intro (_h0 := rfl) (h3 := rfl))
    | split
    | refine Kept.ite ?_ ?_

theorem kept_State_scInstall (s : State) (l : ScLine) (allowed : List Nat) (asLru : Bool) : Kept [] s (State.scInstall s l allowed asLru).1 := by
  unfold State.scInstall
  try dsimp only
  repeat' first
    | exact (rfl : (_ : Bool) = _)
    | with_reducible exact Kept.refl
    | with_reducible assumption
    | with_reducible apply Kept.step (kept_State_evPut _ _)
    | with_reducible apply Kept.step (kept_State_withSc _ _)
    | (dsimp only [Kept.mk_form]; with_reducible apply KeptMk.intro (_h0 := rfl) (h3 := rfl))
    | split
    | dsimp only

theorem kept_State_scTouch (s : State) (k : Nat) : Kept [Fld.SC_PF_USED] s (State.scTouch s k) := by
  unfold State.scTouch
  try dsimp only
  repeat' first
    | exact (rfl : (_ : Bool) = _)
    | with_reducible exact Kept.refl
    | with_reducible assumption
    | with_reducible refine Kept.ite ?_ ?_
    | with_reducible apply Kept.incFldAt
    | with_reducible apply Kept.incFld
    | with_reducible apply Kept.step (kept_State_withSc _ _)
    | (dsimp only [Kept.mk_form]; with_reducible apply KeptMk.intro (_h0 := rfl) (h3 := rfl))
    | split
    | refine Kept.ite ?_ ?_

theorem kept_State_scPrefetch (s : State) (req line : Nat) : Kept [Fld.SC_PF_ISSUED] s (State.scPrefetch s req line) := by
  unfold State.scPrefetch
  try dsimp only
  repeat' first
    | exact (rfl : (_ : Bool) = _)
    | with_reducible exact Kept.refl
    | with_reducible refine Kept.ite ?_ ?_
    | with_reducible apply Kept.incFldAt
    | with_reducible apply Kept.incFld
    | with_reducible apply Kept.step (kept_State_withSc _ _)
    | (dsimp only [Kept.mk_form]; with_reducible apply KeptMk.intro (_h0 := rfl) (h3 := rfl))
    | split
    | dsimp only
    | refine Kept.ite ?_ ?_

theorem kept_State_scRecall (s : State) (line : Nat) (w : List ScWait) : Kept [] s (State.scRecall s line w) := by
  unfold State.scRecall
  try dsimp only
  repeat' first
    | exact (rfl : (_ : Bool) = _)
    | with_reducible exact Kept.refl
    | with_reducible apply Kept.step (kept_State_withSc _ _)
    | (dsimp only [Kept.mk_form]; with_reducible apply KeptMk.intro (_h0 := rfl) (h3 := rfl))

theorem kept_State_scRead (s : State) (req line w : Nat) : Kept [Fld.SC_HIT, Fld.SC_MISS, Fld.SC_PF_ISSUED, Fld.SC_PF_USED, Fld.SC_VICTIM_HIT] s (State.scRead s req line w) := by
  unfold State.scRead
  try dsimp only
  repeat' first
    | exact (rfl : (_ : Bool) = _)
    | with_reducible exact Kept.refl
    | with_reducible assumption
    | with_reducible refine Kept.ite ?_ ?_
    | with_reducible apply Kept.incFldAt
    | with_reducible apply Kept.incFld
    | with_reducible apply Kept.step (kept_State_scInstall _ _ _ _)
    | with_reducible apply Kept.step (kept_State_scPrefetch _ _ _)
    | with_reducible apply Kept.step (kept_State_scRecall _ _ _)
    | with_reducible apply Kept.step (kept_State_scTouch _ _)
    | with_reducible apply Kept.step (kept_State_withSc _ _)
    | (dsimp only [Kept.mk_form]; with_reducible apply KeptMk.intro (_h0 := rfl) (h3 := rfl))
    | split
    | dsimp only
    | refine Kept.ite ?_ ?_
    | refine Kept.step (Kept.ofFst (kept_State_scInstall _ _ _ _) (by with_reducible assumption)) ?_ ?_

theorem kept_State_scWrite (s : State) (req line mask : Nat) (data : Blob) : Kept [Fld.SC_HIT, Fld.SC_MISS, Fld.SC_PF_USED, Fld.SC_VICTIM_HIT] s (State.scWrite s req line mask data) := by
  unfold State.scWrite
  try dsimp only
  repeat' first
    | exact (rfl : (_ : Bool) = _)
    | with_reducible exact Kept.refl
    | with_reducible assumption
    | with_reducible refine Kept.ite ?_ ?_
    | with_reducible apply Kept.incFldAt
    | with_reducible apply Kept.incFld
    | with_reducible apply Kept.step (kept_State_scRecall _ _ _)
    | with_reducible apply Kept.step (kept_State_scTouch _ _)
    | with_reducible apply Kept.step (kept_State_withSc _ _)
    | (dsimp only [Kept.mk_form]; with_reducible apply KeptMk.intro (_h0 := rfl) (h3 := rfl))
    | split
    | refine Kept.ite ?_ ?_

theorem kept_State_scGrant (s : State) (pq line : Nat) : Kept [] s (State.scGrant s pq line) := by
  unfold State.scGrant
  try dsimp only
  repeat' first
    | exact (rfl : (_ : Bool) = _)
    | with_reducible exact Kept.refl
    | with_reducible apply Kept.step (kept_State_withSc _ _)
    | (dsimp only [Kept.mk_form]; with_reducible apply KeptMk.intro (_h0 := rfl) (h3 := rfl))

theorem kept_State_scRetry (s : State) (pq line : Nat) : Kept [Fld.SC_OWN_RETRY] s (State.scRetry s pq line) := by
  unfold State.scRetry
  try dsimp only
  repeat' first
    | exact (rfl : (_ : Bool) = _)
    | with_reducible exact Kept.refl
    | with_reducible apply Kept.incFldAt
    | with_reducible apply Kept.incFld
    | with_reducible apply Kept.step (kept_State_withSc _ _)
    | (dsimp only [Kept.mk_form]; with_reducible apply KeptMk.intro (_h0 := rfl) (h3 := rfl))

theorem kept_State_scOwn (s : State) (pqs : List Nat) (line : Nat) : Kept [Fld.SC_OWN_RETRY] s (State.scOwn s pqs line) := by
  unfold State.scOwn
  try dsimp only
  repeat' first
    | exact (rfl : (_ : Bool) = _)
    | with_reducible exact Kept.refl
    | with_reducible assumption
    | with_reducible refine Kept.ite ?_ ?_
    | with_reducible apply Kept.step (kept_State_scGrant _ _ _)
    | with_reducible apply Kept.step (kept_State_scRecall _ _ _)
    | with_reducible apply Kept.step (kept_State_scRetry _ _ _)
    | with_reducible apply Kept.step (kept_State_withSc _ _)
    | with_reducible refine Kept.foldl (fun _ _ _ => ?_) ?_
    | (dsimp only [Kept.mk_form]; with_reducible apply KeptMk.intro (_h0 := rfl) (h3 := rfl))
    | split
    | refine Kept.ite ?_ ?_

theorem kept_State_scServe (s : State) (w : ScWait) : Kept [Fld.SC_HIT, Fld.SC_MISS, Fld.SC_OWN_RETRY, Fld.SC_PF_ISSUED, Fld.SC_PF_USED, Fld.SC_VICTIM_HIT] s (State.scServe s w) := by
  unfold State.scServe
  try dsimp only
  repeat' first
    | exact (rfl : (_ : Bool) = _)
    | with_reducible exact Kept.refl
    | with_reducible assumption
    | with_reducible apply Kept.step (kept_State_scOwn _ _ _)
    | with_reducible apply Kept.step (kept_State_scRead _ _ _ _)
    | with_reducible apply Kept.step (kept_State_scWrite _ _ _ _ _)
    | (dsimp only [Kept.mk_form]; with_reducible apply KeptMk.intro (_h0 := rfl) (h3 := rfl))
    | split

theorem kept_State_scDrain (s : State) (line : Nat) : Kept [Fld.SC_HIT, Fld.SC_MISS, Fld.SC_OWN_RETRY, Fld.SC_PF_ISSUED, Fld.SC_PF_USED, Fld.SC_VICTIM_HIT] s (State.scDrain s line) := by
  unfold State.scDrain
  try dsimp only
  repeat' first
    | exact (rfl : (_ : Bool) = _)
    | with_reducible exact Kept.refl
    | with_reducible assumption
    | with_reducible apply Kept.step (kept_State_scServe _ _)
    | with_reducible apply Kept.step (kept_State_withSc _ _)
    | with_reducible refine Kept.foldl (fun _ _ _ => ?_) ?_
    | (dsimp only [Kept.mk_form]; with_reducible apply KeptMk.intro (_h0 := rfl) (h3 := rfl))
    | split
    | dsimp only

theorem kept_State_snoopWrite (s : State) (addr : Nat) (bs : List Nat) : Kept [] s (State.snoopWrite s addr bs) := by
  unfold State.snoopWrite
  try dsimp only
  repeat' first
    | exact (rfl : (_ : Bool) = _)
    | with_reducible exact Kept.refl
    | with_reducible assumption
    | with_reducible apply Kept.step (kept_State_withSc _ _)
    | with_reducible refine Kept.foldl (fun _ _ _ => ?_) ?_
    | (dsimp only [Kept.mk_form]; with_reducible apply KeptMk.intro (_h0 := rfl) (h3 := rfl))

theorem kept_State_scReset (s : State) : Kept [Fld.SC_ALLOC.ALLOC, Fld.SC_ALLOC.NO_PREFETCH, Fld.SC_LOCK.WAYS, Fld.SC_PRELOAD_WAYS.WAYS, Fld.SC_RANGE_STATUS.BUSY, Fld.SC_STATUS.INIT_DONE, Fld.SC_STATUS.LOCKED_WAYS, Fld.SC_STATUS.MAINT_BUSY, Fld.SC_STATUS.RANGE_BUSY] s (State.scReset s) := by
  unfold State.scReset
  try dsimp only
  repeat' first
    | exact (rfl : (_ : Bool) = _)
    | with_reducible exact Kept.refl
    | with_reducible apply Kept.setFldAt
    | with_reducible apply Kept.setFld
    | with_reducible apply Kept.setBitAt
    | with_reducible apply Kept.setBit
    | with_reducible apply Kept.step (kept_State_withSc _ _)
    | (dsimp only [Kept.mk_form]; with_reducible apply KeptMk.intro (_h0 := rfl) (h3 := rfl))

theorem kept_State_scStopRange (s : State) : Kept [Fld.SC_RANGE_STATUS.BUSY, Fld.SC_RANGE_STATUS.DONE, Fld.SC_STATUS.RANGE_BUSY] s (State.scStopRange s) := by
  unfold State.scStopRange
  try dsimp only
  repeat' first
    | exact (rfl : (_ : Bool) = _)
    | with_reducible exact Kept.refl
    | with_reducible assumption
    | with_reducible apply Kept.setBitAt
    | with_reducible apply Kept.setBit
    | with_reducible apply Kept.step (kept_State_withSc _ _)
    | (dsimp only [Kept.mk_form]; with_reducible apply KeptMk.intro (_h0 := rfl) (h3 := rfl))
    | split

theorem kept_State_scRangeErr (s : State) (code : Nat) : Kept [Fld.SC_RANGE_STATUS.ERR_CODE] s (State.scRangeErr s code) := by
  unfold State.scRangeErr
  try dsimp only
  repeat' first
    | exact (rfl : (_ : Bool) = _)
    | with_reducible exact Kept.refl
    | with_reducible apply Kept.setFldAt
    | with_reducible apply Kept.setFld

theorem kept_State_scLock (s : State) (ways : Nat) : Kept [Fld.SC_LOCK.WAYS, Fld.SC_RANGE_STATUS.ERR_CODE, Fld.SC_STATUS.LOCKED_WAYS, Fld.SC_STATUS.LOCK_REFUSED] s (State.scLock s ways) := by
  unfold State.scLock
  try dsimp only
  repeat' first
    | exact (rfl : (_ : Bool) = _)
    | with_reducible exact Kept.refl
    | with_reducible refine Kept.ite ?_ ?_
    | with_reducible apply Kept.setFldAt
    | with_reducible apply Kept.setFld
    | with_reducible apply Kept.setBitAt
    | with_reducible apply Kept.setBit
    | with_reducible apply Kept.step (kept_State_scRangeErr _ _)
    | split
    | refine Kept.ite ?_ ?_

theorem kept_State_scEvictPath (s : State) (path : Bool) : Kept [Fld.SC_CTRL.EVICT_PATH, Fld.SC_RANGE_STATUS.ERR_CODE] s (State.scEvictPath s path) := by
  unfold State.scEvictPath
  try dsimp only
  repeat' first
    | exact (rfl : (_ : Bool) = _)
    | with_reducible exact Kept.refl
    | with_reducible refine Kept.ite ?_ ?_
    | with_reducible apply Kept.setBitAt
    | with_reducible apply Kept.setBit
    | with_reducible apply Kept.step (kept_State_scRangeErr _ _)
    | with_reducible apply Kept.step (kept_State_withSc _ _)
    | (dsimp only [Kept.mk_form]; with_reducible apply KeptMk.intro (_h0 := rfl) (h3 := rfl))
    | split
    | refine Kept.ite ?_ ?_


/-! ### Machine/DmaOps.lean -/

theorem kept_State_setChState (s : State) (n v : Nat) : Kept [Fld.CH_STATUS.STATE] s (State.setChState s n v) := by
  unfold State.setChState
  try dsimp only
  repeat' first
    | exact (rfl : (_ : Bool) = _)
    | with_reducible exact Kept.refl
    | with_reducible apply Kept.setFldAt
    | with_reducible apply Kept.setFld

theorem kept_State_withDma (s : State) (d : Dma) : Kept [] s (State.withDma s d) := by
  unfold State.withDma
  try dsimp only
  repeat' first
    | exact (rfl : (_ : Bool) = _)
    | with_reducible exact Kept.refl
    | (dsimp only [Kept.mk_form]; with_reducible apply KeptMk.intro (_h0 := rfl) (h3 := rfl))

theorem kept_State_winCtrl (s : State) (w ctrl : Nat) : Kept [Fld.WIN_BASE.ADDR, Fld.WIN_CTRL.EN, Fld.WIN_CTRL.ERR, Fld.WIN_CTRL.READ, Fld.WIN_CTRL.SPACE, Fld.WIN_CTRL.WRITE, Fld.WIN_LIMIT.ADDR] s (State.winCtrl s w ctrl) := by
  unfold State.winCtrl
  try dsimp only
  repeat' first
    | exact (rfl : (_ : Bool) = _)
    | with_reducible exact Kept.refl
    | with_reducible refine Kept.ite ?_ ?_
    | with_reducible apply Kept.setFldAt
    | with_reducible apply Kept.setFld
    | with_reducible apply Kept.setBitAt
    | with_reducible apply Kept.setBit
    | split
    | dsimp only
    | refine Kept.ite ?_ ?_

theorem kept_State_dmaStore (s : State) (space a : Nat) (bs : List Nat) : Kept [] s (State.dmaStore s space a bs) := by
  unfold State.dmaStore
  try dsimp only
  repeat' first
    | exact (rfl : (_ : Bool) = _)
    | with_reducible exact Kept.refl
    | with_reducible refine Kept.ite ?_ ?_
    | with_reducible apply Kept.step (kept_State_snoopWrite _ _ _)
    | with_reducible apply Kept.step (kept_State_withDma _ _)
    | (dsimp only [Kept.mk_form]; with_reducible apply KeptMk.intro (_h0 := rfl) (h3 := rfl))
    | split
    | dsimp only
    | refine Kept.ite ?_ ?_

theorem kept_State_dmaLoose (s : State) (d : Desc) (lo hi : Nat) : Kept [] s (State.dmaLoose s d lo hi) := by
  unfold State.dmaLoose
  try dsimp only
  repeat' first
    | exact (rfl : (_ : Bool) = _)
    | with_reducible exact Kept.refl
    | with_reducible assumption
    | with_reducible refine Kept.ite ?_ ?_
    | with_reducible apply Kept.step (kept_State_snoopWrite _ _ _)
    | with_reducible apply Kept.step (kept_State_used _)
    | with_reducible refine Kept.foldl (fun _ _ _ => ?_) ?_
    | split
    | refine Kept.ite ?_ ?_

theorem kept_State_dmaIrq (s : State) (n : Nat) : Kept [Fld.DMA_IRQ] s (State.dmaIrq s n) := by
  unfold State.dmaIrq
  try dsimp only
  repeat' first
    | exact (rfl : (_ : Bool) = _)
    | with_reducible exact Kept.refl
    | with_reducible assumption
    | with_reducible refine Kept.ite ?_ ?_
    | with_reducible apply Kept.setFldAt
    | with_reducible apply Kept.setFld
    | with_reducible apply Kept.step (kept_State_withDma _ _)
    | (dsimp only [Kept.mk_form]; with_reducible apply KeptMk.intro (_h0 := rfl) (h3 := rfl))
    | split
    | dsimp only
    | refine Kept.ite ?_ ?_

theorem kept_State_dmaErrIrq (s : State) (n : Nat) : Kept [Fld.DMA_IRQ] s (State.dmaErrIrq s n) := by
  unfold State.dmaErrIrq
  try dsimp only
  repeat' first
    | exact (rfl : (_ : Bool) = _)
    | with_reducible exact Kept.refl
    | with_reducible refine Kept.ite ?_ ?_
    | with_reducible apply Kept.step (kept_State_dmaIrq _ _)
    | split
    | refine Kept.ite ?_ ?_

theorem kept_State_dmaBegin (s : State) (n addr : Nat) : Kept [Fld.CH_BYTES, Fld.CH_CUR_DESC.ADDR, Fld.CH_STATUS.HALT_CODE, Fld.CH_STATUS.STATE] s (State.dmaBegin s n addr) := by
  unfold State.dmaBegin
  try dsimp only
  repeat' first
    | exact (rfl : (_ : Bool) = _)
    | with_reducible exact Kept.refl
    | with_reducible apply Kept.setFldAt
    | with_reducible apply Kept.setFld
    | with_reducible apply Kept.step (kept_State_setChState _ _ _)
    | with_reducible apply Kept.step (kept_State_withDma _ _)
    | (dsimp only [Kept.mk_form]; with_reducible apply KeptMk.intro (_h0 := rfl) (h3 := rfl))

theorem kept_State_dmaTrigger (s : State) (n : Nat) (start : Bool) : Kept [Fld.CH_BYTES, Fld.CH_CUR_DESC.ADDR, Fld.CH_MISSED_COUNT, Fld.CH_STATUS.HALT_CODE, Fld.CH_STATUS.MISSED, Fld.CH_STATUS.PENDING, Fld.CH_STATUS.STATE] s (State.dmaTrigger s n start) := by
  unfold State.dmaTrigger
  try dsimp only
  repeat' first
    | exact (rfl : (_ : Bool) = _)
    | with_reducible exact Kept.refl
    | with_reducible refine Kept.ite ?_ ?_
    | with_reducible apply Kept.setBitAt
    | with_reducible apply Kept.setBit
    | with_reducible apply Kept.incFldAt
    | with_reducible apply Kept.incFld
    | with_reducible apply Kept.satFldAt
    | with_reducible apply Kept.satFld
    | with_reducible apply Kept.step (kept_State_dmaBegin _ _ _)
    | split
    | refine Kept.ite ?_ ?_

theorem kept_State_dmaAfter (s : State) (n : Nat) (d : Desc) : Kept [Fld.CH_BYTES, Fld.CH_CUR_DESC.ADDR, Fld.CH_STATUS.HALT_CODE, Fld.CH_STATUS.PENDING, Fld.CH_STATUS.STATE] s (State.dmaAfter s n d) := by
  unfold State.dmaAfter
  try dsimp only
  repeat' first
    | exact (rfl : (_ : Bool) = _)
    | with_reducible exact Kept.refl
    | with_reducible refine Kept.ite ?_ ?_
    | with_reducible apply Kept.setFldAt
    | with_reducible apply Kept.setFld
    | with_reducible apply Kept.step (kept_State_dmaBegin _ _ _)
    | with_reducible apply Kept.step (kept_State_setChState _ _ _)
    | with_reducible apply Kept.step (kept_State_withDma _ _)
    | (dsimp only [Kept.mk_form]; with_reducible apply KeptMk.intro (_h0 := rfl) (h3 := rfl))
    | split
    | refine Kept.ite ?_ ?_

theorem kept_State_dmaStatus (s : State) (n addr bytes status : Nat) : Kept [] s (State.dmaStatus s n addr bytes status) := by
  unfold State.dmaStatus
  try dsimp only
  repeat' first
    | exact (rfl : (_ : Bool) = _)
    | with_reducible exact Kept.refl
    | with_reducible apply Kept.step (kept_State_dmaStore _ _ _ _)

theorem kept_State_dmaBad (s : State) (n : Nat) (r : DmaRun) (code bytes : Nat) : Kept [Fld.CH_BAD_COUNT, Fld.CH_BYTES, Fld.CH_CUR_DESC.ADDR, Fld.CH_STATUS.BAD_SEEN, Fld.CH_STATUS.HALT_CODE, Fld.CH_STATUS.PENDING, Fld.CH_STATUS.STATE, Fld.DMA_IRQ] s (State.dmaBad s n r code bytes) := by
  unfold State.dmaBad
  try dsimp only
  repeat' first
    | exact (rfl : (_ : Bool) = _)
    | with_reducible exact Kept.refl
    | with_reducible apply Kept.setFldAt
    | with_reducible apply Kept.setFld
    | with_reducible apply Kept.setBitAt
    | with_reducible apply Kept.setBit
    | with_reducible apply Kept.satFldAt
    | with_reducible apply Kept.satFld
    | with_reducible apply Kept.step (kept_State_dmaAfter _ _ _)
    | with_reducible apply Kept.step (kept_State_dmaErrIrq _ _)
    | with_reducible apply Kept.step (kept_State_dmaStatus _ _ _ _ _)

theorem kept_State_dmaDone (s : State) (n : Nat) (r : DmaRun) : Kept [Fld.CH_BYTES, Fld.CH_CUR_DESC.ADDR, Fld.CH_DONE_COUNT, Fld.CH_MISSED_COUNT, Fld.CH_STATUS.HALT_CODE, Fld.CH_STATUS.MISSED, Fld.CH_STATUS.PENDING, Fld.CH_STATUS.STATE, Fld.DMA_IRQ] s (State.dmaDone s n r) := by
  unfold State.dmaDone
  try dsimp only
  repeat' first
    | exact (rfl : (_ : Bool) = _)
    | with_reducible exact Kept.refl
    | with_reducible assumption
    | with_reducible refine Kept.ite ?_ ?_
    | with_reducible apply Kept.setFldAt
    | with_reducible apply Kept.setFld
    | with_reducible apply Kept.satFldAt
    | with_reducible apply Kept.satFld
    | with_reducible apply Kept.step (kept_State_dmaAfter _ _ _)
    | with_reducible apply Kept.step (kept_State_dmaIrq _ _)
    | with_reducible apply Kept.step (kept_State_dmaStatus _ _ _ _ _)
    | with_reducible apply Kept.step (kept_State_dmaTrigger _ _ _)
    | with_reducible refine Kept.foldl (fun _ _ _ => ?_) ?_
    | split
    | refine Kept.ite ?_ ?_

theorem kept_State_dmaHalted (s : State) (n code : Nat) : Kept [Fld.CH_STATUS.HALT_CODE, Fld.CH_STATUS.STATE, Fld.DMA_IRQ] s (State.dmaHalted s n code) := by
  unfold State.dmaHalted
  try dsimp only
  repeat' first
    | exact (rfl : (_ : Bool) = _)
    | with_reducible exact Kept.refl
    | with_reducible apply Kept.setFldAt
    | with_reducible apply Kept.setFld
    | with_reducible apply Kept.step (kept_State_dmaErrIrq _ _)
    | with_reducible apply Kept.step (kept_State_setChState _ _ _)
    | with_reducible apply Kept.step (kept_State_withDma _ _)
    | (dsimp only [Kept.mk_form]; with_reducible apply KeptMk.intro (_h0 := rfl) (h3 := rfl))

theorem kept_State_dmaDrop (s : State) (n : Nat) : Kept [Fld.CH_BYTES, Fld.CH_CTRL.EN, Fld.CH_STATUS.DISABLED_MIDWAY, Fld.CH_STATUS.PENDING, Fld.CH_STATUS.STATE] s (State.dmaDrop s n) := by
  unfold State.dmaDrop
  try dsimp only
  repeat' first
    | exact (rfl : (_ : Bool) = _)
    | with_reducible exact Kept.refl
    | with_reducible assumption
    | with_reducible refine Kept.ite ?_ ?_
    | with_reducible apply Kept.setFldAt
    | with_reducible apply Kept.setFld
    | with_reducible apply Kept.setBitAt
    | with_reducible apply Kept.setBit
    | with_reducible apply Kept.step (kept_State_dmaLoose _ _ _ _)
    | with_reducible apply Kept.step (kept_State_setChState _ _ _)
    | with_reducible apply Kept.step (kept_State_used _)
    | with_reducible apply Kept.step (kept_State_withDma _ _)
    | (dsimp only [Kept.mk_form]; with_reducible apply KeptMk.intro (_h0 := rfl) (h3 := rfl))
    | split
    | refine Kept.ite ?_ ?_

theorem kept_State_dmaDropAll (s : State) : Kept [Fld.CH_BYTES, Fld.CH_CTRL.EN, Fld.CH_STATUS.DISABLED_MIDWAY, Fld.CH_STATUS.PENDING, Fld.CH_STATUS.STATE] s (State.dmaDropAll s) := by
  unfold State.dmaDropAll
  try dsimp only
  repeat' first
    | exact (rfl : (_ : Bool) = _)
    | with_reducible exact Kept.refl
    | with_reducible assumption
    | with_reducible apply Kept.step (kept_State_dmaDrop _ _)
    | with_reducible refine Kept.foldl (fun _ _ _ => ?_) ?_

theorem kept_State_dmaPortReset (s : State) (hp : Nat) : Kept [Fld.CH_BYTES, Fld.CH_CTRL.EN, Fld.CH_STATUS.DISABLED_MIDWAY, Fld.CH_STATUS.PENDING, Fld.CH_STATUS.STATE, Fld.WIN_CTRL.EN] s (State.dmaPortReset s hp) := by
  unfold State.dmaPortReset
  try dsimp only
  repeat' first
    | exact (rfl : (_ : Bool) = _)
    | with_reducible exact Kept.refl
    | with_reducible assumption
    | with_reducible refine Kept.ite ?_ ?_
    | with_reducible apply Kept.setBitAt
    | with_reducible apply Kept.setBit
    | with_reducible apply Kept.step (kept_State_dmaDrop _ _)
    | with_reducible refine Kept.foldl (fun _ _ _ => ?_) ?_
    | (dsimp only [Kept.mk_form]; with_reducible apply KeptMk.intro (_h0 := rfl) (h3 := rfl))
    | split
    | refine Kept.ite ?_ ?_


/-! ### Machine/EvrOps.lean -/

theorem kept_State_withPages (s : State) (t : Tbl EvPage) : Kept [] s (State.withPages s t) := by
  unfold State.withPages
  try dsimp only
  repeat' first
    | exact (rfl : (_ : Bool) = _)
    | with_reducible exact Kept.refl
    | (dsimp only [Kept.mk_form]; with_reducible apply KeptMk.intro (_h0 := rfl) (h3 := rfl))

theorem kept_State_dropRec (s : State) (sev : Nat) (full : Bool) : Kept [Fld.EVR_DROP, Fld.EVR_STATUS.FULL] s (State.dropRec s sev full) := by
  unfold State.dropRec
  try dsimp only
  repeat' first
    | exact (rfl : (_ : Bool) = _)
    | with_reducible exact Kept.refl
    | with_reducible refine Kept.ite ?_ ?_
    | with_reducible apply Kept.setBitAt
    | with_reducible apply Kept.setBit
    | with_reducible apply Kept.satFldAt
    | with_reducible apply Kept.satFld
    | split
    | refine Kept.ite ?_ ?_

theorem kept_State_noteNearly (s : State) : Kept [Fld.EVR_STATUS.NEARLY_FULL] s (State.noteNearly s) := by
  unfold State.noteNearly
  try dsimp only
  repeat' first
    | exact (rfl : (_ : Bool) = _)
    | with_reducible exact Kept.refl
    | with_reducible refine Kept.ite ?_ ?_
    | with_reducible apply Kept.setBitAt
    | with_reducible apply Kept.setBit
    | with_reducible apply Kept.step (kept_State_emit _ _ _)
    | split
    | refine Kept.ite ?_ ?_

theorem kept_State_newPage (s : State) (r : EvRec) : Kept [Fld.EVR_DROP, Fld.EVR_OVERWRITTEN, Fld.EVR_STATUS.FULL, Fld.EVR_STATUS.NEARLY_FULL] s (State.newPage s r).2 := by
  unfold State.newPage
  try dsimp only
  repeat' first
    | exact (rfl : (_ : Bool) = _)
    | with_reducible exact Kept.refl
    | with_reducible assumption
    | with_reducible refine Kept.ite ?_ ?_
    | with_reducible apply Kept.incFldAt
    | with_reducible apply Kept.incFld
    | with_reducible apply Kept.step (kept_State_dropRec _ _ _)
    | with_reducible apply Kept.step (kept_State_noteNearly _)
    | with_reducible apply Kept.step (kept_State_withPages _ _)
    | (dsimp only [Kept.mk_form]; with_reducible apply KeptMk.intro (_h0 := rfl) (h3 := rfl))
    | split
    | dsimp only
    | refine Kept.ite ?_ ?_

theorem kept_State_placeRec (s : State) (r : EvRec) : Kept [Fld.EVR_DROP, Fld.EVR_OVERWRITTEN, Fld.EVR_STATUS.FULL, Fld.EVR_STATUS.NEARLY_FULL] s (State.placeRec s r).2 := by
  unfold State.placeRec
  try dsimp only
  repeat' first
    | exact (rfl : (_ : Bool) = _)
    | with_reducible exact Kept.refl
    | with_reducible assumption
    | with_reducible refine Kept.ite ?_ ?_
    | with_reducible apply Kept.step (kept_State_newPage _ _)
    | with_reducible apply Kept.step (kept_State_withPages _ _)
    | (dsimp only [Kept.mk_form]; with_reducible apply KeptMk.intro (_h0 := rfl) (h3 := rfl))
    | split
    | dsimp only
    | refine Kept.ite ?_ ?_
    | refine Kept.step (Kept.ofSnd (kept_State_newPage _ _) (by with_reducible assumption)) ?_ ?_

theorem kept_State_commitRec (s : State) (r : EvRec) : Kept [Fld.EVR_DROP, Fld.EVR_OVERWRITTEN, Fld.EVR_STATUS.FULL, Fld.EVR_STATUS.NEARLY_FULL] s (State.commitRec s r).2 := by
  unfold State.commitRec
  try dsimp only
  repeat' first
    | exact (rfl : (_ : Bool) = _)
    | with_reducible exact Kept.refl
    | with_reducible refine Kept.ite ?_ ?_
    | with_reducible apply Kept.step (kept_State_dropRec _ _ _)
    | with_reducible apply Kept.step (kept_State_placeRec _ _)
    | (dsimp only [Kept.mk_form]; with_reducible apply KeptMk.intro (_h0 := rfl) (h3 := rfl))
    | split
    | dsimp only
    | refine Kept.ite ?_ ?_
    | refine Kept.step (Kept.ofSnd (kept_State_placeRec _ _) (by with_reducible assumption)) ?_ ?_

theorem kept_State_thaw (s : State) : Kept [Fld.EVR_DROP, Fld.EVR_OVERWRITTEN, Fld.EVR_STATUS.FREEZE_OWNER, Fld.EVR_STATUS.FROZEN, Fld.EVR_STATUS.FULL, Fld.EVR_STATUS.NEARLY_FULL] s (State.thaw s) := by
  unfold State.thaw
  try dsimp only
  repeat' first
    | exact (rfl : (_ : Bool) = _)
    | with_reducible exact Kept.refl
    | with_reducible assumption
    | with_reducible refine Kept.ite ?_ ?_
    | with_reducible apply Kept.setFldAt
    | with_reducible apply Kept.setFld
    | with_reducible apply Kept.setBitAt
    | with_reducible apply Kept.setBit
    | with_reducible apply Kept.step (kept_State_commitRec _ _)
    | with_reducible refine Kept.foldl (fun _ _ _ => ?_) ?_
    | with_reducible refine Kept.foldlSnd (fun _ _ _ => ?_) ?_
    | (dsimp only [Kept.mk_form]; with_reducible apply KeptMk.intro (_h0 := rfl) (h3 := rfl))
    | split
    | dsimp only
    | refine Kept.ite ?_ ?_
    | refine Kept.step (Kept.ofSnd (kept_State_commitRec _ _) (by with_reducible assumption)) ?_ ?_

theorem kept_State_recordOne (s : State) (a : EvArrival) : Kept [Fld.EVR_DROP, Fld.EVR_NEXT_SEQ, Fld.EVR_OVERWRITTEN, Fld.EVR_STATUS.FULL, Fld.EVR_STATUS.NEARLY_FULL] s (State.recordOne s a) := by
  unfold State.recordOne
  try dsimp only
  repeat' first
    | exact (rfl : (_ : Bool) = _)
    | with_reducible exact Kept.refl
    | with_reducible refine Kept.ite ?_ ?_
    | with_reducible apply Kept.incFldAt
    | with_reducible apply Kept.incFld
    | with_reducible apply Kept.step (kept_State_commitRec _ _)
    | with_reducible apply Kept.step (kept_State_dropRec _ _ _)
    | (dsimp only [Kept.mk_form]; with_reducible apply KeptMk.intro (_h0 := rfl) (h3 := rfl))
    | split
    | dsimp only
    | refine Kept.ite ?_ ?_
    | refine Kept.step (Kept.ofSnd (kept_State_commitRec _ _) (by with_reducible assumption)) ?_ ?_

theorem kept_State_evrDone (s : State) (err : Nat) : Kept [Fld.EVR_AUTH_KEY, Fld.EVR_CMD_STATUS.DONE, Fld.EVR_CMD_STATUS.ERROR] s (State.evrDone s err) := by
  unfold State.evrDone
  try dsimp only
  repeat' first
    | exact (rfl : (_ : Bool) = _)
    | with_reducible exact Kept.refl
    | with_reducible apply Kept.setFldAt
    | with_reducible apply Kept.setFld
    | with_reducible apply Kept.setBitAt
    | with_reducible apply Kept.setBit

theorem kept_State_finishClear (s : State) (owner : Nat) : Kept [Fld.EVR_DROP, Fld.EVR_NEXT_SEQ, Fld.EVR_OVERWRITTEN, Fld.EVR_STATUS.FULL, Fld.EVR_STATUS.NEARLY_FULL] s (State.finishClear s owner) := by
  unfold State.finishClear
  try dsimp only
  repeat' first
    | exact (rfl : (_ : Bool) = _)
    | with_reducible exact Kept.refl
    | with_reducible assumption
    | with_reducible apply Kept.setFldAt
    | with_reducible apply Kept.setFld
    | with_reducible apply Kept.setBitAt
    | with_reducible apply Kept.setBit
    | with_reducible apply Kept.incFldAt
    | with_reducible apply Kept.incFld
    | with_reducible apply Kept.step (kept_State_withPages _ _)
    | with_reducible refine Kept.foldl (fun _ _ _ => ?_) ?_
    | (dsimp only [Kept.mk_form]; with_reducible apply KeptMk.intro (_h0 := rfl) (h3 := rfl))
    | dsimp only

theorem kept_State_writeSoundpost (s : State) (cause : Nat) : Kept [Fld.EVR_DROP, Fld.EVR_OVERWRITTEN, Fld.EVR_STATUS.FREEZE_OWNER, Fld.EVR_STATUS.FROZEN, Fld.EVR_STATUS.FULL, Fld.EVR_STATUS.NEARLY_FULL, Fld.SP_LAST_SEQ] s (State.writeSoundpost s cause) := by
  unfold State.writeSoundpost
  try dsimp only
  repeat' first
    | exact (rfl : (_ : Bool) = _)
    | with_reducible exact Kept.refl
    | with_reducible apply Kept.setFldAt
    | with_reducible apply Kept.setFld
    | with_reducible apply Kept.step (kept_State_emit _ _ _)
    | with_reducible apply Kept.step (kept_State_thaw _)
    | with_reducible apply Kept.step (kept_State_used _)
    | (dsimp only [Kept.mk_form]; with_reducible apply KeptMk.intro (_h0 := rfl) (h3 := rfl))
    | dsimp only

theorem kept_State_copyVault (s : State) : Kept [] s (State.copyVault s) := by
  unfold State.copyVault
  try dsimp only
  repeat' first
    | exact (rfl : (_ : Bool) = _)
    | with_reducible exact Kept.refl
    | with_reducible assumption
    | with_reducible refine Kept.ite ?_ ?_
    | (dsimp only [Kept.mk_form]; with_reducible apply KeptMk.intro (_h0 := rfl) (h3 := rfl))
    | split
    | dsimp only
    | refine Kept.ite ?_ ?_

theorem kept_State_copyFlash (s : State) : Kept [] s (State.copyFlash s) := by
  unfold State.copyFlash
  try dsimp only
  repeat' first
    | exact (rfl : (_ : Bool) = _)
    | with_reducible exact Kept.refl
    | with_reducible assumption
    | with_reducible refine Kept.ite ?_ ?_
    | (dsimp only [Kept.mk_form]; with_reducible apply KeptMk.intro (_h0 := rfl) (h3 := rfl))
    | split
    | dsimp only
    | refine Kept.ite ?_ ?_

theorem kept_State_repairSoundposts (s : State) : Kept [] s (State.repairSoundposts s) := by
  unfold State.repairSoundposts
  try dsimp only
  repeat' first
    | exact (rfl : (_ : Bool) = _)
    | with_reducible exact Kept.refl
    | with_reducible assumption
    | with_reducible refine Kept.ite ?_ ?_
    | with_reducible apply Kept.step (kept_State_copyFlash _)
    | with_reducible apply Kept.step (kept_State_copyVault _)
    | with_reducible apply Kept.step (kept_State_emit _ _ _)
    | with_reducible refine Kept.foldl (fun _ _ _ => ?_) ?_
    | (dsimp only [Kept.mk_form]; with_reducible apply KeptMk.intro (_h0 := rfl) (h3 := rfl))
    | split
    | dsimp only
    | refine Kept.ite ?_ ?_


/-! ### Machine/Updates.lean -/

theorem kept_execWritePlaced (tag : Nat) (s : State) : KeptOut [Fld.HFE_COLLECT_MAX.MAX_DEPTH, Fld.MIRROR_BYTES] s (execWritePlaced tag s) := by
  unfold execWritePlaced
  try dsimp only
  repeat' first
    | exact (rfl : (_ : Bool) = _)
    | with_reducible exact Kept.refl
    | with_reducible assumption
    | with_reducible refine KeptOut.next ?_
    | with_reducible refine KeptOut.ite ?_ ?_
    | with_reducible refine Kept.ite ?_ ?_
    | with_reducible apply Kept.step (kept_State_needDirtyNs _ _)
    | with_reducible apply Kept.step (kept_State_putCmd _ _)
    | with_reducible apply Kept.step (kept_State_writeReady _ _)
    | (dsimp only [Kept.mk_form]; with_reducible apply KeptMk.intro (_h0 := rfl) (h3 := rfl))
    | split
    | dsimp only
    | refine Kept.ite ?_ ?_
    | refine KeptOut.ite ?_ ?_
    | refine Kept.step (Kept.ofSnd (kept_State_needDirtyNs _ _) (by with_reducible assumption)) ?_ ?_

theorem kept_execDirtyLimitAdmit (s : State) : KeptOut [Fld.CIP_STATUS.NONCE_WARN, Fld.CIP_STATUS.TRNG_READY, Fld.CIP_TRNG_STATUS.POOL, Fld.CIP_TRNG_STATUS.READY, Fld.HFE_COLLECT_MAX.MAX_DEPTH, Fld.MIRROR_BYTES, Fld.WC_STATUS.OVER_LIMIT, Fld.WC_STATUS.UNPROTECTED, Fld.WC_UNPROT_MS] s (execDirtyLimitAdmit s) := by
  unfold execDirtyLimitAdmit
  try dsimp only
  repeat' first
    | exact (rfl : (_ : Bool) = _)
    | with_reducible exact Kept.refl
    | with_reducible refine KeptOut.next ?_
    | with_reducible apply Kept.step (kept_State_admitAll _)

theorem kept_execDirtyLimitRecompute (s : State) : KeptOut [Fld.WC_LIMIT.MIB, Fld.WC_LIMIT_CFG.MIB, Fld.WC_LIMIT_ENERGY.MIB, Fld.WC_LIMIT_VAULT.MIB, Fld.WC_STATUS.AREA_READY, Fld.WC_STATUS.OVER_LIMIT, Fld.WC_STATUS.UNPROTECTED, Fld.WC_STATUS.WRITE_THROUGH, Fld.WC_UNPROT_MS] s (execDirtyLimitRecompute s) := by
  unfold execDirtyLimitRecompute
  try dsimp only
  repeat' first
    | exact (rfl : (_ : Bool) = _)
    | with_reducible exact Kept.refl
    | with_reducible refine KeptOut.next ?_
    | with_reducible apply Kept.step (kept_State_recomputeLimit _)

theorem kept_execDirtyNamespaceSetAck (nsid : Nat) (s : State) : KeptOut [Fld.HFE_COLLECT_MAX.MAX_DEPTH] s (execDirtyNamespaceSetAck nsid s) := by
  unfold execDirtyNamespaceSetAck
  try dsimp only
  repeat' first
    | exact (rfl : (_ : Bool) = _)
    | with_reducible exact Kept.refl
    | with_reducible assumption
    | with_reducible refine KeptOut.next ?_
    | with_reducible refine KeptOut.ite ?_ ?_
    | with_reducible refine Kept.ite ?_ ?_
    | with_reducible apply Kept.step (kept_State_putCmd _ _)
    | with_reducible apply Kept.step (kept_State_writeReady _ _)
    | with_reducible refine Kept.foldl (fun _ _ _ => ?_) ?_
    | (dsimp only [Kept.mk_form]; with_reducible apply KeptMk.intro (_h0 := rfl) (h3 := rfl))
    | split
    | dsimp only
    | refine Kept.ite ?_ ?_
    | refine KeptOut.ite ?_ ?_

theorem kept_execDirtyNamespaceClear (nsid : Nat) (s : State) : KeptOut [] s (execDirtyNamespaceClear nsid s) := by
  unfold execDirtyNamespaceClear
  try dsimp only
  repeat' first
    | exact (rfl : (_ : Bool) = _)
    | with_reducible exact Kept.refl
    | with_reducible refine KeptOut.next ?_
    | with_reducible refine KeptOut.ite ?_ ?_
    | with_reducible refine Kept.ite ?_ ?_
    | (dsimp only [Kept.mk_form]; with_reducible apply KeptMk.intro (_h0 := rfl) (h3 := rfl))
    | split
    | refine Kept.ite ?_ ?_
    | refine KeptOut.ite ?_ ?_

theorem kept_execMirrorAck (s : State) : KeptOut [Fld.HFE_COLLECT_MAX.MAX_DEPTH, Fld.MIRROR_BYTES] s (execMirrorAck s) := by
  unfold execMirrorAck
  try dsimp only
  repeat' first
    | exact (rfl : (_ : Bool) = _)
    | with_reducible exact Kept.refl
    | with_reducible assumption
    | with_reducible refine KeptOut.next ?_
    | with_reducible apply Kept.step (kept_State_mirrorWake _)
    | (dsimp only [Kept.mk_form]; with_reducible apply KeptMk.intro (_h0 := rfl) (h3 := rfl))
    | split

theorem kept_execMirrorLost (s : State) : KeptOut [Fld.HFE_COLLECT_MAX.MAX_DEPTH, Fld.MIRROR_BYTES, Fld.PAIR_EPOCH, Fld.PAIR_STATUS.MIRROR_ON, Fld.WC_LIMIT.MIB, Fld.WC_LIMIT_CFG.MIB, Fld.WC_LIMIT_ENERGY.MIB, Fld.WC_LIMIT_VAULT.MIB, Fld.WC_STATUS.AREA_READY, Fld.WC_STATUS.MIRROR_LOST, Fld.WC_STATUS.MIRROR_ON, Fld.WC_STATUS.OVER_LIMIT, Fld.WC_STATUS.UNPROTECTED, Fld.WC_STATUS.WRITE_THROUGH, Fld.WC_UNPROT_MS] s (execMirrorLost s) := by
  unfold execMirrorLost
  try dsimp only
  repeat' first
    | exact (rfl : (_ : Bool) = _)
    | with_reducible exact Kept.refl
    | with_reducible refine KeptOut.next ?_
    | with_reducible apply Kept.step (kept_State_loseMirror _)

theorem kept_execStripeUpdateStart (a : ArrayId) (stripe : Nat) (s : State) : KeptOut [] s (execStripeUpdateStart a stripe s) := by
  unfold execStripeUpdateStart
  try dsimp only
  repeat' first
    | exact (rfl : (_ : Bool) = _)
    | with_reducible exact Kept.refl
    | with_reducible refine KeptOut.next ?_
    | with_reducible apply Kept.step (kept_State_startUpdate _ _ _ _)

theorem kept_execDirtyAgeExpiry (nsid lba : Nat) (s : State) : KeptOut [] s (execDirtyAgeExpiry nsid lba s) := by
  unfold execDirtyAgeExpiry
  try dsimp only
  repeat' first
    | exact (rfl : (_ : Bool) = _)
    | with_reducible exact Kept.refl
    | with_reducible assumption
    | with_reducible refine KeptOut.next ?_
    | with_reducible refine KeptOut.ite ?_ ?_
    | with_reducible refine Kept.ite ?_ ?_
    | with_reducible apply Kept.step (kept_State_startUpdate _ _ _ _)
    | (dsimp only [Kept.mk_form]; with_reducible apply KeptMk.intro (_h0 := rfl) (h3 := rfl))
    | split
    | dsimp only
    | refine Kept.ite ?_ ?_
    | refine KeptOut.ite ?_ ?_

theorem kept_execGatherExpiry (a : ArrayId) (stripe : Nat) (s : State) : KeptOut [] s (execGatherExpiry a stripe s) := by
  unfold execGatherExpiry
  try dsimp only
  repeat' first
    | exact (rfl : (_ : Bool) = _)
    | with_reducible exact Kept.refl
    | with_reducible assumption
    | with_reducible refine KeptOut.next ?_
    | with_reducible apply Kept.step (kept_State_startUpdate _ _ _ _)
    | split

theorem kept_execStripeUpdateReadsDone (id : Nat) (s : State) : KeptOut [Fld.PQE_SOLVE_COUNT, Fld.PQE_SRC_BYTES] s (execStripeUpdateReadsDone id s) := by
  unfold execStripeUpdateReadsDone
  try dsimp only
  repeat' first
    | exact (rfl : (_ : Bool) = _)
    | with_reducible exact Kept.refl
    | with_reducible assumption
    | with_reducible refine KeptOut.next ?_
    | with_reducible refine KeptOut.ite ?_ ?_
    | with_reducible refine Kept.ite ?_ ?_
    | with_reducible apply Kept.step (kept_State_computeUpdate _ _ _ _)
    | (dsimp only [Kept.mk_form]; with_reducible apply KeptMk.intro (_h0 := rfl) (h3 := rfl))
    | split
    | dsimp only
    | refine Kept.ite ?_ ?_
    | refine KeptOut.ite ?_ ?_

theorem kept_execStripeUpdateContextSaved (id : Nat) (s : State) : KeptOut [Fld.MIRROR_BYTES, Fld.WC_STATUS.OVER_LIMIT, Fld.WC_STATUS.UNPROTECTED, Fld.WC_UNPROT_MS] s (execStripeUpdateContextSaved id s) := by
  unfold execStripeUpdateContextSaved
  try dsimp only
  repeat' first
    | exact (rfl : (_ : Bool) = _)
    | with_reducible exact Kept.refl
    | with_reducible assumption
    | with_reducible refine KeptOut.next ?_
    | with_reducible refine KeptOut.ite ?_ ?_
    | with_reducible refine Kept.ite ?_ ?_
    | with_reducible apply Kept.step (kept_State_beginFret _ _)
    | with_reducible apply Kept.step (kept_State_mirror _ _)
    | with_reducible apply Kept.step (kept_State_noteLimit _)
    | with_reducible apply Kept.step (kept_State_putUpd _ _)
    | (dsimp only [Kept.mk_form]; with_reducible apply KeptMk.intro (_h0 := rfl) (h3 := rfl))
    | split
    | refine Kept.ite ?_ ?_
    | refine KeptOut.ite ?_ ?_

theorem kept_execFretSetAck (id : Nat) (s : State) : KeptOut [] s (execFretSetAck id s) := by
  unfold execFretSetAck
  try dsimp only
  repeat' first
    | exact (rfl : (_ : Bool) = _)
    | with_reducible exact Kept.refl
    | with_reducible assumption
    | with_reducible refine KeptOut.next ?_
    | with_reducible apply Kept.step (kept_State_fretReady _ _)
    | with_reducible refine Kept.foldl (fun _ _ _ => ?_) ?_
    | (dsimp only [Kept.mk_form]; with_reducible apply KeptMk.intro (_h0 := rfl) (h3 := rfl))
    | dsimp only

theorem kept_execDataWritesDone (id : Nat) (s : State) : KeptOut [Fld.ARR_STATE.LOST_OVERFLOW, Fld.HFE_DWE_STATUS.ENTRIES, Fld.HFE_DWE_STATUS.OVERFLOW, Fld.MIRROR_BYTES, Fld.RBE_LOST_COUNT.ENTRIES, Fld.RBE_LOST_COUNT.OVERFLOW] s (execDataWritesDone id s) := by
  unfold execDataWritesDone
  try dsimp only
  repeat' first
    | exact (rfl : (_ : Bool) = _)
    | with_reducible exact Kept.refl
    | with_reducible assumption
    | with_reducible refine KeptOut.next ?_
    | with_reducible refine KeptOut.ite ?_ ?_
    | with_reducible refine Kept.ite ?_ ?_
    | with_reducible apply Kept.step (kept_State_issueParity _ _)
    | with_reducible apply Kept.step (kept_State_putUpd _ _)
    | with_reducible apply Kept.step (kept_State_writeData6 _ _ _ _)
    | (dsimp only [Kept.mk_form]; with_reducible apply KeptMk.intro (_h0 := rfl) (h3 := rfl))
    | split
    | dsimp only
    | refine Kept.ite ?_ ?_
    | refine KeptOut.ite ?_ ?_

theorem kept_execParityWritesDone (id : Nat) (s : State) : KeptOut [Fld.HFE_COLLECT_MAX.MAX_DEPTH, Fld.MIRROR_BYTES, Fld.WC_STATUS.OVER_LIMIT, Fld.WC_STATUS.UNPROTECTED, Fld.WC_UNPROT_MS, Fld.WC_UPDATE_COUNT] s (execParityWritesDone id s) := by
  unfold execParityWritesDone
  try dsimp only
  repeat' first
    | exact (rfl : (_ : Bool) = _)
    | with_reducible exact Kept.refl
    | with_reducible assumption
    | with_reducible refine KeptOut.next ?_
    | with_reducible refine KeptOut.ite ?_ ?_
    | with_reducible refine Kept.ite ?_ ?_
    | with_reducible apply Kept.step (kept_State_finishUpdate _ _)
    | with_reducible apply Kept.step (kept_State_writeParity7 _ _ _ _)
    | (dsimp only [Kept.mk_form]; with_reducible apply KeptMk.intro (_h0 := rfl) (h3 := rfl))
    | split
    | dsimp only
    | refine Kept.ite ?_ ?_
    | refine KeptOut.ite ?_ ?_

theorem kept_execFretClear (bit : Nat) (s : State) : KeptOut [Fld.MIRROR_BYTES] s (execFretClear bit s) := by
  unfold execFretClear
  try dsimp only
  repeat' first
    | exact (rfl : (_ : Bool) = _)
    | with_reducible exact Kept.refl
    | with_reducible refine KeptOut.next ?_
    | with_reducible refine KeptOut.ite ?_ ?_
    | with_reducible refine Kept.ite ?_ ?_
    | with_reducible apply Kept.step (kept_State_issueClear _ _)
    | split
    | refine Kept.ite ?_ ?_
    | refine KeptOut.ite ?_ ?_

theorem kept_execFretClearAck (bit : Nat) (s : State) : KeptOut [Fld.MIRROR_BYTES] s (execFretClearAck bit s) := by
  unfold execFretClearAck
  try dsimp only
  repeat' first
    | exact (rfl : (_ : Bool) = _)
    | with_reducible exact Kept.refl
    | with_reducible assumption
    | with_reducible refine KeptOut.next ?_
    | with_reducible refine KeptOut.ite ?_ ?_
    | with_reducible refine Kept.ite ?_ ?_
    | with_reducible apply Kept.step (kept_State_issueSet _ _ _)
    | (dsimp only [Kept.mk_form]; with_reducible apply KeptMk.intro (_h0 := rfl) (h3 := rfl))
    | split
    | dsimp only
    | refine Kept.ite ?_ ?_
    | refine KeptOut.ite ?_ ?_

theorem kept_execWcDestageAll (s : State) : KeptOut [Fld.SYS_BUS_ADDR.OFFSET, Fld.SYS_BUS_STATUS.ERR, Fld.SYS_BUS_STATUS.IFACE, Fld.SYS_BUS_STATUS.REASON] s (execWcDestageAll s) := by
  unfold execWcDestageAll
  try dsimp only
  repeat' first
    | exact (rfl : (_ : Bool) = _)
    | with_reducible exact Kept.refl
    | with_reducible refine KeptOut.next ?_
    | with_reducible refine KeptOut.command rfl Kept.refl ?_
    | (dsimp only [Kept.mk_form]; with_reducible apply KeptMk.intro (_h0 := rfl) (h3 := rfl))
    | dsimp only

theorem kept_execWcClearIdle (s : State) : KeptOut [Fld.MIRROR_BYTES, Fld.SYS_BUS_ADDR.OFFSET, Fld.SYS_BUS_STATUS.ERR, Fld.SYS_BUS_STATUS.IFACE, Fld.SYS_BUS_STATUS.REASON] s (execWcClearIdle s) := by
  unfold execWcClearIdle
  try dsimp only
  repeat' first
    | exact (rfl : (_ : Bool) = _)
    | with_reducible exact Kept.refl
    | with_reducible assumption
    | with_reducible refine KeptOut.next ?_
    | with_reducible refine KeptOut.ite ?_ ?_
    | with_reducible refine KeptOut.command rfl Kept.refl ?_
    | with_reducible refine Kept.ite ?_ ?_
    | with_reducible apply Kept.step (kept_State_issueClear _ _)
    | with_reducible refine Kept.foldl (fun _ _ _ => ?_) ?_
    | (dsimp only [Kept.mk_form]; with_reducible apply KeptMk.intro (_h0 := rfl) (h3 := rfl))
    | split
    | refine Kept.ite ?_ ?_
    | refine KeptOut.ite ?_ ?_

theorem kept_execDumpRetire (area : Fin 2) (s : State) : KeptOut [Fld.VLT_AREA.STATE] s (execDumpRetire area s) := by
  unfold execDumpRetire
  try dsimp only
  repeat' first
    | exact (rfl : (_ : Bool) = _)
    | with_reducible exact Kept.refl
    | with_reducible assumption
    | with_reducible refine KeptOut.next ?_
    | with_reducible refine KeptOut.ite ?_ ?_
    | with_reducible refine Kept.ite ?_ ?_
    | with_reducible apply Kept.setFldAt
    | with_reducible apply Kept.setFld
    | (dsimp only [Kept.mk_form]; with_reducible apply KeptMk.intro (_h0 := rfl) (h3 := rfl))
    | split
    | refine Kept.ite ?_ ?_
    | refine KeptOut.ite ?_ ?_

theorem kept_execAreaEraseDone (area : Fin 2) (s : State) : KeptOut [Fld.VLT_AREA.CANCELLED, Fld.VLT_AREA.COMPLETE, Fld.VLT_AREA.STATE, Fld.WC_LIMIT.MIB, Fld.WC_LIMIT_CFG.MIB, Fld.WC_LIMIT_ENERGY.MIB, Fld.WC_LIMIT_VAULT.MIB, Fld.WC_STATUS.AREA_READY, Fld.WC_STATUS.OVER_LIMIT, Fld.WC_STATUS.UNPROTECTED, Fld.WC_STATUS.WRITE_THROUGH, Fld.WC_UNPROT_MS] s (execAreaEraseDone area s) := by
  unfold execAreaEraseDone
  try dsimp only
  repeat' first
    | exact (rfl : (_ : Bool) = _)
    | with_reducible exact Kept.refl
    | with_reducible refine KeptOut.next ?_
    | with_reducible refine KeptOut.ite ?_ ?_
    | with_reducible refine Kept.ite ?_ ?_
    | with_reducible apply Kept.setFldAt
    | with_reducible apply Kept.setFld
    | with_reducible apply Kept.setBitAt
    | with_reducible apply Kept.setBit
    | with_reducible apply Kept.step (kept_State_recomputeLimit _)
    | (dsimp only [Kept.mk_form]; with_reducible apply KeptMk.intro (_h0 := rfl) (h3 := rfl))
    | split
    | refine Kept.ite ?_ ?_
    | refine KeptOut.ite ?_ ?_

theorem kept_execVaultReplayStart (s : State) : KeptOut [Fld.VLT_STATUS.REPLAYING] s (execVaultReplayStart s) := by
  unfold execVaultReplayStart
  try dsimp only
  repeat' first
    | exact (rfl : (_ : Bool) = _)
    | with_reducible exact Kept.refl
    | with_reducible assumption
    | with_reducible refine KeptOut.next ?_
    | with_reducible refine KeptOut.ite ?_ ?_
    | with_reducible refine Kept.ite ?_ ?_
    | with_reducible apply Kept.setBitAt
    | with_reducible apply Kept.setBit
    | (dsimp only [Kept.mk_form]; with_reducible apply KeptMk.intro (_h0 := rfl) (h3 := rfl))
    | split
    | refine Kept.ite ?_ ?_
    | refine KeptOut.ite ?_ ?_

theorem kept_State_restoreBow (s : State) (b : BowSave) : Kept [] s (State.restoreBow s b) := by
  unfold State.restoreBow
  try dsimp only
  repeat' first
    | exact (rfl : (_ : Bool) = _)
    | with_reducible exact Kept.refl
    | (dsimp only [Kept.mk_form]; with_reducible apply KeptMk.intro (_h0 := rfl) (h3 := rfl))

theorem kept_State_mirrorDirty (s : State) : Kept [Fld.MIRROR_BYTES] s (State.mirrorDirty s) := by
  unfold State.mirrorDirty
  try dsimp only
  repeat' first
    | exact (rfl : (_ : Bool) = _)
    | with_reducible exact Kept.refl
    | with_reducible assumption
    | with_reducible apply Kept.step (kept_State_mirror _ _)
    | with_reducible refine Kept.foldl (fun _ _ _ => ?_) ?_
    | with_reducible refine Kept.foldlFst (fun _ _ _ => ?_) ?_
    | with_reducible refine Kept.foldlSnd (fun _ _ _ => ?_) ?_
    | dsimp only

theorem kept_execVaultRestoreDone (s : State) : KeptOut [Fld.WC_STATUS.OVER_LIMIT, Fld.WC_STATUS.UNPROTECTED, Fld.WC_UNPROT_MS] s (execVaultRestoreDone s) := by
  unfold execVaultRestoreDone
  try dsimp only
  repeat' first
    | exact (rfl : (_ : Bool) = _)
    | with_reducible exact Kept.refl
    | with_reducible assumption
    | with_reducible refine KeptOut.next ?_
    | with_reducible refine KeptOut.ite ?_ ?_
    | with_reducible refine Kept.ite ?_ ?_
    | with_reducible apply Kept.step (kept_State_noteLimit _)
    | with_reducible apply Kept.step (kept_State_restoreBow _ _)
    | with_reducible apply Kept.step (kept_State_restoreSector _ _)
    | with_reducible refine Kept.foldl (fun _ _ _ => ?_) ?_
    | (dsimp only [Kept.mk_form]; with_reducible apply KeptMk.intro (_h0 := rfl) (h3 := rfl))
    | split
    | dsimp only
    | refine Kept.ite ?_ ?_
    | refine KeptOut.ite ?_ ?_

theorem kept_State_startResync (s : State) : Kept [] s (State.startResync s) := by
  unfold State.startResync
  try dsimp only
  repeat' first
    | exact (rfl : (_ : Bool) = _)
    | with_reducible exact Kept.refl
    | with_reducible assumption
    | with_reducible refine Kept.ite ?_ ?_
    | with_reducible apply Kept.step (kept_State_putArr _ _ _)
    | with_reducible refine Kept.foldl (fun _ _ _ => ?_) ?_
    | (dsimp only [Kept.mk_form]; with_reducible apply KeptMk.intro (_h0 := rfl) (h3 := rfl))
    | split
    | refine Kept.ite ?_ ?_

theorem kept_State_restoreRest (s : State) (seq : Nat) (l : List DumpSector) : Kept [Fld.HFE_DWE_STATUS.ENTRIES, Fld.HFE_DWE_STATUS.OVERFLOW, Fld.MIRROR_BYTES] s (State.restoreRest s seq l).1 := by
  unfold State.restoreRest
  try dsimp only
  repeat' first
    | exact (rfl : (_ : Bool) = _)
    | with_reducible exact Kept.refl
    | with_reducible assumption
    | with_reducible apply Kept.step (kept_State_deferError _ _ _ _ _)
    | with_reducible apply Kept.step (kept_State_restoreSector _ _)
    | with_reducible refine Kept.foldl (fun _ _ _ => ?_) ?_
    | with_reducible refine Kept.foldlFst (fun _ _ _ => ?_) ?_
    | with_reducible refine Kept.foldlSnd (fun _ _ _ => ?_) ?_
    | (dsimp only [Kept.mk_form]; with_reducible apply KeptMk.intro (_h0 := rfl) (h3 := rfl))
    | split
    | dsimp only

theorem kept_execVaultReplayComplete (s : State) : KeptOut [Fld.HFE_DWE_STATUS.ENTRIES, Fld.HFE_DWE_STATUS.OVERFLOW, Fld.HFE_STATUS.REPLAY_PENDING, Fld.MIRROR_BYTES, Fld.PWR_REPLAY_MS, Fld.VLT_STATUS.REPLAYING, Fld.WC_REPLAY.RESULT, Fld.WC_REPLAY.UNRESTORED, Fld.WC_STATUS.OVER_LIMIT, Fld.WC_STATUS.UNPROTECTED, Fld.WC_UNPROT_MS] s (execVaultReplayComplete s) := by
  unfold execVaultReplayComplete
  try dsimp only
  repeat' first
    | exact (rfl : (_ : Bool) = _)
    | with_reducible exact Kept.refl
    | with_reducible assumption
    | with_reducible refine KeptOut.next ?_
    | with_reducible refine KeptOut.ite ?_ ?_
    | with_reducible refine Kept.ite ?_ ?_
    | with_reducible apply Kept.setFldAt
    | with_reducible apply Kept.setFld
    | with_reducible apply Kept.setBitAt
    | with_reducible apply Kept.setBit
    | with_reducible apply Kept.step (kept_State_mirrorDirty _)
    | with_reducible apply Kept.step (kept_State_noteLimit _)
    | with_reducible apply Kept.step (kept_State_restoreRest _ _ _)
    | with_reducible apply Kept.step (kept_State_startResync _)
    | (dsimp only [Kept.mk_form]; with_reducible apply KeptMk.intro (_h0 := rfl) (h3 := rfl))
    | split
    | dsimp only
    | refine Kept.ite ?_ ?_
    | refine KeptOut.ite ?_ ?_
    | refine Kept.step (Kept.ofFst (kept_State_restoreRest _ _ _) (by with_reducible assumption)) ?_ ?_

theorem kept_State_resyncOne (s : State) (a : ArrayId) (x : Option (Bool × Nat)) (so : State) (ho : State.resyncOne s a x = some so) : Kept [Fld.ARR_STATE.LOST_OVERFLOW, Fld.HFE_DWE_STATUS.ENTRIES, Fld.HFE_DWE_STATUS.OVERFLOW, Fld.MIRROR_BYTES, Fld.RBE_LOST_COUNT.ENTRIES, Fld.RBE_LOST_COUNT.OVERFLOW] s so := by
  unfold State.resyncOne at ho
  try dsimp only at ho
  repeat' first
    | contradiction
    | (have ho := Option.some.inj ho; subst ho)
    | split at ho
  all_goals repeat' first
    | exact (rfl : (_ : Bool) = _)
    | with_reducible exact Kept.refl
    | with_reducible assumption
    | with_reducible refine Kept.ite ?_ ?_
    | with_reducible apply Kept.step (kept_State_resyncStripe _ _ _ _)
    | (dsimp only [Kept.mk_form]; with_reducible apply KeptMk.intro (_h0 := rfl) (h3 := rfl))
    | split
    | dsimp only
    | refine Kept.ite ?_ ?_

theorem kept_execResyncScanStep (a : ArrayId) (s : State) : KeptOut [Fld.ARR_STATE.LOST_OVERFLOW, Fld.HFE_DWE_STATUS.ENTRIES, Fld.HFE_DWE_STATUS.OVERFLOW, Fld.MIRROR_BYTES, Fld.RBE_LOST_COUNT.ENTRIES, Fld.RBE_LOST_COUNT.OVERFLOW] s (execResyncScanStep a s) := by
  unfold execResyncScanStep
  try dsimp only
  repeat' first
    | exact (rfl : (_ : Bool) = _)
    | with_reducible exact Kept.refl
    | with_reducible assumption
    | with_reducible refine KeptOut.next ?_
    | with_reducible refine KeptOut.ite ?_ ?_
    | with_reducible refine Kept.ite ?_ ?_
    | with_reducible apply Kept.step (kept_State_putArr _ _ _)
    | (dsimp only [Kept.mk_form]; with_reducible apply KeptMk.intro (_h0 := rfl) (h3 := rfl))
    | split
    | refine Kept.ite ?_ ?_
    | refine KeptOut.ite ?_ ?_
    | refine Kept.step (kept_State_resyncOne _ _ _ _ (by with_reducible assumption)) ?_ ?_


/-! ### Machine/CapoOps.lean -/

theorem kept_State_setRole (s : State) (r : Nat) : Kept [Fld.CAPO_STATUS.ROLE] s (State.setRole s r) := by
  unfold State.setRole
  try dsimp only
  repeat' first
    | exact (rfl : (_ : Bool) = _)
    | with_reducible exact Kept.refl
    | with_reducible apply Kept.setFldAt
    | with_reducible apply Kept.setFld

theorem kept_State_driveCapo (s : State) : Kept [Fld.CAPO_STATUS.DRIVE] s (State.driveCapo s) := by
  unfold State.driveCapo
  try dsimp only
  repeat' first
    | exact (rfl : (_ : Bool) = _)
    | with_reducible exact Kept.refl
    | with_reducible apply Kept.setFldAt
    | with_reducible apply Kept.setFld

theorem kept_State_lineFault (s : State) : Kept [Fld.ARR_STATE.LOST_OVERFLOW, Fld.CAPACITY, Fld.CAPO_STATUS.DRIVE, Fld.CAPO_STATUS.GATE_OPEN, Fld.CAPO_STATUS.IDLE_REASON, Fld.CAPO_STATUS.LINE_FAULT, Fld.CAPO_STATUS.ROLE, Fld.DRIVE_SERIAL, Fld.ERR_INFO.DRIVE_STATUS, Fld.ERR_INFO.KIND, Fld.ERR_INFO.SLOT, Fld.HFE_DWE_STATUS.ENTRIES, Fld.HFE_DWE_STATUS.OVERFLOW, Fld.LINK_STATUS.LINK_UP, Fld.LINK_STATUS.PWREN, Fld.LINK_STATUS.RATE, Fld.LINK_STATUS.WIDTH, Fld.MIRROR_BYTES, Fld.OUTSTANDING.C0_SLOTS, Fld.OUTSTANDING.SLOTS, Fld.PORT_STATE.STATE, Fld.RBE_LOST_COUNT.ENTRIES, Fld.RBE_LOST_COUNT.OVERFLOW, Fld.RESET_COUNT, Fld.RETRY_COUNT, Fld.WRITE_GATE_ABORTS] s (State.lineFault s) := by
  unfold State.lineFault
  try dsimp only
  repeat' first
    | exact (rfl : (_ : Bool) = _)
    | with_reducible exact Kept.refl
    | with_reducible refine Kept.ite ?_ ?_
    | with_reducible apply Kept.setFldAt
    | with_reducible apply Kept.setFld
    | with_reducible apply Kept.setBitAt
    | with_reducible apply Kept.setBit
    | with_reducible apply Kept.step (kept_State_closeGate _)
    | with_reducible apply Kept.step (kept_State_driveCapo _)
    | with_reducible apply Kept.step (kept_State_emit _ _ _)
    | with_reducible apply Kept.step (kept_State_setRole _ _)
    | (dsimp only [Kept.mk_form]; with_reducible apply KeptMk.intro (_h0 := rfl) (h3 := rfl))
    | split
    | refine Kept.ite ?_ ?_

theorem kept_State_mirrorOff (s : State) : Kept [Fld.HFE_COLLECT_MAX.MAX_DEPTH, Fld.MIRROR_BYTES, Fld.PAIR_STATUS.MIRROR_ON, Fld.PAIR_STATUS.SYNCING, Fld.WC_STATUS.MIRROR_ON] s (State.mirrorOff s) := by
  unfold State.mirrorOff
  try dsimp only
  repeat' first
    | exact (rfl : (_ : Bool) = _)
    | with_reducible exact Kept.refl
    | with_reducible apply Kept.setBitAt
    | with_reducible apply Kept.setBit
    | with_reducible apply Kept.step (kept_State_mirrorWake _)
    | (dsimp only [Kept.mk_form]; with_reducible apply KeptMk.intro (_h0 := rfl) (h3 := rfl))
    | dsimp only

theorem kept_State_sendHealth (s : State) : Kept [] s (State.sendHealth s) := by
  unfold State.sendHealth
  try dsimp only
  repeat' first
    | exact (rfl : (_ : Bool) = _)
    | with_reducible exact Kept.refl
    | (dsimp only [Kept.mk_form]; with_reducible apply KeptMk.intro (_h0 := rfl) (h3 := rfl))

theorem kept_State_beginClaim (s : State) : Kept [Fld.CAPO_STATUS.DRIVE, Fld.CAPO_STATUS.IDLE_REASON, Fld.CAPO_STATUS.ROLE] s (State.beginClaim s) := by
  unfold State.beginClaim
  try dsimp only
  repeat' first
    | exact (rfl : (_ : Bool) = _)
    | with_reducible exact Kept.refl
    | with_reducible refine Kept.ite ?_ ?_
    | with_reducible apply Kept.setFldAt
    | with_reducible apply Kept.setFld
    | with_reducible apply Kept.step (kept_State_driveCapo _)
    | with_reducible apply Kept.step (kept_State_setRole _ _)
    | (dsimp only [Kept.mk_form]; with_reducible apply KeptMk.intro (_h0 := rfl) (h3 := rfl))
    | split
    | refine Kept.ite ?_ ?_

theorem kept_State_beginRelease (s : State) (cause : Nat) : Kept [Fld.ARR_STATE.LOST_OVERFLOW, Fld.CAPACITY, Fld.CAPO_STATUS.GATE_OPEN, Fld.CAPO_STATUS.ROLE, Fld.DRIVE_SERIAL, Fld.ERR_INFO.DRIVE_STATUS, Fld.ERR_INFO.KIND, Fld.ERR_INFO.SLOT, Fld.HFE_DWE_STATUS.ENTRIES, Fld.HFE_DWE_STATUS.OVERFLOW, Fld.LINK_STATUS.LINK_UP, Fld.LINK_STATUS.PWREN, Fld.LINK_STATUS.RATE, Fld.LINK_STATUS.WIDTH, Fld.MIRROR_BYTES, Fld.OUTSTANDING.C0_SLOTS, Fld.OUTSTANDING.SLOTS, Fld.PORT_STATE.STATE, Fld.RBE_LOST_COUNT.ENTRIES, Fld.RBE_LOST_COUNT.OVERFLOW, Fld.RESET_COUNT, Fld.RETRY_COUNT, Fld.WRITE_GATE_ABORTS] s (State.beginRelease s cause) := by
  unfold State.beginRelease
  try dsimp only
  repeat' first
    | exact (rfl : (_ : Bool) = _)
    | with_reducible exact Kept.refl
    | with_reducible apply Kept.step (kept_State_closeGate _)
    | with_reducible apply Kept.step (kept_State_setRole _ _)
    | (dsimp only [Kept.mk_form]; with_reducible apply KeptMk.intro (_h0 := rfl) (h3 := rfl))
    | dsimp only

theorem kept_State_leaveUpdates (s : State) : Kept [] s (State.leaveUpdates s) := by
  unfold State.leaveUpdates
  try dsimp only
  repeat' first
    | exact (rfl : (_ : Bool) = _)
    | with_reducible exact Kept.refl
    | with_reducible assumption
    | with_reducible apply Kept.step (kept_State_withLines _ _)
    | with_reducible refine Kept.foldl (fun _ _ _ => ?_) ?_
    | (dsimp only [Kept.mk_form]; with_reducible apply KeptMk.intro (_h0 := rfl) (h3 := rfl))

theorem kept_State_endRelease (s : State) : Kept [Fld.CAPO_STATUS.DRIVE, Fld.CAPO_STATUS.ROLE, Fld.HFE_COLLECT_MAX.MAX_DEPTH, Fld.MIRROR_BYTES, Fld.PAIR_STATUS.MIRROR_ON, Fld.PAIR_STATUS.SYNCING, Fld.WC_STATUS.MIRROR_ON] s (State.endRelease s) := by
  unfold State.endRelease
  try dsimp only
  repeat' first
    | exact (rfl : (_ : Bool) = _)
    | with_reducible exact Kept.refl
    | with_reducible apply Kept.step (kept_State_driveCapo _)
    | with_reducible apply Kept.step (kept_State_leaveUpdates _)
    | with_reducible apply Kept.step (kept_State_mirrorOff _)
    | with_reducible apply Kept.step (kept_State_setRole _ _)
    | (dsimp only [Kept.mk_form]; with_reducible apply KeptMk.intro (_h0 := rfl) (h3 := rfl))

theorem kept_State_withdraw (s : State) : Kept [Fld.ARR_STATE.LOST_OVERFLOW, Fld.CAPACITY, Fld.CAPO_STATUS.DRIVE, Fld.CAPO_STATUS.GATE_OPEN, Fld.CAPO_STATUS.ROLE, Fld.DRIVE_SERIAL, Fld.ERR_INFO.DRIVE_STATUS, Fld.ERR_INFO.KIND, Fld.ERR_INFO.SLOT, Fld.HFE_DWE_STATUS.ENTRIES, Fld.HFE_DWE_STATUS.OVERFLOW, Fld.LINK_STATUS.LINK_UP, Fld.LINK_STATUS.PWREN, Fld.LINK_STATUS.RATE, Fld.LINK_STATUS.WIDTH, Fld.MIRROR_BYTES, Fld.OUTSTANDING.C0_SLOTS, Fld.OUTSTANDING.SLOTS, Fld.PORT_STATE.STATE, Fld.RBE_LOST_COUNT.ENTRIES, Fld.RBE_LOST_COUNT.OVERFLOW, Fld.RESET_COUNT, Fld.RETRY_COUNT, Fld.WRITE_GATE_ABORTS] s (State.withdraw s) := by
  unfold State.withdraw
  try dsimp only
  repeat' first
    | exact (rfl : (_ : Bool) = _)
    | with_reducible exact Kept.refl
    | with_reducible refine Kept.ite ?_ ?_
    | with_reducible apply Kept.step (kept_State_beginRelease _ _)
    | with_reducible apply Kept.step (kept_State_driveCapo _)
    | with_reducible apply Kept.step (kept_State_setRole _ _)
    | (dsimp only [Kept.mk_form]; with_reducible apply KeptMk.intro (_h0 := rfl) (h3 := rfl))
    | split
    | refine Kept.ite ?_ ?_

theorem kept_State_seeClass (s : State) : Kept [Fld.ARR_STATE.LOST_OVERFLOW, Fld.CAPACITY, Fld.CAPO_STATUS.DRIVE, Fld.CAPO_STATUS.GATE_OPEN, Fld.CAPO_STATUS.IDLE_REASON, Fld.CAPO_STATUS.LINE_FAULT, Fld.CAPO_STATUS.ROLE, Fld.DRIVE_SERIAL, Fld.ERR_INFO.DRIVE_STATUS, Fld.ERR_INFO.KIND, Fld.ERR_INFO.SLOT, Fld.HFE_DWE_STATUS.ENTRIES, Fld.HFE_DWE_STATUS.OVERFLOW, Fld.LINK_STATUS.LINK_UP, Fld.LINK_STATUS.PWREN, Fld.LINK_STATUS.RATE, Fld.LINK_STATUS.WIDTH, Fld.MIRROR_BYTES, Fld.OUTSTANDING.C0_SLOTS, Fld.OUTSTANDING.SLOTS, Fld.PORT_STATE.STATE, Fld.RBE_LOST_COUNT.ENTRIES, Fld.RBE_LOST_COUNT.OVERFLOW, Fld.RESET_COUNT, Fld.RETRY_COUNT, Fld.WRITE_GATE_ABORTS] s (State.seeClass s) := by
  unfold State.seeClass
  try dsimp only
  repeat' first
    | exact (rfl : (_ : Bool) = _)
    | with_reducible exact Kept.refl
    | with_reducible assumption
    | with_reducible refine Kept.ite ?_ ?_
    | with_reducible apply Kept.step (kept_State_closeGate _)
    | with_reducible apply Kept.step (kept_State_driveCapo _)
    | with_reducible apply Kept.step (kept_State_lineFault _)
    | with_reducible apply Kept.step (kept_State_withdraw _)
    | (dsimp only [Kept.mk_form]; with_reducible apply KeptMk.intro (_h0 := rfl) (h3 := rfl))
    | split
    | refine Kept.ite ?_ ?_

theorem kept_State_mirrorSector (s : State) (nsid lba : Nat) (sec : CSec) (cls seq : Nat) : Kept [] s (State.mirrorSector s nsid lba sec cls seq) := by
  unfold State.mirrorSector
  try dsimp only
  repeat' first
    | exact (rfl : (_ : Bool) = _)
    | with_reducible exact Kept.refl
    | (dsimp only [Kept.mk_form]; with_reducible apply KeptMk.intro (_h0 := rfl) (h3 := rfl))
    | dsimp only

theorem kept_State_mirrorContext (s : State) (u : Update) : Kept [] s (State.mirrorContext s u) := by
  unfold State.mirrorContext
  try dsimp only
  repeat' first
    | exact (rfl : (_ : Bool) = _)
    | with_reducible exact Kept.refl
    | with_reducible assumption
    | with_reducible refine Kept.ite ?_ ?_
    | with_reducible apply Kept.step (kept_State_withLines _ _)
    | with_reducible refine Kept.foldl (fun _ _ _ => ?_) ?_
    | (dsimp only [Kept.mk_form]; with_reducible apply KeptMk.intro (_h0 := rfl) (h3 := rfl))
    | split
    | refine Kept.ite ?_ ?_

theorem kept_State_mirrorDone (s : State) (id : Nat) : Kept [] s (State.mirrorDone s id) := by
  unfold State.mirrorDone
  try dsimp only
  repeat' first
    | exact (rfl : (_ : Bool) = _)
    | with_reducible exact Kept.refl
    | with_reducible assumption
    | with_reducible refine Kept.ite ?_ ?_
    | with_reducible apply Kept.step (kept_State_withLines _ _)
    | with_reducible refine Kept.foldl (fun _ _ _ => ?_) ?_
    | (dsimp only [Kept.mk_form]; with_reducible apply KeptMk.intro (_h0 := rfl) (h3 := rfl))
    | split
    | refine Kept.ite ?_ ?_

theorem kept_State_mirrorArr (s : State) (a : ArrayId) (f : Arr → Arr) : Kept [] s (State.mirrorArr s a f) := by
  unfold State.mirrorArr
  try dsimp only
  repeat' first
    | exact (rfl : (_ : Bool) = _)
    | with_reducible exact Kept.refl
    | with_reducible assumption
    | with_reducible apply Kept.step (kept_State_putArr _ _ _)
    | (dsimp only [Kept.mk_form]; with_reducible apply KeptMk.intro (_h0 := rfl) (h3 := rfl))
    | split

theorem kept_State_mirrorIn (s : State) (i : MirrorItem) : Kept [Fld.ARR_STATE.LOST_OVERFLOW, Fld.HFE_DWE_STATUS.ENTRIES, Fld.HFE_DWE_STATUS.OVERFLOW, Fld.MIRROR_BYTES, Fld.RBE_LOST_COUNT.ENTRIES, Fld.RBE_LOST_COUNT.OVERFLOW] s (State.mirrorIn s i) := by
  unfold State.mirrorIn
  try dsimp only
  repeat' first
    | exact (rfl : (_ : Bool) = _)
    | with_reducible exact Kept.refl
    | with_reducible assumption
    | with_reducible refine Kept.ite ?_ ?_
    | with_reducible apply Kept.step (kept_State_deferError _ _ _ _ _)
    | with_reducible apply Kept.step (kept_State_listLost _ _)
    | with_reducible apply Kept.step (kept_State_mirrorArr _ _ _)
    | with_reducible apply Kept.step (kept_State_mirrorContext _ _)
    | with_reducible apply Kept.step (kept_State_mirrorDone _ _)
    | with_reducible apply Kept.step (kept_State_mirrorSector _ _ _ _ _ _)
    | (dsimp only [Kept.mk_form]; with_reducible apply KeptMk.intro (_h0 := rfl) (h3 := rfl))
    | split
    | dsimp only
    | refine Kept.ite ?_ ?_

theorem kept_State_retireOwn (s : State) : Kept [Fld.HFE_STATUS.REPLAY_PENDING, Fld.VLT_AREA.STATE] s (State.retireOwn s) := by
  unfold State.retireOwn
  try dsimp only
  repeat' first
    | exact (rfl : (_ : Bool) = _)
    | with_reducible exact Kept.refl
    | with_reducible assumption
    | with_reducible refine Kept.ite ?_ ?_
    | with_reducible apply Kept.setFldAt
    | with_reducible apply Kept.setFld
    | with_reducible apply Kept.setBitAt
    | with_reducible apply Kept.setBit
    | with_reducible refine Kept.foldl (fun _ _ _ => ?_) ?_
    | with_reducible refine Kept.foldlFst (fun _ _ _ => ?_) ?_
    | with_reducible refine Kept.foldlSnd (fun _ _ _ => ?_) ?_
    | (dsimp only [Kept.mk_form]; with_reducible apply KeptMk.intro (_h0 := rfl) (h3 := rfl))
    | split
    | dsimp only
    | refine Kept.ite ?_ ?_

theorem kept_State_standBy (s : State) : Kept [Fld.CAPO_STATUS.DRIVE, Fld.CAPO_STATUS.IDLE_REASON, Fld.CAPO_STATUS.ROLE] s (State.standBy s) := by
  unfold State.standBy
  try dsimp only
  repeat' first
    | exact (rfl : (_ : Bool) = _)
    | with_reducible exact Kept.refl
    | with_reducible apply Kept.setFldAt
    | with_reducible apply Kept.setFld
    | with_reducible apply Kept.step (kept_State_driveCapo _)
    | with_reducible apply Kept.step (kept_State_setRole _ _)
    | (dsimp only [Kept.mk_form]; with_reducible apply KeptMk.intro (_h0 := rfl) (h3 := rfl))

theorem kept_State_becomeStandby (s : State) : Kept [Fld.CAPO_STATUS.DRIVE, Fld.CAPO_STATUS.IDLE_REASON, Fld.CAPO_STATUS.ROLE, Fld.HFE_STATUS.REPLAY_PENDING, Fld.VLT_AREA.STATE] s (State.becomeStandby s) := by
  unfold State.becomeStandby
  try dsimp only
  repeat' first
    | exact (rfl : (_ : Bool) = _)
    | with_reducible exact Kept.refl
    | with_reducible apply Kept.step (kept_State_retireOwn _)
    | with_reducible apply Kept.step (kept_State_standBy _)

theorem kept_State_standbyOfClaimer (s : State) : Kept [Fld.CAPO_STATUS.DRIVE, Fld.CAPO_STATUS.IDLE_REASON, Fld.CAPO_STATUS.ROLE] s (State.standbyOfClaimer s) := by
  unfold State.standbyOfClaimer
  try dsimp only
  repeat' first
    | exact (rfl : (_ : Bool) = _)
    | with_reducible exact Kept.refl
    | with_reducible apply Kept.step (kept_State_standBy _)
    | (dsimp only [Kept.mk_form]; with_reducible apply KeptMk.intro (_h0 := rfl) (h3 := rfl))
    | dsimp only

theorem kept_State_retireWaiting (s : State) : Kept [Fld.HFE_STATUS.REPLAY_PENDING, Fld.VLT_AREA.STATE] s (State.retireWaiting s) := by
  unfold State.retireWaiting
  try dsimp only
  repeat' first
    | exact (rfl : (_ : Bool) = _)
    | with_reducible exact Kept.refl
    | with_reducible refine Kept.ite ?_ ?_
    | with_reducible apply Kept.step (kept_State_retireOwn _)
    | (dsimp only [Kept.mk_form]; with_reducible apply KeptMk.intro (_h0 := rfl) (h3 := rfl))
    | split
    | refine Kept.ite ?_ ?_

theorem kept_State_becomeActive (s : State) : Kept [Fld.CAPO_STATUS.IDLE_REASON, Fld.CAPO_STATUS.ROLE, Fld.PAIR_STATUS.MIRROR_ON, Fld.PAIR_STATUS.STATE_COMPLETE] s (State.becomeActive s) := by
  unfold State.becomeActive
  try dsimp only
  repeat' first
    | exact (rfl : (_ : Bool) = _)
    | with_reducible exact Kept.refl
    | with_reducible apply Kept.setFldAt
    | with_reducible apply Kept.setFld
    | with_reducible apply Kept.setBitAt
    | with_reducible apply Kept.setBit
    | with_reducible apply Kept.step (kept_State_setRole _ _)
    | (dsimp only [Kept.mk_form]; with_reducible apply KeptMk.intro (_h0 := rfl) (h3 := rfl))

theorem kept_State_capoIgnored (s : State) (cmd : Nat) : Kept [] s (State.capoIgnored s cmd) := by
  unfold State.capoIgnored
  try dsimp only
  repeat' first
    | exact (rfl : (_ : Bool) = _)
    | with_reducible exact Kept.refl
    | with_reducible apply Kept.step (kept_State_emit _ _ _)


end Sys2Proof.Machine
end

