-- ==== Sys2Proof/Laws/KeptMid.lean ====
section
/-!
SUPPORT. Laws/KeptMid.lean: for each operation of FedOps, Energy, Calibration, Fans, PwrOps, Mapper, RebOps, HfeOps, Admin, Capo (in Machine/),
the register fields that it may change.
-/
set_option linter.unreachableTactic false
set_option linter.unusedTactic false
namespace Sys2Proof.Machine

/-! ### Machine/FedOps.lean -/

theorem kept_State_withFed (s : State) (f : Fed) : Kept [] s (State.withFed s f) := by
  unfold State.withFed
  try dsimp only
  repeat' first
    | exact (rfl : (_ : Bool) = _)
    | with_reducible exact Kept.refl
    | (dsimp only [Kept.mk_form]; with_reducible apply KeptMk.intro (_h0 := rfl) (h3 := rfl))

theorem kept_State_fedSend (s : State) (m : FedMsg) : Kept [] s (State.fedSend s m) := by
  unfold State.fedSend
  try dsimp only
  repeat' first
    | exact (rfl : (_ : Bool) = _)
    | with_reducible exact Kept.refl
    | with_reducible apply Kept.step (kept_State_withFed _ _)
    | (dsimp only [Kept.mk_form]; with_reducible apply KeptMk.intro (_h0 := rfl) (h3 := rfl))

theorem kept_State_letJoin (s : State) (node device : Nat) : Kept [Fld.FED_STATUS.REFUSE_REASON] s (State.letJoin s node device) := by
  unfold State.letJoin
  try dsimp only
  repeat' first
    | exact (rfl : (_ : Bool) = _)
    | with_reducible exact Kept.refl
    | with_reducible refine Kept.ite ?_ ?_
    | with_reducible apply Kept.setFldAt
    | with_reducible apply Kept.setFld
    | with_reducible apply Kept.step (kept_State_withFed _ _)
    | (dsimp only [Kept.mk_form]; with_reducible apply KeptMk.intro (_h0 := rfl) (h3 := rfl))
    | split
    | refine Kept.ite ?_ ?_

theorem kept_State_refuseJoin (s : State) (reason node : Nat) : Kept [Fld.FED_REFUSED] s (State.refuseJoin s reason node) := by
  unfold State.refuseJoin
  try dsimp only
  repeat' first
    | exact (rfl : (_ : Bool) = _)
    | with_reducible exact Kept.refl
    | with_reducible apply Kept.incFldAt
    | with_reducible apply Kept.incFld
    | with_reducible apply Kept.step (kept_State_emit _ _ _)
    | with_reducible apply Kept.step (kept_State_fedSend _ _)
    | dsimp only

theorem kept_State_leaveFed (s : State) : Kept [Fld.PIT_STATUS.IS_GM, Fld.PIT_STATUS.SYNCED] s (State.leaveFed s) := by
  unfold State.leaveFed
  try dsimp only
  repeat' first
    | exact (rfl : (_ : Bool) = _)
    | with_reducible exact Kept.refl
    | with_reducible apply Kept.setBitAt
    | with_reducible apply Kept.setBit
    | with_reducible apply Kept.step (kept_State_withFed _ _)
    | (dsimp only [Kept.mk_form]; with_reducible apply KeptMk.intro (_h0 := rfl) (h3 := rfl))

theorem kept_State_hearHello (s : State) (h : Hello) : Kept [Fld.FED_REFUSED, Fld.FED_STATUS.REFUSE_REASON, Fld.PIT_STATUS.IS_GM, Fld.PIT_STATUS.SYNCED] s (State.hearHello s h) := by
  unfold State.hearHello
  try dsimp only
  repeat' first
    | exact (rfl : (_ : Bool) = _)
    | with_reducible exact Kept.refl
    | with_reducible assumption
    | with_reducible refine Kept.ite ?_ ?_
    | with_reducible apply Kept.setFldAt
    | with_reducible apply Kept.setFld
    | with_reducible apply Kept.step (kept_State_emit _ _ _)
    | with_reducible apply Kept.step (kept_State_leaveFed _)
    | with_reducible apply Kept.step (kept_State_letJoin _ _ _)
    | with_reducible apply Kept.step (kept_State_refuseJoin _ _ _)
    | (dsimp only [Kept.mk_form]; with_reducible apply KeptMk.intro (_h0 := rfl) (h3 := rfl))
    | split
    | dsimp only
    | refine Kept.ite ?_ ?_

theorem kept_State_elect (s : State) (cands : List Announce) : Kept [Fld.PIT_GM.CLASS, Fld.PIT_GM.DEPTH, Fld.PIT_GM.NODE, Fld.PIT_GM.PRIORITY, Fld.PIT_STATUS.HOLDOVER, Fld.PIT_STATUS.IS_GM, Fld.PIT_STATUS.SYNCED] s (State.elect s cands) := by
  unfold State.elect
  try dsimp only
  repeat' first
    | exact (rfl : (_ : Bool) = _)
    | with_reducible exact Kept.refl
    | with_reducible assumption
    | with_reducible refine Kept.ite ?_ ?_
    | with_reducible apply Kept.setFldAt
    | with_reducible apply Kept.setFld
    | with_reducible apply Kept.setBitAt
    | with_reducible apply Kept.setBit
    | with_reducible apply Kept.step (kept_State_withFed _ _)
    | (dsimp only [Kept.mk_form]; with_reducible apply KeptMk.intro (_h0 := rfl) (h3 := rfl))
    | split
    | refine Kept.ite ?_ ?_

theorem kept_State_pitDone (s : State) (err : Nat) : Kept [Fld.PIT_CMD_STATUS.DONE, Fld.PIT_CMD_STATUS.ERROR] s (State.pitDone s err) := by
  unfold State.pitDone
  try dsimp only
  repeat' first
    | exact (rfl : (_ : Bool) = _)
    | with_reducible exact Kept.refl
    | with_reducible apply Kept.setFldAt
    | with_reducible apply Kept.setFld
    | with_reducible apply Kept.setBitAt
    | with_reducible apply Kept.setBit

theorem kept_State_hostTime (s : State) (cls : Nat) : Kept [Fld.PIT_NOW, Fld.PIT_STATUS.CLASS, Fld.PIT_STATUS.VALID] s (State.hostTime s cls) := by
  unfold State.hostTime
  try dsimp only
  repeat' first
    | exact (rfl : (_ : Bool) = _)
    | with_reducible exact Kept.refl
    | with_reducible apply Kept.setFldAt
    | with_reducible apply Kept.setFld
    | with_reducible apply Kept.setBitAt
    | with_reducible apply Kept.setBit
    | with_reducible apply Kept.step (kept_State_withFed _ _)
    | (dsimp only [Kept.mk_form]; with_reducible apply KeptMk.intro (_h0 := rfl) (h3 := rfl))

theorem kept_State_putPluck (s : State) (i : Nat) (e : PluckEnt) : Kept [] s (State.putPluck s i e) := by
  unfold State.putPluck
  try dsimp only
  repeat' first
    | exact (rfl : (_ : Bool) = _)
    | with_reducible exact Kept.refl
    | with_reducible apply Kept.step (kept_State_withFed _ _)
    | (dsimp only [Kept.mk_form]; with_reducible apply KeptMk.intro (_h0 := rfl) (h3 := rfl))

theorem kept_State_installPluck (s : State) (i : Nat) (m : PluckMsg) : Kept [] s (State.installPluck s i m) := by
  unfold State.installPluck
  try dsimp only
  repeat' first
    | exact (rfl : (_ : Bool) = _)
    | with_reducible exact Kept.refl
    | with_reducible apply Kept.step (kept_State_putPluck _ _ _)
    | dsimp only

theorem kept_State_writePluck (s : State) : Kept [] s (State.writePluck s).2 := by
  unfold State.writePluck
  try dsimp only
  repeat' first
    | exact (rfl : (_ : Bool) = _)
    | with_reducible exact Kept.refl
    | with_reducible apply Kept.step (kept_State_installPluck _ _ _)
    | with_reducible apply Kept.step (kept_State_withFed _ _)
    | (dsimp only [Kept.mk_form]; with_reducible apply KeptMk.intro (_h0 := rfl) (h3 := rfl))
    | dsimp only

theorem kept_State_pluckDone (s : State) (err : Nat) : Kept [Fld.PLUCK_STATUS.DONE, Fld.PLUCK_STATUS.ERROR] s (State.pluckDone s err) := by
  unfold State.pluckDone
  try dsimp only
  repeat' first
    | exact (rfl : (_ : Bool) = _)
    | with_reducible exact Kept.refl
    | with_reducible apply Kept.setFldAt
    | with_reducible apply Kept.setFld
    | with_reducible apply Kept.setBitAt
    | with_reducible apply Kept.setBit

theorem kept_State_loadStanding (s : State) : Kept [] s (State.loadStanding s) := by
  unfold State.loadStanding
  try dsimp only
  repeat' first
    | exact (rfl : (_ : Bool) = _)
    | with_reducible exact Kept.refl
    | with_reducible apply Kept.step (kept_State_withFed _ _)
    | (dsimp only [Kept.mk_form]; with_reducible apply KeptMk.intro (_h0 := rfl) (h3 := rfl))
    | dsimp only

theorem kept_State_settlePluck (s : State) (i : Nat) (e : PluckEnt) (st : PluckSt) (reason : Nat) : Kept [] s (State.settlePluck s i e st reason) := by
  unfold State.settlePluck
  try dsimp only
  repeat' first
    | exact (rfl : (_ : Bool) = _)
    | with_reducible exact Kept.refl
    | with_reducible refine Kept.ite ?_ ?_
    | with_reducible apply Kept.step (kept_State_putPluck _ _ _)
    | (dsimp only [Kept.mk_form]; with_reducible apply KeptMk.intro (_h0 := rfl) (h3 := rfl))
    | split
    | refine Kept.ite ?_ ?_

theorem kept_State_dropPluck (s : State) (i : Nat) (e : PluckEnt) (reason : Nat) : Kept [Fld.PLUCK_DROP_COUNT] s (State.dropPluck s i e reason) := by
  unfold State.dropPluck
  try dsimp only
  repeat' first
    | exact (rfl : (_ : Bool) = _)
    | with_reducible exact Kept.refl
    | with_reducible apply Kept.incFldAt
    | with_reducible apply Kept.incFld
    | with_reducible apply Kept.step (kept_State_settlePluck _ _ _ _ _)

theorem kept_State_cutBarrier (s : State) (i te : Nat) : Kept [] s (State.cutBarrier s i te) := by
  unfold State.cutBarrier
  try dsimp only
  repeat' first
    | exact (rfl : (_ : Bool) = _)
    | with_reducible exact Kept.refl
    | with_reducible apply Kept.step (kept_State_withFed _ _)
    | (dsimp only [Kept.mk_form]; with_reducible apply KeptMk.intro (_h0 := rfl) (h3 := rfl))
    | dsimp only

theorem kept_State_dropBarriers (s : State) : Kept [Fld.PLUCK_DROP_COUNT] s (State.dropBarriers s) := by
  unfold State.dropBarriers
  try dsimp only
  repeat' first
    | exact (rfl : (_ : Bool) = _)
    | with_reducible exact Kept.refl
    | with_reducible assumption
    | with_reducible apply Kept.step (kept_State_dropPluck _ _ _ _)
    | with_reducible apply Kept.step (kept_State_withFed _ _)
    | with_reducible refine Kept.foldl (fun _ _ _ => ?_) ?_
    | (dsimp only [Kept.mk_form]; with_reducible apply KeptMk.intro (_h0 := rfl) (h3 := rfl))
    | split


/-! ### Machine/Energy.lean -/

theorem kept_State_holdupCheck (s : State) : Kept [Fld.NRG_STATUS.HOLDUP_EN, Fld.VLT_STATUS.DUMPING] s (State.holdupCheck s) := by
  unfold State.holdupCheck
  try dsimp only
  repeat' first
    | exact (rfl : (_ : Bool) = _)
    | with_reducible exact Kept.refl
    | with_reducible assumption
    | with_reducible refine Kept.ite ?_ ?_
    | with_reducible apply Kept.step (kept_State_dumpCut _ _)
    | with_reducible apply Kept.step (kept_State_setHoldup _ _)
    | with_reducible apply Kept.step (kept_State_used _)
    | (dsimp only [Kept.mk_form]; with_reducible apply KeptMk.intro (_h0 := rfl) (h3 := rfl))
    | split
    | refine Kept.ite ?_ ?_

theorem kept_execPackCutoff (pack : PackId) (temp : Bool) (s : State) : KeptOut [Fld.NRG_AVAIL_J.J, Fld.NRG_CAP_MAH, Fld.NRG_CMD_STATUS.BUSY, Fld.NRG_CMD_STATUS.DONE, Fld.NRG_CYCLES.X16, Fld.NRG_E_J.E_J, Fld.NRG_IMPEDANCE.R_FAST, Fld.NRG_IMPEDANCE.R_SLOW, Fld.NRG_LAST_LEARN, Fld.NRG_LAST_TEST, Fld.NRG_PACK_E_J.J, Fld.NRG_RESERVE_J.J, Fld.NRG_SOC.PERMILLE, Fld.NRG_STATUS.HOLDUP_EN, Fld.NRG_STATUS.LEARN_ACTIVE, Fld.NRG_STATUS.QUALIFIED_ANY, Fld.NRG_STATUS.TEST_ACTIVE, Fld.PACK_STATUS.CHARGE_PERMIT, Fld.PACK_STATUS.FAILED, Fld.PACK_STATUS.HEALTH, Fld.PACK_STATUS.LEARNING, Fld.PACK_STATUS.PACK_SERIAL, Fld.PACK_STATUS.QUALIFIED, Fld.PACK_STATUS.REPLACE, Fld.PACK_STATUS.TESTING, Fld.PACK_STATUS.TEST_RESULT, Fld.VLT_STATUS.DUMPING, Fld.WC_STATUS.UNPROTECTED, Fld.WC_UNPROT_MS] s (execPackCutoff pack temp s) := by
  unfold execPackCutoff
  try dsimp only
  repeat' first
    | exact (rfl : (_ : Bool) = _)
    | with_reducible exact Kept.refl
    | with_reducible assumption
    | with_reducible refine KeptOut.next ?_
    | with_reducible refine KeptOut.ite ?_ ?_
    | with_reducible refine Kept.ite ?_ ?_
    | with_reducible apply Kept.step (kept_State_endTest _ _ _)
    | with_reducible apply Kept.step (kept_State_holdupCheck _)
    | with_reducible apply Kept.step (kept_State_putPack _ _ _)
    | with_reducible apply Kept.step (kept_State_showNrg _)
    | (dsimp only [Kept.mk_form]; with_reducible apply KeptMk.intro (_h0 := rfl) (h3 := rfl))
    | split
    | dsimp only
    | refine Kept.ite ?_ ?_
    | refine KeptOut.ite ?_ ?_

theorem kept_execPackTempRecover (pack : PackId) (s : State) : KeptOut [] s (execPackTempRecover pack s) := by
  unfold execPackTempRecover
  try dsimp only
  repeat' first
    | exact (rfl : (_ : Bool) = _)
    | with_reducible exact Kept.refl
    | with_reducible refine KeptOut.next ?_
    | with_reducible refine KeptOut.ite ?_ ?_
    | with_reducible refine Kept.ite ?_ ?_
    | with_reducible apply Kept.step (kept_State_putPack _ _ _)
    | (dsimp only [Kept.mk_form]; with_reducible apply KeptMk.intro (_h0 := rfl) (h3 := rfl))
    | split
    | dsimp only
    | refine Kept.ite ?_ ?_
    | refine KeptOut.ite ?_ ?_

theorem kept_execGaugeEnergyCompute (sampleA sampleB : PackSample) (s : State) : KeptOut [Fld.NRG_AVAIL_J.J, Fld.NRG_CAP_MAH, Fld.NRG_COULOMB, Fld.NRG_CURR_MA, Fld.NRG_CYCLES.X16, Fld.NRG_E_J.E_J, Fld.NRG_IMPEDANCE.R_FAST, Fld.NRG_IMPEDANCE.R_SLOW, Fld.NRG_LAST_LEARN, Fld.NRG_LAST_TEST, Fld.NRG_PACK_E_J.J, Fld.NRG_RESERVE_J.J, Fld.NRG_SOC.PERMILLE, Fld.NRG_STATUS.LEARN_ACTIVE, Fld.NRG_STATUS.QUALIFIED_ANY, Fld.NRG_STATUS.TEST_ACTIVE, Fld.NRG_TEMP.DECI_C, Fld.NRG_VOLT_MV.MV, Fld.PACK_STATUS.CHARGE_PERMIT, Fld.PACK_STATUS.FAILED, Fld.PACK_STATUS.HEALTH, Fld.PACK_STATUS.LEARNING, Fld.PACK_STATUS.PACK_SERIAL, Fld.PACK_STATUS.QUALIFIED, Fld.PACK_STATUS.REPLACE, Fld.PACK_STATUS.TEMP_OUT, Fld.PACK_STATUS.TESTING, Fld.WC_STATUS.UNPROTECTED, Fld.WC_UNPROT_MS] s (execGaugeEnergyCompute sampleA sampleB s) := by
  unfold execGaugeEnergyCompute
  try dsimp only
  repeat' first
    | exact (rfl : (_ : Bool) = _)
    | with_reducible exact Kept.refl
    | with_reducible refine KeptOut.next ?_
    | with_reducible apply Kept.step (kept_State_computeEnergy _)
    | with_reducible apply Kept.step (kept_State_moveSoc _ _)
    | with_reducible apply Kept.step (kept_State_takeSample _ _ _)

theorem kept_execPackRemoved (pack : PackId) (s : State) : KeptOut [Fld.NRG_AVAIL_J.J, Fld.NRG_CAP_MAH, Fld.NRG_CMD_STATUS.BUSY, Fld.NRG_CMD_STATUS.DONE, Fld.NRG_CYCLES.X16, Fld.NRG_E_J.E_J, Fld.NRG_IMPEDANCE.R_FAST, Fld.NRG_IMPEDANCE.R_SLOW, Fld.NRG_LAST_LEARN, Fld.NRG_LAST_TEST, Fld.NRG_PACK_E_J.J, Fld.NRG_RESERVE_J.J, Fld.NRG_SOC.PERMILLE, Fld.NRG_STATUS.HOLDUP_EN, Fld.NRG_STATUS.LEARN_ACTIVE, Fld.NRG_STATUS.QUALIFIED_ANY, Fld.NRG_STATUS.TEST_ACTIVE, Fld.PACK_STATUS.CHARGE_PERMIT, Fld.PACK_STATUS.FAILED, Fld.PACK_STATUS.HEALTH, Fld.PACK_STATUS.LEARNING, Fld.PACK_STATUS.LEARN_RESULT, Fld.PACK_STATUS.PACK_SERIAL, Fld.PACK_STATUS.PRESENT, Fld.PACK_STATUS.QUALIFIED, Fld.PACK_STATUS.REPLACE, Fld.PACK_STATUS.TESTING, Fld.PACK_STATUS.TEST_RESULT, Fld.WC_LIMIT.MIB, Fld.WC_LIMIT_CFG.MIB, Fld.WC_LIMIT_ENERGY.MIB, Fld.WC_LIMIT_VAULT.MIB, Fld.WC_STATUS.AREA_READY, Fld.WC_STATUS.OVER_LIMIT, Fld.WC_STATUS.UNPROTECTED, Fld.WC_STATUS.WRITE_THROUGH, Fld.WC_UNPROT_MS] s (execPackRemoved pack s) := by
  unfold execPackRemoved
  try dsimp only
  repeat' first
    | exact (rfl : (_ : Bool) = _)
    | with_reducible exact Kept.refl
    | with_reducible refine KeptOut.next ?_
    | with_reducible refine KeptOut.ite ?_ ?_
    | with_reducible refine Kept.ite ?_ ?_
    | with_reducible apply Kept.setFldAt
    | with_reducible apply Kept.setFld
    | with_reducible apply Kept.setBitAt
    | with_reducible apply Kept.setBit
    | with_reducible apply Kept.step (kept_State_abortTest _ _)
    | with_reducible apply Kept.step (kept_State_computeEnergy _)
    | with_reducible apply Kept.step (kept_State_endLearn _ _ _)
    | with_reducible apply Kept.step (kept_State_endNrgCmd _ _)
    | with_reducible apply Kept.step (kept_State_putPack _ _ _)
    | with_reducible apply Kept.step (kept_State_recomputeLimit _)
    | (dsimp only [Kept.mk_form]; with_reducible apply KeptMk.intro (_h0 := rfl) (h3 := rfl))
    | split
    | dsimp only
    | refine Kept.ite ?_ ?_
    | refine KeptOut.ite ?_ ?_

theorem kept_execPackPresent (pack : PackId) (s : State) : KeptOut [Fld.NRG_AVAIL_J.J, Fld.NRG_CAP_MAH, Fld.NRG_COULOMB, Fld.NRG_CYCLES.X16, Fld.NRG_E_J.E_J, Fld.NRG_IMPEDANCE.R_FAST, Fld.NRG_IMPEDANCE.R_SLOW, Fld.NRG_LAST_LEARN, Fld.NRG_LAST_TEST, Fld.NRG_PACK_E_J.J, Fld.NRG_RESERVE_J.J, Fld.NRG_STATUS.LEARN_ACTIVE, Fld.NRG_STATUS.QUALIFIED_ANY, Fld.NRG_STATUS.TEST_ACTIVE, Fld.PACK_STATUS.CHARGE_PERMIT, Fld.PACK_STATUS.FAILED, Fld.PACK_STATUS.HEALTH, Fld.PACK_STATUS.LEARNING, Fld.PACK_STATUS.PACK_SERIAL, Fld.PACK_STATUS.PRESENT, Fld.PACK_STATUS.QUALIFIED, Fld.PACK_STATUS.REPLACE, Fld.PACK_STATUS.TESTING, Fld.WC_STATUS.UNPROTECTED, Fld.WC_UNPROT_MS] s (execPackPresent pack s) := by
  unfold execPackPresent
  try dsimp only
  repeat' first
    | exact (rfl : (_ : Bool) = _)
    | with_reducible exact Kept.refl
    | with_reducible refine KeptOut.next ?_
    | with_reducible refine KeptOut.ite ?_ ?_
    | with_reducible refine Kept.ite ?_ ?_
    | with_reducible apply Kept.setFldAt
    | with_reducible apply Kept.setFld
    | with_reducible apply Kept.setBitAt
    | with_reducible apply Kept.setBit
    | with_reducible apply Kept.step (kept_State_computeEnergy _)
    | with_reducible apply Kept.step (kept_State_putPack _ _ _)
    | with_reducible apply Kept.step (kept_State_replacePack _ _)
    | with_reducible apply Kept.step (kept_State_requestTest _ _)
    | (dsimp only [Kept.mk_form]; with_reducible apply KeptMk.intro (_h0 := rfl) (h3 := rfl))
    | split
    | refine Kept.ite ?_ ?_
    | refine KeptOut.ite ?_ ?_

theorem kept_execHoldupSelftestStart (pack : PackId) (s : State) : KeptOut [Fld.NRG_CAP_MAH, Fld.NRG_CYCLES.X16, Fld.NRG_IMPEDANCE.R_FAST, Fld.NRG_IMPEDANCE.R_SLOW, Fld.NRG_LAST_LEARN, Fld.NRG_LAST_TEST, Fld.NRG_STATUS.HOLDUP_EN, Fld.NRG_STATUS.LEARN_ACTIVE, Fld.NRG_STATUS.QUALIFIED_ANY, Fld.NRG_STATUS.TEST_ACTIVE, Fld.PACK_STATUS.CHARGE_PERMIT, Fld.PACK_STATUS.FAILED, Fld.PACK_STATUS.HEALTH, Fld.PACK_STATUS.LEARNING, Fld.PACK_STATUS.PACK_SERIAL, Fld.PACK_STATUS.QUALIFIED, Fld.PACK_STATUS.REPLACE, Fld.PACK_STATUS.TESTING] s (execHoldupSelftestStart pack s) := by
  unfold execHoldupSelftestStart
  try dsimp only
  repeat' first
    | exact (rfl : (_ : Bool) = _)
    | with_reducible exact Kept.refl
    | with_reducible refine KeptOut.next ?_
    | with_reducible refine KeptOut.ite ?_ ?_
    | with_reducible refine Kept.ite ?_ ?_
    | with_reducible apply Kept.step (kept_State_putPack _ _ _)
    | with_reducible apply Kept.step (kept_State_setHoldup _ _)
    | with_reducible apply Kept.step (kept_State_showNrg _)
    | (dsimp only [Kept.mk_form]; with_reducible apply KeptMk.intro (_h0 := rfl) (h3 := rfl))
    | split
    | dsimp only
    | refine Kept.ite ?_ ?_
    | refine KeptOut.ite ?_ ?_

theorem kept_execHoldupSelftestStep (mv : Nat) (ma : Int) (s : State) : KeptOut [Fld.NRG_AVAIL_J.J, Fld.NRG_CAP_MAH, Fld.NRG_CMD_STATUS.BUSY, Fld.NRG_CMD_STATUS.DONE, Fld.NRG_CYCLES.X16, Fld.NRG_E_J.E_J, Fld.NRG_IMPEDANCE.R_FAST, Fld.NRG_IMPEDANCE.R_SLOW, Fld.NRG_LAST_LEARN, Fld.NRG_LAST_TEST, Fld.NRG_PACK_E_J.J, Fld.NRG_RESERVE_J.J, Fld.NRG_SOC.PERMILLE, Fld.NRG_STATUS.HOLDUP_EN, Fld.NRG_STATUS.LEARN_ACTIVE, Fld.NRG_STATUS.QUALIFIED_ANY, Fld.NRG_STATUS.TEST_ACTIVE, Fld.PACK_STATUS.CHARGE_PERMIT, Fld.PACK_STATUS.FAILED, Fld.PACK_STATUS.HEALTH, Fld.PACK_STATUS.LEARNING, Fld.PACK_STATUS.PACK_SERIAL, Fld.PACK_STATUS.QUALIFIED, Fld.PACK_STATUS.REPLACE, Fld.PACK_STATUS.TESTING, Fld.PACK_STATUS.TEST_RESULT, Fld.WC_STATUS.UNPROTECTED, Fld.WC_UNPROT_MS] s (execHoldupSelftestStep mv ma s) := by
  unfold execHoldupSelftestStep
  try dsimp only
  repeat' first
    | exact (rfl : (_ : Bool) = _)
    | with_reducible exact Kept.refl
    | with_reducible assumption
    | with_reducible refine KeptOut.next ?_
    | with_reducible refine KeptOut.ite ?_ ?_
    | with_reducible refine Kept.ite ?_ ?_
    | with_reducible apply Kept.step (kept_State_endTest _ _ _)
    | with_reducible apply Kept.step (kept_State_judgeTest _ _ _)
    | with_reducible apply Kept.step (kept_State_putPack _ _ _)
    | (dsimp only [Kept.mk_form]; with_reducible apply KeptMk.intro (_h0 := rfl) (h3 := rfl))
    | split
    | dsimp only
    | refine Kept.ite ?_ ?_
    | refine KeptOut.ite ?_ ?_

theorem kept_execHoldupRetestTimer (pack : PackId) (s : State) : KeptOut [] s (execHoldupRetestTimer pack s) := by
  unfold execHoldupRetestTimer
  try dsimp only
  repeat' first
    | exact (rfl : (_ : Bool) = _)
    | with_reducible exact Kept.refl
    | with_reducible refine KeptOut.next ?_
    | with_reducible refine KeptOut.ite ?_ ?_
    | with_reducible refine Kept.ite ?_ ?_
    | with_reducible apply Kept.step (kept_State_requestTest _ _)
    | split
    | refine Kept.ite ?_ ?_
    | refine KeptOut.ite ?_ ?_

theorem kept_execHoldupTestAgeExpiry (pack : PackId) (s : State) : KeptOut [] s (execHoldupTestAgeExpiry pack s) := by
  unfold execHoldupTestAgeExpiry
  try dsimp only
  repeat' first
    | exact (rfl : (_ : Bool) = _)
    | with_reducible exact Kept.refl
    | with_reducible refine KeptOut.next ?_
    | with_reducible refine KeptOut.ite ?_ ?_
    | with_reducible refine Kept.ite ?_ ?_
    | with_reducible apply Kept.step (kept_State_requestTest _ _)
    | split
    | refine Kept.ite ?_ ?_
    | refine KeptOut.ite ?_ ?_

theorem kept_execHoldupStartupTest (s : State) : KeptOut [] s (execHoldupStartupTest s) := by
  unfold execHoldupStartupTest
  try dsimp only
  repeat' first
    | exact (rfl : (_ : Bool) = _)
    | with_reducible exact Kept.refl
    | with_reducible assumption
    | with_reducible refine KeptOut.next ?_
    | with_reducible refine KeptOut.ite ?_ ?_
    | with_reducible refine Kept.ite ?_ ?_
    | with_reducible apply Kept.step (kept_State_requestTest _ _)
    | with_reducible refine Kept.foldl (fun _ _ _ => ?_) ?_
    | split
    | refine Kept.ite ?_ ?_
    | refine KeptOut.ite ?_ ?_

theorem kept_execLearnStart (pack : PackId) (s : State) : KeptOut [Fld.NRG_CAP_MAH, Fld.NRG_CYCLES.X16, Fld.NRG_IMPEDANCE.R_FAST, Fld.NRG_IMPEDANCE.R_SLOW, Fld.NRG_LAST_LEARN, Fld.NRG_LAST_TEST, Fld.NRG_STATUS.LEARN_ACTIVE, Fld.NRG_STATUS.QUALIFIED_ANY, Fld.NRG_STATUS.TEST_ACTIVE, Fld.PACK_STATUS.CHARGE_PERMIT, Fld.PACK_STATUS.FAILED, Fld.PACK_STATUS.HEALTH, Fld.PACK_STATUS.LEARNING, Fld.PACK_STATUS.PACK_SERIAL, Fld.PACK_STATUS.QUALIFIED, Fld.PACK_STATUS.REPLACE, Fld.PACK_STATUS.TESTING] s (execLearnStart pack s) := by
  unfold execLearnStart
  try dsimp only
  repeat' first
    | exact (rfl : (_ : Bool) = _)
    | with_reducible exact Kept.refl
    | with_reducible refine KeptOut.next ?_
    | with_reducible refine KeptOut.ite ?_ ?_
    | with_reducible refine Kept.ite ?_ ?_
    | with_reducible apply Kept.step (kept_State_beginLearn _ _)
    | with_reducible apply Kept.step (kept_State_putPack _ _ _)
    | (dsimp only [Kept.mk_form]; with_reducible apply KeptMk.intro (_h0 := rfl) (h3 := rfl))
    | split
    | refine Kept.ite ?_ ?_
    | refine KeptOut.ite ?_ ?_

theorem kept_execLearnDischargeEnd (pack : PackId) (s : State) : KeptOut [] s (execLearnDischargeEnd pack s) := by
  unfold execLearnDischargeEnd
  try dsimp only
  repeat' first
    | exact (rfl : (_ : Bool) = _)
    | with_reducible exact Kept.refl
    | with_reducible assumption
    | with_reducible refine KeptOut.next ?_
    | with_reducible refine KeptOut.ite ?_ ?_
    | with_reducible refine Kept.ite ?_ ?_
    | with_reducible apply Kept.step (kept_State_putPack _ _ _)
    | (dsimp only [Kept.mk_form]; with_reducible apply KeptMk.intro (_h0 := rfl) (h3 := rfl))
    | split
    | dsimp only
    | refine Kept.ite ?_ ?_
    | refine KeptOut.ite ?_ ?_

theorem kept_execLearnRestEnd (pack : PackId) (s : State) : KeptOut [Fld.NRG_AVAIL_J.J, Fld.NRG_CAP_MAH, Fld.NRG_CYCLES.X16, Fld.NRG_E_J.E_J, Fld.NRG_IMPEDANCE.R_FAST, Fld.NRG_IMPEDANCE.R_SLOW, Fld.NRG_LAST_LEARN, Fld.NRG_LAST_TEST, Fld.NRG_PACK_E_J.J, Fld.NRG_RESERVE_J.J, Fld.NRG_SOC.PERMILLE, Fld.NRG_STATUS.LEARN_ACTIVE, Fld.NRG_STATUS.QUALIFIED_ANY, Fld.NRG_STATUS.TEST_ACTIVE, Fld.PACK_STATUS.CHARGE_PERMIT, Fld.PACK_STATUS.FAILED, Fld.PACK_STATUS.HEALTH, Fld.PACK_STATUS.LEARNING, Fld.PACK_STATUS.LEARN_RESULT, Fld.PACK_STATUS.PACK_SERIAL, Fld.PACK_STATUS.QUALIFIED, Fld.PACK_STATUS.REPLACE, Fld.PACK_STATUS.TESTING, Fld.WC_STATUS.UNPROTECTED, Fld.WC_UNPROT_MS] s (execLearnRestEnd pack s) := by
  unfold execLearnRestEnd
  try dsimp only
  repeat' first
    | exact (rfl : (_ : Bool) = _)
    | with_reducible exact Kept.refl
    | with_reducible assumption
    | with_reducible refine KeptOut.next ?_
    | with_reducible refine KeptOut.ite ?_ ?_
    | with_reducible refine Kept.ite ?_ ?_
    | with_reducible apply Kept.step (kept_State_computeEnergy _)
    | with_reducible apply Kept.step (kept_State_emit _ _ _)
    | with_reducible apply Kept.step (kept_State_endLearn _ _ _)
    | with_reducible apply Kept.step (kept_State_putPack _ _ _)
    | with_reducible apply Kept.step (kept_State_socStart _ _)
    | (dsimp only [Kept.mk_form]; with_reducible apply KeptMk.intro (_h0 := rfl) (h3 := rfl))
    | split
    | dsimp only
    | refine Kept.ite ?_ ?_
    | refine KeptOut.ite ?_ ?_

theorem kept_execLearnDisqualify (pack : PackId) (why : Fin 8) (s : State) : KeptOut [Fld.NRG_CAP_MAH, Fld.NRG_CYCLES.X16, Fld.NRG_IMPEDANCE.R_FAST, Fld.NRG_IMPEDANCE.R_SLOW, Fld.NRG_LAST_LEARN, Fld.NRG_LAST_TEST, Fld.NRG_STATUS.LEARN_ACTIVE, Fld.NRG_STATUS.QUALIFIED_ANY, Fld.NRG_STATUS.TEST_ACTIVE, Fld.PACK_STATUS.CHARGE_PERMIT, Fld.PACK_STATUS.FAILED, Fld.PACK_STATUS.HEALTH, Fld.PACK_STATUS.LEARNING, Fld.PACK_STATUS.LEARN_RESULT, Fld.PACK_STATUS.PACK_SERIAL, Fld.PACK_STATUS.QUALIFIED, Fld.PACK_STATUS.REPLACE, Fld.PACK_STATUS.TESTING] s (execLearnDisqualify pack why s) := by
  unfold execLearnDisqualify
  try dsimp only
  repeat' first
    | exact (rfl : (_ : Bool) = _)
    | with_reducible exact Kept.refl
    | with_reducible refine KeptOut.next ?_
    | with_reducible refine KeptOut.ite ?_ ?_
    | with_reducible refine Kept.ite ?_ ?_
    | with_reducible apply Kept.step (kept_State_endLearn _ _ _)
    | split
    | refine Kept.ite ?_ ?_
    | refine KeptOut.ite ?_ ?_

theorem kept_execLearnRetry (pack : PackId) (s : State) : KeptOut [Fld.NRG_CAP_MAH, Fld.NRG_CYCLES.X16, Fld.NRG_IMPEDANCE.R_FAST, Fld.NRG_IMPEDANCE.R_SLOW, Fld.NRG_LAST_LEARN, Fld.NRG_LAST_TEST, Fld.NRG_STATUS.LEARN_ACTIVE, Fld.NRG_STATUS.QUALIFIED_ANY, Fld.NRG_STATUS.TEST_ACTIVE, Fld.PACK_STATUS.CHARGE_PERMIT, Fld.PACK_STATUS.FAILED, Fld.PACK_STATUS.HEALTH, Fld.PACK_STATUS.LEARNING, Fld.PACK_STATUS.PACK_SERIAL, Fld.PACK_STATUS.QUALIFIED, Fld.PACK_STATUS.REPLACE, Fld.PACK_STATUS.TESTING] s (execLearnRetry pack s) := by
  unfold execLearnRetry
  try dsimp only
  repeat' first
    | exact (rfl : (_ : Bool) = _)
    | with_reducible exact Kept.refl
    | with_reducible refine KeptOut.next ?_
    | with_reducible refine KeptOut.ite ?_ ?_
    | with_reducible refine Kept.ite ?_ ?_
    | with_reducible apply Kept.step (kept_State_beginLearn _ _)
    | with_reducible apply Kept.step (kept_State_putPack _ _ _)
    | (dsimp only [Kept.mk_form]; with_reducible apply KeptMk.intro (_h0 := rfl) (h3 := rfl))
    | split
    | refine Kept.ite ?_ ?_
    | refine KeptOut.ite ?_ ?_

theorem kept_execGaugeBlockWrite (pack : PackId) (s : State) : KeptOut [Fld.CAL_STATUS.FACTORY_VALID, Fld.CAL_STATUS.PREVIOUS_VALID, Fld.CAL_STATUS.USER_VALID] s (execGaugeBlockWrite pack s) := by
  unfold execGaugeBlockWrite
  try dsimp only
  repeat' first
    | exact (rfl : (_ : Bool) = _)
    | with_reducible exact Kept.refl
    | with_reducible refine KeptOut.next ?_
    | with_reducible refine KeptOut.ite ?_ ?_
    | with_reducible refine Kept.ite ?_ ?_
    | with_reducible apply Kept.step (kept_State_writeLearned _ _)
    | split
    | refine Kept.ite ?_ ?_
    | refine KeptOut.ite ?_ ?_

theorem kept_State_nrgDone (s : State) (err : Nat) : Kept [Fld.NRG_CMD_STATUS.DONE, Fld.NRG_CMD_STATUS.ERROR] s (State.nrgDone s err) := by
  unfold State.nrgDone
  try dsimp only
  repeat' first
    | exact (rfl : (_ : Bool) = _)
    | with_reducible exact Kept.refl
    | with_reducible apply Kept.setFldAt
    | with_reducible apply Kept.setFld
    | with_reducible apply Kept.setBitAt
    | with_reducible apply Kept.setBit

theorem kept_State_cmdTest (s : State) (p : PackId) : Kept [Fld.NRG_CMD_STATUS.BUSY, Fld.NRG_CMD_STATUS.DONE, Fld.NRG_CMD_STATUS.ERROR] s (State.cmdTest s p) := by
  unfold State.cmdTest
  try dsimp only
  repeat' first
    | exact (rfl : (_ : Bool) = _)
    | with_reducible exact Kept.refl
    | with_reducible refine Kept.ite ?_ ?_
    | with_reducible apply Kept.setFldAt
    | with_reducible apply Kept.setFld
    | with_reducible apply Kept.setBitAt
    | with_reducible apply Kept.setBit
    | with_reducible apply Kept.step (kept_State_nrgDone _ _)
    | with_reducible apply Kept.step (kept_State_requestTest _ _)
    | (dsimp only [Kept.mk_form]; with_reducible apply KeptMk.intro (_h0 := rfl) (h3 := rfl))
    | split
    | refine Kept.ite ?_ ?_

theorem kept_execNrgTest (pack : PackId) (s : State) : KeptOut [Fld.NRG_CMD_STATUS.BUSY, Fld.NRG_CMD_STATUS.DONE, Fld.NRG_CMD_STATUS.ERROR, Fld.SYS_BUS_ADDR.OFFSET, Fld.SYS_BUS_STATUS.ERR, Fld.SYS_BUS_STATUS.IFACE, Fld.SYS_BUS_STATUS.REASON] s (execNrgTest pack s) := by
  unfold execNrgTest
  try dsimp only
  repeat' first
    | exact (rfl : (_ : Bool) = _)
    | with_reducible exact Kept.refl
    | with_reducible refine KeptOut.next ?_
    | with_reducible refine KeptOut.ite ?_ ?_
    | with_reducible refine KeptOut.command rfl Kept.refl ?_
    | with_reducible refine Kept.ite ?_ ?_
    | with_reducible apply Kept.step (kept_State_cmdTest _ _)
    | with_reducible apply Kept.step (kept_State_nrgDone _ _)
    | split
    | refine Kept.ite ?_ ?_
    | refine KeptOut.ite ?_ ?_

theorem kept_execNrgLearn (pack : PackId) (s : State) : KeptOut [Fld.NRG_CAP_MAH, Fld.NRG_CMD_STATUS.DONE, Fld.NRG_CMD_STATUS.ERROR, Fld.NRG_CYCLES.X16, Fld.NRG_IMPEDANCE.R_FAST, Fld.NRG_IMPEDANCE.R_SLOW, Fld.NRG_LAST_LEARN, Fld.NRG_LAST_TEST, Fld.NRG_STATUS.LEARN_ACTIVE, Fld.NRG_STATUS.QUALIFIED_ANY, Fld.NRG_STATUS.TEST_ACTIVE, Fld.PACK_STATUS.CHARGE_PERMIT, Fld.PACK_STATUS.FAILED, Fld.PACK_STATUS.HEALTH, Fld.PACK_STATUS.LEARNING, Fld.PACK_STATUS.PACK_SERIAL, Fld.PACK_STATUS.QUALIFIED, Fld.PACK_STATUS.REPLACE, Fld.PACK_STATUS.TESTING, Fld.SYS_BUS_ADDR.OFFSET, Fld.SYS_BUS_STATUS.ERR, Fld.SYS_BUS_STATUS.IFACE, Fld.SYS_BUS_STATUS.REASON] s (execNrgLearn pack s) := by
  unfold execNrgLearn
  try dsimp only
  repeat' first
    | exact (rfl : (_ : Bool) = _)
    | with_reducible exact Kept.refl
    | with_reducible refine KeptOut.next ?_
    | with_reducible refine KeptOut.ite ?_ ?_
    | with_reducible refine KeptOut.command rfl Kept.refl ?_
    | with_reducible refine Kept.ite ?_ ?_
    | with_reducible apply Kept.step (kept_State_beginLearn _ _)
    | with_reducible apply Kept.step (kept_State_nrgDone _ _)
    | split
    | refine Kept.ite ?_ ?_
    | refine KeptOut.ite ?_ ?_

theorem kept_execLearnAbort (pack : PackId) (s : State) : KeptOut [Fld.NRG_CAP_MAH, Fld.NRG_CMD_STATUS.DONE, Fld.NRG_CMD_STATUS.ERROR, Fld.NRG_CYCLES.X16, Fld.NRG_IMPEDANCE.R_FAST, Fld.NRG_IMPEDANCE.R_SLOW, Fld.NRG_LAST_LEARN, Fld.NRG_LAST_TEST, Fld.NRG_STATUS.LEARN_ACTIVE, Fld.NRG_STATUS.QUALIFIED_ANY, Fld.NRG_STATUS.TEST_ACTIVE, Fld.PACK_STATUS.CHARGE_PERMIT, Fld.PACK_STATUS.FAILED, Fld.PACK_STATUS.HEALTH, Fld.PACK_STATUS.LEARNING, Fld.PACK_STATUS.LEARN_RESULT, Fld.PACK_STATUS.PACK_SERIAL, Fld.PACK_STATUS.QUALIFIED, Fld.PACK_STATUS.REPLACE, Fld.PACK_STATUS.TESTING, Fld.SYS_BUS_ADDR.OFFSET, Fld.SYS_BUS_STATUS.ERR, Fld.SYS_BUS_STATUS.IFACE, Fld.SYS_BUS_STATUS.REASON] s (execLearnAbort pack s) := by
  unfold execLearnAbort
  try dsimp only
  repeat' first
    | exact (rfl : (_ : Bool) = _)
    | with_reducible exact Kept.refl
    | with_reducible refine KeptOut.next ?_
    | with_reducible refine KeptOut.ite ?_ ?_
    | with_reducible refine KeptOut.command rfl Kept.refl ?_
    | with_reducible refine Kept.ite ?_ ?_
    | with_reducible apply Kept.step (kept_State_endLearn _ _ _)
    | with_reducible apply Kept.step (kept_State_nrgDone _ _)
    | split
    | refine Kept.ite ?_ ?_
    | refine KeptOut.ite ?_ ?_

theorem kept_execNrgRetest (pack : PackId) (s : State) : KeptOut [Fld.NRG_AVAIL_J.J, Fld.NRG_CAP_MAH, Fld.NRG_CMD_STATUS.BUSY, Fld.NRG_CMD_STATUS.DONE, Fld.NRG_CMD_STATUS.ERROR, Fld.NRG_CYCLES.X16, Fld.NRG_E_J.E_J, Fld.NRG_IMPEDANCE.R_FAST, Fld.NRG_IMPEDANCE.R_SLOW, Fld.NRG_LAST_LEARN, Fld.NRG_LAST_TEST, Fld.NRG_PACK_E_J.J, Fld.NRG_RESERVE_J.J, Fld.NRG_STATUS.LEARN_ACTIVE, Fld.NRG_STATUS.QUALIFIED_ANY, Fld.NRG_STATUS.TEST_ACTIVE, Fld.PACK_STATUS.CHARGE_PERMIT, Fld.PACK_STATUS.FAILED, Fld.PACK_STATUS.HEALTH, Fld.PACK_STATUS.LEARNING, Fld.PACK_STATUS.PACK_SERIAL, Fld.PACK_STATUS.QUALIFIED, Fld.PACK_STATUS.REPLACE, Fld.PACK_STATUS.TESTING, Fld.SYS_BUS_ADDR.OFFSET, Fld.SYS_BUS_STATUS.ERR, Fld.SYS_BUS_STATUS.IFACE, Fld.SYS_BUS_STATUS.REASON, Fld.WC_STATUS.UNPROTECTED, Fld.WC_UNPROT_MS] s (execNrgRetest pack s) := by
  unfold execNrgRetest
  try dsimp only
  repeat' first
    | exact (rfl : (_ : Bool) = _)
    | with_reducible exact Kept.refl
    | with_reducible refine KeptOut.next ?_
    | with_reducible refine KeptOut.ite ?_ ?_
    | with_reducible refine KeptOut.command rfl Kept.refl ?_
    | with_reducible refine Kept.ite ?_ ?_
    | with_reducible apply Kept.step (kept_State_cmdTest _ _)
    | with_reducible apply Kept.step (kept_State_computeEnergy _)
    | with_reducible apply Kept.step (kept_State_nrgDone _ _)
    | with_reducible apply Kept.step (kept_State_putPack _ _ _)
    | (dsimp only [Kept.mk_form]; with_reducible apply KeptMk.intro (_h0 := rfl) (h3 := rfl))
    | split
    | refine Kept.ite ?_ ?_
    | refine KeptOut.ite ?_ ?_

theorem kept_execNrgSamePack (pack : PackId) (s : State) : KeptOut [Fld.NRG_AVAIL_J.J, Fld.NRG_CAP_MAH, Fld.NRG_CMD_STATUS.DONE, Fld.NRG_CMD_STATUS.ERROR, Fld.NRG_CYCLES.X16, Fld.NRG_E_J.E_J, Fld.NRG_IMPEDANCE.R_FAST, Fld.NRG_IMPEDANCE.R_SLOW, Fld.NRG_LAST_LEARN, Fld.NRG_LAST_TEST, Fld.NRG_PACK_E_J.J, Fld.NRG_RESERVE_J.J, Fld.NRG_STATUS.LEARN_ACTIVE, Fld.NRG_STATUS.QUALIFIED_ANY, Fld.NRG_STATUS.TEST_ACTIVE, Fld.PACK_STATUS.CHARGE_PERMIT, Fld.PACK_STATUS.FAILED, Fld.PACK_STATUS.HEALTH, Fld.PACK_STATUS.LEARNING, Fld.PACK_STATUS.PACK_SERIAL, Fld.PACK_STATUS.QUALIFIED, Fld.PACK_STATUS.REPLACE, Fld.PACK_STATUS.TESTING, Fld.SYS_BUS_ADDR.OFFSET, Fld.SYS_BUS_STATUS.ERR, Fld.SYS_BUS_STATUS.IFACE, Fld.SYS_BUS_STATUS.REASON, Fld.WC_STATUS.UNPROTECTED, Fld.WC_UNPROT_MS] s (execNrgSamePack pack s) := by
  unfold execNrgSamePack
  try dsimp only
  repeat' first
    | exact (rfl : (_ : Bool) = _)
    | with_reducible exact Kept.refl
    | with_reducible assumption
    | with_reducible refine KeptOut.next ?_
    | with_reducible refine KeptOut.ite ?_ ?_
    | with_reducible refine KeptOut.command rfl Kept.refl ?_
    | with_reducible refine Kept.ite ?_ ?_
    | with_reducible apply Kept.step (kept_State_computeEnergy _)
    | with_reducible apply Kept.step (kept_State_nrgDone _ _)
    | with_reducible apply Kept.step (kept_State_putPack _ _ _)
    | (dsimp only [Kept.mk_form]; with_reducible apply KeptMk.intro (_h0 := rfl) (h3 := rfl))
    | split
    | refine Kept.ite ?_ ?_
    | refine KeptOut.ite ?_ ?_

theorem kept_State_patrol (s : State) (rateMbps wearPct : Nat) (dirOk : Bool) : Kept [Fld.VLT_RATE.MBPS, Fld.VLT_STATUS.DIRECTORY_DEGRADED, Fld.VLT_STATUS.RATE_OK, Fld.VLT_STATUS.WEAR_WARN, Fld.VLT_WEAR.PCT, Fld.WC_STATUS.AREA_READY] s (State.patrol s rateMbps wearPct dirOk) := by
  unfold State.patrol
  try dsimp only
  repeat' first
    | exact (rfl : (_ : Bool) = _)
    | with_reducible exact Kept.refl
    | with_reducible refine Kept.ite ?_ ?_
    | with_reducible apply Kept.setFldAt
    | with_reducible apply Kept.setFld
    | with_reducible apply Kept.setBitAt
    | with_reducible apply Kept.setBit
    | with_reducible apply Kept.step (kept_State_emit _ _ _)
    | split
    | refine Kept.ite ?_ ?_

theorem kept_execVaultPatrol (rateMbps wearPct : Nat) (dirOk : Bool) (s : State) : KeptOut [Fld.VLT_RATE.MBPS, Fld.VLT_STATUS.DIRECTORY_DEGRADED, Fld.VLT_STATUS.RATE_OK, Fld.VLT_STATUS.WEAR_WARN, Fld.VLT_WEAR.PCT, Fld.WC_STATUS.AREA_READY] s (execVaultPatrol rateMbps wearPct dirOk s) := by
  unfold execVaultPatrol
  try dsimp only
  repeat' first
    | exact (rfl : (_ : Bool) = _)
    | with_reducible exact Kept.refl
    | with_reducible refine KeptOut.next ?_
    | with_reducible refine KeptOut.ite ?_ ?_
    | with_reducible refine Kept.ite ?_ ?_
    | with_reducible apply Kept.step (kept_State_patrol _ _ _ _)
    | split
    | refine Kept.ite ?_ ?_
    | refine KeptOut.ite ?_ ?_

theorem kept_execVaultPatrolNow (rateMbps wearPct : Nat) (dirOk : Bool) (s : State) : KeptOut [Fld.SYS_BUS_ADDR.OFFSET, Fld.SYS_BUS_STATUS.ERR, Fld.SYS_BUS_STATUS.IFACE, Fld.SYS_BUS_STATUS.REASON, Fld.VLT_CMD.CMD, Fld.VLT_RATE.MBPS, Fld.VLT_STATUS.DIRECTORY_DEGRADED, Fld.VLT_STATUS.RATE_OK, Fld.VLT_STATUS.WEAR_WARN, Fld.VLT_WEAR.PCT, Fld.WC_STATUS.AREA_READY] s (execVaultPatrolNow rateMbps wearPct dirOk s) := by
  unfold execVaultPatrolNow
  try dsimp only
  repeat' first
    | exact (rfl : (_ : Bool) = _)
    | with_reducible exact Kept.refl
    | with_reducible refine KeptOut.next ?_
    | with_reducible refine KeptOut.ite ?_ ?_
    | with_reducible refine KeptOut.command rfl Kept.refl ?_
    | with_reducible refine Kept.ite ?_ ?_
    | with_reducible apply Kept.setFldAt
    | with_reducible apply Kept.setFld
    | with_reducible apply Kept.step (kept_State_patrol _ _ _ _)
    | split
    | refine Kept.ite ?_ ?_
    | refine KeptOut.ite ?_ ?_


/-! ### Machine/Calibration.lean -/

theorem kept_State_loadRestored (s : State) : Kept [Fld.NRG_AVAIL_J.J, Fld.NRG_CAP_MAH, Fld.NRG_CYCLES.X16, Fld.NRG_E_J.E_J, Fld.NRG_IMPEDANCE.R_FAST, Fld.NRG_IMPEDANCE.R_SLOW, Fld.NRG_LAST_LEARN, Fld.NRG_LAST_TEST, Fld.NRG_PACK_E_J.J, Fld.NRG_RESERVE_J.J, Fld.NRG_STATUS.LEARN_ACTIVE, Fld.NRG_STATUS.QUALIFIED_ANY, Fld.NRG_STATUS.TEST_ACTIVE, Fld.PACK_STATUS.CHARGE_PERMIT, Fld.PACK_STATUS.FAILED, Fld.PACK_STATUS.HEALTH, Fld.PACK_STATUS.LEARNING, Fld.PACK_STATUS.PACK_SERIAL, Fld.PACK_STATUS.QUALIFIED, Fld.PACK_STATUS.REPLACE, Fld.PACK_STATUS.TESTING, Fld.WC_LIMIT.MIB, Fld.WC_LIMIT_CFG.MIB, Fld.WC_LIMIT_ENERGY.MIB, Fld.WC_LIMIT_VAULT.MIB, Fld.WC_STATUS.AREA_READY, Fld.WC_STATUS.OVER_LIMIT, Fld.WC_STATUS.UNPROTECTED, Fld.WC_STATUS.WRITE_THROUGH, Fld.WC_UNPROT_MS] s (State.loadRestored s) := by
  unfold State.loadRestored
  try dsimp only
  repeat' first
    | exact (rfl : (_ : Bool) = _)
    | with_reducible exact Kept.refl
    | with_reducible assumption
    | with_reducible apply Kept.step (kept_State_computeEnergy _)
    | with_reducible apply Kept.step (kept_State_loadTrims _)
    | with_reducible apply Kept.step (kept_State_putPack _ _ _)
    | with_reducible apply Kept.step (kept_State_recomputeLimit _)
    | with_reducible refine Kept.foldl (fun _ _ _ => ?_) ?_
    | (dsimp only [Kept.mk_form]; with_reducible apply KeptMk.intro (_h0 := rfl) (h3 := rfl))

theorem kept_State_restoreStep (s : State) (op : CalOp) (k : Nat) : Kept [Fld.CAL_STATUS.FACTORY_VALID, Fld.CAL_STATUS.PREVIOUS_VALID, Fld.CAL_STATUS.USER_VALID, Fld.NRG_AVAIL_J.J, Fld.NRG_CAP_MAH, Fld.NRG_CYCLES.X16, Fld.NRG_E_J.E_J, Fld.NRG_IMPEDANCE.R_FAST, Fld.NRG_IMPEDANCE.R_SLOW, Fld.NRG_LAST_LEARN, Fld.NRG_LAST_TEST, Fld.NRG_PACK_E_J.J, Fld.NRG_RESERVE_J.J, Fld.NRG_STATUS.LEARN_ACTIVE, Fld.NRG_STATUS.QUALIFIED_ANY, Fld.NRG_STATUS.TEST_ACTIVE, Fld.PACK_STATUS.CHARGE_PERMIT, Fld.PACK_STATUS.FAILED, Fld.PACK_STATUS.HEALTH, Fld.PACK_STATUS.LEARNING, Fld.PACK_STATUS.PACK_SERIAL, Fld.PACK_STATUS.QUALIFIED, Fld.PACK_STATUS.REPLACE, Fld.PACK_STATUS.TESTING, Fld.WC_LIMIT.MIB, Fld.WC_LIMIT_CFG.MIB, Fld.WC_LIMIT_ENERGY.MIB, Fld.WC_LIMIT_VAULT.MIB, Fld.WC_STATUS.AREA_READY, Fld.WC_STATUS.OVER_LIMIT, Fld.WC_STATUS.UNPROTECTED, Fld.WC_STATUS.WRITE_THROUGH, Fld.WC_UNPROT_MS] s (State.restoreStep s op k) := by
  unfold State.restoreStep
  try dsimp only
  repeat' first
    | exact (rfl : (_ : Bool) = _)
    | with_reducible exact Kept.refl
    | with_reducible assumption
    | with_reducible apply Kept.step (kept_State_emit _ _ _)
    | with_reducible apply Kept.step (kept_State_loadRestored _)
    | with_reducible apply Kept.step (kept_State_showCal _)
    | (dsimp only [Kept.mk_form]; with_reducible apply KeptMk.intro (_h0 := rfl) (h3 := rfl))
    | split
    | dsimp only

theorem kept_State_runRestore (s : State) (op : CalOp) (done last : Nat) : Kept [Fld.CAL_STATUS.FACTORY_VALID, Fld.CAL_STATUS.PREVIOUS_VALID, Fld.CAL_STATUS.USER_VALID, Fld.NRG_AVAIL_J.J, Fld.NRG_CAP_MAH, Fld.NRG_CYCLES.X16, Fld.NRG_E_J.E_J, Fld.NRG_IMPEDANCE.R_FAST, Fld.NRG_IMPEDANCE.R_SLOW, Fld.NRG_LAST_LEARN, Fld.NRG_LAST_TEST, Fld.NRG_PACK_E_J.J, Fld.NRG_RESERVE_J.J, Fld.NRG_STATUS.LEARN_ACTIVE, Fld.NRG_STATUS.QUALIFIED_ANY, Fld.NRG_STATUS.TEST_ACTIVE, Fld.PACK_STATUS.CHARGE_PERMIT, Fld.PACK_STATUS.FAILED, Fld.PACK_STATUS.HEALTH, Fld.PACK_STATUS.LEARNING, Fld.PACK_STATUS.PACK_SERIAL, Fld.PACK_STATUS.QUALIFIED, Fld.PACK_STATUS.REPLACE, Fld.PACK_STATUS.TESTING, Fld.WC_LIMIT.MIB, Fld.WC_LIMIT_CFG.MIB, Fld.WC_LIMIT_ENERGY.MIB, Fld.WC_LIMIT_VAULT.MIB, Fld.WC_STATUS.AREA_READY, Fld.WC_STATUS.OVER_LIMIT, Fld.WC_STATUS.UNPROTECTED, Fld.WC_STATUS.WRITE_THROUGH, Fld.WC_UNPROT_MS] s (State.runRestore s op done last) := by
  unfold State.runRestore
  try dsimp only
  repeat' first
    | exact (rfl : (_ : Bool) = _)
    | with_reducible exact Kept.refl
    | with_reducible assumption
    | with_reducible refine Kept.ite ?_ ?_
    | with_reducible apply Kept.step (kept_State_restoreStep _ _ _)
    | with_reducible refine Kept.foldl (fun _ _ _ => ?_) ?_
    | split
    | refine Kept.ite ?_ ?_

theorem kept_State_calError (s : State) (e : Nat) : Kept [Fld.CAL_STATUS.ERROR] s (State.calError s e) := by
  unfold State.calError
  try dsimp only
  repeat' first
    | exact (rfl : (_ : Bool) = _)
    | with_reducible exact Kept.refl
    | with_reducible apply Kept.setFldAt
    | with_reducible apply Kept.setFld

theorem kept_State_restore (s : State) (op : CalOp) : Kept [Fld.CAL_STATUS.BUSY, Fld.CAL_STATUS.ERROR, Fld.CAL_STATUS.FACTORY_VALID, Fld.CAL_STATUS.PREVIOUS_VALID, Fld.CAL_STATUS.USER_VALID, Fld.NRG_AVAIL_J.J, Fld.NRG_CAP_MAH, Fld.NRG_CYCLES.X16, Fld.NRG_E_J.E_J, Fld.NRG_IMPEDANCE.R_FAST, Fld.NRG_IMPEDANCE.R_SLOW, Fld.NRG_LAST_LEARN, Fld.NRG_LAST_TEST, Fld.NRG_PACK_E_J.J, Fld.NRG_RESERVE_J.J, Fld.NRG_STATUS.LEARN_ACTIVE, Fld.NRG_STATUS.QUALIFIED_ANY, Fld.NRG_STATUS.TEST_ACTIVE, Fld.PACK_STATUS.CHARGE_PERMIT, Fld.PACK_STATUS.FAILED, Fld.PACK_STATUS.HEALTH, Fld.PACK_STATUS.LEARNING, Fld.PACK_STATUS.PACK_SERIAL, Fld.PACK_STATUS.QUALIFIED, Fld.PACK_STATUS.REPLACE, Fld.PACK_STATUS.TESTING, Fld.WC_LIMIT.MIB, Fld.WC_LIMIT_CFG.MIB, Fld.WC_LIMIT_ENERGY.MIB, Fld.WC_LIMIT_VAULT.MIB, Fld.WC_STATUS.AREA_READY, Fld.WC_STATUS.OVER_LIMIT, Fld.WC_STATUS.UNPROTECTED, Fld.WC_STATUS.WRITE_THROUGH, Fld.WC_UNPROT_MS] s (State.restore s op) := by
  unfold State.restore
  try dsimp only
  repeat' first
    | exact (rfl : (_ : Bool) = _)
    | with_reducible exact Kept.refl
    | with_reducible refine Kept.ite ?_ ?_
    | with_reducible apply Kept.setBitAt
    | with_reducible apply Kept.setBit
    | with_reducible apply Kept.step (kept_State_calError _ _)
    | with_reducible apply Kept.step (kept_State_runRestore _ _ _ _)
    | with_reducible apply Kept.step (kept_State_used _)
    | (dsimp only [Kept.mk_form]; with_reducible apply KeptMk.intro (_h0 := rfl) (h3 := rfl))
    | split
    | dsimp only
    | refine Kept.ite ?_ ?_

theorem kept_State_finishRestore (s : State) : Kept [Fld.CAL_STATUS.BUSY, Fld.CAL_STATUS.ERROR, Fld.CAL_STATUS.FACTORY_VALID, Fld.CAL_STATUS.PREVIOUS_VALID, Fld.CAL_STATUS.USER_VALID, Fld.NRG_AVAIL_J.J, Fld.NRG_CAP_MAH, Fld.NRG_CYCLES.X16, Fld.NRG_E_J.E_J, Fld.NRG_IMPEDANCE.R_FAST, Fld.NRG_IMPEDANCE.R_SLOW, Fld.NRG_LAST_LEARN, Fld.NRG_LAST_TEST, Fld.NRG_PACK_E_J.J, Fld.NRG_RESERVE_J.J, Fld.NRG_STATUS.LEARN_ACTIVE, Fld.NRG_STATUS.QUALIFIED_ANY, Fld.NRG_STATUS.TEST_ACTIVE, Fld.PACK_STATUS.CHARGE_PERMIT, Fld.PACK_STATUS.FAILED, Fld.PACK_STATUS.HEALTH, Fld.PACK_STATUS.LEARNING, Fld.PACK_STATUS.PACK_SERIAL, Fld.PACK_STATUS.QUALIFIED, Fld.PACK_STATUS.REPLACE, Fld.PACK_STATUS.TESTING, Fld.WC_LIMIT.MIB, Fld.WC_LIMIT_CFG.MIB, Fld.WC_LIMIT_ENERGY.MIB, Fld.WC_LIMIT_VAULT.MIB, Fld.WC_STATUS.AREA_READY, Fld.WC_STATUS.OVER_LIMIT, Fld.WC_STATUS.UNPROTECTED, Fld.WC_STATUS.WRITE_THROUGH, Fld.WC_UNPROT_MS] s (State.finishRestore s) := by
  unfold State.finishRestore
  try dsimp only
  repeat' first
    | exact (rfl : (_ : Bool) = _)
    | with_reducible exact Kept.refl
    | with_reducible assumption
    | with_reducible apply Kept.setBitAt
    | with_reducible apply Kept.setBit
    | with_reducible apply Kept.step (kept_State_calError _ _)
    | with_reducible apply Kept.step (kept_State_runRestore _ _ _ _)
    | (dsimp only [Kept.mk_form]; with_reducible apply KeptMk.intro (_h0 := rfl) (h3 := rfl))
    | split
    | dsimp only

theorem kept_execRestoreFactory (s : State) : KeptOut [Fld.CAL_STATUS.BUSY, Fld.CAL_STATUS.ERROR, Fld.CAL_STATUS.FACTORY_VALID, Fld.CAL_STATUS.PREVIOUS_VALID, Fld.CAL_STATUS.USER_VALID, Fld.NRG_AVAIL_J.J, Fld.NRG_CAP_MAH, Fld.NRG_CYCLES.X16, Fld.NRG_E_J.E_J, Fld.NRG_IMPEDANCE.R_FAST, Fld.NRG_IMPEDANCE.R_SLOW, Fld.NRG_LAST_LEARN, Fld.NRG_LAST_TEST, Fld.NRG_PACK_E_J.J, Fld.NRG_RESERVE_J.J, Fld.NRG_STATUS.LEARN_ACTIVE, Fld.NRG_STATUS.QUALIFIED_ANY, Fld.NRG_STATUS.TEST_ACTIVE, Fld.PACK_STATUS.CHARGE_PERMIT, Fld.PACK_STATUS.FAILED, Fld.PACK_STATUS.HEALTH, Fld.PACK_STATUS.LEARNING, Fld.PACK_STATUS.PACK_SERIAL, Fld.PACK_STATUS.QUALIFIED, Fld.PACK_STATUS.REPLACE, Fld.PACK_STATUS.TESTING, Fld.WC_LIMIT.MIB, Fld.WC_LIMIT_CFG.MIB, Fld.WC_LIMIT_ENERGY.MIB, Fld.WC_LIMIT_VAULT.MIB, Fld.WC_STATUS.AREA_READY, Fld.WC_STATUS.OVER_LIMIT, Fld.WC_STATUS.UNPROTECTED, Fld.WC_STATUS.WRITE_THROUGH, Fld.WC_UNPROT_MS] s (execRestoreFactory s) := by
  unfold execRestoreFactory
  try dsimp only
  repeat' first
    | exact (rfl : (_ : Bool) = _)
    | with_reducible exact Kept.refl
    | with_reducible refine KeptOut.next ?_
    | with_reducible refine KeptOut.ite ?_ ?_
    | with_reducible refine Kept.ite ?_ ?_
    | with_reducible apply Kept.step (kept_State_calError _ _)
    | with_reducible apply Kept.step (kept_State_restore _ _)
    | split
    | refine Kept.ite ?_ ?_
    | refine KeptOut.ite ?_ ?_

theorem kept_execRestorePrevious (s : State) : KeptOut [Fld.CAL_STATUS.BUSY, Fld.CAL_STATUS.ERROR, Fld.CAL_STATUS.FACTORY_VALID, Fld.CAL_STATUS.PREVIOUS_VALID, Fld.CAL_STATUS.USER_VALID, Fld.NRG_AVAIL_J.J, Fld.NRG_CAP_MAH, Fld.NRG_CYCLES.X16, Fld.NRG_E_J.E_J, Fld.NRG_IMPEDANCE.R_FAST, Fld.NRG_IMPEDANCE.R_SLOW, Fld.NRG_LAST_LEARN, Fld.NRG_LAST_TEST, Fld.NRG_PACK_E_J.J, Fld.NRG_RESERVE_J.J, Fld.NRG_STATUS.LEARN_ACTIVE, Fld.NRG_STATUS.QUALIFIED_ANY, Fld.NRG_STATUS.TEST_ACTIVE, Fld.PACK_STATUS.CHARGE_PERMIT, Fld.PACK_STATUS.FAILED, Fld.PACK_STATUS.HEALTH, Fld.PACK_STATUS.LEARNING, Fld.PACK_STATUS.PACK_SERIAL, Fld.PACK_STATUS.QUALIFIED, Fld.PACK_STATUS.REPLACE, Fld.PACK_STATUS.TESTING, Fld.WC_LIMIT.MIB, Fld.WC_LIMIT_CFG.MIB, Fld.WC_LIMIT_ENERGY.MIB, Fld.WC_LIMIT_VAULT.MIB, Fld.WC_STATUS.AREA_READY, Fld.WC_STATUS.OVER_LIMIT, Fld.WC_STATUS.UNPROTECTED, Fld.WC_STATUS.WRITE_THROUGH, Fld.WC_UNPROT_MS] s (execRestorePrevious s) := by
  unfold execRestorePrevious
  try dsimp only
  repeat' first
    | exact (rfl : (_ : Bool) = _)
    | with_reducible exact Kept.refl
    | with_reducible refine KeptOut.next ?_
    | with_reducible refine KeptOut.ite ?_ ?_
    | with_reducible refine Kept.ite ?_ ?_
    | with_reducible apply Kept.step (kept_State_calError _ _)
    | with_reducible apply Kept.step (kept_State_restore _ _)
    | split
    | refine Kept.ite ?_ ?_
    | refine KeptOut.ite ?_ ?_

theorem kept_execFactoryCommit (s : State) : KeptOut [Fld.CAL_STATUS.ERROR, Fld.CAL_STATUS.FACTORY_LOCKED, Fld.CAL_STATUS.FACTORY_VALID, Fld.CAL_STATUS.PREVIOUS_VALID, Fld.CAL_STATUS.USER_VALID] s (execFactoryCommit s) := by
  unfold execFactoryCommit
  try dsimp only
  repeat' first
    | exact (rfl : (_ : Bool) = _)
    | with_reducible exact Kept.refl
    | with_reducible refine KeptOut.next ?_
    | with_reducible refine KeptOut.ite ?_ ?_
    | with_reducible refine Kept.ite ?_ ?_
    | with_reducible apply Kept.setBitAt
    | with_reducible apply Kept.setBit
    | with_reducible apply Kept.step (kept_State_calError _ _)
    | with_reducible apply Kept.step (kept_State_showCal _)
    | (dsimp only [Kept.mk_form]; with_reducible apply KeptMk.intro (_h0 := rfl) (h3 := rfl))
    | split
    | refine Kept.ite ?_ ?_
    | refine KeptOut.ite ?_ ?_


/-! ### Machine/Fans.lean -/

theorem kept_execThrottleClockStep (s : State) : KeptOut [Fld.THERM_STATUS.CLOCK_STEPS] s (execThrottleClockStep s) := by
  unfold execThrottleClockStep
  try dsimp only
  repeat' first
    | exact (rfl : (_ : Bool) = _)
    | with_reducible exact Kept.refl
    | with_reducible refine KeptOut.next ?_
    | with_reducible refine KeptOut.ite ?_ ?_
    | with_reducible refine Kept.ite ?_ ?_
    | with_reducible apply Kept.step (kept_State_showClock _)
    | (dsimp only [Kept.mk_form]; with_reducible apply KeptMk.intro (_h0 := rfl) (h3 := rfl))
    | split
    | refine Kept.ite ?_ ?_
    | refine KeptOut.ite ?_ ?_

theorem kept_execAvsTimeout (s : State) : KeptOut [Fld.PWR_AVS.NO_ANSWER, Fld.THERM_STATUS.CLOCK_STEPS] s (execAvsTimeout s) := by
  unfold execAvsTimeout
  try dsimp only
  repeat' first
    | exact (rfl : (_ : Bool) = _)
    | with_reducible exact Kept.refl
    | with_reducible refine KeptOut.next ?_
    | with_reducible apply Kept.setBitAt
    | with_reducible apply Kept.setBit
    | with_reducible apply Kept.step (kept_State_emit _ _ _)
    | with_reducible apply Kept.step (kept_State_showClock _)
    | (dsimp only [Kept.mk_form]; with_reducible apply KeptMk.intro (_h0 := rfl) (h3 := rfl))

theorem kept_execVddFbPowerCheck (mw : Nat) (s : State) : KeptOut [Fld.PWR_AVS.NO_ANSWER, Fld.THERM_STATUS.CLOCK_STEPS] s (execVddFbPowerCheck mw s) := by
  unfold execVddFbPowerCheck
  try dsimp only
  repeat' first
    | exact (rfl : (_ : Bool) = _)
    | with_reducible exact Kept.refl
    | with_reducible refine KeptOut.next ?_
    | with_reducible apply Kept.setBitAt
    | with_reducible apply Kept.setBit
    | with_reducible apply Kept.step (kept_State_showClock _)
    | (dsimp only [Kept.mk_form]; with_reducible apply KeptMk.intro (_h0 := rfl) (h3 := rfl))
    | dsimp only

theorem kept_State_showRotor (s : State) (n : FanId) (r : RotorSpeed) : Kept [Fld.FAN_SPEED.REVERSE, Fld.FAN_SPEED.RPM] s (State.showRotor s n r) := by
  unfold State.showRotor
  try dsimp only
  repeat' first
    | exact (rfl : (_ : Bool) = _)
    | with_reducible exact Kept.refl
    | with_reducible apply Kept.setFldAt
    | with_reducible apply Kept.setFld
    | with_reducible apply Kept.setBitAt
    | with_reducible apply Kept.setBit
    | with_reducible apply Kept.step (kept_State_putFan _ _ _)
    | (dsimp only [Kept.mk_form]; with_reducible apply KeptMk.intro (_h0 := rfl) (h3 := rfl))

theorem kept_execFanListenEnd (n : FanId) (rotor : RotorSpeed) (s : State) : KeptOut [Fld.FAN_GLOBAL.FAULTED, Fld.FAN_GLOBAL.RUNNING, Fld.FAN_RUN_S, Fld.FAN_SPEED.REVERSE, Fld.FAN_SPEED.RPM, Fld.FAN_START_COUNT, Fld.FAN_STATUS.STATE] s (execFanListenEnd n rotor s) := by
  unfold execFanListenEnd
  try dsimp only
  repeat' first
    | exact (rfl : (_ : Bool) = _)
    | with_reducible exact Kept.refl
    | with_reducible refine KeptOut.next ?_
    | with_reducible refine KeptOut.ite ?_ ?_
    | with_reducible refine Kept.ite ?_ ?_
    | with_reducible apply Kept.incFldAt
    | with_reducible apply Kept.incFld
    | with_reducible apply Kept.step (kept_State_putFan _ _ _)
    | with_reducible apply Kept.step (kept_State_setFanState _ _ _)
    | with_reducible apply Kept.step (kept_State_showFans _)
    | with_reducible apply Kept.step (kept_State_showRotor _ _ _)
    | (dsimp only [Kept.mk_form]; with_reducible apply KeptMk.intro (_h0 := rfl) (h3 := rfl))
    | split
    | refine Kept.ite ?_ ?_
    | refine KeptOut.ite ?_ ?_

theorem kept_execFanBrakeDone (n : FanId) (ok : Bool) (s : State) : KeptOut [Fld.CAL_STATUS.FACTORY_VALID, Fld.CAL_STATUS.PREVIOUS_VALID, Fld.CAL_STATUS.USER_VALID, Fld.FAN_FAIL_COUNT, Fld.FAN_GLOBAL.FAULTED, Fld.FAN_GLOBAL.RUNNING, Fld.FAN_RUN_S, Fld.FAN_STATUS.ATTEMPT, Fld.FAN_STATUS.FAULT_CAUSE, Fld.FAN_STATUS.SHIFTING, Fld.FAN_STATUS.STATE, Fld.FAN_TARGET.RPM] s (execFanBrakeDone n ok s) := by
  unfold execFanBrakeDone
  try dsimp only
  repeat' first
    | exact (rfl : (_ : Bool) = _)
    | with_reducible exact Kept.refl
    | with_reducible refine KeptOut.next ?_
    | with_reducible refine KeptOut.ite ?_ ?_
    | with_reducible refine Kept.ite ?_ ?_
    | with_reducible apply Kept.step (kept_State_failFan _ _ _)
    | with_reducible apply Kept.step (kept_State_setFanState _ _ _)
    | with_reducible apply Kept.step (kept_State_showFans _)
    | split
    | refine Kept.ite ?_ ?_
    | refine KeptOut.ite ?_ ?_

theorem kept_execFanWaitRecheck (n : FanId) (rotor : RotorSpeed) (s : State) : KeptOut [Fld.FAN_SPEED.REVERSE, Fld.FAN_SPEED.RPM, Fld.FAN_STATUS.STATE] s (execFanWaitRecheck n rotor s) := by
  unfold execFanWaitRecheck
  try dsimp only
  repeat' first
    | exact (rfl : (_ : Bool) = _)
    | with_reducible exact Kept.refl
    | with_reducible refine KeptOut.next ?_
    | with_reducible refine KeptOut.ite ?_ ?_
    | with_reducible refine Kept.ite ?_ ?_
    | with_reducible apply Kept.step (kept_State_putFan _ _ _)
    | with_reducible apply Kept.step (kept_State_setFanState _ _ _)
    | with_reducible apply Kept.step (kept_State_showRotor _ _ _)
    | (dsimp only [Kept.mk_form]; with_reducible apply KeptMk.intro (_h0 := rfl) (h3 := rfl))
    | split
    | refine Kept.ite ?_ ?_
    | refine KeptOut.ite ?_ ?_

theorem kept_execFanRampEnd (drive : FanRun) (locked : Bool) (rs ls : Nat) (s : State) : KeptOut [Fld.CAL_STATUS.FACTORY_VALID, Fld.CAL_STATUS.PREVIOUS_VALID, Fld.CAL_STATUS.USER_VALID, Fld.FAN_GLOBAL.FAULTED, Fld.FAN_GLOBAL.RUNNING, Fld.FAN_RUN_S, Fld.FAN_SHIFT_COUNT, Fld.FAN_SKIP_COUNT, Fld.FAN_SPEED.REVERSE, Fld.FAN_SPEED.RPM, Fld.FAN_START_COUNT, Fld.FAN_STATUS.ATTEMPT, Fld.FAN_STATUS.SHIFTING, Fld.FAN_STATUS.STATE] s (execFanRampEnd drive locked rs ls s) := by
  unfold execFanRampEnd
  try dsimp only
  repeat' first
    | exact (rfl : (_ : Bool) = _)
    | with_reducible exact Kept.refl
    | with_reducible refine KeptOut.next ?_
    | with_reducible refine KeptOut.ite ?_ ?_
    | with_reducible refine Kept.ite ?_ ?_
    | with_reducible apply Kept.setFldAt
    | with_reducible apply Kept.setFld
    | with_reducible apply Kept.incFldAt
    | with_reducible apply Kept.incFld
    | with_reducible apply Kept.step (kept_State_pwmRun _ _ _)
    | with_reducible apply Kept.step (kept_State_refineFan _ _ _)
    | with_reducible apply Kept.step (kept_State_setFanState _ _ _)
    | with_reducible apply Kept.step (kept_State_showFans _)
    | with_reducible apply Kept.step (kept_State_showRotor _ _ _)
    | split
    | dsimp only
    | refine Kept.ite ?_ ?_
    | refine KeptOut.ite ?_ ?_

theorem kept_execFanAttemptFail (n : FanId) (s : State) : KeptOut [Fld.CAL_STATUS.FACTORY_VALID, Fld.CAL_STATUS.PREVIOUS_VALID, Fld.CAL_STATUS.USER_VALID, Fld.FAN_FAIL_COUNT, Fld.FAN_GLOBAL.FAULTED, Fld.FAN_GLOBAL.RUNNING, Fld.FAN_RUN_S, Fld.FAN_STATUS.ATTEMPT, Fld.FAN_STATUS.FAULT_CAUSE, Fld.FAN_STATUS.SHIFTING, Fld.FAN_STATUS.STATE, Fld.FAN_TARGET.RPM] s (execFanAttemptFail n s) := by
  unfold execFanAttemptFail
  try dsimp only
  repeat' first
    | exact (rfl : (_ : Bool) = _)
    | with_reducible exact Kept.refl
    | with_reducible refine KeptOut.next ?_
    | with_reducible refine KeptOut.ite ?_ ?_
    | with_reducible refine Kept.ite ?_ ?_
    | with_reducible apply Kept.step (kept_State_failFan _ _ _)
    | split
    | refine Kept.ite ?_ ?_
    | refine KeptOut.ite ?_ ?_

theorem kept_execFanRetryTimer (n : FanId) (s : State) : KeptOut [Fld.CAL_STATUS.FACTORY_VALID, Fld.CAL_STATUS.PREVIOUS_VALID, Fld.CAL_STATUS.USER_VALID, Fld.FAN_STATUS.ATTEMPT, Fld.FAN_STATUS.FAULT_CAUSE, Fld.FAN_STATUS.SHIFTING, Fld.FAN_STATUS.STATE] s (execFanRetryTimer n s) := by
  unfold execFanRetryTimer
  try dsimp only
  repeat' first
    | exact (rfl : (_ : Bool) = _)
    | with_reducible exact Kept.refl
    | with_reducible refine KeptOut.next ?_
    | with_reducible refine KeptOut.ite ?_ ?_
    | with_reducible refine Kept.ite ?_ ?_
    | with_reducible apply Kept.step (kept_State_fanListen _ _ _)
    | split
    | refine Kept.ite ?_ ?_
    | refine KeptOut.ite ?_ ?_

theorem kept_execFanOvercurrent (drive : FanRun) (s : State) : KeptOut [Fld.CAL_STATUS.FACTORY_VALID, Fld.CAL_STATUS.PREVIOUS_VALID, Fld.CAL_STATUS.USER_VALID, Fld.FAN_GLOBAL.FAULTED, Fld.FAN_GLOBAL.RUNNING, Fld.FAN_RUN_S, Fld.FAN_SHIFT_COUNT, Fld.FAN_SKIP_COUNT, Fld.FAN_STATUS.ATTEMPT, Fld.FAN_STATUS.FAULT_CAUSE, Fld.FAN_STATUS.OVERCURRENT, Fld.FAN_STATUS.SHIFTING, Fld.FAN_STATUS.STATE, Fld.FAN_TARGET.RPM] s (execFanOvercurrent drive s) := by
  unfold execFanOvercurrent
  try dsimp only
  repeat' first
    | exact (rfl : (_ : Bool) = _)
    | with_reducible exact Kept.refl
    | with_reducible refine KeptOut.next ?_
    | with_reducible refine KeptOut.ite ?_ ?_
    | with_reducible refine Kept.ite ?_ ?_
    | with_reducible apply Kept.setBitAt
    | with_reducible apply Kept.setBit
    | with_reducible apply Kept.step (kept_State_faultFan _ _ _)
    | with_reducible apply Kept.step (kept_State_pwmRun _ _ _)
    | split
    | refine Kept.ite ?_ ?_
    | refine KeptOut.ite ?_ ?_

theorem kept_execFanStall (drive : FanRun) (s : State) : KeptOut [Fld.CAL_STATUS.FACTORY_VALID, Fld.CAL_STATUS.PREVIOUS_VALID, Fld.CAL_STATUS.USER_VALID, Fld.FAN_GLOBAL.FAULTED, Fld.FAN_GLOBAL.RUNNING, Fld.FAN_RUN_S, Fld.FAN_SHIFT_COUNT, Fld.FAN_SKIP_COUNT, Fld.FAN_STATUS.ATTEMPT, Fld.FAN_STATUS.FAULT_CAUSE, Fld.FAN_STATUS.SHIFTING, Fld.FAN_STATUS.STALL, Fld.FAN_STATUS.STATE] s (execFanStall drive s) := by
  unfold execFanStall
  try dsimp only
  repeat' first
    | exact (rfl : (_ : Bool) = _)
    | with_reducible exact Kept.refl
    | with_reducible refine KeptOut.next ?_
    | with_reducible refine KeptOut.ite ?_ ?_
    | with_reducible refine Kept.ite ?_ ?_
    | with_reducible apply Kept.setBitAt
    | with_reducible apply Kept.setBit
    | with_reducible apply Kept.step (kept_State_fanListen _ _ _)
    | with_reducible apply Kept.step (kept_State_pwmRun _ _ _)
    | with_reducible apply Kept.step (kept_State_showFans _)
    | split
    | refine Kept.ite ?_ ?_
    | refine KeptOut.ite ?_ ?_

theorem kept_execFanClassChange (drive : FanRun) (rpm ke : Nat) (s : State) : KeptOut [Fld.CAL_STATUS.FACTORY_VALID, Fld.CAL_STATUS.PREVIOUS_VALID, Fld.CAL_STATUS.USER_VALID, Fld.FAN_SHIFT_COUNT, Fld.FAN_SKIP_COUNT, Fld.FAN_SPEED.REVERSE, Fld.FAN_SPEED.RPM, Fld.FAN_STATUS.SHIFTING, Fld.FAN_STATUS.STATE] s (execFanClassChange drive rpm ke s) := by
  unfold execFanClassChange
  try dsimp only
  repeat' first
    | exact (rfl : (_ : Bool) = _)
    | with_reducible exact Kept.refl
    | with_reducible refine KeptOut.next ?_
    | with_reducible refine KeptOut.ite ?_ ?_
    | with_reducible refine Kept.ite ?_ ?_
    | with_reducible apply Kept.step (kept_State_pwmRun _ _ _)
    | with_reducible apply Kept.step (kept_State_refineFan _ _ _)
    | with_reducible apply Kept.step (kept_State_setFanState _ _ _)
    | with_reducible apply Kept.step (kept_State_showRotor _ _ _)
    | split
    | dsimp only
    | refine Kept.ite ?_ ?_
    | refine KeptOut.ite ?_ ?_

theorem kept_execFanPinLoss (n : FanId) (s : State) : KeptOut [Fld.CAL_STATUS.FACTORY_VALID, Fld.CAL_STATUS.PREVIOUS_VALID, Fld.CAL_STATUS.USER_VALID, Fld.FAN_GLOBAL.FAULTED, Fld.FAN_GLOBAL.RUNNING, Fld.FAN_PIN.VALID, Fld.FAN_RUN_S, Fld.FAN_STATUS.ATTEMPT, Fld.FAN_STATUS.FAULT_CAUSE, Fld.FAN_STATUS.SHIFTING, Fld.FAN_STATUS.STATE, Fld.FAN_TARGET.RPM, Fld.THERM_STATUS.PIN_LOSS] s (execFanPinLoss n s) := by
  unfold execFanPinLoss
  try dsimp only
  repeat' first
    | exact (rfl : (_ : Bool) = _)
    | with_reducible exact Kept.refl
    | with_reducible refine KeptOut.next ?_
    | with_reducible refine KeptOut.ite ?_ ?_
    | with_reducible refine Kept.ite ?_ ?_
    | with_reducible apply Kept.setBitAt
    | with_reducible apply Kept.setBit
    | with_reducible apply Kept.step (kept_State_emit _ _ _)
    | with_reducible apply Kept.step (kept_State_showPinLoss _)
    | with_reducible apply Kept.step (kept_State_updateFans _)
    | split
    | refine Kept.ite ?_ ?_
    | refine KeptOut.ite ?_ ?_

theorem kept_execFanPinValid (n : FanId) (duty : Nat) (s : State) : KeptOut [Fld.CAL_STATUS.FACTORY_VALID, Fld.CAL_STATUS.PREVIOUS_VALID, Fld.CAL_STATUS.USER_VALID, Fld.FAN_GLOBAL.FAULTED, Fld.FAN_GLOBAL.RUNNING, Fld.FAN_PIN.DUTY, Fld.FAN_PIN.VALID, Fld.FAN_RUN_S, Fld.FAN_STATUS.ATTEMPT, Fld.FAN_STATUS.FAULT_CAUSE, Fld.FAN_STATUS.SHIFTING, Fld.FAN_STATUS.STATE, Fld.FAN_TARGET.RPM, Fld.THERM_STATUS.PIN_LOSS] s (execFanPinValid n duty s) := by
  unfold execFanPinValid
  try dsimp only
  repeat' first
    | exact (rfl : (_ : Bool) = _)
    | with_reducible exact Kept.refl
    | with_reducible refine KeptOut.next ?_
    | with_reducible apply Kept.setFldAt
    | with_reducible apply Kept.setFld
    | with_reducible apply Kept.setBitAt
    | with_reducible apply Kept.setBit
    | with_reducible apply Kept.step (kept_State_showPinLoss _)
    | with_reducible apply Kept.step (kept_State_updateFans _)

theorem kept_State_fanIgnored (s : State) (n : FanId) (cmd : Nat) : Kept [] s (State.fanIgnored s n cmd) := by
  unfold State.fanIgnored
  try dsimp only
  repeat' first
    | exact (rfl : (_ : Bool) = _)
    | with_reducible exact Kept.refl
    | with_reducible apply Kept.step (kept_State_emit _ _ _)
    | dsimp only

theorem kept_execFanClearFault (n : FanId) (s : State) : KeptOut [Fld.CAL_STATUS.FACTORY_VALID, Fld.CAL_STATUS.PREVIOUS_VALID, Fld.CAL_STATUS.USER_VALID, Fld.FAN_CMD.CMD, Fld.FAN_GLOBAL.FAULTED, Fld.FAN_GLOBAL.RUNNING, Fld.FAN_RUN_S, Fld.FAN_STATUS.ATTEMPT, Fld.FAN_STATUS.FAULT_CAUSE, Fld.FAN_STATUS.SHIFTING, Fld.FAN_STATUS.STATE, Fld.FAN_TARGET.RPM, Fld.SYS_BUS_ADDR.OFFSET, Fld.SYS_BUS_STATUS.ERR, Fld.SYS_BUS_STATUS.IFACE, Fld.SYS_BUS_STATUS.REASON] s (execFanClearFault n s) := by
  unfold execFanClearFault
  try dsimp only
  repeat' first
    | exact (rfl : (_ : Bool) = _)
    | with_reducible exact Kept.refl
    | with_reducible refine KeptOut.next ?_
    | with_reducible refine KeptOut.ite ?_ ?_
    | with_reducible refine KeptOut.command rfl Kept.refl ?_
    | with_reducible refine Kept.ite ?_ ?_
    | with_reducible apply Kept.setFldAt
    | with_reducible apply Kept.setFld
    | with_reducible apply Kept.step (kept_State_fanIgnored _ _ _)
    | with_reducible apply Kept.step (kept_State_setFanState _ _ _)
    | with_reducible apply Kept.step (kept_State_updateFans _)
    | split
    | refine Kept.ite ?_ ?_
    | refine KeptOut.ite ?_ ?_

theorem kept_execFanRestart (n : FanId) (s : State) : KeptOut [Fld.CAL_STATUS.FACTORY_VALID, Fld.CAL_STATUS.PREVIOUS_VALID, Fld.CAL_STATUS.USER_VALID, Fld.FAN_CMD.CMD, Fld.FAN_GLOBAL.FAULTED, Fld.FAN_GLOBAL.RUNNING, Fld.FAN_RUN_S, Fld.FAN_STATUS.ATTEMPT, Fld.FAN_STATUS.FAULT_CAUSE, Fld.FAN_STATUS.SHIFTING, Fld.FAN_STATUS.STATE, Fld.SYS_BUS_ADDR.OFFSET, Fld.SYS_BUS_STATUS.ERR, Fld.SYS_BUS_STATUS.IFACE, Fld.SYS_BUS_STATUS.REASON] s (execFanRestart n s) := by
  unfold execFanRestart
  try dsimp only
  repeat' first
    | exact (rfl : (_ : Bool) = _)
    | with_reducible exact Kept.refl
    | with_reducible refine KeptOut.next ?_
    | with_reducible refine KeptOut.ite ?_ ?_
    | with_reducible refine KeptOut.command rfl Kept.refl ?_
    | with_reducible refine Kept.ite ?_ ?_
    | with_reducible apply Kept.step (kept_State_fanIgnored _ _ _)
    | with_reducible apply Kept.step (kept_State_fanListen _ _ _)
    | with_reducible apply Kept.step (kept_State_showFans _)
    | split
    | refine Kept.ite ?_ ?_
    | refine KeptOut.ite ?_ ?_

theorem kept_execFanRelearn (n : FanId) (s : State) : KeptOut [Fld.FAN_CMD.CMD, Fld.SYS_BUS_ADDR.OFFSET, Fld.SYS_BUS_STATUS.ERR, Fld.SYS_BUS_STATUS.IFACE, Fld.SYS_BUS_STATUS.REASON] s (execFanRelearn n s) := by
  unfold execFanRelearn
  try dsimp only
  repeat' first
    | exact (rfl : (_ : Bool) = _)
    | with_reducible exact Kept.refl
    | with_reducible refine KeptOut.next ?_
    | with_reducible refine KeptOut.ite ?_ ?_
    | with_reducible refine KeptOut.command rfl Kept.refl ?_
    | with_reducible refine Kept.ite ?_ ?_
    | with_reducible apply Kept.step (kept_State_fanIgnored _ _ _)
    | with_reducible apply Kept.step (kept_State_putFan _ _ _)
    | (dsimp only [Kept.mk_form]; with_reducible apply KeptMk.intro (_h0 := rfl) (h3 := rfl))
    | split
    | refine Kept.ite ?_ ?_
    | refine KeptOut.ite ?_ ?_

theorem kept_State_saveCounters (s : State) : Kept [] s (State.saveCounters s) := by
  unfold State.saveCounters
  try dsimp only
  repeat' first
    | exact (rfl : (_ : Bool) = _)
    | with_reducible exact Kept.refl
    | with_reducible assumption
    | with_reducible refine Kept.foldl (fun _ _ _ => ?_) ?_
    | (dsimp only [Kept.mk_form]; with_reducible apply KeptMk.intro (_h0 := rfl) (h3 := rfl))

theorem kept_execAgingWriteback (s : State) : KeptOut [] s (execAgingWriteback s) := by
  unfold execAgingWriteback
  try dsimp only
  repeat' first
    | exact (rfl : (_ : Bool) = _)
    | with_reducible exact Kept.refl
    | with_reducible refine KeptOut.next ?_
    | with_reducible apply Kept.step (kept_State_saveCounters _)

theorem kept_execAgeAccumulate (s : State) : KeptOut [Fld.AGE_EQUIV_S, Fld.AGE_LIFE.PCT_X100, Fld.AGE_STATUS.LIFE_WARN, Fld.AGE_TJ_HIST] s (execAgeAccumulate s) := by
  unfold execAgeAccumulate
  try dsimp only
  repeat' first
    | exact (rfl : (_ : Bool) = _)
    | with_reducible exact Kept.refl
    | with_reducible refine KeptOut.next ?_
    | with_reducible refine KeptOut.ite ?_ ?_
    | with_reducible refine Kept.ite ?_ ?_
    | with_reducible apply Kept.setFldAt
    | with_reducible apply Kept.setFld
    | with_reducible apply Kept.setBitAt
    | with_reducible apply Kept.setBit
    | with_reducible apply Kept.incFldAt
    | with_reducible apply Kept.incFld
    | with_reducible apply Kept.satFldAt
    | with_reducible apply Kept.satFld
    | with_reducible apply Kept.step (kept_State_emit _ _ _)
    | (dsimp only [Kept.mk_form]; with_reducible apply KeptMk.intro (_h0 := rfl) (h3 := rfl))
    | split
    | refine Kept.ite ?_ ?_
    | refine KeptOut.ite ?_ ?_

theorem kept_State_avsSteps (s : State) (slow : Nat) : Kept [Fld.AGE_AVS_STEPS.AGING, Fld.AGE_AVS_STEPS.EXTRA_CLOCK, Fld.AGE_AVS_STEPS.TEMP, Fld.PWR_AVS.STEP, Fld.THERM_STATUS.CLOCK_STEPS] s (State.avsSteps s slow) := by
  unfold State.avsSteps
  try dsimp only
  repeat' first
    | exact (rfl : (_ : Bool) = _)
    | with_reducible exact Kept.refl
    | with_reducible refine Kept.ite ?_ ?_
    | with_reducible apply Kept.setFldAt
    | with_reducible apply Kept.setFld
    | with_reducible apply Kept.step (kept_State_showClock _)
    | split
    | refine Kept.ite ?_ ?_

theorem kept_execRoMeasure (slowX100 : Nat) (s : State) : KeptOut [Fld.AGE_AVS_STEPS.AGING, Fld.AGE_AVS_STEPS.EXTRA_CLOCK, Fld.AGE_AVS_STEPS.TEMP, Fld.AGE_RO_SLOW.SLOW_X100, Fld.AGE_STATUS.MARGIN_OUT, Fld.PWR_AVS.STEP, Fld.THERM_STATUS.CLOCK_STEPS] s (execRoMeasure slowX100 s) := by
  unfold execRoMeasure
  try dsimp only
  repeat' first
    | exact (rfl : (_ : Bool) = _)
    | with_reducible exact Kept.refl
    | with_reducible refine KeptOut.next ?_
    | with_reducible refine KeptOut.ite ?_ ?_
    | with_reducible refine Kept.ite ?_ ?_
    | with_reducible apply Kept.setFldAt
    | with_reducible apply Kept.setFld
    | with_reducible apply Kept.setBitAt
    | with_reducible apply Kept.setBit
    | with_reducible apply Kept.step (kept_State_avsSteps _ _)
    | with_reducible apply Kept.step (kept_State_emit _ _ _)
    | split
    | refine Kept.ite ?_ ?_
    | refine KeptOut.ite ?_ ?_

theorem kept_execEmramRefresh (s : State) : KeptOut [] s (execEmramRefresh s) := by
  unfold execEmramRefresh
  try dsimp only
  repeat' first
    | exact (rfl : (_ : Bool) = _)
    | with_reducible exact Kept.refl
    | with_reducible refine KeptOut.next ?_
    | (dsimp only [Kept.mk_form]; with_reducible apply KeptMk.intro (_h0 := rfl) (h3 := rfl))


/-! ### Machine/PwrOps.lean -/

theorem kept_State_wcReset (s : State) : Kept [] s (State.wcReset s) := by
  unfold State.wcReset
  try dsimp only
  repeat' first
    | exact (rfl : (_ : Bool) = _)
    | with_reducible exact Kept.refl
    | with_reducible assumption
    | with_reducible apply Kept.step (kept_State_fretCut _)
    | (dsimp only [Kept.mk_form]; with_reducible apply KeptMk.intro (_h0 := rfl) (h3 := rfl))
    | split

theorem kept_State_hfeReset (s : State) : Kept [] s (State.hfeReset s) := by
  unfold State.hfeReset
  try dsimp only
  repeat' first
    | exact (rfl : (_ : Bool) = _)
    | with_reducible exact Kept.refl
    | (dsimp only [Kept.mk_form]; with_reducible apply KeptMk.intro (_h0 := rfl) (h3 := rfl))
    | dsimp only

theorem kept_State_portsReset (s : State) (regs : Tbl Nat) : Kept [Fld.LINK_STATUS.MODE, Fld.LINK_STATUS.PWREN] s (State.portsReset s regs) := by
  unfold State.portsReset
  try dsimp only
  repeat' first
    | exact (rfl : (_ : Bool) = _)
    | with_reducible exact Kept.refl
    | with_reducible assumption
    | with_reducible apply Kept.setFldAt
    | with_reducible apply Kept.setFld
    | with_reducible apply Kept.step (kept_State_setPwren _ _ _)
    | with_reducible refine Kept.foldl (fun _ _ _ => ?_) ?_
    | with_reducible refine Kept.foldlFst (fun _ _ _ => ?_) ?_
    | with_reducible refine Kept.foldlSnd (fun _ _ _ => ?_) ?_
    | (dsimp only [Kept.mk_form]; with_reducible apply KeptMk.intro (_h0 := rfl) (h3 := rfl))
    | dsimp only

theorem kept_State_stageReset (s : State) : Kept [Fld.IMG_STAGE_STATUS.BUSY, Fld.IMG_STAGE_STATUS.CHANGE_CLASS, Fld.IMG_STAGE_STATUS.ERROR, Fld.IMG_STAGE_STATUS.OWNER, Fld.IMG_STAGE_STATUS.STATE] s (State.stageReset s) := by
  unfold State.stageReset
  try dsimp only
  repeat' first
    | exact (rfl : (_ : Bool) = _)
    | with_reducible exact Kept.refl
    | with_reducible apply Kept.setFldAt
    | with_reducible apply Kept.setFld
    | with_reducible apply Kept.setBitAt
    | with_reducible apply Kept.setBit
    | (dsimp only [Kept.mk_form]; with_reducible apply KeptMk.intro (_h0 := rfl) (h3 := rfl))

theorem kept_State_startBoot (s : State) : Kept [Fld.PWR_AVS.STEP, Fld.PWR_STATE.BOOTING, Fld.PWR_STATE.STATE, Fld.PWR_STATE.TARGET] s (State.startBoot s) := by
  unfold State.startBoot
  try dsimp only
  repeat' first
    | exact (rfl : (_ : Bool) = _)
    | with_reducible exact Kept.refl
    | with_reducible apply Kept.setFldAt
    | with_reducible apply Kept.setFld
    | with_reducible apply Kept.setBitAt
    | with_reducible apply Kept.setBit
    | (dsimp only [Kept.mk_form]; with_reducible apply KeptMk.intro (_h0 := rfl) (h3 := rfl))

theorem kept_State_reportDirty (s : State) : Kept [Fld.HFE_DWE_STATUS.ENTRIES, Fld.HFE_DWE_STATUS.OVERFLOW, Fld.MIRROR_BYTES] s (State.reportDirty s) := by
  unfold State.reportDirty
  try dsimp only
  repeat' first
    | exact (rfl : (_ : Bool) = _)
    | with_reducible exact Kept.refl
    | with_reducible assumption
    | with_reducible apply Kept.step (kept_State_deferError _ _ _ _ _)
    | with_reducible refine Kept.foldl (fun _ _ _ => ?_) ?_
    | (dsimp only [Kept.mk_form]; with_reducible apply KeptMk.intro (_h0 := rfl) (h3 := rfl))
    | split

theorem kept_State_online (s : State) : Kept [Fld.HFE_STATUS.REPLAY_PENDING, Fld.WC_STATUS.OVER_LIMIT, Fld.WC_STATUS.UNPROTECTED, Fld.WC_UNPROT_MS] s (State.online s) := by
  unfold State.online
  try dsimp only
  repeat' first
    | exact (rfl : (_ : Bool) = _)
    | with_reducible exact Kept.refl
    | with_reducible apply Kept.setBitAt
    | with_reducible apply Kept.setBit
    | with_reducible apply Kept.step (kept_State_noteLimit _)
    | with_reducible apply Kept.step (kept_State_startResync _)

theorem kept_State_noReplay (s : State) : Kept [Fld.HFE_DWE_STATUS.ENTRIES, Fld.HFE_DWE_STATUS.OVERFLOW, Fld.HFE_STATUS.REPLAY_PENDING, Fld.MIRROR_BYTES, Fld.WC_REPLAY.RESULT, Fld.WC_STATUS.OVER_LIMIT, Fld.WC_STATUS.UNPROTECTED, Fld.WC_UNPROT_MS] s (State.noReplay s) := by
  unfold State.noReplay
  try dsimp only
  repeat' first
    | exact (rfl : (_ : Bool) = _)
    | with_reducible exact Kept.refl
    | with_reducible refine Kept.ite ?_ ?_
    | with_reducible apply Kept.setFldAt
    | with_reducible apply Kept.setFld
    | with_reducible apply Kept.setBitAt
    | with_reducible apply Kept.setBit
    | with_reducible apply Kept.step (kept_State_online _)
    | with_reducible apply Kept.step (kept_State_reportDirty _)
    | (dsimp only [Kept.mk_form]; with_reducible apply KeptMk.intro (_h0 := rfl) (h3 := rfl))
    | split
    | dsimp only
    | refine Kept.ite ?_ ?_

theorem kept_State_startMetering (s : State) : Kept [] s (State.startMetering s) := by
  unfold State.startMetering
  try dsimp only
  repeat' first
    | exact (rfl : (_ : Bool) = _)
    | with_reducible exact Kept.refl
    | (dsimp only [Kept.mk_form]; with_reducible apply KeptMk.intro (_h0 := rfl) (h3 := rfl))
    | dsimp only

theorem kept_State_startCapo (s : State) : Kept [Fld.CAPO_STATUS.DRIVE, Fld.CAPO_STATUS.GATE_OPEN, Fld.CAPO_STATUS.ROLE] s (State.startCapo s) := by
  unfold State.startCapo
  try dsimp only
  repeat' first
    | exact (rfl : (_ : Bool) = _)
    | with_reducible exact Kept.refl
    | with_reducible refine Kept.ite ?_ ?_
    | with_reducible apply Kept.setBitAt
    | with_reducible apply Kept.setBit
    | with_reducible apply Kept.step (kept_State_driveCapo _)
    | with_reducible apply Kept.step (kept_State_setRole _ _)
    | split
    | refine Kept.ite ?_ ?_

theorem kept_State_startFed (s : State) : Kept [Fld.FED_LINK.FED_PORT, Fld.FED_STATUS.ENABLED, Fld.FED_STATUS.NODE_ID] s (State.startFed s) := by
  unfold State.startFed
  try dsimp only
  repeat' first
    | exact (rfl : (_ : Bool) = _)
    | with_reducible exact Kept.refl
    | with_reducible assumption
    | with_reducible apply Kept.setFldAt
    | with_reducible apply Kept.setFld
    | with_reducible apply Kept.setBitAt
    | with_reducible apply Kept.setBit
    | with_reducible refine Kept.foldl (fun _ _ _ => ?_) ?_

theorem kept_State_keepNew (s : State) : Kept [] s (State.keepNew s) := by
  unfold State.keepNew
  try dsimp only
  repeat' first
    | exact (rfl : (_ : Bool) = _)
    | with_reducible exact Kept.refl
    | (dsimp only [Kept.mk_form]; with_reducible apply KeptMk.intro (_h0 := rfl) (h3 := rfl))

theorem kept_State_handOver (s : State) : Kept [Fld.CAL_STATUS.FACTORY_VALID, Fld.CAL_STATUS.PREVIOUS_VALID, Fld.CAL_STATUS.USER_VALID, Fld.CAPACITY, Fld.CAPO_STATUS.DRIVE, Fld.CAPO_STATUS.GATE_OPEN, Fld.CAPO_STATUS.ROLE, Fld.DRIVE_SERIAL, Fld.EVR_STATUS.MODE, Fld.FAN_GLOBAL.FAULTED, Fld.FAN_GLOBAL.RUNNING, Fld.FAN_RUN_S, Fld.FAN_STATUS.ATTEMPT, Fld.FAN_STATUS.FAULT_CAUSE, Fld.FAN_STATUS.SHIFTING, Fld.FAN_STATUS.STATE, Fld.FAN_TARGET.RPM, Fld.FED_LINK.FED_PORT, Fld.FED_STATUS.ENABLED, Fld.FED_STATUS.NODE_ID, Fld.HFE_STATUS.REPLAY_PENDING, Fld.IMG_BOOT.BOOT_SOURCE, Fld.IMG_BOOT.NONSEMANTIC_DIFF, Fld.IMG_BOOT.REWRITE_PENDING, Fld.IMG_BOOT.SAFE_MODE, Fld.IMG_BOOT.SAFE_REASON, Fld.IMG_COPY.MATCHES_RUNNING, Fld.IMG_COPY.REASON, Fld.IMG_COPY.VALID, Fld.IMG_RUN_DIGEST, Fld.IMG_RUN_SEQ, Fld.LINK_STATUS.MODE, Fld.LINK_STATUS.PWREN, Fld.NRG_AVAIL_J.J, Fld.NRG_CAP_MAH, Fld.NRG_CYCLES.X16, Fld.NRG_E_J.E_J, Fld.NRG_IMPEDANCE.R_FAST, Fld.NRG_IMPEDANCE.R_SLOW, Fld.NRG_LAST_LEARN, Fld.NRG_LAST_TEST, Fld.NRG_PACK_E_J.J, Fld.NRG_RESERVE_J.J, Fld.NRG_STATUS.LEARN_ACTIVE, Fld.NRG_STATUS.QUALIFIED_ANY, Fld.NRG_STATUS.TEST_ACTIVE, Fld.PACK_STATUS.CHARGE_PERMIT, Fld.PACK_STATUS.FAILED, Fld.PACK_STATUS.HEALTH, Fld.PACK_STATUS.LEARNING, Fld.PACK_STATUS.PACK_SERIAL, Fld.PACK_STATUS.QUALIFIED, Fld.PACK_STATUS.REPLACE, Fld.PACK_STATUS.TESTING, Fld.PORT_STATE.ARRAY, Fld.PORT_STATE.MEMBER_INDEX, Fld.PORT_STATE.STATE, Fld.PQE_STATUS.KAT_BUSY, Fld.PQE_STATUS.SLICE_ACTIVE, Fld.THERM_STATUS.CLOCK_STEPS, Fld.WC_LIMIT.MIB, Fld.WC_LIMIT_CFG.MIB, Fld.WC_LIMIT_ENERGY.MIB, Fld.WC_LIMIT_VAULT.MIB, Fld.WC_STATUS.AREA_READY, Fld.WC_STATUS.OVER_LIMIT, Fld.WC_STATUS.UNPROTECTED, Fld.WC_STATUS.WRITE_THROUGH, Fld.WC_UNPROT_MS] s (State.handOver s) := by
  unfold State.handOver
  try dsimp only
  repeat' first
    | exact (rfl : (_ : Bool) = _)
    | with_reducible exact Kept.refl
    | with_reducible assumption
    | with_reducible refine Kept.ite ?_ ?_
    | with_reducible apply Kept.setFldAt
    | with_reducible apply Kept.setFld
    | with_reducible apply Kept.setBitAt
    | with_reducible apply Kept.setBit
    | with_reducible apply Kept.step (kept_State_applyImage _ _ _ _)
    | with_reducible apply Kept.step (kept_State_computeEnergy _)
    | with_reducible apply Kept.step (kept_State_emit _ _ _)
    | with_reducible apply Kept.step (kept_State_keepNew _)
    | with_reducible apply Kept.step (kept_State_recomputeLimit _)
    | with_reducible apply Kept.step (kept_State_showCal _)
    | with_reducible apply Kept.step (kept_State_showClock _)
    | with_reducible apply Kept.step (kept_State_showCopies _)
    | with_reducible apply Kept.step (kept_State_showRewrite _)
    | with_reducible apply Kept.step (kept_State_showRunning _)
    | with_reducible apply Kept.step (kept_State_spinupStart _)
    | with_reducible apply Kept.step (kept_State_startCapo _)
    | with_reducible apply Kept.step (kept_State_startFed _)
    | with_reducible apply Kept.step (kept_State_startKat _)
    | with_reducible apply Kept.step (kept_State_startMetering _)
    | with_reducible apply Kept.step (kept_State_updateFans _)
    | (dsimp only [Kept.mk_form]; with_reducible apply KeptMk.intro (_h0 := rfl) (h3 := rfl))
    | split
    | refine Kept.ite ?_ ?_

theorem kept_State_beginEntry (s : State) (target : Nat) : Kept [Fld.PWR_STATE.STATE, Fld.PWR_STATE.TARGET] s (State.beginEntry s target) := by
  unfold State.beginEntry
  try dsimp only
  repeat' first
    | exact (rfl : (_ : Bool) = _)
    | with_reducible exact Kept.refl
    | with_reducible apply Kept.setFldAt
    | with_reducible apply Kept.setFld
    | with_reducible apply Kept.step (kept_State_hold _ _)
    | with_reducible apply Kept.step (kept_State_saveCounters _)
    | (dsimp only [Kept.mk_form]; with_reducible apply KeptMk.intro (_h0 := rfl) (h3 := rfl))
    | dsimp only

theorem kept_State_settle (s : State) (st : Nat) : Kept [Fld.PWR_STATE.STATE, Fld.PWR_STATE.TARGET, Fld.PWR_TRANS_COUNT, Fld.THERM_STATUS.CLOCK_STEPS] s (State.settle s st) := by
  unfold State.settle
  try dsimp only
  repeat' first
    | exact (rfl : (_ : Bool) = _)
    | with_reducible exact Kept.refl
    | with_reducible assumption
    | with_reducible refine Kept.ite ?_ ?_
    | with_reducible apply Kept.setFldAt
    | with_reducible apply Kept.setFld
    | with_reducible apply Kept.incFldAt
    | with_reducible apply Kept.incFld
    | with_reducible apply Kept.step (kept_State_adminDone _ _ _ _ _ _)
    | with_reducible apply Kept.step (kept_State_showClock _)
    | with_reducible apply Kept.step (kept_State_unhold _ _)
    | (dsimp only [Kept.mk_form]; with_reducible apply KeptMk.intro (_h0 := rfl) (h3 := rfl))
    | split
    | refine Kept.ite ?_ ?_

theorem kept_State_wakeUp (s : State) : Kept [Fld.PWR_STATE.STATE, Fld.PWR_STATE.TARGET] s (State.wakeUp s) := by
  unfold State.wakeUp
  try dsimp only
  repeat' first
    | exact (rfl : (_ : Bool) = _)
    | with_reducible exact Kept.refl
    | with_reducible assumption
    | with_reducible refine Kept.ite ?_ ?_
    | with_reducible apply Kept.setFldAt
    | with_reducible apply Kept.setFld
    | (dsimp only [Kept.mk_form]; with_reducible apply KeptMk.intro (_h0 := rfl) (h3 := rfl))
    | split
    | refine Kept.ite ?_ ?_

theorem kept_State_startPower (s : State) (w : PsWait) : Kept [Fld.PWR_STATE.STATE, Fld.PWR_STATE.TARGET, Fld.PWR_TRANS_COUNT, Fld.THERM_STATUS.CLOCK_STEPS] s (State.startPower s w) := by
  unfold State.startPower
  try dsimp only
  repeat' first
    | exact (rfl : (_ : Bool) = _)
    | with_reducible exact Kept.refl
    | with_reducible refine Kept.ite ?_ ?_
    | with_reducible apply Kept.step (kept_State_adminDone _ _ _ _ _ _)
    | with_reducible apply Kept.step (kept_State_beginEntry _ _)
    | with_reducible apply Kept.step (kept_State_settle _ _)
    | with_reducible apply Kept.step (kept_State_wakeUp _)
    | (dsimp only [Kept.mk_form]; with_reducible apply KeptMk.intro (_h0 := rfl) (h3 := rfl))
    | split
    | refine Kept.ite ?_ ?_

theorem kept_State_startWaits (s : State) (y0 : List PsWait) : Kept [Fld.PWR_STATE.STATE, Fld.PWR_STATE.TARGET, Fld.PWR_TRANS_COUNT, Fld.THERM_STATUS.CLOCK_STEPS] s (State.startWaits s y0) := by
  fun_induction State.startWaits s y0
  all_goals try dsimp only
  all_goals repeat' first
    | exact (rfl : (_ : Bool) = _)
    | with_reducible exact Kept.refl
    | with_reducible assumption
    | with_reducible refine Kept.ite ?_ ?_
    | with_reducible apply Kept.step (kept_State_startPower _ _)
    | (dsimp only [Kept.mk_form]; with_reducible apply KeptMk.intro (_h0 := rfl) (h3 := rfl))
    | split
    | refine Kept.ite ?_ ?_
    | refine Kept.step (by assumption) rfl ?_

theorem kept_State_runWaits (s : State) : Kept [Fld.PWR_STATE.STATE, Fld.PWR_STATE.TARGET, Fld.PWR_TRANS_COUNT, Fld.THERM_STATUS.CLOCK_STEPS] s (State.runWaits s) := by
  unfold State.runWaits
  try dsimp only
  repeat' first
    | exact (rfl : (_ : Bool) = _)
    | with_reducible exact Kept.refl
    | with_reducible apply Kept.step (kept_State_startWaits _ _)
    | (dsimp only [Kept.mk_form]; with_reducible apply KeptMk.intro (_h0 := rfl) (h3 := rfl))

theorem kept_State_settleNext (s : State) (st : Nat) : Kept [Fld.PWR_STATE.STATE, Fld.PWR_STATE.TARGET, Fld.PWR_TRANS_COUNT, Fld.THERM_STATUS.CLOCK_STEPS] s (State.settleNext s st) := by
  unfold State.settleNext
  try dsimp only
  repeat' first
    | exact (rfl : (_ : Bool) = _)
    | with_reducible exact Kept.refl
    | with_reducible apply Kept.step (kept_State_runWaits _)
    | with_reducible apply Kept.step (kept_State_settle _ _)

theorem kept_State_gateFast (s : State) : Kept [Fld.ARR_STATE.LOST_OVERFLOW, Fld.IMG_STAGE_STATUS.BUSY, Fld.IMG_STAGE_STATUS.CHANGE_CLASS, Fld.IMG_STAGE_STATUS.ERROR, Fld.IMG_STAGE_STATUS.OWNER, Fld.IMG_STAGE_STATUS.STATE, Fld.LINK_STATUS.LINK_UP, Fld.LINK_STATUS.PWREN, Fld.LINK_STATUS.RATE, Fld.LINK_STATUS.WIDTH, Fld.PORT_STATE.STATE, Fld.RBE_LOST_COUNT.ENTRIES, Fld.RBE_LOST_COUNT.OVERFLOW] s (State.gateFast s) := by
  unfold State.gateFast
  try dsimp only
  repeat' first
    | exact (rfl : (_ : Bool) = _)
    | with_reducible exact Kept.refl
    | with_reducible refine Kept.ite ?_ ?_
    | with_reducible apply Kept.step (kept_State_portsSilence _)
    | with_reducible apply Kept.step (kept_State_stageReset _)
    | with_reducible apply Kept.step (kept_State_written _ _ _)
    | (dsimp only [Kept.mk_form]; with_reducible apply KeptMk.intro (_h0 := rfl) (h3 := rfl))
    | split
    | dsimp only
    | refine Kept.ite ?_ ?_

theorem kept_State_resumeMains (s : State) : Kept [Fld.NRG_STATUS.HOLDUP_EN] s (State.resumeMains s) := by
  unfold State.resumeMains
  try dsimp only
  repeat' first
    | exact (rfl : (_ : Bool) = _)
    | with_reducible exact Kept.refl
    | with_reducible apply Kept.step (kept_State_setHoldup _ _)
    | with_reducible apply Kept.step (kept_State_unhold _ _)

theorem kept_State_abandonDump (s : State) : Kept [Fld.VLT_STATUS.DUMPING] s (State.abandonDump s) := by
  unfold State.abandonDump
  try dsimp only
  repeat' first
    | exact (rfl : (_ : Bool) = _)
    | with_reducible exact Kept.refl
    | with_reducible assumption
    | with_reducible apply Kept.step (kept_State_dumpCut _ _)
    | with_reducible apply Kept.step (kept_State_used _)
    | (dsimp only [Kept.mk_form]; with_reducible apply KeptMk.intro (_h0 := rfl) (h3 := rfl))
    | split

theorem kept_State_vaultStart (s : State) (found : VaultFound) (rate area targets block : Nat) : Kept [Fld.VLT_AREA.CANCELLED, Fld.VLT_AREA.COMPLETE, Fld.VLT_AREA.STATE, Fld.VLT_AREA_MIB.MIB, Fld.VLT_GEOM.BLOCK_MIB, Fld.VLT_GEOM.TARGETS, Fld.VLT_RATE.MBPS, Fld.VLT_STATUS.PRESENT, Fld.VLT_STATUS.RATE_OK] s (State.vaultStart s found rate area targets block) := by
  unfold State.vaultStart
  try dsimp only
  repeat' first
    | exact (rfl : (_ : Bool) = _)
    | with_reducible exact Kept.refl
    | with_reducible assumption
    | with_reducible refine Kept.ite ?_ ?_
    | with_reducible apply Kept.setFldAt
    | with_reducible apply Kept.setFld
    | with_reducible apply Kept.setBitAt
    | with_reducible apply Kept.setBit
    | with_reducible apply Kept.step (kept_State_emit _ _ _)
    | with_reducible refine Kept.foldl (fun _ _ _ => ?_) ?_
    | (dsimp only [Kept.mk_form]; with_reducible apply KeptMk.intro (_h0 := rfl) (h3 := rfl))
    | split
    | refine Kept.ite ?_ ?_

theorem kept_State_packStart (s : State) (p : PackId) (v : PackSample) : Kept [Fld.NRG_AVAIL_J.J, Fld.NRG_CAP_MAH, Fld.NRG_COULOMB, Fld.NRG_CURR_MA, Fld.NRG_CYCLES.X16, Fld.NRG_E_J.E_J, Fld.NRG_IMPEDANCE.R_FAST, Fld.NRG_IMPEDANCE.R_SLOW, Fld.NRG_LAST_LEARN, Fld.NRG_LAST_TEST, Fld.NRG_PACK_E_J.J, Fld.NRG_RESERVE_J.J, Fld.NRG_SOC.PERMILLE, Fld.NRG_STATUS.LEARN_ACTIVE, Fld.NRG_STATUS.QUALIFIED_ANY, Fld.NRG_STATUS.TEST_ACTIVE, Fld.NRG_TEMP.DECI_C, Fld.NRG_VOLT_MV.MV, Fld.PACK_STATUS.CHARGE_PERMIT, Fld.PACK_STATUS.FAILED, Fld.PACK_STATUS.HEALTH, Fld.PACK_STATUS.LEARNING, Fld.PACK_STATUS.PACK_SERIAL, Fld.PACK_STATUS.PRESENT, Fld.PACK_STATUS.QUALIFIED, Fld.PACK_STATUS.REPLACE, Fld.PACK_STATUS.TEMP_OUT, Fld.PACK_STATUS.TESTING, Fld.WC_STATUS.UNPROTECTED, Fld.WC_UNPROT_MS] s (State.packStart s p v) := by
  unfold State.packStart
  try dsimp only
  repeat' first
    | exact (rfl : (_ : Bool) = _)
    | with_reducible exact Kept.refl
    | with_reducible refine Kept.ite ?_ ?_
    | with_reducible apply Kept.setBitAt
    | with_reducible apply Kept.setBit
    | with_reducible apply Kept.step (kept_State_putPack _ _ _)
    | with_reducible apply Kept.step (kept_State_socStart _ _)
    | with_reducible apply Kept.step (kept_State_takeSample _ _ _)
    | (dsimp only [Kept.mk_form]; with_reducible apply KeptMk.intro (_h0 := rfl) (h3 := rfl))
    | split
    | refine Kept.ite ?_ ?_

theorem kept_State_calFallbacks (s : State) : Kept [] s (State.calFallbacks s) := by
  unfold State.calFallbacks
  try dsimp only
  repeat' first
    | exact (rfl : (_ : Bool) = _)
    | with_reducible exact Kept.refl
    | with_reducible assumption
    | with_reducible apply Kept.step (kept_State_emit _ _ _)
    | with_reducible refine Kept.foldl (fun _ _ _ => ?_) ?_
    | split


/-! ### Machine/Mapper.lean -/

theorem kept_State_putLane (s : State) (lane : Nat) (q : MapReq) (g : Geom) : Kept [] s (State.putLane s lane q g) := by
  unfold State.putLane
  try dsimp only
  repeat' first
    | exact (rfl : (_ : Bool) = _)
    | with_reducible exact Kept.refl
    | (dsimp only [Kept.mk_form]; with_reducible apply KeptMk.intro (_h0 := rfl) (h3 := rfl))

theorem kept_State_lanesCount (s : State) : Kept [Fld.MAP_STATUS.LANES_BUSY] s (State.lanesCount s) := by
  unfold State.lanesCount
  try dsimp only
  repeat' first
    | exact (rfl : (_ : Bool) = _)
    | with_reducible exact Kept.refl
    | with_reducible apply Kept.setFldAt
    | with_reducible apply Kept.setFld

theorem kept_State_testEnd (s : State) (fault steps : Nat) : Kept [Fld.MAP_TEST_STATUS.BUSY, Fld.MAP_TEST_STATUS.DONE, Fld.MAP_TEST_STATUS.FAULT, Fld.MAP_TEST_STATUS.STEPS] s (State.testEnd s fault steps) := by
  unfold State.testEnd
  try dsimp only
  repeat' first
    | exact (rfl : (_ : Bool) = _)
    | with_reducible exact Kept.refl
    | with_reducible apply Kept.setFldAt
    | with_reducible apply Kept.setFld
    | with_reducible apply Kept.setBitAt
    | with_reducible apply Kept.setBit

theorem kept_State_pauseOp (s : State) (a : ArrayId) (reason : Nat) : Kept [] s (State.pauseOp s a reason) := by
  unfold State.pauseOp
  try dsimp only
  repeat' first
    | exact (rfl : (_ : Bool) = _)
    | with_reducible exact Kept.refl
    | with_reducible assumption
    | with_reducible refine Kept.ite ?_ ?_
    | with_reducible apply Kept.step (kept_State_putArr _ _ _)
    | (dsimp only [Kept.mk_form]; with_reducible apply KeptMk.intro (_h0 := rfl) (h3 := rfl))
    | split
    | dsimp only
    | refine Kept.ite ?_ ?_

theorem kept_State_latchFault (s : State) (lane : Nat) (q : MapReq) (f : MapFault) (pc : Nat) : Kept [Fld.MAP_FAULT_COUNT, Fld.MAP_FAULT_IN, Fld.MAP_FAULT_INFO.ARRAY, Fld.MAP_FAULT_INFO.ENTRY, Fld.MAP_FAULT_INFO.EPOCH, Fld.MAP_FAULT_INFO.LANE, Fld.MAP_FAULT_INFO.PC, Fld.MAP_FAULT_INFO.REASON, Fld.MAP_FAULT_UNIT.UNIT] s (State.latchFault s lane q f pc) := by
  unfold State.latchFault
  try dsimp only
  repeat' first
    | exact (rfl : (_ : Bool) = _)
    | with_reducible exact Kept.refl
    | with_reducible apply Kept.setFldAt
    | with_reducible apply Kept.setFld
    | with_reducible apply Kept.setBitAt
    | with_reducible apply Kept.setBit
    | with_reducible apply Kept.incFldAt
    | with_reducible apply Kept.incFld

theorem kept_State_mapFault (s : State) (lane : Nat) (q : MapReq) (f : MapFault) (pc steps : Nat) : Kept [Fld.HFE_COLLECT_MAX.MAX_DEPTH, Fld.MAP_FAULT_COUNT, Fld.MAP_FAULT_IN, Fld.MAP_FAULT_INFO.ARRAY, Fld.MAP_FAULT_INFO.ENTRY, Fld.MAP_FAULT_INFO.EPOCH, Fld.MAP_FAULT_INFO.LANE, Fld.MAP_FAULT_INFO.PC, Fld.MAP_FAULT_INFO.REASON, Fld.MAP_FAULT_UNIT.UNIT, Fld.MAP_TEST_STATUS.BUSY, Fld.MAP_TEST_STATUS.DONE, Fld.MAP_TEST_STATUS.FAULT, Fld.MAP_TEST_STATUS.STEPS] s (State.mapFault s lane q f pc steps) := by
  unfold State.mapFault
  try dsimp only
  repeat' first
    | exact (rfl : (_ : Bool) = _)
    | with_reducible exact Kept.refl
    | with_reducible assumption
    | with_reducible refine Kept.ite ?_ ?_
    | with_reducible apply Kept.step (kept_State_collect _ _ _ _)
    | with_reducible apply Kept.step (kept_State_emit _ _ _)
    | with_reducible apply Kept.step (kept_State_latchFault _ _ _ _ _)
    | with_reducible apply Kept.step (kept_State_pauseOp _ _ _)
    | with_reducible apply Kept.step (kept_State_testEnd _ _ _)
    | (dsimp only [Kept.mk_form]; with_reducible apply KeptMk.intro (_h0 := rfl) (h3 := rfl))
    | split
    | refine Kept.ite ?_ ?_

theorem kept_State_refill (s : State) (lane : Nat) : Kept [Fld.HFE_COLLECT_MAX.MAX_DEPTH, Fld.MAP_FAULT_COUNT, Fld.MAP_FAULT_IN, Fld.MAP_FAULT_INFO.ARRAY, Fld.MAP_FAULT_INFO.ENTRY, Fld.MAP_FAULT_INFO.EPOCH, Fld.MAP_FAULT_INFO.LANE, Fld.MAP_FAULT_INFO.PC, Fld.MAP_FAULT_INFO.REASON, Fld.MAP_FAULT_UNIT.UNIT, Fld.MAP_STATUS.LANES_BUSY, Fld.MAP_TEST_STATUS.BUSY, Fld.MAP_TEST_STATUS.DONE, Fld.MAP_TEST_STATUS.FAULT, Fld.MAP_TEST_STATUS.STEPS] s (State.refill s lane) := by
  unfold State.refill
  try dsimp only
  repeat' first
    | exact (rfl : (_ : Bool) = _)
    | with_reducible exact Kept.refl
    | with_reducible assumption
    | with_reducible apply Kept.step (kept_State_lanesCount _)
    | with_reducible apply Kept.step (kept_State_mapFault _ _ _ _ _ _)
    | with_reducible apply Kept.step (kept_State_putLane _ _ _ _)
    | (dsimp only [Kept.mk_form]; with_reducible apply KeptMk.intro (_h0 := rfl) (h3 := rfl))
    | split

theorem kept_State_dispatch (s : State) (q : MapReq) : Kept [Fld.HFE_COLLECT_MAX.MAX_DEPTH, Fld.MAP_FAULT_COUNT, Fld.MAP_FAULT_IN, Fld.MAP_FAULT_INFO.ARRAY, Fld.MAP_FAULT_INFO.ENTRY, Fld.MAP_FAULT_INFO.EPOCH, Fld.MAP_FAULT_INFO.LANE, Fld.MAP_FAULT_INFO.PC, Fld.MAP_FAULT_INFO.REASON, Fld.MAP_FAULT_UNIT.UNIT, Fld.MAP_PREEMPT_COUNT, Fld.MAP_STATUS.LANES_BUSY, Fld.MAP_TEST_STATUS.BUSY, Fld.MAP_TEST_STATUS.DONE, Fld.MAP_TEST_STATUS.FAULT, Fld.MAP_TEST_STATUS.STEPS] s (State.dispatch s q) := by
  unfold State.dispatch
  try dsimp only
  repeat' first
    | exact (rfl : (_ : Bool) = _)
    | with_reducible exact Kept.refl
    | with_reducible assumption
    | with_reducible refine Kept.ite ?_ ?_
    | with_reducible apply Kept.incFldAt
    | with_reducible apply Kept.incFld
    | with_reducible apply Kept.step (kept_State_lanesCount _)
    | with_reducible apply Kept.step (kept_State_mapFault _ _ _ _ _ _)
    | with_reducible apply Kept.step (kept_State_putLane _ _ _ _)
    | (dsimp only [Kept.mk_form]; with_reducible apply KeptMk.intro (_h0 := rfl) (h3 := rfl))
    | split
    | dsimp only
    | refine Kept.ite ?_ ?_

theorem kept_execMappingDispatch (req : MapReq) (s : State) : KeptOut [Fld.HFE_COLLECT_MAX.MAX_DEPTH, Fld.MAP_FAULT_COUNT, Fld.MAP_FAULT_IN, Fld.MAP_FAULT_INFO.ARRAY, Fld.MAP_FAULT_INFO.ENTRY, Fld.MAP_FAULT_INFO.EPOCH, Fld.MAP_FAULT_INFO.LANE, Fld.MAP_FAULT_INFO.PC, Fld.MAP_FAULT_INFO.REASON, Fld.MAP_FAULT_UNIT.UNIT, Fld.MAP_PREEMPT_COUNT, Fld.MAP_STATUS.LANES_BUSY, Fld.MAP_TEST_STATUS.BUSY, Fld.MAP_TEST_STATUS.DONE, Fld.MAP_TEST_STATUS.FAULT, Fld.MAP_TEST_STATUS.STEPS] s (execMappingDispatch req s) := by
  unfold execMappingDispatch
  try dsimp only
  repeat' first
    | exact (rfl : (_ : Bool) = _)
    | with_reducible exact Kept.refl
    | with_reducible refine KeptOut.next ?_
    | with_reducible apply Kept.step (kept_State_dispatch _ _)

theorem kept_State_laneEnd (s : State) (lane : Nat) (limit : Bool) : Kept [Fld.HFE_COLLECT_MAX.MAX_DEPTH, Fld.MAP_FAULT_COUNT, Fld.MAP_FAULT_IN, Fld.MAP_FAULT_INFO.ARRAY, Fld.MAP_FAULT_INFO.ENTRY, Fld.MAP_FAULT_INFO.EPOCH, Fld.MAP_FAULT_INFO.LANE, Fld.MAP_FAULT_INFO.PC, Fld.MAP_FAULT_INFO.REASON, Fld.MAP_FAULT_UNIT.UNIT, Fld.MAP_STATUS.LANES_BUSY, Fld.MAP_TEST_MEMBER.MEMBER, Fld.MAP_TEST_OFFSET, Fld.MAP_TEST_STATUS.BUSY, Fld.MAP_TEST_STATUS.DONE, Fld.MAP_TEST_STATUS.FAULT, Fld.MAP_TEST_STATUS.STEPS] s (State.laneEnd s lane limit) := by
  unfold State.laneEnd
  try dsimp only
  repeat' first
    | exact (rfl : (_ : Bool) = _)
    | with_reducible exact Kept.refl
    | with_reducible assumption
    | with_reducible refine Kept.ite ?_ ?_
    | with_reducible apply Kept.setFldAt
    | with_reducible apply Kept.setFld
    | with_reducible apply Kept.step (kept_State_mapFault _ _ _ _ _ _)
    | with_reducible apply Kept.step (kept_State_refill _ _)
    | with_reducible apply Kept.step (kept_State_testEnd _ _ _)
    | (dsimp only [Kept.mk_form]; with_reducible apply KeptMk.intro (_h0 := rfl) (h3 := rfl))
    | split
    | dsimp only
    | refine Kept.ite ?_ ?_

theorem kept_execMappingEmit (lane : Fin 64) (s : State) : KeptOut [Fld.HFE_COLLECT_MAX.MAX_DEPTH, Fld.MAP_FAULT_COUNT, Fld.MAP_FAULT_IN, Fld.MAP_FAULT_INFO.ARRAY, Fld.MAP_FAULT_INFO.ENTRY, Fld.MAP_FAULT_INFO.EPOCH, Fld.MAP_FAULT_INFO.LANE, Fld.MAP_FAULT_INFO.PC, Fld.MAP_FAULT_INFO.REASON, Fld.MAP_FAULT_UNIT.UNIT, Fld.MAP_STATUS.LANES_BUSY, Fld.MAP_TEST_MEMBER.MEMBER, Fld.MAP_TEST_OFFSET, Fld.MAP_TEST_STATUS.BUSY, Fld.MAP_TEST_STATUS.DONE, Fld.MAP_TEST_STATUS.FAULT, Fld.MAP_TEST_STATUS.STEPS] s (execMappingEmit lane s) := by
  unfold execMappingEmit
  try dsimp only
  repeat' first
    | exact (rfl : (_ : Bool) = _)
    | with_reducible exact Kept.refl
    | with_reducible refine KeptOut.next ?_
    | with_reducible apply Kept.step (kept_State_laneEnd _ _ _)

theorem kept_execMappingStepLimit (lane : Fin 64) (s : State) : KeptOut [Fld.HFE_COLLECT_MAX.MAX_DEPTH, Fld.MAP_FAULT_COUNT, Fld.MAP_FAULT_IN, Fld.MAP_FAULT_INFO.ARRAY, Fld.MAP_FAULT_INFO.ENTRY, Fld.MAP_FAULT_INFO.EPOCH, Fld.MAP_FAULT_INFO.LANE, Fld.MAP_FAULT_INFO.PC, Fld.MAP_FAULT_INFO.REASON, Fld.MAP_FAULT_UNIT.UNIT, Fld.MAP_STATUS.LANES_BUSY, Fld.MAP_TEST_MEMBER.MEMBER, Fld.MAP_TEST_OFFSET, Fld.MAP_TEST_STATUS.BUSY, Fld.MAP_TEST_STATUS.DONE, Fld.MAP_TEST_STATUS.FAULT, Fld.MAP_TEST_STATUS.STEPS] s (execMappingStepLimit lane s) := by
  unfold execMappingStepLimit
  try dsimp only
  repeat' first
    | exact (rfl : (_ : Bool) = _)
    | with_reducible exact Kept.refl
    | with_reducible refine KeptOut.next ?_
    | with_reducible apply Kept.step (kept_State_laneEnd _ _ _)

theorem kept_execTestMappingGo (s : State) : KeptOut [Fld.HFE_COLLECT_MAX.MAX_DEPTH, Fld.MAP_FAULT_COUNT, Fld.MAP_FAULT_IN, Fld.MAP_FAULT_INFO.ARRAY, Fld.MAP_FAULT_INFO.ENTRY, Fld.MAP_FAULT_INFO.EPOCH, Fld.MAP_FAULT_INFO.LANE, Fld.MAP_FAULT_INFO.PC, Fld.MAP_FAULT_INFO.REASON, Fld.MAP_FAULT_UNIT.UNIT, Fld.MAP_PREEMPT_COUNT, Fld.MAP_STATUS.LANES_BUSY, Fld.MAP_TEST_STATUS.BUSY, Fld.MAP_TEST_STATUS.DONE, Fld.MAP_TEST_STATUS.FAULT, Fld.MAP_TEST_STATUS.STEPS, Fld.SYS_BUS_ADDR.OFFSET, Fld.SYS_BUS_STATUS.ERR, Fld.SYS_BUS_STATUS.IFACE, Fld.SYS_BUS_STATUS.REASON] s (execTestMappingGo s) := by
  unfold execTestMappingGo
  try dsimp only
  repeat' first
    | exact (rfl : (_ : Bool) = _)
    | with_reducible exact Kept.refl
    | with_reducible refine KeptOut.next ?_
    | with_reducible refine KeptOut.ite ?_ ?_
    | with_reducible refine KeptOut.command rfl Kept.refl ?_
    | with_reducible refine Kept.ite ?_ ?_
    | with_reducible apply Kept.setBitAt
    | with_reducible apply Kept.setBit
    | with_reducible apply Kept.step (kept_State_dispatch _ _)
    | split
    | dsimp only
    | refine Kept.ite ?_ ?_
    | refine KeptOut.ite ?_ ?_


/-! ### Machine/RebOps.lean -/

theorem kept_State_bgFault (s : State) (a : ArrayId) (r : Arr) (o : ArrOp) (t : Nat) : Kept [Fld.MAP_FAULT_COUNT, Fld.MAP_FAULT_IN, Fld.MAP_FAULT_INFO.ARRAY, Fld.MAP_FAULT_INFO.ENTRY, Fld.MAP_FAULT_INFO.EPOCH, Fld.MAP_FAULT_INFO.LANE, Fld.MAP_FAULT_INFO.PC, Fld.MAP_FAULT_INFO.REASON, Fld.MAP_FAULT_UNIT.UNIT] s (State.bgFault s a r o t) := by
  unfold State.bgFault
  try dsimp only
  repeat' first
    | exact (rfl : (_ : Bool) = _)
    | with_reducible exact Kept.refl
    | with_reducible assumption
    | with_reducible apply Kept.step (kept_State_emit _ _ _)
    | with_reducible apply Kept.step (kept_State_latchFault _ _ _ _ _)
    | with_reducible apply Kept.step (kept_State_putArr _ _ _)
    | (dsimp only [Kept.mk_form]; with_reducible apply KeptMk.intro (_h0 := rfl) (h3 := rfl))
    | split
    | dsimp only

theorem kept_State_endMain (s : State) (a : ArrayId) (r : Arr) : Kept [Fld.RBE_LOST_COUNT.ENTRIES] s (State.endMain s a r) := by
  unfold State.endMain
  try dsimp only
  repeat' first
    | exact (rfl : (_ : Bool) = _)
    | with_reducible exact Kept.refl
    | with_reducible assumption
    | with_reducible refine Kept.ite ?_ ?_
    | with_reducible apply Kept.step (kept_State_putArr _ _ _)
    | with_reducible apply Kept.step (kept_State_rewriteLabels _ _)
    | with_reducible apply Kept.step (kept_State_thirdBack _ _)
    | with_reducible refine Kept.foldl (fun _ _ _ => ?_) ?_
    | with_reducible refine Kept.foldlSnd (fun _ _ _ => ?_) ?_
    | (dsimp only [Kept.mk_form]; with_reducible apply KeptMk.intro (_h0 := rfl) (h3 := rfl))
    | split
    | dsimp only
    | refine Kept.ite ?_ ?_

theorem kept_State_rebuildAt (s : State) (a : ArrayId) (r : Arr) (t : Nat) : Kept [Fld.ARR_REPAIR_COUNT, Fld.ARR_STATE.LOST_OVERFLOW, Fld.HFE_DWE_STATUS.ENTRIES, Fld.HFE_DWE_STATUS.OVERFLOW, Fld.MIRROR_BYTES, Fld.PQE_SOLVE_COUNT, Fld.PQE_SRC_BYTES, Fld.RBE_LOST_COUNT.ENTRIES, Fld.RBE_LOST_COUNT.OVERFLOW] s (State.rebuildAt s a r t) := by
  unfold State.rebuildAt
  try dsimp only
  repeat' first
    | exact (rfl : (_ : Bool) = _)
    | with_reducible exact Kept.refl
    | with_reducible assumption
    | with_reducible apply Kept.step (kept_State_rebuildStripeIn _ _ _ _)
    | with_reducible refine Kept.foldl (fun _ _ _ => ?_) ?_
    | with_reducible refine Kept.foldlSnd (fun _ _ _ => ?_) ?_
    | dsimp only

theorem kept_State_copyRead (s : State) (r : Arr) (g : Geom) (t u row : Nat) (p : Pos) (so : State) (ho : State.copyRead s r g t u row p = some so) : Kept [] s so := by
  unfold State.copyRead at ho
  try dsimp only at ho
  repeat' first
    | contradiction
    | (have ho := Option.some.inj ho; subst ho)
    | split at ho
  all_goals repeat' first
    | exact (rfl : (_ : Bool) = _)
    | with_reducible exact Kept.refl
    | with_reducible assumption
    | with_reducible apply Kept.step (kept_State_writeSec _ _ _ _ _ _ _ _ _ _ _)
    | (dsimp only [Kept.mk_form]; with_reducible apply KeptMk.intro (_h0 := rfl) (h3 := rfl))
    | split

theorem kept_State_copyFast (s : State) (r : Arr) (g : Geom) (t u row : Nat) (p : Pos) (reads : List SecRead) (so : State) (ho : State.copyFast s r g t u row p reads = some so) : Kept [] s so := by
  unfold State.copyFast at ho
  try dsimp only at ho
  repeat' first
    | contradiction
    | (have ho := Option.some.inj ho; subst ho)
    | split at ho
  all_goals repeat' first
    | exact (rfl : (_ : Bool) = _)
    | with_reducible exact Kept.refl
    | with_reducible refine Kept.ite ?_ ?_
    | split
    | refine Kept.ite ?_ ?_
    | refine Kept.step (kept_State_copyRead _ _ _ _ _ _ _ _ (by with_reducible assumption)) ?_ ?_

theorem kept_State_copyRow (s : State) (a : ArrayId) (g : Geom) (t u row : Nat) (p : Pos) : Kept [Fld.ARR_REPAIR_COUNT, Fld.ARR_STATE.LOST_OVERFLOW, Fld.HFE_DWE_STATUS.ENTRIES, Fld.HFE_DWE_STATUS.OVERFLOW, Fld.MIRROR_BYTES, Fld.PQE_SOLVE_COUNT, Fld.RBE_LOST_COUNT.ENTRIES, Fld.RBE_LOST_COUNT.OVERFLOW] s (State.copyRow s a g t u row p) := by
  unfold State.copyRow
  try dsimp only
  repeat' first
    | exact (rfl : (_ : Bool) = _)
    | with_reducible exact Kept.refl
    | with_reducible assumption
    | with_reducible apply Kept.incFldAt
    | with_reducible apply Kept.incFld
    | with_reducible apply Kept.step (kept_State_loseCounted _ _ _ _ _ _ _ _)
    | with_reducible apply Kept.step (kept_State_repairCounted _ _ _ _ _ _ _ _)
    | with_reducible apply Kept.step (kept_State_writeSolved _ _ _ _ _ _ _ _ _)
    | (dsimp only [Kept.mk_form]; with_reducible apply KeptMk.intro (_h0 := rfl) (h3 := rfl))
    | split
    | refine Kept.step (kept_State_copyFast _ _ _ _ _ _ _ _ _ (by with_reducible assumption)) ?_ ?_
    | refine Kept.step (kept_State_copyRead _ _ _ _ _ _ _ _ (by with_reducible assumption)) ?_ ?_

theorem kept_State_copyUnit (s : State) (a : ArrayId) (g : Geom) (t m : Nat) : Kept [Fld.ARR_REPAIR_COUNT, Fld.ARR_STATE.LOST_OVERFLOW, Fld.HFE_DWE_STATUS.ENTRIES, Fld.HFE_DWE_STATUS.OVERFLOW, Fld.MIRROR_BYTES, Fld.PQE_SOLVE_COUNT, Fld.RBE_LOST_COUNT.ENTRIES, Fld.RBE_LOST_COUNT.OVERFLOW] s (State.copyUnit s a g t m) := by
  unfold State.copyUnit
  try dsimp only
  repeat' first
    | exact (rfl : (_ : Bool) = _)
    | with_reducible exact Kept.refl
    | with_reducible assumption
    | with_reducible apply Kept.step (kept_State_copyRow _ _ _ _ _ _ _)
    | with_reducible refine Kept.foldl (fun _ _ _ => ?_) ?_
    | (dsimp only [Kept.mk_form]; with_reducible apply KeptMk.intro (_h0 := rfl) (h3 := rfl))
    | split
    | dsimp only

theorem kept_State_endCopy (s : State) (a : ArrayId) (r : Arr) (m : Nat) : Kept [Fld.RBE_LOST_COUNT.ENTRIES] s (State.endCopy s a r m) := by
  unfold State.endCopy
  try dsimp only
  repeat' first
    | exact (rfl : (_ : Bool) = _)
    | with_reducible exact Kept.refl
    | with_reducible refine Kept.ite ?_ ?_
    | with_reducible apply Kept.step (kept_State_putArr _ _ _)
    | with_reducible apply Kept.step (kept_State_rewriteLabels _ _)
    | with_reducible apply Kept.step (kept_State_thirdBack _ _)
    | (dsimp only [Kept.mk_form]; with_reducible apply KeptMk.intro (_h0 := rfl) (h3 := rfl))
    | split
    | dsimp only
    | refine Kept.ite ?_ ?_

theorem kept_State_fixUnit (s : State) (a : ArrayId) (r : Arr) (g : Geom) (t row u : Nat) (us : List (Option USec)) : Kept [Fld.ARR_MISMATCH_COUNT] s (State.fixUnit s a r g t row u us) := by
  unfold State.fixUnit
  try dsimp only
  repeat' first
    | exact (rfl : (_ : Bool) = _)
    | with_reducible exact Kept.refl
    | with_reducible assumption
    | with_reducible apply Kept.incFldAt
    | with_reducible apply Kept.incFld
    | with_reducible apply Kept.step (kept_State_emit _ _ _)
    | with_reducible apply Kept.step (kept_State_writeSolved _ _ _ _ _ _ _ _ _)
    | (dsimp only [Kept.mk_form]; with_reducible apply KeptMk.intro (_h0 := rfl) (h3 := rfl))
    | split
    | dsimp only

theorem kept_State_fixParity (s : State) (a : ArrayId) (r : Arr) (g : Geom) (t row : Nat) (us : List (Option USec)) : Kept [Fld.ARR_MISMATCH_COUNT, Fld.MIRROR_BYTES] s (State.fixParity s a r g t row us) := by
  unfold State.fixParity
  try dsimp only
  repeat' first
    | exact (rfl : (_ : Bool) = _)
    | with_reducible exact Kept.refl
    | with_reducible apply Kept.incFldAt
    | with_reducible apply Kept.incFld
    | with_reducible apply Kept.step (kept_State_emit _ _ _)
    | with_reducible apply Kept.step (kept_State_fretMark _ _)
    | with_reducible apply Kept.step (kept_State_writeParity _ _ _ _ _ _ _ _ _)
    | dsimp only

theorem kept_State_scrubRow (s : State) (a : ArrayId) (r : Arr) (g : Geom) (t row : Nat) : Kept [Fld.ARR_MISMATCH_COUNT, Fld.ARR_REPAIR_COUNT, Fld.ARR_STATE.LOST_OVERFLOW, Fld.HFE_DWE_STATUS.ENTRIES, Fld.HFE_DWE_STATUS.OVERFLOW, Fld.MIRROR_BYTES, Fld.PQE_SOLVE_COUNT, Fld.PQE_SRC_BYTES, Fld.RBE_LOST_COUNT.ENTRIES, Fld.RBE_LOST_COUNT.OVERFLOW] s (State.scrubRow s a r g t row) := by
  unfold State.scrubRow
  try dsimp only
  repeat' first
    | exact (rfl : (_ : Bool) = _)
    | with_reducible exact Kept.refl
    | with_reducible assumption
    | with_reducible refine Kept.ite ?_ ?_
    | with_reducible apply Kept.incFldAt
    | with_reducible apply Kept.incFld
    | with_reducible apply Kept.step (kept_State_fixParity _ _ _ _ _ _ _)
    | with_reducible apply Kept.step (kept_State_fixUnit _ _ _ _ _ _ _ _)
    | with_reducible apply Kept.step (kept_State_loseCounted _ _ _ _ _ _ _ _)
    | with_reducible apply Kept.step (kept_State_rebuildRow _ _ _ _ _ _)
    | with_reducible apply Kept.step (kept_State_resyncRow _ _ _ _ _ _)
    | (dsimp only [Kept.mk_form]; with_reducible apply KeptMk.intro (_h0 := rfl) (h3 := rfl))
    | split
    | refine Kept.ite ?_ ?_

theorem kept_State_scrubIn (s : State) (a : ArrayId) (g : Geom) (t : Nat) : Kept [Fld.ARR_MISMATCH_COUNT, Fld.ARR_REPAIR_COUNT, Fld.ARR_STATE.LOST_OVERFLOW, Fld.HFE_DWE_STATUS.ENTRIES, Fld.HFE_DWE_STATUS.OVERFLOW, Fld.MIRROR_BYTES, Fld.PQE_SOLVE_COUNT, Fld.PQE_SRC_BYTES, Fld.RBE_LOST_COUNT.ENTRIES, Fld.RBE_LOST_COUNT.OVERFLOW] s (State.scrubIn s a g t) := by
  unfold State.scrubIn
  try dsimp only
  repeat' first
    | exact (rfl : (_ : Bool) = _)
    | with_reducible exact Kept.refl
    | with_reducible assumption
    | with_reducible apply Kept.step (kept_State_scrubRow _ _ _ _ _ _)
    | with_reducible refine Kept.foldl (fun _ _ _ => ?_) ?_
    | (dsimp only [Kept.mk_form]; with_reducible apply KeptMk.intro (_h0 := rfl) (h3 := rfl))
    | split

theorem kept_State_startScrub (s : State) (a : ArrayId) (r : Arr) : Kept [] s (State.startScrub s a r) := by
  unfold State.startScrub
  try dsimp only
  repeat' first
    | exact (rfl : (_ : Bool) = _)
    | with_reducible exact Kept.refl
    | with_reducible apply Kept.step (kept_State_putArr _ _ _)
    | (dsimp only [Kept.mk_form]; with_reducible apply KeptMk.intro (_h0 := rfl) (h3 := rfl))
    | dsimp only

theorem kept_State_endScrub (s : State) (a : ArrayId) (r : Arr) : Kept [Fld.ARR_SCRUB_END] s (State.endScrub s a r) := by
  unfold State.endScrub
  try dsimp only
  repeat' first
    | exact (rfl : (_ : Bool) = _)
    | with_reducible exact Kept.refl
    | with_reducible apply Kept.setFldAt
    | with_reducible apply Kept.setFld
    | with_reducible apply Kept.step (kept_State_putArr _ _ _)
    | (dsimp only [Kept.mk_form]; with_reducible apply KeptMk.intro (_h0 := rfl) (h3 := rfl))
    | dsimp only

theorem kept_State_writeNew (s : State) (r : Arr) (t : Nat) (src : Tbl CSec) : Kept [] s (State.writeNew s r t src) := by
  unfold State.writeNew
  try dsimp only
  repeat' first
    | exact (rfl : (_ : Bool) = _)
    | with_reducible exact Kept.refl
    | with_reducible assumption
    | with_reducible apply Kept.step (kept_State_writeData _ _ _ _ _ _ _ _)
    | with_reducible apply Kept.step (kept_State_writeParity _ _ _ _ _ _ _ _ _)
    | with_reducible refine Kept.foldl (fun _ _ _ => ?_) ?_
    | with_reducible refine Kept.foldlFst (fun _ _ _ => ?_) ?_
    | with_reducible refine Kept.foldlSnd (fun _ _ _ => ?_) ?_
    | dsimp only

theorem kept_State_listStepLost (s : State) (a : ArrayId) (g : Geom) (t : Nat) (lost : List Nat) : Kept [Fld.ARR_STATE.LOST_OVERFLOW, Fld.HFE_DWE_STATUS.ENTRIES, Fld.HFE_DWE_STATUS.OVERFLOW, Fld.MIRROR_BYTES, Fld.RBE_LOST_COUNT.ENTRIES, Fld.RBE_LOST_COUNT.OVERFLOW] s (State.listStepLost s a g t lost) := by
  unfold State.listStepLost
  try dsimp only
  repeat' first
    | exact (rfl : (_ : Bool) = _)
    | with_reducible exact Kept.refl
    | with_reducible assumption
    | with_reducible refine Kept.ite ?_ ?_
    | with_reducible apply Kept.step (kept_State_listLost _ _)
    | with_reducible apply Kept.step (kept_State_mirror _ _)
    | with_reducible apply Kept.step (kept_State_reportLost _ _ _)
    | with_reducible refine Kept.foldl (fun _ _ _ => ?_) ?_
    | split
    | dsimp only
    | refine Kept.ite ?_ ?_

theorem kept_State_checkpoint (s : State) (a : ArrayId) (r : Arr) : Kept [Fld.MIRROR_BYTES] s (State.checkpoint s a r) := by
  unfold State.checkpoint
  try dsimp only
  repeat' first
    | exact (rfl : (_ : Bool) = _)
    | with_reducible exact Kept.refl
    | with_reducible apply Kept.step (kept_State_mirror _ _)
    | with_reducible apply Kept.step (kept_State_putArr _ _ _)
    | (dsimp only [Kept.mk_form]; with_reducible apply KeptMk.intro (_h0 := rfl) (h3 := rfl))
    | dsimp only

theorem kept_State_endReshape (s : State) (a : ArrayId) (r : Arr) : Kept [Fld.MIRROR_BYTES] s (State.endReshape s a r) := by
  unfold State.endReshape
  try dsimp only
  repeat' first
    | exact (rfl : (_ : Bool) = _)
    | with_reducible exact Kept.refl
    | with_reducible apply Kept.step (kept_State_emit _ _ _)
    | with_reducible apply Kept.step (kept_State_mirror _ _)
    | with_reducible apply Kept.step (kept_State_putArr _ _ _)
    | with_reducible apply Kept.step (kept_State_retag _ _ _)
    | with_reducible apply Kept.step (kept_State_rewriteLabels _ _)
    | (dsimp only [Kept.mk_form]; with_reducible apply KeptMk.intro (_h0 := rfl) (h3 := rfl))
    | dsimp only

theorem kept_State_reshapeOne (s : State) (a : ArrayId) (r : Arr) (p : Geom) (find : State → Nat → Option CSec) (so : State) (ho : State.reshapeOne s a r p find = some so) : Kept [Fld.ARR_STATE.LOST_OVERFLOW, Fld.HFE_DWE_STATUS.ENTRIES, Fld.HFE_DWE_STATUS.OVERFLOW, Fld.MIRROR_BYTES, Fld.PQE_SRC_BYTES, Fld.RBE_LOST_COUNT.ENTRIES, Fld.RBE_LOST_COUNT.OVERFLOW] s so := by
  unfold State.reshapeOne at ho
  try dsimp only at ho
  repeat' first
    | contradiction
    | (have ho := Option.some.inj ho; subst ho)
    | split at ho
  all_goals repeat' first
    | exact (rfl : (_ : Bool) = _)
    | with_reducible exact Kept.refl
    | with_reducible assumption
    | with_reducible refine Kept.ite ?_ ?_
    | with_reducible apply Kept.incFldAt
    | with_reducible apply Kept.incFld
    | with_reducible apply Kept.step (kept_State_fretMark _ _)
    | with_reducible apply Kept.step (kept_State_listStepLost _ _ _ _ _)
    | with_reducible apply Kept.step (kept_State_mirror _ _)
    | with_reducible apply Kept.step (kept_State_putArr _ _ _)
    | with_reducible apply Kept.step (kept_State_writeNew _ _ _ _)
    | with_reducible refine Kept.foldl (fun _ _ _ => ?_) ?_
    | with_reducible refine Kept.foldlFst (fun _ _ _ => ?_) ?_
    | with_reducible refine Kept.foldlSnd (fun _ _ _ => ?_) ?_
    | (dsimp only [Kept.mk_form]; with_reducible apply KeptMk.intro (_h0 := rfl) (h3 := rfl))
    | split
    | dsimp only
    | refine Kept.ite ?_ ?_


/-! ### Machine/HfeOps.lean -/

theorem kept_State_refillLoad (s : State) : Kept [] s (State.refillLoad s) := by
  unfold State.refillLoad
  try dsimp only
  repeat' first
    | exact (rfl : (_ : Bool) = _)
    | with_reducible exact Kept.refl
    | (dsimp only [Kept.mk_form]; with_reducible apply KeptMk.intro (_h0 := rfl) (h3 := rfl))

theorem kept_State_rollRate (s : State) : Kept [Fld.LAT_C0_RATE.GBPS_X100, Fld.LAT_C0_RATE.KCMD] s (State.rollRate s) := by
  unfold State.rollRate
  try dsimp only
  repeat' first
    | exact (rfl : (_ : Bool) = _)
    | with_reducible exact Kept.refl
    | with_reducible refine Kept.ite ?_ ?_
    | with_reducible apply Kept.setFldAt
    | with_reducible apply Kept.setFld
    | (dsimp only [Kept.mk_form]; with_reducible apply KeptMk.intro (_h0 := rfl) (h3 := rfl))
    | split
    | refine Kept.ite ?_ ?_

theorem kept_State_takeLoad (s : State) (hp : Nat) (e : SqEntry) : Kept [Fld.LAT_C0_RATE.GBPS_X100, Fld.LAT_C0_RATE.KCMD] s (State.takeLoad s hp e) := by
  unfold State.takeLoad
  try dsimp only
  repeat' first
    | exact (rfl : (_ : Bool) = _)
    | with_reducible exact Kept.refl
    | with_reducible assumption
    | with_reducible refine Kept.ite ?_ ?_
    | with_reducible apply Kept.step (kept_State_rollRate _)
    | (dsimp only [Kept.mk_form]; with_reducible apply KeptMk.intro (_h0 := rfl) (h3 := rfl))
    | split
    | refine Kept.ite ?_ ?_

theorem kept_State_lockGrant (s : State) (c : HostCmd) : Kept [Fld.HFE_COLLECT_MAX.MAX_DEPTH] s (State.lockGrant s c) := by
  unfold State.lockGrant
  try dsimp only
  repeat' first
    | exact (rfl : (_ : Bool) = _)
    | with_reducible exact Kept.refl
    | with_reducible refine Kept.ite ?_ ?_
    | with_reducible apply Kept.step (kept_State_collect _ _ _ _)
    | with_reducible apply Kept.step (kept_State_putCmd _ _)
    | (dsimp only [Kept.mk_form]; with_reducible apply KeptMk.intro (_h0 := rfl) (h3 := rfl))
    | split
    | refine Kept.ite ?_ ?_

theorem kept_State_pauseClass (s : State) (cls : Nat) : Kept [Fld.HFE_FETCH_PAUSE_COUNT] s (State.pauseClass s cls) := by
  unfold State.pauseClass
  try dsimp only
  repeat' first
    | exact (rfl : (_ : Bool) = _)
    | with_reducible exact Kept.refl
    | with_reducible refine Kept.ite ?_ ?_
    | with_reducible apply Kept.incFldAt
    | with_reducible apply Kept.incFld
    | (dsimp only [Kept.mk_form]; with_reducible apply KeptMk.intro (_h0 := rfl) (h3 := rfl))
    | split
    | refine Kept.ite ?_ ?_

theorem kept_State_collectBare (s : State) (f : FnIdx) (sq cls : Nat) (cid : Nat) (st : Status) (bell : Nat × Bool) : Kept [Fld.HFE_COLLECT_MAX.MAX_DEPTH] s (State.collectBare s f sq cls cid st bell) := by
  unfold State.collectBare
  try dsimp only
  repeat' first
    | exact (rfl : (_ : Bool) = _)
    | with_reducible exact Kept.refl
    | with_reducible apply Kept.maxFldAt
    | with_reducible apply Kept.maxFld
    | with_reducible apply Kept.step (kept_State_logError _ _ _)
    | (dsimp only [Kept.mk_form]; with_reducible apply KeptMk.intro (_h0 := rfl) (h3 := rfl))
    | dsimp only

theorem kept_State_admitEntry (s : State) (f : FnIdx) (sq cls tag : Nat) (e : SqEntry) (bell : Nat × Bool) (st : Option Status) : Kept [Fld.HFE_COLLECT_MAX.MAX_DEPTH, Fld.HFE_LOCK_WAIT_COUNT] s (State.admitEntry s f sq cls tag e bell st) := by
  unfold State.admitEntry
  try dsimp only
  repeat' first
    | exact (rfl : (_ : Bool) = _)
    | with_reducible exact Kept.refl
    | with_reducible assumption
    | with_reducible refine Kept.ite ?_ ?_
    | with_reducible apply Kept.incFldAt
    | with_reducible apply Kept.incFld
    | with_reducible apply Kept.step (kept_State_collect _ _ _ _)
    | with_reducible apply Kept.step (kept_State_lockGrant _ _)
    | with_reducible apply Kept.step (kept_State_putCmd _ _)
    | with_reducible apply Kept.step (kept_State_takeTag _ _)
    | (dsimp only [Kept.mk_form]; with_reducible apply KeptMk.intro (_h0 := rfl) (h3 := rfl))
    | split
    | dsimp only
    | refine Kept.ite ?_ ?_

theorem kept_State_clearFlag (s : State) (f : FnIdx) (nsid : Nat) : Kept [] s (State.clearFlag s f nsid) := by
  unfold State.clearFlag
  try dsimp only
  repeat' first
    | exact (rfl : (_ : Bool) = _)
    | with_reducible exact Kept.refl
    | with_reducible apply Kept.step (kept_State_putFn _ _ _)
    | (dsimp only [Kept.mk_form]; with_reducible apply KeptMk.intro (_h0 := rfl) (h3 := rfl))

theorem kept_State_fetchOne (s : State) (f : FnIdx) (sq : Nat) (q : IoSq) (tag : Nat) (e : SqEntry) : Kept [Fld.HFE_CID_CONFLICT_COUNT, Fld.HFE_COLLECT_MAX.MAX_DEPTH, Fld.HFE_LOCK_WAIT_COUNT, Fld.LAT_C0_RATE.GBPS_X100, Fld.LAT_C0_RATE.KCMD] s (State.fetchOne s f sq q tag e) := by
  unfold State.fetchOne
  try dsimp only
  repeat' first
    | exact (rfl : (_ : Bool) = _)
    | with_reducible exact Kept.refl
    | with_reducible assumption
    | with_reducible refine Kept.ite ?_ ?_
    | with_reducible apply Kept.incFldAt
    | with_reducible apply Kept.incFld
    | with_reducible apply Kept.step (kept_State_admitEntry _ _ _ _ _ _ _ _)
    | with_reducible apply Kept.step (kept_State_clearFlag _ _ _)
    | with_reducible apply Kept.step (kept_State_collectBare _ _ _ _ _ _ _)
    | with_reducible apply Kept.step (kept_State_takeLoad _ _ _)
    | (dsimp only [Kept.mk_form]; with_reducible apply KeptMk.intro (_h0 := rfl) (h3 := rfl))
    | split
    | dsimp only
    | refine Kept.ite ?_ ?_

theorem kept_State_fetchBurst (s : State) (f : FnIdx) (sq : Nat) (n : Nat) (y0 : List SqEntry) : Kept [Fld.HFE_CID_CONFLICT_COUNT, Fld.HFE_COLLECT_MAX.MAX_DEPTH, Fld.HFE_FETCH_PAUSE_COUNT, Fld.HFE_LOCK_WAIT_COUNT, Fld.LAT_C0_RATE.GBPS_X100, Fld.LAT_C0_RATE.KCMD] s (State.fetchBurst s f sq n y0) := by
  fun_induction State.fetchBurst s f sq n y0
  all_goals try dsimp only
  all_goals repeat' first
    | exact (rfl : (_ : Bool) = _)
    | with_reducible exact Kept.refl
    | with_reducible assumption
    | with_reducible refine Kept.ite ?_ ?_
    | with_reducible apply Kept.step (kept_State_fetchOne _ _ _ _ _ _)
    | with_reducible apply Kept.step (kept_State_pauseClass _ _)
    | (dsimp only [Kept.mk_form]; with_reducible apply KeptMk.intro (_h0 := rfl) (h3 := rfl))
    | split
    | refine Kept.ite ?_ ?_
    | refine Kept.step (by assumption) rfl ?_

theorem kept_State_mapped (s : State) (c : HostCmd) : Kept [Fld.HFE_COLLECT_MAX.MAX_DEPTH, Fld.MAP_FAULT_COUNT, Fld.MAP_FAULT_IN, Fld.MAP_FAULT_INFO.ARRAY, Fld.MAP_FAULT_INFO.ENTRY, Fld.MAP_FAULT_INFO.EPOCH, Fld.MAP_FAULT_INFO.LANE, Fld.MAP_FAULT_INFO.PC, Fld.MAP_FAULT_INFO.REASON, Fld.MAP_FAULT_UNIT.UNIT, Fld.MAP_TEST_STATUS.BUSY, Fld.MAP_TEST_STATUS.DONE, Fld.MAP_TEST_STATUS.FAULT, Fld.MAP_TEST_STATUS.STEPS] s (State.mapped s c).2 := by
  unfold State.mapped
  try dsimp only
  repeat' first
    | exact (rfl : (_ : Bool) = _)
    | with_reducible exact Kept.refl
    | with_reducible assumption
    | with_reducible apply Kept.step (kept_State_mapFault _ _ _ _ _ _)
    | (dsimp only [Kept.mk_form]; with_reducible apply KeptMk.intro (_h0 := rfl) (h3 := rfl))
    | split
    | dsimp only

theorem kept_State_discardNs (s : State) (nsid : Nat) : Kept [Fld.MIRROR_BYTES] s (State.discardNs s nsid) := by
  unfold State.discardNs
  try dsimp only
  repeat' first
    | exact (rfl : (_ : Bool) = _)
    | with_reducible exact Kept.refl
    | with_reducible assumption
    | with_reducible apply Kept.step (kept_State_place _ _ _ _ _ _ _)
    | with_reducible apply Kept.step (kept_State_withLines _ _)
    | with_reducible refine Kept.foldl (fun _ _ _ => ?_) ?_
    | with_reducible refine Kept.foldlFst (fun _ _ _ => ?_) ?_
    | with_reducible refine Kept.foldlSnd (fun _ _ _ => ?_) ?_
    | (dsimp only [Kept.mk_form]; with_reducible apply KeptMk.intro (_h0 := rfl) (h3 := rfl))
    | split
    | dsimp only

theorem kept_State_placeEmpties (s : State) (nsid : Nat) (y0 : List Nat) : Kept [Fld.MIRROR_BYTES] s (State.placeEmpties s nsid y0) := by
  fun_induction State.placeEmpties s nsid y0
  all_goals try dsimp only
  all_goals repeat' first
    | exact (rfl : (_ : Bool) = _)
    | with_reducible exact Kept.refl
    | with_reducible assumption
    | with_reducible refine Kept.ite ?_ ?_
    | with_reducible apply Kept.step (kept_State_place _ _ _ _ _ _ _)
    | (dsimp only [Kept.mk_form]; with_reducible apply KeptMk.intro (_h0 := rfl) (h3 := rfl))
    | split
    | refine Kept.ite ?_ ?_
    | refine Kept.step (by assumption) rfl ?_

theorem kept_State_formatStep (s : State) (nsid : Nat) : Kept [Fld.MIRROR_BYTES, Fld.WC_STATUS.OVER_LIMIT, Fld.WC_STATUS.UNPROTECTED, Fld.WC_UNPROT_MS] s (State.formatStep s nsid) := by
  unfold State.formatStep
  try dsimp only
  repeat' first
    | exact (rfl : (_ : Bool) = _)
    | with_reducible exact Kept.refl
    | with_reducible apply Kept.step (kept_State_noteLimit _)
    | with_reducible apply Kept.step (kept_State_placeEmpties _ _ _)

theorem kept_State_saveMarks (s : State) : Kept [] s (State.saveMarks s) := by
  unfold State.saveMarks
  try dsimp only
  repeat' first
    | exact (rfl : (_ : Bool) = _)
    | with_reducible exact Kept.refl
    | with_reducible refine Kept.ite ?_ ?_
    | (dsimp only [Kept.mk_form]; with_reducible apply KeptMk.intro (_h0 := rfl) (h3 := rfl))
    | split
    | refine Kept.ite ?_ ?_

theorem kept_State_retireKey (s : State) (nsid : Nat) : Kept [Fld.CIP_STATUS.CONTEXTS, Fld.HFE_COLLECT_MAX.MAX_DEPTH] s (State.retireKey s nsid) := by
  unfold State.retireKey
  try dsimp only
  repeat' first
    | exact (rfl : (_ : Bool) = _)
    | with_reducible exact Kept.refl
    | with_reducible assumption
    | with_reducible apply Kept.step (kept_State_dropKeys _ _)
    | with_reducible apply Kept.step (kept_State_showContexts _)
    | (dsimp only [Kept.mk_form]; with_reducible apply KeptMk.intro (_h0 := rfl) (h3 := rfl))
    | split

theorem kept_State_beginFormat (s : State) (f : FormatOp) : Kept [Fld.CIP_STATUS.CONTEXTS, Fld.HFE_COLLECT_MAX.MAX_DEPTH, Fld.MIRROR_BYTES, Fld.WC_STATUS.OVER_LIMIT, Fld.WC_STATUS.UNPROTECTED, Fld.WC_UNPROT_MS] s (State.beginFormat s f) := by
  unfold State.beginFormat
  try dsimp only
  repeat' first
    | exact (rfl : (_ : Bool) = _)
    | with_reducible exact Kept.refl
    | with_reducible assumption
    | with_reducible refine Kept.ite ?_ ?_
    | with_reducible apply Kept.step (kept_State_adminDone _ _ _ _ _ _)
    | with_reducible apply Kept.step (kept_State_discardNs _ _)
    | with_reducible apply Kept.step (kept_State_formatStep _ _)
    | with_reducible apply Kept.step (kept_State_retireKey _ _)
    | (dsimp only [Kept.mk_form]; with_reducible apply KeptMk.intro (_h0 := rfl) (h3 := rfl))
    | split
    | dsimp only
    | refine Kept.ite ?_ ?_

theorem kept_State_beginSanitize (s : State) (x : SanitizeOp) : Kept [Fld.CIP_STATUS.CONTEXTS, Fld.HFE_COLLECT_MAX.MAX_DEPTH, Fld.MIRROR_BYTES] s (State.beginSanitize s x) := by
  unfold State.beginSanitize
  try dsimp only
  repeat' first
    | exact (rfl : (_ : Bool) = _)
    | with_reducible exact Kept.refl
    | with_reducible assumption
    | with_reducible refine Kept.ite ?_ ?_
    | with_reducible apply Kept.step (kept_State_adminDone _ _ _ _ _ _)
    | with_reducible apply Kept.step (kept_State_discardNs _ _)
    | with_reducible apply Kept.step (kept_State_retireKey _ _)
    | with_reducible refine Kept.foldl (fun _ _ _ => ?_) ?_
    | with_reducible refine Kept.foldlFst (fun _ _ _ => ?_) ?_
    | with_reducible refine Kept.foldlSnd (fun _ _ _ => ?_) ?_
    | (dsimp only [Kept.mk_form]; with_reducible apply KeptMk.intro (_h0 := rfl) (h3 := rfl))
    | split
    | dsimp only
    | refine Kept.ite ?_ ?_

theorem kept_State_fenceWake (s : State) : Kept [Fld.CIP_STATUS.CONTEXTS, Fld.HFE_COLLECT_MAX.MAX_DEPTH, Fld.MIRROR_BYTES, Fld.WC_STATUS.OVER_LIMIT, Fld.WC_STATUS.UNPROTECTED, Fld.WC_UNPROT_MS] s (State.fenceWake s) := by
  unfold State.fenceWake
  try dsimp only
  repeat' first
    | exact (rfl : (_ : Bool) = _)
    | with_reducible exact Kept.refl
    | with_reducible assumption
    | with_reducible refine Kept.ite ?_ ?_
    | with_reducible apply Kept.step (kept_State_beginFormat _ _)
    | with_reducible apply Kept.step (kept_State_beginSanitize _ _)
    | with_reducible refine Kept.foldl (fun _ _ _ => ?_) ?_
    | (dsimp only [Kept.mk_form]; with_reducible apply KeptMk.intro (_h0 := rfl) (h3 := rfl))
    | split
    | refine Kept.ite ?_ ?_

theorem kept_State_dropWork (s : State) (tag : Nat) : Kept [] s (State.dropWork s tag) := by
  unfold State.dropWork
  try dsimp only
  repeat' first
    | exact (rfl : (_ : Bool) = _)
    | with_reducible exact Kept.refl
    | (dsimp only [Kept.mk_form]; with_reducible apply KeptMk.intro (_h0 := rfl) (h3 := rfl))
    | dsimp only

theorem kept_State_abandon (s : State) (c : HostCmd) : Kept [Fld.MAP_STATUS.LANES_BUSY] s (State.abandon s c) := by
  unfold State.abandon
  try dsimp only
  repeat' first
    | exact (rfl : (_ : Bool) = _)
    | with_reducible exact Kept.refl
    | with_reducible apply Kept.step (kept_State_abandonLines _ _)
    | with_reducible apply Kept.step (kept_State_dropWork _ _)
    | with_reducible apply Kept.step (kept_State_lanesCount _)
    | with_reducible apply Kept.step (kept_State_releaseCmd _ _ _)
    | (dsimp only [Kept.mk_form]; with_reducible apply KeptMk.intro (_h0 := rfl) (h3 := rfl))

theorem kept_State_quiesce (s : State) (f : FnIdx) : Kept [Fld.MAP_STATUS.LANES_BUSY] s (State.quiesce s f) := by
  unfold State.quiesce
  try dsimp only
  repeat' first
    | exact (rfl : (_ : Bool) = _)
    | with_reducible exact Kept.refl
    | with_reducible assumption
    | with_reducible refine Kept.ite ?_ ?_
    | with_reducible apply Kept.step (kept_State_abandon _ _)
    | with_reducible apply Kept.step (kept_State_putFn _ _ _)
    | with_reducible refine Kept.foldl (fun _ _ _ => ?_) ?_
    | with_reducible refine Kept.foldlFst (fun _ _ _ => ?_) ?_
    | (dsimp only [Kept.mk_form]; with_reducible apply KeptMk.intro (_h0 := rfl) (h3 := rfl))
    | split
    | dsimp only
    | refine Kept.ite ?_ ?_

theorem kept_State_portQuiesce (s : State) (hp : Nat) : Kept [Fld.CH_BYTES, Fld.CH_CTRL.EN, Fld.CH_STATUS.DISABLED_MIDWAY, Fld.CH_STATUS.PENDING, Fld.CH_STATUS.STATE, Fld.CIP_STATUS.CONTEXTS, Fld.HFE_COLLECT_MAX.MAX_DEPTH, Fld.MAP_STATUS.LANES_BUSY, Fld.MIRROR_BYTES, Fld.WC_STATUS.OVER_LIMIT, Fld.WC_STATUS.UNPROTECTED, Fld.WC_UNPROT_MS, Fld.WIN_CTRL.EN] s (State.portQuiesce s hp) := by
  unfold State.portQuiesce
  try dsimp only
  repeat' first
    | exact (rfl : (_ : Bool) = _)
    | with_reducible exact Kept.refl
    | with_reducible assumption
    | with_reducible apply Kept.step (kept_State_dmaPortReset _ _)
    | with_reducible apply Kept.step (kept_State_fenceWake _)
    | with_reducible apply Kept.step (kept_State_putFn _ _ _)
    | with_reducible apply Kept.step (kept_State_quiesce _ _)
    | with_reducible refine Kept.foldl (fun _ _ _ => ?_) ?_
    | (dsimp only [Kept.mk_form]; with_reducible apply KeptMk.intro (_h0 := rfl) (h3 := rfl))

theorem kept_State_countPost (s : State) (e : Collected) : Kept [Fld.LAT_C0_DONE, Fld.LAT_C0_EXCL, Fld.LAT_C0_ISSUE_MAX.NS, Fld.LAT_C0_OUTSIDE, Fld.LAT_C0_POST_MAX.NS, Fld.LAT_C0_VIOL] s (State.countPost s e) := by
  unfold State.countPost
  try dsimp only
  repeat' first
    | exact (rfl : (_ : Bool) = _)
    | with_reducible exact Kept.refl
    | with_reducible assumption
    | with_reducible refine Kept.ite ?_ ?_
    | with_reducible apply Kept.incFldAt
    | with_reducible apply Kept.incFld
    | with_reducible apply Kept.maxFldAt
    | with_reducible apply Kept.maxFld
    | with_reducible apply Kept.step (kept_State_histCount _ _ _ _)
    | (dsimp only [Kept.mk_form]; with_reducible apply KeptMk.intro (_h0 := rfl) (h3 := rfl))
    | split
    | refine Kept.ite ?_ ?_

theorem kept_State_deleteWake (s : State) : Kept [] s (State.deleteWake s) := by
  unfold State.deleteWake
  try dsimp only
  repeat' first
    | exact (rfl : (_ : Bool) = _)
    | with_reducible exact Kept.refl
    | with_reducible assumption
    | with_reducible refine Kept.ite ?_ ?_
    | with_reducible apply Kept.step (kept_State_adminDone _ _ _ _ _ _)
    | with_reducible refine Kept.foldl (fun _ _ _ => ?_) ?_
    | with_reducible refine Kept.foldlFst (fun _ _ _ => ?_) ?_
    | with_reducible refine Kept.foldlSnd (fun _ _ _ => ?_) ?_
    | (dsimp only [Kept.mk_form]; with_reducible apply KeptMk.intro (_h0 := rfl) (h3 := rfl))
    | split
    | dsimp only
    | refine Kept.ite ?_ ?_


/-! ### Machine/Admin.lean -/

theorem kept_State_adminTake (s : State) (f : FnIdx) : Kept [] s (State.adminTake s f) := by
  unfold State.adminTake
  try dsimp only
  repeat' first
    | exact (rfl : (_ : Bool) = _)
    | with_reducible exact Kept.refl
    | with_reducible apply Kept.step (kept_State_putFn _ _ _)
    | (dsimp only [Kept.mk_form]; with_reducible apply KeptMk.intro (_h0 := rfl) (h3 := rfl))

theorem kept_State_adminConflict (s : State) (f : FnIdx) (cid : Nat) : Kept [Fld.HFE_CID_CONFLICT_COUNT] s (State.adminConflict s f cid) := by
  unfold State.adminConflict
  try dsimp only
  repeat' first
    | exact (rfl : (_ : Bool) = _)
    | with_reducible exact Kept.refl
    | with_reducible apply Kept.incFldAt
    | with_reducible apply Kept.incFld
    | with_reducible apply Kept.step (kept_State_adminDone _ _ _ _ _ _)

theorem kept_State_admin {l : List Field} (s : State) (f : FnIdx) (cid : Nat) (safe sani : Bool) (run : State → State)
    (hl : [Fld.PWR_STATE.STATE, Fld.PWR_STATE.TARGET, Fld.HFE_CID_CONFLICT_COUNT].all (fun g => l.contains g) = true)
    (hr : ∀ x, Kept l s x → Kept l s (run x)) : KeptOut l s (State.admin s f cid safe sani run) := by
  have h0 : Kept l s (s.adminTake f) := Kept.mono (kept_State_adminTake _ _) rfl
  have h1 : ∀ st, Kept l s ((s.adminTake f).adminDone f cid st 0 []) := fun st =>
    Kept.step (kept_State_adminDone _ _ _ _ _ _) rfl h0
  have hc : [Fld.HFE_CID_CONFLICT_COUNT].all (fun g => l.contains g) = true := by
    simp only [List.all_cons, List.all_nil, Bool.and_eq_true] at hl ⊢
    exact hl.2.2
  have hp : [Fld.PWR_STATE.STATE, Fld.PWR_STATE.TARGET].all (fun g => l.contains g) = true := by
    simp only [List.all_cons, List.all_nil, Bool.and_eq_true] at hl ⊢
    exact ⟨hl.1, hl.2.1, trivial⟩
  have h3 : Kept l s ((s.adminTake f).adminConflict f cid) := Kept.step (kept_State_adminConflict _ _ _) hc h0
  have h2 : Kept l s s.wakeUp := Kept.mono (kept_State_wakeUp _) hp
  unfold State.admin
  repeat' first
    | exact KeptOut.next Kept.refl
    | exact KeptOut.next h2
    | exact KeptOut.next (h1 _)
    | exact KeptOut.next h3
    | exact KeptOut.next (hr _ h0)
    | refine KeptOut.ite ?_ ?_


theorem kept_State_adminEnd (s : State) (f : FnIdx) (cid : Nat) (st : Status) : Kept [] s (State.adminEnd s f cid st) := by
  unfold State.adminEnd
  try dsimp only
  repeat' first
    | exact (rfl : (_ : Bool) = _)
    | with_reducible exact Kept.refl
    | with_reducible apply Kept.step (kept_State_adminDone _ _ _ _ _ _)

theorem kept_execSetFeaturesNumberOfQueues (fn : FnIdx) (cid nsq ncq : Nat) (s : State) : KeptOut [Fld.HFE_CID_CONFLICT_COUNT, Fld.PWR_STATE.STATE, Fld.PWR_STATE.TARGET] s (execSetFeaturesNumberOfQueues fn cid nsq ncq s) := by
  unfold execSetFeaturesNumberOfQueues
  try dsimp only
  repeat' first
    | exact (rfl : (_ : Bool) = _)
    | with_reducible exact Kept.refl
    | with_reducible assumption
    | with_reducible refine KeptOut.next ?_
    | with_reducible refine KeptOut.ite ?_ ?_
    | with_reducible refine Kept.ite ?_ ?_
    | with_reducible apply Kept.step (kept_State_adminDone _ _ _ _ _ _)
    | with_reducible apply Kept.step (kept_State_adminEnd _ _ _ _)
    | with_reducible apply Kept.step (kept_State_putFn _ _ _)
    | with_reducible apply Kept.step (kept_State_used _)
    | with_reducible refine kept_State_admin _ _ _ _ _ _ rfl (fun _ _ => ?_)
    | (dsimp only [Kept.mk_form]; with_reducible apply KeptMk.intro (_h0 := rfl) (h3 := rfl))
    | split
    | dsimp only
    | refine Kept.ite ?_ ?_
    | refine KeptOut.ite ?_ ?_

theorem kept_execCreateIoSq (fn : FnIdx) (cid qid : Nat) (mem : QueueMem) (cqid : Nat) (s : State) : KeptOut [Fld.HFE_CID_CONFLICT_COUNT, Fld.PWR_STATE.STATE, Fld.PWR_STATE.TARGET] s (execCreateIoSq fn cid qid mem cqid s) := by
  unfold execCreateIoSq
  try dsimp only
  repeat' first
    | exact (rfl : (_ : Bool) = _)
    | with_reducible exact Kept.refl
    | with_reducible assumption
    | with_reducible refine KeptOut.next ?_
    | with_reducible refine KeptOut.ite ?_ ?_
    | with_reducible refine Kept.ite ?_ ?_
    | with_reducible apply Kept.step (kept_State_adminEnd _ _ _ _)
    | with_reducible refine kept_State_admin _ _ _ _ _ _ rfl (fun _ _ => ?_)
    | (dsimp only [Kept.mk_form]; with_reducible apply KeptMk.intro (_h0 := rfl) (h3 := rfl))
    | split
    | dsimp only
    | refine Kept.ite ?_ ?_
    | refine KeptOut.ite ?_ ?_

theorem kept_execCreateIoCq (fn : FnIdx) (cid qid : Nat) (mem : QueueMem) (vector : Nat) (ien : Bool) (s : State) : KeptOut [Fld.HFE_CID_CONFLICT_COUNT, Fld.PWR_STATE.STATE, Fld.PWR_STATE.TARGET] s (execCreateIoCq fn cid qid mem vector ien s) := by
  unfold execCreateIoCq
  try dsimp only
  repeat' first
    | exact (rfl : (_ : Bool) = _)
    | with_reducible exact Kept.refl
    | with_reducible assumption
    | with_reducible refine KeptOut.next ?_
    | with_reducible refine KeptOut.ite ?_ ?_
    | with_reducible refine Kept.ite ?_ ?_
    | with_reducible apply Kept.step (kept_State_adminEnd _ _ _ _)
    | with_reducible refine kept_State_admin _ _ _ _ _ _ rfl (fun _ _ => ?_)
    | (dsimp only [Kept.mk_form]; with_reducible apply KeptMk.intro (_h0 := rfl) (h3 := rfl))
    | split
    | refine Kept.ite ?_ ?_
    | refine KeptOut.ite ?_ ?_

theorem kept_State_dropEntries (s : State) (f : FnIdx) (qid cls : Nat) (y0 : List (Nat × Bool)) : Kept [Fld.HFE_COLLECT_MAX.MAX_DEPTH] s (State.dropEntries s f qid cls y0) := by
  fun_induction State.dropEntries s f qid cls y0
  all_goals try dsimp only
  all_goals repeat' first
    | exact (rfl : (_ : Bool) = _)
    | with_reducible exact Kept.refl
    | with_reducible assumption
    | with_reducible apply Kept.step (kept_State_collectBare _ _ _ _ _ _ _)
    | with_reducible apply Kept.step (kept_State_used _)
    | split
    | refine Kept.step (by assumption) rfl ?_

theorem kept_execDeleteIoSq (fn : FnIdx) (cid qid : Nat) (s : State) : KeptOut [Fld.HFE_CID_CONFLICT_COUNT, Fld.HFE_COLLECT_MAX.MAX_DEPTH, Fld.PWR_STATE.STATE, Fld.PWR_STATE.TARGET] s (execDeleteIoSq fn cid qid s) := by
  unfold execDeleteIoSq
  try dsimp only
  repeat' first
    | exact (rfl : (_ : Bool) = _)
    | with_reducible exact Kept.refl
    | with_reducible assumption
    | with_reducible refine KeptOut.next ?_
    | with_reducible refine KeptOut.ite ?_ ?_
    | with_reducible refine Kept.ite ?_ ?_
    | with_reducible apply Kept.step (kept_State_adminEnd _ _ _ _)
    | with_reducible apply Kept.step (kept_State_deleteWake _)
    | with_reducible apply Kept.step (kept_State_dropEntries _ _ _ _ _)
    | with_reducible refine kept_State_admin _ _ _ _ _ _ rfl (fun _ _ => ?_)
    | (dsimp only [Kept.mk_form]; with_reducible apply KeptMk.intro (_h0 := rfl) (h3 := rfl))
    | split
    | dsimp only
    | refine Kept.ite ?_ ?_
    | refine KeptOut.ite ?_ ?_

theorem kept_execDeleteIoCq (fn : FnIdx) (cid qid : Nat) (s : State) : KeptOut [Fld.HFE_CID_CONFLICT_COUNT, Fld.PWR_STATE.STATE, Fld.PWR_STATE.TARGET] s (execDeleteIoCq fn cid qid s) := by
  unfold execDeleteIoCq
  try dsimp only
  repeat' first
    | exact (rfl : (_ : Bool) = _)
    | with_reducible exact Kept.refl
    | with_reducible assumption
    | with_reducible refine KeptOut.next ?_
    | with_reducible refine KeptOut.ite ?_ ?_
    | with_reducible refine Kept.ite ?_ ?_
    | with_reducible apply Kept.step (kept_State_adminEnd _ _ _ _)
    | with_reducible refine kept_State_admin _ _ _ _ _ _ rfl (fun _ _ => ?_)
    | (dsimp only [Kept.mk_form]; with_reducible apply KeptMk.intro (_h0 := rfl) (h3 := rfl))
    | split
    | dsimp only
    | refine Kept.ite ?_ ?_
    | refine KeptOut.ite ?_ ?_

theorem kept_State_dweClear (s : State) (f : FnIdx) (length : Nat) : Kept [Fld.HFE_DWE_STATUS.ENTRIES, Fld.HFE_DWE_STATUS.OVERFLOW] s (State.dweClear s f length) := by
  unfold State.dweClear
  try dsimp only
  repeat' first
    | exact (rfl : (_ : Bool) = _)
    | with_reducible exact Kept.refl
    | with_reducible refine Kept.ite ?_ ?_
    | with_reducible apply Kept.setFldAt
    | with_reducible apply Kept.setFld
    | with_reducible apply Kept.setBitAt
    | with_reducible apply Kept.setBit
    | (dsimp only [Kept.mk_form]; with_reducible apply KeptMk.intro (_h0 := rfl) (h3 := rfl))
    | split
    | refine Kept.ite ?_ ?_

theorem kept_execGetLogPage (fn : FnIdx) (cid lid lsp length : Nat) (s : State) : KeptOut [Fld.HFE_CID_CONFLICT_COUNT, Fld.HFE_DWE_STATUS.ENTRIES, Fld.HFE_DWE_STATUS.OVERFLOW, Fld.PWR_STATE.STATE, Fld.PWR_STATE.TARGET] s (execGetLogPage fn cid lid lsp length s) := by
  unfold execGetLogPage
  try dsimp only
  repeat' first
    | exact (rfl : (_ : Bool) = _)
    | with_reducible exact Kept.refl
    | with_reducible assumption
    | with_reducible refine KeptOut.next ?_
    | with_reducible refine KeptOut.ite ?_ ?_
    | with_reducible refine Kept.ite ?_ ?_
    | with_reducible apply Kept.step (kept_State_adminDone _ _ _ _ _ _)
    | with_reducible apply Kept.step (kept_State_adminEnd _ _ _ _)
    | with_reducible apply Kept.step (kept_State_dweClear _ _ _)
    | with_reducible refine kept_State_admin _ _ _ _ _ _ rfl (fun _ _ => ?_)
    | (dsimp only [Kept.mk_form]; with_reducible apply KeptMk.intro (_h0 := rfl) (h3 := rfl))
    | split
    | refine Kept.ite ?_ ?_
    | refine KeptOut.ite ?_ ?_

theorem kept_execIdentify (fn : FnIdx) (cid cns nsid : Nat) (s : State) : KeptOut [Fld.HFE_CID_CONFLICT_COUNT, Fld.PWR_STATE.STATE, Fld.PWR_STATE.TARGET] s (execIdentify fn cid cns nsid s) := by
  unfold execIdentify
  try dsimp only
  repeat' first
    | exact (rfl : (_ : Bool) = _)
    | with_reducible exact Kept.refl
    | with_reducible assumption
    | with_reducible refine KeptOut.next ?_
    | with_reducible refine KeptOut.ite ?_ ?_
    | with_reducible refine Kept.ite ?_ ?_
    | with_reducible apply Kept.step (kept_State_adminDone _ _ _ _ _ _)
    | with_reducible apply Kept.step (kept_State_adminEnd _ _ _ _)
    | with_reducible apply Kept.step (kept_State_used _)
    | with_reducible refine kept_State_admin _ _ _ _ _ _ rfl (fun _ _ => ?_)
    | (dsimp only [Kept.mk_form]; with_reducible apply KeptMk.intro (_h0 := rfl) (h3 := rfl))
    | split
    | refine Kept.ite ?_ ?_
    | refine KeptOut.ite ?_ ?_

theorem kept_execAbortCommand (fn : FnIdx) (cid sqid target : Nat) (s : State) : KeptOut [Fld.CIP_STATUS.CONTEXTS, Fld.HFE_CID_CONFLICT_COUNT, Fld.HFE_COLLECT_MAX.MAX_DEPTH, Fld.MIRROR_BYTES, Fld.PWR_STATE.STATE, Fld.PWR_STATE.TARGET, Fld.WC_STATUS.OVER_LIMIT, Fld.WC_STATUS.UNPROTECTED, Fld.WC_UNPROT_MS] s (execAbortCommand fn cid sqid target s) := by
  unfold execAbortCommand
  try dsimp only
  repeat' first
    | exact (rfl : (_ : Bool) = _)
    | with_reducible exact Kept.refl
    | with_reducible assumption
    | with_reducible refine KeptOut.next ?_
    | with_reducible refine KeptOut.ite ?_ ?_
    | with_reducible refine Kept.ite ?_ ?_
    | with_reducible apply Kept.step (kept_State_adminDone _ _ _ _ _ _)
    | with_reducible apply Kept.step (kept_State_collect _ _ _ _)
    | with_reducible apply Kept.step (kept_State_fenceWake _)
    | with_reducible apply Kept.step (kept_State_putFn _ _ _)
    | with_reducible refine kept_State_admin _ _ _ _ _ _ rfl (fun _ _ => ?_)
    | (dsimp only [Kept.mk_form]; with_reducible apply KeptMk.intro (_h0 := rfl) (h3 := rfl))
    | split
    | refine Kept.ite ?_ ?_
    | refine KeptOut.ite ?_ ?_

theorem kept_execAsynchronousEventRequest (fn : FnIdx) (cid : Nat) (s : State) : KeptOut [Fld.HFE_CID_CONFLICT_COUNT, Fld.PWR_STATE.STATE, Fld.PWR_STATE.TARGET] s (execAsynchronousEventRequest fn cid s) := by
  unfold execAsynchronousEventRequest
  try dsimp only
  repeat' first
    | exact (rfl : (_ : Bool) = _)
    | with_reducible exact Kept.refl
    | with_reducible assumption
    | with_reducible refine KeptOut.next ?_
    | with_reducible refine KeptOut.ite ?_ ?_
    | with_reducible refine Kept.ite ?_ ?_
    | with_reducible apply Kept.step (kept_State_adminEnd _ _ _ _)
    | with_reducible apply Kept.step (kept_State_putFn _ _ _)
    | with_reducible refine kept_State_admin _ _ _ _ _ _ rfl (fun _ _ => ?_)
    | (dsimp only [Kept.mk_form]; with_reducible apply KeptMk.intro (_h0 := rfl) (h3 := rfl))
    | split
    | refine Kept.ite ?_ ?_
    | refine KeptOut.ite ?_ ?_

theorem kept_execInvalidOpcodeCommand (fn : FnIdx) (sq cid : Nat) (s : State) : KeptOut [Fld.HFE_CID_CONFLICT_COUNT, Fld.HFE_COLLECT_MAX.MAX_DEPTH, Fld.HFE_FETCH_PAUSE_COUNT, Fld.HFE_LOCK_WAIT_COUNT, Fld.LAT_C0_RATE.GBPS_X100, Fld.LAT_C0_RATE.KCMD, Fld.PWR_STATE.STATE, Fld.PWR_STATE.TARGET] s (execInvalidOpcodeCommand fn sq cid s) := by
  unfold execInvalidOpcodeCommand
  try dsimp only
  repeat' first
    | exact (rfl : (_ : Bool) = _)
    | with_reducible exact Kept.refl
    | with_reducible assumption
    | with_reducible refine KeptOut.next ?_
    | with_reducible refine KeptOut.ite ?_ ?_
    | with_reducible refine Kept.ite ?_ ?_
    | with_reducible apply Kept.step (kept_State_adminEnd _ _ _ _)
    | with_reducible apply Kept.step (kept_State_fetchBurst _ _ _ _ _)
    | with_reducible refine kept_State_admin _ _ _ _ _ _ rfl (fun _ _ => ?_)
    | (dsimp only [Kept.mk_form]; with_reducible apply KeptMk.intro (_h0 := rfl) (h3 := rfl))
    | split
    | refine Kept.ite ?_ ?_
    | refine KeptOut.ite ?_ ?_

theorem kept_execSetFeaturesPowerManagement (fn : FnIdx) (cid ps : Nat) (s : State) : KeptOut [Fld.HFE_CID_CONFLICT_COUNT, Fld.PWR_STATE.STATE, Fld.PWR_STATE.TARGET, Fld.PWR_TRANS_COUNT, Fld.THERM_STATUS.CLOCK_STEPS] s (execSetFeaturesPowerManagement fn cid ps s) := by
  unfold execSetFeaturesPowerManagement
  try dsimp only
  repeat' first
    | exact (rfl : (_ : Bool) = _)
    | with_reducible exact Kept.refl
    | with_reducible assumption
    | with_reducible refine KeptOut.next ?_
    | with_reducible refine KeptOut.ite ?_ ?_
    | with_reducible refine Kept.ite ?_ ?_
    | with_reducible apply Kept.step (kept_State_adminConflict _ _ _)
    | with_reducible apply Kept.step (kept_State_adminEnd _ _ _ _)
    | with_reducible apply Kept.step (kept_State_adminTake _ _)
    | with_reducible apply Kept.step (kept_State_startPower _ _)
    | split
    | dsimp only
    | refine Kept.ite ?_ ?_
    | refine KeptOut.ite ?_ ?_

theorem kept_execSetFeaturesQueueClass (fn : FnIdx) (cid sqid cls : Nat) (s : State) : KeptOut [Fld.HFE_CID_CONFLICT_COUNT, Fld.PWR_STATE.STATE, Fld.PWR_STATE.TARGET] s (execSetFeaturesQueueClass fn cid sqid cls s) := by
  unfold execSetFeaturesQueueClass
  try dsimp only
  repeat' first
    | exact (rfl : (_ : Bool) = _)
    | with_reducible exact Kept.refl
    | with_reducible assumption
    | with_reducible refine KeptOut.next ?_
    | with_reducible refine KeptOut.ite ?_ ?_
    | with_reducible refine Kept.ite ?_ ?_
    | with_reducible apply Kept.step (kept_State_adminEnd _ _ _ _)
    | with_reducible refine kept_State_admin _ _ _ _ _ _ rfl (fun _ _ => ?_)
    | (dsimp only [Kept.mk_form]; with_reducible apply KeptMk.intro (_h0 := rfl) (h3 := rfl))
    | split
    | refine Kept.ite ?_ ?_
    | refine KeptOut.ite ?_ ?_

theorem kept_State_putWindow (s : State) (nsid index start count : Nat) (locked : Bool) : Kept [] s (State.putWindow s nsid index start count locked) := by
  unfold State.putWindow
  try dsimp only
  repeat' first
    | exact (rfl : (_ : Bool) = _)
    | with_reducible exact Kept.refl
    | with_reducible refine Kept.ite ?_ ?_
    | (dsimp only [Kept.mk_form]; with_reducible apply KeptMk.intro (_h0 := rfl) (h3 := rfl))
    | split
    | refine Kept.ite ?_ ?_

theorem kept_execSetFeaturesProtectionWindow (fn : FnIdx) (cid nsid index start count flags token : Nat) (s : State) : KeptOut [Fld.EVR_CHAL, Fld.EVR_STATUS.CHAL_VALID, Fld.EVR_STATUS.LOCKOUT, Fld.HFE_CID_CONFLICT_COUNT, Fld.PWR_STATE.STATE, Fld.PWR_STATE.TARGET] s (execSetFeaturesProtectionWindow fn cid nsid index start count flags token s) := by
  unfold execSetFeaturesProtectionWindow
  try dsimp only
  repeat' first
    | exact (rfl : (_ : Bool) = _)
    | with_reducible exact Kept.refl
    | with_reducible assumption
    | with_reducible refine KeptOut.next ?_
    | with_reducible refine KeptOut.ite ?_ ?_
    | with_reducible refine Kept.ite ?_ ?_
    | with_reducible apply Kept.step (kept_State_adminEnd _ _ _ _)
    | with_reducible apply Kept.step (kept_State_putWindow _ _ _ _ _ _)
    | with_reducible apply Kept.step (kept_State_tokenChecked _ _ _ _)
    | with_reducible refine kept_State_admin _ _ _ _ _ _ rfl (fun _ _ => ?_)
    | (dsimp only [Kept.mk_form]; with_reducible apply KeptMk.intro (_h0 := rfl) (h3 := rfl))
    | split
    | refine Kept.ite ?_ ?_
    | refine KeptOut.ite ?_ ?_

theorem kept_State_putFeat (s : State) (f : FnIdx) (fid v : Nat) : Kept [] s (State.putFeat s f fid v) := by
  unfold State.putFeat
  try dsimp only
  repeat' first
    | exact (rfl : (_ : Bool) = _)
    | with_reducible exact Kept.refl
    | with_reducible apply Kept.step (kept_State_putFn _ _ _)
    | (dsimp only [Kept.mk_form]; with_reducible apply KeptMk.intro (_h0 := rfl) (h3 := rfl))

theorem kept_execSetFeaturesArbitration (fn : FnIdx) (cid value : Nat) (s : State) : KeptOut [Fld.HFE_CID_CONFLICT_COUNT, Fld.PWR_STATE.STATE, Fld.PWR_STATE.TARGET] s (execSetFeaturesArbitration fn cid value s) := by
  unfold execSetFeaturesArbitration
  try dsimp only
  repeat' first
    | exact (rfl : (_ : Bool) = _)
    | with_reducible exact Kept.refl
    | with_reducible assumption
    | with_reducible refine KeptOut.next ?_
    | with_reducible apply Kept.step (kept_State_adminEnd _ _ _ _)
    | with_reducible apply Kept.step (kept_State_putFeat _ _ _ _)
    | with_reducible refine kept_State_admin _ _ _ _ _ _ rfl (fun _ _ => ?_)

theorem kept_State_putTable (s : State) (f : FnIdx) (fid : Nat) (table : List Nat) : Kept [] s (State.putTable s f fid table) := by
  unfold State.putTable
  try dsimp only
  repeat' first
    | exact (rfl : (_ : Bool) = _)
    | with_reducible exact Kept.refl
    | with_reducible refine Kept.ite ?_ ?_
    | with_reducible apply Kept.step (kept_State_putFn _ _ _)
    | (dsimp only [Kept.mk_form]; with_reducible apply KeptMk.intro (_h0 := rfl) (h3 := rfl))
    | split
    | refine Kept.ite ?_ ?_

theorem kept_execSetFeaturesOther (fn : FnIdx) (cid fid : Nat) (given : FeatureGiven) (s : State) : KeptOut [Fld.HFE_CID_CONFLICT_COUNT, Fld.PWR_STATE.STATE, Fld.PWR_STATE.TARGET] s (execSetFeaturesOther fn cid fid given s) := by
  unfold execSetFeaturesOther
  try dsimp only
  repeat' first
    | exact (rfl : (_ : Bool) = _)
    | with_reducible exact Kept.refl
    | with_reducible assumption
    | with_reducible refine KeptOut.next ?_
    | with_reducible refine KeptOut.ite ?_ ?_
    | with_reducible refine Kept.ite ?_ ?_
    | with_reducible apply Kept.step (kept_State_adminEnd _ _ _ _)
    | with_reducible apply Kept.step (kept_State_putFeat _ _ _ _)
    | with_reducible apply Kept.step (kept_State_putTable _ _ _ _)
    | with_reducible refine kept_State_admin _ _ _ _ _ _ rfl (fun _ _ => ?_)
    | split
    | refine Kept.ite ?_ ?_
    | refine KeptOut.ite ?_ ?_

theorem kept_execGetFeatures (fn : FnIdx) (cid fid arg : Nat) (s : State) : KeptOut [Fld.HFE_CID_CONFLICT_COUNT, Fld.PWR_STATE.STATE, Fld.PWR_STATE.TARGET] s (execGetFeatures fn cid fid arg s) := by
  unfold execGetFeatures
  try dsimp only
  repeat' first
    | exact (rfl : (_ : Bool) = _)
    | with_reducible exact Kept.refl
    | with_reducible assumption
    | with_reducible refine KeptOut.next ?_
    | with_reducible apply Kept.step (kept_State_adminDone _ _ _ _ _ _)
    | with_reducible apply Kept.step (kept_State_adminEnd _ _ _ _)
    | with_reducible apply Kept.step (kept_State_used _)
    | with_reducible refine kept_State_admin _ _ _ _ _ _ rfl (fun _ _ => ?_)
    | (dsimp only [Kept.mk_form]; with_reducible apply KeptMk.intro (_h0 := rfl) (h3 := rfl))
    | split
    | dsimp only

theorem kept_execFormatNvm (fn : FnIdx) (cid nsid ses : Nat) (fmt : FormatAsked) (s : State) : KeptOut [Fld.CIP_STATUS.CONTEXTS, Fld.HFE_CID_CONFLICT_COUNT, Fld.HFE_COLLECT_MAX.MAX_DEPTH, Fld.MIRROR_BYTES, Fld.PWR_STATE.STATE, Fld.PWR_STATE.TARGET, Fld.WC_STATUS.OVER_LIMIT, Fld.WC_STATUS.UNPROTECTED, Fld.WC_UNPROT_MS] s (execFormatNvm fn cid nsid ses fmt s) := by
  unfold execFormatNvm
  try dsimp only
  repeat' first
    | exact (rfl : (_ : Bool) = _)
    | with_reducible exact Kept.refl
    | with_reducible assumption
    | with_reducible refine KeptOut.next ?_
    | with_reducible refine KeptOut.ite ?_ ?_
    | with_reducible refine Kept.ite ?_ ?_
    | with_reducible apply Kept.step (kept_State_adminEnd _ _ _ _)
    | with_reducible apply Kept.step (kept_State_fenceWake _)
    | with_reducible refine kept_State_admin _ _ _ _ _ _ rfl (fun _ _ => ?_)
    | (dsimp only [Kept.mk_form]; with_reducible apply KeptMk.intro (_h0 := rfl) (h3 := rfl))
    | split
    | dsimp only
    | refine Kept.ite ?_ ?_
    | refine KeptOut.ite ?_ ?_

theorem kept_State_askSanitize (s : State) (f : FnIdx) (cid : Nat) (x : SanitizeOp) : Kept [Fld.CIP_STATUS.CONTEXTS, Fld.HFE_COLLECT_MAX.MAX_DEPTH, Fld.MIRROR_BYTES, Fld.WC_STATUS.OVER_LIMIT, Fld.WC_STATUS.UNPROTECTED, Fld.WC_UNPROT_MS] s (State.askSanitize s f cid x) := by
  unfold State.askSanitize
  try dsimp only
  repeat' first
    | exact (rfl : (_ : Bool) = _)
    | with_reducible exact Kept.refl
    | with_reducible refine Kept.ite ?_ ?_
    | with_reducible apply Kept.step (kept_State_adminEnd _ _ _ _)
    | with_reducible apply Kept.step (kept_State_fenceWake _)
    | (dsimp only [Kept.mk_form]; with_reducible apply KeptMk.intro (_h0 := rfl) (h3 := rfl))
    | split
    | dsimp only
    | refine Kept.ite ?_ ?_

theorem kept_execSanitizeOverwrite (fn : FnIdx) (cid pattern passes : Nat) (invert : Bool) (s : State) : KeptOut [Fld.CIP_STATUS.CONTEXTS, Fld.HFE_CID_CONFLICT_COUNT, Fld.HFE_COLLECT_MAX.MAX_DEPTH, Fld.MIRROR_BYTES, Fld.PWR_STATE.STATE, Fld.PWR_STATE.TARGET, Fld.WC_STATUS.OVER_LIMIT, Fld.WC_STATUS.UNPROTECTED, Fld.WC_UNPROT_MS] s (execSanitizeOverwrite fn cid pattern passes invert s) := by
  unfold execSanitizeOverwrite
  try dsimp only
  repeat' first
    | exact (rfl : (_ : Bool) = _)
    | with_reducible exact Kept.refl
    | with_reducible assumption
    | with_reducible refine KeptOut.next ?_
    | with_reducible refine KeptOut.ite ?_ ?_
    | with_reducible refine Kept.ite ?_ ?_
    | with_reducible apply Kept.step (kept_State_askSanitize _ _ _ _)
    | with_reducible refine kept_State_admin _ _ _ _ _ _ rfl (fun _ _ => ?_)
    | split
    | refine Kept.ite ?_ ?_
    | refine KeptOut.ite ?_ ?_

theorem kept_execSanitizeCryptoErase (fn : FnIdx) (cid : Nat) (s : State) : KeptOut [Fld.CIP_STATUS.CONTEXTS, Fld.HFE_CID_CONFLICT_COUNT, Fld.HFE_COLLECT_MAX.MAX_DEPTH, Fld.MIRROR_BYTES, Fld.PWR_STATE.STATE, Fld.PWR_STATE.TARGET, Fld.WC_STATUS.OVER_LIMIT, Fld.WC_STATUS.UNPROTECTED, Fld.WC_UNPROT_MS] s (execSanitizeCryptoErase fn cid s) := by
  unfold execSanitizeCryptoErase
  try dsimp only
  repeat' first
    | exact (rfl : (_ : Bool) = _)
    | with_reducible exact Kept.refl
    | with_reducible assumption
    | with_reducible refine KeptOut.next ?_
    | with_reducible refine KeptOut.ite ?_ ?_
    | with_reducible refine Kept.ite ?_ ?_
    | with_reducible apply Kept.step (kept_State_askSanitize _ _ _ _)
    | with_reducible refine kept_State_admin _ _ _ _ _ _ rfl (fun _ _ => ?_)
    | split
    | refine Kept.ite ?_ ?_
    | refine KeptOut.ite ?_ ?_

theorem kept_execSanitizeOther (fn : FnIdx) (cid sanact : Nat) (s : State) : KeptOut [Fld.HFE_CID_CONFLICT_COUNT, Fld.PWR_STATE.STATE, Fld.PWR_STATE.TARGET] s (execSanitizeOther fn cid sanact s) := by
  unfold execSanitizeOther
  try dsimp only
  repeat' first
    | exact (rfl : (_ : Bool) = _)
    | with_reducible exact Kept.refl
    | with_reducible assumption
    | with_reducible refine KeptOut.next ?_
    | with_reducible refine KeptOut.ite ?_ ?_
    | with_reducible refine Kept.ite ?_ ?_
    | with_reducible apply Kept.step (kept_State_adminEnd _ _ _ _)
    | with_reducible refine kept_State_admin _ _ _ _ _ _ rfl (fun _ _ => ?_)
    | (dsimp only [Kept.mk_form]; with_reducible apply KeptMk.intro (_h0 := rfl) (h3 := rfl))
    | split
    | refine Kept.ite ?_ ?_
    | refine KeptOut.ite ?_ ?_

theorem kept_State_eraseGroups (s : State) (r : Arr) (x : SanitizeOp) (lo hi : Nat) : Kept [] s (State.eraseGroups s r x lo hi) := by
  unfold State.eraseGroups
  try dsimp only
  repeat' first
    | exact (rfl : (_ : Bool) = _)
    | with_reducible exact Kept.refl
    | with_reducible assumption
    | with_reducible apply Kept.step (kept_State_putMedia _ _ _)
    | with_reducible refine Kept.foldl (fun _ _ _ => ?_) ?_
    | (dsimp only [Kept.mk_form]; with_reducible apply KeptMk.intro (_h0 := rfl) (h3 := rfl))
    | split

theorem kept_State_sanitizeStep (s : State) (x : SanitizeOp) : Kept [] s (State.sanitizeStep s x) := by
  unfold State.sanitizeStep
  try dsimp only
  repeat' first
    | exact (rfl : (_ : Bool) = _)
    | with_reducible exact Kept.refl
    | with_reducible assumption
    | with_reducible apply Kept.step (kept_State_eraseGroups _ _ _ _ _)
    | with_reducible refine Kept.foldl (fun _ _ _ => ?_) ?_
    | with_reducible refine Kept.foldlFst (fun _ _ _ => ?_) ?_
    | with_reducible refine Kept.foldlSnd (fun _ _ _ => ?_) ?_
    | (dsimp only [Kept.mk_form]; with_reducible apply KeptMk.intro (_h0 := rfl) (h3 := rfl))
    | dsimp only

theorem kept_execFormatWatermarkSave (nsid : Nat) (s : State) : KeptOut [Fld.MIRROR_BYTES, Fld.WC_STATUS.OVER_LIMIT, Fld.WC_STATUS.UNPROTECTED, Fld.WC_UNPROT_MS] s (execFormatWatermarkSave nsid s) := by
  unfold execFormatWatermarkSave
  try dsimp only
  repeat' first
    | exact (rfl : (_ : Bool) = _)
    | with_reducible exact Kept.refl
    | with_reducible assumption
    | with_reducible refine KeptOut.next ?_
    | with_reducible refine KeptOut.ite ?_ ?_
    | with_reducible refine Kept.ite ?_ ?_
    | with_reducible apply Kept.step (kept_State_formatStep _ _)
    | with_reducible apply Kept.step (kept_State_sanitizeStep _ _)
    | (dsimp only [Kept.mk_form]; with_reducible apply KeptMk.intro (_h0 := rfl) (h3 := rfl))
    | split
    | refine Kept.ite ?_ ?_
    | refine KeptOut.ite ?_ ?_

theorem kept_execFormatEnd (nsid : Nat) (s : State) : KeptOut [Fld.MIRROR_BYTES, Fld.WC_STATUS.OVER_LIMIT, Fld.WC_STATUS.UNPROTECTED, Fld.WC_UNPROT_MS] s (execFormatEnd nsid s) := by
  unfold execFormatEnd
  try dsimp only
  repeat' first
    | exact (rfl : (_ : Bool) = _)
    | with_reducible exact Kept.refl
    | with_reducible refine KeptOut.next ?_
    | with_reducible refine KeptOut.ite ?_ ?_
    | with_reducible refine Kept.ite ?_ ?_
    | with_reducible apply Kept.step (kept_State_formatStep _ _)
    | (dsimp only [Kept.mk_form]; with_reducible apply KeptMk.intro (_h0 := rfl) (h3 := rfl))
    | split
    | refine Kept.ite ?_ ?_
    | refine KeptOut.ite ?_ ?_

theorem kept_State_eraseMembers (s : State) (x : SanitizeOp) : Kept [] s (State.eraseMembers s x) := by
  unfold State.eraseMembers
  try dsimp only
  repeat' first
    | exact (rfl : (_ : Bool) = _)
    | with_reducible exact Kept.refl
    | with_reducible assumption
    | with_reducible refine Kept.ite ?_ ?_
    | with_reducible apply Kept.step (kept_State_eraseGroups _ _ _ _ _)
    | with_reducible apply Kept.step (kept_State_putMedia _ _ _)
    | with_reducible apply Kept.step (kept_State_retag _ _ _)
    | with_reducible refine Kept.foldl (fun _ _ _ => ?_) ?_
    | with_reducible refine Kept.foldlFst (fun _ _ _ => ?_) ?_
    | with_reducible refine Kept.foldlSnd (fun _ _ _ => ?_) ?_
    | (dsimp only [Kept.mk_form]; with_reducible apply KeptMk.intro (_h0 := rfl) (h3 := rfl))
    | split
    | dsimp only
    | refine Kept.ite ?_ ?_

theorem kept_execSanitizeEnd (s : State) : KeptOut [] s (execSanitizeEnd s) := by
  unfold execSanitizeEnd
  try dsimp only
  repeat' first
    | exact (rfl : (_ : Bool) = _)
    | with_reducible exact Kept.refl
    | with_reducible assumption
    | with_reducible refine KeptOut.next ?_
    | with_reducible refine KeptOut.ite ?_ ?_
    | with_reducible refine Kept.ite ?_ ?_
    | with_reducible apply Kept.step (kept_State_eraseMembers _ _)
    | (dsimp only [Kept.mk_form]; with_reducible apply KeptMk.intro (_h0 := rfl) (h3 := rfl))
    | split
    | dsimp only
    | refine Kept.ite ?_ ?_
    | refine KeptOut.ite ?_ ?_


/-! ### Machine/Capo.lean -/

theorem kept_execCapoSeenClass (c : SeenClass) (s : State) : KeptOut [Fld.ARR_STATE.LOST_OVERFLOW, Fld.CAPACITY, Fld.CAPO_STATUS.DRIVE, Fld.CAPO_STATUS.GATE_OPEN, Fld.CAPO_STATUS.IDLE_REASON, Fld.CAPO_STATUS.LINE_FAULT, Fld.CAPO_STATUS.ROLE, Fld.CAPO_STATUS.SEEN, Fld.DRIVE_SERIAL, Fld.ERR_INFO.DRIVE_STATUS, Fld.ERR_INFO.KIND, Fld.ERR_INFO.SLOT, Fld.HFE_DWE_STATUS.ENTRIES, Fld.HFE_DWE_STATUS.OVERFLOW, Fld.LINK_STATUS.LINK_UP, Fld.LINK_STATUS.PWREN, Fld.LINK_STATUS.RATE, Fld.LINK_STATUS.WIDTH, Fld.MIRROR_BYTES, Fld.OUTSTANDING.C0_SLOTS, Fld.OUTSTANDING.SLOTS, Fld.PORT_STATE.STATE, Fld.RBE_LOST_COUNT.ENTRIES, Fld.RBE_LOST_COUNT.OVERFLOW, Fld.RESET_COUNT, Fld.RETRY_COUNT, Fld.WRITE_GATE_ABORTS] s (execCapoSeenClass c s) := by
  unfold execCapoSeenClass
  try dsimp only
  repeat' first
    | exact (rfl : (_ : Bool) = _)
    | with_reducible exact Kept.refl
    | with_reducible assumption
    | with_reducible refine KeptOut.next ?_
    | with_reducible refine KeptOut.ite ?_ ?_
    | with_reducible refine Kept.ite ?_ ?_
    | with_reducible apply Kept.setFldAt
    | with_reducible apply Kept.setFld
    | with_reducible apply Kept.step (kept_State_closeGate _)
    | with_reducible apply Kept.step (kept_State_seeClass _)
    | (dsimp only [Kept.mk_form]; with_reducible apply KeptMk.intro (_h0 := rfl) (h3 := rfl))
    | split
    | refine Kept.ite ?_ ?_
    | refine KeptOut.ite ?_ ?_

theorem kept_execReadbackCheck (same : Bool) (s : State) : KeptOut [Fld.ARR_STATE.LOST_OVERFLOW, Fld.CAPACITY, Fld.CAPO_STATUS.DRIVE, Fld.CAPO_STATUS.GATE_OPEN, Fld.CAPO_STATUS.IDLE_REASON, Fld.CAPO_STATUS.LINE_FAULT, Fld.CAPO_STATUS.READBACK_FAULT, Fld.CAPO_STATUS.ROLE, Fld.DRIVE_SERIAL, Fld.ERR_INFO.DRIVE_STATUS, Fld.ERR_INFO.KIND, Fld.ERR_INFO.SLOT, Fld.HFE_DWE_STATUS.ENTRIES, Fld.HFE_DWE_STATUS.OVERFLOW, Fld.LINK_STATUS.LINK_UP, Fld.LINK_STATUS.PWREN, Fld.LINK_STATUS.RATE, Fld.LINK_STATUS.WIDTH, Fld.MIRROR_BYTES, Fld.OUTSTANDING.C0_SLOTS, Fld.OUTSTANDING.SLOTS, Fld.PORT_STATE.STATE, Fld.RBE_LOST_COUNT.ENTRIES, Fld.RBE_LOST_COUNT.OVERFLOW, Fld.RESET_COUNT, Fld.RETRY_COUNT, Fld.WRITE_GATE_ABORTS] s (execReadbackCheck same s) := by
  unfold execReadbackCheck
  try dsimp only
  repeat' first
    | exact (rfl : (_ : Bool) = _)
    | with_reducible exact Kept.refl
    | with_reducible assumption
    | with_reducible refine KeptOut.next ?_
    | with_reducible refine KeptOut.ite ?_ ?_
    | with_reducible refine Kept.ite ?_ ?_
    | with_reducible apply Kept.setBitAt
    | with_reducible apply Kept.setBit
    | with_reducible apply Kept.step (kept_State_lineFault _)
    | split
    | refine Kept.ite ?_ ?_
    | refine KeptOut.ite ?_ ?_

theorem kept_State_adoptMirror (s : State) : Kept [] s (State.adoptMirror s) := by
  unfold State.adoptMirror
  try dsimp only
  repeat' first
    | exact (rfl : (_ : Bool) = _)
    | with_reducible exact Kept.refl
    | with_reducible assumption
    | with_reducible refine Kept.foldl (fun _ _ _ => ?_) ?_
    | (dsimp only [Kept.mk_form]; with_reducible apply KeptMk.intro (_h0 := rfl) (h3 := rfl))
    | dsimp only

theorem kept_execGateOpen (s : State) : KeptOut [Fld.CAPO_STATUS.GATE_OPEN, Fld.CAPO_STATUS.IDLE_REASON, Fld.CAPO_STATUS.ROLE, Fld.HFE_DWE_STATUS.ENTRIES, Fld.HFE_DWE_STATUS.OVERFLOW, Fld.HFE_STATUS.REPLAY_PENDING, Fld.MIRROR_BYTES, Fld.PAIR_EPOCH, Fld.PAIR_STATUS.MIRROR_ON, Fld.PAIR_STATUS.STATE_COMPLETE, Fld.WC_REPLAY.RESULT, Fld.WC_STATUS.OVER_LIMIT, Fld.WC_STATUS.UNPROTECTED, Fld.WC_UNPROT_MS] s (execGateOpen s) := by
  unfold execGateOpen
  try dsimp only
  repeat' first
    | exact (rfl : (_ : Bool) = _)
    | with_reducible exact Kept.refl
    | with_reducible refine KeptOut.next ?_
    | with_reducible refine KeptOut.ite ?_ ?_
    | with_reducible refine Kept.ite ?_ ?_
    | with_reducible apply Kept.setBitAt
    | with_reducible apply Kept.setBit
    | with_reducible apply Kept.step (kept_State_adoptMirror _)
    | with_reducible apply Kept.step (kept_State_becomeActive _)
    | with_reducible apply Kept.step (kept_State_nextEpoch _ _)
    | with_reducible apply Kept.step (kept_State_noReplay _)
    | with_reducible apply Kept.step (kept_State_resumeLabels _)
    | split
    | refine Kept.ite ?_ ?_
    | refine KeptOut.ite ?_ ?_

theorem kept_execCapoRenew (iface : Iface) (s : State) : KeptOut [] s (execCapoRenew iface s) := by
  unfold execCapoRenew
  try dsimp only
  repeat' first
    | exact (rfl : (_ : Bool) = _)
    | with_reducible exact Kept.refl
    | with_reducible refine KeptOut.next ?_
    | with_reducible refine KeptOut.ite ?_ ?_
    | with_reducible refine Kept.ite ?_ ?_
    | (dsimp only [Kept.mk_form]; with_reducible apply KeptMk.intro (_h0 := rfl) (h3 := rfl))
    | split
    | refine Kept.ite ?_ ?_
    | refine KeptOut.ite ?_ ?_

theorem kept_execRenewExpiry (s : State) : KeptOut [Fld.ARR_STATE.LOST_OVERFLOW, Fld.CAPACITY, Fld.CAPO_STATUS.DRIVE, Fld.CAPO_STATUS.GATE_OPEN, Fld.CAPO_STATUS.RENEW_EXPIRED, Fld.CAPO_STATUS.ROLE, Fld.DRIVE_SERIAL, Fld.ERR_INFO.DRIVE_STATUS, Fld.ERR_INFO.KIND, Fld.ERR_INFO.SLOT, Fld.HFE_COLLECT_MAX.MAX_DEPTH, Fld.HFE_DWE_STATUS.ENTRIES, Fld.HFE_DWE_STATUS.OVERFLOW, Fld.LINK_STATUS.LINK_UP, Fld.LINK_STATUS.PWREN, Fld.LINK_STATUS.RATE, Fld.LINK_STATUS.WIDTH, Fld.MIRROR_BYTES, Fld.OUTSTANDING.C0_SLOTS, Fld.OUTSTANDING.SLOTS, Fld.PAIR_STATUS.MIRROR_ON, Fld.PAIR_STATUS.SYNCING, Fld.PORT_STATE.STATE, Fld.RBE_LOST_COUNT.ENTRIES, Fld.RBE_LOST_COUNT.OVERFLOW, Fld.RESET_COUNT, Fld.RETRY_COUNT, Fld.WC_STATUS.MIRROR_ON, Fld.WRITE_GATE_ABORTS] s (execRenewExpiry s) := by
  unfold execRenewExpiry
  try dsimp only
  repeat' first
    | exact (rfl : (_ : Bool) = _)
    | with_reducible exact Kept.refl
    | with_reducible refine KeptOut.next ?_
    | with_reducible refine KeptOut.ite ?_ ?_
    | with_reducible refine Kept.ite ?_ ?_
    | with_reducible apply Kept.setBitAt
    | with_reducible apply Kept.setBit
    | with_reducible apply Kept.step (kept_State_closeGate _)
    | with_reducible apply Kept.step (kept_State_driveCapo _)
    | with_reducible apply Kept.step (kept_State_leaveUpdates _)
    | with_reducible apply Kept.step (kept_State_mirrorOff _)
    | with_reducible apply Kept.step (kept_State_setRole _ _)
    | (dsimp only [Kept.mk_form]; with_reducible apply KeptMk.intro (_h0 := rfl) (h3 := rfl))
    | split
    | refine Kept.ite ?_ ?_
    | refine KeptOut.ite ?_ ?_

theorem kept_execContentionTimeout (s : State) : KeptOut [Fld.ARR_STATE.LOST_OVERFLOW, Fld.CAPACITY, Fld.CAPO_STATUS.DRIVE, Fld.CAPO_STATUS.GATE_OPEN, Fld.CAPO_STATUS.ROLE, Fld.DRIVE_SERIAL, Fld.ERR_INFO.DRIVE_STATUS, Fld.ERR_INFO.KIND, Fld.ERR_INFO.SLOT, Fld.HFE_DWE_STATUS.ENTRIES, Fld.HFE_DWE_STATUS.OVERFLOW, Fld.LINK_STATUS.LINK_UP, Fld.LINK_STATUS.PWREN, Fld.LINK_STATUS.RATE, Fld.LINK_STATUS.WIDTH, Fld.MIRROR_BYTES, Fld.OUTSTANDING.C0_SLOTS, Fld.OUTSTANDING.SLOTS, Fld.PORT_STATE.STATE, Fld.RBE_LOST_COUNT.ENTRIES, Fld.RBE_LOST_COUNT.OVERFLOW, Fld.RESET_COUNT, Fld.RETRY_COUNT, Fld.WRITE_GATE_ABORTS] s (execContentionTimeout s) := by
  unfold execContentionTimeout
  try dsimp only
  repeat' first
    | exact (rfl : (_ : Bool) = _)
    | with_reducible exact Kept.refl
    | with_reducible refine KeptOut.next ?_
    | with_reducible refine KeptOut.ite ?_ ?_
    | with_reducible refine Kept.ite ?_ ?_
    | with_reducible apply Kept.step (kept_State_withdraw _)
    | (dsimp only [Kept.mk_form]; with_reducible apply KeptMk.intro (_h0 := rfl) (h3 := rfl))
    | split
    | refine Kept.ite ?_ ?_
    | refine KeptOut.ite ?_ ?_

theorem kept_execContentionBackoffExpiry (s : State) : KeptOut [Fld.CAPO_STATUS.DRIVE, Fld.CAPO_STATUS.IDLE_REASON, Fld.CAPO_STATUS.ROLE] s (execContentionBackoffExpiry s) := by
  unfold execContentionBackoffExpiry
  try dsimp only
  repeat' first
    | exact (rfl : (_ : Bool) = _)
    | with_reducible exact Kept.refl
    | with_reducible refine KeptOut.next ?_
    | with_reducible refine KeptOut.ite ?_ ?_
    | with_reducible refine Kept.ite ?_ ?_
    | with_reducible apply Kept.setFldAt
    | with_reducible apply Kept.setFld
    | with_reducible apply Kept.step (kept_State_beginClaim _)
    | with_reducible apply Kept.step (kept_State_emit _ _ _)
    | (dsimp only [Kept.mk_form]; with_reducible apply KeptMk.intro (_h0 := rfl) (h3 := rfl))
    | split
    | refine Kept.ite ?_ ?_
    | refine KeptOut.ite ?_ ?_

theorem kept_execCapoClaim (s : State) : KeptOut [Fld.CAPO_STATUS.DRIVE, Fld.CAPO_STATUS.IDLE_REASON, Fld.CAPO_STATUS.ROLE, Fld.SYS_BUS_ADDR.OFFSET, Fld.SYS_BUS_STATUS.ERR, Fld.SYS_BUS_STATUS.IFACE, Fld.SYS_BUS_STATUS.REASON] s (execCapoClaim s) := by
  unfold execCapoClaim
  try dsimp only
  repeat' first
    | exact (rfl : (_ : Bool) = _)
    | with_reducible exact Kept.refl
    | with_reducible refine KeptOut.next ?_
    | with_reducible refine KeptOut.ite ?_ ?_
    | with_reducible refine KeptOut.command rfl Kept.refl ?_
    | with_reducible refine Kept.ite ?_ ?_
    | with_reducible apply Kept.step (kept_State_beginClaim _)
    | with_reducible apply Kept.step (kept_State_capoIgnored _ _)
    | (dsimp only [Kept.mk_form]; with_reducible apply KeptMk.intro (_h0 := rfl) (h3 := rfl))
    | split
    | refine Kept.ite ?_ ?_
    | refine KeptOut.ite ?_ ?_

theorem kept_execCapoRelease (s : State) : KeptOut [Fld.ARR_STATE.LOST_OVERFLOW, Fld.CAPACITY, Fld.CAPO_STATUS.DRIVE, Fld.CAPO_STATUS.GATE_OPEN, Fld.CAPO_STATUS.ROLE, Fld.DRIVE_SERIAL, Fld.ERR_INFO.DRIVE_STATUS, Fld.ERR_INFO.KIND, Fld.ERR_INFO.SLOT, Fld.HFE_COLLECT_MAX.MAX_DEPTH, Fld.HFE_DWE_STATUS.ENTRIES, Fld.HFE_DWE_STATUS.OVERFLOW, Fld.LINK_STATUS.LINK_UP, Fld.LINK_STATUS.PWREN, Fld.LINK_STATUS.RATE, Fld.LINK_STATUS.WIDTH, Fld.MIRROR_BYTES, Fld.OUTSTANDING.C0_SLOTS, Fld.OUTSTANDING.SLOTS, Fld.PAIR_STATUS.MIRROR_ON, Fld.PAIR_STATUS.SYNCING, Fld.PORT_STATE.STATE, Fld.RBE_LOST_COUNT.ENTRIES, Fld.RBE_LOST_COUNT.OVERFLOW, Fld.RESET_COUNT, Fld.RETRY_COUNT, Fld.SYS_BUS_ADDR.OFFSET, Fld.SYS_BUS_STATUS.ERR, Fld.SYS_BUS_STATUS.IFACE, Fld.SYS_BUS_STATUS.REASON, Fld.WC_STATUS.MIRROR_ON, Fld.WRITE_GATE_ABORTS] s (execCapoRelease s) := by
  unfold execCapoRelease
  try dsimp only
  repeat' first
    | exact (rfl : (_ : Bool) = _)
    | with_reducible exact Kept.refl
    | with_reducible refine KeptOut.next ?_
    | with_reducible refine KeptOut.ite ?_ ?_
    | with_reducible refine KeptOut.command rfl Kept.refl ?_
    | with_reducible refine Kept.ite ?_ ?_
    | with_reducible apply Kept.step (kept_State_beginRelease _ _)
    | with_reducible apply Kept.step (kept_State_capoIgnored _ _)
    | with_reducible apply Kept.step (kept_State_closeGate _)
    | with_reducible apply Kept.step (kept_State_endRelease _)
    | with_reducible apply Kept.step (kept_State_sendHealth _)
    | split
    | refine Kept.ite ?_ ?_
    | refine KeptOut.ite ?_ ?_

theorem kept_execReleaseComplete (s : State) : KeptOut [Fld.CAPO_STATUS.DRIVE, Fld.CAPO_STATUS.ROLE, Fld.HFE_COLLECT_MAX.MAX_DEPTH, Fld.MIRROR_BYTES, Fld.PAIR_STATUS.MIRROR_ON, Fld.PAIR_STATUS.SYNCING, Fld.WC_STATUS.MIRROR_ON] s (execReleaseComplete s) := by
  unfold execReleaseComplete
  try dsimp only
  repeat' first
    | exact (rfl : (_ : Bool) = _)
    | with_reducible exact Kept.refl
    | with_reducible refine KeptOut.next ?_
    | with_reducible refine KeptOut.ite ?_ ?_
    | with_reducible refine Kept.ite ?_ ?_
    | with_reducible apply Kept.step (kept_State_endRelease _)
    | split
    | refine Kept.ite ?_ ?_
    | refine KeptOut.ite ?_ ?_

theorem kept_execCapoClearFault (s : State) : KeptOut [Fld.CAPO_STATUS.DRIVE, Fld.CAPO_STATUS.IDLE_REASON, Fld.CAPO_STATUS.LINE_FAULT, Fld.CAPO_STATUS.READBACK_FAULT, Fld.CAPO_STATUS.ROLE, Fld.SYS_BUS_ADDR.OFFSET, Fld.SYS_BUS_STATUS.ERR, Fld.SYS_BUS_STATUS.IFACE, Fld.SYS_BUS_STATUS.REASON] s (execCapoClearFault s) := by
  unfold execCapoClearFault
  try dsimp only
  repeat' first
    | exact (rfl : (_ : Bool) = _)
    | with_reducible exact Kept.refl
    | with_reducible refine KeptOut.next ?_
    | with_reducible refine KeptOut.ite ?_ ?_
    | with_reducible refine KeptOut.command rfl Kept.refl ?_
    | with_reducible refine Kept.ite ?_ ?_
    | with_reducible apply Kept.setFldAt
    | with_reducible apply Kept.setFld
    | with_reducible apply Kept.setBitAt
    | with_reducible apply Kept.setBit
    | with_reducible apply Kept.step (kept_State_capoIgnored _ _)
    | with_reducible apply Kept.step (kept_State_driveCapo _)
    | with_reducible apply Kept.step (kept_State_setRole _ _)
    | split
    | refine Kept.ite ?_ ?_
    | refine KeptOut.ite ?_ ?_

theorem kept_State_reportAll (s : State) : Kept [Fld.HFE_DWE_STATUS.ENTRIES, Fld.HFE_DWE_STATUS.OVERFLOW, Fld.MIRROR_BYTES] s (State.reportAll s) := by
  unfold State.reportAll
  try dsimp only
  repeat' first
    | exact (rfl : (_ : Bool) = _)
    | with_reducible exact Kept.refl
    | with_reducible assumption
    | with_reducible apply Kept.step (kept_State_deferError _ _ _ _ _)
    | with_reducible refine Kept.foldl (fun _ _ _ => ?_) ?_

theorem kept_execCapoForceClaim (iface : Iface) (s : State) : KeptOut [Fld.CAPO_STATUS.DRIVE, Fld.CAPO_STATUS.IDLE_REASON, Fld.CAPO_STATUS.ROLE, Fld.EVR_CHAL, Fld.EVR_STATUS.CHAL_VALID, Fld.EVR_STATUS.LOCKOUT, Fld.HFE_DWE_STATUS.ENTRIES, Fld.HFE_DWE_STATUS.OVERFLOW, Fld.MIRROR_BYTES, Fld.PAIR_EPOCH, Fld.SYS_BUS_ADDR.OFFSET, Fld.SYS_BUS_STATUS.ERR, Fld.SYS_BUS_STATUS.IFACE, Fld.SYS_BUS_STATUS.REASON] s (execCapoForceClaim iface s) := by
  unfold execCapoForceClaim
  try dsimp only
  repeat' first
    | exact (rfl : (_ : Bool) = _)
    | with_reducible exact Kept.refl
    | with_reducible refine KeptOut.next ?_
    | with_reducible refine KeptOut.ite ?_ ?_
    | with_reducible refine KeptOut.command rfl Kept.refl ?_
    | with_reducible refine Kept.ite ?_ ?_
    | with_reducible apply Kept.step (kept_State_beginClaim _)
    | with_reducible apply Kept.step (kept_State_capoIgnored _ _)
    | with_reducible apply Kept.step (kept_State_nextEpoch _ _)
    | with_reducible apply Kept.step (kept_State_reportAll _)
    | with_reducible apply Kept.step (kept_State_tokenChecked _ _ _ _)
    | (dsimp only [Kept.mk_form]; with_reducible apply KeptMk.intro (_h0 := rfl) (h3 := rfl))
    | split
    | refine Kept.ite ?_ ?_
    | refine KeptOut.ite ?_ ?_

theorem kept_State_selftest (s : State) (failed : Nat) : Kept [Fld.CAPO_STATUS.IDLE_REASON, Fld.SELFTEST_STATUS.CRITICAL, Fld.SELFTEST_STATUS.CYCLES, Fld.SELFTEST_STATUS.FAIL] s (State.selftest s failed) := by
  unfold State.selftest
  try dsimp only
  repeat' first
    | exact (rfl : (_ : Bool) = _)
    | with_reducible exact Kept.refl
    | with_reducible assumption
    | with_reducible refine Kept.ite ?_ ?_
    | with_reducible apply Kept.setFldAt
    | with_reducible apply Kept.setFld
    | with_reducible apply Kept.setBitAt
    | with_reducible apply Kept.setBit
    | with_reducible apply Kept.satFldAt
    | with_reducible apply Kept.satFld
    | with_reducible apply Kept.step (kept_State_emit _ _ _)
    | (dsimp only [Kept.mk_form]; with_reducible apply KeptMk.intro (_h0 := rfl) (h3 := rfl))
    | split
    | refine Kept.ite ?_ ?_

theorem kept_execSelftestNow (failed : Nat) (s : State) : KeptOut [Fld.CAPO_STATUS.IDLE_REASON, Fld.SELFTEST_STATUS.CRITICAL, Fld.SELFTEST_STATUS.CYCLES, Fld.SELFTEST_STATUS.FAIL, Fld.SYS_BUS_ADDR.OFFSET, Fld.SYS_BUS_STATUS.ERR, Fld.SYS_BUS_STATUS.IFACE, Fld.SYS_BUS_STATUS.REASON] s (execSelftestNow failed s) := by
  unfold execSelftestNow
  try dsimp only
  repeat' first
    | exact (rfl : (_ : Bool) = _)
    | with_reducible exact Kept.refl
    | with_reducible refine KeptOut.next ?_
    | with_reducible refine KeptOut.ite ?_ ?_
    | with_reducible refine KeptOut.command rfl Kept.refl ?_
    | with_reducible refine Kept.ite ?_ ?_
    | with_reducible apply Kept.step (kept_State_capoIgnored _ _)
    | with_reducible apply Kept.step (kept_State_selftest _ _)
    | split
    | refine Kept.ite ?_ ?_
    | refine KeptOut.ite ?_ ?_

theorem kept_execSelftestCycle (failed : Nat) (s : State) : KeptOut [Fld.CAPO_STATUS.IDLE_REASON, Fld.SELFTEST_STATUS.CRITICAL, Fld.SELFTEST_STATUS.CYCLES, Fld.SELFTEST_STATUS.FAIL] s (execSelftestCycle failed s) := by
  unfold execSelftestCycle
  try dsimp only
  repeat' first
    | exact (rfl : (_ : Bool) = _)
    | with_reducible exact Kept.refl
    | with_reducible refine KeptOut.next ?_
    | with_reducible refine KeptOut.ite ?_ ?_
    | with_reducible refine Kept.ite ?_ ?_
    | with_reducible apply Kept.step (kept_State_selftest _ _)
    | split
    | refine Kept.ite ?_ ?_
    | refine KeptOut.ite ?_ ?_

theorem kept_execHealthWordSend (s : State) : KeptOut [] s (execHealthWordSend s) := by
  unfold execHealthWordSend
  try dsimp only
  repeat' first
    | exact (rfl : (_ : Bool) = _)
    | with_reducible exact Kept.refl
    | with_reducible refine KeptOut.next ?_
    | with_reducible refine KeptOut.ite ?_ ?_
    | with_reducible refine Kept.ite ?_ ?_
    | with_reducible apply Kept.step (kept_State_sendHealth _)
    | split
    | refine Kept.ite ?_ ?_
    | refine KeptOut.ite ?_ ?_

theorem kept_State_followActive (s : State) (h : Health) : Kept [Fld.PAIR_EPOCH, Fld.PAIR_STATUS.MIRROR_ON, Fld.PAIR_STATUS.STATE_COMPLETE] s (State.followActive s h) := by
  unfold State.followActive
  try dsimp only
  repeat' first
    | exact (rfl : (_ : Bool) = _)
    | with_reducible exact Kept.refl
    | with_reducible refine Kept.ite ?_ ?_
    | with_reducible apply Kept.setFldAt
    | with_reducible apply Kept.setFld
    | with_reducible apply Kept.setBitAt
    | with_reducible apply Kept.setBit
    | split
    | refine Kept.ite ?_ ?_

theorem kept_State_meetStandby (s : State) (h : Health) : Kept [Fld.PAIR_STATUS.SYNCING, Fld.WC_LIMIT.MIB, Fld.WC_LIMIT_CFG.MIB, Fld.WC_LIMIT_ENERGY.MIB, Fld.WC_LIMIT_VAULT.MIB, Fld.WC_STATUS.AREA_READY, Fld.WC_STATUS.OVER_LIMIT, Fld.WC_STATUS.UNPROTECTED, Fld.WC_STATUS.WRITE_THROUGH, Fld.WC_UNPROT_MS] s (State.meetStandby s h) := by
  unfold State.meetStandby
  try dsimp only
  repeat' first
    | exact (rfl : (_ : Bool) = _)
    | with_reducible exact Kept.refl
    | with_reducible refine Kept.ite ?_ ?_
    | with_reducible apply Kept.setBitAt
    | with_reducible apply Kept.setBit
    | with_reducible apply Kept.step (kept_State_recomputeLimit _)
    | (dsimp only [Kept.mk_form]; with_reducible apply KeptMk.intro (_h0 := rfl) (h3 := rfl))
    | split
    | refine Kept.ite ?_ ?_

theorem kept_execHealthWordReceive (h : Health) (s : State) : KeptOut [Fld.ARR_STATE.LOST_OVERFLOW, Fld.CAPACITY, Fld.CAPO_STATUS.DRIVE, Fld.CAPO_STATUS.GATE_OPEN, Fld.CAPO_STATUS.IDLE_REASON, Fld.CAPO_STATUS.LINE_FAULT, Fld.CAPO_STATUS.ROLE, Fld.DRIVE_SERIAL, Fld.ERR_INFO.DRIVE_STATUS, Fld.ERR_INFO.KIND, Fld.ERR_INFO.SLOT, Fld.HFE_DWE_STATUS.ENTRIES, Fld.HFE_DWE_STATUS.OVERFLOW, Fld.LINK_STATUS.LINK_UP, Fld.LINK_STATUS.PWREN, Fld.LINK_STATUS.RATE, Fld.LINK_STATUS.WIDTH, Fld.MIRROR_BYTES, Fld.OUTSTANDING.C0_SLOTS, Fld.OUTSTANDING.SLOTS, Fld.PAIR_EPOCH, Fld.PAIR_STATUS.MIRROR_ON, Fld.PAIR_STATUS.STATE_COMPLETE, Fld.PAIR_STATUS.SYNCING, Fld.PARTNER_HEALTH, Fld.PORT_STATE.STATE, Fld.RBE_LOST_COUNT.ENTRIES, Fld.RBE_LOST_COUNT.OVERFLOW, Fld.RESET_COUNT, Fld.RETRY_COUNT, Fld.WC_LIMIT.MIB, Fld.WC_LIMIT_CFG.MIB, Fld.WC_LIMIT_ENERGY.MIB, Fld.WC_LIMIT_VAULT.MIB, Fld.WC_STATUS.AREA_READY, Fld.WC_STATUS.OVER_LIMIT, Fld.WC_STATUS.UNPROTECTED, Fld.WC_STATUS.WRITE_THROUGH, Fld.WC_UNPROT_MS, Fld.WRITE_GATE_ABORTS] s (execHealthWordReceive h s) := by
  unfold execHealthWordReceive
  try dsimp only
  repeat' first
    | exact (rfl : (_ : Bool) = _)
    | with_reducible exact Kept.refl
    | with_reducible refine KeptOut.next ?_
    | with_reducible refine KeptOut.ite ?_ ?_
    | with_reducible refine Kept.ite ?_ ?_
    | with_reducible apply Kept.setFldAt
    | with_reducible apply Kept.setFld
    | with_reducible apply Kept.step (kept_State_beginRelease _ _)
    | with_reducible apply Kept.step (kept_State_emit _ _ _)
    | with_reducible apply Kept.step (kept_State_followActive _ _)
    | with_reducible apply Kept.step (kept_State_lineFault _)
    | with_reducible apply Kept.step (kept_State_meetStandby _ _)
    | with_reducible apply Kept.step (kept_State_sendHealth _)
    | (dsimp only [Kept.mk_form]; with_reducible apply KeptMk.intro (_h0 := rfl) (h3 := rfl))
    | split
    | refine Kept.ite ?_ ?_
    | refine KeptOut.ite ?_ ?_

theorem kept_execMirrorItemReceive (item : MirrorItem) (s : State) : KeptOut [Fld.ARR_STATE.LOST_OVERFLOW, Fld.HFE_DWE_STATUS.ENTRIES, Fld.HFE_DWE_STATUS.OVERFLOW, Fld.HFE_STATUS.REPLAY_PENDING, Fld.MIRROR_BYTES, Fld.RBE_LOST_COUNT.ENTRIES, Fld.RBE_LOST_COUNT.OVERFLOW, Fld.VLT_AREA.STATE] s (execMirrorItemReceive item s) := by
  unfold execMirrorItemReceive
  try dsimp only
  repeat' first
    | exact (rfl : (_ : Bool) = _)
    | with_reducible exact Kept.refl
    | with_reducible refine KeptOut.next ?_
    | with_reducible refine KeptOut.ite ?_ ?_
    | with_reducible refine Kept.ite ?_ ?_
    | with_reducible apply Kept.step (kept_State_mirrorIn _ _)
    | with_reducible apply Kept.step (kept_State_retireWaiting _)
    | (dsimp only [Kept.mk_form]; with_reducible apply KeptMk.intro (_h0 := rfl) (h3 := rfl))
    | split
    | refine Kept.ite ?_ ?_
    | refine KeptOut.ite ?_ ?_

theorem kept_execMirrorDigestCheck (differ : List MirrorItem) (s : State) : KeptOut [Fld.ARR_STATE.LOST_OVERFLOW, Fld.HFE_DWE_STATUS.ENTRIES, Fld.HFE_DWE_STATUS.OVERFLOW, Fld.MIRROR_BYTES, Fld.MIRROR_MISMATCH, Fld.RBE_LOST_COUNT.ENTRIES, Fld.RBE_LOST_COUNT.OVERFLOW] s (execMirrorDigestCheck differ s) := by
  unfold execMirrorDigestCheck
  try dsimp only
  repeat' first
    | exact (rfl : (_ : Bool) = _)
    | with_reducible exact Kept.refl
    | with_reducible assumption
    | with_reducible refine KeptOut.next ?_
    | with_reducible refine KeptOut.ite ?_ ?_
    | with_reducible refine Kept.ite ?_ ?_
    | with_reducible apply Kept.incFldAt
    | with_reducible apply Kept.incFld
    | with_reducible apply Kept.step (kept_State_emit _ _ _)
    | with_reducible apply Kept.step (kept_State_mirrorIn _ _)
    | with_reducible refine Kept.foldl (fun _ _ _ => ?_) ?_
    | split
    | refine Kept.ite ?_ ?_
    | refine KeptOut.ite ?_ ?_

theorem kept_execMirrorSyncComplete (s : State) : KeptOut [Fld.MIRROR_BYTES, Fld.PAIR_EPOCH, Fld.PAIR_STATUS.MIRROR_ON, Fld.PAIR_STATUS.SYNCING, Fld.WC_LIMIT.MIB, Fld.WC_LIMIT_CFG.MIB, Fld.WC_LIMIT_ENERGY.MIB, Fld.WC_LIMIT_VAULT.MIB, Fld.WC_STATUS.AREA_READY, Fld.WC_STATUS.MIRROR_LOST, Fld.WC_STATUS.MIRROR_ON, Fld.WC_STATUS.OVER_LIMIT, Fld.WC_STATUS.UNPROTECTED, Fld.WC_STATUS.WRITE_THROUGH, Fld.WC_UNPROT_MS] s (execMirrorSyncComplete s) := by
  unfold execMirrorSyncComplete
  try dsimp only
  repeat' first
    | exact (rfl : (_ : Bool) = _)
    | with_reducible exact Kept.refl
    | with_reducible refine KeptOut.next ?_
    | with_reducible refine KeptOut.ite ?_ ?_
    | with_reducible refine Kept.ite ?_ ?_
    | with_reducible apply Kept.setBitAt
    | with_reducible apply Kept.setBit
    | with_reducible apply Kept.incFldAt
    | with_reducible apply Kept.incFld
    | with_reducible apply Kept.step (kept_State_nextEpoch _ _)
    | with_reducible apply Kept.step (kept_State_recomputeLimit _)
    | (dsimp only [Kept.mk_form]; with_reducible apply KeptMk.intro (_h0 := rfl) (h3 := rfl))
    | split
    | refine Kept.ite ?_ ?_
    | refine KeptOut.ite ?_ ?_

theorem kept_execStandbyMirrorSilence (s : State) : KeptOut [Fld.PAIR_STATUS.MIRROR_ON, Fld.PAIR_STATUS.STATE_COMPLETE] s (execStandbyMirrorSilence s) := by
  unfold execStandbyMirrorSilence
  try dsimp only
  repeat' first
    | exact (rfl : (_ : Bool) = _)
    | with_reducible exact Kept.refl
    | with_reducible refine KeptOut.next ?_
    | with_reducible refine KeptOut.ite ?_ ?_
    | with_reducible refine Kept.ite ?_ ?_
    | with_reducible apply Kept.setBitAt
    | with_reducible apply Kept.setBit
    | split
    | refine Kept.ite ?_ ?_
    | refine KeptOut.ite ?_ ?_

theorem kept_execPairRoleChoice (partner : Option Partner) (s : State) : KeptOut [Fld.CAPO_STATUS.DRIVE, Fld.CAPO_STATUS.IDLE_REASON, Fld.CAPO_STATUS.ROLE, Fld.HFE_STATUS.REPLAY_PENDING, Fld.PAIR_STATUS.LINK_UP, Fld.PAIR_STATUS.PARTNER_MATCH, Fld.VLT_AREA.STATE] s (execPairRoleChoice partner s) := by
  unfold execPairRoleChoice
  try dsimp only
  repeat' first
    | exact (rfl : (_ : Bool) = _)
    | with_reducible exact Kept.refl
    | with_reducible assumption
    | with_reducible refine KeptOut.next ?_
    | with_reducible refine KeptOut.ite ?_ ?_
    | with_reducible refine Kept.ite ?_ ?_
    | with_reducible apply Kept.setFldAt
    | with_reducible apply Kept.setFld
    | with_reducible apply Kept.setBitAt
    | with_reducible apply Kept.setBit
    | with_reducible apply Kept.step (kept_State_becomeStandby _)
    | with_reducible apply Kept.step (kept_State_beginClaim _)
    | with_reducible apply Kept.step (kept_State_driveCapo _)
    | with_reducible apply Kept.step (kept_State_emit _ _ _)
    | with_reducible apply Kept.step (kept_State_setRole _ _)
    | with_reducible apply Kept.step (kept_State_standbyOfClaimer _)
    | (dsimp only [Kept.mk_form]; with_reducible apply KeptMk.intro (_h0 := rfl) (h3 := rfl))
    | split
    | refine Kept.ite ?_ ?_
    | refine KeptOut.ite ?_ ?_

theorem kept_execStartupWaitExpiry (s : State) : KeptOut [Fld.CAPO_STATUS.DRIVE, Fld.CAPO_STATUS.IDLE_REASON, Fld.CAPO_STATUS.ROLE, Fld.HFE_STATUS.REPLAY_PENDING, Fld.VLT_AREA.STATE] s (execStartupWaitExpiry s) := by
  unfold execStartupWaitExpiry
  try dsimp only
  repeat' first
    | exact (rfl : (_ : Bool) = _)
    | with_reducible exact Kept.refl
    | with_reducible assumption
    | with_reducible refine KeptOut.next ?_
    | with_reducible refine KeptOut.ite ?_ ?_
    | with_reducible refine Kept.ite ?_ ?_
    | with_reducible apply Kept.setFldAt
    | with_reducible apply Kept.setFld
    | with_reducible apply Kept.step (kept_State_becomeStandby _)
    | with_reducible apply Kept.step (kept_State_beginClaim _)
    | with_reducible apply Kept.step (kept_State_driveCapo _)
    | with_reducible apply Kept.step (kept_State_setRole _ _)
    | (dsimp only [Kept.mk_form]; with_reducible apply KeptMk.intro (_h0 := rfl) (h3 := rfl))
    | split
    | refine Kept.ite ?_ ?_
    | refine KeptOut.ite ?_ ?_

theorem kept_execTakeover (s : State) : KeptOut [Fld.CAPO_STATUS.DRIVE, Fld.CAPO_STATUS.IDLE_REASON, Fld.CAPO_STATUS.ROLE] s (execTakeover s) := by
  unfold execTakeover
  try dsimp only
  repeat' first
    | exact (rfl : (_ : Bool) = _)
    | with_reducible exact Kept.refl
    | with_reducible assumption
    | with_reducible refine KeptOut.next ?_
    | with_reducible refine KeptOut.ite ?_ ?_
    | with_reducible refine Kept.ite ?_ ?_
    | with_reducible apply Kept.step (kept_State_beginClaim _)
    | (dsimp only [Kept.mk_form]; with_reducible apply KeptMk.intro (_h0 := rfl) (h3 := rfl))
    | split
    | dsimp only
    | refine Kept.ite ?_ ?_
    | refine KeptOut.ite ?_ ?_

theorem kept_execWriteFenceEnd (s : State) : KeptOut [Fld.HFE_STATUS.REPLAY_PENDING, Fld.LAST_TAKEOVER_US, Fld.PAIR_EPOCH, Fld.TAKEOVER_COUNT, Fld.WC_STATUS.OVER_LIMIT, Fld.WC_STATUS.UNPROTECTED, Fld.WC_UNPROT_MS] s (execWriteFenceEnd s) := by
  unfold execWriteFenceEnd
  try dsimp only
  repeat' first
    | exact (rfl : (_ : Bool) = _)
    | with_reducible exact Kept.refl
    | with_reducible assumption
    | with_reducible refine KeptOut.next ?_
    | with_reducible refine KeptOut.ite ?_ ?_
    | with_reducible refine Kept.ite ?_ ?_
    | with_reducible apply Kept.setFldAt
    | with_reducible apply Kept.setFld
    | with_reducible apply Kept.satFldAt
    | with_reducible apply Kept.satFld
    | with_reducible apply Kept.step (kept_State_adoptMirror _)
    | with_reducible apply Kept.step (kept_State_nextEpoch _ _)
    | with_reducible apply Kept.step (kept_State_online _)
    | (dsimp only [Kept.mk_form]; with_reducible apply KeptMk.intro (_h0 := rfl) (h3 := rfl))
    | split
    | refine Kept.ite ?_ ?_
    | refine KeptOut.ite ?_ ?_


end Sys2Proof.Machine
end

