-- ==== Sys2Proof/Laws/KeptHigh.lean ====
section
/-!
SUPPORT. Laws/KeptHigh.lean: for each operation of Cipher, Images, StripeCache, Errors, Rebuild, Dma, Ports, Fed, EventLog, HostIo, Power, RegAccess, Thermal (in Machine/),
the register fields that it may change.
-/
set_option linter.unreachableTactic false
set_option linter.unusedTactic false
namespace Sys2Proof.Machine

/-! ### Machine/Cipher.lean -/

theorem kept_execKeySetOwner (s : State) : KeptOut [Fld.CIP_KEY_STATUS.DONE, Fld.CIP_KEY_STATUS.ERROR, Fld.CIP_KEY_WINDOW, Fld.CIP_STATUS.OWNER_SET] s (execKeySetOwner s) := by
  unfold execKeySetOwner
  try dsimp only
  repeat' first
    | exact (rfl : (_ : Bool) = _)
    | with_reducible exact Kept.refl
    | with_reducible refine KeptOut.next ?_
    | with_reducible refine KeptOut.ite ?_ ?_
    | with_reducible refine Kept.ite ?_ ?_
    | with_reducible apply Kept.setFldAt
    | with_reducible apply Kept.setFld
    | with_reducible apply Kept.setBitAt
    | with_reducible apply Kept.setBit
    | with_reducible apply Kept.step (kept_State_keyDone _ _)
    | (dsimp only [Kept.mk_form]; with_reducible apply KeptMk.intro (_h0 := rfl) (h3 := rfl))
    | split
    | dsimp only
    | refine Kept.ite ?_ ?_
    | refine KeptOut.ite ?_ ?_

theorem kept_execKeyLoadBlob (plain : BlobPlain) (s : State) : KeptOut [Fld.CIP_KEY_STATUS.DONE, Fld.CIP_KEY_STATUS.ERROR, Fld.CIP_KEY_STATUS.SLOT, Fld.CIP_STATUS.TRNG_READY, Fld.CIP_TRNG_STATUS.POOL, Fld.CIP_TRNG_STATUS.READY, Fld.MIRROR_BYTES] s (execKeyLoadBlob plain s) := by
  unfold execKeyLoadBlob
  try dsimp only
  repeat' first
    | exact (rfl : (_ : Bool) = _)
    | with_reducible exact Kept.refl
    | with_reducible assumption
    | with_reducible refine KeptOut.next ?_
    | with_reducible refine KeptOut.ite ?_ ?_
    | with_reducible refine Kept.ite ?_ ?_
    | with_reducible apply Kept.setFldAt
    | with_reducible apply Kept.setFld
    | with_reducible apply Kept.step (kept_State_keyDone _ _)
    | with_reducible apply Kept.step (kept_State_loadKey _ _ _ _)
    | (dsimp only [Kept.mk_form]; with_reducible apply KeptMk.intro (_h0 := rfl) (h3 := rfl))
    | split
    | refine Kept.ite ?_ ?_
    | refine KeptOut.ite ?_ ?_

theorem kept_execKeyUnload (s : State) : KeptOut [Fld.CIP_KEY_STATUS.DONE, Fld.CIP_KEY_STATUS.ERROR, Fld.CIP_KEY_STATUS.SLOT, Fld.CIP_STATUS.CONTEXTS, Fld.HFE_COLLECT_MAX.MAX_DEPTH] s (execKeyUnload s) := by
  unfold execKeyUnload
  try dsimp only
  repeat' first
    | exact (rfl : (_ : Bool) = _)
    | with_reducible exact Kept.refl
    | with_reducible refine KeptOut.next ?_
    | with_reducible refine KeptOut.ite ?_ ?_
    | with_reducible refine Kept.ite ?_ ?_
    | with_reducible apply Kept.setFldAt
    | with_reducible apply Kept.setFld
    | with_reducible apply Kept.step (kept_State_dropKeys _ _)
    | with_reducible apply Kept.step (kept_State_keyDone _ _)
    | with_reducible apply Kept.step (kept_State_showContexts _)
    | split
    | refine Kept.ite ?_ ?_
    | refine KeptOut.ite ?_ ?_

theorem kept_execKeyZeroizeAll (s : State) : KeptOut [Fld.CIP_KEY_STATUS.DONE, Fld.CIP_KEY_STATUS.ERROR, Fld.CIP_STATUS.CONTEXTS, Fld.CIP_STATUS.OWNER_SET, Fld.HFE_COLLECT_MAX.MAX_DEPTH] s (execKeyZeroizeAll s) := by
  unfold execKeyZeroizeAll
  try dsimp only
  repeat' first
    | exact (rfl : (_ : Bool) = _)
    | with_reducible exact Kept.refl
    | with_reducible refine KeptOut.next ?_
    | with_reducible refine KeptOut.ite ?_ ?_
    | with_reducible refine Kept.ite ?_ ?_
    | with_reducible apply Kept.step (kept_State_keyDone _ _)
    | with_reducible apply Kept.step (kept_State_zeroize _)
    | split
    | refine Kept.ite ?_ ?_
    | refine KeptOut.ite ?_ ?_

theorem kept_execTrngRestart (s : State) : KeptOut [Fld.CIP_KEY_STATUS.DONE, Fld.CIP_KEY_STATUS.ERROR, Fld.CIP_STATUS.TRNG_READY, Fld.CIP_TRNG_STATUS.POOL, Fld.CIP_TRNG_STATUS.READY, Fld.CIP_TRNG_STATUS.STARTUP] s (execTrngRestart s) := by
  unfold execTrngRestart
  try dsimp only
  repeat' first
    | exact (rfl : (_ : Bool) = _)
    | with_reducible exact Kept.refl
    | with_reducible refine KeptOut.next ?_
    | with_reducible refine KeptOut.ite ?_ ?_
    | with_reducible refine Kept.ite ?_ ?_
    | with_reducible apply Kept.setBitAt
    | with_reducible apply Kept.setBit
    | with_reducible apply Kept.step (kept_State_keyDone _ _)
    | with_reducible apply Kept.step (kept_State_setPool _ _)
    | split
    | refine Kept.ite ?_ ?_
    | refine KeptOut.ite ?_ ?_

theorem kept_execTamperRelease (iface : Iface) (active : Nat) (s : State) : KeptOut [Fld.CIP_KEY_STATUS.DONE, Fld.CIP_KEY_STATUS.ERROR, Fld.CIP_STATUS.TAMPER_HOLD, Fld.CIP_TAMPER_STATUS.ACTIVE, Fld.EVR_CHAL, Fld.EVR_STATUS.CHAL_VALID, Fld.EVR_STATUS.LOCKOUT] s (execTamperRelease iface active s) := by
  unfold execTamperRelease
  try dsimp only
  repeat' first
    | exact (rfl : (_ : Bool) = _)
    | with_reducible exact Kept.refl
    | with_reducible refine KeptOut.next ?_
    | with_reducible refine KeptOut.ite ?_ ?_
    | with_reducible refine Kept.ite ?_ ?_
    | with_reducible apply Kept.setFldAt
    | with_reducible apply Kept.setFld
    | with_reducible apply Kept.setBitAt
    | with_reducible apply Kept.setBit
    | with_reducible apply Kept.step (kept_State_keyDone _ _)
    | with_reducible apply Kept.step (kept_State_tokenChecked _ _ _ _)
    | split
    | refine Kept.ite ?_ ?_
    | refine KeptOut.ite ?_ ?_

theorem kept_execTamperCfgLock (value : Nat) (s : State) : KeptOut [Fld.CIP_TAMPER_CFG.EXT_EN, Fld.CIP_TAMPER_CFG.EXT_POL, Fld.CIP_TAMPER_CFG.FILTER, Fld.CIP_TAMPER_CFG.LOCK] s (execTamperCfgLock value s) := by
  unfold execTamperCfgLock
  try dsimp only
  repeat' first
    | exact (rfl : (_ : Bool) = _)
    | with_reducible exact Kept.refl
    | with_reducible refine KeptOut.next ?_
    | with_reducible apply Kept.step (kept_State_tamperCfg _ _)

theorem kept_execCipherMessageStart (pick : Cls) (remaining : List Nat) (s : State) : KeptOut [Fld.CIP_STATUS.CONTEXTS, Fld.CIP_SUSPEND_COUNT] s (execCipherMessageStart pick remaining s) := by
  unfold execCipherMessageStart
  try dsimp only
  repeat' first
    | exact (rfl : (_ : Bool) = _)
    | with_reducible exact Kept.refl
    | with_reducible assumption
    | with_reducible refine KeptOut.next ?_
    | with_reducible refine KeptOut.ite ?_ ?_
    | with_reducible refine Kept.ite ?_ ?_
    | with_reducible apply Kept.incFldAt
    | with_reducible apply Kept.incFld
    | with_reducible apply Kept.step (kept_State_putPipe _ _ _)
    | with_reducible apply Kept.step (kept_State_showContexts _)
    | (dsimp only [Kept.mk_form]; with_reducible apply KeptMk.intro (_h0 := rfl) (h3 := rfl))
    | split
    | dsimp only
    | refine Kept.ite ?_ ?_
    | refine KeptOut.ite ?_ ?_

theorem kept_State_decrypted (s : State) (key : Nat) (m : CMsg) : Kept [Fld.ARR_REPAIR_COUNT, Fld.ARR_STATE.LOST_OVERFLOW, Fld.CIP_AUTH_FAIL_COUNT, Fld.CIP_DEC_SECTORS, Fld.HFE_COLLECT_MAX.MAX_DEPTH, Fld.HFE_DWE_STATUS.ENTRIES, Fld.HFE_DWE_STATUS.OVERFLOW, Fld.MIRROR_BYTES, Fld.PQE_SOLVE_COUNT, Fld.PQE_SRC_BYTES, Fld.RBE_LOST_COUNT.ENTRIES, Fld.RBE_LOST_COUNT.OVERFLOW] s (State.decrypted s key m) := by
  unfold State.decrypted
  try dsimp only
  repeat' first
    | exact (rfl : (_ : Bool) = _)
    | with_reducible exact Kept.refl
    | with_reducible assumption
    | with_reducible refine Kept.ite ?_ ?_
    | with_reducible apply Kept.incFldAt
    | with_reducible apply Kept.incFld
    | with_reducible apply Kept.step (kept_State_fillClean _ _ _ _)
    | with_reducible apply Kept.step (kept_State_mediaErr _ _ _)
    | with_reducible apply Kept.step (kept_State_readFinish _ _)
    | with_reducible apply Kept.step (kept_State_setRead _ _ _ _)
    | with_reducible apply Kept.step (kept_State_solveSector _ _ _ _ _ _ _ _ _)
    | with_reducible apply Kept.step (kept_State_stampCmd _ _ _)
    | with_reducible apply Kept.step (kept_State_writeSec _ _ _ _ _ _ _ _ _ _ _)
    | (dsimp only [Kept.mk_form]; with_reducible apply KeptMk.intro (_h0 := rfl) (h3 := rfl))
    | split
    | dsimp only
    | refine Kept.ite ?_ ?_

theorem kept_execCipherMessageDone (pipe : Fin 16) (s : State) : KeptOut [Fld.ARR_REPAIR_COUNT, Fld.ARR_STATE.LOST_OVERFLOW, Fld.CIP_AUTH_FAIL_COUNT, Fld.CIP_DEC_SECTORS, Fld.CIP_ENC_SECTORS, Fld.HFE_COLLECT_MAX.MAX_DEPTH, Fld.HFE_DWE_STATUS.ENTRIES, Fld.HFE_DWE_STATUS.OVERFLOW, Fld.MIRROR_BYTES, Fld.PQE_SOLVE_COUNT, Fld.PQE_SRC_BYTES, Fld.RBE_LOST_COUNT.ENTRIES, Fld.RBE_LOST_COUNT.OVERFLOW, Fld.WC_STATUS.OVER_LIMIT, Fld.WC_STATUS.UNPROTECTED, Fld.WC_UNPROT_MS] s (execCipherMessageDone pipe s) := by
  unfold execCipherMessageDone
  try dsimp only
  repeat' first
    | exact (rfl : (_ : Bool) = _)
    | with_reducible exact Kept.refl
    | with_reducible assumption
    | with_reducible refine KeptOut.next ?_
    | with_reducible refine KeptOut.ite ?_ ?_
    | with_reducible refine Kept.ite ?_ ?_
    | with_reducible apply Kept.incFldAt
    | with_reducible apply Kept.incFld
    | with_reducible apply Kept.step (kept_State_decrypted _ _ _)
    | with_reducible apply Kept.step (kept_State_noteLimit _)
    | with_reducible apply Kept.step (kept_State_place _ _ _ _ _ _ _)
    | (dsimp only [Kept.mk_form]; with_reducible apply KeptMk.intro (_h0 := rfl) (h3 := rfl))
    | split
    | refine Kept.ite ?_ ?_
    | refine KeptOut.ite ?_ ?_

theorem kept_execNonceMarkAck (nsid : Nat) (s : State) : KeptOut [Fld.CIP_STATUS.NONCE_WARN, Fld.CIP_STATUS.TRNG_READY, Fld.CIP_TRNG_STATUS.POOL, Fld.CIP_TRNG_STATUS.READY, Fld.HFE_COLLECT_MAX.MAX_DEPTH, Fld.MIRROR_BYTES] s (execNonceMarkAck nsid s) := by
  unfold execNonceMarkAck
  try dsimp only
  repeat' first
    | exact (rfl : (_ : Bool) = _)
    | with_reducible exact Kept.refl
    | with_reducible assumption
    | with_reducible refine KeptOut.next ?_
    | with_reducible refine KeptOut.ite ?_ ?_
    | with_reducible refine Kept.ite ?_ ?_
    | with_reducible apply Kept.step (kept_State_encrypt _ _)
    | with_reducible refine Kept.foldl (fun _ _ _ => ?_) ?_
    | (dsimp only [Kept.mk_form]; with_reducible apply KeptMk.intro (_h0 := rfl) (h3 := rfl))
    | split
    | dsimp only
    | refine Kept.ite ?_ ?_
    | refine KeptOut.ite ?_ ?_

theorem kept_execTrngStartupDone (ok : Bool) (s : State) : KeptOut [Fld.CIP_STATUS.TRNG_FAILED, Fld.CIP_STATUS.TRNG_READY, Fld.CIP_TRNG_STATUS.FAILED, Fld.CIP_TRNG_STATUS.POOL, Fld.CIP_TRNG_STATUS.READY, Fld.CIP_TRNG_STATUS.STARTUP] s (execTrngStartupDone ok s) := by
  unfold execTrngStartupDone
  try dsimp only
  repeat' first
    | exact (rfl : (_ : Bool) = _)
    | with_reducible exact Kept.refl
    | with_reducible refine KeptOut.next ?_
    | with_reducible refine KeptOut.ite ?_ ?_
    | with_reducible refine Kept.ite ?_ ?_
    | with_reducible apply Kept.setBitAt
    | with_reducible apply Kept.setBit
    | with_reducible apply Kept.step (kept_State_setPool _ _)
    | split
    | refine Kept.ite ?_ ?_
    | refine KeptOut.ite ?_ ?_

theorem kept_execTrngBlockReady (s : State) : KeptOut [Fld.CIP_STATUS.NONCE_WARN, Fld.CIP_STATUS.TRNG_READY, Fld.CIP_TRNG_STATUS.POOL, Fld.CIP_TRNG_STATUS.READY, Fld.HFE_COLLECT_MAX.MAX_DEPTH, Fld.MIRROR_BYTES] s (execTrngBlockReady s) := by
  unfold execTrngBlockReady
  try dsimp only
  repeat' first
    | exact (rfl : (_ : Bool) = _)
    | with_reducible exact Kept.refl
    | with_reducible assumption
    | with_reducible refine KeptOut.next ?_
    | with_reducible refine KeptOut.ite ?_ ?_
    | with_reducible refine Kept.ite ?_ ?_
    | with_reducible apply Kept.step (kept_State_encrypt _ _)
    | with_reducible apply Kept.step (kept_State_setPool _ _)
    | (dsimp only [Kept.mk_form]; with_reducible apply KeptMk.intro (_h0 := rfl) (h3 := rfl))
    | split
    | refine Kept.ite ?_ ?_
    | refine KeptOut.ite ?_ ?_

theorem kept_execTrngHealthFail (apt : Bool) (s : State) : KeptOut [Fld.CIP_STATUS.TRNG_FAILED, Fld.CIP_STATUS.TRNG_READY, Fld.CIP_TRNG_APT_FAIL, Fld.CIP_TRNG_RCT_FAIL, Fld.CIP_TRNG_STATUS.FAILED, Fld.CIP_TRNG_STATUS.POOL, Fld.CIP_TRNG_STATUS.READY, Fld.HFE_COLLECT_MAX.MAX_DEPTH] s (execTrngHealthFail apt s) := by
  unfold execTrngHealthFail
  try dsimp only
  repeat' first
    | exact (rfl : (_ : Bool) = _)
    | with_reducible exact Kept.refl
    | with_reducible assumption
    | with_reducible refine KeptOut.next ?_
    | with_reducible refine KeptOut.ite ?_ ?_
    | with_reducible refine Kept.ite ?_ ?_
    | with_reducible apply Kept.setBitAt
    | with_reducible apply Kept.setBit
    | with_reducible apply Kept.satFldAt
    | with_reducible apply Kept.satFld
    | with_reducible apply Kept.step (kept_State_emit _ _ _)
    | with_reducible apply Kept.step (kept_State_entropyFail _ _)
    | with_reducible apply Kept.step (kept_State_setPool _ _)
    | with_reducible refine Kept.foldl (fun _ _ _ => ?_) ?_
    | (dsimp only [Kept.mk_form]; with_reducible apply KeptMk.intro (_h0 := rfl) (h3 := rfl))
    | split
    | refine Kept.ite ?_ ?_
    | refine KeptOut.ite ?_ ?_

theorem kept_execEntropyTimeout (tag : Nat) (s : State) : KeptOut [Fld.HFE_COLLECT_MAX.MAX_DEPTH] s (execEntropyTimeout tag s) := by
  unfold execEntropyTimeout
  try dsimp only
  repeat' first
    | exact (rfl : (_ : Bool) = _)
    | with_reducible exact Kept.refl
    | with_reducible refine KeptOut.next ?_
    | with_reducible apply Kept.step (kept_State_entropyFail _ _)

theorem kept_execTamperTrip (src : Fin 8) (active : Nat) (s : State) : KeptOut [Fld.CIP_STATUS.CONTEXTS, Fld.CIP_STATUS.OWNER_SET, Fld.CIP_STATUS.TAMPER_HOLD, Fld.CIP_TAMPER_STATUS.ACTIVE, Fld.CIP_TAMPER_STATUS.IN_OFF, Fld.CIP_TAMPER_STATUS.LATCHED, Fld.HFE_COLLECT_MAX.MAX_DEPTH, Fld.PWR_STATE.BOOTING] s (execTamperTrip src active s) := by
  unfold execTamperTrip
  try dsimp only
  repeat' first
    | exact (rfl : (_ : Bool) = _)
    | with_reducible exact Kept.refl
    | with_reducible refine KeptOut.next ?_
    | with_reducible refine KeptOut.ite ?_ ?_
    | with_reducible refine Kept.ite ?_ ?_
    | with_reducible apply Kept.setFldAt
    | with_reducible apply Kept.setFld
    | with_reducible apply Kept.setBitAt
    | with_reducible apply Kept.setBit
    | with_reducible apply Kept.step (kept_State_emit _ _ _)
    | with_reducible apply Kept.step (kept_State_enterTamperHold _)
    | with_reducible apply Kept.step (kept_State_zeroize _)
    | (dsimp only [Kept.mk_form]; with_reducible apply KeptMk.intro (_h0 := rfl) (h3 := rfl))
    | split
    | refine Kept.ite ?_ ?_
    | refine KeptOut.ite ?_ ?_


/-! ### Machine/Images.lean -/

theorem kept_State_setStage (s : State) (v : Nat) : Kept [Fld.IMG_STAGE_STATUS.STATE] s (State.setStage s v) := by
  unfold State.setStage
  try dsimp only
  repeat' first
    | exact (rfl : (_ : Bool) = _)
    | with_reducible exact Kept.refl
    | with_reducible apply Kept.setFldAt
    | with_reducible apply Kept.setFld

theorem kept_State_stageError (s : State) (e : Nat) : Kept [Fld.IMG_STAGE_STATUS.ERROR] s (State.stageError s e) := by
  unfold State.stageError
  try dsimp only
  repeat' first
    | exact (rfl : (_ : Bool) = _)
    | with_reducible exact Kept.refl
    | with_reducible apply Kept.setFldAt
    | with_reducible apply Kept.setFld

theorem kept_State_stageIdle (s : State) : Kept [Fld.IMG_STAGE_STATUS.BUSY, Fld.IMG_STAGE_STATUS.CHANGE_CLASS, Fld.IMG_STAGE_STATUS.OWNER, Fld.IMG_STAGE_STATUS.STATE] s (State.stageIdle s) := by
  unfold State.stageIdle
  try dsimp only
  repeat' first
    | exact (rfl : (_ : Bool) = _)
    | with_reducible exact Kept.refl
    | with_reducible apply Kept.setFldAt
    | with_reducible apply Kept.setFld
    | with_reducible apply Kept.setBitAt
    | with_reducible apply Kept.setBit
    | with_reducible apply Kept.step (kept_State_setStage _ _)
    | (dsimp only [Kept.mk_form]; with_reducible apply KeptMk.intro (_h0 := rfl) (h3 := rfl))

theorem kept_execStageOpen (iface : Iface) (s : State) : KeptOut [Fld.IMG_STAGE_STATUS.CHANGE_CLASS, Fld.IMG_STAGE_STATUS.ERROR, Fld.IMG_STAGE_STATUS.OWNER, Fld.IMG_STAGE_STATUS.STATE] s (execStageOpen iface s) := by
  unfold execStageOpen
  try dsimp only
  repeat' first
    | exact (rfl : (_ : Bool) = _)
    | with_reducible exact Kept.refl
    | with_reducible refine KeptOut.next ?_
    | with_reducible refine KeptOut.ite ?_ ?_
    | with_reducible refine Kept.ite ?_ ?_
    | with_reducible apply Kept.setFldAt
    | with_reducible apply Kept.setFld
    | with_reducible apply Kept.step (kept_State_setStage _ _)
    | with_reducible apply Kept.step (kept_State_stageError _ _)
    | (dsimp only [Kept.mk_form]; with_reducible apply KeptMk.intro (_h0 := rfl) (h3 := rfl))
    | split
    | refine Kept.ite ?_ ?_
    | refine KeptOut.ite ?_ ?_

theorem kept_execStageVerify (iface : Iface) (facts : ImgFacts) (s : State) : KeptOut [Fld.IMG_STAGE_STATUS.CHANGE_CLASS, Fld.IMG_STAGE_STATUS.ERROR, Fld.IMG_STAGE_STATUS.STATE] s (execStageVerify iface facts s) := by
  unfold execStageVerify
  try dsimp only
  repeat' first
    | exact (rfl : (_ : Bool) = _)
    | with_reducible exact Kept.refl
    | with_reducible assumption
    | with_reducible refine KeptOut.next ?_
    | with_reducible refine KeptOut.ite ?_ ?_
    | with_reducible refine Kept.ite ?_ ?_
    | with_reducible apply Kept.setFldAt
    | with_reducible apply Kept.setFld
    | with_reducible apply Kept.step (kept_State_setStage _ _)
    | with_reducible apply Kept.step (kept_State_stageError _ _)
    | (dsimp only [Kept.mk_form]; with_reducible apply KeptMk.intro (_h0 := rfl) (h3 := rfl))
    | split
    | dsimp only
    | refine Kept.ite ?_ ?_
    | refine KeptOut.ite ?_ ?_

theorem kept_execStageCommit (iface : Iface) (s : State) : KeptOut [Fld.IMG_COPY.MATCHES_RUNNING, Fld.IMG_COPY.REASON, Fld.IMG_COPY.VALID, Fld.IMG_STAGE_STATUS.BUSY, Fld.IMG_STAGE_STATUS.ERROR, Fld.IMG_STAGE_STATUS.STATE] s (execStageCommit iface s) := by
  unfold execStageCommit
  try dsimp only
  repeat' first
    | exact (rfl : (_ : Bool) = _)
    | with_reducible exact Kept.refl
    | with_reducible refine KeptOut.next ?_
    | with_reducible refine KeptOut.ite ?_ ?_
    | with_reducible refine Kept.ite ?_ ?_
    | with_reducible apply Kept.setBitAt
    | with_reducible apply Kept.setBit
    | with_reducible apply Kept.step (kept_State_setCopy _ _ _)
    | with_reducible apply Kept.step (kept_State_setStage _ _)
    | with_reducible apply Kept.step (kept_State_showCopies _)
    | with_reducible apply Kept.step (kept_State_stageError _ _)
    | split
    | refine Kept.ite ?_ ?_
    | refine KeptOut.ite ?_ ?_

theorem kept_execCommitComplete (ok : Bool) (s : State) : KeptOut [Fld.IMG_COPY.MATCHES_RUNNING, Fld.IMG_COPY.REASON, Fld.IMG_COPY.VALID, Fld.IMG_STAGE_STATUS.BUSY, Fld.IMG_STAGE_STATUS.ERROR, Fld.IMG_STAGE_STATUS.STATE] s (execCommitComplete ok s) := by
  unfold execCommitComplete
  try dsimp only
  repeat' first
    | exact (rfl : (_ : Bool) = _)
    | with_reducible exact Kept.refl
    | with_reducible assumption
    | with_reducible refine KeptOut.next ?_
    | with_reducible refine KeptOut.ite ?_ ?_
    | with_reducible refine Kept.ite ?_ ?_
    | with_reducible apply Kept.setBitAt
    | with_reducible apply Kept.setBit
    | with_reducible apply Kept.step (kept_State_setCopy _ _ _)
    | with_reducible apply Kept.step (kept_State_setStage _ _)
    | with_reducible apply Kept.step (kept_State_showCopies _)
    | with_reducible apply Kept.step (kept_State_stageError _ _)
    | (dsimp only [Kept.mk_form]; with_reducible apply KeptMk.intro (_h0 := rfl) (h3 := rfl))
    | split
    | refine Kept.ite ?_ ?_
    | refine KeptOut.ite ?_ ?_

theorem kept_execActivateLive (iface : Iface) (s : State) : KeptOut [Fld.CAL_STATUS.FACTORY_VALID, Fld.CAL_STATUS.PREVIOUS_VALID, Fld.CAL_STATUS.USER_VALID, Fld.CAPACITY, Fld.DRIVE_SERIAL, Fld.FAN_GLOBAL.FAULTED, Fld.FAN_GLOBAL.RUNNING, Fld.FAN_RUN_S, Fld.FAN_STATUS.ATTEMPT, Fld.FAN_STATUS.FAULT_CAUSE, Fld.FAN_STATUS.SHIFTING, Fld.FAN_STATUS.STATE, Fld.FAN_TARGET.RPM, Fld.FED_LINK.FED_PORT, Fld.FED_STATUS.ENABLED, Fld.FED_STATUS.NODE_ID, Fld.IMG_BOOT.REWRITE_PENDING, Fld.IMG_COPY.MATCHES_RUNNING, Fld.IMG_COPY.REASON, Fld.IMG_COPY.VALID, Fld.IMG_RUN_DIGEST, Fld.IMG_RUN_SEQ, Fld.IMG_STAGE_STATUS.ERROR, Fld.IMG_STAGE_STATUS.STATE, Fld.LINK_STATUS.MODE, Fld.LINK_STATUS.PWREN, Fld.NRG_AVAIL_J.J, Fld.NRG_CAP_MAH, Fld.NRG_CYCLES.X16, Fld.NRG_E_J.E_J, Fld.NRG_IMPEDANCE.R_FAST, Fld.NRG_IMPEDANCE.R_SLOW, Fld.NRG_LAST_LEARN, Fld.NRG_LAST_TEST, Fld.NRG_PACK_E_J.J, Fld.NRG_RESERVE_J.J, Fld.NRG_STATUS.LEARN_ACTIVE, Fld.NRG_STATUS.QUALIFIED_ANY, Fld.NRG_STATUS.TEST_ACTIVE, Fld.PACK_STATUS.CHARGE_PERMIT, Fld.PACK_STATUS.FAILED, Fld.PACK_STATUS.HEALTH, Fld.PACK_STATUS.LEARNING, Fld.PACK_STATUS.PACK_SERIAL, Fld.PACK_STATUS.QUALIFIED, Fld.PACK_STATUS.REPLACE, Fld.PACK_STATUS.TESTING, Fld.PORT_STATE.ARRAY, Fld.PORT_STATE.MEMBER_INDEX, Fld.PORT_STATE.STATE, Fld.WC_LIMIT.MIB, Fld.WC_LIMIT_CFG.MIB, Fld.WC_LIMIT_ENERGY.MIB, Fld.WC_LIMIT_VAULT.MIB, Fld.WC_STATUS.AREA_READY, Fld.WC_STATUS.OVER_LIMIT, Fld.WC_STATUS.UNPROTECTED, Fld.WC_STATUS.WRITE_THROUGH, Fld.WC_UNPROT_MS] s (execActivateLive iface s) := by
  unfold execActivateLive
  try dsimp only
  repeat' first
    | exact (rfl : (_ : Bool) = _)
    | with_reducible exact Kept.refl
    | with_reducible assumption
    | with_reducible refine KeptOut.next ?_
    | with_reducible refine KeptOut.ite ?_ ?_
    | with_reducible refine Kept.ite ?_ ?_
    | with_reducible apply Kept.step (kept_State_applyLive _ _)
    | with_reducible apply Kept.step (kept_State_computeEnergy _)
    | with_reducible apply Kept.step (kept_State_recomputeLimit _)
    | with_reducible apply Kept.step (kept_State_setStage _ _)
    | with_reducible apply Kept.step (kept_State_showRewrite _)
    | with_reducible apply Kept.step (kept_State_stageError _ _)
    | with_reducible apply Kept.step (kept_State_startFed _)
    | with_reducible apply Kept.step (kept_State_updateFans _)
    | (dsimp only [Kept.mk_form]; with_reducible apply KeptMk.intro (_h0 := rfl) (h3 := rfl))
    | split
    | refine Kept.ite ?_ ?_
    | refine KeptOut.ite ?_ ?_

theorem kept_execActivateReset (iface : Iface) (s : State) : KeptOut [Fld.IMG_STAGE_STATUS.BUSY, Fld.IMG_STAGE_STATUS.ERROR, Fld.IMG_STAGE_STATUS.STATE] s (execActivateReset iface s) := by
  unfold execActivateReset
  try dsimp only
  repeat' first
    | exact (rfl : (_ : Bool) = _)
    | with_reducible exact Kept.refl
    | with_reducible assumption
    | with_reducible refine KeptOut.next ?_
    | with_reducible refine KeptOut.ite ?_ ?_
    | with_reducible refine Kept.ite ?_ ?_
    | with_reducible apply Kept.setBitAt
    | with_reducible apply Kept.setBit
    | with_reducible apply Kept.step (kept_State_hold _ _)
    | with_reducible apply Kept.step (kept_State_setStage _ _)
    | with_reducible apply Kept.step (kept_State_stageError _ _)
    | (dsimp only [Kept.mk_form]; with_reducible apply KeptMk.intro (_h0 := rfl) (h3 := rfl))
    | split
    | dsimp only
    | refine Kept.ite ?_ ?_
    | refine KeptOut.ite ?_ ?_

theorem kept_execStageAbort (iface : Iface) (s : State) : KeptOut [Fld.IMG_COPY.MATCHES_RUNNING, Fld.IMG_COPY.REASON, Fld.IMG_COPY.VALID, Fld.IMG_STAGE_STATUS.BUSY, Fld.IMG_STAGE_STATUS.CHANGE_CLASS, Fld.IMG_STAGE_STATUS.ERROR, Fld.IMG_STAGE_STATUS.OWNER, Fld.IMG_STAGE_STATUS.STATE] s (execStageAbort iface s) := by
  unfold execStageAbort
  try dsimp only
  repeat' first
    | exact (rfl : (_ : Bool) = _)
    | with_reducible exact Kept.refl
    | with_reducible assumption
    | with_reducible refine KeptOut.next ?_
    | with_reducible refine KeptOut.ite ?_ ?_
    | with_reducible refine Kept.ite ?_ ?_
    | with_reducible apply Kept.step (kept_State_setCopy _ _ _)
    | with_reducible apply Kept.step (kept_State_showCopies _)
    | with_reducible apply Kept.step (kept_State_stageError _ _)
    | with_reducible apply Kept.step (kept_State_stageIdle _)
    | (dsimp only [Kept.mk_form]; with_reducible apply KeptMk.intro (_h0 := rfl) (h3 := rfl))
    | split
    | refine Kept.ite ?_ ?_
    | refine KeptOut.ite ?_ ?_

theorem kept_State_selectCopy (s : State) (iface : Iface) (op src : Nat) : Kept [Fld.EVR_CHAL, Fld.EVR_STATUS.CHAL_VALID, Fld.EVR_STATUS.LOCKOUT, Fld.IMG_COPY.MATCHES_RUNNING, Fld.IMG_COPY.REASON, Fld.IMG_COPY.VALID, Fld.IMG_STAGE_STATUS.ERROR] s (State.selectCopy s iface op src) := by
  unfold State.selectCopy
  try dsimp only
  repeat' first
    | exact (rfl : (_ : Bool) = _)
    | with_reducible exact Kept.refl
    | with_reducible refine Kept.ite ?_ ?_
    | with_reducible apply Kept.step (kept_State_emit _ _ _)
    | with_reducible apply Kept.step (kept_State_setCopy _ _ _)
    | with_reducible apply Kept.step (kept_State_showCopies _)
    | with_reducible apply Kept.step (kept_State_stageError _ _)
    | with_reducible apply Kept.step (kept_State_tokenChecked _ _ _ _)
    | split
    | refine Kept.ite ?_ ?_

theorem kept_execSelectCopyA (iface : Iface) (s : State) : KeptOut [Fld.EVR_CHAL, Fld.EVR_STATUS.CHAL_VALID, Fld.EVR_STATUS.LOCKOUT, Fld.IMG_COPY.MATCHES_RUNNING, Fld.IMG_COPY.REASON, Fld.IMG_COPY.VALID, Fld.IMG_STAGE_STATUS.ERROR] s (execSelectCopyA iface s) := by
  unfold execSelectCopyA
  try dsimp only
  repeat' first
    | exact (rfl : (_ : Bool) = _)
    | with_reducible exact Kept.refl
    | with_reducible refine KeptOut.next ?_
    | with_reducible apply Kept.step (kept_State_selectCopy _ _ _ _)

theorem kept_execSelectCopyB (iface : Iface) (s : State) : KeptOut [Fld.EVR_CHAL, Fld.EVR_STATUS.CHAL_VALID, Fld.EVR_STATUS.LOCKOUT, Fld.IMG_COPY.MATCHES_RUNNING, Fld.IMG_COPY.REASON, Fld.IMG_COPY.VALID, Fld.IMG_STAGE_STATUS.ERROR] s (execSelectCopyB iface s) := by
  unfold execSelectCopyB
  try dsimp only
  repeat' first
    | exact (rfl : (_ : Bool) = _)
    | with_reducible exact Kept.refl
    | with_reducible refine KeptOut.next ?_
    | with_reducible apply Kept.step (kept_State_selectCopy _ _ _ _)

theorem kept_State_showKeys (s : State) : Kept [Fld.IMG_KEY_STATUS.PROGRAMMED, Fld.IMG_KEY_STATUS.REVOKED] s (State.showKeys s) := by
  unfold State.showKeys
  try dsimp only
  repeat' first
    | exact (rfl : (_ : Bool) = _)
    | with_reducible exact Kept.refl
    | with_reducible apply Kept.setFldAt
    | with_reducible apply Kept.setFld

theorem kept_execSigningKeyEnrol (iface : Iface) (st : KeyStatement) (s : State) : KeptOut [Fld.EVR_CHAL, Fld.EVR_STATUS.CHAL_VALID, Fld.EVR_STATUS.LOCKOUT, Fld.IMG_COPY.MATCHES_RUNNING, Fld.IMG_COPY.REASON, Fld.IMG_COPY.VALID, Fld.IMG_KEY_STATUS.PROGRAMMED, Fld.IMG_KEY_STATUS.REVOKED, Fld.IMG_STAGE_STATUS.ERROR] s (execSigningKeyEnrol iface st s) := by
  unfold execSigningKeyEnrol
  try dsimp only
  repeat' first
    | exact (rfl : (_ : Bool) = _)
    | with_reducible exact Kept.refl
    | with_reducible assumption
    | with_reducible refine KeptOut.next ?_
    | with_reducible refine KeptOut.ite ?_ ?_
    | with_reducible refine Kept.ite ?_ ?_
    | with_reducible apply Kept.step (kept_State_showCopies _)
    | with_reducible apply Kept.step (kept_State_showKeys _)
    | with_reducible apply Kept.step (kept_State_stageError _ _)
    | with_reducible apply Kept.step (kept_State_tokenChecked _ _ _ _)
    | (dsimp only [Kept.mk_form]; with_reducible apply KeptMk.intro (_h0 := rfl) (h3 := rfl))
    | split
    | dsimp only
    | refine Kept.ite ?_ ?_
    | refine KeptOut.ite ?_ ?_

theorem kept_execSigningKeyRevoke (iface : Iface) (st : KeyStatement) (s : State) : KeptOut [Fld.EVR_CHAL, Fld.EVR_STATUS.CHAL_VALID, Fld.EVR_STATUS.LOCKOUT, Fld.IMG_COPY.MATCHES_RUNNING, Fld.IMG_COPY.REASON, Fld.IMG_COPY.VALID, Fld.IMG_KEY_STATUS.PROGRAMMED, Fld.IMG_KEY_STATUS.REVOKED, Fld.IMG_STAGE_STATUS.ERROR] s (execSigningKeyRevoke iface st s) := by
  unfold execSigningKeyRevoke
  try dsimp only
  repeat' first
    | exact (rfl : (_ : Bool) = _)
    | with_reducible exact Kept.refl
    | with_reducible assumption
    | with_reducible refine KeptOut.next ?_
    | with_reducible refine KeptOut.ite ?_ ?_
    | with_reducible refine Kept.ite ?_ ?_
    | with_reducible apply Kept.step (kept_State_showCopies _)
    | with_reducible apply Kept.step (kept_State_showKeys _)
    | with_reducible apply Kept.step (kept_State_stageError _ _)
    | with_reducible apply Kept.step (kept_State_tokenChecked _ _ _ _)
    | (dsimp only [Kept.mk_form]; with_reducible apply KeptMk.intro (_h0 := rfl) (h3 := rfl))
    | split
    | refine Kept.ite ?_ ?_
    | refine KeptOut.ite ?_ ?_

theorem kept_execImageCopyRewrite (copy : Fin 3) (ok : Bool) (s : State) : KeptOut [Fld.IMG_BOOT.REWRITE_PENDING, Fld.IMG_COPY.MATCHES_RUNNING, Fld.IMG_COPY.REASON, Fld.IMG_COPY.VALID, Fld.IMG_STAGE_STATUS.BUSY, Fld.IMG_STAGE_STATUS.CHANGE_CLASS, Fld.IMG_STAGE_STATUS.OWNER, Fld.IMG_STAGE_STATUS.STATE] s (execImageCopyRewrite copy ok s) := by
  unfold execImageCopyRewrite
  try dsimp only
  repeat' first
    | exact (rfl : (_ : Bool) = _)
    | with_reducible exact Kept.refl
    | with_reducible assumption
    | with_reducible refine KeptOut.next ?_
    | with_reducible refine KeptOut.ite ?_ ?_
    | with_reducible refine Kept.ite ?_ ?_
    | with_reducible apply Kept.step (kept_State_emit _ _ _)
    | with_reducible apply Kept.step (kept_State_setCopy _ _ _)
    | with_reducible apply Kept.step (kept_State_showCopies _)
    | with_reducible apply Kept.step (kept_State_showRewrite _)
    | with_reducible apply Kept.step (kept_State_stageIdle _)
    | (dsimp only [Kept.mk_form]; with_reducible apply KeptMk.intro (_h0 := rfl) (h3 := rfl))
    | split
    | refine Kept.ite ?_ ?_
    | refine KeptOut.ite ?_ ?_


/-! ### Machine/StripeCache.lean -/

theorem kept_State_scAccept (s : State) (w : ScWait) : Kept [Fld.SC_HIT, Fld.SC_MISS, Fld.SC_OWN_RETRY, Fld.SC_PF_ISSUED, Fld.SC_PF_USED, Fld.SC_VICTIM_HIT] s (State.scAccept s w) := by
  unfold State.scAccept
  try dsimp only
  repeat' first
    | exact (rfl : (_ : Bool) = _)
    | with_reducible exact Kept.refl
    | with_reducible refine Kept.ite ?_ ?_
    | with_reducible apply Kept.step (kept_State_scServe _ _)
    | with_reducible apply Kept.step (kept_State_withSc _ _)
    | (dsimp only [Kept.mk_form]; with_reducible apply KeptMk.intro (_h0 := rfl) (h3 := rfl))
    | split
    | refine Kept.ite ?_ ?_

theorem kept_execScReadRequest (req : Fin 8) (line word : Nat) (s : State) : KeptOut [Fld.SC_HIT, Fld.SC_MISS, Fld.SC_OWN_RETRY, Fld.SC_PF_ISSUED, Fld.SC_PF_USED, Fld.SC_VICTIM_HIT] s (execScReadRequest req line word s) := by
  unfold execScReadRequest
  try dsimp only
  repeat' first
    | exact (rfl : (_ : Bool) = _)
    | with_reducible exact Kept.refl
    | with_reducible refine KeptOut.next ?_
    | with_reducible apply Kept.step (kept_State_scAccept _ _)

theorem kept_execScFillReturn (line : Nat) (ok : Bool) (s : State) : KeptOut [Fld.SC_PF_USED] s (execScFillReturn line ok s) := by
  unfold execScFillReturn
  try dsimp only
  repeat' first
    | exact (rfl : (_ : Bool) = _)
    | with_reducible exact Kept.refl
    | with_reducible assumption
    | with_reducible refine KeptOut.next ?_
    | with_reducible refine KeptOut.ite ?_ ?_
    | with_reducible refine Kept.ite ?_ ?_
    | with_reducible apply Kept.incFldAt
    | with_reducible apply Kept.incFld
    | with_reducible apply Kept.step (kept_State_scInstall _ _ _ _)
    | with_reducible apply Kept.step (kept_State_withSc _ _)
    | (dsimp only [Kept.mk_form]; with_reducible apply KeptMk.intro (_h0 := rfl) (h3 := rfl))
    | split
    | dsimp only
    | refine Kept.ite ?_ ?_
    | refine KeptOut.ite ?_ ?_
    | refine Kept.step (Kept.ofFst (kept_State_scInstall _ _ _ _) (by with_reducible assumption)) ?_ ?_

theorem kept_execScWriteRequest (req : Fin 8) (line mask : Nat) (data : Blob) (s : State) : KeptOut [Fld.SC_HIT, Fld.SC_MISS, Fld.SC_OWN_RETRY, Fld.SC_PF_ISSUED, Fld.SC_PF_USED, Fld.SC_VICTIM_HIT] s (execScWriteRequest req line mask data s) := by
  unfold execScWriteRequest
  try dsimp only
  repeat' first
    | exact (rfl : (_ : Bool) = _)
    | with_reducible exact Kept.refl
    | with_reducible refine KeptOut.next ?_
    | with_reducible apply Kept.step (kept_State_scAccept _ _)

theorem kept_execMergeBufferDrain (line : Nat) (s : State) : KeptOut [Fld.SC_HIT, Fld.SC_MISS, Fld.SC_OWN_RETRY, Fld.SC_PF_ISSUED, Fld.SC_PF_USED, Fld.SC_VICTIM_HIT] s (execMergeBufferDrain line s) := by
  unfold execMergeBufferDrain
  try dsimp only
  repeat' first
    | exact (rfl : (_ : Bool) = _)
    | with_reducible exact Kept.refl
    | with_reducible refine KeptOut.next ?_
    | with_reducible apply Kept.step (kept_State_scDrain _ _)

theorem kept_execHbmWriteAck (line : Nat) (s : State) : KeptOut [Fld.ARR_STATE.LOST_OVERFLOW, Fld.RBE_LOST_COUNT.ENTRIES, Fld.RBE_LOST_COUNT.OVERFLOW] s (execHbmWriteAck line s) := by
  unfold execHbmWriteAck
  try dsimp only
  repeat' first
    | exact (rfl : (_ : Bool) = _)
    | with_reducible exact Kept.refl
    | with_reducible assumption
    | with_reducible refine KeptOut.next ?_
    | with_reducible apply Kept.step (kept_State_withSc _ _)
    | with_reducible apply Kept.step (kept_State_written _ _ _)
    | (dsimp only [Kept.mk_form]; with_reducible apply KeptMk.intro (_h0 := rfl) (h3 := rfl))
    | split
    | dsimp only

theorem kept_execEvictionBufferExpiry (slice : SliceId) (s : State) : KeptOut [] s (execEvictionBufferExpiry slice s) := by
  unfold execEvictionBufferExpiry
  try dsimp only
  repeat' first
    | exact (rfl : (_ : Bool) = _)
    | with_reducible exact Kept.refl
    | with_reducible refine KeptOut.next ?_
    | with_reducible refine KeptOut.ite ?_ ?_
    | with_reducible refine Kept.ite ?_ ?_
    | with_reducible apply Kept.step (kept_State_withSc _ _)
    | (dsimp only [Kept.mk_form]; with_reducible apply KeptMk.intro (_h0 := rfl) (h3 := rfl))
    | split
    | refine Kept.ite ?_ ?_
    | refine KeptOut.ite ?_ ?_

theorem kept_execOwnershipRequest (pqs : List (Fin 4)) (line : Nat) (s : State) : KeptOut [Fld.SC_OWN_RETRY] s (execOwnershipRequest pqs line s) := by
  unfold execOwnershipRequest
  try dsimp only
  repeat' first
    | exact (rfl : (_ : Bool) = _)
    | with_reducible exact Kept.refl
    | with_reducible refine KeptOut.next ?_
    | with_reducible apply Kept.step (kept_State_scOwn _ _ _)

theorem kept_execRecallWriteBack (line : Nat) (data : Blob) (s : State) : KeptOut [Fld.SC_HIT, Fld.SC_MISS, Fld.SC_OWN_RETRY, Fld.SC_PF_ISSUED, Fld.SC_PF_USED, Fld.SC_VICTIM_HIT] s (execRecallWriteBack line data s) := by
  unfold execRecallWriteBack
  try dsimp only
  repeat' first
    | exact (rfl : (_ : Bool) = _)
    | with_reducible exact Kept.refl
    | with_reducible assumption
    | with_reducible refine KeptOut.next ?_
    | with_reducible refine KeptOut.ite ?_ ?_
    | with_reducible refine Kept.ite ?_ ?_
    | with_reducible apply Kept.step (kept_State_scServe _ _)
    | with_reducible apply Kept.step (kept_State_scWrite _ _ _ _ _)
    | with_reducible apply Kept.step (kept_State_withSc _ _)
    | with_reducible refine Kept.foldl (fun _ _ _ => ?_) ?_
    | (dsimp only [Kept.mk_form]; with_reducible apply KeptMk.intro (_h0 := rfl) (h3 := rfl))
    | split
    | dsimp only
    | refine Kept.ite ?_ ?_
    | refine KeptOut.ite ?_ ?_

theorem kept_execRetryReissue (pq : Fin 4) (line : Nat) (s : State) : KeptOut [Fld.SC_OWN_RETRY] s (execRetryReissue pq line s) := by
  unfold execRetryReissue
  try dsimp only
  repeat' first
    | exact (rfl : (_ : Bool) = _)
    | with_reducible exact Kept.refl
    | with_reducible refine KeptOut.next ?_
    | with_reducible refine KeptOut.ite ?_ ?_
    | with_reducible refine Kept.ite ?_ ?_
    | with_reducible apply Kept.step (kept_State_scOwn _ _ _)
    | split
    | refine Kept.ite ?_ ?_
    | refine KeptOut.ite ?_ ?_

theorem kept_State_scMaintLine (s : State) (op line : Nat) : Kept [Fld.SC_HIT, Fld.SC_MISS, Fld.SC_OWN_RETRY, Fld.SC_PF_ISSUED, Fld.SC_PF_USED, Fld.SC_VICTIM_HIT] s (State.scMaintLine s op line) := by
  unfold State.scMaintLine
  try dsimp only
  repeat' first
    | exact (rfl : (_ : Bool) = _)
    | with_reducible exact Kept.refl
    | with_reducible assumption
    | with_reducible refine Kept.ite ?_ ?_
    | with_reducible apply Kept.step (kept_State_scDrain _ _)
    | with_reducible apply Kept.step (kept_State_scRecall _ _ _)
    | (dsimp only [Kept.mk_form]; with_reducible apply KeptMk.intro (_h0 := rfl) (h3 := rfl))
    | split
    | refine Kept.ite ?_ ?_

theorem kept_State_scMaint (s : State) (op : Nat) (byWay : Bool) : Kept [Fld.SC_HIT, Fld.SC_MISS, Fld.SC_OWN_RETRY, Fld.SC_PF_ISSUED, Fld.SC_PF_USED, Fld.SC_STATUS.MAINT_BUSY, Fld.SC_VICTIM_HIT] s (State.scMaint s op byWay) := by
  unfold State.scMaint
  try dsimp only
  repeat' first
    | exact (rfl : (_ : Bool) = _)
    | with_reducible exact Kept.refl
    | with_reducible refine Kept.ite ?_ ?_
    | with_reducible apply Kept.setBitAt
    | with_reducible apply Kept.setBit
    | with_reducible apply Kept.step (kept_State_scMaintLine _ _ _)
    | with_reducible apply Kept.step (kept_State_withSc _ _)
    | (dsimp only [Kept.mk_form]; with_reducible apply KeptMk.intro (_h0 := rfl) (h3 := rfl))
    | split
    | refine Kept.ite ?_ ?_

theorem kept_execScMaintClean (byWay : Bool) (s : State) : KeptOut [Fld.SC_HIT, Fld.SC_MISS, Fld.SC_OWN_RETRY, Fld.SC_PF_ISSUED, Fld.SC_PF_USED, Fld.SC_STATUS.MAINT_BUSY, Fld.SC_VICTIM_HIT, Fld.SYS_BUS_ADDR.OFFSET, Fld.SYS_BUS_STATUS.ERR, Fld.SYS_BUS_STATUS.IFACE, Fld.SYS_BUS_STATUS.REASON] s (execScMaintClean byWay s) := by
  unfold execScMaintClean
  try dsimp only
  repeat' first
    | exact (rfl : (_ : Bool) = _)
    | with_reducible exact Kept.refl
    | with_reducible refine KeptOut.next ?_
    | with_reducible refine KeptOut.command rfl Kept.refl ?_
    | with_reducible apply Kept.step (kept_State_scMaint _ _ _)

theorem kept_execScMaintInvalidate (byWay : Bool) (s : State) : KeptOut [Fld.SC_HIT, Fld.SC_MISS, Fld.SC_OWN_RETRY, Fld.SC_PF_ISSUED, Fld.SC_PF_USED, Fld.SC_STATUS.MAINT_BUSY, Fld.SC_VICTIM_HIT, Fld.SYS_BUS_ADDR.OFFSET, Fld.SYS_BUS_STATUS.ERR, Fld.SYS_BUS_STATUS.IFACE, Fld.SYS_BUS_STATUS.REASON] s (execScMaintInvalidate byWay s) := by
  unfold execScMaintInvalidate
  try dsimp only
  repeat' first
    | exact (rfl : (_ : Bool) = _)
    | with_reducible exact Kept.refl
    | with_reducible refine KeptOut.next ?_
    | with_reducible refine KeptOut.command rfl Kept.refl ?_
    | with_reducible apply Kept.step (kept_State_scMaint _ _ _)

theorem kept_execScMaintCleanInvalidate (byWay : Bool) (s : State) : KeptOut [Fld.SC_HIT, Fld.SC_MISS, Fld.SC_OWN_RETRY, Fld.SC_PF_ISSUED, Fld.SC_PF_USED, Fld.SC_STATUS.MAINT_BUSY, Fld.SC_VICTIM_HIT, Fld.SYS_BUS_ADDR.OFFSET, Fld.SYS_BUS_STATUS.ERR, Fld.SYS_BUS_STATUS.IFACE, Fld.SYS_BUS_STATUS.REASON] s (execScMaintCleanInvalidate byWay s) := by
  unfold execScMaintCleanInvalidate
  try dsimp only
  repeat' first
    | exact (rfl : (_ : Bool) = _)
    | with_reducible exact Kept.refl
    | with_reducible refine KeptOut.next ?_
    | with_reducible refine KeptOut.command rfl Kept.refl ?_
    | with_reducible apply Kept.step (kept_State_scMaint _ _ _)

theorem kept_execScMaintDone (s : State) : KeptOut [Fld.SC_STATUS.MAINT_BUSY] s (execScMaintDone s) := by
  unfold execScMaintDone
  try dsimp only
  repeat' first
    | exact (rfl : (_ : Bool) = _)
    | with_reducible exact Kept.refl
    | with_reducible assumption
    | with_reducible refine KeptOut.next ?_
    | with_reducible refine KeptOut.ite ?_ ?_
    | with_reducible refine Kept.ite ?_ ?_
    | with_reducible apply Kept.setBitAt
    | with_reducible apply Kept.setBit
    | with_reducible apply Kept.step (kept_State_withSc _ _)
    | (dsimp only [Kept.mk_form]; with_reducible apply KeptMk.intro (_h0 := rfl) (h3 := rfl))
    | split
    | refine Kept.ite ?_ ?_
    | refine KeptOut.ite ?_ ?_

theorem kept_State_scRange (s : State) (op : Nat) : Kept [Fld.SC_HIT, Fld.SC_MISS, Fld.SC_OWN_RETRY, Fld.SC_PF_ISSUED, Fld.SC_PF_USED, Fld.SC_RANGE_DISPLACED.LINES, Fld.SC_RANGE_STATUS.BUSY, Fld.SC_RANGE_STATUS.DONE, Fld.SC_RANGE_STATUS.ERR_CODE, Fld.SC_RANGE_STATUS.OVERFLOW, Fld.SC_STATUS.RANGE_BUSY, Fld.SC_VICTIM_HIT] s (State.scRange s op) := by
  unfold State.scRange
  try dsimp only
  repeat' first
    | exact (rfl : (_ : Bool) = _)
    | with_reducible exact Kept.refl
    | with_reducible assumption
    | with_reducible refine Kept.ite ?_ ?_
    | with_reducible apply Kept.setFldAt
    | with_reducible apply Kept.setFld
    | with_reducible apply Kept.setBitAt
    | with_reducible apply Kept.setBit
    | with_reducible apply Kept.step (kept_State_scMaintLine _ _ _)
    | with_reducible apply Kept.step (kept_State_scRangeErr _ _)
    | with_reducible apply Kept.step (kept_State_withSc _ _)
    | with_reducible refine Kept.foldl (fun _ _ _ => ?_) ?_
    | with_reducible refine Kept.foldlFst (fun _ _ _ => ?_) ?_
    | (dsimp only [Kept.mk_form]; with_reducible apply KeptMk.intro (_h0 := rfl) (h3 := rfl))
    | split
    | dsimp only
    | refine Kept.ite ?_ ?_

theorem kept_execScRangeClean (s : State) : KeptOut [Fld.SC_HIT, Fld.SC_MISS, Fld.SC_OWN_RETRY, Fld.SC_PF_ISSUED, Fld.SC_PF_USED, Fld.SC_RANGE_DISPLACED.LINES, Fld.SC_RANGE_STATUS.BUSY, Fld.SC_RANGE_STATUS.DONE, Fld.SC_RANGE_STATUS.ERR_CODE, Fld.SC_RANGE_STATUS.OVERFLOW, Fld.SC_STATUS.RANGE_BUSY, Fld.SC_VICTIM_HIT, Fld.SYS_BUS_ADDR.OFFSET, Fld.SYS_BUS_STATUS.ERR, Fld.SYS_BUS_STATUS.IFACE, Fld.SYS_BUS_STATUS.REASON] s (execScRangeClean s) := by
  unfold execScRangeClean
  try dsimp only
  repeat' first
    | exact (rfl : (_ : Bool) = _)
    | with_reducible exact Kept.refl
    | with_reducible refine KeptOut.next ?_
    | with_reducible refine KeptOut.command rfl Kept.refl ?_
    | with_reducible apply Kept.step (kept_State_scRange _ _)

theorem kept_execScRangeInvalidate (s : State) : KeptOut [Fld.SC_HIT, Fld.SC_MISS, Fld.SC_OWN_RETRY, Fld.SC_PF_ISSUED, Fld.SC_PF_USED, Fld.SC_RANGE_DISPLACED.LINES, Fld.SC_RANGE_STATUS.BUSY, Fld.SC_RANGE_STATUS.DONE, Fld.SC_RANGE_STATUS.ERR_CODE, Fld.SC_RANGE_STATUS.OVERFLOW, Fld.SC_STATUS.RANGE_BUSY, Fld.SC_VICTIM_HIT, Fld.SYS_BUS_ADDR.OFFSET, Fld.SYS_BUS_STATUS.ERR, Fld.SYS_BUS_STATUS.IFACE, Fld.SYS_BUS_STATUS.REASON] s (execScRangeInvalidate s) := by
  unfold execScRangeInvalidate
  try dsimp only
  repeat' first
    | exact (rfl : (_ : Bool) = _)
    | with_reducible exact Kept.refl
    | with_reducible refine KeptOut.next ?_
    | with_reducible refine KeptOut.command rfl Kept.refl ?_
    | with_reducible apply Kept.step (kept_State_scRange _ _)

theorem kept_execScRangeCleanInvalidate (s : State) : KeptOut [Fld.SC_HIT, Fld.SC_MISS, Fld.SC_OWN_RETRY, Fld.SC_PF_ISSUED, Fld.SC_PF_USED, Fld.SC_RANGE_DISPLACED.LINES, Fld.SC_RANGE_STATUS.BUSY, Fld.SC_RANGE_STATUS.DONE, Fld.SC_RANGE_STATUS.ERR_CODE, Fld.SC_RANGE_STATUS.OVERFLOW, Fld.SC_STATUS.RANGE_BUSY, Fld.SC_VICTIM_HIT, Fld.SYS_BUS_ADDR.OFFSET, Fld.SYS_BUS_STATUS.ERR, Fld.SYS_BUS_STATUS.IFACE, Fld.SYS_BUS_STATUS.REASON] s (execScRangeCleanInvalidate s) := by
  unfold execScRangeCleanInvalidate
  try dsimp only
  repeat' first
    | exact (rfl : (_ : Bool) = _)
    | with_reducible exact Kept.refl
    | with_reducible refine KeptOut.next ?_
    | with_reducible refine KeptOut.command rfl Kept.refl ?_
    | with_reducible apply Kept.step (kept_State_scRange _ _)

theorem kept_execScPreload (s : State) : KeptOut [Fld.SC_HIT, Fld.SC_MISS, Fld.SC_OWN_RETRY, Fld.SC_PF_ISSUED, Fld.SC_PF_USED, Fld.SC_RANGE_DISPLACED.LINES, Fld.SC_RANGE_STATUS.BUSY, Fld.SC_RANGE_STATUS.DONE, Fld.SC_RANGE_STATUS.ERR_CODE, Fld.SC_RANGE_STATUS.OVERFLOW, Fld.SC_STATUS.RANGE_BUSY, Fld.SC_VICTIM_HIT, Fld.SYS_BUS_ADDR.OFFSET, Fld.SYS_BUS_STATUS.ERR, Fld.SYS_BUS_STATUS.IFACE, Fld.SYS_BUS_STATUS.REASON] s (execScPreload s) := by
  unfold execScPreload
  try dsimp only
  repeat' first
    | exact (rfl : (_ : Bool) = _)
    | with_reducible exact Kept.refl
    | with_reducible refine KeptOut.next ?_
    | with_reducible refine KeptOut.command rfl Kept.refl ?_
    | with_reducible apply Kept.step (kept_State_scRange _ _)

theorem kept_execScInvalidateWays (s : State) : KeptOut [Fld.SC_HIT, Fld.SC_MISS, Fld.SC_OWN_RETRY, Fld.SC_PF_ISSUED, Fld.SC_PF_USED, Fld.SC_RANGE_DISPLACED.LINES, Fld.SC_RANGE_STATUS.BUSY, Fld.SC_RANGE_STATUS.DONE, Fld.SC_RANGE_STATUS.ERR_CODE, Fld.SC_RANGE_STATUS.OVERFLOW, Fld.SC_STATUS.RANGE_BUSY, Fld.SC_VICTIM_HIT, Fld.SYS_BUS_ADDR.OFFSET, Fld.SYS_BUS_STATUS.ERR, Fld.SYS_BUS_STATUS.IFACE, Fld.SYS_BUS_STATUS.REASON] s (execScInvalidateWays s) := by
  unfold execScInvalidateWays
  try dsimp only
  repeat' first
    | exact (rfl : (_ : Bool) = _)
    | with_reducible exact Kept.refl
    | with_reducible refine KeptOut.next ?_
    | with_reducible refine KeptOut.command rfl Kept.refl ?_
    | with_reducible apply Kept.step (kept_State_scRange _ _)

theorem kept_State_scPreloadLine (s : State) (line : Nat) : Kept [Fld.SC_RANGE_DISPLACED.LINES, Fld.SC_RANGE_STATUS.OVERFLOW] s (State.scPreloadLine s line) := by
  unfold State.scPreloadLine
  try dsimp only
  repeat' first
    | exact (rfl : (_ : Bool) = _)
    | with_reducible exact Kept.refl
    | with_reducible assumption
    | with_reducible refine Kept.ite ?_ ?_
    | with_reducible apply Kept.setBitAt
    | with_reducible apply Kept.setBit
    | with_reducible apply Kept.satFldAt
    | with_reducible apply Kept.satFld
    | with_reducible apply Kept.step (kept_State_scInstall _ _ _ _)
    | with_reducible apply Kept.step (kept_State_withSc _ _)
    | (dsimp only [Kept.mk_form]; with_reducible apply KeptMk.intro (_h0 := rfl) (h3 := rfl))
    | split
    | dsimp only
    | refine Kept.ite ?_ ?_
    | refine Kept.step (Kept.ofFst (kept_State_scInstall _ _ _ _) (by with_reducible assumption)) ?_ ?_

theorem kept_execScRangeDone (s : State) : KeptOut [Fld.SC_RANGE_DISPLACED.LINES, Fld.SC_RANGE_STATUS.BUSY, Fld.SC_RANGE_STATUS.DONE, Fld.SC_RANGE_STATUS.OVERFLOW, Fld.SC_STATUS.RANGE_BUSY] s (execScRangeDone s) := by
  unfold execScRangeDone
  try dsimp only
  repeat' first
    | exact (rfl : (_ : Bool) = _)
    | with_reducible exact Kept.refl
    | with_reducible assumption
    | with_reducible refine KeptOut.next ?_
    | with_reducible refine KeptOut.ite ?_ ?_
    | with_reducible refine Kept.ite ?_ ?_
    | with_reducible apply Kept.setBitAt
    | with_reducible apply Kept.setBit
    | with_reducible apply Kept.step (kept_State_scPreloadLine _ _)
    | with_reducible apply Kept.step (kept_State_withSc _ _)
    | with_reducible refine Kept.foldl (fun _ _ _ => ?_) ?_
    | with_reducible refine Kept.foldlFst (fun _ _ _ => ?_) ?_
    | with_reducible refine Kept.foldlSnd (fun _ _ _ => ?_) ?_
    | (dsimp only [Kept.mk_form]; with_reducible apply KeptMk.intro (_h0 := rfl) (h3 := rfl))
    | split
    | dsimp only
    | refine Kept.ite ?_ ?_
    | refine KeptOut.ite ?_ ?_

theorem kept_execScLockWrite (ways : Nat) (s : State) : KeptOut [Fld.SC_LOCK.WAYS, Fld.SC_RANGE_STATUS.ERR_CODE, Fld.SC_STATUS.LOCKED_WAYS, Fld.SC_STATUS.LOCK_REFUSED] s (execScLockWrite ways s) := by
  unfold execScLockWrite
  try dsimp only
  repeat' first
    | exact (rfl : (_ : Bool) = _)
    | with_reducible exact Kept.refl
    | with_reducible refine KeptOut.next ?_
    | with_reducible apply Kept.step (kept_State_scLock _ _)

theorem kept_execEvictPathSwitch (path : Bool) (s : State) : KeptOut [Fld.SC_CTRL.EVICT_PATH, Fld.SC_RANGE_STATUS.ERR_CODE] s (execEvictPathSwitch path s) := by
  unfold execEvictPathSwitch
  try dsimp only
  repeat' first
    | exact (rfl : (_ : Bool) = _)
    | with_reducible exact Kept.refl
    | with_reducible refine KeptOut.next ?_
    | with_reducible apply Kept.step (kept_State_scEvictPath _ _)

theorem kept_execScInitDone (s : State) : KeptOut [Fld.SC_HIT, Fld.SC_MISS, Fld.SC_OWN_RETRY, Fld.SC_PF_ISSUED, Fld.SC_PF_USED, Fld.SC_STATUS.INIT_DONE, Fld.SC_VICTIM_HIT] s (execScInitDone s) := by
  unfold execScInitDone
  try dsimp only
  repeat' first
    | exact (rfl : (_ : Bool) = _)
    | with_reducible exact Kept.refl
    | with_reducible assumption
    | with_reducible refine KeptOut.next ?_
    | with_reducible apply Kept.setBitAt
    | with_reducible apply Kept.setBit
    | with_reducible apply Kept.step (kept_State_scServe _ _)
    | with_reducible apply Kept.step (kept_State_withSc _ _)
    | with_reducible refine Kept.foldl (fun _ _ _ => ?_) ?_
    | (dsimp only [Kept.mk_form]; with_reducible apply KeptMk.intro (_h0 := rfl) (h3 := rfl))

theorem kept_execScEccError (place : EccPlace) (corrected : Bool) (s : State) : KeptOut [Fld.SC_ECC_CORR, Fld.SC_ECC_UNCORR] s (execScEccError place corrected s) := by
  unfold execScEccError
  try dsimp only
  repeat' first
    | exact (rfl : (_ : Bool) = _)
    | with_reducible exact Kept.refl
    | with_reducible assumption
    | with_reducible refine KeptOut.next ?_
    | with_reducible refine KeptOut.ite ?_ ?_
    | with_reducible refine Kept.ite ?_ ?_
    | with_reducible apply Kept.incFldAt
    | with_reducible apply Kept.incFld
    | with_reducible apply Kept.step (kept_State_emit _ _ _)
    | with_reducible apply Kept.step (kept_State_withSc _ _)
    | (dsimp only [Kept.mk_form]; with_reducible apply KeptMk.intro (_h0 := rfl) (h3 := rfl))
    | split
    | dsimp only
    | refine Kept.ite ?_ ?_
    | refine KeptOut.ite ?_ ?_


/-! ### Machine/Errors.lean -/

theorem kept_State_pushErr (s : State) (e : RecErr) (source : Nat) (fatal : Option Nat) : Kept [Fld.ERR_DEPTH_MAX.DEPTH] s (State.pushErr s e source fatal) := by
  unfold State.pushErr
  try dsimp only
  repeat' first
    | exact (rfl : (_ : Bool) = _)
    | with_reducible exact Kept.refl
    | with_reducible refine Kept.ite ?_ ?_
    | with_reducible apply Kept.maxFldAt
    | with_reducible apply Kept.maxFld
    | (dsimp only [Kept.mk_form]; with_reducible apply KeptMk.intro (_h0 := rfl) (h3 := rfl))
    | split
    | refine Kept.ite ?_ ?_

theorem kept_execRecoverableError (e : RecErr) (source : Nat) (s : State) : KeptOut [Fld.ERR_DEPTH_MAX.DEPTH] s (execRecoverableError e source s) := by
  unfold execRecoverableError
  try dsimp only
  repeat' first
    | exact (rfl : (_ : Bool) = _)
    | with_reducible exact Kept.refl
    | with_reducible refine KeptOut.next ?_
    | with_reducible refine KeptOut.ite ?_ ?_
    | with_reducible refine Kept.ite ?_ ?_
    | with_reducible apply Kept.step (kept_State_emit _ _ _)
    | with_reducible apply Kept.step (kept_State_pushErr _ _ _ _)
    | with_reducible apply Kept.step (kept_State_raiseFatal _ _)
    | (dsimp only [Kept.mk_form]; with_reducible apply KeptMk.intro (_h0 := rfl) (h3 := rfl))
    | split
    | dsimp only
    | refine Kept.ite ?_ ?_
    | refine KeptOut.ite ?_ ?_

theorem kept_State_loseDirty (s : State) (nsid lba : Nat) : Kept [Fld.HFE_COLLECT_MAX.MAX_DEPTH, Fld.HFE_DWE_STATUS.ENTRIES, Fld.HFE_DWE_STATUS.OVERFLOW, Fld.MIRROR_BYTES, Fld.WC_STATUS.OVER_LIMIT, Fld.WC_STATUS.UNPROTECTED, Fld.WC_UNPROT_MS] s (State.loseDirty s nsid lba) := by
  unfold State.loseDirty
  try dsimp only
  repeat' first
    | exact (rfl : (_ : Bool) = _)
    | with_reducible exact Kept.refl
    | with_reducible assumption
    | with_reducible refine Kept.ite ?_ ?_
    | with_reducible apply Kept.step (kept_State_deferError _ _ _ _ _)
    | with_reducible apply Kept.step (kept_State_destageWake _)
    | with_reducible apply Kept.step (kept_State_noteLimit _)
    | with_reducible apply Kept.step (kept_State_withLines _ _)
    | (dsimp only [Kept.mk_form]; with_reducible apply KeptMk.intro (_h0 := rfl) (h3 := rfl))
    | split
    | refine Kept.ite ?_ ?_

theorem kept_State_handled (s : State) (x : StackEntry) (ok : Bool) : Kept [Fld.HFE_COLLECT_MAX.MAX_DEPTH, Fld.HFE_DWE_STATUS.ENTRIES, Fld.HFE_DWE_STATUS.OVERFLOW, Fld.MIRROR_BYTES, Fld.PQE_STATUS.SLICE_ACTIVE, Fld.PQE_STATUS.SLICE_FAILED, Fld.WC_STATUS.OVER_LIMIT, Fld.WC_STATUS.UNPROTECTED, Fld.WC_UNPROT_MS] s (State.handled s x ok) := by
  unfold State.handled
  try dsimp only
  repeat' first
    | exact (rfl : (_ : Bool) = _)
    | with_reducible exact Kept.refl
    | with_reducible assumption
    | with_reducible refine Kept.ite ?_ ?_
    | with_reducible apply Kept.setFldAt
    | with_reducible apply Kept.setFld
    | with_reducible apply Kept.step (kept_State_collect _ _ _ _)
    | with_reducible apply Kept.step (kept_State_loseDirty _ _ _)
    | with_reducible apply Kept.step (kept_State_raiseFatal _ _)
    | (dsimp only [Kept.mk_form]; with_reducible apply KeptMk.intro (_h0 := rfl) (h3 := rfl))
    | split
    | refine Kept.ite ?_ ?_

theorem kept_execHandlerEnd (index : Nat) (ok : Bool) (s : State) : KeptOut [Fld.ERR_RECOVERED, Fld.HFE_COLLECT_MAX.MAX_DEPTH, Fld.HFE_DWE_STATUS.ENTRIES, Fld.HFE_DWE_STATUS.OVERFLOW, Fld.MIRROR_BYTES, Fld.PQE_STATUS.SLICE_ACTIVE, Fld.PQE_STATUS.SLICE_FAILED, Fld.WC_STATUS.OVER_LIMIT, Fld.WC_STATUS.UNPROTECTED, Fld.WC_UNPROT_MS] s (execHandlerEnd index ok s) := by
  unfold execHandlerEnd
  try dsimp only
  repeat' first
    | exact (rfl : (_ : Bool) = _)
    | with_reducible exact Kept.refl
    | with_reducible assumption
    | with_reducible refine KeptOut.next ?_
    | with_reducible refine KeptOut.ite ?_ ?_
    | with_reducible refine Kept.ite ?_ ?_
    | with_reducible apply Kept.incFldAt
    | with_reducible apply Kept.incFld
    | with_reducible apply Kept.step (kept_State_handled _ _ _)
    | (dsimp only [Kept.mk_form]; with_reducible apply KeptMk.intro (_h0 := rfl) (h3 := rfl))
    | split
    | refine Kept.ite ?_ ?_
    | refine KeptOut.ite ?_ ?_

theorem kept_execHandlerTimeout (index : Nat) (s : State) : KeptOut [] s (execHandlerTimeout index s) := by
  unfold execHandlerTimeout
  try dsimp only
  repeat' first
    | exact (rfl : (_ : Bool) = _)
    | with_reducible exact Kept.refl
    | with_reducible refine KeptOut.next ?_
    | with_reducible refine KeptOut.ite ?_ ?_
    | with_reducible refine Kept.ite ?_ ?_
    | with_reducible apply Kept.step (kept_State_raiseFatal _ _)
    | split
    | refine Kept.ite ?_ ?_
    | refine KeptOut.ite ?_ ?_

theorem kept_State_fatalStop (s : State) : Kept [Fld.ARR_STATE.LOST_OVERFLOW, Fld.CAPACITY, Fld.CAPO_STATUS.DRIVE, Fld.CAPO_STATUS.GATE_OPEN, Fld.CAPO_STATUS.ROLE, Fld.CH_BYTES, Fld.CH_CTRL.EN, Fld.CH_STATUS.DISABLED_MIDWAY, Fld.CH_STATUS.PENDING, Fld.CH_STATUS.STATE, Fld.DRIVE_SERIAL, Fld.ERR_INFO.DRIVE_STATUS, Fld.ERR_INFO.KIND, Fld.ERR_INFO.SLOT, Fld.HFE_DWE_STATUS.ENTRIES, Fld.HFE_DWE_STATUS.OVERFLOW, Fld.LINK_STATUS.LINK_UP, Fld.LINK_STATUS.PWREN, Fld.LINK_STATUS.RATE, Fld.LINK_STATUS.WIDTH, Fld.MIRROR_BYTES, Fld.OUTSTANDING.C0_SLOTS, Fld.OUTSTANDING.SLOTS, Fld.PORT_STATE.STATE, Fld.RBE_LOST_COUNT.ENTRIES, Fld.RBE_LOST_COUNT.OVERFLOW, Fld.RESET_COUNT, Fld.RETRY_COUNT, Fld.WRITE_GATE_ABORTS] s (State.fatalStop s) := by
  unfold State.fatalStop
  try dsimp only
  repeat' first
    | exact (rfl : (_ : Bool) = _)
    | with_reducible exact Kept.refl
    | with_reducible refine Kept.ite ?_ ?_
    | with_reducible apply Kept.step (kept_State_closeGate _)
    | with_reducible apply Kept.step (kept_State_dmaDropAll _)
    | with_reducible apply Kept.step (kept_State_driveCapo _)
    | with_reducible apply Kept.step (kept_State_hold _ _)
    | with_reducible apply Kept.step (kept_State_sendHealth _)
    | with_reducible apply Kept.step (kept_State_setRole _ _)
    | (dsimp only [Kept.mk_form]; with_reducible apply KeptMk.intro (_h0 := rfl) (h3 := rfl))
    | split
    | dsimp only
    | refine Kept.ite ?_ ?_

theorem kept_execFatalRestart (s : State) : KeptOut [Fld.PWR_AVS.STEP, Fld.PWR_STATE.BOOTING, Fld.PWR_STATE.STATE, Fld.PWR_STATE.TARGET] s (execFatalRestart s) := by
  unfold execFatalRestart
  try dsimp only
  repeat' first
    | exact (rfl : (_ : Bool) = _)
    | with_reducible exact Kept.refl
    | with_reducible refine KeptOut.next ?_
    | with_reducible refine KeptOut.ite ?_ ?_
    | with_reducible refine Kept.ite ?_ ?_
    | with_reducible apply Kept.step (kept_State_startBoot _)
    | (dsimp only [Kept.mk_form]; with_reducible apply KeptMk.intro (_h0 := rfl) (h3 := rfl))
    | split
    | refine Kept.ite ?_ ?_
    | refine KeptOut.ite ?_ ?_

theorem kept_execErrRestart (s : State) : KeptOut [Fld.ERR_STATUS.FATAL_HOLD, Fld.PWR_AVS.STEP, Fld.PWR_STATE.BOOTING, Fld.PWR_STATE.STATE, Fld.PWR_STATE.TARGET, Fld.SYS_BUS_ADDR.OFFSET, Fld.SYS_BUS_STATUS.ERR, Fld.SYS_BUS_STATUS.IFACE, Fld.SYS_BUS_STATUS.REASON] s (execErrRestart s) := by
  unfold execErrRestart
  try dsimp only
  repeat' first
    | exact (rfl : (_ : Bool) = _)
    | with_reducible exact Kept.refl
    | with_reducible refine KeptOut.next ?_
    | with_reducible refine KeptOut.ite ?_ ?_
    | with_reducible refine KeptOut.command rfl Kept.refl ?_
    | with_reducible refine Kept.ite ?_ ?_
    | with_reducible apply Kept.setBitAt
    | with_reducible apply Kept.setBit
    | with_reducible apply Kept.step (kept_State_startBoot _)
    | split
    | refine Kept.ite ?_ ?_
    | refine KeptOut.ite ?_ ?_


/-! ### Machine/Rebuild.lean -/

theorem kept_execKatRun (s : State) : KeptOut [Fld.PQE_STATUS.KAT_BUSY, Fld.PQE_STATUS.SLICE_ACTIVE, Fld.SYS_BUS_ADDR.OFFSET, Fld.SYS_BUS_STATUS.ERR, Fld.SYS_BUS_STATUS.IFACE, Fld.SYS_BUS_STATUS.REASON] s (execKatRun s) := by
  unfold execKatRun
  try dsimp only
  repeat' first
    | exact (rfl : (_ : Bool) = _)
    | with_reducible exact Kept.refl
    | with_reducible refine KeptOut.next ?_
    | with_reducible refine KeptOut.ite ?_ ?_
    | with_reducible refine KeptOut.command rfl Kept.refl ?_
    | with_reducible refine Kept.ite ?_ ?_
    | with_reducible apply Kept.step (kept_State_startKat _)
    | split
    | refine Kept.ite ?_ ?_
    | refine KeptOut.ite ?_ ?_

theorem kept_execKatPeriodic (s : State) : KeptOut [Fld.PQE_STATUS.KAT_BUSY, Fld.PQE_STATUS.SLICE_ACTIVE] s (execKatPeriodic s) := by
  unfold execKatPeriodic
  try dsimp only
  repeat' first
    | exact (rfl : (_ : Bool) = _)
    | with_reducible exact Kept.refl
    | with_reducible refine KeptOut.next ?_
    | with_reducible refine KeptOut.ite ?_ ?_
    | with_reducible refine Kept.ite ?_ ?_
    | with_reducible apply Kept.step (kept_State_startKat _)
    | split
    | refine Kept.ite ?_ ?_
    | refine KeptOut.ite ?_ ?_

theorem kept_State_katSlice (s : State) (i : Nat) (pass : Bool) : Kept [Fld.PQE_KAT_PASS, Fld.PQE_STATUS.SLICE_ACTIVE, Fld.PQE_STATUS.SLICE_FAILED] s (State.katSlice s i pass) := by
  unfold State.katSlice
  try dsimp only
  repeat' first
    | exact (rfl : (_ : Bool) = _)
    | with_reducible exact Kept.refl
    | with_reducible refine Kept.ite ?_ ?_
    | with_reducible apply Kept.setFldAt
    | with_reducible apply Kept.setFld
    | with_reducible apply Kept.incFldAt
    | with_reducible apply Kept.incFld
    | with_reducible apply Kept.step (kept_State_emit _ _ _)
    | with_reducible apply Kept.step (kept_State_raiseFatal _ _)
    | with_reducible apply Kept.step (kept_State_smartWarn _ _)
    | split
    | refine Kept.ite ?_ ?_

theorem kept_execKatResult (slice : Fin 4) (pass : Bool) (s : State) : KeptOut [Fld.PQE_KAT_PASS, Fld.PQE_STATUS.KAT_BUSY, Fld.PQE_STATUS.KAT_LAST_FAIL, Fld.PQE_STATUS.SLICE_ACTIVE, Fld.PQE_STATUS.SLICE_FAILED] s (execKatResult slice pass s) := by
  unfold execKatResult
  try dsimp only
  repeat' first
    | exact (rfl : (_ : Bool) = _)
    | with_reducible exact Kept.refl
    | with_reducible assumption
    | with_reducible refine KeptOut.next ?_
    | with_reducible refine KeptOut.ite ?_ ?_
    | with_reducible refine Kept.ite ?_ ?_
    | with_reducible apply Kept.setFldAt
    | with_reducible apply Kept.setFld
    | with_reducible apply Kept.setBitAt
    | with_reducible apply Kept.setBit
    | with_reducible apply Kept.step (kept_State_katSlice _ _ _)
    | (dsimp only [Kept.mk_form]; with_reducible apply KeptMk.intro (_h0 := rfl) (h3 := rfl))
    | split
    | refine Kept.ite ?_ ?_
    | refine KeptOut.ite ?_ ?_

theorem kept_execSlowWindowEval (a : ArrayId) (m median reads : Nat) (s : State) : KeptOut [] s (execSlowWindowEval a m median reads s) := by
  unfold execSlowWindowEval
  try dsimp only
  repeat' first
    | exact (rfl : (_ : Bool) = _)
    | with_reducible exact Kept.refl
    | with_reducible assumption
    | with_reducible refine KeptOut.next ?_
    | with_reducible refine KeptOut.ite ?_ ?_
    | with_reducible refine Kept.ite ?_ ?_
    | with_reducible apply Kept.step (kept_State_putArr _ _ _)
    | (dsimp only [Kept.mk_form]; with_reducible apply KeptMk.intro (_h0 := rfl) (h3 := rfl))
    | split
    | dsimp only
    | refine Kept.ite ?_ ?_
    | refine KeptOut.ite ?_ ?_

theorem kept_execSlowFailExpiry (a : ArrayId) (m : Nat) (s : State) : KeptOut [Fld.ARR_STATE.LOST_OVERFLOW, Fld.HFE_DWE_STATUS.ENTRIES, Fld.HFE_DWE_STATUS.OVERFLOW, Fld.MIRROR_BYTES, Fld.RBE_LOST_COUNT.ENTRIES, Fld.RBE_LOST_COUNT.OVERFLOW] s (execSlowFailExpiry a m s) := by
  unfold execSlowFailExpiry
  try dsimp only
  repeat' first
    | exact (rfl : (_ : Bool) = _)
    | with_reducible exact Kept.refl
    | with_reducible assumption
    | with_reducible refine KeptOut.next ?_
    | with_reducible refine KeptOut.ite ?_ ?_
    | with_reducible refine Kept.ite ?_ ?_
    | with_reducible apply Kept.step (kept_State_failMember _ _ _ _)
    | (dsimp only [Kept.mk_form]; with_reducible apply KeptMk.intro (_h0 := rfl) (h3 := rfl))
    | split
    | refine Kept.ite ?_ ?_
    | refine KeptOut.ite ?_ ?_

theorem kept_execRebuildStripe (a : ArrayId) (s : State) : KeptOut [Fld.ARR_REPAIR_COUNT, Fld.ARR_STATE.LOST_OVERFLOW, Fld.HFE_DWE_STATUS.ENTRIES, Fld.HFE_DWE_STATUS.OVERFLOW, Fld.MAP_FAULT_COUNT, Fld.MAP_FAULT_IN, Fld.MAP_FAULT_INFO.ARRAY, Fld.MAP_FAULT_INFO.ENTRY, Fld.MAP_FAULT_INFO.EPOCH, Fld.MAP_FAULT_INFO.LANE, Fld.MAP_FAULT_INFO.PC, Fld.MAP_FAULT_INFO.REASON, Fld.MAP_FAULT_UNIT.UNIT, Fld.MIRROR_BYTES, Fld.PQE_SOLVE_COUNT, Fld.PQE_SRC_BYTES, Fld.RBE_LOST_COUNT.ENTRIES, Fld.RBE_LOST_COUNT.OVERFLOW] s (execRebuildStripe a s) := by
  unfold execRebuildStripe
  try dsimp only
  repeat' first
    | exact (rfl : (_ : Bool) = _)
    | with_reducible exact Kept.refl
    | with_reducible assumption
    | with_reducible refine KeptOut.next ?_
    | with_reducible refine KeptOut.ite ?_ ?_
    | with_reducible refine Kept.ite ?_ ?_
    | with_reducible apply Kept.step (kept_State_bgFault _ _ _ _ _)
    | with_reducible apply Kept.step (kept_State_endMain _ _ _)
    | with_reducible apply Kept.step (kept_State_putArr _ _ _)
    | with_reducible apply Kept.step (kept_State_rebuildAt _ _ _ _)
    | (dsimp only [Kept.mk_form]; with_reducible apply KeptMk.intro (_h0 := rfl) (h3 := rfl))
    | split
    | dsimp only
    | refine Kept.ite ?_ ?_
    | refine KeptOut.ite ?_ ?_

theorem kept_execCopybackUnit (a : ArrayId) (s : State) : KeptOut [Fld.ARR_REPAIR_COUNT, Fld.ARR_STATE.LOST_OVERFLOW, Fld.HFE_DWE_STATUS.ENTRIES, Fld.HFE_DWE_STATUS.OVERFLOW, Fld.MAP_FAULT_COUNT, Fld.MAP_FAULT_IN, Fld.MAP_FAULT_INFO.ARRAY, Fld.MAP_FAULT_INFO.ENTRY, Fld.MAP_FAULT_INFO.EPOCH, Fld.MAP_FAULT_INFO.LANE, Fld.MAP_FAULT_INFO.PC, Fld.MAP_FAULT_INFO.REASON, Fld.MAP_FAULT_UNIT.UNIT, Fld.MIRROR_BYTES, Fld.PQE_SOLVE_COUNT, Fld.RBE_LOST_COUNT.ENTRIES, Fld.RBE_LOST_COUNT.OVERFLOW] s (execCopybackUnit a s) := by
  unfold execCopybackUnit
  try dsimp only
  repeat' first
    | exact (rfl : (_ : Bool) = _)
    | with_reducible exact Kept.refl
    | with_reducible assumption
    | with_reducible refine KeptOut.next ?_
    | with_reducible refine KeptOut.ite ?_ ?_
    | with_reducible refine Kept.ite ?_ ?_
    | with_reducible apply Kept.step (kept_State_bgFault _ _ _ _ _)
    | with_reducible apply Kept.step (kept_State_copyUnit _ _ _ _ _)
    | with_reducible apply Kept.step (kept_State_endCopy _ _ _ _)
    | with_reducible apply Kept.step (kept_State_putArr _ _ _)
    | with_reducible refine Kept.foldl (fun _ _ _ => ?_) ?_
    | with_reducible refine Kept.foldlFst (fun _ _ _ => ?_) ?_
    | with_reducible refine Kept.foldlSnd (fun _ _ _ => ?_) ?_
    | (dsimp only [Kept.mk_form]; with_reducible apply KeptMk.intro (_h0 := rfl) (h3 := rfl))
    | split
    | dsimp only
    | refine Kept.ite ?_ ?_
    | refine KeptOut.ite ?_ ?_

theorem kept_execBackgroundInitGroup (a : ArrayId) (s : State) : KeptOut [] s (execBackgroundInitGroup a s) := by
  unfold execBackgroundInitGroup
  try dsimp only
  repeat' first
    | exact (rfl : (_ : Bool) = _)
    | with_reducible exact Kept.refl
    | with_reducible assumption
    | with_reducible refine KeptOut.next ?_
    | with_reducible refine KeptOut.ite ?_ ?_
    | with_reducible refine Kept.ite ?_ ?_
    | with_reducible apply Kept.step (kept_State_putArr _ _ _)
    | with_reducible apply Kept.step (kept_State_putMedia _ _ _)
    | with_reducible apply Kept.step (kept_State_rewriteLabels _ _)
    | with_reducible refine Kept.foldl (fun _ _ _ => ?_) ?_
    | with_reducible refine Kept.foldlFst (fun _ _ _ => ?_) ?_
    | (dsimp only [Kept.mk_form]; with_reducible apply KeptMk.intro (_h0 := rfl) (h3 := rfl))
    | split
    | dsimp only
    | refine Kept.ite ?_ ?_
    | refine KeptOut.ite ?_ ?_

theorem kept_execScrubPeriodStart (a : ArrayId) (s : State) : KeptOut [] s (execScrubPeriodStart a s) := by
  unfold execScrubPeriodStart
  try dsimp only
  repeat' first
    | exact (rfl : (_ : Bool) = _)
    | with_reducible exact Kept.refl
    | with_reducible assumption
    | with_reducible refine KeptOut.next ?_
    | with_reducible refine KeptOut.ite ?_ ?_
    | with_reducible refine Kept.ite ?_ ?_
    | with_reducible apply Kept.step (kept_State_startScrub _ _ _)
    | (dsimp only [Kept.mk_form]; with_reducible apply KeptMk.intro (_h0 := rfl) (h3 := rfl))
    | split
    | refine Kept.ite ?_ ?_
    | refine KeptOut.ite ?_ ?_

theorem kept_execScrubStripe (a : ArrayId) (s : State) : KeptOut [Fld.ARR_MISMATCH_COUNT, Fld.ARR_REPAIR_COUNT, Fld.ARR_SCRUB_END, Fld.ARR_STATE.LOST_OVERFLOW, Fld.HFE_DWE_STATUS.ENTRIES, Fld.HFE_DWE_STATUS.OVERFLOW, Fld.MAP_FAULT_COUNT, Fld.MAP_FAULT_IN, Fld.MAP_FAULT_INFO.ARRAY, Fld.MAP_FAULT_INFO.ENTRY, Fld.MAP_FAULT_INFO.EPOCH, Fld.MAP_FAULT_INFO.LANE, Fld.MAP_FAULT_INFO.PC, Fld.MAP_FAULT_INFO.REASON, Fld.MAP_FAULT_UNIT.UNIT, Fld.MIRROR_BYTES, Fld.PQE_SOLVE_COUNT, Fld.PQE_SRC_BYTES, Fld.RBE_LOST_COUNT.ENTRIES, Fld.RBE_LOST_COUNT.OVERFLOW] s (execScrubStripe a s) := by
  unfold execScrubStripe
  try dsimp only
  repeat' first
    | exact (rfl : (_ : Bool) = _)
    | with_reducible exact Kept.refl
    | with_reducible assumption
    | with_reducible refine KeptOut.next ?_
    | with_reducible refine KeptOut.ite ?_ ?_
    | with_reducible refine Kept.ite ?_ ?_
    | with_reducible apply Kept.step (kept_State_bgFault _ _ _ _ _)
    | with_reducible apply Kept.step (kept_State_emit _ _ _)
    | with_reducible apply Kept.step (kept_State_endScrub _ _ _)
    | with_reducible apply Kept.step (kept_State_putArr _ _ _)
    | with_reducible apply Kept.step (kept_State_scrubIn _ _ _ _)
    | with_reducible refine Kept.foldl (fun _ _ _ => ?_) ?_
    | with_reducible refine Kept.foldlFst (fun _ _ _ => ?_) ?_
    | with_reducible refine Kept.foldlSnd (fun _ _ _ => ?_) ?_
    | (dsimp only [Kept.mk_form]; with_reducible apply KeptMk.intro (_h0 := rfl) (h3 := rfl))
    | split
    | dsimp only
    | refine Kept.ite ?_ ?_
    | refine KeptOut.ite ?_ ?_

theorem kept_execReshapeStep (a : ArrayId) (s : State) : KeptOut [Fld.ARR_STATE.LOST_OVERFLOW, Fld.HFE_DWE_STATUS.ENTRIES, Fld.HFE_DWE_STATUS.OVERFLOW, Fld.MAP_FAULT_COUNT, Fld.MAP_FAULT_IN, Fld.MAP_FAULT_INFO.ARRAY, Fld.MAP_FAULT_INFO.ENTRY, Fld.MAP_FAULT_INFO.EPOCH, Fld.MAP_FAULT_INFO.LANE, Fld.MAP_FAULT_INFO.PC, Fld.MAP_FAULT_INFO.REASON, Fld.MAP_FAULT_UNIT.UNIT, Fld.MIRROR_BYTES, Fld.PQE_SRC_BYTES, Fld.RBE_LOST_COUNT.ENTRIES, Fld.RBE_LOST_COUNT.OVERFLOW, Fld.WC_STATUS.OVER_LIMIT, Fld.WC_STATUS.UNPROTECTED, Fld.WC_UNPROT_MS] s (execReshapeStep a s) := by
  unfold execReshapeStep
  try dsimp only
  repeat' first
    | exact (rfl : (_ : Bool) = _)
    | with_reducible exact Kept.refl
    | with_reducible assumption
    | with_reducible refine KeptOut.next ?_
    | with_reducible refine KeptOut.ite ?_ ?_
    | with_reducible refine Kept.ite ?_ ?_
    | with_reducible apply Kept.step (kept_State_bgFault _ _ _ _ _)
    | with_reducible apply Kept.step (kept_State_checkpoint _ _ _)
    | with_reducible apply Kept.step (kept_State_emit _ _ _)
    | with_reducible apply Kept.step (kept_State_endReshape _ _ _)
    | with_reducible apply Kept.step (kept_State_noteLimit _)
    | with_reducible apply Kept.step (kept_State_putArr _ _ _)
    | with_reducible apply Kept.step (kept_State_rewriteLabels _ _)
    | (dsimp only [Kept.mk_form]; with_reducible apply KeptMk.intro (_h0 := rfl) (h3 := rfl))
    | split
    | refine Kept.ite ?_ ?_
    | refine KeptOut.ite ?_ ?_
    | refine Kept.step (kept_State_reshapeOne _ _ _ _ _ _ (by with_reducible assumption)) ?_ ?_

theorem kept_State_rerunSteps (s : State) (a : ArrayId) (y0 : Nat) : Kept [Fld.ARR_STATE.LOST_OVERFLOW, Fld.HFE_DWE_STATUS.ENTRIES, Fld.HFE_DWE_STATUS.OVERFLOW, Fld.MIRROR_BYTES, Fld.PQE_SRC_BYTES, Fld.RBE_LOST_COUNT.ENTRIES, Fld.RBE_LOST_COUNT.OVERFLOW] s (State.rerunSteps s a y0) := by
  fun_induction State.rerunSteps s a y0
  all_goals try dsimp only
  all_goals repeat' first
    | exact (rfl : (_ : Bool) = _)
    | with_reducible exact Kept.refl
    | with_reducible assumption
    | with_reducible refine Kept.ite ?_ ?_
    | (dsimp only [Kept.mk_form]; with_reducible apply KeptMk.intro (_h0 := rfl) (h3 := rfl))
    | split
    | refine Kept.ite ?_ ?_
    | refine Kept.step (kept_State_reshapeOne _ _ _ _ _ _ (by with_reducible assumption)) ?_ ?_
    | refine Kept.step (by assumption) rfl ?_

theorem kept_execReshapeUncleanRerun (a : ArrayId) (s : State) : KeptOut [Fld.ARR_STATE.LOST_OVERFLOW, Fld.HFE_DWE_STATUS.ENTRIES, Fld.HFE_DWE_STATUS.OVERFLOW, Fld.HFE_STATUS.REPLAY_PENDING, Fld.MIRROR_BYTES, Fld.PQE_SRC_BYTES, Fld.RBE_LOST_COUNT.ENTRIES, Fld.RBE_LOST_COUNT.OVERFLOW, Fld.WC_STATUS.OVER_LIMIT, Fld.WC_STATUS.UNPROTECTED, Fld.WC_UNPROT_MS] s (execReshapeUncleanRerun a s) := by
  unfold execReshapeUncleanRerun
  try dsimp only
  repeat' first
    | exact (rfl : (_ : Bool) = _)
    | with_reducible exact Kept.refl
    | with_reducible assumption
    | with_reducible refine KeptOut.next ?_
    | with_reducible refine KeptOut.ite ?_ ?_
    | with_reducible refine Kept.ite ?_ ?_
    | with_reducible apply Kept.step (kept_State_checkpoint _ _ _)
    | with_reducible apply Kept.step (kept_State_endReshape _ _ _)
    | with_reducible apply Kept.step (kept_State_online _)
    | with_reducible apply Kept.step (kept_State_putArr _ _ _)
    | with_reducible apply Kept.step (kept_State_rerunSteps _ _ _)
    | (dsimp only [Kept.mk_form]; with_reducible apply KeptMk.intro (_h0 := rfl) (h3 := rfl))
    | split
    | dsimp only
    | refine Kept.ite ?_ ?_
    | refine KeptOut.ite ?_ ?_

theorem kept_State_arrIgnored (s : State) (a : ArrayId) (cmd : Nat) : Kept [] s (State.arrIgnored s a cmd) := by
  unfold State.arrIgnored
  try dsimp only
  repeat' first
    | exact (rfl : (_ : Bool) = _)
    | with_reducible exact Kept.refl
    | with_reducible apply Kept.step (kept_State_emit _ _ _)
    | dsimp only

theorem kept_execArrScrubNow (a : ArrayId) (s : State) : KeptOut [Fld.ARR_CMD.CMD, Fld.SYS_BUS_ADDR.OFFSET, Fld.SYS_BUS_STATUS.ERR, Fld.SYS_BUS_STATUS.IFACE, Fld.SYS_BUS_STATUS.REASON] s (execArrScrubNow a s) := by
  unfold execArrScrubNow
  try dsimp only
  repeat' first
    | exact (rfl : (_ : Bool) = _)
    | with_reducible exact Kept.refl
    | with_reducible assumption
    | with_reducible refine KeptOut.next ?_
    | with_reducible refine KeptOut.ite ?_ ?_
    | with_reducible refine KeptOut.command rfl Kept.refl ?_
    | with_reducible refine Kept.ite ?_ ?_
    | with_reducible apply Kept.step (kept_State_arrIgnored _ _ _)
    | with_reducible apply Kept.step (kept_State_startScrub _ _ _)
    | (dsimp only [Kept.mk_form]; with_reducible apply KeptMk.intro (_h0 := rfl) (h3 := rfl))
    | split
    | refine Kept.ite ?_ ?_
    | refine KeptOut.ite ?_ ?_

theorem kept_execArrPause (a : ArrayId) (s : State) : KeptOut [Fld.ARR_CMD.CMD, Fld.SYS_BUS_ADDR.OFFSET, Fld.SYS_BUS_STATUS.ERR, Fld.SYS_BUS_STATUS.IFACE, Fld.SYS_BUS_STATUS.REASON] s (execArrPause a s) := by
  unfold execArrPause
  try dsimp only
  repeat' first
    | exact (rfl : (_ : Bool) = _)
    | with_reducible exact Kept.refl
    | with_reducible assumption
    | with_reducible refine KeptOut.next ?_
    | with_reducible refine KeptOut.ite ?_ ?_
    | with_reducible refine KeptOut.command rfl Kept.refl ?_
    | with_reducible refine Kept.ite ?_ ?_
    | with_reducible apply Kept.step (kept_State_arrIgnored _ _ _)
    | with_reducible apply Kept.step (kept_State_putArr _ _ _)
    | (dsimp only [Kept.mk_form]; with_reducible apply KeptMk.intro (_h0 := rfl) (h3 := rfl))
    | split
    | dsimp only
    | refine Kept.ite ?_ ?_
    | refine KeptOut.ite ?_ ?_

theorem kept_execArrResume (a : ArrayId) (s : State) : KeptOut [Fld.ARR_CMD.CMD, Fld.SYS_BUS_ADDR.OFFSET, Fld.SYS_BUS_STATUS.ERR, Fld.SYS_BUS_STATUS.IFACE, Fld.SYS_BUS_STATUS.REASON] s (execArrResume a s) := by
  unfold execArrResume
  try dsimp only
  repeat' first
    | exact (rfl : (_ : Bool) = _)
    | with_reducible exact Kept.refl
    | with_reducible assumption
    | with_reducible refine KeptOut.next ?_
    | with_reducible refine KeptOut.ite ?_ ?_
    | with_reducible refine KeptOut.command rfl Kept.refl ?_
    | with_reducible refine Kept.ite ?_ ?_
    | with_reducible apply Kept.step (kept_State_arrIgnored _ _ _)
    | with_reducible apply Kept.step (kept_State_putArr _ _ _)
    | (dsimp only [Kept.mk_form]; with_reducible apply KeptMk.intro (_h0 := rfl) (h3 := rfl))
    | split
    | dsimp only
    | refine Kept.ite ?_ ?_
    | refine KeptOut.ite ?_ ?_

theorem kept_execArrFailMember (a : ArrayId) (m : Nat) (s : State) : KeptOut [Fld.ARR_CMD.CMD, Fld.ARR_STATE.LOST_OVERFLOW, Fld.HFE_DWE_STATUS.ENTRIES, Fld.HFE_DWE_STATUS.OVERFLOW, Fld.MIRROR_BYTES, Fld.RBE_LOST_COUNT.ENTRIES, Fld.RBE_LOST_COUNT.OVERFLOW, Fld.SYS_BUS_ADDR.OFFSET, Fld.SYS_BUS_STATUS.ERR, Fld.SYS_BUS_STATUS.IFACE, Fld.SYS_BUS_STATUS.REASON] s (execArrFailMember a m s) := by
  unfold execArrFailMember
  try dsimp only
  repeat' first
    | exact (rfl : (_ : Bool) = _)
    | with_reducible exact Kept.refl
    | with_reducible assumption
    | with_reducible refine KeptOut.next ?_
    | with_reducible refine KeptOut.ite ?_ ?_
    | with_reducible refine KeptOut.command rfl Kept.refl ?_
    | with_reducible refine Kept.ite ?_ ?_
    | with_reducible apply Kept.step (kept_State_arrIgnored _ _ _)
    | with_reducible apply Kept.step (kept_State_failMember _ _ _ _)
    | (dsimp only [Kept.mk_form]; with_reducible apply KeptMk.intro (_h0 := rfl) (h3 := rfl))
    | split
    | refine Kept.ite ?_ ?_
    | refine KeptOut.ite ?_ ?_

theorem kept_execArrCopyback (a : ArrayId) (s : State) : KeptOut [Fld.ARR_CMD.CMD, Fld.SYS_BUS_ADDR.OFFSET, Fld.SYS_BUS_STATUS.ERR, Fld.SYS_BUS_STATUS.IFACE, Fld.SYS_BUS_STATUS.REASON] s (execArrCopyback a s) := by
  unfold execArrCopyback
  try dsimp only
  repeat' first
    | exact (rfl : (_ : Bool) = _)
    | with_reducible exact Kept.refl
    | with_reducible assumption
    | with_reducible refine KeptOut.next ?_
    | with_reducible refine KeptOut.ite ?_ ?_
    | with_reducible refine KeptOut.command rfl Kept.refl ?_
    | with_reducible refine Kept.ite ?_ ?_
    | with_reducible apply Kept.step (kept_State_arrIgnored _ _ _)
    | with_reducible apply Kept.step (kept_State_putArr _ _ _)
    | (dsimp only [Kept.mk_form]; with_reducible apply KeptMk.intro (_h0 := rfl) (h3 := rfl))
    | split
    | refine Kept.ite ?_ ?_
    | refine KeptOut.ite ?_ ?_


/-! ### Machine/Dma.lean -/

theorem kept_execDmaStart (iface : Iface) (ch : ChId) (s : State) : KeptOut [Fld.CH_BYTES, Fld.CH_CMD.START, Fld.CH_CUR_DESC.ADDR, Fld.CH_MISSED_COUNT, Fld.CH_STATUS.HALT_CODE, Fld.CH_STATUS.MISSED, Fld.CH_STATUS.PENDING, Fld.CH_STATUS.STATE, Fld.SYS_BUS_ADDR.OFFSET, Fld.SYS_BUS_STATUS.ERR, Fld.SYS_BUS_STATUS.IFACE, Fld.SYS_BUS_STATUS.REASON] s (execDmaStart iface ch s) := by
  unfold execDmaStart
  try dsimp only
  repeat' first
    | exact (rfl : (_ : Bool) = _)
    | with_reducible exact Kept.refl
    | with_reducible refine KeptOut.next ?_
    | with_reducible refine KeptOut.ite ?_ ?_
    | with_reducible refine KeptOut.command rfl Kept.refl ?_
    | with_reducible refine Kept.ite ?_ ?_
    | with_reducible apply Kept.step (kept_State_busError _ _ _ _)
    | with_reducible apply Kept.step (kept_State_dmaTrigger _ _ _)
    | split
    | refine Kept.ite ?_ ?_
    | refine KeptOut.ite ?_ ?_

theorem kept_execDmaTimer (ch : ChId) (s : State) : KeptOut [Fld.CH_BYTES, Fld.CH_CUR_DESC.ADDR, Fld.CH_MISSED_COUNT, Fld.CH_STATUS.HALT_CODE, Fld.CH_STATUS.MISSED, Fld.CH_STATUS.PENDING, Fld.CH_STATUS.STATE] s (execDmaTimer ch s) := by
  unfold execDmaTimer
  try dsimp only
  repeat' first
    | exact (rfl : (_ : Bool) = _)
    | with_reducible exact Kept.refl
    | with_reducible refine KeptOut.next ?_
    | with_reducible refine KeptOut.ite ?_ ?_
    | with_reducible refine Kept.ite ?_ ?_
    | with_reducible apply Kept.step (kept_State_dmaTrigger _ _ _)
    | split
    | refine Kept.ite ?_ ?_
    | refine KeptOut.ite ?_ ?_

theorem kept_execDmaDescFetch (ch : ChId) (bytes : List Nat) (s : State) : KeptOut [Fld.CH_BAD_COUNT, Fld.CH_BYTES, Fld.CH_CUR_DESC.ADDR, Fld.CH_STATUS.BAD_SEEN, Fld.CH_STATUS.HALT_CODE, Fld.CH_STATUS.PENDING, Fld.CH_STATUS.STATE, Fld.DMA_IRQ] s (execDmaDescFetch ch bytes s) := by
  unfold execDmaDescFetch
  try dsimp only
  repeat' first
    | exact (rfl : (_ : Bool) = _)
    | with_reducible exact Kept.refl
    | with_reducible assumption
    | with_reducible refine KeptOut.next ?_
    | with_reducible refine KeptOut.ite ?_ ?_
    | with_reducible refine Kept.ite ?_ ?_
    | with_reducible apply Kept.step (kept_State_dmaBad _ _ _ _ _)
    | with_reducible apply Kept.step (kept_State_dmaErrIrq _ _)
    | with_reducible apply Kept.step (kept_State_dmaHalted _ _ _)
    | with_reducible apply Kept.step (kept_State_setChState _ _ _)
    | with_reducible apply Kept.step (kept_State_withDma _ _)
    | (dsimp only [Kept.mk_form]; with_reducible apply KeptMk.intro (_h0 := rfl) (h3 := rfl))
    | split
    | refine Kept.ite ?_ ?_
    | refine KeptOut.ite ?_ ?_

theorem kept_execDmaGrant (ch : ChId) (src : List Nat) (s : State) : KeptOut [Fld.CH_BYTES, Fld.DMA_BYTES] s (execDmaGrant ch src s) := by
  unfold execDmaGrant
  try dsimp only
  repeat' first
    | exact (rfl : (_ : Bool) = _)
    | with_reducible exact Kept.refl
    | with_reducible assumption
    | with_reducible refine KeptOut.next ?_
    | with_reducible refine KeptOut.ite ?_ ?_
    | with_reducible refine Kept.ite ?_ ?_
    | with_reducible apply Kept.setFldAt
    | with_reducible apply Kept.setFld
    | with_reducible apply Kept.incFldAt
    | with_reducible apply Kept.incFld
    | with_reducible apply Kept.step (kept_State_dmaStore _ _ _ _)
    | with_reducible apply Kept.step (kept_State_hold _ _)
    | with_reducible apply Kept.step (kept_State_withDma _ _)
    | with_reducible refine Kept.foldl (fun _ _ _ => ?_) ?_
    | (dsimp only [Kept.mk_form]; with_reducible apply KeptMk.intro (_h0 := rfl) (h3 := rfl))
    | split
    | refine Kept.ite ?_ ?_
    | refine KeptOut.ite ?_ ?_

theorem kept_execDmaReadBack (ch : ChId) (ok : Bool) (s : State) : KeptOut [Fld.CH_BAD_COUNT, Fld.CH_BYTES, Fld.CH_CUR_DESC.ADDR, Fld.CH_DONE_COUNT, Fld.CH_MISSED_COUNT, Fld.CH_STATUS.BAD_SEEN, Fld.CH_STATUS.HALT_CODE, Fld.CH_STATUS.MISSED, Fld.CH_STATUS.PENDING, Fld.CH_STATUS.STATE, Fld.DMA_IRQ] s (execDmaReadBack ch ok s) := by
  unfold execDmaReadBack
  try dsimp only
  repeat' first
    | exact (rfl : (_ : Bool) = _)
    | with_reducible exact Kept.refl
    | with_reducible assumption
    | with_reducible refine KeptOut.next ?_
    | with_reducible refine KeptOut.ite ?_ ?_
    | with_reducible refine Kept.ite ?_ ?_
    | with_reducible apply Kept.step (kept_State_dmaBad _ _ _ _ _)
    | with_reducible apply Kept.step (kept_State_dmaDone _ _ _)
    | with_reducible apply Kept.step (kept_State_used _)
    | (dsimp only [Kept.mk_form]; with_reducible apply KeptMk.intro (_h0 := rfl) (h3 := rfl))
    | split
    | refine Kept.ite ?_ ?_
    | refine KeptOut.ite ?_ ?_

theorem kept_execDmaBusError (ch : ChId) (dest : Bool) (confirmed : Nat) (s : State) : KeptOut [Fld.CH_BAD_COUNT, Fld.CH_BYTES, Fld.CH_CUR_DESC.ADDR, Fld.CH_STATUS.BAD_SEEN, Fld.CH_STATUS.HALT_CODE, Fld.CH_STATUS.PENDING, Fld.CH_STATUS.STATE, Fld.DMA_IRQ] s (execDmaBusError ch dest confirmed s) := by
  unfold execDmaBusError
  try dsimp only
  repeat' first
    | exact (rfl : (_ : Bool) = _)
    | with_reducible exact Kept.refl
    | with_reducible assumption
    | with_reducible refine KeptOut.next ?_
    | with_reducible refine KeptOut.ite ?_ ?_
    | with_reducible refine Kept.ite ?_ ?_
    | with_reducible apply Kept.step (kept_State_dmaBad _ _ _ _ _)
    | with_reducible apply Kept.step (kept_State_dmaLoose _ _ _ _)
    | (dsimp only [Kept.mk_form]; with_reducible apply KeptMk.intro (_h0 := rfl) (h3 := rfl))
    | split
    | refine Kept.ite ?_ ?_
    | refine KeptOut.ite ?_ ?_

theorem kept_execDmaHalt (ch : ChId) (code : Nat) (s : State) : KeptOut [Fld.CH_STATUS.HALT_CODE, Fld.CH_STATUS.STATE, Fld.DMA_IRQ] s (execDmaHalt ch code s) := by
  unfold execDmaHalt
  try dsimp only
  repeat' first
    | exact (rfl : (_ : Bool) = _)
    | with_reducible exact Kept.refl
    | with_reducible assumption
    | with_reducible refine KeptOut.next ?_
    | with_reducible refine KeptOut.ite ?_ ?_
    | with_reducible refine Kept.ite ?_ ?_
    | with_reducible apply Kept.step (kept_State_dmaHalted _ _ _)
    | (dsimp only [Kept.mk_form]; with_reducible apply KeptMk.intro (_h0 := rfl) (h3 := rfl))
    | split
    | refine Kept.ite ?_ ?_
    | refine KeptOut.ite ?_ ?_

theorem kept_execDmaDisable (iface : Iface) (ch : ChId) (s : State) : KeptOut [Fld.CH_BYTES, Fld.CH_CTRL.EN, Fld.CH_STATUS.DISABLED_MIDWAY, Fld.CH_STATUS.PENDING, Fld.CH_STATUS.STATE, Fld.SYS_BUS_ADDR.OFFSET, Fld.SYS_BUS_STATUS.ERR, Fld.SYS_BUS_STATUS.IFACE, Fld.SYS_BUS_STATUS.REASON] s (execDmaDisable iface ch s) := by
  unfold execDmaDisable
  try dsimp only
  repeat' first
    | exact (rfl : (_ : Bool) = _)
    | with_reducible exact Kept.refl
    | with_reducible refine KeptOut.next ?_
    | with_reducible refine KeptOut.ite ?_ ?_
    | with_reducible refine Kept.ite ?_ ?_
    | with_reducible apply Kept.step (kept_State_busError _ _ _ _)
    | with_reducible apply Kept.step (kept_State_dmaDrop _ _)
    | split
    | refine Kept.ite ?_ ?_
    | refine KeptOut.ite ?_ ?_

theorem kept_execDmaWinEnable (iface : Iface) (win : WinId) (ctrl : Nat) (s : State) : KeptOut [Fld.SYS_BUS_ADDR.OFFSET, Fld.SYS_BUS_STATUS.ERR, Fld.SYS_BUS_STATUS.IFACE, Fld.SYS_BUS_STATUS.REASON, Fld.WIN_BASE.ADDR, Fld.WIN_CTRL.EN, Fld.WIN_CTRL.ERR, Fld.WIN_CTRL.READ, Fld.WIN_CTRL.SPACE, Fld.WIN_CTRL.WRITE, Fld.WIN_LIMIT.ADDR] s (execDmaWinEnable iface win ctrl s) := by
  unfold execDmaWinEnable
  try dsimp only
  repeat' first
    | exact (rfl : (_ : Bool) = _)
    | with_reducible exact Kept.refl
    | with_reducible refine KeptOut.next ?_
    | with_reducible refine KeptOut.ite ?_ ?_
    | with_reducible refine Kept.ite ?_ ?_
    | with_reducible apply Kept.step (kept_State_busError _ _ _ _)
    | with_reducible apply Kept.step (kept_State_winCtrl _ _ _)
    | split
    | refine Kept.ite ?_ ?_
    | refine KeptOut.ite ?_ ?_


/-! ### Machine/Ports.lean -/

theorem kept_State_portIgnored (s : State) (p : PortId) (cmd : Nat) : Kept [] s (State.portIgnored s p cmd) := by
  unfold State.portIgnored
  try dsimp only
  repeat' first
    | exact (rfl : (_ : Bool) = _)
    | with_reducible exact Kept.refl
    | with_reducible apply Kept.step (kept_State_emit _ _ _)
    | dsimp only

theorem kept_execDrivePresent (port : PortId) (s : State) : KeptOut [Fld.LINK_STATUS.PRESENT, Fld.PORT_STATE.STATE] s (execDrivePresent port s) := by
  unfold execDrivePresent
  try dsimp only
  repeat' first
    | exact (rfl : (_ : Bool) = _)
    | with_reducible exact Kept.refl
    | with_reducible refine KeptOut.next ?_
    | with_reducible refine KeptOut.ite ?_ ?_
    | with_reducible refine Kept.ite ?_ ?_
    | with_reducible apply Kept.setBitAt
    | with_reducible apply Kept.setBit
    | with_reducible apply Kept.step (kept_State_setPortState _ _ _)
    | split
    | refine Kept.ite ?_ ?_
    | refine KeptOut.ite ?_ ?_

theorem kept_State_rejectDrive (s : State) (p : PortId) (reason : Nat) : Kept [Fld.PORT_STATE.REJECT_REASON, Fld.PORT_STATE.STATE] s (State.rejectDrive s p reason) := by
  unfold State.rejectDrive
  try dsimp only
  repeat' first
    | exact (rfl : (_ : Bool) = _)
    | with_reducible exact Kept.refl
    | with_reducible apply Kept.setFldAt
    | with_reducible apply Kept.setFld
    | with_reducible apply Kept.step (kept_State_setPortState _ _ _)

theorem kept_State_portReady (s : State) (p : PortId) : Kept [Fld.PORT_STATE.REJECT_REASON, Fld.PORT_STATE.STATE] s (State.portReady s p) := by
  unfold State.portReady
  try dsimp only
  repeat' first
    | exact (rfl : (_ : Bool) = _)
    | with_reducible exact Kept.refl
    | with_reducible apply Kept.setFldAt
    | with_reducible apply Kept.setFld
    | with_reducible apply Kept.step (kept_State_putPort _ _ _)
    | with_reducible apply Kept.step (kept_State_setPortState _ _ _)
    | (dsimp only [Kept.mk_form]; with_reducible apply KeptMk.intro (_h0 := rfl) (h3 := rfl))

theorem kept_State_takeNewDrive (s : State) (p : PortId) (a : ArrayId) : Kept [Fld.PORT_STATE.REJECT_REASON, Fld.PORT_STATE.STATE] s (State.takeNewDrive s p a) := by
  unfold State.takeNewDrive
  try dsimp only
  repeat' first
    | exact (rfl : (_ : Bool) = _)
    | with_reducible exact Kept.refl
    | with_reducible refine Kept.ite ?_ ?_
    | with_reducible apply Kept.step (kept_State_portReady _ _)
    | with_reducible apply Kept.step (kept_State_putMedia _ _ _)
    | with_reducible apply Kept.step (kept_State_rewriteLabels _ _)
    | (dsimp only [Kept.mk_form]; with_reducible apply KeptMk.intro (_h0 := rfl) (h3 := rfl))
    | split
    | dsimp only
    | refine Kept.ite ?_ ?_

theorem kept_State_compareLabel (s : State) (p : PortId) (d : DriveInfo) : Kept [] s (State.compareLabel s p d) := by
  unfold State.compareLabel
  try dsimp only
  repeat' first
    | exact (rfl : (_ : Bool) = _)
    | with_reducible exact Kept.refl
    | with_reducible assumption
    | with_reducible refine Kept.ite ?_ ?_
    | with_reducible apply Kept.step (kept_State_emit _ _ _)
    | with_reducible apply Kept.step (kept_State_putArr _ _ _)
    | with_reducible apply Kept.step (kept_State_rewriteLabels _ _)
    | (dsimp only [Kept.mk_form]; with_reducible apply KeptMk.intro (_h0 := rfl) (h3 := rfl))
    | split
    | dsimp only
    | refine Kept.ite ?_ ?_

theorem kept_State_placeDrive (s : State) (p : PortId) (d : Drive) (accept : Bool) : Kept [Fld.PORT_STATE.REJECT_REASON, Fld.PORT_STATE.STATE] s (State.placeDrive s p d accept) := by
  unfold State.placeDrive
  try dsimp only
  repeat' first
    | exact (rfl : (_ : Bool) = _)
    | with_reducible exact Kept.refl
    | with_reducible assumption
    | with_reducible refine Kept.ite ?_ ?_
    | with_reducible apply Kept.step (kept_State_admitReplacement _ _ _ _)
    | with_reducible apply Kept.step (kept_State_emit _ _ _)
    | with_reducible apply Kept.step (kept_State_portReady _ _)
    | with_reducible apply Kept.step (kept_State_putPort _ _ _)
    | with_reducible apply Kept.step (kept_State_rejectDrive _ _ _)
    | with_reducible apply Kept.step (kept_State_setPortState _ _ _)
    | with_reducible apply Kept.step (kept_State_takeNewDrive _ _ _)
    | (dsimp only [Kept.mk_form]; with_reducible apply KeptMk.intro (_h0 := rfl) (h3 := rfl))
    | split
    | dsimp only
    | refine Kept.ite ?_ ?_

theorem kept_execDriveIdentified (port : PortId) (d : DriveInfo) (s : State) : KeptOut [Fld.CAPACITY, Fld.DRIVE_SERIAL, Fld.LINK_STATUS.DUAL_PORT, Fld.LINK_STATUS.LINK_UP, Fld.LINK_STATUS.PRESENT, Fld.LINK_STATUS.RATE, Fld.LINK_STATUS.WIDTH, Fld.PORT_STATE.REJECT_REASON, Fld.PORT_STATE.STATE] s (execDriveIdentified port d s) := by
  unfold execDriveIdentified
  try dsimp only
  repeat' first
    | exact (rfl : (_ : Bool) = _)
    | with_reducible exact Kept.refl
    | with_reducible refine KeptOut.next ?_
    | with_reducible refine KeptOut.ite ?_ ?_
    | with_reducible refine Kept.ite ?_ ?_
    | with_reducible apply Kept.setFldAt
    | with_reducible apply Kept.setFld
    | with_reducible apply Kept.setBitAt
    | with_reducible apply Kept.setBit
    | with_reducible apply Kept.step (kept_State_compareLabel _ _ _)
    | with_reducible apply Kept.step (kept_State_placeDrive _ _ _ _)
    | with_reducible apply Kept.step (kept_State_putPort _ _ _)
    | with_reducible apply Kept.step (kept_State_rejectDrive _ _ _)
    | (dsimp only [Kept.mk_form]; with_reducible apply KeptMk.intro (_h0 := rfl) (h3 := rfl))
    | split
    | refine Kept.ite ?_ ?_
    | refine KeptOut.ite ?_ ?_

theorem kept_execDriveLinkLoss (port : PortId) (gone : Bool) (s : State) : KeptOut [Fld.ARR_STATE.LOST_OVERFLOW, Fld.CAPACITY, Fld.DRIVE_SERIAL, Fld.ERR_INFO.DRIVE_STATUS, Fld.ERR_INFO.KIND, Fld.ERR_INFO.SLOT, Fld.HFE_DWE_STATUS.ENTRIES, Fld.HFE_DWE_STATUS.OVERFLOW, Fld.LINK_STATUS.LINK_UP, Fld.LINK_STATUS.PRESENT, Fld.LINK_STATUS.RATE, Fld.LINK_STATUS.WIDTH, Fld.MIRROR_BYTES, Fld.OUTSTANDING.C0_SLOTS, Fld.OUTSTANDING.SLOTS, Fld.PORT_STATE.STATE, Fld.RBE_LOST_COUNT.ENTRIES, Fld.RBE_LOST_COUNT.OVERFLOW, Fld.RETRY_COUNT, Fld.WRITE_GATE_ABORTS] s (execDriveLinkLoss port gone s) := by
  unfold execDriveLinkLoss
  try dsimp only
  repeat' first
    | exact (rfl : (_ : Bool) = _)
    | with_reducible exact Kept.refl
    | with_reducible refine KeptOut.next ?_
    | with_reducible apply Kept.setBitAt
    | with_reducible apply Kept.setBit
    | with_reducible apply Kept.step (kept_State_linkLoss _ _)

theorem kept_State_indexAbsent (s : State) (a : ArrayId) (m : Nat) (p : PortId) : Kept [Fld.ARR_STATE.LOST_OVERFLOW, Fld.HFE_DWE_STATUS.ENTRIES, Fld.HFE_DWE_STATUS.OVERFLOW, Fld.MIRROR_BYTES, Fld.RBE_LOST_COUNT.ENTRIES, Fld.RBE_LOST_COUNT.OVERFLOW] s (State.indexAbsent s a m p) := by
  unfold State.indexAbsent
  try dsimp only
  repeat' first
    | exact (rfl : (_ : Bool) = _)
    | with_reducible exact Kept.refl
    | with_reducible assumption
    | with_reducible refine Kept.ite ?_ ?_
    | with_reducible apply Kept.step (kept_State_dropMember _ _ _ _ _)
    | with_reducible apply Kept.step (kept_State_failMember _ _ _ _)
    | (dsimp only [Kept.mk_form]; with_reducible apply KeptMk.intro (_h0 := rfl) (h3 := rfl))
    | split
    | dsimp only
    | refine Kept.ite ?_ ?_

theorem kept_execRemovalTimeout (port : PortId) (s : State) : KeptOut [Fld.ARR_STATE.LOST_OVERFLOW, Fld.HFE_DWE_STATUS.ENTRIES, Fld.HFE_DWE_STATUS.OVERFLOW, Fld.MIRROR_BYTES, Fld.PORT_STATE.REJECT_REASON, Fld.PORT_STATE.STATE, Fld.RBE_LOST_COUNT.ENTRIES, Fld.RBE_LOST_COUNT.OVERFLOW] s (execRemovalTimeout port s) := by
  unfold execRemovalTimeout
  try dsimp only
  repeat' first
    | exact (rfl : (_ : Bool) = _)
    | with_reducible exact Kept.refl
    | with_reducible assumption
    | with_reducible refine KeptOut.next ?_
    | with_reducible refine KeptOut.ite ?_ ?_
    | with_reducible refine Kept.ite ?_ ?_
    | with_reducible apply Kept.step (kept_State_failMember _ _ _ _)
    | with_reducible apply Kept.step (kept_State_indexAbsent _ _ _ _)
    | with_reducible apply Kept.step (kept_State_placeDrive _ _ _ _)
    | with_reducible apply Kept.step (kept_State_putPort _ _ _)
    | with_reducible apply Kept.step (kept_State_setPortState _ _ _)
    | (dsimp only [Kept.mk_form]; with_reducible apply KeptMk.intro (_h0 := rfl) (h3 := rfl))
    | split
    | dsimp only
    | refine Kept.ite ?_ ?_
    | refine KeptOut.ite ?_ ?_

theorem kept_execSpinupDelayExpiry (port : PortId) (s : State) : KeptOut [Fld.LINK_STATUS.PWREN, Fld.PORT_STATE.STATE] s (execSpinupDelayExpiry port s) := by
  unfold execSpinupDelayExpiry
  try dsimp only
  repeat' first
    | exact (rfl : (_ : Bool) = _)
    | with_reducible exact Kept.refl
    | with_reducible refine KeptOut.next ?_
    | with_reducible refine KeptOut.ite ?_ ?_
    | with_reducible refine Kept.ite ?_ ?_
    | with_reducible apply Kept.step (kept_State_powerUpPort _ _)
    | split
    | refine Kept.ite ?_ ?_
    | refine KeptOut.ite ?_ ?_

theorem kept_execSpinupPluckTimeout (port : PortId) (s : State) : KeptOut [] s (execSpinupPluckTimeout port s) := by
  unfold execSpinupPluckTimeout
  try dsimp only
  repeat' first
    | exact (rfl : (_ : Bool) = _)
    | with_reducible exact Kept.refl
    | with_reducible refine KeptOut.next ?_
    | with_reducible refine KeptOut.ite ?_ ?_
    | with_reducible refine Kept.ite ?_ ?_
    | with_reducible apply Kept.step (kept_State_emit _ _ _)
    | with_reducible apply Kept.step (kept_State_putPort _ _ _)
    | (dsimp only [Kept.mk_form]; with_reducible apply KeptMk.intro (_h0 := rfl) (h3 := rfl))
    | split
    | dsimp only
    | refine Kept.ite ?_ ?_
    | refine KeptOut.ite ?_ ?_

theorem kept_execSpinupWaitExpiry (port : PortId) (s : State) : KeptOut [Fld.PORT_STATE.REJECT_REASON, Fld.PORT_STATE.STATE] s (execSpinupWaitExpiry port s) := by
  unfold execSpinupWaitExpiry
  try dsimp only
  repeat' first
    | exact (rfl : (_ : Bool) = _)
    | with_reducible exact Kept.refl
    | with_reducible refine KeptOut.next ?_
    | with_reducible refine KeptOut.ite ?_ ?_
    | with_reducible refine Kept.ite ?_ ?_
    | with_reducible apply Kept.step (kept_State_rejectDrive _ _ _)
    | split
    | refine Kept.ite ?_ ?_
    | refine KeptOut.ite ?_ ?_

theorem kept_execMemberCommandIssue (port : PortId) (pick : Cls) (s : State) : KeptOut [Fld.OUTSTANDING.C0_SLOTS, Fld.OUTSTANDING.SLOTS] s (execMemberCommandIssue port pick s) := by
  unfold execMemberCommandIssue
  try dsimp only
  repeat' first
    | exact (rfl : (_ : Bool) = _)
    | with_reducible exact Kept.refl
    | with_reducible assumption
    | with_reducible refine KeptOut.next ?_
    | with_reducible refine KeptOut.ite ?_ ?_
    | with_reducible refine Kept.ite ?_ ?_
    | with_reducible apply Kept.step (kept_State_countSlots _ _)
    | with_reducible apply Kept.step (kept_State_putPort _ _ _)
    | with_reducible apply Kept.step (kept_State_stampCmd _ _ _)
    | (dsimp only [Kept.mk_form]; with_reducible apply KeptMk.intro (_h0 := rfl) (h3 := rfl))
    | split
    | dsimp only
    | refine Kept.ite ?_ ?_
    | refine KeptOut.ite ?_ ?_

theorem kept_State_written (s : State) (port : PortId) (c : MCmd) : Kept [Fld.ARR_STATE.LOST_OVERFLOW, Fld.RBE_LOST_COUNT.ENTRIES, Fld.RBE_LOST_COUNT.OVERFLOW] s (State.written s port c) := by
  unfold State.written
  try dsimp only
  repeat' first
    | exact (rfl : (_ : Bool) = _)
    | with_reducible exact Kept.refl
    | with_reducible assumption
    | with_reducible apply Kept.step (kept_State_dataWritten _ _ _ _)
    | with_reducible apply Kept.step (kept_State_labelWritten _ _ _ _ _)
    | with_reducible apply Kept.step (kept_State_tagsWritten _ _ _)
    | (dsimp only [Kept.mk_form]; with_reducible apply KeptMk.intro (_h0 := rfl) (h3 := rfl))
    | split
    | dsimp only

theorem kept_execMemberCompletion (port : PortId) (slot : Nat) (res : McResult) (s : State) : KeptOut [Fld.ARR_STATE.LOST_OVERFLOW, Fld.CAPACITY, Fld.DRIVE_SERIAL, Fld.ERR_INFO.DRIVE_STATUS, Fld.ERR_INFO.KIND, Fld.ERR_INFO.SLOT, Fld.HFE_DWE_STATUS.ENTRIES, Fld.HFE_DWE_STATUS.OVERFLOW, Fld.HFE_LATE_DROP_COUNT, Fld.HFE_LATE_DROP_INFO.GEN, Fld.HFE_LATE_DROP_INFO.INDEX, Fld.HFE_LATE_DROP_INFO.PORT, Fld.LAT_SUPERSEDED, Fld.LINK_STATUS.LINK_UP, Fld.LINK_STATUS.PWREN, Fld.LINK_STATUS.RATE, Fld.LINK_STATUS.WIDTH, Fld.MEDIA_ERR_COUNT, Fld.MIRROR_BYTES, Fld.OUTSTANDING.C0_SLOTS, Fld.OUTSTANDING.SLOTS, Fld.PORT_STATE.STATE, Fld.RBE_LOST_COUNT.ENTRIES, Fld.RBE_LOST_COUNT.OVERFLOW, Fld.READ_COUNT, Fld.RESET_COUNT, Fld.RETRY_COUNT, Fld.SLOT_LATE_COUNT, Fld.TIMEOUT_COUNT, Fld.WRITE_COUNT, Fld.WRITE_GATE_ABORTS] s (execMemberCompletion port slot res s) := by
  unfold execMemberCompletion
  try dsimp only
  repeat' first
    | exact (rfl : (_ : Bool) = _)
    | with_reducible exact Kept.refl
    | with_reducible assumption
    | with_reducible refine KeptOut.next ?_
    | with_reducible refine KeptOut.ite ?_ ?_
    | with_reducible refine Kept.ite ?_ ?_
    | with_reducible apply Kept.incFldAt
    | with_reducible apply Kept.incFld
    | with_reducible apply Kept.step (kept_State_avoidMember _ _ _)
    | with_reducible apply Kept.step (kept_State_dropSlot _ _ _)
    | with_reducible apply Kept.step (kept_State_emit _ _ _)
    | with_reducible apply Kept.step (kept_State_errInfo _ _ _ _ _)
    | with_reducible apply Kept.step (kept_State_lateDrop _ _ _)
    | with_reducible apply Kept.step (kept_State_mediaErr _ _ _)
    | with_reducible apply Kept.step (kept_State_portTimeout _ _ _ _ _)
    | with_reducible apply Kept.step (kept_State_retry _ _ _)
    | with_reducible apply Kept.step (kept_State_spoil _ _ _ _)
    | with_reducible apply Kept.step (kept_State_stampCmd _ _ _)
    | with_reducible apply Kept.step (kept_State_written _ _ _)
    | (dsimp only [Kept.mk_form]; with_reducible apply KeptMk.intro (_h0 := rfl) (h3 := rfl))
    | split
    | dsimp only
    | refine Kept.ite ?_ ?_
    | refine KeptOut.ite ?_ ?_

theorem kept_execMemberTimeout (port : PortId) (slot : Nat) (s : State) : KeptOut [Fld.ARR_STATE.LOST_OVERFLOW, Fld.CAPACITY, Fld.DRIVE_SERIAL, Fld.ERR_INFO.DRIVE_STATUS, Fld.ERR_INFO.KIND, Fld.ERR_INFO.SLOT, Fld.HFE_DWE_STATUS.ENTRIES, Fld.HFE_DWE_STATUS.OVERFLOW, Fld.LINK_STATUS.LINK_UP, Fld.LINK_STATUS.PWREN, Fld.LINK_STATUS.RATE, Fld.LINK_STATUS.WIDTH, Fld.MIRROR_BYTES, Fld.OUTSTANDING.C0_SLOTS, Fld.OUTSTANDING.SLOTS, Fld.PORT_STATE.STATE, Fld.RBE_LOST_COUNT.ENTRIES, Fld.RBE_LOST_COUNT.OVERFLOW, Fld.RESET_COUNT, Fld.RETRY_COUNT, Fld.TIMEOUT_COUNT, Fld.WRITE_GATE_ABORTS] s (execMemberTimeout port slot s) := by
  unfold execMemberTimeout
  try dsimp only
  repeat' first
    | exact (rfl : (_ : Bool) = _)
    | with_reducible exact Kept.refl
    | with_reducible assumption
    | with_reducible refine KeptOut.next ?_
    | with_reducible apply Kept.step (kept_State_portTimeout _ _ _ _ _)
    | (dsimp only [Kept.mk_form]; with_reducible apply KeptMk.intro (_h0 := rfl) (h3 := rfl))
    | split

theorem kept_execEscalationStepDone (port : PortId) (s : State) : KeptOut [Fld.ARR_STATE.LOST_OVERFLOW, Fld.HFE_DWE_STATUS.ENTRIES, Fld.HFE_DWE_STATUS.OVERFLOW, Fld.MIRROR_BYTES, Fld.OUTSTANDING.C0_SLOTS, Fld.OUTSTANDING.SLOTS, Fld.PORT_STATE.STATE, Fld.RBE_LOST_COUNT.ENTRIES, Fld.RBE_LOST_COUNT.OVERFLOW, Fld.RETRY_COUNT] s (execEscalationStepDone port s) := by
  unfold execEscalationStepDone
  try dsimp only
  repeat' first
    | exact (rfl : (_ : Bool) = _)
    | with_reducible exact Kept.refl
    | with_reducible assumption
    | with_reducible refine KeptOut.next ?_
    | with_reducible refine KeptOut.ite ?_ ?_
    | with_reducible refine Kept.ite ?_ ?_
    | with_reducible apply Kept.step (kept_State_dropSlot _ _ _)
    | with_reducible apply Kept.step (kept_State_putPort _ _ _)
    | with_reducible apply Kept.step (kept_State_retry _ _ _)
    | with_reducible apply Kept.step (kept_State_setPortState _ _ _)
    | (dsimp only [Kept.mk_form]; with_reducible apply KeptMk.intro (_h0 := rfl) (h3 := rfl))
    | split
    | refine Kept.ite ?_ ?_
    | refine KeptOut.ite ?_ ?_

theorem kept_execEscalationStepTimeout (port : PortId) (s : State) : KeptOut [Fld.ARR_STATE.LOST_OVERFLOW, Fld.CAPACITY, Fld.DRIVE_SERIAL, Fld.ERR_INFO.DRIVE_STATUS, Fld.ERR_INFO.KIND, Fld.ERR_INFO.SLOT, Fld.HFE_DWE_STATUS.ENTRIES, Fld.HFE_DWE_STATUS.OVERFLOW, Fld.LINK_STATUS.LINK_UP, Fld.LINK_STATUS.PWREN, Fld.LINK_STATUS.RATE, Fld.LINK_STATUS.WIDTH, Fld.MIRROR_BYTES, Fld.OUTSTANDING.C0_SLOTS, Fld.OUTSTANDING.SLOTS, Fld.PORT_STATE.STATE, Fld.RBE_LOST_COUNT.ENTRIES, Fld.RBE_LOST_COUNT.OVERFLOW, Fld.RESET_COUNT, Fld.RETRY_COUNT, Fld.WRITE_GATE_ABORTS] s (execEscalationStepTimeout port s) := by
  unfold execEscalationStepTimeout
  try dsimp only
  repeat' first
    | exact (rfl : (_ : Bool) = _)
    | with_reducible exact Kept.refl
    | with_reducible assumption
    | with_reducible refine KeptOut.next ?_
    | with_reducible apply Kept.step (kept_State_escalate _ _ _ _)
    | (dsimp only [Kept.mk_form]; with_reducible apply KeptMk.intro (_h0 := rfl) (h3 := rfl))
    | split

theorem kept_execHealthPoll (port : PortId) (s : State) : KeptOut [] s (execHealthPoll port s) := by
  unfold execHealthPoll
  try dsimp only
  repeat' first
    | exact (rfl : (_ : Bool) = _)
    | with_reducible exact Kept.refl
    | with_reducible refine KeptOut.next ?_
    | with_reducible refine KeptOut.ite ?_ ?_
    | with_reducible refine Kept.ite ?_ ?_
    | with_reducible apply Kept.step (kept_State_enqueue _ _ _)
    | split
    | dsimp only
    | refine Kept.ite ?_ ?_
    | refine KeptOut.ite ?_ ?_

theorem kept_State_cmdReset (s : State) (p : PortId) (step cmd : Nat) : Kept [Fld.ARR_STATE.LOST_OVERFLOW, Fld.CAPACITY, Fld.DRIVE_SERIAL, Fld.ERR_INFO.DRIVE_STATUS, Fld.ERR_INFO.KIND, Fld.ERR_INFO.SLOT, Fld.HFE_DWE_STATUS.ENTRIES, Fld.HFE_DWE_STATUS.OVERFLOW, Fld.LINK_STATUS.LINK_UP, Fld.LINK_STATUS.PWREN, Fld.LINK_STATUS.RATE, Fld.LINK_STATUS.WIDTH, Fld.MIRROR_BYTES, Fld.OUTSTANDING.C0_SLOTS, Fld.OUTSTANDING.SLOTS, Fld.PORT_STATE.STATE, Fld.RBE_LOST_COUNT.ENTRIES, Fld.RBE_LOST_COUNT.OVERFLOW, Fld.RESET_COUNT, Fld.RETRY_COUNT, Fld.WRITE_GATE_ABORTS] s (State.cmdReset s p step cmd) := by
  unfold State.cmdReset
  try dsimp only
  repeat' first
    | exact (rfl : (_ : Bool) = _)
    | with_reducible exact Kept.refl
    | with_reducible refine Kept.ite ?_ ?_
    | with_reducible apply Kept.step (kept_State_escalate _ _ _ _)
    | with_reducible apply Kept.step (kept_State_forgetDrive _ _)
    | with_reducible apply Kept.step (kept_State_portIgnored _ _ _)
    | with_reducible apply Kept.step (kept_State_putPort _ _ _)
    | (dsimp only [Kept.mk_form]; with_reducible apply KeptMk.intro (_h0 := rfl) (h3 := rfl))
    | split
    | refine Kept.ite ?_ ?_

theorem kept_execPortResetLink (port : PortId) (s : State) : KeptOut [Fld.ARR_STATE.LOST_OVERFLOW, Fld.CAPACITY, Fld.DRIVE_SERIAL, Fld.ERR_INFO.DRIVE_STATUS, Fld.ERR_INFO.KIND, Fld.ERR_INFO.SLOT, Fld.HFE_DWE_STATUS.ENTRIES, Fld.HFE_DWE_STATUS.OVERFLOW, Fld.LINK_STATUS.LINK_UP, Fld.LINK_STATUS.PWREN, Fld.LINK_STATUS.RATE, Fld.LINK_STATUS.WIDTH, Fld.MIRROR_BYTES, Fld.OUTSTANDING.C0_SLOTS, Fld.OUTSTANDING.SLOTS, Fld.PORT_CMD.CMD, Fld.PORT_STATE.STATE, Fld.RBE_LOST_COUNT.ENTRIES, Fld.RBE_LOST_COUNT.OVERFLOW, Fld.RESET_COUNT, Fld.RETRY_COUNT, Fld.SYS_BUS_ADDR.OFFSET, Fld.SYS_BUS_STATUS.ERR, Fld.SYS_BUS_STATUS.IFACE, Fld.SYS_BUS_STATUS.REASON, Fld.WRITE_GATE_ABORTS] s (execPortResetLink port s) := by
  unfold execPortResetLink
  try dsimp only
  repeat' first
    | exact (rfl : (_ : Bool) = _)
    | with_reducible exact Kept.refl
    | with_reducible refine KeptOut.next ?_
    | with_reducible refine KeptOut.command rfl Kept.refl ?_
    | with_reducible apply Kept.step (kept_State_cmdReset _ _ _ _)

theorem kept_execPortPowerCycle (port : PortId) (s : State) : KeptOut [Fld.ARR_STATE.LOST_OVERFLOW, Fld.CAPACITY, Fld.DRIVE_SERIAL, Fld.ERR_INFO.DRIVE_STATUS, Fld.ERR_INFO.KIND, Fld.ERR_INFO.SLOT, Fld.HFE_DWE_STATUS.ENTRIES, Fld.HFE_DWE_STATUS.OVERFLOW, Fld.LINK_STATUS.LINK_UP, Fld.LINK_STATUS.PWREN, Fld.LINK_STATUS.RATE, Fld.LINK_STATUS.WIDTH, Fld.MIRROR_BYTES, Fld.OUTSTANDING.C0_SLOTS, Fld.OUTSTANDING.SLOTS, Fld.PORT_CMD.CMD, Fld.PORT_STATE.STATE, Fld.RBE_LOST_COUNT.ENTRIES, Fld.RBE_LOST_COUNT.OVERFLOW, Fld.RESET_COUNT, Fld.RETRY_COUNT, Fld.SYS_BUS_ADDR.OFFSET, Fld.SYS_BUS_STATUS.ERR, Fld.SYS_BUS_STATUS.IFACE, Fld.SYS_BUS_STATUS.REASON, Fld.WRITE_GATE_ABORTS] s (execPortPowerCycle port s) := by
  unfold execPortPowerCycle
  try dsimp only
  repeat' first
    | exact (rfl : (_ : Bool) = _)
    | with_reducible exact Kept.refl
    | with_reducible refine KeptOut.next ?_
    | with_reducible refine KeptOut.command rfl Kept.refl ?_
    | with_reducible apply Kept.step (kept_State_cmdReset _ _ _ _)

theorem kept_execPortAccept (port : PortId) (s : State) : KeptOut [Fld.PORT_CMD.CMD, Fld.PORT_STATE.REJECT_REASON, Fld.PORT_STATE.STATE, Fld.SYS_BUS_ADDR.OFFSET, Fld.SYS_BUS_STATUS.ERR, Fld.SYS_BUS_STATUS.IFACE, Fld.SYS_BUS_STATUS.REASON] s (execPortAccept port s) := by
  unfold execPortAccept
  try dsimp only
  repeat' first
    | exact (rfl : (_ : Bool) = _)
    | with_reducible exact Kept.refl
    | with_reducible assumption
    | with_reducible refine KeptOut.next ?_
    | with_reducible refine KeptOut.ite ?_ ?_
    | with_reducible refine KeptOut.command rfl Kept.refl ?_
    | with_reducible refine Kept.ite ?_ ?_
    | with_reducible apply Kept.step (kept_State_placeDrive _ _ _ _)
    | with_reducible apply Kept.step (kept_State_portIgnored _ _ _)
    | (dsimp only [Kept.mk_form]; with_reducible apply KeptMk.intro (_h0 := rfl) (h3 := rfl))
    | split
    | refine Kept.ite ?_ ?_
    | refine KeptOut.ite ?_ ?_

theorem kept_execPortRelease (port : PortId) (s : State) : KeptOut [Fld.CAPACITY, Fld.DRIVE_SERIAL, Fld.LINK_STATUS.LINK_UP, Fld.LINK_STATUS.PWREN, Fld.LINK_STATUS.RATE, Fld.LINK_STATUS.WIDTH, Fld.OUTSTANDING.C0_SLOTS, Fld.OUTSTANDING.SLOTS, Fld.PORT_CMD.CMD, Fld.PORT_STATE.STATE, Fld.SYS_BUS_ADDR.OFFSET, Fld.SYS_BUS_STATUS.ERR, Fld.SYS_BUS_STATUS.IFACE, Fld.SYS_BUS_STATUS.REASON] s (execPortRelease port s) := by
  unfold execPortRelease
  try dsimp only
  repeat' first
    | exact (rfl : (_ : Bool) = _)
    | with_reducible exact Kept.refl
    | with_reducible assumption
    | with_reducible refine KeptOut.next ?_
    | with_reducible refine KeptOut.ite ?_ ?_
    | with_reducible refine KeptOut.command rfl Kept.refl ?_
    | with_reducible refine Kept.ite ?_ ?_
    | with_reducible apply Kept.step (kept_State_countSlots _ _)
    | with_reducible apply Kept.step (kept_State_forgetDrive _ _)
    | with_reducible apply Kept.step (kept_State_linkDown _ _)
    | with_reducible apply Kept.step (kept_State_portIgnored _ _ _)
    | with_reducible apply Kept.step (kept_State_putPort _ _ _)
    | with_reducible apply Kept.step (kept_State_setPortState _ _ _)
    | with_reducible apply Kept.step (kept_State_setPwren _ _ _)
    | (dsimp only [Kept.mk_form]; with_reducible apply KeptMk.intro (_h0 := rfl) (h3 := rfl))
    | split
    | dsimp only
    | refine Kept.ite ?_ ?_
    | refine KeptOut.ite ?_ ?_

theorem kept_execPortSpinupNow (port : PortId) (s : State) : KeptOut [Fld.LINK_STATUS.PWREN, Fld.PORT_CMD.CMD, Fld.PORT_STATE.STATE, Fld.SYS_BUS_ADDR.OFFSET, Fld.SYS_BUS_STATUS.ERR, Fld.SYS_BUS_STATUS.IFACE, Fld.SYS_BUS_STATUS.REASON] s (execPortSpinupNow port s) := by
  unfold execPortSpinupNow
  try dsimp only
  repeat' first
    | exact (rfl : (_ : Bool) = _)
    | with_reducible exact Kept.refl
    | with_reducible refine KeptOut.next ?_
    | with_reducible refine KeptOut.ite ?_ ?_
    | with_reducible refine KeptOut.command rfl Kept.refl ?_
    | with_reducible refine Kept.ite ?_ ?_
    | with_reducible apply Kept.step (kept_State_portIgnored _ _ _)
    | with_reducible apply Kept.step (kept_State_powerUpPort _ _)
    | split
    | refine Kept.ite ?_ ?_
    | refine KeptOut.ite ?_ ?_

theorem kept_State_markLate (s : State) (port : PortId) (slot : Nat) (c : MCmd) : Kept [] s (State.markLate s port slot c) := by
  unfold State.markLate
  try dsimp only
  repeat' first
    | exact (rfl : (_ : Bool) = _)
    | with_reducible exact Kept.refl
    | with_reducible apply Kept.step (kept_State_putPort _ _ _)
    | (dsimp only [Kept.mk_form]; with_reducible apply KeptMk.intro (_h0 := rfl) (h3 := rfl))

theorem kept_execMemberDeadline (port : PortId) (slot : Nat) (s : State) : KeptOut [Fld.LAT_RECON] s (execMemberDeadline port slot s) := by
  unfold execMemberDeadline
  try dsimp only
  repeat' first
    | exact (rfl : (_ : Bool) = _)
    | with_reducible exact Kept.refl
    | with_reducible assumption
    | with_reducible refine KeptOut.next ?_
    | with_reducible refine KeptOut.ite ?_ ?_
    | with_reducible refine Kept.ite ?_ ?_
    | with_reducible apply Kept.incFldAt
    | with_reducible apply Kept.incFld
    | with_reducible apply Kept.step (kept_State_askPlan _ _ _ _ _ _)
    | with_reducible apply Kept.step (kept_State_markLate _ _ _ _)
    | with_reducible apply Kept.step (kept_State_stampCmd _ _ _)
    | with_reducible refine Kept.foldl (fun _ _ _ => ?_) ?_
    | (dsimp only [Kept.mk_form]; with_reducible apply KeptMk.intro (_h0 := rfl) (h3 := rfl))
    | split
    | dsimp only
    | refine Kept.ite ?_ ?_
    | refine KeptOut.ite ?_ ?_


/-! ### Machine/Fed.lean -/

theorem kept_execHelloReceive (link : LinkId) (h : Hello) (s : State) : KeptOut [Fld.FED_LINK.NEIGHBOR, Fld.FED_LINK.STATE, Fld.FED_LINK.UP, Fld.FED_REFUSED, Fld.FED_STATUS.REFUSE_REASON, Fld.PIT_STATUS.IS_GM, Fld.PIT_STATUS.SYNCED] s (execHelloReceive link h s) := by
  unfold execHelloReceive
  try dsimp only
  repeat' first
    | exact (rfl : (_ : Bool) = _)
    | with_reducible exact Kept.refl
    | with_reducible assumption
    | with_reducible refine KeptOut.next ?_
    | with_reducible refine KeptOut.ite ?_ ?_
    | with_reducible refine Kept.ite ?_ ?_
    | with_reducible apply Kept.setFldAt
    | with_reducible apply Kept.setFld
    | with_reducible apply Kept.setBitAt
    | with_reducible apply Kept.setBit
    | with_reducible apply Kept.step (kept_State_fedSend _ _)
    | with_reducible apply Kept.step (kept_State_hearHello _ _)
    | split
    | refine Kept.ite ?_ ?_
    | refine KeptOut.ite ?_ ?_

theorem kept_execHelloRetry (s : State) : KeptOut [] s (execHelloRetry s) := by
  unfold execHelloRetry
  try dsimp only
  repeat' first
    | exact (rfl : (_ : Bool) = _)
    | with_reducible exact Kept.refl
    | with_reducible assumption
    | with_reducible refine KeptOut.next ?_
    | with_reducible refine KeptOut.ite ?_ ?_
    | with_reducible refine Kept.ite ?_ ?_
    | with_reducible apply Kept.step (kept_State_fedSend _ _)
    | with_reducible refine Kept.foldl (fun _ _ _ => ?_) ?_
    | split
    | refine Kept.ite ?_ ?_
    | refine KeptOut.ite ?_ ?_

theorem kept_execMemberLeaveTimeout (node : Nat) (s : State) : KeptOut [] s (execMemberLeaveTimeout node s) := by
  unfold execMemberLeaveTimeout
  try dsimp only
  repeat' first
    | exact (rfl : (_ : Bool) = _)
    | with_reducible exact Kept.refl
    | with_reducible refine KeptOut.next ?_
    | with_reducible refine KeptOut.ite ?_ ?_
    | with_reducible refine Kept.ite ?_ ?_
    | with_reducible apply Kept.step (kept_State_withFed _ _)
    | (dsimp only [Kept.mk_form]; with_reducible apply KeptMk.intro (_h0 := rfl) (h3 := rfl))
    | split
    | dsimp only
    | refine Kept.ite ?_ ?_
    | refine KeptOut.ite ?_ ?_

theorem kept_execGmAnnounce (s : State) : KeptOut [Fld.PIT_GM.CLASS] s (execGmAnnounce s) := by
  unfold execGmAnnounce
  try dsimp only
  repeat' first
    | exact (rfl : (_ : Bool) = _)
    | with_reducible exact Kept.refl
    | with_reducible refine KeptOut.next ?_
    | with_reducible refine KeptOut.ite ?_ ?_
    | with_reducible refine Kept.ite ?_ ?_
    | with_reducible apply Kept.setFldAt
    | with_reducible apply Kept.setFld
    | with_reducible apply Kept.step (kept_State_fedSend _ _)
    | split
    | dsimp only
    | refine Kept.ite ?_ ?_
    | refine KeptOut.ite ?_ ?_

theorem kept_execGmElection (cands : List Announce) (s : State) : KeptOut [Fld.PIT_GM.CLASS, Fld.PIT_GM.DEPTH, Fld.PIT_GM.NODE, Fld.PIT_GM.PRIORITY, Fld.PIT_STATUS.HOLDOVER, Fld.PIT_STATUS.IS_GM, Fld.PIT_STATUS.SYNCED] s (execGmElection cands s) := by
  unfold execGmElection
  try dsimp only
  repeat' first
    | exact (rfl : (_ : Bool) = _)
    | with_reducible exact Kept.refl
    | with_reducible refine KeptOut.next ?_
    | with_reducible refine KeptOut.ite ?_ ?_
    | with_reducible refine Kept.ite ?_ ?_
    | with_reducible apply Kept.step (kept_State_elect _ _)
    | split
    | refine Kept.ite ?_ ?_
    | refine KeptOut.ite ?_ ?_

theorem kept_execSyncExchange (offset : Int) (delay : Nat) (link : LinkId) (s : State) : KeptOut [Fld.FED_LINK.DELAY_NS, Fld.PIT_NOW, Fld.PIT_OFFSET.NS, Fld.PIT_STATUS.ACCURATE, Fld.PIT_STATUS.CLASS, Fld.PIT_STATUS.HOLDOVER, Fld.PIT_STATUS.SYNCED, Fld.PIT_STATUS.VALID] s (execSyncExchange offset delay link s) := by
  unfold execSyncExchange
  try dsimp only
  repeat' first
    | exact (rfl : (_ : Bool) = _)
    | with_reducible exact Kept.refl
    | with_reducible assumption
    | with_reducible refine KeptOut.next ?_
    | with_reducible refine KeptOut.ite ?_ ?_
    | with_reducible refine Kept.ite ?_ ?_
    | with_reducible apply Kept.setFldAt
    | with_reducible apply Kept.setFld
    | with_reducible apply Kept.setBitAt
    | with_reducible apply Kept.setBit
    | with_reducible apply Kept.step (kept_State_withFed _ _)
    | (dsimp only [Kept.mk_form]; with_reducible apply KeptMk.intro (_h0 := rfl) (h3 := rfl))
    | split
    | refine Kept.ite ?_ ?_
    | refine KeptOut.ite ?_ ?_

theorem kept_execPitSet (s : State) : KeptOut [Fld.PIT_CMD_STATUS.DONE, Fld.PIT_CMD_STATUS.ERROR, Fld.PIT_NOW, Fld.PIT_STATUS.CLASS, Fld.PIT_STATUS.VALID, Fld.SYS_BUS_ADDR.OFFSET, Fld.SYS_BUS_STATUS.ERR, Fld.SYS_BUS_STATUS.IFACE, Fld.SYS_BUS_STATUS.REASON] s (execPitSet s) := by
  unfold execPitSet
  try dsimp only
  repeat' first
    | exact (rfl : (_ : Bool) = _)
    | with_reducible exact Kept.refl
    | with_reducible refine KeptOut.next ?_
    | with_reducible refine KeptOut.ite ?_ ?_
    | with_reducible refine KeptOut.command rfl Kept.refl ?_
    | with_reducible refine Kept.ite ?_ ?_
    | with_reducible apply Kept.step (kept_State_hostTime _ _)
    | with_reducible apply Kept.step (kept_State_pitDone _ _)
    | split
    | refine Kept.ite ?_ ?_
    | refine KeptOut.ite ?_ ?_

theorem kept_execPitSetAtPps (s : State) : KeptOut [Fld.PIT_CMD_STATUS.BUSY, Fld.PIT_CMD_STATUS.DONE, Fld.PIT_CMD_STATUS.ERROR, Fld.SYS_BUS_ADDR.OFFSET, Fld.SYS_BUS_STATUS.ERR, Fld.SYS_BUS_STATUS.IFACE, Fld.SYS_BUS_STATUS.REASON] s (execPitSetAtPps s) := by
  unfold execPitSetAtPps
  try dsimp only
  repeat' first
    | exact (rfl : (_ : Bool) = _)
    | with_reducible exact Kept.refl
    | with_reducible assumption
    | with_reducible refine KeptOut.next ?_
    | with_reducible refine KeptOut.ite ?_ ?_
    | with_reducible refine KeptOut.command rfl Kept.refl ?_
    | with_reducible refine Kept.ite ?_ ?_
    | with_reducible apply Kept.setBitAt
    | with_reducible apply Kept.setBit
    | with_reducible apply Kept.step (kept_State_pitDone _ _)
    | with_reducible apply Kept.step (kept_State_withFed _ _)
    | (dsimp only [Kept.mk_form]; with_reducible apply KeptMk.intro (_h0 := rfl) (h3 := rfl))
    | split
    | refine Kept.ite ?_ ?_
    | refine KeptOut.ite ?_ ?_

theorem kept_execPitSetUtc (s : State) : KeptOut [Fld.PIT_CMD_STATUS.DONE, Fld.PIT_CMD_STATUS.ERROR, Fld.PIT_UTC.OFFSET, Fld.SYS_BUS_ADDR.OFFSET, Fld.SYS_BUS_STATUS.ERR, Fld.SYS_BUS_STATUS.IFACE, Fld.SYS_BUS_STATUS.REASON] s (execPitSetUtc s) := by
  unfold execPitSetUtc
  try dsimp only
  repeat' first
    | exact (rfl : (_ : Bool) = _)
    | with_reducible exact Kept.refl
    | with_reducible refine KeptOut.next ?_
    | with_reducible refine KeptOut.ite ?_ ?_
    | with_reducible refine KeptOut.command rfl Kept.refl ?_
    | with_reducible refine Kept.ite ?_ ?_
    | with_reducible apply Kept.setFldAt
    | with_reducible apply Kept.setFld
    | with_reducible apply Kept.step (kept_State_pitDone _ _)
    | split
    | refine Kept.ite ?_ ?_
    | refine KeptOut.ite ?_ ?_

theorem kept_execPitResync (s : State) : KeptOut [Fld.PIT_CMD_STATUS.DONE, Fld.PIT_CMD_STATUS.ERROR, Fld.SYS_BUS_ADDR.OFFSET, Fld.SYS_BUS_STATUS.ERR, Fld.SYS_BUS_STATUS.IFACE, Fld.SYS_BUS_STATUS.REASON] s (execPitResync s) := by
  unfold execPitResync
  try dsimp only
  repeat' first
    | exact (rfl : (_ : Bool) = _)
    | with_reducible exact Kept.refl
    | with_reducible refine KeptOut.next ?_
    | with_reducible refine KeptOut.ite ?_ ?_
    | with_reducible refine KeptOut.command rfl Kept.refl ?_
    | with_reducible refine Kept.ite ?_ ?_
    | with_reducible apply Kept.step (kept_State_fedSend _ _)
    | with_reducible apply Kept.step (kept_State_pitDone _ _)
    | split
    | refine Kept.ite ?_ ?_
    | refine KeptOut.ite ?_ ?_

theorem kept_State_reclass (s : State) (cls : Nat) : Kept [Fld.PIT_GM.CLASS, Fld.PIT_GM.DEPTH, Fld.PIT_GM.NODE, Fld.PIT_GM.PRIORITY, Fld.PIT_STATUS.CLASS, Fld.PIT_STATUS.HOLDOVER, Fld.PIT_STATUS.IS_GM, Fld.PIT_STATUS.SYNCED] s (State.reclass s cls) := by
  unfold State.reclass
  try dsimp only
  repeat' first
    | exact (rfl : (_ : Bool) = _)
    | with_reducible exact Kept.refl
    | with_reducible refine Kept.ite ?_ ?_
    | with_reducible apply Kept.setFldAt
    | with_reducible apply Kept.setFld
    | with_reducible apply Kept.step (kept_State_elect _ _)
    | split
    | refine Kept.ite ?_ ?_

theorem kept_execPpsInEdge (s : State) : KeptOut [Fld.PIT_CMD_STATUS.BUSY, Fld.PIT_CMD_STATUS.DONE, Fld.PIT_CMD_STATUS.ERROR, Fld.PIT_GM.CLASS, Fld.PIT_GM.DEPTH, Fld.PIT_GM.NODE, Fld.PIT_GM.PRIORITY, Fld.PIT_NOW, Fld.PIT_STATUS.CLASS, Fld.PIT_STATUS.HOLDOVER, Fld.PIT_STATUS.IS_GM, Fld.PIT_STATUS.PPS_PRESENT, Fld.PIT_STATUS.SYNCED, Fld.PIT_STATUS.VALID] s (execPpsInEdge s) := by
  unfold execPpsInEdge
  try dsimp only
  repeat' first
    | exact (rfl : (_ : Bool) = _)
    | with_reducible exact Kept.refl
    | with_reducible refine KeptOut.next ?_
    | with_reducible refine KeptOut.ite ?_ ?_
    | with_reducible refine Kept.ite ?_ ?_
    | with_reducible apply Kept.setBitAt
    | with_reducible apply Kept.setBit
    | with_reducible apply Kept.step (kept_State_hostTime _ _)
    | with_reducible apply Kept.step (kept_State_pitDone _ _)
    | with_reducible apply Kept.step (kept_State_reclass _ _)
    | with_reducible apply Kept.step (kept_State_withFed _ _)
    | (dsimp only [Kept.mk_form]; with_reducible apply KeptMk.intro (_h0 := rfl) (h3 := rfl))
    | split
    | dsimp only
    | refine Kept.ite ?_ ?_
    | refine KeptOut.ite ?_ ?_

theorem kept_execPpsInLoss (s : State) : KeptOut [Fld.PIT_CMD_STATUS.BUSY, Fld.PIT_CMD_STATUS.DONE, Fld.PIT_CMD_STATUS.ERROR, Fld.PIT_GM.CLASS, Fld.PIT_GM.DEPTH, Fld.PIT_GM.NODE, Fld.PIT_GM.PRIORITY, Fld.PIT_STATUS.CLASS, Fld.PIT_STATUS.HOLDOVER, Fld.PIT_STATUS.IS_GM, Fld.PIT_STATUS.PPS_PRESENT, Fld.PIT_STATUS.SYNCED] s (execPpsInLoss s) := by
  unfold execPpsInLoss
  try dsimp only
  repeat' first
    | exact (rfl : (_ : Bool) = _)
    | with_reducible exact Kept.refl
    | with_reducible refine KeptOut.next ?_
    | with_reducible refine KeptOut.ite ?_ ?_
    | with_reducible refine Kept.ite ?_ ?_
    | with_reducible apply Kept.setBitAt
    | with_reducible apply Kept.setBit
    | with_reducible apply Kept.step (kept_State_pitDone _ _)
    | with_reducible apply Kept.step (kept_State_reclass _ _)
    | with_reducible apply Kept.step (kept_State_withFed _ _)
    | (dsimp only [Kept.mk_form]; with_reducible apply KeptMk.intro (_h0 := rfl) (h3 := rfl))
    | split
    | refine Kept.ite ?_ ?_
    | refine KeptOut.ite ?_ ?_

theorem kept_execPpsHoldoverExpiry (s : State) : KeptOut [Fld.PIT_GM.CLASS, Fld.PIT_GM.DEPTH, Fld.PIT_GM.NODE, Fld.PIT_GM.PRIORITY, Fld.PIT_STATUS.CLASS, Fld.PIT_STATUS.HOLDOVER, Fld.PIT_STATUS.IS_GM, Fld.PIT_STATUS.SYNCED] s (execPpsHoldoverExpiry s) := by
  unfold execPpsHoldoverExpiry
  try dsimp only
  repeat' first
    | exact (rfl : (_ : Bool) = _)
    | with_reducible exact Kept.refl
    | with_reducible refine KeptOut.next ?_
    | with_reducible refine KeptOut.ite ?_ ?_
    | with_reducible refine Kept.ite ?_ ?_
    | with_reducible apply Kept.setBitAt
    | with_reducible apply Kept.setBit
    | with_reducible apply Kept.step (kept_State_reclass _ _)
    | split
    | refine Kept.ite ?_ ?_
    | refine KeptOut.ite ?_ ?_

theorem kept_execPpsOutSecond (s : State) : KeptOut [] s (execPpsOutSecond s) := by
  unfold execPpsOutSecond
  try dsimp only
  repeat' first
    | exact (rfl : (_ : Bool) = _)
    | with_reducible exact Kept.refl
    | with_reducible refine KeptOut.next ?_
    | with_reducible refine KeptOut.ite ?_ ?_
    | with_reducible refine Kept.ite ?_ ?_
    | with_reducible apply Kept.step (kept_State_withFed _ _)
    | (dsimp only [Kept.mk_form]; with_reducible apply KeptMk.intro (_h0 := rfl) (h3 := rfl))
    | split
    | refine Kept.ite ?_ ?_
    | refine KeptOut.ite ?_ ?_

theorem kept_State_pluckSpinup (s : State) (mask : Nat) : Kept [Fld.LINK_STATUS.PWREN, Fld.PORT_STATE.STATE] s (State.pluckSpinup s mask) := by
  unfold State.pluckSpinup
  try dsimp only
  repeat' first
    | exact (rfl : (_ : Bool) = _)
    | with_reducible exact Kept.refl
    | with_reducible assumption
    | with_reducible refine Kept.ite ?_ ?_
    | with_reducible apply Kept.step (kept_State_powerUpPort _ _)
    | with_reducible refine Kept.foldl (fun _ _ _ => ?_) ?_
    | split
    | refine Kept.ite ?_ ?_

theorem kept_State_pluckScrub (s : State) (mask : Nat) : Kept [] s (State.pluckScrub s mask) := by
  unfold State.pluckScrub
  try dsimp only
  repeat' first
    | exact (rfl : (_ : Bool) = _)
    | with_reducible exact Kept.refl
    | with_reducible assumption
    | with_reducible refine Kept.ite ?_ ?_
    | with_reducible apply Kept.step (kept_State_startScrub _ _ _)
    | with_reducible refine Kept.foldl (fun _ _ _ => ?_) ?_
    | (dsimp only [Kept.mk_form]; with_reducible apply KeptMk.intro (_h0 := rfl) (h3 := rfl))
    | split
    | refine Kept.ite ?_ ?_

theorem kept_State_pluckAct (s : State) (i : Nat) (q : PluckReq) (te t : Nat) : Kept [Fld.CAL_STATUS.FACTORY_VALID, Fld.CAL_STATUS.PREVIOUS_VALID, Fld.CAL_STATUS.USER_VALID, Fld.CH_BYTES, Fld.CH_CUR_DESC.ADDR, Fld.CH_MISSED_COUNT, Fld.CH_STATUS.HALT_CODE, Fld.CH_STATUS.MISSED, Fld.CH_STATUS.PENDING, Fld.CH_STATUS.STATE, Fld.FAN_GLOBAL.FAULTED, Fld.FAN_GLOBAL.PROFILE, Fld.FAN_GLOBAL.RUNNING, Fld.FAN_RUN_S, Fld.FAN_STATUS.ATTEMPT, Fld.FAN_STATUS.FAULT_CAUSE, Fld.FAN_STATUS.SHIFTING, Fld.FAN_STATUS.STATE, Fld.FAN_TARGET.RPM, Fld.LINK_STATUS.PWREN, Fld.PORT_STATE.STATE] s (State.pluckAct s i q te t).2 := by
  unfold State.pluckAct
  try dsimp only
  repeat' first
    | exact (rfl : (_ : Bool) = _)
    | with_reducible exact Kept.refl
    | with_reducible assumption
    | with_reducible refine Kept.ite ?_ ?_
    | with_reducible apply Kept.setFldAt
    | with_reducible apply Kept.setFld
    | with_reducible apply Kept.step (kept_State_cutBarrier _ _ _)
    | with_reducible apply Kept.step (kept_State_dmaTrigger _ _ _)
    | with_reducible apply Kept.step (kept_State_emit _ _ _)
    | with_reducible apply Kept.step (kept_State_pluckScrub _ _)
    | with_reducible apply Kept.step (kept_State_pluckSpinup _ _)
    | with_reducible apply Kept.step (kept_State_requestTest _ _)
    | with_reducible apply Kept.step (kept_State_updateFans _)
    | (dsimp only [Kept.mk_form]; with_reducible apply KeptMk.intro (_h0 := rfl) (h3 := rfl))
    | split
    | dsimp only
    | refine Kept.ite ?_ ?_

theorem kept_State_noteLate (s : State) (i : Nat) (e : PluckEnt) (late : Nat) : Kept [] s (State.noteLate s i e late).2 := by
  unfold State.noteLate
  try dsimp only
  repeat' first
    | exact (rfl : (_ : Bool) = _)
    | with_reducible exact Kept.refl
    | with_reducible apply Kept.step (kept_State_emit _ _ _)
    | with_reducible apply Kept.step (kept_State_putPluck _ _ _)
    | (dsimp only [Kept.mk_form]; with_reducible apply KeptMk.intro (_h0 := rfl) (h3 := rfl))
    | dsimp only

theorem kept_State_runPluck (s : State) (i : Nat) (e : PluckEnt) (t : Nat) : Kept [Fld.CAL_STATUS.FACTORY_VALID, Fld.CAL_STATUS.PREVIOUS_VALID, Fld.CAL_STATUS.USER_VALID, Fld.CH_BYTES, Fld.CH_CUR_DESC.ADDR, Fld.CH_MISSED_COUNT, Fld.CH_STATUS.HALT_CODE, Fld.CH_STATUS.MISSED, Fld.CH_STATUS.PENDING, Fld.CH_STATUS.STATE, Fld.FAN_GLOBAL.FAULTED, Fld.FAN_GLOBAL.PROFILE, Fld.FAN_GLOBAL.RUNNING, Fld.FAN_RUN_S, Fld.FAN_STATUS.ATTEMPT, Fld.FAN_STATUS.FAULT_CAUSE, Fld.FAN_STATUS.SHIFTING, Fld.FAN_STATUS.STATE, Fld.FAN_TARGET.RPM, Fld.LINK_STATUS.PWREN, Fld.PLUCK_DROP_COUNT, Fld.PLUCK_LATE_COUNT, Fld.PORT_STATE.STATE] s (State.runPluck s i e t) := by
  unfold State.runPluck
  try dsimp only
  repeat' first
    | exact (rfl : (_ : Bool) = _)
    | with_reducible exact Kept.refl
    | with_reducible assumption
    | with_reducible refine Kept.ite ?_ ?_
    | with_reducible apply Kept.incFldAt
    | with_reducible apply Kept.incFld
    | with_reducible apply Kept.step (kept_State_dropPluck _ _ _ _)
    | with_reducible apply Kept.step (kept_State_noteLate _ _ _ _)
    | with_reducible apply Kept.step (kept_State_pluckAct _ _ _ _ _)
    | with_reducible apply Kept.step (kept_State_putPluck _ _ _)
    | with_reducible apply Kept.step (kept_State_settlePluck _ _ _ _ _)
    | (dsimp only [Kept.mk_form]; with_reducible apply KeptMk.intro (_h0 := rfl) (h3 := rfl))
    | split
    | dsimp only
    | refine Kept.ite ?_ ?_
    | refine Kept.step (Kept.ofSnd (kept_State_noteLate _ _ _ _) (by with_reducible assumption)) ?_ ?_
    | refine Kept.step (Kept.ofSnd (kept_State_pluckAct _ _ _ _ _) (by with_reducible assumption)) ?_ ?_

theorem kept_State_firePluck (s : State) (i : Nat) (e : PluckEnt) (t : Nat) : Kept [Fld.CAL_STATUS.FACTORY_VALID, Fld.CAL_STATUS.PREVIOUS_VALID, Fld.CAL_STATUS.USER_VALID, Fld.CH_BYTES, Fld.CH_CUR_DESC.ADDR, Fld.CH_MISSED_COUNT, Fld.CH_STATUS.HALT_CODE, Fld.CH_STATUS.MISSED, Fld.CH_STATUS.PENDING, Fld.CH_STATUS.STATE, Fld.FAN_GLOBAL.FAULTED, Fld.FAN_GLOBAL.PROFILE, Fld.FAN_GLOBAL.RUNNING, Fld.FAN_RUN_S, Fld.FAN_STATUS.ATTEMPT, Fld.FAN_STATUS.FAULT_CAUSE, Fld.FAN_STATUS.SHIFTING, Fld.FAN_STATUS.STATE, Fld.FAN_TARGET.RPM, Fld.LINK_STATUS.PWREN, Fld.PLUCK_DROP_COUNT, Fld.PLUCK_LATE_COUNT, Fld.PORT_STATE.STATE, Fld.PWR_STATE.STATE, Fld.PWR_STATE.TARGET] s (State.firePluck s i e t) := by
  unfold State.firePluck
  try dsimp only
  repeat' first
    | exact (rfl : (_ : Bool) = _)
    | with_reducible exact Kept.refl
    | with_reducible refine Kept.ite ?_ ?_
    | with_reducible apply Kept.step (kept_State_runPluck _ _ _ _)
    | with_reducible apply Kept.step (kept_State_wakeUp _)
    | split
    | refine Kept.ite ?_ ?_

theorem kept_execPluckFire (index : Fin 256) (s : State) : KeptOut [Fld.CAL_STATUS.FACTORY_VALID, Fld.CAL_STATUS.PREVIOUS_VALID, Fld.CAL_STATUS.USER_VALID, Fld.CH_BYTES, Fld.CH_CUR_DESC.ADDR, Fld.CH_MISSED_COUNT, Fld.CH_STATUS.HALT_CODE, Fld.CH_STATUS.MISSED, Fld.CH_STATUS.PENDING, Fld.CH_STATUS.STATE, Fld.FAN_GLOBAL.FAULTED, Fld.FAN_GLOBAL.PROFILE, Fld.FAN_GLOBAL.RUNNING, Fld.FAN_RUN_S, Fld.FAN_STATUS.ATTEMPT, Fld.FAN_STATUS.FAULT_CAUSE, Fld.FAN_STATUS.SHIFTING, Fld.FAN_STATUS.STATE, Fld.FAN_TARGET.RPM, Fld.LINK_STATUS.PWREN, Fld.PLUCK_DROP_COUNT, Fld.PLUCK_LATE_COUNT, Fld.PORT_STATE.STATE, Fld.PWR_STATE.STATE, Fld.PWR_STATE.TARGET] s (execPluckFire index s) := by
  unfold execPluckFire
  try dsimp only
  repeat' first
    | exact (rfl : (_ : Bool) = _)
    | with_reducible exact Kept.refl
    | with_reducible assumption
    | with_reducible refine KeptOut.next ?_
    | with_reducible refine KeptOut.ite ?_ ?_
    | with_reducible refine Kept.ite ?_ ?_
    | with_reducible apply Kept.step (kept_State_firePluck _ _ _ _)
    | (dsimp only [Kept.mk_form]; with_reducible apply KeptMk.intro (_h0 := rfl) (h3 := rfl))
    | split
    | dsimp only
    | refine Kept.ite ?_ ?_
    | refine KeptOut.ite ?_ ?_

theorem kept_execPluckEarlyWake (index : Fin 256) (s : State) : KeptOut [Fld.PWR_STATE.STATE, Fld.PWR_STATE.TARGET] s (execPluckEarlyWake index s) := by
  unfold execPluckEarlyWake
  try dsimp only
  repeat' first
    | exact (rfl : (_ : Bool) = _)
    | with_reducible exact Kept.refl
    | with_reducible assumption
    | with_reducible refine KeptOut.next ?_
    | with_reducible refine KeptOut.ite ?_ ?_
    | with_reducible refine Kept.ite ?_ ?_
    | with_reducible apply Kept.step (kept_State_wakeUp _)
    | (dsimp only [Kept.mk_form]; with_reducible apply KeptMk.intro (_h0 := rfl) (h3 := rfl))
    | split
    | refine Kept.ite ?_ ?_
    | refine KeptOut.ite ?_ ?_

theorem kept_execWriteBarrierDone (index : Fin 256) (s : State) : KeptOut [] s (execWriteBarrierDone index s) := by
  unfold execWriteBarrierDone
  try dsimp only
  repeat' first
    | exact (rfl : (_ : Bool) = _)
    | with_reducible exact Kept.refl
    | with_reducible assumption
    | with_reducible refine KeptOut.next ?_
    | with_reducible refine KeptOut.ite ?_ ?_
    | with_reducible refine Kept.ite ?_ ?_
    | with_reducible apply Kept.step (kept_State_emit _ _ _)
    | with_reducible apply Kept.step (kept_State_settlePluck _ _ _ _ _)
    | with_reducible apply Kept.step (kept_State_withFed _ _)
    | (dsimp only [Kept.mk_form]; with_reducible apply KeptMk.intro (_h0 := rfl) (h3 := rfl))
    | split
    | dsimp only
    | refine Kept.ite ?_ ?_
    | refine KeptOut.ite ?_ ?_

theorem kept_execPluckWrite (s : State) : KeptOut [Fld.PLUCK_STATUS.DONE, Fld.PLUCK_STATUS.ERROR, Fld.SYS_BUS_ADDR.OFFSET, Fld.SYS_BUS_STATUS.ERR, Fld.SYS_BUS_STATUS.IFACE, Fld.SYS_BUS_STATUS.REASON] s (execPluckWrite s) := by
  unfold execPluckWrite
  try dsimp only
  repeat' first
    | exact (rfl : (_ : Bool) = _)
    | with_reducible exact Kept.refl
    | with_reducible refine KeptOut.next ?_
    | with_reducible refine KeptOut.ite ?_ ?_
    | with_reducible refine KeptOut.command rfl Kept.refl ?_
    | with_reducible refine Kept.ite ?_ ?_
    | with_reducible apply Kept.step (kept_State_pluckDone _ _)
    | with_reducible apply Kept.step (kept_State_writePluck _)
    | split
    | dsimp only
    | refine Kept.ite ?_ ?_
    | refine KeptOut.ite ?_ ?_
    | refine Kept.step (Kept.ofSnd (kept_State_writePluck _) (by with_reducible assumption)) ?_ ?_

theorem kept_State_distDone (s : State) : Kept [Fld.PLUCK_DIST.COMPLETE] s (State.distDone s) := by
  unfold State.distDone
  try dsimp only
  repeat' first
    | exact (rfl : (_ : Bool) = _)
    | with_reducible exact Kept.refl
    | with_reducible apply Kept.setBitAt
    | with_reducible apply Kept.setBit
    | with_reducible apply Kept.step (kept_State_withFed _ _)
    | (dsimp only [Kept.mk_form]; with_reducible apply KeptMk.intro (_h0 := rfl) (h3 := rfl))

theorem kept_execPluckWriteFed (s : State) : KeptOut [Fld.PLUCK_DIST.ACKED, Fld.PLUCK_DIST.COMPLETE, Fld.PLUCK_DIST.FULL, Fld.PLUCK_DIST.LATE, Fld.PLUCK_STATUS.DONE, Fld.PLUCK_STATUS.ERROR, Fld.SYS_BUS_ADDR.OFFSET, Fld.SYS_BUS_STATUS.ERR, Fld.SYS_BUS_STATUS.IFACE, Fld.SYS_BUS_STATUS.REASON] s (execPluckWriteFed s) := by
  unfold execPluckWriteFed
  try dsimp only
  repeat' first
    | exact (rfl : (_ : Bool) = _)
    | with_reducible exact Kept.refl
    | with_reducible refine KeptOut.next ?_
    | with_reducible refine KeptOut.ite ?_ ?_
    | with_reducible refine KeptOut.command rfl Kept.refl ?_
    | with_reducible refine Kept.ite ?_ ?_
    | with_reducible apply Kept.setFldAt
    | with_reducible apply Kept.setFld
    | with_reducible apply Kept.setBitAt
    | with_reducible apply Kept.setBit
    | with_reducible apply Kept.step (kept_State_distDone _)
    | with_reducible apply Kept.step (kept_State_fedSend _ _)
    | with_reducible apply Kept.step (kept_State_pluckDone _ _)
    | with_reducible apply Kept.step (kept_State_withFed _ _)
    | with_reducible apply Kept.step (kept_State_writePluck _)
    | (dsimp only [Kept.mk_form]; with_reducible apply KeptMk.intro (_h0 := rfl) (h3 := rfl))
    | split
    | dsimp only
    | refine Kept.ite ?_ ?_
    | refine KeptOut.ite ?_ ?_
    | refine Kept.step (Kept.ofSnd (kept_State_writePluck _) (by with_reducible assumption)) ?_ ?_

theorem kept_execPluckCancel (s : State) : KeptOut [Fld.PLUCK_STATUS.DONE, Fld.PLUCK_STATUS.ERROR, Fld.SYS_BUS_ADDR.OFFSET, Fld.SYS_BUS_STATUS.ERR, Fld.SYS_BUS_STATUS.IFACE, Fld.SYS_BUS_STATUS.REASON] s (execPluckCancel s) := by
  unfold execPluckCancel
  try dsimp only
  repeat' first
    | exact (rfl : (_ : Bool) = _)
    | with_reducible exact Kept.refl
    | with_reducible assumption
    | with_reducible refine KeptOut.next ?_
    | with_reducible refine KeptOut.command rfl Kept.refl ?_
    | with_reducible apply Kept.step (kept_State_pluckDone _ _)
    | with_reducible apply Kept.step (kept_State_putPluck _ _ _)
    | (dsimp only [Kept.mk_form]; with_reducible apply KeptMk.intro (_h0 := rfl) (h3 := rfl))
    | split

theorem kept_State_cancelAll (s : State) (origin id : Nat) : Kept [] s (State.cancelAll s origin id) := by
  unfold State.cancelAll
  try dsimp only
  repeat' first
    | exact (rfl : (_ : Bool) = _)
    | with_reducible exact Kept.refl
    | with_reducible refine Kept.ite ?_ ?_
    | with_reducible apply Kept.step (kept_State_withFed _ _)
    | (dsimp only [Kept.mk_form]; with_reducible apply KeptMk.intro (_h0 := rfl) (h3 := rfl))
    | split
    | dsimp only
    | refine Kept.ite ?_ ?_

theorem kept_execPluckCancelFed (s : State) : KeptOut [Fld.PLUCK_STATUS.DONE, Fld.PLUCK_STATUS.ERROR, Fld.SYS_BUS_ADDR.OFFSET, Fld.SYS_BUS_STATUS.ERR, Fld.SYS_BUS_STATUS.IFACE, Fld.SYS_BUS_STATUS.REASON] s (execPluckCancelFed s) := by
  unfold execPluckCancelFed
  try dsimp only
  repeat' first
    | exact (rfl : (_ : Bool) = _)
    | with_reducible exact Kept.refl
    | with_reducible assumption
    | with_reducible refine KeptOut.next ?_
    | with_reducible refine KeptOut.ite ?_ ?_
    | with_reducible refine KeptOut.command rfl Kept.refl ?_
    | with_reducible refine Kept.ite ?_ ?_
    | with_reducible apply Kept.step (kept_State_cancelAll _ _ _)
    | with_reducible apply Kept.step (kept_State_fedSend _ _)
    | with_reducible apply Kept.step (kept_State_pluckDone _ _)
    | (dsimp only [Kept.mk_form]; with_reducible apply KeptMk.intro (_h0 := rfl) (h3 := rfl))
    | split
    | refine Kept.ite ?_ ?_
    | refine KeptOut.ite ?_ ?_

theorem kept_execPluckReceive (m : PluckMsg) (s : State) : KeptOut [Fld.CAL_STATUS.FACTORY_VALID, Fld.CAL_STATUS.PREVIOUS_VALID, Fld.CAL_STATUS.USER_VALID, Fld.CH_BYTES, Fld.CH_CUR_DESC.ADDR, Fld.CH_MISSED_COUNT, Fld.CH_STATUS.HALT_CODE, Fld.CH_STATUS.MISSED, Fld.CH_STATUS.PENDING, Fld.CH_STATUS.STATE, Fld.FAN_GLOBAL.FAULTED, Fld.FAN_GLOBAL.PROFILE, Fld.FAN_GLOBAL.RUNNING, Fld.FAN_RUN_S, Fld.FAN_STATUS.ATTEMPT, Fld.FAN_STATUS.FAULT_CAUSE, Fld.FAN_STATUS.SHIFTING, Fld.FAN_STATUS.STATE, Fld.FAN_TARGET.RPM, Fld.LINK_STATUS.PWREN, Fld.PLUCK_DROP_COUNT, Fld.PLUCK_LATE_COUNT, Fld.PORT_STATE.STATE, Fld.PWR_STATE.STATE, Fld.PWR_STATE.TARGET] s (execPluckReceive m s) := by
  unfold execPluckReceive
  try dsimp only
  repeat' first
    | exact (rfl : (_ : Bool) = _)
    | with_reducible exact Kept.refl
    | with_reducible assumption
    | with_reducible refine KeptOut.next ?_
    | with_reducible refine KeptOut.ite ?_ ?_
    | with_reducible refine Kept.ite ?_ ?_
    | with_reducible apply Kept.step (kept_State_fedSend _ _)
    | with_reducible apply Kept.step (kept_State_firePluck _ _ _ _)
    | with_reducible apply Kept.step (kept_State_installPluck _ _ _)
    | (dsimp only [Kept.mk_form]; with_reducible apply KeptMk.intro (_h0 := rfl) (h3 := rfl))
    | split
    | refine Kept.ite ?_ ?_
    | refine KeptOut.ite ?_ ?_

theorem kept_execPluckAnswerReceive (ans : PluckAnswer) (s : State) : KeptOut [Fld.PLUCK_DIST.ACKED, Fld.PLUCK_DIST.COMPLETE, Fld.PLUCK_DIST.FULL, Fld.PLUCK_DIST.LATE] s (execPluckAnswerReceive ans s) := by
  unfold execPluckAnswerReceive
  try dsimp only
  repeat' first
    | exact (rfl : (_ : Bool) = _)
    | with_reducible exact Kept.refl
    | with_reducible assumption
    | with_reducible refine KeptOut.next ?_
    | with_reducible refine KeptOut.ite ?_ ?_
    | with_reducible refine Kept.ite ?_ ?_
    | with_reducible apply Kept.incFldAt
    | with_reducible apply Kept.incFld
    | with_reducible apply Kept.step (kept_State_distDone _)
    | with_reducible apply Kept.step (kept_State_withFed _ _)
    | (dsimp only [Kept.mk_form]; with_reducible apply KeptMk.intro (_h0 := rfl) (h3 := rfl))
    | split
    | refine Kept.ite ?_ ?_
    | refine KeptOut.ite ?_ ?_

theorem kept_execPluckDistTimeout (s : State) : KeptOut [Fld.PLUCK_DIST.COMPLETE] s (execPluckDistTimeout s) := by
  unfold execPluckDistTimeout
  try dsimp only
  repeat' first
    | exact (rfl : (_ : Bool) = _)
    | with_reducible exact Kept.refl
    | with_reducible refine KeptOut.next ?_
    | with_reducible refine KeptOut.ite ?_ ?_
    | with_reducible refine Kept.ite ?_ ?_
    | with_reducible apply Kept.step (kept_State_distDone _)
    | split
    | refine Kept.ite ?_ ?_
    | refine KeptOut.ite ?_ ?_

theorem kept_execPluckCancelReceive (origin id : Nat) (s : State) : KeptOut [] s (execPluckCancelReceive origin id s) := by
  unfold execPluckCancelReceive
  try dsimp only
  repeat' first
    | exact (rfl : (_ : Bool) = _)
    | with_reducible exact Kept.refl
    | with_reducible refine KeptOut.next ?_
    | with_reducible refine KeptOut.ite ?_ ?_
    | with_reducible refine Kept.ite ?_ ?_
    | with_reducible apply Kept.step (kept_State_cancelAll _ _ _)
    | split
    | refine Kept.ite ?_ ?_
    | refine KeptOut.ite ?_ ?_


/-! ### Machine/EventLog.lean -/

theorem kept_execEventRecord (s : State) : KeptOut [Fld.EVR_DROP, Fld.EVR_NEXT_SEQ, Fld.EVR_OVERWRITTEN, Fld.EVR_STATUS.FULL, Fld.EVR_STATUS.NEARLY_FULL] s (execEventRecord s) := by
  unfold execEventRecord
  try dsimp only
  repeat' first
    | exact (rfl : (_ : Bool) = _)
    | with_reducible exact Kept.refl
    | with_reducible assumption
    | with_reducible refine KeptOut.next ?_
    | with_reducible apply Kept.step (kept_State_recordOne _ _)
    | (dsimp only [Kept.mk_form]; with_reducible apply KeptMk.intro (_h0 := rfl) (h3 := rfl))
    | split

theorem kept_execEventFreeze (iface : Iface) (s : State) : KeptOut [Fld.EVR_AUTH_KEY, Fld.EVR_CMD_STATUS.DONE, Fld.EVR_CMD_STATUS.ERROR, Fld.EVR_STATUS.FREEZE_OWNER, Fld.EVR_STATUS.FROZEN] s (execEventFreeze iface s) := by
  unfold execEventFreeze
  try dsimp only
  repeat' first
    | exact (rfl : (_ : Bool) = _)
    | with_reducible exact Kept.refl
    | with_reducible refine KeptOut.next ?_
    | with_reducible refine KeptOut.ite ?_ ?_
    | with_reducible refine Kept.ite ?_ ?_
    | with_reducible apply Kept.setFldAt
    | with_reducible apply Kept.setFld
    | with_reducible apply Kept.setBitAt
    | with_reducible apply Kept.setBit
    | with_reducible apply Kept.step (kept_State_evrDone _ _)
    | split
    | refine Kept.ite ?_ ?_
    | refine KeptOut.ite ?_ ?_

theorem kept_execEventUnfreeze (iface : Iface) (s : State) : KeptOut [Fld.EVR_AUTH_KEY, Fld.EVR_CMD_STATUS.DONE, Fld.EVR_CMD_STATUS.ERROR, Fld.EVR_DROP, Fld.EVR_OVERWRITTEN, Fld.EVR_STATUS.FREEZE_OWNER, Fld.EVR_STATUS.FROZEN, Fld.EVR_STATUS.FULL, Fld.EVR_STATUS.NEARLY_FULL] s (execEventUnfreeze iface s) := by
  unfold execEventUnfreeze
  try dsimp only
  repeat' first
    | exact (rfl : (_ : Bool) = _)
    | with_reducible exact Kept.refl
    | with_reducible refine KeptOut.next ?_
    | with_reducible refine KeptOut.ite ?_ ?_
    | with_reducible refine Kept.ite ?_ ?_
    | with_reducible apply Kept.step (kept_State_evrDone _ _)
    | with_reducible apply Kept.step (kept_State_thaw _)
    | split
    | refine Kept.ite ?_ ?_
    | refine KeptOut.ite ?_ ?_

theorem kept_execFreezeTimeout (s : State) : KeptOut [Fld.EVR_DROP, Fld.EVR_OVERWRITTEN, Fld.EVR_STATUS.FREEZE_OWNER, Fld.EVR_STATUS.FROZEN, Fld.EVR_STATUS.FULL, Fld.EVR_STATUS.NEARLY_FULL] s (execFreezeTimeout s) := by
  unfold execFreezeTimeout
  try dsimp only
  repeat' first
    | exact (rfl : (_ : Bool) = _)
    | with_reducible exact Kept.refl
    | with_reducible refine KeptOut.next ?_
    | with_reducible refine KeptOut.ite ?_ ?_
    | with_reducible refine Kept.ite ?_ ?_
    | with_reducible apply Kept.step (kept_State_emit _ _ _)
    | with_reducible apply Kept.step (kept_State_thaw _)
    | split
    | refine Kept.ite ?_ ?_
    | refine KeptOut.ite ?_ ?_

theorem kept_execEventChallenge (s : State) : KeptOut [Fld.CIP_STATUS.TRNG_READY, Fld.CIP_TRNG_STATUS.POOL, Fld.CIP_TRNG_STATUS.READY, Fld.EVR_AUTH_KEY, Fld.EVR_CHAL, Fld.EVR_CMD_STATUS.DONE, Fld.EVR_CMD_STATUS.ERROR, Fld.EVR_STATUS.CHAL_VALID] s (execEventChallenge s) := by
  unfold execEventChallenge
  try dsimp only
  repeat' first
    | exact (rfl : (_ : Bool) = _)
    | with_reducible exact Kept.refl
    | with_reducible refine KeptOut.next ?_
    | with_reducible refine KeptOut.ite ?_ ?_
    | with_reducible refine Kept.ite ?_ ?_
    | with_reducible apply Kept.setFldAt
    | with_reducible apply Kept.setFld
    | with_reducible apply Kept.setBitAt
    | with_reducible apply Kept.setBit
    | with_reducible apply Kept.step (kept_State_draw _)
    | with_reducible apply Kept.step (kept_State_evrDone _ _)
    | (dsimp only [Kept.mk_form]; with_reducible apply KeptMk.intro (_h0 := rfl) (h3 := rfl))
    | split
    | refine Kept.ite ?_ ?_
    | refine KeptOut.ite ?_ ?_

theorem kept_execChallengeExpiry (s : State) : KeptOut [Fld.EVR_CHAL, Fld.EVR_STATUS.CHAL_VALID] s (execChallengeExpiry s) := by
  unfold execChallengeExpiry
  try dsimp only
  repeat' first
    | exact (rfl : (_ : Bool) = _)
    | with_reducible exact Kept.refl
    | with_reducible refine KeptOut.next ?_
    | with_reducible apply Kept.setFldAt
    | with_reducible apply Kept.setFld
    | with_reducible apply Kept.setBitAt
    | with_reducible apply Kept.setBit
    | (dsimp only [Kept.mk_form]; with_reducible apply KeptMk.intro (_h0 := rfl) (h3 := rfl))

theorem kept_execLockoutEnd (s : State) : KeptOut [Fld.EVR_STATUS.LOCKOUT] s (execLockoutEnd s) := by
  unfold execLockoutEnd
  try dsimp only
  repeat' first
    | exact (rfl : (_ : Bool) = _)
    | with_reducible exact Kept.refl
    | with_reducible refine KeptOut.next ?_
    | with_reducible apply Kept.setBitAt
    | with_reducible apply Kept.setBit

theorem kept_execEventClear (iface : Iface) (s : State) : KeptOut [Fld.EVR_AUTH_KEY, Fld.EVR_CHAL, Fld.EVR_CMD_STATUS.DONE, Fld.EVR_CMD_STATUS.ERROR, Fld.EVR_DROP, Fld.EVR_NEXT_SEQ, Fld.EVR_OVERWRITTEN, Fld.EVR_STATUS.CHAL_VALID, Fld.EVR_STATUS.FREEZE_OWNER, Fld.EVR_STATUS.FROZEN, Fld.EVR_STATUS.FULL, Fld.EVR_STATUS.LOCKOUT, Fld.EVR_STATUS.NEARLY_FULL] s (execEventClear iface s) := by
  unfold execEventClear
  try dsimp only
  repeat' first
    | exact (rfl : (_ : Bool) = _)
    | with_reducible exact Kept.refl
    | with_reducible refine KeptOut.next ?_
    | with_reducible refine KeptOut.ite ?_ ?_
    | with_reducible refine Kept.ite ?_ ?_
    | with_reducible apply Kept.step (kept_State_evrDone _ _)
    | with_reducible apply Kept.step (kept_State_finishClear _ _)
    | with_reducible apply Kept.step (kept_State_thaw _)
    | with_reducible apply Kept.step (kept_State_tokenChecked _ _ _ _)
    | split
    | refine Kept.ite ?_ ?_
    | refine KeptOut.ite ?_ ?_

theorem kept_execEventAuthSet (iface : Iface) (s : State) : KeptOut [Fld.EVR_AUTH_KEY, Fld.EVR_CHAL, Fld.EVR_CMD_STATUS.DONE, Fld.EVR_CMD_STATUS.ERROR, Fld.EVR_STATUS.CHAL_VALID, Fld.EVR_STATUS.LOCKOUT] s (execEventAuthSet iface s) := by
  unfold execEventAuthSet
  try dsimp only
  repeat' first
    | exact (rfl : (_ : Bool) = _)
    | with_reducible exact Kept.refl
    | with_reducible assumption
    | with_reducible refine KeptOut.next ?_
    | with_reducible refine KeptOut.ite ?_ ?_
    | with_reducible refine Kept.ite ?_ ?_
    | with_reducible apply Kept.step (kept_State_emit _ _ _)
    | with_reducible apply Kept.step (kept_State_evrDone _ _)
    | with_reducible apply Kept.step (kept_State_tokenChecked _ _ _ _)
    | (dsimp only [Kept.mk_form]; with_reducible apply KeptMk.intro (_h0 := rfl) (h3 := rfl))
    | split
    | dsimp only
    | refine Kept.ite ?_ ?_
    | refine KeptOut.ite ?_ ?_

theorem kept_execSoundpostNow (s : State) : KeptOut [Fld.EVR_AUTH_KEY, Fld.EVR_CMD_STATUS.DONE, Fld.EVR_CMD_STATUS.ERROR, Fld.EVR_DROP, Fld.EVR_OVERWRITTEN, Fld.EVR_STATUS.FREEZE_OWNER, Fld.EVR_STATUS.FROZEN, Fld.EVR_STATUS.FULL, Fld.EVR_STATUS.NEARLY_FULL, Fld.SP_LAST_SEQ] s (execSoundpostNow s) := by
  unfold execSoundpostNow
  try dsimp only
  repeat' first
    | exact (rfl : (_ : Bool) = _)
    | with_reducible exact Kept.refl
    | with_reducible assumption
    | with_reducible refine KeptOut.next ?_
    | with_reducible refine KeptOut.ite ?_ ?_
    | with_reducible refine Kept.ite ?_ ?_
    | with_reducible apply Kept.step (kept_State_evrDone _ _)
    | with_reducible apply Kept.step (kept_State_writeSoundpost _ _)
    | (dsimp only [Kept.mk_form]; with_reducible apply KeptMk.intro (_h0 := rfl) (h3 := rfl))
    | split
    | refine Kept.ite ?_ ?_
    | refine KeptOut.ite ?_ ?_

theorem kept_execSoundpostVaultCopy (s : State) : KeptOut [] s (execSoundpostVaultCopy s) := by
  unfold execSoundpostVaultCopy
  try dsimp only
  repeat' first
    | exact (rfl : (_ : Bool) = _)
    | with_reducible exact Kept.refl
    | with_reducible refine KeptOut.next ?_
    | with_reducible apply Kept.step (kept_State_copyVault _)

theorem kept_execSoundpostFlashCopy (s : State) : KeptOut [] s (execSoundpostFlashCopy s) := by
  unfold execSoundpostFlashCopy
  try dsimp only
  repeat' first
    | exact (rfl : (_ : Bool) = _)
    | with_reducible exact Kept.refl
    | with_reducible refine KeptOut.next ?_
    | with_reducible apply Kept.step (kept_State_copyFlash _)


/-! ### Machine/HostIo.lean -/

theorem kept_execDoorbellWrite (fn : FnIdx) (sq tail : Nat) (s : State) : KeptOut [Fld.PWR_STATE.STATE, Fld.PWR_STATE.TARGET] s (execDoorbellWrite fn sq tail s) := by
  unfold execDoorbellWrite
  try dsimp only
  repeat' first
    | exact (rfl : (_ : Bool) = _)
    | with_reducible exact Kept.refl
    | with_reducible assumption
    | with_reducible refine KeptOut.next ?_
    | with_reducible refine KeptOut.ite ?_ ?_
    | with_reducible refine Kept.ite ?_ ?_
    | with_reducible apply Kept.step (kept_State_wakeUp _)
    | (dsimp only [Kept.mk_form]; with_reducible apply KeptMk.intro (_h0 := rfl) (h3 := rfl))
    | split
    | dsimp only
    | refine Kept.ite ?_ ?_
    | refine KeptOut.ite ?_ ?_

theorem kept_execCqHeadDoorbell (fn : FnIdx) (cq head : Nat) (s : State) : KeptOut [Fld.PWR_STATE.STATE, Fld.PWR_STATE.TARGET] s (execCqHeadDoorbell fn cq head s) := by
  unfold execCqHeadDoorbell
  try dsimp only
  repeat' first
    | exact (rfl : (_ : Bool) = _)
    | with_reducible exact Kept.refl
    | with_reducible assumption
    | with_reducible refine KeptOut.next ?_
    | with_reducible refine KeptOut.ite ?_ ?_
    | with_reducible refine Kept.ite ?_ ?_
    | with_reducible apply Kept.step (kept_State_wakeUp _)
    | (dsimp only [Kept.mk_form]; with_reducible apply KeptMk.intro (_h0 := rfl) (h3 := rfl))
    | split
    | refine Kept.ite ?_ ?_
    | refine KeptOut.ite ?_ ?_

theorem kept_execFetchGrant (fn : FnIdx) (sq : Nat) (entries : List SqEntry) (s : State) : KeptOut [Fld.HFE_CID_CONFLICT_COUNT, Fld.HFE_COLLECT_MAX.MAX_DEPTH, Fld.HFE_FETCH_PAUSE_COUNT, Fld.HFE_LOCK_WAIT_COUNT, Fld.LAT_C0_RATE.GBPS_X100, Fld.LAT_C0_RATE.KCMD] s (execFetchGrant fn sq entries s) := by
  unfold execFetchGrant
  try dsimp only
  repeat' first
    | exact (rfl : (_ : Bool) = _)
    | with_reducible exact Kept.refl
    | with_reducible assumption
    | with_reducible refine KeptOut.next ?_
    | with_reducible refine KeptOut.ite ?_ ?_
    | with_reducible refine Kept.ite ?_ ?_
    | with_reducible apply Kept.step (kept_State_fetchBurst _ _ _ _ _)
    | with_reducible apply Kept.step (kept_State_pauseClass _ _)
    | with_reducible apply Kept.step (kept_State_refillLoad _)
    | (dsimp only [Kept.mk_form]; with_reducible apply KeptMk.intro (_h0 := rfl) (h3 := rfl))
    | split
    | dsimp only
    | refine Kept.ite ?_ ?_
    | refine KeptOut.ite ?_ ?_

theorem kept_execRangeLockGrant (tag : Nat) (s : State) : KeptOut [Fld.HFE_COLLECT_MAX.MAX_DEPTH] s (execRangeLockGrant tag s) := by
  unfold execRangeLockGrant
  try dsimp only
  repeat' first
    | exact (rfl : (_ : Bool) = _)
    | with_reducible exact Kept.refl
    | with_reducible assumption
    | with_reducible refine KeptOut.next ?_
    | with_reducible refine KeptOut.ite ?_ ?_
    | with_reducible refine Kept.ite ?_ ?_
    | with_reducible apply Kept.step (kept_State_lockGrant _ _)
    | (dsimp only [Kept.mk_form]; with_reducible apply KeptMk.intro (_h0 := rfl) (h3 := rfl))
    | split
    | refine Kept.ite ?_ ?_
    | refine KeptOut.ite ?_ ?_

theorem kept_execNvmeFlush (tag : Nat) (s : State) : KeptOut [Fld.HFE_COLLECT_MAX.MAX_DEPTH] s (execNvmeFlush tag s) := by
  unfold execNvmeFlush
  try dsimp only
  repeat' first
    | exact (rfl : (_ : Bool) = _)
    | with_reducible exact Kept.refl
    | with_reducible assumption
    | with_reducible refine KeptOut.next ?_
    | with_reducible refine KeptOut.ite ?_ ?_
    | with_reducible refine Kept.ite ?_ ?_
    | with_reducible apply Kept.step (kept_State_collect _ _ _ _)
    | with_reducible apply Kept.step (kept_State_lowerClass _ _)
    | with_reducible apply Kept.step (kept_State_putCmd _ _)
    | (dsimp only [Kept.mk_form]; with_reducible apply KeptMk.intro (_h0 := rfl) (h3 := rfl))
    | split
    | refine Kept.ite ?_ ?_
    | refine KeptOut.ite ?_ ?_

theorem kept_execNvmeWrite (tag : Nat) (plain : List Blob) (s : State) : KeptOut [Fld.CIP_STATUS.NONCE_WARN, Fld.CIP_STATUS.TRNG_READY, Fld.CIP_TRNG_STATUS.POOL, Fld.CIP_TRNG_STATUS.READY, Fld.HFE_COLLECT_MAX.MAX_DEPTH, Fld.MAP_FAULT_COUNT, Fld.MAP_FAULT_IN, Fld.MAP_FAULT_INFO.ARRAY, Fld.MAP_FAULT_INFO.ENTRY, Fld.MAP_FAULT_INFO.EPOCH, Fld.MAP_FAULT_INFO.LANE, Fld.MAP_FAULT_INFO.PC, Fld.MAP_FAULT_INFO.REASON, Fld.MAP_FAULT_UNIT.UNIT, Fld.MAP_TEST_STATUS.BUSY, Fld.MAP_TEST_STATUS.DONE, Fld.MAP_TEST_STATUS.FAULT, Fld.MAP_TEST_STATUS.STEPS, Fld.MIRROR_BYTES, Fld.WC_STATUS.OVER_LIMIT, Fld.WC_STATUS.UNPROTECTED, Fld.WC_UNPROT_MS] s (execNvmeWrite tag plain s) := by
  unfold execNvmeWrite
  try dsimp only
  repeat' first
    | exact (rfl : (_ : Bool) = _)
    | with_reducible exact Kept.refl
    | with_reducible assumption
    | with_reducible refine KeptOut.next ?_
    | with_reducible refine KeptOut.ite ?_ ?_
    | with_reducible refine Kept.ite ?_ ?_
    | with_reducible apply Kept.step (kept_State_mapped _ _)
    | with_reducible apply Kept.step (kept_State_reserve _ _)
    | (dsimp only [Kept.mk_form]; with_reducible apply KeptMk.intro (_h0 := rfl) (h3 := rfl))
    | split
    | dsimp only
    | refine Kept.ite ?_ ?_
    | refine KeptOut.ite ?_ ?_
    | refine Kept.step (Kept.ofSnd (kept_State_mapped _ _) (by with_reducible assumption)) ?_ ?_

theorem kept_execWriteZeroes (tag : Nat) (s : State) : KeptOut [Fld.CIP_STATUS.NONCE_WARN, Fld.CIP_STATUS.TRNG_READY, Fld.CIP_TRNG_STATUS.POOL, Fld.CIP_TRNG_STATUS.READY, Fld.HFE_COLLECT_MAX.MAX_DEPTH, Fld.MAP_FAULT_COUNT, Fld.MAP_FAULT_IN, Fld.MAP_FAULT_INFO.ARRAY, Fld.MAP_FAULT_INFO.ENTRY, Fld.MAP_FAULT_INFO.EPOCH, Fld.MAP_FAULT_INFO.LANE, Fld.MAP_FAULT_INFO.PC, Fld.MAP_FAULT_INFO.REASON, Fld.MAP_FAULT_UNIT.UNIT, Fld.MAP_TEST_STATUS.BUSY, Fld.MAP_TEST_STATUS.DONE, Fld.MAP_TEST_STATUS.FAULT, Fld.MAP_TEST_STATUS.STEPS, Fld.MIRROR_BYTES, Fld.WC_STATUS.OVER_LIMIT, Fld.WC_STATUS.UNPROTECTED, Fld.WC_UNPROT_MS] s (execWriteZeroes tag s) := by
  unfold execWriteZeroes
  try dsimp only
  repeat' first
    | exact (rfl : (_ : Bool) = _)
    | with_reducible exact Kept.refl
    | with_reducible assumption
    | with_reducible refine KeptOut.next ?_
    | with_reducible refine KeptOut.ite ?_ ?_
    | with_reducible refine Kept.ite ?_ ?_
    | with_reducible apply Kept.step (kept_State_mapped _ _)
    | with_reducible apply Kept.step (kept_State_reserve _ _)
    | (dsimp only [Kept.mk_form]; with_reducible apply KeptMk.intro (_h0 := rfl) (h3 := rfl))
    | split
    | dsimp only
    | refine Kept.ite ?_ ?_
    | refine KeptOut.ite ?_ ?_
    | refine Kept.step (Kept.ofSnd (kept_State_mapped _ _) (by with_reducible assumption)) ?_ ?_

theorem kept_execDatasetManagement (tag : Nat) (s : State) : KeptOut [Fld.CIP_STATUS.NONCE_WARN, Fld.CIP_STATUS.TRNG_READY, Fld.CIP_TRNG_STATUS.POOL, Fld.CIP_TRNG_STATUS.READY, Fld.HFE_COLLECT_MAX.MAX_DEPTH, Fld.MAP_FAULT_COUNT, Fld.MAP_FAULT_IN, Fld.MAP_FAULT_INFO.ARRAY, Fld.MAP_FAULT_INFO.ENTRY, Fld.MAP_FAULT_INFO.EPOCH, Fld.MAP_FAULT_INFO.LANE, Fld.MAP_FAULT_INFO.PC, Fld.MAP_FAULT_INFO.REASON, Fld.MAP_FAULT_UNIT.UNIT, Fld.MAP_TEST_STATUS.BUSY, Fld.MAP_TEST_STATUS.DONE, Fld.MAP_TEST_STATUS.FAULT, Fld.MAP_TEST_STATUS.STEPS, Fld.MIRROR_BYTES, Fld.WC_STATUS.OVER_LIMIT, Fld.WC_STATUS.UNPROTECTED, Fld.WC_UNPROT_MS] s (execDatasetManagement tag s) := by
  unfold execDatasetManagement
  try dsimp only
  repeat' first
    | exact (rfl : (_ : Bool) = _)
    | with_reducible exact Kept.refl
    | with_reducible assumption
    | with_reducible refine KeptOut.next ?_
    | with_reducible refine KeptOut.ite ?_ ?_
    | with_reducible refine Kept.ite ?_ ?_
    | with_reducible apply Kept.step (kept_State_collect _ _ _ _)
    | with_reducible apply Kept.step (kept_State_mapped _ _)
    | with_reducible apply Kept.step (kept_State_reserve _ _)
    | (dsimp only [Kept.mk_form]; with_reducible apply KeptMk.intro (_h0 := rfl) (h3 := rfl))
    | split
    | dsimp only
    | refine Kept.ite ?_ ?_
    | refine KeptOut.ite ?_ ?_
    | refine Kept.step (Kept.ofSnd (kept_State_mapped _ _) (by with_reducible assumption)) ?_ ?_

theorem kept_execNvmeRead (tag : Nat) (s : State) : KeptOut [Fld.ARR_REPAIR_COUNT, Fld.ARR_STATE.LOST_OVERFLOW, Fld.HFE_COLLECT_MAX.MAX_DEPTH, Fld.HFE_DWE_STATUS.ENTRIES, Fld.HFE_DWE_STATUS.OVERFLOW, Fld.MAP_FAULT_COUNT, Fld.MAP_FAULT_IN, Fld.MAP_FAULT_INFO.ARRAY, Fld.MAP_FAULT_INFO.ENTRY, Fld.MAP_FAULT_INFO.EPOCH, Fld.MAP_FAULT_INFO.LANE, Fld.MAP_FAULT_INFO.PC, Fld.MAP_FAULT_INFO.REASON, Fld.MAP_FAULT_UNIT.UNIT, Fld.MAP_TEST_STATUS.BUSY, Fld.MAP_TEST_STATUS.DONE, Fld.MAP_TEST_STATUS.FAULT, Fld.MAP_TEST_STATUS.STEPS, Fld.MIRROR_BYTES, Fld.PQE_SOLVE_COUNT, Fld.PQE_SRC_BYTES, Fld.RBE_LOST_COUNT.ENTRIES, Fld.RBE_LOST_COUNT.OVERFLOW] s (execNvmeRead tag s) := by
  unfold execNvmeRead
  try dsimp only
  repeat' first
    | exact (rfl : (_ : Bool) = _)
    | with_reducible exact Kept.refl
    | with_reducible assumption
    | with_reducible refine KeptOut.next ?_
    | with_reducible refine KeptOut.ite ?_ ?_
    | with_reducible refine Kept.ite ?_ ?_
    | with_reducible apply Kept.step (kept_State_mapped _ _)
    | with_reducible apply Kept.step (kept_State_readPass _ _)
    | (dsimp only [Kept.mk_form]; with_reducible apply KeptMk.intro (_h0 := rfl) (h3 := rfl))
    | split
    | dsimp only
    | refine Kept.ite ?_ ?_
    | refine KeptOut.ite ?_ ?_
    | refine Kept.step (Kept.ofSnd (kept_State_mapped _ _) (by with_reducible assumption)) ?_ ?_

theorem kept_execNvmeVerify (tag : Nat) (s : State) : KeptOut [Fld.ARR_REPAIR_COUNT, Fld.ARR_STATE.LOST_OVERFLOW, Fld.HFE_COLLECT_MAX.MAX_DEPTH, Fld.HFE_DWE_STATUS.ENTRIES, Fld.HFE_DWE_STATUS.OVERFLOW, Fld.MAP_FAULT_COUNT, Fld.MAP_FAULT_IN, Fld.MAP_FAULT_INFO.ARRAY, Fld.MAP_FAULT_INFO.ENTRY, Fld.MAP_FAULT_INFO.EPOCH, Fld.MAP_FAULT_INFO.LANE, Fld.MAP_FAULT_INFO.PC, Fld.MAP_FAULT_INFO.REASON, Fld.MAP_FAULT_UNIT.UNIT, Fld.MAP_TEST_STATUS.BUSY, Fld.MAP_TEST_STATUS.DONE, Fld.MAP_TEST_STATUS.FAULT, Fld.MAP_TEST_STATUS.STEPS, Fld.MIRROR_BYTES, Fld.PQE_SOLVE_COUNT, Fld.PQE_SRC_BYTES, Fld.RBE_LOST_COUNT.ENTRIES, Fld.RBE_LOST_COUNT.OVERFLOW] s (execNvmeVerify tag s) := by
  unfold execNvmeVerify
  try dsimp only
  repeat' first
    | exact (rfl : (_ : Bool) = _)
    | with_reducible exact Kept.refl
    | with_reducible assumption
    | with_reducible refine KeptOut.next ?_
    | with_reducible refine KeptOut.ite ?_ ?_
    | with_reducible refine Kept.ite ?_ ?_
    | with_reducible apply Kept.step (kept_State_mapped _ _)
    | with_reducible apply Kept.step (kept_State_readPass _ _)
    | (dsimp only [Kept.mk_form]; with_reducible apply KeptMk.intro (_h0 := rfl) (h3 := rfl))
    | split
    | dsimp only
    | refine Kept.ite ?_ ?_
    | refine KeptOut.ite ?_ ?_
    | refine Kept.step (Kept.ofSnd (kept_State_mapped _ _) (by with_reducible assumption)) ?_ ?_

theorem kept_execCcEnable (fn : FnIdx) (asqs acqs : Nat) (s : State) : KeptOut [] s (execCcEnable fn asqs acqs s) := by
  unfold execCcEnable
  try dsimp only
  repeat' first
    | exact (rfl : (_ : Bool) = _)
    | with_reducible exact Kept.refl
    | with_reducible assumption
    | with_reducible refine KeptOut.next ?_
    | with_reducible refine KeptOut.ite ?_ ?_
    | with_reducible refine Kept.ite ?_ ?_
    | with_reducible apply Kept.step (kept_State_emit _ _ _)
    | with_reducible apply Kept.step (kept_State_putFn _ _ _)
    | (dsimp only [Kept.mk_form]; with_reducible apply KeptMk.intro (_h0 := rfl) (h3 := rfl))
    | split
    | dsimp only
    | refine Kept.ite ?_ ?_
    | refine KeptOut.ite ?_ ?_

theorem kept_execFunctionReset (fn : FnIdx) (kind : ResetKind) (s : State) : KeptOut [Fld.CH_BYTES, Fld.CH_CTRL.EN, Fld.CH_STATUS.DISABLED_MIDWAY, Fld.CH_STATUS.PENDING, Fld.CH_STATUS.STATE, Fld.CIP_STATUS.CONTEXTS, Fld.HFE_COLLECT_MAX.MAX_DEPTH, Fld.MAP_STATUS.LANES_BUSY, Fld.MIRROR_BYTES, Fld.WC_STATUS.OVER_LIMIT, Fld.WC_STATUS.UNPROTECTED, Fld.WC_UNPROT_MS, Fld.WIN_CTRL.EN] s (execFunctionReset fn kind s) := by
  unfold execFunctionReset
  try dsimp only
  repeat' first
    | exact (rfl : (_ : Bool) = _)
    | with_reducible exact Kept.refl
    | with_reducible assumption
    | with_reducible refine KeptOut.next ?_
    | with_reducible refine KeptOut.ite ?_ ?_
    | with_reducible refine Kept.ite ?_ ?_
    | with_reducible apply Kept.step (kept_State_fenceWake _)
    | with_reducible apply Kept.step (kept_State_portQuiesce _ _)
    | with_reducible apply Kept.step (kept_State_quiesce _ _)
    | (dsimp only [Kept.mk_form]; with_reducible apply KeptMk.intro (_h0 := rfl) (h3 := rfl))
    | split
    | refine Kept.ite ?_ ?_
    | refine KeptOut.ite ?_ ?_

theorem kept_execFunctionResetComplete (fn : FnIdx) (s : State) : KeptOut [] s (execFunctionResetComplete fn s) := by
  unfold execFunctionResetComplete
  try dsimp only
  repeat' first
    | exact (rfl : (_ : Bool) = _)
    | with_reducible exact Kept.refl
    | with_reducible refine KeptOut.next ?_
    | with_reducible refine KeptOut.ite ?_ ?_
    | with_reducible refine Kept.ite ?_ ?_
    | with_reducible apply Kept.step (kept_State_putFn _ _ _)
    | (dsimp only [Kept.mk_form]; with_reducible apply KeptMk.intro (_h0 := rfl) (h3 := rfl))
    | split
    | refine Kept.ite ?_ ?_
    | refine KeptOut.ite ?_ ?_

theorem kept_State_setPerst (s : State) (hp : HostPort) (low : Bool) : Kept [] s (State.setPerst s hp low) := by
  unfold State.setPerst
  try dsimp only
  repeat' first
    | exact (rfl : (_ : Bool) = _)
    | with_reducible exact Kept.refl
    | (dsimp only [Kept.mk_form]; with_reducible apply KeptMk.intro (_h0 := rfl) (h3 := rfl))

theorem kept_execPerstNAssert (hp : HostPort) (s : State) : KeptOut [Fld.CH_BYTES, Fld.CH_CTRL.EN, Fld.CH_STATUS.DISABLED_MIDWAY, Fld.CH_STATUS.PENDING, Fld.CH_STATUS.STATE, Fld.CIP_STATUS.CONTEXTS, Fld.HFE_COLLECT_MAX.MAX_DEPTH, Fld.MAP_STATUS.LANES_BUSY, Fld.MIRROR_BYTES, Fld.WC_STATUS.OVER_LIMIT, Fld.WC_STATUS.UNPROTECTED, Fld.WC_UNPROT_MS, Fld.WIN_CTRL.EN] s (execPerstNAssert hp s) := by
  unfold execPerstNAssert
  try dsimp only
  repeat' first
    | exact (rfl : (_ : Bool) = _)
    | with_reducible exact Kept.refl
    | with_reducible refine KeptOut.next ?_
    | with_reducible apply Kept.step (kept_State_portQuiesce _ _)
    | with_reducible apply Kept.step (kept_State_setPerst _ _ _)

theorem kept_execPerstNRelease (hp : HostPort) (s : State) : KeptOut [] s (execPerstNRelease hp s) := by
  unfold execPerstNRelease
  try dsimp only
  repeat' first
    | exact (rfl : (_ : Bool) = _)
    | with_reducible exact Kept.refl
    | with_reducible refine KeptOut.next ?_
    | with_reducible apply Kept.step (kept_State_setPerst _ _ _)

theorem kept_execHotReset (hp : HostPort) (s : State) : KeptOut [Fld.CH_BYTES, Fld.CH_CTRL.EN, Fld.CH_STATUS.DISABLED_MIDWAY, Fld.CH_STATUS.PENDING, Fld.CH_STATUS.STATE, Fld.CIP_STATUS.CONTEXTS, Fld.HFE_COLLECT_MAX.MAX_DEPTH, Fld.MAP_STATUS.LANES_BUSY, Fld.MIRROR_BYTES, Fld.WC_STATUS.OVER_LIMIT, Fld.WC_STATUS.UNPROTECTED, Fld.WC_UNPROT_MS, Fld.WIN_CTRL.EN] s (execHotReset hp s) := by
  unfold execHotReset
  try dsimp only
  repeat' first
    | exact (rfl : (_ : Bool) = _)
    | with_reducible exact Kept.refl
    | with_reducible refine KeptOut.next ?_
    | with_reducible apply Kept.step (kept_State_portQuiesce _ _)

theorem kept_State_postOne (s : State) (e : Collected) : Kept [Fld.CIP_STATUS.CONTEXTS, Fld.HFE_COLLECT_MAX.MAX_DEPTH, Fld.LAT_C0_DONE, Fld.LAT_C0_EXCL, Fld.LAT_C0_ISSUE_MAX.NS, Fld.LAT_C0_OUTSIDE, Fld.LAT_C0_POST_MAX.NS, Fld.LAT_C0_VIOL, Fld.MIRROR_BYTES, Fld.WC_STATUS.OVER_LIMIT, Fld.WC_STATUS.UNPROTECTED, Fld.WC_UNPROT_MS] s (State.postOne s e) := by
  unfold State.postOne
  try dsimp only
  repeat' first
    | exact (rfl : (_ : Bool) = _)
    | with_reducible exact Kept.refl
    | with_reducible assumption
    | with_reducible refine Kept.ite ?_ ?_
    | with_reducible apply Kept.step (kept_State_countPost _ _)
    | with_reducible apply Kept.step (kept_State_deleteWake _)
    | with_reducible apply Kept.step (kept_State_fenceWake _)
    | with_reducible apply Kept.step (kept_State_postEntry _ _ _)
    | with_reducible apply Kept.step (kept_State_releaseCmd _ _ _)
    | (dsimp only [Kept.mk_form]; with_reducible apply KeptMk.intro (_h0 := rfl) (h3 := rfl))
    | split
    | refine Kept.ite ?_ ?_

theorem kept_execCompletionPost (hp : HostPort) (s : State) : KeptOut [Fld.CIP_STATUS.CONTEXTS, Fld.HFE_COLLECT_MAX.MAX_DEPTH, Fld.LAT_C0_DONE, Fld.LAT_C0_EXCL, Fld.LAT_C0_ISSUE_MAX.NS, Fld.LAT_C0_OUTSIDE, Fld.LAT_C0_POST_MAX.NS, Fld.LAT_C0_VIOL, Fld.MIRROR_BYTES, Fld.WC_STATUS.OVER_LIMIT, Fld.WC_STATUS.UNPROTECTED, Fld.WC_UNPROT_MS] s (execCompletionPost hp s) := by
  unfold execCompletionPost
  try dsimp only
  repeat' first
    | exact (rfl : (_ : Bool) = _)
    | with_reducible exact Kept.refl
    | with_reducible assumption
    | with_reducible refine KeptOut.next ?_
    | with_reducible refine KeptOut.ite ?_ ?_
    | with_reducible refine Kept.ite ?_ ?_
    | with_reducible apply Kept.step (kept_State_postOne _ _)
    | (dsimp only [Kept.mk_form]; with_reducible apply KeptMk.intro (_h0 := rfl) (h3 := rfl))
    | split
    | refine Kept.ite ?_ ?_
    | refine KeptOut.ite ?_ ?_

theorem kept_execCoalescingTimeExpiry (fn : FnIdx) (cq : Nat) (s : State) : KeptOut [] s (execCoalescingTimeExpiry fn cq s) := by
  unfold execCoalescingTimeExpiry
  try dsimp only
  repeat' first
    | exact (rfl : (_ : Bool) = _)
    | with_reducible exact Kept.refl
    | with_reducible assumption
    | with_reducible refine KeptOut.next ?_
    | with_reducible refine KeptOut.ite ?_ ?_
    | with_reducible refine Kept.ite ?_ ?_
    | (dsimp only [Kept.mk_form]; with_reducible apply KeptMk.intro (_h0 := rfl) (h3 := rfl))
    | split
    | dsimp only
    | refine Kept.ite ?_ ?_
    | refine KeptOut.ite ?_ ?_


/-! ### Machine/Power.lean -/

theorem kept_execAcFailNDeassert (s : State) : KeptOut [Fld.CAL_STATUS.BUSY, Fld.CAL_STATUS.ERROR, Fld.CAL_STATUS.FACTORY_VALID, Fld.CAL_STATUS.PREVIOUS_VALID, Fld.CAL_STATUS.USER_VALID, Fld.NRG_AVAIL_J.J, Fld.NRG_CAP_MAH, Fld.NRG_CYCLES.X16, Fld.NRG_E_J.E_J, Fld.NRG_IMPEDANCE.R_FAST, Fld.NRG_IMPEDANCE.R_SLOW, Fld.NRG_LAST_LEARN, Fld.NRG_LAST_TEST, Fld.NRG_PACK_E_J.J, Fld.NRG_RESERVE_J.J, Fld.NRG_STATUS.AC_FAIL, Fld.NRG_STATUS.HOLDUP_EN, Fld.NRG_STATUS.LEARN_ACTIVE, Fld.NRG_STATUS.QUALIFIED_ANY, Fld.NRG_STATUS.TEST_ACTIVE, Fld.PACK_STATUS.CHARGE_PERMIT, Fld.PACK_STATUS.FAILED, Fld.PACK_STATUS.HEALTH, Fld.PACK_STATUS.LEARNING, Fld.PACK_STATUS.PACK_SERIAL, Fld.PACK_STATUS.QUALIFIED, Fld.PACK_STATUS.REPLACE, Fld.PACK_STATUS.TESTING, Fld.WC_LIMIT.MIB, Fld.WC_LIMIT_CFG.MIB, Fld.WC_LIMIT_ENERGY.MIB, Fld.WC_LIMIT_VAULT.MIB, Fld.WC_STATUS.AREA_READY, Fld.WC_STATUS.OVER_LIMIT, Fld.WC_STATUS.UNPROTECTED, Fld.WC_STATUS.WRITE_THROUGH, Fld.WC_UNPROT_MS] s (execAcFailNDeassert s) := by
  unfold execAcFailNDeassert
  try dsimp only
  repeat' first
    | exact (rfl : (_ : Bool) = _)
    | with_reducible exact Kept.refl
    | with_reducible assumption
    | with_reducible refine KeptOut.next ?_
    | with_reducible refine KeptOut.ite ?_ ?_
    | with_reducible refine Kept.ite ?_ ?_
    | with_reducible apply Kept.setBitAt
    | with_reducible apply Kept.setBit
    | with_reducible apply Kept.step (kept_State_emit _ _ _)
    | with_reducible apply Kept.step (kept_State_finishRestore _)
    | with_reducible apply Kept.step (kept_State_putPack _ _ _)
    | with_reducible apply Kept.step (kept_State_requestTest _ _)
    | with_reducible apply Kept.step (kept_State_resumeMains _)
    | with_reducible refine Kept.foldl (fun _ _ _ => ?_) ?_
    | (dsimp only [Kept.mk_form]; with_reducible apply KeptMk.intro (_h0 := rfl) (h3 := rfl))
    | split
    | refine Kept.ite ?_ ?_
    | refine KeptOut.ite ?_ ?_

theorem kept_State_drainBows (s : State) : Kept [Fld.MIRROR_BYTES] s (State.drainBows s) := by
  unfold State.drainBows
  try dsimp only
  repeat' first
    | exact (rfl : (_ : Bool) = _)
    | with_reducible exact Kept.refl
    | with_reducible assumption
    | with_reducible refine Kept.ite ?_ ?_
    | with_reducible apply Kept.step (kept_State_checkpoint _ _ _)
    | with_reducible refine Kept.foldl (fun _ _ _ => ?_) ?_
    | with_reducible refine Kept.foldlFst (fun _ _ _ => ?_) ?_
    | (dsimp only [Kept.mk_form]; with_reducible apply KeptMk.intro (_h0 := rfl) (h3 := rfl))
    | split
    | dsimp only
    | refine Kept.ite ?_ ?_

theorem kept_execWake (s : State) : KeptOut [Fld.PWR_STATE.STATE, Fld.PWR_STATE.TARGET] s (execWake s) := by
  unfold execWake
  try dsimp only
  repeat' first
    | exact (rfl : (_ : Bool) = _)
    | with_reducible exact Kept.refl
    | with_reducible refine KeptOut.next ?_
    | with_reducible apply Kept.step (kept_State_wakeUp _)

theorem kept_execHostLinkL12Exit (hp : HostPort) (s : State) : KeptOut [Fld.PWR_STATE.STATE, Fld.PWR_STATE.TARGET] s (execHostLinkL12Exit hp s) := by
  unfold execHostLinkL12Exit
  try dsimp only
  repeat' first
    | exact (rfl : (_ : Bool) = _)
    | with_reducible exact Kept.refl
    | with_reducible refine KeptOut.next ?_
    | with_reducible refine KeptOut.ite ?_ ?_
    | with_reducible refine Kept.ite ?_ ?_
    | with_reducible apply Kept.step (kept_State_wakeUp _)
    | split
    | dsimp only
    | refine Kept.ite ?_ ?_
    | refine KeptOut.ite ?_ ?_

theorem kept_execApstTransition (fn : FnIdx) (s : State) : KeptOut [Fld.PWR_STATE.STATE, Fld.PWR_STATE.TARGET] s (execApstTransition fn s) := by
  unfold execApstTransition
  try dsimp only
  repeat' first
    | exact (rfl : (_ : Bool) = _)
    | with_reducible exact Kept.refl
    | with_reducible refine KeptOut.next ?_
    | with_reducible refine KeptOut.ite ?_ ?_
    | with_reducible refine Kept.ite ?_ ?_
    | with_reducible apply Kept.step (kept_State_beginEntry _ _)
    | split
    | dsimp only
    | refine Kept.ite ?_ ?_
    | refine KeptOut.ite ?_ ?_

theorem kept_execSysRstNRelease (s : State) : KeptOut [Fld.PWR_RESET_INFO.LONG_HOLD, Fld.PWR_RST_HOLD_MS] s (execSysRstNRelease s) := by
  unfold execSysRstNRelease
  try dsimp only
  repeat' first
    | exact (rfl : (_ : Bool) = _)
    | with_reducible exact Kept.refl
    | with_reducible refine KeptOut.next ?_
    | with_reducible refine KeptOut.ite ?_ ?_
    | with_reducible refine Kept.ite ?_ ?_
    | with_reducible apply Kept.setFldAt
    | with_reducible apply Kept.setFld
    | with_reducible apply Kept.setBitAt
    | with_reducible apply Kept.setBit
    | with_reducible apply Kept.step (kept_State_emit _ _ _)
    | (dsimp only [Kept.mk_form]; with_reducible apply KeptMk.intro (_h0 := rfl) (h3 := rfl))
    | split
    | refine Kept.ite ?_ ?_
    | refine KeptOut.ite ?_ ?_

theorem kept_State_loadFirmware (s : State) (a b : Option FwBank) : Kept [Fld.SYS_FW.BANK, Fld.SYS_FW.FROM_CACHE, Fld.SYS_FW.VERSION] s (State.loadFirmware s a b) := by
  unfold State.loadFirmware
  try dsimp only
  repeat' first
    | exact (rfl : (_ : Bool) = _)
    | with_reducible exact Kept.refl
    | with_reducible assumption
    | with_reducible apply Kept.setFldAt
    | with_reducible apply Kept.setFld
    | with_reducible apply Kept.setBitAt
    | with_reducible apply Kept.setBit
    | with_reducible apply Kept.step (kept_State_emit _ _ _)
    | (dsimp only [Kept.mk_form]; with_reducible apply KeptMk.intro (_h0 := rfl) (h3 := rfl))
    | split
    | dsimp only

theorem kept_execFastBootStart (s : State) : KeptOut [Fld.PWR_AVS.STEP, Fld.PWR_STATE.BOOTING, Fld.PWR_STATE.STATE, Fld.PWR_STATE.TARGET] s (execFastBootStart s) := by
  unfold execFastBootStart
  try dsimp only
  repeat' first
    | exact (rfl : (_ : Bool) = _)
    | with_reducible exact Kept.refl
    | with_reducible refine KeptOut.next ?_
    | with_reducible refine KeptOut.ite ?_ ?_
    | with_reducible refine Kept.ite ?_ ?_
    | with_reducible apply Kept.step (kept_State_startBoot _)
    | split
    | refine Kept.ite ?_ ?_
    | refine KeptOut.ite ?_ ?_

theorem kept_execBootHandover (s : State) : KeptOut [Fld.CAL_STATUS.FACTORY_VALID, Fld.CAL_STATUS.PREVIOUS_VALID, Fld.CAL_STATUS.USER_VALID, Fld.CAPACITY, Fld.CAPO_STATUS.DRIVE, Fld.CAPO_STATUS.GATE_OPEN, Fld.CAPO_STATUS.ROLE, Fld.DRIVE_SERIAL, Fld.EVR_STATUS.MODE, Fld.FAN_GLOBAL.FAULTED, Fld.FAN_GLOBAL.RUNNING, Fld.FAN_RUN_S, Fld.FAN_STATUS.ATTEMPT, Fld.FAN_STATUS.FAULT_CAUSE, Fld.FAN_STATUS.SHIFTING, Fld.FAN_STATUS.STATE, Fld.FAN_TARGET.RPM, Fld.FED_LINK.FED_PORT, Fld.FED_STATUS.ENABLED, Fld.FED_STATUS.NODE_ID, Fld.HFE_STATUS.REPLAY_PENDING, Fld.IMG_BOOT.BOOT_SOURCE, Fld.IMG_BOOT.NONSEMANTIC_DIFF, Fld.IMG_BOOT.REWRITE_PENDING, Fld.IMG_BOOT.SAFE_MODE, Fld.IMG_BOOT.SAFE_REASON, Fld.IMG_COPY.MATCHES_RUNNING, Fld.IMG_COPY.REASON, Fld.IMG_COPY.VALID, Fld.IMG_RUN_DIGEST, Fld.IMG_RUN_SEQ, Fld.LINK_STATUS.MODE, Fld.LINK_STATUS.PWREN, Fld.NRG_AVAIL_J.J, Fld.NRG_CAP_MAH, Fld.NRG_CYCLES.X16, Fld.NRG_E_J.E_J, Fld.NRG_IMPEDANCE.R_FAST, Fld.NRG_IMPEDANCE.R_SLOW, Fld.NRG_LAST_LEARN, Fld.NRG_LAST_TEST, Fld.NRG_PACK_E_J.J, Fld.NRG_RESERVE_J.J, Fld.NRG_STATUS.LEARN_ACTIVE, Fld.NRG_STATUS.QUALIFIED_ANY, Fld.NRG_STATUS.TEST_ACTIVE, Fld.PACK_STATUS.CHARGE_PERMIT, Fld.PACK_STATUS.FAILED, Fld.PACK_STATUS.HEALTH, Fld.PACK_STATUS.LEARNING, Fld.PACK_STATUS.PACK_SERIAL, Fld.PACK_STATUS.QUALIFIED, Fld.PACK_STATUS.REPLACE, Fld.PACK_STATUS.TESTING, Fld.PORT_STATE.ARRAY, Fld.PORT_STATE.MEMBER_INDEX, Fld.PORT_STATE.STATE, Fld.PQE_STATUS.KAT_BUSY, Fld.PQE_STATUS.SLICE_ACTIVE, Fld.THERM_STATUS.CLOCK_STEPS, Fld.WC_LIMIT.MIB, Fld.WC_LIMIT_CFG.MIB, Fld.WC_LIMIT_ENERGY.MIB, Fld.WC_LIMIT_VAULT.MIB, Fld.WC_STATUS.AREA_READY, Fld.WC_STATUS.OVER_LIMIT, Fld.WC_STATUS.UNPROTECTED, Fld.WC_STATUS.WRITE_THROUGH, Fld.WC_UNPROT_MS] s (execBootHandover s) := by
  unfold execBootHandover
  try dsimp only
  repeat' first
    | exact (rfl : (_ : Bool) = _)
    | with_reducible exact Kept.refl
    | with_reducible refine KeptOut.next ?_
    | with_reducible refine KeptOut.ite ?_ ?_
    | with_reducible refine Kept.ite ?_ ?_
    | with_reducible apply Kept.step (kept_State_handOver _)
    | split
    | refine Kept.ite ?_ ?_
    | refine KeptOut.ite ?_ ?_

theorem kept_execHostLinkReady (s : State) : KeptOut [Fld.HFE_DWE_STATUS.ENTRIES, Fld.HFE_DWE_STATUS.OVERFLOW, Fld.HFE_STATUS.REPLAY_PENDING, Fld.MIRROR_BYTES, Fld.PWR_BOOT_US, Fld.PWR_STATE.BOOTING, Fld.WC_REPLAY.RESULT, Fld.WC_STATUS.OVER_LIMIT, Fld.WC_STATUS.UNPROTECTED, Fld.WC_UNPROT_MS] s (execHostLinkReady s) := by
  unfold execHostLinkReady
  try dsimp only
  repeat' first
    | exact (rfl : (_ : Bool) = _)
    | with_reducible exact Kept.refl
    | with_reducible assumption
    | with_reducible refine KeptOut.next ?_
    | with_reducible refine KeptOut.ite ?_ ?_
    | with_reducible refine Kept.ite ?_ ?_
    | with_reducible apply Kept.setFldAt
    | with_reducible apply Kept.setFld
    | with_reducible apply Kept.setBitAt
    | with_reducible apply Kept.setBit
    | with_reducible apply Kept.step (kept_State_noReplay _)
    | split
    | refine Kept.ite ?_ ?_
    | refine KeptOut.ite ?_ ?_

theorem kept_execPllLock (pll : Nat) (s : State) : KeptOut [] s (execPllLock pll s) := by
  unfold execPllLock
  try dsimp only
  repeat' first
    | exact (rfl : (_ : Bool) = _)
    | with_reducible exact Kept.refl
    | with_reducible refine KeptOut.next ?_
    | with_reducible refine KeptOut.ite ?_ ?_
    | with_reducible refine Kept.ite ?_ ?_
    | (dsimp only [Kept.mk_form]; with_reducible apply KeptMk.intro (_h0 := rfl) (h3 := rfl))
    | split
    | refine Kept.ite ?_ ?_
    | refine KeptOut.ite ?_ ?_

theorem kept_execPllLockTimeout (pll : Nat) (s : State) : KeptOut [] s (execPllLockTimeout pll s) := by
  unfold execPllLockTimeout
  try dsimp only
  repeat' first
    | exact (rfl : (_ : Bool) = _)
    | with_reducible exact Kept.refl
    | with_reducible assumption
    | with_reducible refine KeptOut.next ?_
    | with_reducible refine KeptOut.ite ?_ ?_
    | with_reducible refine Kept.ite ?_ ?_
    | with_reducible apply Kept.step (kept_State_raiseFatal _ _)
    | split
    | refine Kept.ite ?_ ?_
    | refine KeptOut.ite ?_ ?_

theorem kept_execRailOutOfRange (s : State) : KeptOut [Fld.PWR_RESET_INFO.RAIL] s (execRailOutOfRange s) := by
  unfold execRailOutOfRange
  try dsimp only
  repeat' first
    | exact (rfl : (_ : Bool) = _)
    | with_reducible exact Kept.refl
    | with_reducible assumption
    | with_reducible refine KeptOut.next ?_
    | with_reducible refine KeptOut.ite ?_ ?_
    | with_reducible refine Kept.ite ?_ ?_
    | with_reducible apply Kept.setBitAt
    | with_reducible apply Kept.setBit
    | with_reducible apply Kept.step (kept_State_raiseFatal _ _)
    | (dsimp only [Kept.mk_form]; with_reducible apply KeptMk.intro (_h0 := rfl) (h3 := rfl))
    | split
    | refine Kept.ite ?_ ?_
    | refine KeptOut.ite ?_ ?_

theorem kept_execRailRecovered (s : State) : KeptOut [] s (execRailRecovered s) := by
  unfold execRailRecovered
  try dsimp only
  repeat' first
    | exact (rfl : (_ : Bool) = _)
    | with_reducible exact Kept.refl
    | with_reducible refine KeptOut.next ?_
    | (dsimp only [Kept.mk_form]; with_reducible apply KeptMk.intro (_h0 := rfl) (h3 := rfl))


/-! ### Machine/RegAccess.lean -/

theorem kept_State_refused (s : State) (i : Iface) (reason addr : Nat) : Kept [Fld.SYS_BUS_ADDR.OFFSET, Fld.SYS_BUS_STATUS.ERR, Fld.SYS_BUS_STATUS.IFACE, Fld.SYS_BUS_STATUS.REASON] s (State.refused s i reason addr) := by
  unfold State.refused
  try dsimp only
  repeat' first
    | exact (rfl : (_ : Bool) = _)
    | with_reducible exact Kept.refl
    | with_reducible refine Kept.ite ?_ ?_
    | with_reducible apply Kept.step (kept_State_busError _ _ _ _)
    | with_reducible apply Kept.step (kept_State_emit _ _ _)
    | split
    | refine Kept.ite ?_ ?_

theorem kept_State_writeMsix (s : State) (f : FnIdx) (addr value : Nat) : Kept [] s (State.writeMsix s f addr value) := by
  unfold State.writeMsix
  try dsimp only
  repeat' first
    | exact (rfl : (_ : Bool) = _)
    | with_reducible exact Kept.refl
    | with_reducible apply Kept.step (kept_State_putFn _ _ _)
    | (dsimp only [Kept.mk_form]; with_reducible apply KeptMk.intro (_h0 := rfl) (h3 := rfl))

theorem kept_State_answered (s : State) (l : List Nat) : Kept [] s (State.answered s l) := by
  unfold State.answered
  try dsimp only
  repeat' first
    | exact (rfl : (_ : Bool) = _)
    | with_reducible exact Kept.refl
    | (dsimp only [Kept.mk_form]; with_reducible apply KeptMk.intro (_h0 := rfl) (h3 := rfl))

theorem kept_State_writeStage (s : State) (i : Iface) (addr value : Nat) : Kept [Fld.IMG_STAGE_STATUS.ERROR] s (State.writeStage s i addr value) := by
  unfold State.writeStage
  try dsimp only
  repeat' first
    | exact (rfl : (_ : Bool) = _)
    | with_reducible exact Kept.refl
    | with_reducible refine Kept.ite ?_ ?_
    | with_reducible apply Kept.step (kept_State_stageError _ _)
    | (dsimp only [Kept.mk_form]; with_reducible apply KeptMk.intro (_h0 := rfl) (h3 := rfl))
    | split
    | refine Kept.ite ?_ ?_

theorem kept_State_writeScCtrl (s : State) (value : Nat) : Kept [Fld.SC_CTRL.EVICT_PATH, Fld.SC_CTRL.PREFETCH_EN, Fld.SC_RANGE_STATUS.ERR_CODE] s (State.writeScCtrl s value) := by
  unfold State.writeScCtrl
  try dsimp only
  repeat' first
    | exact (rfl : (_ : Bool) = _)
    | with_reducible exact Kept.refl
    | with_reducible apply Kept.setBitAt
    | with_reducible apply Kept.setBit
    | with_reducible apply Kept.step (kept_State_scEvictPath _ _)

theorem kept_State_writeFanCtrl (s : State) (n value : Nat) : Kept [Fld.CAL_STATUS.FACTORY_VALID, Fld.CAL_STATUS.PREVIOUS_VALID, Fld.CAL_STATUS.USER_VALID, Fld.FAN_CTRL.HOST_PCT, Fld.FAN_CTRL.SOURCE, Fld.FAN_GLOBAL.FAULTED, Fld.FAN_GLOBAL.RUNNING, Fld.FAN_RUN_S, Fld.FAN_STATUS.ATTEMPT, Fld.FAN_STATUS.FAULT_CAUSE, Fld.FAN_STATUS.SHIFTING, Fld.FAN_STATUS.STATE, Fld.FAN_TARGET.RPM] s (State.writeFanCtrl s n value) := by
  unfold State.writeFanCtrl
  try dsimp only
  repeat' first
    | exact (rfl : (_ : Bool) = _)
    | with_reducible exact Kept.refl
    | with_reducible apply Kept.setFldAt
    | with_reducible apply Kept.setFld
    | with_reducible apply Kept.step (kept_State_updateFans _)

theorem kept_State_writeArrRate (s : State) (a value : Nat) : Kept [Fld.ARR_RATE.CAP_MBPS, Fld.ARR_RATE.SHARE_PCT] s (State.writeArrRate s a value) := by
  unfold State.writeArrRate
  try dsimp only
  repeat' first
    | exact (rfl : (_ : Bool) = _)
    | with_reducible exact Kept.refl
    | with_reducible apply Kept.setFldAt
    | with_reducible apply Kept.setFld

theorem kept_State_writePluckSel (s : State) (value : Nat) : Kept [Fld.PLUCK_DATA, Fld.PLUCK_SEL.INDEX] s (State.writePluckSel s value) := by
  unfold State.writePluckSel
  try dsimp only
  repeat' first
    | exact (rfl : (_ : Bool) = _)
    | with_reducible exact Kept.refl
    | with_reducible apply Kept.setFldAt
    | with_reducible apply Kept.setFld

theorem kept_State_holdLo (s : State) (i : Iface) (f : Field) (value : Nat) : Kept [] s (State.holdLo s i f value) := by
  unfold State.holdLo
  try dsimp only
  repeat' first
    | exact (rfl : (_ : Bool) = _)
    | with_reducible exact Kept.refl
    | (dsimp only [Kept.mk_form]; with_reducible apply KeptMk.intro (_h0 := rfl) (h3 := rfl))

theorem kept_execLastStatus (s : State) : KeptOut [] s (execLastStatus s) := by
  unfold execLastStatus
  try dsimp only
  repeat' first
    | exact (rfl : (_ : Bool) = _)
    | with_reducible exact Kept.refl
    | with_reducible refine KeptOut.next ?_
    | with_reducible refine KeptOut.ite ?_ ?_
    | with_reducible refine Kept.ite ?_ ?_
    | with_reducible apply Kept.step (kept_State_answered _ _)
    | split
    | refine Kept.ite ?_ ?_
    | refine KeptOut.ite ?_ ?_

theorem kept_execHistClear (s : State) : KeptOut [Fld.SYS_BUS_ADDR.OFFSET, Fld.SYS_BUS_STATUS.ERR, Fld.SYS_BUS_STATUS.IFACE, Fld.SYS_BUS_STATUS.REASON] s (execHistClear s) := by
  unfold execHistClear
  try dsimp only
  repeat' first
    | exact (rfl : (_ : Bool) = _)
    | with_reducible exact Kept.refl
    | with_reducible refine KeptOut.next ?_
    | with_reducible refine KeptOut.command rfl Kept.refl ?_
    | (dsimp only [Kept.mk_form]; with_reducible apply KeptMk.intro (_h0 := rfl) (h3 := rfl))


/-! ### Machine/Thermal.lean -/

theorem kept_State_setStop (s : State) (x : Option ThermStop) : Kept [] s (State.setStop s x) := by
  unfold State.setStop
  try dsimp only
  repeat' first
    | exact (rfl : (_ : Bool) = _)
    | with_reducible exact Kept.refl
    | (dsimp only [Kept.mk_form]; with_reducible apply KeptMk.intro (_h0 := rfl) (h3 := rfl))

theorem kept_State_tempWarn (s : State) (f : FnIdx) : Kept [] s (State.tempWarn s f) := by
  unfold State.tempWarn
  try dsimp only
  repeat' first
    | exact (rfl : (_ : Bool) = _)
    | with_reducible exact Kept.refl
    | with_reducible assumption
    | with_reducible apply Kept.step (kept_State_adminDone _ _ _ _ _ _)
    | with_reducible apply Kept.step (kept_State_putFn _ _ _)
    | (dsimp only [Kept.mk_form]; with_reducible apply KeptMk.intro (_h0 := rfl) (h3 := rfl))
    | split

theorem kept_State_tempThresholds (s : State) : Kept [] s (State.tempThresholds s) := by
  unfold State.tempThresholds
  try dsimp only
  repeat' first
    | exact (rfl : (_ : Bool) = _)
    | with_reducible exact Kept.refl
    | with_reducible assumption
    | with_reducible refine Kept.ite ?_ ?_
    | with_reducible apply Kept.step (kept_State_tempWarn _ _)
    | with_reducible refine Kept.foldl (fun _ _ _ => ?_) ?_
    | (dsimp only [Kept.mk_form]; with_reducible apply KeptMk.intro (_h0 := rfl) (h3 := rfl))
    | split
    | refine Kept.ite ?_ ?_

theorem kept_State_thermCycle (s : State) (first : Bool) : Kept [Fld.AGE_THERM_CYCLES] s (State.thermCycle s first) := by
  unfold State.thermCycle
  try dsimp only
  repeat' first
    | exact (rfl : (_ : Bool) = _)
    | with_reducible exact Kept.refl
    | with_reducible assumption
    | with_reducible refine Kept.ite ?_ ?_
    | with_reducible apply Kept.satFldAt
    | with_reducible apply Kept.satFld
    | (dsimp only [Kept.mk_form]; with_reducible apply KeptMk.intro (_h0 := rfl) (h3 := rfl))
    | split
    | dsimp only
    | refine Kept.ite ?_ ?_

theorem kept_State_tjMax (s : State) : Kept [Fld.AGE_TJ_MAX.TJ] s (State.tjMax s) := by
  unfold State.tjMax
  try dsimp only
  repeat' first
    | exact (rfl : (_ : Bool) = _)
    | with_reducible exact Kept.refl
    | with_reducible refine Kept.ite ?_ ?_
    | with_reducible apply Kept.setFldAt
    | with_reducible apply Kept.setFld
    | split
    | refine Kept.ite ?_ ?_

theorem kept_State_tempSteps (s : State) : Kept [Fld.AGE_AVS_STEPS.AGING, Fld.AGE_AVS_STEPS.EXTRA_CLOCK, Fld.AGE_AVS_STEPS.TEMP, Fld.PWR_AVS.STEP, Fld.THERM_STATUS.CLOCK_STEPS] s (State.tempSteps s) := by
  unfold State.tempSteps
  try dsimp only
  repeat' first
    | exact (rfl : (_ : Bool) = _)
    | with_reducible exact Kept.refl
    | with_reducible refine Kept.ite ?_ ?_
    | with_reducible apply Kept.step (kept_State_avsSteps _ _)
    | split
    | refine Kept.ite ?_ ?_


end Sys2Proof.Machine
end

