-- ==== Sys2Proof/Laws/Mem.lean ====
section
/-!
SUPPORT. Laws/Mem.lean: the laws of HBM's bytes: what a read after a write gives, that every write keeps the canonical form, and that memory
at reset has it.
-/
namespace Sys2Proof.Machine

@[simp] theorem memGet_nil (a : Nat) : memGet [] a = memDefault := rfl

/-- Whether every listed address lies above a bound. -/
def memAbove (lo : Nat) (m : List Host.Cell) : Prop := ∀ p ∈ m.head?, lo < p.1

theorem memWf_cons (i : Nat) (b : Byte) (r : List Host.Cell) :
    memWf ((i, b) :: r) = true ↔ b ≠ memDefault ∧ memAbove i r ∧ memWf r = true := by
  cases r with
  | nil => simp [memWf, memAbove]
  | cons p q => obtain ⟨j, c⟩ := p; simp [memWf, memAbove, and_assoc]

theorem memGet_above {lo : Nat} {m : List Host.Cell} (hw : memWf m = true) (h : memAbove lo m) {a : Nat} (ha : a ≤ lo) :
    memGet m a = memDefault := by
  cases m with
  | nil => rfl
  | cons p r =>
    obtain ⟨i, b⟩ := p
    have hi : lo < i := h (i, b) (by simp)
    have h1 : i ≠ a := by omega
    have h2 : a < i := by omega
    simp [memGet, h1, h2]

theorem memAbove_set {lo : Nat} {m : List Host.Cell} (hw : memWf m = true) (h : memAbove lo m) {a : Nat} (ha : lo < a) (b : Byte) :
    memAbove lo (memSet m a b) := by
  cases m with
  | nil =>
    unfold memSet
    split_ifs <;> simp [memAbove, ha]
  | cons p r =>
    obtain ⟨i, c⟩ := p
    have hi : lo < i := h (i, c) (by simp)
    unfold memSet
    split_ifs
    · simpa [memAbove] using hi
    · simpa [memAbove] using ha
    · rw [memWf_cons] at hw
      intro p hp
      exact lt_trans hi (hw.2.1 p hp)
    · simpa [memAbove] using ha
    · simpa [memAbove] using hi

/-- A write keeps the canonical form. -/
theorem memWf_set {m : List Host.Cell} (hw : memWf m = true) (a : Nat) (b : Byte) : memWf (memSet m a b) = true := by
  induction m with
  | nil =>
    unfold memSet
    split_ifs with h
    · rfl
    · simpa [memWf] using h
  | cons p r ih =>
    obtain ⟨i, c⟩ := p
    have hc := hw
    rw [memWf_cons] at hc
    unfold memSet
    split_ifs with h1 h2 h3 h4
    · exact hw
    · rw [memWf_cons]
      exact ⟨h2, by intro p hp; simp at hp; subst hp; exact h1, hw⟩
    · exact hc.2.2
    · rw [memWf_cons]
      exact ⟨h4, h3 ▸ hc.2.1, hc.2.2⟩
    · rw [memWf_cons]
      exact ⟨hc.1, memAbove_set hc.2.2 hc.2.1 (by omega) b, ih hc.2.2⟩

/-- A byte read after a write to its address. -/
theorem memGet_set_same {m : List Host.Cell} (hw : memWf m = true) (a : Nat) (b : Byte) : memGet (memSet m a b) a = b := by
  induction m with
  | nil =>
    unfold memSet
    split_ifs with h
    · simp [h]
    · simp [memGet]
  | cons p r ih =>
    obtain ⟨i, c⟩ := p
    have hc := hw
    rw [memWf_cons] at hc
    unfold memSet
    split_ifs with h1 h2 h3 h4
    · have h5 : i ≠ a := by omega
      simp [memGet, h5, h1, h2]
    · simp [memGet]
    · subst h3; rw [memGet_above hc.2.2 hc.2.1 (le_refl _)]; exact h4.symm
    · simp [memGet]
    · have h5 : i ≠ a := fun h => h3 h.symm
      simp only [memGet, h5, h1, if_false]
      exact ih hc.2.2

/-- A byte read after a write to another address. -/
theorem memGet_set_ne {m : List Host.Cell} (hw : memWf m = true) (a x : Nat) (b : Byte) (hx : x ≠ a) :
    memGet (memSet m a b) x = memGet m x := by
  induction m with
  | nil =>
    unfold memSet
    split_ifs with h
    · rfl
    · have h1 : a ≠ x := fun h => hx h.symm
      simp [memGet, h1]
  | cons p r ih =>
    obtain ⟨i, c⟩ := p
    have hc := hw
    rw [memWf_cons] at hc
    have hax : a ≠ x := fun h => hx h.symm
    unfold memSet
    split_ifs with h1 h2 h3 h4
    · rfl
    · by_cases h : x < a
      · have h5 : i ≠ x := by omega
        have h6 : x < i := by omega
        simp [memGet, hax, h, h5, h6]
      · simp [memGet, hax, h]
    · subst h3
      by_cases h : x < a
      · rw [memGet_above hc.2.2 hc.2.1 (by omega : x ≤ a)]
        simp [memGet, hax, h]
      · simp [memGet, hax, h]
    · subst h3; simp [memGet, hax]
    · by_cases h5 : i = x
      · simp [memGet, h5]
      · simp only [memGet, h5, if_false]
        rw [ih hc.2.2]

/-- Writing several bytes keeps the canonical form. -/
theorem memWf_setList {m : List Host.Cell} (hw : memWf m = true) (a : Nat) (bs : List Nat) : memWf (memSetList m a bs) = true := by
  induction bs generalizing m a with
  | nil => exact hw
  | cons b r ih => exact ih (memWf_set hw a _) (a + 1)

/-- A byte outside the bytes written is as it was. -/
theorem memGet_setList_out {m : List Host.Cell} (hw : memWf m = true) (a x : Nat) (bs : List Nat) (hx : x < a ∨ a + bs.length ≤ x) :
    memGet (memSetList m a bs) x = memGet m x := by
  induction bs generalizing m a with
  | nil => rfl
  | cons b r ih =>
    simp only [List.length_cons] at hx
    rw [memSetList, ih (memWf_set hw a _) (a + 1) (by omega), memGet_set_ne hw a x _ (by omega)]

theorem memWf_foldSet {m : List Host.Cell} (hw : memWf m = true) (l : List Nat) (p : Nat → Prop) [DecidablePred p] (f : Nat → Nat)
    (g : Nat → Byte) : memWf (l.foldl (fun m i => if p i then memSet m (f i) (g i) else m) m) = true := by
  induction l generalizing m with
  | nil => exact hw
  | cons i l ih =>
    refine ih ?_
    dsimp only
    split_ifs
    · exact memWf_set hw _ _
    · exact hw

/-- Writing the masked bytes of a line keeps the canonical form. -/
theorem memWf_mask {m : List Host.Cell} (hw : memWf m = true) (line mask data : Nat) : memWf (memMask m line mask data) = true :=
  memWf_foldSet hw _ (fun i => mask / 2 ^ i % 2 = 1) _ _

theorem memGet_foldSet_out {m : List Host.Cell} (hw : memWf m = true) (l : List Nat) (p : Nat → Prop) [DecidablePred p] (f : Nat → Nat)
    (g : Nat → Byte) (x : Nat) (hx : ∀ i ∈ l, p i → f i ≠ x) :
    memGet (l.foldl (fun m i => if p i then memSet m (f i) (g i) else m) m) x = memGet m x := by
  induction l generalizing m with
  | nil => rfl
  | cons i l ih =>
    simp only [List.foldl_cons]
    split_ifs with h
    · rw [ih (memWf_set hw _ _) (fun j hj => hx j (by simp [hj])), memGet_set_ne hw _ _ _ (fun e => hx i (by simp) h e.symm)]
    · exact ih hw (fun j hj => hx j (by simp [hj]))

/-- A byte outside a line is as it was after a masked write of the line. -/
theorem memGet_mask_out {m : List Host.Cell} (hw : memWf m = true) (line mask data x : Nat) (hx : x / 128 ≠ line) :
    memGet (memMask m line mask data) x = memGet m x := by
  refine memGet_foldSet_out hw _ (fun i => mask / 2 ^ i % 2 = 1) (fun i => line * 128 + i) _ x ?_
  intro i hi _ e
  have hi : i < 128 := by simpa using hi
  apply hx
  subst e
  omega

/-- A byte of a line whose mask bit is clear is as it was. -/
theorem memGet_mask_clear {m : List Host.Cell} (hw : memWf m = true) (line mask data i : Nat) (hi : i < 128) (hm : mask / 2 ^ i % 2 ≠ 1) :
    memGet (memMask m line mask data) (line * 128 + i) = memGet m (line * 128 + i) := by
  refine memGet_foldSet_out hw _ (fun i => mask / 2 ^ i % 2 = 1) (fun i => line * 128 + i) _ _ ?_
  intro j _ hj e
  have : j = i := by omega
  subst this
  exact hm hj

theorem memGet_foldSet_in {m : List Host.Cell} (hw : memWf m = true) (l : List Nat) (p : Nat → Prop) [DecidablePred p] (f : Nat → Nat)
    (g : Nat → Byte) (hf : ∀ i j, f i = f j → i = j) (i : Nat) (hi : i ∈ l) (hp : p i) :
    memGet (l.foldl (fun m i => if p i then memSet m (f i) (g i) else m) m) (f i) = g i := by
  induction l generalizing m with
  | nil => simp at hi
  | cons j l ih =>
    simp only [List.foldl_cons]
    have hw' : memWf (if p j then memSet m (f j) (g j) else m) = true := by
      split_ifs
      · exact memWf_set hw _ _
      · exact hw
    by_cases hl : i ∈ l
    · exact ih hw' hl
    · have hj : i = j := by
        rcases List.mem_cons.1 hi with h | h
        · exact h
        · exact absurd h hl
      subst hj
      rw [memGet_foldSet_out hw' l p f g (f i) (fun k hk _ e => hl (hf _ _ e ▸ hk))]
      simp only [hp, if_true]
      exact memGet_set_same hw _ _

/-- A byte of a line whose mask bit is set holds the byte written. -/
theorem memGet_mask_set {m : List Host.Cell} (hw : memWf m = true) (line mask data i : Nat) (hi : i < 128) (hm : mask / 2 ^ i % 2 = 1) :
    memGet (memMask m line mask data) (line * 128 + i) = BitVec.ofNat 8 (data / 256 ^ i % 256) :=
  memGet_foldSet_in hw _ (fun i => mask / 2 ^ i % 2 = 1) (fun i => line * 128 + i) (fun i => BitVec.ofNat 8 (data / 256 ^ i % 256))
    (fun _ _ e => by omega) i (by simpa using hi) hm

/-- Memory at reset has the canonical form. -/
theorem memWf_reset : memWf State.reset.sc.hbm = true := rfl

end Sys2Proof.Machine
end

