-- ==== Sys2Proof/WellFormed.lean ====
section
/-!
DEFINITION. WellFormed.lean: which commands keep every operand inside the width that the spec gives the field it travels in (R6, R46, R114,
R456, R458). A meaning answers any operand; well-formedness says which a sender can spell.
-/
namespace Sys2Proof

/-- Whether a number fits a field of n bits. -/
def fits (n v : Nat) : Bool := decide (v < 2 ^ n)

/-- Whether every element of a list is a byte. -/
def areBytes (l : List Nat) : Bool := l.all (fits 8)

/-- A sector, tag or line of n bytes. -/
def fitsBytes (n : Nat) (b : Blob) : Bool := fits (8 * n) b

/-- Whether a queue entry's fields fit theirs: 16-bit CID, 32-bit NSID. -/
def entryWf (e : SqEntry) : Bool := fits 16 e.cid && fits 32 e.nsid

/-- Whether a format asked for fits its fields: LBA format 4 bits, protection information 3, its place 1, metadata settings 1. -/
def formatWf (f : FormatAsked) : Bool := fits 4 f.lbaf && fits 3 f.pi && fits 1 f.pil && fits 1 f.mset

/-- A command every operand of which fits its field. -/
def Instr.wf (i : Instr) : Bool :=
  match i with
  | .acFailNAssert => true
  | .acFailNDeassert => true
  | .dumpCommit => true
  | .packCutoff _ _ => true
  | .packTempRecover _ => true
  | .aonRstNAssert => true
  | .pegboxStart _ _ _ _ _ _ _ _ => true
  | .pegboxWatchdogReset => true
  | .sysRstNAssert => true
  | .sysRstNRelease => true
  | .fastBootStart => true
  | .bootHandover => true
  | .hostLinkReady => true
  | .imageCopyRewrite _ _ => true
  | .pllLock _ => true
  | .pllLockTimeout _ => true
  | .railOutOfRange => true
  | .railRecovered => true
  | .stageOpen _ => true
  | .stageVerify _ _ => true
  | .stageCommit _ => true
  | .activateLive _ => true
  | .activateReset _ => true
  | .activateResetDestaged => true
  | .stageAbort _ => true
  | .selectCopyA _ => true
  | .selectCopyB _ => true
  | .signingKeyEnrol _ _ => true
  | .signingKeyRevoke _ _ => true
  | .restoreFactory => true
  | .restorePrevious => true
  | .factoryCommit => true
  | .backgroundInitGroup _ => true
  | .mappingDispatch _ => true
  | .mappingEmit _ => true
  | .mappingStepLimit _ => true
  | .testMappingGo => true
  | .doorbellWrite _ sq tail => fits 16 sq && fits 16 tail
  | .cqHeadDoorbell _ cq head => fits 16 cq && fits 16 head
  | .fetchGrant _ sq entries => fits 16 sq && entries.all entryWf
  | .rangeLockGrant tag => fits 16 tag
  | .createIoSq _ cid qid _ cqid => fits 16 cid && fits 16 qid && fits 16 cqid
  | .createIoCq _ cid qid _ vector _ => fits 16 cid && fits 16 qid && fits 16 vector
  | .deleteIoSq _ cid qid => fits 16 cid && fits 16 qid
  | .deleteIoCq _ cid qid => fits 16 cid && fits 16 qid
  | .getLogPage _ cid lid lsp _ => fits 16 cid && fits 8 lid && fits 7 lsp
  | .identify _ cid cns nsid => fits 16 cid && fits 8 cns && fits 32 nsid
  | .abortCommand _ cid sqid target => fits 16 cid && fits 16 sqid && fits 16 target
  | .setFeaturesNumberOfQueues _ cid nsq ncq => fits 16 cid && fits 16 nsq && fits 16 ncq
  | .setFeaturesPowerManagement _ cid ps => fits 16 cid && fits 5 ps
  | .setFeaturesQueueClass _ cid sqid _ => fits 16 cid && fits 16 sqid
  | .setFeaturesProtectionWindow _ cid nsid _ start _ flags token => fits 16 cid && fits 32 nsid && fits 64 start && fits 32 flags && fits 256 token
  | .setFeaturesArbitration _ cid value => fits 16 cid && fits 32 value
  | .setFeaturesOther _ cid fid given => fits 16 cid && fits 8 fid && fits 32 given.value
  | .getFeatures _ cid fid arg => fits 16 cid && fits 8 fid && fits 32 arg
  | .asynchronousEventRequest _ cid => fits 16 cid
  | .formatNvm _ cid nsid ses fmt => fits 16 cid && fits 32 nsid && fits 3 ses && formatWf fmt
  | .sanitizeOverwrite _ cid pattern passes _ => fits 16 cid && fits 32 pattern && fits 4 passes
  | .sanitizeCryptoErase _ cid => fits 16 cid
  | .sanitizeOther _ cid sanact => fits 16 cid && fits 3 sanact
  | .invalidOpcodeCommand _ sq cid => fits 16 sq && fits 16 cid
  | .formatWatermarkSave nsid => fits 32 nsid
  | .formatEnd nsid => fits 32 nsid
  | .sanitizeEnd => true
  | .nvmeFlush tag => fits 16 tag
  | .nvmeWrite tag plain => fits 16 tag && plain.all (fitsBytes 4096)
  | .nvmeRead tag => fits 16 tag
  | .writeZeroes tag => fits 16 tag
  | .datasetManagement tag => fits 16 tag
  | .nvmeVerify tag => fits 16 tag
  | .ccEnable _ asqs acqs => fits 12 asqs && fits 12 acqs
  | .functionReset _ _ => true
  | .functionResetComplete _ => true
  | .perstNAssert _ => true
  | .perstNRelease _ => true
  | .memberCompletion _ _ _ => true
  | .completionPost _ => true
  | .writePlaced tag => fits 16 tag
  | .dirtyLimitAdmit => true
  | .dirtyLimitRecompute => true
  | .dirtyNamespaceSetAck nsid => fits 32 nsid
  | .dirtyNamespaceClear nsid => fits 32 nsid
  | .mirrorAck => true
  | .mirrorLost => true
  | .stripeUpdateStart _ stripe => fits 64 stripe
  | .dirtyAgeExpiry nsid lba => fits 32 nsid && fits 64 lba
  | .gatherExpiry _ stripe => fits 64 stripe
  | .stripeUpdateReadsDone id => fits 32 id
  | .stripeUpdateContextSaved id => fits 32 id
  | .fretSetAck id => fits 32 id
  | .dataWritesDone id => fits 32 id
  | .parityWritesDone id => fits 32 id
  | .fretClear _ => true
  | .fretClearAck _ => true
  | .wcDestageAll => true
  | .wcClearIdle => true
  | .dumpRetire _ => true
  | .areaEraseDone _ => true
  | .vaultReplayStart => true
  | .vaultReplayComplete => true
  | .reshapeUncleanRerun _ => true
  | .resyncScanStep _ => true
  | .katRun => true
  | .katPeriodic => true
  | .katResult _ _ => true
  | .slowWindowEval _ _ _ _ => true
  | .slowFailExpiry _ _ => true
  | .rebuildStripe _ => true
  | .copybackUnit _ => true
  | .scrubPeriodStart _ => true
  | .scrubStripe _ => true
  | .reshapeStep _ => true
  | .arrScrubNow _ => true
  | .arrPause _ => true
  | .arrResume _ => true
  | .arrFailMember _ _ => true
  | .arrCopyback _ => true
  | .memberDeadline _ _ => true
  | .histClear => true
  | .latC0IssueMaxRead => true
  | .latC0PostMaxRead => true
  | .hfeCollectMaxRead _ => true
  | .errDepthMaxRead => true
  | .pairLoRead _ addr => fits 26 addr
  | .pairLoWrite _ addr value => fits 26 addr && fits 32 value
  | .pairHiWrite _ addr value => fits 26 addr && fits 32 value
  | .groupWord0Read _ addr => fits 26 addr
  | .registerWrite _ addr value => fits 26 addr && fits 32 value
  | .scReadRequest _ _ _ => true
  | .scFillReturn _ _ => true
  | .scWriteRequest _ _ mask data => fits 128 mask && fitsBytes 128 data
  | .mergeBufferDrain _ => true
  | .hbmWriteAck _ => true
  | .evictionBufferExpiry _ => true
  | .ownershipRequest _ _ => true
  | .recallWriteBack _ data => fitsBytes 128 data
  | .retryReissue _ _ => true
  | .scMaintClean _ => true
  | .scMaintInvalidate _ => true
  | .scMaintCleanInvalidate _ => true
  | .scRangeClean => true
  | .scRangeInvalidate => true
  | .scRangeCleanInvalidate => true
  | .scPreload => true
  | .scInvalidateWays => true
  | .scRangeDone => true
  | .scMaintDone => true
  | .scLockWrite ways => fits 16 ways
  | .evictPathSwitch _ => true
  | .scInitDone => true
  | .scEccError _ _ => true
  | .dmaStart _ _ => true
  | .dmaTimer _ => true
  | .dmaDescFetch _ bytes => areBytes bytes
  | .dmaGrant _ src => areBytes src
  | .dmaReadBack _ _ => true
  | .dmaBusError _ _ _ => true
  | .dmaHalt _ code => fits 4 code
  | .dmaDisable _ _ => true
  | .dmaWinEnable _ _ ctrl => fits 32 ctrl
  | .keySetOwner => true
  | .keyLoadBlob _ => true
  | .keyUnload => true
  | .keyZeroizeAll => true
  | .trngRestart => true
  | .tamperRelease _ _ => true
  | .tamperCfgLock value => fits 32 value
  | .cipherMessageStart _ _ => true
  | .cipherMessageDone _ => true
  | .nonceMarkAck nsid => fits 32 nsid
  | .trngStartupDone _ => true
  | .trngBlockReady => true
  | .trngHealthFail _ => true
  | .entropyTimeout tag => fits 16 tag
  | .tamperTrip _ _ => true
  | .drivePresent _ => true
  | .driveIdentified _ _ => true
  | .driveLinkLoss _ _ => true
  | .removalTimeout _ => true
  | .spinupDelayExpiry _ => true
  | .spinupPluckTimeout _ => true
  | .spinupWaitExpiry _ => true
  | .memberCommandIssue _ _ => true
  | .memberTimeout _ _ => true
  | .escalationStepDone _ => true
  | .escalationStepTimeout _ => true
  | .healthPoll _ => true
  | .portResetLink _ => true
  | .portPowerCycle _ => true
  | .portAccept _ => true
  | .portRelease _ => true
  | .portSpinupNow _ => true
  | .capoSeenClass _ => true
  | .readbackCheck _ => true
  | .gateOpen => true
  | .capoRenew _ => true
  | .renewExpiry => true
  | .contentionTimeout => true
  | .contentionBackoffExpiry => true
  | .capoClaim => true
  | .capoRelease => true
  | .releaseComplete => true
  | .capoClearFault => true
  | .capoForceClaim _ => true
  | .selftestNow _ => true
  | .selftestCycle _ => true
  | .healthWordSend => true
  | .healthWordReceive _ => true
  | .mirrorItemReceive _ => true
  | .mirrorDigestCheck _ => true
  | .mirrorSyncComplete => true
  | .standbyMirrorSilence => true
  | .pairRoleChoice _ => true
  | .startupWaitExpiry => true
  | .takeover => true
  | .writeFenceEnd => true
  | .helloReceive _ _ => true
  | .helloRetry => true
  | .memberLeaveTimeout _ => true
  | .gmAnnounce => true
  | .gmElection _ => true
  | .syncExchange _ _ _ => true
  | .pitSet => true
  | .pitSetAtPps => true
  | .pitSetUtc => true
  | .pitResync => true
  | .ppsInEdge => true
  | .ppsInLoss => true
  | .ppsOutSecond => true
  | .pluckWrite => true
  | .pluckWriteFed => true
  | .pluckCancel => true
  | .pluckCancelFed => true
  | .pluckReceive _ => true
  | .pluckAnswerReceive _ => true
  | .pluckDistTimeout => true
  | .pluckCancelReceive _ id => fits 32 id
  | .pluckFire _ => true
  | .pluckEarlyWake _ => true
  | .writeBarrierDone _ => true
  | .gaugeEnergyCompute _ _ => true
  | .packRemoved _ => true
  | .packPresent _ => true
  | .holdupSelftestStart _ => true
  | .holdupSelftestStep mv _ => fits 32 mv
  | .holdupRetestTimer _ => true
  | .holdupTestAgeExpiry _ => true
  | .holdupStartupTest => true
  | .learnStart _ => true
  | .learnDischargeEnd _ => true
  | .learnRestEnd _ => true
  | .learnDisqualify _ _ => true
  | .learnRetry _ => true
  | .gaugeBlockWrite _ => true
  | .nrgTest _ => true
  | .nrgLearn _ => true
  | .learnAbort _ => true
  | .nrgRetest _ => true
  | .nrgSamePack _ => true
  | .vaultPatrol _ _ _ => true
  | .vaultPatrolNow _ _ _ => true
  | .thermalStateChange => true
  | .throttleClockStep => true
  | .avsTimeout => true
  | .vddFbPowerCheck _ => true
  | .fanListenEnd _ _ => true
  | .fanBrakeDone _ _ => true
  | .fanWaitRecheck _ _ => true
  | .fanRampEnd _ _ _ _ => true
  | .fanAttemptFail _ => true
  | .fanRetryTimer _ => true
  | .fanOvercurrent _ => true
  | .fanStall _ => true
  | .fanClassChange _ rpm _ => fits 16 rpm
  | .fanPinLoss _ => true
  | .fanPinValid _ duty => fits 10 duty
  | .fanClearFault _ => true
  | .fanRestart _ => true
  | .fanRelearn _ => true
  | .eventRecord => true
  | .eventFreeze _ => true
  | .eventUnfreeze _ => true
  | .freezeTimeout => true
  | .eventChallenge => true
  | .challengeExpiry => true
  | .lockoutEnd => true
  | .eventClear _ => true
  | .eventAuthSet _ => true
  | .soundpostNow => true
  | .soundpostVaultCopy => true
  | .soundpostFlashCopy => true
  | .read32 addr => fits 26 addr
  | .read64 addr => fits 26 addr
  | .write32 addr value => fits 26 addr && fits 32 value
  | .lastStatus => true
  | .readBurst addr _ => fits 26 addr
  | .recoverableError _ _ => true
  | .handlerEnd _ _ => true
  | .handlerTimeout _ => true
  | .fatalError _ => true
  | .fatalRestart => true
  | .errRestart => true
  | .quiescePoint => true
  | .wake => true
  | .exitComplete => true
  | .hostLinkL12Exit _ => true
  | .apstTransition _ => true
  | .agingWriteback => true
  | .ageAccumulate => true
  | .roMeasure slowX100 => fits 16 slowX100
  | .emramRefresh => true
  | .alwaysOnPowerUp => true
  | .powerDown => true
  | .hotReset _ => true
  | .coalescingTimeExpiry _ cq => fits 16 cq
  | .ppsHoldoverExpiry => true
  | .commitComplete _ => true
  | .vaultRestoreDone => true
  | .temperatureSample _ => true

end Sys2Proof
end

