-- ==== Sys2Proof/Tests/Slice0.lean ====
section
/-!
SUPPORT. Tests/Slice0.lean: the author's tests. For every statement with hypotheses, a state and operands that meet each clause's hypotheses
together; then ill-formed operands that WellFormed refuses, and words and examples written out from the spec.
-/
namespace Sys2Proof.Tests
open Sys2Proof Sys2Proof.Machine

set_option Elab.async false
set_option linter.unusedVariables false

/-- A port entry of the drive port map: one drive, five minutes of removal window. -/
def tPort (mode : Nat) : PortMapEntry :=
  { mode := mode, maxRate := 5, spinupGroup := 0, flags := 0, readTimeoutMs := 1000, writeTimeoutMs := 1000, retries := 2,
    removalTimeoutS := 100, queueDepth := 32, spinupDelayDs := 0 }

/-- An array entry: k = 2 over the drives of ports 0 to 3, 16 sectors a chunk. -/
def tArrEntry : ArrEntry :=
  { index := 0, uuid := 5, k := 2, layout := 0, chunkExp := 16, fretExp := 0, members := [0, 1, 2, 3], prog := conventionalProg,
    tables := [], policy := {} }

/-- A namespace of 1,024 sectors on array 0. -/
def tNs : NsEntry :=
  { nsid := 1, array := 0, uuid := 9, size := 1024, keyRef := 7, extents := [⟨0, 1024⟩], unusedZero := true, attach := 3 }

/-- An image with one array and one namespace. -/
def tImg : Image :=
  { magic := 0x49535850, formatMajor := 1, formatMinor := 0, totalLength := 4096, sectionCount := 1, flags := 0, sequence := 1,
    buildTime := 0, deviceId := 0, minHbmStack := 24, headerReservedZero := true, canonicalDigest := 3, toolVersion := 0, dir := [⟨1, 1, true, 320, 64⟩],
    keySlot := 0, keyHash := 0, trailerZero := true, sigOk := true, canonicalSha := 3, imageSha := 4, hostPortsOk := true,
    identity := some {}, portMap := some (List.replicate 8 (tPort 1) ++ List.replicate 40 (tPort 0)), arrays := [tArrEntry],
    namespaces := [tNs], classPolicies := some {}, writeCache := some {}, fans := some {}, gauge := some {}, plucks := some {},
    thresholds := some {}, recorder := some {},
    hostPorts := some ⟨⟨1, 0, 5, 16, 1⟩, ⟨1, 0, 5, 16, 1⟩, [(0, ⟨1, 64, 64⟩), (1, ⟨1, 64, 64⟩), (64, ⟨1, 64, 64⟩), (65, ⟨1, 64, 64⟩)], true⟩ }

/-- A member of the array, on the port of its index. -/
def tMember (p : PortId) : Member :=
  { state := .active, uuid := 100 + p.val, port := some p, rebuiltTo := 0, spareFrom := 0, spareTo := 0, slow := false, slowSince := 0,
    median := 0, reads := 0, mediaErrs := [], directTo := 0, cause := 0, fresh := false }

/-- The geometry of the array: 64 stripes. -/
def tGeom : Geom :=
  { k := 2, n := 4, layout := 0, c := 16, periodRows := 1, periodStripes := 1, stripeCount := 64, dataSectors := 1024, epoch := 0,
    prog := conventionalProg, tables := [] }

/-- The array. -/
def tArr : Arr :=
  { uuid := 5, fretExp := 0, policy := {}, cur := tGeom, prev := none, fretBase := 0, fretBits := 64, fretReserve := 0,
    members := [tMember 0, tMember 1, tMember 2, tMember 3], failOrder := [], critDone := [], wants := [], critMark := 0, mainMark := 0,
    copyMark := 0, scrubMark := 0, initMark := 0, scrubBehind := false, scrubDue := 0, pauses := [], labelSeq := 0, keyChecks := [],
    bow := 0, ckpt := 0, sources := [], displaced := [], labelJobs := [], labelAgain := false }

/-- The Pegbox die answers. -/
def tM : State := State.reset.setBit Fld.PWR_STATE.PEGBOX_READY true

/-- The fast domains run with the image and its array. -/
def tR : State :=
  { tM with pwr := { tM.pwr with fast := .running, aonLow := false, sysLow := false, plls := 255 },
            img := { tM.img with running := some tImg }, rbe := { tM.rbe with arrays := [(0, tArr)] } }

/-- A running state with a controller enabled on function 0. -/
def tH : State := { tR with hfe := { tR.hfe with fns := [(0, { fnDisabled with en := true, rdy := true, asqs := 31, acqs := 31 })] } }

/-- The device with the fast domains in a phase. -/
def tP (f : FastPhase) : State := { tM with pwr := { tM.pwr with fast := f, aonLow := false, sysLow := false, plls := 255 } }

/-- A cached sector. -/
def tLine (st : WcState) : WcLine :=
  { state := st, sec := .data 1 2 3 4, newer := none, cls := 1, seq := 1, at_ := 0, through := false, owner := none, first := 1, under := none }

/-- A state with a dirty sector. -/
def tDirty : State := { tR with wc := { tR.wc with lines := [(nsKey 1 0, tLine .dirty)] } }

/-- A vault area that is ready. -/
def tVault (s : State) : State := (s.setBit Fld.VLT_STATUS.PRESENT true).setBit Fld.VLT_STATUS.RATE_OK true

/-- A dump under way or written. -/
def tDump : Dump :=
  { seq := 3, sectors := [], contexts := [], bow := [], counts := [], committed := false, cancelled := false, retired := false, bytes := 0 }

/-- A dump for a reason. -/
def tDumping (s : State) (w : DumpReason) : State :=
  { s with wc := { s.wc with dumpArea := some 0, dumpWhy := some w }, vault := { s.vault with dumps := [(0, tDump)] } }

/-- A pack as one field of the gauge has it, present. -/
def tPk (s : State) (p : PackId) (x : Pack) : State := (s.putPack p x).setBit (Fld.PACK_STATUS.PRESENT.at (packIx p)) true

/-- A sample of a pack at rest. -/
def tSample : PackSample := ⟨4000, 0, 250, true, 0⟩

/-- A newer image without arrays. -/
def tNew : Image := { tImg with sequence := 2, arrays := [], namespaces := [], gauge := none, fans := none, imageSha := 6 }

/-- A state with a staging state and the owner host port 0. -/
def tStage (s : State) (n : Nat) : State := (s.setFld Fld.IMG_STAGE_STATUS.STATE n).setFld Fld.IMG_STAGE_STATUS.OWNER 1

/-- A state whose token field holds the token of an operation under a key and a challenge. -/
def tTok (s : State) (f : Field) (op arg : Nat) : State :=
  ({ s with evr := { s.evr with authKey := some 1, chal := some 2 } } : State).setFld f
    (Config.hmacToken 1 2 op arg (s.fld Fld.SYS_DEVICE_ID)).toNat

/-- A set of calibration blocks in use. -/
def tCal : Tbl CalBlock := [(0, calBlock 1 0 []), (1, calBlock 1 0 [])]

/-- A host read that holds its lock. -/
def tCmd : HostCmd :=
  { tag := 2048, gen := 0, fn := 0, sq := 1, cid := 9, cls := 1, order := 0, kind := .read, nsid := 1, ranges := [⟨0, 1⟩], fua := false,
    phase := .locked, plain := [], through := false, dirtyWait := false, mirrorWait := false, flushSeq := 0, bell := 0, issued := 0,
    done := 0, outside := false, excl := false, read := [], avoid := [], lack := 0 }

/-- A submission queue with an entry. -/
def tSq : IoSq := { size := 8, cls := 1, cq := 1, head := 0, tail := 1, bells := [(0, false)], deleting := none }

/-- A completion queue. -/
def tCq : IoCq := { size := 8, vector := 3, ien := true, head := 0, tail := 0, coalesced := 1 }

/-- A host function with a queue pair, an open gate and a clean start. -/
def tQ : State := { tH with hfe := { tH.hfe with sqs := [(qKey 0 1, tSq)], cqs := [(qKey 0 1, tCq)] } }

/-- An array whose program never ends. -/
def tLoop : Arr := { tArr with cur := { tGeom with prog := { conventionalProg with words := [0xDC000000#32] } } }

/-- A mapping of a background operation. -/
def tReq : MapReq := ⟨0, false, false, 5, 1, 2, 0, .background⟩

/-- A data key with a nonce context and counter values left. -/
def tKey : DataKey := { ref := 7, key := 5, exhausted := false, ctx := some 3, ctr := 0, second := 0, inSecond := 0, lastSecond := 0 }

/-- The state of a queue pair, with the gate open and the namespace's key loaded. -/
def tO : State := (({ tQ with cip := { tQ.cip with keys := [(1, tKey)] } } : State)).setBit Fld.CAPO_STATUS.GATE_OPEN true

/-- A state with one fetched command. -/
def tC (s : State) (c : HostCmd) : State := { s with hfe := { s.hfe with cmds := [c] } }

/-- A state with one cached sector. -/
def tW (s : State) (l : WcLine) : State := { s with wc := { s.wc with lines := [(nsKey 1 0, l)] } }

/-- Room for dirty data. -/
def tL : State := (tO.setFld Fld.WC_LIMIT.MIB 1024).setFld Fld.WC_LIMIT_CFG.MIB 1024

/-- A stripe update in a step. -/
def tUpd (step : Nat) : Update :=
  { id := 4, array := 0, stripe := 0, previous := false, rows := [0], sectors := [⟨1, 0, 0, 0, .data 1 2 3 4⟩], step := step, read := [],
    cls := 1, partnerWait := false, pq := [], lostRows := [] }

/-- A state with that update and its sector destaging. -/
def tUp (step : Nat) : State := { tW tO (tLine .destaging) with wc := { (tW tO (tLine .destaging)).wc with updates := [tUpd step] } }

/-- A state with a fret bit issued. -/
def tFret (o : FretOp) : State := { tO with wc := { tO.wc with fretOps := [o] } }

/-- The four member ports ready. -/
def tUpOn (s : State) : State := ((((s.setFld (Fld.PORT_STATE.STATE.at 0) 4).setFld (Fld.PORT_STATE.STATE.at 1) 4).setFld
  (Fld.PORT_STATE.STATE.at 2) 4).setFld (Fld.PORT_STATE.STATE.at 3) 4)

/-- A running state with an open gate, the member ports ready and an array. -/
def tAr (r : Arr) : State := tUpOn { tO with rbe := { tO.rbe with arrays := [(0, r)] } }

/-- An array whose last member is rebuilding. -/
def tReb : Arr := { tArr with members := [tMember 0, tMember 1, tMember 2, { tMember 3 with state := .rebuilding }] }

/-- An array in the middle of a reshape. -/
def tResh (bow : Nat) : Arr := { tArr with cur := { tGeom with epoch := 1 }, prev := some tGeom, bow := bow, wants := [.reshape] }

/-- An array whose members answer in 100 µs. -/
def tMed : Arr := { tArr with members := tArr.members.map (fun x => { x with median := 100, reads := 100 }) }

/-- A state with a drive port in a state. -/
def tPt (s : State) (n : PortId) (st : Nat) (p : PortSt) : State :=
  ({ s with ports := [(n.val, p)] } : State).setFld (Fld.PORT_STATE.STATE.at n.val) st

/-- A member read. -/
def tMc (o : McOwner) : MCmd :=
  { owner := o, gen := 0, cls := 0, kind := .read, array := 0, previous := false, stripe := 0, unit := 0, rows := [0], attempts := 0,
    issuedAt := 0, late := false, unknown := false }

/-- A drive. -/
def tDrive : Drive := { serial := 11, capacity := 2 ^ 30, dual := false, label := none }

/-- A merging-buffer entry of a line. -/
def tEnt (line : Nat) : ScEntry := { line := line, data := 0x55, mask := 1, since := 0, writers := [1] }

/-- The stripe cache of a running state. -/
def tSc (c : Sc) : State := ({ tR with sc := c } : State).setBit Fld.SC_STATUS.INIT_DONE true

/-- The stripe cache at reset. -/
def tS0 : Sc := State.reset.sc

/-- A descriptor of 8 bytes from HBM to HBM, 8 bytes wide on both sides. -/
def tDesc : Desc :=
  { ctrl := 3 + 3 * 8, len := 8, src := 4096, dst := 8192, next := 0, srcCirc := 0, dstCirc := 0, reservedZero := true, status := 0 }

/-- A channel's run in a phase. -/
def tRun (p : DmaPhase) : DmaRun := { phase := p, addr := 1024, desc := tDesc, got := 0, put := 0, hold := [] }

/-- A running state in which channel 64 runs. -/
def tDma (p : DmaPhase) : State := { tR with dma := { tR.dma with runs := [(64, tRun p)] } }

/-- A range of one line for the range engine. -/
def tRange : State := (tR.setFld Fld.SC_RANGE_LEN.VALUE 1).setFld Fld.SC_RANGE_START.VALUE (tR.hbmLines - 1)

/-- The bytes of a descriptor in a host's memory. -/
def tDescBytes : List Nat := leBytes 4 (3 + 3 * 8 + 2 * 256 + 2 * 1024) ++ leBytes 4 8 ++ leBytes 8 4096 ++ leBytes 8 8192 ++ List.replicate 40 0

/-- Window 8 open over host port 1 for channel 64, whose list is there. -/
def tWin : State :=
  ((((((tDma .fetch).setFld (Fld.CH_CTRL.DESC_SPACE.at 64) 2).setFld (Fld.CH_WIN_MASK.WINDOWS.at 64) 256).setBit (Fld.WIN_CTRL.EN.at 8) true).setFld
    (Fld.WIN_CTRL.SPACE.at 8) 2).setBit (Fld.WIN_CTRL.READ.at 8) true).setBit (Fld.WIN_CTRL.WRITE.at 8) true |>.setFld (Fld.WIN_LIMIT.ADDR.at 8) 4096

/-- The list of channel 64 in HBM under window 8, with window 9 over host port 1. -/
def tWin0 : State :=
  let s : State := { tDma .fetch with sc := { (tDma .fetch).sc with hbm := memSetList [] 1024 tDescBytes } }
  let s := (s.setFld (Fld.CH_WIN_MASK.WINDOWS.at 64) 768).setBit (Fld.WIN_CTRL.EN.at 8) true
  let s := ((s.setBit (Fld.WIN_CTRL.READ.at 8) true).setBit (Fld.WIN_CTRL.WRITE.at 8) true).setFld (Fld.WIN_LIMIT.ADDR.at 8) 4096
  let s := ((s.setBit (Fld.WIN_CTRL.EN.at 9) true).setFld (Fld.WIN_CTRL.SPACE.at 9) 2).setBit (Fld.WIN_CTRL.READ.at 9) true
  (s.setBit (Fld.WIN_CTRL.WRITE.at 9) true).setFld (Fld.WIN_LIMIT.ADDR.at 9) 4096

/-- The plaintext of a key blob of namespace 1. -/
def tBlob : BlobPlain := { ref := 65537, ownerGen := 0, flags := 0, key := 5, zero := 0 }

/-- A state that holds the key-encryption key and the blob's 88 bytes. -/
def tLoad : State :=
  ({ tR with cip := { tR.cip with kek := some 9 }, img := { tR.img with running := some { tImg with namespaces := [{ tNs with keyRef := 65537 }] } } } : State).setFld
    Fld.CIP_KEY_WINDOW (0x424B5850 + 2 ^ 32 + 2 ^ 64 * 65537 + 2 ^ 128 * (Config.kwpWrap 9 (blobPayload tBlob)).toNat)

/-- The state of tLoad with another key in the slot. -/
def tLoad2 : State := { tLoad with cip := { tLoad.cip with keys := [(1, tKey)] } }

/-- An encryption or decryption message. -/
def tMsg (enc : Bool) (cls : Nat) : CMsg :=
  { enc := enc, tag := 2048, index := 0, cls := cls, order := 0, nsid := 1, lba := 0, ctx := 3, ctr := 0, text := 0, gcm := 0, src := .cache }

/-- A message whose tag passes. -/
def tGcmOk : CMsg := { tMsg false 1 with gcm := gcmTagOf 5 (tMsg false 1).ctx (tMsg false 1).ctr 1 0 (tMsg false 1).text }
/-- A message whose tag fails: no tag of 128 bits has this value. -/
def tGcmBad : CMsg := { tMsg false 1 with gcm := 2 ^ 128 }

/-- A state with a message on a pipeline. -/
def tPipe (m : CMsg) : State := { tO with cip := { tO.cip with pipes := [(15, m)] } }

/-- A state in which the TRNG runs. -/
def tTrng : State := tR.setBit Fld.CIP_TRNG_STATUS.STARTUP false

/-- The image of a paired and federated device. -/
def tPairImg : Image :=
  { tImg with flags := 6, identity := some { fedUuid := 77, nodeId := 1, flags := 11, pairUuid := 3, partnerId := 8, pairRank := 0 } }

/-- A running paired device with a role and what it sees of its partner's line. -/
def tPair (role seen : Nat) : State :=
  (({ tR with img := { tR.img with running := some tPairImg } } : State).setFld Fld.CAPO_STATUS.ROLE role).setFld Fld.CAPO_STATUS.SEEN seen

/-- A health word of the partner. -/
def tHealth (role : Nat) : Health := ⟨1, role, 1, 0, 65536, 0, 0, 0⟩

/-- The partner as the pair link shows it. -/
def tPartner : Partner := ⟨8, 3, 1, 0, false⟩

/-- A running device of a federation of two. -/
def tFed : State :=
  ({ tPair 1 3 with fed := { (tPair 1 3).fed with members := [(1, 100), (2, 200)] } } : State).setBit Fld.FED_STATUS.ENABLED true

/-- An EVENT_MARK pluck at 1,000 ns. -/
def tReqP : PluckReq := ⟨1000, 0, 7, 1, 0, 5, 0, 0⟩

/-- A pluck entry. -/
def tEntP : PluckEnt := ⟨⟨tReqP, 2, 0⟩, .armed, 0, false, 0⟩

/-- A device whose pluck entry 3 is armed. -/
def tPl (e : PluckEnt) : State := ({ tFed with fed := { tFed.fed with plucks := [(3, e)] } } : State).setFld Fld.PLUCK_SEL.INDEX 3

/-- The same at a pitch time. -/
def tPlAt (e : PluckEnt) (t : Nat) : State := ((tPl e).setBit Fld.PIT_STATUS.VALID true).setFld Fld.PIT_NOW t

/-- PLUCK_DATA holds that request. -/
def tPlData (s : State) : State := s.setFld Fld.PLUCK_DATA (pluckData ⟨tReqP, 0, 0⟩)

/-- A running device with two packs of four cells in its gauge model. -/
def tG : State :=
  { tR with img := { tR.img with running := some { tImg with gauge := some { packA := { chemistry := 1, cells := 4, nominalMah := 5000 },
                                                                             packB := { chemistry := 1, cells := 4, nominalMah := 5000 } } } } }

/-- A qualified pack at rest for two hours, nearly full. -/
def tFull : Pack := { packReset with learned := { learnedNone with capMah := 5000, qualified := true }, socPpm := 950000, restSince := some 0 }

/-- Both packs like that. -/
def tBoth : State := { tPk (tPk tG .A tFull) .B tFull with now := 7200000000000 }

/-- A pack in a learning cycle. -/
def tLearn (r : Bool) (n : Nat) : State := tPk tG .A { tFull with learn := some ⟨n, 7200000, r⟩ }

/-- A running state whose hottest sensor reads a temperature in tenths of a degree, in a thermal state. -/
def tTh (st : Nat) (x : Int) : State := ({ tR with therm := { tR.therm with sensors := [(0, x)] } } : State).setFld Fld.THERM_STATUS.STATE st

/-- A running state with every fan channel enabled, its pins too. -/
def tFanR : State := { tR with img := { tR.img with running := some { tImg with fans := some { channelsEn := 255, pinEn := 255 } } } }

/-- The same with fan channel 1 in a state. -/
def tFan (st : Nat) : State := tFanR.setFld (Fld.FAN_STATUS.STATE.at 1) st

/-- An event of severity 4. -/
def tEv : EvArrival := ⟨.authKeySet, 4, some 100, [0]⟩

/-- A state in which that event waits for the recorder. -/
def tEvr (a : EvArrival) : State := { tR with evr := { tR.evr with arrivals := [a], second := 0 } }

/-- A recorder that an interface has frozen. -/
def tFrozen (s : State) (owner : Nat) : State := (s.setBit Fld.EVR_STATUS.FROZEN true).setFld Fld.EVR_STATUS.FREEZE_OWNER owner

/-- A soundpost. -/
def tSp : Soundpost := ⟨4, 5, none, 1, 0, 0, 0, 1, [], [], [], 0, []⟩

/-- An entry of the handling stack. -/
def tStk (e : RecErr) (source : Nat) : StackEntry := ⟨e, source, none, false, false, 0, none, 0, 1, 0, none, []⟩

/-- A running state with entries on the stack. -/
def tErr (l : List StackEntry) : State := { tR with err := { tR.err with stack := l } }

/-- A device on its way into or out of a power state. -/
def tPwr (f : FastPhase) (st target : Nat) : State := ((tP f).setFld Fld.PWR_STATE.STATE st).setFld Fld.PWR_STATE.TARGET target

/-- The same geometry with a sector a chunk. -/
def tMini : Geom := { tGeom with c := 1 }

/-- An array of that geometry that wants a scrub. -/
def tScr : Arr := { tArr with cur := tMini, wants := [.scrub] }

/-- An array of that geometry at the start of a reshape. -/
def tReshM : Arr := { tArr with cur := { tMini with epoch := 1 }, prev := some tMini, wants := [.reshape] }

/-- The words of an image of 1,344 bytes: three sections, all of them empty but the drive port map of 48 disabled ports. -/
def tWords : Tbl Nat :=
  [(0, 0x49535850), (1, 1), (2, 1344), (3, 3), (4, 2), (12, 24), (64, 0x10001), (66, 1088), (68, 0x10002), (70, 320), (71, 768), (72, 0x1000E),
    (74, 1088), (274, 4)]

/-- A device with that image staged. -/
def tStaged : State :=
  ({ tStage (tP .running) 1 with img := { (tStage (tP .running) 1).img with stage := tWords } } : State).setFld Fld.IMG_STAGE_LEN.LEN 1344

/-- What the hash and signature hardware finds of it. -/
def tFacts : ImgFacts := ⟨0, 4, 0, true⟩

/-- A paired device of rank 1. -/
def tRank1 (role seen : Nat) : State :=
  let i : Image := { tPairImg with identity := some { fedUuid := 77, nodeId := 1, flags := 11, pairUuid := 3, partnerId := 8, pairRank := 1 } }
  { tPair role seen with img := { (tPair role seen).img with running := some i } }

/-- A standby that holds an array. -/
def tStand : State := { tPair 1 3 with rbe := { (tPair 1 3).rbe with arrays := [(0, tArr)] } }

/-- A self-test with its six samples, at a load too small to judge by. -/
def tSix : TestRun := ⟨11, [(16000, 0), (15500, 5), (15000, 10), (16000, 0), (15500, 5), (15000, 10)], 15000⟩

/-- A self-test with its six samples, at 1 mΩ in both steps. -/
def tSix2 : TestRun := ⟨11, [(16000, 0), (15500, 500), (15000, 1000), (16000, 0), (15500, 500), (15000, 1000)], 15000⟩

/-- A ring with no free page, of closed pages. -/
def tFullRing : Tbl EvPage := (List.range 1023).map (fun i => (i + 1, ⟨false, 4, none, i + 1, []⟩))

/-- The label of member 2 of the array, without objects. -/
def tLbl : Label := { tR.labelFor tArr 2 102 with programDigest := 0, objects := [], len := 4096 }

/-- A drive that carries that label in its first copy. -/
def tDrv : DriveInfo := ⟨true, 4096, 0, false, true, 11, 2 ^ 30, 5, 4, false, [some (labelAt tLbl 0)]⟩

/-- A token field that holds the token of an operation is accepted. -/
theorem tTok_ok (s : State) (f : Field) (op arg : Nat) (hd : Fld.SYS_DEVICE_ID.key ≠ f.key) (hw : f.width = 256) :
    (tTok s f op arg).tokenOk op arg ((tTok s f op arg).fld f) = true := by
  have h (d : Nat) := (Config.hmacToken 1 2 op arg d).isLt
  unfold tTok
  rw [State.fld_setFld_same, hw, Nat.mod_eq_of_lt (h _)]
  simp only [State.tokenOk]
  rw [State.fld_setFld_ne _ _ _ _ hd]
  simp [State.setFld, State.fld]

/-- It stays so when another field is set. -/
theorem tok_set (s : State) (f : Field) (op arg : Nat) (g : Field) (v : Nat) (hf : f.key ≠ g.key) (hd : Fld.SYS_DEVICE_ID.key ≠ g.key)
    (h : s.tokenOk op arg (s.fld f) = true) : (s.setFld g v).tokenOk op arg ((s.setFld g v).fld f) = true := by
  rw [State.fld_setFld_ne _ _ _ _ hf]
  simp only [State.tokenOk] at h ⊢
  rw [State.fld_setFld_ne _ _ _ _ hd]
  exact h

/-- And when its argument is read from a register that holds it. -/
theorem tok_arg (s : State) (op arg : Nat) {v a : Nat} (e : a = arg) (h : s.tokenOk op arg v = true) : s.tokenOk op a v = true := e ▸ h

/-- And whatever the image state holds. -/
theorem tok_img (s : State) (f : Field) (op arg : Nat) (i : Img) (h : s.tokenOk op arg (s.fld f) = true) :
    ({ s with img := i } : State).tokenOk op arg (({ s with img := i } : State).fld f) = true := h

set_option exponentiation.threshold 1000

/-- The bytes of the key window of `tLoad`. -/
theorem tLoad_window (lo n : Nat) : tLoad.window lo n =
    (0x424B5850 + 2 ^ 32 + 2 ^ 64 * 65537 + 2 ^ 128 * (Config.kwpWrap 9 (blobPayload tBlob)).toNat) % 2 ^ 768 / 256 ^ lo % 256 ^ n := by
  have hw : Fld.CIP_KEY_WINDOW.width = 768 := rfl
  rw [State.window, tLoad, State.fld_setFld_same, hw]

/-- The blob of `tLoad` passes every check. -/
theorem tLoad_blob : tLoad.blobError tBlob = 0 := by
  have h := (Config.kwpWrap 9 (blobPayload tBlob)).isLt
  have h0 : tLoad.window 0 4 = 0x424B5850 := by rw [tLoad_window]; omega
  have h1 : tLoad.window 4 2 = 1 := by rw [tLoad_window]; omega
  have h2 : tLoad.window 6 2 = 0 := by rw [tLoad_window]; omega
  have h3 : tLoad.window 8 8 = 65537 := by rw [tLoad_window]; omega
  have h4 : (Config.kwpWrap 9 (blobPayload tBlob)).toNat = tLoad.window 16 72 := by rw [tLoad_window]; omega
  have h5 : tLoad.cip.kek = some 9 := rfl
  have h6 : (tLoad.ns 1).map (·.keyRef) = some 65537 := by decide +kernel
  have h7 : tLoad.keyCheckOf 1 = 0 := by decide +kernel
  have h8 : tLoad.cip.floors = [] := rfl
  have h9 : tLoad.cip.ownerGen = 0 := rfl
  simp only [State.blobError, h0, h1, h2, h3, h5, ← h4, h9, h8]
  simp [h6, h7, tBlob, tget]

/-- The key window stands apart from the keys. -/
theorem window_keys (s : State) (k : Tbl DataKey) (lo n : Nat) :
    ({ s with cip := { s.cip with keys := k } } : State).window lo n = s.window lo n := rfl

/-- A blob's checks stand apart from the keys loaded. -/
theorem blobError_keys (s : State) (k : Tbl DataKey) (p : BlobPlain) :
    ({ s with cip := { s.cip with keys := k } } : State).blobError p = s.blobError p := rfl

/-- The namespace of tLoad's blob. -/
theorem tLoad_nsid : 1 = tLoad2.window 8 8 % 65536 := by
  rw [tLoad2, window_keys, tLoad_window]; omega

/-- The blob passes in tLoad2 as well. -/
theorem tLoad2_blob : tLoad2.blobError tBlob = 0 := by
  rw [tLoad2, blobError_keys, tLoad_blob]

/-- No tag has more than 128 bits. -/
theorem tGcm_ne (k c n i l t : Nat) : gcmTagOf k c n i l t ≠ 2 ^ 128 := Nat.ne_of_lt (BitVec.isLt _)

/-- LABEL_CRC does not cover itself. -/
theorem labelCrcOf_crc (l : Label) (v : Nat) : labelCrcOf { l with crc := v } = labelCrcOf l := rfl

/-- A label copy holds its LABEL_CRC. -/
theorem labelAt_crc (l : Label) (c : Nat) : labelCrcOf (labelAt l c) = (labelAt l c).crc := labelCrcOf_crc _ _

/-- The label of tDrv is valid. -/
theorem tLbl_valid : labelValid (labelAt tLbl 0) 0 = true := by
  rw [labelValid, labelAt_crc, beq_self_eq_true, Bool.and_true]
  decide +kernel

/-- The label that R87 takes from tDrv. -/
theorem tDrv_label : tDrv.label = some (5, 102) := by
  have h : bestLabel tDrv.labels = some (labelAt tLbl 0) := by
    simp only [tDrv, bestLabel, List.mapIdx_cons, List.mapIdx_nil, Option.filter, tLbl_valid, List.foldl_cons, List.foldl_nil, if_true]
  rw [DriveInfo.label, h]
  rfl

/-- No page of tFullRing is open. -/
theorem tRing_open (s : State) (h : s.evr.pages = tFullRing) : s.evr.pages.find? (fun p => p.2.isOpen) = none := by
  rw [h]
  decide +kernel

/-- No page is free beside tFullRing. -/
theorem tRing_full (s : State) (h : s.evr.pages = tFullRing) : firstFree (s.evr.pages.map (·.1)) 1 1023 = none := by
  simp only [firstFree, h, tFullRing, List.find?_eq_none, List.mem_map, List.mem_range, List.map_map]
  rintro x ⟨k, hk, rfl⟩
  simpa using hk

/-- The page of tFullRing that is reclaimed. -/
theorem tRing_first (s : State) (h : s.evr.pages = tFullRing) : reclaimable s.evr.pages 4 = some (1, ⟨false, 4, none, 1, []⟩) := by
  rw [h]
  decide +kernel

/-- The hypotheses of clauses of RailsClocksAndBootTakeEffect can be met: railOutOfRange, pllLock, pllLockTimeout, fastBootStart, bootHandover. -/
theorem test_rails_clocks_and_boot_take_effect_a :
    (∃ (s : State), s.pwr.railsOk = true) ∧
    (∃ (s : State) (pll : Nat), pll < 8 ∧ s.pwr.plls / 2 ^ pll % 2 = 0) ∧
    (∃ (s : State) (pll : Nat), 4 ≤ pll ∧ pll < 8 ∧ s.pwr.plls / 2 ^ pll % 2 = 0 ∧ (s.pwr.fast = .booting ∨ s.fld Fld.PWR_STATE.STATE = 5)) ∧
    (∃ (s : State), s.canBoot = true) ∧
    (∃ (s : State), s.pwr.fast = .booting ∧ s.fastLocked = true) :=
  ⟨⟨tR, by decide +kernel⟩,
   ⟨{ tM with pwr := { tM.pwr with plls := 127 } }, 7, by decide +kernel⟩,
   ⟨{ tP .booting with pwr := { (tP .booting).pwr with plls := 15 } }, 4, by decide +kernel⟩,
   ⟨tP .inReset, by decide +kernel⟩,
   ⟨tP .booting, by decide +kernel⟩⟩

/-- The hypotheses of clauses of RailsClocksAndBootTakeEffect can be met: hostLinkReady, sysRstNRelease. -/
theorem test_rails_clocks_and_boot_take_effect_b :
    (∃ (s : State), s.pwr.fast = .running ∧ s.bit Fld.PWR_STATE.BOOTING = true) ∧
    (∃ (s : State), s.pwr.sysLow = true) :=
  ⟨⟨tR.setBit Fld.PWR_STATE.BOOTING true, by decide +kernel⟩,
   ⟨State.reset, by decide +kernel⟩⟩

/-- The hypotheses of clauses of SysResetActsOnFastDomains can be met: sysRstNAssert. -/
theorem test_sys_reset_acts_on_fast_domains :
    (∃ (s : State), s.pwr.sysLow = false ∧ (s.pwr.fast = .unpowered ∨ s.pwr.fast = .inReset)) ∧
    (∃ (s : State), s.pwr.sysLow = false ∧ s.pwr.fast = .booting) ∧
    (∃ (s : State), s.pwr.sysLow = false ∧ s.pwr.fast = .running ∧ s.wc.dumpArea = none ∧ s.fld Fld.PWR_STATE.STATE ≤ 1 ∧ s.dumpNeeded = false) ∧
    (∃ (s : State), s.pwr.sysLow = false ∧ s.pwr.fast = .running ∧ (s.wc.dumpArea.isSome = true ∨ s.fld Fld.PWR_STATE.STATE = 4 ∨ s.fld Fld.PWR_STATE.STATE = 5)) ∧
    (∃ (s : State), s.pwr.sysLow = false ∧ s.pwr.fast = .running ∧ s.wc.dumpArea = none ∧ s.fld Fld.PWR_STATE.STATE ≤ 1 ∧ s.dumpNeeded = true ∧ s.areaReady.isSome = true) :=
  ⟨⟨tP .unpowered, by decide +kernel⟩,
   ⟨tP .booting, by decide +kernel⟩,
   ⟨tR, by decide +kernel⟩,
   ⟨tDumping tR .acFail, by decide +kernel⟩,
   ⟨tVault tDirty, by decide +kernel⟩⟩

/-- The hypotheses of clauses of MainsAndPegboxTakeEffect can be met: acFailNAssert, acFailNDeassert, aonRstNAssert. -/
theorem test_mains_and_pegbox_take_effect_a :
    (∃ (s : State), s.acFail = false ∧ s.fld Fld.PWR_STATE.STATE = 3) ∧
    (∃ (s : State), s.acFail = false ∧ s.fld Fld.PWR_STATE.STATE ≤ 1 ∧ s.pwr.fast = .running ∧ s.bit Fld.PWR_STATE.BOOTING = false ∧ s.bit Fld.HFE_STATUS.REPLAY_PENDING = false ∧ s.safeMode = false ∧ s.wc.dumpArea = none ∧ s.areaReady.isSome = true) ∧
    (∃ (s : State), s.acFail = true ∧ s.wc.dumpArea = none) ∧
    (∃ (s : State) (op : CalOp) (k : Nat), s.acFail = true ∧ s.cal.restoring = some (op, k) ∧ k ≤ 1) ∧
    (∃ (s : State), s.pwr.aonLow = false) :=
  ⟨⟨tR.setFld Fld.PWR_STATE.STATE 3, by decide +kernel⟩,
   ⟨tVault tR, by decide +kernel⟩,
   ⟨tR.setBit Fld.NRG_STATUS.AC_FAIL true, by decide +kernel⟩,
   ⟨{ tM with cal := { tM.cal with restoring := some (.restoreFactory, 1) } }.setBit Fld.NRG_STATUS.AC_FAIL true, .restoreFactory, 1, by decide +kernel⟩,
   ⟨tR, by decide +kernel⟩⟩

/-- The hypotheses of clauses of MainsAndPegboxTakeEffect can be met: pegboxWatchdogReset, pegboxStart, powerDown, dumpCommit. -/
theorem test_mains_and_pegbox_take_effect_b :
    (∃ (s : State), s.pwr.aonLow = false ∧ s.bit Fld.PWR_STATE.PEGBOX_READY = true) ∧
    (∃ (s : State) (fw : FwBanks) (vault : VaultFound) (rate : Nat) (area : Nat) (targets : Nat) (block : Nat) (a : PackSample) (b : PackSample), s.pwr.aonRails = true ∧ s.bit Fld.PWR_STATE.PEGBOX_READY = false ∧ (s.pwr.aonLow = true ∨ s.pwr.wdHold = true)) ∧
    (∃ (s : State), s.bit Fld.NRG_STATUS.HOLDUP_EN = false) ∧
    (∃ (s : State) (i : Nat) (d : Dump), s.wc.dumpArea = some i ∧ s.wc.dumpWhy = some .acFail ∧ s.acFail = true ∧ s.pwr.sysPending = false ∧ tget s.vault.dumps i = some d) :=
  ⟨⟨tR, by decide +kernel⟩,
   ⟨State.reset, ⟨none, none⟩, ⟨true, []⟩, 0, 0, 0, 0, tSample, tSample, by decide +kernel⟩,
   ⟨State.reset, by decide +kernel⟩,
   ⟨(tDumping tR .acFail).setBit Fld.NRG_STATUS.AC_FAIL true, 0, tDump, by decide +kernel⟩⟩

/-- The hypotheses of clauses of PackPathsFollowLimits can be met: packCutoff, packTempRecover. -/
theorem test_pack_paths_follow_limits :
    (∃ (s : State) (p : PackId) (temp : Bool), s.packPresent p = true ∧ (s.pack p).cut = none) ∧
    (∃ (s : State) (p : PackId) (temp : Bool), (s.packPresent p = false ∨ (s.pack p).cut.isSome = true)) ∧
    (∃ (s : State) (p : PackId), s.packPresent p = true ∧ (s.pack p).cut = some .temperature) ∧
    (∃ (s : State) (p : PackId), (s.packPresent p = false ∨ (s.pack p).cut ≠ some .temperature)) :=
  ⟨⟨tPk tM .A { packReset with test := some ⟨1, [], 0⟩ }, .A, false, by decide +kernel⟩,
   ⟨tPk tM .A { packReset with cut := some .voltage }, .A, true, by decide +kernel⟩,
   ⟨tPk tM .B { packReset with cut := some .temperature }, .B, by decide +kernel⟩,
   ⟨tM, .A, by decide +kernel⟩⟩

/-- The hypotheses of clauses of StagingFollowsItsSequence can be met: stageOpen, stageVerify, stageCommit, activateLive, activateReset. -/
theorem test_staging_follows_its_sequence_a :
    (∃ (s : State) (iface : Iface), s.stageRefusal iface = 0 ∧ s.stage = 0) ∧
    (∃ (s : State) (iface : Iface) (facts : ImgFacts) (i : Image), s.stageRefusal iface = 0 ∧ s.stage = 1 ∧ s.stagedImage facts = some i ∧ (s.verifyImage i).1 = 0) ∧
    (∃ (s : State) (iface : Iface), s.stageRefusal iface = 0 ∧ s.stage = 3) ∧
    (∃ (s : State) (iface : Iface) (i : Image), s.stageRefusal iface = 0 ∧ s.stage = 5 ∧ s.acFail = false ∧ s.img.staged = some i ∧ s.fld Fld.IMG_STAGE_STATUS.CHANGE_CLASS = 1 ∧ s.safeMode = false ∧ s.activationError i = 0) ∧
    (∃ (s : State) (iface : Iface) (i : Image), s.stageRefusal iface = 0 ∧ s.stage = 5 ∧ s.img.staged = some i ∧ s.activationError i = 0) :=
  ⟨⟨tR, .host0, by decide +kernel⟩,
   ⟨tStaged, .host0, tFacts, (tStaged.stagedImage tFacts).getD tNew, by decide +kernel⟩,
   ⟨tStage tR 3, .host0, by decide +kernel⟩,
   ⟨(({ tStage (tP .running) 5 with img := { (tStage (tP .running) 5).img with staged := some tNew } } : State)).setFld Fld.IMG_STAGE_STATUS.CHANGE_CLASS 1, .host0, tNew, by decide +kernel⟩,
   ⟨{ tStage (tP .running) 5 with img := { (tStage (tP .running) 5).img with staged := some tNew } }, .host0, tNew, by decide +kernel⟩⟩

/-- The hypotheses of clauses of StagingFollowsItsSequence can be met: activateResetDestaged, stageAbort, imageCopyRewrite, selectCopyA, selectCopyB. -/
theorem test_staging_follows_its_sequence_b :
    (∃ (s : State), s.stage = 6 ∧ s.hfe.cmds = [] ∧ s.wc.updates = [] ∧ s.vaulted = 0) ∧
    (∃ (s : State) (iface : Iface), s.stageRefusal iface = 0 ∧ (s.stage = 1 ∨ s.stage = 3 ∨ s.stage = 8)) ∧
    (∃ (s : State) (copy : Fin 3) (ok : Bool) (r : Image), s.img.running = some r ∧ s.rewriteDue copy.val = true ∧ s.pwr.fast = .running ∧ s.bit Fld.PWR_STATE.BOOTING = false ∧ s.acFail = false ∧ s.stage = 7) ∧
    (∃ (s : State) (iface : Iface), s.stageRefusal iface = 0 ∧ s.safeMode = true ∧ s.fld Fld.IMG_BOOT.SAFE_REASON = 2 ∧ s.tokenOk 2 0 (s.fld Fld.IMG_AUTH) = true) ∧
    (∃ (s : State) (iface : Iface), s.stageRefusal iface = 0 ∧ s.safeMode = true ∧ s.fld Fld.IMG_BOOT.SAFE_REASON = 2 ∧ s.tokenOk 3 0 (s.fld Fld.IMG_AUTH) = true) :=
  ⟨⟨tStage tR 6, by decide +kernel⟩,
   ⟨tStage tR 8, .host0, by decide +kernel⟩,
   ⟨tStage tR 7, 1, true, tImg, by decide +kernel⟩,
   ⟨((tTok tR Fld.IMG_AUTH 2 0).setBit Fld.IMG_BOOT.SAFE_MODE true).setFld Fld.IMG_BOOT.SAFE_REASON 2, .host0, ⟨by decide +kernel, by decide +kernel, by decide +kernel, tok_set _ _ _ _ _ _ (by decide) (by decide) (tok_set _ _ _ _ _ _ (by decide) (by decide) (tTok_ok _ _ _ _ (by decide) rfl))⟩⟩,
   ⟨((tTok tR Fld.IMG_AUTH 3 0).setBit Fld.IMG_BOOT.SAFE_MODE true).setFld Fld.IMG_BOOT.SAFE_REASON 2, .host0, ⟨by decide +kernel, by decide +kernel, by decide +kernel, tok_set _ _ _ _ _ _ (by decide) (by decide) (tok_set _ _ _ _ _ _ (by decide) (by decide) (tTok_ok _ _ _ _ (by decide) rfl))⟩⟩⟩

/-- The hypotheses of clauses of StagingFollowsItsSequence can be met: commitComplete. -/
theorem test_staging_follows_its_sequence_c :
    (∃ (s : State) (i : Image), s.stage = 4 ∧ s.acFail = false ∧ s.img.staged = some i ∧ s.imageReason i = 0) ∧
    (∃ (s : State) (i : Image), s.stage = 4 ∧ s.acFail = false ∧ s.img.staged = some i) :=
  ⟨⟨{ tStage tR 4 with img := { (tStage tR 4).img with staged := some tNew } }, tNew, by decide +kernel⟩,
   ⟨{ tStage tR 4 with img := { (tStage tR 4).img with staged := some tNew } }, tNew, by decide +kernel⟩⟩

/-- The hypotheses of clauses of KeysAndCalibrationTakeEffect can be met: signingKeyEnrol, signingKeyRevoke, restoreFactory, restorePrevious. -/
theorem test_keys_and_calibration_take_effect_a :
    (∃ (s : State) (iface : Iface) (st : KeyStatement) (k : KeySlot), s.stageRefusal iface = 0 ∧ s.tokenOk 4 st.slot (s.fld Fld.IMG_AUTH) = true ∧ s.img.keys[st.slot]? = some k ∧ k.programmed = false ∧ st.slot ≠ 0 ∧ st.sigOk = true ∧ s.slotLive st.signer = true) ∧
    (∃ (s : State) (iface : Iface) (st : KeyStatement) (k : KeySlot), s.stageRefusal iface = 0 ∧ s.tokenOk 5 st.slot (s.fld Fld.IMG_AUTH) = true ∧ s.img.keys[st.slot]? = some k ∧ s.slotLive st.slot = true ∧ st.sigOk = true ∧ s.slotLive st.signer = true ∧ st.signer ≠ st.slot ∧ 1 < (s.img.keys.filter (fun x => x.programmed && !x.revoked)).length) ∧
    (∃ (s : State), s.acFail = false ∧ s.bit Fld.CAL_STATUS.BUSY = false ∧ s.calInUse s.cal.factory = true) ∧
    (∃ (s : State) (k : Nat), s.acFail = true ∧ s.bit Fld.CAL_STATUS.BUSY = false ∧ s.calInUse s.cal.factory = true ∧ (s.free 3).toNat = k) ∧
    (∃ (s : State), s.acFail = false ∧ s.bit Fld.CAL_STATUS.BUSY = false ∧ s.calInUse s.cal.previous = true) :=
  ⟨⟨tTok tR Fld.IMG_AUTH 4 3, .host1, ⟨3, 77, 0, true⟩, ⟨0, false, false⟩, ⟨by decide +kernel, tTok_ok _ _ _ _ (by decide) rfl, by decide +kernel, by decide +kernel, by decide +kernel, by decide +kernel, by decide +kernel⟩⟩,
   ⟨{ tTok tR Fld.IMG_AUTH 5 1 with img := { tR.img with keys := [⟨0, true, false⟩, ⟨8, true, false⟩] } }, .host1, ⟨1, 8, 0, true⟩, ⟨8, true, false⟩, ⟨by decide +kernel, tok_img _ _ _ _ _ (tTok_ok _ _ _ _ (by decide) rfl), by decide +kernel, by decide +kernel, by decide +kernel, by decide +kernel, by decide +kernel, by decide +kernel⟩⟩,
   ⟨{ tM with cal := { tM.cal with factory := tCal } }, by decide +kernel⟩,
   ⟨{ tM with cal := { tM.cal with factory := tCal } }.setBit Fld.NRG_STATUS.AC_FAIL true, ({ tM with cal := { tM.cal with factory := tCal } }.setBit Fld.NRG_STATUS.AC_FAIL true).free 3 |>.toNat, ⟨by decide +kernel, by decide +kernel, by decide +kernel, rfl⟩⟩,
   ⟨{ tM with cal := { tM.cal with previous := tCal } }, by decide +kernel⟩⟩

/-- The hypotheses of clauses of KeysAndCalibrationTakeEffect can be met: restorePrevious, factoryCommit. -/
theorem test_keys_and_calibration_take_effect_b :
    (∃ (s : State) (k : Nat), s.acFail = true ∧ s.bit Fld.CAL_STATUS.BUSY = false ∧ s.calInUse s.cal.previous = true ∧ (s.free 3).toNat = k) ∧
    (∃ (s : State), s.bit Fld.CAL_STATUS.BUSY = false ∧ s.bit Fld.CAL_STATUS.FACTORY_LOCKED = false) :=
  ⟨⟨{ tM with cal := { tM.cal with previous := tCal } }.setBit Fld.NRG_STATUS.AC_FAIL true, ({ tM with cal := { tM.cal with previous := tCal } }.setBit Fld.NRG_STATUS.AC_FAIL true).free 3 |>.toNat, ⟨by decide +kernel, by decide +kernel, by decide +kernel, rfl⟩⟩,
   ⟨tM, by decide +kernel⟩⟩

/-- The hypotheses of clauses of MapperAndDoorbellsTakeEffect can be met: mappingDispatch, mappingEmit, mappingStepLimit, testMappingGo, doorbellWrite. -/
theorem test_mapper_and_doorbells_take_effect_a :
    (∃ (s : State) (req : MapReq) (g : Geom) (l : Nat), s.mapGeom req = some g ∧ inputOk g req.spare req.input req.unit = true ∧ s.freeLane = some l) ∧
    (∃ (s : State) (lane : Fin 64) (l : Lane) (g : Geom) (m : Nat) (o : Nat) (steps : Nat), tget s.map.lanes lane.val = some l ∧ l.geom = g ∧ mapEntry g l.req.spare l.req.input l.req.unit = .ok (m, o, steps) ∧ l.req.owner ≠ .test) ∧
    (∃ (s : State) (lane : Fin 64) (l : Lane) (g : Geom) (pc : Nat) (steps : Nat), tget s.map.lanes lane.val = some l ∧ l.geom = g ∧ mapEntry g l.req.spare l.req.input l.req.unit = .error (.stepLimit, pc, steps) ∧ l.req.owner ≠ .test) ∧
    (∃ (s : State) (g : Geom) (l : Nat) (q : MapReq), q = ⟨Fin.ofNat 16 (s.fld Fld.MAP_TEST_CTRL.ARRAY), s.bit Fld.MAP_TEST_CTRL.EPOCH, s.bit Fld.MAP_TEST_CTRL.ENTRY, s.fld Fld.MAP_TEST_IN, s.fld Fld.MAP_TEST_UNIT.UNIT, 3, 0, .test⟩ ∧ s.servedNow Fld.MAP_TEST_CTRL.GO.addr = true ∧ s.safeMode = false ∧ s.bit Fld.MAP_TEST_STATUS.BUSY = false ∧ s.mapGeom q = some g ∧ inputOk g q.spare q.input q.unit = true ∧ s.freeLane = some l) ∧
    (∃ (s : State) (fn : FnIdx) (sq : Nat) (tail : Nat) (q : IoSq), s.adminOpen fn = true ∧ sq ≠ 0 ∧ tget s.hfe.sqs (qKey fn sq) = some q ∧ tail < q.size ∧ q.deleting = none) :=
  ⟨⟨tR, tReq, tGeom, 0, ⟨by decide +kernel, by decide +kernel, rfl⟩⟩,
   ⟨{ tR with map := { tR.map with lanes := [(63, ⟨tReq, 0, tGeom⟩)] } }, 63, ⟨tReq, 0, tGeom⟩, tGeom, 1, 80, 7, by decide +kernel⟩,
   ⟨{ tR with rbe := { tR.rbe with arrays := [(0, tLoop)] }, map := { tR.map with lanes := [(0, ⟨tReq, 0, tLoop.cur⟩)] } }, 0, ⟨tReq, 0, tLoop.cur⟩, tLoop.cur, 0, 512, by decide +kernel⟩,
   ⟨tR, tGeom, 0, ⟨0, false, false, 0, 0, 3, 0, .test⟩, ⟨by decide +kernel, by decide +kernel, by decide +kernel, by decide +kernel, by decide +kernel, by decide +kernel, rfl⟩⟩,
   ⟨tQ, 0, 1, 7, tSq, by decide +kernel⟩⟩

/-- The hypotheses of clauses of MapperAndDoorbellsTakeEffect can be met: cqHeadDoorbell, fetchGrant, rangeLockGrant, coalescingTimeExpiry. -/
theorem test_mapper_and_doorbells_take_effect_b :
    (∃ (s : State) (fn : FnIdx) (cq : Nat) (head : Nat) (q : IoCq), s.adminOpen fn = true ∧ tget s.hfe.cqs (qKey fn cq) = some q ∧ head < q.size) ∧
    (∃ (s : State) (fn : FnIdx) (sq : Nat) (tag : Nat) (q : IoSq) (e : SqEntry), s.fetching = true ∧ tget s.hfe.sqs (qKey fn sq) = some q ∧ s.refillLoad.sqReady fn sq q = true ∧ s.refillLoad.classFree q.cls 1 = true ∧ s.refillLoad.grantDue (qKey fn sq) q.cls = true ∧ s.refillLoad.nextTag (s.refillLoad.poolClass q.cls) = some tag ∧ e.kind = .read ∧ e.ranges.length = 1 ∧ s.hfe.cmds = [] ∧ s.hfe.collector = [] ∧ s.entryStatus fn e = none ∧ q.cls ≠ 0) ∧
    (∃ (s : State) (tag : Nat) (c : HostCmd), s.cmd tag = some c ∧ c.phase = .lockWait ∧ s.blocked c = false ∧ s.windowHit c = false) ∧
    (∃ (s : State) (fn : FnIdx) (cq : Nat) (q : IoCq), tget s.hfe.cqs (qKey fn cq) = some q ∧ q.coalesced ≠ 0) :=
  ⟨⟨tQ, 0, 1, 7, tCq, by decide +kernel⟩,
   ⟨tO, 0, 1, 2048, tSq, ⟨9, .read, 1, [⟨0, 1⟩], false, true⟩, by decide +kernel⟩,
   ⟨{ tQ with hfe := { tQ.hfe with cmds := [{ tCmd with phase := .lockWait }] } }, 2048, { tCmd with phase := .lockWait }, by decide +kernel⟩,
   ⟨tQ, 0, 1, tCq, by decide +kernel⟩⟩

/-- The hypotheses of clauses of QueueCommandsAnswer can be met: createIoSq, createIoCq, deleteIoSq. -/
theorem test_queue_commands_answer_a :
    (∃ (s : State) (fn : FnIdx) (cid : Nat) (qid : Nat) (size : Nat) (cqid : Nat), s.AdminGoes fn cid false false ∧ qid ≠ 0 ∧ qid ≤ (s.fn fn).grantSq ∧ tget s.hfe.sqs (qKey fn qid) = none ∧ 2 ≤ size ∧ size ≤ 64 ∧ cqid ≠ 0 ∧ (tget s.hfe.cqs (qKey fn cqid)).isSome = true) ∧
    (∃ (s : State) (fn : FnIdx) (cid : Nat) (qid : Nat) (size : Nat) (vector : Nat) (ien : Bool), s.AdminGoes fn cid false false ∧ qid ≠ 0 ∧ qid ≤ (s.fn fn).grantCq ∧ tget s.hfe.cqs (qKey fn qid) = none ∧ 2 ≤ size ∧ size ≤ 64 ∧ vector < (if isPf fn then 2048 else 65)) ∧
    (∃ (s : State) (fn : FnIdx) (cid : Nat) (qid : Nat) (size : Nat) (cqid : Nat), s.AdminGoes fn cid false false ∧ qid ≠ 0 ∧ qid ≤ (s.fn fn).grantSq ∧ tget s.hfe.sqs (qKey fn qid) = none ∧ 2 ≤ size ∧ size ≤ 64) ∧
    (∃ (s : State) (fn : FnIdx) (cid : Nat) (qid : Nat) (size : Nat) (vector : Nat) (ien : Bool), s.AdminGoes fn cid false false ∧ qid ≠ 0 ∧ qid ≤ (s.fn fn).grantCq ∧ tget s.hfe.cqs (qKey fn qid) = none ∧ 2 ≤ size ∧ size ≤ 64) ∧
    (∃ (s : State) (fn : FnIdx) (cid : Nat) (qid : Nat) (q : IoSq), s.AdminGoes fn cid false false ∧ qid ≠ 0 ∧ tget s.hfe.sqs (qKey fn qid) = some q ∧ q.waiting = 0 ∧ s.hfe.sqs = [(qKey fn qid, q)] ∧ qid < 8192 ∧ s.outstanding fn qid = 0) :=
  ⟨⟨{ tH with hfe := { tH.hfe with fns := [(0, { tH.fn 0 with grantSq := 64, grantCq := 64 })], cqs := [(qKey 0 1, tCq)] } }, 0, 5, 64, 64, 1, by decide +kernel⟩,
   ⟨{ tH with hfe := { tH.hfe with fns := [(0, { tH.fn 0 with grantSq := 64, grantCq := 64 })] } }, 0, 5, 1, 2, 2047, true, by decide +kernel⟩,
   ⟨{ tH with hfe := { tH.hfe with fns := [(0, { tH.fn 0 with grantSq := 64, grantCq := 64 })] } }, 0, 5, 64, 64, 1, by decide +kernel⟩,
   ⟨{ tH with hfe := { tH.hfe with fns := [(0, { tH.fn 0 with grantSq := 64, grantCq := 64 })] } }, 0, 5, 1, 2, 2047, true, by decide +kernel⟩,
   ⟨{ tQ with hfe := { tQ.hfe with sqs := [(qKey 0 1, { tSq with tail := 0, bells := [] })] } }, 0, 5, 1, { tSq with tail := 0, bells := [] }, by decide +kernel⟩⟩

/-- The hypotheses of clauses of QueueCommandsAnswer can be met: deleteIoCq. -/
theorem test_queue_commands_answer_b :
    ∃ (s : State) (fn : FnIdx) (cid : Nat) (qid : Nat), s.AdminGoes fn cid false false ∧ qid ≠ 0 ∧ (tget s.hfe.cqs (qKey fn qid)).isNone = false ∧ s.hfe.sqs.any (fun q => decide (q.1 / 8192 = fn.val) && q.2.cq == qid) = false :=
  ⟨{ tQ with hfe := { tQ.hfe with sqs := [] } }, 0, 5, 1, by decide +kernel⟩

/-- The hypotheses of clauses of AdminCommandsAnswer can be met: getLogPage, identify, abortCommand, setFeaturesNumberOfQueues. -/
theorem test_admin_commands_answer_a :
    (∃ (s : State) (fn : FnIdx) (cid : Nat) (lsp : Nat) (length : Nat), s.AdminGoes fn cid true true) ∧
    (∃ (s : State) (fn : FnIdx) (cid : Nat) (nsid : Nat), s.AdminGoes fn cid true true ∧ nsid ≠ 0 ∧ nsid ≤ 1024) ∧
    (∃ (s : State) (fn : FnIdx) (cid : Nat) (sqid : Nat) (target : Nat), s.AdminGoes fn cid false false ∧ sqid ≠ 0 ∧ s.hfe.cmds.find? (fun c => decide (c.fn = fn ∧ c.sq = sqid ∧ c.cid = target)) = none) ∧
    (∃ (s : State) (fn : FnIdx) (cid : Nat) (sqid : Nat) (target : Nat) (c : HostCmd), s.AdminGoes fn cid false false ∧ sqid ≠ 0 ∧ (c.fn, c.sq, c.cid) = (fn, sqid, target) ∧ s.hfe.cmds = [c] ∧ s.abortable c = true) ∧
    (∃ (s : State) (fn : FnIdx) (cid : Nat) (nsq : Nat) (ncq : Nat), s.AdminGoes fn cid false false ∧ s.serialBusy = false ∧ (s.fn fn).nqDone = false ∧ nsq ≠ 0 ∧ ncq ≠ 0) :=
  ⟨⟨tH, 0, 5, 0, 64, by decide +kernel⟩,
   ⟨tH, 0, 5, 1024, by decide +kernel⟩,
   ⟨tH, 0, 5, 1, 6, by decide +kernel⟩,
   ⟨{ tH with hfe := { tH.hfe with cmds := [{ tCmd with phase := .lockWait }] } }, 0, 5, 1, 9, { tCmd with phase := .lockWait }, by decide +kernel⟩,
   ⟨tH, 0, 5, 16, 16, by decide +kernel⟩⟩

/-- The hypotheses of clauses of AdminCommandsAnswer can be met: setFeaturesPowerManagement, setFeaturesQueueClass, setFeaturesProtectionWindow, setFeaturesArbitration, setFeaturesOther. -/
theorem test_admin_commands_answer_b :
    (∃ (s : State) (fn : FnIdx) (cid : Nat) (ps : Nat), s.AdminGoes fn cid false false ∧ s.hfe.formats.any (fun x => x.who.isSome) = false ∧ (s.hfe.sanitize.bind (·.who)).isSome = false ∧ ps ≤ 1 ∧ s.fld Fld.PWR_STATE.STATE ≤ 1 ∧ ps ≠ s.fld Fld.PWR_STATE.STATE ∧ s.pwr.psRun = none) ∧
    (∃ (s : State) (fn : FnIdx) (cid : Nat) (sqid : Nat) (cls : Nat) (q : IoSq), s.AdminGoes fn cid false false ∧ sqid ≠ 0 ∧ tget s.hfe.sqs (qKey fn sqid) = some q) ∧
    (∃ (s : State) (fn : FnIdx) (cid : Nat) (nsid : Nat) (index : Nat) (start : Nat) (count : Nat) (flags : Nat) (token : Nat), s.AdminGoes fn cid false false ∧ (s.nsFor fn nsid).isNone = false ∧ tget s.hfe.windows (windowKey nsid index) = none ∧ count ≠ 0) ∧
    (∃ (s : State) (fn : FnIdx) (cid : Nat) (value : Nat), s.AdminGoes fn cid false false) ∧
    (∃ (s : State) (fn : FnIdx) (cid : Nat) (fid : Nat) (value : Nat) (table : List Nat), s.AdminGoes fn cid false false ∧ plainFeature fid = true ∧ s.serialBusy = false) :=
  ⟨⟨tH, 0, 5, 1, by decide +kernel⟩,
   ⟨tQ, 0, 5, 1, 2, tSq, by decide +kernel⟩,
   ⟨tH, 0, 5, 1, 0, 0, 8, 1, 0, by decide +kernel⟩,
   ⟨tH, 0, 5, 3, by decide +kernel⟩,
   ⟨tH, 0, 5, 0x0C, 1, [5, 6], by decide +kernel⟩⟩

/-- The hypotheses of clauses of AdminCommandsAnswer can be met: getFeatures, asynchronousEventRequest, invalidOpcodeCommand. -/
theorem test_admin_commands_answer_c :
    (∃ (s : State) (fn : FnIdx) (cid : Nat) (fid : Nat) (arg : Nat) (v : Nat) (l : List Nat), s.AdminGoes fn cid false true ∧ s.feature fn fid arg = some (v, l)) ∧
    (∃ (s : State) (fn : FnIdx) (cid : Nat), s.AdminGoes fn cid false true ∧ (s.fn fn).aers.length < 4) ∧
    (∃ (s : State) (fn : FnIdx) (cid : Nat), s.AdminGoes fn cid false false) :=
  ⟨⟨tH, 0, 5, 0x01, 0, 0, [], by decide +kernel⟩,
   ⟨tH, 0, 5, by decide +kernel⟩,
   ⟨tH, 0, 5, by decide +kernel⟩⟩

/-- The hypotheses of clauses of FormatAndSanitizeRun can be met: formatNvm, sanitizeOverwrite, sanitizeCryptoErase, sanitizeOther, formatWatermarkSave. -/
theorem test_format_and_sanitize_run_a :
    (∃ (s : State) (fn : FnIdx) (cid : Nat) (nsid : Nat) (ses : Nat) (n : NsEntry), s.AdminGoes fn cid false false ∧ s.serialBusy = false ∧ nsid ≠ 0xFFFFFFFF ∧ s.nsFor fn nsid = some n ∧ s.bit Fld.HFE_STATUS.REPLAY_PENDING = false ∧ ses ≤ 2 ∧ s.formatting nsid = false ∧ s.lockedWindow nsid = false) ∧
    (∃ (s : State) (fn : FnIdx) (cid : Nat) (pattern : Nat) (passes : Nat) (invert : Bool), s.AdminGoes fn cid false false ∧ s.serialBusy = false ∧ isPf fn = true ∧ s.bit Fld.HFE_STATUS.REPLAY_PENDING = false ∧ (((s.img.running.map (·.namespaces)).getD []).map (·.nsid)).any (fun n => s.lockedWindow n) = false) ∧
    (∃ (s : State) (fn : FnIdx) (cid : Nat), s.AdminGoes fn cid false false ∧ s.serialBusy = false ∧ isPf fn = true ∧ s.bit Fld.HFE_STATUS.REPLAY_PENDING = false ∧ (((s.img.running.map (·.namespaces)).getD []).map (·.nsid)).any (fun n => s.lockedWindow n) = false) ∧
    (∃ (s : State) (fn : FnIdx) (cid : Nat), s.AdminGoes fn cid false false ∧ s.serialBusy = false ∧ isPf fn = true) ∧
    (∃ (s : State) (nsid : Nat) (x : SanitizeOp), s.bit Fld.HFE_STATUS.REPLAY_PENDING = false ∧ s.hfe.sanitize = some x ∧ x.started = true) :=
  ⟨⟨tH, 0, 5, 1, 1, tNs, by decide +kernel⟩,
   ⟨tH, 0, 5, 7, 3, false, by decide +kernel⟩,
   ⟨tH, 0, 5, by decide +kernel⟩,
   ⟨tH, 0, 5, by decide +kernel⟩,
   ⟨{ tH with hfe := { tH.hfe with sanitize := some ⟨4, 0, 1, false, [], true, none⟩ } }, 0xFFFFFFFF, ⟨4, 0, 1, false, [], true, none⟩, by decide +kernel⟩⟩

/-- The hypotheses of clauses of FormatAndSanitizeRun can be met: formatEnd, sanitizeEnd. -/
theorem test_format_and_sanitize_run_b :
    (∃ (s : State) (nsid : Nat), s.bit Fld.HFE_STATUS.REPLAY_PENDING = false ∧ s.hfe.formats.any (fun f => decide (f.nsid = nsid ∧ f.started = true)) = true ∧ s.formatLeft nsid = [] ∧ s.nsClean nsid = true) ∧
    (∃ (s : State) (x : SanitizeOp), s.bit Fld.HFE_STATUS.REPLAY_PENDING = false ∧ s.hfe.sanitize = some x ∧ x.started = true ∧ s.rbe.arrays.any (fun a => decide (a.2.stateCode = 4)) = true) ∧
    (∃ (s : State) (x : SanitizeOp), s.bit Fld.HFE_STATUS.REPLAY_PENDING = false ∧ s.hfe.sanitize = some x ∧ x.started = true ∧ s.rbe.arrays.any (fun a => decide (a.2.stateCode = 4)) = false ∧ s.wc.updates = [] ∧ s.hasDirty = false) :=
  ⟨⟨{ tH with hfe := { tH.hfe with formats := [⟨2, 1, 65536, true, none⟩] } }, 2, by decide +kernel⟩,
   ⟨{ tH with hfe := { tH.hfe with sanitize := some ⟨4, 0, 1, false, [], true, none⟩ }, rbe := { tH.rbe with arrays := [(0, { tArr with members := [{ tMember 0 with state := .failed }, { tMember 1 with state := .failed }, { tMember 2 with state := .failed }, tMember 3] })] } }, ⟨4, 0, 1, false, [], true, none⟩, by decide +kernel⟩,
   ⟨{ tH with hfe := { tH.hfe with sanitize := some ⟨4, 0, 1, false, [], true, none⟩ } }, ⟨4, 0, 1, false, [], true, none⟩, by decide +kernel⟩⟩

/-- The hypotheses of clauses of HostIoCommandsTakeEffect can be met: nvmeFlush, nvmeWrite, nvmeRead. -/
theorem test_host_io_commands_take_effect_a :
    (∃ (s : State) (tag : Nat) (c : HostCmd), s.cmd tag = some c ∧ c.kind = .flush ∧ c.phase = .locked ∧ s.flushWaits c = false) ∧
    (∃ (s : State) (tag : Nat) (c : HostCmd), s.cmd tag = some c ∧ c.kind = .flush ∧ c.phase = .locked ∧ s.flushWaits c = true) ∧
    (∃ (s : State) (tag : Nat) (plain : List Blob) (c : HostCmd) (k : DataKey) (ctx : Nat), s.cmd tag = some c ∧ c.kind = .write ∧ c.phase = .locked ∧ plain.length = c.sectors ∧ s.mapCheck c = none ∧ s.bit Fld.WC_STATUS.WRITE_THROUGH = false ∧ s.limitQueue .limitWait = [] ∧ s.limitFits { c with plain := plain } = true ∧ tget s.cip.keys c.nsid = some k ∧ k.exhausted = false ∧ k.ctr + c.sectors ≤ nonceEnd ∧ k.ctx = some ctx ∧ k.ctr + c.sectors ≤ s.mark c.nsid) ∧
    (∃ (s : State) (tag : Nat) (lba : Nat) (c : HostCmd) (l : WcLine), s.cmd tag = some c ∧ c.kind = .read ∧ c.phase = .locked ∧ c.ranges = [⟨lba, 1⟩] ∧ c.read = [] ∧ s.mapCheck c = none ∧ s.line c.nsid lba = some l ∧ l.newest = .empty) ∧
    (∃ (s : State) (tag : Nat) (lba : Nat) (ct : Nat) (ctx : Nat) (ctr : Nat) (gcm : Nat) (c : HostCmd) (l : WcLine) (k : DataKey), s.cmd tag = some c ∧ c.kind = .read ∧ c.phase = .locked ∧ c.ranges = [⟨lba, 1⟩] ∧ c.read = [] ∧ s.mapCheck c = none ∧ s.line c.nsid lba = some l ∧ l.newest = .data ct ctx ctr gcm ∧ tget s.cip.keys c.nsid = some k) :=
  ⟨⟨tC tO { tCmd with kind := .flush, ranges := [] }, 2048, { tCmd with kind := .flush, ranges := [] }, by decide +kernel⟩,
   ⟨tC (tW tO (tLine .dirty)) { tCmd with kind := .flush, ranges := [], flushSeq := 2 }, 2048, { tCmd with kind := .flush, ranges := [], flushSeq := 2 }, by decide +kernel⟩,
   ⟨tC tL { tCmd with kind := .write }, 2048, [77], { tCmd with kind := .write }, tKey, 3, by decide +kernel⟩,
   ⟨tC (tW tO { tLine .clean with sec := .empty }) tCmd, 2048, 0, tCmd, { tLine .clean with sec := .empty }, by decide +kernel⟩,
   ⟨tC (tW tO (tLine .clean)) tCmd, 2048, 0, 1, 2, 3, 4, tCmd, tLine .clean, tKey, by decide +kernel⟩⟩

/-- The hypotheses of clauses of HostIoCommandsTakeEffect can be met: nvmeVerify, writeZeroes, datasetManagement, completionPost. -/
theorem test_host_io_commands_take_effect_b :
    (∃ (s : State) (tag : Nat) (lba : Nat) (c : HostCmd) (l : WcLine), s.cmd tag = some c ∧ c.kind = .verify ∧ c.phase = .locked ∧ c.ranges = [⟨lba, 1⟩] ∧ c.read = [] ∧ s.mapCheck c = none ∧ s.line c.nsid lba = some l ∧ l.newest = .empty) ∧
    (∃ (s : State) (tag : Nat) (lba : Nat) (c : HostCmd), s.cmd tag = some c ∧ c.kind = .writeZeroes ∧ c.phase = .locked ∧ c.ranges = [⟨lba, 1⟩] ∧ s.mapCheck c = none ∧ s.bit Fld.WC_STATUS.WRITE_THROUGH = false ∧ s.limitQueue .limitWait = [] ∧ s.limitFits c = true) ∧
    (∃ (s : State) (tag : Nat) (lba : Nat) (c : HostCmd), s.cmd tag = some c ∧ c.kind = .dsm ∧ c.phase = .locked ∧ c.dealloc = true ∧ c.ranges = [⟨lba, 1⟩] ∧ s.mapCheck c = none ∧ s.bit Fld.WC_STATUS.WRITE_THROUGH = false ∧ s.limitQueue .limitWait = [] ∧ s.limitFits c = true) ∧
    (∃ (s : State) (tag : Nat) (c : HostCmd), s.cmd tag = some c ∧ c.kind = .dsm ∧ c.phase = .locked ∧ c.dealloc = false) ∧
    (∃ (s : State) (hp : HostPort) (e : Collected), s.pwr.fast = .running ∧ s.err.active = none ∧ s.bit Fld.ERR_STATUS.FATAL_HOLD = false ∧ s.nextPost hp.val = some e ∧ e.cqe.sq ≠ 0 ∧ s.hfe.sqs.any (fun q => q.2.deleting.isSome) = false ∧ s.hfe.formats = [] ∧ s.hfe.sanitize = none) :=
  ⟨⟨tC (tW tO { tLine .clean with sec := .empty }) { tCmd with kind := .verify }, 2048, 0, { tCmd with kind := .verify }, { tLine .clean with sec := .empty }, by decide +kernel⟩,
   ⟨tC tL { tCmd with kind := .writeZeroes, ranges := [⟨1023, 1⟩] }, 2048, 1023, { tCmd with kind := .writeZeroes, ranges := [⟨1023, 1⟩] }, by decide +kernel⟩,
   ⟨tC tL { tCmd with kind := .dsm }, 2048, 0, { tCmd with kind := .dsm }, by decide +kernel⟩,
   ⟨tC tL { tCmd with kind := .dsm, dealloc := false }, 2048, { tCmd with kind := .dsm, dealloc := false }, by decide +kernel⟩,
   ⟨{ tO with hfe := { tO.hfe with collector := [⟨⟨0, 1, 9, stOk, 0, [], 0⟩, none, 1, 0, 0, 0, false⟩] } }, 0, ⟨⟨0, 1, 9, stOk, 0, [], 0⟩, none, 1, 0, 0, 0, false⟩, by decide +kernel⟩⟩

/-- The hypotheses of clauses of FunctionResetsTakeEffect can be met: ccEnable, functionReset, functionResetComplete, perstNAssert. -/
theorem test_function_resets_take_effect_a :
    (∃ (s : State) (fn : FnIdx) (asqs : Nat) (acqs : Nat), s.fnEnabled fn = true ∧ (s.fn fn).en = false ∧ (s.fn fn).resetting = false ∧ s.pwr.fast = .running ∧ (s.pwr.perstLow[fnPort fn]?).getD false = false ∧ 1 ≤ asqs ∧ 1 ≤ acqs ∧ asqs ≤ 31 ∧ acqs ≤ 31) ∧
    (∃ (s : State) (fn : FnIdx), s.fnEnabled fn = true ∧ isPf fn = false ∧ s.hfe.formats = [] ∧ s.hfe.sanitize = none) ∧
    (∃ (s : State) (fn : FnIdx), s.fnEnabled fn = true ∧ (s.fn fn).en = true ∧ s.hfe.formats = [] ∧ s.hfe.sanitize = none) ∧
    (∃ (s : State) (fn : FnIdx), (s.fn fn).resetting = true) ∧
    (∃ (s : State) (hp : HostPort), s.hfe.formats = [] ∧ s.hfe.sanitize = none ∧ s.pwr.perstLow.length = 2) :=
  ⟨⟨tR, 0, 31, 1, by decide +kernel⟩,
   ⟨tR, 1, by decide +kernel⟩,
   ⟨tH, 0, by decide +kernel⟩,
   ⟨{ tH with hfe := { tH.hfe with fns := [(0, { fnDisabled with resetting := true, flagged := [1] })] } }, 0, by decide +kernel⟩,
   ⟨tH, 1, by decide +kernel⟩⟩

/-- The hypotheses of clauses of FunctionResetsTakeEffect can be met: perstNRelease, hotReset, functionReset. -/
theorem test_function_resets_take_effect_b :
    (∃ (s : State) (hp : HostPort), s.pwr.perstLow.length = 2) ∧
    (∃ (s : State) (hp : HostPort), s.hfe.formats = [] ∧ s.hfe.sanitize = none) ∧
    (∃ (s : State) (fn : FnIdx), s.fnEnabled fn = true ∧ s.hfe.formats = [] ∧ s.hfe.sanitize = none) :=
  ⟨⟨tH, 0, by decide +kernel⟩,
   ⟨tH, 0, by decide +kernel⟩,
   ⟨tH, 0, by decide +kernel⟩⟩

/-- The hypotheses of clauses of WritePathFrontTakesEffect can be met: writePlaced, dirtyLimitAdmit, dirtyNamespaceSetAck, dirtyNamespaceClear, mirrorAck. -/
theorem test_write_path_front_takes_effect_a :
    (∃ (s : State) (tag : Nat) (c : HostCmd), s.cmd tag = some c ∧ c.phase = .placing ∧ s.sealing tag = false ∧ s.wc.dirtyNs.contains c.nsid = true ∧ s.capo.unacked = [] ∧ c.fua = false ∧ c.through = false ∧ c.dirtyWait = false) ∧
    (∃ (s : State) (c : HostCmd) (lba : Nat), s.cmd c.tag = some c ∧ c.kind = .writeZeroes ∧ c.ranges = [⟨lba, 1⟩] ∧ s.limitQueue .limitWait = [c] ∧ s.limitQueue .throughWait = [] ∧ s.limitFits c = true) ∧
    (∃ (s : State) (nsid : Nat), s.wc.dirtyNsSet.contains nsid = true) ∧
    (∃ (s : State) (nsid : Nat), s.nsClean nsid = true) ∧
    (∃ (s : State) (i : MirrorItem) (r : List MirrorItem), s.capo.unacked = i :: r ∧ s.wc.updates = []) :=
  ⟨⟨{ tC tO { tCmd with kind := .write, phase := .placing } with wc := { tO.wc with dirtyNs := [1] } }, 2048, { tCmd with kind := .write, phase := .placing }, by decide +kernel⟩,
   ⟨tC tL { tCmd with kind := .writeZeroes, phase := .limitWait }, { tCmd with kind := .writeZeroes, phase := .limitWait }, 0, by decide +kernel⟩,
   ⟨{ tR with wc := { tR.wc with dirtyNsSet := [1] } }, 1, by decide +kernel⟩,
   ⟨{ tR with wc := { tR.wc with dirtyNs := [1] } }, 1, by decide +kernel⟩,
   ⟨{ tR with capo := { tR.capo with unacked := [.dirtyNs 1] } }, .dirtyNs 1, [], by decide +kernel⟩⟩

/-- The hypotheses of clauses of WritePathFrontTakesEffect can be met: mirrorLost. -/
theorem test_write_path_front_takes_effect_b :
    ∃ (s : State), s.mirrored = true :=
  ⟨tR.setBit Fld.WC_STATUS.MIRROR_ON true, by decide +kernel⟩

/-- The hypotheses of clauses of StripeUpdatesAdvance can be met: stripeUpdateStart, dirtyAgeExpiry, gatherExpiry, stripeUpdateReadsDone, stripeUpdateContextSaved. -/
theorem test_stripe_updates_advance_a :
    (∃ (s : State) (a : ArrayId) (stripe : Nat) (r : Arr) (g : Geom), s.arr a = some r ∧ r.geom false = some g ∧ s.stripeLines a r false stripe ≠ [] ∧ s.acFail = false ∧ s.gateOpen = true ∧ s.pwr.fast = .running ∧ s.bit Fld.HFE_STATUS.REPLAY_PENDING = false ∧ s.wc.updates = [] ∧ s.destageDue g (s.stripeLines a r false stripe) = true ∧ s.destageTurn a stripe = true) ∧
    (∃ (s : State) (nsid : Nat) (lba : Nat) (l : WcLine) (a : ArrayId) (x : Nat) (r : Arr) (g : Geom), s.line nsid lba = some l ∧ s.spot nsid lba = some (a, x) ∧ l.state = .dirty ∧ s.arr a = some r ∧ r.geom false = some g ∧ s.stripeLines a r false (r.place x).stripe ≠ [] ∧ s.acFail = false ∧ s.gateOpen = true ∧ s.pwr.fast = .running ∧ s.bit Fld.HFE_STATUS.REPLAY_PENDING = false ∧ s.wc.updates = []) ∧
    (∃ (s : State) (a : ArrayId) (stripe : Nat) (r : Arr) (g : Geom), s.arr a = some r ∧ r.geom false = some g ∧ s.stripeLines a r false stripe ≠ [] ∧ s.acFail = false ∧ s.gateOpen = true ∧ s.pwr.fast = .running ∧ s.bit Fld.HFE_STATUS.REPLAY_PENDING = false ∧ s.wc.updates = [] ∧ s.limitBytes * s.wcCfg.startPct < s.vaulted * 100) ∧
    (∃ (s : State) (id : Nat) (u : Update) (r : Arr) (g : Geom), s.upd id = some u ∧ s.updGeom u = some (r, g) ∧ u.step = 2 ∧ s.memberBusy (.update id) = false) ∧
    (∃ (s : State) (id : Nat) (u : Update), s.upd id = some u ∧ u.step = 3 ∧ (s.wc.updates.filter (fun v => 4 ≤ v.step)).length < s.wcCfg.maxUpdates ∧ s.ctxUsed + u.read.length * 4096 ≤ s.wcCfg.contextMib * 2 ^ 20) :=
  ⟨⟨{ tW tO (tLine .dirty) with wc := { (tW tO (tLine .dirty)).wc with destageAll := true } }, 0, 0, tArr, tGeom, by decide +kernel⟩,
   ⟨tW tO (tLine .dirty), 1, 0, tLine .dirty, 0, 0, tArr, tGeom, by decide +kernel⟩,
   ⟨tW tO (tLine .dirty), 0, 0, tArr, tGeom, by decide +kernel⟩,
   ⟨tUp 2, 4, tUpd 2, tArr, tGeom, by decide +kernel⟩,
   ⟨tUp 3, 4, tUpd 3, by decide +kernel⟩⟩

/-- The hypotheses of clauses of StripeUpdatesAdvance can be met: fretSetAck, dataWritesDone, parityWritesDone, fretClear, fretClearAck. -/
theorem test_stripe_updates_advance_b :
    (∃ (s : State) (id : Nat) (o : FretOp), o ∈ s.wc.fretOps ∧ o.set = true ∧ o.update = some id) ∧
    (∃ (s : State) (id : Nat) (u : Update) (r : Arr) (g : Geom), s.upd id = some u ∧ s.updGeom u = some (r, g) ∧ u.step = 6 ∧ s.memberBusy (.update id) = false ∧ s.gateOpen = true ∧ s.acFail = false) ∧
    (∃ (s : State) (id : Nat) (u : Update) (r : Arr) (g : Geom), s.upd id = some u ∧ s.updGeom u = some (r, g) ∧ u.step = 7 ∧ s.memberBusy (.update id) = false ∧ s.gateOpen = true ∧ s.acFail = false) ∧
    (∃ (s : State) (bit : Nat), s.clearable bit = true) ∧
    (∃ (s : State) (bit : Nat) (o : FretOp), o ∈ s.wc.fretOps ∧ o.bit = bit ∧ o.set = false) :=
  ⟨⟨tFret ⟨0, true, some 4⟩, 4, ⟨0, true, some 4⟩, by decide +kernel⟩,
   ⟨tUp 6, 4, tUpd 6, tArr, tGeom, by decide +kernel⟩,
   ⟨tUp 7, 4, tUpd 7, tArr, tGeom, by decide +kernel⟩,
   ⟨{ tO with wc := { tO.wc with fret := [0] } }, 0, by decide +kernel⟩,
   ⟨tFret ⟨0, false, none⟩, 0, ⟨0, false, none⟩, by decide +kernel⟩⟩

/-- The hypotheses of clauses of StripeUpdatesAdvance can be met: wcDestageAll, wcClearIdle. -/
theorem test_stripe_updates_advance_c :
    (∃ (s : State), s.Takes Fld.WC_CMD.CMD.addr) ∧
    (∃ (s : State) (b : Nat), s.Takes Fld.WC_CMD.CMD.addr ∧ s.wc.fret = [b] ∧ s.clearable b = true ∧ tget s.wc.lastSet b = none) :=
  ⟨⟨tDirty, by decide +kernel⟩,
   ⟨{ tO with wc := { tO.wc with fret := [0] } }, 0, by decide +kernel⟩⟩

/-- The hypotheses of clauses of VaultAreasAndReplayTakeEffect can be met: dumpRetire, areaEraseDone, vaultReplayStart, vaultRestoreDone, vaultReplayComplete. -/
theorem test_vault_areas_and_replay_take_effect_a :
    (∃ (s : State) (area : Fin 2) (d : Dump), tget s.vault.dumps area.val = some d ∧ s.retirable area.val d = true) ∧
    (∃ (s : State) (area : Fin 2), s.vault.erasing.contains area.val = true ∧ s.acFail = false) ∧
    (∃ (s : State) (d : Dump), s.bit Fld.HFE_STATUS.REPLAY_PENDING = true ∧ s.wc.replay = none ∧ s.pwr.fast = .running ∧ s.gateOpen = true ∧ s.bit Fld.PWR_STATE.BOOTING = false ∧ s.replayDump = some d) ∧
    (∃ (s : State) (d : Dump) (e : Dump), s.wc.replay = some d ∧ d.retired = false ∧ d.spoiled s.vault.failing = e) ∧
    (∃ (s : State) (d : Dump), s.wc.replay = some d ∧ d.retired = true ∧ s.wc.updates = []) :=
  ⟨⟨{ tO with vault := { tO.vault with dumps := [(1, { tDump with cancelled := true })] } }, 1, { tDump with cancelled := true }, by decide +kernel⟩,
   ⟨{ tO with vault := { tO.vault with dumps := [(1, tDump)], erasing := [1] } }, 1, by decide +kernel⟩,
   ⟨{ tO with vault := { tO.vault with dumps := [(1, { tDump with committed := true })] } }.setBit Fld.HFE_STATUS.REPLAY_PENDING true, { tDump with committed := true }, by decide +kernel⟩,
   ⟨{ tO with wc := { tO.wc with replay := some { tDump with sectors := [⟨1, 0, .lost, 1, 1, true⟩] } } }, { tDump with sectors := [⟨1, 0, .lost, 1, 1, true⟩] }, { tDump with sectors := [⟨1, 0, .lost, 1, 1, true⟩] }, by decide +kernel⟩,
   ⟨{ tO with wc := { tO.wc with replay := some { tDump with retired := true } } }, { tDump with retired := true }, by decide +kernel⟩⟩

/-- The hypotheses of clauses of VaultAreasAndReplayTakeEffect can be met: reshapeUncleanRerun, resyncScanStep. -/
theorem test_vault_areas_and_replay_take_effect_b :
    (∃ (s : State) (a : ArrayId) (r : Arr), s.arr a = some r ∧ s.wc.rerun.contains a.val = true ∧ s.gateOpen = true ∧ s.pwr.fast = .running ∧ s.acFail = false ∧ s.arrayUp r = true) ∧
    (∃ (s : State) (a : ArrayId) (r : Arr) (b : Nat) (rest : List Nat), s.arr a = some r ∧ s.wc.resync = b :: rest ∧ r.fretBase ≤ b ∧ b < r.fretBase + r.fretBits ∧ s.gateOpen = true ∧ s.acFail = false ∧ s.pwr.fast = .running ∧ s.arrayUp r = true ∧ s.wc.updates = [] ∧ s.wc.resyncPos + 1 < (r.regionStripes b).length) :=
  ⟨⟨tUpOn { tO with wc := { tO.wc with rerun := [0] } }, 0, tArr, by decide +kernel⟩,
   ⟨tUpOn { tO with wc := { tO.wc with resync := [0] }, rbe := { tO.rbe with arrays := [(0, { tArr with fretExp := 18 })] } }, 0, { tArr with fretExp := 18 }, 0, [], by decide +kernel⟩⟩

/-- The hypotheses of clauses of ArrayBackgroundWorkAdvances can be met: backgroundInitGroup, slowWindowEval, slowFailExpiry, rebuildStripe. -/
theorem test_array_background_work_advances_a :
    (∃ (s : State) (a : ArrayId) (r : Arr), s.arr a = some r ∧ s.bgGo r .init = true ∧ r.initMark < groupsFor r.cur.dataSectors) ∧
    (∃ (s : State) (a : ArrayId) (m : Nat) (median : Nat) (reads : Nat) (r : Arr) (q : Arr) (x : Member), s.arr a = some r ∧ r.mem m = some x ∧ x.state = .active ∧ x.slow = false ∧ q = r.modMem m (fun x => { x with median := median, reads := reads }) ∧ q.policy.slowFactorQ4 * q.slowRef < 16 * median ∧ 100 ≤ reads) ∧
    (∃ (s : State) (a : ArrayId) (m : Nat) (r : Arr) (x : Member), s.arr a = some r ∧ r.mem m = some x ∧ x.slow = true ∧ (x.state = .active ∨ x.state = .rebuilding) ∧ (r.downMembers.filter (fun i => i ≠ m)).length < 2) ∧
    (∃ (s : State) (a : ArrayId) (m : Nat) (r : Arr) (x : Member), s.arr a = some r ∧ r.mem m = some x ∧ x.slow = true ∧ (x.state = .active ∨ x.state = .rebuilding) ∧ 2 ≤ (r.downMembers.filter (fun i => i ≠ m)).length) ∧
    (∃ (s : State) (a : ArrayId) (r : Arr) (q : Arr) (t0 : Nat), s.arr a = some r ∧ s.bgGo r .critical = false ∧ s.bgGo r .mainPass = true ∧ nextFrom (fun t => r.toRebuild t || (r.epochsAt t).any (fun e => !stripeMaps e.2 t)) (r.stripes - r.mainMark) r.mainMark = some t0 ∧ (r.epochsAt t0).any (fun e => !stripeMaps e.2 t0) = false ∧ (r.epochsAt t0).any (fun e => s.stripeBusy a e.1 t0) = false ∧ (s.rebuildAt a r t0).arr a = some q) :=
  ⟨⟨tAr { tArr with wants := [.init] }, 0, { tArr with wants := [.init] }, by decide +kernel⟩,
   ⟨tAr tMed, 0, 2, 401, 100, tMed, tMed.modMem 2 (fun x => { x with median := 401, reads := 100 }), { tMember 2 with median := 100, reads := 100 }, by decide +kernel⟩,
   ⟨tAr { tArr with members := [tMember 0, { tMember 1 with slow := true }, tMember 2, tMember 3] }, 0, 1, { tArr with members := [tMember 0, { tMember 1 with slow := true }, tMember 2, tMember 3] }, { tMember 1 with slow := true }, by decide +kernel⟩,
   ⟨tAr { tArr with members := [{ tMember 0 with state := .failed }, { tMember 1 with slow := true }, { tMember 2 with state := .absent }, tMember 3] }, 0, 1, { tArr with members := [{ tMember 0 with state := .failed }, { tMember 1 with slow := true }, { tMember 2 with state := .absent }, tMember 3] }, { tMember 1 with slow := true }, by decide +kernel⟩,
   ⟨tAr { tReb with wants := [.mainPass] }, 0, { tReb with wants := [.mainPass] }, (((tAr { tReb with wants := [.mainPass] }).rebuildAt 0 { tReb with wants := [.mainPass] } 0).arr 0).getD tArr, 0, by decide +kernel⟩⟩

/-- The hypotheses of clauses of ArrayBackgroundWorkAdvances can be met: copybackUnit, scrubPeriodStart, scrubStripe, reshapeStep. -/
theorem test_array_background_work_advances_b :
    (∃ (s : State) (a : ArrayId) (r : Arr) (q : Arr) (m : Nat) (t0 : Nat), s.arr a = some r ∧ s.bgGo r .copyback = true ∧ r.copyIndex = some m ∧ nextFrom (fun t => (r.epochsAt t).any (fun e => (unitOn e.2 t m).isSome || !stripeMaps e.2 t)) (r.stripes - ((r.mem m).map (·.rebuiltTo)).getD 0) (((r.mem m).map (·.rebuiltTo)).getD 0) = some t0 ∧ (r.epochsAt t0).any (fun e => !stripeMaps e.2 t0) = false ∧ (r.epochsAt t0).any (fun e => s.stripeBusy a e.1 t0) = false ∧ ((r.epochsAt t0).foldl (fun (st : State) e => st.copyUnit a e.2 t0 m) s).arr a = some q) ∧
    (∃ (s : State) (a : ArrayId) (r : Arr), s.arr a = some r ∧ r.policy.flags / 2 % 2 = 1 ∧ r.wants.contains .scrub = false) ∧
    (∃ (s : State) (a : ArrayId) (r : Arr), s.arr a = some r ∧ s.bgGo r .scrub = true ∧ r.stripes ≤ r.scrubMark) ∧
    (∃ (s : State) (a : ArrayId) (r : Arr) (q : Arr), s.arr a = some r ∧ s.bgGo r .scrub = true ∧ r.scrubMark < r.stripes ∧ s.now ≤ r.scrubDue ∧ (r.epochsAt r.scrubMark).any (fun e => !stripeMaps e.2 r.scrubMark) = false ∧ (r.epochsAt r.scrubMark).any (fun e => s.stripeBusy a e.1 r.scrubMark) = false ∧ ((r.epochsAt r.scrubMark).foldl (fun (st : State) e => st.scrubIn a e.2 r.scrubMark) s).arr a = some q ∧ r.scrubMark + 1 < q.stripes) ∧
    (∃ (s : State) (a : ArrayId) (r : Arr) (p : Geom), s.arr a = some r ∧ r.prev = some p ∧ s.bgGo r .reshape = true ∧ p.dataSpace ≤ r.bow ∧ s.wc.updates = []) :=
  ⟨⟨tAr { tReb with wants := [.copyback], failOrder := [3] }, 0, { tReb with wants := [.copyback], failOrder := [3] }, ((({ tReb with wants := [.copyback], failOrder := [3] } : Arr).epochsAt 0).foldl (fun (st : State) e => st.copyUnit 0 e.2 0 3) (tAr { tReb with wants := [.copyback], failOrder := [3] })).arr 0 |>.getD tArr, 3, 0, by decide +kernel⟩,
   ⟨tAr tArr, 0, tArr, by decide +kernel⟩,
   ⟨tAr { tArr with wants := [.scrub], scrubMark := 64 }, 0, { tArr with wants := [.scrub], scrubMark := 64 }, by decide +kernel⟩,
   ⟨tAr tScr, 0, tScr, ((tScr.epochsAt 0).foldl (fun (st : State) e => st.scrubIn 0 e.2 0) (tAr tScr)).arr 0 |>.getD tArr, by decide +kernel⟩,
   ⟨tAr (tResh 2048), 0, tResh 2048, tGeom, by decide +kernel⟩⟩

/-- The hypotheses of clauses of ArrayBackgroundWorkAdvances can be met: reshapeStep. -/
theorem test_array_background_work_advances_c :
    ∃ (s : State) (u : State) (a : ArrayId) (r : Arr) (p : Geom), s.arr a = some r ∧ r.prev = some p ∧ s.bgGo r .reshape = true ∧ s.wc.updates = [] ∧ r.bow + r.cur.stripeData < p.dataSpace ∧ stripeMaps r.cur (r.bow / r.cur.stripeData) = true ∧ ((List.range ((min (r.bow + r.cur.stripeData) p.dataSpace - 1) / p.stripeData + 1 - r.bow / p.stripeData)).map (· + r.bow / p.stripeData)).any (fun o => !stripeMaps p o) = false ∧ s.reshapeOne a r p (fun st lba => st.stepSource r p lba) = some u :=
  ⟨tAr tReshM, Option.get ((tAr tReshM).reshapeOne 0 tReshM tMini (fun st lba => st.stepSource tReshM tMini lba)) (by decide +kernel), 0, tReshM, tMini, ⟨by decide +kernel, by decide +kernel, by decide +kernel, by decide +kernel, by decide +kernel, by decide +kernel, by decide +kernel, (Option.some_get _).symm⟩⟩

/-- The hypotheses of clauses of KnownAnswerTestsAndArrayCommandsTakeEffect can be met: katRun, katPeriodic, katResult, arrScrubNow. -/
theorem test_known_answer_tests_and_array_commands_take_effect_a :
    (∃ (s : State), s.Takes Fld.PQE_KAT_CMD.RUN.addr ∧ s.pwr.fast = .running ∧ s.bit Fld.PQE_STATUS.KAT_BUSY = false ∧ s.fld Fld.PQE_STATUS.SLICE_ACTIVE = 15) ∧
    (∃ (s : State), s.pwr.fast = .running ∧ s.bit Fld.PQE_STATUS.KAT_BUSY = false ∧ s.fld Fld.PQE_STATUS.SLICE_ACTIVE = 15) ∧
    (∃ (s : State) (slice : Fin 4), s.rbe.katTesting = [slice.val]) ∧
    (∃ (s : State) (slice : Fin 4), s.rbe.katTesting = [slice.val]) ∧
    (∃ (s : State) (a : ArrayId) (r : Arr), s.Takes (Fld.ARR_CMD.CMD.at a.val).addr ∧ s.arr a = some r ∧ r.wants.contains .scrub = false) :=
  ⟨⟨tR, by decide +kernel⟩,
   ⟨tR, by decide +kernel⟩,
   ⟨{ tR with rbe := { tR.rbe with katTesting := [3] } }, 3, by decide +kernel⟩,
   ⟨{ tR with rbe := { tR.rbe with katTesting := [0] } }, 0, by decide +kernel⟩,
   ⟨tR, 0, tArr, by decide +kernel⟩⟩

/-- The hypotheses of clauses of KnownAnswerTestsAndArrayCommandsTakeEffect can be met: arrPause, arrResume, arrFailMember, arrCopyback. -/
theorem test_known_answer_tests_and_array_commands_take_effect_b :
    (∃ (s : State) (a : ArrayId) (r : Arr), s.Takes (Fld.ARR_CMD.CMD.at a.val).addr ∧ s.arr a = some r ∧ s.arrShown r = (.scrub, 0) ∧ r.pauses.any (fun p => p.1 == .scrub) = false) ∧
    (∃ (s : State) (a : ArrayId) (r : Arr), s.Takes (Fld.ARR_CMD.CMD.at a.val).addr ∧ s.arr a = some r ∧ r.pauses.any (fun p => p.2 != 6) = true) ∧
    (∃ (s : State) (a : ArrayId) (m : Nat) (r : Arr) (x : Member), s.Takes (Fld.ARR_CMD.CMD.at a.val).addr ∧ s.arr a = some r ∧ r.mem m = some x ∧ (x.state = .active ∨ x.state = .rebuilding) ∧ (r.downMembers.filter (fun i => i ≠ m)).length < 2) ∧
    (∃ (s : State) (a : ArrayId) (m : Nat) (r : Arr) (x : Member), s.Takes (Fld.ARR_CMD.CMD.at a.val).addr ∧ s.arr a = some r ∧ r.mem m = some x ∧ (x.state = .active ∨ x.state = .rebuilding) ∧ 2 ≤ (r.downMembers.filter (fun i => i ≠ m)).length) ∧
    (∃ (s : State) (a : ArrayId) (r : Arr) (m : Nat), s.Takes (Fld.ARR_CMD.CMD.at a.val).addr ∧ s.arr a = some r ∧ r.copyIndex = some m ∧ r.wants.contains .copyback = false) :=
  ⟨⟨tAr { tArr with wants := [.scrub] }, 0, { tArr with wants := [.scrub] }, by decide +kernel⟩,
   ⟨tAr { tArr with pauses := [(.scrub, 1)] }, 0, { tArr with pauses := [(.scrub, 1)] }, by decide +kernel⟩,
   ⟨tAr tArr, 0, 1, tArr, tMember 1, by decide +kernel⟩,
   ⟨tAr { tArr with members := [{ tMember 0 with state := .failed }, tMember 1, { tMember 2 with state := .absent }, tMember 3] }, 0, 1, { tArr with members := [{ tMember 0 with state := .failed }, tMember 1, { tMember 2 with state := .absent }, tMember 3] }, tMember 1, by decide +kernel⟩,
   ⟨tAr { tReb with failOrder := [3] }, 0, { tReb with failOrder := [3] }, 3, by decide +kernel⟩⟩

/-- The hypotheses of clauses of KnownAnswerTestsAndArrayCommandsTakeEffect can be met: histClear. -/
theorem test_known_answer_tests_and_array_commands_take_effect_c :
    ∃ (s : State), s.Takes Fld.LAT_CTRL.HIST_CLEAR.addr :=
  ⟨tR, by decide +kernel⟩

/-- The hypotheses of clauses of MemberCommandsAdvance can be met: memberCompletion. -/
theorem test_member_commands_advance_a :
    (∃ (s : State) (port : PortId) (slot : Nat) (res : McResult), tget (s.port port).slots slot = none) ∧
    (∃ (s : State) (port : PortId) (slot : Nat) (c : MCmd), tget (s.port port).slots slot = some c ∧ s.isLate port c = false) ∧
    (∃ (s : State) (port : PortId) (slot : Nat) (c : MCmd) (res : McResult) (st : Nat), tget (s.port port).slots slot = some c ∧ s.isLate port c = true ∧ (res = .ok ∨ res = .critical ∨ res = .media st ∨ res = .writeFault st)) ∧
    (∃ (s : State) (port : PortId) (slot : Nat) (c : MCmd), tget (s.port port).slots slot = some c ∧ s.isLate port c = false) ∧
    (∃ (s : State) (port : PortId) (slot : Nat) (status : Nat) (c : MCmd), tget (s.port port).slots slot = some c ∧ s.isLate port c = false) :=
  ⟨⟨tR, 47, 31, .ok, by decide +kernel⟩,
   ⟨tPt tO 5 4 { portReset with slots := [(0, tMc .port)] }, 5, 0, tMc .port, by decide +kernel⟩,
   ⟨tPt tO 1 4 { portReset with slots := [(0, { tMc (.host 2048) with gen := 5 })] }, 1, 0, { tMc (.host 2048) with gen := 5 }, .media 640, 640, by decide +kernel⟩,
   ⟨tPt tO 5 4 { portReset with slots := [(0, tMc .port)] }, 5, 0, tMc .port, by decide +kernel⟩,
   ⟨tPt (tC tO tCmd) 1 4 { portReset with slots := [(0, tMc (.background 0))] }, 1, 0, 641, tMc (.background 0), by decide +kernel⟩⟩

/-- The hypotheses of clauses of MemberCommandsAdvance can be met: memberCompletion, memberDeadline. -/
theorem test_member_commands_advance_b :
    (∃ (s : State) (port : PortId) (slot : Nat) (status : Nat) (c : MCmd), tget (s.port port).slots slot = some c ∧ s.isLate port c = false ∧ c.attempts < ((s.portCfg port).map (·.retries)).getD 0) ∧
    (∃ (s : State) (port : PortId) (slot : Nat) (status : Nat) (c : MCmd), tget (s.port port).slots slot = some c ∧ s.isLate port c = false ∧ ((s.portCfg port).map (·.retries)).getD 0 ≤ c.attempts) ∧
    (∃ (s : State) (port : PortId) (slot : Nat) (status : Nat) (c : MCmd), tget (s.port port).slots slot = some c) ∧
    (∃ (s : State) (port : PortId) (slot : Nat) (tag : Nat) (a : ArrayId) (c : MCmd) (h : HostCmd) (e : ClassEntry) (r : Arr) (g : Geom), tget (s.port port).slots slot = some c ∧ c.owner = .host tag ∧ s.cmd tag = some h ∧ (s.classAt h.order).classes[c.cls]? = some e ∧ e.memberDeadlineUs ≠ 0 ∧ (c.cls = 0 ∨ e.flags % 2 = 1) ∧ c.kind = .read ∧ c.late = false ∧ s.isLate port c = false ∧ c.array = a.val ∧ s.arr a = some r ∧ r.geom c.previous = some g ∧ ((s.markLate port slot c).badFor h a r g ⟨c.previous, c.stripe, c.unit, 0⟩).length ≤ 2) ∧
    (∃ (s : State) (port : PortId) (slot : Nat) (tag : Nat) (a : ArrayId) (c : MCmd) (h : HostCmd) (e : ClassEntry) (r : Arr) (g : Geom), tget (s.port port).slots slot = some c ∧ c.owner = .host tag ∧ s.cmd tag = some h ∧ (s.classAt h.order).classes[c.cls]? = some e ∧ e.memberDeadlineUs ≠ 0 ∧ (c.cls = 0 ∨ e.flags % 2 = 1) ∧ c.kind = .read ∧ c.late = false ∧ s.isLate port c = false ∧ c.array = a.val ∧ s.arr a = some r ∧ r.geom c.previous = some g ∧ 2 < ((s.markLate port slot c).badFor h a r g ⟨c.previous, c.stripe, c.unit, 0⟩).length ∧ h.phase ≠ .collected) :=
  ⟨⟨tPt tO 1 4 { portReset with slots := [(0, { tMc (.update 4) with kind := .write, attempts := 1 })] }, 1, 0, 640, { tMc (.update 4) with kind := .write, attempts := 1 }, by decide +kernel⟩,
   ⟨tPt tO 1 4 { portReset with slots := [(0, { tMc (.update 4) with kind := .write, attempts := 2 })] }, 1, 0, 640, { tMc (.update 4) with kind := .write, attempts := 2 }, by decide +kernel⟩,
   ⟨tPt tO 1 4 { portReset with slots := [(3, tMc (.host 2048))] }, 1, 3, 6, tMc (.host 2048), by decide +kernel⟩,
   ⟨tPt (tC (tUpOn tO) tCmd) 1 4 { portReset with slots := [(0, tMc (.host 2048))] }, 1, 0, 2048, 0, tMc (.host 2048), tCmd, ⟨0, 1, 2000⟩, tArr, tGeom, by decide +kernel⟩,
   ⟨tPt (tC tO { tCmd with avoid := [0, 2, 3] }) 1 4 { portReset with slots := [(0, tMc (.host 2048))] }, 1, 0, 2048, 0, tMc (.host 2048), { tCmd with avoid := [0, 2, 3] }, ⟨0, 1, 2000⟩, tArr, tGeom, by decide +kernel⟩⟩

/-- The hypotheses of clauses of MemberCommandsAdvance can be met: memberDeadline, memberCommandIssue, memberTimeout, escalationStepDone. -/
theorem test_member_commands_advance_c :
    (∃ (s : State) (port : PortId) (slot : Nat), tget (s.port port).slots slot = none) ∧
    (∃ (s : State) (port : PortId) (slot : Nat) (c : MCmd), tget (s.port port).slots slot = some c ∧ (c.kind ≠ .read ∨ c.late = true)) ∧
    (∃ (s : State) (port : PortId) (pick : Cls) (i : Nat) (slot : Nat) (c : MCmd), s.portState port = 4 ∧ s.pwr.fast = .running ∧ s.nextIssue port pick = some (i, c) ∧ s.freeSlot port c.cls = some slot) ∧
    (∃ (s : State) (port : PortId) (slot : Nat) (c : MCmd), tget (s.port port).slots slot = some c) ∧
    (∃ (s : State) (port : PortId) (e : Escalation), (s.port port).esc = some e ∧ e.step ≠ 1) :=
  ⟨⟨tR, 3, 2, by decide +kernel⟩,
   ⟨tPt tO 1 4 { portReset with slots := [(0, { tMc (.host 2048) with late := true })] }, 1, 0, { tMc (.host 2048) with late := true }, by decide +kernel⟩,
   ⟨tPt tO 1 4 { portReset with waiting := [tMc (.host 2048)] }, 1, 0, 0, 0, tMc (.host 2048), ⟨by decide +kernel, by decide +kernel, by decide +kernel, rfl⟩⟩,
   ⟨tPt tO 1 4 { portReset with slots := [(3, tMc (.host 2048))] }, 1, 3, tMc (.host 2048), by decide +kernel⟩,
   ⟨tPt tO 1 5 { portReset with esc := some ⟨3, none⟩ }, 1, ⟨3, none⟩, by decide +kernel⟩⟩

/-- The hypotheses of clauses of MemberCommandsAdvance can be met: escalationStepDone, escalationStepTimeout, healthPoll. -/
theorem test_member_commands_advance_d :
    (∃ (s : State) (port : PortId) (slot : Nat) (c : MCmd), (s.port port).esc = some ⟨1, some slot⟩ ∧ tget (s.port port).slots slot = some c) ∧
    (∃ (s : State) (port : PortId) (e : Escalation), (s.port port).esc = some e ∧ 1 ≤ e.step ∧ e.step < 4) ∧
    (∃ (s : State) (port : PortId) (e : Escalation), (s.port port).esc = some e ∧ e.step = 4) ∧
    (∃ (s : State) (port : PortId), s.portState port = 4) :=
  ⟨⟨tPt tO 1 4 { portReset with esc := some ⟨1, some 3⟩, slots := [(3, tMc (.host 2048))] }, 1, 3, tMc (.host 2048), by decide +kernel⟩,
   ⟨tPt tO 1 5 { portReset with esc := some ⟨1, some 0⟩ }, 1, ⟨1, some 0⟩, by decide +kernel⟩,
   ⟨tPt tO 1 5 { portReset with esc := some ⟨4, none⟩, drive := some tDrive }, 1, ⟨4, none⟩, by decide +kernel⟩,
   ⟨tPt tO 0 4 portReset, 0, by decide +kernel⟩⟩

/-- The hypotheses of clauses of DrivePortsTakeEffect can be met: drivePresent, driveIdentified. -/
theorem test_drive_ports_take_effect_a :
    (∃ (s : State) (port : PortId), s.portMode port ≠ 0 ∧ (s.port port).pwren = true ∧ s.portState port ≠ 5) ∧
    (∃ (s : State) (port : PortId), (s.portMode port = 0 ∨ (s.port port).pwren = false ∨ s.portState port = 5)) ∧
    (∃ (s : State) (port : PortId) (d : DriveInfo), (s.portMode port = 0 ∨ (s.port port).pwren = false)) ∧
    (∃ (s : State) (port : PortId) (d : DriveInfo), s.portMode port ≠ 0 ∧ (s.port port).pwren = true ∧ (d.reject ≠ 0 ∨ (s.portMode port = 2 ∧ d.dual = false))) ∧
    (∃ (s : State) (port : PortId) (d : DriveInfo), s.portMode port ≠ 0 ∧ (s.portMode port ≠ 2 ∨ d.dual = true) ∧ (s.port port).pwren = true ∧ d.reject = 0 ∧ s.portMember port = none) :=
  ⟨⟨tPt tR 7 0 { portReset with pwren := true }, 7, by decide +kernel⟩,
   ⟨tPt tR 7 0 portReset, 7, by decide +kernel⟩,
   ⟨tPt tR 7 0 portReset, 7, ⟨true, 4096, 0, false, true, 11, 2 ^ 30, 5, 4, false, []⟩, by decide +kernel⟩,
   ⟨tPt tR 7 2 { portReset with pwren := true }, 7, ⟨true, 512, 0, false, true, 11, 2 ^ 30, 5, 4, false, []⟩, by decide +kernel⟩,
   ⟨tPt tR 7 2 { portReset with pwren := true }, 7, ⟨true, 4096, 0, false, true, 11, 2 ^ 30, 5, 4, false, []⟩, by decide +kernel⟩⟩

/-- The hypotheses of clauses of DrivePortsTakeEffect can be met: driveIdentified, driveLinkLoss. -/
theorem test_drive_ports_take_effect_b :
    (∃ (s : State) (port : PortId) (d : DriveInfo) (a : ArrayId) (m : Nat) (r : Arr) (x : Member), s.portMode port ≠ 0 ∧ (s.portMode port ≠ 2 ∨ d.dual = true) ∧ (s.port port).pwren = true ∧ d.reject = 0 ∧ s.portMember port = some (a, m) ∧ s.arr a = some r ∧ r.mem m = some x ∧ memberSectors d.capacity < r.cur.dataSectors) ∧
    (∃ (s : State) (port : PortId) (d : DriveInfo) (a : ArrayId) (m : Nat) (r : Arr) (x : Member), s.portMode port ≠ 0 ∧ (s.portMode port ≠ 2 ∨ d.dual = true) ∧ (s.port port).pwren = true ∧ d.reject = 0 ∧ s.portMember port = some (a, m) ∧ s.arr a = some r ∧ r.mem m = some x ∧ r.cur.dataSectors ≤ memberSectors d.capacity ∧ s.newMemberDrive port a ⟨d.serial, d.capacity, d.dual, d.label⟩ = false ∧ (x.state = .active ∨ x.state = .rebuilding) ∧ d.label = some (r.uuid, x.uuid)) ∧
    (∃ (s : State) (port : PortId) (d : DriveInfo) (a : ArrayId) (m : Nat) (r : Arr) (x : Member), s.portMode port ≠ 0 ∧ (s.portMode port ≠ 2 ∨ d.dual = true) ∧ (s.port port).pwren = true ∧ d.reject = 0 ∧ s.portMember port = some (a, m) ∧ s.arr a = some r ∧ r.mem m = some x ∧ r.cur.dataSectors ≤ memberSectors d.capacity ∧ s.newMemberDrive port a ⟨d.serial, d.capacity, d.dual, d.label⟩ = false ∧ (x.state = .active ∨ x.state = .rebuilding) ∧ d.label ≠ some (r.uuid, x.uuid)) ∧
    (∃ (s : State) (port : PortId) (gone : Bool), s.portMember port = none) ∧
    (∃ (s : State) (port : PortId) (gone : Bool) (a : ArrayId) (m : Nat), s.portMember port = some (a, m)) :=
  ⟨⟨tPt tR 2 2 { portReset with pwren := true }, 2, ⟨true, 4096, 0, false, true, 11, 1000, 5, 4, false, []⟩, 0, 2, tArr, tMember 2, by decide +kernel⟩,
   ⟨tPt tR 2 2 { portReset with pwren := true }, 2, tDrv, 0, 2, tArr, tMember 2, ⟨by decide +kernel, by decide +kernel, by decide +kernel, by decide +kernel, by decide +kernel, by decide +kernel, by decide +kernel, by decide +kernel, by decide +kernel, by decide +kernel, tDrv_label⟩⟩,
   ⟨tPt tR 2 2 { portReset with pwren := true }, 2, ⟨true, 4096, 0, false, true, 11, 2 ^ 30, 5, 4, false, []⟩, 0, 2, tArr, tMember 2, by decide +kernel⟩,
   ⟨tPt tR 7 4 { portReset with drive := some tDrive }, 7, true, by decide +kernel⟩,
   ⟨tPt tR 0 4 { portReset with drive := some tDrive }, 0, true, 0, 0, by decide +kernel⟩⟩

/-- The hypotheses of clauses of DrivePortsTakeEffect can be met: removalTimeout, spinupDelayExpiry. -/
theorem test_drive_ports_take_effect_c :
    (∃ (s : State) (port : PortId), (s.port port).windowEnd = 0) ∧
    (∃ (s : State) (port : PortId), (s.port port).windowEnd ≠ 0) ∧
    (∃ (s : State) (port : PortId) (a : ArrayId) (m : Nat) (r : Arr) (x : Member), (s.port port).windowEnd ≠ 0 ∧ (s.port port).startupWindow = false ∧ (s.port port).heldIdent = false ∧ s.portState port = 7 ∧ s.portMember port = some (a, m) ∧ s.arr a = some r ∧ r.mem m = some x ∧ (x.state = .active ∨ x.state = .rebuilding)) ∧
    (∃ (s : State) (port : PortId) (a : ArrayId) (m : Nat) (r : Arr) (x : Member), (s.port port).windowEnd ≠ 0 ∧ (s.port port).startupWindow = true ∧ (s.port port).heldIdent = false ∧ (s.port port).drive = none ∧ s.portMember port = some (a, m) ∧ s.arr a = some r ∧ r.mem m = some x) ∧
    (∃ (s : State) (port : PortId), s.portState port = 1 ∧ (s.port port).pluckWait = false) :=
  ⟨⟨tPt tR 3 7 portReset, 3, by decide +kernel⟩,
   ⟨tPt tR 3 7 { portReset with windowEnd := 5 }, 3, by decide +kernel⟩,
   ⟨tPt tR 3 7 { portReset with windowEnd := 5 }, 3, 0, 3, tArr, tMember 3, by decide +kernel⟩,
   ⟨tPt tR 3 7 { portReset with windowEnd := 5, startupWindow := true }, 3, 0, 3, tArr, tMember 3, by decide +kernel⟩,
   ⟨tPt tR 7 1 portReset, 7, by decide +kernel⟩⟩

/-- The hypotheses of clauses of DrivePortsTakeEffect can be met: spinupDelayExpiry, spinupPluckTimeout, spinupWaitExpiry, portResetLink. -/
theorem test_drive_ports_take_effect_d :
    (∃ (s : State) (port : PortId), (s.portState port ≠ 1 ∨ (s.port port).pluckWait = true)) ∧
    (∃ (s : State) (port : PortId), s.portState port = 1 ∧ (s.port port).pluckWait = true) ∧
    (∃ (s : State) (port : PortId), (s.portState port ≠ 1 ∨ (s.port port).pluckWait = false)) ∧
    (∃ (s : State) (port : PortId), (s.portState port = 2 ∨ s.portState port = 3) ∧ (s.port port).drive = none ∧ s.bit (Fld.LINK_STATUS.PRESENT.at port.val) = true) ∧
    (∃ (s : State) (port : PortId), s.Takes (Fld.PORT_CMD.CMD.at port.val).addr ∧ s.resettable port = true) :=
  ⟨⟨tPt tR 7 2 portReset, 7, by decide +kernel⟩,
   ⟨tPt tR 7 1 { portReset with pluckWait := true }, 7, by decide +kernel⟩,
   ⟨tPt tR 7 1 portReset, 7, by decide +kernel⟩,
   ⟨(tPt tR 7 2 portReset).setBit (Fld.LINK_STATUS.PRESENT.at 7) true, 7, by decide +kernel⟩,
   ⟨tPt tR 7 4 { portReset with pwren := true, drive := some tDrive }, 7, by decide +kernel⟩⟩

/-- The hypotheses of clauses of DrivePortsTakeEffect can be met: portResetLink, portPowerCycle, portAccept. -/
theorem test_drive_ports_take_effect_e :
    (∃ (s : State) (port : PortId), s.Takes (Fld.PORT_CMD.CMD.at port.val).addr ∧ s.resettable port = false) ∧
    (∃ (s : State) (port : PortId), s.Takes (Fld.PORT_CMD.CMD.at port.val).addr ∧ s.resettable port = true) ∧
    (∃ (s : State) (port : PortId), s.Takes (Fld.PORT_CMD.CMD.at port.val).addr ∧ s.resettable port = false) ∧
    (∃ (s : State) (port : PortId) (d : Drive) (a : ArrayId) (m : Nat) (r : Arr) (x : Member), s.Takes (Fld.PORT_CMD.CMD.at port.val).addr ∧ s.portState port = 6 ∧ s.fld (Fld.PORT_STATE.REJECT_REASON.at port.val) = 4 ∧ (s.port port).drive = some d ∧ s.portMember port = some (a, m) ∧ s.arr a = some r ∧ r.mem m = some x ∧ (x.state = .failed ∨ x.state = .absent) ∧ r.cur.dataSectors ≤ memberSectors d.capacity) ∧
    (∃ (s : State) (port : PortId), s.Takes (Fld.PORT_CMD.CMD.at port.val).addr ∧ (s.portState port ≠ 6 ∨ s.fld (Fld.PORT_STATE.REJECT_REASON.at port.val) ≠ 4 ∨ (s.port port).drive = none)) :=
  ⟨⟨tPt tR 7 2 portReset, 7, by decide +kernel⟩,
   ⟨tPt tR 7 6 { portReset with pwren := true, drive := some tDrive }, 7, by decide +kernel⟩,
   ⟨tPt tR 7 7 portReset, 7, by decide +kernel⟩,
   ⟨(tPt (tAr { tArr with members := [{ tMember 0 with state := .failed }, tMember 1, tMember 2, tMember 3] }) 0 6 { portReset with drive := some tDrive }).setFld (Fld.PORT_STATE.REJECT_REASON.at 0) 4, 0, tDrive, 0, 0, { tArr with members := [{ tMember 0 with state := .failed }, tMember 1, tMember 2, tMember 3] }, { tMember 0 with state := .failed }, by decide +kernel⟩,
   ⟨tPt tR 7 6 portReset, 7, by decide +kernel⟩⟩

/-- The hypotheses of clauses of DrivePortsTakeEffect can be met: portRelease, portSpinupNow. -/
theorem test_drive_ports_take_effect_f :
    (∃ (s : State) (port : PortId), s.Takes (Fld.PORT_CMD.CMD.at port.val).addr ∧ (s.portMember port).all (fun x => s.memState x.1 x.2 != some .active && s.memState x.1 x.2 != some .rebuilding) = true ∧ (s.port port).pwren = true) ∧
    (∃ (s : State) (port : PortId), s.Takes (Fld.PORT_CMD.CMD.at port.val).addr ∧ ((s.port port).pwren = false ∨ (s.portMember port).any (fun x => s.memState x.1 x.2 == some .active || s.memState x.1 x.2 == some .rebuilding) = true)) ∧
    (∃ (s : State) (port : PortId), s.Takes (Fld.PORT_CMD.CMD.at port.val).addr ∧ s.portState port = 1) ∧
    (∃ (s : State) (port : PortId), s.Takes (Fld.PORT_CMD.CMD.at port.val).addr ∧ s.portState port ≠ 1) :=
  ⟨⟨tPt tR 7 4 { portReset with pwren := true, drive := some tDrive }, 7, by decide +kernel⟩,
   ⟨tPt tR 0 4 { portReset with pwren := true }, 0, by decide +kernel⟩,
   ⟨tPt tR 7 1 portReset, 7, by decide +kernel⟩,
   ⟨tPt tR 7 2 portReset, 7, by decide +kernel⟩⟩

/-- The hypotheses of clauses of ReadClearFieldsReturnAndClear can be met: latC0IssueMaxRead, latC0PostMaxRead, hfeCollectMaxRead, errDepthMaxRead. -/
theorem test_read_clear_fields_return_and_clear_a :
    (∃ (s : State), s.managed = true ∧ s.servedNow Fld.LAT_C0_ISSUE_MAX.NS.addr = true) ∧
    (∃ (s : State), s.managed = true ∧ s.servedNow Fld.LAT_C0_POST_MAX.NS.addr = true) ∧
    (∃ (s : State) (hp : HostPort), s.managed = true ∧ s.servedNow (Fld.HFE_COLLECT_MAX.MAX_DEPTH.at hp.val).addr = true) ∧
    (∃ (s : State), s.managed = true ∧ s.servedNow Fld.ERR_DEPTH_MAX.DEPTH.addr = true) ∧
    (∃ (s : State), s.managed = true ∧ s.servedNow Fld.LAT_C0_ISSUE_MAX.NS.addr = false) :=
  ⟨⟨tR.setFld Fld.LAT_C0_ISSUE_MAX.NS 9, by decide +kernel⟩,
   ⟨tR.setFld Fld.LAT_C0_POST_MAX.NS 9, by decide +kernel⟩,
   ⟨tR.setFld (Fld.HFE_COLLECT_MAX.MAX_DEPTH.at 1) 9, 1, by decide +kernel⟩,
   ⟨tR.setFld Fld.ERR_DEPTH_MAX.DEPTH 4, by decide +kernel⟩,
   ⟨(tP .unpowered).setFld Fld.LAT_C0_ISSUE_MAX.NS 9, by decide +kernel⟩⟩

/-- The hypotheses of clauses of ReadClearFieldsReturnAndClear can be met: latC0PostMaxRead, hfeCollectMaxRead. -/
theorem test_read_clear_fields_return_and_clear_b :
    (∃ (s : State), s.managed = true ∧ s.servedNow Fld.LAT_C0_POST_MAX.NS.addr = false) ∧
    (∃ (s : State) (hp : HostPort), s.managed = true ∧ s.servedNow (Fld.HFE_COLLECT_MAX.MAX_DEPTH.at hp.val).addr = false) :=
  ⟨⟨(tP .unpowered).setFld Fld.LAT_C0_POST_MAX.NS 9, by decide +kernel⟩,
   ⟨(tP .unpowered).setFld (Fld.HFE_COLLECT_MAX.MAX_DEPTH.at 1) 9, 1, by decide +kernel⟩⟩

/-- The hypotheses of clauses of PairsAndGroupsAreReadFromOneInstant can be met: pairLoRead, groupWord0Read. -/
theorem test_pairs_and_groups_are_read_from_one_instant_a :
    (∃ (s : State) (iface : Iface) (addr : Nat) (f : Field), s.managed = true ∧ pairAt addr = some f ∧ f.addr = addr ∧ s.refuseRead iface addr = 0 ∧ s.windowWord addr = none) ∧
    (∃ (s : State) (iface : Iface) (addr : Nat) (f : Field), s.managed = true ∧ groupAt addr = some f ∧ f.addr = addr ∧ pairAt addr = none ∧ s.refuseRead iface addr = 0 ∧ s.windowWord addr = none) ∧
    (∃ (s : State) (iface : Iface) (addr : Nat) (r : Nat), s.managed = true ∧ s.refuseRead iface addr = r ∧ r ≠ 0 ∧ (pairAt addr).map (·.addr) = some addr) ∧
    (∃ (s : State) (iface : Iface) (addr : Nat) (r : Nat), s.managed = true ∧ s.refuseRead iface addr = r ∧ r ≠ 0 ∧ (groupAt addr).map (·.addr) = some addr) ∧
    (∃ (s : State) (iface : Iface) (addr : Nat), (pairAt addr).map (·.addr) ≠ some addr) :=
  ⟨⟨tR, .host1, Fld.SYS_UPTIME_S.addr, Fld.SYS_UPTIME_S, by decide +kernel⟩,
   ⟨tR, .smbus, Fld.SYS_SERIAL.addr, Fld.SYS_SERIAL, by decide +kernel⟩,
   ⟨tP .unpowered, .host1, Fld.HFE_LATE_DROP_COUNT.addr, 4, by decide +kernel⟩,
   ⟨tP .unpowered, .host1, Fld.RBE_LOST_DATA.addr, 4, by decide +kernel⟩,
   ⟨tR, .host0, 4, by decide +kernel⟩⟩

/-- The hypotheses of clauses of PairsAndGroupsAreReadFromOneInstant can be met: groupWord0Read. -/
theorem test_pairs_and_groups_are_read_from_one_instant_b :
    ∃ (s : State) (iface : Iface) (addr : Nat), (groupAt addr).map (·.addr) ≠ some addr :=
  ⟨tR, .host0, 4, by decide +kernel⟩

/-- The hypotheses of clauses of RegisterWritesAndSmbusAccessesTakeEffect can be met: registerWrite, write32, read32, read64, lastStatus. -/
theorem test_register_writes_and_smbus_accesses_take_effect_a :
    (∃ (s : State) (iface : Iface) (value : Nat), s.managed = true ∧ s.refuseWrite iface Fld.SC_PRELOAD_WAYS.WAYS.addr = 0 ∧ s.bit Fld.SC_RANGE_STATUS.BUSY = false) ∧
    (∃ (s : State) (value : Nat), s.managed = true ∧ s.refuseWrite .smbus Fld.SC_PRELOAD_WAYS.WAYS.addr = 0 ∧ s.bit Fld.SC_RANGE_STATUS.BUSY = false) ∧
    (∃ (s : State) (addr : Nat), s.managed = true ∧ s.refuseRead .smbus addr = 0 ∧ s.windowWord addr = none ∧ pairAt addr = none ∧ groupAt addr = none) ∧
    (∃ (s : State) (addr : Nat) (f : Field), s.managed = true ∧ pairAt addr = some f ∧ pairAt (addr + 4) = some f ∧ f.addr = addr ∧ s.refuseRead .smbus addr = 0 ∧ s.refuseRead .smbus (addr + 4) = 0 ∧ s.windowWord addr = none ∧ s.windowWord (addr + 4) = none) ∧
    (∃ (s : State), s.managed = true) :=
  ⟨⟨tR, .host0, 65535, by decide +kernel⟩,
   ⟨tR, 3, by decide +kernel⟩,
   ⟨tR, 0x20000, by decide +kernel⟩,
   ⟨tR, Fld.SYS_UPTIME_S.addr, Fld.SYS_UPTIME_S, by decide +kernel⟩,
   ⟨tR, by decide +kernel⟩⟩

/-- The hypotheses of clauses of RegisterWritesAndSmbusAccessesTakeEffect can be met: readBurst, any command of the list, registerWrite, write32. -/
theorem test_register_writes_and_smbus_accesses_take_effect_b :
    (∃ (s : State) (addr : Nat) (count : Nat), s.managed = true ∧ 1 ≤ count ∧ count ≤ 8 ∧ (∀ k, k < count → s.refuseRead .smbus (addr + 4 * k) = 0)) ∧
    (∃ (s : State) (c : Instr) (a : Nat), commandRegister c = some a ∧ s.servedNow a = false) ∧
    (∃ (s : State) (c : Instr) (a : Nat), commandRegister c = some a ∧ s.servedNow a = true ∧ s.safeMode = true ∧ fastServed a = true) ∧
    (∃ (s : State) (iface : Iface) (addr : Nat) (value : Nat) (r : Nat), s.managed = true ∧ s.refuseWrite iface addr = r ∧ r ≠ 0 ∧ (r = 4 → iface ≠ .smbus)) ∧
    (∃ (s : State) (addr : Nat) (value : Nat) (r : Nat), s.managed = true ∧ s.refuseWrite .smbus addr = r ∧ r ≠ 0) :=
  ⟨⟨tR, Fld.SYS_SERIAL.addr, 4, by decide +kernel⟩,
   ⟨tP .unpowered, .capoClaim, Fld.CAPO_CMD.CMD.addr, by decide +kernel⟩,
   ⟨tR.setBit Fld.IMG_BOOT.SAFE_MODE true, .arrPause 3, (Fld.ARR_CMD.CMD.at 3).addr, by decide +kernel⟩,
   ⟨tR, .host1, 2, 7, 2, by decide +kernel⟩,
   ⟨tP .unpowered, Fld.ARR_CMD.CMD.addr, 1, 4, by decide +kernel⟩⟩

/-- The hypotheses of clauses of RegisterWritesAndSmbusAccessesTakeEffect can be met: read32, read64, readBurst, any command of the list. -/
theorem test_register_writes_and_smbus_accesses_take_effect_c :
    (∃ (s : State) (addr : Nat) (r : Nat), s.managed = true ∧ s.refuseRead .smbus addr = r ∧ r ≠ 0 ∧ r ≠ 4) ∧
    (∃ (s : State) (addr : Nat), s.managed = true ∧ (pairAt addr).map (·.addr) ≠ some addr ∧ s.refuseRead .smbus addr = 0) ∧
    (∃ (s : State) (addr : Nat) (count : Nat), s.managed = true ∧ ((count = 0 ∨ 8 < count))) ∧
    (∃ (s : State) (iface : Iface) (hp : HostPort) (addr : Nat) (value : Nat) (c : Instr), s.managed = false ∧ c ∈ [.registerWrite iface addr value, .write32 addr value, .read32 addr, .read64 addr, .lastStatus, .readBurst addr value, .pairLoRead iface addr, .groupWord0Read iface addr, .latC0IssueMaxRead, .latC0PostMaxRead, .hfeCollectMaxRead hp, .errDepthMaxRead]) :=
  ⟨⟨tR, 2, 2, by decide +kernel⟩,
   ⟨tR, Fld.SYS_SERIAL.addr, by decide +kernel⟩,
   ⟨tR, 0, 9, by decide +kernel⟩,
   ⟨tR.setBit Fld.PWR_STATE.PEGBOX_READY false, .host0, 1, 4, 3, .registerWrite .host0 4 3, ⟨by decide +kernel, by simp⟩⟩⟩

/-- The hypotheses of clauses of StripeCacheRequestsAreServed can be met: scReadRequest, scFillReturn, scWriteRequest, mergeBufferDrain. -/
theorem test_stripe_cache_requests_are_served_a :
    (∃ (s : State) (req : Fin 8) (line : Nat) (word : Nat) (k : Nat) (l : ScLine), s.bit Fld.SC_STATUS.INIT_DONE = true ∧ (s.sc.dirOf line).owner = none ∧ s.sc.find line = some k ∧ tget s.sc.lines k = some l) ∧
    (∃ (s : State) (req : Fin 8) (line : Nat) (word : Nat), s.bit Fld.SC_STATUS.INIT_DONE = true ∧ (s.sc.dirOf line).owner = none ∧ s.sc.find line = none ∧ s.sc.evFind line = none ∧ tget s.sc.fills line = none) ∧
    (∃ (s : State) (line : Nat) (f : ScFill), tget s.sc.fills line = some f ∧ f.discarded = false) ∧
    (∃ (s : State) (req : Fin 8) (line : Nat) (mask : Nat) (data : Nat), s.bit Fld.SC_STATUS.INIT_DONE = true ∧ (s.sc.dirOf line).owner = none ∧ s.sc.entry line = none ∧ (s.sc.merge.filter (fun e => scSlice e.line = scSlice line)).length < 8) ∧
    (∃ (s : State) (line : Nat) (e : ScEntry), s.sc.entry line = some e ∧ s.sc.waiting = []) :=
  ⟨⟨tSc { tS0 with lines := [(scSet 5 * 16, ⟨5, 7, false⟩)] }, 7, 5, 3, scSet 5 * 16, ⟨5, 7, false⟩, by decide +kernel⟩,
   ⟨tSc tS0, 0, 5, 3, by decide +kernel⟩,
   ⟨tSc { tS0 with fills := [(5, ⟨true, false, false, [(0, 3)]⟩)] }, 5, ⟨true, false, false, [(0, 3)]⟩, by decide +kernel⟩,
   ⟨tSc tS0, 1, 5, 1, 0x55, by decide +kernel⟩,
   ⟨tSc { tS0 with merge := [tEnt 5] }, 5, tEnt 5, by decide +kernel⟩⟩

/-- The hypotheses of clauses of StripeCacheRequestsAreServed can be met: hbmWriteAck, evictionBufferExpiry, ownershipRequest, recallWriteBack, retryReissue. -/
theorem test_stripe_cache_requests_are_served_b :
    (∃ (s : State) (line : Nat) (e : ScEntry) (r : List ScEntry), s.sc.acks = e :: r ∧ e.line = line) ∧
    (∃ (s : State) (slice : SliceId), s.bit Fld.SC_CTRL.EVICT_PATH = false) ∧
    (∃ (s : State) (pq : Fin 4) (line : Nat), (s.sc.dirOf line).owner = none) ∧
    (∃ (s : State) (line : Nat) (data : Nat) (o : Nat), (s.sc.dirOf line).owner = some o ∧ tget s.sc.recalls line = none) ∧
    (∃ (s : State) (pq : Fin 4) (line : Nat), (tget s.sc.retries (line * 4 + pq.val)).isSome = true ∧ (s.sc.dirOf line).owner = none) :=
  ⟨⟨tSc { tS0 with acks := [tEnt 5] }, 5, tEnt 5, [], by decide +kernel⟩,
   ⟨tSc { tS0 with evict := [(0, [⟨8, 1, false⟩])] }, 0, by decide +kernel⟩,
   ⟨tSc tS0, 3, 5, by decide +kernel⟩,
   ⟨tSc { tS0 with dir := [(5, ⟨[], some 2⟩)] }, 5, 9, 2, by decide +kernel⟩,
   ⟨tSc { tS0 with retries := [(21, 1)] }, 1, 5, by decide +kernel⟩⟩

/-- The hypotheses of clauses of StripeCacheRequestsAreServed can be met: scReadRequest, scFillReturn. -/
theorem test_stripe_cache_requests_are_served_c :
    (∃ (s : State) (req : Fin 8) (line : Nat) (word : Nat), s.bit Fld.SC_STATUS.INIT_DONE = false) ∧
    (∃ (s : State) (req : Fin 8) (line : Nat) (word : Nat) (o : Nat), s.bit Fld.SC_STATUS.INIT_DONE = true ∧ (s.sc.dirOf line).owner = some o) ∧
    (∃ (s : State) (req : Fin 8) (line : Nat) (word : Nat) (l : ScLine), s.bit Fld.SC_STATUS.INIT_DONE = true ∧ (s.sc.dirOf line).owner = none ∧ s.sc.find line = none ∧ s.sc.evFind line = some l) ∧
    (∃ (s : State) (req : Fin 8) (line : Nat) (word : Nat) (f : ScFill), s.bit Fld.SC_STATUS.INIT_DONE = true ∧ (s.sc.dirOf line).owner = none ∧ s.sc.find line = none ∧ s.sc.evFind line = none ∧ tget s.sc.fills line = some f) ∧
    (∃ (s : State) (line : Nat) (ok : Bool), tget s.sc.fills line = none) :=
  ⟨⟨tR.setBit Fld.SC_STATUS.INIT_DONE false, 7, 5, 3, by decide +kernel⟩,
   ⟨tSc { tS0 with dir := [(5, ⟨[], some 2⟩)] }, 7, 5, 3, 2, by decide +kernel⟩,
   ⟨tSc { tS0 with evict := [(scSlice 5, [⟨5, 1, true⟩])] }, 0, 5, 3, ⟨5, 1, true⟩, by decide +kernel⟩,
   ⟨tSc { tS0 with fills := [(5, ⟨true, true, false, []⟩)] }, 0, 5, 3, ⟨true, true, false, []⟩, by decide +kernel⟩,
   ⟨tSc tS0, 5, false, by decide +kernel⟩⟩

/-- The hypotheses of clauses of StripeCacheRequestsAreServed can be met: scFillReturn, scWriteRequest. -/
theorem test_stripe_cache_requests_are_served_d :
    (∃ (s : State) (line : Nat) (ok : Bool) (f : ScFill), tget s.sc.fills line = some f ∧ f.discarded = true) ∧
    (∃ (s : State) (line : Nat) (f : ScFill), tget s.sc.fills line = some f ∧ f.discarded = false) ∧
    (∃ (s : State) (req : Fin 8) (line : Nat) (mask : Nat) (data : Nat), s.bit Fld.SC_STATUS.INIT_DONE = false) ∧
    (∃ (s : State) (req : Fin 8) (line : Nat) (mask : Nat) (data : Nat) (o : Nat), s.bit Fld.SC_STATUS.INIT_DONE = true ∧ (s.sc.dirOf line).owner = some o) ∧
    (∃ (s : State) (req : Fin 8) (line : Nat) (mask : Nat) (data : Nat), s.bit Fld.SC_STATUS.INIT_DONE = true ∧ (s.sc.dirOf line).owner = none ∧ s.sc.entry line = none ∧ 8 ≤ (s.sc.merge.filter (fun e => scSlice e.line = scSlice line)).length) :=
  ⟨⟨tSc { tS0 with fills := [(5, ⟨true, true, true, []⟩)] }, 5, true, ⟨true, true, true, []⟩, by decide +kernel⟩,
   ⟨tSc { tS0 with fills := [(5, ⟨true, true, false, []⟩)] }, 5, ⟨true, true, false, []⟩, by decide +kernel⟩,
   ⟨tR.setBit Fld.SC_STATUS.INIT_DONE false, 1, 5, 1, 0x55, by decide +kernel⟩,
   ⟨tSc { tS0 with dir := [(5, ⟨[], some 2⟩)] }, 1, 5, 1, 0x55, 2, by decide +kernel⟩,
   ⟨tSc { tS0 with merge := (List.range 8).map (fun k => tEnt (8 * (k + 1))) }, 1, 0, 1, 0x55, by decide +kernel⟩⟩

/-- The hypotheses of clauses of StripeCacheRequestsAreServed can be met: scWriteRequest, mergeBufferDrain, hbmWriteAck. -/
theorem test_stripe_cache_requests_are_served_e :
    (∃ (s : State) (req : Fin 8) (line : Nat) (mask : Nat) (data : Nat) (e : ScEntry), s.bit Fld.SC_STATUS.INIT_DONE = true ∧ (s.sc.dirOf line).owner = none ∧ s.sc.entry line = some e) ∧
    (∃ (s : State) (line : Nat), s.sc.entry line = none) ∧
    (∃ (s : State) (line : Nat) (e : ScEntry), s.sc.entry line = some e) ∧
    (∃ (s : State) (line : Nat), (∀ e, e ∈ s.sc.acks → e.line ≠ line)) ∧
    (∃ (s : State) (line : Nat) (a : List ScEntry) (r : List ScEntry) (e : ScEntry), s.sc.acks = a ++ e :: r ∧ (∀ x, x ∈ a → x.line ≠ line) ∧ e.line = line) :=
  ⟨⟨tSc { tS0 with merge := [tEnt 5] }, 1, 5, 2, 0x5500, tEnt 5, by decide +kernel⟩,
   ⟨tSc tS0, 5, by decide +kernel⟩,
   ⟨tSc { tS0 with merge := [tEnt 5], waiting := [.write 1 13 1 7] }, 5, tEnt 5, by decide +kernel⟩,
   ⟨tSc tS0, 5, by decide +kernel⟩,
   ⟨tSc { tS0 with acks := [tEnt 6, tEnt 5] }, 5, [tEnt 6], [], tEnt 5, by decide +kernel⟩⟩

/-- The hypotheses of clauses of StripeCacheRequestsAreServed can be met: evictionBufferExpiry, ownershipRequest, recallWriteBack. -/
theorem test_stripe_cache_requests_are_served_f :
    (∃ (s : State) (slice : SliceId), s.bit Fld.SC_CTRL.EVICT_PATH = true) ∧
    (∃ (s : State) (p : Fin 4) (q : Fin 4) (line : Nat), (s.sc.dirOf line).owner = none ∧ p ≠ q ∧ (tget s.sc.rotate (scSlice line)).getD 0 = p.val ∧ (tget s.sc.retries (line * 4 + q.val)).getD 0 < 4) ∧
    (∃ (s : State) (pq : Fin 4) (line : Nat) (o : Nat), (s.sc.dirOf line).owner = some o ∧ o ≠ pq.val) ∧
    (∃ (s : State) (line : Nat) (data : Nat), (s.sc.dirOf line).owner = none) ∧
    (∃ (s : State) (line : Nat) (data : Nat) (o : Nat) (p : Nat), (s.sc.dirOf line).owner = some o ∧ tget s.sc.recalls line = some [.own p line] ∧ p < 4) :=
  ⟨⟨(tSc tS0).setBit Fld.SC_CTRL.EVICT_PATH true, 7, by decide +kernel⟩,
   ⟨tSc tS0, 0, 3, 5, by decide +kernel⟩,
   ⟨tSc { tS0 with dir := [(5, ⟨[], some 2⟩)] }, 1, 5, 2, by decide +kernel⟩,
   ⟨tSc tS0, 5, 9, by decide +kernel⟩,
   ⟨tSc { tS0 with dir := [(5, ⟨[], some 2⟩)], recalls := [(5, [.own 1 5])] }, 5, 9, 2, 1, by decide +kernel⟩⟩

/-- The hypotheses of clauses of StripeCacheRequestsAreServed can be met: retryReissue. -/
theorem test_stripe_cache_requests_are_served_g :
    (∃ (s : State) (pq : Fin 4) (line : Nat), tget s.sc.retries (line * 4 + pq.val) = none) ∧
    (∃ (s : State) (pq : Fin 4) (line : Nat) (o : Nat), (tget s.sc.retries (line * 4 + pq.val)).isSome = true ∧ (s.sc.dirOf line).owner = some o ∧ o ≠ pq.val) :=
  ⟨⟨tSc tS0, 1, 5, by decide +kernel⟩,
   ⟨tSc { tS0 with dir := [(5, ⟨[], some 2⟩)], retries := [(21, 1)] }, 1, 5, 2, by decide +kernel⟩⟩

/-- The hypotheses of clauses of StripeCacheMaintenanceTakesEffect can be met: scMaintClean, scMaintInvalidate, scMaintCleanInvalidate, scRangeClean, scRangeInvalidate. -/
theorem test_stripe_cache_maintenance_takes_effect_a :
    (∃ (s : State), s.Takes Fld.SC_MAINT.OP.addr ∧ s.bit Fld.SC_STATUS.MAINT_BUSY = false) ∧
    (∃ (s : State), s.Takes Fld.SC_MAINT.OP.addr ∧ s.bit Fld.SC_STATUS.MAINT_BUSY = false) ∧
    (∃ (s : State), s.Takes Fld.SC_MAINT.OP.addr ∧ s.bit Fld.SC_STATUS.MAINT_BUSY = false) ∧
    (∃ (s : State), s.Takes Fld.SC_RANGE_CMD.OP.addr ∧ s.bit Fld.SC_RANGE_STATUS.BUSY = false ∧ s.fld Fld.SC_RANGE_LEN.VALUE ≠ 0 ∧ s.fld Fld.SC_RANGE_START.VALUE + s.fld Fld.SC_RANGE_LEN.VALUE ≤ s.hbmLines) ∧
    (∃ (s : State), s.Takes Fld.SC_RANGE_CMD.OP.addr ∧ s.bit Fld.SC_RANGE_STATUS.BUSY = false ∧ s.fld Fld.SC_RANGE_LEN.VALUE ≠ 0 ∧ s.fld Fld.SC_RANGE_START.VALUE + s.fld Fld.SC_RANGE_LEN.VALUE ≤ s.hbmLines) :=
  ⟨⟨tR, by decide +kernel⟩,
   ⟨tR, by decide +kernel⟩,
   ⟨tR, by decide +kernel⟩,
   ⟨tRange, by decide +kernel⟩,
   ⟨tRange, by decide +kernel⟩⟩

/-- The hypotheses of clauses of StripeCacheMaintenanceTakesEffect can be met: scRangeCleanInvalidate, scPreload, scInvalidateWays, scRangeDone, scMaintDone. -/
theorem test_stripe_cache_maintenance_takes_effect_b :
    (∃ (s : State), s.Takes Fld.SC_RANGE_CMD.OP.addr ∧ s.bit Fld.SC_RANGE_STATUS.BUSY = false ∧ s.fld Fld.SC_RANGE_LEN.VALUE ≠ 0 ∧ s.fld Fld.SC_RANGE_START.VALUE + s.fld Fld.SC_RANGE_LEN.VALUE ≤ s.hbmLines) ∧
    (∃ (s : State), s.Takes Fld.SC_RANGE_CMD.OP.addr ∧ s.bit Fld.SC_RANGE_STATUS.BUSY = false ∧ s.fld Fld.SC_RANGE_LEN.VALUE ≠ 0 ∧ s.fld Fld.SC_RANGE_START.VALUE + s.fld Fld.SC_RANGE_LEN.VALUE ≤ s.hbmLines ∧ s.fld Fld.SC_PRELOAD_WAYS.WAYS ≠ 0) ∧
    (∃ (s : State), s.Takes Fld.SC_RANGE_CMD.OP.addr ∧ s.bit Fld.SC_RANGE_STATUS.BUSY = false) ∧
    (∃ (s : State) (op : Nat), s.sc.rangeOp = some op ∧ s.scRangeQuiet op = true) ∧
    (∃ (s : State) (m : ScMaint), s.sc.maint = some m ∧ s.sc.quiet m.op m.line = true) :=
  ⟨⟨tRange, by decide +kernel⟩,
   ⟨tRange.setFld Fld.SC_PRELOAD_WAYS.WAYS 1, by decide +kernel⟩,
   ⟨tR, by decide +kernel⟩,
   ⟨tSc { tS0 with rangeOp := some 1 }, 1, by decide +kernel⟩,
   ⟨tSc { tS0 with maint := some ⟨2, 5, none⟩ }, ⟨2, 5, none⟩, by decide +kernel⟩⟩

/-- The hypotheses of clauses of StripeCacheMaintenanceTakesEffect can be met: scLockWrite, evictPathSwitch, scInitDone, scMaintClean. -/
theorem test_stripe_cache_maintenance_takes_effect_c :
    (∃ (s : State) (ways : Nat), s.bit Fld.SC_RANGE_STATUS.BUSY = false ∧ (waysOf ways).length ≤ 12) ∧
    (∃ (s : State) (path : Bool), s.bit Fld.SC_RANGE_STATUS.BUSY = false ∧ s.bit Fld.SC_CTRL.EVICT_PATH ≠ path) ∧
    (∃ (s : State), s.sc.held = []) ∧
    (∃ (s : State), s.Takes Fld.SC_MAINT.OP.addr ∧ s.bit Fld.SC_STATUS.MAINT_BUSY = false) ∧
    (∃ (s : State) (byWay : Bool), s.Takes Fld.SC_MAINT.OP.addr ∧ s.bit Fld.SC_STATUS.MAINT_BUSY = true) :=
  ⟨⟨tR, 0xFFF, by decide +kernel⟩,
   ⟨tR, true, by decide +kernel⟩,
   ⟨tR, by decide +kernel⟩,
   ⟨tR, by decide +kernel⟩,
   ⟨tR.setBit Fld.SC_STATUS.MAINT_BUSY true, true, by decide +kernel⟩⟩

/-- The hypotheses of clauses of StripeCacheMaintenanceTakesEffect can be met: scMaintInvalidate, scMaintCleanInvalidate, scRangeClean. -/
theorem test_stripe_cache_maintenance_takes_effect_d :
    (∃ (s : State), s.Takes Fld.SC_MAINT.OP.addr ∧ s.bit Fld.SC_STATUS.MAINT_BUSY = false) ∧
    (∃ (s : State) (byWay : Bool), s.Takes Fld.SC_MAINT.OP.addr ∧ s.bit Fld.SC_STATUS.MAINT_BUSY = true) ∧
    (∃ (s : State), s.Takes Fld.SC_MAINT.OP.addr ∧ s.bit Fld.SC_STATUS.MAINT_BUSY = false) ∧
    (∃ (s : State) (byWay : Bool), s.Takes Fld.SC_MAINT.OP.addr ∧ s.bit Fld.SC_STATUS.MAINT_BUSY = true) ∧
    (∃ (s : State), s.Takes Fld.SC_RANGE_CMD.OP.addr ∧ s.bit Fld.SC_RANGE_STATUS.BUSY = true) :=
  ⟨⟨tR, by decide +kernel⟩,
   ⟨tR.setBit Fld.SC_STATUS.MAINT_BUSY true, true, by decide +kernel⟩,
   ⟨tR, by decide +kernel⟩,
   ⟨tR.setBit Fld.SC_STATUS.MAINT_BUSY true, true, by decide +kernel⟩,
   ⟨tR.setBit Fld.SC_RANGE_STATUS.BUSY true, by decide +kernel⟩⟩

/-- The hypotheses of clauses of StripeCacheMaintenanceTakesEffect can be met: scRangeClean, scRangeInvalidate, scRangeCleanInvalidate. -/
theorem test_stripe_cache_maintenance_takes_effect_e :
    (∃ (s : State), s.Takes Fld.SC_RANGE_CMD.OP.addr ∧ s.bit Fld.SC_RANGE_STATUS.BUSY = false ∧ ((s.fld Fld.SC_RANGE_LEN.VALUE = 0 ∨ s.hbmLines < s.fld Fld.SC_RANGE_START.VALUE + s.fld Fld.SC_RANGE_LEN.VALUE))) ∧
    (∃ (s : State), s.Takes Fld.SC_RANGE_CMD.OP.addr ∧ s.bit Fld.SC_RANGE_STATUS.BUSY = true) ∧
    (∃ (s : State), s.Takes Fld.SC_RANGE_CMD.OP.addr ∧ s.bit Fld.SC_RANGE_STATUS.BUSY = false ∧ ((s.fld Fld.SC_RANGE_LEN.VALUE = 0 ∨ s.hbmLines < s.fld Fld.SC_RANGE_START.VALUE + s.fld Fld.SC_RANGE_LEN.VALUE))) ∧
    (∃ (s : State), s.Takes Fld.SC_RANGE_CMD.OP.addr ∧ s.bit Fld.SC_RANGE_STATUS.BUSY = true) ∧
    (∃ (s : State), s.Takes Fld.SC_RANGE_CMD.OP.addr ∧ s.bit Fld.SC_RANGE_STATUS.BUSY = false ∧ ((s.fld Fld.SC_RANGE_LEN.VALUE = 0 ∨ s.hbmLines < s.fld Fld.SC_RANGE_START.VALUE + s.fld Fld.SC_RANGE_LEN.VALUE))) :=
  ⟨⟨tRange.setFld Fld.SC_RANGE_LEN.VALUE 2, by decide +kernel⟩,
   ⟨tR.setBit Fld.SC_RANGE_STATUS.BUSY true, by decide +kernel⟩,
   ⟨tRange.setFld Fld.SC_RANGE_LEN.VALUE 2, by decide +kernel⟩,
   ⟨tR.setBit Fld.SC_RANGE_STATUS.BUSY true, by decide +kernel⟩,
   ⟨tRange.setFld Fld.SC_RANGE_LEN.VALUE 2, by decide +kernel⟩⟩

/-- The hypotheses of clauses of StripeCacheMaintenanceTakesEffect can be met: scPreload, scInvalidateWays, scRangeDone. -/
theorem test_stripe_cache_maintenance_takes_effect_f :
    (∃ (s : State), s.Takes Fld.SC_RANGE_CMD.OP.addr ∧ s.bit Fld.SC_RANGE_STATUS.BUSY = true) ∧
    (∃ (s : State), s.Takes Fld.SC_RANGE_CMD.OP.addr ∧ s.bit Fld.SC_RANGE_STATUS.BUSY = false ∧ ((s.fld Fld.SC_RANGE_LEN.VALUE = 0 ∨ s.hbmLines < s.fld Fld.SC_RANGE_START.VALUE + s.fld Fld.SC_RANGE_LEN.VALUE))) ∧
    (∃ (s : State), s.Takes Fld.SC_RANGE_CMD.OP.addr ∧ s.bit Fld.SC_RANGE_STATUS.BUSY = true) ∧
    (∃ (s : State), s.Takes Fld.SC_RANGE_CMD.OP.addr ∧ s.bit Fld.SC_RANGE_STATUS.BUSY = false ∧ s.fld Fld.SC_RANGE_LEN.VALUE ≠ 0 ∧ s.fld Fld.SC_RANGE_START.VALUE + s.fld Fld.SC_RANGE_LEN.VALUE ≤ s.hbmLines ∧ s.fld Fld.SC_PRELOAD_WAYS.WAYS = 0) ∧
    (∃ (s : State) (op : Nat), ((s.sc.rangeOp = none ∨ s.sc.rangeOp = some op ∧ s.scRangeQuiet op = false))) :=
  ⟨⟨tR.setBit Fld.SC_RANGE_STATUS.BUSY true, by decide +kernel⟩,
   ⟨tRange.setFld Fld.SC_RANGE_LEN.VALUE 2, by decide +kernel⟩,
   ⟨tR.setBit Fld.SC_RANGE_STATUS.BUSY true, by decide +kernel⟩,
   ⟨tRange, by decide +kernel⟩,
   ⟨tSc tS0, 1, by decide +kernel⟩⟩

/-- The hypotheses of clauses of StripeCacheMaintenanceTakesEffect can be met: scRangeDone, scMaintDone. -/
theorem test_stripe_cache_maintenance_takes_effect_g :
    (∃ (s : State), s.sc.rangeOp = some 1 ∧ s.scRangeQuiet 1 = true) ∧
    (∃ (s : State) (op : Nat), s.sc.rangeOp = some op ∧ ((op = 2 ∨ op = 3)) ∧ s.scRangeQuiet op = true) ∧
    (∃ (s : State), s.sc.rangeOp = some 4 ∧ s.fld Fld.SC_RANGE_LEN.VALUE = 1 ∧ s.sc.find (s.fld Fld.SC_RANGE_START.VALUE) = none) ∧
    (∃ (s : State), s.sc.rangeOp = some 5) ∧
    (∃ (s : State) (m : ScMaint), ((s.sc.maint = none ∨ s.sc.maint = some m ∧ s.sc.quiet m.op m.line = false))) :=
  ⟨⟨tSc { tS0 with rangeOp := some 1 }, by decide +kernel⟩,
   ⟨tSc { tS0 with rangeOp := some 3, lines := [(16, ⟨0, 7, false⟩)] }, 3, by decide +kernel⟩,
   ⟨(tSc { tS0 with rangeOp := some 4 }).setFld Fld.SC_RANGE_LEN.VALUE 1, by decide +kernel⟩,
   ⟨(tSc { tS0 with rangeOp := some 5, lines := [(16, ⟨1, 7, false⟩)] }).setFld Fld.SC_PRELOAD_WAYS.WAYS 1, by decide +kernel⟩,
   ⟨tSc { tS0 with maint := some ⟨1, 5, none⟩, fills := [(5, ⟨true, false, false, []⟩)] }, ⟨1, 5, none⟩, by decide +kernel⟩⟩

/-- The hypotheses of clauses of StripeCacheMaintenanceTakesEffect can be met: scMaintDone, scLockWrite. -/
theorem test_stripe_cache_maintenance_takes_effect_h :
    (∃ (s : State) (m : ScMaint), s.sc.maint = some m ∧ m.op = 1 ∧ s.sc.quiet m.op m.line = true) ∧
    (∃ (s : State) (m : ScMaint) (k : Nat), s.sc.maint = some m ∧ m.op ≠ 1 ∧ m.entry = none ∧ s.sc.quiet m.op m.line = true ∧ s.sc.find m.line = some k) ∧
    (∃ (s : State) (m : ScMaint) (k : Nat) (l : ScLine), s.sc.maint = some m ∧ m.op ≠ 1 ∧ m.entry = some k ∧ s.sc.quiet m.op m.line = true ∧ tget s.sc.lines k = some l) ∧
    (∃ (s : State) (ways : Nat), s.bit Fld.SC_RANGE_STATUS.BUSY = true) ∧
    (∃ (s : State) (ways : Nat), s.bit Fld.SC_RANGE_STATUS.BUSY = false ∧ 12 < (waysOf ways).length) :=
  ⟨⟨tSc { tS0 with maint := some ⟨1, 5, none⟩ }, ⟨1, 5, none⟩, by decide +kernel⟩,
   ⟨tSc { tS0 with maint := some ⟨2, 5, none⟩, lines := [(scSet 5 * 16, ⟨5, 7, false⟩)] }, ⟨2, 5, none⟩, scSet 5 * 16, by decide +kernel⟩,
   ⟨tSc { tS0 with maint := some ⟨3, 5, some (scSet 5 * 16)⟩, lines := [(scSet 5 * 16, ⟨5, 7, false⟩)] }, ⟨3, 5, some (scSet 5 * 16)⟩, scSet 5 * 16, ⟨5, 7, false⟩, by decide +kernel⟩,
   ⟨tR.setBit Fld.SC_RANGE_STATUS.BUSY true, 1, by decide +kernel⟩,
   ⟨tR, 0x1FFF, by decide +kernel⟩⟩

/-- The hypotheses of clauses of StripeCacheMaintenanceTakesEffect can be met: evictPathSwitch, scInitDone, scEccError. -/
theorem test_stripe_cache_maintenance_takes_effect_i :
    (∃ (s : State) (path : Bool), s.bit Fld.SC_CTRL.EVICT_PATH = path) ∧
    (∃ (s : State) (path : Bool), s.bit Fld.SC_RANGE_STATUS.BUSY = true ∧ s.bit Fld.SC_CTRL.EVICT_PATH ≠ path) ∧
    (∃ (s : State) (req : Nat) (line : Nat) (word : Nat), s.sc.held = [.read req line word] ∧ (s.sc.dirOf line).owner = none ∧ s.sc.find line = none ∧ s.sc.evFind line = none ∧ tget s.sc.fills line = none) ∧
    (∃ (s : State) (line : Nat) (k : Nat), s.sc.find line = some k) ∧
    (∃ (s : State) (line : Nat), s.sc.find line = none) :=
  ⟨⟨tR.setBit Fld.SC_CTRL.EVICT_PATH true, true, by decide +kernel⟩,
   ⟨tR.setBit Fld.SC_RANGE_STATUS.BUSY true, true, by decide +kernel⟩,
   ⟨{ tR with sc := { tR.sc with held := [.read 1 5 2] } }, 1, 5, 2, by decide +kernel⟩,
   ⟨tSc { tS0 with lines := [(scSet 5 * 16, ⟨5, 7, false⟩)] }, 5, scSet 5 * 16, by decide +kernel⟩,
   ⟨tSc tS0, 5, by decide +kernel⟩⟩

/-- The hypotheses of clauses of DmaCommandsTakeEffect can be met: dmaStart, dmaTimer, dmaDescFetch, dmaGrant, dmaReadBack. -/
theorem test_dma_commands_take_effect_a :
    (∃ (s : State) (iface : Iface) (ch : ChId), s.Takes (Fld.CH_CMD.START.at ch.val).addr ∧ dmaOwnedByFw iface ch.val 64 = false ∧ s.bit (Fld.CH_CTRL.EN.at ch.val) = true ∧ s.chState ch.val = 0) ∧
    (∃ (s : State) (ch : ChId), s.pwr.fast = .running ∧ s.fld (Fld.CH_CTRL.TRIG.at ch.val) = 1 ∧ s.fld (Fld.CH_TIMER.PERIOD_US.at ch.val) ≠ 0 ∧ s.bit (Fld.CH_CTRL.EN.at ch.val) = true ∧ s.chState ch.val = 0) ∧
    (∃ (s : State) (ch : ChId) (bytes : List Nat) (r : DmaRun), tget s.dma.runs ch.val = some r ∧ r.phase = .fetch ∧ s.fld (Fld.CH_CTRL.DESC_SPACE.at ch.val) ≠ 0 ∧ s.winAllows ch.val (s.fld (Fld.CH_CTRL.DESC_SPACE.at ch.val)) r.addr (r.addr + 64) true true = true ∧ (descOf bytes).status % 4 = 0 ∧ (descOf bytes).formatOk = true ∧ s.windowsOk ch.val (descOf bytes) = true) ∧
    (∃ (s : State) (ch : ChId) (src : List Nat) (r : DmaRun), tget s.dma.runs ch.val = some r ∧ r.phase = .move ∧ s.dmaTurn = some ch.val) ∧
    (∃ (s : State) (ch : ChId) (r : DmaRun), tget s.dma.runs ch.val = some r ∧ r.phase = .readBack) :=
  ⟨⟨tR.setBit (Fld.CH_CTRL.EN.at 64) true, .host0, 64, by decide +kernel⟩,
   ⟨((tR.setBit (Fld.CH_CTRL.EN.at 255) true).setFld (Fld.CH_CTRL.TRIG.at 255) 1).setFld (Fld.CH_TIMER.PERIOD_US.at 255) 10, 255, by decide +kernel⟩,
   ⟨tWin.setFld (Fld.WIN_LIMIT.ADDR.at 8) 12288, 64, tDescBytes, tRun .fetch, by decide +kernel⟩,
   ⟨tDma .move, 64, [], tRun .move, by decide +kernel⟩,
   ⟨tDma .readBack, 64, tRun .readBack, by decide +kernel⟩⟩

/-- The hypotheses of clauses of DmaCommandsTakeEffect can be met: dmaBusError, dmaHalt, dmaDisable, dmaWinEnable, dmaStart. -/
theorem test_dma_commands_take_effect_b :
    (∃ (s : State) (ch : ChId) (dest : Bool) (confirmed : Nat) (r : DmaRun), tget s.dma.runs ch.val = some r ∧ r.phase = .move) ∧
    (∃ (s : State) (ch : ChId) (r : DmaRun), tget s.dma.runs ch.val = some r ∧ r.phase = .fetch) ∧
    (∃ (s : State) (iface : Iface) (ch : ChId), dmaOwnedByFw iface ch.val 64 = false) ∧
    (∃ (s : State) (iface : Iface) (win : WinId) (ctrl : Nat), dmaOwnedByFw iface win.val 8 = false ∧ ctrl % 2 = 1 ∧ win.val < 8) ∧
    (∃ (s : State) (iface : Iface) (ch : ChId), s.Takes (Fld.CH_CMD.START.at ch.val).addr ∧ dmaOwnedByFw iface ch.val 64 = true) :=
  ⟨⟨tDma .move, 64, true, 0, tRun .move, by decide +kernel⟩,
   ⟨tDma .fetch, 64, tRun .fetch, by decide +kernel⟩,
   ⟨tDma .move, .host1, 64, by decide +kernel⟩,
   ⟨tR, .firmware, 7, 1, by decide +kernel⟩,
   ⟨tR, .host0, 63, by decide +kernel⟩⟩

/-- The hypotheses of clauses of DmaCommandsTakeEffect can be met: dmaStart, dmaTimer. -/
theorem test_dma_commands_take_effect_c :
    (∃ (s : State) (iface : Iface) (ch : ChId), s.Takes (Fld.CH_CMD.START.at ch.val).addr ∧ dmaOwnedByFw iface ch.val 64 = false ∧ s.bit (Fld.CH_CTRL.EN.at ch.val) = false) ∧
    (∃ (s : State) (iface : Iface) (ch : ChId), s.Takes (Fld.CH_CMD.START.at ch.val).addr ∧ dmaOwnedByFw iface ch.val 64 = false ∧ s.bit (Fld.CH_CTRL.EN.at ch.val) = true ∧ ((s.chState ch.val = 2 ∨ s.chState ch.val = 3))) ∧
    (∃ (s : State) (iface : Iface) (ch : ChId), s.Takes (Fld.CH_CMD.START.at ch.val).addr ∧ dmaOwnedByFw iface ch.val 64 = false ∧ s.bit (Fld.CH_CTRL.EN.at ch.val) = true ∧ s.chState ch.val = 1 ∧ s.fld (Fld.CH_STATUS.PENDING.at ch.val) < 255) ∧
    (∃ (s : State) (iface : Iface) (ch : ChId), s.Takes (Fld.CH_CMD.START.at ch.val).addr ∧ dmaOwnedByFw iface ch.val 64 = false ∧ s.bit (Fld.CH_CTRL.EN.at ch.val) = true ∧ s.chState ch.val = 1 ∧ s.fld (Fld.CH_STATUS.PENDING.at ch.val) = 255) ∧
    (∃ (s : State) (ch : ChId), ((s.pwr.fast ≠ .running ∨ s.fld (Fld.CH_CTRL.TRIG.at ch.val) ≠ 1 ∨ s.fld (Fld.CH_TIMER.PERIOD_US.at ch.val) = 0 ∨ s.bit (Fld.CH_CTRL.EN.at ch.val) = false))) :=
  ⟨⟨tR, .host0, 64, by decide +kernel⟩,
   ⟨(tR.setBit (Fld.CH_CTRL.EN.at 64) true).setFld (Fld.CH_STATUS.STATE.at 64) 2, .host0, 64, by decide +kernel⟩,
   ⟨(tR.setBit (Fld.CH_CTRL.EN.at 64) true).setFld (Fld.CH_STATUS.STATE.at 64) 1, .host0, 64, by decide +kernel⟩,
   ⟨((tR.setBit (Fld.CH_CTRL.EN.at 64) true).setFld (Fld.CH_STATUS.STATE.at 64) 1).setFld (Fld.CH_STATUS.PENDING.at 64) 255, .firmware, 64, by decide +kernel⟩,
   ⟨tR, 255, by decide +kernel⟩⟩

/-- The hypotheses of clauses of DmaCommandsTakeEffect can be met: dmaTimer, dmaDescFetch. -/
theorem test_dma_commands_take_effect_d :
    (∃ (s : State) (ch : ChId), s.pwr.fast = .running ∧ s.fld (Fld.CH_CTRL.TRIG.at ch.val) = 1 ∧ s.fld (Fld.CH_TIMER.PERIOD_US.at ch.val) ≠ 0 ∧ s.bit (Fld.CH_CTRL.EN.at ch.val) = true ∧ s.chState ch.val = 3) ∧
    (∃ (s : State) (ch : ChId), s.pwr.fast = .running ∧ s.fld (Fld.CH_CTRL.TRIG.at ch.val) = 1 ∧ s.fld (Fld.CH_TIMER.PERIOD_US.at ch.val) ≠ 0 ∧ s.bit (Fld.CH_CTRL.EN.at ch.val) = true ∧ ((s.chState ch.val = 1 ∨ s.chState ch.val = 2)) ∧ s.fld (Fld.CH_STATUS.PENDING.at ch.val) < 255) ∧
    (∃ (s : State) (ch : ChId), s.pwr.fast = .running ∧ s.fld (Fld.CH_CTRL.TRIG.at ch.val) = 1 ∧ s.fld (Fld.CH_TIMER.PERIOD_US.at ch.val) ≠ 0 ∧ s.bit (Fld.CH_CTRL.EN.at ch.val) = true ∧ ((s.chState ch.val = 1 ∨ s.chState ch.val = 2)) ∧ s.fld (Fld.CH_STATUS.PENDING.at ch.val) = 255) ∧
    (∃ (s : State) (ch : ChId) (bytes : List Nat), (tget s.dma.runs ch.val).map (·.phase) ≠ some .fetch) ∧
    (∃ (s : State) (ch : ChId) (bytes : List Nat) (r : DmaRun), tget s.dma.runs ch.val = some r ∧ r.phase = .fetch ∧ s.winAllows ch.val (s.fld (Fld.CH_CTRL.DESC_SPACE.at ch.val)) r.addr (r.addr + 64) true true = false) :=
  ⟨⟨(((tR.setBit (Fld.CH_CTRL.EN.at 255) true).setFld (Fld.CH_CTRL.TRIG.at 255) 1).setFld (Fld.CH_TIMER.PERIOD_US.at 255) 10).setFld (Fld.CH_STATUS.STATE.at 255) 3, 255, by decide +kernel⟩,
   ⟨(((tR.setBit (Fld.CH_CTRL.EN.at 255) true).setFld (Fld.CH_CTRL.TRIG.at 255) 1).setFld (Fld.CH_TIMER.PERIOD_US.at 255) 10).setFld (Fld.CH_STATUS.STATE.at 255) 2, 255, by decide +kernel⟩,
   ⟨((((tR.setBit (Fld.CH_CTRL.EN.at 255) true).setFld (Fld.CH_CTRL.TRIG.at 255) 1).setFld (Fld.CH_TIMER.PERIOD_US.at 255) 10).setFld (Fld.CH_STATUS.STATE.at 255) 1).setFld (Fld.CH_STATUS.PENDING.at 255) 255, 255, by decide +kernel⟩,
   ⟨tDma .move, 64, [], by decide +kernel⟩,
   ⟨tDma .fetch, 64, [], tRun .fetch, by decide +kernel⟩⟩

/-- The hypotheses of clauses of DmaCommandsTakeEffect can be met: dmaDescFetch, dmaGrant, dmaReadBack. -/
theorem test_dma_commands_take_effect_e :
    (∃ (s : State) (ch : ChId) (bytes : List Nat) (r : DmaRun), tget s.dma.runs ch.val = some r ∧ r.phase = .fetch ∧ s.fld (Fld.CH_CTRL.DESC_SPACE.at ch.val) = 0 ∧ s.winAllows ch.val 0 r.addr (r.addr + 64) true true = true ∧ (descOf ((List.range 64).map (fun i => s.hbmByte (r.addr + i)))).status % 4 = 0 ∧ (descOf ((List.range 64).map (fun i => s.hbmByte (r.addr + i)))).formatOk = true ∧ s.windowsOk ch.val (descOf ((List.range 64).map (fun i => s.hbmByte (r.addr + i)))) = true) ∧
    (∃ (s : State) (ch : ChId) (bytes : List Nat) (bs : List Nat) (r : DmaRun), tget s.dma.runs ch.val = some r ∧ r.phase = .fetch ∧ s.winAllows ch.val (s.fld (Fld.CH_CTRL.DESC_SPACE.at ch.val)) r.addr (r.addr + 64) true true = true ∧ bs = (if s.fld (Fld.CH_CTRL.DESC_SPACE.at ch.val) = 0 then (List.range 64).map (fun i => s.hbmByte (r.addr + i)) else bytes) ∧ (descOf bs).status % 4 ≠ 0) ∧
    (∃ (s : State) (ch : ChId) (bytes : List Nat) (bs : List Nat) (r : DmaRun), tget s.dma.runs ch.val = some r ∧ r.phase = .fetch ∧ s.winAllows ch.val (s.fld (Fld.CH_CTRL.DESC_SPACE.at ch.val)) r.addr (r.addr + 64) true true = true ∧ bs = (if s.fld (Fld.CH_CTRL.DESC_SPACE.at ch.val) = 0 then (List.range 64).map (fun i => s.hbmByte (r.addr + i)) else bytes) ∧ (descOf bs).status % 4 = 0 ∧ (((descOf bs).formatOk = false ∨ s.windowsOk ch.val (descOf bs) = false))) ∧
    (∃ (s : State) (ch : ChId) (src : List Nat), (((tget s.dma.runs ch.val).map (·.phase) ≠ some .move ∨ s.dmaTurn ≠ some ch.val))) ∧
    (∃ (s : State) (ch : ChId) (ok : Bool), (tget s.dma.runs ch.val).map (·.phase) ≠ some .readBack) :=
  ⟨⟨tWin0, 64, [], tRun .fetch, by decide +kernel⟩,
   ⟨tWin, 64, tDescBytes.set 0x30 1, tDescBytes.set 0x30 1, tRun .fetch, by decide +kernel⟩,
   ⟨tWin, 64, tDescBytes.set 0x22 1, tDescBytes.set 0x22 1, tRun .fetch, by decide +kernel⟩,
   ⟨tDma .fetch, 64, [], by decide +kernel⟩,
   ⟨tDma .move, 64, true, by decide +kernel⟩⟩

/-- The hypotheses of clauses of DmaCommandsTakeEffect can be met: dmaReadBack, dmaBusError, dmaHalt. -/
theorem test_dma_commands_take_effect_f :
    (∃ (s : State) (ch : ChId) (r : DmaRun), tget s.dma.runs ch.val = some r ∧ r.phase = .readBack) ∧
    (∃ (s : State) (ch : ChId) (dest : Bool) (confirmed : Nat), (tget s.dma.runs ch.val).map (·.phase) ≠ some .move) ∧
    (∃ (s : State) (ch : ChId) (r : DmaRun), tget s.dma.runs ch.val = some r ∧ r.phase = .fetch ∧ s.winAllows ch.val (s.fld (Fld.CH_CTRL.DESC_SPACE.at ch.val)) r.addr (r.addr + 64) true true = false) ∧
    (∃ (s : State) (ch : ChId) (r : DmaRun), tget s.dma.runs ch.val = some r ∧ r.phase = .readBack) ∧
    (∃ (s : State) (ch : ChId) (code : Nat), ((tget s.dma.runs ch.val = none ∨ code = 0 ∨ 3 < code))) :=
  ⟨⟨tDma .readBack, 64, tRun .readBack, by decide +kernel⟩,
   ⟨tDma .fetch, 64, true, 0, by decide +kernel⟩,
   ⟨tDma .fetch, 64, tRun .fetch, by decide +kernel⟩,
   ⟨tDma .readBack, 64, tRun .readBack, by decide +kernel⟩,
   ⟨tDma .fetch, 64, 4, by decide +kernel⟩⟩

/-- The hypotheses of clauses of DmaCommandsTakeEffect can be met: dmaDisable, dmaWinEnable. -/
theorem test_dma_commands_take_effect_g :
    (∃ (s : State) (iface : Iface) (ch : ChId), dmaOwnedByFw iface ch.val 64 = true) ∧
    (∃ (s : State) (iface : Iface) (win : WinId) (ctrl : Nat), dmaOwnedByFw iface win.val 8 = true) ∧
    (∃ (s : State) (iface : Iface) (win : WinId) (ctrl : Nat), dmaOwnedByFw iface win.val 8 = false ∧ ctrl % 2 = 0) ∧
    (∃ (s : State) (iface : Iface) (win : WinId) (ctrl : Nat), dmaOwnedByFw iface win.val 8 = false ∧ ctrl % 2 = 1 ∧ 8 ≤ win.val ∧ ((ctrl / 2 % 4 ≠ 0 ∨ s.dmaArea.1 ≤ s.addrFld (Fld.WIN_BASE.ADDR.at win.val) ∧ s.addrFld (Fld.WIN_LIMIT.ADDR.at win.val) ≤ s.dmaArea.2))) ∧
    (∃ (s : State) (iface : Iface) (win : WinId) (ctrl : Nat), dmaOwnedByFw iface win.val 8 = false ∧ ctrl % 2 = 1 ∧ 8 ≤ win.val ∧ ctrl / 2 % 4 = 0 ∧ ¬ (s.dmaArea.1 ≤ s.addrFld (Fld.WIN_BASE.ADDR.at win.val) ∧ s.addrFld (Fld.WIN_LIMIT.ADDR.at win.val) ≤ s.dmaArea.2)) :=
  ⟨⟨tDma .move, .host1, 63, by decide +kernel⟩,
   ⟨tR, .host1, 7, 1, by decide +kernel⟩,
   ⟨tR, .host1, 8, 0x1A, by decide +kernel⟩,
   ⟨tR, .host1, 31, 3, by decide +kernel⟩,
   ⟨tR.setFld (Fld.WIN_LIMIT.ADDR.at 8) (2 ^ 25 - 1), .host1, 8, 1, by decide +kernel⟩⟩

/-- The hypotheses of clauses of KeyCommandsTakeEffect can be met: keySetOwner, keyLoadBlob, keyUnload. -/
theorem test_key_commands_take_effect_a :
    (∃ (s : State), s.bit Fld.CIP_KEY_STATUS.BUSY = false ∧ s.cip.keys = []) ∧
    (∃ (s : State), s.bit Fld.CIP_KEY_STATUS.BUSY = false ∧ s.cip.keys ≠ []) ∧
    (∃ (s : State) (plain : BlobPlain) (nsid : Nat), s.bit Fld.CIP_KEY_STATUS.BUSY = false ∧ s.blobError plain = 0 ∧ nsid = s.window 8 8 % 65536 ∧ tget s.cip.keys nsid = none) ∧
    (∃ (s : State) (plain : BlobPlain), s.bit Fld.CIP_KEY_STATUS.BUSY = false ∧ s.cip.kek = none) ∧
    (∃ (s : State), s.bit Fld.CIP_KEY_STATUS.BUSY = false) :=
  ⟨⟨tR, by decide +kernel⟩,
   ⟨tO, by decide +kernel⟩,
   ⟨tLoad, tBlob, 1, ⟨by decide +kernel, tLoad_blob, by rw [tLoad_window]; omega, by decide +kernel⟩⟩,
   ⟨tR, tBlob, by decide +kernel⟩,
   ⟨tO, by decide +kernel⟩⟩

/-- The hypotheses of clauses of KeyCommandsTakeEffect can be met: keyZeroizeAll, trngRestart, keySetOwner, keyUnload. -/
theorem test_key_commands_take_effect_b :
    (∃ (s : State), s.bit Fld.CIP_KEY_STATUS.BUSY = false) ∧
    (∃ (s : State), s.bit Fld.CIP_KEY_STATUS.BUSY = false) ∧
    (∃ (s : State), s.bit Fld.CIP_KEY_STATUS.BUSY = true) ∧
    (∃ (s : State), s.bit Fld.CIP_KEY_STATUS.BUSY = true) ∧
    (∃ (s : State), s.bit Fld.CIP_KEY_STATUS.BUSY = true) :=
  ⟨⟨tO, by decide +kernel⟩,
   ⟨tR, by decide +kernel⟩,
   ⟨tR.setBit Fld.CIP_KEY_STATUS.BUSY true, by decide +kernel⟩,
   ⟨tR.setBit Fld.CIP_KEY_STATUS.BUSY true, by decide +kernel⟩,
   ⟨tR.setBit Fld.CIP_KEY_STATUS.BUSY true, by decide +kernel⟩⟩

/-- The hypotheses of clauses of KeyCommandsTakeEffect can be met: trngRestart, keyLoadBlob, keyUnload. -/
theorem test_key_commands_take_effect_c :
    (∃ (s : State), s.bit Fld.CIP_KEY_STATUS.BUSY = true) ∧
    (∃ (s : State) (plain : BlobPlain), s.bit Fld.CIP_KEY_STATUS.BUSY = true) ∧
    (∃ (s : State) (plain : BlobPlain) (e : Nat), s.bit Fld.CIP_KEY_STATUS.BUSY = false ∧ s.blobError plain = e ∧ e ≠ 0) ∧
    (∃ (s : State) (plain : BlobPlain) (nsid : Nat) (k : DataKey), s.bit Fld.CIP_KEY_STATUS.BUSY = false ∧ s.blobError plain = 0 ∧ nsid = s.window 8 8 % 65536 ∧ tget s.cip.keys nsid = some k) ∧
    (∃ (s : State) (n : Nat), s.bit Fld.CIP_KEY_STATUS.BUSY = false ∧ n ≠ s.fld Fld.CIP_KEY_SEL.SLOT + 1) :=
  ⟨⟨tR.setBit Fld.CIP_KEY_STATUS.BUSY true, by decide +kernel⟩,
   ⟨tR.setBit Fld.CIP_KEY_STATUS.BUSY true, tBlob, by decide +kernel⟩,
   ⟨tR, tBlob, 3, by decide +kernel⟩,
   ⟨tLoad2, tBlob, 1, tKey, ⟨by decide +kernel, tLoad2_blob, tLoad_nsid, by decide +kernel⟩⟩,
   ⟨tO, 2, by decide +kernel⟩⟩

/-- The hypotheses of clauses of TamperAndTrngTakeEffect can be met: tamperRelease, tamperCfgLock, tamperTrip. -/
theorem test_tamper_and_trng_take_effect_a :
    (∃ (s : State), s.bit Fld.CIP_KEY_STATUS.BUSY = false ∧ s.bit Fld.CIP_STATUS.TAMPER_HOLD = true ∧ s.tokenOk 6 (s.fld Fld.CIP_TAMPER_STATUS.LATCHED) (s.fld Fld.CIP_AUTH) = true) ∧
    (∃ (s : State) (value : Nat), s.bit Fld.CIP_TAMPER_CFG.LOCK = false) ∧
    (∃ (s : State) (value : Nat), s.bit Fld.CIP_TAMPER_CFG.LOCK = true) ∧
    (∃ (s : State) (src : Fin 8) (active : Nat), ((4 ≤ src.val ∨ s.fld Fld.CIP_TAMPER_CFG.EXT_EN / 2 ^ src.val % 2 = 1)) ∧ s.pwr.fast ≠ .unpowered ∧ s.startingUp = false) ∧
    (∃ (s : State) (src : Fin 8) (active : Nat), ((4 ≤ src.val ∨ s.fld Fld.CIP_TAMPER_CFG.EXT_EN / 2 ^ src.val % 2 = 1)) ∧ s.startingUp = true) :=
  ⟨⟨(tTok tR Fld.CIP_AUTH 6 0).setBit Fld.CIP_STATUS.TAMPER_HOLD true, ⟨by decide +kernel, by decide +kernel, tok_arg _ _ _ (by decide +kernel) (tok_set _ _ _ _ _ _ (by decide) (by decide) (tTok_ok _ _ _ _ (by decide) rfl))⟩⟩,
   ⟨tR, 0xF0F, by decide +kernel⟩,
   ⟨tR.setBit Fld.CIP_TAMPER_CFG.LOCK true, 0, by decide +kernel⟩,
   ⟨tO, 7, 0, by decide +kernel⟩,
   ⟨tP .booting, 4, 0, by decide +kernel⟩⟩

/-- The hypotheses of clauses of TamperAndTrngTakeEffect can be met: tamperTrip, trngStartupDone, trngBlockReady, trngHealthFail. -/
theorem test_tamper_and_trng_take_effect_b :
    (∃ (s : State) (src : Fin 8) (active : Nat), ((4 ≤ src.val ∨ s.fld Fld.CIP_TAMPER_CFG.EXT_EN / 2 ^ src.val % 2 = 1)) ∧ s.pwr.fast = .unpowered) ∧
    (∃ (s : State), s.bit Fld.CIP_TRNG_STATUS.STARTUP = true) ∧
    (∃ (s : State), s.bit Fld.CIP_TRNG_STATUS.STARTUP = false ∧ s.bit Fld.CIP_TRNG_STATUS.FAILED = false ∧ s.cip.entropy = []) ∧
    (∃ (s : State) (x : Nat) (y : Nat), s.bit Fld.CIP_TRNG_STATUS.FAILED = false ∧ s.now < x + sec ∧ s.now < y + sec ∧ s.cip.trngFails = [x, y]) ∧
    (∃ (s : State), s.cip.trngFails = []) :=
  ⟨⟨tP .unpowered, 5, 0, by decide +kernel⟩,
   ⟨tR, by decide +kernel⟩,
   ⟨tTrng, by decide +kernel⟩,
   ⟨{ tTrng with cip := { tTrng.cip with trngFails := [0, 0] } }, 0, 0, by decide +kernel⟩,
   ⟨tTrng, by decide +kernel⟩⟩

/-- The hypotheses of clauses of TamperAndTrngTakeEffect can be met: entropyTimeout, tamperRelease. -/
theorem test_tamper_and_trng_take_effect_c :
    (∃ (s : State) (tag : Nat) (c : HostCmd), s.cmd tag = some c ∧ c.phase = .entropyWait ∧ c.tag = tag) ∧
    (∃ (s : State) (iface : Iface) (active : Nat), s.bit Fld.CIP_KEY_STATUS.BUSY = true) ∧
    (∃ (s : State) (iface : Iface) (active : Nat), s.bit Fld.CIP_KEY_STATUS.BUSY = false ∧ s.bit Fld.CIP_STATUS.TAMPER_HOLD = false) ∧
    (∃ (s : State) (iface : Iface) (active : Nat), s.bit Fld.CIP_KEY_STATUS.BUSY = false ∧ s.bit Fld.CIP_STATUS.TAMPER_HOLD = true ∧ ((iface ≠ .smbus ∨ active % 2 ^ Fld.CIP_TAMPER_STATUS.ACTIVE.width ≠ 0))) ∧
    (∃ (s : State), s.bit Fld.CIP_KEY_STATUS.BUSY = false ∧ s.bit Fld.CIP_STATUS.TAMPER_HOLD = true ∧ s.tokenOk 6 (s.fld Fld.CIP_TAMPER_STATUS.LATCHED) (s.fld Fld.CIP_AUTH) = false) :=
  ⟨⟨tC { tR with cip := { tR.cip with entropy := [2048] } } { tCmd with kind := .write, phase := .entropyWait }, 2048, { tCmd with kind := .write, phase := .entropyWait }, by decide +kernel⟩,
   ⟨tR.setBit Fld.CIP_KEY_STATUS.BUSY true, .smbus, 0, by decide +kernel⟩,
   ⟨tR, .smbus, 0, by decide +kernel⟩,
   ⟨tR.setBit Fld.CIP_STATUS.TAMPER_HOLD true, .host0, 0, by decide +kernel⟩,
   ⟨tR.setBit Fld.CIP_STATUS.TAMPER_HOLD true, by decide +kernel⟩⟩

/-- The hypotheses of clauses of TamperAndTrngTakeEffect can be met: tamperTrip, trngStartupDone, trngBlockReady, trngHealthFail. -/
theorem test_tamper_and_trng_take_effect_d :
    (∃ (s : State) (src : Fin 8) (active : Nat), src.val < 4 ∧ s.fld Fld.CIP_TAMPER_CFG.EXT_EN / 2 ^ src.val % 2 = 0) ∧
    (∃ (s : State) (ok : Bool), ((s.bit Fld.CIP_TRNG_STATUS.STARTUP = false ∨ ok = false))) ∧
    (∃ (s : State), ((s.bit Fld.CIP_TRNG_STATUS.STARTUP = true ∨ s.bit Fld.CIP_TRNG_STATUS.FAILED = true))) ∧
    (∃ (s : State) (tag : Nat) (r : List Nat) (c : HostCmd) (k : DataKey), s.bit Fld.CIP_TRNG_STATUS.STARTUP = false ∧ s.bit Fld.CIP_TRNG_STATUS.FAILED = false ∧ s.cip.entropy = tag :: r ∧ s.cmd tag = some c ∧ tget s.cip.keys c.nsid = some k ∧ k.exhausted = false ∧ k.ctx = none ∧ k.ctr + c.sectors ≤ nonceEnd ∧ k.ctr + c.sectors ≤ s.mark c.nsid) ∧
    (∃ (s : State) (apt : Bool), (((s.cip.trngFails.filter (fun t => s.now < t + sec)).length < 2 ∨ s.bit Fld.CIP_TRNG_STATUS.FAILED = true))) :=
  ⟨⟨tR.setFld Fld.CIP_TAMPER_CFG.EXT_EN 0, 3, 1, by decide +kernel⟩,
   ⟨tR, false, by decide +kernel⟩,
   ⟨tR, by decide +kernel⟩,
   ⟨tC { tTrng with cip := { tTrng.cip with entropy := [2048, 7], keys := [(1, { tKey with ctx := none })] } } { tCmd with kind := .write, phase := .entropyWait }, 2048, [7], { tCmd with kind := .write, phase := .entropyWait }, { tKey with ctx := none }, by decide +kernel⟩,
   ⟨{ tTrng with cip := { tTrng.cip with trngFails := [0] } }, true, by decide +kernel⟩⟩

/-- The hypotheses of clauses of TamperAndTrngTakeEffect can be met: trngHealthFail, entropyTimeout. -/
theorem test_tamper_and_trng_take_effect_e :
    (∃ (s : State) (apt : Bool), 2 ≤ (s.cip.trngFails.filter (fun t => s.now < t + sec)).length ∧ s.bit Fld.CIP_TRNG_STATUS.FAILED = false) ∧
    (∃ (s : State) (apt : Bool) (tag : Nat) (c : HostCmd), 2 ≤ (s.cip.trngFails.filter (fun t => s.now < t + sec)).length ∧ s.bit Fld.CIP_TRNG_STATUS.FAILED = false ∧ s.cip.entropy = [tag] ∧ s.cmd tag = some c ∧ c.phase = .entropyWait ∧ c.tag = tag) ∧
    (∃ (s : State) (tag : Nat), (s.cmd tag).map (·.phase) ≠ some .entropyWait) :=
  ⟨⟨{ tTrng with cip := { tTrng.cip with trngFails := [0, 0] } }, true, by decide +kernel⟩,
   ⟨tC { tTrng with cip := { tTrng.cip with trngFails := [0, 0], entropy := [2048] } } { tCmd with kind := .write, phase := .entropyWait }, false, 2048, { tCmd with kind := .write, phase := .entropyWait }, by decide +kernel⟩,
   ⟨tR, 5, by decide +kernel⟩⟩

/-- The hypotheses of clauses of CipherMessagesTakeEffect can be met: cipherMessageStart, cipherMessageDone, nonceMarkAck. -/
theorem test_cipher_messages_take_effect_a :
    (∃ (s : State) (pick : Cls) (remaining : List Nat) (m : CMsg) (i : Nat), s.nextMessage pick = some (m, false) ∧ (List.range 16).find? (fun i => (tget s.cip.pipes i).isNone) = some i) ∧
    (∃ (s : State) (pick : Cls) (remaining : List Nat) (m : CMsg) (v : CMsg) (i : Nat), s.nextMessage pick = some (m, false) ∧ m.cls = 0 ∧ (List.range 16).find? (fun i => (tget s.cip.pipes i).isNone) = none ∧ s.cip.suspended.length < 256 ∧ s.suspendVictim remaining = some (i, v)) ∧
    (∃ (s : State) (pipe : Fin 16) (m : CMsg) (k : DataKey), tget s.cip.pipes pipe.val = some m ∧ tget s.cip.keys m.nsid = some k ∧ m.enc = true) ∧
    (∃ (s : State) (pipe : Fin 16) (m : CMsg) (k : DataKey), tget s.cip.pipes pipe.val = some m ∧ tget s.cip.keys m.nsid = some k ∧ m.enc = false) ∧
    (∃ (s : State) (nsid : Nat) (m : Nat), tget s.cip.markDue nsid = some m ∧ s.bit Fld.WC_STATUS.MIRROR_ON = false ∧ s.hfe.cmds = []) :=
  ⟨⟨{ tO with cip := { tO.cip with waiting := [tMsg true 1] } }, 0, [], tMsg true 1, 0, by decide +kernel⟩,
   ⟨{ tO with cip := { tO.cip with waiting := [tMsg true 0], pipes := (List.range 16).map (fun i => (i, tMsg false 3)) } }, 0, [5, 9], tMsg true 0, tMsg false 3, 1, by decide +kernel⟩,
   ⟨tPipe (tMsg true 1), 15, tMsg true 1, tKey, by decide +kernel⟩,
   ⟨tPipe (tMsg false 1), 15, tMsg false 1, tKey, by decide +kernel⟩,
   ⟨{ tO with cip := { tO.cip with markDue := [(1, 2 ^ 21)] } }, 1, 2 ^ 21, by decide +kernel⟩⟩

/-- The hypotheses of clauses of CipherMessagesTakeEffect can be met: cipherMessageStart, cipherMessageDone. -/
theorem test_cipher_messages_take_effect_b :
    (∃ (s : State) (pick : Cls) (remaining : List Nat), s.nextMessage pick = none) ∧
    (∃ (s : State) (pick : Cls) (remaining : List Nat) (m : CMsg) (i : Nat), s.nextMessage pick = some (m, true) ∧ (List.range 16).find? (fun i => (tget s.cip.pipes i).isNone) = some i) ∧
    (∃ (s : State) (pick : Cls) (remaining : List Nat) (m : CMsg) (resumed : Bool), s.nextMessage pick = some (m, resumed) ∧ (List.range 16).find? (fun i => (tget s.cip.pipes i).isNone) = none ∧ ((m.cls ≠ 0 ∨ 256 ≤ s.cip.suspended.length ∨ s.suspendVictim remaining = none))) ∧
    (∃ (s : State) (pipe : Fin 16), tget s.cip.pipes pipe.val = none) ∧
    (∃ (s : State) (pipe : Fin 16) (m : CMsg), tget s.cip.pipes pipe.val = some m ∧ tget s.cip.keys m.nsid = none) :=
  ⟨⟨tO, 0, [], by decide +kernel⟩,
   ⟨{ tO with cip := { tO.cip with suspended := [tMsg true 1] } }, 2, [], tMsg true 1, 0, by decide +kernel⟩,
   ⟨{ tO with cip := { tO.cip with waiting := [tMsg true 1], pipes := (List.range 16).map (fun i => (i, tMsg false 3)) } }, 1, [5, 9], tMsg true 1, false, by decide +kernel⟩,
   ⟨tO, 3, by decide +kernel⟩,
   ⟨{ (tPipe (tMsg true 1)) with cip := { (tPipe (tMsg true 1)).cip with keys := [] } }, 15, tMsg true 1, by decide +kernel⟩⟩

/-- The hypotheses of clauses of CipherMessagesTakeEffect can be met: cipherMessageDone, nonceMarkAck. -/
theorem test_cipher_messages_take_effect_c :
    (∃ (s : State) (pipe : Fin 16) (m : CMsg) (k : DataKey), tget s.cip.pipes pipe.val = some m ∧ tget s.cip.keys m.nsid = some k ∧ m.enc = false ∧ gcmTagOf k.key m.ctx m.ctr m.nsid m.lba m.text ≠ m.gcm) ∧
    (∃ (s : State) (pipe : Fin 16) (m : CMsg) (k : DataKey), tget s.cip.pipes pipe.val = some m ∧ tget s.cip.keys m.nsid = some k ∧ m.enc = false ∧ gcmTagOf k.key m.ctx m.ctr m.nsid m.lba m.text = m.gcm) ∧
    (∃ (s : State) (nsid : Nat), tget s.cip.markDue nsid = none) ∧
    (∃ (s : State) (nsid : Nat) (m : Nat), tget s.cip.markDue nsid = some m ∧ s.bit Fld.WC_STATUS.MIRROR_ON = true ∧ MirrorItem.nonceMark nsid m ∈ s.capo.unacked) ∧
    (∃ (s : State) (nsid : Nat) (m : Nat), tget s.cip.markDue nsid = some m ∧ ((s.bit Fld.WC_STATUS.MIRROR_ON = false ∨ MirrorItem.nonceMark nsid m ∉ s.capo.unacked)) ∧ ((∀ c, c ∈ s.hfe.cmds → c.phase ≠ .markWait ∨ c.nsid ≠ nsid))) :=
  ⟨⟨tPipe tGcmBad, 15, tGcmBad, tKey, ⟨by decide +kernel, by decide +kernel, rfl, tGcm_ne _ _ _ _ _ _⟩⟩,
   ⟨tPipe tGcmOk, 15, tGcmOk, tKey, ⟨rfl, by decide +kernel, rfl, rfl⟩⟩,
   ⟨tO, 1, by decide +kernel⟩,
   ⟨({ tO with cip := { tO.cip with markDue := [(1, 2 ^ 21)] }, capo := { tO.capo with unacked := [.nonceMark 1 (2 ^ 21)] } } : State).setBit Fld.WC_STATUS.MIRROR_ON true, 1, 2 ^ 21, by decide +kernel⟩,
   ⟨({ tO with cip := { tO.cip with markDue := [(1, 2 ^ 21)] } } : State).setBit Fld.WC_STATUS.MIRROR_ON true, 1, 2 ^ 21, by decide +kernel⟩⟩

/-- The hypotheses of clauses of CipherMessagesTakeEffect can be met: nonceMarkAck. -/
theorem test_cipher_messages_take_effect_d :
    ∃ (s : State) (nsid : Nat) (m : Nat) (ctx : Nat) (c : HostCmd) (k : DataKey), tget s.cip.markDue nsid = some m ∧ s.bit Fld.WC_STATUS.MIRROR_ON = false ∧ s.hfe.cmds = [c] ∧ c.phase = .markWait ∧ c.nsid = nsid ∧ tget s.cip.keys nsid = some k ∧ k.ctx = some ctx ∧ k.exhausted = false ∧ k.ctr + c.sectors ≤ m ∧ k.ctr + c.sectors ≤ nonceEnd :=
  ⟨tC { tO with cip := { tO.cip with markDue := [(1, 2 ^ 21)] } } { tCmd with kind := .write, phase := .markWait }, 1, 2 ^ 21, 3, { tCmd with kind := .write, phase := .markWait }, tKey, by decide +kernel⟩

/-- The hypotheses of clauses of GateAndClaimFollowTheLine can be met: capoSeenClass, readbackCheck, gateOpen, capoRenew. -/
theorem test_gate_and_claim_follow_the_line_a :
    (∃ (s : State) (c : SeenClass), s.pwr.fast ≠ .inReset ∧ s.pwr.fast ≠ .unpowered ∧ s.seen ≠ seenCode c ∧ s.paired = true) ∧
    (∃ (s : State), s.paired = true ∧ s.islandOff = false ∧ s.capo.released = false) ∧
    (∃ (s : State), s.bit Fld.CAPO_STATUS.GATE_OPEN = false ∧ s.paired = true ∧ s.islandOff = false ∧ s.gateHolds = true ∧ s.capo.seenAt + s.confirmTime ≤ s.now ∧ s.role = 2) ∧
    (∃ (s : State), s.paired = true ∧ s.islandOff = false ∧ s.gateHolds = true ∧ s.now < s.capo.seenAt + s.confirmTime) ∧
    (∃ (s : State) (iface : Iface), iface ≠ .firmware) :=
  ⟨⟨tPair 1 1, .released, by decide +kernel⟩,
   ⟨tPair 3 3, by decide +kernel⟩,
   ⟨{ (tPair 2 3).setFld Fld.CAPO_STATUS.DRIVE 1 with capo := { (tPair 2 3).capo with request := true }, now := 100000000 }, by decide +kernel⟩,
   ⟨{ (tPair 2 3).setFld Fld.CAPO_STATUS.DRIVE 1 with capo := { (tPair 2 3).capo with request := true }, now := 99999999 }, by decide +kernel⟩,
   ⟨tPair 3 3, .host0, by decide +kernel⟩⟩

/-- The hypotheses of clauses of GateAndClaimFollowTheLine can be met: renewExpiry, contentionTimeout, contentionBackoffExpiry, capoSeenClass. -/
theorem test_gate_and_claim_follow_the_line_b :
    (∃ (s : State), s.paired = true ∧ s.islandOff = false ∧ s.capo.request = true ∧ s.pwr.fast = .running) ∧
    (∃ (s : State), s.paired = true ∧ s.rank = 0 ∧ s.capo.request = true ∧ s.seen = 1 ∧ s.role ≠ 4) ∧
    (∃ (s : State), s.capo.backoff = true ∧ s.capo.rounds < 8 ∧ s.mayClaim = true) ∧
    (∃ (s : State), s.capo.backoff = true ∧ 8 ≤ s.capo.rounds) ∧
    (∃ (s : State) (c : SeenClass), ((s.pwr.fast = .inReset ∨ s.pwr.fast = .unpowered ∨ s.seen = seenCode c))) :=
  ⟨⟨{ tPair 3 3 with capo := { (tPair 3 3).capo with request := true } }, by decide +kernel⟩,
   ⟨{ tPair 2 1 with capo := { (tPair 2 1).capo with request := true } }, by decide +kernel⟩,
   ⟨{ tPair 1 3 with capo := { (tPair 1 3).capo with backoff := true, rounds := 7 } }, by decide +kernel⟩,
   ⟨{ tPair 1 3 with capo := { (tPair 1 3).capo with backoff := true, rounds := 8 } }, by decide +kernel⟩,
   ⟨tPair 1 1, .active, by decide +kernel⟩⟩

/-- The hypotheses of clauses of GateAndClaimFollowTheLine can be met: capoSeenClass. -/
theorem test_gate_and_claim_follow_the_line_c :
    (∃ (s : State) (c : SeenClass), s.pwr.fast ≠ .inReset ∧ s.pwr.fast ≠ .unpowered ∧ s.seen ≠ seenCode c ∧ s.paired = false) ∧
    (∃ (s : State) (c : SeenClass), s.seen ≠ seenCode c ∧ s.paired = true ∧ s.islandOff = false ∧ s.capo.released = false ∧ 4 ≤ seenCode c) ∧
    (∃ (s : State), s.seen ≠ 3 ∧ s.paired = true ∧ s.islandOff = false ∧ s.role = 1 ∧ s.partnerActive = true) ∧
    (∃ (s : State), s.seen ≠ 1 ∧ s.paired = true ∧ s.islandOff = false ∧ s.capo.request = true ∧ s.rank = 1 ∧ s.role ≠ 3 ∧ s.role ≠ 4) ∧
    (∃ (s : State), s.seen ≠ 1 ∧ s.paired = true ∧ s.islandOff = false ∧ s.capo.request = true ∧ s.rank = 1 ∧ s.role = 3) :=
  ⟨⟨tR, .consent, by decide +kernel⟩,
   ⟨tPair 1 1, .invalid, by decide +kernel⟩,
   ⟨{ tPair 1 1 with capo := { (tPair 1 1).capo with partner := some (tHealth 2), partnerAt := 0 } }, by decide +kernel⟩,
   ⟨{ tRank1 2 3 with capo := { (tRank1 2 3).capo with request := true } }, by decide +kernel⟩,
   ⟨{ tRank1 3 3 with capo := { (tRank1 3 3).capo with request := true } }, by decide +kernel⟩⟩

/-- The hypotheses of clauses of GateAndClaimFollowTheLine can be met: readbackCheck, gateOpen. -/
theorem test_gate_and_claim_follow_the_line_d :
    (∃ (s : State), ((s.pwr.fast = .inReset ∨ s.pwr.fast = .unpowered))) ∧
    (∃ (s : State), s.pwr.fast ≠ .inReset ∧ s.pwr.fast ≠ .unpowered ∧ ((s.paired = false ∨ s.islandOff = true))) ∧
    (∃ (s : State), s.paired = true ∧ s.islandOff = false ∧ s.capo.released = true) ∧
    (∃ (s : State), ((s.bit Fld.CAPO_STATUS.GATE_OPEN = true ∨ s.paired = false ∨ s.islandOff = true ∨ s.gateHolds = false ∨ (s.role ≠ 2 ∧ s.role ≠ 3)))) ∧
    (∃ (s : State), s.bit Fld.CAPO_STATUS.GATE_OPEN = false ∧ s.paired = true ∧ s.islandOff = false ∧ s.gateHolds = true ∧ s.capo.seenAt + s.confirmTime ≤ s.now ∧ s.role = 3) :=
  ⟨⟨tP .inReset, by decide +kernel⟩,
   ⟨tR, by decide +kernel⟩,
   ⟨{ tPair 1 3 with capo := { (tPair 1 3).capo with released := true } }, by decide +kernel⟩,
   ⟨tPair 3 3, by decide +kernel⟩,
   ⟨{ (tPair 3 2).setFld Fld.CAPO_STATUS.DRIVE 1 with capo := { (tPair 3 2).capo with request := true }, now := 1500000 }, by decide +kernel⟩⟩

/-- The hypotheses of clauses of GateAndClaimFollowTheLine can be met: gateOpen, renewExpiry, contentionTimeout, contentionBackoffExpiry. -/
theorem test_gate_and_claim_follow_the_line_e :
    (∃ (s : State) (x : Nat), s.bit Fld.CAPO_STATUS.GATE_OPEN = false ∧ s.paired = true ∧ s.islandOff = false ∧ s.gateHolds = true ∧ s.capo.seenAt + s.confirmTime ≤ s.now ∧ s.role = 2 ∧ s.capo.takeoverAt = some x) ∧
    (∃ (s : State), ((s.paired = false ∨ s.islandOff = true ∨ s.capo.request = false ∨ s.pwr.fast ≠ .running))) ∧
    (∃ (s : State), s.paired = true ∧ s.rank = 0 ∧ s.capo.request = true ∧ s.seen = 1 ∧ s.role = 3) ∧
    (∃ (s : State), ((s.paired = false ∨ s.rank ≠ 0 ∨ s.capo.request = false ∨ s.seen ≠ 1 ∨ s.role = 4))) ∧
    (∃ (s : State), s.capo.backoff = true ∧ s.capo.rounds < 8 ∧ s.mayClaim = false) :=
  ⟨⟨{ (tPair 2 3).setFld Fld.CAPO_STATUS.DRIVE 1 with capo := { (tPair 2 3).capo with request := true, takeoverAt := some 5, fence := true }, now := 100000000 }, 5, by decide +kernel⟩,
   ⟨tR, by decide +kernel⟩,
   ⟨{ tPair 3 1 with capo := { (tPair 3 1).capo with request := true } }, by decide +kernel⟩,
   ⟨tPair 2 1, by decide +kernel⟩,
   ⟨{ (tPair 1 3).setBit Fld.CAPO_STATUS.LINE_FAULT true with capo := { (tPair 1 3).capo with backoff := true, rounds := 7 } }, by decide +kernel⟩⟩

/-- The hypotheses of clauses of GateAndClaimFollowTheLine can be met: contentionBackoffExpiry. -/
theorem test_gate_and_claim_follow_the_line_f :
    ∃ (s : State), s.capo.backoff = false :=
  ⟨tPair 1 3, by decide +kernel⟩

/-- The hypotheses of clauses of CapoCommandsTakeEffect can be met: capoClaim, capoRelease, releaseComplete, capoClearFault. -/
theorem test_capo_commands_take_effect_a :
    (∃ (s : State), s.Takes Fld.CAPO_CMD.CMD.addr ∧ s.role = 1 ∧ s.mayClaim = true ∧ s.fld Fld.CAPO_STATUS.IDLE_REASON ∉ [2, 3, 5]) ∧
    (∃ (s : State), s.Takes Fld.CAPO_CMD.CMD.addr ∧ s.role ≠ 1) ∧
    (∃ (s : State), s.Takes Fld.CAPO_CMD.CMD.addr ∧ s.role = 3) ∧
    (∃ (s : State), s.role = 4 ∧ s.writesOut = false) ∧
    (∃ (s : State), s.Takes Fld.CAPO_CMD.CMD.addr ∧ s.bit Fld.CAPO_STATUS.LINE_FAULT = true ∧ s.seen < 4) :=
  ⟨⟨tPair 1 3, by decide +kernel⟩,
   ⟨tPair 2 3, by decide +kernel⟩,
   ⟨tPair 3 3, by decide +kernel⟩,
   ⟨tPair 4 3, by decide +kernel⟩,
   ⟨(tPair 5 3).setBit Fld.CAPO_STATUS.LINE_FAULT true, by decide +kernel⟩⟩

/-- The hypotheses of clauses of CapoCommandsTakeEffect can be met: capoClearFault, capoForceClaim, selftestNow, selftestCycle, capoClaim. -/
theorem test_capo_commands_take_effect_b :
    (∃ (s : State), s.Takes Fld.CAPO_CMD.CMD.addr ∧ s.bit Fld.CAPO_STATUS.LINE_FAULT = true ∧ 4 ≤ s.seen) ∧
    (∃ (s : State) (iface : Iface), s.Takes Fld.CAPO_CMD.CMD.addr ∧ s.role = 1 ∧ ((s.fld Fld.CAPO_STATUS.IDLE_REASON = 2 ∨ s.fld Fld.CAPO_STATUS.IDLE_REASON = 3)) ∧ s.mayClaim = true ∧ s.fld Fld.PAIR_EPOCH + 65536 < 2 ^ 32 ∧ s.tokenOk 7 (s.fld Fld.PAIR_EPOCH) (s.fld Fld.CAPO_AUTH) = true) ∧
    (∃ (s : State) (failed : Nat), s.Takes Fld.CAPO_CMD.CMD.addr ∧ s.role = 1) ∧
    (∃ (s : State) (failed : Nat), s.role = 1 ∧ s.thresholds.flags / 2 % 2 = 1) ∧
    (∃ (s : State), s.Takes Fld.CAPO_CMD.CMD.addr ∧ ((s.role ≠ 1 ∨ s.mayClaim = false ∨ s.fld Fld.CAPO_STATUS.IDLE_REASON ∈ [2, 3, 5]))) :=
  ⟨⟨(tPair 5 4).setBit Fld.CAPO_STATUS.LINE_FAULT true, by decide +kernel⟩,
   ⟨(tTok (tPair 1 3) Fld.CAPO_AUTH 7 0).setFld Fld.CAPO_STATUS.IDLE_REASON 3, .host0, ⟨by decide +kernel, by decide +kernel, by decide +kernel, by decide +kernel, by decide +kernel, tok_arg _ _ _ (by decide +kernel) (tok_set _ _ _ _ _ _ (by decide) (by decide) (tTok_ok _ _ _ _ (by decide) rfl))⟩⟩,
   ⟨tPair 1 3, 63, by decide +kernel⟩,
   ⟨tPair 1 3, 0, by decide +kernel⟩,
   ⟨(tPair 1 3).setFld Fld.CAPO_STATUS.IDLE_REASON 5, by decide +kernel⟩⟩

/-- The hypotheses of clauses of CapoCommandsTakeEffect can be met: capoClaim, capoRelease, releaseComplete, capoClearFault. -/
theorem test_capo_commands_take_effect_c :
    (∃ (s : State), s.Takes Fld.CAPO_CMD.CMD.addr ∧ s.role = 1 ∧ s.mayClaim = true ∧ s.fld Fld.CAPO_STATUS.IDLE_REASON ∉ [2, 3, 5]) ∧
    (∃ (s : State), s.Takes Fld.CAPO_CMD.CMD.addr ∧ s.role = 2) ∧
    (∃ (s : State), s.Takes Fld.CAPO_CMD.CMD.addr ∧ s.role ≠ 2 ∧ s.role ≠ 3) ∧
    (∃ (s : State), ((s.role ≠ 4 ∨ s.writesOut = true))) ∧
    (∃ (s : State), s.Takes Fld.CAPO_CMD.CMD.addr ∧ s.bit Fld.CAPO_STATUS.LINE_FAULT = false) :=
  ⟨⟨{ tPair 1 3 with capo := { (tPair 1 3).capo with chosen := true } }, by decide +kernel⟩,
   ⟨{ tPair 2 3 with capo := { (tPair 2 3).capo with request := true } }, by decide +kernel⟩,
   ⟨tPair 1 3, by decide +kernel⟩,
   ⟨tPair 3 3, by decide +kernel⟩,
   ⟨tPair 3 3, by decide +kernel⟩⟩

/-- The hypotheses of clauses of CapoCommandsTakeEffect can be met: capoForceClaim, selftestNow. -/
theorem test_capo_commands_take_effect_d :
    (∃ (s : State) (iface : Iface), s.Takes Fld.CAPO_CMD.CMD.addr ∧ ((s.role ≠ 1 ∨ s.fld Fld.CAPO_STATUS.IDLE_REASON ∉ [2, 3] ∨ s.mayClaim = false ∨ 2 ^ 32 ≤ s.fld Fld.PAIR_EPOCH + 65536))) ∧
    (∃ (s : State) (iface : Iface), s.Takes Fld.CAPO_CMD.CMD.addr ∧ s.role = 1 ∧ s.fld Fld.CAPO_STATUS.IDLE_REASON ∈ [2, 3] ∧ s.mayClaim = true ∧ s.fld Fld.PAIR_EPOCH + 65536 < 2 ^ 32 ∧ s.tokenOk 7 (s.fld Fld.PAIR_EPOCH) (s.fld Fld.CAPO_AUTH) = false) ∧
    (∃ (s : State) (failed : Nat), s.Takes Fld.CAPO_CMD.CMD.addr ∧ s.role ≠ 1) ∧
    (∃ (s : State) (failed : Nat), s.Takes Fld.CAPO_CMD.CMD.addr ∧ s.role = 1 ∧ failed % 64 / 2 % 8 ≠ 0) ∧
    (∃ (s : State) (failed : Nat), s.Takes Fld.CAPO_CMD.CMD.addr ∧ s.role = 1 ∧ failed % 16 = 0) :=
  ⟨⟨tPair 1 3, .smbus, by decide +kernel⟩,
   ⟨(tPair 1 3).setFld Fld.CAPO_STATUS.IDLE_REASON 2, .smbus, by decide +kernel⟩,
   ⟨tPair 3 3, 1, by decide +kernel⟩,
   ⟨tPair 1 3, 8, by decide +kernel⟩,
   ⟨(tPair 1 3).setFld Fld.CAPO_STATUS.IDLE_REASON 4, 48, by decide +kernel⟩⟩

/-- The hypotheses of clauses of CapoCommandsTakeEffect can be met: selftestCycle. -/
theorem test_capo_commands_take_effect_e :
    (∃ (s : State) (failed : Nat), ((s.role ≠ 1 ∨ s.thresholds.flags / 2 % 2 = 0))) ∧
    (∃ (s : State) (failed : Nat), s.role = 1 ∧ s.thresholds.flags / 2 % 2 = 1) :=
  ⟨⟨tPair 3 3, 1, by decide +kernel⟩,
   ⟨tPair 1 3, 1, by decide +kernel⟩⟩

/-- The hypotheses of clauses of PairStateFollowsThePartner can be met: healthWordSend, healthWordReceive, mirrorItemReceive. -/
theorem test_pair_state_follows_the_partner_a :
    (∃ (s : State), s.paired = true ∧ s.islandOff = false) ∧
    (∃ (s : State) (h : Health), s.paired = true ∧ s.islandOff = false ∧ s.role = 3 ∧ h.role = 2) ∧
    (∃ (s : State) (h : Health), s.paired = true ∧ s.islandOff = false ∧ s.role = 1 ∧ s.seen = 1 ∧ h.role = 2 ∧ h.flags % 2 = 1) ∧
    (∃ (s : State) (nsid : Nat) (lba : Nat) (cls : Nat) (seq : Nat) (sec : CSec), s.role = 1) ∧
    (∃ (s : State) (u : Update), s.role = 1 ∧ (∀ v, v ∈ s.capo.mirrorCtx → v.id ≠ u.id)) :=
  ⟨⟨tPair 1 3, by decide +kernel⟩,
   ⟨tPair 3 3, tHealth 2, by decide +kernel⟩,
   ⟨tPair 1 1, tHealth 2, by decide +kernel⟩,
   ⟨tPair 1 3, 1, 0, 1, 4, .lost, by decide +kernel⟩,
   ⟨tPair 1 3, tUpd 4, by decide +kernel⟩⟩

/-- The hypotheses of clauses of PairStateFollowsThePartner can be met: mirrorDigestCheck, mirrorSyncComplete, standbyMirrorSilence, pairRoleChoice. -/
theorem test_pair_state_follows_the_partner_b :
    (∃ (s : State) (differ : List MirrorItem), s.role = 3 ∧ s.bit Fld.WC_STATUS.MIRROR_ON = true) ∧
    (∃ (s : State), s.role = 3 ∧ s.bit Fld.PAIR_STATUS.SYNCING = true) ∧
    (∃ (s : State), s.role = 1 ∧ s.seen = 1) ∧
    (∃ (s : State) (p : Partner), s.choosing = true ∧ s.matchPartner p = true ∧ s.seen ≠ 1 ∧ s.outranks p = true ∧ s.mayClaim = true) ∧
    (∃ (s : State) (p : Partner), s.choosing = true ∧ s.matchPartner p = true ∧ ((s.seen = 1 ∨ s.outranks p = false))) :=
  ⟨⟨(tPair 3 3).setBit Fld.WC_STATUS.MIRROR_ON true, [.dirtyNs 1], by decide +kernel⟩,
   ⟨(tPair 3 3).setBit Fld.PAIR_STATUS.SYNCING true, by decide +kernel⟩,
   ⟨tPair 1 1, by decide +kernel⟩,
   ⟨tPair 0 3, tPartner, by decide +kernel⟩,
   ⟨tPair 0 1, tPartner, by decide +kernel⟩⟩

/-- The hypotheses of clauses of PairStateFollowsThePartner can be met: pairRoleChoice, startupWaitExpiry, takeover, writeFenceEnd. -/
theorem test_pair_state_follows_the_partner_c :
    (∃ (s : State) (p : Partner), s.choosing = true ∧ s.matchPartner p = false) ∧
    (∃ (s : State), s.choosing = true ∧ s.role = 0 ∧ s.seen = 3 ∧ s.bit Fld.PAIR_STATUS.STATE_COMPLETE = true ∧ s.mayClaim = true) ∧
    (∃ (s : State), s.choosing = true ∧ s.role = 0 ∧ s.seen ≠ 1 ∧ s.bit Fld.PAIR_STATUS.STATE_COMPLETE = false) ∧
    (∃ (s : State), s.role = 1 ∧ s.capo.chosen = true ∧ s.thresholds.flags % 2 = 1 ∧ s.bit Fld.PAIR_STATUS.STATE_COMPLETE = true ∧ s.seen = 3 ∧ s.capo.partner = none ∧ s.mayClaim = true) ∧
    (∃ (s : State) (t0 : Nat), s.capo.takeoverAt = some t0 ∧ s.role = 3 ∧ s.bit Fld.CAPO_STATUS.GATE_OPEN = true) :=
  ⟨⟨tPair 0 3, { tPartner with device := 9 }, by decide +kernel⟩,
   ⟨(tPair 0 3).setBit Fld.PAIR_STATUS.STATE_COMPLETE true, by decide +kernel⟩,
   ⟨tPair 0 3, by decide +kernel⟩,
   ⟨{ (tPair 1 3).setBit Fld.PAIR_STATUS.STATE_COMPLETE true with capo := { (tPair 1 3).capo with chosen := true } }, by decide +kernel⟩,
   ⟨{ (tPair 3 3).setBit Fld.CAPO_STATUS.GATE_OPEN true with capo := { (tPair 3 3).capo with takeoverAt := some 0, fence := true } }, 0, by decide +kernel⟩⟩

/-- The hypotheses of clauses of PairStateFollowsThePartner can be met: healthWordSend, healthWordReceive. -/
theorem test_pair_state_follows_the_partner_d :
    (∃ (s : State), ((s.paired = false ∨ s.islandOff = true))) ∧
    (∃ (s : State) (h : Health), ((s.paired = false ∨ s.islandOff = true))) ∧
    (∃ (s : State) (h : Health), s.paired = true ∧ s.islandOff = false ∧ s.role = 1 ∧ s.seen = 3 ∧ h.role = 2) ∧
    (∃ (s : State) (h : Health), s.paired = true ∧ s.islandOff = false ∧ s.role = 1 ∧ s.seen ≠ 3 ∧ h.role = 2) ∧
    (∃ (s : State) (h : Health), s.paired = true ∧ s.islandOff = false ∧ s.role = 3 ∧ h.role = 1) :=
  ⟨⟨tR, by decide +kernel⟩,
   ⟨tR, tHealth 2, by decide +kernel⟩,
   ⟨tPair 1 3, tHealth 2, by decide +kernel⟩,
   ⟨tPair 1 1, { tHealth 2 with flags := 2 }, by decide +kernel⟩,
   ⟨(tPair 3 3).setBit Fld.PAIR_STATUS.PARTNER_MATCH true, tHealth 1, by decide +kernel⟩⟩

/-- The hypotheses of clauses of PairStateFollowsThePartner can be met: healthWordReceive, mirrorItemReceive. -/
theorem test_pair_state_follows_the_partner_e :
    (∃ (s : State) (h : Health), s.paired = true ∧ s.islandOff = false ∧ (h.role = 2 → s.role ≠ 1 ∧ s.role ≠ 3) ∧ (h.role = 1 → s.role ≠ 3)) ∧
    (∃ (s : State) (item : MirrorItem), s.role ≠ 1) ∧
    (∃ (s : State) (nsid : Nat) (lba : Nat) (cls : Nat) (seq : Nat) (sec : CSec), s.role = 1) ∧
    (∃ (s : State) (u : Update), s.role = 1) ∧
    (∃ (s : State) (b : Nat), s.role = 1) :=
  ⟨⟨tPair 1 3, tHealth 3, by decide +kernel⟩,
   ⟨tPair 3 3, .dirtyNs 1, by decide +kernel⟩,
   ⟨tPair 1 3, 1, 0, 1, 4, .lost, by decide +kernel⟩,
   ⟨{ tPair 1 3 with capo := { (tPair 1 3).capo with mirrorCtx := [tUpd 4] } }, tUpd 4, by decide +kernel⟩,
   ⟨tPair 1 3, 7, by decide +kernel⟩⟩

/-- The hypotheses of clauses of PairStateFollowsThePartner can be met: mirrorItemReceive. -/
theorem test_pair_state_follows_the_partner_f :
    (∃ (s : State) (b : Nat), s.role = 1) ∧
    (∃ (s : State) (nsid : Nat) (m : Nat), s.role = 1) ∧
    (∃ (s : State) (n : Nat), s.role = 1) ∧
    (∃ (s : State) (nsid : Nat) (cause : Nat) (slba : Nat) (nlb : Nat), s.role = 1 ∧ s.hfe.dwe = []) ∧
    (∃ (s : State) (a : ArrayId) (epoch : Nat) (stripe : Nat) (row : Nat) (mask : Nat) (cause : Nat), s.role = 1 ∧ s.rbe.lost = []) :=
  ⟨⟨tPair 1 3, 7, by decide +kernel⟩,
   ⟨tPair 1 3, 1, 2 ^ 21, by decide +kernel⟩,
   ⟨tPair 1 3, 9, by decide +kernel⟩,
   ⟨tPair 1 3, 1, 2, 0, 8, by decide +kernel⟩,
   ⟨tPair 1 3, 3, 1, 5, 2, 1, 4, by decide +kernel⟩⟩

/-- The hypotheses of clauses of PairStateFollowsThePartner can be met: mirrorItemReceive, mirrorDigestCheck. -/
theorem test_pair_state_follows_the_partner_g :
    (∃ (s : State) (a : ArrayId) (lba : Nat) (sec : CSec) (r : Arr), s.role = 1 ∧ s.arr a = some r) ∧
    (∃ (s : State) (a : ArrayId) (lba : Nat) (sec : CSec) (r : Arr), s.role = 1 ∧ s.arr a = some r) ∧
    (∃ (s : State) (a : ArrayId) (c : Nat) (r : Arr), s.role = 1 ∧ s.arr a = some r) ∧
    (∃ (s : State) (id : Nat) (secs : List (Nat × Nat × Nat)), s.role = 1) ∧
    (∃ (s : State) (i : MirrorItem), s.role = 1) :=
  ⟨⟨tStand, 0, 8, .lost, tArr, by decide +kernel⟩,
   ⟨tStand, 0, 8, .lost, tArr, by decide +kernel⟩,
   ⟨tStand, 0, 8, tArr, by decide +kernel⟩,
   ⟨{ tPair 1 3 with capo := { (tPair 1 3).capo with mirrorCtx := [tUpd 4] } }, (tUpd 4).id, [], by decide +kernel⟩,
   ⟨tPair 1 3, .fretSet 4, by decide +kernel⟩⟩

/-- The hypotheses of clauses of PairStateFollowsThePartner can be met: mirrorDigestCheck, mirrorSyncComplete, standbyMirrorSilence, pairRoleChoice. -/
theorem test_pair_state_follows_the_partner_h :
    (∃ (s : State) (n : Nat), s.role = 1) ∧
    (∃ (s : State) (differ : List MirrorItem), s.role ≠ 1 ∧ ((s.role ≠ 3 ∨ s.bit Fld.WC_STATUS.MIRROR_ON = false))) ∧
    (∃ (s : State), ((s.role ≠ 3 ∨ s.bit Fld.PAIR_STATUS.SYNCING = false))) ∧
    (∃ (s : State), ((s.role ≠ 1 ∨ s.seen ≠ 1))) ∧
    (∃ (s : State), s.choosing = true ∧ s.seen = 1) :=
  ⟨⟨tPair 1 3, 3, by decide +kernel⟩,
   ⟨tPair 3 3, [.dirtyNs 1], by decide +kernel⟩,
   ⟨tPair 3 3, by decide +kernel⟩,
   ⟨tPair 1 3, by decide +kernel⟩,
   ⟨tPair 0 1, by decide +kernel⟩⟩

/-- The hypotheses of clauses of PairStateFollowsThePartner can be met: pairRoleChoice, startupWaitExpiry. -/
theorem test_pair_state_follows_the_partner_i :
    (∃ (s : State), ((s.choosing = false ∨ s.seen ≠ 1))) ∧
    (∃ (s : State) (p : Partner), s.choosing = false) ∧
    (∃ (s : State) (p : Partner), s.choosing = true ∧ s.matchPartner p = true ∧ s.seen ≠ 1 ∧ s.outranks p = true ∧ s.mayClaim = false) ∧
    (∃ (s : State), ((s.choosing = false ∨ s.role ≠ 0))) ∧
    (∃ (s : State), s.choosing = true ∧ s.role = 0 ∧ s.seen = 1) :=
  ⟨⟨tPair 0 3, by decide +kernel⟩,
   ⟨tPair 3 3, tPartner, by decide +kernel⟩,
   ⟨(tPair 0 3).setBit Fld.SELFTEST_STATUS.CRITICAL true, tPartner, by decide +kernel⟩,
   ⟨tPair 1 3, by decide +kernel⟩,
   ⟨tPair 0 1, by decide +kernel⟩⟩

/-- The hypotheses of clauses of PairStateFollowsThePartner can be met: startupWaitExpiry, takeover. -/
theorem test_pair_state_follows_the_partner_j :
    (∃ (s : State), s.choosing = true ∧ s.role = 0 ∧ s.seen = 2 ∧ s.bit Fld.PAIR_STATUS.STATE_COMPLETE = true ∧ s.mayClaim = true) ∧
    (∃ (s : State), s.choosing = true ∧ s.role = 0 ∧ ((s.seen = 0 ∨ 4 ≤ s.seen)) ∧ s.bit Fld.PAIR_STATUS.STATE_COMPLETE = true) ∧
    (∃ (s : State) (h : Health), s.role = 1 ∧ s.capo.chosen = true ∧ s.thresholds.flags % 2 = 1 ∧ s.bit Fld.PAIR_STATUS.STATE_COMPLETE = true ∧ s.seen = 3 ∧ s.capo.partner = some h ∧ ((s.capo.partnerAt + 30 * ms < s.now ∨ h.role = 3 ∨ s.fld Fld.PAIR_STATUS.LINK_UP = 0)) ∧ s.mayClaim = true) ∧
    (∃ (s : State), ((s.role ≠ 1 ∨ s.capo.chosen = false ∨ s.thresholds.flags % 2 = 0 ∨ s.bit Fld.PAIR_STATUS.STATE_COMPLETE = false ∨ s.seen ≠ 3 ∨ s.mayClaim = false))) ∧
    (∃ (s : State) (h : Health), s.capo.partner = some h ∧ s.now ≤ s.capo.partnerAt + 30 * ms ∧ h.role ≠ 3 ∧ s.fld Fld.PAIR_STATUS.LINK_UP ≠ 0) :=
  ⟨⟨(tPair 0 2).setBit Fld.PAIR_STATUS.STATE_COMPLETE true, by decide +kernel⟩,
   ⟨(tPair 0 6).setBit Fld.PAIR_STATUS.STATE_COMPLETE true, by decide +kernel⟩,
   ⟨{ (tPair 1 3).setBit Fld.PAIR_STATUS.STATE_COMPLETE true with capo := { (tPair 1 3).capo with chosen := true, partner := some (tHealth 3) } }, tHealth 3, by decide +kernel⟩,
   ⟨tPair 3 3, by decide +kernel⟩,
   ⟨{ (tPair 1 3).setFld Fld.PAIR_STATUS.LINK_UP 1 with capo := { (tPair 1 3).capo with partner := some (tHealth 2) } }, tHealth 2, by decide +kernel⟩⟩

/-- The hypotheses of clauses of PairStateFollowsThePartner can be met: writeFenceEnd. -/
theorem test_pair_state_follows_the_partner_k :
    ∃ (s : State), ((s.capo.takeoverAt = none ∨ s.role ≠ 3 ∨ s.bit Fld.CAPO_STATUS.GATE_OPEN = false)) :=
  ⟨tPair 3 3, by decide +kernel⟩

/-- The hypotheses of clauses of FederationAndPitchTimeFollowTheirMessages can be met: helloReceive, helloRetry, memberLeaveTimeout, gmAnnounce. -/
theorem test_federation_and_pitch_time_follow_their_messages_a :
    (∃ (s : State) (link : LinkId) (h : Hello), s.bit Fld.FED_STATUS.ENABLED = true ∧ s.bit (Fld.FED_LINK.FED_PORT.at link.val) = true ∧ h.uuid = s.ownIdentity.fedUuid ∧ h.node ≠ s.nodeId ∧ tget s.fed.members h.node = some h.device) ∧
    (∃ (s : State) (link : LinkId) (h : Hello), s.bit Fld.FED_STATUS.ENABLED = true ∧ s.bit (Fld.FED_LINK.FED_PORT.at link.val) = true ∧ h.uuid ≠ s.ownIdentity.fedUuid) ∧
    (∃ (s : State), s.fld Fld.FED_STATUS.REFUSE_REASON ≠ 0) ∧
    (∃ (s : State) (node : Nat), node ≠ s.nodeId) ∧
    (∃ (s : State), s.bit Fld.PIT_STATUS.IS_GM = true) :=
  ⟨⟨tFed.setBit (Fld.FED_LINK.FED_PORT.at 2) true, 2, ⟨77, 2, 200⟩, by decide +kernel⟩,
   ⟨tFed.setBit (Fld.FED_LINK.FED_PORT.at 3) true, 3, ⟨78, 2, 200⟩, by decide +kernel⟩,
   ⟨tFed.setFld Fld.FED_STATUS.REFUSE_REASON 1, by decide +kernel⟩,
   ⟨tFed, 2, by decide +kernel⟩,
   ⟨tFed.setBit Fld.PIT_STATUS.IS_GM true, by decide +kernel⟩⟩

/-- The hypotheses of clauses of FederationAndPitchTimeFollowTheirMessages can be met: gmElection, syncExchange, pitSet. -/
theorem test_federation_and_pitch_time_follow_their_messages_b :
    (∃ (s : State) (cands : List Announce) (b : Announce), s.joined = true ∧ bestCandidate (s.ownCandidate ++ cands) = some b) ∧
    (∃ (s : State) (offset : Int) (delay : Nat) (link : LinkId), s.joined = true ∧ s.bit Fld.PIT_STATUS.IS_GM = false ∧ s.fld Fld.PIT_GM.CLASS ≠ 5 ∧ s.bit Fld.PIT_STATUS.VALID = true ∧ offset.natAbs ≤ s.thresholds.stepThresholdNs) ∧
    (∃ (s : State) (offset : Nat) (delay : Nat) (link : LinkId), s.joined = true ∧ s.bit Fld.PIT_STATUS.IS_GM = false ∧ s.fld Fld.PIT_GM.CLASS ≠ 5 ∧ s.thresholds.stepThresholdNs < offset) ∧
    (∃ (s : State), s.Takes Fld.PIT_CMD.CMD.addr ∧ s.mayTime = true) ∧
    (∃ (s : State), s.Takes Fld.PIT_CMD.CMD.addr ∧ s.mayTime = false) :=
  ⟨⟨tFed, [⟨2, 1, 128, 1⟩], ⟨2, 1, 128, 1⟩, by decide +kernel⟩,
   ⟨(tFed.setBit Fld.PIT_STATUS.VALID true).setFld Fld.PIT_GM.CLASS 1, -10000, 70000, 1, by decide +kernel⟩,
   ⟨tFed.setFld Fld.PIT_GM.CLASS 1, 10001, 5, 1, by decide +kernel⟩,
   ⟨tR, by decide +kernel⟩,
   ⟨tFed, by decide +kernel⟩⟩

/-- The hypotheses of clauses of FederationAndPitchTimeFollowTheirMessages can be met: pitSetAtPps, pitSetUtc, pitResync, ppsInEdge. -/
theorem test_federation_and_pitch_time_follow_their_messages_c :
    (∃ (s : State), s.Takes Fld.PIT_CMD.CMD.addr ∧ s.mayTime = true ∧ s.ppsIn = true ∧ s.bit Fld.PIT_STATUS.PPS_PRESENT = true) ∧
    (∃ (s : State), s.Takes Fld.PIT_CMD.CMD.addr ∧ s.mayTime = true ∧ s.bit Fld.PIT_STATUS.PPS_PRESENT = false) ∧
    (∃ (s : State), s.Takes Fld.PIT_CMD.CMD.addr ∧ s.mayTime = true) ∧
    (∃ (s : State), s.Takes Fld.PIT_CMD.CMD.addr ∧ s.joined = true ∧ s.bit Fld.PIT_STATUS.IS_GM = false) ∧
    (∃ (s : State), s.ppsIn = true ∧ s.fed.armed = true) :=
  ⟨⟨({ tPair 1 3 with fed := tR.fed } : State).setBit Fld.PIT_STATUS.PPS_PRESENT true, by decide +kernel⟩,
   ⟨tR, by decide +kernel⟩,
   ⟨tR, by decide +kernel⟩,
   ⟨tFed, by decide +kernel⟩,
   ⟨{ tFed with fed := { tFed.fed with armed := true } }, by decide +kernel⟩⟩

/-- The hypotheses of clauses of FederationAndPitchTimeFollowTheirMessages can be met: ppsInEdge, ppsInLoss, ppsHoldoverExpiry, ppsOutSecond. -/
theorem test_federation_and_pitch_time_follow_their_messages_d :
    (∃ (s : State), s.ppsIn = true ∧ s.fed.armed = false ∧ s.fld Fld.PIT_STATUS.CLASS = 2) ∧
    (∃ (s : State), s.bit Fld.PIT_STATUS.PPS_PRESENT = true ∧ s.fld Fld.PIT_STATUS.CLASS = 1) ∧
    (∃ (s : State), s.bit Fld.PIT_STATUS.PPS_PRESENT = true ∧ s.fed.armed = true) ∧
    (∃ (s : State), s.fld Fld.PIT_STATUS.CLASS = 2) ∧
    (∃ (s : State), s.ownIdentity.flags / 2 % 2 = 1 ∧ s.bit Fld.PIT_STATUS.VALID = true) :=
  ⟨⟨tFed.setFld Fld.PIT_STATUS.CLASS 2, by decide +kernel⟩,
   ⟨(tFed.setBit Fld.PIT_STATUS.PPS_PRESENT true).setFld Fld.PIT_STATUS.CLASS 1, by decide +kernel⟩,
   ⟨{ tFed.setBit Fld.PIT_STATUS.PPS_PRESENT true with fed := { tFed.fed with armed := true } }, by decide +kernel⟩,
   ⟨tR.setFld Fld.PIT_STATUS.CLASS 2, by decide +kernel⟩,
   ⟨tFed.setBit Fld.PIT_STATUS.VALID true, by decide +kernel⟩⟩

/-- The hypotheses of clauses of FederationAndPitchTimeFollowTheirMessages can be met: helloReceive. -/
theorem test_federation_and_pitch_time_follow_their_messages_e :
    (∃ (s : State) (link : LinkId) (h : Hello), ((s.bit Fld.FED_STATUS.ENABLED = false ∨ s.bit (Fld.FED_LINK.FED_PORT.at link.val) = false))) ∧
    (∃ (s : State) (link : LinkId) (h : Hello), s.bit Fld.FED_STATUS.ENABLED = true ∧ s.bit (Fld.FED_LINK.FED_PORT.at link.val) = true ∧ h.uuid = s.ownIdentity.fedUuid ∧ ¬ (h.node = s.nodeId ∧ h.device ≠ s.fld Fld.SYS_DEVICE_ID) ∧ tget s.fed.members h.node = none ∧ s.fed.members.length < 512) ∧
    (∃ (s : State) (link : LinkId) (h : Hello) (d : Nat), s.bit Fld.FED_STATUS.ENABLED = true ∧ s.bit (Fld.FED_LINK.FED_PORT.at link.val) = true ∧ h.uuid = s.ownIdentity.fedUuid ∧ ¬ (h.node = s.nodeId ∧ h.device ≠ s.fld Fld.SYS_DEVICE_ID) ∧ tget s.fed.members h.node = some d ∧ d ≠ h.device ∧ s.bit (Fld.FED_LINK.UP.at link.val) = true) ∧
    (∃ (s : State) (link : LinkId) (h : Hello), s.bit Fld.FED_STATUS.ENABLED = true ∧ s.bit (Fld.FED_LINK.FED_PORT.at link.val) = true ∧ h.uuid = s.ownIdentity.fedUuid ∧ ¬ (h.node = s.nodeId ∧ h.device ≠ s.fld Fld.SYS_DEVICE_ID) ∧ tget s.fed.members h.node = none ∧ 512 ≤ s.fed.members.length ∧ s.bit (Fld.FED_LINK.UP.at link.val) = true) ∧
    (∃ (s : State) (link : LinkId) (h : Hello), s.bit Fld.FED_STATUS.ENABLED = true ∧ s.bit (Fld.FED_LINK.FED_PORT.at link.val) = true ∧ h.uuid = s.ownIdentity.fedUuid ∧ h.node = s.nodeId ∧ s.fld Fld.SYS_DEVICE_ID < h.device ∧ s.bit (Fld.FED_LINK.UP.at link.val) = true) :=
  ⟨⟨tFed, 2, ⟨77, 2, 200⟩, by decide +kernel⟩,
   ⟨tFed.setBit (Fld.FED_LINK.FED_PORT.at 2) true, 2, ⟨77, 3, 300⟩, by decide +kernel⟩,
   ⟨(tFed.setBit (Fld.FED_LINK.FED_PORT.at 2) true).setBit (Fld.FED_LINK.UP.at 2) true, 2, ⟨77, 2, 201⟩, 200, by decide +kernel⟩,
   ⟨{ (tFed.setBit (Fld.FED_LINK.FED_PORT.at 2) true).setBit (Fld.FED_LINK.UP.at 2) true with fed := { tFed.fed with members := (List.range 512).map (fun k => (k, k)) } }, 2, ⟨77, 512, 9⟩, by decide +kernel⟩,
   ⟨(tFed.setBit (Fld.FED_LINK.FED_PORT.at 2) true).setBit (Fld.FED_LINK.UP.at 2) true, 2, ⟨77, 1, 2 ^ 127⟩, by decide +kernel⟩⟩

/-- The hypotheses of clauses of FederationAndPitchTimeFollowTheirMessages can be met: helloReceive, helloRetry, memberLeaveTimeout, gmAnnounce. -/
theorem test_federation_and_pitch_time_follow_their_messages_f :
    (∃ (s : State) (link : LinkId) (h : Hello), s.bit Fld.FED_STATUS.ENABLED = true ∧ s.bit (Fld.FED_LINK.FED_PORT.at link.val) = true ∧ h.uuid = s.ownIdentity.fedUuid ∧ h.node = s.nodeId ∧ h.device < s.fld Fld.SYS_DEVICE_ID) ∧
    (∃ (s : State) (link : LinkId) (h : Hello), s.bit Fld.FED_STATUS.ENABLED = true ∧ s.bit (Fld.FED_LINK.FED_PORT.at link.val) = true ∧ h.uuid ≠ s.ownIdentity.fedUuid ∧ s.bit (Fld.FED_LINK.UP.at link.val) = false ∧ ((∀ i : Fin 4, s.bit (Fld.FED_LINK.FED_PORT.at i.val) = false ∨ s.fld (Fld.FED_LINK.STATE.at i.val) = 3 ∨ i.val = link.val))) ∧
    (∃ (s : State), s.fld Fld.FED_STATUS.REFUSE_REASON = 0) ∧
    (∃ (s : State) (node : Nat), node = s.nodeId) ∧
    (∃ (s : State), s.bit Fld.PIT_STATUS.IS_GM = false) :=
  ⟨⟨((tFed.setBit (Fld.FED_LINK.FED_PORT.at 2) true).setBit (Fld.FED_LINK.UP.at 2) true).setFld Fld.SYS_DEVICE_ID 5, 2, ⟨77, 1, 4⟩, by decide +kernel⟩,
   ⟨tFed.setBit (Fld.FED_LINK.FED_PORT.at 2) true, 2, ⟨78, 2, 200⟩, by decide +kernel⟩,
   ⟨tFed, by decide +kernel⟩,
   ⟨tFed, 1, by decide +kernel⟩,
   ⟨tFed, by decide +kernel⟩⟩

/-- The hypotheses of clauses of FederationAndPitchTimeFollowTheirMessages can be met: gmElection, syncExchange, pitSetAtPps. -/
theorem test_federation_and_pitch_time_follow_their_messages_g :
    (∃ (s : State) (cands : List Announce), s.joined = true ∧ bestCandidate (s.ownCandidate ++ cands) = none) ∧
    (∃ (s : State) (cands : List Announce), s.joined = false) ∧
    (∃ (s : State) (offset : Int) (delay : Nat) (link : LinkId), s.joined = true ∧ s.bit Fld.PIT_STATUS.IS_GM = false ∧ s.fld Fld.PIT_GM.CLASS ≠ 5 ∧ ((s.bit Fld.PIT_STATUS.VALID = false ∨ s.thresholds.stepThresholdNs < offset.natAbs))) ∧
    (∃ (s : State) (offset : Int) (delay : Nat) (link : LinkId), ((s.joined = false ∨ s.bit Fld.PIT_STATUS.IS_GM = true ∨ s.fld Fld.PIT_GM.CLASS = 5))) ∧
    (∃ (s : State), s.Takes Fld.PIT_CMD.CMD.addr ∧ s.mayTime = false) :=
  ⟨⟨tFed, [⟨2, 5, 128, 1⟩], by decide +kernel⟩,
   ⟨tR, [⟨2, 1, 128, 1⟩], by decide +kernel⟩,
   ⟨tFed.setFld Fld.PIT_GM.CLASS 1, -10000, 70000, 1, by decide +kernel⟩,
   ⟨tR, 5, 5, 1, by decide +kernel⟩,
   ⟨tFed, by decide +kernel⟩⟩

/-- The hypotheses of clauses of FederationAndPitchTimeFollowTheirMessages can be met: pitSetAtPps, pitSetUtc, pitResync, ppsInEdge. -/
theorem test_federation_and_pitch_time_follow_their_messages_h :
    (∃ (s : State), s.Takes Fld.PIT_CMD.CMD.addr ∧ s.mayTime = true ∧ s.ppsIn = false) ∧
    (∃ (s : State), s.Takes Fld.PIT_CMD.CMD.addr ∧ s.mayTime = false) ∧
    (∃ (s : State), s.Takes Fld.PIT_CMD.CMD.addr ∧ ((s.joined = false ∨ s.bit Fld.PIT_STATUS.IS_GM = true))) ∧
    (∃ (s : State), s.ppsIn = false) ∧
    (∃ (s : State), s.ppsIn = true ∧ s.fed.armed = false ∧ s.fld Fld.PIT_STATUS.CLASS ≠ 2) :=
  ⟨⟨tR, by decide +kernel⟩,
   ⟨tFed, by decide +kernel⟩,
   ⟨tR, by decide +kernel⟩,
   ⟨tR, by decide +kernel⟩,
   ⟨tFed.setFld Fld.PIT_STATUS.CLASS 3, by decide +kernel⟩⟩

/-- The hypotheses of clauses of FederationAndPitchTimeFollowTheirMessages can be met: ppsInLoss, ppsHoldoverExpiry, ppsOutSecond. -/
theorem test_federation_and_pitch_time_follow_their_messages_i :
    (∃ (s : State), s.bit Fld.PIT_STATUS.PPS_PRESENT = false) ∧
    (∃ (s : State), s.bit Fld.PIT_STATUS.PPS_PRESENT = true ∧ s.fed.armed = false ∧ s.fld Fld.PIT_STATUS.CLASS ≠ 1) ∧
    (∃ (s : State), s.fld Fld.PIT_STATUS.CLASS ≠ 2) ∧
    (∃ (s : State), ((s.ownIdentity.flags / 2 % 2 = 0 ∨ s.bit Fld.PIT_STATUS.VALID = false))) :=
  ⟨⟨tR, by decide +kernel⟩,
   ⟨tFed.setBit Fld.PIT_STATUS.PPS_PRESENT true, by decide +kernel⟩,
   ⟨tR, by decide +kernel⟩,
   ⟨tR, by decide +kernel⟩⟩

/-- The hypotheses of clauses of PlucksAreInstalledRunAndCancelled can be met: pluckWrite, pluckWriteFed, pluckCancel. -/
theorem test_plucks_are_installed_run_and_cancelled_a :
    (∃ (s : State), s.Takes Fld.PLUCK_CMD.CMD.addr ∧ s.pluckError = 0) ∧
    (∃ (s : State), s.Takes Fld.PLUCK_CMD.CMD.addr ∧ s.pluckError = 2) ∧
    (∃ (s : State), s.Takes Fld.PLUCK_CMD.CMD.addr ∧ s.joined = true ∧ s.pluckError = 0 ∧ s.pastTe (pluckOf (s.fld Fld.PLUCK_DATA)) = false) ∧
    (∃ (s : State), s.Takes Fld.PLUCK_CMD.CMD.addr ∧ s.joined = false) ∧
    (∃ (s : State) (e : PluckEnt), s.Takes Fld.PLUCK_CMD.CMD.addr ∧ s.pluck (s.fld Fld.PLUCK_SEL.INDEX) = some e ∧ e.standing = false ∧ e.state = .armed) :=
  ⟨⟨tPlData tR, by decide +kernel⟩,
   ⟨tR, by decide +kernel⟩,
   ⟨tPlData tFed, by decide +kernel⟩,
   ⟨tR, by decide +kernel⟩,
   ⟨tPl tEntP, tEntP, by decide +kernel⟩⟩

/-- The hypotheses of clauses of PlucksAreInstalledRunAndCancelled can be met: pluckCancelFed, pluckReceive, pluckAnswerReceive. -/
theorem test_plucks_are_installed_run_and_cancelled_b :
    (∃ (s : State) (e : PluckEnt), s.Takes Fld.PLUCK_CMD.CMD.addr ∧ s.joined = true ∧ s.pluck (s.fld Fld.PLUCK_SEL.INDEX) = some e ∧ e.standing = false) ∧
    (∃ (s : State) (m : PluckMsg) (i : Nat), s.joined = true ∧ (List.range 256).find? (fun i => s.pluckFree i) = some i ∧ s.pastTe m.req = false) ∧
    (∃ (s : State) (m : PluckMsg), s.joined = true ∧ (List.range 256).find? (fun i => s.pluckFree i) = none) ∧
    (∃ (s : State), 1 < s.fed.distLeft) ∧
    (∃ (s : State), s.fed.distLeft = 1) :=
  ⟨⟨tPl tEntP, tEntP, by decide +kernel⟩,
   ⟨tFed, ⟨tReqP, 2, 0⟩, 0, by decide +kernel⟩,
   ⟨{ tFed with fed := { tFed.fed with plucks := (List.range 256).map (fun i => (i, tEntP)) } }, ⟨tReqP, 2, 0⟩, by decide +kernel⟩,
   ⟨{ tFed with fed := { tFed.fed with distLeft := 2 } }, by decide +kernel⟩,
   ⟨{ tFed with fed := { tFed.fed with distLeft := 1 } }, by decide +kernel⟩⟩

/-- The hypotheses of clauses of PlucksAreInstalledRunAndCancelled can be met: pluckDistTimeout, pluckCancelReceive, pluckFire, pluckEarlyWake. -/
theorem test_plucks_are_installed_run_and_cancelled_c :
    (∃ (s : State), s.fed.distLeft ≠ 0) ∧
    (∃ (s : State) (origin : Nat) (id : Nat), s.joined = true) ∧
    (∃ (s : State) (index : Fin 256) (e : PluckEnt) (now : Nat), s.pluck index.val = some e ∧ s.pitch = some now ∧ e.state = .armed ∧ s.pluckTe e.msg.req ≤ now ∧ now < s.pluckTe e.msg.req + 8 ∧ s.fed.plucks.any (fun p => decide (p.1 < index.val) && p.2.state == .armed && s.pluckTe p.2.msg.req == s.pluckTe e.msg.req) = false ∧ s.pluckHeld e.msg.req = false ∧ s.acFail = false ∧ s.safeMode = false ∧ s.tamperHold = false ∧ (s.pluckAct index.val e.msg.req (s.pluckTe e.msg.req) now).1 = .ran ∧ e.msg.req.periodS = 0) ∧
    (∃ (s : State) (index : Fin 256) (e : PluckEnt) (now : Nat), s.pluck index.val = some e ∧ s.pitch = some now ∧ e.state = .armed ∧ s.pluckTe e.msg.req + 8 ≤ now ∧ s.runsLate e.msg.req (now - s.pluckTe e.msg.req) = false ∧ s.fed.plucks.any (fun p => decide (p.1 < index.val) && p.2.state == .armed && s.pluckTe p.2.msg.req == s.pluckTe e.msg.req) = false ∧ s.pluckHeld e.msg.req = false ∧ e.msg.req.periodS = 0) ∧
    (∃ (s : State) (index : Fin 256) (e : PluckEnt), s.pluck index.val = some e ∧ e.state = .armed ∧ s.pluckWakes e.msg.req = true ∧ s.pwr.fast = .retained ∧ s.fld Fld.PWR_STATE.STATE = 2 ∧ s.acFail = false) :=
  ⟨⟨{ tFed with fed := { tFed.fed with distLeft := 3 } }, by decide +kernel⟩,
   ⟨tPl tEntP, 2, 0, by decide +kernel⟩,
   ⟨tPlAt tEntP 1007, 3, tEntP, 1007, by decide +kernel⟩,
   ⟨tPlAt { tEntP with msg := ⟨{ tReqP with policy := 2 }, 2, 0⟩ } 1008, 3, { tEntP with msg := ⟨{ tReqP with policy := 2 }, 2, 0⟩ }, 1008, by decide +kernel⟩,
   ⟨({ tPl { tEntP with msg := ⟨{ tReqP with action := 135 }, 2, 0⟩ } with pwr := { tR.pwr with fast := .retained } } : State).setFld Fld.PWR_STATE.STATE 2, 3, { tEntP with msg := ⟨{ tReqP with action := 135 }, 2, 0⟩ }, by decide +kernel⟩⟩

/-- The hypotheses of clauses of PlucksAreInstalledRunAndCancelled can be met: writeBarrierDone, pluckWrite, pluckWriteFed, pluckCancel. -/
theorem test_plucks_are_installed_run_and_cancelled_d :
    (∃ (s : State) (index : Fin 256) (b : Barrier) (r : List Barrier) (e : PluckEnt), s.fed.barriers = b :: r ∧ s.pluck index.val = some e ∧ b.index = index.val ∧ s.barrierWaits b = false ∧ e.lateness = 0 ∧ e.msg.req.periodS = 0) ∧
    (∃ (s : State) (n : Nat), s.Takes Fld.PLUCK_CMD.CMD.addr ∧ s.pluckError = n ∧ n ≠ 0) ∧
    (∃ (s : State) (n : Nat), s.Takes Fld.PLUCK_CMD.CMD.addr ∧ s.joined = true ∧ s.pluckError = n ∧ n ≠ 0) ∧
    (∃ (s : State), s.Takes Fld.PLUCK_CMD.CMD.addr ∧ s.joined = true ∧ s.pluckError = 0 ∧ s.pastTe (pluckOf (s.fld Fld.PLUCK_DATA)) = true) ∧
    (∃ (s : State) (n : Nat), s.Takes Fld.PLUCK_CMD.CMD.addr ∧ s.cancelError = n ∧ n ≠ 0) :=
  ⟨⟨{ tPl { tEntP with state := .running } with fed := { (tPl { tEntP with state := .running }).fed with barriers := [⟨3, 1000, 0, [], []⟩] } }, 3, ⟨3, 1000, 0, [], []⟩, [], { tEntP with state := .running }, by decide +kernel⟩,
   ⟨tR, 2, by decide +kernel⟩,
   ⟨tFed, 2, by decide +kernel⟩,
   ⟨((tPlData tFed).setBit Fld.PIT_STATUS.VALID true).setFld Fld.PIT_NOW 2000, by decide +kernel⟩,
   ⟨tR, 1, by decide +kernel⟩⟩

/-- The hypotheses of clauses of PlucksAreInstalledRunAndCancelled can be met: pluckCancelFed, pluckReceive. -/
theorem test_plucks_are_installed_run_and_cancelled_e :
    (∃ (s : State), s.Takes Fld.PLUCK_CMD.CMD.addr ∧ s.joined = false) ∧
    (∃ (s : State), s.Takes Fld.PLUCK_CMD.CMD.addr ∧ s.joined = true ∧ s.pluck (s.fld Fld.PLUCK_SEL.INDEX) = none) ∧
    (∃ (s : State) (e : PluckEnt), s.Takes Fld.PLUCK_CMD.CMD.addr ∧ s.joined = true ∧ s.pluck (s.fld Fld.PLUCK_SEL.INDEX) = some e ∧ e.standing = true) ∧
    (∃ (s : State) (m : PluckMsg), s.joined = false) ∧
    (∃ (s : State) (m : PluckMsg) (i : Nat) (now : Nat), s.joined = true ∧ (List.range 256).find? (fun i => s.pluckFree i) = some i ∧ s.pitch = some now ∧ s.pluckTe m.req + 8 ≤ now ∧ s.runsLate m.req (now - s.pluckTe m.req) = false ∧ s.pluckHeld m.req = false ∧ m.req.periodS = 0) :=
  ⟨⟨tR, by decide +kernel⟩,
   ⟨tFed, by decide +kernel⟩,
   ⟨tPl { tEntP with standing := true }, { tEntP with standing := true }, by decide +kernel⟩,
   ⟨tR, ⟨tReqP, 2, 0⟩, by decide +kernel⟩,
   ⟨tPlAt tEntP 1008, ⟨{ tReqP with policy := 2 }, 2, 0⟩, 0, 1008, by decide +kernel⟩⟩

/-- The hypotheses of clauses of PlucksAreInstalledRunAndCancelled can be met: pluckAnswerReceive, pluckDistTimeout. -/
theorem test_plucks_are_installed_run_and_cancelled_f :
    (∃ (s : State) (ans : PluckAnswer), s.fed.distLeft = 0) ∧
    (∃ (s : State), s.fed.distLeft = 1) ∧
    (∃ (s : State), s.fed.distLeft ≠ 0) ∧
    (∃ (s : State), s.fed.distLeft ≠ 0) ∧
    (∃ (s : State), s.fed.distLeft = 0) :=
  ⟨⟨tFed, .late, by decide +kernel⟩,
   ⟨{ tFed with fed := { tFed.fed with distLeft := 1 } }, by decide +kernel⟩,
   ⟨{ tFed with fed := { tFed.fed with distLeft := 2 } }, by decide +kernel⟩,
   ⟨{ tFed with fed := { tFed.fed with distLeft := 1 } }, by decide +kernel⟩,
   ⟨tR, by decide +kernel⟩⟩

/-- The hypotheses of clauses of PlucksAreInstalledRunAndCancelled can be met: pluckCancelReceive, pluckFire. -/
theorem test_plucks_are_installed_run_and_cancelled_g :
    (∃ (s : State) (origin : Nat) (id : Nat), s.joined = false) ∧
    (∃ (s : State) (index : Fin 256), ((s.pluck index.val = none ∨ s.pitch = none))) ∧
    (∃ (s : State) (index : Fin 256) (e : PluckEnt) (now : Nat), s.pluck index.val = some e ∧ s.pitch = some now ∧ ((e.state ≠ .armed ∨ now < s.pluckTe e.msg.req ∨ s.fed.plucks.any (fun p => decide (p.1 < index.val) && p.2.state == .armed && s.pluckTe p.2.msg.req == s.pluckTe e.msg.req) = true))) ∧
    (∃ (s : State) (index : Fin 256) (e : PluckEnt) (now : Nat), s.pluck index.val = some e ∧ s.pitch = some now ∧ e.state = .armed ∧ s.pluckTe e.msg.req ≤ now ∧ s.fed.plucks.any (fun p => decide (p.1 < index.val) && p.2.state == .armed && s.pluckTe p.2.msg.req == s.pluckTe e.msg.req) = false ∧ s.pluckHeld e.msg.req = true ∧ s.pwr.fast = .retained ∧ s.fld Fld.PWR_STATE.STATE = 2 ∧ s.acFail = false) ∧
    (∃ (s : State) (index : Fin 256) (e : PluckEnt) (now : Nat), s.pluck index.val = some e ∧ s.pitch = some now ∧ e.state = .armed ∧ s.fed.plucks.any (fun p => decide (p.1 < index.val) && p.2.state == .armed && s.pluckTe p.2.msg.req == s.pluckTe e.msg.req) = false ∧ s.pluckHeld e.msg.req = false ∧ s.pluckTe e.msg.req + 8 ≤ now ∧ s.runsLate e.msg.req (now - s.pluckTe e.msg.req) = false ∧ e.msg.req.periodS ≠ 0) :=
  ⟨⟨tR, 2, 0, by decide +kernel⟩,
   ⟨tPl tEntP, 3, by decide +kernel⟩,
   ⟨tPlAt tEntP 999, 3, tEntP, 999, by decide +kernel⟩,
   ⟨({ tPlAt { tEntP with msg := ⟨{ tReqP with action := 129 }, 2, 0⟩ } 1007 with pwr := { tR.pwr with fast := .retained } } : State).setFld Fld.PWR_STATE.STATE 2, 3, { tEntP with msg := ⟨{ tReqP with action := 129 }, 2, 0⟩ }, 1007, by decide +kernel⟩,
   ⟨tPlAt { tEntP with msg := ⟨{ tReqP with policy := 2, periodS := 5 }, 2, 0⟩ } 1008, 3, { tEntP with msg := ⟨{ tReqP with policy := 2, periodS := 5 }, 2, 0⟩ }, 1008, by decide +kernel⟩⟩

/-- The hypotheses of clauses of PlucksAreInstalledRunAndCancelled can be met: pluckFire. -/
theorem test_plucks_are_installed_run_and_cancelled_h :
    (∃ (s : State) (index : Fin 256) (e : PluckEnt) (now : Nat), s.pluck index.val = some e ∧ s.pitch = some now ∧ e.state = .armed ∧ s.fed.plucks.any (fun p => decide (p.1 < index.val) && p.2.state == .armed && s.pluckTe p.2.msg.req == s.pluckTe e.msg.req) = false ∧ s.pluckHeld e.msg.req = false ∧ s.pluckTe e.msg.req ≤ now ∧ now < s.pluckTe e.msg.req + 8 ∧ pluckFast e.msg.req.action = true ∧ s.acFail = true ∧ e.msg.req.periodS = 0) ∧
    (∃ (s : State) (index : Fin 256) (e : PluckEnt) (now : Nat), s.pluck index.val = some e ∧ s.pitch = some now ∧ e.state = .armed ∧ s.fed.plucks.any (fun p => decide (p.1 < index.val) && p.2.state == .armed && s.pluckTe p.2.msg.req == s.pluckTe e.msg.req) = false ∧ s.pluckHeld e.msg.req = false ∧ s.pluckTe e.msg.req ≤ now ∧ now < s.pluckTe e.msg.req + 8 ∧ pluckFast e.msg.req.action = true ∧ s.acFail = false ∧ ((s.safeMode = true ∨ s.tamperHold = true)) ∧ e.msg.req.periodS = 0) ∧
    (∃ (s : State) (index : Fin 256) (e : PluckEnt) (now : Nat), s.pluck index.val = some e ∧ s.pitch = some now ∧ e.state = .armed ∧ s.fed.plucks.any (fun p => decide (p.1 < index.val) && p.2.state == .armed && s.pluckTe p.2.msg.req == s.pluckTe e.msg.req) = false ∧ s.pluckHeld e.msg.req = false ∧ s.pluckTe e.msg.req ≤ now ∧ now < s.pluckTe e.msg.req + 8 ∧ ((pluckFast e.msg.req.action = false ∨ (s.acFail = false ∧ s.safeMode = false ∧ s.tamperHold = false))) ∧ (s.pluckAct index.val e.msg.req (s.pluckTe e.msg.req) now).1 = .ran ∧ e.msg.req.periodS = 0) ∧
    (∃ (s : State) (index : Fin 256) (e : PluckEnt) (now : Nat), s.pluck index.val = some e ∧ s.pitch = some now ∧ e.state = .armed ∧ s.fed.plucks.any (fun p => decide (p.1 < index.val) && p.2.state == .armed && s.pluckTe p.2.msg.req == s.pluckTe e.msg.req) = false ∧ s.pluckHeld e.msg.req = false ∧ s.pluckTe e.msg.req ≤ now ∧ now < s.pluckTe e.msg.req + 8 ∧ ((pluckFast e.msg.req.action = false ∨ (s.acFail = false ∧ s.safeMode = false ∧ s.tamperHold = false))) ∧ (s.pluckAct index.val e.msg.req (s.pluckTe e.msg.req) now).1 = .ran ∧ e.msg.req.periodS ≠ 0) ∧
    (∃ (s : State) (index : Fin 256) (e : PluckEnt) (now : Nat), s.pluck index.val = some e ∧ s.pitch = some now ∧ e.state = .armed ∧ s.fed.plucks.any (fun p => decide (p.1 < index.val) && p.2.state == .armed && s.pluckTe p.2.msg.req == s.pluckTe e.msg.req) = false ∧ s.pluckHeld e.msg.req = false ∧ s.pluckTe e.msg.req ≤ now ∧ now < s.pluckTe e.msg.req + 8 ∧ s.acFail = false ∧ s.safeMode = false ∧ s.tamperHold = false ∧ e.msg.req.action % 128 = 1 ∧ e.msg.req.arg % 2 = 1 ∧ s.gateOpen = true) :=
  ⟨⟨(tPlAt { tEntP with msg := ⟨{ tReqP with action := 2 }, 2, 0⟩ } 1007).setBit Fld.NRG_STATUS.AC_FAIL true, 3, { tEntP with msg := ⟨{ tReqP with action := 2 }, 2, 0⟩ }, 1007, by decide +kernel⟩,
   ⟨(tPlAt { tEntP with msg := ⟨{ tReqP with action := 2 }, 2, 0⟩ } 1007).setBit Fld.IMG_BOOT.SAFE_MODE true, 3, { tEntP with msg := ⟨{ tReqP with action := 2 }, 2, 0⟩ }, 1007, by decide +kernel⟩,
   ⟨(tPlAt tEntP 1007).setBit Fld.NRG_STATUS.AC_FAIL true, 3, tEntP, 1007, by decide +kernel⟩,
   ⟨tPlAt { tEntP with msg := ⟨{ tReqP with periodS := 5 }, 2, 0⟩ } 1000, 3, { tEntP with msg := ⟨{ tReqP with periodS := 5 }, 2, 0⟩ }, 1000, by decide +kernel⟩,
   ⟨(tPlAt { tEntP with msg := ⟨{ tReqP with action := 1, arg := 1 }, 2, 0⟩ } 1000).setBit Fld.CAPO_STATUS.GATE_OPEN true, 3, { tEntP with msg := ⟨{ tReqP with action := 1, arg := 1 }, 2, 0⟩ }, 1000, by decide +kernel⟩⟩

/-- The hypotheses of clauses of PlucksAreInstalledRunAndCancelled can be met: pluckFire, pluckEarlyWake, writeBarrierDone. -/
theorem test_plucks_are_installed_run_and_cancelled_i :
    (∃ (s : State) (index : Fin 256) (e : PluckEnt) (now : Nat), s.pluck index.val = some e ∧ s.pitch = some now ∧ e.state = .armed ∧ s.fed.plucks.any (fun p => decide (p.1 < index.val) && p.2.state == .armed && s.pluckTe p.2.msg.req == s.pluckTe e.msg.req) = false ∧ s.pluckHeld e.msg.req = false ∧ s.pluckTe e.msg.req ≤ now ∧ now < s.pluckTe e.msg.req + 8 ∧ ((pluckFast e.msg.req.action = false ∨ (s.acFail = false ∧ s.safeMode = false ∧ s.tamperHold = false))) ∧ (s.pluckAct index.val e.msg.req (s.pluckTe e.msg.req) now).1 = .absent ∧ e.msg.req.periodS = 0) ∧
    (∃ (s : State) (index : Fin 256) (e : PluckEnt) (now : Nat), s.pluck index.val = some e ∧ s.pitch = some now ∧ e.state = .armed ∧ s.fed.plucks.any (fun p => decide (p.1 < index.val) && p.2.state == .armed && s.pluckTe p.2.msg.req == s.pluckTe e.msg.req) = false ∧ s.pluckHeld e.msg.req = false ∧ s.pluckTe e.msg.req + 8 ≤ now ∧ s.runsLate e.msg.req (now - s.pluckTe e.msg.req) = true ∧ ((pluckFast e.msg.req.action = false ∨ (s.acFail = false ∧ s.safeMode = false ∧ s.tamperHold = false))) ∧ e.msg.req.action % 128 ∈ [2, 3, 5, 7] ∧ e.msg.req.periodS = 0) ∧
    (∃ (s : State) (index : Fin 256), s.pluck index.val = none) ∧
    (∃ (s : State) (index : Fin 256) (e : PluckEnt), s.pluck index.val = some e ∧ ((e.state ≠ .armed ∨ s.pluckWakes e.msg.req = false))) ∧
    (∃ (s : State) (index : Fin 256), ((s.fed.barriers = [] ∨ s.pluck index.val = none))) :=
  ⟨⟨tPlAt { tEntP with msg := ⟨{ tReqP with action := 4 }, 2, 0⟩ } 1000, 3, { tEntP with msg := ⟨{ tReqP with action := 4 }, 2, 0⟩ }, 1000, by decide +kernel⟩,
   ⟨tPlAt { tEntP with msg := ⟨{ tReqP with policy := 1 }, 2, 0⟩ } 1008, 3, { tEntP with msg := ⟨{ tReqP with policy := 1 }, 2, 0⟩ }, 1008, by decide +kernel⟩,
   ⟨tPl tEntP, 4, by decide +kernel⟩,
   ⟨tPl tEntP, 3, tEntP, by decide +kernel⟩,
   ⟨tR, 3, by decide +kernel⟩⟩

/-- The hypotheses of clauses of PlucksAreInstalledRunAndCancelled can be met: writeBarrierDone. -/
theorem test_plucks_are_installed_run_and_cancelled_j :
    (∃ (s : State) (index : Fin 256) (b : Barrier) (r : List Barrier), s.fed.barriers = b :: r ∧ ((b.index ≠ index.val ∨ s.barrierWaits b = true))) ∧
    (∃ (s : State) (index : Fin 256) (b : Barrier) (r : List Barrier) (e : PluckEnt), s.fed.barriers = b :: r ∧ s.pluck index.val = some e ∧ b.index = index.val ∧ s.barrierWaits b = false ∧ e.lateness ≠ 0 ∧ e.msg.req.periodS = 0) ∧
    (∃ (s : State) (index : Fin 256) (b : Barrier) (r : List Barrier) (e : PluckEnt), s.fed.barriers = b :: r ∧ s.pluck index.val = some e ∧ b.index = index.val ∧ s.barrierWaits b = false ∧ e.msg.req.periodS ≠ 0) :=
  ⟨⟨{ tPl tEntP with fed := { (tPl tEntP).fed with barriers := [⟨4, 1000, 0, [], []⟩] } }, 3, ⟨4, 1000, 0, [], []⟩, [], by decide +kernel⟩,
   ⟨{ tPl { tEntP with state := .running, lateness := 9 } with fed := { (tPl { tEntP with state := .running, lateness := 9 }).fed with barriers := [⟨3, 1000, 0, [], []⟩] } }, 3, ⟨3, 1000, 0, [], []⟩, [], { tEntP with state := .running, lateness := 9 }, by decide +kernel⟩,
   ⟨{ tPl { tEntP with msg := ⟨{ tReqP with periodS := 5 }, 2, 0⟩ } with fed := { (tPl { tEntP with msg := ⟨{ tReqP with periodS := 5 }, 2, 0⟩ }).fed with barriers := [⟨3, 1000, 0, [], []⟩] } }, 3, ⟨3, 1000, 0, [], []⟩, [], { tEntP with msg := ⟨{ tReqP with periodS := 5 }, 2, 0⟩ }, by decide +kernel⟩⟩

/-- The hypotheses of clauses of GaugeAndPackChangesTakeEffect can be met: gaugeEnergyCompute, packRemoved, packPresent, vaultPatrol, vaultPatrolNow. -/
theorem test_gauge_and_pack_changes_take_effect_a :
    (∃ (s : State) (u : State) (a : PackSample) (b : PackSample), u = (s.takeSample .A a).takeSample .B b) ∧
    (∃ (s : State) (p : PackId), s.packPresent p = true) ∧
    (∃ (s : State) (p : PackId), s.packPresent p = false ∧ (s.packCfg p).chemistry ≠ 0 ∧ s.acFail = false) ∧
    (∃ (s : State) (rate : Nat) (wear : Nat) (dirOk : Bool), s.bit Fld.VLT_STATUS.DUMPING = false ∧ s.bit Fld.VLT_STATUS.REPLAYING = false) ∧
    (∃ (s : State) (rate : Nat) (wear : Nat) (dirOk : Bool), s.Takes Fld.VLT_CMD.CMD.addr ∧ s.bit Fld.VLT_STATUS.DUMPING = false ∧ s.bit Fld.VLT_STATUS.REPLAYING = false) :=
  ⟨⟨tBoth, (tBoth.takeSample .A tSample).takeSample .B tSample, tSample, tSample, by decide +kernel⟩,
   ⟨tBoth, .B, by decide +kernel⟩,
   ⟨tG, .A, by decide +kernel⟩,
   ⟨tR, 12000, 80, true, by decide +kernel⟩,
   ⟨tR, 11999, 79, true, by decide +kernel⟩⟩

/-- The hypotheses of clauses of GaugeAndPackChangesTakeEffect can be met: packRemoved, packPresent, vaultPatrol, vaultPatrolNow. -/
theorem test_gauge_and_pack_changes_take_effect_b :
    (∃ (s : State) (p : PackId), s.packPresent p = false) ∧
    (∃ (s : State) (p : PackId), (((s.packCfg p).chemistry = 0 ∨ s.packPresent p = true))) ∧
    (∃ (s : State) (p : PackId), s.packPresent p = false ∧ (s.packCfg p).chemistry ≠ 0 ∧ s.acFail = true) ∧
    (∃ (s : State) (rate : Nat) (wear : Nat) (dirOk : Bool), ((s.bit Fld.VLT_STATUS.DUMPING = true ∨ s.bit Fld.VLT_STATUS.REPLAYING = true))) ∧
    (∃ (s : State) (rate : Nat) (wear : Nat) (dirOk : Bool), s.Takes Fld.VLT_CMD.CMD.addr ∧ ((s.bit Fld.VLT_STATUS.DUMPING = true ∨ s.bit Fld.VLT_STATUS.REPLAYING = true))) :=
  ⟨⟨tR, .B, by decide +kernel⟩,
   ⟨tBoth, .A, by decide +kernel⟩,
   ⟨tG.setBit Fld.NRG_STATUS.AC_FAIL true, .A, by decide +kernel⟩,
   ⟨tR.setBit Fld.VLT_STATUS.DUMPING true, 1, 2, true, by decide +kernel⟩,
   ⟨tR.setBit Fld.VLT_STATUS.REPLAYING true, 1, 2, true, by decide +kernel⟩⟩

/-- The hypotheses of clauses of HoldupSelfTestsRunTheirSteps can be met: holdupSelftestStart, holdupSelftestStep. -/
theorem test_holdup_self_tests_run_their_steps_a :
    (∃ (s : State) (p : PackId), s.nrg.queue.head? = some p ∧ s.acFail = false ∧ s.packPresent p = true ∧ s.bit Fld.NRG_STATUS.TEST_ACTIVE = false) ∧
    (∃ (s : State) (mv : Nat) (ma : Int) (r : TestRun), (s.pack .A).test = some r ∧ r.step = 3 ∧ (s.packCfg .A).cells * (s.packCfg .A).cutoffMvCell ≤ mv) ∧
    (∃ (s : State) (mv : Nat) (ma : Int) (r : TestRun), (s.pack .A).test = some r ∧ r.step = 4 ∧ (s.packCfg .A).cells * (s.packCfg .A).cutoffMvCell ≤ mv) ∧
    (∃ (s : State) (mv : Nat) (ma : Int) (r : TestRun), (s.pack .A).test = some r ∧ mv < (s.packCfg .A).cells * (s.packCfg .A).cutoffMvCell) ∧
    (∃ (s : State) (mv : Nat) (ma : Int) (r : TestRun), (s.pack .A).test = some r ∧ r.step = 11 ∧ (s.packCfg .A).cells * (s.packCfg .A).cutoffMvCell ≤ mv) :=
  ⟨⟨{ tPk tG .A tFull with nrg := { (tPk tG .A tFull).nrg with queue := [.A] } }, .A, by decide +kernel⟩,
   ⟨tPk tG .A { tFull with test := some ⟨3, [], 65535⟩ }, 12000, 100, ⟨3, [], 65535⟩, by decide +kernel⟩,
   ⟨tPk tG .A { tFull with test := some ⟨4, [], 65535⟩ }, 12000, 100, ⟨4, [], 65535⟩, by decide +kernel⟩,
   ⟨tPk tG .A { tFull with test := some ⟨5, [], 65535⟩ }, 11999, 100, ⟨5, [], 65535⟩, by decide +kernel⟩,
   ⟨tPk tG .A { tFull with test := some ⟨11, [(16000, 0)], 65535⟩ }, 12000, 100, ⟨11, [(16000, 0)], 65535⟩, by decide +kernel⟩⟩

/-- The hypotheses of clauses of HoldupSelfTestsRunTheirSteps can be met: holdupRetestTimer, holdupTestAgeExpiry, holdupStartupTest, holdupSelftestStart. -/
theorem test_holdup_self_tests_run_their_steps_b :
    (∃ (s : State) (p : PackId) (r : Nat), s.packPresent p = true ∧ r = s.fld (Fld.PACK_STATUS.TEST_RESULT.at (packIx p)) ∧ 2 ≤ r ∧ r ≤ 5 ∧ s.acFail = false) ∧
    (∃ (s : State) (p : PackId), s.packPresent p = true ∧ s.acFail = false) ∧
    (∃ (s : State) (p : PackId), s.packPresent p = true ∧ s.acFail = true) ∧
    (∃ (s : State), s.packPresent .A = true ∧ s.packPresent .B = true ∧ s.acFail = false ∧ s.nrg.queue = []) ∧
    (∃ (s : State) (p : PackId), ((s.nrg.queue.head? ≠ some p ∨ s.acFail = true ∨ s.packPresent p = false ∨ s.bit Fld.NRG_STATUS.TEST_ACTIVE = true))) :=
  ⟨⟨(tPk tG .A tFull).setFld (Fld.PACK_STATUS.TEST_RESULT.at 0) 5, .A, 5, by decide +kernel⟩,
   ⟨tPk tG .A tFull, .A, by decide +kernel⟩,
   ⟨(tPk tG .A tFull).setBit Fld.NRG_STATUS.AC_FAIL true, .A, by decide +kernel⟩,
   ⟨tBoth, by decide +kernel⟩,
   ⟨tG, .A, by decide +kernel⟩⟩

/-- The hypotheses of clauses of HoldupSelfTestsRunTheirSteps can be met: holdupSelftestStep. -/
theorem test_holdup_self_tests_run_their_steps_c :
    (∃ (s : State) (mv : Nat) (ma : Int), (s.pack .A).test = none ∧ (s.pack .B).test = none) ∧
    (∃ (s : State) (p : PackId) (mv : Nat) (ma : Int) (r : TestRun), bothPacks.find? (fun q => (s.pack q).test.isSome) = some p ∧ (s.pack p).test = some r ∧ ((r.step = 3 ∨ r.step = 6 ∨ r.step = 8)) ∧ (s.packCfg p).cells * (s.packCfg p).cutoffMvCell ≤ mv) ∧
    (∃ (s : State) (p : PackId) (mv : Nat) (ma : Int) (r : TestRun), bothPacks.find? (fun q => (s.pack q).test.isSome) = some p ∧ (s.pack p).test = some r ∧ r.step ∉ [3, 6, 8, 11] ∧ (s.packCfg p).cells * (s.packCfg p).cutoffMvCell ≤ mv) ∧
    (∃ (s : State) (p : PackId) (mv : Nat) (ma : Int) (r : TestRun), bothPacks.find? (fun q => (s.pack q).test.isSome) = some p ∧ (s.pack p).test = some r ∧ mv < (s.packCfg p).cells * (s.packCfg p).cutoffMvCell) ∧
    (∃ (s : State) (p : PackId) (mv : Nat) (ma : Int) (r : TestRun), bothPacks.find? (fun q => (s.pack q).test.isSome) = some p ∧ (s.pack p).test = some r ∧ r.step = 11 ∧ r.samples.length ≠ 6 ∧ (s.packCfg p).cells * (s.packCfg p).cutoffMvCell ≤ mv) :=
  ⟨⟨tG, 12000, 5, by decide +kernel⟩,
   ⟨tPk tG .B { tFull with test := some ⟨6, [], 65535⟩ }, .B, 12000, 100, ⟨6, [], 65535⟩, by decide +kernel⟩,
   ⟨tPk tG .B { tFull with test := some ⟨10, [], 65535⟩ }, .B, 12000, 100, ⟨10, [], 65535⟩, by decide +kernel⟩,
   ⟨tPk tG .B { tFull with test := some ⟨10, [], 65535⟩ }, .B, 11999, 100, ⟨10, [], 65535⟩, by decide +kernel⟩,
   ⟨tPk tG .B { tFull with test := some ⟨11, [], 65535⟩ }, .B, 12000, 100, ⟨11, [], 65535⟩, by decide +kernel⟩⟩

/-- The hypotheses of clauses of HoldupSelfTestsRunTheirSteps can be met: holdupSelftestStep, holdupRetestTimer, holdupTestAgeExpiry. -/
theorem test_holdup_self_tests_run_their_steps_d :
    (∃ (s : State) (p : PackId) (mv : Nat) (v0 : Nat) (vf1 : Nat) (vs1 : Nat) (w0 : Nat) (vf2 : Nat) (vs2 : Nat) (ma : Int) (i0 : Int) (if1 : Int) (is1 : Int) (j0 : Int) (if2 : Int) (is2 : Int) (r : TestRun), bothPacks.find? (fun q => (s.pack q).test.isSome) = some p ∧ (s.pack p).test = some r ∧ r.step = 11 ∧ r.samples = [(v0, i0), (vf1, if1), (vs1, is1), (w0, j0), (vf2, if2), (vs2, is2)] ∧ (s.packCfg p).cells * (s.packCfg p).cutoffMvCell ≤ mv ∧ (s.pack p).displaced = none ∧ (s.pack p).firstTest = false ∧ (if1 - i0) * 50 < (s.pack p).learned.capMah) ∧
    (∃ (s : State) (p : PackId) (mv : Nat) (v0 : Nat) (vf1 : Nat) (vs1 : Nat) (w0 : Nat) (vf2 : Nat) (vs2 : Nat) (ma : Int) (i0 : Int) (if1 : Int) (is1 : Int) (j0 : Int) (if2 : Int) (is2 : Int) (r : TestRun), bothPacks.find? (fun q => (s.pack q).test.isSome) = some p ∧ (s.pack p).test = some r ∧ r.step = 11 ∧ r.samples = [(v0, i0), (vf1, if1), (vs1, is1), (w0, j0), (vf2, if2), (vs2, is2)] ∧ (s.packCfg p).cells * (s.packCfg p).cutoffMvCell ≤ mv ∧ (s.pack p).displaced = none ∧ (s.pack p).firstTest = false ∧ (s.pack p).learned.capMah ≤ (if1 - i0) * 50 ∧ (s.packCfg p).cells * (s.packCfg p).cutoffMvCell * 105 < min r.lowest mv * 100 ∧ agree20 (stepR v0 vf1 i0 if1) (stepR w0 vf2 j0 if2) = true ∧ agree20 (stepR v0 vs1 i0 is1) (stepR w0 vs2 j0 is2) = true ∧ (s.pack p).socPpm < 500000) ∧
    (∃ (s : State) (p : PackId), s.packPresent p = true ∧ s.acFail = true ∧ 2 ≤ s.fld (Fld.PACK_STATUS.TEST_RESULT.at (packIx p)) ∧ s.fld (Fld.PACK_STATUS.TEST_RESULT.at (packIx p)) ≤ 5) ∧
    (∃ (s : State) (p : PackId), ((s.packPresent p = false ∨ s.fld (Fld.PACK_STATUS.TEST_RESULT.at (packIx p)) ∉ [2, 3, 4, 5]))) ∧
    (∃ (s : State) (p : PackId), s.packPresent p = false) :=
  ⟨⟨tPk tG .B { tFull with test := some tSix }, .B, 12000, 16000, 15500, 15000, 16000, 15500, 15000, 100, 0, 5, 10, 0, 5, 10, tSix, by decide +kernel⟩,
   ⟨tPk tG .B { tFull with test := some tSix2, socPpm := 400000 }, .B, 15000, 16000, 15500, 15000, 16000, 15500, 15000, 100, 0, 500, 1000, 0, 500, 1000, tSix2, by decide +kernel⟩,
   ⟨((tPk tG .A tFull).setFld (Fld.PACK_STATUS.TEST_RESULT.at 0) 2).setBit Fld.NRG_STATUS.AC_FAIL true, .A, by decide +kernel⟩,
   ⟨(tPk tG .A tFull).setFld (Fld.PACK_STATUS.TEST_RESULT.at 0) 6, .A, by decide +kernel⟩,
   ⟨tG, .B, by decide +kernel⟩⟩

/-- The hypotheses of clauses of HoldupSelfTestsRunTheirSteps can be met: holdupStartupTest. -/
theorem test_holdup_self_tests_run_their_steps_e :
    (∃ (s : State), s.acFail = false) ∧
    (∃ (s : State), s.acFail = true) :=
  ⟨⟨tBoth, by decide +kernel⟩,
   ⟨tBoth.setBit Fld.NRG_STATUS.AC_FAIL true, by decide +kernel⟩⟩

/-- The hypotheses of clauses of LearningCyclesAndGaugeCommandsTakeEffect can be met: learnStart, learnDischargeEnd, learnRestEnd, learnDisqualify. -/
theorem test_learning_cycles_and_gauge_commands_take_effect_a :
    (∃ (s : State) (p : PackId), s.gaugeCfg.learnPeriodDays ≠ 0 ∧ s.acFail = false ∧ s.learnReady p = true) ∧
    (∃ (s : State) (p : PackId) (c : LearnRun), (s.pack p).learn = some c ∧ c.resting = false) ∧
    (∃ (s : State) (p : PackId) (c : LearnRun) (soc : Nat), (s.pack p).learn = some c ∧ c.resting = true ∧ soc = socOfOcv (s.packCfg p) (s.fld (Fld.NRG_VOLT_MV.MV.at (packIx p)) / (s.packCfg p).cells) ∧ soc + 300000 ≤ c.socStart) ∧
    (∃ (s : State) (p : PackId) (c : LearnRun), (s.pack p).learn = some c ∧ c.resting = true ∧ c.socStart < socOfOcv (s.packCfg p) (s.fld (Fld.NRG_VOLT_MV.MV.at (packIx p)) / (s.packCfg p).cells) + 300000) ∧
    (∃ (s : State) (p : PackId) (why : Fin 8), (s.pack p).learn.isSome = true ∧ 2 ≤ why.val) :=
  ⟨⟨tBoth, .A, by decide +kernel⟩,
   ⟨tLearn false 950000, .A, ⟨950000, 7200000, false⟩, by decide +kernel⟩,
   ⟨tLearn true 950000, .A, ⟨950000, 7200000, true⟩, socOfOcv ((tLearn true 950000).packCfg .A) 0, by decide +kernel⟩,
   ⟨tLearn true 299999, .A, ⟨299999, 7200000, true⟩, by decide +kernel⟩,
   ⟨tLearn false 950000, .A, 2, by decide +kernel⟩⟩

/-- The hypotheses of clauses of LearningCyclesAndGaugeCommandsTakeEffect can be met: learnRetry, gaugeBlockWrite, nrgTest, nrgLearn. -/
theorem test_learning_cycles_and_gauge_commands_take_effect_b :
    (∃ (s : State) (p : PackId), (s.pack p).learnTries < 3 ∧ s.acFail = false ∧ s.learnReady p = true) ∧
    (∃ (s : State) (p : PackId), (s.packCfg p).chemistry ≠ 0) ∧
    (∃ (s : State) (p : PackId), s.Takes Fld.NRG_CMD.CMD.addr ∧ s.bit Fld.NRG_CMD_STATUS.BUSY = false ∧ s.packPresent p = true ∧ s.acFail = false) ∧
    (∃ (s : State) (p : PackId), s.Takes Fld.NRG_CMD.CMD.addr ∧ s.bit Fld.NRG_CMD_STATUS.BUSY = false ∧ s.packPresent p = false) ∧
    (∃ (s : State) (p : PackId), s.Takes Fld.NRG_CMD.CMD.addr ∧ s.bit Fld.NRG_CMD_STATUS.BUSY = false ∧ s.learnReady p = true ∧ s.acFail = false) :=
  ⟨⟨tBoth, .B, by decide +kernel⟩,
   ⟨tG, .B, by decide +kernel⟩,
   ⟨tBoth, .A, by decide +kernel⟩,
   ⟨tG, .A, by decide +kernel⟩,
   ⟨tBoth, .A, by decide +kernel⟩⟩

/-- The hypotheses of clauses of LearningCyclesAndGaugeCommandsTakeEffect can be met: nrgLearn, learnAbort, nrgRetest, nrgSamePack, learnStart. -/
theorem test_learning_cycles_and_gauge_commands_take_effect_c :
    (∃ (s : State) (p : PackId), s.Takes Fld.NRG_CMD.CMD.addr ∧ s.bit Fld.NRG_CMD_STATUS.BUSY = false ∧ s.packPresent p = true ∧ s.acFail = true) ∧
    (∃ (s : State) (p : PackId), s.Takes Fld.NRG_CMD.CMD.addr ∧ s.bit Fld.NRG_CMD_STATUS.BUSY = false ∧ (s.pack p).learn.isSome = true) ∧
    (∃ (s : State) (p : PackId), s.Takes Fld.NRG_CMD.CMD.addr ∧ s.bit Fld.NRG_CMD_STATUS.BUSY = false ∧ s.packPresent p = true ∧ s.acFail = false) ∧
    (∃ (s : State) (p : PackId) (d : Learned), s.Takes Fld.NRG_CMD.CMD.addr ∧ s.bit Fld.NRG_CMD_STATUS.BUSY = false ∧ (s.pack p).displaced = some d ∧ s.packPresent p = true ∧ s.now ≤ (s.pack p).presentAt + 60 * sec ∧ (s.pack p).sameBad = false) ∧
    (∃ (s : State) (p : PackId), ((s.gaugeCfg.learnPeriodDays = 0 ∨ s.acFail = true ∨ s.learnReady p = false))) :=
  ⟨⟨tBoth.setBit Fld.NRG_STATUS.AC_FAIL true, .A, by decide +kernel⟩,
   ⟨tLearn false 950000, .A, by decide +kernel⟩,
   ⟨tPk tG .A { tFull with fails := 3 }, .A, by decide +kernel⟩,
   ⟨tPk tG .A { tFull with displaced := some learnedNone }, .A, learnedNone, by decide +kernel⟩,
   ⟨tG, .A, by decide +kernel⟩⟩

/-- The hypotheses of clauses of LearningCyclesAndGaugeCommandsTakeEffect can be met: learnDischargeEnd, learnRestEnd, learnDisqualify, learnRetry, gaugeBlockWrite. -/
theorem test_learning_cycles_and_gauge_commands_take_effect_d :
    (∃ (s : State) (p : PackId), (s.pack p).learn.map (·.resting) ≠ some false) ∧
    (∃ (s : State) (p : PackId), (s.pack p).learn.map (·.resting) ≠ some true) ∧
    (∃ (s : State) (p : PackId) (why : Fin 8), (((s.pack p).learn = none ∨ why.val < 2))) ∧
    (∃ (s : State) (p : PackId), ((3 ≤ (s.pack p).learnTries ∨ s.acFail = true ∨ s.learnReady p = false))) ∧
    (∃ (s : State) (p : PackId), (s.packCfg p).chemistry = 0) :=
  ⟨⟨tLearn true 950000, .A, by decide +kernel⟩,
   ⟨tLearn false 950000, .A, by decide +kernel⟩,
   ⟨tBoth, .A, 2, by decide +kernel⟩,
   ⟨tG, .A, by decide +kernel⟩,
   ⟨tR, .A, by decide +kernel⟩⟩

/-- The hypotheses of clauses of LearningCyclesAndGaugeCommandsTakeEffect can be met: nrgTest, nrgLearn, learnAbort, nrgRetest, nrgSamePack. -/
theorem test_learning_cycles_and_gauge_commands_take_effect_e :
    (∃ (s : State) (p : PackId), s.Takes Fld.NRG_CMD.CMD.addr ∧ s.bit Fld.NRG_CMD_STATUS.BUSY = true) ∧
    (∃ (s : State) (p : PackId), s.Takes Fld.NRG_CMD.CMD.addr ∧ s.bit Fld.NRG_CMD_STATUS.BUSY = true) ∧
    (∃ (s : State) (p : PackId), s.Takes Fld.NRG_CMD.CMD.addr ∧ s.bit Fld.NRG_CMD_STATUS.BUSY = true) ∧
    (∃ (s : State) (p : PackId), s.Takes Fld.NRG_CMD.CMD.addr ∧ s.bit Fld.NRG_CMD_STATUS.BUSY = true) ∧
    (∃ (s : State) (p : PackId), s.Takes Fld.NRG_CMD.CMD.addr ∧ s.bit Fld.NRG_CMD_STATUS.BUSY = true) :=
  ⟨⟨tBoth.setBit Fld.NRG_CMD_STATUS.BUSY true, .A, by decide +kernel⟩,
   ⟨tBoth.setBit Fld.NRG_CMD_STATUS.BUSY true, .A, by decide +kernel⟩,
   ⟨tBoth.setBit Fld.NRG_CMD_STATUS.BUSY true, .A, by decide +kernel⟩,
   ⟨tBoth.setBit Fld.NRG_CMD_STATUS.BUSY true, .A, by decide +kernel⟩,
   ⟨tBoth.setBit Fld.NRG_CMD_STATUS.BUSY true, .A, by decide +kernel⟩⟩

/-- The hypotheses of clauses of LearningCyclesAndGaugeCommandsTakeEffect can be met: nrgLearn, nrgRetest, nrgTest, learnAbort. -/
theorem test_learning_cycles_and_gauge_commands_take_effect_f :
    (∃ (s : State) (p : PackId), s.Takes Fld.NRG_CMD.CMD.addr ∧ s.bit Fld.NRG_CMD_STATUS.BUSY = false ∧ s.packPresent p = false) ∧
    (∃ (s : State) (p : PackId), s.Takes Fld.NRG_CMD.CMD.addr ∧ s.bit Fld.NRG_CMD_STATUS.BUSY = false ∧ s.packPresent p = false) ∧
    (∃ (s : State) (p : PackId), s.Takes Fld.NRG_CMD.CMD.addr ∧ s.bit Fld.NRG_CMD_STATUS.BUSY = false ∧ s.packPresent p = true ∧ s.acFail = true) ∧
    (∃ (s : State) (p : PackId), s.Takes Fld.NRG_CMD.CMD.addr ∧ s.bit Fld.NRG_CMD_STATUS.BUSY = false ∧ s.packPresent p = true ∧ s.acFail = false ∧ s.learnReady p = false) ∧
    (∃ (s : State) (p : PackId), s.Takes Fld.NRG_CMD.CMD.addr ∧ s.bit Fld.NRG_CMD_STATUS.BUSY = false ∧ (s.pack p).learn = none) :=
  ⟨⟨tG, .A, by decide +kernel⟩,
   ⟨tG, .A, by decide +kernel⟩,
   ⟨tBoth.setBit Fld.NRG_STATUS.AC_FAIL true, .A, by decide +kernel⟩,
   ⟨tPk tG .A tFull, .A, by decide +kernel⟩,
   ⟨tBoth, .A, by decide +kernel⟩⟩

/-- The hypotheses of clauses of LearningCyclesAndGaugeCommandsTakeEffect can be met: nrgRetest, nrgSamePack. -/
theorem test_learning_cycles_and_gauge_commands_take_effect_g :
    (∃ (s : State) (p : PackId), s.Takes Fld.NRG_CMD.CMD.addr ∧ s.bit Fld.NRG_CMD_STATUS.BUSY = false ∧ s.packPresent p = true ∧ s.acFail = true) ∧
    (∃ (s : State) (p : PackId), s.Takes Fld.NRG_CMD.CMD.addr ∧ s.bit Fld.NRG_CMD_STATUS.BUSY = false ∧ (((s.pack p).displaced = none ∨ s.packPresent p = false ∨ (s.pack p).presentAt + 60 * sec < s.now))) ∧
    (∃ (s : State) (p : PackId), s.Takes Fld.NRG_CMD.CMD.addr ∧ s.bit Fld.NRG_CMD_STATUS.BUSY = false ∧ (s.pack p).displaced.isSome = true ∧ s.packPresent p = true ∧ s.now ≤ (s.pack p).presentAt + 60 * sec ∧ (s.pack p).sameBad = true) :=
  ⟨⟨(tPk tG .A { tFull with fails := 3 }).setBit Fld.NRG_STATUS.AC_FAIL true, .A, by decide +kernel⟩,
   ⟨tBoth, .A, by decide +kernel⟩,
   ⟨tPk tG .A { tFull with displaced := some learnedNone, sameBad := true }, .A, by decide +kernel⟩⟩

/-- The hypotheses of clauses of ThermalCommandsTakeEffect can be met: thermalStateChange. -/
theorem test_thermal_commands_take_effect_a :
    (∃ (s : State), s.bit Fld.PWR_STATE.PEGBOX_READY = true ∧ s.nextTherm ≠ s.thermState ∧ s.thermState ≠ 3 ∧ s.nextTherm ≠ 3) ∧
    (∃ (s : State), s.bit Fld.PWR_STATE.PEGBOX_READY = true ∧ s.nextTherm = 3 ∧ s.thermState ≠ 3 ∧ s.pwr.fast = .running ∧ s.bit Fld.PWR_STATE.BOOTING = false ∧ s.fld Fld.PWR_STATE.STATE = 0 ∧ s.err.active = none ∧ s.wc.dumpArea = none) ∧
    (∃ (s : State), s.bit Fld.PWR_STATE.PEGBOX_READY = true ∧ s.nextTherm = 3 ∧ s.thermState ≠ 3) ∧
    (∃ (s : State), s.bit Fld.PWR_STATE.PEGBOX_READY = true ∧ s.nextTherm ≠ 3 ∧ s.thermState = 3) ∧
    (∃ (s : State), s.bit Fld.PWR_STATE.PEGBOX_READY = true ∧ s.nextTherm = s.thermState) :=
  ⟨⟨tTh 0 951, by decide +kernel⟩,
   ⟨{ tTh 2 1150 with wc := tDirty.wc }, by decide +kernel⟩,
   ⟨tTh 1 1200, by decide +kernel⟩,
   ⟨{ tTh 3 600 with therm := { (tTh 3 600).therm with stop := some .gated } }, by decide +kernel⟩,
   ⟨tTh 0 950, by decide +kernel⟩⟩

/-- The hypotheses of clauses of ThermalCommandsTakeEffect can be met: throttleClockStep, temperatureSample, thermalStateChange. -/
theorem test_thermal_commands_take_effect_b :
    (∃ (s : State), s.thermState = 2 ∧ 1050 < s.tjDeci ∧ s.therm.throttle < 8) ∧
    (∃ (s : State), s.tjDeci < 1030 ∧ 0 < s.therm.throttle) ∧
    (∃ (s : State) (sensors : List Int), s.bit Fld.PWR_STATE.PEGBOX_READY = true ∧ sensors ≠ []) ∧
    (∃ (s : State), s.bit Fld.PWR_STATE.PEGBOX_READY = false) ∧
    (∃ (s : State), ¬(s.thermState = 2 ∧ 1050 < s.tjDeci ∧ s.therm.throttle < 8) ∧ ¬(s.tjDeci < 1030 ∧ 0 < s.therm.throttle)) :=
  ⟨⟨tTh 2 1051, by decide +kernel⟩,
   ⟨{ tTh 2 1029 with therm := { (tTh 2 1029).therm with throttle := 1 } }, by decide +kernel⟩,
   ⟨tTh 2 1040, [1040, 1041], by decide +kernel⟩,
   ⟨(tTh 0 951).setBit Fld.PWR_STATE.PEGBOX_READY false, by decide +kernel⟩,
   ⟨tTh 2 1050, by decide +kernel⟩⟩

/-- The hypotheses of clauses of ThermalCommandsTakeEffect can be met: temperatureSample. -/
theorem test_thermal_commands_take_effect_c :
    ∃ (s : State) (sensors : List Int), (s.bit Fld.PWR_STATE.PEGBOX_READY = false ∨ sensors = []) :=
  ⟨tTh 2 1040, [], by decide +kernel⟩

/-- The hypotheses of clauses of FanChannelsFollowTheirSequences can be met: fanListenEnd, fanBrakeDone. -/
theorem test_fan_channels_follow_their_sequences_a :
    (∃ (s : State) (n : FanId) (r : RotorSpeed), s.fanState n = 1 ∧ r.rpm * 100 < (s.fanCh n).ratedRpm * 2) ∧
    (∃ (s : State) (n : FanId) (r : RotorSpeed), s.fanState n = 1 ∧ (s.fanCh n).ratedRpm * 2 ≤ r.rpm * 100 ∧ r.reverse = false) ∧
    (∃ (s : State) (n : FanId) (r : RotorSpeed), s.fanState n = 1 ∧ (s.fanCh n).ratedRpm * 2 ≤ r.rpm * 100 ∧ r.reverse = true) ∧
    (∃ (s : State) (n : FanId), s.fanState n = 2) ∧
    (∃ (s : State) (n : FanId), s.fanState n = 2 ∧ s.fld (Fld.FAN_STATUS.ATTEMPT.at n.val) < 3) :=
  ⟨⟨tFan 1, 1, ⟨239, false⟩, by decide +kernel⟩,
   ⟨tFan 1, 1, ⟨240, false⟩, by decide +kernel⟩,
   ⟨tFan 1, 1, ⟨3601, true⟩, by decide +kernel⟩,
   ⟨tFan 2, 1, by decide +kernel⟩,
   ⟨tFan 2, 1, by decide +kernel⟩⟩

/-- The hypotheses of clauses of FanChannelsFollowTheirSequences can be met: fanBrakeDone, fanWaitRecheck, fanRampEnd, fanAttemptFail. -/
theorem test_fan_channels_follow_their_sequences_b :
    (∃ (s : State) (n : FanId), s.fanState n = 2 ∧ 3 ≤ s.fld (Fld.FAN_STATUS.ATTEMPT.at n.val)) ∧
    (∃ (s : State) (n : FanId) (r : RotorSpeed), s.fanState n = 3 ∧ (r.reverse = false ∨ r.rpm * 100 ≤ (s.fanCh n).ratedRpm * (s.fanCh n).brakeMaxPct ∨ 9 ≤ (s.fan n).waited)) ∧
    (∃ (s : State) (n : FanId) (r : RotorSpeed), s.fanState n = 3 ∧ r.reverse = true ∧ (s.fanCh n).ratedRpm * (s.fanCh n).brakeMaxPct < r.rpm * 100 ∧ (s.fan n).waited < 9) ∧
    (∃ (s : State) (n : FanId) (rs : Nat) (ls : Nat) (run : List PwmPeriod), s.fanState n = 4) ∧
    (∃ (s : State) (n : FanId), s.fanState n = 4 ∧ s.fld (Fld.FAN_STATUS.ATTEMPT.at n.val) < 3) :=
  ⟨⟨(tFan 2).setFld (Fld.FAN_STATUS.ATTEMPT.at 1) 3, 1, by decide +kernel⟩,
   ⟨{ tFan 3 with fans := [(1, { fanReset with waited := 9 })] }, 1, ⟨300, true⟩, by decide +kernel⟩,
   ⟨{ tFan 3 with fans := [(1, { fanReset with waited := 8 })] }, 1, ⟨3601, true⟩, by decide +kernel⟩,
   ⟨tFan 4, 1, 7, 8, [], by decide +kernel⟩,
   ⟨(tFan 4).setFld (Fld.FAN_STATUS.ATTEMPT.at 1) 2, 1, by decide +kernel⟩⟩

/-- The hypotheses of clauses of FanChannelsFollowTheirSequences can be met: fanAttemptFail, fanRetryTimer, fanOvercurrent. -/
theorem test_fan_channels_follow_their_sequences_c :
    (∃ (s : State) (n : FanId), s.fanState n = 4 ∧ 3 ≤ s.fld (Fld.FAN_STATUS.ATTEMPT.at n.val)) ∧
    (∃ (s : State) (n : FanId), s.fanState n = 7 ∧ (s.safeMode && (s.fanBlock n).isNone) = false) ∧
    (∃ (s : State) (n : FanId), s.fanState n = 7 ∧ (s.safeMode && (s.fanBlock n).isNone) = true) ∧
    (∃ (s : State) (n : FanId) (run : List PwmPeriod), s.fanState n ≠ 0 ∧ s.fanState n ≠ 8) ∧
    (∃ (s : State) (n : FanId) (run : List PwmPeriod), (s.fanState n = 0 ∨ s.fanState n = 8)) :=
  ⟨⟨(tFan 4).setFld (Fld.FAN_STATUS.ATTEMPT.at 1) 3, 1, by decide +kernel⟩,
   ⟨tFan 7, 1, by decide +kernel⟩,
   ⟨(tFan 7).setBit Fld.IMG_BOOT.SAFE_MODE true, 1, by decide +kernel⟩,
   ⟨tFan 5, 1, [⟨1, 2, 3, false⟩], by decide +kernel⟩,
   ⟨tFan 8, 1, [], by decide +kernel⟩⟩

/-- The hypotheses of clauses of FanChannelsFollowTheirSequences can be met: fanStall, fanClassChange. -/
theorem test_fan_channels_follow_their_sequences_d :
    (∃ (s : State) (n : FanId) (run : List PwmPeriod), (s.fanState n = 5 ∨ s.fanState n = 6) ∧ (s.safeMode && (s.fanBlock n).isNone) = false) ∧
    (∃ (s : State) (n : FanId) (run : List PwmPeriod), (s.fanState n = 5 ∨ s.fanState n = 6) ∧ (s.safeMode && (s.fanBlock n).isNone) = true) ∧
    (∃ (s : State) (n : FanId) (rpm : Nat) (ke : Nat) (run : List PwmPeriod), s.fanState n = 5 ∧ s.thermState = 0 ∧ ((s.fld (Fld.FAN_TARGET.RPM.at n.val) : Int) - rpm).natAbs * 20 ≤ s.fld (Fld.FAN_TARGET.RPM.at n.val)) ∧
    (∃ (s : State) (n : FanId) (rpm : Nat) (ke : Nat) (run : List PwmPeriod), s.fanState n = 6 ∧ (s.thermState ≠ 0 ∨ rpm * 12 < s.fld (Fld.FAN_TARGET.RPM.at n.val) * 10)) ∧
    (∃ (s : State) (n : FanId) (rpm : Nat) (ke : Nat) (run : List PwmPeriod), ((s.fanState n = 5 ∧ (s.thermState ≠ 0 ∨ s.fld (Fld.FAN_TARGET.RPM.at n.val) < ((s.fld (Fld.FAN_TARGET.RPM.at n.val) : Int) - rpm).natAbs * 20)) ∨ (s.fanState n = 6 ∧ s.thermState = 0 ∧ s.fld (Fld.FAN_TARGET.RPM.at n.val) * 10 ≤ rpm * 12))) :=
  ⟨⟨tFan 6, 1, [], by decide +kernel⟩,
   ⟨(tFan 5).setBit Fld.IMG_BOOT.SAFE_MODE true, 1, [], by decide +kernel⟩,
   ⟨(tFan 5).setFld (Fld.FAN_TARGET.RPM.at 1) 1000, 1, 950, 3, [], by decide +kernel⟩,
   ⟨((tFan 6).setFld (Fld.FAN_TARGET.RPM.at 1) 1000), 1, 833, 3, [], by decide +kernel⟩,
   ⟨((tFan 6).setFld (Fld.FAN_TARGET.RPM.at 1) 1000), 1, 834, 3, [], by decide +kernel⟩⟩

/-- The hypotheses of clauses of FanChannelsFollowTheirSequences can be met: fanPinLoss, fanClearFault, fanRestart. -/
theorem test_fan_channels_follow_their_sequences_e :
    (∃ (s : State) (n : FanId), s.bit (Fld.FAN_PIN.VALID.at n.val) = true) ∧
    (∃ (s : State) (n : FanId), s.bit (Fld.FAN_PIN.VALID.at n.val) = false) ∧
    (∃ (s : State) (n : FanId), s.Takes (Fld.FAN_CMD.CMD.at n.val).addr ∧ s.fanState n = 8) ∧
    (∃ (s : State) (n : FanId), s.Takes (Fld.FAN_CMD.CMD.at n.val).addr ∧ s.fanState n ≠ 8) ∧
    (∃ (s : State) (n : FanId), s.Takes (Fld.FAN_CMD.CMD.at n.val).addr ∧ s.fanState n ≠ 0 ∧ s.fanState n ≠ 8 ∧ (s.safeMode && (s.fanBlock n).isNone) = false) :=
  ⟨⟨(tFan 5).setBit (Fld.FAN_PIN.VALID.at 1) true, 1, by decide +kernel⟩,
   ⟨tFan 5, 1, by decide +kernel⟩,
   ⟨tFan 8, 1, by decide +kernel⟩,
   ⟨tFan 7, 1, by decide +kernel⟩,
   ⟨tFan 7, 1, by decide +kernel⟩⟩

/-- The hypotheses of clauses of FanChannelsFollowTheirSequences can be met: fanRestart, fanRelearn. -/
theorem test_fan_channels_follow_their_sequences_f :
    (∃ (s : State) (n : FanId), s.Takes (Fld.FAN_CMD.CMD.at n.val).addr ∧ s.fanState n ≠ 0 ∧ s.fanState n ≠ 8 ∧ (s.safeMode && (s.fanBlock n).isNone) = true) ∧
    (∃ (s : State) (n : FanId), s.Takes (Fld.FAN_CMD.CMD.at n.val).addr ∧ (s.fanState n = 0 ∨ s.fanState n = 8)) ∧
    (∃ (s : State) (n : FanId), s.Takes (Fld.FAN_CMD.CMD.at n.val).addr ∧ s.fanOn n = true) ∧
    (∃ (s : State) (n : FanId), s.Takes (Fld.FAN_CMD.CMD.at n.val).addr ∧ s.fanOn n = false) :=
  ⟨⟨(tFan 5).setBit Fld.IMG_BOOT.SAFE_MODE true, 1, by decide +kernel⟩,
   ⟨tFan 8, 1, by decide +kernel⟩,
   ⟨tFan 5, 1, by decide +kernel⟩,
   ⟨tR, 1, by decide +kernel⟩⟩

/-- The hypotheses of clauses of EventRecorderCommandsTakeEffect can be met: eventRecord, eventFreeze. -/
theorem test_event_recorder_commands_take_effect_a :
    (∃ (s : State) (a : EvArrival) (r : List EvArrival) (i : Nat) (p : EvPage), s.evr.arrivals = a :: r ∧ s.recorderCfg.minSeverity ≤ a.sev ∧ s.fld Fld.EVR_NEXT_SEQ < 2 ^ 48 - 1 ∧ s.bit Fld.EVR_STATUS.FROZEN = false ∧ s.evr.second = s.now / sec ∧ s.evr.secondCount < 10000 ∧ s.evr.pages.find? (fun p => p.2.isOpen) = some (i, p) ∧ p.takes a = true) ∧
    (∃ (s : State) (a : EvArrival) (r : List EvArrival), s.evr.arrivals = a :: r ∧ s.recorderCfg.minSeverity ≤ a.sev ∧ s.fld Fld.EVR_NEXT_SEQ < 2 ^ 48 - 1 ∧ s.bit Fld.EVR_STATUS.FROZEN = true ∧ s.evr.sideQ.length < 64) ∧
    (∃ (s : State) (a : EvArrival) (r : List EvArrival), s.evr.arrivals = a :: r ∧ a.sev < s.recorderCfg.minSeverity ∧ a.sev ≠ 7) ∧
    (∃ (s : State) (iface : Iface), s.frozenByOther iface = false) ∧
    (∃ (s : State) (iface : Iface), s.frozenByOther iface = true) :=
  ⟨⟨{ tEvr tEv with evr := { (tEvr tEv).evr with pages := [(1, ⟨true, 4, some 50, 1, []⟩)] } }, tEv, [], 1, ⟨true, 4, some 50, 1, []⟩, by decide +kernel⟩,
   ⟨tFrozen (tEvr tEv) 1, tEv, [], by decide +kernel⟩,
   ⟨tEvr { tEv with sev := 0 }, { tEv with sev := 0 }, [], by decide +kernel⟩,
   ⟨tFrozen tR 1, .host0, by decide +kernel⟩,
   ⟨tFrozen tR 2, .host0, by decide +kernel⟩⟩

/-- The hypotheses of clauses of EventRecorderCommandsTakeEffect can be met: eventUnfreeze, freezeTimeout, eventChallenge. -/
theorem test_event_recorder_commands_take_effect_b :
    (∃ (s : State) (iface : Iface), s.bit Fld.EVR_STATUS.FROZEN = true ∧ s.fld Fld.EVR_STATUS.FREEZE_OWNER = ifaceOwner iface) ∧
    (∃ (s : State) (iface : Iface), s.bit Fld.EVR_STATUS.FROZEN = false) ∧
    (∃ (s : State), s.bit Fld.EVR_STATUS.FROZEN = true) ∧
    (∃ (s : State), s.bit Fld.EVR_STATUS.LOCKOUT = false ∧ s.pool ≠ 0) ∧
    (∃ (s : State), s.bit Fld.EVR_STATUS.LOCKOUT = true) :=
  ⟨⟨tFrozen (tEvr tEv) 1, .host0, by decide +kernel⟩,
   ⟨tR, .host0, by decide +kernel⟩,
   ⟨tFrozen tR 1, by decide +kernel⟩,
   ⟨tTrng.setFld Fld.CIP_TRNG_STATUS.POOL 1, by decide +kernel⟩,
   ⟨tR.setBit Fld.EVR_STATUS.LOCKOUT true, by decide +kernel⟩⟩

/-- The hypotheses of clauses of EventRecorderCommandsTakeEffect can be met: eventClear, eventAuthSet, soundpostNow. -/
theorem test_event_recorder_commands_take_effect_c :
    (∃ (s : State) (iface : Iface), s.frozenByOther iface = false ∧ s.tokenOk 1 0 (s.fld Fld.EVR_AUTH) = true) ∧
    (∃ (s : State) (iface : Iface), s.frozenByOther iface = false ∧ s.tokenOk 1 0 (s.fld Fld.EVR_AUTH) = false) ∧
    (∃ (s : State) (iface : Iface), s.evr.authKey = none) ∧
    (∃ (s : State) (iface : Iface), s.evr.authKey.isSome = true ∧ s.tokenOk 9 0 (s.fld Fld.EVR_AUTH) = false) ∧
    (∃ (s : State), s.evr.spNowAt = none) :=
  ⟨⟨tTok tR Fld.EVR_AUTH 1 0, .host0, ⟨by decide +kernel, tTok_ok _ _ _ _ (by decide) rfl⟩⟩,
   ⟨tR, .host0, by decide +kernel⟩,
   ⟨tR.setFld Fld.EVR_AUTH_KEY 5, .host0, by decide +kernel⟩,
   ⟨{ tR with evr := { tR.evr with authKey := some 1 } }, .host0, by decide +kernel⟩,
   ⟨tR, by decide +kernel⟩⟩

/-- The hypotheses of clauses of EventRecorderCommandsTakeEffect can be met: soundpostNow, soundpostVaultCopy, soundpostFlashCopy, eventRecord. -/
theorem test_event_recorder_commands_take_effect_d :
    (∃ (s : State) (t0 : Nat), s.evr.spNowAt = some t0 ∧ s.now < t0 + 60 * sec) ∧
    (∃ (s : State) (p : Soundpost) (r : List Soundpost), s.evr.spVaultDue = p :: r ∧ s.bit Fld.VLT_STATUS.DUMPING = false ∧ s.bit Fld.VLT_STATUS.PRESENT = true) ∧
    (∃ (s : State) (p : Soundpost) (r : List Soundpost), s.evr.spFlashDue = p :: r ∧ s.evr.spVaultDue = []) ∧
    (∃ (s : State), s.evr.arrivals = []) ∧
    (∃ (s : State) (a : EvArrival) (r : List EvArrival), s.evr.arrivals = a :: r ∧ (s.recorderCfg.minSeverity ≤ a.sev ∨ a.sev = 7) ∧ a.sev < 8 ∧ s.fld Fld.EVR_NEXT_SEQ = 2 ^ 48 - 1) :=
  ⟨⟨{ tR with evr := { tR.evr with spNowAt := some 0 }, now := 59999999999 }, 0, by decide +kernel⟩,
   ⟨{ tR.setBit Fld.VLT_STATUS.PRESENT true with evr := { tR.evr with spVaultDue := [tSp] } }, tSp, [], by decide +kernel⟩,
   ⟨{ tR with evr := { tR.evr with spFlashDue := [tSp] } }, tSp, [], by decide +kernel⟩,
   ⟨tR, by decide +kernel⟩,
   ⟨(tEvr tEv).setFld Fld.EVR_NEXT_SEQ (2 ^ 48 - 1), tEv, [], by decide +kernel⟩⟩

/-- The hypotheses of clauses of EventRecorderCommandsTakeEffect can be met: eventRecord. -/
theorem test_event_recorder_commands_take_effect_e :
    (∃ (s : State) (a : EvArrival) (r : List EvArrival), s.evr.arrivals = a :: r ∧ (s.recorderCfg.minSeverity ≤ a.sev ∨ a.sev = 7) ∧ a.sev < 8 ∧ s.fld Fld.EVR_NEXT_SEQ < 2 ^ 48 - 1 ∧ s.bit Fld.EVR_STATUS.FROZEN = true ∧ 64 ≤ s.evr.sideQ.length) ∧
    (∃ (s : State) (a : EvArrival) (r : List EvArrival), s.evr.arrivals = a :: r ∧ (s.recorderCfg.minSeverity ≤ a.sev ∨ a.sev = 7) ∧ a.sev < 8 ∧ s.fld Fld.EVR_NEXT_SEQ < 2 ^ 48 - 1 ∧ s.bit Fld.EVR_STATUS.FROZEN = false ∧ s.evr.second = s.now / sec ∧ 10000 ≤ s.evr.secondCount) ∧
    (∃ (s : State) (a : EvArrival) (r : List EvArrival) (i : Nat) (p : EvPage), s.evr.arrivals = a :: r ∧ (s.recorderCfg.minSeverity ≤ a.sev ∨ a.sev = 7) ∧ s.fld Fld.EVR_NEXT_SEQ < 2 ^ 48 - 1 ∧ s.bit Fld.EVR_STATUS.FROZEN = false ∧ s.evr.second ≠ s.now / sec ∧ s.evr.pages.find? (fun p => p.2.isOpen) = some (i, p) ∧ p.takes a = true) ∧
    (∃ (s : State) (a : EvArrival) (r : List EvArrival) (i : Nat), s.evr.arrivals = a :: r ∧ (s.recorderCfg.minSeverity ≤ a.sev ∨ a.sev = 7) ∧ s.fld Fld.EVR_NEXT_SEQ < 2 ^ 48 - 1 ∧ s.bit Fld.EVR_STATUS.FROZEN = false ∧ s.evr.second = s.now / sec ∧ s.evr.secondCount < 10000 ∧ s.evr.pages.find? (fun p => p.2.isOpen) = none ∧ firstFree (s.evr.pages.map (·.1)) 1 1023 = some i) ∧
    (∃ (s : State) (a : EvArrival) (r : List EvArrival) (i : Nat) (j : Nat) (p : EvPage), s.evr.arrivals = a :: r ∧ (s.recorderCfg.minSeverity ≤ a.sev ∨ a.sev = 7) ∧ s.fld Fld.EVR_NEXT_SEQ < 2 ^ 48 - 1 ∧ s.bit Fld.EVR_STATUS.FROZEN = false ∧ s.evr.second = s.now / sec ∧ s.evr.secondCount < 10000 ∧ s.evr.pages.find? (fun p => p.2.isOpen) = some (j, p) ∧ p.takes a = false ∧ firstFree ((tput s.evr.pages j { p with isOpen := false }).map (·.1)) 1 1023 = some i) :=
  ⟨⟨{ tFrozen (tEvr tEv) 1 with evr := { (tEvr tEv).evr with sideQ := List.replicate 64 ⟨1, tEv⟩ } }, tEv, [], by decide +kernel⟩,
   ⟨{ tEvr tEv with evr := { (tEvr tEv).evr with secondCount := 10000 } }, tEv, [], by decide +kernel⟩,
   ⟨{ tEvr tEv with evr := { (tEvr tEv).evr with pages := [(1, ⟨true, 4, some 50, 1, []⟩)] }, now := sec }, tEv, [], 1, ⟨true, 4, some 50, 1, []⟩, by decide +kernel⟩,
   ⟨tEvr tEv, tEv, [], 1, by decide +kernel⟩,
   ⟨{ tEvr tEv with evr := { (tEvr tEv).evr with pages := [(1, ⟨true, 4, none, 1, []⟩)] } }, tEv, [], 2, 1, ⟨true, 4, none, 1, []⟩, by decide +kernel⟩⟩

/-- The hypotheses of clauses of EventRecorderCommandsTakeEffect can be met: eventRecord, eventUnfreeze, freezeTimeout, eventChallenge. -/
theorem test_event_recorder_commands_take_effect_f :
    (∃ (s : State) (a : EvArrival) (r : List EvArrival), s.evr.arrivals = a :: r ∧ (s.recorderCfg.minSeverity ≤ a.sev ∨ a.sev = 7) ∧ a.sev < 8 ∧ s.fld Fld.EVR_NEXT_SEQ < 2 ^ 48 - 1 ∧ s.bit Fld.EVR_STATUS.FROZEN = false ∧ s.evr.second = s.now / sec ∧ s.evr.secondCount < 10000 ∧ s.evr.pages.find? (fun p => p.2.isOpen) = none ∧ firstFree (s.evr.pages.map (·.1)) 1 1023 = none ∧ (s.bit Fld.EVR_STATUS.MODE = false ∨ reclaimable s.evr.pages a.sev = none)) ∧
    (∃ (s : State) (a : EvArrival) (r : List EvArrival) (i : Nat) (p : EvPage), s.evr.arrivals = a :: r ∧ (s.recorderCfg.minSeverity ≤ a.sev ∨ a.sev = 7) ∧ s.fld Fld.EVR_NEXT_SEQ < 2 ^ 48 - 1 ∧ s.bit Fld.EVR_STATUS.FROZEN = false ∧ s.evr.second = s.now / sec ∧ s.evr.secondCount < 10000 ∧ s.evr.pages.find? (fun p => p.2.isOpen) = none ∧ firstFree (s.evr.pages.map (·.1)) 1 1023 = none ∧ s.bit Fld.EVR_STATUS.MODE = true ∧ reclaimable s.evr.pages a.sev = some (i, p)) ∧
    (∃ (s : State) (iface : Iface), s.fld Fld.EVR_STATUS.FREEZE_OWNER ≠ ifaceOwner iface) ∧
    (∃ (s : State), s.bit Fld.EVR_STATUS.FROZEN = false) ∧
    (∃ (s : State), s.bit Fld.EVR_STATUS.LOCKOUT = false ∧ s.pool = 0) :=
  ⟨⟨{ tEvr tEv with evr := { (tEvr tEv).evr with pages := tFullRing } }, tEv, [], ⟨by decide +kernel, by decide +kernel, by decide +kernel, by decide +kernel, by decide +kernel, by decide +kernel, by decide +kernel, tRing_open _ (by dsimp only [State.setBit, State.setFld]), tRing_full _ (by dsimp only [State.setBit, State.setFld]), .inl rfl⟩⟩,
   ⟨({ tEvr tEv with evr := { (tEvr tEv).evr with pages := tFullRing } } : State).setBit Fld.EVR_STATUS.MODE true, tEv, [], 1, ⟨false, 4, none, 1, []⟩, ⟨by decide +kernel, by decide +kernel, by decide +kernel, by decide +kernel, by decide +kernel, by decide +kernel, tRing_open _ (by dsimp only [State.setBit, State.setFld]), tRing_full _ (by dsimp only [State.setBit, State.setFld]), by decide +kernel, tRing_first _ (by dsimp only [State.setBit, State.setFld])⟩⟩,
   ⟨tFrozen tR 1, .host1, by decide +kernel⟩,
   ⟨tR, by decide +kernel⟩,
   ⟨tR.setBit Fld.EVR_STATUS.LOCKOUT false, by decide +kernel⟩⟩

/-- The hypotheses of clauses of EventRecorderCommandsTakeEffect can be met: eventClear, eventAuthSet, soundpostNow, soundpostVaultCopy, soundpostFlashCopy. -/
theorem test_event_recorder_commands_take_effect_g :
    (∃ (s : State) (iface : Iface), s.frozenByOther iface = true) ∧
    (∃ (s : State) (iface : Iface), s.tokenOk 9 0 (s.fld Fld.EVR_AUTH) = true) ∧
    (∃ (s : State) (t0 : Nat), s.evr.spNowAt = some t0 ∧ t0 + 60 * sec ≤ s.now) ∧
    (∃ (s : State), (s.evr.spVaultDue = [] ∨ s.bit Fld.VLT_STATUS.DUMPING = true ∨ s.bit Fld.VLT_STATUS.PRESENT = false)) ∧
    (∃ (s : State), s.evr.spFlashDue = []) :=
  ⟨⟨tFrozen tR 1, .host1, by decide +kernel⟩,
   ⟨tTok tR Fld.EVR_AUTH 9 0, .host0, tTok_ok _ _ _ _ (by decide) rfl⟩,
   ⟨{ tR with evr := { tR.evr with spNowAt := some 0 }, now := 60 * sec }, 0, by decide +kernel⟩,
   ⟨tR, by decide +kernel⟩,
   ⟨tR, by decide +kernel⟩⟩

/-- The hypotheses of clauses of EventRecorderCommandsTakeEffect can be met: soundpostFlashCopy. -/
theorem test_event_recorder_commands_take_effect_h :
    (∃ (s : State) (p : Soundpost) (r : List Soundpost), s.evr.spFlashDue = p :: r ∧ s.evr.spVaultDue.any (fun q => q.seq = p.seq) = true ∧ s.bit Fld.VLT_STATUS.PRESENT = true) ∧
    (∃ (s : State) (p : Soundpost) (r : List Soundpost), s.evr.spFlashDue = p :: r ∧ (s.evr.spVaultDue.any (fun q => q.seq = p.seq) = false ∨ s.bit Fld.VLT_STATUS.PRESENT = false)) :=
  ⟨⟨{ tR.setBit Fld.VLT_STATUS.PRESENT true with evr := { tR.evr with spVaultDue := [tSp], spFlashDue := [tSp] } }, tSp, [], by decide +kernel⟩,
   ⟨{ tR with evr := { tR.evr with spVaultDue := [tSp], spFlashDue := [tSp] } }, tSp, [], by decide +kernel⟩⟩

/-- The hypotheses of clauses of ErrorsAreStackedAndHandled can be met: recoverableError, handlerEnd, handlerTimeout. -/
theorem test_errors_are_stacked_and_handled_a :
    (∃ (s : State) (e : RecErr) (source : Nat), s.err.stack.length < 4 ∧ s.err.stack.any (fun x => recCode x.err == recCode e && x.source == source && x.fatal.isNone) = false) ∧
    (∃ (s : State) (e : RecErr) (source : Nat), 4 ≤ s.err.stack.length ∧ s.err.stack.any (fun x => recCode x.err == recCode e && x.source == source && x.fatal.isNone) = false) ∧
    (∃ (s : State) (e : RecErr) (source : Nat), s.err.stack.any (fun x => recCode x.err == recCode e && x.source == source && x.fatal.isNone) = true) ∧
    (∃ (s : State) (l : List StackEntry) (x : StackEntry) (ok : Bool), s.err.stack = l ++ [x] ∧ s.err.active = none ∧ ((recCode x.err ≠ 3 ∨ ok = true))) ∧
    (∃ (s : State) (index : Nat), index < s.err.stack.length) :=
  ⟨⟨tErr [tStk .cleanLine 1], .mergeBuffer, 1, by decide +kernel⟩,
   ⟨tErr [tStk .cleanLine 1, tStk .mergeBuffer 2, tStk .linkReplay 3, tStk .emramLate 4], .cleanLine, 9, by decide +kernel⟩,
   ⟨tErr [tStk .cleanLine 1], .cleanLine, 1, by decide +kernel⟩,
   ⟨tErr [tStk .cleanLine 1, tStk .mergeBuffer 2], [tStk .cleanLine 1], tStk .mergeBuffer 2, true, by decide +kernel⟩,
   ⟨tErr [tStk .cleanLine 1], 0, by decide +kernel⟩⟩

/-- The hypotheses of clauses of ErrorsAreStackedAndHandled can be met: fatalError, fatalRestart, errRestart. -/
theorem test_errors_are_stacked_and_handled_b :
    (∃ (s : State) (cause : Nat), 1 ≤ cause ∧ cause ≤ 8 ∧ s.err.active.isSome = true) ∧
    (∃ (s : State) (cause : Nat), 1 ≤ cause ∧ cause ≤ 7 ∧ s.err.active = none ∧ s.wc.dumpArea.isSome = true) ∧
    (∃ (s : State), s.err.active = none) ∧
    (∃ (s : State), s.err.active.isSome = true ∧ s.pwr.fast = .inReset ∧ ({ s with err := { s.err with active := none } } : State).canBoot = true) ∧
    (∃ (s : State), s.Takes Fld.ERR_CMD.CMD.addr ∧ s.bit Fld.ERR_STATUS.FATAL_HOLD = true ∧ (s.setBit Fld.ERR_STATUS.FATAL_HOLD false).canBoot = true) :=
  ⟨⟨{ tR with err := { tR.err with active := some 1 } }, 8, by decide +kernel⟩,
   ⟨{ tDumping tDirty .acFail with hfe := tH.hfe }, 7, by decide +kernel⟩,
   ⟨tR, by decide +kernel⟩,
   ⟨{ tP .inReset with err := { tR.err with active := some 1 } }, by decide +kernel⟩,
   ⟨(tP .inReset).setBit Fld.ERR_STATUS.FATAL_HOLD true, by decide +kernel⟩⟩

/-- The hypotheses of clauses of ErrorsAreStackedAndHandled can be met: errRestart, handlerEnd, handlerTimeout, fatalError. -/
theorem test_errors_are_stacked_and_handled_c :
    (∃ (s : State), s.Takes Fld.ERR_CMD.CMD.addr ∧ s.bit Fld.ERR_STATUS.FATAL_HOLD = false) ∧
    (∃ (s : State) (index : Nat) (ok : Bool), (s.err.stack.length ≤ index ∨ index + 1 ≠ s.err.stack.length ∨ s.err.active.isSome = true)) ∧
    (∃ (s : State) (l : List StackEntry) (x : StackEntry), s.err.stack = l ++ [x] ∧ s.err.active = none ∧ x.err = .emramLate) ∧
    (∃ (s : State) (index : Nat), s.err.stack.length ≤ index) ∧
    (∃ (s : State) (cause : Nat), (cause = 0 ∨ 8 < cause)) :=
  ⟨⟨tP .inReset, by decide +kernel⟩,
   ⟨tErr [tStk .cleanLine 1, tStk .mergeBuffer 2], 0, true, by decide +kernel⟩,
   ⟨tErr [tStk .cleanLine 1, tStk .emramLate 2], [tStk .cleanLine 1], tStk .emramLate 2, by decide +kernel⟩,
   ⟨tErr [tStk .cleanLine 1], 1, by decide +kernel⟩,
   ⟨tR, 9, by decide +kernel⟩⟩

/-- The hypotheses of clauses of ErrorsAreStackedAndHandled can be met: fatalError, fatalRestart. -/
theorem test_errors_are_stacked_and_handled_d :
    (∃ (s : State) (cause : Nat), 1 ≤ cause ∧ cause ≤ 7 ∧ s.err.active = none ∧ s.wc.dumpArea = none ∧ s.acFail = true) ∧
    (∃ (s : State) (cause : Nat), 1 ≤ cause ∧ cause ≤ 7 ∧ s.err.active = none ∧ s.wc.dumpArea = none ∧ s.bit Fld.HFE_STATUS.REPLAY_PENDING = true) ∧
    (∃ (s : State) (cause : Nat), 1 ≤ cause ∧ cause ≤ 7 ∧ s.err.active = none ∧ s.wc.dumpArea = none ∧ s.acFail = false ∧ s.areaReady.isSome = true ∧ s.wc.updates ≠ [] ∧ s.bit Fld.HFE_STATUS.REPLAY_PENDING = false) ∧
    (∃ (s : State), (s.err.active = none ∨ s.pwr.fast ≠ .inReset)) ∧
    (∃ (s : State), s.err.active.isSome = true ∧ s.pwr.fast = .inReset ∧ ({ s with err := { s.err with active := none } } : State).canBoot = false) :=
  ⟨⟨{ tDirty.setBit Fld.NRG_STATUS.AC_FAIL true with hfe := tH.hfe }, 7, by decide +kernel⟩,
   ⟨tDirty.setBit Fld.HFE_STATUS.REPLAY_PENDING true, 1, by decide +kernel⟩,
   ⟨tVault (tUp 4), 3, by decide +kernel⟩,
   ⟨tP .inReset, by decide +kernel⟩,
   ⟨{ (tP .running) with err := { tR.err with active := some 1 }, pwr := { (tP .inReset).pwr with fwOk := false } }, by decide +kernel⟩⟩

/-- The hypotheses of clauses of ErrorsAreStackedAndHandled can be met: errRestart, fatalError. -/
theorem test_errors_are_stacked_and_handled_e :
    (∃ (s : State), s.Takes Fld.ERR_CMD.CMD.addr ∧ s.bit Fld.ERR_STATUS.FATAL_HOLD = true ∧ (s.setBit Fld.ERR_STATUS.FATAL_HOLD false).canBoot = false) ∧
    (∃ (s : State) (cause : Nat), 1 ≤ cause ∧ cause ≤ 7 ∧ s.err.active = none ∧ s.wc.dumpArea = none ∧ s.areaReady = none) ∧
    (∃ (s : State) (cause : Nat), 1 ≤ cause ∧ cause ≤ 7 ∧ s.err.active = none ∧ s.wc.dumpArea = none ∧ s.dumpNeeded = false) :=
  ⟨⟨(({ tP .inReset with pwr := { (tP .inReset).pwr with fwOk := false } } : State)).setBit Fld.ERR_STATUS.FATAL_HOLD true, by decide +kernel⟩,
   ⟨tR, 3, by decide +kernel⟩,
   ⟨tR, 3, by decide +kernel⟩⟩

/-- The hypotheses of clauses of PowerStatesAndAgingTakeEffect can be met: quiescePoint, wake. -/
theorem test_power_states_and_aging_take_effect_a :
    (∃ (s : State), s.fld Fld.PWR_STATE.STATE = 4 ∧ s.quiet = true ∧ s.pwr.sysPending = false ∧ s.pwr.reversing = false ∧ s.fld Fld.PWR_STATE.TARGET = 2 ∧ s.pwr.waits = []) ∧
    (∃ (s : State), s.fld Fld.PWR_STATE.STATE = 4 ∧ s.drainBows.quiet = true ∧ s.pwr.sysPending = false ∧ s.pwr.reversing = false ∧ s.fld Fld.PWR_STATE.TARGET = 3 ∧ s.pwr.waits = []) ∧
    (∃ (s : State), s.fld Fld.PWR_STATE.STATE = 4 ∧ s.quiet = true ∧ s.pwr.sysPending = false ∧ s.pwr.reversing = true ∧ s.pwr.lastOp ≤ 1 ∧ s.pwr.waits = []) ∧
    (∃ (s : State), s.pwr.fast = .retained ∧ s.fld Fld.PWR_STATE.STATE = 2 ∧ s.acFail = false) ∧
    (∃ (s : State), s.fld Fld.PWR_STATE.STATE = 4 ∧ s.acFail = false) :=
  ⟨⟨tPwr .running 4 2, by decide +kernel⟩,
   ⟨tPwr .running 4 3, by decide +kernel⟩,
   ⟨{ tPwr .running 4 2 with pwr := { (tPwr .running 4 2).pwr with reversing := true, lastOp := 1 } }, by decide +kernel⟩,
   ⟨tPwr .retained 2 0, by decide +kernel⟩,
   ⟨tPwr .running 4 2, by decide +kernel⟩⟩

/-- The hypotheses of clauses of PowerStatesAndAgingTakeEffect can be met: exitComplete, hostLinkL12Exit, apstTransition, ageAccumulate, roMeasure. -/
theorem test_power_states_and_aging_take_effect_b :
    (∃ (s : State), s.fld Fld.PWR_STATE.STATE = 5 ∧ s.fastLocked = true ∧ s.pwr.railsOk = true ∧ s.pwr.sysPending = false ∧ s.pwr.waits = [] ∧ s.pwr.lastOp ≤ 1) ∧
    (∃ (s : State) (hp : HostPort), execHostLinkL12Exit.hostPortEnabled s hp = true ∧ s.pwr.fast = .gated ∧ s.fld Fld.PWR_STATE.STATE = 3 ∧ s.acFail = false) ∧
    (∃ (s : State) (fn : FnIdx) (e : Nat × Nat), s.apstEntry fn = e ∧ e.2 ≠ 0 ∧ (e.1 = 2 ∨ e.1 = 3) ∧ (tget (s.fn fn).feats 0x0C).getD 0 % 2 = 1 ∧ s.fld Fld.PWR_STATE.STATE ≤ 1 ∧ s.pwr.psRun = none ∧ s.pwr.fast = .running ∧ s.bit Fld.PWR_STATE.BOOTING = false ∧ s.acFail = false ∧ s.entryAllowed = true) ∧
    (∃ (s : State) (us : Nat), s.fingerboardOn = true ∧ us = s.age.micro + Config.agingFactorPpm s.tjDeci (s.fld Fld.PWR_AVS.STEP)) ∧
    (∃ (s : State) (slow : Nat), s.bit Fld.AGE_STATUS.MARGIN_OUT = false) :=
  ⟨⟨{ tPwr .retained 5 2 with pwr := { (tPwr .retained 5 2).pwr with railsOk := true } }, by decide +kernel⟩,
   ⟨({ tPwr .gated 3 0 with img := { tR.img with last := some tImg } } : State), 1, by decide +kernel⟩,
   ⟨{ tR with hfe := { tR.hfe with fns := [(0, { fnDisabled with feats := [(0x0C, 1)], apst := [24 + 256 * 100] })] } }, 0, (3, 100), by decide +kernel⟩,
   ⟨tR, tR.age.micro + Config.agingFactorPpm tR.tjDeci (tR.fld Fld.PWR_AVS.STEP), ⟨by decide +kernel, rfl⟩⟩,
   ⟨tR, 800, by decide +kernel⟩⟩

/-- The hypotheses of clauses of PowerStatesAndAgingTakeEffect can be met: quiescePoint, exitComplete. -/
theorem test_power_states_and_aging_take_effect_c :
    (∃ (s : State), s.fld Fld.PWR_STATE.STATE ≠ 4) ∧
    (∃ (s : State), s.fld Fld.PWR_STATE.STATE = 4 ∧ s.drainBows.quiet = false) ∧
    (∃ (s : State), s.fld Fld.PWR_STATE.STATE = 4 ∧ s.drainBows.quiet = true ∧ s.drainBows.pwr.sysPending = true ∧ s.bit Fld.HFE_STATUS.REPLAY_PENDING = true) ∧
    (∃ (s : State), s.fld Fld.PWR_STATE.STATE = 5 ∧ s.fastLocked = true ∧ s.pwr.railsOk = true ∧ s.pwr.sysPending = true ∧ s.pwr.waits = [] ∧ s.bit Fld.HFE_STATUS.REPLAY_PENDING = true) ∧
    (∃ (s : State), (s.fld Fld.PWR_STATE.STATE ≠ 5 ∨ s.fastLocked = false ∨ s.pwr.railsOk = false)) :=
  ⟨⟨tR, by decide +kernel⟩,
   ⟨{ tPwr .running 4 2 with wc := (tUp 4).wc }, by decide +kernel⟩,
   ⟨({ tPwr .running 4 3 with pwr := { (tPwr .running 4 3).pwr with sysPending := true } } : State).setBit Fld.HFE_STATUS.REPLAY_PENDING true, by decide +kernel⟩,
   ⟨({ tPwr .retained 5 2 with pwr := { (tPwr .retained 5 2).pwr with sysPending := true } } : State).setBit Fld.HFE_STATUS.REPLAY_PENDING true, by decide +kernel⟩,
   ⟨tR, by decide +kernel⟩⟩

/-- The hypotheses of clauses of PowerStatesAndAgingTakeEffect can be met: wake, hostLinkL12Exit. -/
theorem test_power_states_and_aging_take_effect_d :
    (∃ (s : State), s.pwr.fast = .gated ∧ s.fld Fld.PWR_STATE.STATE = 3 ∧ s.acFail = false) ∧
    (∃ (s : State), (s.acFail = true ∨ (s.fld Fld.PWR_STATE.STATE ≠ 4 ∧ s.fld Fld.PWR_STATE.STATE ≠ 2 ∧ s.fld Fld.PWR_STATE.STATE ≠ 3))) ∧
    (∃ (s : State), s.fld Fld.PWR_STATE.STATE ≠ 4 ∧ s.pwr.fast ≠ .retained ∧ s.pwr.fast ≠ .gated) ∧
    (∃ (s : State) (hp : HostPort), execHostLinkL12Exit.hostPortEnabled s hp = false) ∧
    (∃ (s : State) (hp : HostPort), execHostLinkL12Exit.hostPortEnabled s hp = true ∧ s.pwr.fast = .retained ∧ s.fld Fld.PWR_STATE.STATE = 2 ∧ s.acFail = false) :=
  ⟨⟨tPwr .gated 3 0, by decide +kernel⟩,
   ⟨tR, by decide +kernel⟩,
   ⟨tPwr .running 2 0, by decide +kernel⟩,
   ⟨({ tPwr .gated 3 0 with img := { tR.img with running := some { tImg with hostPorts := some ⟨⟨1, 0, 5, 16, 1⟩, ⟨0, 0, 5, 16, 1⟩, [], true⟩ } } } : State), 1, by decide +kernel⟩,
   ⟨({ tPwr .retained 2 0 with img := tR.img } : State), 1, by decide +kernel⟩⟩

/-- The hypotheses of clauses of PowerStatesAndAgingTakeEffect can be met: hostLinkL12Exit, apstTransition, ageAccumulate, roMeasure. -/
theorem test_power_states_and_aging_take_effect_e :
    (∃ (s : State) (hp : HostPort), execHostLinkL12Exit.hostPortEnabled s hp = true ∧ s.fld Fld.PWR_STATE.STATE = 4 ∧ s.acFail = false) ∧
    (∃ (s : State) (hp : HostPort), (s.acFail = true ∨ (s.fld Fld.PWR_STATE.STATE ≠ 4 ∧ s.fld Fld.PWR_STATE.STATE ≠ 2 ∧ s.fld Fld.PWR_STATE.STATE ≠ 3))) ∧
    (∃ (s : State) (fn : FnIdx), ((s.apstEntry fn).2 = 0 ∨ (s.apstEntry fn).1 < 2 ∨ 3 < (s.apstEntry fn).1 ∨ (tget (s.fn fn).feats 0x0C).getD 0 % 2 ≠ 1 ∨ 1 < s.fld Fld.PWR_STATE.STATE ∨ s.pwr.psRun.isSome = true ∨ s.pwr.fast ≠ .running ∨ s.bit Fld.PWR_STATE.BOOTING = true ∨ s.acFail = true ∨ s.entryAllowed = false)) ∧
    (∃ (s : State), s.fingerboardOn = false) ∧
    (∃ (s : State) (slow : Nat), s.bit Fld.AGE_STATUS.MARGIN_OUT = true) :=
  ⟨⟨({ tPwr .running 4 2 with img := tR.img } : State), 1, by decide +kernel⟩,
   ⟨tR, 0, by decide +kernel⟩,
   ⟨tR, 0, by decide +kernel⟩,
   ⟨tPwr .gated 3 0, by decide +kernel⟩,
   ⟨tR.setBit Fld.AGE_STATUS.MARGIN_OUT true, 800, by decide +kernel⟩⟩

/-! ### Hypotheses of the statements about every command, memory, the mapper and the registers -/

/-- A state whose HBM lists a byte and in which a channel moves data. -/
def tHbm : State := { tDma .move with sc := { (tDma .move).sc with hbm := [(8192, 7)] } }

/-- The hypotheses of StepRunsTheFrontCommand and AnEmptyQueueTicksTheClock can be met. -/
theorem test_an_empty_queue_ticks_the_clock :
    (∃ s : State, s.pending = [] ∧ s.bit Fld.PIT_STATUS.VALID = false) ∧
    ∃ s : State, s.pending = [] ∧ s.bit Fld.PIT_STATUS.VALID = true ∧ s.fed.slew = 0 :=
  ⟨⟨State.reset, by decide +kernel⟩, State.reset.setBit Fld.PIT_STATUS.VALID true, by decide +kernel⟩

/-- The hypotheses of CommandsTouchTheirPartsAlone can be met: some commands have a list of fields. -/
theorem test_commands_touch_their_parts_alone : ∃ (c : Instr) (l : List Field), fieldsOf c = some l ∧ l ≠ [] :=
  ⟨.railOutOfRange, _, rfl, by decide⟩

/-- The hypotheses of HbmBytesOutsideAStoreStay and StepKeepsCanonicalMemory can be met, with bytes listed. -/
theorem test_hbm_bytes_outside_a_store_stay :
    (∃ c : Instr, keepsHbm c = true) ∧ (∃ c : Instr, dropsDma c = true) ∧ (∃ s : State, s.Inv ∧ s.sc.hbm ≠ []) ∧
    (∃ (s : State) (line : Nat) (e : ScEntry), s.Inv ∧ s.sc.entry line = some e ∧ e.mask = 1) ∧
    (∃ (s : State) (a : Nat), s.Inv ∧ s.scInRange (a / 128) = false) ∧
    (∃ (s : State) (ch : ChId) (r : DmaRun), s.Inv ∧ tget s.dma.runs ch.val = some r ∧ r.phase = .move) ∧
    ∃ s t : State, s.Inv ∧ step s = .next t :=
  ⟨⟨.scPreload, rfl⟩, ⟨.powerDown, rfl⟩, ⟨tHbm, rfl, by decide⟩, ⟨tSc { tS0 with merge := [tEnt 5] }, 5, tEnt 5, rfl, by decide +kernel⟩,
   ⟨State.reset, 0, rfl, by decide +kernel⟩, ⟨tHbm, 64, tRun .move, rfl, by decide +kernel⟩, ⟨State.reset, _, rfl, rfl⟩⟩

/-- The hypotheses of ConventionalProgramMapsUnits can be met, at the last stripe, and the mapping is R65's by hand: stripe 63 of
four members has P on member 0, Q on 1 and data on 2 and 3. -/
theorem test_conventional_program_maps_units :
    (tGeom.prog = conventionalProg ∧ tGeom.n = tGeom.k + 2 ∧ tGeom.n < 2 ^ 63 ∧ 0 < tGeom.c ∧ 63 < tGeom.stripeCount ∧ 3 ≤ tGeom.k + 1 ∧
      63 * tGeom.c + tGeom.c ≤ tGeom.dataSectors ∧ tGeom.dataSectors < 2 ^ 64) ∧
    mapUnit tGeom false 63 0 = some (2, 1008) ∧ mapUnit tGeom false 63 1 = some (3, 1008) ∧ mapUnit tGeom false 63 2 = some (0, 1008) ∧
    mapUnit tGeom false 63 3 = some (1, 1008) := by decide +kernel

/-- A declustered geometry: 5 members, k = 2, periods of 5 stripes in 4 rows, with rows of the table turned by one member each. -/
def tDecl : Geom :=
  { tGeom with n := 5, layout := 1, c := 2, periodRows := 4, periodStripes := 5, stripeCount := 10, dataSectors := 16,
               prog := declusteredProg 5 0 5 4,
               tables := [⟨4, 5, [0, 1, 2, 3, 4, 1, 2, 3, 4, 0, 2, 3, 4, 0, 1, 3, 4, 0, 1, 2]⟩] }

/-- The hypotheses of DeclusteredProgramMapsUnits can be met at its last slot; by R66 stripe 9 is t = 4 of period 1, its unit 3 is slot 19, in
row 3 and column 4, on member PT[3][4] = 2, at chunk 7. -/
theorem test_declustered_program_maps_units :
    (∃ (g : Geom) (pt : MapTable) (x s u m : Nat), g.prog = declusteredProg g.n x g.periodStripes g.periodRows ∧ g.tables = [pt] ∧
      pt.rows = g.periodRows ∧ pt.cols = g.n ∧ g.k + 2 < 2 ^ 63 ∧ 0 < g.n ∧ g.n < 2 ^ 64 ∧ 0 < g.c ∧ 0 < g.periodStripes ∧
      g.periodStripes * (g.k + 2) ≤ g.n * g.periodRows ∧ g.n * g.periodRows < 2 ^ 64 ∧ s < g.stripeCount ∧ g.stripeCount < 2 ^ 64 ∧
      u ≤ g.k + 1 ∧ (s / g.periodStripes * g.periodRows + (s % g.periodStripes * (g.k + 2) + u) / g.n) * g.c + g.c ≤ g.dataSectors ∧
      g.dataSectors < 2 ^ 64 ∧ pt.entries[s % g.periodStripes * (g.k + 2) + u]? = some m ∧ m < g.n) ∧
    mapUnit tDecl false 9 3 = some (2, 14) :=
  ⟨⟨tDecl, ⟨4, 5, [0, 1, 2, 3, 4, 1, 2, 3, 4, 0, 2, 3, 4, 0, 1, 3, 4, 0, 1, 2]⟩, 0, 9, 3, 2, by decide +kernel⟩, by decide +kernel⟩

/-- The hypotheses of TwoLostUnitsAreSolved and ParityBytesAreTheSumsOfR71 can be met, with the example of R72: P, Q and the two bytes solved. -/
theorem test_two_lost_units_are_solved :
    (∃ (ds : List (BitVec 8)) (x y : Nat) (dx dy : BitVec 8), ds.length ≤ 46 ∧ x < y ∧ ds[x]? = some dx ∧ ds[y]? = some dy) ∧
    (∃ b : Nat, b < 4124) ∧ (∃ i j : Nat, i < 46 ∧ j < 46 ∧ gfExp i = gfExp j) ∧
    genP [0x11, 0x22, 0x33, 0x44] = 0x44 ∧ genQ [0x11, 0x22, 0x33, 0x44] = 0x83 ∧ solveDD 1 3 0x66 0x5E = (0x22, 0x44) :=
  ⟨⟨[0x11, 0x22, 0x33, 0x44], 1, 3, 0x22, 0x44, by decide⟩, ⟨4123, by decide⟩, ⟨45, 45, by decide +kernel⟩, by decide +kernel⟩

/-- The hypotheses of LanesEnterWithTheirInputs, LanesCheckTheirInputs and EmitChecksItsOutput can be met, at the ends of the ranges; a spare
entry with i = 0 is out of range where the program has no spare slots. -/
theorem test_lanes_check_their_inputs :
    (tArr.geom false = some tGeom ∧ 63 < tGeom.stripeCount ∧ 3 ≤ tGeom.k + 1 ∧ ¬ (64 < tGeom.stripeCount ∧ 0 ≤ tGeom.k + 1) ∧
      ¬ (63 < tGeom.stripeCount ∧ 4 ≤ tGeom.k + 1)) ∧
    (∃ (g : Geom) (p i : Nat), i < g.prog.spareSlots ∧ p < g.stripeCount / g.periodStripes) ∧
    (¬ (0 < tGeom.prog.spareSlots ∧ 0 < tGeom.stripeCount / tGeom.periodStripes)) ∧
    (∃ (g : Geom) (m o : Nat), 0 < g.c ∧ m < g.n ∧ ¬ (g.c ∣ o ∧ o + g.c ≤ g.dataSectors)) ∧
    ∃ (g : Geom) (m o : Nat), 0 < g.c ∧ m < g.n ∧ g.c ∣ o ∧ o + g.c ≤ g.dataSectors :=
  ⟨by decide, ⟨{ tDecl with prog := declusteredProg 5 1 5 4 }, 1, 4, by decide⟩, by decide, ⟨tGeom, 3, 8, by decide⟩, ⟨tGeom, 3, 1008, by decide⟩⟩

/-- The hypotheses of ArithmeticEdgeCases can be met: an overflowing sum, a shift by 64, a flag set before another instruction. -/
theorem test_arithmetic_edge_cases :
    (aluRun .add 0x7FFFFFFFFFFFFFFF 1 = ⟨0x8000000000000000, true, false⟩ ∧ aluRun .sra 0x8000000000000000 64 = ⟨0xFFFFFFFFFFFFFFFF, false, false⟩) ∧
    (∃ b : DWord, 64 ≤ b.toNat) ∧ (∃ (l : LaneSt) (ra : XReg), l.x ra = BitVec.intMin 64) ∧
    ∃ (ts : List MapTable) (l t : LaneSt) (i : FInstr), fStep ts l i = .go t ∧ i ≠ .clrf ∧ l.ov = true ∧ l.dz = true :=
  ⟨by decide, ⟨64, by decide⟩, ⟨⟨fun _ => BitVec.intMin 64, false, false, 0⟩, 0, rfl⟩,
   ⟨[], ⟨fun _ => 0, true, true, 0⟩, _, .jmp 3, rfl, by decide, rfl, rfl⟩⟩

/-- The hypotheses of PairWritesCommitTogether can be met: CIP_NONCE_WARN, by host port 0. -/
theorem test_pair_writes_commit_together :
    (∃ (s : State) (iface : Iface) (addr : Nat) (f : Field), s.managed = true ∧ rwPairAt addr = some f ∧ f.addr = addr ∧
      s.refuseWrite iface addr = 0) ∧
    (∃ (s : State) (iface : Iface) (addr : Nat) (f : Field), s.managed = true ∧ rwPairAt addr = some f ∧ f.addr + 4 = addr ∧
      s.refuseWrite iface addr = 0 ∧ s.pairOpen f = true) ∧
    ∃ (i j : Iface) (f : Field), latchKey f i = latchKey f j :=
  ⟨⟨tR, .host0, Fld.CIP_NONCE_WARN.addr, Fld.CIP_NONCE_WARN, by decide +kernel⟩,
   ⟨tR, .host0, Fld.CIP_NONCE_WARN.addr + 4, Fld.CIP_NONCE_WARN, by decide +kernel⟩, ⟨.smbus, .smbus, Fld.CIP_NONCE_WARN, rfl⟩⟩

/-- The hypotheses of FirmwareRegistersRefuseOthers can be met, and the ends of the ranges are on the right sides. -/
theorem test_firmware_registers_refuse_others :
    (∃ (s : State) (iface : Iface) (addr : Nat), s.managed = true ∧ s.refuseRead iface addr = 0 ∧ firmwareOwned addr = true ∧
      iface ≠ .firmware) ∧
    firmwareOwned (Fld.CH_CTRL.EN.at 63).addr = true ∧ firmwareOwned (Fld.CH_CTRL.EN.at 64).addr = false ∧
    firmwareOwned (Fld.CH_CTRL.EN.at 255).addr = false ∧ firmwareOwned (Fld.WIN_CTRL.EN.at 7).addr = true ∧
    firmwareOwned (Fld.WIN_CTRL.EN.at 8).addr = false :=
  ⟨⟨tR, .host0, Fld.CH_CTRL.EN.addr, by decide +kernel⟩, by decide +kernel⟩

/-! ### Words of the mapper's instructions, from the tables of R105 and R106 -/

/-- REMU x9, x0, x3 · SUB x10, x3, x9 · ADDI x10, x10, 1 · MUL x11, x0, x4 · EMIT x10, x11 (R105). -/
theorem test_words_of_the_conventional_program :
    fDecode 0x1A40C000 = some (.alu .remu 9 0 3) ∧ fDecode 0x0A8E4000 = some (.alu .sub 10 3 9) ∧
    fDecode 0x86A80001 = some (.alui .add 10 10 1) ∧ fDecode 0x0EC10000 = some (.alu .mul 11 0 4) ∧
    fDecode 0x5AAC0000 = some (.emit 10 11) := by decide +kernel

/-- DIVU x9, x0, x6 · TBL x14, x12, x13, table 0 · JMP 5 (R106); 0x0BADC0DE's opcode 2 with a bit set that must be zero is refused (R95). -/
theorem test_words_of_the_declustered_program :
    fDecode 0x16418000 = some (.alu .divu 9 0 6) ∧ fDecode 0xD7B34000 = some (.tbl 14 12 13 0) ∧ fDecode 0xDC000005 = some (.jmp 5) ∧
    fDecode 0x0BADC0DE = none := by decide +kernel

/-! ### Ill-formed operands, one for each check of WellFormed -/

/-- Identifiers, tags and namespaces outside their widths. -/
theorem test_ill_formed_identifiers :
    (Instr.rangeLockGrant 65536).wf = false ∧ (Instr.createIoSq 0 65536 1 ⟨2, true⟩ 1).wf = false ∧ (Instr.createIoCq 0 1 1 ⟨2, true⟩ 65536 true).wf = false ∧
    (Instr.identify 0 1 256 1).wf = false ∧ (Instr.identify 0 1 0 (2 ^ 32)).wf = false ∧ (Instr.getLogPage 0 1 2 128 4).wf = false ∧
    (Instr.nvmeRead 65536).wf = false ∧ (Instr.formatEnd (2 ^ 32)).wf = false := by decide +kernel

/-- Values outside the fields of a feature or a format. -/
theorem test_ill_formed_values :
    (Instr.setFeaturesPowerManagement 0 1 32).wf = false ∧ (Instr.formatNvm 0 1 1 8 ⟨0, 0, 0, 0⟩).wf = false ∧ (Instr.formatNvm 0 1 1 0 ⟨16, 0, 0, 0⟩).wf = false ∧
    (Instr.sanitizeOverwrite 0 1 0 16 true).wf = false ∧ (Instr.sanitizeOther 0 1 8).wf = false ∧ (Instr.ccEnable 0 4096 1).wf = false ∧
    (Instr.setFeaturesArbitration 0 1 (2 ^ 32)).wf = false := by decide +kernel

/-- Addresses, register values, masks and bytes outside their widths. -/
theorem test_ill_formed_addresses_and_bytes :
    (Instr.read32 (2 ^ 26)).wf = false ∧ (Instr.write32 0 (2 ^ 32)).wf = false ∧ (Instr.scWriteRequest 0 0 (2 ^ 128) 0).wf = false ∧
    (Instr.recallWriteBack 0 (2 ^ 1024)).wf = false ∧ (Instr.scLockWrite 65536).wf = false ∧ (Instr.dmaHalt 0 16).wf = false ∧
    (Instr.dmaGrant 0 [256]).wf = false ∧ (Instr.fanPinValid 0 1024).wf = false ∧ (Instr.roMeasure 65536).wf = false := by decide +kernel

/-! ### One step, by hand from the rules -/

/-- The example of R225: line address 0x0A_BCDE_F080 lies in set 0x1712, slice 2, with tag 0x2AF3; the next line in set 0x1711, slice 1. -/
theorem test_sets_of_the_stripe_cache :
    scSet (0x0ABCDEF080 / 128) = 0x1712 ∧ scSlice (0x0ABCDEF080 / 128) = 2 ∧ scTag (0x0ABCDEF080 / 128) = 0x2AF3 ∧
    scSet (0x0ABCDEF100 / 128) = 0x1711 ∧ scSlice (0x0ABCDEF100 / 128) = 1 := by decide +kernel

/-- A next state with a property. -/
def tOk (o : Out State) (p : State → Bool) : Bool :=
  match o with
  | .next t => p t
  | _ => false

/-- The example of R467: the LO word of WC_UPDATE_COUNT reads 0xFFFF_FFFF with 1 latched for the interface. -/
theorem test_a_pair_is_latched_whole :
    tOk (execPairLoRead .host0 Fld.WC_UPDATE_COUNT.addr (tR.setFld Fld.WC_UPDATE_COUNT 0x1FFFFFFFF))
      (fun t => t.answer == [0xFFFFFFFF] && tget t.latches (latchKey Fld.WC_UPDATE_COUNT .host0) == some 0x1FFFFFFFF) = true := by decide +kernel

/-- R312: firmware's write of CAPO_RENEW renews, a host's does nothing. -/
theorem test_only_firmware_renews :
    tOk (execCapoRenew .firmware { tR with now := 77 }) (fun t => t.capo.renewAt == 77) = true ∧
    tOk (execCapoRenew .host1 { tR with now := 77 }) (fun t => t.capo.renewAt == tR.capo.renewAt) = true := by decide +kernel

/-- R377: above 105 °C the throttle steps up, to 8 steps at most. -/
theorem test_the_throttle_stops_at_eight_steps :
    tOk (execThrottleClockStep (tTh 2 1060)) (fun t => t.therm.throttle == 1) = true ∧
    tOk (execThrottleClockStep { tTh 2 1060 with therm := { (tTh 2 1060).therm with throttle := 8 } }) (fun t => t.therm.throttle == 8) = true := by
  decide +kernel

/-- R445: the fifth error on the stack raises fatal cause 1, STACK_OVERFLOW. -/
theorem test_a_fifth_error_is_fatal :
    tOk (execRecoverableError .cleanLine 9 (tErr [tStk .mergeBuffer 1, tStk .mergeBuffer 2, tStk .mergeBuffer 3, tStk .mergeBuffer 4]))
      (fun t => t.err.raised == [1] && t.err.stack.length == 4) = true := by decide +kernel

/-- A merge-buffer drain writes the bytes its mask selects: byte 0 of line 5. -/
theorem test_a_drain_writes_masked_bytes :
    tOk (execMergeBufferDrain 5 (tSc { tS0 with merge := [tEnt 5] })) (fun t => t.sc.hbm == [(640, 0x55)]) = true := by decide +kernel

/-- A step takes the front of the queue and leaves the rest. -/
theorem test_a_step_takes_the_front :
    tOk (step { State.reset with pending := [.railOutOfRange, .alwaysOnPowerUp] })
      (fun t => t.pending == [.alwaysOnPowerUp] && !t.pwr.railsOk) = true := by decide +kernel

end Sys2Proof.Tests
end

/-!
What every command leaves as it was (O3, O4), and the register accesses of the hosts, of firmware and of SMBus (O41): the two frames are put
together from the laws of the commands, and the refusals, the reads of a word and the write of a field are said once each.
-/
namespace Sys2Proof.Machine

/-! ### The bus status that a refusal leaves (R457, R461, R469) -/

theorem busError_frame (s : State) (i : Iface) (reason addr : Nat) : ({ s.busError i reason addr with regs := s.regs } : State) = s := rfl

theorem busError_bit_err (s : State) (i : Iface) (reason addr : Nat) :
    (s.busError i reason addr).bit Fld.SYS_BUS_STATUS.ERR = true := by
  unfold State.busError
  rw [State.bit_setFld_ne _ _ _ _ (by decide), State.bit_setFld_ne _ _ _ _ (by decide), State.bit_setFld_ne _ _ _ _ (by decide),
    State.bit_setBit_same _ _ _ rfl]

theorem busError_iface (s : State) (i : Iface) (reason addr : Nat) :
    (s.busError i reason addr).fld Fld.SYS_BUS_STATUS.IFACE = ifaceBus i := by
  unfold State.busError
  rw [State.fld_setFld_ne _ _ _ _ (by decide), State.fld_setFld_ne _ _ _ _ (by decide), State.fld_setFld_same]
  cases i <;> rfl

theorem busError_reason (s : State) (i : Iface) (reason addr : Nat) (h : reason < 8) :
    (s.busError i reason addr).fld Fld.SYS_BUS_STATUS.REASON = reason := by
  unfold State.busError
  rw [State.fld_setFld_ne _ _ _ _ (by decide), State.fld_setFld_same]
  exact Nat.mod_eq_of_lt h

theorem busError_offset (s : State) (i : Iface) (reason addr : Nat) :
    (s.busError i reason addr).fld Fld.SYS_BUS_ADDR.OFFSET = addr % 2 ^ 26 := by
  unfold State.busError
  rw [State.fld_setFld_same]
  rfl

/-- The state after a refused command or read whose row names no interface: SYS_BUS_STATUS.IFACE is free (R461). -/
def State.refusedUnnamed (s : State) (reason addr : Nat) : State :=
  (s.used.busError .host0 reason addr).setFld Fld.SYS_BUS_STATUS.IFACE (s.free 2).toNat

theorem kept_State_refusedUnnamed (s : State) (reason addr : Nat) : Kept busFields s (s.refusedUnnamed reason addr) :=
  Kept.setFld rfl (Kept.step (kept_State_busError _ _ _ _) rfl (Kept.regs rfl Kept.refl))

/-- A refused command shows its reason and its register's address; only registers and the free values have changed. -/
theorem refusedUnnamed_spec (s : State) (reason addr : Nat) (hr : reason < 8) (ha : addr < 2 ^ 26) :
    (s.refusedUnnamed reason addr).bit Fld.SYS_BUS_STATUS.ERR = true ∧
    (s.refusedUnnamed reason addr).fld Fld.SYS_BUS_STATUS.REASON = reason ∧
    (s.refusedUnnamed reason addr).fld Fld.SYS_BUS_ADDR.OFFSET = addr ∧
    ({ s.refusedUnnamed reason addr with regs := s.regs, freeIx := s.freeIx } : State) = s := by
  unfold State.refusedUnnamed
  refine ⟨?_, ?_, ?_, ?_⟩
  · rw [State.bit_setFld_ne _ _ _ _ (by decide), busError_bit_err]
  · rw [State.fld_setFld_ne _ _ _ _ (by decide), busError_reason _ _ _ _ hr]
  · rw [State.fld_setFld_ne _ _ _ _ (by decide), busError_offset, Nat.mod_eq_of_lt ha]
  · exact congrArg (fun u : State => { u with freeIx := s.freeIx }) (busError_frame s.used .host0 reason addr)

/-- A refusal changes registers and the recorder's arrivals alone. -/
theorem refused_frame (s : State) (i : Iface) (reason addr : Nat) :
    ({ s.refused i reason addr with regs := s.regs, evr := s.evr } : State) = s := by
  have hb := congrArg (fun u : State => { u with evr := s.evr }) (busError_frame s i reason (addr % 2 ^ 26))
  simp only [State.refused]
  split
  · rfl
  · split <;> exact hb

/-- A refusal that is latched has the bus status of its interface, reason and address; one of reason 5 is recorded too. -/
theorem refused_regs (s : State) (i : Iface) (reason addr : Nat) (h0 : reason ≠ 0) (h4 : reason = 4 → i ≠ .smbus) :
    (s.refused i reason addr).regs = (s.busError i reason (addr % 2 ^ 26)).regs := by
  have h : ¬ (reason = 0 ∨ (reason = 4 ∧ i = .smbus)) := by tauto
  simp only [State.refused, if_neg h]
  split <;> rfl

theorem refused_latches_status (s : State) (i : Iface) (reason addr : Nat) (h0 : reason ≠ 0) (h4 : reason = 4 → i ≠ .smbus)
    (h : reason < 8) :
    (s.refused i reason addr).bit Fld.SYS_BUS_STATUS.ERR = true ∧ (s.refused i reason addr).fld Fld.SYS_BUS_STATUS.IFACE = ifaceBus i ∧
    (s.refused i reason addr).fld Fld.SYS_BUS_STATUS.REASON = reason ∧
    (s.refused i reason addr).fld Fld.SYS_BUS_ADDR.OFFSET = addr % 2 ^ 26 := by
  have e f := State.fld_of_regs _ _ f (refused_regs s i reason addr h0 h4)
  refine ⟨?_, ?_, ?_, ?_⟩
  · rw [State.bit, e]; exact busError_bit_err ..
  · rw [e, busError_iface]
  · rw [e, busError_reason _ _ _ _ h]
  · rw [e, busError_offset, Nat.mod_mod]

theorem refuseRead_lt (s : State) (i : Iface) (addr : Nat) : s.refuseRead i addr < 8 := by
  unfold State.refuseRead
  split_ifs <;> decide

theorem refuseWrite_lt (s : State) (i : Iface) (addr : Nat) : s.refuseWrite i addr < 8 := by
  have := refuseRead_lt s i addr
  simp only [State.refuseWrite]
  split_ifs <;> omega

/-! ### Register reads: the fields that they clear, and what they keep (R6, R464, R466) -/

/-- The register fields that a read clears (R6). -/
abbrev rcFields : List Field :=
  [Fld.LAT_C0_ISSUE_MAX.NS, Fld.LAT_C0_POST_MAX.NS, Fld.HFE_COLLECT_MAX.MAX_DEPTH, Fld.ERR_DEPTH_MAX.DEPTH]

theorem fieldTable_rc : ∀ f ∈ fieldTable, f.acc = .rc → f ∈ rcFields := by decide +kernel

/-- A field of the register at an address is an indexed field of the table at one of its numbers. -/
theorem fieldsAt_eq_at {addr : Nat} {f : Field} (h : f ∈ fieldsAt addr) : ∃ g ∈ fieldTable, ∃ i, f = g.at i := by
  obtain ⟨g, hg, hc⟩ := List.mem_filterMap.mp h
  refine ⟨g, hg, ?_⟩
  obtain ⟨-, hc⟩ := Option.ite_none_right_eq_some.mp hc
  exact ⟨_, (Option.some.inj hc).symm⟩

theorem fieldsAt_rc {addr : Nat} {f : Field} (h : f ∈ fieldsAt addr) (hrc : f.acc = .rc) : ∃ g ∈ rcFields, g.instOf f := by
  obtain ⟨g, hg, i, rfl⟩ := fieldsAt_eq_at h
  exact ⟨g, fieldTable_rc g hg hrc, g.instOf_at i⟩

theorem kept_State_clearRc (s : State) (addr : Nat) : Kept rcFields s (s.clearRc addr) := by
  refine List.foldlRecOn _ _ Kept.refl fun b hb f hf => ?_
  split
  · obtain ⟨g, hg, hi⟩ := fieldsAt_rc hf (by simpa using ‹(f.acc == .rc) = true›)
    exact Kept.setAny ⟨g, hg, hi⟩ hb
  · exact hb

theorem kept_State_readMulti (s : State) (i : Iface) (f : Field) (addr : Nat) : Kept [] s (s.readMulti i f addr).2 := by
  simp only [State.readMulti]
  split
  · exact Kept.regs rfl Kept.refl
  · exact Kept.refl

/-- A word of a pair or group that is read clears no field. -/
theorem kept_State_readWord_multi (s : State) (i : Iface) (addr : Nat) (f : Field)
    (h : (pairAt addr).orElse (fun _ => groupAt addr) = some f) : Kept [] s (s.readWord i addr).2 := by
  simp only [State.readWord, h]
  split
  · exact Kept.refl
  · exact kept_State_readMulti s i f addr

theorem kept_State_readWord (s : State) (i : Iface) (addr : Nat) : Kept rcFields s (s.readWord i addr).2 := by
  unfold State.readWord
  split
  · exact Kept.refl
  · split
    · exact (kept_State_readMulti s i _ addr).mono rfl
    · split
      · exact Kept.regs rfl Kept.refl
      · exact Kept.regs rfl (kept_State_clearRc s addr)

theorem kept_State_busRead (s : State) (i : Iface) (addr : Nat) (h : Kept busFields s (s.readWord i addr).2) :
    Kept busFields s (s.busRead i addr) := by
  simp only [State.busRead]
  split
  · exact Kept.regs rfl ((kept_State_refused s i _ addr).mono rfl)
  · exact Kept.regs rfl h

theorem kept_State_smbRead (s : State) (addr n : Nat) : Kept (busFields ++ rcFields) s (s.smbRead addr n) := by
  simp only [State.smbRead]
  split
  · exact Kept.regs rfl ((kept_State_refused s .smbus _ _).mono rfl)
  · refine Kept.regs rfl (Kept.foldlSnd (fun b a hb => ?_) Kept.refl)
    exact Kept.step (kept_State_readWord b.2 .smbus a) rfl hb

/-- A read of an RC field changes that field, or the bus status where it is refused. -/
theorem kept_State_readRc (s : State) (f g : Field) (hg : g.instOf f) : Kept (busFields ++ [g]) s (s.readRc f) := by
  unfold State.readRc
  split
  · exact Kept.refl
  · split
    · exact Kept.regs rfl (Kept.setAny ⟨g, by simp, hg⟩ Kept.refl)
    · exact Kept.regs rfl ((kept_State_refusedUnnamed s 4 f.addr).mono (by simp))

theorem kept_execLatC0IssueMaxRead (s : State) : KeptOut (busFields ++ [Fld.LAT_C0_ISSUE_MAX.NS]) s (execLatC0IssueMaxRead s) :=
  .next (kept_State_readRc s _ _ (Field.instOf_self _))

theorem kept_execLatC0PostMaxRead (s : State) : KeptOut (busFields ++ [Fld.LAT_C0_POST_MAX.NS]) s (execLatC0PostMaxRead s) :=
  .next (kept_State_readRc s _ _ (Field.instOf_self _))

theorem kept_execHfeCollectMaxRead (hp : HostPort) (s : State) :
    KeptOut (busFields ++ [Fld.HFE_COLLECT_MAX.MAX_DEPTH]) s (execHfeCollectMaxRead hp s) :=
  .next (kept_State_readRc s _ _ (Field.instOf_at _ _))

theorem kept_execErrDepthMaxRead (s : State) : KeptOut (busFields ++ [Fld.ERR_DEPTH_MAX.DEPTH]) s (execErrDepthMaxRead s) :=
  .next (kept_State_readRc s _ _ (Field.instOf_self _))

theorem kept_execPairLoRead (iface : Iface) (addr : Nat) (s : State) : KeptOut busFields s (execPairLoRead iface addr s) := by
  unfold execPairLoRead
  split
  next f hf =>
    refine KeptOut.ite (.next (kept_State_busRead s iface addr ?_)) (.next Kept.refl)
    exact (kept_State_readWord_multi s iface addr f (by rw [hf]; rfl)).mono rfl
  next => exact .next Kept.refl

theorem kept_execGroupWord0Read (iface : Iface) (addr : Nat) (s : State) : KeptOut busFields s (execGroupWord0Read iface addr s) := by
  unfold execGroupWord0Read
  split
  next f hf =>
    refine KeptOut.ite (.next (kept_State_busRead s iface addr ?_)) (.next Kept.refl)
    cases hp : pairAt addr with
    | none => exact (kept_State_readWord_multi s iface addr f (by rw [hp]; exact hf)).mono rfl
    | some g => exact (kept_State_readWord_multi s iface addr g (by rw [hp]; rfl)).mono rfl
  next => exact .next Kept.refl

/-- The LO word of a pair is held and sets no field (R465). -/
theorem kept_execPairLoWrite (iface : Iface) (addr value : Nat) (s : State) : KeptOut busFields s (execPairLoWrite iface addr value s) := by
  unfold execPairLoWrite
  split
  next f hf =>
    split
    next hc =>
      have ha : addr = f.addr := by simp_all
      refine .next ?_
      simp only [State.busWrite, hf, if_pos ha]
      split
      · exact (kept_State_refused s iface _ addr).mono rfl
      · exact (kept_State_holdLo s iface f value).mono rfl
    next => exact .next Kept.refl
  next => exact .next Kept.refl

theorem kept_execRead32 (addr : Nat) (s : State) : KeptOut (busFields ++ rcFields) s (execRead32 addr s) :=
  KeptOut.ite (.next (kept_State_smbRead s addr 1)) (.next Kept.refl)

theorem kept_execRead64 (addr : Nat) (s : State) : KeptOut (busFields ++ rcFields) s (execRead64 addr s) := by
  refine KeptOut.ite (.next Kept.refl) (KeptOut.ite (.next (kept_State_smbRead s addr 2)) (.next ?_))
  exact Kept.regs rfl ((kept_State_refused s .smbus 2 addr).mono rfl)

theorem kept_execReadBurst (addr count : Nat) (s : State) : KeptOut (busFields ++ rcFields) s (execReadBurst addr count s) := by
  refine KeptOut.ite (.next Kept.refl) (KeptOut.ite (.next (kept_State_smbRead s addr count)) (.next ?_))
  exact Kept.regs rfl ((kept_State_refused s .smbus 2 addr).mono rfl)

/-! ### Every command: the parts and the fields that it may change (R6, R467) -/

/-- An outcome keeps every register field outside a list, where a list is given. -/
def KeptBy (l : Option (List Field)) (s : State) (o : Out State) : Prop := ∀ fs, l = some fs → KeptOut fs s o

theorem KeptBy.unlisted {s : State} {o : Out State} : KeptBy none s o := nofun

theorem KeptBy.listed {fs : List Field} {s : State} {o : Out State} (k : KeptOut fs s o) : KeptBy (some fs) s o := by
  rintro _ ⟨⟩
  exact k

/-- Every command answers a next state in which at most the parts of its row of `partsOf` changed. -/
theorem onlyOut_exec (c : Instr) (s : State) : OnlyOut (partsOf c) s (exec c s) :=
  match c with
  | .acFailNAssert => only_execAcFailNAssert s
  | .acFailNDeassert => only_execAcFailNDeassert s
  | .dumpCommit => only_execDumpCommit s
  | .packCutoff pack temp => only_execPackCutoff pack temp s
  | .packTempRecover pack => only_execPackTempRecover pack s
  | .aonRstNAssert => only_execAonRstNAssert s
  | .pegboxStart fw vault rateMbps areaMib targets blockMib sampleA sampleB =>
      only_execPegboxStart fw vault rateMbps areaMib targets blockMib sampleA sampleB s
  | .pegboxWatchdogReset => only_execPegboxWatchdogReset s
  | .sysRstNAssert => only_execSysRstNAssert s
  | .sysRstNRelease => only_execSysRstNRelease s
  | .fastBootStart => only_execFastBootStart s
  | .bootHandover => only_execBootHandover s
  | .hostLinkReady => only_execHostLinkReady s
  | .imageCopyRewrite copy ok => only_execImageCopyRewrite copy ok s
  | .pllLock pll => only_execPllLock pll s
  | .pllLockTimeout pll => only_execPllLockTimeout pll s
  | .railOutOfRange => only_execRailOutOfRange s
  | .railRecovered => only_execRailRecovered s
  | .stageOpen iface => only_execStageOpen iface s
  | .stageVerify iface facts => only_execStageVerify iface facts s
  | .stageCommit iface => only_execStageCommit iface s
  | .activateLive iface => only_execActivateLive iface s
  | .activateReset iface => only_execActivateReset iface s
  | .activateResetDestaged => only_execActivateResetDestaged s
  | .stageAbort iface => only_execStageAbort iface s
  | .selectCopyA iface => only_execSelectCopyA iface s
  | .selectCopyB iface => only_execSelectCopyB iface s
  | .signingKeyEnrol iface st => only_execSigningKeyEnrol iface st s
  | .signingKeyRevoke iface st => only_execSigningKeyRevoke iface st s
  | .restoreFactory => only_execRestoreFactory s
  | .restorePrevious => only_execRestorePrevious s
  | .factoryCommit => only_execFactoryCommit s
  | .backgroundInitGroup a => only_execBackgroundInitGroup a s
  | .mappingDispatch req => only_execMappingDispatch req s
  | .mappingEmit lane => only_execMappingEmit lane s
  | .mappingStepLimit lane => only_execMappingStepLimit lane s
  | .testMappingGo => only_execTestMappingGo s
  | .doorbellWrite fn sq tail => only_execDoorbellWrite fn sq tail s
  | .cqHeadDoorbell fn cq head => only_execCqHeadDoorbell fn cq head s
  | .fetchGrant fn sq entries => only_execFetchGrant fn sq entries s
  | .rangeLockGrant tag => only_execRangeLockGrant tag s
  | .createIoSq fn cid qid mem cqid => only_execCreateIoSq fn cid qid mem cqid s
  | .createIoCq fn cid qid mem vector ien => only_execCreateIoCq fn cid qid mem vector ien s
  | .deleteIoSq fn cid qid => only_execDeleteIoSq fn cid qid s
  | .deleteIoCq fn cid qid => only_execDeleteIoCq fn cid qid s
  | .getLogPage fn cid lid lsp length => only_execGetLogPage fn cid lid lsp length s
  | .identify fn cid cns nsid => only_execIdentify fn cid cns nsid s
  | .abortCommand fn cid sqid target => only_execAbortCommand fn cid sqid target s
  | .setFeaturesNumberOfQueues fn cid nsq ncq => only_execSetFeaturesNumberOfQueues fn cid nsq ncq s
  | .setFeaturesPowerManagement fn cid ps => only_execSetFeaturesPowerManagement fn cid ps s
  | .setFeaturesQueueClass fn cid sqid cls => only_execSetFeaturesQueueClass fn cid sqid cls s
  | .setFeaturesProtectionWindow fn cid nsid index start count flags token =>
      only_execSetFeaturesProtectionWindow fn cid nsid index start count flags token s
  | .setFeaturesArbitration fn cid value => only_execSetFeaturesArbitration fn cid value s
  | .setFeaturesOther fn cid fid given => only_execSetFeaturesOther fn cid fid given s
  | .getFeatures fn cid fid arg => only_execGetFeatures fn cid fid arg s
  | .asynchronousEventRequest fn cid => only_execAsynchronousEventRequest fn cid s
  | .formatNvm fn cid nsid ses fmt => only_execFormatNvm fn cid nsid ses fmt s
  | .sanitizeOverwrite fn cid pattern passes invert => only_execSanitizeOverwrite fn cid pattern passes invert s
  | .sanitizeCryptoErase fn cid => only_execSanitizeCryptoErase fn cid s
  | .sanitizeOther fn cid sanact => only_execSanitizeOther fn cid sanact s
  | .invalidOpcodeCommand fn sq cid => only_execInvalidOpcodeCommand fn sq cid s
  | .formatWatermarkSave nsid => only_execFormatWatermarkSave nsid s
  | .formatEnd nsid => only_execFormatEnd nsid s
  | .sanitizeEnd => only_execSanitizeEnd s
  | .nvmeFlush tag => only_execNvmeFlush tag s
  | .nvmeWrite tag plain => only_execNvmeWrite tag plain s
  | .nvmeRead tag => only_execNvmeRead tag s
  | .writeZeroes tag => only_execWriteZeroes tag s
  | .datasetManagement tag => only_execDatasetManagement tag s
  | .nvmeVerify tag => only_execNvmeVerify tag s
  | .ccEnable fn asqs acqs => only_execCcEnable fn asqs acqs s
  | .functionReset fn kind => only_execFunctionReset fn kind s
  | .functionResetComplete fn => only_execFunctionResetComplete fn s
  | .perstNAssert hp => only_execPerstNAssert hp s
  | .perstNRelease hp => only_execPerstNRelease hp s
  | .memberCompletion port slot res => only_execMemberCompletion port slot res s
  | .completionPost hp => only_execCompletionPost hp s
  | .writePlaced tag => only_execWritePlaced tag s
  | .dirtyLimitAdmit => only_execDirtyLimitAdmit s
  | .dirtyLimitRecompute => only_execDirtyLimitRecompute s
  | .dirtyNamespaceSetAck nsid => only_execDirtyNamespaceSetAck nsid s
  | .dirtyNamespaceClear nsid => only_execDirtyNamespaceClear nsid s
  | .mirrorAck => only_execMirrorAck s
  | .mirrorLost => only_execMirrorLost s
  | .stripeUpdateStart a stripe => only_execStripeUpdateStart a stripe s
  | .dirtyAgeExpiry nsid lba => only_execDirtyAgeExpiry nsid lba s
  | .gatherExpiry a stripe => only_execGatherExpiry a stripe s
  | .stripeUpdateReadsDone id => only_execStripeUpdateReadsDone id s
  | .stripeUpdateContextSaved id => only_execStripeUpdateContextSaved id s
  | .fretSetAck id => only_execFretSetAck id s
  | .dataWritesDone id => only_execDataWritesDone id s
  | .parityWritesDone id => only_execParityWritesDone id s
  | .fretClear bit => only_execFretClear bit s
  | .fretClearAck bit => only_execFretClearAck bit s
  | .wcDestageAll => only_execWcDestageAll s
  | .wcClearIdle => only_execWcClearIdle s
  | .dumpRetire area => only_execDumpRetire area s
  | .areaEraseDone area => only_execAreaEraseDone area s
  | .vaultReplayStart => only_execVaultReplayStart s
  | .vaultReplayComplete => only_execVaultReplayComplete s
  | .reshapeUncleanRerun a => only_execReshapeUncleanRerun a s
  | .resyncScanStep a => only_execResyncScanStep a s
  | .katRun => only_execKatRun s
  | .katPeriodic => only_execKatPeriodic s
  | .katResult slice pass => only_execKatResult slice pass s
  | .slowWindowEval a m median reads => only_execSlowWindowEval a m median reads s
  | .slowFailExpiry a m => only_execSlowFailExpiry a m s
  | .rebuildStripe a => only_execRebuildStripe a s
  | .copybackUnit a => only_execCopybackUnit a s
  | .scrubPeriodStart a => only_execScrubPeriodStart a s
  | .scrubStripe a => only_execScrubStripe a s
  | .reshapeStep a => only_execReshapeStep a s
  | .arrScrubNow a => only_execArrScrubNow a s
  | .arrPause a => only_execArrPause a s
  | .arrResume a => only_execArrResume a s
  | .arrFailMember a m => only_execArrFailMember a m s
  | .arrCopyback a => only_execArrCopyback a s
  | .memberDeadline port slot => only_execMemberDeadline port slot s
  | .histClear => only_execHistClear s
  | .latC0IssueMaxRead => only_execLatC0IssueMaxRead s
  | .latC0PostMaxRead => only_execLatC0PostMaxRead s
  | .hfeCollectMaxRead hp => only_execHfeCollectMaxRead hp s
  | .errDepthMaxRead => only_execErrDepthMaxRead s
  | .pairLoRead iface addr => only_execPairLoRead iface addr s
  | .pairLoWrite iface addr value => only_execPairLoWrite iface addr value s
  | .pairHiWrite iface addr value => only_execPairHiWrite iface addr value s
  | .groupWord0Read iface addr => only_execGroupWord0Read iface addr s
  | .registerWrite iface addr value => only_execRegisterWrite iface addr value s
  | .scReadRequest req line word => only_execScReadRequest req line word s
  | .scFillReturn line ok => only_execScFillReturn line ok s
  | .scWriteRequest req line mask data => only_execScWriteRequest req line mask data s
  | .mergeBufferDrain line => only_execMergeBufferDrain line s
  | .hbmWriteAck line => only_execHbmWriteAck line s
  | .evictionBufferExpiry slice => only_execEvictionBufferExpiry slice s
  | .ownershipRequest pqs line => only_execOwnershipRequest pqs line s
  | .recallWriteBack line data => only_execRecallWriteBack line data s
  | .retryReissue pq line => only_execRetryReissue pq line s
  | .scMaintClean byWay => only_execScMaintClean byWay s
  | .scMaintInvalidate byWay => only_execScMaintInvalidate byWay s
  | .scMaintCleanInvalidate byWay => only_execScMaintCleanInvalidate byWay s
  | .scRangeClean => only_execScRangeClean s
  | .scRangeInvalidate => only_execScRangeInvalidate s
  | .scRangeCleanInvalidate => only_execScRangeCleanInvalidate s
  | .scPreload => only_execScPreload s
  | .scInvalidateWays => only_execScInvalidateWays s
  | .scRangeDone => only_execScRangeDone s
  | .scMaintDone => only_execScMaintDone s
  | .scLockWrite ways => only_execScLockWrite ways s
  | .evictPathSwitch path => only_execEvictPathSwitch path s
  | .scInitDone => only_execScInitDone s
  | .scEccError place corrected => only_execScEccError place corrected s
  | .dmaStart iface ch => only_execDmaStart iface ch s
  | .dmaTimer ch => only_execDmaTimer ch s
  | .dmaDescFetch ch bytes => only_execDmaDescFetch ch bytes s
  | .dmaGrant ch src => only_execDmaGrant ch src s
  | .dmaReadBack ch ok => only_execDmaReadBack ch ok s
  | .dmaBusError ch dest confirmed => only_execDmaBusError ch dest confirmed s
  | .dmaHalt ch code => only_execDmaHalt ch code s
  | .dmaDisable iface ch => only_execDmaDisable iface ch s
  | .dmaWinEnable iface win ctrl => only_execDmaWinEnable iface win ctrl s
  | .keySetOwner => only_execKeySetOwner s
  | .keyLoadBlob plain => only_execKeyLoadBlob plain s
  | .keyUnload => only_execKeyUnload s
  | .keyZeroizeAll => only_execKeyZeroizeAll s
  | .trngRestart => only_execTrngRestart s
  | .tamperRelease iface active => only_execTamperRelease iface active s
  | .tamperCfgLock value => only_execTamperCfgLock value s
  | .cipherMessageStart pick remaining => only_execCipherMessageStart pick remaining s
  | .cipherMessageDone pipe => only_execCipherMessageDone pipe s
  | .nonceMarkAck nsid => only_execNonceMarkAck nsid s
  | .trngStartupDone ok => only_execTrngStartupDone ok s
  | .trngBlockReady => only_execTrngBlockReady s
  | .trngHealthFail apt => only_execTrngHealthFail apt s
  | .entropyTimeout tag => only_execEntropyTimeout tag s
  | .tamperTrip src active => only_execTamperTrip src active s
  | .drivePresent port => only_execDrivePresent port s
  | .driveIdentified port d => only_execDriveIdentified port d s
  | .driveLinkLoss port gone => only_execDriveLinkLoss port gone s
  | .removalTimeout port => only_execRemovalTimeout port s
  | .spinupDelayExpiry port => only_execSpinupDelayExpiry port s
  | .spinupPluckTimeout port => only_execSpinupPluckTimeout port s
  | .spinupWaitExpiry port => only_execSpinupWaitExpiry port s
  | .memberCommandIssue port pick => only_execMemberCommandIssue port pick s
  | .memberTimeout port slot => only_execMemberTimeout port slot s
  | .escalationStepDone port => only_execEscalationStepDone port s
  | .escalationStepTimeout port => only_execEscalationStepTimeout port s
  | .healthPoll port => only_execHealthPoll port s
  | .portResetLink port => only_execPortResetLink port s
  | .portPowerCycle port => only_execPortPowerCycle port s
  | .portAccept port => only_execPortAccept port s
  | .portRelease port => only_execPortRelease port s
  | .portSpinupNow port => only_execPortSpinupNow port s
  | .capoSeenClass c => only_execCapoSeenClass c s
  | .readbackCheck same => only_execReadbackCheck same s
  | .gateOpen => only_execGateOpen s
  | .capoRenew iface => only_execCapoRenew iface s
  | .renewExpiry => only_execRenewExpiry s
  | .contentionTimeout => only_execContentionTimeout s
  | .contentionBackoffExpiry => only_execContentionBackoffExpiry s
  | .capoClaim => only_execCapoClaim s
  | .capoRelease => only_execCapoRelease s
  | .releaseComplete => only_execReleaseComplete s
  | .capoClearFault => only_execCapoClearFault s
  | .capoForceClaim iface => only_execCapoForceClaim iface s
  | .selftestNow failed => only_execSelftestNow failed s
  | .selftestCycle failed => only_execSelftestCycle failed s
  | .healthWordSend => only_execHealthWordSend s
  | .healthWordReceive h => only_execHealthWordReceive h s
  | .mirrorItemReceive item => only_execMirrorItemReceive item s
  | .mirrorDigestCheck differ => only_execMirrorDigestCheck differ s
  | .mirrorSyncComplete => only_execMirrorSyncComplete s
  | .standbyMirrorSilence => only_execStandbyMirrorSilence s
  | .pairRoleChoice partner => only_execPairRoleChoice partner s
  | .startupWaitExpiry => only_execStartupWaitExpiry s
  | .takeover => only_execTakeover s
  | .writeFenceEnd => only_execWriteFenceEnd s
  | .helloReceive link h => only_execHelloReceive link h s
  | .helloRetry => only_execHelloRetry s
  | .memberLeaveTimeout node => only_execMemberLeaveTimeout node s
  | .gmAnnounce => only_execGmAnnounce s
  | .gmElection cands => only_execGmElection cands s
  | .syncExchange offset delay link => only_execSyncExchange offset delay link s
  | .pitSet => only_execPitSet s
  | .pitSetAtPps => only_execPitSetAtPps s
  | .pitSetUtc => only_execPitSetUtc s
  | .pitResync => only_execPitResync s
  | .ppsInEdge => only_execPpsInEdge s
  | .ppsInLoss => only_execPpsInLoss s
  | .ppsOutSecond => only_execPpsOutSecond s
  | .pluckWrite => only_execPluckWrite s
  | .pluckWriteFed => only_execPluckWriteFed s
  | .pluckCancel => only_execPluckCancel s
  | .pluckCancelFed => only_execPluckCancelFed s
  | .pluckReceive m => only_execPluckReceive m s
  | .pluckAnswerReceive ans => only_execPluckAnswerReceive ans s
  | .pluckDistTimeout => only_execPluckDistTimeout s
  | .pluckCancelReceive origin id => only_execPluckCancelReceive origin id s
  | .pluckFire index => only_execPluckFire index s
  | .pluckEarlyWake index => only_execPluckEarlyWake index s
  | .writeBarrierDone index => only_execWriteBarrierDone index s
  | .gaugeEnergyCompute sampleA sampleB => only_execGaugeEnergyCompute sampleA sampleB s
  | .packRemoved pack => only_execPackRemoved pack s
  | .packPresent pack => only_execPackPresent pack s
  | .holdupSelftestStart pack => only_execHoldupSelftestStart pack s
  | .holdupSelftestStep mv ma => only_execHoldupSelftestStep mv ma s
  | .holdupRetestTimer pack => only_execHoldupRetestTimer pack s
  | .holdupTestAgeExpiry pack => only_execHoldupTestAgeExpiry pack s
  | .holdupStartupTest => only_execHoldupStartupTest s
  | .learnStart pack => only_execLearnStart pack s
  | .learnDischargeEnd pack => only_execLearnDischargeEnd pack s
  | .learnRestEnd pack => only_execLearnRestEnd pack s
  | .learnDisqualify pack why => only_execLearnDisqualify pack why s
  | .learnRetry pack => only_execLearnRetry pack s
  | .gaugeBlockWrite pack => only_execGaugeBlockWrite pack s
  | .nrgTest pack => only_execNrgTest pack s
  | .nrgLearn pack => only_execNrgLearn pack s
  | .learnAbort pack => only_execLearnAbort pack s
  | .nrgRetest pack => only_execNrgRetest pack s
  | .nrgSamePack pack => only_execNrgSamePack pack s
  | .vaultPatrol rateMbps wearPct dirOk => only_execVaultPatrol rateMbps wearPct dirOk s
  | .vaultPatrolNow rateMbps wearPct dirOk => only_execVaultPatrolNow rateMbps wearPct dirOk s
  | .thermalStateChange => only_execThermalStateChange s
  | .throttleClockStep => only_execThrottleClockStep s
  | .avsTimeout => only_execAvsTimeout s
  | .vddFbPowerCheck mw => only_execVddFbPowerCheck mw s
  | .fanListenEnd n rotor => only_execFanListenEnd n rotor s
  | .fanBrakeDone n ok => only_execFanBrakeDone n ok s
  | .fanWaitRecheck n rotor => only_execFanWaitRecheck n rotor s
  | .fanRampEnd drive locked rs ls => only_execFanRampEnd drive locked rs ls s
  | .fanAttemptFail n => only_execFanAttemptFail n s
  | .fanRetryTimer n => only_execFanRetryTimer n s
  | .fanOvercurrent drive => only_execFanOvercurrent drive s
  | .fanStall drive => only_execFanStall drive s
  | .fanClassChange drive rpm ke => only_execFanClassChange drive rpm ke s
  | .fanPinLoss n => only_execFanPinLoss n s
  | .fanPinValid n duty => only_execFanPinValid n duty s
  | .fanClearFault n => only_execFanClearFault n s
  | .fanRestart n => only_execFanRestart n s
  | .fanRelearn n => only_execFanRelearn n s
  | .eventRecord => only_execEventRecord s
  | .eventFreeze iface => only_execEventFreeze iface s
  | .eventUnfreeze iface => only_execEventUnfreeze iface s
  | .freezeTimeout => only_execFreezeTimeout s
  | .eventChallenge => only_execEventChallenge s
  | .challengeExpiry => only_execChallengeExpiry s
  | .lockoutEnd => only_execLockoutEnd s
  | .eventClear iface => only_execEventClear iface s
  | .eventAuthSet iface => only_execEventAuthSet iface s
  | .soundpostNow => only_execSoundpostNow s
  | .soundpostVaultCopy => only_execSoundpostVaultCopy s
  | .soundpostFlashCopy => only_execSoundpostFlashCopy s
  | .read32 addr => only_execRead32 addr s
  | .read64 addr => only_execRead64 addr s
  | .write32 addr value => only_execWrite32 addr value s
  | .lastStatus => only_execLastStatus s
  | .readBurst addr count => only_execReadBurst addr count s
  | .recoverableError e source => only_execRecoverableError e source s
  | .handlerEnd index ok => only_execHandlerEnd index ok s
  | .handlerTimeout index => only_execHandlerTimeout index s
  | .fatalError cause => only_execFatalError cause s
  | .fatalRestart => only_execFatalRestart s
  | .errRestart => only_execErrRestart s
  | .quiescePoint => only_execQuiescePoint s
  | .wake => only_execWake s
  | .exitComplete => only_execExitComplete s
  | .hostLinkL12Exit hp => only_execHostLinkL12Exit hp s
  | .apstTransition fn => only_execApstTransition fn s
  | .agingWriteback => only_execAgingWriteback s
  | .ageAccumulate => only_execAgeAccumulate s
  | .roMeasure slowX100 => only_execRoMeasure slowX100 s
  | .emramRefresh => only_execEmramRefresh s
  | .alwaysOnPowerUp => only_execAlwaysOnPowerUp s
  | .powerDown => only_execPowerDown s
  | .hotReset hp => only_execHotReset hp s
  | .coalescingTimeExpiry fn cq => only_execCoalescingTimeExpiry fn cq s
  | .ppsHoldoverExpiry => only_execPpsHoldoverExpiry s
  | .commitComplete ok => only_execCommitComplete ok s
  | .vaultRestoreDone => only_execVaultRestoreDone s
  | .temperatureSample sensors => only_execTemperatureSample sensors s

/-- Every command with a row of fields in `fieldsOf` keeps every register field outside it. -/
theorem keptBy_exec (c : Instr) (s : State) : KeptBy (fieldsOf c) s (exec c s) :=
  match c with
  | .acFailNAssert => KeptBy.unlisted
  | .acFailNDeassert => .listed (kept_execAcFailNDeassert s)
  | .dumpCommit => KeptBy.unlisted
  | .packCutoff pack temp => .listed (kept_execPackCutoff pack temp s)
  | .packTempRecover pack => .listed (kept_execPackTempRecover pack s)
  | .aonRstNAssert => KeptBy.unlisted
  | .pegboxStart _ _ _ _ _ _ _ _ => KeptBy.unlisted
  | .pegboxWatchdogReset => KeptBy.unlisted
  | .sysRstNAssert => KeptBy.unlisted
  | .sysRstNRelease => .listed (kept_execSysRstNRelease s)
  | .fastBootStart => .listed (kept_execFastBootStart s)
  | .bootHandover => .listed (kept_execBootHandover s)
  | .hostLinkReady => .listed (kept_execHostLinkReady s)
  | .imageCopyRewrite copy ok => .listed (kept_execImageCopyRewrite copy ok s)
  | .pllLock pll => .listed (kept_execPllLock pll s)
  | .pllLockTimeout pll => .listed (kept_execPllLockTimeout pll s)
  | .railOutOfRange => .listed (kept_execRailOutOfRange s)
  | .railRecovered => .listed (kept_execRailRecovered s)
  | .stageOpen iface => .listed (kept_execStageOpen iface s)
  | .stageVerify iface facts => .listed (kept_execStageVerify iface facts s)
  | .stageCommit iface => .listed (kept_execStageCommit iface s)
  | .activateLive iface => .listed (kept_execActivateLive iface s)
  | .activateReset iface => .listed (kept_execActivateReset iface s)
  | .activateResetDestaged => KeptBy.unlisted
  | .stageAbort iface => .listed (kept_execStageAbort iface s)
  | .selectCopyA iface => .listed (kept_execSelectCopyA iface s)
  | .selectCopyB iface => .listed (kept_execSelectCopyB iface s)
  | .signingKeyEnrol iface st => .listed (kept_execSigningKeyEnrol iface st s)
  | .signingKeyRevoke iface st => .listed (kept_execSigningKeyRevoke iface st s)
  | .restoreFactory => .listed (kept_execRestoreFactory s)
  | .restorePrevious => .listed (kept_execRestorePrevious s)
  | .factoryCommit => .listed (kept_execFactoryCommit s)
  | .backgroundInitGroup a => .listed (kept_execBackgroundInitGroup a s)
  | .mappingDispatch req => .listed (kept_execMappingDispatch req s)
  | .mappingEmit lane => .listed (kept_execMappingEmit lane s)
  | .mappingStepLimit lane => .listed (kept_execMappingStepLimit lane s)
  | .testMappingGo => .listed (kept_execTestMappingGo s)
  | .doorbellWrite fn sq tail => .listed (kept_execDoorbellWrite fn sq tail s)
  | .cqHeadDoorbell fn cq head => .listed (kept_execCqHeadDoorbell fn cq head s)
  | .fetchGrant fn sq entries => .listed (kept_execFetchGrant fn sq entries s)
  | .rangeLockGrant tag => .listed (kept_execRangeLockGrant tag s)
  | .createIoSq fn cid qid mem cqid => .listed (kept_execCreateIoSq fn cid qid mem cqid s)
  | .createIoCq fn cid qid mem vector ien => .listed (kept_execCreateIoCq fn cid qid mem vector ien s)
  | .deleteIoSq fn cid qid => .listed (kept_execDeleteIoSq fn cid qid s)
  | .deleteIoCq fn cid qid => .listed (kept_execDeleteIoCq fn cid qid s)
  | .getLogPage fn cid lid lsp length => .listed (kept_execGetLogPage fn cid lid lsp length s)
  | .identify fn cid cns nsid => .listed (kept_execIdentify fn cid cns nsid s)
  | .abortCommand fn cid sqid target => .listed (kept_execAbortCommand fn cid sqid target s)
  | .setFeaturesNumberOfQueues fn cid nsq ncq => .listed (kept_execSetFeaturesNumberOfQueues fn cid nsq ncq s)
  | .setFeaturesPowerManagement fn cid ps => .listed (kept_execSetFeaturesPowerManagement fn cid ps s)
  | .setFeaturesQueueClass fn cid sqid cls => .listed (kept_execSetFeaturesQueueClass fn cid sqid cls s)
  | .setFeaturesProtectionWindow fn cid nsid index start count flags token =>
      .listed (kept_execSetFeaturesProtectionWindow fn cid nsid index start count flags token s)
  | .setFeaturesArbitration fn cid value => .listed (kept_execSetFeaturesArbitration fn cid value s)
  | .setFeaturesOther fn cid fid given => .listed (kept_execSetFeaturesOther fn cid fid given s)
  | .getFeatures fn cid fid arg => .listed (kept_execGetFeatures fn cid fid arg s)
  | .asynchronousEventRequest fn cid => .listed (kept_execAsynchronousEventRequest fn cid s)
  | .formatNvm fn cid nsid ses fmt => .listed (kept_execFormatNvm fn cid nsid ses fmt s)
  | .sanitizeOverwrite fn cid pattern passes invert => .listed (kept_execSanitizeOverwrite fn cid pattern passes invert s)
  | .sanitizeCryptoErase fn cid => .listed (kept_execSanitizeCryptoErase fn cid s)
  | .sanitizeOther fn cid sanact => .listed (kept_execSanitizeOther fn cid sanact s)
  | .invalidOpcodeCommand fn sq cid => .listed (kept_execInvalidOpcodeCommand fn sq cid s)
  | .formatWatermarkSave nsid => .listed (kept_execFormatWatermarkSave nsid s)
  | .formatEnd nsid => .listed (kept_execFormatEnd nsid s)
  | .sanitizeEnd => .listed (kept_execSanitizeEnd s)
  | .nvmeFlush tag => .listed (kept_execNvmeFlush tag s)
  | .nvmeWrite tag plain => .listed (kept_execNvmeWrite tag plain s)
  | .nvmeRead tag => .listed (kept_execNvmeRead tag s)
  | .writeZeroes tag => .listed (kept_execWriteZeroes tag s)
  | .datasetManagement tag => .listed (kept_execDatasetManagement tag s)
  | .nvmeVerify tag => .listed (kept_execNvmeVerify tag s)
  | .ccEnable fn asqs acqs => .listed (kept_execCcEnable fn asqs acqs s)
  | .functionReset fn kind => .listed (kept_execFunctionReset fn kind s)
  | .functionResetComplete fn => .listed (kept_execFunctionResetComplete fn s)
  | .perstNAssert hp => .listed (kept_execPerstNAssert hp s)
  | .perstNRelease hp => .listed (kept_execPerstNRelease hp s)
  | .memberCompletion port slot res => .listed (kept_execMemberCompletion port slot res s)
  | .completionPost hp => .listed (kept_execCompletionPost hp s)
  | .writePlaced tag => .listed (kept_execWritePlaced tag s)
  | .dirtyLimitAdmit => .listed (kept_execDirtyLimitAdmit s)
  | .dirtyLimitRecompute => .listed (kept_execDirtyLimitRecompute s)
  | .dirtyNamespaceSetAck nsid => .listed (kept_execDirtyNamespaceSetAck nsid s)
  | .dirtyNamespaceClear nsid => .listed (kept_execDirtyNamespaceClear nsid s)
  | .mirrorAck => .listed (kept_execMirrorAck s)
  | .mirrorLost => .listed (kept_execMirrorLost s)
  | .stripeUpdateStart a stripe => .listed (kept_execStripeUpdateStart a stripe s)
  | .dirtyAgeExpiry nsid lba => .listed (kept_execDirtyAgeExpiry nsid lba s)
  | .gatherExpiry a stripe => .listed (kept_execGatherExpiry a stripe s)
  | .stripeUpdateReadsDone id => .listed (kept_execStripeUpdateReadsDone id s)
  | .stripeUpdateContextSaved id => .listed (kept_execStripeUpdateContextSaved id s)
  | .fretSetAck id => .listed (kept_execFretSetAck id s)
  | .dataWritesDone id => .listed (kept_execDataWritesDone id s)
  | .parityWritesDone id => .listed (kept_execParityWritesDone id s)
  | .fretClear bit => .listed (kept_execFretClear bit s)
  | .fretClearAck bit => .listed (kept_execFretClearAck bit s)
  | .wcDestageAll => .listed (kept_execWcDestageAll s)
  | .wcClearIdle => .listed (kept_execWcClearIdle s)
  | .dumpRetire area => .listed (kept_execDumpRetire area s)
  | .areaEraseDone area => .listed (kept_execAreaEraseDone area s)
  | .vaultReplayStart => .listed (kept_execVaultReplayStart s)
  | .vaultReplayComplete => .listed (kept_execVaultReplayComplete s)
  | .reshapeUncleanRerun a => .listed (kept_execReshapeUncleanRerun a s)
  | .resyncScanStep a => .listed (kept_execResyncScanStep a s)
  | .katRun => .listed (kept_execKatRun s)
  | .katPeriodic => .listed (kept_execKatPeriodic s)
  | .katResult slice pass => .listed (kept_execKatResult slice pass s)
  | .slowWindowEval a m median reads => .listed (kept_execSlowWindowEval a m median reads s)
  | .slowFailExpiry a m => .listed (kept_execSlowFailExpiry a m s)
  | .rebuildStripe a => .listed (kept_execRebuildStripe a s)
  | .copybackUnit a => .listed (kept_execCopybackUnit a s)
  | .scrubPeriodStart a => .listed (kept_execScrubPeriodStart a s)
  | .scrubStripe a => .listed (kept_execScrubStripe a s)
  | .reshapeStep a => .listed (kept_execReshapeStep a s)
  | .arrScrubNow a => .listed (kept_execArrScrubNow a s)
  | .arrPause a => .listed (kept_execArrPause a s)
  | .arrResume a => .listed (kept_execArrResume a s)
  | .arrFailMember a m => .listed (kept_execArrFailMember a m s)
  | .arrCopyback a => .listed (kept_execArrCopyback a s)
  | .memberDeadline port slot => .listed (kept_execMemberDeadline port slot s)
  | .histClear => .listed (kept_execHistClear s)
  | .latC0IssueMaxRead => .listed (kept_execLatC0IssueMaxRead s)
  | .latC0PostMaxRead => .listed (kept_execLatC0PostMaxRead s)
  | .hfeCollectMaxRead hp => .listed (kept_execHfeCollectMaxRead hp s)
  | .errDepthMaxRead => .listed (kept_execErrDepthMaxRead s)
  | .pairLoRead iface addr => .listed (kept_execPairLoRead iface addr s)
  | .pairLoWrite iface addr value => .listed (kept_execPairLoWrite iface addr value s)
  | .pairHiWrite _ _ _ => KeptBy.unlisted
  | .groupWord0Read iface addr => .listed (kept_execGroupWord0Read iface addr s)
  | .registerWrite _ _ _ => KeptBy.unlisted
  | .scReadRequest req line word => .listed (kept_execScReadRequest req line word s)
  | .scFillReturn line ok => .listed (kept_execScFillReturn line ok s)
  | .scWriteRequest req line mask data => .listed (kept_execScWriteRequest req line mask data s)
  | .mergeBufferDrain line => .listed (kept_execMergeBufferDrain line s)
  | .hbmWriteAck line => .listed (kept_execHbmWriteAck line s)
  | .evictionBufferExpiry slice => .listed (kept_execEvictionBufferExpiry slice s)
  | .ownershipRequest pqs line => .listed (kept_execOwnershipRequest pqs line s)
  | .recallWriteBack line data => .listed (kept_execRecallWriteBack line data s)
  | .retryReissue pq line => .listed (kept_execRetryReissue pq line s)
  | .scMaintClean byWay => .listed (kept_execScMaintClean byWay s)
  | .scMaintInvalidate byWay => .listed (kept_execScMaintInvalidate byWay s)
  | .scMaintCleanInvalidate byWay => .listed (kept_execScMaintCleanInvalidate byWay s)
  | .scRangeClean => .listed (kept_execScRangeClean s)
  | .scRangeInvalidate => .listed (kept_execScRangeInvalidate s)
  | .scRangeCleanInvalidate => .listed (kept_execScRangeCleanInvalidate s)
  | .scPreload => .listed (kept_execScPreload s)
  | .scInvalidateWays => .listed (kept_execScInvalidateWays s)
  | .scRangeDone => .listed (kept_execScRangeDone s)
  | .scMaintDone => .listed (kept_execScMaintDone s)
  | .scLockWrite ways => .listed (kept_execScLockWrite ways s)
  | .evictPathSwitch path => .listed (kept_execEvictPathSwitch path s)
  | .scInitDone => .listed (kept_execScInitDone s)
  | .scEccError place corrected => .listed (kept_execScEccError place corrected s)
  | .dmaStart iface ch => .listed (kept_execDmaStart iface ch s)
  | .dmaTimer ch => .listed (kept_execDmaTimer ch s)
  | .dmaDescFetch ch bytes => .listed (kept_execDmaDescFetch ch bytes s)
  | .dmaGrant ch src => .listed (kept_execDmaGrant ch src s)
  | .dmaReadBack ch ok => .listed (kept_execDmaReadBack ch ok s)
  | .dmaBusError ch dest confirmed => .listed (kept_execDmaBusError ch dest confirmed s)
  | .dmaHalt ch code => .listed (kept_execDmaHalt ch code s)
  | .dmaDisable iface ch => .listed (kept_execDmaDisable iface ch s)
  | .dmaWinEnable iface win ctrl => .listed (kept_execDmaWinEnable iface win ctrl s)
  | .keySetOwner => .listed (kept_execKeySetOwner s)
  | .keyLoadBlob plain => .listed (kept_execKeyLoadBlob plain s)
  | .keyUnload => .listed (kept_execKeyUnload s)
  | .keyZeroizeAll => .listed (kept_execKeyZeroizeAll s)
  | .trngRestart => .listed (kept_execTrngRestart s)
  | .tamperRelease iface active => .listed (kept_execTamperRelease iface active s)
  | .tamperCfgLock value => .listed (kept_execTamperCfgLock value s)
  | .cipherMessageStart pick remaining => .listed (kept_execCipherMessageStart pick remaining s)
  | .cipherMessageDone pipe => .listed (kept_execCipherMessageDone pipe s)
  | .nonceMarkAck nsid => .listed (kept_execNonceMarkAck nsid s)
  | .trngStartupDone ok => .listed (kept_execTrngStartupDone ok s)
  | .trngBlockReady => .listed (kept_execTrngBlockReady s)
  | .trngHealthFail apt => .listed (kept_execTrngHealthFail apt s)
  | .entropyTimeout tag => .listed (kept_execEntropyTimeout tag s)
  | .tamperTrip src active => .listed (kept_execTamperTrip src active s)
  | .drivePresent port => .listed (kept_execDrivePresent port s)
  | .driveIdentified port d => .listed (kept_execDriveIdentified port d s)
  | .driveLinkLoss port gone => .listed (kept_execDriveLinkLoss port gone s)
  | .removalTimeout port => .listed (kept_execRemovalTimeout port s)
  | .spinupDelayExpiry port => .listed (kept_execSpinupDelayExpiry port s)
  | .spinupPluckTimeout port => .listed (kept_execSpinupPluckTimeout port s)
  | .spinupWaitExpiry port => .listed (kept_execSpinupWaitExpiry port s)
  | .memberCommandIssue port pick => .listed (kept_execMemberCommandIssue port pick s)
  | .memberTimeout port slot => .listed (kept_execMemberTimeout port slot s)
  | .escalationStepDone port => .listed (kept_execEscalationStepDone port s)
  | .escalationStepTimeout port => .listed (kept_execEscalationStepTimeout port s)
  | .healthPoll port => .listed (kept_execHealthPoll port s)
  | .portResetLink port => .listed (kept_execPortResetLink port s)
  | .portPowerCycle port => .listed (kept_execPortPowerCycle port s)
  | .portAccept port => .listed (kept_execPortAccept port s)
  | .portRelease port => .listed (kept_execPortRelease port s)
  | .portSpinupNow port => .listed (kept_execPortSpinupNow port s)
  | .capoSeenClass c => .listed (kept_execCapoSeenClass c s)
  | .readbackCheck same => .listed (kept_execReadbackCheck same s)
  | .gateOpen => .listed (kept_execGateOpen s)
  | .capoRenew iface => .listed (kept_execCapoRenew iface s)
  | .renewExpiry => .listed (kept_execRenewExpiry s)
  | .contentionTimeout => .listed (kept_execContentionTimeout s)
  | .contentionBackoffExpiry => .listed (kept_execContentionBackoffExpiry s)
  | .capoClaim => .listed (kept_execCapoClaim s)
  | .capoRelease => .listed (kept_execCapoRelease s)
  | .releaseComplete => .listed (kept_execReleaseComplete s)
  | .capoClearFault => .listed (kept_execCapoClearFault s)
  | .capoForceClaim iface => .listed (kept_execCapoForceClaim iface s)
  | .selftestNow failed => .listed (kept_execSelftestNow failed s)
  | .selftestCycle failed => .listed (kept_execSelftestCycle failed s)
  | .healthWordSend => .listed (kept_execHealthWordSend s)
  | .healthWordReceive h => .listed (kept_execHealthWordReceive h s)
  | .mirrorItemReceive item => .listed (kept_execMirrorItemReceive item s)
  | .mirrorDigestCheck differ => .listed (kept_execMirrorDigestCheck differ s)
  | .mirrorSyncComplete => .listed (kept_execMirrorSyncComplete s)
  | .standbyMirrorSilence => .listed (kept_execStandbyMirrorSilence s)
  | .pairRoleChoice partner => .listed (kept_execPairRoleChoice partner s)
  | .startupWaitExpiry => .listed (kept_execStartupWaitExpiry s)
  | .takeover => .listed (kept_execTakeover s)
  | .writeFenceEnd => .listed (kept_execWriteFenceEnd s)
  | .helloReceive link h => .listed (kept_execHelloReceive link h s)
  | .helloRetry => .listed (kept_execHelloRetry s)
  | .memberLeaveTimeout node => .listed (kept_execMemberLeaveTimeout node s)
  | .gmAnnounce => .listed (kept_execGmAnnounce s)
  | .gmElection cands => .listed (kept_execGmElection cands s)
  | .syncExchange offset delay link => .listed (kept_execSyncExchange offset delay link s)
  | .pitSet => .listed (kept_execPitSet s)
  | .pitSetAtPps => .listed (kept_execPitSetAtPps s)
  | .pitSetUtc => .listed (kept_execPitSetUtc s)
  | .pitResync => .listed (kept_execPitResync s)
  | .ppsInEdge => .listed (kept_execPpsInEdge s)
  | .ppsInLoss => .listed (kept_execPpsInLoss s)
  | .ppsOutSecond => .listed (kept_execPpsOutSecond s)
  | .pluckWrite => .listed (kept_execPluckWrite s)
  | .pluckWriteFed => .listed (kept_execPluckWriteFed s)
  | .pluckCancel => .listed (kept_execPluckCancel s)
  | .pluckCancelFed => .listed (kept_execPluckCancelFed s)
  | .pluckReceive m => .listed (kept_execPluckReceive m s)
  | .pluckAnswerReceive ans => .listed (kept_execPluckAnswerReceive ans s)
  | .pluckDistTimeout => .listed (kept_execPluckDistTimeout s)
  | .pluckCancelReceive origin id => .listed (kept_execPluckCancelReceive origin id s)
  | .pluckFire index => .listed (kept_execPluckFire index s)
  | .pluckEarlyWake index => .listed (kept_execPluckEarlyWake index s)
  | .writeBarrierDone index => .listed (kept_execWriteBarrierDone index s)
  | .gaugeEnergyCompute sampleA sampleB => .listed (kept_execGaugeEnergyCompute sampleA sampleB s)
  | .packRemoved pack => .listed (kept_execPackRemoved pack s)
  | .packPresent pack => .listed (kept_execPackPresent pack s)
  | .holdupSelftestStart pack => .listed (kept_execHoldupSelftestStart pack s)
  | .holdupSelftestStep mv ma => .listed (kept_execHoldupSelftestStep mv ma s)
  | .holdupRetestTimer pack => .listed (kept_execHoldupRetestTimer pack s)
  | .holdupTestAgeExpiry pack => .listed (kept_execHoldupTestAgeExpiry pack s)
  | .holdupStartupTest => .listed (kept_execHoldupStartupTest s)
  | .learnStart pack => .listed (kept_execLearnStart pack s)
  | .learnDischargeEnd pack => .listed (kept_execLearnDischargeEnd pack s)
  | .learnRestEnd pack => .listed (kept_execLearnRestEnd pack s)
  | .learnDisqualify pack why => .listed (kept_execLearnDisqualify pack why s)
  | .learnRetry pack => .listed (kept_execLearnRetry pack s)
  | .gaugeBlockWrite pack => .listed (kept_execGaugeBlockWrite pack s)
  | .nrgTest pack => .listed (kept_execNrgTest pack s)
  | .nrgLearn pack => .listed (kept_execNrgLearn pack s)
  | .learnAbort pack => .listed (kept_execLearnAbort pack s)
  | .nrgRetest pack => .listed (kept_execNrgRetest pack s)
  | .nrgSamePack pack => .listed (kept_execNrgSamePack pack s)
  | .vaultPatrol rateMbps wearPct dirOk => .listed (kept_execVaultPatrol rateMbps wearPct dirOk s)
  | .vaultPatrolNow rateMbps wearPct dirOk => .listed (kept_execVaultPatrolNow rateMbps wearPct dirOk s)
  | .thermalStateChange => KeptBy.unlisted
  | .throttleClockStep => .listed (kept_execThrottleClockStep s)
  | .avsTimeout => .listed (kept_execAvsTimeout s)
  | .vddFbPowerCheck mw => .listed (kept_execVddFbPowerCheck mw s)
  | .fanListenEnd n rotor => .listed (kept_execFanListenEnd n rotor s)
  | .fanBrakeDone n ok => .listed (kept_execFanBrakeDone n ok s)
  | .fanWaitRecheck n rotor => .listed (kept_execFanWaitRecheck n rotor s)
  | .fanRampEnd drive locked rs ls => .listed (kept_execFanRampEnd drive locked rs ls s)
  | .fanAttemptFail n => .listed (kept_execFanAttemptFail n s)
  | .fanRetryTimer n => .listed (kept_execFanRetryTimer n s)
  | .fanOvercurrent drive => .listed (kept_execFanOvercurrent drive s)
  | .fanStall drive => .listed (kept_execFanStall drive s)
  | .fanClassChange drive rpm ke => .listed (kept_execFanClassChange drive rpm ke s)
  | .fanPinLoss n => .listed (kept_execFanPinLoss n s)
  | .fanPinValid n duty => .listed (kept_execFanPinValid n duty s)
  | .fanClearFault n => .listed (kept_execFanClearFault n s)
  | .fanRestart n => .listed (kept_execFanRestart n s)
  | .fanRelearn n => .listed (kept_execFanRelearn n s)
  | .eventRecord => .listed (kept_execEventRecord s)
  | .eventFreeze iface => .listed (kept_execEventFreeze iface s)
  | .eventUnfreeze iface => .listed (kept_execEventUnfreeze iface s)
  | .freezeTimeout => .listed (kept_execFreezeTimeout s)
  | .eventChallenge => .listed (kept_execEventChallenge s)
  | .challengeExpiry => .listed (kept_execChallengeExpiry s)
  | .lockoutEnd => .listed (kept_execLockoutEnd s)
  | .eventClear iface => .listed (kept_execEventClear iface s)
  | .eventAuthSet iface => .listed (kept_execEventAuthSet iface s)
  | .soundpostNow => .listed (kept_execSoundpostNow s)
  | .soundpostVaultCopy => .listed (kept_execSoundpostVaultCopy s)
  | .soundpostFlashCopy => .listed (kept_execSoundpostFlashCopy s)
  | .read32 addr => .listed (kept_execRead32 addr s)
  | .read64 addr => .listed (kept_execRead64 addr s)
  | .write32 _ _ => KeptBy.unlisted
  | .lastStatus => .listed (kept_execLastStatus s)
  | .readBurst addr count => .listed (kept_execReadBurst addr count s)
  | .recoverableError e source => .listed (kept_execRecoverableError e source s)
  | .handlerEnd index ok => .listed (kept_execHandlerEnd index ok s)
  | .handlerTimeout index => .listed (kept_execHandlerTimeout index s)
  | .fatalError _ => KeptBy.unlisted
  | .fatalRestart => .listed (kept_execFatalRestart s)
  | .errRestart => .listed (kept_execErrRestart s)
  | .quiescePoint => KeptBy.unlisted
  | .wake => .listed (kept_execWake s)
  | .exitComplete => KeptBy.unlisted
  | .hostLinkL12Exit hp => .listed (kept_execHostLinkL12Exit hp s)
  | .apstTransition fn => .listed (kept_execApstTransition fn s)
  | .agingWriteback => .listed (kept_execAgingWriteback s)
  | .ageAccumulate => .listed (kept_execAgeAccumulate s)
  | .roMeasure slowX100 => .listed (kept_execRoMeasure slowX100 s)
  | .emramRefresh => .listed (kept_execEmramRefresh s)
  | .alwaysOnPowerUp => KeptBy.unlisted
  | .powerDown => KeptBy.unlisted
  | .hotReset hp => .listed (kept_execHotReset hp s)
  | .coalescingTimeExpiry fn cq => .listed (kept_execCoalescingTimeExpiry fn cq s)
  | .ppsHoldoverExpiry => .listed (kept_execPpsHoldoverExpiry s)
  | .commitComplete ok => .listed (kept_execCommitComplete ok s)
  | .vaultRestoreDone => .listed (kept_execVaultRestoreDone s)
  | .temperatureSample _ => KeptBy.unlisted

theorem partsOf_pending (c : Instr) : (partsOf c).contains .pending = false := by cases c <;> rfl

/-- Settles O3: the queue is no part of any command's row of `partsOf`. -/
theorem everyCommandGoesOnAndLeavesTheQueue : Obligations.EveryCommandGoesOnAndLeavesTheQueue := by
  intro c s
  obtain ⟨t, ht, h⟩ := onlyOut_exec c s
  exact ⟨t, ht, h .pending (partsOf_pending c)⟩

/-- Settles O4: the two frames of every command hold of the one state that it answers. -/
theorem commandsTouchTheirPartsAlone : Obligations.CommandsTouchTheirPartsAlone := by
  intro c s
  obtain ⟨t, ht, h⟩ := onlyOut_exec c s
  refine ⟨t, ht, h, fun l hl => ?_⟩
  obtain ⟨u, hu, k⟩ := keptBy_exec c s l hl
  obtain rfl : t = u := by simpa [ht] using hu
  exact k

/-! ### Commands whose register takes no write (R461) -/

theorem command_unserved (s : State) (addr : Nat) (run : State → Out State) (h : s.servedNow addr = false) :
    s.command addr run = .next (s.refusedUnnamed 4 addr) := by
  simp only [State.command, h]
  rfl

theorem command_safeMode (s : State) (addr : Nat) (run : State → Out State) (h : s.servedNow addr = true) (hs : s.safeMode = true)
    (hf : fastServed addr = true) : s.command addr run = .next ((s.refusedUnnamed 5 addr).emit .safeModeIgnored [addr]) := by
  simp only [State.command, h, hs, hf]
  rfl

/-- A command with a register of its own is a write of that register. -/
theorem exec_of_commandRegister {c : Instr} {addr : Nat} (h : commandRegister c = some addr) (s : State) :
    ∃ run, exec c s = s.command addr run := by
  unfold commandRegister at h
  split at h <;> cases h
  all_goals
    dsimp only [exec]
    exact ⟨_, rfl⟩

/-- An indexed register's address at a number that it has. -/
theorem addr_at_lt {f : Field} {i n : Nat} (hi : i < f.count) (h : f.addr + f.count * f.stride < n) : (f.at i).addr < n := by
  have : i * f.stride ≤ f.count * f.stride := Nat.mul_le_mul_right _ hi.le
  simp only [Field.at, if_pos hi]
  omega

theorem commandRegister_lt {c : Instr} {addr : Nat} (h : commandRegister c = some addr) : addr < 2 ^ 26 := by
  unfold commandRegister at h
  split at h <;> cases h
  any_goals exact addr_at_lt (Fin.isLt _) (by decide)
  all_goals decide

/-! ### Reads over SMBus (R460, R464) -/

/-- The words at a list of addresses read by an interface one after another, with what the reads leave. -/
def State.readWords (s : State) (i : Iface) : List Nat → List Nat × State
  | [] => ([], s)
  | a :: r =>
    let x := s.readWord i a
    let y := x.2.readWords i r
    (x.1 :: y.1, y.2)

theorem readWords_length (s : State) (i : Iface) (l : List Nat) : (s.readWords i l).1.length = l.length := by
  induction l generalizing s with
  | nil => rfl
  | cons a r ih => simp [State.readWords, ih]

theorem foldl_readWord (s : State) (i : Iface) (l acc : List Nat) :
    l.foldl (fun (x : List Nat × State) a => (x.1 ++ [(x.2.readWord i a).1], (x.2.readWord i a).2)) (acc, s) =
      (acc ++ (s.readWords i l).1, (s.readWords i l).2) := by
  induction l generalizing s acc with
  | nil => simp [State.readWords]
  | cons a r ih => simp [State.readWords, ih]

/-- A read over SMBus of words none of which is refused answers status 0 and the words. -/
theorem smbRead_granted (s : State) (addr n : Nat) (h : ∀ k, k < n → s.refuseRead .smbus (addr + 4 * k) = 0) :
    (s.smbRead addr n).answer = 0 :: (s.readWords .smbus ((List.range n).map (fun k => addr + 4 * k))).1 := by
  have hf : ((List.range n).map (fun k => addr + 4 * k)).find? (fun a => s.refuseRead .smbus a ≠ 0) = none := by
    simpa [List.find?_eq_none] using h
  simp only [State.smbRead, hf, foldl_readWord]
  rfl

/-- A read over SMBus of a refused word shows the refusal. -/
theorem smbRead_one_refused (s : State) (addr : Nat) (h : s.refuseRead .smbus addr ≠ 0) :
    s.smbRead addr 1 = (s.refused .smbus (s.refuseRead .smbus addr) addr).answered [s.smbStatus (s.refuseRead .smbus addr), 0] := by
  simp [State.smbRead, h]

/-- Registers below 0x2_0000 are the hosts' (R111): an address that SMBus reads lies above them. -/
theorem le_of_refuseRead_smbus {s : State} {addr : Nat} (h : s.refuseRead .smbus addr = 0) : 0x20000 ≤ addr := by
  by_contra hlt
  have ha : s.assigned .smbus addr = false := by simp [State.assigned, Nat.lt_of_not_le hlt]
  simp only [State.refuseRead, ha] at h
  split_ifs at h
  simp_all

/-- A word of a register that is neither in a window nor in a pair or group. -/
theorem readWord_single (s : State) (i : Iface) (addr : Nat) (hw : s.windowWord addr = none) (hp : pairAt addr = none)
    (hg : groupAt addr = none) (ha : 0x20000 ≤ addr) : (s.readWord i addr).1 = s.regWord addr := by
  simp [State.readWord, hw, hp, hg, Nat.not_lt.mpr ha]

/-- A word of a pair. -/
theorem readWord_pair (s : State) (i : Iface) (addr : Nat) (f : Field) (hw : s.windowWord addr = none) (hp : pairAt addr = some f) :
    s.readWord i addr = s.readMulti i f addr := by
  simp [State.readWord, hw, hp]

/-- A window's words do not depend on what is latched. -/
theorem windowWord_latches (s : State) (l : Tbl Nat) (addr : Nat) :
    ({ s with latches := l } : State).windowWord addr = s.windowWord addr := rfl

/-- The two words of a pair read one after the other are those of one value (R464). -/
theorem readWords_pair (s : State) (i : Iface) (f : Field) (hp : pairAt f.addr = some f) (hq : pairAt (f.addr + 4) = some f)
    (hw : s.windowWord f.addr = none) (hv : s.windowWord (f.addr + 4) = none) :
    (s.readWords i [f.addr, f.addr + 4]).1 = [f.whole (s.shown f) % 2 ^ 32, f.whole (s.shown f) / 2 ^ 32 % 2 ^ 32] := by
  have h1 : s.readMulti i f f.addr =
      (f.whole (s.shown f) % 2 ^ 32, { s with latches := tput s.latches (latchKey f i) (f.whole (s.shown f)) }) := by
    simp [State.readMulti]
  simp only [State.readWords, readWord_pair s i _ f hw hp, h1]
  rw [readWord_pair _ i _ f ((windowWord_latches s _ _).trans hv) hq]
  simp [State.readMulti]

/-! ### Writes (R6, R242) -/

/-- A write of SC_PRELOAD_WAYS while no range command runs sets its field (R242). -/
theorem writeWord_preloadWays (s : State) (i : Iface) (value : Nat) (h : s.bit Fld.SC_RANGE_STATUS.BUSY = false) :
    (s.writeWord i Fld.SC_PRELOAD_WAYS.WAYS.addr value).fld Fld.SC_PRELOAD_WAYS.WAYS = value % 65536 := by
  have hc : s.runCommand i Fld.SC_PRELOAD_WAYS.WAYS.addr value = none := rfl
  have hf : fieldsAt Fld.SC_PRELOAD_WAYS.WAYS.addr = [Fld.SC_PRELOAD_WAYS.WAYS] := by decide +kernel
  have hw : s.writeWord i Fld.SC_PRELOAD_WAYS.WAYS.addr value = s.writeMixed Fld.SC_PRELOAD_WAYS.WAYS.addr value := by
    simp only [State.writeWord, hc, h]
    rfl
  have hm : s.writeMixed Fld.SC_PRELOAD_WAYS.WAYS.addr value =
      s.writeField Fld.SC_PRELOAD_WAYS.WAYS Fld.SC_PRELOAD_WAYS.WAYS.addr value := by
    simp only [State.writeMixed, State.writeFields, hf]
    rfl
  have hs : s.writeField Fld.SC_PRELOAD_WAYS.WAYS Fld.SC_PRELOAD_WAYS.WAYS.addr value =
      s.setFld Fld.SC_PRELOAD_WAYS.WAYS (value % 2 ^ 32 * 2 ^ (32 * 0) / 2 ^ 0 % 2 ^ 16) := rfl
  rw [hw, hm, hs, State.fld_setFld_same]
  simp only [Fld.SC_PRELOAD_WAYS.WAYS]
  omega

/-! ### The register accesses, by the core that answers them (R437, R460) -/

theorem execRegisterWrite_managed {s : State} (h : s.managed = true) (iface : Iface) (addr value : Nat) :
    execRegisterWrite iface addr value s = .next (s.busWrite iface addr value).2 := if_pos h

theorem execWrite32_managed {s : State} (h : s.managed = true) (addr value : Nat) :
    execWrite32 addr value s = .next { (s.busWrite .smbus addr value).2 with
      lastSmb := (s.busWrite .smbus addr value).2.smbStatus (s.busWrite .smbus addr value).1 } := by
  simp only [execWrite32, h]
  rfl

theorem execRead32_managed {s : State} (h : s.managed = true) (addr : Nat) : execRead32 addr s = .next (s.smbRead addr 1) := if_pos h

theorem execReadBurst_managed {s : State} (h : s.managed = true) (addr : Nat) {count : Nat} (h1 : 1 ≤ count) (h8 : count ≤ 8) :
    execReadBurst addr count s = .next (s.smbRead addr count) := by
  simp [execReadBurst, h, h1, h8]

/-- READ_BURST of no word or of more than 8 is refused for its width (R460). -/
theorem execReadBurst_tooLong {s : State} (h : s.managed = true) (addr : Nat) {count : Nat} (hc : count = 0 ∨ 8 < count) :
    execReadBurst addr count s = .next ((s.refused .smbus 2 addr).answered [5]) := by
  have hn : ¬ (1 ≤ count ∧ count ≤ 8) := by omega
  simp only [execReadBurst, h, if_neg hn]
  rfl

theorem execRead64_pair {s : State} (h : s.managed = true) {f : Field} (hp : pairAt f.addr = some f) :
    execRead64 f.addr s = .next (s.smbRead f.addr 2) := by
  simp [execRead64, h, hp]

/-- READ64 at an offset that is no LO word is refused for its width (R460). -/
theorem execRead64_noPair {s : State} (h : s.managed = true) {addr : Nat} (hp : (pairAt addr).map (·.addr) ≠ some addr)
    (hr : s.refuseRead .smbus addr = 0) : execRead64 addr s = .next ((s.refused .smbus 2 addr).answered [5, 0, 0]) := by
  cases ha : pairAt addr with
  | none => simp [execRead64, h, ha, hr]
  | some f =>
    have hne : f.addr ≠ addr := by simpa [ha] using hp
    simp [execRead64, h, ha, hr, hne]

/-- A read of an RC field leaves the state where the core does not answer. -/
theorem readRc_unmanaged {s : State} (h : s.managed = false) (f : Field) : s.readRc f = s := by
  simp [State.readRc, h]

theorem execPairLoRead_unmanaged {s : State} (h : s.managed = false) (iface : Iface) (addr : Nat) :
    execPairLoRead iface addr s = .next s := by
  unfold execPairLoRead
  split <;> simp [h]

theorem execGroupWord0Read_unmanaged {s : State} (h : s.managed = false) (iface : Iface) (addr : Nat) :
    execGroupWord0Read iface addr s = .next s := by
  unfold execGroupWord0Read
  split <;> simp [h]

theorem busWrite_refused {s : State} {i : Iface} {addr r : Nat} (value : Nat) (h : s.refuseWrite i addr = r) (hr : r ≠ 0) :
    s.busWrite i addr value = (r, s.refused i r addr) := by
  subst h
  exact if_pos hr

theorem busWrite_preloadWays {s : State} {i : Iface} (value : Nat) (h : s.refuseWrite i Fld.SC_PRELOAD_WAYS.WAYS.addr = 0) :
    s.busWrite i Fld.SC_PRELOAD_WAYS.WAYS.addr value = (0, s.writeWord i Fld.SC_PRELOAD_WAYS.WAYS.addr value) := by
  have hp : rwPairAt Fld.SC_PRELOAD_WAYS.WAYS.addr = none := by decide +kernel
  simp [State.busWrite, h, hp]

/-- What changed registers and free values alone changes the recorder too where an event is recorded. -/
theorem frame_emit {s t : State} (e : Ev) (p : List Nat) (h : ({ t with regs := s.regs, freeIx := s.freeIx } : State) = s) :
    ({ t.emit e p with regs := s.regs, freeIx := s.freeIx, evr := s.evr } : State) = s :=
  congrArg (fun u : State => { u with evr := s.evr }) h

/-- What changed registers and arrivals alone still does so with a last status. -/
theorem frame_with_lastSmb {s t : State} (x : Nat) (h : ({ t with regs := s.regs, evr := s.evr } : State) = s) :
    ({ ({ t with lastSmb := x } : State) with regs := s.regs, evr := s.evr, lastSmb := s.lastSmb } : State) = s :=
  congrArg (fun u : State => { u with lastSmb := s.lastSmb }) h

/-- The SMBus status of a refusal other than of a domain that is down: 4 unmapped, else 5 (R460). -/
theorem smbStatus_of_ne (s : State) {r : Nat} (h0 : r ≠ 0) (h4 : r ≠ 4) : s.smbStatus r = if r = 1 then 4 else 5 := by
  unfold State.smbStatus
  split <;> simp_all

/-- Settles O41: the bus status of a refusal, the words of a granted read and the one field of the write are each said by a lemma. -/
theorem registerWritesAndSmbusAccessesTakeEffect : Obligations.RegisterWritesAndSmbusAccessesTakeEffect := by
  refine ⟨?write, ?writeSmb, ?read, ?readPair, ?last, ?burst, ?unserved, ?safe, ?refusedWrite, ?refusedWriteSmb, ?refusedRead,
    ?noPair, ?noBurst, ?unmanaged⟩
  case write =>
    intro s iface value hm hr hb
    refine ⟨_, execRegisterWrite_managed hm .., ?_⟩
    rw [busWrite_preloadWays value hr]
    exact writeWord_preloadWays s iface value hb
  case writeSmb =>
    intro s value hm hr hb
    refine ⟨_, execWrite32_managed hm .., ?_⟩
    rw [busWrite_preloadWays value hr]
    exact ⟨(State.fld_of_regs _ _ _ rfl).trans (writeWord_preloadWays s .smbus value hb), rfl⟩
  case read =>
    intro s addr hm hr hw hp hg
    refine ⟨_, execRead32_managed hm .., ?_⟩
    simp [smbRead_granted s addr 1 (by simpa using hr), State.readWords, readWord_single s _ _ hw hp hg (le_of_refuseRead_smbus hr)]
  case readPair =>
    rintro s _ f hm hp hq rfl hr hr' hw hw'
    have ha := smbRead_granted s f.addr 2 (by rintro (_ | _ | k) hk; exacts [hr, hr', by omega])
    exact ⟨_, execRead64_pair hm hp, ha.trans (congrArg (0 :: ·) (readWords_pair s .smbus f hp hq hw hw'))⟩
  case last => exact fun s hm => ⟨_, if_pos hm, rfl⟩
  case burst =>
    intro s addr count hm h1 h8 hr
    refine ⟨_, execReadBurst_managed hm addr h1 h8, ?_⟩
    simp [smbRead_granted s addr count hr, readWords_length]
  case unserved =>
    intro s c a hc hs
    obtain ⟨run, e⟩ := exec_of_commandRegister hc s
    exact ⟨_, e.trans (command_unserved s a run hs), refusedUnnamed_spec s 4 a (by decide) (commandRegister_lt hc)⟩
  case safe =>
    intro s c a hc hs hm hf
    obtain ⟨run, e⟩ := exec_of_commandRegister hc s
    obtain ⟨herr, hreason, haddr, hrest⟩ := refusedUnnamed_spec s 5 a (by decide) (commandRegister_lt hc)
    exact ⟨_, e.trans (command_safeMode s a run hs hm hf), herr, hreason, haddr, frame_emit _ _ hrest⟩
  case refusedWrite =>
    intro s iface addr value r hm hr h0 h4
    refine ⟨_, execRegisterWrite_managed hm .., ?_⟩
    rw [busWrite_refused value hr h0]
    obtain ⟨herr, hif, hreason, haddr⟩ := refused_latches_status s iface r addr h0 h4 (hr ▸ refuseWrite_lt s iface addr)
    exact ⟨herr, hif, hreason, haddr, refused_frame s iface r addr⟩
  case refusedWriteSmb =>
    intro s addr value r hm hr h0
    refine ⟨_, execWrite32_managed hm .., ?_⟩
    rw [busWrite_refused value hr h0]
    exact ⟨rfl, frame_with_lastSmb _ (refused_frame s .smbus r addr)⟩
  case refusedRead =>
    intro s addr r hm hr h0 h4
    obtain ⟨-, hif, hreason, -⟩ := refused_latches_status s .smbus r addr h0 (absurd · h4) (hr ▸ refuseRead_lt s .smbus addr)
    refine ⟨_, (execRead32_managed hm addr).trans (congrArg _ (smbRead_one_refused s addr (hr.trans_ne h0))), ?_⟩
    subst hr
    exact ⟨congrArg (fun x => [x, 0]) (smbStatus_of_ne s h0 h4), hreason, hif⟩
  case noPair =>
    intro s addr hm hp hr
    obtain ⟨herr, -, hreason, -⟩ := refused_latches_status s .smbus 2 addr (by decide) (by decide) (by decide)
    exact ⟨_, execRead64_noPair hm hp hr, rfl, herr, hreason⟩
  case noBurst =>
    intro s addr count hm hc
    obtain ⟨herr, -, hreason, -⟩ := refused_latches_status s .smbus 2 addr (by decide) (by decide) (by decide)
    exact ⟨_, execReadBurst_tooLong hm addr hc, rfl, herr, hreason⟩
  case unmanaged =>
    intro s iface hp addr value c hm hc
    refine ⟨s, ?_, rfl⟩
    simp only [List.mem_cons, List.not_mem_nil, or_false] at hc
    rcases hc with rfl | rfl | rfl | rfl | rfl | rfl | rfl | rfl | rfl | rfl | rfl | rfl
    · exact if_neg (by simp [hm])
    · exact if_pos (by simp [hm])
    · exact if_neg (by simp [hm])
    · exact if_pos (by simp [hm])
    · exact if_neg (by simp [hm])
    · exact if_pos (by simp [hm])
    · exact execPairLoRead_unmanaged hm iface addr
    · exact execGroupWord0Read_unmanaged hm iface addr
    all_goals exact congrArg _ (readRc_unmanaged hm _)

end Sys2Proof.Machine

/-!
The mains input, always-on power, the Pegbox die's resets and the end of a dump (O22): what a command does before it looks at the power state
is a state of its own, with the parts and fields that it leaves; the starts and ends of a dump and the steps of a restore are said once each.
-/
namespace Sys2Proof.Machine

/-! ### Register fields that several operations leave as they are -/

/-- The listed register fields read the same in two states. -/
def SameFlds (fs : List Field) (s t : State) : Prop := ∀ f ∈ fs, t.fld f = s.fld f

theorem SameFlds.refl {fs : List Field} {s : State} : SameFlds fs s s := fun _ _ => rfl

theorem SameFlds.trans {fs : List Field} {s t u : State} (h : SameFlds fs s t) (k : SameFlds fs t u) : SameFlds fs s u :=
  fun f hf => (k f hf).trans (h f hf)

theorem SameFlds.mono {fs gs : List Field} {s t : State} (h : SameFlds fs s t) (hs : gs ⊆ fs) : SameFlds gs s t :=
  fun f hf => h f (hs hf)

theorem SameFlds.bit {fs : List Field} {s t : State} (h : SameFlds fs s t) {f : Field} (hf : f ∈ fs) : t.bit f = s.bit f := by
  rw [State.bit, h f hf]; rfl

theorem SameFlds.foldl {α : Type} {fs : List Field} {f : State → α → State} (hf : ∀ b x, SameFlds fs b (f b x)) (s : State)
    (xs : List α) : SameFlds fs s (xs.foldl f s) := by
  induction xs generalizing s with
  | nil => exact .refl
  | cons x xs ih => exact (hf s x).trans (ih _)

/-- Fields apart from all that an operation may change read the same after it. -/
theorem Kept.sameFlds {l : List Field} {s t : State} (k : Kept l s t) {fs : List Field}
    (h : fs.all (fun f => l.all (fun g => g.apart f)) = true) : SameFlds fs s t :=
  fun f hf => k.fld f (List.all_eq_true.mp h f hf)

/-! ### Parts that an operation leaves as they are -/

theorem Only.wc {l : List Part} {s t : State} (h : Only l s t) (hl : l.contains .wc = false) : t.wc = s.wc := h .wc hl

theorem Only.pwr {l : List Part} {s t : State} (h : Only l s t) (hl : l.contains .pwr = false) : t.pwr = s.pwr := h .pwr hl

theorem Only.cal {l : List Part} {s t : State} (h : Only l s t) (hl : l.contains .cal = false) : t.cal = s.cal := h .cal hl

theorem Only.vault {l : List Part} {s t : State} (h : Only l s t) (hl : l.contains .vault = false) : t.vault = s.vault := h .vault hl

theorem Only.sameFlds {l : List Part} {s t : State} (h : Only l s t) (hl : l.contains .regs = false) (fs : List Field) : SameFlds fs s t :=
  fun f _ => State.fld_of_regs s t f (h .regs hl)

theorem bit_withPwr (s : State) (p : Pwr) (f : Field) : ({ s with pwr := p } : State).bit f = s.bit f := rfl

theorem bit_withWc (s : State) (w : Wc) (f : Field) : ({ s with wc := w } : State).bit f = s.bit f := rfl

/-! ### The write cache where the gate closes and where tests end (R301, R311, R359) -/

/-- A port reset that no time-out asks for charges no command, and leaves the write cache. -/
theorem portResetCmds_none_wc (s : State) (p : PortId) : (s.portResetCmds p none).wc = s.wc := by
  simp only [State.portResetCmds, reduceCtorEq, decide_false, List.filter_false, List.foldl_nil]
  rw [(only_State_unholdTags _).wc rfl, (only_State_countSlots _ p).wc rfl, (only_State_putPort _ p _).wc rfl, State.incFld_wc]

theorem escalate_two_wc (s : State) (p : PortId) : (s.escalate p 2 none).wc = s.wc := by
  simp only [State.escalate, OfNat.ofNat_ne_one, Nat.reduceLeDiff, Nat.reduceEqDiff, if_true, if_false]
  rw [(only_State_setPortState _ p 5).wc rfl, (only_State_putPort _ p _).wc rfl, portResetCmds_none_wc, State.incFld_wc]

theorem gateAbort_wc (s : State) (p : PortId) : (s.gateAbort p).wc = s.wc := by
  unfold State.gateAbort
  dsimp only
  split
  · rfl
  · split
    · exact escalate_two_wc s p
    · rw [(only_State_unholdTags _).wc rfl, (only_State_countSlots _ p).wc rfl, (only_State_putPort _ p _).wc rfl, State.incFld_wc]

theorem closeGate_wc (s : State) : s.closeGate.wc = s.wc := by
  unfold State.closeGate
  split
  · exact List.foldlRecOn (motive := fun t : State => t.wc = s.wc) _ _ rfl fun b hb p _ => (gateAbort_wc b p).trans hb
  · rfl

theorem beginRelease_wc (s : State) (cause : Nat) : (s.beginRelease cause).wc = s.wc := closeGate_wc s

/-- An aborted test is not judged: no energy is computed, and the write cache stays. -/
theorem abortTest_wc (s : State) (p : PackId) : (s.abortTest p).wc = s.wc := by
  unfold State.abortTest
  split
  · simp only [State.endTest, if_true]
    rw [(only_State_showNrg _).wc rfl, (only_State_endNrgCmd _ p).wc rfl, State.setFld_wc, apply_ite State.wc,
      (only_State_setHoldup _ false).wc rfl, ite_self, (only_State_restoreEn _ _).wc rfl, (only_State_putPack _ p _).wc rfl]
  · rfl

/-! ### AC_FAIL_N asserted, up to what depends on the power state (R16, R163, R259, R315, R346, R359, R361, R463) -/

/-- The tests and the learning cycles of both packs ended as mains fails (R359, R361). -/
def State.endPackRuns (s : State) : State :=
  bothPacks.foldl (fun (st : State) p =>
    let st := st.abortTest p
    if (st.pack p).learn.isSome then st.endLearn p 7 else st) s

/-- Fetch stopped, counters and watermarks saved, DMA channels and barriers dropped, and a claim released, as mains fails (R136, R259, R315,
R346, R463). -/
def State.stopForMains (s : State) : State :=
  let s := (s.hold .acFail).saveCounters.saveMarks.dmaDropAll.dropBarriers
  if s.role = 3 then (s.beginRelease 1).sendHealth else s

/-- AC_FAIL_N_ASSERT up to what depends on the power state. -/
def State.failMains (s : State) : State :=
  ((s.setBit Fld.NRG_STATUS.AC_FAIL true).thaw.endPackRuns.setHoldup true).stopForMains

theorem execAcFailNAssert_of_mains {s : State} (h : s.acFail = false) :
    execAcFailNAssert s =
      if s.failMains.fld Fld.PWR_STATE.STATE = 3 then .next (s.failMains.emit .acFailSilence [])
      else
        let t := s.failMains.abandonTransition
        if t.pwr.fast ≠ .running ∨ t.bit Fld.PWR_STATE.BOOTING ∨ t.bit Fld.HFE_STATUS.REPLAY_PENDING ∨ t.safeMode = true then .next t
        else if t.wc.dumpArea.isSome then .next t
        else .next (t.dumpFor .acFail) := by
  unfold execAcFailNAssert
  rw [if_neg (by simp [h])]
  unfold State.failMains State.stopForMains State.endPackRuns
  dsimp only

/-- The fields that say whether a dump area is ready (R366). -/
abbrev areaFields : List Field :=
  [Fld.VLT_STATUS.PRESENT, Fld.VLT_STATUS.RATE_OK, Fld.VLT_AREA.STATE.at 0, Fld.VLT_AREA.STATE.at 1]

/-- The fields that AC_FAIL_N_ASSERT looks at once mains has been seen to fail. -/
abbrev mainsFields : List Field :=
  [Fld.NRG_STATUS.AC_FAIL, Fld.PWR_STATE.STATE, Fld.PWR_STATE.BOOTING, Fld.HFE_STATUS.REPLAY_PENDING, Fld.IMG_BOOT.SAFE_MODE] ++ areaFields

theorem endPackRuns_sameFlds (s : State) : SameFlds mainsFields s s.endPackRuns := by
  refine SameFlds.foldl (fun b p => SameFlds.trans ((kept_State_abortTest b p).sameFlds (by decide)) ?_) s _
  dsimp only
  split
  · exact (kept_State_endLearn _ p 7).sameFlds (by decide)
  · exact .refl

theorem endPackRuns_wc (s : State) : s.endPackRuns.wc = s.wc := by
  refine List.foldlRecOn (motive := fun t : State => t.wc = s.wc) _ _ rfl fun b hb p _ => ?_
  dsimp only
  split
  · rw [(only_State_endLearn _ p 7).wc rfl, abortTest_wc, hb]
  · rw [abortTest_wc, hb]

theorem endPackRuns_pwr (s : State) : s.endPackRuns.pwr = s.pwr := by
  refine List.foldlRecOn (motive := fun t : State => t.pwr = s.pwr) _ _ rfl fun b hb p _ => ?_
  dsimp only
  split
  · rw [(only_State_endLearn _ p 7).pwr rfl, (only_State_abortTest b p).pwr rfl, hb]
  · rw [(only_State_abortTest b p).pwr rfl, hb]

theorem stopForMains_sameFlds (s : State) : SameFlds (Fld.NRG_STATUS.HOLDUP_EN :: mainsFields) s s.stopForMains := by
  have h : SameFlds (Fld.NRG_STATUS.HOLDUP_EN :: mainsFields) s
      (s.hold .acFail).saveCounters.saveMarks.dmaDropAll.dropBarriers :=
    ((only_State_hold s _).sameFlds rfl _).trans <| ((only_State_saveCounters _).sameFlds rfl _).trans <|
      ((only_State_saveMarks _).sameFlds rfl _).trans <| ((kept_State_dmaDropAll _).sameFlds (by decide)).trans <|
        (kept_State_dropBarriers _).sameFlds (by decide)
  unfold State.stopForMains
  dsimp only
  split
  · exact h.trans (((kept_State_beginRelease _ 1).sameFlds (by decide)).trans ((only_State_sendHealth _).sameFlds rfl _))
  · exact h

theorem stopForMains_wc (s : State) : s.stopForMains.wc = s.wc := by
  have h : (s.hold .acFail).saveCounters.saveMarks.dmaDropAll.dropBarriers.wc = s.wc := by
    rw [(only_State_dropBarriers _).wc rfl, (only_State_dmaDropAll _).wc rfl, (only_State_saveMarks _).wc rfl,
      (only_State_saveCounters _).wc rfl, State.hold_wc]
  unfold State.stopForMains
  dsimp only
  split
  · rw [(only_State_sendHealth _).wc rfl, beginRelease_wc, h]
  · exact h

theorem stopForMains_pwr (s : State) : s.stopForMains.pwr = (s.hold .acFail).pwr := by
  have h : (s.hold .acFail).saveCounters.saveMarks.dmaDropAll.dropBarriers.pwr = (s.hold .acFail).pwr := by
    rw [(only_State_dropBarriers _).pwr rfl, (only_State_dmaDropAll _).pwr rfl, (only_State_saveMarks _).pwr rfl,
      (only_State_saveCounters _).pwr rfl]
  unfold State.stopForMains
  dsimp only
  split
  · rw [(only_State_sendHealth _).pwr rfl, (only_State_beginRelease _ 1).pwr rfl, h]
  · exact h

theorem failMains_sameFlds (s : State) : SameFlds mainsFields (s.setBit Fld.NRG_STATUS.AC_FAIL true) s.failMains :=
  ((kept_State_thaw _).sameFlds (by decide)).trans <| (endPackRuns_sameFlds _).trans <|
    ((kept_State_setHoldup _ true).sameFlds (by decide)).trans <| (stopForMains_sameFlds _).mono (List.subset_cons_self ..)

/-- What is looked at after mains has failed reads as before, but for AC_FAIL. -/
theorem failMains_fld (s : State) {f : Field} (hf : f ∈ mainsFields) (ha : f.key ≠ Fld.NRG_STATUS.AC_FAIL.key) :
    s.failMains.fld f = s.fld f :=
  (failMains_sameFlds s f hf).trans (State.fld_setBit_ne s _ f true ha)

theorem failMains_acFail (s : State) : s.failMains.acFail = true :=
  ((failMains_sameFlds s).bit (by decide)).trans (State.bit_setBit_same s _ true rfl)

theorem failMains_holdup (s : State) : s.failMains.bit Fld.NRG_STATUS.HOLDUP_EN = true :=
  ((stopForMains_sameFlds _).bit (by decide)).trans (State.bit_setBit_same _ _ true rfl)

theorem failMains_wc (s : State) : s.failMains.wc = s.wc := by
  rw [State.failMains, stopForMains_wc, (only_State_setHoldup _ true).wc rfl, endPackRuns_wc, (only_State_thaw _).wc rfl, State.setBit_wc]

theorem failMains_pwr (s : State) : s.failMains.pwr = (s.hold .acFail).pwr := by
  have h : ((s.setBit Fld.NRG_STATUS.AC_FAIL true).thaw.endPackRuns.setHoldup true).pwr = s.pwr := by
    rw [(only_State_setHoldup _ true).pwr rfl, endPackRuns_pwr, (only_State_thaw _).pwr rfl, State.setBit_pwr]
  rw [State.failMains, stopForMains_pwr, State.hold, h]
  rfl

theorem mem_hold_holds (s : State) (h : FetchHold) : h ∈ (s.hold h).pwr.holds := by
  simp only [State.hold]
  split
  · simpa using ‹s.pwr.holds.contains h = true›
  · simp

/-! ### A dump begun (R164) -/

theorem areaReady_of_sameFlds {s t : State} (h : SameFlds areaFields s t) : t.areaReady = s.areaReady := by
  have hs : ∀ i : Fin 2, t.fld (Fld.VLT_AREA.STATE.at i.val) = s.fld (Fld.VLT_AREA.STATE.at i.val) := by
    intro i
    fin_cases i <;> exact h _ (by simp)
  simp only [State.areaReady, h.bit (f := Fld.VLT_STATUS.PRESENT) (by simp), h.bit (f := Fld.VLT_STATUS.RATE_OK) (by simp), hs]

theorem startDump_ready {s : State} {i : Fin 2} (h : s.areaReady = some i) (why : DumpReason) :
    (s.startDump why).wc.dumpArea = some i.val ∧ (s.startDump why).wc.dumpWhy = some why ∧
    (s.startDump why).bit Fld.VLT_STATUS.DUMPING = true := by
  simp only [State.startDump, h]
  refine ⟨rfl, rfl, ?_⟩
  have k (u : State) : Kept [Fld.VLT_AREA.STATE, Fld.VLT_AREA.COMPLETE, Fld.VLT_AREA.CANCELLED] u
      (((u.setFld (Fld.VLT_AREA.STATE.at i.val) 1).setBit (Fld.VLT_AREA.COMPLETE.at i.val) false).setBit
        (Fld.VLT_AREA.CANCELLED.at i.val) false) :=
    Kept.setBitAt rfl (Kept.setBitAt rfl (Kept.setFldAt rfl Kept.refl))
  exact ((k _).bit _ (by decide)).trans (State.bit_setBit_same _ _ true rfl)

theorem dumpFor_ready {s : State} (h : s.areaReady.isSome = true) (why : DumpReason) :
    (s.dumpFor why).pwr = s.pwr ∧ (s.dumpFor why).wc.dumpWhy = some why ∧ (s.dumpFor why).bit Fld.VLT_STATUS.DUMPING = true := by
  obtain ⟨i, hi⟩ := Option.isSome_iff_exists.mp h
  have hr : s.scStopRange.areaReady = some i :=
    (areaReady_of_sameFlds ((kept_State_scStopRange s).sameFlds (by decide))).trans hi
  obtain ⟨harea, hwhy, hbit⟩ := startDump_ready hr why
  have hd : s.dumpFor why = s.scStopRange.startDump why := by simp [State.dumpFor, harea]
  rw [hd]
  exact ⟨((only_State_startDump _ why).pwr rfl).trans ((only_State_scStopRange s).pwr rfl), hwhy, hbit⟩

/-! ### AC_FAIL_N asserted in an operational state (R16, R163) -/

theorem abandonTransition_operational {s : State} (h : s.fld Fld.PWR_STATE.STATE ≤ 1) :
    s.abandonTransition = { s with wc := { s.wc with destageAll := false } } := by
  unfold State.abandonTransition
  dsimp only
  rw [if_neg (by omega), if_neg (by omega), if_neg (by omega)]

theorem failMains_areaReady (s : State) : s.failMains.areaReady = s.areaReady := by
  refine areaReady_of_sameFlds fun f hf => failMains_fld s (List.mem_append_right _ hf) ?_
  revert f
  decide

/-- In Full or Trim, with the fast domains running and no dump, mains failing begins one (R163). -/
theorem execAcFailNAssert_dumps {s : State} (ha : s.acFail = false) (hs : s.fld Fld.PWR_STATE.STATE ≤ 1) (hrun : s.pwr.fast = .running)
    (hboot : s.bit Fld.PWR_STATE.BOOTING = false) (hreplay : s.bit Fld.HFE_STATUS.REPLAY_PENDING = false) (hsafe : s.safeMode = false)
    (hd : s.wc.dumpArea = none) :
    ∃ u : State, execAcFailNAssert s = .next (u.dumpFor .acFail) ∧ u.pwr = (s.hold .acFail).pwr ∧ u.areaReady = s.areaReady := by
  have hbit : ∀ f ∈ mainsFields, f.key ≠ Fld.NRG_STATUS.AC_FAIL.key → s.failMains.bit f = s.bit f := by
    intro f hf hk
    rw [State.bit, failMains_fld s hf hk, ← State.bit]
  have hst : s.failMains.fld Fld.PWR_STATE.STATE ≤ 1 := (failMains_fld s (by decide) (by decide)).trans_le hs
  have hboot' := (hbit Fld.PWR_STATE.BOOTING (by decide) (by decide)).trans hboot
  have hreplay' := (hbit Fld.HFE_STATUS.REPLAY_PENDING (by decide) (by decide)).trans hreplay
  have hsafe' : s.failMains.safeMode = false := (hbit Fld.IMG_BOOT.SAFE_MODE (by decide) (by decide)).trans hsafe
  have hpwr := failMains_pwr s
  have hfast : s.failMains.pwr.fast = .running := by rw [hpwr]; exact hrun
  have hnone : s.failMains.wc.dumpArea = none := by rw [failMains_wc, hd]
  have harea := failMains_areaReady s
  rw [execAcFailNAssert_of_mains ha]
  generalize s.failMains = u at *
  refine ⟨{ u with wc := { u.wc with destageAll := false } }, ?_, hpwr, harea⟩
  rw [if_neg (by omega), abandonTransition_operational hst]
  refine (if_neg ?_).trans (if_neg ?_)
  · rintro (h | h | h | h)
    · exact h hfast
    · exact absurd (hboot'.symm.trans h) (by decide)
    · exact absurd (hreplay'.symm.trans h) (by decide)
    · exact absurd (hsafe'.symm.trans h) (by decide)
  · simp [hnone]

/-! ### A restore that is completed (R59, R151, R153, R154) -/

/-- The area of the running dump is the same in two states. A relation of states, as `Only` is, so that its steps compare states by the
operations that gave them and never unfold those. -/
def SameDumpArea (s t : State) : Prop := t.wc.dumpArea = s.wc.dumpArea

theorem SameDumpArea.refl {s : State} : SameDumpArea s s := rfl

theorem SameDumpArea.step {s t u : State} (k : SameDumpArea t u) (h : SameDumpArea s t) : SameDumpArea s u := Eq.trans k h

theorem Only.sameDumpArea {l : List Part} {s t u : State} (k : Only l t u) (hl : l.contains .wc = false) (h : SameDumpArea s t) :
    SameDumpArea s u :=
  SameDumpArea.step (congrArg Wc.dumpArea (k.wc hl)) h

theorem sameDumpArea_noteUnprot (s : State) : SameDumpArea s s.noteUnprot := by
  unfold State.noteUnprot
  extract_lets u
  have hu : SameDumpArea s u := by
    unfold u
    split
    · exact .refl
    · exact (only_State_incFld s _ _).sameDumpArea rfl .refl
  split
  · split
    · exact hu
    · exact (only_State_emit _ _ _).sameDumpArea rfl ((only_State_setBit _ _ _).sameDumpArea rfl hu)
  · exact (only_State_setBit _ _ _).sameDumpArea rfl hu

theorem sameDumpArea_computeEnergy (s : State) : SameDumpArea s s.computeEnergy := by
  unfold State.computeEnergy
  dsimp only
  refine .step (sameDumpArea_noteUnprot _) ?_
  iterate 5 refine (only_State_setFld _ _ _).sameDumpArea rfl ?_
  exact (only_State_showNrg s).sameDumpArea rfl .refl

theorem sameDumpArea_noteThrough (s : State) : SameDumpArea s s.noteThrough := by
  have h (u : State) (h : SameDumpArea s u) (b : Bool) (p : List Nat) :
      SameDumpArea s ((u.setBit Fld.WC_STATUS.WRITE_THROUGH b).emit .writeThroughChange p) :=
    (only_State_emit _ _ _).sameDumpArea rfl ((only_State_setBit _ _ _).sameDumpArea rfl h)
  unfold State.noteThrough
  dsimp only
  split_ifs
  · exact h _ .refl _ _
  · exact .refl
  · refine h _ ?_ _ _
    exact .refl
  · exact .refl

theorem sameDumpArea_recomputeLimit (s : State) : SameDumpArea s s.recomputeLimit := by
  unfold State.recomputeLimit State.noteLimit
  dsimp only
  refine .step (sameDumpArea_noteUnprot _) ((only_State_setBit _ _ _).sameDumpArea rfl (.step (sameDumpArea_noteThrough _) ?_))
  refine (only_State_setBit _ _ _).sameDumpArea rfl ?_
  iterate 4 refine (only_State_setFld _ _ _).sameDumpArea rfl ?_
  exact .refl

/-- The packs' learned values as a restore loads them (R60). -/
def State.loadPacks (s : State) : State :=
  bothPacks.foldl (fun (st : State) p =>
    let x := st.pack p
    let load := x.test.isSome && x.loadStep
    st.putPack p { x with learned := st.learnedFromCal p, learn := none, loadStep := load, writeDue := false }) s

theorem only_loadPacks (s : State) : Only [.nrg] s s.loadPacks :=
  Only.foldl (fun _ _ hb => Only.step (only_State_putPack _ _ _) rfl hb) Only.refl

theorem loadRestored_eq (s : State) :
    s.loadRestored = s.loadPacks.loadTrims.computeEnergy.recomputeLimit.computeEnergy := rfl

theorem sameDumpArea_loadRestored (s : State) : SameDumpArea s s.loadRestored := by
  rw [loadRestored_eq]
  refine .step (sameDumpArea_computeEnergy _) (.step (sameDumpArea_recomputeLimit _) (.step (sameDumpArea_computeEnergy _) ?_))
  exact (only_State_loadTrims _).sameDumpArea rfl ((only_loadPacks s).sameDumpArea rfl .refl)

/-- Restored values that are loaded change the trims in use, no set and not the journal (R60). -/
theorem loadRestored_cal (s : State) : ∃ x, s.loadRestored.cal = { s.cal with trims := x } := by
  rw [loadRestored_eq, (only_State_computeEnergy _).cal rfl, (only_State_recomputeLimit _).cal rfl, (only_State_computeEnergy _).cal rfl,
    State.loadTrims, (only_loadPacks s).cal rfl]
  exact ⟨_, rfl⟩

theorem restoreStep_last (s : State) (op : CalOp) {k : Nat} (h : 5 ≤ k) :
    s.restoreStep op k = (s.showCal.emit .calRestored [calDigest s.cal.previous, calDigest s.cal.user]).loadRestored := by
  unfold State.restoreStep
  dsimp only
  split
  case h_7 => with_reducible rfl
  all_goals omega

theorem restoreStep_five_cal (s : State) (op : CalOp) : ∃ x, (s.restoreStep op 5).cal = { s.cal with trims := x } := by
  obtain ⟨x, hx⟩ := loadRestored_cal (s.showCal.emit .calRestored [calDigest s.cal.previous, calDigest s.cal.user])
  rw [restoreStep_last s op le_rfl, hx, State.emit_cal, (only_State_showCal s).cal rfl]
  exact ⟨x, rfl⟩

theorem sameDumpArea_restoreStep (s : State) (op : CalOp) (k : Nat) : SameDumpArea s (s.restoreStep op k) := by
  unfold State.restoreStep
  dsimp only
  split
  case h_7 =>
    exact .step (sameDumpArea_loadRestored _) ((only_State_emit _ _ _).sameDumpArea rfl ((only_State_showCal s).sameDumpArea rfl .refl))
  all_goals exact .refl

/-- The set that a restore puts into use. -/
def CalOp.source (op : CalOp) (c : Cal) : Tbl CalBlock :=
  match op with
  | .restoreFactory => c.factory
  | .restorePrevious => c.previous

/-- The steps of a restore between its journal entry and its event move the sets and clear the journal (R59). -/
theorem restoreStep_moves (s : State) (op : CalOp) :
    (((s.restoreStep op 2).restoreStep op 3).restoreStep op 4).cal =
      { s.cal with journal := none, previous := s.cal.user, user := op.source s.cal } := by
  cases op <;> rfl

/-- Five numbered steps, run from the first or the second on. -/
theorem foldl_five_steps {α : Type} (f : α → Nat → α) (a : α) {k : Nat} (hk : k ≤ 1) :
    (List.range 5).foldl (fun b i => if k ≤ i ∧ i < 5 then f b (i + 1) else b) a =
      f (f (f (f (if k = 0 then f a 1 else a) 2) 3) 4) 5 := by
  obtain rfl | rfl : k = 0 ∨ k = 1 := by omega
  · rfl
  · rfl

theorem runRestore_steps (s : State) (op : CalOp) {k : Nat} (hk : k ≤ 1) :
    s.runRestore op k 5 =
      ((((if k = 0 then s.restoreStep op 1 else s).restoreStep op 2).restoreStep op 3).restoreStep op 4).restoreStep op 5 :=
  foldl_five_steps (α := State) (fun t i => t.restoreStep op i) s hk

/-- A restore of which at most the journal entry was written ends with the sets moved and the journal clear (R59). -/
theorem runRestore_cal (s : State) (op : CalOp) {k : Nat} (hk : k ≤ 1) :
    (s.runRestore op k 5).cal.journal = none ∧ (s.runRestore op k 5).cal.previous = s.cal.user ∧
    (s.runRestore op k 5).cal.user = op.source s.cal := by
  have h1 : ∃ j, (if k = 0 then s.restoreStep op 1 else s).cal = { s.cal with journal := j } := by
    split
    · exact ⟨some (op, 1), by cases op <;> rfl⟩
    · exact ⟨s.cal.journal, rfl⟩
  rw [runRestore_steps s op hk]
  generalize (if k = 0 then s.restoreStep op 1 else s) = t at h1 ⊢
  obtain ⟨j, hj⟩ := h1
  obtain ⟨x, hx⟩ := restoreStep_five_cal (((t.restoreStep op 2).restoreStep op 3).restoreStep op 4) op
  rw [hx, restoreStep_moves, hj]
  cases op <;> exact ⟨rfl, rfl, rfl⟩

theorem sameDumpArea_finishRestore (s : State) : SameDumpArea s s.finishRestore := by
  unfold State.finishRestore
  split
  · exact .refl
  next op k _ =>
    have h : SameDumpArea s (s.runRestore op k 5) :=
      List.foldlRecOn _ _ .refl fun b hb i _ => by
        split
        · exact .step (sameDumpArea_restoreStep b op _) hb
        · exact hb
    refine (only_State_calError _ _).sameDumpArea rfl ((only_State_setBit _ _ _).sameDumpArea rfl ?_)
    exact h

theorem finishRestore_restoring {s : State} {op : CalOp} {k : Nat} (h : s.cal.restoring = some (op, k)) (hk : k ≤ 1) :
    s.finishRestore.cal.restoring = none ∧ s.finishRestore.cal.journal = none ∧ s.finishRestore.bit Fld.CAL_STATUS.BUSY = false ∧
    s.finishRestore.cal.previous = s.cal.user ∧ s.finishRestore.cal.user = op.source s.cal := by
  obtain ⟨hj, hp, hu⟩ := runRestore_cal s op hk
  simp only [State.finishRestore, h, State.calError]
  refine ⟨rfl, hj, ?_, hp, hu⟩
  rw [State.bit_setFld_ne _ _ _ _ (by decide), State.bit_setBit_same _ _ _ rfl]

/-! ### AC_FAIL_N deasserted, up to the dump that may run (R16, R59, R355, R357) -/

/-- The packs cut off for voltage enabled again (R355). -/
def State.enableCutPacks (s : State) : State :=
  bothPacks.foldl (fun (st : State) p =>
    let x := st.pack p
    if x.cut = some .voltage then st.putPack p { x with cut := none, en := st.packPresent p } else st) s

/-- The deferred tests requested (R357). -/
def State.requestDeferred (s : State) : State :=
  s.nrg.deferred.foldl (fun (st : State) p => st.requestTest p) { s with nrg := { s.nrg with deferred := [] } }

/-- AC_FAIL_N_DEASSERT before it looks at a running dump. -/
def State.returnMains (s : State) : State :=
  (s.setBit Fld.NRG_STATUS.AC_FAIL false).finishRestore.enableCutPacks.requestDeferred

theorem execAcFailNDeassert_of_fail {s : State} (h : s.acFail = true) :
    execAcFailNDeassert s =
      if s.returnMains.wc.dumpArea.isSome ∧ s.returnMains.wc.dumpWhy = some .acFail then .next s.returnMains
      else if s.returnMains.fld Fld.PWR_STATE.STATE = 3 then .next (s.returnMains.resumeMains.emit .acReturnSilence [])
      else .next s.returnMains.resumeMains :=
  if_neg (by simp [h])

theorem only_enableCutPacks (s : State) : Only [.nrg] s s.enableCutPacks := by
  refine Only.foldl (fun b p hb => ?_) Only.refl
  dsimp only
  split
  · exact Only.step (only_State_putPack _ _ _) rfl hb
  · exact hb

theorem only_withNrg (s : State) (x : Nrg) : Only [.nrg] s { s with nrg := x } := by
  intro p hp
  cases p
  case nrg => exact absurd hp (by decide)
  all_goals rfl

theorem only_requestDeferred (s : State) : Only [.nrg] s s.requestDeferred :=
  Only.foldl (fun b p hb => Only.step (only_State_requestTest b p) rfl hb) (only_withNrg s _)

/-- Beyond the restore that it completes, the return of mains changes the packs alone. -/
theorem only_returnMains (s : State) : Only [.nrg] (s.setBit Fld.NRG_STATUS.AC_FAIL false).finishRestore s.returnMains :=
  Only.step (only_requestDeferred _) rfl (only_enableCutPacks _)

theorem resumeMains_holdup (s : State) : s.resumeMains.bit Fld.NRG_STATUS.HOLDUP_EN = false :=
  State.bit_setBit_same s _ false rfl

theorem resumeMains_holds (s : State) : FetchHold.acFail ∉ s.resumeMains.pwr.holds := by
  simp [State.resumeMains, State.unhold]

/-- The return of mains answers with its own changes and, unless a dump goes on, with HOLDUP_EN and the fetch hold released (R165). -/
theorem execAcFailNDeassert_answers {s : State} (h : s.acFail = true) :
    ∃ t, execAcFailNDeassert s = .next t ∧ t.cal = s.returnMains.cal ∧
      SameFlds [Fld.NRG_STATUS.AC_FAIL, Fld.CAL_STATUS.BUSY] s.returnMains t ∧
      (s.returnMains.wc.dumpArea = none → t.bit Fld.NRG_STATUS.HOLDUP_EN = false ∧ FetchHold.acFail ∉ t.pwr.holds) := by
  have hk : SameFlds [Fld.NRG_STATUS.AC_FAIL, Fld.CAL_STATUS.BUSY] s.returnMains s.returnMains.resumeMains :=
    (kept_State_resumeMains _).sameFlds (by decide)
  have hr := resumeMains_holdup s.returnMains
  have hn := resumeMains_holds s.returnMains
  rw [execAcFailNDeassert_of_fail h]
  split
  next hd => exact ⟨_, rfl, rfl, .refl, fun ha => by simp [ha] at hd⟩
  next =>
    split
    · exact ⟨_, rfl, rfl, hk, fun _ => ⟨hr, hn⟩⟩
    · exact ⟨_, rfl, rfl, hk, fun _ => ⟨hr, hn⟩⟩

theorem returnMains_acFail (s : State) : s.returnMains.bit Fld.NRG_STATUS.AC_FAIL = false := by
  rw [((only_returnMains s).sameFlds rfl [Fld.NRG_STATUS.AC_FAIL]).bit (by decide), (kept_State_finishRestore _).bit _ (by decide),
    State.bit_setBit_same _ _ _ rfl]

theorem returnMains_dumpArea (s : State) : s.returnMains.wc.dumpArea = s.wc.dumpArea :=
  (only_returnMains s).sameDumpArea rfl (.step (sameDumpArea_finishRestore _) ((only_State_setBit s _ _).sameDumpArea rfl .refl))

/-! ### The Pegbox die's resets and the always-on domain (R18, R432, R433, R462) -/

theorem pegboxDown_notReady (s : State) : s.pegboxDown.bit Fld.PWR_STATE.PEGBOX_READY = false := by
  have h : s.pegboxDown.fld Fld.PWR_STATE.PEGBOX_READY = 0 := by
    simp only [State.pegboxDown, fld_mk, fldOf_regs]
    rw [State.fld_setBit_ne _ _ _ _ (by decide), State.setBit, State.fld_setFld_same]
    rfl
  simp [State.bit, h]

theorem execAonRstNAssert_due {s : State} (h : s.pwr.aonLow = false) :
    execAonRstNAssert s = .next ((({ s.pegboxDown with pwr := { s.pegboxDown.pwr with aonLow := true } } : State).setBit
      Fld.PWR_RESET_INFO.WATCHDOG false).setBit Fld.PWR_RESET_INFO.AON_PIN true) := by
  unfold execAonRstNAssert
  rw [if_neg (by simp [h])]

theorem execPegboxWatchdogReset_due {s : State} (h : s.pwr.aonLow = false) (hr : s.bit Fld.PWR_STATE.PEGBOX_READY = true) :
    execPegboxWatchdogReset s = .next ((({ s.pegboxDown with pwr := { s.pegboxDown.pwr with wdHold := true } } : State).setBit
      Fld.PWR_RESET_INFO.AON_PIN false).setBit Fld.PWR_RESET_INFO.WATCHDOG true) := by
  unfold execPegboxWatchdogReset
  rw [if_neg (by simp [h, hr])]

/-- A Pegbox start that is due ends by setting PEGBOX_READY (R437). -/
theorem execPegboxStart_due {s : State} (fw : FwBanks) (vault : VaultFound) (rate area targets block : Nat) (a b : PackSample)
    (hr : s.pwr.aonRails = true) (hn : s.bit Fld.PWR_STATE.PEGBOX_READY = false) (hl : s.pwr.aonLow = true ∨ s.pwr.wdHold = true) :
    ∃ u : State, execPegboxStart fw vault rate area targets block a b s = .next (u.setBit Fld.PWR_STATE.PEGBOX_READY true) := by
  have h : (s.pwr.aonLow || s.pwr.wdHold) = true := by simpa using hl
  unfold execPegboxStart
  rw [if_neg (by simp [hr, hn, h])]
  exact ⟨_, rfl⟩

/-! ### The end of a dump (R164, R165, R364) -/

theorem tget_tmod_same {α : Type} {t : Tbl α} {k : Nat} {a : α} (h : tget t k = some a) (f : α → α) :
    tget (tmod t k f) k = some (f a) := by
  simp [tmod, h]

/-- The commit record of a dump in an area written (R164). -/
def State.commitRecord (s : State) (i : Nat) : State :=
  let room := s.dumpRoom
  let s := { s with vault := { s.vault with dumps := tmod s.vault.dumps i (fun (d : Dump) =>
    { (d.saveFirst room) with committed := true }) } }
  let s := (s.setBit (Fld.VLT_AREA.COMPLETE.at i) true).incFld Fld.VLT_DUMP_COUNT 1
  let s := s.setFld Fld.VLT_LAST_DUMP_MS (min ((s.now - s.wc.dumpAt) / ms) 0xFFFFFFFF)
  s.setBit Fld.VLT_STATUS.DUMPING false

/-- The block of each present pack due to be written (R364). -/
def State.packBlocksDue (s : State) : State :=
  bothPacks.foldl (fun (st : State) p =>
    if st.packPresent p then st.putPack p { st.pack p with writeDue := true } else st) s

theorem execDumpCommit_of_running {s : State} {i : Nat} {why : DumpReason} (ha : s.wc.dumpArea = some i) (hw : s.wc.dumpWhy = some why) :
    execDumpCommit s = .next (((s.commitRecord i).saveCounters.packBlocksDue).afterDump why (some i)) := by
  simp only [execDumpCommit, ha, hw]
  unfold State.commitRecord State.packBlocksDue
  dsimp only

theorem kept_commitRecord (s : State) (i : Nat) :
    Kept [Fld.VLT_AREA.COMPLETE, Fld.VLT_DUMP_COUNT, Fld.VLT_LAST_DUMP_MS, Fld.VLT_STATUS.DUMPING] s (s.commitRecord i) :=
  Kept.setBit rfl (Kept.setFld rfl (Kept.incFld rfl (Kept.setBitAt rfl (Kept.regs rfl Kept.refl))))

theorem only_packBlocksDue (s : State) : Only [.nrg] s s.packBlocksDue := by
  refine Only.foldl (fun b p hb => ?_) Only.refl
  split
  · exact Only.step (only_State_putPack _ _ _) rfl hb
  · exact hb

theorem only_saved_packBlocksDue (s : State) : Only [.age, .nrg] s s.saveCounters.packBlocksDue :=
  Only.step (only_packBlocksDue _) rfl ((only_State_saveCounters s).mono rfl)

/-- A mains dump that ends while mains is still out, and for which no reset waits, is followed by nothing (R165). -/
theorem afterDump_mainsOut {s : State} (hp : s.pwr.sysPending = false) (ha : s.acFail = true) (area : Option Nat) :
    s.afterDump .acFail area = { s with wc := { s.wc with dumpArea := none, dumpWhy := none } } := by
  have ha' : ({ s with wc := { s.wc with dumpArea := none, dumpWhy := none } } : State).acFail = true := ha
  simp only [State.afterDump, hp, ha', if_true]
  rfl

/-- Settles O22: each command answers the state that the lemmas above name, and their frames carry what the clause says to its end. -/
theorem mainsAndPegboxTakeEffect : Obligations.MainsAndPegboxTakeEffect := by
  refine ⟨?silence, ?dump, ?deassert, ?restored, ?aonReset, ?watchdog, ?start, ?alwaysOn, ?down, ?commit⟩
  case silence =>
    intro s ha hs
    have hst : s.failMains.fld Fld.PWR_STATE.STATE = 3 := (failMains_fld s (by decide) (by decide)).trans hs
    refine ⟨_, (execAcFailNAssert_of_mains ha).trans (if_pos hst), ?_, ?_, ?_⟩
    · rw [State.acFail, State.bit_emit, ← State.acFail, failMains_acFail]
    · rw [State.bit_emit, failMains_holdup]
    · rw [State.emit_pwr, failMains_pwr]
      exact mem_hold_holds s _
  case dump =>
    intro s ha hs hrun hboot hreplay hsafe hd hready
    obtain ⟨u, hu, hholds, harea⟩ := execAcFailNAssert_dumps ha hs hrun hboot hreplay hsafe hd
    obtain ⟨hpwr, hwhy, hbit⟩ := dumpFor_ready (s := u) (by rw [harea, hready]) .acFail
    refine ⟨_, hu, ?_, hwhy, hbit⟩
    rw [hpwr, hholds]
    exact mem_hold_holds s _
  case deassert =>
    intro s ha hd
    obtain ⟨t, ht, -, hf, hr⟩ := execAcFailNDeassert_answers ha
    exact ⟨t, ht, (hf.bit (by decide)).trans (returnMains_acFail s), hr ((returnMains_dumpArea s).trans hd)⟩
  case restored =>
    intro s op k ha hk hk1
    obtain ⟨t, ht, hc, hf, -⟩ := execAcFailNDeassert_answers ha
    obtain ⟨hres, hjournal, hbusy, hprev, huser⟩ :=
      finishRestore_restoring (s := s.setBit Fld.NRG_STATUS.AC_FAIL false) hk hk1
    have hcal := hc.trans ((only_returnMains s).cal rfl)
    have hb := (hf.bit (f := Fld.CAL_STATUS.BUSY) (by decide)).trans
      (((only_returnMains s).sameFlds rfl [Fld.CAL_STATUS.BUSY]).bit (by decide))
    refine ⟨t, ht, ?_⟩
    beta_reduce
    rw [hcal, hb]
    refine ⟨hres, hjournal, hbusy, hprev, huser.trans ?_⟩
    cases op <;> rfl
  case aonReset =>
    intro s ha
    refine ⟨_, execAonRstNAssert_due ha, rfl, State.bit_setBit_same _ _ true rfl, ?_, ?_⟩
    · rw [State.bit_setBit_ne _ _ _ _ (by decide), State.bit_setBit_same _ _ false rfl]
    · rw [State.bit_setBit_ne _ _ _ _ (by decide), State.bit_setBit_ne _ _ _ _ (by decide), bit_withPwr, pegboxDown_notReady]
  case watchdog =>
    intro s ha hready
    refine ⟨_, execPegboxWatchdogReset_due ha hready, rfl, ?_, State.bit_setBit_same _ _ true rfl, ?_⟩
    · rw [State.bit_setBit_ne _ _ _ _ (by decide), State.bit_setBit_same _ _ false rfl]
    · rw [State.bit_setBit_ne _ _ _ _ (by decide), State.bit_setBit_ne _ _ _ _ (by decide), bit_withPwr, pegboxDown_notReady]
  case start =>
    intro s fw vault rate area targets block a b hr hn hl
    obtain ⟨u, hu⟩ := execPegboxStart_due fw vault rate area targets block a b hr hn hl
    exact ⟨_, hu, State.bit_setBit_same _ _ true rfl⟩
  case alwaysOn =>
    intro s
    refine ⟨_, rfl, ?_⟩
    beta_reduce
    rw [(only_State_saveCounters _).pwr rfl, State.satFld_pwr, (only_State_loadCounters _).pwr rfl, State.setFld_pwr, State.setFld_pwr,
      State.setBit_pwr, State.setBit_pwr]
  case down =>
    intro s hh
    exact ⟨_, if_neg (by simp [hh]), rfl, rfl, rfl, rfl, rfl⟩
  case commit =>
    intro s i d hd hw ha hp hg
    have ho := only_saved_packBlocksDue (s.commitRecord i)
    have hp' : (s.commitRecord i).saveCounters.packBlocksDue.pwr.sysPending = false := by rw [ho.pwr rfl]; exact hp
    have ha' : (s.commitRecord i).saveCounters.packBlocksDue.acFail = true :=
      ((ho.sameFlds rfl [Fld.NRG_STATUS.AC_FAIL]).bit (by decide)).trans (((kept_commitRecord s i).bit _ (by decide)).trans ha)
    refine ⟨_, (execDumpCommit_of_running hd hw).trans (congrArg _ (afterDump_mainsOut hp' ha' _)), rfl, ?_, ?_⟩
    · have hb := (ho.sameFlds rfl [Fld.VLT_STATUS.DUMPING]).bit (f := Fld.VLT_STATUS.DUMPING) (by decide)
      rw [bit_withWc, hb]
      exact State.bit_setBit_same _ _ false rfl
    · refine ⟨{ d.saveFirst s.dumpRoom with committed := true }, ?_, rfl, rfl⟩
      dsimp only
      rw [ho.vault rfl]
      exact tget_tmod_same hg _

end Sys2Proof.Machine

/-!
The staging commands and the image copies (O24): what reads the staging status and the image state after an update is said once, and each
command that is due is given the state that it answers.
-/
namespace Sys2Proof.Machine

/-! ### The staging status and the image state after an update (R51, R53, R54) -/

theorem Only.img {l : List Part} {s t : State} (h : Only l s t) (hl : l.contains .img = false) : t.img = s.img := h .img hl

theorem stage_setStage (s : State) {v : Nat} (h : v < 16) : (s.setStage v).stage = v :=
  (State.fld_setFld_same s _ v).trans (Nat.mod_eq_of_lt h)

theorem stage_setFld_ne (s : State) {f : Field} (v : Nat) (h : Fld.IMG_STAGE_STATUS.STATE.key ≠ f.key) : (s.setFld f v).stage = s.stage :=
  State.fld_setFld_ne s f _ v h

theorem stage_setBit_ne (s : State) {f : Field} (b : Bool) (h : Fld.IMG_STAGE_STATUS.STATE.key ≠ f.key) : (s.setBit f b).stage = s.stage :=
  State.fld_setBit_ne s f _ b h

@[simp] theorem stage_stageError (s : State) (e : Nat) : (s.stageError e).stage = s.stage := stage_setFld_ne s e (by decide)

theorem error_stageError (s : State) {e : Nat} (h : e < 256) : (s.stageError e).fld Fld.IMG_STAGE_STATUS.ERROR = e :=
  (State.fld_setFld_same s _ e).trans (Nat.mod_eq_of_lt h)

theorem bit_stageError (s : State) (e : Nat) {f : Field} (h : f.key ≠ Fld.IMG_STAGE_STATUS.ERROR.key) : (s.stageError e).bit f = s.bit f :=
  State.bit_setFld_ne s _ f e h

@[simp] theorem img_stageError (s : State) (e : Nat) : (s.stageError e).img = s.img := rfl

@[simp] theorem img_setStage (s : State) (v : Nat) : (s.setStage v).img = s.img := rfl

@[simp] theorem img_showCopies (s : State) : s.showCopies.img = s.img := (only_State_showCopies s).img rfl

@[simp] theorem img_showRewrite (s : State) : s.showRewrite.img = s.img := (only_State_showRewrite s).img rfl

@[simp] theorem img_showKeys (s : State) : s.showKeys.img = s.img := (only_State_showKeys s).img rfl

@[simp] theorem img_tokenChecked (s : State) (op iface : Nat) (ok : Bool) : (s.tokenChecked op iface ok).img = s.img :=
  (only_State_tokenChecked s op iface ok).img rfl

/-! ### Copies -/

theorem copyOf_of_img {s t : State} (h : t.img = s.img) (n : Nat) : t.copyOf n = s.copyOf n := by rw [State.copyOf, h]; rfl

theorem copyOf_setCopy_same (s : State) (n : Nat) (c : CopyRead) : (s.setCopy n c).copyOf n = c := by
  unfold State.copyOf State.setCopy
  split_ifs <;> rfl

theorem copyOf_stageIdle (s : State) (n : Nat) : s.stageIdle.copyOf n = s.copyOf n := rfl

/-! ### Staging commands that are due (R45 to R48) -/

theorem ifaceOwner_lt (i : Iface) : ifaceOwner i < 4 := by cases i <;> decide

theorem execStageOpen_due {s : State} {iface : Iface} (h : s.stageRefusal iface = 0) (h0 : s.stage = 0) :
    execStageOpen iface s = .next ((((({ s with img := { s.img with stage := [], staged := none, newArrays := [] } } : State).setFld
      Fld.IMG_STAGE_STATUS.CHANGE_CLASS 0).setStage 1).setFld Fld.IMG_STAGE_STATUS.OWNER (ifaceOwner iface)).stageError 0) :=
  (if_neg (by simp [h])).trans (if_neg (by simp [h0]))

theorem execStageVerify_good {s : State} {iface : Iface} {facts : ImgFacts} {i : Image} (h : s.stageRefusal iface = 0) (h1 : s.stage = 1)
    (hi : s.stagedImage facts = some i) (hv : (s.verifyImage i).1 = 0) :
    execStageVerify iface facts s =
      .next (((({ s with img := { s.img with staged := some i, newArrays := (s.verifyImage i).2 } } : State).setStage 3).setFld
        Fld.IMG_STAGE_STATUS.CHANGE_CLASS (s.changeClass i)).stageError 0) := by
  simp only [execStageVerify, h, h1, hi, hv, ne_eq, not_true_eq_false, if_false]
  rfl

theorem execStageCommit_due {s : State} {iface : Iface} (h : s.stageRefusal iface = 0) (h3 : s.stage = 3) :
    execStageCommit iface s = .next (((((s.setCopy s.commitTarget .notAnImage).showCopies).setStage 4).setBit
      Fld.IMG_STAGE_STATUS.BUSY true).stageError 0) :=
  (if_neg (by simp [h])).trans (if_neg (by simp [h3]))

/-- An activation that is due ends in LIVE done, with no error, after what it applies (R48). -/
theorem execActivateLive_due {s : State} {iface : Iface} {i : Image} (h : s.stageRefusal iface = 0) (h5 : s.stage = 5) (ha : s.acFail = false)
    (hi : s.img.staged = some i) (hc : s.fld Fld.IMG_STAGE_STATUS.CHANGE_CLASS = 1) (hs : s.safeMode = false) (he : s.activationError i = 0) :
    ∃ u : State, execActivateLive iface s = .next (((u.setStage 7).showRewrite).stageError 0) := by
  refine ⟨((s.applyLive i).startFed.computeEnergy).recomputeLimit.computeEnergy.updateFans, ?_⟩
  simp only [execActivateLive, h, h5, ha, hi, hc, hs, he, ne_eq, not_true_eq_false, Bool.false_eq_true, or_self, if_false]

theorem execActivateReset_due {s : State} {iface : Iface} {i : Image} (h : s.stageRefusal iface = 0) (h5 : s.stage = 5)
    (hi : s.img.staged = some i) (he : s.activationError i = 0) :
    ∃ w : Wc, execActivateReset iface s =
      .next (({ (((s.setStage 6).setBit Fld.IMG_STAGE_STATUS.BUSY true).hold .activation) with wc := w } : State).stageError 0) := by
  refine ⟨{ s.wc with destageAll := s.wc.lines.any (fun l => l.2.isDirty) }, ?_⟩
  simp only [execActivateReset, h, h5, hi, he, ne_eq, not_true_eq_false, if_false]
  rfl

/-- The state after the reset of an activation, before the boot: the new arrays of VERIFY stand for it (R48, R494). -/
def State.activateReset (s : State) : State :=
  ({ s.fastReset with img := { s.fastReset.img with toCreate := s.img.newArrays } } : State).setBit Fld.PWR_RESET_INFO.ACTIVATE true

theorem execActivateResetDestaged_due {s : State} (h6 : s.stage = 6) (hc : s.hfe.cmds = []) (hu : s.wc.updates = []) (hv : s.vaulted = 0) :
    execActivateResetDestaged s =
      if s.activateReset.canBoot then .next s.activateReset.startBoot else .next s.activateReset :=
  if_neg (by simp [h6, hc, hu, hv])

theorem execStageAbort_discards {s : State} {iface : Iface} (h : s.stageRefusal iface = 0) (hs : s.stage = 1 ∨ s.stage = 3 ∨ s.stage = 8) :
    execStageAbort iface s = .next (s.stageIdle.stageError 0) :=
  (if_neg (by simp [h])).trans (if_pos (by rcases hs with e | e | e <;> simp [e]))

theorem stage_stageIdle (s : State) : s.stageIdle.stage = 0 := by
  unfold State.stageIdle
  dsimp only
  rw [stage_setBit_ne _ _ (by decide), stage_setFld_ne _ _ (by decide), stage_setFld_ne _ _ (by decide), stage_setStage _ (by decide)]

/-! ### The end of COMMIT (R46, R47, R54) -/

theorem slotLive_of_img {s t : State} (h : t.img = s.img) (n : Nat) : t.slotLive n = s.slotLive n := by simp only [State.slotLive, h]

theorem slotOther_of_img {s t : State} (h : t.img = s.img) (i : Image) : t.slotOther i = s.slotOther i := by simp only [State.slotOther, h]

/-- An image's reason depends on the keys, the device's identity and its HBM (R32, R36, R37). -/
theorem imageReason_of_img {s t : State} (h : t.img = s.img) (hf : SameFlds [Fld.SYS_DEVICE_ID, Fld.SYS_HBM.STACK_GIB] s t) (i : Image) :
    t.imageReason i = s.imageReason i := by
  simp only [State.imageReason, slotOther_of_img h, slotLive_of_img h, hf Fld.SYS_DEVICE_ID (by simp), hf Fld.SYS_HBM.STACK_GIB (by simp)]

theorem commitTarget_of_sameFlds {s t : State} (hf : SameFlds [Fld.IMG_BOOT.BOOT_SOURCE, Fld.IMG_BOOT.SAFE_REASON] s t) :
    t.commitTarget = s.commitTarget := by
  simp only [State.commitTarget, hf Fld.IMG_BOOT.BOOT_SOURCE (by simp), hf Fld.IMG_BOOT.SAFE_REASON (by simp)]

theorem kept_setBit (s : State) (f : Field) (b : Bool) : Kept [f] s (s.setBit f b) := Kept.setBit (by simp) Kept.refl

theorem execCommitComplete_written {s : State} {i : Image} (h4 : s.stage = 4) (ha : s.acFail = false) (hi : s.img.staged = some i)
    (hr : s.imageReason i = 0) :
    execCommitComplete true s =
      .next ((((({ s.setBit Fld.IMG_STAGE_STATUS.BUSY false with img := { s.img with toCreate := s.img.newArrays } } : State).setCopy
        s.commitTarget (.image i)).showCopies).setStage 5).stageError 0) := by
  have hk := kept_setBit s Fld.IMG_STAGE_STATUS.BUSY false
  have hr' := (imageReason_of_img (State.setBit_img ..) (hk.sameFlds (by decide)) i).trans hr
  have ht := commitTarget_of_sameFlds (hk.sameFlds (by decide))
  simp only [execCommitComplete, h4, ha, hi, State.setBit_img, hr', ne_eq, not_true_eq_false, Bool.false_eq_true,
    or_self, if_false, decide_true, Bool.and_self, if_true]
  rw [← ht]
  rfl

theorem execCommitComplete_failed {s : State} {i : Image} (h4 : s.stage = 4) (ha : s.acFail = false) (hi : s.img.staged = some i) :
    execCommitComplete false s = .next (((s.setBit Fld.IMG_STAGE_STATUS.BUSY false).setStage 3).stageError 0x0A) := by
  simp only [execCommitComplete, h4, ha, State.setBit_img, hi, ne_eq, not_true_eq_false, Bool.false_eq_true, or_self, if_false,
    Bool.false_and]

/-! ### Copies rewritten and selected (R42, R44) -/

/-- The state after a copy has been rewritten from an image, or left invalid, before a staging sequence ends (R42). -/
def State.copyRewritten (s : State) (n : Nat) (r : Image) (ok : Bool) : State :=
  ((s.setCopy n (if ok then .image r else .notAnImage)).showCopies.showRewrite).emit .imageRewrite [n, r.sequence, bit1 ok]

theorem copyOf_copyRewritten (s : State) (n : Nat) (r : Image) (ok : Bool) :
    (s.copyRewritten n r ok).copyOf n = if ok then .image r else .notAnImage :=
  (copyOf_of_img (s := s.setCopy n _) (by rw [State.copyRewritten, State.emit_img, img_showRewrite, img_showCopies]) n).trans
    (copyOf_setCopy_same s n _)

theorem execImageCopyRewrite_due {s : State} {copy : Fin 3} {r : Image} (ok : Bool) (hr : s.img.running = some r)
    (hd : s.rewriteDue copy.val = true) (hp : s.pwr.fast = .running) (hb : s.bit Fld.PWR_STATE.BOOTING = false) (ha : s.acFail = false)
    (h7 : s.stage = 7) :
    execImageCopyRewrite copy ok s =
      if (s.copyRewritten copy.val r ok).stage = 7 ∧ (s.copyRewritten copy.val r ok).bit Fld.IMG_BOOT.REWRITE_PENDING = false then
        .next (s.copyRewritten copy.val r ok).stageIdle
      else .next (s.copyRewritten copy.val r ok) := by
  have hg : ¬ (s.rewriteDue copy.val = false ∨ s.pwr.fast ≠ .running ∨ s.bit Fld.PWR_STATE.BOOTING = true ∨ s.acFail = true ∨
      (s.stage = 4 ∨ s.stage = 5 ∨ s.stage = 6)) := by simp [hd, hp, hb, ha, h7]
  simp only [execImageCopyRewrite, hr]
  exact if_neg hg

theorem selectCopy_tie {s : State} {iface : Iface} {op : Nat} (src : Nat) (h : s.stageRefusal iface = 0) (hs : s.safeMode = true)
    (hr : s.fld Fld.IMG_BOOT.SAFE_REASON = 2) (hk : s.tokenOk op 0 (s.fld Fld.IMG_AUTH) = true) :
    s.selectCopy iface op src = ((((s.tokenChecked op (ifaceOwner iface) true).setCopy (1 - src) (s.copyOf src)).showCopies).emit
      .tieResolved [src]).stageError 0 := by
  have hc := copyOf_of_img (img_tokenChecked s op (ifaceOwner iface) true) src
  simp only [State.selectCopy, h, hs, hr, hk, hc, ne_eq, not_true_eq_false, Bool.true_eq_false, or_self, if_false, if_true]

theorem setCopy_img_of_img {s t : State} (h : t.img = s.img) (n : Nat) (c : CopyRead) : (t.setCopy n c).img = (s.setCopy n c).img := by
  unfold State.setCopy
  rw [h]
  split_ifs <;> rfl

theorem selectCopy_img {s : State} {iface : Iface} {op : Nat} (src : Nat) (h : s.stageRefusal iface = 0) (hs : s.safeMode = true)
    (hr : s.fld Fld.IMG_BOOT.SAFE_REASON = 2) (hk : s.tokenOk op 0 (s.fld Fld.IMG_AUTH) = true) :
    (s.selectCopy iface op src).img = (s.setCopy (1 - src) (s.copyOf src)).img ∧
      (s.selectCopy iface op src).fld Fld.IMG_STAGE_STATUS.ERROR = 0 := by
  rw [selectCopy_tie src h hs hr hk]
  refine ⟨?_, error_stageError _ (by decide)⟩
  rw [img_stageError, State.emit_img, img_showCopies]
  exact setCopy_img_of_img (img_tokenChecked ..) _ _

/-- Settles O24: each command that is due answers the state that the lemmas above name, and that state reads as the clause says. -/
theorem stagingFollowsItsSequence : Obligations.StagingFollowsItsSequence := by
  refine ⟨?opened, ?verify, ?commit, ?live, ?reset, ?destaged, ?abort, ?rewrite, ?selectA, ?selectB, ?written, ?failed⟩
  case opened =>
    intro s iface h h0
    refine ⟨_, execStageOpen_due h h0, ?_, ?_, rfl⟩
    · rw [stage_stageError, stage_setFld_ne _ _ (by decide), stage_setStage _ (by decide)]
    · rw [State.stageError, State.fld_setFld_ne _ _ _ _ (by decide), State.fld_setFld_same]
      exact Nat.mod_eq_of_lt (ifaceOwner_lt iface)
  case verify =>
    intro s iface facts i h h1 hi hv
    refine ⟨_, execStageVerify_good h h1 hi hv, ?_, rfl, error_stageError _ (by decide), ?_⟩
    · rw [stage_stageError, stage_setFld_ne _ _ (by decide), stage_setStage _ (by decide)]
    · rw [State.stageError, State.fld_setFld_ne _ _ _ _ (by decide), State.fld_setFld_same]
      rfl
  case commit =>
    intro s iface h h3
    refine ⟨_, execStageCommit_due h h3, ?_, ?_⟩
    · rw [stage_stageError, stage_setBit_ne _ _ (by decide), stage_setStage _ (by decide)]
    · rw [bit_stageError _ _ (by decide), State.bit_setBit_same _ _ _ rfl]
  case live =>
    intro s iface i h h5 ha hi hc hs he
    obtain ⟨u, hu⟩ := execActivateLive_due h h5 ha hi hc hs he
    refine ⟨_, hu, ?_, error_stageError _ (by decide)⟩
    rw [stage_stageError, State.showRewrite, stage_setBit_ne _ _ (by decide), stage_setStage _ (by decide)]
  case reset =>
    intro s iface i h h5 hi he
    obtain ⟨w, hw⟩ := execActivateReset_due h h5 hi he
    refine ⟨_, hw, ?_, ?_, mem_hold_holds _ _⟩
    · rw [stage_stageError]
      exact (stage_setBit_ne _ _ (by decide)).trans (stage_setStage _ (by decide))
    · rw [bit_stageError _ _ (by decide), bit_withWc, State.bit_hold, State.bit_setBit_same _ _ _ rfl]
  case destaged =>
    intro s h6 hc hu hv
    have hbit : s.activateReset.bit Fld.PWR_RESET_INFO.ACTIVATE = true := State.bit_setBit_same _ _ true rfl
    have hnew : s.activateReset.img.toCreate = s.img.newArrays := rfl
    rw [Does, show exec .activateResetDestaged s = execActivateResetDestaged s from rfl, execActivateResetDestaged_due h6 hc hu hv]
    split
    · refine ⟨_, rfl, ?_, ?_⟩
      · rw [(kept_State_startBoot _).bit _ (by decide), hbit]
      · rw [(only_State_startBoot _).img rfl, hnew]
    · exact ⟨_, rfl, hbit, hnew⟩
  case abort =>
    intro s iface h hs
    refine ⟨_, execStageAbort_discards h hs, ?_, rfl, rfl⟩
    rw [stage_stageError, stage_stageIdle]
  case rewrite =>
    intro s copy ok r hr hd hp hb ha h7
    have hc := copyOf_copyRewritten s copy.val r ok
    rw [Does, show exec (.imageCopyRewrite copy ok) s = execImageCopyRewrite copy ok s from rfl,
      execImageCopyRewrite_due ok hr hd hp hb ha h7]
    split
    · exact ⟨_, rfl, (copyOf_stageIdle _ _).trans hc⟩
    · exact ⟨_, rfl, hc⟩
  case selectA =>
    intro s iface h hs hr hk
    obtain ⟨hi, he⟩ := selectCopy_img 0 h hs hr hk
    exact ⟨_, rfl, (congrArg Img.copyB hi).trans rfl, (congrArg Img.copyA hi).trans rfl, he⟩
  case selectB =>
    intro s iface h hs hr hk
    obtain ⟨hi, he⟩ := selectCopy_img 1 h hs hr hk
    exact ⟨_, rfl, (congrArg Img.copyA hi).trans rfl, (congrArg Img.copyB hi).trans rfl, he⟩
  case written =>
    intro s i h4 ha hi hr
    refine ⟨_, execCommitComplete_written h4 ha hi hr, ?_, ?_, ?_⟩
    · rw [stage_stageError, stage_setStage _ (by decide)]
    · rw [bit_stageError _ _ (by decide), State.setStage, State.bit_setFld_ne _ _ _ _ (by decide),
        (kept_State_showCopies _).bit _ (by decide), (kept_State_setCopy _ _ _).bit _ (by decide)]
      exact State.bit_setBit_same s _ false rfl
    · rw [copyOf_of_img (img_stageError ..), copyOf_of_img (img_setStage ..), copyOf_of_img (img_showCopies _), copyOf_setCopy_same]
  case failed =>
    intro s i h4 ha hi
    refine ⟨_, execCommitComplete_failed h4 ha hi, ?_, ?_, error_stageError _ (by decide)⟩
    · rw [stage_stageError, stage_setStage _ (by decide)]
    · rw [bit_stageError _ _ (by decide), State.setStage, State.bit_setFld_ne _ _ _ _ (by decide), State.bit_setBit_same _ _ _ rfl]

end Sys2Proof.Machine

/-!
The signing keys and the calibration sets (O25): a statement that is accepted gives the key slots it names; a restore is followed step by step,
from its journal entry to its event, so that one that is caught by the loss of mains leaves what the step it has reached left.
-/
namespace Sys2Proof.Machine

/-! ### Signing keys (R37) -/

/-- The key slots replaced after a token that has passed, and shown (R37, R51, R410). -/
def State.keysSet (s : State) (op : Nat) (iface : Iface) (l : List KeySlot) : State :=
  let s := s.tokenChecked op (ifaceOwner iface) true
  (({ s with img := { s.img with keys := l } } : State).showKeys.showCopies).stageError 0

theorem keysSet_keys (s : State) (op : Nat) (iface : Iface) (l : List KeySlot) : (s.keysSet op iface l).img.keys = l := by
  rw [State.keysSet, img_stageError, img_showCopies, img_showKeys]

theorem keysSet_error (s : State) (op : Nat) (iface : Iface) (l : List KeySlot) :
    (s.keysSet op iface l).fld Fld.IMG_STAGE_STATUS.ERROR = 0 :=
  error_stageError _ (by decide)

theorem execSigningKeyEnrol_accepted {s : State} {iface : Iface} {st : KeyStatement} {k : KeySlot} (h : s.stageRefusal iface = 0)
    (ht : s.tokenOk 4 st.slot (s.fld Fld.IMG_AUTH) = true) (hk : s.img.keys[st.slot]? = some k) (hp : k.programmed = false)
    (h0 : st.slot ≠ 0) (hs : st.sigOk = true) (hl : s.slotLive st.signer = true) :
    execSigningKeyEnrol iface st s = .next (s.keysSet 4 iface (s.img.keys.set st.slot ⟨st.hash, true, false⟩)) := by
  have hl' := (slotLive_of_img (img_tokenChecked s 4 (ifaceOwner iface) true) st.signer).trans hl
  simp only [execSigningKeyEnrol, State.keysSet, h, ht, img_tokenChecked, hk, hs, hl', hp, ne_eq, not_true_eq_false, if_false, Bool.not_true,
    Bool.false_eq_true, true_and, h0, not_false_eq_true, if_true]

theorem execSigningKeyRevoke_accepted {s : State} {iface : Iface} {st : KeyStatement} {k : KeySlot} (h : s.stageRefusal iface = 0)
    (ht : s.tokenOk 5 st.slot (s.fld Fld.IMG_AUTH) = true) (hk : s.img.keys[st.slot]? = some k) (hv : s.slotLive st.slot = true)
    (hs : st.sigOk = true) (hl : s.slotLive st.signer = true) (hn : st.signer ≠ st.slot)
    (hc : 1 < (s.img.keys.filter (fun x => x.programmed && !x.revoked)).length) :
    execSigningKeyRevoke iface st s = .next (s.keysSet 5 iface (s.img.keys.set st.slot { k with revoked := true })) := by
  have hlive := slotLive_of_img (img_tokenChecked s 5 (ifaceOwner iface) true)
  simp only [execSigningKeyRevoke, State.keysSet, h, ht, img_tokenChecked, hk, hs, hlive, hl, hv, hc, ne_eq, hn, not_true_eq_false, if_false,
    Bool.not_true, Bool.false_eq_true, not_false_eq_true, and_self, if_true]

/-! ### The steps of a restore (R59) -/

theorem loadRestored_factory (s : State) : s.loadRestored.cal.factory = s.cal.factory := by
  obtain ⟨x, hx⟩ := loadRestored_cal s
  rw [hx]

theorem restoreStep_factory (s : State) (op : CalOp) (k : Nat) : (s.restoreStep op k).cal.factory = s.cal.factory := by
  unfold State.restoreStep
  dsimp only
  split
  case h_7 => rw [loadRestored_factory, State.emit_cal, (only_State_showCal s).cal rfl]
  all_goals rfl

theorem runRestore_factory (s : State) (op : CalOp) (done last : Nat) : (s.runRestore op done last).cal.factory = s.cal.factory :=
  List.foldlRecOn (motive := fun t : State => t.cal.factory = s.cal.factory) _ _ rfl fun b hb i _ => by
    split
    · exact (restoreStep_factory b op _).trans hb
    · exact hb

/-- There is no step after the fifth. -/
theorem runRestore_of_five_le (s : State) (op : CalOp) (done : Nat) {last : Nat} (h : 5 ≤ last) :
    s.runRestore op done last = s.runRestore op done 5 :=
  List.foldl_ext _ _ s fun t i hi => by
    have hi5 := List.mem_range.mp hi
    simp only [hi5, hi5.trans_le h]

/-- The step of a restore that replaces the user set (R59). -/
def CalOp.userStep (op : CalOp) : Nat :=
  match op with
  | .restoreFactory => 3
  | .restorePrevious => 2

/-- What the first k steps of a restore, k less than all five, leave of the sets and the journal (R59). -/
def CalOp.after (op : CalOp) (c : Cal) (k : Nat) : Cal :=
  { c with previous := if k < 2 then c.previous else c.user,
           user := if k < op.userStep then c.user else op.source c,
           journal := if k = 0 then c.journal else if k = 4 then none else some (op, k) }

/-- The step that each of the two operations takes changes what `CalOp.after` lists, for every number of steps short of five. -/
theorem runRestore_after (s : State) (op : CalOp) {k : Nat} (hk : k < 5) : (s.runRestore op 0 k).cal = op.after s.cal k := by
  cases op
  · interval_cases k <;> rfl
  · interval_cases k <;> rfl

/-! ### The restore commands (R59, R61) -/

@[simp] theorem cal_calError (s : State) (e : Nat) : (s.calError e).cal = s.cal := rfl

theorem error_calError (s : State) {e : Nat} (h : e < 16) : (s.calError e).fld Fld.CAL_STATUS.ERROR = e :=
  (State.fld_setFld_same s _ e).trans (Nat.mod_eq_of_lt h)

/-- A restore that completes exchanges the user set for its source, whether mains holds or all five steps precede its loss (R59). -/
theorem restore_completes {s : State} (op : CalOp) (h : s.acFail = false ∨ 5 ≤ (s.free 3).toNat) :
    (s.restore op).cal.user = op.source s.cal ∧ (s.restore op).cal.previous = s.cal.user ∧
      (s.restore op).cal.factory = s.cal.factory ∧ (s.restore op).fld Fld.CAL_STATUS.ERROR = 0 := by
  obtain ⟨u, hu, hr⟩ : ∃ u : State, u.cal = s.cal ∧ s.restore op = (u.runRestore op 0 5).calError 0 := by
    by_cases ha : s.acFail = true
    · have hd : 5 ≤ (s.free 3).toNat := h.resolve_left (by simp [ha])
      refine ⟨s.used, rfl, ?_⟩
      simp only [State.restore, ha, hd, if_true, runRestore_of_five_le s.used op 0 hd]
    · refine ⟨s, rfl, ?_⟩
      simp only [State.restore, ha, if_false, le_refl, if_true, Bool.false_eq_true]
  obtain ⟨-, hprev, huser⟩ := runRestore_cal u op (Nat.zero_le 1)
  have hfact := runRestore_factory u op 0 5
  rw [hu] at hprev huser hfact
  rw [hr, cal_calError]
  exact ⟨huser, hprev, hfact, error_calError _ (by decide)⟩

/-- A restore that the loss of mains catches before its last step stays busy, with the sets and the journal of the step reached (R59). -/
theorem restore_caught {s : State} (op : CalOp) (ha : s.acFail = true) (hk : (s.free 3).toNat < 5) :
    (s.restore op).cal = { op.after s.cal (s.free 3).toNat with restoring := some (op, (s.free 3).toNat) } ∧
      (s.restore op).bit Fld.CAL_STATUS.BUSY = true := by
  simp only [State.restore, ha, if_true, if_neg (Nat.not_le.mpr hk)]
  refine ⟨?_, State.bit_setBit_same _ _ true rfl⟩
  rw [runRestore_after s.used op hk]
  rfl

/-- A restore given while mains is out, by the number of steps that it reaches: all five, or fewer (R59). -/
theorem restore_mainsOut {s : State} (op : CalOp) {k : Nat} (ha : s.acFail = true) (hf : (s.free 3).toNat = k) :
    (s.restore op).cal.factory = s.cal.factory ∧
      (5 ≤ k → (s.restore op).cal.user = op.source s.cal ∧ (s.restore op).cal.previous = s.cal.user ∧
        (s.restore op).fld Fld.CAL_STATUS.ERROR = 0) ∧
      (k < 5 → (s.restore op).bit Fld.CAL_STATUS.BUSY = true ∧ (s.restore op).cal.previous = (op.after s.cal k).previous ∧
        (s.restore op).cal.user = (op.after s.cal k).user ∧ (s.restore op).cal.journal = (op.after s.cal k).journal ∧
        (s.restore op).cal.restoring = some (op, k)) := by
  subst hf
  by_cases hk : (s.free 3).toNat < 5
  · obtain ⟨hc, hbusy⟩ := restore_caught op ha hk
    rw [hc]
    exact ⟨rfl, fun h5 => absurd h5 (Nat.not_le.mpr hk), fun _ => ⟨hbusy, rfl, rfl, rfl, rfl⟩⟩
  · obtain ⟨huser, hprev, hfact, herr⟩ := restore_completes op (.inr (Nat.not_lt.mp hk))
    exact ⟨hfact, fun _ => ⟨huser, hprev, herr⟩, fun h => absurd h hk⟩

theorem execRestoreFactory_due {s : State} (hb : s.bit Fld.CAL_STATUS.BUSY = false) (hv : s.calInUse s.cal.factory = true) :
    execRestoreFactory s = .next (s.restore .restoreFactory) :=
  (if_neg (by simp [hb])).trans (if_neg (by simp [hv]))

theorem execRestorePrevious_due {s : State} (hb : s.bit Fld.CAL_STATUS.BUSY = false) (hv : s.calInUse s.cal.previous = true) :
    execRestorePrevious s = .next (s.restore .restorePrevious) :=
  (if_neg (by simp [hb])).trans (if_neg (by simp [hv]))

theorem execFactoryCommit_due {s : State} (hb : s.bit Fld.CAL_STATUS.BUSY = false) (hl : s.bit Fld.CAL_STATUS.FACTORY_LOCKED = false) :
    execFactoryCommit s = .next (((({ s with cal := { s.cal with factory := s.cal.user } } : State).showCal).setBit
      Fld.CAL_STATUS.FACTORY_LOCKED true).calError 0) :=
  (if_neg (by simp [hb])).trans (if_neg (by simp [hl]))

/-- Settles O25: the key commands by the statements they accept, the restores by the step that they reach, the commit by what it copies. -/
theorem keysAndCalibrationTakeEffect : Obligations.KeysAndCalibrationTakeEffect := by
  refine ⟨?enrol, ?revoke, ?factory, ?factoryMainsOut, ?previous, ?previousMainsOut, ?commit⟩
  case enrol =>
    intro s iface st k h ht hk hp h0 hs hl
    exact ⟨_, execSigningKeyEnrol_accepted h ht hk hp h0 hs hl, keysSet_keys .., keysSet_error ..⟩
  case revoke =>
    intro s iface st k h ht hk hv hs hl hn hc
    exact ⟨_, execSigningKeyRevoke_accepted h ht hk hv hs hl hn hc, keysSet_keys .., keysSet_error ..⟩
  case factory =>
    intro s ha hb hv
    exact ⟨_, execRestoreFactory_due hb hv, restore_completes .restoreFactory (.inl ha)⟩
  case factoryMainsOut =>
    intro s k ha hb hv hf
    exact ⟨_, execRestoreFactory_due hb hv, restore_mainsOut .restoreFactory ha hf⟩
  case previous =>
    intro s ha hb hv
    exact ⟨_, execRestorePrevious_due hb hv, restore_completes .restorePrevious (.inl ha)⟩
  case previousMainsOut =>
    intro s k ha hb hv hf
    exact ⟨_, execRestorePrevious_due hb hv, restore_mainsOut .restorePrevious ha hf⟩
  case commit =>
    intro s hb hl
    have hc := (only_State_showCal { s with cal := { s.cal with factory := s.cal.user } }).cal rfl
    refine ⟨_, execFactoryCommit_due hb hl, (congrArg Cal.factory hc).trans rfl, (congrArg Cal.user hc).trans rfl, ?_,
      error_calError _ (by decide)⟩
    rw [State.calError, State.bit_setFld_ne _ _ _ _ (by decide), State.bit_setBit_same _ _ _ rfl]

end Sys2Proof.Machine

/-!
The built-in layouts (O9, O10): a run of instructions that do not branch is one rule about the lane, so that each program is evaluated once, on
any registers, and what is left is arithmetic on numbers below 2^64.
-/
namespace Sys2Proof.Machine

/-! ### Instructions in a straight line (R98) -/

/-- Instructions run one after the other on a lane, each going on to the next index. -/
inductive Straight (ts : List MapTable) : List FInstr → LaneSt → LaneSt → Prop
  | nil (l : LaneSt) : Straight ts [] l l
  | cons {i : FInstr} {is : List FInstr} {l l' t : LaneSt} (hs : fStep ts l i = .go l') (hp : l'.pc = l.pc + 1) (h : Straight ts is l' t) :
      Straight ts (i :: is) l t

/-- The words from an index on begin with the encodings of some instructions. -/
def CodeAt (ws : List Word) (pc : Nat) (is : List FInstr) : Prop := is.map some <+: (ws.drop pc).map fDecode

theorem codeAt_cons {ws : List Word} {pc : Nat} {i : FInstr} {is : List FInstr} (h : CodeAt ws pc (i :: is)) :
    (∃ w, ws[pc]? = some w ∧ fDecode w = some i) ∧ CodeAt ws (pc + 1) is := by
  unfold CodeAt at *
  rw [← List.drop_drop]
  rw [← List.head?_drop]
  cases hd : ws.drop pc with
  | nil => simp [hd] at h
  | cons w rest =>
    rw [hd, List.map_cons, List.map_cons, List.cons_prefix_cons] at h
    exact ⟨⟨w, rfl, h.1.symm⟩, h.2⟩

theorem Straight.append {ts : List MapTable} {is js : List FInstr} {l t u : LaneSt} (h : Straight ts is l t) (k : Straight ts js t u) :
    Straight ts (is ++ js) l u := by
  induction h with
  | nil => exact k
  | cons hs hp _ ih => exact .cons hs hp (ih k)

/-- A program that stands at the lane's index as a straight line and the EMIT after it ends with that EMIT. -/
theorem fRun_straight {n done : Nat} {ws : List Word} {ts : List MapTable} {is : List FInstr} {l t : LaneSt} {ra rb : XReg}
    (h : Straight ts is l t) (hc : CodeAt ws l.pc (is ++ [.emit ra rb])) :
    ∃ pc steps, fRun (n + 1 + is.length) ws ts l done = .emit (t.x ra).toNat (t.x rb).toNat t.dz pc steps := by
  induction h generalizing done with
  | nil l =>
    obtain ⟨⟨w, hw, hd⟩, -⟩ := codeAt_cons hc
    refine ⟨l.pc, done + 1, ?_⟩
    simp only [List.length_nil, Nat.add_zero, fRun, hw, hd, fStep]
  | @cons i is l l' t hs hp _ ih =>
    obtain ⟨⟨w, hw, hd⟩, hrest⟩ := codeAt_cons hc
    obtain ⟨pc, steps, hrun⟩ := ih (done := done + 1) (hp ▸ hrest)
    refine ⟨pc, steps, ?_⟩
    rw [← hrun, List.length_cons, ← Nat.add_assoc, fRun]
    have hn : n + 1 + is.length ≠ 0 := by omega
    simp only [hw, hd, hs, hn, if_false]

/-- A unit whose inputs are in range is mapped by a straight line at the map entry whose EMIT passes its checks (R94, R99). -/
theorem mapUnit_straight {g : Geom} {s u m o : Nat} {is : List FInstr} {t : LaneSt} {ra rb : XReg} (hs : s < g.stripeCount) (hu : u ≤ g.k + 1)
    (h : Straight g.tables is ⟨entryRegs g s u, false, false, g.prog.entryMap⟩ t)
    (hc : CodeAt g.prog.words g.prog.entryMap (is ++ [.emit ra rb])) (hl : is.length < 512) (hm : (t.x ra).toNat = m) (ho : (t.x rb).toNat = o)
    (hk : emitCheck g m o t.dz = .ok (m, o)) : mapUnit g false s u = some (m, o) := by
  have hin : inputOk g false s u = true := by simp [inputOk, hs, hu]
  obtain ⟨pc, steps, hrun⟩ := fRun_straight (n := 511 - is.length) (done := 0) h hc
  rw [show 511 - is.length + 1 + is.length = 512 by omega, hm, ho] at hrun
  simp only [mapUnit, mapEntry, runEntry, hin, if_true, Bool.false_eq_true, if_false, hrun, hk]

/-- EMIT takes a whole row within a member (R99). -/
theorem emitCheck_row {g : Geom} {m row : Nat} (hm : m < g.n) (hc : 0 < g.c) (hr : row * g.c + g.c ≤ g.dataSectors) :
    emitCheck g m (row * g.c) false = .ok (m, row * g.c) := by
  have : ¬ (g.c = 0 ∨ row * g.c % g.c ≠ 0 ∨ g.dataSectors < row * g.c + g.c) := by
    simp only [Nat.mul_mod_left, ne_eq, not_true_eq_false, false_or, not_or]
    omega
  simp only [emitCheck, Bool.false_eq_true, if_false, Nat.not_le.mpr hm, this]

/-! ### The conventional program (R105) -/

/-- The conventional program's instructions before its EMIT. -/
def conventionalLine : List FInstr :=
  [.alu .remu 9 0 3, .alu .sub 10 3 9, .alu .add 10 10 1, .alui .add 10 10 1, .alu .remu 10 10 3, .alu .mul 11 0 4]

theorem codeAt_conventional : CodeAt conventionalWords 0 (conventionalLine ++ [.emit 10 11]) := by
  unfold CodeAt; decide +kernel

theorem straight_conventional (ts : List MapTable) (l : LaneSt) (hn : l.x 3#4 ≠ 0#64) :
    ∃ t, Straight ts conventionalLine l t ∧ t.x 10 = (l.x 3 - l.x 0 % l.x 3 + l.x 1 + 1) % l.x 3 ∧ t.x 11 = l.x 0 * l.x 4 ∧ t.dz = l.dz := by
  refine ⟨_, .cons rfl rfl (.cons rfl rfl (.cons rfl rfl (.cons rfl rfl (.cons rfl rfl (.cons rfl rfl (.nil _)))))), ?_, ?_, ?_⟩ <;>
    simp [LaneSt.wr, aluRun, hn, immOf, shiftOp]

theorem ofNat_ne_zero_of_lt {n : Nat} (h0 : 0 < n) (hn : n < 2 ^ 64) : BitVec.ofNat 64 n ≠ 0#64 := by bv_omega

theorem toNat_ofNat_of_lt {n : Nat} (hn : n < 2 ^ 64) : (BitVec.ofNat 64 n).toNat = n := Nat.mod_eq_of_lt hn

theorem ofNat_umod {a b : Nat} (ha : a < 2 ^ 64) (hb : b < 2 ^ 64) : BitVec.ofNat 64 a % BitVec.ofNat 64 b = BitVec.ofNat 64 (a % b) := by
  apply BitVec.eq_of_toNat_eq
  rw [BitVec.toNat_umod, toNat_ofNat_of_lt ha, toNat_ofNat_of_lt hb, toNat_ofNat_of_lt ((Nat.mod_le a b).trans_lt ha)]

theorem ofNat_udiv {a b : Nat} (ha : a < 2 ^ 64) (hb : b < 2 ^ 64) : BitVec.ofNat 64 a / BitVec.ofNat 64 b = BitVec.ofNat 64 (a / b) := by
  apply BitVec.eq_of_toNat_eq
  rw [BitVec.toNat_udiv, toNat_ofNat_of_lt ha, toNat_ofNat_of_lt hb, toNat_ofNat_of_lt ((Nat.div_le_self a b).trans_lt ha)]

/-- R65's member of a unit, as the conventional program computes it on 64 bits. -/
theorem conventional_member {n s u : Nat} (h0 : 0 < n) (hn : n < 2 ^ 63) (hs : s < 2 ^ 64) (hu : u < n) :
    ((BitVec.ofNat 64 n - BitVec.ofNat 64 s % BitVec.ofNat 64 n + BitVec.ofNat 64 u + 1) % BitVec.ofNat 64 n).toNat =
      (n - 1 - s % n + 2 + u) % n := by
  have hr : s % n < n := Nat.mod_lt _ h0
  have hsum : BitVec.ofNat 64 n - BitVec.ofNat 64 (s % n) + BitVec.ofNat 64 u + 1 = BitVec.ofNat 64 (n - 1 - s % n + 2 + u) := by
    generalize s % n = r at hr
    bv_omega
  rw [ofNat_umod hs (by omega), hsum, ofNat_umod (by omega) (by omega), toNat_ofNat_of_lt]
  exact (Nat.mod_lt _ h0).trans (by omega)

/-- A row of a member lies below 2^64 sectors. -/
theorem row_lt {c row d : Nat} (hc : 0 < c) (h : row * c + c ≤ d) (hd : d < 2 ^ 64) : row < 2 ^ 64 := by
  have := Nat.le_mul_of_pos_right row hc
  omega

theorem toNat_row {c row d : Nat} (h : row * c + c ≤ d) (hd : d < 2 ^ 64) : (BitVec.ofNat 64 row * BitVec.ofNat 64 c).toNat = row * c := by
  rw [← BitVec.ofNat_mul, toNat_ofNat_of_lt (by omega)]

/-- Settles O9: the conventional program's line gives R65's member and row. -/
theorem conventionalProgramMapsUnits : Obligations.ConventionalProgramMapsUnits := by
  intro g s u hp hk hn hc hs hu hrow hd
  have hpos : 0 < g.n := by omega
  have hn64 : g.n < 2 ^ 64 := by omega
  obtain ⟨t, hline, hx, ho, hz⟩ := straight_conventional g.tables ⟨entryRegs g s u, false, false, g.prog.entryMap⟩
    (ofNat_ne_zero_of_lt hpos hn64)
  have hun : u < g.n := by omega
  refine mapUnit_straight (ra := 10) (rb := 11) hs hu hline (by rw [hp]; exact codeAt_conventional) (by decide) ?_ ?_ ?_
  · rw [hx]; exact conventional_member hpos hn (row_lt hc hrow hd) hun
  · rw [ho]; exact toNat_row hrow hd
  · rw [hz]; exact emitCheck_row (Nat.mod_lt _ hpos) hc hrow

/-! ### The declustered program (R106) -/

/-- The declustered program up to the row and column of the unit's table entry (R106). -/
def locateLine : List FInstr :=
  [.alui .add 8 2 2, .alu .divu 9 0 6, .alu .remu 10 0 6, .alu .mul 11 10 8, .alu .add 11 11 1, .alu .divu 12 11 3, .alu .remu 13 11 3]

/-- The declustered program from the table entry to the unit's sector (R106). -/
def placeLine : List FInstr := [.tbl 14 12 13 0, .alu .mul 15 9 7, .alu .add 15 15 12, .alu .mul 15 15 4]

theorem codeAt_declustered : CodeAt declusteredWords 0 (locateLine ++ placeLine ++ [.emit 14 15]) := by
  unfold CodeAt; decide +kernel

theorem straight_locate (ts : List MapTable) (l : LaneSt) (hS : l.x 6#4 ≠ 0#64) (hn : l.x 3#4 ≠ 0#64) :
    ∃ t, Straight ts locateLine l t ∧ t.x 9 = l.x 0 / l.x 6 ∧ t.x 12 = (l.x 0 % l.x 6 * (l.x 2 + 2) + l.x 1) / l.x 3 ∧
      t.x 13 = (l.x 0 % l.x 6 * (l.x 2 + 2) + l.x 1) % l.x 3 ∧ t.x 7 = l.x 7 ∧ t.x 4 = l.x 4 ∧ t.dz = l.dz := by
  refine ⟨_, .cons rfl rfl (.cons rfl rfl (.cons rfl rfl (.cons rfl rfl (.cons rfl rfl (.cons rfl rfl (.cons rfl rfl (.nil _))))))),
    ?_, ?_, ?_, ?_, ?_, ?_⟩ <;> simp [LaneSt.wr, aluRun, hn, hS, immOf, shiftOp]

theorem fStep_tbl {ts : List MapTable} {l : LaneSt} {rd ra rb : XReg} {tid : BitVec 6} {m : Nat}
    (h : tblEntry ts tid.toNat (l.x ra).toNat (l.x rb).toNat = some m) :
    fStep ts l (.tbl rd ra rb tid) = .go { l.wr rd (BitVec.ofNat 64 m) with pc := l.pc + 1 } := by
  simp only [fStep, h]

theorem straight_place {ts : List MapTable} {l : LaneSt} {m : Nat} (h : tblEntry ts 0 (l.x 12).toNat (l.x 13).toNat = some m) :
    ∃ t, Straight ts placeLine l t ∧ t.x 14 = BitVec.ofNat 64 m ∧ t.x 15 = (l.x 9 * l.x 7 + l.x 12) * l.x 4 ∧ t.dz = l.dz := by
  refine ⟨_, .cons (fStep_tbl h) rfl (.cons rfl rfl (.cons rfl rfl (.cons rfl rfl (.nil _)))), ?_, ?_, ?_⟩ <;> simp [LaneSt.wr, aluRun]

theorem tblEntry_of_row_col {t : MapTable} {i m : Nat} (hc : 0 < t.cols) (hi : i < t.cols * t.rows) (h : t.entries[i]? = some m) :
    tblEntry [t] 0 (i / t.cols) (i % t.cols) = some m := by
  have hr : i / t.cols < t.rows := Nat.div_lt_of_lt_mul hi
  simp only [tblEntry, List.getElem?_cons_zero, hr, Nat.mod_lt i hc, and_self, if_true, Nat.div_add_mod', h]

/-- A unit's entry lies within the entries of its period. -/
theorem entry_lt {S k s u : Nat} (hS : 0 < S) (hu : u ≤ k + 1) : s % S * (k + 2) + u < S * (k + 2) := by
  have h : s % S + 1 ≤ S := Nat.mod_lt s hS
  calc s % S * (k + 2) + u < (s % S + 1) * (k + 2) := by rw [Nat.add_mul]; omega
    _ ≤ S * (k + 2) := Nat.mul_le_mul_right _ h

/-- Settles O10: the entry's number stays below the table's size, so that no step of the declustered program wraps. -/
theorem declusteredProgramMapsUnits : Obligations.DeclusteredProgramMapsUnits := by
  intro g pt x s u m hp ht hrows hcols hk hn hn64 hc hS hfit hsize hs hsc hu hrow hd he hm
  have hS64 : g.periodStripes < 2 ^ 64 := ((Nat.le_mul_of_pos_right _ (by omega)).trans hfit).trans_lt hsize
  have hs64 : s < 2 ^ 64 := hs.trans hsc
  have hi := (entry_lt (s := s) hS hu).trans_le hfit
  set i := s % g.periodStripes * (g.k + 2) + u with hidef
  have hword : BitVec.ofNat 64 s % BitVec.ofNat 64 g.periodStripes * (BitVec.ofNat 64 g.k + 2) + BitVec.ofNat 64 u = BitVec.ofNat 64 i := by
    rw [ofNat_umod hs64 hS64, hidef, BitVec.ofNat_add, BitVec.ofNat_mul, BitVec.ofNat_add]
    rfl
  obtain ⟨t, hloc, h9, h12, h13, h7, h4, hz⟩ := straight_locate g.tables ⟨entryRegs g s u, false, false, g.prog.entryMap⟩
    (ofNat_ne_zero_of_lt hS hS64) (ofNat_ne_zero_of_lt hn hn64)
  replace h12 : t.x 12 = BitVec.ofNat 64 (i / g.n) := by rw [h12, ← ofNat_udiv (hi.trans hsize) hn64, ← hword]; rfl
  replace h13 : t.x 13 = BitVec.ofNat 64 (i % g.n) := by rw [h13, ← ofNat_umod (hi.trans hsize) hn64, ← hword]; rfl
  replace h9 : t.x 9 = BitVec.ofNat 64 (s / g.periodStripes) := by rw [h9, ← ofNat_udiv hs64 hS64]; rfl
  obtain ⟨v, hplace, h14, h15, hvz⟩ := straight_place (ts := g.tables) (l := t) (m := m) (by
    rw [h12, h13, toNat_ofNat_of_lt ((Nat.div_le_self _ _).trans_lt (hi.trans hsize)), toNat_ofNat_of_lt ((Nat.mod_lt _ hn).trans hn64), ht, ← hcols]
    exact tblEntry_of_row_col (hcols ▸ hn) (by rwa [hcols, hrows]) he)
  refine mapUnit_straight (ra := 14) (rb := 15) hs hu (hloc.append hplace) (by rw [hp]; exact codeAt_declustered) (by decide) ?_ ?_ ?_
  · rw [h14, toNat_ofNat_of_lt (hm.trans hn64)]
  · rw [h15, h9, h7, h12, h4, ← toNat_row hrow hd, BitVec.ofNat_add, BitVec.ofNat_mul]; rfl
  · rw [hvz, hz]; exact emitCheck_row hm hc hrow

end Sys2Proof.Machine

/-!
The field of R71 and its parity bytes (O11, O16): a product by g^i is i doublings, doubling distributes over the sum and has order 255 on every
byte, so every byte but 0 is a power of g and has an inverse.
-/
namespace Sys2Proof.Machine

/-! ### Doubling (R71) -/

/-- What a doubling takes away for the bit that it shifts out. -/
def gfFold (msb : Bool) : BitVec 8 := if msb then 0x1D#8 else 0#8

theorem gfFold_xor : ∀ p q : Bool, gfFold (p ^^ q) = gfFold p ^^^ gfFold q := by decide

theorem gfX2_eq (a : BitVec 8) : gfX2 a = (a <<< 1) ^^^ gfFold a.msb := by
  unfold gfX2 gfFold; split <;> simp

theorem gfX2_xor (a b : BitVec 8) : gfX2 (a ^^^ b) = gfX2 a ^^^ gfX2 b := by
  rw [gfX2_eq, gfX2_eq a, gfX2_eq b, BitVec.msb_xor, BitVec.shiftLeft_xor_distrib, gfFold_xor]
  ac_rfl

theorem gfX2_zero : gfX2 0#8 = 0#8 := by decide

theorem gfX2_iterate_zero (n : Nat) : gfX2^[n] 0#8 = 0#8 := Function.iterate_fixed gfX2_zero n

theorem gfExp_eq_iterate (i : Nat) : gfExp i = gfX2^[i] 1#8 := by
  induction i with
  | zero => rfl
  | succ i ih => rw [gfExp, ih, Function.iterate_succ_apply']

/-! ### Products (R71, R72) -/

theorem gfMulAux_xor (n : Nat) (a c b p q : BitVec 8) :
    gfMulAux n (a ^^^ c) b (p ^^^ q) = gfMulAux n a b p ^^^ gfMulAux n c b q := by
  induction n generalizing a c b p q with
  | zero => rfl
  | succ n ih =>
    simp only [gfMulAux, gfX2_xor]
    split
    · rw [← ih]; congr 1; ac_rfl
    · exact ih ..

theorem gfMul_xor (a c b : BitVec 8) : gfMul (a ^^^ c) b = gfMul a b ^^^ gfMul c b := gfMulAux_xor 8 a c b 0#8 0#8

theorem gfMulAux_gfX2 (n : Nat) (a b p : BitVec 8) : gfMulAux n (gfX2 a) b (gfX2 p) = gfX2 (gfMulAux n a b p) := by
  induction n generalizing a b p with
  | zero => rfl
  | succ n ih =>
    simp only [gfMulAux]
    split
    · rw [← gfX2_xor, ih]
    · exact ih ..

theorem gfMul_gfX2 (a b : BitVec 8) : gfMul (gfX2 a) b = gfX2 (gfMul a b) := gfMulAux_gfX2 8 a b 0#8

theorem one_gfMul : ∀ b : BitVec 8, gfMul 1#8 b = b := by decide +kernel

theorem gfMul_gfExp (i : Nat) (b : BitVec 8) : gfMul (gfExp i) b = gfX2^[i] b := by
  induction i with
  | zero => exact one_gfMul b
  | succ i ih => rw [gfExp, gfMul_gfX2, ih, Function.iterate_succ_apply']

theorem zero_gfMul (b : BitVec 8) : gfMul 0#8 b = 0#8 := by
  have h := gfMul_xor 0#8 0#8 b
  rwa [BitVec.xor_self, BitVec.xor_self] at h

theorem gfMul_zero : ∀ a : BitVec 8, gfMul a 0#8 = 0#8 := by decide +kernel

/-! ### Powers of g (R71) -/

theorem gfExp_255 : gfExp 255 = 1#8 := by decide +kernel

theorem gfX2_iterate_255 (b : BitVec 8) : gfX2^[255] b = b := by
  rw [← gfMul_gfExp, gfExp_255, one_gfMul]

theorem gfExp_divisors_255 : ∀ d ∈ Nat.divisors 255, gfExp d = 1#8 → d = 255 := by decide +kernel

theorem minimalPeriod_gfX2 : Function.minimalPeriod gfX2 1#8 = 255 := by
  have hdvd : Function.minimalPeriod gfX2 1#8 ∣ 255 := Function.IsPeriodicPt.minimalPeriod_dvd (gfX2_iterate_255 1#8)
  exact gfExp_divisors_255 _ (Nat.mem_divisors.mpr ⟨hdvd, by decide⟩)
    ((gfExp_eq_iterate _).trans (Function.isPeriodicPt_minimalPeriod gfX2 1#8))

theorem gfExp_injOn : Set.InjOn gfExp (Set.Iio 255) := by
  have h : Set.InjOn (fun i => gfX2^[i] 1#8) (Set.Iio (Function.minimalPeriod gfX2 1#8)) := Function.iterate_injOn_Iio_minimalPeriod
  rw [minimalPeriod_gfX2] at h
  exact h.congr (fun i _ => (gfExp_eq_iterate i).symm)

theorem gfExp_add (i j : Nat) : gfExp (i + j) = gfX2^[i] (gfExp j) := by
  rw [gfExp_eq_iterate, gfExp_eq_iterate, Function.iterate_add_apply]

theorem gfExp_ne_zero (i : Nat) : gfExp i ≠ 0#8 := by
  intro h
  have hper : gfX2^[i * 254] (gfExp i) = 1#8 := by
    rw [← gfExp_add, show i * 254 + i = 255 * i by ring, gfExp_eq_iterate, Function.iterate_mul]
    exact Function.iterate_fixed (gfX2_iterate_255 1#8) i
  rw [h, gfX2_iterate_zero] at hper
  exact absurd hper (by decide)

/-- Every byte but 0 is a power of g, as the 255 powers differ. -/
theorem exists_gfExp {a : BitVec 8} (h : a ≠ 0#8) : ∃ i < 255, gfExp i = a := by
  have himage : (Finset.range 255).image gfExp = Finset.univ.erase 0#8 := by
    refine Finset.eq_of_subset_of_card_le (fun b hb => ?_) ?_
    · obtain ⟨i, -, rfl⟩ := Finset.mem_image.mp hb
      exact Finset.mem_erase.mpr ⟨gfExp_ne_zero i, Finset.mem_univ _⟩
    · rw [Finset.card_image_of_injOn (by simpa using gfExp_injOn), Finset.card_erase_of_mem (Finset.mem_univ _), Finset.card_range,
        Finset.card_univ, ← FinEnum.card_eq_fintypeCard, FinEnum.card_bitVec]
      decide
  have ha : a ∈ (Finset.range 255).image gfExp := by rw [himage]; exact Finset.mem_erase.mpr ⟨h, Finset.mem_univ _⟩
  obtain ⟨i, hi, hia⟩ := Finset.mem_image.mp ha
  exact ⟨i, Finset.mem_range.mp hi, hia⟩

theorem gfMul_comm (a b : BitVec 8) : gfMul a b = gfMul b a := by
  by_cases ha : a = 0#8
  · rw [ha, zero_gfMul, gfMul_zero]
  by_cases hb : b = 0#8
  · rw [hb, zero_gfMul, gfMul_zero]
  obtain ⟨i, -, rfl⟩ := exists_gfExp ha
  obtain ⟨j, -, rfl⟩ := exists_gfExp hb
  rw [gfMul_gfExp, gfMul_gfExp, ← gfExp_add, ← gfExp_add, Nat.add_comm]

theorem gfMul_xor_right (a b c : BitVec 8) : gfMul a (b ^^^ c) = gfMul a b ^^^ gfMul a c := by
  rw [gfMul_comm, gfMul_xor, gfMul_comm b, gfMul_comm c]

/-! ### Inverses (R72) -/

theorem gfLog_spec {a : BitVec 8} (h : a ≠ 0#8) : gfLog a < 255 ∧ gfExp (gfLog a) = a := by
  obtain ⟨i, hi, hia⟩ := exists_gfExp h
  have hf : ((List.range 255).find? (fun i => gfExp i = a)).isSome := by
    rw [List.find?_isSome]; exact ⟨i, List.mem_range.mpr hi, by simpa using hia⟩
  obtain ⟨j, hj⟩ := Option.isSome_iff_exists.mp hf
  have hlog : gfLog a = j := by rw [gfLog, hj]; rfl
  rw [hlog]
  exact ⟨List.mem_range.mp (List.mem_of_find?_eq_some hj), by simpa using List.find?_some hj⟩

theorem gfInv_gfMul {a : BitVec 8} (h : a ≠ 0#8) (d : BitVec 8) : gfMul (gfInv a) (gfMul a d) = d := by
  obtain ⟨hlt, hexp⟩ := gfLog_spec h
  have hmul : gfMul a d = gfX2^[gfLog a] d := by rw [← gfMul_gfExp, hexp]
  rw [gfInv, gfMul_gfExp, hmul, ← Function.iterate_add_apply]
  rcases Nat.eq_zero_or_pos (gfLog a) with h0 | hpos
  · rw [h0]; rfl
  · rw [Nat.mod_eq_of_lt (by omega), Nat.sub_add_cancel hlt.le, gfX2_iterate_255]

/-! ### P and Q of one byte position (R71, R72) -/

theorem xor_xor_self (a b : BitVec 8) : a ^^^ (a ^^^ b) = b := by
  rw [← BitVec.xor_assoc, BitVec.xor_self, BitVec.zero_xor]

/-- A term of a sum replaced by another. -/
theorem xor_replace (a d v : BitVec 8) : a ^^^ v = a ^^^ d ^^^ (d ^^^ v) := by
  rw [BitVec.xor_assoc, xor_xor_self]

theorem genP_set {ds : List (BitVec 8)} {x : Nat} {d : BitVec 8} (h : ds[x]? = some d) (v : BitVec 8) :
    genP (ds.set x v) = genP ds ^^^ (d ^^^ v) := by
  induction ds generalizing x with
  | nil => cases h
  | cons e ds ih =>
    cases x with
    | zero =>
      cases h
      calc v ^^^ genP ds = genP ds ^^^ v := BitVec.xor_comm ..
        _ = genP ds ^^^ d ^^^ (d ^^^ v) := xor_replace ..
        _ = d ^^^ genP ds ^^^ (d ^^^ v) := by rw [BitVec.xor_comm d (genP ds)]
    | succ x => calc
        e ^^^ genP (ds.set x v) = e ^^^ (genP ds ^^^ (d ^^^ v)) := by rw [ih h]
        _ = e ^^^ genP ds ^^^ (d ^^^ v) := (BitVec.xor_assoc ..).symm

theorem genQ_set {ds : List (BitVec 8)} {x : Nat} {d : BitVec 8} (h : ds[x]? = some d) (v : BitVec 8) :
    genQ (ds.set x v) = genQ ds ^^^ gfMul (gfExp x) (d ^^^ v) := by
  induction ds generalizing x with
  | nil => cases h
  | cons e ds ih =>
    cases x with
    | zero =>
      cases h
      rw [gfExp, one_gfMul]
      exact xor_replace ..
    | succ x => calc
        gfX2 (genQ (ds.set x v)) ^^^ e = gfX2 (genQ ds) ^^^ gfMul (gfExp (x + 1)) (d ^^^ v) ^^^ e := by
          rw [ih h, gfX2_xor, gfExp, gfMul_gfX2]
        _ = gfX2 (genQ ds) ^^^ e ^^^ gfMul (gfExp (x + 1)) (d ^^^ v) := by ac_rfl

theorem genP_xor_lost {ds : List (BitVec 8)} {x : Nat} {d : BitVec 8} (h : ds[x]? = some d) : genP ds ^^^ genP (ds.set x 0) = d := by
  rw [genP_set h, xor_xor_self]
  exact BitVec.xor_zero

theorem genQ_xor_lost {ds : List (BitVec 8)} {x : Nat} {d : BitVec 8} (h : ds[x]? = some d) :
    genQ ds ^^^ genQ (ds.set x 0) = gfMul (gfExp x) d := by
  rw [genQ_set h, xor_xor_self]
  exact congrArg (gfMul (gfExp x)) BitVec.xor_zero

/-- A sum less its surviving terms is that of the two lost ones. -/
theorem xor_of_xor_steps {a b c p q : BitVec 8} (h : a ^^^ b = p) (k : b ^^^ c = q) : a ^^^ c = p ^^^ q := by
  rw [← h, ← k, BitVec.xor_assoc, xor_xor_self]

/-- R72's two equations have R72's solution. -/
theorem solveDD_of_sums {x y : Nat} (hne : gfExp x ≠ gfExp y) (dx dy : BitVec 8) :
    solveDD x y (dx ^^^ dy) (gfMul (gfExp x) dx ^^^ gfMul (gfExp y) dy) = (dx, dy) := by
  have hsum : gfExp x ^^^ gfExp y ≠ 0#8 := fun h => hne (BitVec.xor_eq_zero_iff.mp h)
  have hx : gfMul (gfExp x) dx ^^^ gfMul (gfExp y) dy ^^^ gfMul (gfExp y) (dx ^^^ dy) = gfMul (gfExp x ^^^ gfExp y) dx := by
    rw [gfMul_xor_right, gfMul_xor, BitVec.xor_comm (gfMul (gfExp y) dx), BitVec.xor_assoc, xor_xor_self]
  rw [solveDD, hx, gfMul_comm, gfInv_gfMul hsum, BitVec.xor_comm (dx ^^^ dy), xor_xor_self]

theorem solveDQ_gfMul (x : Nat) (d : BitVec 8) : solveDQ x (gfMul (gfExp x) d) = d := gfInv_gfMul (gfExp_ne_zero x) d

/-- Settles O11: the sums less their surviving terms are R72's two equations, and g^x and g^y differ. -/
theorem twoLostUnitsAreSolved : Obligations.TwoLostUnitsAreSolved := by
  refine ⟨fun ds x y dx dy hlen hxy hx hy => ?_, fun ds x dx _ hx => ?_⟩
  · have hy46 : y < ds.length := (List.getElem?_eq_some_iff.mp hy).1
    have hset : (ds.set x 0)[y]? = some dy := by rw [List.getElem?_set_ne (by omega), hy]
    have hne : gfExp x ≠ gfExp y := fun h => absurd (gfExp_injOn (Set.mem_Iio.mpr (by omega)) (Set.mem_Iio.mpr (by omega)) h) (by omega)
    rw [xor_of_xor_steps (genP_xor_lost hx) (genP_xor_lost hset), xor_of_xor_steps (genQ_xor_lost hx) (genQ_xor_lost hset)]
    exact solveDD_of_sums hne dx dy
  · exact ⟨by rw [genQ_xor_lost hx, solveDQ_gfMul], genP_xor_lost hx⟩

/-! ### P and Q of a row (R71) -/

theorem gfX2_foldr_xor (l : List (BitVec 8)) : gfX2 (l.foldr (· ^^^ ·) 0) = (l.map gfX2).foldr (· ^^^ ·) 0 := by
  induction l with
  | nil => exact gfX2_zero
  | cons a l ih => rw [List.foldr_cons, gfX2_xor, ih]; rfl

theorem genQ_eq_sum (ds : List (BitVec 8)) :
    genQ ds = ((List.range ds.length).map (fun i => gfMul (gfExp i) (ds.getD i 0))).foldr (· ^^^ ·) 0 := by
  induction ds with
  | nil => rfl
  | cons d ds ih =>
    have hshift : (List.range ds.length).map (fun i => gfMul (gfExp (i + 1)) ((d :: ds).getD (i + 1) 0)) =
        ((List.range ds.length).map (fun i => gfMul (gfExp i) (ds.getD i 0))).map gfX2 := by
      rw [List.map_map]
      exact List.map_congr_left (fun i _ => gfMul_gfX2 ..)
    rw [List.length_cons, List.range_succ_eq_map, List.map_cons, List.map_map, List.foldr_cons]
    calc gfX2 (genQ ds) ^^^ d = d ^^^ gfX2 (genQ ds) := BitVec.xor_comm ..
      _ = gfMul (gfExp 0) d ^^^ gfX2 (genQ ds) := by rw [gfExp, one_gfMul]
      _ = _ := by rw [ih, gfX2_foldr_xor, ← hshift]; rfl

/-- Byte b of a sector with its tag bytes. -/
def byteAt (b : Nat) (x : Blob) : BitVec 8 := BitVec.ofNat 8 (x / 256 ^ b)

theorem byteAt_xor (b x y : Nat) : byteAt b (Nat.xor x y) = byteAt b x ^^^ byteAt b y := by
  have h : (256 : Nat) ^ b = 2 ^ (8 * b) := by rw [pow_mul]; rfl
  simp only [byteAt, h, ← Nat.shiftRight_eq_div_pow]
  rw [← BitVec.ofNat_xor, ← Nat.shiftRight_xor_distrib]
  rfl

theorem byteAt_ofBytes {l : List Nat} {b v : Nat} (h : l[b]? = some v) : byteAt b (ofBytes l) = BitVec.ofNat 8 v := by
  induction l generalizing b with
  | nil => cases h
  | cons w l ih =>
    cases b with
    | zero =>
      cases h
      apply BitVec.eq_of_toNat_eq
      simp [byteAt, ofBytes]
    | succ b =>
      rw [← ih h, byteAt, byteAt, ofBytes, Nat.pow_succ', ← Nat.div_div_eq_div_mul]
      congr 2
      omega

theorem byteAt_mapBytes {n b : Nat} (hb : b < n) (f : BitVec 8 → BitVec 8) (x : Blob) : byteAt b (mapBytes n f x) = f (byteAt b x) := by
  have hget : ((leBytes n x).map (fun v => (f (BitVec.ofNat 8 v)).toNat))[b]? = some (f (BitVec.ofNat 8 (byteOf x b))).toNat := by
    simp [leBytes, hb]
  rw [mapBytes, byteAt_ofBytes hget, BitVec.ofNat_toNat, BitVec.setWidth_eq, byteOf, byteAt]
  congr 1
  apply BitVec.eq_of_toNat_eq
  simp

theorem byteAt_rowP (b : Nat) (ds : List Blob) : byteAt b (rowP ds) = genP (ds.map (byteAt b)) := by
  induction ds with
  | nil => simp [rowP, genP, byteAt]
  | cons d ds ih => exact (byteAt_xor b d (rowP ds)).trans (by rw [ih]; rfl)

theorem rowQ_cons (d : Blob) (ds : List Blob) : rowQ (d :: ds) = Nat.xor (mapBytes parityBytes gfX2 (rowQ ds)) d := by
  rw [rowQ, List.foldr_cons, rowQ]

theorem byteAt_rowQ {b : Nat} (hb : b < parityBytes) (ds : List Blob) : byteAt b (rowQ ds) = genQ (ds.map (byteAt b)) := by
  induction ds with
  | nil => simp [rowQ, genQ, byteAt]
  | cons d ds ih => rw [rowQ_cons, byteAt_xor, byteAt_mapBytes hb, ih]; rfl

/-- Settles O16: each sum of R71 is followed unit by unit, and g^0 to g^254 are distinct. -/
theorem parityBytesAreTheSumsOfR71 : Obligations.ParityBytesAreTheSumsOfR71 :=
  ⟨genQ_eq_sum, fun ds b hb => ⟨byteAt_rowP b ds, byteAt_rowQ hb ds⟩,
    fun i j hi hj h => gfExp_injOn (Set.mem_Iio.mpr (by omega)) (Set.mem_Iio.mpr (by omega)) h⟩

end Sys2Proof.Machine

/-!
The background work of an array (O35): what a write of an array, its members or its labels leaves of the array, once each; then the state that
each background command answers where it is due.
-/
namespace Sys2Proof.Machine

/-! ### Arrays of the state -/

theorem Only.arr {l : List Part} {s t : State} (h : Only l s t) (hl : l.contains .rbe = false) (a : ArrayId) : t.arr a = s.arr a := by
  have hr : t.rbe = s.rbe := h .rbe hl
  rw [State.arr, State.arr, hr]

@[simp] theorem arr_putArr_same (s : State) (a : ArrayId) (r : Arr) : (s.putArr a r).arr a = some r := tget_tput_same ..

@[simp] theorem arr_emit (s : State) (e : Ev) (p : List Nat) (a : ArrayId) : (s.emit e p).arr a = s.arr a := rfl

theorem listLost_arr (s : State) (f : LostEntry) (a : ArrayId) : (s.listLost f).arr a = s.arr a := by
  unfold State.listLost
  split
  · rfl
  · split <;> rfl

theorem arr_foldl {α : Type} {f : State → α → State} {a : ArrayId} (hf : ∀ st x, (f st x).arr a = st.arr a) (s : State) (l : List α) :
    (l.foldl f s).arr a = s.arr a := by
  induction l generalizing s with
  | nil => rfl
  | cons x l ih => rw [List.foldl_cons, ih, hf]

theorem thirdMissing_arr (s : State) (a b : ArrayId) : (s.thirdMissing a).arr b = s.arr b := by
  unfold State.thirdMissing
  split
  · rfl
  · dsimp only
    split
    · rfl
    · rw [(only_State_reportNamespaces _ _ _).arr rfl, listLost_arr]

theorem listStepLost_arr (s : State) (a : ArrayId) (g : Geom) (t : Nat) (lost : List Nat) (b : ArrayId) :
    (s.listStepLost a g t lost).arr b = s.arr b := by
  refine arr_foldl (fun st row => ?_) s _
  dsimp only
  split
  · rfl
  · rw [arr_foldl (fun x u => (only_State_reportLost x a _).arr rfl b), (only_State_mirror _ _).arr rfl, listLost_arr]

/-! ### Label rewrites (R86) -/

/-- Arrays that differ at most in their label rewrites. -/
def SameButLabels (r q : Arr) : Prop :=
  ∃ jobs seq again, q = { r with labelJobs := jobs, labelSeq := seq, labelAgain := again }

theorem rewriteLabels_arr {s : State} {a : ArrayId} {r : Arr} (h : s.arr a = some r) :
    ∃ q, (s.rewriteLabels a).arr a = some q ∧ SameButLabels r q := by
  simp only [State.rewriteLabels, h]
  split
  · exact ⟨_, arr_putArr_same .., _, _, _, rfl⟩
  · refine ⟨_, (arr_foldl (fun st j => (only_State_askLabel st a _ j).arr rfl a) _ _).trans (arr_putArr_same ..), _, _, _, rfl⟩

theorem foldl_askLabel_rbe (s : State) (a : ArrayId) (r : Arr) (l : List LabelJob) :
    (l.foldl (fun (st : State) j => st.askLabel a r j) s).rbe = s.rbe := by
  induction l generalizing s with
  | nil => rfl
  | cons j l ih => rw [List.foldl_cons, ih, only_State_askLabel s a r j .rbe rfl]

theorem mediaOf_rewriteLabels (s : State) (a : ArrayId) (p : PortId) : (s.rewriteLabels a).mediaOf p = s.mediaOf p := by
  have hm : (s.rewriteLabels a).rbe.media = s.rbe.media := by
    unfold State.rewriteLabels
    split
    · rfl
    · dsimp only
      split
      · rfl
      · rw [foldl_askLabel_rbe]; rfl
  rw [State.mediaOf, State.mediaOf, hm]

/-! ### Members (R178, R186) -/

theorem mem_modMem_same {r : Arr} {m : Nat} {x : Member} (h : r.mem m = some x) (f : Member → Member) : (r.modMem m f).mem m = some (f x) := by
  unfold Arr.mem at *
  simp [Arr.modMem, h]

theorem want_members (r : Arr) (o : ArrOp) : (r.want o).members = r.members := by unfold Arr.want; split <;> rfl

theorem startRebuild_members (r : Arr) : r.startRebuild.members = r.members := by
  unfold Arr.startRebuild
  dsimp only
  split
  · split
    · exact (want_members _ _).trans (want_members _ _)
    · exact want_members _ _
  · rfl

/-- What follows the loss of a member leaves the members. -/
theorem afterDrop_members {s : State} {a : ArrayId} {r : Arr} (h : s.arr a = some r) :
    ∃ q, (((s.rewriteLabels a).thirdMissing a).rechoose a).arr a = some q ∧ q.members = r.members := by
  obtain ⟨q, hq, _, _, _, rfl⟩ := rewriteLabels_arr h
  exact ⟨_, ((only_State_rechoose _ a).arr rfl a).trans ((thirdMissing_arr _ a a).trans hq), rfl⟩

theorem dropMember_state {s : State} {a : ArrayId} {r : Arr} {m : Nat} {x : Member} (st : MemState) (cause : Nat) (h : s.arr a = some r)
    (hx : r.mem m = some x) : ∃ q y, (s.dropMember a m st cause).arr a = some q ∧ q.mem m = some y ∧ y.state = st := by
  unfold State.dropMember
  rw [h]
  dsimp -zeta only
  extract_lets old r1 r2 r3 stays r4 r5 s1 s2
  have hs2 : s2.arr a = some r5 := by unfold s2; split <;> exact arr_putArr_same ..
  have hmem : r5.members = r2.members := (startRebuild_members _).trans (by change r3.members = _; unfold r3; split <;> rfl)
  obtain ⟨q, hq, hqm⟩ := afterDrop_members hs2
  have hy : r2.mem m = some _ := mem_modMem_same (r := r1) hx _
  refine ⟨q, _, hq, (congrArg (·[m]?) (hqm.trans hmem)).trans hy, ?_⟩
  split <;> rfl

theorem failMember_slow {s : State} {a : ArrayId} {r : Arr} {m : Nat} {x : Member} (h : s.arr a = some r) (hx : r.mem m = some x)
    (hp : x.state = .active ∨ x.state = .rebuilding) :
    s.failMember a m .slowFail = if 2 ≤ (r.downMembers.filter (fun i => i ≠ m)).length
      then s.emit .mediaErrorsEventOnly [a.val, m, failCauseCode .slowFail]
      else (s.dropMember a m .failed (failCauseCode .slowFail)).emit .memberFailed [a.val, m, failCauseCode .slowFail] := by
  have hup : ¬ (x.state = .failed ∨ x.state = .absent) := by rcases hp with hp | hp <;> simp [hp]
  simp only [State.failMember, h, hx, hup, if_false]
  split_ifs with h2 <;> simp only [h2, decide_true, decide_false]

theorem execSlowFailExpiry_slow {s : State} {a : ArrayId} {r : Arr} {m : Nat} {x : Member} (h : s.arr a = some r) (hx : r.mem m = some x)
    (hs : x.slow = true) : execSlowFailExpiry a m s = .next (s.failMember a m .slowFail) := by
  simp only [execSlowFailExpiry, h, Option.bind_some, hx, hs, if_true]

/-! ### Slow members (R185) -/

theorem execSlowWindowEval_slow {s : State} {a : ArrayId} {m median reads : Nat} {r q : Arr} {x : Member} (h : s.arr a = some r)
    (hx : r.mem m = some x) (hact : x.state = .active) (hslow : x.slow = false)
    (hq : q = r.modMem m (fun x => { x with median := median, reads := reads })) (hlim : q.policy.slowFactorQ4 * q.slowRef < 16 * median)
    (hreads : 100 ≤ reads) :
    ∃ t u y, execSlowWindowEval a m median reads s = .next t ∧ t.arr a = some u ∧ u.mem m = some y ∧ y.slow = true ∧ y.slowSince = s.now := by
  have hqx := mem_modMem_same hx (fun x => { x with median := median, reads := reads })
  rw [← hq] at hqx
  refine ⟨_, _, _, by rw [execSlowWindowEval, h], arr_putArr_same .., by rw [← hq]; exact mem_modMem_same hqx _, ?_⟩
  simp [hact, hslow, hlim, hreads]

/-! ### Initialization (R82) -/

/-- The tag sector of a group written on a member of an array, where the member is present (R82). -/
def State.initMember (r : Arr) (i : Nat) (s : State) (j : Nat) : State :=
  match (r.mem j).bind (fun x => if x.state == .active || x.state == .rebuilding then x.port else none) with
  | none => s
  | some port =>
    let m := s.mediaOf port
    if tget m.groups i = some (r.groupTag j i) then s
    else s.putMedia port { m with groups := tput m.groups i (r.groupTag j i), secs := m.secs.filter (fun x => groupOf x.1 ≠ i) }

/-- The media behind a port hold a tag of an array for a group (R82). -/
def State.Tagged (r : Arr) (i : Nat) (p : PortId) (s : State) : Prop := ∃ j, tget (s.mediaOf p).groups i = some (r.groupTag j i)

theorem mediaOf_putMedia_same (s : State) (p : PortId) (m : Media) : (s.putMedia p m).mediaOf p = m := by
  simp only [State.mediaOf, State.putMedia, tget_tput_same, Option.getD_some]

theorem mediaOf_putMedia_ne (s : State) {p q : PortId} (m : Media) (h : q ≠ p) : (s.putMedia p m).mediaOf q = s.mediaOf q := by
  simp only [State.mediaOf, State.putMedia, tget_tput_ne _ _ _ _ (Fin.val_ne_of_ne h)]

theorem initMember_tags {r : Arr} {i j : Nat} {x : Member} {p : PortId} (s : State) (hx : r.mem j = some x) (ha : x.state = .active)
    (hp : x.port = some p) : State.Tagged r i p (s.initMember r i j) := by
  refine ⟨j, ?_⟩
  simp only [State.initMember, hx, ha, hp, Option.bind_some, BEq.rfl, Bool.true_or, if_true]
  split
  · assumption
  · rw [mediaOf_putMedia_same, tget_tput_same]

theorem initMember_keeps {r : Arr} {i : Nat} {p : PortId} {s : State} (j : Nat) (h : State.Tagged r i p s) :
    State.Tagged r i p (s.initMember r i j) := by
  unfold State.initMember
  split
  · exact h
  · next port _ =>
    dsimp only
    split
    · exact h
    · by_cases hp : p = port
      · subst hp
        exact ⟨j, by rw [mediaOf_putMedia_same, tget_tput_same]⟩
      · unfold State.Tagged
        rwa [mediaOf_putMedia_ne _ _ hp]

theorem foldl_initMember_keeps {r : Arr} {i : Nat} {p : PortId} {s : State} (l : List Nat) (h : State.Tagged r i p s) :
    State.Tagged r i p (l.foldl (State.initMember r i) s) := by
  induction l generalizing s with
  | nil => exact h
  | cons j l ih => exact ih (initMember_keeps j h)

theorem foldl_initMember_tags {r : Arr} {i j : Nat} {x : Member} {p : PortId} {l : List Nat} (hj : j ∈ l) (hx : r.mem j = some x)
    (ha : x.state = .active) (hp : x.port = some p) (s : State) : State.Tagged r i p (l.foldl (State.initMember r i) s) := by
  induction l generalizing s with
  | nil => cases hj
  | cons k l ih =>
    rcases List.mem_cons.mp hj with rfl | hj
    · exact foldl_initMember_keeps l (initMember_tags s hx ha hp)
    · exact ih hj (s.initMember r i k)

/-- A group of an array initialized on every present member (R82). -/
def State.initGroup (s : State) (r : Arr) : State := (List.range r.members.length).foldl (State.initMember r r.initMark) s

theorem initGroup_tags {r : Arr} {x : Member} {p : PortId} (s : State) (hm : x ∈ r.members) (ha : x.state = .active) (hp : x.port = some p) :
    State.Tagged r r.initMark p (s.initGroup r) := by
  obtain ⟨j, hj, hx⟩ := List.mem_iff_getElem.mp hm
  exact foldl_initMember_tags (List.mem_range.mpr hj) (List.getElem?_eq_some_iff.mpr ⟨hj, hx⟩) ha hp s

/-- The array after a group has been initialized (R82). -/
def Arr.initNext (r : Arr) : Arr :=
  { (if groupsFor r.cur.dataSectors ≤ r.initMark + 1 then r.unwant .init else r) with initMark := r.initMark + 1 }

theorem execBackgroundInitGroup_due {s : State} {a : ArrayId} {r : Arr} (h : s.arr a = some r) (hgo : s.bgGo r .init = true)
    (hi : r.initMark < groupsFor r.cur.dataSectors) :
    ∃ t q, execBackgroundInitGroup a s = .next t ∧ t.arr a = some q ∧ q.initMark = r.initMark + 1 ∧
      ∀ p, t.mediaOf p = (s.initGroup r).mediaOf p := by
  have hexec : execBackgroundInitGroup a s = if groupsFor r.cur.dataSectors ≤ r.initMark + 1 ∨ (r.initMark + 1) % 2 ^ 20 = 0
      then .next (((s.initGroup r).putArr a r.initNext).rewriteLabels a) else .next ((s.initGroup r).putArr a r.initNext) := by
    simp only [execBackgroundInitGroup, h, hgo, Bool.not_true, Bool.false_eq_true, if_false, Nat.not_le.mpr hi, decide_eq_true_eq]
    rfl
  rw [hexec]
  split
  · obtain ⟨q, hq, _, _, _, rfl⟩ := rewriteLabels_arr (arr_putArr_same (s.initGroup r) a r.initNext)
    exact ⟨_, _, rfl, hq, rfl, fun p => mediaOf_rewriteLabels _ a p⟩
  · exact ⟨_, _, rfl, arr_putArr_same .., rfl, fun _ => rfl⟩

/-! ### Rebuild and copyback (R189, R193) -/

/-- Whether a stripe meets a mapping fault in an epoch that it stands for (R192). -/
def Arr.faultsAt (r : Arr) (t : Nat) : Bool := (r.epochsAt t).any (fun e => !stripeMaps e.2 t)

/-- Whether the lock of a stripe is held in an epoch that it stands for (R159). -/
def State.lockedAt (s : State) (a : ArrayId) (r : Arr) (t : Nat) : Bool := (r.epochsAt t).any (fun e => s.stripeBusy a e.1 t)

theorem execRebuildStripe_main {s : State} {a : ArrayId} {r q : Arr} {t : Nat} (h : s.arr a = some r) (hc : s.bgGo r .critical = false)
    (hm : s.bgGo r .mainPass = true)
    (ht : nextFrom (fun t => r.toRebuild t || r.faultsAt t) (r.stripes - r.mainMark) r.mainMark = some t) (hf : r.faultsAt t = false)
    (hl : s.lockedAt a r t = false) (hq : (s.rebuildAt a r t).arr a = some q) :
    execRebuildStripe a s = .next ((s.rebuildAt a r t).putArr a { (q.markMain r.mainMark (t + 1)) with mainMark := t + 1 }) := by
  unfold Arr.faultsAt at ht hf
  unfold State.lockedAt at hl
  simp only [execRebuildStripe, h, hc, hm, ht, hf, hl, hq, Bool.false_eq_true, if_false, if_true]

theorem execCopybackUnit_due {s : State} {a : ArrayId} {r q : Arr} {m t : Nat} (h : s.arr a = some r) (hgo : s.bgGo r .copyback = true)
    (hm : r.copyIndex = some m)
    (ht : nextFrom (fun t => (r.epochsAt t).any (fun e => (unitOn e.2 t m).isSome || !stripeMaps e.2 t))
      (r.stripes - ((r.mem m).map (·.rebuiltTo)).getD 0) (((r.mem m).map (·.rebuiltTo)).getD 0) = some t)
    (hf : r.faultsAt t = false) (hl : s.lockedAt a r t = false)
    (hq : ((r.epochsAt t).foldl (fun (st : State) e => st.copyUnit a e.2 t m) s).arr a = some q) :
    execCopybackUnit a s = .next (((r.epochsAt t).foldl (fun (st : State) e => st.copyUnit a e.2 t m) s).putArr a
      { (q.modMem m (fun x => { x with rebuiltTo := t + 1 })) with copyMark := t + 1 }) := by
  unfold Arr.faultsAt at hf
  unfold State.lockedAt at hl
  simp only [execCopybackUnit, h, hgo, hm, ht, hf, hl, hq, Bool.not_true, Bool.false_eq_true, if_false]

/-! ### Scrub (R198, R199) -/

theorem unwant_wants (r : Arr) (o : ArrOp) : (r.unwant o).wants.contains o = false := by simp [Arr.unwant]

theorem want_wants (r : Arr) (o : ArrOp) : (r.want o).wants.contains o = true := by
  unfold Arr.want
  split
  · assumption
  · simp

theorem execScrubPeriodStart_due {s : State} {a : ArrayId} {r : Arr} (h : s.arr a = some r) (hf : r.policy.flags / 2 % 2 = 1)
    (hw : r.wants.contains .scrub = false) : execScrubPeriodStart a s = .next (s.startScrub a r) := by
  simp only [execScrubPeriodStart, h, hf, hw, and_self, if_true]

theorem execScrubStripe_end {s : State} {a : ArrayId} {r : Arr} (h : s.arr a = some r) (hgo : s.bgGo r .scrub = true)
    (he : r.stripes ≤ r.scrubMark) : execScrubStripe a s = .next (s.endScrub a r) := by
  simp only [execScrubStripe, h, hgo, he, Bool.not_true, Bool.false_eq_true, if_false, if_true]

theorem execScrubStripe_next {s : State} {a : ArrayId} {r q : Arr} (h : s.arr a = some r) (hgo : s.bgGo r .scrub = true)
    (hlt : r.scrubMark < r.stripes) (hdue : s.now ≤ r.scrubDue) (hf : r.faultsAt r.scrubMark = false)
    (hl : s.lockedAt a r r.scrubMark = false)
    (hq : ((r.epochsAt r.scrubMark).foldl (fun (st : State) e => st.scrubIn a e.2 r.scrubMark) s).arr a = some q)
    (hmore : r.scrubMark + 1 < q.stripes) :
    execScrubStripe a s = .next (((r.epochsAt r.scrubMark).foldl (fun (st : State) e => st.scrubIn a e.2 r.scrubMark) s).putArr a
      { q with scrubMark := r.scrubMark + 1 }) := by
  unfold Arr.faultsAt at hf
  unfold State.lockedAt at hl
  have hlast : ¬ Arr.stripes { q with scrubMark := r.scrubMark + 1, scrubBehind := q.scrubBehind } ≤ r.scrubMark + 1 := Nat.not_le.mpr hmore
  simp only [execScrubStripe, h, hgo, Nat.not_le.mpr hlt, hf, hl, hq, Nat.not_lt.mpr hdue, hlast, decide_false, Bool.false_and, Bool.or_false,
    Bool.not_true, Bool.false_eq_true, if_false]

/-! ### Reshape (R203 to R205, R208) -/

theorem stripeBusy_of_idle {s : State} (h : s.wc.updates = []) (a : ArrayId) (previous : Bool) (t : Nat) :
    s.stripeBusy a previous t = false := by rw [State.stripeBusy, h]; rfl

theorem execReshapeStep_end {s : State} {a : ArrayId} {r : Arr} {p : Geom} (h : s.arr a = some r) (hp : r.prev = some p)
    (hgo : s.bgGo r .reshape = true) (hbow : p.dataSpace ≤ r.bow) (hidle : s.wc.updates = []) :
    execReshapeStep a s = .next (s.endReshape a r) := by
  simp [execReshapeStep, h, hp, hgo, hbow, stripeBusy_of_idle hidle]

theorem endReshape_arr (s : State) (a : ArrayId) (r : Arr) :
    ∃ q, (s.endReshape a r).arr a = some q ∧ q.prev = none ∧ q.wants.contains .reshape = false := by
  have hput (u : State) (v : Arr) : ((u.putArr a v).mirror (.checkpoint a 0)).arr a = some v :=
    ((only_State_mirror _ _).arr rfl a).trans (arr_putArr_same ..)
  obtain ⟨q, hq, _, _, _, rfl⟩ := rewriteLabels_arr (hput _ _)
  exact ⟨_, hq, rfl, unwant_wants r .reshape⟩

theorem reshapeOne_bow {s u : State} {a : ArrayId} {r : Arr} {p : Geom} {find : State → Nat → Option CSec}
    (h : s.reshapeOne a r p find = some u) : ∃ q, u.arr a = some q ∧ q.bow = r.bow + r.cur.stripeData := by
  unfold State.reshapeOne at h
  dsimp only at h
  split at h
  · cases h
  · cases h
    exact ⟨_, (listStepLost_arr ..).trans (arr_putArr_same ..), rfl⟩

theorem labelled_bow {s : State} {a : ArrayId} {r : Arr} (h : s.arr a = some r) (c : Prop) [Decidable c] :
    ∃ q, (if c then s.rewriteLabels a else s).arr a = some q ∧ q.bow = r.bow := by
  split
  · obtain ⟨q, hq, _, _, _, rfl⟩ := rewriteLabels_arr h
    exact ⟨_, hq, rfl⟩
  · exact ⟨r, h, rfl⟩

theorem checkpointed_bow {s : State} {a : ArrayId} {r : Arr} (h : s.arr a = some r) (c : Prop) [Decidable c] :
    ∃ q, (if c then s.checkpoint a r else s).arr a = some q ∧ q.bow = r.bow := by
  split
  · exact ⟨_, ((only_State_mirror _ _).arr rfl a).trans (arr_putArr_same ..), rfl⟩
  · exact ⟨r, h, rfl⟩

/-- What a reshape step does after a stripe has moved, labels at times and the checkpoint when it is due, leaves the bow (R204, R205). -/
theorem execReshapeStep_next {s u : State} {a : ArrayId} {r : Arr} {p : Geom} (h : s.arr a = some r) (hp : r.prev = some p)
    (hgo : s.bgGo r .reshape = true) (hidle : s.wc.updates = []) (hbow : r.bow + r.cur.stripeData < p.dataSpace)
    (hmap : stripeMaps r.cur (r.bow / r.cur.stripeData) = true)
    (holds : ((List.range ((min (r.bow + r.cur.stripeData) p.dataSpace - 1) / p.stripeData + 1 - r.bow / p.stripeData)).map
      (· + r.bow / p.stripeData)).any (fun o => !stripeMaps p o) = false)
    (hone : s.reshapeOne a r p (fun st lba => st.stepSource r p lba) = some u) :
    ∃ t q, execReshapeStep a s = .next t ∧ t.arr a = some q ∧ q.bow = r.bow + r.cur.stripeData := by
  obtain ⟨v, hv, hvb⟩ := reshapeOne_bow hone
  have hmore : ¬ p.dataSpace ≤ v.bow := by omega
  have hbow' : r.bow < p.dataSpace := by omega
  have hfree (l : List Nat) : l.any (fun _ => false) = false := by simp
  obtain ⟨w, hw, hwb⟩ := labelled_bow hv (v.bow / r.cur.stripeData % 65536 = 0)
  obtain ⟨q, hq, hqb⟩ := checkpointed_bow hw
    ((decide (256 * r.cur.stripeData ≤ v.bow - v.ckpt) || decide (v.policy.bowBufferMib * 128 ≤ v.sources.length)) = true)
  refine ⟨_, q, ?_, ((only_State_noteLimit _).arr rfl a).trans hq, by rw [hqb, hwb, hvb]⟩
  simp only [execReshapeStep, h, hp, hgo, stripeBusy_of_idle hidle, hfree, hmap, holds, hone, hv, hmore, hw, Nat.not_le.mpr hbow',
    Bool.not_true, Bool.or_false, Bool.false_eq_true, if_false]

/-- Settles O35: each command that is due answers the state that the lemmas above name. -/
theorem arrayBackgroundWorkAdvances : Obligations.ArrayBackgroundWorkAdvances := by
  refine ⟨?init, ?slow, ?slowFail, ?slowKept, ?rebuild, ?copyback, ?scrubStart, ?scrubEnd, ?scrub, ?reshapeEnd, ?reshape⟩
  case init =>
    intro s a r h hgo hi
    obtain ⟨t, q, ht, hq, hm, hmedia⟩ := execBackgroundInitGroup_due h hgo hi
    refine ⟨t, ht, q, hq, hm, fun x p hx ha hp => ?_⟩
    rw [hmedia]
    exact initGroup_tags s hx ha hp
  case slow =>
    intro s a m median reads r q x h hx ha hs hq hlim hr
    obtain ⟨t, u, y, ht, hu, hy, hslow⟩ := execSlowWindowEval_slow h hx ha hs hq hlim hr
    exact ⟨t, ht, u, y, hu, hy, hslow⟩
  case slowFail =>
    intro s a m r x h hx hs hp hd
    obtain ⟨q, y, hq, hy, hst⟩ := dropMember_state .failed (failCauseCode .slowFail) h hx
    refine ⟨_, execSlowFailExpiry_slow h hx hs, q, y, ?_, hy, hst⟩
    rw [failMember_slow h hx hp, if_neg (Nat.not_le.mpr hd), arr_emit, hq]
  case slowKept =>
    intro s a m r x h hx hs hp hd
    refine ⟨_, execSlowFailExpiry_slow h hx hs, ?_⟩
    rw [failMember_slow h hx hp, if_pos hd]
    exact ⟨h, by simp⟩
  case rebuild =>
    intro s a r q t0 h hc hm ht hf hl hq
    exact ⟨_, execRebuildStripe_main h hc hm ht hf hl hq, arr_putArr_same ..⟩
  case copyback =>
    intro s a r q m t0 h hgo hm ht hf hl hq
    exact ⟨_, execCopybackUnit_due h hgo hm ht hf hl hq, arr_putArr_same ..⟩
  case scrubStart =>
    intro s a r h hf hw
    exact ⟨_, execScrubPeriodStart_due h hf hw, _, arr_putArr_same .., want_wants r .scrub, rfl, rfl⟩
  case scrubEnd =>
    intro s a r h hgo he
    exact ⟨_, execScrubStripe_end h hgo he, _, arr_putArr_same .., unwant_wants r .scrub, rfl⟩
  case scrub =>
    intro s a r q h hgo hlt hdue hf hl hq hmore
    exact ⟨_, execScrubStripe_next h hgo hlt hdue hf hl hq hmore, arr_putArr_same ..⟩
  case reshapeEnd =>
    intro s a r p h hp hgo hbow hidle
    exact ⟨_, execReshapeStep_end h hp hgo hbow hidle, endReshape_arr s a r⟩
  case reshape =>
    intro s u a r p h hp hgo hidle hbow hmap holds hone
    obtain ⟨t, q, ht, hq, hb⟩ := execReshapeStep_next h hp hgo hidle hbow hmap holds hone
    exact ⟨t, ht, q, hq, hb⟩

end Sys2Proof.Machine

/-!
The mapper's instruction set (O8, O12 to O15): the tables of opcodes do not meet, so that decoding takes each field from where encoding put it;
what an instruction leaves of registers and flags, and what the checks at entry and at EMIT answer, is said once each.
-/
namespace Sys2Proof.Machine

/-! ### Opcodes (R96) -/

theorem aluOf_aluCode (op : AluOp) : aluOf (aluCode op) = some op := by cases op <;> rfl

/-- The opcode of an immediate form is none of a register form. -/
theorem aluOf_immediate (op : AluOp) : aluOf (aluCode op + 0x20) = none := by cases op <;> rfl

theorem aluOf_brCode (op : BrOp) : aluOf (brCode op) = none := by cases op <;> rfl

theorem aluOf_brCode_sub (op : BrOp) : aluOf (brCode op - 0x20) = none := by cases op <;> rfl

theorem brOf_brCode (op : BrOp) : brOf (brCode op) = some op := by cases op <;> rfl

/-- The opcodes of NEG, NOT, CLRF, EMIT, LDH, TBL, JMP and BF, each of one instruction. -/
def singleCodes : List (BitVec 6) := [0x13, 0x14, 0x15, 0x16, 0x34, 0x35, 0x37, 0x3E]

/-- They belong to no table of operations or branches. -/
theorem singleCodes_apart : ∀ c ∈ singleCodes, aluOf c = none ∧ aluOf (c - 0x20) = none ∧ brOf c = none := by decide

/-! ### Encoding and decoding (R95) -/

/-- The word of an immediate form as its four fields side by side, with the widths written out. -/
theorem fEncode_alui (op : AluOp) (rd ra : XReg) (imm : BitVec 18) :
    fEncode (.alui op rd ra imm) = (aluCode op + 0x20 ++ rd ++ ra ++ imm : BitVec (6 + 4 + 4 + 18)) := rfl

/-- Settles O8: the opcode selects the format, and the fields of a word joined with ++ are cut out again where they were joined. -/
theorem fingeringDecodesWhatItEncodes : Obligations.FingeringDecodesWhatItEncodes := by
  intro i
  cases i with
  | alu op rd ra rb =>
    simp (disch := decide) only [fDecode, fEncode, BitVec.extractLsb'_append_eq_of_le, BitVec.extractLsb'_append_eq_of_add_le, Nat.reduceSub,
      BitVec.extractLsb'_eq_self, aluOf_aluCode, if_true]
  | alui op rd ra imm =>
    simp (disch := decide) only [fDecode, fEncode_alui, BitVec.extractLsb'_append_eq_of_le, BitVec.extractLsb'_append_eq_of_add_le, Nat.reduceSub,
      BitVec.extractLsb'_eq_self, aluOf_immediate, BitVec.add_sub_cancel, aluOf_aluCode]
  | br op ra rb target =>
    simp (disch := decide) only [fDecode, fEncode, BitVec.extractLsb'_append_eq_of_le, BitVec.extractLsb'_append_eq_of_add_le, Nat.reduceSub,
      BitVec.extractLsb'_eq_self, aluOf_brCode, aluOf_brCode_sub, brOf_brCode, if_true]
  | neg | not | clrf | emit | ldh | tbl | jmp | bf =>
    simp (disch := decide) only [fDecode, fEncode, BitVec.extractLsb'_append_eq_of_le, BitVec.extractLsb'_append_eq_of_add_le, Nat.reduceSub,
      BitVec.extractLsb'_eq_self, singleCodes_apart, if_neg, if_true, and_self]

/-! ### Registers and flags (R93, R97) -/

@[simp] theorem LaneSt.wr_same (l : LaneSt) (rd : XReg) (v : DWord) : (l.wr rd v).x rd = v := if_pos rfl

@[simp] theorem LaneSt.wr_other (l : LaneSt) {rd q : XReg} (v : DWord) (h : q ≠ rd) : (l.wr rd v).x q = l.x q := if_neg h

/-- What an operation's result leaves: its register, every other register, and the two sticky flags. -/
theorem aluTo_go (l : LaneSt) (rd : XReg) (r : AluRes) :
    ∃ t, l.aluTo rd r = .go t ∧ (t.x rd = r.v ∧ ∀ q, q ≠ rd → t.x q = l.x q) ∧ t.ov = (l.ov || r.ov) ∧ t.dz = (l.dz || r.dz) :=
  ⟨_, rfl, ⟨l.wr_same rd r.v, fun _ h => l.wr_other r.v h⟩, rfl, rfl⟩

theorem aluTo_sticky {l t : LaneSt} {rd : XReg} {r : AluRes} (h : l.aluTo rd r = .go t) :
    (l.ov = true → t.ov = true) ∧ (l.dz = true → t.dz = true) := by
  obtain ⟨u, hu, -, hov, hdz⟩ := aluTo_go l rd r
  obtain rfl : u = t := StepEnd.go.inj (hu.symm.trans h)
  exact ⟨fun ho => by rw [hov, ho, Bool.true_or], fun hd => by rw [hdz, hd, Bool.true_or]⟩

theorem fStep_tbl_none {ts : List MapTable} {l : LaneSt} {rd ra rb : XReg} {tid : BitVec 6}
    (h : tblEntry ts tid.toNat (l.x ra).toNat (l.x rb).toNat = none) : fStep ts l (.tbl rd ra rb tid) = .fault .tableRange := by
  simp only [fStep, h]

/-- A flag that is set stays set through every instruction but CLRF. -/
theorem fStep_sticky {ts : List MapTable} {l t : LaneSt} {i : FInstr} (h : fStep ts l i = .go t) (hi : i ≠ .clrf) :
    (l.ov = true → t.ov = true) ∧ (l.dz = true → t.dz = true) := by
  cases i with
  | alu | alui | neg | not => exact aluTo_sticky h
  | clrf => exact absurd rfl hi
  | emit => exact nomatch h
  | ldh | jmp | br | bf => obtain rfl := StepEnd.go.inj h; exact ⟨id, id⟩
  | tbl rd ra rb tid =>
    cases he : tblEntry ts tid.toNat (l.x ra).toNat (l.x rb).toNat with
    | none => rw [fStep_tbl_none he] at h; exact nomatch h
    | some v => rw [fStep_tbl he] at h; obtain rfl := StepEnd.go.inj h; exact ⟨id, id⟩

/-- TBL is the one instruction that can fault. -/
theorem fStep_fault {ts : List MapTable} {l : LaneSt} {i : FInstr} {f : MapFault} (h : fStep ts l i = .fault f) : f = .tableRange := by
  cases i with
  | tbl rd ra rb tid =>
    cases he : tblEntry ts tid.toNat (l.x ra).toNat (l.x rb).toNat with
    | none => rw [fStep_tbl_none he] at h; exact (StepEnd.fault.inj h).symm
    | some v => rw [fStep_tbl he] at h; exact nomatch h
  | _ => exact nomatch h

/-! ### Arithmetic at the edges (R97) -/

/-- An integer fits in 64 bits exactly when taking it modulo 2^64 leaves it. -/
theorem overflows64_iff (i : Int) : overflows64 i = true ↔ i.bmod (2 ^ 64) ≠ i := by
  rw [ne_eq, Int.bmod_eq_iff (by decide), overflows64, decide_eq_true_iff]
  simp only [sub_self, dvd_zero, and_true]
  omega

theorem aluRun_add_ov (a b : DWord) : (aluRun .add a b).ov = true ↔ (a + b).toInt ≠ a.toInt + b.toInt := by
  rw [BitVec.toInt_add]; exact overflows64_iff _

theorem aluRun_sub_ov (a b : DWord) : (aluRun .sub a b).ov = true ↔ (a - b).toInt ≠ a.toInt - b.toInt := by
  rw [BitVec.toInt_sub]; exact overflows64_iff _

theorem aluRun_mul_ov (a b : DWord) : (aluRun .mul a b).ov = true ↔ (a * b).toInt ≠ a.toInt * b.toInt := by
  rw [BitVec.toInt_mul]; exact overflows64_iff _

/-- An arithmetic shift by 63 leaves bit 63 in every place. -/
theorem sshiftRight_63 (a : DWord) : a.sshiftRight 63 = if a.getLsbD 63 then 0xFFFFFFFFFFFFFFFF else 0 := by
  apply BitVec.eq_of_getLsbD_eq
  intro i hi
  have hones : (0xFFFFFFFFFFFFFFFF : DWord) = BitVec.allOnes 64 := by decide
  have hmsb : a.msb = a.getLsbD 63 := BitVec.msb_eq_getLsbD_last a
  have hbit : (if 63 + i < 64 then a.getLsbD (63 + i) else a.msb) = a.getLsbD 63 := by
    split
    · rw [show 63 + i = 63 by omega]
    · exact hmsb
  rw [BitVec.getLsbD_sshiftRight, hbit, hones]
  cases a.getLsbD 63 with
  | true => simp only [Nat.not_le.mpr hi, decide_false, Bool.not_false, Bool.and_true, if_true, BitVec.getLsbD_allOnes, hi, decide_true]
  | false => simp

/-- A shift by 64 or more is full: its amount is not taken modulo 64. -/
theorem aluRun_shift_full {a b : DWord} (h : 64 ≤ b.toNat) : aluRun .sll a b = ⟨0, false, false⟩ ∧ aluRun .srl a b = ⟨0, false, false⟩ ∧
    aluRun .sra a b = ⟨if a.getLsbD 63 then 0xFFFFFFFFFFFFFFFF else 0, false, false⟩ := by
  simp only [aluRun, h, if_true, sshiftRight_63, and_self]

theorem immOf_eq (op : AluOp) (imm : BitVec 18) :
    immOf op imm = if op = .sll ∨ op = .srl ∨ op = .sra then imm.zeroExtend 64 else imm.signExtend 64 := by
  cases op <;> rfl

/-! ### EMIT's checks (R99) -/

theorem emitCheck_dz (g : Geom) (m o : Nat) : emitCheck g m o true = .error .dzAtEmit := rfl

theorem emitCheck_member {g : Geom} {m : Nat} (o : Nat) (hm : g.n ≤ m) : emitCheck g m o false = .error .memberRange := if_pos hm

theorem emitCheck_offset {g : Geom} {m : Nat} (o : Nat) (hc : 0 < g.c) (hm : m < g.n) :
    emitCheck g m o false = if g.c ∣ o ∧ o + g.c ≤ g.dataSectors then .ok (m, o) else .error .offsetRange := by
  have : (g.c = 0 ∨ o % g.c ≠ 0 ∨ g.dataSectors < o + g.c) ↔ ¬ (g.c ∣ o ∧ o + g.c ≤ g.dataSectors) := by
    rw [Nat.dvd_iff_mod_eq_zero, not_and_or, Nat.not_le]
    simp only [hc.ne', false_or, ne_eq]
  simp only [emitCheck, Bool.false_eq_true, if_false, Nat.not_le.mpr hm, this, ite_not]

theorem emitCheck_clear_ne_dz (g : Geom) (m o : Nat) : emitCheck g m o false ≠ .error .dzAtEmit := by
  simp only [emitCheck, Bool.false_eq_true, if_false]
  split
  · exact nofun
  · split <;> exact nofun

/-- Settles O14: each clause by the lemma about its operation or instruction. -/
theorem arithmeticEdgeCases : Obligations.ArithmeticEdgeCases := by
  refine ⟨?wrap, ?neg, by decide, by decide, fun a => ⟨rfl, rfl, rfl, rfl⟩, fun a b => aluRun_shift_full, fun a b => rfl, ?ops,
    fun ts l t i => fStep_sticky, fun ts l => ⟨_, rfl, rfl, rfl⟩, fun ts l m target => ⟨_, rfl, rfl⟩, fun ts l i f => fStep_fault,
    fun g m o => ⟨emitCheck_dz g m o, emitCheck_clear_ne_dz g m o⟩⟩
  case wrap => exact fun a b => ⟨rfl, aluRun_add_ov a b, rfl, rfl, aluRun_sub_ov a b, rfl, rfl, aluRun_mul_ov a b, rfl⟩
  case neg =>
    intro ts l rd ra h
    obtain ⟨t, ht, ⟨hv, -⟩, hov, hdz⟩ := aluTo_go l rd ⟨-l.x ra, l.x ra == BitVec.intMin 64, false⟩
    refine ⟨t, ht, ?_, ?_, ?_⟩
    · rw [hv, h]; decide
    · rw [hov, h, beq_self_eq_true, Bool.or_true]
    · rw [hdz, Bool.or_false]
  case ops =>
    intro ts l op rd ra rb imm
    obtain ⟨t, ht, ⟨hv, -⟩, hflags⟩ := aluTo_go l rd (aluRun op (l.x ra) (l.x rb))
    obtain ⟨u, hu, ⟨hw, -⟩, hflags'⟩ := aluTo_go l rd (aluRun op (l.x ra) (immOf op imm))
    rw [immOf_eq] at hw hflags'
    exact ⟨⟨t, ht, hv, hflags⟩, u, hu, hw, hflags'⟩

/-- Settles O15: with DZ clear and the member in range the check turns on the offset alone. -/
theorem emitChecksItsOutput : Obligations.EmitChecksItsOutput := by
  intro g m o dz hc
  cases dz with
  | true => simp [emitCheck_dz]
  | false =>
    by_cases hm : m < g.n
    · simp [emitCheck_offset o hc hm, hm, Nat.not_le.mpr hm]
    · simp [emitCheck_member o (Nat.not_lt.mp hm), hm]

/-! ### Entry (R93, R94) -/

theorem inputOk_map (g : Geom) (s u : Nat) : inputOk g false s u = true ↔ s < g.stripeCount ∧ u ≤ g.k + 1 := decide_eq_true_iff

theorem inputOk_spare (g : Geom) (p i : Nat) :
    inputOk g true p i = true ↔ i < g.prog.spareSlots ∧ p < g.stripeCount / g.periodStripes := decide_eq_true_iff

theorem runEntry_of_inputOk {g : Geom} {spare : Bool} {a b : Nat} (h : inputOk g spare a b = true) :
    runEntry g spare a b = fRun 512 g.prog.words g.tables
      ⟨entryRegs g a b, false, false, if spare then g.prog.entrySpare else g.prog.entryMap⟩ 0 := if_pos h

theorem runEntry_of_not_inputOk {g : Geom} {spare : Bool} {a b : Nat} (h : ¬ inputOk g spare a b = true) :
    runEntry g spare a b = .fault .inputRange 0 0 := if_neg h

theorem mapEntry_of_not_inputOk {g : Geom} {spare : Bool} {a b : Nat} (h : ¬ inputOk g spare a b = true) :
    mapEntry g spare a b = .error (.inputRange, 0, 0) := by
  simp only [mapEntry, runEntry_of_not_inputOk h]

/-- The registers above the eight inputs enter with 0. -/
theorem entryRegs_high (g : Geom) (a b : Nat) {r : XReg} (h : 8 ≤ r.toNat) : entryRegs g a b r = 0 := by
  obtain ⟨n, hn⟩ := Nat.exists_eq_add_of_le h
  rw [Nat.add_comm] at hn
  simp only [entryRegs, hn]
  rfl

/-- Settles O12: the entry's registers are read off, and a write is to one register. -/
theorem lanesEnterWithTheirInputs : Obligations.LanesEnterWithTheirInputs := by
  intro g a b
  refine ⟨⟨rfl, rfl, rfl, rfl, rfl, rfl, rfl, rfl, fun _ => entryRegs_high g a b⟩, ?map, ?spare, ?alu, ?ldh⟩
  case map => exact fun hs hu => runEntry_of_inputOk ((inputOk_map g a b).mpr ⟨hs, hu⟩)
  case spare => exact fun hi hp => runEntry_of_inputOk ((inputOk_spare g a b).mpr ⟨hi, hp⟩)
  case alu =>
    intro l rd r
    obtain ⟨t, ht, hx, -⟩ := aluTo_go l rd r
    exact ⟨t, ht, hx⟩
  case ldh => exact fun ts l rd h imm => ⟨_, rfl, l.wr_same rd _, fun q hq => l.wr_other _ hq⟩

/-- Settles O13: the check of the inputs stands before the first instruction. -/
theorem lanesCheckTheirInputs : Obligations.LanesCheckTheirInputs := by
  intro r previous g _
  refine ⟨fun s u h => ?map, fun p i h => ?spare, fun s u hs hu => (inputOk_map g s u).mpr ⟨hs, hu⟩,
    fun p i hi hp => (inputOk_spare g p i).mpr ⟨hi, hp⟩⟩
  case map =>
    rw [← inputOk_map] at h
    exact ⟨runEntry_of_not_inputOk h, mapEntry_of_not_inputOk h⟩
  case spare =>
    rw [← inputOk_spare] at h
    exact ⟨runEntry_of_not_inputOk h, mapEntry_of_not_inputOk h⟩

end Sys2Proof.Machine

/-!
The mapper's step limit (O26): the lane that ends is refilled at once, and a waiting mapping whose geometry has gone faults there, so that its
fault and not the step limit's is what the registers show.
-/
namespace Sys2Proof.Machine

/-- A geometry whose program is one jump to itself. -/
def loopGeom : Geom :=
  { k := 2, n := 4, layout := 0, c := 16, periodRows := 1, periodStripes := 1, stripeCount := 64, dataSectors := 1024, epoch := 0,
    prog := { conventionalProg with words := [fEncode (.jmp 0)] }, tables := [] }

/-- A mapping of a background operation. -/
def loopReq : MapReq := { array := 0, previous := false, spare := false, input := 5, unit := 1, cls := 2, preempted := 0, owner := .background }

/-- Every lane runs the loop, and one more mapping of the array waits; the array itself is no longer there. -/
def loopState : State :=
  { State.reset with
    map := { State.reset.map with lanes := (List.range 64).map (fun i => (i, ⟨loopReq, i, loopGeom⟩)), order := 64, waiting := [loopReq] } }

theorem mapEntry_loop : mapEntry loopGeom false 5 1 = .error (.stepLimit, 0, 512) := by decide +kernel

/-- The refill's fault INPUT_RANGE stands over the step limit's. -/
theorem loopState_reason : (loopState.laneEnd 0 true).fld Fld.MAP_FAULT_INFO.REASON = mapFaultCode .inputRange := by decide +kernel

/-- Refutes O26: in its step-limit clause the lane's refill faults a waiting mapping whose array has gone, and MAP_FAULT_INFO.REASON shows
that fault, 7, in place of 1 (the count rises by 2). -/
theorem not_mapperAndDoorbellsTakeEffect : ¬ Obligations.MapperAndDoorbellsTakeEffect := by
  intro h
  obtain ⟨-, -, hlimit, -⟩ := h
  obtain ⟨t, ht, hreason, -⟩ := hlimit loopState 0 ⟨loopReq, 0, loopGeom⟩ loopGeom 0 512 (by decide +kernel) rfl mapEntry_loop (by decide)
  obtain rfl : loopState.laneEnd 0 true = t := Host.Outcome.next.inj ht
  rw [loopState_reason] at hreason
  exact absurd hreason (by decide)

end Sys2Proof.Machine

/-!
The queue commands (O27): what the end of an admin command leaves of the host front end is said once, and each command is then the state that it answers.
-/
namespace Sys2Proof.Machine

/-! ### Controllers of the state -/

@[simp] theorem fn_putFn_same (s : State) (f : FnIdx) (x : FnSt) : (s.putFn f x).fn f = x := by
  rw [State.fn, State.putFn, tget_tput_same, Option.getD_some]

theorem fn_putFn_ne (s : State) {f g : FnIdx} (x : FnSt) (h : g ≠ f) : (s.putFn f x).fn g = s.fn g := by
  rw [State.fn, State.fn, State.putFn, tget_tput_ne _ _ _ _ (mt Fin.ext h)]

theorem fn_adminTake (s : State) (f : FnIdx) :
    (s.adminTake f).fn f = { s.fn f with asqHead := ((s.fn f).asqHead + 1) % ((s.fn f).asqs + 1) } :=
  fn_putFn_same ..

theorem grantSq_adminTake (s : State) (f : FnIdx) : ((s.adminTake f).fn f).grantSq = (s.fn f).grantSq := by rw [fn_adminTake]

theorem grantCq_adminTake (s : State) (f : FnIdx) : ((s.adminTake f).fn f).grantCq = (s.fn f).grantCq := by rw [fn_adminTake]

/-! ### Queue keys (R111) -/

/-- An I/O queue's key is not that of its function's admin queue. -/
theorem qKey_ne_admin (f : FnIdx) {q : Nat} (h : q ≠ 0) : qKey f q ≠ qKey f 0 := by
  unfold qKey
  split <;> simp <;> omega

/-! ### What the end of an admin command leaves (R132, R140, R444) -/

theorem logError_hfe (s : State) (f : FnIdx) (st : Status) : ∃ x, (s.logError f st).hfe = { s.hfe with fns := x } := by
  unfold State.logError
  split
  · exact ⟨_, rfl⟩
  · exact ⟨_, rfl⟩

theorem postEntry_hfe (s : State) (e : Cqe) (b : Bool) :
    ∃ p c r, (s.postEntry e b).hfe = { s.hfe with posted := p, cqs := c, raised := r } ∧
      ∀ k, k ≠ qKey e.fn (s.cqOf e.fn e.sq) → tget c k = tget s.hfe.cqs k := by
  unfold State.postEntry
  dsimp only
  split
  · exact ⟨_, _, _, rfl, fun _ _ => rfl⟩
  · split_ifs <;> exact ⟨_, _, _, rfl, fun k hk => tget_tput_ne _ _ _ _ hk⟩

/-- An admin command's end touches the controllers, the posted entries, the admin queue, the interrupts, and the collector's end. -/
theorem adminDone_hfe (s : State) (f : FnIdx) (cid : Nat) (st : Status) (dw0 : Nat) (data : List Nat) :
    ∃ x p c r l, (s.adminDone f cid st dw0 data).hfe =
        { s.hfe with fns := x, posted := p, cqs := c, raised := r, collector := s.hfe.collector ++ l } ∧
      ∀ k, k ≠ qKey f 0 → tget c k = tget s.hfe.cqs k := by
  obtain ⟨x, hx⟩ := logError_hfe s f st
  obtain ⟨p, c, r, hp, hc⟩ := postEntry_hfe (s.logError f st) ⟨f, 0, cid, st, dw0, data, 0⟩ false
  have posted : ∃ x p c r l, ((s.logError f st).postEntry ⟨f, 0, cid, st, dw0, data, 0⟩ false).hfe =
        { s.hfe with fns := x, posted := p, cqs := c, raised := r, collector := s.hfe.collector ++ l } ∧
      ∀ k, k ≠ qKey f 0 → tget c k = tget s.hfe.cqs k := by
    refine ⟨x, p, c, r, [], ?_, fun k hk => (hc k hk).trans (by rw [hx])⟩
    rw [hp, hx, List.append_nil]
  unfold State.adminDone
  dsimp only
  split
  · split
    · exact ⟨x, _, _, _, _, by rw [hx], fun _ _ => rfl⟩
    · exact posted
  · exact posted

/-- What commands that end leave of the queues, windows, formats and the sanitize operation; the collector grows at its end. -/
structure Hfe.Ends (h k : Hfe) : Prop where
  sqs : k.sqs = h.sqs
  windows : k.windows = h.windows
  formats : k.formats = h.formats
  sanitize : k.sanitize = h.sanitize
  sanStatus : k.sanStatus = h.sanStatus
  collector : h.collector <+: k.collector

theorem adminDone_ends (s : State) (f : FnIdx) (cid : Nat) (st : Status) (dw0 : Nat) (data : List Nat) :
    s.hfe.Ends (s.adminDone f cid st dw0 data).hfe := by
  obtain ⟨_, _, _, _, _, h, -⟩ := adminDone_hfe s f cid st dw0 data
  rw [h]
  exact ⟨rfl, rfl, rfl, rfl, rfl, List.prefix_append ..⟩

/-- Of the completion queues the function's admin queue alone takes the entry. -/
theorem adminDone_cqs (s : State) (f : FnIdx) (cid : Nat) (st : Status) (dw0 : Nat) (data : List Nat) {q : Nat} (hq : q ≠ 0) :
    tget (s.adminDone f cid st dw0 data).hfe.cqs (qKey f q) = tget s.hfe.cqs (qKey f q) := by
  obtain ⟨_, _, _, _, _, h, hc⟩ := adminDone_hfe s f cid st dw0 data
  rw [h]
  exact hc _ (qKey_ne_admin f hq)

theorem logError_ok (s : State) (f : FnIdx) : s.logError f stOk = s := if_pos (.inl ⟨rfl, rfl⟩)

/-- A successful end is no entry of the error log (R444). -/
theorem adminDone_ok_fns (s : State) (f : FnIdx) (cid dw0 : Nat) (data : List Nat) : (s.adminDone f cid stOk dw0 data).hfe.fns = s.hfe.fns := by
  obtain ⟨p, c, r, hp, -⟩ := postEntry_hfe s ⟨f, 0, cid, stOk, dw0, data, 0⟩ false
  have hposted : (s.postEntry ⟨f, 0, cid, stOk, dw0, data, 0⟩ false).hfe.fns = s.hfe.fns := by rw [hp]
  unfold State.adminDone
  rw [logError_ok]
  dsimp only
  split
  · split
    · rfl
    · exact hposted
  · exact hposted

@[simp] theorem fn_adminDone_ok (s : State) (f g : FnIdx) (cid dw0 : Nat) (data : List Nat) : (s.adminDone f cid stOk dw0 data).fn g = s.fn g := by
  rw [State.fn, adminDone_ok_fns]
  rfl

/-- An admin command whose effect leaves the posted entries and the collector is answered as it ends. -/
theorem answered_adminDone {s u : State} (hp : u.hfe.posted = s.hfe.posted) (hc : u.hfe.collector = s.hfe.collector) (f : FnIdx) (cid : Nat)
    (st : Status) (dw0 : Nat) (data : List Nat) : s.Answered (u.adminDone f cid st dw0 data) f cid st dw0 data :=
  Answered_of s u _ f cid st dw0 data hp hc (adminDone_answers u f cid st dw0 data)

/-! ### An admin command's turn -/

/-- An admin command that goes answers what its row makes of the state that its entry was taken from. -/
theorem does_admin {c : Instr} {s t : State} (o : Out State) {f : FnIdx} {cid : Nat} {safe sani : Bool} {run : State → State}
    {P : State → Prop} (hc : exec c s = o) (ho : o = s.admin f cid safe sani run) (h : s.AdminGoes f cid safe sani)
    (ht : run (s.adminTake f) = t) (hp : P t) : Does c s P :=
  ⟨t, (hc.trans ho).trans ((admin_goes s f cid safe sani run h).trans (congrArg _ ht)), hp⟩

/-! ### Queue commands (R119) -/

/-- A free identifier within a grant is not refused. -/
theorem not_invalidQid {α : Type} {l : Tbl α} {k qid grant : Nat} (h0 : qid ≠ 0) (hg : qid ≤ grant) (hfree : tget l k = none) :
    ¬ (qid = 0 ∨ grant < qid ∨ (tget l k).isSome) := by
  simp [h0, hg, hfree]

/-- A deleted queue that is the only one, and of which nothing is outstanding, goes, and its command ends (R119). -/
theorem deleteWake_only {s : State} {f : FnIdx} {qid cid : Nat} {q : IoSq} (h : qid < 8192) (hs : s.hfe.sqs = [(qKey f qid, q)])
    (hd : q.deleting = some cid) (ho : s.outstanding f qid = 0) :
    s.deleteWake = ({ s with hfe := { s.hfe with sqs := [] } } : State).adminDone f cid stOk 0 [] := by
  have hkey : qKey f qid = f.val * 8192 + qid := if_pos h
  have hf : (f.val * 8192 + qid) / 8192 = f.val := by omega
  have hq : (f.val * 8192 + qid) % 8192 = qid := by omega
  simp [State.deleteWake, hs, hd, hkey, hf, hq, ho, tdel]

theorem execDeleteIoSq_only {s : State} {f : FnIdx} {cid qid : Nat} {q : IoSq} (h : s.AdminGoes f cid false false) (h0 : qid ≠ 0)
    (hid : qid < 8192) (hs : s.hfe.sqs = [(qKey f qid, q)]) (hw : q.waiting = 0) (ho : s.outstanding f qid = 0) :
    execDeleteIoSq f cid qid s =
      .next (({ s.adminTake f with hfe := { (s.adminTake f).hfe with sqs := [] } } : State).adminDone f cid stOk 0 []) := by
  have hq : tget (s.adminTake f).hfe.sqs (qKey f qid) = some q := by
    change tget s.hfe.sqs _ = _
    rw [hs, tget, if_pos rfl]
  have hput (v : IoSq) : tput (s.adminTake f).hfe.sqs (qKey f qid) v = [(qKey f qid, v)] := by
    change tput s.hfe.sqs _ v = _
    rw [hs, tput, if_neg (lt_irrefl _), if_pos rfl]
  refine (admin_goes s f cid false false _ h).trans (congrArg _ ?_)
  simp only [h0, if_false, hq, hw, List.take_zero, State.dropEntries, hput]
  exact deleteWake_only hid rfl rfl ho

/-- Settles O27: each command that goes on answers the state that its row writes out, and its end leaves the queues. -/
theorem queueCommandsAnswer : Obligations.QueueCommandsAnswer := by
  refine ⟨?createSq, ?createCq, ?scatteredSq, ?scatteredCq, ?deleteSq, ?deleteCq⟩
  case createSq =>
    intro s fn cid qid size cqid hgo h0 hg hfree h2 h64 hc0 hcq
    have hcq' : ¬ (cqid = 0 ∨ (tget s.hfe.cqs (qKey fn cqid)).isNone) := by simp [hc0, Option.isSome_iff_ne_none.mp hcq]
    refine does_admin (execCreateIoSq fn cid qid ⟨size, true⟩ cqid s) rfl rfl hgo
      ((if_neg (not_invalidQid h0 (hg.trans_eq (grantSq_adminTake s fn).symm) hfree)).trans <|
        (if_neg (by dsimp only; omega)).trans <| (if_neg nofun).trans <| if_neg hcq') ⟨?_, ?_⟩
    · exact answered_adminDone rfl rfl ..
    · exact ⟨_, (congrArg (tget · _) (adminDone_ends ..).sqs).trans (tget_tput_same ..), rfl, rfl, rfl, rfl, rfl⟩
  case createCq =>
    intro s fn cid qid size vector ien hgo h0 hg hfree h2 h64 hv
    refine does_admin (execCreateIoCq fn cid qid ⟨size, true⟩ vector ien s) rfl rfl hgo
      ((if_neg (not_invalidQid h0 (hg.trans_eq (grantCq_adminTake s fn).symm) hfree)).trans <|
        (if_neg (by dsimp only; omega)).trans <| (if_neg nofun).trans <| if_neg (Nat.not_le.mpr hv)) ⟨?_, ?_⟩
    · exact answered_adminDone rfl rfl ..
    · exact ⟨_, (adminDone_cqs _ _ _ _ _ _ h0).trans (tget_tput_same ..), rfl, rfl, rfl, rfl, rfl⟩
  case scatteredSq =>
    intro s fn cid qid size cqid hgo h0 hg hfree h2 h64
    refine does_admin (execCreateIoSq fn cid qid ⟨size, false⟩ cqid s) rfl rfl hgo
      ((if_neg (not_invalidQid h0 (hg.trans_eq (grantSq_adminTake s fn).symm) hfree)).trans <|
        (if_neg (by dsimp only; omega)).trans <| if_pos rfl) ⟨?_, ?_⟩
    · exact answered_adminDone rfl rfl ..
    · exact (adminDone_ends ..).sqs
  case scatteredCq =>
    intro s fn cid qid size vector ien hgo h0 hg hfree h2 h64
    refine does_admin (execCreateIoCq fn cid qid ⟨size, false⟩ vector ien s) rfl rfl hgo
      ((if_neg (not_invalidQid h0 (hg.trans_eq (grantCq_adminTake s fn).symm) hfree)).trans <|
        (if_neg (by dsimp only; omega)).trans <| if_pos rfl) ⟨?_, ?_⟩
    · exact answered_adminDone rfl rfl ..
    · exact (adminDone_cqs _ _ _ _ _ _ h0).trans hfree
  case deleteSq =>
    intro s fn cid qid q hgo h0 hq hw hs hid ho
    refine ⟨_, execDeleteIoSq_only hgo h0 hid hs hw ho, ?_, ?_⟩
    · exact answered_adminDone rfl rfl ..
    · rw [(adminDone_ends ..).sqs]
      rfl
  case deleteCq =>
    intro s fn cid qid hgo h0 hq hfree
    have hid : ¬ (qid = 0 ∨ (tget s.hfe.cqs (qKey fn qid)).isNone) := by simp [h0, hq]
    refine does_admin (execDeleteIoCq fn cid qid s) rfl rfl hgo
      ((if_neg hid).trans <| if_neg (ne_true_of_eq_false hfree)) ⟨?_, ?_⟩
    · exact answered_adminDone rfl rfl ..
    · exact (adminDone_cqs _ _ _ _ _ _ h0).trans (tget_tdel_same ..)

end Sys2Proof.Machine

/-!
Commands that end and the fences of Format and Sanitize (O28 to O31): what they leave of the host front end, which later proofs only cite.
-/
namespace Sys2Proof.Machine

/-! ### What commands that end leave (R133 to R135, R137) -/

theorem Only.hfe {l : List Part} {s t : State} (h : Only l s t) (hl : l.contains .hfe = false) : t.hfe = s.hfe := h .hfe hl

theorem Hfe.Ends.refl {h : Hfe} : h.Ends h := ⟨rfl, rfl, rfl, rfl, rfl, List.prefix_refl _⟩

theorem Hfe.Ends.trans {h k l : Hfe} (a : h.Ends k) (b : k.Ends l) : h.Ends l :=
  ⟨b.sqs.trans a.sqs, b.windows.trans a.windows, b.formats.trans a.formats, b.sanitize.trans a.sanitize, b.sanStatus.trans a.sanStatus,
    a.collector.trans b.collector⟩

/-- A step that leaves the host front end, after commands have ended. -/
theorem Hfe.Ends.of_eq {h : Hfe} {s t : State} (a : h.Ends s.hfe) (e : t.hfe = s.hfe) : h.Ends t.hfe := e ▸ a

theorem collect_ends_hfe (s : State) (c : HostCmd) (st : Status) (data : List Blob) : s.hfe.Ends (s.collect c st data).hfe := by
  unfold State.collect
  extract_lets e reads s1 h s2 s3 depth
  obtain ⟨x, hx⟩ := logError_hfe s2 c.fn st
  change s.hfe.Ends s3.hfe
  rw [hx]
  exact ⟨rfl, rfl, rfl, rfl, rfl, List.prefix_append ..⟩

theorem dropMessages_ends (s : State) (gone : Nat → Bool) : s.hfe.Ends (s.dropMessages gone).hfe :=
  List.foldlRecOn (motive := fun t : State => s.hfe.Ends t.hfe) _ _ .refl fun b hb x _ => by
    split
    · extract_lets c u
      exact hb.trans (collect_ends_hfe (u.ackLines x.tag) x _ _)
    · exact hb

theorem dropKeys_ends (s : State) (gone : Nat → Bool) : s.hfe.Ends (s.dropKeys gone).hfe :=
  dropMessages_ends { s with cip := { s.cip with keys := s.cip.keys.filter (fun k => !gone k.1) } } gone

theorem retireKey_ends (s : State) (nsid : Nat) : s.hfe.Ends (s.retireKey nsid).hfe := by
  unfold State.retireKey
  split
  · exact .refl
  · rename_i n _
    exact dropKeys_ends { s with cip := { s.cip with
      floors := tput s.cip.floors nsid (max ((tget s.cip.floors nsid).getD 0) (n.keyRef / 65536 + 1)) } } (· == nsid)

theorem discardNs_ends (s : State) (nsid : Nat) : s.hfe.Ends (s.discardNs nsid).hfe := Hfe.Ends.refl.of_eq ((only_State_discardNs s nsid).hfe rfl)

theorem formatStep_ends (s : State) (nsid : Nat) : s.hfe.Ends (s.formatStep nsid).hfe :=
  Hfe.Ends.refl.of_eq ((only_State_formatStep s nsid).hfe rfl)

theorem foldl_ends {α : Type} {f : State → α → State} (hf : ∀ (s : State) x, s.hfe.Ends (f s x).hfe) (s : State) (l : List α) :
    s.hfe.Ends (l.foldl f s).hfe :=
  List.foldlRecOn (motive := fun t : State => s.hfe.Ends t.hfe) _ _ .refl fun b hb x _ => hb.trans (hf b x)

/-! ### The fences of Format and Sanitize (R133 to R135) -/

/-- A Format as the start of those of a namespace leaves it: recorded, and with no command left to complete (R133). -/
def FormatOp.begunFor (nsid : Nat) (x : FormatOp) : FormatOp := if x.nsid = nsid then { x with started := true, who := none } else x

/-- A Format's start recorded (R133). -/
def State.recordFormat (s : State) (nsid : Nat) : State :=
  { s with hfe := { s.hfe with formats := s.hfe.formats.map (FormatOp.begunFor nsid) } }

/-- What a Format's start does with its namespace (R133, R134). -/
def State.emptyFor (s : State) (f : FormatOp) : State :=
  (if f.ses = 2 then (s.discardNs f.nsid).retireKey f.nsid else s.discardNs f.nsid).formatStep f.nsid

theorem beginFormat_cases (s : State) (f : FormatOp) : s.beginFormat f = (s.recordFormat f.nsid).emptyFor f ∨
    ∃ w : FnIdx × Nat, s.beginFormat f = ((s.recordFormat f.nsid).emptyFor f).adminDone w.1 w.2 stOk 0 [] := by
  unfold State.beginFormat
  extract_lets h s1 s2 s3 s4
  have h4 : s4 = (s.recordFormat f.nsid).emptyFor f := rfl
  rw [← h4]
  split
  · exact .inl rfl
  · split
    · exact .inl rfl
    · exact .inr ⟨_, rfl⟩

theorem emptyFor_ends (s : State) (f : FormatOp) : s.hfe.Ends (s.emptyFor f).hfe := by
  unfold State.emptyFor
  refine .trans ?_ (formatStep_ends ..)
  split
  · exact (discardNs_ends ..).trans (retireKey_ends ..)
  · exact discardNs_ends ..

theorem beginFormat_ends (s : State) (f : FormatOp) : (s.recordFormat f.nsid).hfe.Ends (s.beginFormat f).hfe := by
  rcases beginFormat_cases s f with e | ⟨w, e⟩
  · rw [e]
    exact emptyFor_ends ..
  · rw [e]
    exact (emptyFor_ends ..).trans (adminDone_ends ..)

/-- A Sanitize as its start leaves it (R133). -/
def SanitizeOp.begun (x : SanitizeOp) : SanitizeOp := { x with started := true, who := none }

/-- A Sanitize's start recorded: a running Format ends without completing (R133, R135). -/
def State.recordSanitize (s : State) (x : SanitizeOp) : State :=
  { s with hfe := { s.hfe with sanitize := some x.begun, formats := [], sanStatus := 2 } }

/-- What a Sanitize's start does with the namespaces (R133, R135). -/
def State.discardAll (s : State) (x : SanitizeOp) (all : List Nat) : State :=
  let s := all.foldl (fun (st : State) n => st.discardNs n) s
  if x.action = 4 then all.foldl (fun (st : State) n => st.retireKey n) s else s

theorem beginSanitize_cases (s : State) (x : SanitizeOp) :
    ∃ all, s.beginSanitize x = (s.recordSanitize x).discardAll x all ∨
      ∃ w : FnIdx × Nat, s.beginSanitize x = ((s.recordSanitize x).discardAll x all).adminDone w.1 w.2 stOk 0 [] := by
  unfold State.beginSanitize
  extract_lets all h s1 s2 s3
  refine ⟨all, ?_⟩
  have h3 : s3 = (s.recordSanitize x).discardAll x all := rfl
  rw [← h3]
  split
  · exact .inl rfl
  · exact .inr ⟨_, rfl⟩

theorem discardAll_ends (s : State) (x : SanitizeOp) (all : List Nat) : s.hfe.Ends (s.discardAll x all).hfe := by
  unfold State.discardAll
  dsimp only
  split
  · exact (foldl_ends discardNs_ends s all).trans (foldl_ends retireKey_ends _ all)
  · exact foldl_ends discardNs_ends s all

theorem beginSanitize_ends (s : State) (x : SanitizeOp) : (s.recordSanitize x).hfe.Ends (s.beginSanitize x).hfe := by
  obtain ⟨all, e | ⟨w, e⟩⟩ := beginSanitize_cases s x
  · rw [e]
    exact discardAll_ends ..
  · rw [e]
    exact (discardAll_ends ..).trans (adminDone_ends ..)

/-- The Formats that wait begun where none of their namespaces' commands is left (R133). -/
def State.fenceFormats (s : State) : State :=
  s.hfe.formats.foldl (fun (st : State) f => if !f.started && st.formatting f.nsid && !st.nsInFlight f.nsid then st.beginFormat f else st) s

theorem fenceFormats_rec {motive : State → Prop} (s : State) (h : motive s) (hs : ∀ t f, motive t → motive (t.beginFormat f)) :
    motive s.fenceFormats :=
  List.foldlRecOn _ _ h fun b hb f _ => by
    split
    · exact hs b f hb
    · exact hb

theorem fenceWake_of_none {s : State} (h : s.hfe.sanitize = none) : s.fenceWake = s.fenceFormats := by
  simp only [State.fenceWake, h]
  rfl

theorem fenceWake_of_some {s : State} {x : SanitizeOp} (h : s.hfe.sanitize = some x) :
    s.fenceWake = s.fenceFormats ∨ s.fenceWake = (s.beginSanitize x).fenceFormats := by
  simp only [State.fenceWake, h]
  split
  · exact .inr rfl
  · exact .inl rfl

/-- With nothing that waits for a fence nothing happens. -/
theorem fenceWake_idle {s : State} (hs : s.hfe.sanitize = none) (hf : s.hfe.formats = []) : s.fenceWake = s := by
  rw [fenceWake_of_none hs, State.fenceFormats, hf, List.foldl_nil]

end Sys2Proof.Machine

/-!
The admin commands (O28): what the taking of their entry leaves, and each command's answer.
-/
namespace Sys2Proof.Machine

/-! ### What the taking of an admin entry leaves (R120) -/

@[simp] theorem adminTake_sqs (s : State) (f : FnIdx) : (s.adminTake f).hfe.sqs = s.hfe.sqs := rfl

@[simp] theorem adminTake_cmds (s : State) (f : FnIdx) : (s.adminTake f).hfe.cmds = s.hfe.cmds := rfl

@[simp] theorem adminTake_windows (s : State) (f : FnIdx) : (s.adminTake f).hfe.windows = s.hfe.windows := rfl

theorem identifyNs_adminTake (s : State) (f g : FnIdx) (nsid : Nat) : (s.adminTake f).identifyNs g nsid = s.identifyNs g nsid := rfl

/-- A value of the controllers that the admin queue's head has no part in. -/
theorem fn_adminTake_of {α : Type} {g : FnSt → α} (hg : ∀ x n, g { x with asqHead := n } = g x) (s : State) (f h : FnIdx) :
    g ((s.adminTake f).fn h) = g (s.fn h) := by
  by_cases e : h = f
  · rw [e, fn_adminTake, hg]
  · exact congrArg g (fn_putFn_ne s _ e)

theorem grantOf_adminTake (s : State) (f h : FnIdx) (req : Nat) {grant : FnSt → Nat} (hg : ∀ x n, grant { x with asqHead := n } = grant x) :
    (s.adminTake f).grantOf h req grant = s.grantOf h req grant := by
  have hpool : (s.adminTake f).poolFree grant = s.poolFree grant := by
    simp only [State.poolFree, fn_adminTake_of hg]
    rfl
  rw [State.grantOf, hpool]
  rfl

theorem feature_adminTake (s : State) (f : FnIdx) (fid arg : Nat) : (s.adminTake f).feature f fid arg = s.feature f fid arg := by
  simp only [State.feature, fn_adminTake]
  rfl

/-! ### Features stored (R114) -/

theorem fn_putFeat (s : State) (f : FnIdx) (fid v : Nat) :
    (s.putFeat f fid v).fn f = { s.fn f with feats := tput (s.fn f).feats fid (v % 2 ^ 32) } := fn_putFn_same ..

theorem fn_putTable (s : State) (f : FnIdx) (fid : Nat) (table : List Nat) :
    (s.putTable f fid table).fn f = { s.fn f with apst := if fid = 0x0C then table.take 32 else (s.fn f).apst } := by
  unfold State.putTable
  split
  · exact fn_putFn_same ..
  · rfl

theorem putTable_hfe (s : State) (f : FnIdx) (fid : Nat) (table : List Nat) : ∃ x, (s.putTable f fid table).hfe = { s.hfe with fns := x } := by
  unfold State.putTable
  split <;> exact ⟨_, rfl⟩

theorem plainFeature_cases {fid : Nat} (h : plainFeature fid = true) : fid = 0x04 ∨ fid = 0x08 ∨ fid = 0x0B ∨ fid = 0x0C := by
  simpa [plainFeature] using h

/-- A plain feature has no row of its own, and its command waits for no other (R114, R132). -/
theorem execSetFeaturesOther_plain {s : State} {f : FnIdx} {cid fid : Nat} {x : FeatureGiven} (h : s.AdminGoes f cid false false)
    (hp : plainFeature fid = true) (hser : s.serialBusy = false) :
    execSetFeaturesOther f cid fid x s =
      .next ((((s.adminTake f).putFeat f fid x.value).putTable f fid x.table).adminDone f cid stOk 0 []) := by
  have hown : ¬ ([0x01, 0x02, 0x07, 0xC0, 0xC1].contains fid || (fid == 0x0C && s.serialBusy)) = true := by
    rcases plainFeature_cases hp with rfl | rfl | rfl | rfl <;> simp [hser]
  have h6 : fid ≠ 0x06 ∧ fid ≠ 0x09 := by
    rcases plainFeature_cases hp with rfl | rfl | rfl | rfl <;> decide
  exact (if_neg hown).trans <| (admin_goes s f cid false false _ h).trans <| congrArg _ <|
    (if_neg h6.1).trans <| (if_neg h6.2).trans <| if_pos hp

/-- That a command has been answered is a matter of the host front end alone. -/
theorem State.Answered.of_hfe {s t u : State} {f : FnIdx} {cid : Nat} {st : Status} {dw0 : Nat} {data : List Nat}
    (h : s.Answered t f cid st dw0 data) (e : u.hfe = t.hfe) : s.Answered u f cid st dw0 data := by
  unfold State.Answered at *
  rw [e]
  exact h

/-! ### Full and Trim (R19, R141) -/

theorem startPower_operational {s : State} {w : PsWait} (h : s.fld Fld.PWR_STATE.STATE ≤ 1) (hr : s.pwr.psRun = none) (ht : w.target ≤ 1)
    (hne : w.target ≠ s.fld Fld.PWR_STATE.STATE) :
    s.startPower w = ({ s with pwr := { s.pwr with psRun := some w } } : State).settle w.target := by
  have h2 : ¬ 2 ≤ s.fld Fld.PWR_STATE.STATE := by omega
  simp only [State.startPower, h2, hr, Option.isSome_none, hne, ht, Bool.false_eq_true, if_false, if_true]

/-- A transition that ends in Full or Trim before its command's completion is posted (R19). -/
def State.settled (s : State) (st : Nat) : State :=
  let s := (s.setFld Fld.PWR_STATE.STATE st).setFld Fld.PWR_STATE.TARGET 0
  (({ s with pwr := { s.pwr with psRun := none, reversing := false, lastOp := st } } : State).unhold .powerEntry).incFld Fld.PWR_TRANS_COUNT 1

theorem settle_operational {s : State} {w : PsWait} {st : Nat} (h : st ≤ 1) (hr : s.pwr.psRun = some w) :
    s.settle st = ((s.settled st).adminDone w.fn w.cid stOk 0 []).showClock := by
  simp only [State.settle, State.settled, State.setFld_pwr, h, hr, if_true]

theorem settled_state (s : State) {st : Nat} (h : st ≤ 1) : (s.settled st).fld Fld.PWR_STATE.STATE = st := by
  unfold State.settled State.incFld
  rw [State.fld_setFld_ne _ _ _ _ (by decide), State.fld_unhold]
  change (State.setFld _ _ _).fld _ = st
  rw [State.fld_setFld_ne _ _ _ _ (by decide), State.fld_setFld_same]
  exact Nat.mod_eq_of_lt (h.trans_lt (by decide))

theorem execSetFeaturesPowerManagement_operational {s : State} {f : FnIdx} {cid ps : Nat} (h : s.AdminGoes f cid false false)
    (hf : s.hfe.formats.any (fun x => x.who.isSome) = false) (hs : (s.hfe.sanitize.bind (·.who)).isSome = false) (hps : ps ≤ 1)
    (hst : s.fld Fld.PWR_STATE.STATE ≤ 1) (hne : ps ≠ s.fld Fld.PWR_STATE.STATE) (hr : s.pwr.psRun = none) :
    ∃ u : State, execSetFeaturesPowerManagement f cid ps s = .next ((u.settled ps).adminDone f cid stOk 0 []).showClock ∧
      u.hfe.posted = s.hfe.posted ∧ u.hfe.collector = s.hfe.collector := by
  obtain ⟨hopen, hfetch, hbusy, hdup, -, -⟩ := h
  have h3 : ¬ 3 < ps := by omega
  refine ⟨{ s.adminTake f with pwr := { s.pwr with psRun := some ⟨f, cid, ps⟩ } }, ?_, rfl, rfl⟩
  have hgo : execSetFeaturesPowerManagement f cid ps s = .next ((s.adminTake f).startPower ⟨f, cid, ps⟩) := by
    simp only [execSetFeaturesPowerManagement, hopen, hbusy, hf, hs, hfetch, hdup, h3, Bool.not_true, Bool.or_self, Bool.false_and,
      Bool.false_eq_true, if_false]
  rw [hgo, startPower_operational (s := s.adminTake f) hst hr hps hne, settle_operational (w := ⟨f, cid, ps⟩) hps rfl]
  rfl

/-! ### Abort (R126) -/

theorem fenceFormats_collector (s : State) : s.hfe.collector <+: s.fenceFormats.hfe.collector :=
  fenceFormats_rec (motive := fun t => s.hfe.collector <+: t.hfe.collector) s (List.prefix_refl _)
    fun t f h => h.trans (beginFormat_ends t f).collector

/-- An abortable command ends with Command Abort Requested, and what waits for its end goes on. -/
theorem execAbortCommand_abortable {s : State} {f : FnIdx} {cid sqid target : Nat} {c : HostCmd} (h : s.AdminGoes f cid false false)
    (h0 : sqid ≠ 0) (hc : (c.fn, c.sq, c.cid) = (f, sqid, target)) (hs : s.hfe.cmds = [c]) (ha : s.abortable c = true) :
    ∃ u : State, execAbortCommand f cid sqid target s = .next ((u.collect c stAbortRequested []).fenceWake.adminDone f cid stOk 0 []) ∧
      u.hfe.sanitize = s.hfe.sanitize := by
  obtain ⟨rfl, rfl, rfl⟩ : c.fn = f ∧ c.sq = sqid ∧ c.cid = target := by simpa using hc
  refine ⟨{ s.adminTake c.fn with hfe := { (s.adminTake c.fn).hfe with locks := s.hfe.locks.filter (fun l => l.tag ≠ c.tag) } }, ?_, rfl⟩
  refine (admin_goes s c.fn cid false false _ h).trans (congrArg _ ?_)
  have ha' : (s.adminTake c.fn).abortable c = true := ha
  simp only [h0, false_and, if_false, adminTake_cmds, hs, List.find?_singleton, and_self, decide_true, if_true, ha']
  rfl

/-- Settles O28: each command that goes on answers the state that its row writes out; an aborted command ends before what waits for its end. -/
theorem adminCommandsAnswer : Obligations.AdminCommandsAnswer := by
  refine ⟨?errorLog, ?identify, ?abortNone, ?abort, ?numberOfQueues, ?power, ?queueClass, ?window, ?arbitration, ?plain, ?get, ?event, ?invalid⟩
  case errorLog =>
    intro s fn cid lsp length hgo
    refine does_admin (execGetLogPage fn cid 0x01 lsp length s) rfl rfl hgo rfl ?_
    rw [fn_adminTake]
    exact answered_adminDone rfl rfl ..
  case identify =>
    intro s fn cid nsid hgo h0 h1024
    have hid : ¬ (nsid = 0 ∨ 1024 < nsid) := by omega
    refine does_admin (execIdentify fn cid 0x00 nsid s) rfl rfl hgo (if_neg hid) ?_
    exact answered_adminDone rfl rfl ..
  case abortNone =>
    intro s fn cid sqid target hgo h0 hnone
    refine does_admin (t := (s.adminTake fn).adminDone fn cid stOk 1 []) (execAbortCommand fn cid sqid target s) rfl rfl hgo ?_ ?_
    · simp only [h0, false_and, if_false, adminTake_cmds, hnone]
    · exact answered_adminDone rfl rfl ..
  case abort =>
    intro s fn cid sqid target c hgo h0 hc hs ha
    obtain ⟨u, ht, hu⟩ := execAbortCommand_abortable hgo h0 hc hs ha
    obtain ⟨-, -, -, -, -, hsan⟩ := hgo
    refine ⟨_, ht, ?_⟩
    obtain ⟨e, he, htag, hcqe⟩ := collect_ends u c stAbortRequested []
    have hnone : (u.collect c stAbortRequested []).hfe.sanitize = none := by
      rw [(collect_ends_hfe ..).sanitize, hu]
      simpa using hsan
    rw [fenceWake_of_none hnone]
    refine ⟨e, ((fenceFormats_collector _).trans (adminDone_ends ..).collector).subset ?_, htag, by rw [hcqe]⟩
    rw [he]
    exact List.mem_append_right _ (List.mem_singleton_self e)
  case numberOfQueues =>
    intro s fn cid nsq ncq hgo hser hnq hs0 hc0
    have hnq' : ¬ ((s.adminTake fn).fn fn).nqDone = true := by rw [fn_adminTake, hnq]; nofun
    refine does_admin (execSetFeaturesNumberOfQueues fn cid nsq ncq s) ?_ (if_neg (by rw [hser]; nofun)) hgo
      ((if_neg hnq').trans (if_neg (by simp [hs0, hc0]))) ⟨?_, ?_⟩
    · rfl
    · rw [grantOf_adminTake s fn fn nsq fun _ _ => rfl, grantOf_adminTake s fn fn ncq fun _ _ => rfl]
      exact answered_adminDone rfl rfl ..
    · rw [fn_adminDone_ok]
      change (((s.adminTake fn).putFn fn _).fn fn).nqDone = true ∧ (((s.adminTake fn).putFn fn _).fn fn).grantSq = _ ∧
        (((s.adminTake fn).putFn fn _).fn fn).grantCq = _
      rw [fn_putFn_same]
      exact ⟨rfl, grantOf_adminTake s fn fn nsq fun _ _ => rfl, grantOf_adminTake s fn fn ncq fun _ _ => rfl⟩
  case power =>
    intro s fn cid ps hgo hf hs hps hst hne hr
    obtain ⟨u, ht, hp, hc⟩ := execSetFeaturesPowerManagement_operational hgo hf hs hps hst hne hr
    refine ⟨_, ht, (answered_adminDone (u := u.settled ps) hp hc ..).of_hfe rfl, ?_⟩
    rw [State.showClock, State.fld_setFld_ne _ _ _ _ (by decide), (kept_State_adminDone _ _ _ _ _ _).fld _ rfl, settled_state u hps]
  case queueClass =>
    intro s fn cid sqid cls q hgo h0 hq
    refine does_admin (t := ({ s.adminTake fn with hfe := { (s.adminTake fn).hfe with
      sqs := tput s.hfe.sqs (qKey fn sqid) { q with cls := cls % 4 } } } : State).adminEnd fn cid stOk)
      (execSetFeaturesQueueClass fn cid sqid cls s) rfl rfl hgo ?_ ⟨?_, ?_⟩
    · simp only [h0, if_false, adminTake_sqs, hq]
    · exact answered_adminDone rfl rfl ..
    · exact (congrArg (tget · _) (adminDone_ends ..).sqs).trans (tget_tput_same ..)
  case window =>
    intro s fn cid nsid index start count flags token hgo hns hfree hc
    refine does_admin (t := ((s.adminTake fn).putWindow nsid index start count (decide (flags % 2 = 1))).adminEnd fn cid stOk)
      (execSetFeaturesProtectionWindow fn cid nsid index start count flags token s) rfl rfl hgo
      ((if_neg (ne_true_of_eq_false hns)).trans ?_) ⟨?_, ?_⟩
    · simp only [adminTake_windows, hfree]
    · exact answered_adminDone rfl rfl ..
    · refine (congrArg (tget · _) (adminDone_ends ..).windows).trans ?_
      simp only [State.putWindow, if_neg hc, tget_tput_same]
  case arbitration =>
    intro s fn cid value hgo
    refine does_admin (execSetFeaturesArbitration fn cid value s) rfl rfl hgo rfl ⟨?_, ?_⟩
    · exact answered_adminDone rfl rfl ..
    · rw [State.adminEnd, fn_adminDone_ok, fn_putFeat]
      exact tget_tput_same ..
  case plain =>
    intro s fn cid fid value table hgo hp hser
    obtain ⟨x, hx⟩ := putTable_hfe ((s.adminTake fn).putFeat fn fid value) fn fid table
    refine ⟨_, execSetFeaturesOther_plain hgo hp hser, answered_adminDone (by rw [hx]; rfl) (by rw [hx]; rfl) .., ?_, ?_⟩
    · rw [fn_adminDone_ok, fn_putTable, fn_putFeat, fn_adminTake]
      exact tget_tput_same ..
    · rw [fn_adminDone_ok, fn_putTable, fn_putFeat, fn_adminTake]
  case get =>
    intro s fn cid fid arg v l hgo hv
    refine does_admin (t := (s.adminTake fn).used.adminDone fn cid stOk v l) (execGetFeatures fn cid fid arg s) rfl rfl hgo ?_ ?_
    · simp only [feature_adminTake, hv]
    · exact answered_adminDone rfl rfl ..
  case event =>
    intro s fn cid hgo h4
    have h4' : ¬ 4 ≤ ((s.adminTake fn).fn fn).aers.length := by rw [fn_adminTake]; exact Nat.not_le.mpr h4
    refine does_admin (execAsynchronousEventRequest fn cid s) rfl rfl hgo (if_neg h4') ⟨?_, rfl⟩
    rw [fn_putFn_same, fn_adminTake]
  case invalid =>
    intro s fn cid hgo
    refine does_admin (execInvalidOpcodeCommand fn 0 cid s) rfl (if_pos rfl) hgo rfl ?_
    exact answered_adminDone rfl rfl ..

end Sys2Proof.Machine

/-!
The member commands (O37): a counter that a completion does not move keeps its value as it stands, and the statement reads it reduced to the
counter's width.
-/
namespace Sys2Proof.Machine

/-- A port's own read of its drive's health, in slot 0. -/
def healthRead : MCmd :=
  { owner := .port, gen := 0, cls := 3, kind := .health, array := 0, previous := false, stripe := 0, unit := 0, rows := [], attempts := 0,
    issuedAt := 0, late := false, unknown := false }

/-- The health read is out at port 0, and the port's WRITE_COUNT holds a value of more bits than the counter has. -/
def wideCountState : State :=
  { State.reset with
    regs := [((Fld.WRITE_COUNT.at 0).key, 2 ^ Fld.WRITE_COUNT.width)]
    ports := [(0, { State.reset.port 0 with slots := [(0, healthRead)] })] }

/-- The completion empties the slot and counts a read. -/
theorem execMemberCompletion_wideCountState : execMemberCompletion 0 0 .ok wideCountState =
    .next ((wideCountState.dropSlot 0 0).incFld (Fld.READ_COUNT.at 0) 1) := rfl

/-- The completion of a read leaves WRITE_COUNT as it was. -/
theorem wideCountState_writeCount : ((wideCountState.dropSlot 0 0).incFld (Fld.READ_COUNT.at 0) 1).fld (Fld.WRITE_COUNT.at 0) =
    2 ^ Fld.WRITE_COUNT.width := by decide +kernel

theorem fld_wideCountState : wideCountState.fld (Fld.WRITE_COUNT.at 0) = 2 ^ Fld.WRITE_COUNT.width := by decide +kernel

/-- Refutes O37: the statement is over every state, in its second clause also over one whose register table holds 2 ^ 64 for the 64-bit
WRITE_COUNT. A read's completion leaves that counter at 2 ^ 64, and the clause asks for (2 ^ 64 + 0) % 2 ^ 64, which is 0. -/
theorem not_memberCommandsAdvance : ¬ Obligations.MemberCommandsAdvance := by
  intro h
  obtain ⟨-, hok, -⟩ := h
  obtain ⟨t, ht, -, -, hcount⟩ := hok wideCountState 0 0 healthRead (by decide +kernel) (by decide +kernel)
  obtain rfl := Host.Outcome.next.inj (execMemberCompletion_wideCountState.symm.trans ht)
  have hwrite : (2 ^ 64 : Nat) = (2 ^ 64 + 0) % 2 ^ 64 :=
    wideCountState_writeCount.symm.trans (hcount.trans (congrArg (fun n => (n + 0) % 2 ^ 64) fld_wideCountState))
  exact absurd hwrite (by decide)

end Sys2Proof.Machine

/-!
Format and sanitize (O29): what a fence keeps of a Format and of a Sanitize, the sanitize watermark, and what the commands take and end.
-/
namespace Sys2Proof.Machine

/-! ### What the fences keep (R133) -/

/-- A Format of the namespace stands, begun or with its command to complete. -/
def State.FormatTaken (s : State) (f : FnIdx) (cid nsid ses : Nat) : Prop :=
  ∃ x ∈ s.hfe.formats, x.nsid = nsid ∧ x.ses = ses ∧ (x.started = true ∨ x.who = some (f, cid))

theorem begunFor_nsid (n : Nat) (x : FormatOp) : (FormatOp.begunFor n x).nsid = x.nsid := by
  unfold FormatOp.begunFor
  split <;> rfl

theorem begunFor_ses (n : Nat) (x : FormatOp) : (FormatOp.begunFor n x).ses = x.ses := by
  unfold FormatOp.begunFor
  split <;> rfl

theorem begunFor_taken {n : Nat} {x : FormatOp} {w : FnIdx × Nat} (h : x.started = true ∨ x.who = some w) :
    (FormatOp.begunFor n x).started = true ∨ (FormatOp.begunFor n x).who = some w := by
  unfold FormatOp.begunFor
  split
  · exact .inl rfl
  · exact h

theorem formatTaken_beginFormat {s : State} {f : FnIdx} {cid nsid ses : Nat} (g : FormatOp) (h : s.FormatTaken f cid nsid ses) :
    (s.beginFormat g).FormatTaken f cid nsid ses := by
  obtain ⟨x, hx, hn, hs, hw⟩ := h
  refine ⟨x.begunFor g.nsid, ?_, (begunFor_nsid _ x).trans hn, (begunFor_ses _ x).trans hs, begunFor_taken hw⟩
  rw [(beginFormat_ends s g).formats]
  exact List.mem_map_of_mem hx

theorem fenceFormats_sanitize (s : State) : s.fenceFormats.hfe.sanitize = s.hfe.sanitize :=
  fenceFormats_rec (motive := fun t => t.hfe.sanitize = s.hfe.sanitize) s rfl fun t f h => (beginFormat_ends t f).sanitize.trans h

/-- A fence leaves the sanitize operation as it was or begun. -/
theorem fenceWake_sanitize {s : State} {x : SanitizeOp} (h : s.hfe.sanitize = some x) :
    s.fenceWake.hfe.sanitize = some x ∨ s.fenceWake.hfe.sanitize = some x.begun := by
  rcases fenceWake_of_some h with e | e
  · exact .inl (by rw [e, fenceFormats_sanitize, h])
  · exact .inr (by rw [e, fenceFormats_sanitize, (beginSanitize_ends s x).sanitize]; rfl)

/-! ### The commands (R134, R135) -/

/-- The attached namespaces, of which a Format of one namespace takes that one. -/
def State.formatNamed (s : State) (f : FnIdx) (nsid : Nat) : List Nat :=
  ((((s.img.running.map (·.namespaces)).getD []).filter (fun n => nsAttached n f)).map (·.nsid)).filter (· = nsid)

theorem mem_formatNamed {s : State} {f : FnIdx} {nsid m : Nat} (h : m ∈ s.formatNamed f nsid) : m = nsid :=
  of_decide_eq_true (List.mem_filter.mp h).2

theorem mem_formatNamed_of_nsFor {s : State} {f : FnIdx} {nsid : Nat} {n : NsEntry} (h : s.nsFor f nsid = some n) :
    nsid ∈ s.formatNamed f nsid := by
  obtain ⟨hn, hf⟩ := Option.filter_eq_some_iff.mp h
  unfold State.ns at hn
  split at hn
  · rename_i i hi
    have hid : n.nsid = nsid := by simpa using List.find?_some hn
    refine List.mem_filter.mpr ⟨List.mem_map.mpr ⟨n, List.mem_filter.mpr ⟨?_, hf⟩, hid⟩, decide_eq_true rfl⟩
    rw [hi]
    exact List.mem_of_find?_eq_some hn
  · cases hn

theorem formatNamed_any {s : State} {f : FnIdx} {nsid : Nat} {p : Nat → Bool} (h : p nsid = false) : (s.formatNamed f nsid).any p = false :=
  List.any_eq_false.mpr fun _ hm => by rw [mem_formatNamed hm, h]; nofun

/-- The named Formats recorded to wait for their fence (R133). -/
def State.waitFormats (s : State) (f : FnIdx) (cid nsid ses : Nat) : State :=
  { s with hfe := { s.hfe with formats := s.hfe.formats ++ (s.formatNamed f nsid).map (fun n => FormatOp.mk n ses 0 false (some (f, cid))) } }

theorem formatTaken_fenceWake {s : State} {f : FnIdx} {cid nsid ses : Nat} (hs : s.hfe.sanitize = none) (h : nsid ∈ s.formatNamed f nsid) :
    (s.waitFormats f cid nsid ses).fenceWake.FormatTaken f cid nsid ses := by
  rw [fenceWake_of_none (s := s.waitFormats f cid nsid ses) hs]
  exact fenceFormats_rec (motive := fun t => t.FormatTaken f cid nsid ses) _
    ⟨_, List.mem_append_right _ (List.mem_map_of_mem h), rfl, rfl, .inr rfl⟩ fun t g ht => formatTaken_beginFormat g ht

theorem askSanitize_goes {s : State} {f : FnIdx} (cid : Nat) (x : SanitizeOp) (hf : isPf f = true) (hr : s.bit Fld.HFE_STATUS.REPLAY_PENDING = false)
    (hw : (((s.img.running.map (·.namespaces)).getD []).map (·.nsid)).any (fun n => s.lockedWindow n) = false) :
    s.askSanitize f cid x = ({ s with hfe := { s.hfe with sanitize := some { x with who := some (f, cid) } } } : State).fenceWake := by
  simp only [State.askSanitize, hf, hr, hw, Bool.not_true, Bool.false_eq_true, if_false]

/-! ### The sanitize watermark (R135) -/

/-- The watermark of an array after one more step (R135). -/
def SanitizeOp.advance (x : SanitizeOp) (marks : Tbl Nat) (a : Nat × Arr) : Tbl Nat :=
  tput marks a.1 (min ((tget x.marks a.1).getD 0 + 65536) (groupsFor a.2.cur.dataSectors))

/-- One array's step of a sanitize (R135). -/
def State.sanitizeArray (x : SanitizeOp) (s : State) (a : Nat × Arr) : State :=
  let lo := (tget x.marks a.1).getD 0
  let hi := min (lo + 65536) (groupsFor a.2.cur.dataSectors)
  let s := s.eraseGroups a.2 x lo hi
  { s with hfe := { s.hfe with sanitize := s.hfe.sanitize.map (fun (y : SanitizeOp) => { y with marks := tput y.marks a.1 hi }) } }

theorem sanitizeStep_eq (s : State) (x : SanitizeOp) : s.sanitizeStep x = s.rbe.arrays.foldl (State.sanitizeArray x) s := rfl

theorem sanitizeArray_sanitize {s : State} (x : SanitizeOp) {m : Tbl Nat} (a : Nat × Arr) (h : s.hfe.sanitize = some { x with marks := m }) :
    (s.sanitizeArray x a).hfe.sanitize = some { x with marks := x.advance m a } := by
  unfold State.sanitizeArray
  extract_lets lo hi u
  have hu : u.hfe = s.hfe := (only_State_eraseGroups s a.2 x lo hi).hfe rfl
  change u.hfe.sanitize.map _ = _
  rw [hu, h]
  rfl

theorem foldl_sanitizeArray (x : SanitizeOp) (l : List (Nat × Arr)) {s : State} {m : Tbl Nat}
    (h : s.hfe.sanitize = some { x with marks := m }) :
    (l.foldl (State.sanitizeArray x) s).hfe.sanitize = some { x with marks := l.foldl x.advance m } := by
  induction l generalizing s m with
  | nil => exact h
  | cons a l ih => exact ih (sanitizeArray_sanitize x a h)

/-- Settles O29: a command that is taken leaves its operation waiting or begun, whatever its fence does; the ends are their rows' branches. -/
theorem formatAndSanitizeRun : Obligations.FormatAndSanitizeRun := by
  refine ⟨?format, ?overwrite, ?crypto, ?other, ?watermark, ?formatEnd, ?failedEnd, ?sanitizeEnd⟩
  case format =>
    intro s fn cid nsid ses n hgo hser hall hn hr hses hf hw
    have hsan : s.hfe.sanitize = none := by
      obtain ⟨-, -, -, -, -, hsan⟩ := hgo
      simpa using hsan
    have hmem : nsid ∈ (s.adminTake fn).formatNamed fn nsid := mem_formatNamed_of_nsFor hn
    have hne : ¬ ((s.adminTake fn).formatNamed fn nsid).isEmpty = true := by
      rw [List.isEmpty_iff]
      exact List.ne_nil_of_mem hmem
    have hfs : ((s.adminTake fn).formatNamed fn nsid).any (fun n => (s.adminTake fn).formatting n) = false := formatNamed_any hf
    have hws : ((s.adminTake fn).formatNamed fn nsid).any (fun n => (s.adminTake fn).lockedWindow n) = false := formatNamed_any hw
    have hses' : ¬ 2 < ses := Nat.not_lt.mpr hses
    refine does_admin (execFormatNvm fn cid nsid ses ⟨0, 0, 0, 0⟩ s) rfl (if_neg (ne_true_of_eq_false hser)) hgo ?_
      (formatTaken_fenceWake (s := s.adminTake fn) hsan hmem)
    dsimp only
    rw [if_neg hall]
    exact (if_neg (ne_true_of_eq_false hr)).trans <| (if_neg (by decide)).trans <| (if_neg hses').trans <| (if_neg (fun h => hne h.2)).trans <|
      (if_neg (ne_true_of_eq_false hfs)).trans <| (if_neg (ne_true_of_eq_false hws)).trans <| if_neg hne
  case overwrite =>
    intro s fn cid pattern passes invert hgo hser hpf hr hw
    refine does_admin (execSanitizeOverwrite fn cid pattern passes invert s) rfl (if_neg (ne_true_of_eq_false hser)) hgo
      (askSanitize_goes (s := s.adminTake fn) cid _ hpf hr hw) ?_
    rcases fenceWake_sanitize (s := { s.adminTake fn with hfe := { (s.adminTake fn).hfe with sanitize := some _ } }) rfl with e | e <;>
      exact ⟨_, e, rfl, rfl, rfl, rfl⟩
  case crypto =>
    intro s fn cid hgo hser hpf hr hw
    refine does_admin (execSanitizeCryptoErase fn cid s) rfl (if_neg (ne_true_of_eq_false hser)) hgo
      (askSanitize_goes (s := s.adminTake fn) cid _ hpf hr hw) ?_
    rcases fenceWake_sanitize (s := { s.adminTake fn with hfe := { (s.adminTake fn).hfe with sanitize := some _ } }) rfl with e | e <;>
      exact ⟨_, e, rfl⟩
  case other =>
    intro s fn cid hgo hser hpf
    have hone : ¬ (1 = 3 ∨ 1 = 4 ∨ s.serialBusy = true) := by simp [hser]
    refine does_admin (execSanitizeOther fn cid 1 s) rfl (if_neg hone) hgo ((if_neg (by simp [hpf])).trans (if_pos rfl)) ⟨?_, ?_⟩
    · exact answered_adminDone rfl rfl ..
    · exact (adminDone_ends ..).sanStatus
  case watermark =>
    intro s nsid x hr hx hst
    have ht : execFormatWatermarkSave nsid s = .next (s.sanitizeStep x) := by
      simp only [execFormatWatermarkSave, hr, hx, hst, Bool.false_eq_true, if_false, if_true]
    exact ⟨_, ht, foldl_sanitizeArray x _ hx⟩
  case formatEnd =>
    intro s nsid hr hf hl hc
    exact ⟨_, (if_neg (ne_true_of_eq_false hr)).trans <| (if_pos hf).trans <| if_pos ⟨by rw [hl]; rfl, hc⟩, rfl⟩
  case failedEnd =>
    intro s x hr hx hst hfail
    have ht : execSanitizeEnd s = .next { s with hfe := { s.hfe with sanitize := none, sanStatus := 3 } } := by
      simp only [execSanitizeEnd, hx, hst, hr, hfail, Bool.not_true, Bool.or_self, Bool.false_eq_true, if_false, if_true]
    exact ⟨_, ht, rfl, rfl⟩
  case sanitizeEnd =>
    intro s x hr hx hst hfail hu hd
    have hempty : s.wc.updates.isEmpty ∧ s.hasDirty = false := ⟨by rw [hu]; rfl, hd⟩
    have ht : execSanitizeEnd s =
        .next { s.eraseMembers x with hfe := { (s.eraseMembers x).hfe with sanitize := none, sanStatus := 1 } } := by
      simp only [execSanitizeEnd, hx, hst, hr, hfail, Bool.not_true, Bool.or_self, Bool.false_eq_true, if_false, if_pos hempty]
    exact ⟨_, ht, rfl, rfl⟩

end Sys2Proof.Machine

/-!
Enabling and resets of functions (O31): what the end of a command without completion leaves, the quiesced function, and the quiesced port.
-/
namespace Sys2Proof.Machine

/-! ### Commands that end without completion (R137) -/

/-- What commands that end without completion leave of the controllers, queues, formats and the sanitize operation; no command comes. -/
structure Hfe.Drops (h k : Hfe) : Prop where
  fns : k.fns = h.fns
  sqs : k.sqs = h.sqs
  formats : k.formats = h.formats
  sanitize : k.sanitize = h.sanitize
  cmds : k.cmds ⊆ h.cmds

theorem Hfe.Drops.trans {h k l : Hfe} (a : h.Drops k) (b : k.Drops l) : h.Drops l :=
  ⟨b.fns.trans a.fns, b.sqs.trans a.sqs, b.formats.trans a.formats, b.sanitize.trans a.sanitize, fun _ hc => a.cmds (b.cmds hc)⟩

theorem freeTag_hfe (s : State) (i : Nat) (busy : Bool) : ∃ l a b, (s.freeTag i busy).hfe = { s.hfe with held := l, freed0 := a, freedS := b } := by
  unfold State.freeTag
  dsimp only
  split_ifs <;> exact ⟨_, _, _, rfl⟩

/-- A released command leaves with its locks, and its tag goes to a list of free ones or is held. -/
theorem releaseCmd_hfe (s : State) (tag : Nat) (busy : Bool) : ∃ k l a b, (s.releaseCmd tag busy).hfe =
    { s.hfe with cmds := s.hfe.cmds.filter (fun c => c.tag ≠ tag), locks := k, held := l, freed0 := a, freedS := b } := by
  unfold State.releaseCmd
  extract_lets h
  obtain ⟨l, a, b, e⟩ := freeTag_hfe { s with hfe := { h with cmds := h.cmds.filter (fun c => c.tag ≠ tag),
                                                              locks := h.locks.filter (fun l => l.tag ≠ tag) } } tag busy
  exact ⟨_, l, a, b, e⟩

theorem releaseCmd_cmds (s : State) (tag : Nat) (busy : Bool) :
    (s.releaseCmd tag busy).hfe.cmds = s.hfe.cmds.filter (fun c => c.tag ≠ tag) := by
  obtain ⟨_, _, _, _, e⟩ := releaseCmd_hfe s tag busy
  rw [e]

theorem releaseCmd_drops (s : State) (tag : Nat) (busy : Bool) : s.hfe.Drops (s.releaseCmd tag busy).hfe := by
  obtain ⟨_, _, _, _, e⟩ := releaseCmd_hfe s tag busy
  rw [e]
  exact ⟨rfl, rfl, rfl, rfl, List.filter_subset_self _⟩

/-- What a command that ends without completion held outside the host front end (R137). -/
def State.dropHeld (s : State) (tag : Nat) : State := ((s.dropWork tag).abandonLines tag).lanesCount

theorem dropHeld_hfe (s : State) (tag : Nat) : (s.dropHeld tag).hfe = s.hfe :=
  ((only_State_lanesCount _).hfe rfl).trans <| ((only_State_abandonLines _ _).hfe rfl).trans <| (only_State_dropWork _ _).hfe rfl

theorem abandon_drops (s : State) (c : HostCmd) : s.hfe.Drops (s.abandon c).hfe := by
  unfold State.abandon
  extract_lets t h u
  have ht : t.hfe = s.hfe := dropHeld_hfe s c.tag
  exact .trans (ht ▸ ⟨rfl, rfl, rfl, rfl, fun _ h => h⟩) (releaseCmd_drops u ..)

theorem abandon_cmds (s : State) (c : HostCmd) : (s.abandon c).hfe.cmds = s.hfe.cmds.filter (fun d => d.tag ≠ c.tag) := by
  unfold State.abandon
  extract_lets t h u
  have ht : t.hfe = s.hfe := dropHeld_hfe s c.tag
  rw [releaseCmd_cmds, ← ht]

/-- Commands of a function that end without completion (R137). -/
def State.abandonFn (s : State) (f : FnIdx) : State := (s.hfe.cmds.filter (fun c => c.fn = f)).foldl (fun (t : State) c => t.abandon c) s

theorem foldl_abandon_drops (s : State) (l : List HostCmd) : s.hfe.Drops (l.foldl (fun (t : State) c => t.abandon c) s).hfe :=
  List.foldlRecOn (motive := fun t : State => s.hfe.Drops t.hfe) _ _ ⟨rfl, rfl, rfl, rfl, fun _ h => h⟩ fun b hb c _ =>
    hb.trans (abandon_drops b c)

theorem foldl_abandon_tag {s : State} {l : List HostCmd} {c d : HostCmd} (hc : c ∈ l)
    (hd : d ∈ (l.foldl (fun (t : State) c => t.abandon c) s).hfe.cmds) : d.tag ≠ c.tag := by
  induction l generalizing s with
  | nil => cases hc
  | cons e l ih =>
    rcases List.mem_cons.mp hc with rfl | hc
    · have hmem := (foldl_abandon_drops (s.abandon c) l).cmds hd
      rw [abandon_cmds] at hmem
      exact of_decide_eq_true (List.mem_filter.mp hmem).2
    · exact ih hc hd

theorem abandonFn_cmds (s : State) (f : FnIdx) : (s.abandonFn f).hfe.cmds.any (fun c => decide (c.fn = f)) = false := by
  refine List.any_eq_false.mpr fun d hd hf => ?_
  have hmem : d ∈ s.hfe.cmds.filter (fun c => c.fn = f) := List.mem_filter.mpr ⟨(foldl_abandon_drops s _).cmds hd, hf⟩
  exact foldl_abandon_tag hmem hd rfl

theorem abandonFn_pwr (s : State) (f : FnIdx) : (s.abandonFn f).pwr = s.pwr :=
  List.foldlRecOn (motive := fun t : State => t.pwr = s.pwr) _ _ rfl fun b hb c _ => ((only_State_abandon b c).pwr rfl).trans hb

/-! ### A quiesced function (R137) -/

/-- A function that is off until its reset completes. -/
def FnSt.Down (x : FnSt) : Prop := x.en = false ∧ x.resetting = true

/-- No Format and no Sanitize waits for a fence. -/
def State.Unfenced (s : State) : Prop := s.hfe.formats = [] ∧ s.hfe.sanitize = none

theorem fenceWake_of_unfenced {s : State} (h : s.Unfenced) : s.fenceWake = s := fenceWake_idle h.2 h.1

theorem quiesce_cmds (s : State) (f : FnIdx) : (s.quiesce f).hfe.cmds.any (fun c => decide (c.fn = f)) = false := abandonFn_cmds s f

theorem quiesce_sqs (s : State) (f : FnIdx) : (s.quiesce f).hfe.sqs.any (fun q => q.1 / 8192 == f.val) = false := by
  refine List.any_eq_false.mpr fun q hq hf => ?_
  have hmine := (List.mem_filter.mp hq).2
  exact absurd hmine (by simp [beq_iff_eq.mp hf])

theorem quiesce_down (s : State) (f : FnIdx) : ((s.quiesce f).fn f).Down := by
  unfold State.quiesce
  rw [fn_putFn_same]
  exact ⟨rfl, rfl⟩

theorem quiesce_fn_ne (s : State) {f g : FnIdx} (h : g ≠ f) : (s.quiesce f).fn g = s.fn g := by
  unfold State.quiesce
  rw [fn_putFn_ne _ _ h]
  exact congrArg (fun x => (tget x g.val).getD fnDisabled) (foldl_abandon_drops s _).fns

theorem quiesce_unfenced {s : State} (h : s.Unfenced) (f : FnIdx) : (s.quiesce f).Unfenced := by
  have hd : s.hfe.Drops (s.abandonFn f).hfe := foldl_abandon_drops s _
  constructor
  · change (s.abandonFn f).hfe.formats.map _ = []
    rw [hd.formats, h.1, List.map_nil]
  · change (s.abandonFn f).hfe.sanitize.map _ = none
    rw [hd.sanitize, h.2, Option.map_none]

theorem quiesce_perstLow (s : State) (f : FnIdx) : (s.quiesce f).pwr.perstLow = s.pwr.perstLow :=
  congrArg (·.perstLow) (abandonFn_pwr s f)

/-! ### A quiesced port (R138) -/

/-- A function reset with its port: its VFs go with it (R138). -/
def State.resetFn (s : State) (f : FnIdx) : State := (s.quiesce f).putFn f { (s.quiesce f).fn f with vfEnable := false }

theorem resetFn_down (s : State) (f : FnIdx) {g : FnIdx} (h : g = f ∨ (s.fn g).Down) : ((s.resetFn f).fn g).Down := by
  by_cases e : g = f
  · subst e
    rw [State.resetFn, fn_putFn_same]
    exact quiesce_down s g
  · rw [State.resetFn, fn_putFn_ne _ _ e, quiesce_fn_ne s e]
    exact h.resolve_left e

theorem resetFn_unfenced {s : State} (h : s.Unfenced) (f : FnIdx) : (s.resetFn f).Unfenced := quiesce_unfenced h f

theorem foldl_resetFn_down {s : State} {l : List FnIdx} {g : FnIdx} (h : g ∈ l ∨ (s.fn g).Down) : ((l.foldl State.resetFn s).fn g).Down := by
  induction l generalizing s with
  | nil => exact h.resolve_left List.not_mem_nil
  | cons f l ih =>
    refine ih ?_
    rcases h with hg | hd
    · rcases List.mem_cons.mp hg with e | hg
      · exact .inr (resetFn_down s f (.inl e))
      · exact .inl hg
    · exact .inr (resetFn_down s f (.inr hd))

theorem foldl_resetFn_unfenced {s : State} (h : s.Unfenced) (l : List FnIdx) : (l.foldl State.resetFn s).Unfenced :=
  List.foldlRecOn (motive := State.Unfenced) _ _ h fun _ hb f _ => resetFn_unfenced hb f

theorem foldl_resetFn_perstLow (s : State) (l : List FnIdx) : (l.foldl State.resetFn s).pwr.perstLow = s.pwr.perstLow :=
  List.foldlRecOn (motive := fun t : State => t.pwr.perstLow = s.pwr.perstLow) _ _ rfl fun b hb f _ => (quiesce_perstLow b f).trans hb

/-- The functions of a port that a reset of it takes (R138). -/
def State.resetFns (s : State) (hp : Nat) : List FnIdx := (portFns hp).filter (fun f => s.fnEnabled f)

theorem mem_resetFns {s : State} {hp : Nat} {f : FnIdx} (hf : fnPort f = hp) (he : s.fnEnabled f = true) : f ∈ s.resetFns hp :=
  List.mem_filter.mpr ⟨List.mem_filter.mpr ⟨List.mem_finRange f, decide_eq_true hf⟩, he⟩

theorem portQuiesce_eq (s : State) (hp : Nat) :
    s.portQuiesce hp = (((s.resetFns hp).foldl State.resetFn s).dmaPortReset hp).fenceWake := rfl

theorem dmaPortReset_unfenced {s : State} (h : s.Unfenced) (hp : Nat) : (s.dmaPortReset hp).Unfenced := by
  rw [State.Unfenced, (only_State_dmaPortReset s hp).hfe rfl]
  exact h

/-- With nothing that waits for a fence a port's reset is that of its functions and of its DMA channels and windows. -/
theorem portQuiesce_of_unfenced {s : State} (h : s.Unfenced) (hp : Nat) :
    s.portQuiesce hp = ((s.resetFns hp).foldl State.resetFn s).dmaPortReset hp := by
  rw [portQuiesce_eq, fenceWake_of_unfenced (dmaPortReset_unfenced (foldl_resetFn_unfenced h _) hp)]

theorem portQuiesce_down {s : State} (h : s.Unfenced) {hp : Nat} {g : FnIdx} (hg : (fnPort g = hp ∧ s.fnEnabled g = true) ∨ (s.fn g).Down) :
    ((s.portQuiesce hp).fn g).Down := by
  rw [portQuiesce_of_unfenced h, State.fn, (only_State_dmaPortReset _ _).hfe rfl]
  exact foldl_resetFn_down (hg.imp_left fun ⟨hp, he⟩ => mem_resetFns hp he)

theorem portQuiesce_unfenced {s : State} (h : s.Unfenced) (hp : Nat) : (s.portQuiesce hp).Unfenced := by
  rw [portQuiesce_of_unfenced h]
  exact dmaPortReset_unfenced (foldl_resetFn_unfenced h _) hp

theorem portQuiesce_perstLow {s : State} (h : s.Unfenced) (hp : Nat) : (s.portQuiesce hp).pwr.perstLow = s.pwr.perstLow := by
  rw [portQuiesce_of_unfenced h, (only_State_dmaPortReset _ _).pwr rfl]
  exact foldl_resetFn_perstLow s _

/-- Which functions are enabled is a matter of the running image and of the safe mode. -/
theorem fnEnabled_of {s t : State} (hi : t.img = s.img) (hs : t.bit Fld.IMG_BOOT.SAFE_MODE = s.bit Fld.IMG_BOOT.SAFE_MODE) (f : FnIdx) :
    t.fnEnabled f = s.fnEnabled f := by
  rw [State.fnEnabled, State.fnEnabled, hi, hs]

theorem fnEnabled_portQuiesce (s : State) (hp : Nat) (f : FnIdx) : (s.portQuiesce hp).fnEnabled f = s.fnEnabled f :=
  fnEnabled_of ((only_State_portQuiesce s hp).img rfl) ((kept_State_portQuiesce s hp).bit _ rfl) f

/-- Settles O31: a reset takes each enabled function of its port once, and no later function's reset brings it back. -/
theorem functionResetsTakeEffect : Obligations.FunctionResetsTakeEffect := by
  refine ⟨?enable, ?flr, ?ccClear, ?complete, ?perst, ?release, ?hotReset, ?nssr⟩
  case enable =>
    intro s fn asqs acqs he hen hr hfast hlow hs0 hc0 hs hc
    have hgo : (!s.fnEnabled fn || (s.fn fn).en || (s.fn fn).resetting || s.pwr.fast != .running || (s.pwr.perstLow[fnPort fn]?).getD false) =
        false := by
      simp [he, hen, hr, hfast, hlow]
    refine ⟨_, (if_neg (ne_true_of_eq_false hgo)).trans (if_neg (by omega)), ?_⟩
    change (((s.putFn fn _).fn fn).en = true ∧ ((s.putFn fn _).fn fn).rdy = true ∧ ((s.putFn fn _).fn fn).asqs = asqs ∧
      ((s.putFn fn _).fn fn).acqs = acqs)
    rw [fn_putFn_same]
    exact ⟨rfl, rfl, rfl, rfl⟩
  case flr =>
    intro s fn he hpf hf hs
    have ht : execFunctionReset fn .flr s = .next (s.quiesce fn) := by
      rw [← fenceWake_of_unfenced (quiesce_unfenced ⟨hf, hs⟩ fn)]
      simp only [execFunctionReset, he, hpf, Bool.not_true, Bool.false_eq_true, if_false]
    exact ⟨_, ht, (quiesce_down s fn).1, (quiesce_down s fn).2, quiesce_cmds s fn, quiesce_sqs s fn⟩
  case ccClear =>
    intro s fn he hen hf hs
    have ht : execFunctionReset fn .ccClear s = .next (s.quiesce fn) := by
      rw [← fenceWake_of_unfenced (quiesce_unfenced ⟨hf, hs⟩ fn)]
      simp only [execFunctionReset, he, hen, Bool.not_true, Bool.false_eq_true, if_false, if_true]
    exact ⟨_, ht, (quiesce_down s fn).1, (quiesce_down s fn).2, quiesce_cmds s fn, quiesce_sqs s fn⟩
  case complete =>
    intro s fn hr
    refine ⟨_, if_pos hr, ?_⟩
    dsimp only
    rw [fn_putFn_same]
    exact ⟨rfl, rfl⟩
  case perst =>
    intro s hp hf hs hlen
    have hun : (s.setPerst hp true).Unfenced := ⟨hf, hs⟩
    refine ⟨_, rfl, ?_, fun f hport he => ?_⟩
    · rw [portQuiesce_perstLow hun]
      exact List.getElem?_set_self (by omega)
    · exact portQuiesce_down hun (.inl ⟨hport, he⟩)
  case release =>
    intro s hp hlen
    exact ⟨_, rfl, List.getElem?_set_self (by omega), rfl⟩
  case hotReset =>
    intro s hp hf hs
    exact ⟨_, rfl, portQuiesce_perstLow ⟨hf, hs⟩ _, fun f hport he => portQuiesce_down ⟨hf, hs⟩ (.inl ⟨hport, he⟩)⟩
  case nssr =>
    intro s fn he hf hs
    refine ⟨_, if_neg (by simp [he]), fun f hfe => ?_⟩
    have hun := portQuiesce_unfenced (s := s) ⟨hf, hs⟩ 0
    have hport : fnPort f = 0 ∨ fnPort f = 1 := by
      unfold fnPort
      omega
    rcases hport with h0 | h1
    · exact portQuiesce_down hun (.inr (portQuiesce_down ⟨hf, hs⟩ (.inl ⟨h0, hfe⟩)))
    · exact portQuiesce_down hun (.inl ⟨h1, (fnEnabled_portQuiesce s 0 f).trans hfe⟩)

end Sys2Proof.Machine

/-!
Host commands that hold their lock (O30): the command's record, the place of a sector, the read of one sector, the post of an entry.
-/
namespace Sys2Proof.Machine

/-! ### A command's record -/

theorem tag_of_cmd {s : State} {tag : Nat} {c : HostCmd} (h : s.cmd tag = some c) : c.tag = tag := by
  simpa using List.find?_some h

/-- A command's record as it was last put. -/
theorem cmd_putCmd {s : State} {tag : Nat} {c d : HostCmd} (h : s.cmd tag = some c) (hd : d.tag = tag) : (s.putCmd d).cmd tag = some d := by
  subst hd
  have hmap : (fun x => decide (HostCmd.tag x = d.tag)) ∘ (fun x : HostCmd => if x.tag = d.tag then d else x) =
      fun x => decide (x.tag = d.tag) := by
    funext x
    dsimp only [Function.comp]
    split
    · next e => rw [e]
    · rfl
  rw [State.cmd, State.putCmd, List.find?_map, hmap]
  exact (congrArg (Option.map _) h).trans (congrArg some (if_pos (tag_of_cmd h)))

theorem rangeLbas_one (lba : Nat) : rangeLbas [⟨lba, 1⟩] = [lba] := by
  simp [rangeLbas]

theorem mapped_ok {s : State} {c : HostCmd} (h : s.mapCheck c = none) : s.mapped c = (true, s) := by
  simp only [State.mapped, h]

/-! ### Placing sectors (R147) -/

/-- A write that the limit admits is placed at once (R152). -/
theorem reserve_fits {s : State} {c : HostCmd} (hw : s.bit Fld.WC_STATUS.WRITE_THROUGH = false) (hq : s.limitQueue .limitWait = [])
    (hf : s.limitFits c = true) : s.reserve c = (s.putCmd { c with phase := .placing }).goPlace c.tag := by
  simp only [State.reserve, hw, hq, hf, List.filter_nil, List.isEmpty_nil, Bool.and_self, Bool.false_eq_true, if_false, if_true]

theorem goPlace_empty {s : State} {c : HostCmd} {tag : Nat} (h : s.cmd tag = some c) (hk : c.kind ≠ .write) : s.goPlace tag = s.placeEmpty c := by
  simp [State.goPlace, h, hk]

theorem goPlace_write {s : State} {c : HostCmd} {tag : Nat} (h : s.cmd tag = some c) (hk : c.kind = .write) : s.goPlace tag = s.encrypt tag := by
  simp [State.goPlace, h, hk]

/-- A placed line is dirty, and what was placed is its newest sector. -/
theorem placedLine_newest (old : Option WcLine) (sec : CSec) (cls seq now : Nat) (through : Bool) (owner : Option Nat) :
    (placedLine old sec cls seq now through owner).isDirty = true ∧ (placedLine old sec cls seq now through owner).newest = sec := by
  unfold placedLine
  split
  · exact ⟨rfl, rfl⟩
  · dsimp only
    split <;> exact ⟨rfl, rfl⟩

theorem noteUnprot_lines (s : State) : s.noteUnprot.wc.lines = s.wc.lines := by
  unfold State.noteUnprot
  extract_lets u
  have hu : u.wc.lines = s.wc.lines := by
    unfold u
    split <;> rfl
  split
  · split
    · exact hu
    · exact (congrArg Wc.lines ((only_State_emit _ _ _).wc rfl)).trans <| (congrArg Wc.lines ((only_State_setBit _ _ _).wc rfl)).trans hu
  · exact (congrArg Wc.lines ((only_State_setBit _ _ _).wc rfl)).trans hu

theorem noteLimit_lines (s : State) : s.noteLimit.wc.lines = s.wc.lines := noteUnprot_lines _

theorem place_line (s : State) (nsid lba : Nat) (sec : CSec) (cls : Nat) (through : Bool) (owner : Option Nat) :
    ∃ l, (s.place nsid lba sec cls through owner).line nsid lba = some l ∧ l.isDirty = true ∧ l.newest = sec := by
  unfold State.place
  extract_lets key t seq l w u
  refine ⟨l, ?_, placedLine_newest ..⟩
  rw [State.line, (only_State_mirror u _).wc rfl]
  exact tget_tput_same ..

/-- A command of one sector without data leaves the sector's line dirty and empty. -/
theorem placeEmpty_line (s : State) {c : HostCmd} {lba : Nat} (hr : c.ranges = [⟨lba, 1⟩]) :
    ∃ l, (s.placeEmpty c).line c.nsid lba = some l ∧ l.isDirty = true ∧ l.newest = .empty := by
  rw [State.placeEmpty, hr, rangeLbas_one, List.foldl_cons, List.foldl_nil, State.line, noteLimit_lines]
  exact place_line ..

theorem reserve_empty {s : State} {c : HostCmd} {lba : Nat} (h : s.cmd c.tag = some c) (hk : c.kind ≠ .write) (hr : c.ranges = [⟨lba, 1⟩])
    (hw : s.bit Fld.WC_STATUS.WRITE_THROUGH = false) (hq : s.limitQueue .limitWait = []) (hf : s.limitFits c = true) :
    ∃ l, (s.reserve c).line c.nsid lba = some l ∧ l.isDirty = true ∧ l.newest = .empty := by
  rw [reserve_fits hw hq hf, goPlace_empty (c := { c with phase := .placing }) (cmd_putCmd h rfl) hk]
  exact placeEmpty_line _ hr

/-! ### Enciphering (R267, R268) -/

theorem Only.cip {l : List Part} {s t : State} (h : Only l s t) (hl : l.contains .cip = false) : t.cip = s.cip := h .cip hl

theorem advanceMark_waiting (s : State) (nsid : Nat) : (s.advanceMark nsid).cip.waiting = s.cip.waiting := by
  unfold State.advanceMark
  split
  · rfl
  · dsimp only
    split
    · rfl
    · rw [(only_State_mirror _ _).cip rfl]

/-- A write with its key, its context and room under the counter mark sends each sector with a fresh counter. -/
theorem encrypt_waiting {s : State} {tag : Nat} {c : HostCmd} {k : DataKey} {ctx : Nat} (h : s.cmd tag = some c)
    (hk : tget s.cip.keys c.nsid = some k)
    (hx : k.exhausted = false) (hn : k.ctr + c.sectors ≤ nonceEnd) (hc : k.ctx = some ctx) (hm : k.ctr + c.sectors ≤ s.mark c.nsid) :
    (s.encrypt tag).cip.waiting = s.cip.waiting ++ (rangeLbas c.ranges).mapIdx (fun i lba =>
      CMsg.mk true tag i c.cls c.order c.nsid lba ctx (k.ctr + i) ((c.plain[i]?).getD 0) 0 .cache) := by
  have hn' : ¬ (k.exhausted = true ∨ nonceEnd < k.ctr + c.sectors) := by simp [hx, hn]
  have hm' : ¬ s.mark c.nsid < k.ctr + c.sectors := Nat.not_lt.mpr hm
  simp only [State.encrypt, h, hk, if_neg hn', hc, Option.isNone_some, Bool.false_eq_true, false_and, if_false, Option.getD_some, if_neg hm']
  rw [advanceMark_waiting, (only_State_nonceWarn _ _ _).cip rfl]
  rfl

/-! ### Reading one cached sector (R147) -/

/-- A command with a sector's read recorded. -/
def HostCmd.putRead (c : HostCmd) (i : Nat) (v : ReadSec) : HostCmd := { c with read := tput c.read i v }

theorem setRead_of_cmd {s : State} {tag : Nat} {c : HostCmd} (h : s.cmd tag = some c) (i : Nat) (v : ReadSec) :
    s.setRead tag i v = s.putCmd (c.putRead i v) := by
  simp only [State.setRead, h]
  rfl

theorem readGot_empty (s : State) (c : HostCmd) (i lba : Nat) : s.readGot c i lba .empty .cache = s.setRead c.tag i (.data 0) := rfl

/-- A message that waits for the cipher engine (R267). -/
def State.sendMessage (s : State) (m : CMsg) : State := { s with cip := { s.cip with waiting := s.cip.waiting ++ [m] } }

/-- Cached data is sent to be deciphered where its namespace has a key (R267). -/
theorem readGot_data {s : State} {c : HostCmd} {k : DataKey} (hk : tget s.cip.keys c.nsid = some k) (i lba ct ctx ctr gcm : Nat) :
    s.readGot c i lba (.data ct ctx ctr gcm) .cache =
      (s.sendMessage ⟨false, c.tag, i, c.cls, c.order, c.nsid, lba, ctx, ctr, ct, gcm, .cache⟩).setRead c.tag i .message := by
  simp only [State.readGot, hk]
  rfl

theorem beginSector_cached {s : State} {c : HostCmd} {lba : Nat} {l : WcLine} (h : s.line c.nsid lba = some l) (i : Nat) :
    ∃ t, s.beginSector c i lba = (s.readGot c i lba l.newest .cache).withLines t := by
  simp only [State.beginSector, h]
  exact ⟨_, rfl⟩

/-- A command as its read begins. -/
def HostCmd.reading (c : HostCmd) (now : Nat) : HostCmd := { c with phase := .reading, issued := now }

/-- The first pass of a command of one sector. -/
theorem readPass_one {s : State} {tag lba : Nat} {c : HostCmd} (h : s.cmd tag = some c) (hp : c.phase = .locked) (hr : c.ranges = [⟨lba, 1⟩]) :
    s.readPass tag = ((s.putCmd (c.reading s.now)).beginSector c 0 lba).readFinish tag := by
  have hl : rangeLbas c.ranges = [lba] := by rw [hr, rangeLbas_one]
  simp only [State.readPass, h, hp, hl]
  rfl

theorem readFinish_data {s : State} {tag i p : Nat} {c : HostCmd} (h : s.cmd tag = some c) (hp : c.phase = .reading)
    (hr : c.read = [(i, .data p)]) : s.readFinish tag = s.collect c stOk (if c.kind = .verify then [] else [p]) := by
  simp only [State.readFinish, h, hp, hr, readSettled]
  by_cases hk : c.kind = .verify <;> simp [hk]

/-- A read goes on when its message has been deciphered. -/
theorem readFinish_message {s : State} {tag i : Nat} {c : HostCmd} (h : s.cmd tag = some c) (hr : c.read = [(i, .message)]) :
    s.readFinish tag = s := by
  simp [State.readFinish, h, hr, readSettled]

/-- A pass over one cached sector: what was read is recorded in the command, and the pass ends as that lets it. -/
theorem readPass_cached {s : State} {tag lba : Nat} {c : HostCmd} {l : WcLine} (h : s.cmd tag = some c) (hp : c.phase = .locked)
    (hr : c.ranges = [⟨lba, 1⟩]) (hl : s.line c.nsid lba = some l) :
    ∃ t, s.readPass tag = (((s.putCmd (c.reading s.now)).readGot c 0 lba l.newest .cache).withLines t).readFinish tag := by
  obtain ⟨t, ht⟩ := beginSector_cached (s := s.putCmd (c.reading s.now)) hl 0
  exact ⟨t, by rw [readPass_one h hp hr, ht]⟩

/-- A step before a command's end that leaves the collector. -/
theorem ended_of_collector {s u t : State} {c : HostCmd} {st : Status} {data : List Nat} (hc : u.hfe.collector = s.hfe.collector)
    (h : u.Ended t c st data) : s.Ended t c st data := by
  unfold State.Ended at *
  rwa [hc] at h

/-- A cached empty sector ends its command with success, a read with zeros. -/
theorem readPass_empty {s : State} {tag lba : Nat} {c : HostCmd} {l : WcLine} (h : s.cmd tag = some c) (hp : c.phase = .locked)
    (hr : c.ranges = [⟨lba, 1⟩]) (hread : c.read = []) (hl : s.line c.nsid lba = some l) (hn : l.newest = .empty) :
    ∃ d, d.tag = c.tag ∧ (d.fn, d.sq, d.cid) = (c.fn, c.sq, c.cid) ∧
      s.Ended (s.readPass tag) d stOk (if c.kind = .verify then [] else [0]) := by
  obtain rfl := tag_of_cmd h
  obtain ⟨t, ht⟩ := readPass_cached h hp hr hl
  have hbegun : (s.putCmd (c.reading s.now)).cmd c.tag = some (c.reading s.now) := cmd_putCmd h rfl
  have hgot : (((s.putCmd (c.reading s.now)).putCmd ((c.reading s.now).putRead 0 (.data 0))).withLines t).cmd c.tag = some _ :=
    cmd_putCmd hbegun rfl
  refine ⟨(c.reading s.now).putRead 0 (.data 0), rfl, rfl, ?_⟩
  rw [ht, hn, readGot_empty, setRead_of_cmd hbegun, readFinish_data hgot rfl (congrArg (tput · 0 _) hread)]
  refine ended_of_collector ?_ (collect_ends _ _ _ _)
  rfl

theorem readPass_data {s : State} {tag lba ct ctx ctr gcm : Nat} {c : HostCmd} {l : WcLine} {k : DataKey} (h : s.cmd tag = some c)
    (hp : c.phase = .locked) (hr : c.ranges = [⟨lba, 1⟩]) (hread : c.read = []) (hl : s.line c.nsid lba = some l)
    (hn : l.newest = .data ct ctx ctr gcm) (hk : tget s.cip.keys c.nsid = some k) :
    (s.readPass tag).cip.waiting = s.cip.waiting ++ [⟨false, tag, 0, c.cls, c.order, c.nsid, lba, ctx, ctr, ct, gcm, .cache⟩] := by
  obtain rfl := tag_of_cmd h
  obtain ⟨t, ht⟩ := readPass_cached h hp hr hl
  have hbegun : (s.putCmd (c.reading s.now)).cmd c.tag = some (c.reading s.now) := cmd_putCmd h rfl
  have hsent (m : CMsg) : ((s.putCmd (c.reading s.now)).sendMessage m).cmd c.tag = some (c.reading s.now) := hbegun
  have hgot (m : CMsg) : ((((s.putCmd (c.reading s.now)).sendMessage m).putCmd ((c.reading s.now).putRead 0 .message)).withLines t).cmd c.tag =
      some _ := cmd_putCmd (hsent m) rfl
  rw [ht, hn, readGot_data (s := s.putCmd (c.reading s.now)) hk, setRead_of_cmd (hsent _),
    readFinish_message (hgot _) (congrArg (tput · 0 _) hread)]
  rfl

/-! ### Posting an entry (R139) -/

theorem deleteWake_idle {s : State} (h : s.hfe.sqs.any (fun q => q.2.deleting.isSome) = false) : s.deleteWake = s :=
  List.foldlRecOn (motive := fun t => t = s) _ _ rfl fun t ht q hq => by
    have hdel : q.2.deleting = none := by simpa using List.any_eq_false.mp h q hq
    simp only [hdel, ht, dite_eq_ite, ite_self]

/-- An entry's release: it leaves the collector, and the command it ends goes. -/
def State.takeEntry (s : State) (e : Collected) : State :=
  let s := { s with hfe := { s.hfe with collector := s.hfe.collector.erase e } }
  match e.tag with
  | some t => s.releaseCmd t (s.genBusy t)
  | none => s

theorem postOne_eq (s : State) (e : Collected) : s.postOne e =
    (((if e.cqe.sq = 0 then s else s.countPost e).postEntry e.cqe (e.cls != 0 && e.cqe.sq != 0)).takeEntry e).deleteWake.fenceWake := rfl

/-- An entry's release changes the collector, the commands and what holds their tags. -/
theorem takeEntry_hfe (s : State) (e : Collected) : ∃ c k l a b, (s.takeEntry e).hfe =
    { s.hfe with collector := s.hfe.collector.erase e, cmds := c, locks := k, held := l, freed0 := a, freedS := b } := by
  unfold State.takeEntry
  extract_lets h u
  split
  · obtain ⟨_, _, _, _, hr⟩ := releaseCmd_hfe u _ _
    exact ⟨_, _, _, _, _, hr⟩
  · exact ⟨_, _, _, _, _, rfl⟩

/-- An I/O command's entry goes from the collector to the posted ones, with nothing that waits for its end (R139). -/
theorem postOne_moves {s : State} {e : Collected} (h : e.cqe.sq ≠ 0) (hdel : s.hfe.sqs.any (fun q => q.2.deleting.isSome) = false)
    (hf : s.hfe.formats = []) (hs : s.hfe.sanitize = none) :
    (s.postOne e).hfe.collector = s.hfe.collector.erase e ∧ ∃ n, (s.postOne e).hfe.posted = s.hfe.posted ++ [{ e.cqe with sqHead := n }] := by
  have hcount : (s.countPost e).hfe = s.hfe := (only_State_countPost s e).hfe rfl
  obtain ⟨n, hposted⟩ := postEntry_posted (s.countPost e) e.cqe (e.cls != 0 && e.cqe.sq != 0)
  obtain ⟨p, c, r, hpost, -⟩ := postEntry_hfe (s.countPost e) e.cqe (e.cls != 0 && e.cqe.sq != 0)
  obtain ⟨_, _, _, _, _, htake⟩ := takeEntry_hfe ((s.countPost e).postEntry e.cqe (e.cls != 0 && e.cqe.sq != 0)) e
  rw [hcount] at hpost hposted
  rw [hpost] at hposted htake
  rw [postOne_eq, if_neg h, deleteWake_idle (by rw [htake]; exact hdel), fenceWake_idle (by rw [htake]; exact hs) (by rw [htake]; exact hf), htake]
  exact ⟨rfl, n, hposted⟩

/-- Settles O30: each clause follows its command through the pass that its lock has opened, to the sector, message or entry that it leaves. -/
theorem hostIoCommandsTakeEffect : Obligations.HostIoCommandsTakeEffect := by
  refine ⟨?flush, ?flushWaits, ?write, ?readEmpty, ?readData, ?verify, ?zeroes, ?dealloc, ?noDealloc, ?post⟩
  case flush =>
    intro s tag c hc hk hp hw
    have ht : execNvmeFlush tag s = .next (s.collect c stOk []) := by simp [execNvmeFlush, hc, hk, hp, hw]
    exact ⟨_, ht, collect_ends ..⟩
  case flushWaits =>
    intro s tag c hc hk hp hw
    have ht : execNvmeFlush tag s = .next ((s.lowerClass c).putCmd { c with phase := .destageWait }) := by
      simp [execNvmeFlush, hc, hk, hp, hw]
    have htag : c.tag = tag := tag_of_cmd hc
    exact ⟨_, ht, cmd_putCmd (s := s.lowerClass c) hc htag⟩
  case write =>
    intro s tag plain c k ctx hc hk hp hlen hmap hthrough hq hfits hkey hx hn hctx hm
    obtain rfl := tag_of_cmd hc
    have ht : execNvmeWrite c.tag plain s = .next (s.reserve { c with plain := plain }) := by
      simp [execNvmeWrite, hc, hk, hp, hlen, mapped_ok hmap]
    have hplaced := cmd_putCmd (d := { c with plain := plain, phase := .placing }) hc rfl
    refine ⟨_, ht, ?_⟩
    rw [reserve_fits hthrough hq hfits, goPlace_write hplaced hk]
    exact encrypt_waiting hplaced hkey hx hn hctx hm
  case readEmpty =>
    intro s tag lba c l hc hk hp hr hread hmap hl hn
    have ht : execNvmeRead tag s = .next (s.readPass tag) := by simp [execNvmeRead, hc, hk, hp, mapped_ok hmap]
    obtain ⟨d, hd, hid, hend⟩ := readPass_empty hc hp hr hread hl hn
    rw [hk] at hend
    exact ⟨_, ht, d, hd, hid, hend⟩
  case readData =>
    intro s tag lba ct ctx ctr gcm c l k hc hk hp hr hread hmap hl hn hkey
    have ht : execNvmeRead tag s = .next (s.readPass tag) := by simp [execNvmeRead, hc, hk, hp, mapped_ok hmap]
    exact ⟨_, ht, readPass_data hc hp hr hread hl hn hkey⟩
  case verify =>
    intro s tag lba c l hc hk hp hr hread hmap hl hn
    have ht : execNvmeVerify tag s = .next (s.readPass tag) := by simp [execNvmeVerify, hc, hk, hp, mapped_ok hmap]
    obtain ⟨d, hd, hid, hend⟩ := readPass_empty hc hp hr hread hl hn
    rw [hk] at hend
    exact ⟨_, ht, d, hd, hid, hend⟩
  case zeroes =>
    intro s tag lba c hc hk hp hr hmap hthrough hq hfits
    obtain rfl := tag_of_cmd hc
    have ht : execWriteZeroes c.tag s = .next (s.reserve c) := by simp [execWriteZeroes, hc, hk, hp, mapped_ok hmap]
    exact ⟨_, ht, reserve_empty hc (by rw [hk]; decide) hr hthrough hq hfits⟩
  case dealloc =>
    intro s tag lba c hc hk hp hdealloc hr hmap hthrough hq hfits
    obtain rfl := tag_of_cmd hc
    have ht : execDatasetManagement c.tag s = .next (s.reserve c) := by
      simp [execDatasetManagement, hc, hk, hp, hdealloc, mapped_ok hmap]
    exact ⟨_, ht, reserve_empty hc (by rw [hk]; decide) hr hthrough hq hfits⟩
  case noDealloc =>
    intro s tag c hc hk hp hdealloc
    have ht : execDatasetManagement tag s = .next (s.collect c stOk []) := by simp [execDatasetManagement, hc, hk, hp, hdealloc]
    exact ⟨_, ht, collect_ends .., congrArg Wc.lines ((only_State_collect s c stOk []).wc rfl)⟩
  case post =>
    intro s hp e hfast herr hhold hnext hsq hdel hf hs
    have ht : execCompletionPost hp s = .next (s.postOne e) := by simp [execCompletionPost, hfast, herr, hhold, hnext]
    exact ⟨_, ht, postOne_moves hsq hdel hf hs⟩

end Sys2Proof.Machine

/-!
The front of the write path (O32): what the limit's notes, a placed write's end and the mirror's acknowledgements leave of the write cache.
-/
namespace Sys2Proof.Machine

/-! ### What the limit's notes leave (R152 to R154) -/

/-- UNPROTECTED's count is all that the note of V' over C1 changes in the write cache. -/
theorem noteUnprot_wc (s : State) : ∃ x, s.noteUnprot.wc = { s.wc with unprotAt := x } := by
  unfold State.noteUnprot
  extract_lets u
  have hu : ∃ x, u.wc = { s.wc with unprotAt := x } := by
    unfold u
    split <;> exact ⟨_, rfl⟩
  obtain ⟨x, hx⟩ := hu
  split_ifs
  · exact ⟨x, hx⟩
  · exact ⟨some u.now, congrArg (fun w : Wc => { w with unprotAt := some u.now }) hx⟩
  · exact ⟨none, congrArg (fun w : Wc => { w with unprotAt := none }) hx⟩

theorem noteLimit_wc (s : State) : ∃ x, s.noteLimit.wc = { s.wc with unprotAt := x } := noteUnprot_wc _

theorem recomputeLimit_limitCfg (s : State) : s.recomputeLimit.fld Fld.WC_LIMIT_CFG.MIB = s.limitCfg % 2 ^ 17 := by
  unfold State.recomputeLimit
  dsimp only
  rw [(kept_State_noteLimit _).fld _ (by decide), (kept_State_noteThrough _).fld _ (by decide), State.fld_setBit_ne _ _ _ _ (by decide),
    State.fld_setFld_ne _ _ _ _ (by decide), State.fld_setFld_ne _ _ _ _ (by decide), State.fld_setFld_ne _ _ _ _ (by decide),
    State.fld_setFld_same]
  rfl

theorem recomputeLimit_limitVault (s : State) : s.recomputeLimit.fld Fld.WC_LIMIT_VAULT.MIB = s.limitVault % 2 ^ 17 := by
  unfold State.recomputeLimit
  dsimp only
  rw [(kept_State_noteLimit _).fld _ (by decide), (kept_State_noteThrough _).fld _ (by decide), State.fld_setBit_ne _ _ _ _ (by decide),
    State.fld_setFld_ne _ _ _ _ (by decide), State.fld_setFld_ne _ _ _ _ (by decide), State.fld_setFld_same]
  rfl

/-! ### A placed write that goes on (R147, R148, R153) -/

theorem Only.capo {l : List Part} {s t : State} (h : Only l s t) (hl : l.contains .capo = false) : t.capo = s.capo := h .capo hl

/-- A placed write that goes on changes cached lines and the classes of updates in the write cache. -/
theorem writeReady_wc (s : State) (tag : Nat) :
    ∃ l f, (s.writeReady tag).wc = { s.wc with lines := l, updates := s.wc.updates.map f } := by
  unfold State.writeReady
  split
  · exact ⟨_, id, by rw [List.map_id]⟩
  · split_ifs
    · exact ⟨_, id, by rw [List.map_id]⟩
    · exact ⟨_, _, rfl⟩
    · rw [(only_State_collect _ _ _ _).wc rfl]
      exact ⟨_, id, by rw [List.map_id]; rfl⟩

/-- A placed write that waits for nothing ends with success. -/
theorem writeReady_ends {s : State} {tag : Nat} {c : HostCmd} (h : s.cmd tag = some c) (hp : c.phase = .placed) (hd : c.dirtyWait = false)
    (hm : c.mirrorWait = false) (hf : c.fua = false) (ht : c.through = false) : s.Ended (s.writeReady tag) c stOk [] := by
  have hend : s.writeReady tag = (s.ackLines tag).collect c stOk [] := by simp [State.writeReady, h, hp, hd, hm, hf, ht]
  rw [hend]
  exact ended_of_collector (congrArg Hfe.collector ((only_State_ackLines s tag).hfe rfl)) (collect_ends ..)

theorem mirrorPending_none {s : State} (h : s.capo.unacked = []) (c : HostCmd) : s.mirrorPending c = false := by
  simp [State.mirrorPending, State.unackedBy, h]

/-- A command whose sectors are placed, with no acknowledgement awaited. -/
def HostCmd.asPlaced (c : HostCmd) : HostCmd := { c with phase := .placed, plain := [], dirtyWait := false, mirrorWait := false }

theorem execWritePlaced_unawaited {s : State} {tag : Nat} {c : HostCmd} (h : s.cmd tag = some c) (hp : c.phase = .placing)
    (hs : s.sealing tag = false) (hn : s.wc.dirtyNs.contains c.nsid = true) (hu : s.capo.unacked = []) :
    execWritePlaced tag s = .next ((s.putCmd c.asPlaced).writeReady tag) := by
  have hneed : s.needDirtyNs c.nsid = (false, s) := if_pos hn
  simp [execWritePlaced, h, hp, hs, hneed, mirrorPending_none hu, HostCmd.asPlaced]

/-! ### Waiting writes (R152) -/

theorem admitAll_one {s : State} {c : HostCmd} (h : s.cmd c.tag = some c) (hk : c.kind ≠ .write) (hq : s.limitQueue .limitWait = [c])
    (ht : s.limitQueue .throughWait = []) (hf : s.limitFits c = true) :
    s.admitAll = (s.putCmd { c with phase := .placing }).placeEmpty { c with phase := .placing } := by
  rw [State.admitAll, hq, ht, State.admitList, State.admitList, State.admitList, if_pos hf,
    goPlace_empty (c := { c with phase := .placing }) (cmd_putCmd h rfl) hk]

/-! ### The dirty-namespace bitmap (R172) -/

theorem mem_insertOn {α : Type} (f : α → Nat) (x y : α) (l : List α) : y ∈ insertOn f x l ↔ y = x ∨ y ∈ l := by
  induction l with
  | nil => simp [insertOn]
  | cons z r ih =>
    unfold insertOn
    split
    · simp
    · simp [ih, or_left_comm]

/-- A placed write that goes on leaves the dirty-namespace bitmap. -/
theorem writeReady_dirtyNs (s : State) (tag : Nat) :
    (s.writeReady tag).wc.dirtyNs = s.wc.dirtyNs ∧ (s.writeReady tag).wc.dirtyNsSet = s.wc.dirtyNsSet := by
  obtain ⟨l, f, hw⟩ := writeReady_wc s tag
  rw [hw]
  exact ⟨rfl, rfl⟩

/-! ### What the partner's acknowledgement and its loss leave (R148, R318, R320) -/

/-- What an acknowledgement lets go on neither sends the partner an item nor takes one while no update is in flight. -/
theorem mirrorWake_capo {s : State} (h : s.wc.updates = []) : s.mirrorWake.capo = s.capo := by
  unfold State.mirrorWake
  extract_lets t
  have ht : t.wc.updates = [] ∧ t.capo = s.capo := by
    unfold t
    refine List.foldlRecOn (motive := fun u : State => u.wc.updates = [] ∧ u.capo = s.capo) _ _ ⟨h, rfl⟩ fun u hu c _ => ?_
    obtain ⟨hupd, hcapo⟩ := hu
    split
    · obtain ⟨l, f, hw⟩ := writeReady_wc (u.putCmd { c with mirrorWait := false }) c.tag
      refine ⟨?_, ((only_State_writeReady _ _).capo rfl).trans hcapo⟩
      rw [hw]
      exact congrArg (List.map f) hupd
    · exact ⟨hupd, hcapo⟩
  rw [ht.1]
  exact ht.2

/-- What follows the loss of the mirror leaves its bits. -/
theorem mirrorBits_after_wake (s : State) : SameFlds [Fld.WC_STATUS.MIRROR_ON, Fld.WC_STATUS.MIRROR_LOST, Fld.PAIR_STATUS.MIRROR_ON] s
    s.mirrorWake.recomputeLimit :=
  ((kept_State_mirrorWake s).sameFlds (by decide)).trans ((kept_State_recomputeLimit _).sameFlds (by decide))

/-- The mirror's loss before what waited for the partner goes on. -/
def State.mirrorGone (s : State) : State :=
  let t := ((((s.setBit Fld.WC_STATUS.MIRROR_ON false).setBit Fld.WC_STATUS.MIRROR_LOST true).setBit Fld.PAIR_STATUS.MIRROR_ON
    false).nextEpoch 1).emit .mirrorLost []
  { t with capo := { t.capo with unacked := [] }, wc := { t.wc with partnerLimit := none } }

theorem loseMirror_eq {s : State} (h : s.mirrored = true) : s.loseMirror = s.mirrorGone.mirrorWake.recomputeLimit :=
  if_neg (by simp [h])

theorem mirrorGone_bits (s : State) : s.mirrorGone.bit Fld.WC_STATUS.MIRROR_ON = false ∧
    s.mirrorGone.bit Fld.WC_STATUS.MIRROR_LOST = true ∧ s.mirrorGone.bit Fld.PAIR_STATUS.MIRROR_ON = false := by
  have h (f : Field) (hf : f.key ≠ Fld.PAIR_EPOCH.key) : s.mirrorGone.bit f =
      (((s.setBit Fld.WC_STATUS.MIRROR_ON false).setBit Fld.WC_STATUS.MIRROR_LOST true).setBit Fld.PAIR_STATUS.MIRROR_ON false).bit f :=
    State.bit_setFld_ne _ _ _ _ hf
  refine ⟨(h _ (by decide)).trans ?_, (h _ (by decide)).trans ?_, (h _ (by decide)).trans ?_⟩
  · rw [State.bit_setBit_ne _ _ _ _ (by decide), State.bit_setBit_ne _ _ _ _ (by decide), State.bit_setBit_same _ _ _ rfl]
  · rw [State.bit_setBit_ne _ _ _ _ (by decide), State.bit_setBit_same _ _ _ rfl]
  · exact State.bit_setBit_same _ _ _ rfl

/-- Settles O32: each command that is due answers the state that the lemmas above name. -/
theorem writePathFrontTakesEffect : Obligations.WritePathFrontTakesEffect := by
  refine ⟨?placed, ?admitted, ?recompute, ?setAck, ?clear, ?ack, ?lost⟩
  case placed =>
    intro s tag c hc hp hseal hns hack hfua hthrough _
    have htag : c.asPlaced.tag = tag := (tag_of_cmd hc : c.tag = tag)
    refine ⟨_, execWritePlaced_unawaited hc hp hseal hns hack, c.asPlaced, rfl, rfl, ?_⟩
    refine ended_of_collector ?_ (writeReady_ends (cmd_putCmd hc htag) rfl rfl rfl hfua hthrough)
    rfl
  case admitted =>
    intro s c lba hc hk hr hq ht hf
    exact ⟨_, congrArg Host.Outcome.next (admitAll_one hc (by rw [hk]; decide) hq ht hf), placeEmpty_line _ hr⟩
  case recompute => exact fun s => ⟨_, rfl, recomputeLimit_limitCfg s, recomputeLimit_limitVault s⟩
  case setAck =>
    intro s nsid h
    refine ⟨_, if_pos h, ?_⟩
    refine List.foldlRecOn (motive := fun t : State => nsid ∈ t.wc.dirtyNs ∧ nsid ∉ t.wc.dirtyNsSet) _ _ ?_ fun t ht c _ => ?_
    · exact ⟨(mem_insertOn ..).mpr (.inl rfl), by simp⟩
    · split
      · obtain ⟨hdirty, hset⟩ := writeReady_dirtyNs (t.putCmd { c with dirtyWait := false }) c.tag
        rw [hdirty, hset]
        exact ht
      · exact ht
  case clear =>
    intro s nsid h
    exact ⟨_, if_pos h, by simp⟩
  case ack =>
    intro s i r hack hupd
    have ht : execMirrorAck s = .next ({ s with capo := { s.capo with unacked := r } } : State).mirrorWake := by
      simp only [execMirrorAck, hack]
    exact ⟨_, ht, congrArg Capo.unacked (mirrorWake_capo (s := { s with capo := { s.capo with unacked := r } }) hupd)⟩
  case lost =>
    intro s h
    have hbits := mirrorBits_after_wake s.mirrorGone
    obtain ⟨hon, hlost, hpair⟩ := mirrorGone_bits s
    exact ⟨_, congrArg Host.Outcome.next (loseMirror_eq h), (hbits.bit (by simp)).trans hon, (hbits.bit (by simp)).trans hlost,
      (hbits.bit (by simp)).trans hpair⟩

end Sys2Proof.Machine

/-!
Stripe updates (O33): what begins one, what each of its steps leaves of the updates in flight, and the fret map's sets and clears.
-/
namespace Sys2Proof.Machine

/-! ### Updates in flight -/

/-- The updates in flight are the same in two states. -/
def SameUpdates (s t : State) : Prop := t.wc.updates = s.wc.updates

theorem SameUpdates.refl {s : State} : SameUpdates s s := rfl

theorem SameUpdates.trans {s t u : State} (h : SameUpdates s t) (k : SameUpdates t u) : SameUpdates s u := Eq.trans k h

theorem SameUpdates.foldl {α : Type} {f : State → α → State} (hf : ∀ t x, SameUpdates t (f t x)) (s : State) (l : List α) :
    SameUpdates s (l.foldl f s) :=
  List.foldlRecOn (motive := SameUpdates s) _ _ .refl fun t h x _ => h.trans (hf t x)

theorem SameUpdates.upd {s t : State} (h : SameUpdates s t) (id : Nat) : t.upd id = s.upd id := by
  unfold SameUpdates at h
  rw [State.upd, State.upd, h]

theorem SameUpdates.of_only {l : List Part} {s t : State} (h : Only l s t) (hl : l.contains .wc = false) : SameUpdates s t :=
  congrArg Wc.updates (h.wc hl)

theorem sameUpdates_noteLimit (s : State) : SameUpdates s s.noteLimit := by
  obtain ⟨x, hx⟩ := noteLimit_wc s
  rw [SameUpdates, hx]

theorem id_of_upd {s : State} {id : Nat} {u : Update} (h : s.upd id = some u) : u.id = id := by
  simpa using List.find?_some h

/-- An update as it was last put. -/
theorem upd_putUpd {s : State} {id : Nat} {u v : Update} (h : s.upd id = some u) (hv : v.id = id) : (s.putUpd v).upd id = some v := by
  subst hv
  have hmap : (fun x => decide (Update.id x = v.id)) ∘ (fun x : Update => if x.id = v.id then v else x) = fun x => decide (x.id = v.id) := by
    funext x
    dsimp only [Function.comp]
    split
    · next e => rw [e]
    · rfl
  rw [State.upd, State.putUpd, List.find?_map, hmap]
  exact (congrArg (Option.map _) h).trans (congrArg some (if_pos (id_of_upd h)))

/-! ### Step 1 (R157, R159) -/

/-- What lets an update begin, with none in flight (R157, R163, R311): mains, an open gate, a running Fingerboard die and no replay to come. -/
structure State.MayUpdate (s : State) : Prop where
  mains : s.acFail = false
  gate : s.gateOpen = true
  fast : s.pwr.fast = .running
  replay : s.bit Fld.HFE_STATUS.REPLAY_PENDING = false
  none : s.wc.updates = []

/-- A begun update stands behind the others at step 2, with the sectors of its lines. -/
theorem beginUpdate_updates (s : State) (a : ArrayId) (r : Arr) (g : Geom) (previous : Bool) (stripe : Nat)
    (ls : List (Nat × Place × WcLine)) :
    ∃ u, (s.beginUpdate a r g previous stripe ls).wc.updates = s.wc.updates ++ [u] ∧ u.array = a ∧ u.stripe = stripe ∧
      u.previous = previous ∧ u.step = 2 ∧ u.sectors.map (fun x => (x.nsid, x.lba)) = ls.map (fun x => (keyNs x.1, keyLba x.1)) := by
  unfold State.beginUpdate
  extract_lets rows cls u keys w t
  refine ⟨u, SameUpdates.of_only (only_State_updReads t u r g) rfl, rfl, rfl, rfl, rfl, ?_⟩
  exact List.map_map

/-- Where nothing holds an update back and it is due, the dirty lines of the current epoch make it. -/
theorem startUpdate_begins {s : State} {a : ArrayId} {stripe : Nat} {r : Arr} {g : Geom}
    {due : State → Geom → List (Nat × Place × WcLine) → Bool} (ha : s.arr a = some r) (hg : r.geom false = some g)
    (hl : s.stripeLines a r false stripe ≠ []) (h : s.MayUpdate) (hd : due s g (s.stripeLines a r false stripe) = true) :
    s.startUpdate a stripe due = s.beginUpdate a r g false stripe (s.stripeLines a r false stripe) := by
  obtain ⟨hac, hgate, hfast, hreplay, hnone⟩ := h
  have hcur : (s.stripeLines a r false stripe).isEmpty = false := by simpa using hl
  simp [State.startUpdate, ha, hcur, hg, hac, hgate, hfast, hreplay, hnone, hd]

theorem startUpdate_updates {s : State} {a : ArrayId} {stripe : Nat} {r : Arr} {g : Geom}
    {due : State → Geom → List (Nat × Place × WcLine) → Bool} (ha : s.arr a = some r) (hg : r.geom false = some g)
    (hl : s.stripeLines a r false stripe ≠ []) (h : s.MayUpdate) (hd : due s g (s.stripeLines a r false stripe) = true) :
    ∃ u, (s.startUpdate a stripe due).wc.updates = [u] ∧ u.array = a ∧ u.stripe = stripe ∧ u.previous = false ∧ u.step = 2 ∧
      u.sectors.map (fun x => (x.nsid, x.lba)) = (s.stripeLines a r false stripe).map (fun x => (keyNs x.1, keyLba x.1)) := by
  obtain ⟨u, hu, hrest⟩ := beginUpdate_updates s a r g false stripe (s.stripeLines a r false stripe)
  rw [h.none] at hu
  exact ⟨u, by rw [startUpdate_begins ha hg hl h hd, hu, List.nil_append], hrest⟩

/-! ### Steps 2 and 3 (R158, R159) -/

theorem computeUpdate_upd {s : State} {id : Nat} {u : Update} (h : s.upd id = some u) (r : Arr) (g : Geom) :
    ∃ v, (s.computeUpdate r g u).upd id = some v ∧ v.step = 3 ∧ v.sectors = u.sectors ∧ v.rows = u.rows := by
  unfold State.computeUpdate
  extract_lets res good lost t w
  exact ⟨_, upd_putUpd h (id_of_upd h : u.id = id), rfl, rfl, rfl⟩

/-! ### Steps 4 and 5 (R159 to R161) -/

/-- Step 5's look at an update changes updates alone in the write cache. -/
theorem fretReady_wc (s : State) (id : Nat) : ∃ l, (s.fretReady id).wc = { s.wc with updates := l } := by
  unfold State.fretReady
  split
  · exact ⟨_, rfl⟩
  · dsimp only
    split_ifs
    · exact ⟨_, rfl⟩
    · rw [(only_State_issueData _ _).wc rfl]
      exact ⟨_, rfl⟩
    · exact ⟨_, rfl⟩

/-- An update that step 5 is done with goes to step 6; another keeps its step. -/
theorem fretReady_upd {s : State} {id : Nat} {u : Update} (h : s.upd id = some u) :
    ∃ v, (s.fretReady id).upd id = some v ∧ u.step ≤ v.step ∧ v.sectors = u.sectors ∧ v.pq = u.pq := by
  have hid : u.id = id := id_of_upd h
  simp only [State.fretReady, h]
  split_ifs with hready
  · exact ⟨_, upd_putUpd h hid, le_rfl, rfl, rfl⟩
  · refine ⟨_, ((SameUpdates.of_only (only_State_issueData _ _) rfl).upd id).trans (upd_putUpd h hid), ?_, rfl, rfl⟩
    exact hready.1.trans_le (Nat.le_succ 5)
  · exact ⟨u, h, le_rfl, rfl, rfl⟩

theorem sameUpdates_issueSet (s : State) (id b : Nat) : SameUpdates s (s.issueSet id b) := by
  unfold State.issueSet
  split
  · exact .refl
  · rw [SameUpdates, (only_State_mirror _ _).wc rfl]

/-- Step 5 begun puts the update at step 5 or beyond. -/
theorem beginFret_upd {s : State} {id : Nat} {u : Update} (h : s.upd id = some u) :
    ∃ v, (s.beginFret id).upd id = some v ∧ 5 ≤ v.step ∧ v.sectors = u.sectors ∧ v.pq = u.pq := by
  simp only [State.beginFret, h]
  refine fretReady_upd (u := { u with step := 5, partnerWait := false }) ?_
  exact ((SameUpdates.foldl (fun t b => sameUpdates_issueSet t id b) _ _).upd id).trans (upd_putUpd h (id_of_upd h : u.id = id))

/-- Step 4: the update with its context sent to the partner, whose acknowledgement it awaits while mirrored. -/
def State.saveContext (s : State) (u : Update) : State :=
  let v := { u with step := 4, partnerWait := s.mirrored }
  ((s.putUpd v).mirror (.context v)).noteLimit

theorem saveContext_upd {s : State} {id : Nat} {u : Update} (h : s.upd id = some u) :
    (s.saveContext u).upd id = some { u with step := 4, partnerWait := s.mirrored } :=
  ((SameUpdates.of_only (only_State_mirror _ _) rfl |>.trans (sameUpdates_noteLimit _)).upd id).trans (upd_putUpd h (id_of_upd h : u.id = id))

theorem saveContext_mirrored (s : State) (u : Update) : (s.saveContext u).mirrored = s.mirrored :=
  ((kept_State_noteLimit _).bit _ (by decide)).trans ((kept_State_mirror _ _).bit _ (by decide))

theorem execStripeUpdateContextSaved_room {s : State} {id : Nat} {u : Update} (h : s.upd id = some u) (hs : u.step = 3)
    (hm : (s.wc.updates.filter (fun v => 4 ≤ v.step)).length < s.wcCfg.maxUpdates)
    (hc : s.ctxUsed + u.read.length * 4096 ≤ s.wcCfg.contextMib * 2 ^ 20) :
    execStripeUpdateContextSaved id s = .next (if s.mirrored then s.saveContext u else (s.saveContext u).beginFret id) := by
  have hgo : ¬ (u.step ≠ 3 ∨ s.wcCfg.maxUpdates ≤ (s.wc.updates.filter (fun v => 4 ≤ v.step)).length ∨
      s.wcCfg.contextMib * 2 ^ 20 < s.ctxUsed + u.read.length * 4096) := by omega
  have hstep : execStripeUpdateContextSaved id s =
      if (s.saveContext u).mirrored then .next (s.saveContext u) else .next ((s.saveContext u).beginFret id) := by
    simp only [execStripeUpdateContextSaved, h, if_neg hgo]
    rfl
  rw [hstep, saveContext_mirrored, apply_ite Host.Outcome.next]

/-! ### Step 6 (R159, R496) -/

theorem sameUpdates_dropCarried (s : State) (x : UpdSector) : SameUpdates s (s.dropCarried x) := by
  have hd : SameUpdates s (s.deferError x.nsid 0x01 x.lba 1) := SameUpdates.of_only (only_State_deferError _ _ _ _ _) rfl
  unfold State.dropCarried
  dsimp only
  split
  · exact hd
  · split <;> exact hd

/-- A lost row replaces its own update alone, and keeps its number. -/
theorem writeLostRow_putUpd (s : State) (r : Arr) (g : Geom) (u : Update) (row : Nat) :
    ∃ t v, s.writeLostRow r g u row = t.putUpd v ∧ SameUpdates s t ∧ v.id = u.id := by
  unfold State.writeLostRow
  extract_lets us gen placed known kept gone ds news s1 s2 mask s3 s4 v
  refine ⟨s4, _, rfl, ?_, ?_⟩
  · have h1 : SameUpdates s s1 := .foldl (fun t x =>
      (SameUpdates.of_only (only_State_clearLost _ _ _ _ _ _ _ _) rfl).trans (SameUpdates.of_only (only_State_putUnit _ _ _ _ _ _ _ _ _ _ _) rfl)) _ _
    have h2 : SameUpdates s1 s2 := .foldl (fun t x => SameUpdates.of_only (only_State_putUnit _ _ _ _ _ _ _ _ _ _ _) rfl) _ _
    have h3 : SameUpdates s2 s3 := (SameUpdates.of_only (only_State_listLost _ _) rfl).trans (SameUpdates.of_only (only_State_mirror _ _) rfl)
    refine h1.trans (h2.trans (h3.trans (.foldl (fun t x => ?_) _ _)))
    split
    · exact sameUpdates_dropCarried ..
    · exact SameUpdates.of_only (only_State_reportLost _ _ _) rfl
  · change v.id = u.id
    unfold v
    cases h : s4.upd u.id with
    | none => rfl
    | some w => exact id_of_upd h

/-- The data writes of an update leave it in flight. -/
theorem writeData6_upd {s : State} {u w : Update} (h : s.upd u.id = some w) (r : Arr) (g : Geom) :
    ∃ v, (s.writeData6 r g u).upd u.id = some v := by
  refine List.foldlRecOn (motive := fun t : State => ∃ v, t.upd u.id = some v) _ _ ⟨w, h⟩ fun t ht row _ => ?_
  obtain ⟨v, hv⟩ := ht
  split
  · obtain ⟨x, y, hx, hsame, hy⟩ := writeLostRow_putUpd t r g u row
    rw [hx]
    exact ⟨y, upd_putUpd ((hsame.upd _).trans hv) hy⟩
  · exact ⟨v, ((SameUpdates.of_only (only_State_writeRow t r g u row) rfl).upd _).trans hv⟩

/-! ### Steps 7 and 8 (R159) -/

theorem sameUpdates_destageWake (s : State) : SameUpdates s s.destageWake := by
  refine .foldl (fun t c => ?_) _ _
  have hcollect (x : State) : SameUpdates x (x.collect c stOk []) := SameUpdates.of_only (only_State_collect _ _ _ _) rfl
  have hack : SameUpdates t (t.ackLines c.tag) := rfl
  split_ifs
  · exact .refl
  · exact .refl
  · exact hcollect t
  · exact .refl
  · exact hack.trans (hcollect _)

/-- Step 8 before what waits goes on: the sectors settled, the lock released, the counts down, the update counted. -/
def State.settleUpdate (s : State) (u : Update) : State :=
  let keys := (u.sectors.filter (fun x => x.nsid ≠ 0)).map (fun x => nsKey x.nsid x.lba)
  let done := u.sectors.map (fun x => (x.nsid, x.lba, ((tget s.wc.lines (nsKey x.nsid x.lba)).map (·.seq)).getD 0))
  let t : State := { s with wc := { s.wc with
    lines := s.wc.lines.map (fun (l : Nat × WcLine) => if keys.contains l.1 then (l.1, settledLine l.2) else l),
    updates := s.wc.updates.filter (fun v => v.id ≠ u.id),
    counts := lowerCounts (s.updBits u) s.wc.counts } }
  (t.incFld Fld.WC_UPDATE_COUNT 1).mirror (.updateDone u.id done)

theorem settleUpdate_updates (s : State) (u : Update) : (s.settleUpdate u).wc.updates = s.wc.updates.filter (fun v => v.id ≠ u.id) :=
  SameUpdates.of_only (only_State_mirror _ _) rfl

theorem settleUpdate_count (s : State) (u : Update) :
    (s.settleUpdate u).fld Fld.WC_UPDATE_COUNT = (s.fld Fld.WC_UPDATE_COUNT + 1) % 2 ^ Fld.WC_UPDATE_COUNT.width := by
  unfold State.settleUpdate
  dsimp only
  rw [(kept_State_mirror _ _).fld _ (by decide), State.incFld, State.fld_setFld_same]
  rfl

/-- The end of DESTAGE_ALL once nothing is dirty any more (R157). -/
def State.endDestageAll (s : State) : State :=
  if s.wc.lines.all (fun l => !l.2.isDirty) then { s with wc := { s.wc with destageAll := false } } else s

theorem sameUpdates_endDestageAll (s : State) : SameUpdates s s.endDestageAll := by
  unfold State.endDestageAll
  split <;> rfl

theorem endDestageAll_fld (s : State) (f : Field) : s.endDestageAll.fld f = s.fld f := by
  unfold State.endDestageAll
  split <;> rfl

theorem finishUpdate_eq (s : State) (u : Update) : s.finishUpdate u = (s.settleUpdate u).endDestageAll.noteLimit.destageWake := rfl

theorem finishUpdate_upd (s : State) (u : Update) : (s.finishUpdate u).upd u.id = none := by
  have hsame : SameUpdates (s.settleUpdate u) (s.finishUpdate u) :=
    (sameUpdates_endDestageAll _).trans ((sameUpdates_noteLimit _).trans (sameUpdates_destageWake _))
  rw [hsame.upd, State.upd, settleUpdate_updates]
  simp

theorem finishUpdate_count (s : State) (u : Update) :
    (s.finishUpdate u).fld Fld.WC_UPDATE_COUNT = (s.fld Fld.WC_UPDATE_COUNT + 1) % 2 ^ Fld.WC_UPDATE_COUNT.width := by
  rw [finishUpdate_eq, (kept_State_destageWake _).fld _ (by decide), (kept_State_noteLimit _).fld _ (by decide), endDestageAll_fld,
    settleUpdate_count]

/-! ### The fret map (R161) -/

theorem mem_foldl_insertOn (f : Nat → Nat) (y : Nat) (l m : List Nat) : y ∈ l.foldl (fun m x => insertOn f x m) m ↔ y ∈ l ∨ y ∈ m := by
  induction l generalizing m with
  | nil => simp
  | cons x l ih => rw [List.foldl_cons, ih, mem_insertOn, List.mem_cons, or_left_comm, or_assoc]

theorem issueClear_fretOps (s : State) (b : Nat) : (s.issueClear b).wc.fretOps = s.wc.fretOps ++ [⟨b, false, none⟩] :=
  congrArg Wc.fretOps ((only_State_mirror _ _).wc rfl)

/-- A set issued leaves the map, and adds no clear. -/
theorem issueSet_fret (s : State) (id b : Nat) :
    (s.issueSet id b).wc.fret = s.wc.fret ∧ ∀ o ∈ (s.issueSet id b).wc.fretOps, o ∈ s.wc.fretOps ∨ o.set = true := by
  unfold State.issueSet
  split
  · exact ⟨rfl, fun o ho => .inl ho⟩
  · rw [(only_State_mirror _ _).wc rfl]
    refine ⟨rfl, fun o ho => (List.mem_append.mp ho).imp_right fun h => ?_⟩
    rw [List.mem_singleton.mp h]

/-- An acknowledged clear: the bit is 0 and the operation ended. -/
def State.clearFret (s : State) (bit : Nat) : State :=
  { s with wc := { s.wc with
    fretOps := s.wc.fretOps.filter (fun o => !(o.bit == bit && !o.set)), fret := s.wc.fret.filter (· ≠ bit) } }

/-- What follows an acknowledged clear leaves the map, and adds no clear. -/
theorem execFretClearAck_clears {s : State} {bit : Nat} (h : s.wc.fretOps.any (fun o => o.bit == bit && !o.set) = true) :
    ∃ t, execFretClearAck bit s = .next t ∧ t.wc.fret = (s.clearFret bit).wc.fret ∧
      ∀ o ∈ t.wc.fretOps, o ∈ (s.clearFret bit).wc.fretOps ∨ o.set = true := by
  simp only [execFretClearAck, h, if_true]
  split
  · exact ⟨_, rfl, issueSet_fret (s.clearFret bit) _ bit⟩
  · exact ⟨_, rfl, rfl, fun o ho => .inl ho⟩

/-- Settles O33: each command that is due answers the state that the lemmas above name. -/
theorem stripeUpdatesAdvance : Obligations.StripeUpdatesAdvance := by
  refine ⟨?start, ?age, ?gather, ?reads, ?context, ?setAck, ?data, ?parity, ?clear, ?clearAck, ?destageAll, ?clearIdle⟩
  case start =>
    intro s a stripe r g ha hg hl hac hgate hfast hreplay hnone hdue hturn
    exact ⟨_, rfl, startUpdate_updates ha hg hl ⟨hac, hgate, hfast, hreplay, hnone⟩ (by rw [hdue, hturn]; rfl)⟩
  case age =>
    intro s nsid lba l a x r g hline hspot hdirty ha hg hl hac hgate hfast hreplay hnone
    have ht : execDirtyAgeExpiry nsid lba s = .next (s.startUpdate a (r.place x).stripe (fun _ _ _ => true)) := by
      simp [execDirtyAgeExpiry, hline, hspot, ha, hdirty]
    obtain ⟨u, hu, harray, hstripe, hprev, hstep, -⟩ := startUpdate_updates (due := fun _ _ _ => true)
      ha hg hl ⟨hac, hgate, hfast, hreplay, hnone⟩ rfl
    exact ⟨_, ht, u, hu, harray, hstripe, hprev, hstep⟩
  case gather =>
    intro s a stripe r g ha hg hl hac hgate hfast hreplay hnone hfull
    obtain ⟨u, hu, harray, hstripe, hprev, hstep, -⟩ := startUpdate_updates
      (due := fun st _ _ => st.destageNow || decide (st.limitBytes * st.wcCfg.startPct < st.vaulted * 100))
      ha hg hl ⟨hac, hgate, hfast, hreplay, hnone⟩ (by simp [hfull])
    exact ⟨_, rfl, u, hu, harray, hstripe, hprev, hstep⟩
  case reads =>
    intro s id u r g hu hg hs hbusy
    have ht : execStripeUpdateReadsDone id s = .next (s.computeUpdate r g u) := by
      simp [execStripeUpdateReadsDone, hu, hg, hs, hbusy]
    exact ⟨_, ht, computeUpdate_upd hu r g⟩
  case context =>
    intro s id u hu hs hm hc
    refine ⟨_, execStripeUpdateContextSaved_room hu hs hm hc, ?_⟩
    have hsaved := saveContext_upd hu
    split
    · next hmir => exact ⟨_, hsaved, le_rfl, rfl, rfl, fun _ => ⟨rfl, hmir⟩⟩
    · next hmir =>
      obtain ⟨v, hv, hstep, hsec, hpq⟩ := beginFret_upd hsaved
      exact ⟨v, hv, by omega, hsec, hpq, fun h => absurd h hmir⟩
  case setAck =>
    intro s id o ho hset hupd
    refine ⟨_, rfl, ?_⟩
    refine List.foldlRecOn (motive := fun t : State => o.bit ∈ t.wc.fret ∧ o ∉ t.wc.fretOps) _ _ ?_ fun t ht u _ => ?_
    · have hmine : (o.set && o.update == some id) = true := by simp [hset, hupd]
      refine ⟨(mem_foldl_insertOn ..).mpr (.inl (List.mem_map_of_mem (List.mem_filter.mpr ⟨ho, hmine⟩))), ?_⟩
      exact fun hin => by simpa [hmine] using (List.mem_filter.mp hin).2
    · obtain ⟨l, hl⟩ := fretReady_wc t u.id
      rw [hl]
      exact ht
  case data =>
    intro s id u r g hu hg hs hbusy hgate hac
    obtain rfl := id_of_upd hu
    obtain ⟨w, hw⟩ := writeData6_upd hu r g
    have ht : execDataWritesDone u.id s =
        .next (((s.writeData6 r g u).putUpd { w with step := 7 }).issueParity { w with step := 7 }) := by
      simp [execDataWritesDone, hu, hg, hs, hbusy, hgate, hac, hw]
    refine ⟨_, ht, { w with step := 7 }, ?_, rfl⟩
    exact ((SameUpdates.of_only (only_State_issueParity _ _) rfl).upd _).trans (upd_putUpd hw (id_of_upd hw : w.id = u.id))
  case parity =>
    intro s id u r g hu hg hs hbusy hgate hac
    obtain rfl := id_of_upd hu
    have ht : execParityWritesDone u.id s = .next ((s.writeParity7 r g u).finishUpdate u) := by
      simp [execParityWritesDone, hu, hg, hs, hbusy, hgate, hac]
    refine ⟨_, ht, finishUpdate_upd _ u, ?_⟩
    rw [finishUpdate_count, (kept_State_writeParity7 s r g u).fld _ (by decide)]
  case clear =>
    intro s b h
    exact ⟨_, if_pos h, issueClear_fretOps s b⟩
  case clearAck =>
    intro s bit o ho hbit hset
    obtain ⟨t, ht, hmap, hops⟩ := execFretClearAck_clears (bit := bit) (List.any_eq_true.mpr ⟨o, ho, by simp [hbit, hset]⟩)
    refine ⟨t, ht, ?_, fun hin => ?_⟩
    · rw [hmap]
      simp [State.clearFret]
    · simpa [State.clearFret, hbit, hset] using hops o hin
  case destageAll =>
    intro s h
    have ht : execWcDestageAll s = .next { s with wc := { s.wc with destageAll := s.wc.lines.any (fun l => l.2.isDirty) } } :=
      command_takes s _ _ h
    exact ⟨_, ht, rfl⟩
  case clearIdle =>
    intro s b h hfret hclear hlast
    have ht : execWcClearIdle s = .next (s.issueClear b) := by
      refine (command_takes s _ _ h).trans ?_
      simp only [hfret, List.foldl_cons, List.foldl_nil, hlast, hclear]
      rfl
    exact ⟨_, ht, issueClear_fretOps s b⟩

end Sys2Proof.Machine

/-!
The vault's areas (O34): in Safe Mode neither a dump is retired nor an area erased (R43).
-/
namespace Sys2Proof.Machine

/-- No area is erased in Safe Mode (R43). -/
theorem execAreaEraseDone_safeMode {s : State} (h : s.safeMode = true) (area : Fin 2) : execAreaEraseDone area s = .next s := by
  simp [execAreaEraseDone, h]

/-- Safe Mode has come while area 1 was being erased; mains is present. -/
def safeErasingState : State :=
  ({ State.reset with vault := { State.reset.vault with erasing := [1] } } : State).setBit Fld.IMG_BOOT.SAFE_MODE true

/-- Refutes O34: its clause on the end of an erase leaves Safe Mode out, in which the vault is not erased (R43). Area 1 of the state above is
still being erased after AREA_ERASE_DONE; the clause on DUMP_RETIRE leaves Safe Mode out in the same way. -/
theorem not_vaultAreasAndReplayTakeEffect : ¬ Obligations.VaultAreasAndReplayTakeEffect := by
  intro h
  obtain ⟨-, herase, -⟩ := h
  obtain ⟨t, ht, -, herased, -⟩ := herase safeErasingState 1 (by decide) (by decide)
  have hsafe : safeErasingState.safeMode = true := by decide
  obtain rfl : safeErasingState = t := Host.Outcome.next.inj ((execAreaEraseDone_safeMode hsafe 1).symm.trans ht)
  exact herased (by decide)

end Sys2Proof.Machine

/-!
The P/Q engine's known-answer tests, the array commands and the histograms (O36).
-/
namespace Sys2Proof.Machine

/-! ### Known-answer tests (R177) -/

/-- With every slice in service, the tests begin with slice 0 (R177). -/
theorem startKat_allActive {s : State} (hbusy : s.bit Fld.PQE_STATUS.KAT_BUSY = false) (hact : s.fld Fld.PQE_STATUS.SLICE_ACTIVE = 15) :
    s.startKat = (({ s with rbe := { s.rbe with katTesting := [0, 1, 2, 3] } } : State).setFld Fld.PQE_STATUS.SLICE_ACTIVE 14).setBit
      Fld.PQE_STATUS.KAT_BUSY true := by
  have hslices : (List.range 4).filter (fun i => 15 / 2 ^ i % 2 = 1) = [0, 1, 2, 3] := by decide
  simp only [State.startKat, hbusy, hact, hslices, Bool.false_eq_true, if_false, pow_zero, Nat.reduceSub]

theorem startKat_begins {s : State} (hbusy : s.bit Fld.PQE_STATUS.KAT_BUSY = false) (hact : s.fld Fld.PQE_STATUS.SLICE_ACTIVE = 15) :
    s.startKat.rbe.katTesting = [0, 1, 2, 3] ∧ s.startKat.bit Fld.PQE_STATUS.KAT_BUSY = true ∧
      s.startKat.fld Fld.PQE_STATUS.SLICE_ACTIVE = 14 := by
  rw [startKat_allActive hbusy hact]
  refine ⟨rfl, State.bit_setBit_same _ _ _ rfl, ?_⟩
  rw [State.fld_setBit_ne _ _ _ _ (by decide), State.fld_setFld_same]
  rfl

theorem execKatRun_running {s : State} (h : s.Takes Fld.PQE_KAT_CMD.RUN.addr) (hrun : s.pwr.fast = .running) :
    execKatRun s = .next s.startKat := (command_takes _ _ _ h).trans (if_pos hrun)

theorem execKatPeriodic_running {s : State} (hrun : s.pwr.fast = .running) : execKatPeriodic s = .next s.startKat := if_pos hrun

theorem katSlice_pass_active (s : State) (i : Nat) :
    (s.katSlice i true).fld Fld.PQE_STATUS.SLICE_ACTIVE = (s.fld Fld.PQE_STATUS.SLICE_ACTIVE + 2 ^ i) % 16 := by
  rw [State.katSlice, if_pos rfl, State.incFld, State.fld_setFld_ne _ _ _ _ (by decide), State.fld_setFld_same]
  rfl

theorem katSlice_fail_failed (s : State) (i : Nat) :
    (s.katSlice i false).fld Fld.PQE_STATUS.SLICE_FAILED = (s.fld Fld.PQE_STATUS.SLICE_FAILED + 2 ^ i) % 16 := by
  have hwarn (u : State) : (u.smartWarn 0).fld Fld.PQE_STATUS.SLICE_FAILED = u.fld Fld.PQE_STATUS.SLICE_FAILED :=
    (kept_State_smartWarn u 0).fld _ (by decide)
  have hfatal (u : State) : (u.raiseFatal 3).fld Fld.PQE_STATUS.SLICE_FAILED = u.fld Fld.PQE_STATUS.SLICE_FAILED :=
    (kept_State_raiseFatal u 3).fld _ (by decide)
  rw [State.katSlice, if_neg Bool.false_ne_true]
  dsimp only
  rw [apply_ite (fun u : State => u.fld Fld.PQE_STATUS.SLICE_FAILED), hfatal, ite_self, hwarn, State.fld_emit, State.fld_setFld_same]
  rfl

/-- The last slice's result taken, before the tests end (R177). -/
def State.katLast (s : State) (i : Nat) (pass : Bool) : State :=
  (({ s with rbe := { s.rbe with katTesting := [] } } : State).setBit Fld.PQE_STATUS.KAT_LAST_FAIL (!pass)).katSlice i pass

theorem execKatResult_last {s : State} {slice : Fin 4} (h : s.rbe.katTesting = [slice.val]) (pass : Bool) :
    execKatResult slice pass s = .next ((s.katLast slice.val pass).setBit Fld.PQE_STATUS.KAT_BUSY false) := by
  simp only [execKatResult, h, ne_eq, not_true_eq_false, if_false]
  rfl

theorem katLast_testing (s : State) (i : Nat) (pass : Bool) : (s.katLast i pass).rbe.katTesting = [] := by
  rw [State.katLast, only_State_katSlice _ i pass .rbe rfl]
  rfl

theorem katLast_lastFail (s : State) (i : Nat) (pass : Bool) : (s.katLast i pass).bit Fld.PQE_STATUS.KAT_LAST_FAIL = !pass := by
  rw [State.katLast, (kept_State_katSlice _ i pass).bit _ (by decide), State.bit_setBit_same _ _ _ rfl]

theorem katLast_active (s : State) (i : Nat) :
    (s.katLast i true).fld Fld.PQE_STATUS.SLICE_ACTIVE = (s.fld Fld.PQE_STATUS.SLICE_ACTIVE + 2 ^ i) % 16 := by
  rw [State.katLast, katSlice_pass_active, State.fld_setBit_ne _ _ _ _ (by decide)]
  rfl

theorem katLast_failed (s : State) (i : Nat) :
    (s.katLast i false).fld Fld.PQE_STATUS.SLICE_FAILED = (s.fld Fld.PQE_STATUS.SLICE_FAILED + 2 ^ i) % 16 := by
  rw [State.katLast, katSlice_fail_failed, State.fld_setBit_ne _ _ _ _ (by decide)]
  rfl

/-- The last slice's result ends the tests, and KAT_LAST_FAIL tells it (R177, R210). -/
theorem execKatResult_ends {s : State} {slice : Fin 4} (h : s.rbe.katTesting = [slice.val]) (pass : Bool) :
    ∃ t, execKatResult slice pass s = .next t ∧ t.rbe.katTesting = [] ∧ t.bit Fld.PQE_STATUS.KAT_BUSY = false ∧
      t.bit Fld.PQE_STATUS.KAT_LAST_FAIL = (!pass) ∧
      t.fld Fld.PQE_STATUS.SLICE_ACTIVE = (s.katLast slice.val pass).fld Fld.PQE_STATUS.SLICE_ACTIVE ∧
      t.fld Fld.PQE_STATUS.SLICE_FAILED = (s.katLast slice.val pass).fld Fld.PQE_STATUS.SLICE_FAILED := by
  refine ⟨_, execKatResult_last h pass, katLast_testing .., State.bit_setBit_same _ _ _ rfl, ?_, ?_, ?_⟩
  · rw [State.bit_setBit_ne _ _ _ _ (by decide), katLast_lastFail]
  · exact State.fld_setBit_ne _ _ _ _ (by decide)
  · exact State.fld_setBit_ne _ _ _ _ (by decide)

/-! ### ARR_CMD (R210) -/

theorem execArrScrubNow_unwanted {s : State} {a : ArrayId} {r : Arr} (h : s.Takes (Fld.ARR_CMD.CMD.at a.val).addr) (ha : s.arr a = some r)
    (hw : r.wants.contains .scrub = false) : execArrScrubNow a s = .next (s.startScrub a r) := by
  rw [execArrScrubNow, command_takes _ _ _ h]
  simp only [ha, hw, Bool.false_eq_true, if_false]

theorem execArrPause_scrub {s : State} {a : ArrayId} {r : Arr} (h : s.Takes (Fld.ARR_CMD.CMD.at a.val).addr) (ha : s.arr a = some r)
    (hx : s.arrShown r = (.scrub, 0)) (hp : r.pauses.any (fun p => p.1 == .scrub) = false) :
    execArrPause a s = .next (s.putArr a (r.pause .scrub 1)) := by
  have hcan : [ArrOp.scrub, .reshape, .copyback, .init].contains .scrub = true := rfl
  rw [execArrPause, command_takes _ _ _ h]
  simp only [ha, hx, hp, hcan, Bool.not_false, Bool.and_self, if_true]

theorem execArrResume_paused {s : State} {a : ArrayId} {r : Arr} (h : s.Takes (Fld.ARR_CMD.CMD.at a.val).addr) (ha : s.arr a = some r)
    (hp : r.pauses.any (fun p => p.2 != 6) = true) :
    execArrResume a s = .next (s.putArr a { r with pauses := r.pauses.filter (fun p => p.2 = 6) }) := by
  rw [execArrResume, command_takes _ _ _ h]
  simp only [ha, hp, if_true]

theorem execArrCopyback_unwanted {s : State} {a : ArrayId} {r : Arr} {m : Nat} (h : s.Takes (Fld.ARR_CMD.CMD.at a.val).addr)
    (ha : s.arr a = some r) (hm : r.copyIndex = some m) (hw : r.wants.contains .copyback = false) :
    execArrCopyback a s = .next (s.putArr a (r.want .copyback)) := by
  rw [execArrCopyback, command_takes _ _ _ h]
  simp only [ha, hm, hw, Option.isSome_some, Bool.not_false, Bool.and_self, if_true]

/-- The host's request fails a member unless two other indices are already without theirs (R186, R187). -/
theorem execArrFailMember_present {s : State} {a : ArrayId} {m : Nat} {r : Arr} {x : Member}
    (h : s.Takes (Fld.ARR_CMD.CMD.at a.val).addr) (ha : s.arr a = some r) (hx : r.mem m = some x)
    (hp : x.state = .active ∨ x.state = .rebuilding) :
    execArrFailMember a m s = .next (if 2 ≤ (r.downMembers.filter (fun i => i ≠ m)).length
      then s.emit .memberFailRefused [a.val, m]
      else (s.dropMember a m .failed (failCauseCode .hostRequest)).emit .memberFailed [a.val, m, failCauseCode .hostRequest]) := by
  have hup : ¬ (x.state = .failed ∨ x.state = .absent) := by rcases hp with hp | hp <;> simp [hp]
  rw [execArrFailMember, command_takes _ _ _ h]
  simp only [ha, Option.bind_some, hx, if_neg hup, State.failMember]
  split_ifs with h2 <;> simp only [h2, decide_true, decide_false]

/-! ### Histograms (R223) -/

theorem execHistClear_takes {s : State} (h : s.Takes Fld.LAT_CTRL.HIST_CLEAR.addr) :
    execHistClear s = .next { s with lat := { s.lat with hist := [] } } := command_takes _ _ _ h

/-- Settles O36: the tests begin and end as the lemmas above say, and each array command that applies puts its array. -/
theorem knownAnswerTestsAndArrayCommandsTakeEffect : Obligations.KnownAnswerTestsAndArrayCommandsTakeEffect := by
  refine ⟨?katRun, ?katPeriodic, ?pass, ?fail, ?scrubNow, ?pause, ?resume, ?failMember, ?failRefused, ?copyback, ?histClear⟩
  case katRun =>
    intro s h hrun hbusy hact
    exact ⟨_, execKatRun_running h hrun, startKat_begins hbusy hact⟩
  case katPeriodic =>
    intro s hrun hbusy hact
    exact ⟨_, execKatPeriodic_running hrun, startKat_begins hbusy hact⟩
  case pass =>
    intro s slice h
    obtain ⟨t, ht, htest, hbusy, hlast, hact, -⟩ := execKatResult_ends h true
    exact ⟨t, ht, htest, hbusy, hlast, hact.trans (katLast_active s slice.val)⟩
  case fail =>
    intro s slice h
    obtain ⟨t, ht, htest, hbusy, hlast, -, hfailed⟩ := execKatResult_ends h false
    exact ⟨t, ht, htest, hbusy, hlast, hfailed.trans (katLast_failed s slice.val)⟩
  case scrubNow =>
    intro s a r h ha hw
    exact ⟨_, execArrScrubNow_unwanted h ha hw, _, arr_putArr_same .., want_wants r .scrub, rfl⟩
  case pause =>
    intro s a r h ha hx hp
    exact ⟨_, execArrPause_scrub h ha hx hp, arr_putArr_same ..⟩
  case resume =>
    intro s a r h ha hp
    exact ⟨_, execArrResume_paused h ha hp, arr_putArr_same ..⟩
  case failMember =>
    intro s a m r x h ha hx hp hd
    obtain ⟨q, y, hq, hy, hst⟩ := dropMember_state .failed (failCauseCode .hostRequest) ha hx
    refine ⟨_, execArrFailMember_present h ha hx hp, q, y, ?_, hy, hst⟩
    rw [if_neg (Nat.not_le.mpr hd), arr_emit, hq]
  case failRefused =>
    intro s a m r x h ha hx hp hd
    refine ⟨_, execArrFailMember_present h ha hx hp, ?_⟩
    rw [if_pos hd]
    exact ⟨ha, by simp⟩
  case copyback =>
    intro s a r m h ha hm hw
    exact ⟨_, execArrCopyback_unwanted h ha hm hw, _, arr_putArr_same .., want_wants r .copyback⟩
  case histClear =>
    intro s h
    exact ⟨_, execHistClear_takes h, rfl⟩

end Sys2Proof.Machine

/-!
The read-to-clear maxima (O39): a read of an RC field is said once for where its domain serves it and once for where it does not.
-/
namespace Sys2Proof.Machine

/-- A read that is served answers the value held and leaves 0 (R6). -/
theorem readRc_served {s : State} {f : Field} (hm : s.managed = true) (hs : s.servedNow f.addr = true) :
    (s.readRc f).answer = [s.fld f] ∧ (s.readRc f).fld f = 0 := by
  have hread : s.readRc f = (s.setFld f 0).answered [s.fld f] := by simp only [State.readRc, hm, hs]; rfl
  rw [hread]
  exact ⟨rfl, (State.fld_setFld_same s f 0).trans (Nat.zero_mod _)⟩

/-- A read that is refused is a refusal of reason 4 that answers 0 (R461). -/
theorem readRc_unserved {s : State} {f : Field} (hm : s.managed = true) (hs : s.servedNow f.addr = false) :
    s.readRc f = (s.refusedUnnamed 4 f.addr).answered [0] := by
  simp only [State.readRc, hm, hs]
  rfl

/-- A refused read clears nothing: a field apart from the bus status keeps its value. -/
theorem readRc_refused {s : State} {f : Field} (hm : s.managed = true) (hs : s.servedNow f.addr = false)
    (ha : f.addr < 2 ^ 26) (hf : busFields.all (fun g => g.apart f) = true) :
    (s.readRc f).answer = [0] ∧ (s.readRc f).fld f = s.fld f ∧
      (s.readRc f).bit Fld.SYS_BUS_STATUS.ERR = true ∧ (s.readRc f).fld Fld.SYS_BUS_STATUS.REASON = 4 := by
  obtain ⟨herr, hreason, -, -⟩ := refusedUnnamed_spec s 4 f.addr (by decide) ha
  have hkept : (s.refusedUnnamed 4 f.addr).fld f = s.fld f := (kept_State_refusedUnnamed s 4 f.addr).fld f hf
  rw [readRc_unserved hm hs]
  exact ⟨rfl, hkept, herr, hreason⟩

/-- The high-water marks of both host ports lie in the register map, apart from the bus status. -/
theorem collectMax_apart_busFields (hp : HostPort) : (Fld.HFE_COLLECT_MAX.MAX_DEPTH.at hp.val).addr < 2 ^ 26 ∧
    busFields.all (fun g => g.apart (Fld.HFE_COLLECT_MAX.MAX_DEPTH.at hp.val)) = true := by
  revert hp
  decide

/-- Settles O39: each of the four commands is the read of its RC field, served or refused as the lemmas above say. -/
theorem readClearFieldsReturnAndClear : Obligations.ReadClearFieldsReturnAndClear := by
  refine ⟨?issue, ?post, ?collect, ?depth, ?issueRefused, ?postRefused, ?collectRefused⟩
  case issue => exact fun s hm hs => ⟨_, rfl, readRc_served hm hs⟩
  case post => exact fun s hm hs => ⟨_, rfl, readRc_served hm hs⟩
  case collect => exact fun s hp hm hs => ⟨_, rfl, readRc_served hm hs⟩
  case depth => exact fun s hm hs => ⟨_, rfl, readRc_served hm hs⟩
  case issueRefused => exact fun s hm hs => ⟨_, rfl, readRc_refused hm hs (by decide) (by decide)⟩
  case postRefused => exact fun s hm hs => ⟨_, rfl, readRc_refused hm hs (by decide) (by decide)⟩
  case collectRefused =>
    intro s hp hm hs
    obtain ⟨haddr, hapart⟩ := collectMax_apart_busFields hp
    exact ⟨_, rfl, readRc_refused hm hs haddr hapart⟩

end Sys2Proof.Machine

/-!
The operations of the stripe cache, for the statements of its family (O6, O42, O43): what a request leaves as it was is said once, and each
operation has an equation for every case that the state leaves it.
-/
namespace Sys2Proof.Machine

set_option Elab.async false

/-! ### What a request of the stripe cache leaves as it was (R226 to R231, R237, R238) -/

/-- The parts of the stripe cache that no request changes: HBM's bytes, the drained entries, what waits for initialization, the running
operations. -/
structure ScRest where
  hbm : List Host.Cell
  acks : List ScEntry
  held : List ScWait
  maint : Option ScMaint
  rangeOp : Option Nat

/-- Those parts of a stripe cache. -/
def Sc.rest (c : Sc) : ScRest := ⟨c.hbm, c.acks, c.held, c.maint, c.rangeOp⟩

theorem hbm_of_rest {c d : Sc} (h : c.rest = d.rest) : c.hbm = d.hbm := congrArg ScRest.hbm h

theorem foldl_rest {α : Type} {f : State → α → State} (hf : ∀ b x, (f b x).sc.rest = b.sc.rest) (xs : List α) (s : State) :
    (xs.foldl f s).sc.rest = s.sc.rest :=
  List.foldlRecOn (motive := fun t : State => t.sc.rest = s.sc.rest) xs f rfl fun b hb x _ => (hf b x).trans hb

/-- A use of an entry changes lines and replacement bits alone; the entry keeps its line's bytes. -/
theorem scTouch_sc (s : State) (k : Nat) : ∃ ls p, (s.scTouch k).sc = { s.sc with lines := ls, plru := p } ∧
    (tget ls k).map (·.data) = (tget s.sc.lines k).map (·.data) := by
  unfold State.scTouch
  dsimp only
  split
  · next l hl =>
    split
    · exact ⟨_, _, rfl, by rw [tget_tput_same, hl]; rfl⟩
    · exact ⟨_, _, rfl, rfl⟩
  · exact ⟨_, _, rfl, rfl⟩

/-- An installed line takes one entry of the array; the line that it replaces goes to the eviction structure (R231). -/
theorem scInstall_sc (s : State) (l : ScLine) (ws : List Nat) (b : Bool) : ∃ k p ev,
    (s.scInstall l ws b).1.sc = { s.sc with lines := tput s.sc.lines k l, plru := p, evict := ev } := by
  unfold State.scInstall
  dsimp only
  split <;> exact ⟨_, _, _, rfl⟩

/-- A prefetch may start a fill of the next line, and leaves every other fill (R230). -/
theorem scPrefetch_sc (s : State) (req line : Nat) : ∃ fs, (s.scPrefetch req line).sc = { s.sc with fills := fs } ∧
    tget fs line = tget s.sc.fills line := by
  unfold State.scPrefetch
  dsimp only
  split
  · exact ⟨_, rfl, tget_tput_ne _ _ _ _ (by omega)⟩
  · exact ⟨_, rfl, rfl⟩

@[simp] theorem rest_scInstall (s : State) (l : ScLine) (ws : List Nat) (b : Bool) : (s.scInstall l ws b).1.sc.rest = s.sc.rest := by
  obtain ⟨k, p, ev, h⟩ := scInstall_sc s l ws b
  rw [h]
  rfl

@[simp] theorem rest_scTouch (s : State) (k : Nat) : (s.scTouch k).sc.rest = s.sc.rest := by
  obtain ⟨ls, p, h, -⟩ := scTouch_sc s k
  rw [h]
  rfl

@[simp] theorem rest_scPrefetch (s : State) (req line : Nat) : (s.scPrefetch req line).sc.rest = s.sc.rest := by
  obtain ⟨fs, h, -⟩ := scPrefetch_sc s req line
  rw [h]
  rfl

@[simp] theorem rest_remove (c : Sc) (line : Nat) : (c.remove line).rest = c.rest := by
  unfold Sc.remove
  dsimp only
  split <;> rfl

theorem rest_scRead (s : State) (req line w : Nat) : (s.scRead req line w).sc.rest = s.sc.rest := by
  unfold State.scRead
  split
  · rfl
  · split
    · dsimp only
      split <;> exact rest_scTouch ..
    · split
      · refine (rest_scInstall ..).trans ?_
        split <;> rfl
      · split
        · rfl
        · dsimp only
          split
          · exact rest_scPrefetch ..
          · rfl

/-- A write that the merging buffer takes: its bytes join the line's entry or open one, and other slices' shared copies are invalid (R227,
R237). -/
def State.scMerge (s : State) (req line mask data : Nat) : State :=
  s.withSc { s.sc with
    merge := match s.sc.entry line with
      | some _ => s.sc.merge.map (fun e => if e.line = line then
          { e with data := maskBytes e.data mask data, mask := Nat.lor e.mask mask, writers := e.writers ++ [req] } else e)
      | none => s.sc.merge ++ [⟨line, maskBytes 0 mask data, mask, s.now, [req]⟩]
    dir := if (s.sc.dirOf line).shared.isEmpty then s.sc.dir else tput s.sc.dir line ⟨[], none⟩ }

/-- What a write that was taken does to the line that it hits, in the array or the eviction structure, or to the fill that it starts
(R226). -/
def State.scWriteLine (s : State) (req line mask data : Nat) : State :=
  match s.sc.find line with
  | some k =>
    let s := (s.scTouch k).incFld Fld.SC_HIT 1
    s.withSc { s.sc with lines := tmod s.sc.lines k (fun l => { l with data := maskBytes l.data mask data }) }
  | none =>
    match s.sc.evFind line with
    | some _ =>
      let s := s.incFld Fld.SC_VICTIM_HIT 1
      let sl := scSlice line
      s.withSc { s.sc with evict := tput s.sc.evict sl ((s.sc.evList sl).map (fun e =>
        if e.line = line then { e with data := maskBytes e.data mask data } else e)) }
    | none =>
      let s := if (tget s.sc.fills line).isSome then s else s.incFld Fld.SC_MISS 1
      if s.scAllocates req true && (tget s.sc.fills line).isNone then
        s.withSc { s.sc with fills := tput s.sc.fills line ⟨true, false, false, []⟩ }
      else s

theorem scWriteLine_sc (s : State) (req line mask data : Nat) : ∃ ls p ev fs,
    (s.scWriteLine req line mask data).sc = { s.sc with lines := ls, plru := p, evict := ev, fills := fs } := by
  unfold State.scWriteLine
  split
  · next k _ =>
    obtain ⟨ls, p, h, -⟩ := scTouch_sc s k
    exact ⟨tmod ls k (fun l => { l with data := maskBytes l.data mask data }), p, s.sc.evict, s.sc.fills, by
      simp only [State.withSc, State.incFld_sc, h]⟩
  · split
    · exact ⟨_, _, _, _, rfl⟩
    · dsimp only
      split <;> split <;> exact ⟨_, _, _, _, rfl⟩

/-- Whether a write finds neither an entry of its line nor a free one of its slice's 8 (R227). -/
def State.scFull (s : State) (line : Nat) : Prop :=
  (s.sc.entry line).isNone = true ∧ 8 ≤ (s.sc.merge.filter (fun e => scSlice e.line = scSlice line)).length

section
variable {s : State} {line : Nat}

theorem scWrite_owned {o : Nat} (ho : (s.sc.dirOf line).owner = some o) (req mask data : Nat) :
    s.scWrite req line mask data = s.scRecall line [.write req line mask data] := by
  simp only [State.scWrite, ho]

theorem scWrite_full (ho : (s.sc.dirOf line).owner = none) (hf : s.scFull line) (req mask data : Nat) :
    s.scWrite req line mask data = s.withSc { s.sc with waiting := s.sc.waiting ++ [.write req line mask data] } := by
  simp only [State.scWrite, ho]
  exact if_pos hf

theorem scWrite_taken (ho : (s.sc.dirOf line).owner = none) (hf : ¬ s.scFull line) (req mask data : Nat) :
    s.scWrite req line mask data = (s.scMerge req line mask data).scWriteLine req line mask data := by
  simp only [State.scWrite, ho]
  exact if_neg hf

end

theorem rest_scWrite (s : State) (req line mask data : Nat) : (s.scWrite req line mask data).sc.rest = s.sc.rest := by
  cases ho : (s.sc.dirOf line).owner with
  | some o =>
    rw [scWrite_owned ho]
    rfl
  | none =>
    by_cases hf : s.scFull line
    · rw [scWrite_full ho hf]
      rfl
    · obtain ⟨ls, p, ev, fs, h⟩ := scWriteLine_sc (s.scMerge req line mask data) req line mask data
      rw [scWrite_taken ho hf, h]
      rfl

/-- The turn passed to the slice after the one that has won. -/
def State.passTurn (s : State) (win line : Nat) : State :=
  s.withSc { s.sc with rotate := tput s.sc.rotate (scSlice line) ((win + 1) % 4) }

/-- A slice that has won its turn gets the line, or waits for the owner's recall. -/
def State.ownOrRecall (s : State) (win line : Nat) : State :=
  match (s.sc.dirOf line).owner with
  | none => s.scGrant win line
  | some o => if o = win then s.scGrant win line else s.scRecall line [.own win line]

/-- The ownership requests of one cycle: nobody asks, or one wins its turn and the others are sent RETRY (R238). -/
theorem scOwn_cases (s : State) (pqs : List Nat) (line : Nat) : s.scOwn pqs line = s ∨ ∃ (ps : List Nat) (win : Nat),
    s.scOwn pqs line = ((ps.foldl (fun (st : State) p => st.scRetry p line) s).passTurn win line).ownOrRecall win line := by
  unfold State.scOwn
  dsimp only
  split
  · exact .inl rfl
  · exact .inr ⟨_, _, rfl⟩

@[simp] theorem rest_passTurn (s : State) (win line : Nat) : (s.passTurn win line).sc.rest = s.sc.rest := rfl

@[simp] theorem rest_ownOrRecall (s : State) (win line : Nat) : (s.ownOrRecall win line).sc.rest = s.sc.rest := by
  unfold State.ownOrRecall
  split
  · rfl
  · split <;> rfl

theorem rest_scOwn (s : State) (pqs : List Nat) (line : Nat) : (s.scOwn pqs line).sc.rest = s.sc.rest := by
  obtain h | ⟨ps, win, h⟩ := scOwn_cases s pqs line
  · rw [h]
  · rw [h, rest_ownOrRecall, rest_passTurn]
    exact foldl_rest (f := fun st p => State.scRetry st p line) (fun _ _ => rfl) ps s

/-- A request taken up, whatever it is, leaves HBM's bytes and the parts beside them. -/
@[simp] theorem rest_scServe (s : State) (w : ScWait) : (s.scServe w).sc.rest = s.sc.rest :=
  match w with
  | .read .. => rest_scRead ..
  | .write .. => rest_scWrite ..
  | .own .. => rest_scOwn ..

theorem rest_serveAll (ws : List ScWait) (s : State) : (ws.foldl (fun (st : State) w => st.scServe w) s).sc.rest = s.sc.rest :=
  foldl_rest rest_scServe ws s

/-- A stripe cache as an entry of its merging buffer is drained: the masked bytes are in HBM, and the entry waits to be acknowledged (R227,
R228). -/
def Sc.drained (c : Sc) (line : Nat) (e : ScEntry) : Sc :=
  { c with merge := c.merge.filter (fun x => x.line ≠ line), acks := c.acks ++ [e], hbm := memMask c.hbm line e.mask e.data }

theorem drained_hbm (c : Sc) (line : Nat) (e : ScEntry) : (c.drained line e).hbm = memMask c.hbm line e.mask e.data := by
  unfold Sc.drained
  rfl

/-- The writes that waited for an entry of a line's slice, and the others (R227). -/
def Sc.waitSplit (c : Sc) (line : Nat) : List ScWait × List ScWait :=
  c.waiting.partition (fun w => match w with
    | .write _ l _ _ => scSlice l == scSlice line
    | _ => false)

/-- A drain is followed by the writes that waited for an entry of its slice. -/
theorem scDrain_entry {s : State} {line : Nat} {e : ScEntry} (h : s.sc.entry line = some e) : s.scDrain line =
    (s.sc.waitSplit line).1.foldl (fun (st : State) w => st.scServe w)
      (s.withSc { s.sc.drained line e with waiting := (s.sc.waitSplit line).2 }) := by
  unfold State.scDrain
  rw [h]
  rfl

theorem rest_scDrain {s : State} {line : Nat} {e : ScEntry} (h : s.sc.entry line = some e) :
    (s.scDrain line).sc.rest = (s.sc.drained line e).rest := by
  rw [scDrain_entry h, rest_serveAll]
  rfl

theorem scDrain_noEntry {s : State} {line : Nat} (h : s.sc.entry line = none) : s.scDrain line = s := by
  unfold State.scDrain
  rw [h]

/-! ### What a fill leaves (R229, R230, R239) -/

/-- The words of a fill that has returned, delivered to all that waited for it; a prefetch that somebody waited for was of use. -/
def State.fillDelivered (s : State) (line : Nat) (f : ScFill) : State :=
  let s := s.withSc { s.sc with fills := tdel s.sc.fills line }
  let s := s.withSc (s.sc.fillServe line (s.sc.mem line) f.waiters)
  if f.prefetch && !f.waiters.isEmpty then s.incFld Fld.SC_PF_USED 1 else s

section
variable {s : State} {line : Nat}

theorem execScFillReturn_none (hf : tget s.sc.fills line = none) (ok : Bool) : execScFillReturn line ok s = .next s := by
  simp only [execScFillReturn, hf]

variable {f : ScFill} (hf : tget s.sc.fills line = some f)
include hf

theorem execScFillReturn_discarded (hd : f.discarded = true) (ok : Bool) : execScFillReturn line ok s =
    .next (s.withSc { s.sc with fills := tput s.sc.fills line { f with discarded := false } }) := by
  simp only [execScFillReturn, hf, hd, if_true]

theorem execScFillReturn_failed (hd : f.discarded = false) : execScFillReturn line false s =
    .next (s.withSc { s.sc with fills := tdel s.sc.fills line }) := by
  simp only [execScFillReturn, hf, hd, Bool.not_false, Bool.false_eq_true, if_true, if_false]

theorem execScFillReturn_ok (hd : f.discarded = false) : execScFillReturn line true s = .next (if f.install then
    ((s.fillDelivered line f).scInstall ⟨line, s.sc.mem line, f.prefetch && f.waiters.isEmpty⟩ (s.fillDelivered line f).freeWays
      (f.prefetch && f.waiters.isEmpty)).1 else s.fillDelivered line f) := by
  simp only [execScFillReturn, hf, hd, Bool.not_true, Bool.false_eq_true, if_false]
  rfl

end

theorem fillServe_eq (c : Sc) (line data : Nat) (ws : List (Nat × Nat)) : c.fillServe line data ws =
    { c with delivered := c.delivered ++ ws.map (fun w => ⟨w.1, line, w.2, lineWord data w.2⟩) } := by
  induction ws generalizing c with
  | nil => simp [Sc.fillServe]
  | cons w ws ih => exact (ih (c.deliver w.1 line w.2 data)).trans (by simp [Sc.deliver])

theorem fillDelivered_sc (s : State) (line : Nat) (f : ScFill) : (s.fillDelivered line f).sc = { s.sc with
    fills := tdel s.sc.fills line
    delivered := s.sc.delivered ++ f.waiters.map (fun w => ⟨w.1, line, w.2, lineWord (s.sc.mem line) w.2⟩) } := by
  unfold State.fillDelivered
  dsimp only
  split <;> exact fillServe_eq ..

theorem rest_fillDelivered (s : State) (line : Nat) (f : ScFill) : (s.fillDelivered line f).sc.rest = s.sc.rest := by
  rw [fillDelivered_sc]
  rfl

/-! ### A one-line operation that begins (R234) -/

/-- The array entry that SC_MAINT_SETWAY names. -/
def State.setWay (s : State) : Nat := s.fld Fld.SC_MAINT_SETWAY.SET * 16 + s.fld Fld.SC_MAINT_SETWAY.WAY

/-- The line that a one-line operation acts on: the one that SC_MAINT_SETWAY's entry holds, where there is one, or that of SC_MAINT_ADDR. -/
def State.maintTarget (s : State) (byWay : Bool) : Nat :=
  if byWay then ((tget s.sc.lines s.setWay).map (·.line)).getD (2 ^ 30) else s.fld Fld.SC_MAINT_ADDR.ADDR

/-- The state as a one-line operation begins, before it acts on its line. -/
def State.scMaintBegun (s : State) (op line : Nat) (entry : Option Nat) : State :=
  (s.withSc { s.sc with maint := some ⟨op, line, entry⟩ }).setBit Fld.SC_STATUS.MAINT_BUSY true

theorem scMaint_busy {s : State} (hb : s.bit Fld.SC_STATUS.MAINT_BUSY = true) (op : Nat) (byWay : Bool) : s.scMaint op byWay = s :=
  if_pos hb

theorem scMaint_runs {s : State} (hb : s.bit Fld.SC_STATUS.MAINT_BUSY = false) (op : Nat) (byWay : Bool) : s.scMaint op byWay =
    (s.scMaintBegun op (s.maintTarget byWay) (if byWay then some s.setWay else none)).scMaintLine op (s.maintTarget byWay) := by
  simp only [State.scMaint, hb, Bool.false_eq_true, if_false]
  rfl

/-! ### A range command that is refused, or begins (R235) -/

/-- Whether a range command is refused for its range: it is empty or ends past the installed HBM; INVALIDATE_WAYS takes no range. -/
def State.scBadRange (s : State) (op : Nat) : Prop :=
  op ≠ 5 ∧ (s.fld Fld.SC_RANGE_LEN.VALUE = 0 ∨ s.hbmLines < s.fld Fld.SC_RANGE_START.VALUE + s.fld Fld.SC_RANGE_LEN.VALUE)

/-- The state as a range command begins, before it acts on a line. -/
def State.scRangeBegun (s : State) (op : Nat) : State :=
  let s := (s.scRangeErr 0).setBit Fld.SC_RANGE_STATUS.DONE false
  let s := (s.setBit Fld.SC_RANGE_STATUS.OVERFLOW false).setBit Fld.SC_RANGE_STATUS.BUSY true
  let s := s.setBit Fld.SC_STATUS.RANGE_BUSY true
  let s := if op = 4 then s.setFld Fld.SC_RANGE_DISPLACED.LINES 0 else s
  s.withSc { s.sc with rangeOp := some op }

/-- The lines in its range that a range command drains or recalls as it begins: those of an entry of the merging buffer or of the
directory. -/
def State.scRangeHit (s : State) : List Nat := (s.sc.merge.map (·.line) ++ s.sc.dir.map (·.1)).filter s.scInRange

theorem scRangeBegun_sc (s : State) (op : Nat) : (s.scRangeBegun op).sc = { s.sc with rangeOp := some op } := by
  unfold State.scRangeBegun
  dsimp only
  split <;> rfl

section
variable {s : State} {op : Nat}

theorem scRange_busy (hb : s.bit Fld.SC_RANGE_STATUS.BUSY = true) (op : Nat) : s.scRange op = s.setFld Fld.SC_RANGE_STATUS.ERR_CODE 1 :=
  if_pos hb

variable (hb : s.bit Fld.SC_RANGE_STATUS.BUSY = false)
include hb

theorem scRange_badRange (hr : s.scBadRange op) : s.scRange op = s.setFld Fld.SC_RANGE_STATUS.ERR_CODE 2 := by
  simp only [State.scRange, hb, Bool.false_eq_true, if_false]
  exact if_pos hr

theorem scRange_noWays (hr : ¬ s.scBadRange op) (hw : op = 4 ∧ s.fld Fld.SC_PRELOAD_WAYS.WAYS = 0) :
    s.scRange op = s.setFld Fld.SC_RANGE_STATUS.ERR_CODE 3 := by
  simp only [State.scRange, hb, Bool.false_eq_true, if_false]
  exact (if_neg hr).trans (if_pos hw)

theorem scRange_runs (hr : ¬ s.scBadRange op) (hw : ¬ (op = 4 ∧ s.fld Fld.SC_PRELOAD_WAYS.WAYS = 0)) :
    s.scRange op = if 4 ≤ op then s.scRangeBegun op else
      (s.scRangeBegun op).scRangeHit.foldl (fun (st : State) l => st.scMaintLine op l) (s.scRangeBegun op) := by
  simp only [State.scRange, hb, Bool.false_eq_true, if_false]
  exact (if_neg hr).trans (if_neg hw)

end

/-! ### The ends of maintenance and range operations (R232 to R236) -/

/-- What the end of a one-line operation leaves: a clean leaves the lines, the others remove the line, or the named entry while it holds the
line. -/
def Sc.maintEnded (c : Sc) (m : ScMaint) : Sc :=
  let c := { c with maint := none }
  if m.op = 1 then c
  else match m.entry with
    | none => c.remove m.line
    | some k => if (tget c.lines k).map (·.line) = some m.line then { c with lines := tdel c.lines k } else c

theorem maintEnded_hbm (c : Sc) (m : ScMaint) : (c.maintEnded m).hbm = c.hbm := by
  unfold Sc.maintEnded
  dsimp only
  split
  · rfl
  · split
    · exact (hbm_of_rest (rest_remove ..)).trans rfl
    · split <;> rfl

theorem execScMaintDone_none {s : State} (hm : s.sc.maint = none) : execScMaintDone s = .next s := by
  simp only [execScMaintDone, hm]

section
variable {s : State} {m : ScMaint} (hm : s.sc.maint = some m)
include hm

theorem execScMaintDone_waits (hq : s.sc.quiet m.op m.line = false) : execScMaintDone s = .next s := by
  simp only [execScMaintDone, hm, hq, Bool.not_false, if_true]

theorem execScMaintDone_ends (hq : s.sc.quiet m.op m.line = true) :
    execScMaintDone s = .next ((s.withSc (s.sc.maintEnded m)).setBit Fld.SC_STATUS.MAINT_BUSY false) := by
  simp only [execScMaintDone, hm, hq, Bool.not_true, Bool.false_eq_true, if_false]
  rfl

end

theorem scPreloadLine_held {s : State} {line k : Nat} (hf : s.sc.find line = some k) : s.scPreloadLine line = s := by
  simp only [State.scPreloadLine, hf]

/-- A preloaded line takes one entry of the array with HBM's bytes, as the merging buffer has them (R232). -/
theorem scPreloadLine_sc {s : State} {line : Nat} (hf : s.sc.find line = none) : ∃ k p ev, (s.scPreloadLine line).sc =
    { s.sc with lines := tput s.sc.lines k ⟨line, s.sc.mem line, false⟩, plru := p, evict := ev } := by
  obtain ⟨k, p, ev, h⟩ := scInstall_sc (s.withSc (s.sc.evDrop line)) ⟨line, s.sc.mem line, false⟩
    (waysOf (s.fld Fld.SC_PRELOAD_WAYS.WAYS)) false
  refine ⟨k, p, ev, Eq.trans ?_ h⟩
  simp only [State.scPreloadLine, hf]
  split
  · next heq =>
    rw [heq]
    split <;> rfl
  · next heq => rw [heq]

theorem rest_scPreloadLine (s : State) (line : Nat) : (s.scPreloadLine line).sc.rest = s.sc.rest := by
  cases hf : s.sc.find line with
  | some k => rw [scPreloadLine_held hf]
  | none =>
    obtain ⟨k, p, ev, h⟩ := scPreloadLine_sc hf
    rw [h]
    rfl

/-- What the end of a range operation does to the lines: none for a clean; PRELOAD installs those of its range, INVALIDATE_WAYS empties its
ways, the others remove the lines of their range. -/
def State.rangeWork (s : State) (op : Nat) : State :=
  match op with
  | 1 => s
  | 4 =>
    let a := s.fld Fld.SC_RANGE_START.VALUE
    ((List.range (s.fld Fld.SC_RANGE_LEN.VALUE)).map (· + a)).foldl (fun (st : State) l => st.scPreloadLine l) s
  | 5 =>
    let ws := waysOf (s.fld Fld.SC_PRELOAD_WAYS.WAYS)
    s.withSc { s.sc with lines := s.sc.lines.filter (fun p => !ws.contains (p.1 % 16)) }
  | _ =>
    s.withSc { s.sc with lines := s.sc.lines.filter (fun p => !s.scInRange p.2.line),
                         evict := s.sc.evict.map (fun (e : Nat × List ScLine) =>
                           (e.1, e.2.filter (fun l => !s.scInRange l.line))) }

/-- The state after the end of a range operation is shown. -/
def State.rangeEnded (s : State) : State :=
  let s := s.withSc { s.sc with rangeOp := none }
  ((s.setBit Fld.SC_RANGE_STATUS.BUSY false).setBit Fld.SC_STATUS.RANGE_BUSY false).setBit Fld.SC_RANGE_STATUS.DONE true

theorem rest_rangeWork (s : State) (op : Nat) : (s.rangeWork op).sc.rest = s.sc.rest := by
  unfold State.rangeWork
  split
  · rfl
  · exact foldl_rest rest_scPreloadLine _ s
  · rfl
  · rfl

theorem execScRangeDone_none {s : State} (ho : s.sc.rangeOp = none) : execScRangeDone s = .next s := by
  simp only [execScRangeDone, ho]

section
variable {s : State} {op : Nat} (ho : s.sc.rangeOp = some op)
include ho

theorem execScRangeDone_waits (hq : s.scRangeQuiet op = false) : execScRangeDone s = .next s := by
  simp only [execScRangeDone, ho, hq, Bool.not_false, if_true]

theorem execScRangeDone_ends (hq : s.scRangeQuiet op = true) : execScRangeDone s = .next (s.rangeWork op).rangeEnded := by
  unfold execScRangeDone
  rw [ho]
  exact if_neg (by simp [hq])

end

end Sys2Proof.Machine

/-!
HBM's bytes in their canonical form (O6, O7): of the operations that write HBM, a drain and a snooped write keep the form, and a reset empties
the list. Every other command leaves HBM, most by their row of `partsOf`.
-/
namespace Sys2Proof.Machine

set_option Elab.async false

/-! ### The canonical form after the operations that write HBM, and after those that do not -/

@[simp] theorem inv_setFld (s : State) (f : Field) (v : Nat) : (s.setFld f v).Inv ↔ s.Inv := Iff.rfl

@[simp] theorem inv_setBit (s : State) (f : Field) (b : Bool) : (s.setBit f b).Inv ↔ s.Inv := Iff.rfl

@[simp] theorem inv_incFld (s : State) (f : Field) (n : Nat) : (s.incFld f n).Inv ↔ s.Inv := Iff.rfl

@[simp] theorem inv_satFld (s : State) (f : Field) (n : Nat) : (s.satFld f n).Inv ↔ s.Inv := Iff.rfl

@[simp] theorem inv_used (s : State) : s.used.Inv ↔ s.Inv := Iff.rfl

@[simp] theorem inv_withDma (s : State) (d : Dma) : (s.withDma d).Inv ↔ s.Inv := Iff.rfl

@[simp] theorem inv_withSc (s : State) (c : Sc) : (s.withSc c).Inv ↔ memWf c.hbm = true := Iff.rfl

section
variable {s t : State} (h : s.Inv)
include h

theorem State.Inv.of_sc (e : t.sc = s.sc) : t.Inv := by rwa [State.Inv, e]

theorem State.Inv.of_rest (e : t.sc.rest = s.sc.rest) : t.Inv := by rwa [State.Inv, hbm_of_rest e]

/-- An operation that leaves the stripe cache keeps the form. -/
theorem State.Inv.only {l : List Part} (k : Only l s t) (hl : l.contains .sc = false := by rfl) : t.Inv := h.of_sc (k .sc hl)

theorem State.Inv.foldl {α : Type} {f : State → α → State} (hf : ∀ b x, b.Inv → (f b x).Inv) (xs : List α) : (xs.foldl f s).Inv :=
  List.foldlRecOn xs f h fun b hb x _ => hf b x hb

omit h in
theorem State.Inv.ite {a b : State} {c : Prop} {_ : Decidable c} (ha : a.Inv) (hb : b.Inv) : (if c then a else b).Inv := by
  split <;> assumption

/-- Masked bytes of a merging-buffer entry go to HBM in the canonical form (R227). -/
theorem State.Inv.scDrain (line : Nat) : (s.scDrain line).Inv := by
  cases he : s.sc.entry line with
  | none => rwa [scDrain_noEntry he]
  | some e =>
    rw [State.Inv, hbm_of_rest (rest_scDrain he), drained_hbm]
    exact memWf_mask h ..

/-- A write that the cache snoops keeps the form (R239). -/
theorem State.Inv.snoopWrite (addr : Nat) (bs : List Nat) : (s.snoopWrite addr bs).Inv := by
  refine memWf_setList ?_ addr bs
  refine List.foldlRecOn (motive := fun c : Sc => memWf c.hbm = true) _ _ h fun c hc l _ => ?_
  rwa [hbm_of_rest (rest_remove c l)]

theorem State.Inv.scMaintLine (op line : Nat) : (s.scMaintLine op line).Inv := by
  have hd : (if op ≠ 2 then s.scDrain line else s).Inv := by
    split
    · exact h.scDrain line
    · exact h
  unfold State.scMaintLine
  dsimp only
  split <;> exact hd

theorem State.Inv.scMaint (op : Nat) (byWay : Bool) : (s.scMaint op byWay).Inv := by
  cases hb : s.bit Fld.SC_STATUS.MAINT_BUSY with
  | true => rwa [scMaint_busy hb]
  | false =>
    rw [scMaint_runs hb]
    refine State.Inv.scMaintLine ?_ ..
    rwa [State.scMaintBegun, inv_setBit, inv_withSc]

theorem State.Inv.scRange (op : Nat) : (s.scRange op).Inv := by
  by_cases hb : s.bit Fld.SC_RANGE_STATUS.BUSY = true
  · exact scRange_busy hb op ▸ h
  have hb : s.bit Fld.SC_RANGE_STATUS.BUSY = false := by simpa using hb
  by_cases hr : s.scBadRange op
  · exact scRange_badRange hb hr ▸ h
  by_cases hw : op = 4 ∧ s.fld Fld.SC_PRELOAD_WAYS.WAYS = 0
  · exact scRange_noWays hb hr hw ▸ h
  have hs : (s.scRangeBegun op).Inv := by
    rwa [State.Inv, scRangeBegun_sc]
  rw [scRange_runs hb hr hw]
  split
  · exact hs
  · exact hs.foldl (fun b l hb => hb.scMaintLine op l) _

theorem State.Inv.scStopRange : s.scStopRange.Inv := by
  unfold State.scStopRange
  split <;> exact h

theorem State.Inv.scEvictPath (path : Bool) : (s.scEvictPath path).Inv := by
  unfold State.scEvictPath
  split
  · exact h
  · split <;> exact h

end

/-! ### The DMA engine (R244, R254, R255, R258, R259) -/

section
variable {s t : State} (h : s.Inv)
include h

theorem State.Inv.dmaStore (space a : Nat) (bs : List Nat) : (s.dmaStore space a bs).Inv := by
  unfold State.dmaStore
  split
  · exact h.snoopWrite a bs
  · exact h

theorem State.Inv.dmaLoose (d : Desc) (lo hi : Nat) : (s.dmaLoose d lo hi).Inv := by
  unfold State.dmaLoose
  split
  · exact State.Inv.foldl (s := s.used) h (fun b i hb => hb.snoopWrite _ _) _
  · exact h

theorem State.Inv.dmaStatus (n addr bytes status : Nat) : (s.dmaStatus n addr bytes status).Inv :=
  ((h.dmaStore ..).dmaStore ..).dmaStore ..

theorem State.Inv.dmaBad (n : Nat) (r : DmaRun) (code bytes : Nat) : (s.dmaBad n r code bytes).Inv := by
  unfold State.dmaBad
  refine State.Inv.only (State.Inv.only ?_ (only_State_dmaErrIrq _ n)) (only_State_dmaAfter _ n r.desc)
  simp only [inv_setFld, inv_setBit, inv_satFld]
  exact h.dmaStatus ..

theorem State.Inv.dmaDone (n : Nat) (r : DmaRun) : (s.dmaDone n r).Inv := by
  have irq : ∀ b : State, b.Inv → (if r.desc.ctl 14 then b.dmaIrq n else b).Inv := fun b hb => by
    split
    · exact hb.only (only_State_dmaIrq b n)
    · exact hb
  have hs := irq _ ((inv_setFld _ (Fld.CH_BYTES.at n) r.desc.len).mpr
    ((inv_satFld _ (Fld.CH_DONE_COUNT.at n) 1).mpr (h.dmaStatus n r.addr r.desc.len 1)))
  unfold State.dmaDone
  refine State.Inv.only ?_ (only_State_dmaAfter _ _ _)
  split
  · refine hs.foldl (fun b c hb => ?_) _
    split
    · exact hb.only (only_State_dmaTrigger b c false)
    · exact hb
  · exact hs

theorem State.Inv.dmaDrop (n : Nat) : (s.dmaDrop n).Inv := by
  unfold State.dmaDrop
  simp only [inv_setFld]
  refine State.Inv.only ?_ (only_State_setChState _ _ _)
  simp only [inv_setBit, inv_withDma]
  split
  · exact h
  · simp only [inv_used, inv_setFld]
    split
    · exact (inv_setBit ..).mpr h
    · exact State.Inv.dmaLoose ((inv_setBit ..).mpr h) ..

theorem State.Inv.dmaDropAll : s.dmaDropAll.Inv := h.foldl (fun _ n hb => hb.dmaDrop n) _

theorem State.Inv.dmaPortReset (hp : Nat) : (s.dmaPortReset hp).Inv := by
  unfold State.dmaPortReset
  dsimp only
  refine State.Inv.foldl (State.Inv.foldl h (fun b i hb => ?_) _) (fun b i hb => ?_) _
  · split
    · exact hb.dmaDrop _
    · exact hb
  · split
    · exact (inv_setBit ..).mpr hb
    · exact hb

end

/-! ### Resets and the power states that empty HBM (R28, R369, R378, R432, R450) -/

/-- A reset of the fast domains leaves no byte listed (assumption 7). -/
theorem inv_fastReset (s : State) : s.fastReset.Inv := by
  unfold State.fastReset
  refine State.Inv.only ?_ (only_State_showContexts _)
  simp only [State.Inv, State.setBit_sc, State.setFld_sc]
  exact memWf_reset

theorem inv_sysReset (s : State) : s.sysReset.Inv := (inv_setBit ..).mpr (inv_fastReset s)

theorem inv_gateFast (s : State) : s.gateFast.Inv := by
  simp only [State.gateFast, State.Inv]
  exact memWf_reset

theorem inv_fatalEnd (s : State) : s.fatalEnd.Inv := by
  have hs := inv_fastReset s.copyVault.copyFlash
  unfold State.fatalEnd
  dsimp only
  split <;> simpa only [State.Inv, State.setBit_sc] using hs

theorem inv_thermGate (s : State) : s.thermGate.Inv := by
  have hs := inv_fastReset (s.writeSoundpost 2)
  unfold State.thermGate
  simpa only [State.Inv, State.setBit_sc] using hs

theorem inv_pegboxDown (s : State) : s.pegboxDown.Inv := by
  have hs := (inv_fastReset s.abandonDump).only (only_State_setHoldup _ false)
  unfold State.pegboxDown
  simpa only [State.Inv, State.setBit_sc] using hs

section
variable {s t : State} (h : s.Inv)
include h

theorem State.Inv.afterDump (why : DumpReason) (area : Option Nat) : (s.afterDump why area).Inv := by
  unfold State.afterDump
  dsimp only
  cases why with
  | acFail =>
    dsimp only
    split
    · exact inv_sysReset _
    · split
      · exact h
      · refine State.Inv.only (State.Inv.only ?_ (only_State_resumeMains _)) (only_State_recomputeLimit _)
        split <;> exact h
  | sysReset => exact inv_sysReset _
  | fatal => exact inv_fatalEnd _
  | thermal => exact inv_thermGate _

theorem State.Inv.dumpFor (why : DumpReason) : (s.dumpFor why).Inv := by
  have hs : (s.scStopRange.startDump why).Inv := h.scStopRange.only (only_State_startDump _ why)
  unfold State.dumpFor
  dsimp only
  split
  · exact hs.afterDump why none
  · exact hs

theorem State.Inv.portQuiesce (hp : Nat) : (s.portQuiesce hp).Inv := by
  unfold State.portQuiesce
  refine State.Inv.only (State.Inv.dmaPortReset (h.foldl (fun b f hb => ?_) _) hp) (only_State_fenceWake _)
  exact (hb.only (only_State_quiesce b f)).only (only_State_putFn _ f _)

theorem State.Inv.fatalStop : s.fatalStop.Inv := by
  have hg : (s.hold .fatal).closeGate.Inv := (h.of_sc (State.hold_sc ..)).only (only_State_closeGate _)
  unfold State.fatalStop
  refine State.Inv.dmaDropAll ?_
  simp only [State.Inv]
  split
  · refine State.Inv.only ?_ (only_State_driveCapo _)
    simp only [State.Inv]
    refine State.Inv.only (State.Inv.only ?_ (only_State_setRole _ 4)) (only_State_sendHealth _)
    simpa only [State.Inv] using hg
  · simpa only [State.Inv] using hg

end

/-! ### The commands that may change the stripe cache -/

/-- An outcome is a next state whose memory is canonical. -/
def InvOut (o : Out State) : Prop := ∃ t, o = .next t ∧ t.Inv

theorem InvOut.next {t : State} (h : t.Inv) : InvOut (.next t) := ⟨t, rfl, h⟩

theorem InvOut.ite {c : Prop} {_ : Decidable c} {a b : Out State} (ha : InvOut a) (hb : InvOut b) : InvOut (if c then a else b) := by
  split <;> assumption

theorem InvOut.ran {o : Out State} (h : InvOut o) (s : State) : (s.ran o).Inv := by
  obtain ⟨t, rfl, ht⟩ := h
  exact ht

theorem InvOut.of_only {l : List Part} {s : State} {o : Out State} (k : OnlyOut l s o) (hl : l.contains .sc = false) (h : s.Inv) :
    InvOut o := by
  obtain ⟨t, rfl, ht⟩ := k
  exact .next (h.only ht hl)

section
variable {s : State} (h : s.Inv)
include h

/-- A command register that refuses a write leaves memory; one that takes it runs its command. -/
theorem InvOut.command (addr : Nat) {run : State → Out State} (k : InvOut (run s)) : InvOut (s.command addr run) := by
  unfold State.command
  dsimp only
  split
  · exact .next h
  · split
    · exact .next h
    · exact k

theorem invOut_scMaint (op : Nat) (byWay : Bool) :
    InvOut (s.command Fld.SC_MAINT.OP.addr (fun s => .next (s.scMaint op byWay))) :=
  .command h _ (.next (h.scMaint op byWay))

theorem invOut_scRange (op : Nat) : InvOut (s.command Fld.SC_RANGE_CMD.OP.addr (fun s => .next (s.scRange op))) :=
  .command h _ (.next (h.scRange op))

theorem State.Inv.scServe (w : ScWait) : (s.scServe w).Inv := h.of_rest (rest_scServe s w)

theorem State.Inv.scAccept (w : ScWait) : (s.scAccept w).Inv := by
  unfold State.scAccept
  split
  · exact h.scServe w
  · exact h

theorem invOut_scFillReturn (line : Nat) (ok : Bool) : InvOut (execScFillReturn line ok s) := by
  cases hf : tget s.sc.fills line with
  | none => exact execScFillReturn_none hf ok ▸ .next h
  | some f =>
    cases hd : f.discarded with
    | true => exact execScFillReturn_discarded hf hd ok ▸ .next h
    | false =>
      cases ok with
      | false => exact execScFillReturn_failed hf hd ▸ .next h
      | true =>
        rw [execScFillReturn_ok hf hd]
        refine .next (h.of_rest ?_)
        split
        · exact (rest_scInstall ..).trans (rest_fillDelivered s line f)
        · exact rest_fillDelivered s line f

theorem invOut_hbmWriteAck (line : Nat) : InvOut (execHbmWriteAck line s) := by
  unfold execHbmWriteAck
  split
  · exact .next h
  · split <;> exact .next h

theorem invOut_evictionBufferExpiry (slice : SliceId) : InvOut (execEvictionBufferExpiry slice s) := by
  unfold execEvictionBufferExpiry
  split <;> exact .next h

theorem invOut_recallWriteBack (line data : Nat) : InvOut (execRecallWriteBack line data s) := by
  unfold execRecallWriteBack
  split
  · exact .next h
  · refine .next (h.of_rest ((rest_serveAll _ _).trans ?_))
    split <;> exact rest_scWrite ..

theorem invOut_retryReissue (pq : Fin 4) (line : Nat) : InvOut (execRetryReissue pq line s) := by
  unfold execRetryReissue
  split
  · exact .next (h.of_rest (rest_scOwn ..))
  · exact .next h

theorem invOut_scMaintDone : InvOut (execScMaintDone s) := by
  cases hm : s.sc.maint with
  | none => exact execScMaintDone_none hm ▸ .next h
  | some m =>
    cases hq : s.sc.quiet m.op m.line with
    | false => exact execScMaintDone_waits hm hq ▸ .next h
    | true =>
      rw [execScMaintDone_ends hm hq]
      refine .next ((inv_setBit ..).mpr ((inv_withSc ..).mpr ?_))
      rwa [maintEnded_hbm]

theorem invOut_scRangeDone : InvOut (execScRangeDone s) := by
  cases hm : s.sc.rangeOp with
  | none => exact execScRangeDone_none hm ▸ .next h
  | some op =>
    cases hq : s.scRangeQuiet op with
    | false => exact execScRangeDone_waits hm hq ▸ .next h
    | true =>
      rw [execScRangeDone_ends hm hq]
      refine .next ?_
      simp only [State.rangeEnded, inv_setBit, inv_withSc]
      rwa [hbm_of_rest (rest_rangeWork s op)]

theorem invOut_scInitDone : InvOut (execScInitDone s) :=
  .next (State.Inv.of_rest (s := (s.withSc { s.sc with held := [] }).setBit Fld.SC_STATUS.INIT_DONE true) h (rest_serveAll ..))

theorem invOut_scEccError (place : EccPlace) (corrected : Bool) : InvOut (execScEccError place corrected s) := by
  unfold execScEccError
  split
  · exact .next h
  · cases place with
    | dataWord line =>
      dsimp only
      split <;> exact .next h
    | _ => exact .next h

end

/-! ### The commands of the DMA engine, of resets and of power -/

section
variable {s : State} (h : s.Inv)
include h

theorem invOut_dmaDescFetch (ch : ChId) (bytes : List Nat) : InvOut (execDmaDescFetch ch bytes s) := by
  unfold execDmaDescFetch
  split
  · exact .next h
  · refine .ite (.next h) (.ite ?halts (.ite ?stalls (.ite ?badFormat (.ite ?badRange ?runs))))
    case halts => exact .next (h.only (only_State_dmaHalted s ch.val 2))
    case stalls =>
      refine .next (State.Inv.only (State.Inv.only ?_ (only_State_setChState _ ch.val 3)) (only_State_dmaErrIrq _ ch.val))
      exact (inv_withDma ..).mpr h
    case badFormat => exact .next (h.dmaBad ..)
    case badRange => exact .next (h.dmaBad ..)
    case runs => exact .next ((inv_withDma ..).mpr h)

theorem invOut_dmaGrant (ch : ChId) (src : List Nat) : InvOut (execDmaGrant ch src s) := by
  unfold execDmaGrant
  split
  · exact .next h
  · split
    · exact .next h
    · refine .next ?_
      simp only [inv_incFld]
      have hs : ∀ n (f : State → Nat → State), (∀ b i, b.Inv → (f b i).Inv) → ((List.range n).foldl f s).Inv :=
        fun n f hf => h.foldl hf _
      split
      · simp only [inv_setFld, inv_withDma]
        exact hs _ _ fun b i hb => hb.dmaStore ..
      · simp only [inv_withDma]
        exact hs _ _ fun b i hb => hb.dmaStore ..

theorem invOut_dmaReadBack (ch : ChId) (ok : Bool) : InvOut (execDmaReadBack ch ok s) := by
  unfold execDmaReadBack
  split
  · exact .next h
  · split
    · exact .next h
    · split
      · exact .next (h.dmaDone ..)
      · exact .next (State.Inv.dmaBad ((inv_used s).mpr h) ..)

theorem invOut_dmaBusError (ch : ChId) (dest : Bool) (confirmed : Nat) : InvOut (execDmaBusError ch dest confirmed s) := by
  unfold execDmaBusError
  split
  · exact .next h
  · split
    · exact .next h
    · exact .next ((h.dmaLoose ..).dmaBad ..)

theorem invOut_dmaDisable (iface : Iface) (ch : ChId) : InvOut (execDmaDisable iface ch s) := by
  unfold execDmaDisable
  split
  · exact .next h
  · exact .next (h.dmaDrop ch.val)

theorem invOut_functionReset (fn : FnIdx) (kind : ResetKind) : InvOut (execFunctionReset fn kind s) := by
  have hq : (s.quiesce fn).fenceWake.Inv := (h.only (only_State_quiesce s fn)).only (only_State_fenceWake _)
  unfold execFunctionReset
  split
  · exact .next h
  · cases kind with
    | flr =>
      refine .next ?_
      split
      · exact h.portQuiesce (fnPort fn)
      · exact hq
    | ccClear =>
      refine .next ?_
      split
      · exact hq
      · exact h
    | nssr => exact .next ((h.portQuiesce 0).portQuiesce 1)

theorem invOut_activateResetDestaged : InvOut (execActivateResetDestaged s) := by
  unfold execActivateResetDestaged
  split
  · exact .next h
  · have hs := inv_fastReset s
    dsimp only
    split
    · refine .next (State.Inv.only ?_ (only_State_startBoot _))
      simpa only [State.Inv, State.setBit_sc] using hs
    · refine .next ?_
      simpa only [State.Inv, State.setBit_sc] using hs

theorem invOut_dumpCommit : InvOut (execDumpCommit s) := by
  unfold execDumpCommit
  split
  · refine .next (State.Inv.afterDump (State.Inv.foldl ?_ (fun b p hb => ?_) _) ..)
    · refine State.Inv.only ?_ (only_State_saveCounters _)
      simpa only [State.Inv, State.setBit_sc, State.setFld_sc, State.incFld_sc] using h
    · split
      · exact hb.only (only_State_putPack b p _)
      · exact hb
  · exact .next h

theorem invOut_fatalError (cause : Nat) : InvOut (execFatalError cause s) := by
  unfold execFatalError
  refine .ite (.next h) (.ite ?again ?first)
  case again => exact .next (by simpa only [State.Inv, State.emit_sc, State.setFld_sc, State.satFld_sc] using h)
  case first =>
    have stop : ∀ b : State, b.Inv → (b.fatalStop.writeSoundpost 1).Inv := fun b hb =>
      hb.fatalStop.only (only_State_writeSoundpost _ 1)
    refine .ite (.next (State.Inv.afterDump (State.Inv.only (stop _ ?_) (only_State_abandonDump _)) .fatal none))
      (.ite (.next ?_) (.ite (.next (State.Inv.afterDump (stop _ ?_) .fatal none)) (.next (State.Inv.dumpFor (stop _ ?_) .fatal))))
    case refine_2 =>
      simp only [State.Inv]
      refine stop _ ?_
      simpa only [State.Inv, State.emit_sc, State.setFld_sc, State.satFld_sc] using h
    all_goals simpa only [State.Inv, State.emit_sc, State.setFld_sc, State.satFld_sc] using h

end

section
variable {s : State} (h : s.Inv)
include h

theorem State.Inv.endPackRuns : s.endPackRuns.Inv :=
  h.foldl (fun b p hb => by
    have ha := hb.only (only_State_abortTest b p)
    exact .ite (ha.only (only_State_endLearn _ p 7)) ha) _

theorem State.Inv.stopForMains : s.stopForMains.Inv := by
  have hh := h.of_sc (State.hold_sc s .acFail)
  have hs := (((hh.only (only_State_saveCounters _)).only (only_State_saveMarks _)).dmaDropAll).only (only_State_dropBarriers _)
  unfold State.stopForMains
  exact .ite ((hs.only (only_State_beginRelease _ 1)).only (only_State_sendHealth _)) hs

theorem State.Inv.failMains : s.failMains.Inv := by
  have ht := ((inv_setBit s Fld.NRG_STATUS.AC_FAIL true).mpr h).only (only_State_thaw _)
  exact (ht.endPackRuns.only (only_State_setHoldup _ true)).stopForMains

theorem invOut_acFailNAssert : InvOut (execAcFailNAssert s) := by
  cases hf : s.acFail with
  | true =>
    unfold execAcFailNAssert
    rw [if_pos hf]
    exact .next h
  | false =>
    have ha := h.failMains.only (only_State_abandonTransition _)
    rw [execAcFailNAssert_of_mains hf]
    exact .ite (.next (h.failMains.of_sc (State.emit_sc ..))) (.ite (.next ha) (.ite (.next ha) (.next (ha.dumpFor .acFail))))

omit h in
/-- Where a reset of the fast domains acts: after a dump where one is needed. -/
theorem invOut_dumpedReset {b : State} (hb : b.Inv) :
    InvOut (if b.dumpNeeded then .next ((b.hold .sysReset).dumpFor .sysReset) else .next b.sysReset) :=
  .ite (.next (State.Inv.dumpFor (hb.of_sc (State.hold_sc ..)) .sysReset)) (.next (inv_sysReset b))

theorem invOut_quiescePoint : InvOut (execQuiescePoint s) := by
  have hd := h.only (only_State_drainBows s)
  unfold execQuiescePoint
  refine .ite (.next hd) (.ite ?reset (.ite ?reversed (.ite ?silence ?rest)))
  case reset => 
    refine invOut_dumpedReset (State.Inv.only ?_ (only_State_settle _ _))
    simpa only [State.Inv] using hd
  case reversed => 
    refine .next (State.Inv.only ?_ (only_State_settleNext _ _))
    simpa only [State.Inv] using hd
  case silence =>
    refine .next (State.Inv.only ?_ (only_State_settleNext _ 3))
    simpa only [State.Inv] using inv_gateFast _
  case rest =>
    refine .next (State.Inv.only ?_ (only_State_settleNext _ 2))
    simpa only [State.Inv] using hd

theorem invOut_exitComplete : InvOut (execExitComplete s) := by
  have hw := h.only (only_State_wakeTo s s.pwr.lastOp)
  unfold execExitComplete
  exact .ite (.next h) (.ite (invOut_dumpedReset hw) (.next hw))

theorem invOut_aonRstNAssert : InvOut (execAonRstNAssert s) := by
  unfold execAonRstNAssert
  refine .ite (.next h) (.next ?_)
  simpa only [State.Inv, State.setBit_sc] using inv_pegboxDown s

theorem invOut_pegboxWatchdogReset : InvOut (execPegboxWatchdogReset s) := by
  unfold execPegboxWatchdogReset
  refine .ite (.next h) (.next ?_)
  simpa only [State.Inv, State.setBit_sc] using inv_pegboxDown s

theorem invOut_powerDown : InvOut (execPowerDown s) := by
  unfold execPowerDown
  refine .ite (.next h) (.next ?_)
  simpa only [State.Inv, State.setBit_sc] using inv_pegboxDown _

theorem invOut_sysRstNAssert : InvOut (execSysRstNAssert s) := by
  have hs : (({ s with pwr := { s.pwr with sysLow := true, sysLowAt := s.now } } : State).setBit Fld.ERR_STATUS.FATAL_HOLD false).Inv := by
    simpa only [State.Inv, State.setBit_sc] using h
  unfold execSysRstNAssert
  refine .ite (.next h) ?_
  dsimp only
  split
  · exact .next hs
  · exact .next hs
  · exact .next (inv_sysReset _)
  · refine .ite (.next ?_) (.ite (.next (State.Inv.dumpFor ?_ .sysReset)) (.next (inv_sysReset _)))
    · simpa only [State.Inv] using hs
    · refine State.Inv.of_sc ?_ (State.hold_sc ..)
      exact .ite ((hs.only (only_State_restart _)).only (only_State_settle _ _)) hs

/-! ### Thermal stops (R378) -/

theorem State.Inv.beginStop : s.beginStop.Inv := by
  unfold State.beginStop
  have hs : ({ (s.satFld Fld.THERM_CRIT_COUNT 1).hold .thermal with
      therm := { ((s.satFld Fld.THERM_CRIT_COUNT 1).hold .thermal).therm with stopMs := 0 } } : State).Inv := by
    simpa only [State.Inv, State.hold_sc, State.satFld_sc] using h
  have ha := hs.only (only_State_abandonTransition _)
  refine .ite (hs.only (only_State_setStop _ _)) (.ite (inv_thermGate _) (.ite (State.Inv.only ?_ (only_State_setStop _ _))
    (State.Inv.only (.ite ((ha.only (only_State_beginRelease _ 0)).only (only_State_sendHealth _)) ha) (only_State_setStop _ _))))
  simpa only [State.Inv] using hs

theorem State.Inv.saveDirty : s.saveDirty.Inv := by
  unfold State.saveDirty
  split
  · exact inv_thermGate s
  · dsimp only
    split
    · refine State.Inv.only ?_ (only_State_setStop _ _)
      simpa only [State.Inv, State.used_sc] using h
    · refine State.Inv.dumpFor (State.Inv.only ?_ (only_State_setStop _ _)) .thermal
      simpa only [State.Inv, State.used_sc] using h

theorem State.Inv.stopStep : s.stopStep.Inv := by
  unfold State.stopStep
  split
  · exact h
  · exact h
  · next x _ _ =>
    have hs : ({ s with therm := { s.therm with stopMs := s.therm.stopMs + 1 } } : State).Inv := by simpa only [State.Inv] using h
    refine .ite (hs.only (only_State_setStop _ _)) (.ite hs ?_)
    cases x with
    | drain =>
      refine .ite (State.Inv.saveDirty (State.Inv.only ?_ (only_State_fenceWake _))) hs
      exact hs.foldl (fun b c hb => hb.only (only_State_abandon b c)) _
    | destage => exact .ite (inv_thermGate _) hs
    | dump => exact .ite ((hs.only (only_State_abandonDump _)).afterDump .thermal none) hs
    | gated => exact hs

theorem invOut_thermalStateChange : InvOut (execThermalStateChange s) := by
  have hs : (((s.setFld Fld.THERM_STATUS.STATE s.nextTherm).emitAt .thermalState
      (if s.nextTherm = 3 then 6 else if s.nextTherm = 2 then 5 else 4)
      [s.nextTherm, bitsOf 8 ((s.setFld Fld.THERM_STATUS.STATE s.nextTherm).tjDeci / 10)]).updateFans).Inv :=
    State.Inv.only (by simpa only [State.Inv, State.emitAt_sc, State.setFld_sc] using h) (only_State_updateFans _)
  have hu := (hs.only (only_State_setStop _ none)).of_sc (State.unhold_sc _ .thermal)
  unfold execThermalStateChange
  exact .ite (.next h) (.ite (.next hs.beginStop) (.ite (.next (.ite (hu.only (only_State_startBoot _)) hu))
    (.ite (.next (hs.only (only_State_smartWarn _ 1))) (.next hs))))

theorem invOut_temperatureSample (sensors : List Int) : InvOut (execTemperatureSample sensors s) := by
  unfold execTemperatureSample
  refine .ite (.next h) (.next (State.Inv.stopStep ?_))
  refine State.Inv.only (State.Inv.only (State.Inv.only (State.Inv.only (State.Inv.only ?_ (only_State_thermCycle _ _))
    (only_State_tjMax _)) (only_State_tempSteps _)) (only_State_tempThresholds _)) (only_State_updateFans _)
  refine .ite ?_ ?_ <;> simpa only [State.Inv, State.incFld_sc] using h

/-! ### Register writes (R6, R231, R258) -/

theorem State.Inv.cmdScMaint (value : Nat) : (s.cmdScMaint value).Inv := by
  unfold State.cmdScMaint
  dsimp only
  split
  · exact (invOut_scMaint h 1 _).ran s
  · exact (invOut_scMaint h 2 _).ran s
  · exact (invOut_scMaint h 3 _).ran s
  · exact h

theorem State.Inv.cmdScRange (code : Nat) : (s.cmdScRange code).Inv := by
  unfold State.cmdScRange
  split
  · exact (invOut_scRange h 1).ran s
  · exact (invOut_scRange h 2).ran s
  · exact (invOut_scRange h 3).ran s
  · exact (invOut_scRange h 4).ran s
  · exact (invOut_scRange h 5).ran s
  · exact h

theorem State.Inv.runReg (i : Iface) (r : CmdReg) (value : Nat) : (s.runReg i r value).Inv := by
  cases r with
  | scMaint => exact h.cmdScMaint value
  | scRange => exact h.cmdScRange (value % 8)
  | stage => exact h.only (only_State_cmdStage s i _)
  | cal => exact h.only (only_State_cmdCal s _)
  | key => exact h.only (only_State_cmdKey s _)
  | wc => exact h.only (only_State_cmdWc s _)
  | nrg => exact h.only (only_State_cmdNrg s _)
  | evr => exact h.only (only_State_cmdEvr s i _)
  | pit => exact h.only (only_State_cmdPit s _)
  | pluck => exact h.only (only_State_cmdPluck s _)
  | capo => exact h.only (only_State_cmdCapo s i _)
  | renew => exact (InvOut.of_only (only_execCapoRenew i s) rfl h).ran s
  | err =>
    unfold State.runReg
    dsimp only
    split
    · exact (InvOut.of_only (only_execErrRestart s) rfl h).ran s
    · exact h
  | kat =>
    unfold State.runReg
    dsimp only
    split
    · exact (InvOut.of_only (only_execKatRun s) rfl h).ran s
    · exact h

theorem State.Inv.runCommand {i : Iface} {addr value : Nat} {t : State} (ht : s.runCommand i addr value = some t) : t.Inv := by
  unfold State.runCommand at ht
  split at ht
  · obtain rfl := Option.some.inj ht
    exact h.runReg ..
  · exact h.only (only_State_cmdIndexed s i addr value t ht)

theorem State.Inv.writeChCtrl (n addr value : Nat) : (s.writeChCtrl n addr value).Inv := by
  have hw := h.only (only_State_writeFields s addr value)
  unfold State.writeChCtrl
  dsimp only
  split
  · exact hw.dmaDrop n
  · exact hw

theorem State.Inv.writeScCtrl (value : Nat) : (s.writeScCtrl value).Inv := State.Inv.scEvictPath ((inv_setBit ..).mpr h) _

theorem State.Inv.writeWord (i : Iface) (addr value : Nat) : (s.writeWord i addr value).Inv := by
  unfold State.writeWord
  refine .ite (h.only (only_State_writeStage s i addr value)) (.ite (h.only (only_State_writeMsix s _ addr value)) (.ite
    (h.only (only_State_writeStageCmd s i value)) (.ite (h.only (only_State_tamperCfg s value)) (.ite (h.only (only_State_winCtrl s _ value))
    (.ite (h.writeChCtrl ..) (.ite ((inv_setFld ..).mpr h) (.ite (h.only (only_State_scLock s _)) (.ite (h.only (only_State_scRangeErr s 1))
    (.ite (h.writeScCtrl value) (.ite (h.only (only_State_writeFanCtrl s _ value)) (.ite (h.only (only_State_writeArrRate s _ value))
    (.ite (h.only (only_State_writePluckSel s value)) ?_))))))))))))
  split
  · next t ht => exact h.runCommand ht
  · exact h.only (only_State_writeMixed s addr value)

theorem State.Inv.busWrite (i : Iface) (addr value : Nat) : (s.busWrite i addr value).2.Inv := by
  unfold State.busWrite
  dsimp only
  split
  · exact h.only (only_State_refused s i _ addr)
  · split
    · split
      · exact h.only (only_State_holdLo s i _ value)
      · exact h.only (only_State_commitHi s i _ value)
    · exact h.writeWord i addr value

theorem invOut_pairLoWrite (iface : Iface) (addr value : Nat) : InvOut (execPairLoWrite iface addr value s) := by
  unfold execPairLoWrite
  split
  · exact .ite (.next (h.busWrite ..)) (.next h)
  · exact .next h

theorem invOut_pairHiWrite (iface : Iface) (addr value : Nat) : InvOut (execPairHiWrite iface addr value s) := by
  unfold execPairHiWrite
  split
  · exact .ite (.next (h.busWrite ..)) (.next h)
  · exact .next h

theorem invOut_registerWrite (iface : Iface) (addr value : Nat) : InvOut (execRegisterWrite iface addr value s) :=
  .ite (.next (h.busWrite ..)) (.next h)

theorem invOut_write32 (addr value : Nat) : InvOut (execWrite32 addr value s) := by
  unfold execWrite32
  refine .ite (.next h) (.next ?_)
  simpa only [State.Inv] using h.busWrite .smbus addr value

end

/-! ### Every step -/

/-- Every command keeps the canonical form: those that leave the stripe cache by their row of `partsOf`, each of the others by its own
lemma. -/
theorem invOut_exec (c : Instr) {s : State} (h : s.Inv) : InvOut (exec c s) := by
  by_cases hc : (partsOf c).contains .sc = false
  · exact .of_only (onlyOut_exec c s) hc h
  cases c
  case acFailNAssert => exact invOut_acFailNAssert h
  case dumpCommit => exact invOut_dumpCommit h
  case aonRstNAssert => exact invOut_aonRstNAssert h
  case pegboxWatchdogReset => exact invOut_pegboxWatchdogReset h
  case sysRstNAssert => exact invOut_sysRstNAssert h
  case activateResetDestaged => exact invOut_activateResetDestaged h
  case functionReset fn kind => exact invOut_functionReset h fn kind
  case perstNAssert hp => exact .next ((h.only (only_State_setPerst s hp true)).portQuiesce hp.val)
  case hotReset hp => exact .next (h.portQuiesce hp.val)
  case pairLoWrite iface addr value => exact invOut_pairLoWrite h iface addr value
  case pairHiWrite iface addr value => exact invOut_pairHiWrite h iface addr value
  case registerWrite iface addr value => exact invOut_registerWrite h iface addr value
  case write32 addr value => exact invOut_write32 h addr value
  case scReadRequest req line word => exact .next (h.scAccept _)
  case scFillReturn line ok => exact invOut_scFillReturn h line ok
  case scWriteRequest req line mask data => exact .next (h.scAccept _)
  case mergeBufferDrain line => exact .next (h.scDrain line)
  case hbmWriteAck line => exact invOut_hbmWriteAck h line
  case evictionBufferExpiry slice => exact invOut_evictionBufferExpiry h slice
  case ownershipRequest pqs line => exact .next (h.of_rest (rest_scOwn ..))
  case recallWriteBack line data => exact invOut_recallWriteBack h line data
  case retryReissue pq line => exact invOut_retryReissue h pq line
  case scMaintClean byWay => exact invOut_scMaint h 1 byWay
  case scMaintInvalidate byWay => exact invOut_scMaint h 2 byWay
  case scMaintCleanInvalidate byWay => exact invOut_scMaint h 3 byWay
  case scRangeClean => exact invOut_scRange h 1
  case scRangeInvalidate => exact invOut_scRange h 2
  case scRangeCleanInvalidate => exact invOut_scRange h 3
  case scPreload => exact invOut_scRange h 4
  case scInvalidateWays => exact invOut_scRange h 5
  case scRangeDone => exact invOut_scRangeDone h
  case scMaintDone => exact invOut_scMaintDone h
  case evictPathSwitch path => exact .next (h.scEvictPath path)
  case scInitDone => exact invOut_scInitDone h
  case scEccError place corrected => exact invOut_scEccError h place corrected
  case dmaDescFetch ch bytes => exact invOut_dmaDescFetch h ch bytes
  case dmaGrant ch src => exact invOut_dmaGrant h ch src
  case dmaReadBack ch ok => exact invOut_dmaReadBack h ch ok
  case dmaBusError ch dest confirmed => exact invOut_dmaBusError h ch dest confirmed
  case dmaDisable iface ch => exact invOut_dmaDisable h iface ch
  case thermalStateChange => exact invOut_thermalStateChange h
  case temperatureSample sensors => exact invOut_temperatureSample h sensors
  case fatalError cause => exact invOut_fatalError h cause
  case quiescePoint => exact invOut_quiescePoint h
  case exitComplete => exact invOut_exitComplete h
  case powerDown => exact invOut_powerDown h
  all_goals exact absurd rfl hc

/-- Settles O6: an empty queue ticks the clock, which leaves memory; otherwise the front command keeps the form. -/
theorem stepKeepsCanonicalMemory : Obligations.StepKeepsCanonicalMemory := by
  intro s t h hst
  cases hp : s.pending with
  | nil =>
    simp only [step, hp, Host.Outcome.next.injEq] at hst
    exact hst ▸ h.only (only_State_tick s)
  | cons c rest =>
    obtain ⟨u, hu, hi⟩ := invOut_exec c (s := { s with pending := rest }) h
    simp only [step, hp, hu, Host.Outcome.next.injEq] at hst
    exact hst ▸ hi

/-- Settles O7: nothing is listed at reset, and nothing waits. -/
theorem resetIsCanonical : Obligations.ResetIsCanonical := ⟨memWf_reset, rfl, rfl⟩
end Sys2Proof.Machine

/-!
The requests of the stripe cache (O42): a read, a write, an ownership request and a recall each have one equation for every case that the
directory, the array, the eviction structure and the fills leave; a clause is then the table that its case changes.
-/
namespace Sys2Proof.Machine

set_option Elab.async false

/-! ### Register fields beside the stripe cache -/

@[simp] theorem fld_withSc (s : State) (c : Sc) (f : Field) : (s.withSc c).fld f = s.fld f := rfl

@[simp] theorem fld_incFld_same (s : State) (f : Field) (n : Nat) : (s.incFld f n).fld f = (s.fld f + n) % 2 ^ f.width :=
  State.fld_setFld_same ..

theorem fld_incFld_ne (s : State) (f g : Field) (n : Nat) (h : g.key ≠ f.key) : (s.incFld f n).fld g = s.fld g :=
  State.fld_setFld_ne _ _ _ _ h

theorem fld_scInstall (s : State) (l : ScLine) (ws : List Nat) (b : Bool) (f : Field) : (s.scInstall l ws b).1.fld f = s.fld f :=
  State.fld_of_regs _ _ f (only_State_scInstall s l ws b .regs rfl)

/-! ### Reads (R226, R229 to R231, R237) -/

theorem lineWord_mod (data w : Nat) : lineWord data (w % 4) = lineWord data w := by simp only [lineWord, Nat.mod_mod]

/-- The state as a hit in the eviction structure is counted, a prefetched line's first hit too (R230, R231). -/
def State.victimCounted (s : State) (l : ScLine) : State :=
  if l.prefetched then (s.incFld Fld.SC_VICTIM_HIT 1).incFld Fld.SC_PF_USED 1 else s.incFld Fld.SC_VICTIM_HIT 1

theorem victimCounted_spec (s : State) (l : ScLine) : (s.victimCounted l).sc = s.sc ∧
    (s.victimCounted l).fld Fld.SC_VICTIM_HIT = (s.fld Fld.SC_VICTIM_HIT + 1) % 2 ^ Fld.SC_VICTIM_HIT.width ∧
    (s.victimCounted l).fld Fld.SC_MISS = s.fld Fld.SC_MISS := by
  have hhit := fld_incFld_same s Fld.SC_VICTIM_HIT 1
  have hmiss := fld_incFld_ne s Fld.SC_VICTIM_HIT Fld.SC_MISS 1 (by decide)
  unfold State.victimCounted
  split
  · exact ⟨rfl, (fld_incFld_ne _ _ _ _ (by decide)).trans hhit, (fld_incFld_ne _ _ _ _ (by decide)).trans hmiss⟩
  · exact ⟨rfl, hhit, hmiss⟩

/-- The state as a line goes back from the eviction structure into the array (R231). -/
def State.victimBack (s : State) (line : Nat) (l : ScLine) : State :=
  let s := s.victimCounted l
  ((s.withSc (s.sc.evDrop line)).scInstall { l with prefetched := false } s.freeWays false).1

theorem victimBack_spec (s : State) (line : Nat) (l : ScLine) : (s.victimBack line l).sc.delivered = s.sc.delivered ∧
    (s.victimBack line l).fld Fld.SC_VICTIM_HIT = (s.fld Fld.SC_VICTIM_HIT + 1) % 2 ^ Fld.SC_VICTIM_HIT.width ∧
    (s.victimBack line l).fld Fld.SC_MISS = s.fld Fld.SC_MISS := by
  obtain ⟨hsc, hhit, hmiss⟩ := victimCounted_spec s l
  obtain ⟨k, p, ev, hi⟩ := scInstall_sc ((s.victimCounted l).withSc ((s.victimCounted l).sc.evDrop line)) { l with prefetched := false }
    (s.victimCounted l).freeWays false
  refine ⟨?_, (fld_scInstall ..).trans hhit, (fld_scInstall ..).trans hmiss⟩
  rw [State.victimBack, hi, ← hsc]
  rfl

section
variable {s : State} {line : Nat} (req w : Nat)

theorem scRead_owned {o : Nat} (ho : (s.sc.dirOf line).owner = some o) : s.scRead req line w = s.scRecall line [.read req line w] := by
  simp only [State.scRead, ho]

variable (ho : (s.sc.dirOf line).owner = none)
include ho

/-- A read that hits delivers the line's word and counts a hit. -/
theorem scRead_hit {k : Nat} {l : ScLine} (hf : s.sc.find line = some k) (hl : tget s.sc.lines k = some l) :
    (s.scRead req line w).sc.delivered = s.sc.delivered ++ [⟨req, line, w, lineWord l.data w⟩] ∧
    (s.scRead req line w).fld Fld.SC_HIT = (s.fld Fld.SC_HIT + 1) % 2 ^ Fld.SC_HIT.width := by
  obtain ⟨ls, p, hsc, hdata⟩ := scTouch_sc s k
  obtain ⟨l', hl', hd⟩ : ∃ l', tget ls k = some l' ∧ l'.data = l.data := by
    rw [hl] at hdata
    simpa using hdata
  have hr : s.scRead req line w =
      ((s.scTouch k).incFld Fld.SC_HIT 1).withSc ((s.scTouch k).sc.deliver req line w l'.data) := by
    simp only [State.scRead, ho, hf, State.incFld_sc, hsc, hl']
  rw [hr, fld_withSc, fld_incFld_same, (kept_State_scTouch s k).fld _ (by decide), hsc, hd]
  exact ⟨rfl, rfl⟩

variable (hf : s.sc.find line = none)
include hf

/-- A read that hits the eviction structure delivers the word; it counts no miss. -/
theorem scRead_victim {l : ScLine} (he : s.sc.evFind line = some l) :
    (s.scRead req line w).sc.delivered = s.sc.delivered ++ [⟨req, line, w, lineWord l.data w⟩] ∧
    (s.scRead req line w).fld Fld.SC_VICTIM_HIT = (s.fld Fld.SC_VICTIM_HIT + 1) % 2 ^ Fld.SC_VICTIM_HIT.width ∧
    (s.scRead req line w).fld Fld.SC_MISS = s.fld Fld.SC_MISS := by
  obtain ⟨hdel, hhit, hmiss⟩ := victimBack_spec s line l
  have hr : s.scRead req line w = (s.victimBack line l).withSc ((s.victimBack line l).sc.deliver req line w l.data) := by
    simp only [State.scRead, ho, hf, he]
    rfl
  rw [hr, fld_withSc, fld_withSc, hhit, hmiss, ← hdel]
  exact ⟨rfl, rfl, rfl⟩

variable (he : s.sc.evFind line = none)
include he

theorem scRead_joins {f : ScFill} (hw : tget s.sc.fills line = some f) : s.scRead req line w =
    s.withSc { s.sc with fills := tput s.sc.fills line { f with waiters := f.waiters ++ [(req, w)] } } := by
  simp only [State.scRead, ho, hf, he, hw]

/-- A read that misses starts a fill, for which it waits, and counts a miss. -/
theorem scRead_miss (hw : tget s.sc.fills line = none) :
    (s.scRead req line w).fld Fld.SC_MISS = (s.fld Fld.SC_MISS + 1) % 2 ^ Fld.SC_MISS.width ∧
    tget (s.scRead req line w).sc.fills line = some ⟨s.scAllocates req false, false, false, [(req, w)]⟩ := by
  obtain ⟨u, hu⟩ : ∃ u, u = (s.incFld Fld.SC_MISS 1).withSc
    { s.sc with fills := tput s.sc.fills line ⟨s.scAllocates req false, false, false, [(req, w)]⟩ } := ⟨_, rfl⟩
  have hmiss : u.fld Fld.SC_MISS = (s.fld Fld.SC_MISS + 1) % 2 ^ Fld.SC_MISS.width := by rw [hu, fld_withSc, fld_incFld_same]
  have hfill : tget u.sc.fills line = some ⟨s.scAllocates req false, false, false, [(req, w)]⟩ := by
    rw [hu]
    exact tget_tput_same ..
  have hr : s.scRead req line w = if s.scAllocates req false then u.scPrefetch req line else u := by
    simp only [State.scRead, ho, hf, he, hw, hu]
    rfl
  rw [hr]
  split
  · obtain ⟨fs, hsc, hkept⟩ := scPrefetch_sc u req line
    refine ⟨((kept_State_scPrefetch u req line).fld _ (by decide)).trans hmiss, ?_⟩
    rw [hsc]
    exact hkept.trans hfill
  · exact ⟨hmiss, hfill⟩

end

/-! ### Writes (R226, R227, R237) -/

theorem entry_of_merge {c d : Sc} (h : c.merge = d.merge) (line : Nat) : c.entry line = d.entry line := by rw [Sc.entry, Sc.entry, h]

theorem entry_line {c : Sc} {line : Nat} {e : ScEntry} (h : c.entry line = some e) : e.line = line := by
  simpa using List.find?_some h

/-- An entry of the merging buffer after another write of its line. -/
def ScEntry.joined (e : ScEntry) (req mask data : Nat) : ScEntry :=
  { e with data := maskBytes e.data mask data, mask := Nat.lor e.mask mask, writers := e.writers ++ [req] }

section
variable {s : State} {line : Nat} (req mask data : Nat)

theorem scMerge_opens (he : s.sc.entry line = none) :
    (s.scMerge req line mask data).sc.entry line = some ⟨line, maskBytes 0 mask data, mask, s.now, [req]⟩ := by
  have hm : (s.scMerge req line mask data).sc.merge = s.sc.merge ++ [⟨line, maskBytes 0 mask data, mask, s.now, [req]⟩] := by
    simp only [State.scMerge, State.withSc, he]
  rw [Sc.entry] at he ⊢
  rw [hm, List.find?_append, he]
  simp

theorem scMerge_joins {e : ScEntry} (he : s.sc.entry line = some e) :
    (s.scMerge req line mask data).sc.entry line = some (e.joined req mask data) := by
  have hm : (s.scMerge req line mask data).sc.merge =
      s.sc.merge.map (fun e => if e.line = line then e.joined req mask data else e) := by
    simp only [State.scMerge, State.withSc, he]
    rfl
  have hl : ((fun e : ScEntry => decide (e.line = line)) ∘ fun e => if e.line = line then e.joined req mask data else e) =
      fun e => decide (e.line = line) := by
    funext e
    by_cases h : e.line = line <;> simp [ScEntry.joined, h]
  rw [Sc.entry, hm, List.find?_map, hl, show s.sc.merge.find? _ = _ from he, Option.map_some, if_pos (entry_line he)]

/-- A write that the merging buffer takes changes, beside it, the directory and what the line's hit changes. -/
theorem scWrite_taken_sc (ho : (s.sc.dirOf line).owner = none) (hf : ¬ s.scFull line) :
    (s.scWrite req line mask data).sc.merge = (s.scMerge req line mask data).sc.merge ∧
    (s.scWrite req line mask data).sc.waiting = s.sc.waiting ∧
    (s.scWrite req line mask data).sc.dir = (s.scMerge req line mask data).sc.dir ∧
    (s.scWrite req line mask data).sc.recalls = s.sc.recalls := by
  obtain ⟨ls, p, ev, fs, h⟩ := scWriteLine_sc (s.scMerge req line mask data) req line mask data
  rw [scWrite_taken ho hf, h]
  exact ⟨rfl, rfl, rfl, rfl⟩

/-- A write of a line that nobody owns or shares leaves the directory and the recalls, taken or not. -/
theorem scWrite_unshared (h : s.sc.dirOf line = ⟨[], none⟩) :
    (s.scWrite req line mask data).sc.dir = s.sc.dir ∧ (s.scWrite req line mask data).sc.recalls = s.sc.recalls := by
  have ho : (s.sc.dirOf line).owner = none := by rw [h]
  by_cases hf : s.scFull line
  · rw [scWrite_full ho hf]
    exact ⟨rfl, rfl⟩
  · obtain ⟨-, -, hd, hr⟩ := scWrite_taken_sc req mask data ho hf
    refine ⟨hd.trans ?_, hr⟩
    simp only [State.scMerge, State.withSc, h, List.isEmpty_nil, if_true]

end

/-! ### Drains and acknowledgements (R227, R228) -/

theorem entry_drained (c : Sc) (line : Nat) (e : ScEntry) : (c.drained line e).entry line = none := by
  simp [Sc.entry, Sc.drained]

/-- With no write waiting, a drain takes the entry out of the merging buffer and does no more. -/
theorem scDrain_noWait {s : State} {line : Nat} {e : ScEntry} (h : s.sc.entry line = some e) (hw : s.sc.waiting = []) :
    (s.scDrain line).sc = s.sc.drained line e := by
  rw [scDrain_entry h, Sc.waitSplit, hw]
  exact congrArg (fun ws => { s.sc.drained line e with waiting := ws }) hw.symm

/-- The oldest drained entry of a line is acknowledged: its writers are told, in their order. -/
theorem execHbmWriteAck_oldest {s : State} {line : Nat} {a r : List ScEntry} {e : ScEntry} (h : s.sc.acks = a ++ e :: r)
    (ha : ∀ x ∈ a, x.line ≠ line) (he : e.line = line) : execHbmWriteAck line s = .next (s.withSc { s.sc with
      acks := a ++ r, written := s.sc.written ++ e.writers.map (fun w => (w, line)) }) := by
  have hi : (a ++ e :: r).findIdx? (fun e => decide (e.line = line)) = some a.length := by
    rw [List.findIdx?_append, List.findIdx?_eq_none_iff.mpr (by simpa using ha), List.findIdx?_cons]
    simp [he]
  unfold execHbmWriteAck
  simp only [h, hi, List.getElem?_append_right, le_refl, Nat.sub_self, List.getElem?_cons_zero]
  congr
  simp [List.eraseIdx_append_of_length_le]

theorem execHbmWriteAck_none {s : State} {line : Nat} (h : ∀ e ∈ s.sc.acks, e.line ≠ line) : execHbmWriteAck line s = .next s := by
  have hi : s.sc.acks.findIdx? (fun e => decide (e.line = line)) = none := List.findIdx?_eq_none_iff.mpr (by simpa using h)
  simp only [execHbmWriteAck, hi]

/-! ### Ownership (R237, R238) -/

theorem dirOf_tput_same (c : Sc) (line : Nat) (d : ScDir) : ({ c with dir := tput c.dir line d } : Sc).dirOf line = d := by
  simp only [Sc.dirOf, tget_tput_same, Option.getD_some]

/-- The four P/Q slices in rotating order (R238). -/
def rotOrder (start : Nat) : List Nat := (List.range 4).map (fun i => (start + i) % 4)

theorem rotOrder_mod (start : Nat) : rotOrder (start % 4) = rotOrder start := List.map_congr_left fun i _ => Nat.mod_add_mod start 4 i

/-- The slices that ask for a line in one cycle, in the order of their turn (R238). -/
def State.ownWants (s : State) (pqs : List Nat) (line : Nat) : List Nat :=
  (rotOrder ((tget s.sc.rotate (scSlice line)).getD 0)).filter (fun p => pqs.contains p)

theorem ownWants_nil (s : State) (line : Nat) : s.ownWants [] line = [] := List.filter_eq_nil_iff.mpr fun _ _ => by simp

theorem ownWants_one (s : State) (p : Fin 4) (line : Nat) : s.ownWants [p.val] line = [p.val] := by
  have all : ∀ (r p : Fin 4), (rotOrder r.val).filter (fun q => [p.val].contains q) = [p.val] := by decide
  rw [State.ownWants, ← rotOrder_mod]
  exact all ⟨_, Nat.mod_lt _ (by decide)⟩ p

/-- Two slices of which the one whose turn it is comes first. -/
theorem ownWants_two {s : State} {p q : Fin 4} {line : Nat} (hpq : p ≠ q) (hp : (tget s.sc.rotate (scSlice line)).getD 0 = p.val) :
    s.ownWants [p.val, q.val] line = [p.val, q.val] := by
  have all : ∀ (p q : Fin 4), p ≠ q → (rotOrder p.val).filter (fun r => [p.val, q.val].contains r) = [p.val, q.val] := by decide
  rw [State.ownWants, hp]
  exact all p q hpq

theorem ownOrRecall_free {s : State} {line : Nat} (h : (s.sc.dirOf line).owner = none) (win : Nat) :
    s.ownOrRecall win line = s.scGrant win line := by
  simp only [State.ownOrRecall, h]

theorem ownOrRecall_owned {s : State} {line o win : Nat} (h : (s.sc.dirOf line).owner = some o) (hne : o ≠ win) :
    s.ownOrRecall win line = s.scRecall line [.own win line] := by
  simp only [State.ownOrRecall, h, if_neg hne]

theorem scOwn_nil (s : State) (line : Nat) : s.scOwn [] line = s := by
  have h := ownWants_nil s line
  unfold State.ownWants rotOrder at h
  simp only [State.scOwn, h, List.filter_nil, List.append_nil]

/-- The first in turn wins, unless another has been sent RETRY four times; the others are sent RETRY. -/
theorem scOwn_first {s : State} {pqs : List Nat} {line win : Nat} {rest : List Nat} (hw : s.ownWants pqs line = win :: rest)
    (hr : ∀ p ∈ rest, (tget s.sc.retries (line * 4 + p)).getD 0 < 4) : s.scOwn pqs line =
    ((((win :: rest).filter (· ≠ win)).foldl (fun (st : State) p => st.scRetry p line) s).passTurn win line).ownOrRecall win line := by
  have hstarved : ∃ l, (win :: rest).filter (fun p => 4 ≤ (tget s.sc.retries (line * 4 + p)).getD 0) ++ win :: rest = win :: l := by
    rw [List.filter_cons, List.filter_eq_nil_iff.mpr fun p hp => by simpa using hr p hp]
    split
    · exact ⟨_, rfl⟩
    · exact ⟨_, rfl⟩
  obtain ⟨l, hl⟩ := hstarved
  unfold State.ownWants rotOrder at hw
  simp only [State.scOwn, hw, hl]
  rfl

theorem scOwn_one (s : State) (p : Fin 4) (line : Nat) : s.scOwn [p.val] line = (s.passTurn p.val line).ownOrRecall p.val line := by
  rw [scOwn_first (ownWants_one s p line) (by simp)]
  simp

theorem scOwn_two {s : State} {p q : Fin 4} {line : Nat} (hpq : p ≠ q) (hp : (tget s.sc.rotate (scSlice line)).getD 0 = p.val)
    (hq : (tget s.sc.retries (line * 4 + q.val)).getD 0 < 4) :
    s.scOwn [p.val, q.val] line = ((s.scRetry q.val line).passTurn p.val line).ownOrRecall p.val line := by
  rw [scOwn_first (ownWants_two hpq hp) (by simpa using hq)]
  have hne : q.val ≠ p.val := fun h => hpq (Fin.ext h.symm)
  simp [hne]

/-- One slice asks for a free line: it is the owner, and nothing of it waits for a retry (R237). -/
theorem scOwn_one_free {s : State} {line : Nat} (ho : (s.sc.dirOf line).owner = none) (p : Fin 4) :
    s.scOwn [p.val] line = (s.passTurn p.val line).scGrant p.val line := by
  rw [scOwn_one]
  exact ownOrRecall_free (s := s.passTurn p.val line) ho _

/-- One slice asks for another's line: the owner is recalled, and the slice waits. -/
theorem scOwn_one_owned {s : State} {line o : Nat} {p : Fin 4} (ho : (s.sc.dirOf line).owner = some o) (hne : o ≠ p.val) :
    s.scOwn [p.val] line = (s.passTurn p.val line).scRecall line [.own p.val line] := by
  rw [scOwn_one]
  exact ownOrRecall_owned (s := s.passTurn p.val line) ho hne

theorem scGrant_spec (s : State) (pq line : Nat) : (s.scGrant pq line).sc.dirOf line = ⟨[], some pq⟩ ∧
    tget (s.scGrant pq line).sc.retries (line * 4 + pq) = none ∧ (s.scGrant pq line).sc.recalls = s.sc.recalls :=
  ⟨dirOf_tput_same .., tget_tdel_same .., rfl⟩

theorem scRecall_spec (s : State) (line : Nat) (w : List ScWait) :
    tget (s.scRecall line w).sc.recalls line = some ((tget s.sc.recalls line).getD [] ++ w) ∧ (s.scRecall line w).sc.dir = s.sc.dir ∧
    (s.scRecall line w).sc.delivered = s.sc.delivered ∧ (s.scRecall line w).sc.merge = s.sc.merge :=
  ⟨tget_tput_same .., rfl, rfl, rfl⟩

/-! ### A recall's write-back (R237) -/

/-- The owner's bytes taken: the line is unowned and the recall over, before what waited is taken up. -/
def State.recallTaken (s : State) (line data : Nat) : State :=
  State.scWrite (s.withSc { s.sc with dir := tput s.sc.dir line ⟨[], none⟩, recalls := tdel s.sc.recalls line }) 2 line (2 ^ 128 - 1) data

theorem recallTaken_spec (s : State) (line data : Nat) : (s.recallTaken line data).sc.dir = tput s.sc.dir line ⟨[], none⟩ ∧
    (s.recallTaken line data).sc.recalls = tdel s.sc.recalls line :=
  scWrite_unshared (s := s.withSc _) 2 _ data (dirOf_tput_same ..)

section
variable {s : State} {line : Nat}

theorem execRecallWriteBack_free (ho : (s.sc.dirOf line).owner = none) (data : Nat) : execRecallWriteBack line data s = .next s := by
  simp only [execRecallWriteBack, ho]

variable {o : Nat} (ho : (s.sc.dirOf line).owner = some o)
include ho

/-- Where nobody asked for the line, its former owner keeps it shared. -/
theorem execRecallWriteBack_kept (hr : tget s.sc.recalls line = none) (data : Nat) : execRecallWriteBack line data s =
    .next ((s.recallTaken line data).withSc { (s.recallTaken line data).sc with
      dir := tput (s.recallTaken line data).sc.dir line ⟨[o], none⟩ }) := by
  simp only [execRecallWriteBack, ho, hr]
  rfl

/-- Where another slice waits for the line alone, it asks again. -/
theorem execRecallWriteBack_passed {p : Nat} (hr : tget s.sc.recalls line = some [.own p line]) (data : Nat) :
    execRecallWriteBack line data s = .next ((s.recallTaken line data).scOwn [p] line) := by
  simp only [execRecallWriteBack, ho, hr]
  rfl

end

/-! ### Requests while the invalidation walk runs, and after it (R239) -/

section
variable {s : State} (hi : s.bit Fld.SC_STATUS.INIT_DONE = false)
include hi

theorem scAccept_walk (w : ScWait) : s.scAccept w = s.withSc { s.sc with held := s.sc.held ++ [w] } := if_neg (by simp [hi])

theorem exec_scReadRequest_walk (req : Fin 8) (line word : Nat) : exec (.scReadRequest req line word) s =
    .next (s.withSc { s.sc with held := s.sc.held ++ [.read req.val line (word % 4)] }) :=
  congrArg Host.Outcome.next (scAccept_walk hi _)

theorem exec_scWriteRequest_walk (req : Fin 8) (line mask data : Nat) : exec (.scWriteRequest req line mask data) s =
    .next (s.withSc { s.sc with held := s.sc.held ++ [.write req.val line mask data] }) :=
  congrArg Host.Outcome.next (scAccept_walk hi _)

end

section
variable {s : State} (hi : s.bit Fld.SC_STATUS.INIT_DONE = true) (req : Fin 8)
include hi

theorem exec_scReadRequest (line word : Nat) : exec (.scReadRequest req line word) s = .next (s.scRead req.val line (word % 4)) :=
  congrArg Host.Outcome.next (if_pos hi)

theorem exec_scWriteRequest (line mask data : Nat) : exec (.scWriteRequest req line mask data) s = .next (s.scWrite req.val line mask data) :=
  congrArg Host.Outcome.next (if_pos hi)

end

theorem exec_ownershipRequest (pqs : List (Fin 4)) (line : Nat) (s : State) :
    exec (.ownershipRequest pqs line) s = .next (s.scOwn (pqs.map (·.val)) line) := rfl

theorem exec_retryReissue {s : State} {pq : Fin 4} {line : Nat} (h : (tget s.sc.retries (line * 4 + pq.val)).isSome = true) :
    exec (.retryReissue pq line) s = .next (s.scOwn [pq.val] line) :=
  if_pos h

/-- Settles O42: each request is the case of its equation that the clause's conditions name. -/
theorem stripeCacheRequestsAreServed : Obligations.StripeCacheRequestsAreServed := by
  refine ⟨?readHit, ?readMiss, ?fillDelivers, ?writeOpens, ?drains, ?acksFirst, ?expires, ?owns, ?keepsShared, ?retries, ?readHeld, ?readRecalls,
    ?readVictim, ?readJoins, ?noFill, ?refetched, ?fillFails, ?writeHeld, ?writeRecalls, ?writeWaits, ?writeJoins, ?noEntry, ?drainsAny, ?noAck,
    ?acksOldest, ?victimCache, ?nobodyAsks, ?twoAsk, ?ownRecalls, ?notOwned, ?passes, ?noRetry, ?retryRecalls⟩
  case readHit =>
    intro s req line word k l hi ho hf hl
    obtain ⟨hdel, hhit⟩ := scRead_hit req.val (word % 4) ho hf hl
    rw [lineWord_mod] at hdel
    exact ⟨_, exec_scReadRequest hi .., hdel, hhit, hbm_of_rest (rest_scRead ..)⟩
  case readMiss =>
    intro s req line word hi ho hf he hw
    obtain ⟨hmiss, hfill⟩ := scRead_miss req.val (word % 4) ho hf he hw
    exact ⟨_, exec_scReadRequest hi .., hmiss, _, hfill, rfl, rfl⟩
  case fillDelivers =>
    intro s line f hf hd
    refine ⟨_, execScFillReturn_ok hf hd, ?_⟩
    have hs : tget (s.fillDelivered line f).sc.fills line = none ∧ (s.fillDelivered line f).sc.delivered =
        s.sc.delivered ++ f.waiters.map (fun w => ⟨w.1, line, w.2, lineWord (s.sc.mem line) w.2⟩) := by
      rw [fillDelivered_sc]
      exact ⟨tget_tdel_same .., rfl⟩
    split
    · obtain ⟨k, p, ev, h⟩ := scInstall_sc (s.fillDelivered line f) ⟨line, s.sc.mem line, f.prefetch && f.waiters.isEmpty⟩
        (s.fillDelivered line f).freeWays (f.prefetch && f.waiters.isEmpty)
      beta_reduce
      rw [h]
      exact hs
    · exact hs
  case writeOpens =>
    intro s req line mask data hi ho he hroom
    obtain ⟨hm, -⟩ := scWrite_taken_sc req.val mask data ho (fun h : s.scFull line => absurd h.2 (by omega))
    exact ⟨_, exec_scWriteRequest hi .., _, (entry_of_merge hm line).trans (scMerge_opens _ _ _ he), rfl, rfl, rfl⟩
  case drains =>
    intro s line e he hw
    have h := scDrain_noWait he hw
    exact ⟨_, rfl, (congrArg Sc.hbm h).trans (drained_hbm ..), (congrArg (Sc.entry · line) h).trans (entry_drained ..), congrArg Sc.acks h⟩
  case acksFirst =>
    intro s line e r h he
    exact ⟨_, execHbmWriteAck_oldest (a := []) h (by simp) he, rfl, rfl⟩
  case expires =>
    intro s slice hp
    refine ⟨_, if_neg (by simp [hp]), ?_⟩
    simp only [Sc.evList, State.withSc, tget_tput_same, Option.getD_some]
  case owns =>
    intro s pq line ho
    exact ⟨_, (exec_ownershipRequest ..).trans (congrArg _ (scOwn_one_free ho pq)), (scGrant_spec ..).1⟩
  case keepsShared =>
    intro s line data o ho hr
    exact ⟨_, execRecallWriteBack_kept ho hr data, dirOf_tput_same ..⟩
  case retries =>
    intro s pq line hr ho
    obtain ⟨hdir, hret, -⟩ := scGrant_spec (s.passTurn pq.val line) pq.val line
    exact ⟨_, (exec_retryReissue hr).trans (congrArg _ (scOwn_one_free ho pq)), hdir, hret⟩
  case readHeld =>
    intro s req line word hi
    exact ⟨_, exec_scReadRequest_walk hi .., rfl, rfl, rfl⟩
  case readRecalls =>
    intro s req line word o hi ho
    obtain ⟨hrec, hdir, hdel, -⟩ := scRecall_spec s line [.read req.val line (word % 4)]
    exact ⟨_, (exec_scReadRequest hi ..).trans (congrArg _ (scRead_owned _ _ ho)), hrec, hdel, hdir⟩
  case readVictim =>
    intro s req line word l hi ho hf he
    obtain ⟨hdel, hhit, hmiss⟩ := scRead_victim req.val (word % 4) ho hf he
    rw [lineWord_mod] at hdel
    exact ⟨_, exec_scReadRequest hi .., hdel, hhit, hmiss⟩
  case readJoins =>
    intro s req line word f hi ho hf he hw
    exact ⟨_, (exec_scReadRequest hi ..).trans (congrArg _ (scRead_joins _ _ ho hf he hw)), tget_tput_same .., rfl, rfl⟩
  case noFill => exact fun s line ok hf => ⟨s, execScFillReturn_none hf ok, rfl⟩
  case refetched => exact fun s line ok f hf hd => ⟨_, execScFillReturn_discarded hf hd ok, tget_tput_same .., rfl, rfl⟩
  case fillFails => exact fun s line f hf hd => ⟨_, execScFillReturn_failed hf hd, tget_tdel_same .., rfl, rfl⟩
  case writeHeld =>
    intro s req line mask data hi
    exact ⟨_, exec_scWriteRequest_walk hi .., rfl, rfl⟩
  case writeRecalls =>
    intro s req line mask data o hi ho
    obtain ⟨hrec, -, -, hmerge⟩ := scRecall_spec s line [.write req.val line mask data]
    exact ⟨_, (exec_scWriteRequest hi ..).trans (congrArg _ (scWrite_owned ho ..)), hrec, hmerge⟩
  case writeWaits =>
    intro s req line mask data hi ho he hfull
    exact ⟨_, (exec_scWriteRequest hi ..).trans (congrArg _ (scWrite_full ho ⟨by simp [he], hfull⟩ ..)), rfl, rfl⟩
  case writeJoins =>
    intro s req line mask data e hi ho he
    obtain ⟨hm, hw, -⟩ := scWrite_taken_sc req.val mask data ho (fun h : s.scFull line => by simp [State.scFull, he] at h)
    exact ⟨_, exec_scWriteRequest hi .., (entry_of_merge hm line).trans (scMerge_joins _ _ _ he), hw⟩
  case noEntry => exact fun s line he => ⟨s, congrArg _ (scDrain_noEntry he), rfl⟩
  case drainsAny =>
    intro s line e he
    exact ⟨_, rfl, (hbm_of_rest (rest_scDrain he)).trans (drained_hbm ..), congrArg ScRest.acks (rest_scDrain he)⟩
  case noAck => exact fun s line h => ⟨s, execHbmWriteAck_none h, rfl⟩
  case acksOldest => exact fun s line a r e h ha he => ⟨_, execHbmWriteAck_oldest h ha he, rfl, rfl⟩
  case victimCache => exact fun s slice hp => ⟨s, if_pos hp, rfl⟩
  case nobodyAsks => exact fun s line => ⟨s, congrArg _ (scOwn_nil s line), rfl⟩
  case twoAsk =>
    intro s p q line ho hpq hp hq
    have hne : line * 4 + q.val ≠ line * 4 + p.val := fun h => hpq (Fin.ext (by omega))
    have hown := (scOwn_two hpq hp hq).trans (ownOrRecall_free (s := (s.scRetry q.val line).passTurn p.val line) ho _)
    exact ⟨_, (exec_ownershipRequest ..).trans (congrArg _ hown), (scGrant_spec ..).1,
      (tget_tdel_ne _ _ _ hne).trans (tget_tput_same ..), fld_incFld_same .., tget_tput_same ..⟩
  case ownRecalls =>
    intro s pq line o ho hne
    obtain ⟨hrec, hdir, -⟩ := scRecall_spec (s.passTurn pq.val line) line [.own pq.val line]
    exact ⟨_, (exec_ownershipRequest ..).trans (congrArg _ (scOwn_one_owned ho hne)), hrec, hdir⟩
  case notOwned => exact fun s line data ho => ⟨s, execRecallWriteBack_free ho data, rfl⟩
  case passes =>
    intro s line data o p ho hr hp
    obtain ⟨hdir, hrec⟩ := recallTaken_spec s line data
    have hfree : ((s.recallTaken line data).sc.dirOf line).owner = none := by rw [Sc.dirOf, hdir, tget_tput_same]; rfl
    obtain ⟨hd, -, hr'⟩ := scGrant_spec ((s.recallTaken line data).passTurn p line) p line
    refine ⟨_, (execRecallWriteBack_passed ho hr data).trans (congrArg _ (scOwn_one_free hfree ⟨p, hp⟩)), hd, ?_⟩
    rw [hr', show ((s.recallTaken line data).passTurn p line).sc.recalls = _ from hrec]
    exact tget_tdel_same ..
  case noRetry => exact fun s pq line hr => ⟨s, if_neg (by simp [hr]), rfl⟩
  case retryRecalls =>
    intro s pq line o hr ho hne
    obtain ⟨hrec, hdir, -⟩ := scRecall_spec (s.passTurn pq.val line) line [.own pq.val line]
    exact ⟨_, (exec_retryReissue hr).trans (congrArg _ (scOwn_one_owned ho hne)), hrec, hdir⟩

end Sys2Proof.Machine

/-!
Maintenance, range operations, locks, initialization and ECC errors of the stripe cache (O43): the start of an operation shows it before it
acts on lines, whose drains and recalls leave what is shown; the end of an operation is one change of the lines.
-/
namespace Sys2Proof.Machine

set_option Elab.async false

/-! ### What the drains and recalls of an operation leave (R227, R233) -/

/-- A drain or a recall for an operation leaves the running operations. -/
theorem scMaintLine_running (s : State) (op line : Nat) :
    (s.scMaintLine op line).sc.maint = s.sc.maint ∧ (s.scMaintLine op line).sc.rangeOp = s.sc.rangeOp := by
  have hd : (s.scDrain line).sc.maint = s.sc.maint ∧ (s.scDrain line).sc.rangeOp = s.sc.rangeOp := by
    cases he : s.sc.entry line with
    | none => rw [scDrain_noEntry he]; exact ⟨rfl, rfl⟩
    | some e => exact ⟨congrArg ScRest.maint (rest_scDrain he), congrArg ScRest.rangeOp (rest_scDrain he)⟩
  unfold State.scMaintLine
  dsimp only
  by_cases h : op = 2
  · rw [if_neg (not_not_intro h)]
    split <;> exact ⟨rfl, rfl⟩
  · rw [if_pos h]
    split <;> exact hd

/-! ### One-line operations (R234) -/

/-- An accepted one-line operation is shown busy, with its line and the entry that it names. -/
theorem scMaint_shown {s : State} (hb : s.bit Fld.SC_STATUS.MAINT_BUSY = false) (op : Nat) (byWay : Bool) :
    (s.scMaint op byWay).bit Fld.SC_STATUS.MAINT_BUSY = true ∧
    (s.scMaint op byWay).sc.maint = some ⟨op, s.maintTarget byWay, if byWay then some s.setWay else none⟩ := by
  rw [scMaint_runs hb]
  refine ⟨?_, (scMaintLine_running ..).1⟩
  rw [(kept_State_scMaintLine _ op _).bit _ (by decide)]
  exact State.bit_setBit_same _ _ _ rfl

section
variable {s : State} (ht : s.Takes Fld.SC_MAINT.OP.addr) (byWay : Bool)
include ht

theorem exec_scMaintClean : exec (.scMaintClean byWay) s = .next (s.scMaint 1 byWay) :=
  command_takes s _ (fun s => .next (s.scMaint 1 byWay)) ht

theorem exec_scMaintInvalidate : exec (.scMaintInvalidate byWay) s = .next (s.scMaint 2 byWay) :=
  command_takes s _ (fun s => .next (s.scMaint 2 byWay)) ht

theorem exec_scMaintCleanInvalidate : exec (.scMaintCleanInvalidate byWay) s = .next (s.scMaint 3 byWay) :=
  command_takes s _ (fun s => .next (s.scMaint 3 byWay)) ht

end

/-! ### Range operations that begin (R232, R235) -/

/-- A range operation as it begins: busy, not done, without an error. -/
def State.RangeShown (s : State) (op : Nat) : Prop :=
  s.bit Fld.SC_RANGE_STATUS.BUSY = true ∧ s.bit Fld.SC_STATUS.RANGE_BUSY = true ∧ s.bit Fld.SC_RANGE_STATUS.DONE = false ∧
  s.fld Fld.SC_RANGE_STATUS.ERR_CODE = 0 ∧ s.sc.rangeOp = some op

/-- The fields that show a range operation. -/
abbrev rangeFields : List Field :=
  [Fld.SC_RANGE_STATUS.BUSY, Fld.SC_STATUS.RANGE_BUSY, Fld.SC_RANGE_STATUS.DONE, Fld.SC_RANGE_STATUS.ERR_CODE]

theorem scRangeBegun_shown (s : State) (op : Nat) : (s.scRangeBegun op).RangeShown op := by
  have k : ∀ u : State, SameFlds rangeFields u (if op = 4 then u.setFld Fld.SC_RANGE_DISPLACED.LINES 0 else u) := fun u => by
    split
    · exact (Kept.setFld (l := [Fld.SC_RANGE_DISPLACED.LINES]) rfl Kept.refl).sameFlds (by decide)
    · exact .refl
  refine ⟨((k _).bit (by decide)).trans ?_, ((k _).bit (by decide)).trans ?_, ((k _).bit (by decide)).trans ?_, (k _ _ (by decide)).trans ?_,
    congrArg Sc.rangeOp (scRangeBegun_sc s op)⟩
  · rw [State.bit_setBit_ne _ _ _ _ (by decide), State.bit_setBit_same _ _ _ rfl]
  · rw [State.bit_setBit_same _ _ _ rfl]
  · rw [State.bit_setBit_ne _ _ _ _ (by decide), State.bit_setBit_ne _ _ _ _ (by decide), State.bit_setBit_ne _ _ _ _ (by decide),
      State.bit_setBit_same _ _ _ rfl]
  · rw [State.fld_setBit_ne _ _ _ _ (by decide), State.fld_setBit_ne _ _ _ _ (by decide), State.fld_setBit_ne _ _ _ _ (by decide),
      State.fld_setBit_ne _ _ _ _ (by decide), State.scRangeErr, State.fld_setFld_same, Nat.zero_mod]

theorem scRangeBegun_displaced (s : State) : (s.scRangeBegun 4).fld Fld.SC_RANGE_DISPLACED.LINES = 0 :=
  (State.fld_setFld_same _ Fld.SC_RANGE_DISPLACED.LINES 0).trans (Nat.zero_mod _)

theorem RangeShown.maintLine {s : State} {op : Nat} (h : s.RangeShown op) (line : Nat) : (s.scMaintLine op line).RangeShown op := by
  obtain ⟨hb, hs, hd, he, ho⟩ := h
  have k : SameFlds rangeFields s (s.scMaintLine op line) := (kept_State_scMaintLine s op line).sameFlds (by decide)
  exact ⟨(k.bit (by decide)).trans hb, (k.bit (by decide)).trans hs, (k.bit (by decide)).trans hd, (k _ (by decide)).trans he,
    (scMaintLine_running s op line).2.trans ho⟩

/-- An accepted range operation is shown, whatever it drains and recalls. -/
theorem scRange_shown {s : State} {op : Nat} (hb : s.bit Fld.SC_RANGE_STATUS.BUSY = false) (hr : ¬ s.scBadRange op)
    (hw : ¬ (op = 4 ∧ s.fld Fld.SC_PRELOAD_WAYS.WAYS = 0)) : (s.scRange op).RangeShown op := by
  rw [scRange_runs hb hr hw]
  split
  · exact scRangeBegun_shown s op
  · exact List.foldlRecOn (motive := fun t : State => t.RangeShown op) _ _ (scRangeBegun_shown s op) fun b hb l _ => RangeShown.maintLine hb l

section
variable {s : State} (ht : s.Takes Fld.SC_RANGE_CMD.OP.addr)
include ht

theorem exec_scRangeClean : exec .scRangeClean s = .next (s.scRange 1) := command_takes s _ (fun s => .next (s.scRange 1)) ht

theorem exec_scRangeInvalidate : exec .scRangeInvalidate s = .next (s.scRange 2) := command_takes s _ (fun s => .next (s.scRange 2)) ht

theorem exec_scRangeCleanInvalidate : exec .scRangeCleanInvalidate s = .next (s.scRange 3) :=
  command_takes s _ (fun s => .next (s.scRange 3)) ht

theorem exec_scPreload : exec .scPreload s = .next (s.scRange 4) := command_takes s _ (fun s => .next (s.scRange 4)) ht

theorem exec_scInvalidateWays : exec .scInvalidateWays s = .next (s.scRange 5) := command_takes s _ (fun s => .next (s.scRange 5)) ht

end

/-- A range within the installed HBM is not refused. -/
theorem not_scBadRange {s : State} (h0 : s.fld Fld.SC_RANGE_LEN.VALUE ≠ 0)
    (h : s.fld Fld.SC_RANGE_START.VALUE + s.fld Fld.SC_RANGE_LEN.VALUE ≤ s.hbmLines) (op : Nat) : ¬ s.scBadRange op := by
  rintro ⟨-, hz | hl⟩
  · exact h0 hz
  · exact absurd h (Nat.not_le.mpr hl)

/-! ### The ends of operations (R232 to R236) -/

theorem rangeEnded_sc (s : State) : s.rangeEnded.sc = { s.sc with rangeOp := none } := rfl

theorem rangeEnded_shown (s : State) : s.rangeEnded.bit Fld.SC_RANGE_STATUS.BUSY = false ∧
    s.rangeEnded.bit Fld.SC_STATUS.RANGE_BUSY = false ∧ s.rangeEnded.bit Fld.SC_RANGE_STATUS.DONE = true := by
  unfold State.rangeEnded
  refine ⟨?_, ?_, State.bit_setBit_same _ _ _ rfl⟩
  · rw [State.bit_setBit_ne _ _ _ _ (by decide), State.bit_setBit_ne _ _ _ _ (by decide), State.bit_setBit_same _ _ _ rfl]
  · rw [State.bit_setBit_ne _ _ _ _ (by decide), State.bit_setBit_same _ _ _ rfl]

/-- An invalidation removes the lines of the range from the array and the eviction structures. -/
theorem rangeWork_invalidates (s : State) {op : Nat} (h : op = 2 ∨ op = 3) :
    (s.rangeWork op).sc.lines = s.sc.lines.filter (fun p => !s.scInRange p.2.line) := by
  rcases h with rfl | rfl <;> rfl

theorem rangeWork_preload_one {s : State} (h : s.fld Fld.SC_RANGE_LEN.VALUE = 1) :
    s.rangeWork 4 = s.scPreloadLine (s.fld Fld.SC_RANGE_START.VALUE) := by
  simp [State.rangeWork, h]

theorem mem_tput_same {α : Type} (t : Tbl α) (k : Nat) (v : α) : (k, v) ∈ tput t k v := by
  induction t with
  | nil => simp [tput]
  | cons p r ih =>
    obtain ⟨i, a⟩ := p
    unfold tput
    split_ifs <;> simp [ih]

theorem evFind_evDrop (c : Sc) (line : Nat) : (c.evDrop line).evFind line = none := by
  simp only [Sc.evFind, Sc.evList, Sc.evDrop, tget_tput_same, Option.getD_some]
  exact List.find?_eq_none.mpr fun l hl => by simpa using (List.mem_filter.mp hl).2

/-- A line removed is in the array no more, and not in the eviction structures (R233). -/
theorem remove_held {c : Sc} {line k : Nat} (h : c.find line = some k) :
    (c.remove line).lines = tdel c.lines k ∧ (c.remove line).evFind line = none := by
  have hf : (c.evDrop line).find line = some k := h
  simp only [Sc.remove, hf]
  exact ⟨rfl, evFind_evDrop c line⟩

section
variable {c : Sc} {m : ScMaint}

theorem maintEnded_clean (h : m.op = 1) : (c.maintEnded m).lines = c.lines ∧ (c.maintEnded m).evict = c.evict := by
  unfold Sc.maintEnded
  rw [if_pos h]
  exact ⟨rfl, rfl⟩

variable (h : m.op ≠ 1)
include h

theorem maintEnded_line (he : m.entry = none) : c.maintEnded m = Sc.remove { c with maint := none } m.line := by
  simp only [Sc.maintEnded, if_neg h, he]

/-- An operation by set and way removes the entry while it holds the line that it held. -/
theorem maintEnded_entry {k : Nat} {l : ScLine} (he : m.entry = some k) (hl : tget c.lines k = some l) :
    (c.maintEnded m).lines = (if l.line = m.line then tdel c.lines k else c.lines) ∧ (c.maintEnded m).evict = c.evict := by
  simp only [Sc.maintEnded, if_neg h, he, hl, Option.map_some, Option.some.injEq]
  split <;> exact ⟨rfl, rfl⟩

end

theorem maintEnded_maint (c : Sc) (m : ScMaint) : (c.maintEnded m).maint = none := by
  unfold Sc.maintEnded
  dsimp only
  split
  · rfl
  · split
    · exact congrArg ScRest.maint (rest_remove { c with maint := none } m.line)
    · split <;> rfl

/-! ### Locks, the eviction path and initialization (R231, R232, R239) -/

theorem exec_scLockWrite (ways : Nat) (s : State) : exec (.scLockWrite ways) s = .next (s.scLock ways) := rfl

theorem scLock_busy {s : State} (hb : s.bit Fld.SC_RANGE_STATUS.BUSY = true) (ways : Nat) :
    s.scLock ways = s.setFld Fld.SC_RANGE_STATUS.ERR_CODE 1 := if_pos hb

section
variable {s : State} (hb : s.bit Fld.SC_RANGE_STATUS.BUSY = false) {ways : Nat}
include hb

theorem scLock_refused (h : 12 < (waysOf ways).length) : s.scLock ways = s.setBit Fld.SC_STATUS.LOCK_REFUSED true := by
  simp only [State.scLock, hb, Bool.false_eq_true, if_false]
  exact if_pos h

theorem scLock_taken (h : (waysOf ways).length ≤ 12) :
    s.scLock ways = (s.setFld Fld.SC_LOCK.WAYS ways).setFld Fld.SC_STATUS.LOCKED_WAYS (waysOf ways).length := by
  simp only [State.scLock, hb, Bool.false_eq_true, if_false]
  exact if_neg (by omega)

end

/-- The state as the invalidation walk ends, before the held requests are taken up. -/
def State.walkEnded (s : State) : State := (s.withSc { s.sc with held := [] }).setBit Fld.SC_STATUS.INIT_DONE true

theorem exec_scInitDone (s : State) :
    exec .scInitDone s = .next (s.sc.held.foldl (fun (st : State) w => st.scServe w) s.walkEnded) := rfl

theorem scInitDone_shown (s : State) (ws : List ScWait) :
    (ws.foldl (fun (st : State) w => st.scServe w) s.walkEnded).bit Fld.SC_STATUS.INIT_DONE = true ∧
    (ws.foldl (fun (st : State) w => st.scServe w) s.walkEnded).sc.held = [] := by
  refine ⟨?_, congrArg ScRest.held (rest_serveAll ws s.walkEnded)⟩
  refine List.foldlRecOn (motive := fun t : State => t.bit Fld.SC_STATUS.INIT_DONE = true) ws _ (State.bit_setBit_same _ _ _ rfl) ?_
  exact fun b hb w _ => ((kept_State_scServe b w).bit _ (by decide)).trans hb

/-! ### ECC errors (R240) -/

/-- The state as an uncorrectable error is counted and recorded. -/
def State.eccCounted (s : State) : State := (s.incFld Fld.SC_ECC_UNCORR 1).emit .scUncorrectable []

theorem eccCounted_uncorr (s : State) : s.eccCounted.fld Fld.SC_ECC_UNCORR = (s.fld Fld.SC_ECC_UNCORR + 1) % 2 ^ Fld.SC_ECC_UNCORR.width :=
  fld_incFld_same ..

theorem dirOf_tdel_same (c : Sc) (line : Nat) (r : Tbl (List ScWait)) :
    ({ c with dir := tdel c.dir line, recalls := r } : Sc).dirOf line = ⟨[], none⟩ := by
  simp only [Sc.dirOf, tget_tdel_same, Option.getD_none]

/-- An uncorrectable error of a word of a line in the array: the line goes, and a fill brings it back. -/
theorem exec_scEccError_held {s : State} {line k : Nat} (h : s.sc.find line = some k) : exec (.scEccError (.dataWord line) false) s =
    .next (s.eccCounted.withSc { s.sc with lines := tdel s.sc.lines k, fills := tput s.sc.fills line ⟨true, false, false, []⟩ }) := by
  have hf : s.eccCounted.sc.find line = some k := h
  show execScEccError (.dataWord line) false s = _
  simp only [execScEccError, Bool.false_eq_true, if_false]
  rw [← State.eccCounted, hf]
  rfl

theorem exec_scEccError_absent {s : State} {line : Nat} (h : s.sc.find line = none) :
    exec (.scEccError (.dataWord line) false) s = .next s.eccCounted := by
  have hf : s.eccCounted.sc.find line = none := h
  show execScEccError (.dataWord line) false s = _
  simp only [execScEccError, Bool.false_eq_true, if_false]
  rw [← State.eccCounted, hf]

/-- Settles O43: a start is shown by its lemma, an end is the change of lines that the clause names, a refusal is the field that shows it. -/
theorem stripeCacheMaintenanceTakesEffect : Obligations.StripeCacheMaintenanceTakesEffect := by
  refine ⟨?clean, ?invalidate, ?cleanInvalidate, ?rangeClean, ?rangeInvalidate, ?rangeCleanInvalidate, ?preload, ?invalidateWays, ?rangeDone,
    ?maintDone, ?lock, ?switches, ?initDone, ?corrected, ?tagError, ?cleanWay, ?cleanBusy, ?invalidateWay, ?invalidateBusy, ?cleanInvalidateWay,
    ?cleanInvalidateBusy, ?rangeCleanBusy, ?rangeCleanBad, ?rangeInvalidateBusy, ?rangeInvalidateBad, ?rangeCleanInvalidateBusy,
    ?rangeCleanInvalidateBad, ?preloadBusy, ?preloadBad, ?invalidateWaysBusy, ?preloadNoWays, ?rangeWaits, ?rangeCleaned, ?rangeInvalidated,
    ?preloaded, ?waysInvalidated, ?maintWaits, ?cleaned, ?lineInvalidated, ?entryInvalidated, ?lockBusy, ?lockRefused, ?sameSwitch, ?switchBusy,
    ?heldRead, ?heldAll, ?dataError, ?dataAbsent, ?evictError, ?mergeError, ?sliceError⟩
  case clean => exact fun s ht hb => ⟨_, exec_scMaintClean ht false, scMaint_shown hb 1 false⟩
  case invalidate => exact fun s ht hb => ⟨_, exec_scMaintInvalidate ht false, scMaint_shown hb 2 false⟩
  case cleanInvalidate => exact fun s ht hb => ⟨_, exec_scMaintCleanInvalidate ht false, scMaint_shown hb 3 false⟩
  case cleanWay => exact fun s ht hb => ⟨_, exec_scMaintClean ht true, scMaint_shown hb 1 true⟩
  case invalidateWay => exact fun s ht hb => ⟨_, exec_scMaintInvalidate ht true, scMaint_shown hb 2 true⟩
  case cleanInvalidateWay => exact fun s ht hb => ⟨_, exec_scMaintCleanInvalidate ht true, scMaint_shown hb 3 true⟩
  case cleanBusy => exact fun s byWay ht hb => ⟨_, exec_scMaintClean ht byWay, scMaint_busy hb 1 byWay⟩
  case invalidateBusy => exact fun s byWay ht hb => ⟨_, exec_scMaintInvalidate ht byWay, scMaint_busy hb 2 byWay⟩
  case cleanInvalidateBusy => exact fun s byWay ht hb => ⟨_, exec_scMaintCleanInvalidate ht byWay, scMaint_busy hb 3 byWay⟩
  case rangeClean => exact fun s ht hb h0 h => ⟨_, exec_scRangeClean ht, scRange_shown hb (not_scBadRange h0 h 1) (by simp)⟩
  case rangeInvalidate => exact fun s ht hb h0 h => ⟨_, exec_scRangeInvalidate ht, scRange_shown hb (not_scBadRange h0 h 2) (by simp)⟩
  case rangeCleanInvalidate =>
    exact fun s ht hb h0 h => ⟨_, exec_scRangeCleanInvalidate ht, scRange_shown hb (not_scBadRange h0 h 3) (by simp)⟩
  case preload =>
    intro s ht hb h0 h hw
    have hr : s.scRange 4 = s.scRangeBegun 4 := scRange_runs hb (not_scBadRange h0 h 4) (by simp [hw])
    obtain ⟨hbusy, -, -, -, hop⟩ := scRangeBegun_shown s 4
    exact ⟨_, (exec_scPreload ht).trans (congrArg _ hr), hbusy, hop, scRangeBegun_displaced s⟩
  case invalidateWays =>
    intro s ht hb
    obtain ⟨hbusy, -, -, -, hop⟩ := scRange_shown (op := 5) hb (fun h => h.1 rfl) (by simp)
    exact ⟨_, exec_scInvalidateWays ht, hbusy, hop⟩
  case rangeCleanBusy => exact fun s ht hb => ⟨_, exec_scRangeClean ht, scRange_busy hb 1⟩
  case rangeInvalidateBusy => exact fun s ht hb => ⟨_, exec_scRangeInvalidate ht, scRange_busy hb 2⟩
  case rangeCleanInvalidateBusy => exact fun s ht hb => ⟨_, exec_scRangeCleanInvalidate ht, scRange_busy hb 3⟩
  case preloadBusy => exact fun s ht hb => ⟨_, exec_scPreload ht, scRange_busy hb 4⟩
  case invalidateWaysBusy => exact fun s ht hb => ⟨_, exec_scInvalidateWays ht, scRange_busy hb 5⟩
  case rangeCleanBad => exact fun s ht hb hr => ⟨_, exec_scRangeClean ht, scRange_badRange hb ⟨by decide, hr⟩⟩
  case rangeInvalidateBad => exact fun s ht hb hr => ⟨_, exec_scRangeInvalidate ht, scRange_badRange hb ⟨by decide, hr⟩⟩
  case rangeCleanInvalidateBad => exact fun s ht hb hr => ⟨_, exec_scRangeCleanInvalidate ht, scRange_badRange hb ⟨by decide, hr⟩⟩
  case preloadBad => exact fun s ht hb hr => ⟨_, exec_scPreload ht, scRange_badRange hb ⟨by decide, hr⟩⟩
  case preloadNoWays =>
    exact fun s ht hb h0 h hw => ⟨_, exec_scPreload ht, scRange_noWays hb (not_scBadRange h0 h 4) ⟨rfl, hw⟩⟩
  case rangeDone =>
    intro s op ho hq
    exact ⟨_, execScRangeDone_ends ho hq, congrArg Sc.rangeOp (rangeEnded_sc _), rangeEnded_shown _⟩
  case rangeWaits =>
    rintro s op (ho | ⟨ho, hq⟩)
    · exact ⟨s, execScRangeDone_none ho, rfl⟩
    · exact ⟨s, execScRangeDone_waits ho hq, rfl⟩
  case rangeCleaned => exact fun s ho hq => ⟨_, execScRangeDone_ends ho hq, rfl, rfl⟩
  case rangeInvalidated =>
    intro s op ho h hq
    have hl : (s.rangeWork op).rangeEnded.sc.lines = _ := rangeWork_invalidates s h
    refine ⟨_, execScRangeDone_ends ho hq, fun k l hkl => ?_, fun k l hkl hr => ?_⟩
    · rw [hl, List.mem_filter] at hkl
      simpa using hkl.2
    · rw [hl, List.mem_filter]
      exact ⟨hkl, by simpa using hr⟩
  case preloaded =>
    intro s ho hlen hf
    obtain ⟨k, p, ev, h⟩ := scPreloadLine_sc hf
    refine ⟨_, execScRangeDone_ends ho rfl, k, ⟨_, s.sc.mem _, false⟩, ?_, rfl, rfl, rfl⟩
    rw [rangeEnded_sc, rangeWork_preload_one hlen, h]
    exact mem_tput_same ..
  case waysInvalidated =>
    intro s ho
    refine ⟨_, execScRangeDone_ends ho rfl, fun k l => List.mem_filter.trans (and_congr_right fun _ => ?_)⟩
    exact iff_of_eq (Bool.not_eq_true' _)
  case maintDone =>
    intro s m hm hq
    exact ⟨_, execScMaintDone_ends hm hq, maintEnded_maint .., State.bit_setBit_same _ _ _ rfl⟩
  case maintWaits =>
    rintro s m (hm | ⟨hm, hq⟩)
    · exact ⟨s, execScMaintDone_none hm, rfl⟩
    · exact ⟨s, execScMaintDone_waits hm hq, rfl⟩
  case cleaned =>
    intro s m hm h1 hq
    exact ⟨_, execScMaintDone_ends hm hq, maintEnded_clean h1⟩
  case lineInvalidated =>
    intro s m k hm h1 he hq hf
    have h : s.sc.maintEnded m = Sc.remove { s.sc with maint := none } m.line := maintEnded_line h1 he
    obtain ⟨hl, hev⟩ := remove_held (c := { s.sc with maint := none }) hf
    exact ⟨_, execScMaintDone_ends hm hq, (congrArg Sc.lines h).trans hl, (congrArg (Sc.evFind · m.line) h).trans hev⟩
  case entryInvalidated =>
    intro s m k l hm h1 he hq hl
    obtain ⟨hlines, hev⟩ := maintEnded_entry h1 he hl
    exact ⟨_, execScMaintDone_ends hm hq, hlines, hev⟩
  case lock =>
    intro s ways hb h
    refine ⟨_, (exec_scLockWrite ..).trans (congrArg _ (scLock_taken hb h)), ?_, ?_⟩
    · rw [State.fld_setFld_ne _ _ _ _ (by decide), State.fld_setFld_same]
      rfl
    · rw [State.fld_setFld_same]
      exact Nat.mod_eq_of_lt (Nat.lt_of_le_of_lt h (by decide))
  case lockBusy => exact fun s ways hb => ⟨_, rfl, scLock_busy hb ways⟩
  case lockRefused => exact fun s ways hb h => ⟨_, rfl, scLock_refused hb h⟩
  case switches =>
    intro s path hb hne
    exact ⟨_, congrArg Host.Outcome.next ((if_neg hne).trans (if_neg (by simp [hb]))), State.bit_setBit_same _ _ _ rfl, rfl⟩
  case sameSwitch => exact fun s path h => ⟨_, rfl, if_pos h⟩
  case switchBusy => exact fun s path hb hne => ⟨_, rfl, (if_neg hne).trans (if_pos hb)⟩
  case initDone => exact fun s _ => ⟨_, exec_scInitDone s, (scInitDone_shown s _).1⟩
  case heldAll => exact fun s => ⟨_, exec_scInitDone s, scInitDone_shown s _⟩
  case heldRead =>
    intro s req line word hw ho hf he hfill
    obtain ⟨hdone, hheld⟩ := scInitDone_shown s [.read req line word]
    have h := (scRead_miss (s := s.walkEnded) req word ho hf he hfill).2
    exact ⟨_, by rw [exec_scInitDone, hw], hdone, hheld, _, h, rfl⟩
  case corrected => exact fun s place => ⟨_, rfl, fld_incFld_same ..⟩
  case tagError =>
    intro s set
    exact ⟨_, rfl, eccCounted_uncorr s, fun k l hkl => by simpa using (List.mem_filter.mp hkl).2⟩
  case dataError =>
    intro s line k hf
    exact ⟨_, exec_scEccError_held hf, eccCounted_uncorr s, rfl, by simp only [State.withSc, tget_tput_same, Option.isSome_some]⟩
  case dataAbsent => exact fun s line hf => ⟨_, exec_scEccError_absent hf, eccCounted_uncorr s, rfl⟩
  case evictError => exact fun s line => ⟨_, rfl, eccCounted_uncorr s, evFind_evDrop s.sc line, rfl⟩
  case mergeError =>
    intro s line
    exact ⟨_, rfl, eccCounted_uncorr s, List.find?_eq_none.mpr fun e he => by simpa using (List.mem_filter.mp he).2, rfl⟩
  case sliceError =>
    intro s line
    exact ⟨_, rfl, eccCounted_uncorr s, dirOf_tdel_same s.sc line _, tget_tdel_same ..⟩

end Sys2Proof.Machine

/-!
The DMA engine (O44) and the registers that the firmware owns (O18): fields of one bank of indexed registers do not meet, a trigger, a fetch,
a halt and an end of a descriptor are said once each for one channel, and so is a write of a window's control word.
-/
namespace Sys2Proof.Machine

/-! ### Fields of banks of indexed registers (R7) -/

/-- A check that a field is none of an indexed one, at whatever number: their bits differ, or their places in the stretch of addresses after
which the indexed register repeats. -/
def Field.offFrom (g f : Field) : Bool :=
  decide (g.lsb < 4096) && decide (f.lsb < 4096) && decide (f.stride ∣ g.stride) && decide (f.stride ∣ 0x100000000) &&
  (g.lsb != f.lsb || g.addr % f.stride != f.addr % f.stride)

theorem addr_at_mod {f : Field} {d : Nat} (hd : d ∣ f.stride) (h : d ∣ 0x100000000) (i : Nat) : (f.at i).addr % d = f.addr % d := by
  have hi : (f.addr + i * f.stride) % d = f.addr % d := by rw [Nat.add_mod, Nat.mod_eq_zero_of_dvd (hd.mul_left i), Nat.add_zero, Nat.mod_mod]
  simp only [Field.at]
  split
  · exact hi
  · rw [Nat.add_assoc, Nat.add_mod, Nat.mod_eq_zero_of_dvd h, Nat.zero_add, Nat.mod_mod, hi]

theorem Field.not_instOf_at {g f : Field} (h : g.offFrom f = true) (i : Nat) : ¬ g.instOf (f.at i) := by
  simp only [Field.offFrom, Bool.and_eq_true, decide_eq_true_eq, Bool.or_eq_true, bne_iff_ne] at h
  obtain ⟨⟨⟨⟨hg, hf⟩, hd⟩, h32⟩, hne⟩ := h
  have apart : ∀ a, a % f.stride = g.addr % f.stride → (f.at i).key ≠ a * 4096 + g.lsb := fun a ha e => by
    have e' : (f.at i).addr * 4096 + f.lsb = a * 4096 + g.lsb := e
    have haddr : (f.at i).addr = a := by omega
    have hmod := addr_at_mod (dvd_refl f.stride) h32 i
    rcases hne with hne | hne
    · omega
    · exact hne (by rw [← ha, ← haddr, hmod])
  rintro (e | ⟨j, e⟩)
  · exact apart _ rfl e
  · exact apart _ (addr_at_mod hd h32 j) e

theorem Kept.fldAt {l : List Field} {s t : State} (k : Kept l s t) {f : Field} (i : Nat) (h : l.all (fun g => g.offFrom f) = true) :
    t.fld (f.at i) = s.fld (f.at i) :=
  k _ fun g hg => Field.not_instOf_at (List.all_eq_true.mp h g hg) i

theorem Kept.bitAt {l : List Field} {s t : State} (k : Kept l s t) {f : Field} (i : Nat) (h : l.all (fun g => g.offFrom f) = true) :
    t.bit (f.at i) = s.bit (f.at i) := by
  simp only [State.bit, k.fldAt i h]

theorem fld_setFld_off (s : State) {f g : Field} (i j v : Nat) (h : g.offFrom f = true) :
    (s.setFld (g.at j) v).fld (f.at i) = s.fld (f.at i) :=
  State.fld_setFld_ne _ _ _ _ fun e => Field.not_instOf_at h i (.inr ⟨j, e⟩)

theorem bit_setFld_off (s : State) {f g : Field} (i j v : Nat) (h : g.offFrom f = true) :
    (s.setFld (g.at j) v).bit (f.at i) = s.bit (f.at i) := by
  simp only [State.bit, fld_setFld_off s i j v h]

theorem fld_satFld_same (s : State) (f : Field) (n : Nat) : (s.satFld f n).fld f = min (s.fld f + n) (2 ^ f.width - 1) := by
  rw [State.satFld, State.fld_setFld_same, Nat.mod_eq_of_lt]
  have := Nat.two_pow_pos f.width
  omega

/-! ### Refusals by the owner (R243, R312, R469) -/

theorem addr_at {f : Field} {i : Nat} (h : i < f.count) : (f.at i).addr = f.addr + i * f.stride := if_pos h

theorem firmwareOwned_channel {n : Nat} (h : n < 64) :
    firmwareOwned (Fld.CH_CTRL.EN.at n).addr = true ∧ firmwareOwned (Fld.CH_DESC_PTR.ADDR.at n).addr = true := by
  have hen : (Fld.CH_CTRL.EN.at n).addr = 0x704000 + n * 64 := addr_at (Nat.lt_trans h (by decide))
  have hptr : (Fld.CH_DESC_PTR.ADDR.at n).addr = 0x704010 + n * 64 := addr_at (Nat.lt_trans h (by decide))
  simp only [firmwareOwned, hen, hptr, Bool.or_eq_true, Bool.and_eq_true, decide_eq_true_eq]
  omega

theorem firmwareOwned_hostChannel {n : Nat} (h : 64 ≤ n) (hn : n < 256) : firmwareOwned (Fld.CH_CTRL.EN.at n).addr = false := by
  have hen : (Fld.CH_CTRL.EN.at n).addr = 0x704000 + n * 64 := addr_at hn
  simp only [firmwareOwned, hen, Fld.CAPO_RENEW, Bool.or_eq_false_iff, Bool.and_eq_false_iff, decide_eq_false_iff_not, beq_eq_false_iff_ne]
  omega

theorem firmwareOwned_window {w : Nat} (h : w < 8) : firmwareOwned (Fld.WIN_CTRL.EN.at w).addr = true := by
  have hen : (Fld.WIN_CTRL.EN.at w).addr = 0x701010 + w * 32 := addr_at (Nat.lt_trans h (by decide))
  simp only [firmwareOwned, hen, Bool.or_eq_true, Bool.and_eq_true, decide_eq_true_eq]
  omega

theorem firmwareOwned_hostWindow {w : Nat} (h : 8 ≤ w) (hw : w < 32) : firmwareOwned (Fld.WIN_CTRL.EN.at w).addr = false := by
  have hen : (Fld.WIN_CTRL.EN.at w).addr = 0x701010 + w * 32 := addr_at hw
  simp only [firmwareOwned, hen, Fld.CAPO_RENEW, Bool.or_eq_false_iff, Bool.and_eq_false_iff, decide_eq_false_iff_not, beq_eq_false_iff_ne]
  omega

/-- An accessible register of the firmware's refuses the other interfaces with reason 3. -/
theorem refuseWrite_owned {s : State} {iface : Iface} {addr : Nat} (hr : s.refuseRead iface addr = 0) (ho : firmwareOwned addr = true)
    (hi : iface ≠ .firmware) : s.refuseWrite iface addr = 3 := by
  simp [State.refuseWrite, hr, ho, hi]

theorem refused_owner (s : State) (iface : Iface) (addr : Nat) : s.refused iface 3 addr = s.busError iface 3 (addr % 2 ^ 26) := rfl

/-- Settles O18: the write is refused by its owner before it is looked at, and the ranges of addresses are R243's. -/
theorem firmwareRegistersRefuseOthers : Obligations.FirmwareRegistersRefuseOthers := by
  refine ⟨fun s iface addr value hm hr ho hi => ?_, fun n h => firmwareOwned_channel h, fun n h hn => firmwareOwned_hostChannel h hn,
    fun w h => firmwareOwned_window h, fun w h hw => firmwareOwned_hostWindow h hw, rfl⟩
  have hw : (s.busWrite iface addr value).2 = s.busError iface 3 (addr % 2 ^ 26) := by
    rw [busWrite_refused value (refuseWrite_owned hr ho hi) (by decide), refused_owner]
  refine ⟨_, (execRegisterWrite_managed hm ..).trans (congrArg _ hw), ?_⟩
  exact ⟨only_State_busError _ _ _ _, kept_State_busError _ _ _ _, busError_bit_err .., busError_reason _ _ _ _ (by decide), busError_iface ..⟩

/-! ### Triggers (R251, R252) -/

/-- A channel runs, and its fetch of a descriptor at an address has begun. -/
def State.Fetches (s : State) (n addr : Nat) : Prop :=
  s.chState n = 1 ∧ ∃ r, tget s.dma.runs n = some r ∧ r.phase = .fetch ∧ r.addr = addr

theorem dmaBegin_fetches (s : State) (n addr : Nat) : (s.dmaBegin n addr).Fetches n addr := by
  refine ⟨?_, _, tget_tput_same .., rfl, rfl⟩
  have k : ∀ u : State, ((((u.setFld (Fld.CH_CUR_DESC.ADDR.at n) (addr / 64)).setFld (Fld.CH_STATUS.HALT_CODE.at n) 0).setFld
      (Fld.CH_BYTES.at n) 0).chState n) = u.chState n := fun u =>
    (fld_setFld_off _ n n 0 (by decide)).trans ((fld_setFld_off _ n n 0 (by decide)).trans (fld_setFld_off u n n _ (by decide)))
  exact (k _).trans (State.fld_setFld_same ..)

theorem dmaBegin_haltCode (s : State) (n addr : Nat) : (s.dmaBegin n addr).fld (Fld.CH_STATUS.HALT_CODE.at n) = 0 :=
  (fld_setFld_off _ n n 0 (by decide)).trans ((State.fld_setFld_same ..).trans (Nat.zero_mod _))

theorem dmaTrigger_disabled {s : State} {n : Nat} (h : s.bit (Fld.CH_CTRL.EN.at n) = false) (start : Bool) : s.dmaTrigger n start = s := by
  simp [State.dmaTrigger, h]

section
variable {s : State} {n : Nat} (hen : s.bit (Fld.CH_CTRL.EN.at n) = true)
include hen

theorem dmaTrigger_idle (h : s.chState n = 0) (start : Bool) : s.dmaTrigger n start = s.dmaBegin n (s.dmaNext n) := by
  simp [State.dmaTrigger, hen, h]

/-- A START resumes a halted or stalled channel, and every event a stalled one. -/
theorem dmaTrigger_resumes {start : Bool} (h : s.chState n = 3 ∨ (s.chState n = 2 ∧ start)) :
    s.dmaTrigger n start = s.dmaBegin n (s.addrFld (Fld.CH_CUR_DESC.ADDR.at n)) := by
  have h0 : s.chState n ≠ 0 := by omega
  simp only [State.dmaTrigger, hen, h0, h, Bool.not_true, Bool.false_eq_true, if_false, if_true]

variable {start : Bool} (h : s.chState n = 1 ∨ (s.chState n = 2 ∧ start = false))
include h

/-- An event on a channel that neither begins nor resumes is counted. -/
theorem dmaTrigger_pends (hp : s.fld (Fld.CH_STATUS.PENDING.at n) < 255) :
    s.dmaTrigger n start = s.incFld (Fld.CH_STATUS.PENDING.at n) 1 := by
  have h0 : s.chState n ≠ 0 := by omega
  have hr : ¬ (s.chState n = 3 ∨ (s.chState n = 2 ∧ start = true)) := by
    rcases h with h | ⟨h, rfl⟩ <;> simp [h]
  simp only [State.dmaTrigger, hen, h0, hr, hp, Bool.not_true, Bool.false_eq_true, if_false, if_true]

/-- With 255 events pending one more is missed. -/
theorem dmaTrigger_misses (hp : s.fld (Fld.CH_STATUS.PENDING.at n) = 255) :
    s.dmaTrigger n start = (s.setBit (Fld.CH_STATUS.MISSED.at n) true).satFld (Fld.CH_MISSED_COUNT.at n) 1 := by
  have h0 : s.chState n ≠ 0 := by omega
  have hr : ¬ (s.chState n = 3 ∨ (s.chState n = 2 ∧ start = true)) := by
    rcases h with h | ⟨h, rfl⟩ <;> simp [h]
  simp only [State.dmaTrigger, hen, h0, hr, hp, Nat.lt_irrefl, Bool.not_true, Bool.false_eq_true, if_false]

end

/-- A channel with one more event pending than before, otherwise as it was. -/
def State.PendsOneMore (s t : State) (n : Nat) : Prop :=
  t.chState n = s.chState n ∧ t.dma = s.dma ∧ t.fld (Fld.CH_STATUS.PENDING.at n) = s.fld (Fld.CH_STATUS.PENDING.at n) + 1

theorem pending_counted {s : State} {n : Nat} (hp : s.fld (Fld.CH_STATUS.PENDING.at n) < 255) :
    s.PendsOneMore (s.incFld (Fld.CH_STATUS.PENDING.at n) 1) n :=
  ⟨fld_setFld_off s n n _ (by decide), rfl, (fld_incFld_same ..).trans (Nat.mod_eq_of_lt (Nat.succ_lt_succ hp))⟩

/-- A channel that has missed an event: the miss is flagged and counted, and the channel goes on as it was. -/
structure State.Misses (s t : State) (n : Nat) : Prop where
  state : t.chState n = s.chState n
  dma : t.dma = s.dma
  pending : t.fld (Fld.CH_STATUS.PENDING.at n) = s.fld (Fld.CH_STATUS.PENDING.at n)
  missed : t.bit (Fld.CH_STATUS.MISSED.at n) = true
  counted : t.fld (Fld.CH_MISSED_COUNT.at n) = min (s.fld (Fld.CH_MISSED_COUNT.at n) + 1) (2 ^ Fld.CH_MISSED_COUNT.width - 1)

theorem missed_counted (s : State) (n : Nat) :
    s.Misses ((s.setBit (Fld.CH_STATUS.MISSED.at n) true).satFld (Fld.CH_MISSED_COUNT.at n) 1) n where
  state := (fld_setFld_off _ n n _ (by decide)).trans (fld_setFld_off s n n _ (by decide))
  dma := rfl
  pending := (fld_setFld_off _ n n _ (by decide)).trans (fld_setFld_off s n n _ (by decide))
  missed := (bit_setFld_off _ n n _ (by decide)).trans (State.bit_setBit_same _ _ _ rfl)
  counted := (fld_satFld_same ..).trans (by rw [State.setBit, fld_setFld_off s n n _ (by decide)]; rfl)

section
variable {s : State} {iface : Iface} {ch : ChId} (ht : s.Takes (Fld.CH_CMD.START.at ch.val).addr)
include ht

theorem exec_dmaStart (ho : dmaOwnedByFw iface ch.val 64 = false) : exec (.dmaStart iface ch) s = .next (s.dmaTrigger ch.val true) := by
  show execDmaStart iface ch s = _
  rw [execDmaStart, command_takes s _ _ ht, ho]
  rfl

theorem exec_dmaStart_owned (ho : dmaOwnedByFw iface ch.val 64 = true) :
    exec (.dmaStart iface ch) s = .next (s.busError iface 3 (Fld.CH_CMD.START.at ch.val).addr) := by
  show execDmaStart iface ch s = _
  rw [execDmaStart, command_takes s _ _ ht, ho]
  rfl

end

/-- The timer of a channel is due: the clocks run, and the channel is triggered by a timer with a period (R251, R259). -/
def State.TimerRuns (s : State) (ch : ChId) : Prop :=
  s.pwr.fast = .running ∧ s.fld (Fld.CH_CTRL.TRIG.at ch.val) = 1 ∧ s.fld (Fld.CH_TIMER.PERIOD_US.at ch.val) ≠ 0

theorem exec_dmaTimer {s : State} {ch : ChId} (h : s.TimerRuns ch) : exec (.dmaTimer ch) s = .next (s.dmaTrigger ch.val false) := if_pos h

theorem exec_dmaTimer_paused {s : State} {ch : ChId} (h : ¬ s.TimerRuns ch) : exec (.dmaTimer ch) s = .next s := if_neg h

/-! ### Stops and ends of descriptors (R254, R255, R256, R258) -/

/-- An interrupt leaves the channels' descriptors. -/
theorem dmaIrq_runs (s : State) (n : Nat) : (s.dmaIrq n).dma.runs = s.dma.runs := by
  simp only [State.dmaIrq]
  split
  · rfl
  · split <;> split <;> rfl

theorem dmaErrIrq_runs (s : State) (n : Nat) : (s.dmaErrIrq n).dma.runs = s.dma.runs := by
  unfold State.dmaErrIrq
  split
  · exact dmaIrq_runs s n
  · rfl

theorem dmaHalted_halts (s : State) (n : Nat) {code : Nat} (hc : code < 16) : (s.dmaHalted n code).chState n = 2 ∧
    (s.dmaHalted n code).fld (Fld.CH_STATUS.HALT_CODE.at n) = code ∧ tget (s.dmaHalted n code).dma.runs n = none := by
  refine ⟨?_, ?_, ?_⟩
  · exact ((kept_State_dmaErrIrq _ n).fldAt n (by decide)).trans ((fld_setFld_off _ n n code (by decide)).trans (State.fld_setFld_same ..))
  · exact ((kept_State_dmaErrIrq _ n).fldAt n (by decide)).trans ((State.fld_setFld_same ..).trans (Nat.mod_eq_of_lt hc))
  · rw [State.dmaHalted, dmaErrIrq_runs]
    exact tget_tdel_same ..

/-- The fields that the end of a descriptor may change after it has been counted. -/
abbrev dmaEndFields : List Field :=
  [Fld.CH_BYTES, Fld.CH_CUR_DESC.ADDR, Fld.CH_STATUS.HALT_CODE, Fld.CH_STATUS.PENDING, Fld.CH_STATUS.STATE, Fld.CH_STATUS.MISSED,
    Fld.CH_MISSED_COUNT, Fld.DMA_IRQ]

theorem dmaBad_counted (s : State) (n : Nat) (r : DmaRun) (code bytes : Nat) :
    (s.dmaBad n r code bytes).bit (Fld.CH_STATUS.BAD_SEEN.at n) = true ∧ (s.dmaBad n r code bytes).fld (Fld.CH_BAD_COUNT.at n) =
      min (s.fld (Fld.CH_BAD_COUNT.at n) + 1) (2 ^ Fld.CH_BAD_COUNT.width - 1) := by
  have hs := (kept_State_dmaStatus s n r.addr bytes (2 + code * 4)).fldAt (f := Fld.CH_BAD_COUNT) n rfl
  unfold State.dmaBad
  dsimp only
  generalize s.dmaStatus n r.addr bytes (2 + code * 4) = u at hs ⊢
  have k : ∀ v : State, Kept dmaEndFields v (((v.setFld (Fld.CH_BYTES.at n) bytes).dmaErrIrq n).dmaAfter n r.desc) := fun v =>
    Kept.step (kept_State_dmaAfter _ n r.desc) (by decide) (Kept.step (kept_State_dmaErrIrq _ n) (by decide) (Kept.setFldAt (by decide) Kept.refl))
  refine ⟨((k _).bitAt n (by decide)).trans ?_, ((k _).fldAt n (by decide)).trans ?_⟩
  · exact (bit_setFld_off _ n n _ (by decide)).trans (State.bit_setBit_same _ _ _ rfl)
  · rw [fld_satFld_same, State.setBit, fld_setFld_off _ n n _ (by decide), hs]
    rfl

theorem dmaDone_counted (s : State) (n : Nat) (r : DmaRun) : (s.dmaDone n r).fld (Fld.CH_DONE_COUNT.at n) =
    min (s.fld (Fld.CH_DONE_COUNT.at n) + 1) (2 ^ Fld.CH_DONE_COUNT.width - 1) := by
  have hs := (kept_State_dmaStatus s n r.addr r.desc.len 1).fldAt (f := Fld.CH_DONE_COUNT) n rfl
  unfold State.dmaDone
  dsimp only
  generalize s.dmaStatus n r.addr r.desc.len 1 = u at hs ⊢
  have irq : ∀ v : State, Kept dmaEndFields v (if r.desc.ctl 14 then v.dmaIrq n else v) := fun v =>
    Kept.ite ((kept_State_dmaIrq v n).mono (by decide)) Kept.refl
  have chain : ∀ v : State, Kept dmaEndFields v (if r.desc.ctl 15 then
      (List.range 256).foldl (fun (st : State) (c : Nat) =>
        if st.fld (Fld.CH_CTRL.TRIG.at c) = 3 ∧ st.fld (Fld.CH_CTRL.CHAIN_SRC.at c) = n then st.dmaTrigger c false else st) v
      else v) := fun v =>
    Kept.ite (Kept.foldl (fun _ c hb => Kept.ite (Kept.step (kept_State_dmaTrigger _ c false) (by decide) hb) hb) Kept.refl) Kept.refl
  have k : Kept dmaEndFields (u.satFld (Fld.CH_DONE_COUNT.at n) 1) _ :=
    Kept.step (kept_State_dmaAfter _ n r.desc) (by decide) (Kept.step (chain _) (by decide) (Kept.step (irq _) (by decide)
      (Kept.setFldAt (g := Fld.CH_BYTES) (i := n) (v := r.desc.len) (by decide) Kept.refl)))
  exact (k.fldAt n (by decide)).trans ((fld_satFld_same ..).trans (by rw [hs]; rfl))

/-- A dropped channel is off and idle, with nothing pending and no descriptor. -/
theorem dmaDrop_drops (s : State) (n : Nat) : (s.dmaDrop n).bit (Fld.CH_CTRL.EN.at n) = false ∧ (s.dmaDrop n).chState n = 0 ∧
    (s.dmaDrop n).fld (Fld.CH_STATUS.PENDING.at n) = 0 ∧ tget (s.dmaDrop n).dma.runs n = none := by
  unfold State.dmaDrop
  dsimp only
  refine ⟨?_, ?_, (State.fld_setFld_same ..).trans (Nat.zero_mod _), tget_tdel_same ..⟩
  · exact (bit_setFld_off _ n n _ (by decide)).trans ((bit_setFld_off _ n n _ (by decide)).trans (State.bit_setBit_same _ _ _ rfl))
  · exact (fld_setFld_off _ n n _ (by decide)).trans ((State.fld_setFld_same ..).trans (Nat.zero_mod _))

/-! ### The commands of a channel's descriptor (R245, R248, R254 to R258) -/

/-- A channel without a descriptor in a phase: where it has one, that is in another phase. -/
theorem phase_ne_of_map {s : State} {n : Nat} {p : DmaPhase} (h : (tget s.dma.runs n).map (·.phase) ≠ some p) {r : DmaRun}
    (hr : tget s.dma.runs n = some r) : r.phase ≠ p := fun e => h (by rw [hr, Option.map_some, e])

theorem exec_dmaDescFetch_notDue {s : State} {ch : ChId} (h : (tget s.dma.runs ch.val).map (·.phase) ≠ some .fetch) (bytes : List Nat) :
    exec (.dmaDescFetch ch bytes) s = .next s := by
  show execDmaDescFetch ch bytes s = _
  unfold execDmaDescFetch
  split
  · rfl
  · next r hr => exact if_pos (phase_ne_of_map h hr)

theorem exec_dmaGrant_notDue {s : State} {ch : ChId} (h : (tget s.dma.runs ch.val).map (·.phase) ≠ some .move ∨ s.dmaTurn ≠ some ch.val)
    (src : List Nat) : exec (.dmaGrant ch src) s = .next s := by
  show execDmaGrant ch src s = _
  unfold execDmaGrant
  split
  · rfl
  · next r hr => exact if_pos (h.imp_left fun h => phase_ne_of_map h hr)

theorem exec_dmaReadBack_notDue {s : State} {ch : ChId} (h : (tget s.dma.runs ch.val).map (·.phase) ≠ some .readBack) (ok : Bool) :
    exec (.dmaReadBack ch ok) s = .next s := by
  show execDmaReadBack ch ok s = _
  unfold execDmaReadBack
  split
  · rfl
  · next r hr => exact if_pos (phase_ne_of_map h hr)

theorem exec_dmaBusError_notDue {s : State} {ch : ChId} (h : (tget s.dma.runs ch.val).map (·.phase) ≠ some .move) (dest : Bool)
    (confirmed : Nat) : exec (.dmaBusError ch dest confirmed) s = .next s := by
  show execDmaBusError ch dest confirmed s = _
  unfold execDmaBusError
  split
  · rfl
  · next r hr => exact if_pos (phase_ne_of_map h hr)

theorem exec_dmaHalt_notDue {s : State} {ch : ChId} {code : Nat} (h : tget s.dma.runs ch.val = none ∨ code = 0 ∨ 3 < code) :
    exec (.dmaHalt ch code) s = .next s := by
  show execDmaHalt ch code s = _
  unfold execDmaHalt
  split
  · rfl
  · next r hr =>
    refine if_neg ?_
    have hc := h.resolve_left (by simp [hr])
    omega

/-- CH_BYTES is set or left as the last step of a grant, apart from the engine's own state. -/
theorem dma_ite_setFld (s : State) (f : Field) (v : Nat) (c : Prop) [Decidable c] : (if c then s.setFld f v else s).dma = s.dma := by
  split <;> rfl

section
variable {s : State} {ch : ChId} {r : DmaRun} (hr : tget s.dma.runs ch.val = some r)
include hr

theorem exec_dmaReadBack {ok : Bool} (hp : r.phase = .readBack) : exec (.dmaReadBack ch ok) s =
    .next (if ok then s.dmaDone ch.val r else s.used.dmaBad ch.val r 5 (s.free 32).toNat) := by
  show execDmaReadBack ch ok s = _
  simp only [execDmaReadBack, hr, hp, ne_eq, not_true_eq_false, if_false]
  cases ok <;> rfl

/-- A halt with a code of R256 that its channel's phase allows. -/
theorem exec_dmaHalt {code : Nat} (h : (code = 1 ∧ r.phase = .fetch) ∨ (code = 2 ∧ r.phase = .fetch ∧
      s.winAllows ch.val (s.fld (Fld.CH_CTRL.DESC_SPACE.at ch.val)) r.addr (r.addr + 64) true true = false) ∨
      (code = 3 ∧ r.phase = .readBack)) : exec (.dmaHalt ch code) s = .next (s.dmaHalted ch.val code) := by
  show execDmaHalt ch code s = _
  simp only [execDmaHalt, hr]
  exact if_pos h

/-- A bus error in a move ends its descriptor bad, after the bytes confirmed. -/
theorem exec_dmaBusError (hp : r.phase = .move) (dest : Bool) (confirmed : Nat) : ∃ c, exec (.dmaBusError ch dest confirmed) s =
    .next ((s.dmaLoose r.desc c r.put).dmaBad ch.val r (if dest then 4 else 3) c) := by
  refine ⟨min confirmed r.put / r.desc.width true * r.desc.width true, ?_⟩
  show execDmaBusError ch dest confirmed s = _
  simp only [execDmaBusError, hr, hp, ne_eq, not_true_eq_false, if_false]

/-- A grant takes the next burst into the holding register, and puts out what makes whole units of the destination's width. -/
theorem exec_dmaGrant (hp : r.phase = .move) (ht : s.dmaTurn = some ch.val) (src : List Nat) : ∃ t q, exec (.dmaGrant ch src) s = .next t ∧
    tget t.dma.runs ch.val = some q ∧ q.got = r.got + min 4096 (r.desc.len - r.got) ∧ r.put ≤ q.put ∧ q.desc = r.desc := by
  have hdue : ¬ (r.phase ≠ .move ∨ s.dmaTurn ≠ some ch.val) := by simp [hp, ht]
  show ∃ t q, execDmaGrant ch src s = .next t ∧ _
  simp only [execDmaGrant, hr, if_neg hdue]
  exact ⟨_, _, rfl, (congrArg (fun d : Dma => tget d.runs ch.val) (dma_ite_setFld ..)).trans (tget_tput_same ..), rfl,
    Nat.le_add_right .., rfl⟩

end

section
variable {s : State} {ch : ChId} {r : DmaRun} (hr : tget s.dma.runs ch.val = some r) (hp : r.phase = .fetch)
include hr hp

theorem exec_dmaDescFetch_outside (bytes : List Nat)
    (hw : s.winAllows ch.val (s.fld (Fld.CH_CTRL.DESC_SPACE.at ch.val)) r.addr (r.addr + 64) true true = false) :
    exec (.dmaDescFetch ch bytes) s = .next (s.dmaHalted ch.val 2) := by
  show execDmaDescFetch ch bytes s = _
  simp only [execDmaDescFetch, hr, hp, hw, ne_eq, not_true_eq_false, if_false, Bool.not_false, if_true]

variable {bytes bs : List Nat}
  (hw : s.winAllows ch.val (s.fld (Fld.CH_CTRL.DESC_SPACE.at ch.val)) r.addr (r.addr + 64) true true = true)
  (hb : bs = if s.fld (Fld.CH_CTRL.DESC_SPACE.at ch.val) = 0 then (List.range 64).map (fun i => s.hbmByte (r.addr + i)) else bytes)
include hw hb

/-- A descriptor that is not ready stalls its channel. -/
theorem exec_dmaDescFetch_stalls (hs : (descOf bs).status % 4 ≠ 0) : exec (.dmaDescFetch ch bytes) s =
    .next (((s.withDma { s.dma with runs := tdel s.dma.runs ch.val }).setChState ch.val 3).dmaErrIrq ch.val) := by
  show execDmaDescFetch ch bytes s = _
  simp only [execDmaDescFetch, hr, hp, hw, ← hb, ne_eq, not_true_eq_false, if_false, Bool.not_true, Bool.false_eq_true]
  exact if_pos hs

variable (hs : (descOf bs).status % 4 = 0)
include hs

/-- A descriptor with a wrong format or a range outside its windows is bad. -/
theorem exec_dmaDescFetch_bad (h : (descOf bs).formatOk = false ∨ s.windowsOk ch.val (descOf bs) = false) :
    ∃ code, exec (.dmaDescFetch ch bytes) s = .next (s.dmaBad ch.val { r with desc := descOf bs } code 0) := by
  refine ⟨if (descOf bs).formatOk then 2 else 1, ?_⟩
  show execDmaDescFetch ch bytes s = _
  simp only [execDmaDescFetch, hr, hp, hw, hs, ← hb, ne_eq, not_true_eq_false, if_false, Bool.not_true, Bool.false_eq_true]
  cases hf : (descOf bs).formatOk with
  | false => rfl
  | true =>
    have hwin := h.resolve_left (by simp [hf])
    simp only [hwin, Bool.not_true, Bool.not_false, Bool.false_eq_true, if_false, if_true]

theorem exec_dmaDescFetch_moves (hf : (descOf bs).formatOk = true) (hwin : s.windowsOk ch.val (descOf bs) = true) :
    exec (.dmaDescFetch ch bytes) s =
      .next (s.withDma { s.dma with runs := tput s.dma.runs ch.val { r with desc := descOf bs, phase := .move } }) := by
  show execDmaDescFetch ch bytes s = _
  simp only [execDmaDescFetch, hr, hp, hw, hs, hf, hwin, ← hb, ne_eq, not_true_eq_false, if_false, Bool.not_true, Bool.false_eq_true]

end

theorem exec_dmaDisable {s : State} {iface : Iface} {ch : ChId} (ho : dmaOwnedByFw iface ch.val 64 = false) :
    exec (.dmaDisable iface ch) s = .next (s.dmaDrop ch.val) := if_neg (by simp [ho])

theorem exec_dmaDisable_owned {s : State} {iface : Iface} {ch : ChId} (ho : dmaOwnedByFw iface ch.val 64 = true) :
    exec (.dmaDisable iface ch) s = .next (s.busError iface 3 (Fld.CH_CTRL.EN.at ch.val).addr) := if_pos ho

/-! ### Windows (R257) -/

theorem exec_dmaWinEnable {s : State} {iface : Iface} {win : WinId} (ho : dmaOwnedByFw iface win.val 8 = false) (ctrl : Nat) :
    exec (.dmaWinEnable iface win ctrl) s = .next (s.winCtrl win.val ctrl) := if_neg (by simp [ho])

theorem exec_dmaWinEnable_owned {s : State} {iface : Iface} {win : WinId} (ho : dmaOwnedByFw iface win.val 8 = true) (ctrl : Nat) :
    exec (.dmaWinEnable iface win ctrl) s = .next (s.busError iface 3 (Fld.WIN_CTRL.EN.at win.val).addr) := if_pos ho

/-- A window with the fields of its control word taken, before it is switched. -/
def State.winSet (s : State) (w ctrl : Nat) : State :=
  let s := if ctrl / 32 % 2 = 1 then s.setBit (Fld.WIN_CTRL.ERR.at w) false else s
  ((s.setFld (Fld.WIN_CTRL.SPACE.at w) (ctrl / 2 % 4)).setBit (Fld.WIN_CTRL.READ.at w) (decide (ctrl / 8 % 2 = 1))).setBit
    (Fld.WIN_CTRL.WRITE.at w) (decide (ctrl / 16 % 2 = 1))

/-- A window of the hosts' that would reach HBM outside the DMA area. -/
def State.WinLeavesArea (s : State) (w space : Nat) : Prop :=
  8 ≤ w ∧ space = 0 ∧ ¬ (s.dmaArea.1 ≤ s.addrFld (Fld.WIN_BASE.ADDR.at w) ∧ s.addrFld (Fld.WIN_LIMIT.ADDR.at w) ≤ s.dmaArea.2)

section
variable (s : State) (w ctrl : Nat)

theorem kept_State_winSet :
    Kept [Fld.WIN_CTRL.ERR, Fld.WIN_CTRL.SPACE, Fld.WIN_CTRL.READ, Fld.WIN_CTRL.WRITE] s (s.winSet w ctrl) :=
  Kept.setBitAt (by decide) (Kept.setBitAt (by decide) (Kept.setFldAt (by decide) (Kept.ite (Kept.setBitAt (by decide) Kept.refl) Kept.refl)))

theorem winSet_space : (s.winSet w ctrl).fld (Fld.WIN_CTRL.SPACE.at w) = ctrl / 2 % 4 :=
  (fld_setFld_off _ w w _ (by decide)).trans ((fld_setFld_off _ w w _ (by decide)).trans ((State.fld_setFld_same ..).trans
    (Nat.mod_mod _ 4)))

theorem winSet_read : (s.winSet w ctrl).bit (Fld.WIN_CTRL.READ.at w) = decide (ctrl / 8 % 2 = 1) :=
  (bit_setFld_off _ w w _ (by decide)).trans (State.bit_setBit_same _ _ _ rfl)

theorem winSet_write : (s.winSet w ctrl).bit (Fld.WIN_CTRL.WRITE.at w) = decide (ctrl / 16 % 2 = 1) :=
  State.bit_setBit_same _ _ _ rfl

theorem winSet_leavesArea (space : Nat) : (s.winSet w ctrl).WinLeavesArea w space ↔ s.WinLeavesArea w space := by
  have k := kept_State_winSet s w ctrl
  simp only [State.WinLeavesArea, State.dmaArea, State.addrFld, k.fld Fld.DMA_AREA_BASE (by decide), k.fld Fld.DMA_AREA_SIZE (by decide),
    k.fldAt (f := Fld.WIN_BASE.ADDR) w (by decide), k.fldAt (f := Fld.WIN_LIMIT.ADDR) w (by decide)]

variable {s w ctrl}

theorem winCtrl_off (h : ctrl % 2 = 0) : s.winCtrl w ctrl = (s.winSet w ctrl).setBit (Fld.WIN_CTRL.EN.at w) false := if_pos h

theorem winCtrl_on (h : ctrl % 2 = 1) (ha : ¬ s.WinLeavesArea w (ctrl / 2 % 4)) :
    s.winCtrl w ctrl = (s.winSet w ctrl).setBit (Fld.WIN_CTRL.EN.at w) true := by
  rw [← winSet_leavesArea s w ctrl, ← winSet_space s w ctrl] at ha
  exact (if_neg (by omega)).trans (if_neg ha)

theorem winCtrl_outside (h : ctrl % 2 = 1) (ha : s.WinLeavesArea w (ctrl / 2 % 4)) :
    s.winCtrl w ctrl = ((s.winSet w ctrl).setBit (Fld.WIN_CTRL.EN.at w) false).setBit (Fld.WIN_CTRL.ERR.at w) true := by
  rw [← winSet_leavesArea s w ctrl, ← winSet_space s w ctrl] at ha
  exact (if_neg (by omega)).trans (if_pos ha)

end

/-- A window's switch leaves its space. -/
theorem winSet_switched (s : State) (w ctrl : Nat) (on : Bool) :
    ((s.winSet w ctrl).setBit (Fld.WIN_CTRL.EN.at w) on).bit (Fld.WIN_CTRL.EN.at w) = on ∧
    ((s.winSet w ctrl).setBit (Fld.WIN_CTRL.EN.at w) on).fld (Fld.WIN_CTRL.SPACE.at w) = ctrl / 2 % 4 :=
  ⟨State.bit_setBit_same _ _ _ rfl, (fld_setFld_off _ w w _ (by decide)).trans (winSet_space s w ctrl)⟩

theorem busFields_apart_windows : ∀ w : WinId, busFields.all (fun g => g.apart (Fld.WIN_CTRL.EN.at w.val)) = true := by decide

/-- Settles O44: a command that is due answers the state of its lemma, and what a clause reads of it is what that lemma set or left. -/
theorem dmaCommandsTakeEffect : Obligations.DmaCommandsTakeEffect := by
  refine ⟨?start, ?timer, ?fetch, ?grant, ?readBack, ?busError, ?haltFetch, ?disable, ?window, ?startOwned, ?startOff, ?startResumes,
    ?startPends, ?startMisses, ?timerPaused, ?timerResumes, ?timerPends, ?timerMisses, ?fetchNotDue, ?fetchOutside, ?fetchHbm, ?fetchStalls,
    ?fetchBad, ?grantNotDue, ?readBackNotDue, ?readBackFails, ?busErrorNotDue, ?haltOutside, ?haltStatus, ?haltNotDue, ?disableOwned,
    ?windowOwned, ?windowOff, ?windowInside, ?windowOutside⟩
  case start =>
    intro s iface ch ht ho hen h0
    exact ⟨_, (exec_dmaStart ht ho).trans (congrArg _ (dmaTrigger_idle hen h0 true)), dmaBegin_fetches ..⟩
  case startOwned =>
    intro s iface ch ht ho
    exact ⟨_, exec_dmaStart_owned ht ho, busError_bit_err .., busError_reason _ _ _ _ (by decide), busError_frame ..,
      (kept_State_busError _ _ _ _).fldAt ch.val (by decide)⟩
  case startOff => exact fun s iface ch ht ho hen => ⟨_, exec_dmaStart ht ho, dmaTrigger_disabled hen true⟩
  case startResumes =>
    intro s iface ch ht ho hen h
    obtain ⟨hstate, hrun⟩ := dmaBegin_fetches s ch.val (s.addrFld (Fld.CH_CUR_DESC.ADDR.at ch.val))
    exact ⟨_, (exec_dmaStart ht ho).trans (congrArg _ (dmaTrigger_resumes hen (h.symm.imp_right fun h => ⟨h, rfl⟩))), hstate,
      dmaBegin_haltCode .., hrun⟩
  case startPends =>
    intro s iface ch ht ho hen h hp
    obtain ⟨hstate, hrest⟩ := pending_counted hp
    exact ⟨_, (exec_dmaStart ht ho).trans (congrArg _ (dmaTrigger_pends hen (.inl h) hp)), hstate.trans h, hrest⟩
  case startMisses =>
    intro s iface ch ht ho hen h hp
    have hm := missed_counted s ch.val
    exact ⟨_, (exec_dmaStart ht ho).trans (congrArg _ (dmaTrigger_misses hen (.inl h) hp)), hm.state.trans h, hm.dma, hm.pending.trans hp,
      hm.missed, hm.counted⟩
  case timer =>
    intro s ch hf ht hp hen h0
    exact ⟨_, (exec_dmaTimer ⟨hf, ht, hp⟩).trans (congrArg _ (dmaTrigger_idle hen h0 false)), dmaBegin_fetches ..⟩
  case timerPaused =>
    intro s ch h
    by_cases hd : s.TimerRuns ch
    · obtain ⟨hf, ht, hp⟩ := hd
      have hen : s.bit (Fld.CH_CTRL.EN.at ch.val) = false := by simpa [hf, ht, hp] using h
      exact ⟨_, exec_dmaTimer ⟨hf, ht, hp⟩, dmaTrigger_disabled hen false⟩
    · exact ⟨_, exec_dmaTimer_paused hd, rfl⟩
  case timerResumes =>
    intro s ch hf ht hp hen h
    exact ⟨_, (exec_dmaTimer ⟨hf, ht, hp⟩).trans (congrArg _ (dmaTrigger_resumes hen (.inl h))), dmaBegin_fetches ..⟩
  case timerPends =>
    intro s ch hf ht hp hen h hlt
    exact ⟨_, (exec_dmaTimer ⟨hf, ht, hp⟩).trans (congrArg _ (dmaTrigger_pends hen (h.imp_right fun h => ⟨h, rfl⟩) hlt)),
      pending_counted hlt⟩
  case timerMisses =>
    intro s ch hf ht hp hen h hfull
    have hm := missed_counted s ch.val
    exact ⟨_, (exec_dmaTimer ⟨hf, ht, hp⟩).trans (congrArg _ (dmaTrigger_misses hen (h.imp_right fun h => ⟨h, rfl⟩) hfull)), hm.dma,
      hm.missed, hm.counted⟩
  case fetch =>
    intro s ch bytes r hr hp hsp hw hs hf hwin
    exact ⟨_, exec_dmaDescFetch_moves hr hp hw (if_neg hsp).symm hs hf hwin, tget_tput_same ..⟩
  case fetchHbm =>
    intro s ch bytes r hr hp hsp hw hs hf hwin
    exact ⟨_, exec_dmaDescFetch_moves hr hp (by rw [hsp]; exact hw) (if_pos hsp).symm hs hf hwin, tget_tput_same ..⟩
  case fetchNotDue => exact fun s ch bytes h => ⟨_, exec_dmaDescFetch_notDue h bytes, rfl⟩
  case fetchOutside =>
    exact fun s ch bytes r hr hp hw => ⟨_, exec_dmaDescFetch_outside hr hp bytes hw, dmaHalted_halts s ch.val (by decide)⟩
  case fetchStalls =>
    intro s ch bytes bs r hr hp hw hb hs
    refine ⟨_, exec_dmaDescFetch_stalls hr hp hw hb hs, ?_, ?_, ?_⟩
    · exact ((kept_State_dmaErrIrq _ _).fldAt ch.val (by decide)).trans (State.fld_setFld_same ..)
    · rw [dmaErrIrq_runs]
      exact tget_tdel_same ..
    · exact ((kept_State_dmaErrIrq _ _).fldAt ch.val (by decide)).trans (fld_setFld_off _ _ _ _ (by decide))
  case fetchBad =>
    intro s ch bytes bs r hr hp hw hb hs h
    obtain ⟨code, hx⟩ := exec_dmaDescFetch_bad hr hp hw hb hs h
    exact ⟨_, hx, dmaBad_counted ..⟩
  case grant =>
    intro s ch src r hr hp ht
    obtain ⟨t, q, hx, hq, hgot, hput, hdesc⟩ := exec_dmaGrant hr hp ht src
    exact ⟨t, hx, q, hq, hgot, hput, hdesc⟩
  case grantNotDue => exact fun s ch src h => ⟨_, exec_dmaGrant_notDue h src, rfl⟩
  case readBack => exact fun s ch r hr hp => ⟨_, exec_dmaReadBack hr hp, dmaDone_counted ..⟩
  case readBackNotDue => exact fun s ch ok h => ⟨_, exec_dmaReadBack_notDue h ok, rfl⟩
  case readBackFails =>
    intro s ch r hr hp
    obtain ⟨hseen, hcount⟩ := dmaBad_counted s.used ch.val r 5 (s.free 32).toNat
    exact ⟨_, exec_dmaReadBack hr hp, hseen, hcount, (kept_State_dmaBad s.used ch.val r 5 _).fldAt ch.val (by decide)⟩
  case busError =>
    intro s ch dest confirmed r hr hp
    obtain ⟨c, hx⟩ := exec_dmaBusError hr hp dest confirmed
    obtain ⟨hseen, hcount⟩ := dmaBad_counted (s.dmaLoose r.desc c r.put) ch.val r (if dest then 4 else 3) c
    rw [(kept_State_dmaLoose s r.desc c r.put).fldAt ch.val (by decide)] at hcount
    exact ⟨_, hx, hseen, hcount⟩
  case busErrorNotDue => exact fun s ch dest confirmed h => ⟨_, exec_dmaBusError_notDue h dest confirmed, rfl⟩
  case haltFetch => exact fun s ch r hr hp => ⟨_, exec_dmaHalt hr (.inl ⟨rfl, hp⟩), dmaHalted_halts s ch.val (by decide)⟩
  case haltOutside =>
    exact fun s ch r hr hp hw => ⟨_, exec_dmaHalt hr (.inr (.inl ⟨rfl, hp, hw⟩)), dmaHalted_halts s ch.val (by decide)⟩
  case haltStatus => exact fun s ch r hr hp => ⟨_, exec_dmaHalt hr (.inr (.inr ⟨rfl, hp⟩)), dmaHalted_halts s ch.val (by decide)⟩
  case haltNotDue => exact fun s ch code h => ⟨_, exec_dmaHalt_notDue h, rfl⟩
  case disable => exact fun s iface ch ho => ⟨_, exec_dmaDisable ho, dmaDrop_drops s ch.val⟩
  case disableOwned =>
    intro s iface ch ho
    exact ⟨_, exec_dmaDisable_owned ho, busError_bit_err .., busError_reason _ _ _ _ (by decide),
      (kept_State_busError _ _ _ _).bitAt ch.val (by decide), rfl⟩
  case window =>
    intro s iface win ctrl ho hc hw
    have ha : ¬ s.WinLeavesArea win.val (ctrl / 2 % 4) := fun h => absurd h.1 (Nat.not_le.mpr hw)
    exact ⟨_, (exec_dmaWinEnable ho ctrl).trans (congrArg _ (winCtrl_on hc ha)), winSet_switched s win.val ctrl true⟩
  case windowOwned =>
    intro s iface win ctrl ho
    exact ⟨_, exec_dmaWinEnable_owned ho ctrl, busError_bit_err .., busError_reason _ _ _ _ (by decide),
      (kept_State_busError _ _ _ _).bit _ (busFields_apart_windows win)⟩
  case windowOff =>
    intro s iface win ctrl ho hc
    obtain ⟨hoff, hspace⟩ := winSet_switched s win.val ctrl false
    exact ⟨_, (exec_dmaWinEnable ho ctrl).trans (congrArg _ (winCtrl_off hc)), hoff, hspace,
      (bit_setFld_off _ _ _ _ (by decide)).trans (winSet_read s win.val ctrl),
      (bit_setFld_off _ _ _ _ (by decide)).trans (winSet_write s win.val ctrl)⟩
  case windowInside =>
    intro s iface win ctrl ho hc hw hin
    have ha : ¬ s.WinLeavesArea win.val (ctrl / 2 % 4) := fun ⟨_, hspace, hout⟩ => hin.elim (absurd hspace) hout
    exact ⟨_, (exec_dmaWinEnable ho ctrl).trans (congrArg _ (winCtrl_on hc ha)), winSet_switched s win.val ctrl true⟩
  case windowOutside =>
    intro s iface win ctrl ho hc hw hspace hout
    refine ⟨_, (exec_dmaWinEnable ho ctrl).trans (congrArg _ (winCtrl_outside hc ⟨hw, hspace, hout⟩)), ?_, State.bit_setBit_same _ _ _ rfl⟩
    exact (bit_setFld_off _ _ _ _ (by decide)).trans (State.bit_setBit_same _ _ _ rfl)

end Sys2Proof.Machine

/-!
A step and the clock (O1, O2), the reset values (O19), and the accesses to pairs and groups of words (O17, O40).
-/
namespace Sys2Proof.Machine

/-! ### A step (R335, R467) -/

/-- Settles O1: the front of the queue is the case of `step` that runs it. -/
theorem stepRunsTheFrontCommand : Obligations.StepRunsTheFrontCommand := fun _ _ _ => rfl

theorem step_idle {s : State} (h : s.pending = []) : step s = .next s.tick := by rw [step, h]

/-- The clock's advance with no pitch time to keep. -/
def State.later (s : State) : State := { s with now := s.now + 8 }

theorem tick_invalid {s : State} (h : s.bit Fld.PIT_STATUS.VALID = false) : s.tick = s.later :=
  if_neg (by rw [← Bool.not_eq_true] at h; exact h)

theorem tick_valid {s : State} (h : s.bit Fld.PIT_STATUS.VALID = true) :
    s.tick = (s.later.setFld Fld.PIT_NOW (s.fld Fld.PIT_NOW + 8)).slewStep := if_pos h

theorem slewStep_done {s : State} (h : s.fed.slew = 0) : s.slewStep = s := if_neg fun hs => hs.2 h

theorem tick_now (s : State) : s.tick.now = s.now + 8 := by
  cases h : s.bit Fld.PIT_STATUS.VALID with
  | false => rw [tick_invalid h]; rfl
  | true => rw [tick_valid h]; exact only_State_slewStep _ .now rfl

theorem kept_State_slewStep (s : State) : Kept [Fld.PIT_NOW] s s.slewStep := by
  unfold State.slewStep
  refine Kept.ite (Kept.setFld rfl (Kept.regs rfl Kept.refl)) Kept.refl

theorem kept_State_tick (s : State) : Kept [Fld.PIT_NOW] s s.tick := by
  cases h : s.bit Fld.PIT_STATUS.VALID with
  | false => exact tick_invalid h ▸ Kept.regs rfl Kept.refl
  | true => exact tick_valid h ▸ Kept.step (kept_State_slewStep _) rfl (Kept.setFld rfl (Kept.regs rfl Kept.refl))

/-- Settles O2: while pitch time is valid a tick is the advance and a step of the slew, otherwise the advance alone. -/
theorem anEmptyQueueTicksTheClock : Obligations.AnEmptyQueueTicksTheClock := by
  intro s hq
  refine ⟨_, step_idle hq, ?now, ?queue, only_State_tick s, kept_State_tick s, ?stands, ?moves⟩
  case now => exact tick_now s
  case queue => exact (only_State_tick s .pending rfl).trans hq
  case stands => 
    intro hv
    rw [tick_invalid hv]
    rfl
  case moves =>
    intro hv hs
    rw [tick_valid hv, slewStep_done (show (s.later.setFld _ _).fed.slew = 0 from hs)]
    exact State.fld_setFld_same ..

/-! ### Reset values (R462) -/

/-- With no register written, a field holds its reset value. -/
theorem fld_reset (f : Field) : State.reset.fld f = f.reset := rfl

/-- Settles O19: at reset every field holds the value that the register map gives it. -/
theorem resetLeavesTheGivenValues : Obligations.ResetLeavesTheGivenValues := by
  simp only [Obligations.ResetLeavesTheGivenValues, State.bit, fld_reset]
  decide

/-! ### Accesses to pairs and groups that are granted or refused (R460, R464 to R466) -/

section
variable {s : State} {iface : Iface} {addr : Nat} {f : Field} (hm : s.managed = true)
include hm

theorem exec_pairLoRead (hp : pairAt addr = some f) (ha : f.addr = addr) : exec (.pairLoRead iface addr) s = .next (s.busRead iface addr) := by
  simp [exec, execPairLoRead, hp, ha, hm]

theorem exec_groupWord0Read (hp : groupAt addr = some f) (ha : f.addr = addr) :
    exec (.groupWord0Read iface addr) s = .next (s.busRead iface addr) := by
  simp [exec, execGroupWord0Read, hp, ha, hm]

theorem exec_pairLoWrite (hp : rwPairAt addr = some f) (ha : f.addr = addr) (hr : s.refuseWrite iface addr = 0) (value : Nat) :
    exec (.pairLoWrite iface addr value) s = .next (s.holdLo iface f value) := by
  simp [exec, execPairLoWrite, State.busWrite, hp, ha, hm, hr]

theorem exec_pairHiWrite (hp : rwPairAt addr = some f) (ha : f.addr + 4 = addr) (hr : s.refuseWrite iface addr = 0) (value : Nat) :
    exec (.pairHiWrite iface addr value) s = .next (s.commitHi iface f value) := by
  have hne : addr ≠ f.addr := by omega
  simp [exec, execPairHiWrite, State.busWrite, hp, ha, hm, hr, hne]

end

theorem exec_pairLoRead_elsewhere {s : State} {addr : Nat} (h : (pairAt addr).map (·.addr) ≠ some addr) (iface : Iface) :
    exec (.pairLoRead iface addr) s = .next s := by
  cases hp : pairAt addr with
  | none => simp [exec, execPairLoRead, hp]
  | some f => simp [exec, execPairLoRead, hp, show f.addr ≠ addr by simpa [hp] using h]

theorem exec_groupWord0Read_elsewhere {s : State} {addr : Nat} (h : (groupAt addr).map (·.addr) ≠ some addr) (iface : Iface) :
    exec (.groupWord0Read iface addr) s = .next s := by
  cases hp : groupAt addr with
  | none => simp [exec, execGroupWord0Read, hp]
  | some f => simp [exec, execGroupWord0Read, hp, show f.addr ≠ addr by simpa [hp] using h]

/-- A granted read of the first word of a multi-word field answers its low word and latches all of it. -/
theorem busRead_first {s : State} {iface : Iface} {addr : Nat} {f : Field} (hf : (pairAt addr).or (groupAt addr) = some f)
    (ha : f.addr = addr) (hr : s.refuseRead iface addr = 0) (hw : s.windowWord addr = none) : s.busRead iface addr =
      ({ s with latches := tput s.latches (latchKey f iface) (f.whole (s.shown f)) } : State).answered [f.whole (s.shown f) % 2 ^ 32] := by
  simp [State.busRead, State.readWord, State.readMulti, hf, ha, hr, hw]

theorem busRead_refused {s : State} {iface : Iface} {addr r : Nat} (h : s.refuseRead iface addr = r) (hr : r ≠ 0) :
    s.busRead iface addr = (s.refused iface r addr).answered [0] := by
  simp [State.busRead, h, hr]

theorem busRead_refused_shown {s : State} {iface : Iface} {addr r : Nat} (h : s.refuseRead iface addr = r) (hr : r ≠ 0) :
    (s.busRead iface addr).answer = [0] ∧ (s.busRead iface addr).latches = s.latches := by
  rw [busRead_refused h hr]
  exact ⟨rfl, only_State_refused s iface r addr .latches rfl⟩

theorem latchKey_injective {i j : Iface} {f : Field} (h : latchKey f i = latchKey f j) : i = j := by
  have hbus : ifaceBus i = ifaceBus j := Nat.add_left_cancel h
  cases i <;> cases j <;> simp_all [ifaceBus]

/-- Settles O40: a read that is due is the read of a first word, granted or refused. -/
theorem pairsAndGroupsAreReadFromOneInstant : Obligations.PairsAndGroupsAreReadFromOneInstant := by
  refine ⟨?pair, ?group, ?pairRefused, ?groupRefused, ?noPair, ?noGroup⟩
  case pair =>
    intro s iface addr f hm hp ha hr hw
    exact ⟨_, (exec_pairLoRead hm hp ha).trans (congrArg _ (busRead_first (by simp [hp]) ha hr hw)), rfl, tget_tput_same .., rfl⟩
  case group =>
    intro s iface addr f hm hg ha hp hr hw
    exact ⟨_, (exec_groupWord0Read hm hg ha).trans (congrArg _ (busRead_first (by simp [hp, hg]) ha hr hw)), rfl, tget_tput_same .., rfl⟩
  case pairRefused =>
    intro s iface addr r hm h hr hp
    obtain ⟨f, hf, ha⟩ := Option.map_eq_some_iff.mp hp
    exact ⟨_, exec_pairLoRead hm hf ha, busRead_refused_shown h hr⟩
  case groupRefused =>
    intro s iface addr r hm h hr hg
    obtain ⟨f, hf, ha⟩ := Option.map_eq_some_iff.mp hg
    exact ⟨_, exec_groupWord0Read hm hf ha, busRead_refused_shown h hr⟩
  case noPair => exact fun s iface addr h => ⟨_, exec_pairLoRead_elsewhere h iface, rfl⟩
  case noGroup => exact fun s iface addr h => ⟨_, exec_groupWord0Read_elsewhere h iface, rfl⟩

/-- Settles O17: a LO word is put under its interface's key, and a HI word takes it from there. -/
theorem pairWritesCommitTogether : Obligations.PairWritesCommitTogether := by
  refine ⟨?low, ?high, fun i j f h => latchKey_injective h⟩
  case low =>
    intro s iface addr value f hm hp ha hr
    exact ⟨_, exec_pairLoWrite hm hp ha hr value, tget_tput_same .., rfl, fun k hk => tget_tput_ne _ _ _ _ hk⟩
  case high =>
    intro s iface addr value f hm hp ha hr hopen
    have hcommit : s.commitHi iface f value = _ := if_pos hopen
    exact ⟨_, (exec_pairHiWrite hm hp ha hr value).trans (congrArg _ hcommit), State.fld_setFld_same .., tget_tdel_same ..⟩

end Sys2Proof.Machine

/-!
The key commands (O45): UNLOAD shows the selected slot in the twelve bits of CIP_KEY_STATUS.SLOT, and the statement reads it uncut.
-/
namespace Sys2Proof.Machine

/-- UNLOAD shows the slot selected, cut to the width of the field that shows it (R284). -/
theorem exec_keyUnload_slot {s : State} (h : s.bit Fld.CIP_KEY_STATUS.BUSY = false) : ∃ t, exec .keyUnload s = .next t ∧
    t.fld Fld.CIP_KEY_STATUS.SLOT = s.fld Fld.CIP_KEY_SEL.SLOT % 2 ^ Fld.CIP_KEY_STATUS.SLOT.width := by
  refine ⟨_, if_neg (by simp [h]), ?_⟩
  simp (disch := decide) only [State.keyDone, State.fld_setFld_ne, State.fld_setBit_ne, (kept_State_showContexts _).fld,
    (kept_State_dropKeys _ _).fld, State.fld_setFld_same]

/-- CIP_KEY_SEL.SLOT holds a value of more bits than the field has. -/
def wideSlotState : State := { State.reset with regs := [(Fld.CIP_KEY_SEL.SLOT.key, 2 ^ Fld.CIP_KEY_SEL.SLOT.width)] }

/-- Refutes O45: the statement is over every state, in its last clause also over one whose register table holds 4096 for the 12-bit
CIP_KEY_SEL.SLOT. UNLOAD then shows slot 0, and the clause asks for 4096. -/
theorem not_keyCommandsTakeEffect : ¬ Obligations.KeyCommandsTakeEffect := by
  intro h
  obtain ⟨-, -, -, -, -, -, -, -, -, -, -, -, -, -, hslot⟩ := h
  have hbusy : wideSlotState.bit Fld.CIP_KEY_STATUS.BUSY = false := by decide
  obtain ⟨t, ht, -, hshown, -⟩ := hslot wideSlotState 0 hbusy (by decide)
  obtain ⟨u, hu, hcut⟩ := exec_keyUnload_slot hbusy
  obtain rfl := Host.Outcome.next.inj (hu.symm.trans ht)
  exact absurd (hcut.symm.trans hshown) (by decide)

end Sys2Proof.Machine

/-!
The TRNG (O46): the pool's count has seven bits, and the statement reads a failure's discarded blocks off the uncut value.
-/
namespace Sys2Proof.Machine

/-- The pool is what its count and the start-up test and failed state say. -/
theorem Kept.pool {l : List Field} {s t : State} (k : Kept l s t)
    (h : [Fld.CIP_TRNG_STATUS.STARTUP, Fld.CIP_TRNG_STATUS.FAILED, Fld.CIP_TRNG_STATUS.POOL].all (fun f => l.all (fun g => g.apart f)) = true) :
    t.pool = s.pool := by
  simp only [List.all_cons, List.all_nil, Bool.and_true, Bool.and_eq_true] at h
  obtain ⟨hs, hf, hp⟩ := h
  simp only [State.pool, k.bit _ hs, k.bit _ hf, k.fld _ hp]

theorem pool_withCip (s : State) (c : Cip) : ({ s with cip := c } : State).pool = s.pool := rfl

/-- A count of the pool is cut to its width; blocks leave the TRNG outside its start-up test and its failed state (R278). -/
theorem pool_setPool {s : State} (hs : s.bit Fld.CIP_TRNG_STATUS.STARTUP = false) (hf : s.bit Fld.CIP_TRNG_STATUS.FAILED = false) (n : Nat) :
    (s.setPool n).pool = n % 2 ^ Fld.CIP_TRNG_STATUS.POOL.width := by
  have hk := kept_State_setPool s n
  have hcount : (s.setPool n).fld Fld.CIP_TRNG_STATUS.POOL = n % 2 ^ Fld.CIP_TRNG_STATUS.POOL.width := by
    simp (disch := decide) only [State.setPool, State.fld_setBit_ne, State.fld_setFld_same]
  simp [State.pool, hk.bit Fld.CIP_TRNG_STATUS.STARTUP rfl, hk.bit Fld.CIP_TRNG_STATUS.FAILED rfl, hs, hf, hcount]

/-- A health failure's counter. -/
def State.trngTallied (s : State) (apt : Bool) : State :=
  if apt then s.satFld Fld.CIP_TRNG_APT_FAIL 1 else s.satFld Fld.CIP_TRNG_RCT_FAIL 1

theorem kept_State_trngTallied (s : State) (apt : Bool) : Kept [Fld.CIP_TRNG_APT_FAIL, Fld.CIP_TRNG_RCT_FAIL] s (s.trngTallied apt) :=
  Kept.ite (Kept.satFld rfl Kept.refl) (Kept.satFld rfl Kept.refl)

/-- A health failure counted and recorded, with what was conditioned from its window discarded (R279). -/
def State.trngCounted (s : State) (apt : Bool) : State :=
  ((s.trngTallied apt).setPool ((s.trngTallied apt).pool - 2)).emit .trngHealth [if apt then 1 else 0]

/-- A first failure is counted, and no failed state begins (R279). -/
theorem exec_trngHealthFail_first {s : State} (h : s.cip.trngFails = []) (apt : Bool) : exec (.trngHealthFail apt) s =
    .next { s.trngCounted apt with cip := { s.cip with trngFails := [s.now] } } := by
  have hcip : (s.trngCounted apt).cip = s.cip := by cases apt <;> rfl
  have hnow : (s.trngCounted apt).now = s.now := by cases apt <;> rfl
  have htimes : (s.trngCounted apt).cip.trngFails.filter (fun t => (s.trngCounted apt).now < t + sec) ++ [(s.trngCounted apt).now] =
      [s.now] := by rw [hcip, hnow, h]; rfl
  have hone : [s.now].length < 3 := Nat.one_lt_succ_succ 1
  refine (if_pos (.inl ((congrArg List.length htimes).trans_lt hone))).trans ?_
  exact (congrArg (fun l => Host.Outcome.next ({ s.trngCounted apt with cip := { (s.trngCounted apt).cip with trngFails := l } } : State))
    htimes).trans (by rw [hcip])

/-- A failure takes two blocks off the pool, whose count is cut to its width (R279). -/
theorem pool_trngCounted {s : State} (hs : s.bit Fld.CIP_TRNG_STATUS.STARTUP = false) (hf : s.bit Fld.CIP_TRNG_STATUS.FAILED = false)
    (apt : Bool) : (s.trngCounted apt).pool = (s.pool - 2) % 2 ^ Fld.CIP_TRNG_STATUS.POOL.width := by
  have hk := kept_State_trngTallied s apt
  refine (pool_setPool ((hk.bit _ (by decide)).trans hs) ((hk.bit _ (by decide)).trans hf) _).trans ?_
  rw [hk.pool (by decide)]

/-- The TRNG runs with no failure on record, and its pool's count holds a value of more bits than the field has. -/
def widePoolState : State :=
  { State.reset with
    regs := [(Fld.CIP_TRNG_STATUS.STARTUP.key, 0), (Fld.CIP_TRNG_STATUS.POOL.key, 2 ^ Fld.CIP_TRNG_STATUS.POOL.width + 2)] }

/-- Refutes O46: the statement is over every state, in its clause on a failure that is only counted also over one whose register table holds
130 for the 7-bit count of the pool. The failure leaves the count at 0, and the clause asks for 128. -/
theorem not_tamperAndTrngTakeEffect : ¬ Obligations.TamperAndTrngTakeEffect := by
  intro h
  obtain ⟨-, -, -, -, -, -, -, -, -, -, -, -, -, -, -, -, -, -, -, hcount, -⟩ := h
  obtain ⟨t, ht, -, -, -, hpool, -⟩ := hcount widePoolState false (.inl (by decide))
  obtain rfl := Host.Outcome.next.inj ((exec_trngHealthFail_first rfl false).symm.trans ht)
  rw [pool_withCip, pool_trngCounted (by decide) (by decide)] at hpool
  exact absurd hpool (by decide)

end Sys2Proof.Machine

/-!
The federation's membership, its grandmaster, and pitch time (O51).
-/
namespace Sys2Proof.Machine

/-! ### Reading a field beside a sibling that was written (R7) -/

theorem fld_setFld_of_at (s : State) {f g : Field} (j v : Nat) (h : g.apart f = true) : (s.setFld (g.at j) v).fld f = s.fld f :=
  State.fld_setFld_ne _ _ _ _ fun e => Field.not_instOf h (.inr ⟨j, e⟩)

theorem fld_at_setFld (s : State) {f g : Field} (i v : Nat) (h : g.offFrom f = true) : (s.setFld g v).fld (f.at i) = s.fld (f.at i) :=
  State.fld_setFld_ne _ _ _ _ fun e => Field.not_instOf_at h i (.inl e)

theorem key_at_injective {f : Field} (hs : 0 < f.stride) {i j : Nat} (hi : i < f.count) (hj : j < f.count) (h : (f.at i).key = (f.at j).key) :
    i = j := by
  simp only [Field.key, Field.at, if_pos hi, if_pos hj] at h
  exact Nat.eq_of_mul_eq_mul_right hs (by omega)

theorem fld_setFld_sibling (s : State) {f : Field} (v : Nat) (hs : 0 < f.stride) {i j : Nat} (hi : i < f.count) (hj : j < f.count)
    (hij : i ≠ j) : (s.setFld (f.at j) v).fld (f.at i) = s.fld (f.at i) :=
  State.fld_setFld_ne _ _ _ _ fun e => hij (key_at_injective hs hi hj e)

theorem bit_eq_false {s : State} {f : Field} : s.bit f = false ↔ s.fld f = 0 := by simp [State.bit]

/-! ### Hello and membership (R332, R333) -/

/-- The link of a hello shown up, its neighbor named, and the first hello on it answered. -/
def State.greeted (s : State) (link : LinkId) (h : Hello) : State :=
  ((if s.bit (Fld.FED_LINK.UP.at link.val) then s else s.fedSend (.hello link)).setBit (Fld.FED_LINK.UP.at link.val) true).setFld
    (Fld.FED_LINK.NEIGHBOR.at link.val) h.node

theorem kept_greeted (s : State) (link : LinkId) (h : Hello) : Kept [Fld.FED_LINK.UP, Fld.FED_LINK.NEIGHBOR] s (s.greeted link h) := by
  unfold State.greeted
  refine Kept.setFldAt rfl (Kept.setBitAt rfl (Kept.ite Kept.refl (Kept.regs rfl Kept.refl)))

theorem greeted_same (s : State) (link : LinkId) (h : Hello) : (s.greeted link h).ownIdentity = s.ownIdentity ∧
    (s.greeted link h).now = s.now ∧ (s.greeted link h).fed.members = s.fed.members := by
  unfold State.greeted
  split <;> exact ⟨rfl, rfl, rfl⟩

theorem greeted_out_up {s : State} {link : LinkId} (hup : s.bit (Fld.FED_LINK.UP.at link.val) = true) (h : Hello) :
    (s.greeted link h).fed = s.fed := by
  simp [State.greeted, hup, State.setFld, State.setBit]

theorem greeted_out_down {s : State} {link : LinkId} (hup : s.bit (Fld.FED_LINK.UP.at link.val) = false) (h : Hello) :
    (s.greeted link h).fed.out = s.fed.out ++ [.hello link] := by
  simp [State.greeted, hup, State.setFld, State.setBit, State.fedSend, State.withFed]

theorem greeted_nodeId (s : State) (link : LinkId) (h : Hello) : (s.greeted link h).nodeId = s.nodeId :=
  congrArg Identity.nodeId (greeted_same s link h).1

theorem bit_greeted_up (s : State) (link : LinkId) (h : Hello) : (s.greeted link h).bit (Fld.FED_LINK.UP.at link.val) = true :=
  (bit_setFld_off _ _ _ _ (by decide)).trans (State.bit_setBit_same _ _ _ rfl)

section
variable {s : State} {h : Hello}

theorem hearHello_known (hown : ¬ (h.node = s.nodeId ∧ h.device ≠ s.fld Fld.SYS_DEVICE_ID)) {d : Nat} (hm : tget s.fed.members h.node = some d) :
    s.hearHello h = if d = h.device then s.letJoin h.node h.device else s.refuseJoin 2 h.node := by
  simp only [State.hearHello, if_neg hown, hm]

theorem hearHello_unknown (hown : ¬ (h.node = s.nodeId ∧ h.device ≠ s.fld Fld.SYS_DEVICE_ID)) (hm : tget s.fed.members h.node = none) :
    s.hearHello h = if 512 ≤ s.fed.members.length then s.refuseJoin 1 h.node else s.letJoin h.node h.device := by
  simp only [State.hearHello, if_neg hown, hm]

theorem hearHello_twin_above (hn : h.node = s.nodeId) (hd : s.fld Fld.SYS_DEVICE_ID < h.device) : s.hearHello h = s.refuseJoin 2 h.node := by
  simp only [State.hearHello, if_pos (show h.node = s.nodeId ∧ h.device ≠ s.fld Fld.SYS_DEVICE_ID from ⟨hn, hd.ne'⟩), if_pos hd]

theorem hearHello_twin_below (hn : h.node = s.nodeId) (hd : h.device < s.fld Fld.SYS_DEVICE_ID) :
    s.hearHello h = (s.leaveFed.setFld Fld.FED_STATUS.REFUSE_REASON 2).emit .joinRefused [2, h.node] := by
  simp only [State.hearHello, if_pos (show h.node = s.nodeId ∧ h.device ≠ s.fld Fld.SYS_DEVICE_ID from ⟨hn, hd.ne⟩), if_neg hd.not_gt]

end

theorem letJoin_listed (s : State) (node device : Nat) : tget (s.letJoin node device).fed.members node = some device ∧
    tget (s.letJoin node device).fed.heard node = some s.now := ⟨tget_tput_same .., tget_tput_same ..⟩

/-- What a refused join leaves: no member more, the answer sent, and one refusal counted. -/
theorem refuseJoin_counted (s : State) (reason node : Nat) : (s.refuseJoin reason node).fed.members = s.fed.members ∧
    (s.refuseJoin reason node).fed.out = s.fed.out ++ [.refuse reason] ∧
    (s.refuseJoin reason node).fld Fld.FED_REFUSED = (s.fld Fld.FED_REFUSED + 1) % 2 ^ Fld.FED_REFUSED.width :=
  ⟨rfl, rfl, fld_incFld_same ..⟩

/-- The code of FED_LINK.STATE after a hello of the own federation: 2 for a member, 1 for a refused device. -/
def State.linkCode (s : State) (h : Hello) : Nat := if tget s.fed.members h.node == some h.device then 2 else 1

section
variable {s : State} {link : LinkId} {h : Hello} (hen : s.bit Fld.FED_STATUS.ENABLED = true)
  (hport : s.bit (Fld.FED_LINK.FED_PORT.at link.val) = true)
include hen hport

theorem exec_helloReceive_own (hu : h.uuid = s.ownIdentity.fedUuid) : exec (.helloReceive link h) s =
    .next (((s.greeted link h).hearHello h).setFld (Fld.FED_LINK.STATE.at link.val) (((s.greeted link h).hearHello h).linkCode h)) := by
  have hu' : ¬ h.uuid ≠ (s.greeted link h).ownIdentity.fedUuid := by rw [(greeted_same s link h).1]; exact not_not.mpr hu
  simp only [exec, execHelloReceive, hen, hport, Bool.not_true, Bool.or_self, Bool.false_eq_true, if_false]
  exact if_neg hu'

theorem exec_helloReceive_foreign (hu : h.uuid ≠ s.ownIdentity.fedUuid) : exec (.helloReceive link h) s =
    .next (if (List.range 4).all (fun i => !((s.greeted link h).setFld (Fld.FED_LINK.STATE.at link.val) 3).bit (Fld.FED_LINK.FED_PORT.at i) ||
          ((s.greeted link h).setFld (Fld.FED_LINK.STATE.at link.val) 3).fld (Fld.FED_LINK.STATE.at i) == 3)
      then ((s.greeted link h).setFld (Fld.FED_LINK.STATE.at link.val) 3).setFld Fld.FED_STATUS.REFUSE_REASON 3
      else (s.greeted link h).setFld (Fld.FED_LINK.STATE.at link.val) 3) := by
  have hu' : h.uuid ≠ (s.greeted link h).ownIdentity.fedUuid := by rw [(greeted_same s link h).1]; exact hu
  simp only [exec, execHelloReceive, hen, hport, Bool.not_true, Bool.or_self, Bool.false_eq_true, if_false]
  exact if_pos hu'

end

section
variable {s : State} {link : LinkId} {h : Hello} (hen : s.bit Fld.FED_STATUS.ENABLED = true)
  (hport : s.bit (Fld.FED_LINK.FED_PORT.at link.val) = true) (hu : h.uuid = s.ownIdentity.fedUuid)
include hen hport hu

theorem helloReceive_admits (hj : (s.greeted link h).hearHello h = (s.greeted link h).letJoin h.node h.device) :
    Does (.helloReceive link h) s (fun t => t.bit (Fld.FED_LINK.UP.at link.val) = true ∧ t.fld (Fld.FED_LINK.STATE.at link.val) = 2 ∧
      tget t.fed.members h.node = some h.device ∧ tget t.fed.heard h.node = some s.now ∧ t.fld Fld.FED_STATUS.REFUSE_REASON = 0) := by
  obtain ⟨hmem, hheard⟩ := letJoin_listed (s.greeted link h) h.node h.device
  have hcode : ((s.greeted link h).letJoin h.node h.device).linkCode h = 2 := by simp [State.linkCode, hmem]
  refine ⟨_, exec_helloReceive_own hen hport hu, ?_⟩
  rw [hj, hcode]
  refine ⟨?up, State.fld_setFld_same .., hmem, hheard.trans (congrArg some (greeted_same s link h).2.1), ?reason⟩
  case up => 
    rw [bit_setFld_off _ _ _ _ (by decide), Kept.bitAt (kept_State_letJoin _ _ _) _ (by decide), bit_greeted_up]
  case reason => 
    rw [fld_setFld_of_at _ _ _ (by decide)]
    exact State.fld_setFld_same ..

theorem helloReceive_refuses {reason : Nat} (hup : s.bit (Fld.FED_LINK.UP.at link.val) = true)
    (hj : (s.greeted link h).hearHello h = (s.greeted link h).refuseJoin reason h.node) :
    Does (.helloReceive link h) s (fun t => (tget s.fed.members h.node ≠ some h.device → t.fld (Fld.FED_LINK.STATE.at link.val) = 1) ∧
      t.fed.members = s.fed.members ∧ t.fed.out = s.fed.out ++ [.refuse reason] ∧
      t.fld Fld.FED_REFUSED = (s.fld Fld.FED_REFUSED + 1) % 2 ^ Fld.FED_REFUSED.width) := by
  obtain ⟨hmem, hout, hcount⟩ := refuseJoin_counted (s.greeted link h) reason h.node
  have hfed := greeted_out_up hup h
  rw [hfed] at hmem hout
  rw [(kept_greeted s link h).fld _ (by decide)] at hcount
  refine ⟨_, exec_helloReceive_own hen hport hu, ?_⟩
  rw [hj]
  refine ⟨fun hne => ?code, hmem, hout, (fld_setFld_of_at _ _ _ (by decide)).trans hcount⟩
  case code => 
    have hcode : ((s.greeted link h).refuseJoin reason h.node).linkCode h = 1 := by simp [State.linkCode, hmem, hne]
    rw [State.fld_setFld_same, hcode]
    rfl

theorem helloReceive_leaves (hn : h.node = s.nodeId) (hd : h.device < s.fld Fld.SYS_DEVICE_ID) :
    Does (.helloReceive link h) s (fun t => t.fed.members = [] ∧ t.fld Fld.FED_STATUS.REFUSE_REASON = 2 ∧ t.bit Fld.PIT_STATUS.IS_GM = false ∧
         t.fld (Fld.FED_LINK.STATE.at link.val) = 1) := by
  have hj := hearHello_twin_below (s := s.greeted link h) (hn.trans (greeted_nodeId s link h).symm)
    (by rw [(kept_greeted s link h).fld _ (by decide)]; exact hd)
  refine ⟨_, exec_helloReceive_own hen hport hu, ?_⟩
  rw [hj]
  refine ⟨rfl, ?reason, ?gm, State.fld_setFld_same ..⟩
  case reason => 
    rw [fld_setFld_of_at _ _ _ (by decide)]
    exact State.fld_setFld_same ..
  case gm => 
    rw [bit_eq_false, fld_setFld_of_at _ _ _ (by decide)]
    simp (disch := decide) only [State.fld_emit, State.leaveFed, State.setBit, State.fld_setFld_ne, State.fld_setFld_same]
    rfl

end

theorem helloReceive_foreign {s : State} {link : LinkId} {h : Hello} (hen : s.bit Fld.FED_STATUS.ENABLED = true)
    (hport : s.bit (Fld.FED_LINK.FED_PORT.at link.val) = true) (hu : h.uuid ≠ s.ownIdentity.fedUuid) :
    Does (.helloReceive link h) s (fun t => t.fld (Fld.FED_LINK.STATE.at link.val) = 3 ∧ t.bit (Fld.FED_LINK.UP.at link.val) = true ∧
      t.fed = (s.greeted link h).fed ∧
      ((∀ i : Fin 4, s.bit (Fld.FED_LINK.FED_PORT.at i.val) = false ∨ s.fld (Fld.FED_LINK.STATE.at i.val) = 3 ∨ i.val = link.val) →
        t.fld Fld.FED_STATUS.REFUSE_REASON = 3)) := by
  have hshown : ((s.greeted link h).setFld (Fld.FED_LINK.STATE.at link.val) 3).fld (Fld.FED_LINK.STATE.at link.val) = 3 :=
    State.fld_setFld_same ..
  have hup : ((s.greeted link h).setFld (Fld.FED_LINK.STATE.at link.val) 3).bit (Fld.FED_LINK.UP.at link.val) = true :=
    (bit_setFld_off _ _ _ _ (by decide)).trans (bit_greeted_up s link h)
  refine ⟨_, exec_helloReceive_foreign hen hport hu, ?_⟩
  split
  next => exact ⟨(fld_at_setFld _ _ _ (by decide)).trans hshown,
    (congrArg (decide <| · ≠ 0) (fld_at_setFld _ _ _ (by decide))).trans hup, rfl, fun _ => State.fld_setFld_same ..⟩
  next hall =>
    refine ⟨hshown, hup, rfl, fun hports => absurd ?_ hall⟩
    rw [List.all_eq_true]
    intro i hi
    have hi := List.mem_range.mp hi
    by_cases hl : i = link.val
    · simp [hl, hshown]
    · have hfar := fld_setFld_sibling (s.greeted link h) (f := Fld.FED_LINK.STATE) 3 (by decide) hi link.isLt hl
      rw [bit_setFld_off _ _ _ _ (by decide), hfar, (kept_greeted s link h).bitAt _ (by decide), (kept_greeted s link h).fldAt _ (by decide)]
      rcases hports ⟨i, hi⟩ with hp | hf | he
      · simp [show s.bit (Fld.FED_LINK.FED_PORT.at i) = false from hp]
      · simp [show s.fld (Fld.FED_LINK.STATE.at i) = 3 from hf]
      · exact absurd he hl

/-! ### The grandmaster (R336) -/

theorem ownCandidate_withFed (s : State) (c : List Announce) : (s.withFed { s.fed with candidates := c }).ownCandidate = s.ownCandidate := rfl

theorem elect_some {s : State} {cands : List Announce} {b : Announce} (h : bestCandidate (s.ownCandidate ++ cands) = some b) :
    (s.elect cands).fld Fld.PIT_GM.NODE = b.node % 512 ∧ (s.elect cands).fld Fld.PIT_GM.PRIORITY = b.priority % 256 ∧
    ((s.elect cands).bit Fld.PIT_STATUS.IS_GM = true ↔ b.node = s.nodeId) := by
  simp only [State.elect, ownCandidate_withFed, h]
  split
  all_goals
    refine ⟨?node, ?priority, ?gm⟩
    case node =>
      simp (disch := decide) only [State.fld_setBit_ne, State.fld_setFld_ne, State.fld_setFld_same]
      rfl
    case priority =>
      simp (disch := decide) only [State.fld_setBit_ne, State.fld_setFld_ne, State.fld_setFld_same]
      rfl
    case gm =>
      simp (disch := decide) only [State.bit_setBit_ne, State.bit_setBit_same _ Fld.PIT_STATUS.IS_GM _ rfl]
      exact decide_eq_true_iff

theorem elect_none {s : State} {cands : List Announce} (h : bestCandidate (s.ownCandidate ++ cands) = none) :
    (s.elect cands).fld Fld.PIT_GM.CLASS = 5 ∧ (s.elect cands).bit Fld.PIT_STATUS.IS_GM = false ∧ (s.elect cands).bit Fld.PIT_STATUS.SYNCED = false ∧
    (s.elect cands).bit Fld.PIT_STATUS.HOLDOVER = (s.bit Fld.PIT_STATUS.SYNCED || s.bit Fld.PIT_STATUS.HOLDOVER) := by
  simp only [State.elect, ownCandidate_withFed, h]
  refine ⟨?_, ?_, State.bit_setBit_same _ _ _ rfl, ?_⟩
  all_goals simp (disch := decide) only [State.bit_setBit_ne, State.fld_setBit_ne, State.fld_setFld_ne, State.fld_setFld_same, State.bit_setFld_ne]
  · rfl
  · exact State.bit_setBit_same _ _ _ rfl
  · exact State.bit_setBit_same _ _ _ rfl

/-! ### Synchronization (R335, R337) -/

/-- What a measurement shows: offset, delay, and that the device is synchronized. -/
def State.measured (s : State) (offset : Int) (delay : Nat) (link : LinkId) : State :=
  let s := (s.setFld Fld.PIT_OFFSET.NS (pitOffset offset)).setFld (Fld.FED_LINK.DELAY_NS.at link.val) (min delay 65535)
  let s := (s.setBit Fld.PIT_STATUS.SYNCED true).setBit Fld.PIT_STATUS.HOLDOVER false
  s.setBit Fld.PIT_STATUS.ACCURATE (decide (s.fld Fld.PIT_GM.DEPTH ≤ 24))

/-- Pitch time made valid, with class 4 where it was not. -/
def State.madeValid (s : State) : State :=
  if s.bit Fld.PIT_STATUS.VALID then s else (s.setBit Fld.PIT_STATUS.VALID true).setFld Fld.PIT_STATUS.CLASS 4

theorem kept_measured (s : State) (offset : Int) (delay : Nat) (link : LinkId) :
    Kept [Fld.PIT_OFFSET.NS, Fld.FED_LINK.DELAY_NS, Fld.PIT_STATUS.SYNCED, Fld.PIT_STATUS.HOLDOVER, Fld.PIT_STATUS.ACCURATE] s
      (s.measured offset delay link) :=
  Kept.setBit rfl (Kept.setBit rfl (Kept.setBit rfl (Kept.setFldAt rfl (Kept.setFld rfl Kept.refl))))

theorem kept_madeValid (s : State) : Kept [Fld.PIT_STATUS.VALID, Fld.PIT_STATUS.CLASS] s s.madeValid :=
  Kept.ite Kept.refl (Kept.setFld rfl (Kept.setBit rfl Kept.refl))

theorem measured_shown (s : State) (offset : Int) (delay : Nat) (link : LinkId) :
    (s.measured offset delay link).bit Fld.PIT_STATUS.SYNCED = true ∧ (s.measured offset delay link).bit Fld.PIT_STATUS.HOLDOVER = false ∧
    (s.measured offset delay link).fld (Fld.FED_LINK.DELAY_NS.at link.val) = min delay 65535 := by
  refine ⟨?synced, ?holdover, ?delay⟩
  case synced =>
    simp (disch := decide) only [State.measured, State.bit_setBit_ne]
    exact State.bit_setBit_same _ _ _ rfl
  case holdover =>
    simp (disch := decide) only [State.measured, State.bit_setBit_ne]
    exact State.bit_setBit_same _ _ _ rfl
  case delay =>
    simp (disch := decide) only [State.measured, State.setBit, fld_at_setFld, State.fld_setFld_same]
    exact Nat.mod_eq_of_lt (Nat.lt_succ_of_le (Nat.min_le_right ..))

theorem madeValid_valid {s : State} (h : s.bit Fld.PIT_STATUS.VALID = true) : s.madeValid = s := if_pos h

theorem bit_madeValid (s : State) : s.madeValid.bit Fld.PIT_STATUS.VALID = true := by
  unfold State.madeValid
  split
  next h => exact h
  next => exact (State.bit_setFld_ne _ _ _ _ (by decide)).trans (State.bit_setBit_same _ _ _ rfl)

theorem fld_madeValid_class {s : State} (h : s.bit Fld.PIT_STATUS.VALID = false) : s.madeValid.fld Fld.PIT_STATUS.CLASS = 4 := by
  rw [State.madeValid, if_neg (by simp [h])]
  exact State.fld_setFld_same ..

section
variable {s : State} (offset : Int) (delay : Nat) (link : LinkId) (hj : s.joined = true) (hg : s.bit Fld.PIT_STATUS.IS_GM = false)
  (hc : s.fld Fld.PIT_GM.CLASS ≠ 5)
include hj hg hc

theorem exec_syncExchange : exec (.syncExchange offset delay link) s =
    if (s.measured offset delay link).bit Fld.PIT_STATUS.VALID && decide (offset.natAbs ≤ s.thresholds.stepThresholdNs) then
      .next ((s.measured offset delay link).madeValid.withFed { (s.measured offset delay link).madeValid.fed with slew := offset })
    else .next (((s.measured offset delay link).madeValid.setFld Fld.PIT_NOW
      (shiftTime ((s.measured offset delay link).madeValid.fld Fld.PIT_NOW) offset)).withFed
        { (s.measured offset delay link).madeValid.fed with slew := 0 }) := by
  simp only [exec, execSyncExchange, hj, hg, hc]
  have ht : (s.measured offset delay link).madeValid.thresholds = s.thresholds := by unfold State.madeValid; split <;> rfl
  rw [← ht]
  rfl

theorem syncExchange_slews (hv : s.bit Fld.PIT_STATUS.VALID = true) (hs : offset.natAbs ≤ s.thresholds.stepThresholdNs) :
    Does (.syncExchange offset delay link) s (fun t => t.bit Fld.PIT_STATUS.SYNCED = true ∧ t.bit Fld.PIT_STATUS.HOLDOVER = false ∧
      t.fld (Fld.FED_LINK.DELAY_NS.at link.val) = min delay 65535 ∧ t.fed.slew = offset ∧ t.fld Fld.PIT_NOW = s.fld Fld.PIT_NOW) := by
  have hv' : (s.measured offset delay link).bit Fld.PIT_STATUS.VALID = true := (kept_measured s offset delay link).bit _ (by decide) |>.trans hv
  obtain ⟨hsync, hhold, hdelay⟩ := measured_shown s offset delay link
  refine ⟨_, (exec_syncExchange offset delay link hj hg hc).trans (if_pos (by simp [hv', hs])), ?_⟩
  rw [madeValid_valid hv']
  exact ⟨hsync, hhold, hdelay, rfl, (kept_measured s offset delay link).fld _ (by decide)⟩

theorem syncExchange_steps (hs : s.bit Fld.PIT_STATUS.VALID = false ∨ s.thresholds.stepThresholdNs < offset.natAbs) :
    Does (.syncExchange offset delay link) s (fun t => t.fld Fld.PIT_NOW = ((s.fld Fld.PIT_NOW : Int) + offset).toNat % 2 ^ 64 ∧ t.fed.slew = 0 ∧
      t.bit Fld.PIT_STATUS.SYNCED = true ∧ t.bit Fld.PIT_STATUS.VALID = true ∧
      (s.bit Fld.PIT_STATUS.VALID = false → t.fld Fld.PIT_STATUS.CLASS = 4)) := by
  have hv : (s.measured offset delay link).bit Fld.PIT_STATUS.VALID = s.bit Fld.PIT_STATUS.VALID := (kept_measured s offset delay link).bit _ (by decide)
  have hnow : (s.measured offset delay link).madeValid.fld Fld.PIT_NOW = s.fld Fld.PIT_NOW :=
    ((kept_madeValid _).fld _ (by decide)).trans ((kept_measured s offset delay link).fld _ (by decide))
  have hsync := (measured_shown s offset delay link).1
  rw [← (kept_madeValid _).bit _ (by decide)] at hsync
  refine ⟨_, (exec_syncExchange offset delay link hj hg hc).trans (if_neg ?_), ?_, rfl, ?_, ?_, fun h => ?_⟩
  · rcases hs with h | h
    · simp [hv, h]
    · simp [Nat.not_le.mpr h]
  · rw [hnow]
    exact State.fld_setFld_same ..
  · exact (State.bit_setFld_ne _ _ _ _ (by decide)).trans hsync
  · exact (State.bit_setFld_ne _ _ _ _ (by decide)).trans (bit_madeValid _)
  · exact (State.fld_setFld_ne _ _ _ _ (by decide)).trans (fld_madeValid_class (hv.trans h))

end

theorem exec_syncExchange_not_due {s : State} (h : s.joined = false ∨ s.bit Fld.PIT_STATUS.IS_GM = true ∨ s.fld Fld.PIT_GM.CLASS = 5)
    (offset : Int) (delay : Nat) (link : LinkId) : exec (.syncExchange offset delay link) s = .next s :=
  if_pos (by rcases h with h | h | h <;> simp [h])

/-! ### The commands of pitch time (R334, R338, R348) -/

theorem pitDone_error (s : State) {e : Nat} (h : e < 16) : (s.pitDone e).fld Fld.PIT_CMD_STATUS.ERROR = e :=
  (State.fld_setFld_same ..).trans (Nat.mod_eq_of_lt h)

theorem pitDone_done (s : State) (e : Nat) : (s.pitDone e).bit Fld.PIT_CMD_STATUS.DONE = true :=
  (State.bit_setFld_ne _ _ _ _ (by decide)).trans (State.bit_setBit_same _ _ _ rfl)

theorem hostTime_shown (s : State) {cls : Nat} (h : cls < 8) : (s.hostTime cls).fld Fld.PIT_NOW = s.fld Fld.PIT_SET % 2 ^ 64 ∧
    (s.hostTime cls).bit Fld.PIT_STATUS.VALID = true ∧ (s.hostTime cls).fld Fld.PIT_STATUS.CLASS = cls := by
  refine ⟨?now, ?valid, (State.fld_setFld_same ..).trans (Nat.mod_eq_of_lt h)⟩
  case now =>
    show (((s.setFld Fld.PIT_NOW _).setBit Fld.PIT_STATUS.VALID true).setFld Fld.PIT_STATUS.CLASS cls).fld _ = _
    simp (disch := decide) only [State.fld_setFld_ne, State.fld_setBit_ne, State.fld_setFld_same]
    rfl
  case valid => exact (State.bit_setFld_ne _ _ _ _ (by decide)).trans (State.bit_setBit_same _ _ _ rfl)

section
variable {s : State} (ht : s.Takes Fld.PIT_CMD.CMD.addr)
include ht

theorem exec_pitSet : exec .pitSet s = if s.mayTime then .next ((s.hostTime 3).pitDone 0) else .next (s.pitDone 1) := by
  simp only [exec, execPitSet, command_takes _ _ _ ht]

theorem exec_pitSetUtc : exec .pitSetUtc s =
    if s.mayTime then .next ((s.setFld Fld.PIT_UTC.OFFSET (s.fld Fld.PIT_UTC.NEW)).pitDone 0) else .next (s.pitDone 1) := by
  simp only [exec, execPitSetUtc, command_takes _ _ _ ht]

theorem exec_pitResync : exec .pitResync s =
    .next ((if s.joined && !s.bit Fld.PIT_STATUS.IS_GM then s.fedSend .exchange else s).pitDone 0) := by
  simp only [exec, execPitResync, command_takes _ _ _ ht]

theorem exec_pitSetAtPps : exec .pitSetAtPps s =
    if !s.mayTime then .next (s.pitDone 1)
    else if !s.ppsIn || !s.bit Fld.PIT_STATUS.PPS_PRESENT then .next (s.pitDone 2)
    else .next ((s.withFed { s.fed with armed := true }).setBit Fld.PIT_CMD_STATUS.BUSY true) := by
  simp only [exec, execPitSetAtPps, command_takes _ _ _ ht]

end

/-! ### PPS_IN (R336, R338, R480) -/

theorem withFed_fed (s : State) (f : Fed) : (s.withFed f).fed = f := rfl

theorem elect_fed (s : State) (cands : List Announce) : (s.elect cands).fed = { s.fed with candidates := cands } := by
  simp only [State.elect]
  split
  next => simp only [State.setBit_fed, State.setFld_fed, withFed_fed]
  next => simp only [apply_ite State.fed, State.setBit_fed, State.setFld_fed, withFed_fed, ite_self]

theorem reclass_fed (s : State) (cls : Nat) : (s.reclass cls).fed = s.fed := by
  simp only [State.reclass, apply_ite State.fed, elect_fed, State.setFld_fed, ite_self]

theorem reclass_class (s : State) {cls : Nat} (h : cls < 8) : (s.reclass cls).fld Fld.PIT_STATUS.CLASS = cls := by
  have hset : (s.setFld Fld.PIT_STATUS.CLASS cls).fld Fld.PIT_STATUS.CLASS = cls := (State.fld_setFld_same ..).trans (Nat.mod_eq_of_lt h)
  simp only [State.reclass]
  split
  next => exact (Kept.fld (kept_State_elect _ _) _ (by decide)).trans hset
  next => exact hset

/-- The state after an edge of PPS_IN: it is present, and seen now. -/
def State.pulsed (s : State) : State := (s.withFed { s.fed with ppsAt := s.now, ppsLostAt := none }).setBit Fld.PIT_STATUS.PPS_PRESENT true

/-- An armed SET_AT_PPS taken out. -/
def State.disarmed (s : State) : State := (s.withFed { s.fed with armed := false }).setBit Fld.PIT_CMD_STATUS.BUSY false

/-- PPS_IN absent from now on. -/
def State.unpulsed (s : State) : State := (s.withFed { s.fed with ppsLostAt := some s.now }).setBit Fld.PIT_STATUS.PPS_PRESENT false

/-- The state after the loss of PPS_IN, an armed SET_AT_PPS ended with error 2. -/
def State.pulseLost (s : State) : State := if s.fed.armed then s.unpulsed.disarmed.pitDone 2 else s.unpulsed

theorem exec_ppsInEdge {s : State} (h : s.ppsIn = true) : exec .ppsInEdge s =
    if s.fed.armed then .next (((s.pulsed.disarmed.hostTime 1).reclass 1).pitDone 0)
    else if s.pulsed.fld Fld.PIT_STATUS.CLASS = 2 then .next ((s.pulsed.setBit Fld.PIT_STATUS.HOLDOVER false).reclass 1) else .next s.pulsed := by
  simp only [exec, execPpsInEdge, h]
  rfl

theorem exec_ppsInLoss {s : State} (h : s.bit Fld.PIT_STATUS.PPS_PRESENT = true) : exec .ppsInLoss s =
    if s.pulseLost.fld Fld.PIT_STATUS.CLASS = 1 then .next ((s.pulseLost.setBit Fld.PIT_STATUS.HOLDOVER true).reclass 2) else .next s.pulseLost := by
  simp only [exec, execPpsInLoss, h]
  rfl

theorem kept_pulsed (s : State) : Kept [Fld.PIT_STATUS.PPS_PRESENT] s s.pulsed := Kept.setBit rfl (Kept.regs rfl Kept.refl)

theorem kept_disarmed (s : State) : Kept [Fld.PIT_CMD_STATUS.BUSY] s s.disarmed := Kept.setBit rfl (Kept.regs rfl Kept.refl)

theorem kept_pulseLost (s : State) :
    Kept [Fld.PIT_STATUS.PPS_PRESENT, Fld.PIT_CMD_STATUS.BUSY, Fld.PIT_CMD_STATUS.DONE, Fld.PIT_CMD_STATUS.ERROR] s s.pulseLost :=
  Kept.ite (Kept.step (kept_State_pitDone _ _) rfl (Kept.setBit rfl (Kept.regs rfl (Kept.setBit rfl (Kept.regs rfl Kept.refl)))))
    (Kept.setBit rfl (Kept.regs rfl Kept.refl))

theorem pulseLost_present (s : State) : s.pulseLost.bit Fld.PIT_STATUS.PPS_PRESENT = false := by
  have h : s.unpulsed.bit Fld.PIT_STATUS.PPS_PRESENT = false := State.bit_setBit_same _ _ _ rfl
  unfold State.pulseLost
  split
  next => exact (Kept.bit (kept_State_pitDone _ _) _ (by decide)).trans (((kept_disarmed _).bit _ (by decide)).trans h)
  next => exact h

theorem pulseLost_fed (s : State) : s.pulseLost.fed = { s.fed with ppsLostAt := some s.now, armed := false } := by
  unfold State.pulseLost
  split
  next => rfl
  next h =>
    rw [← Bool.eq_false_iff.mpr h]
    rfl

theorem pulseLost_error {s : State} (h : s.fed.armed = true) : s.pulseLost.fld Fld.PIT_CMD_STATUS.ERROR = 2 := by
  rw [State.pulseLost, if_pos h]
  exact pitDone_error _ (by decide)

theorem exec_ppsHoldoverExpiry (s : State) : exec .ppsHoldoverExpiry s =
    if s.fld Fld.PIT_STATUS.CLASS = 2 then .next ((s.setBit Fld.PIT_STATUS.HOLDOVER false).reclass 3) else .next s := rfl

/-! ### Messages that repeat, end or stand for a grandmaster (R332, R333, R336) -/

theorem helloRetry_out (l : List LinkId) (s : State) :
    (l.foldl (fun (st : State) (k : LinkId) => if st.bit (Fld.FED_LINK.UP.at k.val) then st.fedSend (.hello k) else st) s).fed.out =
      s.fed.out ++ (l.filter (fun k => s.bit (Fld.FED_LINK.UP.at k.val))).map FedMsg.hello := by
  induction l generalizing s with
  | nil => exact (List.append_nil _).symm
  | cons k l ih =>
    have hsent : (s.fedSend (.hello k)).fed.out = s.fed.out ++ [.hello k] := rfl
    have hbit : ∀ f, (s.fedSend (.hello k)).bit f = s.bit f := fun _ => rfl
    rw [List.foldl_cons, ih]
    cases hup : s.bit (Fld.FED_LINK.UP.at k.val) <;> simp [hup, hsent, hbit]

theorem exec_helloRetry {s : State} (h : s.fld Fld.FED_STATUS.REFUSE_REASON ≠ 0) : exec .helloRetry s =
    .next ((List.finRange 4).foldl (fun (st : State) (k : LinkId) =>
      if st.bit (Fld.FED_LINK.UP.at k.val) then st.fedSend (.hello k) else st) s) := if_neg h

theorem exec_gmAnnounce {s : State} (h : s.bit Fld.PIT_STATUS.IS_GM = true) : exec .gmAnnounce s =
    .next ((s.setFld Fld.PIT_GM.CLASS (s.fld Fld.PIT_STATUS.CLASS)).fedSend
      (.announce ⟨s.nodeId, s.fld Fld.PIT_STATUS.CLASS, s.ownIdentity.gmPriority, 0⟩)) := if_pos h

/-- Settles O51: each message, command and edge takes one branch of its meaning, read field by field. -/
theorem federationAndPitchTimeFollowTheirMessages : Obligations.FederationAndPitchTimeFollowTheirMessages := by
  refine ⟨?member, ?foreign, ?retry, ?leave, ?announce, ?elected, ?slews, ?stepsAhead, ?set, ?setRefused, ?setAtPps, ?noPulse, ?utc, ?resync,
    ?edgeArmed, ?edgeClass2, ?lossClass1, ?lossArmed, ?holdover, ?outSecond, ?closedLink, ?newcomer, ?otherDevice, ?full, ?twinAbove,
    ?twinBelow, ?allForeign, ?retryIdle, ?leaveSelf, ?announceIdle, ?noCandidate, ?notJoined, ?steps, ?syncIdle, ?setAtPpsRefused,
    ?ppsDisabled, ?utcRefused, ?resyncAlone, ?edgeDisabled, ?edgePlain, ?lossIdle, ?lossPlain, ?holdoverIdle, ?outIdle⟩
  case member =>
    intro s link h hen hport hu hn hm
    have hown : ¬ (h.node = (s.greeted link h).nodeId ∧ h.device ≠ (s.greeted link h).fld Fld.SYS_DEVICE_ID) := fun e =>
      hn (e.1.trans (greeted_nodeId s link h))
    have hm' : tget (s.greeted link h).fed.members h.node = some h.device := by rw [(greeted_same s link h).2.2, hm]
    obtain ⟨t, ht, hup, hstate, hlisted, hheard, -⟩ := helloReceive_admits hen hport hu ((hearHello_known hown hm').trans (if_pos rfl))
    exact ⟨t, ht, hup, hstate, hlisted, hheard⟩
  case newcomer =>
    intro s link h hen hport hu hown hm hroom
    rw [← greeted_nodeId s link h, ← (kept_greeted s link h).fld Fld.SYS_DEVICE_ID (by decide)] at hown
    rw [← (greeted_same s link h).2.2] at hm hroom
    exact helloReceive_admits hen hport hu ((hearHello_unknown hown hm).trans (if_neg (Nat.not_le.mpr hroom)))
  case otherDevice =>
    intro s link h d hen hport hu hown hm hd hup
    rw [← greeted_nodeId s link h, ← (kept_greeted s link h).fld Fld.SYS_DEVICE_ID (by decide)] at hown
    have hm' : tget (s.greeted link h).fed.members h.node = some d := by rw [(greeted_same s link h).2.2, hm]
    obtain ⟨t, ht, hstate, hrest⟩ := helloReceive_refuses hen hport hu hup ((hearHello_known hown hm').trans (if_neg hd))
    exact ⟨t, ht, hstate (by rw [hm]; exact fun e => hd (Option.some.inj e)), hrest⟩
  case full =>
    intro s link h hen hport hu hown hm hfull hup
    rw [← greeted_nodeId s link h, ← (kept_greeted s link h).fld Fld.SYS_DEVICE_ID (by decide)] at hown
    have hm' : tget (s.greeted link h).fed.members h.node = none := by rw [(greeted_same s link h).2.2, hm]
    rw [← (greeted_same s link h).2.2] at hfull
    obtain ⟨t, ht, hstate, hrest⟩ := helloReceive_refuses hen hport hu hup ((hearHello_unknown hown hm').trans (if_pos hfull))
    exact ⟨t, ht, hstate (by simp [hm]), hrest⟩
  case twinAbove =>
    intro s link h hen hport hu hn hd hup
    rw [← (kept_greeted s link h).fld Fld.SYS_DEVICE_ID (by decide)] at hd
    obtain ⟨t, ht, -, hrest⟩ := helloReceive_refuses hen hport hu hup (hearHello_twin_above (hn.trans (greeted_nodeId s link h).symm) hd)
    exact ⟨t, ht, hrest⟩
  case twinBelow => exact fun s link h hen hport hu hn hd => helloReceive_leaves hen hport hu hn hd
  case foreign =>
    intro s link h hen hport hu
    obtain ⟨t, ht, hstate, -, hfed, -⟩ := helloReceive_foreign hen hport hu
    exact ⟨t, ht, hstate, (congrArg Fed.members hfed).trans (greeted_same s link h).2.2⟩
  case allForeign =>
    intro s link h hen hport hu hup hall
    obtain ⟨t, ht, hstate, hshown, hfed, hreason⟩ := helloReceive_foreign hen hport hu
    exact ⟨t, ht, hstate, hshown, hreason hall, (congrArg Fed.out hfed).trans (greeted_out_down hup h)⟩
  case closedLink =>
    intro s link h hc
    exact ⟨s, if_pos (by rcases hc with hc | hc <;> simp [hc]), rfl⟩
  case retry => exact fun s h => ⟨_, exec_helloRetry h, helloRetry_out _ s⟩
  case retryIdle => exact fun s h => ⟨s, if_pos h, rfl⟩
  case leave => exact fun s node h => ⟨_, if_neg h, tget_tdel_same .., tget_tdel_same .., rfl⟩
  case leaveSelf => exact fun s node h => ⟨s, if_pos h, rfl⟩
  case announce => exact fun s h => ⟨_, exec_gmAnnounce h, rfl⟩
  case announceIdle => exact fun s h => ⟨s, if_neg (by simp [h]), rfl⟩
  case elected => exact fun s cands b hj hb => ⟨_, if_pos hj, elect_some hb⟩
  case noCandidate => exact fun s cands hj hb => ⟨_, if_pos hj, elect_none hb⟩
  case notJoined => exact fun s cands hj => ⟨s, if_neg (by simp [hj]), rfl⟩
  case slews => exact fun s offset delay link hj hg hc hv hs => syncExchange_slews offset delay link hj hg hc hv hs
  case steps => exact fun s offset delay link hj hg hc hs => syncExchange_steps offset delay link hj hg hc hs
  case stepsAhead =>
    intro s offset delay link hj hg hc hs
    obtain ⟨t, ht, hnow, hslew, -⟩ := syncExchange_steps offset delay link hj hg hc (.inr (by simpa using hs))
    exact ⟨t, ht, hnow, hslew⟩
  case syncIdle => exact fun s offset delay link h => ⟨s, exec_syncExchange_not_due h offset delay link, rfl⟩
  case set =>
    intro s ht hm
    obtain ⟨hnow, hvalid, hcls⟩ := hostTime_shown s (cls := 3) (by decide)
    have hk : Kept _ (s.hostTime 3) _ := kept_State_pitDone (s.hostTime 3) 0
    exact ⟨_, (exec_pitSet ht).trans (if_pos hm), (hk.fld _ (by decide)).trans hnow, (hk.bit _ (by decide)).trans hvalid,
      (hk.fld _ (by decide)).trans hcls, pitDone_error _ (by decide), pitDone_done ..⟩
  case setRefused =>
    intro s ht hm
    exact ⟨_, (exec_pitSet ht).trans (if_neg (by simp [hm])), pitDone_error _ (by decide), Kept.fld (kept_State_pitDone s 1) _ (by decide)⟩
  case setAtPps =>
    intro s ht hm hp hpulse
    exact ⟨_, (exec_pitSetAtPps ht).trans ((if_neg (by simp [hm])).trans (if_neg (by simp [hp, hpulse]))), rfl,
      State.bit_setBit_same _ _ _ rfl, State.fld_setBit_ne _ _ _ _ (by decide)⟩
  case noPulse =>
    intro s ht hm hpulse
    exact ⟨_, (exec_pitSetAtPps ht).trans ((if_neg (by simp [hm])).trans (if_pos (by simp [hpulse]))), pitDone_error _ (by decide), rfl⟩
  case ppsDisabled =>
    intro s ht hm hp
    exact ⟨_, (exec_pitSetAtPps ht).trans ((if_neg (by simp [hm])).trans (if_pos (by simp [hp]))), pitDone_error _ (by decide), rfl⟩
  case setAtPpsRefused => exact fun s ht hm => ⟨_, (exec_pitSetAtPps ht).trans (if_pos (by simp [hm])), pitDone_error _ (by decide), rfl⟩
  case utc =>
    intro s ht hm
    exact ⟨_, (exec_pitSetUtc ht).trans (if_pos hm), (Kept.fld (kept_State_pitDone _ 0) _ (by decide)).trans (State.fld_setFld_same ..),
      pitDone_error _ (by decide)⟩
  case utcRefused =>
    intro s ht hm
    exact ⟨_, (exec_pitSetUtc ht).trans (if_neg (by simp [hm])), Kept.fld (kept_State_pitDone s 1) _ (by decide), pitDone_error _ (by decide)⟩
  case resync =>
    intro s ht hj hg
    refine ⟨_, exec_pitResync ht, ?_, pitDone_done ..⟩
    rw [if_pos (by simp [hj, hg])]
    rfl
  case resyncAlone =>
    intro s ht h
    refine ⟨_, exec_pitResync ht, ?_, pitDone_done .., pitDone_error _ (by decide)⟩
    rw [if_neg (by rcases h with h | h <;> simp [h])]
    rfl
  case edgeArmed =>
    intro s hp ha
    obtain ⟨hnow, -, -⟩ := hostTime_shown s.pulsed.disarmed (cls := 1) (by decide)
    have hr : Kept _ (s.pulsed.disarmed.hostTime 1) _ := kept_State_reclass (s.pulsed.disarmed.hostTime 1) 1
    have hd : Kept _ ((s.pulsed.disarmed.hostTime 1).reclass 1) _ := kept_State_pitDone ((s.pulsed.disarmed.hostTime 1).reclass 1) 0
    have ht : Kept _ s.pulsed.disarmed _ := kept_State_hostTime s.pulsed.disarmed 1
    have hset : s.pulsed.disarmed.fld Fld.PIT_SET = s.fld Fld.PIT_SET :=
      ((kept_disarmed _).fld _ (by decide)).trans ((kept_pulsed s).fld _ (by decide))
    refine ⟨_, (exec_ppsInEdge hp).trans (if_pos ha), ?now, ?cls, ?armed, ?busy, pitDone_error _ (by decide), ?present⟩
    case now => rw [hd.fld _ (by decide), hr.fld _ (by decide), hnow, hset]
    case cls => rw [hd.fld _ (by decide), reclass_class _ (by decide)]
    case armed => exact congrArg Fed.armed (reclass_fed ..)
    case busy => rw [hd.bit _ (by decide), hr.bit _ (by decide), ht.bit _ (by decide)]; exact State.bit_setBit_same _ _ _ rfl
    case present =>
      rw [hd.bit _ (by decide), hr.bit _ (by decide), ht.bit _ (by decide), (kept_disarmed _).bit _ (by decide)]
      exact State.bit_setBit_same _ _ _ rfl
  case edgeClass2 =>
    intro s hp ha hc
    have hc' : s.pulsed.fld Fld.PIT_STATUS.CLASS = 2 := ((kept_pulsed s).fld _ (by decide)).trans hc
    refine ⟨_, (exec_ppsInEdge hp).trans ((if_neg (by simp [ha])).trans (if_pos hc')), reclass_class _ (by decide), ?now⟩
    case now =>
      rw [Kept.fld (kept_State_reclass _ _) _ (by decide), State.fld_setBit_ne _ _ _ _ (by decide), (kept_pulsed s).fld _ (by decide)]
  case edgePlain =>
    intro s hp ha hc
    have hk : ∀ f, [Fld.PIT_STATUS.PPS_PRESENT].all (fun g => g.apart f) = true → s.pulsed.fld f = s.fld f := fun f hf => (kept_pulsed s).fld f hf
    exact ⟨_, (exec_ppsInEdge hp).trans ((if_neg (by simp [ha])).trans (if_neg (by rw [hk _ (by decide)]; exact hc))), hk _ (by decide),
      hk _ (by decide), State.bit_setBit_same _ _ _ rfl, rfl, rfl⟩
  case edgeDisabled => exact fun s hp => ⟨s, if_pos (by simp [hp]), rfl⟩
  case lossClass1 =>
    intro s hp hc
    have hc' : s.pulseLost.fld Fld.PIT_STATUS.CLASS = 1 := ((kept_pulseLost s).fld _ (by decide)).trans hc
    refine ⟨_, (exec_ppsInLoss hp).trans (if_pos hc'), ?present, reclass_class _ (by decide), ?lostAt⟩
    case present =>
      rw [Kept.bit (kept_State_reclass _ _) _ (by decide), State.bit_setBit_ne _ _ _ _ (by decide)]
      exact pulseLost_present s
    case lostAt => rw [reclass_fed, State.setBit_fed, pulseLost_fed]
  case lossArmed =>
    intro s hp ha
    have hfed : s.pulseLost.fed.armed = false := congrArg Fed.armed (pulseLost_fed s)
    have herr := pulseLost_error ha
    by_cases hc : s.pulseLost.fld Fld.PIT_STATUS.CLASS = 1
    · refine ⟨_, (exec_ppsInLoss hp).trans (if_pos hc), ?_, ?_⟩
      · rw [reclass_fed, State.setBit_fed, hfed]
      · rw [Kept.fld (kept_State_reclass _ _) _ (by decide), State.fld_setBit_ne _ _ _ _ (by decide), herr]
    · exact ⟨_, (exec_ppsInLoss hp).trans (if_neg hc), hfed, herr⟩
  case lossPlain =>
    intro s hp ha hc
    have hc' : s.pulseLost.fld Fld.PIT_STATUS.CLASS = s.fld Fld.PIT_STATUS.CLASS := (kept_pulseLost s).fld _ (by decide)
    exact ⟨_, (exec_ppsInLoss hp).trans (if_neg (by rw [hc']; exact hc)), pulseLost_present s, hc', congrArg Fed.ppsLostAt (pulseLost_fed s)⟩
  case lossIdle => exact fun s hp => ⟨s, if_pos (by simp [hp]), rfl⟩
  case holdover => exact fun s hc => ⟨_, (exec_ppsHoldoverExpiry s).trans (if_pos hc), reclass_class _ (by decide)⟩
  case holdoverIdle => exact fun s hc => ⟨s, (exec_ppsHoldoverExpiry s).trans (if_neg hc), rfl⟩
  case outSecond => exact fun s hf hv => ⟨_, if_pos ⟨hf, hv⟩, rfl⟩
  case outIdle => exact fun s h => ⟨s, if_neg (by rcases h with h | h <;> simp [h]), rfl⟩

end Sys2Proof.Machine

/-!
The event recorder: records and their pages, the freeze, the token commands, and soundposts (O58).
-/
namespace Sys2Proof.Machine

/-! ### The pages of the ring (R400, R404, R405) -/

section
variable {s : State} {r : EvRec} {i : Nat} {p : EvPage}

theorem newPage_free (h : firstFree (s.evr.pages.map (·.1)) 1 1023 = some i) :
    s.newPage r = (true, (s.withPages (tput s.evr.pages i (openPage r))).noteNearly) := by
  unfold State.newPage
  generalize firstFree (s.evr.pages.map (·.1)) 1 1023 = x at h ⊢
  subst h
  rfl

theorem newPage_reclaimed (h : firstFree (s.evr.pages.map (·.1)) 1 1023 = none) (hm : s.bit Fld.EVR_STATUS.MODE = true)
    (hp : reclaimable s.evr.pages r.arr.sev = some (i, p)) :
    s.newPage r = (true, (s.incFld Fld.EVR_OVERWRITTEN p.recs.length).withPages (tput s.evr.pages i (openPage r))) := by
  unfold State.newPage
  generalize firstFree (s.evr.pages.map (·.1)) 1 1023 = x at h ⊢
  subst h
  simp only [hm, if_true, hp]

theorem newPage_full (h : firstFree (s.evr.pages.map (·.1)) 1 1023 = none)
    (hm : s.bit Fld.EVR_STATUS.MODE = false ∨ reclaimable s.evr.pages r.arr.sev = none) : s.newPage r = (false, s.dropRec r.arr.sev true) := by
  have hnone : (if s.bit Fld.EVR_STATUS.MODE then reclaimable s.evr.pages r.arr.sev else none) = none := by
    rcases hm with hm | hm <;> simp [hm]
  unfold State.newPage
  generalize firstFree (s.evr.pages.map (·.1)) 1 1023 = x at h ⊢
  subst h
  simp only [hnone]

theorem placeRec_takes (h : s.evr.pages.find? (fun p => p.2.isOpen) = some (i, p)) (ht : p.takes r.arr = true) :
    s.placeRec r = (true, s.withPages (tput s.evr.pages i (p.add r))) := by
  simp only [State.placeRec, h, ht, if_true]

theorem placeRec_closes (h : s.evr.pages.find? (fun p => p.2.isOpen) = some (i, p)) (ht : p.takes r.arr = false) :
    s.placeRec r = (s.withPages (tput s.evr.pages i { p with isOpen := false })).newPage r := by
  simp only [State.placeRec, h, ht, Bool.false_eq_true, if_false]

theorem placeRec_none (h : s.evr.pages.find? (fun p => p.2.isOpen) = none) : s.placeRec r = s.newPage r := by
  simp only [State.placeRec, h]

end

theorem noteNearly_pages (s : State) : s.noteNearly.evr.pages = s.evr.pages ∧ s.noteNearly.evr.secondCount = s.evr.secondCount := by
  unfold State.noteNearly
  split <;> exact ⟨rfl, rfl⟩

/-- What dropping a record leaves: the log as it is, and one record more counted under its severity. -/
theorem dropRec_counted (s : State) {sev : Nat} (full : Bool) : (s.dropRec sev full).evr = s.evr ∧
    (s.dropRec sev full).fld (Fld.EVR_DROP.at sev) = min (s.fld (Fld.EVR_DROP.at sev) + 1) (2 ^ Fld.EVR_DROP.width - 1) ∧
    (s.dropRec sev full).fld Fld.EVR_NEXT_SEQ = s.fld Fld.EVR_NEXT_SEQ := by
  have hcount := fld_satFld_same s (Fld.EVR_DROP.at sev) 1
  have hseq : (s.satFld (Fld.EVR_DROP.at sev) 1).fld Fld.EVR_NEXT_SEQ = s.fld Fld.EVR_NEXT_SEQ := fld_setFld_of_at _ _ _ (by decide)
  cases full with
  | false => exact ⟨rfl, hcount, hseq⟩
  | true => exact ⟨rfl, (fld_at_setFld _ _ _ (by decide)).trans hcount, (State.fld_setBit_ne _ _ _ _ (by decide)).trans hseq⟩

/-! ### A record that arrives (R403, R408, R455) -/

/-- The state whose count is that of the running second. -/
def State.inSecond (s : State) : State :=
  if s.evr.second = s.now / sec then s else { s with evr := { s.evr with second := s.now / sec, secondCount := 0 } }

/-- The state after a record was stored: the second's count and the next sequence go up. -/
def State.storedRec (s : State) : State :=
  ({ s with evr := { s.evr with secondCount := s.evr.secondCount + 1 } } : State).incFld Fld.EVR_NEXT_SEQ 1

theorem inSecond_same {s : State} (h : s.evr.second = s.now / sec) : s.inSecond = s := if_pos h

theorem inSecond_new {s : State} (h : s.evr.second ≠ s.now / sec) :
    s.inSecond = { s with evr := { s.evr with second := s.now / sec, secondCount := 0 } } := if_neg h

theorem commitRec_room {s : State} {r : EvRec} (hc : s.inSecond.evr.secondCount < 10000) : s.commitRec r =
    if (s.inSecond.placeRec r).1 then
      (true, { (s.inSecond.placeRec r).2 with
        evr := { (s.inSecond.placeRec r).2.evr with secondCount := (s.inSecond.placeRec r).2.evr.secondCount + 1 } })
    else s.inSecond.placeRec r := if_neg (Nat.not_le.mpr hc)

section
variable {s t : State} {a : EvArrival}

theorem recordOne_low (h : a.sev < s.recorderCfg.minSeverity) (h7 : a.sev ≠ 7) : s.recordOne a = s := if_pos ⟨h, h7⟩

variable (hsev : s.recorderCfg.minSeverity ≤ a.sev ∨ a.sev = 7)
include hsev

theorem severe : ¬ (a.sev < s.recorderCfg.minSeverity ∧ a.sev ≠ 7) := by
  rintro ⟨hlow, h7⟩
  exact hsev.elim (fun h => absurd hlow (Nat.not_lt.mpr h)) h7

theorem recordOne_used_up (hseq : s.fld Fld.EVR_NEXT_SEQ = 2 ^ 48 - 1) : s.recordOne a = s.dropRec a.sev false := by
  rw [State.recordOne, if_neg (severe hsev), if_pos hseq]

variable (hseq : s.fld Fld.EVR_NEXT_SEQ < 2 ^ 48 - 1)
include hseq

theorem recordOne_frozen (hf : s.bit Fld.EVR_STATUS.FROZEN = true) : s.recordOne a =
    if s.evr.sideQ.length < 64 then
      ({ s with evr := { s.evr with sideQ := s.evr.sideQ ++ [⟨s.fld Fld.EVR_NEXT_SEQ, a⟩] } } : State).incFld Fld.EVR_NEXT_SEQ 1
    else s.dropRec a.sev false := by
  rw [State.recordOne, if_neg (severe hsev), if_neg hseq.ne]
  exact if_pos hf

variable (hf : s.bit Fld.EVR_STATUS.FROZEN = false)
include hf

theorem recordOne_open : s.recordOne a = if (s.commitRec ⟨s.fld Fld.EVR_NEXT_SEQ, a⟩).1
    then (s.commitRec ⟨s.fld Fld.EVR_NEXT_SEQ, a⟩).2.incFld Fld.EVR_NEXT_SEQ 1 else (s.commitRec ⟨s.fld Fld.EVR_NEXT_SEQ, a⟩).2 := by
  rw [State.recordOne, if_neg (severe hsev), if_neg hseq.ne]
  exact if_neg (by simp [hf])

theorem recordOne_flood (hc : 10000 ≤ s.inSecond.evr.secondCount) : s.recordOne a = s.inSecond.dropRec a.sev false := by
  have hcommit : s.commitRec ⟨s.fld Fld.EVR_NEXT_SEQ, a⟩ = (false, s.inSecond.dropRec a.sev false) := if_pos hc
  rw [recordOne_open hsev hseq hf, hcommit]
  exact if_neg Bool.false_ne_true

variable (hc : s.inSecond.evr.secondCount < 10000)
include hc

theorem recordOne_placed (hp : s.inSecond.placeRec ⟨s.fld Fld.EVR_NEXT_SEQ, a⟩ = (true, t)) : s.recordOne a = t.storedRec := by
  rw [recordOne_open hsev hseq hf, commitRec_room hc, hp]
  rfl

theorem recordOne_unplaced (hp : s.inSecond.placeRec ⟨s.fld Fld.EVR_NEXT_SEQ, a⟩ = (false, t)) : s.recordOne a = t := by
  rw [recordOne_open hsev hseq hf, commitRec_room hc, hp]
  rfl

theorem recordOne_placed_seq (hp : s.inSecond.placeRec ⟨s.fld Fld.EVR_NEXT_SEQ, a⟩ = (true, t)) :
    (s.recordOne a).fld Fld.EVR_NEXT_SEQ = s.fld Fld.EVR_NEXT_SEQ + 1 := by
  have hsec : s.inSecond.fld Fld.EVR_NEXT_SEQ = s.fld Fld.EVR_NEXT_SEQ := by
    unfold State.inSecond
    split <;> rfl
  have ht : t.fld Fld.EVR_NEXT_SEQ = s.fld Fld.EVR_NEXT_SEQ := by
    have hk := Kept.fld (kept_State_placeRec s.inSecond ⟨s.fld Fld.EVR_NEXT_SEQ, a⟩) Fld.EVR_NEXT_SEQ (by decide)
    rwa [hp, hsec] at hk
  have hinc : t.storedRec.fld Fld.EVR_NEXT_SEQ = (t.fld Fld.EVR_NEXT_SEQ + 1) % 2 ^ 48 := fld_incFld_same ..
  rw [recordOne_placed hsev hseq hf hc hp, hinc, ht]
  omega

end

/-- The state whose next arrival has been taken out. -/
def State.arrived (s : State) (r : List EvArrival) : State := { s with evr := { s.evr with arrivals := r } }

theorem exec_eventRecord {s : State} {a : EvArrival} {r : List EvArrival} (h : s.evr.arrivals = a :: r) :
    exec .eventRecord s = .next ((s.arrived r).recordOne a) := by
  simp only [exec, execEventRecord, h]
  rfl

/-! ### The freeze (R408) -/

/-- Two states whose recorders differ in pages, arrivals and the second's count alone. -/
def SameRecorder (s t : State) : Prop := ∃ p a x n, t.evr = { s.evr with pages := p, arrivals := a, second := x, secondCount := n }

theorem SameRecorder.refl (s : State) : SameRecorder s s := ⟨_, _, _, _, rfl⟩

theorem SameRecorder.trans {s t u : State} (h : SameRecorder s t) (k : SameRecorder t u) : SameRecorder s u := by
  obtain ⟨_, _, _, _, ht⟩ := h
  obtain ⟨p, a, x, n, hu⟩ := k
  exact ⟨p, a, x, n, by rw [hu, ht]⟩

theorem SameRecorder.ofEvr {s t u : State} (h : SameRecorder s t) (k : u.evr = t.evr) : SameRecorder s u := by
  obtain ⟨p, a, x, n, ht⟩ := h
  exact ⟨p, a, x, n, k.trans ht⟩

theorem sameRecorder_withPages (s : State) (t : Tbl EvPage) : SameRecorder s (s.withPages t) := ⟨_, _, _, _, rfl⟩

theorem sameRecorder_noteNearly (s : State) : SameRecorder s s.noteNearly := by
  unfold State.noteNearly
  split <;> exact ⟨_, _, _, _, rfl⟩

theorem sameRecorder_dropRec (s : State) (sev : Nat) (full : Bool) : SameRecorder s (s.dropRec sev full) :=
  (SameRecorder.refl s).ofEvr (dropRec_counted s full).1

theorem sameRecorder_newPage (s : State) (r : EvRec) : SameRecorder s (s.newPage r).2 := by
  unfold State.newPage
  split
  next => exact (sameRecorder_withPages _ _).trans (sameRecorder_noteNearly _)
  next =>
    split
    next => exact ⟨_, _, _, _, rfl⟩
    next => exact sameRecorder_dropRec ..

theorem sameRecorder_placeRec (s : State) (r : EvRec) : SameRecorder s (s.placeRec r).2 := by
  unfold State.placeRec
  split
  next =>
    split
    next => exact ⟨_, _, _, _, rfl⟩
    next => exact (sameRecorder_withPages _ _).trans (sameRecorder_newPage _ _)
  next => exact sameRecorder_newPage _ _

theorem sameRecorder_inSecond (s : State) : SameRecorder s s.inSecond := by
  unfold State.inSecond
  split <;> exact ⟨_, _, _, _, rfl⟩

theorem sameRecorder_commitRec (s : State) (r : EvRec) : SameRecorder s (s.commitRec r).2 := by
  refine (sameRecorder_inSecond s).trans ?_
  by_cases hc : s.inSecond.evr.secondCount < 10000
  · rw [commitRec_room hc]
    refine (sameRecorder_placeRec s.inSecond r).trans ?_
    split <;> exact ⟨_, _, _, _, rfl⟩
  · have hflood : s.commitRec r = (false, s.inSecond.dropRec r.arr.sev false) := if_pos (Nat.not_lt.mp hc)
    rw [hflood]
    exact sameRecorder_dropRec ..

theorem sameRecorder_commitAll (l : List EvRec) (s : State) : SameRecorder s (l.foldl (fun (st : State) r => (st.commitRec r).2) s) := by
  induction l generalizing s with
  | nil => exact SameRecorder.refl s
  | cons r l ih => exact (sameRecorder_commitRec s r).trans (ih _)

/-- The state whose freeze has ended and whose side queue has been taken out. -/
def State.unfrozen (s : State) : State :=
  let s := (s.setBit Fld.EVR_STATUS.FROZEN false).setFld Fld.EVR_STATUS.FREEZE_OWNER 0
  { s with evr := { s.evr with sideQ := [] } }

theorem thaw_frozen {s : State} (h : s.bit Fld.EVR_STATUS.FROZEN = true) :
    s.thaw = s.evr.sideQ.foldl (fun (st : State) r => (st.commitRec r).2) s.unfrozen := if_pos h

theorem kept_commitAll (l : List EvRec) (s : State) :
    Kept [Fld.EVR_DROP, Fld.EVR_OVERWRITTEN, Fld.EVR_STATUS.FULL, Fld.EVR_STATUS.NEARLY_FULL] s
      (l.foldl (fun (st : State) r => (st.commitRec r).2) s) :=
  Kept.foldl (fun _ r h => Kept.step (kept_State_commitRec _ r) rfl h) Kept.refl

theorem thaw_ends_freeze {s : State} (h : s.bit Fld.EVR_STATUS.FROZEN = true) :
    s.thaw.bit Fld.EVR_STATUS.FROZEN = false ∧ s.thaw.evr.sideQ = [] := by
  rw [thaw_frozen h]
  refine ⟨?frozen, ?queue⟩
  case frozen =>
    rw [(kept_commitAll s.evr.sideQ s.unfrozen).bit _ (by decide)]
    exact (State.bit_setFld_ne _ _ _ _ (by decide)).trans (State.bit_setBit_same _ _ _ rfl)
  case queue =>
    obtain ⟨p, a, x, n, he⟩ := sameRecorder_commitAll s.evr.sideQ s.unfrozen
    exact congrArg Evr.sideQ he

/-- A thaw changes pages, arrivals, the second's count and the side queue alone. -/
theorem thaw_evr (s : State) : ∃ p a x n q, s.thaw.evr = { s.evr with pages := p, arrivals := a, second := x, secondCount := n, sideQ := q } := by
  by_cases h : s.bit Fld.EVR_STATUS.FROZEN = true
  · obtain ⟨p, a, x, n, he⟩ := sameRecorder_commitAll s.evr.sideQ s.unfrozen
    exact ⟨p, a, x, n, [], (congrArg State.evr (thaw_frozen h)).trans he⟩
  · exact ⟨_, _, _, _, _, congrArg State.evr (show s.thaw = s from if_neg h)⟩

/-! ### Ends of commands and tokens (R409 to R411, R418) -/

theorem evrDone_shown (s : State) {e : Nat} (h : e < 16) : (s.evrDone e).fld Fld.EVR_CMD_STATUS.ERROR = e ∧
    (s.evrDone e).bit Fld.EVR_CMD_STATUS.DONE = true ∧ (s.evrDone e).fld Fld.EVR_AUTH_KEY = 0 ∧ (s.evrDone e).evr = s.evr := by
  refine ⟨?error, ?done, State.fld_setFld_same .., rfl⟩
  case error => exact (State.fld_setFld_ne _ _ _ _ (by decide)).trans ((State.fld_setFld_same ..).trans (Nat.mod_eq_of_lt h))
  case done =>
    exact (State.bit_setFld_ne _ _ _ _ (by decide)).trans ((State.bit_setFld_ne _ _ _ _ (by decide)).trans (State.bit_setBit_same _ _ _ rfl))

theorem tokenChecked_bad (s : State) (op iface : Nat) : (s.tokenChecked op iface false).evr.pages = s.evr.pages ∧
    (s.tokenChecked op iface false).evr.failures = s.evr.failures + 1 ∧ (s.tokenChecked op iface false).evr.authKey = s.evr.authKey := by
  simp only [State.tokenChecked]
  split
  next h => exact absurd h Bool.false_ne_true
  next => split <;> exact ⟨rfl, rfl, rfl⟩

theorem tokenOk_enrolled {s : State} {op arg token : Nat} (h : s.tokenOk op arg token = true) : s.evr.authKey.isSome = true := by
  cases hk : s.evr.authKey with
  | none => simp [State.tokenOk, hk] at h
  | some k => rfl

/-! ### Soundposts (R413, R414) -/

theorem writeSoundpost_written (s : State) (cause : Nat) : ∃ p, p.cause = cause ∧ p.seq = s.fld Fld.SP_LAST_SEQ + 1 ∧
    tget (s.writeSoundpost cause).evr.spEmram ((s.fld Fld.SP_LAST_SEQ + 1) % 4) = some p ∧
    (s.writeSoundpost cause).evr.spNowAt = s.evr.spNowAt ∧
    (s.writeSoundpost cause).fld Fld.SP_LAST_SEQ = (s.fld Fld.SP_LAST_SEQ + 1) % 2 ^ 64 := by
  have hseq : s.thaw.fld Fld.SP_LAST_SEQ = s.fld Fld.SP_LAST_SEQ := Kept.fld (kept_State_thaw s) _ (by decide)
  obtain ⟨p, a, x, n, q, he⟩ := thaw_evr s
  have hnew : (s.thaw.soundpostNow cause).seq = s.fld Fld.SP_LAST_SEQ + 1 := congrArg (· + 1) hseq
  refine ⟨s.thaw.soundpostNow cause, rfl, hnew, ?emram, ?at_, ?last⟩
  case emram =>
    rw [← hnew]
    exact tget_tput_same ..
  case at_ =>
    show s.thaw.evr.spNowAt = _
    rw [he]
  case last =>
    rw [← hnew]
    exact State.fld_setFld_same ..

theorem exec_soundpostNow {s : State} (h : ∀ t, s.evr.spNowAt = some t → t + 60 * sec ≤ s.now) : exec .soundpostNow s =
    .next ((({ s with evr := { s.evr with spNowAt := some s.now } } : State).writeSoundpost 4).evrDone 0) := by
  simp only [exec, execSoundpostNow]
  refine if_neg ?_
  cases ht : s.evr.spNowAt with
  | none => exact Bool.false_ne_true
  | some t => simpa using h t ht

/-! ### The clear and the token's key (R409, R412) -/

/-- The log with the record of its clear as the one record of page 1. -/
def State.restartedLog (s : State) (owner : Nat) : State :=
  (s.withPages [(1, openPage ⟨s.fld Fld.EVR_NEXT_SEQ, .clearRec, evSev .clearRec, s.pitch, [owner, s.lastSeq] ++
    (List.range 8).map (fun i => s.fld (Fld.EVR_DROP.at i)) ++ [s.fld Fld.EVR_OVERWRITTEN]⟩)]).incFld Fld.EVR_NEXT_SEQ 1

/-- The counts of dropped records at zero. -/
def State.dropsZeroed (s : State) : State := (List.range 8).foldl (fun (st : State) i => st.setFld (Fld.EVR_DROP.at i) 0) s

theorem fld_dropsZeroed (s : State) {i : Nat} (h : i < 8) : s.dropsZeroed.fld (Fld.EVR_DROP.at i) = 0 := by
  simp only [State.dropsZeroed, List.range, List.range.loop, List.foldl]
  interval_cases i <;> simp (disch := decide) only [State.fld_setFld_ne, State.fld_setFld_same, Nat.zero_mod]

/-- The log restarted with every counter and flag at zero. -/
def State.clearedLog (s : State) (owner : Nat) : State :=
  (((s.restartedLog owner).dropsZeroed.setFld Fld.EVR_OVERWRITTEN 0).setBit Fld.EVR_STATUS.NEARLY_FULL false).setBit Fld.EVR_STATUS.FULL false

theorem finishClear_eq (s : State) (owner : Nat) :
    s.finishClear owner = { s.clearedLog owner with evr := { (s.clearedLog owner).evr with journal := false } } := by
  unfold State.finishClear State.clearedLog State.dropsZeroed State.restartedLog
  rfl

theorem fld_finishClear (s : State) (owner : Nat) (f : Field) : (s.finishClear owner).fld f = (s.clearedLog owner).fld f := by
  rw [finishClear_eq]
  rfl

theorem fld_drop_flags (s : State) {i : Nat} (h : i < 8) : (((s.setFld Fld.EVR_OVERWRITTEN 0).setBit Fld.EVR_STATUS.NEARLY_FULL false).setBit
    Fld.EVR_STATUS.FULL false).fld (Fld.EVR_DROP.at i) = s.fld (Fld.EVR_DROP.at i) := by
  interval_cases i <;> simp (disch := decide) only [State.fld_setBit_ne, State.fld_setFld_ne]

theorem fld_drop_evrDone (s : State) (e : Nat) {i : Nat} (h : i < 8) : (s.evrDone e).fld (Fld.EVR_DROP.at i) = s.fld (Fld.EVR_DROP.at i) := by
  interval_cases i <;> exact Kept.fld (kept_State_evrDone s e) _ (by decide)

theorem evr_dropsZeroed (s : State) : s.dropsZeroed.evr = s.evr := by
  simp only [State.dropsZeroed, List.range, List.range.loop, List.foldl, State.setFld_evr]

theorem clearedLog_evr (s : State) (owner : Nat) : (s.clearedLog owner).evr = (s.restartedLog owner).evr := by
  simp only [State.clearedLog, State.setBit_evr, State.setFld_evr, evr_dropsZeroed]

theorem finishClear_log (s : State) (owner : Nat) : (∃ p, (s.finishClear owner).evr.pages = [(1, p)] ∧ p.recs.length = 1) ∧
    (s.finishClear owner).evr.chal = s.evr.chal := by
  rw [finishClear_eq, clearedLog_evr]
  exact ⟨⟨_, rfl, rfl⟩, rfl⟩

theorem finishClear_counters (s : State) (owner : Nat) : (s.finishClear owner).bit Fld.EVR_STATUS.FULL = false ∧
    (s.finishClear owner).bit Fld.EVR_STATUS.NEARLY_FULL = false ∧ ∀ i, i < 8 → (s.finishClear owner).fld (Fld.EVR_DROP.at i) = 0 := by
  simp only [bit_eq_false, fld_finishClear, State.clearedLog]
  refine ⟨State.fld_setFld_same .., ?nearly, fun i hi => ?drop⟩
  case nearly => exact (State.fld_setBit_ne _ _ _ _ (by decide)).trans (State.fld_setFld_same ..)
  case drop => rw [fld_drop_flags _ hi, fld_dropsZeroed _ hi]

section
variable {s : State} {iface : Iface}

theorem exec_eventClear (hfo : s.frozenByOther iface = false) {ok : Bool} (ht : s.tokenOk 1 0 (s.fld Fld.EVR_AUTH) = ok) :
    exec (.eventClear iface) s = if ok then .next ((((s.tokenChecked 1 (ifaceOwner iface) ok).thaw).finishClear (ifaceOwner iface)).evrDone 0)
      else .next ((s.tokenChecked 1 (ifaceOwner iface) ok).evrDone 5) := by
  simp only [exec, execEventClear, hfo, ht]
  rfl

theorem exec_eventAuthSet_first (hk : s.evr.authKey = none) : exec (.eventAuthSet iface) s =
    .next ((({ s with evr := { s.evr with authKey := some (s.fld Fld.EVR_AUTH_KEY) } } : State).emit .authKeySet [ifaceOwner iface, bit1 false]).evrDone 0) := by
  simp only [exec, execEventAuthSet, hk, Option.isSome_none, Bool.not_false, Bool.true_or, Bool.false_eq_true, if_false, if_true]

theorem exec_eventAuthSet_enrolled (hk : s.evr.authKey.isSome = true) {ok : Bool} (ht : s.tokenOk 9 0 (s.fld Fld.EVR_AUTH) = ok) :
    exec (.eventAuthSet iface) s = if ok then
      .next ((({ s.tokenChecked 9 (ifaceOwner iface) ok with
        evr := { (s.tokenChecked 9 (ifaceOwner iface) ok).evr with
          authKey := some ((s.tokenChecked 9 (ifaceOwner iface) ok).fld Fld.EVR_AUTH_KEY) } } : State).emit .authKeySet
            [ifaceOwner iface, bit1 true]).evrDone 0)
      else .next ((s.tokenChecked 9 (ifaceOwner iface) ok).evrDone 5) := by
  simp only [exec, execEventAuthSet, hk, ht, Bool.not_true, Bool.false_or, if_true]

theorem eventClear_clears (hfo : s.frozenByOther iface = false) (ht : s.tokenOk 1 0 (s.fld Fld.EVR_AUTH) = true) :
    Does (.eventClear iface) s (fun t => (∃ p, t.evr.pages = [(1, p)] ∧ p.recs.length = 1) ∧ t.bit Fld.EVR_STATUS.FULL = false ∧
      t.bit Fld.EVR_STATUS.NEARLY_FULL = false ∧ (∀ i, i < 8 → t.fld (Fld.EVR_DROP.at i) = 0) ∧ t.fld Fld.EVR_CMD_STATUS.ERROR = 0 ∧
      t.evr.chal = none) := by
  obtain ⟨hpages, hchal⟩ := finishClear_log (s.tokenChecked 1 (ifaceOwner iface) true).thaw (ifaceOwner iface)
  obtain ⟨hfull, hnearly, hdrop⟩ := finishClear_counters (s.tokenChecked 1 (ifaceOwner iface) true).thaw (ifaceOwner iface)
  obtain ⟨p, a, x, n, q, he⟩ := thaw_evr (s.tokenChecked 1 (ifaceOwner iface) true)
  have hk : Kept _ _ _ := kept_State_evrDone (((s.tokenChecked 1 (ifaceOwner iface) true).thaw).finishClear (ifaceOwner iface)) 0
  exact ⟨_, exec_eventClear hfo ht, hpages, (hk.bit _ (by decide)).trans hfull, (hk.bit _ (by decide)).trans hnearly,
    fun i hi => (fld_drop_evrDone _ 0 hi).trans (hdrop i hi), (evrDone_shown _ (by decide)).1, hchal.trans (congrArg Evr.chal he)⟩

end

/-! ### The commands of the recorder -/

theorem eventRecord_stores {s u t : State} {a : EvArrival} {r : List EvArrival} (hq : s.evr.arrivals = a :: r)
    (hsev : s.recorderCfg.minSeverity ≤ a.sev ∨ a.sev = 7) (hseq : s.fld Fld.EVR_NEXT_SEQ < 2 ^ 48 - 1)
    (hf : s.bit Fld.EVR_STATUS.FROZEN = false) (hin : (s.arrived r).inSecond = u) (hc : u.evr.secondCount < 10000)
    (hp : u.placeRec ⟨s.fld Fld.EVR_NEXT_SEQ, a⟩ = (true, t)) :
    exec .eventRecord s = .next t.storedRec ∧ t.storedRec.fld Fld.EVR_NEXT_SEQ = s.fld Fld.EVR_NEXT_SEQ + 1 := by
  subst hin
  have hrec : (s.arrived r).recordOne a = t.storedRec := recordOne_placed (s := s.arrived r) hsev hseq hf hc hp
  have hnext : ((s.arrived r).recordOne a).fld _ = _ := recordOne_placed_seq (s := s.arrived r) hsev hseq hf hc hp
  rw [hrec] at hnext
  exact ⟨(exec_eventRecord hq).trans (congrArg _ hrec), hnext⟩

/-- Settles O58: what becomes of a record follows from the page it finds; the commands read the freeze, the challenge and the token. -/
theorem eventRecorderCommandsTakeEffect : Obligations.EventRecorderCommandsTakeEffect := by
  refine ⟨?takes, ?queued, ?low, ?freeze, ?freezeOther, ?unfreeze, ?unfreezeIdle, ?timeout, ?challenge, ?lockedOut, ?expiry, ?lockoutEnd,
    ?clear, ?clearBad, ?authFirst, ?authBad, ?soundpost, ?soundpostEarly, ?vaultCopy, ?flashCopy, ?noArrival, ?usedUp, ?queueFull, ?flood,
    ?newSecond, ?newPage, ?closesPage, ?full, ?reclaimed, ?unfreezeOther, ?timeoutIdle, ?noEntropy, ?clearFrozen, ?authAgain,
    ?soundpostLater, ?vaultIdle, ?flashIdle, ?flashWaits, ?flashNoVault⟩
  case takes =>
    intro s a r i p hq hsev hseq hf hsec hcount hopen ht
    obtain ⟨hx, hnext⟩ := eventRecord_stores hq (.inl hsev) hseq hf (inSecond_same hsec) hcount (placeRec_takes hopen ht)
    exact ⟨_, hx, tget_tput_same .., rfl, hnext⟩
  case newSecond =>
    intro s a r i p hq hsev hseq hf hsec hopen ht
    obtain ⟨hx, hnext⟩ := eventRecord_stores hq hsev hseq hf (inSecond_new hsec) (Nat.zero_lt_succ _) (placeRec_takes hopen ht)
    exact ⟨_, hx, tget_tput_same .., rfl, rfl, rfl, hnext⟩
  case newPage =>
    intro s a r i hq hsev hseq hf hsec hcount hopen hfree
    obtain ⟨hx, hnext⟩ := eventRecord_stores hq hsev hseq hf (inSecond_same hsec) hcount ((placeRec_none (s := s.arrived r) hopen).trans (newPage_free (s := s.arrived r) hfree))
    obtain ⟨hpages, hcounted⟩ := noteNearly_pages ((s.arrived r).withPages (tput s.evr.pages i (openPage ⟨s.fld Fld.EVR_NEXT_SEQ, a⟩)))
    exact ⟨_, hx, (congrArg (tget · i) hpages).trans (tget_tput_same ..), congrArg (· + 1) hcounted, hnext⟩
  case closesPage =>
    intro s a r i j p hq hsev hseq hf hsec hcount hopen ht hfree
    obtain ⟨hx, hnext⟩ := eventRecord_stores hq hsev hseq hf (inSecond_same hsec) hcount ((placeRec_closes (s := s.arrived r) hopen ht).trans
      (newPage_free (s := (s.arrived r).withPages (tput s.evr.pages j { p with isOpen := false })) hfree))
    exact ⟨_, hx, (noteNearly_pages _).1, hnext⟩
  case reclaimed =>
    intro s a r i p hq hsev hseq hf hsec hcount hopen hfree hmode hpage
    obtain ⟨hx, hnext⟩ := eventRecord_stores hq hsev hseq hf (inSecond_same hsec) hcount
      ((placeRec_none (s := s.arrived r) hopen).trans (newPage_reclaimed (s := s.arrived r) hfree hmode hpage))
    exact ⟨_, hx, rfl, (fld_incFld_ne _ _ _ _ (by decide)).trans (fld_incFld_same ..), hnext⟩
  case full =>
    intro s a r hq hsev h8 hseq hf hsec hcount hopen hfree hmode
    have hin : (s.arrived r).inSecond = s.arrived r := inSecond_same hsec
    have hrec := recordOne_unplaced (s := s.arrived r) hsev hseq hf (by rw [hin]; exact hcount)
      ((congrArg (State.placeRec · _) hin).trans ((placeRec_none (s := s.arrived r) hopen).trans (newPage_full (s := s.arrived r) hfree hmode)))
    obtain ⟨hevr, hdrop, hkeep⟩ := dropRec_counted (s.arrived r) (sev := a.sev) true
    exact ⟨_, (exec_eventRecord hq).trans (congrArg _ hrec), by rw [hevr]; rfl, State.bit_setBit_same _ _ _ rfl, hkeep, hdrop⟩
  case flood =>
    intro s a r hq hsev h8 hseq hf hsec hcount
    have hin : (s.arrived r).inSecond = s.arrived r := inSecond_same hsec
    have hrec := recordOne_flood (s := s.arrived r) hsev hseq hf (by rw [hin]; exact hcount)
    rw [hin] at hrec
    exact ⟨_, (exec_eventRecord hq).trans (congrArg _ hrec), dropRec_counted (s.arrived r) (sev := a.sev) false⟩
  case usedUp =>
    intro s a r hq hsev h8 hseq
    exact ⟨_, (exec_eventRecord hq).trans (congrArg _ (recordOne_used_up (s := s.arrived r) hsev hseq)),
      dropRec_counted (s.arrived r) (sev := a.sev) false⟩
  case queueFull =>
    intro s a r hq hsev h8 hseq hf hlen
    exact ⟨_, (exec_eventRecord hq).trans (congrArg _ ((recordOne_frozen (s := s.arrived r) hsev hseq hf).trans (if_neg (Nat.not_lt.mpr hlen)))),
      dropRec_counted (s.arrived r) (sev := a.sev) false⟩
  case queued =>
    intro s a r hq hsev hseq hf hlen
    refine ⟨_, (exec_eventRecord hq).trans (congrArg _ ((recordOne_frozen (s := s.arrived r) (.inl hsev) hseq hf).trans (if_pos hlen))), rfl, rfl, ?_⟩
    have hinc : (_ : State).fld Fld.EVR_NEXT_SEQ = (s.fld Fld.EVR_NEXT_SEQ + 1) % 2 ^ 48 := fld_incFld_same
      { s.arrived r with evr := { (s.arrived r).evr with sideQ := s.evr.sideQ ++ [⟨s.fld Fld.EVR_NEXT_SEQ, a⟩] } } Fld.EVR_NEXT_SEQ 1
    exact hinc.trans (Nat.mod_eq_of_lt (by omega))
  case low =>
    exact fun s a r hq hlow h7 => ⟨_, (exec_eventRecord hq).trans (congrArg _ (recordOne_low (s := s.arrived r) hlow h7)), rfl, rfl⟩
  case noArrival => exact fun s h => ⟨s, by simp only [exec, execEventRecord, h], rfl⟩
  case freeze =>
    intro s iface h
    obtain ⟨herr, hdone, -, -⟩ := evrDone_shown
      ((s.setBit Fld.EVR_STATUS.FROZEN true).setFld Fld.EVR_STATUS.FREEZE_OWNER (ifaceOwner iface)) (e := 0) (by decide)
    have hk : Kept _ ((s.setBit Fld.EVR_STATUS.FROZEN true).setFld Fld.EVR_STATUS.FREEZE_OWNER (ifaceOwner iface)) _ := kept_State_evrDone _ 0
    have howner : ifaceOwner iface % 2 ^ 2 = ifaceOwner iface := by cases iface <;> rfl
    refine ⟨_, if_neg (by simp [h]), ?frozen, ?owner, herr, hdone⟩
    case frozen => 
      rw [hk.bit _ (by decide), State.bit_setFld_ne _ _ _ _ (by decide)]
      exact State.bit_setBit_same _ _ _ rfl
    case owner =>
      rw [hk.fld _ (by decide)]
      exact (State.fld_setFld_same ..).trans howner
  case freezeOther => exact fun s iface h => ⟨_, if_pos h, (evrDone_shown s (by decide)).1, rfl⟩
  case unfreeze =>
    intro s iface hf ho
    obtain ⟨hfrozen, hqueue⟩ := thaw_ends_freeze hf
    exact ⟨_, if_pos ⟨hf, ho⟩, (Kept.bit (kept_State_evrDone s.thaw 0) _ (by decide)).trans hfrozen, hqueue, (evrDone_shown s.thaw (by decide)).1⟩
  case unfreezeIdle => exact fun s iface hf => ⟨_, if_neg (by simp [hf]), (evrDone_shown s (by decide)).1, rfl⟩
  case unfreezeOther => exact fun s iface ho => ⟨_, if_neg fun h => ho h.2, (evrDone_shown s (by decide)).1, rfl⟩
  case timeout => exact fun s hf => ⟨_, if_pos hf, thaw_ends_freeze hf⟩
  case timeoutIdle => exact fun s hf => ⟨s, if_neg (by simp [hf]), rfl⟩
  case challenge =>
    intro s hl hp
    have hv : (s.free 128).toNat % 2 ^ 128 = (s.free 128).toNat := Nat.mod_eq_of_lt (s.free 128).isLt
    refine ⟨_, (if_neg (by simp [hl])).trans (if_neg hp), ?chal, ?valid, (evrDone_shown _ (by decide)).1⟩
    case chal =>
      rw [Kept.fld (kept_State_evrDone _ 0) _ (by decide), State.fld_setBit_ne _ _ _ _ (by decide)]
      exact congrArg some ((State.fld_setFld_same ..).trans hv).symm
    case valid =>
      rw [Kept.bit (kept_State_evrDone _ 0) _ (by decide)]
      exact State.bit_setBit_same _ _ _ rfl
  case lockedOut => exact fun s hl => ⟨_, if_pos hl, (evrDone_shown s (by decide)).1, rfl⟩
  case noEntropy => exact fun s hl hp => ⟨_, (if_neg (by simp [hl])).trans (if_pos hp), (evrDone_shown s (by decide)).1, rfl⟩
  case expiry =>
    intro s
    exact ⟨_, rfl, rfl, State.bit_setBit_same _ _ _ rfl, (State.fld_setBit_ne _ _ _ _ (by decide)).trans (State.fld_setFld_same ..)⟩
  case lockoutEnd => exact fun s => ⟨_, rfl, State.bit_setBit_same _ _ _ rfl, rfl⟩
  case clear => exact fun s iface hfo ht => eventClear_clears hfo ht
  case clearBad =>
    intro s iface hfo ht
    obtain ⟨hpages, hfail, -⟩ := tokenChecked_bad s 1 (ifaceOwner iface)
    exact ⟨_, exec_eventClear hfo ht, hpages, (evrDone_shown _ (by decide)).1, hfail⟩
  case clearFrozen => exact fun s iface h => ⟨_, if_pos h, (evrDone_shown s (by decide)).1, rfl⟩
  case authFirst =>
    intro s iface hk
    obtain ⟨herr, -, hkey, -⟩ := evrDone_shown (({ s with evr := { s.evr with authKey := some (s.fld Fld.EVR_AUTH_KEY) } } : State).emit
      .authKeySet [ifaceOwner iface, bit1 false]) (e := 0) (by decide)
    exact ⟨_, exec_eventAuthSet_first hk, rfl, herr, hkey⟩
  case authBad =>
    intro s iface hk ht
    exact ⟨_, exec_eventAuthSet_enrolled hk ht, (tokenChecked_bad s 9 (ifaceOwner iface)).2.2, (evrDone_shown _ (by decide)).1⟩
  case authAgain =>
    intro s iface ht
    have hauth : (s.tokenChecked 9 (ifaceOwner iface) true).fld Fld.EVR_AUTH_KEY = s.fld Fld.EVR_AUTH_KEY :=
      Kept.fld (kept_State_tokenChecked s 9 (ifaceOwner iface) true) _ (by decide)
    exact ⟨_, exec_eventAuthSet_enrolled (tokenOk_enrolled ht) ht, congrArg some hauth, rfl, rfl, (evrDone_shown _ (by decide)).1,
      State.fld_setFld_same ..⟩
  case soundpost =>
    intro s hat
    obtain ⟨p, hcause, hpseq, hput, -, hlast⟩ := writeSoundpost_written ({ s with evr := { s.evr with spNowAt := some s.now } }) 4
    refine ⟨_, exec_soundpostNow (by simp [hat]), ?_, (evrDone_shown _ (by decide)).1, p, hput, hcause, hpseq⟩
    exact (Kept.fld (kept_State_evrDone _ 0) _ (by decide)).trans hlast
  case soundpostLater =>
    intro s t0 hat ht
    obtain ⟨p, hcause, hpseq, hput, hnow, hlast⟩ := writeSoundpost_written ({ s with evr := { s.evr with spNowAt := some s.now } }) 4
    refine ⟨_, exec_soundpostNow (by rintro t ht'; rw [hat] at ht'; exact Option.some.inj ht' ▸ ht), ?_, (evrDone_shown _ (by decide)).1, hnow⟩
    exact (Kept.fld (kept_State_evrDone _ 0) _ (by decide)).trans hlast
  case soundpostEarly =>
    intro s t0 hat ht
    exact ⟨_, if_pos (by simpa [hat] using ht), (evrDone_shown s (by decide)).1, rfl⟩
  case vaultCopy =>
    intro s p r hdue hd hv
    have hx : s.copyVault = { s with evr := { s.evr with spVault := tput s.evr.spVault (p.seq % 32) p, spVaultDue := r } } := by
      simp [State.copyVault, hdue, hd, hv]
    exact ⟨_, congrArg Host.Outcome.next hx, tget_tput_same .., rfl⟩
  case vaultIdle =>
    intro s h
    refine ⟨s, congrArg Host.Outcome.next ?_, rfl⟩
    unfold State.copyVault
    split
    next => rfl
    next p r hdue => exact if_pos (by rcases h with h | h | h <;> simp_all)
  case flashCopy =>
    intro s p r hdue hv
    have hx : s.copyFlash = { s with evr := { s.evr with spFlash := tput s.evr.spFlash (p.seq % 4) p, spFlashDue := r } } := by
      simp [State.copyFlash, hdue, hv]
    exact ⟨_, congrArg Host.Outcome.next hx, tget_tput_same .., rfl⟩
  case flashIdle => exact fun s h => ⟨s, congrArg Host.Outcome.next (by simp only [State.copyFlash, h]), rfl⟩
  case flashWaits =>
    intro s p r hdue hw hv
    exact ⟨s, congrArg Host.Outcome.next (by simp only [State.copyFlash, hdue, hw, hv, and_self, if_true]), rfl⟩
  case flashNoVault =>
    intro s p r hdue h
    have hx : s.copyFlash = { s with evr := { s.evr with spFlash := tput s.evr.spFlash (p.seq % 4) p, spFlashDue := r } } := by
      simp only [State.copyFlash, hdue]
      exact if_neg (by rcases h with h | h <;> simp [h])
    exact ⟨_, congrArg Host.Outcome.next hx, tget_tput_same .., rfl⟩

end Sys2Proof.Machine

/-!
The battery gauge: the packs' paths and self-tests, energy, learning cycles and the gauge commands (O23, O53, O54, O55).
-/
namespace Sys2Proof.Machine

/-! ### Packs (R349) -/

theorem packIx_ne (p : PackId) : packIx p ≠ packIx (otherPack p) := by cases p <;> decide

theorem packIx_lt (p : PackId) : packIx p < 2 := by cases p <;> decide

theorem otherPack_otherPack (p : PackId) : otherPack (otherPack p) = p := by cases p <;> rfl

@[simp] theorem pack_putPack_same (s : State) (p : PackId) (x : Pack) : (s.putPack p x).pack p = x := by
  simp [State.pack, State.putPack]

@[simp] theorem pack_putPack_other (s : State) (p : PackId) (x : Pack) : (s.putPack p x).pack (otherPack p) = s.pack (otherPack p) := by
  simp [State.pack, State.putPack, tget_tput_ne _ _ _ _ (packIx_ne p).symm]

@[simp] theorem pack_putOther (s : State) (p : PackId) (x : Pack) : (s.putPack (otherPack p) x).pack p = s.pack p := by
  have h := pack_putPack_other s (otherPack p) x
  rwa [otherPack_otherPack] at h

theorem Only.nrg {l : List Part} {s t : State} (h : Only l s t) (hl : l.contains .nrg = false) : t.nrg = s.nrg := h .nrg hl

theorem Only.pack {l : List Part} {s t : State} (h : Only l s t) (hl : l.contains .nrg = false) (p : PackId) : t.pack p = s.pack p := by
  simp only [State.pack, h.nrg hl]

theorem pack_setFld (s : State) (f : Field) (v : Nat) (p : PackId) : (s.setFld f v).pack p = s.pack p := rfl

theorem pack_setBit (s : State) (f : Field) (b : Bool) (p : PackId) : (s.setBit f b).pack p = s.pack p := rfl

theorem pack_emit (s : State) (e : Ev) (l : List Nat) (p : PackId) : (s.emit e l).pack p = s.pack p := rfl

theorem pack_computeEnergy (s : State) (p : PackId) : s.computeEnergy.pack p = s.pack p := Only.pack (only_State_computeEnergy s) rfl p

theorem pack_showNrg (s : State) (p : PackId) : s.showNrg.pack p = s.pack p := Only.pack (only_State_showNrg s) rfl p

theorem pack_endNrgCmd (s : State) (p q : PackId) : (s.endNrgCmd p).pack q = s.pack q := by
  unfold State.endNrgCmd
  split <;> rfl

theorem pack_socStart (s : State) (p : PackId) : (s.socStart p).pack p = { s.pack p with socMovedAt := s.now } := by
  unfold State.socStart
  have hnow : s.computeEnergy.now = s.now := only_State_computeEnergy s .now rfl
  have hpack := pack_computeEnergy s p
  generalize s.computeEnergy = u at hnow hpack ⊢
  rw [← hnow, ← hpack]
  exact pack_putPack_same ..

theorem pack_socStart_other (s : State) (p : PackId) : (s.socStart p).pack (otherPack p) = s.pack (otherPack p) := by
  unfold State.socStart
  have hpack := pack_computeEnergy s (otherPack p)
  generalize s.computeEnergy = u at hpack ⊢
  rw [← hpack, pack_putPack_other, pack_setFld]

/-! ### The end of a self-test (R356, R358, R359) -/

/-- Whether a pack's learning cycle is in its discharge, which holds the load. -/
def Pack.discharging (x : Pack) : Bool :=
  match x.learn with
  | some c => !c.resting
  | none => false

/-- A pack taken out of its test. -/
def Pack.untested (x : Pack) : Pack := { x with test := none, loadStep := x.discharging }

/-- A pack with its test judged: when, whether it qualifies, whether it is failed, and how often it has failed in a row. -/
def Pack.judged (x : Pack) (at_ : Nat) (q f : Bool) (n : Nat) : Pack :=
  ({ x with learned := { x.learned with testedAt := at_ }, firstTest := false, fails := n } : Pack).qualify q f

/-- The paths and registers after a test, before its judgement. -/
def State.testEnded (s : State) (p : PackId) (result : Nat) : State :=
  let s := (s.putPack p (s.pack p).untested).restoreEn (otherPack p)
  let s := if s.acFail then s else s.setHoldup false
  (s.setFld (Fld.PACK_STATUS.TEST_RESULT.at (packIx p)) result).endNrgCmd p

/-- A pack with a failed test: unqualified, and failed after three in a row. -/
def Pack.failedTest (x : Pack) (at_ : Nat) : Pack := x.judged at_ false (x.learned.failed || decide (3 ≤ x.fails + 1)) (x.fails + 1)

/-- A pack with a passed test. -/
def Pack.passedTest (x : Pack) (at_ : Nat) : Pack := x.judged at_ true x.learned.failed 0

theorem endTest_eq (s : State) (p : PackId) (r : Nat) : s.endTest p r =
    if r = 6 then (s.testEnded p r).showNrg
    else if r = 1 then ((s.testEnded p r).putPack p (((s.testEnded p r).pack p).passedTest ((s.testEnded p r).pitch.getD 0))).socStart p
    else if (((s.testEnded p r).pack p).learned.failed || decide (3 ≤ ((s.testEnded p r).pack p).fails + 1)) &&
        !((s.testEnded p r).pack p).learned.failed then
      (((s.testEnded p r).putPack p (((s.testEnded p r).pack p).failedTest ((s.testEnded p r).pitch.getD 0))).socStart p).emit .packFailed [packIx p]
    else ((s.testEnded p r).putPack p (((s.testEnded p r).pack p).failedTest ((s.testEnded p r).pitch.getD 0))).socStart p := by
  rfl

theorem pack_setHoldup (s : State) (b : Bool) (p : PackId) : (s.setHoldup b).pack p = s.pack p := rfl

theorem packPresent_putPack (s : State) (p q : PackId) (x : Pack) : (s.putPack p x).packPresent q = s.packPresent q := rfl

theorem pack_restoreEn_other (s : State) (p : PackId) : (s.restoreEn (otherPack p)).pack p = s.pack p := pack_putOther ..

theorem pack_restoreEn (s : State) (p : PackId) : (s.restoreEn p).pack p = { s.pack p with en := s.packPresent p && (s.pack p).cut.isNone } :=
  pack_putPack_same ..

theorem pack_testEnded (s : State) (p : PackId) (r : Nat) : (s.testEnded p r).pack p = (s.pack p).untested := by
  simp only [State.testEnded, pack_endNrgCmd, pack_setFld]
  split <;> simp only [pack_setHoldup, pack_restoreEn_other, pack_putPack_same]

theorem pack_testEnded_other (s : State) (p : PackId) (r : Nat) : (s.testEnded p r).pack (otherPack p) =
    { s.pack (otherPack p) with en := s.packPresent (otherPack p) && (s.pack (otherPack p)).cut.isNone } := by
  simp only [State.testEnded, pack_endNrgCmd, pack_setFld]
  split <;> simp only [pack_setHoldup, pack_restoreEn, pack_putPack_other, packPresent_putPack]

theorem fld_endNrgCmd_result (s : State) (p : PackId) : (s.endNrgCmd p).fld (Fld.PACK_STATUS.TEST_RESULT.at (packIx p)) =
    s.fld (Fld.PACK_STATUS.TEST_RESULT.at (packIx p)) := Kept.fldAt (kept_State_endNrgCmd s p) _ (by decide)

theorem testEnded_result (s : State) (p : PackId) {r : Nat} (h : r < 16) :
    (s.testEnded p r).fld (Fld.PACK_STATUS.TEST_RESULT.at (packIx p)) = r := by
  simp only [State.testEnded, fld_endNrgCmd_result]
  exact (State.fld_setFld_same ..).trans (Nat.mod_eq_of_lt h)

/-- Whatever its result, a test leaves its pack without a test, with its cut and its learning cycle, and shows the result. -/
theorem endTest_ends (s : State) (p : PackId) {r : Nat} (h : r < 16) : ((s.endTest p r).pack p).test = none ∧
    ((s.endTest p r).pack p).cut = (s.pack p).cut ∧ ((s.endTest p r).pack p).learn = (s.pack p).learn ∧
    (s.endTest p r).fld (Fld.PACK_STATUS.TEST_RESULT.at (packIx p)) = r := by
  have hpack := pack_testEnded s p r
  have hshown := testEnded_result s p h
  have hsoc : ∀ x : Pack, (((s.testEnded p r).putPack p x).socStart p).fld (Fld.PACK_STATUS.TEST_RESULT.at (packIx p)) = r := fun x =>
    (Kept.fldAt (kept_State_socStart _ p) _ (by decide)).trans hshown
  have hun : (s.pack p).untested.test = none ∧ (s.pack p).untested.cut = (s.pack p).cut ∧ (s.pack p).untested.learn = (s.pack p).learn :=
    ⟨rfl, rfl, rfl⟩
  rw [endTest_eq, hpack]
  split
  next => 
    rw [pack_showNrg, hpack]
    exact ⟨hun.1, hun.2.1, hun.2.2, (Kept.fldAt (kept_State_showNrg _) _ (by decide)).trans hshown⟩
  next =>
    split
    next =>
      rw [pack_socStart, pack_putPack_same]
      exact ⟨hun.1, hun.2.1, hun.2.2, hsoc _⟩
    next =>
      split
      next =>
        rw [State.fld_emit, pack_emit, pack_socStart, pack_putPack_same]
        exact ⟨hun.1, hun.2.1, hun.2.2, hsoc _⟩
      next =>
        rw [pack_socStart, pack_putPack_same]
        exact ⟨hun.1, hun.2.1, hun.2.2, hsoc _⟩

theorem endTest_other (s : State) (p : PackId) (r : Nat) : (s.endTest p r).pack (otherPack p) =
    { s.pack (otherPack p) with en := s.packPresent (otherPack p) && (s.pack (otherPack p)).cut.isNone } := by
  have hother := pack_testEnded_other s p r
  rw [endTest_eq]
  split
  next => rw [pack_showNrg, hother]
  next =>
    split
    next => rw [pack_socStart_other, pack_putPack_other, hother]
    next => 
      split
      next => rw [pack_emit, pack_socStart_other, pack_putPack_other, hother]
      next => rw [pack_socStart_other, pack_putPack_other, hother]

theorem endTest_aborts (s : State) (p : PackId) : ((s.endTest p 6).pack p).learned = (s.pack p).learned := by
  rw [endTest_eq, if_pos rfl, pack_showNrg, pack_testEnded]
  rfl

theorem endTest_passes (s : State) (p : PackId) : ((s.endTest p 1).pack p).learned.qualified = true ∧ ((s.endTest p 1).pack p).fails = 0 := by
  rw [endTest_eq, if_neg (by decide), if_pos rfl, pack_socStart, pack_putPack_same]
  exact ⟨rfl, rfl⟩

theorem endTest_fails (s : State) (p : PackId) {r : Nat} (h1 : r ≠ 1) (h6 : r ≠ 6) : ((s.endTest p r).pack p).learned.qualified = false ∧
    ((s.endTest p r).pack p).fails = (s.pack p).fails + 1 := by
  have hx : ∀ x : Pack, ((((s.testEnded p r).putPack p x).socStart p).pack p).learned = x.learned ∧
      ((((s.testEnded p r).putPack p x).socStart p).pack p).fails = x.fails := fun x => by
    rw [pack_socStart, pack_putPack_same]
    exact ⟨rfl, rfl⟩
  rw [endTest_eq, if_neg h6, if_neg h1, pack_testEnded]
  split
  next => 
    rw [pack_emit]
    exact ⟨congrArg Learned.qualified (hx _).1, (hx _).2⟩
  next => exact ⟨congrArg Learned.qualified (hx _).1, (hx _).2⟩


/-! ### Paths that open and close (R349, R355) -/

/-- A pack cut off. -/
def Pack.cutOff (x : Pack) (temp : Bool) : Pack := { x with cut := some (if temp then .temperature else .voltage), en := false, loadStep := false }

/-- The state whose running test of a pack has ended for a cut-off. -/
def State.testCut (s : State) (p : PackId) : State := if (s.pack p).test.isSome then s.endTest p 3 else s

theorem pack_holdupCheck (s : State) (p : PackId) : s.holdupCheck.pack p = s.pack p := Only.pack (only_State_holdupCheck s) rfl p

theorem noPackEnabled_of {s : State} {p : PackId} (h : (s.pack p).en = false) (ho : (s.pack (otherPack p)).en = false) : s.noPackEnabled = true := by
  cases p <;> simp_all [State.noPackEnabled, bothPacks, otherPack]

theorem holdupCheck_releases {s : State} (h : s.noPackEnabled = true) : s.holdupCheck.bit Fld.NRG_STATUS.HOLDUP_EN = false := by
  have hoff : (s.setHoldup false).bit Fld.NRG_STATUS.HOLDUP_EN = false := State.bit_setBit_same _ _ _ rfl
  unfold State.holdupCheck
  split
  next =>
    simp only
    split
    next => exact hoff
    next => exact (Kept.bit (kept_State_dumpCut _ _) _ (by decide)).trans hoff
  next hn => simpa [h] using hn

theorem exec_packCutoff {s : State} {p : PackId} {temp : Bool} (hp : s.packPresent p = true) (hc : (s.pack p).cut = none) :
    exec (.packCutoff p temp) s =
      .next ((s.testCut p).putPack p (((s.testCut p).pack p).cutOff temp)).holdupCheck.showNrg := by
  simp only [exec, execPackCutoff, hp, hc]
  rfl

theorem exec_packCutoff_not_due {s : State} {p : PackId} {temp : Bool} (h : s.packPresent p = false ∨ (s.pack p).cut.isSome = true) :
    exec (.packCutoff p temp) s = .next s := if_pos (by rcases h with h | h <;> simp [h])

theorem testCut_test (s : State) (p : PackId) : ((s.testCut p).pack p).test = none := by
  unfold State.testCut
  split
  next => exact (endTest_ends s p (by decide)).1
  next h => simpa using h

/-- Settles O23: a cut opens the pack's path, after the end of a test where one runs, and a pack cut for temperature closes again. -/
theorem packPathsFollowLimits : Obligations.PackPathsFollowLimits := by
  refine ⟨?cut, ?cutIdle, ?recovers, ?recoverIdle⟩
  case cut =>
    intro s p temp hp hc
    refine ⟨_, exec_packCutoff hp hc, ?_⟩
    have hpack : ((s.testCut p).putPack p (((s.testCut p).pack p).cutOff temp)).holdupCheck.showNrg.pack p = ((s.testCut p).pack p).cutOff temp := by
      rw [pack_showNrg, pack_holdupCheck, pack_putPack_same]
    have hother : ((s.testCut p).putPack p (((s.testCut p).pack p).cutOff temp)).holdupCheck.showNrg.pack (otherPack p) =
        (s.testCut p).pack (otherPack p) := by
      rw [pack_showNrg, pack_holdupCheck, pack_putPack_other]
    beta_reduce
    rw [hpack, hother]
    refine ⟨rfl, rfl, testCut_test s p, rfl, fun ht => ?_, fun ht => ⟨?result, ?path⟩, fun ho => ?holdup⟩
    · rw [State.testCut, if_neg (by simp [ht])]
    case result =>
      rw [Kept.fldAt (kept_State_showNrg _) _ (by decide), Kept.fldAt (kept_State_holdupCheck _) _ (by decide), State.testCut, if_pos ht]
      exact (endTest_ends s p (by decide)).2.2.2
    case path => rw [State.testCut, if_pos ht, endTest_other]
    case holdup =>
      rw [Kept.bit (kept_State_showNrg _) _ (by decide)]
      refine holdupCheck_releases (noPackEnabled_of (p := p) ?_ ?_)
      · rw [pack_putPack_same]
        rfl
      · rw [pack_putPack_other, ho]
  case cutIdle => exact fun s p temp h => ⟨s, exec_packCutoff_not_due h, rfl⟩
  case recovers =>
    intro s p hp hc
    refine ⟨_, if_pos ⟨hc, hp⟩, ?_⟩
    beta_reduce
    rw [pack_putPack_same, pack_putPack_other]
    exact ⟨rfl, rfl, rfl⟩
  case recoverIdle => exact fun s p h => ⟨s, if_neg (by rcases h with h | h <;> simp [h]), rfl⟩

/-! ### Tests that are asked for (R357, R358) -/

theorem requestTest_queue {s : State} (h : s.acFail = false) (p : PackId) : p ∈ (s.requestTest p).nrg.queue := by
  rw [State.requestTest, if_neg (by simp [h])]
  show p ∈ if s.nrg.queue.contains p then s.nrg.queue else s.nrg.queue ++ [p]
  split
  next hq => exact List.contains_iff_mem.mp hq
  next => exact List.mem_append_right _ (List.mem_singleton_self p)

theorem requestTest_deferred {s : State} (h : s.acFail = true) (p : PackId) : p ∈ (s.requestTest p).nrg.deferred ∧
    (s.requestTest p).nrg.queue = s.nrg.queue := by
  rw [State.requestTest, if_pos h]
  refine ⟨?_, rfl⟩
  show p ∈ if s.nrg.deferred.contains p then s.nrg.deferred else s.nrg.deferred ++ [p]
  split
  next hq => exact List.contains_iff_mem.mp hq
  next => exact List.mem_append_right _ (List.mem_singleton_self p)

theorem requestTest_queue_grows {s : State} {p : PackId} (q : PackId) (h : p ∈ s.nrg.queue) : p ∈ (s.requestTest q).nrg.queue := by
  unfold State.requestTest
  split
  next => exact h
  next =>
    show p ∈ if s.nrg.queue.contains q then s.nrg.queue else s.nrg.queue ++ [q]
    split
    next => exact h
    next => exact List.mem_append_left _ h

theorem requestTest_deferred_grows {s : State} {p : PackId} (q : PackId) (h : p ∈ s.nrg.deferred) : p ∈ (s.requestTest q).nrg.deferred := by
  unfold State.requestTest
  split
  next =>
    show p ∈ if s.nrg.deferred.contains q then s.nrg.deferred else s.nrg.deferred ++ [q]
    split
    next => exact h
    next => exact List.mem_append_left _ h
  next => exact h

theorem acFail_requestTest (s : State) (p : PackId) : (s.requestTest p).acFail = s.acFail := Kept.bit (kept_State_requestTest s p) _ (by decide)

theorem packPresent_requestTest (s : State) (p q : PackId) : (s.requestTest p).packPresent q = s.packPresent q :=
  Kept.bitAt (kept_State_requestTest s p) _ (by decide)


/-! ### The steps of a self-test (R356) -/

/-- A running test one step on, the lowest voltage with it. -/
def TestRun.moved (r : TestRun) (mv : Nat) : TestRun := { r with step := r.step + 1, lowest := min r.lowest mv }

/-- A running test with a sample taken. -/
def TestRun.sampled (r : TestRun) (mv : Nat) (ma : Int) : TestRun := { r.moved mv with samples := r.samples ++ [(mv, ma)] }

section
variable {s : State} {p : PackId} {r : TestRun} {mv : Nat} {ma : Int} (hp : bothPacks.find? (fun q => (s.pack q).test.isSome) = some p)
  (hr : (s.pack p).test = some r)
include hp hr

theorem exec_selftestStep_cutoff (hv : mv < (s.packCfg p).cells * (s.packCfg p).cutoffMvCell) :
    exec (.holdupSelftestStep mv ma) s = .next (s.endTest p 3) := by
  simp only [exec, execHoldupSelftestStep, hp, hr, if_pos hv]

variable (hv : (s.packCfg p).cells * (s.packCfg p).cutoffMvCell ≤ mv)
include hv

theorem exec_selftestStep_load (h : r.step = 3 ∨ r.step = 6 ∨ r.step = 8) : exec (.holdupSelftestStep mv ma) s =
    .next (s.putPack p { s.pack p with test := some (r.moved mv), loadStep := decide (r.step ≠ 6) }) := by
  simp only [exec, execHoldupSelftestStep, hp, hr, if_neg (Nat.not_lt.mpr hv), TestRun.moved]
  rcases h with h | h | h <;> simp only [h] <;> rfl

theorem exec_selftestStep_sample (h : r.step ∉ [3, 6, 8, 11]) : exec (.holdupSelftestStep mv ma) s =
    .next (s.putPack p { s.pack p with test := some (r.sampled mv ma) }) := by
  simp only [List.mem_cons, List.not_mem_nil, or_false, not_or] at h
  obtain ⟨h3, h6, h8, h11⟩ := h
  simp only [exec, execHoldupSelftestStep, hp, hr, if_neg (Nat.not_lt.mpr hv)]
  split
  next e => omega
  next e => omega
  next e => omega
  next e => omega
  next => rfl

theorem exec_selftestStep_last (h : r.step = 11) : exec (.holdupSelftestStep mv ma) s =
    .next ((s.putPack p { s.pack p with loadStep := false }).judgeTest p (r.moved mv)) := by
  simp only [exec, execHoldupSelftestStep, hp, hr, if_neg (Nat.not_lt.mpr hv), TestRun.moved, h]

end

/-! ### The judgement of a self-test (R356, R365) -/

theorem judgeTest_incomplete (s : State) (p : PackId) {t : TestRun} (h : t.samples.length ≠ 6) : s.judgeTest p t = s.endTest p 6 := by
  unfold State.judgeTest
  split
  next he => exact absurd (congrArg List.length he) h
  next => rfl

/-- The replacement checks of R365 on a measured R_slow. -/
def State.packChecked (s : State) (p : PackId) (slow : Nat) : State :=
  let x := s.pack p
  let s : State := match x.displaced with
    | some d =>
      match s.cellNow p d with
      | some c => s.putPack p { x with sameBad := !near143 c.1 slow }
      | none => s
    | none => s
  match s.cellNow p x.learned with
  | some c => if x.firstTest && !near143 c.1 slow then s.replacePack p else s
  | none => s

/-- The conditions of R356 in their order, on the quotients of the six samples; `rise` is the current step of the first load. -/
def State.verdict (s : State) (p : PackId) (t : TestRun) (rise f1 f2 s1 s2 : Int) : State :=
  let fast := ((f1 + f2) / 2).toNat
  let slow := ((s1 + s2) / 2).toNat
  let x := s.pack p
  let m := s.packCfg p
  let k := 5 * tempBand (s.packTemp p) + socBand x.socPpm
  let cell := match tget x.learned.cells k with
    | some c => (cellMove c.1 slow, cellMove c.2 fast)
    | none => (slow, fast)
  let l := { x.learned with cells := tput x.learned.cells k cell }
  let trial := { x.learned with cells := tput x.learned.cells k (slow, fast) }
  if rise * 50 < x.learned.capMah then s.endTest p 2
  else if t.lowest * 100 ≤ m.cells * m.cutoffMvCell * 105 then s.endTest p 5
  else if !(agree20 f1 f2 && agree20 s1 s2) then s.endTest p 4
  else if 500000 ≤ x.socPpm ∧ packEnergy m trial s.gaugeCfg.dumpPowerW (s.packTemp p) x.socPpm = 0 then s.endTest p 5
  else (s.putPack p { x with learned := l }).endTest p 1

theorem judgeTest_six (s : State) (p : PackId) {t : TestRun} {v0 vf1 vs1 w0 vf2 vs2 : Nat} {i0 if1 is1 j0 if2 is2 : Int}
    (ht : t.samples = [(v0, i0), (vf1, if1), (vs1, is1), (w0, j0), (vf2, if2), (vs2, is2)]) : s.judgeTest p t =
    (s.packChecked p ((stepR v0 vs1 i0 is1 + stepR w0 vs2 j0 is2) / 2).toNat).verdict p t (if1 - i0) (stepR v0 vf1 i0 if1) (stepR w0 vf2 j0 if2)
      (stepR v0 vs1 i0 is1) (stepR w0 vs2 j0 is2) := by
  unfold State.judgeTest
  rw [ht]
  rfl

theorem packChecked_settled {s : State} {p : PackId} (hd : (s.pack p).displaced = none) (hf : (s.pack p).firstTest = false) (slow : Nat) :
    s.packChecked p slow = s := by
  simp only [State.packChecked, hd, hf, Bool.false_and, Bool.false_eq_true, if_false]
  cases s.cellNow p (s.pack p).learned <;> rfl

theorem verdict_ends (s : State) (p : PackId) (t : TestRun) (rise f1 f2 s1 s2 : Int) : ((s.verdict p t rise f1 f2 s1 s2).pack p).test = none := by
  have hend : ∀ (u : State) (r : Nat), r < 16 → ((u.endTest p r).pack p).test = none := fun u r h => (endTest_ends u p h).1
  simp only [State.verdict]
  split
  next => exact hend _ 2 (by decide)
  next =>
    split
    next => exact hend _ 5 (by decide)
    next =>
      split
      next => exact hend _ 4 (by decide)
      next =>
        split
        next => exact hend _ 5 (by decide)
        next => exact hend _ 1 (by decide)

/-- Whatever it finds, a judgement ends the test. -/
theorem judgeTest_ends (s : State) (p : PackId) (t : TestRun) : ((s.judgeTest p t).pack p).test = none := by
  by_cases h : t.samples.length = 6
  · obtain ⟨⟨v0, i0⟩, ⟨vf1, if1⟩, ⟨vs1, is1⟩, ⟨w0, j0⟩, ⟨vf2, if2⟩, ⟨vs2, is2⟩, ht⟩ : ∃ a b c d e f, t.samples = [a, b, c, d, e, f] := by
      match t.samples, h with
      | [a, b, c, d, e, f], _ => exact ⟨a, b, c, d, e, f, rfl⟩
    rw [judgeTest_six s p ht]
    exact verdict_ends ..
  · rw [judgeTest_incomplete s p h]
    exact (endTest_ends s p (by decide)).1

theorem verdict_weak_step {s : State} {p : PackId} {rise : Int} (h : rise * 50 < (s.pack p).learned.capMah) (t : TestRun) (f1 f2 s1 s2 : Int) :
    s.verdict p t rise f1 f2 s1 s2 = s.endTest p 2 := if_pos h

theorem verdict_passes {s : State} {p : PackId} {t : TestRun} {rise f1 f2 s1 s2 : Int} (h : (s.pack p).learned.capMah ≤ rise * 50)
    (hlow : (s.packCfg p).cells * (s.packCfg p).cutoffMvCell * 105 < t.lowest * 100) (hfast : agree20 f1 f2 = true)
    (hslow : agree20 s1 s2 = true) (hsoc : (s.pack p).socPpm < 500000) :
    ∃ l, s.verdict p t rise f1 f2 s1 s2 = (s.putPack p { s.pack p with learned := l }).endTest p 1 :=
  ⟨_, (if_neg (Int.not_lt.mpr h)).trans ((if_neg (Nat.not_le.mpr hlow)).trans ((if_neg (by simp [hfast, hslow])).trans
    (if_neg fun he => Nat.not_le.mpr hsoc he.1)))⟩

/-! ### The start of a self-test (R357) -/

/-- The state of a test that starts: out of the queue, its own path alone enabled. -/
def State.testStarted (s : State) (p : PackId) : State :=
  let s := { s with nrg := { s.nrg with queue := s.nrg.queue.tail } }
  let s := s.putPack p { s.pack p with test := some ⟨2, [], s.fld (Fld.NRG_VOLT_MV.MV.at (packIx p))⟩, loadStep := false }
  s.putPack (otherPack p) { s.pack (otherPack p) with en := false }

theorem showNrg_testActive {s : State} {p : PackId} (h : (s.pack p).test.isSome = true) : s.showNrg.bit Fld.NRG_STATUS.TEST_ACTIVE = true := by
  have hset : ∀ b, ((s.setBit Fld.NRG_STATUS.QUALIFIED_ANY b).setBit Fld.NRG_STATUS.TEST_ACTIVE
      ((s.pack .A).test.isSome || (s.pack .B).test.isSome)).bit Fld.NRG_STATUS.TEST_ACTIVE = true := fun b => by
    rw [State.bit_setBit_same _ _ _ rfl]
    cases p <;> simp [h]
  unfold State.showNrg
  rw [Kept.bit (kept_State_showPack _ _) _ (by decide), Kept.bit (kept_State_showPack _ _) _ (by decide), State.bit_setBit_ne _ _ _ _ (by decide)]
  exact hset _

theorem exec_holdupSelftestStart {s : State} {p : PackId} (hq : s.nrg.queue.head? = some p) (hac : s.acFail = false)
    (hp : s.packPresent p = true) (ht : s.bit Fld.NRG_STATUS.TEST_ACTIVE = false) :
    exec (.holdupSelftestStart p) s = .next ((s.testStarted p).setHoldup true).showNrg :=
  if_neg (by simp [hq, hac, hp, ht])


theorem firstTested {s : State} {r : TestRun} (h : (s.pack .A).test = some r) : bothPacks.find? (fun q => (s.pack q).test.isSome) = some .A := by
  simp [bothPacks, h]

theorem exec_holdupRetestTimer (s : State) (p : PackId) : exec (.holdupRetestTimer p) s =
    if s.packPresent p ∧ 2 ≤ s.fld (Fld.PACK_STATUS.TEST_RESULT.at (packIx p)) ∧ s.fld (Fld.PACK_STATUS.TEST_RESULT.at (packIx p)) ≤ 5 then
      .next (s.requestTest p) else .next s := rfl

theorem exec_holdupTestAgeExpiry (s : State) (p : PackId) : exec (.holdupTestAgeExpiry p) s =
    if s.packPresent p then .next (s.requestTest p) else .next s := rfl

/-- A test requested of a pack where it is present. -/
def State.requestPresent (s : State) (p : PackId) : State := if s.packPresent p then s.requestTest p else s

theorem exec_holdupStartupTest (s : State) : exec .holdupStartupTest s = .next ((s.requestPresent .A).requestPresent .B) := rfl

theorem requestPresent_present {s : State} {p : PackId} (h : s.packPresent p = true) : s.requestPresent p = s.requestTest p := if_pos h

theorem requestPresent_absent {s : State} {p : PackId} (h : s.packPresent p = false) : s.requestPresent p = s := if_neg (by simp [h])

theorem requestPresent_same (s : State) (p q : PackId) : (s.requestPresent p).packPresent q = s.packPresent q ∧
    (s.requestPresent p).acFail = s.acFail := by
  unfold State.requestPresent
  split
  next => exact ⟨packPresent_requestTest .., acFail_requestTest ..⟩
  next => exact ⟨rfl, rfl⟩

theorem requestPresent_queue_deferred {s : State} (h : s.acFail = true) (p : PackId) : (s.requestPresent p).nrg.queue = s.nrg.queue := by
  unfold State.requestPresent
  split
  next => exact (requestTest_deferred h p).2
  next => rfl

theorem does_endTest_pass {c : Instr} {s u : State} {p : PackId} (h : exec c s = .next (u.endTest p 1)) :
    Does c s (fun t => (t.pack p).test = none ∧ t.fld (Fld.PACK_STATUS.TEST_RESULT.at (packIx p)) = 1 ∧
      (t.pack p).learned.qualified = true ∧ (t.pack p).fails = 0) := by
  obtain ⟨htest, -, -, hres⟩ := endTest_ends u p (r := 1) (by decide)
  obtain ⟨hq, hfails⟩ := endTest_passes u p
  exact ⟨_, h, htest, hres, hq, hfails⟩

section
variable {s : State} {p : PackId} {r : TestRun} {mv : Nat} {ma : Int} {v0 vf1 vs1 w0 vf2 vs2 : Nat} {i0 if1 is1 j0 if2 is2 : Int}
  (hp : bothPacks.find? (fun q => (s.pack q).test.isSome) = some p) (hr : (s.pack p).test = some r) (hstep : r.step = 11)
  (hsamples : r.samples = [(v0, i0), (vf1, if1), (vs1, is1), (w0, j0), (vf2, if2), (vs2, is2)])
  (hv : (s.packCfg p).cells * (s.packCfg p).cutoffMvCell ≤ mv) (hd : (s.pack p).displaced = none) (hf : (s.pack p).firstTest = false)
include hp hr hstep hsamples hv hd hf

/-- The last step of a test of a pack that nothing displaced: its six samples are judged with the load released. -/
theorem exec_selftestStep_judged : exec (.holdupSelftestStep mv ma) s =
    .next ((s.putPack p { s.pack p with loadStep := false }).verdict p (r.moved mv) (if1 - i0) (stepR v0 vf1 i0 if1) (stepR w0 vf2 j0 if2)
      (stepR v0 vs1 i0 is1) (stepR w0 vs2 j0 is2)) := by
  have hpack : (s.putPack p { s.pack p with loadStep := false }).pack p = { s.pack p with loadStep := false } := pack_putPack_same ..
  have hj : (s.putPack p { s.pack p with loadStep := false }).judgeTest p (r.moved mv) = _ := judgeTest_six _ p hsamples
  rw [packChecked_settled (by rw [hpack]; exact hd) (by rw [hpack]; exact hf)] at hj
  exact (exec_selftestStep_last hp hr hv hstep).trans (congrArg _ hj)

theorem selftestStep_weak_step (hrise : (if1 - i0) * 50 < (s.pack p).learned.capMah) :
    Does (.holdupSelftestStep mv ma) s (fun t => (t.pack p).test = none ∧ t.fld (Fld.PACK_STATUS.TEST_RESULT.at (packIx p)) = 2 ∧
      (t.pack p).learned.qualified = false) := by
  have hx := exec_selftestStep_judged (ma := ma) hp hr hstep hsamples hv hd hf
  rw [verdict_weak_step (by rw [pack_putPack_same]; exact hrise)] at hx
  obtain ⟨htest, -, -, hres⟩ := endTest_ends (s.putPack p { s.pack p with loadStep := false }) p (r := 2) (by decide)
  obtain ⟨hq, -⟩ := endTest_fails (s.putPack p { s.pack p with loadStep := false }) p (r := 2) (by decide) (by decide)
  exact ⟨_, hx, htest, hres, hq⟩

theorem selftestStep_passes (hrise : (s.pack p).learned.capMah ≤ (if1 - i0) * 50)
    (hlow : (s.packCfg p).cells * (s.packCfg p).cutoffMvCell * 105 < min r.lowest mv * 100)
    (hfast : agree20 (stepR v0 vf1 i0 if1) (stepR w0 vf2 j0 if2) = true) (hslow : agree20 (stepR v0 vs1 i0 is1) (stepR w0 vs2 j0 is2) = true)
    (hsoc : (s.pack p).socPpm < 500000) :
    Does (.holdupSelftestStep mv ma) s (fun t => (t.pack p).test = none ∧ t.fld (Fld.PACK_STATUS.TEST_RESULT.at (packIx p)) = 1 ∧
      (t.pack p).learned.qualified = true ∧ (t.pack p).fails = 0) := by
  have hx := exec_selftestStep_judged (ma := ma) hp hr hstep hsamples hv hd hf
  obtain ⟨l, hverdict⟩ := verdict_passes (s := s.putPack p { s.pack p with loadStep := false }) (p := p) (t := r.moved mv)
    (by rw [pack_putPack_same]; exact hrise) hlow hfast hslow (by rw [pack_putPack_same]; exact hsoc)
  exact does_endTest_pass (hx.trans (congrArg _ hverdict))

end

theorem startupTest_queues {s : State} (hac : s.acFail = false) : (s.packPresent .A = true → .A ∈ ((s.requestPresent .A).requestPresent .B).nrg.queue) ∧
    (s.packPresent .B = true → .B ∈ ((s.requestPresent .A).requestPresent .B).nrg.queue) ∧
    (s.packPresent .A = false → s.packPresent .B = false → ((s.requestPresent .A).requestPresent .B).nrg.queue = s.nrg.queue) := by
  have hac' : (s.requestPresent .A).acFail = false := (requestPresent_same s .A .A).2.trans hac
  have hpb : (s.requestPresent .A).packPresent .B = s.packPresent .B := (requestPresent_same s .A .B).1
  refine ⟨fun ha => ?_, fun hb => ?_, fun ha hb => ?_⟩
  · rw [requestPresent_present ha, State.requestPresent]
    have hqa := requestTest_queue hac .A
    split
    next => exact requestTest_queue_grows .B hqa
    next => exact hqa
  · rw [requestPresent_present (hpb.trans hb)]
    exact requestTest_queue hac' .B
  · rw [requestPresent_absent (hpb.trans hb), requestPresent_absent ha]

theorem startupTest_defers {s : State} (hac : s.acFail = true) :
    (s.packPresent .A = true → .A ∈ ((s.requestPresent .A).requestPresent .B).nrg.deferred) ∧
    (s.packPresent .B = true → .B ∈ ((s.requestPresent .A).requestPresent .B).nrg.deferred) ∧
    ((s.requestPresent .A).requestPresent .B).nrg.queue = s.nrg.queue := by
  have hac' : (s.requestPresent .A).acFail = true := (requestPresent_same s .A .A).2.trans hac
  have hpb : (s.requestPresent .A).packPresent .B = s.packPresent .B := (requestPresent_same s .A .B).1
  refine ⟨fun ha => ?_, fun hb => ?_, ?_⟩
  · rw [requestPresent_present ha, State.requestPresent]
    have hda := (requestTest_deferred hac .A).1
    split
    next => exact requestTest_deferred_grows .B hda
    next => exact hda
  · rw [requestPresent_present (hpb.trans hb)]
    exact (requestTest_deferred hac' .B).1
  · rw [requestPresent_queue_deferred hac', requestPresent_queue_deferred hac]

theorem startupTest_both {s : State} (ha : s.packPresent .A = true) (hb : s.packPresent .B = true) (hac : s.acFail = false)
    (hq : s.nrg.queue = []) : ((s.requestPresent .A).requestPresent .B).nrg.queue = [.A, .B] := by
  rw [requestPresent_present (p := .B) (by rw [(requestPresent_same s .A .B).1, hb]), requestPresent_present ha]
  have hqa : (s.requestTest .A).nrg.queue = [.A] := by simp [State.requestTest, hac, hq]
  rw [State.requestTest, if_neg (by rw [acFail_requestTest, hac]; decide), hqa]
  rfl

/-- Settles O54: a test starts from the head of its queue, each step is one case of the sequence, and its end is its judgement. -/
theorem holdupSelfTestsRunTheirSteps : Obligations.HoldupSelfTestsRunTheirSteps := by
  refine ⟨?start, ?loadA, ?sampleA, ?cutoffA, ?lastA, ?retest, ?age, ?ageDeferred, ?startup, ?startIdle, ?noTest, ?load, ?sample, ?cutoff,
    ?incomplete, ?weakStep, ?passes, ?retestDeferred, ?retestIdle, ?ageIdle, ?startupEach, ?startupDeferred⟩
  case start =>
    intro s p hq hac hp ht
    have htest : (((s.testStarted p).setHoldup true).pack p).test = some ⟨2, [], s.fld (Fld.NRG_VOLT_MV.MV.at (packIx p))⟩ := by
      rw [pack_setHoldup, State.testStarted, pack_putOther, pack_putPack_same]
      rfl
    refine ⟨_, exec_holdupSelftestStart hq hac hp ht, ?queue, ?tested, ?other, ?holdup, showNrg_testActive (p := p) (by rw [htest]; rfl)⟩
    case queue => exact congrArg Nrg.queue (Only.nrg (only_State_showNrg _) rfl)
    case tested =>
      rw [pack_showNrg, htest]
      rfl
    case other =>
      rw [pack_showNrg, pack_setHoldup, State.testStarted, pack_putPack_same]
    case holdup => exact (Kept.bit (kept_State_showNrg _) _ (by decide)).trans (State.bit_setBit_same _ _ _ rfl)
  case startIdle =>
    intro s p h
    exact ⟨s, if_pos (by rcases h with h | h | h | h <;> simp [h]), rfl⟩
  case load =>
    intro s p mv ma r hp hr hstep hv
    refine ⟨_, exec_selftestStep_load hp hr hv hstep, ?_⟩
    beta_reduce
    rw [pack_putPack_same]
    exact ⟨rfl, rfl⟩
  case loadA =>
    intro s mv ma r hr hstep hv
    refine ⟨_, exec_selftestStep_load (firstTested hr) hr hv (.inl hstep), ?_⟩
    beta_reduce
    rw [pack_putPack_same, TestRun.moved, hstep]
    exact ⟨rfl, rfl⟩
  case sample =>
    intro s p mv ma r hp hr hstep hv
    refine ⟨_, exec_selftestStep_sample hp hr hv hstep, ?_⟩
    beta_reduce
    rw [pack_putPack_same]
    exact ⟨rfl, rfl⟩
  case sampleA =>
    intro s mv ma r hr hstep hv
    refine ⟨_, exec_selftestStep_sample (firstTested hr) hr hv (by simp [hstep]), ?_⟩
    beta_reduce
    rw [pack_putPack_same, TestRun.sampled, TestRun.moved, hstep]
  case cutoff =>
    intro s p mv ma r hp hr hv
    obtain ⟨htest, -, -, hres⟩ := endTest_ends s p (r := 3) (by decide)
    obtain ⟨hq, hf⟩ := endTest_fails s p (r := 3) (by decide) (by decide)
    exact ⟨_, exec_selftestStep_cutoff hp hr hv, hres, htest, hq, hf⟩
  case cutoffA =>
    intro s mv ma r hr hv
    obtain ⟨htest, -, -, hres⟩ := endTest_ends s .A (r := 3) (by decide)
    obtain ⟨hq, hf⟩ := endTest_fails s .A (r := 3) (by decide) (by decide)
    exact ⟨_, exec_selftestStep_cutoff (firstTested hr) hr hv, hres, htest, hq, hf⟩
  case lastA => exact fun s mv ma r hr hstep hv => ⟨_, exec_selftestStep_last (firstTested hr) hr hv hstep, judgeTest_ends ..⟩
  case incomplete =>
    intro s p mv ma r hp hr hstep hlen hv
    have hj : (s.putPack p { s.pack p with loadStep := false }).judgeTest p (r.moved mv) = _ := judgeTest_incomplete _ p hlen
    obtain ⟨htest, -, -, hres⟩ := endTest_ends (s.putPack p { s.pack p with loadStep := false }) p (r := 6) (by decide)
    have hl := endTest_aborts (s.putPack p { s.pack p with loadStep := false }) p
    rw [pack_putPack_same] at hl
    exact ⟨_, (exec_selftestStep_last hp hr hv hstep).trans (congrArg _ hj), htest, hres, hl⟩
  case weakStep =>
    exact fun s p mv v0 vf1 vs1 w0 vf2 vs2 ma i0 if1 is1 j0 if2 is2 r hp hr hstep hsamples hv hd hf hrise =>
      selftestStep_weak_step hp hr hstep hsamples hv hd hf hrise
  case passes =>
    exact fun s p mv v0 vf1 vs1 w0 vf2 vs2 ma i0 if1 is1 j0 if2 is2 r hp hr hstep hsamples hv hd hf hrise hlow hfast hslow hsoc =>
      selftestStep_passes hp hr hstep hsamples hv hd hf hrise hlow hfast hslow hsoc
  case noTest =>
    intro s mv ma ha hb
    have hnone : bothPacks.find? (fun q => (s.pack q).test.isSome) = none := by simp [bothPacks, ha, hb]
    exact ⟨s, by simp only [exec, execHoldupSelftestStep, hnone], rfl⟩
  case retest =>
    intro s p r hp hr h2 h5 hac
    subst hr
    exact ⟨_, (exec_holdupRetestTimer s p).trans (if_pos ⟨hp, h2, h5⟩), requestTest_queue hac p⟩
  case retestDeferred =>
    exact fun s p hp hac h2 h5 => ⟨_, (exec_holdupRetestTimer s p).trans (if_pos ⟨hp, h2, h5⟩), requestTest_deferred hac p⟩
  case retestIdle =>
    intro s p h
    refine ⟨s, (exec_holdupRetestTimer s p).trans (if_neg ?_), rfl⟩
    rintro ⟨hp, h2, h5⟩
    rcases h with h | h
    · rw [h] at hp
      exact Bool.false_ne_true hp
    · simp only [List.mem_cons, List.not_mem_nil, or_false] at h
      omega
  case age => exact fun s p hp hac => ⟨_, (exec_holdupTestAgeExpiry s p).trans (if_pos hp), requestTest_queue hac p⟩
  case ageDeferred => exact fun s p hp hac => ⟨_, (exec_holdupTestAgeExpiry s p).trans (if_pos hp), requestTest_deferred hac p⟩
  case ageIdle => exact fun s p hp => ⟨s, (exec_holdupTestAgeExpiry s p).trans (if_neg (by simp [hp])), rfl⟩
  case startup => exact fun s ha hb hac hq => ⟨_, exec_holdupStartupTest s, startupTest_both ha hb hac hq⟩
  case startupEach => exact fun s hac => ⟨_, exec_holdupStartupTest s, startupTest_queues hac⟩
  case startupDeferred => exact fun s hac => ⟨_, exec_holdupStartupTest s, startupTest_defers hac⟩

end Sys2Proof.Machine

/-!
The gauge's energy, packs that come and go, the vault's patrol, learning cycles and the gauge commands (O53, O55).
-/
namespace Sys2Proof.Machine

/-! ### Registers of a pack that a step leaves (R7) -/

theorem Kept.packFld {l : List Field} {s t : State} (k : Kept l s t) {f : Field} (p : PackId)
    (h : l.all (fun g => g.apart (f.at 0) && g.apart (f.at 1)) = true) : t.fld (f.at (packIx p)) = s.fld (f.at (packIx p)) := by
  simp only [List.all_eq_true, Bool.and_eq_true] at h
  cases p with
  | A => exact k.fld (f.at 0) (List.all_eq_true.mpr fun g hg => (h g hg).1)
  | B => exact k.fld (f.at 1) (List.all_eq_true.mpr fun g hg => (h g hg).2)

theorem Kept.packBit {l : List Field} {s t : State} (k : Kept l s t) {f : Field} (p : PackId)
    (h : l.all (fun g => g.apart (f.at 0) && g.apart (f.at 1)) = true) : t.bit (f.at (packIx p)) = s.bit (f.at (packIx p)) :=
  congrArg (decide <| · ≠ 0) (k.packFld p h)

/-! ### Deliverable energy (R354, R363) -/

theorem gaugeCfg_of_same {s t : State} (hi : t.img = s.img) (hsafe : t.bit Fld.IMG_BOOT.SAFE_MODE = s.bit Fld.IMG_BOOT.SAFE_MODE) :
    t.gaugeCfg = s.gaugeCfg := by
  simp only [State.gaugeCfg, hi, hsafe]

/-- The registers that the energy of a pack rests on. -/
def energyInputs : List Field := [Fld.IMG_BOOT.SAFE_MODE, Fld.PACK_STATUS.PRESENT.at 0, Fld.PACK_STATUS.PRESENT.at 1, Fld.NRG_TEMP.DECI_C.at 0,
  Fld.NRG_TEMP.DECI_C.at 1]

/-- What the energy of a pack rests on: the packs, the image, presence and temperature. -/
theorem packEnergyAt_of_same {l : List Field} {s t : State} (hn : t.nrg = s.nrg) (hi : t.img = s.img) (k : Kept l s t)
    (hl : (energyInputs.all fun f => l.all fun g => g.apart f) = true) (p : PackId) (soc : Nat) : t.packEnergyAt p soc = s.packEnergyAt p soc := by
  have hf : ∀ f ∈ energyInputs, t.fld f = s.fld f := fun f h => k.fld f (List.all_eq_true.mp hl f h)
  have hb : ∀ f ∈ energyInputs, t.bit f = s.bit f := fun f h => congrArg (decide <| · ≠ 0) (hf f h)
  have hsafe : t.bit Fld.IMG_BOOT.SAFE_MODE = s.bit Fld.IMG_BOOT.SAFE_MODE := hb _ (by simp [energyInputs])
  have hpres : t.bit (Fld.PACK_STATUS.PRESENT.at (packIx p)) = s.bit (Fld.PACK_STATUS.PRESENT.at (packIx p)) :=
    hb _ (by cases p <;> simp [energyInputs, packIx])
  have htemp : t.fld (Fld.NRG_TEMP.DECI_C.at (packIx p)) = s.fld (Fld.NRG_TEMP.DECI_C.at (packIx p)) :=
    hf _ (by cases p <;> simp [energyInputs, packIx])
  have hcfg := gaugeCfg_of_same hi hsafe
  simp only [State.packEnergyAt, State.packCounts, State.packPresent, State.pack, State.packCfg, State.packTemp, hcfg, hn, hpres, htemp]
  rfl

theorem reserveJ_of_same {s t : State} (hi : t.img = s.img) (hsafe : t.bit Fld.IMG_BOOT.SAFE_MODE = s.bit Fld.IMG_BOOT.SAFE_MODE)
    (hm : t.fld Fld.WC_LIMIT.MIB = s.fld Fld.WC_LIMIT.MIB) : t.reserveJ = s.reserveJ := by
  simp only [State.reserveJ, State.wcCfg, gaugeCfg_of_same hi hsafe, hi, hm]

/-- The energy of a pack at its own charge. -/
def State.packEnergyNow (s : State) (p : PackId) : Nat := s.packEnergyAt p (s.pack p).socPpm

/-- The energy of each pack written. -/
def State.packsShown (s : State) (ea eb : Nat) : State := (s.setFld (Fld.NRG_PACK_E_J.J.at 0) ea).setFld (Fld.NRG_PACK_E_J.J.at 1) eb

/-- The reserve written. -/
def State.reserveShown (s : State) : State := s.setFld Fld.NRG_RESERVE_J.J s.reserveJ

/-- The difference of energy and reserve written. -/
def State.availableShown (s : State) : State := s.setFld Fld.NRG_AVAIL_J.J (s.fld Fld.NRG_E_J.E_J - s.fld Fld.NRG_RESERVE_J.J)

/-- E, the reserve and the difference written from the energies of the packs. -/
def State.energyShown (s : State) (ea eb : Nat) : State :=
  ((s.packsShown ea eb).setFld Fld.NRG_E_J.E_J (ea + eb - (s.packsShown ea eb).gaugeCfg.overheadJ)).reserveShown.availableShown

theorem computeEnergy_eq (s : State) :
    s.computeEnergy = (s.showNrg.energyShown (s.showNrg.packEnergyNow .A) (s.showNrg.packEnergyNow .B)).noteUnprot := by
  rfl

theorem showNrg_packEnergyNow (s : State) (p : PackId) : s.showNrg.packEnergyNow p = s.packEnergyNow p := by
  rw [State.packEnergyNow, pack_showNrg, packEnergyAt_of_same (Only.nrg (only_State_showNrg s) rfl) (Only.img (only_State_showNrg s) rfl)
    (kept_State_showNrg s) (by decide)]
  rfl

theorem kept_packsShown (s : State) (ea eb : Nat) : Kept [Fld.NRG_PACK_E_J.J] s (s.packsShown ea eb) :=
  Kept.setFldAt rfl (Kept.setFldAt rfl Kept.refl)

theorem kept_reserveShown (s : State) : Kept [Fld.NRG_RESERVE_J.J] s s.reserveShown := Kept.setFld rfl Kept.refl

theorem kept_availableShown (s : State) : Kept [Fld.NRG_AVAIL_J.J] s s.availableShown := Kept.setFld rfl Kept.refl

theorem kept_packsShown_energy (s : State) (ea eb v : Nat) :
    Kept [Fld.NRG_PACK_E_J.J, Fld.NRG_E_J.E_J] s ((s.packsShown ea eb).setFld Fld.NRG_E_J.E_J v) :=
  Kept.setFld rfl (Kept.step (kept_packsShown s ea eb) rfl Kept.refl)

theorem packsShown_pack (s : State) (p : PackId) (ea eb : Nat) : (s.packsShown ea eb).fld (Fld.NRG_PACK_E_J.J.at (packIx p)) =
    (match p with
    | .A => ea
    | .B => eb) % 2 ^ 24 := by
  cases p with
  | A => exact (fld_setFld_sibling _ _ (by decide) (by decide) (by decide) (by decide)).trans (State.fld_setFld_same ..)
  | B => exact State.fld_setFld_same ..

theorem energyShown_pack (s : State) (p : PackId) (ea eb : Nat) : (s.energyShown ea eb).fld (Fld.NRG_PACK_E_J.J.at (packIx p)) =
    (match p with
    | .A => ea
    | .B => eb) % 2 ^ 24 := by
  have hk : Kept [Fld.NRG_E_J.E_J, Fld.NRG_RESERVE_J.J, Fld.NRG_AVAIL_J.J] (s.packsShown ea eb) (s.energyShown ea eb) :=
    Kept.step (kept_availableShown _) rfl (Kept.step (kept_reserveShown _) rfl (Kept.setFld rfl Kept.refl))
  rw [← packsShown_pack s]
  exact hk.packFld p (by decide)

theorem energyShown_energy (s : State) (ea eb : Nat) : (s.energyShown ea eb).fld Fld.NRG_E_J.E_J = (ea + eb - s.gaugeCfg.overheadJ) % 2 ^ 24 := by
  unfold State.energyShown
  rw [(kept_availableShown _).fld _ (by decide), (kept_reserveShown _).fld _ (by decide), State.fld_setFld_same,
    gaugeCfg_of_same (s := s) (t := s.packsShown ea eb) rfl ((kept_packsShown s ea eb).bit _ (by decide))]
  rfl

theorem energyShown_reserve (s : State) (ea eb : Nat) : (s.energyShown ea eb).fld Fld.NRG_RESERVE_J.J = s.reserveJ % 2 ^ 24 := by
  unfold State.energyShown
  have hk := kept_packsShown_energy s ea eb (ea + eb - (s.packsShown ea eb).gaugeCfg.overheadJ)
  have hj := reserveJ_of_same (s := s) (t := (s.packsShown ea eb).setFld Fld.NRG_E_J.E_J _) rfl (hk.bit Fld.IMG_BOOT.SAFE_MODE (by decide)) (hk.fld Fld.WC_LIMIT.MIB (by decide))
  rw [(kept_availableShown _).fld _ (by decide), State.reserveShown, State.fld_setFld_same, hj]
  rfl

theorem availableShown_shows {s : State} (h : s.fld Fld.NRG_E_J.E_J < 2 ^ 24) : s.availableShown.fld Fld.NRG_AVAIL_J.J =
    s.availableShown.fld Fld.NRG_E_J.E_J - s.availableShown.fld Fld.NRG_RESERVE_J.J := by
  rw [(kept_availableShown s).fld Fld.NRG_E_J.E_J (by decide), (kept_availableShown s).fld Fld.NRG_RESERVE_J.J (by decide)]
  exact (State.fld_setFld_same ..).trans (Nat.mod_eq_of_lt (Nat.lt_of_le_of_lt (Nat.sub_le ..) h))

theorem energyShown_available (s : State) (ea eb : Nat) : (s.energyShown ea eb).fld Fld.NRG_AVAIL_J.J =
    (s.energyShown ea eb).fld Fld.NRG_E_J.E_J - (s.energyShown ea eb).fld Fld.NRG_RESERVE_J.J := by
  have he := energyShown_energy s ea eb
  unfold State.energyShown at he ⊢
  rw [(kept_availableShown _).fld _ (by decide)] at he
  exact availableShown_shows (he ▸ Nat.mod_lt _ (by decide))

theorem computeEnergy_pack (s : State) (p : PackId) : s.computeEnergy.fld (Fld.NRG_PACK_E_J.J.at (packIx p)) = s.packEnergyNow p % 2 ^ 24 := by
  rw [computeEnergy_eq, Kept.fldAt (kept_State_noteUnprot _) _ (by decide), energyShown_pack]
  cases p <;> simp only [showNrg_packEnergyNow]

theorem computeEnergy_energy (s : State) : s.computeEnergy.fld Fld.NRG_E_J.E_J =
    (s.packEnergyNow .A + s.packEnergyNow .B - s.gaugeCfg.overheadJ) % 2 ^ 24 := by
  rw [computeEnergy_eq, Kept.fld (kept_State_noteUnprot _) _ (by decide), energyShown_energy, showNrg_packEnergyNow, showNrg_packEnergyNow,
    gaugeCfg_of_same (Only.img (only_State_showNrg s) rfl) (Kept.bit (kept_State_showNrg s) _ (by decide))]

theorem computeEnergy_reserve (s : State) : s.computeEnergy.fld Fld.NRG_RESERVE_J.J = s.reserveJ % 2 ^ 24 := by
  rw [computeEnergy_eq, Kept.fld (kept_State_noteUnprot _) _ (by decide), energyShown_reserve,
    reserveJ_of_same (Only.img (only_State_showNrg s) rfl) (Kept.bit (kept_State_showNrg s) _ (by decide))
      (Kept.fld (kept_State_showNrg s) _ (by decide))]

theorem computeEnergy_available (s : State) : s.computeEnergy.fld Fld.NRG_AVAIL_J.J =
    s.computeEnergy.fld Fld.NRG_E_J.E_J - s.computeEnergy.fld Fld.NRG_RESERVE_J.J := by
  rw [computeEnergy_eq]
  generalize hu : s.showNrg.energyShown _ _ = u
  rw [Kept.fld (kept_State_noteUnprot u) _ (by decide), Kept.fld (kept_State_noteUnprot u) _ (by decide),
    Kept.fld (kept_State_noteUnprot u) _ (by decide), ← hu, energyShown_available]

/-! ### A sample of a pack (R351) -/

theorem takeSample_volt (s : State) (p q : PackId) (v : PackSample) : (s.takeSample p v).fld (Fld.NRG_VOLT_MV.MV.at (packIx q)) =
    (s.setFld (Fld.NRG_VOLT_MV.MV.at (packIx p)) v.mv).fld (Fld.NRG_VOLT_MV.MV.at (packIx q)) := by
  have hkeeps : ∀ t, Kept [Fld.NRG_CURR_MA, Fld.NRG_TEMP.DECI_C, Fld.PACK_STATUS.TEMP_OUT, Fld.NRG_COULOMB]
      (s.setFld (Fld.NRG_VOLT_MV.MV.at (packIx p)) v.mv) t →
      t.fld (Fld.NRG_VOLT_MV.MV.at (packIx q)) = (s.setFld (Fld.NRG_VOLT_MV.MV.at (packIx p)) v.mv).fld (Fld.NRG_VOLT_MV.MV.at (packIx q)) :=
    fun t k => k.packFld q (by decide)
  unfold State.takeSample
  simp only
  split
  next => exact hkeeps _ (Kept.setBitAt rfl (Kept.setFldAt rfl (Kept.setFldAt rfl Kept.refl)))
  next => exact hkeeps _ (Kept.regs rfl (Kept.setFldAt rfl (Kept.setBitAt rfl (Kept.setFldAt rfl (Kept.setFldAt rfl Kept.refl)))))

theorem takeSample_volt_same (s : State) (p : PackId) (v : PackSample) :
    (s.takeSample p v).fld (Fld.NRG_VOLT_MV.MV.at (packIx p)) = v.mv % 65536 := by
  rw [takeSample_volt]
  exact State.fld_setFld_same ..

theorem takeSample_volt_other (s : State) (p : PackId) (v : PackSample) :
    (s.takeSample p v).fld (Fld.NRG_VOLT_MV.MV.at (packIx (otherPack p))) = s.fld (Fld.NRG_VOLT_MV.MV.at (packIx (otherPack p))) := by
  rw [takeSample_volt]
  exact fld_setFld_sibling _ _ (by decide) (packIx_lt _) (packIx_lt _) (packIx_ne p).symm

/-- The state after a sample of each pack. -/
def State.sampled (s : State) (a b : PackSample) : State := (s.takeSample .A a).takeSample .B b

theorem gaugeEnergyCompute_shows (s : State) (a b : PackSample) : Does (.gaugeEnergyCompute a b) s fun t =>
    t.fld (Fld.NRG_VOLT_MV.MV.at 0) = a.mv % 65536 ∧ t.fld (Fld.NRG_VOLT_MV.MV.at 1) = b.mv % 65536 ∧
    t.fld Fld.NRG_E_J.E_J = ((s.sampled a b).packEnergyNow .A + (s.sampled a b).packEnergyNow .B - (s.sampled a b).gaugeCfg.overheadJ) % 2 ^ 24 ∧
    t.fld Fld.NRG_RESERVE_J.J = (s.sampled a b).reserveJ % 2 ^ 24 ∧
    t.fld Fld.NRG_AVAIL_J.J = t.fld Fld.NRG_E_J.E_J - t.fld Fld.NRG_RESERVE_J.J := by
  have ha : (s.sampled a b).fld (Fld.NRG_VOLT_MV.MV.at 0) = a.mv % 65536 :=
    (takeSample_volt_other _ .B b).trans (takeSample_volt_same s .A a)
  have hb : (s.sampled a b).fld (Fld.NRG_VOLT_MV.MV.at 1) = b.mv % 65536 := takeSample_volt_same _ .B b
  have hx : exec (.gaugeEnergyCompute a b) s = .next (((s.sampled a b).computeEnergy.moveSoc .A).moveSoc .B) := rfl
  refine ⟨_, hx, ?_⟩
  generalize s.sampled a b = u at ha hb ⊢
  have hv : Kept [Fld.NRG_SOC.PERMILLE] u.computeEnergy ((u.computeEnergy.moveSoc .A).moveSoc .B) :=
    Kept.step (kept_State_moveSoc _ _) rfl (kept_State_moveSoc _ _)
  rw [hv.fld (Fld.NRG_VOLT_MV.MV.at 0) (by decide), hv.fld (Fld.NRG_VOLT_MV.MV.at 1) (by decide), hv.fld Fld.NRG_E_J.E_J (by decide),
    hv.fld Fld.NRG_RESERVE_J.J (by decide), hv.fld Fld.NRG_AVAIL_J.J (by decide)]
  exact ⟨(Kept.fld (kept_State_computeEnergy u) _ (by decide)).trans ha, (Kept.fld (kept_State_computeEnergy u) _ (by decide)).trans hb,
    computeEnergy_energy u, computeEnergy_reserve u, computeEnergy_available u⟩

/-! ### Packs that go and come (R352, R365) -/

/-- The state without a learning cycle on a pack that went. -/
def State.learnCut (s : State) (p : PackId) : State := if (s.pack p).learn.isSome then s.endLearn p 7 else s

/-- A pack that went. -/
def Pack.gone (x : Pack) : Pack := { x with en := false, loadStep := false, cut := none, restSince := none }

/-- The state after a pack that went, before the energy is computed again. -/
def State.packTaken (s : State) (p : PackId) : State :=
  let s := (s.abortTest p).learnCut p
  let s := (s.setBit (Fld.PACK_STATUS.PRESENT.at (packIx p)) false).putPack p (s.pack p).gone
  let s := { s with nrg := { s.nrg with queue := s.nrg.queue.filter (· ≠ p), deferred := s.nrg.deferred.filter (· ≠ p) } }
  (s.endNrgCmd p).setFld (Fld.NRG_SOC.PERMILLE.at (packIx p)) 0

theorem exec_packRemoved {s : State} {p : PackId} (h : s.packPresent p = true) :
    exec (.packRemoved p) s = .next (s.packTaken p).computeEnergy.recomputeLimit.computeEnergy := by
  simp only [exec, execPackRemoved, h]
  rfl

theorem pack_endLearn (s : State) (p : PackId) (r : Nat) : (s.endLearn p r).pack p =
    { s.pack p with learn := none, loadStep := (s.pack p).test.isSome && (s.pack p).loadStep } := by
  unfold State.endLearn
  rw [pack_showNrg, pack_setFld, pack_putPack_same]

theorem endLearn_result (s : State) (p : PackId) {r : Nat} (h : r < 16) :
    (s.endLearn p r).fld (Fld.PACK_STATUS.LEARN_RESULT.at (packIx p)) = r := by
  unfold State.endLearn
  rw [Kept.fldAt (kept_State_showNrg _) _ (by decide)]
  exact (State.fld_setFld_same ..).trans (Nat.mod_eq_of_lt h)

theorem learnCut_ends (s : State) (p : PackId) : ((s.learnCut p).pack p).learn = none ∧ ((s.learnCut p).pack p).test = (s.pack p).test := by
  unfold State.learnCut
  split
  next => 
    rw [pack_endLearn]
    exact ⟨rfl, rfl⟩
  next h => exact ⟨by simpa using h, rfl⟩

theorem abortTest_test (s : State) (p : PackId) : ((s.abortTest p).pack p).test = none := by
  unfold State.abortTest
  split
  next => exact (endTest_ends s p (by decide)).1
  next h => simpa using h

/-- A pack whose request for a command has ended keeps its place in nothing else. -/
theorem endNrgCmd_queue (s : State) (p : PackId) : (s.endNrgCmd p).nrg.queue = s.nrg.queue := by
  unfold State.endNrgCmd
  split <;> rfl

theorem pack_packTaken (s : State) (p : PackId) : (s.packTaken p).pack p = (((s.abortTest p).learnCut p).pack p).gone := by
  unfold State.packTaken
  generalize (s.abortTest p).learnCut p = u
  rw [pack_setFld, pack_endNrgCmd]
  exact pack_putPack_same ..

theorem packTaken_queue (s : State) (p : PackId) : p ∉ (s.packTaken p).nrg.queue := by
  unfold State.packTaken
  generalize (s.abortTest p).learnCut p = u
  show p ∉ (State.endNrgCmd _ p).nrg.queue
  rw [endNrgCmd_queue]
  simp

theorem packTaken_absent (s : State) (p : PackId) : (s.packTaken p).packPresent p = false := by
  unfold State.packTaken State.packPresent
  generalize (s.abortTest p).learnCut p = u
  rw [Kept.bitAt (l := [Fld.NRG_SOC.PERMILLE]) (Kept.setFldAt rfl Kept.refl) _ (by decide), Kept.bitAt (kept_State_endNrgCmd _ p) _ (by decide)]
  exact State.bit_setBit_same _ _ _ rfl

theorem packTaken_charge (s : State) (p : PackId) : (s.packTaken p).fld (Fld.NRG_SOC.PERMILLE.at (packIx p)) = 0 := State.fld_setFld_same ..

theorem packEnergyNow_absent {s : State} {p : PackId} (h : s.packPresent p = false) : s.packEnergyNow p = 0 :=
  if_neg (by simp [State.packCounts, h])

theorem computeEnergy_present (s : State) (p : PackId) : s.computeEnergy.packPresent p = s.packPresent p :=
  Kept.packBit (kept_State_computeEnergy s) p (by decide)

theorem recomputeLimit_present (s : State) (p : PackId) : s.recomputeLimit.packPresent p = s.packPresent p :=
  Kept.packBit (kept_State_recomputeLimit s) p (by decide)

theorem computeEnergy_nrg (s : State) : s.computeEnergy.nrg = s.nrg := Only.nrg (only_State_computeEnergy s) rfl

theorem recomputeLimit_nrg (s : State) : s.recomputeLimit.nrg = s.nrg := Only.nrg (only_State_recomputeLimit s) rfl

theorem pack_recomputeLimit (s : State) (p : PackId) : s.recomputeLimit.pack p = s.pack p := Only.pack (only_State_recomputeLimit s) rfl p

theorem computeEnergy_charge (s : State) (p : PackId) :
    s.computeEnergy.fld (Fld.NRG_SOC.PERMILLE.at (packIx p)) = s.fld (Fld.NRG_SOC.PERMILLE.at (packIx p)) := Kept.packFld (kept_State_computeEnergy s) p (by decide)

theorem recomputeLimit_charge (s : State) (p : PackId) :
    s.recomputeLimit.fld (Fld.NRG_SOC.PERMILLE.at (packIx p)) = s.fld (Fld.NRG_SOC.PERMILLE.at (packIx p)) :=
  Kept.packFld (kept_State_recomputeLimit s) p (by decide)

theorem packRemoved_takes {s : State} {p : PackId} (h : s.packPresent p = true) : Does (.packRemoved p) s fun t =>
    t.packPresent p = false ∧ (t.pack p).en = false ∧ (t.pack p).test = none ∧ (t.pack p).learn = none ∧
    p ∉ t.nrg.queue ∧ t.fld (Fld.NRG_PACK_E_J.J.at (packIx p)) = 0 ∧ t.fld (Fld.NRG_SOC.PERMILLE.at (packIx p)) = 0 := by
  obtain ⟨hlearn, htest⟩ := learnCut_ends (s.abortTest p) p
  rw [abortTest_test] at htest
  have hpack := pack_packTaken s p
  have habsent := packTaken_absent s p
  have hqueue := packTaken_queue s p
  have hcharge := packTaken_charge s p
  refine ⟨_, exec_packRemoved h, ?_⟩
  generalize s.packTaken p = u at hpack habsent hqueue hcharge ⊢
  have hgone : u.computeEnergy.recomputeLimit.packPresent p = false := by rw [recomputeLimit_present, computeEnergy_present, habsent]
  rw [computeEnergy_present, pack_computeEnergy, computeEnergy_nrg, computeEnergy_charge, computeEnergy_pack, packEnergyNow_absent hgone,
    pack_recomputeLimit, recomputeLimit_nrg, recomputeLimit_charge, pack_computeEnergy, computeEnergy_nrg, computeEnergy_charge, hpack]
  exact ⟨hgone, rfl, htest, hlearn, hqueue, rfl, hcharge⟩

theorem exec_packRemoved_absent {s : State} {p : PackId} (h : s.packPresent p = false) : exec (.packRemoved p) s = .next s :=
  if_pos (by simp [h])

/-- The state after a pack that came, before its test and the energy. -/
def State.packArrived (s : State) (p : PackId) : State :=
  let m := s.packCfg p
  let s := s.setBit (Fld.PACK_STATUS.PRESENT.at (packIx p)) true
  let soc := socOfOcv m (s.fld (Fld.NRG_VOLT_MV.MV.at (packIx p)) / m.cells)
  let s := s.putPack p { s.pack p with en := s.mayEnable p, cut := none, socPpm := soc, presentAt := s.now }
  (s.setFld (Fld.NRG_COULOMB.at (packIx p)) 0).replacePack p

theorem exec_packPresent {s : State} {p : PackId} (hp : s.packPresent p = false) (hc : (s.packCfg p).chemistry ≠ 0) :
    exec (.packPresent p) s = .next ((s.packArrived p).requestTest p).computeEnergy :=
  if_neg (by simp [hp, hc])

theorem exec_packPresent_not_due {s : State} {p : PackId} (h : (s.packCfg p).chemistry = 0 ∨ s.packPresent p = true) :
    exec (.packPresent p) s = .next s :=
  if_pos h

theorem pack_replacePack (s : State) (p : PackId) : (s.replacePack p).pack p =
    { s.pack p with learned := replacementOf s.gaugeCfg (s.packCfg p) (s.pack p).learned (s.pitch.getD 0), displaced := some (s.pack p).learned,
                    fails := 0, learnTries := 0, writeDue := true, sameBad := false } := by
  unfold State.replacePack
  exact pack_putPack_same ..

theorem packArrived_pack (s : State) (p : PackId) : ((s.packArrived p).pack p).en = (s.pack (otherPack p)).test.isNone ∧
    ((s.packArrived p).pack p).learned.qualified = false ∧ ((s.packArrived p).pack p).displaced = some (s.pack p).learned := by
  unfold State.packArrived
  simp only
  rw [pack_replacePack, pack_setFld, pack_putPack_same]
  exact ⟨rfl, rfl, rfl⟩

theorem packArrived_present (s : State) (p : PackId) : (s.packArrived p).packPresent p = true := by
  have hset : (s.setBit (Fld.PACK_STATUS.PRESENT.at (packIx p)) true).packPresent p = true := State.bit_setBit_same _ _ _ rfl
  unfold State.packArrived State.packPresent
  simp only
  rw [Kept.bitAt (kept_State_replacePack _ p) _ (by decide), Kept.bitAt (l := [Fld.NRG_COULOMB]) (Kept.setFldAt rfl Kept.refl) _ (by decide)]
  exact hset

theorem packArrived_coulomb (s : State) (p : PackId) : (s.packArrived p).fld (Fld.NRG_COULOMB.at (packIx p)) = 0 := by
  unfold State.packArrived
  simp only
  rw [Kept.fldAt (kept_State_replacePack _ p) _ (by decide)]
  exact State.fld_setFld_same ..

theorem packArrived_acFail (s : State) (p : PackId) : (s.packArrived p).acFail = s.acFail := by
  unfold State.packArrived State.acFail
  simp only
  have hk : ∀ x, Kept [Fld.PACK_STATUS.PRESENT, Fld.NRG_COULOMB] s
      (((s.setBit (Fld.PACK_STATUS.PRESENT.at (packIx p)) true).putPack p x).setFld (Fld.NRG_COULOMB.at (packIx p)) 0) := fun x =>
    Kept.setFldAt rfl (Kept.regs rfl (Kept.setBitAt rfl Kept.refl))
  rw [Kept.bit (kept_State_replacePack _ p) _ (by decide)]
  exact (hk _).bit _ (by decide)

theorem pack_requestTest (s : State) (p q : PackId) : (s.requestTest p).pack q = s.pack q := by
  unfold State.requestTest
  split <;> rfl

/-- What a pack that came shows, whatever the mains. -/
theorem packPresent_shows (s : State) (p : PackId) : (((s.packArrived p).requestTest p).computeEnergy).packPresent p = true ∧
    ((((s.packArrived p).requestTest p).computeEnergy).pack p).en = (s.pack (otherPack p)).test.isNone ∧
    ((((s.packArrived p).requestTest p).computeEnergy).pack p).learned.qualified = false ∧
    ((((s.packArrived p).requestTest p).computeEnergy).pack p).displaced = some (s.pack p).learned := by
  obtain ⟨hen, hq, hd⟩ := packArrived_pack s p
  rw [computeEnergy_present, pack_computeEnergy, packPresent_requestTest, pack_requestTest]
  exact ⟨packArrived_present s p, hen, hq, hd⟩

theorem packPresent_coulomb (s : State) (p : PackId) : (((s.packArrived p).requestTest p).computeEnergy).fld (Fld.NRG_COULOMB.at (packIx p)) = 0 := by
  rw [Kept.fldAt (kept_State_computeEnergy _) _ (by decide), Kept.fldAt (kept_State_requestTest _ _) _ (by decide), packArrived_coulomb]

/-! ### The vault's patrol (R366, R370) -/

/-- The rate written, and the event of one that is too low. -/
def State.rateSeen (s : State) (rate : Nat) : State :=
  let ok := decide (12000 ≤ rate) && s.bit Fld.VLT_STATUS.PRESENT
  let s := (s.setFld Fld.VLT_RATE.MBPS rate).setBit Fld.VLT_STATUS.RATE_OK ok
  if ok then s else s.emit .vaultRate [rate]

/-- The wear written, and the event of one that is new and too high. -/
def State.wearSeen (s : State) (wear : Nat) : State :=
  let was := s.bit Fld.VLT_STATUS.WEAR_WARN
  let s := (s.setFld Fld.VLT_WEAR.PCT wear).setBit Fld.VLT_STATUS.WEAR_WARN (decide (80 ≤ wear))
  if !was && decide (80 ≤ wear) then s.emit .wearWarn [wear] else s

theorem patrol_eq (s : State) (rate wear : Nat) (dirOk : Bool) : s.patrol rate wear dirOk =
    (((s.rateSeen rate).wearSeen wear).setBit Fld.VLT_STATUS.DIRECTORY_DEGRADED (!dirOk)).setBit Fld.WC_STATUS.AREA_READY
      ((s.rateSeen rate).wearSeen wear).areaReady.isSome := by
  unfold State.patrol State.wearSeen State.rateSeen
  rfl

theorem rateSeen_ok (s : State) (rate : Nat) : (s.rateSeen rate).bit Fld.VLT_STATUS.RATE_OK =
    (decide (12000 ≤ rate) && s.bit Fld.VLT_STATUS.PRESENT) := by
  unfold State.rateSeen
  simp only
  split <;> exact State.bit_setBit_same _ _ _ rfl

theorem wearSeen_warn (s : State) (wear : Nat) : (s.wearSeen wear).bit Fld.VLT_STATUS.WEAR_WARN = decide (80 ≤ wear) := by
  unfold State.wearSeen
  simp only
  split <;> exact State.bit_setBit_same _ _ _ rfl

theorem kept_wearSeen (s : State) (wear : Nat) : Kept [Fld.VLT_WEAR.PCT, Fld.VLT_STATUS.WEAR_WARN] s (s.wearSeen wear) := by
  unfold State.wearSeen
  exact Kept.ite (Kept.step (kept_State_emit _ _ _) rfl (Kept.setBit rfl (Kept.setFld rfl Kept.refl))) (Kept.setBit rfl (Kept.setFld rfl Kept.refl))

theorem patrol_shows (s : State) (rate wear : Nat) (dirOk : Bool) :
    (s.patrol rate wear dirOk).bit Fld.VLT_STATUS.RATE_OK = (decide (12000 ≤ rate) && s.bit Fld.VLT_STATUS.PRESENT) ∧
    (s.patrol rate wear dirOk).bit Fld.VLT_STATUS.WEAR_WARN = decide (80 ≤ wear) ∧
    (s.patrol rate wear dirOk).bit Fld.VLT_STATUS.DIRECTORY_DEGRADED = !dirOk := by
  rw [patrol_eq]
  refine ⟨?rateOk, ?worn, ?directory⟩
  case rateOk =>
    rw [State.bit_setBit_ne _ _ _ _ (by decide), State.bit_setBit_ne _ _ _ _ (by decide), (kept_wearSeen _ _).bit _ (by decide), rateSeen_ok]
  case worn => rw [State.bit_setBit_ne _ _ _ _ (by decide), State.bit_setBit_ne _ _ _ _ (by decide), wearSeen_warn]
  case directory => rw [State.bit_setBit_ne _ _ _ _ (by decide), State.bit_setBit_same _ _ _ rfl]

section
variable {s : State} {rate wear : Nat} {dirOk : Bool}

theorem exec_vaultPatrol : exec (.vaultPatrol rate wear dirOk) s =
    if s.bit Fld.VLT_STATUS.DUMPING = true ∨ s.bit Fld.VLT_STATUS.REPLAYING = true then .next s else .next (s.patrol rate wear dirOk) := rfl

theorem exec_vaultPatrolNow (h : s.Takes Fld.VLT_CMD.CMD.addr) : exec (.vaultPatrolNow rate wear dirOk) s =
    if s.bit Fld.VLT_STATUS.DUMPING = true ∨ s.bit Fld.VLT_STATUS.REPLAYING = true then .next s
    else .next ((s.patrol rate wear dirOk).setFld Fld.VLT_CMD.CMD 0) := by
  simp only [exec, execVaultPatrolNow, command_takes _ _ _ h]

end

/-- Settles O53: what the gauge computes, a pack's going and coming, and the patrol's findings, each read off its last writes. -/
theorem gaugeAndPackChangesTakeEffect : Obligations.GaugeAndPackChangesTakeEffect := by
  refine ⟨?energy, ?removed, ?present, ?patrol, ?patrolNow, ?removedIdle, ?presentIdle, ?presentDeferred, ?patrolIdle, ?patrolNowIdle⟩
  case energy =>
    rintro s u a b rfl
    exact gaugeEnergyCompute_shows s a b
  case removed => exact fun s p h => packRemoved_takes h
  case present =>
    intro s p hp hc hac
    obtain ⟨hpres, hen, hq, hd⟩ := packPresent_shows s p
    refine ⟨_, exec_packPresent hp hc, hpres, hen, hq, hd, ?_, packPresent_coulomb s p⟩
    rw [computeEnergy_nrg]
    exact requestTest_queue ((packArrived_acFail s p).trans hac) p
  case presentDeferred =>
    intro s p hp hc hac
    obtain ⟨hpres, -, hq, hd⟩ := packPresent_shows s p
    obtain ⟨hdef, hsame⟩ := requestTest_deferred ((packArrived_acFail s p).trans hac) p
    refine ⟨_, exec_packPresent hp hc, hpres, hq, hd, ?_⟩
    rw [computeEnergy_nrg]
    exact ⟨hdef, hsame⟩
  case patrol =>
    intro s rate wear dirOk hd hr
    exact ⟨_, exec_vaultPatrol.trans (if_neg (by simp [hd, hr])), patrol_shows s rate wear dirOk⟩
  case patrolNow =>
    intro s rate wear dirOk ht hd hr
    obtain ⟨hrate, hwear, -⟩ := patrol_shows s rate wear dirOk
    refine ⟨_, (exec_vaultPatrolNow ht).trans (if_neg (by simp [hd, hr])), ?_⟩
    beta_reduce
    rw [State.bit_setFld_ne _ _ _ _ (by decide), State.bit_setFld_ne _ _ _ _ (by decide)]
    exact ⟨hrate, hwear⟩
  case removedIdle => exact fun s p h => ⟨s, exec_packRemoved_absent h, rfl⟩
  case presentIdle => exact fun s p h => ⟨s, exec_packPresent_not_due h, rfl⟩
  case patrolIdle => exact fun s rate wear dirOk h => ⟨s, exec_vaultPatrol.trans (if_pos h), rfl⟩
  case patrolNowIdle => exact fun s rate wear dirOk ht h => ⟨s, (exec_vaultPatrolNow ht).trans (if_pos h), rfl⟩

/-! ### Learning cycles (R360 to R362) -/

theorem pack_beginLearn (s : State) (p : PackId) : (s.beginLearn p).pack p =
    { s.pack p with learn := some ⟨(s.pack p).socPpm, 0, false⟩, loadStep := (s.pack p).test.isNone || (s.pack p).loadStep } := by
  unfold State.beginLearn
  rw [pack_showNrg, pack_putPack_same]

theorem showNrg_learnActive {s : State} {p : PackId} (h : (s.pack p).learn.isSome = true) : s.showNrg.bit Fld.NRG_STATUS.LEARN_ACTIVE = true := by
  have hset : ∀ u : State, (u.setBit Fld.NRG_STATUS.LEARN_ACTIVE
      ((s.pack .A).learn.isSome || (s.pack .B).learn.isSome)).bit Fld.NRG_STATUS.LEARN_ACTIVE = true := fun u => by
    rw [State.bit_setBit_same _ _ _ rfl]
    cases p <;> simp [h]
  unfold State.showNrg
  rw [Kept.bit (kept_State_showPack _ _) _ (by decide), Kept.bit (kept_State_showPack _ _) _ (by decide)]
  exact hset _

section
variable {s : State} {p : PackId} {c : LearnRun}

theorem exec_learnStart : exec (.learnStart p) s =
    if s.gaugeCfg.learnPeriodDays ≠ 0 ∧ ¬ s.acFail = true ∧ s.learnReady p = true then
      .next ((s.putPack p { s.pack p with learnTries := 0 }).beginLearn p)
    else .next s := rfl

theorem exec_learnRetry : exec (.learnRetry p) s =
    if (s.pack p).learnTries < 3 ∧ ¬ s.acFail = true ∧ s.learnReady p = true then
      .next ((s.putPack p { s.pack p with learnTries := (s.pack p).learnTries + 1 }).beginLearn p)
    else .next s := rfl

theorem exec_learnDisqualify {why : Fin 8} : exec (.learnDisqualify p why) s =
    if (s.pack p).learn.isSome = true ∧ 2 ≤ why.val then .next (s.endLearn p why.val) else .next s := rfl

theorem exec_learnDischargeEnd_none (h : (s.pack p).learn = none) : exec (.learnDischargeEnd p) s = .next s := by
  simp only [exec, execLearnDischargeEnd, h]

theorem exec_learnDischargeEnd (h : (s.pack p).learn = some c) : exec (.learnDischargeEnd p) s =
    if c.resting = true then .next s
    else .next (s.putPack p { s.pack p with learn := some { c with resting := true }, loadStep := (s.pack p).test.isSome && (s.pack p).loadStep }) := by
  simp only [exec, execLearnDischargeEnd, h]

/-- The charge of a pack read from its rested voltage. -/
def State.restedSoc (s : State) (p : PackId) : Nat :=
  socOfOcv (s.packCfg p) (s.fld (Fld.NRG_VOLT_MV.MV.at (packIx p)) / (s.packCfg p).cells)

/-- The learned values after a cycle that took a charge out. -/
def State.learnedBy (s : State) (p : PackId) (c : LearnRun) : Learned :=
  let l := (s.pack p).learned
  let cap := capAfter l (s.packCfg p).nominalMah (c.mC.toNat * 1000000 / ((c.socStart - s.restedSoc p) * 3600))
  { l with capMah := cap, learnedOnce := true, learnedAt := s.pitch.getD 0,
           cyclesX16 := l.cyclesX16 + 16 * c.mC.toNat / (max 1 cap * 3600) }

/-- The state after a cycle that counted. -/
def State.learnedFrom (s : State) (p : PackId) (c : LearnRun) : State :=
  (s.putPack p { s.pack p with learned := s.learnedBy p c, writeDue := true, learnTries := 0 }).endLearn p 1

theorem exec_learnRestEnd_none (h : (s.pack p).learn = none) : exec (.learnRestEnd p) s = .next s := by
  simp only [exec, execLearnRestEnd, h]

theorem exec_learnRestEnd_discharging (h : (s.pack p).learn = some c) (hr : c.resting = false) : exec (.learnRestEnd p) s = .next s := by
  simp only [exec, execLearnRestEnd, h, hr]
  rfl

theorem exec_learnRestEnd_short (h : (s.pack p).learn = some c) (hr : c.resting = true) (hd : c.socStart < s.restedSoc p + 300000) :
    exec (.learnRestEnd p) s = .next (s.endLearn p 6) := by
  simp only [exec, execLearnRestEnd, h, hr]
  exact if_pos hd

theorem exec_learnRestEnd (h : (s.pack p).learn = some c) (hr : c.resting = true) (hd : s.restedSoc p + 300000 ≤ c.socStart) :
    exec (.learnRestEnd p) s =
      if (s.learnedFrom p c).packHealth p < (s.learnedFrom p c).gaugeCfg.replacePct ∧ (s.learnedFrom p c).gaugeCfg.replacePct ≤ s.packHealth p then
        .next ((s.learnedFrom p c).computeEnergy.emit .packHealth [packIx p])
      else .next (s.learnedFrom p c).computeEnergy := by
  unfold State.learnedFrom State.learnedBy
  unfold State.restedSoc at hd ⊢
  simp only [exec, execLearnRestEnd, h, hr, if_neg (Nat.not_lt.mpr hd), Bool.not_true, Bool.false_eq_true, if_false]

theorem learnedFrom_shows (s : State) (p : PackId) (c : LearnRun) : ((s.learnedFrom p c).pack p).learn = none ∧
    (s.learnedFrom p c).fld (Fld.PACK_STATUS.LEARN_RESULT.at (packIx p)) = 1 ∧ ((s.learnedFrom p c).pack p).writeDue = true ∧
    ((s.learnedFrom p c).pack p).learned = s.learnedBy p c := by
  have hresult := endLearn_result (s.putPack p { s.pack p with learned := s.learnedBy p c, writeDue := true, learnTries := 0 }) p (r := 1) (by decide)
  unfold State.learnedFrom
  rw [pack_endLearn, pack_putPack_same]
  exact ⟨rfl, hresult, rfl, rfl⟩

theorem learnRestEnd_learns (h : (s.pack p).learn = some c) (hr : c.resting = true) (hd : s.restedSoc p + 300000 ≤ c.socStart) :
    Does (.learnRestEnd p) s fun t => (t.pack p).learn = none ∧ t.fld (Fld.PACK_STATUS.LEARN_RESULT.at (packIx p)) = 1 ∧
      (t.pack p).writeDue = true ∧ (t.pack p).learned.capMah =
        capAfter (s.pack p).learned (s.packCfg p).nominalMah (c.mC.toNat * 1000000 / ((c.socStart - s.restedSoc p) * 3600)) := by
  obtain ⟨hlearn, hresult, hdue, hlearned⟩ := learnedFrom_shows s p c
  have hcap := congrArg Learned.capMah hlearned
  have hshown : (s.learnedFrom p c).computeEnergy.fld (Fld.PACK_STATUS.LEARN_RESULT.at (packIx p)) = 1 :=
    (Kept.packFld (kept_State_computeEnergy _) p (by decide)).trans hresult
  have hx := exec_learnRestEnd h hr hd
  by_cases hlow : (s.learnedFrom p c).packHealth p < (s.learnedFrom p c).gaugeCfg.replacePct ∧
      (s.learnedFrom p c).gaugeCfg.replacePct ≤ s.packHealth p
  · refine ⟨_, hx.trans (if_pos hlow), ?_⟩
    beta_reduce
    rw [State.fld_emit, pack_emit, pack_computeEnergy]
    exact ⟨hlearn, hshown, hdue, hcap⟩
  · refine ⟨_, hx.trans (if_neg hlow), ?_⟩
    beta_reduce
    rw [pack_computeEnergy]
    exact ⟨hlearn, hshown, hdue, hcap⟩

end

/-! ### Learned values in a calibration block (R364) -/

theorem writeLearned_written (s : State) (p : PackId) : ((s.writeLearned p).pack p).writeDue = false ∧
    ∃ k b, (k = packBlock p ∨ k = packBlock p + 1) ∧ tget (s.writeLearned p).cal.user k = some b ∧ b.content = learnedContent (s.pack p).learned := by
  have hpack : ∀ u : State, (u.showCal).pack p = u.pack p := fun u => Only.pack (only_State_showCal u) rfl p
  have hcal : ∀ u : State, u.showCal.cal = u.cal := fun u => Only.cal (only_State_showCal u) rfl
  unfold State.writeLearned
  simp only
  rw [hpack, hcal, pack_putPack_same]
  refine ⟨rfl, _, _, ?_, tget_tput_same .., rfl⟩
  split
  next => exact .inl rfl
  next => exact .inr rfl

/-! ### The gauge commands (R365, R372) -/

theorem nrgDone_shows (s : State) {e : Nat} (h : e < 16) : (s.nrgDone e).fld Fld.NRG_CMD_STATUS.ERROR = e ∧
    (s.nrgDone e).bit Fld.NRG_CMD_STATUS.DONE = true ∧ (s.nrgDone e).nrg = s.nrg :=
  ⟨(State.fld_setBit_ne _ _ _ _ (by decide)).trans ((State.fld_setFld_same ..).trans (Nat.mod_eq_of_lt h)), State.bit_setBit_same _ _ _ rfl, rfl⟩

theorem pack_nrgDone (s : State) (e : Nat) (p : PackId) : (s.nrgDone e).pack p = s.pack p := rfl

/-- The state whose gauge command waits for the test of a pack. -/
def State.awaitsTest (s : State) (p : PackId) : State :=
  let s := s.setFld Fld.NRG_CMD_STATUS.ERROR 0
  { s with nrg := { s.nrg with cmd := some p } }

theorem acFail_errorCleared (s : State) : (s.setFld Fld.NRG_CMD_STATUS.ERROR 0).acFail = s.acFail := State.bit_setFld_ne _ _ _ _ (by decide)

theorem cmdTest_waits {s : State} (h : s.acFail = false) (p : PackId) :
    s.cmdTest p = ((s.awaitsTest p).requestTest p).setBit Fld.NRG_CMD_STATUS.BUSY true := by
  unfold State.cmdTest
  exact if_neg (by rw [acFail_errorCleared, h]; decide)

theorem cmdTest_defers {s : State} (h : s.acFail = true) (p : PackId) :
    s.cmdTest p = ((s.setFld Fld.NRG_CMD_STATUS.ERROR 0).requestTest p).nrgDone 0 := by
  unfold State.cmdTest
  exact if_pos (by rw [acFail_errorCleared, h])

theorem requestTest_cmd (s : State) (p : PackId) : (s.requestTest p).nrg.cmd = s.nrg.cmd := by
  unfold State.requestTest
  split <;> rfl

/-- A test asked for with the mains there: the command is busy until the test ends. -/
theorem cmdTest_shows_waiting {s : State} (h : s.acFail = false) (p : PackId) : (s.cmdTest p).bit Fld.NRG_CMD_STATUS.BUSY = true ∧
    (s.cmdTest p).fld Fld.NRG_CMD_STATUS.ERROR = 0 ∧ (s.cmdTest p).nrg.cmd = some p ∧ p ∈ (s.cmdTest p).nrg.queue := by
  have hac : (s.awaitsTest p).acFail = false := (acFail_errorCleared s).trans h
  have herr : (s.awaitsTest p).fld Fld.NRG_CMD_STATUS.ERROR = 0 := State.fld_setFld_same ..
  have hcmd : (s.awaitsTest p).nrg.cmd = some p := rfl
  rw [cmdTest_waits h]
  generalize s.awaitsTest p = u at hac herr hcmd ⊢
  refine ⟨State.bit_setBit_same _ _ _ rfl, ?_, (requestTest_cmd u p).trans hcmd, requestTest_queue hac p⟩
  rw [State.fld_setBit_ne _ _ _ _ (by decide), Kept.fld (kept_State_requestTest u p) _ (by decide), herr]

/-- A test asked for while the mains has failed: deferred, and the command ends at once. -/
theorem cmdTest_shows_deferred {s : State} (h : s.acFail = true) (hb : s.bit Fld.NRG_CMD_STATUS.BUSY = false) (p : PackId) :
    (s.cmdTest p).fld Fld.NRG_CMD_STATUS.ERROR = 0 ∧ (s.cmdTest p).bit Fld.NRG_CMD_STATUS.DONE = true ∧
    (s.cmdTest p).bit Fld.NRG_CMD_STATUS.BUSY = false ∧ p ∈ (s.cmdTest p).nrg.deferred := by
  have hac := (acFail_errorCleared s).trans h
  have hbusy : (s.setFld Fld.NRG_CMD_STATUS.ERROR 0).bit Fld.NRG_CMD_STATUS.BUSY = false := (State.bit_setFld_ne _ _ _ _ (by decide)).trans hb
  rw [cmdTest_defers h]
  generalize s.setFld Fld.NRG_CMD_STATUS.ERROR 0 = u at hac hbusy ⊢
  obtain ⟨herr, hdone, hnrg⟩ := nrgDone_shows (u.requestTest p) (e := 0) (by decide)
  refine ⟨herr, hdone, ?_, ?_⟩
  · rw [Kept.bit (kept_State_nrgDone _ 0) _ (by decide), Kept.bit (kept_State_requestTest u p) _ (by decide), hbusy]
  · rw [hnrg]
    exact (requestTest_deferred hac p).1

theorem pack_cmdTest (s : State) (p q : PackId) : (s.cmdTest p).pack q = s.pack q := by
  unfold State.cmdTest
  simp only
  split
  next => rw [pack_nrgDone, pack_requestTest, pack_setFld]
  next =>
    rw [pack_setBit, pack_requestTest]
    rfl

/-- Of a shown pack only its first two writes touch the FAILED bits. -/
theorem showPack_failed_bits (s : State) (p q : PackId) : (s.showPack q).bit (Fld.PACK_STATUS.FAILED.at (packIx p)) =
    ((s.setBit (Fld.PACK_STATUS.QUALIFIED.at (packIx q)) (s.pack q).learned.qualified).setBit (Fld.PACK_STATUS.FAILED.at (packIx q))
      (s.pack q).learned.failed).bit (Fld.PACK_STATUS.FAILED.at (packIx p)) := by
  have hkeeps : ∀ u t, Kept [Fld.PACK_STATUS.TESTING, Fld.PACK_STATUS.LEARNING, Fld.PACK_STATUS.CHARGE_PERMIT, Fld.PACK_STATUS.REPLACE,
      Fld.PACK_STATUS.HEALTH, Fld.PACK_STATUS.PACK_SERIAL, Fld.NRG_CAP_MAH, Fld.NRG_CYCLES.X16, Fld.NRG_IMPEDANCE.R_SLOW,
      Fld.NRG_IMPEDANCE.R_FAST, Fld.NRG_LAST_TEST, Fld.NRG_LAST_LEARN] u t →
      t.bit (Fld.PACK_STATUS.FAILED.at (packIx p)) = u.bit (Fld.PACK_STATUS.FAILED.at (packIx p)) := fun u t k => k.packBit p (by decide)
  unfold State.showPack
  refine hkeeps _ _ ?_
  refine Kept.setFldAt rfl (Kept.setFldAt rfl (Kept.setFldAt rfl (Kept.setFldAt rfl (Kept.setFldAt rfl (Kept.setFldAt rfl (Kept.setFldAt rfl
    (Kept.setFldAt rfl (Kept.setBitAt rfl (Kept.ite (Kept.step (kept_State_smartWarn _ _) rfl ?_) ?_))))))))) <;>
  exact Kept.setBitAt rfl (Kept.setBitAt rfl (Kept.setBitAt rfl Kept.refl))

theorem showPack_failed (s : State) (p : PackId) : (s.showPack p).bit (Fld.PACK_STATUS.FAILED.at (packIx p)) = (s.pack p).learned.failed := by
  rw [showPack_failed_bits]
  exact State.bit_setBit_same _ _ _ rfl

theorem showPack_failed_other (s : State) (p : PackId) :
    (s.showPack (otherPack p)).bit (Fld.PACK_STATUS.FAILED.at (packIx p)) = s.bit (Fld.PACK_STATUS.FAILED.at (packIx p)) := by
  rw [showPack_failed_bits, State.bit_setBit_ne _ _ _ _ (fun e => packIx_ne p (key_at_injective (by decide) (packIx_lt _) (packIx_lt _) e))]
  exact Kept.packBit (l := [Fld.PACK_STATUS.QUALIFIED]) (Kept.setBitAt rfl Kept.refl) p (by decide)

theorem showNrg_failed (s : State) (p : PackId) : s.showNrg.bit (Fld.PACK_STATUS.FAILED.at (packIx p)) = (s.pack p).learned.failed := by
  unfold State.showNrg
  cases p with
  | A =>
    exact (showPack_failed_other _ .A).trans (showPack_failed _ .A)
  | B =>
    refine (showPack_failed _ .B).trans ?_
    rw [Only.pack (only_State_showPack _ _) rfl .B]
    rfl

theorem computeEnergy_failed (s : State) (p : PackId) : s.computeEnergy.bit (Fld.PACK_STATUS.FAILED.at (packIx p)) = (s.pack p).learned.failed := by
  have hk : Kept [Fld.NRG_PACK_E_J.J, Fld.NRG_E_J.E_J, Fld.NRG_RESERVE_J.J, Fld.NRG_AVAIL_J.J] s.showNrg
      (s.showNrg.energyShown (s.showNrg.packEnergyNow .A) (s.showNrg.packEnergyNow .B)) :=
    Kept.step (kept_availableShown _) rfl (Kept.step (kept_reserveShown _) rfl (Kept.setFld rfl (Kept.step (kept_packsShown _ _ _) rfl Kept.refl)))
  rw [computeEnergy_eq, Kept.packBit (kept_State_noteUnprot _) p (by decide), hk.packBit p (by decide), showNrg_failed]

section
variable {s : State} {p : PackId} (ht : s.Takes Fld.NRG_CMD.CMD.addr)
include ht

theorem exec_nrgTest (hb : s.bit Fld.NRG_CMD_STATUS.BUSY = false) : exec (.nrgTest p) s =
    if s.packPresent p = true then .next (s.cmdTest p) else .next (s.nrgDone 1) := by
  simp only [exec, execNrgTest, command_takes _ _ _ ht, hb]
  cases s.packPresent p <;> rfl

theorem exec_nrgLearn (hb : s.bit Fld.NRG_CMD_STATUS.BUSY = false) : exec (.nrgLearn p) s =
    if s.packPresent p = false then .next (s.nrgDone 1) else if s.acFail = true then .next (s.nrgDone 2)
    else if s.learnReady p = false then .next (s.nrgDone 3) else .next ((s.beginLearn p).nrgDone 0) := by
  simp only [exec, execNrgLearn, command_takes _ _ _ ht, hb]
  cases s.packPresent p <;> cases s.learnReady p <;> rfl

theorem exec_learnAbort (hb : s.bit Fld.NRG_CMD_STATUS.BUSY = false) : exec (.learnAbort p) s =
    if (s.pack p).learn.isNone = true then .next (s.nrgDone 1) else .next ((s.endLearn p 7).nrgDone 0) := by
  simp only [exec, execLearnAbort, command_takes _ _ _ ht, hb]
  rfl

/-- The state whose pack has its failures forgiven. -/
def State.forgiven (s : State) (p : PackId) : State :=
  (s.putPack p ({ s.pack p with fails := 0 }.qualify (s.pack p).learned.qualified false)).computeEnergy

omit ht in
theorem forgiven_shows (s : State) (p : PackId) : ((s.forgiven p).pack p).learned.failed = false ∧ ((s.forgiven p).pack p).fails = 0 ∧
    (s.forgiven p).bit (Fld.PACK_STATUS.FAILED.at (packIx p)) = false ∧ (s.forgiven p).acFail = s.acFail ∧
    (s.forgiven p).bit Fld.NRG_CMD_STATUS.BUSY = s.bit Fld.NRG_CMD_STATUS.BUSY := by
  unfold State.forgiven
  rw [pack_computeEnergy, computeEnergy_failed, pack_putPack_same]
  exact ⟨rfl, rfl, rfl, Kept.bit (kept_State_computeEnergy _) _ (by decide), Kept.bit (kept_State_computeEnergy _) _ (by decide)⟩

theorem exec_nrgRetest (hb : s.bit Fld.NRG_CMD_STATUS.BUSY = false) (hp : s.packPresent p = true) :
    exec (.nrgRetest p) s = .next ((s.forgiven p).cmdTest p) := by
  unfold State.forgiven
  simp only [exec, execNrgRetest, command_takes _ _ _ ht, hb, hp, Bool.not_true, Bool.false_eq_true, if_false]

theorem exec_nrgRetest_absent (hb : s.bit Fld.NRG_CMD_STATUS.BUSY = false) (hp : s.packPresent p = false) :
    exec (.nrgRetest p) s = .next (s.nrgDone 1) := by
  simp only [exec, execNrgRetest, command_takes _ _ _ ht, hb, hp, Bool.not_false, Bool.false_eq_true, if_false, if_true]

theorem exec_nrgSamePack_none (hb : s.bit Fld.NRG_CMD_STATUS.BUSY = false) (hd : (s.pack p).displaced = none) :
    exec (.nrgSamePack p) s = .next (s.nrgDone 1) := by
  simp only [exec, execNrgSamePack, command_takes _ _ _ ht, hb, hd]
  rfl

/-- The state whose pack has its displaced values back. -/
def State.samePack (s : State) (p : PackId) (d : Learned) : State :=
  (s.putPack p { s.pack p with learned := { d with qualified := (s.pack p).learned.qualified, failed := (s.pack p).learned.failed },
                               displaced := none, writeDue := true, firstTest := true }).computeEnergy

theorem exec_nrgSamePack_late (hb : s.bit Fld.NRG_CMD_STATUS.BUSY = false) {d : Learned} (hd : (s.pack p).displaced = some d)
    (h : s.packPresent p = false ∨ (s.pack p).presentAt + 60 * sec < s.now) : exec (.nrgSamePack p) s = .next (s.nrgDone 1) := by
  have hc : (!s.packPresent p || decide ((s.pack p).presentAt + 60 * sec < s.now)) = true := by
    rcases h with h | h
    · rw [h, Bool.not_false, Bool.true_or]
    · rw [decide_eq_true h, Bool.or_true]
  simp only [exec, execNrgSamePack, command_takes _ _ _ ht, hb, hd, hc, if_true, Bool.false_eq_true, if_false]

variable (hp : s.packPresent p = true) (hnow : s.now ≤ (s.pack p).presentAt + 60 * sec)
include hp hnow

theorem exec_nrgSamePack_bad (hb : s.bit Fld.NRG_CMD_STATUS.BUSY = false) {d : Learned} (hd : (s.pack p).displaced = some d)
    (h : (s.pack p).sameBad = true) : exec (.nrgSamePack p) s = .next (s.nrgDone 4) := by
  have hc : (!s.packPresent p || decide ((s.pack p).presentAt + 60 * sec < s.now)) = false := by
    rw [hp, decide_eq_false (Nat.not_lt.mpr hnow), Bool.not_true, Bool.or_false]
  simp only [exec, execNrgSamePack, command_takes _ _ _ ht, hb, hd, hc, h, if_true, Bool.false_eq_true, if_false]

theorem exec_nrgSamePack (hb : s.bit Fld.NRG_CMD_STATUS.BUSY = false) {d : Learned} (hd : (s.pack p).displaced = some d)
    (h : (s.pack p).sameBad = false) : exec (.nrgSamePack p) s = .next ((s.samePack p d).nrgDone 0) := by
  have hc : (!s.packPresent p || decide ((s.pack p).presentAt + 60 * sec < s.now)) = false := by
    rw [hp, decide_eq_false (Nat.not_lt.mpr hnow), Bool.not_true, Bool.or_false]
  unfold State.samePack
  simp only [exec, execNrgSamePack, command_takes _ _ _ ht, hb, hd, hc, h, Bool.false_eq_true, if_false]

omit hp hnow

theorem exec_gauge_busy (hb : s.bit Fld.NRG_CMD_STATUS.BUSY = true) : exec (.nrgTest p) s = .next s ∧ exec (.nrgLearn p) s = .next s ∧
    exec (.learnAbort p) s = .next s ∧ exec (.nrgRetest p) s = .next s ∧ exec (.nrgSamePack p) s = .next s := by
  simp only [exec, execNrgTest, execNrgLearn, execLearnAbort, execNrgRetest, execNrgSamePack, command_takes _ _ _ ht, hb]
  exact ⟨rfl, rfl, rfl, rfl, rfl⟩

end

theorem learnReady_present {s : State} {p : PackId} (h : s.learnReady p = true) : s.packPresent p = true := by
  simp only [State.learnReady, Bool.and_eq_true] at h
  exact h.1.1.1.1.1.1

theorem exec_gaugeBlockWrite {s : State} {p : PackId} : exec (.gaugeBlockWrite p) s =
    if (s.packCfg p).chemistry = 0 then .next s else .next (s.writeLearned p) := rfl

/-- Settles O55: a cycle's start, rest, end and retry, the block that is written, and each gauge command with its refusals. -/
theorem learningCyclesAndGaugeCommandsTakeEffect : Obligations.LearningCyclesAndGaugeCommandsTakeEffect := by
  refine ⟨?start, ?rests, ?learns, ?short, ?disqualified, ?retry, ?block, ?test, ?testAbsent, ?learn, ?learnMains, ?abort, ?retest, ?same,
    ?startIdle, ?restsIdle, ?learnsIdle, ?disqualifiedIdle, ?retryIdle, ?blockIdle, ?testBusy, ?learnBusy, ?abortBusy, ?retestBusy, ?sameBusy,
    ?learnAbsent, ?retestAbsent, ?testDeferred, ?learnNotReady, ?abortNone, ?retestDeferred, ?sameLate, ?sameBad⟩
  case start =>
    intro s p hd hac hr
    refine ⟨_, exec_learnStart.trans (if_pos ⟨hd, by simp [hac], hr⟩), ?_⟩
    have hpack := pack_beginLearn (s.putPack p { s.pack p with learnTries := 0 }) p
    rw [pack_putPack_same] at hpack
    refine ⟨congrArg Pack.learn hpack, congrArg Pack.learnTries hpack, showNrg_learnActive (p := p) ?_⟩
    rw [pack_putPack_same]
    rfl
  case retry =>
    intro s p hn hac hr
    refine ⟨_, exec_learnRetry.trans (if_pos ⟨hn, by simp [hac], hr⟩), ?_⟩
    have hpack := pack_beginLearn (s.putPack p { s.pack p with learnTries := (s.pack p).learnTries + 1 }) p
    rw [pack_putPack_same] at hpack
    beta_reduce
    rw [hpack]
    exact ⟨rfl, rfl⟩
  case rests =>
    intro s p c h hr
    refine ⟨_, (exec_learnDischargeEnd h).trans (if_neg (by simp [hr])), ?_⟩
    beta_reduce
    rw [pack_putPack_same]
    exact ⟨rfl, rfl⟩
  case learns =>
    rintro s p c soc h hr rfl hd
    exact learnRestEnd_learns h hr hd
  case short =>
    intro s p c h hr hd
    refine ⟨_, exec_learnRestEnd_short h hr hd, ?_, endLearn_result s p (by decide), ?_⟩ <;> rw [pack_endLearn]
  case disqualified =>
    intro s p why h hw
    refine ⟨_, exec_learnDisqualify.trans (if_pos ⟨h, hw⟩), ?_, endLearn_result s p (Nat.lt_trans why.isLt (by decide))⟩
    rw [pack_endLearn]
  case block => exact fun s p h => ⟨_, exec_gaugeBlockWrite.trans (if_neg h), writeLearned_written s p⟩
  case test => exact fun s p ht hb hp hac => ⟨_, (exec_nrgTest ht hb).trans (if_pos hp), cmdTest_shows_waiting hac p⟩
  case testDeferred => exact fun s p ht hb hp hac => ⟨_, (exec_nrgTest ht hb).trans (if_pos hp), cmdTest_shows_deferred hac hb p⟩
  case testAbsent => exact fun s p ht hb hp => ⟨_, (exec_nrgTest ht hb).trans (if_neg (by simp [hp])), nrgDone_shows s (by decide)⟩
  case learn =>
    intro s p ht hb hr hac
    refine ⟨_, (exec_nrgLearn ht hb).trans ?_, (nrgDone_shows (s.beginLearn p) (by decide)).1, ?_⟩
    · rw [if_neg (by simp [learnReady_present hr]), if_neg (by simp [hac]), if_neg (by simp [hr])]
    · rw [pack_nrgDone, pack_beginLearn]
  case learnAbsent => exact fun s p ht hb hp => ⟨_, (exec_nrgLearn ht hb).trans (if_pos hp), nrgDone_shows s (by decide)⟩
  case learnMains =>
    intro s p ht hb hp hac
    obtain ⟨herr, -, hnrg⟩ := nrgDone_shows s (e := 2) (by decide)
    exact ⟨_, (exec_nrgLearn ht hb).trans ((if_neg (by simp [hp])).trans (if_pos hac)), herr, hnrg⟩
  case learnNotReady =>
    intro s p ht hb hp hac hr
    obtain ⟨herr, -, hnrg⟩ := nrgDone_shows s (e := 3) (by decide)
    exact ⟨_, (exec_nrgLearn ht hb).trans ((if_neg (by simp [hp])).trans ((if_neg (by simp [hac])).trans (if_pos hr))), herr, hnrg⟩
  case abort =>
    intro s p ht hb h
    refine ⟨_, (exec_learnAbort ht hb).trans (if_neg (by simpa [Option.isSome_iff_ne_none] using h)), ?_, ?_,
      (nrgDone_shows (s.endLearn p 7) (by decide)).1⟩
    · rw [pack_nrgDone, pack_endLearn]
    · exact (Kept.packFld (kept_State_nrgDone _ 0) p (by decide)).trans (endLearn_result s p (by decide))
  case abortNone =>
    intro s p ht hb h
    obtain ⟨herr, -, hnrg⟩ := nrgDone_shows s (e := 1) (by decide)
    exact ⟨_, (exec_learnAbort ht hb).trans (if_pos (by simp [h])), herr, hnrg⟩
  case retest =>
    intro s p ht hb hp hac
    obtain ⟨hfailed, hfails, hbit, hmains, -⟩ := forgiven_shows s p
    obtain ⟨hbusy, -, -, hq⟩ := cmdTest_shows_waiting (hmains.trans hac) p
    refine ⟨_, exec_nrgRetest ht hb hp, ?_, ?_, hq, ?_, hbusy⟩
    · rw [pack_cmdTest, hfailed]
    · rw [pack_cmdTest, hfails]
    · exact (Kept.packBit (kept_State_cmdTest _ p) p (by decide)).trans hbit
  case retestDeferred =>
    intro s p ht hb hp hac
    obtain ⟨hfailed, hfails, -, hmains, hsame⟩ := forgiven_shows s p
    obtain ⟨-, hdone, hbusy, hq⟩ := cmdTest_shows_deferred (hmains.trans hac) (hsame.trans hb) p
    refine ⟨_, exec_nrgRetest ht hb hp, ?_, ?_, hq, hdone, hbusy⟩
    · rw [pack_cmdTest, hfailed]
    · rw [pack_cmdTest, hfails]
  case retestAbsent => exact fun s p ht hb hp => ⟨_, exec_nrgRetest_absent ht hb hp, nrgDone_shows s (by decide)⟩
  case same =>
    intro s p d ht hb hd hp hnow hbad
    refine ⟨_, exec_nrgSamePack ht hp hnow hb hd hbad, (nrgDone_shows (s.samePack p d) (by decide)).1, ?_⟩
    rw [pack_nrgDone, State.samePack, pack_computeEnergy, pack_putPack_same]
    exact ⟨rfl, rfl⟩
  case sameLate =>
    intro s p ht hb h
    obtain ⟨herr, -, hnrg⟩ := nrgDone_shows s (e := 1) (by decide)
    refine ⟨_, ?_, herr, hnrg⟩
    cases hd : (s.pack p).displaced with
    | none => exact exec_nrgSamePack_none ht hb hd
    | some d => exact exec_nrgSamePack_late ht hb hd (h.resolve_left (by simp [hd]))
  case sameBad =>
    intro s p ht hb h hp hnow hbad
    obtain ⟨d, hd⟩ := Option.isSome_iff_exists.mp h
    obtain ⟨herr, -, hnrg⟩ := nrgDone_shows s (e := 4) (by decide)
    exact ⟨_, exec_nrgSamePack_bad ht hp hnow hb hd hbad, herr, hnrg⟩
  case startIdle =>
    intro s p h
    exact ⟨s, exec_learnStart.trans (if_neg (by rcases h with h | h | h <;> simp [h])), rfl⟩
  case retryIdle =>
    intro s p h
    refine ⟨s, exec_learnRetry.trans (if_neg ?_), rfl⟩
    rcases h with h | h | h
    · exact fun hn => absurd hn.1 (Nat.not_lt.mpr h)
    · simp [h]
    · simp [h]
  case restsIdle =>
    intro s p h
    cases hl : (s.pack p).learn with
    | none => exact ⟨s, exec_learnDischargeEnd_none hl, rfl⟩
    | some c => exact ⟨s, (exec_learnDischargeEnd hl).trans (if_pos (by simpa [hl] using h)), rfl⟩
  case learnsIdle =>
    intro s p h
    cases hl : (s.pack p).learn with
    | none => exact ⟨s, exec_learnRestEnd_none hl, rfl⟩
    | some c => exact ⟨s, exec_learnRestEnd_discharging hl (by simpa [hl] using h), rfl⟩
  case disqualifiedIdle =>
    intro s p why h
    refine ⟨s, exec_learnDisqualify.trans (if_neg ?_), rfl⟩
    rcases h with h | h
    · simp [h]
    · exact fun hw => absurd hw.2 (Nat.not_le.mpr h)
  case blockIdle => exact fun s p h => ⟨s, exec_gaugeBlockWrite.trans (if_pos h), rfl⟩
  case testBusy => exact fun s p ht hb => ⟨s, (exec_gauge_busy ht hb).1, rfl⟩
  case learnBusy => exact fun s p ht hb => ⟨s, (exec_gauge_busy ht hb).2.1, rfl⟩
  case abortBusy => exact fun s p ht hb => ⟨s, (exec_gauge_busy ht hb).2.2.1, rfl⟩
  case retestBusy => exact fun s p ht hb => ⟨s, (exec_gauge_busy ht hb).2.2.2.1, rfl⟩
  case sameBusy => exact fun s p ht hb => ⟨s, (exec_gauge_busy ht hb).2.2.2.2, rfl⟩

end Sys2Proof.Machine

/-!
The reset of the fast domains and what a dump ends in (R432, R450), and the thermal states and samples that lead to them (O56).
-/
namespace Sys2Proof.Machine

/-! ### The reset of the fast domains (R432, R462) -/

theorem tget_filter_true {α : Type} (p : Nat → Bool) (k : Nat) (hk : p k = true) :
    ∀ t : Tbl α, tget (t.filter fun r => p r.1) k = tget t k := by
  intro t
  induction t with
  | nil => rfl
  | cons r t ih =>
    obtain ⟨j, v⟩ := r
    by_cases hj : j = k
    · subst hj
      simp [List.filter, hk, tget]
    · cases hp : p j <;> simp [List.filter, hp, tget, hj] <;> simpa [tget] using ih

theorem fld_resetRegs (s : State) (served : Nat → Bool) {f : Field} (h : served (f.key / 4096) = false) : (s.resetRegs served).fld f = s.fld f := by
  unfold State.resetRegs State.fld
  dsimp only
  rw [tget_filter_true (fun key => !(served (key / 4096) && ((fieldOfKey key).map (fun f => f.life == .die)).getD false)) f.key (by simp [h])]

/-- Registers of the temperature, of fatal errors and of the mains, on the Pegbox die, that no reset of the fast domains and no dump changes. -/
abbrev standingFields : List Field :=
  [Fld.THERM_STATUS.STATE, Fld.THERM_CRIT_COUNT, Fld.THERM_THROTTLE_MS, Fld.ERR_STATUS.LAST_CAUSE, Fld.NRG_STATUS.AC_FAIL]

theorem sameFlds_resetRegs (s : State) {served : Nat → Bool} {fs : List Field} (h : fs.all (fun f => !served (f.key / 4096)) = true) :
    SameFlds fs s (s.resetRegs served) :=
  fun f hf => fld_resetRegs s served (by simpa using List.all_eq_true.mp h f hf)

/-- The fast domains' write path, front end, federation and registers reset; what R432 resets next rests on this state. -/
def State.fastLost (s : State) : State :=
  let u := s.wcReset.hfeReset
  ((u.dropBarriers.leaveFed.resetRegs (fun a => fastServed a || capoServed a)).portsReset u.regs).stageReset

theorem sameFlds_fastLost (s : State) : SameFlds standingFields s s.fastLost :=
  ((kept_State_wcReset s).sameFlds (by decide)).trans <| ((kept_State_hfeReset _).sameFlds (by decide)).trans <|
    ((kept_State_dropBarriers _).sameFlds (by decide)).trans <| ((kept_State_leaveFed _).sameFlds (by decide)).trans <|
      (sameFlds_resetRegs _ (by decide)).trans <| ((kept_State_portsReset _ _).sameFlds (by decide)).trans <|
        (kept_State_stageReset _).sameFlds (by decide)

/-- The registers that the fast domains' reset writes last. -/
def State.resetShown (u : State) : State :=
  let s := (u.setBit Fld.PWR_STATE.BOOTING false).setBit Fld.CIP_STATUS.OWNER_SET u.cip.kek.isSome
  let s := (s.setFld Fld.PWR_STATE.STATE 0).setFld Fld.PWR_STATE.TARGET 0
  let s := (s.setBit Fld.VLT_STATUS.DUMPING false).setBit Fld.VLT_STATUS.REPLAYING false
  (s.setBit Fld.HFE_STATUS.REPLAY_PENDING false).showContexts

theorem fastLost_pwr (s : State) : s.fastLost.pwr = s.pwr := by
  rw [State.fastLost, (only_State_stageReset _).pwr rfl, (only_State_portsReset _ _).pwr rfl, (only_State_resetRegs _ _).pwr rfl,
    (only_State_leaveFed _).pwr rfl, (only_State_dropBarriers _).pwr rfl, (only_State_hfeReset _).pwr rfl, (only_State_wcReset _).pwr rfl]

theorem fastLost_err (s : State) : s.fastLost.err = s.err := by
  rw [State.fastLost, only_State_stageReset _ .err rfl, only_State_portsReset _ _ .err rfl, only_State_resetRegs _ _ .err rfl,
    only_State_leaveFed _ .err rfl, only_State_dropBarriers _ .err rfl, only_State_hfeReset _ .err rfl, only_State_wcReset _ .err rfl]

theorem fastLost_acFail (s : State) : s.fastLost.acFail = s.acFail := (sameFlds_fastLost s).bit (by decide)

/-- The power state after a reset of the fast domains; the mains keeps its hold on fetch. -/
def Pwr.afterReset (p : Pwr) (acFail : Bool) : Pwr :=
  { p with fast := .inReset, plls := p.plls % 16, waits := [], psRun := none, reversing := false,
           holds := if acFail then [FetchHold.acFail] else [], sysPending := false, saved := false }

/-- The error stack after a reset of the fast domains: the Pegbox die's entries stay. -/
def Err.afterReset (e : Err) : Err := { e with stack := e.stack.filter (·.pegbox) }

/-- The reset of the fast domains is what R432 loses, the parts of the state that start anew, and the registers written last. -/
theorem fastReset_eq (s : State) : ∃ u : State, s.fastReset = u.resetShown ∧ u.regs = s.fastLost.regs ∧
    u.pwr = s.pwr.afterReset s.acFail ∧ u.err = s.err.afterReset := by
  rw [← fastLost_pwr, ← fastLost_err, ← fastLost_acFail]
  unfold State.fastReset
  extract_lets u regs v w t p holds e l r c d ci ca x
  have ht : s.fastLost = t := rfl
  rw [ht]
  clear_value t
  exact ⟨x, rfl, rfl, rfl, rfl⟩

theorem kept_resetShown (u : State) : Kept [Fld.PWR_STATE.BOOTING, Fld.CIP_STATUS.OWNER_SET, Fld.PWR_STATE.STATE, Fld.PWR_STATE.TARGET,
    Fld.VLT_STATUS.DUMPING, Fld.VLT_STATUS.REPLAYING, Fld.HFE_STATUS.REPLAY_PENDING, Fld.CIP_STATUS.CONTEXTS] u u.resetShown :=
  Kept.step (kept_State_showContexts _) rfl (Kept.setBit rfl (Kept.setBit rfl (Kept.setBit rfl (Kept.setFld rfl (Kept.setFld rfl (Kept.setBit rfl
    (Kept.setBit rfl Kept.refl)))))))

theorem resetShown_state (u : State) : u.resetShown.fld Fld.PWR_STATE.STATE = 0 := by
  unfold State.resetShown
  rw [(kept_State_showContexts _).fld _ (by decide), State.fld_setBit_ne _ _ _ _ (by decide), State.fld_setBit_ne _ _ _ _ (by decide),
    State.fld_setBit_ne _ _ _ _ (by decide), State.fld_setFld_ne _ _ _ _ (by decide), State.fld_setFld_same]
  rfl

theorem resetShown_pwr (u : State) : u.resetShown.pwr = u.pwr := rfl

theorem resetShown_err (u : State) : u.resetShown.err = u.err := rfl

theorem sameFlds_of_regs {fs : List Field} {a t : State} (e : t.regs = a.regs) : SameFlds fs a t := fun f _ => State.fld_of_regs a t f e

theorem sameFlds_setBit {fs : List Field} (s : State) (g : Field) (b : Bool) (h : fs.all (fun f => g.apart f) = true) : SameFlds fs s (s.setBit g b) :=
  Kept.sameFlds (l := [g]) (Kept.setBit (by simp) Kept.refl) (by simpa using h)

theorem sameFlds_fastReset (s : State) : SameFlds standingFields s s.fastReset := by
  obtain ⟨u, hu, hregs, -, -⟩ := fastReset_eq s
  rw [hu]
  exact (sameFlds_fastLost s).trans ((sameFlds_of_regs hregs).trans ((kept_resetShown u).sameFlds (by decide)))

theorem fastReset_pwr (s : State) : s.fastReset.pwr = s.pwr.afterReset s.acFail := by
  obtain ⟨u, hu, -, hpwr, -⟩ := fastReset_eq s
  rw [hu, resetShown_pwr, hpwr]

theorem fastReset_fast (s : State) : s.fastReset.pwr.fast = .inReset := by
  rw [fastReset_pwr]
  rfl

theorem fastReset_state (s : State) : s.fastReset.fld Fld.PWR_STATE.STATE = 0 := by
  obtain ⟨u, hu, -, -, -⟩ := fastReset_eq s
  rw [hu, resetShown_state]

theorem fastReset_err (s : State) : s.fastReset.err = s.err.afterReset := by
  obtain ⟨u, hu, -, -, herr⟩ := fastReset_eq s
  rw [hu, resetShown_err, herr]

theorem fastReset_therm (s : State) : s.fastReset.therm = s.therm := only_State_fastReset s .therm rfl

/-- What SYS_RST_N's reset leaves of the power state. -/
theorem sysReset_shows (s : State) : s.sysReset.pwr = s.fastReset.pwr ∧ s.sysReset.bit Fld.PWR_RESET_INFO.SYS_PIN = true ∧
    s.sysReset.fld Fld.PWR_STATE.STATE = 0 := by
  have hstate := fastReset_state s
  unfold State.sysReset
  generalize s.fastReset = u at hstate ⊢
  exact ⟨rfl, State.bit_setBit_same _ _ _ rfl, (State.fld_setBit_ne _ _ _ _ (by decide)).trans hstate⟩

/-! ### What a dump ends in (R165, R378, R434, R450) -/

/-- The state whose fast domains a fault has reset. -/
def State.faultReset (s : State) : State :=
  let s := s.fastReset.setBit Fld.PWR_RESET_INFO.FATAL true
  { s with pwr := { s.pwr with redLed := true } }

theorem sameFlds_faultReset (s : State) : SameFlds standingFields s s.faultReset := by
  have h := sameFlds_fastReset s
  unfold State.faultReset
  generalize s.fastReset = u at h ⊢
  exact h.trans ((sameFlds_setBit _ Fld.PWR_RESET_INFO.FATAL true (by decide)).trans (sameFlds_of_regs rfl))

theorem faultReset_shows (s : State) : s.faultReset.pwr.fast = .inReset ∧ s.faultReset.bit Fld.PWR_RESET_INFO.FATAL = true ∧
    s.faultReset.therm = s.therm ∧ s.faultReset.err.active = s.err.active ∧ s.faultReset.err.times = s.err.times := by
  have hfast := fastReset_fast s
  have htherm := fastReset_therm s
  have herr := fastReset_err s
  unfold State.faultReset
  generalize s.fastReset = u at hfast htherm herr ⊢
  exact ⟨hfast, State.bit_setBit_same _ _ _ rfl, htherm, (congrArg Err.active herr).trans rfl, (congrArg Err.times herr).trans rfl⟩

theorem thermGate_eq (s : State) : s.thermGate =
    { (s.writeSoundpost 2).faultReset with therm := { (s.writeSoundpost 2).faultReset.therm with stop := some .gated } } := by
  unfold State.thermGate State.faultReset
  generalize (s.writeSoundpost 2).fastReset = u
  rfl

theorem sameFlds_thermGate (s : State) : SameFlds standingFields s s.thermGate := by
  rw [thermGate_eq]
  have h := sameFlds_faultReset (s.writeSoundpost 2)
  generalize (s.writeSoundpost 2).faultReset = u at h ⊢
  exact ((kept_State_writeSoundpost s 2).sameFlds (by decide)).trans (h.trans (sameFlds_of_regs rfl))

theorem thermGate_therm (s : State) : s.thermGate.therm = { s.therm with stop := some .gated } := by
  have h := (faultReset_shows (s.writeSoundpost 2)).2.2.1
  rw [only_State_writeSoundpost s 2 .therm rfl] at h
  rw [thermGate_eq, ← h]

theorem fatalEnd_eq (s : State) : s.fatalEnd = if 4 ≤ s.copyVault.copyFlash.faultReset.fatals24 then
      ({ s.copyVault.copyFlash.faultReset with err := { s.copyVault.copyFlash.faultReset.err with active := none } } : State).setBit
        Fld.ERR_STATUS.FATAL_HOLD true
    else s.copyVault.copyFlash.faultReset := by
  unfold State.fatalEnd State.faultReset
  rfl

theorem sameFlds_fatalEnd (s : State) : SameFlds standingFields s s.fatalEnd := by
  rw [fatalEnd_eq]
  have h : SameFlds standingFields s s.copyVault.copyFlash.faultReset :=
    ((only_State_copyVault s).sameFlds rfl _).trans (((only_State_copyFlash _).sameFlds rfl _).trans (sameFlds_faultReset _))
  generalize s.copyVault.copyFlash.faultReset = u at h ⊢
  split
  · refine h.trans ((sameFlds_of_regs ?_).trans (sameFlds_setBit _ Fld.ERR_STATUS.FATAL_HOLD true (by decide)))
    rfl
  · exact h

/-- A fatal error's end: the fast domains in reset, FATAL shown, and the thermal stop as it was. -/
theorem fatalEnd_shows (s : State) : s.fatalEnd.pwr.fast = .inReset ∧ s.fatalEnd.bit Fld.PWR_RESET_INFO.FATAL = true ∧
    s.fatalEnd.therm = s.therm := by
  rw [fatalEnd_eq]
  obtain ⟨hfast, hbit, htherm, -, -⟩ := faultReset_shows s.copyVault.copyFlash
  rw [only_State_copyFlash _ .therm rfl, only_State_copyVault _ .therm rfl] at htherm
  generalize s.copyVault.copyFlash.faultReset = u at hfast hbit htherm ⊢
  split
  · exact ⟨hfast, (State.bit_setBit_ne _ _ _ _ (by decide)).trans hbit, htherm⟩
  · exact ⟨hfast, hbit, htherm⟩

/-- The state whose dump is over. -/
def State.dumpOver (s : State) : State := { s with wc := { s.wc with dumpArea := none, dumpWhy := none } }

theorem afterDump_thermal (s : State) (area : Option Nat) : s.afterDump .thermal area = s.dumpOver.thermGate := rfl

theorem afterDump_fatal (s : State) (area : Option Nat) : s.afterDump .fatal area = s.dumpOver.fatalEnd := rfl

/-- A dump is begun in a ready area; with none ready, what it was for follows. -/
theorem dumpFor_cases (s : State) (why : DumpReason) : s.dumpFor why = s.scStopRange.startDump why ∨
    s.dumpFor why = (s.scStopRange.startDump why).afterDump why none := by
  unfold State.dumpFor
  simp only
  split
  · exact .inr rfl
  · exact .inl rfl

theorem sameFlds_dumpStarted (s : State) (why : DumpReason) : SameFlds standingFields s (s.scStopRange.startDump why) :=
  ((kept_State_scStopRange s).sameFlds (by decide)).trans ((kept_State_startDump _ why).sameFlds (by decide))

theorem dumpStarted_therm (s : State) (why : DumpReason) : (s.scStopRange.startDump why).therm = s.therm := by
  rw [only_State_startDump _ why .therm rfl, only_State_scStopRange s .therm rfl]

/-! ### The restart of sleeping fast domains (R430, R462) -/

theorem sameFlds_restart (s : State) : SameFlds standingFields s s.restart := by
  unfold State.restart
  split
  next =>
    have h : SameFlds standingFields s ((s.resetRegs fastServed).portsReset s.regs) :=
      (sameFlds_resetRegs s (by decide)).trans ((kept_State_portsReset _ _).sameFlds (by decide))
    dsimp only
    generalize (s.resetRegs fastServed).portsReset s.regs = u at h ⊢
    have hports : ∀ v : State, SameFlds standingFields v ((List.finRange 48).foldl (fun (st : State) p => st.spinupPort p) v) := fun v =>
      SameFlds.foldl (fun b p => (kept_State_spinupPort b p).sameFlds (by decide)) v _
    refine SameFlds.trans ?_ ((kept_State_startKat _).sameFlds (by decide))
    refine SameFlds.trans ?_ ((kept_State_recomputeLimit _).sameFlds (by decide))
    refine SameFlds.trans ?_ ((kept_State_startMetering _).sameFlds (by decide))
    refine SameFlds.trans ?_ (Kept.sameFlds (l := [Fld.HFE_STATUS.REPLAY_PENDING]) (Kept.setBit rfl Kept.refl) (by decide))
    refine h.trans (SameFlds.trans ?_ (hports _))
    exact sameFlds_of_regs (a := u) rfl
  next => exact sameFlds_of_regs rfl

theorem sameFlds_settle (s : State) (st : Nat) : SameFlds standingFields s (s.settle st) := (kept_State_settle s st).sameFlds (by decide)

/-- The state that destages no longer for a transition. -/
def State.destageOff (s : State) : State := { s with wc := { s.wc with destageAll := false } }

theorem abandonTransition_eq (s : State) : s.abandonTransition =
    if s.fld Fld.PWR_STATE.STATE = 4 then s.destageOff.settle 0
    else if s.fld Fld.PWR_STATE.STATE = 5 then s.destageOff.restart.settle 0
    else if s.fld Fld.PWR_STATE.STATE = 2 then s.destageOff.restart.settle s.pwr.lastOp
    else s.destageOff := by
  unfold State.abandonTransition State.destageOff
  rfl

theorem sameFlds_abandonTransition (s : State) : SameFlds standingFields s s.abandonTransition := by
  have h : SameFlds standingFields s s.destageOff := sameFlds_of_regs rfl
  rw [abandonTransition_eq]
  generalize s.destageOff = u at h ⊢
  split
  · exact h.trans (sameFlds_settle _ _)
  · split
    · exact h.trans ((sameFlds_restart _).trans (sameFlds_settle _ _))
    · split
      · exact h.trans ((sameFlds_restart _).trans (sameFlds_settle _ _))
      · exact h

/-! ### The thermal state (R376) -/

theorem nextTherm_range (s : State) : s.nextTherm < 4 ∨ s.nextTherm = s.thermState := by
  unfold State.nextTherm
  simp only
  have hmild : (if s.fanCfg.hotC * 10 < s.tjDeci then (1 : Nat) else 0) < 4 := by split <;> decide
  split
  · exact .inl (by decide)
  · split
    · split
      · exact .inl hmild
      · exact .inl (by decide)
    · split
      · exact .inl (by decide)
      · split
        · split
          · exact .inl hmild
          · exact .inl (by decide)
        · split
          · exact .inl (by decide)
          · split
            · exact .inl (by decide)
            · exact .inr rfl

/-- The thermal state shown, its event recorded, and the fans told. -/
def State.heatShown (s : State) (n : Nat) : State :=
  let s := s.setFld Fld.THERM_STATUS.STATE n
  (s.emitAt .thermalState (if n = 3 then 6 else if n = 2 then 5 else 4) [n, bitsOf 8 (s.tjDeci / 10)]).updateFans

theorem kept_heatShown (s : State) (n : Nat) : Kept [Fld.CAL_STATUS.FACTORY_VALID, Fld.CAL_STATUS.PREVIOUS_VALID, Fld.CAL_STATUS.USER_VALID,
    Fld.FAN_GLOBAL.FAULTED, Fld.FAN_GLOBAL.RUNNING, Fld.FAN_RUN_S, Fld.FAN_STATUS.ATTEMPT, Fld.FAN_STATUS.FAULT_CAUSE, Fld.FAN_STATUS.SHIFTING,
    Fld.FAN_STATUS.STATE, Fld.FAN_TARGET.RPM] (s.setFld Fld.THERM_STATUS.STATE n) (s.heatShown n) :=
  Kept.step (kept_State_updateFans _) rfl (kept_State_emitAt _ _ _ _ |>.mono rfl)

theorem only_heatShown (s : State) (n : Nat) : Only [.regs, .evr, .cal, .fans] s (s.heatShown n) :=
  Only.step (only_State_updateFans _) rfl (Only.step (only_State_emitAt _ _ _ _) rfl (Only.step (only_State_setFld _ _ _) rfl Only.refl))

theorem heatShown_fld (s : State) (n : Nat) {f : Field} (h : f.key ≠ Fld.THERM_STATUS.STATE.key)
    (ha : [Fld.CAL_STATUS.FACTORY_VALID, Fld.CAL_STATUS.PREVIOUS_VALID, Fld.CAL_STATUS.USER_VALID,
      Fld.FAN_GLOBAL.FAULTED, Fld.FAN_GLOBAL.RUNNING, Fld.FAN_RUN_S, Fld.FAN_STATUS.ATTEMPT, Fld.FAN_STATUS.FAULT_CAUSE, Fld.FAN_STATUS.SHIFTING,
      Fld.FAN_STATUS.STATE, Fld.FAN_TARGET.RPM].all (fun g => g.apart f) = true) : (s.heatShown n).fld f = s.fld f :=
  ((kept_heatShown s n).fld f ha).trans (State.fld_setFld_ne _ _ _ _ h)

theorem heatShown_state (s : State) {n : Nat} (h : n < 4) : (s.heatShown n).thermState = n :=
  ((kept_heatShown s n).fld Fld.THERM_STATUS.STATE (by decide)).trans ((State.fld_setFld_same ..).trans (Nat.mod_eq_of_lt h))

section
variable {s : State}

theorem exec_thermalStateChange_idle (h : s.bit Fld.PWR_STATE.PEGBOX_READY = false ∨ s.nextTherm = s.thermState) :
    exec .thermalStateChange s = .next s := if_pos h

variable (hr : s.bit Fld.PWR_STATE.PEGBOX_READY = true) (hn : s.nextTherm ≠ s.thermState)
include hr hn

theorem exec_thermalStateChange : exec .thermalStateChange s =
    if s.nextTherm = 3 then .next (s.heatShown s.nextTherm).beginStop
    else if s.thermState = 3 then
      .next (if (((s.heatShown s.nextTherm).setStop none).unhold .thermal).canBoot then
          (((s.heatShown s.nextTherm).setStop none).unhold .thermal).startBoot
        else ((s.heatShown s.nextTherm).setStop none).unhold .thermal)
    else if s.nextTherm = 2 then .next ((s.heatShown s.nextTherm).smartWarn 1)
    else .next (s.heatShown s.nextTherm) :=
  if_neg (by simp [hr, hn])

end

/-! ### The begin of a thermal stop (R378) -/

/-- A thermal stop counted, fetch held, and its time started. -/
def State.stopBegun (s : State) : State :=
  let s := (s.satFld Fld.THERM_CRIT_COUNT 1).hold .thermal
  { s with therm := { s.therm with stopMs := 0 } }

/-- A claim released, and the partner told, for a thermal stop. -/
def State.claimReleased (s : State) : State := if s.role = 3 then (s.beginRelease 0).sendHealth else s

theorem beginStop_eq (s : State) : s.beginStop =
    if s.stopBegun.err.active.isSome then s.stopBegun.setStop (some .drain)
    else if (!((s.stopBegun.pwr.fast == .running || s.stopBegun.pwr.fast == .retained) && !s.stopBegun.bit Fld.PWR_STATE.BOOTING)) = true then
      s.stopBegun.thermGate
    else if s.stopBegun.wc.dumpArea.isSome then
      ({ s.stopBegun with wc := { s.stopBegun.wc with dumpWhy := some .thermal } } : State).setStop (some .dump)
    else s.stopBegun.abandonTransition.claimReleased.setStop (some .drain) := by
  unfold State.beginStop State.claimReleased State.stopBegun
  rfl

theorem sameFlds_claimReleased (s : State) : SameFlds standingFields s s.claimReleased := by
  unfold State.claimReleased
  split
  · exact ((kept_State_beginRelease s 0).sameFlds (by decide)).trans ((only_State_sendHealth _).sameFlds rfl _)
  · exact .refl

theorem setStop_regs (s : State) (x : Option ThermStop) : SameFlds standingFields s (s.setStop x) := sameFlds_of_regs rfl

/-- However it goes on, a thermal stop is under way, and its registers are as its begin left them. -/
theorem beginStop_begins (s : State) : s.beginStop.therm.stop.isSome = true ∧ SameFlds standingFields s.stopBegun s.beginStop := by
  rw [beginStop_eq]
  generalize s.stopBegun = u
  split
  · exact ⟨rfl, setStop_regs u _⟩
  · split
    · refine ⟨?_, sameFlds_thermGate u⟩
      rw [thermGate_therm]
      rfl
    · split
      · exact ⟨rfl, sameFlds_of_regs rfl⟩
      · exact ⟨rfl, (sameFlds_abandonTransition u).trans ((sameFlds_claimReleased _).trans (setStop_regs _ _))⟩

theorem stopBegun_count (s : State) : s.stopBegun.fld Fld.THERM_CRIT_COUNT =
    min (s.fld Fld.THERM_CRIT_COUNT + 1) (2 ^ Fld.THERM_CRIT_COUNT.width - 1) := fld_satFld_same ..

theorem kept_stopBegun (s : State) : Kept [Fld.THERM_CRIT_COUNT] s s.stopBegun :=
  Kept.regs (a := (s.satFld Fld.THERM_CRIT_COUNT 1).hold .thermal) rfl (Kept.step (kept_State_hold _ _) rfl (Kept.satFld rfl Kept.refl))

theorem closeGate_closed (s : State) : s.closeGate.bit Fld.CAPO_STATUS.GATE_OPEN = false := by
  unfold State.closeGate
  split
  · refine List.foldlRecOn (motive := fun t : State => t.bit Fld.CAPO_STATUS.GATE_OPEN = false) _ _ (State.bit_setBit_same _ _ _ rfl) fun b hb p _ => ?_
    exact ((kept_State_gateAbort b p).bit _ (by decide)).trans hb
  · rename_i h
    simpa using h

theorem claimReleased_gate (s : State) : s.claimReleased.bit Fld.CAPO_STATUS.GATE_OPEN = (s.bit Fld.CAPO_STATUS.GATE_OPEN && s.role != 3) := by
  unfold State.claimReleased
  split
  next h =>
    have hset : (s.beginRelease 0).bit Fld.CAPO_STATUS.GATE_OPEN = s.closeGate.bit Fld.CAPO_STATUS.GATE_OPEN := by
      unfold State.beginRelease
      exact ((kept_State_setRole _ 4).bit _ (by decide)).trans rfl
    rw [(kept_State_sendHealth _).bit _ (by decide), hset, closeGate_closed, h]
    simp
  next h => simp [h]

/-- What the begin of a thermal stop in a running device leaves: the drain, and the gate closed where the claim was held. -/
theorem beginStop_drains {s : State} (hf : s.pwr.fast = .running) (hb : s.bit Fld.PWR_STATE.BOOTING = false) (hs : s.fld Fld.PWR_STATE.STATE = 0)
    (he : s.err.active = none) (hd : s.wc.dumpArea = none) : s.beginStop.therm.stop = some .drain ∧
    s.beginStop.bit Fld.CAPO_STATUS.GATE_OPEN = (s.bit Fld.CAPO_STATUS.GATE_OPEN && s.role != 3) := by
  have hk := kept_stopBegun s
  have hstate : s.stopBegun.fld Fld.PWR_STATE.STATE = 0 := (hk.fld _ (by decide)).trans hs
  have hboot : s.stopBegun.bit Fld.PWR_STATE.BOOTING = false := (hk.bit _ (by decide)).trans hb
  have hgate := hk.bit Fld.CAPO_STATUS.GATE_OPEN (by decide)
  have hrole : s.stopBegun.role = s.role := hk.fld _ (by decide)
  have hfast : s.stopBegun.pwr.fast = .running := hf
  have herr : s.stopBegun.err.active = none := he
  have hdump : s.stopBegun.wc.dumpArea = none := hd
  rw [beginStop_eq, ← hgate, ← hrole]
  generalize s.stopBegun = u at hstate hboot hfast herr hdump ⊢
  rw [if_neg (by simp [herr]), if_neg (by simp [hfast, hboot]), if_neg (by simp [hdump]), abandonTransition_eq, if_neg (by simp [hstate]),
    if_neg (by simp [hstate]), if_neg (by simp [hstate])]
  exact ⟨rfl, claimReleased_gate u.destageOff⟩

/-! ### Samples (R375, R378) -/

/-- The temperature readings and the standing registers are the same. -/
def SameHeat (s t : State) : Prop := t.therm.sensors = s.therm.sensors ∧ SameFlds standingFields s t

theorem SameHeat.refl {s : State} : SameHeat s s := ⟨rfl, .refl⟩

theorem SameHeat.trans {s t u : State} (h : SameHeat s t) (k : SameHeat t u) : SameHeat s u := ⟨k.1.trans h.1, h.2.trans k.2⟩

theorem SameHeat.of_therm {s t : State} (ht : t.therm = s.therm) (h : SameFlds standingFields s t) : SameHeat s t := ⟨congrArg _ ht, h⟩

theorem SameHeat.ite {s t u : State} {c : Prop} {_ : Decidable c} (ht : SameHeat s t) (hu : SameHeat s u) : SameHeat s (if c then t else u) := by
  split <;> assumption

theorem sameHeat_thermGate (s : State) : SameHeat s s.thermGate := by
  refine ⟨?_, sameFlds_thermGate s⟩
  rw [thermGate_therm]

theorem sameHeat_setStop (s : State) (x : Option ThermStop) : SameHeat s (s.setStop x) := ⟨rfl, setStop_regs s x⟩

theorem sameHeat_dumpStarted (s : State) (why : DumpReason) : SameHeat s (s.scStopRange.startDump why) :=
  .of_therm (dumpStarted_therm s why) (sameFlds_dumpStarted s why)

theorem sameHeat_afterDump_thermal (s : State) (area : Option Nat) : SameHeat s (s.afterDump .thermal area) := by
  rw [afterDump_thermal]
  exact SameHeat.trans (t := s.dumpOver) ⟨rfl, sameFlds_of_regs rfl⟩ (sameHeat_thermGate _)

theorem sameHeat_dumpFor_thermal (s : State) : SameHeat s (s.dumpFor .thermal) := by
  rcases dumpFor_cases s .thermal with h | h <;> rw [h]
  · exact sameHeat_dumpStarted s _
  · exact (sameHeat_dumpStarted s _).trans (sameHeat_afterDump_thermal _ _)

theorem sameHeat_abandonDump (s : State) : SameHeat s s.abandonDump :=
  .of_therm (only_State_abandonDump s .therm rfl) ((kept_State_abandonDump s).sameFlds (by decide))

/-- The state that destages what is dirty before the gate of a thermal stop. -/
def State.destaging (s : State) : State := ({ s with wc := { s.wc with destageAll := true } } : State).setStop (some .destage)

theorem saveDirty_cases (s : State) : s.saveDirty = s.thermGate ∨ s.saveDirty = s.used.destaging ∨
    s.saveDirty = (s.used.setStop (some .dump)).dumpFor .thermal := by
  unfold State.saveDirty
  split
  · exact .inl rfl
  · dsimp only
    split
    · exact .inr (.inl rfl)
    · exact .inr (.inr rfl)

theorem sameHeat_used (s : State) : SameHeat s s.used := ⟨rfl, sameFlds_of_regs rfl⟩

theorem sameHeat_saveDirty (s : State) : SameHeat s s.saveDirty := by
  rcases saveDirty_cases s with h | h | h <;> rw [h]
  · exact sameHeat_thermGate s
  · exact (sameHeat_used s).trans ⟨rfl, sameFlds_of_regs rfl⟩
  · exact (sameHeat_used s).trans ((sameHeat_setStop _ _).trans (sameHeat_dumpFor_thermal _))

/-- The commands that were fetched abandoned, and those that waited for none of them woken. -/
def State.fetchedAbandoned (s : State) : State := (s.hfe.cmds.foldl (fun (st : State) (c : HostCmd) => st.abandon c) s).fenceWake

theorem sameHeat_fetchedAbandoned (s : State) : SameHeat s s.fetchedAbandoned := by
  have hall : SameHeat s (s.hfe.cmds.foldl (fun (st : State) (c : HostCmd) => st.abandon c) s) :=
    List.foldlRecOn (motive := fun t : State => SameHeat s t) _ _ .refl fun b hb c _ =>
      hb.trans (.of_therm (only_State_abandon b c .therm rfl) ((kept_State_abandon b c).sameFlds (by decide)))
  exact hall.trans (.of_therm (only_State_fenceWake _ .therm rfl) ((kept_State_fenceWake _).sameFlds (by decide)))

theorem sameHeat_stopStep (s : State) : SameHeat s s.stopStep := by
  unfold State.stopStep
  split
  next => exact .refl
  next => exact .refl
  next x _ _ =>
    extract_lets n heat u hot
    have haged : SameHeat s u := ⟨rfl, sameFlds_of_regs rfl⟩
    clear_value u hot
    split
    next => exact haged.trans (sameHeat_setStop u _)
    next =>
      split
      next => exact haged
      next =>
        refine haged.trans ?_
        cases x with
        | drain => exact SameHeat.ite ((sameHeat_fetchedAbandoned u).trans (sameHeat_saveDirty _)) .refl
        | destage => exact SameHeat.ite (sameHeat_thermGate u) .refl
        | dump => exact SameHeat.ite ((sameHeat_abandonDump u).trans (sameHeat_afterDump_thermal _ _)) .refl
        | gated => exact .refl

theorem tempThresholds_sensors (s : State) : s.tempThresholds.therm.sensors = s.therm.sensors := by
  unfold State.tempThresholds
  refine List.foldlRecOn (motive := fun t : State => t.therm.sensors = s.therm.sensors) _ _ rfl fun b hb f _ => ?_
  split
  · exact hb
  · simp only
    split
    · rw [only_State_tempWarn _ f .therm rfl, hb]
    · exact hb

/-- The readings of one millisecond taken in. -/
def State.heatTaken (s : State) (sensors : List Int) : State :=
  { s with therm := { s.therm with sensors := sensors.mapIdx (fun i t => (i, t)) } }

/-- The readings of one millisecond taken in, and a throttled one counted. -/
def State.heatRead (s : State) (sensors : List Int) : State :=
  if s.thermState = 2 then (s.heatTaken sensors).incFld Fld.THERM_THROTTLE_MS 1 else s.heatTaken sensors

/-- What readings move beside a thermal stop. -/
def State.heatFollowed (s : State) (first : Bool) : State := ((s.thermCycle first).tjMax.tempSteps.tempThresholds).updateFans

theorem sameHeat_heatFollowed (s : State) (first : Bool) : SameHeat s (s.heatFollowed first) := by
  have hcycle : SameHeat s (s.thermCycle first) := .of_therm (only_State_thermCycle s first .therm rfl) ((kept_State_thermCycle s first).sameFlds (by decide))
  have hmax := hcycle.trans (.of_therm (only_State_tjMax _ .therm rfl) ((kept_State_tjMax _).sameFlds (by decide)))
  have hsteps := hmax.trans (.of_therm (only_State_tempSteps _ .therm rfl) ((kept_State_tempSteps _).sameFlds (by decide)))
  have hover := hsteps.trans ⟨tempThresholds_sensors _, (kept_State_tempThresholds _).sameFlds (by decide)⟩
  exact hover.trans (.of_therm (only_State_updateFans _ .therm rfl) ((kept_State_updateFans _).sameFlds (by decide)))

theorem heatRead_shows (s : State) (sensors : List Int) : (s.heatRead sensors).therm.sensors = sensors.mapIdx (fun i x => (i, x)) ∧
    (s.thermState = 2 → (s.heatRead sensors).fld Fld.THERM_THROTTLE_MS =
      (s.fld Fld.THERM_THROTTLE_MS + 1) % 2 ^ Fld.THERM_THROTTLE_MS.width) := by
  unfold State.heatRead
  refine ⟨?_, fun h => ?_⟩
  · split <;> rfl
  · rw [if_pos h]
    exact fld_incFld_same ..

section
variable {s : State} {sensors : List Int}

theorem exec_temperatureSample (hr : s.bit Fld.PWR_STATE.PEGBOX_READY = true) (hs : sensors ≠ []) : exec (.temperatureSample sensors) s =
    .next ((s.heatRead sensors).heatFollowed s.therm.sensors.isEmpty).stopStep :=
  if_neg (by simp [hr, hs])

theorem exec_temperatureSample_idle (h : s.bit Fld.PWR_STATE.PEGBOX_READY = false ∨ sensors = []) :
    exec (.temperatureSample sensors) s = .next s := if_pos h

/-! ### The clock throttle and the supply (R376, R423, R473) -/

theorem showClock_steps (s : State) : s.showClock.fld Fld.THERM_STATUS.CLOCK_STEPS = s.showClock.clockSteps % 2 ^ Fld.THERM_STATUS.CLOCK_STEPS.width := by
  have hsteps : s.showClock.clockSteps = s.clockSteps := by
    simp only [State.clockSteps]
    rw [(kept_State_showClock s).fld Fld.AGE_AVS_STEPS.EXTRA_CLOCK (by decide), only_State_showClock s .therm rfl]
  rw [hsteps]
  exact State.fld_setFld_same ..

/-- The state with the throttle at a step. -/
def State.throttledTo (s : State) (n : Nat) : State := ({ s with therm := { s.therm with throttle := n } } : State).showClock

theorem throttledTo_shows (s : State) (n : Nat) : (s.throttledTo n).therm.throttle = n ∧
    (s.throttledTo n).fld Fld.THERM_STATUS.CLOCK_STEPS = (s.throttledTo n).clockSteps % 2 ^ Fld.THERM_STATUS.CLOCK_STEPS.width :=
  ⟨rfl, showClock_steps _⟩

theorem exec_throttleClockStep : exec .throttleClockStep s =
    if s.thermState = 2 ∧ 1050 < s.tjDeci ∧ s.therm.throttle < 8 then .next (s.throttledTo (s.therm.throttle + 1))
    else if s.tjDeci < 1030 ∧ 0 < s.therm.throttle then .next (s.throttledTo (s.therm.throttle - 1))
    else .next s := rfl

/-- The state whose supply does not answer. -/
def State.supplySilent (s : State) : State :=
  let s := (s.setBit Fld.PWR_AVS.NO_ANSWER true).emit .railAvsSilent []
  { s with therm := { s.therm with avsHold := true } }

/-- The state whose supply has answered, and what its power asks for. -/
def State.supplyAnswered (s : State) (mw : Nat) : State :=
  let s := s.setBit Fld.PWR_AVS.NO_ANSWER false
  { s with therm := { s.therm with avsHold := false, powerHold := decide (144000 < mw) } }

theorem exec_avsTimeout : exec .avsTimeout s = .next s.supplySilent.showClock := rfl

theorem exec_vddFbPowerCheck {mw : Nat} : exec (.vddFbPowerCheck mw) s = .next (s.supplyAnswered mw).showClock := rfl

theorem avsTimeout_holds (s : State) : s.supplySilent.showClock.bit Fld.PWR_AVS.NO_ANSWER = true ∧ s.supplySilent.showClock.therm.avsHold = true := by
  have hbit : s.supplySilent.bit Fld.PWR_AVS.NO_ANSWER = true := State.bit_setBit_same _ _ _ rfl
  have htherm : s.supplySilent.therm.avsHold = true := rfl
  generalize s.supplySilent = u at hbit htherm ⊢
  exact ⟨((kept_State_showClock u).bit _ (by decide)).trans hbit, (congrArg Therm.avsHold (only_State_showClock u .therm rfl)).trans htherm⟩

theorem vddFbPowerCheck_answers (s : State) (mw : Nat) : (s.supplyAnswered mw).showClock.bit Fld.PWR_AVS.NO_ANSWER = false ∧
    (s.supplyAnswered mw).showClock.therm.avsHold = false ∧ (s.supplyAnswered mw).showClock.therm.powerHold = decide (144000 < mw) := by
  have hbit : (s.supplyAnswered mw).bit Fld.PWR_AVS.NO_ANSWER = false := State.bit_setBit_same _ _ _ rfl
  have havs : (s.supplyAnswered mw).therm.avsHold = false := rfl
  have hpow : (s.supplyAnswered mw).therm.powerHold = decide (144000 < mw) := rfl
  generalize s.supplyAnswered mw = u at hbit havs hpow ⊢
  have htherm := only_State_showClock u .therm rfl
  exact ⟨((kept_State_showClock u).bit _ (by decide)).trans hbit, (congrArg Therm.avsHold htherm).trans havs,
    (congrArg Therm.powerHold htherm).trans hpow⟩

end

section
variable {s : State} (hr : s.bit Fld.PWR_STATE.PEGBOX_READY = true)
include hr

theorem thermalStateChange_mild (hn : s.nextTherm ≠ s.thermState) (hold : s.thermState ≠ 3) (hnew : s.nextTherm ≠ 3) :
    Does .thermalStateChange s fun t => t.thermState = s.nextTherm ∧ t.therm.stop = s.therm.stop := by
  have hstate := heatShown_state s ((nextTherm_range s).resolve_right hn)
  have htherm : (s.heatShown s.nextTherm).therm = s.therm := only_heatShown s _ .therm rfl
  have hx := (exec_thermalStateChange hr hn).trans ((if_neg hnew).trans (if_neg hold))
  generalize s.heatShown s.nextTherm = u at hstate htherm hx
  by_cases hthr : s.nextTherm = 2
  · refine ⟨_, hx.trans (if_pos hthr), ((kept_State_smartWarn u 1).fld _ (by decide)).trans hstate, ?_⟩
    rw [only_State_smartWarn u 1 .therm rfl, htherm]
  · exact ⟨_, hx.trans (if_neg hthr), hstate, congrArg Therm.stop htherm⟩

theorem thermalStateChange_ends (hnew : s.nextTherm ≠ 3) (hold : s.thermState = 3) :
    Does .thermalStateChange s fun t => t.thermState = s.nextTherm ∧ t.therm.stop = none ∧ FetchHold.thermal ∉ t.pwr.holds := by
  have hn : s.nextTherm ≠ s.thermState := by rw [hold]; exact hnew
  have hstate := heatShown_state s ((nextTherm_range s).resolve_right hn)
  have hx := (exec_thermalStateChange hr hn).trans ((if_neg hnew).trans (if_pos hold))
  generalize s.heatShown s.nextTherm = v at hstate hx
  have hnone : ((v.setStop none).unhold .thermal).therm.stop = none := rfl
  have hheld : FetchHold.thermal ∉ ((v.setStop none).unhold .thermal).pwr.holds := by simp [State.unhold]
  have hst : ((v.setStop none).unhold .thermal).thermState = s.nextTherm := hstate
  generalize (v.setStop none).unhold .thermal = u at hx hnone hheld hst
  have hbooted : u.startBoot.pwr.holds = u.pwr.holds := rfl
  refine ⟨_, hx, ?_⟩
  beta_reduce
  split
  · exact ⟨((kept_State_startBoot u).fld _ (by decide)).trans hst, by rw [only_State_startBoot u .therm rfl, hnone], hbooted ▸ hheld⟩
  · exact ⟨hst, hnone, hheld⟩

variable (hnew : s.nextTherm = 3) (hold : s.thermState ≠ 3)
include hnew hold

theorem exec_thermalStateChange_critical : exec .thermalStateChange s = .next (s.heatShown 3).beginStop := by
  rw [exec_thermalStateChange hr (by rw [hnew]; exact Ne.symm hold), if_pos hnew, hnew]

omit hr hnew hold in
theorem heatShown_critical (s : State) : (s.heatShown 3).beginStop.thermState = 3 ∧ (s.heatShown 3).beginStop.therm.stop.isSome = true ∧
    (s.heatShown 3).beginStop.fld Fld.THERM_CRIT_COUNT = min (s.fld Fld.THERM_CRIT_COUNT + 1) (2 ^ Fld.THERM_CRIT_COUNT.width - 1) := by
  have hstate := heatShown_state s (n := 3) (by decide)
  have hcount : (s.heatShown 3).fld Fld.THERM_CRIT_COUNT = s.fld Fld.THERM_CRIT_COUNT := heatShown_fld s 3 (by decide) (by decide)
  rw [← hcount]
  generalize s.heatShown 3 = u at hstate ⊢
  obtain ⟨hstop, hsame⟩ := beginStop_begins u
  exact ⟨(hsame Fld.THERM_STATUS.STATE (by decide)).trans (((kept_stopBegun u).fld _ (by decide)).trans hstate), hstop,
    (hsame Fld.THERM_CRIT_COUNT (by decide)).trans (stopBegun_count u)⟩

theorem thermalStateChange_drains (hf : s.pwr.fast = .running) (hb : s.bit Fld.PWR_STATE.BOOTING = false) (hs : s.fld Fld.PWR_STATE.STATE = 0)
    (he : s.err.active = none) (hd : s.wc.dumpArea = none) : Does .thermalStateChange s fun t => t.thermState = 3 ∧ t.therm.stop = some .drain ∧
      t.bit Fld.CAPO_STATUS.GATE_OPEN = (s.bit Fld.CAPO_STATUS.GATE_OPEN && s.role != 3) ∧
      t.fld Fld.THERM_CRIT_COUNT = min (s.fld Fld.THERM_CRIT_COUNT + 1) (2 ^ Fld.THERM_CRIT_COUNT.width - 1) := by
  obtain ⟨hstate, -, hcount⟩ := heatShown_critical s
  have honly := only_heatShown s 3
  have hboot : (s.heatShown 3).bit Fld.PWR_STATE.BOOTING = s.bit Fld.PWR_STATE.BOOTING :=
    congrArg (decide <| · ≠ 0) (heatShown_fld s 3 (by decide) (by decide))
  have hopen : (s.heatShown 3).bit Fld.CAPO_STATUS.GATE_OPEN = s.bit Fld.CAPO_STATUS.GATE_OPEN :=
    congrArg (decide <| · ≠ 0) (heatShown_fld s 3 (by decide) (by decide))
  have hrole : (s.heatShown 3).role = s.role := heatShown_fld s 3 (by decide) (by decide)
  obtain ⟨hstop, hgate⟩ := beginStop_drains (s := s.heatShown 3) (by rw [honly .pwr rfl, hf]) (hboot.trans hb)
    ((heatShown_fld s 3 (by decide) (by decide)).trans hs) (by rw [honly .err rfl, he]) (by rw [honly .wc rfl, hd])
  rw [hopen, hrole] at hgate
  exact ⟨_, exec_thermalStateChange_critical hr hnew hold, hstate, hstop, hgate, hcount⟩

end

/-- Settles O56: each thermal state's entry, the begin of a thermal stop, the throttle, the supply and the samples, each by the part it moves. -/
theorem thermalCommandsTakeEffect : Obligations.ThermalCommandsTakeEffect := by
  refine ⟨?mild, ?drains, ?stops, ?ends, ?same, ?slower, ?faster, ?silent, ?answered, ?sample, ?notReady, ?noStep, ?noSample⟩
  case mild => exact fun s hr hn hold hnew => thermalStateChange_mild hr hn hold hnew
  case drains => exact fun s hr hnew hold hf hb hs he hd => thermalStateChange_drains hr hnew hold hf hb hs he hd
  case stops => exact fun s hr hnew hold => ⟨_, exec_thermalStateChange_critical hr hnew hold, heatShown_critical s⟩
  case ends => exact fun s hr hnew hold => thermalStateChange_ends hr hnew hold
  case same => exact fun s _ h => ⟨s, exec_thermalStateChange_idle (.inr h), rfl⟩
  case slower => exact fun s h2 ht hn => ⟨_, exec_throttleClockStep.trans (if_pos ⟨h2, ht, hn⟩), throttledTo_shows s _⟩
  case faster =>
    intro s ht hn
    refine ⟨_, exec_throttleClockStep.trans ((if_neg ?_).trans (if_pos ⟨ht, hn⟩)), throttledTo_shows s _⟩
    rintro ⟨-, h, -⟩
    omega
  case silent => exact fun s => ⟨_, exec_avsTimeout, avsTimeout_holds s⟩
  case answered => exact fun s mw => ⟨_, exec_vddFbPowerCheck, vddFbPowerCheck_answers s mw⟩
  case sample =>
    intro s sensors hr hs
    obtain ⟨hread, hms⟩ := heatRead_shows s sensors
    obtain ⟨hsensors, hsame⟩ := (sameHeat_heatFollowed (s.heatRead sensors) s.therm.sensors.isEmpty).trans (sameHeat_stopStep _)
    exact ⟨_, exec_temperatureSample hr hs, hsensors.trans hread, fun h => (hsame _ (by decide)).trans (hms h)⟩
  case notReady => exact fun s h => ⟨s, exec_thermalStateChange_idle (.inl h), rfl⟩
  case noStep => exact fun s h1 h2 => ⟨s, exec_throttleClockStep.trans ((if_neg h1).trans (if_neg h2)), rfl⟩
  case noSample => exact fun s sensors h => ⟨s, exec_temperatureSample_idle h, rfl⟩

end Sys2Proof.Machine

/-!
Rails, clocks and the boot, SYS_RST_N, and the entries to and exits from the power states (O20, O21, O60).
-/
namespace Sys2Proof.Machine

/-! ### SYS_RST_N (R434) -/

/-- The state with SYS_RST_N low, before what it asks for. -/
def State.sysFell (s : State) : State :=
  ({ s with pwr := { s.pwr with sysLow := true, sysLowAt := s.now } } : State).setBit Fld.ERR_STATUS.FATAL_HOLD false

theorem sysFell_fld (s : State) {f : Field} (h : f.key ≠ Fld.ERR_STATUS.FATAL_HOLD.key) : s.sysFell.fld f = s.fld f :=
  State.fld_setBit_ne _ _ _ _ h

theorem sysFell_bit (s : State) {f : Field} (h : f.key ≠ Fld.ERR_STATUS.FATAL_HOLD.key) : s.sysFell.bit f = s.bit f :=
  State.bit_setBit_ne _ _ _ _ h

theorem sysFell_hold (s : State) : s.sysFell.bit Fld.ERR_STATUS.FATAL_HOLD = false := State.bit_setBit_same _ _ _ rfl

theorem sysFell_dumpNeeded (s : State) : s.sysFell.dumpNeeded = s.dumpNeeded := by
  have hdirty : s.sysFell.hasDirty = s.hasDirty := rfl
  rw [State.dumpNeeded, State.dumpNeeded, hdirty, sysFell_bit s (by decide)]

/-- What SYS_RST_N's reset leaves after the pin fell. -/
theorem sysReset_sysFell (s : State) : s.sysFell.sysReset.pwr.sysLow = true ∧ s.sysFell.sysReset.pwr.fast = .inReset ∧
    s.sysFell.sysReset.bit Fld.PWR_RESET_INFO.SYS_PIN = true := by
  have hlow : s.sysFell.pwr.sysLow = true := rfl
  generalize s.sysFell = u at hlow ⊢
  obtain ⟨hpwr, hpin, -⟩ := sysReset_shows u
  rw [hpwr, fastReset_pwr]
  exact ⟨hlow, rfl, hpin⟩

section
variable {s : State} (hlow : s.pwr.sysLow = false)
include hlow

theorem exec_sysRstNAssert_down (hf : s.pwr.fast = .unpowered ∨ s.pwr.fast = .inReset) : exec .sysRstNAssert s = .next s.sysFell := by
  unfold State.sysFell
  rcases hf with hf | hf <;> simp only [exec, execSysRstNAssert, hlow, State.setBit_pwr, hf, Bool.false_eq_true, if_false]

theorem exec_sysRstNAssert_booting (hf : s.pwr.fast = .booting) : exec .sysRstNAssert s = .next s.sysFell.sysReset := by
  unfold State.sysFell
  simp only [exec, execSysRstNAssert, hlow, State.setBit_pwr, hf, Bool.false_eq_true, if_false]

theorem exec_sysRstNAssert_running (hf : s.pwr.fast = .running) : exec .sysRstNAssert s =
    if s.sysFell.wc.dumpArea.isSome = true ∨ s.sysFell.fld Fld.PWR_STATE.STATE = 4 ∨ s.sysFell.fld Fld.PWR_STATE.STATE = 5 then
      .next { s.sysFell with pwr := { s.sysFell.pwr with sysPending := true } }
    else if s.sysFell.dumpNeeded = true then
      .next (((if s.sysFell.fld Fld.PWR_STATE.STATE = 2 then s.sysFell.restart.settle s.sysFell.pwr.lastOp else s.sysFell).hold .sysReset).dumpFor .sysReset)
    else .next s.sysFell.sysReset := by
  unfold State.sysFell
  simp only [exec, execSysRstNAssert, hlow, State.setBit_pwr, hf, Bool.false_eq_true, if_false]

end

/-- Settles O21: what SYS_RST_N does in each phase of the fast domains. -/
theorem sysResetActsOnFastDomains : Obligations.SysResetActsOnFastDomains := by
  refine ⟨?down, ?booting, ?resets, ?waits, ?dumps⟩
  case down => exact fun s hlow hf => ⟨_, exec_sysRstNAssert_down hlow hf, rfl, rfl, sysFell_hold s⟩
  case booting => exact fun s hlow hf => ⟨_, exec_sysRstNAssert_booting hlow hf, sysReset_sysFell s⟩
  case resets =>
    intro s hlow hf hd hst hn
    refine ⟨_, (exec_sysRstNAssert_running hlow hf).trans ((if_neg ?_).trans (if_neg ?_)), sysReset_sysFell s⟩
    · rw [sysFell_fld s (by decide), show s.sysFell.wc.dumpArea = none from hd]
      simp only [Option.isSome_none, Bool.false_eq_true, false_or]
      omega
    · rw [sysFell_dumpNeeded, hn]
      decide
  case waits =>
    intro s hlow hf h
    refine ⟨_, (exec_sysRstNAssert_running hlow hf).trans (if_pos ?_), rfl, rfl⟩
    rw [sysFell_fld s (by decide)]
    exact h
  case dumps =>
    intro s hlow hf hd hst hn ha
    have hsame : SameFlds areaFields s (s.sysFell.hold .sysReset) :=
      Kept.sameFlds (l := [Fld.ERR_STATUS.FATAL_HOLD]) (Kept.step (kept_State_hold _ _) rfl (Kept.setBit rfl (Kept.regs rfl Kept.refl))) (by decide)
    have hready : (s.sysFell.hold .sysReset).areaReady.isSome = true := by rw [areaReady_of_sameFlds hsame, ha]
    obtain ⟨hpwr, hwhy, hbit⟩ := dumpFor_ready hready .sysReset
    refine ⟨_, (exec_sysRstNAssert_running hlow hf).trans ((if_neg ?_).trans ((if_pos ?_).trans ?_)), ?_, hwhy, hbit⟩
    · rw [sysFell_fld s (by decide), show s.sysFell.wc.dumpArea = none from hd]
      simp only [Option.isSome_none, Bool.false_eq_true, false_or]
      omega
    · rw [sysFell_dumpNeeded, hn]
    · rw [if_neg (by rw [sysFell_fld s (by decide)]; omega)]
    · rw [hpwr]
      rfl

/-! ### Rails and PLLs (R422, R424) -/

/-- The state with a rail out of range, recorded. -/
def State.railFailed (s : State) : State := ({ s with pwr := { s.pwr with railsOk := false } } : State).setBit Fld.PWR_RESET_INFO.RAIL true

theorem exec_railOutOfRange {s : State} (h : s.pwr.railsOk = true) : exec .railOutOfRange s =
    .next (if s.pwr.fast = .running ∨ s.pwr.fast = .booting ∨ s.pwr.fast = .retained then s.railFailed.raiseFatal 5 else s.railFailed) := by
  unfold State.railFailed
  simp only [exec, execRailOutOfRange, h]
  cases s.pwr.fast <;> rfl

theorem railOutOfRange_records {s : State} (h : s.pwr.railsOk = true) : Does .railOutOfRange s fun t =>
    t.pwr.railsOk = false ∧ t.bit Fld.PWR_RESET_INFO.RAIL = true ∧ t.err.raised = s.err.raised ++
      (if s.pwr.fast = .running ∨ s.pwr.fast = .booting ∨ s.pwr.fast = .retained then [5] else []) := by
  have hok : s.railFailed.pwr.railsOk = false := rfl
  have hbit : s.railFailed.bit Fld.PWR_RESET_INFO.RAIL = true := State.bit_setBit_same _ _ _ rfl
  have herr : s.railFailed.err = s.err := rfl
  refine ⟨_, exec_railOutOfRange h, ?_⟩
  generalize s.railFailed = u at hok hbit herr ⊢
  by_cases hf : s.pwr.fast = .running ∨ s.pwr.fast = .booting ∨ s.pwr.fast = .retained
  · rw [if_pos hf, if_pos hf, ← herr]
    exact ⟨hok, hbit, rfl⟩
  · rw [if_neg hf, if_neg hf, ← herr]
    exact ⟨hok, hbit, (List.append_nil _).symm⟩

theorem exec_pllLock {s : State} {pll : Nat} (h : pll < 8) (hu : s.pwr.plls / 2 ^ pll % 2 = 0) :
    exec (.pllLock pll) s = .next { s with pwr := { s.pwr with plls := s.pwr.plls + 2 ^ pll } } :=
  if_neg (by omega)

theorem exec_pllLockTimeout {s : State} {pll : Nat} (h4 : 4 ≤ pll) (h8 : pll < 8) (hu : s.pwr.plls / 2 ^ pll % 2 = 0)
    (hs : s.pwr.fast = .booting ∨ s.fld Fld.PWR_STATE.STATE = 5) : exec (.pllLockTimeout pll) s = .next (s.raiseFatal 4) :=
  if_pos ⟨by rcases hs with hs | hs <;> simp [hs], h4, h8, hu⟩

/-! ### The boot (R439) -/

theorem startBoot_boots (s : State) : s.startBoot.pwr.fast = .booting ∧ s.startBoot.bit Fld.PWR_STATE.BOOTING = true ∧
    s.startBoot.fld Fld.PWR_AVS.STEP = 0 ∧ s.startBoot.fld Fld.PWR_STATE.STATE = 0 := by
  unfold State.startBoot
  refine ⟨rfl, ?_, ?_, ?_⟩
  · exact (State.bit_setFld_ne _ _ _ _ (by decide)).trans ((State.bit_setFld_ne _ _ _ _ (by decide)).trans
      ((State.bit_setFld_ne _ _ _ _ (by decide)).trans (State.bit_setBit_same _ _ _ rfl)))
  · exact (State.fld_setFld_ne _ _ _ _ (by decide)).trans ((State.fld_setFld_ne _ _ _ _ (by decide)).trans (State.fld_setFld_same ..))
  · exact (State.fld_setFld_ne _ _ _ _ (by decide)).trans (State.fld_setFld_same ..)

/-- The power state is the same, and so are the image's source and Safe Mode. -/
def SameBoot (s t : State) : Prop := t.pwr = s.pwr ∧ SameFlds [Fld.IMG_BOOT.SAFE_MODE, Fld.IMG_BOOT.BOOT_SOURCE] s t

theorem SameBoot.refl {s : State} : SameBoot s s := ⟨rfl, .refl⟩

theorem SameBoot.trans {s t u : State} (h : SameBoot s t) (k : SameBoot t u) : SameBoot s u := ⟨k.1.trans h.1, h.2.trans k.2⟩

theorem SameBoot.of {l : List Part} {m : List Field} {s t : State} (ho : Only l s t) (hk : Kept m s t) (hl : l.contains .pwr = false)
    (hm : [Fld.IMG_BOOT.SAFE_MODE, Fld.IMG_BOOT.BOOT_SOURCE].all (fun f => m.all (fun g => g.apart f)) = true) : SameBoot s t :=
  ⟨ho.pwr hl, hk.sameFlds hm⟩

theorem SameBoot.ite {s t u : State} {c : Prop} {_ : Decidable c} (ht : SameBoot s t) (hu : SameBoot s u) : SameBoot s (if c then t else u) := by
  split <;> assumption

theorem sameBoot_applied (s : State) (i : Image) (l : List NewArray) : SameBoot s ((s.applyImage i l false).keepNew.showRewrite.showCal) :=
  (SameBoot.of (only_State_applyImage s i l false) (kept_State_applyImage s i l false) rfl (by decide)).trans <|
    (SameBoot.of (only_State_keepNew _) (kept_State_keepNew _) rfl (by decide)).trans <|
      (SameBoot.of (only_State_showRewrite _) (kept_State_showRewrite _) rfl (by decide)).trans
        (SameBoot.of (only_State_showCal _) (kept_State_showCal _) rfl (by decide))

theorem sameBoot_unapplied (s : State) : SameBoot s s.showRunning.showCopies.showRewrite :=
  (SameBoot.of (only_State_showRunning s) (kept_State_showRunning s) rfl (by decide)).trans <|
    (SameBoot.of (only_State_showCopies _) (kept_State_showCopies _) rfl (by decide)).trans
      (SameBoot.of (only_State_showRewrite _) (kept_State_showRewrite _) rfl (by decide))

theorem sameBoot_started (s : State) : SameBoot s s.startCapo.startFed.spinupStart.startMetering :=
  (SameBoot.of (only_State_startCapo s) (kept_State_startCapo s) rfl (by decide)).trans <|
    (SameBoot.of (only_State_startFed _) (kept_State_startFed _) rfl (by decide)).trans <|
      (SameBoot.of (only_State_spinupStart _) (kept_State_spinupStart _) rfl (by decide)).trans
        (SameBoot.of (only_State_startMetering _) (kept_State_startMetering _) rfl (by decide))

theorem sameBoot_computeEnergy (s : State) : SameBoot s s.computeEnergy :=
  SameBoot.of (only_State_computeEnergy s) (kept_State_computeEnergy s) rfl (by decide)

theorem sameBoot_energy (s : State) : SameBoot s s.computeEnergy.recomputeLimit.computeEnergy :=
  (sameBoot_computeEnergy s).trans <|
    (SameBoot.of (only_State_recomputeLimit _) (kept_State_recomputeLimit _) rfl (by decide)).trans (sameBoot_computeEnergy _)

theorem sameBoot_shown (s : State) : SameBoot s s.updateFans.showClock.startKat :=
  (SameBoot.of (only_State_updateFans s) (kept_State_updateFans s) rfl (by decide)).trans <|
    (SameBoot.of (only_State_showClock _) (kept_State_showClock _) rfl (by decide)).trans
      (SameBoot.of (only_State_startKat _) (kept_State_startKat _) rfl (by decide))

/-- The state that runs with what the boot ROM picked, before the image is applied. -/
def State.bootPicked (s : State) : State :=
  let p := s.bootPick
  let s := { s with pwr := { s.pwr with fast := .running } }
  let s := ((s.setFld Fld.IMG_BOOT.BOOT_SOURCE p.source).setFld Fld.IMG_BOOT.SAFE_REASON p.reason).setBit
    Fld.IMG_BOOT.NONSEMANTIC_DIFF p.nonSemantic
  s.setBit Fld.IMG_BOOT.SAFE_MODE p.image.isNone

theorem bootPicked_shows (s : State) : s.bootPicked.pwr.fast = .running ∧ s.bootPicked.bit Fld.IMG_BOOT.SAFE_MODE = s.bootPick.image.isNone ∧
    s.bootPicked.fld Fld.IMG_BOOT.BOOT_SOURCE = s.bootPick.source % 4 :=
  ⟨rfl, State.bit_setBit_same _ _ _ rfl, (State.fld_setBit_ne _ _ _ _ (by decide)).trans <| (State.fld_setBit_ne _ _ _ _ (by decide)).trans <|
    (State.fld_setFld_ne _ _ _ _ (by decide)).trans (State.fld_setFld_same ..)⟩

theorem sameBoot_handOver (s : State) : SameBoot s.bootPicked s.handOver := by
  unfold State.handOver
  extract_lets p pw a b c im d e f g h i j cp k
  have hc : s.bootPicked = c := rfl
  rw [hc]
  have hd : SameBoot c d := by
    clear_value p c
    obtain ⟨_ | x, source, reason, same⟩ := p
    · exact SameBoot.trans ⟨rfl, sameFlds_of_regs rfl⟩ (sameBoot_unapplied _)
    · exact sameBoot_applied ..
  clear_value d
  have he : SameBoot d e := .ite ⟨rfl, sameFlds_of_regs rfl⟩ .refl
  clear_value e
  have hf : SameBoot e f := ⟨rfl, Kept.sameFlds (l := [Fld.EVR_STATUS.MODE]) (Kept.setFld rfl Kept.refl) (by decide)⟩
  clear_value f
  have hg : SameBoot f g := sameBoot_started f
  clear_value g
  have hh : SameBoot g h := ⟨rfl, sameFlds_setBit _ _ _ (by decide)⟩
  clear_value h
  have hj : SameBoot h j := .ite (sameBoot_energy h) (sameBoot_computeEnergy h)
  clear_value j
  have hk : SameBoot j k := ⟨rfl, sameFlds_of_regs rfl⟩
  clear_value k
  exact hd.trans (he.trans (hf.trans (hg.trans (hh.trans (hj.trans (hk.trans (sameBoot_shown k)))))))

theorem exec_bootHandover {s : State} (hf : s.pwr.fast = .booting) (hl : s.fastLocked = true) : exec .bootHandover s = .next s.handOver :=
  if_pos (by simp [hf, hl])

theorem bootHandover_runs (s : State) : s.handOver.pwr.fast = .running ∧ s.handOver.bit Fld.IMG_BOOT.SAFE_MODE = s.bootPick.image.isNone ∧
    s.handOver.fld Fld.IMG_BOOT.BOOT_SOURCE = s.bootPick.source % 4 := by
  obtain ⟨hfast, hsafe, hsource⟩ := bootPicked_shows s
  obtain ⟨hpwr, hsame⟩ := sameBoot_handOver s
  rw [hpwr, hsame.bit (by decide), hsame _ (by decide)]
  exact ⟨hfast, hsafe, hsource⟩

/-- The state whose boot is over and timed. -/
def State.bootTimed (s : State) : State :=
  (s.setBit Fld.PWR_STATE.BOOTING false).setFld Fld.PWR_BOOT_US (min ((s.now - s.pwr.bootStart) / 1000) 0xFFFFFFFF)

theorem exec_hostLinkReady {s : State} (hf : s.pwr.fast = .running) (hb : s.bit Fld.PWR_STATE.BOOTING = true) : exec .hostLinkReady s =
    if (s.bootTimed.safeMode || s.bootTimed.paired || s.bootTimed.replayDump.isSome) = true then .next s.bootTimed else .next s.bootTimed.noReplay :=
  if_pos (by simp [hf, hb])

theorem bootTimed_shows (s : State) : s.bootTimed.bit Fld.PWR_STATE.BOOTING = false ∧
    s.bootTimed.fld Fld.PWR_BOOT_US = min ((s.now - s.pwr.bootStart) / 1000) 0xFFFFFFFF := by
  refine ⟨(State.bit_setFld_ne _ _ _ _ (by decide)).trans (State.bit_setBit_same _ _ _ rfl), (State.fld_setFld_same ..).trans (Nat.mod_eq_of_lt ?_)⟩
  exact Nat.lt_of_le_of_lt (Nat.min_le_right ..) (by decide)

/-! ### SYS_RST_N released (R435) -/

/-- The state with SYS_RST_N high again, and how long it was low. -/
def State.sysRose (s : State) : State :=
  ({ s with pwr := { s.pwr with sysLow := false } } : State).setFld Fld.PWR_RST_HOLD_MS (min ((s.now - s.pwr.sysLowAt) / ms) 0xFFFFFFFF)

theorem exec_sysRstNRelease {s : State} (h : s.pwr.sysLow = true) : exec .sysRstNRelease s =
    if 10000 < (s.now - s.pwr.sysLowAt) / ms then
      .next ((s.sysRose.setBit Fld.PWR_RESET_INFO.LONG_HOLD true).emit .sysRstLongHold [(s.now - s.pwr.sysLowAt) / ms])
    else .next s.sysRose :=
  if_neg (by simp [h])

theorem sysRose_shows (s : State) : s.sysRose.pwr.sysLow = false ∧
    s.sysRose.fld Fld.PWR_RST_HOLD_MS = min ((s.now - s.pwr.sysLowAt) / 1000000) 0xFFFFFFFF := by
  refine ⟨rfl, (State.fld_setFld_same ..).trans (Nat.mod_eq_of_lt ?_)⟩
  exact Nat.lt_of_le_of_lt (Nat.min_le_right ..) (by decide)

theorem sysRstNRelease_measures {s : State} (h : s.pwr.sysLow = true) : Does .sysRstNRelease s fun t => t.pwr.sysLow = false ∧
    t.fld Fld.PWR_RST_HOLD_MS = min ((s.now - s.pwr.sysLowAt) / 1000000) 0xFFFFFFFF ∧
    (10000 < (s.now - s.pwr.sysLowAt) / 1000000 → t.bit Fld.PWR_RESET_INFO.LONG_HOLD = true) := by
  obtain ⟨hlow, hms⟩ := sysRose_shows s
  have hx := exec_sysRstNRelease h
  generalize s.sysRose = u at hlow hms hx
  by_cases hlong : 10000 < (s.now - s.pwr.sysLowAt) / ms
  · refine ⟨_, hx.trans (if_pos hlong), hlow, ?_, fun _ => State.bit_setBit_same _ _ _ rfl⟩
    exact (State.fld_setBit_ne _ _ _ _ (by decide)).trans hms
  · exact ⟨_, hx.trans (if_neg hlong), hlow, hms, fun h => absurd h hlong⟩

/-- Settles O20: rails and PLLs, the boot from its start to the ready link, and the release of SYS_RST_N. -/
theorem railsClocksAndBootTakeEffect : Obligations.RailsClocksAndBootTakeEffect := by
  refine ⟨?recovered, ?failed, ?locked, ?unlocked, ?boots, ?handover, ?ready, ?released⟩
  case recovered => exact fun s => ⟨_, rfl, rfl⟩
  case failed => exact fun s h => railOutOfRange_records h
  case locked => exact fun s pll h hu => ⟨_, exec_pllLock h hu, rfl⟩
  case unlocked => exact fun s pll h4 h8 hu hs => ⟨_, exec_pllLockTimeout h4 h8 hu hs, rfl⟩
  case boots => exact fun s h => ⟨_, if_pos h, startBoot_boots s⟩
  case handover => exact fun s hf hl => ⟨_, exec_bootHandover hf hl, bootHandover_runs s⟩
  case ready =>
    intro s hf hb
    obtain ⟨hbit, hus⟩ := bootTimed_shows s
    have hx := exec_hostLinkReady hf hb
    generalize s.bootTimed = u at hbit hus hx
    by_cases h : (u.safeMode || u.paired || u.replayDump.isSome) = true
    · exact ⟨_, hx.trans (if_pos h), hbit, hus⟩
    · exact ⟨_, hx.trans (if_neg h), ((kept_State_noReplay u).bit _ (by decide)).trans hbit, ((kept_State_noReplay u).fld _ (by decide)).trans hus⟩
  case released => exact fun s h => sysRstNRelease_measures h

/-! ### The end of a transition (R19, R431) -/

/-- The parts of the power state that the end of a transition sets and leaves. -/
def Settled (s t : State) (st : Nat) : Prop :=
  t.fld Fld.PWR_STATE.STATE = st % 8 ∧ t.fld Fld.PWR_STATE.TARGET = 0 ∧ t.pwr.fast = s.pwr.fast ∧ t.pwr.reversing = false ∧
  t.pwr.waits = s.pwr.waits ∧ t.pwr.sysPending = s.pwr.sysPending

theorem settled_adminDone {s t : State} {st : Nat} (h : Settled s t st) (f : FnIdx) (cid : Nat) (status : Status) (dw0 : Nat) (l : List Nat) :
    Settled s (t.adminDone f cid status dw0 l) st := by
  obtain ⟨hst, htg, hpwr⟩ := h
  have hk := kept_State_adminDone t f cid status dw0 l
  have ho := only_State_adminDone t f cid status dw0 l
  rw [Settled, ho.pwr rfl]
  exact ⟨(hk.fld _ (by decide)).trans hst, (hk.fld _ (by decide)).trans htg, hpwr⟩

theorem settled_showClock {s t : State} {st : Nat} (h : Settled s t st) : Settled s t.showClock st := by
  obtain ⟨hst, htg, hpwr⟩ := h
  have hk := kept_State_showClock t
  rw [Settled, (only_State_showClock t).pwr rfl]
  exact ⟨(hk.fld _ (by decide)).trans hst, (hk.fld _ (by decide)).trans htg, hpwr⟩

theorem settle_settles (s : State) (st : Nat) : Settled s (s.settle st) st := by
  unfold State.settle
  extract_lets a run p b c d
  have hb : Settled s b st :=
    ⟨(State.fld_setFld_ne _ _ _ _ (by decide)).trans (State.fld_setFld_same ..), State.fld_setFld_same .., rfl, rfl, rfl, rfl⟩
  clear_value b
  have hc : Settled s c st := by
    obtain ⟨hst, htg, hpwr⟩ := hb
    have h : ∀ u : State, u.regs = b.regs → (u.pwr.fast = s.pwr.fast ∧ u.pwr.reversing = false ∧ u.pwr.waits = s.pwr.waits ∧
        u.pwr.sysPending = s.pwr.sysPending) → Settled s (u.incFld Fld.PWR_TRANS_COUNT 1) st := fun u hregs hu => by
      refine ⟨?_, ?_, hu⟩
      · rw [fld_incFld_ne _ _ _ _ (by decide), State.fld_of_regs b u _ hregs, hst]
      · rw [fld_incFld_ne _ _ _ _ (by decide), State.fld_of_regs b u _ hregs, htg]
    by_cases h1 : st ≤ 1
    · exact h (if st ≤ 1 then b.unhold .powerEntry else b) (by rw [if_pos h1]; rfl) (by rw [if_pos h1]; exact hpwr)
    · exact h (if st ≤ 1 then b.unhold .powerEntry else b) (by rw [if_neg h1]) (by rw [if_neg h1]; exact hpwr)
  clear_value c
  have hd : Settled s d st := by
    clear_value run
    cases run with
    | some w => exact settled_adminDone hc ..
    | none => exact hc
  exact settled_showClock hd

/-- With no command waiting, the end of a transition is its own end. -/
theorem settleNext_eq {s : State} (h : s.pwr.waits = []) (st : Nat) :
    s.settleNext st = { s.settle st with pwr := { (s.settle st).pwr with waits := [] } } := by
  have hw : (s.settle st).pwr.waits = [] := (settle_settles s st).2.2.2.2.1.trans h
  unfold State.settleNext State.runWaits
  rw [hw]
  rfl

theorem settleNext_alone {s : State} (h : s.pwr.waits = []) (st : Nat) : Settled s (s.settleNext st) st := by
  have hs := settle_settles s st
  rw [settleNext_eq h]
  generalize s.settle st = u at hs ⊢
  obtain ⟨hst, htg, hfast, hrev, hw, hp⟩ := hs
  exact ⟨hst, htg, hfast, hrev, h.symm, hp⟩

theorem settleNext_only {s : State} (h : s.pwr.waits = []) (st : Nat) : Only [.regs, .pwr, .hfe] s (s.settleNext st) := by
  have hs := only_State_settle s st
  rw [settleNext_eq h]
  generalize s.settle st = u at hs ⊢
  intro p hp
  have := hs p hp
  cases p <;> first | exact this | cases hp

/-! ### The quiesce point (R19, R20, R427, R428) -/

theorem drainBows_only (s : State) : Only [.regs, .rbe, .capo] s s.drainBows := by
  unfold State.drainBows
  split
  · refine Only.foldl (fun b e hb => ?_) Only.refl
    split
    · split
      · split
        · exact Only.step (only_State_checkpoint _ _ _) rfl hb
        · exact hb
      · exact hb
    · exact hb
  · exact Only.refl

theorem drainBows_kept (s : State) : Kept [Fld.MIRROR_BYTES] s s.drainBows := by
  unfold State.drainBows
  refine Kept.ite (Kept.foldl (fun b e hb => ?_) Kept.refl) Kept.refl
  split
  · split
    · split
      · exact Kept.step (kept_State_checkpoint _ _ _) rfl hb
      · exact hb
    · exact hb
  · exact hb

theorem drainBows_idle {s : State} (h : ¬ (s.fld Fld.PWR_STATE.STATE = 4 ∧ s.fld Fld.PWR_STATE.TARGET = 3 ∧ s.pwr.reversing = false)) :
    s.drainBows = s := if_neg h

theorem drainBows_state (s : State) : s.drainBows.fld Fld.PWR_STATE.STATE = s.fld Fld.PWR_STATE.STATE := (drainBows_kept s).fld _ (by decide)

theorem drainBows_target (s : State) : s.drainBows.fld Fld.PWR_STATE.TARGET = s.fld Fld.PWR_STATE.TARGET := (drainBows_kept s).fld _ (by decide)

theorem drainBows_pwr (s : State) : s.drainBows.pwr = s.pwr := (drainBows_only s).pwr rfl

section
variable {s : State}

/-- The oscillators that go on in Silence. -/
def State.silenced (s : State) : State :=
  { s with pwr := { s.pwr with plls := if s.tcxoWanted then s.pwr.plls % 16 else s.pwr.plls % 2 } }

/-- The fast domains kept for Rest. -/
def State.retainedFast (s : State) : State := { s with pwr := { s.pwr with fast := .retained, plls := s.pwr.plls % 16 } }

theorem exec_quiescePoint_idle (h : s.drainBows.fld Fld.PWR_STATE.STATE ≠ 4 ∨ s.drainBows.quiet = false) :
    exec .quiescePoint s = .next s.drainBows := if_pos h

theorem exec_quiescePoint (hs : s.fld Fld.PWR_STATE.STATE = 4) (hq : s.drainBows.quiet = true) : exec .quiescePoint s =
    if s.drainBows.pwr.sysPending = true then
      if (s.drainBows.destageOff.settle s.drainBows.pwr.lastOp).dumpNeeded = true then
        .next (((s.drainBows.destageOff.settle s.drainBows.pwr.lastOp).hold .sysReset).dumpFor .sysReset)
      else .next (s.drainBows.destageOff.settle s.drainBows.pwr.lastOp).sysReset
    else if s.drainBows.pwr.reversing = true then .next (s.drainBows.destageOff.settleNext s.drainBows.pwr.lastOp)
    else if s.drainBows.fld Fld.PWR_STATE.TARGET = 3 then .next (s.drainBows.destageOff.gateFast.silenced.settleNext 3)
    else .next (s.drainBows.destageOff.retainedFast.settleNext 2) := by
  have hn : ¬ (s.drainBows.fld Fld.PWR_STATE.STATE ≠ 4 ∨ s.drainBows.quiet = false) := by simp [drainBows_state, hs, hq]
  show execQuiescePoint s = _
  unfold execQuiescePoint State.silenced State.retainedFast State.destageOff
  generalize s.drainBows = u at hn ⊢
  exact if_neg hn

end

theorem destageOff_pwr (s : State) : s.destageOff.pwr = s.pwr := rfl

theorem dumpNeeded_replay {s : State} (h : s.bit Fld.HFE_STATUS.REPLAY_PENDING = true) : s.dumpNeeded = false := by
  simp [State.dumpNeeded, h]

theorem quiescePoint_rests {s : State} (hs : s.fld Fld.PWR_STATE.STATE = 4) (hq : s.quiet = true) (hp : s.pwr.sysPending = false)
    (hr : s.pwr.reversing = false) (ht : s.fld Fld.PWR_STATE.TARGET = 2) (hw : s.pwr.waits = []) : Does .quiescePoint s fun t =>
      t.fld Fld.PWR_STATE.STATE = 2 ∧ t.pwr.fast = .retained ∧ t.fld Fld.PWR_STATE.TARGET = 0 ∧ t.sc.hbm = s.sc.hbm ∧ t.wc.lines = s.wc.lines := by
  have hd : s.drainBows = s := drainBows_idle (by simp [ht])
  have hx := exec_quiescePoint hs (by rw [hd, hq])
  rw [hd, if_neg (by simp [hp]), if_neg (by simp [hr]), if_neg (by omega)] at hx
  have hwaits : s.destageOff.retainedFast.pwr.waits = [] := hw
  have hfast : s.destageOff.retainedFast.pwr.fast = .retained := rfl
  have hsc : s.destageOff.retainedFast.sc = s.sc := rfl
  have hlines : s.destageOff.retainedFast.wc.lines = s.wc.lines := rfl
  generalize s.destageOff.retainedFast = u at hx hwaits hfast hsc hlines
  obtain ⟨hst, htg, hf, -⟩ := settleNext_alone hwaits 2
  have ho := settleNext_only hwaits 2
  exact ⟨_, hx, hst, hf.trans hfast, htg, (congrArg Sc.hbm (ho .sc rfl)).trans (congrArg Sc.hbm hsc),
    (congrArg Wc.lines (ho .wc rfl)).trans hlines⟩

theorem gateFast_gates (s : State) : s.gateFast.pwr.fast = .gated ∧ s.gateFast.pwr.waits = s.pwr.waits := by
  unfold State.gateFast
  extract_lets a im b
  have ha : a.pwr = s.pwr := (only_State_portsSilence s).pwr rfl
  have hb : b.pwr = a.pwr := by
    clear_value a
    subst b
    split
    · rfl
    · exact (only_State_stageReset a).pwr rfl
  have hwaits : b.pwr.waits = s.pwr.waits := congrArg Pwr.waits (hb.trans ha)
  clear_value b
  exact ⟨rfl, hwaits⟩

theorem silenced_parts (s : State) : s.silenced.sc = s.sc ∧ s.silenced.pwr.fast = s.pwr.fast ∧ s.silenced.pwr.waits = s.pwr.waits :=
  ⟨rfl, rfl, rfl⟩

theorem gateFast_lines (s : State) : s.gateFast.sc.lines = [] := rfl

theorem quiescePoint_silences {s : State} (hs : s.fld Fld.PWR_STATE.STATE = 4) (hq : s.drainBows.quiet = true) (hp : s.pwr.sysPending = false)
    (hr : s.pwr.reversing = false) (ht : s.fld Fld.PWR_STATE.TARGET = 3) (hw : s.pwr.waits = []) : Does .quiescePoint s fun t =>
      t.fld Fld.PWR_STATE.STATE = 3 ∧ t.pwr.fast = .gated ∧ t.sc.lines = [] := by
  have hx := exec_quiescePoint hs hq
  rw [drainBows_pwr, if_neg (by simp [hp]), if_neg (by simp [hr]), drainBows_target, if_pos ht] at hx
  obtain ⟨hgated, hkept⟩ := gateFast_gates s.drainBows.destageOff
  rw [destageOff_pwr, drainBows_pwr, hw] at hkept
  have hlines := gateFast_lines s.drainBows.destageOff
  generalize s.drainBows.destageOff.gateFast = v at hx hgated hkept hlines
  obtain ⟨hsc, hfast, hwaits⟩ := silenced_parts v
  rw [hgated] at hfast
  rw [hkept] at hwaits
  rw [← hsc] at hlines
  generalize v.silenced = u at hx hlines hwaits hfast
  obtain ⟨hst, -, hf, -⟩ := settleNext_alone hwaits 3
  exact ⟨_, hx, hst, hf.trans hfast, (congrArg Sc.lines (settleNext_only hwaits 3 .sc rfl)).trans hlines⟩

theorem quiescePoint_reverses {s : State} (hs : s.fld Fld.PWR_STATE.STATE = 4) (hq : s.quiet = true) (hp : s.pwr.sysPending = false)
    (hr : s.pwr.reversing = true) (hl : s.pwr.lastOp ≤ 1) (hw : s.pwr.waits = []) : Does .quiescePoint s fun t =>
      t.fld Fld.PWR_STATE.STATE = s.pwr.lastOp ∧ t.pwr.fast = s.pwr.fast ∧ t.pwr.reversing = false := by
  have hd : s.drainBows = s := drainBows_idle (by simp [hr])
  have hx := exec_quiescePoint hs (by rw [hd, hq])
  rw [hd, if_neg (by simp [hp]), if_pos hr] at hx
  obtain ⟨hst, -, hf, hrev, -⟩ := settleNext_alone (s := s.destageOff) hw s.pwr.lastOp
  exact ⟨_, hx, hst.trans (Nat.mod_eq_of_lt (by omega)), hf, hrev⟩

theorem quiescePoint_resets {s : State} (hs : s.fld Fld.PWR_STATE.STATE = 4) (hq : s.drainBows.quiet = true)
    (hp : s.drainBows.pwr.sysPending = true) (hreplay : s.bit Fld.HFE_STATUS.REPLAY_PENDING = true) : Does .quiescePoint s fun t =>
      t.pwr.fast = .inReset ∧ t.bit Fld.PWR_RESET_INFO.SYS_PIN = true ∧ t.fld Fld.PWR_STATE.STATE = 0 := by
  have hx := exec_quiescePoint hs hq
  have hstill : (s.drainBows.destageOff.settle s.drainBows.pwr.lastOp).bit Fld.HFE_STATUS.REPLAY_PENDING = true :=
    ((kept_State_settle _ _).bit _ (by decide)).trans (((drainBows_kept s).bit _ (by decide)).trans hreplay)
  rw [if_pos hp, if_neg (by rw [dumpNeeded_replay hstill]; decide)] at hx
  generalize s.drainBows.destageOff.settle s.drainBows.pwr.lastOp = u at hx
  obtain ⟨hpwr, hpin, hst⟩ := sysReset_shows u
  exact ⟨_, hx, by rw [hpwr, fastReset_fast], hpin, hst⟩

/-! ### Wakes (R29, R430) -/

section
variable {s : State}

theorem wakeUp_mains (h : s.acFail = true) : s.wakeUp = s := if_pos h

theorem wakeUp_reverses (hac : s.acFail = false) (hs : s.fld Fld.PWR_STATE.STATE = 4) :
    s.wakeUp = { s with pwr := { s.pwr with reversing := true } } := by
  unfold State.wakeUp
  simp only
  rw [if_neg (by simp [hac]), if_pos hs]

theorem wakeUp_awake (hs : s.fld Fld.PWR_STATE.STATE ≠ 4) (hf : s.pwr.fast ≠ .retained) (hg : s.pwr.fast ≠ .gated) : s.wakeUp = s := by
  unfold State.wakeUp
  simp only
  split
  · rfl
  · exact if_neg (by simp [hf, hg])

theorem wakeUp_elsewhere (hs : s.fld Fld.PWR_STATE.STATE ≠ 4 ∧ s.fld Fld.PWR_STATE.STATE ≠ 2 ∧ s.fld Fld.PWR_STATE.STATE ≠ 3) : s.wakeUp = s := by
  obtain ⟨h4, h2, h3⟩ := hs
  unfold State.wakeUp
  simp only
  split
  · rfl
  · split
    · exact if_neg (by simp [h2, h3])
    · rfl

theorem wakeUp_exits (hac : s.acFail = false) (hf : s.pwr.fast = .retained ∨ s.pwr.fast = .gated)
    {st : Nat} (hst : s.fld Fld.PWR_STATE.STATE = st) (h23 : st = 2 ∨ st = 3) :
    s.wakeUp.fld Fld.PWR_STATE.STATE = 5 ∧ s.wakeUp.fld Fld.PWR_STATE.TARGET = st := by
  have hw : s.wakeUp = (s.setFld Fld.PWR_STATE.STATE 5).setFld Fld.PWR_STATE.TARGET st := by
    unfold State.wakeUp
    simp only
    rw [if_neg (by simp [hac]), if_neg (by omega), if_pos (by simpa using hf), hst, if_pos h23]
  rw [hw]
  exact ⟨(State.fld_setFld_ne _ _ _ _ (by decide)).trans (State.fld_setFld_same ..),
    (State.fld_setFld_same ..).trans (Nat.mod_eq_of_lt (show st < 8 by omega))⟩

theorem exec_wake : exec .wake s = .next s.wakeUp := rfl

theorem exec_hostLinkL12Exit {hp : HostPort} (h : execHostLinkL12Exit.hostPortEnabled s hp = true) : exec (.hostLinkL12Exit hp) s = .next s.wakeUp :=
  if_pos h

theorem exec_hostLinkL12Exit_off {hp : HostPort} (h : execHostLinkL12Exit.hostPortEnabled s hp = false) : exec (.hostLinkL12Exit hp) s = .next s :=
  if_neg (by simp [h])

end

/-! ### The end of an exit (R427, R430, R431) -/

/-- The restart of gated fast domains after their registers and ports were reset. -/
def State.regated (u : State) (pend : Bool) : State :=
  let s := { u with pwr := { u.pwr with fast := .running, saved := false, plls := u.pwr.plls % 2 + 254 } }
  let s := (List.finRange 48).foldl (fun (st : State) p => st.spinupPort p) s
  (s.setBit Fld.HFE_STATUS.REPLAY_PENDING pend).startMetering.recomputeLimit.startKat

theorem restart_gated {s : State} (h : s.pwr.fast = .gated) :
    s.restart = ((s.resetRegs fastServed).portsReset s.regs).regated (s.bit Fld.HFE_STATUS.REPLAY_PENDING) := by
  unfold State.restart State.regated
  rw [if_pos (by rw [h]; rfl)]

theorem restart_retained {s : State} (h : s.pwr.fast ≠ .gated) : s.restart =
    { s with pwr := { s.pwr with fast := .running, plls := s.pwr.plls % 16 + 240 }, lat := { s.lat with refillAt := s.now } } := by
  unfold State.restart
  rw [if_neg (by simpa using h)]

theorem regated_pwr (u : State) (pend : Bool) :
    (u.regated pend).pwr = { u.pwr with fast := .running, saved := false, plls := u.pwr.plls % 2 + 254 } := by
  unfold State.regated
  extract_lets pw b c
  have hc : c.pwr = b.pwr :=
    List.foldlRecOn (motive := fun t : State => t.pwr = b.pwr) _ _ rfl fun t ht p _ => ((only_State_spinupPort t p).pwr rfl).trans ht
  clear_value c
  rw [(only_State_startKat _).pwr rfl, (only_State_recomputeLimit _).pwr rfl, (only_State_startMetering _).pwr rfl, State.setBit_pwr, hc]

theorem regated_replay (u : State) (pend : Bool) : (u.regated pend).bit Fld.HFE_STATUS.REPLAY_PENDING = pend := by
  unfold State.regated
  extract_lets pw b c
  clear_value c
  rw [(kept_State_startKat _).bit _ (by decide), (kept_State_recomputeLimit _).bit _ (by decide), (kept_State_startMetering _).bit _ (by decide),
    State.bit_setBit_same _ _ _ rfl]

/-- What the restart leaves of the power state and of a replay that is due. -/
theorem restart_shows (s : State) : s.restart.pwr.fast = .running ∧ s.restart.pwr.waits = s.pwr.waits ∧
    s.restart.pwr.sysPending = s.pwr.sysPending ∧ s.restart.bit Fld.HFE_STATUS.REPLAY_PENDING = s.bit Fld.HFE_STATUS.REPLAY_PENDING := by
  by_cases h : s.pwr.fast = .gated
  · rw [restart_gated h, regated_pwr, regated_replay, (only_State_portsReset _ _).pwr rfl, (only_State_resetRegs _ _).pwr rfl]
    exact ⟨rfl, rfl, rfl, rfl⟩
  · rw [restart_retained h]
    exact ⟨rfl, rfl, rfl, congrArg (decide <| · ≠ 0) (State.fld_of_regs _ _ _ rfl)⟩

/-- The state whose fast domains run again, and whose renewals count from now. -/
def State.restarted (s : State) : State := { s.restart with capo := { s.restart.capo with renewAt := s.restart.now } }

theorem restarted_shows (s : State) : s.restarted.pwr = s.restart.pwr ∧ s.restarted.capo.renewAt = s.now ∧
    s.restarted.bit Fld.HFE_STATUS.REPLAY_PENDING = s.restart.bit Fld.HFE_STATUS.REPLAY_PENDING :=
  ⟨rfl, only_State_restart s .now rfl, rfl⟩

theorem wakeTo_eq (s : State) (st : Nat) : s.wakeTo st = s.restarted.settleNext st := rfl

theorem exec_exitComplete_idle {s : State} (h : s.fld Fld.PWR_STATE.STATE ≠ 5 ∨ s.fastLocked = false ∨ s.pwr.railsOk = false) :
    exec .exitComplete s = .next s := if_pos h

theorem exec_exitComplete {s : State} (hs : s.fld Fld.PWR_STATE.STATE = 5) (hl : s.fastLocked = true) (hr : s.pwr.railsOk = true) :
    exec .exitComplete s = if (s.wakeTo s.pwr.lastOp).pwr.sysPending = true then
      if (s.wakeTo s.pwr.lastOp).dumpNeeded = true then .next (((s.wakeTo s.pwr.lastOp).hold .sysReset).dumpFor .sysReset)
      else .next (s.wakeTo s.pwr.lastOp).sysReset
    else .next (s.wakeTo s.pwr.lastOp) :=
  if_neg (by simp [hs, hl, hr])

theorem wakeTo_shows {s : State} (hw : s.pwr.waits = []) (st : Nat) : (s.wakeTo st).fld Fld.PWR_STATE.STATE = st % 8 ∧
    (s.wakeTo st).pwr.fast = .running ∧ (s.wakeTo st).capo.renewAt = s.now ∧ (s.wakeTo st).pwr.sysPending = s.pwr.sysPending ∧
    (s.wakeTo st).bit Fld.HFE_STATUS.REPLAY_PENDING = s.bit Fld.HFE_STATUS.REPLAY_PENDING := by
  obtain ⟨hfast, hwaits, hpend, hreplay⟩ := restart_shows s
  obtain ⟨hpwr, hrenew, hsame⟩ := restarted_shows s
  rw [wakeTo_eq]
  rw [← hpwr] at hfast hwaits hpend
  rw [hreplay] at hsame
  generalize s.restarted = u at hfast hwaits hpend hrenew hsame ⊢
  obtain ⟨hst, -, hf, -, -, hp⟩ := settleNext_alone (hwaits.trans hw) st
  exact ⟨hst, hf.trans hfast, (congrArg Capo.renewAt (settleNext_only (hwaits.trans hw) st .capo rfl)).trans hrenew, hp.trans hpend,
    ((kept_State_settleNext u st).bit _ (by decide)).trans hsame⟩

theorem exitComplete_completes {s : State} (hs : s.fld Fld.PWR_STATE.STATE = 5) (hl : s.fastLocked = true) (hr : s.pwr.railsOk = true)
    (hp : s.pwr.sysPending = false) (hw : s.pwr.waits = []) (hop : s.pwr.lastOp ≤ 1) : Does .exitComplete s fun t =>
      t.fld Fld.PWR_STATE.STATE = s.pwr.lastOp ∧ t.pwr.fast = .running ∧ t.capo.renewAt = s.now := by
  have hx := exec_exitComplete hs hl hr
  obtain ⟨hst, hfast, hrenew, hpend, -⟩ := wakeTo_shows hw s.pwr.lastOp
  generalize s.wakeTo s.pwr.lastOp = u at hx hst hfast hrenew hpend
  exact ⟨u, hx.trans (if_neg (by simp [hpend, hp])), hst.trans (Nat.mod_eq_of_lt (by omega)), hfast, hrenew⟩

theorem exitComplete_resets {s : State} (hs : s.fld Fld.PWR_STATE.STATE = 5) (hl : s.fastLocked = true) (hr : s.pwr.railsOk = true)
    (hp : s.pwr.sysPending = true) (hw : s.pwr.waits = []) (hreplay : s.bit Fld.HFE_STATUS.REPLAY_PENDING = true) : Does .exitComplete s fun t =>
      t.pwr.fast = .inReset ∧ t.bit Fld.PWR_RESET_INFO.SYS_PIN = true ∧ t.fld Fld.PWR_STATE.STATE = 0 := by
  have hx := exec_exitComplete hs hl hr
  obtain ⟨-, -, -, hpend, hstill⟩ := wakeTo_shows hw s.pwr.lastOp
  generalize s.wakeTo s.pwr.lastOp = u at hx hpend hstill
  rw [if_pos (hpend.trans hp), if_neg (by rw [dumpNeeded_replay (hstill.trans hreplay)]; decide)] at hx
  obtain ⟨hpwr, hpin, hst⟩ := sysReset_shows u
  exact ⟨_, hx, by rw [hpwr, fastReset_fast], hpin, hst⟩

/-! ### Entries that an idle device begins (R114, R141) -/

/-- Whether a function's idle time begins an entry. -/
def State.apstGoes (s : State) (fn : FnIdx) : Prop :=
  (tget (s.fn fn).feats 0x0C).getD 0 % 2 = 1 ∧ (s.apstEntry fn).2 ≠ 0 ∧ 2 ≤ (s.apstEntry fn).1 ∧ (s.apstEntry fn).1 ≤ 3 ∧
  s.fld Fld.PWR_STATE.STATE ≤ 1 ∧ s.pwr.psRun = none ∧ s.pwr.fast = .running ∧ s.bit Fld.PWR_STATE.BOOTING = false ∧ s.acFail = false ∧
  s.entryAllowed = true

theorem apstGoes_iff (s : State) (fn : FnIdx) : ((tget (s.fn fn).feats 0x0C).getD 0 % 2 == 1 && decide ((s.apstEntry fn).2 ≠ 0) &&
    decide (2 ≤ (s.apstEntry fn).1) && decide ((s.apstEntry fn).1 ≤ 3) && decide (s.fld Fld.PWR_STATE.STATE ≤ 1) && s.pwr.psRun.isNone &&
    (s.pwr.fast == .running) && !s.bit Fld.PWR_STATE.BOOTING && !s.acFail && s.entryAllowed) = true ↔ s.apstGoes fn := by
  simp only [State.apstGoes, Bool.and_eq_true, beq_iff_eq, decide_eq_true_eq, Option.isNone_iff_eq_none, Bool.not_eq_true', and_assoc]

section
variable {s : State} {fn : FnIdx}

theorem exec_apstTransition (h : s.apstGoes fn) : exec (.apstTransition fn) s = .next (s.beginEntry (s.apstEntry fn).1) :=
  if_pos ((apstGoes_iff s fn).mpr h)

theorem exec_apstTransition_idle (h : ¬ s.apstGoes fn) : exec (.apstTransition fn) s = .next s :=
  if_neg (fun hc => h ((apstGoes_iff s fn).mp hc))

theorem not_apstGoes (h : (s.apstEntry fn).2 = 0 ∨ (s.apstEntry fn).1 < 2 ∨ 3 < (s.apstEntry fn).1 ∨
    (tget (s.fn fn).feats 0x0C).getD 0 % 2 ≠ 1 ∨ 1 < s.fld Fld.PWR_STATE.STATE ∨ s.pwr.psRun.isSome = true ∨ s.pwr.fast ≠ .running ∨
    s.bit Fld.PWR_STATE.BOOTING = true ∨ s.acFail = true ∨ s.entryAllowed = false) : ¬ s.apstGoes fn := by
  rintro ⟨hfeat, h0, h2, h3, hst, hrun, hf, hb, hac, ha⟩
  rcases h with h | h | h | h | h | h | h | h | h | h
  · exact h0 h
  · exact absurd h2 (Nat.not_le.mpr h)
  · exact absurd h3 (Nat.not_le.mpr h)
  · exact h hfeat
  · exact absurd hst (Nat.not_le.mpr h)
  · rw [hrun] at h
    cases h
  · exact h hf
  · rw [hb] at h
    cases h
  · rw [hac] at h
    cases h
  · rw [ha] at h
    cases h

theorem beginEntry_begins (s : State) {n : Nat} (h : n < 8) : (s.beginEntry n).fld Fld.PWR_STATE.STATE = 4 ∧
    (s.beginEntry n).fld Fld.PWR_STATE.TARGET = n ∧ (s.beginEntry n).pwr.holds.contains .powerEntry = true := by
  have hheld : (s.hold .powerEntry).pwr.holds.contains .powerEntry = true := List.contains_iff_mem.mpr (mem_hold_holds s .powerEntry)
  have hpwr : (s.beginEntry n).pwr = (s.hold .powerEntry).pwr := rfl
  have hregs : (s.beginEntry n).regs = (((s.hold .powerEntry).setFld Fld.PWR_STATE.STATE 4).setFld Fld.PWR_STATE.TARGET n).regs := rfl
  rw [hpwr, State.fld_of_regs _ _ _ hregs, State.fld_of_regs _ _ _ hregs]
  exact ⟨(State.fld_setFld_ne _ _ _ _ (by decide)).trans (State.fld_setFld_same ..), (State.fld_setFld_same ..).trans (Nat.mod_eq_of_lt h), hheld⟩

/-! ### Aging and eMRAM (R463, R474, R490, R491) -/

/-- The equivalent seconds counted, and what of a second is left. -/
def State.aged (s : State) : State :=
  let us := s.age.micro + Config.agingFactorPpm s.tjDeci (s.fld Fld.PWR_AVS.STEP)
  let s := s.incFld Fld.AGE_EQUIV_S (us / 1000000)
  let b := tjBand s.tjDeci
  let n := (tget s.age.bandSec b).getD 0 + 1
  let s := { s with age := { s.age with micro := us % 1000000, bandSec := tput s.age.bandSec b (n % 3600) } }
  if n = 3600 then s.satFld (Fld.AGE_TJ_HIST.at b) 1 else s

/-- The share of the life that is used. -/
def State.lifeShown (s : State) : State := s.setFld Fld.AGE_LIFE.PCT_X100 (min 65535 (s.fld Fld.AGE_EQUIV_S * 10000 / (350640 * 3600)))

theorem aged_shows (s : State) {us : Nat} (h : us = s.age.micro + Config.agingFactorPpm s.tjDeci (s.fld Fld.PWR_AVS.STEP)) :
    s.aged.fld Fld.AGE_EQUIV_S = (s.fld Fld.AGE_EQUIV_S + us / 1000000) % 2 ^ 64 ∧ s.aged.age.micro = us % 1000000 := by
  subst h
  unfold State.aged
  extract_lets us a b n ag c
  have hc : c.fld Fld.AGE_EQUIV_S = (s.fld Fld.AGE_EQUIV_S + us / 1000000) % 2 ^ 64 ∧ c.age.micro = us % 1000000 := ⟨fld_incFld_same .., rfl⟩
  clear_value c
  split
  · exact ⟨((Kept.satFldAt (l := [Fld.AGE_TJ_HIST]) rfl Kept.refl).fld _ (by decide)).trans hc.1, hc.2⟩
  · exact hc

theorem exec_agingWriteback : exec .agingWriteback s = .next s.saveCounters := rfl

theorem saveCounters_saved (s : State) : s.saveCounters.age.saved = madeFields.foldl (fun x f => tput x f.key (s.fld f)) [] := by
  simp only [State.saveCounters]

theorem exec_emramRefresh : exec .emramRefresh s = .next { s with age := { s.age with refreshed := s.now } } := rfl

theorem exec_ageAccumulate_off (h : s.fingerboardOn = false) : exec .ageAccumulate s = .next s := if_pos (by simp [h])

theorem ageAccumulate_ages (hon : s.fingerboardOn = true) {us : Nat}
    (h : us = s.age.micro + Config.agingFactorPpm s.tjDeci (s.fld Fld.PWR_AVS.STEP)) : Does .ageAccumulate s fun t =>
      t.fld Fld.AGE_EQUIV_S = (s.fld Fld.AGE_EQUIV_S + us / 1000000) % 2 ^ 64 ∧ t.age.micro = us % 1000000 := by
  have hx : ∃ pct, exec .ageAccumulate s = if 8000 ≤ pct ∧ ¬ s.aged.lifeShown.bit Fld.AGE_STATUS.LIFE_WARN = true then
      .next ((s.aged.lifeShown.setBit Fld.AGE_STATUS.LIFE_WARN true).emit .lifeWarn [pct]) else .next s.aged.lifeShown :=
    ⟨_, if_neg (by simp [hon])⟩
  have hs := aged_shows s h
  obtain ⟨pct, hx⟩ := hx
  have hl : s.aged.lifeShown.fld Fld.AGE_EQUIV_S = s.aged.fld Fld.AGE_EQUIV_S ∧ s.aged.lifeShown.age = s.aged.age :=
    ⟨State.fld_setFld_ne _ _ _ _ (by decide), rfl⟩
  rw [← hl.1, ← hl.2] at hs
  generalize s.aged.lifeShown = u at hx hs
  by_cases hc : 8000 ≤ pct ∧ ¬ u.bit Fld.AGE_STATUS.LIFE_WARN = true
  · exact ⟨_, hx.trans (if_pos hc), (State.fld_setBit_ne _ _ _ _ (by decide)).trans hs.1, hs.2⟩
  · exact ⟨_, hx.trans (if_neg hc), hs⟩

/-- The slowdown shown with the steps it asks for. -/
def State.slowSeen (s : State) (slow : Nat) : State := (s.setFld Fld.AGE_RO_SLOW.SLOW_X100 slow).avsSteps slow

theorem exec_roMeasure {slow : Nat} : exec (.roMeasure slow) s =
    if 16 ≤ slow / 50 ∧ ¬ (s.slowSeen slow).bit Fld.AGE_STATUS.MARGIN_OUT = true then
      .next (((s.slowSeen slow).setBit Fld.AGE_STATUS.MARGIN_OUT true).emit .marginOut [slow])
    else .next (s.slowSeen slow) := rfl

theorem avsSteps_aging (s : State) (slow : Nat) : (s.avsSteps slow).fld Fld.AGE_AVS_STEPS.AGING = min 31 (slow / 50) := by
  unfold State.avsSteps
  simp only
  rw [(kept_State_showClock _).fld _ (by decide), State.fld_setFld_ne _ _ _ _ (by decide), State.fld_setFld_ne _ _ _ _ (by decide),
    State.fld_setFld_ne _ _ _ _ (by decide), State.fld_setFld_same]
  exact Nat.mod_eq_of_lt (Nat.lt_of_le_of_lt (Nat.min_le_left ..) (by decide))

theorem slowSeen_shows (s : State) (slow : Nat) : (s.slowSeen slow).fld Fld.AGE_RO_SLOW.SLOW_X100 = slow % 65536 ∧
    (s.slowSeen slow).fld Fld.AGE_AVS_STEPS.AGING = min 31 (slow / 50) ∧
    (s.slowSeen slow).bit Fld.AGE_STATUS.MARGIN_OUT = s.bit Fld.AGE_STATUS.MARGIN_OUT ∧ (s.slowSeen slow).evr = s.evr :=
  ⟨((kept_State_avsSteps _ slow).fld _ (by decide)).trans (State.fld_setFld_same ..), avsSteps_aging _ slow,
    ((kept_State_avsSteps _ slow).bit _ (by decide)).trans (State.bit_setFld_ne _ _ _ _ (by decide)), only_State_avsSteps _ slow .evr rfl⟩

theorem roMeasure_shows {slow : Nat} (h : s.bit Fld.AGE_STATUS.MARGIN_OUT = false) : Does (.roMeasure slow) s fun t =>
    t.fld Fld.AGE_RO_SLOW.SLOW_X100 = slow % 65536 ∧ t.fld Fld.AGE_AVS_STEPS.AGING = min 31 (slow / 50) ∧
    t.bit Fld.AGE_STATUS.MARGIN_OUT = decide (16 ≤ slow / 50) := by
  obtain ⟨hslow, haging, hout, -⟩ := slowSeen_shows s slow
  have hx := exec_roMeasure (s := s) (slow := slow)
  rw [h] at hout
  generalize s.slowSeen slow = u at hslow haging hout hx
  by_cases hc : 16 ≤ slow / 50
  · refine ⟨_, hx.trans (if_pos ⟨hc, by simp [hout]⟩), (State.fld_setBit_ne _ _ _ _ (by decide)).trans hslow,
      (State.fld_setBit_ne _ _ _ _ (by decide)).trans haging, ?_⟩
    rw [decide_eq_true hc]
    exact State.bit_setBit_same _ _ _ rfl
  · refine ⟨_, hx.trans (if_neg (fun hn => hc hn.1)), hslow, haging, ?_⟩
    rw [decide_eq_false hc, hout]

end

/-- Settles O60: entries and exits by their quiesce points, wakes by the state they find, and aging by what it counts. -/
theorem powerStatesAndAgingTakeEffect : Obligations.PowerStatesAndAgingTakeEffect := by
  refine ⟨?rests, ?silences, ?reverses, ?wakes, ?wakesEntry, ?completes, ?linkWakes, ?apst, ?saved, ?ages, ?slow, ?refreshed, ?notEntering,
    ?notQuiet, ?pendingAtPoint, ?pendingAtExit, ?noExit, ?wakesSilence, ?noWake, ?awake, ?linkOff, ?linkWakesRest, ?linkReverses, ?linkIdle,
    ?apstIdle, ?off, ?slowAgain⟩
  case rests => exact fun s hs hq hp hr ht hw => quiescePoint_rests hs hq hp hr ht hw
  case silences => exact fun s hs hq hp hr ht hw => quiescePoint_silences hs hq hp hr ht hw
  case reverses => exact fun s hs hq hp hr hl hw => quiescePoint_reverses hs hq hp hr hl hw
  case wakes => exact fun s hf hs hac => ⟨_, exec_wake, wakeUp_exits hac (.inl hf) hs (.inl rfl)⟩
  case wakesSilence => exact fun s hf hs hac => ⟨_, exec_wake, wakeUp_exits hac (.inr hf) hs (.inr rfl)⟩
  case wakesEntry => exact fun s hs hac => ⟨_, exec_wake.trans (congrArg _ (wakeUp_reverses hac hs)), rfl, rfl⟩
  case completes => exact fun s hs hl hr hp hw hop => exitComplete_completes hs hl hr hp hw hop
  case linkWakes => exact fun s hp h hf hs hac => ⟨_, exec_hostLinkL12Exit h, wakeUp_exits hac (.inr hf) hs (.inr rfl)⟩
  case linkWakesRest => exact fun s hp h hf hs hac => ⟨_, exec_hostLinkL12Exit h, wakeUp_exits hac (.inl hf) hs (.inl rfl)⟩
  case linkReverses => exact fun s hp h hs hac => ⟨_, (exec_hostLinkL12Exit h).trans (congrArg _ (wakeUp_reverses hac hs)), rfl, rfl⟩
  case linkOff => exact fun s hp h => ⟨s, exec_hostLinkL12Exit_off h, rfl⟩
  case linkIdle =>
    intro s hp h
    have hw : s.wakeUp = s := h.elim wakeUp_mains wakeUp_elsewhere
    cases he : execHostLinkL12Exit.hostPortEnabled s hp with
    | true => exact ⟨s, (exec_hostLinkL12Exit he).trans (congrArg _ hw), rfl⟩
    | false => exact ⟨s, exec_hostLinkL12Exit_off he, rfl⟩
  case apst =>
    rintro s fn _ rfl h0 h23 hfeat hst hrun hf hb hac ha
    have hr : 2 ≤ (s.apstEntry fn).1 ∧ (s.apstEntry fn).1 ≤ 3 := by rcases h23 with h | h <;> rw [h] <;> decide
    exact ⟨_, exec_apstTransition ⟨hfeat, h0, hr.1, hr.2, hst, hrun, hf, hb, hac, ha⟩, beginEntry_begins s (Nat.lt_of_le_of_lt hr.2 (by decide))⟩
  case apstIdle => exact fun s fn h => ⟨s, exec_apstTransition_idle (not_apstGoes h), rfl⟩
  case saved => exact fun s => ⟨_, exec_agingWriteback, saveCounters_saved s, only_State_saveCounters s .regs rfl⟩
  case ages => exact fun s us hon h => ageAccumulate_ages hon h
  case off => exact fun s h => ⟨s, exec_ageAccumulate_off h, rfl⟩
  case slow => exact fun s slow h => roMeasure_shows h
  case slowAgain =>
    intro s slow h
    obtain ⟨hslow, haging, hout, hevr⟩ := slowSeen_shows s slow
    refine ⟨_, exec_roMeasure.trans (if_neg ?_), hslow, haging, hout.trans h, hevr⟩
    rw [hout, h]
    simp
  case refreshed => exact fun s => ⟨_, exec_emramRefresh, rfl, rfl⟩
  case notEntering =>
    intro s h
    have hd : s.drainBows = s := drainBows_idle (fun hc => h hc.1)
    exact ⟨s, (exec_quiescePoint_idle (.inl (by rw [hd]; exact h))).trans (congrArg _ hd), rfl⟩
  case notQuiet => exact fun s _ hq => ⟨_, exec_quiescePoint_idle (.inr hq), rfl⟩
  case pendingAtPoint => exact fun s hs hq hp hreplay => quiescePoint_resets hs hq hp hreplay
  case pendingAtExit => exact fun s hs hl hr hp hw hreplay => exitComplete_resets hs hl hr hp hw hreplay
  case noExit => exact fun s h => ⟨s, exec_exitComplete_idle h, rfl⟩
  case noWake => exact fun s h => ⟨_, exec_wake, h.elim wakeUp_mains wakeUp_elsewhere⟩
  case awake => exact fun s hs hf hg => ⟨_, exec_wake, wakeUp_awake hs hf hg⟩

end Sys2Proof.Machine

/-!
The write gate's closing, which reaches the ports alone, and the errors that are stacked, handled and fatal (O59).
-/
namespace Sys2Proof.Machine

/-! ### The closing of the write gate (R301, R311) -/

/-- A port reset that no time-out asks for charges no command. -/
theorem portResetCmds_none_only (s : State) (p : PortId) : Only [.regs, .hfe, .ports] s (s.portResetCmds p none) := by
  simp only [State.portResetCmds, reduceCtorEq, decide_false, List.filter_false, List.foldl_nil]
  exact Only.step (only_State_unholdTags _) rfl (Only.step (only_State_countSlots _ p) rfl
    (Only.step (only_State_putPort _ p _) rfl (Only.step (only_State_incFld _ _ _) rfl Only.refl)))

theorem escalate_two_only (s : State) (p : PortId) : Only [.regs, .hfe, .ports] s (s.escalate p 2 none) := by
  simp only [State.escalate, OfNat.ofNat_ne_one, Nat.reduceLeDiff, Nat.reduceEqDiff, if_true, if_false]
  exact Only.step (only_State_setPortState _ p 5) rfl (Only.step (only_State_putPort _ p _) rfl
    (Only.step (portResetCmds_none_only _ p) rfl (Only.step (only_State_incFld _ _ _) rfl Only.refl)))

theorem gateAbort_only (s : State) (p : PortId) : Only [.regs, .hfe, .ports] s (s.gateAbort p) := by
  unfold State.gateAbort
  dsimp only
  split
  · exact Only.refl
  · split
    · exact escalate_two_only s p
    · exact Only.step (only_State_unholdTags _) rfl (Only.step (only_State_countSlots _ p) rfl
        (Only.step (only_State_putPort _ p _) rfl (Only.step (only_State_incFld _ _ _) rfl Only.refl)))

/-- A gate that closes ends writes at the ports, and leaves every other part. -/
theorem closeGate_only (s : State) : Only [.regs, .hfe, .ports] s s.closeGate := by
  unfold State.closeGate
  split
  · exact Only.foldl (fun b p hb => Only.step (gateAbort_only b p) rfl hb) (Only.step (only_State_setBit _ _ _) rfl Only.refl)
  · exact Only.refl

/-! ### Recoverable errors (R445, R446) -/

/-- The entry a new error puts on the stack. -/
def State.newEntry (s : State) (e : RecErr) (source : Nat) (fatal : Option Nat) : StackEntry :=
  { err := e, source := source, fatal := fatal, nested := !s.err.stack.isEmpty, pegbox := recCode e == 3, repeats := 0, time := s.pitch,
    eventSeq := s.fld Fld.EVR_NEXT_SEQ + s.evr.arrivals.length, depth := s.err.stack.length + 1, step := 0, tag := none, info := [] }

theorem pushErr_err {s : State} (h : s.err.stack.length < 4) (e : RecErr) (source : Nat) (fatal : Option Nat) :
    (s.pushErr e source fatal).err = { s.err with stack := s.err.stack ++ [s.newEntry e source fatal] } := by
  unfold State.pushErr State.newEntry
  dsimp only
  rw [if_neg (Nat.not_le.mpr h)]
  rfl

theorem pushErr_full {s : State} (h : 4 ≤ s.err.stack.length) (e : RecErr) (source : Nat) (fatal : Option Nat) : s.pushErr e source fatal = s :=
  if_pos h

/-- Whether the stack has an entry of a code and a source that is not fatal. -/
def State.stacked (s : State) (e : RecErr) (source : Nat) : Bool :=
  s.err.stack.any (fun x => recCode x.err == recCode e && x.source == source && x.fatal.isNone)

section
variable {s : State} {e : RecErr} {source : Nat}

theorem exec_recoverableError_new (h : s.stacked e source = false) : exec (.recoverableError e source) s =
    .next (if decide (4 ≤ s.err.stack.length) = true then ((s.pushErr e source none).emit .recoverableError [recCode e, source]).raiseFatal 1
      else (s.pushErr e source none).emit .recoverableError [recCode e, source]) :=
  if_neg (by
    show ¬ s.stacked e source = true
    simp [h])

theorem exec_recoverableError_again (h : s.stacked e source = true) : ∃ f : StackEntry → StackEntry, exec (.recoverableError e source) s =
    .next { s with err := { s.err with stack := s.err.stack.map f } } :=
  ⟨_, if_pos h⟩

theorem recoverableError_pushes (hroom : s.err.stack.length < 4) (h : s.stacked e source = false) : Does (.recoverableError e source) s fun t =>
    t.err.raised = s.err.raised ∧ ∃ x, t.err.stack = s.err.stack ++ [x] ∧ x.err = e ∧ x.source = source ∧ x.depth = s.err.stack.length + 1 := by
  have hx := exec_recoverableError_new h
  have herr : ((s.pushErr e source none).emit .recoverableError [recCode e, source]).err =
      { s.err with stack := s.err.stack ++ [s.newEntry e source none] } := pushErr_err hroom e source none
  rw [if_neg (by simpa using hroom)] at hx
  generalize (s.pushErr e source none).emit .recoverableError [recCode e, source] = u at hx herr
  exact ⟨_, hx, (congrArg Err.raised herr).trans rfl, s.newEntry e source none, (congrArg Err.stack herr).trans rfl, rfl, rfl, rfl⟩

theorem recoverableError_overflows (hfull : 4 ≤ s.err.stack.length) (h : s.stacked e source = false) : Does (.recoverableError e source) s fun t =>
    t.err.stack = s.err.stack ∧ t.err.raised = s.err.raised ++ [1] := by
  have hx := exec_recoverableError_new h
  rw [if_pos (by simpa using hfull), pushErr_full hfull] at hx
  exact ⟨_, hx, rfl, rfl⟩

theorem recoverableError_repeats (h : s.stacked e source = true) : Does (.recoverableError e source) s fun t =>
    t.err.stack.length = s.err.stack.length ∧ t.err.raised = s.err.raised ∧ t.regs = s.regs := by
  obtain ⟨f, hx⟩ := exec_recoverableError_again h
  exact ⟨_, hx, List.length_map .., rfl, rfl⟩

end

/-! ### The end of a handler (R445, R447) -/

theorem handled_stack (s : State) (x : StackEntry) (ok : Bool) : (s.handled x ok).err.stack = s.err.stack := by
  unfold State.handled
  split
  · rfl
  · rfl
  · rw [only_State_loseDirty _ _ _ .err rfl]
  · split
    · split
      · rfl
      · rw [only_State_collect _ _ _ _ .err rfl]
    · rfl
  · split <;> rfl
  next i _ =>
    have slice (f' f : Nat) (u : State) (h : u.err.stack = s.err.stack) :
        (if f' = 0xF ∧ f ≠ 0xF then (u.setFld Fld.PQE_STATUS.SLICE_FAILED f').raiseFatal 3
          else u.setFld Fld.PQE_STATUS.SLICE_FAILED f').err.stack = s.err.stack := by
      split <;> exact h
    exact slice _ _ _ (by split <;> rfl)

/-- The state whose newest entry has gone, counted as recovered. -/
def State.recovered (s : State) : State :=
  ({ s with err := { s.err with stack := s.err.stack.dropLast } } : State).incFld Fld.ERR_RECOVERED 1

section
variable {s : State} {l : List StackEntry} {x : StackEntry} {ok : Bool}

theorem exec_handlerEnd_idle {index : Nat} (h : s.err.stack.length ≤ index ∨ index + 1 ≠ s.err.stack.length ∨ s.err.active.isSome = true) :
    exec (.handlerEnd index ok) s = .next s := by
  simp only [exec, execHandlerEnd]
  split
  · rfl
  next y hy =>
    have hlt : index < s.err.stack.length := (List.getElem?_eq_some_iff.mp hy).1
    exact if_pos (h.resolve_left (Nat.not_le.mpr hlt))

theorem exec_handlerEnd_top (hs : s.err.stack = l ++ [x]) (ha : s.err.active = none) : exec (.handlerEnd l.length ok) s =
    if recCode x.err = 3 ∧ ok = false then .next (s.handled x ok) else .next (s.recovered.handled x ok) := by
  have hget : s.err.stack[l.length]? = some x := by simp [hs]
  unfold State.recovered
  simp only [exec, execHandlerEnd, hget]
  exact if_neg (by simp [hs, ha])

theorem handlerEnd_recovers (hs : s.err.stack = l ++ [x]) (ha : s.err.active = none) (h : recCode x.err ≠ 3 ∨ ok = true) :
    Does (.handlerEnd l.length ok) s fun t => t.err.stack = l ∧ t.fld Fld.ERR_RECOVERED = (s.fld Fld.ERR_RECOVERED + 1) % 2 ^ 64 := by
  refine ⟨_, (exec_handlerEnd_top hs ha).trans (if_neg (by rcases h with h | h <;> simp [h])), ?_, ?_⟩
  · rw [handled_stack]
    show s.err.stack.dropLast = l
    rw [hs, List.dropLast_concat]
  · exact ((kept_State_handled _ x ok).fld _ (by decide)).trans (fld_incFld_same ..)

theorem handlerEnd_fails (hs : s.err.stack = l ++ [x]) (ha : s.err.active = none) (h : x.err = .emramLate) :
    Does (.handlerEnd l.length false) s fun t => t.err.raised = s.err.raised ++ [6] ∧ t.err.stack = s.err.stack ∧ t.regs = s.regs := by
  have hh : s.handled x false = s.raiseFatal 6 := by simp only [State.handled, h, Bool.false_eq_true, if_false]
  refine ⟨_, (exec_handlerEnd_top hs ha).trans (if_pos ⟨by rw [h]; rfl, rfl⟩), ?_⟩
  beta_reduce
  rw [hh]
  exact ⟨rfl, rfl, rfl⟩

theorem exec_handlerTimeout {index : Nat} : exec (.handlerTimeout index) s =
    if index < s.err.stack.length then .next (s.raiseFatal 2) else .next s := rfl

end

/-! ### The stop of a fatal error (R450) -/

/-- A paired device's claim given up for a fatal error. -/
def State.fatalReleased (s : State) : State :=
  let s := (({ s with capo := { s.capo with releaseCause := 3 } } : State).setRole 4).sendHealth
  ({ s with capo := { s.capo with request := false, released := true, backoff := false } } : State).driveCapo

/-- Every function shows CFS. -/
def State.cfsShown (s : State) : State :=
  { s with hfe := { s.hfe with fns := s.hfe.fns.map (fun (f : Nat × FnSt) => (f.1, { f.2 with cfs := true })) } }

theorem fatalStop_eq (s : State) : s.fatalStop =
    (if (s.hold .fatal).closeGate.paired = true then (s.hold .fatal).closeGate.fatalReleased else (s.hold .fatal).closeGate).cfsShown.dmaDropAll := by
  unfold State.fatalStop State.fatalReleased State.cfsShown
  rfl

theorem fatalReleased_only (s : State) : Only [.regs, .capo] s s.fatalReleased := by
  unfold State.fatalReleased
  have hcapo : ∀ (u : State) (c : Capo), Only [.regs, .capo] u { u with capo := c } := fun u c p hp => by
    cases p <;> first | rfl | cases hp
  exact Only.step (only_State_driveCapo _) rfl (Only.step (hcapo _ _) rfl (Only.step (only_State_sendHealth _) rfl
    (Only.step (only_State_setRole _ _) rfl (hcapo _ _))))

theorem cfsShown_only (s : State) : Only [.hfe] s s.cfsShown := fun p hp => by cases p <;> first | rfl | cases hp

/-- The stop of a fatal error reaches fetch, the ports, the pair, the functions and the DMA channels. -/
theorem fatalStop_only (s : State) : Only [.freeIx, .regs, .pwr, .hfe, .ports, .capo, .sc, .dma] s s.fatalStop := by
  have hgate : Only [.freeIx, .regs, .pwr, .hfe, .ports, .capo, .sc, .dma] s (s.hold .fatal).closeGate :=
    Only.step (closeGate_only _) rfl (Only.step (only_State_hold s _) rfl Only.refl)
  rw [fatalStop_eq]
  refine Only.step (only_State_dmaDropAll _) rfl (Only.step (cfsShown_only _) rfl ?_)
  split
  · exact Only.step (fatalReleased_only _) rfl hgate
  · exact hgate

/-! ### The count and the start of a fatal error (R446, R449, R450) -/

/-- A dropped channel leaves every other channel's descriptor. -/
theorem dmaDrop_runs (s : State) (m n : Nat) (h : n ≠ m) : tget (s.dmaDrop m).dma.runs n = tget s.dma.runs n := by
  unfold State.dmaDrop
  dsimp only
  refine (tget_tdel_ne _ _ _ h).trans ?_
  split
  · rfl
  · split
    · rfl
    · exact congrArg (fun d : Dma => tget d.runs n) (only_State_dmaLoose _ _ _ _ .dma rfl)

theorem dmaDropAll_drops (s : State) {n : Nat} (h : n < 256) : tget s.dmaDropAll.dma.runs n = none := by
  have keeps (l : List Nat) : ∀ u : State, tget u.dma.runs n = none → tget (l.foldl (fun (st : State) m => st.dmaDrop m) u).dma.runs n = none := by
    induction l with
    | nil => exact fun u h => h
    | cons m l ih =>
      refine fun u h => ih _ ?_
      by_cases e : n = m
      · exact e ▸ (dmaDrop_drops u m).2.2.2
      · exact (dmaDrop_runs u m n e).trans h
  have drops (l : List Nat) : ∀ u : State, n ∈ l → tget (l.foldl (fun (st : State) m => st.dmaDrop m) u).dma.runs n = none := by
    induction l with
    | nil => exact fun u h => absurd h List.not_mem_nil
    | cons m l ih =>
      intro u h
      rcases List.mem_cons.mp h with rfl | h
      · exact keeps l _ (dmaDrop_drops u n).2.2.2
      · exact ih _ h
  exact drops _ s (List.mem_range.mpr h)

/-- What a fatal error counts and shows before anything else. -/
def State.fatalCounted (s : State) (cause : Nat) : State :=
  let s := { s with err := { s.err with raised := s.err.raised.erase cause, times := s.err.times ++ [s.now] } }
  ((s.satFld Fld.ERR_FATAL_COUNT 1).setFld Fld.ERR_STATUS.LAST_CAUSE cause).emit .fatalError [cause]

/-- Steps 1 to 4 of a fatal error. -/
def State.fatalBegun (s : State) (cause : Nat) : State :=
  (({ s with err := { s.err with active := some cause } } : State).fatalStop).writeSoundpost 1

/-- Step 5 or step 6 of a fatal error. -/
def State.fatalOutcome (u : State) (cause : Nat) : Out State :=
  if cause = 8 then .next (u.abandonDump.afterDump .fatal none)
  else if u.wc.dumpArea.isSome then .next { u with wc := { u.wc with dumpWhy := some .fatal } }
  else if u.acFail ∨ u.dumpNeeded = false then .next (u.afterDump .fatal none)
  else .next (u.dumpFor .fatal)

/-- What a counted fatal error does: noted during another one, otherwise the stop and its outcome. -/
def State.fatalStep (u : State) (cause : Nat) : Out State :=
  if u.err.active.isSome then .next { u with evr := u.evr.addFatal (u.fld Fld.SP_LAST_SEQ) cause }
  else (u.fatalBegun cause).fatalOutcome cause

section
variable {s : State} {cause : Nat}

theorem exec_fatalError_step (h1 : 1 ≤ cause) (h8 : cause ≤ 8) : exec (.fatalError cause) s = (s.fatalCounted cause).fatalStep cause := by
  show execFatalError cause s = _
  unfold execFatalError
  rw [if_neg (by omega)]
  extract_lets e u v w x y z
  have hv : s.fatalCounted cause = v := rfl
  have hy : v.fatalBegun cause = y := rfl
  rw [hv, State.fatalStep, hy]
  clear_value y v
  rfl

theorem exec_fatalError_again (h1 : 1 ≤ cause) (h8 : cause ≤ 8) (ha : s.err.active.isSome = true) : exec (.fatalError cause) s =
    .next { s.fatalCounted cause with evr := (s.fatalCounted cause).evr.addFatal ((s.fatalCounted cause).fld Fld.SP_LAST_SEQ) cause } :=
  (exec_fatalError_step h1 h8).trans (if_pos ha)

theorem exec_fatalError (h1 : 1 ≤ cause) (h8 : cause ≤ 8) (ha : s.err.active = none) : exec (.fatalError cause) s =
    ((s.fatalCounted cause).fatalBegun cause).fatalOutcome cause :=
  (exec_fatalError_step h1 h8).trans (if_neg (by
    show ¬ s.err.active.isSome = true
    simp [ha]))

theorem fatalCounted_count : (s.fatalCounted cause).fld Fld.ERR_FATAL_COUNT = min (s.fld Fld.ERR_FATAL_COUNT + 1) (2 ^ 32 - 1) :=
  (State.fld_setFld_ne _ _ _ _ (by decide)).trans (fld_satFld_same ..)

theorem fatalCounted_cause (h8 : cause ≤ 8) : (s.fatalCounted cause).fld Fld.ERR_STATUS.LAST_CAUSE = cause :=
  (State.fld_setFld_same ..).trans (Nat.mod_eq_of_lt (lt_of_le_of_lt h8 (by decide)))

theorem kept_fatalCounted : Kept [Fld.ERR_FATAL_COUNT, Fld.ERR_STATUS.LAST_CAUSE] s (s.fatalCounted cause) :=
  Kept.setFld rfl (Kept.setFld rfl Kept.refl)

/-- What a dump's start and a fatal error's end look at. -/
def dumpFields : List Field := areaFields ++ [Fld.NRG_STATUS.AC_FAIL, Fld.HFE_STATUS.REPLAY_PENDING, Fld.VLT_DUMP_SEQ]

theorem sameFlds_fatalBegun (s : State) (cause : Nat) : SameFlds (Fld.ERR_STATUS.LAST_CAUSE :: dumpFields) s (s.fatalBegun cause) :=
  (sameFlds_of_regs (a := s) (t := { s with err := { s.err with active := some cause } }) rfl).trans <|
    ((kept_State_fatalStop _).sameFlds (by decide)).trans ((kept_State_writeSoundpost _ 1).sameFlds (by decide))

theorem sameFlds_fatalStart (s : State) (cause : Nat) : SameFlds dumpFields s ((s.fatalCounted cause).fatalBegun cause) :=
  (kept_fatalCounted.sameFlds (by decide)).trans ((sameFlds_fatalBegun _ cause).mono (List.subset_cons_self ..))

theorem fatalStart_cause (h8 : cause ≤ 8) : ((s.fatalCounted cause).fatalBegun cause).fld Fld.ERR_STATUS.LAST_CAUSE = cause :=
  (sameFlds_fatalBegun _ cause _ (List.mem_cons_self ..)).trans (fatalCounted_cause h8)

theorem fatalBegun_only (s : State) (cause : Nat) : Only [.freeIx, .regs, .pwr, .hfe, .ports, .capo, .sc, .dma, .evr]
    ({ s with err := { s.err with active := some cause } } : State) (s.fatalBegun cause) :=
  Only.step (only_State_writeSoundpost _ 1) rfl (Only.step (fatalStop_only _) rfl Only.refl)

theorem fatalStart_wc : ((s.fatalCounted cause).fatalBegun cause).wc = s.wc := fatalBegun_only (s.fatalCounted cause) cause .wc rfl

theorem fatalStart_active : ((s.fatalCounted cause).fatalBegun cause).err.active = some cause :=
  congrArg Err.active (fatalBegun_only (s.fatalCounted cause) cause .err rfl)

/-- A fatal error ends DMA, and every function shows CFS. -/
theorem fatalStop_drops (s : State) : (∀ p ∈ s.fatalStop.hfe.fns, p.2.cfs = true) ∧ (∀ n < 256, tget s.fatalStop.dma.runs n = none) := by
  rw [fatalStop_eq]
  generalize (if (s.hold .fatal).closeGate.paired = true then (s.hold .fatal).closeGate.fatalReleased else (s.hold .fatal).closeGate) = u
  refine ⟨fun p hp => ?_, fun n hn => dmaDropAll_drops _ hn⟩
  rw [only_State_dmaDropAll _ .hfe rfl] at hp
  obtain ⟨f, -, rfl⟩ := List.mem_map.mp hp
  rfl

theorem fatalStop_closes (s : State) : s.fatalStop.bit Fld.CAPO_STATUS.GATE_OPEN = false := by
  have hclosed := closeGate_closed (s.hold .fatal)
  rw [fatalStop_eq]
  generalize (s.hold .fatal).closeGate = u at hclosed ⊢
  have hrel : u.fatalReleased.bit Fld.CAPO_STATUS.GATE_OPEN = u.bit Fld.CAPO_STATUS.GATE_OPEN := by
    unfold State.fatalReleased
    refine ((kept_State_driveCapo _).bit _ (by decide)).trans ?_
    refine ((kept_State_sendHealth _).bit _ (by decide)).trans ?_
    exact (kept_State_setRole _ 4).bit _ (by decide)
  refine ((kept_State_dmaDropAll _).bit _ (by decide)).trans ?_
  split
  · exact hrel.trans hclosed
  · exact hclosed

theorem fatalBegun_drops (s : State) (cause : Nat) : (∀ p ∈ (s.fatalBegun cause).hfe.fns, p.2.cfs = true) ∧
    (∀ n < 256, tget (s.fatalBegun cause).dma.runs n = none) ∧ (s.fatalBegun cause).bit Fld.CAPO_STATUS.GATE_OPEN = false := by
  unfold State.fatalBegun
  obtain ⟨hcfs, hdma⟩ := fatalStop_drops { s with err := { s.err with active := some cause } }
  have hgate := fatalStop_closes { s with err := { s.err with active := some cause } }
  generalize State.fatalStop _ = u at hcfs hdma hgate ⊢
  rw [only_State_writeSoundpost u 1 .hfe rfl, only_State_writeSoundpost u 1 .dma rfl]
  exact ⟨hcfs, hdma, ((kept_State_writeSoundpost u 1).bit _ (by decide)).trans hgate⟩

/-! ### The clauses of FATAL_ERROR (R446, R449, R450) -/

theorem fatalError_counts (h1 : 1 ≤ cause) (h8 : cause ≤ 8) (ha : s.err.active.isSome = true) : Does (.fatalError cause) s fun t =>
    t.fld Fld.ERR_FATAL_COUNT = min (s.fld Fld.ERR_FATAL_COUNT + 1) (2 ^ 32 - 1) ∧ t.fld Fld.ERR_STATUS.LAST_CAUSE = cause ∧
    t.err.active = s.err.active ∧ t.pwr = s.pwr :=
  ⟨_, exec_fatalError_again h1 h8 ha, fatalCounted_count, fatalCounted_cause h8, rfl, rfl⟩

theorem fatalError_joins (h1 : 1 ≤ cause) (h7 : cause ≤ 7) (ha : s.err.active = none) (hd : s.wc.dumpArea.isSome = true) :
    Does (.fatalError cause) s fun t => t.err.active = some cause ∧ t.wc.dumpWhy = some .fatal ∧ t.bit Fld.CAPO_STATUS.GATE_OPEN = false ∧
      t.fld Fld.ERR_STATUS.LAST_CAUSE = cause ∧ (∀ p, p ∈ t.hfe.fns → p.2.cfs = true) ∧ (∀ n, n < 256 → tget t.dma.runs n = none) ∧
      t.wc.dumpArea = s.wc.dumpArea := by
  have hx := exec_fatalError h1 (by omega) ha
  have hwc : ((s.fatalCounted cause).fatalBegun cause).wc = s.wc := fatalStart_wc
  have hact : ((s.fatalCounted cause).fatalBegun cause).err.active = some cause := fatalStart_active
  have hcause : ((s.fatalCounted cause).fatalBegun cause).fld Fld.ERR_STATUS.LAST_CAUSE = cause := fatalStart_cause (by omega)
  obtain ⟨hcfs, hdma, hgate⟩ := fatalBegun_drops (s.fatalCounted cause) cause
  generalize (s.fatalCounted cause).fatalBegun cause = u at hx hwc hact hcause hcfs hdma hgate
  exact ⟨_, hx.trans ((if_neg (by omega)).trans (if_pos (by rw [hwc]; exact hd))), hact, rfl, hgate, hcause, hcfs, hdma, (congrArg Wc.dumpArea hwc :)⟩

theorem fastReset_wc (s : State) : s.fastReset.wc = s.wcReset.wc := by
  have hlost : s.fastLost.wc = s.wcReset.wc := by
    rw [State.fastLost, (only_State_stageReset _).wc rfl, (only_State_portsReset _ _).wc rfl, (only_State_resetRegs _ _).wc rfl,
      (only_State_leaveFed _).wc rfl, (only_State_dropBarriers _).wc rfl, (only_State_hfeReset _).wc rfl]
  rw [← hlost]
  unfold State.fastReset
  extract_lets u regs v w t p holds e l r c d ci ca x
  have ht : s.fastLost = t := rfl
  rw [ht]
  clear_value t
  rfl

theorem wcReset_dumpArea (s : State) : s.wcReset.wc.dumpArea = none := rfl

/-- A fatal error's end: the fast domains in reset, and no dump. -/
theorem fatalEnd_dumpArea (s : State) : s.fatalEnd.wc.dumpArea = none := by
  have hwc : s.copyVault.copyFlash.faultReset.wc.dumpArea = none := by
    unfold State.faultReset
    have h : s.copyVault.copyFlash.fastReset.wc.dumpArea = none := by rw [fastReset_wc, wcReset_dumpArea]
    generalize s.copyVault.copyFlash.fastReset = u at h ⊢
    exact h
  rw [fatalEnd_eq]
  generalize s.copyVault.copyFlash.faultReset = u at hwc ⊢
  split <;> exact hwc

theorem dumpOver_fatalEnd_shows (u : State) : (u.afterDump .fatal none).pwr.fast = .inReset ∧
    (u.afterDump .fatal none).bit Fld.PWR_RESET_INFO.FATAL = true ∧
    (u.afterDump .fatal none).fld Fld.ERR_STATUS.LAST_CAUSE = u.fld Fld.ERR_STATUS.LAST_CAUSE ∧ (u.afterDump .fatal none).wc.dumpArea = none := by
  rw [afterDump_fatal]
  obtain ⟨hfast, hbit, -⟩ := fatalEnd_shows u.dumpOver
  exact ⟨hfast, hbit, (sameFlds_fatalEnd u.dumpOver _ (by decide)).trans rfl, fatalEnd_dumpArea _⟩

theorem fatalError_linkLost (ha : s.err.active = none) : Does (.fatalError 8) s fun t => t.pwr.fast = .inReset ∧
    t.bit Fld.PWR_RESET_INFO.FATAL = true ∧ t.fld Fld.ERR_STATUS.LAST_CAUSE = 8 := by
  have hx := exec_fatalError (cause := 8) (by decide) (by decide) ha
  have hcause : ((s.fatalCounted 8).fatalBegun 8).fld Fld.ERR_STATUS.LAST_CAUSE = 8 := fatalStart_cause (by decide)
  generalize (s.fatalCounted 8).fatalBegun 8 = u at hx hcause
  obtain ⟨hfast, hbit, hlast, -⟩ := dumpOver_fatalEnd_shows u.abandonDump
  exact ⟨_, hx.trans (if_pos rfl), hfast, hbit, hlast.trans (((kept_State_abandonDump u).fld _ (by decide)).trans hcause)⟩

theorem hasDirty_of_parts {s t : State} (hwc : t.wc = s.wc) (hrbe : t.rbe = s.rbe) : t.hasDirty = s.hasDirty := by
  unfold State.hasDirty State.bowBytes
  rw [hwc, hrbe]

theorem fatalStart_dumpNeeded : ((s.fatalCounted cause).fatalBegun cause).dumpNeeded = s.dumpNeeded := by
  have hdirty : ((s.fatalCounted cause).fatalBegun cause).hasDirty = s.hasDirty :=
    hasDirty_of_parts fatalStart_wc (fatalBegun_only (s.fatalCounted cause) cause .rbe rfl)
  simp only [State.dumpNeeded, hdirty, (sameFlds_fatalStart s cause).bit (f := Fld.HFE_STATUS.REPLAY_PENDING) (by decide)]

theorem fatalStart_acFail : ((s.fatalCounted cause).fatalBegun cause).acFail = s.acFail :=
  (sameFlds_fatalStart s cause).bit (by decide)

theorem fatalStart_areaReady : ((s.fatalCounted cause).fatalBegun cause).areaReady = s.areaReady :=
  areaReady_of_sameFlds ((sameFlds_fatalStart s cause).mono (List.subset_append_left ..))

/-- Without a dump to make, a fatal error resets the fast domains at once. -/
theorem fatalError_resets (h1 : 1 ≤ cause) (h7 : cause ≤ 7) (ha : s.err.active = none) (hd : s.wc.dumpArea = none)
    (h : s.acFail = true ∨ s.dumpNeeded = false) : Does (.fatalError cause) s fun t => t.pwr.fast = .inReset ∧
      t.bit Fld.PWR_RESET_INFO.FATAL = true ∧ t.fld Fld.ERR_STATUS.LAST_CAUSE = cause ∧ t.wc.dumpArea = none := by
  have hx := exec_fatalError h1 (by omega) ha
  have hwc : ((s.fatalCounted cause).fatalBegun cause).wc = s.wc := fatalStart_wc
  have hcause : ((s.fatalCounted cause).fatalBegun cause).fld Fld.ERR_STATUS.LAST_CAUSE = cause := fatalStart_cause (by omega)
  rw [← fatalStart_acFail (cause := cause), ← fatalStart_dumpNeeded (cause := cause)] at h
  generalize (s.fatalCounted cause).fatalBegun cause = u at hx hwc hcause h
  obtain ⟨hfast, hbit, hlast, harea⟩ := dumpOver_fatalEnd_shows u
  exact ⟨_, hx.trans ((if_neg (by omega)).trans ((if_neg (by simp [hwc, hd])).trans (if_pos h))), hfast, hbit, hlast.trans hcause, harea⟩

theorem startDump_none {u : State} (h : u.areaReady = none) (why : DumpReason) :
    u.startDump why = { u with wc := { u.wc with dumpWhy := some why } } := by
  simp only [State.startDump, h]

theorem scStopRange_wc (u : State) : u.scStopRange.wc = u.wc := only_State_scStopRange u .wc rfl

/-- With no area ready, a dump for a fatal error is its end. -/
theorem dumpFor_fatal_none {u : State} (h : u.areaReady = none) (hd : u.wc.dumpArea = none) : ∃ v : State,
    u.dumpFor .fatal = v.afterDump .fatal none ∧ v.fld Fld.ERR_STATUS.LAST_CAUSE = u.fld Fld.ERR_STATUS.LAST_CAUSE := by
  have hr : u.scStopRange.areaReady = none := (areaReady_of_sameFlds ((kept_State_scStopRange u).sameFlds (by decide))).trans h
  have hs := startDump_none hr .fatal
  refine ⟨u.scStopRange.startDump .fatal, ?_, ?_⟩
  · refine if_pos ?_
    rw [hs]
    show u.scStopRange.wc.dumpArea.isNone = true
    rw [scStopRange_wc, hd]
    rfl
  · exact ((kept_State_startDump _ _).fld _ (by decide)).trans ((kept_State_scStopRange u).fld _ (by decide))

theorem fatalError_unready (h1 : 1 ≤ cause) (h7 : cause ≤ 7) (ha : s.err.active = none) (hd : s.wc.dumpArea = none) (hr : s.areaReady = none) :
    Does (.fatalError cause) s fun t => t.pwr.fast = .inReset ∧ t.bit Fld.PWR_RESET_INFO.FATAL = true ∧
      t.fld Fld.ERR_STATUS.LAST_CAUSE = cause := by
  by_cases h : s.acFail = true ∨ s.dumpNeeded = false
  · obtain ⟨t, ht, hfast, hbit, hlast, -⟩ := fatalError_resets h1 h7 ha hd h
    exact ⟨t, ht, hfast, hbit, hlast⟩
  · have hx := exec_fatalError h1 (by omega) ha
    have hwc : ((s.fatalCounted cause).fatalBegun cause).wc = s.wc := fatalStart_wc
    have hcause : ((s.fatalCounted cause).fatalBegun cause).fld Fld.ERR_STATUS.LAST_CAUSE = cause := fatalStart_cause (by omega)
    rw [← fatalStart_acFail (cause := cause), ← fatalStart_dumpNeeded (cause := cause)] at h
    rw [← fatalStart_areaReady (cause := cause)] at hr
    generalize (s.fatalCounted cause).fatalBegun cause = u at hx hwc hcause h hr
    obtain ⟨v, hv, hsame⟩ := dumpFor_fatal_none hr (by rw [hwc, hd])
    obtain ⟨hfast, hbit, hlast, -⟩ := dumpOver_fatalEnd_shows v
    refine ⟨_, hx.trans ((if_neg (by omega)).trans ((if_neg (by simp [hwc, hd])).trans (if_neg h))), ?_⟩
    rw [hv]
    exact ⟨hfast, hbit, hlast.trans (hsame.trans hcause)⟩

theorem startDump_seq {u : State} {i : Fin 2} (h : u.areaReady = some i) (why : DumpReason) :
    (u.startDump why).fld Fld.VLT_DUMP_SEQ = (u.fld Fld.VLT_DUMP_SEQ + 1) % 2 ^ Fld.VLT_DUMP_SEQ.width := by
  simp only [State.startDump, h]
  have k (v : State) : Kept [Fld.VLT_STATUS.DUMPING, Fld.VLT_AREA.STATE, Fld.VLT_AREA.COMPLETE, Fld.VLT_AREA.CANCELLED] v
      ((((v.setBit Fld.VLT_STATUS.DUMPING true).setFld (Fld.VLT_AREA.STATE.at i.val) 1).setBit (Fld.VLT_AREA.COMPLETE.at i.val) false).setBit
        (Fld.VLT_AREA.CANCELLED.at i.val) false) :=
    Kept.setBitAt rfl (Kept.setBitAt rfl (Kept.setFldAt rfl (Kept.setBit rfl Kept.refl)))
  exact ((k _).fld _ (by decide)).trans (State.fld_setFld_same ..)

theorem fatalError_dumps (h1 : 1 ≤ cause) (h7 : cause ≤ 7) (ha : s.err.active = none) (hd : s.wc.dumpArea = none) (hac : s.acFail = false)
    (hr : s.areaReady.isSome = true) (hu : s.wc.updates ≠ []) (hp : s.bit Fld.HFE_STATUS.REPLAY_PENDING = false) :
    Does (.fatalError cause) s fun t => t.err.active = some cause ∧ t.wc.dumpWhy = some .fatal ∧ t.wc.dumpArea.isSome = true ∧
      t.fld Fld.VLT_DUMP_SEQ = (s.fld Fld.VLT_DUMP_SEQ + 1) % 2 ^ Fld.VLT_DUMP_SEQ.width ∧ t.fld Fld.ERR_STATUS.LAST_CAUSE = cause := by
  have hneed : s.dumpNeeded = true := by simp [State.dumpNeeded, State.hasDirty, hp, hu]
  have hx := exec_fatalError h1 (by omega) ha
  have hwc : ((s.fatalCounted cause).fatalBegun cause).wc = s.wc := fatalStart_wc
  have hact : ((s.fatalCounted cause).fatalBegun cause).err.active = some cause := fatalStart_active
  have hcause : ((s.fatalCounted cause).fatalBegun cause).fld Fld.ERR_STATUS.LAST_CAUSE = cause := fatalStart_cause (by omega)
  have hseq : ((s.fatalCounted cause).fatalBegun cause).fld Fld.VLT_DUMP_SEQ = s.fld Fld.VLT_DUMP_SEQ := sameFlds_fatalStart s cause _ (by decide)
  have h : ¬ (((s.fatalCounted cause).fatalBegun cause).acFail = true ∨ ((s.fatalCounted cause).fatalBegun cause).dumpNeeded = false) := by
    rw [fatalStart_acFail, fatalStart_dumpNeeded, hac, hneed]
    decide
  rw [← fatalStart_areaReady (cause := cause)] at hr
  generalize (s.fatalCounted cause).fatalBegun cause = u at hx hwc hact hcause hseq h hr
  obtain ⟨i, hi⟩ := Option.isSome_iff_exists.mp hr
  have hi' : u.scStopRange.areaReady = some i := (areaReady_of_sameFlds ((kept_State_scStopRange u).sameFlds (by decide))).trans hi
  obtain ⟨harea, hwhy, -⟩ := startDump_ready hi' .fatal
  have hdump : u.dumpFor .fatal = u.scStopRange.startDump .fatal := if_neg (by simp [harea])
  refine ⟨_, hx.trans ((if_neg (by omega)).trans ((if_neg (by simp [hwc, hd])).trans (if_neg h))), ?_⟩
  rw [hdump]
  refine ⟨?_, hwhy, by rw [harea]; rfl, ?_, ?_⟩
  · rw [only_State_startDump _ _ .err rfl, only_State_scStopRange u .err rfl, hact]
  · rw [startDump_seq hi', (kept_State_scStopRange u).fld _ (by decide), hseq]
  · exact ((kept_State_startDump _ _).fld _ (by decide)).trans (((kept_State_scStopRange u).fld _ (by decide)).trans hcause)

end

/-! ### The restarts after a fatal error (R451, R453) -/

section
variable {s : State}

theorem exec_fatalRestart (h : s.err.active.isSome = true ∧ s.pwr.fast = .inReset) : exec .fatalRestart s =
    if ({ s with err := { s.err with active := none } } : State).canBoot = true then
      .next ({ s with err := { s.err with active := none } } : State).startBoot
    else .next { s with err := { s.err with active := none } } := if_pos h

theorem fatalRestart_boots (ha : s.err.active.isSome = true) (hf : s.pwr.fast = .inReset)
    (hb : ({ s with err := { s.err with active := none } } : State).canBoot = true) : Does .fatalRestart s fun t =>
      t.err.active = none ∧ t.pwr.fast = .booting ∧ t.bit Fld.PWR_STATE.BOOTING = true := by
  obtain ⟨hfast, hbit, -⟩ := startBoot_boots ({ s with err := { s.err with active := none } } : State)
  exact ⟨_, (exec_fatalRestart ⟨ha, hf⟩).trans (if_pos hb), congrArg Err.active (only_State_startBoot _ .err rfl), hfast, hbit⟩

theorem exec_errRestart (ht : s.Takes Fld.ERR_CMD.CMD.addr) (hh : s.bit Fld.ERR_STATUS.FATAL_HOLD = true) : exec .errRestart s =
    if (s.setBit Fld.ERR_STATUS.FATAL_HOLD false).canBoot = true then .next (s.setBit Fld.ERR_STATUS.FATAL_HOLD false).startBoot
    else .next (s.setBit Fld.ERR_STATUS.FATAL_HOLD false) := by
  simp only [exec, execErrRestart, command_takes _ _ _ ht, hh, if_true]

theorem errRestart_boots (ht : s.Takes Fld.ERR_CMD.CMD.addr) (hh : s.bit Fld.ERR_STATUS.FATAL_HOLD = true)
    (hb : (s.setBit Fld.ERR_STATUS.FATAL_HOLD false).canBoot = true) : Does .errRestart s fun t =>
      t.bit Fld.ERR_STATUS.FATAL_HOLD = false ∧ t.pwr.fast = .booting := by
  refine ⟨_, (exec_errRestart ht hh).trans (if_pos hb), ?_, (startBoot_boots _).1⟩
  exact ((kept_State_startBoot _).bit _ (by decide)).trans (State.bit_setBit_same _ _ _ rfl)

end

/-- Settles O59. -/
theorem errorsAreStackedAndHandled : Obligations.ErrorsAreStackedAndHandled := by
  unfold Obligations.ErrorsAreStackedAndHandled
  refine ⟨?pushed, ?overflow, ?repeated, ?recovered, ?late, ?counted, ?joined, ?linkLost, ?rebooted, ?errRebooted, ?unheld, ?undue, ?failed,
    ?noEntry, ?noCause, ?mains, ?replay, ?dumped, ?notStopped, ?noBoot, ?errNoBoot, ?unready, ?clean⟩
  case pushed => exact fun s e source hroom h => recoverableError_pushes hroom h
  case overflow => exact fun s e source hfull h => recoverableError_overflows hfull h
  case repeated => exact fun s e source h => recoverableError_repeats h
  case recovered => exact fun s l x ok hs ha h => handlerEnd_recovers hs ha h
  case late => exact fun s index h => ⟨_, exec_handlerTimeout.trans (if_pos h), rfl, rfl⟩
  case counted => exact fun s cause h1 h8 ha => fatalError_counts h1 h8 ha
  case joined => exact fun s cause h1 h7 ha hd => fatalError_joins h1 h7 ha hd
  case linkLost => exact fun s ha => fatalError_linkLost ha
  case rebooted => exact fun s ha hf hb => fatalRestart_boots ha hf hb
  case errRebooted => exact fun s ht hh hb => errRestart_boots ht hh hb
  case unheld =>
    intro s ht hh
    exact ⟨s, by simp only [exec, execErrRestart, command_takes _ _ _ ht, hh, Bool.false_eq_true, if_false], rfl⟩
  case undue => exact fun s index ok h => ⟨_, exec_handlerEnd_idle h, rfl⟩
  case failed => exact fun s l x hs ha h => handlerEnd_fails hs ha h
  case noEntry => exact fun s index h => ⟨_, exec_handlerTimeout.trans (if_neg (Nat.not_lt.mpr h)), rfl⟩
  case noCause => exact fun s cause h => ⟨_, if_pos h, rfl⟩
  case mains => exact fun s cause h1 h7 ha hd hac => fatalError_resets h1 h7 ha hd (.inl hac)
  case replay => exact fun s cause h1 h7 ha hd hp => fatalError_resets h1 h7 ha hd (.inr (dumpNeeded_replay hp))
  case dumped => exact fun s cause h1 h7 ha hd hac hr hu hp => fatalError_dumps h1 h7 ha hd hac hr hu hp
  case notStopped =>
    intro s h
    exact ⟨_, if_neg (by rcases h with h | h <;> simp [h]), rfl⟩
  case noBoot =>
    intro s ha hf hb
    exact ⟨_, (exec_fatalRestart ⟨ha, hf⟩).trans (if_neg (by simp [hb])), rfl, rfl, rfl⟩
  case errNoBoot =>
    intro s ht hh hb
    exact ⟨_, (exec_errRestart ht hh).trans (if_neg (by simp [hb])), State.bit_setBit_same _ _ _ rfl, State.setBit_pwr ..⟩
  case unready => exact fun s cause h1 h7 ha hd hr => fatalError_unready h1 h7 ha hd hr
  case clean =>
    intro s cause h1 h7 ha hd hn
    obtain ⟨t, ht, hfast, hbit, hlast, -⟩ := fatalError_resets h1 h7 ha hd (.inr hn)
    exact ⟨t, ht, hfast, hbit, hlast⟩

end Sys2Proof.Machine

/-!
The fan channels (O57): a start of a channel and the targets' update are said once each, for the channel itself and for every other one.
-/
namespace Sys2Proof.Machine

/-! ### Registers of a channel that a step leaves (R7, R395) -/

theorem Kept.fanFld {l : List Field} {s t : State} (k : Kept l s t) {f : Field} (n : FanId)
    (h : (List.finRange 8).all (fun (i : FanId) => l.all (fun g => g.apart (f.at i.val))) = true) :
    t.fld (f.at n.val) = s.fld (f.at n.val) :=
  k.fld (f.at n.val) (List.all_eq_true.mp h n (List.mem_finRange n))

theorem Kept.fanBit {l : List Field} {s t : State} (k : Kept l s t) {f : Field} (n : FanId)
    (h : (List.finRange 8).all (fun (i : FanId) => l.all (fun g => g.apart (f.at i.val))) = true) :
    t.bit (f.at n.val) = s.bit (f.at n.val) := congrArg (decide <| · ≠ 0) (k.fanFld n h)

/-- The fields of FAN_STATUS that a start sequence writes. -/
def channelFields : List Field := [Fld.FAN_STATUS.STATE, Fld.FAN_STATUS.ATTEMPT, Fld.FAN_STATUS.FAULT_CAUSE, Fld.FAN_STATUS.SHIFTING]

/-- A channel's start sequence reads as before. -/
def SameChannel (n : FanId) (s t : State) : Prop := ∀ f ∈ channelFields, t.fld (f.at n.val) = s.fld (f.at n.val)

theorem SameChannel.refl {n : FanId} {s : State} : SameChannel n s s := fun _ _ => rfl

theorem SameChannel.trans {n : FanId} {s t u : State} (h : SameChannel n s t) (k : SameChannel n t u) : SameChannel n s u :=
  fun f hf => (k f hf).trans (h f hf)

theorem SameChannel.state {n : FanId} {s t : State} (h : SameChannel n s t) : t.fanState n = s.fanState n := h _ (by decide)

theorem SameChannel.attempt {n : FanId} {s t : State} (h : SameChannel n s t) :
    t.fld (Fld.FAN_STATUS.ATTEMPT.at n.val) = s.fld (Fld.FAN_STATUS.ATTEMPT.at n.val) := h _ (by decide)

theorem SameChannel.cause {n : FanId} {s t : State} (h : SameChannel n s t) :
    t.fld (Fld.FAN_STATUS.FAULT_CAUSE.at n.val) = s.fld (Fld.FAN_STATUS.FAULT_CAUSE.at n.val) := h _ (by decide)

theorem Kept.sameChannel {l : List Field} {s t : State} (k : Kept l s t) (n : FanId)
    (h : channelFields.all (fun f => (List.finRange 8).all (fun (i : FanId) => l.all (fun g => g.apart (f.at i.val)))) = true) : SameChannel n s t :=
  fun f hf => k.fanFld n (List.all_eq_true.mp h f hf)

theorem SameChannel.of_regs {n : FanId} {s t : State} (h : t.regs = s.regs) : SameChannel n s t := fun _ _ => State.fld_of_regs s t _ h

/-- A write of one channel's register leaves another channel. -/
theorem sameChannel_setFld {m n : FanId} (h : m ≠ n) (s : State) {g : Field} (v : Nat) (hg : g ∈ channelFields) :
    SameChannel n s (s.setFld (g.at m.val) v) := fun f hf => by
  have hbank : ∀ f ∈ channelFields, 0 < f.stride ∧ f.count = 8 := by decide
  have hoff : ∀ f ∈ channelFields, ∀ g ∈ channelFields, f = g ∨ g.offFrom f = true := by decide
  rcases hoff f hf g hg with rfl | h'
  · obtain ⟨hs, hc⟩ := hbank f hf
    exact fld_setFld_sibling s v hs (n.isLt.trans_eq hc.symm) (m.isLt.trans_eq hc.symm) fun e => h (Fin.ext e.symm)
  · exact fld_setFld_off s _ _ v h'

theorem sameChannel_setBit {m n : FanId} (h : m ≠ n) (s : State) {g : Field} (b : Bool) (hg : g ∈ channelFields) :
    SameChannel n s (s.setBit (g.at m.val) b) := sameChannel_setFld h s _ hg

theorem fld_fan_other (s : State) {f g : Field} (n : FanId) (v : Nat) (h : g.offFrom f = true) :
    (s.setFld (g.at n.val) v).fld (f.at n.val) = s.fld (f.at n.val) := fld_setFld_off s _ _ v h

theorem setFanState_state (s : State) (n : FanId) {v : Nat} (h : v < 16) : (s.setFanState n v).fanState n = v :=
  (State.fld_setFld_same ..).trans (Nat.mod_eq_of_lt h)

/-! ### A channel's learned values -/

theorem fan_putFan_same (s : State) (n : FanId) (x : Fan) : (s.putFan n x).fan n = x := by
  simp only [State.fan, State.putFan, tget_tput_same, Option.getD_some]

theorem fan_putFan_ne (s : State) {m n : FanId} (h : m ≠ n) (x : Fan) : (s.putFan m x).fan n = s.fan n := by
  simp only [State.fan, State.putFan, tget_tput_ne _ _ _ _ (fun e => h (Fin.ext e.symm))]

theorem fan_of_fans {s t : State} (h : t.fans = s.fans) (n : FanId) : t.fan n = s.fan n := by
  simp only [State.fan, h]

/-- A fan replaced by one with the same estimates changes no channel's estimates. -/
theorem estimates_putFan (s : State) (m n : FanId) {x : Fan} (h : x.estimates = (s.fan m).estimates) :
    ((s.putFan m x).fan n).estimates = (s.fan n).estimates := by
  by_cases e : m = n
  · rw [← e, fan_putFan_same, h]
  · rw [fan_putFan_ne s e]

theorem estimates_put {s u : State} (hu : u.fans = s.fans) (m n : FanId) {x : Fan} (hx : x.estimates = (s.fan m).estimates) :
    ((u.putFan m x).fan n).estimates = (s.fan n).estimates := by
  rw [estimates_putFan u m n (by rw [hx, fan_of_fans hu]), fan_of_fans hu]

/-! ### FAN_GLOBAL's bits and RUN_S (R394) -/

/-- FAN_GLOBAL's bits as they follow one channel. -/
def State.globalShown (s : State) (n : FanId) : State :=
  let turning := decide (4 ≤ s.fanState n) && decide (s.fanState n ≤ 6)
  let bitSet := fun (v : Nat) (b : Bool) => v - v / 2 ^ n.val % 2 * 2 ^ n.val + (if b then 2 ^ n.val else 0)
  let s := s.setFld Fld.FAN_GLOBAL.RUNNING (bitSet (s.fld Fld.FAN_GLOBAL.RUNNING) turning)
  s.setFld Fld.FAN_GLOBAL.FAULTED (bitSet (s.fld Fld.FAN_GLOBAL.FAULTED) (s.fanState n == 8))

/-- RUN_S and the start of its second, of a channel whose fan is `x`. -/
def State.runShown (s : State) (n : FanId) (x : Fan) (turning : Bool) : State :=
  match x.turnSince, turning with
  | some t, true => (s.incFld (Fld.FAN_RUN_S.at n.val) ((s.now - t) / sec)).putFan n { x with turnSince := some (t + (s.now - t) / sec * sec) }
  | some t, false => (s.incFld (Fld.FAN_RUN_S.at n.val) ((s.now - t) / sec)).putFan n { x with turnSince := none }
  | none, true => s.putFan n { x with turnSince := some s.now }
  | none, false => s

/-- What R394 shows of one channel. -/
def State.fanShown (s : State) (n : FanId) : State :=
  (s.globalShown n).runShown n (s.fan n) (decide (4 ≤ s.fanState n) && decide (s.fanState n ≤ 6))

theorem showFans_eq (s : State) : s.showFans = (List.finRange 8).foldl State.fanShown s := rfl

theorem runShown_estimates (s : State) (m n : FanId) (turning : Bool) :
    ((s.runShown m (s.fan m) turning).fan n).estimates = (s.fan n).estimates := by
  unfold State.runShown
  split
  · exact estimates_put rfl m n rfl
  · exact estimates_put rfl m n rfl
  · exact estimates_put rfl m n rfl
  · rfl

theorem fanShown_estimates (s : State) (m n : FanId) : ((s.fanShown m).fan n).estimates = (s.fan n).estimates :=
  runShown_estimates (s.globalShown m) m n _

theorem showFans_estimates (s : State) (n : FanId) : (s.showFans.fan n).estimates = (s.fan n).estimates := by
  have fold (l : List FanId) : ∀ u : State, ((l.foldl State.fanShown u).fan n).estimates = (u.fan n).estimates := by
    induction l with
    | nil => exact fun u => rfl
    | cons m l ih => exact fun u => (ih _).trans (fanShown_estimates u m n)
  rw [showFans_eq, fold]

theorem sameChannel_showFans (s : State) (n : FanId) : SameChannel n s s.showFans := (kept_State_showFans s).sameChannel n (by decide)

/-! ### The PWM periods of a driven channel (R386) -/

theorem pwmPeriod_estimates (s : State) (m n : FanId) (p : PwmPeriod) : ((s.pwmPeriod m p).fan n).estimates = (s.fan n).estimates := by
  unfold State.pwmPeriod
  extract_lets x boost open2 y u k v
  have hy : y.estimates = (s.fan m).estimates := by
    show (if boost then _ else _ : Fan).estimates = _
    split <;> rfl
  split
  · split
    · exact estimates_put rfl m n hy
    · exact estimates_put rfl m n hy
  · split
    · exact estimates_put rfl m n hy
    · split
      · exact estimates_put rfl m n hy
      · exact estimates_put rfl m n hy

theorem pwmRun_estimates (s : State) (m n : FanId) (run : List PwmPeriod) : ((s.pwmRun m run).fan n).estimates = (s.fan n).estimates := by
  have fold (l : List PwmPeriod) : ∀ u : State, ((l.foldl (fun (st : State) p => st.pwmPeriod m p) u).fan n).estimates = (u.fan n).estimates := by
    induction l with
    | nil => exact fun u => rfl
    | cons p l ih => exact fun u => (ih _).trans (pwmPeriod_estimates u m n p)
  unfold State.pwmRun
  split
  · exact fold run s
  · rfl

theorem pwmRun_state (s : State) (m n : FanId) (run : List PwmPeriod) : (s.pwmRun m run).fanState n = s.fanState n :=
  (kept_State_pwmRun s m run).fanFld n (by decide)

/-! ### The start of a channel (R382, R390) -/

/-- A channel that Safe Mode does not start: no calibration block of it is in use (R382). -/
def State.fanLocked (s : State) (n : FanId) : Bool := s.safeMode && (s.fanBlock n).isNone

theorem fanLocked_of {s t : State} (hcal : t.cal = s.cal) (hsafe : t.safeMode = s.safeMode) (n : FanId) : t.fanLocked n = s.fanLocked n := by
  simp only [State.fanLocked, State.fanBlock, hcal, hsafe]

theorem fanListen_locked {s : State} {n : FanId} (h : s.fanLocked n = true) (attempt : Nat) :
    s.fanListen n attempt = (s.setFanState n 8).setFld (Fld.FAN_STATUS.FAULT_CAUSE.at n.val) 4 := if_pos h

/-- The estimates that a start takes, put into the channel's fan with its motor parameters. -/
def State.fanTaken (s : State) (n : FanId) : State :=
  let x := s.fan n
  let c := s.fanImage n
  let nom := nominalEst c
  let est := match s.fanBlock n with
    | some b => if x.relearn then nom else b.content.take 4
    | none => nom
  let s := if (calGet s.cal.user (2 + n.val)).isNone then s.emit .calFallback [2 + n.val] else s
  s.putFan n { x with estimates := est, relearn := false, waited := 0, entry := some c, skips := 0, natural := 0 }

/-- A channel shown listening. -/
def State.listening (s : State) (n : FanId) : State := (s.setFanState n 1).setBit (Fld.FAN_STATUS.SHIFTING.at n.val) false

theorem fanListen_free {s : State} {n : FanId} (h : s.fanLocked n = false) (attempt : Nat) : ∃ u : State,
    (u = (s.fanTaken n).listening n ∨ ∃ est, u = ((s.fanTaken n).listening n).writeFanBlock n est) ∧
    s.fanListen n attempt = u.setFld (Fld.FAN_STATUS.ATTEMPT.at n.val) attempt := by
  have hx : s.fanListen n attempt = (if (((s.fanTaken n).listening n).fanBlock n).isNone then
      ((s.fanTaken n).listening n).writeFanBlock n (nominalEst (s.fanImage n)) else (s.fanTaken n).listening n).setFld
        (Fld.FAN_STATUS.ATTEMPT.at n.val) attempt := if_neg (by
    show ¬ s.fanLocked n = true
    simp [h])
  refine ⟨_, ?_, hx⟩
  split
  · exact .inr ⟨_, rfl⟩
  · exact .inl rfl

theorem fanTaken_regs (s : State) (n : FanId) : (s.fanTaken n).regs = s.regs := by
  simp only [State.fanTaken, State.putFan]
  split <;> rfl

theorem listening_shows (s : State) (n : FanId) : (s.listening n).fanState n = 1 ∧
    (s.listening n).fld (Fld.FAN_STATUS.FAULT_CAUSE.at n.val) = s.fld (Fld.FAN_STATUS.FAULT_CAUSE.at n.val) :=
  ⟨(fld_fan_other _ n _ (by decide)).trans (setFanState_state s n (by decide)),
   (fld_fan_other _ n _ (by decide)).trans (fld_fan_other _ n _ (by decide))⟩

/-- A channel that starts listens, as the given attempt. -/
theorem fanListen_listens {s : State} {n : FanId} (h : s.fanLocked n = false) (attempt : Nat) : (s.fanListen n attempt).fanState n = 1 ∧
    (s.fanListen n attempt).fld (Fld.FAN_STATUS.ATTEMPT.at n.val) = attempt % 2 ^ Fld.FAN_STATUS.ATTEMPT.width ∧
    (s.fanListen n attempt).fld (Fld.FAN_STATUS.FAULT_CAUSE.at n.val) = s.fld (Fld.FAN_STATUS.FAULT_CAUSE.at n.val) := by
  obtain ⟨hstate, hcause⟩ := listening_shows (s.fanTaken n) n
  rw [State.fld_of_regs s _ _ (fanTaken_regs s n)] at hcause
  obtain ⟨u, hu, hx⟩ := fanListen_free h attempt
  have hsame : SameChannel n ((s.fanTaken n).listening n) u := by
    rcases hu with rfl | ⟨est, rfl⟩
    · exact .refl
    · exact (kept_State_writeFanBlock _ n est).sameChannel n (by decide)
  rw [hx]
  exact ⟨(fld_fan_other _ n _ (by decide)).trans (hsame.state.trans hstate), State.fld_setFld_same ..,
    (fld_fan_other _ n _ (by decide)).trans (hsame.cause.trans hcause)⟩

/-- A channel that Safe Mode does not start faults with cause 4. -/
theorem fanListen_faults {s : State} {n : FanId} (h : s.fanLocked n = true) (attempt : Nat) : (s.fanListen n attempt).fanState n = 8 ∧
    (s.fanListen n attempt).fld (Fld.FAN_STATUS.FAULT_CAUSE.at n.val) = 4 := by
  rw [fanListen_locked h]
  exact ⟨(fld_fan_other _ n _ (by decide)).trans (setFanState_state s n (by decide)), State.fld_setFld_same ..⟩

theorem sameChannel_fanListen {m n : FanId} (h : m ≠ n) (s : State) (attempt : Nat) : SameChannel n s (s.fanListen m attempt) := by
  cases hl : s.fanLocked m
  · obtain ⟨u, hu, hx⟩ := fanListen_free hl attempt
    have hlisten : SameChannel n s ((s.fanTaken m).listening m) :=
      (SameChannel.of_regs (fanTaken_regs s m)).trans ((sameChannel_setFld h _ _ (by decide)).trans (sameChannel_setBit h _ _ (by decide)))
    rw [hx]
    refine SameChannel.trans ?_ (sameChannel_setFld h u _ (by decide))
    rcases hu with rfl | ⟨est, rfl⟩
    · exact hlisten
    · exact hlisten.trans ((kept_State_writeFanBlock _ m est).sameChannel n (by decide))
  · rw [fanListen_locked hl]
    exact (sameChannel_setFld h _ _ (by decide)).trans (sameChannel_setFld h _ _ (by decide))

/-! ### The targets' update (R383) -/

/-- A channel's target as R383 shows it. -/
def State.fanWanted (s : State) (n : FanId) : Nat := if s.fanOn n then s.fanTarget n else 0

/-- A channel stopped. -/
def State.fanStopped (s : State) (n : FanId) : State :=
  ((s.setFanState n 0).setFld (Fld.FAN_STATUS.ATTEMPT.at n.val) 0).setBit (Fld.FAN_STATUS.SHIFTING.at n.val) false

/-- A channel's target shown. -/
def State.targetShown (s : State) (n : FanId) : State := s.setFld (Fld.FAN_TARGET.RPM.at n.val) (s.fanWanted n)

/-- The target of one channel brought up to date, with the start or the stop it asks for. -/
def State.fanUpdated (s : State) (n : FanId) : State :=
  if (s.targetShown n).fanState n = 8 then s.targetShown n
  else if s.fanWanted n = 0 then (s.targetShown n).fanStopped n
  else if (s.targetShown n).fanState n = 0 then (s.targetShown n).fanListen n 0
  else s.targetShown n

theorem updateFans_eq (s : State) : s.updateFans = ((List.finRange 8).foldl State.fanUpdated s).showFans := rfl

theorem sameChannel_targetShown (s : State) (m n : FanId) : SameChannel n s (s.targetShown m) :=
  (Kept.setFldAt (l := [Fld.FAN_TARGET.RPM]) rfl Kept.refl).sameChannel n (by decide)

theorem sameChannel_fanUpdated {m n : FanId} (h : m ≠ n) (s : State) : SameChannel n s (s.fanUpdated m) := by
  have hstop : SameChannel n (s.targetShown m) ((s.targetShown m).fanStopped m) :=
    (sameChannel_setFld h _ _ (by decide)).trans ((sameChannel_setFld h _ _ (by decide)).trans (sameChannel_setBit h _ _ (by decide)))
  refine (sameChannel_targetShown s m n).trans ?_
  unfold State.fanUpdated
  split
  · exact .refl
  · split
    · exact hstop
    · split
      · exact sameChannel_fanListen h _ 0
      · exact .refl

/-- A channel in FAULT stays as it is. -/
theorem sameChannel_fanUpdated_faulted {s : State} {n : FanId} (h : s.fanState n = 8) : SameChannel n s (s.fanUpdated n) := by
  have ht := sameChannel_targetShown s n n
  rw [State.fanUpdated, if_pos (ht.state.trans h)]
  exact ht

theorem updateFans_faulted {s : State} {n : FanId} (h : s.fanState n = 8) : SameChannel n s s.updateFans := by
  have fold (l : List FanId) : ∀ u : State, u.fanState n = 8 → SameChannel n u (l.foldl State.fanUpdated u) := by
    induction l with
    | nil => exact fun u _ => .refl
    | cons m l ih =>
      intro u hu
      have hm : SameChannel n u (u.fanUpdated m) := by
        by_cases e : m = n
        · exact e ▸ sameChannel_fanUpdated_faulted (e ▸ hu)
        · exact sameChannel_fanUpdated e u
      exact hm.trans (ih _ (hm.state.trans hu))
  rw [updateFans_eq]
  exact (fold _ s h).trans (sameChannel_showFans _ n)

/-- A channel that is off or listens, with no cause of a fault. -/
def State.fanCleared (s : State) (n : FanId) : Prop := s.fanState n ≤ 1 ∧ s.fld (Fld.FAN_STATUS.FAULT_CAUSE.at n.val) = 0

theorem SameChannel.cleared {n : FanId} {s t : State} (h : SameChannel n s t) (k : s.fanCleared n) : t.fanCleared n :=
  ⟨h.state ▸ k.1, h.cause.trans k.2⟩

theorem fanStopped_shows (s : State) (n : FanId) : (s.fanStopped n).fanState n = 0 ∧
    (s.fanStopped n).fld (Fld.FAN_STATUS.FAULT_CAUSE.at n.val) = s.fld (Fld.FAN_STATUS.FAULT_CAUSE.at n.val) :=
  ⟨(fld_fan_other _ n _ (by decide)).trans ((fld_fan_other _ n _ (by decide)).trans (setFanState_state s n (by decide))),
   (fld_fan_other _ n _ (by decide)).trans ((fld_fan_other _ n _ (by decide)).trans (fld_fan_other _ n _ (by decide)))⟩

/-- A channel that is wanted is not one that Safe Mode holds. -/
theorem fanLocked_of_wanted {s : State} {n : FanId} (h : s.fanWanted n ≠ 0) : s.fanLocked n = false := by
  have hon : s.fanOn n = true := by
    by_contra hoff
    exact h (if_neg hoff)
  unfold State.fanLocked
  unfold State.fanOn at hon
  cases hsafe : s.safeMode
  · rfl
  · rw [if_pos hsafe] at hon
    simpa using hon

theorem fanUpdated_cleared {s : State} {n : FanId} (h : s.fanCleared n) : (s.fanUpdated n).fanCleared n := by
  have ht := (sameChannel_targetShown s n n).cleared h
  have hlock : (s.targetShown n).fanLocked n = s.fanLocked n :=
    fanLocked_of (s := s) (t := s.targetShown n) rfl ((Kept.setFldAt (l := [Fld.FAN_TARGET.RPM]) rfl Kept.refl).bit Fld.IMG_BOOT.SAFE_MODE (by decide)) n
  unfold State.fanUpdated
  split
  · exact ht
  · split
    · obtain ⟨hstate, hcause⟩ := fanStopped_shows (s.targetShown n) n
      exact ⟨hstate ▸ Nat.zero_le 1, hcause.trans ht.2⟩
    next hwant =>
      split
      · obtain ⟨hstate, -, hcause⟩ := fanListen_listens (hlock.trans (fanLocked_of_wanted hwant)) 0
        exact ⟨hstate.le, hcause.trans ht.2⟩
      · exact ht

theorem updateFans_cleared {s : State} {n : FanId} (h : s.fanCleared n) : s.updateFans.fanCleared n := by
  have fold (l : List FanId) : ∀ u : State, u.fanCleared n → (l.foldl State.fanUpdated u).fanCleared n := by
    induction l with
    | nil => exact fun u hu => hu
    | cons m l ih =>
      intro u hu
      refine ih _ ?_
      by_cases e : m = n
      · exact e ▸ fanUpdated_cleared (e ▸ hu)
      · exact (sameChannel_fanUpdated e u).cleared hu
  rw [updateFans_eq]
  exact (sameChannel_showFans _ n).cleared (fold _ s h)

/-! ### Faults and failed attempts (R380, R393) -/

/-- A channel shown in FAULT with its cause. -/
def State.faultShown (s : State) (n : FanId) (cause : Nat) : State :=
  ((s.setFanState n 8).setBit (Fld.FAN_STATUS.SHIFTING.at n.val) false).setFld (Fld.FAN_STATUS.FAULT_CAUSE.at n.val) cause

theorem faultFan_eq (s : State) (n : FanId) (cause : Nat) : s.faultFan n cause = (s.faultShown n cause).updateFans := by
  unfold State.faultFan State.faultShown
  dsimp only

theorem faultFan_faults (s : State) (n : FanId) {cause : Nat} (h : cause < 8) : (s.faultFan n cause).fanState n = 8 ∧
    (s.faultFan n cause).fld (Fld.FAN_STATUS.FAULT_CAUSE.at n.val) = cause := by
  have hstate : (s.faultShown n cause).fanState n = 8 :=
    (fld_fan_other _ n _ (by decide)).trans ((fld_fan_other _ n _ (by decide)).trans (setFanState_state s n (by decide)))
  have hcause : (s.faultShown n cause).fld (Fld.FAN_STATUS.FAULT_CAUSE.at n.val) = cause :=
    (State.fld_setFld_same ..).trans (Nat.mod_eq_of_lt h)
  rw [faultFan_eq]
  generalize s.faultShown n cause = u at hstate hcause ⊢
  have hsame := updateFans_faulted hstate
  exact ⟨hsame.state.trans hstate, hsame.cause.trans hcause⟩

theorem failFan_last {s : State} {n : FanId} (h : 3 ≤ s.fld (Fld.FAN_STATUS.ATTEMPT.at n.val)) {cause : Nat} (hc : cause < 8) :
    (s.failFan n cause).fanState n = 8 ∧ (s.failFan n cause).fld (Fld.FAN_STATUS.FAULT_CAUSE.at n.val) = cause := by
  have ha : 3 ≤ (s.satFld (Fld.FAN_FAIL_COUNT.at n.val) 1).fld (Fld.FAN_STATUS.ATTEMPT.at n.val) := h.trans (fld_fan_other s n _ (by decide)).ge
  rw [State.failFan, if_pos ha]
  obtain ⟨hstate, hcause⟩ := faultFan_faults (s.satFld (Fld.FAN_FAIL_COUNT.at n.val) 1) n hc
  generalize State.faultFan _ n cause = u at hstate hcause ⊢
  exact ⟨hstate, hcause⟩

theorem failFan_retries {s : State} {n : FanId} (h : s.fld (Fld.FAN_STATUS.ATTEMPT.at n.val) < 3) (cause : Nat) :
    (s.failFan n cause).fanState n = 7 ∧
    (s.failFan n cause).fld (Fld.FAN_FAIL_COUNT.at n.val) = min (s.fld (Fld.FAN_FAIL_COUNT.at n.val) + 1) (2 ^ Fld.FAN_FAIL_COUNT.width - 1) := by
  have ha : ¬ 3 ≤ (s.satFld (Fld.FAN_FAIL_COUNT.at n.val) 1).fld (Fld.FAN_STATUS.ATTEMPT.at n.val) :=
    Nat.not_le.mpr ((fld_fan_other s n _ (by decide)).trans_lt h)
  rw [State.failFan, if_neg ha]
  refine ⟨(sameChannel_showFans _ n).state.trans (setFanState_state _ n (by decide)), ?_⟩
  exact ((kept_State_showFans _).fanFld n (by decide)).trans ((fld_fan_other _ n _ (by decide)).trans (fld_satFld_same ..))


/-! ### Events of a channel (R384 to R393) -/

section
variable {s : State} {n : FanId}

theorem showRotor_state (s : State) (n m : FanId) (r : RotorSpeed) : (s.showRotor n r).fanState m = s.fanState m :=
  (kept_State_showRotor s n r).fanFld m (by decide)

theorem showFans_state (s : State) (n : FanId) : s.showFans.fanState n = s.fanState n := (sameChannel_showFans s n).state

theorem exec_fanListenEnd {r : RotorSpeed} (h : s.fanState n = 1) : exec (.fanListenEnd n r) s =
    (if r.rpm * 100 < (s.fanCh n).ratedRpm * 2 then .next (((s.showRotor n r).setFanState n 4).showFans)
     else if (!r.reverse) = true then
       if (s.fanCh n).flags % 2 = 1 then
         .next ((((s.showRotor n r).setFanState n 5).incFld (Fld.FAN_START_COUNT.at n.val) 1).showFans)
       else .next ((s.showRotor n r).setFanState n 2)
     else if abovePct (s.fanCh n) r.rpm (s.fanCh n).brakeMaxPct = true then
       .next (((s.showRotor n r).putFan n { (s.showRotor n r).fan n with waited := 0 }).setFanState n 3)
     else .next ((s.showRotor n r).setFanState n 2)) := if_neg (not_not_intro h)

theorem fanListenEnd_still {r : RotorSpeed} (h : s.fanState n = 1) (hr : r.rpm * 100 < (s.fanCh n).ratedRpm * 2) :
    Does (.fanListenEnd n r) s fun t => t.fanState n = 4 :=
  ⟨_, (exec_fanListenEnd h).trans (if_pos hr), (showFans_state _ n).trans (setFanState_state _ n (by decide))⟩

theorem fanListenEnd_forward {r : RotorSpeed} (h : s.fanState n = 1) (hr : (s.fanCh n).ratedRpm * 2 ≤ r.rpm * 100) (hf : r.reverse = false) :
    Does (.fanListenEnd n r) s fun t => t.fanState n = if (s.fanCh n).flags % 2 = 1 then 5 else 2 := by
  have hx := (exec_fanListenEnd h).trans ((if_neg (Nat.not_lt.mpr hr)).trans (if_pos (by rw [hf]; rfl)))
  by_cases hc : (s.fanCh n).flags % 2 = 1
  · refine ⟨_, hx.trans (if_pos hc), ?_⟩
    rw [if_pos hc]
    exact (showFans_state _ n).trans ((fld_fan_other _ n _ (by decide)).trans (setFanState_state _ n (by decide)))
  · refine ⟨_, hx.trans (if_neg hc), ?_⟩
    rw [if_neg hc]
    exact setFanState_state _ n (by decide)

theorem fanListenEnd_reverse {r : RotorSpeed} (h : s.fanState n = 1) (hr : (s.fanCh n).ratedRpm * 2 ≤ r.rpm * 100) (hf : r.reverse = true) :
    Does (.fanListenEnd n r) s fun t => t.fanState n = if (s.fanCh n).ratedRpm * (s.fanCh n).brakeMaxPct < r.rpm * 100 then 3 else 2 := by
  have hx := (exec_fanListenEnd h).trans ((if_neg (Nat.not_lt.mpr hr)).trans (if_neg (by rw [hf]; decide)))
  by_cases hc : (s.fanCh n).ratedRpm * (s.fanCh n).brakeMaxPct < r.rpm * 100
  · refine ⟨_, hx.trans (if_pos (decide_eq_true hc)), ?_⟩
    rw [if_pos hc]
    exact setFanState_state _ n (by decide)
  · refine ⟨_, hx.trans (if_neg (by rw [abovePct, decide_eq_false hc]; decide)), ?_⟩
    rw [if_neg hc]
    exact setFanState_state _ n (by decide)

theorem exec_fanBrakeDone {ok : Bool} (h : s.fanState n = 2) : exec (.fanBrakeDone n ok) s =
    if ok = true then .next (s.setFanState n 4).showFans else .next (s.failFan n 3) := if_neg (not_not_intro h)

/-- The state with a rotor's speed shown and another second waited. -/
def State.fanWaited (s : State) (n : FanId) (r : RotorSpeed) : State :=
  (s.showRotor n r).putFan n { s.fan n with waited := (s.fan n).waited + 1 }

theorem exec_fanWaitRecheck {r : RotorSpeed} (h : s.fanState n = 3) : exec (.fanWaitRecheck n r) s =
    if ((r.reverse && abovePct (s.fanCh n) r.rpm (s.fanCh n).brakeMaxPct) && decide ((s.fan n).waited + 1 < 10)) = true then
      .next (s.fanWaited n r)
    else .next ((s.fanWaited n r).setFanState n 2) := if_neg (not_not_intro h)

theorem fanWaitRecheck_brakes {r : RotorSpeed} (h : s.fanState n = 3)
    (hr : r.reverse = false ∨ r.rpm * 100 ≤ (s.fanCh n).ratedRpm * (s.fanCh n).brakeMaxPct ∨ 9 ≤ (s.fan n).waited) :
    Does (.fanWaitRecheck n r) s fun t => t.fanState n = 2 := by
  refine ⟨_, (exec_fanWaitRecheck h).trans (if_neg ?_), setFanState_state _ n (by decide)⟩
  simp only [abovePct, Bool.and_eq_true, decide_eq_true_eq]
  rintro ⟨⟨hrev, habove⟩, hw⟩
  rcases hr with hr | hr | hr
  · exact absurd hr (by simp [hrev])
  · omega
  · omega

theorem fanWaitRecheck_waits {r : RotorSpeed} (h : s.fanState n = 3) (hrev : r.reverse = true)
    (habove : (s.fanCh n).ratedRpm * (s.fanCh n).brakeMaxPct < r.rpm * 100) (hw : (s.fan n).waited < 9) :
    Does (.fanWaitRecheck n r) s fun t => t.fanState n = 3 ∧ (t.fan n).waited = (s.fan n).waited + 1 := by
  refine ⟨_, (exec_fanWaitRecheck h).trans (if_pos ?_), (showRotor_state s n n r).trans h, ?_⟩
  · simp only [abovePct, hrev, Bool.true_and, Bool.and_eq_true, decide_eq_true_eq]
    omega
  · exact congrArg Fan.waited (fan_putFan_same ..)

/-! #### The end of a ramp (R392) -/

theorem writeFanBlock_estimates (s : State) (n : FanId) (est : List Nat) : ((s.writeFanBlock n est).fan n).estimates = (s.fan n).estimates := by
  unfold State.writeFanBlock
  extract_lets k seq b u
  rw [fan_of_fans (only_State_showCal _ .fans rfl)]
  exact estimates_put rfl n n rfl

theorem refineFan_estimates (s : State) (n : FanId) (est : List Nat) : ((s.refineFan n est).fan n).estimates = est := by
  have hput : ((s.putFan n { s.fan n with estimates := est }).fan n).estimates = est := congrArg Fan.estimates (fan_putFan_same ..)
  unfold State.refineFan
  extract_lets x u old due
  split
  · exact (writeFanBlock_estimates u n est).trans hput
  · exact hput

theorem showRotor_estimates (s : State) (n : FanId) (r : RotorSpeed) : ((s.showRotor n r).fan n).estimates = (s.fan n).estimates :=
  estimates_put rfl n n rfl

/-- A ramp's lock taken: the estimates refined and the speed shown. -/
def State.rampLocked (s : State) (n : FanId) (rs ls : Nat) : State :=
  (s.refineFan n ([rs, ls] ++ (s.fan n).estimates.drop 2)).showRotor n ⟨(s.fanCh n).ratedRpm * (s.fanCh n).handoverPct / 100, false⟩

/-- A channel handed over to the boost class. -/
def State.fanBoosted (s : State) (n : FanId) : State :=
  ((s.setFanState n 5).setFld (Fld.FAN_STATUS.ATTEMPT.at n.val) 0).incFld (Fld.FAN_START_COUNT.at n.val) 1

theorem exec_fanRampEnd {run : List PwmPeriod} {rs ls : Nat} (h : s.fanState n = 4) : exec (.fanRampEnd ⟨n, run⟩ true rs ls) s =
    .next (((s.rampLocked n rs ls).fanBoosted n).showFans.pwmRun n run) := if_neg (by simp [h])

theorem rampLocked_shows (s : State) (n : FanId) (rs ls : Nat) : ((s.rampLocked n rs ls).fan n).estimates = [rs, ls] ++ (s.fan n).estimates.drop 2 ∧
    (s.rampLocked n rs ls).fld (Fld.FAN_START_COUNT.at n.val) = s.fld (Fld.FAN_START_COUNT.at n.val) :=
  ⟨(showRotor_estimates _ n _).trans (refineFan_estimates ..),
   ((kept_State_showRotor _ n _).fanFld n (by decide)).trans ((kept_State_refineFan s n _).fanFld n (by decide))⟩

theorem fanBoosted_shows (s : State) (n : FanId) : (s.fanBoosted n).fanState n = 5 ∧ (s.fanBoosted n).fld (Fld.FAN_STATUS.ATTEMPT.at n.val) = 0 ∧
    (s.fanBoosted n).fld (Fld.FAN_START_COUNT.at n.val) = (s.fld (Fld.FAN_START_COUNT.at n.val) + 1) % 2 ^ Fld.FAN_START_COUNT.width := by
  refine ⟨?_, ?_, ?_⟩
  · exact (fld_fan_other _ n _ (by decide)).trans ((fld_fan_other _ n _ (by decide)).trans (setFanState_state s n (by decide)))
  · exact (fld_fan_other _ n _ (by decide)).trans ((State.fld_setFld_same ..).trans (Nat.zero_mod _))
  · refine (fld_incFld_same ..).trans ?_
    rw [show ((s.setFanState n 5).setFld (Fld.FAN_STATUS.ATTEMPT.at n.val) 0).fld (Fld.FAN_START_COUNT.at n.val) =
      s.fld (Fld.FAN_START_COUNT.at n.val) from (fld_fan_other _ n _ (by decide)).trans (fld_fan_other _ n _ (by decide))]
    rfl

theorem fanRampEnd_boosts {run : List PwmPeriod} {rs ls : Nat} (h : s.fanState n = 4) : Does (.fanRampEnd ⟨n, run⟩ true rs ls) s fun t =>
    t.fanState n = 5 ∧ t.fld (Fld.FAN_STATUS.ATTEMPT.at n.val) = 0 ∧
    t.fld (Fld.FAN_START_COUNT.at n.val) = (s.fld (Fld.FAN_START_COUNT.at n.val) + 1) % 2 ^ Fld.FAN_START_COUNT.width ∧
    (t.fan n).estimates = [rs, ls] ++ (s.fan n).estimates.drop 2 := by
  have hx := exec_fanRampEnd (run := run) (rs := rs) (ls := ls) h
  obtain ⟨hest, hcount⟩ := rampLocked_shows s n rs ls
  generalize s.rampLocked n rs ls = u at hx hest hcount
  obtain ⟨hstate, hatt, hstart⟩ := fanBoosted_shows u n
  have hfans : (u.fanBoosted n).fans = u.fans := rfl
  generalize u.fanBoosted n = v at hx hstate hatt hstart hfans
  have hk : Kept [Fld.FAN_SHIFT_COUNT, Fld.FAN_SKIP_COUNT, Fld.FAN_STATUS.SHIFTING, Fld.FAN_GLOBAL.FAULTED, Fld.FAN_GLOBAL.RUNNING, Fld.FAN_RUN_S]
      v (v.showFans.pwmRun n run) := Kept.step (kept_State_pwmRun _ n run) rfl (Kept.step (kept_State_showFans v) rfl Kept.refl)
  refine ⟨_, hx, (hk.fanFld n (by decide)).trans hstate, (hk.fanFld n (by decide)).trans hatt, ?_, ?_⟩
  · exact (hk.fanFld n (by decide)).trans (hstart.trans (by rw [hcount]))
  · rw [pwmRun_estimates, showFans_estimates, fan_of_fans hfans, hest]

/-! #### Overcurrent and stall (R380, R393) -/

theorem exec_fanOvercurrent {run : List PwmPeriod} (h0 : s.fanState n ≠ 0) (h8 : s.fanState n ≠ 8) : exec (.fanOvercurrent ⟨n, run⟩) s =
    .next (((s.pwmRun n run).setBit (Fld.FAN_STATUS.OVERCURRENT.at n.val) true).faultFan n 2) := if_neg (by simp [h0, h8])

theorem fanOvercurrent_faults {run : List PwmPeriod} (h0 : s.fanState n ≠ 0) (h8 : s.fanState n ≠ 8) : Does (.fanOvercurrent ⟨n, run⟩) s fun t =>
    t.fanState n = 8 ∧ t.fld (Fld.FAN_STATUS.FAULT_CAUSE.at n.val) = 2 ∧ t.bit (Fld.FAN_STATUS.OVERCURRENT.at n.val) = true := by
  have hx := exec_fanOvercurrent (run := run) h0 h8
  have hbit : ((s.pwmRun n run).setBit (Fld.FAN_STATUS.OVERCURRENT.at n.val) true).bit (Fld.FAN_STATUS.OVERCURRENT.at n.val) = true :=
    State.bit_setBit_same _ _ _ rfl
  generalize (s.pwmRun n run).setBit (Fld.FAN_STATUS.OVERCURRENT.at n.val) true = u at hx hbit
  obtain ⟨hstate, hcause⟩ := faultFan_faults u n (cause := 2) (by decide)
  exact ⟨_, hx, hstate, hcause, ((kept_State_faultFan u n 2).fanBit n (by decide)).trans hbit⟩

/-- A channel's stall shown. -/
def State.stallShown (s : State) (n : FanId) (run : List PwmPeriod) : State :=
  (s.pwmRun n run).setBit (Fld.FAN_STATUS.STALL.at n.val) true

theorem exec_fanStall {run : List PwmPeriod} (h : s.fanState n = 5 ∨ s.fanState n = 6) : exec (.fanStall ⟨n, run⟩) s =
    .next ((s.stallShown n run).fanListen n 0).showFans := if_pos h

theorem stallShown_shows (s : State) (n : FanId) (run : List PwmPeriod) : (s.stallShown n run).fanLocked n = s.fanLocked n ∧
    (s.stallShown n run).bit (Fld.FAN_STATUS.STALL.at n.val) = true := by
  refine ⟨fanLocked_of (s := s) (t := s.stallShown n run) ?_ ?_ n, State.bit_setBit_same _ _ _ rfl⟩
  · exact only_State_pwmRun s n run .cal rfl
  · have hk : Kept [Fld.FAN_SHIFT_COUNT, Fld.FAN_SKIP_COUNT, Fld.FAN_STATUS.SHIFTING, Fld.FAN_STATUS.STALL] s (s.stallShown n run) :=
      Kept.setBitAt rfl (Kept.step (kept_State_pwmRun s n run) rfl Kept.refl)
    exact hk.bit Fld.IMG_BOOT.SAFE_MODE (by decide)

theorem listen_shown {u : State} : (u.fanListen n 0).showFans.bit (Fld.FAN_STATUS.STALL.at n.val) = u.bit (Fld.FAN_STATUS.STALL.at n.val) :=
  ((kept_State_showFans _).fanBit n (by decide)).trans ((kept_State_fanListen u n 0).fanBit n (by decide))

/-- A channel that begins a new start sequence, as FAN_GLOBAL shows it. -/
theorem listen_starts {u : State} (h : u.fanLocked n = false) : (u.fanListen n 0).showFans.fanState n = 1 ∧
    (u.fanListen n 0).showFans.fld (Fld.FAN_STATUS.ATTEMPT.at n.val) = 0 := by
  obtain ⟨hstate, hatt, -⟩ := fanListen_listens h 0
  generalize u.fanListen n 0 = v at hstate hatt ⊢
  have hsame := sameChannel_showFans v n
  exact ⟨hsame.state.trans hstate, hsame.attempt.trans hatt⟩

theorem listen_faults {u : State} (h : u.fanLocked n = true) : (u.fanListen n 0).showFans.fanState n = 8 ∧
    (u.fanListen n 0).showFans.fld (Fld.FAN_STATUS.FAULT_CAUSE.at n.val) = 4 := by
  obtain ⟨hstate, hcause⟩ := fanListen_faults h 0
  generalize u.fanListen n 0 = v at hstate hcause ⊢
  have hsame := sameChannel_showFans v n
  exact ⟨hsame.state.trans hstate, hsame.cause.trans hcause⟩

theorem fanStall_restarts {run : List PwmPeriod} (h : s.fanState n = 5 ∨ s.fanState n = 6) (hl : s.fanLocked n = false) :
    Does (.fanStall ⟨n, run⟩) s fun t => t.fanState n = 1 ∧ t.fld (Fld.FAN_STATUS.ATTEMPT.at n.val) = 0 ∧
      t.bit (Fld.FAN_STATUS.STALL.at n.val) = true := by
  obtain ⟨hlock, hbit⟩ := stallShown_shows s n run
  obtain ⟨hstate, hatt⟩ := listen_starts (hlock.trans hl)
  exact ⟨_, exec_fanStall h, hstate, hatt, listen_shown.trans hbit⟩

theorem fanStall_locks {run : List PwmPeriod} (h : s.fanState n = 5 ∨ s.fanState n = 6) (hl : s.fanLocked n = true) :
    Does (.fanStall ⟨n, run⟩) s fun t => t.fanState n = 8 ∧ t.fld (Fld.FAN_STATUS.FAULT_CAUSE.at n.val) = 4 ∧
      t.bit (Fld.FAN_STATUS.STALL.at n.val) = true := by
  obtain ⟨hlock, hbit⟩ := stallShown_shows s n run
  obtain ⟨hstate, hcause⟩ := listen_faults (hlock.trans hl)
  exact ⟨_, exec_fanStall h, hstate, hcause, listen_shown.trans hbit⟩

/-! #### A change of class (R385, R387) -/

/-- Whether a channel's speed is within 5 % of its target. -/
def State.fanSettled (s : State) (n : FanId) (rpm : Nat) : Prop :=
  ((s.fld (Fld.FAN_TARGET.RPM.at n.val) : Int) - rpm).natAbs * 20 ≤ s.fld (Fld.FAN_TARGET.RPM.at n.val)

/-- The flux constant that the steady class has refined. -/
def State.fluxRefined (s : State) (n : FanId) (ke : Nat) : State :=
  s.refineFan n ((s.fan n).estimates.take 2 ++ [ke] ++ (s.fan n).estimates.drop 3)

theorem pwmRun_therm (s : State) (n : FanId) (run : List PwmPeriod) : (s.pwmRun n run).thermState = s.thermState :=
  (kept_State_pwmRun s n run).fld _ (by decide)

theorem exec_fanClassChange_steady {rpm ke : Nat} {run : List PwmPeriod} (h : s.fanState n = 5 ∧ s.thermState = 0 ∧ s.fanSettled n rpm) :
    exec (.fanClassChange ⟨n, run⟩ rpm ke) s = .next (((s.pwmRun n run).showRotor n ⟨rpm, false⟩).setFanState n 6) := by
  rw [← pwmRun_state s n n run, ← pwmRun_therm s n run] at h
  exact if_pos h

theorem exec_fanClassChange_boost {rpm ke : Nat} {run : List PwmPeriod} (h6 : s.fanState n = 6)
    (h : s.thermState ≠ 0 ∨ rpm * 12 < s.fld (Fld.FAN_TARGET.RPM.at n.val) * 10) :
    exec (.fanClassChange ⟨n, run⟩ rpm ke) s =
      .next ((((s.pwmRun n run).fluxRefined n ke).showRotor n ⟨rpm, false⟩).setFanState n 5) := by
  rw [← pwmRun_therm s n run] at h
  have h6' := (pwmRun_state s n n run).trans h6
  exact (if_neg fun hc => absurd (h6'.symm.trans hc.1) (by decide)).trans (if_pos ⟨h6', h⟩)

theorem exec_fanClassChange_stays {rpm ke : Nat} {run : List PwmPeriod} (h5 : ¬ (s.fanState n = 5 ∧ s.thermState = 0 ∧ s.fanSettled n rpm))
    (h6 : ¬ (s.fanState n = 6 ∧ (s.thermState ≠ 0 ∨ rpm * 12 < s.fld (Fld.FAN_TARGET.RPM.at n.val) * 10))) :
    exec (.fanClassChange ⟨n, run⟩ rpm ke) s = .next (s.pwmRun n run) := by
  rw [← pwmRun_state s n n run, ← pwmRun_therm s n run] at h5 h6
  exact (if_neg h5).trans (if_neg h6)

theorem rotorShown_state (s : State) (n : FanId) {r : RotorSpeed} {v : Nat} (hv : v < 16) : ((s.showRotor n r).setFanState n v).fanState n = v ∧
    ((s.showRotor n r).setFanState n v).fld (Fld.FAN_SPEED.RPM.at n.val) = r.rpm % 2 ^ Fld.FAN_SPEED.RPM.width :=
  ⟨setFanState_state _ n hv, (fld_fan_other _ n _ (by decide)).trans ((fld_fan_other _ n _ (by decide)).trans (State.fld_setFld_same ..))⟩

theorem fanClassChange_stays {rpm ke : Nat} {run : List PwmPeriod}
    (h : (s.fanState n = 5 ∧ (s.thermState ≠ 0 ∨ s.fld (Fld.FAN_TARGET.RPM.at n.val) <
         ((s.fld (Fld.FAN_TARGET.RPM.at n.val) : Int) - rpm).natAbs * 20)) ∨
       (s.fanState n = 6 ∧ s.thermState = 0 ∧ s.fld (Fld.FAN_TARGET.RPM.at n.val) * 10 ≤ rpm * 12)) :
    Does (.fanClassChange ⟨n, run⟩ rpm ke) s fun t => t.fanState n = s.fanState n := by
  refine ⟨_, exec_fanClassChange_stays ?_ ?_, pwmRun_state s n n run⟩
  · rintro ⟨h5, h0, hs⟩
    rcases h with ⟨-, h | h⟩ | ⟨h6, -⟩
    · exact h h0
    · exact absurd hs (Nat.not_le.mpr h)
    · exact absurd (h5.symm.trans h6) (by decide)
  · rintro ⟨h6, hb⟩
    rcases h with ⟨h5, -⟩ | ⟨-, h0, ht⟩
    · exact absurd (h5.symm.trans h6) (by decide)
    · rcases hb with hb | hb
      · exact hb h0
      · exact absurd hb (Nat.not_lt.mpr ht)

/-! #### The pins (R384) -/

theorem exec_fanPinLoss (h : s.bit (Fld.FAN_PIN.VALID.at n.val) = true) : exec (.fanPinLoss n) s =
    .next ((s.setBit (Fld.FAN_PIN.VALID.at n.val) false).emit .fanPinLoss [n.val]).showPinLoss.updateFans := if_pos h

theorem showPinLoss_lost {u : State} (hv : u.bit (Fld.FAN_PIN.VALID.at n.val) = false) (he : u.fanCfg.pinEn / 2 ^ n.val % 2 = 1) :
    u.showPinLoss.bit Fld.THERM_STATUS.PIN_LOSS = true := by
  refine (State.bit_setBit_same _ _ _ rfl).trans (List.any_eq_true.mpr ⟨n, List.mem_finRange n, ?_⟩)
  rw [decide_eq_true he, hv]
  rfl

/-- A channel's pin shown as lost. -/
def State.pinLost (s : State) (n : FanId) : State := (s.setBit (Fld.FAN_PIN.VALID.at n.val) false).emit .fanPinLoss [n.val]

theorem fanPinLoss_shows (h : s.bit (Fld.FAN_PIN.VALID.at n.val) = true) : Does (.fanPinLoss n) s fun t =>
    t.bit (Fld.FAN_PIN.VALID.at n.val) = false ∧ (s.fanCfg.pinEn / 2 ^ n.val % 2 = 1 → t.bit Fld.THERM_STATUS.PIN_LOSS = true) := by
  have hx : exec (.fanPinLoss n) s = .next (s.pinLost n).showPinLoss.updateFans := exec_fanPinLoss h
  have hv : (s.pinLost n).bit (Fld.FAN_PIN.VALID.at n.val) = false := State.bit_setBit_same _ _ _ rfl
  have hsafe : (s.pinLost n).safeMode = s.safeMode :=
    (Kept.setFldAt (l := [Fld.FAN_PIN.VALID]) rfl Kept.refl : Kept _ s (s.setBit (Fld.FAN_PIN.VALID.at n.val) false)).bit Fld.IMG_BOOT.SAFE_MODE (by decide)
  have hcfg : (s.pinLost n).fanCfg = s.fanCfg := by
    unfold State.fanCfg
    rw [hsafe]
    rfl
  generalize s.pinLost n = u at hx hv hcfg
  refine ⟨_, hx, ?_, fun he => ?_⟩
  · exact ((kept_State_updateFans _).fanBit n (by decide)).trans (((kept_State_showPinLoss u).fanBit n (by decide)).trans hv)
  · exact ((kept_State_updateFans _).bit _ (by decide)).trans (showPinLoss_lost hv (hcfg ▸ he))

/-- A channel's pin shown as valid with its duty cycle. -/
def State.pinShown (s : State) (n : FanId) (duty : Nat) : State :=
  (s.setBit (Fld.FAN_PIN.VALID.at n.val) true).setFld (Fld.FAN_PIN.DUTY.at n.val) (min 1000 duty)

theorem fanPinValid_shows {duty : Nat} : Does (.fanPinValid n duty) s fun t => t.bit (Fld.FAN_PIN.VALID.at n.val) = true ∧
    t.fld (Fld.FAN_PIN.DUTY.at n.val) = min 1000 duty := by
  have hx : exec (.fanPinValid n duty) s = .next (s.pinShown n duty).showPinLoss.updateFans := rfl
  have hv : (s.pinShown n duty).bit (Fld.FAN_PIN.VALID.at n.val) = true :=
    (bit_setFld_off _ _ _ _ (by decide)).trans (State.bit_setBit_same _ _ _ rfl)
  have hd : (s.pinShown n duty).fld (Fld.FAN_PIN.DUTY.at n.val) = min 1000 duty :=
    (State.fld_setFld_same ..).trans (Nat.mod_eq_of_lt (lt_of_le_of_lt (Nat.min_le_left ..) (by decide : 1000 < 2 ^ Fld.FAN_PIN.DUTY.width)))
  generalize s.pinShown n duty = u at hx hv hd
  refine ⟨_, hx, ?_, ?_⟩
  · exact ((kept_State_updateFans _).fanBit n (by decide)).trans (((kept_State_showPinLoss u).fanBit n (by decide)).trans hv)
  · exact ((kept_State_updateFans _).fanFld n (by decide)).trans (((kept_State_showPinLoss u).fanFld n (by decide)).trans hd)

/-! #### Commands of a channel (R393, R395) -/

theorem fanIgnored_shows (s : State) (n : FanId) (c : Nat) : (s.fanIgnored n c).regs = s.regs ∧ (s.fanIgnored n c).fans = s.fans ∧
    (s.fanIgnored n c).evr.arrivals.length = s.evr.arrivals.length + 1 := ⟨rfl, rfl, List.length_append ..⟩

/-- A channel whose fault is cleared. -/
def State.fanUnfaulted (s : State) (n : FanId) : State :=
  ((s.setFanState n 0).setFld (Fld.FAN_STATUS.FAULT_CAUSE.at n.val) 0).setFld (Fld.FAN_STATUS.ATTEMPT.at n.val) 0

theorem fanUnfaulted_cleared (s : State) (n : FanId) : (s.fanUnfaulted n).fanCleared n := by
  have hstate : (s.fanUnfaulted n).fanState n = 0 :=
    (fld_fan_other _ n _ (by decide)).trans ((fld_fan_other _ n _ (by decide)).trans (setFanState_state s n (by decide)))
  exact ⟨hstate ▸ Nat.zero_le 1, (fld_fan_other _ n _ (by decide)).trans ((State.fld_setFld_same ..).trans (Nat.zero_mod _))⟩

variable (ht : s.Takes (Fld.FAN_CMD.CMD.at n.val).addr)
include ht

theorem exec_fanClearFault : exec (.fanClearFault n) s =
    if s.fanState n = 8 then .next (s.fanUnfaulted n).updateFans else .next (s.fanIgnored n 1) := by
  simp only [exec, execFanClearFault, State.fanUnfaulted, command_takes _ _ _ ht]

theorem exec_fanRestart : exec (.fanRestart n) s =
    if s.fanState n = 0 ∨ s.fanState n = 8 then .next (s.fanIgnored n 2) else .next (s.fanListen n 0).showFans := by
  simp only [exec, execFanRestart, command_takes _ _ _ ht]

theorem exec_fanRelearn : exec (.fanRelearn n) s =
    if s.fanOn n = true then .next (s.putFan n { s.fan n with relearn := true }) else .next (s.fanIgnored n 3) := by
  simp only [exec, execFanRelearn, command_takes _ _ _ ht]

end

/-- Settles O57. -/
theorem fanChannelsFollowTheirSequences : Obligations.FanChannelsFollowTheirSequences := by
  unfold Obligations.FanChannelsFollowTheirSequences
  refine ⟨?still, ?forward, ?reverse, ?braked, ?brakeRetry, ?brakeLast, ?waitOver, ?waits, ?ramped, ?unlocked, ?attemptRetry, ?attemptLast,
    ?retried, ?retryLocked, ?overcurrent, ?overcurrentOff, ?stalled, ?stallLocked, ?steady, ?boost, ?stays, ?pinLost, ?pinGone, ?pinBack,
    ?cleared, ?clearIgnored, ?restarted, ?restartLocked, ?restartIgnored, ?relearnt, ?relearnIgnored⟩
  case still => exact fun s n r h hr => fanListenEnd_still h hr
  case forward => exact fun s n r h hr hf => fanListenEnd_forward h hr hf
  case reverse => exact fun s n r h hr hf => fanListenEnd_reverse h hr hf
  case braked =>
    exact fun s n h => ⟨_, (exec_fanBrakeDone h).trans (if_pos rfl), (showFans_state _ n).trans (setFanState_state s n (by decide))⟩
  case brakeRetry =>
    exact fun s n h ha => ⟨_, (exec_fanBrakeDone h).trans (if_neg (by decide)), failFan_retries ha 3⟩
  case brakeLast =>
    exact fun s n h ha => ⟨_, (exec_fanBrakeDone h).trans (if_neg (by decide)), failFan_last ha (by decide)⟩
  case waitOver => exact fun s n r h hr => fanWaitRecheck_brakes h hr
  case waits => exact fun s n r h hrev habove hw => fanWaitRecheck_waits h hrev habove hw
  case ramped => exact fun s n rs ls run h => fanRampEnd_boosts h
  case unlocked => exact fun s n rs ls run => ⟨_, if_pos (.inr (by decide)), rfl⟩
  case attemptRetry => exact fun s n h ha => ⟨_, if_pos h, (failFan_retries ha 1).1⟩
  case attemptLast => exact fun s n h ha => ⟨_, if_pos h, failFan_last ha (by decide)⟩
  case retried =>
    intro s n h hl
    obtain ⟨hstate, hatt, -⟩ := fanListen_listens (s := s) hl (s.fld (Fld.FAN_STATUS.ATTEMPT.at n.val) + 1)
    exact ⟨_, if_pos h, hstate, hatt⟩
  case retryLocked => exact fun s n h hl => ⟨_, if_pos h, fanListen_faults hl _⟩
  case overcurrent => exact fun s n run h0 h8 => fanOvercurrent_faults h0 h8
  case overcurrentOff => exact fun s n run h => ⟨_, if_pos h, rfl⟩
  case stalled => exact fun s n run h hl => fanStall_restarts h hl
  case stallLocked => exact fun s n run h hl => fanStall_locks h hl
  case steady => exact fun s n rpm ke run h5 h0 hs => ⟨_, exec_fanClassChange_steady ⟨h5, h0, hs⟩, rotorShown_state _ n (by decide)⟩
  case boost => exact fun s n rpm ke run h6 h => ⟨_, exec_fanClassChange_boost h6 h, rotorShown_state _ n (by decide)⟩
  case stays => exact fun s n rpm ke run h => fanClassChange_stays h
  case pinLost => exact fun s n h => fanPinLoss_shows h
  case pinGone => exact fun s n h => ⟨_, if_neg (by simp [h]), rfl⟩
  case pinBack => exact fun s n duty => fanPinValid_shows
  case cleared => exact fun s n ht h => ⟨_, (exec_fanClearFault ht).trans (if_pos h), updateFans_cleared (fanUnfaulted_cleared s n)⟩
  case clearIgnored => exact fun s n ht h => ⟨_, (exec_fanClearFault ht).trans (if_neg h), fanIgnored_shows s n 1⟩
  case restarted => exact fun s n ht h0 h8 hl => ⟨_, (exec_fanRestart ht).trans (if_neg (by simp [h0, h8])), listen_starts hl⟩
  case restartLocked => exact fun s n ht h0 h8 hl => ⟨_, (exec_fanRestart ht).trans (if_neg (by simp [h0, h8])), listen_faults hl⟩
  case restartIgnored => exact fun s n ht h => ⟨_, (exec_fanRestart ht).trans (if_pos h), fanIgnored_shows s n 2⟩
  case relearnt =>
    exact fun s n ht h => ⟨_, (exec_fanRelearn ht).trans (if_pos h), congrArg Fan.relearn (fan_putFan_same ..), rfl⟩
  case relearnIgnored => exact fun s n ht h => ⟨_, (exec_fanRelearn ht).trans (if_neg (by simp [h])), fanIgnored_shows s n 3⟩

end Sys2Proof.Machine

/-!
The plucks (O52): an entry put into the table, settled, dropped and run is said once each; the clauses of the commands cite it.
-/
namespace Sys2Proof.Machine

/-! ### The pluck table (R340, R341) -/

theorem pluck_putPluck (s : State) (i : Nat) (e : PluckEnt) : (s.putPluck i e).pluck i = some e := tget_tput_same ..

theorem nodeId_of_img {s t : State} (h : t.img = s.img) : t.nodeId = s.nodeId := by
  simp only [State.nodeId, State.ownIdentity, State.oldImage, h]

theorem pluckTe_of_img {s t : State} (h : t.img = s.img) (q : PluckReq) : t.pluckTe q = s.pluckTe q := by
  simp only [State.pluckTe, nodeId_of_img h]

theorem nextOccurrence_of {s t : State} (h : t.img = s.img) (hnow : t.fld Fld.PIT_NOW = s.fld Fld.PIT_NOW) (q : PluckReq) :
    t.nextOccurrence q = s.nextOccurrence q := by
  simp only [State.nextOccurrence, pluckTe_of_img h, hnow]

section
variable {s : State} {i : Nat} {e : PluckEnt} {st : PluckSt} {reason : Nat}

theorem settlePluck_once (h : e.msg.req.periodS = 0) : s.settlePluck i e st reason = s.putPluck i { e with state := st, reason := reason } := if_pos h

theorem settlePluck_again (h : e.msg.req.periodS ≠ 0) : s.settlePluck i e st reason =
    s.putPluck i { e with msg := { e.msg with req := s.nextOccurrence e.msg.req }, state := .armed, reason := reason } := if_neg h

theorem dropPluck_once (h : e.msg.req.periodS = 0) : (s.dropPluck i e reason).pluck i = some { e with state := .dropped, reason := reason } := by
  rw [State.dropPluck, settlePluck_once h, pluck_putPluck]

theorem dropPluck_again (h : e.msg.req.periodS ≠ 0) : (s.dropPluck i e reason).pluck i =
    some { e with msg := { e.msg with req := s.nextOccurrence e.msg.req }, state := .armed, reason := reason } := by
  rw [State.dropPluck, settlePluck_again h, pluck_putPluck,
    nextOccurrence_of (s := s) (t := s.incFld Fld.PLUCK_DROP_COUNT 1) rfl (State.fld_setFld_ne _ _ _ _ (by decide))]

theorem dropPluck_counts (s : State) (i : Nat) (e : PluckEnt) (reason : Nat) :
    (s.dropPluck i e reason).fld Fld.PLUCK_DROP_COUNT = (s.fld Fld.PLUCK_DROP_COUNT + 1) % 2 ^ Fld.PLUCK_DROP_COUNT.width :=
  ((kept_State_settlePluck _ i e .dropped reason).fld _ (by decide)).trans (fld_incFld_same ..)

theorem dropPluck_out (s : State) (i : Nat) (e : PluckEnt) (reason : Nat) : (s.dropPluck i e reason).fed.out = s.fed.out := by
  unfold State.dropPluck State.settlePluck
  split <;> rfl

/-! ### The commands of PLUCK_CMD (R342, R348) -/

theorem pluckDone_shows (s : State) {n : Nat} (h : n < 16) : (s.pluckDone n).fld Fld.PLUCK_STATUS.ERROR = n ∧
    (s.pluckDone n).bit Fld.PLUCK_STATUS.DONE = true ∧ (s.pluckDone n).fed = s.fed :=
  ⟨(State.fld_setFld_same ..).trans (Nat.mod_eq_of_lt h),
   (State.bit_setFld_ne _ _ _ _ (by decide)).trans (State.bit_setBit_same _ _ _ rfl), rfl⟩

theorem pluckError_lt (s : State) : s.pluckError < 16 := by
  unfold State.pluckError
  dsimp only
  split
  · decide
  · split
    · decide
    · split <;> decide

theorem cancelError_lt (s : State) : s.cancelError < 16 := by
  unfold State.cancelError
  split
  · decide
  · split
    · decide
    · split <;> decide

theorem exec_pluckWrite (ht : s.Takes Fld.PLUCK_CMD.CMD.addr) : exec .pluckWrite s =
    if s.pluckError ≠ 0 then .next (s.pluckDone s.pluckError) else .next (s.writePluck.2.pluckDone 0) := by
  simp only [exec, execPluckWrite, command_takes _ _ _ ht]

theorem pluckWrite_installs (ht : s.Takes Fld.PLUCK_CMD.CMD.addr) (h : s.pluckError = 0) : Does .pluckWrite s fun t =>
    t.fld Fld.PLUCK_STATUS.ERROR = 0 ∧ ∃ e, t.pluck (s.fld Fld.PLUCK_SEL.INDEX) = some e ∧ e.state = .armed ∧
      e.msg.req = pluckOf (s.fld Fld.PLUCK_DATA) ∧ e.msg.origin = s.nodeId := by
  refine ⟨_, (exec_pluckWrite ht).trans (if_neg (by simp [h])), (pluckDone_shows _ (by decide)).1,
    ⟨s.writePluck.1, .armed, 0, false, 0⟩, pluck_putPluck s _ _, rfl, rfl, rfl⟩

theorem pluckWrite_refused (ht : s.Takes Fld.PLUCK_CMD.CMD.addr) {n : Nat} (h : s.pluckError = n) (hn : n ≠ 0) : Does .pluckWrite s fun t =>
    t.fld Fld.PLUCK_STATUS.ERROR = n ∧ t.bit Fld.PLUCK_STATUS.DONE = true ∧ t.fed = s.fed := by
  subst h
  exact ⟨_, (exec_pluckWrite ht).trans (if_pos hn), pluckDone_shows s (pluckError_lt s)⟩

/-- A pluck written and sent, with the answers to it cleared but the writer's own. -/
def State.pluckSent (s : State) (late : Bool) : State :=
  let s := (s.writePluck.2.fedSend (.pluck s.writePluck.1)).pluckDone 0
  ((s.setFld Fld.PLUCK_DIST.ACKED (if late then 0 else 1)).setFld Fld.PLUCK_DIST.FULL 0).setFld Fld.PLUCK_DIST.LATE (if late then 1 else 0)

/-- The distribution of a pluck begun with the answers that are left. -/
def State.distBegun (s : State) (left : Nat) : State := (s.withFed { s.fed with distLeft := left }).setBit Fld.PLUCK_DIST.COMPLETE false

theorem exec_pluckWriteFed (ht : s.Takes Fld.PLUCK_CMD.CMD.addr) : exec .pluckWriteFed s =
    if (!s.joined) = true then .next (s.pluckDone 3)
    else if s.pluckError ≠ 0 then .next (s.pluckDone s.pluckError)
    else
      let u := s.pluckSent (s.pastTe (pluckOf (s.fld Fld.PLUCK_DATA)))
      let left := s.fed.members.length - 1
      .next (if left = 0 then (u.distBegun left).distDone else u.distBegun left) := by
  simp only [exec, execPluckWriteFed, command_takes _ _ _ ht]
  rfl

theorem pluckSent_shows (s : State) (late : Bool) : (s.pluckSent late).fld Fld.PLUCK_DIST.ACKED = (if late then 0 else 1) ∧
    (s.pluckSent late).fld Fld.PLUCK_DIST.LATE = (if late then 1 else 0) ∧
    (s.pluckSent late).fed.out = s.fed.out ++ [.pluck s.writePluck.1] := by
  refine ⟨?_, ?_, rfl⟩
  · refine (State.fld_setFld_ne _ _ _ _ (by decide)).trans ((State.fld_setFld_ne _ _ _ _ (by decide)).trans ((State.fld_setFld_same ..).trans ?_))
    cases late <;> rfl
  · refine (State.fld_setFld_same ..).trans ?_
    cases late <;> rfl

theorem distDone_shows (s : State) : s.distDone.fed.distLeft = 0 ∧ s.distDone.bit Fld.PLUCK_DIST.COMPLETE = true ∧
    s.distDone.fed.out = s.fed.out := ⟨rfl, State.bit_setBit_same _ _ _ rfl, rfl⟩

theorem kept_distDone (s : State) : Kept [Fld.PLUCK_DIST.COMPLETE] s s.distDone := Kept.setBit rfl (Kept.regs rfl Kept.refl)

theorem kept_distBegun (s : State) (left : Nat) : Kept [Fld.PLUCK_DIST.COMPLETE] s (s.distBegun left) := Kept.setBit rfl (Kept.regs rfl Kept.refl)

/-- What the distribution of a pluck leaves: what was sent, and COMPLETE where no answer is left. -/
theorem distribution_shows (u : State) (left : Nat) :
    Kept [Fld.PLUCK_DIST.COMPLETE] u (if left = 0 then (u.distBegun left).distDone else u.distBegun left) ∧
    (if left = 0 then (u.distBegun left).distDone else u.distBegun left).fed.distLeft = left ∧
    (if left = 0 then (u.distBegun left).distDone else u.distBegun left).fed.out = u.fed.out ∧
    (if left = 0 then (u.distBegun left).distDone else u.distBegun left).bit Fld.PLUCK_DIST.COMPLETE = decide (left = 0) := by
  by_cases h : left = 0
  · simp only [if_pos h, decide_eq_true h]
    exact ⟨Kept.step (kept_distDone _) rfl (kept_distBegun u left), h.symm, rfl, State.bit_setBit_same _ _ _ rfl⟩
  · simp only [if_neg h, decide_eq_false h]
    exact ⟨kept_distBegun u left, rfl, rfl, State.bit_setBit_same _ _ _ rfl⟩

theorem pluckWriteFed_distributes (ht : s.Takes Fld.PLUCK_CMD.CMD.addr) (hj : s.joined = true) (h : s.pluckError = 0) {late : Bool}
    (hl : s.pastTe (pluckOf (s.fld Fld.PLUCK_DATA)) = late) : Does .pluckWriteFed s fun t =>
      t.fld Fld.PLUCK_DIST.ACKED = (if late then 0 else 1) ∧ t.fld Fld.PLUCK_DIST.LATE = (if late then 1 else 0) ∧
      t.fed.distLeft = s.fed.members.length - 1 ∧ t.fed.out = s.fed.out ++ [.pluck s.writePluck.1] ∧
      t.bit Fld.PLUCK_DIST.COMPLETE = decide (s.fed.members.length - 1 = 0) := by
  obtain ⟨hack, hlate, hout⟩ := pluckSent_shows s late
  have hx := (exec_pluckWriteFed ht).trans ((if_neg (by simp [hj])).trans (if_neg (by simp [h])))
  dsimp only at hx
  rw [hl] at hx
  generalize s.pluckSent late = u at hx hack hlate hout
  obtain ⟨hk, hleft, hsent, hcomplete⟩ := distribution_shows u (s.fed.members.length - 1)
  exact ⟨_, hx, (hk.fld _ (by decide)).trans hack, (hk.fld _ (by decide)).trans hlate, hleft, hsent.trans hout, hcomplete⟩

theorem pluckWriteFed_refused (ht : s.Takes Fld.PLUCK_CMD.CMD.addr) (hj : s.joined = true) {n : Nat} (h : s.pluckError = n) (hn : n ≠ 0) :
    Does .pluckWriteFed s fun t => t.fld Fld.PLUCK_STATUS.ERROR = n ∧ t.fed = s.fed := by
  subst h
  obtain ⟨herr, -, hfed⟩ := pluckDone_shows s (pluckError_lt s)
  exact ⟨_, (exec_pluckWriteFed ht).trans ((if_neg (by simp [hj])).trans (if_pos hn)), herr, hfed⟩

theorem exec_pluckCancel_armed (ht : s.Takes Fld.PLUCK_CMD.CMD.addr) (hc : s.cancelError = 0) (hp : s.pluck (s.fld Fld.PLUCK_SEL.INDEX) = some e) :
    exec .pluckCancel s = .next ((s.putPluck (s.fld Fld.PLUCK_SEL.INDEX) { e with state := .cancelled }).pluckDone 0) := by
  simp only [exec, execPluckCancel, command_takes _ _ _ ht, hc, hp]

theorem exec_pluckCancel_refused (ht : s.Takes Fld.PLUCK_CMD.CMD.addr) {n : Nat} (hc : s.cancelError = n) (hn : n ≠ 0) :
    exec .pluckCancel s = .next (s.pluckDone n) := by
  simp only [exec, execPluckCancel, command_takes _ _ _ ht, hc]
  cases n with
  | zero => exact absurd rfl hn
  | succ n => rfl

theorem cancelError_armed (hp : s.pluck (s.fld Fld.PLUCK_SEL.INDEX) = some e) (hs : e.standing = false) (ha : e.state = .armed) :
    s.cancelError = 0 := by
  simp only [State.cancelError, hp, hs, ha, Bool.false_eq_true, if_false, if_true]

/-- A cancellation leaves no armed entry of the origin and identifier. -/
theorem cancelAll_cancels (s : State) (origin id : Nat) : ∀ p, p ∈ (s.cancelAll origin id).fed.plucks → p.2.msg.origin = origin → p.2.msg.id = id →
    p.2.standing = false → p.2.state ≠ .armed := by
  intro p hp ho hi hs
  obtain ⟨q, -, rfl⟩ := List.mem_map.mp hp
  by_cases hq : q.2.msg.origin = origin ∧ q.2.msg.id = id ∧ q.2.standing = false ∧ q.2.state = .armed
  · simp [hq]
  · simp only [if_neg hq] at ho hi hs ⊢
    exact fun ha => hq ⟨ho, hi, hs, ha⟩

theorem exec_pluckCancelFed (ht : s.Takes Fld.PLUCK_CMD.CMD.addr) : exec .pluckCancelFed s =
    if (!s.joined) = true then .next (s.pluckDone 3)
    else
      match s.pluck (s.fld Fld.PLUCK_SEL.INDEX) with
      | none => .next (s.pluckDone 1)
      | some e =>
        if e.standing then .next (s.pluckDone 4)
        else .next (((s.cancelAll e.msg.origin e.msg.id).fedSend (.cancel e.msg.origin e.msg.id)).pluckDone 0) := by
  simp only [exec, execPluckCancelFed, command_takes _ _ _ ht] <;> rfl

theorem pluckCancelFed_cancels (ht : s.Takes Fld.PLUCK_CMD.CMD.addr) (hj : s.joined = true) (hp : s.pluck (s.fld Fld.PLUCK_SEL.INDEX) = some e)
    (hs : e.standing = false) : Does .pluckCancelFed s fun t =>
      t.fed.out = s.fed.out ++ [.cancel e.msg.origin e.msg.id] ∧ t.fld Fld.PLUCK_STATUS.ERROR = 0 ∧
      ∀ p, p ∈ t.fed.plucks → p.2.msg.origin = e.msg.origin → p.2.msg.id = e.msg.id → p.2.standing = false → p.2.state ≠ .armed := by
  have hx := (exec_pluckCancelFed ht).trans (if_neg (by simp [hj]))
  simp only [hp, hs, Bool.false_eq_true, if_false] at hx
  exact ⟨_, hx, rfl, (pluckDone_shows _ (by decide)).1, cancelAll_cancels s _ _⟩

/-! ### Answers (R342) -/

theorem exec_pluckAnswerReceive {ans : PluckAnswer} (h : s.fed.distLeft ≠ 0) {f : Field}
    (hf : f = match ans with | .ack => Fld.PLUCK_DIST.ACKED | .full => Fld.PLUCK_DIST.FULL | .late => Fld.PLUCK_DIST.LATE) :
    exec (.pluckAnswerReceive ans) s = if s.fed.distLeft - 1 = 0 then .next (s.incFld f 1).distDone
      else .next ((s.incFld f 1).withFed { s.fed with distLeft := s.fed.distLeft - 1 }) := by
  subst hf
  cases ans <;> exact if_neg h

/-- A counted answer: one is left less, and with none left the distribution is complete. -/
theorem answer_counts {ans : PluckAnswer} (h : s.fed.distLeft ≠ 0) {f : Field}
    (hf : f = match ans with | .ack => Fld.PLUCK_DIST.ACKED | .full => Fld.PLUCK_DIST.FULL | .late => Fld.PLUCK_DIST.LATE) :
    Does (.pluckAnswerReceive ans) s fun t => t.fed.distLeft = s.fed.distLeft - 1 ∧ t.fld f = (s.fld f + 1) % 2 ^ f.width ∧
      (s.fed.distLeft = 1 → t.bit Fld.PLUCK_DIST.COMPLETE = true) := by
  have hcount : (s.incFld f 1).fld f = (s.fld f + 1) % 2 ^ f.width := fld_incFld_same ..
  by_cases h1 : s.fed.distLeft - 1 = 0
  · refine ⟨_, (exec_pluckAnswerReceive h hf).trans (if_pos h1), h1.symm, ?_, fun _ => (distDone_shows _).2.1⟩
    refine (State.fld_setFld_ne _ _ _ _ ?_).trans hcount
    subst hf
    cases ans <;> decide
  · exact ⟨_, (exec_pluckAnswerReceive h hf).trans (if_neg h1), rfl, hcount, fun he => absurd (by omega) h1⟩

theorem exec_pluckDistTimeout (h : s.fed.distLeft ≠ 0) : exec .pluckDistTimeout s = .next s.distDone := if_neg h

/-! ### An entry at its time (R341, R343, R346) -/

/-- A lower armed entry has the same time (R341). -/
def State.lowerArmed (s : State) (i te : Nat) : Bool :=
  s.fed.plucks.any (fun p => decide (p.1 < i) && p.2.state == .armed && s.pluckTe p.2.msg.req == te)

theorem exec_pluckFire {index : Fin 256} {now : Nat} (hp : s.pluck index.val = some e) (hn : s.pitch = some now) : exec (.pluckFire index) s =
    if e.state ≠ .armed ∨ now < s.pluckTe e.msg.req ∨ s.lowerArmed index.val (s.pluckTe e.msg.req) = true then .next s
    else .next (s.firePluck index.val e now) := by
  simp only [exec, execPluckFire, hp, hn, State.lowerArmed]
  rfl

theorem exec_pluckFire_idle {index : Fin 256} (h : s.pluck index.val = none ∨ s.pitch = none) : exec (.pluckFire index) s = .next s := by
  simp only [exec, execPluckFire]
  split
  next hp hn => rcases h with h | h <;> simp [h] at hp hn
  next => rfl

theorem firePluck_runs {now : Nat} (h : s.pluckHeld e.msg.req = false) : s.firePluck i e now = s.runPluck i e now := if_neg (by simp [h])

/-- An entry that the device's state lets run: its action is not one of the Fingerboard die, or nothing keeps that from it (R346). -/
def State.mayRun (s : State) (q : PluckReq) : Prop :=
  pluckFast q.action = false ∨ (s.acFail = false ∧ s.safeMode = false ∧ s.tamperHold = false)

theorem runPluck_late {now : Nat} (hl : s.pluckTe e.msg.req + 8 ≤ now) (hr : s.runsLate e.msg.req (now - s.pluckTe e.msg.req) = false) :
    s.runPluck i e now = (s.noteLate i e (now - s.pluckTe e.msg.req)).2.dropPluck i { e with lateness := now - s.pluckTe e.msg.req } 1 :=
  if_pos (by simp [hl, hr])

theorem runPluck_mains {now : Nat} (hl : now < s.pluckTe e.msg.req + 8) (hf : pluckFast e.msg.req.action = true) (ha : s.acFail = true) :
    s.runPluck i e now = s.dropPluck i e 2 :=
  (if_neg (by simp [Nat.not_le.mpr hl])).trans (if_pos (by simp [hf, ha]))

theorem runPluck_gated {now : Nat} (hl : now < s.pluckTe e.msg.req + 8) (hf : pluckFast e.msg.req.action = true) (ha : s.acFail = false)
    (hg : s.safeMode = true ∨ s.tamperHold = true) : s.runPluck i e now = s.dropPluck i e 4 :=
  (if_neg (by simp [Nat.not_le.mpr hl])).trans ((if_neg (by simp [ha])).trans (if_pos (by simpa [hf] using hg)))

/-- What an action's end leaves of its entry (R341). -/
def State.pluckEnded (y : PluckEnd × State) (i : Nat) (e : PluckEnt) (st : PluckSt) : State :=
  match y.1 with
  | .ran => y.2.settlePluck i e st 0
  | .running => y.2.putPluck i { e with state := .running, reason := 0 }
  | .absent => y.2.dropPluck i e 3

theorem runPluck_onTime {now : Nat} (hl : now < s.pluckTe e.msg.req + 8) (hm : s.mayRun e.msg.req) :
    s.runPluck i e now = State.pluckEnded (s.pluckAct i e.msg.req (s.pluckTe e.msg.req) now) i e .done := by
  unfold State.runPluck
  simp only [decide_eq_false (Nat.not_le.mpr hl), Bool.false_and, Bool.false_eq_true, if_false]
  rw [if_neg (by rcases hm with h | ⟨h, -, -⟩ <;> simp [h]), if_neg (by rcases hm with h | ⟨-, h, h'⟩ <;> simp [*])]
  rfl

/-- A late entry noted and counted. -/
def State.lateNoted (s : State) (i : Nat) (e : PluckEnt) (late : Nat) : State := (s.noteLate i e late).2.incFld Fld.PLUCK_LATE_COUNT 1

theorem runPluck_lateRuns {now : Nat} (hl : s.pluckTe e.msg.req + 8 ≤ now) (hr : s.runsLate e.msg.req (now - s.pluckTe e.msg.req) = true)
    (hm : s.mayRun e.msg.req) : s.runPluck i e now =
      State.pluckEnded ((s.lateNoted i e (now - s.pluckTe e.msg.req)).pluckAct i e.msg.req (s.pluckTe e.msg.req) now) i
        { e with lateness := now - s.pluckTe e.msg.req } .lateDone := by
  unfold State.runPluck
  simp only [decide_eq_true hl, hr, Bool.not_true, Bool.and_false, Bool.false_eq_true, if_false, if_true]
  rw [if_neg (by rcases hm with h | ⟨h, -, -⟩ <;> simp [h]), if_neg (by rcases hm with h | ⟨-, h, h'⟩ <;> simp [*])]
  rfl

/-! #### The clauses of PLUCK_FIRE -/

variable {index : Fin 256} {now : Nat}

theorem pluckFire_fires (hp : s.pluck index.val = some e) (hn : s.pitch = some now) (ha : e.state = .armed) (hte : s.pluckTe e.msg.req ≤ now)
    (hlow : s.lowerArmed index.val (s.pluckTe e.msg.req) = false) (hh : s.pluckHeld e.msg.req = false) :
    exec (.pluckFire index) s = .next (s.runPluck index.val e now) :=
  (exec_pluckFire hp hn).trans ((if_neg (by simp [ha, Nat.not_lt.mpr hte, hlow])).trans (congrArg _ (firePluck_runs hh)))

theorem pluckEnded_ran {y : PluckEnd × State} {st : PluckSt} (hy : y.1 = .ran) (h : e.msg.req.periodS = 0) :
    (State.pluckEnded y i e st).pluck i = some { e with state := st, reason := 0 } := by
  simp only [State.pluckEnded, hy]
  rw [settlePluck_once h, pluck_putPluck]

theorem pluckEnded_kept {y : PluckEnd × State} {st : PluckSt} (hy : y.1 = .ran) : Kept [] y.2 (State.pluckEnded y i e st) := by
  simp only [State.pluckEnded, hy]
  exact kept_State_settlePluck y.2 i e st 0

theorem pluckAct_kept (s : State) (i : Nat) (q : PluckReq) (te t : Nat) {f : Field} (h : f ∈ [Fld.PLUCK_DROP_COUNT, Fld.PLUCK_LATE_COUNT, Fld.PIT_NOW]) :
    (s.pluckAct i q te t).2.fld f = s.fld f :=
  (kept_State_pluckAct s i q te t).sameFlds (fs := [Fld.PLUCK_DROP_COUNT, Fld.PLUCK_LATE_COUNT, Fld.PIT_NOW]) (by decide) f h

theorem pluckFire_done (hp : s.pluck index.val = some e) (hn : s.pitch = some now) (ha : e.state = .armed) (hte : s.pluckTe e.msg.req ≤ now)
    (hlow : s.lowerArmed index.val (s.pluckTe e.msg.req) = false) (hh : s.pluckHeld e.msg.req = false) (hl : now < s.pluckTe e.msg.req + 8)
    (hm : s.mayRun e.msg.req) (hran : (s.pluckAct index.val e.msg.req (s.pluckTe e.msg.req) now).1 = .ran) (hper : e.msg.req.periodS = 0) :
    Does (.pluckFire index) s fun t => t.pluck index.val = some { e with state := .done, reason := 0 } ∧
      t.fld Fld.PLUCK_DROP_COUNT = s.fld Fld.PLUCK_DROP_COUNT := by
  refine ⟨_, pluckFire_fires hp hn ha hte hlow hh, ?_⟩
  rw [runPluck_onTime hl hm]
  exact ⟨pluckEnded_ran hran hper, ((pluckEnded_kept hran).fld _ (by decide)).trans (pluckAct_kept s _ _ _ _ (by decide))⟩

theorem pluckFire_recurs (hp : s.pluck index.val = some e) (hn : s.pitch = some now) (ha : e.state = .armed) (hte : s.pluckTe e.msg.req ≤ now)
    (hlow : s.lowerArmed index.val (s.pluckTe e.msg.req) = false) (hh : s.pluckHeld e.msg.req = false) (hl : now < s.pluckTe e.msg.req + 8)
    (hm : s.mayRun e.msg.req) (hran : (s.pluckAct index.val e.msg.req (s.pluckTe e.msg.req) now).1 = .ran) (hper : e.msg.req.periodS ≠ 0) :
    Does (.pluckFire index) s fun t => ∃ q, t.pluck index.val = some q ∧ q.state = .armed ∧ q.reason = 0 ∧
      q.msg.req = s.nextOccurrence e.msg.req := by
  have himg : (s.pluckAct index.val e.msg.req (s.pluckTe e.msg.req) now).2.img = s.img := only_State_pluckAct s _ _ _ _ .img rfl
  have hnow := pluckAct_kept s index.val e.msg.req (s.pluckTe e.msg.req) now (f := Fld.PIT_NOW) (by decide)
  refine ⟨_, pluckFire_fires hp hn ha hte hlow hh, ?_⟩
  rw [runPluck_onTime hl hm]
  generalize s.pluckAct index.val e.msg.req (s.pluckTe e.msg.req) now = y at hran himg hnow ⊢
  simp only [State.pluckEnded, hran]
  rw [settlePluck_again hper]
  exact ⟨_, pluck_putPluck .., rfl, rfl, nextOccurrence_of himg hnow _⟩

theorem pluckFire_late (hp : s.pluck index.val = some e) (hn : s.pitch = some now) (ha : e.state = .armed)
    (hlow : s.lowerArmed index.val (s.pluckTe e.msg.req) = false) (hh : s.pluckHeld e.msg.req = false) (hl : s.pluckTe e.msg.req + 8 ≤ now)
    (hr : s.runsLate e.msg.req (now - s.pluckTe e.msg.req) = false) : exec (.pluckFire index) s =
      .next ((s.noteLate index.val e (now - s.pluckTe e.msg.req)).2.dropPluck index.val { e with lateness := now - s.pluckTe e.msg.req } 1) :=
  (pluckFire_fires hp hn ha (by omega) hlow hh).trans (congrArg _ (runPluck_late hl hr))

theorem noteLate_kept (s : State) (i : Nat) (e : PluckEnt) (late : Nat) : (s.noteLate i e late).2.img = s.img ∧
    (s.noteLate i e late).2.regs = s.regs ∧ (s.noteLate i e late).2.fed.out = s.fed.out := ⟨rfl, rfl, rfl⟩

/-- A late entry dropped: terminal, or armed for its next occurrence. -/
theorem lateDrop_shows (s : State) (i : Nat) (e : PluckEnt) (late : Nat) :
    (e.msg.req.periodS = 0 → ((s.noteLate i e late).2.dropPluck i { e with lateness := late } 1).pluck i =
      some { e with lateness := late, state := .dropped, reason := 1 }) ∧
    (e.msg.req.periodS ≠ 0 → ((s.noteLate i e late).2.dropPluck i { e with lateness := late } 1).pluck i =
      some { e with lateness := late, msg := { e.msg with req := s.nextOccurrence e.msg.req }, state := .armed, reason := 1 }) ∧
    ((s.noteLate i e late).2.dropPluck i { e with lateness := late } 1).fld Fld.PLUCK_DROP_COUNT =
      (s.fld Fld.PLUCK_DROP_COUNT + 1) % 2 ^ Fld.PLUCK_DROP_COUNT.width ∧
    ((s.noteLate i e late).2.dropPluck i { e with lateness := late } 1).fed.out = s.fed.out := by
  obtain ⟨himg, hregs, hout⟩ := noteLate_kept s i e late
  generalize (s.noteLate i e late).2 = u at himg hregs hout ⊢
  have hnext := nextOccurrence_of himg (State.fld_of_regs s u Fld.PIT_NOW hregs) e.msg.req
  refine ⟨fun h => dropPluck_once h, fun h => ?_, ?_, ?_⟩
  · exact (dropPluck_again (e := { e with lateness := late }) h).trans (by rw [hnext])
  · rw [dropPluck_counts, State.fld_of_regs s u _ hregs]
  · rw [dropPluck_out, hout]

theorem pluckFire_dropped {r : Nat} (hp : s.pluck index.val = some e) (hn : s.pitch = some now) (ha : e.state = .armed)
    (hte : s.pluckTe e.msg.req ≤ now) (hlow : s.lowerArmed index.val (s.pluckTe e.msg.req) = false) (hh : s.pluckHeld e.msg.req = false)
    (hper : e.msg.req.periodS = 0) (hd : s.runPluck index.val e now = s.dropPluck index.val e r) : Does (.pluckFire index) s fun t =>
      t.pluck index.val = some { e with state := .dropped, reason := r } ∧
      t.fld Fld.PLUCK_DROP_COUNT = (s.fld Fld.PLUCK_DROP_COUNT + 1) % 2 ^ Fld.PLUCK_DROP_COUNT.width := by
  refine ⟨_, (pluckFire_fires hp hn ha hte hlow hh).trans (congrArg _ hd), dropPluck_once hper, dropPluck_counts ..⟩

theorem pluckAct_barrier {te : Nat} {q : PluckReq} (hact : q.action % 128 = 1) (harg : q.arg % 2 = 1) (hg : s.gateOpen = true) :
    s.pluckAct i q te now = (.running, s.cutBarrier i te) := by
  simp only [State.pluckAct, hact]
  exact if_neg (by simp [harg, hg])

theorem pluckFire_barrier (hp : s.pluck index.val = some e) (hn : s.pitch = some now) (ha : e.state = .armed) (hte : s.pluckTe e.msg.req ≤ now)
    (hlow : s.lowerArmed index.val (s.pluckTe e.msg.req) = false) (hh : s.pluckHeld e.msg.req = false) (hl : now < s.pluckTe e.msg.req + 8)
    (hm : s.mayRun e.msg.req) (hact : e.msg.req.action % 128 = 1) (harg : e.msg.req.arg % 2 = 1) (hg : s.gateOpen = true) :
    Does (.pluckFire index) s fun t => t.pluck index.val = some { e with state := .running, reason := 0 } ∧
      t.fed.barriers.length = s.fed.barriers.length + 1 ∧
      (t.fed.barriers.getLast?).map (fun b => (b.index, b.cut)) = some (index.val, s.wc.nextSeq) := by
  refine ⟨_, pluckFire_fires hp hn ha hte hlow hh, ?_⟩
  rw [runPluck_onTime hl hm, pluckAct_barrier hact harg hg]
  refine ⟨pluck_putPluck .., List.length_append .., ?_⟩
  show (List.getLast? (s.fed.barriers ++ [_])).map _ = _
  rw [List.getLast?_concat]
  rfl

theorem pluckFire_absent (hp : s.pluck index.val = some e) (hn : s.pitch = some now) (ha : e.state = .armed) (hte : s.pluckTe e.msg.req ≤ now)
    (hlow : s.lowerArmed index.val (s.pluckTe e.msg.req) = false) (hh : s.pluckHeld e.msg.req = false) (hl : now < s.pluckTe e.msg.req + 8)
    (hm : s.mayRun e.msg.req) (habs : (s.pluckAct index.val e.msg.req (s.pluckTe e.msg.req) now).1 = .absent) (hper : e.msg.req.periodS = 0) :
    Does (.pluckFire index) s fun t => t.pluck index.val = some { e with state := .dropped, reason := 3 } ∧
      t.fld Fld.PLUCK_DROP_COUNT = (s.fld Fld.PLUCK_DROP_COUNT + 1) % 2 ^ Fld.PLUCK_DROP_COUNT.width := by
  have hcount := pluckAct_kept s index.val e.msg.req (s.pluckTe e.msg.req) now (f := Fld.PLUCK_DROP_COUNT) (by decide)
  refine ⟨_, pluckFire_fires hp hn ha hte hlow hh, ?_⟩
  rw [runPluck_onTime hl hm]
  generalize s.pluckAct index.val e.msg.req (s.pluckTe e.msg.req) now = y at habs hcount ⊢
  simp only [State.pluckEnded, habs]
  exact ⟨dropPluck_once hper, (dropPluck_counts ..).trans (by rw [hcount])⟩

theorem pluckAct_ran {te : Nat} {q : PluckReq} (h : q.action % 128 ∈ [2, 3, 5, 7]) : (s.pluckAct i q te now).1 = .ran := by
  simp only [List.mem_cons, List.not_mem_nil, or_false] at h
  rcases h with h | h | h | h <;> simp only [State.pluckAct, h]

theorem pluckFire_lateDone (hp : s.pluck index.val = some e) (hn : s.pitch = some now) (ha : e.state = .armed)
    (hlow : s.lowerArmed index.val (s.pluckTe e.msg.req) = false) (hh : s.pluckHeld e.msg.req = false) (hl : s.pluckTe e.msg.req + 8 ≤ now)
    (hr : s.runsLate e.msg.req (now - s.pluckTe e.msg.req) = true) (hm : s.mayRun e.msg.req) (hact : e.msg.req.action % 128 ∈ [2, 3, 5, 7])
    (hper : e.msg.req.periodS = 0) : Does (.pluckFire index) s fun t =>
      t.pluck index.val = some { e with state := .lateDone, reason := 0, lateness := now - s.pluckTe e.msg.req } ∧
      t.fld Fld.PLUCK_LATE_COUNT = (s.fld Fld.PLUCK_LATE_COUNT + 1) % 2 ^ Fld.PLUCK_LATE_COUNT.width := by
  refine ⟨_, pluckFire_fires hp hn ha (by omega) hlow hh, ?_⟩
  rw [runPluck_lateRuns hl hr hm]
  have hcount : (s.lateNoted index.val e (now - s.pluckTe e.msg.req)).fld Fld.PLUCK_LATE_COUNT =
      (s.fld Fld.PLUCK_LATE_COUNT + 1) % 2 ^ Fld.PLUCK_LATE_COUNT.width := fld_incFld_same ..
  generalize s.lateNoted index.val e (now - s.pluckTe e.msg.req) = u at hcount ⊢
  exact ⟨pluckEnded_ran (pluckAct_ran hact) hper,
    ((pluckEnded_kept (pluckAct_ran hact)).fld _ (by decide)).trans ((pluckAct_kept u _ _ _ _ (by decide)).trans hcount)⟩

/-! ### A pluck received (R342) -/

theorem exec_pluckReceive_full {m : PluckMsg} (hj : s.joined = true) (hf : (List.range 256).find? (fun i => s.pluckFree i) = none) :
    exec (.pluckReceive m) s = .next (s.fedSend (.answer .full)) := by
  simp only [exec, execPluckReceive, hj, hf, Bool.not_true, Bool.false_eq_true, if_false]

theorem exec_pluckReceive_ack {m : PluckMsg} (hj : s.joined = true) (hf : (List.range 256).find? (fun i => s.pluckFree i) = some i)
    (hpast : s.pastTe m.req = false) : exec (.pluckReceive m) s = .next ((s.installPluck i m).fedSend (.answer .ack)) := by
  have hp : (s.installPluck i m).pastTe m.req = false := hpast
  simp only [exec, execPluckReceive, hj, hf, hp, Bool.not_true, Bool.false_eq_true, if_false]

theorem exec_pluckReceive_late {m : PluckMsg} (hj : s.joined = true) (hf : (List.range 256).find? (fun i => s.pluckFree i) = some i)
    (hn : s.pitch = some now) (hte : s.pluckTe m.req < now) : exec (.pluckReceive m) s =
      .next (((s.installPluck i m).fedSend (.answer .late)).firePluck i ⟨m, .armed, 0, false, 0⟩ now) := by
  have hpitch : (s.installPluck i m).pitch = some now := hn
  have hp : (s.installPluck i m).pastTe m.req = true := by
    simp only [State.pastTe, hpitch]
    exact decide_eq_true hte
  have hput : (s.installPluck i m).pluck i = some ⟨m, .armed, 0, false, 0⟩ := pluck_putPluck ..
  simp only [exec, execPluckReceive, hj, hf, hp, hpitch, hput, Bool.not_true, Bool.false_eq_true, if_false]

theorem pluckReceive_late {m : PluckMsg} (hj : s.joined = true) (hf : (List.range 256).find? (fun i => s.pluckFree i) = some i)
    (hn : s.pitch = some now) (hte : s.pluckTe m.req + 8 ≤ now) (hr : s.runsLate m.req (now - s.pluckTe m.req) = false)
    (hh : s.pluckHeld m.req = false) (hper : m.req.periodS = 0) : Does (.pluckReceive m) s fun t =>
      t.fed.out = s.fed.out ++ [.answer .late] ∧ (∃ q, t.pluck i = some q ∧ q.state = .dropped ∧ q.reason = 1 ∧ q.msg = m) := by
  have hx := exec_pluckReceive_late (m := m) hj hf hn (by omega)
  have hrun : ((s.installPluck i m).fedSend (.answer .late)).firePluck i ⟨m, .armed, 0, false, 0⟩ now =
      (((s.installPluck i m).fedSend (.answer .late)).noteLate i ⟨m, .armed, 0, false, 0⟩ (now - s.pluckTe m.req)).2.dropPluck i
        { (⟨m, .armed, 0, false, 0⟩ : PluckEnt) with lateness := now - s.pluckTe m.req } 1 :=
    (firePluck_runs (e := ⟨m, .armed, 0, false, 0⟩) (s := (s.installPluck i m).fedSend (.answer .late)) hh).trans
      (runPluck_late (e := ⟨m, .armed, 0, false, 0⟩) (s := (s.installPluck i m).fedSend (.answer .late)) hte hr)
  obtain ⟨hput, -, -, hout⟩ := lateDrop_shows ((s.installPluck i m).fedSend (.answer .late)) i ⟨m, .armed, 0, false, 0⟩ (now - s.pluckTe m.req)
  refine ⟨_, hx, ?_⟩
  rw [hrun]
  exact ⟨hout, _, hput hper, rfl, rfl, rfl⟩

/-! ### Wakes and barriers (R345, R346) -/

theorem wakeUp_rest (hf : s.pwr.fast = .retained) (hst : s.fld Fld.PWR_STATE.STATE = 2) (hac : s.acFail = false) :
    s.wakeUp.fld Fld.PWR_STATE.STATE = 5 ∧ s.wakeUp.fld Fld.PWR_STATE.TARGET = 2 ∧ s.wakeUp.fed = s.fed := by
  obtain ⟨hstate, htarget⟩ := wakeUp_exits hac (.inl hf) hst (.inl rfl)
  exact ⟨hstate, htarget, only_State_wakeUp s .fed rfl⟩

theorem exec_pluckEarlyWake (hp : s.pluck index.val = some e) : exec (.pluckEarlyWake index) s =
    if e.state = .armed ∧ s.pluckWakes e.msg.req = true then .next s.wakeUp else .next s := by
  simp only [exec, execPluckEarlyWake, hp]

variable {b : Barrier} {r : List Barrier}

theorem exec_writeBarrierDone (hb : s.fed.barriers = b :: r) (hp : s.pluck index.val = some e) : exec (.writeBarrierDone index) s =
    if b.index ≠ index.val ∨ s.barrierWaits b = true then .next s
    else .next (((s.withFed { s.fed with barriers := r }).settlePluck index.val e (if e.lateness = 0 then .done else .lateDone) 0).emit .barrierDone
      [b.te, ((s.withFed { s.fed with barriers := r }).settlePluck index.val e (if e.lateness = 0 then .done else .lateDone) 0).pitch.getD 0]) := by
  simp only [exec, execWriteBarrierDone, hb, hp]

theorem exec_writeBarrierDone_idle (h : s.fed.barriers = [] ∨ s.pluck index.val = none) : exec (.writeBarrierDone index) s = .next s := by
  simp only [exec, execWriteBarrierDone]
  split
  next hb hp => rcases h with h | h <;> simp [h] at hb hp
  next => rfl

theorem exec_writeBarrierDone_waits (hb : s.fed.barriers = b :: r) (h : b.index ≠ index.val ∨ s.barrierWaits b = true) :
    exec (.writeBarrierDone index) s = .next s := by
  cases hp : s.pluck index.val with
  | none => exact exec_writeBarrierDone_idle (.inr hp)
  | some e => exact (exec_writeBarrierDone hb hp).trans (if_pos h)

theorem writeBarrierDone_ends (hb : s.fed.barriers = b :: r) (hp : s.pluck index.val = some e) (hi : b.index = index.val)
    (hw : s.barrierWaits b = false) (hper : e.msg.req.periodS = 0) : Does (.writeBarrierDone index) s fun t =>
      t.fed.barriers = r ∧ t.pluck index.val = some { e with state := (if e.lateness = 0 then .done else .lateDone), reason := 0 } := by
  refine ⟨_, (exec_writeBarrierDone hb hp).trans (if_neg (by simp [hi, hw])), ?_⟩
  rw [settlePluck_once hper]
  exact ⟨rfl, pluck_putPluck ..⟩

theorem writeBarrierDone_recurs (hb : s.fed.barriers = b :: r) (hp : s.pluck index.val = some e) (hi : b.index = index.val)
    (hw : s.barrierWaits b = false) (hper : e.msg.req.periodS ≠ 0) : Does (.writeBarrierDone index) s fun t =>
      t.fed.barriers = r ∧ ∃ q, t.pluck index.val = some q ∧ q.state = .armed ∧ q.msg.req = s.nextOccurrence e.msg.req := by
  refine ⟨_, (exec_writeBarrierDone hb hp).trans (if_neg (by simp [hi, hw])), ?_⟩
  rw [settlePluck_again hper]
  exact ⟨rfl, _, pluck_putPluck .., rfl, rfl⟩

end

/-- Settles O52. -/
theorem plucksAreInstalledRunAndCancelled : Obligations.PlucksAreInstalledRunAndCancelled := by
  unfold Obligations.PlucksAreInstalledRunAndCancelled
  refine ⟨?written, ?invalid, ?sent, ?sentAlone, ?cancelled, ?cancelledFed, ?received, ?receivedFull, ?acked, ?lastFull, ?timedOut, ?cancelHeard,
    ?fired, ?firedLate, ?earlyWake, ?barrierDone, ?writeError, ?sendError, ?sentLate, ?cancelError, ?cancelAlone, ?cancelNone, ?cancelStanding,
    ?unjoined, ?receivedLate, ?noAnswer, ?lastAck, ?fullAnswer, ?lateAnswer, ?noTimeout, ?cancelUnjoined, ?noEntry, ?notDue, ?held, ?lateRecurs,
    ?mains, ?gated, ?ran, ?recurs, ?barrier, ?absent, ?lateRan, ?wakeNone, ?wakeIdle, ?noBarrier, ?barrierWaits, ?barrierLate, ?barrierRecurs⟩
  case written => exact fun s ht h => pluckWrite_installs ht h
  case invalid =>
    intro s ht h
    obtain ⟨t, hx, herr, -, hfed⟩ := pluckWrite_refused ht h (by decide)
    exact ⟨t, hx, herr, hfed⟩
  case sent =>
    intro s ht hj h hl
    obtain ⟨t, hx, hack, hlate, hleft, hout, -⟩ := pluckWriteFed_distributes ht hj h hl
    exact ⟨t, hx, hack, hlate, hleft, hout⟩
  case sentAlone =>
    intro s ht hj
    obtain ⟨herr, -, hfed⟩ := pluckDone_shows s (n := 3) (by decide)
    exact ⟨_, (exec_pluckWriteFed ht).trans (if_pos (by simp [hj])), herr, hfed⟩
  case cancelled =>
    intro s e ht hp hs ha
    exact ⟨_, exec_pluckCancel_armed ht (cancelError_armed hp hs ha) hp, pluck_putPluck .., (pluckDone_shows _ (by decide)).1⟩
  case cancelledFed => exact fun s e ht hj hp hs => pluckCancelFed_cancels ht hj hp hs
  case received => exact fun s m i hj hf hpast => ⟨_, exec_pluckReceive_ack hj hf hpast, pluck_putPluck .., rfl⟩
  case receivedFull => exact fun s m hj hf => ⟨_, exec_pluckReceive_full hj hf, rfl, rfl⟩
  case acked =>
    intro s h
    obtain ⟨t, hx, hleft, hcount, -⟩ := answer_counts (ans := .ack) (s := s) (by omega) rfl
    exact ⟨t, hx, hleft, hcount⟩
  case lastFull =>
    intro s h
    obtain ⟨t, hx, hleft, -, hdone⟩ := answer_counts (ans := .full) (s := s) (by omega) rfl
    exact ⟨t, hx, by omega, hdone h⟩
  case timedOut => exact fun s h => ⟨_, exec_pluckDistTimeout h, rfl, (distDone_shows s).2.1⟩
  case cancelHeard => exact fun s origin id hj => ⟨_, if_pos hj, rfl, cancelAll_cancels s origin id⟩
  case fired =>
    intro s index e now hp hn ha hte hl hlow hh hac hsafe htamper hran hper
    obtain ⟨t, hx, hput, -⟩ := pluckFire_done hp hn ha hte hlow hh hl (.inr ⟨hac, hsafe, htamper⟩) hran hper
    exact ⟨t, hx, hput⟩
  case firedLate =>
    intro s index e now hp hn ha hl hr hlow hh hper
    obtain ⟨hput, -, hcount, -⟩ := lateDrop_shows s index.val e (now - s.pluckTe e.msg.req)
    exact ⟨_, pluckFire_late hp hn ha hlow hh hl hr, ⟨_, hput hper, rfl, rfl⟩, hcount⟩
  case earlyWake =>
    exact fun s index e hp ha hw hf hst hac => ⟨_, (exec_pluckEarlyWake hp).trans (if_pos ⟨ha, hw⟩), wakeUp_rest hf hst hac⟩
  case barrierDone =>
    intro s index b r e hb hp hi hw hl hper
    obtain ⟨t, hx, hr, hput⟩ := writeBarrierDone_ends hb hp hi hw hper
    exact ⟨t, hx, hr, hput.trans (by rw [if_pos hl])⟩
  case writeError => exact fun s n ht h hn => pluckWrite_refused ht h hn
  case sendError => exact fun s n ht hj h hn => pluckWriteFed_refused ht hj h hn
  case sentLate => exact fun s ht hj h hl => pluckWriteFed_distributes ht hj h hl
  case cancelError =>
    intro s n ht h hn
    obtain ⟨herr, -, hfed⟩ := pluckDone_shows s (h ▸ cancelError_lt s)
    exact ⟨_, exec_pluckCancel_refused ht h hn, herr, hfed⟩
  case cancelAlone =>
    intro s ht hj
    obtain ⟨herr, -, hfed⟩ := pluckDone_shows s (n := 3) (by decide)
    exact ⟨_, (exec_pluckCancelFed ht).trans (if_pos (by simp [hj])), herr, hfed⟩
  case cancelNone =>
    intro s ht hj hp
    obtain ⟨herr, -, hfed⟩ := pluckDone_shows s (n := 1) (by decide)
    exact ⟨_, (exec_pluckCancelFed ht).trans ((if_neg (by simp [hj])).trans (by rw [hp])), herr, hfed⟩
  case cancelStanding =>
    intro s e ht hj hp hs
    obtain ⟨herr, -, hfed⟩ := pluckDone_shows s (n := 4) (by decide)
    exact ⟨_, (exec_pluckCancelFed ht).trans ((if_neg (by simp [hj])).trans (by simp only [hp, hs, if_true])), herr, hfed⟩
  case unjoined => exact fun s m hj => ⟨_, if_pos (by simp [hj]), rfl⟩
  case receivedLate => exact fun s m i now hj hf hn hte hr hh hper => pluckReceive_late hj hf hn hte hr hh hper
  case noAnswer => exact fun s ans h => ⟨_, if_pos h, rfl⟩
  case lastAck =>
    intro s h
    obtain ⟨t, hx, hleft, hcount, hdone⟩ := answer_counts (ans := .ack) (s := s) (by omega) rfl
    exact ⟨t, hx, by omega, hdone h, hcount⟩
  case fullAnswer =>
    intro s h
    obtain ⟨t, hx, hleft, hcount, -⟩ := answer_counts (ans := .full) h rfl
    exact ⟨t, hx, hleft, hcount⟩
  case lateAnswer =>
    intro s h
    obtain ⟨t, hx, hleft, hcount, -⟩ := answer_counts (ans := .late) h rfl
    exact ⟨t, hx, hleft, hcount⟩
  case noTimeout => exact fun s h => ⟨_, if_pos h, rfl⟩
  case cancelUnjoined => exact fun s origin id hj => ⟨_, if_neg (by simp [hj]), rfl⟩
  case noEntry => exact fun s index h => ⟨_, exec_pluckFire_idle h, rfl⟩
  case notDue => exact fun s index e now hp hn h => ⟨_, (exec_pluckFire hp hn).trans (if_pos h), rfl⟩
  case held =>
    intro s index e now hp hn ha hte hlow hh hf hst hac
    have hx : exec (.pluckFire index) s = .next (s.firePluck index.val e now) :=
      (exec_pluckFire hp hn).trans (if_neg (by simp [ha, Nat.not_lt.mpr hte, State.lowerArmed, hlow]))
    exact ⟨_, hx.trans (congrArg _ (if_pos hh)), wakeUp_rest hf hst hac⟩
  case lateRecurs =>
    intro s index e now hp hn ha hlow hh hl hr hper
    obtain ⟨-, hput, hcount, -⟩ := lateDrop_shows s index.val e (now - s.pluckTe e.msg.req)
    exact ⟨_, pluckFire_late hp hn ha hlow hh hl hr, ⟨_, hput hper, rfl, rfl, rfl, rfl⟩, hcount⟩
  case mains =>
    exact fun s index e now hp hn ha hlow hh hte hl hf hac hper => pluckFire_dropped hp hn ha hte hlow hh hper (runPluck_mains hl hf hac)
  case gated =>
    exact fun s index e now hp hn ha hlow hh hte hl hf hac hg hper => pluckFire_dropped hp hn ha hte hlow hh hper (runPluck_gated hl hf hac hg)
  case ran => exact fun s index e now hp hn ha hlow hh hte hl hm hran hper => pluckFire_done hp hn ha hte hlow hh hl hm hran hper
  case recurs => exact fun s index e now hp hn ha hlow hh hte hl hm hran hper => pluckFire_recurs hp hn ha hte hlow hh hl hm hran hper
  case barrier =>
    exact fun s index e now hp hn ha hlow hh hte hl hac hsafe htamper hact harg hg =>
      pluckFire_barrier hp hn ha hte hlow hh hl (.inr ⟨hac, hsafe, htamper⟩) hact harg hg
  case absent => exact fun s index e now hp hn ha hlow hh hte hl hm habs hper => pluckFire_absent hp hn ha hte hlow hh hl hm habs hper
  case lateRan => exact fun s index e now hp hn ha hlow hh hl hr hm hact hper => pluckFire_lateDone hp hn ha hlow hh hl hr hm hact hper
  case wakeNone =>
    exact fun s index hp => ⟨s, by simp only [exec, execPluckEarlyWake, hp], rfl⟩
  case wakeIdle =>
    exact fun s index e hp h => ⟨_, (exec_pluckEarlyWake hp).trans (if_neg (by rcases h with h | h <;> simp [h])), rfl⟩
  case noBarrier => exact fun s index h => ⟨_, exec_writeBarrierDone_idle h, rfl⟩
  case barrierWaits => exact fun s index b r hb h => ⟨_, exec_writeBarrierDone_waits hb h, rfl⟩
  case barrierLate =>
    intro s index b r e hb hp hi hw hl hper
    obtain ⟨t, hx, hr, hput⟩ := writeBarrierDone_ends hb hp hi hw hper
    exact ⟨t, hx, hr, hput.trans (by rw [if_neg hl])⟩
  case barrierRecurs => exact fun s index b r e hb hp hi hw hper => writeBarrierDone_recurs hb hp hi hw hper

end Sys2Proof.Machine

/-!
The pair's claim and its write gate (O48, O49): what a closed gate, a line fault, a claim and a release leave is said once each, and the
clauses of the commands cite it.
-/
namespace Sys2Proof.Machine

/-! ### What the rules of the claim look at (R309, R311, R312) -/

/-- The registers that the claim's rules look at. -/
def claimFields : List Field := [Fld.CAPO_STATUS.SEEN, Fld.CAPO_STATUS.ROLE, Fld.CAPO_STATUS.DRIVE, Fld.CAPO_STATUS.READBACK_FAULT,
  Fld.CAPO_STATUS.LINE_FAULT, Fld.CAPO_STATUS.IDLE_REASON, Fld.IMG_BOOT.SAFE_MODE, Fld.CIP_STATUS.TAMPER_HOLD, Fld.NRG_STATUS.AC_FAIL,
  Fld.SELFTEST_STATUS.CRITICAL, Fld.PAIR_EPOCH, Fld.PAIR_STATUS.STATE_COMPLETE]

/-- What the claim's rules look at is as before. -/
structure SameStanding (s t : State) : Prop where
  capo : t.capo = s.capo
  img : t.img = s.img
  now : t.now = s.now
  pwr : t.pwr = s.pwr
  flds : SameFlds claimFields s t

theorem SameStanding.refl {s : State} : SameStanding s s := ⟨rfl, rfl, rfl, rfl, .refl⟩

theorem SameStanding.trans {s t u : State} (h : SameStanding s t) (k : SameStanding t u) : SameStanding s u :=
  ⟨k.capo.trans h.capo, k.img.trans h.img, k.now.trans h.now, k.pwr.trans h.pwr, h.flds.trans k.flds⟩

theorem paired_of_img {s t : State} (h : t.img = s.img) : t.paired = s.paired := by simp only [State.paired, h]

theorem rank_of_img {s t : State} (h : t.img = s.img) : t.rank = s.rank := by simp only [State.rank, State.identity, h]

theorem islandOff_of {s t : State} (hpwr : t.pwr = s.pwr) (h : SameFlds [Fld.IMG_BOOT.SAFE_MODE, Fld.CIP_STATUS.TAMPER_HOLD] s t) :
    t.islandOff = s.islandOff := by
  simp only [State.islandOff, hpwr, h.bit (f := Fld.IMG_BOOT.SAFE_MODE) (by simp), h.bit (f := Fld.CIP_STATUS.TAMPER_HOLD) (by simp)]

section
variable {s t : State} (h : SameStanding s t)
include h

theorem SameStanding.seen : t.seen = s.seen := h.flds _ (by decide)

theorem SameStanding.role : t.role = s.role := h.flds _ (by decide)

theorem SameStanding.paired : t.paired = s.paired := paired_of_img h.img

theorem SameStanding.rank : t.rank = s.rank := rank_of_img h.img

theorem SameStanding.islandOff : t.islandOff = s.islandOff := islandOff_of h.pwr (h.flds.mono (by decide))

theorem SameStanding.partnerActive : t.partnerActive = s.partnerActive := by simp only [State.partnerActive, h.capo, h.now]

end

/-- What keeps a device from claiming is as before. -/
theorem mayClaim_of {s t : State} (himg : t.img = s.img) (hpwr : t.pwr = s.pwr) (hexp : t.capo.expired = s.capo.expired)
    (h : SameFlds [Fld.IMG_BOOT.SAFE_MODE, Fld.CIP_STATUS.TAMPER_HOLD, Fld.NRG_STATUS.AC_FAIL, Fld.CAPO_STATUS.LINE_FAULT,
      Fld.CAPO_STATUS.READBACK_FAULT, Fld.SELFTEST_STATUS.CRITICAL] s t) : t.mayClaim = s.mayClaim := by
  simp only [State.mayClaim, State.acFail, paired_of_img himg, islandOff_of hpwr (h.mono (by decide)), hexp,
    h.bit (f := Fld.NRG_STATUS.AC_FAIL) (by simp), h.bit (f := Fld.CAPO_STATUS.LINE_FAULT) (by simp),
    h.bit (f := Fld.CAPO_STATUS.READBACK_FAULT) (by simp), h.bit (f := Fld.SELFTEST_STATUS.CRITICAL) (by simp)]

/-! ### The closed gate (R311) -/

theorem closeGate_standing (s : State) : SameStanding s s.closeGate :=
  ⟨closeGate_only s .capo rfl, closeGate_only s .img rfl, closeGate_only s .now rfl, closeGate_only s .pwr rfl,
   (kept_State_closeGate s).sameFlds (by decide)⟩

/-! ### The code on CAPO_CLAIM (R309, R328) -/

theorem driveCapo_drives (s : State) : s.driveCapo.fld Fld.CAPO_STATUS.DRIVE = s.driveCode := by
  refine (State.fld_setFld_same ..).trans (Nat.mod_eq_of_lt ?_)
  unfold State.driveCode
  split
  · decide
  · split
    · decide
    · split <;> decide

theorem driveCode_released {s : State} (h : s.capo.released = true) : s.driveCode = 0 := if_pos (by simp [h])

theorem driveCode_faulted {s : State} (hi : s.islandOff = false) (hr : s.capo.released = false) (hf : s.bit Fld.CAPO_STATUS.LINE_FAULT = true) :
    s.driveCode = 3 := (if_neg (by simp [hi, hr])).trans (if_pos (by simp [hf]))

theorem setRole_role (s : State) {r : Nat} (h : r < 8) : (s.setRole r).role = r := (State.fld_setFld_same ..).trans (Nat.mod_eq_of_lt h)

theorem driveCapo_role (s : State) : s.driveCapo.role = s.role := (kept_State_driveCapo s).fld _ (by decide)

/-! ### A line fault (R314, R317) -/

/-- A line fault latched, before the line drives it. -/
def State.faultLatched (s : State) : State :=
  let s := s.closeGate
  let s := { s with capo := { s.capo with request := false, backoff := false } }
  let s := if s.bit Fld.CAPO_STATUS.LINE_FAULT then s
    else ((s.setBit Fld.CAPO_STATUS.LINE_FAULT true).setFld Fld.CAPO_STATUS.IDLE_REASON 1).emit .capoLineFault [s.seen]
  s.setRole 5

theorem lineFault_eq (s : State) : s.lineFault = s.faultLatched.driveCapo := rfl

theorem faultLatched_shows (s : State) : s.faultLatched.bit Fld.CAPO_STATUS.LINE_FAULT = true ∧ s.faultLatched.role = 5 ∧
    s.faultLatched.capo = { s.capo with request := false, backoff := false } ∧ s.faultLatched.pwr = s.pwr ∧
    SameFlds [Fld.CAPO_STATUS.SEEN, Fld.CAPO_STATUS.READBACK_FAULT, Fld.IMG_BOOT.SAFE_MODE, Fld.CIP_STATUS.TAMPER_HOLD] s s.faultLatched ∧
    s.faultLatched.bit Fld.CAPO_STATUS.GATE_OPEN = false := by
  have hclosed := closeGate_closed s
  have hsame := closeGate_standing s
  have hflds := hsame.flds.mono (gs := [Fld.CAPO_STATUS.SEEN, Fld.CAPO_STATUS.READBACK_FAULT, Fld.IMG_BOOT.SAFE_MODE,
    Fld.CIP_STATUS.TAMPER_HOLD]) (by decide)
  rw [← hsame.capo, ← hsame.pwr]
  unfold State.faultLatched
  generalize s.closeGate = u at hclosed hflds ⊢
  dsimp only
  have hk : Kept [Fld.CAPO_STATUS.ROLE, Fld.CAPO_STATUS.IDLE_REASON] (u.setBit Fld.CAPO_STATUS.LINE_FAULT true) ((((({ u with capo := { u.capo with
      request := false, backoff := false } } : State).setBit Fld.CAPO_STATUS.LINE_FAULT true).setFld Fld.CAPO_STATUS.IDLE_REASON 1).emit
        .capoLineFault [u.seen]).setRole 5) := Kept.setFld rfl (Kept.setFld rfl Kept.refl)
  split
  next hl =>
    have hrole : Kept [Fld.CAPO_STATUS.ROLE] u (({ u with capo := { u.capo with request := false, backoff := false } } : State).setRole 5) :=
      Kept.setFld rfl Kept.refl
    exact ⟨(hrole.bit _ (by decide)).trans hl, setRole_role _ (by decide), rfl, rfl, hflds.trans (hrole.sameFlds (by decide)),
      (hrole.bit _ (by decide)).trans hclosed⟩
  next =>
    refine ⟨(hk.bit _ (by decide)).trans (State.bit_setBit_same _ _ _ rfl), setRole_role _ (by decide), rfl, rfl, ?_, ?_⟩
    · exact hflds.trans ((sameFlds_setBit u _ _ (by decide)).trans (hk.sameFlds (by decide)))
    · exact (hk.bit _ (by decide)).trans ((State.bit_setBit_ne _ _ _ _ (by decide)).trans hclosed)

/-- What a line fault leaves. -/
theorem lineFault_shows (s : State) : s.lineFault.bit Fld.CAPO_STATUS.LINE_FAULT = true ∧ s.lineFault.role = 5 ∧
    s.lineFault.capo = { s.capo with request := false, backoff := false } ∧ s.lineFault.bit Fld.CAPO_STATUS.GATE_OPEN = false ∧
    SameFlds [Fld.CAPO_STATUS.SEEN, Fld.CAPO_STATUS.READBACK_FAULT] s s.lineFault := by
  obtain ⟨hl, hrole, hcapo, -, hflds, hgate⟩ := faultLatched_shows s
  rw [lineFault_eq]
  generalize s.faultLatched = u at hl hrole hcapo hflds hgate ⊢
  have hk := kept_State_driveCapo u
  exact ⟨(hk.bit _ (by decide)).trans hl, (hk.fld _ (by decide)).trans hrole, hcapo, (hk.bit _ (by decide)).trans hgate,
    (hflds.mono (by decide)).trans (hk.sameFlds (by decide))⟩

theorem lineFault_drive {s : State} (hi : s.islandOff = false) :
    s.lineFault.fld Fld.CAPO_STATUS.DRIVE = if s.capo.released = true then 0 else 3 := by
  obtain ⟨hl, -, hcapo, hpwr, hflds, -⟩ := faultLatched_shows s
  rw [lineFault_eq, driveCapo_drives]
  have hoff : s.faultLatched.islandOff = false := (islandOff_of hpwr (hflds.mono (by decide))).trans hi
  have hrel : s.faultLatched.capo.released = s.capo.released := (congrArg Capo.released hcapo :)
  generalize s.faultLatched = u at hl hoff hrel ⊢
  split
  next h => exact driveCode_released (hrel.trans h)
  next h => exact driveCode_faulted hoff (hrel.trans (by simpa using h)) hl

/-! ### A claim and a release (R311 to R315) -/

theorem beginClaim_idle {s : State} (h : s.mayClaim = false) : s.beginClaim = s.driveCapo := if_neg (by simp [h])

/-- A claim begun. -/
theorem beginClaim_claims {s : State} (h : s.mayClaim = true) : s.beginClaim.role = 2 ∧ s.beginClaim.fld Fld.CAPO_STATUS.IDLE_REASON = 0 ∧
    s.beginClaim.capo = { s.capo with request := true, released := false, backoff := false, renewAt := s.now } := by
  have hx : s.beginClaim = ((({ s with capo := { s.capo with request := true, released := false, backoff := false, renewAt := s.now } } :
      State).setRole 2).setFld Fld.CAPO_STATUS.IDLE_REASON 0).driveCapo := if_pos h
  rw [hx]
  refine ⟨?_, ?_, rfl⟩
  · exact (driveCapo_role _).trans ((State.fld_setFld_ne _ _ _ _ (by decide)).trans (setRole_role _ (by decide)))
  · exact ((kept_State_driveCapo _).fld _ (by decide)).trans (State.fld_setFld_same ..)

/-- A release begun: the gate closed, and the line as it was. -/
theorem beginRelease_shows (s : State) (cause : Nat) : (s.beginRelease cause).role = 4 ∧
    (s.beginRelease cause).bit Fld.CAPO_STATUS.GATE_OPEN = false ∧
    (s.beginRelease cause).capo = { s.capo with releaseCause := cause, fence := false } := by
  have hclosed := closeGate_closed s
  rw [← (closeGate_standing s).capo]
  unfold State.beginRelease
  generalize s.closeGate = u at hclosed ⊢
  exact ⟨setRole_role _ (by decide), ((kept_State_setRole _ 4).bit _ (by decide)).trans hclosed, rfl⟩

theorem withdraw_active {s : State} (h : s.role = 3) : s.withdraw = s.beginRelease 0 := if_pos h

theorem withdraw_standby {s : State} (h : s.role ≠ 3) : s.withdraw.role = 1 ∧ s.withdraw.capo = { s.capo with request := false } ∧
    s.withdraw.bit Fld.CAPO_STATUS.GATE_OPEN = s.bit Fld.CAPO_STATUS.GATE_OPEN := by
  have hx : s.withdraw = (({ s with capo := { s.capo with request := false } } : State).setRole 1).driveCapo := if_neg h
  rw [hx]
  exact ⟨(driveCapo_role _).trans (setRole_role _ (by decide)), rfl,
    ((kept_State_driveCapo _).bit _ (by decide)).trans ((kept_State_setRole _ 1).bit _ (by decide))⟩

/-! ### The mirror given up (R315, R320) -/

theorem mirrorWake_updates {s : State} (h : s.wc.updates = []) : s.mirrorWake.wc.updates = [] := by
  unfold State.mirrorWake
  extract_lets t
  have ht : t.wc.updates = [] := by
    unfold t
    refine List.foldlRecOn (motive := fun u : State => u.wc.updates = []) _ _ h fun u hu c _ => ?_
    split
    · obtain ⟨l, f, hw⟩ := writeReady_wc (u.putCmd { c with mirrorWait := false }) c.tag
      rw [hw]
      exact congrArg (List.map f) hu
    · exact hu
  rw [ht]
  exact ht

/-- The mirror shown as off, before what waited for the partner goes on. -/
def State.mirrorStopped (s : State) : State :=
  let s := (s.setBit Fld.WC_STATUS.MIRROR_ON false).setBit Fld.PAIR_STATUS.MIRROR_ON false
  let s := s.setBit Fld.PAIR_STATUS.SYNCING false
  { s with capo := { s.capo with unacked := [] }, wc := { s.wc with partnerLimit := none } }

theorem mirrorOff_eq (s : State) : s.mirrorOff = s.mirrorStopped.mirrorWake := rfl

theorem mirrorOff_parts {s : State} (h : s.wc.updates = []) : s.mirrorOff.wc.updates = [] ∧ s.mirrorOff.capo = { s.capo with unacked := [] } := by
  rw [mirrorOff_eq]
  exact ⟨mirrorWake_updates h, mirrorWake_capo h⟩

theorem leaveUpdates_parts (s : State) : s.leaveUpdates.wc.updates = [] ∧ ∃ l, s.leaveUpdates.capo = { s.capo with mirrorCtx := l } := by
  unfold State.leaveUpdates
  extract_lets kept dropped u
  refine List.foldlRecOn (motive := fun v : State => v.wc.updates = [] ∧ ∃ l, v.capo = { s.capo with mirrorCtx := l }) _ _ ⟨rfl, _, rfl⟩
    fun v hv x _ => hv

/-- The registers of the claim that the end of a release leaves. -/
def releaseFields : List Field := [Fld.CAPO_STATUS.GATE_OPEN, Fld.CAPO_STATUS.RENEW_EXPIRED, Fld.CAPO_STATUS.ROLE, Fld.CAPO_STATUS.DRIVE]

theorem sameFlds_leaveUpdates_mirrorOff (s : State) : SameFlds releaseFields s s.leaveUpdates.mirrorOff :=
  ((kept_State_leaveUpdates s).sameFlds (by decide)).trans ((kept_State_mirrorOff _).sameFlds (by decide))

/-- The line released, before the mirror is given up. -/
def State.lineReleased (s : State) : State :=
  let s := { s with capo := { s.capo with request := false, released := true, backoff := false } }
  (s.setRole 1).driveCapo

theorem endRelease_eq (s : State) : s.endRelease = s.leaveUpdates.lineReleased.mirrorOff := rfl

theorem lineReleased_shows (s : State) : s.lineReleased.role = 1 ∧ s.lineReleased.fld Fld.CAPO_STATUS.DRIVE = 0 ∧
    s.lineReleased.capo = { s.capo with request := false, released := true, backoff := false } ∧ s.lineReleased.wc = s.wc ∧
    s.lineReleased.bit Fld.CAPO_STATUS.GATE_OPEN = s.bit Fld.CAPO_STATUS.GATE_OPEN := by
  refine ⟨(driveCapo_role _).trans (setRole_role _ (by decide)), (driveCapo_drives _).trans (driveCode_released rfl), rfl, rfl, ?_⟩
  exact ((kept_State_driveCapo _).bit _ (by decide)).trans ((kept_State_setRole _ 1).bit _ (by decide))

/-- The end of a release. -/
theorem endRelease_shows (s : State) : s.endRelease.role = 1 ∧ s.endRelease.fld Fld.CAPO_STATUS.DRIVE = 0 ∧ s.endRelease.capo.request = false ∧
    s.endRelease.wc.updates = [] ∧ s.endRelease.bit Fld.CAPO_STATUS.GATE_OPEN = s.bit Fld.CAPO_STATUS.GATE_OPEN := by
  obtain ⟨hupd, -⟩ := leaveUpdates_parts s
  have hgate := (kept_State_leaveUpdates s).bit Fld.CAPO_STATUS.GATE_OPEN (by decide)
  rw [endRelease_eq]
  generalize s.leaveUpdates = u at hupd hgate ⊢
  obtain ⟨hrole, hdrive, hcapo, hwc, hopen⟩ := lineReleased_shows u
  rw [← hgate, ← hopen]
  rw [← hwc] at hupd
  generalize u.lineReleased = v at hrole hdrive hcapo hupd ⊢
  obtain ⟨hoff, hcapo'⟩ := mirrorOff_parts hupd
  have hk := kept_State_mirrorOff v
  exact ⟨(hk.fld _ (by decide)).trans hrole, (hk.fld _ (by decide)).trans hdrive, by rw [hcapo', hcapo], hoff, hk.bit _ (by decide)⟩

/-! ### A class of CAPO_SEEN (R310, R311, R313, R314, R317) -/

/-- The class of CAPO_SEEN shown, with the time since which it stands. -/
def State.classShown (s : State) (c : SeenClass) : State :=
  { (s.setFld Fld.CAPO_STATUS.SEEN (seenCode c)) with capo := { s.capo with seenAt := s.now } }

/-- The gate closed where its conditions do not hold. -/
def State.gateChecked (s : State) : State := if s.gateHolds then s else s.closeGate

theorem seenCode_lt (c : SeenClass) : seenCode c < 8 := by cases c <;> decide

theorem classShown_seen (s : State) (c : SeenClass) : (s.classShown c).seen = seenCode c :=
  (State.fld_setFld_same ..).trans (Nat.mod_eq_of_lt (seenCode_lt c))

theorem kept_classShown (s : State) (c : SeenClass) : Kept [Fld.CAPO_STATUS.SEEN] s (s.classShown c) := Kept.setFld rfl Kept.refl

theorem classShown_same (s : State) (c : SeenClass) : (s.classShown c).paired = s.paired ∧ (s.classShown c).islandOff = s.islandOff ∧
    (s.classShown c).role = s.role ∧ (s.classShown c).rank = s.rank :=
  ⟨paired_of_img rfl, islandOff_of rfl ((kept_classShown s c).sameFlds (by decide)), (kept_classShown s c).fld _ (by decide), rank_of_img rfl⟩

theorem seeClass_eq (s : State) : s.seeClass =
    if (!s.gateChecked.paired || s.gateChecked.islandOff) = true then s.gateChecked.driveCapo
    else if 4 ≤ s.gateChecked.seen then s.gateChecked.lineFault
    else if s.gateChecked.seen = 3 ∧ s.gateChecked.role = 1 ∧ s.gateChecked.partnerActive = true then s.gateChecked.lineFault
    else if s.gateChecked.seen = 1 ∧ s.gateChecked.capo.request = true ∧ s.gateChecked.role ≠ 4 ∧ s.gateChecked.rank = 1 then
      s.gateChecked.withdraw
    else s.gateChecked.driveCapo := rfl

theorem gateChecked_standing (s : State) : SameStanding s s.gateChecked := by
  unfold State.gateChecked
  split
  · exact .refl
  · exact closeGate_standing s

theorem gateChecked_closed {s : State} (h : s.bit Fld.CAPO_STATUS.GATE_OPEN = false) : s.gateChecked.bit Fld.CAPO_STATUS.GATE_OPEN = false := by
  unfold State.gateChecked
  split
  · exact h
  · exact closeGate_closed s

/-- A gate that is closed stays closed under a new class, and the time of the class stands. -/
theorem seeClass_closed {s : State} (h : s.bit Fld.CAPO_STATUS.GATE_OPEN = false) : s.seeClass.bit Fld.CAPO_STATUS.GATE_OPEN = false ∧
    s.seeClass.capo.seenAt = s.capo.seenAt := by
  have hclosed := gateChecked_closed h
  rw [seeClass_eq, ← (gateChecked_standing s).capo]
  generalize s.gateChecked = u at hclosed ⊢
  have hdrive : u.driveCapo.bit Fld.CAPO_STATUS.GATE_OPEN = false ∧ u.driveCapo.capo.seenAt = u.capo.seenAt :=
    ⟨((kept_State_driveCapo u).bit _ (by decide)).trans hclosed, rfl⟩
  have hfault : u.lineFault.bit Fld.CAPO_STATUS.GATE_OPEN = false ∧ u.lineFault.capo.seenAt = u.capo.seenAt := by
    obtain ⟨-, -, hcapo, hgate, -⟩ := lineFault_shows u
    exact ⟨hgate, (congrArg Capo.seenAt hcapo :)⟩
  have hwith : u.withdraw.bit Fld.CAPO_STATUS.GATE_OPEN = false ∧ u.withdraw.capo.seenAt = u.capo.seenAt := by
    by_cases h3 : u.role = 3
    · obtain ⟨-, hgate, hcapo⟩ := beginRelease_shows u 0
      rw [withdraw_active h3]
      exact ⟨hgate, (congrArg Capo.seenAt hcapo :)⟩
    · obtain ⟨-, hcapo, hgate⟩ := withdraw_standby h3
      exact ⟨hgate.trans hclosed, (congrArg Capo.seenAt hcapo :)⟩
  split_ifs
  · exact hdrive
  · exact hfault
  · exact hfault
  · exact hwith
  · exact hdrive

section
variable {s : State} {c : SeenClass}

theorem exec_capoSeenClass_idle (h : s.pwr.fast = .inReset ∨ s.pwr.fast = .unpowered ∨ s.seen = seenCode c) :
    exec (.capoSeenClass c) s = .next s :=
  if_pos (by rcases h with h | h | h <;> simp [h])

theorem exec_capoSeenClass (hr : s.pwr.fast ≠ .inReset) (hu : s.pwr.fast ≠ .unpowered) (hc : s.seen ≠ seenCode c) : exec (.capoSeenClass c) s =
    if (s.classShown c).paired = true then .next (s.classShown c).closeGate.seeClass else .next (s.classShown c) :=
  if_neg (by simp [hr, hu, hc])

theorem islandOn_fast (h : s.islandOff = false) : s.pwr.fast ≠ .inReset ∧ s.pwr.fast ≠ .unpowered := by
  simp only [State.islandOff, Bool.or_eq_false_iff, beq_eq_false_iff_ne] at h
  obtain ⟨⟨⟨⟨hr, hu⟩, -⟩, -⟩, -⟩ := h
  exact ⟨hr, hu⟩

theorem exec_capoSeenClass_paired (hi : s.islandOff = false) (hc : s.seen ≠ seenCode c) (hp : s.paired = true) : exec (.capoSeenClass c) s =
    .next (s.classShown c).closeGate.seeClass :=
  (exec_capoSeenClass (islandOn_fast hi).1 (islandOn_fast hi).2 hc).trans (if_pos ((classShown_same s c).1.trans hp))

/-- What a new class is judged by: the class, and what stood before it. -/
theorem classJudged (s : State) (c : SeenClass) : SameStanding (s.classShown c) (s.classShown c).closeGate.gateChecked :=
  (closeGate_standing _).trans (gateChecked_standing _)

theorem seeClass_faults (hp : s.paired = true) (hi : s.islandOff = false)
    (h : 4 ≤ seenCode c ∨ (seenCode c = 3 ∧ s.role = 1 ∧ (s.classShown c).partnerActive = true)) :
    (s.classShown c).closeGate.seeClass = (s.classShown c).closeGate.gateChecked.lineFault := by
  have hj := classJudged s c
  obtain ⟨hpair, hoff, hrole, -⟩ := classShown_same s c
  rw [seeClass_eq, if_neg (by simp [hj.paired, hpair, hp, hj.islandOff, hoff, hi]), hj.seen, classShown_seen, hj.role, hrole, hj.partnerActive]
  rcases h with h | h
  · exact if_pos h
  · exact (if_neg (by omega)).trans (if_pos h)

theorem seeClass_withdraws (hp : s.paired = true) (hi : s.islandOff = false) (hr : s.rank = 1) (hq : s.capo.request = true) (h4 : s.role ≠ 4) :
    (s.classShown .active).closeGate.seeClass = (s.classShown .active).closeGate.gateChecked.withdraw := by
  have hj := classJudged s .active
  obtain ⟨hpair, hoff, hrole, hrank⟩ := classShown_same s .active
  have hreq : (s.classShown .active).capo.request = true := hq
  rw [seeClass_eq, if_neg (by simp [hj.paired, hpair, hp, hj.islandOff, hoff, hi]), hj.seen, classShown_seen, hj.role, hrole, hj.rank, hrank,
    hj.capo, hreq]
  exact (if_neg (by decide)).trans ((if_neg (by simp [seenCode])).trans (if_pos ⟨rfl, rfl, h4, hr⟩))

theorem capoSeenClass_closes (hr : s.pwr.fast ≠ .inReset) (hu : s.pwr.fast ≠ .unpowered) (hc : s.seen ≠ seenCode c) (hp : s.paired = true) :
    Does (.capoSeenClass c) s fun t => t.seen = seenCode c ∧ t.capo.seenAt = s.now ∧ t.bit Fld.CAPO_STATUS.GATE_OPEN = false := by
  have hx := (exec_capoSeenClass hr hu hc).trans (if_pos ((classShown_same s c).1.trans hp))
  have hseen : (s.classShown c).closeGate.seen = seenCode c := (closeGate_standing _).seen.trans (classShown_seen s c)
  have hat : (s.classShown c).closeGate.capo.seenAt = s.now := (congrArg Capo.seenAt (closeGate_standing (s.classShown c)).capo :)
  have hclosed := closeGate_closed (s.classShown c)
  generalize (s.classShown c).closeGate = u at hx hseen hat hclosed
  obtain ⟨hgate, hstand⟩ := seeClass_closed hclosed
  exact ⟨_, hx, ((kept_State_seeClass u).fld _ (by decide)).trans hseen, hstand.trans hat, hgate⟩

theorem capoSeenClass_unpaired (hr : s.pwr.fast ≠ .inReset) (hu : s.pwr.fast ≠ .unpowered) (hc : s.seen ≠ seenCode c) (hp : s.paired = false) :
    Does (.capoSeenClass c) s fun t => t.seen = seenCode c ∧ t.capo.seenAt = s.now ∧ t.role = s.role ∧
      t.bit Fld.CAPO_STATUS.GATE_OPEN = s.bit Fld.CAPO_STATUS.GATE_OPEN :=
  ⟨_, (exec_capoSeenClass hr hu hc).trans (if_neg (by rw [(classShown_same s c).1, hp]; decide)), classShown_seen s c, rfl,
    (classShown_same s c).2.2.1, (kept_classShown s c).bit _ (by decide)⟩

theorem capoSeenClass_faults (hc : s.seen ≠ seenCode c) (hp : s.paired = true) (hi : s.islandOff = false)
    (h : 4 ≤ seenCode c ∨ (seenCode c = 3 ∧ s.role = 1 ∧ (s.classShown c).partnerActive = true)) :
    Does (.capoSeenClass c) s fun t => t.role = 5 ∧ t.bit Fld.CAPO_STATUS.LINE_FAULT = true ∧ t.capo.request = false ∧
      (s.capo.released = false → t.fld Fld.CAPO_STATUS.DRIVE = 3) := by
  have hx := exec_capoSeenClass_paired hi hc hp
  rw [seeClass_faults hp hi h] at hx
  have hj := classJudged s c
  have hoff : (s.classShown c).closeGate.gateChecked.islandOff = false := hj.islandOff.trans ((classShown_same s c).2.1.trans hi)
  have hrel : (s.classShown c).closeGate.gateChecked.capo.released = s.capo.released := (congrArg Capo.released hj.capo :)
  generalize (s.classShown c).closeGate.gateChecked = u at hx hoff hrel
  obtain ⟨hl, hrole, hcapo, -, -⟩ := lineFault_shows u
  exact ⟨_, hx, hrole, hl, (congrArg Capo.request hcapo :), fun h0 => (lineFault_drive hoff).trans (if_neg (by simp [hrel, h0]))⟩

theorem capoSeenClass_withdraws (hc : s.seen ≠ 1) (hp : s.paired = true) (hi : s.islandOff = false) (hq : s.capo.request = true)
    (hr : s.rank = 1) (h4 : s.role ≠ 4) : exec (.capoSeenClass .active) s = .next (s.classShown .active).closeGate.gateChecked.withdraw ∧
      (s.classShown .active).closeGate.gateChecked.role = s.role :=
  ⟨(exec_capoSeenClass_paired (c := .active) hi hc hp).trans (congrArg _ (seeClass_withdraws hp hi hr hq h4)),
   (classJudged s .active).role.trans (classShown_same s .active).2.2.1⟩

/-! ### The read-back (R310, R314) -/

theorem readback_same (s : State) : (s.setBit Fld.CAPO_STATUS.READBACK_FAULT true).paired = s.paired ∧
    (s.setBit Fld.CAPO_STATUS.READBACK_FAULT true).islandOff = s.islandOff :=
  ⟨paired_of_img rfl, islandOff_of rfl (sameFlds_setBit s _ _ (by decide))⟩

theorem exec_readbackCheck (hr : s.pwr.fast ≠ .inReset) (hu : s.pwr.fast ≠ .unpowered) : exec (.readbackCheck false) s =
    if (s.paired && !s.islandOff) = true then .next (s.setBit Fld.CAPO_STATUS.READBACK_FAULT true).lineFault
    else .next (s.setBit Fld.CAPO_STATUS.READBACK_FAULT true) := by
  rw [← (readback_same s).1, ← (readback_same s).2]
  exact if_neg (by simp [hr, hu])

theorem readbackCheck_faults (hp : s.paired = true) (hi : s.islandOff = false) : Does (.readbackCheck false) s fun t =>
    t.bit Fld.CAPO_STATUS.READBACK_FAULT = true ∧ t.bit Fld.CAPO_STATUS.LINE_FAULT = true ∧ t.bit Fld.CAPO_STATUS.GATE_OPEN = false ∧
    t.role = 5 ∧ t.fld Fld.CAPO_STATUS.DRIVE = if s.capo.released = true then 0 else 3 := by
  obtain ⟨hr, hu⟩ := islandOn_fast hi
  have hoff := (readback_same s).2.trans hi
  obtain ⟨hl, hrole, -, hgate, hflds⟩ := lineFault_shows (s.setBit Fld.CAPO_STATUS.READBACK_FAULT true)
  exact ⟨_, (exec_readbackCheck hr hu).trans (if_pos (by simp [hp, hi])), (hflds.bit (by decide)).trans (State.bit_setBit_same _ _ _ rfl), hl,
    hgate, hrole, lineFault_drive hoff⟩

/-! ### The gate's opening (R311, R322, R323) -/

theorem exec_gateOpen_idle (h : s.bit Fld.CAPO_STATUS.GATE_OPEN = true ∨ s.paired = false ∨ s.islandOff = true ∨ s.gateHolds = false ∨
    s.now < s.capo.seenAt + s.confirmTime ∨ (s.role ≠ 2 ∧ s.role ≠ 3)) : exec .gateOpen s = .next s := if_pos h

/-- The gate open, with the label writes that waited for it. -/
def State.gateOpened (s : State) : State := (s.setBit Fld.CAPO_STATUS.GATE_OPEN true).resumeLabels

theorem exec_gateOpen (h : ¬ (s.bit Fld.CAPO_STATUS.GATE_OPEN = true ∨ s.paired = false ∨ s.islandOff = true ∨ s.gateHolds = false ∨
    s.now < s.capo.seenAt + s.confirmTime ∨ (s.role ≠ 2 ∧ s.role ≠ 3))) : exec .gateOpen s =
    if (!decide (s.role = 2)) = true then .next s.gateOpened
    else if s.gateOpened.becomeActive.capo.takeoverAt.isSome = true then .next s.gateOpened.becomeActive
    else if (s.gateOpened.becomeActive.nextEpoch 1).adoptMirror.bit Fld.HFE_STATUS.REPLAY_PENDING = true then
      .next (s.gateOpened.becomeActive.nextEpoch 1).adoptMirror
    else .next (s.gateOpened.becomeActive.nextEpoch 1).adoptMirror.noReplay := by
  show execGateOpen s = _
  unfold execGateOpen
  rw [if_neg h]
  extract_lets claims u v w
  have hu : s.gateOpened = u := rfl
  rw [hu]

theorem gateOpened_shows (s : State) : s.gateOpened.bit Fld.CAPO_STATUS.GATE_OPEN = true ∧ s.gateOpened.role = s.role ∧
    s.gateOpened.fld Fld.PAIR_EPOCH = s.fld Fld.PAIR_EPOCH ∧ s.gateOpened.capo = s.capo := by
  have hk := kept_State_resumeLabels (s.setBit Fld.CAPO_STATUS.GATE_OPEN true)
  exact ⟨(hk.bit _ (by decide)).trans (State.bit_setBit_same _ _ _ rfl), (hk.fld _ (by decide)).trans (State.fld_setBit_ne _ _ _ _ (by decide)),
    (hk.fld _ (by decide)).trans (State.fld_setBit_ne _ _ _ _ (by decide)), only_State_resumeLabels _ .capo rfl⟩

theorem becomeActive_shows (s : State) : s.becomeActive.role = 3 ∧ s.becomeActive.bit Fld.PAIR_STATUS.STATE_COMPLETE = true ∧
    s.becomeActive.capo = { s.capo with chosen := true, rounds := 0, renewAt := s.now } := by
  refine ⟨?_, ?_, rfl⟩
  · exact (State.fld_setBit_ne _ _ _ _ (by decide)).trans ((State.fld_setBit_ne _ _ _ _ (by decide)).trans
      ((State.fld_setFld_ne _ _ _ _ (by decide)).trans (setRole_role _ (by decide))))
  · exact (State.bit_setBit_ne _ _ _ _ (by decide)).trans (State.bit_setBit_same _ _ _ rfl)

/-- The gate open and the device ACTIVE. -/
theorem gateActive_shows (s : State) : s.gateOpened.becomeActive.bit Fld.CAPO_STATUS.GATE_OPEN = true ∧ s.gateOpened.becomeActive.role = 3 ∧
    s.gateOpened.becomeActive.bit Fld.PAIR_STATUS.STATE_COMPLETE = true ∧
    s.gateOpened.becomeActive.fld Fld.PAIR_EPOCH = s.fld Fld.PAIR_EPOCH ∧
    s.gateOpened.becomeActive.capo = { s.capo with chosen := true, rounds := 0, renewAt := s.gateOpened.now } := by
  obtain ⟨hgate, -, hepoch, hcapo⟩ := gateOpened_shows s
  rw [← hepoch, ← hcapo]
  generalize s.gateOpened = u at hgate ⊢
  obtain ⟨hrole, hcomplete, hcapo'⟩ := becomeActive_shows u
  have hk := kept_State_becomeActive u
  exact ⟨(hk.bit _ (by decide)).trans hgate, hrole, hcomplete, hk.fld _ (by decide), hcapo'⟩

/-- What opens the gate (R311). -/
theorem gateDue (hg : s.bit Fld.CAPO_STATUS.GATE_OPEN = false) (hp : s.paired = true) (hi : s.islandOff = false) (hh : s.gateHolds = true)
    (ht : s.capo.seenAt + s.confirmTime ≤ s.now) (hr : s.role = 2 ∨ s.role = 3) : ¬ (s.bit Fld.CAPO_STATUS.GATE_OPEN = true ∨ s.paired = false ∨
      s.islandOff = true ∨ s.gateHolds = false ∨ s.now < s.capo.seenAt + s.confirmTime ∨ (s.role ≠ 2 ∧ s.role ≠ 3)) := by
  rw [hg, hp, hi, hh]
  simp only [Bool.false_eq_true, Bool.true_eq_false, false_or, not_or, not_and]
  omega

theorem gateOpen_activates (hdue : ¬ (s.bit Fld.CAPO_STATUS.GATE_OPEN = true ∨ s.paired = false ∨ s.islandOff = true ∨ s.gateHolds = false ∨
    s.now < s.capo.seenAt + s.confirmTime ∨ (s.role ≠ 2 ∧ s.role ≠ 3))) (hr : s.role = 2) : Does .gateOpen s fun t =>
      t.bit Fld.CAPO_STATUS.GATE_OPEN = true ∧ t.role = 3 ∧ t.bit Fld.PAIR_STATUS.STATE_COMPLETE = true := by
  have hx := (exec_gateOpen hdue).trans (if_neg (by simp [hr]))
  obtain ⟨hgate, hrole, hcomplete, -, -⟩ := gateActive_shows s
  generalize s.gateOpened.becomeActive = u at hx hgate hrole hcomplete
  have hk : Kept [Fld.PAIR_EPOCH] u (u.nextEpoch 1).adoptMirror := Kept.step (kept_State_adoptMirror _) rfl (kept_State_nextEpoch u 1)
  have hn : Kept [Fld.PAIR_EPOCH, Fld.HFE_DWE_STATUS.ENTRIES, Fld.HFE_DWE_STATUS.OVERFLOW, Fld.HFE_STATUS.REPLAY_PENDING, Fld.MIRROR_BYTES,
      Fld.WC_REPLAY.RESULT, Fld.WC_STATUS.OVER_LIMIT, Fld.WC_STATUS.UNPROTECTED, Fld.WC_UNPROT_MS] u (u.nextEpoch 1).adoptMirror.noReplay :=
    Kept.step (kept_State_noReplay _) rfl (Kept.step (kept_State_adoptMirror _) rfl (Kept.step (kept_State_nextEpoch u 1) rfl Kept.refl))
  split_ifs at hx
  · exact ⟨_, hx, hgate, hrole, hcomplete⟩
  · exact ⟨_, hx, (hk.bit _ (by decide)).trans hgate, (hk.fld _ (by decide)).trans hrole, (hk.bit _ (by decide)).trans hcomplete⟩
  · exact ⟨_, hx, (hn.bit _ (by decide)).trans hgate, (hn.fld _ (by decide)).trans hrole, (hn.bit _ (by decide)).trans hcomplete⟩

theorem gateOpen_takesOver {x : Nat} (hdue : ¬ (s.bit Fld.CAPO_STATUS.GATE_OPEN = true ∨ s.paired = false ∨ s.islandOff = true ∨
    s.gateHolds = false ∨ s.now < s.capo.seenAt + s.confirmTime ∨ (s.role ≠ 2 ∧ s.role ≠ 3))) (hr : s.role = 2)
    (hx : s.capo.takeoverAt = some x) : Does .gateOpen s fun t => t.bit Fld.CAPO_STATUS.GATE_OPEN = true ∧ t.role = 3 ∧
      t.capo.takeoverAt = some x ∧ t.capo.fence = s.capo.fence ∧ t.fld Fld.PAIR_EPOCH = s.fld Fld.PAIR_EPOCH := by
  obtain ⟨hgate, hrole, -, hepoch, hcapo⟩ := gateActive_shows s
  have htake : s.gateOpened.becomeActive.capo.takeoverAt = some x := (congrArg Capo.takeoverAt hcapo :).trans hx
  exact ⟨_, (exec_gateOpen hdue).trans ((if_neg (by simp [hr])).trans (if_pos (by rw [htake]; rfl))), hgate, hrole, htake,
    (congrArg Capo.fence hcapo :), hepoch⟩

/-! ### Renewal and contention (R312, R313) -/

theorem exec_capoRenew {iface : Iface} : exec (.capoRenew iface) s =
    if iface = .firmware then .next { s with capo := { s.capo with renewAt := s.now } } else .next s := rfl

/-- The claim given up for an expired renewal. -/
def State.claimExpired (s : State) : State :=
  { s with capo := { s.capo with request := false, released := true, expired := true, fence := false, takeoverAt := none } }

/-- An expired renewal acted on, before the updates in flight are given up. -/
def State.renewalLost (s : State) : State := ((s.closeGate.claimExpired.setBit Fld.CAPO_STATUS.RENEW_EXPIRED true).setRole 1).driveCapo

theorem exec_renewExpiry (hp : s.paired = true) (hi : s.islandOff = false) (hq : s.capo.request = true) (hf : s.pwr.fast = .running) :
    exec .renewExpiry s = .next s.renewalLost.leaveUpdates.mirrorOff := if_neg (by simp [hp, hi, hq, hf])

theorem renewalLost_shows (s : State) : s.renewalLost.bit Fld.CAPO_STATUS.GATE_OPEN = false ∧
    s.renewalLost.bit Fld.CAPO_STATUS.RENEW_EXPIRED = true ∧ s.renewalLost.fld Fld.CAPO_STATUS.DRIVE = 0 ∧ s.renewalLost.role = 1 ∧
    s.renewalLost.capo.expired = true := by
  have hclosed := closeGate_closed s
  unfold State.renewalLost
  generalize s.closeGate = u at hclosed ⊢
  have hk := kept_State_driveCapo ((u.claimExpired.setBit Fld.CAPO_STATUS.RENEW_EXPIRED true).setRole 1)
  refine ⟨(hk.bit _ (by decide)).trans ?_, (hk.bit _ (by decide)).trans ?_, (driveCapo_drives _).trans (driveCode_released rfl),
    (driveCapo_role _).trans (setRole_role _ (by decide)), rfl⟩
  · exact ((kept_State_setRole _ 1).bit _ (by decide)).trans ((State.bit_setBit_ne _ _ _ _ (by decide)).trans hclosed)
  · exact ((kept_State_setRole _ 1).bit _ (by decide)).trans (State.bit_setBit_same _ _ _ rfl)

theorem renewExpiry_releases (hp : s.paired = true) (hi : s.islandOff = false) (hq : s.capo.request = true) (hf : s.pwr.fast = .running) :
    Does .renewExpiry s fun t => t.bit Fld.CAPO_STATUS.GATE_OPEN = false ∧ t.bit Fld.CAPO_STATUS.RENEW_EXPIRED = true ∧
      t.fld Fld.CAPO_STATUS.DRIVE = 0 ∧ t.role = 1 ∧ t.capo.expired = true ∧ t.mayClaim = false := by
  obtain ⟨hgate, hlost, hdrive, hrole, hexp⟩ := renewalLost_shows s
  have hx := exec_renewExpiry hp hi hq hf
  generalize s.renewalLost = u at hx hgate hlost hdrive hrole hexp
  obtain ⟨hupd, l, hcapo⟩ := leaveUpdates_parts u
  obtain ⟨-, hcapo'⟩ := mirrorOff_parts hupd
  have hexp' : u.leaveUpdates.mirrorOff.capo.expired = true := by rw [hcapo', hcapo]; exact hexp
  have hk := sameFlds_leaveUpdates_mirrorOff u
  exact ⟨_, hx, (hk.bit (by decide)).trans hgate, (hk.bit (by decide)).trans hlost, (hk _ (by decide)).trans hdrive, (hk _ (by decide)).trans hrole,
    hexp', by simp [State.mayClaim, hexp']⟩

/-- A round of contention counted, its backoff begun. -/
def State.backedOff (s : State) : State := { s with capo := { s.capo with rounds := s.capo.rounds + 1, backoff := true } }

theorem exec_contentionTimeout (hp : s.paired = true) (h0 : s.rank = 0) (hq : s.capo.request = true) (h1 : s.seen = 1) (h4 : s.role ≠ 4) :
    exec .contentionTimeout s = .next s.withdraw.backedOff := if_pos ⟨hp, h0, hq, h1, h4⟩

theorem withdraw_rounds (s : State) : s.withdraw.capo.rounds = s.capo.rounds := by
  by_cases h3 : s.role = 3
  · rw [withdraw_active h3]
    exact (congrArg Capo.rounds (beginRelease_shows s 0).2.2 :)
  · exact (congrArg Capo.rounds (withdraw_standby h3).2.1 :)

theorem contentionTimeout_backsOff (hp : s.paired = true) (h0 : s.rank = 0) (hq : s.capo.request = true) (h1 : s.seen = 1) (h4 : s.role ≠ 4) :
    Does .contentionTimeout s fun t => t.capo.rounds = s.capo.rounds + 1 ∧ t.capo.backoff = true ∧
      (s.role ≠ 3 → t.role = 1 ∧ t.capo.request = false) ∧ (s.role = 3 → t.role = 4 ∧ t.bit Fld.CAPO_STATUS.GATE_OPEN = false) := by
  refine ⟨_, exec_contentionTimeout hp h0 hq h1 h4, congrArg (· + 1) (withdraw_rounds s), rfl, fun h3 => ?_, fun h3 => ?_⟩
  · obtain ⟨hrole, hcapo, -⟩ := withdraw_standby h3
    exact ⟨hrole, (congrArg Capo.request hcapo :)⟩
  · rw [withdraw_active h3]
    obtain ⟨hrole, hgate, -⟩ := beginRelease_shows s 0
    exact ⟨hrole, hgate⟩

/-- A backoff that is over. -/
def State.backoffOver (s : State) : State := { s with capo := { s.capo with backoff := false } }

theorem exec_contentionBackoffExpiry (h : s.capo.backoff = true) : exec .contentionBackoffExpiry s =
    if 8 ≤ s.capo.rounds then .next ((s.backoffOver.setFld Fld.CAPO_STATUS.IDLE_REASON 6).emit .contentionUnresolved [s.capo.rounds])
    else .next s.backoffOver.beginClaim := if_neg (by simp [h])

theorem backoffOver_mayClaim (s : State) : s.backoffOver.mayClaim = s.mayClaim := mayClaim_of rfl rfl rfl (sameFlds_of_regs rfl)

end

/-- Settles O48. -/
theorem gateAndClaimFollowTheLine : Obligations.GateAndClaimFollowTheLine := by
  unfold Obligations.GateAndClaimFollowTheLine
  refine ⟨?closes, ?readback, ?opens, ?early, ?renewed, ?foreign, ?expired, ?contends, ?claimsAgain, ?givesUp, ?sameClass, ?unpaired, ?stuck,
    ?partnerActive, ?yields, ?yieldsActive, ?agrees, ?readbackReset, ?readbackAlone, ?readbackReleased, ?stays, ?reopens, ?takesOver, ?noRenewal,
    ?contendsActive, ?noContention, ?mayNot, ?noBackoff⟩
  case closes => exact fun s c hr hu hc hp => capoSeenClass_closes hr hu hc hp
  case readback =>
    intro s hp hi hrel
    obtain ⟨t, hx, hrb, hl, hgate, hrole, hdrive⟩ := readbackCheck_faults hp hi
    exact ⟨t, hx, hrb, hl, hgate, hrole, hdrive.trans (if_neg (by simp [hrel]))⟩
  case opens => exact fun s hg hp hi hh ht hr => gateOpen_activates (gateDue hg hp hi hh ht (.inl hr)) hr
  case early => exact fun s _ _ _ h => ⟨_, exec_gateOpen_idle (.inr (.inr (.inr (.inr (.inl h))))), rfl⟩
  case renewed => exact fun s => ⟨_, exec_capoRenew.trans (if_pos rfl), rfl, rfl⟩
  case foreign => exact fun s iface h => ⟨_, exec_capoRenew.trans (if_neg h), rfl⟩
  case expired => exact fun s hp hi hq hf => renewExpiry_releases hp hi hq hf
  case contends =>
    intro s hp h0 hq h1 h4
    obtain ⟨t, hx, hrounds, hback, hstand, -⟩ := contentionTimeout_backsOff hp h0 hq h1 h4
    exact ⟨t, hx, hrounds, hback, hstand⟩
  case claimsAgain =>
    intro s hb hr hm
    obtain ⟨hrole, -, hcapo⟩ := beginClaim_claims ((backoffOver_mayClaim s).trans hm)
    exact ⟨_, (exec_contentionBackoffExpiry hb).trans (if_neg (Nat.not_le.mpr hr)), hrole, (congrArg Capo.request hcapo :),
      (congrArg Capo.backoff hcapo :)⟩
  case givesUp => exact fun s hb hr => ⟨_, (exec_contentionBackoffExpiry hb).trans (if_pos hr), State.fld_setFld_same .., rfl⟩
  case sameClass => exact fun s c h => ⟨_, exec_capoSeenClass_idle h, rfl⟩
  case unpaired => exact fun s c hr hu hc hp => capoSeenClass_unpaired hr hu hc hp
  case stuck =>
    intro s c hc hp hi hrel h4
    obtain ⟨t, hx, hrole, hl, hreq, hdrive⟩ := capoSeenClass_faults hc hp hi (.inl h4)
    exact ⟨t, hx, hrole, hl, hdrive hrel, hreq⟩
  case partnerActive =>
    intro s hc hp hi h1 hpa
    obtain ⟨t, hx, hrole, hl, -, -⟩ := capoSeenClass_faults (c := .released) hc hp hi (.inr ⟨rfl, h1, hpa⟩)
    exact ⟨t, hx, hrole, hl⟩
  case yields =>
    intro s hc hp hi hq hr h3 h4
    obtain ⟨hx, hrole⟩ := capoSeenClass_withdraws hc hp hi hq hr h4
    obtain ⟨hstand, hcapo, -⟩ := withdraw_standby (hrole.trans_ne h3)
    exact ⟨_, hx, hstand, (congrArg Capo.request hcapo :)⟩
  case yieldsActive =>
    intro s hc hp hi hq hr h3
    obtain ⟨hx, hrole⟩ := capoSeenClass_withdraws hc hp hi hq hr (by omega)
    rw [withdraw_active (hrole.trans h3)] at hx
    obtain ⟨h4, hgate, -⟩ := beginRelease_shows (s.classShown .active).closeGate.gateChecked 0
    exact ⟨_, hx, h4, hgate⟩
  case agrees => exact fun s => ⟨s, rfl, rfl⟩
  case readbackReset => exact fun s h => ⟨_, if_pos (by rcases h with h | h <;> simp [h]), rfl⟩
  case readbackAlone =>
    exact fun s hr hu h => ⟨_, (exec_readbackCheck hr hu).trans (if_neg (by rcases h with h | h <;> simp [h])), rfl⟩
  case readbackReleased =>
    intro s hp hi hrel
    obtain ⟨t, hx, hrb, hl, hgate, hrole, hdrive⟩ := readbackCheck_faults hp hi
    exact ⟨t, hx, hrb, hl, hgate, hrole, hdrive.trans (if_pos hrel)⟩
  case stays =>
    intro s h
    refine ⟨_, exec_gateOpen_idle ?_, rfl⟩
    rcases h with h | h | h | h | h
    · exact .inl h
    · exact .inr (.inl h)
    · exact .inr (.inr (.inl h))
    · exact .inr (.inr (.inr (.inl h)))
    · exact .inr (.inr (.inr (.inr (.inr h))))
  case reopens =>
    intro s hg hp hi hh ht hr
    obtain ⟨hgate, hrole, hepoch, -⟩ := gateOpened_shows s
    exact ⟨_, (exec_gateOpen (gateDue hg hp hi hh ht (.inr hr))).trans (if_pos (by simp [hr])), hgate, hrole.trans hr, hepoch⟩
  case takesOver => exact fun s x hg hp hi hh ht hr hx => gateOpen_takesOver (gateDue hg hp hi hh ht (.inl hr)) hr hx
  case noRenewal => exact fun s h => ⟨_, if_pos h, rfl⟩
  case contendsActive =>
    intro s hp h0 hq h1 h3
    obtain ⟨t, hx, hrounds, hback, -, hact⟩ := contentionTimeout_backsOff hp h0 hq h1 (by omega)
    obtain ⟨hrole, hgate⟩ := hact h3
    exact ⟨t, hx, hrole, hgate, hrounds, hback⟩
  case noContention =>
    intro s h
    refine ⟨_, if_neg ?_, rfl⟩
    rintro ⟨hp, h0, hq, h1, h4⟩
    rcases h with h | h | h | h | h
    · simp [hp] at h
    · exact h h0
    · simp [hq] at h
    · exact h h1
    · exact h4 h
  case mayNot =>
    intro s hb hr hm
    refine ⟨_, (exec_contentionBackoffExpiry hb).trans (if_neg (Nat.not_le.mpr hr)), ?_⟩
    rw [beginClaim_idle ((backoffOver_mayClaim s).trans hm)]
    exact ⟨driveCapo_role _, rfl, rfl⟩
  case noBackoff => exact fun s hb => ⟨_, if_pos (by simp [hb]), rfl⟩

/-! ### CAPO_CMD (R315, R324, R328) -/

theorem capoIgnored_shows (s : State) (n : Nat) : (s.capoIgnored n).regs = s.regs ∧ (s.capoIgnored n).capo = s.capo := ⟨rfl, rfl⟩

/-- Whether a device that would claim sees RELEASED, so that the write fence runs. -/
def State.claimFenced (s : State) : Bool := s.seen == 3 && s.capo.chosen

/-- A claim of CAPO_CMD, before it begins. -/
def State.claimAsked (s : State) : State :=
  { s with capo := { s.capo with rounds := 0, fence := s.claimFenced, takeoverAt := if s.claimFenced then some s.capo.seenAt else none } }

section
variable {s : State}

theorem exec_capoClaim (ht : s.Takes Fld.CAPO_CMD.CMD.addr) : exec .capoClaim s =
    if s.role ≠ 1 ∨ s.mayClaim = false ∨ s.fld Fld.CAPO_STATUS.IDLE_REASON = 2 ∨ s.fld Fld.CAPO_STATUS.IDLE_REASON = 3 ∨
      s.fld Fld.CAPO_STATUS.IDLE_REASON = 5 then .next (s.capoIgnored 1)
    else .next s.claimAsked.beginClaim := by
  simp only [exec, execCapoClaim, command_takes _ _ _ ht]
  rfl

theorem idle_mem {n : Nat} : n ∈ [2, 3, 5] ↔ n = 2 ∨ n = 3 ∨ n = 5 := by simp

theorem capoClaim_refused (ht : s.Takes Fld.CAPO_CMD.CMD.addr)
    (h : s.role ≠ 1 ∨ s.mayClaim = false ∨ s.fld Fld.CAPO_STATUS.IDLE_REASON ∈ [2, 3, 5]) :
    Does .capoClaim s fun t => t.regs = s.regs ∧ t.capo = s.capo :=
  ⟨_, (exec_capoClaim ht).trans (if_pos (by rw [← idle_mem]; exact h)), capoIgnored_shows s 1⟩

theorem claimAsked_mayClaim (s : State) : s.claimAsked.mayClaim = s.mayClaim := mayClaim_of rfl rfl rfl (sameFlds_of_regs rfl)

theorem capoClaim_claims (ht : s.Takes Fld.CAPO_CMD.CMD.addr) (hr : s.role = 1) (hm : s.mayClaim = true)
    (hi : s.fld Fld.CAPO_STATUS.IDLE_REASON ∉ [2, 3, 5]) : Does .capoClaim s fun t => t.role = 2 ∧ t.capo.request = true ∧ t.capo.rounds = 0 ∧
      t.fld Fld.CAPO_STATUS.IDLE_REASON = 0 ∧ t.capo.fence = s.claimFenced ∧
      t.capo.takeoverAt = if s.claimFenced = true then some s.capo.seenAt else none := by
  obtain ⟨hrole, hidle, hcapo⟩ := beginClaim_claims ((claimAsked_mayClaim s).trans hm)
  have hno : ¬ (s.role ≠ 1 ∨ s.mayClaim = false ∨ s.fld Fld.CAPO_STATUS.IDLE_REASON = 2 ∨ s.fld Fld.CAPO_STATUS.IDLE_REASON = 3 ∨
      s.fld Fld.CAPO_STATUS.IDLE_REASON = 5) := by
    rw [← idle_mem, hm]
    simpa [hr] using hi
  exact ⟨_, (exec_capoClaim ht).trans (if_neg hno), hrole, (congrArg Capo.request hcapo :), (congrArg Capo.rounds hcapo :), hidle,
    (congrArg Capo.fence hcapo :), (congrArg Capo.takeoverAt hcapo :)⟩

theorem exec_capoRelease (ht : s.Takes Fld.CAPO_CMD.CMD.addr) : exec .capoRelease s =
    if s.role = 3 then .next (s.beginRelease 2).sendHealth
    else if s.role = 2 then .next s.closeGate.endRelease
    else .next (s.capoIgnored 2) := by
  simp only [exec, execCapoRelease, command_takes _ _ _ ht]

theorem capoRelease_active (ht : s.Takes Fld.CAPO_CMD.CMD.addr) (hr : s.role = 3) : Does .capoRelease s fun t =>
    t.role = 4 ∧ t.bit Fld.CAPO_STATUS.GATE_OPEN = false ∧ t.capo.releaseCause = 2 ∧ t.capo.sent ≠ [] := by
  obtain ⟨hrole, hgate, hcapo⟩ := beginRelease_shows s 2
  have hx := (exec_capoRelease ht).trans (if_pos hr)
  generalize s.beginRelease 2 = u at hx hrole hgate hcapo
  exact ⟨_, hx, hrole, hgate, (congrArg Capo.releaseCause hcapo :), List.append_ne_nil_of_right_ne_nil _ (List.cons_ne_nil _ _)⟩

theorem capoRelease_claiming (ht : s.Takes Fld.CAPO_CMD.CMD.addr) (hr : s.role = 2) : Does .capoRelease s fun t =>
    t.role = 1 ∧ t.bit Fld.CAPO_STATUS.GATE_OPEN = false ∧ t.capo.request = false ∧ t.fld Fld.CAPO_STATUS.DRIVE = 0 := by
  obtain ⟨hrole, hdrive, hreq, -, hgate⟩ := endRelease_shows s.closeGate
  exact ⟨_, (exec_capoRelease ht).trans ((if_neg (by omega)).trans (if_pos hr)), hrole, hgate.trans (closeGate_closed s), hreq, hdrive⟩

/-- A line fault cleared. -/
def State.faultCleared (s : State) : State :=
  let s := (s.setBit Fld.CAPO_STATUS.LINE_FAULT false).setBit Fld.CAPO_STATUS.READBACK_FAULT false
  ((s.setFld Fld.CAPO_STATUS.IDLE_REASON 0).setRole (if s.capo.chosen then 1 else 0)).driveCapo

theorem exec_capoClearFault (ht : s.Takes Fld.CAPO_CMD.CMD.addr) : exec .capoClearFault s =
    if (!s.bit Fld.CAPO_STATUS.LINE_FAULT) = true then .next (s.capoIgnored 3)
    else if 4 ≤ s.seen then .next s
    else .next s.faultCleared := by
  simp only [exec, execCapoClearFault, command_takes _ _ _ ht]
  rfl

theorem faultCleared_shows (s : State) : s.faultCleared.bit Fld.CAPO_STATUS.LINE_FAULT = false ∧
    s.faultCleared.bit Fld.CAPO_STATUS.READBACK_FAULT = false ∧ s.faultCleared.fld Fld.CAPO_STATUS.IDLE_REASON = 0 ∧
    s.faultCleared.role = if s.capo.chosen then 1 else 0 := by
  have hk : Kept [Fld.CAPO_STATUS.DRIVE, Fld.CAPO_STATUS.ROLE, Fld.CAPO_STATUS.IDLE_REASON]
      ((s.setBit Fld.CAPO_STATUS.LINE_FAULT false).setBit Fld.CAPO_STATUS.READBACK_FAULT false) s.faultCleared :=
    Kept.setFld rfl (Kept.setFld rfl (Kept.setFld rfl Kept.refl))
  refine ⟨(hk.bit _ (by decide)).trans ?_, (hk.bit _ (by decide)).trans (State.bit_setBit_same _ _ _ rfl), ?_, ?_⟩
  · exact (State.bit_setBit_ne _ _ _ _ (by decide)).trans (State.bit_setBit_same _ _ _ rfl)
  · exact ((kept_State_driveCapo _).fld _ (by decide)).trans (((kept_State_setRole _ _).fld _ (by decide)).trans (State.fld_setFld_same ..))
  · exact (driveCapo_role _).trans (setRole_role _ (by split <;> decide))

/-! #### FORCE_CLAIM (R324, R410) -/

theorem mirror_capo (s : State) (i : MirrorItem) : ∃ l, (s.mirror i).capo = { s.capo with unacked := l } := by
  unfold State.mirror
  split
  · exact ⟨_, rfl⟩
  · exact ⟨s.capo.unacked, rfl⟩

/-- A deferred error is mirrored, and leaves the challenge. -/
theorem deferError_parts (s : State) (nsid cause slba nlb : Nat) : (∃ l, (s.deferError nsid cause slba nlb).capo = { s.capo with unacked := l }) ∧
    (s.deferError nsid cause slba nlb).evr.chal = s.evr.chal := by
  unfold State.deferError
  extract_lets e l m₀ h₀ u same size m₁ h₁ v
  have hv : v.capo = s.capo ∧ v.evr.chal = s.evr.chal := by
    unfold v u
    split_ifs
    · exact ⟨rfl, rfl⟩
    · exact ⟨rfl, rfl⟩
    · clear_value same
      cases same <;> exact ⟨rfl, rfl⟩
  obtain ⟨hcapo, hchal⟩ := hv
  clear_value v
  obtain ⟨m, hm⟩ := mirror_capo ((v.setFld Fld.HFE_DWE_STATUS.ENTRIES v.hfe.dwe.length).flagNs nsid) (.deferred nsid cause slba nlb)
  refine ⟨⟨m, hm.trans ?_⟩, ?_⟩
  · rw [only_State_flagNs _ _ .capo rfl]
    exact congrArg (fun c : Capo => { c with unacked := m }) hcapo
  · refine (congrArg Evr.chal (only_State_mirror _ _ .evr rfl)).trans ?_
    exact (congrArg Evr.chal (only_State_flagNs _ _ .evr rfl)).trans hchal

theorem reportAll_parts (s : State) : (∃ l, s.reportAll.capo = { s.capo with unacked := l }) ∧ s.reportAll.evr.chal = s.evr.chal := by
  unfold State.reportAll
  refine List.foldlRecOn (motive := fun t : State => (∃ l, t.capo = { s.capo with unacked := l }) ∧ t.evr.chal = s.evr.chal) _ _
    ⟨⟨s.capo.unacked, rfl⟩, rfl⟩ fun t ht n _ => ?_
  obtain ⟨⟨l, hcapo⟩, hchal⟩ := ht
  obtain ⟨⟨m, hm⟩, hc⟩ := deferError_parts t n.nsid 0x02 0 n.size
  exact ⟨⟨m, by rw [hm, hcapo]⟩, hc.trans hchal⟩

theorem exec_capoForceClaim {iface : Iface} (ht : s.Takes Fld.CAPO_CMD.CMD.addr) : exec (.capoForceClaim iface) s =
    if s.role ≠ 1 ∨ (s.fld Fld.CAPO_STATUS.IDLE_REASON ≠ 2 ∧ s.fld Fld.CAPO_STATUS.IDLE_REASON ≠ 3) ∨ s.mayClaim = false ∨
      2 ^ 32 ≤ s.fld Fld.PAIR_EPOCH + 65536 then .next (s.capoIgnored 4)
    else
      let ok := s.tokenOk 7 (s.fld Fld.PAIR_EPOCH) (s.fld Fld.CAPO_AUTH)
      let u := s.tokenChecked 7 (ifaceOwner iface) ok
      if (!ok) = true then .next u
      else .next ((({ u with capo := { u.capo with chosen := true, rounds := 0 } } : State).nextEpoch 65536).reportAll.beginClaim) := by
  simp only [exec, execCapoForceClaim, command_takes _ _ _ ht]

theorem forceClaim_refused {iface : Iface} (ht : s.Takes Fld.CAPO_CMD.CMD.addr)
    (h : s.role ≠ 1 ∨ s.fld Fld.CAPO_STATUS.IDLE_REASON ∉ [2, 3] ∨ s.mayClaim = false ∨ 2 ^ 32 ≤ s.fld Fld.PAIR_EPOCH + 65536) :
    Does (.capoForceClaim iface) s fun t => t.regs = s.regs ∧ t.capo = s.capo :=
  ⟨_, (exec_capoForceClaim ht).trans (if_pos (by simpa using h)), capoIgnored_shows s 4⟩

theorem forceClaim_due (hr : s.role = 1) (hi : s.fld Fld.CAPO_STATUS.IDLE_REASON ∈ [2, 3]) (hm : s.mayClaim = true)
    (he : s.fld Fld.PAIR_EPOCH + 65536 < 2 ^ 32) : ¬ (s.role ≠ 1 ∨ (s.fld Fld.CAPO_STATUS.IDLE_REASON ≠ 2 ∧
      s.fld Fld.CAPO_STATUS.IDLE_REASON ≠ 3) ∨ s.mayClaim = false ∨ 2 ^ 32 ≤ s.fld Fld.PAIR_EPOCH + 65536) := by
  simp only [List.mem_cons, List.not_mem_nil, or_false] at hi
  rw [hm]
  simp only [Bool.true_eq_false, false_or, not_or]
  omega

/-- What a checked token leaves of the claim. -/
theorem tokenChecked_keeps (s : State) (op who : Nat) (ok : Bool) : (s.tokenChecked op who ok).capo = s.capo ∧
    (s.tokenChecked op who ok).evr.chal = none ∧ SameFlds claimFields s (s.tokenChecked op who ok) := by
  refine ⟨only_State_tokenChecked s op who ok .capo rfl, ?_, (kept_State_tokenChecked s op who ok).sameFlds (by decide)⟩
  unfold State.tokenChecked
  dsimp only
  split
  · rfl
  · split <;> rfl

theorem tokenChecked_fails (s : State) (op who : Nat) : (s.tokenChecked op who false).evr.failures = s.evr.failures + 1 := by
  unfold State.tokenChecked
  dsimp only
  rw [if_neg Bool.false_ne_true]
  split <;> rfl

theorem forceClaim_badToken {iface : Iface} (ht : s.Takes Fld.CAPO_CMD.CMD.addr) (hr : s.role = 1)
    (hi : s.fld Fld.CAPO_STATUS.IDLE_REASON ∈ [2, 3]) (hm : s.mayClaim = true) (he : s.fld Fld.PAIR_EPOCH + 65536 < 2 ^ 32)
    (hk : s.tokenOk 7 (s.fld Fld.PAIR_EPOCH) (s.fld Fld.CAPO_AUTH) = false) : Does (.capoForceClaim iface) s fun t =>
      t.role = 1 ∧ t.fld Fld.PAIR_EPOCH = s.fld Fld.PAIR_EPOCH ∧ t.evr.chal = none ∧ t.evr.failures = s.evr.failures + 1 ∧ t.capo = s.capo := by
  have hx := (exec_capoForceClaim (iface := iface) ht).trans (if_neg (forceClaim_due hr hi hm he))
  dsimp only at hx
  rw [hk] at hx
  obtain ⟨hcapo, hchal, hflds⟩ := tokenChecked_keeps s 7 (ifaceOwner iface) false
  exact ⟨_, hx.trans (if_pos rfl), (hflds _ (by decide)).trans hr, hflds _ (by decide), hchal, tokenChecked_fails s 7 _, hcapo⟩

/-- The epoch raised and every namespace reported for a forced claim. -/
def State.claimForced (s : State) : State := (({ s with capo := { s.capo with chosen := true, rounds := 0 } } : State).nextEpoch 65536).reportAll

theorem claimForced_shows (s : State) : s.claimForced.mayClaim = s.mayClaim ∧ s.claimForced.evr.chal = s.evr.chal ∧
    s.claimForced.fld Fld.PAIR_EPOCH = min (s.fld Fld.PAIR_EPOCH + 65536) (2 ^ 32 - 1) := by
  have hraised : (({ s with capo := { s.capo with chosen := true, rounds := 0 } } : State).nextEpoch 65536).fld Fld.PAIR_EPOCH =
      min (s.fld Fld.PAIR_EPOCH + 65536) (2 ^ 32 - 1) := fld_satFld_same ..
  have hmay : (({ s with capo := { s.capo with chosen := true, rounds := 0 } } : State).nextEpoch 65536).mayClaim = s.mayClaim :=
    mayClaim_of rfl rfl rfl ((sameFlds_of_regs rfl).trans ((kept_State_nextEpoch { s with capo := { s.capo with chosen := true, rounds := 0 } }
      65536).sameFlds (by decide)))
  have hchal : (({ s with capo := { s.capo with chosen := true, rounds := 0 } } : State).nextEpoch 65536).evr.chal = s.evr.chal := rfl
  unfold State.claimForced
  generalize State.nextEpoch _ 65536 = u at hraised hmay hchal ⊢
  obtain ⟨⟨l, hcapo⟩, hc⟩ := reportAll_parts u
  have hk := kept_State_reportAll u
  refine ⟨?_, hc.trans hchal, (hk.fld _ (by decide)).trans hraised⟩
  exact (mayClaim_of (only_State_reportAll u .img rfl) (only_State_reportAll u .pwr rfl) (congrArg Capo.expired hcapo :)
    (hk.sameFlds (by decide))).trans hmay

theorem forceClaim_claims {iface : Iface} (ht : s.Takes Fld.CAPO_CMD.CMD.addr) (hr : s.role = 1)
    (hi : s.fld Fld.CAPO_STATUS.IDLE_REASON ∈ [2, 3]) (hm : s.mayClaim = true) (he : s.fld Fld.PAIR_EPOCH + 65536 < 2 ^ 32)
    (hk : s.tokenOk 7 (s.fld Fld.PAIR_EPOCH) (s.fld Fld.CAPO_AUTH) = true) : Does (.capoForceClaim iface) s fun t =>
      t.role = 2 ∧ t.fld Fld.PAIR_EPOCH = s.fld Fld.PAIR_EPOCH + 65536 ∧ t.evr.chal = none := by
  have hx := (exec_capoForceClaim (iface := iface) ht).trans (if_neg (forceClaim_due hr hi hm he))
  dsimp only at hx
  rw [hk] at hx
  obtain ⟨hcapo, hchal, hflds⟩ := tokenChecked_keeps s 7 (ifaceOwner iface) true
  have hmay : (s.tokenChecked 7 (ifaceOwner iface) true).mayClaim = s.mayClaim :=
    mayClaim_of (only_State_tokenChecked _ _ _ _ .img rfl) (only_State_tokenChecked _ _ _ _ .pwr rfl) (congrArg Capo.expired hcapo)
      (hflds.mono (by decide))
  have hepoch := hflds Fld.PAIR_EPOCH (by decide)
  have hx' : exec (.capoForceClaim iface) s = .next (s.tokenChecked 7 (ifaceOwner iface) true).claimForced.beginClaim := hx
  clear hx
  generalize s.tokenChecked 7 (ifaceOwner iface) true = u at hx' hchal hmay hepoch
  obtain ⟨hmay', hchal', hraised⟩ := claimForced_shows u
  generalize u.claimForced = v at hx' hmay' hchal' hraised
  obtain ⟨hrole, -, -⟩ := beginClaim_claims (hmay'.trans (hmay.trans hm))
  refine ⟨_, hx', hrole, ?_, ?_⟩
  · rw [(kept_State_beginClaim v).fld _ (by decide), hraised, hepoch]
    omega
  · rw [only_State_beginClaim v .evr rfl, hchal', hchal]

/-! ### Self-tests of the standby (R321) -/

/-- Whether a cycle's failed tests are critical. -/
def State.selftestCritical (s : State) (f : Nat) : Bool :=
  let has (b : Nat) : Bool := decide (f / 2 ^ b % 2 = 1)
  has 1 || has 2 || has 3 || (has 0 && decide (s.fld Fld.PQE_STATUS.SLICE_ACTIVE = 0))

/-- A cycle of the self-tests recorded. -/
def State.selftestShown (s : State) (f : Nat) : State :=
  let crit := s.selftestCritical f
  let s := (s.setFld Fld.SELFTEST_STATUS.FAIL f).satFld Fld.SELFTEST_STATUS.CYCLES 1
  let s := { s with capo := { s.capo with passed := 63 - f } }
  s.setBit Fld.SELFTEST_STATUS.CRITICAL crit

theorem selftest_eq (s : State) (failed : Nat) : s.selftest failed =
    if s.selftestCritical (failed % 64) = true then
      if s.bit Fld.SELFTEST_STATUS.CRITICAL = true then (s.selftestShown (failed % 64)).setFld Fld.CAPO_STATUS.IDLE_REASON 4
      else ((s.selftestShown (failed % 64)).setFld Fld.CAPO_STATUS.IDLE_REASON 4).emit .selftestCritical [failed % 64]
    else if (s.selftestShown (failed % 64)).fld Fld.CAPO_STATUS.IDLE_REASON = 4 then
      (s.selftestShown (failed % 64)).setFld Fld.CAPO_STATUS.IDLE_REASON 0
    else s.selftestShown (failed % 64) := rfl

theorem selftestShown_shows (s : State) {f : Nat} (h : f < 64) : (s.selftestShown f).fld Fld.SELFTEST_STATUS.FAIL = f ∧
    (s.selftestShown f).fld Fld.SELFTEST_STATUS.CYCLES = min (s.fld Fld.SELFTEST_STATUS.CYCLES + 1) (2 ^ Fld.SELFTEST_STATUS.CYCLES.width - 1) ∧
    (s.selftestShown f).bit Fld.SELFTEST_STATUS.CRITICAL = s.selftestCritical f ∧ (s.selftestShown f).capo.passed = 63 - f ∧
    (s.selftestShown f).fld Fld.CAPO_STATUS.IDLE_REASON = s.fld Fld.CAPO_STATUS.IDLE_REASON := by
  refine ⟨?_, ?_, State.bit_setBit_same _ _ _ rfl, rfl, ?_⟩
  · exact (State.fld_setBit_ne _ _ _ _ (by decide)).trans ((State.fld_setFld_ne _ _ _ _ (by decide)).trans
      ((State.fld_setFld_same ..).trans (Nat.mod_eq_of_lt h)))
  · refine (State.fld_setBit_ne _ _ _ _ (by decide)).trans ((fld_satFld_same ..).trans ?_)
    rw [State.fld_setFld_ne _ _ _ _ (by decide)]
  · exact (State.fld_setBit_ne _ _ _ _ (by decide)).trans ((State.fld_setFld_ne _ _ _ _ (by decide)).trans
      (State.fld_setFld_ne _ _ _ _ (by decide)))

/-- What a cycle of the self-tests leaves. -/
theorem selftest_shows (s : State) (failed : Nat) : (s.selftest failed).fld Fld.SELFTEST_STATUS.FAIL = failed % 64 ∧
    (s.selftest failed).fld Fld.SELFTEST_STATUS.CYCLES = min (s.fld Fld.SELFTEST_STATUS.CYCLES + 1) (2 ^ Fld.SELFTEST_STATUS.CYCLES.width - 1) ∧
    (s.selftest failed).bit Fld.SELFTEST_STATUS.CRITICAL = s.selftestCritical (failed % 64) ∧
    (s.selftest failed).capo.passed = 63 - failed % 64 ∧
    (s.selftest failed).fld Fld.CAPO_STATUS.IDLE_REASON = (if s.selftestCritical (failed % 64) = true then 4
      else if s.fld Fld.CAPO_STATUS.IDLE_REASON = 4 then 0 else s.fld Fld.CAPO_STATUS.IDLE_REASON) := by
  obtain ⟨hfail, hcycles, hcrit, hpassed, hidle⟩ := selftestShown_shows s (Nat.mod_lt failed (by decide : 64 > 0))
  rw [selftest_eq, hidle]
  generalize s.selftestShown (failed % 64) = u at hfail hcycles hcrit hpassed hidle ⊢
  have hset (v : Nat) : (u.setFld Fld.CAPO_STATUS.IDLE_REASON v).fld Fld.SELFTEST_STATUS.FAIL = failed % 64 ∧
      (u.setFld Fld.CAPO_STATUS.IDLE_REASON v).fld Fld.SELFTEST_STATUS.CYCLES =
        min (s.fld Fld.SELFTEST_STATUS.CYCLES + 1) (2 ^ Fld.SELFTEST_STATUS.CYCLES.width - 1) ∧
      (u.setFld Fld.CAPO_STATUS.IDLE_REASON v).bit Fld.SELFTEST_STATUS.CRITICAL = s.selftestCritical (failed % 64) ∧
      (u.setFld Fld.CAPO_STATUS.IDLE_REASON v).capo.passed = 63 - failed % 64 :=
    ⟨(State.fld_setFld_ne _ _ _ _ (by decide)).trans hfail, (State.fld_setFld_ne _ _ _ _ (by decide)).trans hcycles,
      (State.bit_setFld_ne _ _ _ _ (by decide)).trans hcrit, hpassed⟩
  split
  · obtain ⟨h1, h2, h3, h4⟩ := hset 4
    split <;> exact ⟨h1, h2, h3, h4, State.fld_setFld_same ..⟩
  · split
    · obtain ⟨h1, h2, h3, h4⟩ := hset 0
      exact ⟨h1, h2, h3, h4, State.fld_setFld_same ..⟩
    · exact ⟨hfail, hcycles, hcrit, hpassed, hidle⟩

theorem selftestCritical_eq (s : State) (failed : Nat) : s.selftestCritical (failed % 64) =
    decide (failed / 2 % 8 ≠ 0 ∨ (failed % 2 = 1 ∧ s.fld Fld.PQE_STATUS.SLICE_ACTIVE = 0)) := by
  rw [Bool.eq_iff_iff]
  simp only [State.selftestCritical, Bool.or_eq_true, Bool.and_eq_true, decide_eq_true_eq, Nat.reducePow, Nat.div_one]
  omega

theorem exec_selftestNow {failed : Nat} (ht : s.Takes Fld.CAPO_CMD.CMD.addr) : exec (.selftestNow failed) s =
    if s.role = 1 then .next (s.selftest failed) else .next (s.capoIgnored 5) := by
  simp only [exec, execSelftestNow, command_takes _ _ _ ht]

end

/-- Settles O49. -/
theorem capoCommandsTakeEffect : Obligations.CapoCommandsTakeEffect := by
  unfold Obligations.CapoCommandsTakeEffect
  refine ⟨?claimed, ?notStandby, ?released, ?completed, ?cleared, ?stillFaulted, ?forced, ?tested, ?cycled, ?notClaimed, ?fenced, ?claimingReleased,
    ?noRelease, ?notReleasing, ?noFault, ?notForced, ?badToken, ?noTest, ?critical, ?mild, ?noCycle, ?cycleCounted⟩
  case claimed =>
    intro s ht hr hm hi
    obtain ⟨t, hx, hrole, hreq, hrounds, hidle, -, -⟩ := capoClaim_claims ht hr hm hi
    exact ⟨t, hx, hrole, hreq, hrounds, hidle⟩
  case notStandby => exact fun s ht hr => capoClaim_refused ht (.inl hr)
  case released => exact fun s ht hr => capoRelease_active ht hr
  case completed =>
    intro s hr hw
    obtain ⟨hrole, hdrive, hreq, hupd, -⟩ := endRelease_shows s
    exact ⟨_, if_pos ⟨hr, hw⟩, hrole, hdrive, hreq, hupd⟩
  case cleared =>
    exact fun s ht hl hs => ⟨_, (exec_capoClearFault ht).trans ((if_neg (by simp [hl])).trans (if_neg (Nat.not_le.mpr hs))), faultCleared_shows s⟩
  case stillFaulted =>
    exact fun s ht hl hs => ⟨_, (exec_capoClearFault ht).trans ((if_neg (by simp [hl])).trans (if_pos hs)), rfl⟩
  case forced => exact fun s iface ht hr hi hm he hk => forceClaim_claims ht hr (by simpa using hi) hm he hk
  case tested =>
    intro s failed ht hr
    obtain ⟨hfail, hcycles, -⟩ := selftest_shows s failed
    exact ⟨_, (exec_selftestNow ht).trans (if_pos hr), hfail, hcycles⟩
  case cycled =>
    intro s failed hr he
    obtain ⟨hfail, -, -, hpassed, -⟩ := selftest_shows s failed
    exact ⟨_, if_pos ⟨hr, he⟩, hfail, hpassed⟩
  case notClaimed => exact fun s ht h => capoClaim_refused ht h
  case fenced =>
    intro s ht hr hm hi
    obtain ⟨t, hx, -, -, -, -, hfence, htake⟩ := capoClaim_claims ht hr hm hi
    exact ⟨t, hx, hfence, htake.trans (by simp [State.claimFenced])⟩
  case claimingReleased => exact fun s ht hr => capoRelease_claiming ht hr
  case noRelease =>
    exact fun s ht h2 h3 => ⟨_, (exec_capoRelease ht).trans ((if_neg h3).trans (if_neg h2)), capoIgnored_shows s 2⟩
  case notReleasing =>
    intro s h
    refine ⟨_, if_neg ?_, rfl⟩
    rintro ⟨h4, hw⟩
    rcases h with h | h
    · exact h h4
    · simp [hw] at h
  case noFault => exact fun s ht hl => ⟨_, (exec_capoClearFault ht).trans (if_pos (by simp [hl])), capoIgnored_shows s 3⟩
  case notForced => exact fun s iface ht h => forceClaim_refused ht h
  case badToken => exact fun s iface ht hr hi hm he hk => forceClaim_badToken ht hr hi hm he hk
  case noTest => exact fun s failed ht hr => ⟨_, (exec_selftestNow ht).trans (if_neg hr), capoIgnored_shows s 5⟩
  case critical =>
    intro s failed ht hr hf
    have hc : s.selftestCritical (failed % 64) = true := by
      rw [selftestCritical_eq]
      exact decide_eq_true (.inl (by omega))
    obtain ⟨-, -, hcrit, -, hidle⟩ := selftest_shows s failed
    exact ⟨_, (exec_selftestNow ht).trans (if_pos hr), hcrit.trans hc, hidle.trans (if_pos hc)⟩
  case mild =>
    intro s failed ht hr hf
    have hc : s.selftestCritical (failed % 64) = false := by
      rw [selftestCritical_eq]
      exact decide_eq_false (by omega)
    obtain ⟨-, -, hcrit, -, hidle⟩ := selftest_shows s failed
    exact ⟨_, (exec_selftestNow ht).trans (if_pos hr), hcrit.trans hc, hidle.trans (if_neg (by simp [hc]))⟩
  case noCycle =>
    intro s failed h
    exact ⟨_, if_neg (by rcases h with h | h <;> simp [h]), rfl⟩
  case cycleCounted =>
    intro s failed hr he
    obtain ⟨-, hcycles, hcrit, -, -⟩ := selftest_shows s failed
    exact ⟨_, if_pos ⟨hr, he⟩, hcycles, hcrit.trans (selftestCritical_eq s failed)⟩

end Sys2Proof.Machine

/-!
The pair's health words, mirror, roles and takeover (O50).
-/
namespace Sys2Proof.Machine

/-! ### Health words (R316, R317) -/

section
variable {s : State} {h : Health}

theorem exec_healthWordSend : exec .healthWordSend s = if (s.paired && !s.islandOff) = true then .next s.sendHealth else .next s := rfl

/-- A health word taken from the partner. -/
def State.healthTaken (s : State) (h : Health) : State :=
  ({ s with capo := { s.capo with partner := some h, partnerAt := s.now } } : State).setFld Fld.PARTNER_HEALTH (ofBytes (healthBytes h))

theorem exec_healthWordReceive (hp : s.paired = true) (hi : s.islandOff = false) : exec (.healthWordReceive h) s =
    if h.role = 2 then
      if (s.healthTaken h).role = 3 then
        .next ((((s.healthTaken h).emit .dualActive [h.epoch]).beginRelease 0).sendHealth)
      else if (s.healthTaken h).role = 1 ∧ (s.healthTaken h).seen = 3 then .next (s.healthTaken h).lineFault
      else if (s.healthTaken h).role = 1 then .next ((s.healthTaken h).followActive h)
      else .next (s.healthTaken h)
    else if (s.healthTaken h).role = 3 ∧ h.role = 1 then .next ((s.healthTaken h).meetStandby h)
    else .next (s.healthTaken h) := if_neg (by simp [hp, hi])

theorem kept_healthTaken (s : State) (h : Health) : Kept [Fld.PARTNER_HEALTH] s (s.healthTaken h) := Kept.setFld rfl (Kept.regs rfl Kept.refl)

theorem healthTaken_role (s : State) (h : Health) : (s.healthTaken h).role = s.role := (kept_healthTaken s h).fld _ (by decide)

theorem healthTaken_seen (s : State) (h : Health) : (s.healthTaken h).seen = s.seen := (kept_healthTaken s h).fld _ (by decide)

theorem healthWordReceive_dual (hp : s.paired = true) (hi : s.islandOff = false) (h3 : s.role = 3) (h2 : h.role = 2) :
    Does (.healthWordReceive h) s fun t => t.capo.partner = some h ∧ t.capo.partnerAt = s.now ∧ t.role = 4 ∧
      t.bit Fld.CAPO_STATUS.GATE_OPEN = false := by
  have hx := (exec_healthWordReceive hp hi).trans ((if_pos h2).trans (if_pos ((healthTaken_role s h).trans h3)))
  obtain ⟨hrole, hgate, hcapo⟩ := beginRelease_shows ((s.healthTaken h).emit .dualActive [h.epoch]) 0
  have hpart : (((s.healthTaken h).emit .dualActive [h.epoch]).beginRelease 0).capo.partner = some h := (congrArg Capo.partner hcapo :)
  have hat : (((s.healthTaken h).emit .dualActive [h.epoch]).beginRelease 0).capo.partnerAt = s.now := (congrArg Capo.partnerAt hcapo :)
  generalize ((s.healthTaken h).emit .dualActive [h.epoch]).beginRelease 0 = u at hx hrole hgate hpart hat
  exact ⟨_, hx, hpart, hat, hrole, hgate⟩

theorem healthWordReceive_faults (hp : s.paired = true) (hi : s.islandOff = false) (h1 : s.role = 1) (h3 : s.seen = 3) (h2 : h.role = 2) :
    Does (.healthWordReceive h) s fun t => t.capo.partner = some h ∧ t.capo.partnerAt = s.now ∧ t.role = 5 ∧
      t.bit Fld.CAPO_STATUS.LINE_FAULT = true := by
  have hr := (healthTaken_role s h).trans h1
  have hx := (exec_healthWordReceive hp hi).trans ((if_pos h2).trans ((if_neg (by omega)).trans
    (if_pos ⟨hr, (healthTaken_seen s h).trans h3⟩)))
  obtain ⟨hl, hrole, hcapo, -, -⟩ := lineFault_shows (s.healthTaken h)
  exact ⟨_, hx, (congrArg Capo.partner hcapo :), (congrArg Capo.partnerAt hcapo :), hrole, hl⟩

theorem followActive_shows (s : State) (h : Health) :
    (s.followActive h).bit Fld.PAIR_STATUS.STATE_COMPLETE = decide (h.flags % 2 = 1) ∧
    (s.followActive h).bit Fld.PAIR_STATUS.MIRROR_ON = decide (h.flags % 2 = 1) ∧
    (s.followActive h).fld Fld.PAIR_EPOCH = if h.flags % 2 = 1 then h.epoch % 2 ^ Fld.PAIR_EPOCH.width else s.fld Fld.PAIR_EPOCH := by
  by_cases hf : h.flags % 2 = 1
  · have hx : s.followActive h = ((s.setBit Fld.PAIR_STATUS.MIRROR_ON (decide (h.flags % 2 = 1))).setBit Fld.PAIR_STATUS.STATE_COMPLETE
        (decide (h.flags % 2 = 1))).setFld Fld.PAIR_EPOCH h.epoch := if_pos (decide_eq_true hf)
    rw [hx, if_pos hf]
    exact ⟨(State.bit_setFld_ne _ _ _ _ (by decide)).trans (State.bit_setBit_same _ _ _ rfl),
      (State.bit_setFld_ne _ _ _ _ (by decide)).trans ((State.bit_setBit_ne _ _ _ _ (by decide)).trans (State.bit_setBit_same _ _ _ rfl)),
      State.fld_setFld_same ..⟩
  · have hx : s.followActive h = (s.setBit Fld.PAIR_STATUS.MIRROR_ON (decide (h.flags % 2 = 1))).setBit Fld.PAIR_STATUS.STATE_COMPLETE
        (decide (h.flags % 2 = 1)) := if_neg (by simp [hf])
    rw [hx, if_neg hf]
    exact ⟨State.bit_setBit_same _ _ _ rfl, (State.bit_setBit_ne _ _ _ _ (by decide)).trans (State.bit_setBit_same _ _ _ rfl),
      (State.fld_setBit_ne _ _ _ _ (by decide)).trans (State.fld_setBit_ne _ _ _ _ (by decide))⟩

theorem healthWordReceive_follows (hp : s.paired = true) (hi : s.islandOff = false) (h1 : s.role = 1) (h3 : s.seen ≠ 3) (h2 : h.role = 2) :
    Does (.healthWordReceive h) s fun t => t.capo.partner = some h ∧ t.role = 1 ∧
      t.bit Fld.PAIR_STATUS.STATE_COMPLETE = decide (h.flags % 2 = 1) ∧ t.bit Fld.PAIR_STATUS.MIRROR_ON = decide (h.flags % 2 = 1) ∧
      t.fld Fld.PAIR_EPOCH = if h.flags % 2 = 1 then h.epoch % 2 ^ Fld.PAIR_EPOCH.width else s.fld Fld.PAIR_EPOCH := by
  have hr := (healthTaken_role s h).trans h1
  have hseen : ¬ ((s.healthTaken h).role = 1 ∧ (s.healthTaken h).seen = 3) := by
    rw [healthTaken_seen]
    exact fun hc => h3 hc.2
  have hx := (exec_healthWordReceive hp hi).trans ((if_pos h2).trans ((if_neg (by omega)).trans ((if_neg hseen).trans (if_pos hr))))
  obtain ⟨hcomplete, hmirror, hepoch⟩ := followActive_shows (s.healthTaken h) h
  have hk := kept_State_followActive (s.healthTaken h) h
  rw [(kept_healthTaken s h).fld Fld.PAIR_EPOCH (by decide)] at hepoch
  exact ⟨_, hx, congrArg Capo.partner (only_State_followActive _ h .capo rfl), (hk.fld _ (by decide)).trans hr, hcomplete, hmirror, hepoch⟩

/-- The limit's computation leaves the partner's limit. -/
theorem recomputeLimit_partnerLimit (s : State) : s.recomputeLimit.wc.partnerLimit = s.wc.partnerLimit := by
  unfold State.recomputeLimit
  extract_lets a b c
  obtain ⟨x, hx⟩ := noteLimit_wc (c.setBit Fld.WC_STATUS.AREA_READY c.areaReady.isSome).noteThrough
  rw [hx, only_State_noteThrough _ .wc rfl]
  rfl

/-- The partner's limit heard and the own limit computed again. -/
def State.limitHeard (s : State) (h : Health) : State := ({ s with wc := { s.wc with partnerLimit := some h.limitMib } } : State).recomputeLimit

theorem meetStandby_eq (s : State) (h : Health) : s.meetStandby h =
    if (!(s.limitHeard h).mirrored && (s.limitHeard h).bit Fld.PAIR_STATUS.PARTNER_MATCH) = true then
      (s.limitHeard h).setBit Fld.PAIR_STATUS.SYNCING true
    else s.limitHeard h := rfl

theorem limitHeard_partnerLimit (s : State) (h : Health) : (s.limitHeard h).wc.partnerLimit = some h.limitMib := recomputeLimit_partnerLimit _

theorem limitHeard_sameFlds (s : State) (h : Health) :
    SameFlds [Fld.WC_STATUS.MIRROR_ON, Fld.PAIR_STATUS.PARTNER_MATCH, Fld.PAIR_STATUS.SYNCING] s (s.limitHeard h) :=
  (sameFlds_of_regs (a := s) (t := { s with wc := { s.wc with partnerLimit := some h.limitMib } }) rfl).trans
    ((kept_State_recomputeLimit _).sameFlds (by decide))

/-- The start of a sync where the mirror is off and the partner matches. -/
def State.syncStarted (s : State) : State :=
  if (!s.mirrored && s.bit Fld.PAIR_STATUS.PARTNER_MATCH) = true then s.setBit Fld.PAIR_STATUS.SYNCING true else s

theorem syncStarted_shows (s : State) : s.syncStarted.wc = s.wc ∧ s.syncStarted.bit Fld.PAIR_STATUS.SYNCING =
    ((!s.bit Fld.WC_STATUS.MIRROR_ON && s.bit Fld.PAIR_STATUS.PARTNER_MATCH) || s.bit Fld.PAIR_STATUS.SYNCING) := by
  unfold State.syncStarted State.mirrored
  split
  next hm => exact ⟨rfl, (State.bit_setBit_same _ _ _ rfl).trans (by rw [hm, Bool.true_or])⟩
  next hm => exact ⟨rfl, by rw [Bool.eq_false_of_not_eq_true hm, Bool.false_or]⟩

theorem meetStandby_shows (s : State) (h : Health) : (s.meetStandby h).wc.partnerLimit = some h.limitMib ∧
    (s.meetStandby h).bit Fld.PAIR_STATUS.SYNCING =
      ((!s.bit Fld.WC_STATUS.MIRROR_ON && s.bit Fld.PAIR_STATUS.PARTNER_MATCH) || s.bit Fld.PAIR_STATUS.SYNCING) := by
  have hx : s.meetStandby h = (s.limitHeard h).syncStarted := meetStandby_eq s h
  have hk := limitHeard_sameFlds s h
  obtain ⟨hwc, hsync⟩ := syncStarted_shows (s.limitHeard h)
  rw [hk.bit (f := Fld.WC_STATUS.MIRROR_ON) (by simp), hk.bit (f := Fld.PAIR_STATUS.PARTNER_MATCH) (by simp),
    hk.bit (f := Fld.PAIR_STATUS.SYNCING) (by simp)] at hsync
  rw [hx]
  exact ⟨(congrArg Wc.partnerLimit hwc).trans (limitHeard_partnerLimit s h), hsync⟩

theorem healthWordReceive_meets (hp : s.paired = true) (hi : s.islandOff = false) (h3 : s.role = 3) (h1 : h.role = 1) :
    Does (.healthWordReceive h) s fun t => t.capo.partner = some h ∧ t.wc.partnerLimit = some h.limitMib ∧ t.role = 3 ∧
      t.bit Fld.PAIR_STATUS.SYNCING =
        ((!s.bit Fld.WC_STATUS.MIRROR_ON && s.bit Fld.PAIR_STATUS.PARTNER_MATCH) || s.bit Fld.PAIR_STATUS.SYNCING) := by
  have hr := (healthTaken_role s h).trans h3
  have hx := (exec_healthWordReceive hp hi).trans ((if_neg (by omega)).trans (if_pos ⟨hr, h1⟩))
  obtain ⟨hlim, hsync⟩ := meetStandby_shows (s.healthTaken h) h
  have hk := kept_healthTaken s h
  rw [hk.bit Fld.WC_STATUS.MIRROR_ON (by decide), hk.bit Fld.PAIR_STATUS.PARTNER_MATCH (by decide),
    hk.bit Fld.PAIR_STATUS.SYNCING (by decide)] at hsync
  exact ⟨_, hx, congrArg Capo.partner (only_State_meetStandby _ h .capo rfl), hlim,
    ((kept_State_meetStandby (s.healthTaken h) h).fld _ (by decide)).trans hr, hsync⟩

theorem healthWordReceive_notes (hp : s.paired = true) (hi : s.islandOff = false) (h2 : h.role = 2 → s.role ≠ 1 ∧ s.role ≠ 3)
    (h1 : h.role = 1 → s.role ≠ 3) : exec (.healthWordReceive h) s = .next (s.healthTaken h) := by
  have hx := exec_healthWordReceive (h := h) hp hi
  rw [healthTaken_role] at hx
  by_cases hr : h.role = 2
  · obtain ⟨h1', h3'⟩ := h2 hr
    exact hx.trans ((if_pos hr).trans ((if_neg h3').trans ((if_neg fun hc => h1' hc.1).trans (if_neg h1'))))
  · exact hx.trans ((if_neg hr).trans (if_neg fun hc => h1 hc.2 hc.1))

end

/-! ### The mirror's items (R168, R318, R319) -/

section
variable {s : State}

/-- A standby that has heard a mirrored item. -/
def State.itemHeard (s : State) : State := ({ s with capo := { s.capo with mirrorAt := s.now } } : State).retireWaiting

theorem exec_mirrorItemReceive {item : MirrorItem} (h : s.role = 1) : exec (.mirrorItemReceive item) s = .next (s.itemHeard.mirrorIn item) := if_pos h

theorem itemHeard_only (s : State) : Only [.regs, .vault, .capo] s s.itemHeard := by
  have hcapo : Only [.regs, .vault, .capo] s { s with capo := { s.capo with mirrorAt := s.now } } := fun p hp => by
    cases p <;> first | rfl | cases hp
  exact Only.step (only_State_retireWaiting _) rfl hcapo

theorem itemHeard_capo (s : State) : s.itemHeard.capo.mirrorAt = s.now ∧ s.itemHeard.capo.mirrorCtx = s.capo.mirrorCtx := by
  unfold State.itemHeard State.retireWaiting
  split
  · rw [only_State_retireOwn _ .capo rfl]
    exact ⟨rfl, rfl⟩
  · exact ⟨rfl, rfl⟩

theorem kept_itemHeard (s : State) : Kept [Fld.HFE_STATUS.REPLAY_PENDING, Fld.VLT_AREA.STATE] s s.itemHeard :=
  Kept.step (kept_State_retireWaiting _) rfl (Kept.regs rfl Kept.refl)

theorem itemHeard_pitch (s : State) : s.itemHeard.pitch = s.pitch := by
  simp only [State.pitch, (kept_itemHeard s).bit Fld.PIT_STATUS.VALID (by decide), (kept_itemHeard s).fld Fld.PIT_NOW (by decide)]

theorem itemHeard_arr (s : State) (a : ArrayId) : s.itemHeard.arr a = s.arr a := by
  exact (congrArg (fun r : Rbe => tget r.arrays a.val) (itemHeard_only s .rbe rfl) :)

theorem placedLine_holds (old : Option WcLine) (sec : CSec) (cls seq now : Nat) (through : Bool) (owner : Option Nat) :
    (placedLine old sec cls seq now through owner).sec = sec ∨ (placedLine old sec cls seq now through owner).newer = some sec := by
  unfold placedLine
  split
  · exact .inl rfl
  · dsimp only
    split
    · exact .inl rfl
    · exact .inl rfl
    · exact .inr rfl
    · exact .inr rfl

theorem mirrorSector_holds (s : State) (nsid lba : Nat) (sec : CSec) (cls seq : Nat) :
    ∃ l, tget (s.mirrorSector nsid lba sec cls seq).wc.lines (nsKey nsid lba) = some l ∧ (l.sec = sec ∨ l.newer = some sec) :=
  ⟨_, tget_tput_same .., placedLine_holds ..⟩

theorem capo_foldl {α : Type} {f : State → α → State} (hf : ∀ t x, (f t x).capo = t.capo) (s : State) (l : List α) :
    (l.foldl f s).capo = s.capo :=
  List.foldlRecOn (motive := fun t : State => t.capo = s.capo) _ _ rfl fun t ht x _ => (hf t x).trans ht

theorem mirrorContext_ctx (s : State) (u : Update) :
    (s.mirrorContext u).capo.mirrorCtx = s.capo.mirrorCtx.filter (fun v => v.id ≠ u.id) ++ [u] := by
  unfold State.mirrorContext
  refine congrArg Capo.mirrorCtx (capo_foldl (fun t x => ?_) _ _)
  rfl

theorem mirrorDone_ctx (s : State) (id : Nat) : (s.mirrorDone id).capo.mirrorCtx = s.capo.mirrorCtx.filter (fun v => v.id ≠ id) := by
  unfold State.mirrorDone
  dsimp only
  refine congrArg Capo.mirrorCtx (capo_foldl (fun t x => ?_) _ _)
  split
  · split <;> rfl
  · rfl

theorem mirrorArr_arr {a : ArrayId} {r : Arr} (h : s.arr a = some r) (f : Arr → Arr) : (s.mirrorArr a f).arr a = some (f r) := by
  simp only [State.mirrorArr, h]
  exact arr_putArr_same ..

theorem adminDone_dwe (s : State) (f : FnIdx) (cid : Nat) (st : Status) (dw0 : Nat) (data : List Nat) :
    (s.adminDone f cid st dw0 data).hfe.dwe = s.hfe.dwe := by
  obtain ⟨_, _, _, _, _, h, -⟩ := adminDone_hfe s f cid st dw0 data
  rw [h]

theorem flagNs_dwe (s : State) (nsid : Nat) : (s.flagNs nsid).hfe.dwe = s.hfe.dwe := by
  unfold State.flagNs
  split
  · rfl
  · refine List.foldlRecOn (motive := fun t : State => t.hfe.dwe = s.hfe.dwe) _ _ rfl fun t ht f _ => ?_
    split
    · dsimp only
      split
      · exact ht
      · exact (adminDone_dwe ..).trans ht
    · exact ht

/-- The first deferred error is listed with the pitch time. -/
theorem deferError_first {s : State} (h : s.hfe.dwe = []) (nsid cause slba nlb : Nat) :
    (s.deferError nsid cause slba nlb).hfe.dwe = [⟨nsid, cause, slba, nlb, s.pitch⟩] := by
  unfold State.deferError
  extract_lets e l m₀ h₀ u same size m₁ h₁ v
  have hl : l = [] := h
  have hv : v.hfe.dwe = [e] := by
    unfold v
    rw [hl]
    rfl
  clear_value v
  rw [only_State_mirror _ _ .hfe rfl, flagNs_dwe]
  exact hv

/-- The first lost row is listed. -/
theorem listLost_first {s : State} (h : s.rbe.lost = []) (f : LostEntry) : (s.listLost f).rbe.lost = [f] := by
  simp only [State.listLost, h, lostAdd, List.any_nil, Bool.false_eq_true, if_false, List.findIdx?_nil, List.length_nil, Nat.ofNat_pos, if_true,
    List.nil_append]
  rfl

theorem dirtyNs_listed (s : State) (n : Nat) : n ∈ (s.mirrorIn (.dirtyNs n)).wc.dirtyNs := by
  show n ∈ if s.wc.dirtyNs.contains n then s.wc.dirtyNs else insertOn (fun x => x) n s.wc.dirtyNs
  split
  next hc => simpa using hc
  next => exact (mem_insertOn ..).mpr (.inl rfl)

theorem fretSet_listed (s : State) (b : Nat) : b ∈ (s.mirrorIn (.fretSet b)).wc.fret := by
  show b ∈ if s.wc.fret.contains b then s.wc.fret else insertOn (fun x => x) b s.wc.fret
  split
  next hc => simpa using hc
  next => exact (mem_insertOn ..).mpr (.inl rfl)

/-! ### Digests and the sync (R319, R320) -/

/-- A differing entry of a digest counted. -/
def State.mismatched (s : State) : State := (s.incFld Fld.MIRROR_MISMATCH 1).emit .mirrorMismatch []

/-- A differing entry of a digest acted on. -/
def State.digestStep (s : State) (i : MirrorItem) : State := (if s.role = 1 then s.mirrorIn i else s).mismatched

theorem exec_mirrorDigestCheck {differ : List MirrorItem} : exec (.mirrorDigestCheck differ) s =
    if s.role = 1 ∨ (s.role = 3 ∧ s.mirrored = true) then .next (differ.foldl State.digestStep s) else .next s := rfl

theorem mismatched_count (s : State) : s.mismatched.fld Fld.MIRROR_MISMATCH = (s.fld Fld.MIRROR_MISMATCH + 1) % 2 ^ Fld.MIRROR_MISMATCH.width :=
  fld_incFld_same ..

theorem digestStep_active {s : State} (h : s.role = 3) (i : MirrorItem) : s.digestStep i = s.mismatched := by
  rw [State.digestStep, if_neg (by omega)]

theorem digestSteps_active (l : List MirrorItem) : ∀ s : State, s.role = 3 → (l.foldl State.digestStep s).wc = s.wc ∧
    (l.foldl State.digestStep s).fld Fld.MIRROR_MISMATCH % 2 ^ Fld.MIRROR_MISMATCH.width =
      (s.fld Fld.MIRROR_MISMATCH + l.length) % 2 ^ Fld.MIRROR_MISMATCH.width := by
  induction l with
  | nil => exact fun s _ => ⟨rfl, rfl⟩
  | cons i l ih =>
    intro s h
    have hrole : s.mismatched.role = 3 := (State.fld_setFld_ne _ _ _ _ (by decide)).trans h
    obtain ⟨hwc, hcount⟩ := ih s.mismatched hrole
    rw [List.foldl_cons, digestStep_active h]
    refine ⟨hwc, hcount.trans ?_⟩
    rw [mismatched_count, List.length_cons, Nat.mod_add_mod]
    congr 1
    omega

theorem digestStep_standby {s : State} (h : s.role = 1) (i : MirrorItem) : s.digestStep i = (s.mirrorIn i).mismatched := by
  rw [State.digestStep, if_pos h]

/-- The mirror shown as complete. -/
def State.mirrorComplete (s : State) : State :=
  let s := (s.setBit Fld.PAIR_STATUS.SYNCING false).setBit Fld.PAIR_STATUS.MIRROR_ON true
  let s := (s.setBit Fld.WC_STATUS.MIRROR_ON true).setBit Fld.WC_STATUS.MIRROR_LOST false
  let s := (s.incFld Fld.MIRROR_BYTES s.vaulted).nextEpoch 1
  { s with wc := { s.wc with partnerLimit := s.capo.partner.map (·.limitMib) } }

theorem exec_mirrorSyncComplete (h3 : s.role = 3) (hs : s.bit Fld.PAIR_STATUS.SYNCING = true) :
    exec .mirrorSyncComplete s = .next s.mirrorComplete.recomputeLimit := if_pos ⟨h3, hs⟩

theorem mirrorComplete_shows (s : State) : s.mirrorComplete.bit Fld.PAIR_STATUS.SYNCING = false ∧
    s.mirrorComplete.bit Fld.PAIR_STATUS.MIRROR_ON = true ∧ s.mirrorComplete.bit Fld.WC_STATUS.MIRROR_ON = true := by
  have hk (u : State) (n : Nat) : Kept [Fld.WC_STATUS.MIRROR_LOST, Fld.MIRROR_BYTES, Fld.PAIR_EPOCH] u
      (((u.setBit Fld.WC_STATUS.MIRROR_LOST false).incFld Fld.MIRROR_BYTES n).nextEpoch 1) :=
    Kept.step (kept_State_nextEpoch _ 1) rfl (Kept.setFld rfl (Kept.setBit rfl Kept.refl))
  refine ⟨((hk _ _).bit _ (by decide)).trans ?_, ((hk _ _).bit _ (by decide)).trans ?_, ((hk _ _).bit _ (by decide)).trans ?_⟩
  · exact (State.bit_setBit_ne _ _ _ _ (by decide)).trans ((State.bit_setBit_ne _ _ _ _ (by decide)).trans (State.bit_setBit_same _ _ _ rfl))
  · exact (State.bit_setBit_ne _ _ _ _ (by decide)).trans (State.bit_setBit_same _ _ _ rfl)
  · exact State.bit_setBit_same _ _ _ rfl

theorem exec_standbyMirrorSilence : exec .standbyMirrorSilence s = if s.role = 1 ∧ s.seen = 1 then
    .next ((s.setBit Fld.PAIR_STATUS.STATE_COMPLETE false).setBit Fld.PAIR_STATUS.MIRROR_ON false) else .next s := rfl

/-! ### Roles (R323) -/

theorem standBy_shows (s : State) : s.standBy.role = 1 ∧ s.standBy.capo = { s.capo with chosen := true } :=
  ⟨(driveCapo_role _).trans ((State.fld_setFld_ne _ _ _ _ (by decide)).trans (setRole_role _ (by decide))), rfl⟩

theorem becomeStandby_shows (s : State) : s.becomeStandby.role = 1 ∧ s.becomeStandby.capo.chosen = true := by
  obtain ⟨hrole, hcapo⟩ := standBy_shows s
  refine ⟨((kept_State_retireOwn s.standBy).fld _ (by decide)).trans hrole, ?_⟩
  rw [State.becomeStandby, only_State_retireOwn _ .capo rfl, hcapo]

theorem standbyOfClaimer_shows (s : State) : s.standbyOfClaimer.role = 1 ∧ s.standbyOfClaimer.capo.chosen = true := by
  obtain ⟨hrole, hcapo⟩ := standBy_shows
    ({ s with capo := { s.capo with retireDue := s.vault.dumps.any (fun d => !d.2.retired) } } : State)
  exact ⟨hrole, (congrArg Capo.chosen hcapo :)⟩

/-- The partner's part of the pair's state shown. -/
def State.partnerShown (s : State) (p : Partner) : State :=
  if s.paired && !s.islandOff then
    (s.setFld Fld.PAIR_STATUS.LINK_UP s.thresholds.pairLinkPorts).setBit Fld.PAIR_STATUS.PARTNER_MATCH (s.matchPartner p)
  else s

theorem partnerShown_standing (s : State) (p : Partner) : SameStanding s (s.partnerShown p) := by
  unfold State.partnerShown
  split
  · have hk : Kept [Fld.PAIR_STATUS.LINK_UP, Fld.PAIR_STATUS.PARTNER_MATCH] s
        ((s.setFld Fld.PAIR_STATUS.LINK_UP s.thresholds.pairLinkPorts).setBit Fld.PAIR_STATUS.PARTNER_MATCH (s.matchPartner p)) :=
      Kept.setBit rfl (Kept.setFld rfl Kept.refl)
    exact ⟨rfl, rfl, rfl, rfl, hk.sameFlds (by decide)⟩
  · exact .refl

section
variable {t : State} (h : SameStanding s t)
include h

theorem SameStanding.choosing : t.choosing = s.choosing := by
  simp only [State.choosing, h.paired, h.islandOff, h.capo, h.role]

theorem SameStanding.matchPartner (p : Partner) : t.matchPartner p = s.matchPartner p := by
  simp only [State.matchPartner, State.identity, h.img]

theorem SameStanding.outranks (p : Partner) : t.outranks p = s.outranks p := by
  simp only [State.outranks, h.rank, h.flds Fld.PAIR_EPOCH (by decide), h.flds Fld.PAIR_STATUS.STATE_COMPLETE (by decide)]

theorem SameStanding.mayClaim : t.mayClaim = s.mayClaim :=
  mayClaim_of h.img h.pwr (congrArg Capo.expired h.capo) (h.flds.mono (by decide))

end

theorem exec_pairRoleChoice_some {p : Partner} : exec (.pairRoleChoice (some p)) s =
    if (!(s.partnerShown p).choosing) = true then .next (s.partnerShown p)
    else if (!(s.partnerShown p).matchPartner p) = true then
      .next ((((s.partnerShown p).setRole 1).setFld Fld.CAPO_STATUS.IDLE_REASON 5).driveCapo.emit .partnerMismatch [p.device])
    else if (s.partnerShown p).seen = 1 then .next (s.partnerShown p).becomeStandby
    else if (s.partnerShown p).outranks p = true then
      .next ({ s.partnerShown p with capo := { (s.partnerShown p).capo with chosen := true } } : State).beginClaim
    else .next (s.partnerShown p).standbyOfClaimer := rfl

theorem exec_pairRoleChoice_none : exec (.pairRoleChoice none) s =
    if (!s.choosing) = true then .next s else if s.seen = 1 then .next s.becomeStandby else .next s := rfl

/-- A role chosen for the claim. -/
def State.claimChosen (s : State) : State := { s with capo := { s.capo with chosen := true } }

theorem claimChosen_mayClaim (s : State) : s.claimChosen.mayClaim = s.mayClaim := mayClaim_of rfl rfl rfl (sameFlds_of_regs rfl)

theorem claimChosen_claims (h : s.mayClaim = true) : s.claimChosen.beginClaim.role = 2 ∧ s.claimChosen.beginClaim.capo.chosen = true := by
  obtain ⟨hrole, -, hcapo⟩ := beginClaim_claims ((claimChosen_mayClaim s).trans h)
  exact ⟨hrole, (congrArg Capo.chosen hcapo :)⟩

theorem pairRoleChoice_outranks {p : Partner} (hc : s.choosing = true) (hm : s.matchPartner p = true) (h1 : s.seen ≠ 1)
    (ho : s.outranks p = true) : exec (.pairRoleChoice (some p)) s = .next (s.partnerShown p).claimChosen.beginClaim := by
  have hs := partnerShown_standing s p
  refine exec_pairRoleChoice_some.trans ((if_neg (by simp [hs.choosing, hc])).trans ((if_neg (by simp [hs.matchPartner, hm])).trans ?_))
  exact (if_neg (by rw [hs.seen]; exact h1)).trans (if_pos ((hs.outranks p).trans ho))

theorem pairRoleChoice_standsBy {p : Partner} (hc : s.choosing = true) (hm : s.matchPartner p = true) (h : s.seen = 1 ∨ s.outranks p = false) :
    Does (.pairRoleChoice (some p)) s fun t => t.role = 1 ∧ t.capo.chosen = true := by
  have hs := partnerShown_standing s p
  have hx := (exec_pairRoleChoice_some (s := s) (p := p)).trans ((if_neg (by simp [hs.choosing, hc])).trans
    (if_neg (by simp [hs.matchPartner, hm])))
  rw [hs.seen, hs.outranks] at hx
  by_cases h1 : s.seen = 1
  · exact ⟨_, hx.trans (if_pos h1), becomeStandby_shows _⟩
  · exact ⟨_, hx.trans ((if_neg h1).trans (if_neg (by simp [h.resolve_left h1]))), standbyOfClaimer_shows _⟩

theorem pairRoleChoice_mismatches {p : Partner} (hc : s.choosing = true) (hm : s.matchPartner p = false) :
    Does (.pairRoleChoice (some p)) s fun t => t.role = 1 ∧ t.fld Fld.CAPO_STATUS.IDLE_REASON = 5 := by
  have hs := partnerShown_standing s p
  refine ⟨_, exec_pairRoleChoice_some.trans ((if_neg (by simp [hs.choosing, hc])).trans (if_pos (by simp [hs.matchPartner, hm]))), ?_, ?_⟩
  · exact (driveCapo_role _).trans ((State.fld_setFld_ne _ _ _ _ (by decide)).trans (setRole_role _ (by decide)))
  · exact ((kept_State_driveCapo _).fld Fld.CAPO_STATUS.IDLE_REASON (by decide)).trans (State.fld_setFld_same ..)

/-! ### The start-up wait (R323 rule 3) -/

/-- A device that stays standby for a reason. -/
def State.idleStandby (s : State) (reason : Nat) : State := ((s.setRole 1).setFld Fld.CAPO_STATUS.IDLE_REASON reason).driveCapo

theorem idleStandby_shows (s : State) {n : Nat} (h : n < 16) : (s.idleStandby n).role = 1 ∧ (s.idleStandby n).fld Fld.CAPO_STATUS.IDLE_REASON = n :=
  ⟨(driveCapo_role _).trans ((State.fld_setFld_ne _ _ _ _ (by decide)).trans (setRole_role _ (by decide))),
   ((kept_State_driveCapo _).fld _ (by decide)).trans ((State.fld_setFld_same ..).trans (Nat.mod_eq_of_lt h))⟩

theorem exec_startupWaitExpiry (hc : s.choosing = true) (h0 : s.role = 0) : exec .startupWaitExpiry s =
    if s.seen = 1 then .next s.becomeStandby
    else if (s.bit Fld.PAIR_STATUS.STATE_COMPLETE && (s.seen == 2 || s.seen == 3)) = true then .next s.claimChosen.beginClaim
    else .next (s.idleStandby (if s.bit Fld.PAIR_STATUS.STATE_COMPLETE = true then 2 else 3)) := if_neg (by simp [hc, h0])

theorem startupWaitExpiry_claims (hc : s.choosing = true) (h0 : s.role = 0) (hs : s.seen = 2 ∨ s.seen = 3)
    (hk : s.bit Fld.PAIR_STATUS.STATE_COMPLETE = true) (hm : s.mayClaim = true) : Does .startupWaitExpiry s fun t => t.role = 2 :=
  ⟨_, (exec_startupWaitExpiry hc h0).trans ((if_neg (by omega)).trans (if_pos (by rcases hs with hs | hs <;> simp [hk, hs]))),
    (claimChosen_claims hm).1⟩

/-! ### Takeover (R325) -/

/-- Whether the active device is lost to the standby: silent, releasing, or out of reach. -/
def State.activeLost (s : State) : Prop :=
  (match s.capo.partner with
    | none => true
    | some h => decide (s.capo.partnerAt + 30 * ms < s.now) || decide (h.role = 3)) = true ∨ decide (s.fld Fld.PAIR_STATUS.LINK_UP = 0) = true

/-- What a takeover needs beside the loss of the active device. -/
def State.takeoverReady (s : State) : Prop :=
  s.role = 1 ∧ s.capo.chosen = true ∧ s.thresholds.flags % 2 = 1 ∧ s.bit Fld.PAIR_STATUS.STATE_COMPLETE = true ∧ s.seen = 3

/-- A claim behind the write fence. -/
def State.claimBehindFence (s : State) : State := { s with capo := { s.capo with takeoverAt := some s.capo.seenAt, fence := true } }

theorem exec_takeover_claims (hr : s.takeoverReady) (hl : s.activeLost) (hm : s.mayClaim = true) :
    exec .takeover s = .next s.claimBehindFence.beginClaim := by
  obtain ⟨h1, hc, hf, hk, h3⟩ := hr
  exact if_pos ⟨h1, hc, hf, hk, h3, hl, hm⟩

theorem exec_takeover_stays (h : ¬ (s.takeoverReady ∧ s.activeLost ∧ s.mayClaim = true)) : exec .takeover s = .next s := by
  refine if_neg ?_
  rintro ⟨h1, hc, hf, hk, h3, hl, hm⟩
  exact h ⟨⟨h1, hc, hf, hk, h3⟩, hl, hm⟩

theorem takeover_claims (hr : s.takeoverReady) (hl : s.activeLost) (hm : s.mayClaim = true) : Does .takeover s fun t =>
    t.role = 2 ∧ t.capo.fence = true ∧ t.capo.takeoverAt = some s.capo.seenAt := by
  have hmay : s.claimBehindFence.mayClaim = true := (mayClaim_of (t := s.claimBehindFence) rfl rfl rfl (sameFlds_of_regs rfl)).trans hm
  obtain ⟨hrole, -, hcapo⟩ := beginClaim_claims hmay
  exact ⟨_, exec_takeover_claims hr hl hm, hrole, (congrArg Capo.fence hcapo :), (congrArg Capo.takeoverAt hcapo :)⟩

theorem activeLost_silent (h : s.capo.partner = none) : s.activeLost := .inl (by rw [h])

theorem activeLost_heard {h : Health} (hp : s.capo.partner = some h) : s.activeLost ↔
    s.capo.partnerAt + 30 * ms < s.now ∨ h.role = 3 ∨ s.fld Fld.PAIR_STATUS.LINK_UP = 0 := by
  unfold State.activeLost
  rw [hp]
  simp only [Bool.or_eq_true, decide_eq_true_eq, or_assoc]

/-- The fence's end, before the namespaces come online. -/
def State.fenceEnded (s : State) (t0 : Nat) : State :=
  let s := { s with capo := { s.capo with fence := false, takeoverAt := none } }
  let s := (s.adoptMirror.nextEpoch 1).satFld Fld.TAKEOVER_COUNT 1
  s.setFld Fld.LAST_TAKEOVER_US (min ((s.now - t0) / 1000) 0xFFFFFFFF)

theorem exec_writeFenceEnd_idle (h : s.capo.takeoverAt = none ∨ s.role ≠ 3 ∨ s.bit Fld.CAPO_STATUS.GATE_OPEN = false) :
    exec .writeFenceEnd s = .next s := by
  simp only [exec, execWriteFenceEnd]
  split
  · rfl
  next t0 ht => exact if_pos (h.resolve_left (by rw [ht]; exact Option.some_ne_none _))

theorem exec_writeFenceEnd {t0 : Nat} (ht : s.capo.takeoverAt = some t0) (h3 : s.role = 3) (hg : s.bit Fld.CAPO_STATUS.GATE_OPEN = true) :
    exec .writeFenceEnd s = .next (s.fenceEnded t0).online := by
  simp only [exec, execWriteFenceEnd, ht]
  exact if_neg (by simp [h3, hg])

theorem fenceEnded_shows (s : State) (t0 : Nat) : (s.fenceEnded t0).capo.fence = false ∧ (s.fenceEnded t0).capo.takeoverAt = none ∧
    (s.fenceEnded t0).fld Fld.TAKEOVER_COUNT = min (s.fld Fld.TAKEOVER_COUNT + 1) (2 ^ Fld.TAKEOVER_COUNT.width - 1) := by
  refine ⟨rfl, rfl, (State.fld_setFld_ne _ _ _ _ (by decide)).trans ((fld_satFld_same ..).trans ?_)⟩
  rw [(kept_State_nextEpoch _ 1).fld Fld.TAKEOVER_COUNT (by decide), (kept_State_adoptMirror _).fld Fld.TAKEOVER_COUNT (by decide)]
  rfl

theorem online_ready (s : State) : s.online.bit Fld.HFE_STATUS.REPLAY_PENDING = false :=
  ((kept_State_noteLimit _).bit _ (by decide)).trans (((kept_State_startResync _).bit _ (by decide)).trans (State.bit_setBit_same _ _ _ rfl))

theorem writeFenceEnd_ends {t0 : Nat} (ht : s.capo.takeoverAt = some t0) (h3 : s.role = 3) (hg : s.bit Fld.CAPO_STATUS.GATE_OPEN = true) :
    Does .writeFenceEnd s fun t => t.capo.fence = false ∧ t.capo.takeoverAt = none ∧ t.bit Fld.HFE_STATUS.REPLAY_PENDING = false ∧
      t.fld Fld.TAKEOVER_COUNT = min (s.fld Fld.TAKEOVER_COUNT + 1) (2 ^ Fld.TAKEOVER_COUNT.width - 1) := by
  obtain ⟨hfence, htake, hcount⟩ := fenceEnded_shows s t0
  have hx := exec_writeFenceEnd ht h3 hg
  generalize s.fenceEnded t0 = u at hx hfence htake hcount
  have hcapo : u.online.capo = u.capo := only_State_online u .capo rfl
  exact ⟨_, hx, (congrArg Capo.fence hcapo).trans hfence, (congrArg Capo.takeoverAt hcapo).trans htake, online_ready u,
    ((kept_State_online u).fld _ (by decide)).trans hcount⟩

end

/-- Settles O50. -/
theorem pairStateFollowsThePartner : Obligations.PairStateFollowsThePartner := by
  unfold Obligations.PairStateFollowsThePartner
  refine ⟨?sent, ?dual, ?inSync, ?sector, ?context, ?differs, ?synced, ?silent, ?claims, ?standsBy, ?mismatch, ?waitClaims, ?waitIncomplete,
    ?takeover, ?fenceEnd, ?notSent, ?notTaken, ?faults, ?follows, ?meets, ?notes, ?notStandby, ?badSector, ?contextAgain, ?fretSet, ?fretClear,
    ?nonceMark, ?dirtyNs, ?deferred, ?lost, ?bowSource, ?bowDisplaced, ?checkpoint, ?updateDone, ?digestCounted, ?digestPlaced, ?noDigest, ?noSync,
    ?notSilent, ?noneStandsBy, ?noneIdle, ?notChoosing, ?mayNotClaim, ?noWait, ?waitStandsBy, ?waitConsents, ?waitStuck, ?takeoverHeard,
    ?noTakeover, ?activeThere, ?noFenceEnd⟩
  case sent => exact fun s hp hi => ⟨_, exec_healthWordSend.trans (if_pos (by simp [hp, hi])), rfl, rfl⟩
  case dual => exact fun s h hp hi h3 h2 => healthWordReceive_dual hp hi h3 h2
  case inSync =>
    intro s h hp hi h1 hs h2 hf
    obtain ⟨t, hx, hpart, -, hcomplete, -, hepoch⟩ := healthWordReceive_follows hp hi h1 (by omega) h2
    exact ⟨t, hx, hpart, hcomplete.trans (decide_eq_true hf), hepoch.trans (if_pos hf)⟩
  case sector =>
    intro s nsid lba cls seq sec h1
    exact ⟨_, exec_mirrorItemReceive h1, (itemHeard_capo s).1, mirrorSector_holds s.itemHeard nsid lba sec cls seq⟩
  case context =>
    intro s u h1 hu
    refine ⟨_, exec_mirrorItemReceive h1, (mirrorContext_ctx s.itemHeard u).trans ?_⟩
    rw [(itemHeard_capo s).2, List.filter_eq_self.mpr (fun v hv => decide_eq_true (hu v hv))]
  case differs =>
    intro s differ h3 hm
    obtain ⟨hwc, hcount⟩ := digestSteps_active differ s h3
    exact ⟨_, exec_mirrorDigestCheck.trans (if_pos (.inr ⟨h3, hm⟩)), hcount, hwc⟩
  case synced =>
    intro s h3 hs
    obtain ⟨hsync, hpair, hwc⟩ := mirrorComplete_shows s
    have hx := exec_mirrorSyncComplete h3 hs
    generalize s.mirrorComplete = u at hx hsync hpair hwc
    have hk := kept_State_recomputeLimit u
    exact ⟨_, hx, (hk.bit _ (by decide)).trans hsync, (hk.bit _ (by decide)).trans hpair, (hk.bit _ (by decide)).trans hwc⟩
  case silent =>
    intro s h1 hs
    exact ⟨_, exec_standbyMirrorSilence.trans (if_pos ⟨h1, hs⟩),
      (State.bit_setBit_ne _ _ _ _ (by decide)).trans (State.bit_setBit_same _ _ _ rfl), State.bit_setBit_same _ _ _ rfl⟩
  case claims =>
    exact fun s p hc hm h1 ho hk => ⟨_, pairRoleChoice_outranks hc hm h1 ho, claimChosen_claims ((partnerShown_standing s p).mayClaim.trans hk)⟩
  case standsBy => exact fun s p hc hm h => pairRoleChoice_standsBy hc hm h
  case mismatch => exact fun s p hc hm => pairRoleChoice_mismatches hc hm
  case waitClaims => exact fun s hc h0 hs hk hm => startupWaitExpiry_claims hc h0 (.inr hs) hk hm
  case waitIncomplete =>
    intro s hc h0 hs hk
    refine ⟨_, (exec_startupWaitExpiry hc h0).trans ((if_neg hs).trans (if_neg (by simp [hk]))), ?_⟩
    rw [if_neg (by simp [hk])]
    exact idleStandby_shows s (by decide)
  case takeover => exact fun s h1 hc hf hk h3 hp hm => takeover_claims ⟨h1, hc, hf, hk, h3⟩ (activeLost_silent hp) hm
  case fenceEnd => exact fun s t0 ht h3 hg => writeFenceEnd_ends ht h3 hg
  case notSent => exact fun s h => ⟨_, exec_healthWordSend.trans (if_neg (by rcases h with h | h <;> simp [h])), rfl⟩
  case notTaken => exact fun s h hp => ⟨_, if_pos hp, rfl⟩
  case faults => exact fun s h hp hi h1 h3 h2 => healthWordReceive_faults hp hi h1 h3 h2
  case follows => exact fun s h hp hi h1 h3 h2 => healthWordReceive_follows hp hi h1 h3 h2
  case meets => exact fun s h hp hi h3 h1 => healthWordReceive_meets hp hi h3 h1
  case notes =>
    intro s h hp hi h2 h1
    exact ⟨_, healthWordReceive_notes hp hi h2 h1, rfl, rfl, healthTaken_role s h, State.fld_setFld_same .., (kept_healthTaken s h).bit _ (by decide)⟩
  case notStandby => exact fun s item h1 => ⟨_, if_neg h1, rfl⟩
  case badSector =>
    intro s nsid lba cls seq sec h1
    exact ⟨_, exec_mirrorItemReceive h1, (itemHeard_capo s).1, (congrArg Wc.lines (itemHeard_only s .wc rfl) :)⟩
  case contextAgain =>
    exact fun s u h1 => ⟨_, exec_mirrorItemReceive h1, (mirrorContext_ctx s.itemHeard u).trans (by rw [(itemHeard_capo s).2])⟩
  case fretSet =>
    exact fun s b h1 => ⟨_, exec_mirrorItemReceive h1, fretSet_listed s.itemHeard b, (congrArg Wc.lines (itemHeard_only s .wc rfl) :)⟩
  case fretClear =>
    exact fun s b h1 => ⟨_, exec_mirrorItemReceive h1, (congrArg (fun w : Wc => w.fret.filter (· ≠ b)) (itemHeard_only s .wc rfl) :)⟩
  case nonceMark =>
    intro s nsid m h1
    refine ⟨_, exec_mirrorItemReceive h1, ?_⟩
    show (tget (tput s.itemHeard.cip.marks nsid m) nsid).getD (2 ^ 20) = m
    rw [tget_tput_same, Option.getD_some]
  case dirtyNs => exact fun s n h1 => ⟨_, exec_mirrorItemReceive h1, dirtyNs_listed s.itemHeard n⟩
  case deferred =>
    intro s nsid cause slba nlb h1 hd
    refine ⟨_, exec_mirrorItemReceive h1, ?_⟩
    rw [← itemHeard_pitch s]
    exact deferError_first ((congrArg Hfe.dwe (itemHeard_only s .hfe rfl)).trans hd) nsid cause slba nlb
  case lost =>
    intro s a epoch stripe row mask cause h1 hl
    exact ⟨_, exec_mirrorItemReceive h1, _, listLost_first ((congrArg Rbe.lost (itemHeard_only s .rbe rfl)).trans hl) _, rfl, rfl, rfl⟩
  case bowSource =>
    intro s a lba sec r h1 ha
    exact ⟨_, exec_mirrorItemReceive h1, mirrorArr_arr ((itemHeard_arr s a).trans ha) _⟩
  case bowDisplaced =>
    intro s a lba sec r h1 ha
    exact ⟨_, exec_mirrorItemReceive h1, mirrorArr_arr ((itemHeard_arr s a).trans ha) _⟩
  case checkpoint =>
    intro s a c r h1 ha
    exact ⟨_, exec_mirrorItemReceive h1, _, mirrorArr_arr ((itemHeard_arr s a).trans ha) _, rfl, rfl⟩
  case updateDone =>
    exact fun s id secs h1 => ⟨_, exec_mirrorItemReceive h1, (mirrorDone_ctx s.itemHeard id).trans (by rw [(itemHeard_capo s).2])⟩
  case digestCounted =>
    intro s i h1
    refine ⟨_, exec_mirrorDigestCheck.trans (if_pos (.inl h1)), ?_⟩
    beta_reduce
    rw [List.foldl_cons, List.foldl_nil, digestStep_standby h1, mismatched_count, (kept_State_mirrorIn s i).fld _ (by decide)]
  case digestPlaced =>
    intro s n h1
    refine ⟨_, exec_mirrorDigestCheck.trans (if_pos (.inl h1)), ?_⟩
    beta_reduce
    rw [List.foldl_cons, List.foldl_nil, digestStep_standby h1]
    exact dirtyNs_listed s n
  case noDigest =>
    intro s differ h1 h
    refine ⟨_, exec_mirrorDigestCheck.trans (if_neg ?_), rfl⟩
    rintro (hr | ⟨hr, hm⟩)
    · exact h1 hr
    · rcases h with h | h
      · exact h hr
      · exact absurd (hm.symm.trans h) (by decide)
  case noSync =>
    intro s h
    refine ⟨_, if_neg ?_, rfl⟩
    rintro ⟨h3, hs⟩
    rcases h with h | h
    · exact h h3
    · exact absurd (hs.symm.trans h) (by decide)
  case notSilent => exact fun s h => ⟨_, exec_standbyMirrorSilence.trans (if_neg (by omega)), rfl⟩
  case noneStandsBy =>
    exact fun s hc hs => ⟨_, exec_pairRoleChoice_none.trans ((if_neg (by simp [hc])).trans (if_pos hs)), becomeStandby_shows s⟩
  case noneIdle =>
    intro s h
    refine ⟨s, exec_pairRoleChoice_none.trans ?_, rfl⟩
    split
    · rfl
    next hc => exact if_neg (h.resolve_left (by simpa using hc))
  case notChoosing =>
    intro s p hc
    have hs := partnerShown_standing s p
    exact ⟨_, exec_pairRoleChoice_some.trans (if_pos (by simp [hs.choosing, hc])), hs.role, hs.capo⟩
  case mayNotClaim =>
    intro s p hc hm h1 ho hk
    have hs := partnerShown_standing s p
    refine ⟨_, pairRoleChoice_outranks hc hm h1 ho, ?_⟩
    rw [beginClaim_idle ((claimChosen_mayClaim _).trans (hs.mayClaim.trans hk))]
    exact ⟨(driveCapo_role _).trans hs.role, rfl⟩
  case noWait => exact fun s h => ⟨_, if_pos (by rcases h with h | h <;> simp [h]), rfl⟩
  case waitStandsBy => exact fun s hc h0 hs => ⟨_, (exec_startupWaitExpiry hc h0).trans (if_pos hs), becomeStandby_shows s⟩
  case waitConsents => exact fun s hc h0 hs hk hm => startupWaitExpiry_claims hc h0 (.inl hs) hk hm
  case waitStuck =>
    intro s hc h0 hs hk
    have hno : ¬ (s.bit Fld.PAIR_STATUS.STATE_COMPLETE && (s.seen == 2 || s.seen == 3)) = true := by
      simp only [Bool.and_eq_true, Bool.or_eq_true, beq_iff_eq]
      omega
    refine ⟨_, (exec_startupWaitExpiry hc h0).trans ((if_neg (by omega)).trans (if_neg hno)), ?_⟩
    rw [if_pos hk]
    exact idleStandby_shows s (by decide)
  case takeoverHeard =>
    exact fun s h h1 hc hf hk h3 hp hl hm => takeover_claims ⟨h1, hc, hf, hk, h3⟩ ((activeLost_heard hp).mpr hl) hm
  case noTakeover =>
    intro s h
    refine ⟨_, exec_takeover_stays ?_, rfl⟩
    rintro ⟨⟨h1, hc, hf, hk, h3⟩, -, hm⟩
    rcases h with h | h | h | h | h | h
    · exact h h1
    · exact absurd (hc.symm.trans h) (by decide)
    · omega
    · exact absurd (hk.symm.trans h) (by decide)
    · exact h h3
    · exact absurd (hm.symm.trans h) (by decide)
  case activeThere =>
    intro s h hp hn hr hl
    refine ⟨_, exec_takeover_stays ?_, rfl⟩
    rintro ⟨-, hlost, -⟩
    rcases (activeLost_heard hp).mp hlost with h | h | h
    · omega
    · exact hr h
    · exact hl h
  case noFenceEnd => exact fun s h => ⟨_, exec_writeFenceEnd_idle h, rfl⟩

end Sys2Proof.Machine

/-!
The drive ports (O38): presence, identification, link loss and its window, spin-up, and the commands of PORT_CMD.
-/
namespace Sys2Proof.Machine

/-! ### A port's state -/

theorem port_putPort_same (s : State) (p : PortId) (x : PortSt) : (s.putPort p x).port p = x := by
  simp only [State.port, State.putPort, tget_tput_same, Option.getD_some]

theorem port_putPort_ne (s : State) {p q : PortId} (x : PortSt) (h : q ≠ p) : (s.putPort p x).port q = s.port q := by
  simp only [State.port, State.putPort, tget_tput_ne _ _ _ _ (Fin.val_ne_of_ne h)]

theorem port_of_ports {s t : State} (h : t.ports = s.ports) (p : PortId) : t.port p = s.port p := by
  rw [State.port, State.port, h]

theorem Only.port {l : List Part} {s t : State} (h : Only l s t) (hl : l.contains .ports = false) (p : PortId) : t.port p = s.port p :=
  port_of_ports (h .ports hl) p

theorem Kept.portState {l : List Field} {s t : State} (k : Kept l s t) (p : PortId)
    (h : l.all (fun g => g.offFrom Fld.PORT_STATE.STATE) = true) : t.portState p = s.portState p := k.fldAt p.val h

theorem setPortState_state (s : State) (p : PortId) {v : Nat} (h : v < 16) : (s.setPortState p v).portState p = v :=
  (State.fld_setFld_same ..).trans (Nat.mod_eq_of_lt h)

/-- A port's field, where none of the 48 is in the list. -/
theorem Kept.portFld {l : List Field} {s t : State} (k : Kept l s t) {f : Field} (p : PortId)
    (h : (List.finRange 48).all (fun (i : PortId) => l.all (fun g => g.apart (f.at i.val))) = true) :
    t.fld (f.at p.val) = s.fld (f.at p.val) :=
  k.fld (f.at p.val) (List.all_eq_true.mp h p (List.mem_finRange p))

theorem portMember_of_rbe {s t : State} (h : t.rbe = s.rbe) (p : PortId) : t.portMember p = s.portMember p := by
  simp only [State.portMember, State.arr, h]

theorem portIgnored_shows (s : State) (p : PortId) (cmd : Nat) : (s.portIgnored p cmd).regs = s.regs ∧ (s.portIgnored p cmd).ports = s.ports ∧
    (s.portIgnored p cmd).evr.arrivals.length = s.evr.arrivals.length + 1 := ⟨rfl, rfl, List.length_append⟩

/-! ### What a member's loss or return leaves of the ports -/

/-- Two states whose ports differ at most in the commands that wait. -/
structure QueuesOnly (s t : State) : Prop where
  port : ∀ p, ∃ w, t.port p = { s.port p with waiting := w }

theorem QueuesOnly.of_ports {s t : State} (h : t.ports = s.ports) : QueuesOnly s t := ⟨fun p => ⟨_, port_of_ports h p⟩⟩

theorem QueuesOnly.trans {s t u : State} (h : QueuesOnly s t) (k : QueuesOnly t u) : QueuesOnly s u := ⟨fun p => by
  obtain ⟨_, hw⟩ := h.port p
  obtain ⟨w, hv⟩ := k.port p
  exact ⟨w, by rw [hv, hw]⟩⟩

theorem QueuesOnly.behind {s t u : State} (k : QueuesOnly t u) (h : t.ports = s.ports) : QueuesOnly s u := (QueuesOnly.of_ports h).trans k

theorem QueuesOnly.foldl {α : Type} {f : State → α → State} (hf : ∀ t x, QueuesOnly t (f t x)) (s : State) (l : List α) :
    QueuesOnly s (l.foldl f s) :=
  List.foldlRecOn (motive := fun t : State => QueuesOnly s t) _ _ (.of_ports rfl) fun t ht x _ => ht.trans (hf t x)

theorem QueuesOnly.windowEnd {s t : State} (h : QueuesOnly s t) (p : PortId) : (t.port p).windowEnd = (s.port p).windowEnd := by
  obtain ⟨_, hw⟩ := h.port p
  rw [hw]

theorem QueuesOnly.drive {s t : State} (h : QueuesOnly s t) (p : PortId) : (t.port p).drive = (s.port p).drive := by
  obtain ⟨_, hw⟩ := h.port p
  rw [hw]

theorem QueuesOnly.heldIdent {s t : State} (h : QueuesOnly s t) (p : PortId) : (t.port p).heldIdent = (s.port p).heldIdent := by
  obtain ⟨_, hw⟩ := h.port p
  rw [hw]

theorem putPort_queues (s : State) (p : PortId) (w : List MCmd) : QueuesOnly s (s.putPort p { s.port p with waiting := w }) := ⟨fun q => by
  by_cases h : q = p
  · subst h
    exact ⟨w, port_putPort_same ..⟩
  · exact ⟨_, port_putPort_ne s _ h⟩⟩

theorem tget_mapSnd {α : Type} (f : α → α) (t : Tbl α) (k : Nat) : tget (t.map fun x => (x.1, f x.2)) k = (tget t k).map f := by
  induction t with
  | nil => rfl
  | cons x t ih =>
    obtain ⟨i, a⟩ := x
    simp only [List.map_cons, tget]
    split
    · rfl
    · exact ih

theorem mapQueues_queues (s t : State) (f : List MCmd → List MCmd) (h0 : f [] = [])
    (h : t.ports = s.ports.map fun x => (x.1, { x.2 with waiting := f x.2.waiting })) : QueuesOnly s t := by
  refine ⟨fun p => ⟨f (s.port p).waiting, ?_⟩⟩
  rw [State.port, h, tget_mapSnd (fun q : PortSt => { q with waiting := f q.waiting }), State.port]
  cases tget s.ports p.val with
  | none => exact congrArg (fun w => { portReset with waiting := w }) h0.symm
  | some q => rfl

theorem updCmd_queues (s : State) (u : Update) (r : Arr) (kind : McKind) (unit : Nat) (pos : Pos) (rows : List Nat) :
    QueuesOnly s (s.updCmd u r kind unit pos rows) := by
  unfold State.updCmd
  split
  · exact .of_ports rfl
  · exact .of_ports rfl
  · exact putPort_queues ..

theorem updReads_queues (s : State) (u : Update) (r : Arr) (g : Geom) : QueuesOnly s (s.updReads u r g) := by
  unfold State.updReads
  refine QueuesOnly.foldl (fun t v => ?_) _ _
  split
  · exact .of_ports rfl
  · exact (updCmd_queues ..).trans (QueuesOnly.foldl (fun x rows => updCmd_queues ..) _ _)

theorem rechoose_queues (s : State) (a : ArrayId) : QueuesOnly s (s.rechoose a) := by
  unfold State.rechoose
  refine QueuesOnly.foldl (fun t u => ?_) _ _
  split
  · exact .of_ports rfl
  · exact QueuesOnly.trans (mapQueues_queues t _ (fun l => l.filter fun c => !(c.owner == .update u.id)) rfl rfl) (updReads_queues ..)

theorem askLabel_queues (s : State) (a : ArrayId) (r : Arr) (j : LabelJob) : QueuesOnly s (s.askLabel a r j) := by
  unfold State.askLabel
  split
  · exact putPort_queues ..
  · exact .of_ports rfl

theorem rewriteLabels_queues (s : State) (a : ArrayId) : QueuesOnly s (s.rewriteLabels a) := by
  unfold State.rewriteLabels
  split
  · exact .of_ports rfl
  · dsimp only
    split
    · exact .of_ports rfl
    · exact (QueuesOnly.foldl (fun t j => askLabel_queues t a _ j) _ _).behind rfl

theorem dropMember_queues (s : State) (a : ArrayId) (m : Nat) (st : MemState) (cause : Nat) : QueuesOnly s (s.dropMember a m st cause) := by
  unfold State.dropMember
  split
  · exact .of_ports rfl
  · extract_lets old r1 r2 r3 stays r4 r5 s1 s2
    have h2 : QueuesOnly s s2 := by
      unfold s2
      split
      · exact .of_ports rfl
      · exact (putPort_queues s1 _ _).behind rfl
    exact ((h2.trans (rewriteLabels_queues s2 a)).trans (.of_ports (only_State_thirdMissing _ a .ports rfl))).trans (rechoose_queues _ a)

theorem failMember_queues (s : State) (a : ArrayId) (m : Nat) (c : FailCause) : QueuesOnly s (s.failMember a m c) := by
  unfold State.failMember
  split
  · exact .of_ports rfl
  · split
    · exact .of_ports rfl
    · split
      · exact .of_ports rfl
      · dsimp only
        split
        · exact .of_ports rfl
        · exact .of_ports rfl
        · exact .of_ports rfl
        · exact (dropMember_queues ..).trans (.of_ports rfl)

theorem indexAbsent_queues (s : State) (a : ArrayId) (m : Nat) (p : PortId) : QueuesOnly s (s.indexAbsent a m p) := by
  unfold State.indexAbsent
  split
  · exact .of_ports rfl
  · extract_lets own
    split_ifs
    · exact dropMember_queues ..
    · exact failMember_queues ..
    · exact .of_ports rfl

theorem admitReplacement_queues (s : State) (a : ArrayId) (m : Nat) (p : PortId) : QueuesOnly s (s.admitReplacement a m p) := by
  unfold State.admitReplacement
  split
  · exact .of_ports rfl
  · exact (rewriteLabels_queues _ a).behind rfl

theorem compareLabel_queues (s : State) (p : PortId) (d : DriveInfo) : QueuesOnly s (s.compareLabel p d) := by
  unfold State.compareLabel
  split
  · exact .of_ports rfl
  · split
    · split
      · exact .of_ports rfl
      · split_ifs
        · exact .of_ports rfl
        · exact (rewriteLabels_queues ..).trans (.of_ports rfl)
        · exact .of_ports rfl
        · exact .of_ports rfl
    · exact .of_ports rfl

/-! ### The outcome of identification (R297, R298) -/

section
variable {s : State} {p : PortId}

theorem rejectDrive_shows (s : State) (p : PortId) {reason : Nat} (h : reason < 16) : (s.rejectDrive p reason).portState p = 6 ∧
    (s.rejectDrive p reason).fld (Fld.PORT_STATE.REJECT_REASON.at p.val) = reason :=
  ⟨(Kept.setFldAt (g := Fld.PORT_STATE.REJECT_REASON) (l := [Fld.PORT_STATE.REJECT_REASON]) rfl Kept.refl).portState p (by decide)
    |>.trans (setPortState_state s p (by decide)),
   (State.fld_setFld_same ..).trans (Nat.mod_eq_of_lt h)⟩

theorem portReady_shows (s : State) (p : PortId) : (s.portReady p).portState p = 4 ∧
    (s.portReady p).port p = { s.port p with windowEnd := 0, startupWindow := false, heldIdent := false } :=
  ⟨(Kept.setFldAt (g := Fld.PORT_STATE.REJECT_REASON) (l := [Fld.PORT_STATE.REJECT_REASON]) rfl Kept.refl).portState p (by decide)
    |>.trans (setPortState_state _ p (by decide)),
   port_putPort_same ..⟩

theorem placeDrive_free (h : s.portMember p = none) (d : Drive) (accept : Bool) : s.placeDrive p d accept = s.portReady p := by
  simp only [State.placeDrive, h]

section
variable {a : ArrayId} {m : Nat} {r : Arr} {x : Member} {d : Drive}

/-- What identification does with a member's drive. -/
theorem placeDrive_member (hp : s.portMember p = some (a, m)) (ha : s.arr a = some r) (hm : r.mem m = some x) (accept : Bool) :
    s.placeDrive p d accept =
      if memberSectors d.capacity < r.cur.dataSectors then s.rejectDrive p 3
      else if (s.newMemberDrive p a d && x.state == .active) = true then s.takeNewDrive p a
      else if x.state = .active ∨ x.state = .rebuilding then
        if d.label = some (r.uuid, x.uuid) then s.portReady p
        else ((s.putPort p { s.port p with heldIdent := true }).setPortState p 3).emit .driveHeld [p.val, a.val, m]
      else if (d.label.map (·.1) = none ∨ d.label.map (·.1) = some r.uuid ∨ accept) ∧
          (accept || decide (((s.portCfg p).map (·.flags)).getD 0 % 2 = 1)) = true then (s.portReady p).admitReplacement a m p
      else s.rejectDrive p 4 := by
  simp only [State.placeDrive, hp, ha, hm]

theorem placeDrive_small (hp : s.portMember p = some (a, m)) (ha : s.arr a = some r) (hm : r.mem m = some x)
    (hc : memberSectors d.capacity < r.cur.dataSectors) (accept : Bool) : s.placeDrive p d accept = s.rejectDrive p 3 :=
  (placeDrive_member hp ha hm accept).trans (if_pos hc)

theorem placeDrive_rejoins (hp : s.portMember p = some (a, m)) (ha : s.arr a = some r) (hm : r.mem m = some x)
    (hc : r.cur.dataSectors ≤ memberSectors d.capacity) (hn : s.newMemberDrive p a d = false) (hx : x.state = .active ∨ x.state = .rebuilding)
    (hl : d.label = some (r.uuid, x.uuid)) (accept : Bool) : s.placeDrive p d accept = s.portReady p :=
  (placeDrive_member hp ha hm accept).trans ((if_neg (Nat.not_lt.mpr hc)).trans ((if_neg (by simp [hn])).trans ((if_pos hx).trans (if_pos hl))))

theorem placeDrive_held (hp : s.portMember p = some (a, m)) (ha : s.arr a = some r) (hm : r.mem m = some x)
    (hc : r.cur.dataSectors ≤ memberSectors d.capacity) (hn : s.newMemberDrive p a d = false) (hx : x.state = .active ∨ x.state = .rebuilding)
    (hl : d.label ≠ some (r.uuid, x.uuid)) (accept : Bool) : s.placeDrive p d accept =
      ((s.putPort p { s.port p with heldIdent := true }).setPortState p 3).emit .driveHeld [p.val, a.val, m] :=
  (placeDrive_member hp ha hm accept).trans ((if_neg (Nat.not_lt.mpr hc)).trans ((if_neg (by simp [hn])).trans ((if_pos hx).trans (if_neg hl))))

theorem placeDrive_admits (hp : s.portMember p = some (a, m)) (ha : s.arr a = some r) (hm : r.mem m = some x)
    (hc : r.cur.dataSectors ≤ memberSectors d.capacity) (hx : x.state = .failed ∨ x.state = .absent) :
    s.placeDrive p d true = (s.portReady p).admitReplacement a m p := by
  have hact : x.state ≠ .active := by rcases hx with h | h <;> simp [h]
  have hreb : x.state ≠ .rebuilding := by rcases hx with h | h <;> simp [h]
  exact (placeDrive_member hp ha hm true).trans ((if_neg (Nat.not_lt.mpr hc)).trans ((if_neg (by simp [hact])).trans
    ((if_neg (by simp [hact, hreb])).trans (if_pos ⟨.inr (.inr rfl), rfl⟩))))

theorem admitReplacement_member (ha : s.arr a = some r) (hm : r.mem m = some x) :
    ∃ q y, (s.admitReplacement a m p).arr a = some q ∧ q.mem m = some y ∧ y.state = .rebuilding := by
  simp only [State.admitReplacement, ha]
  obtain ⟨q, hq, jobs, seq, again, rfl⟩ := rewriteLabels_arr (s := (s.used.putArr a (r.modMem m fun x =>
    { x with state := .rebuilding, uuid := (s.free 128).toNat, port := some p, rebuiltTo := 0,
             spareFrom := if x.spareFrom ≤ x.rebuiltTo then 0 else x.spareFrom,
             spareTo := max x.rebuiltTo x.spareTo, directTo := 0, slow := false, mediaErrs := [], reads := 0, cause := 0, fresh := true })).putMedia p
      Media.fresh) (arr_putArr_same ..)
  exact ⟨_, _, hq, mem_modMem_same hm _, rfl⟩

end

/-- A port without a removal window has none once its drive is placed. -/
theorem placeDrive_windowEnd (h : (s.port p).windowEnd = 0) (d : Drive) (accept : Bool) : ((s.placeDrive p d accept).port p).windowEnd = 0 := by
  have hready : ((s.portReady p).port p).windowEnd = 0 := by rw [(portReady_shows s p).2]
  unfold State.placeDrive
  split
  · exact hready
  · split
    · exact hready
    · split
      · exact hready
      · dsimp only
        split_ifs
        · exact h
        · exact ((rewriteLabels_queues ..).windowEnd p).trans ((congrArg PortSt.windowEnd (port_putPort_same ..)).trans rfl)
        · exact hready
        · exact (congrArg PortSt.windowEnd (port_putPort_same ..)).trans h
        · exact ((admitReplacement_queues ..).windowEnd p).trans hready
        · exact h

end

/-! ### Presence and identification (R287, R297, R299) -/

/-- What the port keeps of a drive that has identified. -/
def knownDrive (d : DriveInfo) : Drive := ⟨d.serial, d.capacity, d.dual, d.label⟩

/-- The reason for which a drive is rejected at a port, 0 without one. -/
def State.rejectReason (s : State) (p : PortId) (d : DriveInfo) : Nat :=
  if d.reject ≠ 0 then d.reject else if s.portMode p = 2 ∧ ¬ d.dual then 7 else 0

/-- The registers of a port after its drive has answered. -/
def State.linkShown (s : State) (p : PortId) (d : DriveInfo) : State :=
  let s := (s.setBit (Fld.LINK_STATUS.PRESENT.at p.val) true).setBit (Fld.LINK_STATUS.LINK_UP.at p.val) true
  let s := (s.setFld (Fld.LINK_STATUS.RATE.at p.val) d.rate).setFld (Fld.LINK_STATUS.WIDTH.at p.val) d.width
  let s := s.setBit (Fld.LINK_STATUS.DUAL_PORT.at p.val) d.dual
  (s.setFld (Fld.CAPACITY.at p.val) d.capacity).setFld (Fld.DRIVE_SERIAL.at p.val) d.serial

/-- The registers and the port after its drive has answered. -/
def State.driveShown (s : State) (p : PortId) (d : DriveInfo) : State :=
  (s.linkShown p d).putPort p { (s.linkShown p d).port p with drive := some (knownDrive d) }

/-- A drive without a reason to reject placed, and its label compared where it answers at start-up (R87). -/
def State.driveTaken (s : State) (p : PortId) (d : DriveInfo) : State :=
  if ((s.driveShown p d).port p).startupWindow = true then ((s.driveShown p d).placeDrive p (knownDrive d) false).compareLabel p d
  else (s.driveShown p d).placeDrive p (knownDrive d) false

theorem portState_of_regs {s t : State} (h : t.regs = s.regs) (p : PortId) : t.portState p = s.portState p := State.fld_of_regs _ _ _ h

section
variable {s : State} {p : PortId} {d : DriveInfo}

theorem drivePresent_trains (hm : s.portMode p ≠ 0) (hw : (s.port p).pwren = true) (h5 : s.portState p ≠ 5) :
    exec (.drivePresent p) s = .next ((s.setBit (Fld.LINK_STATUS.PRESENT.at p.val) true).setPortState p 2) := by
  have hk : Kept [Fld.LINK_STATUS.PRESENT] s (s.setBit (Fld.LINK_STATUS.PRESENT.at p.val) true) := Kept.setBitAt rfl Kept.refl
  refine if_neg ?_
  rintro (h | h | h)
  · exact hm h
  · exact h hw
  · exact h5 ((hk.portState p (by decide)).symm.trans h)

theorem drivePresent_shows (h : s.portMode p = 0 ∨ (s.port p).pwren = false ∨ s.portState p = 5) :
    exec (.drivePresent p) s = .next (s.setBit (Fld.LINK_STATUS.PRESENT.at p.val) true) := by
  have hk : Kept [Fld.LINK_STATUS.PRESENT] s (s.setBit (Fld.LINK_STATUS.PRESENT.at p.val) true) := Kept.setBitAt rfl Kept.refl
  refine if_pos ?_
  rcases h with h | h | h
  · exact .inl h
  · exact .inr (.inl (fun hc => Bool.false_ne_true (h.symm.trans hc)))
  · exact .inr (.inr ((hk.portState p (by decide)).trans h))

theorem exec_driveIdentified (hm : s.portMode p ≠ 0) (hw : (s.port p).pwren = true) : exec (.driveIdentified p d) s =
    if s.rejectReason p d = 6 then .next ((s.setBit (Fld.LINK_STATUS.PRESENT.at p.val) true).rejectDrive p 6)
    else if s.rejectReason p d ≠ 0 then .next ((s.driveShown p d).rejectDrive p (s.rejectReason p d))
    else .next (s.driveTaken p d) := if_neg (by simp [hm, hw])

theorem reject_lt (d : DriveInfo) : d.reject < 16 := by
  unfold DriveInfo.reject
  split_ifs <;> decide

theorem driveIdentified_rejects (hm : s.portMode p ≠ 0) (hw : (s.port p).pwren = true) (h : d.reject ≠ 0 ∨ (s.portMode p = 2 ∧ d.dual = false)) :
    ∃ t : State, exec (.driveIdentified p d) s = .next (t.rejectDrive p (if d.reject ≠ 0 then d.reject else 7)) := by
  have hr : s.rejectReason p d = if d.reject ≠ 0 then d.reject else 7 := by
    unfold State.rejectReason
    by_cases h0 : d.reject ≠ 0
    · rw [if_pos h0, if_pos h0]
    · obtain ⟨h2, hd⟩ := h.resolve_left h0
      rw [if_neg h0, if_neg h0, if_pos ⟨h2, by simp [hd]⟩]
  have hx := exec_driveIdentified (d := d) hm hw
  rw [hr] at hx
  by_cases h6 : (if d.reject ≠ 0 then d.reject else 7) = 6
  · exact ⟨_, hx.trans ((if_pos h6).trans (by rw [h6]))⟩
  · refine ⟨_, hx.trans ((if_neg h6).trans (if_pos ?_))⟩
    split_ifs with h0
    · exact h0
    · decide

theorem exec_driveIdentified_taken (hm : s.portMode p ≠ 0) (h2 : s.portMode p ≠ 2 ∨ d.dual = true) (hw : (s.port p).pwren = true)
    (h0 : d.reject = 0) : exec (.driveIdentified p d) s = .next (s.driveTaken p d) := by
  have hr : s.rejectReason p d = 0 := by
    unfold State.rejectReason
    rw [if_neg (not_not.mpr h0), if_neg]
    rintro ⟨hc, hd⟩
    exact hd (h2.resolve_left (not_not.mpr hc))
  exact (exec_driveIdentified hm hw).trans ((if_neg (by omega)).trans (if_neg (by omega)))

/-- A comparison of labels leaves the registers, and of the ports all but what waits. -/
theorem driveTaken_places (s : State) (p : PortId) (d : DriveInfo) :
    (s.driveTaken p d).regs = ((s.driveShown p d).placeDrive p (knownDrive d) false).regs ∧
    QueuesOnly ((s.driveShown p d).placeDrive p (knownDrive d) false) (s.driveTaken p d) := by
  unfold State.driveTaken
  split
  · exact ⟨only_State_compareLabel _ p d .regs rfl, compareLabel_queues ..⟩
  · exact ⟨rfl, .of_ports rfl⟩

theorem linkShown_only (s : State) (p : PortId) (d : DriveInfo) : Only [.regs] s (s.linkShown p d) :=
  Only.step (only_State_setFld _ _ _) rfl (Only.step (only_State_setFld _ _ _) rfl (Only.step (only_State_setBit _ _ _) rfl
    (Only.step (only_State_setFld _ _ _) rfl (Only.step (only_State_setFld _ _ _) rfl (Only.step (only_State_setBit _ _ _) rfl
      (Only.step (only_State_setBit s _ _) rfl Only.refl))))))

theorem driveShown_only (s : State) (p : PortId) (d : DriveInfo) : Only [.regs, .ports] s (s.driveShown p d) :=
  Only.step (only_State_putPort _ p _) rfl (Only.step (linkShown_only s p d) rfl Only.refl)

theorem driveShown_port (s : State) (p : PortId) (d : DriveInfo) :
    (s.driveShown p d).port p = { s.port p with drive := some (knownDrive d) } := by
  rw [State.driveShown, port_putPort_same, (linkShown_only s p d).port rfl]

theorem driveShown_linkUp (s : State) (p : PortId) (d : DriveInfo) : (s.driveShown p d).bit (Fld.LINK_STATUS.LINK_UP.at p.val) = true := by
  have hk : Kept [Fld.LINK_STATUS.RATE, Fld.LINK_STATUS.WIDTH, Fld.LINK_STATUS.DUAL_PORT, Fld.CAPACITY, Fld.DRIVE_SERIAL]
      ((s.setBit (Fld.LINK_STATUS.PRESENT.at p.val) true).setBit (Fld.LINK_STATUS.LINK_UP.at p.val) true) (s.linkShown p d) :=
    Kept.setFldAt rfl (Kept.setFldAt rfl (Kept.setBitAt rfl (Kept.setFldAt rfl (Kept.setFldAt rfl Kept.refl))))
  exact (hk.bitAt p.val (by decide)).trans (State.bit_setBit_same _ _ _ rfl)

theorem driveShown_portMember (s : State) (p : PortId) (d : DriveInfo) : (s.driveShown p d).portMember p = s.portMember p :=
  portMember_of_rbe (driveShown_only s p d .rbe rfl) p

theorem driveShown_arr (s : State) (p : PortId) (d : DriveInfo) (a : ArrayId) : (s.driveShown p d).arr a = s.arr a :=
  (driveShown_only s p d).arr rfl a

theorem driveShown_newMemberDrive (s : State) (p : PortId) (d : DriveInfo) (a : ArrayId) :
    (s.driveShown p d).newMemberDrive p a (knownDrive d) = s.newMemberDrive p a (knownDrive d) := by
  rw [State.newMemberDrive, (driveShown_only s p d).img rfl, State.newMemberDrive]

/-- A drive that is READY at its port. -/
theorem driveTaken_ready (h : (s.driveShown p d).placeDrive p (knownDrive d) false = (s.driveShown p d).portReady p) :
    (s.driveTaken p d).portState p = 4 ∧ ((s.driveTaken p d).port p).windowEnd = 0 ∧
    ((s.driveTaken p d).port p).drive = some ⟨d.serial, d.capacity, d.dual, d.label⟩ ∧
    (s.driveTaken p d).bit (Fld.LINK_STATUS.LINK_UP.at p.val) = true := by
  obtain ⟨hregs, hq⟩ := driveTaken_places s p d
  rw [h] at hregs hq
  obtain ⟨hstate, hport⟩ := portReady_shows (s.driveShown p d) p
  refine ⟨(portState_of_regs hregs p).trans hstate, (hq.windowEnd p).trans (by rw [hport]),
    (hq.drive p).trans (by rw [hport, driveShown_port]; rfl), ?_⟩
  exact (congrArg (decide <| · ≠ 0) (State.fld_of_regs _ _ _ hregs)).trans
    (((kept_State_portReady _ p).bitAt p.val (by decide)).trans (driveShown_linkUp s p d))

theorem driveTaken_rejected {reason : Nat} (h : (s.driveShown p d).placeDrive p (knownDrive d) false = (s.driveShown p d).rejectDrive p reason)
    (hr : reason < 16) : (s.driveTaken p d).portState p = 6 ∧ (s.driveTaken p d).fld (Fld.PORT_STATE.REJECT_REASON.at p.val) = reason := by
  obtain ⟨hregs, -⟩ := driveTaken_places s p d
  rw [h] at hregs
  obtain ⟨hstate, hreason⟩ := rejectDrive_shows (s.driveShown p d) p hr
  exact ⟨(portState_of_regs hregs p).trans hstate, (State.fld_of_regs _ _ _ hregs).trans hreason⟩

end

/-! ### Link loss (R295) -/

section
variable {s : State} {p : PortId}

theorem portResetCmds_none_kept (s : State) (p : PortId) : Kept [Fld.WRITE_GATE_ABORTS, Fld.OUTSTANDING.SLOTS, Fld.OUTSTANDING.C0_SLOTS] s
    (s.portResetCmds p none) := by
  simp only [State.portResetCmds, reduceCtorEq, decide_false, List.filter_false, List.foldl_nil]
  exact Kept.step (kept_State_unholdTags _) rfl (Kept.step (kept_State_countSlots _ p) rfl (Kept.regs rfl (Kept.incFldAt rfl Kept.refl)))

theorem forgetDrive_port (s : State) (p : PortId) : (s.forgetDrive p).port p = { s.port p with drive := none, heldIdent := false } :=
  (port_of_ports rfl p).trans (port_putPort_same s p _)

/-- A link seen down, and the port's commands ended. -/
def State.linkReset (s : State) (p : PortId) : State := ((s.linkDown p).errInfo p 4 0 0).portResetCmds p none

/-- The part of a link loss that every port has. -/
def State.linkDropped (s : State) (p : PortId) : State :=
  ((s.linkReset p).putPort p { (s.linkReset p).port p with esc := none }).forgetDrive p

theorem linkDropped_drive (s : State) (p : PortId) : ((s.linkDropped p).port p).drive = none :=
  congrArg PortSt.drive (forgetDrive_port _ p)

theorem linkReset_only (s : State) (p : PortId) : Only [.regs, .hfe, .ports] s (s.linkReset p) :=
  Only.step (portResetCmds_none_only ((s.linkDown p).errInfo p 4 0 0) p) rfl
    (Only.step (only_State_errInfo (s.linkDown p) p 4 0 0) rfl (Only.step (only_State_linkDown s p) rfl Only.refl))

theorem linkDropped_only (s : State) (p : PortId) : Only [.regs, .hfe, .ports] s (s.linkDropped p) :=
  Only.step (only_State_forgetDrive _ p) rfl (Only.step (only_State_putPort _ p _) rfl (linkReset_only s p))

/-- The fields of a port that a link loss touches beside the link's. -/
def linkLossFields : List Field :=
  [Fld.CAPACITY, Fld.DRIVE_SERIAL, Fld.ERR_INFO.DRIVE_STATUS, Fld.ERR_INFO.KIND, Fld.ERR_INFO.SLOT, Fld.WRITE_GATE_ABORTS, Fld.OUTSTANDING.SLOTS,
   Fld.OUTSTANDING.C0_SLOTS]

theorem linkDropped_kept (s : State) (p : PortId) : Kept linkLossFields (s.linkDown p) (s.linkDropped p) :=
  Kept.step (kept_State_forgetDrive _ p) rfl (Kept.regs (a := s.linkReset p) rfl
    (Kept.step (portResetCmds_none_kept ((s.linkDown p).errInfo p 4 0 0) p) rfl (Kept.step (kept_State_errInfo (s.linkDown p) p 4 0 0) rfl Kept.refl)))

theorem linkDropped_link (s : State) (p : PortId) : (s.linkDropped p).bit (Fld.LINK_STATUS.LINK_UP.at p.val) = false ∧
    (s.linkDropped p).bit (Fld.LINK_STATUS.PRESENT.at p.val) = s.bit (Fld.LINK_STATUS.PRESENT.at p.val) := by
  have hk : Kept [Fld.LINK_STATUS.RATE, Fld.LINK_STATUS.WIDTH] (s.setBit (Fld.LINK_STATUS.LINK_UP.at p.val) false) (s.linkDown p) :=
    Kept.setFldAt rfl (Kept.setFldAt rfl Kept.refl)
  exact ⟨((linkDropped_kept s p).bitAt p.val (by decide)).trans ((hk.bitAt p.val (by decide)).trans (State.bit_setBit_same _ _ _ rfl)),
    ((linkDropped_kept s p).bitAt p.val (by decide)).trans ((kept_State_linkDown s p).bitAt p.val (by decide))⟩

/-- A member's port in its removal window: its host reads go to the other units. -/
def State.windowOpened (s : State) (p : PortId) (m : Nat) : State :=
  let q := s.port p
  let s := (q.waiting.filter (fun c => c.kind == .read)).foldl (fun (st : State) c => st.avoidMember c.owner m) s
  s.putPort p { q with waiting := q.waiting.filter (fun c => c.kind != .read),
                       windowEnd := if q.windowEnd = 0 then s.now + s.removalTime p + 1 else q.windowEnd }

/-- What a link loss makes of a port that has dropped its drive. -/
def State.afterLinkLoss (s : State) (p : PortId) : State :=
  match s.portMember p with
  | none => s.setPortState p 2
  | some (a, m) =>
    match (s.windowOpened p m).memState a m with
    | some .active => (s.windowOpened p m).setPortState p 7
    | some .rebuilding => (s.windowOpened p m).setPortState p 7
    | _ => ((s.windowOpened p m).putPort p { (s.windowOpened p m).port p with windowEnd := 0 }).setPortState p 2

theorem linkLoss_eq (s : State) (p : PortId) : s.linkLoss p = (s.linkDropped p).afterLinkLoss p := by
  unfold State.linkLoss
  extract_lets s1 s2 q s3 s4
  have h2 : s2 = s.linkReset p := rfl
  have h4 : s4 = s.linkDropped p := by
    unfold s4 s3 q State.linkDropped
    rw [h2]
  rw [← h4]
  clear_value s4
  unfold State.afterLinkLoss
  cases s4.portMember p with
  | none => rfl
  | some x => rfl

theorem linkLoss_free (h : s.portMember p = none) : s.linkLoss p = (s.linkDropped p).setPortState p 2 := by
  have hm : (s.linkDropped p).portMember p = none := (portMember_of_rbe (linkDropped_only s p .rbe rfl) p).trans h
  rw [linkLoss_eq, State.afterLinkLoss, hm]

theorem windowOpened_only (s : State) (p : PortId) (m : Nat) : Only [.hfe, .ports] s (s.windowOpened p m) :=
  Only.step (only_State_putPort _ p _) rfl (Only.foldl (fun b c hb => Only.step (only_State_avoidMember b c.owner m) rfl hb) Only.refl)

theorem windowOpened_drive (s : State) (p : PortId) (m : Nat) : ((s.windowOpened p m).port p).drive = (s.port p).drive := by
  unfold State.windowOpened
  dsimp only
  rw [port_putPort_same]

theorem memState_of_rbe {t : State} (h : t.rbe = s.rbe) (a : ArrayId) (m : Nat) : t.memState a m = s.memState a m := by
  simp only [State.memState, State.arr, h]

theorem linkLoss_member {a : ArrayId} {m : Nat} (h : s.portMember p = some (a, m)) : s.linkLoss p =
    if s.memState a m = some .active ∨ s.memState a m = some .rebuilding then ((s.linkDropped p).windowOpened p m).setPortState p 7
    else (((s.linkDropped p).windowOpened p m).putPort p { ((s.linkDropped p).windowOpened p m).port p with windowEnd := 0 }).setPortState p 2 := by
  have hm : (s.linkDropped p).portMember p = some (a, m) := (portMember_of_rbe (linkDropped_only s p .rbe rfl) p).trans h
  have hs : ((s.linkDropped p).windowOpened p m).memState a m = s.memState a m :=
    (memState_of_rbe (windowOpened_only _ p m .rbe rfl) a m).trans (memState_of_rbe (linkDropped_only s p .rbe rfl) a m)
  rw [linkLoss_eq, State.afterLinkLoss, hm]
  dsimp only
  rw [hs]
  cases s.memState a m with
  | none => rfl
  | some st => cases st <;> rfl

/-- A member's link lost: the window of an active or rebuilding member opens. -/
theorem linkLoss_memberShows {a : ArrayId} {m : Nat} (h : s.portMember p = some (a, m)) : ((s.linkLoss p).port p).drive = none ∧
    (s.linkLoss p).bit (Fld.LINK_STATUS.LINK_UP.at p.val) = false ∧
    (s.linkLoss p).portState p = (if s.memState a m = some .active ∨ s.memState a m = some .rebuilding then 7 else 2) := by
  have hd : (((s.linkDropped p).windowOpened p m).port p).drive = none := (windowOpened_drive ..).trans (linkDropped_drive s p)
  have hu : ((s.linkDropped p).windowOpened p m).bit (Fld.LINK_STATUS.LINK_UP.at p.val) = false :=
    (congrArg (decide <| · ≠ 0) (State.fld_of_regs _ _ _ (windowOpened_only _ p m .regs rfl))).trans (linkDropped_link s p).1
  rw [linkLoss_member h]
  generalize (s.linkDropped p).windowOpened p m = u at hd hu
  have hset : ∀ (v : State) (n : Nat), Kept [Fld.PORT_STATE.STATE] v (v.setPortState p n) := fun v n => Kept.setFldAt rfl Kept.refl
  split_ifs
  · exact ⟨hd, ((hset u 7).bitAt p.val (by decide)).trans hu, setPortState_state u p (by decide)⟩
  · exact ⟨(congrArg PortSt.drive (port_putPort_same ..)).trans hd, ((hset _ 2).bitAt p.val (by decide)).trans hu, setPortState_state _ p (by decide)⟩

/-! ### The end of a removal window (R295, R296) -/

/-- The window closed, and the member failed or its index absent. -/
def State.windowClosed (s : State) (p : PortId) : State :=
  let q := s.port p
  let s := s.putPort p { q with windowEnd := 0, startupWindow := false }
  match s.portMember p with
  | none => s
  | some (a, m) => if q.startupWindow = true then s.indexAbsent a m p else s.failMember a m .linkLost

theorem exec_removalTimeout (h : (s.port p).windowEnd ≠ 0) : exec (.removalTimeout p) s =
    match (s.port p).heldIdent, (s.port p).drive with
    | true, some d =>
      .next (((s.windowClosed p).putPort p { (s.windowClosed p).port p with heldIdent := false }).placeDrive p d false)
    | _, _ => .next (if (s.windowClosed p).portState p = 7 then (s.windowClosed p).setPortState p 2 else s.windowClosed p) := if_neg h

theorem windowClosed_queues (s : State) (p : PortId) :
    QueuesOnly (s.putPort p { s.port p with windowEnd := 0, startupWindow := false }) (s.windowClosed p) := by
  unfold State.windowClosed
  dsimp only
  split
  · exact .of_ports rfl
  · split
    · exact indexAbsent_queues ..
    · exact failMember_queues ..

theorem windowClosed_windowEnd (s : State) (p : PortId) : ((s.windowClosed p).port p).windowEnd = 0 :=
  ((windowClosed_queues s p).windowEnd p).trans (congrArg PortSt.windowEnd (port_putPort_same ..))

theorem removalTimeout_closes (h : (s.port p).windowEnd ≠ 0) : Does (.removalTimeout p) s fun t => (t.port p).windowEnd = 0 := by
  have hx := exec_removalTimeout h
  have hw := windowClosed_windowEnd s p
  generalize s.windowClosed p = u at hx hw
  split at hx
  · refine ⟨_, hx, placeDrive_windowEnd ?_ _ _⟩
    rw [port_putPort_same]
    exact hw
  · refine ⟨_, hx, ?_⟩
    split
    · exact hw
    · exact hw

theorem exec_removalTimeout_unheld (h : (s.port p).windowEnd ≠ 0) (hh : (s.port p).heldIdent = false) : exec (.removalTimeout p) s =
    .next (if (s.windowClosed p).portState p = 7 then (s.windowClosed p).setPortState p 2 else s.windowClosed p) := by
  rw [exec_removalTimeout h, hh]

section
variable {a : ArrayId} {m : Nat} {r : Arr} {x : Member}

theorem windowClosed_member (hp : s.portMember p = some (a, m)) : s.windowClosed p =
    if (s.port p).startupWindow = true then (s.putPort p { s.port p with windowEnd := 0, startupWindow := false }).indexAbsent a m p
    else (s.putPort p { s.port p with windowEnd := 0, startupWindow := false }).failMember a m .linkLost := by
  have hm : (s.putPort p { s.port p with windowEnd := 0, startupWindow := false }).portMember p = some (a, m) := (portMember_of_rbe rfl p).trans hp
  simp only [State.windowClosed, hm]

/-- A member that Link lost fails. -/
theorem failMember_linkLost (ha : s.arr a = some r) (hm : r.mem m = some x) (hx : x.state = .active ∨ x.state = .rebuilding) :
    ∃ q y, (s.failMember a m .linkLost).arr a = some q ∧ q.mem m = some y ∧ y.state = .failed := by
  have hup : ¬ (x.state = .failed ∨ x.state = .absent) := by rcases hx with h | h <;> simp [h]
  have he : s.failMember a m .linkLost = (s.dropMember a m .failed 1).emit .memberFailed [a.val, m, 1] := by
    simp only [State.failMember, ha, hm, hup, if_false]
    rfl
  rw [he]
  exact dropMember_state .failed 1 ha hm

theorem indexAbsent_none (ha : s.arr a = some r) (hm : r.mem m = some x) (hd : (s.port p).drive = none) :
    s.indexAbsent a m p = s.dropMember a m .absent 0 := by
  simp only [State.indexAbsent, ha, hm, hd, Option.bind_some, Option.map_some]
  rfl

theorem windowClosed_portState (s : State) (p : PortId) : (s.windowClosed p).portState p = s.portState p := by
  unfold State.windowClosed
  dsimp only
  split
  · rfl
  · split
    · exact (kept_State_indexAbsent _ _ _ p).portFld (f := Fld.PORT_STATE.STATE) p (by decide)
    · exact (kept_State_failMember _ _ _ .linkLost).portFld (f := Fld.PORT_STATE.STATE) p (by decide)

end
end

/-! ### The reset of a link and of its power (R293, R304) -/

section
variable {s : State} {p : PortId}

theorem setPwren_port (s : State) (p : PortId) (b : Bool) : (s.setPwren p b).port p = { s.port p with pwren := b } :=
  (port_of_ports rfl p).trans (port_putPort_same s p _)

/-- A port reset counted, with a step of the escalation begun (R293). -/
def State.stepBegun (s : State) (p : PortId) (step : Nat) : State :=
  ((s.incFld (Fld.RESET_COUNT.at p.val) 1).portResetCmds p none).putPort p
    { ((s.incFld (Fld.RESET_COUNT.at p.val) 1).portResetCmds p none).port p with esc := some ⟨step, none⟩ }

theorem stepBegun_esc (s : State) (p : PortId) (step : Nat) : ((s.stepBegun p step).port p).esc = some ⟨step, none⟩ := by
  unfold State.stepBegun
  rw [port_putPort_same]

theorem escalate_three_eq (s : State) (p : PortId) : s.escalate p 3 none = (s.stepBegun p 3).setPortState p 5 := rfl

theorem escalate_four_eq (s : State) (p : PortId) :
    s.escalate p 4 none = (((s.stepBegun p 4).setPwren p false).setPwren p true).setPortState p 5 := rfl

theorem escalate_three (s : State) (p : PortId) : (s.escalate p 3 none).portState p = 5 ∧ ((s.escalate p 3 none).port p).esc = some ⟨3, none⟩ := by
  rw [escalate_three_eq]
  exact ⟨setPortState_state _ p (by decide), stepBegun_esc s p 3⟩

theorem escalate_four (s : State) (p : PortId) : (s.escalate p 4 none).portState p = 5 ∧ ((s.escalate p 4 none).port p).esc = some ⟨4, none⟩ ∧
    ((s.escalate p 4 none).port p).pwren = true := by
  have hport : (((s.stepBegun p 4).setPwren p false).setPwren p true).port p = { (s.stepBegun p 4).port p with pwren := true } := by
    rw [setPwren_port, setPwren_port]
  have hesc := stepBegun_esc s p 4
  rw [escalate_four_eq]
  generalize s.stepBegun p 4 = u at hport hesc
  have h5 : ((((u.setPwren p false).setPwren p true).setPortState p 5).port p) = { u.port p with pwren := true } := (port_of_ports rfl p).trans hport
  rw [h5]
  exact ⟨setPortState_state _ p (by decide), hesc, rfl⟩

/-- What a reset asked for by PORT_CMD acts on. -/
def State.resetReady (s : State) (p : PortId) : State :=
  let s := if s.portState p = 6 ∨ s.portState p = 3 then s.forgetDrive p else s
  s.putPort p { s.port p with esc := none }

theorem cmdReset_runs (h : s.resettable p = true) (step cmd : Nat) : s.cmdReset p step cmd = (s.resetReady p).escalate p step none := if_pos h

theorem cmdReset_ignored (h : s.resettable p = false) (step cmd : Nat) : s.cmdReset p step cmd = s.portIgnored p cmd := if_neg (by simp [h])

theorem exec_portResetLink (ht : s.Takes (Fld.PORT_CMD.CMD.at p.val).addr) : exec (.portResetLink p) s = .next (s.cmdReset p 3 1) := by
  simp only [exec, execPortResetLink, command_takes _ _ _ ht]

theorem exec_portPowerCycle (ht : s.Takes (Fld.PORT_CMD.CMD.at p.val).addr) : exec (.portPowerCycle p) s = .next (s.cmdReset p 4 2) := by
  simp only [exec, execPortPowerCycle, command_takes _ _ _ ht]

/-! ### The other commands of PORT_CMD (R299, R304) -/

theorem exec_portAccept_takes {d : Drive} (ht : s.Takes (Fld.PORT_CMD.CMD.at p.val).addr) (h6 : s.portState p = 6)
    (h4 : s.fld (Fld.PORT_STATE.REJECT_REASON.at p.val) = 4) (hd : (s.port p).drive = some d) :
    exec (.portAccept p) s = .next (s.placeDrive p d true) := by
  simp only [exec, execPortAccept, command_takes _ _ _ ht, h6, h4, and_self, if_true, hd]

theorem exec_portAccept_ignored (ht : s.Takes (Fld.PORT_CMD.CMD.at p.val).addr)
    (h : s.portState p ≠ 6 ∨ s.fld (Fld.PORT_STATE.REJECT_REASON.at p.val) ≠ 4 ∨ (s.port p).drive = none) :
    exec (.portAccept p) s = .next (s.portIgnored p 3) := by
  simp only [exec, execPortAccept, command_takes _ _ _ ht]
  split
  next hc =>
    obtain ⟨h6, h4⟩ := hc
    rw [(h.resolve_left (not_not.mpr h6)).resolve_left (not_not.mpr h4)]
  next => rfl

/-- Whether the port's member is active or rebuilding, so that its drive is not released. -/
def State.memberHeld (s : State) (p : PortId) : Bool :=
  match s.portMember p with
  | some (a, m) => s.memState a m == some .active || s.memState a m == some .rebuilding
  | none => false

theorem memberHeld_eq_any (s : State) (p : PortId) : s.memberHeld p =
    (s.portMember p).any (fun x => s.memState x.1 x.2 == some .active || s.memState x.1 x.2 == some .rebuilding) := by
  unfold State.memberHeld
  cases s.portMember p <;> rfl

theorem memberHeld_of_all (h : (s.portMember p).all (fun x => s.memState x.1 x.2 != some .active && s.memState x.1 x.2 != some .rebuilding) = true) :
    s.memberHeld p = false := by
  unfold State.memberHeld
  cases hm : s.portMember p with
  | none => rfl
  | some x =>
    rw [hm] at h
    simpa [bne] using h

/-- A port without commands, its link seen down. -/
def State.portEmptied (s : State) (p : PortId) : State :=
  ((s.putPort p { s.port p with waiting := [], slots := [], esc := none }).countSlots p).linkDown p

/-- A drive flushed and shut down (R304). -/
def State.released (s : State) (p : PortId) : State := (((s.portEmptied p).forgetDrive p).setPwren p false).setPortState p 8

theorem portEmptied_port (s : State) (p : PortId) : (s.portEmptied p).port p = { s.port p with waiting := [], slots := [], esc := none } :=
  (port_of_ports rfl p).trans (port_putPort_same s p _)

theorem exec_portRelease (ht : s.Takes (Fld.PORT_CMD.CMD.at p.val).addr) : exec (.portRelease p) s =
    if (s.memberHeld p || !(s.port p).pwren) = true then .next (s.portIgnored p 4) else .next (s.released p) := by
  show execPortRelease p s = _
  unfold execPortRelease
  rw [command_takes _ _ _ ht]
  rfl

theorem released_shows (s : State) (p : PortId) : (s.released p).portState p = 8 ∧ ((s.released p).port p).pwren = false ∧
    ((s.released p).port p).drive = none ∧ ((s.released p).port p).slots = [] := by
  have hp : (((s.portEmptied p).forgetDrive p).setPwren p false).port p =
      { s.port p with waiting := [], slots := [], esc := none, drive := none, heldIdent := false, pwren := false } := by
    rw [setPwren_port, forgetDrive_port, portEmptied_port]
  unfold State.released
  generalize ((s.portEmptied p).forgetDrive p).setPwren p false = u at hp
  have h8 : (u.setPortState p 8).port p = u.port p := port_of_ports rfl p
  rw [h8, hp]
  exact ⟨setPortState_state _ p (by decide), rfl, rfl, rfl⟩

theorem powerUpPort_shows (s : State) (p : PortId) : (s.powerUpPort p).portState p = 2 ∧ ((s.powerUpPort p).port p).pwren = true := by
  refine ⟨setPortState_state _ p (by decide), (congrArg PortSt.pwren ((port_of_ports rfl p).trans (port_putPort_same (s.setPwren p true) p _))).trans ?_⟩
  exact congrArg PortSt.pwren (setPwren_port s p true)

theorem exec_portSpinupNow (ht : s.Takes (Fld.PORT_CMD.CMD.at p.val).addr) : exec (.portSpinupNow p) s =
    if s.portState p = 1 then .next (s.powerUpPort p) else .next (s.portIgnored p 5) := by
  simp only [exec, execPortSpinupNow, command_takes _ _ _ ht]

end

/-- Settles O38. -/
theorem drivePortsTakeEffect : Obligations.DrivePortsTakeEffect := by
  unfold Obligations.DrivePortsTakeEffect
  refine ⟨?trains, ?present, ?notIdentified, ?rejects, ?free, ?small, ?rejoins, ?held, ?lossFree, ?lossMember, ?noWindow, ?window, ?fails, ?absent,
    ?spinup, ?noSpinup, ?pluckTimeout, ?noPluck, ?waitRejects, ?resetLink, ?resetIgnored, ?powerCycle, ?cycleIgnored, ?accept, ?acceptIgnored,
    ?release, ?releaseIgnored, ?spinupNow, ?spinupIgnored⟩
  case trains =>
    intro s p hm hw h5
    refine ⟨_, drivePresent_trains hm hw h5, setPortState_state _ p (by decide), ?_⟩
    have hk : Kept [Fld.PORT_STATE.STATE] (s.setBit (Fld.LINK_STATUS.PRESENT.at p.val) true)
        ((s.setBit (Fld.LINK_STATUS.PRESENT.at p.val) true).setPortState p 2) := Kept.setFldAt rfl Kept.refl
    exact (hk.bitAt p.val (by decide)).trans (State.bit_setBit_same _ _ _ rfl)
  case present =>
    intro s p h
    have hk : Kept [Fld.LINK_STATUS.PRESENT] s (s.setBit (Fld.LINK_STATUS.PRESENT.at p.val) true) := Kept.setBitAt rfl Kept.refl
    exact ⟨_, drivePresent_shows h, hk.portState p (by decide), State.bit_setBit_same _ _ _ rfl⟩
  case notIdentified => exact fun s p d h => ⟨_, if_pos (by simpa using h), rfl⟩
  case rejects =>
    intro s p d hm hw h
    obtain ⟨u, hx⟩ := driveIdentified_rejects hm hw h
    refine ⟨_, hx, rejectDrive_shows u p ?_⟩
    split_ifs
    · exact reject_lt d
    · decide
  case free =>
    intro s p d hm h2 hw h0 hp
    obtain ⟨hstate, -, hdrive, hlink⟩ := driveTaken_ready (placeDrive_free ((driveShown_portMember s p d).trans hp) (knownDrive d) false)
    exact ⟨_, exec_driveIdentified_taken hm h2 hw h0, hstate, hlink, hdrive⟩
  case small =>
    intro s p d a m r x hm h2 hw h0 hp ha hx hc
    exact ⟨_, exec_driveIdentified_taken hm h2 hw h0, driveTaken_rejected
      (placeDrive_small (d := knownDrive d) ((driveShown_portMember s p d).trans hp) ((driveShown_arr s p d a).trans ha) hx hc false) (by decide)⟩
  case rejoins =>
    intro s p d a m r x hm h2 hw h0 hp ha hx hc hn hst hl
    obtain ⟨hstate, hwin, hdrive, -⟩ := driveTaken_ready (placeDrive_rejoins (d := knownDrive d) ((driveShown_portMember s p d).trans hp)
      ((driveShown_arr s p d a).trans ha) hx hc ((driveShown_newMemberDrive s p d a).trans hn) hst hl false)
    exact ⟨_, exec_driveIdentified_taken hm h2 hw h0, hstate, hwin, hdrive⟩
  case held =>
    intro s p d a m r x hm h2 hw h0 hp ha hx hc hn hst hl
    have hplaced := placeDrive_held (d := knownDrive d) ((driveShown_portMember s p d).trans hp) ((driveShown_arr s p d a).trans ha) hx hc
      ((driveShown_newMemberDrive s p d a).trans hn) hst hl false
    obtain ⟨hregs, hq⟩ := driveTaken_places s p d
    rw [hplaced] at hregs hq
    exact ⟨_, exec_driveIdentified_taken hm h2 hw h0, (portState_of_regs hregs p).trans (setPortState_state _ p (by decide)),
      (hq.heldIdent p).trans (congrArg PortSt.heldIdent (port_putPort_same ..))⟩
  case lossFree =>
    intro s p gone hp
    have hl := linkDropped_link (s.setBit (Fld.LINK_STATUS.PRESENT.at p.val) (!gone)) p
    have hd := linkDropped_drive (s.setBit (Fld.LINK_STATUS.PRESENT.at p.val) (!gone)) p
    have hx : exec (.driveLinkLoss p gone) s = .next (((s.setBit (Fld.LINK_STATUS.PRESENT.at p.val) (!gone)).linkDropped p).setPortState p 2) :=
      congrArg Host.Outcome.next (linkLoss_free ((portMember_of_rbe rfl p).trans hp))
    rw [State.bit_setBit_same _ _ _ rfl] at hl
    generalize (s.setBit (Fld.LINK_STATUS.PRESENT.at p.val) (!gone)).linkDropped p = u at hx hl hd
    have hk : Kept [Fld.PORT_STATE.STATE] u (u.setPortState p 2) := Kept.setFldAt rfl Kept.refl
    exact ⟨_, hx, setPortState_state u p (by decide), hd, (hk.bitAt p.val (by decide)).trans hl.1, (hk.bitAt p.val (by decide)).trans hl.2⟩
  case lossMember =>
    intro s p gone a m hp
    exact ⟨_, rfl, linkLoss_memberShows (s := s.setBit (Fld.LINK_STATUS.PRESENT.at p.val) (!gone)) ((portMember_of_rbe rfl p).trans hp)⟩
  case noWindow => exact fun s p h => ⟨_, if_pos h, rfl⟩
  case window => exact fun s p h => removalTimeout_closes h
  case fails =>
    intro s p a m r x hw hsw hh h7 hp ha hm hx
    have hclosed := (windowClosed_member hp).trans (if_neg (by simp [hsw]))
    refine ⟨_, (exec_removalTimeout_unheld hw hh).trans (congrArg Host.Outcome.next (if_pos ((windowClosed_portState s p).trans h7))),
      setPortState_state _ p (by decide), ?_⟩
    rw [hclosed]
    exact failMember_linkLost (s := s.putPort p { s.port p with windowEnd := 0, startupWindow := false }) ha hm hx
  case absent =>
    intro s p a m r x hw hsw hh hd hp ha hm
    have hclosed := (windowClosed_member hp).trans (if_pos hsw)
    rw [indexAbsent_none (s := s.putPort p { s.port p with windowEnd := 0, startupWindow := false }) ha hm
      ((congrArg PortSt.drive (port_putPort_same ..)).trans hd)] at hclosed
    obtain ⟨q, y, hq, hy, hst⟩ := dropMember_state (s := s.putPort p { s.port p with windowEnd := 0, startupWindow := false }) .absent 0 ha hm
    rw [← hclosed] at hq
    refine ⟨_, exec_removalTimeout_unheld hw hh, q, y, ?_, hy, hst⟩
    split
    · exact hq
    · exact hq
  case spinup => exact fun s p h1 hw => ⟨_, if_pos ⟨h1, by simp [hw]⟩, powerUpPort_shows s p⟩
  case noSpinup =>
    intro s p h
    refine ⟨_, if_neg ?_, rfl⟩
    rintro ⟨h1, hw⟩
    exact hw (h.resolve_left (not_not.mpr h1))
  case pluckTimeout =>
    intro s p h1 hw
    refine ⟨_, if_pos ⟨h1, hw⟩, ?_⟩
    exact ⟨congrArg PortSt.pluckWait (port_putPort_same ..), congrArg PortSt.delayEnd (port_putPort_same ..)⟩
  case noPluck =>
    intro s p h
    refine ⟨_, if_neg ?_, rfl⟩
    rintro ⟨h1, hw⟩
    exact Bool.false_ne_true ((h.resolve_left (not_not.mpr h1)).symm.trans hw)
  case waitRejects =>
    exact fun s p h hd hpres => ⟨_, if_pos ⟨h, by simp [hd], hpres⟩, rejectDrive_shows s p (by decide)⟩
  case resetLink =>
    exact fun s p ht h => ⟨_, (exec_portResetLink ht).trans (congrArg Host.Outcome.next (cmdReset_runs h 3 1)), escalate_three _ p⟩
  case resetIgnored =>
    exact fun s p ht h => ⟨_, (exec_portResetLink ht).trans (congrArg Host.Outcome.next (cmdReset_ignored h 3 1)), portIgnored_shows s p 1⟩
  case powerCycle =>
    exact fun s p ht h => ⟨_, (exec_portPowerCycle ht).trans (congrArg Host.Outcome.next (cmdReset_runs h 4 2)), escalate_four _ p⟩
  case cycleIgnored =>
    exact fun s p ht h => ⟨_, (exec_portPowerCycle ht).trans (congrArg Host.Outcome.next (cmdReset_ignored h 4 2)), portIgnored_shows s p 2⟩
  case accept =>
    intro s p d a m r x ht h6 h4 hd hp ha hm hx hc
    refine ⟨_, (exec_portAccept_takes ht h6 h4 hd).trans (congrArg Host.Outcome.next (placeDrive_admits hp ha hm hc hx)), ?_,
      admitReplacement_member (s := s.portReady p) ha hm⟩
    exact ((kept_State_admitReplacement _ a m p).portState p (by decide)).trans (portReady_shows s p).1
  case acceptIgnored => exact fun s p ht h => ⟨_, exec_portAccept_ignored ht h, portIgnored_shows s p 3⟩
  case release =>
    exact fun s p ht h hw => ⟨_, (exec_portRelease ht).trans (if_neg (by simp [memberHeld_of_all h, hw])), released_shows s p⟩
  case releaseIgnored =>
    intro s p ht h
    refine ⟨_, (exec_portRelease ht).trans (if_pos ?_), portIgnored_shows s p 4⟩
    rw [memberHeld_eq_any, Bool.or_eq_true, Bool.not_eq_true']
    exact h.symm
  case spinupNow => exact fun s p ht h => ⟨_, (exec_portSpinupNow ht).trans (if_pos h), powerUpPort_shows s p⟩
  case spinupIgnored => exact fun s p ht h => ⟨_, (exec_portSpinupNow ht).trans (if_neg h), portIgnored_shows s p 5⟩

end Sys2Proof.Machine

/-!
The cipher engine's messages and the marks of the nonce counters (O47).
-/
namespace Sys2Proof.Machine

/-! ### The start of a message (R265, R266) -/

/-- The lowest pipeline that is free. -/
def State.freePipe (s : State) : Option Nat := (List.range 16).find? (fun i => (tget s.cip.pipes i).isNone)

/-- A message that has not started put on a pipeline, the weights' grants following. -/
def State.pipeStarted (s : State) (i : Nat) (m : CMsg) : State :=
  (({ s with cip := { s.cip with grants := wrrGive s.classWeights s.cip.grants (s.cip.waiting.map (·.cls)) m.cls } } : State).putPipe i m).showContexts

/-- A suspended message back on a pipeline. -/
def State.pipeResumed (s : State) (i : Nat) (m : CMsg) : State :=
  ({ s with cip := { s.cip with suspended := s.cip.suspended.erase m, pipes := tput s.cip.pipes i m } } : State).showContexts

/-- A message suspended for another on its pipeline. -/
def State.pipeTaken (s : State) (i : Nat) (m v : CMsg) : State :=
  ((({ s with cip := { s.cip with suspended := s.cip.suspended ++ [v] } } : State).putPipe i m).incFld Fld.CIP_SUSPEND_COUNT 1).showContexts

section
variable {s : State} {pick : Cls} {remaining : List Nat} {m v : CMsg} {i : Nat}

theorem exec_cipherMessageStart_none (h : s.nextMessage pick = none) : exec (.cipherMessageStart pick remaining) s = .next s := by
  simp only [exec, execCipherMessageStart, h]

theorem exec_cipherMessageStart_fresh (h : s.nextMessage pick = some (m, false)) (hi : s.freePipe = some i) :
    exec (.cipherMessageStart pick remaining) s = .next (s.pipeStarted i m) := by
  unfold State.freePipe at hi
  simp only [exec, execCipherMessageStart, h, hi, Bool.false_eq_true, if_false]
  rfl

theorem exec_cipherMessageStart_resumed (h : s.nextMessage pick = some (m, true)) (hi : s.freePipe = some i) :
    exec (.cipherMessageStart pick remaining) s = .next (s.pipeResumed i m) := by
  unfold State.freePipe at hi
  simp only [exec, execCipherMessageStart, h, hi, if_true]
  rfl

theorem exec_cipherMessageStart_suspends (h : s.nextMessage pick = some (m, false)) (h0 : m.cls = 0) (hi : s.freePipe = none)
    (hl : s.cip.suspended.length < 256) (hv : s.suspendVictim remaining = some (i, v)) :
    exec (.cipherMessageStart pick remaining) s = .next (s.pipeTaken i m v) := by
  unfold State.freePipe at hi
  simp only [exec, execCipherMessageStart, h, hi, h0, hl, and_self, if_true, hv]
  rfl

theorem exec_cipherMessageStart_waits {resumed : Bool} (h : s.nextMessage pick = some (m, resumed)) (hi : s.freePipe = none)
    (hv : m.cls ≠ 0 ∨ 256 ≤ s.cip.suspended.length ∨ s.suspendVictim remaining = none) :
    exec (.cipherMessageStart pick remaining) s = .next s := by
  have hnone : (if m.cls = 0 ∧ s.cip.suspended.length < 256 then s.suspendVictim remaining else none) = none := by
    split
    next hc => exact (hv.resolve_left (not_not.mpr hc.1)).resolve_left (Nat.not_le.mpr hc.2)
    next => rfl
  unfold State.freePipe at hi
  simp only [exec, execCipherMessageStart, h, hi, hnone]

end

/-! ### What the end of a decryption leaves (R267) -/

/-- The fields that the end of a decryption touches beside the cipher engine's counts. -/
def decryptFields : List Field :=
  [Fld.ARR_REPAIR_COUNT, Fld.ARR_STATE.LOST_OVERFLOW, Fld.HFE_COLLECT_MAX.MAX_DEPTH, Fld.HFE_DWE_STATUS.ENTRIES, Fld.HFE_DWE_STATUS.OVERFLOW,
   Fld.MIRROR_BYTES, Fld.PQE_SOLVE_COUNT, Fld.PQE_SRC_BYTES, Fld.RBE_LOST_COUNT.ENTRIES, Fld.RBE_LOST_COUNT.OVERFLOW]

/-- A step of a read's end: it leaves the pipelines and the cipher engine's counts. -/
structure ReadStep (s t : State) : Prop where
  kept : Kept decryptFields s t
  pipes : t.cip.pipes = s.cip.pipes

theorem ReadStep.trans {s t u : State} (h : ReadStep s t) (k : ReadStep t u) : ReadStep s u :=
  ⟨Kept.step k.kept (by decide) h.kept, k.pipes.trans h.pipes⟩

theorem ReadStep.of_only {s t : State} {l : List Part} {fs : List Field} (h : Only l s t) (hl : l.contains .cip = false) (k : Kept fs s t)
    (hf : fs.all (fun g => decryptFields.contains g) = true) : ReadStep s t := ⟨k.mono hf, congrArg Cip.pipes (h.cip hl)⟩

section
variable (s : State)

theorem setRead_step (tag i : Nat) (v : ReadSec) : ReadStep s (s.setRead tag i v) :=
  .of_only (only_State_setRead s tag i v) rfl (kept_State_setRead s tag i v) rfl

theorem readFinish_step (tag : Nat) : ReadStep s (s.readFinish tag) :=
  .of_only (only_State_readFinish s tag) rfl (kept_State_readFinish s tag) rfl

theorem stampCmd_step (own : McOwner) (f : HostCmd → HostCmd) : ReadStep s (s.stampCmd own f) :=
  .of_only (only_State_stampCmd s own f) rfl (kept_State_stampCmd s own f) rfl

theorem fillClean_step (nsid lba : Nat) (sec : CSec) : ReadStep s (s.fillClean nsid lba sec) :=
  .of_only (only_State_fillClean s nsid lba sec) rfl (kept_State_fillClean s nsid lba sec) rfl

theorem repairWritten_step (r : Arr) (g : Geom) (pl : Place) (p : Pos) (full : Blob) (gen : Nat) (a : ArrayId) : ReadStep s
    (((s.writeSec r g pl.stripe pl.unit pl.row p full gen false false).incFld (Fld.ARR_REPAIR_COUNT.at a.val) 1).mediaErr a p.member) := by
  have hwrite : ReadStep s (s.writeSec r g pl.stripe pl.unit pl.row p full gen false false) :=
    .of_only (only_State_writeSec s r g _ _ _ p full gen false false) rfl (kept_State_writeSec s r g _ _ _ p full gen false false) rfl
  generalize s.writeSec r g pl.stripe pl.unit pl.row p full gen false false = u at hwrite
  have hcount : ReadStep u (u.incFld (Fld.ARR_REPAIR_COUNT.at a.val) 1) := ⟨Kept.incFldAt rfl Kept.refl, rfl⟩
  exact (hwrite.trans hcount).trans (.of_only (only_State_mediaErr _ a p.member) rfl (kept_State_mediaErr _ a p.member) rfl)

/-- A sector asked of the cipher engine adds to the messages that wait. -/
theorem readGot_pipes (c : HostCmd) (i lba : Nat) (x : CSec) (src : CopySrc) : (s.readGot c i lba x src).cip.pipes = s.cip.pipes := by
  unfold State.readGot
  split
  · rw [(only_State_setRead _ _ _ _).cip rfl]
    split
    · rfl
    · rw [(only_State_fillClean _ _ _ _).cip rfl]
  · rw [(only_State_setRead _ _ _ _).cip rfl]
  · split
    · rw [(only_State_setRead _ _ _ _).cip rfl]
    · rw [(only_State_setRead _ _ _ _).cip rfl]

theorem solveSector_pipes (c : HostCmd) (i lba : Nat) (a : ArrayId) (r : Arr) (g : Geom) (pl : Place) (src : CopySrc) :
    (s.solveSector c i lba a r g pl src).cip.pipes = s.cip.pipes := by
  unfold State.solveSector
  extract_lets s1 bad s2 reads us s3 s4 asked met real erased s5
  have h1 : s1.cip = s.cip := by
    unfold s1
    split
    · exact ((only_State_stampCmd _ _ _).cip rfl).trans ((only_State_resyncStripe _ _ _ _).cip rfl)
    · rfl
  have h2 : s2.cip = s.cip := ((only_State_noteLack _ _ _).cip rfl).trans h1
  split
  next fs _ =>
    have hgot : (s4.readGot c i lba (fullCsec ((fs[pl.unit]?).getD 0)) src).cip.pipes = s.cip.pipes :=
      (readGot_pipes ..).trans (congrArg Cip.pipes h2)
    dsimp only
    split
    · rw [(only_State_repairCounted _ _ _ _ _ _ _ _).cip rfl]
      exact hgot
    · exact hgot
  next =>
    rw [(only_State_setRead _ _ _ _).cip rfl]
    unfold s5
    split
    · rw [(only_State_loseCounted _ _ _ _ _ _ _ _).cip rfl, h2]
    · rw [h2]

theorem solveSector_step (c : HostCmd) (i lba : Nat) (a : ArrayId) (r : Arr) (g : Geom) (pl : Place) (src : CopySrc) :
    ReadStep s (s.solveSector c i lba a r g pl src) :=
  ⟨(kept_State_solveSector s c i lba a r g pl src).mono rfl, solveSector_pipes s c i lba a r g pl src⟩

/-- A sector that reads as not authentic (R268). -/
theorem authRead_step (tag i : Nat) : ReadStep s ((s.setRead tag i .auth).readFinish tag) := (setRead_step s tag i .auth).trans (readFinish_step _ tag)

/-- A sector that another message will settle (R216). -/
theorem otherRead_step (own : McOwner) (f : HostCmd → HostCmd) (tag i : Nat) (v : ReadSec) : ReadStep s ((s.stampCmd own f).setRead tag i v) :=
  (stampCmd_step s own f).trans (setRead_step _ tag i v)

variable {s} {key : Nat} {m : CMsg}

theorem decrypted_passed (h : gcmTagOf key m.ctx m.ctr m.nsid m.lba m.text = m.gcm) :
    ReadStep (s.incFld Fld.CIP_DEC_SECTORS 1) (s.decrypted key m) := by
  unfold State.decrypted
  extract_lets s1 s2 s3 s4 s5
  rw [if_pos h]
  have h2 : ReadStep s1 s2 := setRead_step ..
  have h3 : ReadStep s1 s3 := by
    unfold s3
    split
    · exact h2
    · exact h2.trans (fillClean_step ..)
  have h4 : ReadStep s1 s4 := by
    unfold s4
    split
    · split
      · exact h3
      · dsimp only
        split
        · exact h3
        · split
          · exact h3
          · split
            · exact h3.trans (repairWritten_step ..)
            · exact h3
    · exact h3
  exact h4.trans (readFinish_step ..)

theorem decrypted_failed (h : gcmTagOf key m.ctx m.ctr m.nsid m.lba m.text ≠ m.gcm) :
    ReadStep ((s.incFld Fld.CIP_DEC_SECTORS 1).incFld Fld.CIP_AUTH_FAIL_COUNT 1) (s.decrypted key m) := by
  unfold State.decrypted
  extract_lets s1 s2 s3 s4 s5
  rw [if_neg h]
  show ReadStep s5 _
  split
  next c a l _ _ _ =>
    split
    · exact authRead_step ..
    · extract_lets pl
      split
      · exact authRead_step ..
      next g _ =>
        extract_lets lost t
        have ht : ReadStep s5 t := solveSector_step ..
        split_ifs
        · exact otherRead_step ..
        · exact authRead_step ..
        · exact ht.trans (authRead_step ..)
        · exact ht.trans (readFinish_step ..)
  · dsimp only
    split
    · exact otherRead_step ..
    · exact authRead_step ..
  · exact authRead_step ..

end

/-! ### The end of a message (R263, R267) -/

/-- A pipeline given back. -/
def State.pipeFreed (s : State) (pipe : Nat) : State := { s with cip := { s.cip with pipes := tdel s.cip.pipes pipe } }

/-- An encrypted sector counted and placed in the write cache. -/
def State.sealedPlaced (s : State) (m : CMsg) (sec : CSec) : State :=
  (s.incFld Fld.CIP_ENC_SECTORS 1).place m.nsid m.lba sec m.cls (((s.cmd m.tag).map (·.through)).getD false) (some m.tag)

section
variable {s : State} {pipe : Fin 16} {m : CMsg} {k : DataKey}

theorem exec_cipherMessageDone_idle (hp : tget s.cip.pipes pipe.val = none) : exec (.cipherMessageDone pipe) s = .next s := by
  simp only [exec, execCipherMessageDone, hp]

theorem exec_cipherMessageDone_noKey (hp : tget s.cip.pipes pipe.val = some m) (hk : tget s.cip.keys m.nsid = none) :
    exec (.cipherMessageDone pipe) s = .next (s.pipeFreed pipe.val) := by
  simp only [exec, execCipherMessageDone, hp, hk]
  rfl

theorem exec_cipherMessageDone_seals (hp : tget s.cip.pipes pipe.val = some m) (hk : tget s.cip.keys m.nsid = some k) (he : m.enc = true) :
    exec (.cipherMessageDone pipe) s = .next ((s.pipeFreed pipe.val).sealedPlaced m (sealSector k.key m)).noteLimit := by
  simp only [exec, execCipherMessageDone, hp, hk, he, if_true]
  rfl

theorem exec_cipherMessageDone_opens (hp : tget s.cip.pipes pipe.val = some m) (hk : tget s.cip.keys m.nsid = some k) (he : m.enc = false) :
    exec (.cipherMessageDone pipe) s = .next ((s.pipeFreed pipe.val).decrypted k.key m) := by
  simp only [exec, execCipherMessageDone, hp, hk, he, Bool.false_eq_true, if_false]
  rfl

theorem pipeFreed_pipe (s : State) (pipe : Nat) : tget (s.pipeFreed pipe).cip.pipes pipe = none := tget_tdel_same ..

/-- A sector placed in the write cache is its line's content, or will be. -/
theorem place_holds (s : State) (nsid lba : Nat) (sec : CSec) (cls : Nat) (through : Bool) (owner : Option Nat) :
    ∃ l, tget (s.place nsid lba sec cls through owner).wc.lines (nsKey nsid lba) = some l ∧ (l.sec = sec ∨ l.newer = some sec) := by
  unfold State.place
  extract_lets key s1 seq l s2
  rw [(only_State_mirror _ _).wc rfl]
  exact ⟨l, tget_tput_same .., placedLine_holds ..⟩

theorem sealedPlaced_shows (s : State) (m : CMsg) (sec : CSec) : (s.sealedPlaced m sec).noteLimit.cip = s.cip ∧
    (s.sealedPlaced m sec).noteLimit.fld Fld.CIP_ENC_SECTORS = (s.fld Fld.CIP_ENC_SECTORS + 1) % 2 ^ Fld.CIP_ENC_SECTORS.width ∧
    ∃ l, tget (s.sealedPlaced m sec).noteLimit.wc.lines (nsKey m.nsid m.lba) = some l ∧ (l.sec = sec ∨ l.newer = some sec) := by
  have hcip : (s.sealedPlaced m sec).cip = s.cip := (only_State_place _ _ _ _ _ _ _).cip rfl
  have hcount : (s.sealedPlaced m sec).fld Fld.CIP_ENC_SECTORS = (s.fld Fld.CIP_ENC_SECTORS + 1) % 2 ^ Fld.CIP_ENC_SECTORS.width :=
    ((kept_State_place _ _ _ _ _ _ _).fld _ (by decide)).trans (fld_incFld_same ..)
  obtain ⟨l, hl, hsec⟩ := place_holds (s.incFld Fld.CIP_ENC_SECTORS 1) m.nsid m.lba sec m.cls (((s.cmd m.tag).map (·.through)).getD false) (some m.tag)
  have hline : tget (s.sealedPlaced m sec).wc.lines (nsKey m.nsid m.lba) = some l := hl
  generalize s.sealedPlaced m sec = u at hcip hcount hline
  obtain ⟨x, hx⟩ := noteLimit_wc u
  exact ⟨((only_State_noteLimit u).cip rfl).trans hcip, ((kept_State_noteLimit u).fld _ (by decide)).trans hcount, l, by rw [hx]; exact hline, hsec⟩

theorem cipherMessageDone_seals (hp : tget s.cip.pipes pipe.val = some m) (hk : tget s.cip.keys m.nsid = some k) (he : m.enc = true) :
    Does (.cipherMessageDone pipe) s fun t => tget t.cip.pipes pipe.val = none ∧
      t.fld Fld.CIP_ENC_SECTORS = (s.fld Fld.CIP_ENC_SECTORS + 1) % 2 ^ Fld.CIP_ENC_SECTORS.width ∧
      ∃ l, tget t.wc.lines (nsKey m.nsid m.lba) = some l ∧ (l.sec = sealSector k.key m ∨ l.newer = some (sealSector k.key m)) := by
  have hx := exec_cipherMessageDone_seals hp hk he
  obtain ⟨hcip, hcount, hline⟩ := sealedPlaced_shows (s.pipeFreed pipe.val) m (sealSector k.key m)
  refine ⟨_, hx, ?_, hcount, hline⟩
  rw [hcip]
  exact pipeFreed_pipe ..

/-- The end of a decryption: its sector is counted, and its failure where the tag differs. -/
theorem decrypted_shows (s : State) (key : Nat) (m : CMsg) : (s.decrypted key m).cip.pipes = s.cip.pipes ∧
    (s.decrypted key m).fld Fld.CIP_DEC_SECTORS = (s.fld Fld.CIP_DEC_SECTORS + 1) % 2 ^ Fld.CIP_DEC_SECTORS.width ∧
    (s.decrypted key m).fld Fld.CIP_AUTH_FAIL_COUNT =
      if gcmTagOf key m.ctx m.ctr m.nsid m.lba m.text = m.gcm then s.fld Fld.CIP_AUTH_FAIL_COUNT
      else (s.fld Fld.CIP_AUTH_FAIL_COUNT + 1) % 2 ^ Fld.CIP_AUTH_FAIL_COUNT.width := by
  have hdec := fld_incFld_same s Fld.CIP_DEC_SECTORS 1
  have hauth : (s.incFld Fld.CIP_DEC_SECTORS 1).fld Fld.CIP_AUTH_FAIL_COUNT = s.fld Fld.CIP_AUTH_FAIL_COUNT :=
    State.fld_setFld_ne _ _ _ _ (by decide)
  split
  next h =>
    obtain ⟨hk, hp⟩ := decrypted_passed (s := s) h
    exact ⟨hp, (hk.fld _ (by decide)).trans hdec, (hk.fld _ (by decide)).trans hauth⟩
  next h =>
    obtain ⟨hk, hp⟩ := decrypted_failed (s := s) h
    refine ⟨hp, (hk.fld _ (by decide)).trans ((State.fld_setFld_ne _ _ _ _ (by decide)).trans hdec), (hk.fld _ (by decide)).trans ?_⟩
    rw [fld_incFld_same, hauth]

end

/-! ### The marks of the nonce counters (R275) -/

section
variable {s : State} {nsid m : Nat}

/-- Whether the partner has a mark's item to acknowledge. -/
def State.markUnacked (s : State) (nsid m : Nat) : Bool :=
  s.capo.unacked.any (fun i => match i with
    | .nonceMark n v => n == nsid && v == m
    | _ => false)

theorem markUnacked_iff : s.markUnacked nsid m = true ↔ MirrorItem.nonceMark nsid m ∈ s.capo.unacked := by
  unfold State.markUnacked
  rw [List.any_eq_true]
  constructor
  · rintro ⟨i, hi, h⟩
    split at h
    next n v =>
      simp only [Bool.and_eq_true, beq_iff_eq] at h
      obtain ⟨rfl, rfl⟩ := h
      exact hi
    next => cases h
  · exact fun h => ⟨_, h, by simp⟩

/-- A mark that stands. -/
def State.markTaken (s : State) (nsid m : Nat) : State :=
  { s with cip := { s.cip with markOld := tput s.cip.markOld nsid (s.mark nsid), marks := tput s.cip.marks nsid m,
                               markDue := tdel s.cip.markDue nsid } }

/-- The writes that wait for a namespace's mark, in fetch order. -/
def State.markWaiters (s : State) (nsid : Nat) : List HostCmd :=
  sortOn HostCmd.order (s.hfe.cmds.filter (fun c => c.phase == .markWait && c.nsid == nsid))

theorem exec_nonceMarkAck_none (h : tget s.cip.markDue nsid = none) : exec (.nonceMarkAck nsid) s = .next s := by
  simp only [exec, execNonceMarkAck, h]

theorem exec_nonceMarkAck (h : tget s.cip.markDue nsid = some m) : exec (.nonceMarkAck nsid) s =
    if (s.mirrored && s.markUnacked nsid m) = true then .next s
    else .next ((s.markWaiters nsid).foldl (fun (st : State) c => st.encrypt c.tag) (s.markTaken nsid m)) := by
  simp only [exec, execNonceMarkAck, h]
  rfl

theorem markTaken_shows (s : State) (nsid m : Nat) : tget (s.markTaken nsid m).cip.markOld nsid = some (s.mark nsid) ∧
    (s.markTaken nsid m).mark nsid = m ∧ tget (s.markTaken nsid m).cip.markDue nsid = none := by
  refine ⟨tget_tput_same .., ?_, tget_tdel_same ..⟩
  show (tget (tput s.cip.marks nsid m) nsid).getD (2 ^ 20) = m
  rw [tget_tput_same, Option.getD_some]

theorem nonceMarkAck_stands (h : tget s.cip.markDue nsid = some m)
    (hw : s.bit Fld.WC_STATUS.MIRROR_ON = false ∨ MirrorItem.nonceMark nsid m ∉ s.capo.unacked)
    (hc : ∀ c, c ∈ s.hfe.cmds → c.phase ≠ .markWait ∨ c.nsid ≠ nsid) : exec (.nonceMarkAck nsid) s = .next (s.markTaken nsid m) := by
  have hno : ¬ (s.mirrored && s.markUnacked nsid m) = true := by
    rw [Bool.and_eq_true, markUnacked_iff]
    rintro ⟨hm, hu⟩
    exact hw.elim (fun h0 => Bool.false_ne_true (h0.symm.trans hm)) (fun h0 => h0 hu)
  have hnone : s.markWaiters nsid = [] := by
    have hf : s.hfe.cmds.filter (fun c => c.phase == .markWait && c.nsid == nsid) = [] := by
      rw [List.filter_eq_nil_iff]
      intro c hm
      simp only [Bool.and_eq_true, beq_iff_eq, not_and_or]
      exact hc c hm
    rw [State.markWaiters, hf]
    rfl
  rw [exec_nonceMarkAck h, if_neg hno, hnone]
  rfl

theorem advanceMark_keeps (s : State) (nsid : Nat) : (s.advanceMark nsid).cip.keys = s.cip.keys ∧ (s.advanceMark nsid).cip.marks = s.cip.marks := by
  unfold State.advanceMark
  split
  · exact ⟨rfl, rfl⟩
  · dsimp only
    split
    · exact ⟨rfl, rfl⟩
    · rw [(only_State_mirror _ _).cip rfl]
      exact ⟨rfl, rfl⟩

theorem atSecond_shows (k : DataKey) (n : Nat) : (k.atSecond n).ctx = k.ctx := by
  unfold DataKey.atSecond
  split_ifs <;> rfl

/-- A write that goes to the cipher engine takes its counter values, and leaves the mark. -/
theorem encrypt_counts {tag ctx : Nat} {c : HostCmd} {k : DataKey} (h : s.cmd tag = some c) (hk : tget s.cip.keys c.nsid = some k)
    (hx : k.exhausted = false) (hn : k.ctr + c.sectors ≤ nonceEnd) (hc : k.ctx = some ctx) (hm : k.ctr + c.sectors ≤ s.mark c.nsid) :
    (s.encrypt tag).cip.marks = s.cip.marks ∧
    ∃ q, tget (s.encrypt tag).cip.keys c.nsid = some q ∧ q.ctx = some ctx ∧ q.ctr = k.ctr + c.sectors := by
  have hn' : ¬ (k.exhausted = true ∨ nonceEnd < k.ctr + c.sectors) := by simp [hx, hn]
  have hm' : ¬ s.mark c.nsid < k.ctr + c.sectors := Nat.not_lt.mpr hm
  simp only [State.encrypt, h, hk, if_neg hn', hc, Option.isNone_some, Bool.false_eq_true, false_and, if_false, Option.getD_some, if_neg hm']
  rw [(advanceMark_keeps _ _).1, (advanceMark_keeps _ _).2, (only_State_nonceWarn _ _ _).cip rfl]
  exact ⟨rfl, _, tget_tput_same .., atSecond_shows _ _, rfl⟩

end

/-- Settles O47. -/
theorem cipherMessagesTakeEffect : Obligations.CipherMessagesTakeEffect := by
  unfold Obligations.CipherMessagesTakeEffect
  refine ⟨?fresh, ?suspends, ?seals, ?opens, ?ack, ?noMessage, ?resumes, ?noPipe, ?idle, ?noKey, ?authFails, ?authPasses, ?notDue, ?unacked, ?stands,
    ?goesOn⟩
  case fresh =>
    exact fun s pick remaining m i hn hi => ⟨_, exec_cipherMessageStart_fresh hn hi, tget_tput_same .., rfl⟩
  case suspends =>
    intro s pick remaining m v i hn h0 hi hl hv
    exact ⟨_, exec_cipherMessageStart_suspends hn h0 hi hl hv, tget_tput_same .., rfl,
      ((kept_State_showContexts _).fld _ (by decide)).trans (fld_incFld_same ..)⟩
  case seals => exact fun s pipe m k hp hk he => cipherMessageDone_seals hp hk he
  case opens =>
    intro s pipe m k hp hk he
    obtain ⟨hpipes, hcount, -⟩ := decrypted_shows (s.pipeFreed pipe.val) k.key m
    exact ⟨_, exec_cipherMessageDone_opens hp hk he, (congrArg (tget · pipe.val) hpipes).trans (pipeFreed_pipe ..), hcount⟩
  case ack =>
    intro s nsid m hd hm hc
    obtain ⟨hold, hmark, hdue⟩ := markTaken_shows s nsid m
    exact ⟨_, nonceMarkAck_stands hd (.inl hm) (by simp [hc]), by rw [hold, Option.getD_some], hmark, hdue⟩
  case noMessage => exact fun s pick remaining h => ⟨_, exec_cipherMessageStart_none h, rfl⟩
  case resumes =>
    exact fun s pick remaining m i hn hi => ⟨_, exec_cipherMessageStart_resumed hn hi, tget_tput_same .., rfl, rfl, State.fld_setFld_same ..⟩
  case noPipe => exact fun s pick remaining m resumed hn hi hv => ⟨_, exec_cipherMessageStart_waits hn hi hv, rfl⟩
  case idle => exact fun s pipe hp => ⟨_, exec_cipherMessageDone_idle hp, rfl⟩
  case noKey => exact fun s pipe m hp hk => ⟨_, exec_cipherMessageDone_noKey hp hk, pipeFreed_pipe .., rfl, rfl, rfl⟩
  case authFails =>
    intro s pipe m k hp hk he ht
    obtain ⟨-, -, hauth⟩ := decrypted_shows (s.pipeFreed pipe.val) k.key m
    exact ⟨_, exec_cipherMessageDone_opens hp hk he, hauth.trans (if_neg ht)⟩
  case authPasses =>
    intro s pipe m k hp hk he ht
    obtain ⟨-, -, hauth⟩ := decrypted_shows (s.pipeFreed pipe.val) k.key m
    exact ⟨_, exec_cipherMessageDone_opens hp hk he, hauth.trans (if_pos ht)⟩
  case notDue => exact fun s nsid h => ⟨_, exec_nonceMarkAck_none h, rfl⟩
  case unacked =>
    intro s nsid m hd hm hu
    refine ⟨_, (exec_nonceMarkAck hd).trans (if_pos ?_), rfl⟩
    rw [markUnacked_iff.mpr hu, Bool.and_true]
    exact hm
  case stands =>
    intro s nsid m hd hw hc
    obtain ⟨hold, hmark, hdue⟩ := markTaken_shows s nsid m
    exact ⟨_, nonceMarkAck_stands hd hw hc, hold, hmark, hdue, rfl⟩
  case goesOn =>
    intro s nsid m ctx c k hd hm hc hph hns hk hctx hx hmark hend
    subst hns
    have hcmd : (s.markTaken c.nsid m).cmd c.tag = some c := by
      show s.hfe.cmds.find? (fun d => d.tag = c.tag) = some c
      simp [hc]
    have hwait : s.markWaiters c.nsid = [c] := by
      rw [State.markWaiters, hc]
      simp [hph, sortOn, insertOn]
    have hstands := (markTaken_shows s c.nsid m).2.1
    obtain ⟨hmarks, q, hq, hqctx, hqctr⟩ := encrypt_counts hcmd hk hx hend hctx (by rw [hstands]; exact hmark)
    have hmsgs := encrypt_waiting hcmd hk hx hend hctx (by rw [hstands]; exact hmark)
    have hexec : exec (.nonceMarkAck c.nsid) s = .next ((s.markTaken c.nsid m).encrypt c.tag) := by
      rw [exec_nonceMarkAck hd, hwait, if_neg (by simp [State.mirrored, hm])]
      rfl
    refine ⟨_, hexec, ?_, ?_, q, hq, hqctx, hqctr⟩
    · rw [State.mark, hmarks]
      exact hstands
    · rw [hmsgs, List.length_append, List.length_mapIdx]
      rfl

end Sys2Proof.Machine
